-- ==== Sys2Proof/Word.lean ====
section
/-!
DEFINITION. The words of the BXE-2048: bytes, core words, accumulators, and the whole-number type that
carries samples and gains. Only the plainest facts stand here; every rounding, saturating or packing
rule of the spec is in Machine/Arith.lean, where it can be mended.
-/
namespace Sys2Proof

/-- One byte of memory. -/
abbrev Byte := BitVec 8
/-- A 32-bit word of a Prente core (03_prente_cores, Table 3.2). -/
abbrev Word := BitVec 32
/-- An 80-bit accumulator, Q18.62 (03, R104). -/
abbrev Acc := BitVec 80
/-- A signal sample, the integer read of its Q1.31 word (00_scope, R10). -/
abbrev Sample := Int
/-- A tick number (01_tick_and_last, R14). -/
abbrev Tick := Nat
/-- A 17-bit signal identifier, class * 8192 + index (02_signals_routing_mixing, R57). -/
abbrev SigId := Nat

end Sys2Proof
end

