-- ==== Sys2Proof/Syntax/Kinds.lean ====
section
/-!
DEFINITION. Kinds of operands: what a command carries beside plain numbers (a core slot's control fields, what the
hardware reports, the moments that an event names).
-/
namespace Sys2Proof

/-- What a corrector reports of one read (03_prente_cores, R122). -/
inductive Ecc where
  | clean | corrected | uncorrectable
  deriving DecidableEq, Repr
/-- What the hardware reports in a slot: of the fetch of the bundle, of the slot's first and second load, a parity
failure, a residue failure (03_prente_cores, R121 to R123). -/
structure HwFault where
  fetch : Ecc := .clean
  load : Ecc := .clean
  load2 : Ecc := .clean
  parity : Bool := false
  residue : Bool := false
  deriving DecidableEq, Repr
/-- The hardware reports nothing. -/
def HwFault.ok : HwFault := {}

/-- The control fields of a slot operation: its condition qPQ or its inverse (04, R126), the bundles without any
operation that stand before its bundle (04, Table 4.1), whether it is the last slot of its bundle, and what the
hardware reports. -/
structure SlotCtl where
  pred : Option (Bool × Fin 4)
  nops : Nat
  last : Bool
  hw : HwFault
  deriving DecidableEq, Repr

/-- Addressing of a single access through a pointer (04, Table 4.2, format L1). -/
structure L1 where
  r : Fin 32
  k : Fin 8
  m : Bool
  imm : Int
  deriving DecidableEq, Repr

/-- Condition codes of Table 4.4. -/
inductive Cond where
  | eq | ne | lt | ge | le | gt | ltu | geu
  deriving DecidableEq, Repr

/-- Flags of a CMAC operation (04, formats A6 to A9). -/
structure MacFlags where
  conj : Bool
  neg : Bool
  acc : Bool
  deriving DecidableEq, Repr

/-- How a word operation of Table 4.5 treats its result. -/
inductive Satur where
  | wrap | sat
  deriving DecidableEq, Repr

/-- What a boundary's measurement of a reference candidate reports (09, R274, R276, Table 9.10): rate in mHz, offsets
in ppt, bits 1:0 of byte 4 of the channel status that a DARS signal carries. -/
structure RefReport where
  r : Fin 15
  rate : Nat
  xref : Int
  media : Int
  quality : Option (Fin 4)
  deriving DecidableEq, Repr

/-- What the outside reports at a tick boundary: the loop filter's phase of the selected reference in ps, from its event to
an instant of the grid, or against the media clock where it defines frequency only; the frequency that the loop asks for, as N
less the nominal ratio in 2^-48 (09, R270, R275, R282); the references and measured domain frequencies in mHz; the junction temperature in 0.1 C, where the sensor gives a new
reading (18, Table 18.8); the errors corrected in reads of the array renderer in the tick that closes (06, R192); cells
that came on the welt links in that tick and are no cell of Table 8.2 as their bytes stand (08, R224). -/
structure TickReport where
  phaseErr : Int
  freq : Int
  refs : List RefReport
  clocks : List (Fin 26 × Nat)
  tj : Option Int := none
  areCecc : Nat := 0
  cells : List (Fin 2 × List (BitVec 8)) := []
  deriving DecidableEq, Repr

/-- A PTP message as the stack of the gardener hands it on: an Announce; a Sync or Follow_Up with the offset from the
grandmaster in ps and the rate in ppt that the servo's filter gives; a path delay measurement (10, R302, R305). -/
inductive PtpMsg where
  | announce (srcId srcPort gmId gmClass accuracy variance prio1 prio2 steps : Nat)
  | sync (srcId srcPort : Nat) (offset rate : Int)
  | delay (mean nrr : Int)
  deriving DecidableEq, Repr

/-- A frame received at a NET port: the bytes from the destination address up to the FCS, whether the FCS is good, the
ingress timestamp and the instant of its last byte in ns (10, R304; 11, R322); of a frame that came in fragments, their number,
and whether their reassembly failed (11, R344). -/
structure RxFrame where
  data : List Byte
  fcsOk : Bool
  stamp : Nat
  last : Nat
  frags : Nat := 0
  mmErr : Bool := false
  deriving DecidableEq, Repr

/-- What an AES3 receiver reports of a frame (13, R383, R384): valid preambles, a Z preamble, a biphase violation or a
parity error in each subframe, the channel-status bit of subframe A. -/
structure AesFrame where
  valid : Bool
  z : Bool
  bad : Bool × Bool
  c : Bool
  deriving DecidableEq, Repr

/-- A frame start at a serial audio port: its instant in ns of the time counter and the words of its SDI slots, those of
the odd port after those of the even port in a split pair (13, R369, R372, R374). -/
structure SapFrame where
  time : Nat
  words : List Int
  aes : Option AesFrame
  deriving DecidableEq, Repr

/-- A message of the management protocol as it arrives (16, R440, R448): transport 0 T1S0, 1 T1S1, 2 UDP, 3 the PCIe
mailbox; its source; the header's fields, whose OP is the command's own; body and tag. -/
structure Omp where
  transport : Fin 4
  source : Nat
  node : Fin 256 := 255
  session : Nat
  seq : Nat
  flags : Fin 256 := 2
  tick : Nat := 0
  body : List Byte
  tag : List Byte
  deriving DecidableEq, Repr

/-- A tick frame's fields (08, Table 8.3): TIME in ns; FLAGS as there, bit 0 the other link up, 1 AUTH, 2 READY,
3 PARTNER_AUTH, 4 SUSPECT, 5 LEAVE, 6 FOCUS. -/
structure TickFrame where
  tick : Nat
  time : Nat
  seq : Nat
  seat : Nat
  role : Nat
  state : Nat
  flags : Nat
  accept : Nat
  commit : Nat
  mgmtSeq : Nat
  proof : Nat
  edge : Nat
  authSince : Nat
  uid : Nat
  deriving DecidableEq, Repr

/-- A DIGEST cell's body (08, Table 8.4); digests by plot. -/
structure DigestCell where
  tick : Nat := 0
  full : Bool := false
  shared : Bool := false
  suspect : Bool := false
  mask : Nat := 0
  evid : Nat := 0
  ds : List Nat := []
  deriving DecidableEq, Repr

/-- An action that role A forwards (08, R251): the object written and the unit that its selectors named, the value, the
writer's role (0 gardener, 1 owner, 2 observer) and plot, the tick of a WRITE_AT. -/
structure FwdAction where
  idx : Nat
  sub : Nat
  unit : Nat
  bytes : List Byte
  role : Nat
  plot : Nat
  named : Bool
  deriving DecidableEq, Repr

/-- What an LFWD cell carries (08, R230, R231): an input frame of a serial audio port, a TEV timestamp, the frame-start
stamps that a tracker of role A used. -/
inductive Lfwd where
  | sap (n : Fin 128) (f : SapFrame)
  | tev (n : Fin 24) (falling : Bool) (ns : Nat)
  | stamps (n : Fin 128) (ns : List Nat)
  deriving DecidableEq, Repr

/-- What a chip tells of itself in the LINK phase of graft (08, R254): silicon stepping, ordering code, firmware build,
TICK_FAMILY, the DRAM size codes of both controllers, the LIN_MODE table. -/
structure ChipId where
  stepping : Nat
  code : Nat
  build : Nat
  family : Nat
  dram : Nat × Nat
  lin : List Nat
  deriving DecidableEq, Repr

/-- Gardener state that the CONFIG phase of graft copies (08, Table 8.8): dictionary values as index, sub-index, unit and
value; objects held whole; assignment records by plot; keys by plot; images of active lasts by plot. -/
structure GraftCopy where
  regs : List (Nat × Nat × Nat × Int)
  blobs : List (Nat × Nat × Nat × List Byte)
  holdings : List (Fin 16 × List Byte)
  offers : List (Nat × Fin 16 × Fin 16)
  accepts : List (Nat × Fin 16 × Fin 16)
  keys : List (Fin 16 × List Byte × List Byte)
  lasts : List (Fin 16 × List Byte)
  deriving DecidableEq, Repr

/-- What a bring-up phase finds (18, Table 18.3): the instant in us, straps, DRAM training, and of the root log's two
halves the slots with an uncorrectable word, whether a rewritten copy and a zeroed half read back clean (19, R516). -/
structure BringUp where
  now : Nat
  fam44 : Bool
  pairEn : Bool
  seat : Bool
  addr : Fin 256
  trained : Bool
  bad : List (Fin 2 × Nat)
  copyClean : Bool × Bool
  zeroClean : Bool × Bool
  deriving DecidableEq, Repr

end Sys2Proof
end

