-- ==== Sys2Proof/Syntax.lean ====
section
/-!
DEFINITION. The commands of the block: one constructor for each row of the table of operations and events
(spec/opcode_table.json), in the table's order, each with the operands its rule gives it.
-/
namespace Sys2Proof

/-- The commands. -/
inductive Instr where
  /-- TICK_BOUNDARY (R25). A tick boundary opens a new tick, in which ingest of block t, compute of block t-1 and egress of block t-2 run under the active last. -/
  | tickBoundary (rep : TickReport)
  /-- INGEST_READY (R22). At cycle 1,536 every block of the previous tick's ingest is in memory, and tasks that read ingest-class signals may start. -/
  | ingestReady
  /-- STAGING_DEADLINE (R23). At cycle 92,160 or 184,320, egress-feeding work must be complete; an egress buffer that is not staged is zeroed and counts as an overrun. -/
  | stagingDeadline (half : Bool) (unstaged : List SigId)
  /-- EGRESS_OPENING (R28). Egress of a block opens, at the full tick or at the half tick, and output frames and launches follow. -/
  | egressOpening (half : Bool)
  /-- TASK_START (R91). At its START cycle a task begins, with every register set to its default. -/
  | taskStart (p : Fin 16) (task : Nat)
  /-- TASK_DEADLINE_STOP (R51). A task that has not retired END by its DEADLINE cycle is stopped, and its output blocks are zeroed. -/
  | taskDeadlineStop (c : Fin 128)
  /-- COPROC_RESULT_WRITE (R108). A coprocessor result is written to its destination register at its issue cycle plus its latency, and its result-buffer entry is freed. -/
  | coprocResultWrite (c : Fin 128)
  /-- LD16 (R131). Loads a 16-bit value left-justified into a g register, with a pointer post-modify. -/
  | coreLd16 (c : Fin 128) (ctl : SlotCtl) (x : L1)
  /-- LD24 (R131). Loads bytes [3:1] of an aligned word left-justified into a g register. -/
  | coreLd24 (c : Fin 128) (ctl : SlotCtl) (x : L1)
  /-- LD32 (R131). Loads a 32-bit word into a g register. -/
  | coreLd32 (c : Fin 128) (ctl : SlotCtl) (x : L1)
  /-- LD64 (R131). Loads two words into an even/odd g register pair. -/
  | coreLd64 (c : Fin 128) (ctl : SlotCtl) (x : L1)
  /-- LD2 (R132). Performs two 8-byte loads through two pointers. -/
  | coreLd2 (c : Fin 128) (ctl : SlotCtl) (d1 : Fin 16) (k : Fin 8) (d2 : Fin 16) (j : Fin 8)
  /-- LDST (R132). Performs one 8-byte load and one 8-byte store through two pointers. -/
  | coreLdst (c : Fin 128) (ctl : SlotCtl) (d : Fin 16) (k : Fin 8) (v : Fin 16) (j : Fin 8)
  /-- LD2ST (R132). Performs two 8-byte loads and an 8-byte store through p6 or p7. -/
  | coreLd2st (c : Fin 128) (ctl : SlotCtl) (quad : Fin 8) (k : Fin 8) (j : Fin 8) (v : Fin 16) (w : Bool)
  /-- ST16 (R131). Stores a register rounded or truncated and saturated to 16 bits. -/
  | coreSt16 (c : Fin 128) (ctl : SlotCtl) (trunc : Bool) (x : L1)
  /-- ST24 (R131). Stores a register rounded or truncated and saturated into bytes [3:1] of a word. -/
  | coreSt24 (c : Fin 128) (ctl : SlotCtl) (trunc : Bool) (x : L1)
  /-- ST32 (R131). Stores a 32-bit word from a register. -/
  | coreSt32 (c : Fin 128) (ctl : SlotCtl) (x : L1)
  /-- ST64 (R131). Stores an even/odd register pair as two words. -/
  | coreSt64 (c : Fin 128) (ctl : SlotCtl) (x : L1)
  /-- SMAX (R105). A search step that keeps the signed maximum element and its index. -/
  | coreSmax (c : Fin 128) (ctl : SlotCtl) (best : Fin 32) (idx : Fin 32) (k : Fin 8) (single : Bool)
  /-- SMIN (R105). A search step that keeps the signed minimum element and its index. -/
  | coreSmin (c : Fin 128) (ctl : SlotCtl) (best : Fin 32) (idx : Fin 32) (k : Fin 8) (single : Bool)
  /-- SMAXA (R105). A search step that keeps the element of largest magnitude and its index. -/
  | coreSmaxa (c : Fin 128) (ctl : SlotCtl) (best : Fin 32) (idx : Fin 32) (k : Fin 8) (single : Bool)
  /-- SMINA (R105). A search step that keeps the element of smallest magnitude and its index. -/
  | coreSmina (c : Fin 128) (ctl : SlotCtl) (best : Fin 32) (idx : Fin 32) (k : Fin 8) (single : Bool)
  /-- PMOV (R131). Moves a g register into a pointer, or a pointer into a g register. -/
  | corePmov (c : Fin 128) (ctl : SlotCtl) (toG : Bool) (g : Fin 32) (k : Fin 8)
  /-- PADD (R131). Post-modifies a pointer by a signed byte step, with no memory access. -/
  | corePadd (c : Fin 128) (ctl : SlotCtl) (k : Fin 8) (imm : Int)
  /-- ADD (R106). Adds two words, wrapping or saturating. -/
  | coreAdd (c : Fin 128) (ctl : SlotCtl) (sat : Satur) (rd rs rt : Fin 32)
  /-- SUB (R106). Subtracts two words, wrapping or saturating. -/
  | coreSub (c : Fin 128) (ctl : SlotCtl) (sat : Satur) (rd rs rt : Fin 32)
  /-- AND (R106). Bitwise AND of two words. -/
  | coreAnd (c : Fin 128) (ctl : SlotCtl) (rd rs rt : Fin 32)
  /-- OR (R106). Bitwise OR of two words. -/
  | coreOr (c : Fin 128) (ctl : SlotCtl) (rd rs rt : Fin 32)
  /-- XOR (R106). Bitwise XOR of two words. -/
  | coreXor (c : Fin 128) (ctl : SlotCtl) (rd rs rt : Fin 32)
  /-- MIN (R106). Signed minimum of two words. -/
  | coreMin (c : Fin 128) (ctl : SlotCtl) (rd rs rt : Fin 32)
  /-- MAX (R106). Signed maximum of two words. -/
  | coreMax (c : Fin 128) (ctl : SlotCtl) (rd rs rt : Fin 32)
  /-- MULF (R106). Fractional Q1.31 multiply, rounded or truncated and saturated. -/
  | coreMulf (c : Fin 128) (ctl : SlotCtl) (trunc : Bool) (rd rs rt : Fin 32)
  /-- MULI (R106). Integer multiply that keeps the low 32 bits. -/
  | coreMuli (c : Fin 128) (ctl : SlotCtl) (rd rs rt : Fin 32)
  /-- SRAI (R106). Arithmetic right shift of a word by an immediate. -/
  | coreSrai (c : Fin 128) (ctl : SlotCtl) (rd rs : Fin 32) (n : Fin 32)
  /-- SLLI (R106). Left shift of a word by an immediate. -/
  | coreSlli (c : Fin 128) (ctl : SlotCtl) (rd rs : Fin 32) (n : Fin 32)
  /-- SRLI (R106). Logical right shift of a word by an immediate. -/
  | coreSrli (c : Fin 128) (ctl : SlotCtl) (rd rs : Fin 32) (n : Fin 32)
  /-- SRAR (R106). Rounding or truncating arithmetic right shift of a word. -/
  | coreSrar (c : Fin 128) (ctl : SlotCtl) (trunc : Bool) (rd rs : Fin 32) (n : Fin 32)
  /-- MOV (R106). Copies one g register to another. -/
  | coreMov (c : Fin 128) (ctl : SlotCtl) (rd rs : Fin 32)
  /-- NEG (R106). Negates a word, wrapping or saturating. -/
  | coreNeg (c : Fin 128) (ctl : SlotCtl) (sat : Satur) (rd rs : Fin 32)
  /-- ABS (R106). Absolute value of a word, wrapping or saturating. -/
  | coreAbs (c : Fin 128) (ctl : SlotCtl) (sat : Satur) (rd rs : Fin 32)
  /-- NOT (R106). Bitwise complement of a word. -/
  | coreNot (c : Fin 128) (ctl : SlotCtl) (rd rs : Fin 32)
  /-- CMP (R132). Compares two words by a condition code into a predicate. -/
  | coreCmp (c : Fin 128) (ctl : SlotCtl) (q : Fin 4) (cond : Cond) (rs rt : Fin 32)
  /-- MOVI (R132). Loads a sign-extended 10-bit immediate into a register. -/
  | coreMovi (c : Fin 128) (ctl : SlotCtl) (rd : Fin 32) (imm : Int)
  /-- MOVH (R132). Shifts a register left by 10 and ORs in a 10-bit immediate. -/
  | coreMovh (c : Fin 128) (ctl : SlotCtl) (rd : Fin 32) (imm : Int)
  /-- CMAC (R103). One CMAC unit performs a complex multiply-accumulate into an accumulator pair. -/
  | coreCmac (c : Fin 128) (ctl : SlotCtl) (a : Fin 4) (x y : Fin 16) (f : MacFlags)
  /-- CMAC2 (R133). Both CMAC units perform complex multiply-accumulates. -/
  | coreCmac2 (c : Fin 128) (ctl : SlotCtl) (a0 a1 : Fin 4) (x y : Fin 16) (f : MacFlags)
  /-- QMAC (R103). One CMAC unit performs a quad-real multiply-accumulate. -/
  | coreQmac (c : Fin 128) (ctl : SlotCtl) (a : Fin 4) (x y : Fin 8) (f : MacFlags)
  /-- QMAC2 (R133). Both CMAC units perform quad-real multiply-accumulates. -/
  | coreQmac2 (c : Fin 128) (ctl : SlotCtl) (a0 a1 : Fin 4) (x y : Fin 8) (f : MacFlags)
  /-- ACV (R106). Converts an accumulator to a word with a shift, rounded or truncated and saturated. -/
  | coreAcv (c : Fin 128) (ctl : SlotCtl) (trunc : Bool) (rd : Fin 32) (a : Fin 8) (n : Fin 64)
  /-- ASR (R106). Rounding or truncating right shift of an accumulator. -/
  | coreAsr (c : Fin 128) (ctl : SlotCtl) (trunc : Bool) (d a : Fin 8) (n : Fin 64)
  /-- ASL (R106). Saturating left shift of an accumulator. -/
  | coreAsl (c : Fin 128) (ctl : SlotCtl) (d a : Fin 8) (n : Fin 64)
  /-- AMOV (R106). Moves a Q1.31 word into an accumulator as Q18.62. -/
  | coreAmov (c : Fin 128) (ctl : SlotCtl) (d : Fin 8) (rs : Fin 32)
  /-- AADD (R106). Adds two accumulators, saturating at 80 bits. -/
  | coreAadd (c : Fin 128) (ctl : SlotCtl) (d a b : Fin 8)
  /-- ASUB (R106). Subtracts two accumulators, saturating at 80 bits. -/
  | coreAsub (c : Fin 128) (ctl : SlotCtl) (d a b : Fin 8)
  /-- AZERO (R106). Clears an accumulator. -/
  | coreAzero (c : Fin 128) (ctl : SlotCtl) (d : Fin 8)
  /-- ACMP (R132). Compares two accumulators as 80-bit signed values into a predicate. -/
  | coreAcmp (c : Fin 128) (ctl : SlotCtl) (q : Fin 4) (cond : Cond) (a b : Fin 8)
  /-- BR (R134). An unconditional jump, or a conditional branch predicted by its hint and resolved in M1, with speculation and squash. -/
  | coreBr (c : Fin 128) (ctl : SlotCtl) (hint : Bool) (target : Fin 8192)
  /-- CALL (R134). Writes the return address to g31 and jumps. -/
  | coreCall (c : Fin 128) (ctl : SlotCtl) (target : Fin 8192)
  /-- JR (R134). Jumps to the address held in a g register. -/
  | coreJr (c : Fin 128) (ctl : SlotCtl) (g : Fin 32)
  /-- LOOP (R135). Opens a hardware loop, whose back-edges then run at no cost. -/
  | coreLoop (c : Fin 128) (ctl : SlotCtl) (fromReg : Bool) (count : Fin 32) (len : Fin 256)
  /-- END (R117). Ends the task at retirement, cancels coprocessor work in flight and folds a proof result. -/
  | coreEnd (c : Fin 128) (ctl : SlotCtl)
  /-- TRAP (R120). Raises the TRAP exception with a code for the root log. -/
  | coreTrap (c : Fin 128) (ctl : SlotCtl) (code : Fin 256)
  /-- POP (R119). Takes the oldest inbox entry into a quad and sets a predicate. -/
  | corePop (c : Fin 128) (ctl : SlotCtl) (q : Fin 4) (quad : Fin 8)
  /-- DMAT (R119). Triggers a TRIGGERED DMA window for its booked slot. -/
  | coreDmat (c : Fin 128) (ctl : SlotCtl) (n : Fin 256)
  /-- MOVC (R90). Moves a g register to a control register, or a control register to a g register. -/
  | coreMovc (c : Fin 128) (ctl : SlotCtl) (fromCtl : Bool) (cr : Fin 64) (g : Fin 32)
  /-- DIV (R108). Issues a division on the DSQ unit. -/
  | coreDiv (c : Fin 128) (ctl : SlotCtl) (rd rs rt : Fin 32)
  /-- SQRT (R108). Issues a square root on the DSQ unit. -/
  | coreSqrt (c : Fin 128) (ctl : SlotCtl) (rd rs : Fin 32)
  /-- LOG2 (R108). Issues a base-2 logarithm on the FN unit. -/
  | coreLog2 (c : Fin 128) (ctl : SlotCtl) (rd rs : Fin 32)
  /-- EXP2 (R108). Issues a base-2 exponential on the FN unit. -/
  | coreExp2 (c : Fin 128) (ctl : SlotCtl) (rd rs : Fin 32)
  /-- MAG (R108). Issues a complex magnitude on the FN unit. -/
  | coreMag (c : Fin 128) (ctl : SlotCtl) (rd rs rt : Fin 32)
  /-- ATAN2 (R108). Issues a two-argument arctangent on the TRIG unit. -/
  | coreAtan2 (c : Fin 128) (ctl : SlotCtl) (rd rs rt : Fin 32)
  /-- CORE_SCRUB (R124). In the reserved cycles of each tick, scrub reads and repairs 1,024 words of each core's memories. -/
  | coreScrub (corrected : List (Fin 128 × Nat)) (uncorrectable : List (Fin 128 × Nat))
  /-- LAST_STAGE (R41). A BLOCK_WRITE of a last image to LAST_STAGE stages the image, or is refused with BUSY. -/
  | lastStage (p : Fin 16) (owner : Bool) (image : List Byte)
  /-- LAST_INSTALL (R50). A write of a swap tick to LAST_INSTALL starts the checks from STAGED. -/
  | lastInstall (p : Fin 16) (t : Nat)
  /-- LAST_CHECKS_COMPLETE (R42). The install checks end, either failing with a code or making the image the shadow. -/
  | lastChecksComplete (p : Fin 16)
  /-- LAST_CANCEL (R49). Cancels a staged, checking or shadow image, or answers TOO_LATE. -/
  | lastCancel (p : Fin 16)
  /-- SHADOW_COMMIT (R50). At the boundary of S minus 16, a shadow on a single chip becomes COMMITTED. -/
  | shadowCommit (p : Fin 16)
  /-- PAIR_SWAP_TIMEOUT (R48). A missing acceptance by S minus 32, or a missing commit by S minus 16, cancels a pair swap with PAIR. -/
  | pairSwapTimeout (p : Fin 16)
  /-- LAST_SWAP (R45). At the boundary that opens tick S, the plot's new last takes effect for ingest, compute and egress together. -/
  | lastSwap (p : Fin 16)
  /-- TIMED_ACTION_APPLY (R456). A pending WRITE_AT action falls due at its boundary and is applied after the last swaps, in order of acceptance. -/
  | timedActionApply
  /-- ROUTE_EDIT (R67). Checks a route batch in full and accepts or refuses it whole. -/
  | routeEdit (p : Fin 16) (batch : List Byte)
  /-- ROUTE_EDIT_AT (R68). A route batch that takes effect at a named tick. -/
  | routeEditAt (p : Fin 16) (t : Nat) (lateOk : Bool) (batch : List Byte)
  /-- ROUTE_EDIT_APPLY (R68). An accepted route batch takes effect at its boundary and starts its crossfades. -/
  | routeEditApply (p : Fin 16)
  /-- ROUTE_HELD_APPLY (R69). A held route record is applied at the first boundary after the sink's crossfade ends. -/
  | routeHeldApply (p : Fin 16)
  /-- BUS_GAIN (R76). A write of a target bus gain, which ramps from the boundary. -/
  | busGain (p : Fin 16) (b : Fin 2048) (gain : Int)
  /-- BUS_MUTE (R76). Mutes a bus or clears its mute, with a ramp. -/
  | busMute (p : Fin 16) (b : Fin 2048) (mute : Bool)
  /-- BUS_AUTO (R79). Selects the auto-scale law of a bus. -/
  | busAuto (p : Fin 16) (b : Fin 2048) (law : Nat)
  /-- XP_GAIN (R76). A write of a target mix crosspoint gain, which ramps from the boundary. -/
  | xpGain (p : Fin 16) (x : Fin 65536) (gain : Int)
  /-- XP_MUTE (R76). Mutes a mix crosspoint or clears its mute, with a ramp. -/
  | xpMute (p : Fin 16) (x : Fin 65536) (mute : Bool)
  /-- MIX_WRITE_APPLY (R77). Gain, mute and generator writes take effect at their boundary, and the ramp starts with the block computed there. -/
  | mixWriteApply
  /-- SIL_SIGNAL (R82). Assigns or changes a silence detector's signal or parameters, which restarts the detector with SILENT clear. -/
  | silSignal (p : Fin 16) (d : Fin 8192) (sig : Nat) (thresh : Int) (hold : Nat)
  /-- SILENCE_HOLD_EXPIRE (R82). A detector's count of quiet blocks reaches HOLD ticks and sets SILENT. -/
  | silenceHoldExpire (d : Fin 8192)
  /-- GEN_TYPE (R83). Enables a general generator or changes its parameters, effective at a boundary. -/
  | genType (p : Fin 16) (g : Fin 256) (ty freq : Nat) (level : Int) (seed : Nat)
  /-- TRACKER_LOCK (R88). A tracker's ratio error stays below 1 ppm for 8 rounds, and the tracker enters LOCKED with a ramp up. -/
  | trackerLock (t : Fin 256) (rate : Nat) (ppb : Int)
  /-- TRACKER_LOST (R88). No input sample arrives for 1 tick past its expected arrival, and the tracker enters LOST. -/
  | trackerLost (t : Fin 256)
  /-- TRACKER_INPUT_RETURN (R88). Input returns to a LOST tracker, which goes to LOCKED or to ACQUIRE. -/
  | trackerInputReturn (t : Fin 256) (rate : Nat) (ppb : Int)
  /-- TRACKER_RESYNC (R88). The measured ratio or the buffer deviates beyond its limit, and the tracker enters RESYNC. -/
  | trackerResync (t : Fin 256)
  /-- TRACKER_RECENTRED (R88). The buffer is re-centred, and the tracker goes from RESYNC to ACQUIRE. -/
  | trackerRecentred (t : Fin 256)
  /-- MSG_POST (R118). Posts a 16-byte message to a core's inbox. -/
  | msgPost (p : Fin 16) (c : Fin 128) (msg : List Byte)
  /-- MSG_ENTER_INBOX (R118). A posted message enters the inbox at its boundary, or is dropped if the inbox is full. -/
  | msgEnterInbox (c : Fin 128)
  /-- BANK_WRITE (R161). Writes coefficient words to the inactive FCU bank of a group. -/
  | bankWrite (p : Fin 16) (u : Fin 64) (g : Fin 16) (offset : Nat) (words : List Int)
  /-- SWAP_AT (R162). Requests an FCU bank swap at a named input sample. -/
  | swapAt (p : Fin 16) (u : Fin 64) (g : Fin 16) (sample : Nat)
  /-- FCU_SWAP_BEGIN (R163). At the named sample the group changes bank, either hard or by starting a fade. -/
  | fcuSwapBegin (u : Fin 64) (g : Fin 16)
  /-- FCU_FADE_END (R164). The last fade sample passes; pass B's state is copied to pass A and the group returns to RUNNING. -/
  | fcuFadeEnd (u : Fin 64) (g : Fin 16)
  /-- FCU_UECC (R166). An uncorrectable error or a residue failure in a group zeroes its outputs and state, with repair and a ramp up. -/
  | fcuUecc (u : Fin 64) (g : Fin 16) (addr : Nat)
  /-- FCU_SCRUB (R167). In the reserved cycles of each tick, scrub reads and repairs 512 words of each FCU. -/
  | fcuScrub (uncorrectable : List (Fin 64 × Nat))
  /-- ARE_COEF_WRITE (R184). Writes coefficients to the inactive region of a crosspoint. -/
  | areCoefWrite (p : Fin 16) (xp : Fin 32768) (offset : Nat) (coefs : List Int)
  /-- ARE_COEF_EXP (R184). Sets the exponent of a crosspoint's inactive region. -/
  | areCoefExp (p : Fin 16) (xp : Fin 32768) (e : Nat)
  /-- ARE_COEF_STORE_WRITE (R185). In each tick up to 4,096 accepted coefficients of a plot are written into the store. -/
  | areCoefStoreWrite (p : Fin 16)
  /-- ARE_IMG_STORE (R186). Stages a coefficient image in the plot's DRAM quota. -/
  | areImgStore (p : Fin 16) (image : List Byte)
  /-- ARE_IMG_LOAD (R186). Checks the staged image whole and applies it through the coefficient writer. -/
  | areImgLoad (p : Fin 16)
  /-- ARE_SWAP_AT (R187). Requests a swap of the named sets at block b. -/
  | areSwapAt (p : Fin 16) (b : Nat)
  /-- ARE_SWAP_BEGIN (R188). At sample 0 of block b, crosspoints swap hard or begin their fade. -/
  | areSwapBegin (p : Fin 16) (set : Fin 8)
  /-- ARE_FADE_END (R190). A crosspoint's fade ends; the new region becomes active, and the set returns to RUNNING when all crosspoints are done. -/
  | areFadeEnd (xp : Fin 32768)
  /-- ARE_UECC (R193). An uncorrectable coefficient error or a residue failure zeroes the crosspoint for the block, with repair and a ramp up. -/
  | areUecc (xp : Fin 32768) (residue : Option (Fin 16))
  /-- ARE_HISTORY_UECC (R194). An uncorrectable history error zeroes the word and every crosspoint reading the input for the block. -/
  | areHistoryUecc (addr : Fin 4194304)
  /-- ARE_SCRUB (R196). In the reserved cycles of each tick, scrub reads and repairs coefficient lines and history words. -/
  | areScrub (corrected : Nat) (coef : List (Fin 2 × Nat)) (hist : List Nat)
  /-- ASSIGN_GRANT (R202). Grants a batch of units to a plot whole, or refuses it. -/
  | assignGrant (p : Fin 16) (batch : List Byte)
  /-- ASSIGN_RELEASE (R202). Releases a batch of a plot's units whole, or refuses it or holds it as WAITING. -/
  | assignRelease (p : Fin 16) (batch : List Byte)
  /-- RELEASE_TAKE_EFFECT (R203). Released units move to SCRUBBING at the next tick boundary. -/
  | releaseTakeEffect (p : Fin 16)
  /-- SCRUB_COMPLETE (R206). A unit's scrub completes after its time, and the unit becomes FREE. -/
  | scrubComplete
  /-- QUOTA (R204). Sets a plot's quota under a code, which may flag the plot OVER and cancel its shadow. -/
  | quota (p : Fin 16) (code : Fin 256) (v : Nat)
  /-- TRIM (R205). At tick S+1 after a fitting swap, unused units above quota are released, highest first. -/
  | trim (p : Fin 16)
  /-- PLOT_RESET (R207). Requests a reset of a plot, with or without KEYS. -/
  | plotReset (p : Fin 16) (keys : Bool)
  /-- PLOT_RESET_AT (R207). Requests a plot reset at a named tick. -/
  | plotResetAt (p : Fin 16) (keys : Bool) (t : Nat) (lateOk : Bool)
  /-- PLOT_RESET_APPLY (R207). At its boundary a plot reset cancels images, ends the last, withdraws handoffs and scrubs the plot's units. -/
  | plotResetApply (p : Fin 16)
  /-- PLOT_RESET_COMPLETE (R207). When every unit is scrubbed, the plot returns to IDLE, or to UNCLAIMED with its keys erased. -/
  | plotResetComplete (p : Fin 16)
  /-- HO_OFFER (R209). The producer offers a handoff index to a consumer. -/
  | hoOffer (p : Fin 16) (w : Nat)
  /-- HO_ACCEPT (R209). The consumer accepts a handoff from a producer. -/
  | hoAccept (p : Fin 16) (w : Nat)
  /-- HO_WITHDRAW (R212). Withdraws a handoff authorisation, or removes the plot's own offer or acceptance. -/
  | hoWithdraw (p : Fin 16) (w : Nat)
  /-- HANDOFF_FORM (R212). A formed authorisation acts at its boundary, and the consumer's first block ramps up. -/
  | handoffForm (h : Fin 8192)
  /-- HANDOFF_WITHDRAW_APPLY (R212). At boundary W the consumer's last block ramps down, zero is read from then on, and HANDOFF is set. -/
  | handoffWithdrawApply (h : Fin 8192)
  /-- OWNER_KEY (R214). Writes a plot's owner key, closing the sessions that hold the replaced key. -/
  | ownerKey (p : Fin 16) (n : Option (Fin 64)) (key : List Byte)
  /-- OBSERVER_KEY (R214). Writes a plot's observer key, closing the sessions that hold the replaced key. -/
  | observerKey (p : Fin 16) (n : Option (Fin 64)) (key : List Byte)
  /-- PLOT_FAULT_CLEAR (R216). Clears sticky PLOT_FAULT bits. -/
  | plotFaultClear (p : Fin 16) (m : Fin 4294967296)
  /-- PAIR_WAIT_EXPIRE (R222). No tick frame arrives within PAIR_WAIT, and the chip takes role A or enters STANDBY. -/
  | pairWaitExpire
  /-- TICK (R225). A tick frame cell is received, carrying the partner's role, state, flags, swap and management state and digests. -/
  | tick (l : Fin 2) (f : TickFrame)
  /-- BEAT (R225). A beat cell is received, which keeps the link alive. -/
  | beat (l : Fin 2) (t : Nat)
  /-- DIGEST (R235). The partner's output digest cell is received. -/
  | digest (c : DigestCell)
  /-- IDIG (R232). The partner's input digests are received and compared. -/
  | idig (t : Nat) (l : List (Nat × Nat))
  /-- RCPT (R227). The partner's receipt of a packet is received. -/
  | rcpt (t : Fin 1024) (seq crc : Nat) (at_ : Option Nat)
  /-- RPAY (R227). A copy of a packet payload is received and accepted, or discarded if the chip already holds it. -/
  | rpay (t : Fin 1024) (seq index : Nat) (payload : List Byte) (at_ : Nat)
  /-- LFWD (R230). Forwarded local input samples, TEV stamps and tracker stamps are received. -/
  | lfwd (x : Lfwd)
  /-- MGMT (R251). B receives a forwarded action with its target tick and queues it. -/
  | mgmt (seq t : Nat) (a : FwdAction)
  /-- MACK (R252). A receives B's acknowledgement of a queued action. -/
  | mack (seq : Nat)
  /-- MIRROR (R256). The graft target receives a cold-copied page. -/
  | mirror (page w : Nat) (data : List Byte)
  /-- HOT (R256). The graft target receives a hot-copied page. -/
  | hot (page w : Nat) (data : List Byte)
  /-- PDIG (R256). The graft target receives page digests. -/
  | pdig (l : List (Nat × Nat × Nat))
  /-- RPAY_TIMEOUT (R227). No matching RCPT from the partner has arrived 1.0 µs after acceptance, and the payload is sent in RPAY. -/
  | rpayTimeout (t : Fin 1024) (seq now : Nat)
  /-- WELT_LINK_DOWN (R225). A welt link loses block lock, or receives no good cell for 8 µs. -/
  | weltLinkDown (l : Fin 2)
  /-- WELT_LINK_UP (R225). A welt link completes training and its latency check. -/
  | weltLinkUp (l : Fin 2) (ps : Nat)
  /-- DIGEST_COMPARE (R237). At the compare deadline both chips decide on the digests of a phase by Table 8.5. -/
  | digestCompare (full : Bool)
  /-- FOCUS_PROOF_END (R239). The focused proof of 16 ticks ends, with an outcome by its proof results. -/
  | focusProofEnd
  /-- PARTNER_AUTH_CHANGE (R246). A change of PARTNER_AUTH is evaluated against Table 8.7. -/
  | partnerAuthChange (level : Bool)
  /-- HANDOVER (R243). At instant H the chips exchange roles and the selector switches. -/
  | handover
  /-- MACK_TIMEOUT (R252). A has no MACK by T minus 4, applies the action alone and ends B's lockstep. -/
  | mackTimeout
  /-- GRAFT_START (R253). Starts a graft on the target. -/
  | graftStart
  /-- GRAFT_PHASE_COMPLETE (R253). A graft phase meets its end condition, and the next phase begins. -/
  | graftPhaseComplete (partner : ChipId) (copy : GraftCopy)
  /-- GRAFT_PHASE_TIMEOUT (R253). A graft phase exceeds its limit and the graft ends with its failure code. -/
  | graftPhaseTimeout (partner : ChipId)
  /-- GRAFT_JOIN (R259). At join tick J the target enters LOCKSTEP, releases READY and transmits. -/
  | graftJoin
  /-- GRAFT_ABORT (R258). Ends a graft with ABORTED. -/
  | graftAbort
  /-- PAIR_LEAVE (R260). Requests that the chip leave the pair at tick L. -/
  | pairLeave (t : Nat)
  /-- PAIR_LEAVE_APPLY (R260). At L the chip hands over if it holds role A, and enters STANDBY with no role. -/
  | pairLeaveApply
  /-- PAIR_TAKE (R246). Requests role A on a chip whose partner is absent, or is refused with BUSY. -/
  | pairTake
  /-- PAIR_TAKE_APPLY (R246). At its boundary the chip takes role A and enters ALONE. -/
  | pairTakeApply
  /-- PAIR_SUSPECT_CLEAR (R264). Clears SUSPECT. -/
  | pairSuspectClear
  /-- PROOF_FAIL (R264). A failed proof sets SUSPECT, is counted and logged, and may hand over or send the chip to STANDBY. -/
  | proofFail (kind : Fin 4) (unit : Fin 256)
  /-- PROOF_SET_PASS (R263). A unit's engine proof set completes its rotation. -/
  | proofSetPass
  /-- CLOCK_LOSS (R269). The supervision oscillator finds a clock domain lost and takes the action of Table 9.2. -/
  | clockLoss (d : Fin 26)
  /-- REF_FAULT (R277). A reference candidate shows a fault and becomes FAILED. -/
  | refFault (r : Fin 15) (bits : Fin 32)
  /-- REF_QUALIFIED (R278). A candidate passes its qualifying time without a fault and becomes VALID. -/
  | refQualified (r : Fin 15)
  /-- DPLL_LADDER_ADVANCE (R282). The dwell of a ladder step completes inside the lock window, and the loop moves to the next bandwidth. -/
  | dpllLadderAdvance
  /-- DPLL_LOCK (R283). After 8,000 ticks at the final step inside the window, the DPLL enters LOCKED. -/
  | dpllLock
  /-- DPLL_LOCK_LOST (R283). A phase error beyond 4 windows for 8 ticks returns the DPLL to ACQUIRE. -/
  | dpllLockLost
  /-- SLEW_COMPLETE (R284). A phase slew after a switch ends inside the lock window, and SLEWING clears. -/
  | slewComplete
  /-- HOLDOVER_DEGRADE (R289). DPLL_HO_DEGRADE seconds of holdover pass, and the own grade becomes 9. -/
  | holdoverDegrade
  /-- DPLL_STICKY_CLEAR (R288). Clears sticky DPLL bits. -/
  | dpllStickyClear (m : Fin 4294967296)
  /-- DPLL_STEER (R287). Sets the frequency of the STEER candidate. -/
  | dpllSteer (v : Int)
  /-- S_BASE (R272). Sets the S base rate, or is refused while S identifiers are live. -/
  | sBase (hz : Nat)
  /-- TIME_INCR (R293). Sets the time counter increment where the mode allows it. -/
  | timeIncr (v : Fin 18446744073709551616)
  /-- TIME_ADJ (R296). Replaces the remaining slew with a new phase amount. -/
  | timeAdj (a : Int)
  /-- TIME_STEP (R297). Commands a step of the counter by D ns. -/
  | timeStep (d : Int)
  /-- TIME_SET (R299). Sets the counter to an absolute value while no plot has an active last. -/
  | timeSet (sec : Fin 281474976710656) (ns : Nat)
  /-- COUNTER_CHANGE_APPLY (R297). At the next boundary a step applies its whole ticks and starts slewing the remainder, or a set takes effect. -/
  | counterChangeApply
  /-- PTP_ROLE (R300). Selects the PTP role, which restarts the BMCA at the next boundary. -/
  | ptpRole (v : Nat)
  /-- PTP_PROFILE (R301). Selects a PTP profile and applies its defaults. -/
  | ptpProfile (v : Nat)
  /-- PTP_MESSAGE_RX (R304). A PTP event or general message is timestamped and handled by the PTP stack. -/
  | ptpMessageRx (n : Fin 25) (m : PtpMsg)
  /-- SERVO_LOCK (R302). The filtered offset stays within ±100 ns for 16 Sync intervals, and the servo locks. -/
  | servoLock
  /-- SERVO_UNLOCK (R302). The offset lies beyond ±1 µs for 4 intervals, and the servo returns to ACQUIRING. -/
  | servoUnlock
  /-- ANNOUNCE_TIMEOUT (R302). An Announce receipt timeout sends the servo to LISTENING and sets the PTP grade to 15. -/
  | announceTimeout
  /-- TS_FIFO_READ (R308). Returns up to 16 timestamp FIFO entries and removes them. -/
  | tsFifoRead
  /-- LAUNCH (R309). A frame with a launch time reaches it and starts when gate and port allow. -/
  | launch (n : Fin 24) (now : Nat)
  /-- LAUNCH_LATE_DROP (R309). A frame that has not started by L plus LAUNCH_WINDOW is dropped. -/
  | launchLateDrop (n : Fin 24) (now : Nat)
  /-- TEV_MODE (R311). Sets a TEV pin's mode, effective at the next boundary. -/
  | tevMode (p : Fin 16) (n : Fin 24) (mode : Nat)
  /-- TEV_CAPTURE (R313). An edge on a capture pin is stamped into its FIFO. -/
  | tevCapture (n : Fin 24) (falling : Bool) (ns : Nat)
  /-- TEV_CAP_READ (R313). Returns up to 16 capture entries and removes them. -/
  | tevCapRead (n : Fin 24)
  /-- TEV_ACTION (R314). Accepts or refuses a batch of START and STOP action records. -/
  | tevAction (p : Fin 16) (n : Fin 24) (batch : List Byte)
  /-- CANCEL (R314). A TEV CANCEL record removes every pending action at acceptance. -/
  | cancel (p : Fin 16) (n : Fin 24)
  /-- TEV_ACTION_DUE (R315). A TEV action takes effect in the 1 ns step that holds its time. -/
  | tevActionDue (n : Fin 24)
  /-- TEV_PULSE_EDGE (R316). A pulse-train edge is generated at its instant. -/
  | tevPulseEdge (n : Fin 24)
  /-- NET_MODE (R320). Changes a NET port's mode by a power-down and a bring-up. -/
  | netMode (n : Fin 24) (mode : Nat)
  /-- NET_POWERDOWN_DONE (R320). A port's power-down completes, and the latest mode written is brought up. -/
  | netPowerdownDone (n : Fin 24)
  /-- NET_LINK_DOWN (R321). A port's link goes down, its queued frames are dropped and its dynamic FDB entries are removed. -/
  | netLinkDown (n : Fin 24)
  /-- NET_LINK_UP (R321). A port's link comes up. -/
  | netLinkUp (n : Fin 24) (sgmii : Nat)
  /-- FRAME_RX (R334). A frame is received, filtered, looked up, forwarded or offered to the engine port. -/
  | frameRx (n : Fin 24) (f : RxFrame)
  /-- LEARN_EVENT_APPLY (R329). A sorted learn event is applied 2 µs after its timestamp, creating or moving an entry. -/
  | learnEventApply (now : Nat)
  /-- FLAP_WINDOW_END (R330). A flap window of 1 s ends with 16 moves or fewer and MOVES resets. -/
  | flapWindowEnd (now : Nat)
  /-- FLAP_HOLD_EXPIRE (R330). BR_FLAP_HOLD passes and the pin is released. -/
  | flapHoldExpire (now : Nat)
  /-- AGE_SCAN_VISIT (R331). The aging scan visits a dynamic entry and clears HIT, sets IDLE1 or removes the entry. -/
  | ageScanVisit (mac : List Byte) (fid : Nat)
  /-- FDB_ADD (R333). Installs a batch of static FDB entries. -/
  | fdbAdd (b : List Byte)
  /-- FDB_DEL (R333). Removes a batch of FDB entries. -/
  | fdbDel (b : List Byte)
  /-- NET_FLUSH (R333). Removes every dynamic entry of a port. -/
  | netFlush (n : Fin 24)
  /-- MC_ADD (R335). Adds a batch of multicast entries. -/
  | mcAdd (b : List Byte)
  /-- MC_DEL (R335). Removes a batch of multicast entries. -/
  | mcDel (b : List Byte)
  /-- NET_QCELLS (R324). Sets the cell reservation of a port's queues, or is refused with RANGE. -/
  | netQcells (n : Fin 24) (cells : List Byte)
  /-- NET_BASE_GCL (R341). Writes a port's base gate control list. -/
  | netBaseGcl (n : Fin 24) (b : List Byte)
  /-- BASE_GCL_APPLY (R341). An accepted base list takes effect at a round boundary. -/
  | baseGclApply (n : Fin 24)
  /-- GATE_CHANGE (R339). An entry of the combined gate control list opens or closes queue gates. -/
  | gateChange (n : Fin 24) (now : Nat)
  /-- RESIDENCE_DROP (R342). A frame of queues 0 to 6 not started within BR_MAX_RESIDENCE is dropped. -/
  | residenceDrop (n : Fin 24) (now : Nat)
  /-- NET_PREEMPT (R343). Sets the preemptable queues and starts the verify exchange. -/
  | netPreempt (n : Fin 24) (v : Nat)
  /-- PREEMPT_VERIFY_DONE (R344). The verify exchange ends as ACTIVE or FAILED. -/
  | preemptVerifyDone (n : Fin 24) (ok : Bool)
  /-- PREEMPT_HOLD (R344). Hold is asserted 139 byte times before a preemptable gate closes, cutting the frame in progress. -/
  | preemptHold (n : Fin 24) (now : Nat)
  /-- SEG_SEND (R345). A segmentation descriptor is cut into segments and queued, or refused. -/
  | segSend (n : Fin 24) (q mss : Nat) (head payload : List Byte)
  /-- ESMC_TX (R346). An ESMC information PDU is sent once per second, or an event PDU on a change of QL. -/
  | esmcTx (n : Fin 24)
  /-- ESMC_TIMEOUT (R346). No ESMC PDU arrives for 5 s, and the port's QL reads QL-DNU. -/
  | esmcTimeout (n : Fin 24) (now : Nat)
  /-- RX_START (R364). Requests the start of a receive stream, with its checks at acceptance. -/
  | rxStart (p : Fin 16) (t : Fin 1024) (at_ : Option (Nat × Bool))
  /-- RX_STOP (R364). Requests the stop of a receive stream. -/
  | rxStop (p : Fin 16) (t : Fin 1024) (at_ : Option (Nat × Bool))
  /-- TX_START (R364). Requests the start of a transmit stream, with its checks at acceptance. -/
  | txStart (p : Fin 16) (t : Fin 1024) (at_ : Option (Nat × Bool))
  /-- TX_STOP (R364). Requests the stop of a transmit stream. -/
  | txStop (p : Fin 16) (t : Fin 1024) (at_ : Option (Nat × Bool))
  /-- STREAM_CMD_APPLY (R364). A stream start or stop takes effect at boundary T. -/
  | streamCmdApply (rx : Bool) (t : Fin 1024)
  /-- STREAM_STOP_COMPLETE (R364). STOPPING ends 1 tick after T; filter entries are removed and the stream is STOPPED. -/
  | streamStopComplete (rx : Bool) (t : Fin 1024)
  /-- PLAYOUT_DEADLINE (R357). At a play-out deadline missing samples are concealed and leg losses are counted. -/
  | playoutDeadline (t : Fin 1024)
  /-- NONAUDIO_HOLD_EXPIRE (R363). No detector fires for 8,000 ticks, and a pair leaves NON-AUDIO with a ramp up. -/
  | nonaudioHoldExpire (sap : Bool) (t : Fin 1024) (k : Fin 32)
  /-- SAP_START (R375). Requests the start of a SAP port, with its checks at acceptance. -/
  | sapStart (p : Fin 16) (n : Fin 128) (at_ : Option (Nat × Bool))
  /-- SAP_STOP (R375). Requests the stop of a SAP port. -/
  | sapStop (p : Fin 16) (n : Fin 128) (at_ : Option (Nat × Bool))
  /-- SAP_CMD_APPLY (R375). A SAP request acts at boundary B by the state it finds, per Table 13.5. -/
  | sapCmdApply (n : Fin 128)
  /-- SAP_FRAME (R373). A frame start on a port is stamped and checked against the grid window, a slip being concealed. -/
  | sapFrame (n : Fin 128) (f : SapFrame)
  /-- SAP_PREROLL_END (R376). The pre-roll frames end, and the port enters RUNNING at the next boundary. -/
  | sapPrerollEnd (n : Fin 128)
  /-- SAP_RAMPDOWN_END (R377). RAMPDOWN reaches g = 0, and the port enters POSTROLL. -/
  | sapRampdownEnd (n : Fin 128)
  /-- SAP_POSTROLL_END (R376). The last post-roll frame ends, the clocks go idle and the port is OFF. -/
  | sapPostrollEnd (n : Fin 128)
  /-- SAP_CLOCK_LOST (R381). No frame start arrives for 4 frame periods or 125 µs, and the clock is lost. -/
  | sapClockLost (n : Fin 128) (now : Nat)
  /-- SAP_MUTE (R378). Ramps the outputs of a port to zero, or back. -/
  | sapMute (p : Fin 16) (n : Fin 128) (mute : Bool)
  /-- SAP_EVENT_CLEAR (R382). Clears sticky SAP event bits. -/
  | sapEventClear (p : Fin 16) (n : Fin 128) (m : Fin 65536)
  /-- PSC_START (R409). Requests the start of a PSC channel, with its checks at acceptance. -/
  | pscStart (p : Fin 16) (n : Fin 64) (at_ : Option (Nat × Bool))
  /-- PSC_STOP (R409). Requests the stop of a PSC channel. -/
  | pscStop (p : Fin 16) (n : Fin 64) (at_ : Option (Nat × Bool))
  /-- PSC_BOUNDARY (R411). At each boundary trips, transitions, commands and sleep and wake conditions are applied in order. -/
  | pscBoundary (temps : List (Fin 16 × Option Nat))
  /-- PSC_LOOP_UPDATE (R397). Each loop period computes the duty, the limiters and the current limit. -/
  | pscLoopUpdate (n : Fin 64) (v i v1 i1 : Fin 256)
  /-- PSC_CARRIER_STOP (R410). At the end of the first carrier period after Gs reaches 0, the gates go low and the channel is OFF or DORMANT. -/
  | pscCarrierStop (n : Fin 64)
  /-- PSC_SENSE_LOSS (R405). A sense bitstream makes no transition for 64 sense clocks and trips the channel with SENSE. -/
  | pscSenseLoss (n : Fin 64)
  /-- PSC_AUTO_RESTART (R406). PSC_OC_RESTART passes after an OC trip, and the start sequence runs. -/
  | pscAutoRestart (n : Fin 64)
  /-- PSC_FAULT_CLEAR (R406). Clears a latched fault, taking the channel to OFF at the next boundary. -/
  | pscFaultClear (p : Fin 16) (n : Fin 64)
  /-- PSC_LOOP_COEF (R398). Writes the inactive loop coefficient set. -/
  | pscLoopCoef (p : Fin 16) (n : Fin 64) (words : List Int)
  /-- PSC_LOOP_SWAP_AT (R398). Requests that the inactive coefficient set become active at a tick. -/
  | pscLoopSwapAt (p : Fin 16) (n : Fin 64) (t : Nat)
  /-- LOOP_SWAP_APPLY (R398). The coefficient set swaps at the first loop period of its tick. -/
  | loopSwapApply (n : Fin 64)
  /-- PSC_Z_WINDOW_END (R408). A pilot demodulation window ends and the impedance is reported and checked. -/
  | pscZWindowEnd (n : Fin 64)
  /-- PSC_EVENT_CLEAR (R419). Clears sticky PSC event bits. -/
  | pscEventClear (p : Fin 16) (n : Fin 64) (m : Fin 65536)
  /-- DMA_WINDOW_RUN (R426). A DMA window occurrence moves its bytes in its booked slots. -/
  | dmaWindowRun (p : Fin 16) (win : Fin 256) (failed : List Nat) (parity : Bool)
  /-- TRELLIS_RESPONSE (R433). A trellis request completes within 64 cycles with OKAY, DECERR or SLVERR. -/
  | trellisResponse (m : Fin 28) (addr : Fin 1099511627776) (data : List Byte) (cause : Option (Fin 4))
  /-- MEM_UECC (R436). An uncorrectable word is rewritten and handled by where it lies. -/
  | memUecc (sel : Fin 6) (addr : Fin 1099511627776) (win : Option (Fin 16 × Fin 256)) (bus : Option (Fin 2048)) (port : Option (Fin 24))
  /-- MEM_SCRUB (R435). Patrol scrub of bed, mix, frame, gardener and DRAM memory runs each tick. -/
  | memScrub (corrected : List (Fin 6))
  /-- DRAM_DERATE (R438). Once per round MR4 is read and refresh is derated, with DRAM_HOT set if needed. -/
  | dramDerate (ctl : Fin 2) (multiple : Nat) (hot : Bool) (mr4 : Nat)
  /-- LOGIN (R451). The first exchange of a login, which issues a session and a challenge. -/
  | login (m : Omp) (number : Fin 4294967296) (challenge : List Byte)
  /-- LOGIN_PROOF (R451). The second exchange of a login, which checks the proof and derives the session key. -/
  | loginProof (m : Omp)
  /-- LOGIN_LAPSE (R451). An unanswered first login step lapses after 5 s. -/
  | loginLapse (n : Fin 64)
  /-- LOGOUT (R452). Closes a session. -/
  | logout (m : Omp)
  /-- READ (R450). Reads 1 to 64 objects with per-item status. -/
  | read (m : Omp)
  /-- WRITE (R454). Writes 1 to 64 objects in order, each checked with its own status. -/
  | write (m : Omp)
  /-- WRITE_AT (R455). Writes timed objects for application at a named tick. -/
  | writeAt (m : Omp)
  /-- BLOCK_READ (R457). Reads a BLOB in segments from a snapshot. -/
  | blockRead (m : Omp) (bad : Option (Fin 2 × Nat))
  /-- BLOCK_WRITE (R457). Writes a BLOB segment, the write being accepted when complete with a matching CRC. -/
  | blockWrite (m : Omp)
  /-- BLOCK_TRANSFER_ABORT (R457). A block transfer that receives no segment for 2 s is discarded with ABORTED. -/
  | blockTransferAbort (n : Fin 64) (k : Fin 4)
  /-- BLOCK_SNAPSHOT_EXPIRE (R457). A BLOCK_READ snapshot lapses after 2 s without a read. -/
  | blockSnapshotExpire (n : Fin 64)
  /-- HEARTBEAT (R459). Keeps a session alive and returns the time counter and tick. -/
  | heartbeat (m : Omp)
  /-- CLAIM_TAKE (R453). Makes the session the only writer for its role and plot. -/
  | claimTake (m : Omp)
  /-- CLAIM_RELEASE (R453). Releases the session's claim. -/
  | claimRelease (m : Omp)
  /-- SESSION_TIMEOUT (R452). A session with no correctly tagged request for SESSION_TIMEOUT closes. -/
  | sessionTimeout (n : Fin 64)
  /-- LOCKOUT_END (R452). A source's 60 s login lockout ends. -/
  | lockoutEnd (transport : Fin 4) (source : Nat)
  /-- GARDENER_KEY (R451). Writes the gardener role's key and closes every other gardener-role session. -/
  | gardenerKey (n : Option (Fin 64)) (key : List Byte)
  /-- ADDR_ANNOUNCE (R445). An address announcement is received and noted, or resolves a conflict of addresses. -/
  | addrAnnounce (a : Fin 256) (uid : Nat)
  /-- CHAIN_ADDRESS_TAKE (R444). 50 ms after CHAIN_IN is high, the chip takes the highest address heard plus 1. -/
  | chainAddressTake (now : Nat)
  /-- ADDR_ANNOUNCE_TX (R444). An announcement is sent, three times 10 ms apart, after which CHAIN_OUT rises. -/
  | addrAnnounceTx (now : Nat)
  /-- ADDR_RESTART (R445). Makes every chip in chain mode forget its address and rerun the chain procedure. -/
  | addrRestart
  /-- T1S_ACCESS (R442). Selects CSMA/CD or PLCA on the field bus. -/
  | t1sAccess (v : Nat)
  /-- BAR0_ACCESS (R463). An 8-byte BAR0 read or write acts as a dictionary read or single-item WRITE with the bound session's rights. -/
  | bar0Access (off : Fin 4194304) (w : Option (List Byte))
  /-- BAR0_BIND (R464). Binds a session to BAR0 with its tag. -/
  | bar0Bind (session : Nat) (tag : List Byte)
  /-- MBOX_OPEN (R465). Opens or closes the PCIe mailbox rings. -/
  | mboxOpen (inBase outBase pages : Nat) (up : Bool)
  /-- RING_OPEN (R465). Opens a page ring in host memory for the session's plot. -/
  | ringOpen (n : Fin 64) (r : Fin 64) (rec : List Byte)
  /-- RING_CLOSE (R471). Closes a ring, abandoning any page in flight. -/
  | ringClose (n : Fin 64) (r : Fin 64)
  /-- RING_INDEX_WRITE (R465). The host writes a ring's producer or consumer index or clears its status bits. -/
  | ringIndexWrite (r : Fin 64) (off v : Nat)
  /-- PAGE_WRITE (R467). The page writer writes a due page and its seal, advances PROD and raises the vector. -/
  | pageWrite (r : Fin 64)
  /-- PAGE_ABANDON (R469). No posted credit for 100 µs abandons the page unsealed. -/
  | pageAbandon (r : Fin 64)
  /-- PCIE_LINK_LOSS (R462). The PCIe link is lost, closing PCIe sessions and abandoning pages in flight. -/
  | pcieLinkLoss
  /-- METER_PERIOD_END (R481). A metering period ends, and peak, RMS and clip values are published. -/
  | meterPeriodEnd (p : Fin 16)
  /-- MTR_SET (R482). Writes a plot's meter set, checked at acceptance. -/
  | mtrSet (p : Fin 16) (recs : List Byte)
  /-- MTR_PERIOD (R482). Writes a plot's metering period. -/
  | mtrPeriod (p : Fin 16) (v : Nat)
  /-- METER_SET_APPLY (R482). A meter set or period takes effect at a period boundary, or is refused on re-check. -/
  | meterSetApply (p : Fin 16)
  /-- POWER_ON_RESET (R484). VKEEP is first applied or falls below its fail threshold. -/
  | powerOnReset
  /-- RESET_PIN (R486). RESET_N is held low by another device, causing a cold reset. -/
  | resetPin
  /-- TJ_OVERTEMP (R484). Junction temperature above 125 °C causes a held cold reset. -/
  | tjOvertemp (tenths : Int)
  /-- RST_CMD_COLD (R485). Commands a cold reset. -/
  | rstCmdCold
  /-- RST_CMD_WARM (R485). Commands a warm reset. -/
  | rstCmdWarm
  /-- RST_CMD_GARDENER (R485). Commands a gardener reset. -/
  | rstCmdGardener
  /-- RST_CMD_PORT (R485). Commands a reset of one NET, T1S or WELT port. -/
  | rstCmdPort (port : Fin 28)
  /-- RESET_CMD_APPLY (R485). A commanded reset takes effect at its boundary after the response is sent. -/
  | resetCmdApply
  /-- RESET_ENTER (R487). A reset begins, supersedes or is absorbed, releasing AUTH and READY first. -/
  | resetEnter
  /-- WATCHDOG_EXPIRE (R484). No firmware heartbeat for 1 s causes a gardener reset. -/
  | watchdogExpire (now : Nat)
  /-- STRETCH_END (R486). The reset stretch ends after its last source clears. -/
  | stretchEnd (port : Option (Fin 28))
  /-- BRINGUP_PHASE_DONE (R491). A bring-up phase meets its end condition and the next begins. -/
  | bringupPhaseDone (rep : BringUp)
  /-- FIRMWARE_READY (R489). The firmware reports ready, and a warm reset restores the data plane. -/
  | firmwareReady (now : Nat)
  /-- FW_READY_TIMEOUT (R490). An image not ready within 2 s is replaced by booting the other slot. -/
  | fwReadyTimeout (now : Nat)
  /-- FW_STAGE (R490). Writes a firmware image to the inactive slot and checks it. -/
  | fwStage (len : Nat) (ok : Bool) (build : Nat)
  /-- FW_SWITCH (R490). Starts a gardener reset that boots the inactive slot. -/
  | fwSwitch
  /-- OPT_BLOCK (R493). Writes the option block to the copy not selected. -/
  | optBlock (b : List Byte)
  /-- RAIL_CROSSING (R494). A rail crosses a caution, brace or fail threshold, with the action of that threshold. -/
  | railCrossing (r : Fin 8) (th : Fin 5) (now : Nat)
  /-- RAIL_CLEAR (R494). A rail stays on the good side for 1 ms, and its crossing clears. -/
  | railClear (r : Fin 8) (th : Fin 5) (now : Nat)
  /-- FLASH_HOLD_END (R495). No caution for 1 s and brace NORMAL end the flash hold, and queued writes proceed. -/
  | flashHoldEnd (now : Nat)
  /-- PWR_MAIN_OK_CHANGE (R498). A filtered change of PWR_MAIN_OK, a fall being a brace event. -/
  | pwrMainOkChange (level : Bool) (now : Nat)
  /-- PWR_BATT_ON_CHANGE (R498). A filtered change of PWR_BATT_ON, which can end the brace sequence. -/
  | pwrBattOnChange (level : Bool) (now : Nat)
  /-- BRACE_POLICY_APPLY (R498). At the first boundary after the marker, battery policy is applied and PWR_SHED_N goes low. -/
  | bracePolicyApply
  /-- BATT_MISSING (R498). PWR_BATT_ON is not high 1 s after the brace event. -/
  | battMissing (now : Nat)
  /-- UNBRACE (R499). 250 ms of return conditions pass, and UNBRACING begins. -/
  | unbrace (now : Nat)
  /-- UNBRACE_COMPLETE (R499). Every brace gain reaches 0 dB and the state is NORMAL. -/
  | unbraceComplete (now : Nat)
  /-- LOG_QUEUE_DRAIN (R505). A queued root-log entry is written to the log with its SEQ. -/
  | logQueueDrain (bad0 bad1 : Bool)
  /-- LOG_DROPPED (R506). At a boundary after drops, a LOG_DROPPED entry with the count is written. -/
  | logDropped (p : Fin 17)
  /-- LOG_SCRUB (R511). Every 64 µs the keep domain scrubs one log word. -/
  | logScrub (uncorrectable : Bool)
  /-- LOG_FREEZE (R512). A write of 1 freezes the log's history. -/
  | logFreeze
  /-- LOG_UNFREEZE (R513). A write of 0 ends a freeze. -/
  | logUnfreeze
  /-- FAULT_FRAME_START (R520). A FAULT_N frame starts, signalling the code then due. -/
  | faultFrameStart (now : Nat)
  /-- FAULT_CLEAR (R521). Acknowledges present FAULT_N codes. -/
  | faultClear (m : Fin 65536)
  /-- REGISTER_WRITE (R475). A write of an object with no behaviour of its own takes effect as its chapter states. -/
  | registerWrite (owner : Fin 17) (idx sub unit : Nat) (v : List Byte)
  /-- REF_FAULT_END (R278). The last fault condition of a FAILED reference candidate ends, and the candidate enters QUALIFYING with its qualifying timer started. -/
  | refFaultEnd (r : Fin 15)
  /-- JUNCTION_CAUTION (R494). The junction temperature crosses above, or clears back below, the maximum of the ordering code, setting or clearing the junction caution and the flash hold. -/
  | junctionCaution (above : Bool) (tenths : Int) (now : Nat)
  /-- RESET_SOURCE_CLEAR (R486). A held reset source clears (RESET_N released by another device, XREF present for 10 ms, or junction below 115 °C), which starts the reset stretch. -/
  | resetSourceClear (src : Fin 13)
  /-- CHAIN_IN_HIGH (R444). CHAIN_IN is seen high, which starts the 50 ms wait before the chip takes its chain address. -/
  | chainInHigh (now : Nat)
  /-- PTP_MESSAGE_TX (R303). At the interval of its profile, the PTP unit sends Sync, Announce, Delay_Req or Pdelay messages on its ports, with the dataset fields of its state. -/
  | ptpMessageTx (n : Fin 25) (ty : Fin 16)
  deriving DecidableEq, Repr

end Sys2Proof
end

