-- ==== Sys2Proof/Decode.lean ====
section
/-!
DEFINITION. Commands from words. The table of operations and events gives no row any bits: a command is not an encoded
word here, so no word spells one. (A core's bundles are encoded, 04; the model takes their slots as commands.)
-/
namespace Sys2Proof

/-- The command that a word of nbits bits spells by the table's bits: none, as no row of the table gives bits. -/
def decodeTableWord (_nbits _w : Nat) : Option Instr := none

end Sys2Proof
end

