-- ==== Sys2Proof/Machine/Arith.lean ====
section
/-!
DEFINITION. The roundings, saturations and wrappings of the spec (00_scope, R10; 03, R106; R545, R546), each
written once over exact integers.
-/
namespace Sys2Proof.Machine

/-- Saturate to a signed width (00, R10). -/
def sat (w : Nat) (x : Int) : Int :=
  if x < -(2 ^ (w - 1) : Int) then -(2 ^ (w - 1) : Int)
  else if x > (2 ^ (w - 1) : Int) - 1 then (2 ^ (w - 1) : Int) - 1 else x
/-- Does a value fall outside a signed width. -/
def overflows (w : Nat) (x : Int) : Bool := sat w x != x
/-- Right shift, rounded: half an LSB is added before the floor; a shift of 0 adds nothing (00, R10). -/
def roundShift (x : Int) (n : Nat) : Int := if n = 0 then x else (x + 2 ^ (n - 1)) / 2 ^ n
/-- Right shift, truncated: the floor alone (00, R10). -/
def truncShift (x : Int) (n : Nat) : Int := x / 2 ^ n
/-- Rounded or truncated right shift by a flag. -/
def shiftBy (trunc : Bool) (x : Int) (n : Nat) : Int := if trunc then truncShift x n else roundShift x n
/-- Two's complement wrap to a signed width. -/
def wrapS (w : Nat) (x : Int) : Int :=
  let m := x % 2 ^ w
  if m ≥ 2 ^ (w - 1) then m - 2 ^ w else m
/-- Wrap to an unsigned width. -/
def wrapU (w : Nat) (x : Int) : Int := x % 2 ^ w

/-- 1.0 in Q2.30 (R545). -/
def q30 : Int := 1073741824
/-- The nearest multiple of 2^-30 to a / b, ties towards +infinity (R545). -/
def weight (a b : Nat) : Int := if b = 0 then q30 else (2 * (a : Int) * q30 + b) / (2 * b)
/-- A Q2.30 weight on a sample: exact product, rounded by a shift of 30, saturated to 32 bits (R546). -/
def applyWeight (w : Int) (x : Sample) : Sample := sat 32 (roundShift (w * x) 30)
/-- Ramp a block up: sample i of N by (i + 1) / N (R546, R53). -/
def rampUp (b : List Sample) : List Sample :=
  b.mapIdx fun i x => applyWeight (weight (i + 1) b.length) x
/-- Samples i and on of a block of n that ramps down: 1 - (i + 1)/n (01, R53, R546). -/
def rampTail (i n : Nat) (b : List Sample) : List Sample :=
  b.mapIdx fun j x => applyWeight (weight (n - (i + j + 1)) n) x
/-- Ramp a block down: sample i of N by 1 - (i + 1) / N (R546, R47). -/
def rampDown (b : List Sample) : List Sample :=
  b.mapIdx fun i x => applyWeight (weight (b.length - (i + 1)) b.length) x
/-- A block of zeros of the same length. -/
def silence (b : List Sample) : List Sample := b.map fun _ => 0

/-- A counter of 32 bits: it wraps at its width (11, Table 11.7; DEDUCED for the others, log entry 8). -/
def bump32 (n : Int) : Int := (n + 1) % 4294967296
/-- A counter of 64 bits. -/
def bump64 (n : Int) : Int := (n + 1) % 18446744073709551616

/-- Bit of a whole number. -/
def bit (x : Int) (i : Nat) : Bool := (x / 2 ^ i) % 2 = 1
/-- Set a bit of a whole number. -/
def setBit (x : Int) (i : Nat) : Int := if bit x i then x else x + 2 ^ i
/-- Clear a bit of a whole number. -/
def clearBit (x : Int) (i : Nat) : Int := if bit x i then x - 2 ^ i else x
/-- Bits [hi:lo] of a whole number. -/
def field (x : Int) (hi lo : Nat) : Nat := ((x / 2 ^ lo) % 2 ^ (hi + 1 - lo)).toNat
/-- Bitwise AND of the low w bits. -/
def maskBits (w : Nat) (x y : Int) : Int := ((x % 2 ^ w).toNat &&& (y % 2 ^ w).toNat : Nat)
/-- Clear the bits of a mask, over w bits. -/
def clearMask (w : Nat) (x y : Int) : Int := (x % 2 ^ w) - maskBits w x y

/-- Exact integer square root, floor. -/
def isqrt (n : Nat) : Nat := Nat.sqrt n
/-- Square root rounded to nearest. -/
def isqrtRound (n : Nat) : Nat := let r := Nat.sqrt n; if n > r * r + r then r + 1 else r
/-- Division rounded to nearest, ties towards +infinity. -/
def divRound (a : Int) (b : Int) : Int := if b = 0 then 0 else (2 * a + b) / (2 * b)

/-- Fraction bits of the series below. -/
def fixBits : Nat := 160
/-- pi in units of 2^-160. -/
def piFix : Int := 4591442807048218921384805199743311128454155024418
/-- ln 10 in units of 2^-160. -/
def ln10Fix : Int := 3365231883504527125129111981421568120141379515367
/-- Terms of the sine series: term, square of the angle, next odd factor. -/
def sinTerms : Nat → Int → Int → Int → Int
  | 0, _, _, _ => 0
  | k + 1, t, x2, n => t + sinTerms k (-(t * x2 / 2 ^ 160) / ((n + 1) * (n + 2))) x2 (n + 2)
/-- Nearest multiple of 2^-30 to sin(pi a / 2b) (R545). -/
def sinQ30 (a b : Nat) : Int :=
  let x := piFix * a / (2 * b)
  roundShift (sinTerms 40 x (x * x / 2 ^ 160) 1) 130
/-- Nearest multiple of 2^-30 to cos(pi a / 2b), which is the sine of the complement (R545). -/
def cosQ30 (a b : Nat) : Int := sinQ30 (b - a) b
/-- Terms of the exponential series. -/
def expTerms : Nat → Int → Int → Int → Int
  | 0, _, _, _ => 0
  | k + 1, t, x, n => t + expTerms k (t * x / 2 ^ 160 / n) x (n + 1)
/-- Square a 2^-160 value k times. -/
def squareTimes : Nat → Int → Int
  | 0, v => v
  | k + 1, v => squareTimes k (v * v / 2 ^ 160)
/-- 10^(a / b) in units of 2^-160, for |a / b| up to 16: the argument is halved six times. -/
def pow10Fix (a : Int) (b : Nat) : Int :=
  squareTimes 6 (expTerms 60 (2 ^ 160) (ln10Fix * a / (64 * b)) 1)
/-- round(2^31 * 10^(x / 2000)), the amplitude of a level in 0.01 dB (02, R81). -/
def levelAmp (x : Int) : Int := roundShift (pow10Fix x 2000) 129

/-- Sum of a list. -/
def sumI (l : List Int) : Int := l.foldl (· + ·) 0
/-- Element or a default. -/
def nthD {α : Type} (l : List α) (i : Nat) (d : α) : α := l.getD i d

end Sys2Proof.Machine
end

