-- ==== Sys2Proof/Machine/Bytes.lean ====
section
/-!
DEFINITION. Bytes of the spec's images and messages: little-endian fields (01, R37), CRC-32 of IEEE 802.3
(01, R38), SHA-256 of FIPS 180-4 (01, R38) and HMAC-SHA-256 (16, R449, R451).
-/
namespace Sys2Proof.Machine

/-- Little-endian read of n bytes at an offset; a byte beyond the end reads 0 (01, R42). -/
def leAt (b : List Byte) (off n : Nat) : Nat :=
  ((b.drop off).take n).foldr (fun x acc => x.toNat + 256 * acc) 0
/-- Little-endian bytes of a number. -/
def leBytes : Nat → Nat → List Byte
  | 0, _ => []
  | n + 1, x => BitVec.ofNat 8 x :: leBytes n (x / 256)
/-- Signed little-endian read. -/
def leAtS (b : List Byte) (off n : Nat) : Int := wrapS (8 * n) (leAt b off n)
/-- Little-endian bytes of an integer in two's complement. -/
def leBytesI (n : Nat) (x : Int) : List Byte := leBytes n (x % 2 ^ (8 * n)).toNat
/-- A slice of bytes. -/
def slice (b : List Byte) (off n : Nat) : List Byte := (b.drop off).take n
/-- All bytes zero. -/
def zeros (b : List Byte) : Bool := b.all (fun x => x == 0)
/-- Cut bytes into records of n; a tail shorter than n is dropped. -/
def recordsFuel : Nat → Nat → List Byte → List (List Byte)
  | 0, _, _ => []
  | k + 1, n, b => if b.length < n ∨ n = 0 then [] else b.take n :: recordsFuel k n (b.drop n)
/-- Cut bytes into records of n. -/
def records (n : Nat) (b : List Byte) : List (List Byte) := recordsFuel b.length n b

/-- One step of CRC-32, one bit (01, R38). -/
def crcBit : Nat → Nat → Nat
  | 0, c => c
  | k + 1, c => crcBit k (if c % 2 = 1 then (c / 2) ^^^ 0xEDB88320 else c / 2)
/-- CRC-32 of IEEE 802.3: reflected, initial and final all ones (01, R38). -/
def crc32 (b : List Byte) : Nat :=
  (b.foldl (fun c x => crcBit 8 (c ^^^ x.toNat)) 0xFFFFFFFF) ^^^ 0xFFFFFFFF

/-- One bit of CRC-64 with the polynomial of ECMA-182, reflected (08, R233). -/
def crc64Bit : Nat → Nat → Nat
  | 0, c => c
  | k + 1, c => crc64Bit k (if c % 2 = 1 then (c / 2) ^^^ 0xC96C5795D7870F42 else c / 2)
/-- CRC-64 of R233: reflected, initial and final all ones. -/
def crc64 (b : List Byte) : Nat :=
  (b.foldl (fun c x => crc64Bit 8 (c ^^^ x.toNat)) 0xFFFFFFFFFFFFFFFF) ^^^ 0xFFFFFFFFFFFFFFFF

/-- The round constants of SHA-256. -/
def shaK : List Word := [
  0x428a2f98#32, 0x71374491#32, 0xb5c0fbcf#32, 0xe9b5dba5#32, 0x3956c25b#32, 0x59f111f1#32, 0x923f82a4#32,
  0xab1c5ed5#32, 0xd807aa98#32, 0x12835b01#32, 0x243185be#32, 0x550c7dc3#32, 0x72be5d74#32, 0x80deb1fe#32,
  0x9bdc06a7#32, 0xc19bf174#32, 0xe49b69c1#32, 0xefbe4786#32, 0x0fc19dc6#32, 0x240ca1cc#32, 0x2de92c6f#32,
  0x4a7484aa#32, 0x5cb0a9dc#32, 0x76f988da#32, 0x983e5152#32, 0xa831c66d#32, 0xb00327c8#32, 0xbf597fc7#32,
  0xc6e00bf3#32, 0xd5a79147#32, 0x06ca6351#32, 0x14292967#32] ++ [
  0x27b70a85#32, 0x2e1b2138#32, 0x4d2c6dfc#32, 0x53380d13#32, 0x650a7354#32, 0x766a0abb#32, 0x81c2c92e#32,
  0x92722c85#32, 0xa2bfe8a1#32, 0xa81a664b#32, 0xc24b8b70#32, 0xc76c51a3#32, 0xd192e819#32, 0xd6990624#32,
  0xf40e3585#32, 0x106aa070#32, 0x19a4c116#32, 0x1e376c08#32, 0x2748774c#32, 0x34b0bcb5#32, 0x391c0cb3#32,
  0x4ed8aa4a#32, 0x5b9cca4f#32, 0x682e6ff3#32, 0x748f82ee#32, 0x78a5636f#32, 0x84c87814#32, 0x8cc70208#32,
  0x90befffa#32, 0xa4506ceb#32, 0xbef9a3f7#32, 0xc67178f2#32]

/-- Rotate right. -/
def rotr (x : Word) (n : Nat) : Word := x.rotateRight n

/-- Extend the 16 words of a block to 64, newest first. -/
def shaExpand : Nat → List Word → List Word
  | 0, w => w
  | k + 1, w =>
    let w15 := w.getD 14 0; let w2 := w.getD 1 0
    let s0 := rotr w15 7 ^^^ rotr w15 18 ^^^ (w15 >>> 3)
    let s1 := rotr w2 17 ^^^ rotr w2 19 ^^^ (w2 >>> 10)
    shaExpand k ((w.getD 15 0 + s0 + w.getD 6 0 + s1) :: w)

/-- The eight working words. -/
structure Sha where
  a : Word
  b : Word
  c : Word
  d : Word
  e : Word
  f : Word
  g : Word
  h : Word
  deriving DecidableEq, Repr

/-- One round. -/
def shaRound (s : Sha) (kw : Word × Word) : Sha :=
  let t1 := s.h + (rotr s.e 6 ^^^ rotr s.e 11 ^^^ rotr s.e 25) + ((s.e &&& s.f) ^^^ (~~~s.e &&& s.g)) + kw.1 + kw.2
  let t2 := (rotr s.a 2 ^^^ rotr s.a 13 ^^^ rotr s.a 22) + ((s.a &&& s.b) ^^^ (s.a &&& s.c) ^^^ (s.b &&& s.c))
  ⟨t1 + t2, s.a, s.b, s.c, s.d + t1, s.e, s.f, s.g⟩

/-- Big-endian word of four bytes. -/
def beWord (b : List Byte) : Word := b.foldl (fun acc x => (acc <<< 8) ||| (x.zeroExtend 32)) 0
/-- Big-endian bytes of a word. -/
def wordBe (w : Word) : List Byte :=
  [(w >>> 24).truncate 8, (w >>> 16).truncate 8, (w >>> 8).truncate 8, w.truncate 8]

/-- One 64-byte block. -/
def shaBlock (s : Sha) (blk : List Byte) : Sha :=
  let w := (shaExpand 48 ((records 4 blk).map beWord).reverse).reverse
  let r := (shaK.zip w).foldl shaRound s
  ⟨s.a + r.a, s.b + r.b, s.c + r.c, s.d + r.d, s.e + r.e, s.f + r.f, s.g + r.g, s.h + r.h⟩

/-- The start value of SHA-256. -/
def shaInit : Sha :=
  ⟨0x6a09e667#32, 0xbb67ae85#32, 0x3c6ef372#32, 0xa54ff53a#32, 0x510e527f#32, 0x9b05688c#32, 0x1f83d9ab#32,
   0x5be0cd19#32⟩

/-- SHA-256 (FIPS 180-4; 01, R38). -/
def sha256 (m : List Byte) : List Byte :=
  let pad := (119 - m.length % 64) % 64
  let len := (leBytes 8 (8 * m.length)).reverse
  let s := (records 64 (m ++ [0x80#8] ++ List.replicate pad 0#8 ++ len)).foldl shaBlock shaInit
  wordBe s.a ++ wordBe s.b ++ wordBe s.c ++ wordBe s.d ++ wordBe s.e ++ wordBe s.f ++ wordBe s.g ++ wordBe s.h

/-- HMAC-SHA-256 with a key of at most 64 bytes (16, R449, R451). -/
def hmac (key msg : List Byte) : List Byte :=
  let k := key ++ List.replicate (64 - key.length) 0#8
  sha256 (k.map (· ^^^ 0x5C#8) ++ sha256 (k.map (· ^^^ 0x36#8) ++ msg))

/-- The bytes of an ASCII text. -/
def ascii (t : String) : List Byte := t.toList.map fun c => BitVec.ofNat 8 c.toNat

end Sys2Proof.Machine
end

