-- ==== Sys2Proof/Config.lean ====
section
/-!
DEFINITION. What the spec leaves to the part or leaves open: the free values (opaque, without a body, so no
proof can see one) and the fixed facts of the family that several chapters use.
-/
namespace Sys2Proof.Config

/-- A fresh unstated word: applied to the counter `State.free`, which the reading step advances (log entry 3). -/
opaque freeWord : Nat → Int

/-- LOG2 of a positive Q1.31 operand in Q6.26: only an error bound is stated (03, Table 3.7, R107). -/
opaque log2 : Int → Int
/-- EXP2 of a negative Q6.26 operand in Q1.31: only an error bound is stated (03, Table 3.7, R107). -/
opaque exp2 : Int → Int
/-- ATAN2 of (y, x) in Q1.31: only an error bound is stated (03, Table 3.7, R107). -/
opaque atan2 : Int → Int → Int

/-- Size of a gain on a ramp that is linear in dB, from g0 to g1, at sample i of L, within the bound of R75 (02). -/
opaque dbRamp : Int → Int → Nat → Nat → Int
/-- A sine sample at a 32-bit phase with a level in 0.01 dBFS, within the bound of R83 (02). -/
opaque sine : Nat → Int → Int

/-- The sample that bridge channel c makes at an output instant from its input around the instant that its delay goes back to: only
ripple, attenuation and THD+N are stated (02, R87). -/
opaque bridge : Nat → Nat → List (Int × Int) → Int

/-- Which sample a word of a receive stream's ring holds, by its channels, its samples per tick and the word: tick, channel and
sample in one number (12, R356). -/
opaque ringPlace : Nat → Nat → Nat → Nat

/-- How far an edge of reference output k at an instant in ns lies from its place, in ps: within 5 ns (09, R290). -/
opaque refoutSkew : Nat → Nat → Int

/-- Coefficient k of the half-band designs held in ROM (05_filter_chain_units, R156): 0 is L63, 1 is S23. -/
opaque halfBand : Nat → Nat → Int

/-- The interpolated feed of a power-stage channel from the samples that lie within its delay of an instant, each with its
distance in cycles: only ripple and attenuation are stated (14_power_stage_control, R393). -/
opaque pscInterp : List (Int × Int) → Int
/-- A class 10 sample of a sense value from the loop periods within its filter's span: the filter is linear-phase with a delay of 48
loop periods and not stated otherwise (14, R396, Table 14.2). -/
opaque pscSense : List Int → Int
/-- A sine of the pilot or of its demodulator at a 32-bit phase with an amplitude (14, R407, R408). -/
opaque pilotSine : Nat → Int → Int
/-- A gain of num / den dB in Q2.30; the rounding of the power is not stated (14, R399). -/
opaque dbGain : Int → Nat → Int
/-- A Q2.30 gain in 0.01 dB (14, PSC_GAIN_NOW). -/
opaque gainDb : Int → Int
/-- A Q2.30 gain moved by num / den dB (14, R400, R401). -/
opaque dbMove : Int → Int → Nat → Int
/-- A first-order average moved by one value, with a time constant in ms and the rate of its updates: the arithmetic is
not stated (14, R401, R404). -/
opaque average : Int → Int → Nat → Nat → Int
/-- The limit divided by the RMS value, in Q2.30, from the limit in Q1.31 and the mean square (14, R401). -/
opaque rmsGain : Int → Int → Int
/-- Angle of a complex ratio in 0.01 degrees (14, R408). -/
opaque angle : Int × Int → Int × Int → Int
/-- Magnitude of an impedance whose current is 0 (14, R408). -/
opaque openLoad : Nat → Int

/-- 64-bit unique identifier of this part (16, Table 16.9). -/
opaque uid : Nat
/-- Ordering code of this part, 0 or 1 (21_pins_electrical_package, R544). -/
opaque orderCode : Nat
/-- Build number of the firmware in a slot of the boot flash as shipped (18_reset_power_bringup, R490). -/
opaque fwBuild : Nat → Nat

/-- Pages that the bandwidth left over carries in a tick of a graft (08, R256). -/
opaque mirrorPages : Nat → Nat

/-- Does a firmware image written as bytes pass its check, and its build number: the image's layout is not stated (18, R490). -/
opaque fwCheck : List (BitVec 8) → Bool
/-- Build number of a firmware image (18, R490). -/
opaque fwBuildOf : List (BitVec 8) → Nat

/-- Base rate of a family in Hz: 48 kHz or 44.1 kHz (00, R1). -/
def baseRate (family : Nat) : Nat := if family = 0 then 48000 else 44100
/-- Core cycles of one tick (00, R1; 01, R17). -/
def cyclesPerTick : Nat := 192000
/-- Cycle of INGEST_READY (01, Table 1.1). -/
def ingestReady : Nat := 1536
/-- Half-tick staging deadline (01, Table 1.1). -/
def halfDeadline : Nat := 92160
/-- Full-tick staging deadline and end of the schedulable budget (01, Table 1.1, R21). -/
def fullDeadline : Nat := 184320
/-- Ticks for which the completion of a block write of n bytes occupies the gardener (16, R460): free (log entry 221). -/
opaque serviceTicks : Nat → Nat
/-- Ticks in one second of the 48 kHz family, the unit of rate limits written as 8,000 ticks (19, R506). -/
def ticksPerSecond : Nat := 8000

end Sys2Proof.Config
end

