-- ==== Sys2Proof/Machine/Table.lean ====
section
/-!
DEFINITION. One sparse table in canonical form: strictly rising keys, no entry equal to what an unlisted key
reads as. Memory, registers and every numbered unit of the chip are held in such tables, so equal contents
are equal data.
-/
namespace Sys2Proof.Machine

/-- Entries by key. -/
abbrev Table (κ α : Type) := List (κ × α)

/-- Value at a key; an unlisted key reads its default. -/
def Table.get {κ α : Type} [DecidableEq κ] (d : κ → α) (t : Table κ α) (k : κ) : α :=
  match t.find? (fun e => decide (e.1 = k)) with
  | some e => e.2
  | none => d k

/-- The table without a key. -/
def Table.erase {κ α : Type} [DecidableEq κ] (t : Table κ α) (k : κ) : Table κ α :=
  t.filter (fun e => !decide (e.1 = k))

/-- Put an entry at its place in the order `ord`. -/
def Table.ins {κ α : Type} (ord : κ → Nat) (k : κ) (v : α) : Table κ α → Table κ α
  | [] => [(k, v)]
  | e :: t => if ord k < ord e.1 then (k, v) :: e :: t else e :: Table.ins ord k v t

/-- Write a value: the entry goes if it equals the default. -/
def Table.put {κ α : Type} [DecidableEq κ] [DecidableEq α] (ord : κ → Nat) (d : κ → α)
    (t : Table κ α) (k : κ) (v : α) : Table κ α :=
  if v = d k then Table.erase t k else Table.ins ord k v (Table.erase t k)

/-- Keys strictly rise. -/
def Table.sorted {κ α : Type} (ord : κ → Nat) : Table κ α → Bool
  | [] => true
  | [_] => true
  | a :: b :: t => decide (ord a.1 < ord b.1) && Table.sorted ord (b :: t)

/-- The canonical form. -/
def Table.wf {κ α : Type} [DecidableEq α] (ord : κ → Nat) (d : κ → α) (t : Table κ α) : Bool :=
  Table.sorted ord t && t.all (fun e => !decide (e.2 = d e.1))

/-- Tables keyed by numbers, with one default for every key. -/
abbrev NTable (α : Type) := Table Nat α

/-- Value at a number. -/
def NTable.get {α : Type} (d : α) (t : NTable α) (k : Nat) : α := Table.get (fun _ => d) t k
/-- Write at a number. -/
def NTable.put {α : Type} [DecidableEq α] (d : α) (t : NTable α) (k : Nat) (v : α) : NTable α :=
  Table.put id (fun _ => d) t k v
/-- Change at a number. -/
def NTable.mod {α : Type} [DecidableEq α] (d : α) (t : NTable α) (k : Nat) (f : α → α) : NTable α :=
  NTable.put d t k (f (NTable.get d t k))
/-- Canonical form of a table keyed by numbers. -/
def NTable.wf {α : Type} [DecidableEq α] (d : α) (t : NTable α) : Bool := Table.wf id (fun _ => d) t

end Sys2Proof.Machine
end

