-- ==== Sys2Proof/Machine/State/Reg.lean ====
section
/-!
DEFINITION. A register of the block: an object of the dictionary at index and sub-index, and the unit it
belongs to where a selector chooses one (17_dictionary_reference, R472; 0 where there is none).
-/
namespace Sys2Proof.Machine

/-- The place of a register. -/
structure Reg where
  idx : Nat
  sub : Nat
  unit : Nat
  deriving DecidableEq, Repr

end Sys2Proof.Machine
end

