-- ==== Sys2Proof/Machine/Dict.lean ====
section
/-!
DEFINITION. The object dictionary (17_dictionary_reference, R472-R476, and the object table of every chapter):
the name, place, type, access, default and range of every object. Registers whose spec gives no default read 0
(log entry 1).
-/
namespace Sys2Proof.Machine

/-- `0x4E00:01 TICK_NOW` (TICK, RO; chapter 01). -/
abbrev Reg.tickNow : Reg := ⟨0x4E00, 1, 0⟩
/-- `0x4E00:02 CHIP_LAST_SERIAL` (U64, RO; chapter 01). -/
abbrev Reg.chipLastSerial : Reg := ⟨0x4E00, 2, 0⟩
/-- `0x4E00:03 TICK_FAMILY` (U8, RO; chapter 01). -/
abbrev Reg.tickFamily : Reg := ⟨0x4E00, 3, 0⟩
/-- `0x4E10+p:01 LAST_STAGE` (BLOB, WO; chapter 01). -/
abbrev Reg.lastStage (p : Nat) : Reg := ⟨0x4E10 + p, 1, 0⟩
/-- `0x4E10+p:02 LAST_INSTALL` (TICK, CMD; chapter 01). -/
abbrev Reg.lastInstall (p : Nat) : Reg := ⟨0x4E10 + p, 2, 0⟩
/-- `0x4E10+p:03 LAST_CANCEL` (BOOL, CMD; chapter 01). -/
abbrev Reg.lastCancel (p : Nat) : Reg := ⟨0x4E10 + p, 3, 0⟩
/-- `0x4E10+p:04 LAST_STATE` (U8, RO; chapter 01). -/
abbrev Reg.lastState (p : Nat) : Reg := ⟨0x4E10 + p, 4, 0⟩
/-- `0x4E10+p:05 LAST_ERROR` (U8, RO; chapter 01). -/
abbrev Reg.lastError (p : Nat) : Reg := ⟨0x4E10 + p, 5, 0⟩
/-- `0x4E10+p:06 LAST_ERROR_DETAIL` (U32, RO; chapter 01). -/
abbrev Reg.lastErrorDetail (p : Nat) : Reg := ⟨0x4E10 + p, 6, 0⟩
/-- `0x4E10+p:07 LAST_ACTIVE_SERIAL` (U64, RO; chapter 01). -/
abbrev Reg.lastActiveSerial (p : Nat) : Reg := ⟨0x4E10 + p, 7, 0⟩
/-- `0x4E10+p:08 LAST_SHADOW_SERIAL` (U64, RO; chapter 01). -/
abbrev Reg.lastShadowSerial (p : Nat) : Reg := ⟨0x4E10 + p, 8, 0⟩
/-- `0x4E10+p:09 LAST_SWAP_TICK` (TICK, RO; chapter 01). -/
abbrev Reg.lastSwapTick (p : Nat) : Reg := ⟨0x4E10 + p, 9, 0⟩
/-- `0x4E10+p:0A LAST_ACTIVE_SINCE` (TICK, RO; chapter 01). -/
abbrev Reg.lastActiveSince (p : Nat) : Reg := ⟨0x4E10 + p, 10, 0⟩
/-- `0x4E20+p:01 OVR_COUNT` (U32, RO; chapter 01). -/
abbrev Reg.ovrCount (p : Nat) : Reg := ⟨0x4E20 + p, 1, 0⟩
/-- `0x4E20+p:02 OVR_LAST_TICK` (TICK, RO; chapter 01). -/
abbrev Reg.ovrLastTick (p : Nat) : Reg := ⟨0x4E20 + p, 2, 0⟩
/-- `0x4E20+p:03 OVR_LAST_TASK` (U16, RO; chapter 01). -/
abbrev Reg.ovrLastTask (p : Nat) : Reg := ⟨0x4E20 + p, 3, 0⟩
/-- `0x4E20+p:04 OVR_ACTIVE` (BOOL, RO; chapter 01). -/
abbrev Reg.ovrActive (p : Nat) : Reg := ⟨0x4E20 + p, 4, 0⟩
/-- `0x4E30+p:01 PATH_SINK` (U32, RW; chapter 01). -/
abbrev Reg.pathSink (p : Nat) : Reg := ⟨0x4E30 + p, 1, 0⟩
/-- `0x4E30+p:02 PATH_LATENCY` (U32, RO; chapter 01). -/
abbrev Reg.pathLatency (p : Nat) : Reg := ⟨0x4E30 + p, 2, 0⟩
/-- `0x5000:01 SIG_SEL` (U32, RW; chapter 02). -/
abbrev Reg.sigSel : Reg := ⟨0x5000, 1, 0⟩
/-- `0x5000:02 SIG_OWNER` (U8, RO; chapter 02). -/
abbrev Reg.sigOwner : Reg := ⟨0x5000, 2, 0⟩
/-- `0x5000:03 SIG_STATE` (U8, RO; chapter 02). -/
abbrev Reg.sigState : Reg := ⟨0x5000, 3, 0⟩
/-- `0x5000:04 SIG_DOMAIN` (U8, RO; chapter 02). -/
abbrev Reg.sigDomain : Reg := ⟨0x5000, 4, 0⟩
/-- `0x5000:05 SIG_RATE` (U32, RO; chapter 02). -/
abbrev Reg.sigRate : Reg := ⟨0x5000, 5, 0⟩
/-- `0x5000:06 SIG_SILENT` (BOOL, RO; chapter 02). -/
abbrev Reg.sigSilent : Reg := ⟨0x5000, 6, 0⟩
/-- `0x5100+p:01 ROUTE_TABLE` (BLOB, RO; chapter 02). -/
abbrev Reg.routeTable (p : Nat) : Reg := ⟨0x5100 + p, 1, 0⟩
/-- `0x5100+p:02 ROUTE_EDIT` (BLOB, WO; chapter 02). -/
abbrev Reg.routeEdit (p : Nat) : Reg := ⟨0x5100 + p, 2, 0⟩
/-- `0x5100+p:03 ROUTE_EDIT_AT` (BLOB, RWT; chapter 02). -/
abbrev Reg.routeEditAt (p : Nat) : Reg := ⟨0x5100 + p, 3, 0⟩
/-- `0x5100+p:04 ROUTE_EDIT_STATUS` (U8, RO; chapter 02). -/
abbrev Reg.routeEditStatus (p : Nat) : Reg := ⟨0x5100 + p, 4, 0⟩
/-- `0x5100+p:05 ROUTE_EDIT_DETAIL` (U32, RO; chapter 02). -/
abbrev Reg.routeEditDetail (p : Nat) : Reg := ⟨0x5100 + p, 5, 0⟩
/-- `0x5100+p:06 ROUTE_EDIT_DROPPED` (U32, RO; chapter 02). -/
abbrev Reg.routeEditDropped (p : Nat) : Reg := ⟨0x5100 + p, 6, 0⟩
/-- `0x5200:01 SIL_SEL` (U16, RW; chapter 02). -/
abbrev Reg.silSel : Reg := ⟨0x5200, 1, 0⟩
/-- `0x5200:02 SIL_SIGNAL` (U32, RW; chapter 02). -/
abbrev Reg.silSignal (u : Nat) : Reg := ⟨0x5200, 2, u⟩
/-- `0x5200:03 SIL_THRESH` (I32, RW; chapter 02). -/
abbrev Reg.silThresh (u : Nat) : Reg := ⟨0x5200, 3, u⟩
/-- `0x5200:04 SIL_HOLD` (U32, RW; chapter 02). -/
abbrev Reg.silHold (u : Nat) : Reg := ⟨0x5200, 4, u⟩
/-- `0x5200:05 SIL_STATE` (BOOL, RO; chapter 02). -/
abbrev Reg.silState (u : Nat) : Reg := ⟨0x5200, 5, u⟩
/-- `0x5300:01 GEN_SEL` (U16, RW; chapter 02). -/
abbrev Reg.genSel : Reg := ⟨0x5300, 1, 0⟩
/-- `0x5300:02 GEN_TYPE` (U8, RW; chapter 02). -/
abbrev Reg.genType (u : Nat) : Reg := ⟨0x5300, 2, u⟩
/-- `0x5300:03 GEN_FREQ` (U32, RW; chapter 02). -/
abbrev Reg.genFreq (u : Nat) : Reg := ⟨0x5300, 3, u⟩
/-- `0x5300:04 GEN_LEVEL` (I32, RW; chapter 02). -/
abbrev Reg.genLevel (u : Nat) : Reg := ⟨0x5300, 4, u⟩
/-- `0x5300:05 GEN_SEED` (U32, RW; chapter 02). -/
abbrev Reg.genSeed (u : Nat) : Reg := ⟨0x5300, 5, u⟩
/-- `0x5400:01 BRG_SEL` (U16, RW; chapter 02). -/
abbrev Reg.brgSel : Reg := ⟨0x5400, 1, 0⟩
/-- `0x5400:02 BRG_TRACKER` (U8, RO; chapter 02). -/
abbrev Reg.brgTracker (u : Nat) : Reg := ⟨0x5400, 2, u⟩
/-- `0x5400:03 BRG_MUTED` (BOOL, RO; chapter 02). -/
abbrev Reg.brgMuted (u : Nat) : Reg := ⟨0x5400, 3, u⟩
/-- `0x5401:01 TRK_SEL` (U8, RW; chapter 02). -/
abbrev Reg.trkSel : Reg := ⟨0x5401, 1, 0⟩
/-- `0x5401:02 TRK_STATE` (U8, RO; chapter 02). -/
abbrev Reg.trkState (u : Nat) : Reg := ⟨0x5401, 2, u⟩
/-- `0x5401:03 TRK_RATE` (U32, RO; chapter 02). -/
abbrev Reg.trkRate (u : Nat) : Reg := ⟨0x5401, 3, u⟩
/-- `0x5401:04 TRK_PPB` (I32, RO; chapter 02). -/
abbrev Reg.trkPpb (u : Nat) : Reg := ⟨0x5401, 4, u⟩
/-- `0x5401:05 TRK_EVENTS` (U32, RO; chapter 02). -/
abbrev Reg.trkEvents (u : Nat) : Reg := ⟨0x5401, 5, u⟩
/-- `0x4001:01 BUS_SEL` (U16, RW; chapter 02). -/
abbrev Reg.busSel : Reg := ⟨0x4001, 1, 0⟩
/-- `0x4001:02 BUS_GAIN` (GAIN, RW; chapter 02). -/
abbrev Reg.busGain (u : Nat) : Reg := ⟨0x4001, 2, u⟩
/-- `0x4001:03 BUS_GAIN_AT` (GAIN, RWT; chapter 02). -/
abbrev Reg.busGainAt (u : Nat) : Reg := ⟨0x4001, 3, u⟩
/-- `0x4001:04 BUS_MUTE` (BOOL, RW; chapter 02). -/
abbrev Reg.busMute (u : Nat) : Reg := ⟨0x4001, 4, u⟩
/-- `0x4001:05 BUS_RAMP` (U32, RW; chapter 02). -/
abbrev Reg.busRamp (u : Nat) : Reg := ⟨0x4001, 5, u⟩
/-- `0x4001:06 BUS_AUTO` (U8, RW; chapter 02). -/
abbrev Reg.busAuto (u : Nat) : Reg := ⟨0x4001, 6, u⟩
/-- `0x4001:07 BUS_N` (U16, RO; chapter 02). -/
abbrev Reg.busN (u : Nat) : Reg := ⟨0x4001, 7, u⟩
/-- `0x4001:08 BUS_SCALE` (GAIN, RO; chapter 02). -/
abbrev Reg.busScale (u : Nat) : Reg := ⟨0x4001, 8, u⟩
/-- `0x4001:09 BUS_CLIP` (U32, RO; chapter 02). -/
abbrev Reg.busClip (u : Nat) : Reg := ⟨0x4001, 9, u⟩
/-- `0x4002:01 XP_SEL` (U16, RW; chapter 02). -/
abbrev Reg.xpSel : Reg := ⟨0x4002, 1, 0⟩
/-- `0x4002:02 XP_GAIN` (GAIN, RW; chapter 02). -/
abbrev Reg.xpGain (u : Nat) : Reg := ⟨0x4002, 2, u⟩
/-- `0x4002:03 XP_GAIN_AT` (GAIN, RWT; chapter 02). -/
abbrev Reg.xpGainAt (u : Nat) : Reg := ⟨0x4002, 3, u⟩
/-- `0x4002:04 XP_MUTE` (BOOL, RW; chapter 02). -/
abbrev Reg.xpMute (u : Nat) : Reg := ⟨0x4002, 4, u⟩
/-- `0x4002:05 XP_RAMP` (U32, RW; chapter 02). -/
abbrev Reg.xpRamp (u : Nat) : Reg := ⟨0x4002, 5, u⟩
/-- `0x4002:06 XP_LAW` (U8, RW; chapter 02). -/
abbrev Reg.xpLaw (u : Nat) : Reg := ⟨0x4002, 6, u⟩
/-- `0x4002:07 XP_SOURCE` (U32, RO; chapter 02). -/
abbrev Reg.xpSource (u : Nat) : Reg := ⟨0x4002, 7, u⟩
/-- `0x4002:08 XP_GAIN_NOW` (GAIN, RO; chapter 02). -/
abbrev Reg.xpGainNow (u : Nat) : Reg := ⟨0x4002, 8, u⟩
/-- `0x4C00:01 CORE_COUNT` (U8, RO; chapter 03). -/
abbrev Reg.coreCount : Reg := ⟨0x4C00, 1, 0⟩
/-- `0x4C00:02 CORE_OWNER_MAP` (BLOB, RO; chapter 03). -/
abbrev Reg.coreOwnerMap : Reg := ⟨0x4C00, 2, 0⟩
/-- `0x4C01:01 CORE_SEL` (U8, RW; chapter 03). -/
abbrev Reg.coreSel : Reg := ⟨0x4C01, 1, 0⟩
/-- `0x4C01:02 CORE_STATE` (U8, RO; chapter 03). -/
abbrev Reg.coreState (u : Nat) : Reg := ⟨0x4C01, 2, u⟩
/-- `0x4C01:03 CORE_PLOT` (U8, RO; chapter 03). -/
abbrev Reg.corePlot (u : Nat) : Reg := ⟨0x4C01, 3, u⟩
/-- `0x4C01:04 CORE_BOOKED` (U32, RO; chapter 03). -/
abbrev Reg.coreBooked (u : Nat) : Reg := ⟨0x4C01, 4, u⟩
/-- `0x4C01:05 CORE_EXC_COUNT` (U32, RO; chapter 03). -/
abbrev Reg.coreExcCount (u : Nat) : Reg := ⟨0x4C01, 5, u⟩
/-- `0x4C01:06 CORE_EXC_LAST` (U32, RO; chapter 03). -/
abbrev Reg.coreExcLast (u : Nat) : Reg := ⟨0x4C01, 6, u⟩
/-- `0x4C01:07 CORE_EXC_PC` (U16, RO; chapter 03). -/
abbrev Reg.coreExcPc (u : Nat) : Reg := ⟨0x4C01, 7, u⟩
/-- `0x4C01:08 CORE_CECC` (U32, RO; chapter 03). -/
abbrev Reg.coreCecc (u : Nat) : Reg := ⟨0x4C01, 8, u⟩
/-- `0x4C01:09 CORE_UECC` (U32, RO; chapter 03). -/
abbrev Reg.coreUecc (u : Nat) : Reg := ⟨0x4C01, 9, u⟩
/-- `0x4C01:0A CORE_RESIDUE` (U32, RO; chapter 03). -/
abbrev Reg.coreResidue (u : Nat) : Reg := ⟨0x4C01, 10, u⟩
/-- `0x4C01:0B CORE_SAT` (U32, RO; chapter 03). -/
abbrev Reg.coreSat (u : Nat) : Reg := ⟨0x4C01, 11, u⟩
/-- `0x4C01:0C CORE_SCRUB_PASS` (U32, RO; chapter 03). -/
abbrev Reg.coreScrubPass (u : Nat) : Reg := ⟨0x4C01, 12, u⟩
/-- `0x4C02:01 MSG_CORE` (U8, RW; chapter 03). -/
abbrev Reg.msgCore : Reg := ⟨0x4C02, 1, 0⟩
/-- `0x4C02:02 MSG_POST` (BLOB, WO; chapter 03). -/
abbrev Reg.msgPost : Reg := ⟨0x4C02, 2, 0⟩
/-- `0x4C02:03 MSG_POST_AT` (BLOB, RWT; chapter 03). -/
abbrev Reg.msgPostAt : Reg := ⟨0x4C02, 3, 0⟩
/-- `0x4C02:04 MSG_DROPPED` (U32, RO; chapter 03). -/
abbrev Reg.msgDropped (u : Nat) : Reg := ⟨0x4C02, 4, u⟩
/-- `0x4800:01 FCU_COUNT` (U8, RO; chapter 05). -/
abbrev Reg.fcuCount : Reg := ⟨0x4800, 1, 0⟩
/-- `0x4800:02 FCU_OWNER_MAP` (BLOB, RO; chapter 05). -/
abbrev Reg.fcuOwnerMap : Reg := ⟨0x4800, 2, 0⟩
/-- `0x4801:01 FCU_SEL` (U8, RW; chapter 05). -/
abbrev Reg.fcuSel : Reg := ⟨0x4801, 1, 0⟩
/-- `0x4801:02 GRP_SEL` (U8, RW; chapter 05). -/
abbrev Reg.grpSel : Reg := ⟨0x4801, 2, 0⟩
/-- `0x4801:03 GRP_STATE` (U8, RO; chapter 05). -/
abbrev Reg.grpState (u : Nat) : Reg := ⟨0x4801, 3, u⟩
/-- `0x4801:04 GRP_BANK` (U8, RO; chapter 05). -/
abbrev Reg.grpBank (u : Nat) : Reg := ⟨0x4801, 4, u⟩
/-- `0x4801:05 GRP_BOOKED` (U32, RO; chapter 05). -/
abbrev Reg.grpBooked (u : Nat) : Reg := ⟨0x4801, 5, u⟩
/-- `0x4801:06 GRP_DELAY` (U32, RO; chapter 05). -/
abbrev Reg.grpDelay (u : Nat) : Reg := ⟨0x4801, 6, u⟩
/-- `0x4801:07 GRP_SAT` (U32, RO; chapter 05). -/
abbrev Reg.grpSat (u : Nat) : Reg := ⟨0x4801, 7, u⟩
/-- `0x4801:08 GRP_UECC` (U32, RO; chapter 05). -/
abbrev Reg.grpUecc (u : Nat) : Reg := ⟨0x4801, 8, u⟩
/-- `0x4801:09 GRP_LANE_SEL` (U8, RW; chapter 05). -/
abbrev Reg.grpLaneSel : Reg := ⟨0x4801, 9, 0⟩
/-- `0x4801:0A GRP_LANE_OUT` (Q31, RO; chapter 05). -/
abbrev Reg.grpLaneOut (u : Nat) : Reg := ⟨0x4801, 10, u⟩
/-- `0x4802:01 BANK_WR_OFFSET` (U16, RW; chapter 05). -/
abbrev Reg.bankWrOffset : Reg := ⟨0x4802, 1, 0⟩
/-- `0x4802:02 BANK_WRITE` (BLOB, WO; chapter 05). -/
abbrev Reg.bankWrite (u : Nat) : Reg := ⟨0x4802, 2, u⟩
/-- `0x4802:03 BANK_READ_SEL` (U8, RW; chapter 05). -/
abbrev Reg.bankReadSel : Reg := ⟨0x4802, 3, 0⟩
/-- `0x4802:04 BANK_READ` (BLOB, RO; chapter 05). -/
abbrev Reg.bankRead (u : Nat) : Reg := ⟨0x4802, 4, u⟩
/-- `0x4802:05 SWAP_AT` (U64, CMD; chapter 05). -/
abbrev Reg.swapAt (u : Nat) : Reg := ⟨0x4802, 5, u⟩
/-- `0x4802:06 SWAP_STATUS` (U8, RO; chapter 05). -/
abbrev Reg.swapStatus (u : Nat) : Reg := ⟨0x4802, 6, u⟩
/-- `0x4802:07 SWAP_DONE_SAMPLE` (U64, RO; chapter 05). -/
abbrev Reg.swapDoneSample (u : Nat) : Reg := ⟨0x4802, 7, u⟩
/-- `0x4400:01 ARE_TILE_COUNT` (U8, RO; chapter 06). -/
abbrev Reg.areTileCount : Reg := ⟨0x4400, 1, 0⟩
/-- `0x4400:02 ARE_XP_OWNER_MAP` (BLOB, RO; chapter 06). -/
abbrev Reg.areXpOwnerMap : Reg := ⟨0x4400, 2, 0⟩
/-- `0x4400:03 ARE_CECC` (U32, RO; chapter 06). -/
abbrev Reg.areCecc : Reg := ⟨0x4400, 3, 0⟩
/-- `0x4401:01 ARE_TILE_SEL` (U8, RW; chapter 06). -/
abbrev Reg.areTileSel : Reg := ⟨0x4401, 1, 0⟩
/-- `0x4401:02 ARE_TILE_BOOKED` (U32, RO; chapter 06). -/
abbrev Reg.areTileBooked (u : Nat) : Reg := ⟨0x4401, 2, u⟩
/-- `0x4401:03 ARE_TILE_RESIDUE` (U32, RO; chapter 06). -/
abbrev Reg.areTileResidue (u : Nat) : Reg := ⟨0x4401, 3, u⟩
/-- `0x4410:01 ARE_XP_SEL` (U16, RW; chapter 06). -/
abbrev Reg.areXpSel : Reg := ⟨0x4410, 1, 0⟩
/-- `0x4410:02 ARE_XP_STATE` (U8, RO; chapter 06). -/
abbrev Reg.areXpState (u : Nat) : Reg := ⟨0x4410, 2, u⟩
/-- `0x4410:03 ARE_XP_TAPS` (U32, RO; chapter 06). -/
abbrev Reg.areXpTaps (u : Nat) : Reg := ⟨0x4410, 3, u⟩
/-- `0x4410:04 ARE_XP_BANK` (U8, RO; chapter 06). -/
abbrev Reg.areXpBank (u : Nat) : Reg := ⟨0x4410, 4, u⟩
/-- `0x4410:05 ARE_XP_EXP` (U8, RO; chapter 06). -/
abbrev Reg.areXpExp (u : Nat) : Reg := ⟨0x4410, 5, u⟩
/-- `0x4410:06 ARE_XP_INPUT` (U16, RO; chapter 06). -/
abbrev Reg.areXpInput (u : Nat) : Reg := ⟨0x4410, 6, u⟩
/-- `0x4410:07 ARE_XP_OUTPUT` (U16, RO; chapter 06). -/
abbrev Reg.areXpOutput (u : Nat) : Reg := ⟨0x4410, 7, u⟩
/-- `0x4410:08 ARE_XP_SET` (U8, RO; chapter 06). -/
abbrev Reg.areXpSet (u : Nat) : Reg := ⟨0x4410, 8, u⟩
/-- `0x4410:09 ARE_XP_UECC` (U32, RO; chapter 06). -/
abbrev Reg.areXpUecc (u : Nat) : Reg := ⟨0x4410, 9, u⟩
/-- `0x4411:01 ARE_COEF_OFFSET` (U32, RW; chapter 06). -/
abbrev Reg.areCoefOffset : Reg := ⟨0x4411, 1, 0⟩
/-- `0x4411:02 ARE_COEF_WRITE` (BLOB, WO; chapter 06). -/
abbrev Reg.areCoefWrite (u : Nat) : Reg := ⟨0x4411, 2, u⟩
/-- `0x4411:03 ARE_COEF_EXP` (U8, RW; chapter 06). -/
abbrev Reg.areCoefExp (u : Nat) : Reg := ⟨0x4411, 3, u⟩
/-- `0x4411:04 ARE_COEF_READ_SEL` (U8, RW; chapter 06). -/
abbrev Reg.areCoefReadSel : Reg := ⟨0x4411, 4, 0⟩
/-- `0x4411:05 ARE_COEF_READ` (BLOB, RO; chapter 06). -/
abbrev Reg.areCoefRead (u : Nat) : Reg := ⟨0x4411, 5, u⟩
/-- `0x4411:06 ARE_COEF_PENDING` (U32, RO; chapter 06). -/
abbrev Reg.areCoefPending : Reg := ⟨0x4411, 6, 0⟩
/-- `0x4412:01 ARE_OUT_SEL` (U16, RW; chapter 06). -/
abbrev Reg.areOutSel : Reg := ⟨0x4412, 1, 0⟩
/-- `0x4412:02 ARE_OUT_SAT` (U32, RO; chapter 06). -/
abbrev Reg.areOutSat (u : Nat) : Reg := ⟨0x4412, 2, u⟩
/-- `0x4412:03 ARE_OUT_XPS` (U16, RO; chapter 06). -/
abbrev Reg.areOutXps (u : Nat) : Reg := ⟨0x4412, 3, u⟩
/-- `0x4413:01 ARE_IN_SEL` (U16, RW; chapter 06). -/
abbrev Reg.areInSel : Reg := ⟨0x4413, 1, 0⟩
/-- `0x4413:02 ARE_IN_HLEN` (U32, RO; chapter 06). -/
abbrev Reg.areInHlen (u : Nat) : Reg := ⟨0x4413, 2, u⟩
/-- `0x4413:03 ARE_IN_UECC` (U32, RO; chapter 06). -/
abbrev Reg.areInUecc (u : Nat) : Reg := ⟨0x4413, 3, u⟩
/-- `0x4420+p:01 ARE_SWAP_SETS` (U8, RW; chapter 06). -/
abbrev Reg.areSwapSets (p : Nat) : Reg := ⟨0x4420 + p, 1, 0⟩
/-- `0x4420+p:02 ARE_SWAP_AT` (TICK, CMD; chapter 06). -/
abbrev Reg.areSwapAt (p : Nat) : Reg := ⟨0x4420 + p, 2, 0⟩
/-- `0x4420+p:03 ARE_SWAP_STATUS` (U8, RO; chapter 06). -/
abbrev Reg.areSwapStatus (p : Nat) : Reg := ⟨0x4420 + p, 3, 0⟩
/-- `0x4420+p:04 ARE_SET_STATE` (U16, RO; chapter 06). -/
abbrev Reg.areSetState (p : Nat) : Reg := ⟨0x4420 + p, 4, 0⟩
/-- `0x4420+p:05 ARE_SWAP_DONE_TICK` (TICK, RO; chapter 06). -/
abbrev Reg.areSwapDoneTick (p : Nat) : Reg := ⟨0x4420 + p, 5, 0⟩
/-- `0x4420+p:06 ARE_IMG_STORE` (BLOB, WO; chapter 06). -/
abbrev Reg.areImgStore (p : Nat) : Reg := ⟨0x4420 + p, 6, 0⟩
/-- `0x4420+p:07 ARE_IMG_LOAD` (BOOL, CMD; chapter 06). -/
abbrev Reg.areImgLoad (p : Nat) : Reg := ⟨0x4420 + p, 7, 0⟩
/-- `0x4420+p:08 ARE_IMG_STATUS` (U8, RO; chapter 06). -/
abbrev Reg.areImgStatus (p : Nat) : Reg := ⟨0x4420 + p, 8, 0⟩
/-- `0x2300:01 PLOT_COUNT` (U8, RO; chapter 07). -/
abbrev Reg.plotCount : Reg := ⟨0x2300, 1, 0⟩
/-- `0x2300:02 PLOT_STATE_MAP` (BLOB, RO; chapter 07). -/
abbrev Reg.plotStateMap : Reg := ⟨0x2300, 2, 0⟩
/-- `0x2300:03 FREE_SEL` (U8, RW; chapter 07). -/
abbrev Reg.freeSel : Reg := ⟨0x2300, 3, 0⟩
/-- `0x2300:04 FREE_TABLE` (BLOB, RO; chapter 07). -/
abbrev Reg.freeTable (u : Nat) : Reg := ⟨0x2300, 4, u⟩
/-- `0x2300:05 SCRUB_PENDING` (U32, RO; chapter 07). -/
abbrev Reg.scrubPending : Reg := ⟨0x2300, 5, 0⟩
/-- `0x2310+p:01 PLOT_STATE` (U8, RO; chapter 07). -/
abbrev Reg.plotState (p : Nat) : Reg := ⟨0x2310 + p, 1, 0⟩
/-- `0x2310+p:02 PLOT_FLAGS` (U8, RO; chapter 07). -/
abbrev Reg.plotFlags (p : Nat) : Reg := ⟨0x2310 + p, 2, 0⟩
/-- `0x2310+p:03 PLOT_RESET` (U8, CMD; chapter 07). -/
abbrev Reg.plotReset (p : Nat) : Reg := ⟨0x2310 + p, 3, 0⟩
/-- `0x2310+p:04 PLOT_RESET_AT` (U8, RWT; chapter 07). -/
abbrev Reg.plotResetAt (p : Nat) : Reg := ⟨0x2310 + p, 4, 0⟩
/-- `0x2310+p:05 PLOT_RESET_TICK` (TICK, RO; chapter 07). -/
abbrev Reg.plotResetTick (p : Nat) : Reg := ⟨0x2310 + p, 5, 0⟩
/-- `0x2320+p:cc QUOTA` (U64, RW; chapter 07). -/
abbrev Reg.quota (p c : Nat) : Reg := ⟨0x2320 + p, c, 0⟩
/-- `0x2320+p:11 OVER_MASK` (U32, RO; chapter 07). -/
abbrev Reg.overMask (p : Nat) : Reg := ⟨0x2320 + p, 17, 0⟩
/-- `0x2330+p:01 ASSIGN_GRANT` (BLOB, WO; chapter 07). -/
abbrev Reg.assignGrant (p : Nat) : Reg := ⟨0x2330 + p, 1, 0⟩
/-- `0x2330+p:02 ASSIGN_RELEASE` (BLOB, WO; chapter 07). -/
abbrev Reg.assignRelease (p : Nat) : Reg := ⟨0x2330 + p, 2, 0⟩
/-- `0x2330+p:03 ASSIGN_STATUS` (U8, RO; chapter 07). -/
abbrev Reg.assignStatus (p : Nat) : Reg := ⟨0x2330 + p, 3, 0⟩
/-- `0x2330+p:04 ASSIGN_DETAIL` (U32, RO; chapter 07). -/
abbrev Reg.assignDetail (p : Nat) : Reg := ⟨0x2330 + p, 4, 0⟩
/-- `0x2330+p:05 ASSIGN_SEL` (U8, RW; chapter 07). -/
abbrev Reg.assignSel (p : Nat) : Reg := ⟨0x2330 + p, 5, 0⟩
/-- `0x2330+p:06 ASSIGN_TABLE` (BLOB, RO; chapter 07). -/
abbrev Reg.assignTable (p u : Nat) : Reg := ⟨0x2330 + p, 6, u⟩
/-- `0x2340+p:cc HOLDING` (U64, RO; chapter 07). -/
abbrev Reg.holding (p c : Nat) : Reg := ⟨0x2340 + p, c, 0⟩
/-- `0x2350+p:01 HO_OFFER` (U32, CMD; chapter 07). -/
abbrev Reg.hoOffer (p : Nat) : Reg := ⟨0x2350 + p, 1, 0⟩
/-- `0x2350+p:02 HO_ACCEPT` (U32, CMD; chapter 07). -/
abbrev Reg.hoAccept (p : Nat) : Reg := ⟨0x2350 + p, 2, 0⟩
/-- `0x2350+p:03 HO_WITHDRAW` (U32, CMD; chapter 07). -/
abbrev Reg.hoWithdraw (p : Nat) : Reg := ⟨0x2350 + p, 3, 0⟩
/-- `0x2350+p:04 HO_TABLE` (BLOB, RO; chapter 07). -/
abbrev Reg.hoTable (p : Nat) : Reg := ⟨0x2350 + p, 4, 0⟩
/-- `0x2350+p:05 HO_STATUS` (U8, RO; chapter 07). -/
abbrev Reg.hoStatus (p : Nat) : Reg := ⟨0x2350 + p, 5, 0⟩
/-- `0x2360+p:01 OWNER_KEY` (BLOB, WO; chapter 07). -/
abbrev Reg.ownerKey (p : Nat) : Reg := ⟨0x2360 + p, 1, 0⟩
/-- `0x2360+p:02 OBSERVER_KEY` (BLOB, WO; chapter 07). -/
abbrev Reg.observerKey (p : Nat) : Reg := ⟨0x2360 + p, 2, 0⟩
/-- `0x2360+p:03 KEY_SERIAL` (U32, RO; chapter 07). -/
abbrev Reg.keySerial (p : Nat) : Reg := ⟨0x2360 + p, 3, 0⟩
/-- `0x2360+p:04 PLOT_SESSIONS` (U8, RO; chapter 07). -/
abbrev Reg.plotSessions (p : Nat) : Reg := ⟨0x2360 + p, 4, 0⟩
/-- `0x2370+p:01 PLOT_FAULT` (U32, RO; chapter 07). -/
abbrev Reg.plotFault (p : Nat) : Reg := ⟨0x2370 + p, 1, 0⟩
/-- `0x2370+p:02 PLOT_FAULT_CLEAR` (U32, CMD; chapter 07). -/
abbrev Reg.plotFaultClear (p : Nat) : Reg := ⟨0x2370 + p, 2, 0⟩
/-- `0x2370+p:03 PLOT_FAULT_MASK` (U32, RW; chapter 07). -/
abbrev Reg.plotFaultMask (p : Nat) : Reg := ⟨0x2370 + p, 3, 0⟩
/-- `0x2400:01 PAIR_MODE` (U8, RO; chapter 08). -/
abbrev Reg.pairMode : Reg := ⟨0x2400, 1, 0⟩
/-- `0x2400:02 PAIR_SEAT` (U8, RO; chapter 08). -/
abbrev Reg.pairSeat : Reg := ⟨0x2400, 2, 0⟩
/-- `0x2400:03 PAIR_ROLE` (U8, RO; chapter 08). -/
abbrev Reg.pairRole : Reg := ⟨0x2400, 3, 0⟩
/-- `0x2400:04 PAIR_STATE` (U8, RO; chapter 08). -/
abbrev Reg.pairState : Reg := ⟨0x2400, 4, 0⟩
/-- `0x2400:05 PAIR_AUTH` (BOOL, RO; chapter 08). -/
abbrev Reg.pairAuth : Reg := ⟨0x2400, 5, 0⟩
/-- `0x2400:06 PAIR_PARTNER_AUTH` (BOOL, RO; chapter 08). -/
abbrev Reg.pairPartnerAuth : Reg := ⟨0x2400, 6, 0⟩
/-- `0x2400:07 PAIR_AUTH_SINCE` (TICK, RO; chapter 08). -/
abbrev Reg.pairAuthSince : Reg := ⟨0x2400, 7, 0⟩
/-- `0x2400:08 PAIR_PARTNER_UID` (U64, RO; chapter 08). -/
abbrev Reg.pairPartnerUid : Reg := ⟨0x2400, 8, 0⟩
/-- `0x2400:09 PAIR_SUSPECT` (BOOL, RO; chapter 08). -/
abbrev Reg.pairSuspect : Reg := ⟨0x2400, 9, 0⟩
/-- `0x2400:0A PAIR_SUSPECT_CLEAR` (BOOL, CMD; chapter 08). -/
abbrev Reg.pairSuspectClear : Reg := ⟨0x2400, 10, 0⟩
/-- `0x2400:0B PAIR_LEAVE` (TICK, CMD; chapter 08). -/
abbrev Reg.pairLeave : Reg := ⟨0x2400, 11, 0⟩
/-- `0x2400:0C PAIR_AUTO_GRAFT` (BOOL, RW; chapter 08). -/
abbrev Reg.pairAutoGraft : Reg := ⟨0x2400, 12, 0⟩
/-- `0x2400:0D PAIR_SEL_LEAD` (U16, RW; chapter 08). -/
abbrev Reg.pairSelLead : Reg := ⟨0x2400, 13, 0⟩
/-- `0x2400:0E PAIR_WAIT` (U32, RW; chapter 08). -/
abbrev Reg.pairWait : Reg := ⟨0x2400, 14, 0⟩
/-- `0x2400:0F PAIR_PARTNER_LOST` (BOOL, RO; chapter 08). -/
abbrev Reg.pairPartnerLost : Reg := ⟨0x2400, 15, 0⟩
/-- `0x2400:10 PAIR_TAKE` (BOOL, CMD; chapter 08). -/
abbrev Reg.pairTake : Reg := ⟨0x2400, 16, 0⟩
/-- `0x2401:01 WELT_SEL` (U8, RW; chapter 08). -/
abbrev Reg.weltSel : Reg := ⟨0x2401, 1, 0⟩
/-- `0x2401:02 WELT_STATE` (U8, RO; chapter 08). -/
abbrev Reg.weltState (u : Nat) : Reg := ⟨0x2401, 2, u⟩
/-- `0x2401:03 WELT_LATENCY` (U32, RO; chapter 08). -/
abbrev Reg.weltLatency (u : Nat) : Reg := ⟨0x2401, 3, u⟩
/-- `0x2401:04 WELT_CELL_ERR` (U32, RO; chapter 08). -/
abbrev Reg.weltCellErr (u : Nat) : Reg := ⟨0x2401, 4, u⟩
/-- `0x2401:05 WELT_DOWN_COUNT` (U32, RO; chapter 08). -/
abbrev Reg.weltDownCount (u : Nat) : Reg := ⟨0x2401, 5, u⟩
/-- `0x2402:01 DIV_COUNT` (U32, RO; chapter 08). -/
abbrev Reg.divCount : Reg := ⟨0x2402, 1, 0⟩
/-- `0x2402:02 DIV_LAST_TICK` (TICK, RO; chapter 08). -/
abbrev Reg.divLastTick : Reg := ⟨0x2402, 2, 0⟩
/-- `0x2402:03 DIV_LAST_PLOTS` (U16, RO; chapter 08). -/
abbrev Reg.divLastPlots : Reg := ⟨0x2402, 3, 0⟩
/-- `0x2402:04 DIV_LAST_CASE` (U8, RO; chapter 08). -/
abbrev Reg.divLastCase : Reg := ⟨0x2402, 4, 0⟩
/-- `0x2402:05 DIGEST_MISSING` (U32, RO; chapter 08). -/
abbrev Reg.digestMissing : Reg := ⟨0x2402, 5, 0⟩
/-- `0x2402:06 EVID_COUNT` (U32, RO; chapter 08). -/
abbrev Reg.evidCount : Reg := ⟨0x2402, 6, 0⟩
/-- `0x2402:07 TX_WITHHELD` (U32, RO; chapter 08). -/
abbrev Reg.txWithheld : Reg := ⟨0x2402, 7, 0⟩
/-- `0x2402:08 HANDOVER_COUNT` (U32, RO; chapter 08). -/
abbrev Reg.handoverCount : Reg := ⟨0x2402, 8, 0⟩
/-- `0x2402:09 EDGE_DIV_COUNT` (U32, RO; chapter 08). -/
abbrev Reg.edgeDivCount : Reg := ⟨0x2402, 9, 0⟩
/-- `0x2402:0A AUTH_CONFLICT` (U32, RO; chapter 08). -/
abbrev Reg.authConflict : Reg := ⟨0x2402, 10, 0⟩
/-- `0x2403:01 RECON_SENT` (U32, RO; chapter 08). -/
abbrev Reg.reconSent : Reg := ⟨0x2403, 1, 0⟩
/-- `0x2403:02 RECON_RECV` (U32, RO; chapter 08). -/
abbrev Reg.reconRecv : Reg := ⟨0x2403, 2, 0⟩
/-- `0x2403:03 IN_DIV_COUNT` (U32, RO; chapter 08). -/
abbrev Reg.inDivCount : Reg := ⟨0x2403, 3, 0⟩
/-- `0x2403:04 IN_DIV_LAST` (U32, RO; chapter 08). -/
abbrev Reg.inDivLast : Reg := ⟨0x2403, 4, 0⟩
/-- `0x2403:05 RECON_DUP` (U32, RO; chapter 08). -/
abbrev Reg.reconDup : Reg := ⟨0x2403, 5, 0⟩
/-- `0x2404:01 LIN_SEL` (U8, RW; chapter 08). -/
abbrev Reg.linSel : Reg := ⟨0x2404, 1, 0⟩
/-- `0x2404:02 LIN_MODE` (U8, RW; chapter 08). -/
abbrev Reg.linMode (u : Nat) : Reg := ⟨0x2404, 2, u⟩
/-- `0x2405:01 GRAFT_START` (BOOL, CMD; chapter 08). -/
abbrev Reg.graftStart : Reg := ⟨0x2405, 1, 0⟩
/-- `0x2405:02 GRAFT_PHASE` (U8, RO; chapter 08). -/
abbrev Reg.graftPhase : Reg := ⟨0x2405, 2, 0⟩
/-- `0x2405:03 GRAFT_RESULT` (U8, RO; chapter 08). -/
abbrev Reg.graftResult : Reg := ⟨0x2405, 3, 0⟩
/-- `0x2405:04 GRAFT_PAGES_LEFT` (U32, RO; chapter 08). -/
abbrev Reg.graftPagesLeft : Reg := ⟨0x2405, 4, 0⟩
/-- `0x2405:05 GRAFT_JOIN_TICK` (TICK, RO; chapter 08). -/
abbrev Reg.graftJoinTick : Reg := ⟨0x2405, 5, 0⟩
/-- `0x2405:06 GRAFT_ABORT` (BOOL, CMD; chapter 08). -/
abbrev Reg.graftAbort : Reg := ⟨0x2405, 6, 0⟩
/-- `0x2406:01 PROOF_FAIL_COUNT` (U32, RO; chapter 08). -/
abbrev Reg.proofFailCount : Reg := ⟨0x2406, 1, 0⟩
/-- `0x2406:02 PROOF_LAST` (U32, RO; chapter 08). -/
abbrev Reg.proofLast : Reg := ⟨0x2406, 2, 0⟩
/-- `0x2406:03 PROOF_PASS` (U32, RO; chapter 08). -/
abbrev Reg.proofPass : Reg := ⟨0x2406, 3, 0⟩
/-- `0x2406:04 PROOF_DIV` (U32, RO; chapter 08). -/
abbrev Reg.proofDiv : Reg := ⟨0x2406, 4, 0⟩
/-- `0x2100:01 DPLL_STATE` (U8, RO; chapter 09). -/
abbrev Reg.dpllState : Reg := ⟨0x2100, 1, 0⟩
/-- `0x2100:02 DPLL_REF` (U8, RO; chapter 09). -/
abbrev Reg.dpllRef : Reg := ⟨0x2100, 2, 0⟩
/-- `0x2100:03 DPLL_GRADE` (U8, RO; chapter 09). -/
abbrev Reg.dpllGrade : Reg := ⟨0x2100, 3, 0⟩
/-- `0x2100:04 DPLL_BW_FINAL` (U8, RW; chapter 09). -/
abbrev Reg.dpllBwFinal : Reg := ⟨0x2100, 4, 0⟩
/-- `0x2100:05 DPLL_BW_NOW` (U8, RO; chapter 09). -/
abbrev Reg.dpllBwNow : Reg := ⟨0x2100, 5, 0⟩
/-- `0x2100:06 DPLL_PHASE_ERR` (I32, RO; chapter 09). -/
abbrev Reg.dpllPhaseErr : Reg := ⟨0x2100, 6, 0⟩
/-- `0x2100:07 DPLL_FREQ_OFF` (I64, RO; chapter 09). -/
abbrev Reg.dpllFreqOff : Reg := ⟨0x2100, 7, 0⟩
/-- `0x2100:08 DPLL_HO_FREQ` (I64, RO; chapter 09). -/
abbrev Reg.dpllHoFreq : Reg := ⟨0x2100, 8, 0⟩
/-- `0x2100:09 DPLL_HO_SINCE` (TICK, RO; chapter 09). -/
abbrev Reg.dpllHoSince : Reg := ⟨0x2100, 9, 0⟩
/-- `0x2100:0A DPLL_REVERTIVE` (BOOL, RW; chapter 09). -/
abbrev Reg.dpllRevertive : Reg := ⟨0x2100, 10, 0⟩
/-- `0x2100:0B DPLL_WTR` (U32, RW; chapter 09). -/
abbrev Reg.dpllWtr : Reg := ⟨0x2100, 11, 0⟩
/-- `0x2100:0C DPLL_FSLEW` (U32, RW; chapter 09). -/
abbrev Reg.dpllFslew : Reg := ⟨0x2100, 12, 0⟩
/-- `0x2100:0D DPLL_STEER` (I64, RW; chapter 09). -/
abbrev Reg.dpllSteer : Reg := ⟨0x2100, 13, 0⟩
/-- `0x2100:0E DPLL_LOCKED_SINCE` (TICK, RO; chapter 09). -/
abbrev Reg.dpllLockedSince : Reg := ⟨0x2100, 14, 0⟩
/-- `0x2100:0F DPLL_FORCE` (U8, RW; chapter 09). -/
abbrev Reg.dpllForce : Reg := ⟨0x2100, 15, 0⟩
/-- `0x2100:10 DPLL_STATUS` (U32, RO; chapter 09). -/
abbrev Reg.dpllStatus : Reg := ⟨0x2100, 16, 0⟩
/-- `0x2100:11 DPLL_STICKY` (U32, RO; chapter 09). -/
abbrev Reg.dpllSticky : Reg := ⟨0x2100, 17, 0⟩
/-- `0x2100:12 DPLL_STICKY_CLEAR` (U32, CMD; chapter 09). -/
abbrev Reg.dpllStickyClear : Reg := ⟨0x2100, 18, 0⟩
/-- `0x2100:13 DPLL_IRQ_MASK` (U32, RW; chapter 09). -/
abbrev Reg.dpllIrqMask : Reg := ⟨0x2100, 19, 0⟩
/-- `0x2100:14 DPLL_SWITCH_COUNT` (U32, RO; chapter 09). -/
abbrev Reg.dpllSwitchCount : Reg := ⟨0x2100, 20, 0⟩
/-- `0x2100:15 DPLL_HO_SECONDS` (U32, RO; chapter 09). -/
abbrev Reg.dpllHoSeconds : Reg := ⟨0x2100, 21, 0⟩
/-- `0x2100:16 DPLL_HO_VALID` (U8, RO; chapter 09). -/
abbrev Reg.dpllHoValid : Reg := ⟨0x2100, 22, 0⟩
/-- `0x2100:17 DPLL_HO_DEGRADE` (U32, RW; chapter 09). -/
abbrev Reg.dpllHoDegrade : Reg := ⟨0x2100, 23, 0⟩
/-- `0x2110:01 REF_SEL` (U8, RW; chapter 09). -/
abbrev Reg.refSel : Reg := ⟨0x2110, 1, 0⟩
/-- `0x2110:02 REF_ENABLE` (BOOL, RW; chapter 09). -/
abbrev Reg.refEnable (u : Nat) : Reg := ⟨0x2110, 2, u⟩
/-- `0x2110:03 REF_PRIO` (U8, RW; chapter 09). -/
abbrev Reg.refPrio (u : Nat) : Reg := ⟨0x2110, 3, u⟩
/-- `0x2110:04 REF_MODE` (U8, RW; chapter 09). -/
abbrev Reg.refMode (u : Nat) : Reg := ⟨0x2110, 4, u⟩
/-- `0x2110:05 REF_GRADE_MODE` (U8, RW; chapter 09). -/
abbrev Reg.refGradeMode (u : Nat) : Reg := ⟨0x2110, 5, u⟩
/-- `0x2110:06 REF_GRADE_FIX` (U8, RW; chapter 09). -/
abbrev Reg.refGradeFix (u : Nat) : Reg := ⟨0x2110, 6, u⟩
/-- `0x2110:07 REF_GRADE` (U8, RO; chapter 09). -/
abbrev Reg.refGrade (u : Nat) : Reg := ⟨0x2110, 7, u⟩
/-- `0x2110:08 REF_STATE` (U8, RO; chapter 09). -/
abbrev Reg.refState (u : Nat) : Reg := ⟨0x2110, 8, u⟩
/-- `0x2110:09 REF_FREQ_XREF` (I64, RO; chapter 09). -/
abbrev Reg.refFreqXref (u : Nat) : Reg := ⟨0x2110, 9, u⟩
/-- `0x2110:0A REF_FREQ_MEDIA` (I64, RO; chapter 09). -/
abbrev Reg.refFreqMedia (u : Nat) : Reg := ⟨0x2110, 10, u⟩
/-- `0x2110:0B REF_FAULT` (U16, RO; chapter 09). -/
abbrev Reg.refFault (u : Nat) : Reg := ⟨0x2110, 11, u⟩
/-- `0x2110:0C REF_FAULT_STICKY` (U16, RO; chapter 09). -/
abbrev Reg.refFaultSticky (u : Nat) : Reg := ⟨0x2110, 12, u⟩
/-- `0x2110:0D REF_OFFSET` (I32, RW; chapter 09). -/
abbrev Reg.refOffset (u : Nat) : Reg := ⟨0x2110, 13, u⟩
/-- `0x2110:0E REF_QUAL_TIME` (U16, RW; chapter 09). -/
abbrev Reg.refQualTime (u : Nat) : Reg := ⟨0x2110, 14, u⟩
/-- `0x2110:0F REF_WINDOW` (U32, RW; chapter 09). -/
abbrev Reg.refWindow (u : Nat) : Reg := ⟨0x2110, 15, u⟩
/-- `0x2110:10 REF_SYNCE_PORT` (U8, RW; chapter 09). -/
abbrev Reg.refSyncePort (u : Nat) : Reg := ⟨0x2110, 16, u⟩
/-- `0x2110:11 REF_RATE` (U32, RO; chapter 09). -/
abbrev Reg.refRate (u : Nat) : Reg := ⟨0x2110, 17, u⟩
/-- `0x2120:01 REFOUT_SEL` (U8, RW; chapter 09). -/
abbrev Reg.refoutSel : Reg := ⟨0x2120, 1, 0⟩
/-- `0x2120:02 REFOUT_MODE` (U8, RW; chapter 09). -/
abbrev Reg.refoutMode (u : Nat) : Reg := ⟨0x2120, 2, u⟩
/-- `0x2120:03 REFOUT_MULT` (U8, RW; chapter 09). -/
abbrev Reg.refoutMult (u : Nat) : Reg := ⟨0x2120, 3, u⟩
/-- `0x2120:04 REFOUT_OFFSET` (I32, RW; chapter 09). -/
abbrev Reg.refoutOffset (u : Nat) : Reg := ⟨0x2120, 4, u⟩
/-- `0x2120:05 REFOUT_SQUELCH` (U8, RW; chapter 09). -/
abbrev Reg.refoutSquelch (u : Nat) : Reg := ⟨0x2120, 5, u⟩
/-- `0x2130:01 SYNCE_TX_MASK` (U32, RW; chapter 09). -/
abbrev Reg.synceTxMask : Reg := ⟨0x2130, 1, 0⟩
/-- `0x2130:02 SYNCE_QL_OUT` (U8, RO; chapter 09). -/
abbrev Reg.synceQlOut : Reg := ⟨0x2130, 2, 0⟩
/-- `0x2140:01 CLK_SEL` (U8, RW; chapter 09). -/
abbrev Reg.clkSel : Reg := ⟨0x2140, 1, 0⟩
/-- `0x2140:02 CLK_FREQ` (U64, RO; chapter 09). -/
abbrev Reg.clkFreq (u : Nat) : Reg := ⟨0x2140, 2, u⟩
/-- `0x2140:03 CLK_STATE` (U8, RO; chapter 09). -/
abbrev Reg.clkState (u : Nat) : Reg := ⟨0x2140, 3, u⟩
/-- `0x2140:04 CLK_LOSS_COUNT` (U32, RO; chapter 09). -/
abbrev Reg.clkLossCount (u : Nat) : Reg := ⟨0x2140, 4, u⟩
/-- `0x2150:01 S_BASE` (U32, RW; chapter 09). -/
abbrev Reg.sBase : Reg := ⟨0x2150, 1, 0⟩
/-- `0x2150:02 F_SEL` (U8, RW; chapter 09). -/
abbrev Reg.fSel : Reg := ⟨0x2150, 2, 0⟩
/-- `0x2150:03 F_NOMINAL` (U32, RW; chapter 09). -/
abbrev Reg.fNominal (u : Nat) : Reg := ⟨0x2150, 3, u⟩
/-- `0x2150:04 F_STEER` (I64, RW; chapter 09). -/
abbrev Reg.fSteer (u : Nat) : Reg := ⟨0x2150, 4, u⟩
/-- `0x2200:01 TIME_NOW` (TIME, RO; chapter 10). -/
abbrev Reg.timeNow : Reg := ⟨0x2200, 1, 0⟩
/-- `0x2200:02 TIME_NOW_FRAC` (U32, RO; chapter 10). -/
abbrev Reg.timeNowFrac : Reg := ⟨0x2200, 2, 0⟩
/-- `0x2200:03 TIME_INCR` (U64, RW; chapter 10). -/
abbrev Reg.timeIncr : Reg := ⟨0x2200, 3, 0⟩
/-- `0x2200:04 TIME_MODE` (U8, RO; chapter 10). -/
abbrev Reg.timeMode : Reg := ⟨0x2200, 4, 0⟩
/-- `0x2200:05 TIME_SET` (TIME, CMD; chapter 10). -/
abbrev Reg.timeSet : Reg := ⟨0x2200, 5, 0⟩
/-- `0x2200:06 TIME_ADJ` (I64, CMD; chapter 10). -/
abbrev Reg.timeAdj : Reg := ⟨0x2200, 6, 0⟩
/-- `0x2200:07 TIME_ADJ_LEFT` (I64, RO; chapter 10). -/
abbrev Reg.timeAdjLeft : Reg := ⟨0x2200, 7, 0⟩
/-- `0x2200:08 TIME_SLEW` (U32, RW; chapter 10). -/
abbrev Reg.timeSlew : Reg := ⟨0x2200, 8, 0⟩
/-- `0x2200:09 TIME_STEP` (I64, CMD; chapter 10). -/
abbrev Reg.timeStep : Reg := ⟨0x2200, 9, 0⟩
/-- `0x2200:0A TIME_STEP_COUNT` (U32, RO; chapter 10). -/
abbrev Reg.timeStepCount : Reg := ⟨0x2200, 10, 0⟩
/-- `0x2200:0B TIME_UTC_OFFSET` (I16, RW; chapter 10). -/
abbrev Reg.timeUtcOffset : Reg := ⟨0x2200, 11, 0⟩
/-- `0x2200:0C TIME_SERVO_MODE` (U8, RW; chapter 10). -/
abbrev Reg.timeServoMode : Reg := ⟨0x2200, 12, 0⟩
/-- `0x2210:01 PTP_ROLE` (U8, RW; chapter 10). -/
abbrev Reg.ptpRole : Reg := ⟨0x2210, 1, 0⟩
/-- `0x2210:02 PTP_PROFILE` (U8, RW; chapter 10). -/
abbrev Reg.ptpProfile : Reg := ⟨0x2210, 2, 0⟩
/-- `0x2210:03 PTP_DOMAIN` (U8, RW; chapter 10). -/
abbrev Reg.ptpDomain : Reg := ⟨0x2210, 3, 0⟩
/-- `0x2210:04 PTP_PRIO1` (U8, RW; chapter 10). -/
abbrev Reg.ptpPrio1 : Reg := ⟨0x2210, 4, 0⟩
/-- `0x2210:05 PTP_PRIO2` (U8, RW; chapter 10). -/
abbrev Reg.ptpPrio2 : Reg := ⟨0x2210, 5, 0⟩
/-- `0x2210:06 PTP_SLAVE_ONLY` (BOOL, RW; chapter 10). -/
abbrev Reg.ptpSlaveOnly : Reg := ⟨0x2210, 6, 0⟩
/-- `0x2210:07 PTP_CLOCK_ID` (U64, RO; chapter 10). -/
abbrev Reg.ptpClockId : Reg := ⟨0x2210, 7, 0⟩
/-- `0x2210:08 PTP_TC_MODE` (U8, RW; chapter 10). -/
abbrev Reg.ptpTcMode : Reg := ⟨0x2210, 8, 0⟩
/-- `0x2210:09 PTP_ANN_TIMEOUT` (U8, RW; chapter 10). -/
abbrev Reg.ptpAnnTimeout : Reg := ⟨0x2210, 9, 0⟩
/-- `0x2220:01 PTP_PORT_SEL` (U8, RW; chapter 10). -/
abbrev Reg.ptpPortSel : Reg := ⟨0x2220, 1, 0⟩
/-- `0x2220:02 PTP_PORT_EN` (BOOL, RW; chapter 10). -/
abbrev Reg.ptpPortEn (u : Nat) : Reg := ⟨0x2220, 2, u⟩
/-- `0x2220:03 PTP_PORT_STATE` (U8, RO; chapter 10). -/
abbrev Reg.ptpPortState (u : Nat) : Reg := ⟨0x2220, 3, u⟩
/-- `0x2220:04 PTP_LOG_SYNC` (I8, RW; chapter 10). -/
abbrev Reg.ptpLogSync (u : Nat) : Reg := ⟨0x2220, 4, u⟩
/-- `0x2220:05 PTP_LOG_ANNOUNCE` (I8, RW; chapter 10). -/
abbrev Reg.ptpLogAnnounce (u : Nat) : Reg := ⟨0x2220, 5, u⟩
/-- `0x2220:06 PTP_LOG_DELAY` (I8, RW; chapter 10). -/
abbrev Reg.ptpLogDelay (u : Nat) : Reg := ⟨0x2220, 6, u⟩
/-- `0x2220:07 PTP_TWO_STEP` (BOOL, RW; chapter 10). -/
abbrev Reg.ptpTwoStep (u : Nat) : Reg := ⟨0x2220, 7, u⟩
/-- `0x2220:08 PTP_ASYM` (I32, RW; chapter 10). -/
abbrev Reg.ptpAsym (u : Nat) : Reg := ⟨0x2220, 8, u⟩
/-- `0x2220:09 TS_RX_LAT` (I32, RW; chapter 10). -/
abbrev Reg.tsRxLat (u : Nat) : Reg := ⟨0x2220, 9, u⟩
/-- `0x2220:0A TS_TX_LAT` (I32, RW; chapter 10). -/
abbrev Reg.tsTxLat (u : Nat) : Reg := ⟨0x2220, 10, u⟩
/-- `0x2220:0B PTP_MEAN_DELAY` (I64, RO; chapter 10). -/
abbrev Reg.ptpMeanDelay (u : Nat) : Reg := ⟨0x2220, 11, u⟩
/-- `0x2220:0C PTP_NRR` (I32, RO; chapter 10). -/
abbrev Reg.ptpNrr (u : Nat) : Reg := ⟨0x2220, 12, u⟩
/-- `0x2220:0D LAUNCH_WINDOW` (U32, RW; chapter 10). -/
abbrev Reg.launchWindow (u : Nat) : Reg := ⟨0x2220, 13, u⟩
/-- `0x2220:0E LAUNCH_LATE` (U32, RO; chapter 10). -/
abbrev Reg.launchLate (u : Nat) : Reg := ⟨0x2220, 14, u⟩
/-- `0x2220:0F TC_NO_FOLLOW` (U32, RO; chapter 10). -/
abbrev Reg.tcNoFollow (u : Nat) : Reg := ⟨0x2220, 15, u⟩
/-- `0x2230:01 SERVO_STATE` (U8, RO; chapter 10). -/
abbrev Reg.servoState : Reg := ⟨0x2230, 1, 0⟩
/-- `0x2230:02 SERVO_OFFSET` (I64, RO; chapter 10). -/
abbrev Reg.servoOffset : Reg := ⟨0x2230, 2, 0⟩
/-- `0x2230:03 SERVO_FREQ` (I64, RO; chapter 10). -/
abbrev Reg.servoFreq : Reg := ⟨0x2230, 3, 0⟩
/-- `0x2230:04 PTP_PARENT_ID` (U64, RO; chapter 10). -/
abbrev Reg.ptpParentId : Reg := ⟨0x2230, 4, 0⟩
/-- `0x2230:05 PTP_PARENT_PORT` (U16, RO; chapter 10). -/
abbrev Reg.ptpParentPort : Reg := ⟨0x2230, 5, 0⟩
/-- `0x2230:06 PTP_GM_ID` (U64, RO; chapter 10). -/
abbrev Reg.ptpGmId : Reg := ⟨0x2230, 6, 0⟩
/-- `0x2230:07 PTP_GM_CLASS` (U8, RO; chapter 10). -/
abbrev Reg.ptpGmClass : Reg := ⟨0x2230, 7, 0⟩
/-- `0x2240:01 TS_FIFO` (BLOB, RO; chapter 10). -/
abbrev Reg.tsFifo : Reg := ⟨0x2240, 1, 0⟩
/-- `0x2240:02 TS_FIFO_LEVEL` (U16, RO; chapter 10). -/
abbrev Reg.tsFifoLevel : Reg := ⟨0x2240, 2, 0⟩
/-- `0x2240:03 TS_FIFO_DROP` (U32, RO; chapter 10). -/
abbrev Reg.tsFifoDrop : Reg := ⟨0x2240, 3, 0⟩
/-- `0x2260:01 TEV_SEL` (U8, RW; chapter 10). -/
abbrev Reg.tevSel : Reg := ⟨0x2260, 1, 0⟩
/-- `0x2260:02 TEV_MODE` (U8, RW; chapter 10). -/
abbrev Reg.tevMode (u : Nat) : Reg := ⟨0x2260, 2, u⟩
/-- `0x2260:03 TEV_EDGE` (U8, RW; chapter 10). -/
abbrev Reg.tevEdge (u : Nat) : Reg := ⟨0x2260, 3, u⟩
/-- `0x2260:04 TEV_IDLE` (BOOL, RW; chapter 10). -/
abbrev Reg.tevIdle (u : Nat) : Reg := ⟨0x2260, 4, u⟩
/-- `0x2260:05 TEV_OFFSET` (I32, RW; chapter 10). -/
abbrev Reg.tevOffset (u : Nat) : Reg := ⟨0x2260, 5, u⟩
/-- `0x2260:06 TEV_PERIOD` (U64, RW; chapter 10). -/
abbrev Reg.tevPeriod (u : Nat) : Reg := ⟨0x2260, 6, u⟩
/-- `0x2260:07 TEV_WIDTH` (U32, RW; chapter 10). -/
abbrev Reg.tevWidth (u : Nat) : Reg := ⟨0x2260, 7, u⟩
/-- `0x2260:08 TEV_COUNT` (U32, RW; chapter 10). -/
abbrev Reg.tevCount (u : Nat) : Reg := ⟨0x2260, 8, u⟩
/-- `0x2260:09 TEV_ACTION` (BLOB, CMD; chapter 10). -/
abbrev Reg.tevAction (u : Nat) : Reg := ⟨0x2260, 9, u⟩
/-- `0x2260:0A TEV_ACT_STATUS` (U8, RO; chapter 10). -/
abbrev Reg.tevActStatus (u : Nat) : Reg := ⟨0x2260, 10, u⟩
/-- `0x2260:0B TEV_ACT_LOG` (BLOB, RO; chapter 10). -/
abbrev Reg.tevActLog (u : Nat) : Reg := ⟨0x2260, 11, u⟩
/-- `0x2260:0C TEV_CAP` (BLOB, RO; chapter 10). -/
abbrev Reg.tevCap (u : Nat) : Reg := ⟨0x2260, 12, u⟩
/-- `0x2260:0D TEV_CAP_LEVEL` (U8, RO; chapter 10). -/
abbrev Reg.tevCapLevel (u : Nat) : Reg := ⟨0x2260, 13, u⟩
/-- `0x2260:0E TEV_CAP_DROP` (U32, RO; chapter 10). -/
abbrev Reg.tevCapDrop (u : Nat) : Reg := ⟨0x2260, 14, u⟩
/-- `0x2260:0F TEV_STATE` (BOOL, RO; chapter 10). -/
abbrev Reg.tevState (u : Nat) : Reg := ⟨0x2260, 15, u⟩
/-- `0x3200+n:01 NET_MODE` (U8, RW; chapter 11). -/
abbrev Reg.netMode (n : Nat) : Reg := ⟨0x3200 + n, 1, 0⟩
/-- `0x3200+n:02 NET_FEC` (U8, RW; chapter 11). -/
abbrev Reg.netFec (n : Nat) : Reg := ⟨0x3200 + n, 2, 0⟩
/-- `0x3200+n:03 NET_AN` (BOOL, RW; chapter 11). -/
abbrev Reg.netAn (n : Nat) : Reg := ⟨0x3200 + n, 3, 0⟩
/-- `0x3200+n:04 NET_LINK` (U8, RO; chapter 11). -/
abbrev Reg.netLink (n : Nat) : Reg := ⟨0x3200 + n, 4, 0⟩
/-- `0x3200+n:05 NET_SPEED` (U32, RO; chapter 11). -/
abbrev Reg.netSpeed (n : Nat) : Reg := ⟨0x3200 + n, 5, 0⟩
/-- `0x3200+n:06 NET_PVID` (U16, RW; chapter 11). -/
abbrev Reg.netPvid (n : Nat) : Reg := ⟨0x3200 + n, 6, 0⟩
/-- `0x3200+n:07 NET_ACCEPT` (U8, RW; chapter 11). -/
abbrev Reg.netAccept (n : Nat) : Reg := ⟨0x3200 + n, 7, 0⟩
/-- `0x3200+n:08 NET_PCP_MAP` (U32, RW; chapter 11). -/
abbrev Reg.netPcpMap (n : Nat) : Reg := ⟨0x3200 + n, 8, 0⟩
/-- `0x3200+n:09 NET_QCELLS` (BLOB, RW; chapter 11). -/
abbrev Reg.netQcells (n : Nat) : Reg := ⟨0x3200 + n, 9, 0⟩
/-- `0x3200+n:0A NET_PREEMPT` (U8, RW; chapter 11). -/
abbrev Reg.netPreempt (n : Nat) : Reg := ⟨0x3200 + n, 10, 0⟩
/-- `0x3200+n:0B NET_PREEMPT_STATE` (U8, RO; chapter 11). -/
abbrev Reg.netPreemptState (n : Nat) : Reg := ⟨0x3200 + n, 11, 0⟩
/-- `0x3200+n:0C NET_BASE_GCL` (BLOB, RW; chapter 11). -/
abbrev Reg.netBaseGcl (n : Nat) : Reg := ⟨0x3200 + n, 12, 0⟩
/-- `0x3200+n:0D NET_GCL_ENTRIES` (U16, RO; chapter 11). -/
abbrev Reg.netGclEntries (n : Nat) : Reg := ⟨0x3200 + n, 13, 0⟩
/-- `0x3200+n:0E NET_LEARN` (BOOL, RW; chapter 11). -/
abbrev Reg.netLearn (n : Nat) : Reg := ⟨0x3200 + n, 14, 0⟩
/-- `0x3200+n:0F NET_UNK_FLOOD` (U8, RW; chapter 11). -/
abbrev Reg.netUnkFlood (n : Nat) : Reg := ⟨0x3200 + n, 15, 0⟩
/-- `0x3200+n:10 NET_CTRL_RATE` (U32, RW; chapter 11). -/
abbrev Reg.netCtrlRate (n : Nat) : Reg := ⟨0x3200 + n, 16, 0⟩
/-- `0x3200+n:11 NET_ESMC_QL` (U8, RO; chapter 11). -/
abbrev Reg.netEsmcQl (n : Nat) : Reg := ⟨0x3200 + n, 17, 0⟩
/-- `0x3200+n:12 NET_FLUSH` (BOOL, CMD; chapter 11). -/
abbrev Reg.netFlush (n : Nat) : Reg := ⟨0x3200 + n, 18, 0⟩
/-- `0x3200+n:13 NET_LINK_DOWNS` (U32, RO; chapter 11). -/
abbrev Reg.netLinkDowns (n : Nat) : Reg := ⟨0x3200 + n, 19, 0⟩
/-- `0x3200+n:20 RX_FRAMES` (U64, RO; chapter 11). -/
abbrev Reg.rxFrames (n : Nat) : Reg := ⟨0x3200 + n, 32, 0⟩
/-- `0x3200+n:21 RX_OCTETS` (U64, RO; chapter 11). -/
abbrev Reg.rxOctets (n : Nat) : Reg := ⟨0x3200 + n, 33, 0⟩
/-- `0x3200+n:22 RX_FCS_ERR` (U32, RO; chapter 11). -/
abbrev Reg.rxFcsErr (n : Nat) : Reg := ⟨0x3200 + n, 34, 0⟩
/-- `0x3200+n:23 RX_SIZE_ERR` (U32, RO; chapter 11). -/
abbrev Reg.rxSizeErr (n : Nat) : Reg := ⟨0x3200 + n, 35, 0⟩
/-- `0x3200+n:24 RX_PAUSE` (U32, RO; chapter 11). -/
abbrev Reg.rxPause (n : Nat) : Reg := ⟨0x3200 + n, 36, 0⟩
/-- `0x3200+n:25 RX_FILTERED` (U32, RO; chapter 11). -/
abbrev Reg.rxFiltered (n : Nat) : Reg := ⟨0x3200 + n, 37, 0⟩
/-- `0x3200+n:26 RX_POLICED` (U32, RO; chapter 11). -/
abbrev Reg.rxPoliced (n : Nat) : Reg := ⟨0x3200 + n, 38, 0⟩
/-- `0x3200+n:27 TX_FRAMES` (U64, RO; chapter 11). -/
abbrev Reg.txFrames (n : Nat) : Reg := ⟨0x3200 + n, 39, 0⟩
/-- `0x3200+n:28 TX_OCTETS` (U64, RO; chapter 11). -/
abbrev Reg.txOctets (n : Nat) : Reg := ⟨0x3200 + n, 40, 0⟩
/-- `0x3200+n:29 DROP_QFULL` (U32, RO; chapter 11). -/
abbrev Reg.dropQfull (n : Nat) : Reg := ⟨0x3200 + n, 41, 0⟩
/-- `0x3200+n:2A DROP_GATE` (U32, RO; chapter 11). -/
abbrev Reg.dropGate (n : Nat) : Reg := ⟨0x3200 + n, 42, 0⟩
/-- `0x3200+n:2B DROP_LINK` (U32, RO; chapter 11). -/
abbrev Reg.dropLink (n : Nat) : Reg := ⟨0x3200 + n, 43, 0⟩
/-- `0x3200+n:2C DROP_FILTER` (U32, RO; chapter 11). -/
abbrev Reg.dropFilter (n : Nat) : Reg := ⟨0x3200 + n, 44, 0⟩
/-- `0x3200+n:2D Q_SEL` (U8, RW; chapter 11). -/
abbrev Reg.qSel (n : Nat) : Reg := ⟨0x3200 + n, 45, 0⟩
/-- `0x3200+n:2E Q_TX_FRAMES` (U64, RO; chapter 11). -/
abbrev Reg.qTxFrames (n u : Nat) : Reg := ⟨0x3200 + n, 46, u⟩
/-- `0x3200+n:2F Q_DROPS` (U32, RO; chapter 11). -/
abbrev Reg.qDrops (n u : Nat) : Reg := ⟨0x3200 + n, 47, u⟩
/-- `0x3200+n:30 NET_MM_FRAG` (U32, RO; chapter 11). -/
abbrev Reg.netMmFrag (n : Nat) : Reg := ⟨0x3200 + n, 48, 0⟩
/-- `0x3200+n:31 NET_MM_ERR` (U32, RO; chapter 11). -/
abbrev Reg.netMmErr (n : Nat) : Reg := ⟨0x3200 + n, 49, 0⟩
/-- `0x3400:01 BR_AGE_TIME` (U32, RW; chapter 11). -/
abbrev Reg.brAgeTime : Reg := ⟨0x3400, 1, 0⟩
/-- `0x3400:02 BR_FLAP_HOLD` (U32, RW; chapter 11). -/
abbrev Reg.brFlapHold : Reg := ⟨0x3400, 2, 0⟩
/-- `0x3400:03 BR_MAX_RESIDENCE` (U32, RW; chapter 11). -/
abbrev Reg.brMaxResidence : Reg := ⟨0x3400, 3, 0⟩
/-- `0x3400:04 BR_FDB_COUNT` (U32, RO; chapter 11). -/
abbrev Reg.brFdbCount : Reg := ⟨0x3400, 4, 0⟩
/-- `0x3400:05 BR_LEARN_FULL` (U32, RO; chapter 11). -/
abbrev Reg.brLearnFull : Reg := ⟨0x3400, 5, 0⟩
/-- `0x3400:06 BR_MOVES` (U32, RO; chapter 11). -/
abbrev Reg.brMoves : Reg := ⟨0x3400, 6, 0⟩
/-- `0x3400:07 BR_FLAP_ALARM` (BOOL, RO; chapter 11). -/
abbrev Reg.brFlapAlarm : Reg := ⟨0x3400, 7, 0⟩
/-- `0x3400:08 BR_FLAP_COUNT` (U32, RO; chapter 11). -/
abbrev Reg.brFlapCount : Reg := ⟨0x3400, 8, 0⟩
/-- `0x3400:09 BR_FLAP_BLOCKED` (U32, RO; chapter 11). -/
abbrev Reg.brFlapBlocked : Reg := ⟨0x3400, 9, 0⟩
/-- `0x3400:0A BR_STATIC_CONFLICT` (U32, RO; chapter 11). -/
abbrev Reg.brStaticConflict : Reg := ⟨0x3400, 10, 0⟩
/-- `0x3401:01 FDB_ADD` (BLOB, CMD; chapter 11). -/
abbrev Reg.fdbAdd : Reg := ⟨0x3401, 1, 0⟩
/-- `0x3401:02 FDB_DEL` (BLOB, CMD; chapter 11). -/
abbrev Reg.fdbDel : Reg := ⟨0x3401, 2, 0⟩
/-- `0x3401:03 FDB_CURSOR` (U16, RW; chapter 11). -/
abbrev Reg.fdbCursor : Reg := ⟨0x3401, 3, 0⟩
/-- `0x3401:04 FDB_READ` (BLOB, RO; chapter 11). -/
abbrev Reg.fdbRead : Reg := ⟨0x3401, 4, 0⟩
/-- `0x3401:05 FDB_STATUS` (U8, RO; chapter 11). -/
abbrev Reg.fdbStatus : Reg := ⟨0x3401, 5, 0⟩
/-- `0x3402:01 VLAN_SEL` (U16, RW; chapter 11). -/
abbrev Reg.vlanSel : Reg := ⟨0x3402, 1, 0⟩
/-- `0x3402:02 VLAN_MEMBER` (U32, RW; chapter 11). -/
abbrev Reg.vlanMember (u : Nat) : Reg := ⟨0x3402, 2, u⟩
/-- `0x3402:03 VLAN_UNTAG` (U32, RW; chapter 11). -/
abbrev Reg.vlanUntag (u : Nat) : Reg := ⟨0x3402, 3, u⟩
/-- `0x3402:04 VLAN_FID` (U8, RW; chapter 11). -/
abbrev Reg.vlanFid (u : Nat) : Reg := ⟨0x3402, 4, u⟩
/-- `0x3402:05 VLAN_LEARN` (BOOL, RW; chapter 11). -/
abbrev Reg.vlanLearn (u : Nat) : Reg := ⟨0x3402, 5, u⟩
/-- `0x3403:01 MC_ADD` (BLOB, CMD; chapter 11). -/
abbrev Reg.mcAdd : Reg := ⟨0x3403, 1, 0⟩
/-- `0x3403:02 MC_DEL` (BLOB, CMD; chapter 11). -/
abbrev Reg.mcDel : Reg := ⟨0x3403, 2, 0⟩
/-- `0x3403:03 MC_CURSOR` (U16, RW; chapter 11). -/
abbrev Reg.mcCursor : Reg := ⟨0x3403, 3, 0⟩
/-- `0x3403:04 MC_READ` (BLOB, RO; chapter 11). -/
abbrev Reg.mcRead : Reg := ⟨0x3403, 4, 0⟩
/-- `0x3403:05 MC_COUNT` (U16, RO; chapter 11). -/
abbrev Reg.mcCount : Reg := ⟨0x3403, 5, 0⟩
/-- `0x3403:06 MC_STATUS` (U8, RO; chapter 11). -/
abbrev Reg.mcStatus : Reg := ⟨0x3403, 6, 0⟩
/-- `0x3404:01 ENG_MAC` (U64, RW; chapter 11). -/
abbrev Reg.engMac : Reg := ⟨0x3404, 1, 0⟩
/-- `0x3404:02 ENG_HASH` (BLOB, RO; chapter 11). -/
abbrev Reg.engHash : Reg := ⟨0x3404, 2, 0⟩
/-- `0x3404:03 ENG_HASH_FALSE` (U32, RO; chapter 11). -/
abbrev Reg.engHashFalse : Reg := ⟨0x3404, 3, 0⟩
/-- `0x3405:01 SEG_SENDS` (U32, RO; chapter 11). -/
abbrev Reg.segSends : Reg := ⟨0x3405, 1, 0⟩
/-- `0x3405:02 SEG_FRAMES` (U64, RO; chapter 11). -/
abbrev Reg.segFrames : Reg := ⟨0x3405, 2, 0⟩
/-- `0x3405:03 SEG_REFUSED` (U32, RO; chapter 11). -/
abbrev Reg.segRefused : Reg := ⟨0x3405, 3, 0⟩
/-- `0x3800+s:01 RX_STATE` (U8, RO; chapter 12). -/
abbrev Reg.rxState (s : Nat) : Reg := ⟨0x3800 + s, 1, 0⟩
/-- `0x3800+s:02 RX_CMD` (U8, CMD; chapter 12). -/
abbrev Reg.rxCmd (s : Nat) : Reg := ⟨0x3800 + s, 2, 0⟩
/-- `0x3800+s:03 RX_CMD_AT` (U8, RWT; chapter 12). -/
abbrev Reg.rxCmdAt (s : Nat) : Reg := ⟨0x3800 + s, 3, 0⟩
/-- `0x3800+s:04 RX_STATUS` (U8, RO; chapter 12). -/
abbrev Reg.rxStatus (s : Nat) : Reg := ⟨0x3800 + s, 4, 0⟩
/-- `0x3800+s:05 RX_FORMAT` (U8, RW; chapter 12). -/
abbrev Reg.rxFormat (s : Nat) : Reg := ⟨0x3800 + s, 5, 0⟩
/-- `0x3800+s:06 RX_RATE` (U32, RW; chapter 12). -/
abbrev Reg.rxRate (s : Nat) : Reg := ⟨0x3800 + s, 6, 0⟩
/-- `0x3800+s:07 RX_CHANNELS` (U8, RW; chapter 12). -/
abbrev Reg.rxChannels (s : Nat) : Reg := ⟨0x3800 + s, 7, 0⟩
/-- `0x3800+s:08 RX_PTIME` (U8, RW; chapter 12). -/
abbrev Reg.rxPtime (s : Nat) : Reg := ⟨0x3800 + s, 8, 0⟩
/-- `0x3800+s:09 RX_DOMAIN` (U8, RW; chapter 12). -/
abbrev Reg.rxDomain (s : Nat) : Reg := ⟨0x3800 + s, 9, 0⟩
/-- `0x3800+s:0A RX_CH_BASE` (U16, RW; chapter 12). -/
abbrev Reg.rxChBase (s : Nat) : Reg := ⟨0x3800 + s, 10, 0⟩
/-- `0x3800+s:0B RX_LINK_OFFSET` (U8, RW; chapter 12). -/
abbrev Reg.rxLinkOffset (s : Nat) : Reg := ⟨0x3800 + s, 11, 0⟩
/-- `0x3800+s:0C RX_GUARD` (U16, RW; chapter 12). -/
abbrev Reg.rxGuard (s : Nat) : Reg := ⟨0x3800 + s, 12, 0⟩
/-- `0x3800+s:0D RX_BED_OFFSET` (U32, RW; chapter 12). -/
abbrev Reg.rxBedOffset (s : Nat) : Reg := ⟨0x3800 + s, 13, 0⟩
/-- `0x3800+s:0E RX_LEG0` (BLOB, RW; chapter 12). -/
abbrev Reg.rxLeg0 (s : Nat) : Reg := ⟨0x3800 + s, 14, 0⟩
/-- `0x3800+s:0F RX_LEG1` (BLOB, RW; chapter 12). -/
abbrev Reg.rxLeg1 (s : Nat) : Reg := ⟨0x3800 + s, 15, 0⟩
/-- `0x3800+s:10 RX_TS_OFFSET` (U32, RW; chapter 12). -/
abbrev Reg.rxTsOffset (s : Nat) : Reg := ⟨0x3800 + s, 16, 0⟩
/-- `0x3800+s:11 RX_PT` (U8, RW; chapter 12). -/
abbrev Reg.rxPt (s : Nat) : Reg := ⟨0x3800 + s, 17, 0⟩
/-- `0x3800+s:12 RX_NONAUDIO` (U8, RW; chapter 12). -/
abbrev Reg.rxNonaudio (s : Nat) : Reg := ⟨0x3800 + s, 18, 0⟩
/-- `0x3800+s:13 RX_NA_STATE` (U32, RO; chapter 12). -/
abbrev Reg.rxNaState (s : Nat) : Reg := ⟨0x3800 + s, 19, 0⟩
/-- `0x3800+s:20 RX_PKTS` (U64, RO; chapter 12). -/
abbrev Reg.rxPkts (s : Nat) : Reg := ⟨0x3800 + s, 32, 0⟩
/-- `0x3800+s:21 RX_LATE` (U32, RO; chapter 12). -/
abbrev Reg.rxLate (s : Nat) : Reg := ⟨0x3800 + s, 33, 0⟩
/-- `0x3800+s:22 RX_EARLY` (U32, RO; chapter 12). -/
abbrev Reg.rxEarly (s : Nat) : Reg := ⟨0x3800 + s, 34, 0⟩
/-- `0x3800+s:23 RX_FORMAT_ERR` (U32, RO; chapter 12). -/
abbrev Reg.rxFormatErr (s : Nat) : Reg := ⟨0x3800 + s, 35, 0⟩
/-- `0x3800+s:24 RX_CONCEALED` (U32, RO; chapter 12). -/
abbrev Reg.rxConcealed (s : Nat) : Reg := ⟨0x3800 + s, 36, 0⟩
/-- `0x3800+s:25 RX_SEQ_GAPS` (U32, RO; chapter 12). -/
abbrev Reg.rxSeqGaps (s : Nat) : Reg := ⟨0x3800 + s, 37, 0⟩
/-- `0x3800+s:26 RX_LEG_LOSS` (BLOB, RO; chapter 12). -/
abbrev Reg.rxLegLoss (s : Nat) : Reg := ⟨0x3800 + s, 38, 0⟩
/-- `0x3800+s:27 RX_LEG_DIFF` (U32, RO; chapter 12). -/
abbrev Reg.rxLegDiff (s : Nat) : Reg := ⟨0x3800 + s, 39, 0⟩
/-- `0x3800+s:28 RX_NA_EVENTS` (U32, RO; chapter 12). -/
abbrev Reg.rxNaEvents (s : Nat) : Reg := ⟨0x3800 + s, 40, 0⟩
/-- `0x3800+s:29 RX_LAST_S` (U64, RO; chapter 12). -/
abbrev Reg.rxLastS (s : Nat) : Reg := ⟨0x3800 + s, 41, 0⟩
/-- `0x3C00+s:01 TX_STATE` (U8, RO; chapter 12). -/
abbrev Reg.txState (s : Nat) : Reg := ⟨0x3C00 + s, 1, 0⟩
/-- `0x3C00+s:02 TX_CMD` (U8, CMD; chapter 12). -/
abbrev Reg.txCmd (s : Nat) : Reg := ⟨0x3C00 + s, 2, 0⟩
/-- `0x3C00+s:03 TX_CMD_AT` (U8, RWT; chapter 12). -/
abbrev Reg.txCmdAt (s : Nat) : Reg := ⟨0x3C00 + s, 3, 0⟩
/-- `0x3C00+s:04 TX_STATUS` (U8, RO; chapter 12). -/
abbrev Reg.txStatus (s : Nat) : Reg := ⟨0x3C00 + s, 4, 0⟩
/-- `0x3C00+s:05 TX_FORMAT` (U8, RW; chapter 12). -/
abbrev Reg.txFormat (s : Nat) : Reg := ⟨0x3C00 + s, 5, 0⟩
/-- `0x3C00+s:06 TX_RATE` (U32, RW; chapter 12). -/
abbrev Reg.txRate (s : Nat) : Reg := ⟨0x3C00 + s, 6, 0⟩
/-- `0x3C00+s:07 TX_CHANNELS` (U8, RW; chapter 12). -/
abbrev Reg.txChannels (s : Nat) : Reg := ⟨0x3C00 + s, 7, 0⟩
/-- `0x3C00+s:08 TX_PTIME` (U8, RW; chapter 12). -/
abbrev Reg.txPtime (s : Nat) : Reg := ⟨0x3C00 + s, 8, 0⟩
/-- `0x3C00+s:09 TX_DOMAIN` (U8, RW; chapter 12). -/
abbrev Reg.txDomain (s : Nat) : Reg := ⟨0x3C00 + s, 9, 0⟩
/-- `0x3C00+s:0A TX_CH_BASE` (U16, RW; chapter 12). -/
abbrev Reg.txChBase (s : Nat) : Reg := ⟨0x3C00 + s, 10, 0⟩
/-- `0x3C00+s:0B TX_GATE_OFFSET` (U32, RW; chapter 12). -/
abbrev Reg.txGateOffset (s : Nat) : Reg := ⟨0x3C00 + s, 11, 0⟩
/-- `0x3C00+s:0C TX_LEG0` (BLOB, RW; chapter 12). -/
abbrev Reg.txLeg0 (s : Nat) : Reg := ⟨0x3C00 + s, 12, 0⟩
/-- `0x3C00+s:0D TX_LEG1` (BLOB, RW; chapter 12). -/
abbrev Reg.txLeg1 (s : Nat) : Reg := ⟨0x3C00 + s, 13, 0⟩
/-- `0x3C00+s:0E TX_TS_OFFSET` (U32, RW; chapter 12). -/
abbrev Reg.txTsOffset (s : Nat) : Reg := ⟨0x3C00 + s, 14, 0⟩
/-- `0x3C00+s:0F TX_PT` (U8, RW; chapter 12). -/
abbrev Reg.txPt (s : Nat) : Reg := ⟨0x3C00 + s, 15, 0⟩
/-- `0x3C00+s:10 TX_SSRC` (U32, RW; chapter 12). -/
abbrev Reg.txSsrc (s : Nat) : Reg := ⟨0x3C00 + s, 16, 0⟩
/-- `0x3C00+s:11 TX_FLAGS` (U8, RW; chapter 12). -/
abbrev Reg.txFlags (s : Nat) : Reg := ⟨0x3C00 + s, 17, 0⟩
/-- `0x3C00+s:12 TX_QUEUE` (U8, RW; chapter 12). -/
abbrev Reg.txQueue (s : Nat) : Reg := ⟨0x3C00 + s, 18, 0⟩
/-- `0x3C00+s:13 TX_CS` (BLOB, RW; chapter 12). -/
abbrev Reg.txCs (s : Nat) : Reg := ⟨0x3C00 + s, 19, 0⟩
/-- `0x3C00+s:20 TX_PKTS` (U64, RO; chapter 12). -/
abbrev Reg.txPkts (s : Nat) : Reg := ⟨0x3C00 + s, 32, 0⟩
/-- `0x3C00+s:21 TX_LEG_DROPS` (BLOB, RO; chapter 12). -/
abbrev Reg.txLegDrops (s : Nat) : Reg := ⟨0x3C00 + s, 33, 0⟩
/-- `0x3000+n:01 SAP_STATE` (U8, RO; chapter 13). -/
abbrev Reg.sapState (n : Nat) : Reg := ⟨0x3000 + n, 1, 0⟩
/-- `0x3000+n:02 SAP_CMD` (U8, CMD; chapter 13). -/
abbrev Reg.sapCmd (n : Nat) : Reg := ⟨0x3000 + n, 2, 0⟩
/-- `0x3000+n:03 SAP_CMD_AT` (U8, RWT; chapter 13). -/
abbrev Reg.sapCmdAt (n : Nat) : Reg := ⟨0x3000 + n, 3, 0⟩
/-- `0x3000+n:04 SAP_STATUS` (U8, RO; chapter 13). -/
abbrev Reg.sapStatus (n : Nat) : Reg := ⟨0x3000 + n, 4, 0⟩
/-- `0x3000+n:05 SAP_FORMAT` (U8, RW; chapter 13). -/
abbrev Reg.sapFormat (n : Nat) : Reg := ⟨0x3000 + n, 5, 0⟩
/-- `0x3000+n:06 SAP_CLOCK` (U8, RW; chapter 13). -/
abbrev Reg.sapClock (n : Nat) : Reg := ⟨0x3000 + n, 6, 0⟩
/-- `0x3000+n:07 SAP_SPLIT` (BOOL, RW; chapter 13). -/
abbrev Reg.sapSplit (n : Nat) : Reg := ⟨0x3000 + n, 7, 0⟩
/-- `0x3000+n:08 SAP_DOMAIN` (U8, RW; chapter 13). -/
abbrev Reg.sapDomain (n : Nat) : Reg := ⟨0x3000 + n, 8, 0⟩
/-- `0x3000+n:09 SAP_RATE` (U32, RW; chapter 13). -/
abbrev Reg.sapRate (n : Nat) : Reg := ⟨0x3000 + n, 9, 0⟩
/-- `0x3000+n:0A SAP_NCO` (U8, RW; chapter 13). -/
abbrev Reg.sapNco (n : Nat) : Reg := ⟨0x3000 + n, 10, 0⟩
/-- `0x3000+n:0B SAP_SLOTS` (U8, RW; chapter 13). -/
abbrev Reg.sapSlots (n : Nat) : Reg := ⟨0x3000 + n, 11, 0⟩
/-- `0x3000+n:0C SAP_SLOT_BITS` (U8, RW; chapter 13). -/
abbrev Reg.sapSlotBits (n : Nat) : Reg := ⟨0x3000 + n, 12, 0⟩
/-- `0x3000+n:0D SAP_DATA_BITS` (U8, RW; chapter 13). -/
abbrev Reg.sapDataBits (n : Nat) : Reg := ⟨0x3000 + n, 13, 0⟩
/-- `0x3000+n:0E SAP_FLAGS` (U8, RW; chapter 13). -/
abbrev Reg.sapFlags (n : Nat) : Reg := ⟨0x3000 + n, 14, 0⟩
/-- `0x3000+n:0F SAP_PREROLL` (U16, RW; chapter 13). -/
abbrev Reg.sapPreroll (n : Nat) : Reg := ⟨0x3000 + n, 15, 0⟩
/-- `0x3000+n:10 SAP_POSTROLL` (U16, RW; chapter 13). -/
abbrev Reg.sapPostroll (n : Nat) : Reg := ⟨0x3000 + n, 16, 0⟩
/-- `0x3000+n:11 SAP_RAMP` (U16, RW; chapter 13). -/
abbrev Reg.sapRamp (n : Nat) : Reg := ⟨0x3000 + n, 17, 0⟩
/-- `0x3000+n:12 SAP_MUTE` (BOOL, RW; chapter 13). -/
abbrev Reg.sapMute (n : Nat) : Reg := ⟨0x3000 + n, 18, 0⟩
/-- `0x3000+n:13 SAP_TS_OFFSET` (I32, RW; chapter 13). -/
abbrev Reg.sapTsOffset (n : Nat) : Reg := ⟨0x3000 + n, 19, 0⟩
/-- `0x3000+n:14 SAP_TS_EN` (BOOL, RW; chapter 13). -/
abbrev Reg.sapTsEn (n : Nat) : Reg := ⟨0x3000 + n, 20, 0⟩
/-- `0x3000+n:15 SAP_TS_LAST` (BLOB, RO; chapter 13). -/
abbrev Reg.sapTsLast (n : Nat) : Reg := ⟨0x3000 + n, 21, 0⟩
/-- `0x3000+n:16 SAP_PHASE` (I32, RO; chapter 13). -/
abbrev Reg.sapPhase (n : Nat) : Reg := ⟨0x3000 + n, 22, 0⟩
/-- `0x3000+n:17 SAP_RATE_MEAS` (U32, RO; chapter 13). -/
abbrev Reg.sapRateMeas (n : Nat) : Reg := ⟨0x3000 + n, 23, 0⟩
/-- `0x3000+n:18 SAP_RATE_CLASS` (U32, RO; chapter 13). -/
abbrev Reg.sapRateClass (n : Nat) : Reg := ⟨0x3000 + n, 24, 0⟩
/-- `0x3000+n:19 SAP_EVENTS` (U16, RO; chapter 13). -/
abbrev Reg.sapEvents (n : Nat) : Reg := ⟨0x3000 + n, 25, 0⟩
/-- `0x3000+n:1A SAP_EVENT_CLEAR` (U16, CMD; chapter 13). -/
abbrev Reg.sapEventClear (n : Nat) : Reg := ⟨0x3000 + n, 26, 0⟩
/-- `0x3000+n:1B SAP_EVENT_MASK` (U16, RW; chapter 13). -/
abbrev Reg.sapEventMask (n : Nat) : Reg := ⟨0x3000 + n, 27, 0⟩
/-- `0x3000+n:1C SAP_NONAUDIO` (U8, RW; chapter 13). -/
abbrev Reg.sapNonaudio (n : Nat) : Reg := ⟨0x3000 + n, 28, 0⟩
/-- `0x3000+n:1D SAP_NA_STATE` (U16, RO; chapter 13). -/
abbrev Reg.sapNaState (n : Nat) : Reg := ⟨0x3000 + n, 29, 0⟩
/-- `0x3000+n:1E SAP_CS_TX` (BLOB, RW; chapter 13). -/
abbrev Reg.sapCsTx (n : Nat) : Reg := ⟨0x3000 + n, 30, 0⟩
/-- `0x3000+n:1F SAP_CS_RX` (BLOB, RO; chapter 13). -/
abbrev Reg.sapCsRx (n : Nat) : Reg := ⟨0x3000 + n, 31, 0⟩
/-- `0x3000+n:20 SAP_FRAMES` (U64, RO; chapter 13). -/
abbrev Reg.sapFrames (n : Nat) : Reg := ⟨0x3000 + n, 32, 0⟩
/-- `0x3000+n:21 SAP_SLIP` (U32, RO; chapter 13). -/
abbrev Reg.sapSlip (n : Nat) : Reg := ⟨0x3000 + n, 33, 0⟩
/-- `0x3000+n:22 SAP_CLK_LOST` (U32, RO; chapter 13). -/
abbrev Reg.sapClkLost (n : Nat) : Reg := ⟨0x3000 + n, 34, 0⟩
/-- `0x3000+n:23 SAP_SAT` (U32, RO; chapter 13). -/
abbrev Reg.sapSat (n : Nat) : Reg := ⟨0x3000 + n, 35, 0⟩
/-- `0x3000+n:24 SAP_AES_ERR` (U32, RO; chapter 13). -/
abbrev Reg.sapAesErr (n : Nat) : Reg := ⟨0x3000 + n, 36, 0⟩
/-- `0x3000+n:25 SAP_CS_ERR` (U32, RO; chapter 13). -/
abbrev Reg.sapCsErr (n : Nat) : Reg := ⟨0x3000 + n, 37, 0⟩
/-- `0x3000+n:26 SAP_NA_EVENTS` (U32, RO; chapter 13). -/
abbrev Reg.sapNaEvents (n : Nat) : Reg := ⟨0x3000 + n, 38, 0⟩
/-- `0x3000+n:27 SAP_CONCEALED` (U32, RO; chapter 13). -/
abbrev Reg.sapConcealed (n : Nat) : Reg := ⟨0x3000 + n, 39, 0⟩
/-- `0x3100+n:01 PSC_STATE` (U8, RO; chapter 14). -/
abbrev Reg.pscState (n : Nat) : Reg := ⟨0x3100 + n, 1, 0⟩
/-- `0x3100+n:02 PSC_CMD` (U8, CMD; chapter 14). -/
abbrev Reg.pscCmd (n : Nat) : Reg := ⟨0x3100 + n, 2, 0⟩
/-- `0x3100+n:03 PSC_CMD_AT` (U8, RWT; chapter 14). -/
abbrev Reg.pscCmdAt (n : Nat) : Reg := ⟨0x3100 + n, 3, 0⟩
/-- `0x3100+n:04 PSC_STATUS` (U8, RO; chapter 14). -/
abbrev Reg.pscStatus (n : Nat) : Reg := ⟨0x3100 + n, 4, 0⟩
/-- `0x3100+n:05 PSC_FLAGS` (U8, RW; chapter 14). -/
abbrev Reg.pscFlags (n : Nat) : Reg := ⟨0x3100 + n, 5, 0⟩
/-- `0x3100+n:06 PSC_DEAD_TIME` (U32, RW; chapter 14). -/
abbrev Reg.pscDeadTime (n : Nat) : Reg := ⟨0x3100 + n, 6, 0⟩
/-- `0x3100+n:07 PSC_CARRIER_PHASE` (U8, RW; chapter 14). -/
abbrev Reg.pscCarrierPhase (n : Nat) : Reg := ⟨0x3100 + n, 7, 0⟩
/-- `0x3100+n:08 PSC_DUTY_MAX` (Q31, RW; chapter 14). -/
abbrev Reg.pscDutyMax (n : Nat) : Reg := ⟨0x3100 + n, 8, 0⟩
/-- `0x3100+n:09 PSC_VFS` (U32, RW; chapter 14). -/
abbrev Reg.pscVfs (n : Nat) : Reg := ⟨0x3100 + n, 9, 0⟩
/-- `0x3100+n:0A PSC_VSNS_FS` (U32, RW; chapter 14). -/
abbrev Reg.pscVsnsFs (n : Nat) : Reg := ⟨0x3100 + n, 10, 0⟩
/-- `0x3100+n:0B PSC_ISNS_FS` (U32, RW; chapter 14). -/
abbrev Reg.pscIsnsFs (n : Nat) : Reg := ⟨0x3100 + n, 11, 0⟩
/-- `0x3100+n:0C PSC_SNS_CAL` (BLOB, RW; chapter 14). -/
abbrev Reg.pscSnsCal (n : Nat) : Reg := ⟨0x3100 + n, 12, 0⟩
/-- `0x3100+n:0D PSC_LOOP_MODE` (U8, RW; chapter 14). -/
abbrev Reg.pscLoopMode (n : Nat) : Reg := ⟨0x3100 + n, 13, 0⟩
/-- `0x3100+n:0E PSC_LOOP_COEF` (BLOB, RW; chapter 14). -/
abbrev Reg.pscLoopCoef (n : Nat) : Reg := ⟨0x3100 + n, 14, 0⟩
/-- `0x3100+n:0F PSC_LOOP_SWAP_AT` (TICK, CMD; chapter 14). -/
abbrev Reg.pscLoopSwapAt (n : Nat) : Reg := ⟨0x3100 + n, 15, 0⟩
/-- `0x3100+n:10 PSC_LOOP_ACTIVE` (U8, RO; chapter 14). -/
abbrev Reg.pscLoopActive (n : Nat) : Reg := ⟨0x3100 + n, 16, 0⟩
/-- `0x3100+n:11 PSC_RAMP` (U16, RW; chapter 14). -/
abbrev Reg.pscRamp (n : Nat) : Reg := ⟨0x3100 + n, 17, 0⟩
/-- `0x3100+n:12 PSC_PEAK_LIMIT` (I32, RW; chapter 14). -/
abbrev Reg.pscPeakLimit (n : Nat) : Reg := ⟨0x3100 + n, 18, 0⟩
/-- `0x3100+n:13 PSC_PEAK_REL` (U32, RW; chapter 14). -/
abbrev Reg.pscPeakRel (n : Nat) : Reg := ⟨0x3100 + n, 19, 0⟩
/-- `0x3100+n:14 PSC_RMS_LIMIT` (I32, RW; chapter 14). -/
abbrev Reg.pscRmsLimit (n : Nat) : Reg := ⟨0x3100 + n, 20, 0⟩
/-- `0x3100+n:15 PSC_RMS_TAU` (U32, RW; chapter 14). -/
abbrev Reg.pscRmsTau (n : Nat) : Reg := ⟨0x3100 + n, 21, 0⟩
/-- `0x3100+n:16 PSC_RMS_ATT` (U32, RW; chapter 14). -/
abbrev Reg.pscRmsAtt (n : Nat) : Reg := ⟨0x3100 + n, 22, 0⟩
/-- `0x3100+n:17 PSC_RMS_REL` (U32, RW; chapter 14). -/
abbrev Reg.pscRmsRel (n : Nat) : Reg := ⟨0x3100 + n, 23, 0⟩
/-- `0x3100+n:18 PSC_DC_LIMIT` (U16, RW; chapter 14). -/
abbrev Reg.pscDcLimit (n : Nat) : Reg := ⟨0x3100 + n, 24, 0⟩
/-- `0x3100+n:19 PSC_OC_LIMIT` (U32, RW; chapter 14). -/
abbrev Reg.pscOcLimit (n : Nat) : Reg := ⟨0x3100 + n, 25, 0⟩
/-- `0x3100+n:1A PSC_OC_RESTART` (U32, RW; chapter 14). -/
abbrev Reg.pscOcRestart (n : Nat) : Reg := ⟨0x3100 + n, 26, 0⟩
/-- `0x3100+n:1B PSC_THERM_KNEE` (I16, RW; chapter 14). -/
abbrev Reg.pscThermKnee (n : Nat) : Reg := ⟨0x3100 + n, 27, 0⟩
/-- `0x3100+n:1C PSC_THERM_TRIP` (I16, RW; chapter 14). -/
abbrev Reg.pscThermTrip (n : Nat) : Reg := ⟨0x3100 + n, 28, 0⟩
/-- `0x3100+n:1D PSC_THERM_RESTART` (I16, RW; chapter 14). -/
abbrev Reg.pscThermRestart (n : Nat) : Reg := ⟨0x3100 + n, 29, 0⟩
/-- `0x3100+n:1E PSC_SLEEP_DET` (U16, RW; chapter 14). -/
abbrev Reg.pscSleepDet (n : Nat) : Reg := ⟨0x3100 + n, 30, 0⟩
/-- `0x3100+n:1F PSC_WAKE_DET` (U16, RW; chapter 14). -/
abbrev Reg.pscWakeDet (n : Nat) : Reg := ⟨0x3100 + n, 31, 0⟩
/-- `0x3100+n:20 PSC_BRACE_GAIN` (I32, RW; chapter 14). -/
abbrev Reg.pscBraceGain (n : Nat) : Reg := ⟨0x3100 + n, 32, 0⟩
/-- `0x3100+n:21 PSC_BRACE_DORMANT` (BOOL, RW; chapter 14). -/
abbrev Reg.pscBraceDormant (n : Nat) : Reg := ⟨0x3100 + n, 33, 0⟩
/-- `0x3100+n:22 PSC_PILOT` (U8, RW; chapter 14). -/
abbrev Reg.pscPilot (n : Nat) : Reg := ⟨0x3100 + n, 34, 0⟩
/-- `0x3100+n:23 PSC_PILOT_LEVEL` (I32, RW; chapter 14). -/
abbrev Reg.pscPilotLevel (n : Nat) : Reg := ⟨0x3100 + n, 35, 0⟩
/-- `0x3100+n:24 PSC_Z_MIN` (U32, RW; chapter 14). -/
abbrev Reg.pscZMin (n : Nat) : Reg := ⟨0x3100 + n, 36, 0⟩
/-- `0x3100+n:25 PSC_Z_MAX` (U32, RW; chapter 14). -/
abbrev Reg.pscZMax (n : Nat) : Reg := ⟨0x3100 + n, 37, 0⟩
/-- `0x3100+n:26 PSC_Z_MAG` (U32, RO; chapter 14). -/
abbrev Reg.pscZMag (n : Nat) : Reg := ⟨0x3100 + n, 38, 0⟩
/-- `0x3100+n:27 PSC_Z_PHASE` (I32, RO; chapter 14). -/
abbrev Reg.pscZPhase (n : Nat) : Reg := ⟨0x3100 + n, 39, 0⟩
/-- `0x3100+n:28 PSC_Z_VALID` (BOOL, RO; chapter 14). -/
abbrev Reg.pscZValid (n : Nat) : Reg := ⟨0x3100 + n, 40, 0⟩
/-- `0x3100+n:29 PSC_GAIN_NOW` (I32, RO; chapter 14). -/
abbrev Reg.pscGainNow (n : Nat) : Reg := ⟨0x3100 + n, 41, 0⟩
/-- `0x3100+n:2A PSC_TEMP` (I32, RO; chapter 14). -/
abbrev Reg.pscTemp (n : Nat) : Reg := ⟨0x3100 + n, 42, 0⟩
/-- `0x3100+n:2B PSC_FAULT` (U8, RO; chapter 14). -/
abbrev Reg.pscFault (n : Nat) : Reg := ⟨0x3100 + n, 43, 0⟩
/-- `0x3100+n:2C PSC_FAULT_CLEAR` (BOOL, CMD; chapter 14). -/
abbrev Reg.pscFaultClear (n : Nat) : Reg := ⟨0x3100 + n, 44, 0⟩
/-- `0x3100+n:2D PSC_EVENTS` (U16, RO; chapter 14). -/
abbrev Reg.pscEvents (n : Nat) : Reg := ⟨0x3100 + n, 45, 0⟩
/-- `0x3100+n:2E PSC_EVENT_CLEAR` (U16, CMD; chapter 14). -/
abbrev Reg.pscEventClear (n : Nat) : Reg := ⟨0x3100 + n, 46, 0⟩
/-- `0x3100+n:2F PSC_EVENT_MASK` (U16, RW; chapter 14). -/
abbrev Reg.pscEventMask (n : Nat) : Reg := ⟨0x3100 + n, 47, 0⟩
/-- `0x3100+n:30 PSC_TRIPS` (U32, RO; chapter 14). -/
abbrev Reg.pscTrips (n : Nat) : Reg := ⟨0x3100 + n, 48, 0⟩
/-- `0x3100+n:31 PSC_OC_CYCLES` (U32, RO; chapter 14). -/
abbrev Reg.pscOcCycles (n : Nat) : Reg := ⟨0x3100 + n, 49, 0⟩
/-- `0x3100+n:32 PSC_CLAMP` (U32, RO; chapter 14). -/
abbrev Reg.pscClamp (n : Nat) : Reg := ⟨0x3100 + n, 50, 0⟩
/-- `0x3100+n:33 PSC_TS_CAL` (BLOB, RW; chapter 14). -/
abbrev Reg.pscTsCal (n : Nat) : Reg := ⟨0x3100 + n, 51, 0⟩
/-- `0x2060:01 TRL_DECERR` (U32, RO; chapter 15). -/
abbrev Reg.trlDecerr : Reg := ⟨0x2060, 1, 0⟩
/-- `0x2060:02 TRL_SLVERR` (U32, RO; chapter 15). -/
abbrev Reg.trlSlverr : Reg := ⟨0x2060, 2, 0⟩
/-- `0x2060:03 TRL_TIMEOUT` (U32, RO; chapter 15). -/
abbrev Reg.trlTimeout : Reg := ⟨0x2060, 3, 0⟩
/-- `0x2060:04 TRL_PARITY` (U32, RO; chapter 15). -/
abbrev Reg.trlParity : Reg := ⟨0x2060, 4, 0⟩
/-- `0x2060:05 TRL_LAST_ERR` (U64, RO; chapter 15). -/
abbrev Reg.trlLastErr : Reg := ⟨0x2060, 5, 0⟩
/-- `0x2060:06 TRL_PORT_SEL` (U8, RW; chapter 15). -/
abbrev Reg.trlPortSel : Reg := ⟨0x2060, 6, 0⟩
/-- `0x2060:07 TRL_PORT_BOOKED` (U32, RO; chapter 15). -/
abbrev Reg.trlPortBooked (u : Nat) : Reg := ⟨0x2060, 7, u⟩
/-- `0x2061:01 MEM_SEL` (U8, RW; chapter 15). -/
abbrev Reg.memSel : Reg := ⟨0x2061, 1, 0⟩
/-- `0x2061:02 MEM_CECC` (U32, RO; chapter 15). -/
abbrev Reg.memCecc (u : Nat) : Reg := ⟨0x2061, 2, u⟩
/-- `0x2061:03 MEM_UECC` (U32, RO; chapter 15). -/
abbrev Reg.memUecc (u : Nat) : Reg := ⟨0x2061, 3, u⟩
/-- `0x2061:04 MEM_SCRUB_PASS` (U32, RO; chapter 15). -/
abbrev Reg.memScrubPass (u : Nat) : Reg := ⟨0x2061, 4, u⟩
/-- `0x2061:05 MEM_LAST_UECC` (U64, RO; chapter 15). -/
abbrev Reg.memLastUecc (u : Nat) : Reg := ⟨0x2061, 5, u⟩
/-- `0x2062:01 DRAM_SIZE` (U32, RO; chapter 15). -/
abbrev Reg.dramSize : Reg := ⟨0x2062, 1, 0⟩
/-- `0x2062:02 DRAM_DERATE` (U8, RO; chapter 15). -/
abbrev Reg.dramDerate : Reg := ⟨0x2062, 2, 0⟩
/-- `0x2062:03 DRAM_HOT` (BOOL, RO; chapter 15). -/
abbrev Reg.dramHot : Reg := ⟨0x2062, 3, 0⟩
/-- `0x4E40+p:01 DMA_SEL` (U8, RW; chapter 15). -/
abbrev Reg.dmaSel (p : Nat) : Reg := ⟨0x4E40 + p, 1, 0⟩
/-- `0x4E40+p:02 DMA_RUNS` (U32, RO; chapter 15). -/
abbrev Reg.dmaRuns (p u : Nat) : Reg := ⟨0x4E40 + p, 2, u⟩
/-- `0x4E40+p:03 DMA_IDLE` (U32, RO; chapter 15). -/
abbrev Reg.dmaIdle (p u : Nat) : Reg := ⟨0x4E40 + p, 3, u⟩
/-- `0x4E40+p:04 DMA_FAIL` (U32, RO; chapter 15). -/
abbrev Reg.dmaFail (p u : Nat) : Reg := ⟨0x4E40 + p, 4, u⟩
/-- `0x1000:01 ID_VENDOR` (STR32, RO; chapter 16). -/
abbrev Reg.idVendor : Reg := ⟨0x1000, 1, 0⟩
/-- `0x1000:02 ID_PART` (STR32, RO; chapter 16). -/
abbrev Reg.idPart : Reg := ⟨0x1000, 2, 0⟩
/-- `0x1000:03 ID_ORDER` (U8, RO; chapter 16). -/
abbrev Reg.idOrder : Reg := ⟨0x1000, 3, 0⟩
/-- `0x1000:04 ID_STEPPING` (U8, RO; chapter 16). -/
abbrev Reg.idStepping : Reg := ⟨0x1000, 4, 0⟩
/-- `0x1000:05 ID_UID` (U64, RO; chapter 16). -/
abbrev Reg.idUid : Reg := ⟨0x1000, 5, 0⟩
/-- `0x1000:06 ID_FW_BUILD` (U64, RO; chapter 16). -/
abbrev Reg.idFwBuild : Reg := ⟨0x1000, 6, 0⟩
/-- `0x1000:07 ID_ADDR` (U8, RO; chapter 16). -/
abbrev Reg.idAddr : Reg := ⟨0x1000, 7, 0⟩
/-- `0x1000:08 ID_PAIR` (U8, RO; chapter 16). -/
abbrev Reg.idPair : Reg := ⟨0x1000, 8, 0⟩
/-- `0x1100:01 IP_SEL` (U8, RW; chapter 16). -/
abbrev Reg.ipSel : Reg := ⟨0x1100, 1, 0⟩
/-- `0x1100:02 IP_IFACE` (BLOB, RW; chapter 16). -/
abbrev Reg.ipIface (u : Nat) : Reg := ⟨0x1100, 2, u⟩
/-- `0x1200:01 SESSION_COUNT` (U8, RO; chapter 16). -/
abbrev Reg.sessionCount : Reg := ⟨0x1200, 1, 0⟩
/-- `0x1200:02 SESSION_TIMEOUT` (U16, RW; chapter 16). -/
abbrev Reg.sessionTimeout : Reg := ⟨0x1200, 2, 0⟩
/-- `0x1200:03 SESSION_SEL` (U8, RW; chapter 16). -/
abbrev Reg.sessionSel : Reg := ⟨0x1200, 3, 0⟩
/-- `0x1200:04 SESSION_INFO` (BLOB, RO; chapter 16). -/
abbrev Reg.sessionInfo (u : Nat) : Reg := ⟨0x1200, 4, u⟩
/-- `0x1200:05 LOGIN_FAIL` (U32, RO; chapter 16). -/
abbrev Reg.loginFail : Reg := ⟨0x1200, 5, 0⟩
/-- `0x1200:06 LOCKOUT_COUNT` (U32, RO; chapter 16). -/
abbrev Reg.lockoutCount : Reg := ⟨0x1200, 6, 0⟩
/-- `0x1200:07 CLAIM_MAP` (U32, RO; chapter 16). -/
abbrev Reg.claimMap : Reg := ⟨0x1200, 7, 0⟩
/-- `0x1200:08 GARDENER_KEY` (BLOB, WO; chapter 16). -/
abbrev Reg.gardenerKey : Reg := ⟨0x1200, 8, 0⟩
/-- `0x1200:09 OMP_RX` (U64, RO; chapter 16). -/
abbrev Reg.ompRx : Reg := ⟨0x1200, 9, 0⟩
/-- `0x1200:0A OMP_TX` (U64, RO; chapter 16). -/
abbrev Reg.ompTx : Reg := ⟨0x1200, 10, 0⟩
/-- `0x1200:0B NOTIFY_DROPPED` (U32, RO; chapter 16). -/
abbrev Reg.notifyDropped : Reg := ⟨0x1200, 11, 0⟩
/-- `0x1200:0C OMP_DROPPED` (U32, RO; chapter 16). -/
abbrev Reg.ompDropped : Reg := ⟨0x1200, 12, 0⟩
/-- `0x1300:01 ADDR_MODE` (U8, RO; chapter 16). -/
abbrev Reg.addrMode : Reg := ⟨0x1300, 1, 0⟩
/-- `0x1300:02 ADDR_SOURCE` (U8, RW; chapter 16). -/
abbrev Reg.addrSource : Reg := ⟨0x1300, 2, 0⟩
/-- `0x1300:03 ADDR_STATE` (U8, RO; chapter 16). -/
abbrev Reg.addrState : Reg := ⟨0x1300, 3, 0⟩
/-- `0x1300:04 ADDR_RESTART` (BOOL, CMD; chapter 16). -/
abbrev Reg.addrRestart : Reg := ⟨0x1300, 4, 0⟩
/-- `0x1300:05 ADDR_HIGHEST` (U8, RO; chapter 16). -/
abbrev Reg.addrHighest : Reg := ⟨0x1300, 5, 0⟩
/-- `0x1400+r:01 RING_OPEN` (BLOB, CMD; chapter 16). -/
abbrev Reg.ringOpen (r : Nat) : Reg := ⟨0x1400 + r, 1, 0⟩
/-- `0x1400+r:02 RING_CLOSE` (BOOL, CMD; chapter 16). -/
abbrev Reg.ringClose (r : Nat) : Reg := ⟨0x1400 + r, 2, 0⟩
/-- `0x1400+r:03 RING_OWNER` (U8, RO; chapter 16). -/
abbrev Reg.ringOwner (r : Nat) : Reg := ⟨0x1400 + r, 3, 0⟩
/-- `0x1400+r:04 RING_PAGES_SEALED` (U64, RO; chapter 16). -/
abbrev Reg.ringPagesSealed (r : Nat) : Reg := ⟨0x1400 + r, 4, 0⟩
/-- `0x3300:01 T1S_ACCESS` (U8, RW; chapter 16). -/
abbrev Reg.t1sAccess : Reg := ⟨0x3300, 1, 0⟩
/-- `0x3300:02 T1S_PLCA_COUNT` (U8, RW; chapter 16). -/
abbrev Reg.t1sPlcaCount : Reg := ⟨0x3300, 2, 0⟩
/-- `0x3300:03 T1S_PLCA_TO` (U8, RW; chapter 16). -/
abbrev Reg.t1sPlcaTo : Reg := ⟨0x3300, 3, 0⟩
/-- `0x3300:04 T1S_STATUS` (U8, RO; chapter 16). -/
abbrev Reg.t1sStatus : Reg := ⟨0x3300, 4, 0⟩
/-- `0x3300:05 T1S_COLLISIONS` (U32, RO; chapter 16). -/
abbrev Reg.t1sCollisions : Reg := ⟨0x3300, 5, 0⟩
/-- `0x3300:06 T1S_RX_ERR` (U32, RO; chapter 16). -/
abbrev Reg.t1sRxErr : Reg := ⟨0x3300, 6, 0⟩
/-- `0x5500+p:01 MTR_SET` (BLOB, RW; chapter 17). -/
abbrev Reg.mtrSet (p : Nat) : Reg := ⟨0x5500 + p, 1, 0⟩
/-- `0x5500+p:02 MTR_PERIOD` (U16, RW; chapter 17). -/
abbrev Reg.mtrPeriod (p : Nat) : Reg := ⟨0x5500 + p, 2, 0⟩
/-- `0x5500+p:03 MTR_STATUS` (U8, RO; chapter 17). -/
abbrev Reg.mtrStatus (p : Nat) : Reg := ⟨0x5500 + p, 3, 0⟩
/-- `0x6000+p:01 MTR_VALUES` (BLOB, RO; chapter 17). -/
abbrev Reg.mtrValues (p : Nat) : Reg := ⟨0x6000 + p, 1, 0⟩
/-- `0x6000+p:02 MTR_TICK` (TICK, RO; chapter 17). -/
abbrev Reg.mtrTick (p : Nat) : Reg := ⟨0x6000 + p, 2, 0⟩
/-- `0x6000+p:03 MTR_COUNT` (U16, RO; chapter 17). -/
abbrev Reg.mtrCount (p : Nat) : Reg := ⟨0x6000 + p, 3, 0⟩
/-- `0x2000:01 RST_CAUSE` (U16, RO; chapter 18). -/
abbrev Reg.rstCause : Reg := ⟨0x2000, 1, 0⟩
/-- `0x2000:02 RST_COUNT` (BLOB, RO; chapter 18). -/
abbrev Reg.rstCount : Reg := ⟨0x2000, 2, 0⟩
/-- `0x2000:03 RST_CMD` (U32, CMD; chapter 18). -/
abbrev Reg.rstCmd : Reg := ⟨0x2000, 3, 0⟩
/-- `0x2000:04 RST_LAST_TICK` (TICK, RO; chapter 18). -/
abbrev Reg.rstLastTick : Reg := ⟨0x2000, 4, 0⟩
/-- `0x2000:05 RST_PIN_EVENTS` (U32, RO; chapter 18). -/
abbrev Reg.rstPinEvents : Reg := ⟨0x2000, 5, 0⟩
/-- `0x2010:01 SUP_STATE` (U8, RO; chapter 18). -/
abbrev Reg.supState : Reg := ⟨0x2010, 1, 0⟩
/-- `0x2010:02 SUP_FLAGS` (U32, RO; chapter 18). -/
abbrev Reg.supFlags : Reg := ⟨0x2010, 2, 0⟩
/-- `0x2010:03 SUP_CAUTION_COUNT` (U32, RO; chapter 18). -/
abbrev Reg.supCautionCount : Reg := ⟨0x2010, 3, 0⟩
/-- `0x2010:04 SUP_FAIL_COUNT` (U32, RO; chapter 18). -/
abbrev Reg.supFailCount : Reg := ⟨0x2010, 4, 0⟩
/-- `0x2020:01 BRACE_STATE` (U8, RO; chapter 18). -/
abbrev Reg.braceState : Reg := ⟨0x2020, 1, 0⟩
/-- `0x2020:02 BRACE_COUNT` (U32, RO; chapter 18). -/
abbrev Reg.braceCount : Reg := ⟨0x2020, 2, 0⟩
/-- `0x2020:03 BRACE_SINCE` (TICK, RO; chapter 18). -/
abbrev Reg.braceSince : Reg := ⟨0x2020, 3, 0⟩
/-- `0x2020:04 PWR_INPUTS` (U8, RO; chapter 18). -/
abbrev Reg.pwrInputs : Reg := ⟨0x2020, 4, 0⟩
/-- `0x2030:01 FW_ACTIVE` (U8, RO; chapter 18). -/
abbrev Reg.fwActive : Reg := ⟨0x2030, 1, 0⟩
/-- `0x2030:02 FW_STAGE` (BLOB, WO; chapter 18). -/
abbrev Reg.fwStage : Reg := ⟨0x2030, 2, 0⟩
/-- `0x2030:03 FW_SWITCH` (BOOL, CMD; chapter 18). -/
abbrev Reg.fwSwitch : Reg := ⟨0x2030, 3, 0⟩
/-- `0x2030:04 FW_STATE` (U8, RO; chapter 18). -/
abbrev Reg.fwState : Reg := ⟨0x2030, 4, 0⟩
/-- `0x2030:05 FW_BUILD_ALT` (U64, RO; chapter 18). -/
abbrev Reg.fwBuildAlt : Reg := ⟨0x2030, 5, 0⟩
/-- `0x2040:01 OPT_BLOCK` (BLOB, RW; chapter 18). -/
abbrev Reg.optBlock : Reg := ⟨0x2040, 1, 0⟩
/-- `0x2040:02 FLASH_HOLD` (U8, RO; chapter 18). -/
abbrev Reg.flashHold : Reg := ⟨0x2040, 2, 0⟩
/-- `0x2040:03 FLASH_PENDING` (U32, RO; chapter 18). -/
abbrev Reg.flashPending : Reg := ⟨0x2040, 3, 0⟩
/-- `0x2050:01 TJ_NOW` (I16, RO; chapter 18). -/
abbrev Reg.tjNow : Reg := ⟨0x2050, 1, 0⟩
/-- `0x2050:02 TJ_MAX` (I16, RO; chapter 18). -/
abbrev Reg.tjMax : Reg := ⟨0x2050, 2, 0⟩
/-- `0x2500:01 LOG_STATE` (U8, RO; chapter 19). -/
abbrev Reg.logState : Reg := ⟨0x2500, 1, 0⟩
/-- `0x2500:02 LOG_HEAD` (U32, RO; chapter 19). -/
abbrev Reg.logHead : Reg := ⟨0x2500, 2, 0⟩
/-- `0x2500:03 LOG_FREEZE` (BOOL, CMD; chapter 19). -/
abbrev Reg.logFreeze : Reg := ⟨0x2500, 3, 0⟩
/-- `0x2500:04 LOG_FROZEN` (BLOB, RO; chapter 19). -/
abbrev Reg.logFrozen : Reg := ⟨0x2500, 4, 0⟩
/-- `0x2500:05 LOG_FREEZE_MASK` (U16, RW; chapter 19). -/
abbrev Reg.logFreezeMask : Reg := ⟨0x2500, 5, 0⟩
/-- `0x2500:06 LOG_EXPORT` (BLOB, RO; chapter 19). -/
abbrev Reg.logExport : Reg := ⟨0x2500, 6, 0⟩
/-- `0x2500:07 LOG_CURSOR` (U32, RW; chapter 19). -/
abbrev Reg.logCursor : Reg := ⟨0x2500, 7, 0⟩
/-- `0x2501:01 LASTWORD` (BLOB, RO; chapter 19). -/
abbrev Reg.lastword (c : Nat) : Reg := ⟨0x2501, 1 + c, 0⟩
/-- `0x2502:01 FAULT_CODE` (U32, RO; chapter 19). -/
abbrev Reg.faultCode : Reg := ⟨0x2502, 1, 0⟩
/-- `0x2502:02 FAULT_CLEAR` (U16, CMD; chapter 19). -/
abbrev Reg.faultClear : Reg := ⟨0x2502, 2, 0⟩
/-- `0x2502:03 FAULT_COUNT` (U32, RO; chapter 19). -/
abbrev Reg.faultCount : Reg := ⟨0x2502, 3, 0⟩
/-- `0x1001:01 DIR_SEL` (U32, RW; chapter 17). -/
abbrev Reg.dirSel : Reg := ⟨0x1001, 1, 0⟩
/-- `0x1001:02 DIR_ENTRY` (BLOB, RO; chapter 17). -/
abbrev Reg.dirEntry (u : Nat) : Reg := ⟨0x1001, 2, u⟩

/-- Value of a register at reset: the default of its object table. -/
def regDefault (r : Reg) : Int :=
  if r.idx = 4096 then (match r.sub with | 4 => 176 | _ => 0) else
  if r.idx = 4608 then (match r.sub with | 2 => 10 | _ => 0) else
  if 5120 ≤ r.idx ∧ r.idx < 5184 then (match r.sub with | 3 => 255 | _ => 0) else
  if r.idx = 8290 then (match r.sub with | 2 => 1 | _ => 0) else
  if r.idx = 8448 then (match r.sub with | 2 => 255 | 3 => 10 | 4 => 2 | 10 => 1 | 11 => 60 | 12 => 1000 | 15 => 255 | 16 => 4 | 19 => 2046 | 23 => 900 | _ => 0) else
  if r.idx = 8464 then (match r.sub with | 3 => 8 | 6 => 8 | 7 => 15 | 11 => 1 | 14 => 10 | 15 => 100000 | _ => 0) else
  if r.idx = 8480 then (match r.sub with | 3 => 1 | 5 => 2 | _ => 0) else
  if r.idx = 8496 then (match r.sub with | 2 => 11 | _ => 0) else
  if r.idx = 8512 then (match r.sub with | 1 => 1 | _ => 0) else
  if r.idx = 8528 then (match r.sub with | 1 => 44100 | 3 => 48000 | _ => 0) else
  if r.idx = 8704 then (match r.sub with | 3 => 562949953421312 | 4 => 1 | 8 => 10000 | 11 => 37 | _ => 0) else
  if r.idx = 8720 then (match r.sub with | 1 => 1 | 4 => 128 | 5 => 128 | 6 => 1 | 8 => 1 | 9 => 3 | _ => 0) else
  if r.idx = 8736 then (match r.sub with | 3 => 3 | 4 => (-3) | 5 => 1 | 13 => 1000 | _ => 0) else
  if r.idx = 8752 then (match r.sub with | 7 => 255 | _ => 0) else
  if r.idx = 8800 then (match r.sub with | 3 => 1 | 6 => 4294967296000000000 | 7 => 100000 | _ => 0) else
  if r.idx = 8960 then (match r.sub with | 1 => 16 | 3 => 1 | _ => 0) else
  if 9008 ≤ r.idx ∧ r.idx < 9024 then (match r.sub with | 5 => 1 | _ => 0) else
  if 9072 ≤ r.idx ∧ r.idx < 9088 then (match r.sub with | 3 => 511 | _ => 0) else
  if r.idx = 9216 then (match r.sub with | 3 => 255 | 12 => 1 | 13 => 200 | 14 => 16000 | _ => 0) else
  if r.idx = 9472 then (match r.sub with | 5 => 413 | _ => 0) else
  if 12288 ≤ r.idx ∧ r.idx < 12416 then (match r.sub with | 9 => 48000 | 11 => 8 | 12 => 32 | 13 => 24 | 14 => 96 | 15 => 64 | 16 => 64 | 17 => 40 | 27 => 239 | 28 => 7 | _ => 0) else
  if 12544 ≤ r.idx ∧ r.idx < 12608 then (match r.sub with | 6 => 10000 | 8 => 2040109466 | 9 => 100000 | 10 => 200000 | 11 => 50000 | 13 => 1 | 17 => 40 | 18 => (-100) | 19 => 6000 | 20 => (-600) | 21 => 1000 | 22 => 1000 | 23 => 300 | 24 => 200 | 25 => 40000 | 26 => 1000 | 27 => 90 | 28 => 110 | 29 => 80 | 30 => 65535 | 31 => 65535 | 32 => (-600) | 35 => (-6000) | 36 => 2000 | 37 => 64000 | 47 => 322 | _ => 0) else
  if 12800 ≤ r.idx ∧ r.idx < 12824 then (match r.sub with | 1 => (if r.idx < 12808 then 1 else 4) | 3 => 1 | 6 => 1 | 8 => 1716793857 | 13 => 1 | 14 => 1 | 15 => 3 | 16 => 20000 | 17 => 15 | _ => 0) else
  if r.idx = 13056 then (match r.sub with | 2 => 8 | 3 => 32 | _ => 0) else
  if r.idx = 13312 then (match r.sub with | 1 => 300 | 2 => 10 | 3 => 4000 | _ => 0) else
  if r.idx = 13314 ∧ (r.sub = 1 ∨ r.sub = 5) then 1 else
  if 14336 ≤ r.idx ∧ r.idx < 15360 then (match r.sub with | 5 => 1 | 6 => 48000 | 7 => 2 | 8 => 2 | 11 => 2 | 12 => 1000 | 17 => 97 | 18 => 7 | _ => 0) else
  if 15360 ≤ r.idx ∧ r.idx < 16384 then (match r.sub with | 5 => 1 | 6 => 48000 | 7 => 2 | 8 => 2 | 11 => 1500 | 15 => 97 | 18 => 5 | _ => 0) else
  if r.idx = 16385 then (match r.sub with | 2 => 134217728 | 3 => 134217728 | 5 => 40 | 8 => 134217728 | _ => 0) else
  if r.idx = 16386 then (match r.sub with | 2 => 134217728 | 3 => 134217728 | 5 => 40 | _ => 0) else
  if r.idx = 17408 then (match r.sub with | 1 => 16 | _ => 0) else
  if r.idx = 17424 then (match r.sub with | 5 => 32 | _ => 0) else
  if r.idx = 17425 then (match r.sub with | 3 => 32 | _ => 0) else
  if 17440 ≤ r.idx ∧ r.idx < 17456 then (match r.sub with | 1 => 1 | _ => 0) else
  if r.idx = 18432 then (match r.sub with | 1 => 64 | _ => 0) else
  if r.idx = 19456 then (match r.sub with | 1 => 128 | _ => 0) else
  if r.idx = 19457 then (match r.sub with | 3 => 255 | _ => 0) else
  if r.idx = 20480 then (match r.sub with | 2 => 255 | _ => 0) else
  if r.idx = 20992 then (match r.sub with | 2 => 2147483648 | 3 => (-9000) | 4 => 16000 | _ => 0) else
  if r.idx = 21248 then (match r.sub with | 3 => 1000000 | 4 => (-2000) | 5 => 1 | _ => 0) else
  if r.idx = 21504 then (match r.sub with | 3 => 1 | _ => 0) else
  if 21760 ≤ r.idx ∧ r.idx < 21776 then (match r.sub with | 2 => 8 | _ => 0) else
  if r.idx = 13314 then (if r.unit = 1 then (if r.sub = 2 then 33554431 else if r.sub = 3 then 16777215 else 0) else 0) else
  0

end Sys2Proof.Machine
end

