-- ==== Sys2Proof/Machine/State/Clock.lean ====
section
/-!
DEFINITION. State of the clocks, the time counter, the PTP servo and the TEV pins beyond their registers
(09_clocks_and_references, 10_network_time).
-/
namespace Sys2Proof.Machine

/-- A reference candidate (09, R276, R278): the tick its qualifying timer started, whether it has shown no fault since it was
first enabled, the grade its signal carries. -/
structure RefSt where
  since : Nat := 0
  fresh : Bool := true
  carried : Nat := 15
  deriving DecidableEq, Repr

/-- An Announce of a foreign master (10, R300; IEEE 1588-2019). -/
structure Foreign where
  port : Nat
  srcId : Nat
  srcPort : Nat
  gmId : Nat
  gmClass : Nat
  accuracy : Nat
  variance : Nat
  prio1 : Nat
  prio2 : Nat
  steps : Nat
  deriving DecidableEq, Repr

/-- A reference output (09, R290, R291): the settings in force, a change that waits for its grid instant, and what the output
drives in the tick: rising edges (word clock, PPS) or preamble starts (DARS) in ps from its opening, the grade bits of a DARS
signal, the frequency in Hz of a plain clock. -/
structure RefoutSt where
  mode : Nat := 0
  mult : Nat := 1
  offset : Int := 0
  low : Bool := true
  waiting : Bool := false
  rises : List Int := []
  status : Nat := 0
  hz : Nat := 0
  deriving DecidableEq, Repr

/-- The DPLL, the time counter and the servo. -/
structure ClkSt where
  refs : NTable RefSt := []
  /-- N less the nominal ratio, in 2^-48 (R270). -/
  dn : Int := 0
  /-- The holdover value of it (R286). -/
  ho : Int := 0
  /-- Phase of a frequency-only reference at its selection, in ps (R275). -/
  buildOut : Int := 0
  /-- Phase of the NCOs of domain F, in 2^-48 cycles (R273). -/
  ncos : NTable Nat := []
  refouts : NTable RefoutSt := []
  /-- Boundaries in a row with the phase error inside the lock window (R282, R283). -/
  inWin : Nat := 0
  /-- Boundaries in a row beyond 4 windows in LOCKED (R283). -/
  outWin : Nat := 0
  /-- Outputs recorded in LOCKED, as N less the nominal ratio, newest first, as runs of value and ticks (R286). -/
  freqs : List (Int × Nat) := []
  /-- Latest grade of the selected reference below 15, and the grade of HOLDOVER's first part (R289). -/
  good : Nat := 9
  hoGrade : Nat := 10
  degraded : Bool := false
  slewing : Bool := false
  steerLimit : Bool := false
  fslewLimit : Bool := false
  hoShort : Bool := false
  xrefBad : Bool := false
  /-- A last has been active since bring-up (R285). -/
  lasted : Bool := false
  /-- Steps of the counter waiting for their boundary, in ns (10, R297). -/
  steps : List (Nat × Int) := []
  /-- A set of the counter waiting for its boundary, in ns (R299). -/
  sets : List (Nat × Nat) := []
  /-- Counter less the boundary's value, in 2^-32 ns (R271, R293, R299). -/
  phase : Int := 0
  /-- The increment in force less 2 ns, in 2^-48 ns (R293, R296). -/
  rate : Int := 0
  /-- A value has been written to the counter, or a step has (01, R20). -/
  told : Bool := false
  /-- Sync intervals in a row within 100 ns, and beyond 1 us (R302). -/
  servoIn : Nat := 0
  servoOut : Nat := 0
  /-- Foreign masters heard, the latest Announce of each. -/
  foreign : List Foreign := []
  parent : Option Foreign := none
  /-- Timestamp FIFO, oldest first (R308), and drops since the last entry. -/
  tsFifo : List (List Byte) := []
  tsGap : Bool := false
  /-- Residence times held for Follow_Up: ingress port, key, egress port, time in 2^-16 ns, instant in ns (R307). -/
  held : List (Nat × List Byte × Nat × Int × Nat) := []
  /-- ESMC and PTP sequence numbers by port. -/
  seqs : NTable Nat := []
  deriving DecidableEq, Repr

/-- A pending TEV action (10, Table 10.6): kind 1 START, 2 STOP; time in 2^-16 ns. -/
structure TevAct where
  kind : Nat
  time : Nat
  raw : List Byte
  deriving DecidableEq, Repr

/-- A TEV pin (R311 to R317). -/
structure TevSt where
  /-- A mode waiting for its boundary. -/
  next : Option (Nat × Nat) := none
  acts : List TevAct := []
  log : List (List Byte) := []
  /-- Start of the pulse train under way, in 2^-16 ns, and the next pulse. -/
  train : Option (Nat × Nat) := none
  /-- The pin drives its active level. -/
  active : Bool := false
  caps : List (List Byte) := []
  /-- Timestamps captured in this tick (08, R232). -/
  capsNow : List (List Byte) := []
  gap : Bool := false
  seq : Nat := 0
  /-- The latest edge driven: its instant at the pin in ns, and its level (R312). -/
  edge : Option (Int × Bool) := none
  /-- Pin time of the latest captured edge, in ns. -/
  lastEdge : Option Nat := none
  deriving DecidableEq, Repr

end Sys2Proof.Machine
end

