-- ==== Sys2Proof/Machine/State/Mgmt.lean ====
section
/-!
DEFINITION. State of management and of the root log beyond their registers: sessions, transfers, notifications,
rings (16), log entries (19).
-/
namespace Sys2Proof.Machine

/-- A notification waiting to be sent (16, R458). -/
structure Notice where
  code : Nat
  idx : Nat
  sub : Nat
  lost : Bool
  tick : Nat
  deriving DecidableEq, Repr

/-- A block transfer under way (16, R457): the segments received. -/
structure Transfer where
  reg : Reg
  total : Nat
  segs : List (Nat × List Byte)
  lastTick : Nat
  at_ : Option (Nat × Bool)
  deriving DecidableEq, Repr

/-- The answer of the latest request: header status, then one status and value per item (16, Tables 16.3, 16.4). -/
structure Answer where
  status : Nat := 0
  items : List (Nat × List Byte) := []
  applied : List Nat := []
  bytes : List Byte := []
  sent : Bool := false
  deriving DecidableEq, Repr

/-- A session (16, R451 to R453). Role 0 gardener, 1 owner, 2 observer; plot 255 for the gardener role. -/
structure Session where
  open_ : Bool := false
  half : Bool := false
  number : Nat := 0
  role : Nat := 0
  plot : Nat := 255
  transport : Nat := 0
  source : Nat := 0
  challenge : List Byte := []
  nonce : List Byte := []
  ks : List Byte := []
  restricted : Bool := false
  claim : Bool := false
  lastTick : Nat := 0
  seq : Nat := 0
  /-- Answers of the last 8 requests accepted, by SEQ (R449). -/
  replies : List (Nat × Answer) := []
  notices : List Notice := []
  noticeLost : Bool := false
  noticeSeq : Nat := 1
  sel : Table Reg Int := []
  transfers : List Transfer := []
  snapshot : Option (Reg × List Byte × Nat) := none
  deriving DecidableEq, Repr

/-- What a request of a session asks for (16, Table 16.3): BLOCK_READ with what an export of the log finds bad, CLAIM with its
direction. -/
inductive ReqKind where
  | logout
  | read
  | write
  | writeAt
  | blockRead (bad : Option (Fin 2 × Nat))
  | blockWrite
  | heartbeat
  | claim (take : Bool)
  deriving DecidableEq, Repr

/-- A request that waits for the gardener. -/
structure Request where
  kind : ReqKind
  msg : Omp
  deriving DecidableEq, Repr

/-- The gardener's service (16, R460): its queues by plot, 16 the gardener role's, the queue that it served last, the tick to
which a long request occupies it. -/
structure GardSt where
  queues : NTable (List Request) := []
  turn : Nat := 16
  busy : Nat := 0
  deriving DecidableEq, Repr

/-- Failed logins of a source (16, R452). -/
structure SourceSt where
  fails : List Nat := []
  lockedUntil : Option Nat := none
  deriving DecidableEq, Repr

/-- A page in a ring's staging area (16, R467): its entries, the ticks of the first and the last, GAP. -/
structure StagedPage where
  entries : List (List Byte)
  first : Nat
  last : Nat
  gap : Bool
  deriving DecidableEq, Repr

/-- A page ring (16, R465 to R471). Owner: a plot, 16 the gardener role, 255 closed. -/
structure Ring where
  owner : Nat := 255
  base : Nat := 0
  pages : Nat := 0
  kind : Nat := 0
  vector : Nat := 1
  coalesce : Nat := 1
  prod : Nat := 0
  cons : Nat := 0
  nextSeq : Nat := 0
  lost : Nat := 0
  status : Nat := 0
  staged : List StagedPage := []
  /-- Entries were dropped: GAP in the next page. -/
  gap : Bool := false
  /-- No credit has returned: pages that fall due are dropped (R469). -/
  stalled : Bool := false
  /-- Pages sealed since the latest interrupt (R467). -/
  run : Nat := 0
  deriving DecidableEq, Repr

/-- A root-log entry (19, Table 19.1); SEQ is given when it is written, CHECK is computed from the rest. -/
structure LogEntry where
  seq : Nat := 0
  code : Nat
  stale : Bool := false
  level : Nat
  plot : Nat
  tick : Nat
  cycle : Nat
  p0 : Nat
  p1 : Nat
  /-- It reports evidence marked SHARED (08, R236; Table 19.3, bit 4). -/
  shared : Bool := false
  deriving DecidableEq, Repr

/-- A freeze of the log (19, R512). -/
structure Freeze where
  slot : Nat
  seq : Nat
  trigger : Nat
  tick : Nat
  deriving DecidableEq, Repr

/-- Entries of one plot counted for the limit of R506. -/
structure LogRate where
  thisTick : Nat := 0
  dropped : Nat := 0
  lastDrop : Option Nat := none
  deriving DecidableEq, Repr

/-- The root log (19). -/
structure LogSt where
  queue : List LogEntry := []
  keep : List LogEntry := []
  slots : NTable (Option LogEntry) := []
  retired0 : Bool := false
  retired1 : Bool := false
  lastRetired : Nat := 0
  lastWords : List LogEntry := []
  headSlot : Nat := 0
  freeze : Option Freeze := none
  /-- A freeze trigger that writes no entry of its own: the DPLL entered HOLDOVER (Table 19.3, bit 9). -/
  ask : Bool := false
  rates : NTable LogRate := []
  scrubWord : Nat := 0
  /-- End of the FAULT_N frame under way, in us of the keep domain (R520). -/
  frameEnd : Nat := 0
  deriving DecidableEq, Repr

/-- BAR0, BAR2 and MSI-X (16, R462 to R470): the session bound, accesses refused and the offset of the latest, mailbox
registers, interrupts raised by vector, the page written last (ring, index, bytes; `sealed` tells an abandoned page). -/
structure HostSt where
  bound : Option Nat := none
  barErr : Nat := 0
  barAddr : Nat := 0
  inBase : Nat := 0
  outBase : Nat := 0
  mboxPages : Nat := 0
  mbox : Bool := false
  msix : NTable Nat := []
  page : Option (Nat × Nat × List Byte) := none
  /-- NOTIFY messages sent at the latest boundary, with their session slots. -/
  notices : List (Nat × List Byte) := []
  deriving DecidableEq, Repr

/-- The address chain (16, R443 to R446): CHAIN_IN, CHAIN_OUT, the instant in ms at which CHAIN_IN went high while the
procedure waits, announcements still to send, whether the chip runs the procedure, the address in flash. -/
structure AddrSt where
  chainIn : Bool := false
  chainOut : Bool := false
  waitFrom : Option Nat := none
  announces : Nat := 0
  /-- Instant in ms of the latest announcement sent. -/
  lastTx : Option Nat := none
  chain : Bool := true
  stored : Nat := 0
  deriving DecidableEq, Repr

end Sys2Proof.Machine
end

