-- ==== Sys2Proof/Machine/State/Net.lean ====
section
/-!
DEFINITION. State of the bridge, its ports and the media streams beyond their registers (11_network_ports_and_bridge,
12_media_streams).
-/
namespace Sys2Proof.Machine

/-- A frame in a port's queue (11, R324, R325; 10, R309). A forwarded frame stands in `body` whole, without its FCS; a
stream's frame is its leg record (12, Table 12.3) and the RTP or AVTP packet in `body`. -/
structure QFrame where
  q : Nat
  body : List Byte
  leg : List Byte := []
  /-- Bytes from the destination address to the FCS. -/
  len : Nat
  /-- Instant of queueing and ingress timestamp, in ns. -/
  enq : Nat
  stamp : Nat
  launch : Option Nat := none
  plot : Option Nat := none
  stream : Option (Nat × Nat) := none
  /-- The newest block that it carries (08, R247). -/
  block : Nat := 0
  ingress : Option Nat := none
  /-- Host timestamp wanted: messageType, sequenceId, domain (10, R308). -/
  mark : Option (Nat × Nat × Nat) := none
  /-- Preempted: bytes already sent, and the time of its first fragment (R344). -/
  sent : Nat := 0
  first : Option Nat := none
  deriving DecidableEq, Repr

/-- A NET port. -/
structure PortSt where
  queue : List QFrame := []
  /-- The port transmits until this instant, in ns; the frame on the wire. -/
  busy : Nat := 0
  wire : Option QFrame := none
  /-- Latest mode written while a change is in progress (R320). -/
  mode : Option Nat := none
  changing : Bool := false
  /-- A base list that waits for its round boundary (R341). -/
  gclNext : Option (Nat × List Byte) := none
  /-- Token bucket of the gardener, in bits, and its instant; frames of the exempt services in a second (R338). -/
  tokens : Nat := 524288
  filled : Nat := 0
  exempt : Nat × Nat := (0, 0)
  /-- Instant of the last ESMC PDU received; QL and instant of the last one sent. -/
  esmcAt : Option Nat := none
  esmcSent : Option (Nat × Nat) := none
  deriving DecidableEq, Repr

/-- An entry of the forwarding database (R328 to R331). -/
structure FdbEntry where
  mac : List Byte
  fid : Nat
  port : Nat
  static : Bool := false
  hit : Bool := false
  idle : Bool := false
  pinned : Bool := false
  moves : Nat := 0
  /-- Start of the flap window in ns, and the port before its first move. -/
  window : Option Nat := none
  home : Nat := 0
  pinAt : Nat := 0
  /-- Instant of the latest visit of the aging scan, in ns (R331). -/
  visited : Option Nat := none
  deriving DecidableEq, Repr

/-- A learn event (R329). -/
structure LearnEv where
  time : Nat
  port : Nat
  mac : List Byte
  fid : Nat
  deriving DecidableEq, Repr

/-- A multicast entry (R335): the gardener's ports, and whether the engine needs it. -/
structure McEntry where
  mac : List Byte
  fid : Nat
  ports : Nat
  engine : Bool := false
  gardener : Bool := false
  deriving DecidableEq, Repr

/-- The bridge. -/
structure NetSt where
  ports : NTable PortSt := []
  fdb : List FdbEntry := []
  learn : List LearnEv := []
  mc : List McEntry := []
  deriving DecidableEq, Repr

/-- A packet that a receive stream has accepted (12, R354, R359). -/
structure RxPkt where
  s : Nat
  seq : Nat
  payload : List Byte
  legs : Nat
  at_ : Nat
  /-- Reconciliation: RCPT seen from the partner, RPAY sent (08, R227). -/
  rcpt : Bool := false
  rpay : Bool := false
  deriving DecidableEq, Repr

/-- A sample held by a receive stream: its word and its C bit. -/
structure RxSample where
  v : Int
  c : Bool := false
  deriving DecidableEq, Repr

/-- One channel pair's non-audio detection (12, R363; 13, R385): tick of the last firing, ramp due, channel-status run. -/
structure PairNa where
  fired : Option Nat := none
  rampUp : Bool := false
  csRun : Nat := 0
  csBit : Bool := false
  prev : Int := 0
  deriving DecidableEq, Repr

/-- A receive stream. -/
structure RxSt where
  pkts : List RxPkt := []
  samples : NTable (Option RxSample) := []
  lastSeq : Option Nat := none
  /-- Starts (true) and stops accepted: tick and kind, in order of acceptance (R364). -/
  acts : List (Nat × Bool) := []
  /-- Boundaries of the start and of the stop in force. -/
  startT : Nat := 0
  stopT : Option Nat := none
  /-- The next block ramps up (R357, R364). -/
  rampUp : Bool := false
  /-- The block of the tick under way has been closed, concealed, or ramped (R357). -/
  closed : Bool := false
  concealed : Bool := false
  wasRamp : Bool := false
  pairs : NTable PairNa := []
  /-- Sample after the last one delivered, of a stream in S or F (R358). -/
  next : Option Nat := none
  /-- Packets of a stream in S or F that wait for their tracker (08, R229). -/
  feed : List RxPkt := []
  /-- Packets that its tracker took at the latest INGEST_READY (08, R229, R232). -/
  fed : List RxPkt := []
  deriving DecidableEq, Repr

/-- A transmit stream. -/
structure TxSt where
  acts : List (Nat × Bool) := []
  startT : Nat := 0
  stopT : Option Nat := none
  seq : Nat := 0
  /-- A block of the packet under way was withheld (08, R237), or the chip did not transmit it (Table 8.1, R247). -/
  withheld : Bool := false
  muted : Bool := false
  /-- Streams in S and F: samples gathered for the packet under way, by channel, and its first sample index. -/
  buf : NTable (List Int) := []
  first : Option Nat := none
  deriving DecidableEq, Repr

end Sys2Proof.Machine
end

