-- ==== Sys2Proof/Machine/State/Pair.lean ====
section
/-!
DEFINITION. State of the twin pair beyond its registers (08_twin_pair).
-/
namespace Sys2Proof.Machine

/-- Cells of the welt links (08, Table 8.2). -/
inductive Cell where
  | tick (f : TickFrame)
  | beat (tick : Nat)
  | digest (c : DigestCell)
  | idig (tick : Nat) (l : List (Nat × Nat))
  | rcpt (stream seq crc : Nat) (at_ : Option Nat)
  | rpay (stream seq index : Nat) (payload : List Byte) (at_ : Nat)
  | lfwd (x : Lfwd)
  | mgmt (seq tick : Nat) (a : FwdAction)
  | mack (seq : Nat)
  | mirror (page w : Nat) (data : List Byte)
  | hot (page w : Nat) (data : List Byte)
  | pdig (l : List (Nat × Nat × Nat))
  deriving DecidableEq, Repr
/-- A cell as it is sent: link, sequence number of the link, cell (R224). -/
structure SentCell where
  link : Nat
  seq : Nat
  cell : Cell
  deriving DecidableEq, Repr

/-- The pair. -/
structure PairSt where
  /-- Evidence of the half-tick window under way: bit p a plot, bit 16 SHARED (R236). -/
  evidHalf : Nat := 0
  /-- Evidence of the full-tick window under way. -/
  evidFull : Nat := 0
  /-- Results of proof programs of this tick by core * 65536 + TASK_ID (R261). -/
  proofs : List (Nat × Word × Word) := []
  /-- A proof failed in this tick (R262). -/
  proofFailed : Bool := false
  /-- Tick of a failed proof that still asks for a reaction (R264). -/
  suspectAt : Option Nat := none
  /-- First tick after bring-up; the wait of R222 runs while this stands. -/
  waitFrom : Option Nat := none
  /-- The latest tick frame of the partner (Table 8.3), and its arrival tick. -/
  partner : Option TickFrame := none
  /-- Own DIGEST cells and the partner's, by phase: 0 half-tick, 1 full-tick (R235). -/
  own : NTable DigestCell := []
  theirs : NTable DigestCell := []
  /-- DIGEST cells missing in a row, by phase (R238). -/
  missing : NTable Nat := []
  /-- Plots whose packets stay back at the next opening of a phase, bit p (R237). -/
  withheld : NTable Nat := []
  /-- Own edge and proof digests by tick, the latest first (R240, R262). -/
  edges : List (Nat × Nat) := []
  proofDigests : List (Nat × Nat × Bool) := []
  /-- Own input digests of the previous tick: kind * 65536 + number, and CRC-64 (R232). -/
  idigs : List (Nat × Nat) := []
  /-- Focused proof (R239): last tick, plots. -/
  focus : Option (Nat × Nat) := none
  /-- A hand-over that waits for its instant: tick, and whether it is the half-tick opening (R243). -/
  handAt : Option (Nat × Bool) := none
  /-- A leave, a take-over by PAIR_TAKE, that wait for their boundaries (R246, R260). -/
  leaveAt : Option Nat := none
  takeAt : Option Nat := none
  /-- A graft to start at a tick (R245). -/
  graftAt : Option Nat := none
  /-- A graft under way: is this chip its target, ticks of its start and of its phase's start, settled ticks in a row. -/
  target : Bool := false
  graftFrom : Nat := 0
  phaseFrom : Nat := 0
  settled : Nat := 0
  /-- Pages not settled by address (R256). -/
  unsettled : List Nat := []
  /-- Pages to apply at the next boundary (R256): address, write tick, bytes. -/
  mirror : List (Nat × Nat × List Byte) := []
  /-- Last write tick W of a page, and ticks in a row in which it was written (R255, R256). -/
  pageTick : NTable Nat := []
  pageRun : NTable Nat := []
  /-- Source of a graft: pages sent once so far (R255). Target: the source's latest write tick by page (R256). -/
  mirrored : Nat := 0
  srcTick : NTable Nat := []
  /-- Forwarded actions without a MACK: sequence number and target tick (R251, R252); number of the latest action sent. -/
  sent : List (Nat × Nat) := []
  seq : Nat := 0
  /-- Number of the latest action acknowledged (Table 8.3). -/
  acked : Nat := 0
  /-- Cells sent in this tick; the next sequence number of each link; bulk cells sent, which the links share (R224). -/
  cells : List SentCell := []
  linkSeq : NTable Nat := []
  bulk : Nat := 0
  /-- Tick and cycle of the latest good cell (R225, R247). -/
  cellAt : Nat × Nat := (0, 0)
  /-- A graft has ended on this source; the target's frames still show it until it has heard (R258). -/
  graftOver : Bool := false
  /-- The rotation of the proof set of R263 under way, and the units that have completed it. -/
  proofRound : Nat := 0
  proofUnits : Nat := 0
  /-- Target tick of the forwarded action that is being taken (R251). -/
  toTick : Option Nat := none
  /-- Tick and cycle of the last good cell before the heartbeat was lost (R247). -/
  lostAt : Option (Nat × Nat) := none
  /-- RCPT cells of packets that this chip has not accepted: stream, sequence number, CRC, instant, tick of arrival. -/
  rcpts : List (Nat × Nat × Nat × Option Nat × Nat) := []
  /-- Rate stamps that role A forwards, by serial port (R231). -/
  stamps : NTable (List Nat) := []
  /-- Tick frames sent (R225). -/
  frameSeq : Nat := 0
  deriving DecidableEq, Repr

end Sys2Proof.Machine
end

