-- ==== Sys2Proof/Machine/State/Last.lean ====
section
/-!
DEFINITION. The records of a plot last, as an accepted image holds them (01 Tables 1.9 to 1.12, 1.16; 02 Tables
2.2, 2.5, 2.6; 03 Table 3.5; 04 Table 4.8; 05 Tables 5.4, 5.5; 06 Tables 6.2 to 6.5; 07 R210; 11 R340; 15
Tables 15.5, 15.8).
-/
namespace Sys2Proof.Machine

/-- CLAIMS record (Table 1.9). -/
structure Claim where
  code : Nat
  amount : Nat
  deriving DecidableEq, Repr
/-- CORE_SCHED record (Table 1.10); kind 0 signal, 1 proof, 2 state copy. -/
structure Task where
  id : Nat
  core : Nat
  kind : Nat
  entry : Nat
  reinit : Bool
  start : Nat
  wcet : Nat
  deadline : Nat
  deriving DecidableEq, Repr
/-- PATHS record (Table 1.11). -/
structure PathRec where
  sink : Nat
  origin : Nat
  latency : Nat
  deriving DecidableEq, Repr
/-- TASK_IO record (Table 1.12); dir 0 reads, 1 writes, 2 reads deferred. -/
structure TaskIo where
  task : Nat
  dir : Nat
  rmult : Nat
  sig : SigId
  deriving DecidableEq, Repr
/-- STATE_COPY record (Table 1.16). -/
structure CopyRec where
  task : Nat
  kind : Nat
  unit : Nat
  first : Nat
  count : Nat
  deriving DecidableEq, Repr
/-- ROUTES record (Table 2.2). -/
structure Route where
  sink : SigId
  source : SigId
  none : Bool
  xfade : Nat
  deferred : Bool
  power : Bool
  direct : Bool
  deriving DecidableEq, Repr
/-- Bus record of MIX (Table 2.5). -/
structure BusRec where
  bus : Nat
  lane : Nat
  lanes : Nat
  start : Nat
  stop : Nat
  outGain : Int
  ramp : Nat
  shift : Nat
  ampLaw : Bool
  trunc : Bool
  mute : Bool
  auto : Nat
  deriving DecidableEq, Repr
/-- Crosspoint record of MIX (Table 2.6). -/
structure XpRec where
  xp : Nat
  bus : Nat
  source : SigId
  gain : Int
  ramp : Nat
  deferred : Bool
  ampLaw : Bool
  mute : Bool
  deriving DecidableEq, Repr
/-- DMA window record (Table 15.5); dir 0 far to near, 1 near to far. -/
structure DmaWin where
  win : Nat
  triggered : Bool
  dir : Nat
  core : Nat
  port : Nat
  slot : Nat
  count : Nat
  signal : Bool
  near : Nat
  far : Nat
  wrap : Nat
  adv : Int
  offset : Nat
  length : Nat
  sig : SigId
  task : Nat
  deriving DecidableEq, Repr
/-- TRELLIS_SLOTS record (Table 15.8). -/
structure SlotRec where
  port : Nat
  first : Nat
  count : Nat
  deriving DecidableEq, Repr
/-- HANDOFFS record (07, R210); dir 0 produce, 1 consume. -/
structure HandoffRec where
  sig : SigId
  peer : Nat
  dir : Nat
  deriving DecidableEq, Repr
/-- CORE_PM record with its core (Table 4.8). -/
structure PmRec where
  core : Nat
  addr : Nat
  code : List Byte
  deriving DecidableEq, Repr
/-- CORE_DM_INIT record with its core (Table 3.5). -/
structure DmRec where
  core : Nat
  addr : Nat
  length : Nat
  fill : Bool
  live : Bool
  data : List Byte
  deriving DecidableEq, Repr
/-- GCL window with its port (11, R340). -/
structure GateWin where
  port : Nat
  start : Nat
  length : Nat
  deriving DecidableEq, Repr
/-- FCU stage record (Table 5.5). -/
structure Stage where
  ty : Nat
  p1 : Nat
  p2 : Nat
  ef : Bool
  trunc : Bool
  shift : Int
  coef : Nat
  cstride : Nat
  state : Nat
  deriving DecidableEq, Repr
/-- FCU group record with its FCU and its stages (Table 5.4). -/
structure FcuGroup where
  fcu : Nat
  group : Nat
  lanes : Nat
  inMult : Nat
  start : Nat
  stop : Nat
  bank : Nat
  xf : Bool
  xfTicks : Nat
  stages : List Stage
  deriving DecidableEq, Repr
/-- FCU_COEF words with their FCU. -/
structure FcuCoef where
  fcu : Nat
  offset : Nat
  words : List Int
  deriving DecidableEq, Repr
/-- ARE window record (Table 6.2). -/
structure AreWin where
  tile : Nat
  start : Nat
  stop : Nat
  first : Nat
  count : Nat
  deriving DecidableEq, Repr
/-- ARE input record (Table 6.3). -/
structure AreIn where
  input : Nat
  rmult : Nat
  hbase : Nat
  hlen : Nat
  deriving DecidableEq, Repr
/-- ARE output record (Table 6.4). -/
structure AreOut where
  output : Nat
  rmult : Nat
  trunc : Bool
  oshift : Nat
  deriving DecidableEq, Repr
/-- ARE crosspoint record (Table 6.5); an absent region is none. -/
structure AreXp where
  xp : Nat
  input : Nat
  output : Nat
  keep : Bool
  trunc : Bool
  power : Bool
  xf : Bool
  set : Nat
  taps : Nat
  off0 : Option Nat
  off1 : Option Nat
  exp0 : Nat
  exp1 : Nat
  bank : Nat
  xfTicks : Nat
  deriving DecidableEq, Repr
/-- ARE_COEF record with its bank (R183). -/
structure AreCoef where
  bank : Nat
  offset : Nat
  coefs : List Int
  deriving DecidableEq, Repr

/-- A plot last, parsed. -/
structure Last where
  serial : Nat := 0
  plot : Nat := 0
  family : Nat := 0
  mult : Nat := 2
  half : Bool := false
  cores : List Nat := []
  claims : List Claim := []
  tasks : List Task := []
  paths : List PathRec := []
  io : List TaskIo := []
  copies : List CopyRec := []
  routes : List Route := []
  buses : List BusRec := []
  xps : List XpRec := []
  windows : List DmaWin := []
  slots : List SlotRec := []
  handoffs : List HandoffRec := []
  pm : List PmRec := []
  dm : List DmRec := []
  gates : List GateWin := []
  groups : List FcuGroup := []
  fcuCoefs : List FcuCoef := []
  areWins : List AreWin := []
  areIns : List AreIn := []
  areOuts : List AreOut := []
  areXps : List AreXp := []
  areCoefs : List AreCoef := []
  deriving DecidableEq, Repr

end Sys2Proof.Machine
end

