-- ==== Sys2Proof/Machine/State/Units.lean ====
section
/-!
DEFINITION. State of the data plane's units beyond their registers: cores, tasks, ramps, mix, FCU groups, the array
renderer, holdings, handoffs and plots (chapters 01 to 07 and 15).
-/
namespace Sys2Proof.Machine

/-- Which of two elements a search keeps (03, R105). -/
inductive Better where
  | max | min | maxa | mina
  deriving DecidableEq, Repr

/-- A register write waiting for its bundle to retire (04, R127, R130). -/
inductive RegWrite where
  | g (r : Nat) (v : Word)
  | a (r : Nat) (v : Acc)
  | p (k : Nat) (v : Word)
  | q (n : Nat) (v : Bool)
  | c (n : Nat) (v : Word)
  /-- g := CYC, known when the bundle issues (03, Table 3.3). -/
  | gCyc (r : Nat)
  /-- g := n bytes at an address in the memory of core own, shifted left; read when the bundle issues (03, R93, R95). -/
  | load (r own addr n shift : Nat)
  /-- A search over one or two elements at an address, from a best value and its index (03, R105). -/
  | find (f : Better) (best idx own addr : Nat) (single : Bool) (i b0 i0 : Word)
  deriving DecidableEq, Repr

/-- Timing class of a result (04, Table 4.7). -/
inductive ProdClass where
  | word | load | clusterLoad | pred | acc | cmac | ptr | ctrl | pop | search
  deriving DecidableEq, Repr

/-- What last produced a register, and when its bundle issued (03, Table 3.8). -/
structure Prod where
  cls : ProdClass
  at_ : Nat
  lat : Nat
  deriving DecidableEq, Repr

/-- A coprocessor result in the result buffer (03, R108). -/
structure CopEntry where
  dest : Nat
  value : Word
  flag : Nat
  due : Nat
  issued : Nat
  deriving DecidableEq, Repr

/-- Where flow goes after a bundle (04, R134 to R136). -/
inductive Flow where
  | seq
  | jump (target cost : Nat)
  | fall (cost : Nat)
  deriving DecidableEq, Repr

/-- An open hardware loop (04, R135): bundle addresses of the body's first and last bundle. -/
structure LoopSt where
  first : Nat
  last : Nat
  deriving DecidableEq, Repr

/-- The bundle under way: results of its slots, held until it retires (04, R127, R129). -/
structure Bundle where
  slots : Nat := 0
  minIssue : Nat := 0
  /-- The g, a and q registers its operations name as results, and the conditions its slots name (04, R126, R129). -/
  dests : List Nat := []
  conds : List (Bool × Nat) := []
  isEnd : Bool := false
  writes : List RegWrite := []
  /-- Stores: core whose memory it is, trellis address, bytes. -/
  stores : List (Nat × Nat × List Byte) := []
  prods : List (Nat × ProdClass × Nat) := []
  cluster : Option Nat := none
  loadBanks : List Nat := []
  cops : List (Nat × Word × Nat × Nat) := []
  flow : Flow := .seq
  loop : Option (Nat × Nat × Nat) := none
  branch : Option (Bool × Bool × Nat) := none
  flags : Nat := 0
  pop : Option (Nat × Nat) := none
  dmat : Option Nat := none
  trap : Nat := 0
  exc : Nat := 0
  corrected : Nat := 0
  /-- Address, core and local address of each uncorrectable word (R121). -/
  bad : List (Nat × Nat × Nat) := []
  deriving DecidableEq, Repr

/-- The task a core is running (01, R51; 03, R91). -/
structure RunTask where
  task : Task
  plot : Nat
  deriving DecidableEq, Repr

/-- A message waiting for its boundary (03, R118). -/
structure Posted where
  due : Nat
  bytes : List Byte
  deriving DecidableEq, Repr

/-- What a DMA window has written to a core's memory in this tick: the bytes before it, and the cycle from which the
bytes are written, so many each cycle (03, R95; 15, R426, R427). -/
structure DmaRun where
  addr : Nat
  old : List Byte
  start : Nat
  rate : Nat
  deriving DecidableEq, Repr

/-- One Prente core (03, Tables 3.2 and 3.3; registers read 0 until written, R91, R128). -/
structure CoreSt where
  g : NTable Word := []
  a : NTable Acc := []
  p : NTable Word := []
  q : NTable Bool := []
  c : NTable Word := []
  pc : Nat := 0
  run : Option RunTask := none
  next : Nat := 0
  lastIssue : Nat := 0
  issued : Nat := 0
  prods : NTable Prod := []
  bundle : Bundle := {}
  cop : List CopEntry := []
  /-- Cycle at which the latest coprocessor result of a g register is written (03, R108). -/
  copDue : NTable Nat := []
  /-- Cycles at which the entries of the result buffer are freed (03, R108). -/
  busy : List Nat := []
  dsqFree : Nat := 0
  trigFree : Nat := 0
  fnFree : Nat := 0
  loops : List LoopSt := []
  inbox : List (List Byte) := []
  posted : List Posted := []
  scrub : Nat := 0
  dma : List DmaRun := []
  deriving DecidableEq, Repr

/-- What the engine remembers of a task from run to run (01, R53, R54; 15, R430). -/
structure TaskSt where
  /-- Retired END in this tick. -/
  done : Bool := false
  /-- Its next complete run ramps its blocks up (R53). -/
  rampUp : Bool := false
  /-- Its input did not arrive in this tick: it does not start (R430). -/
  failStart : Bool := false
  /-- Overran in this tick: what it writes is zero (R52). -/
  overran : Bool := false
  logged : Bool := false
  logTick : Nat := 0
  since : Nat := 0
  /-- Started in this tick. -/
  started : Bool := false
  deriving DecidableEq, Repr

/-- A gain on its way (02, R75): value now, the ramp's ends, its position and length in samples. -/
structure Ramp where
  now : Int := 0
  from_ : Int := 0
  to_ : Int := 0
  pos : Nat := 0
  len : Nat := 0
  amp : Bool := false
  deriving DecidableEq, Repr

/-- A route crossfade in progress (02, R65); none is silence. -/
structure Fade where
  old : Option SigId := none
  oldDeferred : Bool := false
  pos : Nat := 0
  len : Nat := 0
  power : Bool := false
  deriving DecidableEq, Repr

/-- A sink beyond its route: samples per block, crossfade in progress, ramp up after a swap (01, R47; 02, R65, R71); of a sink
in S or F the samples that it took in the tick under way. -/
structure SinkSt where
  n : Nat := 0
  took : Option Nat := none
  fade : Option Fade := none
  up : Option (Nat × Nat) := none
  deriving DecidableEq, Repr

/-- A route batch waiting for its boundary (02, R68). -/
structure RouteBatch where
  due : Nat
  routes : List Route
  recheck : Bool
  /-- The edit that the records belong to, by order of acceptance (R70). -/
  edit : Nat := 0
  deriving DecidableEq, Repr

/-- A record that waits for its sink's crossfade, with the edit it belongs to (02, R69, R70). -/
structure HeldRoute where
  edit : Nat
  route : Route
  deriving DecidableEq, Repr

/-- A mix bus in use: its record and plot, its gain and auto-scale ramps (02, R78, R79). -/
structure BusSt where
  plot : Nat := 0
  rec_ : Option BusRec := none
  gain : Ramp := {}
  scale : Ramp := { now := 134217728, to_ := 134217728 }
  /-- A mix-table error of this block; ramp up of the next (15, R436). -/
  error : Bool := false
  rampUp : Bool := false
  deriving DecidableEq, Repr
/-- A mix crosspoint in use (02, R75, R78). -/
structure XpSt where
  plot : Nat := 0
  rec_ : Option XpRec := none
  gain : Ramp := {}
  deriving DecidableEq, Repr

/-- A generator's accumulators and the parameters in force (02, R83). -/
structure GenSt where
  ty : Nat := 0
  freq : Int := 1000000
  level : Int := -2000
  phase : Nat := 0
  lfsr : Nat := 1
  /-- Both accumulators at the first sample of the compute tick under way. -/
  phase0 : Nat := 0
  lfsr0 : Nat := 1
  deriving DecidableEq, Repr

/-- A tracker beyond its registers (02, R88): output ramp position, ratio held. -/
structure TrackerSt where
  /-- Clock followed: 0 none, 1 S, 2 + n the F clock of slave port n, 130 + k of the masters of NCO k, 200 + s of receive
  stream s, 2000 + s of transmit stream s. -/
  clock : Nat := 0
  /-- Ticks of the ramp up done, 40 in all. -/
  rampPos : Nat := 0
  /-- The tick under way ramps down. -/
  down : Bool := false
  heldPpb : Int := 0
  deriving DecidableEq, Repr

/-- A silence detector's count of quiet blocks (02, R82). -/
structure SilSt where
  count : Nat := 0
  deriving DecidableEq, Repr

/-- Memories of chapter 15: ticks of the patrol pass by MEM_SEL, refresh multiple and DRAM_HOT of each controller. -/
structure MemSt where
  /-- Pages of the mix tables and of the engine state tables as a graft copied them, by address (08, R255). -/
  tables : NTable Byte := []
  pass : NTable Nat := []
  derate : NTable Nat := []
  hot : NTable Bool := []
  deriving DecidableEq, Repr

/-- An FCU group in use (05, R160 to R166): its record and plot, active bank, named swap sample, the input sample of
the block under way from which a swap acts, fade position in output samples, whether its last fade sample is out,
errors of this block and of the next, ramp up of the next block. -/
structure GrpSt where
  plot : Nat := 0
  rec_ : Option FcuGroup := none
  bank : Nat := 0
  swapAt : Option Nat := none
  switchAt : Option Nat := none
  fading : Bool := false
  fadeDone : Bool := false
  pos : Nat := 0
  error : Bool := false
  errorNext : Bool := false
  rampUp : Bool := false
  ran : Bool := false
  named : Nat := 0
  deriving DecidableEq, Repr

/-- An ARE crosspoint in use (06, R181 to R193). -/
structure AreXpSt where
  plot : Nat := 0
  rec_ : Option AreXp := none
  bank : Nat := 0
  exp0 : Nat := 32
  exp1 : Nat := 32
  /-- Blocks of the fade already computed. -/
  fadePos : Option Nat := none
  error : Bool := false
  errorNext : Bool := false
  rampUp : Bool := false
  deriving DecidableEq, Repr
/-- A swap set of a plot (06, R187): state 0 running, 1 pending, 2 fading; the block named. -/
structure SetSt where
  state : Nat := 0
  block : Nat := 0
  deriving DecidableEq, Repr
/-- A coefficient accepted and not yet in the store (06, R185). -/
structure CoefWrite where
  bank : Nat
  addr : Nat
  value : Int
  set : Nat
  tick : Nat
  load : Bool
  deriving DecidableEq, Repr

/-- A range of units held by a plot or being scrubbed (07, R197, Table 7.1). -/
structure Holding where
  kind : Nat
  unit : Nat
  first : Nat
  count : Nat
  plot : Nat
  /-- Scrub end, and whether the units then return to the plot. -/
  scrub : Option (Nat × Bool) := none
  /-- Units that the scrub engine of this memory has cleared in the scrub's last tick (R206, Table 7.4). -/
  used : Nat := 0
  deriving DecidableEq, Repr

/-- A handoff authorisation (07, R209, R212): from offer and acceptance, its forming and withdrawing boundary. -/
structure Auth where
  index : Nat
  producer : Nat
  consumer : Nat
  formAt : Option Nat
  withdrawAt : Option Nat
  /-- The consumer's block of this tick ramps up: it read none in the tick before. -/
  rampUp : Bool
  /-- The consumer reads on after this tick's block. -/
  now : Bool := false
  deriving DecidableEq, Repr
/-- An offer or an acceptance of a handoff. -/
structure HoWord where
  index : Nat
  plot : Nat
  peer : Nat
  deriving DecidableEq, Repr

/-- What a meter has gathered in its period (17, R481). -/
structure MeterAcc where
  peak : Nat := 0
  squares : Nat := 0
  count : Nat := 0
  clips : Nat := 0
  deriving DecidableEq, Repr

/-- One plot beyond its registers. -/
structure PlotSt where
  staged : Option (List Byte) := none
  stagedOwner : Bool := true
  wantTick : Nat := 0
  /-- The boundary of S - 16 of the shadow has passed, or a jump over it (01, R49). -/
  late : Bool := false
  active : Option Last := none
  shadow : Option Last := none
  outgoing : Option Last := none
  routes : List Route := []
  batches : List RouteBatch := []
  held : List HeldRoute := []
  /-- Route edits accepted since reset. -/
  edits : Nat := 0
  waiting : List (Bool × List Byte) := []
  /-- Units released, with the boundary at which they move to SCRUBBING (07, R203). -/
  releases : List (Nat × Holding) := []
  trimAt : Option Nat := none
  /-- Plot resets accepted and not yet applied: boundary, KEYS (07, R207). -/
  resets : List (Nat × Bool) := []
  eraseKeys : Bool := false
  ownerKey : List Byte := []
  observerKey : List Byte := []
  areImage : Option (List Byte) := none
  areFifo : List CoefWrite := []
  /-- The share of R185 of this tick is used. -/
  areWrote : Bool := false
  /-- ARE inputs whose block of this tick stands in the history (06, R180). -/
  histDone : List Nat := []
  loading : Bool := false
  gapTick : Option Nat := none
  /-- Images of the active last and of the shadow (18, R488). -/
  image : List Byte := []
  nextImage : List Byte := []
  /-- The last is being reinstalled after a warm reset (18, R489). -/
  restoring : Bool := false
  meters : List Nat := []
  /-- The metering period in progress: its first tick, its end, its meters' sums, PARTIAL; the set that follows it;
  a set and a period accepted and not yet in force, with their boundaries. -/
  meterFrom : Nat := 0
  meterTo : Nat := 64
  /-- Rounds of the metering period in force. -/
  meterP : Nat := 8
  meterAcc : NTable MeterAcc := []
  meterNext : Option (List Nat × Nat) := none
  /-- A period that has ended: its first tick, PARTIAL, its meters (R481). -/
  meterDone : Option (Nat × Bool × List (Nat × MeterAcc)) := none
  meterPend : Option (Nat × List Nat) := none
  periodPend : Option (Nat × Nat) := none
  partnerOk : Bool := false
  /-- A task overran in this tick (R54). -/
  ovrTick : Bool := false
  deriving DecidableEq, Repr

/-- A request of a leftover master that waits at a target port: its address, the bytes still to move, the response that it gets
(15, R431, R433); `more` beats of 64 bytes are still to come. -/
structure TrReq where
  master : Nat
  addr : Nat
  data : List Byte
  cause : Option Nat
  more : Nat
  deriving DecidableEq, Repr
/-- Leftover traffic of a target port (15, R431): requests in order of arrival, the cycle of the tick up to which beats have been
carried, the master served last in rotation. -/
structure TrellisPort where
  waiting : List TrReq := []
  upTo : Nat := 0
  last : Nat := 27
  deriving DecidableEq, Repr

/-- A DMA window's trigger and run state (15, R429). -/
structure WinSt where
  trigger : Option Nat := none
  ran : Bool := false
  deriving DecidableEq, Repr

/-- A register write waiting for the first boundary allowed (02, R77; 17, R476). -/
structure Due where
  tick : Nat
  reg : Reg
  value : Int
  deriving DecidableEq, Repr
/-- An action waiting for its tick: of a WRITE_AT (16, R455, R456), or forwarded in a pair (08, R251); owner 16 is the
gardener role; the session slot of its writer where it still matters. -/
structure Timed where
  tick : Nat
  owner : Nat
  reg : Reg
  bytes : List Byte
  slot : Option Nat := none
  deriving DecidableEq, Repr

end Sys2Proof.Machine
end

