-- ==== Sys2Proof/Machine/State/Reset.lean ====
section
/-!
DEFINITION. State of reset, bring-up, boot flash, supply and brace beyond their registers (18_reset_power_bringup).
-/
namespace Sys2Proof.Machine

/-- A firmware slot of boot flash (R490): whether its image is valid, and its build, 0 for the one shipped. -/
structure FwSlot where
  valid : Bool := false
  build : Nat := 0
  deriving DecidableEq, Repr

/-- What boot flash keeps (07, R208; 16, Table 16.9; 18, R490, R493). -/
structure FlashImg where
  regs : Table Reg Int := []
  blobs : Table Reg (List Byte) := []
  holdings : List Holding := []
  offers : List HoWord := []
  accepts : List HoWord := []
  auths : List Auth := []
  keys : NTable (List Byte × List Byte) := []
  stored : Nat := 0
  opt0 : List Byte := []
  opt1 : List Byte := []
  fw0 : FwSlot := {}
  fw1 : FwSlot := {}
  deriving DecidableEq, Repr

/-- The option block as shipped, the defaults of Table 18.4a with their CRC (log entry 131). -/
def optShipped : List Byte :=
  [66, 88, 79, 80, 1, 0, 64, 0, 0, 0, 0, 0, 0, 0, 0, 1, 0, 0, 0, 1, 0, 0, 0, 2, 0, 0, 1, 0, 0, 0, 255, 0] ++
    List.replicate 28 0 ++ [153, 170, 94, 90]

/-- Reset and bring-up. -/
structure RstSt where
  /-- Phase of Table 18.3: 0 SUPPLY, 1 STRETCH, 2 OPTION_LOAD, 3 CLOCK, 4 MEMORY, 5 GARDENER_BOOT, 6 DATA_PLANE. -/
  phase : Nat := 6
  /-- Kind and source of the reset in progress; kind 0 none. -/
  kind : Nat := 0
  source : Nat := 0
  /-- Resets whose source has appeared: kind and source (R484, R487). -/
  asks : List (Nat × Nat) := []
  /-- Sources that still hold the reset, by code of Table 18.1; rail r beyond its fail threshold is 32 + r, beyond its
  over-voltage fail threshold 64 + r. -/
  held : List Nat := []
  /-- Instants in us of the end of SUPPLY and of the latest start of the firmware. -/
  supplyEnd : Nat := 0
  bootAt : Nat := 0
  /-- Tick of that start where a gardener reset's stretch ended in it. -/
  bootTick : Option Nat := none
  /-- Tick at which the latest bring-up ended. -/
  upAt : Nat := 0
  /-- Ports in a port reset (R485), bit PORT. -/
  ports : Nat := 0
  /-- Commanded resets: boundary, KIND of RST_CMD, port; KIND 5 is FW_SWITCH. -/
  cmds : List (Nat × Nat × Nat) := []
  /-- The boot under way takes the other slot; it is a fallback. -/
  other : Bool := false
  fellBack : Bool := false
  /-- Instants of watchdog resets in us, and the slots that have failed to boot. -/
  dogs : List Nat := []
  failed : Nat := 0
  noFw : Bool := false
  dramFail : Bool := false
  optDefault : Bool := false
  /-- The two option block copies, and the copy in use (R493). -/
  opt0 : List Byte := optShipped
  opt1 : List Byte := []
  opt : List Byte := optShipped
  optCopy : Nat := 0
  fw0 : FwSlot := { valid := true }
  fw1 : FwSlot := {}
  /-- An image written while flash writes are held: its check's result and its build (R490, R495). -/
  stagedFw : Option (Bool × Nat) := none
  /-- Boot flash as it stood when the writes were held; none: it holds what the objects hold (R495). -/
  saved : Option FlashImg := none
  /-- Plot resets that bring-up applies (R487), lasts and units that it restores (R489): 0 and 1 streams in and out, 2
  serial ports, 3 power stages. -/
  plotResets : List (Nat × Bool) := []
  units : List (Nat × Nat) := []
  /-- Straps: pair enable and seat, address. -/
  strapAddr : Nat := 0
  deriving DecidableEq, Repr

/-- Brace (R497 to R502), in us of the keep domain: the event, the boundary for step 3 and whether it has acted, the
start of the return debounce, the end of the latest caution, the latest return to NORMAL. -/
structure BraceSt where
  at_ : Nat := 0
  policyAt : Option Nat := none
  policyDone : Bool := false
  from_ : Option Nat := none
  lastCaution : Nat := 0
  normalAt : Nat := 0
  /-- Boundary at which UNBRACING starts, named by role A (R501). -/
  unbraceAt : Option Nat := none
  deriving DecidableEq, Repr

end Sys2Proof.Machine
end

