-- ==== Sys2Proof/Machine/State/Sap.lean ====
section
/-!
DEFINITION. State of the serial audio ports and of the power-stage channels beyond their registers (13, 14).
-/
namespace Sys2Proof.Machine

/-- A serial audio port (13). Sample indices count a port's samples since the epoch (R371). -/
structure SapSt where
  /-- Starts (true) and stops accepted: tick, kind, whether through SAP_CMD_AT. -/
  acts : List (Nat × Bool × Bool) := []
  /-- The port's gain at the start of the tick is gPos / gLen (R377); 0 still, 1 rising, 2 falling. -/
  gPos : Nat := 0
  gLen : Nat := 1
  gDir : Nat := 0
  /-- The mute gain (R378). -/
  mPos : Nat := 1
  mLen : Nat := 1
  /-- Frames of pre-roll or post-roll still to start (R376). -/
  left : Nat := 0
  /-- The pre-roll has ended; RUNNING at the next boundary. -/
  ready : Bool := false
  /-- The request that SAP_STATUS reports on: start or stop. -/
  wait : Option Bool := none
  /-- Instant of the latest frame start, in ns of the counter. -/
  lastFrame : Nat := 0
  lost : Bool := false
  /-- The measured class differs from SAP_RATE (R381). -/
  wrongRate : Bool := false
  /-- Frames of the new pre-roll after a loss still to come (R380). -/
  recount : Nat := 0
  /-- Frames in a row inside the window, up to 8 (R373). -/
  good : Nat := 8
  /-- The input block that ramps up (R373, R380), and the first that a loss lets through. -/
  rampBlock : Option Nat := none
  zeroUntil : Nat := 0
  /-- Input blocks that read zero after a slip or a loss. -/
  conceal : List Nat := []
  /-- Input samples by sample index: one word for each slot (R369). -/
  frames : NTable (List Int) := []
  /-- Samples loaded for the frame to come, and the words of the frame under way on SDO (R28, R369). -/
  shift : List Int := []
  sdo : List Int := []
  /-- Frame-start stamps of a port in F that its tracker took since role A last forwarded them (08, R231). -/
  used : List Nat := []
  /-- Stamps of the frames that carry sample 0, by ingest tick; in F the first frame of each tick (R374). -/
  stamps : NTable (Option Nat) := []
  slipTick : Bool := false
  /-- Frames and offsets of the round under way; frame count and stamp at the latest 9 round boundaries (R373, R381). -/
  roundFrames : Nat := 0
  roundSum : Int := 0
  rounds : List (Nat × Nat) := []
  count : Nat := 0
  lastStamp : Nat := 0
  /-- AES3: frames in a row with good preambles, the last good sample of each subframe, the channel-status bits of the
  block under way (none before the first Z preamble), the sample index at which the CS detector fired. -/
  lock : Nat := 0
  lastGood : List Int := []
  csBits : Option (List Bool) := none
  csFired : Option Nat := none
  /-- Channel status being sent, and the write that waits: boundary and bytes (R384). -/
  csSend : List Byte := []
  csNext : Option (Nat × List Byte) := none
  pairs : NTable PairNa := []
  /-- A plot's scrub or reset stops the port (R379): outputs are zero. -/
  silenced : Bool := false
  deriving DecidableEq, Repr

/-- An edge at a gate output (14, R391): time in grid steps from the tick boundary, output 0 PWM_A or 1 PWM_B, level. -/
structure GateEdge where
  time : Int
  gate : Nat
  rise : Bool
  deriving DecidableEq, Repr

/-- One leg of a power stage: what its comparator and its gates remember (14, R390, R391, R403). -/
structure LegSt where
  high : Bool := false
  crossed : Bool := false
  /-- Rises that wait for their fall, or their width: time of the rise of each gate. -/
  riseA : Option Int := none
  riseB : Option Int := none
  /-- The current limit holds both gates low for this half period. -/
  cut : Bool := false
  edges : List GateEdge := []
  /-- Bytes of the bitstreams of the last two loop periods, oldest first. -/
  vBits : List Nat := []
  iBits : List Nat := []
  deriving DecidableEq, Repr

/-- The loop's section states (14, R397). -/
structure LoopSt2 where
  e1 : Int := 0
  e2 : Int := 0
  s1 : Int := 0
  s2 : Int := 0
  t1 : Int := 0
  t2 : Int := 0
  w1 : Int := 0
  w2 : Int := 0
  deriving DecidableEq, Repr

/-- Unity coefficients: KFF 1.0 in Q4.28, the others 0 (14, Table 14.9). -/
def coefDefault : List Int := 268435456 :: List.replicate 11 0

/-- A power-stage channel (14). -/
structure PscSt where
  acts : List (Nat × Bool × Bool) := []
  /-- Gs at the start of the tick is gsPos / gsLen, in loop periods; 0 still, 1 rising, 2 falling; the fall over one tick
  of R412. -/
  gsPos : Nat := 0
  gsLen : Nat := 15360
  gsDir : Nat := 0
  fast : Bool := false
  /-- STOPPING towards DORMANT; carrier stop begun; PRECHARGE after it (Table 14.5), as a wake. -/
  toDorm : Bool := false
  cstop : Bool := false
  again : Option Bool := none
  /-- Boundary of the start sequence, and whether it is a wake (R409, R413). -/
  startB : Nat := 0
  wake : Bool := false
  /-- Trip detected and not yet applied; gates low from the next loop update (R406, R411). -/
  trip : Option Nat := none
  hard : Bool := false
  latched : Bool := false
  noRestart : Bool := false
  restartAt : Nat := 0
  clear : Bool := false
  ocTrips : List Nat := []
  /-- Brace gain: from, to in 0.01 dB, position and length in ticks; made dormant by brace (R415). -/
  gbFrom : Int := 0
  gbTo : Int := 0
  gbPos : Nat := 0
  gbLen : Nat := 0
  braced : Bool := false
  braceSleep : Bool := false
  /-- Gt in dB / (100 * ticks per second) (R402). -/
  gt : Int := 0
  sensor : Bool := false
  gr : Int := 1073741824
  gp : Int := 1073741824
  meanSq : Int := 0
  dcMean : Int := 0
  gMin : Int := 1073741824
  /-- VSNS_FS / VFS in Q4.28, derived at the start (R395). -/
  ratio : Int := 0
  /-- Loop period within the tick; duty command in units of 2^-59. -/
  k : Nat := 0
  d : Int := 0
  loop : LoopSt2 := {}
  coefs : List Int := coefDefault
  idle : List Int := coefDefault
  /-- Coefficient words for the inactive set, with their boundaries. -/
  coefNext : List (Nat × List Int) := []
  swapAt : Option Nat := none
  leg0 : LegSt := {}
  leg1 : LegSt := {}
  /-- The current limit acted in this carrier period; carrier periods in a row in which it did (R403). -/
  ocPeriod : Bool := false
  ocRun : Nat := 0
  /-- Sums of the demodulator, and whether the window stayed clean (R408). -/
  zv : Int × Int := (0, 0)
  zi : Int × Int := (0, 0)
  zClean : Bool := true
  /-- Feed samples, oldest first, with their egress positions in core cycles since tick 0 (R393). -/
  feed : List (Int × Int) := []
  /-- Voltage and current of each leg in the latest 480 loop periods, oldest first (R396). -/
  sense : List (Int × Int) := []
  sense1 : List (Int × Int) := []
  deriving DecidableEq, Repr

end Sys2Proof.Machine
end

