-- ==== Sys2Proof/Machine/State.lean ====
section
/-!
DEFINITION. The state of the chip. Every object of the dictionary is a register of `regs` (or, if it is a BLOB
without a structure of its own, of `blobs`); everything the spec gives the machine beyond its objects stands in the
other fields.
-/
namespace Sys2Proof.Machine

/-- Why a step can stop with a fault. Every command has an effect in every state, so there is none. -/
inductive Fault where
  deriving DecidableEq, Repr

/-- Why a step can be refused. -/
inductive Refusal where
  /-- Raised by the arm of a command that has no meaning yet; safe. -/
  | notModelled (mnemonic : String)
  deriving DecidableEq, Repr

/-- The state. -/
structure State where
  /-- Commands that wait, first in, first out. -/
  pending : List Instr := []
  /-- The model's own counter of free values (log entry 3). -/
  free : Nat := 0
  /-- Tick number (01, R14). -/
  tick : Tick := 0
  /-- Cycle within the tick (01, Table 1.1). -/
  cycle : Nat := 0
  /-- Registers: objects of the dictionary. -/
  regs : Table Reg Int := []
  /-- Objects of type BLOB held whole. -/
  blobs : Table Reg (List Byte) := []
  /-- Bytes of the trellis address map (15, R420): core memories, bed memory, DRAM. -/
  mem : NTable Byte := []
  /-- Rewrites due in the reserved cycles of this tick (03, R99, R121). -/
  repairs : List (Nat × List Byte) := []
  cores : NTable CoreSt := []
  /-- Tasks, by plot * 65536 + TASK_ID. -/
  tasks : NTable TaskSt := []
  plots : NTable PlotSt := []
  /-- DMA windows, by plot * 1024 + window. -/
  wins : NTable WinSt := []
  /-- Source blocks of the compute tick under way, by signal identifier (01, R25; 02, R57). -/
  src : NTable (List Sample) := []
  /-- Source blocks of the previous compute tick (01, R31; 02, R64). -/
  prev : NTable (List Sample) := []
  /-- Source blocks being ingested in this tick. -/
  ingest : NTable (List Sample) := []
  /-- Sink blocks staged for egress. -/
  staged : NTable (List Sample) := []
  /-- Sink blocks that have opened egress. -/
  out : NTable (List Sample) := []
  /-- Bus, FCU and ARE windows already run in this tick, and moments passed. -/
  ranTo : Nat := 0
  /-- Sinks with a crossfade or a ramp, by identifier. -/
  sinks : NTable SinkSt := []
  buses : NTable BusSt := []
  xps : NTable XpSt := []
  gens : NTable GenSt := []
  trackers : NTable TrackerSt := []
  /-- Input that a bridge channel keeps: grid instant in 2^-32 ns and sample; 0 to 1,023 into H, 1,024 to 2,047 out of H (02,
  R86, R87). -/
  bridges : NTable (List (Nat × Int)) := []
  /-- Samples that signals in S or F carried in the tick under way, with their grid instants (02, R82, R84). -/
  freeIn : NTable (List (Nat × Int)) := []
  sils : NTable SilSt := []
  memory : MemSt := {}
  /-- Leftover traffic by target port (15, R431). -/
  trellis : NTable TrellisPort := []
  /-- FCU groups, by FCU * 16 + group. -/
  groups : NTable GrpSt := []
  /-- FCU coefficient words, by FCU * 2^15 + bank * 2^14 + word. -/
  fcuCoef : NTable Int := []
  /-- FCU state memory, by FCU * 2^14 + word. -/
  fcuState : NTable Int := []
  /-- Next scrub word of the FCUs (05, R167). -/
  fcuScrub : Nat := 0
  areXps : NTable AreXpSt := []
  /-- ARE coefficients, by bank * 2^24 + address. -/
  areCoef : NTable Int := []
  /-- ARE history, by address. -/
  hist : NTable Int := []
  /-- Next scrub line of the coefficient banks and next scrub word of the history (06, R196). -/
  areLine : Nat := 0
  histWord : Nat := 0
  /-- Swap sets, by plot * 8 + set. -/
  areSets : NTable SetSt := []
  /-- Units held, by plot (07, Table 7.1). -/
  holdings : List Holding := []
  offers : List HoWord := []
  accepts : List HoWord := []
  auths : List Auth := []
  due : List Due := []
  timed : List Timed := []
  sessions : NTable Session := []
  sources : NTable SourceSt := []
  rings : NTable Ring := []
  answer : Answer := {}
  /-- Request queues of the gardener (16, R460). -/
  gard : GardSt := {}
  log : LogSt := {}
  clk : ClkSt := {}
  tevs : NTable TevSt := []
  net : NetSt := {}
  rxs : NTable RxSt := []
  txs : NTable TxSt := []
  /-- The last 8 egress blocks of a class 3 sink, newest first (01, R33). -/
  txHist : NTable (List (List Sample)) := []
  saps : NTable SapSt := []
  pscs : NTable PscSt := []
  pair : PairSt := {}
  host : HostSt := {}
  addr : AddrSt := {}
  rst : RstSt := {}
  brace : BraceSt := {}
  deriving DecidableEq, Repr

/-- The chip at the end of bring-up: data plane up, gardener ready (log entry 2). -/
def State.reset : State := {}

end Sys2Proof.Machine
end

