-- ==== Sys2Proof/Machine/Ops.lean ====
section
/-!
DEFINITION. The operations that every chapter shares: registers, tables of units, bytes of memory, free values, the
root log's queue (19, R505, R506), notifications (16, R458) and plot faults (07, R216).
-/
namespace Sys2Proof.Machine

/-- What a meaning answers. -/
abbrev Out := Host.Outcome State Fault Refusal

/-- Order of registers in the table: index, sub-index, unit. -/
def Reg.ord (r : Reg) : Nat := (r.idx * 256 + r.sub) * 4294967296 + r.unit
/-- Value of a register. -/
def State.reg (s : State) (r : Reg) : Int := Table.get regDefault s.regs r
/-- Value of a register that is never negative. -/
def State.nat (s : State) (r : Reg) : Nat := (s.reg r).toNat
/-- Write a register. -/
def State.setReg (s : State) (r : Reg) (v : Int) : State :=
  { s with regs := Table.put Reg.ord regDefault s.regs r v }
/-- Count one in a 32-bit counter. -/
def State.bump (s : State) (r : Reg) : State := s.setReg r (bump32 (s.reg r))
/-- Count n in a 32-bit counter. -/
def State.bumpBy (s : State) (r : Reg) (n : Nat) : State := s.setReg r ((s.reg r + n) % 4294967296)
/-- Set bits of a register. -/
def State.orReg (s : State) (r : Reg) (m : Nat) : State := s.setReg r ((s.nat r ||| m : Nat) : Int)
/-- Bytes of an object held whole. -/
def State.blob (s : State) (r : Reg) : List Byte := Table.get (fun _ => []) s.blobs r
/-- Write an object held whole. -/
def State.setBlob (s : State) (r : Reg) (b : List Byte) : State :=
  { s with blobs := Table.put Reg.ord (fun _ => []) s.blobs r b }
/-- Write several registers. -/
def State.setRegs (s : State) (l : List (Reg × Int)) : State := l.foldl (fun s e => s.setReg e.1 e.2) s

/-- A fresh free value (log entry 3). -/
def State.freeWord (s : State) : Int × State := (Config.freeWord s.free, { s with free := s.free + 1 })

/-- A plot. -/
def State.plot (s : State) (p : Nat) : PlotSt := NTable.get {} s.plots p
/-- Change a plot. -/
def State.modPlot (s : State) (p : Nat) (f : PlotSt → PlotSt) : State :=
  { s with plots := NTable.mod {} s.plots p f }
/-- A core. -/
def State.core (s : State) (c : Nat) : CoreSt := NTable.get {} s.cores c
/-- Change a core. -/
def State.setCore (s : State) (c : Nat) (k : CoreSt) : State := { s with cores := NTable.put {} s.cores c k }
/-- Change a core. -/
def State.modCore (s : State) (c : Nat) (f : CoreSt → CoreSt) : State := s.setCore c (f (s.core c))
/-- Key of a task. -/
def taskKey (p id : Nat) : Nat := p * 65536 + id
/-- A task. -/
def State.task (s : State) (p id : Nat) : TaskSt := NTable.get {} s.tasks (taskKey p id)
/-- Change a task. -/
def State.modTask (s : State) (p id : Nat) (f : TaskSt → TaskSt) : State :=
  { s with tasks := NTable.mod {} s.tasks (taskKey p id) f }
/-- The active last of a plot. -/
def State.last (s : State) (p : Nat) : Option Last := (s.plot p).active

/-- Answer a request with a status (16, Table 16.4). -/
def State.reply (s : State) (code : Nat) : State := { s with answer := { status := code } }
/-- Is the chip part of a twin pair: PAIR_STATE other than SINGLE (08, R220). -/
def State.paired (s : State) : Bool := s.reg Reg.pairState != 0
/-- Does the chip forward accepted actions to a partner: role A in LOCKSTEP, or GRAFTING from CONFIG on (08, R251, R253). -/
def State.forwards (s : State) : Bool :=
  s.reg Reg.pairRole == 0 && (s.reg Reg.pairState == 3 || (s.reg Reg.pairState == 2 && decide (s.reg Reg.graftPhase ≥ 3)))
/-- Tick at which a write takes effect that on a single chip does so `n` ticks after acceptance: 8 ticks after it where
it is forwarded; the target tick that role A named, on the chip that receives it (08, R251). -/
def State.after (s : State) (n : Nat) : Nat :=
  match s.pair.toTick with
  | some t => t
  | none => s.tick + if s.forwards then 8 else n
/-- First boundary at least 2 ticks after acceptance. -/
def State.actTick (s : State) : Nat := s.after 2
/-- A register write that takes effect at that boundary (02, R77; 09, R279; 17, R476). -/
def State.dueWrite (s : State) (r : Reg) (v : Int) : State := { s with due := s.due ++ [⟨s.actTick, r, v⟩] }
/-- A register write that takes effect at the next boundary (10, R295, R300). -/
def State.nextWrite (s : State) (r : Reg) (v : Int) : State := { s with due := s.due ++ [⟨s.after 1, r, v⟩] }
/-- Ticks in one second (00, R1). -/
def State.tps (s : State) : Nat := if s.nat Reg.tickFamily = 0 then 8000 else 7350

/-- Fold a function over numbers 0 to n - 1. -/
def overN (n : Nat) (f : State → Nat → State) (s : State) : State := (List.range n).foldl f s
/-- Fold a function over a list. -/
def overL {α : Type} (l : List α) (f : State → α → State) (s : State) : State := l.foldl f s
/-- Apply a function where a condition holds. -/
def State.when (s : State) (b : Bool) (f : State → State) : State := if b then f s else s

/-- Insert into a sorted list, before the first that is not smaller. -/
def insertBy {α : Type} (le : α → α → Bool) (x : α) : List α → List α
  | [] => [x]
  | y :: t => if le x y then x :: y :: t else y :: insertBy le x t
/-- Sort, stable. -/
def sortBy {α : Type} (le : α → α → Bool) (l : List α) : List α := l.foldr (insertBy le) []

/-- The canonical form of memory: addresses strictly rise, and no entry equals what an unlisted address reads as. -/
def Memory.wf (m : NTable Byte) : Bool := NTable.wf 0 m
/-- One byte of memory. -/
def State.byte (s : State) (a : Nat) : Byte := NTable.get 0 s.mem a
/-- Bytes of memory. -/
def State.bytes (s : State) (a n : Nat) : List Byte := (List.range n).map fun i => s.byte (a + i)
/-- Store bytes. -/
def memPut (m : NTable Byte) (a : Nat) : List Byte → NTable Byte
  | [] => m
  | b :: t => memPut (NTable.put 0 m a b) (a + 1) t
/-- The mirror engine notes a write of a page: its tick W, and the ticks in a row with a write (08, R255, R256). -/
def PairSt.wrote (x : PairSt) (tick page : Nat) : PairSt :=
  let w := NTable.get 0 x.pageTick page
  let run := NTable.get 0 x.pageRun page
  { x with
    pageTick := NTable.put 0 x.pageTick page tick
    pageRun := NTable.put 0 x.pageRun page (if w = tick then run else if w + 1 = tick then run + 1 else 1) }
/-- The pages of a range of at most 4 KiB are written, on a chip of a pair (08, R255). -/
def State.touch (s : State) (a n : Nat) : State :=
  if s.paired && n != 0 then
    let p := s.pair.wrote s.tick (a / 4096)
    { s with pair := if (a + n - 1) / 4096 = a / 4096 then p else p.wrote s.tick ((a + n - 1) / 4096) }
  else s
/-- Store bytes. -/
def State.store (s : State) (a : Nat) (b : List Byte) : State := { s with mem := memPut s.mem a b }.touch a b.length
/-- Store zeros over a range: every listed byte of it goes. -/
def State.clearMem (s : State) (a n : Nat) : State :=
  { s with mem := s.mem.filter fun e => !(decide (a ≤ e.1) && decide (e.1 < a + n)) }
/-- Little-endian word of memory. -/
def State.word (s : State) (a : Nat) : Word := BitVec.ofNat 32 (leAt (s.bytes a 4) 0 4)
/-- Bytes of a word. -/
def wordBytes (w : Word) : List Byte := leBytes 4 w.toNat

/-- Rate record of the log for a plot, 16 for the chip. -/
def LogSt.rate (l : LogSt) (p : Nat) : LogRate := NTable.get {} l.rates p
/-- Count a dropped entry. -/
def LogSt.drop (l : LogSt) (p : Nat) : LogSt :=
  { l with rates := NTable.mod {} l.rates p fun r => { r with dropped := r.dropped + 1 } }
/-- An entry reaches the queue: at most 16 of a plot per tick, at most 64 waiting (19, R505, R506). -/
def LogSt.post (l : LogSt) (e : LogEntry) : LogSt :=
  if e.plot < 16 ∧ (l.rate e.plot).thisTick ≥ 16 then l.drop e.plot
  else if l.queue.length ≥ 64 then l.drop 16
  else { l with
    queue := l.queue ++ [e]
    rates := if e.plot < 16 then NTable.mod {} l.rates e.plot fun r => { r with thisTick := r.thisTick + 1 } else l.rates }
/-- Is the tick counter without XREF: domain 1 to 25 lost (19, Table 19.1; 09, Table 9.2). -/
def State.timeStale (s : State) : Bool := s.nat (Reg.clkState 1) == 1
/-- An entry stamped now (19, Table 19.1); parameters are kept to 32 bits. -/
def State.entry (s : State) (code level plot p0 p1 : Nat) : LogEntry :=
  { code, level, plot, stale := s.timeStale, tick := s.tick
    cycle := if s.timeStale then 0xFFFFFFFF else s.cycle, p0 := p0 % 4294967296, p1 := p1 % 4294967296 }
/-- Write a root-log entry through the queue; plot 16 is the chip. Levels: 0 INFO, 1 WARNING, 2 ERROR, 3 FATAL. -/
def State.logEvent (s : State) (code level plot p0 p1 : Nat) : State :=
  { s with log := s.log.post (s.entry code level plot p0 p1) }
/-- An entry that the keep domain writes itself, ahead of the queue (19, R505). -/
def State.logKeep (s : State) (code level p0 p1 : Nat) : State :=
  { s with log := { s.log with keep := s.log.keep ++ [s.entry code level 16 p0 p1] } }

/-- ACTION_DISCARD of an action on an object, due at a tick (19, Table 19.2; 20, R526, R527). -/
def State.discard (s : State) (p : Nat) (r : Reg) (due : Nat) : State :=
  s.logEvent 0x0303 1 p (r.idx * 256 + r.sub) due
/-- What starts (true) and stops of one unit that fall in one step come to: a zero window where both are there (20,
R526), else the kind that is there. -/
def stepActs (l : List Bool) : Option (Option Bool) :=
  if l = [] then none else if l.contains true && l.contains false then some none else some (some (l.contains true))

/-- Queue a notification in a session: 64 wait, the oldest goes (16, R458). -/
def Session.notify (ss : Session) (n : Notice) : Session × Bool :=
  if ss.notices.length ≥ 64 then
    ({ ss with notices := ss.notices.drop 1 ++ [n], noticeLost := true }, true)
  else ({ ss with notices := ss.notices ++ [n] }, false)
/-- Send a notification to every open session of a set (16, R458; 17, R480). -/
def State.notify (s : State) (who : Session → Bool) (code idx sub : Nat) : State :=
  let n : Notice := { code, idx, sub, lost := false, tick := s.tick }
  let drops := (s.sessions.filter fun (e : Nat × Session) => e.2.open_ && who e.2 && decide (e.2.notices.length ≥ 64)).length
  ({ s with sessions := s.sessions.map fun (e : Nat × Session) =>
      if e.2.open_ && who e.2 then (e.1, (e.2.notify n).1) else e }).bumpBy Reg.notifyDropped drops
/-- Sessions of a plot: its owner and its observer. -/
def ofPlot (p : Nat) (ss : Session) : Bool := ss.role != 0 && ss.plot == p
/-- Sessions of the gardener role. -/
def ofGardener (ss : Session) : Bool := ss.role == 0
/-- Stage an entry for a ring of 16-byte entries: two pages of 251 wait on the chip; an entry that finds both full is
dropped (16, R467). -/
def Ring.stage (r : Ring) (e : List Byte) (tick : Nat) : Ring :=
  match r.staged.getLast? with
  | some g =>
    if g.entries.length < 251 then
      { r with staged := r.staged.dropLast ++ [{ g with entries := g.entries ++ [e], last := tick }] }
    else if r.staged.length < 2 then { r with staged := r.staged ++ [⟨[e], tick, tick, r.gap⟩], gap := false }
    else { r with status := r.status ||| 8, gap := true }
  | none => { r with staged := [⟨[e], tick, tick, r.gap⟩], gap := false }
/-- Stage an entry in every open ring of a kind of an owner (16, R465: 0 METER, 1 EVENT, 2 CAPTURE). -/
def State.stageEntry (s : State) (owner kind : Nat) (e : List Byte) : State :=
  { s with rings := s.rings.map fun (x : Nat × Ring) =>
      if x.2.owner == owner && x.2.kind == kind then (x.1, x.2.stage e s.tick) else x }
/-- Body of a NOTIFY, 16 bytes (16, R458). -/
def noticeBytes (n : Notice) : List Byte :=
  leBytes 2 n.code ++ leBytes 2 n.idx ++ leBytes 1 n.sub ++ leBytes 1 (if n.lost then 1 else 0) ++ leBytes 2 0 ++ leBytes 8 n.tick
/-- An event entry: the body that its NOTIFY carries (log entry 90). -/
def State.eventEntry (s : State) (owner code : Nat) (r : Reg) : State :=
  s.stageEntry owner 1 (noticeBytes { code, idx := r.idx, sub := r.sub, lost := false, tick := s.tick })
/-- Notify a plot's sessions; a copy goes to its event pages (16, R458, R465). -/
def State.notifyPlot (s : State) (p code : Nat) (r : Reg) : State :=
  (s.notify (ofPlot p) code r.idx r.sub).eventEntry p code r
/-- Notify the gardener role's sessions; a copy goes to its event pages. -/
def State.notifyGardener (s : State) (code : Nat) (r : Reg) : State :=
  (s.notify ofGardener code r.idx r.sub).eventEntry 16 code r

/-- Set a bit of PLOT_FAULT; a bit that becomes set sends one notification where the mask lets it (07, R216). -/
def State.plotFault (s : State) (p b : Nat) : State :=
  if bit (s.reg (Reg.plotFault p)) b then s
  else
    let s1 := s.orReg (Reg.plotFault p) (2 ^ b)
    if bit (s.reg (Reg.plotFaultMask p)) b then s1.notifyPlot p 1 (Reg.plotFault p) else s1

/-- Internal error evidence of a plot, or of the chip (16): it counts in both phases' windows (08, R236). Evidence of the
chip marks the entry that reports it, the latest in the queue (19, Table 19.3). -/
def State.evidence (s : State) (p : Nat) : State :=
  let q := match s.log.queue.getLast? with
    | some e => if p = 16 then s.log.queue.dropLast ++ [{ e with shared := true }] else s.log.queue
    | none => s.log.queue
  { s with
    log := { s.log with queue := q }
    pair := { s.pair with evidHalf := s.pair.evidHalf ||| 2 ^ p, evidFull := s.pair.evidFull ||| 2 ^ p } }
/-- Raise an MSI-X vector (16, R470). -/
def State.msix (s : State) (v : Nat) : State :=
  { s with host := { s.host with msix := NTable.mod 0 s.host.msix v (· + 1) } }
/-- Fault codes present, bit c - 1 (19, Table 19.4). -/
def State.faultsNow (s : State) : Nat :=
  let f (b : Bool) (n : Nat) : Nat := if b then 2 ^ n else 0
  let r := s.log.retired0 && s.log.retired1
  f r 0 + f s.rst.noFw 1 + f (s.rst.held.contains 4) 2 + f (s.rst.held.contains 6) 3 + f s.rst.dramFail 4 +
    f (s.reg Reg.pairSuspect != 0) 5 + f s.rst.optDefault 6 + f (s.log.retired0 != s.log.retired1) 7
/-- FAULT_CODE follows the conditions: codes that become present are counted, an acknowledgement ends with its condition
(19, R519, R521). The code signalled changes at a frame start only (R520). -/
def State.refreshFaults (s : State) : State :=
  let w := s.nat Reg.faultCode
  let now := s.faultsNow
  let fresh := (List.range 8).countP fun c => bit (now : Int) c && !bit (w : Int) c
  (s.setReg Reg.faultCode (w / 65536 * 65536 + ((w / 256 % 256) &&& now) * 256 + now : Nat)).bumpBy Reg.faultCount fresh
/-- A failed proof: SUSPECT, count, unit, entry; the reaction of role A or B follows at its boundary (08, R264).
Kinds: 0 core, 1 mix lane, 2 FCU, 3 tile. -/
def State.proofFail (s : State) (kind unit : Nat) : State :=
  let last := kind * 16777216 + unit
  let s1 := ((((s.setReg Reg.pairSuspect 1).bump Reg.proofFailCount).setReg Reg.proofLast last).logEvent 0x0605 2 16 last 0).refreshFaults
  { s1 with pair := { s1.pair with proofFailed := true, suspectAt := some s.tick } }

end Sys2Proof.Machine
end

