-- ==== Sys2Proof/Machine/LogBook.lean ====
section
/-!
DEFINITION. The root log (19_root_log_and_faults): writing entries, halves, freezes, drops, export, recovery at a
power-on reset, and FAULT_N.
-/
namespace Sys2Proof.Machine

/-- Bytes of an entry (Table 19.1). -/
def LogEntry.bytes (e : LogEntry) : List Byte :=
  let body := leBytes 4 e.seq ++ leBytes 2 e.code ++ leBytes 1 ((if e.stale then 8 else 0) + e.level) ++ leBytes 1 e.plot ++
    leBytes 8 e.tick ++ leBytes 4 e.cycle ++ leBytes 4 e.p0 ++ leBytes 4 e.p1
  body ++ leBytes 4 (crc32 body)
/-- Is the log lost (R510). -/
def LogSt.lost (l : LogSt) : Bool := l.retired0 && l.retired1
/-- LOG_STATE (Table 19.7). -/
def State.refreshLog (s : State) : State :=
  let f (b : Bool) (n : Nat) : Nat := if b then 2 ^ n else 0
  s.setReg Reg.logState (f s.log.retired0 0 + f s.log.retired1 1 + f s.log.freeze.isSome 2 + f s.log.lost 3 : Nat)
/-- LOG notification and MSI-X vector 6 (R522). -/
def State.logNotice (s : State) (r : Reg) : State := (s.notifyGardener 0x80 r).msix 6

/-- Slot after a slot: within the post ring while a freeze holds (R512). -/
def LogSt.nextSlot (l : LogSt) (k : Nat) : Nat :=
  match l.freeze with
  | some f => if k = (f.slot + 4096) % 16384 then (f.slot + 1) % 16384 else (k + 1) % 16384
  | none => (k + 1) % 16384
/-- Position of the last-word register with the lowest SEQ (R510). -/
def lowestSeq (l : List LogEntry) : Nat :=
  (l.zipIdx.foldl (fun (a : Option (Nat × Nat)) (e : LogEntry × Nat) =>
    match a with
    | some b => if e.1.seq < b.1 then some (e.1.seq, e.2) else some b
    | none => some (e.1.seq, e.2)) none).elim 0 (·.2)
/-- Write one entry with the next SEQ: to its slot, or to a last-word register where the log is lost (R505, R508, R510). -/
def State.logWrite (s : State) (e : LogEntry) : State :=
  let x := { e with seq := s.nat Reg.logHead }
  let s1 := s.setReg Reg.logHead ((s.reg Reg.logHead + 1) % 4294967296)
  if s.log.lost then
    let k := if s.log.lastWords.length < 8 then s.log.lastWords.length else lowestSeq s.log.lastWords
    let lw := if s.log.lastWords.length < 8 then s.log.lastWords ++ [x] else s.log.lastWords.set k x
    { s1 with log := { s1.log with lastWords := lw } }.setBlob (Reg.lastword k) x.bytes
  else
    { s1 with log := { s1.log with
        slots := NTable.put none s1.log.slots s1.log.headSlot (some x)
        headSlot := s1.log.nextSlot s1.log.headSlot } }
/-- Freeze the log with a trigger: LOG_FROZEN is the next entry, and its slot ends the frozen part (R512). -/
def State.freezeLog (s : State) (trigger seq : Nat) : State :=
  if s.log.freeze.isSome || s.log.lost then s
  else
    let f := s.log.headSlot
    let n := s.nat Reg.logHead
    let s1 := s.logWrite (s.entry 0x0903 0 16 trigger seq)
    let s2 := { s1 with log := { s1.log with freeze := some ⟨f, n, trigger, s.tick⟩, headSlot := (f + 1) % 16384 } }
    ((s2.setBlob Reg.logFrozen (leBytes 4 n ++ leBytes 2 trigger ++ leBytes 2 0 ++ leBytes 8 s.tick)).refreshLog).logNotice
      Reg.logState
/-- Freeze trigger of an entry, its bit of Table 19.3. -/
def LogEntry.trigger (e : LogEntry) : Option Nat :=
  let src := e.p0 % 256
  match e.code with
  | 0x0101 => if src = 0x0A then some 7 else if e.p0 / 256 = 2 ∨ e.p0 / 256 = 3 then some 0 else none
  | 0x0104 => some 1
  | 0x0603 => some 2
  | 0x0605 => some 3
  | 0x0801 => some 5
  | 0x0302 => some 6
  | 0x0901 => some 8
  | 0x0201 => some 9
  | _ => if e.shared then some 4 else none
/-- Write an entry, and freeze where it is a trigger that the mask lets act (R512). -/
def State.logPut (s : State) (e : LogEntry) : State :=
  let n := s.nat Reg.logHead
  let s1 := s.logWrite e
  match e.trigger with
  | some b => if bit (s.reg Reg.logFreezeMask) b then s1.freezeLog b n else s1
  | none => s1
/-- Retire a half; the first entry written afterwards says so (R509, R510). -/
def State.retireHalf (s : State) (h slot : Nat) : State :=
  let already := if h = 0 then s.log.retired0 else s.log.retired1
  if already then s
  else
    let e := s.entry 0x0901 2 16 h slot
    let s1 := { s with log := { s.log with
      retired0 := s.log.retired0 || h == 0, retired1 := s.log.retired1 || h == 1
      lastRetired := h, keep := e :: s.log.keep } }
    (s1.refreshLog.logNotice Reg.logState).refreshFaults

/-- LOG_QUEUE_DRAIN: the keep domain's entries go first; the read-back of each half in service may fail (R505, R508, R509,
R512). -/
def execLogQueueDrain (bad0 bad1 : Bool) (s : State) : Out :=
  let slot := s.log.headSlot
  let readBack (s : State) : State := (s.when (bad0 && !s.log.retired0) fun s => s.retireHalf 0 slot).when
    (bad1 && !s.log.retired1) fun s => s.retireHalf 1 slot
  if s.log.ask then
    let w := s.freeWord
    .next ({ w.2 with log := { w.2.log with ask := false } }.freezeLog 9 (w.1 % 4294967296).toNat)
  else match s.log.keep, s.log.queue with
    | e :: t, _ => .next (readBack ({ s with log := { s.log with keep := t } }.logPut e))
    | [], e :: t => .next (readBack ({ s with log := { s.log with queue := t } }.logPut e))
    | [], [] => .next s
/-- LOG_DROPPED: the entries dropped of a plot, or of the queue (16), since the last such entry, at most one in 8,000
ticks (R506). -/
def execLogDropped (p : Fin 17) (s : State) : Out :=
  let r := s.log.rate p
  let due := match r.lastDrop with | some k => decide (k + 8000 ≤ s.tick) | none => true
  if r.dropped = 0 ∨ !due then .next s
  else .next { s with log := { s.log with
    keep := s.log.keep ++ [s.entry 0x0905 1 p r.dropped 0]
    rates := NTable.put {} s.log.rates p { r with dropped := 0, lastDrop := some s.tick } } }
/-- LOG_SCRUB: the next word of the halves in service; an uncorrectable word retires its half (R511, R509). -/
def execLogScrub (uncorrectable : Bool) (s : State) : Out :=
  let w := s.log.scrubWord
  let w1 := if w < 65536 ∧ s.log.retired0 then 65536 else if w ≥ 65536 ∧ s.log.retired1 then 0 else w
  let s1 := { s with log := { s.log with scrubWord := (w1 + 1) % 131072 } }
  if s.log.lost then .next s
  else .next (s1.when uncorrectable fun s => s.retireHalf (w1 / 65536) (w1 % 65536 / 4))
/-- LOG_FREEZE: a write of 1 is a trigger of its own; no entry triggered it, so P1 is a free value (R512). -/
def execLogFreeze (s : State) : Out :=
  let w := s.freeWord
  .next ((w.2.freezeLog 0xFF (w.1 % 4294967296).toNat).reply 0)
/-- LOG_UNFREEZE: a write of 0 ends a freeze (R513). -/
def execLogUnfreeze (s : State) : Out :=
  match s.log.freeze with
  | none => .next (s.reply 0)
  | some f =>
    let k := s.log.headSlot
    let s1 := s.logWrite (s.entry 0x0904 0 16 f.seq 0)
    let s2 := { s1 with log := { s1.log with
      freeze := none, headSlot := if s.log.lost then s1.log.headSlot else (k + 1) % 16384 } }
    .next ((((s2.setBlob Reg.logFrozen []).refreshLog).logNotice Reg.logState).reply 0)

/-- Entries that an export gives: from the cursor onward in SEQ order, of one plot or of all (R517). -/
def State.logExport (s : State) (cursor : Nat) (plot : Option Nat) : List LogEntry :=
  let h := s.nat Reg.logHead
  let rel (x : Nat) : Nat := (x + 4294967296 - cursor) % 4294967296
  let held := s.log.slots.filterMap (fun (e : Nat × Option LogEntry) => e.2) ++ (if s.log.lost then s.log.lastWords else [])
  let mine := held.filter fun e => decide (rel e.seq < rel h) &&
    (match plot with | some p => e.plot == p | none => true)
  (sortBy (fun a b => decide (rel a.seq ≤ rel b.seq)) mine).take 16384

/-- The log after a power-on reset has read both halves: slots that are bad in every half in service are cleared, halves
return to service where their copy reads back clean, the head and the freeze are found again (R516). -/
def State.logRestore (s : State) (rep : BringUp) : State :=
  let bad (h k : Nat) : Bool := rep.bad.any fun e => e.1.val == h && e.2 == k
  let worn (h : Nat) : Bool := (if h = 0 then s.log.retired0 else s.log.retired1) || rep.bad.any fun e => e.1.val == h
  let fail (h : Nat) : Bool := worn h && !(if h = 0 then rep.copyClean.1 else rep.copyClean.2)
  let both := fail 0 && fail 1
  let r0 := if both then !(rep.zeroClean.1 && rep.zeroClean.2) else fail 0
  let r1 := if both then !(rep.zeroClean.1 && rep.zeroClean.2) else fail 1
  let gone (k : Nat) : Bool := (bad 0 k || s.log.retired0) && (bad 1 k || s.log.retired1)
  let slots := if both then [] else s.log.slots.filter fun (e : Nat × Option LogEntry) => !gone e.1
  let top := slots.foldl (fun (a : Option (Nat × LogEntry)) (e : Nat × Option LogEntry) =>
    match e.2, a with
    | some x, some y => if y.2.seq < x.seq then some (e.1, x) else some y
    | some x, none => some (e.1, x)
    | none, y => y) none
  let mark := slots.foldl (fun (a : Option (Nat × LogEntry)) (e : Nat × Option LogEntry) =>
    match e.2 with
    | some x =>
      let later : Bool := match a with | some y => decide (y.2.seq < x.seq) | none => true
      if (x.code = 0x0903 ∨ x.code = 0x0904) ∧ later then some (e.1, x) else a
    | none => a) none
  let fz : Option Freeze := match mark with
    | some (k, x) => if x.code = 0x0903 then some ⟨k, x.seq, x.p0, x.tick⟩ else none
    | none => none
  let s1 := { s with log := { s.log with
    slots := slots, retired0 := r0, retired1 := r1, freeze := fz, keep := s.log.keep } }
  let s2 := { s1 with log := { s1.log with headSlot := match top with | some (k, _) => s1.log.nextSlot k | none => 0 } }
  let s3 := s2.setReg Reg.logHead (match top with | some (_, x) => ((x.seq + 1) % 4294967296 : Nat) | none => 0)
  let s4 := s3.setBlob Reg.logFrozen (match fz with
    | some f => leBytes 4 f.seq ++ leBytes 2 f.trigger ++ leBytes 2 0 ++ leBytes 8 f.tick | none => [])
  let s5 := s4.refreshLog
  let back (h : Nat) (s : State) : State :=
    { s with log := { s.log with keep := s.log.keep ++ [s.entry 0x0902 0 16 h 0] } }
  ((s5.when (worn 0 && !r0) (back 0)).when (worn 1 && !r1) (back 1)).refreshFaults

/-- FAULT_FRAME_START at an instant in us: the frame under way completes first; the lowest present, unacknowledged code
is signalled (R519, R520, R522). -/
def execFaultFrameStart (now : Nat) (s : State) : Out :=
  if now < s.log.frameEnd then .next s
  else
    let s0 := s.refreshFaults
    let w := s0.nat Reg.faultCode
    let c := match (List.range 8).find? fun c => bit (w : Int) c && !bit (w : Int) (8 + c) with | some k => k + 1 | none => 0
    let s1 := s0.setReg Reg.faultCode (c * 16777216 + w % 16777216 : Nat)
    let s2 := { s1 with log := { s1.log with frameEnd := if c = 0 then now else now + ((2 * c - 1) * 250 + 2000) * 1000 } }
    .next (s2.when (c != w / 16777216) fun s => s.logNotice Reg.faultCode)
/-- FAULT_CLEAR: acknowledges codes that are present (R521). -/
def execFaultClear (m : Fin 65536) (s : State) : Out :=
  let w := s.nat Reg.faultCode
  if m.val ≥ 256 then .next (s.reply 0x13)
  else .next ((s.setReg Reg.faultCode (w / 65536 * 65536 + ((w / 256 % 256) ||| (m.val &&& w % 256)) * 256 + w % 256 : Nat)).reply 0)

end Sys2Proof.Machine
end

