-- ==== Sys2Proof/Machine/Bounded.lean ====
section
/-!
DEFINITION. Results of which the spec states a bound, or a formula without its rounding: the free value of Config kept
within what is stated (03, Table 3.7; 02, R75, R83; 14, R399 to R408; log entries 4, 5, 102).
-/
namespace Sys2Proof.Machine

/-- A free value kept from lo to hi. -/
def between (lo hi free : Int) : Int := max lo (min hi free)
/-- The least whole number that is not below a / 2^n. -/
def ceilShift (a : Int) (n : Nat) : Int := -((-a) / 2 ^ n)
/-- One of the two whole numbers that enclose a / 2^n, or that number itself: the formula is stated and its rounding is
not. -/
def enclosed (a : Int) (n : Nat) (free : Int) : Int := between (a / 2 ^ n) (ceilShift a n) free
/-- A whole number within e of a / 2^n. -/
def near (a : Int) (n : Nat) (e : Int) (free : Int) : Int := between (ceilShift a n - e) (a / 2 ^ n + e) free

/-! Exact functions in fixed point: logarithms and angles in units of 2^-90, other values in units of 2^-160. -/

/-- ln 2 in units of 2^-160. -/
def ln2Fix : Int := 1013035739299659071135698605846798551586536899366
/-- log2 10 in units of 2^-90. -/
def log2TenFix : Int := 4112347796288069798443794288
/-- Bits of the logarithm of m in [1, 2), in units of 2^-160, by squaring. -/
def logBits : Nat → Nat → Nat → Nat
  | 0, _, acc => acc
  | k + 1, m, acc =>
    let q := m * m / 2 ^ 160
    if q ≥ 2 ^ 161 then logBits k (q / 2) (2 * acc + 1) else logBits k q (2 * acc)
/-- log2 of a positive number in units of 2^-90. -/
def log2Fix (x : Nat) : Int := (x.log2 * 2 ^ 90 + logBits 90 (x * 2 ^ 160 / 2 ^ x.log2) 0 : Nat)
/-- 2 to a power in units of 2^-90. -/
def exp2Fix (e : Int) : Int :=
  let v := expTerms 60 (2 ^ 160) (ln2Fix * (e % 2 ^ 90) / 2 ^ 90) 1
  let n := e / 2 ^ 90
  if n < 0 then v / 2 ^ (-n).toNat else v * 2 ^ n.toNat
/-- sin(2 pi phase / 2^32). -/
def sinFix (phase : Nat) : Int :=
  let r := phase % 1073741824
  let q := phase / 1073741824 % 4
  let a : Nat := if q % 2 = 0 then r else 1073741824 - r
  let x := piFix * a / 2147483648
  let v := sinTerms 40 x (x * x / 2 ^ 160) 1
  if q < 2 then v else -v
/-- Bits of an angle in units of pi, from 0 to 2, most significant first: each is 1 in the lower half plane, then the
angle doubles. -/
def angleBits : Nat → Int → Int → Nat → Nat
  | 0, _, _, acc => acc
  | k + 1, x, y, acc =>
    let n := (max x.natAbs y.natAbs).log2
    let x1 := if n ≤ 160 then x * 2 ^ (160 - n) else x / 2 ^ (n - 160)
    let y1 := if n ≤ 160 then y * 2 ^ (160 - n) else y / 2 ^ (n - 160)
    angleBits k (x1 * x1 - y1 * y1) (2 * x1 * y1) (2 * acc + if y < 0 ∨ (y = 0 ∧ x < 0) then 1 else 0)
/-- Angle of (x, y) over pi, from -1 to 1, in units of 2^-90; an angle of pi is 1. -/
def angleFix (x y : Int) : Int :=
  if y = 0 ∧ x < 0 then 2 ^ 90
  else
    let u : Int := angleBits 91 x y 0
    if u ≥ 2 ^ 90 then u - 2 ^ 91 else u

/-! Core coprocessor (03, Table 3.7): within 2 LSB. -/

/-- LOG2 of a positive Q1.31 operand, in Q6.26. -/
def log2Result (x : Int) : Int := near (log2Fix x.toNat - 31 * 2 ^ 90) 64 2 (Config.log2 x)
/-- EXP2 of a negative Q6.26 operand, in Q1.31. -/
def exp2Result (x : Int) : Int := sat 32 (near (exp2Fix (x * 2 ^ 64)) 129 2 (Config.exp2 x))
/-- ATAN2 of (y, x) in Q1.31 of pi. -/
def atan2Result (y x : Int) : Int := sat 32 (near (angleFix x y) 59 2 (Config.atan2 y x))

/-! The ROM half-band designs of the filter chain units (05, R156): words at odd distances from the centre, then the centre
word, in Q2.30. -/

/-- The response at a frequency of a / b of the lower rate, in units of 2^-190: f_lo is half the higher rate. -/
def halfBandResponse (q : List Int) (a b : Nat) : Int :=
  let n := q.length - 1
  q.getD n 0 * 2 ^ 160 + 2 * sumI ((List.range n).map fun k =>
    q.getD k 0 * sinFix (((2 * k + 1) * a * 2 ^ 31 / b + 2 ^ 30) % 2 ^ 32))
/-- Does a design keep the bounds of R156: unity up to edge / 100 of the lower rate within the ripple in dB / rn, at least att
dB down from its mirror image on; looked at in 33 places of each band (log entry 202, DESIGN CHOICE). -/
def halfBandOk (q : List Int) (n edge rn att : Nat) : Bool :=
  let top := pow10Fix 1 (20 * rn) * 2 ^ 30
  let low := pow10Fix (-1) (20 * rn) * 2 ^ 30
  let stop := pow10Fix (-(att : Int)) 20 * 2 ^ 30
  decide (q.length = n) && (q.all fun c => !overflows 32 c) && (List.range 33).all fun j =>
    let h := halfBandResponse q (edge * j) 3200
    let g := halfBandResponse q (3200 - edge * j) 3200
    decide (low ≤ h) && decide (h ≤ top) && decide ((g.natAbs : Int) ≤ stop)
/-- L63: the fixed design of every chip, of which the spec states the bounds and not the words: a free value where it keeps
them, else one design that does (log entry 202). -/
def romL63 : List Int :=
  let free := (List.range 17).map (Config.halfBand 0)
  if halfBandOk free 17 40 2000 95 then free
  else [340251269, -109407187, 61061327, -39090284, 26222967, -17776825, 11944039, -7851991, 4998656, -3051325, 1766563,
    -956697, 475260, -209903, 77711, -21287, 536870912]
/-- S23: as L63, with its bounds. -/
def romS23 : List Int :=
  let free := (List.range 7).map (Config.halfBand 1)
  if halfBandOk free 7 35 100 55 then free
  else [336049220, -97663923, 44090580, -19944254, 7825783, -2282512, 536870912]

/-! Ramps, generators and the pilot. -/

/-- log2 of the size of a Q5.27 gain, in units of 2^-90 and of 2^-27; a gain of 0 is -120 dB (02, R75). -/
def gainLog (g : Int) : Int := if g = 0 then 27 * 2 ^ 90 - 6 * log2TenFix else log2Fix g.natAbs
/-- Sample k of a ramp of len samples that is linear in dB (02, R75): within 0.005 dB of the formula, or a neighbour of
it where no Q5.27 value is that near; the sign is the target's, or the start's for a target of 0. -/
def dbRampAt (g0 g1 : Int) (k len : Nat) : Int :=
  let e := gainLog g0 + (gainLog g1 - gainLog g0) * (k + 1) / (len : Nat)
  let d := log2TenFix * 5 / 20000
  let v := exp2Fix e
  let lo := min (ceilShift (exp2Fix (e - d)) 160) (v / 2 ^ 160)
  let hi := max (exp2Fix (e + d) / 2 ^ 160) (ceilShift v 160)
  let m := between lo hi (Config.dbRamp g0 g1 k len)
  if g1 < 0 ∨ (g1 = 0 ∧ g0 < 0) then -m else m
/-- A sine sample of a generator with a level in 0.01 dBFS (02, R83): within 1 LSB at 24 bits of the exact value. -/
def sineSample (phase : Nat) (level : Int) : Sample :=
  sat 32 (near (pow10Fix level 2000 * sinFix phase) 289 256 (Config.sine phase level))
/-- A sine of the pilot and of its demodulator (14, R407, R408): no accuracy is stated; it is kept within e of the exact
value, which for the pilot is R83's bound (log entry 102). -/
def pilotSine (phase : Nat) (amp e : Int) : Int := near (amp * sinFix phase) 160 e (Config.pilotSine phase amp)

/-! Gains of a power-stage channel (14, R399 to R402): the exact value or a neighbour of it. -/

/-- A gain of num / den dB in Q2.30. -/
def dbGain (num : Int) (den : Nat) : Int := enclosed (pow10Fix num (20 * den)) 130 (Config.dbGain num den)
/-- A Q2.30 gain in 0.01 dB; a gain of 0 has no level. -/
def gainDb (g : Int) : Int :=
  if g ≤ 0 then wrapS 32 (Config.gainDb g)
  else
    let a := (log2Fix g.toNat - 30 * 2 ^ 90) * 2000
    between (a / log2TenFix) (-((-a) / log2TenFix)) (Config.gainDb g)
/-- A Q2.30 gain moved by num / den dB. -/
def dbMove (g num : Int) (den : Nat) : Int := enclosed (g * pow10Fix num (20 * den)) 160 (Config.dbMove g num den)
/-- A first-order average moved towards one value: it stays between the two. -/
def average (m x : Int) (tau rate : Nat) : Int := between (min m x) (max m x) (Config.average m x tau rate)
/-- The limit in Q1.31 divided by the root of the mean square, in Q2.30. -/
def rmsGain (lim mean : Int) : Int :=
  let r : Int := isqrt (lim * lim * 2 ^ 60 / max 1 mean).toNat
  between r (r + 1) (Config.rmsGain lim mean)
/-- Angle of the ratio of two complex values in 0.01 degrees (14, R408); the ratio of or by 0 has none. -/
def ratioAngle (a b : Int × Int) : Int :=
  let re := a.1 * b.1 + a.2 * b.2
  let im := a.2 * b.1 - a.1 * b.2
  if re = 0 ∧ im = 0 then wrapS 32 (Config.angle a b) else enclosed (angleFix re im * 18000) 90 (Config.angle a b)

end Sys2Proof.Machine
end

