-- ==== Sys2Proof/Machine/Units.lean ====
section
/-!
DEFINITION. Units and signals: who holds a unit (07, R197, Table 7.2), whose an identifier is (02, R59; 07, R201),
and where memory lies in the trellis map (15, Table 15.4).
-/
namespace Sys2Proof.Machine

/-- Does a range hold a unit. -/
def Holding.has (h : Holding) (kind unit i : Nat) : Bool :=
  decide (h.kind = kind) && decide (h.unit = unit) && decide (h.first ≤ i) && decide (i < h.first + h.count)
/-- The plot that holds a unit; kinds without a UNIT field use 0xFFFF (Table 7.1). -/
def State.holder (s : State) (kind unit i : Nat) : Option Nat :=
  (s.holdings.find? fun h => h.has kind unit i && h.scrub.isNone).map (·.plot)
/-- Does a plot hold a unit. -/
def State.holds (s : State) (p kind unit i : Nat) : Bool := s.holder kind unit i == some p
/-- Does a plot hold a range of units: its held ranges are cut out of it one by one. -/
def coverFuel : Nat → List Holding → Nat → Nat → Bool
  | 0, _, a, e => decide (e ≤ a)
  | k + 1, hs, a, e =>
    if e ≤ a then true else
    match hs.find? fun h => decide (h.first ≤ a) && decide (a < h.first + h.count) with
    | some h => coverFuel k hs (h.first + h.count) e
    | none => false
/-- Does a plot hold every unit of a range, none of it about to be released (07, R203). -/
def State.holdsRange (s : State) (p kind unit first count : Nat) : Bool :=
  let mine (h : Holding) : Bool := decide (h.kind = kind) && decide (h.unit = unit)
  let hs := s.holdings.filter fun h => mine h && decide (h.plot = p) && h.scrub.isNone
  coverFuel (hs.length + 1) hs first (first + count) &&
    !((s.plot p).releases.any fun e => mine e.2 && decide (e.2.first < first + count) && decide (first < e.2.first + e.2.count))
/-- UNIT of a kind that has none. -/
def noUnit : Nat := 0xFFFF
/-- Plot of a core. -/
def State.corePlot (s : State) (c : Nat) : Option Nat := s.holder 1 noUnit c

/-- Is a serial audio port one of a split-clock pair (13, R372). -/
def State.sapSplit (s : State) (n : Nat) : Bool := s.reg (Reg.sapSplit (n / 2 * 2)) == 1
/-- The port whose clocks, configuration and state govern SDI of a port. -/
def State.sapIn (s : State) (n : Nat) : Nat := if s.sapSplit n && n % 2 == 1 then n - 1 else n
/-- The port whose clocks, configuration and state govern SDO of a port. -/
def State.sapOut (s : State) (n : Nat) : Nat := if s.sapSplit n && n % 2 == 0 then n + 1 else n

/-- Class of an identifier (02, R57). -/
def sigClass (x : SigId) : Nat := x / 8192
/-- Index of an identifier. -/
def sigIdx (x : SigId) : Nat := x % 8192
/-- The identifier of a class and an index. -/
def sigOf (c i : Nat) : SigId := c * 8192 + i
/-- Valid indices of a class (02, Table 2.1). -/
def classSize : Nat → Nat
  | 0 => 4096 | 1 => 4096 | 2 => 8192 | 3 => 8192 | 4 => 2048 | 5 => 1024 | 6 => 1024 | 7 => 8192 | 8 => 8192
  | 9 => 64 | 10 => 144 | 11 => 8192 | 12 => 1024 | 13 => 1024 | 14 => 320 | 15 => 8192 | _ => 0
/-- Is an identifier valid (02, R58). -/
def sigValid (x : SigId) : Bool := decide (sigIdx x < classSize (sigClass x))
/-- Does a class have a route entry (02, R62). -/
def isSink (x : SigId) : Bool := [1, 3, 5, 8, 9, 11, 12, 13, 15].contains (sigClass x)
/-- Is a class a source (02, R62). -/
def isSource (x : SigId) : Bool := [0, 2, 4, 6, 7, 10, 11, 12, 13, 14, 15].contains (sigClass x)
/-- Ingest-class sources (01, R22). -/
def isIngest (x : SigId) : Bool := [0, 2, 10, 12].contains (sigClass x)
/-- Egress sinks (01, R548). -/
def isEgress (x : SigId) : Bool := [1, 3, 9].contains (sigClass x)

/-- Records of the FCU groups of a last: the group that holds chain channel c of FCU u (05, R142). -/
def Last.groupOf (l : Last) (u c : Nat) : Option FcuGroup :=
  l.groups.find? fun g => decide (g.fcu = u) && decide (g.group = c / 8) && bit g.lanes (c % 8)

/-- Plot of an identifier (02, R59; 07, R201). -/
def State.sigOwner (s : State) (x : SigId) : Option Nat :=
  let i := sigIdx x
  if !sigValid x then none else
  match sigClass x with
  | 0 => s.holder 26 noUnit (i / 32)
  | 1 => s.holder 26 noUnit (i / 32)
  | 4 => s.holder 11 noUnit i
  | 5 => s.holder 6 noUnit i
  | 6 => s.holder 7 noUnit i
  | 9 => s.holder 27 noUnit i
  | 10 => s.holder 27 noUnit (if i < 64 then i else if i < 128 then i - 64 else 4 * (i - 128))
  | 11 => s.holder 14 (i / 128) (i % 128 / 8)
  | 12 => s.holder 21 noUnit i
  | 13 => s.holder 22 noUnit i
  | 14 => if i < 256 then s.holder 23 noUnit i else s.holder 27 noUnit (i - 256)
  | c => s.holder 20 c i

/-- First byte of a core's DM (15, Table 15.4). -/
def dmBase (c : Nat) : Nat := 0x4100000000 + (c / 8) * 0x1000000 + (c % 8) * 0x40000
/-- First byte of a core's cluster slice. -/
def sliceBase (c : Nat) : Nat := 0x4100000000 + (c / 8) * 0x1000000 + 0x200000 + (c % 8) * 0x40000
/-- First byte of a core's PM. -/
def pmBase (c : Nat) : Nat := 0x4100000000 + (c / 8) * 0x1000000 + 0x400000 + (c % 8) * 0x10000
/-- First byte of bed memory. -/
def bedBase : Nat := 0x4000000000
/-- Address of a local byte in a core's DM or own slice (03, Table 3.4). -/
def nearAddr (c a : Nat) : Nat :=
  if a < 0x40000 then dmBase c + a else sliceBase c + (a - 0x100000 - (c % 8) * 0x40000)
/-- Does a local range lie in DM or in the core's own slice (03, R97). -/
def nearOk (c a n : Nat) : Bool :=
  decide (a + n ≤ 0x40000) ||
    (decide (0x100000 + (c % 8) * 0x40000 ≤ a) && decide (a + n ≤ 0x100000 + (c % 8) * 0x40000 + 0x40000))

end Sys2Proof.Machine
end

