-- ==== Sys2Proof/Machine/LastPaths.lean ====
section
/-!
DEFINITION. Paths through a last: edges between identifiers, loops, derived latency (01, R31, R35, R40, R548), and what
a swap changes on a sink (01, R47; 02, R71).
-/
namespace Sys2Proof.Machine

/-- The signals a task writes (01, Table 1.12). -/
def Last.writesOf (l : Last) (id : Nat) : List SigId :=
  (l.io.filter fun r => decide (r.task = id) && decide (r.dir = 1)).map (·.sig)
/-- An edge between identifiers; `late` adds one tick (01, R31). -/
structure Edge where
  src : SigId
  dst : SigId
  late : Bool
  deriving DecidableEq, Repr

/-- Does a last have a DIR 0 window on a DRAM port for a task (01, R548, bit 2). -/
def Last.dramTask (l : Last) (id : Nat) : Bool :=
  l.windows.any fun w => decide (w.task = id) && w.dir == 0 && (w.port == 20 || w.port == 21)
/-- Is a class 8 sink routed with DEFERRED. -/
def routedLate (rs : List Route) (x : SigId) : Bool := rs.any fun r => decide (r.sink = x) && r.deferred
/-- Edges of routes. -/
def routeEdges (rs : List Route) : List Edge :=
  (rs.filter fun r => !r.none).map fun r => { src := r.source, dst := r.sink, late := r.deferred || sigClass r.source == 15 }
/-- Edges of units and tasks. A class 8 input that its route defers already is not late a second time (log entry 47). -/
def Last.unitEdges (l : Last) (rs : List Route) : List Edge :=
  (l.xps.map fun x => { src := x.source, dst := sigOf 4 x.bus, late := x.deferred || sigClass x.source == 15 }) ++
    (l.areXps.map fun x => { src := sigOf 5 x.input, dst := sigOf 6 x.output, late := false }) ++
    ((l.io.filter fun r => r.dir != 1).flatMap fun r => (l.writesOf r.task).map fun y =>
      { src := r.sig, dst := y, late := sigClass r.sig == 15 || (r.dir == 2 && !(sigClass r.sig == 8 && routedLate rs r.sig)) })
/-- All edges under a set of routes. -/
def Last.edges (l : Last) (rs : List Route) : List Edge := routeEdges rs ++ l.unitEdges rs

/-- A path's end at a sink: ticks added, Ts terms, flags of R35, origin. -/
structure PathEnd where
  ticks : Nat
  ts : Nat
  flags : Nat
  origin : SigId
  deriving DecidableEq, Repr
/-- Flags that an identifier on a path sets: bridge channel, DRAM delay line (R548). -/
def Last.nodeFlags (l : Last) (x : SigId) : Nat :=
  if sigClass x = 12 ∨ sigClass x = 13 then 2
  else if sigClass x = 7 ∧ l.io.any (fun r => r.dir == 1 && decide (r.sig = x) && l.dramTask r.task) then 4 else 0
/-- Is an identifier an origin (R548). -/
def isOrigin (es : List Edge) (x : SigId) : Bool :=
  isIngest x || sigClass x == 15 ||
    ((sigClass x == 14 || sigClass x == 4 || sigClass x == 6 || sigClass x == 7) && !(es.any fun e => decide (e.dst = x)))
/-- Paths from origins to an identifier, each identifier at most once (R548). The Ts term of a SAP input counts
towards a SAP output and a PSC feed, by the datums of R32 (Table 1.4; 02, Example 2.1; log entry 44). -/
def pathsTo (l : Last) (es : List Edge) (sinkClass : Nat) : Nat → List SigId → SigId → List PathEnd
  | 0, _, _ => []
  | k + 1, seen, x =>
    let f := l.nodeFlags x
    let here := if isOrigin es x && seen != []
      then [({ ticks := 0, ts := if sigClass x = 0 ∧ sinkClass ≠ 3 then 1 else 0, flags := f, origin := x } : PathEnd)] else []
    if isIngest x then here else
    here ++ (es.filter fun e => decide (e.dst = x) && !seen.contains e.src && decide (e.src ≠ x)).flatMap fun e =>
      (pathsTo l es sinkClass k (x :: seen) e.src).map fun q =>
        { q with ticks := q.ticks + (if e.late then 1 else 0), flags := q.flags ||| f }
/-- The longest of paths. -/
def longest (ps : List PathEnd) : Option (Nat × Nat) :=
  ps.foldl (fun m q => match m with
    | none => some (q.ticks, q.ts)
    | some b => if b.1 < q.ticks ∨ (b.1 = q.ticks ∧ b.2 < q.ts) then some (q.ticks, q.ts) else some b) none
/-- Word of the egress terms alone: half-ticks, Ts of a SAP output, PSC term (Table 1.4). -/
def Last.egressWord (l : Last) (x : SigId) (direct : Bool) : Nat :=
  (if direct then 2 else if l.half then 3 else 4) * 65536 + (if sigClass x = 1 then 256 else 0) +
    if sigClass x = 9 then 1 else 0
/-- Derived latency of an egress sink, with the origins of its longest paths (R35, R548); a sink that no path reaches
has the egress terms alone (log entry 48). -/
def Last.derive (l : Last) (rs : List Route) (x : SigId) : Option (Nat × List SigId) :=
  match rs.find? fun r => decide (r.sink = x) && !r.none with
  | none => none
  | some r =>
    if !isEgress x then none
    else
      let es := l.edges rs
      let ps := pathsTo l es (sigClass x) (es.length + 1) [] x
      match longest ps with
      | none => some (l.egressWord x r.direct, [])
      | some (t, n) =>
        let flags := ps.foldl (fun f q => f ||| q.flags) 0
        some (l.egressWord x r.direct + 2 * t * 65536 + n * 256 + flags,
          (ps.filter fun q => decide (q.ticks = t) && decide (q.ts = n)).map (·.origin))
/-- Latency word of a sink under routes; 0 for none. -/
def Last.latency (l : Last) (rs : List Route) (x : SigId) : Nat := match l.derive rs x with | some e => e.1 | none => 0

/-- Identifiers reached from a set over edges. -/
def closure (es : List Edge) : Nat → List SigId → List SigId
  | 0, xs => xs
  | k + 1, xs =>
    let new := ((es.filter fun e => xs.contains e.src && !xs.contains e.dst).map (·.dst)).eraseDups
    if new = [] then xs else closure es k (xs ++ new)
/-- Identifiers that feed an egress sink in the same tick (R23, R40; log entry 45). -/
def Last.feeding (l : Last) (rs : List Route) : List SigId :=
  let es := (l.edges rs).filter fun e => !e.late
  let back := es.map fun e => { e with src := e.dst, dst := e.src }
  closure back (es.length + 1) ((rs.filter fun r => !r.none && isEgress r.sink && !r.direct).map (·.sink))
/-- Does an identifier lie on a loop without a late edge (R62, condition 6). -/
def onLoop (es : List Edge) (x : SigId) : Bool :=
  let now := es.filter fun e => !e.late
  (closure now (now.length + 1) ((now.filter fun e => decide (e.src = x)).map (·.dst))).contains x

/-- Is a source produced under a last (02, R71). -/
def Last.produces (l : Last) (x : SigId) : Bool :=
  let i := sigIdx x
  match sigClass x with
  | 4 => l.buses.any fun r => decide (r.bus = i)
  | 6 => l.areOuts.any fun r => decide (r.output = i)
  | 7 => l.io.any fun r => r.dir == 1 && decide (r.sig = x)
  | 11 => (l.groupOf (i / 128) (i % 128)).isSome
  | 12 => l.routes.any fun r => decide (r.sink = x) && !r.none
  | 13 => l.routes.any fun r => decide (r.sink = x) && !r.none
  | 15 => l.handoffs.any fun r => decide (r.sig = x) && r.dir == 1
  | _ => true
/-- The route of a sink in a last's ROUTES, if it names a source. -/
def Last.routed (l : Last) (x : SigId) : Option Route := l.routes.find? fun r => decide (r.sink = x) && !r.none
/-- Is a sink one of a direct route in a last. -/
def Last.directSink (l : Last) (x : SigId) : Bool := l.routes.any fun r => decide (r.sink = x) && !r.none && r.direct
/-- Does a sink's derived latency differ between two lasts (R47): its word, or the rate that its Ts terms count, which a
change to RATE_MULT changes on every processing sink. -/
def latencyChanges (old new : Last) (x : SigId) : Bool :=
  old.latency old.routes x != new.latency new.routes x ||
    (old.mult != new.mult && !(old.directSink x && new.directSink x))
/-- Does a sink ramp down over the last block produced under the old last (R71): its source goes, or its route does. -/
def rampsOut (old new : Last) (src : Option SigId) (x : SigId) : Bool :=
  match src with
  | none => false
  | some o =>
    match new.routed x with
    | none => true
    | some r => !latencyChanges old new x && decide (r.source ≠ o) && !new.produces o

end Sys2Proof.Machine
end

