-- ==== Sys2Proof/Machine/Cores.lean ====
section
/-!
DEFINITION. A Prente core: its registers and their producers, the bundle under way, hardware loops, exceptions and
overruns (03_prente_cores; 04_prente_instruction_set; 01, R51 to R56).
-/
namespace Sys2Proof.Machine

/-- Register numbers of the scoreboard: g, a, p, q and control registers. -/
def rG (r : Nat) : Nat := r
/-- Accumulators. -/
def rA (r : Nat) : Nat := 100 + r
/-- Pointers. -/
def rP (k : Nat) : Nat := 200 + k
/-- Predicates. -/
def rQ (n : Nat) : Nat := 300 + n
/-- Control registers. -/
def rC (n : Nat) : Nat := 400 + n

/-- How an operation uses an operand (03, Table 3.8). -/
inductive Use where
  /-- Word ALU operation, compare, store data, MOVC to control (04, R137). -/
  | alu
  /-- CMAC or coprocessor operand, LOOP count, JR target. -/
  | mac
  /-- Element of a search on the same best and index registers. -/
  | search
  /-- Pointer value through a pointer move. -/
  | move
  /-- Accumulator of a CMAC. -/
  | cmacAcc
  /-- Any other use. -/
  | other
  deriving DecidableEq, Repr

/-- Minimum issue distance from a producer to a use (03, Table 3.8; 04, Table 4.7). The distance from a load to a search,
which Table 3.8 does not list, is that of a word operation, 2, or 5 from cluster memory (log entry 197, DESIGN CHOICE).
A coprocessor result is waited for by its cycle: `CoreSt.ready`. -/
def Prod.dist (p : Prod) (u : Use) : Nat :=
  match p.cls with
  | .word => match u with | .mac => 2 | .search => 2 | .move => 2 | _ => 1
  | .load => match u with | .mac => 3 | .search => 2 | _ => 2
  | .clusterLoad => match u with | .mac => 6 | _ => 5
  | .search => match u with | .search => 1 | .mac => 3 + p.lat | _ => 2 + p.lat
  | .pred => 2
  | .acc => 3
  | .cmac => match u with | .cmacAcc => 1 | _ => 3
  | .ptr => 1
  | .ctrl => 3
  | .pop => 5

/-- No producer that a use waits for. -/
def prod0 : Prod := { cls := .word, at_ := 0, lat := 0 }
/-- What last produced a register. -/
def CoreSt.prod (k : CoreSt) (r : Nat) : Prod := NTable.get prod0 k.prods r
/-- First cycle in which a use may issue: the distance to the register's latest producer in a slot, and the cycle of
every coprocessor result for it, which a later producer does not take away (03, R108; 04, R130). -/
def CoreSt.ready (k : CoreSt) (e : Nat × Use) : Nat :=
  max ((k.prod e.1).at_ + (k.prod e.1).dist e.2) (NTable.get 0 k.copDue e.1)

/-- A coprocessor result still to be written to a register: a reader waits for it (03, R108), so it is what is
read. Of two, the later written; of two in one cycle, the later issued (04, R130). -/
def CoreSt.copFor (k : CoreSt) (r : Nat) : Option CopEntry :=
  (k.cop.filter fun e => decide (e.dest = r)).foldl (fun (b : Option CopEntry) e =>
    match b with
    | none => some e
    | some x => if e.due < x.due ∨ (e.due = x.due ∧ e.issued < x.issued) then some x else some e) none
/-- Read a g register. -/
def CoreSt.rg (k : CoreSt) (r : Nat) : Word :=
  match k.copFor r with
  | some e => e.value
  | none => NTable.get 0 k.g r
/-- Read a g register as a signed number. -/
def CoreSt.ri (k : CoreSt) (r : Nat) : Int := (k.rg r).toInt
/-- Read an accumulator. -/
def CoreSt.ra (k : CoreSt) (r : Nat) : Int := (NTable.get 0 k.a r).toInt
/-- Read a pointer. -/
def CoreSt.rp (k : CoreSt) (r : Nat) : Nat := (NTable.get 0 k.p r).toNat
/-- Read a predicate. -/
def CoreSt.rq (k : CoreSt) (n : Nat) : Bool := NTable.get false k.q n
/-- Read a stored control register. -/
def CoreSt.rc (k : CoreSt) (n : Nat) : Word := NTable.get 0 k.c n

/-- Raise an exception in the bundle; the first stands. -/
def Bundle.raise (b : Bundle) (code : Nat) : Bundle := if b.exc = 0 then { b with exc := code } else b
/-- Codes of Table 3.9. -/
def excIllegal : Nat := 1
/-- ACCESS. -/
def excAccess : Nat := 2
/-- ALIGN. -/
def excAlign : Nat := 3
/-- TRAP. -/
def excTrap : Nat := 9
/-- DEADLINE. -/
def excDeadline : Nat := 10

/-- Add a g result of a timing class. -/
def Bundle.wg (b : Bundle) (r : Nat) (v : Word) (cls : ProdClass := .word) (lat : Nat := 0) : Bundle :=
  { b with writes := b.writes ++ [.g r v], prods := b.prods ++ [(rG r, cls, lat)] }
/-- Add an accumulator result. -/
def Bundle.wa (b : Bundle) (r : Nat) (v : Int) (cls : ProdClass := .acc) : Bundle :=
  { b with writes := b.writes ++ [.a r (BitVec.ofInt 80 v)], prods := b.prods ++ [(rA r, cls, 0)] }
/-- Add a pointer result. -/
def Bundle.wp (b : Bundle) (k : Nat) (v : Word) : Bundle :=
  { b with writes := b.writes ++ [.p k v], prods := b.prods ++ [(rP k, .ptr, 0)] }
/-- Add a predicate result. -/
def Bundle.wq (b : Bundle) (n : Nat) (v : Bool) (cls : ProdClass := .pred) : Bundle :=
  { b with writes := b.writes ++ [.q n v], prods := b.prods ++ [(rQ n, cls, 0)] }
/-- Add a control register result. -/
def Bundle.wc (b : Bundle) (n : Nat) (v : Word) : Bundle :=
  { b with writes := b.writes ++ [.c n v], prods := b.prods ++ [(rC n, .ctrl, 0)] }
/-- Set sticky flags of STAT (Table 3.3): 1 SAT32, 2 ASAT, 4 DZ, 8 INV, 16 CECC. -/
def Bundle.flag (b : Bundle) (m : Nat) (on : Bool) : Bundle := if on then { b with flags := b.flags ||| m } else b

/-- Does a list name a number twice. -/
def hasDup : List Nat → Bool
  | [] => false
  | x :: t => t.contains x || hasDup t

/-! Memory of a core beside the DMA windows of the tick (R95). Cycle t is a bundle's issue: its loads access memory in
stage M1, cycle t + 1, and its stores take effect at WB, cycle t + 4 (03, Table 3.1). -/

/-- Does a window's run hold an address. -/
def DmaRun.covers (x : DmaRun) (a : Nat) : Bool := decide (x.addr ≤ a) && decide (a < x.addr + x.old.length)
/-- Cycle in which a window writes an address. -/
def DmaRun.cycleOf (x : DmaRun) (a : Nat) : Nat := x.start + (a - x.addr) / x.rate
/-- A byte that a load of cycle u reads: the value from before the cycle in which a window writes it (R95). -/
def State.coreByte (s : State) (own u a : Nat) : Byte :=
  match (s.core own).dma.find? fun x => x.covers a && decide (u ≤ x.cycleOf a) with
  | some x => x.old.getD (a - x.addr) 0
  | none => s.byte a
/-- Bytes that a load of cycle u reads. -/
def State.coreBytes (s : State) (own u a n : Nat) : List Byte := (List.range n).map fun i => s.coreByte own u (a + i)
/-- A word that a load of cycle u reads. -/
def State.coreWord (s : State) (own u a : Nat) : Word := BitVec.ofNat 32 (leAt (s.coreBytes own u a 4) 0 4)
/-- A byte stored in cycle u that a window writes later in the tick: it stands until then. -/
def putOld (u a : Nat) (v : Byte) : List DmaRun → List DmaRun
  | [] => []
  | x :: t => if x.covers a && decide (u < x.cycleOf a) then { x with old := x.old.set (a - x.addr) v } :: t
      else x :: putOld u a v t
/-- A core store of one byte in cycle u: it stays where a window has written the byte by then (R95). -/
def State.coreStoreByte (s : State) (own u a : Nat) (v : Byte) : State :=
  if (s.core own).dma.any fun x => x.covers a && decide (u < x.cycleOf a) then
    s.modCore own fun k => { k with dma := putOld u a v k.dma }
  else s.store a [v]
/-- A core store in cycle u. -/
def State.coreStore (s : State) (own u a : Nat) (b : List Byte) : State :=
  if (s.core own).dma = [] then s.store a b
  else overL b.zipIdx (fun s e => s.coreStoreByte own u (a + e.2) e.1) s

/-- At the end of a tick what its windows wrote has stood before every later cycle. -/
def State.endDma (s : State) : State :=
  overL (s.cores.filter fun e => !e.2.dma.isEmpty) (fun s e => s.modCore e.1 fun k => { k with dma := [] }) s

/-- Is an element better than the best (R105). -/
def Better.test (f : Better) (x b : Int) : Bool :=
  match f with
  | .max => decide (x > b)
  | .min => decide (x < b)
  | .maxa => decide (x.natAbs > b.natAbs)
  | .mina => decide (x.natAbs < b.natAbs)
/-- One element of a search (R105). -/
def searchStep (f : Better) (i : Word) (x : Word) (e : Word × Word) : Word × Word :=
  if f.test x.toInt e.1.toInt then (x, i) else e

/-- Apply one register write of a bundle that issues in cycle t. -/
def State.applyWrite (s : State) (t : Nat) (k : CoreSt) : RegWrite → CoreSt
  | .g r v => { k with g := NTable.put 0 k.g r v }
  | .a r v => { k with a := NTable.put 0 k.a r v }
  | .p n v => { k with p := NTable.put 0 k.p n v }
  | .q n v => { k with q := NTable.put false k.q n v }
  | .c n v => { k with c := NTable.put 0 k.c n v }
  | .gCyc r => { k with g := NTable.put 0 k.g r (BitVec.ofNat 32 t) }
  | .load r own a n sh => { k with
      g := NTable.put 0 k.g r (BitVec.ofNat 32 (leAt (s.coreBytes own (t + 1) a n) 0 n * 2 ^ sh)) }
  | .find f best idx own a single i b0 i0 =>
    let e0 := searchStep f i (s.coreWord own (t + 1) a) (b0, i0)
    let e1 := if single then e0 else searchStep f (i + 1) (s.coreWord own (t + 1) (a + 4)) e0
    { k with g := NTable.put 0 (NTable.put 0 k.g best e1.1) idx e1.2 }
/-- Set flags of STAT. -/
def CoreSt.setFlags (k : CoreSt) (m : Nat) : CoreSt :=
  if m = 0 then k else { k with c := NTable.put 0 k.c 28 (k.rc 28 ||| BitVec.ofNat 32 m) }
/-- Write the coprocessor results due by a cycle, in order of their cycles (R108). -/
def CoreSt.copWrite (k : CoreSt) (t : Nat) : CoreSt :=
  let ready := sortBy (fun (a b : CopEntry) => decide (a.due < b.due) || (decide (a.due = b.due) && decide (a.issued ≤ b.issued)))
    (k.cop.filter fun e => decide (e.due ≤ t))
  let k1 := { k with cop := k.cop.filter fun e => !decide (e.due ≤ t) }
  ready.foldl (fun k e => (CoreSt.setFlags { k with g := NTable.put 0 k.g e.dest e.value } e.flag)) k1

/-- Unit of a coprocessor operation: 0 DSQ, 1 TRIG, 2 FN (03, Table 3.7); the cycle from which it accepts. -/
def CoreSt.unitFree (k : CoreSt) (u : Nat) : Nat := if u = 0 then k.dsqFree else if u = 1 then k.trigFree else k.fnFree
/-- Occupy a unit. -/
def CoreSt.useUnit (k : CoreSt) (u t iv : Nat) : CoreSt :=
  if u = 0 then { k with dsqFree := t + iv } else if u = 1 then { k with trigFree := t + iv }
  else { k with fnFree := t + iv }
/-- First cycle from t with a free entry of the 8 of the result buffer (R108). -/
def CoreSt.bufferFree (k : CoreSt) (t : Nat) : Nat :=
  let busy := k.busy.filter fun d => decide (t < d)
  if busy.length < 8 then t else busy.foldl min (t + 64)

/-- Units, latencies and issue intervals by opcode of Table 4.6. -/
def copUnit (op : Nat) : Nat := if op = 9 ∨ op = 10 then 0 else if op = 14 then 1 else 2
/-- Latency of Table 3.7. -/
def copLatency (op : Nat) : Nat :=
  if op = 9 then 12 else if op = 10 then 10 else if op = 13 then 10 else if op = 14 then 14 else 8
/-- Issue interval of Table 3.7. -/
def copInterval (op : Nat) : Nat := if op = 9 then 12 else if op = 10 then 10 else if op = 14 then 14 else 1

/-! Hardware loops: addresses of bundles go round after 8,191 (04, R134 to R136). -/

/-- Is a bundle address in a loop's body. -/
def LoopSt.has (l : LoopSt) (a : Nat) : Bool :=
  decide ((a + 8192 - l.first) % 8192 ≤ (l.last + 8192 - l.first) % 8192)
/-- The body's last bundle uses the loop's counter: where MOVC wrote it, the bundle waits for it (R137). The outer
counter is used where the inner loop ends at the same bundle. -/
def CoreSt.backEdge (k : CoreSt) : Nat :=
  match k.loops with
  | [] => 0
  | [o] => if k.pc = o.last then k.ready (rC 25, .other) else 0
  | o :: i :: _ =>
    if k.pc = i.last then
      max (k.ready (rC 26, .other)) (if k.pc = o.last ∧ k.rc 26 = 1 then k.ready (rC 25, .other) else 0)
    else 0

/-- Issue cycle of the bundle: distances, the two loads of one DM bank, the coprocessor, the rotation (R93, R94, R108). -/
def CoreSt.issueCycle (c : Nat) (k : CoreSt) : Nat :=
  let b := k.bundle
  let t0 := max (max k.next k.backEdge) b.minIssue
  let t1 := match b.loadBanks with | [x, y] => if x = y then t0 + 1 else t0 | _ => t0
  let t2 := match b.cops with
    | (_, _, op, _) :: _ => max (k.bufferFree t1) (k.unitFree (copUnit op))
    | [] => t1
  match b.cluster with
  | some bank => t2 + (bank + 8 * 32768 - c % 8 - t2 % 8) % 8
  | none => t2

/-- A loop ends: the level and those inside it go. -/
def CoreSt.dropLoops (k : CoreSt) (target : Nat) : List LoopSt :=
  match k.loops with
  | [] => []
  | [o] => if o.has target then [o] else []
  | o :: i :: _ => if !o.has target then [] else if !i.has target then [o] else [o, i]
/-- Sequential flow after the bundle at pc, with the back-edges of the open loops at no cost (04, R135, R136). -/
def CoreSt.fallThrough (k : CoreSt) : CoreSt :=
  let seq := (k.pc + 1) % 8192
  match k.loops with
  | [] => { k with pc := seq }
  | [o] =>
    if k.pc = o.last then
      let n : Word := k.rc 25 - 1
      let k1 := { k with c := NTable.put 0 k.c 25 n }
      if n = 0 then { k1 with pc := seq, loops := [] } else { k1 with pc := o.first }
    else { k with pc := seq }
  | o :: i :: _ =>
    if k.pc = i.last then
      let n : Word := k.rc 26 - 1
      let k1 := { k with c := NTable.put 0 k.c 26 n }
      if n ≠ 0 then { k1 with pc := i.first }
      else if k.pc = o.last then
        let m : Word := k1.rc 25 - 1
        let k2 := { k1 with c := NTable.put 0 k1.c 25 m }
        if m = 0 then { k2 with pc := seq, loops := [] } else { k2 with pc := o.first, loops := [o] }
      else { k1 with pc := seq, loops := [o] }
    else { k with pc := seq }
/-- Is the bundle at pc the last of an open body. -/
def CoreSt.atBodyEnd (k : CoreSt) : Bool := k.loops.any fun l => decide (l.last = k.pc)

/-- Issue n bundles without any operation, as far as they retire before DEADLINE (01, R51; 04, R125). -/
def CoreSt.issueNops (deadline : Nat) : Nat → CoreSt → CoreSt
  | 0, k => k
  | n + 1, k =>
    let t := max k.next k.backEdge
    if t + 4 ≥ deadline then { k with next := t }
    else CoreSt.issueNops deadline n
      (CoreSt.fallThrough { k with lastIssue := t, next := t + 1, issued := k.issued + 1 })

/-- A rewrite waits for the reserved cycles of the tick (R99, R121). -/
def State.repair (s : State) (a : Nat) (b : List Byte) : State := { s with repairs := s.repairs ++ [(a, b)] }
/-- Data that CORE_DM_INIT gives a range byte, by record (03, Table 3.5). -/
def DmRec.byteAt (r : DmRec) (a : Nat) : Option Byte :=
  if r.live ∨ a < r.addr ∨ r.addr + r.length ≤ a then none
  else if r.fill then some (r.data.getD ((a - r.addr) % 8) 0) else some (r.data.getD (a - r.addr) 0)
/-- Initial byte of a local address: its CORE_DM_INIT data, else zero (R121). -/
def Last.initByte (l : Last) (c a : Nat) : Byte :=
  (l.dm.findSome? fun r => if r.core = c then r.byteAt a else none).getD 0
/-- All bytes of a data record. -/
def DmRec.bytes (r : DmRec) : List Byte :=
  (List.range r.length).map fun i => if r.fill then r.data.getD (i % 8) 0 else r.data.getD i 0

/-- Count an overrun of a task: counters, plot fault, rate-limited entry (01, R54). The 8,000 ticks between entries are ticks
that pass: a jump of the tick number moves the tick of the latest entry with it (log entries 91, 186). -/
def State.countOverrun (s : State) (p core id : Nat) : State :=
  let t := s.task p id
  let s1 := ((((s.bump (Reg.ovrCount p)).setReg (Reg.ovrLastTick p) s.tick).setReg (Reg.ovrLastTask p) id).modPlot p
    fun x => { x with ovrTick := true }).plotFault p 0
  if !t.logged ∨ s.tick ≥ t.logTick + 8000 then
    (s1.modTask p id fun t => { t with logged := true, logTick := s.tick, since := 0 }).logEvent 0x0302 2 p
      (id * 65536 + core) (t.since + 1)
  else s1.modTask p id fun t => { t with since := t.since + 1 }
/-- The blocks a task writes are zero in this tick, and its next complete run ramps them up (01, R52, R53). -/
def State.zeroTask (s : State) (p id : Nat) : State :=
  let sigs := match s.last p with | some l => l.writesOf id | none => []
  ({ s with src := sigs.foldl (fun t x => NTable.put [] t x (silence (NTable.get [] t x))) s.src }).modTask p id
    fun t => { t with overran := true, rampUp := true, done := false }
/-- OVR_REINIT: the data ranges of the core are rewritten in the reserved cycles (R53, R99). -/
def State.reinit (s : State) (p : Nat) (t : Task) : State :=
  match s.last p with
  | some l => if t.reinit then
      overL (l.dm.filter fun r => decide (r.core = t.core) && !r.live) (fun s r => s.repair (nearAddr t.core r.addr) r.bytes) s
    else s
  | none => s
/-- Stop the running task: coprocessor work and loops end with it (R110, R117). -/
def CoreSt.stop (k : CoreSt) : CoreSt := { k with run := none, bundle := {}, cop := [], loops := [] }
/-- Stop a task as an overrun (01, R51 to R54). -/
def State.stopOverrun (s : State) (c : Nat) (r : RunTask) : State :=
  (((s.modCore c CoreSt.stop).countOverrun r.plot c r.task.id).zeroTask r.plot r.task.id).reinit r.plot r.task
/-- Exceptions that are evidence of an internal error (Table 3.9). -/
def excEvidence (code : Nat) : Bool := decide (4 ≤ code) && decide (code ≤ 8)
/-- Take an exception: records, entry, stop; the failing words are rewritten in the reserved cycles (03, R120, R121).
Code 0x0A writes no entry of its own. -/
def State.exception (s : State) (c : Nat) (r : RunTask) (code trap : Nat) : State :=
  let pc := (s.core c).pc
  let s1 := ((s.bump (Reg.coreExcCount c)).setReg (Reg.coreExcLast c) (code * 16777216 + r.task.id)).setReg
    (Reg.coreExcPc c) pc
  let s2 := if code = excDeadline then s1 else
    s1.logEvent 0x0401 2 r.plot (code * 16777216 + trap * 65536 + c) (pc * 65536 + r.task.id)
  let s3 := if code = 7 ∨ code = 8 then s2.bump (Reg.coreResidue c)
    else if code = 4 then s2.bump (Reg.coreUecc c)
    else if code = 5 ∨ code = 6 then overL (s.core c).bundle.bad (fun s3 e =>
      (s3.bump (Reg.coreUecc c)).repair e.1 ((List.range 8).map fun i =>
        match s.last r.plot with | some l => l.initByte e.2.1 (e.2.2 + i) | none => 0)) s2
    else s2
  let s4 := s3.when (excEvidence code) fun s => (s.plotFault r.plot 1).evidence r.plot
  let s5 := s4.when (decide (code = excTrap ∧ r.task.kind = 1 ∧ trap ≥ 0xF0)) fun s => s.proofFail 0 c
  s5.stopOverrun c r

end Sys2Proof.Machine
end

