-- ==== Sys2Proof/Machine/CoreOps.lean ====
section
/-!
DEFINITION. An operation of a core's slot, and how a slot adds it to the bundle under way (03, R111, R120 to R123; 04,
R126, R127, R129).
-/
namespace Sys2Proof.Machine

/-- An operation of a slot (04, Tables 4.3, 4.5 and 4.6): what it waits for, the g, a and q registers it names as results,
whether its encoding or operands are undefined (04, R129, R136), whether it acts whatever the condition (a branch), and
its effect on the bundle. -/
structure Op where
  needs : CoreSt → List (Nat × Use) := fun _ => []
  dests : List Nat := []
  bad : State → Nat → RunTask → CoreSt → SlotCtl → Bool := fun _ _ _ _ _ => false
  always : Bool := false
  act : State → Nat → RunTask → CoreSt → SlotCtl → Bundle → Bundle

/-- Is the slot's condition met (04, R126). -/
def slotHolds (ctl : SlotCtl) (k : CoreSt) : Bool :=
  match ctl.pred with
  | some (neg, n) => k.rq n != neg
  | none => true
/-- The read of a slot's predicate (04, R126). -/
def predUses (ctl : SlotCtl) : List (Nat × Use) :=
  match ctl.pred with
  | some (_, n) => [(rQ n, Use.other)]
  | none => []
/-- The condition a slot names, negation and register. -/
def predConds (ctl : SlotCtl) : List (Bool × Nat) :=
  match ctl.pred with
  | some (neg, n) => [(neg, n.val)]
  | none => []
/-- A corrected error: the flag CECC and the count (03, R122). -/
def Bundle.corrects (b : Bundle) : Bundle := { b.flag 16 true with corrected := b.corrected + 1 }
/-- Do the slots of a bundle name more than one condition: its one condition field holds one (04, R126). -/
def Bundle.clash (b : Bundle) : Bool :=
  match b.conds with
  | [] => false
  | x :: t => t.any fun y => y != x
/-- One slot's part of the bundle: what it waits for, the registers it names, what the hardware reports, and its effect
where its condition holds (03, R111, R120 to R123; 04, R126, R127, R129). Of several causes of an exception in a bundle
the first slot's stands (log entry 26, DEDUCED). -/
def Bundle.add (b : Bundle) (s : State) (c : Nat) (r : RunTask) (k : CoreSt) (ctl : SlotCtl) (op : Op) : Bundle :=
  let on := op.always || slotHolds ctl k
  let uses := predUses ctl ++ (if on then op.needs k else [])
  let b1 := { b with
    slots := b.slots + 1
    minIssue := uses.foldl (fun m e => max m (k.ready e)) b.minIssue
    dests := b.dests ++ op.dests
    conds := b.conds ++ predConds ctl }
  if ctl.hw.fetch = .uncorrectable then b1.raise 4
  else
    let b2 := if ctl.hw.fetch = .corrected then b1.corrects else b1
    if ctl.hw.parity then b2.raise 8
    else if op.bad s c r k ctl then b2.raise excIllegal
    else if on then op.act s c r k ctl b2
    else b2

end Sys2Proof.Machine
end

