-- ==== Sys2Proof/Machine/CoreArith.lean ====
section
/-!
DEFINITION. What the operations of a core's arithmetic slot do to their bundle: word operations, the CMAC units,
accumulators (03, R103, R104, R106, R123; 04, Tables 4.4 and 4.5, R133).
-/
namespace Sys2Proof.Machine

/-- Condition codes over signed values; the unsigned ones over the 32-bit patterns (04, Table 4.4). -/
def condHolds (cond : Cond) (a b : Int) (ua ub : Nat) : Bool :=
  match cond with
  | .eq => a == b | .ne => a != b | .lt => decide (a < b) | .ge => decide (a ≥ b) | .le => decide (a ≤ b)
  | .gt => decide (a > b) | .ltu => decide (ua < ub) | .geu => decide (ua ≥ ub)
/-- A word of a whole number, wrapped. -/
def wordOf (x : Int) : Word := BitVec.ofInt 32 x

/-- A word operation: operands read, one result; the flag SAT32 where a saturation took place. -/
def wordOp (rd : Fin 32) (rs : List (Fin 32)) (f : CoreSt → Word × Bool) : Op where
  needs _ := rs.map fun r => (rG r, Use.alu)
  dests := [rG rd]
  act _ _ _ k _ b := (b.wg rd (f k).1).flag 1 (f k).2
/-- A failure of the residue check of a multiplier or of an accumulate adder (R123). -/
def Bundle.residue (b : Bundle) (hw : HwFault) : Bundle := if hw.residue then b.raise 7 else b
/-- An operation whose multiplier or accumulate adder checks residues (R123). -/
def Op.checked (o : Op) : Op := { o with act := fun s c r k ctl b => (o.act s c r k ctl b).residue ctl.hw }
/-- A result that wraps or saturates at 32 bits (Table 3.6). -/
def satOr (m : Satur) (x : Int) : Word × Bool :=
  match m with
  | .wrap => (wordOf x, false)
  | .sat => (wordOf (sat 32 x), overflows 32 x)

/-- ADD: rs + rt, wrapping or saturating. -/
def opAdd (sat : Satur) (rd rs rt : Fin 32) : Op :=
  wordOp rd [rs, rt] (fun k => satOr sat (k.ri rs + k.ri rt))
/-- SUB: rs - rt, wrapping or saturating. -/
def opSub (sat : Satur) (rd rs rt : Fin 32) : Op :=
  wordOp rd [rs, rt] (fun k => satOr sat (k.ri rs - k.ri rt))
/-- AND. -/
def opAnd (rd rs rt : Fin 32) : Op :=
  wordOp rd [rs, rt] (fun k => (k.rg rs &&& k.rg rt, false))
/-- OR. -/
def opOr (rd rs rt : Fin 32) : Op :=
  wordOp rd [rs, rt] (fun k => (k.rg rs ||| k.rg rt, false))
/-- XOR. -/
def opXor (rd rs rt : Fin 32) : Op :=
  wordOp rd [rs, rt] (fun k => (k.rg rs ^^^ k.rg rt, false))
/-- MIN, signed. -/
def opMin (rd rs rt : Fin 32) : Op :=
  wordOp rd [rs, rt] (fun k => (if k.ri rs ≤ k.ri rt then k.rg rs else k.rg rt, false))
/-- MAX, signed. -/
def opMax (rd rs rt : Fin 32) : Op :=
  wordOp rd [rs, rt] (fun k => (if k.ri rs ≥ k.ri rt then k.rg rs else k.rg rt, false))
/-- MULF: Q1.31 product, shift 31, rounded or truncated, saturated. -/
def opMulf (trunc : Bool) (rd rs rt : Fin 32) : Op :=
  (wordOp rd [rs, rt] (fun k => satOr .sat (shiftBy trunc (k.ri rs * k.ri rt) 31))).checked
/-- MULI: low 32 bits of the product. -/
def opMuli (rd rs rt : Fin 32) : Op :=
  (wordOp rd [rs, rt] (fun k => (k.rg rs * k.rg rt, false))).checked
/-- SRAI: arithmetic right shift. -/
def opSrai (rd rs : Fin 32) (n : Fin 32) : Op :=
  wordOp rd [rs] (fun k => ((k.rg rs).sshiftRight n, false))
/-- SLLI: left shift. -/
def opSlli (rd rs : Fin 32) (n : Fin 32) : Op :=
  wordOp rd [rs] (fun k => (k.rg rs <<< n.val, false))
/-- SRLI: logical right shift. -/
def opSrli (rd rs : Fin 32) (n : Fin 32) : Op :=
  wordOp rd [rs] (fun k => (k.rg rs >>> n.val, false))
/-- SRAR: right shift, rounded or truncated. -/
def opSrar (trunc : Bool) (rd rs : Fin 32) (n : Fin 32) : Op :=
  wordOp rd [rs] (fun k => (wordOf (shiftBy trunc (k.ri rs) n), false))
/-- MOV. -/
def opMov (rd rs : Fin 32) : Op :=
  wordOp rd [rs] (fun k => (k.rg rs, false))
/-- NEG, wrapping or saturating. -/
def opNeg (sat : Satur) (rd rs : Fin 32) : Op :=
  wordOp rd [rs] (fun k => satOr sat (-(k.ri rs)))
/-- ABS, wrapping or saturating. -/
def opAbs (sat : Satur) (rd rs : Fin 32) : Op :=
  wordOp rd [rs] (fun k => satOr sat (k.ri rs).natAbs)
/-- NOT. -/
def opNot (rd rs : Fin 32) : Op :=
  wordOp rd [rs] (fun k => (~~~(k.rg rs), false))
/-- CMP: q := rs COND rt. -/
def opCmp (q : Fin 4) (cond : Cond) (rs rt : Fin 32) : Op where
  needs _ := [(rG rs, Use.alu), (rG rt, Use.alu)]
  dests := [rQ q]
  act _ _ _ k _ b := b.wq q (condHolds cond (k.ri rs) (k.ri rt) (k.rg rs).toNat (k.rg rt).toNat)
/-- MOVI: a sign-extended 10-bit immediate. -/
def opMovi (rd : Fin 32) (imm : Int) : Op :=
  wordOp rd [] (fun _ => (wordOf (wrapS 10 imm), false))
/-- MOVH: rd shifted left by 10, the 10-bit immediate in its low bits. -/
def opMovh (rd : Fin 32) (imm : Int) : Op :=
  wordOp rd [rd] (fun k => ((k.rg rd <<< 10) ||| wordOf (imm % 1024), false))

/-- Add to an accumulator or replace it, exactly, saturated at 80 bits (03, R103, R104). -/
def macInto (f : MacFlags) (old x : Int) : Int := (if f.acc then old else 0) + (if f.neg then -x else x)
/-- Two results of a CMAC unit into a pair (R103, R104). -/
def Bundle.mac (b : Bundle) (k : CoreSt) (pair : Nat) (f : MacFlags) (re im : Int) : Bundle :=
  let x := macInto f (k.ra (2 * pair)) re
  let y := macInto f (k.ra (2 * pair + 1)) im
  (((b.wa (2 * pair) (sat 80 x) .cmac).wa (2 * pair + 1) (sat 80 y) .cmac).flag 2 (overflows 80 x || overflows 80 y))
/-- The complex product of two pairs. -/
def complexMac (x y : Nat) (pair : Nat) (f : MacFlags) (k : CoreSt) (b : Bundle) : Bundle :=
  let xr := k.ri (2 * x); let xi := k.ri (2 * x + 1)
  let yr := k.ri (2 * y); let yi := if f.conj then -(k.ri (2 * y + 1)) else k.ri (2 * y + 1)
  b.mac k pair f (xr * yr - xi * yi) (xr * yi + xi * yr)
/-- The quad-real products of two quads. -/
def quadMac (x y : Nat) (pair : Nat) (f : MacFlags) (k : CoreSt) (b : Bundle) : Bundle :=
  let p (i : Nat) : Int := k.ri (4 * x + i) * k.ri (4 * y + i)
  b.mac k pair f (p 0 + p 1) (p 2 + p 3)
/-- What a CMAC unit waits for: n operand registers from x and from y, its accumulator pair where it adds. -/
def macNeeds (n x y pair : Nat) (f : MacFlags) : List (Nat × Use) :=
  (List.range n).flatMap (fun i => [(rG (n * x + i), Use.mac), (rG (n * y + i), Use.mac)]) ++
    (if f.acc then [(rA (2 * pair), Use.cmacAcc), (rA (2 * pair + 1), Use.cmacAcc)] else [])
/-- Both registers of an accumulator pair. -/
def pairDests (a : Fin 4) : List Nat := [rA (2 * a), rA (2 * a + 1)]
/-- CMAC: one unit, complex. -/
def opCmac (a : Fin 4) (x y : Fin 16) (f : MacFlags) : Op := Op.checked {
  needs := fun _ => macNeeds 2 x y a f
  dests := pairDests a
  act := fun _ _ _ k _ b => complexMac x y a f k b }
/-- CMAC2: both units, the second on the next pairs; both on one pair is ILLEGAL, whatever the condition (03, R103;
log entry 192, DEDUCED). -/
def opCmac2 (a0 a1 : Fin 4) (x y : Fin 16) (f : MacFlags) : Op := Op.checked {
  needs := fun _ => macNeeds 2 x y a0 f ++ macNeeds 2 ((x.val + 1) % 16) ((y.val + 1) % 16) a1 f
  dests := if a0 = a1 then pairDests a0 else pairDests a0 ++ pairDests a1
  bad := fun _ _ _ _ _ => decide (a0 = a1)
  act := fun _ _ _ k _ b =>
    complexMac ((x.val + 1) % 16) ((y.val + 1) % 16) a1 f k (complexMac x y a0 f k b) }
/-- QMAC: one unit, quad real; conjugation does not apply. -/
def opQmac (a : Fin 4) (x y : Fin 8) (f : MacFlags) : Op := Op.checked {
  needs := fun _ => macNeeds 4 x y a f
  dests := pairDests a
  act := fun _ _ _ k _ b => quadMac x y a f k b }
/-- QMAC2: both units, the second on the next quads. -/
def opQmac2 (a0 a1 : Fin 4) (x y : Fin 8) (f : MacFlags) : Op := Op.checked {
  needs := fun _ => macNeeds 4 x y a0 f ++ macNeeds 4 ((x.val + 1) % 8) ((y.val + 1) % 8) a1 f
  dests := if a0 = a1 then pairDests a0 else pairDests a0 ++ pairDests a1
  bad := fun _ _ _ _ _ => decide (a0 = a1)
  act := fun _ _ _ k _ b => quadMac ((x.val + 1) % 8) ((y.val + 1) % 8) a1 f k (quadMac x y a0 f k b) }

/-- ACV: an accumulator to a word, shift 0 to 63, rounded or truncated, saturated. -/
def opAcv (trunc : Bool) (rd : Fin 32) (a : Fin 8) (n : Fin 64) : Op where
  needs _ := [(rA a, Use.other)]
  dests := [rG rd]
  act _ _ _ k _ b :=
    let v := satOr .sat (shiftBy trunc (k.ra a) n)
    (b.wg rd v.1).flag 1 v.2
/-- An accumulator operation: operands, one result saturated at 80 bits. -/
def accOp (d : Fin 8) (as : List (Fin 8)) (rs : List (Fin 32)) (f : CoreSt → Int) : Op where
  needs _ := (as.map fun a => (rA a, Use.other)) ++ rs.map fun r => (rG r, Use.alu)
  dests := [rA d]
  act _ _ _ k _ b := (b.wa d (sat 80 (f k))).flag 2 (overflows 80 (f k))
/-- ASR: right shift, rounded or truncated. -/
def opAsr (trunc : Bool) (d a : Fin 8) (n : Fin 64) : Op :=
  accOp d [a] [] (fun k => shiftBy trunc (k.ra a) n)
/-- ASL: left shift, saturated. -/
def opAsl (d a : Fin 8) (n : Fin 64) : Op :=
  accOp d [a] [] (fun k => k.ra a * 2 ^ n.val)
/-- AMOV: a Q1.31 word as Q18.62. -/
def opAmov (d : Fin 8) (rs : Fin 32) : Op :=
  accOp d [] [rs] (fun k => k.ri rs * 2147483648)
/-- AADD. -/
def opAadd (d a b : Fin 8) : Op :=
  (accOp d [a, b] [] (fun k => k.ra a + k.ra b)).checked
/-- ASUB. -/
def opAsub (d a b : Fin 8) : Op :=
  (accOp d [a, b] [] (fun k => k.ra a - k.ra b)).checked
/-- AZERO. -/
def opAzero (d : Fin 8) : Op :=
  accOp d [] [] (fun _ => 0)
/-- ACMP: q := aS COND aT over 80-bit signed values; the unsigned codes are undefined (04, R129). -/
def opAcmp (q : Fin 4) (cond : Cond) (a b : Fin 8) : Op where
  needs _ := [(rA a, Use.other), (rA b, Use.other)]
  dests := [rQ q]
  bad _ _ _ _ _ := decide (cond = .ltu) || decide (cond = .geu)
  act _ _ _ k _ bd := bd.wq q (condHolds cond (k.ra a) (k.ra b) 0 0)

end Sys2Proof.Machine
end

