-- ==== Sys2Proof/Machine/CoreControl.lean ====
section
/-!
DEFINITION. What the operations of a core's control/coprocessor slot do to their bundle: branches, loops, END, TRAP, POP,
DMAT, control registers and the coprocessor (03, R107 to R114, R119; 04, Table 4.6, R129, R134 to R136).
-/
namespace Sys2Proof.Machine

/-- BR: an unconditional jump, or a conditional branch with its hint; in a body's last bundle it is ILLEGAL, and so is a
hint without a condition (R113; 04, R134, R136). -/
def opBr (hint : Bool) (target : Fin 8192) : Op where
  always := true
  bad _ _ _ k ctl := k.atBodyEnd || (ctl.pred.isNone && hint)
  act _ _ _ k ctl b :=
    match ctl.pred with
    | none => { b with flow := .jump target 1 }
    | some _ => { b with branch := some (slotHolds ctl k, hint, target.val) }
/-- CALL: g31 := the next bundle, jump; not predicated, not inside a body (04, R129, R136). -/
def opCall (target : Fin 8192) : Op where
  dests := [rG 31]
  bad _ _ _ k ctl := ctl.pred.isSome || !k.loops.isEmpty
  act _ _ _ k _ b := { b.wg 31 (BitVec.ofNat 32 ((k.pc + 1) % 8192)) with flow := .jump target 1 }
/-- JR: jump to g[12:0]; g[31:13] must be 0; not predicated, not inside a body (04, R129, R134, R136). -/
def opJr (g : Fin 32) : Op where
  needs _ := [(rG g, Use.mac)]
  bad _ _ _ k ctl := ctl.pred.isSome || !k.loops.isEmpty || decide ((k.rg g).toNat > 8191)
  act _ _ _ k _ b := { b with flow := .jump (k.rg g).toNat 3 }
/-- Does an inner body lie wholly within the outer one (04, R136). -/
def CoreSt.inside (k : CoreSt) (first len : Nat) : Bool :=
  match k.loops with
  | o :: _ => decide ((first + 8192 - o.first) % 8192 + len ≤ (o.last + 8192 - o.first) % 8192)
  | [] => true
/-- LOOP: opens LC0, or LC1 inside it; a count of 0 skips the body at 3 cycles (03, R114; 04, R135, R136). Inside two open
loops, in a body's last bundle and with a body that leaves the outer one it is ILLEGAL, whatever its count (log entry 196,
DEDUCED). -/
def opLoop (fromReg : Bool) (count : Fin 32) (len : Fin 256) : Op where
  needs _ := if fromReg then [(rG count, Use.mac)] else []
  bad _ _ _ k ctl :=
    ctl.pred.isSome || decide (k.loops.length ≥ 2) || k.atBodyEnd || !k.inside ((k.pc + 1) % 8192) len
  act _ _ _ k _ b :=
    let n := if fromReg then (k.rg count).toNat else count.val
    if n = 0 then { b with flow := .fall (len + 1) } else { b with loop := some (n, (k.pc + 1) % 8192, len.val) }
/-- END: the task ends at retirement. -/
def opEnd : Op where
  act _ _ _ _ _ b := { b with isEnd := true }
/-- TRAP: raises the exception with its code. -/
def opTrap (code : Fin 256) : Op where
  act _ _ _ _ _ b := { b.raise excTrap with trap := code }
/-- POP: the oldest inbox entry into a quad and 1 into the predicate, or 0 with the quad unchanged (03, R119). What waits
for the quad waits in both cases: timing does not depend on the inbox (03, R115). -/
def opPop (q : Fin 4) (quad : Fin 8) : Op where
  dests := rQ q :: (List.range 4).map fun i => rG (4 * quad + i)
  act _ _ _ k _ b :=
    match k.inbox with
    | [] => { b.wq q false .pop with
        prods := b.prods ++ (rQ q, .pop, 0) :: (List.range 4).map fun i => (rG (4 * quad + i), .pop, 0) }
    | e :: _ =>
      let b1 := (List.range 4).foldl (fun (b : Bundle) i =>
        b.wg (4 * quad + i) (BitVec.ofNat 32 (leAt e (4 * i) 4)) .pop) (b.wq q true .pop)
      { b1 with pop := some (q.val, quad.val) }
/-- DMAT: marks a window of the plot's active last as triggered (R119; 04, R129). -/
def opDmat (n : Fin 256) : Op where
  bad s _ r _ _ := match s.last r.plot with | some l => l.windows.all fun w => decide (w.win ≠ n.val) | none => true
  act _ _ _ _ _ b := { b with dmat := some n.val }
/-- MOVC: to or from a control register; c34 to c63 and writes of read-only ones are ILLEGAL (03, R90; 04, R129). The res
bits of PMODE and STAT are no field of the operation: a value that has them set is stored without them (log entry 194,
DESIGN CHOICE). -/
def opMovc (fromCtl : Bool) (cr : Fin 64) (g : Fin 32) : Op where
  needs _ := if fromCtl then [(rC cr, Use.other)] else [(rG g, Use.alu)]
  dests := if fromCtl then [rG g] else []
  bad _ _ _ _ _ := decide (cr.val ≥ 34) || (!fromCtl && decide (cr.val ≥ 29))
  act s c r k _ b :=
    if fromCtl then
      if cr.val = 29 then { b with writes := b.writes ++ [RegWrite.gCyc g], prods := b.prods ++ [(rG g, .word, 0)] }
      else if cr.val = 30 then b.wg g (BitVec.ofNat 32 s.tick)
      else if cr.val = 31 then b.wg g (BitVec.ofNat 32 (s.tick / 4294967296))
      else if cr.val = 32 then b.wg g (BitVec.ofNat 32 (r.plot * 256 + c))
      else if cr.val = 33 then b.wg g (BitVec.ofNat 32 r.task.id)
      else b.wg g (k.rc cr)
    else if cr.val = 24 then b.wc 24 (k.rg g &&& 0xFFFF#32)
    else if cr.val = 28 then b.wc 28 (k.rg g &&& 0x1F#32)
    else b.wc cr (k.rg g)

/-- A coprocessor operation of Table 4.6: opcode, destination, operands, result and flags, all a fixed function of the
operands (03, R107, R108). -/
def copOp (op : Nat) (rd : Fin 32) (rs : List (Fin 32)) (f : CoreSt → Word × Nat) : Op where
  needs _ := rs.map fun r => (rG r, Use.mac)
  dests := [rG rd]
  act _ _ _ k _ b := { b with cops := b.cops ++ [(rd.val, (f k).1, op, (f k).2)] }
/-- x / y in Q8.24, exact, rounded, saturated; division by zero sets DZ (Table 3.7). A saturation sets SAT32, as every
saturation at 32 bits does (R106; Table 4.6 names DZ alone: log entry 198, DEDUCED). -/
def divResult (x y : Int) : Word × Nat :=
  if y = 0 then (if x > 0 then 0x7FFFFFFF#32 else if x < 0 then 0x80000000#32 else 0#32, 4)
  else
    let v := if y < 0 then divRound (-x * 2 ^ 24) (-y) else divRound (x * 2 ^ 24) y
    (wordOf (sat 32 v), if overflows 32 v then 1 else 0)
/-- DIV. -/
def opDiv (rd rs rt : Fin 32) : Op :=
  copOp 9 rd [rs, rt] (fun k => divResult (k.ri rs) (k.ri rt))
/-- SQRT: rounded, 0 and INV for a negative operand. -/
def opSqrt (rd rs : Fin 32) : Op :=
  copOp 10 rd [rs] (fun k =>
    if k.ri rs < 0 then (0#32, 8) else (wordOf (isqrtRound ((k.ri rs).toNat * 2 ^ 31)), 0))
/-- LOG2: within 2 LSB, a free function of the operand (log entry 4). -/
def opLog2 (rd rs : Fin 32) : Op :=
  copOp 11 rd [rs] (fun k =>
    if k.ri rs ≤ 0 then (0x80000000#32, 8) else (wordOf (log2Result (k.ri rs)), 0))
/-- EXP2: within 2 LSB, a free function of the operand (log entry 4). -/
def opExp2 (rd rs : Fin 32) : Op :=
  copOp 12 rd [rs] (fun k =>
    if k.ri rs ≥ 0 then (0x7FFFFFFF#32, 0) else (wordOf (exp2Result (k.ri rs)), 0))
/-- MAG: the rounded root of x² + y² in Q2.30. -/
def opMag (rd rs rt : Fin 32) : Op :=
  copOp 13 rd [rs, rt] (fun k =>
    (wordOf (((isqrt (k.ri rs * k.ri rs + k.ri rt * k.ri rt).toNat + 1) / 2 : Nat)), 0))
/-- ATAN2 of rs = y and rt = x: within 2 LSB, a free function of the operands (log entry 4). -/
def opAtan2 (rd rs rt : Fin 32) : Op :=
  copOp 14 rd [rs, rt] (fun k =>
    let y := k.ri rs
    let x := k.ri rt
    if y = 0 ∧ x = 0 then (0#32, 8)
    else if y = 0 ∧ x < 0 then (0x7FFFFFFF#32, 0)
    else (wordOf (atan2Result y x), 0))

end Sys2Proof.Machine
end

