-- ==== Sys2Proof/Machine/CoreMemory.lean ====
section
/-!
DEFINITION. What the operations of a core's load/store slot do to their bundle: loads, stores, search and pointer
operations (03, R92 to R95, R101, R102, R105; 04, Tables 4.2 and 4.3, R131, R132).
-/
namespace Sys2Proof.Machine

/-- Reverse the low k bits of a number (03, R101). -/
def revBits : Nat → Nat → Nat
  | 0, _ => 0
  | k + 1, x => (x % 2) * 2 ^ k + revBits k (x / 2)
/-- k of a buffer of 2^k elements, if its length has that form (R102). -/
def revOrder (len e : Nat) : Option Nat := (List.range 17).find? fun k => decide (1 ≤ k) && decide (len = e * 2 ^ k)
/-- Post-modify of a pointer by a step, or ILLEGAL (R101, R102). -/
def CoreSt.postModify (k : CoreSt) (n e : Nat) (step : Int) : Option Word :=
  let pk : Int := k.rp n
  let base : Int := (k.rc n).toNat
  let len : Int := (k.rc (8 + n)).toNat
  let mode := (k.rc 24).toNat / 4 ^ n % 4
  let w (x : Int) : Word := BitVec.ofInt 32 x
  if mode = 0 then some (w (pk + step))
  else if mode = 1 then
    if step.natAbs > len.toNat then none
    else if pk < base ∨ pk ≥ base + len then some (w (pk + step))
    else
      let t := pk + step
      some (w (if t ≥ base + len then t - len else if t < base then t + len else t))
  else if mode = 2 then
    match revOrder len.toNat e with
    | some o => if base % len ≠ 0 ∨ step % e ≠ 0 then none else
        let i := (((pk - base) / e) % 2 ^ o).toNat
        let d := ((step / e) % 2 ^ o).toNat
        some (w (base + (revBits o ((revBits o i + revBits o d) % 2 ^ o) : Nat) * e))
    | none => none
  else none

/-- An access in a core's local address space: its trellis address, bank, whether in cluster memory, the core whose
memory it is and the address there (03, Table 3.4). -/
structure Access where
  addr : Nat
  bank : Nat
  cluster : Bool
  own : Nat
  loc : Nat
/-- Check an access of a size; the exception code where it is refused (R92, R132). ACCESS goes before ALIGN (log
entry 20). -/
def State.access (s : State) (c p a size : Nat) (cluster : Bool) : Except Nat Access :=
  let al := if size = 3 then 4 else size
  let own := c / 8 * 8 + (a - 0x100000) / 0x40000
  if a < 0x40000 then
    if a % al ≠ 0 then .error excAlign else .ok ⟨dmBase c + a, a / 8 % 8, false, c, a⟩
  else if 0x100000 ≤ a ∧ a < 0x300000 ∧ cluster ∧ s.corePlot own = some p then
    if a % al ≠ 0 then .error excAlign
    else .ok ⟨sliceBase own + (a - 0x100000) % 0x40000, a / 8 % 8, true, own, a⟩
  else .error excAccess

/-- Step of a single access: PSk, or the immediate in elements; none where pk stays (04, R131). -/
def l1Step (k : CoreSt) (x : L1) (e : Nat) : Option Int :=
  if x.m then (if x.imm = 0 then none else some (x.imm * e)) else some (k.rc (16 + x.k)).toInt
/-- What a post-modify waits for. -/
def ptrNeeds (k : CoreSt) (n : Nat) (ps modify : Bool) : List (Nat × Use) :=
  [(rP n, Use.other)] ++ (if modify then
    [(rC 24, Use.other)] ++ (if ps then [(rC (16 + n), Use.other)] else []) ++
      (if (k.rc 24).toNat / 4 ^ n % 4 = 0 then [] else [(rC n, Use.other), (rC (8 + n), Use.other)]) else [])
/-- What a single access waits for, beside its data. -/
def l1Needs (x : L1) (k : CoreSt) : List (Nat × Use) := ptrNeeds k x.k (!x.m) (!x.m || x.imm != 0)
/-- Is the immediate field of a single access one that its encoding holds (04, R129, R131). -/
def l1Ok (x : L1) : Bool := decide (-16 ≤ x.imm) && decide (x.imm ≤ 15) && (x.m || x.imm == 0)

/-- Update a pointer after an access. An access that leaves its pointer as it is has no pointer update to break R102: a
pointer in mode 0b11 raises nothing there (log entry 193, DEDUCED). -/
def Bundle.modify (b : Bundle) (k : CoreSt) (n e : Nat) (step : Option Int) : Bundle :=
  match step with
  | none => b
  | some d => match k.postModify n e d with | some v => b.wp n v | none => b.raise excIllegal

/-- Note a load: its bank or its cluster bank, and what the hardware reports of it (R93, R122, Table 3.9). -/
def Bundle.noteLoad (b : Bundle) (a : Access) (hw : Ecc) : Bundle :=
  let b1 := if a.cluster then { b with cluster := some a.bank } else { b with loadBanks := b.loadBanks ++ [a.bank] }
  match hw with
  | .clean => b1
  | .corrected => b1.corrects
  | .uncorrectable => { b1.raise (if a.cluster then 6 else 5) with
      bad := b1.bad ++ [(a.addr / 8 * 8, a.own, a.loc / 8 * 8)] }
/-- Note a store, which acts when the bundle retires (R111). -/
def Bundle.noteStore (b : Bundle) (a : Access) (off : Nat) (bytes : List Byte) : Bundle :=
  let b1 := { b with stores := b.stores ++ [(a.own, a.addr + off, bytes)] }
  if a.cluster then { b1 with cluster := some a.bank } else b1
/-- Timing class of a loaded register. -/
def Access.cls (a : Access) : ProdClass := if a.cluster then .clusterLoad else .load
/-- Add a loaded g result: n bytes from an offset of the access, shifted left. -/
def Bundle.wload (b : Bundle) (r : Nat) (a : Access) (off n shift : Nat) : Bundle :=
  { b with writes := b.writes ++ [.load r a.own (a.addr + off) n shift], prods := b.prods ++ [(rG r, a.cls, 0)] }

/-- A single load of a size through a pointer: register, offset, bytes and shift of each part. -/
def opLoad (x : L1) (size e : Nat) (even : Bool) (parts : List (Nat × Nat × Nat × Nat)) : Op where
  needs := l1Needs x
  dests := parts.map fun v => rG v.1
  bad _ _ _ _ _ := !l1Ok x || (even && x.r.val % 2 != 0)
  act s c r k ctl b :=
    match s.access c r.plot (k.rp x.k) size true with
    | .error code => b.raise code
    | .ok a =>
      (parts.foldl (fun (b : Bundle) v => b.wload v.1 a v.2.1 v.2.2.1 v.2.2.2) (b.noteLoad a ctl.hw.load)).modify k x.k e
        (l1Step k x e)
/-- A single store through a pointer: registers, offset of the first byte, the bytes and whether they saturated. -/
def opStore (x : L1) (size e off : Nat) (even : Bool) (data : List Nat) (bytes : CoreSt → List Byte × Bool) : Op where
  needs k := data.map (fun g => (rG g, Use.alu)) ++ l1Needs x k
  bad _ _ _ _ _ := !l1Ok x || (even && x.r.val % 2 != 0)
  act s c r k _ b :=
    match s.access c r.plot (k.rp x.k) size true with
    | .error code => b.raise code
    | .ok a => ((b.noteStore a off (bytes k).1).flag 1 (bytes k).2).modify k x.k e (l1Step k x e)
/-- Narrow a word to n bits: right shift of 32 - n, rounded or truncated, saturated (Table 3.6). -/
def narrow (trunc : Bool) (n : Nat) (v : Int) : List Byte × Bool :=
  let x := shiftBy trunc v (32 - n)
  (leBytesI (n / 8) (sat n x), overflows n x)

/-- LD16: a 16-bit value, left-justified. -/
def opLd16 (x : L1) : Op := opLoad x 2 2 false [(x.r.val, 0, 2, 16)]
/-- LD24: bytes [3:1] of the aligned word, left-justified. -/
def opLd24 (x : L1) : Op := opLoad x 3 4 false [(x.r.val, 1, 3, 8)]
/-- LD32: a word. -/
def opLd32 (x : L1) : Op := opLoad x 4 4 false [(x.r.val, 0, 4, 0)]
/-- LD64: two words into an even/odd pair. -/
def opLd64 (x : L1) : Op := opLoad x 8 8 true [(x.r.val, 0, 4, 0), (x.r.val + 1, 4, 4, 0)]

/-- An 8-byte load of a pair through a pointer of a multi-access form; only the first may address cluster memory
(04, R132). -/
def pairLoad (s : State) (c : Nat) (hw : Ecc) (first : Bool) (g n : Nat) (r : RunTask) (k : CoreSt) (b : Bundle) :
    Bundle :=
  match s.access c r.plot (k.rp n) 8 first with
  | .error code => b.raise code
  | .ok a => (((b.noteLoad a hw).wload g a 0 4 0).wload (g + 1) a 4 4 0).modify k n 8 (some (k.rc (16 + n)).toInt)
/-- An 8-byte store of a pair through a pointer of a multi-access form. -/
def pairStore (s : State) (c : Nat) (g n : Nat) (r : RunTask) (k : CoreSt) (b : Bundle) : Bundle :=
  match s.access c r.plot (k.rp n) 8 false with
  | .error code => b.raise code
  | .ok a => (b.noteStore a 0 (wordBytes (k.rg g) ++ wordBytes (k.rg (g + 1)))).modify k n 8
      (some (k.rc (16 + n)).toInt)
/-- What pointers of a multi-access form wait for. -/
def multiNeeds (ps : List Nat) (data : List Nat) (k : CoreSt) : List (Nat × Use) :=
  ps.flatMap (fun n => ptrNeeds k n true true) ++ data.map fun g => (rG g, Use.alu)

/-- LD2: two 8-byte loads; one pointer named twice is undefined (04, R129). -/
def opLd2 (d1 : Fin 16) (k : Fin 8) (d2 : Fin 16) (j : Fin 8) : Op where
  needs := multiNeeds [k, j] []
  dests := [rG (2 * d1), rG (2 * d1 + 1), rG (2 * d2), rG (2 * d2 + 1)]
  bad _ _ _ _ _ := decide (k = j)
  act s c r st ctl b :=
    pairLoad s c ctl.hw.load2 false (2 * d2) j r st (pairLoad s c ctl.hw.load true (2 * d1) k r st b)
/-- LDST: one 8-byte load and one 8-byte store. -/
def opLdst (d : Fin 16) (k : Fin 8) (v : Fin 16) (j : Fin 8) : Op where
  needs := multiNeeds [k, j] [2 * v.val, 2 * v.val + 1]
  dests := [rG (2 * d), rG (2 * d + 1)]
  bad _ _ _ _ _ := decide (k = j)
  act s c r st ctl b := pairStore s c (2 * v) j r st (pairLoad s c ctl.hw.load true (2 * d) k r st b)
/-- LD2ST: two 8-byte loads and a store through p6 or p7. -/
def opLd2st (quad : Fin 8) (k : Fin 8) (j : Fin 8) (v : Fin 16) (w : Bool) : Op where
  needs := multiNeeds [k.val, j.val, if w then 7 else 6] [2 * v.val, 2 * v.val + 1]
  dests := (List.range 4).map fun i => rG (4 * quad + i)
  bad _ _ _ _ _ := hasDup [k.val, j.val, if w then 7 else 6]
  act s c r st ctl b :=
    pairStore s c (2 * v) (if w then 7 else 6) r st (pairLoad s c ctl.hw.load2 false (4 * quad + 2) j r st
      (pairLoad s c ctl.hw.load true (4 * quad) k r st b))

/-- ST16: a register rounded or truncated and saturated to 16 bits. -/
def opSt16 (trunc : Bool) (x : L1) : Op := opStore x 2 2 0 false [x.r.val] fun k => narrow trunc 16 (k.ri x.r)
/-- ST24: a register rounded or truncated and saturated into bytes [3:1] of a word. -/
def opSt24 (trunc : Bool) (x : L1) : Op := opStore x 3 4 1 false [x.r.val] fun k => narrow trunc 24 (k.ri x.r)
/-- ST32: a word. -/
def opSt32 (x : L1) : Op := opStore x 4 4 0 false [x.r.val] fun k => (wordBytes (k.rg x.r), false)
/-- ST64: an even/odd pair. -/
def opSt64 (x : L1) : Op :=
  opStore x 8 8 0 true [x.r.val, x.r.val + 1] fun k => (wordBytes (k.rg x.r) ++ wordBytes (k.rg (x.r + 1)), false)

/-- A search step with index: one or two elements, post-modify by PSk, SCNT advanced (R105; 04, R131); magnitudes are
compared in 33 bits. -/
def opSearch (f : Better) (best idx : Fin 32) (n : Fin 8) (single : Bool) : Op where
  needs k := [(rG best, Use.search), (rG idx, Use.search), (rC 27, Use.other)] ++ ptrNeeds k n true true
  dests := [rG best, rG idx]
  act s c r k ctl b :=
    let e := if single then 4 else 8
    match s.access c r.plot (k.rp n) e true with
    | .error code => b.raise code
    | .ok a =>
      let i := k.rc 27
      let lat := if a.cluster then 3 else 0
      let b1 := b.noteLoad a ctl.hw.load
      let b2 : Bundle := { b1 with
        writes := b1.writes ++ [.find f best idx a.own a.addr single i (k.rg best) (k.rg idx),
          .c 27 (i + if single then 1 else 2)]
        prods := b1.prods ++ [(rG best, .search, lat), (rG idx, .search, lat)] }
      b2.modify k n e (some (k.rc (16 + n)).toInt)

/-- PMOV: a g register into a pointer, or a pointer into a g register. -/
def opPmov (toG : Bool) (g : Fin 32) (k : Fin 8) : Op where
  needs _ := if toG then [(rP k, Use.other)] else [(rG g, Use.move)]
  dests := if toG then [rG g] else []
  act _ _ _ st _ b := if toG then b.wg g (NTable.get 0 st.p k) else b.wp k (st.rg g)
/-- PADD: post-modify by a signed byte step without an access; its element is 8 bytes (04, R131). -/
def opPadd (k : Fin 8) (imm : Int) : Op where
  needs st := ptrNeeds st k false true
  bad _ _ _ _ _ := decide (imm < -1024) || decide (imm > 1023)
  act _ _ _ st _ b := b.modify st k 8 (some imm)

end Sys2Proof.Machine
end

