-- ==== Sys2Proof/Machine/CoreCode.lean ====
section
/-!
DEFINITION. The code of a core: the 64-bit bundle read as the operations of its slots (04, R125, R126, R129, Tables 4.1 to
4.6), and what each operation does.
-/
namespace Sys2Proof.Machine

/-- The operation of a slot command: its core, its control fields, its effect on the bundle. -/
def coreOp : Instr → Option (Fin 128 × SlotCtl × Op)
  | .coreLd16 c ctl x => some (c, ctl, opLd16 x)
  | .coreLd24 c ctl x => some (c, ctl, opLd24 x)
  | .coreLd32 c ctl x => some (c, ctl, opLd32 x)
  | .coreLd64 c ctl x => some (c, ctl, opLd64 x)
  | .coreLd2 c ctl d1 k d2 j => some (c, ctl, opLd2 d1 k d2 j)
  | .coreLdst c ctl d k v j => some (c, ctl, opLdst d k v j)
  | .coreLd2st c ctl quad k j v w => some (c, ctl, opLd2st quad k j v w)
  | .coreSt16 c ctl trunc x => some (c, ctl, opSt16 trunc x)
  | .coreSt24 c ctl trunc x => some (c, ctl, opSt24 trunc x)
  | .coreSt32 c ctl x => some (c, ctl, opSt32 x)
  | .coreSt64 c ctl x => some (c, ctl, opSt64 x)
  | .coreSmax c ctl best idx k single => some (c, ctl, opSearch .max best idx k single)
  | .coreSmin c ctl best idx k single => some (c, ctl, opSearch .min best idx k single)
  | .coreSmaxa c ctl best idx k single => some (c, ctl, opSearch .maxa best idx k single)
  | .coreSmina c ctl best idx k single => some (c, ctl, opSearch .mina best idx k single)
  | .corePmov c ctl toG g k => some (c, ctl, opPmov toG g k)
  | .corePadd c ctl k imm => some (c, ctl, opPadd k imm)
  | .coreAdd c ctl m rd rs rt => some (c, ctl, opAdd m rd rs rt)
  | .coreSub c ctl m rd rs rt => some (c, ctl, opSub m rd rs rt)
  | .coreAnd c ctl rd rs rt => some (c, ctl, opAnd rd rs rt)
  | .coreOr c ctl rd rs rt => some (c, ctl, opOr rd rs rt)
  | .coreXor c ctl rd rs rt => some (c, ctl, opXor rd rs rt)
  | .coreMin c ctl rd rs rt => some (c, ctl, opMin rd rs rt)
  | .coreMax c ctl rd rs rt => some (c, ctl, opMax rd rs rt)
  | .coreMulf c ctl trunc rd rs rt => some (c, ctl, opMulf trunc rd rs rt)
  | .coreMuli c ctl rd rs rt => some (c, ctl, opMuli rd rs rt)
  | .coreSrai c ctl rd rs n => some (c, ctl, opSrai rd rs n)
  | .coreSlli c ctl rd rs n => some (c, ctl, opSlli rd rs n)
  | .coreSrli c ctl rd rs n => some (c, ctl, opSrli rd rs n)
  | .coreSrar c ctl trunc rd rs n => some (c, ctl, opSrar trunc rd rs n)
  | .coreMov c ctl rd rs => some (c, ctl, opMov rd rs)
  | .coreNeg c ctl m rd rs => some (c, ctl, opNeg m rd rs)
  | .coreAbs c ctl m rd rs => some (c, ctl, opAbs m rd rs)
  | .coreNot c ctl rd rs => some (c, ctl, opNot rd rs)
  | .coreCmp c ctl q cond rs rt => some (c, ctl, opCmp q cond rs rt)
  | .coreMovi c ctl rd imm => some (c, ctl, opMovi rd imm)
  | .coreMovh c ctl rd imm => some (c, ctl, opMovh rd imm)
  | .coreCmac c ctl a x y f => some (c, ctl, opCmac a x y f)
  | .coreCmac2 c ctl a0 a1 x y f => some (c, ctl, opCmac2 a0 a1 x y f)
  | .coreQmac c ctl a x y f => some (c, ctl, opQmac a x y f)
  | .coreQmac2 c ctl a0 a1 x y f => some (c, ctl, opQmac2 a0 a1 x y f)
  | .coreAcv c ctl trunc rd a n => some (c, ctl, opAcv trunc rd a n)
  | .coreAsr c ctl trunc d a n => some (c, ctl, opAsr trunc d a n)
  | .coreAsl c ctl d a n => some (c, ctl, opAsl d a n)
  | .coreAmov c ctl d rs => some (c, ctl, opAmov d rs)
  | .coreAadd c ctl d a b => some (c, ctl, opAadd d a b)
  | .coreAsub c ctl d a b => some (c, ctl, opAsub d a b)
  | .coreAzero c ctl d => some (c, ctl, opAzero d)
  | .coreAcmp c ctl q cond a b => some (c, ctl, opAcmp q cond a b)
  | .coreBr c ctl hint target => some (c, ctl, opBr hint target)
  | .coreCall c ctl target => some (c, ctl, opCall target)
  | .coreJr c ctl g => some (c, ctl, opJr g)
  | .coreLoop c ctl fromReg count len => some (c, ctl, opLoop fromReg count len)
  | .coreEnd c ctl => some (c, ctl, opEnd)
  | .coreTrap c ctl code => some (c, ctl, opTrap code)
  | .corePop c ctl q quad => some (c, ctl, opPop q quad)
  | .coreDmat c ctl n => some (c, ctl, opDmat n)
  | .coreMovc c ctl fromCtl cr g => some (c, ctl, opMovc fromCtl cr g)
  | .coreDiv c ctl rd rs rt => some (c, ctl, opDiv rd rs rt)
  | .coreSqrt c ctl rd rs => some (c, ctl, opSqrt rd rs)
  | .coreLog2 c ctl rd rs => some (c, ctl, opLog2 rd rs)
  | .coreExp2 c ctl rd rs => some (c, ctl, opExp2 rd rs)
  | .coreMag c ctl rd rs rt => some (c, ctl, opMag rd rs rt)
  | .coreAtan2 c ctl rd rs rt => some (c, ctl, opAtan2 rd rs rt)
  | _ => none

/-- Bits [hi:lo] of a word. -/
def fld (w hi lo : Nat) : Nat := w / 2 ^ lo % 2 ^ (hi + 1 - lo)
/-- Bits [hi:lo] as a number of a register, pair, pointer or shift. -/
def fin (n : Nat) [NeZero n] (w hi lo : Nat) : Fin n := Fin.ofNat n (fld w hi lo)
/-- A bit of a word. -/
def flagOf (w i : Nat) : Bool := fld w i i == 1

/-- What a slot holds: none where its encoding is undefined, some none for NOP. -/
abbrev SlotCode := Option (Option (SlotCtl → Instr))
/-- An operation of a slot. -/
def isOp (f : SlotCtl → Instr) : SlotCode := some (some f)
/-- An operation whose res field must be 0 (04, R129). -/
def ifZero (res : Nat) (x : SlotCode) : SlotCode := if res = 0 then x else none
/-- Format L1 (Table 4.2). -/
def l1Of (x : Nat) : L1 :=
  { r := fin 32 x 13 9, k := fin 8 x 8 6, m := flagOf x 5, imm := wrapS 5 (fld x 4 0) }
/-- Flags of formats A6 and A8, A7 and A9: bits of CONJ, NEG and ACC, where the format has them (Table 4.4). -/
def macOf (x : Nat) (conj : Option Nat) (neg acc : Nat) : MacFlags :=
  { conj := match conj with | some i => flagOf x i | none => false, neg := flagOf x neg, acc := flagOf x acc }
/-- A condition code of Table 4.4. -/
def condOf (n : Nat) : Cond :=
  match n with
  | 0 => .eq | 1 => .ne | 2 => .lt | 3 => .ge | 4 => .le | 5 => .gt | 6 => .ltu | _ => .geu

/-- The load/store slot: opcode and operand field (Tables 4.2 and 4.3). NOP has no operands: its field is 0 (log entry 199,
DEDUCED). -/
def decodeLs (c : Fin 128) (op x : Nat) : SlotCode :=
  let l := l1Of x
  let search (f : SlotCtl → Fin 32 → Fin 32 → Fin 8 → Bool → Instr) : SlotCode :=
    isOp fun t => f t (fin 32 x 13 9) (fin 32 x 8 4) (fin 8 x 3 1) (flagOf x 0)
  match op with
  | 0x00 => ifZero x (some none)
  | 0x01 => isOp fun t => .coreLd16 c t l
  | 0x02 => isOp fun t => .coreLd24 c t l
  | 0x03 => isOp fun t => .coreLd32 c t l
  | 0x04 => isOp fun t => .coreLd64 c t l
  | 0x05 => isOp fun t => .coreLd2 c t (fin 16 x 13 10) (fin 8 x 9 7) (fin 16 x 6 3) (fin 8 x 2 0)
  | 0x06 => isOp fun t => .coreLdst c t (fin 16 x 13 10) (fin 8 x 9 7) (fin 16 x 6 3) (fin 8 x 2 0)
  | 0x07 => isOp fun t => .coreLd2st c t (fin 8 x 13 11) (fin 8 x 10 8) (fin 8 x 7 5) (fin 16 x 4 1) (flagOf x 0)
  | 0x08 => isOp fun t => .coreSt16 c t false l
  | 0x09 => isOp fun t => .coreSt16 c t true l
  | 0x0A => isOp fun t => .coreSt24 c t false l
  | 0x0B => isOp fun t => .coreSt24 c t true l
  | 0x0C => isOp fun t => .coreSt32 c t l
  | 0x0D => isOp fun t => .coreSt64 c t l
  | 0x0E => search (.coreSmax c)
  | 0x0F => search (.coreSmin c)
  | 0x10 => search (.coreSmaxa c)
  | 0x11 => search (.coreSmina c)
  | 0x12 => ifZero (fld x 4 0) (isOp fun t => .corePmov c t (flagOf x 13) (fin 32 x 12 8) (fin 8 x 7 5))
  | 0x13 => isOp fun t => .corePadd c t (fin 8 x 13 11) (wrapS 11 (fld x 10 0))
  | _ => none

/-- The arithmetic slot: opcode and operand field (Tables 4.4 and 4.5). -/
def decodeAr (c : Fin 128) (op x : Nat) : SlotCode :=
  let rd : Fin 32 := fin 32 x 14 10
  let rs : Fin 32 := fin 32 x 9 5
  let rt : Fin 32 := fin 32 x 4 0
  let q : Fin 4 := fin 4 x 14 13
  let d : Fin 8 := fin 8 x 12 10
  let a : Fin 8 := fin 8 x 9 7
  match op with
  | 0x00 => ifZero x (some none)
  | 0x01 => isOp fun t => .coreAdd c t .wrap rd rs rt
  | 0x02 => isOp fun t => .coreAdd c t .sat rd rs rt
  | 0x03 => isOp fun t => .coreSub c t .wrap rd rs rt
  | 0x04 => isOp fun t => .coreSub c t .sat rd rs rt
  | 0x05 => isOp fun t => .coreAnd c t rd rs rt
  | 0x06 => isOp fun t => .coreOr c t rd rs rt
  | 0x07 => isOp fun t => .coreXor c t rd rs rt
  | 0x08 => isOp fun t => .coreMin c t rd rs rt
  | 0x09 => isOp fun t => .coreMax c t rd rs rt
  | 0x0A => isOp fun t => .coreMulf c t false rd rs rt
  | 0x0B => isOp fun t => .coreMulf c t true rd rs rt
  | 0x0C => isOp fun t => .coreMuli c t rd rs rt
  | 0x0D => isOp fun t => .coreSrai c t rd rs rt
  | 0x0E => isOp fun t => .coreSlli c t rd rs rt
  | 0x0F => isOp fun t => .coreSrli c t rd rs rt
  | 0x10 => isOp fun t => .coreSrar c t false rd rs rt
  | 0x11 => isOp fun t => .coreSrar c t true rd rs rt
  | 0x12 =>
    match fld x 4 0 with
    | 0 => isOp fun t => .coreMov c t rd rs
    | 1 => isOp fun t => .coreNeg c t .wrap rd rs
    | 2 => isOp fun t => .coreNeg c t .sat rd rs
    | 3 => isOp fun t => .coreAbs c t .wrap rd rs
    | 4 => isOp fun t => .coreAbs c t .sat rd rs
    | 5 => isOp fun t => .coreNot c t rd rs
    | _ => none
  | 0x13 => isOp fun t => .coreCmp c t q (condOf (fld x 12 10)) rs rt
  | 0x14 => isOp fun t => .coreMovi c t rd (wrapS 10 (fld x 9 0))
  | 0x15 => isOp fun t => .coreMovh c t rd (fld x 9 0)
  | 0x16 => ifZero (fld x 1 0) (isOp fun t => .coreCmac c t q (fin 16 x 12 9) (fin 16 x 8 5) (macOf x (some 4) 3 2))
  | 0x17 => isOp fun t => .coreCmac2 c t q (fin 4 x 12 11) (fin 16 x 10 7) (fin 16 x 6 3) (macOf x (some 2) 1 0)
  | 0x18 => ifZero (fld x 4 0) (isOp fun t => .coreQmac c t q d a (macOf x none 6 5))
  | 0x19 => ifZero (fld x 2 0) (isOp fun t =>
      .coreQmac2 c t q (fin 4 x 12 11) (fin 8 x 10 8) (fin 8 x 7 5) (macOf x none 4 3))
  | 0x1A => isOp fun t => .coreAcv c t (flagOf x 14) (fin 32 x 13 9) (fin 8 x 8 6) (fin 64 x 5 0)
  | 0x1B => ifZero (fld x 0 0) <|
    match fld x 14 13 with
    | 0 => isOp fun t => .coreAsr c t false d a (fin 64 x 6 1)
    | 1 => isOp fun t => .coreAsr c t true d a (fin 64 x 6 1)
    | 2 => isOp fun t => .coreAsl c t d a (fin 64 x 6 1)
    | _ => none
  | 0x1C => ifZero (fld x 6 0) (isOp fun t => .coreAmov c t (fin 8 x 14 12) (fin 32 x 11 7))
  | 0x1D => ifZero (fld x 3 0) <|
    match fld x 14 13 with
    | 0 => isOp fun t => .coreAadd c t d a (fin 8 x 6 4)
    | 1 => isOp fun t => .coreAsub c t d a (fin 8 x 6 4)
    | 2 => ifZero (fld x 9 4) (isOp fun t => .coreAzero c t d)
    | _ => none
  | 0x1E => ifZero (fld x 3 0) (isOp fun t => .coreAcmp c t q (condOf (fld x 12 10)) a (fin 8 x 6 4))
  | _ => none

/-- The control/coprocessor slot: opcode and operand field (Table 4.6). -/
def decodeCc (c : Fin 128) (op x : Nat) : SlotCode :=
  let rd : Fin 32 := fin 32 x 14 10
  let rs : Fin 32 := fin 32 x 9 5
  let rt : Fin 32 := fin 32 x 4 0
  let one (f : SlotCtl → Fin 32 → Fin 32 → Instr) : SlotCode := ifZero (fld x 4 0) (isOp fun t => f t rd rs)
  match op with
  | 0x0 => ifZero x (some none)
  | 0x1 => ifZero (fld x 13 13) (isOp fun t => .coreBr c t (flagOf x 14) (fin 8192 x 12 0))
  | 0x2 => ifZero (fld x 14 13) (isOp fun t => .coreCall c t (fin 8192 x 12 0))
  | 0x3 => ifZero (fld x 14 5) (isOp fun t => .coreJr c t rt)
  | 0x4 => ifZero (fld x 8 8) (isOp fun t => .coreLoop c t (flagOf x 14) (fin 32 x 13 9) (fin 256 x 7 0))
  | 0x5 =>
    match fld x 14 13 with
    | 0 => ifZero (fld x 12 0) (isOp fun t => .coreEnd c t)
    | 1 => ifZero (fld x 12 8) (isOp fun t => .coreTrap c t (fin 256 x 7 0))
    | _ => none
  | 0x6 => ifZero (fld x 14 5) (isOp fun t => .corePop c t (fin 4 x 4 3) (fin 8 x 2 0))
  | 0x7 => ifZero (fld x 14 8) (isOp fun t => .coreDmat c t (fin 256 x 7 0))
  | 0x8 => ifZero (fld x 13 11) (isOp fun t => .coreMovc c t (flagOf x 14) (fin 64 x 10 5) rt)
  | 0x9 => isOp fun t => .coreDiv c t rd rs rt
  | 0xA => one (.coreSqrt c)
  | 0xB => one (.coreLog2 c)
  | 0xC => one (.coreExp2 c)
  | 0xD => isOp fun t => .coreMag c t rd rs rt
  | 0xE => isOp fun t => .coreAtan2 c t rd rs rt
  | _ => none

/-- The condition of a bundle, where a slot is predicated: PNEG and PQ (Table 4.1, R126). -/
def condField (w : Nat) : Option (Bool × Fin 4) :=
  if fld w 63 61 = 0 then none else some (flagOf w 60, fin 4 w 59 58)
/-- Control fields of a slot of a fetched bundle, by its P bit. -/
def ctlOf (w p : Nat) (last : Bool) : SlotCtl :=
  { pred := if flagOf w p then condField w else none, nops := 0, last := last, hw := {} }
/-- The operations of a bundle, slot by slot; none for an undefined encoding (Table 4.1, R126, R129). -/
def decodeBundle (c : Fin 128) (w : Nat) : Option (List Instr) :=
  if fld w 63 61 = 0 ∧ fld w 60 58 ≠ 0 then none
  else
    match decodeLs c (fld w 57 53) (fld w 52 39), decodeAr c (fld w 38 34) (fld w 33 19), decodeCc c (fld w 18 15) (fld w 14 0) with
    | some ls, some ar, some cc => some (
        (match ls with | some f => [f (ctlOf w 63 (ar.isNone && cc.isNone))] | none => []) ++
        (match ar with | some f => [f (ctlOf w 62 cc.isNone)] | none => []) ++
        (match cc with | some f => [f (ctlOf w 61 true)] | none => []))
    | _, _, _ => none

end Sys2Proof.Machine
end

