-- ==== Sys2Proof/Machine/CoreIssue.lean ====
section
/-!
DEFINITION. Issue and retirement of a core's bundles: speculation, flow, retirement, the slots as commands, and the bundles
that a running core fetches (03, R108 to R117; 04, R125 to R130, R134 to R136; 01, R51).
-/
namespace Sys2Proof.Machine

/-- The bundle at an address of a core's PM, stored little-endian (04, R125). -/
def State.bundleAt (s : State) (c pc : Nat) : Nat := leAt (s.bytes (pmBase c + 8 * pc) 8) 0 8
/-- The bundle under way when its operations are added to what a core has, without the reports of hardware. -/
def State.gather (s : State) (c : Nat) (r : RunTask) (k : CoreSt) (b : Bundle) (ops : List Instr) : Bundle :=
  ops.foldl (fun b i =>
    match coreOp i with
    | some (_, ctl, op) => b.add s c r k ctl op
    | none => b) b
/-- A not-taken hint lets the fall-through bundle enter AG as the branch resolves, where every slot of it is ready: its
coprocessor operation issues. When the branch is taken it is squashed: its entry is freed, and its unit stays busy for its
interval (03, R109, R110). `k` is the core after the branch's bundle. -/
def State.speculate (s : State) (c : Fin 128) (r : RunTask) (t : Nat) (k : CoreSt) : CoreSt :=
  match decodeBundle c (s.bundleAt c ((k.pc + 1) % 8192)) with
  | none => k
  | some ops =>
    let k1 := { k with pc := (k.pc + 1) % 8192, next := t + 1 }
    let wait := match condField (s.bundleAt c k1.pc) with | some (_, n) => k1.ready (rQ n, .other) | none => 0
    let b := s.gather c r k1 { minIssue := wait } ops
    match b.cops with
    | e :: _ => if CoreSt.issueCycle c { k1 with bundle := b } = t + 1 then k.useUnit (copUnit e.2.2.1) (t + 1) (copInterval e.2.2.1) else k
    | [] => k

/-- Where flow goes: next pc, loops and the cost in cycles (04, R134 to R136; 03, R113). -/
def State.flow (s : State) (c : Nat) (r : RunTask) (t : Nat) (b : Bundle) (k : CoreSt) : CoreSt :=
  match b.branch with
  | some (taken, hint, target) =>
    if taken then
      let k1 := if hint then k else s.speculate (Fin.ofNat 128 c) r t k
      { k1 with loops := k.dropLoops target, pc := target, next := t + 1 + (if hint then 1 else 3) }
    else { k.fallThrough with next := t + 1 + (if hint then 3 else 0) }
  | none =>
    match b.flow with
    | .jump target cost => { k with loops := k.dropLoops target, pc := target, next := t + 1 + cost }
    | .fall cost =>
      let after := (k.pc + 1 + cost) % 8192
      { k with loops := k.dropLoops after, pc := after, next := t + 4 }
    | .seq => { k.fallThrough with next := t + 1 }

/-- What a run of END does: the task is done, saturation is counted, and a proof program leaves g0:g1 for the tick's
proof digest; a coprocessor result still in flight is cancelled and is not what they hold (03, R117, Table 3.10; 08,
R261). -/
def State.finish (s : State) (c : Nat) (r : RunTask) : State :=
  let k := s.core c
  let s1 := s.when ((k.rc 28).toNat % 4 != 0) fun s => s.bump (Reg.coreSat c)
  let s2 := s1.when (decide (r.task.kind = 1)) fun s => { s with
    pair := { s.pair with proofs := s.pair.proofs ++ [(c * 65536 + r.task.id, NTable.get 0 k.g 0, NTable.get 0 k.g 1)] } }
  (s2.modCore c CoreSt.stop).modTask r.plot r.task.id fun t => { t with done := true }

/-- The core after a bundle's results: those of the coprocessor that come before them, the registers, the flags of STAT,
what later uses wait for, and the coprocessor's new work (03, R106, R108, R115; 04, R130). A flag of STAT stands from the
next bundle on (log entry 195, DEDUCED). -/
def State.writeBack (s : State) (t : Nat) (b : Bundle) (k : CoreSt) : CoreSt :=
  let k1 := b.writes.foldl (s.applyWrite t) (k.copWrite (t + 4))
  let k2 := b.prods.foldl (fun k (e : Nat × ProdClass × Nat) =>
    { k with prods := NTable.put prod0 k.prods e.1 { cls := e.2.1, at_ := t, lat := e.2.2 } }) (k1.setFlags b.flags)
  b.cops.foldl (fun k (e : Nat × Word × Nat × Nat) =>
    let due := t + copLatency e.2.2.1
    { k.useUnit (copUnit e.2.2.1) t (copInterval e.2.2.1) with
      cop := k.cop ++ [({ dest := e.1, value := e.2.1, flag := e.2.2.2, due := due, issued := t } : CopEntry)]
      copDue := NTable.put 0 k.copDue (rG e.1) (max due (NTable.get 0 k.copDue (rG e.1)))
      busy := (k.busy.filter fun d => decide (t < d)) ++ [due] }) k2

/-- The bundle issues and retires (03, R115, R120; 04, R126, R127, R129, R130). A bundle that would retire at or after the
task's DEADLINE does not, and holds back every younger one (01, R51; 03, R120). -/
def State.retire (s : State) (c : Nat) (r : RunTask) : State :=
  let k := s.core c
  let b := k.bundle
  let t := k.issueCycle c
  if t + 4 ≥ r.task.deadline then s.setCore c { k with bundle := {}, next := max k.next t }
  else if b.exc ≠ 0 then (s.bumpBy (Reg.coreCecc c) b.corrected).exception c r b.exc b.trap
  else if hasDup b.dests || b.clash then s.exception c r excIllegal 0
  else
    let k1 := s.writeBack t b k
    let k2 := match b.pop with
      | some _ => { k1 with inbox := k1.inbox.drop 1 }
      | none => k1
    let k3 := match b.loop with
      | some (n, first, len) => { k2 with
          loops := k2.loops ++ [({ first := first, last := (first + len) % 8192 } : LoopSt)]
          c := NTable.put 0 k2.c (25 + k.loops.length) (BitVec.ofNat 32 n)
          prods := NTable.put prod0 k2.prods (rC (25 + k.loops.length)) prod0
          pc := (k.pc + 1) % 8192, next := t + 1 }
      | none => s.flow c r t b k2
    let s1 := s.setCore c { k3 with lastIssue := t, issued := k.issued + 1, bundle := {} }
    let s2 := overL b.stores (fun s e => s.coreStore e.1 (t + 4) e.2.1 e.2.2) s1
    let s3 := s2.bumpBy (Reg.coreCecc c) b.corrected
    let s4 := match b.dmat with
      | some n => { s3 with wins := NTable.mod {} s3.wins (r.plot * 1024 + n) fun w =>
          if w.trigger.isNone then { w with trigger := some (s.tick * Config.cyclesPerTick + t + 4) } else w }
      | none => s3
    if b.isEnd then s4.finish c r else s4

/-- One slot of a bundle on a core: the bundles without operation before it, its part of the bundle, and the bundle's
retirement after its last slot. A core without a task runs nothing (R89). -/
def State.slot (s : State) (c : Nat) (ctl : SlotCtl) (op : Op) : State :=
  let k0 := s.core c
  match k0.run with
  | none => s
  | some r =>
    let k := if k0.bundle.slots = 0 then k0.issueNops r.task.deadline ctl.nops else k0
    let s1 := s.setCore c { k with bundle := k.bundle.add s c r k ctl op }
    if ctl.last then s1.retire c r else s1

/-- May a core fetch its next bundle: it runs a task, no slot of a bundle is under way, and the bundle can retire before
DEADLINE. -/
def CoreSt.fetches (k : CoreSt) : Bool :=
  match k.run with
  | some r => decide (k.bundle.slots = 0) && decide (k.next + 4 < r.task.deadline)
  | none => false
/-- The running core whose next bundle comes first, the lowest number of several. -/
def State.nextCore (s : State) : Option Nat :=
  s.cores.foldl (fun (m : Option Nat) e =>
    if e.2.fetches then
      match m with
      | some x => if (s.core x).next ≤ e.2.next then some x else some e.1
      | none => some e.1
    else m) none
/-- With no command waiting, the running core whose next bundle comes first fetches it from its PM: its operations wait as
the commands they are; a bundle without operation, or with an undefined encoding, issues at once (04, R125, R129; log entry
140, DESIGN CHOICE). With no such core the block idles. -/
def State.fetchBundle (s : State) : State :=
  match s.nextCore with
  | none => s
  | some c =>
    let k := s.core c
    match k.run with
    | none => s
    | some r =>
      let w := s.bundleAt c k.pc
      let wait := match condField w with | some (_, n) => k.ready (rQ n, .other) | none => 0
      match decodeBundle (Fin.ofNat 128 c) w with
      | none => (s.setCore c { k with bundle := { exc := excIllegal, minIssue := wait } }).retire c r
      | some [] => (s.setCore c { k with bundle := { minIssue := wait } }).retire c r
      | some ops => { s.setCore c { k with bundle := { minIssue := wait } } with pending := ops }

/-- COPROC_RESULT_WRITE: the result due first is written, once no bundle still to issue can write before it (03, R108; 04,
R130); its entry of the result buffer is free from its cycle. Before its cycle nothing happens (log entry 27). -/
def execCoprocResultWrite (c : Fin 128) (s : State) : Out :=
  let k := s.core c
  match k.cop with
  | [] => .next s
  | e :: t =>
    let due := t.foldl (fun m e => min m e.due) e.due
    if due ≤ k.next + 4 ∨ due ≤ s.cycle then .next (s.setCore c (k.copWrite due)) else .next s

end Sys2Proof.Machine
end

