-- ==== Sys2Proof/Machine/CoreTasks.lean ====
section
/-!
DEFINITION. Tasks and engine work on the cores: start, stop at DEADLINE, scrub, messages (01, R51 to R55; 03, R91,
R117, R118, R120 to R124).
-/
namespace Sys2Proof.Machine

/-- A task of a plot's active last. -/
def State.findTask (s : State) (p id : Nat) : Option Task :=
  match s.last p with
  | some l => l.tasks.find? fun t => decide (t.id = id)
  | none => none
/-- A core at a task's START: every register at its default, the coprocessor empty, no loop (03, R91); the first
bundle issues at START + 2 (03, Table 3.1). -/
def CoreSt.start (k : CoreSt) (p : Nat) (t : Task) : CoreSt :=
  { inbox := k.inbox, posted := k.posted, scrub := k.scrub, dma := k.dma, run := some ⟨t, p⟩, pc := t.entry, next := t.start + 2
    lastIssue := t.start + 1 }
/-- TASK_START: the task begins at its START cycle. State copies run in the swap tick alone (01, R550). A task whose
DIR 0 window failed is stopped at its START (15, R430); a task still running there is stopped (01, R51). -/
def execTaskStart (p : Fin 16) (task : Nat) (s : State) : Out :=
  match s.findTask p task with
  | none => .next s
  | some t =>
    let ts := s.task p task
    if ts.started ∨ (t.kind = 2 ∧ s.reg (Reg.lastActiveSince p) ≠ s.tick) then .next s
    else
      let s0 := { s with cycle := max s.cycle t.start }
      let s1 := match (s0.core t.core).run with
        | some r => s0.exception t.core r excDeadline 0
        | none => s0
      let s2 := s1.modTask p task fun x => { x with started := true }
      if ts.failStart then .next (((s2.countOverrun p t.core task).zeroTask p task).reinit p t)
      else .next (s2.modCore t.core fun k => k.start p t)
/-- TASK_DEADLINE_STOP: a task that has not retired END is stopped at its DEADLINE cycle, exception 0x0A (01, R51;
03, R120). -/
def execTaskDeadlineStop (c : Fin 128) (s : State) : Out :=
  match (s.core c).run with
  | none => .next s
  | some r => .next ({ s with cycle := max s.cycle r.task.deadline }.exception c r excDeadline 0)

/-- Words of a core that scrub visits: PM, DM, own slice (03, R124). -/
def scrubWords : Nat := 73728
/-- Local address of a scrub word that is not in PM. -/
def scrubLocal (c w : Nat) : Nat :=
  if w < 8192 then 8 * w else if w < 40960 then 8 * (w - 8192) else 0x100000 + c % 8 * 0x40000 + 8 * (w - 40960)
/-- An uncorrectable word found by scrub: counted, logged, rewritten as R121 (R124). PM is rewritten from its
reference copy, which equals it. -/
def State.scrubUecc (s : State) (c w : Nat) : State :=
  let a := scrubLocal c w
  let p := s.corePlot c
  let s1 := (s.bump (Reg.coreUecc c)).logEvent 0x0402 2 (p.getD 16) c a
  if w < 8192 then s1
  else s1.store (nearAddr c a) ((List.range 8).map fun i =>
    match p.bind s.last with | some l => l.initByte c (a + i) | none => 0)
/-- Is a word of a core among the 1,024 that scrub reads in this tick (R124). -/
def State.scrubReads (s : State) (e : Fin 128 × Nat) : Bool :=
  decide (e.2 < scrubWords) && decide ((e.2 + scrubWords - (s.core e.1).scrub) % scrubWords < 1024)
/-- CORE_SCRUB: 1,024 words of each core in address order; of these the corrected words are written back, the uncorrectable
ones repaired; a pass is counted (03, R122, R124). -/
def execCoreScrub (corrected : List (Fin 128 × Nat)) (uncorrectable : List (Fin 128 × Nat)) (s : State) : Out :=
  let s1 := overN 128 (fun s c =>
    let n := (s.core c).scrub + 1024
    (s.modCore c fun k => { k with scrub := n % scrubWords }).when (decide (n ≥ scrubWords)) fun s =>
      s.bump (Reg.coreScrubPass c)) s
  let s2 := overL (corrected.filter s.scrubReads) (fun s e => s.bump (Reg.coreCecc e.1)) s1
  .next (overL (uncorrectable.filter s.scrubReads) (fun s e => s.scrubUecc e.1 e.2) s2)

/-- A message accepted for a core at a tick (03, R118). -/
def State.postMessage (s : State) (c due : Nat) (msg : List Byte) : State :=
  s.modCore c fun k => { k with posted := k.posted ++ [⟨due, msg⟩] }
/-- MSG_POST: a 16-byte message for a core of the plot; it enters two boundaries on (03, R118). -/
def execMsgPost (p : Fin 16) (c : Fin 128) (msg : List Byte) (s : State) : Out :=
  if s.corePlot c ≠ some p.val then .next (s.reply 0x11)
  else if msg.length ≠ 16 then .next (s.reply 0x12)
  else .next ((s.postMessage c s.actTick msg).reply 0)
/-- MSG_ENTER_INBOX: the first message of a core that is due enters its inbox of 64, or is dropped (03, R118). -/
def execMsgEnterInbox (c : Fin 128) (s : State) : Out :=
  let k := s.core c
  match k.posted.find? fun m => decide (m.due ≤ s.tick) with
  | none => .next s
  | some m =>
    let k1 := { k with posted := k.posted.erase m }
    if k.inbox.length < 64 then .next (s.setCore c { k1 with inbox := k1.inbox ++ [m.bytes] })
    else
      let s1 := (s.setCore c k1).bump (Reg.msgDropped c)
      match s.corePlot c with
      | some p => .next ((s1.notifyPlot p 2 (Reg.msgDropped c)).plotFault p 8)
      | none => .next s1

end Sys2Proof.Machine
end

