-- ==== Sys2Proof/Machine/Signals.lean ====
section
/-!
DEFINITION. Signal blocks: rates (01, R16; 02, R60), sources, routes and crossfades (02, R61 to R66), what a sink
receives in a compute tick.
-/
namespace Sys2Proof.Machine

/-- Rate family of the chip, from FAM_SEL (01, R14). -/
def State.family (s : State) : Nat := s.nat Reg.tickFamily
/-- Rate multiple of a rate in Hz; 0 for a rate that is none (02, R60). -/
def State.multOf (s : State) (hz : Nat) : Nat :=
  let b := Config.baseRate s.family
  if hz = b then 1 else if hz = 2 * b then 2 else if hz = 4 * b then 4 else 0
/-- Rate multiple of a rate in a domain; 0 for a rate outside it (R60; 12, R350, R351; 13, R370). -/
def State.streamMult (s : State) (rate domain : Nat) : Nat :=
  if domain = 0 then s.multOf rate
  else if domain = 1 then
    let b := s.nat Reg.sBase
    if rate = b then 1 else if rate = 2 * b then 2 else if rate = 4 * b then 4 else 0
  else if rate < 32000 ∨ rate > 192000 then 0 else if rate ≤ 48000 then 1 else if rate ≤ 96000 then 2 else 4
/-- The rate of a port in Hz; with SAP_RATE 0 the class measured (13, R370, R381). -/
def State.sapHz (s : State) (n : Nat) : Nat :=
  if s.nat (Reg.sapRate n) = 0 then s.nat (Reg.sapRateClass n) else s.nat (Reg.sapRate n)
/-- Rate multiple of a plot (01, R16). -/
def State.plotMult (s : State) (p : Nat) : Nat := match s.last p with | some l => l.mult | none => 1
/-- Rate multiple of a plot in the tick that opens, where its committed last takes effect at this boundary (01, R45). -/
def State.dueMult (s : State) (p : Nat) : Nat :=
  match (s.plot p).shadow with
  | some l => if s.nat (Reg.lastState p) = 4 ∧ s.nat (Reg.lastSwapTick p) = s.tick then l.mult else s.plotMult p
  | none => s.plotMult p
/-- The receive stream that carries a class 2 channel (12, R350). -/
def State.rxOf (s : State) (i : Nat) : Option Nat :=
  (List.range 1024).find? fun t =>
    s.holder 18 noUnit t != none && decide (s.nat (Reg.rxChBase t) ≤ i) &&
      decide (i < s.nat (Reg.rxChBase t) + s.nat (Reg.rxChannels t)) && decide (s.holder 18 noUnit t = s.holder 20 2 i)
/-- The transmit stream that carries a class 3 channel. -/
def State.txOf (s : State) (i : Nat) : Option Nat :=
  (List.range 1024).find? fun t =>
    s.holder 19 noUnit t != none && decide (s.nat (Reg.txChBase t) ≤ i) &&
      decide (i < s.nat (Reg.txChBase t) + s.nat (Reg.txChannels t)) && decide (s.holder 19 noUnit t = s.holder 20 3 i)
/-- Domain of a port's slot or of a stream's channel: 0 H, 1 S, 2 F (02, R62 condition 3). -/
def State.unitDomain (s : State) (x : SigId) : Nat :=
  match sigClass x with
  | 0 => s.nat (Reg.sapDomain (s.sapIn (sigIdx x / 32)))
  | 1 => s.nat (Reg.sapDomain (s.sapOut (sigIdx x / 32)))
  | 2 => match s.rxOf (sigIdx x) with | some t => s.nat (Reg.rxDomain t) | none => 0
  | 3 => match s.txOf (sigIdx x) with | some t => s.nat (Reg.txDomain t) | none => 0
  | _ => 0
/-- Rate in Hz of the port or stream that carries a signal. -/
def State.farHz (s : State) (x : SigId) : Nat :=
  match sigClass x with
  | 0 => s.sapHz (s.sapIn (sigIdx x / 32))
  | 1 => s.sapHz (s.sapOut (sigIdx x / 32))
  | 2 => match s.rxOf (sigIdx x) with | some t => s.nat (Reg.rxRate t) | none => 0
  | 3 => match s.txOf (sigIdx x) with | some t => s.nat (Reg.txRate t) | none => 0
  | _ => 0
/-- Rate multiple of the port or stream that carries a signal, in its domain. -/
def State.farMult (s : State) (x : SigId) : Nat := max 1 (s.streamMult (s.farHz x) (s.unitDomain x))
/-- Does a sink take samples of S or F: an output there, or a channel into H (R84). -/
def State.freeSink (s : State) (x : SigId) : Bool :=
  sigClass x == 12 || ((sigClass x == 1 || sigClass x == 3) && s.unitDomain x != 0)
/-- The first sink that a bridge channel out of H feeds under its plot's routes in effect. -/
def State.bridgeSink (s : State) (x : SigId) : Option SigId :=
  ((s.sigOwner x).bind fun p => (s.plot p).routes.find? fun r => decide (r.source = x) && !r.none).map (·.sink)
/-- Domain of an identifier (02, Table 2.1). `src` takes the output side of a class 12 or 13 channel: a channel out of H has
the domain of the sink it feeds, S while it feeds none (log entry 191). -/
def State.domainOf (s : State) (x : SigId) (src : Bool) : Nat :=
  if sigClass x = 13 then
    (if src then (match s.bridgeSink x with | some y => s.unitDomain y | none => 1) else 0)
  else s.unitDomain x
/-- Rate multiple after a stage (05, Table 5.1): half-band, polyphase and CIC stages change it. -/
def Stage.multAfter (st : Stage) (m : Nat) : Nat :=
  if st.ty = 4 then m / 2 else if st.ty = 5 then m * 2
  else if st.ty = 6 then m / max st.p2 1 else if st.ty = 7 then m * st.p2
  else if st.ty = 8 then m / max (st.p2 % 16) 1 else if st.ty = 9 then m * (st.p2 % 16) else m
/-- Rate multiple of the output of a chain (05, R142). -/
def FcuGroup.outMult (g : FcuGroup) : Nat := g.stages.foldl (fun m st => st.multAfter m) g.inMult
/-- Rate multiple of an identifier in the last of a plot: as a source, or as a sink (02, R60; 05, R142; 06, R180). -/
def State.sigMult (s : State) (l : Last) (x : SigId) (src : Bool) : Nat :=
  let dflt (m : Nat) := if m = 0 then l.mult else m
  let i := sigIdx x
  match sigClass x with
  | 0 => s.multOf (s.nat (Reg.sapRate (s.sapIn (i / 32))))
  | 1 => s.multOf (s.nat (Reg.sapRate (s.sapOut (i / 32))))
  | 2 => match s.rxOf i with | some t => s.multOf (s.nat (Reg.rxRate t)) | none => 0
  | 3 => match s.txOf i with | some t => s.multOf (s.nat (Reg.txRate t)) | none => 0
  | 5 => match l.areIns.find? fun r => decide (r.input = i) with | some r => dflt r.rmult | none => l.mult
  | 6 => match l.areOuts.find? fun r => decide (r.output = i) with | some r => dflt r.rmult | none => l.mult
  | 7 => match l.io.find? fun r => decide (r.sig = x) with | some r => dflt r.rmult | none => l.mult
  | 8 => match l.io.find? fun r => decide (r.sig = x) with | some r => dflt r.rmult | none => l.mult
  | 11 => match l.groupOf (i / 128) (i % 128) with
    | some g => if src then g.outMult else g.inMult
    | none => l.mult
  | _ => l.mult
/-- Rate multiple at which a handoff is produced (07, R211). -/
def State.handoffMult (s : State) (x : SigId) : Option Nat :=
  match s.sigOwner x with
  | some p => match s.last p with
    | some l => if (s.plot p).routes.any fun r => decide (r.sink = x) && !r.none then some l.mult else none
    | none => none
  | none => none

/-- A block of n samples; what is missing is zero. -/
def padTo (n : Nat) (b : List Sample) : List Sample := (List.range n).map fun i => b.getD i 0
/-- The block of a source in this compute tick; a deferred read takes the previous one (02, R64). A handoff is
delivered with its tick's ingest (01, R22, R31). -/
def State.source (s : State) (x : SigId) (deferred : Bool) : List Sample :=
  if deferred && sigClass x != 15 then NTable.get [] s.prev x else NTable.get [] s.src x
/-- Put a source block. -/
def State.setSource (s : State) (x : SigId) (b : List Sample) : State := { s with src := NTable.put [] s.src x b }

/-- Weights of sample i of a crossfade of L samples, in and out (02, R65; R545). -/
def fadeWeights (power : Bool) (i l : Nat) : Int × Int :=
  if power then (sinQ30 (i + 1) l, cosQ30 (i + 1) l) else (weight (i + 1) l, weight (l - (i + 1)) l)
/-- One sample of a crossfade: the exact sum, rounded by a shift of 30 and saturated (R65). -/
def fadeSample (w : Int × Int) (old new : Sample) : Sample := sat 32 (roundShift (w.2 * old + w.1 * new) 30)
/-- A block of a crossfade from position `pos`. -/
def fadeBlock (power : Bool) (pos l : Nat) (old new : List Sample) : List Sample :=
  new.mapIdx fun i x => if pos + i ≥ l then x else fadeSample (fadeWeights power (pos + i) l) (old.getD i 0) x
/-- A block of a ramp up from position `pos` over l samples (R546). -/
def rampFrom (pos l : Nat) (b : List Sample) : List Sample :=
  b.mapIdx fun i x => if pos + i ≥ l then x else applyWeight (weight (pos + i + 1) l) x

/-- A sink. -/
def State.sinkSt (s : State) (x : SigId) : SinkSt := NTable.get {} s.sinks x
/-- Write a sink. -/
def State.setSink (s : State) (x : SigId) (k : SinkSt) : State := { s with sinks := NTable.put {} s.sinks x k }
/-- The route of a sink in effect (02, R61). -/
def State.routeOf (s : State) (p : Nat) (x : SigId) : Option Route :=
  (s.plot p).routes.find? fun r => decide (r.sink = x)
/-- Samples per block of a sink: 6 times its rate multiple, in S or F of its port or stream, of a channel into H of its source
(R65). -/
def State.sinkLen (s : State) (p : Nat) (x : SigId) : Nat :=
  if sigClass x = 12 then
    (match s.routeOf p x with | some r => 6 * s.farMult r.source | none => 6)
  else if s.freeSink x then 6 * s.farMult x
  else match s.last p with
    | some l => 6 * s.sigMult l x false
    | none => 6
/-- The last that takes effect at the next boundary (01, R50). -/
def State.swapNext (s : State) (p : Nat) : Option Last :=
  if s.nat (Reg.lastState p) = 4 ∧ s.nat (Reg.lastSwapTick p) = s.tick + 1 then (s.plot p).shadow else none
/-- Does a sink ramp down in this compute tick because of the swap that follows (R71). -/
def State.rampsAway (s : State) (p : Nat) (x : SigId) : Bool :=
  match s.last p, s.swapNext p with
  | some old, some new =>
    rampsOut old new ((s.routeOf p x).bind fun r => if r.none then none else some r.source) x
  | _, _ => false
/-- What a sink receives: k samples from sample i of the n of its tick on, of its route's source, crossfaded and ramped as its
state says; zero with no route (02, R61, R65). `get` brings k samples of a source. -/
def State.sinkTake (s : State) (p : Nat) (x : SigId) (i n k : Nat) (get : SigId → Bool → List Sample) : List Sample :=
  let new := match s.routeOf p x with
    | some r => if r.none then padTo k [] else padTo k (get r.source r.deferred)
    | none => padTo k []
  let st := s.sinkSt x
  let o := st.took.getD 0
  let faded := match st.fade with
    | some f => fadeBlock f.power (f.pos + o) f.len
        (match f.old with | some y => padTo k (get y f.oldDeferred) | none => padTo k []) new
    | none => new
  let up := match st.up with
    | some (pos, l) => rampFrom (pos + o) l faded
    | none => faded
  if s.rampsAway p x then rampTail i n up else up
/-- What a sink receives in this compute tick (02, R61, R65). -/
def State.sinkBlock (s : State) (p : Nat) (x : SigId) : List Sample :=
  let n := s.sinkLen p x
  s.sinkTake p x 0 n n s.source
/-- A sink's crossfade and ramp move on by a block, or by the samples that a sink in S or F took (R65, R66); an ended one
goes. -/
def SinkSt.advance (k : SinkSt) : SinkSt :=
  let m := k.took.getD k.n
  { k with
    took := none
    fade := k.fade.bind fun f => if f.pos + m ≥ f.len then none else some { f with pos := f.pos + m }
    up := k.up.bind fun u => if u.1 + m ≥ u.2 then none else some (u.1 + m, u.2) }
/-- Every sink moves on at a boundary. -/
def State.advanceSinks (s : State) : State :=
  { s with sinks := s.sinks.foldl (fun t (e : Nat × SinkSt) =>
      let k := e.2.advance
      NTable.put {} t e.1 (if k.fade.isNone && k.up.isNone then {} else k)) [] }
/-- A sink's source changes: a crossfade over the route's XFADE, or a cut with XFADE 0 (02, R65). A crossfade or a ramp that
still runs on the sink goes, and the new one starts from the old route's plain source (log entry 188, DESIGN CHOICE). -/
def State.startFade (s : State) (p : Nat) (old : Option Route) (r : Route) : State :=
  let n := s.sinkLen p r.sink
  let l := r.xfade * n
  if l = 0 then s.setSink r.sink { s.sinkSt r.sink with fade := none }
  else s.setSink r.sink { s.sinkSt r.sink with
    n := n
    fade := some {
      old := old.bind fun o => if o.none then none else some o.source
      oldDeferred := match old with | some o => o.deferred | none => false
      pos := 0, len := l, power := r.power } }
/-- A sink ramps up over its route's XFADE (01, R47; 02, R71). -/
def State.startUp (s : State) (p : Nat) (r : Route) : State :=
  let n := s.sinkLen p r.sink
  s.setSink r.sink { n := n, fade := none, up := if r.xfade = 0 then none else some (0, r.xfade * n) }

end Sys2Proof.Machine
end

