-- ==== Sys2Proof/Machine/Are.lean ====
section
/-!
DEFINITION. The array renderer: convolution, coefficient writes, swaps, errors and scrub (06_array_renderer, R168 to
R196).
-/
namespace Sys2Proof.Machine

/-- A crosspoint. -/
def State.areXp (s : State) (x : Nat) : AreXpSt := NTable.get {} s.areXps x
/-- Change a crosspoint. -/
def State.modXp (s : State) (x : Nat) (f : AreXpSt → AreXpSt) : State :=
  { s with areXps := NTable.mod {} s.areXps x f }
/-- Offset of a crosspoint's region in a bank. -/
def AreXp.off (r : AreXp) (bank : Nat) : Option Nat := if bank = 0 then r.off0 else r.off1
/-- Exponent of a crosspoint's region in a bank. -/
def AreXpSt.exp (x : AreXpSt) (bank : Nat) : Nat := if bank = 0 then x.exp0 else x.exp1
/-- The input record of a crosspoint. -/
def Last.areInput (l : Last) (i : Nat) : Option AreIn := l.areIns.find? fun r => decide (r.input = i)

/-- Write an input's block of this tick into its history, once in the tick (R180). -/
def State.writeHistory (s : State) (p : Nat) (r : AreIn) : State :=
  if (s.plot p).histDone.contains r.input then s
  else
    let b := s.sinkBlock p (sigOf 5 r.input)
    let s0 := 6 * r.rmult * (s.tick - 1)
    let write := fun (t : NTable Int) (e : Int × Nat) => NTable.put 0 t (r.hbase + e.2 % max r.hlen 1) e.1
    let s1 : State := { s with hist := (b.zipIdx s0).foldl write s.hist }
    (s1.touch (0x4300000000 + 4 * (r.hbase + s0 % max r.hlen 1)) (4 * b.length)).modPlot p fun x =>
      { x with histDone := r.input :: x.histDone }
/-- The exact sum of a region over the history, for sample j of the block (R169). -/
def State.convSum (s : State) (r : AreIn) (bank off taps j : Nat) : Int :=
  let now := 6 * r.rmult * (s.tick - 1) + j
  (List.range taps).foldl (fun acc t =>
    if t > now then acc
    else acc + NTable.get 0 s.areCoef (bank * 16777216 + off + t) *
      NTable.get 0 s.hist (r.hbase + (now - t) % max r.hlen 1)) 0
/-- Conversion of a sum to Q24.48 by the region's exponent (R170). -/
def areConvert (trunc : Bool) (e : Nat) (sum : Int) : Int :=
  if e < 38 then shiftBy trunc sum (38 - e) else sum * 2 ^ (e - 38)
/-- One pass of a crosspoint over a bank's region: its value for each sample of the block. -/
def State.arePass (s : State) (r : AreXp) (i : AreIn) (x : AreXpSt) (bank : Nat) : List Int :=
  match r.off bank with
  | none => List.replicate (6 * i.rmult) 0
  | some off => (List.range (6 * i.rmult)).map fun j =>
      areConvert r.trunc (x.exp bank) (s.convSum i bank off r.taps j)
/-- The value of a crosspoint in this block: its active region, or the fade of both (R169, R170, R189); zero in a
block with an error, ramped up in the block after (R193). -/
def State.areValue (s : State) (k : Nat) (i : AreIn) : List Int :=
  let x := s.areXp k
  match x.rec_ with
  | none => List.replicate (6 * i.rmult) 0
  | some r =>
    let n := 6 * i.rmult
    if x.error then List.replicate n 0
    else
      let v := match x.fadePos with
        | none => s.arePass r i x x.bank
        | some blocks =>
          let a := s.arePass r i x x.bank
          let b := s.arePass r i x (1 - x.bank)
          let l := r.xfTicks * n
          b.mapIdx fun j wb =>
            if blocks * n + j ≥ l then wb
            else
              let w := fadeWeights r.power (blocks * n + j) l
              sat 72 (roundShift (w.2 * a.getD j 0 + w.1 * wb) 30)
      if x.rampUp then v.mapIdx fun j y => roundShift (weight (j + 1) n * y) 30 else v
/-- An output's block and its saturated samples (R171). -/
def State.areBlock (s : State) (l : Last) (o : AreOut) : List Sample × Nat :=
  let xs := l.areXps.filter fun r => decide (r.output = o.output)
  let n := 6 * o.rmult
  let sums := xs.foldl (fun (acc : List Int) r =>
    match l.areInput r.input with
    | some i => let v := s.areValue r.xp i; acc.mapIdx fun j a => a + v.getD j 0
    | none => acc) (List.replicate n 0)
  let ys := sums.map fun a => shiftBy o.trunc a (17 + o.oshift)
  (ys.map (sat 32), (ys.filter (overflows 32)).length)
/-- Compute an output of a plot's last: its inputs' blocks enter the history, the sum becomes the class 6 source. -/
def State.runAreOut (s : State) (p : Nat) (l : Last) (o : AreOut) : State :=
  let ins := l.areIns.filter fun i => l.areXps.any fun r => decide (r.output = o.output) && decide (r.input = i.input)
  let s1 := overL ins (fun s i => s.writeHistory p i) s
  let b := s1.areBlock l o
  (s1.setSource (sigOf 6 o.output) b.1).bumpBy (Reg.areOutSat o.output) b.2

/-- The active record of a crosspoint of a plot. -/
def State.ownXp (s : State) (p k : Nat) : Option AreXp :=
  let x := s.areXp k
  if x.plot = p then x.rec_ else none
/-- A swap set. -/
def State.areSet (s : State) (p set : Nat) : SetSt := NTable.get {} s.areSets (p * 8 + set)
/-- Write a swap set. -/
def State.putSet (s : State) (p set : Nat) (v : SetSt) : State :=
  { s with areSets := NTable.put {} s.areSets (p * 8 + set) v }
/-- Crosspoints of a plot in a set: number and record. -/
def State.xpsOf (s : State) (p set : Nat) : List AreXp :=
  match s.last p with
  | some l => l.areXps.filter fun r => decide (r.set = set)
  | none => []
/-- The bound of R172 at an output with the exponents given: Σ TAPS 2^Emax below 2^55. -/
def State.boundOk (s : State) (p output : Nat) : Bool :=
  match s.last p with
  | none => true
  | some l => decide (((l.areXps.filter fun r => decide (r.output = output)).foldl (fun (a : Nat) r =>
      let x := s.areXp r.xp
      a + r.taps * 2 ^ (max (if r.off0.isSome then x.exp0 else 0) (if r.off1.isSome then x.exp1 else 0))) 0) < 2 ^ 55)
/-- Set the exponent of a bank's region. -/
def AreXpSt.setExp (x : AreXpSt) (bank e : Nat) : AreXpSt := if bank = 0 then { x with exp0 := e } else { x with exp1 := e }
/-- Set a plot's ARE swap status. -/
def State.areStatus (s : State) (p code : Nat) : State := s.setReg (Reg.areSwapStatus p) code
/-- Queue coefficients for a region (R185). -/
def State.queueCoefs (s : State) (p bank off set : Nat) (load : Bool) (cs : List Int) : State :=
  let ws := (cs.zipIdx off).map fun e =>
    ({ bank := bank, addr := e.2, value := wrapS 24 e.1, set := set, tick := s.tick, load := load } : CoefWrite)
  s.modPlot p fun x => { x with areFifo := x.areFifo ++ ws }

/-- ARE_COEF_WRITE: coefficients for the inactive region of the selected crosspoint (R184, R185). -/
def execAreCoefWrite (p : Fin 16) (xp : Fin 32768) (offset : Nat) (coefs : List Int) (s : State) : Out :=
  match s.ownXp p xp with
  | none => .next (s.reply 0x11)
  | some r =>
    let x := s.areXp xp
    if coefs = [] ∨ coefs.length > 65536 then .next (s.reply 0x12)
    else match r.off (1 - x.bank) with
      | none => .next ((s.areStatus p 0x12).reply 0)
      | some off =>
        if offset + coefs.length > r.taps then .next ((s.areStatus p 0x12).reply 0)
        else if (s.areSet p r.set).state ≠ 0 then .next ((s.areStatus p 0x10).reply 0)
        else .next ((s.queueCoefs p (1 - x.bank) (off + offset) r.set false coefs).reply 0)
/-- ARE_COEF_EXP: the exponent of the inactive region (R168, R172, R184). -/
def execAreCoefExp (p : Fin 16) (xp : Fin 32768) (e : Nat) (s : State) : Out :=
  match s.ownXp p xp with
  | none => .next (s.reply 0x11)
  | some r =>
    let x := s.areXp xp
    if e > 54 then .next (s.reply 0x13)
    else if (r.off (1 - x.bank)).isNone then .next ((s.areStatus p 0x12).reply 0)
    else if (s.areSet p r.set).state ≠ 0 then .next ((s.areStatus p 0x10).reply 0)
    else
      let s1 := s.modXp xp fun x => x.setExp (1 - x.bank) e
      if s1.boundOk p r.output then .next (s1.reply 0) else .next ((s.areStatus p 0x12).reply 0)
/-- ARE_COEF_STORE_WRITE: the plot's share of a tick, at most 4,096 coefficients accepted in earlier ticks, in order;
an image load is done with its last (R185, R186). -/
def execAreCoefStoreWrite (p : Fin 16) (s : State) : Out :=
  let x := s.plot p
  if x.areWrote then .next s
  else
    let ready := (x.areFifo.takeWhile fun w => decide (w.tick < s.tick)).take 4096
    let rest := x.areFifo.drop ready.length
    let s1 := { s with areCoef := ready.foldl (fun t (w : CoefWrite) => NTable.put 0 t (w.bank * 16777216 + w.addr) w.value) s.areCoef }
    let done := x.loading && !(rest.any (·.load))
    let s2 := s1.modPlot p fun x => { x with areFifo := rest, areWrote := true, loading := x.loading && !done }
    .next (s2.when done fun s => s.setReg (Reg.areImgStatus p) 4)

/-- A record of a coefficient image (R186). -/
structure ImgRec where
  xp : Nat
  tap : Nat
  exp : Nat
  coefs : List Int
  deriving DecidableEq, Repr
/-- Bytes padded to a multiple of 8. -/
def pad8 (n : Nat) : Nat := (n + 7) / 8 * 8
/-- Coefficients of 3 bytes (R183). -/
def coefList (b : List Byte) (off n : Nat) : List Int := (List.range n).map fun i => leAtS b (off + 3 * i) 3
/-- Records of a coefficient image; none where it is malformed. -/
def parseImage : Nat → List Byte → Option (List ImgRec)
  | 0, _ => none
  | k + 1, b =>
    if b = [] then some [] else
    let n := leAt b 8 4
    let size := 16 + pad8 (3 * n)
    if b.length < size ∨ n = 0 ∨ leAt b 2 2 ≠ 0 ∨ leAt b 13 3 ≠ 0 ∨ !zeros (slice b (16 + 3 * n) (pad8 (3 * n) - 3 * n)) then none
    else (parseImage k (b.drop size)).map fun t => ⟨leAt b 0 2, leAt b 4 4, leAt b 12 1, coefList b 16 n⟩ :: t
/-- Exponents of an image's records set in turn, or none where a record breaks R172 or R184. -/
def State.loadExps (s : State) (p : Nat) : List ImgRec → Option State
  | [] => some s
  | r :: t =>
    match s.ownXp p r.xp with
    | none => none
    | some x =>
      let st := s.areXp r.xp
      if (x.off (1 - st.bank)).isNone ∨ r.tap + r.coefs.length > x.taps ∨ (r.exp ≠ 0xFF ∧ r.exp > 54) then none
      else
        let s1 := if r.exp = 0xFF then s else s.modXp r.xp fun y => y.setExp (1 - y.bank) r.exp
        if s1.boundOk p x.output then State.loadExps s1 p t else none
/-- ARE_IMG_STORE: stages a coefficient image (R186). -/
def execAreImgStore (p : Fin 16) (image : List Byte) (s : State) : Out :=
  .next ((s.modPlot p fun x => { x with areImage := some image }).reply 0)
/-- ARE_IMG_LOAD: checks the staged image whole and queues it behind the writes accepted before (R186). -/
def execAreImgLoad (p : Fin 16) (s : State) : Out :=
  let status (c : Nat) : Out := .next ((s.setReg (Reg.areImgStatus p) c).reply 0)
  match (s.plot p).areImage.bind fun b => parseImage (b.length + 1) b with
  | none => status 0x14
  | some recs =>
    match s.loadExps p recs with
    | none => status 0x12
    | some s1 =>
      if recs.any fun r => match s.ownXp p r.xp with | some x => (s.areSet p x.set).state != 0 | none => false then status 0x10
      else
        let s2 := overL recs (fun s r =>
          match s.ownXp p r.xp with
          | some x => match x.off (1 - (s.areXp r.xp).bank) with
            | some off => s.queueCoefs p (1 - (s.areXp r.xp).bank) (off + r.tap) x.set true r.coefs
            | none => s
          | none => s) s1
        .next (((s2.modPlot p fun x => { x with loading := true }).setReg (Reg.areImgStatus p)
          (if recs = [] then 4 else 3)).reply 0)

/-- Tick in which the last outstanding write to a set of the mask completes, if there is one (R185, R187). -/
def State.lastCoefTick (s : State) (p mask : Nat) : Option Nat :=
  let x := s.plot p
  let idx := (x.areFifo.zipIdx).foldl (fun (m : Option Nat) e => if bit mask e.1.set then some e.2 else m) none
  let now := if x.areWrote then 0 else min 4096 (x.areFifo.takeWhile fun w => decide (w.tick < s.tick)).length
  idx.map fun i => if i < now then s.tick else s.tick + 1 + (i - now) / 4096
/-- ARE_SWAP_AT: the named sets change over at block b; 0 names the earliest (R187). -/
def execAreSwapAt (p : Fin 16) (b : Nat) (s : State) : Out :=
  let mask := s.nat (Reg.areSwapSets p) % 256
  let sets := (List.range 8).filter fun i => bit mask i
  let first := s.actTick - 1
  let least := match s.lastCoefTick p mask with | some t => max first (t + 1) | none => first
  let blk := if b = 0 then least else b
  if mask = 0 ∨ sets.any (fun i => (s.xpsOf p i).any fun r => (r.off (1 - (s.areXp r.xp).bank)).isNone) then
    .next ((s.areStatus p 0x12).reply 0)
  else if sets.any (fun i => (s.areSet p i).state != 0) then .next ((s.areStatus p 0x10).reply 0)
  else if blk < least then .next ((s.areStatus p 0x11).reply 0)
  else if blk > s.tick + 16777216 then .next ((s.areStatus p 0x12).reply 0)
  else .next (((overL sets (fun s i => s.putSet p i ⟨1, blk⟩) s).areStatus p 1).reply 0)
/-- A set whose crosspoints are all done is RUNNING again, and its block is recorded (R190). -/
def State.setDone (s : State) (p set : Nat) : State :=
  if (s.areSet p set).state = 2 ∧ (s.xpsOf p set).all (fun r => (s.areXp r.xp).fadePos.isNone) then
    ((s.putSet p set {}).setReg (Reg.areSwapDoneTick p) (s.areSet p set).block).areStatus p
      (if (List.range 8).any fun i => i != set && decide ((s.areSet p i).state = 2) then 2
       else if (List.range 8).any fun i => i != set && decide ((s.areSet p i).state = 1) then 1 else 0)
  else s
/-- ARE_SWAP_BEGIN: at sample 0 of its block a set's crosspoints swap hard or begin their fade; a block that a jump
skipped begins at the first block after it (R188, R189, R191). -/
def execAreSwapBegin (p : Fin 16) (set : Fin 8) (s : State) : Out :=
  let k := s.areSet p set
  if k.state ≠ 1 ∨ k.block + 1 > s.tick then .next s
  else
    let s1 := overL (s.xpsOf p set) (fun s r => s.modXp r.xp fun x =>
      if r.xf then { x with fadePos := some 0 } else { x with bank := 1 - x.bank }) s
    .next (((s1.putSet p set { k with state := 2 }).areStatus p 2).setDone p set)
/-- ARE_FADE_END: after its last fade block a crosspoint's new region is the active one (R190). -/
def execAreFadeEnd (xp : Fin 32768) (s : State) : Out :=
  let x := s.areXp xp
  match x.rec_, x.fadePos with
  | some r, some n =>
    if n < r.xfTicks then .next s
    else .next ((s.modXp xp fun x => { x with fadePos := none, bank := 1 - x.bank }).setDone x.plot r.set)
  | _, _ => .next s

/-- An error at a crosspoint: zero for this block or for the next, counted (R193, R195). -/
def State.xpError (s : State) (k : Nat) (next : Bool) : State :=
  (s.modXp k fun x => if next then { x with errorNext := true } else { x with error := true, rampUp := false }).bump
    (Reg.areXpUecc k)
/-- The outputs of a crosspoint that this tick has computed already are formed again without it. -/
def State.reformOut (s : State) (k : Nat) : State :=
  let x := s.areXp k
  match x.rec_, s.last x.plot with
  | some r, some l => match l.areOuts.find? fun o => decide (o.output = r.output) with
    | some o => if NTable.get [] s.src (sigOf 6 o.output) = [] then s
        else s.setSource (sigOf 6 o.output) (s.areBlock l o).1
    | none => s
  | _, _ => s
/-- ARE_UECC: an uncorrectable coefficient read, or a residue failure on a tile; the line is rewritten from the
reference copy, which equals it (R193, R195; 08, R236). -/
def execAreUecc (xp : Fin 32768) (residue : Option (Fin 16)) (s : State) : Out :=
  let x := s.areXp xp
  match x.rec_ with
  | none => .next s
  | some _ =>
    let s1 := (((s.xpError xp false).reformOut xp).logEvent 0x0404 2 x.plot xp (if residue.isSome then 2 else 0)).plotFault
      x.plot 3
    let s2 := match residue with | some t => s1.bump (Reg.areTileResidue t) | none => s1
    .next (s2.evidence x.plot)
/-- Does a crosspoint read a word of its input's history in the next tick: among the samples before its newest block that
its taps reach (R169, R196). Position q holds the latest sample that lies there. -/
def State.readsHistory (s : State) (i : AreIn) (r : AreXp) (addr : Nat) : Bool :=
  let next := 6 * i.rmult * s.tick
  let age := (next + i.hlen - 1 - (addr - i.hbase) % max i.hlen 1) % max i.hlen 1
  decide (age + 2 ≤ r.taps)
/-- An uncorrectable history word of an input: the crosspoints concerned, the counters, the entry (R194, R195). In a read
every crosspoint of the input is concerned, for this block; a word that scrub finds concerns those that read it, in the next
(R196). -/
def State.historyError (s : State) (p : Nat) (l : Last) (i : AreIn) (w : Nat) (next : Bool) : State :=
  let hit := l.areXps.filter fun r => decide (r.input = i.input) &&
    (!next || [2 * w, 2 * w + 1].any fun a => decide (i.hbase ≤ a) && decide (a < i.hbase + i.hlen) && s.readsHistory i r a)
  let s1 := overL hit (fun s r =>
    let s' := s.xpError r.xp next
    if next then s' else s'.reformOut r.xp) s
  (((s1.bump (Reg.areInUecc i.input)).logEvent 0x0404 2 p (i.input + 0x8000) 1).plotFault p 4).evidence p
/-- The input of an active last whose history holds a sample. -/
def State.inputAt (s : State) (addr : Nat) : Option (Nat × Last × AreIn) :=
  (List.range 16).findSome? fun p =>
    match s.last p with
    | some l => (l.areIns.find? fun i => decide (i.hbase ≤ addr) && decide (addr < i.hbase + i.hlen)).map fun i => (p, l, i)
    | none => none
/-- A history word of two samples fails: it is zero, and the input of each sample has its error (R192, R194). -/
def State.historyWord (s : State) (w : Nat) (next : Bool) : State :=
  let s1 := { s with hist := NTable.put 0 (NTable.put 0 s.hist (2 * w) 0) (2 * w + 1) 0 }
  let a := s.inputAt (2 * w)
  let b := s.inputAt (2 * w + 1)
  let s2 := match a with | some (p, l, i) => s1.historyError p l i w next | none => s1
  match b with
  | some (p, l, i) => if a.map (·.2.2.input) = some i.input then s2 else s2.historyError p l i w next
  | none => s2
/-- ARE_HISTORY_UECC: an uncorrectable error in a history read (R194, R195). -/
def execAreHistoryUecc (addr : Fin 4194304) (s : State) : Out :=
  match s.inputAt addr with
  | some _ => .next (s.historyWord (addr / 2) false)
  | none => .next s
/-- Does a crosspoint read a bank in the next tick: its active region, both of a fade, and the other one from the block on
that its set's request names (R188 to R190). -/
def State.readsBank (s : State) (r : AreXp) (bank : Nat) : Bool :=
  let x := s.areXp r.xp
  let k := s.areSet x.plot r.set
  x.bank == bank || x.fadePos.isSome || (k.state == 1 && decide (k.block ≤ s.tick))
/-- An uncorrectable coefficient line that scrub finds: one event, and R193 in the next tick for each crosspoint that reads
it; the line is rewritten from the reference copy, which equals it (R195, R196). -/
def State.lineError (s : State) (bank line : Nat) : State :=
  let hit (l : Last) : List AreXp := l.areXps.filter fun r =>
    s.readsBank r bank && match r.off bank with
      | some o => decide (o < line * 8 + 8) && decide (line * 8 < o + r.taps)
      | none => false
  let plots := (List.range 16).filter fun p => match s.last p with | some l => hit l != [] | none => false
  match plots with
  | [] => s
  | p0 :: _ =>
    let first := match s.last p0 with | some l => ((hit l).head?.map (·.xp)).getD 0 | none => 0
    overL plots (fun s p =>
      let s1 := match s.last p with | some l => overL (hit l) (fun s r => s.xpError r.xp true) s | none => s
      (s1.plotFault p 3).evidence p) (s.logEvent 0x0404 2 p0 first 0)
/-- ARE_SCRUB: 1,024 lines of each bank and 2,048 history words in address order; of these the uncorrectable ones act on
their crosspoints in the tick that follows (R192, R196). -/
def execAreScrub (corrected : Nat) (coef : List (Fin 2 × Nat)) (hist : List Nat) (s : State) : Out :=
  let s0 := ({ s with areLine := (s.areLine + 1024) % 2097152, histWord := (s.histWord + 2048) % 2097152 }).bumpBy
    Reg.areCecc corrected
  let s1 := overL (coef.filter fun e => decide (s.areLine ≤ e.2) && decide (e.2 < s.areLine + 1024)) (fun s e =>
    s.lineError e.1 e.2) s0
  .next (overL (hist.filter fun w => decide (s.histWord ≤ w) && decide (w < s.histWord + 2048)) (fun s w =>
    s.historyWord w true) s1)

end Sys2Proof.Machine
end

