-- ==== Sys2Proof/Machine/FcuEngine.lean ====
section
/-!
DEFINITION. The filter chain units: stage arithmetic and the computing of a group's block (05_filter_chain_units,
R140 to R155, R163, R164).
-/
namespace Sys2Proof.Machine

/-- State words of a stage per lane (05, Table 5.1). -/
def Stage.stateWords (st : Stage) : Nat :=
  match st.ty with
  | 1 => if st.ef then 5 else 4
  | 2 => st.p1 | 3 => st.p1 | 4 => st.p1 | 5 => (st.p1 + 1) / 2 | 6 => st.p1 | 7 => st.p1 / max st.p2 1
  | 8 => 3 * st.p1 * (1 + st.p2 / 16) | 9 => 3 * st.p1 * (1 + st.p2 / 16)
  | 10 => st.p1 | 11 => 2 | 12 => 3 | 13 => 1 | _ => 0
/-- Coefficient words of a stage per lane (Table 5.1). -/
def Stage.coefWords (st : Stage) : Nat :=
  match st.ty with
  | 1 => 5 | 2 => st.p1 | 3 => (st.p1 + 1) / 2
  | 4 => if st.p2 = 0 then (st.p1 + 1) / 4 + 1 else 0
  | 5 => if st.p2 = 0 then (st.p1 + 1) / 4 + 1 else 0
  | 6 => st.p1 | 7 => st.p1 | 11 => 2 | 12 => 1 | 13 => 2 | 14 => 1 | _ => 0
/-- Pipeline latency P of a stage (Table 5.1). -/
def Stage.latency (st : Stage) : Nat :=
  match st.ty with
  | 1 => 7 | 2 => 8 | 3 => 9 | 4 => 9 | 5 => 9 | 6 => 9 | 7 => 9 | 8 => 6 | 9 => 6 | 10 => 6 | 11 => 5 | 12 => 11
  | 13 => 6 | _ => 5
/-- Higher rate multiple of a stage that starts at m. -/
def Stage.highMult (st : Stage) (m : Nat) : Nat := max m (st.multAfter m)
/-- Σ n_s over the chain, n_s = 6 m_s (R142). -/
def stageSamples : Nat → List Stage → Nat
  | _, [] => 0
  | m, st :: t => 6 * st.highMult m + stageSamples (st.multAfter m) t
/-- Slots of a group per tick, C = 8 (1 + XF) Σ n_s (R143). -/
def FcuGroup.slots (g : FcuGroup) : Nat := 8 * (if g.xf then 2 else 1) * stageSamples g.inMult g.stages

/-- Conversion of R148: right shift by BASE + SHIFT, a negative total shift being a left shift, rounded or truncated,
saturated to 32 bits; and whether it saturated. -/
def Stage.convert (st : Stage) (base : Int) (acc : Int) : Int × Bool :=
  let n := base + st.shift
  let x := if n < 0 then acc * 2 ^ n.natAbs else shiftBy st.trunc acc n.toNat
  (sat 32 x, overflows 32 x)
/-- A state value of a detector, held unsigned from 0 to 2^31, or to 2^62 for the mean square in Q2.62 (R154; log entry 201,
DEDUCED: an update that leaves the range is held at its end). -/
def held (n : Nat) (x : Int) : Int := max 0 (min (2 ^ n) x)
/-- A product with a Q2.30 coefficient converted with shift 30 (R154). -/
def Stage.mul30 (st : Stage) (c x : Int) : Int := shiftBy st.trunc (c * x) 30
/-- Sum of coefficient times element over a list. -/
def dot (c : Nat → Int) (x : List Int) : Int := sumI (x.mapIdx fun i v => c i * v)
/-- Push into a history of n words, newest first. -/
def pushHist (n : Nat) (x : Int) (h : List Int) : List Int := (x :: h).take n

/-- Full impulse response of a half-band stage: odd distances from the centre, then the centre (R151). -/
def halfBandTap (t : Nat) (c : Nat → Int) (i : Nat) : Int :=
  let mid := (t - 1) / 2
  let d := if i ≥ mid then i - mid else mid - i
  if d = 0 then c ((t + 1) / 4) else if d % 2 = 1 then c ((d - 1) / 2) else 0
/-- Coefficient source of a half-band stage: its bank words, or a ROM design, which in the interpolating form includes the
gain of 2 (R156). -/
def Stage.halfBandCoef (st : Stage) (c : Nat → Int) : Nat → Int :=
  let gain : Int := if st.ty = 5 then 2 else 1
  if st.p2 = 1 then fun i => gain * romL63.getD i 0 else if st.p2 = 2 then fun i => gain * romS23.getD i 0 else c

/-- Insert into a rising list. -/
def insertInt (x : Int) : List Int → List Int
  | [] => [x]
  | y :: t => if x ≤ y then x :: y :: t else y :: insertInt x t
/-- Sort. -/
def sortInts (l : List Int) : List Int := l.foldr insertInt []

/-- A chain of integrators over an input, wrapping in 72 bits; and their new values (R152). -/
def integrate : List Int → Int → List Int × Int
  | [], x => ([], x)
  | i :: t, x =>
    let v := wrapS 72 (i + x)
    let r := integrate t v
    (v :: r.1, r.2)
/-- A chain of combs of differential delay M, each holding its last M inputs, newest first. -/
def comb : List (List Int) → Int → List (List Int) × Int
  | [], x => ([], x)
  | d :: t, x =>
    let r := comb t (wrapS 72 (x - d.getLastD 0))
    ((pushHist d.length x d) :: r.1, r.2)
/-- Words of a CIC state: N integrators, then N combs of M words, three words apart. -/
def cicState (n m : Nat) (st : List Int) : List Int × List (List Int) :=
  let v := (List.range (n * (1 + m))).map fun i => st.getD (3 * i) 0
  (v.take n, (List.range n).map fun j => (v.drop (n + j * m)).take m)
/-- Write a CIC state back into words. -/
def cicWords (i : List Int) (c : List (List Int)) : List Int := (i ++ c.flatten).flatMap fun v => [v, 0, 0]

/-- What one stage-sample gives: outputs, saturated outputs, new state. -/
structure StageOut where
  out : List Int
  sats : Nat
  st : List Int
/-- One output of a stage. -/
def Stage.emit (st : Stage) (base acc : Int) (state : List Int) : StageOut :=
  let r := st.convert base acc
  ⟨[r.1], if r.2 then 1 else 0, state⟩

/-- One input sample of a lane through a stage. `i` is its index in the block; `c` gives the coefficient word for the
stage-sample `k` of the block at the stage's higher rate (R163). -/
def Stage.step (st : Stage) (c : Nat → Nat → Int) (i : Nat) (s : List Int) (x : Int) : StageOut :=
  match st.ty with
  | 1 =>
    let co := c i
    let e := if st.ef then s.getD 4 0 else 0
    let acc := co 0 * x + co 1 * s.getD 0 0 + co 2 * s.getD 1 0 - co 3 * s.getD 2 0 - co 4 * s.getD 3 0 + e
    let y := shiftBy st.trunc acc 30
    let ys := sat 32 y
    let e1 := if overflows 32 y then 0 else acc - ys * 2 ^ 30
    st.emit 30 acc ([x, s.getD 0 0, ys, s.getD 2 0] ++ (if st.ef then [e1] else []))
  | 2 => let h := pushHist st.p1 x s; st.emit 30 (dot (c i) h) h
  | 3 =>
    let t := st.p1
    let h := pushHist t x s
    let pairs := sumI ((List.range (t / 2)).map fun k => c i k * (h.getD k 0 + h.getD (t - 1 - k) 0))
    st.emit 30 (pairs + if t % 2 = 1 then c i (t / 2) * h.getD ((t - 1) / 2) 0 else 0) h
  | 4 =>
    let h := pushHist st.p1 x s
    if i % 2 = 0 then st.emit 30 (dot (halfBandTap st.p1 (st.halfBandCoef (c i))) h) h else ⟨[], 0, h⟩
  | 5 =>
    let h := pushHist ((st.p1 + 1) / 2) x s
    let one (r : Nat) := st.convert 30 (sumI (h.mapIdx fun q v =>
      if r + 2 * q < st.p1 then halfBandTap st.p1 (st.halfBandCoef (c (2 * i + r))) (r + 2 * q) * v else 0))
    ⟨[(one 0).1, (one 1).1], ([one 0, one 1].filter (·.2)).length, h⟩
  | 6 =>
    let h := pushHist st.p1 x s
    if i % max st.p2 1 = 0 then st.emit 30 (dot (c i) h) h else ⟨[], 0, h⟩
  | 7 =>
    let l := max st.p2 1
    let h := pushHist (st.p1 / l) x s
    let ys := (List.range l).map fun r => st.convert 30 (sumI (h.mapIdx fun q v => c (l * i + r) (r + l * q) * v))
    ⟨ys.map (·.1), (ys.filter (·.2)).length, h⟩
  | 8 =>
    let n := st.p1; let m := st.p2 / 16
    let w := cicState n m s
    let a := integrate w.1 x
    if i % max (st.p2 % 16) 1 = 0 then
      let b := comb w.2 a.2
      st.emit 0 b.2 (cicWords a.1 b.1)
    else ⟨[], 0, cicWords a.1 w.2⟩
  | 9 =>
    let n := st.p1; let m := st.p2 / 16
    let w := cicState n m s
    let b := comb w.2 x
    let r := (List.range (st.p2 % 16)).foldl (fun (e : List Int × List (Int × Bool)) k =>
      let a := integrate e.1 (if k = 0 then b.2 else 0)
      (a.1, e.2 ++ [st.convert 0 a.2])) (w.1, [])
    ⟨r.2.map (·.1), (r.2.filter (·.2)).length, cicWords r.1 b.1⟩
  | 10 => let h := pushHist st.p1 x s; st.emit 0 ((sortInts h).getD st.p2 0) h
  | 11 =>
    let p := s.getD 0 0; let h := s.getD 1 0
    let ax : Int := x.natAbs
    let n := if ax ≥ p then [ax, c i 1 % 4294967296] else if h > 0 then [p, h - 1] else [held 31 (st.mul30 (c i 0) p), h]
    st.emit 0 (min (n.getD 0 0) 2147483647) n
  | 12 =>
    let ms := held 62 (s.getD 0 0 + st.mul30 (c i 0) (x * x - s.getD 0 0))
    st.emit 0 (min (isqrtRound ms.toNat : Int) 2147483647) [ms, 0, 0]
  | 13 =>
    let e := s.getD 0 0
    let ax : Int := x.natAbs
    let n := held 31 (e + st.mul30 (c i (if ax > e then 0 else 1)) (ax - e))
    st.emit 0 (min n 2147483647) [n]
  | _ => st.emit 30 (c i 0 * x) s

/-- A block of a lane through a stage. -/
def Stage.block (st : Stage) (c : Nat → Nat → Int) (x : List Int) (s : List Int) : StageOut :=
  (x.foldl (fun (e : Nat × StageOut) v =>
    let r := st.step c e.1 e.2.st v
    (e.1 + 1, ⟨e.2.out ++ r.out, e.2.sats + r.sats, r.st⟩)) (0, ⟨[], 0, s⟩)).2

/-- A group's key. -/
def grpKey (u g : Nat) : Nat := u * 16 + g
/-- A group. -/
def State.grp (s : State) (k : Nat) : GrpSt := NTable.get {} s.groups k
/-- Write a group. -/
def State.setGrp (s : State) (k : Nat) (g : GrpSt) : State := { s with groups := NTable.put {} s.groups k g }
/-- A coefficient word of an FCU bank. -/
def State.fcuWord (s : State) (u bank w : Nat) : Int := NTable.get 0 s.fcuCoef (u * 32768 + bank * 16384 + w)
/-- Write coefficient words. -/
def State.putFcuWords (s : State) (u bank w : Nat) (l : List Int) : State :=
  let t := (l.zipIdx w).foldl (fun (t : NTable Int) (e : Int × Nat) => NTable.put 0 t (u * 32768 + bank * 16384 + e.2) e.1)
    s.fcuCoef
  { s with fcuCoef := t }.touch (0x4400000000 + u * 0x40000 + bank * 0x10000 + 4 * w) (4 * l.length)
/-- State words of an FCU. -/
def State.fcuWords (s : State) (u w n : Nat) : List Int :=
  (List.range n).map fun i => NTable.get 0 s.fcuState (u * 16384 + w + i)
/-- Write state words. -/
def State.putState (s : State) (u w : Nat) (l : List Int) : State :=
  let t := (l.zipIdx w).foldl (fun (t : NTable Int) (e : Int × Nat) => NTable.put 0 t (u * 16384 + e.2) e.1) s.fcuState
  { s with fcuState := t }.touch (0x4400000000 + u * 0x40000 + 0x20000 + 4 * w) (4 * l.length)
/-- First state word of a lane in a pass (05, after Table 5.5). -/
def Stage.stateAt (st : Stage) (lane : Nat) (passB : Bool) : Nat :=
  st.state + lane * st.stateWords + if passB then 8 * st.stateWords else 0

/-- One lane's block through a chain in a pass; `bankAt` gives the bank for an instant of the block, in the fraction
of the stage-sample k of n (R163). The saturated outputs are counted. -/
def State.runChain (s : State) (u lane : Nat) (passB : Bool) (bankAt : Nat → Nat → Nat) :
    List Stage → Nat → List Int → Nat → State × List Int × Nat
  | [], _, x, n => (s, x, n)
  | st :: t, m, x, n =>
    let at_ := st.stateAt lane passB
    let ns := 6 * st.highMult m
    let r := st.block (fun k j => s.fcuWord u (bankAt k ns) (st.coef + lane * st.cstride + j)) x
      (s.fcuWords u at_ st.stateWords)
    State.runChain (s.putState u at_ r.st) u lane passB bankAt t (st.multAfter m) r.out (n + r.sats)

/-- One output sample of a group's fade: (1 - g) yA + g yB, exact, rounded by a shift of 30 (R164). -/
def groupFade (pos l i0 : Nat) (a b : List Int) : List Int :=
  b.mapIdx fun i y =>
    if i < i0 then a.getD i 0
    else if pos + (i - i0) ≥ l then y
    else
      let g := weight (pos + (i - i0) + 1) l
      sat 32 (roundShift ((q30 - g) * a.getD i 0 + g * y) 30)

/-- Zero a group's state, of both passes where it has two (R160, R166). -/
def State.zeroGroupState (s : State) (g : FcuGroup) : State :=
  overL g.stages (fun s st =>
    s.putState g.fcu st.state (List.replicate ((if g.xf then 16 else 8) * st.stateWords) 0)) s

/-- Where a group's swap and fade stand after a block: a hard swap is complete, a fade has advanced by the block's samples
from its first one (R163, R164). -/
def State.advanceSwap (s : State) (k : Nat) (g : GrpSt) (r : FcuGroup) (i0 : Nat) : State :=
  let swapNow := g.switchAt.isSome
  let fadeOn := r.xf && (g.fading || swapNow)
  let nOut := 6 * r.outMult
  let pos := g.pos + (nOut - i0)
  if swapNow && !r.xf then
    (s.setGrp k { g with switchAt := none, bank := 1 - g.bank }).setRegs
      [(Reg.grpBank k, (1 - g.bank : Nat)), (Reg.grpState k, 1), (Reg.swapStatus k, 0), (Reg.swapDoneSample k, g.named)]
  else s.setGrp k { g with
    switchAt := none, fading := fadeOn, pos := if fadeOn then pos else 0
    fadeDone := fadeOn && decide (pos ≥ r.xfTicks * nOut) }
/-- A group computes its block: with XF both passes run, a swap acts from its named instant, a fade mixes the passes; an
error zeroes the outputs and the state and leaves the swap and the fade on their way, and the block after an error ramps up
(R143, R163 to R166). -/
def State.runGroup (s : State) (k : Nat) : State :=
  let g := s.grp k
  match g.rec_ with
  | none => s
  | some r =>
    if g.ran then s else
    let u := r.fcu
    let out (s : State) (i : Nat) (b : List Int) : State :=
      s.setSource (sigOf 11 (u * 128 + r.group * 8 + i)) b
    let nOut := 6 * r.outMult
    let swapNow := g.switchAt.isSome
    let j := g.switchAt.getD 0
    let i0 := if swapNow then (j * r.outMult + r.inMult - 1) / max r.inMult 1 else 0
    if g.error then
      (overN 8 (fun s i => if bit r.lanes i then out s i (List.replicate nOut 0) else s) (s.zeroGroupState r)).advanceSwap k
        { g with ran := true, error := false, rampUp := true } r i0
    else
      let newAt (i n : Nat) : Bool := swapNow && decide (i * (6 * r.inMult) ≥ j * n)
      let bankA (i n : Nat) : Nat := if !r.xf && newAt i n then 1 - g.bank else g.bank
      let bankB (i n : Nat) : Nat := if g.fading || newAt i n then 1 - g.bank else g.bank
      let fadeOn := r.xf && (g.fading || swapNow)
      let s1 := overN 8 (fun s i =>
        let x := s.sinkBlock g.plot (sigOf 11 (u * 128 + r.group * 8 + i))
        let a := s.runChain u i false bankA r.stages r.inMult x 0
        let b := if r.xf then a.1.runChain u i true bankB r.stages r.inMult x 0 else a
        let y := if fadeOn then groupFade g.pos (r.xfTicks * nOut) i0 a.2.1 b.2.1 else a.2.1
        let z := if g.rampUp then rampUp y else y
        let s2 := b.1.bumpBy (Reg.grpSat k) (a.2.2 + if r.xf then b.2.2 else 0)
        if bit r.lanes i then out s2 i z else s2) s
      s1.advanceSwap k { g with ran := true, rampUp := false } r i0

end Sys2Proof.Machine
end

