-- ==== Sys2Proof/Machine/MixEngine.lean ====
section
/-!
DEFINITION. The mix engine, generators and silence detection (02, R73 to R83; 15, R436).
-/
namespace Sys2Proof.Machine

/-- 0 dB in Q5.27 (02, R73). -/
def unity : Int := 134217728
/-- Gain at sample i of a ramp (R75): linear in amplitude, or in dB where the ends do not differ in sign. The values
of a dB ramp are free within the spec's bound (log entry 5); its last sample is the target. -/
def Ramp.at_ (r : Ramp) (i : Nat) : Int :=
  let k := r.pos + i
  if k + 1 ≥ r.len then r.to_
  else if r.amp ∨ r.from_ * r.to_ < 0 then r.from_ + divRound ((r.to_ - r.from_) * (k + 1)) r.len
  else if r.from_ = r.to_ then r.to_
  else dbRampAt r.from_ r.to_ k r.len
/-- Gains of a block of n samples. -/
def Ramp.block (r : Ramp) (n : Nat) : List Int := (List.range n).map r.at_
/-- The ramp after a block of n samples. -/
def Ramp.step (r : Ramp) (n : Nat) : Ramp :=
  if n = 0 then r else
  { r with now := r.at_ (n - 1), pos := if r.pos + n ≥ r.len then r.len else r.pos + n }
/-- A new target: a new ramp from the current value over the full length (R76). -/
def Ramp.start (r : Ramp) (target : Int) (len : Nat) (amp : Bool) : Ramp :=
  { now := r.now, from_ := r.now, to_ := target, pos := 0, len := len, amp := amp }
/-- A gain at rest. -/
def Ramp.rest (g : Int) : Ramp := { now := g, from_ := g, to_ := g, pos := 0, len := 0, amp := false }

/-- A bus. -/
def State.bus (s : State) (b : Nat) : BusSt := NTable.get {} s.buses b
/-- Write a bus. -/
def State.setBus (s : State) (b : Nat) (v : BusSt) : State := { s with buses := NTable.put {} s.buses b v }
/-- A mix crosspoint. -/
def State.xp (s : State) (x : Nat) : XpSt := NTable.get {} s.xps x
/-- Write a mix crosspoint. -/
def State.setXp (s : State) (x : Nat) (v : XpSt) : State := { s with xps := NTable.put {} s.xps x v }
/-- Does a detector of the plot say that a signal is SILENT (R79, R82). -/
def State.silent (s : State) (p : Nat) (x : SigId) : Bool :=
  (List.range 512).any fun i =>
    s.reg (Reg.silSignal (512 * p + i)) == (x : Int) && s.reg (Reg.silState (512 * p + i)) == 1
/-- N of a bus: its crosspoints that are not muted, have a gain, and whose source is not silent (R79). -/
def State.busCount (s : State) (p : Nat) (xs : List XpRec) : Nat :=
  (xs.filter fun r => s.reg (Reg.xpMute r.xp) == 0 && s.reg (Reg.xpGain r.xp) != 0 && !s.silent p r.source).length
/-- Auto-scale target of a law: N^(-1/2) or 1/N, nearest Q5.27 (R79; log entry 9). -/
def autoTarget (law n : Nat) : Int :=
  if law = 0 ∨ n ≤ 1 then unity
  else if law = 2 then divRound unity n
  else
    let r := Nat.sqrt (2 ^ 54 / n)
    if n * (2 * r + 1) ^ 2 ≤ 4 * 2 ^ 54 then (r + 1 : Nat) else (r : Nat)

/-- One bus sample: products, sum, combined gain and conversion, in the order of R74; and whether it saturated. -/
def busSample (trunc : Bool) (shift : Nat) (gb a : Int) (terms : List (Int × Int)) : Int × Bool :=
  let acc := sumI (terms.map fun t => shiftBy trunc (t.1 * t.2) 10)
  let c := sat 32 (shiftBy trunc (gb * a) 27)
  let y := shiftBy trunc (acc * c) (44 + shift)
  (sat 32 y, overflows 32 y)
/-- A bus computes its block (R74, R79, R80). -/
def State.runBus (s : State) (p : Nat) (l : Last) (r : BusRec) : State :=
  let n := 6 * l.mult
  let xs := l.xps.filter fun x => decide (x.bus = r.bus)
  let k := s.bus r.bus
  let law := s.nat (Reg.busAuto r.bus)
  let cnt := s.busCount p xs
  let target := autoTarget law cnt
  let len := s.nat (Reg.busRamp r.bus) * n
  let scale := if k.scale.to_ = target then k.scale else k.scale.start target len false
  let gains := k.gain.block n
  let scales := scale.block n
  let terms := xs.map fun x => (padTo n (s.source x.source x.deferred), (s.xp x.xp).gain.block n)
  let ys := (List.range n).map fun i =>
    busSample r.trunc r.shift (gains.getD i 0) (scales.getD i 0) (terms.map fun t => (t.1.getD i 0, t.2.getD i 0))
  let y := ys.map (·.1)
  let out := if k.error then silence y else if k.rampUp then rampUp y else y
  let s1 := overL xs (fun s x => s.setXp x.xp { s.xp x.xp with gain := (s.xp x.xp).gain.step n }) s
  let scale1 := scale.step n
  let s2 := s1.setBus r.bus { k with gain := k.gain.step n, scale := scale1, error := false, rampUp := k.error }
  ((s2.setSource (sigOf 4 r.bus) out).setRegs [(Reg.busN r.bus, if law = 0 then 0 else (cnt : Int)),
    (Reg.busScale r.bus, scale1.now)]).bumpBy (Reg.busClip r.bus) (ys.filter (·.2)).length

/-- The gain a crosspoint or a bus heads for: 0 while muted (R76). -/
def heads (mute : Bool) (g : Int) : Int := if mute then 0 else g
/-- A crosspoint heads for its target over its RAMP (R75 to R77). -/
def State.rampXp (s : State) (x : Nat) : State :=
  let k := s.xp x
  match k.rec_ with
  | none => s
  | some _ =>
    let g := k.gain.start (heads (s.reg (Reg.xpMute x) == 1) (s.reg (Reg.xpGain x)))
      (s.nat (Reg.xpRamp x) * 6 * s.plotMult k.plot) (s.reg (Reg.xpLaw x) == 1)
    s.setXp x { k with gain := g }
/-- A bus heads for its target over its RAMP. -/
def State.rampBus (s : State) (b : Nat) : State :=
  let k := s.bus b
  match k.rec_ with
  | none => s
  | some r =>
    let g := k.gain.start (heads (s.reg (Reg.busMute b) == 1) (s.reg (Reg.busGain b)))
      (s.nat (Reg.busRamp b) * 6 * s.plotMult k.plot) r.ampLaw
    s.setBus b { k with gain := g }

/-- A generator. -/
def State.gen (s : State) (g : Nat) : GenSt := NTable.get {} s.gens g
/-- Write a generator. -/
def State.setGen (s : State) (g : Nat) (v : GenSt) : State := { s with gens := NTable.put {} s.gens g v }
/-- One step of the 32-bit Galois LFSR with mask 0x8020_0003 (R83). -/
def lfsrStep (x : Nat) : Nat := if x % 2 = 1 then (x / 2) ^^^ 0x80200003 else x / 2
/-- A noise sample: A times the state as I32 over 2^31, to the nearest word (R83; log entry 10). -/
def noiseSample (level : Int) (x : Nat) : Sample := sat 32 (roundShift (pow10Fix level 2000 * wrapS 32 x) 160)
/-- n samples of a generator at a sampling rate, and the generator after them (R83). Sine samples are free within the
spec's bound (log entry 5). -/
def GenSt.samples (fs : Nat) : Nat → GenSt → List Sample × GenSt
  | 0, k => ([], k)
  | n + 1, k =>
    let y := if k.ty = 1 then sineSample k.phase k.level else if k.ty = 2 then noiseSample k.level k.lfsr else 0
    let k1 := if k.ty = 1 then { k with phase := ((k.phase + divRound (k.freq * 4294967296) (1000 * fs)) % 4294967296).toNat }
      else if k.ty = 2 then { k with lfsr := lfsrStep k.lfsr } else k
    let r := GenSt.samples fs n k1
    (y :: r.1, r.2)
/-- A held generator makes its block of the compute tick from the accumulators at the tick's first sample. -/
def State.makeGen (s : State) (g : Nat) : State :=
  match s.holder 23 noUnit g with
  | none => s
  | some p =>
    let k := s.gen g
    let m := s.plotMult p
    let r := GenSt.samples (m * Config.baseRate s.family) (6 * m) { k with phase := k.phase0, lfsr := k.lfsr0 }
    (s.setSource (sigOf 14 g) (if k.ty = 0 then [] else r.1)).setGen g r.2
/-- Every generator makes its block of a compute tick that opens. -/
def State.runGens (s : State) : State :=
  overL (s.gens.filter fun (e : Nat × GenSt) => e.2.ty != 0 && decide (e.1 < 256)) (fun s (e : Nat × GenSt) =>
    (s.setGen e.1 { e.2 with phase0 := e.2.phase, lfsr0 := e.2.lfsr }).makeGen e.1) s
/-- The generators of a plot make their blocks of the tick again at the rate of a last that has taken effect at its
boundary (01, R45; R60). -/
def State.remakeGens (s : State) (p : Nat) : State :=
  overL (s.gens.filter fun (e : Nat × GenSt) => e.2.ty != 0 && s.holder 23 noUnit e.1 == some p) (fun s (e : Nat × GenSt) => s.makeGen e.1) s
/-- A generator takes the parameters of its registers for the block of the tick that opens; at enable the phase is 0 and the
LFSR holds SEED (R83). -/
def State.applyGen (s : State) (g : Nat) : State :=
  let k := s.gen g
  let ty := s.nat (Reg.genType g)
  let seed := s.nat (Reg.genSeed g)
  let k0 := if k.ty = 0 then { k with phase0 := k.phase, lfsr0 := k.lfsr } else k
  let k1 := { k0 with ty := ty, freq := s.reg (Reg.genFreq g), level := s.reg (Reg.genLevel g) }
  (s.setGen g (if ty ≠ k.ty then { k1 with phase0 := 0, lfsr0 := if seed = 0 then 1 else seed } else k1)).makeGen g

/-- Threshold of a detector (R81). -/
def silThreshold (thresh : Int) : Int := min (levelAmp thresh) 2147483647
/-- Detectors that watch a signal: number and identifier, from the registers that are set. -/
def State.detectors (s : State) : List (Nat × SigId) :=
  s.regs.filterMap fun (e : Reg × Int) =>
    if e.1.idx = 0x5200 ∧ e.1.sub = 2 ∧ e.2 < 131072 then some (e.1.unit, e.2.toNat) else none
/-- The samples that a detector or a meter sees of an identifier in the tick that ends: a source's block, or what the
sink receives; of a signal in S or F what it carried in the tick before (R82), of a handoff that the plot produces what it
writes. -/
def State.watched (s : State) (p : Nat) (x : SigId) : List Sample :=
  if (isSource x && !(sigClass x == 15 && s.sigOwner x == some p)) || s.freeSink x then NTable.get [] s.src x
  else s.sinkBlock p x
/-- Every detector takes the block of the tick that ends: quiet blocks count, another clears SILENT (R82). -/
def State.runDetectors (s : State) : State :=
  overL s.detectors (fun s d =>
    let t := silThreshold (s.reg (Reg.silThresh d.1))
    if (s.watched (d.1 / 512) d.2).all fun x => decide ((x.natAbs : Int) < t) then
      { s with sils := NTable.mod {} s.sils d.1 fun k => { k with count := k.count + 1 } }
    else { s with sils := NTable.put {} s.sils d.1 {} }.setReg (Reg.silState d.1) 0) s

end Sys2Proof.Machine
end

