-- ==== Sys2Proof/Machine/Mix.lean ====
section
/-!
DEFINITION. Commands of the mix engine, the silence detectors, the generators and the trackers (02, R76 to R88).
-/
namespace Sys2Proof.Machine

/-- A GAIN fits 32 bits (R73). -/
def gainOk (g : Int) : Bool := decide (-2147483648 ≤ g) && decide (g < 2147483648)

/-- BUS_GAIN: a new target bus gain (R76, R77). -/
def execBusGain (p : Fin 16) (b : Fin 2048) (gain : Int) (s : State) : Out :=
  if !s.holds p 11 noUnit b then .next (s.reply 0x11)
  else if !gainOk gain then .next (s.reply 0x13)
  else .next ((s.dueWrite (Reg.busGain b) gain).reply 0)
/-- BUS_MUTE. -/
def execBusMute (p : Fin 16) (b : Fin 2048) (mute : Bool) (s : State) : Out :=
  if !s.holds p 11 noUnit b then .next (s.reply 0x11)
  else .next ((s.dueWrite (Reg.busMute b) (if mute then 1 else 0)).reply 0)
/-- BUS_AUTO: the law of the blocks computed from its boundary on (R79; 17, R476). -/
def execBusAuto (p : Fin 16) (b : Fin 2048) (law : Nat) (s : State) : Out :=
  if !s.holds p 11 noUnit b then .next (s.reply 0x11)
  else if law > 2 then .next (s.reply 0x13)
  else .next ((s.dueWrite (Reg.busAuto b) law).reply 0)
/-- XP_GAIN: a new target crosspoint gain. -/
def execXpGain (p : Fin 16) (x : Fin 65536) (gain : Int) (s : State) : Out :=
  if !s.holds p 12 noUnit x then .next (s.reply 0x11)
  else if !gainOk gain then .next (s.reply 0x13)
  else .next ((s.dueWrite (Reg.xpGain x) gain).reply 0)
/-- XP_MUTE. -/
def execXpMute (p : Fin 16) (x : Fin 65536) (mute : Bool) (s : State) : Out :=
  if !s.holds p 12 noUnit x then .next (s.reply 0x11)
  else .next ((s.dueWrite (Reg.xpMute x) (if mute then 1 else 0)).reply 0)

/-- Is a register one of those that wait for a boundary: gains, mutes, ramps, laws and generator parameters (R77; 17,
R476). -/
def isMixReg (r : Reg) : Bool :=
  ((r.idx == 0x4001 || r.idx == 0x4002) && (r.sub == 2 || (decide (4 ≤ r.sub) && decide (r.sub ≤ 6)))) ||
    (r.idx == 0x5300 && decide (2 ≤ r.sub) && decide (r.sub ≤ 5))
/-- Does a write leave the gain's ramp as it is: a gain written while muted waits for the mute's clearing, and a mute that
stands already is no new target (R76). -/
def State.keepsRamp (s : State) (r : Reg) (v : Int) : Bool :=
  let mute : Reg := { r with sub := 4 }
  if r.sub = 4 then (s.reg r != 0) == (v != 0) else s.reg mute == 1
/-- Such a write takes effect: the register, and the ramp or the generator it sets going (R76, R77, R83). -/
def State.applyMix (s : State) (r : Reg) (v : Int) : State :=
  let s1 := s.setReg r v
  if r.idx = 0x5300 then s1.applyGen r.unit
  else if r.sub > 4 ∨ s.keepsRamp r v then s1
  else if r.idx = 0x4001 then s1.rampBus r.unit
  else s1.rampXp r.unit
/-- Is a mix register, or one of a filter group or a renderer crosspoint, that of a unit in use under its plot's last (01,
R45). -/
def State.inLast (s : State) (r : Reg) : Bool :=
  match r.idx with
  | 0x4001 => (s.bus r.unit).rec_.isSome
  | 0x4002 => (s.xp r.unit).rec_.isSome
  | 0x4802 => (NTable.get {} s.groups (r.unit % 1024) : GrpSt).rec_.isSome
  | 0x4411 => (NTable.get {} s.areXps (r.unit % 32768) : AreXpSt).rec_.isSome
  | _ => true
/-- The register that an action of access RWT writes: a gain for its *_GAIN_AT object (R77). -/
def Timed.target (x : Timed) : Reg :=
  if (x.reg.idx = 0x4001 ∨ x.reg.idx = 0x4002) ∧ x.reg.sub = 3 then { x.reg with sub := 2 } else x.reg
/-- A write due at this boundary among all of them; of a WRITE_AT whose unit the last no longer holds nothing is written
here (01, R45); a mute and its clearing in one step are a zero window, a clearing of
what is not muted is discarded (20, R526, R527). -/
def State.applyDueMix (s : State) (all : List Due) (d : Due) : State :=
  let mute := (d.reg.idx == 0x4001 || d.reg.idx == 0x4002) && d.reg.sub == 4
  let p : Nat := if d.reg.idx = 0x4001 then (s.bus d.reg.unit).plot else (s.xp d.reg.unit).plot
  if !s.inLast d.reg && s.timed.any (fun x => x.tick == d.tick && x.target == d.reg) then s
  else if !mute then s.applyMix d.reg d.value
  else match stepActs ((all.filter fun e => e.reg == d.reg).map fun e => e.value != 0) with
    | some none => s.discard p d.reg d.tick
    | _ => if d.value = 0 ∧ s.reg d.reg = 0 then s.discard p d.reg d.tick else s.applyMix d.reg d.value
/-- MIX_WRITE_APPLY: the writes due at this boundary take effect in the order of their acceptance (R77). -/
def execMixWriteApply (s : State) : Out :=
  let mine (d : Due) : Bool := isMixReg d.reg && decide (d.tick ≤ s.tick)
  let all := s.due.filter mine
  .next (overL all (fun s d => s.applyDueMix all d) { s with due := s.due.filter fun d => !mine d })

/-- SIL_SIGNAL: a detector of the plot gets its signal and parameters, and restarts with SILENT clear (R82). -/
def execSilSignal (p : Fin 16) (d : Fin 8192) (sig : Nat) (thresh : Int) (hold : Nat) (s : State) : Out :=
  if d.val / 512 ≠ p.val then .next (s.reply 0x11)
  else if thresh < -14400 ∨ thresh > 0 ∨ hold < 1 ∨ hold > 480000 ∨
      sig / 131072 % 16384 ≠ 0 ∨ (sig < 2147483648 ∧ !sigValid sig) then .next (s.reply 0x13)
  else if sig < 2147483648 ∧ s.sigOwner sig ≠ some p.val then .next (s.reply 0x11)
  else .next (({ s with sils := NTable.put {} s.sils d {} }.setRegs [(Reg.silSignal d, (sig : Int)),
    (Reg.silThresh d, thresh), (Reg.silHold d, hold), (Reg.silState d, 0)]).reply 0)
/-- SILENCE_HOLD_EXPIRE: HOLD quiet blocks set SILENT (R82). -/
def execSilenceHoldExpire (d : Fin 8192) (s : State) : Out :=
  if s.reg (Reg.silSignal d) < 131072 ∧ ((NTable.get {} s.sils d : SilSt).count : Int) ≥ s.reg (Reg.silHold d) then
    .next (s.setReg (Reg.silState d) 1)
  else .next s
/-- GEN_TYPE: parameters of a general generator, effective at a boundary (R77, R83). -/
def execGenType (p : Fin 16) (g : Fin 256) (ty freq : Nat) (level : Int) (seed : Nat) (s : State) : Out :=
  let fs := s.plotMult p * Config.baseRate s.family
  if !s.holds p 23 noUnit g then .next (s.reply 0x11)
  else if ty > 2 ∨ freq < 1 ∨ freq > 500 * fs ∨ level < -14400 ∨ level > 0 ∨ seed ≥ 4294967296 then .next (s.reply 0x13)
  else .next (((((s.dueWrite (Reg.genFreq g) freq).dueWrite (Reg.genLevel g) level).dueWrite (Reg.genSeed g) seed).dueWrite
    (Reg.genType g) ty).reply 0)

/-- A tracker. -/
def State.tracker (s : State) (t : Nat) : TrackerSt := NTable.get {} s.trackers t
/-- Write a tracker. -/
def State.setTracker (s : State) (t : Nat) (k : TrackerSt) : State := { s with trackers := NTable.put {} s.trackers t k }
/-- Plot of a tracker (R85). -/
def trackerPlot (t : Nat) : Nat := t % 128 / 8
/-- Entry to LOST (3) or RESYNC (4): counted, logged, notified, the plot's fault; the output ramps to zero over this
tick (R88; 07, R216). -/
def State.trackerLoss (s : State) (t state : Nat) : State :=
  let p := trackerPlot t
  (((((s.setTracker t { s.tracker t with down := true, rampPos := 0 }).setReg (Reg.trkState t) state).bump
    (Reg.trkEvents t)).logEvent 0x0306 1 p t state).notifyPlot p 3 (Reg.trkState t)).plotFault p 7
/-- A tracker enters LOCKED: its channels ramp up over 40 ticks. -/
def State.trackerLocked (s : State) (t : Nat) (rate : Nat) (ppb : Int) : State :=
  (s.setTracker t { s.tracker t with rampPos := 0, down := false, heldPpb := ppb }).setRegs
    [(Reg.trkState t, 2), (Reg.trkRate t, rate), (Reg.trkPpb t, ppb)]
/-- TRACKER_LOCK: the ratio error stayed below 1 ppm for 8 rounds; ACQUIRE goes to LOCKED (Table 2.7). -/
def execTrackerLock (t : Fin 256) (rate : Nat) (ppb : Int) (s : State) : Out :=
  if s.reg (Reg.trkState t) = 1 then .next (s.trackerLocked t rate ppb) else .next s
/-- TRACKER_LOST: no input for 1 tick past its arrival; the ratio is held. -/
def execTrackerLost (t : Fin 256) (s : State) : Out :=
  if s.reg (Reg.trkState t) = 2 then .next (s.trackerLoss t 3) else .next s
/-- TRACKER_INPUT_RETURN: within 100 ppm of the held ratio a LOST tracker goes to LOCKED, else to ACQUIRE. -/
def execTrackerInputReturn (t : Fin 256) (rate : Nat) (ppb : Int) (s : State) : Out :=
  if s.reg (Reg.trkState t) ≠ 3 then .next s
  else if (ppb - (s.tracker t).heldPpb).natAbs ≤ 100000 then .next (s.trackerLocked t rate ppb)
  else .next ((s.setReg (Reg.trkState t) 1).setRegs [(Reg.trkRate t, rate), (Reg.trkPpb t, ppb)])
/-- TRACKER_RESYNC: ratio beyond 2,000 ppm of the locked ratio, or buffer deviation above 4 output samples. -/
def execTrackerResync (t : Fin 256) (s : State) : Out :=
  if s.reg (Reg.trkState t) = 2 then .next (s.trackerLoss t 4) else .next s
/-- TRACKER_RECENTRED: the buffer is re-centred; RESYNC goes to ACQUIRE. -/
def execTrackerRecentred (t : Fin 256) (s : State) : Out :=
  if s.reg (Reg.trkState t) = 4 then .next (s.setReg (Reg.trkState t) 1) else .next s
/-- What a tracker lets through of converted samples, from sample i of the n of a tick on: nothing unless LOCKED, the ramp up of 40 ticks, the ramp down of
its last tick (R88). -/
def State.trackerGate (s : State) (t i n : Nat) (b : List Sample) : List Sample :=
  let k := s.tracker t
  if k.down then rampTail i n b
  else if s.reg (Reg.trkState t) ≠ 2 then silence b
  else if k.rampPos < 40 then rampFrom (k.rampPos * n + i) (40 * n) b else b
/-- Trackers at a boundary: ramps move on; a tracker for S locks at the first tick after its assignment (R88). -/
def State.stepTrackers (s : State) : State :=
  overL s.trackers (fun s (e : Nat × TrackerSt) =>
    let k := e.2
    let st := s.reg (Reg.trkState e.1)
    let s1 := s.setTracker e.1 { k with
      down := false, rampPos := if st = 2 ∧ k.rampPos < 40 then k.rampPos + 1 else k.rampPos }
    if k.clock = 1 ∧ st = 1 then s1.trackerLocked e.1 (s.nat (Reg.trkRate e.1)) 0 else s1) s

end Sys2Proof.Machine
end

