-- ==== Sys2Proof/Machine/Plane.lean ====
section
/-!
DEFINITION. The order of work inside a tick: mix buses, FCU groups and ARE outputs give their blocks at the ends of
their windows (01, R24; 02, R72; 05, R144; 06, R177).
-/
namespace Sys2Proof.Machine

/-- A unit of work that the engine runs by itself in a tick. -/
inductive Work where
  | bus (p : Nat) (r : BusRec)
  | group (k : Nat)
  | output (p : Nat) (o : AreOut)
  deriving DecidableEq, Repr

/-- End of an ARE output: the latest END of the windows of its crosspoints (06, R177); one with no crosspoint is zero
from the tick's first cycle (R174). -/
def Last.outputEnd (l : Last) (o : AreOut) : Nat :=
  (l.areXps.zipIdx).foldl (fun m (e : AreXp × Nat) =>
    if e.1.output = o.output then
      (l.areWins.filter fun w => decide (w.first ≤ e.2) && decide (e.2 < w.first + w.count)).foldl
        (fun m w => max m w.stop) m
    else m) 1
/-- The work of a plot's active last, each with its end. -/
def Last.work (p : Nat) (l : Last) : List (Nat × Work) :=
  (l.buses.map fun r => (r.stop, Work.bus p r)) ++
    (l.groups.map fun g => (g.stop, Work.group (grpKey g.fcu g.group))) ++
    (l.areOuts.map fun o => (l.outputEnd o, Work.output p o))
/-- All work of a tick, by end. -/
def State.work (s : State) : List (Nat × Work) :=
  sortBy (fun a b => decide (a.1 ≤ b.1))
    ((List.range 16).flatMap fun p => match s.last p with | some l => l.work p | none => [])
/-- A unit of work runs. -/
def State.runWork (s : State) (w : Work) : State :=
  match w with
  | .bus p r => match s.last p with | some l => s.runBus p l r | none => s
  | .group k => s.runGroup k
  | .output p o => match s.last p with | some l => s.runAreOut p l o | none => s
/-- The tick has come to a cycle: work whose window ends by then has run. -/
def State.advanceTo (s : State) (c : Nat) : State :=
  let due := s.work.filter fun e => decide (s.ranTo < e.1) && decide (e.1 ≤ c)
  { overL due (fun s e => s.runWork e.2) s with ranTo := max s.ranTo c, cycle := max s.cycle c }

end Sys2Proof.Machine
end

