-- ==== Sys2Proof/Machine/LastImage.lean ====
section
/-!
DEFINITION. A plot last image: header, directory, sections and records (01, R37 to R39, Tables 1.6 to 1.12, 1.16,
and the tables of the sections' own chapters), and the fields a table marks res or bounds (01, R42; code 0x0A).
-/
namespace Sys2Proof.Machine

/-- A record with its LAST_ERROR_DETAIL (01, R551): directory index in [31:20], record index in [19:0]. -/
structure At (α : Type) where
  detail : Nat
  v : α
  deriving DecidableEq, Repr

/-- A section: directory entry and body (Table 1.7). -/
structure Sect where
  dir : Nat
  ty : Nat
  sver : Nat
  off : Nat
  size : Nat
  crc : Nat
  target : Nat
  res : List Byte
  body : List Byte
  deriving DecidableEq, Repr

/-- Detail of a section's record i. -/
def Sect.rec_ (x : Sect) (i : Nat) : Nat := x.dir * 1048576 + i
/-- Detail of a section's own header (R551). -/
def Sect.head (x : Sect) : Nat := x.rec_ 0xFFFFF
/-- Fixed records of n bytes from an offset; the first has index `i0`. -/
def Sect.fixed (x : Sect) (off n i0 count : Nat) : List (At (List Byte)) :=
  (List.range count).map fun i => { detail := x.rec_ (i0 + i), v := slice x.body (off + i * n) n }
/-- Records whose size stands in their own header, and whether they fill the body exactly. -/
def walk (size : List Byte → Nat) : Nat → List Byte → List (List Byte) × Bool
  | 0, b => ([], b == [])
  | k + 1, b =>
    if b = [] then ([], true)
    else
      let n := size b
      if n = 0 ∨ b.length < n then ([], false)
      else
        let r := walk size k (b.drop n)
        (b.take n :: r.1, r.2)
/-- Size of a variable record by section type; 0 where not even its header is there. -/
def varSize (ty : Nat) (b : List Byte) : Nat :=
  if ty = 2 then (if b.length < 16 then 0 else 16 + 8 * leAt b 2 2)
  else if ty = 3 then
    if b.length < 16 then 0
    else if leAt b 8 1 / 2 % 2 = 1 then 16 else if leAt b 8 1 % 2 = 1 then 24 else 16 + leAt b 4 4
  else if ty = 8 then (if b.length < 8 then 0 else 8 + pad8 (3 * leAt b 4 4))
  else if b.length < 8 then 0 else 8 + pad8 (4 * leAt b 2 2)
/-- Variable records of a section. -/
def Sect.var (x : Sect) : List (At (List Byte)) × Bool :=
  let w := walk (varSize x.ty) (x.body.length / 8 + 1) x.body
  (w.1.mapIdx fun i b => { detail := x.rec_ i, v := b }, w.2)
/-- Is a type cut into variable records: CORE_PM, CORE_DM_INIT, ARE_COEF, FCU_COEF. -/
def isVar (ty : Nat) : Bool := ty == 2 || ty == 3 || ty == 8 || ty == 0xA
/-- Record groups of a section: kind of record (type, or type + 0x100 k for the k-th further kind), its records. -/
def Sect.groups (x : Sect) : List (Nat × List (At (List Byte))) :=
  let b := x.body
  let whole (n : Nat) := [(x.ty, x.fixed 0 n 0 (b.length / n))]
  match x.ty with
  | 1 => whole 16 | 4 => whole 24 | 5 => whole 16 | 0xC => whole 8 | 0xF => whole 16 | 0x10 => whole 8
  | 0x11 => whole 16 | 0x13 => whole 8
  | 6 =>
    let n := leAt b 0 4; let m := leAt b 4 4
    [(6, x.fixed 16 32 0 n), (0x106, x.fixed (16 + 32 * n) 24 n m)]
  | 7 =>
    let w := leAt b 0 2; let i := leAt b 2 2; let o := leAt b 4 2; let k := leAt b 8 4
    [(7, x.fixed 16 16 0 w), (0x107, x.fixed (16 + 16 * w) 16 w i), (0x207, x.fixed (16 + 16 * (w + i)) 8 (w + i) o),
     (0x307, x.fixed (16 + 16 * (w + i) + 8 * o) 32 (w + i + o) k)]
  | 9 =>
    let g := leAt b 0 2; let k := leAt b 4 4
    [(9, x.fixed 16 32 0 g), (0x109, x.fixed (16 + 32 * g) 16 g k)]
  | 0xB => [(0xB, x.fixed 16 48 0 (leAt b 0 2))]
  | 0xD => [(0xD, x.fixed 16 8 0 (leAt b 0 2))]
  | _ => if isVar x.ty then [(x.ty, x.var.1)] else []
/-- Is a body of the length its header counts and record sizes give (01, R42). CORE_PM and CORE_DM_INIT are judged by
R97 and R138. -/
def Sect.lengthOk (x : Sect) : Bool :=
  let b := x.body; let n := x.size
  match x.ty with
  | 1 => n % 16 == 0 | 4 => n % 24 == 0 | 5 => n % 16 == 0 | 0xC => n % 8 == 0 | 0xF => n % 16 == 0
  | 0x10 => n % 8 == 0 | 0x11 => n % 16 == 0 | 0x13 => n % 8 == 0
  | 6 => decide (16 ≤ n) && n == 16 + 32 * leAt b 0 4 + 24 * leAt b 4 4
  | 7 => decide (16 ≤ n) && n == 16 + 16 * (leAt b 0 2 + leAt b 2 2) + 8 * leAt b 4 2 + 32 * leAt b 8 4
  | 9 => decide (16 ≤ n) && n == 16 + 32 * leAt b 0 2 + 16 * leAt b 4 4
  | 0xB => decide (16 ≤ n) && n == 16 + 48 * leAt b 0 2
  | 0xD => decide (16 ≤ n) && n == 16 + 8 * leAt b 0 2
  | 8 => x.var.2 | 0xA => x.var.2
  | _ => true

/-- Bits at and above n of a little-endian field are 0. -/
def below (b : List Byte) (off n lim : Nat) : Bool := decide (leAt b off n < lim)
/-- A field lies in a range. -/
def within (b : List Byte) (off n lo hi : Nat) : Bool := decide (lo ≤ leAt b off n) && decide (leAt b off n ≤ hi)
/-- Bytes of a record are zero. -/
def res0 (b : List Byte) (off n : Nat) : Bool := zeros (slice b off n)
/-- A rate multiple. -/
def isMult (m : Nat) : Bool := m == 1 || m == 2 || m == 4

/-- Is the header of a section's body within its table (Tables 2.4, 5.3, 6.1; 11, R340; 15). -/
def Sect.headOk (x : Sect) : Bool :=
  let b := x.body
  match x.ty with
  | 6 => within b 0 4 0 2048 && within b 4 4 0 65536 && res0 b 8 8
  | 7 => within b 0 2 1 1024 && within b 2 2 1 1024 && within b 4 2 1 1024 && res0 b 6 2 && within b 8 4 1 32768 &&
      res0 b 12 4
  | 9 => within b 0 2 1 16 && res0 b 2 2 && within b 4 4 1 1024 && res0 b 8 8
  | 0xB => within b 0 2 1 4096 && res0 b 2 14
  | 0xD => within b 0 2 1 256 && res0 b 2 14
  | _ => true
/-- Is TARGET in the range of its type (01, R39). -/
def Sect.targetOk (x : Sect) : Bool :=
  if x.ty ≥ 0x8000 then true
  else if x.ty = 2 ∨ x.ty = 3 then decide (x.target < 128)
  else if x.ty = 8 then decide (x.target < 2)
  else if x.ty = 9 ∨ x.ty = 0xA then decide (x.target < 64)
  else if x.ty = 0xD then decide (x.target < 24)
  else x.target == 0xFFFFFFFF
/-- P1 and P2 of a stage type (05, R146, Table 5.1). -/
def stageOk (ty p1 p2 : Nat) : Bool :=
  match ty with
  | 1 => p1 == 0 && p2 == 0
  | 2 => decide (1 ≤ p1) && decide (p1 ≤ 16) && p2 == 0
  | 3 => decide (2 ≤ p1) && decide (p1 ≤ 31) && p2 == 0
  | 4 => decide (p2 ≤ 2) && p1 % 4 == 3 && decide (7 ≤ p1) && decide (p1 ≤ 63) && (p2 != 1 || p1 == 63) && (p2 != 2 || p1 == 23)
  | 5 => decide (p2 ≤ 2) && p1 % 4 == 3 && decide (7 ≤ p1) && decide (p1 ≤ 63) && (p2 != 1 || p1 == 63) && (p2 != 2 || p1 == 23)
  | 6 => (p2 == 2 || p2 == 4) && p1 % p2 == 0 && decide (p2 ≤ p1) && decide (p1 ≤ 16 * p2)
  | 7 => (p2 == 2 || p2 == 4) && p1 % p2 == 0 && decide (p2 ≤ p1) && decide (p1 ≤ 16 * p2)
  | 8 => decide (1 ≤ p1) && decide (p1 ≤ 5) && (p2 / 16 == 1 || p2 / 16 == 2) && (p2 % 16 == 2 || p2 % 16 == 4)
  | 9 => decide (1 ≤ p1) && decide (p1 ≤ 5) && (p2 / 16 == 1 || p2 / 16 == 2) && (p2 % 16 == 2 || p2 % 16 == 4)
  | 10 => (p1 == 3 || p1 == 5 || p1 == 7 || p1 == 9) && decide (p2 < p1)
  | 11 => p1 == 0 && p2 == 0 | 12 => p1 == 0 && p2 == 0 | 13 => p1 == 0 && p2 == 0 | 14 => p1 == 0 && p2 == 0
  | _ => false
/-- Is a route record within Table 2.2: res bits, SOURCE 0 with NONE, XFADE (02, Table 2.3, FIELD). -/
def routeOk (b : List Byte) : Bool :=
  let src := leAt b 4 4
  below b 0 4 131072 && decide (src % 2147483648 < 131072) && (decide (src < 2147483648) || src == 2147483648) &&
    within b 8 2 0 8000 && below b 10 1 8 && res0 b 11 5
/-- Is a record within its table, by kind of record; `x` gives the counts that bound indices. -/
def Sect.recordOk (x : Sect) (kind : Nat) (b : List Byte) : Bool :=
  match kind with
  | 1 => within b 0 2 1 16 && res0 b 2 6
  | 2 => below b 0 2 8192 && within b 2 2 1 8192 && decide (leAt b 0 2 + leAt b 2 2 ≤ 8192) && res0 b 4 12
  | 3 => leAt b 0 4 % 8 == 0 && leAt b 4 4 % 8 == 0 && decide (8 ≤ leAt b 4 4) && below b 8 1 4 && res0 b 9 7
  | 4 => below b 2 1 128 && below b 3 1 3 && below b 4 2 8192 && below b 6 2 2 && res0 b 20 4
  | 5 => routeOk b
  | 6 => below b 0 2 2048 && below b 2 1 16 && within b 3 1 1 16 && decide (leAt b 2 1 + leAt b 3 1 ≤ 16) &&
      within b 16 4 0 80000 && below b 20 1 16 && below b 21 1 32 && leAt b 21 1 % 4 != 3 && res0 b 22 10
  | 0x106 => below b 4 4 131072 && within b 12 4 0 80000 && below b 16 1 8 && res0 b 17 7 &&
      (x.fixed 16 32 0 (leAt x.body 0 4)).any (fun r => leAt r.v 0 2 == leAt b 2 2)
  | 7 => below b 0 1 16 && res0 b 1 3 && within b 14 2 1 32768 && decide (leAt b 12 2 + leAt b 14 2 ≤ leAt x.body 8 4)
  | 0x107 => below b 0 2 1024 && isMult (leAt b 2 1) && res0 b 3 1 && res0 b 12 4
  | 0x207 => below b 0 2 1024 && isMult (leAt b 2 1) && below b 3 1 2 && below b 4 1 32 && res0 b 5 3
  | 0x307 =>
    let xf := leAt b 6 1 % 2 == 1
    let o0 := leAt b 12 4 != 0xFFFFFFFF
    let o1 := leAt b 16 4 != 0xFFFFFFFF
    below b 0 2 32768 && below b 6 1 16 && below b 7 1 8 && within b 8 4 1 65536 && below b 20 1 55 && below b 21 1 55 &&
      below b 22 1 2 && res0 b 23 1 && (if xf then within b 24 2 1 8000 else leAt b 24 2 == 0) && res0 b 26 6 &&
      (if leAt b 22 1 = 0 then o0 else o1) && (!xf || (o0 && o1)) && (o0 || leAt b 20 1 == 32) && (o1 || leAt b 21 1 == 32)
  | 8 => within b 4 4 1 16777216 && res0 b (8 + 3 * leAt b 4 4) 8
  | 9 => below b 0 1 16 && isMult (leAt b 2 1) && within b 3 1 1 64 && below b 14 1 4 && res0 b 15 1 &&
      (if leAt b 14 1 % 2 = 1 then within b 16 2 1 8000 else leAt b 16 2 == 0) && res0 b 18 14 &&
      decide (leAt b 12 2 + leAt b 3 1 ≤ leAt x.body 4 4)
  | 0x109 => stageOk (leAt b 0 1) (leAt b 1 1) (leAt b 2 1) && below b 3 1 4 && (below b 3 1 2 || leAt b 0 1 == 1) &&
      decide (-16 ≤ leAtS b 4 1) && decide (leAtS b 4 1 ≤ 47) && res0 b 5 1 && below b 6 2 16384 && below b 10 2 16384 &&
      res0 b 12 4
  | 0xA => below b 0 2 16384 && within b 2 2 1 16384 && res0 b 4 4 && res0 b (8 + 4 * leAt b 2 2) 8
  | 0xB =>
    let sig := leAt b 10 1 % 2 == 1
    below b 0 2 256 && below b 2 1 2 && below b 3 1 2 && below b 4 1 128 && below b 5 1 30 && below b 6 2 2880 &&
      within b 8 2 1 2880 && below b 10 1 2 && res0 b 11 1 && leAt b 12 4 % 8 == 0 && below b 16 8 1099511627776 &&
      leAt b 16 8 % 64 == 0 && (!sig || (leAt b 16 8 == 0 && leAt b 5 1 == 22)) && leAt b 24 4 % 8 == 0 &&
      leAt b 28 4 % 8 == 0 && (leAt b 24 4 == 0 || decide (leAt b 32 4 < leAt b 24 4)) && leAt b 36 4 % 8 == 0 &&
      decide (8 ≤ leAt b 36 4) && below b 40 4 131072 && res0 b 46 2
  | 0xC => below b 0 1 23 && res0 b 1 1 && below b 2 2 2880 && within b 4 2 1 2880 &&
      decide (leAt b 2 2 + leAt b 4 2 ≤ 2880) && res0 b 6 2
  | 0xF => below b 0 4 131072 && below b 4 4 131072 && leAt b 8 4 / 8 % 32 == 0 && res0 b 12 4
  | 0x10 => below b 0 4 131072 && below b 4 1 16 && below b 5 1 2 && res0 b 6 2
  | 0x11 => within b 2 1 1 30 && res0 b 3 1 && res0 b 6 2 && decide (1 ≤ leAt b 12 4)
  | 0x13 => below b 2 1 3 && (leAt b 3 1 == 0 || isMult (leAt b 3 1)) && below b 4 4 131072 &&
      (leAt b 3 1 == 0 || leAt b 4 4 / 8192 == 7 || leAt b 4 4 / 8192 == 8)
  | _ => true

/-- An image: its bytes, sections and records with their details. -/
structure Image where
  bytes : List Byte
  sects : List Sect
  coreMask : List Nat
  claims : List (At Claim)
  tasks : List (At Task)
  paths : List (At PathRec)
  io : List (At TaskIo)
  copies : List (At CopyRec)
  routes : List (At Route)
  buses : List (At BusRec)
  xps : List (At XpRec)
  windows : List (At DmaWin)
  slots : List (At SlotRec)
  handoffs : List (At HandoffRec)
  pm : List (At PmRec)
  dm : List (At DmRec)
  gates : List (At GateWin)
  groups : List (At FcuGroup)
  fcuCoefs : List (At FcuCoef)
  areWins : List (At AreWin)
  areIns : List (At AreIn)
  areOuts : List (At AreOut)
  areXps : List (At AreXp)
  areCoefs : List (At AreCoef)
  deriving DecidableEq, Repr

/-- Total length that the header states. -/
def imageSize (b : List Byte) : Nat := leAt b 8 4
/-- Directory entries that lie wholly within the bytes written, with their bodies (Table 1.7). -/
def sections (b : List Byte) : List Sect :=
  let off := leAt b 0x30 4
  let fit := (b.length - off) / 32
  (List.range (min (leAt b 0x34 4) fit)).map fun i =>
    let e := slice b (off + 32 * i) 32
    { dir := i, ty := leAt e 0 2, sver := leAt e 2 1, off := leAt e 4 4, size := leAt e 8 4, crc := leAt e 12 4
      target := leAt e 16 4, res := slice e 3 1 ++ slice e 20 12, body := slice b (leAt e 4 4) (leAt e 8 4) }

/-- A route record (Table 2.2). -/
def readRoute (b : List Byte) : Route :=
  { sink := leAt b 0 4 % 131072, source := leAt b 4 4 % 131072, none := decide (leAt b 4 4 ≥ 2147483648)
    xfade := leAt b 8 2, deferred := bit (leAt b 10 1) 2, power := bit (leAt b 10 1) 1, direct := bit (leAt b 10 1) 0 }
/-- A stage record (Table 5.5). -/
def readStage (b : List Byte) : Stage :=
  { ty := leAt b 0 1, p1 := leAt b 1 1, p2 := leAt b 2 1, trunc := bit (leAt b 3 1) 0, ef := bit (leAt b 3 1) 1
    shift := leAtS b 4 1, coef := leAt b 6 2, cstride := leAt b 8 2, state := leAt b 10 2 }
/-- A region offset, or none. -/
def readOff (b : List Byte) (off : Nat) : Option Nat :=
  if leAt b off 4 = 0xFFFFFFFF then none else some (leAt b off 4)
/-- Words of a coefficient record. -/
def wordList (b : List Byte) (off n : Nat) : List Int := (List.range n).map fun i => leAtS b (off + 4 * i) 4

/-- Records of a kind over all sections, read with their section. -/
def readAll {α : Type} (xs : List Sect) (kind : Nat) (f : Sect → List Byte → α) : List (At α) :=
  xs.flatMap fun x => x.groups.flatMap fun g =>
    if g.1 = kind then g.2.map fun r => { detail := r.detail, v := f x r.v } else []

/-- Read an image. -/
def readImage (b : List Byte) : Image :=
  let xs := sections b
  { bytes := b, sects := xs
    coreMask := (List.range 128).filter fun c => bit (leAt b (0x20 + c / 8) 1) (c % 8)
    claims := readAll xs 1 fun _ r => { code := leAt r 0 2, amount := leAt r 8 8 }
    tasks := readAll xs 4 fun _ r => { id := leAt r 0 2, core := leAt r 2 1, kind := leAt r 3 1, entry := leAt r 4 2
                                       reinit := bit (leAt r 6 2) 0, start := leAt r 8 4, wcet := leAt r 12 4
                                       deadline := leAt r 16 4 }
    paths := readAll xs 0xF fun _ r => { sink := leAt r 0 4, origin := leAt r 4 4, latency := leAt r 8 4 }
    io := readAll xs 0x13 fun _ r => { task := leAt r 0 2, dir := leAt r 2 1, rmult := leAt r 3 1, sig := leAt r 4 4 }
    copies := readAll xs 0x11 fun _ r => { task := leAt r 0 2, kind := leAt r 2 1, unit := leAt r 4 2
                                           first := leAt r 8 4, count := leAt r 12 4 }
    routes := readAll xs 5 fun _ r => readRoute r
    buses := readAll xs 6 fun _ r => { bus := leAt r 0 2, lane := leAt r 2 1, lanes := leAt r 3 1, start := leAt r 4 4
                                       stop := leAt r 8 4, outGain := leAtS r 12 4, ramp := leAt r 16 4
                                       shift := leAt r 20 1, ampLaw := bit (leAt r 21 1) 4, trunc := bit (leAt r 21 1) 3
                                       mute := bit (leAt r 21 1) 2, auto := leAt r 21 1 % 4 }
    xps := readAll xs 0x106 fun _ r => { xp := leAt r 0 2, bus := leAt r 2 2, source := leAt r 4 4, gain := leAtS r 8 4
                                         ramp := leAt r 12 4, deferred := bit (leAt r 16 1) 2
                                         ampLaw := bit (leAt r 16 1) 1, mute := bit (leAt r 16 1) 0 }
    windows := readAll xs 0xB fun _ r => { win := leAt r 0 2, triggered := leAt r 2 1 == 1, dir := leAt r 3 1
                                           core := leAt r 4 1, port := leAt r 5 1, slot := leAt r 6 2, count := leAt r 8 2
                                           signal := bit (leAt r 10 1) 0, near := leAt r 12 4, far := leAt r 16 8
                                           wrap := leAt r 24 4, adv := leAtS r 28 4, offset := leAt r 32 4
                                           length := leAt r 36 4, sig := leAt r 40 4, task := leAt r 44 2 }
    slots := readAll xs 0xC fun _ r => { port := leAt r 0 1, first := leAt r 2 2, count := leAt r 4 2 }
    handoffs := readAll xs 0x10 fun _ r => { sig := leAt r 0 4, peer := leAt r 4 1, dir := leAt r 5 1 }
    pm := readAll xs 2 fun x r => { core := x.target, addr := leAt r 0 2, code := slice r 16 (8 * leAt r 2 2) }
    dm := readAll xs 3 fun x r => { core := x.target, addr := leAt r 0 4, length := leAt r 4 4, fill := bit (leAt r 8 1) 0
                                    live := bit (leAt r 8 1) 1, data := r.drop 16 }
    gates := readAll xs 0xD fun x r => { port := x.target, start := leAt r 0 4, length := leAt r 4 4 }
    groups := readAll xs 9 fun x r =>
      { fcu := x.target, group := leAt r 0 1, lanes := leAt r 1 1, inMult := leAt r 2 1, start := leAt r 4 4
        stop := leAt r 8 4, bank := leAt r 14 1 / 2 % 2, xf := bit (leAt r 14 1) 0, xfTicks := leAt r 16 2
        stages := ((x.fixed (16 + 32 * leAt x.body 0 2) 16 0 (leAt x.body 4 4)).drop (leAt r 12 2)).take (leAt r 3 1)
          |>.map fun y => readStage y.v }
    fcuCoefs := readAll xs 0xA fun x r => { fcu := x.target, offset := leAt r 0 2, words := wordList r 8 (leAt r 2 2) }
    areWins := readAll xs 7 fun _ r => { tile := leAt r 0 1, start := leAt r 4 4, stop := leAt r 8 4
                                         first := leAt r 12 2, count := leAt r 14 2 }
    areIns := readAll xs 0x107 fun _ r => { input := leAt r 0 2, rmult := leAt r 2 1, hbase := leAt r 4 4, hlen := leAt r 8 4 }
    areOuts := readAll xs 0x207 fun _ r => { output := leAt r 0 2, rmult := leAt r 2 1, trunc := bit (leAt r 3 1) 0
                                             oshift := leAt r 4 1 }
    areXps := readAll xs 0x307 fun _ r => { xp := leAt r 0 2, input := leAt r 2 2, output := leAt r 4 2
                                            keep := bit (leAt r 6 1) 3, trunc := bit (leAt r 6 1) 2
                                            power := bit (leAt r 6 1) 1, xf := bit (leAt r 6 1) 0, set := leAt r 7 1
                                            taps := leAt r 8 4, off0 := readOff r 12, off1 := readOff r 16
                                            exp0 := leAt r 20 1, exp1 := leAt r 21 1, bank := leAt r 22 1
                                            xfTicks := leAt r 24 2 }
    areCoefs := readAll xs 8 fun x r => { bank := x.target, offset := leAt r 0 4, coefs := coefList r 8 (leAt r 4 4) } }

/-- The last that an image holds. -/
def Image.toLast (i : Image) : Last :=
  let b := i.bytes
  let v {α : Type} (l : List (At α)) : List α := l.map (·.v)
  { serial := leAt b 0x10 8, plot := leAt b 0xC 1, family := leAt b 0xD 1, mult := leAt b 0xE 1, half := bit (leAt b 0xF 1) 0
    cores := i.coreMask, claims := v i.claims, tasks := v i.tasks, paths := v i.paths, io := v i.io, copies := v i.copies
    routes := v i.routes, buses := v i.buses, xps := v i.xps, windows := v i.windows, slots := v i.slots
    handoffs := v i.handoffs, pm := v i.pm, dm := v i.dm, gates := v i.gates, groups := v i.groups
    fcuCoefs := v i.fcuCoefs, areWins := v i.areWins, areIns := v i.areIns, areOuts := v i.areOuts, areXps := v i.areXps
    areCoefs := v i.areCoefs }

/-- Detail of the first bad record. -/
def firstBad {α : Type} (l : List (At α)) (bad : α → Bool) : Option Nat := (l.find? fun r => bad r.v).map (·.detail)
/-- Detail of the first record that conflicts with an earlier one; `seen` holds the earlier ones. -/
def clash {α : Type} (bad : α → α → Bool) : List α → List (At α) → Option Nat
  | _, [] => none
  | seen, r :: t => if seen.any fun x => bad x r.v then some r.detail else clash bad (r.v :: seen) t
/-- Detail of the later of two records that conflict (R551). -/
def firstClash {α : Type} (l : List (At α)) (bad : α → α → Bool) : Option Nat := clash bad [] l
/-- The smaller of two details. -/
def orLess (a b : Option Nat) : Option Nat :=
  match a, b with
  | some x, some y => some (min x y)
  | some x, none => some x
  | none, y => y
/-- The smallest detail of a list of checks. -/
def least (l : List (Option Nat)) : Option Nat := l.foldl orLess none

end Sys2Proof.Machine
end

