-- ==== Sys2Proof/Machine/Paths.lean ====
section
/-!
DEFINITION. The cycles at which sources are there and sinks are read, and the conditions of a route (02, R62).
-/
namespace Sys2Proof.Machine

/-- Cycle from which the block of a source can be used on the signal plane (R421, R427); none for a source without a
booked producer. -/
def Last.ready (l : Last) (x : SigId) : Option Nat :=
  let i := sigIdx x
  match sigClass x with
  | 4 => (l.buses.find? fun r => decide (r.bus = i)).map fun r => r.stop + 24
  | 6 => (l.areOuts.find? fun r => decide (r.output = i)).map fun r => l.outputEnd r + 24
  | 7 => (l.windows.find? fun w => w.signal && w.dir == 1 && decide (w.sig = x)).map fun w => 64 * (w.slot + w.count) + 24
  | 11 => (l.groupOf (i / 128) (i % 128)).map fun g => g.stop + 24
  | _ => if isIngest x then some Config.ingestReady else none
/-- ARE windows that read an input. -/
def Last.inputWins (l : Last) (i : Nat) : List AreWin :=
  l.areWins.filter fun w => ((l.areXps.drop w.first).take w.count).any fun r => decide (r.input = i)
/-- Smallest of numbers. -/
def minList (l : List Nat) : Option Nat :=
  l.foldl (fun m x => match m with | some y => some (min x y) | none => some x) none
/-- Cycle at which the consumer of a sink starts. -/
def Last.startOf (l : Last) (x : SigId) : Option Nat :=
  let i := sigIdx x
  match sigClass x with
  | 5 => minList ((l.inputWins i).map (·.start))
  | 8 => minList ((l.windows.filter fun w => w.signal && w.dir == 0 && decide (w.sig = x)).map fun w => 64 * w.slot)
  | 11 => (l.groupOf (i / 128) (i % 128)).map (·.start)
  | _ => none
/-- Does a sink's consumer start late enough for a source (R62, condition 8). A block reaches ARE history 24 cycles
after INGEST_READY (06, Example 6.1). -/
def Last.orderOk (l : Last) (src dst : SigId) : Bool :=
  match l.ready src, l.startOf dst with
  | some a, some b => decide (a + (if isIngest src ∧ sigClass dst = 5 then 24 else 0) ≤ b)
  | _, _ => true

/-- Nominal rate of an identifier in Hz (02, R60; R211 leaves a handoff that is read to its own check). -/
def State.rateHz (s : State) (l : Last) (x : SigId) (src : Bool) : Nat :=
  let i := sigIdx x
  match sigClass x with
  | 0 => s.nat (Reg.sapRate (s.sapIn (i / 32)))
  | 1 => s.nat (Reg.sapRate (s.sapOut (i / 32)))
  | 2 => match s.rxOf i with | some t => s.nat (Reg.rxRate t) | none => 0
  | 3 => match s.txOf i with | some t => s.nat (Reg.txRate t) | none => 0
  | _ => s.sigMult l x src * Config.baseRate s.family
/-- Condition 3 of R62: domain and rate. -/
def State.domainRateOk (s : State) (l : Last) (r : Route) (ho : Option Nat) : Bool :=
  let sd := s.domainOf r.sink false
  let cd := s.domainOf r.source true
  let cs := sigClass r.source
  if sigClass r.sink = 12 then (cs == 0 || cs == 2) && cd != 0
  else if (sigClass r.sink = 1 ∨ sigClass r.sink = 3) ∧ sd ≠ 0 then cs == 13
  else if cs = 13 then false
  else if cs = 15 then sd == 0 && (match ho with
    | some m => decide (s.rateHz l r.sink false = m * Config.baseRate s.family)
    | none => true)
  else sd == 0 && cd == 0 && decide (s.rateHz l r.sink false = s.rateHz l r.source true)
/-- Is a handoff's authorisation in force (07, R209). -/
def State.authorised (s : State) (i producer consumer : Nat) : Bool :=
  s.auths.any fun a => decide (a.index = i) && decide (a.producer = producer) && decide (a.consumer = consumer)
/-- May a plot read a handoff. -/
def State.mayRead (s : State) (p i : Nat) : Bool := s.auths.any fun a => decide (a.index = i) && decide (a.consumer = p)
/-- Rate multiple at which a last's routes, crosspoints and tasks read a handoff (07, R211). -/
def State.handoffReads (s : State) (l : Last) (rs : List Route) (x : SigId) : List Nat :=
  ((rs.filter fun r => !r.none && decide (r.source = x)).map fun r => s.rateHz l r.sink false / Config.baseRate s.family) ++
    (if l.xps.any (fun r => decide (r.source = x)) || l.io.any (fun r => decide (r.sig = x) && r.dir != 1) then [l.mult] else [])
/-- The code of Table 2.3 that one route fails among the others, conditions 1 to 8 of R62; `hoOwn` lets a handoff pass
condition 2 (its own check follows), `ho` is the rate at which the last reads the handoff. -/
def State.routeCode (s : State) (p : Nat) (l : Last) (rs : List Route) (twice hoOwn : Bool) (ho : Option Nat) (r : Route) :
    Option Nat :=
  let owns (x : SigId) : Bool := s.sigOwner x == some p
  let readers := l.io.filter fun e => decide (e.sig = r.sink) && e.dir != 1
  let late := r.deferred || sigClass r.source == 15
  if !sigValid r.sink || !isSink r.sink || !owns r.sink || twice then some 0x10
  else if !r.none && (!sigValid r.source || !isSource r.source ||
      !(owns r.source || (sigClass r.source == 15 && (hoOwn || s.mayRead p (sigIdx r.source))))) then some 0x11
  else if !r.none && !s.domainRateOk l r ho then some 0x12
  else if r.direct && !r.none && !((sigClass r.source == 0 || sigClass r.source == 2) && (sigClass r.sink == 1 || sigClass r.sink == 3)) then
    some 0x13
  else if onLoop (l.edges rs) r.sink then some 0x14
  else if sigClass r.sink == 8 && readers != [] && (r.deferred != readers.all fun e => e.dir == 2) then some 0x15
  else if !r.none && !late && !l.orderOk r.source r.sink then some 0x16
  else none

end Sys2Proof.Machine
end

