-- ==== Sys2Proof/Machine/Uses.lean ====
section
/-!
DEFINITION. What a last uses: the units it names (07, R198, R201, Table 7.2), the clocks of its bridge channels (02,
R85).
-/
namespace Sys2Proof.Machine

/-- A range of units of a kind. -/
structure UnitRange where
  kind : Nat
  unit : Nat
  first : Nat
  count : Nat
  deriving DecidableEq, Repr
/-- Do two ranges of numbers meet, each as first and count. -/
def meets (a m b n : Nat) : Bool := decide (a < b + n) && decide (b < a + m)
/-- Do two ranges of units meet. -/
def UnitRange.meets (x y : UnitRange) : Bool :=
  decide (x.kind = y.kind) && decide (x.unit = y.unit) && Machine.meets x.first x.count y.first y.count
/-- Do ranges of numbers, each as first and count, cover [a, e). -/
def coversFuel : Nat → List (Nat × Nat) → Nat → Nat → Bool
  | 0, _, a, e => decide (e ≤ a)
  | k + 1, rs, a, e =>
    if e ≤ a then true else
    match rs.find? fun r => decide (r.1 ≤ a) && decide (a < r.1 + r.2) with
    | some r => coversFuel k rs (r.1 + r.2) e
    | none => false
/-- Do ranges cover n numbers from a. -/
def covers (rs : List (Nat × Nat)) (a n : Nat) : Bool := coversFuel (rs.length + 1) rs a (a + n)

/-- The unit an identifier follows or is (07, R201): kind, UNIT and number. -/
def sigUnit (x : SigId) : Nat × Nat × Nat :=
  let i := sigIdx x
  match sigClass x with
  | 0 => (26, noUnit, i / 32) | 1 => (26, noUnit, i / 32) | 4 => (11, noUnit, i) | 5 => (6, noUnit, i) | 6 => (7, noUnit, i)
  | 9 => (27, noUnit, i)
  | 10 => (27, noUnit, if i < 64 then i else if i < 128 then i - 64 else 4 * (i - 128))
  | 11 => (14, i / 128, i % 128 / 8) | 12 => (21, noUnit, i) | 13 => (22, noUnit, i)
  | 14 => if i < 256 then (23, noUnit, i) else (27, noUnit, i - 256)
  | c => (20, c, i)
/-- Identifiers that a last names, with the records that name them. -/
def Last.idents (l : Last) : List SigId :=
  (l.routes.flatMap fun r => if r.none then [r.sink] else [r.sink, r.source]) ++ (l.xps.map (·.source)) ++
    (l.paths.map (·.sink)) ++ (l.io.map (·.sig))
/-- Address span of a window's far range: over WRAP, or its length (15, R428). -/
def DmaWin.span (w : DmaWin) : Nat := if w.wrap = 0 then w.length else w.wrap
/-- Units of the far range of a window: DRAM blocks, bed bytes, a core. -/
def DmaWin.farUnits (w : DmaWin) : List UnitRange :=
  if w.signal then [let u := sigUnit w.sig; { kind := u.1, unit := u.2.1, first := u.2.2, count := 1 }]
  else if w.port = 20 ∨ w.port = 21 then
    [{ kind := 10, unit := noUnit, first := w.far / 65536, count := (w.far + w.span - 1) / 65536 + 1 - w.far / 65536 }]
  else if 16 ≤ w.port ∧ w.port ≤ 19 then [{ kind := 9, unit := noUnit, first := w.far - bedBase, count := w.span }]
  else if w.port ≤ 15 then
    [{ kind := 1, unit := noUnit, first := 8 * w.port + (w.far - 0x4100000000) % 0x200000 / 0x40000, count := 1 }]
  else []
/-- Coefficient words of a stage: first and count, by lane (05, Table 5.5). -/
def Stage.coefRanges (st : Stage) : List (Nat × Nat) :=
  if st.coefWords = 0 then []
  else if st.cstride = 0 then [(st.coef, st.coefWords)]
  else (List.range 8).map fun i => (st.coef + i * st.cstride, st.coefWords)
/-- State words of a stage, both passes with XF. -/
def Stage.stateRange (st : Stage) (xf : Bool) : Nat × Nat := (st.state, (if xf then 16 else 8) * st.stateWords)
/-- Slots that a window occupies: port and slots (15, R427). -/
def DmaWin.ports (w : DmaWin) : List Nat := if w.port = w.core / 8 then [w.port] else [w.port, w.core / 8]

/-- The units that a last uses (07, R198). -/
def Last.uses (l : Last) : List UnitRange :=
  let one (k n : Nat) : UnitRange := { kind := k, unit := noUnit, first := n, count := 1 }
  (l.cores.map (one 1)) ++ (l.areXps.map fun r => one 2 r.xp) ++
    (l.areXps.flatMap fun r =>
      (match r.off0 with | some o => [({ kind := 3, unit := noUnit, first := o, count := r.taps } : UnitRange)] | none => []) ++
      (match r.off1 with | some o => [({ kind := 4, unit := noUnit, first := o, count := r.taps } : UnitRange)] | none => [])) ++
    (l.areWins.map fun w => { kind := 5, unit := w.tile, first := w.start, count := w.stop - w.start }) ++
    (l.areIns.map fun r => one 6 r.input) ++ (l.areOuts.map fun r => one 7 r.output) ++
    (l.areIns.map fun r => { kind := 8, unit := noUnit, first := r.hbase, count := r.hlen }) ++
    (l.windows.flatMap fun w => w.farUnits) ++ (l.buses.map fun r => one 11 r.bus) ++ (l.xps.map fun r => one 12 r.xp) ++
    (l.buses.flatMap fun r => (List.range r.lanes).map fun i =>
      ({ kind := 13, unit := r.lane + i, first := r.start, count := r.stop - r.start } : UnitRange)) ++
    (l.groups.flatMap fun g =>
      [({ kind := 14, unit := g.fcu, first := g.group, count := 1 } : UnitRange),
       { kind := 15, unit := g.fcu, first := g.start, count := g.stop - g.start }] ++
      g.stages.flatMap fun st =>
        (st.coefRanges.map fun e => ({ kind := 16, unit := g.fcu, first := e.1, count := e.2 } : UnitRange)) ++
          (if st.stateWords = 0 then [] else
            [({ kind := 17, unit := g.fcu, first := st.state, count := (st.stateRange g.xf).2 } : UnitRange)])) ++
    (l.idents.map fun x => let u := sigUnit x; { kind := u.1, unit := u.2.1, first := u.2.2, count := 1 }) ++
    (l.slots.map fun r => { kind := 24, unit := r.port, first := r.first, count := r.count }) ++
    (l.gates.map fun g => { kind := 25, unit := g.port, first := g.start, count := g.length })
/-- Does a last use a unit of a range. -/
def Last.usesAny (l : Last) (u : UnitRange) : Bool := l.uses.any fun x => x.meets u

/-- The clock of a port's direction in F: 2 + n of slave port n, 130 + k of the masters of NCO k (13, R370, R372). -/
def State.portClock (s : State) (n : Nat) : Nat := if s.reg (Reg.sapClock n) = 1 then 2 + n else 130 + s.nat (Reg.sapNco n)
/-- The clock that a bridge channel follows, in the coding of TrackerSt: 1 S, the clock of a port, 200 + s and 2000 + s a
receive or transmit stream; 0 for a channel that faces H (02, R85). -/
def State.clockOf (s : State) (x : SigId) (src : Bool) : Nat :=
  match s.domainOf x src with
  | 1 => 1
  | 2 => match sigClass x with
    | 2 => match s.rxOf (sigIdx x) with | some t => 200 + t | none => 0
    | 3 => match s.txOf (sigIdx x) with | some t => 2000 + t | none => 0
    | 0 => s.portClock (s.sapIn (sigIdx x / 32))
    | 1 => s.portClock (s.sapOut (sigIdx x / 32))
    | 13 => match s.bridgeSink x with
      | some y => if sigClass y = 1 then s.portClock (s.sapOut (sigIdx y / 32))
        else (match s.txOf (sigIdx y) with | some t => 2000 + t | none => 0)
      | none => 0
    | _ => 0
  | _ => 0
/-- Clocks of the bridge channels into H that routes use, in order of first use. -/
def State.clocksIn (s : State) (rs : List Route) : List Nat :=
  ((rs.filter fun r => !r.none && sigClass r.sink == 12).map fun r => s.clockOf r.source true).eraseDups
/-- Clocks of the bridge channels out of H that routes use. -/
def State.clocksOut (s : State) (rs : List Route) : List Nat :=
  ((rs.filter fun r => !r.none && sigClass r.source == 13).map fun r => s.clockOf r.sink false).eraseDups

end Sys2Proof.Machine
end

