-- ==== Sys2Proof/Machine/Launch.lean ====
section
/-!
DEFINITION. Launch instants of transmit streams, and the gate windows and queue-7 cells they need (11, R340; 12, R350,
R360, R361; 08, R247).
-/
namespace Sys2Proof.Machine

/-- Speed of a port in Mb/s: of its link, or of its mode while there is none (11, Table 11.1). -/
def State.portSpeed (s : State) (n : Nat) : Nat :=
  if s.reg (Reg.netLink n) = 1 ∧ s.nat (Reg.netSpeed n) ≠ 0 then s.nat (Reg.netSpeed n)
  else match s.nat (Reg.netMode n) with
    | 1 => 25000 | 2 => 10000 | 3 => 2500 | 4 => 1000 | 5 => 1000 | _ => 0
/-- Bytes per sample of a payload format (12, Table 12.1). -/
def fmtBytes : Nat → Nat
  | 0 => 2 | 1 => 3 | 2 => 4 | 3 => 2 | 4 => 3 | 5 => 4 | _ => 4
/-- Is a format carried in RTP. -/
def fmtRtp (f : Nat) : Bool := decide (f ≤ 2)
/-- Bytes of a frame outside its payload: Ethernet with one tag and FCS, then the headers of RTP or AVTP. -/
def fmtHead (f : Nat) : Nat := 22 + if fmtRtp f then 40 else if f = 6 then 32 else 24
/-- Ticks of a packet time code (Table 12.2). -/
def ptimeTicks : Nat → Nat
  | 0 => 1 | 1 => 2 | _ => 8
/-- Bytes of a frame of a transmit stream (R350). -/
def State.txLen (s : State) (t : Nat) : Nat :=
  let r := s.streamMult (s.nat (Reg.txRate t)) (s.nat (Reg.txDomain t))
  fmtHead (s.nat (Reg.txFormat t)) +
    s.nat (Reg.txChannels t) * 6 * r * ptimeTicks (s.nat (Reg.txPtime t)) * fmtBytes (s.nat (Reg.txFormat t))
/-- Cells of a frame of n bytes (11, R324). -/
def cellsOf (n : Nat) : Nat := (n + 255) / 256
/-- A leg record, with the defaults of Table 12.3 where none is written. -/
def legOf (b : List Byte) (flags : Nat) : List Byte :=
  if b = [] then [0xFF, BitVec.ofNat 8 flags, 1, 0] ++ List.replicate 16 0 ++ leBytes 2 5004 ++ leBytes 2 5004 ++ List.replicate 8 0
  else b
/-- A leg record with its res bits 0: FLAGS above ENABLE on receive and above SEAT_B on transmit, bytes 0x0A and 0x0B, UDP_SRC on
receive and SRC_IP on transmit (Table 12.3; 00, R11). -/
def legMask (rx : Bool) (b : List Byte) : List Byte :=
  b.take 1 ++ leBytes 1 (leAt b 1 1 % (if rx then 2 else 8)) ++ slice b 2 8 ++ [0, 0] ++ slice b 0xC 4 ++
    (if rx then slice b 0x10 6 ++ [0, 0] else [0, 0, 0, 0] ++ slice b 0x14 4) ++ b.drop 0x18
/-- Leg record of a transmit stream. -/
def State.txLeg (s : State) (t k : Nat) : List Byte :=
  if k = 0 then legOf (s.blob (Reg.txLeg0 t)) 2 else legOf (s.blob (Reg.txLeg1 t)) 4
/-- Leg record of a receive stream. -/
def State.rxLeg (s : State) (t k : Nat) : List Byte :=
  legOf (s.blob (if k = 0 then Reg.rxLeg0 t else Reg.rxLeg1 t)) 0
/-- Is a leg enabled. -/
def legOn (b : List Byte) : Bool := bit (leAt b 1 1) 0
/-- Port of a leg. -/
def legPort (b : List Byte) : Nat := leAt b 0 1
/-- Ports of a transmit stream's enabled legs. -/
def State.txPorts (s : State) (t : Nat) : List Nat :=
  (([s.txLeg t 0, s.txLeg t 1]).filter legOn).map legPort
/-- Transmit streams that are not STOPPED. -/
def State.txLive (s : State) : List Nat :=
  (s.regs.filter fun (e : Reg × Int) => e.1.sub == 1 && decide (0x3C00 ≤ e.1.idx) && decide (e.1.idx < 0x4000) && e.2 != 0).map
    fun (e : Reg × Int) => e.1.idx - 0x3C00
/-- Receive streams that are not STOPPED. -/
def State.rxLive (s : State) : List Nat :=
  (s.regs.filter fun (e : Reg × Int) => e.1.sub == 1 && decide (0x3800 ≤ e.1.idx) && decide (e.1.idx < 0x3C00) && e.2 != 0).map
    fun (e : Reg × Int) => e.1.idx - 0x3800
/-- Class 3 identifiers of a transmit stream. -/
def State.txSinks (s : State) (t : Nat) : List SigId :=
  (List.range (s.nat (Reg.txChannels t))).map fun i => sigOf 3 (s.nat (Reg.txChBase t) + i)
/-- Half-ticks from the boundary that opens a block's ingest to its egress opening: 2 where every channel is a
direct-route sink, 3 with half-tick egress, else 4 (01, R28, R33). A stream with direct and processed channels leaves with its
processed ones, and carries its direct channels one block newer (log entry 184, DESIGN CHOICE). -/
def State.txDelay (s : State) (half : Bool) (routes : List Route) (t : Nat) : Nat :=
  let direct (x : SigId) : Bool := routes.any fun r => decide (r.sink = x) && !r.none && r.direct
  if (s.txSinks t).all direct then 2 else if half then 3 else 4
/-- Launches of a stream in one round, in 1 / (2 * ticks per second) ns from its start (11, R339; 12, R360). -/
def State.launches (s : State) (half : Bool) (routes : List Route) (t : Nat) : List Nat :=
  let m := ptimeTicks (s.nat (Reg.txPtime t))
  let d := s.txDelay half routes t
  ((List.range 8).filter fun b => b % m == m - 1).map fun b =>
    ((2 * b + d) * 1000000000 + s.nat (Reg.txGateOffset t) * 2 * s.tps) % 16000000000
/-- Does a launch of a frame finish, with its gap, inside a window of a last on a port. -/
def State.fits (s : State) (l : Last) (n len pos : Nat) : Bool :=
  let v := s.portSpeed n
  let k := 2 * s.tps
  v != 0 && l.gates.any fun g => g.port == n && decide (g.start * k ≤ pos) &&
    decide (pos * v + (len + 20) * 8000 * k ≤ (g.start + g.length) * k * v)
/-- Streams of a plot in domain H that count towards an install on a port (R340), with one that is about to start. -/
def State.launchers (s : State) (p n : Nat) (more : List Nat) : List Nat :=
  ((s.txLive.filter fun t => s.holder 19 noUnit t == some p) ++ more).eraseDups.filter fun t =>
    s.reg (Reg.txDomain t) == 0 && (s.txPorts t).contains n
/-- Cells of queue 7 that frames of the plot need on a port in one tick under a last. -/
def State.cellsWith (s : State) (p : Nat) (l : Last) (n : Nat) (more : List Nat) : Nat :=
  let all := (s.launchers p n more).flatMap fun t =>
    let legs := ((s.txPorts t).filter fun q => q == n).length
    (s.launches l.half l.routes t).map fun pos => (pos / 2000000000, legs * cellsOf (s.txLen t))
  (List.range 8).foldl (fun m k =>
    max m ((all.filter fun (e : Nat × Nat) => e.1 == k).foldl (fun a (e : Nat × Nat) => a + e.2) 0)) 0
/-- Cells of queue 7 that the plot's frames need on a port in one tick under a last. -/
def State.cellNeed (s : State) (p : Nat) (l : Last) (n : Nat) : Nat := s.cellsWith p l n []
/-- The port on which streams of a plot break R340 or R247 under a last. -/
def State.gateFault (s : State) (p : Nat) (l : Last) (more : List Nat) : Option Nat :=
  (List.range 24).find? fun n =>
    let ts := s.launchers p n more
    ts.any (fun t => (s.launches l.half l.routes t).any (fun pos => !s.fits l n (s.txLen t) pos) ||
      (s.paired && s.txDelay l.half l.routes t == 2 && decide (s.nat (Reg.txGateOffset t) < 8000))) ||
      (!ts.isEmpty && decide (s.cellsWith p l n more >
        (s.holdings.filter fun h => h.kind == 30 && h.unit == n && h.plot == p && h.scrub.isNone).foldl (fun a h => a + h.count) 0))
/-- The port on which a launch of the plot's streams lies outside the gate windows of a last, or needs more cells of
queue 7 than the plot holds (11, R340). -/
def State.launchFault (s : State) (p : Nat) (l : Last) : Option Nat := s.gateFault p l []

end Sys2Proof.Machine
end

