-- ==== Sys2Proof/Machine/Roles.lean ====
section
/-!
DEFINITION. Roles and states of the twin pair, and the cells that a chip sends (08, R221 to R226, R245 to R247).
-/
namespace Sys2Proof.Machine

/-- Change the pair's state. -/
def State.modPair (s : State) (f : PairSt → PairSt) : State := { s with pair := f s.pair }
/-- Is the heartbeat present: at least one link up (R225). -/
def State.heartbeat (s : State) : Bool := s.reg (Reg.weltState 0) == 2 || s.reg (Reg.weltState 1) == 2
/-- Links that are up. -/
def State.linksUp (s : State) : List Nat := [0, 1].filter fun l => s.reg (Reg.weltState l) == 2

/-! Cells (R224). -/

/-- TYPE of a cell (Table 8.2). -/
def Cell.code : Cell → Nat
  | .tick _ => 1 | .beat _ => 2 | .digest _ => 3 | .idig _ _ => 4 | .rcpt _ _ _ _ => 5 | .rpay _ _ _ _ _ => 6 | .lfwd _ => 7
  | .mgmt _ _ _ => 8 | .mack _ => 9 | .mirror _ _ _ => 10 | .hot _ _ _ => 11 | .pdig _ => 12
/-- Is a cell a control cell, which goes on both links. -/
def Cell.control (c : Cell) : Bool := [1, 2, 3, 4, 5, 8, 9].contains c.code
/-- A cell as bytes: the header with TYPE, sequence number and length, the body, the CRC-32 over both. -/
def cellBytes (type seq : Nat) (body : List Byte) : List Byte :=
  let b := leBytes 4 (type * 16777216 + seq % 256 * 65536 + body.length) ++ body
  b ++ leBytes 4 (crc32 b)
/-- Is a cell good: its length and its CRC-32 stand. -/
def cellGood (b : List Byte) : Bool :=
  decide (8 ≤ b.length) && leAt b 0 2 + 8 == b.length && leAt b (b.length - 4) 4 == crc32 (b.take (b.length - 4))
/-- A cell goes out on a link, under the link's next sequence number. -/
def PairSt.sendOn (x : PairSt) (c : Cell) (l : Nat) : PairSt :=
  let n := NTable.get 0 x.linkSeq l
  { x with cells := x.cells ++ [⟨l, n, c⟩], linkSeq := NTable.put 0 x.linkSeq l ((n + 1) % 256) }
/-- A cell goes out: a control cell on every link that is up, a bulk cell on one of them, the links in turn. -/
def State.sendCell (s : State) (c : Cell) : State :=
  if c.control then s.modPair fun x => s.linksUp.foldl (fun x l => x.sendOn c l) x
  else match s.linksUp with
    | [] => s
    | l :: t => s.modPair fun x => { x.sendOn c ((l :: t).getD (x.bulk % (t.length + 1)) l) with bulk := x.bulk + 1 }
/-- An MGMT cell goes to the partner: an action with its target tick, numbered on from the latest (R251). -/
def State.sendMgmt (s : State) (t : Nat) (a : FwdAction) : State :=
  let n := (s.pair.seq + 1) % 4294967296
  (s.modPair fun x => { x with sent := x.sent ++ [(n, t)], seq := n }).sendCell (.mgmt n t a)
/-- A good cell has come: the links live (R225). -/
def State.heard (s : State) : State := s.when s.heartbeat fun s => s.modPair fun x => { x with cellAt := (s.tick, s.cycle) }
/-- Cells of a tick whose bytes are not good are discarded and counted on their link (R224). -/
def State.badCells (s : State) (l : List (Fin 2 × List Byte)) : State :=
  overL (l.filter fun e => !cellGood e.2) (fun s e => s.bump (Reg.weltCellErr e.1)) s

/-! Roles (Table 8.1). -/

/-- Enter a pair state (Table 8.1); a change is notified and raises vector 7 (16, R470; 17, Table 17.7). -/
def State.pairTo (s : State) (st : Nat) : State :=
  if s.nat Reg.pairState = st then s else (((s.setReg Reg.pairState st).notifyGardener 0x60 Reg.pairState).msix 7)
/-- Take role A: AUTH released, AUTH_SINCE (R245, R246). -/
def State.takeA (s : State) : State :=
  ((s.setRegs [(Reg.pairRole, 0), (Reg.pairAuth, 1), (Reg.pairAuthSince, s.tick), (Reg.pairPartnerLost, 0)]).modPair fun x =>
    { x with waitFrom := none, graftAt := none, handAt := none }).pairTo 1
/-- Enter STANDBY with a role; a graft follows at the next tick where it is automatic (R222, R239, R245, R249, R252) and the
chip is not SUSPECT (R264). -/
def State.toStandby (s : State) (role : Int) (graft : Bool) : State :=
  let auto := graft && s.reg Reg.pairAutoGraft == 1 && s.reg Reg.pairSuspect == 0
  ((s.setRegs [(Reg.pairRole, role), (Reg.pairAuth, 0)]).modPair fun x =>
    { x with graftAt := if auto then some (s.tick + 1) else none, focus := none, handAt := none }).pairTo 4
/-- Is a block barred (R247): in SPLIT role B launches nothing of a block whose ingest tick ended less than 1.0 us before the
last good cell, and of no later one. -/
def State.barred (s : State) (block : Nat) : Bool :=
  s.reg Reg.pairState == 5 && s.reg Reg.pairRole == 1 &&
    match s.pair.lostAt with
    | some (k, c) => decide (block ≥ k) || (decide (c < 1536) && decide (block + 1 ≥ k))
    | none => true
/-- Packets of barred blocks leave the queues of the ports (R247). -/
def State.purgeBarred (s : State) : State :=
  { s with net := { s.net with ports := s.net.ports.map fun (e : Nat × PortSt) =>
      (e.1, { e.2 with queue := e.2.queue.filter fun f => !(f.stream.isSome && s.barred f.block) }) } }

/-- A firmware slot. -/
def RstSt.slot (r : RstSt) (k : Nat) : FwSlot := if k = 0 then r.fw0 else r.fw1
/-- Build number of a slot's image: the part's own where it is as shipped (18, R490). -/
def State.slotBuild (s : State) (k : Nat) : Nat :=
  let f := s.rst.slot k
  if !f.valid then 0 else if f.build = 0 then Config.fwBuild k else f.build

end Sys2Proof.Machine
end

