-- ==== Sys2Proof/Machine/Clocks.lean ====
section
/-!
DEFINITION. Clocks and references (09_clocks_and_references): candidates, selection, the DPLL's states and ladder,
holdover, its own grade, and the writes of clock objects at a boundary.
-/
namespace Sys2Proof.Machine

/-- Index of no reference. -/
def noRef : Nat := 0xFF
/-- A candidate's state beyond its registers. -/
def State.refSt (s : State) (r : Nat) : RefSt := NTable.get {} s.clk.refs r
/-- Change a candidate. -/
def State.modRef (s : State) (r : Nat) (f : RefSt → RefSt) : State :=
  { s with clk := { s.clk with refs := NTable.mod {} s.clk.refs r f } }
/-- Change the clock state. -/
def State.modClk (s : State) (f : ClkSt → ClkSt) : State := { s with clk := f s.clk }
/-- Set bits of DPLL_STICKY; each that becomes set and is in the mask notifies every open session and raises the host clock
event, vector 5 (R288; 16, R470). -/
def State.stick (s : State) (b : Nat) : State :=
  if bit (s.reg Reg.dpllSticky) b then s
  else
    let s1 := s.orReg Reg.dpllSticky (2 ^ b)
    if bit (s.reg Reg.dpllIrqMask) b then
      (s1.notify (fun _ => true) 0x10 Reg.dpllSticky.idx Reg.dpllSticky.sub).msix 5 else s1

/-! N (R270). -/

/-- The nominal ratio of the DPLL output, 512 x H base, to XREF, in 2^-48. -/
def State.nominalN (s : State) : Int := (512 * 6 * s.tps * 281474976710656 + 12500000) / 25000000
/-- A step of N as an offset of the output frequency in ppt. -/
def State.pptOf (s : State) (d : Int) : Int := (2 * d * 1000000000000 + s.nominalN) / (2 * s.nominalN)
/-- An offset in ppt as a step of N. -/
def State.stepOf (s : State) (ppt : Int) : Int := (2 * ppt * s.nominalN + 1000000000000) / 2000000000000

/-- Does a candidate carry a quality: PTP, SyncE, a REFIN in DARS mode (R276, Table 9.4). -/
def State.graded (s : State) (r : Nat) : Bool :=
  r == 8 || (decide (9 ≤ r) && decide (r ≤ 12)) || (decide (r < 8) && s.reg (Reg.refMode r) == 2)
/-- Current grade of a candidate (R276). -/
def State.refGradeNow (s : State) (r : Nat) : Nat :=
  if r = 13 ∨ s.reg (Reg.refEnable r) = 0 then 15
  else if s.graded r ∧ s.reg (Reg.refGradeMode r) = 0 then (s.refSt r).carried
  else s.nat (Reg.refGradeFix r)
/-- Does a candidate define phase (Table 9.3, R275). -/
def State.phaseRef (s : State) (r : Nat) : Bool :=
  r == 8 || r == 13 || (decide (r < 8) && [1, 2, 4].contains (s.nat (Reg.refMode r)))
/-- Lock window in ps (R282). -/
def State.lockWindow (s : State) (r : Nat) : Int := if r = 8 ∨ r = 13 then 2000 else 50000

/-- Recorded frequencies without the newest n ticks. -/
def dropRuns : Nat → List (Int × Nat) → List (Int × Nat)
  | _, [] => []
  | n, (v, k) :: t => if n < k then (v, k - n) :: t else dropRuns (n - k) t
/-- The newest n recorded ticks. -/
def takeRuns : Nat → List (Int × Nat) → List (Int × Nat)
  | _, [] => []
  | n, (v, k) :: t => if n = 0 then [] else if n ≤ k then [(v, n)] else (v, k) :: takeRuns (n - k) t
/-- Ticks in runs. -/
def runTicks (l : List (Int × Nat)) : Nat := l.foldl (fun a e => a + e.2) 0
/-- Mean of runs. -/
def runMean (l : List (Int × Nat)) : Int :=
  l.foldl (fun (a : Int) (e : Int × Nat) => a + e.1 * (e.2 : Int)) 0 / (runTicks l : Int)
/-- Record one tick's frequency (R286); 31 s are kept. -/
def State.recordFreq (s : State) (f : Int) : State :=
  let runs := match s.clk.freqs with
    | (v, k) :: t => if v = f then (v, k + 1) :: t else (f, 1) :: (v, k) :: t
    | [] => [(f, 1)]
  s.modClk fun c => { c with freqs := takeRuns (31 * s.tps) runs }
/-- Holdover frequency, seconds averaged and HO_SHORT at the fault that starts HOLDOVER (R286). -/
def State.holdoverNow (s : State) : Int × Nat × Bool :=
  let n := runTicks s.clk.freqs
  let mean := takeRuns (30 * s.tps) (dropRuns s.tps s.clk.freqs)
  if n < 2 * s.tps then (s.clk.dn, 0, true)
  else (runMean mean, runTicks mean / s.tps, decide (n < 31 * s.tps))
/-- The selected candidate fails: its holdover frequency is fixed (R280, R286). -/
def State.fixHoldover (s : State) : State :=
  let h := s.holdoverNow
  (s.setRegs [(Reg.dpllHoFreq, s.pptOf h.1), (Reg.dpllHoValid, h.2.1)]).modClk fun c => { c with ho := h.1, hoShort := h.2.2 }

/-- Fault bits of a candidate appear: FAILED at once where it is enabled (R277, R278, R280). -/
def State.refFaults (s : State) (r bits : Nat) : State :=
  let s1 := (s.orReg (Reg.refFault r) bits).orReg (Reg.refFaultSticky r) bits
  if r = 13 ∨ s.reg (Reg.refEnable r) = 0 ∨ bits = 0 then s1
  else
    let sel := s.nat Reg.dpllRef
    let fresh := s.reg (Reg.refState r) != 1
    let s2 := (s1.setReg (Reg.refState r) 1).modRef r fun x => { x with fresh := false }
    let s3 := s2.when fresh fun s => s.stick 4
    let s4 := s3.when (r == sel && bit (bits : Int) 2) fun s => s.stick 5
    s4.when (r == sel && fresh && (s.reg Reg.dpllState == 2 || s.reg Reg.dpllState == 1)) State.fixHoldover
/-- A candidate without a fault starts to qualify; STEER is VALID at once (R278, R287). -/
def State.refQualify (s : State) (r : Nat) : State :=
  if r = 14 then s.setReg (Reg.refState r) 3
  else (s.setReg (Reg.refState r) 2).modRef r fun x => { x with since := s.tick }
/-- Fault conditions of a candidate end; with the last of them it qualifies (R278). -/
def State.refEnds (s : State) (r bits : Nat) : State :=
  let left := s.nat (Reg.refFault r) &&& (31 - bits % 32)
  let s1 := s.setReg (Reg.refFault r) (left : Nat)
  if r = 13 ∨ s.reg (Reg.refEnable r) = 0 ∨ left ≠ 0 ∨ s.reg (Reg.refState r) ≠ 1 then s1 else s1.refQualify r
/-- The fault GRADE holds while the grade is 15 (R276, Table 9.5 bit 4). -/
def State.gradeFault (s : State) (r : Nat) : State :=
  if s.reg (Reg.refEnable r) = 0 then s
  else if s.refGradeNow r = 15 then s.refFaults r 16
  else s.when (bit (s.reg (Reg.refFault r)) 4) fun s => s.refEnds r 16
/-- A new grade of the signal. -/
def State.carryGrade (s : State) (r g : Nat) : State := (s.modRef r fun x => { x with carried := g }).gradeFault r
/-- Grade of bits 1:0 of byte 4 of a DARS signal's channel status (Table 9.4). -/
def darsGrade (b : Nat) : Nat := if b = 1 then 4 else if b = 2 then 6 else 9
/-- Is a rate in mHz of a word clock or DARS signal outside R274's set: further than the widest window from each multiple
of the base rate (log entry 211). -/
def State.rateWrong (s : State) (r rate : Nat) : Bool :=
  let near (m : Nat) : Bool := decide (((rate : Int) - (m * 6 * s.tps * 1000 : Nat)).natAbs * 2000 ≤ m * 6 * s.tps * 1000)
  match s.nat (Reg.refMode r) with
  | 1 => rate != 0 && !(near 1 || near 2 || near 4)
  | 2 => rate != 0 && !near 1
  | _ => false
/-- A boundary's measurement of a candidate: its registers, its grade, and the faults FREQ and FORMAT that it shows (R274,
R276, Table 9.5). -/
def State.refMeasured (s : State) (q : RefReport) : State :=
  let r : Nat := q.r
  let s1 := s.setRegs [(Reg.refRate r, q.rate), (Reg.refFreqXref r, q.xref), (Reg.refFreqMedia r, q.media)]
  let s2 := match q.quality with
    | some b => s1.when (decide (r < 8) && s.reg (Reg.refMode r) == 2) fun s => s.carryGrade r (darsGrade b)
    | none => s1
  let s3 := s2.when (decide (q.xref.natAbs > s.nat (Reg.refWindow r) * 1000) && r != 14) fun s => s.refFaults r 2
  s3.when (decide (r < 8) && s.rateWrong r q.rate) fun s => s.refFaults r 8
/-- The fault LOS of a SyncE slot follows the link of its port (Table 9.5 bit 0). -/
def State.synceLos (s : State) : State :=
  overL [9, 10, 11, 12] (fun s r =>
    if s.reg (Reg.refEnable r) = 0 then s
    else if s.reg (Reg.netLink (s.nat (Reg.refSyncePort r))) ≠ 1 then s.when (!bit (s.reg (Reg.refFault r)) 0) fun s => s.refFaults r 1
    else s.when (bit (s.reg (Reg.refFault r)) 0) fun s => s.refEnds r 1) s

/-- Own grade (R289). -/
def State.ownGrade (s : State) : Nat :=
  if s.paired && s.reg Reg.pairRole == 1 then 9
  else match s.nat Reg.dpllState with
    | 0 => 10
    | 3 => if s.clk.degraded then 9 else min 15 s.clk.hoGrade
    | _ => s.refGradeNow (s.nat Reg.dpllRef)
/-- QL code of an own grade (R289). -/
def qlOf (g : Nat) : Nat := if g ≤ 1 then 2 else if g ≤ 3 then 4 else if g ≤ 5 then 8 else if g ≤ 14 then 0xB else 0xF
/-- DPLL_GRADE and SYNCE_QL_OUT follow the own grade; a change is marked (R288, R289). -/
def State.refreshGrade (s0 : State) : State :=
  let g := s0.ownGrade
  let st := s0.nat Reg.dpllState
  let s := s0.when ((st == 1 || st == 2) && decide (g < 15) && s0.nat Reg.dpllRef != 13) fun s =>
    s.modClk fun c => { c with good := g }
  if s.nat Reg.dpllGrade = g then s
  else (s.setRegs [(Reg.dpllGrade, g), (Reg.synceQlOut, qlOf g)]).stick 8
/-- DPLL_STATUS (Table 9.8). -/
def State.dpllStatusNow (s : State) : Nat :=
  let st := s.nat Reg.dpllState
  let f (b : Bool) (n : Nat) : Nat := if b then 2 ^ n else 0
  f (st == 2) 0 + f (st == 3) 1 + f (st == 0) 2 + f (st == 1) 3 + f s.clk.slewing 4 + f s.clk.steerLimit 5 +
    f s.clk.hoShort 6 + f (s.nat Reg.dpllRef == 13) 7 + f s.clk.xrefBad 8 + f (s.reg Reg.timeMode == 1) 9 +
    f s.clk.fslewLimit 10

/-- Is candidate r better than c (R279). -/
def State.betterRef (s : State) (r c : Nat) : Bool :=
  decide (s.refGradeNow r < s.refGradeNow c) ||
    (s.refGradeNow r == s.refGradeNow c && decide (s.reg (Reg.refPrio r) < s.reg (Reg.refPrio c)))
/-- Is a candidate VALID. -/
def State.refValid (s : State) (r : Nat) : Bool := s.reg (Reg.refState r) == 3
/-- Does role B follow the welt links: from the CLOCK phase of graft until it leaves role B, with a link up; in SPLIT it holds
over (R281). -/
def State.weltRef (s : State) : Bool :=
  s.paired && s.reg Reg.pairRole == 1 &&
    (s.reg Reg.pairState == 3 || s.reg Reg.pairState == 4 || (s.reg Reg.pairState == 2 && decide (s.reg Reg.graftPhase ≥ 2))) &&
    (s.reg (Reg.weltState 0) == 2 || s.reg (Reg.weltState 1) == 2)
/-- The candidate of R279's selection. -/
def State.candRef (s : State) : Option Nat :=
  let f := s.nat Reg.dpllForce
  if f ≠ noRef then (if s.refValid f then some f else none)
  else (List.range 15).foldl (fun c r =>
    if r ≠ 13 ∧ s.refValid r then
      match c with
      | none => some r
      | some k => if s.betterRef r k then some r else c
    else c) none
/-- Is the DPLL's own measurement lost: domain 19 or 24 (Table 9.2). -/
def State.dpllBlind (s : State) : Bool := s.reg (Reg.clkState 19) == 1 || s.reg (Reg.clkState 24) == 1
/-- The reference after R279's selection: none while the DPLL's own measurement is lost (Table 9.2). -/
def State.selectRef (s : State) : Option Nat :=
  let cur : Option Nat := if s.nat Reg.dpllRef = noRef then none else some (s.nat Reg.dpllRef)
  if s.dpllBlind then none
  else if s.paired ∧ s.reg Reg.pairRole = 1 then (if s.weltRef then some 13 else none)
  else
    let cand := s.candRef
    if cand = cur then cur
    else match cur with
      | none => cand
      | some k =>
        if !s.refValid k then cand
        else match cand with
          | none => none
          | some r =>
            if s.refGradeNow r < s.refGradeNow k then cand
            else if s.reg Reg.dpllRevertive = 1 ∧ s.betterRef r k then cand
            else if s.nat Reg.dpllForce ≠ noRef then cand
            else cur
/-- Final ladder step of DPLL_BW_FINAL (Table 9.7). -/
def State.finalStep (s : State) : Nat := 8 - s.nat Reg.dpllBwFinal
/-- Ladder step at which ACQUIRE starts after a switch, HOLDOVER or loss of lock (R282). -/
def State.startStep (s : State) : Nat := min 4 s.finalStep
/-- Dwell of a ladder step in ticks (Table 9.7). -/
def dwell : Nat → Nat
  | 0 => 800 | 1 => 800 | 2 => 800 | 3 => 2667 | 4 => 8000 | 5 => 26667 | 6 => 80000 | _ => 266667
/-- Does any plot have an active last. -/
def State.anyLast (s : State) : Bool := (List.range 16).any fun p => (s.last p).isSome
/-- Enter ACQUIRE (R282, R284); a phase-defining candidate slews while a plot has an active last. -/
def State.acquire (s : State) (step : Nat) (r : Nat) : State :=
  (s.setRegs [(Reg.dpllState, 1), (Reg.dpllBwNow, step)]).modClk fun c =>
    { c with inWin := 0, outWin := 0, slewing := s.phaseRef r && s.anyLast, hoShort := false, degraded := false }
/-- TIME_MODE follows the selected reference (R271); a servo that was measuring goes on (10, R302). -/
def State.followMode (s : State) : State :=
  let ptp := s.nat Reg.dpllRef == 8
  let s1 := s.setReg Reg.timeMode (if ptp then 0 else 1)
  let st := s.nat Reg.servoState
  if ptp ∧ s.reg Reg.timeMode = 1 then
    let off := s.reg Reg.servoOffset
    let s2 := s1.setReg Reg.servoState (if st = 3 ∨ s.clk.servoIn ≥ 16 then 3 else if st = 4 then 2 else st)
    if off.natAbs > 1000000000000 then
      s2.modClk fun c => { c with steps := c.steps ++ [(s.tick, (-off) / 1000)] }
    else s2.setReg Reg.timeAdjLeft ((-off) * 65536 / 1000)
  else if !ptp ∧ s.reg Reg.timeMode = 0 ∧ (st = 2 ∨ st = 3) then s1.setReg Reg.servoState 4
  else s1
/-- Enter HOLDOVER (R280, R286): `fix` where the reference in use still defined the holdover frequency. -/
def State.enterHoldover (s : State) (fix : Bool) : State :=
  let s1 := (s.setRegs [(Reg.dpllState, 3), (Reg.dpllHoSince, s.tick), (Reg.dpllHoSeconds, 0)]).stick 2
  let s2 := { s1 with log := { s1.log with ask := s1.log.ask || bit (s1.reg Reg.logFreezeMask) 9 } }
  let s3 := s2.modClk fun c => { c with hoGrade := c.good + 1, degraded := false, slewing := false }
  s3.when fix State.fixHoldover
/-- Selection and the state transition at a boundary (R279 to R281, R284). -/
def State.switchRef (s : State) : State :=
  let cur := s.nat Reg.dpllRef
  let sel := (s.selectRef).getD noRef
  if sel = cur then s
  else
    let s1 := ((s.setReg Reg.dpllRef sel).bump Reg.dpllSwitchCount).stick 3
    let s2 :=
      if sel = noRef then s1.enterHoldover (s.reg (Reg.refState cur) != 1)
      else s1.acquire (if s.reg Reg.dpllState = 0 then 0 else s.startStep) sel
    s2.followMode

/-- HOLDOVER because the DPLL's own measurement is lost (Table 9.2): no reference is selected. -/
def State.toHoldover (s : State) : State :=
  let cur := s.nat Reg.dpllRef
  let s1 := s.when (cur != noRef) fun s => ((s.setReg Reg.dpllRef noRef).bump Reg.dpllSwitchCount).stick 3
  if s.reg Reg.dpllState = 3 then s1 else (s1.enterHoldover (cur == noRef || s.reg (Reg.refState cur) != 1)).followMode

/-- N that the DPLL aims at, less the nominal ratio: nominal, the holdover value, STEER's, or the loop's (Table 9.6, R287). -/
def State.dpllAim (s : State) (loop : Int) : Int :=
  match s.nat Reg.dpllState with
  | 0 => 0
  | 3 => s.clk.ho
  | _ => if s.nat Reg.dpllRef = 14 then s.stepOf (s.reg Reg.dpllSteer) else loop
/-- N of a tick: clamped to 500 ppm (R270), moving no faster than DPLL_FSLEW while a plot has an active last (R285). -/
def State.steerTo (s : State) (aim : Int) : State :=
  let was := s.clk.dn
  let most500 := s.nominalN / 2000
  let clamped := max (-most500) (min most500 aim)
  let most : Int := s.nominalN * s.nat Reg.dpllFslew / (1000000000 * s.tps : Nat)
  let lim := s.anyLast && decide ((clamped - was).natAbs > most.toNat)
  let out := if lim then (if clamped > was then was + most else was - most) else clamped
  let s1 := (s.setReg Reg.dpllFreqOff (s.pptOf out)).modClk fun c => { c with
    dn := out, steerLimit := clamped != aim, fslewLimit := lim || c.slewing }
  s1.when (clamped != aim) fun s => s.stick 6
/-- Move towards zero by at most n. -/
def toZero (x : Int) (n : Nat) : Int := if x.natAbs ≤ n then 0 else if x < 0 then x + n else x - n
/-- Phase x in ps to the nearest instant of a grid of hz instants a second (R275). -/
def nearest (hz : Nat) (x : Int) : Int :=
  x - (2 * x * hz + 1000000000000) / 2000000000000 * 1000000000000 / hz
/-- The phase error of the selected candidate r: its phase with REF_OFFSET to the nearest grid instant, or what has come since
its selection (R275). PTP's event is the counter's reading of the boundary (R271); STEER has none. -/
def State.phaseOf (s : State) (r : Nat) (x : Int) : Int :=
  let y := (if r = 8 then s.clk.phase * 1000 / 4294967296 else x) + s.reg (Reg.refOffset r)
  if r = noRef ∨ r = 14 then 0
  else if !s.phaseRef r then x - s.clk.buildOut
  else if r = 8 ∨ r = 13 then nearest s.tps y
  else if s.reg (Reg.refMode r) = 4 then nearest 1 y
  else nearest (6 * s.tps) y
/-- The DPLL's counts of one boundary (R282, R283). -/
def State.countWindow (s : State) : State :=
  let e := (s.reg Reg.dpllPhaseErr).natAbs
  let w := (s.lockWindow (s.nat Reg.dpllRef)).toNat
  s.modClk fun c => { c with
    inWin := if s.reg Reg.dpllState = 1 ∧ !c.slewing ∧ e ≤ w then c.inWin + 1 else 0
    outWin := if s.reg Reg.dpllState = 2 ∧ e > 4 * w then c.outWin + 1 else 0 }

/-- Is a register an object that clock writes reach at a boundary (09, Table 9.10; 10, R295, R300). -/
def isClockReg (r : Reg) : Bool :=
  [0x2100, 0x2110, 0x2120, 0x2130, 0x2150].contains r.idx ||
    [Reg.timeIncr, Reg.timeAdj, Reg.ptpRole, Reg.ptpProfile].contains r
/-- May the chip place a port in MASTER: not PTP_SLAVE_ONLY, not in role B (10, R301, R303). -/
def State.mayMaster (s : State) : Bool :=
  s.reg Reg.ptpRole != 0 && s.reg Reg.ptpSlaveOnly == 0 && !(s.paired && s.reg Reg.pairRole == 1)
/-- Is a port one of the PTP unit's (10, R300): the engine port 24 in ORDINARY, enabled NET ports else. -/
def State.ptpPort (s : State) (n : Nat) : Bool :=
  if s.reg Reg.ptpRole = 0 then false else if s.reg Reg.ptpRole = 1 then n == 24 else s.reg (Reg.ptpPortEn n) == 1
/-- State of a port of the PTP unit (10, R300 to R302; IEEE 1588-2019 portState: 3 DISABLED, 4 LISTENING, 6 MASTER,
8 UNCALIBRATED, 9 SLAVE). -/
def State.ptpPortNow (s : State) (n : Nat) : Nat :=
  if !s.ptpPort n then 3
  else match s.clk.parent with
    | some f => if f.port = n then (if s.reg Reg.servoState = 3 then 9 else 8) else if s.mayMaster then 6 else 4
    | none => if s.mayMaster then 6 else 4
/-- A role or profile change restarts the best master clock algorithm (10, R300). -/
def State.restartPtp (s : State) : State :=
  let s1 := (s.setRegs [(Reg.servoState, if s.reg Reg.ptpRole = 0 then 0 else 1), (Reg.ptpParentId, 0), (Reg.ptpParentPort, 0),
    (Reg.ptpGmId, 0), (Reg.ptpGmClass, 255)]).modClk fun c =>
      { c with foreign := [], parent := none, servoIn := 0, servoOut := 0 }
  (overN 24 (fun s n => s.setReg (Reg.ptpPortState n) (if s.ptpPort n then 4 else 3)) s1).carryGrade 8 15
/-- A profile's defaults (10, Table 10.2). -/
def State.applyProfile (s : State) (v : Int) : State :=
  let d : Int × Int × Int × Int := if v = 0 then (0, -3, 1, 0) else if v = 1 then (127, -3, -2, -3) else (0, -3, 0, 0)
  let s1 := s.setRegs [(Reg.ptpProfile, v), (Reg.ptpDomain, d.1), (Reg.ptpAnnTimeout, 3)]
  let s2 := overN 24 (fun s n => s.setRegs [(Reg.ptpLogSync n, d.2.1), (Reg.ptpLogAnnounce n, d.2.2.1),
    (Reg.ptpLogDelay n, d.2.2.2)]) s1
  s2.when (decide (v < 2)) fun s => s.setReg Reg.ptpTcMode 1
/-- A clock write takes effect (R279 step 2). -/
def State.applyClock (s : State) (d : Due) : State :=
  let u := d.reg.unit
  let s1 := s.setReg d.reg d.value
  if d.reg.idx = 0x2110 ∧ d.reg.sub = 2 then
    if d.value = s.reg d.reg ∨ u = 13 then s1
    else if d.value = 0 then s1.setReg (Reg.refState u) 0
    else if u = 14 then ((s1.setReg (Reg.refFault u) 0).refQualify u).gradeFault u
    else if s.reg (Reg.refFault u) = 0 then (s1.refQualify u).gradeFault u
    else (s1.setReg (Reg.refState u) 1).gradeFault u
  else if d.reg.idx = 0x2110 ∧ (d.reg.sub = 5 ∨ d.reg.sub = 6 ∨ d.reg.sub = 4) then s1.gradeFault u
  else if d.reg = Reg.dpllBwFinal then
    let st := s.reg Reg.dpllState
    if st = 2 then s1.setReg Reg.dpllBwNow s1.finalStep
    else if st = 1 ∧ s1.finalStep < s1.nat Reg.dpllBwNow then
      (s1.setReg Reg.dpllBwNow s1.finalStep).modClk fun c => { c with inWin := 0 }
    else s1
  else if d.reg = Reg.timeAdj then s.setReg Reg.timeAdjLeft d.value
  else if d.reg = Reg.ptpRole then s1.restartPtp
  else if d.reg = Reg.ptpProfile then (s1.applyProfile d.value).restartPtp
  else s1
/-- What is left of the slew of the counter after one tick: TIME_SLEW of a tick's length less (10, R296). -/
def State.slewLeft (s : State) : Int := toZero (s.reg Reg.timeAdjLeft) (s.nat Reg.timeSlew * 65536 / s.tps)
/-- What TIME cycles of 500 MHz in one tick add to the counter at a rate, in 2^-32 ns; XREF times them, so a longer tick holds
more (10, R293). -/
def State.counterStep (s : State) (rate dn : Int) : Int :=
  (562949953421312 + rate) * 500000000 * s.nominalN / ((s.nominalN + dn) * (s.tps * 65536 : Nat))
/-- The counter in the tick that closes: it gains on the boundaries what its increment and its slew give it; in FOLLOW it reads
each boundary's value there (R271; 10, R293, R296). The increment moves to TIME_INCR, no faster than DPLL_FSLEW while a plot
has an active last. -/
def State.counterTick (s : State) : State :=
  let left := s.slewLeft
  let gain := s.counterStep s.clk.rate s.clk.dn - s.counterStep 0 0 + (s.reg Reg.timeAdjLeft - left) * 65536
  let aim := s.reg Reg.timeIncr - 562949953421312
  let most := 562949953421312 * s.nat Reg.dpllFslew / (1000000000 * s.tps)
  let rate := if s.anyLast then s.clk.rate + max (-(most : Int)) (min (most : Int) (aim - s.clk.rate)) else aim
  let follow := s.reg Reg.timeMode == 1
  (s.setReg Reg.timeAdjLeft left).modClk fun c => { c with
    phase := if follow then 0 else c.phase + gain, rate := if follow then c.rate else rate }
/-! Domains (R267 to R269, R273). -/

/-- Ratio of a media domain to MEDIA-H (R268, R272). -/
def State.mediaRatio (s : State) (d : Nat) : Option (Nat × Nat) :=
  match d with
  | 2 => some (125, 2) | 3 => some (125, 8) | 17 => some (125, 4) | 18 => some (1, 1)
  | 14 => some (s.nat Reg.sBase, 6 * s.tps)
  | _ => none
/-- Nominal frequency of a domain that has one, in mHz (Table 9.1). -/
def State.nominalHz (s : State) (d : Nat) : Option Nat :=
  let h := 512 * 6 * s.tps * 1000
  match d with
  | 1 => some 25000000000 | 4 => some 800000000000 | 7 => some 250000000000 | 8 => some 390625000000 | 10 => some 25000000000
  | 11 => some 402832000000 | 12 => some 500000000000 | 13 => some h | 19 => some 1000000000000 | 20 => some 1000000000000
  | 21 => some 25000000000 | 23 => some 200000000000 | 24 => some 100000000000 | 25 => some 20000000000
  | d => (s.mediaRatio d).map fun q => h * q.1 / q.2
/-- A measured frequency: a domain that was lost runs again within 5 % of nominal (R269); XREF does when it has been present
for 10 ms (18, R486). -/
def State.clockMeasured (s : State) (d hz : Nat) : State :=
  let near : Bool := match s.nominalHz d with
    | some n => decide (n * 95 ≤ hz * 100) && decide (hz * 100 ≤ n * 105)
    | none => hz != 0
  (s.setReg (Reg.clkFreq d) hz).when (near && d != 1 && s.reg (Reg.clkState d) == 1) fun s => s.setReg (Reg.clkState d) 0
/-- The frequencies of a report; those of the media domains keep their ratio to MEDIA-H (R268). -/
def State.clocksMeasured (s : State) (l : List (Fin 26 × Nat)) : State :=
  overL l (fun s (e : Fin 26 × Nat) =>
    if e.1.val = 13 then
      overL [2, 3, 14, 17, 18] (fun s d => match s.mediaRatio d with
        | some q => s.clockMeasured d (e.2 * q.1 / q.2)
        | none => s) (s.clockMeasured 13 e.2)
    else if (s.mediaRatio e.1).isSome then s else s.clockMeasured e.1 e.2) s
/-- Cycles that NCO k makes in a tick, in 2^-48: from XREF, or from the media clock in pair operation (R273). -/
def State.ncoStep (s : State) (k : Nat) : Nat :=
  let f : Int := 512 * s.reg (Reg.fNominal k) * (1000000000000 + s.reg (Reg.fSteer k)) * 281474976710656
  let n := s.nominalN
  (if s.paired then f / (1000000000000 * s.tps) else f * n / (1000000000000 * s.tps * (n + s.clk.dn))).toNat
/-- The NCOs run for a tick. -/
def State.runNcos (s : State) : State :=
  s.modClk fun c => { c with ncos := (List.range 4).foldl (fun (t : NTable Nat) (k : Nat) =>
    NTable.put 0 t k ((NTable.get 0 t k + s.ncoStep k) % 281474976710656)) c.ncos }

/-! Reference outputs (R290, R291). -/

/-- Instants of the grid of a mode in the tick that opens, in ps from its opening: H base rate by its multiple, S base rate,
seconds of the counter. -/
def State.refoutGrid (s : State) (mode mult : Nat) : List Nat :=
  let h (m : Nat) : List Nat := (List.range (6 * m)).map fun i => i * 1000000000000 / (6 * m * s.tps)
  match mode with
  | 1 => h mult
  | 2 =>
    let b := s.nat Reg.sBase
    let first := (s.tick * b + s.tps - 1) / s.tps
    ((List.range 8).filter fun i => decide ((first + i) * s.tps < (s.tick + 1) * b)).map fun i =>
      (first + i) * 1000000000000 / b - s.tick * 1000000000000 / s.tps
  | 3 => h 1
  | 4 => if s.tick % s.tps = 0 then [0] else []
  | _ => []
/-- Is an output to be driven low in this state of the DPLL (REFOUT_SQUELCH). -/
def State.squelched (s : State) (k : Nat) : Bool :=
  let st := s.nat Reg.dpllState
  match s.nat (Reg.refoutSquelch k) with
  | 0 => false
  | 1 => st == 0 || st == 1
  | _ => st != 2
/-- Byte 4 bits 1:0 of a DARS output's channel status, for an own grade. -/
def darsStatus (g : Nat) : Nat := if g ≤ 4 then 1 else if g ≤ 6 then 2 else 0
/-- Frequency of an output that is a plain clock. -/
def State.refoutHz (s : State) (mode : Nat) : Nat := if mode = 5 then 10000000 else if mode = 6 then 512 * 6 * s.tps else 0
/-- Edges of an output's settings in the tick: each within 5 ns of its grid instant plus the offset (log entry 212). -/
def State.refoutRises (s : State) (k : Nat) (r : RefoutSt) : List (Nat × Int) :=
  if r.low then []
  else (s.refoutGrid r.mode r.mult).map fun i =>
    (i, (i : Int) + r.offset * 1000 + max (-5000) (min 5000 (Config.refoutSkew k (s.tick * 1000000 + i / 1000))))
/-- A reference output in the tick that opens: a change of its settings acts at the first instant of the grid after the
boundary, so that no pulse is cut. -/
def State.refoutTick (s : State) (k : Nat) : State :=
  let r := NTable.get {} s.clk.refouts k
  let w : RefoutSt := { r with mode := s.nat (Reg.refoutMode k), mult := s.nat (Reg.refoutMult k)
                               offset := s.reg (Reg.refoutOffset k), low := s.squelched k }
  let same := w.mode == r.mode && w.mult == r.mult && w.offset == r.offset && w.low == r.low
  let gate := if r.low || r.mode == 0 then w.mode else r.mode
  let at_ : Option Nat :=
    if same then some 0
    else if gate = 4 then (if r.waiting && s.tick % s.tps == 0 then some 0 else none)
    else (s.refoutGrid (if gate = 2 then 2 else 3) 1).find? fun i => decide (0 < i)
  let y : RefoutSt := match at_ with
    | some c => { w with
        waiting := false
        rises := ((s.refoutRises k r).filter fun e => decide (e.1 < c)).map (·.2) ++
          ((s.refoutRises k w).filter fun e => decide (c ≤ e.1)).map (·.2) }
    | none => { r with waiting := true, rises := (s.refoutRises k r).map (·.2) }
  s.modClk fun c => { c with refouts := NTable.put {} c.refouts k { y with
    status := if y.mode = 3 ∧ !y.low then darsStatus (s.nat Reg.dpllGrade) else 0
    hz := if y.low then 0 else s.refoutHz y.mode } }
/-- Level of a reference output t ps into the tick: a PPS pulse is 100 us high, a word clock is high for the first half of its
period (log entry 212); none where the output is a signal of its own (DARS, FREQ10M, MEDIA). -/
def State.refoutLevel (s : State) (k : Nat) (t : Int) : Option Bool :=
  let r := NTable.get {} s.clk.refouts k
  let high (n : Nat) : Bool := r.rises.any fun x => decide (x ≤ t) && decide (t < x + (n : Int))
  if r.low ∨ r.mode = 0 then some false
  else match r.mode with
    | 1 => some (high (500000000000 / (6 * s.tps * r.mult)))
    | 2 => some (high (500000000000 / s.nat Reg.sBase))
    | 4 => some (high 100000000)
    | _ => none

/-- The counter's increment follows the output frequency while the counter follows the DPLL (R271), in 2^-48 ns. -/
def State.followIncr (s : State) : State :=
  s.when (s.reg Reg.timeMode == 1) fun s =>
    let v := (4 * 281474976710656 * (s.nominalN + s.clk.dn) + s.nominalN) / (2 * s.nominalN)
    (s.setReg Reg.timeIncr v).modClk fun c => { c with rate := v - 562949953421312 }
/-- The clocks at a boundary, in R279's order: reports of the tick before, writes due, selection, state. -/
def State.clockBoundary (s : State) (rep : TickReport) : State :=
  let s2 := ((overL rep.refs State.refMeasured s).clocksMeasured rep.clocks).synceLos
  let mine (d : Due) : Bool := isClockReg d.reg && decide (d.tick ≤ s.tick)
  let s3 := overL (s2.due.filter mine) State.applyClock { s2 with due := s2.due.filter fun d => !mine d }
  let s4 := s3.switchRef
  let r := s4.nat Reg.dpllRef
  let first := r != s3.nat Reg.dpllRef
  let s4 := s4.when first fun s => s.modClk fun c => { c with buildOut := rep.phaseErr }
  let e := s4.phaseOf r rep.phaseErr
  let err := if s4.clk.slewing ∧ !first ∧ r ≠ 8 then toZero (s4.reg Reg.dpllPhaseErr) (10000000 / s4.tps)
    else if s4.clk.slewing ∨ !first then e else 0
  let failed := s3.nat Reg.dpllRef != noRef && s3.reg (Reg.refState (s3.nat Reg.dpllRef)) == 1
  let aim := if first ∧ r ≠ noRef then (if failed then s4.clk.ho else s4.clk.dn) else s4.dpllAim rep.freq
  let s5 := (s4.setReg Reg.dpllPhaseErr err).steerTo aim
  let s6 := s5.when (s5.reg Reg.dpllState == 2) fun s => s.recordFreq s.clk.dn
  let s7 := (s6.when (!first) State.countWindow).followIncr
  let s8 := s7.when (s7.reg Reg.dpllState == 3) fun s => s.setReg Reg.dpllHoSeconds ((s.tick - s.nat Reg.dpllHoSince) / s.tps : Nat)
  let bad := r != noRef && decide ((s8.reg (Reg.refFreqXref r)).natAbs > 100000000)
  let s9 := (s8.modClk fun c => { c with xrefBad := bad }).when bad fun s => s.stick 7
  overN 4 State.refoutTick s9.refreshGrade.runNcos

/-- REF_FAULT: a candidate shows faults, bits of Table 9.5 (R277, R278). -/
def execRefFault (r : Fin 15) (bits : Fin 32) (s : State) : Out := .next ((s.refFaults r bits).refreshGrade)
/-- REF_FAULT_END: its last fault condition ends (R278); a grade of 15 is still a fault. -/
def execRefFaultEnd (r : Fin 15) (s : State) : Out :=
  .next (s.refEnds r (if s.reg (Reg.refEnable r) = 1 ∧ s.refGradeNow r = 15 then 15 else 31))
/-- REF_QUALIFIED: the qualifying time has passed without a fault (R278): REF_QUAL_TIME at first, DPLL_WTR after a fault. -/
def execRefQualified (r : Fin 15) (s : State) : Out :=
  let x := s.refSt r
  let wait := (if x.fresh then s.nat (Reg.refQualTime r) else s.nat Reg.dpllWtr) * s.tps
  if s.reg (Reg.refState r) = 2 ∧ x.since + wait ≤ s.tick then .next (s.setReg (Reg.refState r) 3) else .next s
/-- DPLL_LADDER_ADVANCE: a dwell inside the lock window ends (R282). -/
def execDpllLadderAdvance (s : State) : Out :=
  let k := s.nat Reg.dpllBwNow
  if s.reg Reg.dpllState = 1 ∧ !s.clk.slewing ∧ k < s.finalStep ∧ s.clk.inWin ≥ dwell k then
    .next ((s.setReg Reg.dpllBwNow (k + 1 : Nat)).modClk fun c => { c with inWin := 0 })
  else .next s
/-- DPLL_LOCK: 8,000 ticks at the final step inside the window (R283). -/
def execDpllLock (s : State) : Out :=
  if s.reg Reg.dpllState = 1 ∧ !s.clk.slewing ∧ s.nat Reg.dpllBwNow = s.finalStep ∧ s.clk.inWin ≥ 8000 then
    .next (((s.setRegs [(Reg.dpllState, 2), (Reg.dpllLockedSince, s.tick)]).stick 0).refreshGrade)
  else .next s
/-- DPLL_LOCK_LOST: beyond 4 windows for 8 ticks in LOCKED (R283); role B leaves LOCKSTEP (08, R266, Table 8.10). -/
def execDpllLockLost (s : State) : Out :=
  if s.reg Reg.dpllState = 2 ∧ s.clk.outWin ≥ 8 then
    let s1 := ((s.setRegs [(Reg.dpllState, 1), (Reg.dpllBwNow, s.startStep)]).modClk fun c =>
      { c with inWin := 0, outWin := 0 }).stick 1
    .next (s1.when (s.reg Reg.pairState == 3 && s.reg Reg.pairRole == 1) fun s => s.toStandby 1 false)
  else .next s
/-- SLEW_COMPLETE: the phase error is inside the lock window (R284); with PTP the counter's own slew is at its end too
(Example 9.1). -/
def execSlewComplete (s : State) : Out :=
  if s.clk.slewing ∧ !(s.nat Reg.dpllRef == 8 && s.reg Reg.timeAdjLeft != 0) ∧ (s.reg Reg.dpllPhaseErr).natAbs ≤ (s.lockWindow (s.nat Reg.dpllRef)).toNat then
    .next (s.modClk fun c => { c with slewing := false, inWin := 0 })
  else .next s
/-- HOLDOVER_DEGRADE: DPLL_HO_DEGRADE seconds of holdover have passed (R289). -/
def execHoldoverDegrade (s : State) : Out :=
  if s.reg Reg.dpllState = 3 ∧ s.nat Reg.dpllHoSince + s.nat Reg.dpllHoDegrade * s.tps ≤ s.tick then
    .next ((s.modClk fun c => { c with degraded := true }).refreshGrade)
  else .next s
/-- DPLL_STICKY_CLEAR (R288; bit 4 clears REF_FAULT_STICKY too). -/
def execDpllStickyClear (m : Fin 4294967296) (s : State) : Out :=
  let s1 := s.setReg Reg.dpllSticky ((s.nat Reg.dpllSticky &&& (4294967295 - m.val) : Nat) : Int)
  .next ((s1.when (bit (m.val : Int) 4) (overN 15 fun s r => s.setReg (Reg.refFaultSticky r) 0)).reply 0)
/-- DPLL_STEER in ppt (R287, R279). -/
def execDpllSteer (v : Int) (s : State) : Out :=
  if v < -500000000 ∨ v > 500000000 then .next (s.reply 0x13) else .next ((s.dueWrite Reg.dpllSteer v).reply 0)
/-- Is any identifier in domain S live: a running port or stream in S, or a tracker of S (R272). -/
def State.liveS (s : State) : Bool :=
  ((List.range 128).any fun n => s.reg (Reg.sapState n) != 0 && s.reg (Reg.sapDomain n) == 1) ||
    ((List.range 1024).any fun t => (s.reg (Reg.rxState t) != 0 && s.reg (Reg.rxDomain t) == 1) ||
      (s.reg (Reg.txState t) != 0 && s.reg (Reg.txDomain t) == 1)) ||
    s.trackers.any fun (e : Nat × TrackerSt) => e.2.clock == 1
/-- S_BASE in Hz (R272). -/
def execSBase (hz : Nat) (s : State) : Out :=
  if hz ≠ 32000 ∧ hz ≠ 44100 ∧ hz ≠ 48000 then .next (s.reply 0x13)
  else if s.liveS then .next (s.reply 0x14)
  else .next ((s.dueWrite Reg.sBase hz).reply 0)

end Sys2Proof.Machine
end

