-- ==== Sys2Proof/Machine/Checks.lean ====
section
/-!
DEFINITION. The install checks of Table 1.14 in ascending order (01, R36 to R42, R548, R549, R551 to R553; 02, R62, R72,
R85; 03, R97, R98; 04, R138, R139; 05, R144, R147, R159; 06, R172 to R183; 07, R198, R210, R211; 11, R340; 12, R356; 15,
R427, R428, R552). Each gives the detail of R551 where it fails; of several faults under one code the least detail.
-/
namespace Sys2Proof.Machine

/-- Detail of a section without a record. -/
def Image.section_ (i : Image) (ty target : Nat) : Nat :=
  match i.sects.find? fun x => decide (x.ty = ty) && (decide (target = 0xFFFFFFFF) || decide (x.target = target)) with
  | some x => x.rec_ 0
  | none => 0
/-- First record whose check fails. -/
def failAt {α : Type} (l : List (At α)) (bad : α → Bool) : Option Nat := least (l.map fun r => if bad r.v then some r.detail else none)
/-- A fault without a record. -/
def failIf (b : Bool) (detail : Nat) : Option Nat := if b then some detail else none

/-- 0x01 BAD_MAGIC (R42). -/
def badMagic (b : List Byte) : Option Nat :=
  let n := imageSize b
  let t := if 192 ≤ n ∧ n ≤ b.length then n - 64 else b.length - 64
  failIf (leAt b 0 4 != 0x544C5842 || leAt b t 4 != 0x454C5842) 0
/-- 0x02 FORMAT. -/
def badFormat (b : List Byte) : Option Nat :=
  failIf (leAt b 4 1 != 1 || decide (leAt b 5 1 > 3) || leAt b 6 2 != 128 || (sections b).any fun x => x.sver != 1) 0
/-- 0x03 SIZE. -/
def badSize (b : List Byte) : Option Nat := failIf (imageSize b != b.length || decide (imageSize b > 0x8000000)) 0
/-- 0x04 HDR_CRC. -/
def badHdrCrc (b : List Byte) : Option Nat := failIf (leAt b 0x7C 4 != crc32 (b.take 0x7C)) 0
/-- 0x05 DIGEST. -/
def badDigest (b : List Byte) : Option Nat := failIf (slice b (b.length - 32) 32 != sha256 (b.take (b.length - 32))) 0
/-- 0x06 DIR_BOUNDS (R37, R39, R42). -/
def badBounds (b : List Byte) : Option Nat :=
  let off := leAt b 0x30 4; let n := leAt b 0x34 4; let stop := b.length - 64
  if n < 1 ∨ n > 1024 ∨ off % 8 ≠ 0 ∨ off < 128 ∨ off + 32 * n > stop then some 0
  else
    let xs := (sections b).map fun x => ({ detail := x.rec_ 0, v := x } : At Sect)
    least [failAt xs fun x => x.off % 8 != 0 || decide (x.off < off + 32 * n) || decide (x.off + x.size > stop) || !x.lengthOk,
      firstClash xs fun x y => meets x.off x.size y.off y.size]
/-- 0x07 SECTION_CRC. -/
def badCrc (xs : List Sect) : Option Nat := least (xs.map fun x => failIf (x.crc != crc32 x.body) (x.rec_ 0))
/-- Types of Table 1.8. -/
def knownType (t : Nat) : Bool := (decide (1 ≤ t) && decide (t ≤ 0x11) && t != 0xE) || t == 0x13
/-- Types that may appear once for each TARGET. -/
def perTarget (t : Nat) : Bool := t == 2 || t == 3 || t == 8 || t == 9 || t == 0xA || t == 0xD
/-- 0x08 SECTION_TYPE (R39). -/
def badType (xs : List Sect) : Option Nat :=
  let l := xs.map fun x => ({ detail := x.rec_ 0, v := x } : At Sect)
  least [failAt l fun x => decide (x.ty < 0x8000) && !knownType x.ty,
    firstClash l fun x y => decide (x.ty < 0x8000) && x.ty == y.ty && (!perTarget x.ty || x.target == y.target)]

/-- Is a crosspoint of a new last carried (06, R181). -/
def carriedXp (old : Option Last) (r : AreXp) : Bool :=
  match old with
  | none => false
  | some l => r.keep && l.areXps.any fun o => o.xp == r.xp && o.input == r.input && o.output == r.output && o.taps == r.taps &&
      o.off0 == r.off0 && o.off1 == r.off1 && o.xf == r.xf
/-- Is an input of a new last carried. -/
def carriedIn (old : Option Last) (r : AreIn) : Bool :=
  match old with
  | none => false
  | some l => l.areIns.any fun o => o.input == r.input && o.rmult == r.rmult && o.hbase == r.hbase && o.hlen == r.hlen
/-- Is a group of a new last carried (05, R160). -/
def carriedGroup (old : Option Last) (g : FcuGroup) : Bool :=
  match old with
  | none => false
  | some l => l.groups.any fun o => o.fcu == g.fcu && o.group == g.group && o.inMult == g.inMult && o.xf == g.xf &&
      o.stages.map (fun st => (st.ty, st.p1, st.p2, st.state)) == g.stages.map fun st => (st.ty, st.p1, st.p2, st.state)
/-- ARE_COEF ranges of a bank. -/
def Image.coefRanges (i : Image) (bank : Nat) : List (Nat × Nat) :=
  (i.areCoefs.filter fun r => decide (r.v.bank = bank)).map fun r => (r.v.offset, r.v.coefs.length)
/-- 0x09 SECTION_MISSING: a required section, or the coefficients of a fresh crosspoint (06, R181). -/
def badMissing (i : Image) (old : Option Last) : Option Nat :=
  match [1, 4, 5, 0xC, 0xF, 0x13].find? fun t => !(i.sects.any fun x => x.ty == t) with
  | some t => some t
  | none =>
    failIf (i.areXps.any fun r => !carriedXp old r.v && (match r.v.off r.v.bank with
      | some o => !covers (i.coefRanges r.v.bank) o r.v.taps
      | none => false)) 8

/-- Sum of numbers. -/
def sumN (l : List Nat) : Nat := l.foldl (· + ·) 0
/-- Amounts that an image fixes by itself (R549). -/
def Image.derived (i : Image) : Nat → Option Nat
  | 1 => some i.coreMask.length
  | 2 => some i.areXps.length
  | 3 => some (sumN (i.areXps.map fun r => if r.v.off0.isSome then r.v.taps else 0))
  | 4 => some (sumN (i.areXps.map fun r => if r.v.off1.isSome then r.v.taps else 0))
  | 5 => some (144 * sumN (i.areWins.map fun w => w.v.stop - w.v.start))
  | 6 => some (sumN (i.areIns.map fun r => r.v.hlen))
  | 9 => some i.buses.length
  | 10 => some i.xps.length
  | 11 => some (sumN (i.groups.map fun g => g.v.stop - g.v.start))
  | 15 => some (sumN (i.slots.map fun r => r.v.count))
  | 16 => some i.gates.length
  | _ => none
/-- Amount that an image claims under a code; an absent code claims 0. -/
def Image.claim (i : Image) (c : Nat) : Nat :=
  match i.claims.find? fun r => decide (r.v.code = c) with | some r => r.v.amount | none => 0
/-- Rate multiple of an identifier by an image's TASK_IO. -/
def Image.ioMult (i : Image) (x : SigId) : Nat :=
  match i.io.find? fun r => decide (r.v.sig = x) with
  | some r => if r.v.rmult = 0 then leAt i.bytes 0xE 1 else r.v.rmult
  | none => leAt i.bytes 0xE 1
/-- 0x0A RES_NONZERO (R39, R42, R549; 06, R182). Of the header fields out of range, FAMILY above 1 fails here and PLOT
above 15 is left to the code PLOT (log entry 183, DESIGN CHOICE). -/
def badRes (i : Image) : Option Nat :=
  let b := i.bytes
  let t := b.length - 64
  least ([failIf (!isMult (leAt b 0xE 1) || decide (leAt b 0xF 1 > 1) || decide (leAt b 0xD 1 > 1) || !res0 b 0x38 68 ||
      !res0 b (t + 4) 28) 0] ++
    (i.sects.filter fun x => x.ty < 0x8000).map (fun x => least
      ([failIf (!zeros x.res || !x.targetOk) (x.rec_ 0), failIf (!x.headOk) x.head] ++
        x.groups.map fun g => failAt g.2 fun r => !x.recordOk g.1 r)) ++
    [firstClash i.claims fun x y => x.code == y.code,
     failAt i.claims fun r => match i.derived r.code with | some n => n != r.amount | none => false,
     failIf ((List.range 17).any fun c => match i.derived c with
       | some n => n != 0 && !(i.claims.any fun r => r.v.code == c)
       | none => false) (i.section_ 1 0xFFFFFFFF),
     firstClash i.tasks fun x y => x.id == y.id,
     failAt i.tasks fun r => !i.coreMask.contains r.core,
     least (i.sects.map fun x => failIf ((x.ty == 2 || x.ty == 3) && !i.coreMask.contains x.target) (x.rec_ 0)),
     firstClash i.windows fun x y => x.win == y.win,
     failAt i.windows fun w => !i.coreMask.contains w.core || (w.signal && w.length != 24 * i.ioMult w.sig),
     failAt i.copies fun r => !(i.tasks.any fun t => t.v.id == r.task && t.v.kind == 2),
     failAt i.areXps fun r => !(i.areIns.any fun x => x.v.input == r.input) || !(i.areOuts.any fun x => x.v.output == r.output),
     least ((i.areXps.zipIdx).map fun e =>
       failIf ((i.areWins.filter fun w => decide (w.v.first ≤ e.2) && decide (e.2 < w.v.first + w.v.count)).length != 1) e.1.detail),
     firstClash i.areIns fun x y => x.input == y.input, firstClash i.areOuts fun x y => x.output == y.output])

/-- 0x0D QUOTA: the resource code of the first claim above quota (R551; 07, R198). -/
def State.badQuota (s : State) (p : Nat) (i : Image) : Option Nat :=
  (List.range 17).find? fun c => decide ((i.claim c : Int) > s.reg (Reg.quota p c)) && c != 0

/-- Is a window's far range the plot's (15, R428, Table 15.4). -/
def State.farOk (s : State) (p : Nat) (w : DmaWin) : Bool :=
  let n := w.span
  if w.signal then sigClass w.sig == (if w.dir = 0 then 8 else 7) && s.sigOwner w.sig == some p
  else if w.port = 20 ∨ w.port = 21 then
    let base := if w.port = 20 then 0 else 0x200000000
    decide (base ≤ w.far) && decide (w.far + n ≤ base + 0x200000000) &&
      s.holdsRange p 10 noUnit (w.far / 65536) ((w.far + n - 1) / 65536 + 1 - w.far / 65536)
  else if 16 ≤ w.port ∧ w.port ≤ 19 then
    let base := bedBase + (w.port - 16) * 0x800000
    decide (base ≤ w.far) && decide (w.far + n ≤ base + 0x800000) && s.holdsRange p 9 noUnit (w.far - bedBase) n
  else if w.port ≤ 15 then
    let base := 0x4100000000 + w.port * 0x1000000
    let off := w.far - base
    decide (base ≤ w.far) && decide (off + n ≤ 0x400000) && decide (off / 0x40000 = (off + n - 1) / 0x40000) &&
      s.holds p 1 noUnit (8 * w.port + off % 0x200000 / 0x40000)
  else false
/-- Byte range of a running receive stream's ring in bed memory (12, R356): first and count. -/
def State.rxRing (s : State) (t : Nat) : Nat × Nat :=
  let n := s.nat (Reg.rxChannels t) * 16 * 6 * max 1 (s.streamMult (s.nat (Reg.rxRate t)) (s.nat (Reg.rxDomain t))) * 4
  (s.nat (Reg.rxBedOffset t), (n + 4095) / 4096 * 4096)
/-- Does the bed use of a range meet the ring of a running stream of the plot. -/
def State.meetsRing (s : State) (p a n : Nat) : Bool :=
  s.regs.any fun (e : Reg × Int) => e.1.sub == 1 && decide (0x3800 ≤ e.1.idx) && decide (e.1.idx < 0x3C00) && e.2 != 0 &&
    s.holder 18 noUnit (e.1.idx - 0x3800) == some p &&
    (let r := s.rxRing (e.1.idx - 0x3800); meets r.1 r.2 a n)
/-- Bed bytes of a window. -/
def DmaWin.bed (w : DmaWin) : Option (Nat × Nat) :=
  if !w.signal ∧ 16 ≤ w.port ∧ w.port ≤ 19 then some (w.far - bedBase, w.span) else none
/-- Identifiers of an image with the records that name them. -/
def Image.idents (i : Image) : List (At SigId) :=
  (i.routes.flatMap fun r => if r.v.none then [{ detail := r.detail, v := r.v.sink }]
      else [{ detail := r.detail, v := r.v.sink }, { detail := r.detail, v := r.v.source }]) ++
    (i.xps.map fun r => { detail := r.detail, v := r.v.source }) ++ (i.paths.map fun r => { detail := r.detail, v := r.v.sink }) ++
    (i.io.map fun r => { detail := r.detail, v := r.v.sig })
/-- Faults of STATE_COPY (R550). -/
def badCopy (i : Image) (old : Option Last) : Option Nat :=
  let uses : List UnitRange := match old with | some l => l.uses | none => []
  let used (u : UnitRange) : Bool :=
    covers ((uses.filter fun x => x.kind == u.kind && x.unit == u.unit).map fun x => (x.first, x.count)) u.first u.count
  let common (u : UnitRange) : List UnitRange := (uses.filter u.meets).map fun x =>
    let a := max x.first u.first
    { u with first := a, count := min (x.first + x.count) (u.first + u.count) - a }
  let kind2 (t : Nat) : Bool := i.tasks.any fun r => r.v.id == t && r.v.kind == 2
  let own := i.toLast
  let mine := (own.windows.filter fun w => !kind2 w.task).flatMap (fun w => w.farUnits) ++
    own.cores.map fun c => ({ kind := 1, unit := noUnit, first := c, count := 1 } : UnitRange)
  let named (t : Nat) (u : UnitRange) : Bool :=
    covers (((i.copies.filter fun r => r.v.task == t && r.v.kind == u.kind && r.v.unit == u.unit).map fun r =>
      (r.v.first, r.v.count)) ++ (mine.filter fun m => m.kind == u.kind && m.unit == u.unit).map fun m => (m.first, m.count))
      u.first u.count
  least [failAt i.copies fun r => !used { kind := r.kind, unit := r.unit, first := r.first, count := r.count },
    failAt i.windows fun w => kind2 w.task && w.farUnits.any fun u => (common u).any fun x => !named w.task x]
/-- 0x0E OWNERSHIP (07, R198). -/
def State.badOwner (s : State) (p : Nat) (i : Image) : Option Nat :=
  let H := s.holdsRange p
  least [failIf (i.coreMask.any fun c => !H 1 noUnit c 1) 0,
    failAt i.idents fun x => sigValid x && sigClass x != 15 && (let u := sigUnit x; !H u.1 u.2.1 u.2.2 1),
    failAt i.buses fun r => !H 11 noUnit r.bus 1 || (List.range r.lanes).any fun k => !H 13 (r.lane + k) r.start (r.stop - r.start),
    failAt i.xps fun r => !H 12 noUnit r.xp 1,
    failAt i.groups fun g => !H 14 g.fcu g.group 1 || !H 15 g.fcu g.start (g.stop - g.start),
    failAt i.areXps fun r => !H 2 noUnit r.xp 1 || (match r.off0 with | some o => !H 3 noUnit o r.taps | none => false) ||
      (match r.off1 with | some o => !H 4 noUnit o r.taps | none => false),
    failAt i.areIns fun r => !H 6 noUnit r.input 1, failAt i.areOuts fun r => !H 7 noUnit r.output 1,
    failAt i.areWins fun w => !H 5 w.tile w.start (w.stop - w.start),
    failAt i.windows fun w => !s.farOk p w || (match w.bed with | some e => s.meetsRing p e.1 e.2 | none => false),
    badCopy i (s.last p)]

/-- Rate multiples of a chain after each stage are legal (05, R142, R147). -/
def chainOk : Nat → List Stage → Bool
  | m, [] => isMult m
  | m, st :: t =>
    let f := if st.ty = 4 then 2 else if st.ty = 6 then st.p2 else if st.ty = 8 then st.p2 % 16 else 1
    m % f == 0 && isMult (st.multAfter m) && chainOk (st.multAfter m) t
/-- Taps bound of an output under an image (06, R172): a carried crosspoint keeps its exponents (06, R181), any other has
those of its record. -/
def State.imageBoundOk (s : State) (old : Option Last) (i : Image) (o : Nat) : Bool :=
  decide (sumN ((i.areXps.filter fun r => r.v.output == o).map fun r =>
    let x := s.areXp r.v.xp
    let e0 := if carriedXp old r.v then x.exp0 else r.v.exp0
    let e1 := if carriedXp old r.v then x.exp1 else r.v.exp1
    r.v.taps * 2 ^ max (if r.v.off0.isSome then e0 else 0) (if r.v.off1.isSome then e1 else 0)) < 2 ^ 55)
/-- Faults of TASK_IO (01, R553; 08, R261). -/
def badIo (i : Image) : Option Nat :=
  let l := i.toLast
  let read (x : SigId) : Bool := (l.routes.any fun r => !r.none && r.source == x) || (l.xps.any fun r => r.source == x) ||
    l.io.any fun r => r.dir != 1 && r.sig == x
  let window (d : Nat) (x : SigId) : Bool := l.windows.any fun w => w.signal && w.dir == d && w.sig == x
  let kind1 (t : Nat) : Bool := l.tasks.any fun k => k.id == t && k.kind == 1
  let dark (x : SigId) : Bool := sigClass x == 7 && !window 1 x && !(l.io.any fun r => r.dir == 1 && r.sig == x)
  least [failAt i.routes fun r => !r.none && dark r.source, failAt i.xps fun r => dark r.source,
    failAt i.io fun r => r.dir != 1 && dark r.sig,
    failAt i.io fun r =>
      if r.dir = 1 then sigClass r.sig != 7 || kind1 r.task || (read r.sig && !window 1 r.sig)
      else if sigClass r.sig = 8 then !window 0 r.sig else !isSource r.sig,
    firstClash i.io fun x y => x.sig == y.sig && x.dir == 1 && y.dir == 1 && x.task != y.task,
    firstClash i.io fun x y => x.sig == y.sig && (sigClass x.sig == 7 || sigClass x.sig == 8) && x.rmult != y.rmult]
/-- 0x0F ROUTE. -/
def State.badRoute (s : State) (p : Nat) (i : Image) : Option Nat :=
  let l := i.toLast
  let bad := least [failAt i.idents fun x => !sigValid x, failAt i.windows fun w => w.signal && !sigValid w.sig,
    failAt i.handoffs fun h => !sigValid h.sig, failAt i.paths fun r => !sigValid r.origin]
  if bad.isSome then bad else
  let owns (x : SigId) : Bool := s.sigOwner x == some p
  let xpRoute (r : XpRec) : Route :=
    { sink := sigOf 4 r.bus, source := r.source, none := false, xfade := 0, deferred := r.deferred, power := false, direct := false }
  least [badIo i, firstClash i.buses fun x y => x.bus == y.bus, firstClash i.xps fun x y => x.xp == y.xp,
    failAt i.xps fun r => !isSource r.source || !(owns r.source || sigClass r.source == 15) ||
      !s.domainRateOk l (xpRoute r) none || onLoop (l.edges l.routes) (sigOf 4 r.bus),
    failAt i.groups fun g => !chainOk g.inMult g.stages,
    failAt i.areXps fun r => !s.imageBoundOk (s.last p) i r.output || (l.areInput r.input).map (·.rmult) !=
      (l.areOuts.find? fun o => o.output == r.output).map (·.rmult),
    firstClash i.routes fun x y => x.sink == y.sink,
    failAt i.routes fun r => (s.routeCode p l l.routes false true none r).isSome,
    failIf (decide ((s.clocksIn l.routes).length > 8) || decide ((s.clocksOut l.routes).length > 8)) (i.section_ 5 0xFFFFFFFF)]
/-- 0x10 HANDOFF (07, R210, R211). -/
def State.badHandoff (s : State) (p : Nat) (i : Image) : Option Nat :=
  let l := i.toLast
  least [failAt i.idents fun x => sigClass x == 15 && !(i.handoffs.any fun h => h.v.sig == x),
    failAt i.handoffs fun h =>
      let n := sigIdx h.sig
      if sigClass h.sig ≠ 15 then true
      else if h.dir = 0 then !s.holds p 20 15 n || !s.authorised n p h.peer
      else
        let rs := s.handoffReads l l.routes h.sig
        !s.authorised n h.peer p || decide (rs.eraseDups.length > 1) ||
          (match s.handoffMult h.sig, rs.head? with | some m, some r => m != r | _, _ => false)]

/-- Interval of a task (Table 1.5). -/
def Task.stop (t : Task) : Nat := t.start + t.wcet
/-- 0x11 CORE_OVERLAP. -/
def badOverlap (i : Image) : Option Nat :=
  firstClash i.tasks fun x y => x.core == y.core && meets x.start x.wcet y.start y.wcet
/-- 0x12 CORE_BUDGET (R21). -/
def badBudget (i : Image) : Option Nat := failAt i.tasks fun t => decide (t.stop > Config.fullDeadline)
/-- Sources of the lanes of a group, by their routes. -/
def Last.laneRoutes (l : Last) (g : FcuGroup) : List Route :=
  l.routes.filter fun r => !r.none && sigClass r.sink == 11 && decide (sigIdx r.sink / 8 = g.fcu * 16 + g.group)
/-- Sources of the inputs of an ARE window, by their routes. -/
def Last.winRoutes (l : Last) (w : AreWin) : List Route :=
  l.routes.filter fun r => !r.none && sigClass r.sink == 5 &&
    ((l.areXps.drop w.first).take w.count).any fun x => x.input == sigIdx r.sink
/-- Does a read of a source count as ingest-class (R22): every read of a handoff does. -/
def readsIngest (src : SigId) (deferred : Bool) : Bool := sigClass src == 15 || (isIngest src && !deferred)
/-- Does a start lie before a source is there. -/
def Last.early (l : Last) (start : Nat) (src : SigId) (deferred : Bool) (extra : Nat) : Bool :=
  !deferred && sigClass src != 15 && (match l.ready src with
    | some a => decide (start < a + (if isIngest src then extra else 0))
    | none => false)
/-- Does an ARE window, a group or a bus feed an egress sink. -/
def Last.winFeeds (l : Last) (fed : List SigId) (w : AreWin) : Bool :=
  ((l.areXps.drop w.first).take w.count).any fun x => fed.contains (sigOf 6 x.output)
/-- Does a group feed an egress sink. -/
def groupFeeds (fed : List SigId) (g : FcuGroup) : Bool :=
  (List.range 8).any fun k => bit g.lanes k && fed.contains (sigOf 11 (g.fcu * 128 + g.group * 8 + k))
/-- 0x13 DEADLINE. -/
def badDeadline (i : Image) : Option Nat :=
  let l := i.toLast
  let fed := l.feeding l.routes
  let reads (t : Nat) := l.io.filter fun r => r.task == t && r.dir == 0 && sigClass r.sig != 8
  least [failAt i.tasks fun t => decide (t.stop > t.deadline) || decide (t.deadline > Config.fullDeadline) ||
      (reads t.id).any (fun r => !isIngest r.sig && l.early t.start r.sig false 0) ||
      l.windows.any fun w => w.task == t.id && w.core == t.core &&
        (if w.dir = 0 then decide (t.start < 64 * (w.slot + w.count) + (if w.port = 20 ∨ w.port = 21 then 448 else 24))
         else decide (t.stop > 64 * w.slot)),
    failAt i.buses fun r => (fed.contains (sigOf 4 r.bus) && decide (r.stop > Config.fullDeadline)) ||
      l.xps.any fun x => x.bus == r.bus && !isIngest x.source && l.early r.start x.source x.deferred 0,
    failAt i.groups fun g => (groupFeeds fed g && decide (g.stop > Config.fullDeadline)) ||
      (l.laneRoutes g).any fun r => !isIngest r.source && l.early g.start r.source r.deferred 0,
    failAt i.areWins fun w => (l.winFeeds fed w && decide (w.stop > Config.fullDeadline)) ||
      (l.winRoutes w).any fun r => l.early w.start r.source r.deferred 24 && !(isIngest r.source && decide (w.start < Config.ingestReady))]
/-- 0x14 INGEST_EARLY (R22; 02, R72; 05, R144; 06, R177). -/
def badIngest (i : Image) : Option Nat :=
  let l := i.toLast
  let reads (t : Nat) : Bool := l.io.any fun r => r.task == t && r.dir != 1 &&
    (if sigClass r.sig = 8 then l.routes.any fun q => !q.none && q.sink == r.sig &&
        (sigClass q.source == 15 || (isIngest q.source && r.dir == 0 && !q.deferred))
     else readsIngest r.sig (r.dir == 2))
  least [failAt i.tasks fun t => decide (t.start < Config.ingestReady) && reads t.id,
    failAt i.buses fun r => decide (r.start < Config.ingestReady) && l.xps.any fun x => x.bus == r.bus && readsIngest x.source x.deferred,
    failAt i.groups fun g => decide (g.start < Config.ingestReady) && (l.laneRoutes g).any fun r => readsIngest r.source r.deferred,
    failAt i.areWins fun w => decide (w.start < Config.ingestReady) && (l.winRoutes w).any fun r => readsIngest r.source r.deferred]
/-- 0x15 HALF_TICK (R23, R26). -/
def badHalf (i : Image) : Option Nat :=
  let l := i.toLast
  let fed := l.feeding l.routes
  if !l.half then none else
  least [failAt i.tasks fun t => decide (t.deadline > Config.halfDeadline) && (l.writesOf t.id).any fed.contains,
    failAt i.buses fun r => decide (r.stop > Config.halfDeadline) && fed.contains (sigOf 4 r.bus),
    failAt i.groups fun g => decide (g.stop > Config.halfDeadline) && groupFeeds fed g,
    failAt i.areWins fun w => decide (w.stop > Config.halfDeadline) && l.winFeeds fed w]

/-- 0x16 MEMORY_SIZE (03, R97; 04, R138; 15, R428). -/
def badMemory (i : Image) : Option Nat :=
  let exact := least (i.sects.map fun x => failIf (isVar x.ty && (x.ty == 2 || x.ty == 3) && !x.var.2) (x.rec_ x.var.1.length))
  let total (c : Nat) := sumN (i.dm.map fun r => if r.v.core = c ∧ !r.v.live then r.v.length else 0)
  least [exact, firstClash i.pm fun x y => x.core == y.core && meets x.addr (x.code.length / 8) y.addr (y.code.length / 8),
    failAt i.tasks fun t => !(i.pm.any fun r => r.v.core == t.core && decide (r.v.addr ≤ t.entry) &&
      decide (t.entry < r.v.addr + r.v.code.length / 8)),
    failAt i.dm fun r => !nearOk r.core r.addr r.length || (r.fill && r.live),
    firstClash i.dm fun x y => x.core == y.core && meets x.addr x.length y.addr y.length,
    least (i.sects.map fun x => failIf (x.ty == 3 && (i.tasks.any fun t => t.v.core == x.target && t.v.reinit) &&
      decide (total x.target > 16384)) x.head),
    failAt i.windows fun w => !nearOk w.core w.near w.length]
/-- 0x17 PM_OVERLAP (03, R98; 04, R139). -/
def badPm (i : Image) (old : Option Last) : Option Nat :=
  match old with
  | none => none
  | some l =>
    let byte (c a : Nat) : Option Byte := l.pm.findSome? fun r =>
      if r.core = c ∧ 8 * r.addr ≤ a then r.code[a - 8 * r.addr]? else none
    least [failAt i.pm fun r => l.cores.contains r.core && (r.code.zipIdx).any fun e =>
        match byte r.core (8 * r.addr + e.2) with | some x => x != e.1 | none => false,
      failAt i.dm fun r => !r.live && l.cores.contains r.core &&
        ((l.dm.any fun o => o.core == r.core && meets o.addr o.length r.addr r.length) ||
          l.windows.any fun w => w.core == r.core && meets w.near w.length r.addr r.length)]

/-- Cycles C of an ARE window (06, R175, R176). -/
def Last.winCycles (l : Last) (w : AreWin) : Nat :=
  sumN (((l.areXps.drop w.first).take w.count).map fun r =>
    let n := match l.areInput r.input with | some i => 6 * i.rmult | none => 0
    (if r.xf then 2 else 1) * ((r.taps + 143) / 144 * n + 4))
/-- Regions of a crosspoint in a bank, as first and count. -/
def AreXp.region (r : AreXp) (bank : Nat) : List (Nat × Nat) := match r.off bank with | some o => [(o, r.taps)] | none => []
/-- Faults of the ARE stores (06, R180, R181, R183). -/
def State.badAre (s : State) (p : Nat) (i : Image) (old : Option Last) : Option Nat :=
  let l := i.toLast
  let oldRegions (b : Nat) : List (Nat × Nat) := match old with | some o => o.areXps.flatMap fun r => r.region b | none => []
  let fresh (b : Nat) : List (Nat × Nat) := (l.areXps.filter fun r => !carriedXp old r).flatMap fun r => r.region b
  least [failAt i.areWins fun w => decide (w.stop < w.start + l.winCycles w + 14) || decide (w.stop > Config.fullDeadline),
    firstClash i.areWins fun x y => x.tile == y.tile && meets x.start (x.stop - x.start) y.start (y.stop - y.start),
    failAt i.areIns fun r => (l.areXps.any fun x => x.input == r.input && decide (r.hlen < x.taps + 6 * r.rmult - 1)) ||
      decide (r.hbase + r.hlen > 4194304) || !s.holdsRange p 8 noUnit r.hbase r.hlen ||
      (!carriedIn old r && (match old with
        | some o => o.areIns.any fun q => meets q.hbase q.hlen r.hbase r.hlen
        | none => false)),
    firstClash i.areIns fun x y => meets x.hbase x.hlen y.hbase y.hlen,
    failAt i.areXps fun r => !carriedXp old r && ((r.region 0).any (fun e => (oldRegions 0).any fun o => meets o.1 o.2 e.1 e.2) ||
      (r.region 1).any fun e => (oldRegions 1).any fun o => meets o.1 o.2 e.1 e.2),
    failAt i.areCoefs fun r => !covers (fresh r.bank) r.offset r.coefs.length,
    firstClash i.areCoefs fun x y => x.bank == y.bank && meets x.offset x.coefs.length y.offset y.coefs.length]
/-- Coefficient and state ranges of a group, as first and count. -/
def FcuGroup.coefs (g : FcuGroup) : List (Nat × Nat) := g.stages.flatMap Stage.coefRanges
/-- State ranges of a group. -/
def FcuGroup.states (g : FcuGroup) : List (Nat × Nat) := (g.stages.filter fun st => st.stateWords != 0).map fun st => st.stateRange g.xf
/-- Do two lists of ranges meet. -/
def rangesMeet (a b : List (Nat × Nat)) : Bool := a.any fun x => b.any fun y => meets x.1 x.2 y.1 y.2
/-- Does a list of ranges meet itself. -/
def selfMeet : List (Nat × Nat) → Bool
  | [] => false
  | x :: t => (t.any fun y => meets x.1 x.2 y.1 y.2) || selfMeet t
/-- Faults of the FCU sections (05, R144, R159). -/
def State.badFcu (s : State) (p : Nat) (i : Image) (old : Option Last) : Option Nat :=
  let written (u : Nat) : List (Nat × Nat) := (i.fcuCoefs.filter fun r => r.v.fcu == u).map fun r => (r.v.offset, r.v.words.length)
  let oldGroups (u : Nat) : List FcuGroup := match old with | some o => o.groups.filter fun g => g.fcu == u | none => []
  least [failAt i.groups fun g => decide (g.stop < g.start + g.slots + (g.stages.getLast?.map (·.latency)).getD 0) ||
      decide (g.stop > Config.fullDeadline),
    firstClash i.groups fun x y => x.fcu == y.fcu && (x.group == y.group || meets x.start (x.stop - x.start) y.start (y.stop - y.start)),
    failAt i.groups fun g => g.coefs.any (fun e => !s.holdsRange p 16 g.fcu e.1 e.2) ||
      g.states.any (fun e => !s.holdsRange p 17 g.fcu e.1 e.2) || selfMeet g.states ||
      g.coefs.any (fun e => !covers (written g.fcu) e.1 e.2) ||
      (oldGroups g.fcu).any fun o => rangesMeet o.coefs g.coefs ||
        (rangesMeet o.states g.states && !(o.group == g.group && carriedGroup old g)),
    firstClash i.groups fun x y => x.fcu == y.fcu && (rangesMeet x.coefs y.coefs || rangesMeet x.states y.states),
    failAt i.fcuCoefs fun r => decide (r.offset + r.words.length > 16384) ||
      ((List.range 16).filterMap s.last).any fun l => l.groups.any fun o =>
        o.fcu == r.fcu && rangesMeet o.coefs [(r.offset, r.words.length)],
    firstClash i.fcuCoefs fun x y => x.fcu == y.fcu && meets x.offset x.words.length y.offset y.words.length]
/-- 0x18 BLOCK_BUDGET (02, R72; 05, R144, R159; 06, R177 to R183). -/
def State.badBlocks (s : State) (p : Nat) (i : Image) : Option Nat :=
  let old := s.last p
  let m := leAt i.bytes 0xE 1
  least [failAt i.buses fun r => decide (((i.xps.filter fun x => x.v.bus == r.bus).length + 2) * (6 * m) > r.lanes * (r.stop - r.start)) ||
      decide (r.stop > Config.fullDeadline),
    firstClash i.buses fun x y => meets x.lane x.lanes y.lane y.lanes && meets x.start (x.stop - x.start) y.start (y.stop - y.start),
    s.badFcu p i old, s.badAre p i old]

/-- Slots that a port offers to plots (15, R422, Table 15.2). -/
def slotsOffered (port first count : Nat) : Bool := decide (port < 23) && (!(port == 20 || port == 21) || (first % 2 == 0 && count == 1))
/-- 0x19 TRELLIS (15, R428, R552). -/
def State.badTrellis (s : State) (p : Nat) (i : Image) : Option Nat :=
  let listed (port : Nat) : List (Nat × Nat) := (i.slots.filter fun r => r.v.port == port).map fun r => (r.v.first, r.v.count)
  least [failAt i.slots fun r => !slotsOffered r.port r.first r.count || !s.holdsRange p 24 r.port r.first r.count,
    firstClash i.slots fun x y => x.port == y.port && meets x.first x.count y.first y.count,
    failAt i.windows fun w => (w.ports.any fun port => !s.holdsRange p 24 port w.slot w.count || !covers (listed port) w.slot w.count) ||
      (w.port != 20 && w.port != 21 && decide (w.length > w.count * 4096)),
    firstClash i.windows fun x y => (x.ports.any fun a => y.ports.contains a) && meets x.slot x.count y.slot y.count]
/-- Length of a round in ns, as GATE ranges count it (07, after Table 7.2). -/
def roundNs (family : Nat) : Nat := if family = 0 then 1000000 else 1088432
/-- Units of a kind and UNIT that a plot holds. -/
def State.heldCount (s : State) (p kind unit : Nat) : Nat :=
  sumN ((s.holdings.filter fun h => h.kind == kind && h.unit == unit && h.plot == p && h.scrub.isNone).map (·.count))
/-- 0x1A GATE (11, R340). -/
def State.badGate (s : State) (p : Nat) (i : Image) : Option Nat :=
  let oldCount (n : Nat) : Nat := match s.last p with | some l => (l.gates.filter fun g => g.port == n).length | none => 0
  let bad := least [failAt i.gates fun g => g.start % 8 != 0 || g.length % 8 != 0 || decide (g.length < 8) ||
      decide (g.start + g.length > roundNs s.family) || !s.holdsRange p 25 g.port g.start g.length,
    firstClash i.gates fun x y => x.port == y.port && meets x.start x.length y.start y.length,
    least ((i.sects.filter fun x => x.ty == 0xD).map fun x =>
      failIf (decide (s.heldCount p 29 x.target < 2 * max (i.gates.filter fun g => g.v.port == x.target).length (oldCount x.target))) x.head)]
  if bad.isSome then bad
  else match s.launchFault p i.toLast with
    | some n => some (i.section_ 0xD n)
    | none => none
/-- 0x1B DRAM (15, R428). -/
def badDram (i : Image) : Option Nat :=
  failAt i.windows fun w => (w.port == 20 || w.port == 21) && decide (w.length > w.count * 1024)
/-- 0x1C PATH (R40, R548; 15, R428). -/
def badPath (i : Image) : Option Nat :=
  let l := i.toLast
  least [failAt i.windows fun w => !(l.tasks.any fun t => t.id == w.task && t.core == w.core),
    failAt i.paths fun q => match l.derive l.routes q.sink with
      | some e => e.1 != q.latency || (e.2 != [] && !e.2.contains q.origin)
      | none => true,
    firstClash i.paths fun x y => x.sink == y.sink,
    failAt i.routes fun r => !r.none && isEgress r.sink && !(l.paths.any fun q => q.sink == r.sink)]
/-- Bounds of a swap tick, and the earliest one (R43): the checks complete in tick N. -/
def State.swapTick (s : State) (want : Nat) : Option Nat :=
  let lo := s.tick + (if s.paired then 64 else 16)
  let t := if want = 0 then lo else want
  if t < lo ∨ t > s.tick + 16777216 then none else some t

/-- The first failing check of an image for a plot: code and detail (R42, Table 1.14). -/
def State.installFault (s : State) (p : Nat) (b : List Byte) (owner : Bool) (want : Nat) : Option (Nat × Nat) :=
  let i := readImage b
  let old := s.last p
  let checks : List (Nat × (Unit → Option Nat)) :=
    [(1, fun _ => badMagic b), (2, fun _ => badFormat b), (3, fun _ => badSize b), (4, fun _ => badHdrCrc b),
     (5, fun _ => badDigest b), (6, fun _ => badBounds b), (7, fun _ => badCrc i.sects), (8, fun _ => badType i.sects),
     (9, fun _ => badMissing i old), (0xA, fun _ => badRes i), (0xB, fun _ => failIf (leAt b 0xC 1 != p || !owner) 0),
     (0xC, fun _ => failIf (leAt b 0xD 1 != s.family) 0), (0xD, fun _ => s.badQuota p i), (0xE, fun _ => s.badOwner p i),
     (0xF, fun _ => s.badRoute p i), (0x10, fun _ => s.badHandoff p i), (0x11, fun _ => badOverlap i),
     (0x12, fun _ => badBudget i), (0x13, fun _ => badDeadline i), (0x14, fun _ => badIngest i), (0x15, fun _ => badHalf i),
     (0x16, fun _ => badMemory i), (0x17, fun _ => badPm i old), (0x18, fun _ => s.badBlocks p i), (0x19, fun _ => s.badTrellis p i),
     (0x1A, fun _ => s.badGate p i), (0x1B, fun _ => orLess (failIf s.rst.dramFail 0) (badDram i)), (0x1C, fun _ => badPath i),
     (0x1D, fun _ => failIf (s.swapTick want).isNone 0)]
  checks.findSome? fun e => (e.2 ()).map fun d => (e.1, d)

end Sys2Proof.Machine
end

