-- ==== Sys2Proof/Machine/Area.lean ====
section
/-!
DEFINITION. The trellis address map byte by byte (15, Table 15.4): DRAM, bed memory, clusters, coefficient banks, history
store, FCU memories, and the tables whose layout the spec does not give; the pages of graft (08, R255).
-/
namespace Sys2Proof

/-- What the mix tables and the engine state tables of a chip hold (08, R255). -/
structure Machine.EngineTables where
  sinks : Machine.NTable Machine.SinkSt
  buses : Machine.NTable Machine.BusSt
  xps : Machine.NTable Machine.XpSt
  gens : Machine.NTable Machine.GenSt
  trackers : Machine.NTable Machine.TrackerSt
  bridges : Machine.NTable (List (Nat × Int))
  sils : Machine.NTable Machine.SilSt
  pscs : Machine.NTable Machine.PscSt
  ncos : Machine.NTable Nat
  txSeqs : Machine.NTable Nat
  deriving DecidableEq, Repr, Inhabited

/-- The tables that their pages hold; their layout in bytes is not stated (08, R255; log entry 205). -/
opaque Config.engineTables : Machine.NTable Byte → Machine.EngineTables
/-- The bytes of a page of them, by its address (log entry 205). -/
opaque Config.tablePage : Machine.EngineTables → Nat → List Byte

namespace Machine

/-- Is an address in DRAM, bed memory or a cluster, which the state holds byte by byte. -/
def plainMemory (a : Nat) : Bool := decide (a < 0x400000000) || (decide (0x4000000000 ≤ a) && decide (a < 0x4200000000))
/-- First byte of the mix tables (15, Table 15.4) and of the engine state tables, which the map does not place (log entry
205). -/
def mixTables : Nat := 0x4401000000
/-- First byte of the engine state tables. -/
def stateTables : Nat := 0x8000000000
/-- A store of words outside the byte memory: coefficient banks, history, FCU coefficients, FCU state. -/
inductive WordArea where
  | coef | hist | fcuCoef | fcuState
  deriving DecidableEq, Repr
/-- The word that a byte of such a store belongs to: its store, its key, the bytes of a word, the byte's place in it. -/
def wordAt (a : Nat) : Option (WordArea × Nat × Nat × Nat) :=
  if 0x4200000000 ≤ a ∧ a < 0x4208000000 then
    let b := (a - 0x4200000000) / 0x4000000
    let o := (a - 0x4200000000) % 0x4000000
    if o < 0x3000000 then some (.coef, b * 16777216 + o / 3, 3, o % 3) else none
  else if 0x4300000000 ≤ a ∧ a < 0x4301000000 then some (.hist, (a - 0x4300000000) / 4, 4, a % 4)
  else if 0x4400000000 ≤ a ∧ a < 0x4401000000 then
    let u := (a - 0x4400000000) / 0x40000
    let o := (a - 0x4400000000) % 0x40000
    if o < 0x20000 then some (.fcuCoef, u * 32768 + o / 4, 4, o % 4)
    else if o < 0x30000 then some (.fcuState, u * 16384 + (o - 0x20000) / 4, 4, o % 4)
    else none
  else none
/-- The words of a store. -/
def State.area (s : State) : WordArea → NTable Int
  | .coef => s.areCoef | .hist => s.hist | .fcuCoef => s.fcuCoef | .fcuState => s.fcuState
/-- Write a word of a store. -/
def State.setArea (s : State) (w : WordArea) (k : Nat) (v : Int) : State :=
  match w with
  | .coef => { s with areCoef := NTable.put 0 s.areCoef k v }
  | .hist => { s with hist := NTable.put 0 s.hist k v }
  | .fcuCoef => { s with fcuCoef := NTable.put 0 s.fcuCoef k v }
  | .fcuState => { s with fcuState := NTable.put 0 s.fcuState k v }
/-- Is an address in the tables whose layout is not stated. -/
def inTables (a : Nat) : Bool := (decide (mixTables ≤ a) && decide (a < mixTables + 0x300000)) || decide (stateTables ≤ a)
/-- A byte of the map. -/
def State.mapByte (s : State) (a : Nat) : Byte :=
  match wordAt a with
  | some (w, k, n, i) => BitVec.ofNat 8 (leAt (leBytesI n (NTable.get 0 (s.area w) k)) i 1)
  | none => if inTables a then NTable.get 0 s.memory.tables a else s.byte a
/-- Write a byte of the map. -/
def State.putByte (s : State) (a : Nat) (b : Byte) : State :=
  match wordAt a with
  | some (w, k, n, i) => s.setArea w k (leAtS ((leBytesI n (NTable.get 0 (s.area w) k)).set i b) 0 n)
  | none =>
    if inTables a then { s with memory := { s.memory with tables := NTable.put 0 s.memory.tables a b } }
    else if plainMemory a then { s with mem := NTable.put 0 s.mem a b } else s
/-- The tables that the engine holds now. -/
def State.engineTables (s : State) : EngineTables :=
  { sinks := s.sinks, buses := s.buses, xps := s.xps, gens := s.gens, trackers := s.trackers, bridges := s.bridges, sils := s.sils, pscs := s.pscs, ncos := s.clk.ncos
    txSeqs := s.txs.map fun (e : Nat × TxSt) => (e.1, e.2.seq) }
/-- The engine takes tables. -/
def State.takeTables (s : State) (t : EngineTables) : State :=
  { s with
    sinks := t.sinks, buses := t.buses, xps := t.xps, gens := t.gens, trackers := t.trackers, bridges := t.bridges, sils := t.sils, pscs := t.pscs, clk := { s.clk with ncos := t.ncos }
    txs := t.txSeqs.foldl (fun x (e : Nat × Nat) => NTable.mod {} x e.1 fun y => { y with seq := e.2 }) s.txs }
/-- Bytes of the map. -/
def State.mapBytes (s : State) (a n : Nat) : List Byte :=
  if inTables a then Config.tablePage s.engineTables a
  else if plainMemory a then s.bytes a n else (List.range n).map fun i => s.mapByte (a + i)
/-- Write bytes of the map (15, Table 15.4): a word of a store takes the bytes that fall in it; the tables of the engine
follow their pages. -/
def State.mapStore (s : State) (a : Nat) (b : List Byte) : State :=
  if plainMemory a then s.store a b
  else
    let s1 := (b.zipIdx a).foldl (fun s e => s.putByte e.2 e.1) s
    (if inTables a then s1.takeTables (Config.engineTables s1.memory.tables) else s1).touch a b.length
/-- Pages of 4 KiB of each part of the map that graft copies (08, R255): first byte and number; DRAM as installed. -/
def State.pageAreas (s : State) : List (Nat × Nat) :=
  let dram (c : Nat) : Nat := match leAt s.rst.opt (0x0C + c) 1 with | 0 => 0 | 1 => 0x1C0000 | _ => 0x200000
  [(0, dram 0), (0x200000000, dram 1), (bedBase, 8192)] ++
    ((List.range 16).map fun c => (0x4100000000 + c * 0x1000000, 1152)) ++
    [(0x4200000000, 12288), (0x4204000000, 12288), (0x4300000000, 4096)] ++
    ((List.range 64).map fun u => (0x4400000000 + u * 0x40000, 48)) ++ [(mixTables, 768), (stateTables, 1)]
/-- Address of the k-th page of areas. -/
def pageIn : List (Nat × Nat) → Nat → Option Nat
  | [], _ => none
  | (a, n) :: t, k => if k < n then some (a + 4096 * k) else pageIn t (k - n)

end Machine
end Sys2Proof
end

