-- ==== Sys2Proof/Machine/Memory.lean ====
section
/-!
DEFINITION. The trellis and the memories behind it: responses, leftover traffic, DMA windows, patrol scrub, the DRAM
controllers (15_trellis_and_memory).
-/
namespace Sys2Proof.Machine

/-- Bytes of DRAM mapped behind a controller (R437). -/
def State.dramBytes (s : State) (c : Nat) : Nat :=
  match leAt s.rst.opt (0x0C + c) 1 with | 0 => 0 | 1 => 0x1C0000000 | _ => 0x200000000
/-- Does a master reach an address (Table 15.4, R425). M0 to M15 reach what windows name. -/
def State.trellisReach (s : State) (m a : Nat) : Bool :=
  let inR (lo n : Nat) : Bool := decide (lo ≤ a) && decide (a < lo + n)
  let win := decide (m < 16)
  let gard := decide (22 ≤ m) && decide (m ≤ 25)
  if inR 0 (s.dramBytes 0) || inR 0x200000000 (s.dramBytes 1) then win || (decide (18 ≤ m) && decide (m ≤ 26))
  else if inR 0x4000000000 0x2000000 then win || (decide (16 ≤ m) && decide (m ≤ 26))
  else if inR 0x4100000000 0x10000000 then
    let off := (a - 0x4100000000) % 0x1000000
    if off < 0x400000 then win || m == 19 || m == 20 || gard
    else if off < 0x480000 then m == 19 || m == 20 || gard
    else false
  else if inR 0x4200000000 0x3000000 || inR 0x4204000000 0x3000000 then m == 18 || m == 19 || m == 20 || gard
  else if inR 0x4300000000 0x1000000 then m == 16 || m == 19 || m == 20 || gard
  else if inR 0x4400000000 0x1000000 then
    decide ((a - 0x4400000000) % 0x40000 < 0x30000) && (m == 18 || m == 19 || m == 20 || gard)
  else if inR 0x4401000000 0x300000 then m == 18 || m == 19 || m == 20 || gard
  else if inR 0x4500000000 0x400000 then m == 16 || m == 17 || m == 19 || gard
  else if inR 0x5000000000 0x1000000 || inR 0x5100000000 0x1000000 then decide (22 ≤ m) && decide (m ≤ 27)
  else if inR 0x5110000000 0x10000000 then gard || m == 27
  else if inR 0x5200000000 0x100000 then m == 19 || gard
  else if inR 0x5300000000 0x200000 then gard
  else if inR 0x6000000000 0x2000000000 then decide (21 ≤ m) && decide (m ≤ 25)
  else false
/-- A response other than OKAY: counted, recorded, and of M16 to M21 logged (R433). Causes: 0 ECC, 1 PARITY,
2 TIMEOUT, 3 LINK; none is DECERR. -/
def State.trellisError (s : State) (m a : Nat) (cause : Option Nat) : State :=
  let kind := if cause.isSome then 2 else 1
  let c := cause.getD 0
  let s1 := s.bump (if cause.isSome then Reg.trlSlverr else Reg.trlDecerr)
  let s2 := (s1.when (decide (cause = some 2)) fun s => s.bump Reg.trlTimeout).when (decide (cause = some 1)) fun s =>
    s.bump Reg.trlParity
  let s3 := s2.setReg Reg.trlLastErr ((((kind * 256 + c) * 256 + m) * 1099511627776 + a : Nat) : Int)
  s3.when (decide (16 ≤ m) && decide (m ≤ 21)) fun s =>
    s.logEvent 0x0501 2 16 (m * 16777216 + c * 65536 + a / 4294967296) a
/-! Leftover traffic (R423, R431). -/

/-- Target port of an address (Table 15.4). -/
def targetPort (a : Nat) : Nat :=
  if a < 0x200000000 then 20 else if a < 0x400000000 then 21
  else if a < 0x4100000000 then 16 + (a - 0x4000000000) / 0x800000 % 4
  else if a < 0x4200000000 then (a - 0x4100000000) / 0x1000000 % 16
  else if a < 0x4500000000 then 23 else if a < 0x5000000000 then 24 else if a < 0x5100000000 then 25
  else if a < 0x5200000000 then 26 else if a < 0x5300000000 then 27 else if a < 0x6000000000 then 29 else 28
/-- Leftover priority of a master, 1 the highest (Table 15.1). -/
def leftoverRank (m : Nat) : Nat := if m = 18 then 3 else if m = 19 then 2 else if m = 20 then 1 else if m = 21 then 4 else m - 17
/-- Does an active or shadow last of any plot book a slot of a port (R431, R552). -/
def State.slotBooked (s : State) (port slot : Nat) : Bool :=
  (List.range 16).any fun p => [(s.plot p).active, (s.plot p).shadow].any fun l => match l with
    | some l => l.slots.any fun r => r.port == port && decide (r.first ≤ slot) && decide (slot < r.first + r.count)
    | none => false
/-- Is a slot of a port leftover: none where it is not, else whether its beats rotate (R423, R431, Table 15.3). The engine's own
slots count as used in every tick (log entry 220, DESIGN CHOICE). -/
def State.leftoverSlot (s : State) (port slot : Nat) : Option Bool :=
  if port = 20 ∨ port = 21 then
    (if slot % 8 = 7 then none else if slot ≥ 2992 then some true
     else if slot % 2 = 0 ∧ slot < 2880 ∧ !s.slotBooked port slot then some false else none)
  else if slot ≥ 2992 then some true
  else if port ≤ 22 then (if slot < 2880 ∧ !s.slotBooked port slot then some false else none)
  else some false
/-- The master that a beat goes to: the highest priority, or the next in rotation (R431). -/
def TrellisPort.pick (x : TrellisPort) (rotate : Bool) : Option TrReq :=
  let key (r : TrReq) : Nat := if rotate then (r.master + 27 - x.last) % 28 else leftoverRank r.master
  x.waiting.foldl (fun b r => match b with | some c => if key r < key c then some r else b | none => some r) none
/-- A beat of a waiting request in a cycle of the tick: its bytes move; the last one, or a response other than OKAY, ends it (R431, R433). -/
def State.trellisBeat (s : State) (port : Nat) (rotate : Bool) (cycle : Nat) : State :=
  let x := NTable.get {} s.trellis port
  match x.pick rotate with
  | none => s
  | some r =>
    let n := 64 - r.addr % 64
    let rest : TrReq := { r with addr := r.addr + n, data := r.data.drop n, more := r.more - 1 }
    let ends := r.cause.isSome || r.more ≤ 1
    let x1 : TrellisPort := { x with
      waiting := if ends then x.waiting.erase r else x.waiting.map fun q => if q = r then rest else q
      last := if rotate then r.master else x.last, upTo := cycle + 1 }
    let s1 := { s with trellis := NTable.put {} s.trellis port x1 }
    match r.cause with
    | some c => s1.trellisError r.master r.addr (some c)
    | none => s1.mapStore r.addr (r.data.take n)
/-- Beats of one slot of a port, from a cycle of the tick to another. -/
def State.trellisSlot (s : State) (port slot c e : Nat) : State :=
  match s.leftoverSlot port slot with
  | none => s
  | some rotate => overN (min e (64 * slot + 64) - max c (64 * slot)) (fun s i => s.trellisBeat port rotate (max c (64 * slot) + i)) s
/-- A port carries leftover beats up to a cycle of the tick. -/
def State.trellisPortTo (s : State) (port e : Nat) : State :=
  let x := NTable.get {} s.trellis port
  let c := max x.upTo s.cycle
  if x.waiting = [] ∨ e ≤ c then s else overN ((e + 63) / 64 - c / 64) (fun s i => s.trellisSlot port (c / 64 + i) c e) s
/-- Every port with requests carries leftover beats up to a cycle of the tick (R431). -/
def State.trellisTo (s : State) (e : Nat) : State :=
  overL ((s.trellis.filter fun (x : Nat × TrellisPort) => x.2.waiting != []).map (·.1)) (fun s port => s.trellisPortTo port e) s
/-- The tick closes: the rest of its leftover cycles; the rotation goes on in the next (R431). -/
def State.trellisClose (s : State) : State :=
  let s1 := s.trellisTo Config.cyclesPerTick
  { s1 with trellis := s1.trellis.foldl (fun t (e : Nat × TrellisPort) => NTable.put {} t e.1 { e.2 with upTo := 0 }) [] }
/-- TRELLIS_RESPONSE: a request of a master gets its response; a write that is not OKAY changes nothing, an OKAY write reaches its
memory (R425, R433, R434). What M18 to M27 move is carried in leftover cycles: their requests wait for the cycles of the target
port, which go by priority and in the last slots by rotation; those of the slot under way are carried at once (R431). -/
def execTrellisResponse (m : Fin 28) (addr : Fin 1099511627776) (data : List Byte) (cause : Option (Fin 4)) (s : State) :
    Out :=
  if !s.trellisReach m addr then .next (s.trellisError m addr none)
  else if m.val < 18 then
    match cause with
    | some c => .next (s.trellisError m addr (some c))
    | none => .next (s.mapStore addr data)
  else
    let port := targetPort addr
    let r : TrReq := { master := m, addr := addr, data := data, cause := cause.map (·.val)
                       more := max 1 ((addr.val % 64 + data.length + 63) / 64) }
    let s1 := { s with trellis := NTable.mod {} s.trellis port fun x => { x with waiting := x.waiting ++ [r] } }
    .next (s1.trellisPortTo port (64 * (s.cycle / 64 + 1)))

/-- Latency L of a window's end (R427). -/
def DmaWin.latency (w : DmaWin) : Nat := if w.dir = 0 ∧ (w.port = 20 ∨ w.port = 21) then 448 else 24
/-- End of a window (R427). -/
def DmaWin.stop (w : DmaWin) : Nat := 64 * (w.slot + w.count) + w.latency
/-- Far address of byte i of a window in tick n (R426). -/
def DmaWin.farAt (w : DmaWin) (n i : Nat) : Nat :=
  if w.wrap = 0 then w.far + i else w.far + (((w.offset : Int) + n * w.adv + i) % w.wrap).toNat
/-- Samples of a block laid out by 03, R96. -/
def blockBytes (b : List Sample) : List Byte := b.flatMap fun x => leBytesI 4 x
/-- A block from its bytes. -/
def bytesBlock (b : List Byte) : List Sample := (records 4 b).map fun w => leAtS w 0 4
/-- Bytes with failed beats of 64 bytes zero (R430). -/
def zeroBeats (failed : List Nat) (b : List Byte) : List Byte :=
  b.mapIdx fun i x => if failed.contains (i / 64) then 0 else x
/-- Bytes a window moves in a cycle: 16 on a DRAM port, 64 on any other (Table 15.2). -/
def DmaWin.rate (w : DmaWin) : Nat := if w.port = 20 ∨ w.port = 21 then 16 else 64
/-- Cycle in which a window writes its first byte: its slots begin, and L passes (R427; log entry 200, DESIGN CHOICE). -/
def DmaWin.writes (w : DmaWin) : Nat := 64 * w.slot + w.latency
/-- A window writes bytes to a core's memory: loads of the cycles before see what stood there (03, R95). -/
def State.dmaStore (s : State) (own a start rate : Nat) (b : List Byte) : State :=
  (s.modCore own fun k => { k with dma := k.dma ++ [{ addr := a, old := s.bytes a b.length, start := start, rate := rate }] }).store
    a b
/-- The core in whose memory a cluster port's address lies (Table 15.4). -/
def clusterOwner (port a : Nat) : Nat := 8 * port + (a - 0x4100000000) % 0x200000 / 0x40000
/-- A window moves its bytes; a failed beat moves zeros (R426, R430). A task that overran leaves zero blocks, and its
next complete run ramps them up (01, R52, R53). -/
def State.moveWindow (s : State) (p : Nat) (w : DmaWin) (failed : List Nat) : State :=
  let near := nearAddr w.core w.near
  if w.dir = 0 then
    let b := if w.signal then blockBytes (padTo (w.length / 4) (s.sinkBlock p w.sig))
      else (List.range w.length).map fun i => s.byte (w.farAt s.tick i)
    s.dmaStore w.core near w.writes w.rate (zeroBeats failed b)
  else
    let b := zeroBeats failed (s.bytes near w.length)
    if w.signal then
      let t := s.task p w.task
      let x := bytesBlock b
      s.setSource w.sig (if t.overran then silence x else if t.rampUp && t.done then rampUp x else x)
    else if w.port ≤ 15 then overL b.zipIdx (fun s e =>
      s.dmaStore (clusterOwner w.port (w.farAt s.tick e.2)) (w.farAt s.tick e.2) (w.writes + e.2 / w.rate) w.rate [e.1]) s
    else overL b.zipIdx (fun s e => s.store (w.farAt s.tick e.2) [e.1]) s
/-- A failed window: counted; the reading task is stopped at its START, the writing task overran (R430). Of a writing task
the overrun is counted and its outputs stand: no zero block, no ramp, no reload (log entry 185, DESIGN CHOICE). -/
def State.windowFail (s : State) (p : Nat) (w : DmaWin) : State :=
  let s1 := s.bump (Reg.dmaFail p w.win)
  if w.dir = 0 then s1.modTask p w.task fun t => { t with failStart := true }
  else s1.countOverrun p w.core w.task
/-- DMA_WINDOW_RUN: an occurrence runs in its slots, once in a tick; a TRIGGERED one only with a DMAT that retired at
least 16 cycles before its first slot (R426 to R430, R434). -/
def execDmaWindowRun (p : Fin 16) (win : Fin 256) (failed : List Nat) (parity : Bool) (s : State) : Out :=
  match (s.last p).bind fun l => l.windows.find? fun w => decide (w.win = win.val) with
  | none => .next s
  | some w =>
    let key := p.val * 1024 + win.val
    let k : WinSt := NTable.get {} s.wins key
    if k.ran then .next s
    else
      let first := 64 * w.slot
      let on := !w.triggered || (match k.trigger with
        | some t => decide (t + 16 ≤ s.tick * Config.cyclesPerTick + first)
        | none => false)
      let s0 := (s.trellisTo first).advanceTo first
      if !on then
        .next ({ s0 with wins := NTable.put {} s0.wins key { k with ran := true } }.bump (Reg.dmaIdle p win))
      else
        let s1 := { s0 with wins := NTable.put {} s0.wins key { ran := true }, cycle := max s0.cycle w.stop }
        let s2 := (s1.moveWindow p w failed).bump (Reg.dmaRuns p win)
        let s3 := if failed = [] ∧ !parity then s2 else s2.windowFail p w
        .next (if parity then (s3.bump Reg.trlParity).evidence 16 else s3)

/-- Words of a patrol pass: MEM_SEL 0 bed (per port), 1 mix tables, 2 frame memory, 3 gardener SRAM, 4 and 5 DRAM
(Table 15.6); words per tick, and ticks of a pass. -/
def patrolTicks (s : State) (sel : Nat) : Nat :=
  if sel = 0 then 64 else if sel = 1 then 96 else if sel = 2 then 128 else if sel = 3 then 128
  else max 1 (s.dramBytes (sel - 4) / 65536)
/-- MEM_SCRUB: one tick of patrol over each memory; a completed pass counts; corrected errors count (R435). -/
def execMemScrub (corrected : List (Fin 6)) (s : State) : Out :=
  let s1 := overN 6 (fun s sel =>
    let n := NTable.get 0 s.memory.pass sel + 1
    let fin := decide (n ≥ patrolTicks s sel)
    { s with memory := { s.memory with pass := NTable.put 0 s.memory.pass sel (if fin then 0 else n) } }.when fin fun s =>
      s.bump (Reg.memScrubPass sel)) s
  .next (overL corrected (fun s (e : Fin 6) => s.bump (Reg.memCecc e)) s1)
/-- DRAM_DERATE: MR4 is read once per round; the refresh multiple follows, and a device beyond its range sets DRAM_HOT
and refreshes at 4 times (R438). The objects give the higher of the two controllers (log entry 41). -/
def execDramDerate (ctl : Fin 2) (multiple : Nat) (hot : Bool) (mr4 : Nat) (s : State) : Out :=
  let m := if hot then 4 else if multiple ≤ 1 then 1 else if multiple = 2 then 2 else 4
  let was := NTable.get false s.memory.hot ctl
  let mem := { s.memory with derate := NTable.put 1 s.memory.derate ctl m, hot := NTable.put false s.memory.hot ctl hot }
  let s1 := { s with memory := mem }
  let top := max (NTable.get 1 mem.derate 0) (NTable.get 1 mem.derate 1)
  let s2 := (s1.setReg Reg.dramDerate top).setReg Reg.dramHot (if NTable.get false mem.hot 0 || NTable.get false mem.hot 1 then 1 else 0)
  .next (if hot && !was then s2.logEvent 0x0503 1 16 ctl mr4 else s2)

end Sys2Proof.Machine
end

