-- ==== Sys2Proof/Machine/Holdings.lean ====
section
/-!
DEFINITION. Holdings: assignment records, grants, releases, quotas and scrub times (07, R197 to R206).
-/
namespace Sys2Proof.Machine

/-- Records of a port's base list; one record is the default (11, R341). -/
def State.baseRecords (s : State) (n : Nat) : Nat :=
  let next : Nat := match (NTable.get {} s.net.ports n).gclNext with | some e => e.2.length / 8 | none => 0
  max next (max 1 ((s.blob (Reg.netBaseGcl n)).length / 8))
/-- Cells that NET_QCELLS reserves for a queue of a port; 64 by default (11, R324). -/
def State.queueCells (s : State) (n q : Nat) : Nat :=
  let b := s.blob (Reg.netQcells n)
  if b = [] then 64 else leAt b (2 * q) 2
/-- Number of units and granularity of a kind and UNIT; 0 units for a kind or UNIT that there is not (Table 7.2). -/
def State.kindRange (s : State) (kind unit : Nat) : Nat × Nat :=
  let plain (n g : Nat) := if unit = noUnit then (n, g) else (0, 1)
  let upTo (m n g : Nat) := if unit ≤ m then (n, g) else (0, 1)
  match kind with
  | 1 => plain 128 1 | 2 => plain 32768 1 | 3 => plain 16777216 8 | 4 => plain 16777216 8 | 5 => upTo 15 184320 64
  | 6 => plain 1024 1 | 7 => plain 1024 1 | 8 => plain 4194304 2 | 9 => plain 33554432 4096 | 10 => plain 262144 1
  | 11 => plain 2048 1 | 12 => plain 65536 1 | 13 => upTo 15 184320 64 | 14 => upTo 63 16 1 | 15 => upTo 63 184320 64
  | 16 => upTo 63 16384 8 | 17 => upTo 63 16384 8 | 18 => plain 1024 1 | 19 => plain 1024 1
  | 20 => if [2, 3, 7, 8, 15].contains unit then (8192, 1) else (0, 1)
  | 21 => plain 1024 1 | 22 => plain 1024 1 | 23 => plain 256 1 | 24 => upTo 22 2880 1
  | 25 => upTo 23 (roundNs s.family) 8 | 26 => plain 128 1 | 27 => plain 64 2 | 28 => plain 24 1 | 29 => upTo 23 256 1
  | 30 => if unit ≤ 23 then (s.queueCells unit 7, 1) else (0, 1)
  | _ => (0, 1)
/-- Quota code of a kind and amount per unit (Table 7.2). -/
def quotaOf (kind : Nat) : Option (Nat × Nat) :=
  match kind with
  | 1 => some (1, 1) | 2 => some (2, 1) | 3 => some (3, 1) | 4 => some (4, 1) | 5 => some (5, 144) | 8 => some (6, 1)
  | 9 => some (7, 1) | 10 => some (8, 65536) | 11 => some (9, 1) | 12 => some (10, 1) | 15 => some (11, 1)
  | 18 => some (12, 1) | 19 => some (13, 1) | 20 => some (14, 1) | 24 => some (15, 1) | _ => none
/-- Holding of a plot under a quota code. -/
def State.holdingOf (s : State) (p c : Nat) : Nat :=
  sumN ((s.holdings.filter fun h => h.plot == p && h.scrub.isNone).map fun h =>
    match quotaOf h.kind with | some (k, a) => if k = c then a * h.count else 0 | none => 0)

/-- An assignment record (Table 7.1). -/
def readUnits (b : List Byte) : UnitRange := { kind := leAt b 0 1, unit := leAt b 2 2, first := leAt b 4 4, count := leAt b 8 4 }
/-- Bytes of an assignment record. -/
def UnitRange.bytes (u : UnitRange) : List Byte :=
  leBytes 1 u.kind ++ [0] ++ leBytes 2 u.unit ++ leBytes 4 u.first ++ leBytes 4 u.count ++ leBytes 4 0
/-- Is a record well formed (R202, Table 7.3 FORMAT): its kind, UNIT, range, granularity and res bytes; DRAM that is
not installed and slots that the trellis does not offer cannot be granted (15, R422, R425). -/
def State.unitsOk (s : State) (b : List Byte) : Bool :=
  let u := readUnits b
  let r := s.kindRange u.kind u.unit
  res0 b 1 1 && res0 b 12 4 && decide (1 ≤ u.count) && decide (u.first + u.count ≤ r.1) && u.first % r.2 == 0 &&
    u.count % r.2 == 0 &&
    (u.kind != 10 || (List.range 2).all fun c =>
      let e := min (u.first + u.count) ((c + 1) * 131072)
      decide (e ≤ max u.first (c * 131072)) || decide (e ≤ c * 131072 + s.dramBytes c / 65536)) &&
    (u.kind != 24 || slotsOffered u.unit u.first u.count)
/-- Is a holding part of a range. -/
def Holding.meets (h : Holding) (u : UnitRange) : Bool :=
  h.kind == u.kind && h.unit == u.unit && Machine.meets h.first h.count u.first u.count
/-- Is every unit of a range FREE (R197; kind 29 keeps the base list's units, R341). -/
def State.isFree (s : State) (u : UnitRange) : Bool :=
  !(s.holdings.any fun h => h.meets u) && (u.kind != 29 || decide (s.baseRecords u.unit ≤ u.first))
/-- A holding without the units of a range. -/
def Holding.cut (h : Holding) (u : UnitRange) : List Holding :=
  if !h.meets u then [h]
  else
    let e := h.first + h.count
    (if h.first < u.first then [{ h with count := u.first - h.first }] else []) ++
      (if u.first + u.count < e then [{ h with first := u.first + u.count, count := e - (u.first + u.count) }] else [])
/-- Does the plot use units of a range: active, shadow or outgoing last; of gate-list entries and queue-7 cells the
lowest-numbered that they need (R198). -/
def State.plotUses (s : State) (p : Nat) (u : UnitRange) : Bool :=
  let x := s.plot p
  let ls := [x.active, x.shadow, x.outgoing].filterMap id
  if u.kind = 29 ∨ u.kind = 30 then
    let need := (ls.map fun l => if u.kind = 29 then 2 * (l.gates.filter fun g => g.port == u.unit).length
      else s.cellNeed p l u.unit).foldl max 0
    let below := sumN ((s.holdings.filter fun h => h.kind == u.kind && h.unit == u.unit && h.plot == p && h.scrub.isNone &&
      decide (h.first < u.first)).map fun h => min h.count (u.first - h.first))
    decide (below < need)
  else ls.any fun l => l.usesAny u

/-- Set ASSIGN_STATUS and ASSIGN_DETAIL. -/
def State.assignStatus (s : State) (p code pos : Nat) : State :=
  (s.setReg (Reg.assignStatus p) code).setReg (Reg.assignDetail p) pos
/-- First failing record of a grant (R202): code and position. -/
def State.grantFault (s : State) (p : Nat) : Nat → List UnitRange → List (List Byte) → Option (Nat × Nat)
  | _, _, [] => none
  | pos, seen, b :: t =>
    let u := readUnits b
    if !s.unitsOk b || seen.any fun x => x.meets u then some (0x10, pos)
    else if !s.isFree u then some (0x11, pos)
    else
      let excess : Bool := match quotaOf u.kind with
        | some (c, _) =>
          let more := sumN ((u :: seen).map fun x => match quotaOf x.kind with | some (k, a) => if k = c then a * x.count else 0 | none => 0)
          decide (((s.holdingOf p c + more : Nat) : Int) > s.reg (Reg.quota p c))
        | none => false
      if excess then some (0x12, pos) else State.grantFault s p (pos + 1) (u :: seen) t
/-- First failing record of a release. -/
def State.releaseFault (s : State) (p : Nat) : Nat → List UnitRange → List (List Byte) → Option (Nat × Nat)
  | _, _, [] => none
  | pos, seen, b :: t =>
    let u := readUnits b
    if !s.unitsOk b || seen.any fun x => x.meets u then some (0x10, pos)
    else if !s.holdsRange p u.kind u.unit u.first u.count then some (0x14, pos)
    else if s.plotUses p u then some (0x13, pos)
    else State.releaseFault s p (pos + 1) (u :: seen) t
/-- Process a batch of grants or releases against the use as it stands (R202, R203). A grant takes effect at once, a
release at the next boundary. -/
def State.assign (s : State) (p : Nat) (grant : Bool) (batch : List Byte) : State :=
  if batch = [] ∨ batch.length > 4096 ∨ batch.length % 16 ≠ 0 then s.assignStatus p 0x10 0
  else
    let recs := records 16 batch
    match if grant then s.grantFault p 0 [] recs else s.releaseFault p 0 [] recs with
    | some (c, pos) => s.assignStatus p c pos
    | none =>
      let hs := recs.map fun b =>
        let u := readUnits b
        ({ kind := u.kind, unit := u.unit, first := u.first, count := u.count, plot := p, scrub := none } : Holding)
      let s1 := s.setReg (Reg.assignStatus p) 0
      if grant then { s1 with holdings := s1.holdings ++ hs }
      else s1.modPlot p fun x => { x with releases := x.releases ++ hs.map fun h => (s.after 1, h) }
/-- A batch arrives: refused while RESETTING, held during the checks, else processed (R203). -/
def State.takeBatch (s : State) (p : Nat) (grant : Bool) (batch : List Byte) : State :=
  if s.reg (Reg.plotState p) = 3 then s.assignStatus p 0x15 0
  else if s.reg (Reg.lastState p) = 2 then
    (s.modPlot p fun x => { x with waiting := x.waiting ++ [(grant, batch)] }).setReg (Reg.assignStatus p) 1
  else s.assign p grant batch
/-- The batches that waited for the checks (R203). -/
def State.assignWaiting (s : State) (p : Nat) : State :=
  overL (s.plot p).waiting (fun s e => s.assign p e.1 e.2) (s.modPlot p fun x => { x with waiting := [] })

/-- Units that the scrub engine of a memory clears in a tick (Table 7.4); each bank, the history, the bed, the DRAM and
each FCU's coefficient and state words have one engine (log entry 203). -/
def scrubRate : Nat → Option Nat
  | 3 => some 32768 | 4 => some 32768 | 8 => some 65536 | 9 => some 1048576 | 10 => some 32 | 16 => some 4096
  | 17 => some 4096 | _ => none
/-- Ticks of a scrub (R206, Table 7.4) on a free engine, for units that need not stop first. -/
def scrubTicks (u : UnitRange) : Nat :=
  match scrubRate u.kind with
  | some n => max 1 ((u.count + n - 1) / n)
  | none => if u.kind = 1 then 8 else 1
/-- Where a range's scrub ends that starts at this boundary: tick, and the units its engine has cleared in the last tick.
Ranges that one engine clears follow one another at its rate (R206, Table 7.4; log entry 203). -/
def State.scrubEnd (s : State) (h : Holding) : Nat × Nat :=
  match scrubRate h.kind with
  | none => (s.tick + (if h.kind = 1 then 8 else 1), 0)
  | some n =>
    let ends := s.holdings.filterMap fun g =>
      if g.kind = h.kind ∧ g.unit = h.unit then g.scrub.map fun q => (q.1 - 1) * n + g.used else none
    let done := ends.foldl max (s.tick * n) + h.count
    let e := (done + n - 1) / n
    (e, done - (e - 1) * n)

/-- Bits of OVER_MASK whose holding is above quota. -/
def State.overCodes (s : State) (p : Nat) : List Nat :=
  ((List.range 16).map (· + 1)).filter fun c => decide ((s.holdingOf p c : Int) > s.reg (Reg.quota p c))
/-- OVER_MASK and PLOT_FLAGS OVER lose the codes whose holding is at or below quota (R205). -/
def State.clearOver (s : State) (p : Nat) : State :=
  let excess := s.overCodes p
  let m := sumN (((List.range 17).filter fun c => bit (s.reg (Reg.overMask p)) c && excess.contains c).map fun c => 2 ^ c)
  let f := s.nat (Reg.plotFlags p)
  (s.setReg (Reg.overMask p) m).setReg (Reg.plotFlags p) (if m = 0 then f / 2 * 2 else f : Nat)

end Sys2Proof.Machine
end

