-- ==== Sys2Proof/Machine/Handoffs.lean ====
section
/-!
DEFINITION. What a consumer reads of a handoff in a tick (07, R211, R212).
-/
namespace Sys2Proof.Machine

/-- What a plot makes and reads: its last and the routes in effect, which a route edit changes (02, R66, R69). -/
abbrev Serving := Option (Last × List Route)
/-- What a plot makes and reads in this tick. -/
def State.serving (s : State) (p : Nat) : Serving := (s.last p).map fun l => (l, (s.plot p).routes)
/-- What a plot makes and reads after the next boundary: a committed shadow takes effect with its routes, a reset ends the
last; else the due batches and the held records whose sinks' crossfades have ended join the routes (02, R69, R70). -/
def State.servingNext (s : State) (p : Nat) : Serving :=
  let x := s.plot p
  if x.resets.any (fun (e : Nat × Bool) => e.1 == s.tick + 1) then none
  else match s.swapNext p with
    | some l => some (l, l.routes)
    | none => (s.last p).map fun l =>
      let free (r : Route) : Bool := (s.sinkSt r.sink).advance.fade.isNone
      let rs := ((x.held.map (·.route)) ++ (x.batches.filter fun b => decide (b.due ≤ s.tick + 1)).flatMap (·.routes)).filter free
      (l, rs.foldl (fun t r => r :: t.filter fun y => decide (y.sink ≠ r.sink)) x.routes)
/-- Rate multiple at which a plot produces a handoff (R211). -/
def Serving.makes (v : Serving) (x : SigId) : Option Nat :=
  v.bind fun e => if e.2.any fun r => decide (r.sink = x) && !r.none then some e.1.mult else none
/-- Expected rate multiple of a handoff for a plot that reads it (R211). -/
def State.expects (s : State) (v : Serving) (x : SigId) : Option Nat :=
  v.bind fun e => (s.handoffReads e.1 e.2 x).head?
/-- Does the consumer read a handoff, by what producer and consumer serve: produced at the expected rate. -/
def State.matched (s : State) (prod cons : Serving) (x : SigId) : Bool :=
  match prod.makes x, s.expects cons x with
  | some a, some b => a == b
  | _, _ => false
/-- One authorisation delivers its block of this tick: the block of the tick before, kept whole in the table of previous
blocks; ramped down where the reading stops at the next boundary, ramped up where it begins (R212). -/
def State.deliver (s : State) (a : Auth) : State :=
  let x := sigOf 15 a.index
  let raw := NTable.get [] s.prev x
  let open_ := (match a.formAt with | some f => decide (f ≤ s.tick) | none => true) &&
    (match a.withdrawAt with | some w => decide (s.tick < w) | none => true)
  let ok := open_ && raw != [] && s.matched (s.serving a.producer) (s.serving a.consumer) x
  let stops := a.withdrawAt == some (s.tick + 1) || !s.matched (s.servingNext a.producer) (s.servingNext a.consumer) x
  let block := if !ok then silence raw else if stops then rampDown raw else if a.rampUp then rampUp raw else raw
  let s1 := s.setSource x block
  { s1 with auths := s1.auths.map fun b => if b.index = a.index ∧ b.producer = a.producer ∧ b.consumer = a.consumer then { b with now := ok && !stops } else b }
/-- Every authorisation delivers its block of a new tick. -/
def State.deliverAll (s : State) : State :=
  let auths := s.auths.map fun a => { a with rampUp := !a.now }
  overL auths State.deliver { s with auths := auths }
/-- The authorisations of a plot deliver again after its last or its routes have changed at this boundary. -/
def State.deliverOf (s : State) (p : Nat) : State :=
  overL (s.auths.filter fun a => a.producer == p || a.consumer == p) State.deliver s
/-- A producer that served `was` begins to produce at a rate other than a consumer expects: HANDOFF in the consumer's
fault (R211). -/
def State.rateFaults (s : State) (p : Nat) (was : Serving) : State :=
  overL (s.auths.filter fun a => a.producer == p) (fun s a =>
    let x := sigOf 15 a.index
    match (s.serving p).makes x, s.expects (s.serving a.consumer) x with
    | some m, some e => if m = e ∨ was.makes x = some m then s else s.plotFault a.consumer 6
    | _, _ => s) s
/-- A plot's routes have changed at this boundary: its handoffs deliver again, and what it begins to produce is looked at
(R211, R212). -/
def State.served (s : State) (p : Nat) (was : Serving) : State := (s.deliverOf p).rateFaults p was

end Sys2Proof.Machine
end

