-- ==== Sys2Proof/Machine/Routes.lean ====
section
/-!
DEFINITION. Route edits while the last runs (02, R66 to R70), and the tick of a WRITE_AT (16, R455).
-/
namespace Sys2Proof.Machine

/-- The tick at which a WRITE_AT acts and its answer, or the code that refuses it (16, R455). -/
def State.atTick (s : State) (owner t : Nat) (lateOk : Bool) : Except Nat (Nat × Nat) :=
  let e := s.tick + (if s.paired then 8 else 2)
  if let some k := s.pair.toTick then .ok (k, 0)
  else if (s.timed.filter fun x => x.owner == owner).length ≥ 1024 then .error 0x16
  else if t > s.tick + 16777216 then .error 0x13
  else if t < e then (if lateOk then .ok (e, 1) else .error 0x15)
  else .ok (t, 0)
/-- An action on an object of access RWT joins the plot's pending timed actions; its value stands from its application
(16, R455, R456; 17, R475). -/
def State.noteAt (s : State) (t owner : Nat) (r : Reg) (b : List Byte) : State :=
  { s with timed := s.timed ++ [{ tick := t, owner := owner, reg := r, bytes := b }] }
/-- The register writes that belong to actions go with them. -/
def State.dropNoted (s : State) (l : List Timed) : State :=
  { s with due := s.due.filter fun d => !(l.any fun x => x.tick == d.tick && x.target == d.reg) }

/-- Set a plot's ROUTE_EDIT_STATUS. -/
def State.editStatus (s : State) (p code : Nat) : State := s.setReg (Reg.routeEditStatus p) code
/-- A set of routes with one more. -/
def mergeRoute (rs : List Route) (r : Route) : List Route := r :: rs.filter fun x => decide (x.sink ≠ r.sink)
/-- Does a set of routes keep every PATHS latency of a last (R67). -/
def Last.keepsPaths (l : Last) (rs : List Route) : Bool :=
  l.paths.all (fun q => match l.derive rs q.sink with | some e => e.1 == q.latency | none => true) &&
    rs.all fun r => r.none || !isEgress r.sink || l.paths.any fun q => decide (q.sink = r.sink)
/-- First failing record of a batch and its code (R67): `cur` the routes with the records before it applied, `full` those
with the whole batch. -/
def State.batchFail (s : State) (p : Nat) (l : Last) (full : List Route) :
    Nat → List SigId → List Route → List (List Byte) → Option (Nat × Nat)
  | _, _, _, [] => none
  | pos, seen, cur, b :: t =>
    let r := readRoute b
    let next := mergeRoute cur r
    let ho := (s.handoffReads l (cur.filter fun x => decide (x.sink ≠ r.sink)) r.source).head?
    if !routeOk b then some (0x1A, pos)
    else match s.routeCode p l full (seen.contains r.sink) false ho r with
      | some c => some (c, pos)
      | none =>
        if !l.keepsPaths next then some (0x17, pos)
        else State.batchFail s p l full (pos + 1) (r.sink :: seen) next t
/-- Check of a batch (R67), against the routes in effect when it is accepted: what pending or held batches will set does not
count, and without a swap there is no second check (log entry 189, DESIGN CHOICE). -/
def State.checkBatch (s : State) (p : Nat) (l : Last) (recs : List (List Byte)) : Option (Nat × Nat) :=
  let cur := (s.plot p).routes
  s.batchFail p l ((recs.map readRoute).foldl mergeRoute cur) 0 [] cur recs
/-- A batch is refused, or accepted for a tick. -/
def State.acceptBatch (s : State) (p : Nat) (batch : List Byte) (due : Nat) : State :=
  let refuse (c pos : Nat) := (s.editStatus p c).setReg (Reg.routeEditDetail p) pos
  if batch = [] ∨ batch.length > 4096 ∨ batch.length % 16 ≠ 0 then refuse 0x18 0
  else match s.last p with
    | none => refuse 0x1B 0
    | some l =>
      match s.checkBatch p l (records 16 batch) with
      | some (c, pos) => refuse c pos
      | none =>
        let b : RouteBatch :=
          { due := due, routes := (records 16 batch).map readRoute, recheck := false, edit := (s.plot p).edits }
        (s.modPlot p fun x => { x with batches := x.batches ++ [b], edits := x.edits + 1 }).editStatus p 1
/-- ROUTE_EDIT: a batch takes effect two boundaries on (R68). -/
def execRouteEdit (p : Fin 16) (batch : List Byte) (s : State) : Out :=
  .next ((s.acceptBatch p batch s.actTick).reply 0)
/-- ROUTE_EDIT_AT: a batch for a named tick (R68; 16, R455). -/
def execRouteEditAt (p : Fin 16) (t : Nat) (lateOk : Bool) (batch : List Byte) (s : State) : Out :=
  match s.atTick p t lateOk with
  | .error c => .next (s.reply c)
  | .ok (at_, st) =>
    let s1 := s.acceptBatch p batch at_
    .next ((if s1.reg (Reg.routeEditStatus p) = 1 then s1.noteAt at_ p (Reg.routeEditAt p) batch else s1).reply st)

/-- The blocks of a plot's direct routes stand ready to leave in this tick (01, R27, R28). -/
def State.stageDirect (s : State) (p : Nat) : State :=
  overL ((s.plot p).routes.filter fun r => r.direct && !r.none) (fun s r =>
    { s with staged := NTable.put [] s.staged r.sink (s.sinkBlock p r.sink) }) s
/-- Trackers of one direction: clocks kept keep theirs, new ones take the lowest free (02, R85, R88). -/
def State.swapTrackers (s : State) (base : Nat) (clocks : List Nat) : State :=
  let slots := (List.range 8).map (base + ·)
  let s1 := overL slots (fun s t =>
    let c := (s.tracker t).clock
    if c != 0 && !clocks.contains c then (s.setTracker t {}).setRegs [(Reg.trkState t, 0), (Reg.trkRate t, 0), (Reg.trkPpb t, 0)]
    else s) s
  overL clocks (fun s c =>
    if c = 0 ∨ slots.any fun t => (s.tracker t).clock == c then s
    else match slots.find? fun t => (s.tracker t).clock == 0 with
      | some t => (s.setTracker t { clock := c }).setReg (Reg.trkState t) 1
      | none => s) s1
/-- Trackers of a plot follow the clocks of the bridge channels that its routes in effect use (R85). A clock beyond the
eighth that a route edit brings finds no tracker, and its channels stay silent (log entry 190). -/
def State.assignTrackers (s : State) (p : Nat) : State :=
  let rs := (s.plot p).routes
  (s.swapTrackers (8 * p) (s.clocksIn rs)).swapTrackers (128 + 8 * p) (s.clocksOut rs)

/-- One record of an edit: held while its sink crossfades; without a new source only XFADE and FLAGS change; else a
crossfade starts (R65, R69). True where it is held. -/
def State.applyRoute (s : State) (p edit : Nat) (r : Route) : State × Bool :=
  let old := s.routeOf p r.sink
  if (s.sinkSt r.sink).fade.isSome then
    let again := (s.plot p).held.any fun x => decide (x.route.sink = r.sink)
    let s1 := s.modPlot p fun x => { x with held := x.held.filter (fun y => decide (y.route.sink ≠ r.sink)) ++ [⟨edit, r⟩] }
    (s1.when again fun s => s.bump (Reg.routeEditDropped p), true)
  else
    let same := match old with
      | some o => o.none == r.none && (r.none || decide (o.source = r.source))
      | none => r.none
    let s1 := s.modPlot p fun x => { x with routes := mergeRoute x.routes r }
    (if same then s1 else s1.startFade p old r, false)
/-- Position of the first record of a batch after which a derived latency differs from its PATHS record (R67). -/
def Last.lateRecord (l : Last) : Nat → List Route → List Route → Option Nat
  | _, _, [] => none
  | pos, cur, r :: t => if l.keepsPaths (mergeRoute cur r) then Last.lateRecord l (pos + 1) (mergeRoute cur r) t else some pos
/-- Position of the first record of an edit that fails under the last in effect (R70). -/
def State.recheckFail (s : State) (p : Nat) (b : RouteBatch) : Option Nat :=
  let cur := (s.plot p).routes
  let full := b.routes.foldl mergeRoute cur
  match s.last p with
  | none => some 0
  | some l =>
    match (b.routes.zipIdx).find? fun e => (s.routeCode p l full false false
        (s.handoffReads l (cur.filter fun x => decide (x.sink ≠ e.1.sink)) e.1.source).head? e.1).isSome with
    | some e => some e.2
    | none => l.lateRecord 0 cur b.routes
/-- A due batch takes effect, checked again after a swap (R69, R70). -/
def State.applyBatch (s : State) (p : Nat) (b : RouteBatch) : State :=
  match if b.recheck then s.recheckFail p b else none with
  | some pos => ((s.editStatus p 0x19).setReg (Reg.routeEditDetail p) pos).logEvent 0x0304 1 p 0x19 pos
  | none =>
    let r := b.routes.foldl (fun (e : State × Bool) x => let t := e.1.applyRoute p b.edit x; (t.1, e.2 || t.2)) (s, false)
    (((r.1.editStatus p (if r.2 then 2 else 0)).assignTrackers p).served p (s.serving p)).stageDirect p
/-- ROUTE_EDIT_APPLY: the batches due at this boundary, in order of acceptance (R68). -/
def execRouteEditApply (p : Fin 16) (s : State) : Out :=
  let x := s.plot p
  let due := x.batches.filter fun b => decide (b.due ≤ s.tick)
  .next (overL due (fun s b => s.applyBatch p b)
    (s.modPlot p fun x => { x with batches := x.batches.filter fun b => !decide (b.due ≤ s.tick) }))
/-- ROUTE_HELD_APPLY: held records whose sink's crossfade has ended take effect (R69). -/
def execRouteHeldApply (p : Fin 16) (s : State) : Out :=
  let x := s.plot p
  let ready := x.held.filter fun h => (s.sinkSt h.route.sink).fade.isNone
  let s1 := s.modPlot p fun x => { x with held := x.held.filter fun h => (s.sinkSt h.route.sink).fade.isSome }
  let s2 := overL ready (fun s h => (s.applyRoute p h.edit h.route).1) s1
  .next ((((s2.when (decide (ready ≠ []) && (s2.plot p).held == [] && s2.reg (Reg.routeEditStatus p) == 2)
    fun s => s.editStatus p 0).assignTrackers p).served p (s.serving p)).stageDirect p)

end Sys2Proof.Machine
end

