-- ==== Sys2Proof/Machine/LastControl.lean ====
section
/-!
DEFINITION. Install, cancel, commit and swap of a plot last (01, R41 to R50; 02, R70, R71, R78, R85, R88; 03, R97; 04,
R139; 05, R160, R165; 06, R181, R191; 15, R429).
-/
namespace Sys2Proof.Machine

/-- Discard a plot's staged and shadow images with a code (R49, R50). -/
def State.dropImage (s : State) (p code : Nat) : State :=
  (s.modPlot p fun x => { x with staged := none, shadow := none, partnerOk := false, late := false }).setRegs
    [(Reg.lastState p, 0), (Reg.lastError p, code), (Reg.lastErrorDetail p, 0), (Reg.lastShadowSerial p, 0),
     (Reg.lastSwapTick p, 0)]
/-- Does LAST_STATE or a reset refuse a staged image or an install (R41). -/
def State.lastBusy (s : State) (p : Nat) : Bool := decide (s.nat (Reg.lastState p) ≥ 2) || s.reg (Reg.plotState p) == 3
/-- LAST_STAGE: a session with or without the plot-owner role writes the image (R41; code 0x0B). -/
def execLastStage (p : Fin 16) (owner : Bool) (image : List Byte) (s : State) : Out :=
  if s.lastBusy p then .next (s.reply 0x14)
  else .next (((s.modPlot p fun x => { x with staged := some image, stagedOwner := owner }).setReg (Reg.lastState p) 1).reply 0)
/-- LAST_INSTALL: the checks start from STAGED; the value is the swap tick, 0 the earliest (R41, R43). -/
def execLastInstall (p : Fin 16) (t : Nat) (s : State) : Out :=
  if s.reg (Reg.lastState p) ≠ 1 ∨ s.reg (Reg.plotState p) = 3 then .next (s.reply 0x14)
  else .next (((s.modPlot p fun x => { x with wantTick := t }).setReg (Reg.lastState p) 2).reply 0)
/-- LAST_CHECKS_COMPLETE: the first failing check discards the image, or it becomes the shadow (R42, R43, R50); batches
that waited are processed (07, R203). The gardener checks: while it is in reset nothing is checked (20, C18). -/
def execLastChecksComplete (p : Fin 16) (s : State) : Out :=
  let x := s.plot p
  match if s.reg (Reg.lastState p) = 2 ∧ s.rst.kind = 0 then x.staged else none with
  | none => .next s
  | some b =>
    match s.installFault p b x.stagedOwner x.wantTick with
    | some (c, d) =>
      .next ((((s.dropImage p c).setReg (Reg.lastErrorDetail p) d).logEvent 0x0301 1 p c d).assignWaiting p)
    | none =>
      let l := (readImage b).toLast
      .next (((s.modPlot p fun x => { x with shadow := some l, staged := none, partnerOk := false, late := false, nextImage := b }).setRegs
        [(Reg.lastState p, 3), (Reg.lastError p, 0), (Reg.lastErrorDetail p, 0), (Reg.lastShadowSerial p, l.serial),
         (Reg.lastSwapTick p, ((s.swapTick x.wantTick).getD 0 : Nat))]).assignWaiting p)
/-- LAST_CANCEL (R49): always in STAGED and CHECKING, before the boundary of S - 16, or a jump over it, for a shadow; later
TOO_LATE, whatever a jump back makes of the tick number. -/
def execLastCancel (p : Fin 16) (s : State) : Out :=
  let st := s.nat (Reg.lastState p)
  if st = 0 then .next (s.reply 0)
  else if st ≤ 2 ∨ (s.tick + 16 < s.nat (Reg.lastSwapTick p) ∧ (s.plot p).late = false) then .next (((s.dropImage p 0x20).assignWaiting p).reply 0)
  else .next ((s.setRegs [(Reg.lastError p, 0x21), (Reg.lastErrorDetail p, 0)]).reply 0)
/-- A shadow whose boundary of S - 16 has come, or was jumped over, can no longer be cancelled (R49, R50). -/
def State.passLimits (s : State) : State :=
  overN 16 (fun s p =>
    if s.nat (Reg.lastState p) ≥ 3 ∧ s.nat (Reg.lastSwapTick p) ≤ s.tick + 16 then s.modPlot p fun x => { x with late := true } else s) s
/-- Does a swap need the partner's word: LOCKSTEP, SPLIT, or a graft from MIRROR on (R48; 08, R258). -/
def State.swapsTogether (s : State) : Bool :=
  s.reg Reg.pairState == 3 || s.reg Reg.pairState == 5 || (s.reg Reg.pairState == 2 && decide (s.reg Reg.graftPhase ≥ 4))
/-- Write coefficients of a bank of the array renderer. -/
def State.putCoefs (s : State) (bank off : Nat) (cs : List Int) : State :=
  let t := (cs.zipIdx off).foldl (fun (t : NTable Int) (e : Int × Nat) => NTable.put 0 t (bank * 16777216 + e.2) e.1) s.areCoef
  { s with areCoef := t }.touch (0x4200000000 + bank * 0x4000000 + 3 * off) (3 * cs.length)
/-- Fresh regions of the array renderer from ARE_COEF, zero where it leaves a part unwritten (06, R181). -/
def State.writeRegions (s : State) (old : Option Last) (new : Last) : State :=
  let s1 := overL (new.areXps.filter fun r => !carriedXp old r) (fun s r => overN 2 (fun s b => match r.off b with
    | some o => { s with areCoef := s.areCoef.filter fun (e : Nat × Int) =>
        !(decide (b * 16777216 + o ≤ e.1) && decide (e.1 < b * 16777216 + o + r.taps)) }
    | none => s) s) s
  overL new.areCoefs (fun s r => s.putCoefs r.bank r.offset r.coefs) s1
/-- What the engine writes of a committed last before its swap tick: the program and data memory of its cores, the
coefficient words of its FCU groups, the fresh regions and histories of the array renderer, all outside what the active last
uses (03, R98; 04, R139; 05, R159, R160; 06, R181; R46). A last that a warm reset reinstalls finds its coefficients as the
reference copies hold them (18, R489). -/
def State.writeAhead (s : State) (restoring : Bool) (old : Option Last) (new : Last) : State :=
  let s1 := overL new.pm (fun s r => s.store (pmBase r.core + 8 * r.addr) r.code) s
  let s2 := overL (new.dm.filter fun r => !r.live) (fun s r => s.store (nearAddr r.core r.addr) r.bytes) s1
  let s3 := overL (new.areIns.filter fun i => !carriedIn old i) (fun s i =>
    { s with hist := s.hist.filter fun (e : Nat × Int) => !(decide (i.hbase ≤ e.1) && decide (e.1 < i.hbase + i.hlen)) }) s2
  s3.when (!restoring) fun s => (overL new.fcuCoefs (fun s r =>
    (s.putFcuWords r.fcu 0 r.offset r.words).putFcuWords r.fcu 1 r.offset r.words) s).writeRegions old new
/-- The shadow is committed (R50). -/
def State.commit (s : State) (p : Nat) : State :=
  (match (s.plot p).shadow with
    | some new => s.writeAhead (s.plot p).restoring (s.last p) new
    | none => s).setReg (Reg.lastState p) 4
/-- SHADOW_COMMIT (R48, R50): alone at the first boundary at or after S - 16; together with a partner, role A once B has
accepted by S - 32, role B once A has committed by S - 16. -/
def execShadowCommit (p : Fin 16) (s : State) : Out :=
  let t := s.nat (Reg.lastSwapTick p)
  if s.reg (Reg.lastState p) ≠ 3 ∨ t < s.tick then .next s
  else if s.swapsTogether then
    if (s.plot p).partnerOk ∧ s.tick + (if s.reg Reg.pairRole = 0 then 32 else 16) ≤ t then .next (s.commit p)
    else .next s
  else if t ≤ s.tick + 16 then .next (s.commit p)
  else .next s
/-- PAIR_SWAP_TIMEOUT: no acceptance by S - 32 on A, or no commit by S - 16 on B, cancels with PAIR (R48); the source of a
graft swaps alone, and on both chips the graft returns to CONFIG (08, R258). -/
def execPairSwapTimeout (p : Fin 16) (s : State) : Out :=
  let t := s.nat (Reg.lastSwapTick p)
  let a := s.reg Reg.pairRole == 0
  if s.swapsTogether ∧ s.reg (Reg.lastState p) = 3 ∧ t < s.tick + (if a then 32 else 16) then
    let s1 := if a ∧ s.reg Reg.pairState = 2 then s.commit p else s.dropImage p 0x1F
    .next (if s.reg Reg.pairState = 2 then s1.setReg Reg.graftPhase 3 else s1)
  else .next s

/-- Mix buses and crosspoints under the new last (02, R78). A crosspoint whose number stands in both lasts with another
BUS or SOURCE starts from gain 0, as one that is new (log entry 187, DESIGN CHOICE). -/
def State.swapMix (s : State) (p : Nat) (old : Option Last) (new : Last) : State :=
  let n := 6 * new.mult
  let s0 := match old with
    | none => s
    | some o =>
      overL (o.xps.filter fun r => !(new.xps.any fun q => q.xp == r.xp)) (fun s r => s.setXp r.xp {})
        (overL (o.buses.filter fun r => !(new.buses.any fun q => q.bus == r.bus)) (fun s r => s.setBus r.bus {}) s)
  let s1 := overL new.buses (fun s r =>
    let k := s.bus r.bus
    let goal := heads r.mute r.outGain
    let carried := match old with | some o => o.buses.any fun q => q.bus == r.bus | none => false
    let b : BusSt := if carried then { k with plot := p, rec_ := some r, gain := k.gain.start goal (r.ramp * n) r.ampLaw }
      else { plot := p, rec_ := some r, gain := Ramp.rest goal, scale := Ramp.rest unity }
    (s.setBus r.bus b).setRegs [(Reg.busGain r.bus, r.outGain), (Reg.busMute r.bus, if r.mute then 1 else 0),
      (Reg.busRamp r.bus, r.ramp), (Reg.busAuto r.bus, r.auto), (Reg.busScale r.bus, b.scale.now)]) s0
  overL new.xps (fun s r =>
    let k := s.xp r.xp
    let goal := heads r.mute r.gain
    let carried := match old with | some o => o.xps.any fun q => q.xp == r.xp && q.bus == r.bus && q.source == r.source | none => false
    let from0 : Ramp := if carried then k.gain else Ramp.rest 0
    (s.setXp r.xp { plot := p, rec_ := some r, gain := from0.start goal (r.ramp * n) r.ampLaw }).setRegs
      [(Reg.xpGain r.xp, r.gain), (Reg.xpMute r.xp, if r.mute then 1 else 0), (Reg.xpRamp r.xp, r.ramp),
       (Reg.xpLaw r.xp, if r.ampLaw then 1 else 0), (Reg.xpSource r.xp, r.source)]) s1
/-- A group leaves: its state and registers are those of an unused one; a pending swap is cancelled (05, R165). -/
def State.cancelGroup (s : State) (k : Nat) : State :=
  let g := s.grp k
  let code : Nat := if g.swapAt.isSome || g.switchAt.isSome then 0x13 else if g.fading then 0 else s.nat (Reg.swapStatus k)
  s.setReg (Reg.swapStatus k) code
/-- FCU groups under the new last (05, R160, R165). -/
def State.swapFcu (s : State) (p : Nat) (old : Option Last) (new : Last) : State :=
  let s1 := match old with
    | none => s
    | some o => overL (o.groups.filter fun g => !(new.groups.any fun h => h.fcu == g.fcu && h.group == g.group)) (fun s g =>
        let k := grpKey g.fcu g.group
        ((s.cancelGroup k).setGrp k {}).setRegs [(Reg.grpState k, 0), (Reg.grpBank k, 0)]) s
  overL new.groups (fun s g =>
    let k := grpKey g.fcu g.group
    let was := s.grp k
    let s2 := s.cancelGroup k
    let s3 := if !carriedGroup old g then s2.zeroGroupState g
      else if was.fading then overL g.stages (fun s st =>
        s.putState g.fcu st.state (s.fcuWords g.fcu (st.state + 8 * st.stateWords) (8 * st.stateWords))) s2
      else s2
    (s3.setGrp k { plot := p, rec_ := some g, bank := g.bank, rampUp := was.rampUp && carriedGroup old g
                   errorNext := was.errorNext, error := was.error }).setRegs [(Reg.grpState k, 1), (Reg.grpBank k, g.bank)]) s1
/-- The array renderer under the new last (06, R181, R191). -/
def State.swapAre (s : State) (p : Nat) (old : Option Last) (new : Last) : State :=
  let s4 := match old with
    | none => s
    | some o => overL (o.areXps.filter fun r => !(new.areXps.any fun q => q.xp == r.xp)) (fun s r => s.modXp r.xp fun _ => {}) s
  let s5 := overL new.areXps (fun s r => s.modXp r.xp fun x =>
    if carriedXp old r then { x with rec_ := some r }
    else { plot := p, rec_ := some r, bank := r.bank, exp0 := r.exp0, exp1 := r.exp1 }) s4
  let carried : List (Nat × Nat × Nat) := (new.areXps.filter fun r => carriedXp old r).flatMap fun r =>
    ((r.region 0).map fun e => (0, e.1, e.2)) ++ (r.region 1).map fun e => (1, e.1, e.2)
  let inside (w : CoefWrite) : Bool := carried.any fun e => decide (w.bank = e.1) && decide (e.2.1 ≤ w.addr) &&
    decide (w.addr < e.2.1 + e.2.2)
  let s6 := s5.modPlot p fun x => { x with areFifo := x.areFifo.filter inside }
  let s7 := s6.when ((s6.plot p).loading && !((s6.plot p).areFifo.any (·.load))) fun s =>
    (s.modPlot p fun x => { x with loading := false }).setReg (Reg.areImgStatus p) 0
  let s8 := overL (new.areXps.filter fun r => (s7.areXp r.xp).fadePos.isSome) (fun s r =>
    if (s.areSet p r.set).state = 2 then s else
      let was := match old with | some o => (o.areXps.find? fun (q : AreXp) => q.xp == r.xp).map fun (q : AreXp) => q.set | none => none
      s.putSet p r.set ⟨2, (s.areSet p (was.getD r.set)).block⟩) s7
  let s9 := overN 8 (fun s k =>
    if (s.areSet p k).state = 2 ∧ (s.xpsOf p k).all (fun r => (s.areXp r.xp).fadePos.isNone) then (s.putSet p k {}).areStatus p 0
    else s) s8
  overN 8 (fun s k => if (s.areSet p k).state = 1 then (s.putSet p k {}).areStatus p 0x13 else s) s9
/-- Sinks at the swap (R47; 02, R70, R71): `eff` are the routes in effect before it. -/
def State.swapSinks (s : State) (p : Nat) (old : Option Last) (eff : List Route) (new : Last) : State :=
  let xs := ((eff.map (·.sink)) ++ (new.routes.map (·.sink))).eraseDups
  overL xs (fun s x =>
    let was := eff.find? fun r => decide (r.sink = x) && !r.none
    match new.routed x, old with
    | none, _ => s.setSink x {}
    | some r, none => ({ s with staged := NTable.put [] s.staged x [] }).startUp p r
    | some r, some o =>
      if isEgress x && latencyChanges o new x then ({ s with staged := NTable.put [] s.staged x [] }).startUp p r
      else match was with
        | none => s.startFade p none r
        | some w =>
          if w.source = r.source then s
          else if new.produces w.source then s.startFade p (some w) r
          else s.startUp p r) s
/-- A last that a warm reset reinstalls finds its coefficient banks, exponents and active banks as they were (18, R489;
20, C24). -/
def State.keepBanks (s s0 : State) (new : Last) : State :=
  let s2 := overL new.groups (fun s g =>
    let k := grpKey g.fcu g.group
    let b := (s0.grp k).bank
    (s.setGrp k { s.grp k with bank := b }).setReg (Reg.grpBank k) b) s
  overL new.areXps (fun s r =>
    let x := s0.areXp r.xp
    s.modXp r.xp fun y => { y with bank := x.bank, exp0 := x.exp0, exp1 := x.exp1 }) s2
/-- The new last takes effect for ingest, compute and egress together (R45, R50). A last that a warm reset reinstalls
finds its coefficient banks as the reference copies hold them (18, R489). -/
def State.swap (s : State) (p : Nat) (new : Last) : State :=
  let old := s.last p
  let eff := (s.plot p).routes
  let held : List RouteBatch := (((s.plot p).held.map (·.edit)).eraseDups).map fun e =>
    { due := s.tick, routes := ((s.plot p).held.filter fun h => h.edit == e).map (·.route), recheck := true, edit := e }
  let s1 := s.modPlot p fun x => { x with
    active := some new, shadow := none, outgoing := old, image := x.nextImage, nextImage := [], restoring := false, routes := new.routes, held := [], partnerOk := false, late := false
    batches := held ++ x.batches.map fun b => { b with recheck := true }
    trimAt := some (s.tick + 1) }
  let s2 := { s1 with
    tasks := s1.tasks.filter fun (e : Nat × TaskSt) => decide (e.1 / 65536 ≠ p)
    wins := s1.wins.filter fun (e : Nat × WinSt) => decide (e.1 / 1024 ≠ p) }
  let s3 := (((s2.swapMix p old new).swapFcu p old new).swapAre p old new).swapSinks p old eff new
  let s3 := s3.when (s.plot p).restoring fun s3 => s3.keepBanks s new
  let s4 := (s3.assignTrackers p).remakeGens p
  let s5 := (s4.setRegs [(Reg.lastState p, 0), (Reg.lastActiveSerial p, new.serial), (Reg.lastActiveSince p, s.tick),
    (Reg.lastShadowSerial p, 0), (Reg.lastSwapTick p, 0), (Reg.plotState p, 2)])
  let s6 := s5.setReg Reg.chipLastSerial ((s5.reg Reg.chipLastSerial + 1) % 18446744073709551616)
  (s6.served p (s.serving p)).stageDirect p
/-- What LAST_SWAP does to the plot: at the boundary that opens S a committed shadow takes effect; one whose tick was
passed over is cancelled with SKIPPED (R19, R45, R50). True where a last has taken effect. -/
def State.swapDue (s : State) (p : Nat) : State × Bool :=
  match (s.plot p).shadow with
  | none => (s, false)
  | some new =>
    let t := s.nat (Reg.lastSwapTick p)
    if s.tick < t ∨ s.reg (Reg.lastState p) < 3 then (s, false)
    else if t < s.tick then (s.dropImage p 0x22, false)
    else if s.reg (Reg.lastState p) = 4 then (s.swap p new, true)
    else (s, false)

end Sys2Proof.Machine
end

