-- ==== Sys2Proof/Machine/Time.lean ====
section
/-!
DEFINITION. Network time (10_network_time): the time counter and its changes, the PTP servo, the timestamp FIFO, and the
TEV pins.
-/
namespace Sys2Proof.Machine

/-- 2^32 fractions of a nanosecond in one second. -/
def secondUnits : Nat := 1000000000 * 4294967296
/-- Time of the boundary that opens tick n, in 2^-32 ns (01, R14). -/
def State.boundaryTime (s : State) (n : Nat) : Nat := n * secondUnits / s.tps
/-- The time counter now, in 2^-32 ns (01, R14, R17; R271, R292). -/
def State.timeNow (s : State) : Nat :=
  ((((s.tick * 192000 + s.cycle) * secondUnits / (192000 * s.tps) : Nat) : Int) + s.clk.phase).toNat
/-- The time counter in whole nanoseconds. -/
def State.timeNs (s : State) : Nat := s.timeNow / 4294967296
/-- TIME data type: seconds in bits 79:32, nanoseconds in bits 31:0 (00, R11; R292). -/
def timeWord (ns : Nat) : Nat := ns / 1000000000 * 4294967296 + ns % 1000000000
/-- Tick number of a time in 2^-32 ns (01, R14). -/
def State.tickOf (s : State) (t : Nat) : Nat := t * s.tps / secondUnits
/-- A time entry: nanoseconds, then 6 bytes of seconds (Tables 10.4, 10.5). -/
def timeBytes (ns : Nat) : List Byte := leBytes 4 (ns % 1000000000) ++ leBytes 6 (ns / 1000000000)

/-- Who may move the counter in this mode (R295, Table 10.1). -/
def State.hostServo (s : State) : Bool := s.reg Reg.timeMode == 0 && s.reg Reg.timeServoMode == 1
/-- TIME_INCR (R293, R295): 1.998 to 2.002 ns in 2^-48 ns. -/
def execTimeIncr (v : Fin 18446744073709551616) (s : State) : Out :=
  if 1000 * v.val < 1998 * 281474976710656 ∨ 1000 * v.val > 2002 * 281474976710656 then .next (s.reply 0x13)
  else if !s.hostServo then .next (s.reply 0x14)
  else .next ((s.nextWrite Reg.timeIncr (v.val : Int)).reply 0)
/-- TIME_ADJ in 2^-16 ns: replaces the remaining slew (R295, R296). -/
def execTimeAdj (a : Int) (s : State) : Out :=
  if a < -9223372036854775808 ∨ a > 9223372036854775807 then .next (s.reply 0x12)
  else if !s.hostServo then .next (s.reply 0x14)
  else .next ((s.nextWrite Reg.timeAdj a).reply 0)
/-- TIME_STEP in ns (R295, R298). -/
def execTimeStep (d : Int) (s : State) : Out :=
  if d < -9223372036854775808 ∨ d > 9223372036854775807 then .next (s.reply 0x12)
  else .next ((s.modClk fun c => { c with steps := c.steps ++ [(s.after 1, d)] }).reply 0)
/-- TIME_SET: refused with BUSY while a plot has an active last (R299). -/
def execTimeSet (sec : Fin 281474976710656) (ns : Nat) (s : State) : Out :=
  if ns ≥ 1000000000 then .next (s.reply 0x13)
  else if s.anyLast then .next (s.reply 0x14)
  else .next ((s.modClk fun c => { c with sets := c.sets ++ [(s.after 1, sec.val * 1000000000 + ns)] }).reply 0)

/-! TEV pins. -/

/-- A pin. -/
def State.tev (s : State) (n : Nat) : TevSt := NTable.get {} s.tevs n
/-- Change a pin. -/
def State.modTev (s : State) (n : Nat) (f : TevSt → TevSt) : State := { s with tevs := NTable.mod {} s.tevs n f }
/-- TEV_OFFSET to the nearest ns (R312). -/
def State.tevOffsetNs (s : State) (n : Nat) : Int := (s.reg (Reg.tevOffset n) + 500) / 1000
/-- Log an outcome of an action: the last 16 stand (R315). -/
def State.tevLog (s : State) (n : Nat) (a : TevAct) (code : Nat) : State :=
  let e := a.raw.take 1 ++ [BitVec.ofNat 8 code] ++ a.raw.drop 2
  s.modTev n fun t => { t with log := (t.log ++ [e]).drop (t.log.length + 1 - 16) }
/-- Drive level and state follow a window that opens or closes; a level's edge for t leaves the pin at t less TEV_OFFSET (R311,
R312, R316). -/
def State.tevOpen (s : State) (n : Nat) (t : Nat) (on : Bool) : State :=
  let pulse := s.reg (Reg.tevMode n) == 3
  let idle := s.reg (Reg.tevIdle n) == 1
  let edge : Option (Int × Bool) := if on && pulse then (s.tev n).edge
    else some (((t / 65536 : Nat) : Int) - s.tevOffsetNs n, on != idle)
  (s.modTev n fun x => { x with edge := edge, active := on && !pulse, train := if on && pulse then some (t, 0) else none }).setReg
    (Reg.tevState n) (if on then 1 else 0)
/-- One action of a step (R315). -/
def State.tevAct (s : State) (n : Nat) (passed : Bool) (a : TevAct) : State :=
  let isOpen := s.reg (Reg.tevState n) == 1
  let log (s : State) (code : Nat) : State := (s.tevLog n a code).when passed fun s => s.tevLog n a 4
  if a.kind = 1 then
    if isOpen then log s 3 else log (s.tevOpen n a.time true) 0
  else if isOpen then log (s.tevOpen n a.time false) 0
  else
    let s1 := log s 2
    match s.holder 28 noUnit n with
    | some p => s1.notifyPlot p 0x20 (Reg.tevActLog n)
    | none => s1
/-- Order of a pin's actions: time, then START before STOP (R315). -/
def tevLe (a b : TevAct) : Bool := decide (a.time < b.time) || (a.time == b.time && decide (a.kind ≤ b.kind))
/-- The first k of a kind, and the rest. -/
def splitKind (kind : Nat) : Nat → List TevAct → List TevAct
  | _, [] => []
  | 0, l => l
  | k + 1, a :: t => if a.kind = kind then splitKind kind k t else a :: splitKind kind (k + 1) t
/-- The earliest 1 ns step of a pin's actions: zero windows drive nothing; what is left acts in order (R315). -/
def State.tevStep (s : State) (n : Nat) (passed : Bool) : State :=
  match sortBy tevLe (s.tev n).acts with
  | [] => s
  | a :: t =>
    let now := (a :: t).filter fun b => b.time / 65536 == a.time / 65536
    let zero := min (now.countP fun b => b.kind == 1) (now.countP fun b => b.kind == 2)
    let rest := splitKind 2 zero (splitKind 1 zero now)
    let gone := (now.filter fun b => b.kind == 1).take zero ++ (now.filter fun b => b.kind == 2).take zero
    let s1 := s.modTev n fun x => { x with acts := t.filter fun b => b.time / 65536 != a.time / 65536 }
    let s2 := overL (sortBy tevLe gone) (fun s b => (s.tevLog n b 1).when passed fun s => s.tevLog n b 4) s1
    overL rest (fun s b => s.tevAct n passed b) s2
/-- Instant of edge e of a train in ns: even edges rise (R316); rounded to the nearest ns, ties upwards. -/
def State.edgeTime (s : State) (n start e : Nat) : Nat :=
  let period := s.nat (Reg.tevPeriod n)
  (start * 65536 + e / 2 * period + 2147483648) / 4294967296 + if e % 2 = 1 then s.nat (Reg.tevWidth n) else 0
/-- The end of a train after COUNT pulses. -/
def State.trainDone (s : State) (n e : Nat) : Bool :=
  s.nat (Reg.tevCount n) != 0 && decide (e ≥ 2 * s.nat (Reg.tevCount n))
/-- Edge e of the train is sent. -/
def State.sendEdge (s : State) (n start e : Nat) (drive : Bool) : State :=
  let at_ := s.edgeTime n start e
  if s.trainDone n (e + 1) then s.tevOpen n (at_ * 65536) false
  else
    let idle := s.reg (Reg.tevIdle n) == 1
    s.modTev n fun x => { x with
      train := some (start, e + 1), active := drive && e % 2 == 0
      edge := if drive then some ((at_ : Int) - s.tevOffsetNs n, (e % 2 == 0) != idle) else x.edge }
/-- Pulse edges that a forward step passes over: the train goes on with the next k (R317). -/
def State.passEdges (s : State) (n : Nat) : State :=
  match (s.tev n).train with
  | none => s
  | some (start, _) =>
    let now := s.timeNow
    let period := s.nat (Reg.tevPeriod n)
    if now ≤ start * 65536 ∨ period = 0 then s
    else
      let k := (now - start * 65536 + period - 1) / period
      if s.trainDone n (2 * k) then s.tevOpen n start false
      else s.modTev n fun x => { x with train := some (start, max (2 * k) ((x.train.map (·.2)).getD 0)), active := false }
/-- Steps of actions that lie before the counter after a forward step (R317). -/
def tevPass : Nat → Nat → State → State
  | 0, _, s => s
  | k + 1, n, s =>
    if (s.tev n).acts.any fun a => decide (a.time * 65536 < s.timeNow) then tevPass k n (s.tevStep n true) else s
/-- A forward step passes actions and edges of every pin. -/
def State.tevJump (s : State) : State := overN 24 (fun s n => (tevPass 8 n s).passEdges n) s
/-- A mode change takes effect at its boundary (R311). -/
def State.tevBoundary (s : State) : State :=
  overN 24 (fun s n =>
    match (s.tev n).next with
    | some (t, m) =>
      if s.tick < t then s
      else
        let s1 := s.modTev n fun x => { x with next := none, acts := [], train := none, active := false, seq := 0
                                               lastEdge := none, caps := if m = 1 then [] else x.caps, gap := if m = 1 then false else x.gap }
        (s1.setRegs [(Reg.tevMode n, m), (Reg.tevState n, 0)]).when (m == 1) fun s => s.setReg (Reg.tevCapLevel n) 0
    | none => s) s
/-- What a generating pin drives: none is high impedance, as in a power-on, cold or warm reset (18, Table 18.7); in a pair only
the chip with AUTH released drives (R311, R318). -/
def State.tevPin (s : State) (n : Nat) : Option Bool :=
  if (1 ≤ s.rst.kind ∧ s.rst.kind ≤ 3) ∨ s.reg (Reg.tevMode n) < 2 ∨ (s.paired ∧ s.reg Reg.pairAuth = 0) then none
  else some ((s.tev n).active != (s.reg (Reg.tevIdle n) == 1))

/-- A tick moved by d. -/
def moveTick (d : Int) (t : Nat) : Nat := ((t : Int) + d).toNat
/-- Instants of the bridge on the counter move with it. -/
def NetSt.shift (t : NetSt) (ns : Nat → Nat) : NetSt :=
  let port (x : PortSt) : PortSt := { x with
    busy := ns x.busy, filled := ns x.filled, esmcAt := x.esmcAt.map ns
    esmcSent := x.esmcSent.map fun e => (e.1, ns e.2)
    queue := x.queue.map fun f => { f with enq := ns f.enq } }
  { t with
    ports := t.ports.map fun (e : Nat × PortSt) => (e.1, port e.2)
    fdb := t.fdb.map fun e => { e with window := e.window.map ns, pinAt := ns e.pinAt, visited := e.visited.map ns } }
/-- What stands in the data plane under tick numbers moves with them, so that a jump shortens or lengthens nothing that
is under way (01, R18; log entry 91). -/
def State.shiftTicks (s : State) (d : Int) : State :=
  let m := moveTick d
  let ns := moveTick (d * 1000000000 / s.tps)
  let units := moveTick (d * secondUnits / s.tps)
  { s with
    bridges := s.bridges.map fun (e : Nat × List (Nat × Int)) => (e.1, e.2.map fun f => (units f.1, f.2))
    freeIn := s.freeIn.map fun (e : Nat × List (Nat × Int)) => (e.1, e.2.map fun f => (units f.1, f.2))
    saps := s.saps.map fun (e : Nat × SapSt) =>
      let n := 6 * s.streamMult (s.nat (Reg.sapRate e.1)) (s.nat (Reg.sapDomain e.1))
      (e.1, { e.2 with
        frames := e.2.frames.map fun (f : Nat × List Int) => (moveTick (d * n) f.1, f.2)
        stamps := e.2.stamps.map fun (f : Nat × Option Nat) => (m f.1, f.2)
        conceal := e.2.conceal.map m, rampBlock := e.2.rampBlock.map m, zeroUntil := m e.2.zeroUntil
        csFired := e.2.csFired.map (moveTick (d * n))
        pairs := e.2.pairs.map fun (f : Nat × PairNa) => (f.1, { f.2 with fired := f.2.fired.map m }) })
    tasks := s.tasks.map fun (e : Nat × TaskSt) => (e.1, { e.2 with logTick := m e.2.logTick })
    pscs := s.pscs.map fun (e : Nat × PscSt) =>
      (e.1, { e.2 with startB := m e.2.startB, restartAt := m e.2.restartAt, ocTrips := e.2.ocTrips.map m, feed := e.2.feed.map fun (f : Int × Int) => (f.1 + d * 192000, f.2) })
    rxs := s.rxs.map fun (e : Nat × RxSt) => (e.1, { e.2 with
      startT := m e.2.startT, stopT := e.2.stopT.map m
      pairs := e.2.pairs.map fun (f : Nat × PairNa) => (f.1, { f.2 with fired := f.2.fired.map m }) })
    txs := s.txs.map fun (e : Nat × TxSt) => (e.1, { e.2 with startT := m e.2.startT, stopT := e.2.stopT.map m })
    net := s.net.shift ns
    rst := { s.rst with upAt := m s.rst.upAt, bootTick := s.rst.bootTick.map m }
    gard := { s.gard with busy := m s.gard.busy }
    log := { s.log with rates := s.log.rates.map fun (e : Nat × LogRate) => (e.1, { e.2 with lastDrop := e.2.lastDrop.map m }) }
    sessions := s.sessions.map fun (e : Nat × Session) => (e.1, { e.2 with
      lastTick := m e.2.lastTick, transfers := e.2.transfers.map fun x => { x with lastTick := m x.lastTick }
      snapshot := e.2.snapshot.map fun x => (x.1, x.2.1, m x.2.2) })
    sources := s.sources.map fun (e : Nat × SourceSt) => (e.1, { e.2 with
      fails := e.2.fails.map m, lockedUntil := e.2.lockedUntil.map m })
    holdings := s.holdings.map fun h => { h with scrub := h.scrub.map fun q => (m q.1, q.2) } }
/-- The counter jumps by d ticks: swaps passed over are cancelled with SKIPPED (01, R19), TEV actions passed over act
(R317). -/
def State.afterJump (s : State) (d : Int) : State :=
  let s1 := overN 16 (fun s p =>
    if s.nat (Reg.lastState p) ≥ 3 ∧ s.nat (Reg.lastSwapTick p) < s.tick then s.dropImage p 0x22 else s) (s.shiftTicks d).passLimits
  if d > 0 then s1.tevJump else s1
/-- A step of d ns takes effect (R297, R18). -/
def State.stepCounter (s : State) (d : Int) : State :=
  let n : Int := Int.tdiv (d * s.tps) 1000000000
  let r : Int := d * 65536 - n * (1000000000 * 65536) / s.tps
  let tick := ((s.tick : Int) + n).toNat
  let s1 := ({ s with tick := tick, clk := { s.clk with told := true } }.setReg Reg.timeAdjLeft (s.reg Reg.timeAdjLeft + r)).bump Reg.timeStepCount
  let w := (d % 18446744073709551616).toNat
  (s1.logEvent 0x0202 1 16 (w % 4294967296) (w / 4294967296)).afterJump n
/-- A set to ns takes effect (R299): the tick is the one that R14 gives, the fraction is 0. -/
def State.setCounter (s : State) (ns : Nat) : State :=
  let t := ns * 4294967296
  let n := s.tickOf t
  let s1 := { s with tick := n, cycle := 0 }
  (s1.modClk fun c => { c with told := true, phase := (t : Int) - (s.boundaryTime n : Int) }).afterJump ((n : Int) - s.tick)
/-- COUNTER_CHANGE_APPLY: steps and sets due at this boundary (R297, R299). -/
def execCounterChangeApply (s : State) : Out :=
  let steps := s.clk.steps.filter fun e => decide (e.1 ≤ s.tick)
  let sets := s.clk.sets.filter fun e => decide (e.1 ≤ s.tick)
  let s1 := s.modClk fun c => { c with
    steps := c.steps.filter fun e => !decide (e.1 ≤ s.tick), sets := c.sets.filter fun e => !decide (e.1 ≤ s.tick) }
  .next (overL sets (fun s e => s.setCounter e.2) (overL steps (fun s e => s.stepCounter e.2) s1))

/-! PTP. -/

/-- PTP_ROLE (R300). -/
def execPtpRole (v : Nat) (s : State) : Out :=
  if v > 3 then .next (s.reply 0x13) else .next ((s.nextWrite Reg.ptpRole v).reply 0)
/-- PTP_PROFILE (R301). -/
def execPtpProfile (v : Nat) (s : State) : Out :=
  if v > 2 then .next (s.reply 0x13) else .next ((s.nextWrite Reg.ptpProfile v).reply 0)
/-- Grade of a clockClass (09, Table 9.4). -/
def classGrade (c : Nat) : Nat :=
  if c = 6 then 1 else if c = 13 then 2 else if c = 7 then 3 else if c = 14 then 4 else if c = 52 ∨ c = 187 then 6
  else if c = 58 ∨ c = 193 then 7 else if c = 248 then 10 else if c = 255 then 15 else 11
/-- PTP's grade: 15 unless the servo is locked (09, Table 9.4; R302). -/
def State.ptpGrade (s : State) : State :=
  if s.reg Reg.servoState = 3 then (s.carryGrade 8 (classGrade (s.nat Reg.ptpGmClass))).refEnds 8 1
  else (s.carryGrade 8 15).refFaults 8 1
/-- clockClass announced for an own grade (R303). -/
def gradeClass (g : Nat) : Nat :=
  if g ≤ 1 then 6 else if g = 2 then 13 else if g = 3 then 7 else if g = 4 then 14 else if g ≤ 6 then 52
  else if g ≤ 9 then 187 else if g ≤ 14 then 248 else 255
/-- clockAccuracy announced (R303). -/
def State.ptpAccuracy (s : State) : Nat := if s.reg Reg.dpllState = 2 ∧ s.nat Reg.dpllGrade ≤ 4 then 0x21 else 0xFE
/-- Order of the data set comparison of IEEE 1588-2019: the lower list wins. -/
def Foreign.key (f : Foreign) : List Nat :=
  [f.prio1, f.gmClass, f.accuracy, f.variance, f.prio2, f.gmId, f.steps, f.srcId, f.srcPort]
/-- Lexicographic order of equal-length lists. -/
def lexLt : List Nat → List Nat → Bool
  | a :: s, b :: t => decide (a < b) || (a == b && lexLt s t)
  | _, _ => false
/-- The chip's own data set. -/
def State.ownSet (s : State) : Foreign :=
  { port := 24, srcId := Config.uid, srcPort := 0, gmId := Config.uid, gmClass := gradeClass (s.nat Reg.dpllGrade)
    accuracy := s.ptpAccuracy, variance := 0xFFFF, prio1 := s.nat Reg.ptpPrio1, prio2 := s.nat Reg.ptpPrio2, steps := 0 }
/-- The parent that the best master clock algorithm chooses among the masters heard. -/
def State.chooseParent (s : State) : Option Foreign :=
  let best := s.clk.foreign.foldl (fun b f => match b with
    | none => some f
    | some g => if lexLt f.key g.key then some f else b) none
  match best with
  | some f => if s.mayMaster && lexLt s.ownSet.key f.key then none else some f
  | none => none
/-- PTP_PORT_STATE of every NET port after a choice. -/
def State.ptpStates (s : State) : State := overN 24 (fun s n => s.setReg (Reg.ptpPortState n) (s.ptpPortNow n : Nat)) s
/-- The parent and the grandmaster as chosen (R302): a new parent starts the servo anew. -/
def State.setParent (s : State) (f : Option Foreign) : State :=
  let same := (f.map fun x => (x.srcId, x.srcPort)) == (s.clk.parent.map fun x => (x.srcId, x.srcPort))
  let s1 := s.modClk fun c => { c with parent := f }
  let s2 := match f with
    | some x => s1.setRegs [(Reg.ptpParentId, x.srcId), (Reg.ptpParentPort, x.srcPort), (Reg.ptpGmId, x.gmId), (Reg.ptpGmClass, x.gmClass)]
    | none => s1.setRegs [(Reg.ptpParentId, 0), (Reg.ptpParentPort, 0), (Reg.ptpGmId, 0), (Reg.ptpGmClass, 255)]
  let s3 := if same then s2
    else (s2.setReg Reg.servoState (if f.isNone then 1 else if s.reg Reg.timeMode = 1 then 4 else 2)).modClk fun c =>
      { c with servoIn := 0, servoOut := 0 }
  s3.ptpGrade.ptpStates.refreshGrade
/-- The servo steps the counter: role A names the step's boundary to its partner (R298, R299). -/
def State.servoStep (s : State) (d : Int) : State :=
  let s1 := s.modClk fun c => { c with steps := c.steps ++ [(s.after 1, d)] }
  s1.when s.forwards fun s => s.sendMgmt (s.after 1) ⟨0x2200, 9, 0, leBytesI 8 d, 0, 255, false⟩
/-- A Sync interval's result (R302, R298, R296): the servo that owns the counter takes out the rate by the increment and the
offset by a slew, or by a step beyond 1 s (log entry 213). -/
def State.servoSample (s : State) (off rate : Int) : State :=
  let a := off.natAbs
  let s1 := (s.setRegs [(Reg.servoOffset, off), (Reg.servoFreq, rate)]).modClk fun c => { c with
    servoIn := if a ≤ 100000 then c.servoIn + 1 else 0, servoOut := if a > 1000000 then c.servoOut + 1 else 0 }
  if s.reg Reg.timeMode = 0 ∧ s.reg Reg.timeServoMode = 0 then
    let v := s.reg Reg.timeIncr
    let s2 := s1.setReg Reg.timeIncr (max 562386997467891 (min 563512909374733 (v - v * rate / 1000000000000)))
    if a > 1000000000000 then s2.servoStep ((-off) / 1000)
    else s2.setReg Reg.timeAdjLeft ((-off) * 65536 / 1000)
  else s1
/-- PTP_MESSAGE_RX on a port of the PTP unit (R300 to R305). -/
def execPtpMessageRx (n : Fin 25) (m : PtpMsg) (s : State) : Out :=
  if !s.ptpPort n then .next s
  else match m with
    | .announce srcId srcPort gmId gmClass accuracy variance prio1 prio2 steps =>
      let f : Foreign := { port := n, srcId, srcPort, gmId, gmClass, accuracy, variance, prio1, prio2, steps }
      let s1 := s.modClk fun c => { c with
        foreign := (c.foreign.filter fun g => !(g.port == n.val && g.srcId == srcId && g.srcPort == srcPort)) ++ [f] }
      .next (s1.setParent s1.chooseParent)
    | .sync srcId srcPort off rate =>
      match s.clk.parent with
      | some f => if f.port = n.val ∧ f.srcId = srcId ∧ f.srcPort = srcPort then .next (s.servoSample off rate) else .next s
      | none => .next s
    | .delay mean nrr =>
      if n.val = 24 then .next s
      else .next (s.setRegs ((Reg.ptpMeanDelay n, mean) :: if s.reg Reg.ptpRole = 3 then [(Reg.ptpNrr n, nrr)] else []))
/-- SERVO_LOCK: within 100 ns for 16 Sync intervals (R302). -/
def execServoLock (s : State) : Out :=
  if (s.reg Reg.servoState = 2 ∨ s.reg Reg.servoState = 4) ∧ s.clk.servoIn ≥ 16 then
    .next ((s.setReg Reg.servoState 3).ptpGrade.ptpStates.refreshGrade)
  else .next s
/-- SERVO_UNLOCK: beyond 1 us for 4 intervals (R302). -/
def execServoUnlock (s : State) : Out :=
  if s.reg Reg.servoState = 3 ∧ s.clk.servoOut ≥ 4 then
    .next (((s.setReg Reg.servoState (if s.reg Reg.timeMode = 1 then 4 else 2)).modClk fun c =>
      { c with servoIn := 0 }).ptpGrade.ptpStates.refreshGrade)
  else .next s
/-- ANNOUNCE_TIMEOUT of the parent: LISTENING, grade 15 (R302; 09, Table 9.4). -/
def execAnnounceTimeout (s : State) : Out :=
  match s.clk.parent with
  | none => .next s
  | some f =>
    let s1 := s.modClk fun c => { c with
      foreign := c.foreign.filter fun g => !(g.port == f.port && g.srcId == f.srcId && g.srcPort == f.srcPort) }
    .next (s1.setParent none)

/-- Frames sent by the PTP unit: messageType, port, sequenceId, then for Announce the data set of R303. -/
def State.ptpFields (s : State) (ty n seq : Nat) : List Byte :=
  let common := leBytes 1 ty ++ leBytes 1 (s.nat Reg.ptpDomain) ++ leBytes 8 Config.uid ++ leBytes 2 n ++ leBytes 2 seq
  if ty ≠ 0xB then common
  else
    let own := s.ownSet
    let gm := s.clk.parent.getD own
    let source : Nat := if s.reg Reg.dpllState = 3 ∨ s.reg Reg.dpllState = 0 then 0xA0 else 0x90
    common ++ leBytesI 2 (s.reg Reg.timeUtcOffset) ++ leBytes 1 gm.prio1 ++ leBytes 1 gm.gmClass ++ leBytes 1 gm.accuracy ++
      leBytes 2 gm.variance ++ leBytes 1 gm.prio2 ++ leBytes 8 gm.gmId ++ leBytes 2 (gm.steps + if s.clk.parent.isSome then 1 else 0) ++
      leBytes 1 source ++ leBytes 1 1
/-- PTP_MESSAGE_TX of messageType `ty` on a port (R303, R301): Sync 0 and Announce 0xB only where the port is MASTER,
Delay_Req 1 and the Pdelay messages 2, 3 on any port of the unit. The answer holds the message's fields. -/
def execPtpMessageTx (n : Fin 25) (ty : Fin 16) (s : State) : Out :=
  let master := if n.val = 24 then s.mayMaster && s.clk.parent.isNone else s.ptpPortNow n == 6
  let allowed := s.ptpPort n && (if ty.val = 0 ∨ ty.val = 0xB then master else ty.val == 1 || ty.val == 2 || ty.val == 3)
  if !allowed then .next s
  else
    let k := n.val * 16 + ty.val
    let seq := NTable.get 0 s.clk.seqs k
    let s1 := s.modClk fun c => { c with seqs := NTable.put 0 c.seqs k ((seq + 1) % 65536) }
    .next { s1 with answer := { bytes := s.ptpFields ty n seq, sent := true } }

/-- An entry reaches the timestamp FIFO (R308, Table 10.4). -/
def State.tsPush (s : State) (ns port msg seq domain : Nat) : State :=
  if s.clk.tsFifo.length ≥ 256 then (s.bump Reg.tsFifoDrop).modClk fun c => { c with tsGap := true }
  else
    let e := timeBytes ns ++ leBytes 1 port ++ leBytes 1 (msg % 16) ++ leBytes 2 seq ++ leBytes 1 domain ++
      leBytes 1 (if s.clk.tsGap then 1 else 0)
    (s.modClk fun c => { c with tsFifo := c.tsFifo ++ [e], tsGap := false }).setReg Reg.tsFifoLevel (s.clk.tsFifo.length + 1 : Nat)
/-- TS_FIFO_READ: up to 16 entries, oldest first, removed (R308). -/
def execTsFifoRead (s : State) : Out :=
  let e := s.clk.tsFifo.take 16
  let s1 := (s.modClk fun c => { c with tsFifo := c.tsFifo.drop 16 }).setReg Reg.tsFifoLevel (s.clk.tsFifo.length - 16 : Nat)
  .next { s1 with answer := { bytes := e.flatten } }

/-- TEV_MODE of a pin that the plot holds (R311). -/
def execTevMode (p : Fin 16) (n : Fin 24) (mode : Nat) (s : State) : Out :=
  if !s.holds p 28 noUnit n then .next (s.reply 0x11)
  else if mode > 3 then .next (s.reply 0x13)
  else .next ((s.modTev n fun t => { t with next := some (s.after 1, mode) }).reply 0)
/-- Store a capture of the pin (R313, Table 10.5). -/
def State.capture (s : State) (n : Nat) (falling : Bool) (stamp : Nat) : State :=
  let t := s.tev n
  if t.caps.length ≥ 32 then
    (s.modTev n fun t => { t with gap := true, seq := (t.seq + 1) % 4294967296 }).bump (Reg.tevCapDrop n)
  else
    let e := timeBytes stamp ++ [if falling then 1 else 0, if t.gap then 1 else 0] ++ leBytes 4 t.seq
    ((s.modTev n fun t => { t with
      caps := t.caps ++ [e], capsNow := t.capsNow ++ [e], gap := false, seq := (t.seq + 1) % 4294967296 }).setReg
      (Reg.tevCapLevel n) (t.caps.length + 1 : Nat)).stageEntry ((s.holder 28 noUnit n).getD 255) 2 e
/-- Which chip's pin counts for a local input: LIN_MODE (08, R230); true where this chip reads its own pin. -/
def State.ownPin (s : State) (item : Nat) : Bool :=
  !s.paired || s.reg (Reg.linMode item) == 0 || s.reg (Reg.linMode item) == s.reg Reg.pairSeat + 1
/-- A chip of a pair that alone has a local input forwards what comes in on it (08, R230). -/
def State.forwardInput (s : State) (item : Nat) (x : Lfwd) : State :=
  s.when (s.paired && s.reg (Reg.linMode item) != 0 && s.ownPin item) fun s => s.sendCell (.lfwd x)
/-- TEV_CAPTURE: an edge at a pin time in ns (R312, R313). Whether an edge less than 8 ns after the one before is captured is a free
value. -/
def execTevCapture (n : Fin 24) (falling : Bool) (ns : Nat) (s : State) : Out :=
  let t := s.tev n
  let sel : Bool := if falling then decide (s.nat (Reg.tevEdge n) ≥ 2) else s.nat (Reg.tevEdge n) % 2 == 1
  let near : Bool := match t.lastEdge with | some e => decide (ns < e + 8) | none => false
  let (w, s0) := if near then s.freeWord else (1, s)
  if s.reg (Reg.tevMode n) ≠ 1 ∨ !sel ∨ !s.ownPin (128 + n.val) then .next s
  else if w % 2 = 0 then .next s0
  else
    let stamp := ((ns : Int) - s.tevOffsetNs n).toNat
    .next (((s0.modTev n fun t => { t with lastEdge := some ns }).capture n falling stamp).forwardInput (128 + n.val) (.tev n falling ns))
/-- TEV_CAP_READ: up to 16 entries, oldest first, removed (R313). -/
def execTevCapRead (n : Fin 24) (s : State) : Out :=
  let c := (s.tev n).caps
  let s1 := (s.modTev n fun t => { t with caps := t.caps.drop 16 }).setReg (Reg.tevCapLevel n) (c.length - 16 : Nat)
  .next { s1 with answer := { bytes := (c.take 16).flatten } }

/-- A record of Table 10.6. -/
def tevRecord (b : List Byte) : TevAct :=
  { kind := leAt b 0 1, time := (leAt b 8 6 * 1000000000 + leAt b 4 4) * 65536 + leAt b 2 2, raw := b }
/-- Is a record well formed. -/
def tevRecordOk (b : List Byte) : Bool :=
  b.length == 16 && decide (1 ≤ leAt b 0 1) && decide (leAt b 0 1 ≤ 3) && leAt b 1 1 == 0 && leAt b 14 2 == 0 &&
    decide (leAt b 4 4 < 1000000000) && (leAt b 0 1 != 3 || (leAt b 2 2 == 0 && leAt b 4 4 == 0 && leAt b 8 6 == 0))
/-- Pending actions after a batch: CANCEL removes every pending action at acceptance (R314). -/
def tevMerge (acts batch : List TevAct) : List TevAct :=
  batch.foldl (fun l a => if a.kind = 3 then [] else l ++ [a]) acts
/-- The code of a batch (R314). -/
def State.tevBatchCode (s : State) (n : Nat) (b : List Byte) : Nat :=
  let rs := records 16 b
  let acts := rs.map tevRecord
  let timed := acts.filter fun a => a.kind != 3
  if rs.isEmpty ∨ rs.length > 8 ∨ !(rs.all tevRecordOk) then 0x13
  else if (tevMerge (s.tev n).acts acts).length > 8 then 0x10
  else if timed.any fun a => decide (a.time * 65536 < s.timeNow + 2000 * 4294967296) then 0x11
  else if timed.any fun a => decide (a.time * 65536 > s.timeNow + 2147483648 * 4294967296) then 0x12
  else 0
/-- TEV_ACTION: a batch of 1 to 8 records, accepted or refused whole (R314). -/
def execTevAction (p : Fin 16) (n : Fin 24) (batch : List Byte) (s : State) : Out :=
  if !s.holds p 28 noUnit n then .next (s.reply 0x11)
  else
    let code := s.tevBatchCode n batch
    let s1 := s.setReg (Reg.tevActStatus n) code
    .next ((if code = 0 then s1.modTev n fun t => { t with acts := tevMerge t.acts ((records 16 batch).map tevRecord) }
      else s1).reply 0)
/-- CANCEL: every pending action of the pin goes (R314). -/
def execCancel (p : Fin 16) (n : Fin 24) (s : State) : Out :=
  if !s.holds p 28 noUnit n then .next (s.reply 0x11)
  else .next (((s.modTev n fun t => { t with acts := [] }).setReg (Reg.tevActStatus n) 0).reply 0)
/-- TEV_ACTION_DUE: the earliest step of the pin's actions, where it lies in this tick (R315). -/
def execTevActionDue (n : Fin 24) (s : State) : Out :=
  if (s.tev n).acts.any fun a => decide (a.time / 65536 * 4294967296 < s.boundaryTime (s.tick + 1)) then
    .next (s.tevStep n false)
  else .next s
/-- TEV_PULSE_EDGE: the next edge of the pin's train, where it lies in this tick (R316). -/
def execTevPulseEdge (n : Fin 24) (s : State) : Out :=
  match (s.tev n).train with
  | some (start, e) =>
    if s.edgeTime n start e * 4294967296 < s.boundaryTime (s.tick + 1) then .next (s.sendEdge n start e true) else .next s
  | none => .next s

end Sys2Proof.Machine
end

