-- ==== Sys2Proof/Machine/Converters.lean ====
section
/-!
DEFINITION. Rate bridges (02, R84 to R88): what a bridge channel keeps of its input, the samples it makes on its other side, the
sinks of ports and streams in S or F.
-/
namespace Sys2Proof.Machine

/-- The tracker that a bridge channel uses: 0 to 127 into H, 128 to 255 out of H (R85). -/
def State.bridgeTracker (s : State) (c : Nat) : Option Nat :=
  let x := sigOf (if c < 1024 then 12 else 13) (c % 1024)
  match s.sigOwner x with
  | none => none
  | some p =>
    let k : Nat := if c < 1024 then
        (match (s.plot p).routes.find? fun r => decide (r.sink = x) && !r.none with | some r => s.clockOf r.source true | none => 0)
      else (match (s.plot p).routes.find? fun r => decide (r.source = x) && !r.none with | some r => s.clockOf r.sink false | none => 0)
    let base := (if c < 1024 then 0 else 128) + 8 * p
    if k = 0 then none else ((List.range 8).map (base + ·)).find? fun t => (s.tracker t).clock == k

/-- A signal in S or F carries a sample in this tick, with its grid instant in 2^-32 ns: a source or a channel out of H delivers
it, or a sink takes it. -/
def State.carry (s : State) (x : SigId) (at_ : Nat) (v : Int) : State :=
  { s with freeIn := NTable.mod [] s.freeIn x fun l => l ++ [(at_, v)] }
/-- Samples that a signal in S or F carried in this tick. -/
def State.carried (s : State) (x : SigId) : List Sample := (NTable.get [] s.freeIn x).map (·.2)
/-- A sink in S or F, or a channel into H, takes n samples: what runs on it moves on by as many. -/
def State.sinkMoved (s : State) (x : SigId) (n : Nat) : State :=
  let k := s.sinkSt x
  if k.fade.isNone ∧ k.up.isNone then s else s.setSink x { k with took := some (k.took.getD 0 + n) }

/-- Time that lies between the input and the output of a bridge channel: 32 output samples plus 1 tick (R87; 00, R6). -/
def State.bridgeDelay (s : State) (hz : Nat) : Nat := s.boundaryTime 1 + 32 * secondUnits / max 1 hz
/-- The sample of a bridge channel at an output instant, of an output rate in Hz (R87). The spec bounds the filter and does not
state it: its input within one delay of the instant that lies the delay back decides the sample in a way that is a free value; a
constant input keeps its value within 0.005 dB, a silent one is silent (log entry 96). -/
def State.bridgeOut (s : State) (c at_ hz : Nat) : Sample :=
  let d := s.bridgeDelay hz
  let mid : Int := (at_ : Int) - d
  let all := NTable.get [] s.bridges c
  let win := all.filter fun e => decide (((e.1 : Int) - mid).natAbs ≤ d)
  match win with
  | [] => 0
  | e :: _ =>
    let y := sat 32 (Config.bridge c at_ (win.map fun w => ((w.1 : Int) - mid, w.2)))
    let same := win.all fun w => w.2 == e.2
    let bound : Int := (e.2.natAbs : Int) * 5754 / 10000000
    if same && (e.2 == 0 || all.any fun w => decide ((w.1 : Int) < mid - d)) then sat 32 (max (e.2 - bound) (min (e.2 + bound) y)) else y
/-- A bridge channel takes input; what is older than 20 ticks is dropped. -/
def State.bridgePut (s : State) (c : Nat) (xs : List (Nat × Int)) : State :=
  let keep := s.boundaryTime (s.tick - 20)
  { s with bridges := NTable.put [] s.bridges c (((NTable.get [] s.bridges c) ++ xs).filter fun e => decide (e.1 ≥ keep)) }

/-- Routes of the plots to the sinks of a class, with their plots; a sink whose route goes to NONE keeps its old source while a
crossfade runs. -/
def State.routesTo (s : State) (cls : Nat) : List (Nat × Route) :=
  (List.range 16).flatMap fun p => ((s.plot p).routes.filter fun r => sigClass r.sink == cls).map fun r => (p, r)
/-- The source that feeds a sink: its route's, or the one that a crossfade to NONE leaves. -/
def State.feeder (s : State) (r : Route) : Option SigId :=
  if !r.none then some r.source else (s.sinkSt r.sink).fade.bind (·.old)
/-- Role B of a pair puts the stamps of role A in the place of its own, for what came in on a port in F (08, R231): the stamp
that lies within half a frame period. -/
def State.pairStamp (s : State) (y : SigId) (at_ : Nat) : Nat :=
  let n := s.sapIn (sigIdx y / 32)
  if sigClass y ≠ 0 ∨ s.reg (Reg.sapDomain n) ≠ 2 ∨ s.reg Reg.pairRole ≠ 1 ∨ s.reg Reg.pairState ≠ 3 then at_
  else
    let period := secondUnits / max 1 (s.farHz y)
    match (NTable.get [] s.pair.stamps n).find? fun t => decide (2 * ((t * 4294967296 + period : Nat) - (at_ : Int)).natAbs < period) with
    | some t => t * 4294967296 + period
    | none => at_
/-- Channels into H take what their ports and streams delivered in the tick that closes (R84, R86). -/
def State.feedInto (s : State) : State :=
  overL (s.routesTo 12) (fun s e =>
    match s.feeder e.2 with
    | none => s
    | some y =>
      let xs := NTable.get [] s.freeIn y
      let vals := s.sinkTake e.1 e.2.sink 0 xs.length xs.length fun z _ => s.carried z
      (s.bridgePut (sigIdx e.2.sink) ((xs.map fun w => s.pairStamp y w.1).zip vals)).sinkMoved e.2.sink xs.length) s
/-- Channels out of H take the blocks of the tick that closes, like any other sink (R86). -/
def State.feedOut (s : State) : State :=
  overL (s.routesTo 13) (fun s e =>
    let b := s.sinkBlock e.1 e.2.sink
    let t0 := s.boundaryTime (s.tick - 1)
    let step := s.boundaryTime s.tick - t0
    s.bridgePut (1024 + sigIdx e.2.sink) (b.zipIdx.map fun w => (t0 + w.2 * step / max 1 b.length, w.1))) s
/-- The input stamps that the partner's cells brought late move into what bridge channels keep (08, R231). -/
def State.restamp (s : State) : State :=
  if s.pair.stamps = [] then s
  else overL (s.routesTo 12) (fun s e =>
    match s.feeder e.2 with
    | none => s
    | some y => { s with bridges := NTable.mod [] s.bridges (sigIdx e.2.sink) fun l => l.map fun w => (s.pairStamp y w.1, w.2) }) s
/-- Blocks of channels into H, ready with the ingest of the tick that opens: at the plot's rate, gated by their tracker (R86,
R88). -/
def State.openInto (s : State) : State :=
  overL (s.routesTo 12) (fun s e =>
    let c := sigIdx e.2.sink
    match s.bridgeTracker c with
    | none => s
    | some t =>
      let n := 6 * s.dueMult e.1
      let t0 := s.boundaryTime (s.tick - 1)
      let step := s.boundaryTime s.tick - t0
      let b := (List.range n).map fun i => s.bridgeOut c (t0 + i * step / n) (s.dueMult e.1 * Config.baseRate s.family)
      s.setSource e.2.sink (s.trackerGate t 0 n b)) s
/-- What a source that feeds a sink in S or F brings at output instants, from sample i of the n of a tick on: a channel out of H,
gated by its tracker; any other source is no source of such a sink (R84, R88). -/
def State.farBlock (s : State) (y : SigId) (hz i n : Nat) (ats : List Nat) : List Sample :=
  if sigClass y ≠ 13 then ats.map fun _ => 0
  else match s.bridgeTracker (1024 + sigIdx y) with
    | some t => s.trackerGate t i n (ats.map fun a => s.bridgeOut (1024 + sigIdx y) a hz)
    | none => ats.map fun _ => 0
/-- A sink in S or F takes its samples for output instants, from sample i of the n of the tick on (R65, R86, R88). -/
def State.takeFar (s : State) (x : SigId) (hz i n : Nat) (ats : List Nat) : State × List Sample :=
  match s.sigOwner x with
  | none => (s, ats.map fun _ => 0)
  | some p =>
    let b := s.sinkTake p x i n ats.length fun y _ => s.farBlock y hz i n ats
    let s1 := match (s.routeOf p x).bind s.feeder with
      | some y => overL (ats.zip (s.farBlock y hz i n ats)) (fun s e => s.carry y e.1 e.2) s
      | none => s
    ((overL (ats.zip b) (fun s e => s.carry x e.1 e.2) s1).sinkMoved x ats.length, b)

end Sys2Proof.Machine
end

