-- ==== Sys2Proof/Machine/Queues.lean ====
section
/-!
DEFINITION. Queues, gates and the wire of a NET port (10, R306, R307, R309; 11, R324, R325, R339, R341, R342, R344).
-/
namespace Sys2Proof.Machine

/-- A port. -/
def State.port (s : State) (n : Nat) : PortSt := NTable.get {} s.net.ports n
/-- Change the bridge. -/
def State.modNet (s : State) (f : NetSt → NetSt) : State := { s with net := f s.net }
/-- Change a port. -/
def State.modPort (s : State) (n : Nat) (f : PortSt → PortSt) : State :=
  s.modNet fun t => { t with ports := NTable.mod {} t.ports n f }
/-- Big-endian read. -/
def beAt (b : List Byte) (off n : Nat) : Nat := (slice b off n).foldl (fun a x => a * 256 + x.toNat) 0
/-- Big-endian bytes. -/
def beBytes (n x : Nat) : List Byte := (leBytes n x).reverse
/-- Overwrite bytes at an offset. -/
def setAt (b : List Byte) (off : Nat) (v : List Byte) : List Byte := b.take off ++ v ++ b.drop (off + v.length)

/-! Gates. -/

/-- Start of the round of an instant in ns, in ns rounded down (R339, R15). -/
def State.roundStart (s : State) (ns : Nat) : Nat := s.boundaryTime (s.tickOf (ns * 4294967296 + 4294967295) / 8 * 8) / 4294967296
/-- Gate windows of the active lasts on a port. -/
def State.portWindows (s : State) (n : Nat) : List GateWin :=
  (List.range 16).flatMap fun p => match s.last p with | some l => l.gates.filter fun g => g.port == n | none => []
/-- Base list of a port as intervals from the round's start: start and gates (R341, Table 11.5). -/
def State.baseList (s : State) (n : Nat) : List (Nat × Nat) :=
  let b := s.blob (Reg.netBaseGcl n)
  if b = [] then [(0, 0x7F)]
  else ((records 8 b).foldl (fun (a : Nat × List (Nat × Nat)) r =>
    (a.1 + leAt r 0 4, a.2 ++ [(a.1, leAt r 4 1 % 128)])) (0, [])).2
/-- Gates of the base list at an offset. -/
def State.baseGates (s : State) (n off : Nat) : Nat :=
  ((s.baseList n).foldl (fun (g : Nat) e => if e.1 ≤ off then e.2 else g) 0)
/-- Open gates of a port at an offset from the round's start: bit q (R339). -/
def State.gatesAt (s : State) (n off : Nat) : Nat :=
  if (s.portWindows n).any fun g => decide (g.start ≤ off) && decide (off < g.start + g.length) then 128
  else s.baseGates n off
/-- Offsets at which an entry of the combined list begins (R339). -/
def State.gateStarts (s : State) (n : Nat) : List Nat :=
  let ws := s.portWindows n
  let inside (x : Nat) : Bool := ws.any fun g => decide (g.start ≤ x) && decide (x < g.start + g.length)
  ((s.baseList n).map (·.1)).filter (fun x => !inside x) ++ ws.map (·.start) ++
    (ws.map fun g => g.start + g.length).filter fun x => !inside x && decide (x < roundNs s.family)
/-- Entries of the combined list: NET_GCL_ENTRIES (R339). -/
def State.gclEntries (s : State) (n : Nat) : Nat := (s.gateStarts n).eraseDups.length
/-- First instant after ns at which the gate of queue q closes; none where it never does. -/
def State.gateClose (s : State) (n q ns : Nat) : Option Nat :=
  let r0 := s.roundStart ns
  let len := roundNs s.family
  let ends := (s.gateStarts n).flatMap fun x => [r0 + x, r0 + len + x]
  (ends.filter fun x => decide (ns < x) && !bit (s.gatesAt n ((x - r0) % len)) q).foldl
    (fun m x => match m with | none => some x | some y => some (min x y)) none

/-! Queues. -/

/-- Cells that a plot, or no plot, has in queue 7 of a port (R324). -/
def State.q7Cells (s : State) (n : Nat) (p : Option Nat) : Nat :=
  let held (q : Nat) : Nat := (s.holdings.filter fun h => h.kind == 30 && h.unit == n && (h.plot == q || q == 16)).foldl (fun a h => a + h.count) 0
  match p with
  | some q => held q
  | none => s.queueCells n 7 - held 16
/-- Cells in use in a queue; in queue 7, by the frames of one plot or of none. -/
def State.cellsUsed (s : State) (n q : Nat) (p : Option Nat) : Nat :=
  ((s.port n).queue.filter fun f => f.q == q && (q != 7 || f.plot == p)).foldl (fun a f => a + cellsOf f.len) 0
/-- Count a leg dropped by a port (12, Table 12.7 TX_LEG_DROPS). -/
def State.legDrop (s : State) (f : QFrame) : State :=
  match f.stream with
  | some (t, k) =>
    let b := if s.blob (Reg.txLegDrops t) = [] then List.replicate 8 0 else s.blob (Reg.txLegDrops t)
    s.setBlob (Reg.txLegDrops t) (setAt b (4 * k) (leBytes 4 ((leAt b (4 * k) 4 + 1) % 4294967296)))
  | none => s
/-- Drop a frame with a count of its port and queue. -/
def State.dropFrame (s : State) (n : Nat) (r : Reg) (f : QFrame) : State :=
  ((s.bump r).bump (Reg.qDrops n f.q)).legDrop f
/-- A frame reaches a port's queue: dropped where the link is down, its launch is past or more than 1 s ahead, or too few
cells are free (R321, R324, R325; 10, R309). -/
def State.enqueue (s : State) (n : Nat) (f : QFrame) : State :=
  let late : Bool := match f.launch with
    | some l => decide (l + s.nat (Reg.launchWindow n) < f.enq) || decide (l > f.enq + 1000000000)
    | none => false
  let room := if f.q = 7 then s.q7Cells n f.plot else s.queueCells n f.q
  if s.reg (Reg.netLink n) ≠ 1 then s.dropFrame n (Reg.dropLink n) f
  else if late then s.dropFrame n (Reg.launchLate n) f
  else if s.cellsUsed n f.q f.plot + cellsOf f.len > room then s.dropFrame n (Reg.dropQfull n) f
  else s.modPort n fun x => { x with queue := x.queue ++ [f] }

/-! PTP corrections in flight (10, R306, R307). -/

/-- Offset of the PTP message in a frame: EtherType 0x88F7, or UDP to ports 319 and 320 over IPv4; outer tag skipped. -/
def ptpAt (b : List Byte) : Option Nat :=
  let h := if beAt b 12 2 = 0x8100 then 16 else 12
  let ty := beAt b h 2
  if ty = 0x88F7 then some (h + 2)
  else if ty = 0x0800 ∧ beAt b (h + 11) 1 = 17 then
    let u := h + 2 + (beAt b (h + 2) 1 % 16) * 4
    if beAt b (u + 2) 2 = 319 ∨ beAt b (u + 2) 2 = 320 then some (u + 8) else none
  else none
/-- messageType of a PTP frame. -/
def ptpType (b : List Byte) : Option Nat := (ptpAt b).map fun o => beAt b o 1 % 16
/-- Ones' complement sum of 16-bit words (RFC 768, RFC 791). -/
def onesFuel : Nat → List Byte → Nat
  | 0, _ => 0
  | _, [] => 0
  | _, [x] => x.toNat * 256
  | k + 1, x :: y :: t => x.toNat * 256 + y.toNat + onesFuel k t
/-- Internet checksum of bytes. -/
def inetSum (b : List Byte) : Nat :=
  let a := onesFuel b.length b
  let f (x : Nat) : Nat := x / 65536 + x % 65536
  65535 - f (f (f a))
/-- Recompute the UDP checksum of an IPv4 frame; a checksum of 0 stays 0 (R306). -/
def fixUdp (b : List Byte) : List Byte :=
  let h := (if beAt b 12 2 = 0x8100 then 16 else 12) + 2
  let u := h + (beAt b h 1 % 16) * 4
  if beAt b (h - 2) 2 ≠ 0x0800 ∨ beAt b (u + 6) 2 = 0 then b
  else
    let len := beAt b (u + 4) 2
    let clear := setAt b (u + 6) [0, 0]
    let c := inetSum (slice b (h + 12) 8 ++ [0, 17] ++ beBytes 2 len ++ slice clear u len)
    setAt b (u + 6) (beBytes 2 (if c = 0 then 0xFFFF else c))
/-- Add to the correctionField, in 2^-16 ns. -/
def addCorrection (b : List Byte) (o : Nat) (d : Int) : List Byte :=
  fixUdp (setAt b (o + 8) (beBytes 8 (((beAt b (o + 8) 8 : Nat) + d) % 18446744073709551616).toNat))
/-- Key of a two-step exchange: sourcePortIdentity and sequenceId. -/
def ptpKey (b : List Byte) (o : Nat) : List Byte := slice b (o + 20) 12
/-- Ingress timestamp of an instant at a port's pins: less TS_RX_LAT and the delay asymmetry, to the ns (R304, R305). -/
def State.ingressStamp (s : State) (n : Nat) (ns : Int) : Int :=
  (ns * 1000 - s.reg (Reg.tsRxLat n) - s.reg (Reg.ptpAsym n) + 500) / 1000
/-- Egress timestamp of an instant at a port's pins: with TS_TX_LAT, to the ns (R304). -/
def State.egressStamp (s : State) (n : Nat) (ns : Int) : Int := (ns * 1000 + s.reg (Reg.tsTxLat n) + 500) / 1000
/-- A forwarded frame is corrected as it leaves at an instant in ns (R306, R307). -/
def State.correct (s : State) (n : Nat) (f : QFrame) (now : Nat) : State × List Byte :=
  match f.ingress, ptpAt f.body with
  | some inp, some o =>
    let ty := beAt f.body o 1 % 16
    if s.reg Reg.ptpRole ≠ 1 ∨ s.reg Reg.ptpTcMode = 0 then (s, f.body)
    else if ty = 8 then
      let key := ptpKey f.body o
      match s.clk.held.find? fun e => e.1 == inp && e.2.1 == key && e.2.2.1 == n && decide (now ≤ e.2.2.2.2 + 1000000000) with
      | some e => (s, addCorrection f.body o e.2.2.2.1)
      | none => (s.bump (Reg.tcNoFollow n), f.body)
    else if ty > 3 then (s, f.body)
    else
      let res : Int := (s.egressStamp n now - s.ingressStamp inp f.stamp) * 65536
      let add := if s.reg Reg.ptpTcMode = 2 ∧ ty = 0 then res + s.reg (Reg.ptpMeanDelay inp) * 65536 / 1000 else res
      if ty = 0 ∧ bit (beAt f.body (o + 6) 1) 1 then
        let mine := (s.clk.held.filter fun e => e.1 == inp)
        let keep := if mine.length ≥ 64 then s.clk.held.erase (mine.headD (0, [], 0, 0, 0)) else s.clk.held
        (s.modClk fun c => { c with held := keep ++ [(inp, ptpKey f.body o, n, add, now)] }, f.body)
      else (s, addCorrection f.body o add)
  | _, _ => (s, f.body)

/-! The wire. -/

/-- Time on the wire of n bytes, with preamble and gap, in ns (R322). -/
def State.wireNs (s : State) (n bytes : Nat) : Nat :=
  let v := s.portSpeed n
  if v = 0 then 0 else (bytes * 8000 + v - 1) / v
/-- A frame starts at an instant in ns: it leaves the queue, its port is busy until its gap has passed (R309, R342). -/
def State.sendFrame (s : State) (n : Nat) (f : QFrame) (now : Nat) : State :=
  let left := f.len - f.sent
  let s0 := s.modPort n fun x => { x with queue := x.queue.erase f, busy := now + s.wireNs n (left + 20) }
  let (s1, body) := s0.correct n f (f.first.getD now)
  let s2 := s1.modPort n fun x => { x with wire := some { f with body := body, first := some (f.first.getD now) } }
  let s3 := (s2.setReg (Reg.txFrames n) ((s2.reg (Reg.txFrames n) + 1) % 18446744073709551616)).setRegs
    [(Reg.txOctets n, (s2.reg (Reg.txOctets n) + f.len) % 18446744073709551616),
     (Reg.qTxFrames n f.q, (s2.reg (Reg.qTxFrames n f.q) + 1) % 18446744073709551616)]
  let s4 := s3.when (decide (f.sent > 0)) fun s => s.bump (Reg.netMmFrag n)
  match f.mark with
  | some (msg, seq, dom) => s4.tsPush (s4.egressStamp n now).toNat n msg seq dom
  | none => s4
/-- Head of queue q: oldest; in queue 7 the least launch (R325). -/
def PortSt.head (x : PortSt) (q : Nat) : Option QFrame :=
  (x.queue.filter fun f => f.q == q).foldl (fun b f => match b with
    | none => some f
    | some g => if q = 7 ∧ (f.launch.getD 0) < (g.launch.getD 0) then some f else b) none
/-- Is preemption ACTIVE and queue q preemptable (R343, R344). -/
def State.preemptable (s : State) (n q : Nat) : Bool :=
  s.reg (Reg.netPreemptState n) == 2 && decide (q < 7) && bit (s.reg (Reg.netPreempt n)) q
/-- May a head of queue q start at an instant: its gate is open, and it ends with its gap before the gate next closes
(R342), unless it may be preempted (R344). -/
def State.mayStart (s : State) (n q now : Nat) (f : QFrame) : Bool :=
  bit (s.gatesAt n (now - s.roundStart now)) q && (s.preemptable n q ||
    match s.gateClose n q now with
    | some c => decide (now + s.wireNs n (f.len - f.sent + 20) ≤ c)
    | none => true)
/-- Queues 0 to 6 of a port run up to an instant, the highest first (R325). -/
def pumpFuel : Nat → State → Nat → Nat → State
  | 0, s, _, _ => s
  | k + 1, s, n, now =>
    let x := s.port n
    let heads := ([6, 5, 4, 3, 2, 1, 0].filterMap fun q => x.head q)
    match heads.foldl (fun m f => match m with | none => some f.enq | some t => some (min t f.enq)) (none : Option Nat) with
    | none => s
    | some e =>
      let t := max x.busy e
      if t > now ∨ s.reg (Reg.netLink n) ≠ 1 then s
      else match heads.find? fun f => decide (f.enq ≤ t) && s.mayStart n f.q t f with
        | some f => pumpFuel k (s.sendFrame n f t) n now
        | none =>
          match heads.find? fun f => s.mayStart n f.q now f && decide (x.busy ≤ now) with
          | some f => pumpFuel k (s.sendFrame n f now) n now
          | none => s
/-- A port runs up to an instant. -/
def State.pump (s : State) (n now : Nat) : State := pumpFuel ((s.port n).queue.length + 1) s n now

/-- LAUNCH: the head of queue 7, once its launch time has come, starts when gate and port allow (10, R309; R325). -/
def execLaunch (n : Fin 24) (now : Nat) (s : State) : Out :=
  let s1 := s.pump n now
  match (s1.port n).head 7 with
  | some f =>
    let l := f.launch.getD 0
    if l ≤ now ∧ now ≤ l + s.nat (Reg.launchWindow n) ∧ (s1.port n).busy ≤ now ∧ s1.reg (Reg.netLink n) = 1 ∧
        s1.mayStart n 7 now f then .next (s1.sendFrame n f now)
    else .next s1
  | none => .next s1
/-- LAUNCH_LATE_DROP: frames not started by L + LAUNCH_WINDOW (10, R309). -/
def execLaunchLateDrop (n : Fin 24) (now : Nat) (s : State) : Out :=
  let late (f : QFrame) : Bool := f.q == 7 && decide (f.launch.getD 0 + s.nat (Reg.launchWindow n) < now)
  .next (overL ((s.port n).queue.filter late) (fun s f => s.dropFrame n (Reg.launchLate n) f)
    (s.modPort n fun x => { x with queue := x.queue.filter fun f => !late f }))
/-- GATE_CHANGE: an entry of the combined list begins, and frames that its gates allow start (R339, R342). -/
def execGateChange (n : Fin 24) (now : Nat) (s : State) : Out := .next (s.pump n now)
/-- RESIDENCE_DROP: frames of queues 0 to 6 not started within BR_MAX_RESIDENCE of their ingress timestamp; preempted
frames stay (R342, R344). -/
def execResidenceDrop (n : Fin 24) (now : Nat) (s : State) : Out :=
  let s1 := s.pump n now
  let old (f : QFrame) : Bool := decide (f.q < 7) && f.first.isNone && decide (f.stamp + s.nat Reg.brMaxResidence * 1000 < now)
  .next (overL ((s1.port n).queue.filter old) (fun s f => s.dropFrame n (Reg.dropGate n) f)
    (s1.modPort n fun x => { x with queue := x.queue.filter fun f => !old f }))
/-- PREEMPT_HOLD: hold 139 byte times before a preemptable gate closes cuts the frame in progress, which resumes at the
next opening of its gate; fragments are at least 64 bytes (R344). -/
def execPreemptHold (n : Fin 24) (now : Nat) (s : State) : Out :=
  let s1 := s.pump n now
  let x := s1.port n
  match x.wire with
  | none => .next s1
  | some f =>
    let close : Bool := match s1.gateClose n f.q now with
      | some c => decide (c ≤ now + (s1.wireNs n 139 + 7) / 8 * 8)
      | none => false
    let left := (x.busy - now) * s1.portSpeed n / 8000
    let gone := f.len + 20 - left
    let cut := max gone (f.sent + 64)
    if x.busy ≤ now ∨ !close ∨ !s1.preemptable n f.q ∨ f.len < cut + 64 then .next s1
    else
      let part : QFrame := { f with sent := cut, enq := now }
      let v := s1.bump (Reg.netMmFrag n)
      .next ((v.setReg (Reg.txFrames n) (v.reg (Reg.txFrames n) - 1)).setRegs
        [(Reg.txOctets n, v.reg (Reg.txOctets n) - f.len), (Reg.qTxFrames n f.q, v.reg (Reg.qTxFrames n f.q) - 1)] |>.modPort n
          fun x => { x with queue := part :: x.queue, busy := now + s1.wireNs n (cut - gone + 16), wire := none })

end Sys2Proof.Machine
end

