-- ==== Sys2Proof/Machine/Ports.lean ====
section
/-!
DEFINITION. NET ports: modes and links (11, R319 to R321), cells and base lists (R324, R341), preemption (R343, R344),
segmentation (R345) and ESMC (R346).
-/
namespace Sys2Proof.Machine

/-- Replace the table; BR_FDB_COUNT and BR_FLAP_ALARM follow it (R330). -/
def State.setFdb (s : State) (l : List FdbEntry) : State :=
  (s.modNet fun t => { t with fdb := l }).setRegs
    [(Reg.brFdbCount, l.length), (Reg.brFlapAlarm, if l.any (·.pinned) then 1 else 0)]

/-- The engine's own address: ENG_MAC, else the low 48 bits of the unique ID. -/
def State.engMac (s : State) : List Byte :=
  beBytes 6 (if s.reg Reg.engMac = 0 ∨ s.paired then Config.uid % 281474976710656 else s.nat Reg.engMac)
/-- Does a port offer a mode (Table 11.1). -/
def modeOk (n mode : Nat) : Bool := mode == 0 || (if n < 8 then mode == 1 || mode == 2 else decide (3 ≤ mode) && decide (mode ≤ 5))
/-- What a link that goes down does at once (R321): frames queued and in progress are lost, dynamic entries removed. -/
def State.linkDown (s : State) (n : Nat) : State :=
  let q := (s.port n).queue
  let s1 := s.modPort n fun x => { x with queue := [], busy := 0, wire := none }
  let s2 := overL q (fun s f => s.dropFrame n (Reg.dropLink n) f) s1
  let s3 := s2.setFdb (s2.net.fdb.filter fun e => e.static || e.port != n)
  let s4 := (s3.bump (Reg.netLinkDowns n)).setReg (Reg.netSpeed n) 0
  overL [9, 10, 11, 12] (fun s r => if s.nat (Reg.refSyncePort r) = n then s.refFaults r 1 else s) s4
/-- NET_MODE: the port powers down, then comes up in the latest mode written (R319, R320). -/
def execNetMode (n : Fin 24) (mode : Nat) (s : State) : Out :=
  if !modeOk n mode then .next (s.reply 0x13)
  else
    let s1 := if s.reg (Reg.netLink n) = 1 then s.linkDown n else s
    .next ((((s1.modPort n fun x => { x with mode := some mode, changing := true })).setRegs
      [(Reg.netMode n, mode), (Reg.netLink n, 2)]).reply 0)
/-- NET_POWERDOWN_DONE: the latest mode written is brought up (R320). -/
def execNetPowerdownDone (n : Fin 24) (s : State) : Out :=
  if (s.port n).changing then
    .next ((s.modPort n fun x => { x with mode := none, changing := false }).setReg (Reg.netLink n) 0)
  else .next s
/-- NET_LINK_DOWN (R321). -/
def execNetLinkDown (n : Fin 24) (s : State) : Out :=
  if s.reg (Reg.netLink n) = 1 then .next ((s.setReg (Reg.netLink n) 0).linkDown n) else .next s
/-- NET_LINK_UP, with the speed that SGMII's in-band status gives (Table 11.1). -/
def execNetLinkUp (n : Fin 24) (sgmii : Nat) (s : State) : Out :=
  let v : Nat := match s.nat (Reg.netMode n) with
    | 1 => 25000 | 2 => 10000 | 3 => 2500 | 4 => 1000
    | 5 => if sgmii = 10 ∨ sgmii = 100 then sgmii else 1000
    | _ => 0
  if s.reg (Reg.netLink n) ≠ 0 ∨ v = 0 then .next s
  else .next (s.setRegs [(Reg.netLink n, 1), (Reg.netSpeed n, v)])
/-- NET_QCELLS: 8 x U16 (R324). -/
def execNetQcells (n : Fin 24) (cells : List Byte) (s : State) : Out :=
  let sum (b : List Byte) : Nat := (List.range 8).foldl (fun a q => a + leAt b (2 * q) 2) 0
  let others := (List.range 24).foldl (fun a m =>
    if m = n.val then a else a + (List.range 8).foldl (fun a q => a + s.queueCells m q) 0) 0
  let held := (s.holdings.filter fun h => h.kind == 30 && h.unit == n.val).foldl (fun a h => max a (h.first + h.count)) 0
  if cells.length ≠ 16 then .next (s.reply 0x12)
  else if others + sum cells > 16384 ∨ leAt cells 14 2 < held then .next (s.reply 0x13)
  else .next ((s.setBlob (Reg.netQcells n) cells).reply 0)
/-- Is a base list acceptable (R341, Table 11.5). -/
def State.gclOk (s : State) (n : Nat) (b : List Byte) : Bool :=
  let rs := records 8 b
  b.length % 8 == 0 && decide (1 ≤ rs.length) && decide (rs.length ≤ 256) &&
    rs.all (fun r => leAt r 0 4 % 8 == 0 && decide (leAt r 0 4 ≥ 8) && decide (leAt r 4 1 < 128) && leAt r 5 3 == 0) &&
    decide (rs.foldl (fun a r => a + leAt r 0 4) 0 ≤ roundNs s.family) &&
    !(s.holdings.any fun h => h.kind == 29 && h.unit == n && decide (h.first < rs.length))
/-- NET_BASE_GCL: in effect from the first round boundary at least 2 ticks after acceptance (R341). -/
def execNetBaseGcl (n : Fin 24) (b : List Byte) (s : State) : Out :=
  if !s.gclOk n b then .next (s.reply 0x13)
  else .next ((s.modPort n fun x => { x with gclNext := some ((s.actTick + 7) / 8 * 8, b) }).reply 0)
/-- BASE_GCL_APPLY at its round boundary (R341). -/
def execBaseGclApply (n : Fin 24) (s : State) : Out :=
  match (s.port n).gclNext with
  | some (t, b) =>
    if t ≤ s.tick then .next ((s.setBlob (Reg.netBaseGcl n) b).modPort n fun x => { x with gclNext := none }) else .next s
  | none => .next s
/-- NET_PREEMPT (R343, R344). -/
def execNetPreempt (n : Fin 24) (v : Nat) (s : State) : Out :=
  let mode := s.nat (Reg.netMode n)
  let offered := mode = 3 ∨ mode = 4 ∨ (mode = 5 ∧ s.portSpeed n = 1000)
  if n.val < 8 ∨ ¬ offered ∨ v ≥ 128 then .next (s.reply 0x13)
  else
    let st := s.reg (Reg.netPreemptState n)
    .next ((s.setRegs [(Reg.netPreempt n, v), (Reg.netPreemptState n, if v = 0 then 0 else if st = 0 then 1 else st)]).reply 0)
/-- PREEMPT_VERIFY_DONE: the verify exchange ends (R344). -/
def execPreemptVerifyDone (n : Fin 24) (ok : Bool) (s : State) : Out :=
  if s.reg (Reg.netPreemptState n) = 1 then .next (s.setReg (Reg.netPreemptState n) (if ok then 2 else 3)) else .next s

/-! Segmentation (R345). -/

/-- A header template: offset of the IP header, whether IPv6, offset of the transport header, whether TCP, its length. -/
structure SegHead where
  ip : Nat
  v6 : Bool
  l4 : Nat
  tcp : Bool
  deriving DecidableEq, Repr
/-- Read a template: Ethernet, at most one tag, IPv4, or IPv6 without extension headers, TCP or UDP; none where it is
anything else. -/
def segHead (h : List Byte) : Option SegHead :=
  let ip := if beAt h 12 2 = 0x8100 then 18 else 14
  let ty := beAt h (ip - 2) 2
  let v6 := ty == 0x86DD
  let l4 := if v6 then ip + 40 else ip + beAt h ip 1 % 16 * 4
  let proto := if v6 then beAt h (ip + 6) 1 else beAt h (ip + 9) 1
  let tcp := proto == 6
  let size := if tcp then beAt h (l4 + 12) 1 / 16 * 4 else 8
  if (ty = 0x0800 ∨ ty = 0x86DD) ∧ (proto = 6 ∨ proto = 17) ∧ h.length = l4 + size ∧ size ≥ 8 then
    some { ip, v6, l4, tcp }
  else none
/-- One segment: number, bytes before it, its payload, whether it is the last. -/
def segment (h : List Byte) (x : SegHead) (i before : Nat) (data : List Byte) (last : Bool) : List Byte :=
  let l4len := h.length - x.l4 + data.length
  let h1 :=
    if x.v6 then setAt h (x.ip + 4) (beBytes 2 l4len)
    else
      let a := setAt (setAt h (x.ip + 2) (beBytes 2 (l4len + x.l4 - x.ip))) (x.ip + 4) (beBytes 2 ((beAt h (x.ip + 4) 2 + i) % 65536))
      let z := setAt a (x.ip + 10) [0, 0]
      setAt z (x.ip + 10) (beBytes 2 (inetSum (slice z x.ip (x.l4 - x.ip))))
  let h2 :=
    if x.tcp then
      let fl := beAt h (x.l4 + 13) 1
      let fl1 := if last then fl else fl &&& 0xF6
      let fl2 := if i = 0 then fl1 else fl1 &&& 0x7F
      setAt (setAt h1 (x.l4 + 4) (beBytes 4 ((beAt h (x.l4 + 4) 4 + before) % 4294967296))) (x.l4 + 13) [BitVec.ofNat 8 fl2]
    else setAt h1 (x.l4 + 4) (beBytes 2 l4len)
  let at_ := x.l4 + if x.tcp then 16 else 6
  let h3 := setAt h2 at_ [0, 0]
  let pseudo := (if x.v6 then slice h3 (x.ip + 8) 32 else slice h3 (x.ip + 12) 8) ++ [0, if x.tcp then 6 else 17] ++ beBytes 2 l4len
  let c := inetSum (pseudo ++ h3.drop x.l4 ++ data)
  setAt h3 at_ (beBytes 2 (if c = 0 ∧ !x.tcp then 0xFFFF else c)) ++ data
/-- Cut a payload into segments. -/
def segmentsFuel : Nat → List Byte → SegHead → Nat → Nat → List Byte → List (List Byte)
  | 0, _, _, _, _, _ => []
  | k + 1, h, x, mss, i, p =>
    if p.length ≤ mss then [segment h x i (i * mss) p true]
    else segment h x i (i * mss) (p.take mss) false :: segmentsFuel k h x mss (i + 1) (p.drop mss)
/-- SEG_SEND: a descriptor is cut into segments and queued in order, or refused (R345). -/
def execSegSend (n : Fin 24) (q mss : Nat) (head payload : List Byte) (s : State) : Out :=
  match segHead head with
  | none => .next (s.bump Reg.segRefused)
  | some x =>
    if q > 6 ∨ mss < 64 ∨ mss > 9000 ∨ payload.length > 262144 ∨ head.length + min mss payload.length + 4 > 9216 then
      .next (s.bump Reg.segRefused)
    else
      let now := s.timeNs
      let segs := segmentsFuel (payload.length / mss + 1) head x mss 0 payload
      let s1 := (s.bump Reg.segSends).setReg Reg.segFrames ((s.reg Reg.segFrames + segs.length) % 18446744073709551616)
      .next ((overL segs (fun s b => s.enqueue n { q := q, body := b, len := max 64 (b.length + 4), enq := now, stamp := now }) s1).pump n now)

/-! ESMC (R346; 09, R289). -/

/-- The QL that a port sends: QL-DNU on the port of the selected SyncE candidate (09, R289). -/
def State.esmcQl (s : State) (n : Nat) : Nat :=
  let r := s.nat Reg.dpllRef
  if 9 ≤ r ∧ r ≤ 12 ∧ s.nat (Reg.refSyncePort r) = n then 0xF else qlOf s.ownGrade
/-- An ESMC PDU without its FCS: Ethernet header, subtype, OUI, ITU subtype, version and event flag, QL TLV, extended QL TLV
(R346; the layout of ITU-T G.8264, log entry 217). -/
def State.esmcPdu (s : State) (ql : Nat) (event : Bool) : List Byte :=
  [0x01, 0x80, 0xC2, 0x00, 0x00, 0x02] ++ s.engMac ++ [0x88, 0x09, 0x0A, 0x00, 0x19, 0xA7, 0x00, 0x01] ++
    [if event then 0x18 else 0x10, 0, 0, 0] ++ [0x01, 0x00, 0x04, BitVec.ofNat 8 ql] ++
    [0x02, 0x00, 0x14, 0xFF] ++ beBytes 8 Config.uid ++ List.replicate 8 0
/-- ESMC_TX: an information PDU once per second, or an event PDU on a change of QL (R346). -/
def execEsmcTx (n : Fin 24) (s : State) : Out :=
  let x := s.port n
  let ql := s.esmcQl n
  let event := match x.esmcSent with | some q => q.1 != ql | none => false
  let due := match x.esmcSent with | some q => decide (q.2 + 1000000000 ≤ s.timeNs) | none => true
  if !bit (s.reg Reg.synceTxMask) n ∨ !(event || due) then .next s
  else .next { s.modPort n fun x => { x with esmcSent := some (ql, s.timeNs) } with
    answer := { bytes := s.esmcPdu ql event, sent := true } }
/-- A port's received QL reaches the SyncE candidates on it (09, Table 9.4); `ext` names an extended QL:
0 none, 1 QL-ePRTC... of the extended TLV as grade + 1. -/
def State.esmcGrade (s : State) (n ql : Nat) (ext : Option Nat) : State :=
  let g : Nat := match ext with
    | some e => e
    | none => if ql = 2 then 1 else if ql = 4 then 3 else if ql = 8 then 5 else if ql = 0xB then 8 else 15
  overL [9, 10, 11, 12] (fun s r => if s.nat (Reg.refSyncePort r) = n then s.carryGrade r g else s)
    (s.setReg (Reg.netEsmcQl n) ql)
/-- ESMC_TIMEOUT: no PDU for 5 s (R346). -/
def execEsmcTimeout (n : Fin 24) (now : Nat) (s : State) : Out :=
  match (s.port n).esmcAt with
  | some t => if t + 5000000000 ≤ now then .next ((s.modPort n fun x => { x with esmcAt := none }).esmcGrade n 0xF none) else .next s
  | none => .next s

end Sys2Proof.Machine
end

