-- ==== Sys2Proof/Machine/Streams.lean ====
section
/-!
DEFINITION. Media streams (12_media_streams): formats, packets in and out, play-out, commands.
-/
namespace Sys2Proof.Machine

/-- A receive stream. -/
def State.rx (s : State) (t : Nat) : RxSt := NTable.get {} s.rxs t
/-- Change a receive stream. -/
def State.modRx (s : State) (t : Nat) (f : RxSt → RxSt) : State := { s with rxs := NTable.mod {} s.rxs t f }
/-- A transmit stream. -/
def State.tx (s : State) (t : Nat) : TxSt := NTable.get {} s.txs t
/-- Change a transmit stream. -/
def State.modTx (s : State) (t : Nat) (f : TxSt → TxSt) : State := { s with txs := NTable.mod {} s.txs t f }
/-- Plot of a stream. -/
def State.streamPlot (s : State) (rx : Bool) (t : Nat) : Option Nat := s.holder (if rx then 18 else 19) noUnit t
/-- Rate multiple of a receive stream (R350, R351). -/
def State.rxMult (s : State) (t : Nat) : Nat := s.streamMult (s.nat (Reg.rxRate t)) (s.nat (Reg.rxDomain t))
/-- Samples of a receive packet per channel (R350). -/
def State.rxCount (s : State) (t : Nat) : Nat := 6 * s.rxMult t * ptimeTicks (s.nat (Reg.rxPtime t))
/-- Rate multiple of a transmit stream. -/
def State.txMult (s : State) (t : Nat) : Nat := s.streamMult (s.nat (Reg.txRate t)) (s.nat (Reg.txDomain t))
/-- Samples of a transmit packet per channel. -/
def State.txCount (s : State) (t : Nat) : Nat := 6 * s.txMult t * ptimeTicks (s.nat (Reg.txPtime t))

/-! Packets. -/

/-- Where a frame's payload lies and what its outer header says (11, R327). -/
structure EthHead where
  dst : List Byte
  src : List Byte
  /-- VID of the tag; none without a tag, 0 for a priority tag. -/
  vid : Option Nat
  pcp : Nat
  ty : Nat
  off : Nat
  deriving DecidableEq, Repr
/-- Read the outer header of a frame. -/
def ethHead (b : List Byte) : EthHead :=
  if beAt b 12 2 = 0x8100 then
    { dst := b.take 6, src := slice b 6 6, vid := some (beAt b 14 2 % 4096), pcp := beAt b 14 2 / 8192, ty := beAt b 16 2, off := 18 }
  else { dst := b.take 6, src := slice b 6 6, vid := none, pcp := 0, ty := beAt b 12 2, off := 14 }
/-- VID and PCP of a frame on a port: NET_PVID and PCP 0 without a tag or with a priority tag (11, R327). -/
def State.vidOf (s : State) (n : Nat) (h : EthHead) : Nat × Nat :=
  match h.vid with
  | some v => if v = 0 then (s.nat (Reg.netPvid n), 0) else (v, h.pcp)
  | none => (s.nat (Reg.netPvid n), 0)
/-- Does a frame match a receive leg (Table 12.3). -/
def State.legMatch (s : State) (t k n vid : Nat) (h : EthHead) (b : List Byte) : Bool :=
  let g := s.rxLeg t k
  let u := h.off + beAt b h.off 1 % 16 * 4
  legOn g && (legPort g == 0xFF || legPort g == n) && leAt g 2 2 == vid && slice g 4 6 == h.dst &&
    if fmtRtp (s.nat (Reg.rxFormat t)) then
      h.ty == 0x0800 && beAt b (h.off + 9) 1 == 17 && beAt b (h.off + 16) 4 == leAt g 0xC 4 &&
        beAt b (u + 2) 2 == leAt g 0x14 2 && (leAt g 0x10 4 == 0 || leAt g 0x10 4 == beAt b (h.off + 12) 4)
    else h.ty == 0x22F0 && beAt b (h.off + 4) 8 == leAt g 0x18 8
/-- Does a running receive stream match a frame: its streams and legs (R366). -/
def State.rxMatches (s : State) (n vid : Nat) (h : EthHead) (b : List Byte) : List (Nat × Nat) :=
  s.rxLive.flatMap fun t => ([0, 1].filter fun k => s.legMatch t k n vid h b).map fun k => (t, k)

/-- A packet read from a frame: its 32-bit timestamp, sequence number and payload. -/
structure Packet where
  ts : Nat
  seq : Nat
  payload : List Byte
  deriving DecidableEq, Repr
/-- Sample rate code of AAF (IEEE 1722-2016). -/
def aafRate (hz : Nat) : Nat :=
  if hz = 32000 then 3 else if hz = 44100 then 4 else if hz = 48000 then 5 else if hz = 88200 then 6 else if hz = 96000 then 7
  else if hz = 176400 then 8 else if hz = 192000 then 9 else 0
/-- Sample rate code of a CIP header (IEC 61883-6). -/
def cipRate (hz : Nat) : Nat :=
  if hz = 32000 then 0 else if hz = 44100 then 1 else if hz = 48000 then 2 else if hz = 88200 then 3 else if hz = 96000 then 4
  else if hz = 176400 then 5 else if hz = 192000 then 6 else 7
/-- Read a frame as a packet of a receive stream; none where it disagrees with the configuration (R348, R352, R355). -/
def State.readPacket (s : State) (t : Nat) (h : EthHead) (b : List Byte) : Option Packet :=
  let fmt := s.nat (Reg.rxFormat t)
  let size := s.nat (Reg.rxChannels t) * s.rxCount t * fmtBytes fmt
  if fmtRtp fmt then
    let u := h.off + beAt b h.off 1 % 16 * 4
    let r := u + 8
    let len := beAt b (u + 4) 2 - 8
    let fixed := 12 + beAt b r 1 % 16 * 4
    let hd := if bit (beAt b r 1 : Int) 4 then fixed + 4 + 4 * beAt b (r + fixed + 2) 2 else fixed
    let pad := if bit (beAt b r 1 : Int) 5 then beAt b (r + len - 1) 1 else 0
    if beAt b r 1 / 64 = 2 ∧ beAt b (r + 1) 1 % 128 = s.nat (Reg.rxPt t) ∧ len = hd + size + pad then
      some { ts := beAt b (r + 4) 4, seq := beAt b (r + 2) 2, payload := slice b (r + hd) size }
    else none
  else
    let o := h.off
    let tv := beAt b (o + 1) 1 % 2 == 1
    if fmt = 6 then
      if beAt b o 1 = 0 ∧ tv ∧ beAt b (o + 20) 2 = size + 8 ∧ beAt b (o + 25) 1 = s.nat (Reg.rxChannels t) ∧
          beAt b (o + 28) 1 = 0x90 ∧ beAt b (o + 29) 1 = cipRate (s.nat (Reg.rxRate t)) then
        some { ts := beAt b (o + 12) 4, seq := beAt b (o + 2) 1, payload := slice b (o + 32) size }
      else none
    else
      let kind : Nat := if fmt = 3 then 4 else if fmt = 4 then 3 else 2
      let depth : Nat := if fmt = 3 then 16 else if fmt = 4 then 24 else 32
      if beAt b o 1 = 2 ∧ tv ∧ beAt b (o + 16) 1 = kind ∧ beAt b (o + 17) 1 / 16 = aafRate (s.nat (Reg.rxRate t)) ∧
          beAt b (o + 17) 2 % 1024 = s.nat (Reg.rxChannels t) ∧ beAt b (o + 19) 1 = depth ∧ beAt b (o + 20) 2 = size then
        some { ts := beAt b (o + 12) 4, seq := beAt b (o + 2) 1, payload := slice b (o + 24) size }
      else none
/-- The number nearest to `near` that is congruent to x modulo 2^32. -/
def nearest32 (x near : Int) : Int := near + wrapS 32 (x - near)
/-- Sample index of a packet (R352): nearest to its arrival in ns. -/
def State.packetIndex (s : State) (t arr : Nat) (k : Packet) : Nat :=
  let rate := s.nat (Reg.rxRate t)
  let off : Int := s.reg (Reg.rxTsOffset t)
  if fmtRtp (s.nat (Reg.rxFormat t)) then
    (nearest32 (k.ts - off) (arr * rate / 1000000000 : Nat)).toNat
  else ((2 * nearest32 (k.ts - off) arr * rate + 1000000000) / 2000000000).toNat
/-- One sample of a payload as Q1.31, with its C bit (R348, R349). -/
def readSample (fmt : Nat) (b : List Byte) (i : Nat) : RxSample :=
  let w := fmtBytes fmt
  if fmt = 2 ∨ fmt = 6 then
    { v := wrapS 32 ((beAt b (4 * i + 1) 3 * 256 : Nat) : Int), c := bit (beAt b (4 * i) 1) 2 }
  else { v := wrapS 32 ((beAt b (w * i) w * 256 ^ (4 - w) : Nat) : Int) }
/-- Ingest tick of a sample of a stream in H (R353). -/
def State.ingestTick (s : State) (t i : Nat) : Nat := i / (6 * max 1 (s.rxMult t)) + s.nat (Reg.rxLinkOffset t)
/-- Play-out deadline of an ingest tick, in ns times 2^32 (R354). -/
def State.playout (s : State) (t tick : Nat) : Nat :=
  s.boundaryTime (tick + 1) - s.nat (Reg.rxGuard t) * 4294967296
/-- Key of a sample in the stream's store. -/
def sampleKey (i ch : Nat) : Nat := i * 64 + ch
/-- Store a packet's samples. -/
def State.storeSamples (s : State) (t i : Nat) (payload : List Byte) : State :=
  let fmt := s.nat (Reg.rxFormat t)
  let c := s.nat (Reg.rxChannels t)
  let n := s.rxCount t
  s.modRx t fun x => { x with samples := (List.range (n * c)).foldl (fun tb k =>
    NTable.put none tb (sampleKey (i + k / c) (k % c)) (some (readSample fmt payload k))) x.samples }
/-- Count the packets missing between two sequence numbers (R357). -/
def State.seqGap (s : State) (t seq : Nat) : State :=
  let m := if fmtRtp (s.nat (Reg.rxFormat t)) then 65536 else 256
  let s1 := s.modRx t fun x => { x with lastSeq := some seq }
  match (s.rx t).lastSeq with
  | some l =>
    let d := (seq + m - l) % m
    if d = 0 ∨ d ≥ m / 2 then (if d = 0 then s1 else s) else s1.bumpBy (Reg.rxSeqGaps t) (d - 1)
  | none => s1
/-! Non-audio (R363). -/

/-- Does the IEC 61937 preamble appear: in two samples of channel 2k in a row, or across the pair in one sample. -/
def burst (prev a b : Int) : Bool :=
  let hi (x : Int) : Nat := field x 31 16
  (hi prev == 0xF872 && hi a == 0x4E1F) || (hi a == 0xF872 && hi b == 0x4E1F)
/-- Run the detectors of a pair over a block: samples of both channels, the index of the first, those enabled. -/
def PairNa.run (x : PairNa) (mask first : Nat) (a b : List RxSample) : PairNa × Bool :=
  ((a.zip (b ++ List.replicate a.length { v := 0 })).zipIdx first).foldl (fun (st : PairNa × Bool) e =>
    let y := st.1
    let u := e.1.1
    let start := e.2 % 192 == 0
    let run := if start then 1 else if y.csRun = 0 then 0 else y.csRun + 1
    let csBit := if e.2 % 192 = 1 then u.c else y.csBit
    let csFire := bit (mask : Int) 0 && run == 192 && csBit
    let fire := csFire || (bit (mask : Int) 1 && burst y.prev u.v e.1.2.v)
    ({ y with csRun := if run = 192 then 0 else run, csBit := csBit, prev := u.v }, st.2 || fire)) (x, false)

/-! Streams in S or F (R358, R363). -/

/-- The detectors of a pair over the samples of a packet; a pair that is NON-AUDIO reads 0 with MUTE (R363). -/
def State.freePair (s : State) (t k first : Nat) (a b : List RxSample) : State × Bool :=
  let mask := s.nat (Reg.rxNonaudio t)
  let cs := if s.nat (Reg.rxFormat t) = 2 ∨ s.nat (Reg.rxFormat t) = 6 then mask else mask &&& 6
  let (y, fire) := (NTable.get {} (s.rx t).pairs k).run cs first a b
  let was := bit (s.reg (Reg.rxNaState t)) k
  let s1 := s.modRx t fun x => { x with pairs := NTable.put {} x.pairs k (if fire then { y with fired := some s.tick } else y) }
  let s2 := if fire ∧ !was then (s1.orReg (Reg.rxNaState t) (2 ^ k)).bump (Reg.rxNaEvents t) else s1
  (s2, (fire || was) && bit (mask : Int) 2)
/-- A stream in S or F delivers a packet's samples, after zeros for a gap in s, with its arrival as their time (R358). -/
def State.deliverPkt (s : State) (t : Nat) (p : RxPkt) : State :=
  let fmt := s.nat (Reg.rxFormat t)
  let c := s.nat (Reg.rxChannels t)
  let n := s.rxCount t
  let step := secondUnits / max 1 (s.nat (Reg.rxRate t))
  let gap := match (s.rx t).next with | some k => p.s - k | none => 0
  let at_ (j : Int) : Nat := ((p.at_ * 4294967296 : Nat) + j * step).toNat
  let chan (ch : Nat) : List RxSample := (List.range n).map fun i => readSample fmt p.payload (i * c + ch)
  overN ((c + 1) / 2) (fun s k =>
    let a := chan (2 * k)
    let b := if 2 * k + 1 < c then chan (2 * k + 1) else []
    let r := s.freePair t k p.s a b
    let up := (NTable.get {} (s.rx t).pairs k).rampUp
    let s1 := overL [(2 * k, a), (2 * k + 1, b)] (fun s (e : Nat × List RxSample) =>
      if e.1 ≥ c then s
      else
        let id := sigOf 2 (s.nat (Reg.rxChBase t) + e.1)
        let raw := e.2.map (·.v)
        let vs := if r.2 then silence raw else if up then rampUp raw else raw
        let zs := overN gap (fun s j => s.carry id (at_ ((j : Int) - gap)) 0) s
        overL vs.zipIdx (fun s (w : Int × Nat) => s.carry id (at_ w.2) w.1) zs) r.1
    s1.modRx t fun x => { x with pairs := NTable.mod {} x.pairs k fun y => { y with rampUp := false } }) s
/-- Packets of a stream in S or F pass to their tracker, in order of s: those accepted by an instant in ns, in a pair at
INGEST_READY, else as each is accepted (R358; 08, R229, R232). -/
def State.feedTracker (s : State) (t upTo : Nat) : State :=
  let due := sortBy (fun a b => decide (a.s ≤ b.s)) ((s.rx t).feed.filter fun p => decide (p.at_ ≤ upTo))
  let n := s.rxCount t
  let s1 := s.modRx t fun x => { x with feed := x.feed.filter fun p => !decide (p.at_ ≤ upTo), fed := due }
  let s2 := overL due (fun s (p : RxPkt) =>
    (s.deliverPkt t p).modRx t fun x => { x with next := some (max (p.s + n) (x.next.getD 0)) }) s1
  s2.modRx t fun x => { x with pkts := x.pkts.filter fun q => decide (q.at_ + 2000000 > upTo) }

/-! Acceptance (R354, R355, R358, R359). -/

/-- On accepting a packet a chip of a pair tells the partner: stream, sequence number, CRC-32 of the payload, in S and F the
instant (08, R227, R229). -/
def State.tellRcpt (s : State) (t : Nat) (p : RxPkt) : State :=
  if s.paired then s.sendCell (.rcpt t p.seq (crc32 p.payload) (if s.reg (Reg.rxDomain t) = 0 then none else some p.at_)) else s
/-- Accept a packet (R354); one whose RCPT the partner has sent takes the earlier instant (08, R229). -/
def State.acceptPkt (s : State) (t : Nat) (p0 : RxPkt) : State :=
  let heard := s.pair.rcpts.find? fun e => e.1 == t && e.2.1 == p0.seq
  let p : RxPkt := match heard with
    | some e => { p0 with rcpt := e.2.2.1 == crc32 p0.payload, at_ := match e.2.2.2.1 with | some k => min k p0.at_ | none => p0.at_ }
    | none => p0
  let s1 := (s.seqGap t p.seq).setRegs [(Reg.rxPkts t, bump64 (s.reg (Reg.rxPkts t))), (Reg.rxLastS t, p.s)]
  let s2 := (s1.modRx t fun x => { x with pkts := x.pkts ++ [p] }).tellRcpt t p0
  if s.reg (Reg.rxDomain t) = 0 then s2.storeSamples t p.s p.payload
  else
    let s3 := s2.modRx t fun x => { x with feed := x.feed ++ [p] }
    if s.paired then s3 else s3.feedTracker t p.at_
/-- A copy of a packet already accepted: discarded; a payload that differs is counted (R359). -/
def State.copyPkt (s : State) (t : Nat) (p : RxPkt) : State :=
  let diff := (s.rx t).pkts.any fun q => q.s == p.s && q.payload != p.payload
  (s.modRx t fun x => { x with pkts := x.pkts.map fun q => if q.s = p.s then { q with legs := q.legs ||| p.legs } else q }).when diff
    fun s => s.bump (Reg.rxLegDiff t)
/-- Judge a packet that arrived at an instant in ns and take it (R354, R355, R358, R359). -/
def State.judgePkt (s : State) (t : Nat) (p : RxPkt) (form : Bool) : State :=
  let n := s.rxCount t
  if s.reg (Reg.rxDomain t) = 0 then
    if p.at_ * 4294967296 > s.playout t (s.ingestTick t p.s) then s.bump (Reg.rxLate t)
    else if form then s.bump (Reg.rxFormatErr t)
    else if s.ingestTick t (p.s + n - 1) > s.tickOf (p.at_ * 4294967296) + 15 then s.bump (Reg.rxEarly t)
    else if (s.rx t).pkts.any fun q => q.s == p.s then s.copyPkt t p
    else s.acceptPkt t p
  else if form then s.bump (Reg.rxFormatErr t)
  else
    let next := (s.rx t).next
    if (s.rx t).pkts.any fun q => q.s == p.s then s.copyPkt t p
    else match next with
      | some k => if p.s < k then s.bump (Reg.rxLate t) else if p.s ≥ k + 16 * n then s.bump (Reg.rxEarly t) else s.acceptPkt t p
      | none => s.acceptPkt t p
/-- A frame that matched a leg of a stream (R354 to R359; within FRAME_RX). -/
def State.streamFrame (s : State) (t k : Nat) (h : EthHead) (b : List Byte) (arr : Nat) : State :=
  if s.reg (Reg.rxState t) ≠ 1 ∧ s.reg (Reg.rxState t) ≠ 2 then s
  else match s.readPacket t h b with
    | none =>
      let rtp := fmtRtp (s.nat (Reg.rxFormat t))
      let r := h.off + beAt b h.off 1 % 16 * 4 + 8
      let i := s.packetIndex t arr { ts := if rtp then beAt b (r + 4) 4 else beAt b (h.off + 12) 4, seq := 0, payload := [] }
      if rtp then s.judgePkt t { s := i, seq := 0, payload := [], legs := 2 ^ k, at_ := arr } true
      else s.bump (Reg.rxFormatErr t)
    | some q => s.judgePkt t { s := s.packetIndex t arr q, seq := q.seq, payload := q.payload, legs := 2 ^ k, at_ := arr } false

/-! Play-out. -/

/-- Samples of a channel of a block; a sample that no packet delivered is missing. -/
def State.rxBlock (s : State) (t ch j : Nat) : List (Option RxSample) :=
  let n := 6 * max 1 (s.rxMult t)
  (List.range n).map fun i => NTable.get none (s.rx t).samples (sampleKey (j * n + i) ch)
/-- The detectors of pair k at a block (R363). -/
def State.rxPair (s : State) (t k j : Nat) : State :=
  let fill (ch : Nat) : List RxSample := (s.rxBlock t ch j).map fun o => o.getD { v := 0 }
  let mask := s.nat (Reg.rxNonaudio t)
  let cs := if s.nat (Reg.rxFormat t) = 2 ∨ s.nat (Reg.rxFormat t) = 6 then mask else mask &&& 6
  let (y, fire) := (NTable.get {} (s.rx t).pairs k).run cs (j * 6 * max 1 (s.rxMult t)) (fill (2 * k)) (fill (2 * k + 1))
  let was := bit (s.reg (Reg.rxNaState t)) k
  let s1 := s.modRx t fun x => { x with pairs := NTable.put {} x.pairs k (if fire then { y with fired := some s.tick } else y) }
  if fire ∧ !was then (s1.orReg (Reg.rxNaState t) (2 ^ k)).bump (Reg.rxNaEvents t) else s1
/-- The blocks of a stream for its ingest tick, as they stand: concealed, ramped, muted (R357, R363, R364). -/
def State.putRxBlocks (s : State) (t j : Nat) (up down : Bool) (into : State → SigId → List Sample → State) : State :=
  overN (s.nat (Reg.rxChannels t)) (fun s ch =>
    let raw := (s.rxBlock t ch j).map fun o => match o with | some x => x.v | none => 0
    let na := NTable.get {} (s.rx t).pairs (ch / 2)
    let mute := bit (s.reg (Reg.rxNaState t)) (ch / 2) && bit (s.reg (Reg.rxNonaudio t)) 2
    let b1 := if up || na.rampUp then rampUp raw else raw
    let b2 := if down then rampDown b1 else b1
    into s (sigOf 2 (s.nat (Reg.rxChBase t) + ch)) (if mute then silence b2 else b2)) s
/-- Count leg losses of the packets whose deadline this is: a leg that brought no copy of one that the other leg brought
(R359). -/
def State.legLosses (s : State) (t : Nat) : State :=
  let due := (s.rx t).pkts.filter fun p => s.ingestTick t p.s == s.tick
  let both := legOn (s.rxLeg t 0) && legOn (s.rxLeg t 1)
  let miss (k : Nat) : Nat := if both then due.countP (fun p => !bit (p.legs : Int) k && bit (p.legs : Int) (1 - k)) else 0
  let b := if s.blob (Reg.rxLegLoss t) = [] then List.replicate 8 0 else s.blob (Reg.rxLegLoss t)
  if miss 0 + miss 1 = 0 then s
  else s.setBlob (Reg.rxLegLoss t) (leBytes 4 ((leAt b 0 4 + miss 0) % 4294967296) ++ leBytes 4 ((leAt b 4 4 + miss 1) % 4294967296))
/-- PLAYOUT_DEADLINE of a stream in H for the ingest tick under way (R353, R354, R357, R359, R363). -/
def execPlayoutDeadline (t : Fin 1024) (s : State) : Out :=
  let x := s.rx t
  let d := s.nat (Reg.rxLinkOffset t)
  if s.reg (Reg.rxState t) ≠ 2 ∨ s.reg (Reg.rxDomain t) ≠ 0 ∨ x.closed ∨ s.tick < d then .next s
  else
    let j := s.tick - d
    let miss := (List.range (s.nat (Reg.rxChannels t))).any fun ch => (s.rxBlock t ch j).any Option.isNone
    let s1 := overN ((s.nat (Reg.rxChannels t) + 1) / 2) (fun s k => s.rxPair t k j) (s.legLosses t)
    let down := x.stopT == some (s.tick + 1)
    let s2 := s1.putRxBlocks t j x.rampUp down fun s y b => { s with ingest := NTable.put [] s.ingest y b }
    .next ((s2.modRx t fun y => { y with closed := true, concealed := miss, wasRamp := x.rampUp, rampUp := miss
                                         pairs := y.pairs.map fun (e : Nat × PairNa) => (e.1, { e.2 with rampUp := false }) }).when miss
      fun s => s.bump (Reg.rxConcealed t))
/-- A new tick: blocks may be closed again, what lies behind is dropped. -/
def State.rxBoundary (s : State) : State :=
  { s with rxs := s.rxs.map fun (e : Nat × RxSt) =>
      let n := 6 * max 1 (s.rxMult e.1)
      let gone := s.tick - s.nat (Reg.rxLinkOffset e.1)
      (e.1, { e.2 with
        closed := false
        samples := e.2.samples.filter fun (k : Nat × Option RxSample) => decide (k.1 / 64 ≥ (gone - 1) * n)
        pkts := e.2.pkts.filter fun p => decide (s.ingestTick e.1 p.s + 1 ≥ s.tick) || s.reg (Reg.rxDomain e.1) != 0 }) }
/-- NONAUDIO_HOLD_EXPIRE of pair k of a receive stream: no detector fired for 8,000 ticks (R363). -/
def State.naExpireRx (s : State) (t k : Nat) : State :=
  match (NTable.get {} (s.rx t).pairs k).fired with
  | some f =>
    if bit (s.reg (Reg.rxNaState t)) k ∧ f + 8000 ≤ s.tick then
      (s.setReg (Reg.rxNaState t) (clearBit (s.reg (Reg.rxNaState t)) k)).modRx t fun x =>
        { x with pairs := NTable.mod {} x.pairs k fun y => { y with fired := none, rampUp := true } }
    else s
  | none => s

/-! What streams need of the bridge (11, R335, R337). -/

/-- Multicast keys that live receive streams need: address and FID. -/
def State.mcNeeded (s : State) : List (List Byte × Nat) :=
  (s.rxLive.flatMap fun t => [s.rxLeg t 0, s.rxLeg t 1]).filterMap fun g =>
    if legOn g ∧ bit (leAt g 4 1) 0 then some (slice g 4 6, s.nat (Reg.vlanFid (leAt g 2 2))) else none
/-- ENGINE entries follow the live streams (R335, R364). -/
def State.refreshMc (s : State) : State :=
  let need := s.mcNeeded.eraseDups
  let has (e : McEntry) : Bool := need.contains (e.mac, e.fid)
  let kept := (s.net.mc.map fun e => { e with engine := has e }).filter fun e => e.engine || e.gardener
  let fresh := need.filter fun k => !(kept.any fun e => e.mac == k.1 && e.fid == k.2)
  let mc := kept ++ fresh.map fun k => { mac := k.1, fid := k.2, ports := 0, engine := true }
  (s.modNet fun t => { t with mc := mc }).setReg Reg.mcCount mc.length

/-! Starts and stops (R364 to R366). -/

/-- Is a leg record well formed. -/
def legFormOk (g : List Byte) (rx : Bool) : Bool :=
  g.length == 32 && (decide (legPort g ≤ 23) || (rx && legPort g == 0xFF)) && decide (1 ≤ leAt g 2 2) &&
    decide (leAt g 2 2 ≤ 4094) && decide (leAt g 1 1 < (if rx then 2 else 8)) && leAt g 0xA 2 == 0
/-- Match key of a leg (R366). -/
def legKey (rtp : Bool) (g : List Byte) : List Byte :=
  g.take 1 ++ slice g 2 8 ++ if rtp then slice g 0xC 10 else slice g 0x18 8
/-- Bed ranges of the plot's active and shadow lasts. -/
def State.bedUses (s : State) (p : Nat) : List (Nat × Nat) :=
  ([(s.plot p).active, (s.plot p).shadow].filterMap id).flatMap fun l => l.windows.filterMap DmaWin.bed
/-- The code that refuses a start of a receive stream (Table 12.4). -/
def State.rxCode (s : State) (p t : Nat) : Option Nat :=
  let legs := [s.rxLeg t 0, s.rxLeg t 1].filter legOn
  let c := s.nat (Reg.rxChannels t)
  let base := s.nat (Reg.rxChBase t)
  let fmt := s.nat (Reg.rxFormat t)
  let ring := s.rxRing t
  let other := s.rxLive.filter fun u => u != t
  if fmt > 6 ∨ s.rxMult t = 0 ∨ c < 1 ∨ c > 64 ∨ s.nat (Reg.rxPtime t) > 2 ∨
      fmtHead fmt + c * s.rxCount t * fmtBytes fmt > 9216 ∨ legs = [] ∨ !(legs.all fun g => legFormOk g true) then some 0x10
  else if base + c > 8192 ∨ !s.holdsRange p 20 2 base c ∨ ring.1 % 4096 ≠ 0 ∨ !s.holdsRange p 9 noUnit ring.1 ring.2 ∨
      (other.any fun u => let r := s.rxRing u; meets r.1 r.2 ring.1 ring.2) ∨
      ((s.bedUses p).any fun e => meets e.1 e.2 ring.1 ring.2) ∨
      (other.any fun u => meets (s.nat (Reg.rxChBase u)) (s.nat (Reg.rxChannels u)) base c) ∨
      (s.paired && decide (s.nat (Reg.rxGuard t) < 1000)) then some 0x11
  else match legs with
    | [a, b] => if legKey (fmtRtp fmt) a = legKey (fmtRtp fmt) b then some 0x13 else none
    | _ => none
/-- Does an IPv4 interface carry a VID (16, R447). -/
def State.ifaceFor (s : State) (vid : Nat) : Option (List Byte) :=
  ((List.range 16).map fun k => s.blob (Reg.ipIface k)).find? fun b => b != [] && vid != 0 && leAt b 0 2 == vid
/-- The code that refuses a start of a transmit stream (Table 12.4). -/
def State.txCode (s : State) (p t : Nat) : Option Nat :=
  let legs := [s.txLeg t 0, s.txLeg t 1].filter legOn
  let c := s.nat (Reg.txChannels t)
  let base := s.nat (Reg.txChBase t)
  let fmt := s.nat (Reg.txFormat t)
  let x := s.plot p
  let gates := [x.active, x.shadow].filterMap id
  if fmt > 6 ∨ s.txMult t = 0 ∨ c < 1 ∨ c > 64 ∨ s.nat (Reg.txPtime t) > 2 ∨ s.txLen t > 9216 ∨ legs = [] ∨
      !(legs.all fun g => legFormOk g false) then some 0x10
  else if base + c > 8192 ∨ !s.holdsRange p 20 3 base c ∨
      ((s.txLive.filter fun u => u != t).any fun u => meets (s.nat (Reg.txChBase u)) (s.nat (Reg.txChannels u)) base c) ∨
      (fmtRtp fmt && legs.any fun g => (s.ifaceFor (leAt g 2 2)).isNone) then some 0x11
  else if s.reg (Reg.txDomain t) = 0 ∧ (x.active.isNone ∨ s.nat (Reg.txGateOffset t) < 1500 ∨
      gates.any fun l => (s.gateFault p { l with routes := if some l = x.active then x.routes else l.routes } [t]).isSome) then some 0x12
  else none

/-- Registers of a stream: state, status. -/
def streamRegs (rx : Bool) (t : Nat) : Reg × Reg :=
  if rx then (Reg.rxState t, Reg.rxStatus t) else (Reg.txState t, Reg.txStatus t)
/-- Pending actions of a stream. -/
def State.streamActs (s : State) (rx : Bool) (t : Nat) : List (Nat × Bool) := if rx then (s.rx t).acts else (s.tx t).acts
/-- Change them. -/
def State.setActs (s : State) (rx : Bool) (t : Nat) (l : List (Nat × Bool)) : State :=
  if rx then s.modRx t fun x => { x with acts := l } else s.modTx t fun x => { x with acts := l }
/-- The boundary of a request: the earliest, or the tick it names (R364; 16, R455). -/
def State.actAt (s : State) (p : Nat) (at_ : Option (Nat × Bool)) : Except Nat (Nat × Nat) :=
  match at_ with
  | none => .ok (s.actTick, 0)
  | some (t, late) => s.atTick p t late
/-- The value of the *_CMD_AT object of a unit from its application. -/
def State.noteCmd (s : State) (at_ : Option (Nat × Bool)) (p due : Nat) (r : Reg) (start : Bool) : State :=
  if at_.isSome then s.noteAt due p r [if start then 1 else 0] else s
/-- A request to start a stream (R364, R365). -/
def State.streamStart (s : State) (p : Nat) (rx : Bool) (t : Nat) (at_ : Option (Nat × Bool)) : State :=
  let r := streamRegs rx t
  if s.streamPlot rx t ≠ some p then s.reply 0x11
  else match s.actAt p at_ with
    | .error c => s.reply c
    | .ok (due, code) =>
      let st := s.reg r.1
      let bad := if st = 0 ∨ st = 3 then (if rx then s.rxCode p t else s.txCode p t) else none
      match bad with
      | some c => (s.setReg r.2 c).reply code
      | none =>
        let s1 := ((s.setActs rx t (s.streamActs rx t ++ [(due, true)])).setReg r.2 1).noteCmd at_ p due
          (if rx then Reg.rxCmdAt t else Reg.txCmdAt t) true
        ((if st = 0 then s1.setReg r.1 1 else s1).refreshMc).reply code
/-- A request to stop a stream: a start that has not taken effect is cancelled (R365). -/
def State.streamStop (s : State) (p : Nat) (rx : Bool) (t : Nat) (at_ : Option (Nat × Bool)) : State :=
  let r := streamRegs rx t
  if s.streamPlot rx t ≠ some p then s.reply 0x11
  else match s.actAt p at_ with
    | .error c => s.reply c
    | .ok (due, code) =>
      if s.reg r.1 = 1 ∧ at_.isNone then
        ((((s.setActs rx t []).setReg r.1 0).setReg r.2 0).refreshMc).reply code
      else (((s.setActs rx t (s.streamActs rx t ++ [(due, false)])).setReg r.2 1).noteCmd at_ p due
        (if rx then Reg.rxCmdAt t else Reg.txCmdAt t) false).reply code
/-- RX_START: the earliest boundary, or RX_CMD_AT's tick with LATE_OK (R364). -/
def execRxStart (p : Fin 16) (t : Fin 1024) (at_ : Option (Nat × Bool)) (s : State) : Out := .next (s.streamStart p true t at_)
/-- RX_STOP (R364). -/
def execRxStop (p : Fin 16) (t : Fin 1024) (at_ : Option (Nat × Bool)) (s : State) : Out := .next (s.streamStop p true t at_)
/-- TX_START (R364). -/
def execTxStart (p : Fin 16) (t : Fin 1024) (at_ : Option (Nat × Bool)) (s : State) : Out := .next (s.streamStart p false t at_)
/-- TX_STOP (R364). -/
def execTxStop (p : Fin 16) (t : Fin 1024) (at_ : Option (Nat × Bool)) (s : State) : Out := .next (s.streamStop p false t at_)
/-- A stream starts at this boundary (R364). -/
def State.streamGo (s : State) (rx : Bool) (t : Nat) : State :=
  let r := streamRegs rx t
  let s1 := s.setRegs [(r.1, 2), (r.2, 0)]
  if rx then s1.modRx t fun x => { x with startT := s.tick, stopT := none, rampUp := true, lastSeq := none, next := none }
  else s1.modTx t fun x => { x with startT := s.tick, stopT := none, seq := 0, buf := [], first := none, withheld := false }
/-- A stream stops at this boundary (R364). -/
def State.streamHalt (s : State) (rx : Bool) (t : Nat) : State :=
  let r := streamRegs rx t
  let s1 := s.setRegs [(r.1, 3), (r.2, 0)]
  if rx then s1.modRx t fun x => { x with stopT := some s.tick } else s1.modTx t fun x => { x with stopT := some s.tick }
/-- STREAM_CMD_APPLY: starts and stops due at this boundary; a zero window discards both (R364, R365; 20, R526, R527). -/
def execStreamCmdApply (rx : Bool) (t : Fin 1024) (s : State) : Out :=
  let r := streamRegs rx t
  let all := s.streamActs rx t
  let due := all.filter fun e => decide (e.1 ≤ s.tick)
  let rest := all.filter fun e => !decide (e.1 ≤ s.tick)
  let p := (s.streamPlot rx t).getD 16
  let cmd : Reg := if rx then Reg.rxCmd t else Reg.txCmd t
  let s0 := s.setActs rx t rest
  let st := s.reg r.1
  let back : Int := if st = 1 ∧ !(rest.any (·.2)) then 0 else st
  match stepActs (due.map (·.2)) with
  | none => .next s
  | some none => .next ((overL due (fun s e => s.discard p cmd e.1)
      ((s0.setReg r.1 back).setReg r.2 (if rest = [] then 0 else 1))).refreshMc)
  | some (some true) => if st = 1 then .next (s0.streamGo rx t) else if st = 3 then .next (s.setReg r.2 1) else .next (s0.setReg r.2 0)
  | some (some false) =>
    if st = 2 then .next (s0.streamHalt rx t)
    else if st = 1 then .next (((s0.setActs rx t []).setRegs [(r.1, 0), (r.2, 0)]).refreshMc)
    else .next (overL due (fun s e => s.discard p cmd e.1) (s0.setReg r.2 0))
/-- STREAM_STOP_COMPLETE: 1 tick after the stop (R364); a start that was held goes on (R365). -/
def execStreamStopComplete (rx : Bool) (t : Fin 1024) (s : State) : Out :=
  let r := streamRegs rx t
  let stop := if rx then (s.rx t).stopT else (s.tx t).stopT
  match stop with
  | some k =>
    if s.reg r.1 = 3 ∧ k + 1 ≤ s.tick then
      let s1 := if rx then s.modRx t fun x => { x with stopT := none, pkts := [], samples := [], feed := [], pairs := [] }
        else s.modTx t fun x => { x with stopT := none }
      .next ((s1.setReg r.1 (if (s.streamActs rx t).any (·.2) then 1 else 0)).refreshMc)
    else .next s
  | none => .next s
/-- A plot's scrub or reset stops a stream at this boundary (R365). -/
def State.streamCut (s : State) (rx : Bool) (t : Nat) : State :=
  let st := s.reg (streamRegs rx t).1
  let s1 := s.setActs rx t []
  if st = 2 then s1.streamHalt rx t
  else if st = 1 then ((s1.setReg (streamRegs rx t).1 0).setReg (streamRegs rx t).2 0).refreshMc
  else s1

/-! Transmit (R348, R349, R352, R360 to R362). -/

/-- CRC of channel status, byte 23 (IEC 60958-3: x^8 + x^4 + x^3 + x^2 + 1, initial ones, bit 0 of byte 0 first). -/
def csCrc (b : List Byte) : Nat :=
  (b.take 23).foldl (fun c x => (List.range 8).foldl (fun c i =>
    let f := (bit (x.toNat : Int) i) != (c % 2 == 1)
    if f then (c / 2) ^^^ 0xB8 else c / 2) c) 0xFF
/-- Channel status with its CRC. -/
def csBlock (b : List Byte) : List Byte :=
  let c := b ++ List.replicate (24 - b.length) 0
  c.take 23 ++ [BitVec.ofNat 8 (csCrc c)]
/-- Even parity over a word's bits. -/
def parity (x n : Nat) : Nat := ((List.range n).foldl (fun a i => a + x / 2 ^ i % 2) 0) % 2
/-- One sample on the wire (R348, R349). -/
def sendSample (fmt : Nat) (trunc : Bool) (cs : List Byte) (i ch : Nat) (x : Sample) : List Byte :=
  let bits : Nat := if fmt = 0 ∨ fmt = 3 then 16 else if fmt = 5 then 32 else 24
  let v := ((sat bits (shiftBy trunc x (32 - bits))) % 2 ^ bits).toNat
  if fmt = 2 ∨ fmt = 6 then
    let f := i % 192
    let c : Nat := if bit (leAt cs (f / 8) 1) (f % 8) then 1 else 0
    let pac : Nat := if ch % 2 = 1 then 1 else if f = 0 then 3 else 2
    let p := (parity v 24 + c) % 2
    BitVec.ofNat 8 (pac * 16 + p * 8 + c * 4) :: beBytes 3 v
  else beBytes (bits / 8) v
/-- Payload of a packet: samples by channel, interleaved (R348). -/
def State.txPayload (s : State) (t first : Nat) (chans : List (List Sample)) : List Byte :=
  let fmt := s.nat (Reg.txFormat t)
  let cs := csBlock (s.blob (Reg.txCs t))
  let trunc := bit (s.reg (Reg.txFlags t)) 0
  (List.range (s.txCount t)).flatMap fun i =>
    ((List.range (s.nat (Reg.txChannels t))).flatMap fun ch =>
      sendSample fmt trunc cs (first + i) ch ((chans.getD ch []).getD i 0))
/-- Timestamp of a packet (R352). -/
def State.txStamp (s : State) (t first : Nat) : Nat :=
  let off := s.nat (Reg.txTsOffset t)
  if fmtRtp (s.nat (Reg.txFormat t)) then (first + off) % 4294967296
  else (first * 1000000000 / max 1 (s.nat (Reg.txRate t)) + off) % 4294967296
/-- RTP or AVTP packet of a stream on a leg (RFC 3550; IEEE 1722-2016). -/
def State.txPacket (s : State) (t first seq : Nat) (leg : List Byte) (payload : List Byte) : List Byte :=
  let fmt := s.nat (Reg.txFormat t)
  let ts := s.txStamp t first
  let c := s.nat (Reg.txChannels t)
  if fmtRtp fmt then
    [0x80, BitVec.ofNat 8 (s.nat (Reg.txPt t))] ++ beBytes 2 seq ++ beBytes 4 ts ++ beBytes 4 (s.nat (Reg.txSsrc t)) ++ payload
  else
    let head (sub : Nat) : List Byte := [BitVec.ofNat 8 sub, 0x81, BitVec.ofNat 8 seq, 0] ++ (slice leg 0x18 8).reverse ++ beBytes 4 ts
    if fmt = 6 then
      head 0 ++ [0, 0, 0, 0] ++ beBytes 2 (payload.length + 8) ++ [0x5F, 0xA0, 0x3F, BitVec.ofNat 8 c, 0, BitVec.ofNat 8 first,
        0x90, BitVec.ofNat 8 (cipRate (s.nat (Reg.txRate t))), 0xFF, 0xFF] ++ payload
    else
      let kind : Nat := if fmt = 3 then 4 else if fmt = 4 then 3 else 2
      let depth : Nat := if fmt = 3 then 16 else if fmt = 4 then 24 else 32
      head 2 ++ [BitVec.ofNat 8 kind] ++ beBytes 2 (aafRate (s.nat (Reg.txRate t)) * 4096 + c) ++ [BitVec.ofNat 8 depth] ++
        beBytes 2 payload.length ++ [0, 0] ++ payload
/-- May the chip transmit on the network (08, Table 8.1); in SPLIT role B launches what is not barred (R247). -/
def State.mayTransmit (s : State) : Bool :=
  match s.nat Reg.pairState with
  | 2 => s.reg Reg.pairRole == 0
  | 4 => false
  | _ => true
/-- Does role B withhold every packet: the focused proof runs (08, R239). -/
def State.focusHolds (s : State) : Bool := s.pair.focus.isSome && s.reg Reg.pairRole == 1 && s.reg Reg.pairState == 3
/-- Does the chip send a leg: its seat bit matches in pair operation (R362). -/
def State.seatSends (s : State) (leg : List Byte) : Bool :=
  !s.paired || bit (leAt leg 1 1) (1 + s.nat Reg.pairSeat)
/-- A packet is complete, sent or not: the next takes the next sequence number (R352; 08, R238). -/
def State.numberNext (s : State) (t : Nat) : State :=
  s.modTx t fun x => { x with seq := (x.seq + 1) % (if fmtRtp (s.nat (Reg.txFormat t)) then 65536 else 256) }
/-- Launch instant of a stream's packet in ns, from its egress opening in 2^-32 ns (R360). -/
def State.launchAt (s : State) (t e : Nat) : Nat := (e + 2147483648) / 4294967296 + s.nat (Reg.txGateOffset t)
/-- Does a packet with a launch instant in ns leave: from the stream's start until its stop (R364). -/
def State.txInTime (s : State) (t l : Nat) : Bool :=
  let x := s.tx t
  decide (l * 4294967296 ≥ s.boundaryTime x.startT) && s.reg (Reg.txState t) == 2 ||
    (match x.stopT with | some k => decide (l * 4294967296 < s.boundaryTime k) | none => false)
/-- Queue the legs of a complete packet (R360, R361). -/
def State.sendPacket (s : State) (t first : Nat) (chans : List (List Sample)) (launch : Option Nat) (now block : Nat) : State :=
  let q := if launch.isSome then 7 else s.nat (Reg.txQueue t)
  let payload := s.txPayload t first chans
  let seq := (s.tx t).seq
  let p := s.streamPlot false t
  let legs := [(0, s.txLeg t 0), (1, s.txLeg t 1)].filter fun e => legOn e.2 && (launch.isNone || s.seatSends e.2)
  let s1 := (s.numberNext t).setReg (Reg.txPkts t) (bump64 (s.reg (Reg.txPkts t)))
  overL legs (fun s e => s.enqueue (legPort e.2)
    { q := q, body := s.txPacket t first seq e.2 payload, leg := e.2, len := s.txLen t, enq := now, stamp := now, launch := launch
      plot := p, stream := some (t, e.1), block := block }) s1
/-- Egress opens for transmit streams in H of one kind: 2 direct, 3 half, 4 full, in half-ticks after the ingest of their
block (R360; 01, R28, R33). `withheld` names plots whose packets stay back by a decision of the pair, which is counted (08,
R237, R239); others stay back because the chip does not transmit (Table 8.1) or the block is barred (R247). -/
def State.openStreams (s : State) (kind : Nat) (withheld : Nat → Bool) : State :=
  let b := s.tick - if kind = 4 then 2 else 1
  overL (s.txLive.filter fun t => s.reg (Reg.txDomain t) == 0) (fun s t =>
    match s.streamPlot false t with
    | none => s
    | some p =>
      let half := match s.last p with | some l => l.half | none => false
      if s.txDelay half (s.plot p).routes t ≠ kind then s
      else
        let m := ptimeTicks (s.nat (Reg.txPtime t))
        let hold := (b % m != 0 && (s.tx t).withheld) || withheld p
        let mute := (b % m != 0 && (s.tx t).muted) || !s.mayTransmit || s.barred b
        let s1 := s.modTx t fun x => { x with withheld := hold, muted := mute }
        if b % m ≠ m - 1 then s1
        else
          let e := if kind = 3 then (s.boundaryTime s.tick + s.boundaryTime (s.tick + 1)) / 2 else s.boundaryTime s.tick
          let l := s.launchAt t e
          let n := 6 * s.txMult t
          let chans := (s.txSinks t).map fun y =>
            ((List.range m).reverse.flatMap fun k => padTo n ((NTable.get [] s.txHist y).getD k []))
          if !s.txInTime t l then s1
          else if mute then s1.numberNext t
          else if hold then (s1.numberNext t).bump Reg.txWithheld
          else s1.sendPacket t ((b + 1 - m) * n) chans (some l) (e / 4294967296) b) s
/-- Whole packets of a stream in S or F go out, at most k of them (R361). -/
def State.sendWhole (s : State) (t : Nat) : Nat → State
  | 0 => s
  | k + 1 =>
    let n := s.txCount t
    let x := s.tx t
    let bufs := (List.range (s.nat (Reg.txChannels t))).map fun ch => NTable.get [] x.buf ch
    let first := x.first.getD 0
    if n = 0 ∨ !(bufs.all fun b => decide (b.length ≥ n)) then s
    else
      let s1 := s.modTx t fun x => { x with
        buf := bufs.zipIdx.foldl (fun tb (e : List Sample × Nat) => NTable.put [] tb e.2 (e.1.drop n)) x.buf
        first := some (first + n) }
      let s2 := if !s.paired ∨ s.reg Reg.pairAuth = 1 then s1.sendPacket t first (bufs.map (·.take n)) none s.timeNs s.tick else s1
      s2.sendWhole t k
/-- A transmit stream in S or F takes the samples of its grid that fall in the tick that closes; a packet goes out as soon as its
last sample is there (R352, R361). -/
def State.feedFree (s : State) (t : Nat) : State :=
  if s.reg (Reg.txState t) ≠ 2 ∨ s.reg (Reg.txDomain t) = 0 then s
  else
    let hz := max 1 (s.nat (Reg.txRate t))
    let upTo (k : Nat) : Nat := (s.boundaryTime k * hz + secondUnits - 1) / secondUnits
    let first := ((s.tx t).first).getD (upTo s.tick)
    let from_ := first + (NTable.get [] (s.tx t).buf 0).length
    let ats := (List.range (upTo (s.tick + 1) - from_)).map fun j => (from_ + j) * secondUnits / hz
    let s0 := s.modTx t fun x => { x with first := some first }
    let s1 := overL (s.txSinks t).zipIdx (fun s (e : SigId × Nat) =>
      let r := s.takeFar e.1 hz 0 ats.length ats
      r.1.modTx t fun x => { x with buf := NTable.put [] x.buf e.2 (NTable.get [] x.buf e.2 ++ r.2) }) s0
    s1.sendWhole t 4

end Sys2Proof.Machine
end

