-- ==== Sys2Proof/Machine/Sap.lean ====
section
/-!
DEFINITION. Serial audio ports (13_serial_audio_ports): frames, gains, starts and stops, slips, clock loss, AES3,
non-audio detection.
-/
namespace Sys2Proof.Machine

/-- A port. -/
def State.sap (s : State) (n : Nat) : SapSt := NTable.get {} s.saps n
/-- Change a port. -/
def State.modSap (s : State) (n : Nat) (f : SapSt → SapSt) : State := { s with saps := NTable.mod {} s.saps n f }
/-- Plot of a port. -/
def State.sapPlot (s : State) (n : Nat) : Option Nat := s.holder 26 noUnit n
/-- Is a port in AES3 mode. -/
def State.sapAes (s : State) (n : Nat) : Bool := s.reg (Reg.sapFormat n) == 3
/-- Is a port a slave (R370). -/
def State.sapSlave (s : State) (n : Nat) : Bool := s.reg (Reg.sapClock n) == 1
/-- Rate multiple of a port. -/
def State.sapMult (s : State) (n : Nat) : Nat := max 1 (s.streamMult (s.sapHz n) (s.nat (Reg.sapDomain n)))
/-- Samples per tick. -/
def State.sapN (s : State) (n : Nat) : Nat := 6 * s.sapMult n
/-- Is a port in the house domain: its blocks are tied to ticks. -/
def State.sapH (s : State) (n : Nat) : Bool := s.reg (Reg.sapDomain n) == 0
/-- SLOTS of a port. -/
def State.sapSlotsOf (s : State) (n : Nat) : Nat := s.nat (Reg.sapSlots n)

/-- Set a bit of SAP_EVENTS; a masked bit that becomes set notifies the plot and writes an event entry (R382). -/
def State.sapEvent (s : State) (n b : Nat) : State :=
  if bit (s.reg (Reg.sapEvents n)) b then s
  else
    let s1 := s.orReg (Reg.sapEvents n) (2 ^ b)
    match s.sapPlot n with
    | some p => if bit (s.reg (Reg.sapEventMask n)) b then s1.notifyPlot p 0x40 (Reg.sapEvents n) else s1
    | none => s1

/-! Gains (R377, R378). -/

/-- A position moved by i steps up (1), down (2) or not at all. -/
def gainPos (pos len dir i : Nat) : Nat := if dir = 1 then min len (pos + i) else if dir = 2 then pos - i else pos
/-- The port's gain for sample i of the tick, Q2.30. -/
def SapSt.gain (x : SapSt) (i : Nat) : Int := weight (gainPos x.gPos x.gLen x.gDir (i + 1)) x.gLen
/-- The mute gain for frame i of the tick. -/
def SapSt.muteGain (x : SapSt) (muted : Bool) (i : Nat) : Int :=
  weight (gainPos x.mPos x.mLen (if muted then 2 else 1) (i + 1)) x.mLen
/-- Both move on by n samples. -/
def SapSt.moveOn (x : SapSt) (muted : Bool) (n : Nat) : SapSt :=
  { x with gPos := gainPos x.gPos x.gLen x.gDir n, mPos := gainPos x.mPos x.mLen (if muted then 2 else 1) n }
/-- Samples of a full ramp: SAP_RAMP ticks; one sample where SAP_RAMP is 0. -/
def State.sapRampLen (s : State) (n : Nat) : Nat := max 1 (s.nat (Reg.sapRamp n) * s.sapN n)
/-- The ramps take the slope of SAP_RAMP, from where they stand. -/
def State.sapRampSet (s : State) (n : Nat) : State :=
  let l := s.sapRampLen n
  s.modSap n fun x => { x with gPos := x.gPos * l / x.gLen, gLen := l, mPos := x.mPos * l / x.mLen, mLen := l }

/-! States (Table 13.4: 0 OFF, 1 PREROLL, 2 RUNNING, 3 RAMPDOWN, 4 POSTROLL). -/

/-- The port is OFF; the stop that waited is done. -/
def State.sapOff (s : State) (n : Nat) : State :=
  let s1 := (s.setReg (Reg.sapState n) 0).modSap n fun x =>
    { x with gPos := 0, gDir := 0, wait := none, ready := false, lost := false, recount := 0, sdo := [], shift := [], frames := [], used := [] }
  if (s.sap n).wait = some false then s1.setReg (Reg.sapStatus n) 0 else s1
/-- POSTROLL begins (R376). -/
def State.sapPost (s : State) (n : Nat) : State :=
  (s.setReg (Reg.sapState n) 4).modSap n fun x => { x with left := s.nat (Reg.sapPostroll n), gPos := 0, gDir := 0, ready := false }
/-- RUNNING begins; the gain rises from where it stands. -/
def State.sapRun (s : State) (n : Nat) : State :=
  (s.setReg (Reg.sapState n) 2).modSap n fun x => { x with gDir := 1, ready := false }
/-- PREROLL begins: a master's first frame starts at this boundary (R375, R376). -/
def State.sapPre (s : State) (n : Nat) : State :=
  let l := s.sapRampLen n
  (s.setRegs [(Reg.sapState n, 1), (Reg.sapFrames n, 0)]).modSap n fun x =>
    { x with left := s.nat (Reg.sapPreroll n), gPos := 0, gLen := l, gDir := 0, mLen := l
             mPos := if s.reg (Reg.sapMute n) = 1 then 0 else l
             ready := false, lost := false, wrongRate := false, recount := 0, good := 8, rampBlock := none, zeroUntil := 0
             conceal := [], frames := [], shift := [], sdo := [], used := [], lock := 0, csBits := none
             lastFrame := s.timeNs, silenced := false, rounds := [], count := 0, roundFrames := 0, roundSum := 0 }

/-- The code that refuses a start for one port's configuration (R367, R368, R370; Table 13.6). -/
def State.sapFormCode (s : State) (n : Nat) : Option Nat :=
  let fmt := s.nat (Reg.sapFormat n)
  let slots := s.sapSlotsOf n
  let bits := s.nat (Reg.sapSlotBits n)
  let data := s.nat (Reg.sapDataBits n)
  let hz := s.nat (Reg.sapRate n)
  let dom := s.nat (Reg.sapDomain n)
  let slave := s.sapSlave n
  let dataOk : Bool := data == 16 || data == 20 || data == 24 || (data == 32 && fmt != 3)
  let formOk : Bool := if fmt = 3 then slots == 2 && dataOk
    else decide (fmt ≤ 2) && (if fmt = 0 then decide (1 ≤ slots) && decide (slots ≤ 32) else slots == 2) &&
      (bits == 16 || bits == 24 || bits == 32) && dataOk && decide (data ≤ bits) && decide (slots * bits * hz ≤ 49152000)
  let rateOk : Bool := if dom = 2 then
      (if slave then hz == 0 || (decide (32000 ≤ hz) && decide (hz ≤ 192000)) else hz == s.nat (Reg.fNominal (s.nat (Reg.sapNco n))))
    else decide (dom < 2) && s.streamMult hz dom != 0
  if !formOk then some 0x10 else if !rateOk then some 0x11 else none
/-- The code that refuses a start (R372, R375, Table 13.6). -/
def State.sapCode (s : State) (p n : Nat) : Option Nat :=
  let e := n / 2 * 2
  let fast (m : Nat) : Bool := decide (s.sapSlotsOf m * s.nat (Reg.sapSlotBits m) * s.nat (Reg.sapRate m) > 24576000)
  match s.sapFormCode n with
  | some c => some c
  | none =>
    if s.sapPlot n ≠ some p then some 0x11
    else if s.sapSplit n ∧ (s.sapPlot e ≠ s.sapPlot (e + 1) ∨ s.sapAes e ∨ s.sapAes (e + 1) ∨ fast e ∨ fast (e + 1)) then some 0x12
    else none
/-- A request (R375): at acceptance a start from OFF is checked. -/
def State.sapRequest (s : State) (p n : Nat) (start : Bool) (at_ : Option (Nat × Bool)) : State :=
  if s.sapPlot n ≠ some p then s.reply 0x11
  else match s.actAt p at_ with
    | .error c => s.reply c
    | .ok (due, code) =>
      match if start ∧ s.reg (Reg.sapState n) = 0 then s.sapCode p n else none with
      | some c => (s.setReg (Reg.sapStatus n) c).reply code
      | none => (((s.modSap n fun x => { x with acts := x.acts ++ [(due, start, at_.isSome)] }).setReg (Reg.sapStatus n) 1).noteCmd
          at_ p due (Reg.sapCmdAt n) start).reply code
/-- SAP_START (R375). -/
def execSapStart (p : Fin 16) (n : Fin 128) (at_ : Option (Nat × Bool)) (s : State) : Out := .next (s.sapRequest p n true at_)
/-- SAP_STOP (R375). -/
def execSapStop (p : Fin 16) (n : Fin 128) (at_ : Option (Nat × Bool)) (s : State) : Out := .next (s.sapRequest p n false at_)

/-- A start acts at its boundary by the state it finds (Table 13.5); one named through SAP_CMD_AT is checked again. -/
def State.sapGo (s : State) (n : Nat) (again : Bool) : State :=
  let st := s.reg (Reg.sapState n)
  let wait (s : State) : State := s.modSap n fun x => { x with wait := some true }
  if st = 0 then
    match if again then s.sapCode ((s.sapPlot n).getD 16) n else none with
    | some c => s.setReg (Reg.sapStatus n) c
    | none => wait (s.sapPre n)
  else if st = 3 then wait (s.sapRun n)
  else if st = 4 then wait ((s.modSap n fun x => { x with gPos := 0 }).sapRun n)
  else s.setReg (Reg.sapStatus n) 0
/-- A stop acts at its boundary; false where it has no effect. -/
def State.sapHalt (s : State) (n : Nat) : State × Bool :=
  let st := s.reg (Reg.sapState n)
  let wait (s : State) : State := s.modSap n fun x => { x with wait := some false }
  if st = 1 then (wait (s.sapPost n), true)
  else if st = 2 then (wait ((s.setReg (Reg.sapState n) 3).modSap n fun x => { x with gDir := 2 }), true)
  else (s.setReg (Reg.sapStatus n) 0, false)
/-- Register through which an action came. -/
def sapActReg (n : Nat) (viaAt : Bool) : Reg := if viaAt then Reg.sapCmdAt n else Reg.sapCmd n
/-- SAP_CMD_APPLY: the requests due at this boundary (R375; 20, R526, R527). -/
def execSapCmdApply (n : Fin 128) (s : State) : Out :=
  let all := (s.sap n).acts
  let due := all.filter fun e => decide (e.1 ≤ s.tick)
  let s0 := s.modSap n fun x => { x with acts := all.filter fun e => !decide (e.1 ≤ s.tick) }
  let p := (s.sapPlot n).getD 16
  let drop (s : State) : State := overL due (fun s e => s.discard p (sapActReg n e.2.2) e.1) s
  match stepActs (due.map fun e => e.2.1) with
  | none => .next s
  | some none => .next (drop (s0.setReg (Reg.sapStatus n) 0))
  | some (some true) => .next (s0.sapGo n (due.all fun e => e.2.2))
  | some (some false) => let r := s0.sapHalt n; if r.2 then .next r.1 else .next (drop r.1)

/-- SAP_MUTE: takes effect at the boundary of R375 (R378). -/
def execSapMute (p : Fin 16) (n : Fin 128) (mute : Bool) (s : State) : Out :=
  if s.sapPlot n ≠ some p.val then .next (s.reply 0x11)
  else .next ((s.dueWrite (Reg.sapMute n) (if mute then 1 else 0)).reply 0)
/-- SAP_EVENT_CLEAR (R382). -/
def execSapEventClear (p : Fin 16) (n : Fin 128) (m : Fin 65536) (s : State) : Out :=
  if s.sapPlot n ≠ some p.val then .next (s.reply 0x11)
  else .next ((s.setReg (Reg.sapEvents n) ((s.nat (Reg.sapEvents n) &&& (65535 - m.val) : Nat) : Int)).reply 0)

/-! Frames. -/

/-- Ports whose SDI, and whose SDO, the clock of a port governs (R372). -/
def State.sapInPorts (s : State) (n : Nat) : List Nat := if s.sapSplit n then (if n % 2 = 0 then [n, n + 1] else []) else [n]
/-- Ports whose SDO the clock of a port governs. -/
def State.sapOutPorts (s : State) (n : Nat) : List Nat := if s.sapSplit n then (if n % 2 = 1 then [n - 1, n] else []) else [n]
/-- Is the egress of a sink half a tick later than the boundary (01, R26 to R28). -/
def State.sinkHalf (s : State) (x : SigId) : Bool :=
  match s.sigOwner x with
  | some p => (match s.last p with | some l => l.half | none => false) &&
      !((s.plot p).routes.any fun r => decide (r.sink = x) && !r.none && r.direct)
  | none => false
/-- The sample that a slot of SDO loads at frame idx, to send it in the next frame (R28, R369). -/
def State.sapLoad (s : State) (q n idx slot : Nat) : Int :=
  let x := sigOf 1 (32 * q + slot)
  let k := s.sapN n
  (NTable.get [] s.out x).getD (if s.sinkHalf x then (idx + k - k / 2) % k else idx % k) 0
/-- One word on SDO: sample, gain and mute gain in one rounding (R369, R377); and whether it saturated. -/
def sapWord (bits : Nat) (trunc : Bool) (g m x : Int) : Int × Bool :=
  let v := shiftBy trunc (x * g * m) (92 - bits)
  (sat bits v, overflows bits v)
/-- An AES3 subframe from time slot 4 on: 24 bits of audio, V 0, U 0, C and P (R384). -/
def aesWord (bits : Nat) (w : Int) (c : Bool) : Int :=
  let a := (w * 2 ^ (24 - bits) % 16777216).toNat
  let k : Nat := if c then 1 else 0
  ((a + k * 67108864 + (parity a 24 + k) % 2 * 134217728 : Nat) : Int)
/-- The sample that a sink of a port in S or F takes at a frame start, to send it in the next frame: that of the grid instant two
frame periods on (R371; 02, R86). -/
def State.sapTake (s : State) (n time : Nat) (x : SigId) : State × Int :=
  let hz := max 1 (s.sapHz n)
  let k := s.sapN n
  let i := min (k - 1) ((time * 4294967296 - s.boundaryTime s.tick) * hz / secondUnits)
  let r := s.takeFar x hz i k [time * 4294967296 + 2 * secondUnits / hz]
  (r.1, r.2.headD 0)
/-- Send the frame of a start in ns: the words loaded, then the next are loaded. -/
def State.sapSend (s : State) (n idx time : Nat) : State :=
  let x := s.sap n
  let st := s.reg (Reg.sapState n)
  let slots := s.sapSlotsOf n
  let bits := s.nat (Reg.sapDataBits n)
  let flags := s.reg (Reg.sapFlags n)
  let i := if s.sapH n then idx % s.sapN n else 0
  let on : Bool := (st == 2 || st == 3) && !x.lost && x.recount == 0 && x.good == 8 && bit flags 6 && !x.silenced
  let words := (List.range (slots * (s.sapOutPorts n).length)).map fun k =>
    if on then sapWord bits (bit flags 4) (x.gain i) (x.muteGain (s.reg (Reg.sapMute n) == 1) i) (x.shift.getD k 0) else (0, false)
  let sats := words.countP (·.2)
  let new : Bool := idx % 192 == 0 && (match x.csNext with | some e => decide (e.1 ≤ s.tick) | none => false)
  let send := if new then (x.csNext.map (·.2)).getD [] else x.csSend
  let cs := if bit (leAt send 0 1 : Int) 0 then csBlock send else send
  let c := bit (leAt cs (idx % 192 / 8) 1 : Int) (idx % 8)
  let sdo := if s.sapAes n then words.map fun w => aesWord bits w.1 c else words.map (·.1)
  let sinks := (s.sapOutPorts n).flatMap fun q => (List.range slots).map fun k => (q, k)
  let (s0, load) := if s.sapH n then (s, sinks.map fun e => s.sapLoad e.1 n idx e.2)
    else sinks.foldl (fun (a : State × List Int) e =>
      let r := a.1.sapTake n time (sigOf 1 (32 * e.1 + e.2))
      (r.1, a.2 ++ [r.2])) (s, [])
  let s1 := s0.modSap n fun x => { x with sdo := sdo, shift := load, csSend := send, csNext := if new then none else x.csNext }
  (s1.bumpBy (Reg.sapSat n) sats).when (decide (sats > 0)) fun s => s.sapEvent n 4
/-- Channel status received (R384): a bit of the block under way; a Z preamble closes it. -/
def State.sapCs (s : State) (n idx : Nat) (a : AesFrame) : State :=
  let x := s.sap n
  if !a.z then s.modSap n fun x => { x with csBits := x.csBits.map (· ++ [a.c]) }
  else
    let s0 := s.modSap n fun x => { x with csBits := some [a.c] }
    match x.csBits with
    | some b =>
      if b.length ≠ 192 then s0
      else
        let bytes := (List.range 24).map fun i =>
          BitVec.ofNat 8 ((List.range 8).foldl (fun v j => v + if b.getD (8 * i + j) false then 2 ^ j else 0) 0)
        let s1 := if bit (leAt bytes 0 1 : Int) 1 then s0.modSap n fun x => { x with csFired := some idx } else s0
        if bit (leAt bytes 0 1 : Int) 0 ∧ csBlock bytes ≠ bytes then s1.bump (Reg.sapCsErr n)
        else
          let old := if s.blob (Reg.sapCsRx n) = [] then List.replicate 24 0 else s.blob (Reg.sapCsRx n)
          if bytes = old then s1 else (s1.setBlob (Reg.sapCsRx n) bytes).sapEvent n 7
    | none => s0
/-- The words of an AES3 frame: a bad subframe delivers the last good sample of its channel (R384). -/
def State.sapAesWords (s : State) (n : Nat) (w : List Int) (a : AesFrame) : State × List Int :=
  let last := (s.sap n).lastGood
  let pick (bad : Bool) (i : Nat) : Int := if bad then last.getD i 0 else w.getD i 0
  let out := [pick a.bad.1 0, pick a.bad.2 1]
  let errs := (if a.bad.1 then 1 else 0) + (if a.bad.2 then 1 else 0)
  (((s.modSap n fun x => { x with lastGood := out }).bumpBy (Reg.sapAesErr n) errs).when (decide (errs > 0)) (fun s => s.sapEvent n 5), out)
/-- Store the input words of a frame, left-justified, under the sample that it carries (R369, R371). A chip of a pair takes
its own pin only where LIN_MODE says so (08, R230). -/
def State.sapStore (s : State) (n sample : Nat) (w : List Int) : State :=
  let slots := s.sapSlotsOf n
  let scale : Int := 2 ^ (32 - s.nat (Reg.sapDataBits n))
  overL ((s.sapInPorts n).zipIdx) (fun s e =>
    if !s.ownPin e.1 then s
    else s.modSap e.1 fun x => { x with frames := NTable.put [] x.frames sample ((List.range slots).map fun k => w.getD (e.2 * slots + k) 0 * scale) }) s
/-- The class of a rate in mHz: within 1,000 ppm of one of the seven (R381). -/
def rateClass (mhz : Nat) : Nat :=
  (([32000, 44100, 48000, 88200, 96000, 176400, 192000] : List Nat).find? fun c =>
    decide (((mhz : Int) - (c * 1000 : Nat)).natAbs ≤ c)).getD 0
/-- The clock counts as lost (R380, R381). -/
def State.sapLose (s : State) (n : Nat) : State :=
  let s1 := ((s.modSap n fun x => { x with lost := true, recount := 0, lock := 0, left := if s.reg (Reg.sapState n) = 1 then s.nat (Reg.sapPreroll n) else x.left }).bump
    (Reg.sapClkLost n)).sapEvent n 1
  if s.reg (Reg.sapState n) = 4 then s1.sapOff n
  else if s.reg (Reg.sapState n) = 2 ∨ s.reg (Reg.sapState n) = 3 then s1.modSap n fun x => { x with conceal := s.tick :: x.conceal }
  else s1
/-- The clock is back: CLK_BACK, and a new pre-roll (R376, R380). -/
def State.sapBack (s : State) (n : Nat) : State :=
  let run : Bool := s.reg (Reg.sapState n) == 2 || s.reg (Reg.sapState n) == 3
  (s.modSap n fun x => { x with lost := false, recount := if run then s.nat (Reg.sapPreroll n) else 0 }).sapEvent n 2
/-- The input block that a sample of a port belongs to, the sample's place in it, and the samples of the block: in H by the grid of
blocks, in S and F the tick that holds its grid instant (01, R16; R374). -/
def State.sapBlockOf (s : State) (n sample : Nat) : Nat × Nat × Nat :=
  let k := s.sapN n
  if s.sapH n then (sample / k, sample % k, k)
  else
    let hz := max 1 (s.sapHz n)
    let first (b : Nat) : Nat := (s.boundaryTime b * hz + secondUnits - 1) / secondUnits
    let b := s.tickOf (sample * secondUnits / hz)
    (b, sample - first b, max 1 (first (b + 1) - first b))
/-- A frame start at a grid position (R373, R376, R380): its effect on the port's window, counts and state. -/
def State.sapStep (s : State) (n idx : Nat) (inWin : Bool) : State :=
  let b := (s.sapBlockOf n (idx + 1)).1
  let x := s.sap n
  let s1 := if !inWin then
      ((s.modSap n fun x => { x with good := 0, slipTick := true, conceal := if x.conceal.contains b then x.conceal else b :: x.conceal }).bump
        (Reg.sapSlip n)).sapEvent n 3
    else if x.good < 8 then s.modSap n fun x => { x with good := x.good + 1, rampBlock := if x.good = 7 then some (b + 1) else x.rampBlock }
    else s
  let st := s.reg (Reg.sapState n)
  let pre := s.nat (Reg.sapPreroll n)
  if st = 1 then s1.modSap n fun x => { x with left := if inWin then x.left - 1 else pre }
  else if st = 4 then s1.modSap n fun x => { x with left := x.left - 1 }
  else if x.recount > 0 then
    if !inWin then s1.modSap n fun x => { x with recount := pre }
    else s1.modSap n fun x => { x with
      recount := x.recount - 1
      rampBlock := if x.recount = 1 then some (b + 1) else x.rampBlock
      zeroUntil := if x.recount = 1 then b + 1 else x.zeroUntil }
  else s1
/-- Stamp of a frame start: SAP_TS_OFFSET, to the nearest ns, is subtracted (R374). -/
def State.sapStamp (s : State) (n t : Nat) : Nat := ((t : Int) - (s.reg (Reg.sapTsOffset n) + 500) / 1000).toNat
/-- Keep the block stamp (R374). -/
def State.sapKeepStamp (s : State) (n idx stamp : Nat) : State :=
  let b := s.sapBlockOf n (idx + 1)
  if s.reg (Reg.sapDomain n) = 2 then
    if NTable.get none (s.sap n).stamps s.tick = none then s.modSap n fun x => { x with stamps := NTable.put none x.stamps s.tick (some stamp) } else s
  else if b.2.1 = 0 then s.modSap n fun x => { x with stamps := NTable.put none x.stamps b.1 (some stamp) }
  else s
/-- The detectors of a frame of a port whose blocks are not tied to ticks; a port in H runs them at its boundary (R385). -/
def State.sapPairsNow (s : State) (n : Nat) (rows : List (Nat × List Int)) (q : Nat) : State :=
  let x := s.sap q
  let mask := s.nat (Reg.sapNonaudio n)
  let cs : Bool := match x.csFired with | some i => bit (mask : Int) 0 && s.sapAes n && rows.any (fun r => r.1 ≥ i) | none => false
  let s1 := overN ((s.sapSlotsOf n + 1) / 2) (fun s k =>
    let y := NTable.get {} (s.sap q).pairs k
    let r := rows.foldl (fun (e : PairNa × Bool) row =>
      let a := row.2.getD (2 * k) 0
      ({ e.1 with prev := a }, e.2 || (bit (mask : Int) 1 && burst e.1.prev a (row.2.getD (2 * k + 1) 0)))) (y, cs && k == 0)
    let was := bit (s.reg (Reg.sapNaState q)) k
    let s1 := s.modSap q fun x => { x with pairs := NTable.put {} x.pairs k (if r.2 then { r.1 with fired := some s.tick } else r.1) }
    if r.2 ∧ !was then ((s1.orReg (Reg.sapNaState q) (2 ^ k)).bump (Reg.sapNaEvents q)).sapEvent q 6 else s1) s
  if cs then s1.modSap q fun x => { x with csFired := none } else s1
/-- A frame's input of a port in S or F is delivered: scaled, muted and concealed as in H, with the grid instant one frame period
after its stamp, in S with that of its sample (R369, R371, R373, R374, R377, R385; 02, R82, R86). -/
def State.sapFree (s : State) (n q sample stamp : Nat) : State :=
  let hz := max 1 (s.sapHz n)
  let (b, i, k) := s.sapBlockOf n sample
  let row := NTable.get [] (s.sap q).frames sample
  let f := s.reg (Reg.sapDomain n) == 2
  let at_ := if f then stamp * 4294967296 + secondUnits / hz else sample * secondUnits / hz
  let s1 := (s.sapPairsNow n [(sample, row)] q).modSap q fun x => { x with frames := [] }
  let s2 := s1.when (f && n == q) fun s => s.modSap n fun x => { x with used := x.used ++ [stamp] }
  let x := s2.sap n
  let hid : Bool := x.conceal.contains b || x.lost || x.recount != 0 || decide (b < x.zeroUntil)
  let on : Bool := s2.reg (Reg.sapState n) != 0 && x.gDir != 0 && !hid && bit (s2.reg (Reg.sapFlags n)) 5 && !x.silenced
  let s3 := overN (s2.sapSlotsOf n) (fun s slot =>
    let na := NTable.get {} (s.sap q).pairs (slot / 2)
    let mute := bit (s.reg (Reg.sapNaState q)) (slot / 2) && bit (s.reg (Reg.sapNonaudio n)) 2
    let raw := sat 32 (roundShift (row.getD slot 0 * x.gain 0) 30)
    let up := x.rampBlock == some b || na.rampUp
    let v := if !on || mute then 0 else if up then applyWeight (weight (i + 1) k) raw else raw
    let id := sigOf 0 (32 * q + slot)
    if s.sigOwner id = none then s else s.carry id at_ v) s2
  s3.when (i + 1 == k) fun s => s.modSap q fun z => { z with
    pairs := z.pairs.map fun (e : Nat × PairNa) => (e.1, { e.2 with rampUp := false }) }
/-- SAP_FRAME: a frame start at a port (R369, R371, R373, R374, R376, R380, R383, R384); the samples of a port wired to
the partner come in LFWD cells, and those of a port that only this chip has go out in them (08, R230). -/
def execSapFrame (n : Fin 128) (f : SapFrame) (s : State) : Out :=
  let st := s.reg (Reg.sapState n)
  let aes := s.sapAes n
  let locked : Bool := !aes || (match f.aes with | some a => a.valid && decide ((s.sap n).lock ≥ 3) | none => false)
  let valid : Bool := !aes || (match f.aes with | some a => a.valid | none => false)
  let s0 := if aes then s.modSap n fun x => { x with lock := if valid then min 4 (x.lock + 1) else 0 } else s
  if st = 0 ∨ s.sapHz n = 0 ∧ s.reg (Reg.sapDomain n) ≠ 2 ∨ !valid then .next s0
  else
    let hz := max 1 (s.sapHz n)
    let idx := (2 * f.time * hz + 1000000000) / 2000000000
    let off : Int := (f.time * hz : Nat) - (idx * 1000000000 : Nat)
    let inWin : Bool := !s.sapSlave n || s.reg (Reg.sapDomain n) == 2 || decide (4 * off.natAbs ≤ 1000000000)
    let stamp := s.sapStamp n f.time
    let s1 := s0.modSap n fun x => { x with
      lastFrame := f.time, roundFrames := x.roundFrames + 1, roundSum := x.roundSum + off, count := x.count + 1, lastStamp := stamp }
    let s2 := (s1.setReg (Reg.sapFrames n) (bump64 (s.reg (Reg.sapFrames n)))).when ((s.sap n).lost && !(s.sap n).wrongRate) fun s => s.sapBack n
    let s3 := (s2.sapStep n idx inWin).sapKeepStamp n idx stamp
    let s4 := match f.aes with | some a => if aes then s3.sapCs n idx a else s3 | none => s3
    let (s5, words) := match f.aes with | some a => if aes then s4.sapAesWords n f.words a else (s4, f.words) | none => (s4, f.words)
    let s6 := s5.when locked fun s => s.sapStore n (idx + 1) words
    let s6 := overL ((s.sapInPorts n).zipIdx) (fun s e => s.forwardInput e.1
      (.sap (Fin.ofNat 128 e.1) { time := f.time, words := (words.drop (e.2 * s.sapSlotsOf n)).take (s.sapSlotsOf n), aes := none })) s6
    let s7 := s6.when (!s.sapH n) fun s => overL ((s.sapInPorts n).filter s.ownPin) (fun s q => s.sapFree n q (idx + 1) stamp) s
    let s8 := s7.sapSend n idx f.time
    .next (if s.sapH n then s8 else s8.modSap n fun x => x.moveOn (s.reg (Reg.sapMute n) == 1) 1)

/-- SAP_PREROLL_END: the pre-roll frames have ended; RUNNING at this boundary, or at the next (R376). -/
def execSapPrerollEnd (n : Fin 128) (s : State) : Out :=
  if s.reg (Reg.sapState n) ≠ 1 ∨ (s.sap n).left ≠ 0 then .next s
  else if s.cycle = 0 then
    let s1 := s.sapRun n
    .next (if (s.sap n).wait = some true then (s1.setReg (Reg.sapStatus n) 0).modSap n fun x => { x with wait := none } else s1)
  else .next (s.modSap n fun x => { x with ready := true })
/-- SAP_RAMPDOWN_END: the gain has reached 0; POSTROLL from this frame start (R377). -/
def execSapRampdownEnd (n : Fin 128) (s : State) : Out :=
  let x := s.sap n
  let done := if s.sapH n then s.cycle * s.sapN n / 192000 else 0
  if s.reg (Reg.sapState n) = 3 ∧ gainPos x.gPos x.gLen x.gDir done = 0 then .next (s.sapPost n) else .next s
/-- SAP_POSTROLL_END: the last post-roll frame has ended; OFF (R376). -/
def execSapPostrollEnd (n : Fin 128) (s : State) : Out :=
  if s.reg (Reg.sapState n) = 4 ∧ (s.sap n).left = 0 then .next (s.sapOff n) else .next s
/-- SAP_CLOCK_LOST at an instant in ns: no frame start for 4 periods of the latest class, or for 125 us (R381). -/
def execSapClockLost (n : Fin 128) (now : Nat) (s : State) : Out :=
  let x := s.sap n
  let c := s.nat (Reg.sapRateClass n)
  let due : Bool := if c = 0 then decide (x.lastFrame + 125000 ≤ now) else decide ((now - x.lastFrame) * c ≥ 4000000000)
  if s.reg (Reg.sapState n) = 0 ∨ !s.sapSlave n ∨ x.lost ∨ !due then .next s else .next (s.sapLose n)

/-! Boundaries. -/

/-- The input blocks of port q for the tick that closes (R369, R373, R377, R380, R385). -/
def State.sapBlocks (s : State) (q : Nat) : State :=
  let n := s.sapIn q
  let k := s.sapN n
  let x := s.sap n
  let y := s.sap q
  let st := s.reg (Reg.sapState n)
  let rows := (List.range k).map fun i => (s.tick * k + i, NTable.get [] y.frames (s.tick * k + i))
  let s0 := s.sapPairsNow n rows q
  let hid : Bool := x.conceal.contains s.tick || x.lost || x.recount != 0 || decide (s.tick < x.zeroUntil)
  let on : Bool := st != 0 && x.gDir != 0 && !hid && bit (s.reg (Reg.sapFlags n)) 5 && !x.silenced
  let up := x.rampBlock == some s.tick
  let s1 := overN 32 (fun s slot =>
    let na := NTable.get {} (s.sap q).pairs (slot / 2)
    let mute := bit (s.reg (Reg.sapNaState q)) (slot / 2) && bit (s.reg (Reg.sapNonaudio n)) 2
    let raw := rows.zipIdx.map fun e => sat 32 (roundShift (e.1.2.getD slot 0 * x.gain e.2) 30)
    let b := if on && !mute then (if up || na.rampUp then rampUp raw else raw) else List.replicate k 0
    let id := sigOf 0 (32 * q + slot)
    if s.sigOwner id = none ∨ slot ≥ s.sapSlotsOf n then s else { s with ingest := NTable.put [] s.ingest id b }) s0
  (s1.modSap q fun z => { z with
    frames := z.frames.filter fun (e : Nat × List Int) => decide (e.1 ≥ (s.tick + 1) * k)
    pairs := z.pairs.map fun (e : Nat × PairNa) => (e.1, { e.2 with rampUp := false }) }).when (hid && n == q && st != 0) fun s =>
      s.bump (Reg.sapConcealed n)
/-- The block stamp of a port for the tick that closes (R374, Table 13.3). -/
def State.sapStampOut (s : State) (n : Nat) : State :=
  let x := s.sap n
  let t := NTable.get none x.stamps s.tick
  let slip : Nat := if x.slipTick then 1 else 0
  let e := (match t with | some v => timeBytes v | none => List.replicate 10 0) ++
    leBytes 1 n ++ leBytes 1 (slip + if t.isNone then 2 else 0) ++ leBytes 4 (s.tick % 4294967296)
  let s1 := (s.setBlob (Reg.sapTsLast n) e).modSap n fun x => { x with
    slipTick := false, stamps := x.stamps.filter fun (q : Nat × Option Nat) => decide (q.1 > s.tick) }
  match s.sapPlot n with
  | some p => if s.reg (Reg.sapTsEn n) = 1 then s1.stageEntry p 2 e else s1
  | none => s1
/-- A round ends: rate, class and phase (R373, R381). -/
def State.sapRound (s : State) (n : Nat) : State :=
  let x := s.sap n
  let hist := ((x.count, x.lastStamp) :: x.rounds).take 9
  let rate (a b : Nat × Nat) : Nat := if a.2 > b.2 then ((a.1 - b.1) * 1000000000000 + (a.2 - b.2) / 2) / (a.2 - b.2) else 0
  let s0 := s.modSap n fun x => { x with rounds := hist, roundFrames := 0, roundSum := 0 }
  if x.roundFrames = 0 then s0
  else
    let s1 := s0.setReg (Reg.sapPhase n) (divRound x.roundSum (x.roundFrames * (max 1 (s.sapHz n)) : Nat))
    match hist, hist.getLast? with
    | a :: b :: _, some z =>
      let c := rateClass (rate a b)
      let s2 := (s1.setRegs [(Reg.sapRateMeas n, rate a z), (Reg.sapRateClass n, c)]).when (decide ((c : Int) ≠ s.reg (Reg.sapRateClass n))) fun s => s.sapEvent n 0
      if s.sapSlave n ∧ s.reg (Reg.sapDomain n) ≠ 2 then
        if c ≠ s.nat (Reg.sapRate n) then (s2.modSap n fun x => { x with wrongRate := true }).when (!x.lost) fun s => s.sapLose n
        else if x.wrongRate then (s2.modSap n fun x => { x with wrongRate := false }).sapBack n
        else s2
      else s2
    | _, _ => s1
/-- The ports as a tick closes: blocks, stamps, gains; a round's end every 8 ticks. -/
def State.sapClose (s : State) : State :=
  let live := (s.saps.map (·.1)).filter fun n => s.reg (Reg.sapState (s.sapIn n)) != 0
  let s1 := overL live (fun s n => if s.sapH (s.sapIn n) then s.sapBlocks n else s) s
  let run := (s.saps.map (·.1)).filter fun n => s.reg (Reg.sapState n) != 0
  overL run (fun s n =>
    let s2 := (s.sapStampOut n).when (s.tick % 8 == 7) fun s => s.sapRound n
    let s3 := if s.sapH n then s2.modSap n fun x => x.moveOn (s.reg (Reg.sapMute n) == 1) (s.sapN n) else s2
    let x := s3.sap n
    let hid : Bool := !s.sapH n && s.sapIn n == n && (x.conceal.contains s.tick || x.lost || x.recount != 0 || decide (s.tick < x.zeroUntil))
    let s4 := (s3.modSap n fun x => { x with conceal := x.conceal.filter fun t => decide (t > s.tick) }).when hid fun s =>
      s.bump (Reg.sapConcealed n)
    s4.when (s3.reg (Reg.sapState n) == 2 && x.gPos == x.gLen && x.wait == some true) fun s =>
        (s.setReg (Reg.sapStatus n) 0).modSap n fun x => { x with wait := none }) s1
/-- Is a register one of those that wait for the boundary of R375 (R378). -/
def isSapReg (r : Reg) : Bool := decide (0x3000 ≤ r.idx) && decide (r.idx < 0x3080)
/-- A due write of a port's object: a mute and its clearing in one step are a zero window (R378; 20, R526, R527). -/
def State.applySap (s : State) (all : List Due) (d : Due) : State :=
  let n := d.reg.idx - 0x3000
  let p := (s.sapPlot n).getD 16
  if d.reg.sub = 0x12 then
    match stepActs ((all.filter fun e => e.reg == d.reg).map fun e => e.value != 0) with
    | some none => s.discard p d.reg d.tick
    | _ => if d.value = 0 ∧ s.reg d.reg = 0 then s.discard p d.reg d.tick else s.setReg d.reg d.value
  else if d.reg.sub = 0x1E then s.setBlob d.reg (leBytes 24 d.value.toNat)
  else if d.reg.sub = 0x11 then (s.setReg d.reg d.value).sapRampSet n
  else s.setReg d.reg d.value
/-- The ports as a tick opens: pre-rolls that have ended, due writes (R376, R378). -/
def State.sapOpen (s : State) : State :=
  let mine (d : Due) : Bool := isSapReg d.reg && decide (d.tick ≤ s.tick)
  let all := s.due.filter mine
  let s1 := overL all (fun s d => s.applySap all d) { s with due := s.due.filter fun d => !mine d }
  overL (s1.saps.map (·.1)) (fun s n =>
    let x := s.sap n
    if s.reg (Reg.sapState n) = 1 ∧ x.ready then
      let s1 := s.sapRun n
      if x.wait = some true then (s1.setReg (Reg.sapStatus n) 0).modSap n fun x => { x with wait := none } else s1
    else s) s1

/-- A plot's reset or the port's scrub at this boundary: POSTROLL of a port that is not OFF (R379). -/
def State.sapCut (s : State) (n : Nat) : State :=
  let s1 := s.modSap n fun x => { x with acts := [], silenced := true, wait := none }
  if s.reg (Reg.sapState n) = 0 ∨ s.reg (Reg.sapState n) = 4 then s1 else s1.sapPost n
/-- NONAUDIO_HOLD_EXPIRE of a port's slot pair (R385). -/
def State.naExpireSap (s : State) (n k : Nat) : State :=
  match (NTable.get {} (s.sap n).pairs k).fired with
  | some f =>
    if bit (s.reg (Reg.sapNaState n)) k ∧ f + 8000 ≤ s.tick then
      (s.setReg (Reg.sapNaState n) (clearBit (s.reg (Reg.sapNaState n)) k)).modSap n fun x =>
        { x with pairs := NTable.mod {} x.pairs k fun y => { y with fired := none, rampUp := true } }
    else s
  | none => s
/-- NONAUDIO_HOLD_EXPIRE of pair k of a serial audio port or of a receive stream: no detector fired for 8,000 ticks
(12, R363; R385). -/
def execNonaudioHoldExpire (sap : Bool) (t : Fin 1024) (k : Fin 32) (s : State) : Out :=
  .next (if sap then s.naExpireSap t k else s.naExpireRx t k)

end Sys2Proof.Machine
end

