-- ==== Sys2Proof/Machine/PscLoop.lean ====
section
/-!
DEFINITION. Power-stage channels within a tick (14_power_stage_control): sense, gain chain, loop, modulator, limits,
pilot and impedance.
-/
namespace Sys2Proof.Machine

/-- A channel. -/
def State.psc (s : State) (n : Nat) : PscSt := NTable.get {} s.pscs n
/-- Change a channel. -/
def State.modPsc (s : State) (n : Nat) (f : PscSt → PscSt) : State := { s with pscs := NTable.mod {} s.pscs n f }
/-- Plot of a channel. -/
def State.pscPlot (s : State) (n : Nat) : Option Nat := s.holder 27 noUnit n
/-- Is an even channel the first of a bridge-tied pair (R392). -/
def State.pscBtl (s : State) (n : Nat) : Bool := n % 2 == 0 && bit (s.reg (Reg.pscFlags n)) 0
/-- The channel that governs a channel (R392). -/
def State.pscLead (s : State) (n : Nat) : Nat := if n % 2 = 1 ∧ s.pscBtl (n - 1) then n - 1 else n
/-- Channels that a lead governs. -/
def State.pscLegs (s : State) (n : Nat) : List Nat := if s.pscBtl n then [n, n + 1] else [n]

/-- Set a bit of PSC_EVENTS; a masked bit that becomes set notifies the plot and writes an event entry (R419). -/
def State.pscEvent (s : State) (n b : Nat) : State :=
  if bit (s.reg (Reg.pscEvents n)) b then s
  else
    let s1 := s.orReg (Reg.pscEvents n) (2 ^ b)
    match s.pscPlot n with
    | some p => if bit (s.reg (Reg.pscEventMask n)) b then s1.notifyPlot p 0x51 (Reg.pscEvents n) else s1
    | none => s1
/-- A protection trips: gates low at the next loop update; the boundary takes the channel to FAULT (R406, R411). -/
def State.pscTrip (s : State) (n code : Nat) : State :=
  s.modPsc n fun x => { x with hard := true, trip := match x.trip with | some c => some c | none => some code }

/-! Gains. -/

/-- A gain of num / den dB, exactly 1 at 0 dB. -/
def dbq (num : Int) (den : Nat) : Int := if num = 0 then q30 else dbGain num den
/-- Gs in loop period k of the tick (R399, R409, R410, R412). -/
def PscSt.gs (x : PscSt) (k : Nat) : Int :=
  weight (gainPos x.gsPos x.gsLen x.gsDir ((k + 1) * (if x.fast && x.gsDir == 2 then x.gsLen / 384 else 1))) x.gsLen
/-- Gs at the end of a tick. -/
def PscSt.gsTick (x : PscSt) : PscSt :=
  { x with gsPos := gainPos x.gsPos x.gsLen x.gsDir (384 * (if x.fast && x.gsDir == 2 then x.gsLen / 384 else 1)) }
/-- Gb: from its ramp, linear in dB (R415). -/
def PscSt.gb (x : PscSt) : Int :=
  if x.gbLen = 0 ∨ x.gbPos ≥ x.gbLen then dbq x.gbTo 100
  else dbq (x.gbFrom * (x.gbLen - x.gbPos : Nat) + x.gbTo * x.gbPos) (100 * x.gbLen)
/-- Gt. -/
def State.pscGt (s : State) (n : Nat) : Int := dbq (s.psc n).gt (100 * s.tps)
/-- A product of a Q1.31 word and a Q2.30 gain, rounded (R399). -/
def mulGain (x g : Int) : Int := roundShift (x * g) 30
/-- Loop periods in one second. -/
def State.loopRate (s : State) : Nat := 384 * s.tps
/-- Phase step of the pilot: 12 Hz or 22.5 kHz to the nearest (R407). -/
def State.pilotStep (s : State) (n : Nat) : Nat :=
  let f := if s.reg (Reg.pscPilot n) = 1 then 12 else 22500
  (2 * f * 4294967296 + s.loopRate) / (2 * s.loopRate)
/-- Phase of the pilot in loop period k of this tick: 0 at the first of every whole second (R407). -/
def State.pilotPhase (s : State) (n k : Nat) : Nat := (s.tick % s.tps * 384 + k) * s.pilotStep n % 4294967296
/-- The pilot before Gs (R407). -/
def State.pilot (s : State) (n k : Nat) : Int :=
  if s.reg (Reg.pscPilot n) = 0 then 0 else pilotSine (s.pilotPhase n k) (2 * dbq (s.reg (Reg.pscPilotLevel n)) 100) 256

/-! Sense (R394, R395). -/

/-- Taps of the third-order sinc decimator by 8. -/
def sincTaps : List Nat := [1, 3, 6, 10, 15, 21, 28, 36, 42, 46, 48, 48, 46, 42, 36, 28, 21, 15, 10, 6, 3, 1]
/-- The decimator over the latest 22 sense clocks: three bytes, oldest first, bit 0 the earliest of each. -/
def sinc (b : List Nat) : Int :=
  let bits := (b.flatMap fun x => (List.range 8).map fun i => x / 2 ^ i % 2).drop 2
  sat 32 ((2 * ((sincTaps.zip bits).foldl (fun a e => a + e.1 * e.2) 0 : Nat) - 512) * 4194304)
/-- Calibration: gain in Q2.30, offset in Q1.31 (R395). -/
def calibrate (x gain off : Int) : Int := sat 32 (roundShift (gain * x + off * q30) 30)
/-- PSC_SNS_CAL: VGAIN, VOFF, IGAIN, IOFF. -/
def State.snsCal (s : State) (n : Nat) : Int × Int × Int × Int :=
  let b := s.blob (Reg.pscSnsCal n)
  if b = [] then (q30, 0, q30, 0) else (leAtS b 0 4, leAtS b 4 4, leAtS b 8 4, leAtS b 12 4)
/-- A leg takes 8 sense clocks of its bitstreams. -/
def LegSt.sense (l : LegSt) (v i : Nat) : LegSt :=
  { l with vBits := (l.vBits ++ [v]).drop (l.vBits.length + 1 - 3), iBits := (l.iBits ++ [i]).drop (l.iBits.length + 1 - 3) }
/-- Bytes of a bitstream with zeros before its first. -/
def three (b : List Nat) : List Nat := List.replicate (3 - b.length) 0 ++ b

/-! The modulator (R389 to R391), in steps of the edge grid: 32,000 to a carrier period. -/

/-- Steps of a time in ps, to the nearest, ties later. -/
def State.gridSteps (s : State) (ps : Nat) : Nat :=
  if s.family = 0 then (2 * ps * 12288 + 1000000) / 2000000 else (2 * ps * 112896 + 10000000) / 20000000
/-- A gate falls: its pulse is sent unless it is shorter than the dead time. -/
def LegSt.fall (l : LegSt) (gate : Nat) (t : Int) (dead : Nat) : LegSt :=
  let r := if gate = 0 then l.riseA else l.riseB
  let e := match r with | some u => if t - u ≥ dead then [⟨u, gate, true⟩, ⟨t, gate, false⟩] else [] | none => []
  if gate = 0 then { l with riseA := none, edges := l.edges ++ e } else { l with riseB := none, edges := l.edges ++ e }
/-- Both gates low. -/
def LegSt.low (l : LegSt) (t : Int) (dead : Nat) : LegSt := (l.fall 0 t dead).fall 1 t dead
/-- The leg turns high or low: one gate falls, the other rises one dead time later. -/
def LegSt.turn (l : LegSt) (t : Int) (dead : Nat) : LegSt :=
  let up := !l.high
  let l1 := { l with high := up, crossed := true }
  if l.cut then l1
  else if up then { l1.fall 1 t dead with riseA := some (t + dead) } else { l1.fall 0 t dead with riseB := some (t + dead) }
/-- Exact place of the crossing in a half period, times 2^59: from the valley or from the peak. -/
def crossAt (rising : Bool) (d : Int) : Int := 8000 * (if rising then 2 ^ 59 + d else 2 ^ 59 - d)
/-- A loop period j of the carrier that starts at t0, with the duty d in 2^-59: when the leg turns, if it does. -/
def LegSt.when (l : LegSt) (j : Nat) (t0 : Int) (d : Int) : Option Int :=
  let rising := decide (j < 4)
  let x0 : Int := 4000 * (j % 4 : Nat)
  let c := crossAt rising d
  let want : Bool := if rising then decide (c > x0 * 2 ^ 59) else decide (x0 * 2 ^ 59 > c)
  if l.crossed then none
  else if want ≠ l.high then some t0
  else if (rising && l.high || !rising && !l.high) && decide (c < (x0 + 4000) * 2 ^ 59) then some (t0 - x0 + roundShift c 59)
  else none
/-- A new half period: a leg that was cut takes up its level again. -/
def LegSt.half (l : LegSt) (j : Nat) (t0 : Int) : LegSt :=
  if j % 4 ≠ 0 then l
  else
    let l1 := { l with crossed := false, cut := false }
    if l.cut then (if l.high then { l1 with riseA := some t0 } else { l1 with riseB := some t0 }) else l1
/-- The current limit: both gates low for the rest of the half period (R403). -/
def LegSt.limit (l : LegSt) (t : Int) (dead : Nat) : LegSt := { l.low t dead with cut := true }
/-- Edges move into the tick before as a tick opens; the latest tick's stay. -/
def LegSt.newTick (l : LegSt) : LegSt :=
  { l with
    riseA := l.riseA.map (· - 1536000), riseB := l.riseB.map (· - 1536000)
    edges := (l.edges.map fun e => { e with time := e.time - 1536000 }).filter fun e => decide (e.time ≥ -1536000) }

/-! The loop. -/

/-- What a loop period computes (R397): the states after it and the duty in units of 2^-59, before the limit. -/
def LoopSt2.run (l : LoopSt2) (c : List Int) (r vn i : Int) : LoopSt2 × Int :=
  let k (n : Nat) : Int := c.getD n 0
  let e := r - vn
  let s1 := sat 32 (roundShift (k 2 * e + k 3 * l.e1 + k 4 * l.e2 - (k 5 * l.s1 + k 6 * l.s2) * 8) 31)
  let w := sat 32 (roundShift (k 7 * s1 + k 8 * l.t1 + k 9 * l.t2 - k 10 * l.w1 - k 11 * l.w2) 28)
  ({ e1 := e, e2 := l.e1, s1 := s1, s2 := l.s1, t1 := s1, t2 := l.t1, w1 := w, w2 := l.w1 }, k 0 * r + w * 2147483648 - k 1 * i)
/-- Limit a duty (R390). -/
def clampDuty (d m : Int) : Int := if d > m then m else if d < -m then -m else d
/-- Moves a gain towards a target by at most a number of 0.01 dB per second over one loop period (R401). -/
def State.toward (s : State) (g target : Int) (att rel : Nat) : Int :=
  if target < g then max target (dbMove g (-att) (100 * s.loopRate))
  else if g < target then min target (dbMove g rel (100 * s.loopRate)) else g
/-- Cycles from a sample's egress position to the start of the loop period whose duty carries it: 13,500 of interpolation, 500 of
computation, and the hold of 1,000 to the centre of the loop period (R393, Table 14.1). -/
def feedDelay : Int := 13500 + 500 + 1000 - 250
/-- The interpolated feed for loop period k of the tick (R393). The samples within the interpolator's delay of its instant decide it
in a way that is a free value; a constant feed keeps its value within 0.01 dB, a silent one is silent. -/
def State.pscInput (s : State) (n k : Nat) : Int :=
  let q : Int := (s.tick * 192000 + 250 * s.nat (Reg.pscCarrierPhase n) + 500 * k : Nat) - feedDelay
  let all := (s.psc n).feed
  let win := all.filter fun e => decide ((e.1 - q).natAbs ≤ 13500)
  match win with
  | [] => 0
  | e :: _ =>
    let y := sat 32 (Config.pscInterp (win.map fun w => (w.1 - q, w.2)))
    let bound : Int := (e.2.natAbs : Int) * 11506 / 10000000
    if win.all (fun w => w.2 == e.2) && (e.2 == 0 || all.any fun w => decide (w.1 < q - 13500)) then
      sat 32 (max (e.2 - bound) (min (e.2 + bound) y)) else y
/-- The reference: feed, gains and pilot (R399 to R401). -/
def State.pscRef (s : State) (n k : Nat) : State × Int :=
  let x := s.psc n
  let live : Bool := s.reg (Reg.pscState n) == 3 || s.reg (Reg.pscState n) == 4
  let u := if live then s.pscInput n k else 0
  let gs := x.gs k
  let x3 := mulGain (mulGain (mulGain u gs) x.gb) (s.pscGt n)
  let mean := average x.meanSq (x3 * x3) (s.nat (Reg.pscRmsTau n)) s.loopRate
  let lim := dbq (s.reg (Reg.pscRmsLimit n)) 100 * 2
  let above := decide (mean > lim * lim)
  let gr := s.toward x.gr (if above then rmsGain lim mean else q30) (s.nat (Reg.pscRmsAtt n)) (s.nat (Reg.pscRmsRel n))
  let x4 := mulGain x3 gr
  let p := dbq (s.reg (Reg.pscPeakLimit n)) 100 * 2
  let peak := decide ((x4.natAbs : Int) * x.gp > p * q30)
  let gp := if peak then p * q30 / max 1 (x4.natAbs : Int)
    else if x.gp < q30 then min q30 (dbMove x.gp (s.nat (Reg.pscPeakRel n)) (100 * s.loopRate)) else x.gp
  let r := sat 32 (mulGain x4 gp + mulGain (s.pilot n k) gs)
  let g := mulGain (mulGain (mulGain x.gb (s.pscGt n)) gr) gp
  let s1 := s.modPsc n fun y => { y with meanSq := mean, gr := gr, gp := gp, gMin := min y.gMin g }
  let s2 := s1.when (decide (gr < q30)) fun s => s.pscEvent n 4
  (s2.when peak fun s => s.pscEvent n 5, r)
/-- The demodulator takes a loop period while the pilot is on and the channel is RUNNING (R408). -/
def State.pscDemod (s : State) (n k : Nat) (v i : Int) : State :=
  if s.reg (Reg.pscPilot n) = 0 ∨ s.reg (Reg.pscState n) ≠ 3 then s
  else
    let ph := s.pilotPhase n k
    let c := pilotSine ((ph + 1073741824) % 4294967296) q30 128
    let q := pilotSine ph q30 128
    s.modPsc n fun x => { x with zv := (x.zv.1 + v * c, x.zv.2 - v * q), zi := (x.zi.1 + i * c, x.zi.2 - i * q) }
/-- The limits of current, per leg (R403): what acts is counted; 16 carrier periods in a row trip. -/
def State.pscCurrent (s : State) (n : Nat) (is : List Int) : State × List Bool :=
  let lim := s.nat (Reg.pscOcLimit n) * 2147483648
  let hot := is.map fun i => decide (i.natAbs * s.nat (Reg.pscIsnsFs n) > lim)
  let x := s.psc n
  let fresh := (hot.zip [x.leg0.cut, x.leg1.cut]).countP fun e => e.1 && !e.2
  let any := hot.any id
  let s1 := ((s.bumpBy (Reg.pscOcCycles n) fresh).modPsc n fun y => { y with ocPeriod := y.ocPeriod || any, zClean := y.zClean && !any }).when any
    fun s => s.pscEvent n 2
  (s1, hot)
/-- The end of a carrier period: 16 in a row with the limit acting trip with OC. -/
def State.pscPeriodEnd (s : State) (n : Nat) : State :=
  let run := if (s.psc n).ocPeriod then (s.psc n).ocRun + 1 else 0
  let s1 := s.modPsc n fun x => { x with ocPeriod := false, ocRun := run }
  if run ≥ 16 then s1.pscTrip n 2 else s1
/-- One leg in a loop period. -/
def LegSt.run (l : LegSt) (j : Nat) (t0 d : Int) (dead : Nat) (hot : Bool) : LegSt :=
  let l1 := l.half j t0
  let l2 := if hot && !l1.cut then l1.limit t0 dead else l1
  match l2.when j t0 d with
  | some t => l2.turn t dead
  | none => l2
/-- The latest 480 loop periods of a leg's sense values. -/
def keepSense (l : List (Int × Int)) (v i : Int) : List (Int × Int) := (l ++ [(v, i)]).drop (l.length + 1 - 480)
/-- Class 10 samples of a leg over the tick that closes, n to the tick: voltages and currents from the loop periods that the filter
spans around each grid instant, 48 loop periods back (R396; Table 14.2). -/
def senseBlock (l : List (Int × Int)) (k n : Nat) : List Sample × List Sample :=
  let first := l.length - k
  let at_ (i : Nat) : List (Int × Int) := (l.drop (first + 384 * i / n - 96)).take 97
  ((List.range n).map fun i => sat 32 (Config.pscSense ((at_ i).map (·.1))),
   (List.range n).map fun i => sat 32 (Config.pscSense ((at_ i).map (·.2))))
/-- Rate multiple of a plot in the tick that follows. -/
def State.nextMult (s : State) (p : Nat) : Nat := match s.swapNext p with | some l => l.mult | none => s.plotMult p
/-- Put an ingest block of a signal that a plot owns. -/
def State.ingestOf (s : State) (x : SigId) (f : Nat → List Sample) : State :=
  match s.sigOwner x with
  | some p => { s with ingest := NTable.put [] s.ingest x (f (6 * s.nextMult p)) }
  | none => s
/-- As a tick closes: the sense signals of every channel that is not OFF, and its pilot as it was injected (R388, R396, R407). -/
def State.closePsc (s : State) : State :=
  overL (s.pscs.map (·.1)) (fun s n =>
    let m := s.pscLead n
    let x := s.psc m
    if s.reg (Reg.pscState m) = 0 then s
    else
      let l := if m = n then x.sense else x.sense1
      let s1 := (s.ingestOf (sigOf 10 n) fun c => (senseBlock l x.k c).1).ingestOf (sigOf 10 (64 + n)) fun c => (senseBlock l x.k c).2
      if m ≠ n ∨ s.reg (Reg.pscPilot n) = 0 then s1
      else s1.ingestOf (sigOf 14 (256 + n)) fun c => (List.range c).map fun i => mulGain (s.pilot n (384 * i / c)) (x.gs (384 * i / c))) s
/-- PSC_LOOP_UPDATE: one loop period of a channel with 8 sense clocks of its bitstreams (R389 to R404, R407). The bits of
the second leg count in a bridge-tied pair only. -/
def execPscLoopUpdate (n : Fin 64) (v i v1 i1 : Fin 256) (s : State) : Out :=
  let st := s.reg (Reg.pscState n)
  let x := s.psc n
  if s.pscLead n ≠ n.val ∨ st = 0 ∨ x.k ≥ 384 then .next s
  else
    let btl := s.pscBtl n
    let k := x.k
    let j := k % 8
    let t0 : Int := (s.nat (Reg.pscCarrierPhase n) * 2000 + 4000 * k : Nat)
    let dead := s.gridSteps (s.nat (Reg.pscDeadTime n))
    let a := x.leg0.sense v i
    let b := if btl then x.leg1.sense v1 i1 else x.leg1
    let (vg, vo, ig, io) := s.snsCal n
    let va := calibrate (sinc (three a.vBits)) vg vo
    let ia := calibrate (sinc (three a.iBits)) ig io
    let vb := if btl then calibrate (sinc (three b.vBits)) vg vo else 0
    let ib := if btl then calibrate (sinc (three b.iBits)) ig io else 0
    let s1 := s.modPsc n fun y => { y with leg0 := a, leg1 := b, k := k + 1, sense := keepSense y.sense va ia
                                           sense1 := if btl then keepSense y.sense1 vb ib else y.sense1 }
    if st = 1 ∨ st = 5 ∨ st = 6 then .next s1
    else if x.hard then
      .next (s1.modPsc n fun y => { y with leg0 := y.leg0.low t0 dead, leg1 := y.leg1.low t0 dead })
    else
      let vn := sat 32 (roundShift ((va - vb) * x.ratio) 28)
      let (s2, r) := s1.pscRef n k
      let ref := if s.reg (Reg.pscLoopMode n) = 0 then (x.loop, x.coefs.getD 0 0 * r) else x.loop.run x.coefs r vn ia
      let m := s.reg (Reg.pscDutyMax n) * 268435456
      let d0 := if st = 2 ∨ x.cstop then 0 else ref.2
      let d := clampDuty d0 m
      let acts := d != d0
      let loop := if acts then { ref.1 with t1 := x.loop.t1, t2 := x.loop.t2, w1 := x.loop.w1, w2 := x.loop.w2 } else ref.1
      let s3 := ((s2.modPsc n fun y => { y with d := d, loop := loop, zClean := y.zClean && !acts }).bumpBy (Reg.pscClamp n)
        (if acts then 1 else 0)).when acts fun s => s.pscEvent n 7
      let (s4, hot) := s3.pscCurrent n (if btl then [ia, ib] else [ia])
      let y := s4.psc n
      let l0 := y.leg0.run j t0 d dead (hot.getD 0 false)
      let d1 := if bit (s.reg (Reg.pscFlags n)) 1 then -d else d
      let l1 := if !btl then y.leg1
        else if bit (s.reg (Reg.pscFlags n)) 1 then y.leg1.run j t0 d1 dead (hot.getD 1 false)
        else
          let h := y.leg1.half j t0
          let h1 := if hot.getD 1 false && !h.cut then h.limit t0 dead else h
          match (y.leg0.half j t0).when j t0 d with
          | some t => (if h1.high == l0.high then h1.turn t dead else h1)
          | none => h1
      let s5 := (s4.modPsc n fun z => { z with leg0 := l0, leg1 := l1 }).pscDemod n k (va - vb) ia
      let dc := average x.dcMean vn 200 s.loopRate
      let s6 := if st = 3 then s5.modPsc n fun z => { z with dcMean := dc } else s5
      let s7 := s6.when (st == 3 && decide (dc.natAbs * 10000 > s.nat (Reg.pscDcLimit n) * 2147483648)) fun s => s.pscTrip n 1
      .next (if j = 7 then s7.pscPeriodEnd n else s7)
/-- PSC_SENSE_LOSS: no transition for 64 sense clocks (R405). -/
def execPscSenseLoss (n : Fin 64) (s : State) : Out :=
  let m := s.pscLead n
  if 1 ≤ s.reg (Reg.pscState m) ∧ s.reg (Reg.pscState m) ≤ 4 then .next (s.pscTrip m 5) else .next s
/-- PSC_Z_WINDOW_END: a demodulation window ends on its tick (R408). -/
def execPscZWindowEnd (n : Fin 64) (s : State) : Out :=
  let w := if s.reg (Reg.pscPilot n) = 1 then s.tps else s.tps / 10
  let x := s.psc n
  if s.reg (Reg.pscPilot n) = 0 ∨ s.reg (Reg.pscState n) ≠ 3 ∨ s.tick % w ≠ 0 then .next s
  else
    let vf := s.nat (Reg.pscVsnsFs n)
    let i2 := (x.zi.1 * x.zi.1 + x.zi.2 * x.zi.2).toNat * (s.nat (Reg.pscIsnsFs n)) ^ 2
    let v2 := (x.zv.1 * x.zv.1 + x.zv.2 * x.zv.2).toNat * (vf * 1000) ^ 2
    let mag : Int := if i2 = 0 then Config.openLoad s.free % 4294967296 else min 4294967295 (isqrt (v2 / i2) : Int)
    let s1 := (s.setRegs [(Reg.pscZMag n, mag), (Reg.pscZPhase n, ratioAngle x.zv x.zi), (Reg.pscZValid n, if x.zClean then 1 else 0)]).modPsc n
      fun y => { y with zv := (0, 0), zi := (0, 0), zClean := true }
    let s2 := if i2 = 0 then { s1 with free := s1.free + 1 } else s1
    let bad : Bool := x.zClean && (decide (mag < s.reg (Reg.pscZMin n)) || decide (mag > s.reg (Reg.pscZMax n)))
    let s3 := s2.when bad fun s => s.pscEvent n 6
    .next (s3.when (bad && bit (s.reg (Reg.pscFlags n)) 3) fun s => s.pscTrip n 4)

end Sys2Proof.Machine
end

