-- ==== Sys2Proof/Machine/Psc.lean ====
section
/-!
DEFINITION. Power-stage channels between ticks (14_power_stage_control): requests, start and stop sequences, trips and
restarts, dormancy, thermal and brace gains, coefficient sets.
-/
namespace Sys2Proof.Machine

/-! States (Table 14.4: 0 OFF, 1 PRECHARGE, 2 SETTLE, 3 RUNNING, 4 STOPPING, 5 DORMANT, 6 FAULT). -/

/-- A channel and the leg it governs enter a state (R392). -/
def State.pscSet (s : State) (n : Nat) (st : Int) : State :=
  (overL (s.pscLegs n) (fun s m => s.setReg (Reg.pscState m) st) s).modPsc n fun x => { x with zClean := false }
/-- A detector is SILENT; 0xFFFF names none (R412). -/
def State.detSilent (s : State) (d : Nat) (none_ : Bool) : Bool := if d = 0xFFFF then none_ else s.reg (Reg.silState d) == 1
/-- Both detectors are SILENT, with DORMANCY set: the silence that R412 asks for. -/
def State.pscQuiet (s : State) (n : Nat) : Bool :=
  bit (s.reg (Reg.pscFlags n)) 2 && s.detSilent (s.nat (Reg.pscSleepDet n)) false && s.detSilent (s.nat (Reg.pscWakeDet n)) true
/-- Steps of a full start ramp: PSC_RAMP ticks of loop periods. -/
def State.pscRampLen (s : State) (n : Nat) : Nat := 384 * max 1 (s.nat (Reg.pscRamp n))
/-- PRECHARGE begins (R409 step 1); a start under brace stands at the brace target (18, R502). -/
def State.pscBegin (s : State) (n : Nat) (wake : Bool) : State :=
  let x := s.psc n
  let gb := if x.braced then s.reg (Reg.pscBraceGain n) else 0
  let vfs := max 1 (s.nat (Reg.pscVfs n))
  let ratio := sat 32 ((2 * (s.nat (Reg.pscVsnsFs n) * 268435456 : Nat) + (vfs : Int)) / (2 * (vfs : Int)))
  (overL (s.pscLegs n) (fun s m => s.setReg (Reg.pscFault m) 0) (s.pscSet n 1)).modPsc n fun x => { x with
    startB := s.tick, wake := wake, gsPos := 0, gsLen := s.pscRampLen n, gsDir := 0, fast := false, toDorm := false
    cstop := false, again := none, trip := none, hard := false, latched := false, noRestart := false, clear := false
    gbFrom := gb, gbTo := gb, gbPos := 0, gbLen := 0, braceSleep := false
    gr := q30, gp := q30, meanSq := 0, dcMean := 0, ratio := ratio, loop := {}, d := 0, ocPeriod := false, ocRun := 0
    leg0 := { x.leg0 with high := false, crossed := false, cut := false, riseA := none, riseB := some 0 }
    leg1 := { x.leg1 with high := false, crossed := false, cut := false, riseA := none, riseB := if s.pscBtl n then some 0 else none } }
/-- RUNNING; Gs rises from where it stands. -/
def State.pscRun (s : State) (n : Nat) : State :=
  (s.pscSet n 3).modPsc n fun x => { x with gsDir := 1, fast := false, toDorm := false }
/-- STOPPING: Gs falls, over one tick where the channel goes to sleep (R410, R412). -/
def State.pscStop (s : State) (n : Nat) (dorm : Bool) : State :=
  (s.pscSet n 4).modPsc n fun x => { x with gsDir := 2, fast := dorm, toDorm := dorm }
/-- The carrier stop begins (R410). -/
def State.pscStopCarrier (s : State) (n : Nat) : State :=
  (s.pscSet n 4).modPsc n fun x => { x with cstop := true, gsPos := 0, gsDir := 0 }
/-- The gates go low at a time of the tick and the channel rests in a state. -/
def State.pscRest (s : State) (n : Nat) (st : Int) (t : Int) : State :=
  let dead := s.gridSteps (s.nat (Reg.pscDeadTime n))
  (s.pscSet n st).modPsc n fun x => { x with
    cstop := false, gsPos := 0, gsDir := 0, fast := false, toDorm := false
    leg0 := x.leg0.low t dead, leg1 := x.leg1.low t dead }
/-- PSC_CARRIER_STOP: the end of the first carrier period after Gs reached 0: OFF or DORMANT (R410, R412). -/
def execPscCarrierStop (n : Fin 64) (s : State) : Out :=
  let x := s.psc n
  if !x.cstop then .next s
  else
    let s1 := s.pscRest n (if x.toDorm then 5 else 0) ((s.nat (Reg.pscCarrierPhase n) * 2000 + 32000 : Nat) : Int)
    .next (if x.toDorm then s1.pscEvent n 0 else s1)
/-- A trip is applied (R406): FAULT, its code, its count, TRIP, the log, the plot's sessions. -/
def State.pscFaultIn (s : State) (n code : Nat) : State :=
  let p := (s.pscPlot n).getD 16
  let keep := (s.psc n).ocTrips.filter fun t => decide (t + 60 * s.tps > s.tick)
  let ocs := if code = 2 then keep ++ [s.tick] else keep
  let latch : Bool := code == 1 || code == 4 || code == 5 || (code == 2 && decide (ocs.length ≥ 5))
  let s1 := (overL (s.pscLegs n) (fun s m => (s.setReg (Reg.pscFault m) code).bump (Reg.pscTrips m)) (s.pscRest n 6 0)).modPsc n fun x => { x with
    trip := none, hard := false, latched := latch, noRestart := false, again := none, clear := false, ocTrips := ocs
    restartAt := s.tick + (s.nat (Reg.pscOcRestart n) * s.tps + 999) / 1000 }
  let s2 := (s1.pscEvent n 1).logEvent 0x0801 2 p n code
  if p < 16 then s2.notifyPlot p 0x50 (Reg.pscFault n) else s2

/-! Requests (R409, Table 14.5, Table 14.7). -/

/-- The code that refuses a start. -/
def State.pscCode (s : State) (p n : Nat) : Option Nat :=
  let f := s.reg (Reg.pscFlags n)
  let det (d : Nat) : Bool := d / 512 == p
  let sd := s.nat (Reg.pscSleepDet n)
  let wd := s.nat (Reg.pscWakeDet n)
  if (bit f 0 && n % 2 == 1) || (bit f 1 && !bit f 0) then some 0x10
  else if s.pscPlot n ≠ some p ∨ (bit f 2 ∧ (!det sd ∨ (wd ≠ 0xFFFF ∧ !det wd))) then some 0x11
  else if s.reg (Reg.pscState n) = 6 ∧ (s.psc n).latched then some 0x15
  else none
/-- A request; what is written to the second channel of a bridge-tied pair is ignored (R392). -/
def State.pscRequest (s : State) (p n : Nat) (start : Bool) (at_ : Option (Nat × Bool)) : State :=
  if s.pscPlot n ≠ some p then s.reply 0x11
  else if s.pscLead n ≠ n then s.reply 0
  else match s.actAt p at_ with
    | .error c => s.reply c
    | .ok (due, code) =>
      match if start then s.pscCode p n else none with
      | some c => (s.setReg (Reg.pscStatus n) c).reply code
      | none => (((s.modPsc n fun x => { x with acts := x.acts ++ [(due, start, at_.isSome)] }).setReg (Reg.pscStatus n) 1).noteCmd
          at_ p due (Reg.pscCmdAt n) start).reply code
/-- PSC_START (R409). -/
def execPscStart (p : Fin 16) (n : Fin 64) (at_ : Option (Nat × Bool)) (s : State) : Out := .next (s.pscRequest p n true at_)
/-- PSC_STOP (R409). -/
def execPscStop (p : Fin 16) (n : Fin 64) (at_ : Option (Nat × Bool)) (s : State) : Out := .next (s.pscRequest p n false at_)
/-- PSC_FAULT_CLEAR: the channel goes to OFF at the next boundary (R406). -/
def execPscFaultClear (p : Fin 16) (n : Fin 64) (s : State) : Out :=
  if s.pscPlot n ≠ some p.val then .next (s.reply 0x11)
  else if s.reg (Reg.pscState n) = 6 then .next ((s.modPsc n fun x => { x with clear := true }).reply 0)
  else .next (s.reply 0)
/-- PSC_EVENT_CLEAR (R419). -/
def execPscEventClear (p : Fin 16) (n : Fin 64) (m : Fin 65536) (s : State) : Out :=
  if s.pscPlot n ≠ some p.val then .next (s.reply 0x11)
  else .next ((s.setReg (Reg.pscEvents n) ((s.nat (Reg.pscEvents n) &&& (65535 - m.val) : Nat) : Int)).reply 0)
/-- PSC_LOOP_COEF: 12 words for the inactive set; BUSY while a swap is pending (R398, R418). -/
def execPscLoopCoef (p : Fin 16) (n : Fin 64) (words : List Int) (s : State) : Out :=
  if s.pscPlot n ≠ some p.val then .next (s.reply 0x11)
  else if words.length ≠ 12 ∨ !(words.all fun w => decide (-2147483648 ≤ w) && decide (w < 2147483648)) then .next (s.reply 0x12)
  else if (s.psc n).swapAt.isSome then .next ((s.setReg (Reg.pscStatus n) 0x14).reply 0)
  else .next (((s.setBlob (Reg.pscLoopCoef n) (words.flatMap (leBytesI 4))).modPsc n fun x => { x with coefNext := x.coefNext ++ [(s.actTick, words)] }).reply 0)
/-- PSC_LOOP_SWAP_AT: 0 names the earliest tick (R398). -/
def execPscLoopSwapAt (p : Fin 16) (n : Fin 64) (t : Nat) (s : State) : Out :=
  if s.pscPlot n ≠ some p.val then .next (s.reply 0x11)
  else if (s.psc n).swapAt.isSome then .next ((s.setReg (Reg.pscStatus n) 0x14).reply 0)
  else if t ≠ 0 ∧ t < s.actTick then .next (s.reply 0x13)
  else .next ((s.modPsc n fun x => { x with swapAt := some (if t = 0 then s.actTick else t) }).reply 0)
/-- LOOP_SWAP_APPLY: the inactive set becomes active; the states carry across (R398). -/
def execLoopSwapApply (n : Fin 64) (s : State) : Out :=
  match (s.psc n).swapAt with
  | some t =>
    if t ≤ s.tick then
      .next ((s.modPsc n fun x => { x with coefs := x.idle, idle := x.coefs, swapAt := none }).setReg (Reg.pscLoopActive n)
        (1 - s.reg (Reg.pscLoopActive n)))
    else .next s
  | none => .next s
/-- PSC_AUTO_RESTART: PSC_OC_RESTART has passed after an OC trip (R406, Table 14.3). -/
def execPscAutoRestart (n : Fin 64) (s : State) : Out :=
  let x := s.psc n
  if s.reg (Reg.pscState n) = 6 ∧ s.reg (Reg.pscFault n) = 2 ∧ !x.latched ∧ !x.noRestart ∧ x.restartAt ≤ s.tick ∧ s.cycle = 0 then
    .next (s.pscBegin n false)
  else .next s

/-! The boundary (R411). -/

/-- A move of Gb over PSC_RAMP ticks, from where it stands (R415). -/
def State.pscMoveGb (s : State) (n : Nat) (target : Int) : State :=
  s.modPsc n fun x =>
    let now := if x.gbLen = 0 ∨ x.gbPos ≥ x.gbLen then x.gbTo else (x.gbFrom * (x.gbLen - x.gbPos : Nat) + x.gbTo * x.gbPos) / x.gbLen
    if x.gbTo = target then x else { x with gbFrom := now, gbTo := target, gbPos := 0, gbLen := max 1 (s.nat (Reg.pscRamp n)) }
/-- Brace reaches the channels (R415): again while it is applied, nothing changes. -/
def State.pscBrace (s : State) : State :=
  overN 64 (fun s n => if (s.psc n).braced then s
    else
      let s1 := s.modPsc n fun x => { x with braced := true }
      if s.reg (Reg.pscState n) = 0 then s1 else s1.pscMoveGb n (s.reg (Reg.pscBraceGain n))) s
/-- Unbrace reaches the channels: Gb goes back to 0 dB (R415). -/
def State.pscUnbrace (s : State) : State :=
  overN 64 (fun s n => if !(s.psc n).braced then s
    else
      let s1 := s.modPsc n fun x => { x with braced := false }
      if s.reg (Reg.pscState n) = 0 then s1 else s1.pscMoveGb n 0) s
/-- Every channel that is not OFF has Gb back at 0 dB. -/
def State.pscGbHome (s : State) : Bool :=
  s.pscs.all fun (e : Nat × PscSt) => s.reg (Reg.pscState e.1) == 0 || e.2.braced || (e.2.gbTo == 0 && decide (e.2.gbPos ≥ e.2.gbLen))
/-- A register of the channels that waits for a boundary (R418; 17, Table 17.3). -/
def isPscReg (r : Reg) : Bool := decide (0x3100 ≤ r.idx) && decide (r.idx < 0x3140)
/-- A due write takes effect. -/
def State.applyPsc (s : State) (d : Due) : State :=
  let n := d.reg.idx - 0x3100
  let s1 := s.setReg d.reg d.value
  if d.reg.sub = 0x33 then s.setBlob d.reg (leBytes 8 d.value.toNat)
  else if d.reg.sub = 0x11 then
    let l := s1.pscRampLen n
    s1.modPsc n fun x => { x with gsPos := x.gsPos * l / x.gsLen, gsLen := l }
  else if d.reg.sub = 0x20 ∧ (s.psc n).braced ∧ s.reg (Reg.pscState n) ≠ 0 then s1.pscMoveGb n d.value
  else s1
/-- A temperature reading of a group: T = SCALE x density + OFFSET in 0.01 degrees, with the density of ones in 2^-31
(R395); none: no transition in the tick (R402). -/
def State.pscReading (s : State) (g : Nat) (q : Option Nat) : State :=
  let b := s.blob (Reg.pscTsCal (4 * g))
  let scale : Int := if b = [] then 30000 else leAtS b 0 4
  let off : Int := if b = [] then -5000 else leAtS b 4 4
  overN 4 (fun s i =>
    let n := 4 * g + i
    match q with
    | some v => (s.setReg (Reg.pscTemp n) (roundShift (scale * v) 31 + off)).modPsc n fun x => { x with sensor := false }
    | none => (s.modPsc n fun x => { x with sensor := true }).when (s.reg (Reg.pscState n) != 0) fun s => s.pscEvent n 8) s
/-- Thermal gain of a tick (R402), in dB / (100 * ticks per second). -/
def State.pscThermal (s : State) (n : Nat) : State :=
  let x := s.psc n
  let t := s.reg (Reg.pscTemp n)
  let hot := t - 100 * s.reg (Reg.pscThermKnee n)
  let aim : Int := if x.sensor then -1200 * s.tps else -(min 1200 (max 0 hot)) * s.tps
  let gt := if aim < x.gt then max aim (x.gt - 100000) else min aim (x.gt + 100)
  let s1 := (s.modPsc n fun x => { x with gt := gt }).when (decide (gt < 0)) fun s => s.pscEvent n 3
  if !x.sensor ∧ t ≥ 100 * s.reg (Reg.pscThermTrip n) ∧ !(s.reg (Reg.pscState n) = 6 ∧ s.reg (Reg.pscFault n) = 3) then s1.pscTrip n 3 else s1
/-- Step 2 of R411: transitions due. -/
def State.pscTransit (s : State) (n : Nat) : State :=
  let x := s.psc n
  let st := s.reg (Reg.pscState n)
  if st = 6 ∧ x.clear then
    (overL (s.pscLegs n) (fun s m => s.setReg (Reg.pscFault m) 0) (s.pscSet n 0)).modPsc n fun x => { x with clear := false, latched := false, noRestart := false }
  else if (st = 0 ∨ st = 5) ∧ x.again.isSome then s.pscBegin n (x.again == some true)
  else if st = 1 ∧ s.tick ≥ x.startB + 1 then s.pscSet n 2
  else if st = 2 ∧ s.tick ≥ x.startB + 8 then
    if x.wake ∧ bit (s.reg (Reg.pscFlags n)) 2 ∧ s.detSilent (s.nat (Reg.pscSleepDet n)) false then
      (s.pscRun n).modPsc n fun x => { x with gsPos := x.gsLen }
    else s.pscRun n
  else if st = 4 ∧ !x.cstop ∧ x.gsPos = 0 then s.pscStopCarrier n
  else if st = 6 ∧ s.reg (Reg.pscFault n) = 3 ∧ !x.noRestart ∧ !x.sensor ∧ s.reg (Reg.pscTemp n) ≤ 100 * s.reg (Reg.pscThermRestart n) then
    s.pscBegin n false
  else s
/-- A start meets the state of its boundary (Table 14.5). -/
def State.pscGo (s : State) (n : Nat) (again : Bool) : State :=
  let st := s.reg (Reg.pscState n)
  match if again then s.pscCode ((s.pscPlot n).getD 16) n else none with
  | some c => s.setReg (Reg.pscStatus n) c
  | none =>
    let s1 := s.setReg (Reg.pscStatus n) 0
    if (s.psc n).cstop then s1.modPsc n fun x => { x with again := some false }
    else if st = 0 then s1.pscBegin n false
    else if st = 4 then s1.pscRun n
    else if st = 6 then (if (s.psc n).latched then s.setReg (Reg.pscStatus n) 0x15 else s1.modPsc n fun x => { x with noRestart := false })
    else s1
/-- A stop meets the state of its boundary; false where it has no effect. -/
def State.pscHalt (s : State) (n : Nat) : State × Bool :=
  let st := s.reg (Reg.pscState n)
  let x := s.psc n
  let s1 := s.setReg (Reg.pscStatus n) 0
  if x.cstop then (if x.toDorm then (s1.modPsc n fun x => { x with toDorm := false }, true) else (s1, false))
  else if st = 1 ∨ st = 2 then (s1.pscStopCarrier n, true)
  else if st = 3 then (s1.pscStop n false, true)
  else if st = 4 then (if x.toDorm then (s1.modPsc n fun x => { x with toDorm := false }, true) else (s1, false))
  else if st = 5 then ((s1.pscSet n 0).modPsc n fun x => { x with braceSleep := false }, true)
  else if st = 6 then (s1.modPsc n fun x => { x with noRestart := true }, true)
  else (s1, false)
/-- Step 3 of R411: commands due; a zero window discards both (20, R526, R527). -/
def State.pscCommands (s : State) (n : Nat) : State :=
  let all := (s.psc n).acts
  let due := all.filter fun e => decide (e.1 ≤ s.tick)
  let s0 := s.modPsc n fun x => { x with acts := all.filter fun e => !decide (e.1 ≤ s.tick) }
  let p := (s.pscPlot n).getD 16
  let drop (s : State) : State := overL due (fun s e => s.discard p (if e.2.2 then Reg.pscCmdAt n else Reg.pscCmd n) e.1) s
  match stepActs (due.map fun e => e.2.1) with
  | none => s
  | some none => drop (s0.setReg (Reg.pscStatus n) 0)
  | some (some true) => s0.pscGo n (due.all fun e => e.2.2)
  | some (some false) => let r := s0.pscHalt n; if r.2 then r.1 else drop r.1
/-- Step 4 of R411: sleep and wake (R412, R415). -/
def State.pscSleep (s : State) (n : Nat) : State :=
  let st := s.reg (Reg.pscState n)
  let x := s.psc n
  let forced : Bool := x.braced && s.reg (Reg.pscBraceDormant n) == 1
  if st = 3 then
    if forced then (s.pscStop n true).modPsc n fun x => { x with braceSleep := true }
    else if x.gsPos = x.gsLen ∧ s.pscQuiet n then s.pscStop n true
    else s
  else if forced then s
  else
    let wake : Bool := if bit (s.reg (Reg.pscFlags n)) 2 then !s.pscQuiet n else x.braceSleep
    if st = 5 ∧ wake then s.pscBegin n true
    else if st = 4 ∧ x.toDorm ∧ wake then
      if x.cstop then s.modPsc n fun x => { x with again := some true } else s.pscRun n
    else s
/-- The gains of the tick that closed: Gs and Gb move on, PSC_GAIN_NOW follows (R399). -/
def State.pscTick (s : State) (n : Nat) : State :=
  let x := s.psc n
  (s.modPsc n fun x => { x.gsTick with
    gbPos := if x.gbPos < x.gbLen then x.gbPos + 1 else x.gbPos
    k := 0, gMin := q30, leg0 := x.leg0.newTick, leg1 := x.leg1.newTick }).setReg (Reg.pscGainNow n)
      (if x.gMin = q30 then 0 else gainDb x.gMin)
/-- The temperature of a group as its class 10 signal: T / 256 degrees, held for the tick (R396). -/
def State.pscTempBlock (s : State) (g : Nat) : State :=
  let x := sigOf 10 (128 + g)
  match s.sigOwner x with
  | some p =>
    if (List.range 4).any fun i => s.reg (Reg.pscState (4 * g + i)) != 0 then
      s.setSource x (List.replicate (6 * s.dueMult p) (sat 32 (divRound (s.reg (Reg.pscTemp (4 * g)) * 2147483648) 25600)))
    else s
  | none => s
/-- PSC_BOUNDARY: with the readings of the sense groups whose clocks run (R402), the channels in the order of R411. -/
def execPscBoundary (temps : List (Fin 16 × Option Nat)) (s : State) : Out :=
  let mine (d : Due) : Bool := isPscReg d.reg && decide (d.tick ≤ s.tick)
  let s1 := overL (s.due.filter mine) State.applyPsc { s with due := s.due.filter fun d => !mine d }
  let s2 := overL temps (fun s e => (s.pscReading e.1 (e.2.map fun v => min v 2147483648)).pscTempBlock e.1) s1
  .next (overL ((s2.pscs.map (·.1)).filter fun n => s2.pscLead n == n) (fun s n =>
    let s3 := (s.modPsc n fun x => { x with
      idle := x.coefNext.foldl (fun w e => if e.1 ≤ s.tick then e.2 else w) x.idle
      coefNext := x.coefNext.filter fun e => !decide (e.1 ≤ s.tick) }).pscTick n
    let s4 := if s3.reg (Reg.pscState n) = 0 then s3 else s3.pscThermal n
    let s5 := match (s4.psc n).trip with
      | some c => if s4.reg (Reg.pscState n) = 0 then s4.modPsc n fun x => { x with trip := none, hard := false } else s4.pscFaultIn n c
      | none => s4
    ((s5.pscTransit n).pscCommands n).pscSleep n) s2)
/-- A plot's reset or the scrub at this boundary: as a stop with Gs at 0 (R416). -/
def State.pscCut (s : State) (n : Nat) : State :=
  let m := s.pscLead n
  let st := s.reg (Reg.pscState m)
  let s1 := s.modPsc m fun x => { x with acts := [], again := none, toDorm := false }
  if st = 0 then s1
  else if st = 5 ∨ st = 6 then (overL (s.pscLegs m) (fun s k => s.setReg (Reg.pscFault k) 0) (s1.pscSet m 0)).modPsc m fun x => { x with latched := false }
  else s1.pscStopCarrier m
/-- The block of a feed opens egress at a cycle of the tick: its samples reach the interpolator at their egress positions (R388,
R393). -/
def State.pscFeed (s : State) (n at_ : Nat) (b : List Sample) : State :=
  if s.reg (Reg.pscState n) = 0 then s
  else
    let t0 : Int := (s.tick * 192000 + at_ : Nat)
    let new := b.zipIdx.map fun e => (t0 + (e.2 * 192000 / max 1 b.length : Nat), e.1)
    s.modPsc n fun x => { x with feed := (x.feed ++ new).filter fun e => decide (e.1 ≥ t0 - 384000) }

end Sys2Proof.Machine
end

