-- ==== Sys2Proof/Machine/Pair.lean ====
section
/-!
DEFINITION. The twin pair (08_twin_pair): roles and states, welt links, reconciliation, digests and their decision,
hand-over, loss of the partner, graft, proofs.
-/
namespace Sys2Proof.Machine

/-- The instant of the hand-over that waits, in ns: a tick boundary or the middle of a tick (R243). -/
def State.handInstant (s : State) : Option Nat :=
  s.pair.handAt.map fun e =>
    (if e.2 then (s.boundaryTime e.1 + s.boundaryTime (e.1 + 1)) / 2 else s.boundaryTime e.1) / 4294967296
/-- Has the lead of a hand-over begun at an instant, PAIR_SEL_LEAD and `more` ns before H (R243). -/
def State.inLead (s : State) (more now : Nat) : Bool :=
  match s.handInstant with | some h => decide (h ≤ now + s.nat Reg.pairSelLead + more) | none => false
/-- AUTH as driven at an instant: released while the chip holds authority; before a hand-over the chip that takes authority
releases it PAIR_SEL_LEAD + 100 ns before H, the other drives it low PAIR_SEL_LEAD before H (R241, R243). -/
def State.authPin (s : State) (now : Nat) : Bool :=
  if s.reg Reg.pairRole = 0 then s.reg Reg.pairAuth == 1 && !s.inLead 0 now else s.reg Reg.pairAuth == 1 || s.inLead 100 now
/-- READY as driven at an instant: released under Table 8.1, low while a power-on, cold or warm reset is in progress (R241,
R244), and PAIR_SEL_LEAD before a hand-over on the chip that gives up authority (R243). -/
def State.readyPin (s : State) (now : Nat) : Bool :=
  (s.rst.kind == 0 || s.rst.kind == 4) && !(s.reg Reg.pairRole == 0 && s.inLead 0 now) &&
    match s.nat Reg.pairState with
    | 2 => s.reg Reg.pairRole == 0
    | 4 => false
    | _ => true
/-- A graft ends with a code of Table 8.9; without success its target is in STANDBY without a role, its source ALONE (R221,
R253). -/
def State.graftEnd (s : State) (code : Nat) : State :=
  if s.reg Reg.pairState ≠ 2 then s
  else
    let ok := code == 1
    let s1 := (s.setReg Reg.graftResult code).logEvent 0x0606 (if ok then 0 else 2) 16 code (s.nat Reg.graftPhase)
    let s2 := (s1.setReg Reg.graftPhase 0).modPair fun x =>
      { x with unsettled := [], mirror := [], settled := 0, mirrored := 0, srcTick := [], graftOver := !ok && !x.target }
    if ok then s2.pairTo 3
    else if s.pair.target then s2.toStandby 255 false
    else s2.pairTo 1
/-- A chip begins to graft as the target, role B (R222, R253); a SUSPECT chip does not. -/
def State.graftBegin (s : State) : State :=
  if s.reg Reg.pairSuspect ≠ 0 then s.setReg Reg.graftResult 0x18
  else
    ((s.setRegs [(Reg.pairRole, 1), (Reg.graftPhase, 1), (Reg.graftResult, 2), (Reg.graftJoinTick, 0), (Reg.pairPartnerLost, 0)]).modPair
      fun x => { x with target := true, graftFrom := s.tick, phaseFrom := s.tick, settled := 0, graftAt := none, waitFrom := none
                        unsettled := [], mirror := [], srcTick := [] }).pairTo 2
/-- The heartbeat is lost, or PARTNER_AUTH changes without one (R246, Table 8.7). -/
def State.partnerLoss (s : State) : State :=
  if s.heartbeat then s
  else
    let st := s.nat Reg.pairState
    let high := s.reg Reg.pairPartnerAuth == 1
    if st = 3 ∨ st = 5 then
      if s.reg Reg.pairRole = 0 then s.pairTo (if high then 5 else 1)
      else if high then (s.pairTo 5).purgeBarred
      else s.takeA
    else if st = 2 ∧ s.reg Reg.graftPhase ≠ 1 then
      let s1 := s.graftEnd 0x15
      s1.when s.pair.target fun s => s.setReg Reg.pairPartnerLost 1
    else if (st = 2 ∧ s.pair.target) ∨ (st = 4 ∧ s.pair.waitFrom.isNone) then s.setReg Reg.pairPartnerLost 1
    else s

/-- PAIR_WAIT_EXPIRE: no tick frame within PAIR_WAIT (R222). -/
def execPairWaitExpire (s : State) : Out :=
  match s.pair.waitFrom with
  | some k =>
    if s.pair.partner.isSome ∨ s.tick < k + s.nat Reg.pairWait ∨ s.reg Reg.pairState ≠ 4 then .next s
    else if s.reg Reg.pairPartnerAuth = 0 then .next s.takeA
    else .next (s.setReg Reg.pairPartnerLost 1)
  | none => .next s

/-! Digests (R232 to R240). -/

/-- Samples as 32-bit little-endian words. -/
def wordsOf (b : List Sample) : List Byte := b.flatMap (leBytesI 4)
/-- Digest of a plot in a phase; none where it has no sink in it (R234). -/
def State.plotDigest (s : State) (p : Nat) (full : Bool) : Option Nat :=
  match s.last p with
  | none => none
  | some l =>
    if l.half == full then none
    else
      let sinks := sortBy (fun a b => decide (a ≤ b)) (((s.plot p).routes.filter fun r => isEgress r.sink && !r.direct).map (·.sink))
      let kind := if full then 4 else 3
      let txs := s.txLive.filter fun t => s.reg (Reg.txDomain t) == 0 && s.streamPlot false t == some p &&
        s.txDelay l.half (s.plot p).routes t == kind
      let b := s.tick - 1
      let e := if full then s.boundaryTime (s.tick + 1) else (s.boundaryTime s.tick + s.boundaryTime (s.tick + 1)) / 2
      let launched := txs.filter fun t =>
        let m := ptimeTicks (s.nat (Reg.txPtime t)); b % m == m - 1 && s.txInTime t (s.launchAt t e)
      if sinks = [] then none
      else some (crc64 (sinks.flatMap (fun x => leBytes 4 x ++ wordsOf (NTable.get [] s.staged x)) ++
        launched.flatMap fun t => leBytes 2 t ++ leBytes 2 (s.tx t).seq ++
          leBytes 4 (s.txStamp t ((b + 1 - ptimeTicks (s.nat (Reg.txPtime t))) * 6 * s.txMult t))))
/-- The own DIGEST cell of a phase, made at its staging deadline; its evidence window ends (R235, R236). -/
def State.makeDigest (s : State) (full : Bool) : State :=
  let ds := (List.range 16).map fun p => s.plotDigest p full
  let mask := sumN (ds.zipIdx.map fun (e : Option Nat × Nat) => if e.1.isSome then 2 ^ e.2 else 0)
  let ev := if full then s.pair.evidFull else s.pair.evidHalf
  let c : DigestCell := {
    tick := s.tick, full := full, shared := bit (ev : Int) 16, suspect := s.reg Reg.pairSuspect == 1, mask := mask
    evid := ev % 65536, ds := ds.map fun d => d.getD 0 }
  let s1 := (s.modPair fun x => { x with
    own := NTable.put {} x.own (if full then 1 else 0) c
    evidHalf := if full then x.evidHalf else 0, evidFull := if full then 0 else x.evidFull }).sendCell (.digest c)
  s1.when (ev != 0) fun s => s.bump Reg.evidCount
/-- Plots whose digests or MASK bits differ (R237). -/
def differing (a b : DigestCell) : Nat :=
  sumN ((List.range 16).map fun p =>
    if bit (a.mask : Int) p != bit (b.mask : Int) p || a.ds.getD p 0 != b.ds.getD p 0 then 2 ^ p else 0)
/-- Has the chip that sent a cell evidence against the plots M (R237). -/
def hasEvidence (c : DigestCell) (m : Nat) : Bool := c.evid &&& m != 0 || c.shared || c.suspect
/-- Packets of a phase stay back at its next opening (R237). -/
def State.withhold (s : State) (key : Nat) : State :=
  s.modPair fun x => { x with withheld := NTable.put 0 x.withheld key 65535 }
/-- The decision of Table 8.5 on plots M of a phase: case, and the instant H of a hand-over. -/
def State.decide85 (s : State) (key m case_ : Nat) (h : Nat × Bool) : State :=
  let a := s.reg Reg.pairRole == 0
  let s1 := (((s.bump Reg.divCount).setRegs [(Reg.divLastTick, s.tick), (Reg.divLastPlots, m), (Reg.divLastCase, case_)])).logEvent
    0x0602 2 16 m case_
  if s.pair.focus.isSome then s1
  else match case_ with
    | 2 => (s1.when a fun s => s.withhold key).modPair fun x => { x with handAt := some h }
    | 4 => (s1.when (!a) fun s => s.withhold key).modPair fun x => { x with focus := some (s.tick + 16, m) }
    | _ => if a then s1.pairTo 1 else (s1.withhold key).toStandby 1 false
/-- Case of a difference (Table 8.5). -/
def caseOf (a b : Bool) : Nat := if a && b then 5 else if a then 2 else if b then 3 else 4
/-- DIGEST: the partner's cell (R235). -/
def execDigest (c : DigestCell) (s : State) : Out :=
  if !s.heartbeat then .next s
  else .next (s.heard.modPair fun x => { x with theirs := NTable.put {} x.theirs (if c.full then 1 else 0) c })
/-- DIGEST_COMPARE of a phase at its compare deadline (R237 to R239); in SETTLE of a graft it counts equal ticks (R253). -/
def execDigestCompare (full : Bool) (s : State) : Out :=
  let key := if full then 1 else 0
  let st := s.nat Reg.pairState
  let own := NTable.get {} s.pair.own key
  let other := NTable.get {} s.pair.theirs key
  let here := other.tick == s.tick && own.tick == s.tick && other.full == full
  if st = 2 ∧ s.reg Reg.graftPhase = 5 then
    let same := here && differing own other == 0 && s.pair.unsettled == []
    .next (s.modPair fun x => { x with settled := if !same then 0 else if full then x.settled + 1 else x.settled })
  else if st ≠ 3 ∨ own.tick ≠ s.tick then .next s
  else
    let a := s.reg Reg.pairRole == 0
    let h := if full then (s.tick + 1, false) else (s.tick, true)
    let s0 := s.modPair fun x => { x with withheld := NTable.put 0 x.withheld key 0 }
    let held := s0.when (s.pair.focus.isSome && !a) fun s => s.withhold key
    if !here then
      let n := NTable.get 0 s.pair.missing key + 1
      let s1 := (held.bump Reg.digestMissing).modPair fun x => { x with missing := NTable.put 0 x.missing key n }
      if n ≥ 3 then .next (s1.decide85 key own.mask 4 h)
      else .next (s1.when (!a) fun s => s.withhold key)
    else
      let s1 := held.modPair fun x => { x with missing := NTable.put 0 x.missing key 0 }
      let m := differing own other
      if m = 0 then .next s1
      else
        let mine := hasEvidence own m
        let theirs := hasEvidence other m
        .next (s1.decide85 key m (if a then caseOf mine theirs else caseOf theirs mine) h)
/-- FOCUS_PROOF_END (R239): SUSPECT chips have been dealt with at their failure; else B enters STANDBY. -/
def execFocusProofEnd (s : State) : Out :=
  match s.pair.focus with
  | some (k, _) =>
    if s.tick < k then .next s
    else
      let s1 := s.modPair fun x => { x with focus := none }
      let theirs : Bool := match s.pair.partner with | some f => bit (f.flags : Int) 4 | none => false
      if s.reg Reg.pairState ≠ 3 ∨ s.reg Reg.pairSuspect = 1 ∨ theirs then .next s1
      else if s.reg Reg.pairRole = 0 then .next (s1.pairTo 1)
      else .next (s1.toStandby 1 true)
  | none => .next s
/-- Digest of the gate edges of the tick that closes (R240). -/
def State.edgeDigest (s : State) : Nat :=
  crc64 ((List.range 64).flatMap fun n =>
    let x := s.psc n
    if s.reg (Reg.pscState n) = 0 then []
    else ((x.leg0.edges ++ x.leg1.edges).filter fun e => decide (0 ≤ e.time)).flatMap fun e => leBytesI 4 e.time)
/-- Digest of the proof programs that ended in the tick that closes: TASK_ID order within core order (R261). -/
def State.proofDigest (s : State) : Nat :=
  crc64 ((sortBy (fun (a b : Nat × Word × Word) => decide (a.1 ≤ b.1)) s.pair.proofs).flatMap fun e => wordBytes e.2.1 ++ wordBytes e.2.2)
/-- Does the partner's latest frame show SUSPECT. -/
def State.partnerSuspect (s : State) : Bool := match s.pair.partner with | some f => bit (f.flags : Int) 4 | none => false
/-- The reaction of role B to its own SUSPECT: it ends a graft as its target and enters STANDBY (R264). -/
def State.suspectLeaves (s : State) : State :=
  if s.reg Reg.pairSuspect = 0 ∨ s.reg Reg.pairRole ≠ 1 ∨ !s.paired ∨ s.reg Reg.pairState = 4 then s
  else if s.reg Reg.pairState = 2 then s.graftEnd 0x18
  else s.toStandby 1 false
/-- The reaction to SUSPECT at a boundary (R239, R264), for as long as it stands: role A with a partner in LOCKSTEP that is not
SUSPECT hands over at the next boundary, 2 ticks after a failure in the tick before (log entry 46). -/
def State.suspectReact (s : State) : State :=
  let hands := s.reg Reg.pairSuspect == 1 && s.reg Reg.pairState == 3 && s.reg Reg.pairRole == 0 && !s.partnerSuspect &&
    s.pair.handAt.isNone
  if hands then s.modPair fun x => { x with handAt := some (s.tick + 1, false) } else s.suspectLeaves
/-- PROOF_FAIL of a unit: 0 core, 1 mix lane, 2 FCU, 3 tile (R263, R264). -/
def execProofFail (kind : Fin 4) (unit : Fin 256) (s : State) : Out := .next (s.proofFail kind unit).suspectLeaves
/-- Units that the proof set covers: cores, mix lanes, FCUs, tiles (R263). -/
def proofUnits : Nat := 128 + 16 + 64 + 16
/-- PROOF_SET_PASS: a unit's set is complete; each unit's once in a rotation of 1,024 ticks (R263; log entry 206). -/
def execProofSetPass (s : State) : Out :=
  let r := s.tick / 1024
  let n := if s.pair.proofRound = r then s.pair.proofUnits else 0
  if n ≥ proofUnits then .next s
  else .next ((s.modPair fun x => { x with proofRound := r, proofUnits := n + 1 }).bump Reg.proofPass)
/-- PAIR_SUSPECT_CLEAR (R264). -/
def execPairSuspectClear (s : State) : Out := .next (((s.setReg Reg.pairSuspect 0).refreshFaults).reply 0)
/-- HANDOVER at its instant H (R243, R245): the chips exchange roles; a chip that leaves keeps no role (R260). -/
def execHandover (s : State) : Out :=
  match s.pair.handAt with
  | none => .next s
  | some (t, half) =>
    if s.tick < t ∨ (s.tick = t ∧ half ∧ s.cycle < 96000) then .next s
    else
      let s0 := (s.modPair fun x => { x with handAt := none, focus := none }).bump Reg.handoverCount
      if s.reg Reg.pairRole = 0 then
        let leaves := match s.pair.leaveAt with | some l => decide (l ≤ s.tick) | none => false
        let s1 := (s0.toStandby (if leaves then 255 else 1) (!leaves)).modPair fun x =>
          { x with leaveAt := if leaves then none else x.leaveAt }
        .next (s1.logEvent 0x0603 1 16 1 (s.nat Reg.pairAuthSince))
      else
        let s1 := s0.takeA
        .next (s1.logEvent 0x0603 1 16 0 (s1.nat Reg.pairAuthSince))

/-! Links and cells. -/

/-- The own tick frame as it goes out on a link (Table 8.3). -/
def State.tickFrame (s : State) (l : Nat) : TickFrame :=
  let f (b : Bool) (n : Nat) : Nat := if b then 2 ^ n else 0
  let bits (g : Nat → Bool) : Nat := sumN ((List.range 16).map fun p => f (g p) p)
  { tick := s.tick, time := s.timeNs, seq := s.pair.frameSeq % 65536, seat := s.nat Reg.pairSeat
    role := if s.reg Reg.pairRole = 0 then 0 else 1, state := s.nat Reg.pairState
    flags := f (s.reg (Reg.weltState (1 - l)) == 2) 0 + f (s.authPin s.timeNs) 1 + f (s.readyPin s.timeNs) 2 + f (s.reg Reg.pairPartnerAuth == 1) 3 +
      f (s.reg Reg.pairSuspect == 1) 4 + f (s.pair.leaveAt == some (s.tick + 1)) 5 + f s.pair.focus.isSome 6
    accept := if s.reg Reg.pairRole = 1 then bits fun p => s.reg (Reg.lastState p) == 3 || s.reg (Reg.lastState p) == 4 else 0
    commit := if s.reg Reg.pairRole = 0 then bits fun p => s.reg (Reg.lastState p) == 4 else 0
    mgmtSeq := if s.reg Reg.pairRole = 0 then s.pair.seq else s.pair.acked, proof := (s.pair.proofDigests.head?.map fun e => e.2.1).getD 0
    edge := (s.pair.edges.head?.map fun e => e.2).getD 0, authSince := s.nat Reg.pairAuthSince, uid := Config.uid }
/-- Does a frame come from a chip that holds role A (R221, R222). -/
def holdsA (f : TickFrame) : Bool := f.role == 0 && [1, 2, 3, 5].contains f.state
/-- Code of a graft that the target's frame shows to have ended (Table 8.9; log entry 207): SUSPECT by its flag, a phase's
limit where it has passed, else ABORTED. -/
def State.endedCode (s : State) (f : TickFrame) : Nat :=
  if bit (f.flags : Int) 4 then 0x18
  else match s.nat Reg.graftPhase with
    | 1 => if s.pair.phaseFrom + 8000 ≤ s.tick then 0x10 else 0x17
    | 2 => if s.pair.phaseFrom + 80000 ≤ s.tick then 0x13 else 0x17
    | 5 => if s.pair.graftFrom + 480000 ≤ s.tick then 0x14 else 0x17
    | _ => 0x17
/-- What a partner's frame decides about roles (R222, R237, R249, R252, R258, R260; 21, R533: of equal seats the lower unique ID keeps
role A); `was` is the frame before. -/
def State.heedRole (s : State) (was : Option TickFrame) (f : TickFrame) : State :=
  let st := s.nat Reg.pairState
  let role := s.reg Reg.pairRole
  let seatA := s.reg Reg.pairSeat == 0
  if role = 0 ∧ holdsA f ∧ st ≠ 4 then
    let own := s.nat Reg.pairAuthSince
    let keeps : Bool := if f.seat = s.nat Reg.pairSeat then decide (Config.uid < f.uid) else seatA
    if own < f.authSince ∨ (own = f.authSince ∧ keeps) then s else s.toStandby 1 true
  else if role = 255 ∧ s.pair.waitFrom.isSome then
    if holdsA f then s.graftBegin else if f.state = 4 ∧ seatA ∧ (s.reg Reg.pairPartnerLost = 0 ∨ s.reg Reg.pairPartnerAuth = 0) then s.takeA else s
  else if role = 1 ∧ st = 5 ∧ holdsA f then s.toStandby 1 true
  else if role = 1 ∧ st = 3 ∧ f.role = 0 ∧ (f.state = 1 ∨ f.state = 4) ∧ s.pair.handAt.isNone then s.toStandby 1 true
  else if role = 1 ∧ st = 3 ∧ f.role = 0 ∧ (bit (f.flags : Int) 4 || bit (f.flags : Int) 5) ∧ s.reg Reg.pairSuspect = 0 ∧
      s.pair.handAt.isNone then s.modPair fun x => { x with handAt := some (f.tick + 1, false) }
  else if role = 0 ∧ (st = 3 ∨ st = 5) ∧ f.state = 4 ∧ s.pair.handAt.isNone then s.pairTo 1
  else if role = 1 ∧ st = 2 ∧ f.role = 0 ∧ f.state = 1 ∧ (was.map (·.state)) = some 2 then s.graftEnd 0x17
  else if role = 0 ∧ st = 1 ∧ f.role = 1 ∧ f.state = 2 ∧ s.pair.graftOver then s
  else if role = 0 ∧ st = 1 ∧ f.role = 1 ∧ f.state = 2 then
    ((s.setRegs [(Reg.graftPhase, 1), (Reg.graftResult, 2), (Reg.graftJoinTick, 0)]).modPair fun x =>
      { x with target := false, graftFrom := s.tick, phaseFrom := s.tick, settled := 0, unsettled := [] }).pairTo 2
  else if role = 0 ∧ st = 2 ∧ f.state = 4 then s.graftEnd (s.endedCode f)
  else if f.state ≠ 2 then s.modPair fun x => { x with graftOver := false }
  else s
/-- Acceptances and commits of the partner; role A cancels by S - 8 what B has cancelled (01, R48). -/
def State.heedSwaps (s : State) (f : TickFrame) : State :=
  if s.reg Reg.pairState ≠ 3 ∧ s.reg Reg.pairState ≠ 2 then s
  else overN 16 (fun s p =>
    let st := s.reg (Reg.lastState p)
    let w := if s.reg Reg.pairRole = 0 then f.accept else f.commit
    let t := s.nat (Reg.lastSwapTick p)
    if st = 3 ∧ bit (w : Int) p then s.modPlot p fun x => { x with partnerOk := true }
    else if st = 4 ∧ s.reg Reg.pairRole = 0 ∧ !bit (w : Int) p ∧ t < f.tick + 16 ∧ s.tick + 8 ≤ t then s.dropImage p 0x1F
    else s) s
/-- Edge digests of the previous tick (R240); in SETTLE a difference ends the run of equal ticks (R253). -/
def State.heedEdges (s : State) (f : TickFrame) : State :=
  match s.pair.edges.find? fun e => e.1 + 1 == f.tick with
  | some e =>
    if e.2 = f.edge then s
    else if s.reg Reg.pairState = 2 then s.modPair fun x => { x with settled := 0 }
    else if s.reg Reg.pairState ≠ 3 then s
    else
      let own := NTable.get {} s.pair.own 1
      let other := NTable.get {} s.pair.theirs 1
      let m := sumN ((List.range 16).map fun p =>
        if (List.range 64).any fun n => s.reg (Reg.pscState n) != 0 && s.pscPlot n == some p then 2 ^ p else 0)
      let a := s.reg Reg.pairRole == 0
      let mine := hasEvidence own m
      let theirs := hasEvidence other m
      (s.bump Reg.edgeDivCount).decide85 1 m (if a then caseOf mine theirs else caseOf theirs mine) (s.tick + 1, false)
  | none => s
/-- Proof digests of the previous tick (R262). -/
def State.heedProofs (s : State) (f : TickFrame) : State :=
  match s.pair.proofDigests.find? fun e => e.1 + 1 == f.tick with
  | some e =>
    if e.2.1 = f.proof ∨ e.2.2 ∨ bit (f.flags : Int) 4 ∨ s.reg Reg.pairState ≠ 3 then s
    else
      let s1 := s.bump Reg.proofDiv
      s1.logEvent 0x0604 1 16 (s1.nat Reg.proofDiv) 0
  | none => s
/-- Role B adopts A's tick number and time (R226): in the CLOCK phase of graft the number itself, from then on the counter at
the boundary; the frame came the link's latency after it. -/
def State.adopt (s : State) (l : Nat) (f : TickFrame) : State :=
  let follows := s.weltRef && f.role == 0
  if !follows then s
  else
    let s1 := if s.tick ≠ f.tick ∧ s.reg Reg.graftPhase = 2 then ({ s with tick := f.tick }).afterJump ((f.tick : Int) - s.tick) else s
    if s1.tick ≠ f.tick then s1
    else { s1.modClk fun c => { c with phase := (f.time * 4294967296 : Nat) - (s1.boundaryTime f.tick : Int) } with
      cycle := max s1.cycle (s.nat (Reg.weltLatency l) * 192 * s.tps / 1000000000) }
/-- TICK: the partner's tick frame on a link; the copy on the other link is ignored (R224, R225). -/
def execTick (l : Fin 2) (f : TickFrame) (s : State) : Out :=
  let seen : Bool := match s.pair.partner with | some g => g.seq == f.seq && g.tick == f.tick | none => false
  if s.reg (Reg.weltState l) ≠ 2 ∨ seen ∨ !s.paired then .next s
  else
    let s1 := (((s.adopt l f).heard).modPair fun x => { x with partner := some f }).setReg Reg.pairPartnerUid f.uid
    .next ((((s1.heedRole s.pair.partner f).heedSwaps f).heedEdges f).heedProofs f)
/-- BEAT: it keeps its link up; it carries nothing else (R225). -/
def execBeat (l : Fin 2) (t : Nat) (s : State) : Out :=
  if s.reg (Reg.weltState l) = 2 ∧ t ≤ s.tick + 1 then .next s.heard else .next s
/-- WELT_LINK_DOWN (R225), and the loss of the heartbeat with it (R246). -/
def State.weltDown (s : State) (l : Nat) : State :=
  if s.reg (Reg.weltState l) = 0 then s
  else
    let up := s.reg (Reg.weltState l) == 2
    let s1 := (s.setReg (Reg.weltState l) 0).when up fun s => s.bump (Reg.weltDownCount l)
    if up ∧ !s1.heartbeat then
      (s1.modPair fun x => { x with lostAt := some s.pair.cellAt, partner := none }).partnerLoss
    else s1
/-- WELT_LINK_DOWN: block lock is lost, or no good cell for 8 us (R225). -/
def execWeltLinkDown (l : Fin 2) (s : State) : Out := .next (s.weltDown l)
/-- WELT_LINK_UP: training and the latency check are complete; more than 0.75 us one way is REJECTED (R223). -/
def execWeltLinkUp (l : Fin 2) (ps : Nat) (s : State) : Out :=
  if !s.paired then .next s
  else
    let s1 := s.setRegs [(Reg.weltLatency l, ps), (Reg.weltState l, if ps > 750000 then 3 else 2)]
    .next (s1.when s1.heartbeat fun s => s.modPair fun x => { x with lostAt := none })
/-- PARTNER_AUTH_CHANGE (R222, R246). -/
def execPartnerAuthChange (level : Bool) (s : State) : Out :=
  let was := s.reg Reg.pairPartnerAuth == 1
  let s1 := s.setReg Reg.pairPartnerAuth (if level then 1 else 0)
  let s2 := s1.when (level && !was && s.reg Reg.pairState == 3 && s.reg Reg.pairRole == 0 && s.heartbeat) fun s => s.bump Reg.authConflict
  if s.reg Reg.pairState = 4 ∧ s.pair.waitFrom.isSome ∧ s.reg Reg.pairPartnerLost = 1 ∧ !level ∧ s.pair.partner.isNone then .next s2.takeA
  else .next s2.partnerLoss
/-! Inputs (R227 to R232). -/

/-- RCPT: the partner has accepted a packet (R227, R229). -/
def execRcpt (t : Fin 1024) (seq crc : Nat) (at_ : Option Nat) (s : State) : Out :=
  let early (p : RxPkt) : RxPkt :=
    if p.seq = seq then { p with rcpt := p.rcpt || crc32 p.payload == crc, at_ := match at_ with | some k => min k p.at_ | none => p.at_ } else p
  if (s.rx t).pkts.any fun p => p.seq == seq then
    .next (s.heard.modRx t fun x => { x with pkts := x.pkts.map early, feed := x.feed.map early })
  else .next (s.heard.modPair fun x => { x with rcpts := x.rcpts ++ [(t.val, seq, crc, at_, s.tick)] })
/-- The blocks of a stream are formed again from what it holds, where a copy came after its deadline (R228). -/
def State.rebuildRx (s : State) (t tick : Nat) (into : State → SigId → List Sample → State) : State :=
  let x := s.rx t
  let j := tick - s.nat (Reg.rxLinkOffset t)
  let miss := (List.range (s.nat (Reg.rxChannels t))).any fun ch => (s.rxBlock t ch j).any Option.isNone
  let s1 := s.putRxBlocks t j x.wasRamp (x.stopT == some (tick + 1)) into
  (s1.modRx t fun y => { y with concealed := miss, rampUp := miss }).when (x.concealed && !miss) fun s =>
    s.setReg (Reg.rxConcealed t) ((s.reg (Reg.rxConcealed t) + 4294967295) % 4294967296)
/-- RPAY: a copy of a payload (R227): used where the packet is lacking, else discarded. -/
def execRpay (t : Fin 1024) (seq index : Nat) (payload : List Byte) (at_ : Nat) (s : State) : Out :=
  match (s.rx t).pkts.find? fun p => p.s == index with
  | some p => .next (s.when (crc32 p.payload != crc32 payload) fun s => s.bump Reg.reconDup)
  | none =>
    if s.reg (Reg.rxState t) ≠ 1 ∧ s.reg (Reg.rxState t) ≠ 2 then .next s
    else
      let s1 := (s.acceptPkt t { s := index, seq := seq, payload := payload, legs := 0, at_ := at_, rcpt := true }).bump Reg.reconRecv
      let k := s.ingestTick t index
      if s.reg (Reg.rxDomain t) ≠ 0 ∨ s.reg (Reg.rxState t) ≠ 2 then .next s1
      else if k = s.tick ∧ (s.rx t).closed then
        .next (s1.rebuildRx t k fun s y b => { s with ingest := NTable.put [] s.ingest y b })
      else if k + 1 = s.tick ∧ s.cycle < 1536 then
        .next (s1.rebuildRx t k fun s y b => { s with src := NTable.put [] s.src y b })
      else .next s1
/-- RPAY_TIMEOUT at an instant in ns: no RCPT within 1.0 us of the acceptance; the payload is sent (R227). -/
def execRpayTimeout (t : Fin 1024) (seq now : Nat) (s : State) : Out :=
  match (s.rx t).pkts.find? fun p => p.seq == seq && !p.rcpt && !p.rpay && decide (p.at_ + 1000 ≤ now) with
  | some p =>
    if !s.paired ∨ !s.heartbeat then .next s
    else
      let s1 := (s.modRx t fun x => { x with pkts := x.pkts.map fun q => if q.seq = seq then { q with rpay := true } else q }).bump Reg.reconSent
      .next { s1.sendCell (.rpay t p.seq p.s p.payload p.at_) with answer := { bytes := p.payload, sent := true } }
  | none => .next s
/-- At cycle 184,320 role A forwards the frame-start stamps that its trackers of ports in F used in the tick (R231). -/
def State.sendStamps (s : State) : State :=
  if !s.paired ∨ s.reg Reg.pairRole ≠ 0 then s
  else overL ((List.range 128).filter fun n => s.reg (Reg.sapDomain n) == 2 && s.reg (Reg.sapState n) != 0) (fun s n =>
    (s.sendCell (.lfwd (.stamps (Fin.ofNat 128 n) (s.sap n).used))).modSap n fun x => { x with used := [] }) s
/-- LFWD (R230, R231): samples, TEV stamps and tracker stamps of the partner. -/
def execLfwd (x : Lfwd) (s : State) : Out :=
  match x with
  | .sap n f =>
    if s.ownPin n ∨ s.reg (Reg.sapState (s.sapIn n)) = 0 then .next s
    else
      let q := s.sapIn n
      let hz := max 1 (s.sapHz q)
      let idx := (2 * f.time * hz + 1000000000) / 2000000000
      let scale : Int := 2 ^ (32 - s.nat (Reg.sapDataBits q))
      let s1 := s.modSap n fun x => { x with frames := NTable.put [] x.frames (idx + 1) ((List.range (s.sapSlotsOf q)).map fun k => f.words.getD k 0 * scale) }
      .next (if s.sapH q then s1 else s1.sapFree q n (idx + 1) (s.sapStamp q f.time))
  | .tev n falling ns =>
    if s.ownPin (128 + n.val) ∨ s.reg (Reg.tevMode n) ≠ 1 then .next s
    else .next (s.capture n falling ((ns : Int) - s.tevOffsetNs n).toNat)
  | .stamps n l => .next ((s.modPair fun x => { x with stamps := NTable.put [] x.stamps n l }).restamp)
/-- Own input digests of the tick that closed, at INGEST_READY (R232; log entry 208): of each receive stream's merged block, of
each BOTH-mode serial port's block, of what BOTH-mode TEV pins captured. -/
def State.inputDigests (s : State) : List (Nat × Nat) :=
  let streams := s.rxLive.map fun t => (t, crc64 (
    if s.reg (Reg.rxDomain t) = 0 then
      (List.range (s.nat (Reg.rxChannels t))).flatMap fun ch => wordsOf (NTable.get [] s.src (sigOf 2 (s.nat (Reg.rxChBase t) + ch)))
    else (s.rx t).fed.flatMap fun p => leBytes 8 p.s ++ leBytes 8 p.at_ ++ p.payload))
  let ports := ((List.range 128).filter fun n => s.reg (Reg.linMode n) == 0 && s.reg (Reg.sapState n) != 0).map fun n =>
    (65536 + n, crc64 ((List.range 32).flatMap fun k => wordsOf (NTable.get [] s.src (sigOf 0 (32 * n + k)))))
  let pins := ((List.range 24).filter fun n => s.reg (Reg.linMode (128 + n)) == 0 && s.reg (Reg.tevMode n) == 1).map fun n =>
    (131072 + n, crc64 ((s.tev n).capsNow.flatMap fun e => e.take 11))
  streams ++ ports ++ pins
/-- IDIG: the partner's input digests of the previous tick are compared (R232). -/
def execIdig (t : Nat) (l : List (Nat × Nat)) (s : State) : Out :=
  if t + 1 ≠ s.tick ∨ !s.heartbeat then .next s
  else
    let bad := l.filter fun e => s.pair.idigs.any fun o => o.1 == e.1 && o.2 != e.2
    .next (overL bad (fun s e => ((s.bump Reg.inDivCount).setReg Reg.inDivLast e.1).logEvent 0x0601 1 16 e.1 0) s.heard)

/-! Management and graft (R251 to R260). -/

/-- MACK: the partner has queued an action (R252). -/
def execMack (seq : Nat) (s : State) : Out := .next (s.heard.modPair fun x => { x with sent := x.sent.filter fun e => e.1 != seq })
/-- MACK_TIMEOUT: an action without a MACK by T - 4 ends B's lockstep (R252). -/
def execMackTimeout (s : State) : Out :=
  let late := s.pair.sent.any fun e => decide (e.2 ≤ s.tick + 4)
  if !late ∨ s.reg Reg.pairRole ≠ 0 then .next s
  else
    let s1 := s.modPair fun x => { x with sent := x.sent.filter fun e => !decide (e.2 ≤ s.tick + 4) }
    .next (s1.when (s.reg Reg.pairState == 3) fun s => s.pairTo 1)
/-- GRAFT_START on the target (R253). -/
def execGraftStart (s : State) : Out :=
  if !s.paired ∨ s.reg Reg.pairState ≠ 4 then .next (s.reply 0x14) else .next (s.graftBegin.reply 0)
/-- A graft goes on to a phase. -/
def State.graftPhaseTo (s : State) (k : Nat) : State :=
  (s.setReg Reg.graftPhase k).modPair fun x => { x with phaseFrom := s.tick, settled := 0 }
/-- CONFIG: gardener state of the source (Table 8.8). -/
def State.takeCopy (s : State) (c : GraftCopy) : State :=
  let s1 := overL c.regs (fun s e => s.setReg ⟨e.1, e.2.1, e.2.2.1⟩ e.2.2.2) s
  let s2 := overL c.blobs (fun s e => s.setBlob ⟨e.1, e.2.1, e.2.2.1⟩ e.2.2.2) s1
  let hold (e : Fin 16 × List Byte) : List Holding := (records 16 e.2).map fun b =>
    let u := readUnits b
    { kind := u.kind, unit := u.unit, first := u.first, count := u.count, plot := e.1 }
  let s3 := { s2 with
    holdings := c.holdings.flatMap hold
    offers := c.offers.map fun e => ⟨e.1, e.2.1, e.2.2⟩
    accepts := c.accepts.map fun e => ⟨e.1, e.2.1, e.2.2⟩
    auths := (c.offers.filter fun e => c.accepts.any fun a => a.1 == e.1 && a.2.1 == e.2.2 && a.2.2 == e.2.1).map fun e =>
      { index := e.1, producer := e.2.1, consumer := e.2.2, formAt := none, withdrawAt := none, rampUp := false } }
  overL c.keys (fun s e => s.modPlot e.1 fun x => { x with ownerKey := e.2.1, observerKey := e.2.2 }) s3
/-- MIRROR begins: the target executes the source's active lasts (R255). -/
def State.takeLasts (s : State) (c : GraftCopy) : State :=
  overL c.lasts (fun s e => (s.modPlot e.1 fun x => { x with nextImage := e.2 }).swap e.1 (readImage e.2).toLast) s
/-- What this chip tells of itself (R254). -/
def State.chipId (s : State) : ChipId :=
  { stepping := 0xB0, code := Config.orderCode % 2, build := s.slotBuild (min 1 (s.nat Reg.fwActive)), family := s.nat Reg.tickFamily
    dram := (leAt s.rst.opt 0x0C 1, leAt s.rst.opt 0x0D 1), lin := (List.range 152).map fun n => s.nat (Reg.linMode n) }
/-- Are both chips compatible (R254). -/
def State.compatible (s : State) (partner : ChipId) : Bool := partner == s.chipId
/-- Does the partner's frame show this chip's own seat (21, R533). -/
def State.sameSeat (s : State) : Bool :=
  match s.pair.partner with | some f => f.seat == s.nat Reg.pairSeat | none => false
/-- Has the CLOCK phase ended on this chip: on the target the DPLL is locked to the welt reference, its ticks have A's numbers
and lie within 4 ns of A's (R226, Table 8.8). -/
def State.clockAligned (s : State) : Bool :=
  !s.pair.target || (s.reg Reg.dpllState == 2 && s.reg Reg.dpllRef == 13 && decide ((s.reg Reg.dpllPhaseErr).natAbs ≤ 4000) &&
    match s.pair.partner with | some f => decide (f.tick = s.tick) | none => false)
/-- Pages that graft copies, in all. -/
def State.pageCount (s : State) : Nat := sumN (s.pageAreas.map (·.2))
/-- GRAFT_PHASE_COMPLETE (R253): the phase's end condition holds; what the partner is and the copies of CONFIG are reports. -/
def execGraftPhaseComplete (partner : ChipId) (copy : GraftCopy) (s : State) : Out :=
  if s.reg Reg.pairState ≠ 2 then .next s
  else match s.nat Reg.graftPhase with
    | 1 => if !s.heartbeat then .next s
      else if s.compatible partner && !s.sameSeat then .next (s.graftPhaseTo 2) else .next (s.graftEnd 0x12)
    | 2 => if s.clockAligned then .next (s.graftPhaseTo 3) else .next s
    | 3 => .next (if s.pair.target then ((s.takeCopy copy).takeLasts copy).graftPhaseTo 4
        else (s.graftPhaseTo 4).modPair fun x => { x with mirrored := 0 })
    | 4 => if s.pair.target ∨ s.pageCount ≤ s.pair.mirrored then .next (s.graftPhaseTo 5) else .next s
    | 5 => if s.pair.settled < 64 then .next s
      else .next ((s.graftPhaseTo 6).setReg Reg.graftJoinTick (s.tick + 64 : Nat))
    | _ => .next s
/-- GRAFT_PHASE_TIMEOUT (Table 8.8). -/
def execGraftPhaseTimeout (partner : ChipId) (s : State) : Out :=
  if s.reg Reg.pairState ≠ 2 then .next s
  else match s.nat Reg.graftPhase with
    | 1 =>
      if s.tick < s.pair.phaseFrom + 8000 then .next s
      else if s.heartbeat ∧ !s.compatible partner then .next (s.graftEnd 0x12)
      else if s.reg (Reg.weltState 0) = 3 ∨ s.reg (Reg.weltState 1) = 3 then .next (s.graftEnd 0x11)
      else .next (s.graftEnd 0x10)
    | 2 => if s.tick < s.pair.phaseFrom + 80000 then .next s else .next (s.graftEnd 0x13)
    | 5 => if s.tick < s.pair.graftFrom + 480000 then .next s else .next (s.graftEnd 0x14)
    | _ => .next s
/-- GRAFT_JOIN at J (R259). -/
def execGraftJoin (s : State) : Out :=
  if s.reg Reg.pairState = 2 ∧ s.reg Reg.graftPhase = 6 ∧ s.nat Reg.graftJoinTick ≤ s.tick then .next (s.graftEnd 1) else .next s
/-- GRAFT_ABORT (R258). -/
def execGraftAbort (s : State) : Out := .next ((s.graftEnd 0x17).reply 0)
/-- A mirrored page goes into memory, with the source's write tick (R255). -/
def State.putPage (s : State) (e : Nat × Nat × List Byte) : State :=
  (s.mapStore e.1 e.2.2).modPair fun x => { x with pageTick := NTable.put 0 x.pageTick (e.1 / 4096) e.2.1 }
/-- Does the chip take mirrored pages: the target from MIRROR on. -/
def State.takesPages (s : State) : Bool := s.reg Reg.pairState == 2 && s.pair.target && decide (s.reg Reg.graftPhase ≥ 4)
/-- Does the chip send pages: the source in MIRROR and SETTLE. -/
def State.sendsPages (s : State) : Bool :=
  s.reg Reg.pairState == 2 && !s.pair.target && (s.reg Reg.graftPhase == 4 || s.reg Reg.graftPhase == 5)
/-- MIRROR: a cold copy applies at the next boundary (R256). -/
def execMirror (page w : Nat) (data : List Byte) (s : State) : Out :=
  if s.takesPages then .next (s.heard.modPair fun x => { x with mirror := x.mirror ++ [(page, w, data)] }) else .next s.heard
/-- HOT: the target writes the page before the next boundary (R256). -/
def execHot (page w : Nat) (data : List Byte) (s : State) : Out :=
  if s.takesPages then .next (s.heard.putPage (page, w, data)) else .next s.heard
/-- Digest of a page (R255). -/
def State.pageDigest (s : State) (a : Nat) : Nat := crc64 (s.mapBytes a 4096)
/-- Write tick of a page. -/
def State.pageWritten (s : State) (a : Nat) : Nat := NTable.get 0 s.pair.pageTick (a / 4096)
/-- Is a page written in each of the last 8 ticks (R256). -/
def State.pageHot (s : State) (a : Nat) : Bool :=
  decide (NTable.get 0 s.pair.pageRun (a / 4096) ≥ 8) && decide (s.tick ≤ s.pageWritten a + 1)
/-- An entry of a PDIG cell. -/
def State.pageEntry (s : State) (a : Nat) : Nat × Nat × Nat := (a, s.pageWritten a, s.pageDigest a)
/-- PDIG: pages by address, write tick and digest; one is settled when both are equal on both chips (R255, R256). The target
answers with its own digests of pages that are not, so that the source knows them (log entry 209). -/
def execPdig (l : List (Nat × Nat × Nat)) (s : State) : Out :=
  if s.reg Reg.pairState ≠ 2 then .next s.heard
  else
    let bad := (l.filter fun e => s.pageEntry e.1 != e).map (·.1)
    let left := (s.pair.unsettled.filter fun a => !(l.any fun e => e.1 == a)) ++ bad
    let s1 := (s.heard.modPair fun x => { x with
      unsettled := left
      srcTick := if x.target then l.foldl (fun t e => NTable.put 0 t e.1 e.2.1) x.srcTick else x.srcTick }).setReg
        Reg.graftPagesLeft left.length
    .next (if s.pair.target && !bad.isEmpty then s1.sendCell (.pdig (bad.map s.pageEntry)) else s1)
/-- The source's share of a tick (R255, R256): in MIRROR the next pages, in SETTLE pages that are not settled and are not hot,
and digests of what it sent; as many as the leftover bandwidth carries (log entry 209). -/
def State.sendPages (s : State) : State :=
  if !s.sendsPages then s
  else
    let n := Config.mirrorPages s.tick
    let fresh := (List.range n).filterMap fun i => pageIn s.pageAreas (s.pair.mirrored + i)
    let again := (s.pair.unsettled.filter fun a => !s.pageHot a).take n
    let pages := if s.reg Reg.graftPhase = 4 then fresh else again
    let s1 := overL pages (fun s a => s.sendCell (.mirror a (s.pageWritten a) (s.mapBytes a 4096))) s
    let seen := if s.reg Reg.graftPhase = 4 then fresh else
      again ++ (List.range n).filterMap fun i => pageIn s.pageAreas ((s.pair.mirrored + i) % max 1 s.pageCount)
    let s2 := s1.when (!seen.isEmpty) fun t => t.sendCell (.pdig (seen.map s.pageEntry))
    s2.modPair fun x => { x with mirrored := x.mirrored + n }
/-- Hot copies, captured at cycle 184,320: at most 12 pages for each link that is up (R256). -/
def State.sendHot (s : State) : State :=
  if !s.sendsPages then s
  else overL ((s.pair.unsettled.filter s.pageHot).take (12 * s.linksUp.length)) (fun s a =>
    s.sendCell (.hot a (s.pageWritten a) (s.mapBytes a 4096))) s
/-- PAIR_LEAVE: 0 names the earliest boundary (R260). -/
def execPairLeave (t : Nat) (s : State) : Out :=
  if !s.paired then .next (s.reply 0x14)
  else if t ≠ 0 ∧ t < s.tick + 2 then .next (s.reply 0x13)
  else
    let l := if t = 0 then s.tick + 2 else t
    let hand := s.reg Reg.pairRole == 0 && s.reg Reg.pairState == 3
    .next ((s.modPair fun x => { x with leaveAt := some l, handAt := if hand && x.handAt.isNone then some (l, false) else x.handAt }).reply 0)
/-- PAIR_LEAVE_APPLY: role A hands over in HANDOVER; the others enter STANDBY without a role (R260). -/
def execPairLeaveApply (s : State) : Out :=
  match s.pair.leaveAt with
  | some l =>
    let hands : Bool := s.reg Reg.pairRole == 0 && s.reg Reg.pairState == 3 && s.pair.handAt.isSome
    if s.tick < l ∨ hands then .next s
    else .next ((((s.graftEnd 0x17).toStandby 255 false)).modPair fun x => { x with leaveAt := none, waitFrom := none })
  | none => .next s
/-- PAIR_TAKE on a chip whose partner is absent (R246). -/
def execPairTake (s : State) : Out :=
  let st := s.nat Reg.pairState
  if s.paired ∧ (st = 4 ∨ (st = 2 ∧ s.pair.target)) ∧ !s.heartbeat ∧ s.reg Reg.pairPartnerAuth = 0 then
    .next (((s.graftEnd 0x17).modPair fun x => { x with takeAt := some (s.tick + 2) }).reply 0)
  else .next (s.reply 0x14)
/-- PAIR_TAKE_APPLY: role A at the first boundary at least 2 ticks after acceptance (R246). -/
def execPairTakeApply (s : State) : Out :=
  match s.pair.takeAt with
  | some t => if s.tick < t then .next s else .next ((s.modPair fun x => { x with takeAt := none }).takeA)
  | none => .next s
/-- A cold copy applies unless the source has written the page after reading it: a later write tick is known (R256). -/
def State.coldOk (s : State) (e : Nat × Nat × List Byte) : Bool := decide (NTable.get 0 s.pair.srcTick e.1 ≤ e.2.1)
/-- TICK and BEAT cells of the tick that opens: a frame on each link that is up, then a beat every 4,000 cycles (Table 8.2). -/
def State.sendFrames (s : State) : State :=
  (s.modPair fun x => s.linksUp.foldl (fun x l => x.sendOn (.tick (s.tickFrame l)) l) x).sendCell (.beat s.tick)
/-- The pair as a tick opens (R225, R245, R256, R264): mirrored pages, a graft to start, digests of the tick before, the
frames sent. -/
def State.pairBoundary (s : State) (edge proof : Nat) (failed : Bool) : State :=
  if !s.paired then s
  else
    let s1 := overL (s.pair.mirror.filter s.coldOk) State.putPage s
    let s2 := s1.modPair fun x => { x with
      mirror := [], proofs := [], proofFailed := false
      edges := ((s.tick - 1, edge) :: x.edges).take 4, proofDigests := ((s.tick - 1, proof, failed) :: x.proofDigests).take 4
      rcpts := x.rcpts.filter fun e => decide (e.2.2.2.2 + 32 > s.tick), frameSeq := x.frameSeq + 1 }
    let s3 := s2.suspectReact
    let s4 := match s3.pair.graftAt with
      | some k => if k ≤ s3.tick ∧ s3.reg Reg.pairState = 4 then s3.graftBegin else s3
      | none => s3
    s4.sendFrames.sendPages

end Sys2Proof.Machine
end

