-- ==== Sys2Proof/Machine/Plots.lean ====
section
/-!
DEFINITION. Plots (07_plots): grants, releases, quotas and trims, scrub, plot reset, handoffs, keys, plot faults.
-/
namespace Sys2Proof.Machine

/-- Registers and whole objects of a set go back to their defaults. -/
def State.clearRegs (s : State) (f : Reg → Bool) : State :=
  { s with regs := s.regs.filter fun (e : Reg × Int) => !f e.1, blobs := s.blobs.filter fun (e : Reg × List Byte) => !f e.1 }
/-- Entries of a numbered table whose number is in a range go. -/
def dropRange {α : Type} (t : NTable α) (a n : Nat) : NTable α :=
  t.filter fun (e : Nat × α) => !(decide (a ≤ e.1) && decide (e.1 < a + n))
/-- A change of what boot flash keeps: while flash writes are held it waits (R208; 18, R495). -/
def State.flashed (s : State) : State := s.when (s.reg Reg.flashHold != 0) fun s => s.bump Reg.flashPending

/-- A session closes: its claim, binding, selectors and transfers end with it (16, R452, R453, R464). -/
def State.closeSession (s : State) (n : Nat) : State :=
  { s with
    sessions := NTable.put {} s.sessions n {}
    host := if s.host.bound = some n then { s.host with bound := none } else s.host }
/-- Sessions of a set close. -/
def State.closeSessions (s : State) (f : Session → Bool) : State :=
  overL ((s.sessions.filter fun (e : Nat × Session) => f e.2).map (·.1)) State.closeSession s
/-- A ring closes (16, R471). -/
def State.closeRing (s : State) (r : Nat) : State :=
  { s with rings := NTable.mod {} s.rings r fun x => { x with
    owner := 255, status := x.status / 2 * 2, staged := [], stalled := false, run := 0, gap := false } }
/-- Rings of an owner close. -/
def State.closeRings (s : State) (owner : Nat) : State :=
  overL ((s.rings.filter fun (e : Nat × Ring) => e.2.owner == owner).map (·.1)) State.closeRing s

/-- The plot that an object belongs to, by its index or by the unit that its selector names. -/
def State.regPlot (s : State) (r : Reg) : Option Nat :=
  let i := r.idx
  let u := r.unit
  let block (a : Nat) : Bool := decide (a ≤ i) && decide (i < a + 16)
  if [0x2310, 0x2320, 0x2330, 0x2340, 0x2350, 0x2360, 0x2370, 0x4420, 0x4E10, 0x4E20, 0x4E30, 0x4E40, 0x5100, 0x5500,
      0x6000].any block then some (i % 16)
  else if 0x3000 ≤ i ∧ i < 0x3080 then s.holder 26 noUnit (i - 0x3000)
  else if 0x3100 ≤ i ∧ i < 0x3140 then s.holder 27 noUnit (i - 0x3100)
  else if 0x3800 ≤ i ∧ i < 0x3C00 then s.holder 18 noUnit (i - 0x3800)
  else if 0x3C00 ≤ i ∧ i < 0x4000 then s.holder 19 noUnit (i - 0x3C00)
  else match i with
    | 0x4001 => s.holder 11 noUnit u
    | 0x4002 => s.holder 12 noUnit u
    | 0x4410 => s.holder 2 noUnit u
    | 0x4411 => s.holder 2 noUnit u
    | 0x4412 => s.holder 7 noUnit u
    | 0x4413 => s.holder 6 noUnit u
    | 0x4801 => s.holder 14 (u / 16) (u % 16)
    | 0x4802 => s.holder 14 (u / 16) (u % 16)
    | 0x4C01 => s.holder 1 noUnit u
    | 0x4C02 => s.holder 1 noUnit u
    | 0x5200 => some (u / 512)
    | 0x5300 => s.holder 23 noUnit u
    | 0x5400 => s.holder (if u < 1024 then 21 else 22) noUnit (u % 1024)
    | 0x5401 => some (u % 128 / 8)
    | 0x2260 => s.holder 28 noUnit u
    | _ => none
/-- Objects whose unit is scrubbed after it has stopped (Table 7.4). -/
def stopsFirst (r : Reg) : Bool := decide (0x3000 ≤ r.idx) && decide (r.idx < 0x4000) && !(decide (0x3140 ≤ r.idx) && decide (r.idx < 0x3800))

/-! Scrub (R206). -/

/-- Kinds whose units stop before their scrub: streams, serial ports, power stages. -/
def stopKind (k : Nat) : Bool := k == 18 || k == 19 || k == 26 || k == 27
/-- Has a unit of such a kind stopped. -/
def State.unitStopped (s : State) (h : Holding) : Bool :=
  (List.range h.count).all fun i =>
    let n := h.first + i
    match h.kind with
    | 18 => s.reg (Reg.rxState n) == 0
    | 19 => s.reg (Reg.txState n) == 0
    | 26 => s.reg (Reg.sapState n) == 0
    | 27 => s.reg (Reg.pscState n) == 0
    | _ => true
/-- Stop of a unit of such a kind, as its chapter decides (12, R365; 13, R379; 14, R416). -/
def State.cutUnit (s : State) (h : Holding) : State :=
  overN h.count (fun s i =>
    let n := h.first + i
    match h.kind with
    | 18 => s.streamCut true n
    | 19 => s.streamCut false n
    | 26 => s.sapCut n
    | 27 => s.pscCut n
    | _ => s) s
/-- Ranges as they are scrubbed: units that stop first are scrubbed one by one, power stages in pairs. -/
def Holding.parts (h : Holding) : List Holding :=
  if h.kind = 27 then (List.range (h.count / 2)).map fun i => { h with first := h.first + 2 * i, count := 2 }
  else if stopKind h.kind then (List.range h.count).map fun i => { h with first := h.first + i, count := 1 }
  else [h]
/-- Range of a holding. -/
def Holding.range (h : Holding) : UnitRange := { kind := h.kind, unit := h.unit, first := h.first, count := h.count }
/-- Units enter SCRUBBING at this boundary (R203, R205, R207): those that must stop begin to, and the scrub's time runs
from there, for them from their stop. -/
def State.enterScrub (s : State) (h : Holding) (returns : Bool) : State :=
  overL h.parts (fun s h =>
    let s1 := if stopKind h.kind then s.cutUnit h else s
    let e := s1.scrubEnd h
    let now : Holding := { h with scrub := some (e.1, returns), used := e.2 }
    let rest := s1.holdings.flatMap fun x => if x.plot = h.plot && x.scrub.isNone then x.cut h.range else [x]
    let cores : NTable CoreSt := if h.kind = 1 then s1.cores.map fun (e : Nat × CoreSt) =>
      if h.first ≤ e.1 ∧ e.1 < h.first + h.count then (e.1, e.2.stop) else e else s1.cores
    { s1 with cores := cores, holdings := rest ++ [now] }) s
/-- What scrub clears (Table 7.4). -/
def State.scrubClear (s : State) (h : Holding) : State :=
  let inside (x : Nat) : Bool := decide (h.first ≤ x) && decide (x < h.first + h.count)
  let s1 := s.clearRegs fun r => match h.kind with
    | 1 => (r.idx == 0x4C01 || r.idx == 0x4C02) && inside r.unit && r.sub != 1
    | 2 => (r.idx == 0x4410 || r.idx == 0x4411) && inside r.unit && r.sub != 1
    | 6 => r.idx == 0x4413 && inside r.unit && r.sub != 1
    | 7 => r.idx == 0x4412 && inside r.unit && r.sub != 1
    | 11 => r.idx == 0x4001 && inside r.unit && r.sub != 1
    | 12 => r.idx == 0x4002 && inside r.unit && r.sub != 1
    | 14 => (r.idx == 0x4801 || r.idx == 0x4802) && r.unit / 16 == h.unit && inside (r.unit % 16) && decide (r.sub > 2)
    | 18 => decide (0x3800 ≤ r.idx) && decide (r.idx < 0x3C00) && inside (r.idx - 0x3800)
    | 19 => decide (0x3C00 ≤ r.idx) && decide (r.idx < 0x4000) && inside (r.idx - 0x3C00)
    | 23 => r.idx == 0x5300 && inside r.unit && r.sub != 1
    | 26 => decide (0x3000 ≤ r.idx) && decide (r.idx < 0x3080) && inside (r.idx - 0x3000)
    | 27 => decide (0x3100 ≤ r.idx) && decide (r.idx < 0x3140) && inside (r.idx - 0x3100)
    | 28 => r.idx == 0x2260 && inside r.unit && r.sub != 1
    | _ => false
  let each (f : State → Nat → State) : State := overN h.count (fun s i => f s (h.first + i)) s1
  match h.kind with
  | 1 => each fun s c => ((((s.clearMem (dmBase c) 0x40000).clearMem (sliceBase c) 0x40000).clearMem (pmBase c) 0x10000)).setCore c {}
  | 2 => { s1 with areXps := dropRange s1.areXps h.first h.count }
  | 3 => { s1 with areCoef := dropRange s1.areCoef h.first h.count }
  | 4 => { s1 with areCoef := dropRange s1.areCoef (16777216 + h.first) h.count }
  | 8 => { s1 with hist := dropRange s1.hist h.first h.count }
  | 9 => s1.clearMem (bedBase + h.first) h.count
  | 10 =>
    let s2 := s1.clearMem (h.first * 65536) (h.count * 65536)
    (s2.modPlot h.plot fun x => { x with staged := none, areImage := none, image := [], nextImage := [] }).when
      (s2.reg (Reg.lastState h.plot) == 1) fun s => s.setReg (Reg.lastState h.plot) 0
  | 11 => { s1 with buses := dropRange s1.buses h.first h.count }
  | 12 => { s1 with xps := dropRange s1.xps h.first h.count }
  | 14 => { s1 with groups := dropRange s1.groups (grpKey h.unit h.first) h.count }
  | 16 =>
    let a := h.unit * 32768 + h.first
    { s1 with fcuCoef := dropRange (dropRange s1.fcuCoef a h.count) (a + 16384) h.count }
  | 17 => { s1 with fcuState := dropRange s1.fcuState (h.unit * 16384 + h.first) h.count }
  | 18 => { s1 with rxs := dropRange s1.rxs h.first h.count }
  | 19 => { s1 with txs := dropRange s1.txs h.first h.count }
  | 20 => { s1 with sinks := dropRange s1.sinks (sigOf h.unit h.first) h.count }
  | 23 => { s1 with gens := dropRange s1.gens h.first h.count }
  | 26 => { s1 with saps := dropRange s1.saps h.first h.count }
  | 27 => each fun s n => s.modPsc n fun x => { braced := x.braced }
  | 28 => { s1 with tevs := dropRange s1.tevs h.first h.count }
  | 30 => s1.modPort h.unit fun x => { x with queue := x.queue.filter fun f => !(f.q == 7 && f.plot == some h.plot) }
  | _ => s1
/-- Is a plot's unit scrubbing: PLOT_FLAGS bit 1 follows (Table 7.10). -/
def State.refreshScrub (s : State) (p : Nat) : State :=
  let on := s.holdings.any fun h => h.plot == p && h.scrub.isSome
  let f := s.nat (Reg.plotFlags p)
  s.setReg (Reg.plotFlags p) ((f % 2 + if on then 2 else 0 : Nat) : Int)

/-- A batch has been taken: what it changed goes to boot flash (R208). -/
def State.assigned (s : State) (p : Nat) : State := (s.when (s.reg (Reg.assignStatus p) == 0) State.flashed).reply 0
/-- ASSIGN_GRANT (R202, R203). -/
def execAssignGrant (p : Fin 16) (batch : List Byte) (s : State) : Out :=
  .next ((s.takeBatch p true batch).assigned p)
/-- ASSIGN_RELEASE (R202, R203). -/
def execAssignRelease (p : Fin 16) (batch : List Byte) (s : State) : Out :=
  .next ((s.takeBatch p false batch).assigned p)
/-- RELEASE_TAKE_EFFECT: released units whose boundary has come move to SCRUBBING (R203). -/
def execReleaseTakeEffect (p : Fin 16) (s : State) : Out :=
  let due := (s.plot p).releases.filter fun e => decide (e.1 ≤ s.tick)
  .next (((overL due (fun s e => s.enterScrub e.2 false)
    (s.modPlot p fun x => { x with releases := x.releases.filter fun e => !decide (e.1 ≤ s.tick) })).clearOver p).refreshScrub p)
/-- SCRUB_COMPLETE: the units whose time is over are cleared; they are FREE, or return to the plot that held them at
bring-up (18, Table 18.3), or wait for their plot's reset to complete (R206, R207). -/
def execScrubComplete (s : State) : Out :=
  let over_ (h : Holding) : Bool := match h.scrub with
    | some (e, _) => e != 0 && decide (e ≤ s.tick) && s.unitStopped h
    | none => false
  let done := s.holdings.filter over_
  let s1 := overL done State.scrubClear s
  let hs := s1.holdings.filterMap fun h =>
    let waits := s.reg (Reg.plotState h.plot) == 3
    if over_ h then (match h.scrub with
      | some (_, true) => some { h with scrub := if waits then some (0, true) else none }
      | _ => none) else some h
  .next (overN 16 State.refreshScrub { s1 with holdings := hs })

/-! Quotas (R204, R205). -/

/-- Take the highest units off segments in falling order until `need` of a code is met: amount per unit, granularity. -/
def takeTop (a g : Nat) : Nat → List Holding → List Holding
  | _, [] => []
  | 0, _ => []
  | need + 1, h :: t =>
    let n := h.count / g
    let k := min n ((need + 1 + a * g - 1) / (a * g))
    { h with first := h.first + h.count - k * g, count := k * g } :: takeTop a g (need + 1 - k * a * g) t
/-- A range trimmed to its granules. -/
def Holding.align (h : Holding) (g : Nat) : List Holding :=
  let a := (h.first + g - 1) / g * g
  let e := (h.first + h.count) / g * g
  if a < e then [{ h with first := a, count := e - a }] else []
/-- Units above quota, highest-numbered first by FIRST within UNIT, none that the active last uses (R205). -/
def State.excess (s : State) (p c : Nat) : List Holding :=
  let used := match s.last p with | some l => l.uses | none => []
  let over_ := s.holdingOf p c - s.nat (Reg.quota p c)
  let mine := s.holdings.filter fun h => h.plot == p && h.scrub.isNone && (quotaOf h.kind).map (·.1) == some c
  match mine with
  | [] => []
  | h0 :: _ =>
    let g := (s.kindRange h0.kind h0.unit).2
    let a := match quotaOf h0.kind with | some (_, a) => a | none => 1
    let free := (used.foldl (fun hs u => hs.flatMap fun h => h.cut u) mine).flatMap fun h => h.align g
    takeTop a g over_ (sortBy (fun x y => decide (y.unit < x.unit) || (x.unit == y.unit && decide (y.first ≤ x.first))) free)
/-- QUOTA: a quota takes effect at once; below the holding it marks the plot OVER and cancels a shadow that claims more
(R204). -/
def execQuota (p : Fin 16) (code : Fin 256) (v : Nat) (s : State) : Out :=
  let c := code.val
  if c = 0 ∨ c > 16 then .next (s.reply 0x10)
  else if v ≥ 18446744073709551616 then .next (s.reply 0x13)
  else
    let s1 := (s.setReg (Reg.quota p c) v).flashed
    if s.holdingOf p c ≤ v then .next ((s1.clearOver p).reply 0)
    else
      let was := bit (s.reg (Reg.plotFlags p)) 0
      let s2 := ((s1.orReg (Reg.overMask p) (2 ^ c)).orReg (Reg.plotFlags p) 1).when (!was) fun s => s.plotFault p 5
      match (s.plot p).shadow with
      | some l =>
        if s.reg (Reg.lastState p) = 3 ∧ l.claims.any fun k => k.code == c && decide (k.amount > v) then
          .next (((s2.dropImage p 0x0D).logEvent 0x0305 1 p c l.serial).reply 0)
        else .next (s2.reply 0)
      | none => .next (s2.reply 0)
/-- TRIM: one tick after a swap to a last that fits every quota, unused units above quota are released (R205). -/
def execTrim (p : Fin 16) (s : State) : Out :=
  let fits := match s.last p with
    | some l => l.claims.all fun k => decide ((k.amount : Int) ≤ s.reg (Reg.quota p k.code))
    | none => false
  match (s.plot p).trimAt with
  | some t =>
    if s.tick < t then .next s
    else
      let s1 := s.modPlot p fun x => { x with trimAt := none }
      if !fits then .next s1
      else
        let codes := ((List.range 17).filter fun c => bit (s.reg (Reg.overMask p)) c)
        let s2 := overL codes (fun s c => overL (s.excess p c) (fun s h => s.enterScrub h false) s) s1
        .next (((s2.clearOver p).refreshScrub p).flashed)
  | none => .next s

/-! Handoffs (R209, R212). -/

/-- Withdraw the authorisation of a handoff between two plots, at the first boundary at least 2 ticks on. -/
def State.withdrawAt (s : State) (i producer consumer at_ : Nat) : State :=
  { s with auths := s.auths.map fun a =>
      if a.index = i ∧ a.producer = producer ∧ a.consumer = consumer ∧ a.withdrawAt.isNone then
        { a with withdrawAt := some at_ } else a }
/-- Is an authorisation in force and not being withdrawn. -/
def State.inForce (s : State) (i producer consumer : Nat) : Bool :=
  s.auths.any fun a => a.index == i && a.producer == producer && a.consumer == consumer && a.withdrawAt.isNone
/-- Offer and acceptance that meet form an authorisation, which acts at the first boundary at least 2 ticks on (R212). -/
def State.formAuth (s : State) (i producer consumer : Nat) : State :=
  if (s.offers.any fun w => w.index == i && w.plot == producer && w.peer == consumer) &&
      (s.accepts.any fun w => w.index == i && w.plot == consumer && w.peer == producer) && !s.inForce i producer consumer then
    { s with auths := s.auths ++ [{ index := i, producer := producer, consumer := consumer, formAt := some s.actTick
                                    withdrawAt := none, rampUp := false }] }
  else s
/-- Index and peer of a handoff word of a plot (Table 7.6); the two plots differ (R209). -/
def hoWord (p w : Nat) : Option (Nat × Nat) :=
  let peer := w / 65536 % 16
  if w / 1048576 ≠ 0 ∨ w / 8192 % 8 ≠ 0 ∨ peer = p then none else some (w % 8192, peer)
/-- HO_STATUS and the answer of a handoff command. -/
def State.hoDone (s : State) (p code : Nat) : State := (s.setReg (Reg.hoStatus p) code).reply 0
/-- HO_OFFER (R209). -/
def execHoOffer (p : Fin 16) (w : Nat) (s : State) : Out :=
  match hoWord p w with
  | none => .next (s.hoDone p 0x10)
  | some (i, q) =>
    if !s.holds p 20 15 i then .next (s.hoDone p 0x14)
    else
      let s1 := overL (s.offers.filter fun x => x.index == i && !(x.plot == p.val && x.peer == q))
        (fun s x => s.withdrawAt i x.plot x.peer s.actTick) s
      let offers := (s1.offers.filter fun (x : HoWord) => x.index != i) ++ [({ index := i, plot := p, peer := q } : HoWord)]
      let s2 := { s1 with offers := offers }
      .next (((s2.formAuth i p q).flashed).hoDone p 0)
/-- HO_ACCEPT: kept where no offer matches yet, beside acceptances that name other producers (R209, R212). -/
def execHoAccept (p : Fin 16) (w : Nat) (s : State) : Out :=
  match hoWord p w with
  | none => .next (s.hoDone p 0x10)
  | some (i, q) =>
    let accepts := (s.accepts.filter fun (x : HoWord) => !(x.index == i && x.plot == p.val && x.peer == q)) ++
      [({ index := i, plot := p, peer := q } : HoWord)]
    let s1 := { s with accepts := accepts }
    let met := s.offers.any fun x => x.index == i && x.plot == q && x.peer == p.val
    .next (((s1.formAuth i q p).flashed).hoDone p (if met then 0 else 0x16))
/-- HO_WITHDRAW (R212). -/
def execHoWithdraw (p : Fin 16) (w : Nat) (s : State) : Out :=
  match hoWord p w with
  | none => .next (s.hoDone p 0x10)
  | some (i, q) =>
    if s.inForce i p q || s.inForce i q p then
      .next ((((s.withdrawAt i p q s.actTick).withdrawAt i q p s.actTick).flashed).hoDone p 0)
    else
      let mine (x : HoWord) : Bool := x.index == i && x.plot == p.val && x.peer == q
      let had := s.offers.any mine || s.accepts.any mine
      .next ((({ s with offers := s.offers.filter fun x => !mine x, accepts := s.accepts.filter fun x => !mine x }).flashed).hoDone
        p (if had then 0 else 0x16))
/-- HANDOFF_FORM: from its boundary the authorisation delivers; its blocks of this tick are there (R212). -/
def execHandoffForm (h : Fin 8192) (s : State) : Out :=
  .next { s with auths := s.auths.map fun a =>
    let now : Bool := match a.formAt with | some t => decide (t ≤ s.tick) | none => false
    if a.index == h.val && now then { a with formAt := none } else a }
/-- HANDOFF_WITHDRAW_APPLY: at W the authorisation and the words that formed it go; both plots see HANDOFF (R212). -/
def execHandoffWithdrawApply (h : Fin 8192) (s : State) : Out :=
  let over_ (a : Auth) : Bool := a.index == h.val && (match a.withdrawAt with | some t => decide (t ≤ s.tick) | none => false)
  let gone := s.auths.filter over_
  let s1 := { s with auths := s.auths.filter fun a => !over_ a }
  .next (overL gone (fun s a =>
    let again := s.auths.any fun b => b.index == a.index && b.producer == a.producer && b.consumer == a.consumer
    let s2 := if again then s else { s with
      offers := s.offers.filter fun x => !(x.index == a.index && x.plot == a.producer && x.peer == a.consumer)
      accepts := s.accepts.filter fun x => !(x.index == a.index && x.plot == a.consumer && x.peer == a.producer) }
    (s2.plotFault a.producer 6).plotFault a.consumer 6) s1)

/-! Plot reset (R207). -/

/-- PLOT_RESET: at the first boundary at least 2 ticks on. -/
def execPlotReset (p : Fin 16) (keys : Bool) (s : State) : Out :=
  .next ((s.modPlot p fun x => { x with resets := x.resets ++ [(s.actTick, keys)] }).reply 0)
/-- PLOT_RESET_AT: at a named tick (16, R455). -/
def execPlotResetAt (p : Fin 16) (keys : Bool) (t : Nat) (lateOk : Bool) (s : State) : Out :=
  match s.atTick 16 t lateOk with
  | .error c => .next (s.reply c)
  | .ok (at_, st) => .next (((s.modPlot p fun x => { x with resets := x.resets ++ [(at_, keys)] }).noteAt at_ 16
      (Reg.plotResetAt p) [if keys then 1 else 0]).reply st)
/-- Objects of a plot that its reset keeps: quotas, keys, LAST_ERROR and its detail, and what step 4 itself leaves. -/
def keptInReset (r : Reg) : Bool :=
  let i := r.idx
  let block (a : Nat) : Bool := decide (a ≤ i) && decide (i < a + 16)
  block 0x2320 || block 0x2360 || (block 0x2310 && (r.sub == 1 || r.sub == 2)) ||
    (block 0x4E10 && (r.sub == 5 || r.sub == 6)) || stopsFirst r
/-- Sinks that a plot owns. -/
def State.sinksOf (s : State) (p : Nat) (t : NTable (List Sample)) : List SigId :=
  (t.map (·.1)).filter fun x => s.sigOwner x == some p
/-- The reset of a plot at this boundary, steps 1 to 4. -/
def State.resetPlot (s : State) (p : Nat) (keys : Bool) : State :=
  let s0 := s.when (s.reg (Reg.lastState p) != 0) fun s => s.dropImage p 0x23
  let gone := s0.sinksOf p s0.staged
  let goneOut := s0.sinksOf p s0.out
  let mine (r : Reg) : Bool := s0.regPlot r == some p
  let s1 := overL s0.auths (fun s a => s.when (a.producer == p || a.consumer == p) fun s =>
    s.withdrawAt a.index a.producer a.consumer s.actTick) s0
  let s2 := { s1 with
    offers := s1.offers.filter fun w => w.plot != p || s1.auths.any fun a => a.index == w.index && a.producer == p && a.consumer == w.peer
    accepts := s1.accepts.filter fun w => w.plot != p || s1.auths.any fun a => a.index == w.index && a.consumer == p && a.producer == w.peer }
  let freed := (s2.plot p).releases
  let s3 := overL freed (fun s e => s.enterScrub e.2 false) s2
  let s4 := overL (s3.holdings.filter fun h => h.plot == p && h.scrub.isNone) (fun s h => s.enterScrub h true) s3
  let s5 := s4.clearRegs fun r => mine r && !keptInReset r
  let s6 := { s5 with
    tasks := s5.tasks.filter fun (e : Nat × TaskSt) => decide (e.1 / 65536 ≠ p)
    wins := s5.wins.filter fun (e : Nat × WinSt) => decide (e.1 / 1024 ≠ p)
    areSets := s5.areSets.filter fun (e : Nat × SetSt) => decide (e.1 / 8 ≠ p)
    trackers := s5.trackers.filter fun (e : Nat × TrackerSt) => decide (e.1 % 128 / 8 ≠ p)
    bridges := s5.bridges.filter fun (e : Nat × List (Nat × Int)) =>
      s0.sigOwner (sigOf (if e.1 < 1024 then 12 else 13) (e.1 % 1024)) != some p
    sils := s5.sils.filter fun (e : Nat × SilSt) => decide (e.1 / 512 ≠ p)
    sinks := s5.sinks.filter fun (e : Nat × SinkSt) => s0.sigOwner e.1 != some p
    staged := s5.staged.filter fun (e : Nat × List Sample) => !gone.contains e.1
    out := s5.out.filter fun (e : Nat × List Sample) => !goneOut.contains e.1
    due := s5.due.filter fun d => !mine d.reg
    timed := s5.timed.filter fun d => d.owner != p }
  let s7 := (s6.closeRings p).modPlot p fun x => {
    resets := x.resets.filter fun e => decide (s.tick < e.1)
    eraseKeys := x.eraseKeys || keys
    ownerKey := x.ownerKey
    observerKey := x.observerKey }
  (s7.setRegs [(Reg.plotState p, 3), (Reg.plotResetTick p, s.tick), (Reg.plotFault p, 0)]).refreshScrub p
/-- PLOT_RESET_APPLY: at its boundary (R207). -/
def execPlotResetApply (p : Fin 16) (s : State) : Out :=
  let now := (s.plot p).resets.filter fun e => decide (e.1 ≤ s.tick)
  if now = [] then .next s else .next (s.resetPlot p (now.any (·.2)))
/-- Both keys of a plot are erased and its sessions close (R207, step 5). -/
def State.eraseKeys (s : State) (p : Nat) : State :=
  (((s.modPlot p fun x => { x with ownerKey := [], observerKey := [], eraseKeys := false }).setRegs
    [(Reg.plotState p, 0), (Reg.keySerial p, 0)]).closeSessions (ofPlot p)).flashed
/-- PLOT_RESET_COMPLETE: every unit of the plot is scrubbed (R207, step 5). -/
def execPlotResetComplete (p : Fin 16) (s : State) : Out :=
  let mine := s.holdings.filter fun h => h.plot == p.val && h.scrub.isSome
  let waits := mine.any fun h => match h.scrub with | some (e, r) => r && e != 0 | none => false
  if s.reg (Reg.plotState p) ≠ 3 ∨ waits then .next s
  else
    let s1 := { s with holdings := s.holdings.map fun h =>
      if h.plot = p.val && h.scrub == some (0, true) then { h with scrub := none } else h }
    let s2 := overL ((List.range 16).map (· + 1)) (fun s c => overL (s.excess p c) (fun s x => { s with
      holdings := s.holdings.flatMap fun y => if y.plot = p.val && y.scrub.isNone then y.cut x.range else [y] }) s) s1
    let s3 := (s2.setReg (Reg.overMask p) 0).setReg (Reg.plotFlags p) (2 * (s2.nat (Reg.plotFlags p) / 2) : Nat)
    let s4 := if (s.plot p).eraseKeys || (s.plot p).ownerKey = [] then s3.eraseKeys p else s3.setReg (Reg.plotState p) 1
    .next ((s4.refreshScrub p).flashed)

/-! Keys and faults (R213 to R216). -/

/-- Is a session one of a role of a plot. -/
def ofRole (role p : Nat) (ss : Session) : Bool := ss.role == role && ss.plot == p
/-- The role of a session slot, and its plot. -/
def State.who (s : State) (n : Option Nat) : Option (Nat × Nat) :=
  n.bind fun n => let ss := NTable.get {} s.sessions n; if ss.open_ then some (ss.role, ss.plot) else none
/-- A key write counts, and closes the sessions that hold the replaced key (R214). -/
def State.keyWritten (s : State) (role p : Nat) : State :=
  (((s.bump (Reg.keySerial p)).closeSessions (ofRole role p)).flashed).reply 0
/-- A new owner key; the first claims the plot (R214). -/
def State.writeOwnerKey (s : State) (p : Nat) (key : List Byte) : State :=
  if key.length ≠ 32 then s.reply 0x12
  else
    let free := s.reg (Reg.plotState p) == 0
    ((s.modPlot p fun x => { x with ownerKey := key }).when free fun s => s.setReg (Reg.plotState p) 1).keyWritten 1 p
/-- A new observer key. -/
def State.writeObserverKey (s : State) (p : Nat) (key : List Byte) : State :=
  if key.length ≠ 32 then s.reply 0x12 else (s.modPlot p fun x => { x with observerKey := key }).keyWritten 2 p
/-- OWNER_KEY: by the gardener role while the plot is UNCLAIMED, which moves it to IDLE, or by its owner (R214). The
writer is a session, or none for the gardener role itself. -/
def execOwnerKey (p : Fin 16) (n : Option (Fin 64)) (key : List Byte) (s : State) : Out :=
  let free := s.reg (Reg.plotState p) == 0
  let may := match s.who (n.map (·.val)) with
    | some (role, q) => (role == 0 && free) || (role == 1 && q == p.val)
    | none => n.isNone && free
  .next (if !may then s.reply 0x11 else s.writeOwnerKey p key)
/-- OBSERVER_KEY: by the plot owner; all zeros disables observer logins (R214). -/
def execObserverKey (p : Fin 16) (n : Option (Fin 64)) (key : List Byte) (s : State) : Out :=
  let may := match s.who (n.map (·.val)) with | some (role, q) => role == 1 && q == p.val | none => false
  .next (if !may then s.reply 0x11 else s.writeObserverKey p key)
/-- PLOT_FAULT_CLEAR: ones clear their bits (R216). -/
def execPlotFaultClear (p : Fin 16) (m : Fin 4294967296) (s : State) : Out :=
  .next ((s.setReg (Reg.plotFault p) (clearMask 32 (s.reg (Reg.plotFault p)) m.val)).reply 0)

end Sys2Proof.Machine
end

