-- ==== Sys2Proof/Machine/Reset.lean ====
section
/-!
DEFINITION. Reset, bring-up, boot flash, supply and brace (18_reset_power_bringup), and the loss of a clock domain (09,
R269).
-/
namespace Sys2Proof.Machine

/-- Change the reset state. -/
def State.modRst (s : State) (f : RstSt → RstSt) : State := { s with rst := f s.rst }
/-- Change the brace state. -/
def State.modBrace (s : State) (f : BraceSt → BraceSt) : State := { s with brace := f s.brace }
/-- The source of a reset has appeared; it may hold the reset (R484, R486). -/
def State.ask (s : State) (kind src : Nat) : State := s.modRst fun x => { x with asks := x.asks ++ [(kind, src)] }
/-- A source holds the reset until it clears. -/
def State.holdReset (s : State) (src : Nat) : State :=
  (s.modRst fun x => { x with held := if x.held.contains src then x.held else x.held ++ [src] }).refreshFaults
/-- A held source clears. -/
def State.releaseReset (s : State) (src : Nat) : State :=
  (s.modRst fun x => { x with held := x.held.filter fun y => y != src }).refreshFaults

/-! Boot flash (07, R208; R490, R493, R495). -/

/-- Is an object kept in boot flash: quotas, key serials (07, R208), interfaces, ADDR_SOURCE (16), LIN_MODE (08), the
gardener key (16, R451). -/
def flashObj (r : Reg) : Bool :=
  (decide (0x2320 ≤ r.idx) && decide (r.idx < 0x2330) && decide (r.sub ≤ 16)) ||
    (decide (0x2360 ≤ r.idx) && decide (r.idx < 0x2370) && r.sub == 3) || (r.idx == 0x1100 && r.sub == 2) ||
    (r.idx == 0x1300 && r.sub == 2) || (r.idx == 0x2404 && r.sub == 2) || (r.idx == 0x1200 && r.sub == 8)
/-- Boot flash where no write waits. -/
def State.flashImage (s : State) : FlashImg :=
  let keeps (h : Holding) : Bool := match h.scrub with | some (_, r) => r | none => true
  { regs := s.regs.filter fun (e : Reg × Int) => flashObj e.1
    blobs := s.blobs.filter fun (e : Reg × List Byte) => flashObj e.1
    holdings := (s.holdings.filter keeps).map fun h => { h with scrub := none }
    offers := s.offers
    accepts := s.accepts
    auths := (s.auths.filter fun a => a.withdrawAt.isNone).map fun a => { a with formAt := none, now := false, rampUp := false }
    keys := (s.plots.filter fun (e : Nat × PlotSt) => e.2.ownerKey != [] || e.2.observerKey != []).map
      fun (e : Nat × PlotSt) => (e.1, (e.2.ownerKey, e.2.observerKey))
    stored := s.addr.stored
    opt0 := s.rst.opt0, opt1 := s.rst.opt1, fw0 := s.rst.fw0, fw1 := s.rst.fw1 }
/-- Boot flash as it stands. -/
def State.flashNow (s : State) : FlashImg := match s.rst.saved with | some i => i | none => s.flashImage
/-- Hold flash writes, bit 0 by caution, bit 1 by brace: what flash holds is fixed from here on (R495). -/
def State.holdFlash (s : State) (b : Nat) : State :=
  (s.modRst fun x => { x with saved := some s.flashNow }).orReg Reg.flashHold (2 ^ b)
/-- Objects kept in flash are restored at bring-up; DRAM that is still scrubbed stays SCRUBBING until it is (Table 18.3). -/
def State.restoreFlash (s : State) : State :=
  let i := s.flashNow
  let scrub : Nat := s.holdings.foldl (fun m h => match h.scrub with | some (e, _) => max m e | none => m) 0
  let busy (h : Holding) : Bool := h.kind == 10 && decide (s.tick < scrub)
  let mine := i.holdings.map fun h => if busy h then { h with scrub := some (scrub, true) } else h
  let free := mine.foldl (fun (l : List Holding) (m : Holding) => l.flatMap fun h => h.cut m.range) s.holdings
  let s1 := { s with
    regs := i.regs.foldl (fun t (e : Reg × Int) => Table.put Reg.ord regDefault t e.1 e.2) s.regs
    blobs := i.blobs.foldl (fun t (e : Reg × List Byte) => Table.put Reg.ord (fun _ => []) t e.1 e.2) s.blobs
    holdings := mine ++ (if s.tick < scrub then free else [])
    offers := i.offers
    accepts := i.accepts
    auths := i.auths
    plots := i.keys.foldl (fun t (e : Nat × (List Byte × List Byte)) =>
      NTable.mod {} t e.1 fun x => { x with ownerKey := e.2.1, observerKey := e.2.2 }) s.plots
    addr := { s.addr with stored := i.stored } }
  let s2 := overL i.keys (fun s e => s.when (e.2.1 != []) fun s => s.setReg (Reg.plotState e.1) 1) s1
  let s3 := s2.modRst fun x => { x with opt0 := i.opt0, opt1 := i.opt1, fw0 := i.fw0, fw1 := i.fw1
                                        saved := if s.reg Reg.flashHold = 0 then none else some i }
  overN 16 (fun s p =>
    let m := sumN ((s.overCodes p).map fun c => 2 ^ c)
    ((s.setReg (Reg.overMask p) m).orReg (Reg.plotFlags p) (if m = 0 then 0 else 1)).refreshScrub p) s3
/-- Is an option block copy valid (R493). -/
def optValid (b : List Byte) : Bool :=
  b.length == 64 && slice b 0 4 == ascii "BXOP" && leAt b 4 2 == 1 && leAt b 6 2 == 64 && zeros (slice b 0x20 28) &&
    leAt b 0x3C 4 == crc32 (b.take 0x3C)
/-- The copy selected, and the option set: of two valid copies the one with the greater SERIAL, copy 0 where they are
equal; the defaults with MAGIC 0 where none is valid (R493). -/
def optSelect (a b : List Byte) : Nat × List Byte × Bool :=
  if optValid a ∧ (!optValid b ∨ leAt b 8 4 ≤ leAt a 8 4) then (0, a, false)
  else if optValid b then (1, b, false)
  else (0, [0, 0, 0, 0] ++ optShipped.drop 4, true)
/-- MiB mapped per controller (15, R437). -/
def State.dramMib (s : State) : Nat := max (s.dramBytes 0) (s.dramBytes 1) / 1048576
/-- OPT_BLOCK: written to the copy that is not selected, with the selected SERIAL + 1 and the CRC of the whole (R493). -/
def execOptBlock (b : List Byte) (s : State) : Out :=
  if b.length ≠ 64 then .next (s.reply 0x12)
  else
    let body := b.take 8 ++ leBytes 4 ((leAt s.rst.opt 8 4 + 1) % 4294967296) ++ slice b 12 0x30
    let x := body ++ leBytes 4 (crc32 body)
    .next (((s.modRst fun r => if r.optCopy = 0 then { r with opt1 := x } else { r with opt0 := x }).flashed).reply 0)

/-! Firmware slots (R490). -/

/-- Write a slot. -/
def RstSt.putSlot (r : RstSt) (k : Nat) (f : FwSlot) : RstSt := if k = 0 then { r with fw0 := f } else { r with fw1 := f }
/-- The slot that is not running. -/
def State.spareSlot (s : State) : Nat := 1 - min 1 (s.nat Reg.fwActive)
/-- An image has been written to the inactive slot and checked. -/
def State.fwWritten (s : State) (ok : Bool) (build : Nat) : State :=
  (s.modRst fun r => r.putSlot s.spareSlot { valid := ok, build := build }).setReg Reg.fwState (if ok then 2 else 0x10)
/-- FW_STAGE: the image's length, what its check finds, and its build (R490); while flash writes are held it waits
(R495, R496). -/
def execFwStage (len : Nat) (ok : Bool) (build : Nat) (s : State) : Out :=
  if len > 16777216 then .next (s.reply 0x13)
  else if s.reg Reg.flashHold = 0 then .next ((s.fwWritten ok build).reply 0)
  else .next ((((s.modRst fun r => { r with stagedFw := some (ok, build) }).setReg Reg.fwState 1).flashed).reply 0)
/-- FW_SWITCH: a gardener reset that boots the inactive slot, where that holds a valid image (R490). -/
def execFwSwitch (s : State) : Out :=
  if (s.rst.slot s.spareSlot).valid then
    .next (((s.modRst fun r => { r with cmds := r.cmds ++ [(s.tick + 2, 5, 0)] }).setReg Reg.fwState 3).reply 0)
  else .next ((s.setReg Reg.fwState 0x11).reply 0)

/-! Sources (R484, R485). -/

/-- POWER_ON_RESET: VKEEP is first applied, or falls below its fail threshold. -/
def execPowerOnReset (s : State) : Out := .next (s.ask 1 0x01)
/-- RESET_PIN: RESET_N is held low by another device; the pin is not read while the engine drives it (R486). -/
def execResetPin (s : State) : Out :=
  if s.rst.phase = 1 ∧ (s.rst.kind = 1 ∨ s.rst.kind = 2) then .next s
  else .next (((s.bump Reg.rstPinEvents).ask 2 0x03).holdReset 3)
/-- The junction temperature is read (Table 18.8). -/
def State.readTj (s : State) (t : Int) : State :=
  (s.setReg Reg.tjNow t).when (decide (t > s.reg Reg.tjMax)) fun s => s.setReg Reg.tjMax t
/-- TJ_OVERTEMP: above 125 C, held until below 115 C. -/
def execTjOvertemp (tenths : Int) (s : State) : Out :=
  let s1 := s.readTj tenths
  if tenths > 1250 then .next ((s1.ask 2 0x06).holdReset 6) else .next s1
/-- A commanded reset waits for the first boundary at least 2 ticks on (R485). -/
def State.resetCmd (s : State) (kind port : Nat) : State :=
  (s.modRst fun r => { r with cmds := r.cmds ++ [(s.tick + 2, kind, port)] }).reply 0
/-- RST_CMD, kind cold. -/
def execRstCmdCold (s : State) : Out := .next (s.resetCmd 1 0)
/-- RST_CMD, kind warm. -/
def execRstCmdWarm (s : State) : Out := .next (s.resetCmd 2 0)
/-- RST_CMD, kind gardener. -/
def execRstCmdGardener (s : State) : Out := .next (s.resetCmd 3 0)
/-- RST_CMD, kind port. -/
def execRstCmdPort (port : Fin 28) (s : State) : Out := .next (s.resetCmd 4 port)
/-- RESET_CMD_APPLY: commanded resets come to their boundary (R485). -/
def execResetCmdApply (s : State) : Out :=
  let due := s.rst.cmds.filter fun (e : Nat × Nat × Nat) => decide (e.1 ≤ s.tick)
  .next (overL due (fun s (e : Nat × Nat × Nat) =>
    match e.2.1 with
    | 1 => s.ask 2 0x07
    | 2 => s.ask 3 0x08
    | 4 => s.ask 5 e.2.2
    | 5 => (s.modRst fun r => { r with other := true }).ask 4 0x09
    | _ => s.ask 4 0x09) (s.modRst fun r => { r with cmds := r.cmds.filter fun (e : Nat × Nat × Nat) => !decide (e.1 ≤ s.tick) }))
/-- WATCHDOG_EXPIRE: no heartbeat of the firmware for 1 s; the third such reset within 600 s boots the other slot (R484,
R490). -/
def execWatchdogExpire (now : Nat) (s : State) : Out :=
  if s.rst.kind ≠ 0 then .next s
  else
    let dogs := now :: s.rst.dogs.filter fun t => decide (now < t + 600000000)
    let fall := decide (dogs.length ≥ 3)
    .next ((s.modRst fun r => { r with dogs := if fall then [] else dogs, other := r.other || fall
                                       fellBack := fall }).ask 4 0x0A)

/-! Entry (R487, R488). -/

/-- Reset counters, one for each kind and for ports (Table 18.8). -/
def rstCounter (k : Nat) : Reg := { Reg.rstCount with unit := k }
/-- Plot resets that bring-up applies: accepted and not yet applied, or RESETTING (R487). -/
def State.takenResets (s : State) : List (Nat × Bool) :=
  s.rst.plotResets ++ (List.range 16).flatMap fun p =>
    let x := s.plot p
    let busy := s.reg (Reg.plotState p) == 3
    if x.resets != [] || busy then [(p, x.eraseKeys || x.resets.any (·.2))] else []
/-- Registers that a power-on or cold reset keeps: those of the keep domain, supply and brace, straps, pin levels, the
junction temperature. -/
def keptCold (r : Reg) : Bool :=
  ([0x2000, 0x2010, 0x2020, 0x2050, 0x2500, 0x2501, 0x2502].contains r.idx && r != Reg.rstLastTick) || (r.idx == 0x2040 && r.sub == 2) ||
    (r.idx == 0x2400 && (r.sub == 1 || r.sub == 2 || r.sub == 6)) || r == Reg.tickFamily || (r.idx == 0x1300 && r.sub == 1) ||
    r == Reg.clkState 1
/-- A power-on reset clears the keep domain's logic: brace, counters, fault codes; stored log content stays (R484, R502). -/
def clearedAtPowerOn (r : Reg) : Bool :=
  (r.idx == 0x2000 && (r.sub == 2 || r.sub == 5)) || (r.idx == 0x2010 && r.sub != 2) ||
    (r.idx == 0x2020 && r.sub != 4) || r.idx == 0x2502 || (r.idx == 0x2500 && r.sub == 5) || (r.idx == 0x2050 && r.sub == 2)
/-- A power-on or cold reset: the chip's state is the one of reset but for the keep domain, boot flash and the inputs
(Table 18.2). -/
def State.coldReset (s : State) (kind src : Nat) : State :=
  let power := kind == 1
  let z : State := {}
  let held := fun (r : Reg) => keptCold r && !(power && clearedAtPowerOn r)
  let rst : RstSt := {
    kind := kind, source := src, phase := if power then 0 else 1, asks := [], held := s.rst.held
    supplyEnd := s.rst.supplyEnd, dogs := if power then [] else s.rst.dogs, saved := some s.flashNow
    opt0 := s.rst.opt0, opt1 := s.rst.opt1, opt := s.rst.opt, optCopy := s.rst.optCopy, optDefault := s.rst.optDefault
    fw0 := s.rst.fw0, fw1 := s.rst.fw1, plotResets := s.takenResets, strapAddr := s.rst.strapAddr }
  let addr : AddrSt := { chainIn := s.addr.chainIn, stored := s.addr.stored }
  let log : LogSt := if power then { s.log with queue := [], keep := [], rates := [], ask := false, frameEnd := 0 } else s.log
  let s1 := { z with
    pending := s.pending, free := s.free, log := log, rst := rst, addr := addr
    brace := if power then {} else s.brace
    regs := s.regs.filter fun (e : Reg × Int) => held e.1
    blobs := s.blobs.filter fun (e : Reg × List Byte) => held e.1 }
  let paired := s.reg Reg.pairMode == 1
  let s2 := s1.setRegs [(Reg.pairState, if paired then 4 else 0), (Reg.pairRole, 255), (Reg.pairAuth, 0), (Reg.fwActive, s.reg Reg.fwActive)]
  let s3 := s2.when power fun s => (s.setReg Reg.pwrInputs (s.nat Reg.pwrInputs % 4 : Nat)).setReg Reg.tjMax (s.reg Reg.tjNow)
  s3.refreshFaults
/-- Counters that a warm reset zeroes: those of cores, FCU, ARE, mix and memories; their states go with the units. -/
def warmCounter (r : Reg) : Bool :=
  (r.idx == 0x4C01 && r.sub != 1) || (r.idx == 0x4C02 && r.sub == 4) || (r.idx == 0x4801 && decide (r.sub ≥ 3) && r.sub != 9) ||
    (r.idx == 0x4802 && (r.sub == 6 || r.sub == 7)) || (r.idx == 0x4400 && r.sub == 3) || (r.idx == 0x4401 && r.sub == 3) ||
    (r.idx == 0x4410 && r.sub != 1) || (r.idx == 0x4412 && r.sub == 2) || (r.idx == 0x4413 && r.sub == 3) ||
    (r.idx == 0x4001 && r.sub != 1) || (r.idx == 0x4002 && r.sub != 1) || (r.idx == 0x2061 && r.sub != 1) ||
    (r.idx == 0x5401 && r.sub != 1) || (decide (0x4420 ≤ r.idx) && decide (r.idx < 0x4430) && (r.sub == 3 || r.sub == 4))
/-- Streams, serial ports and power stages that a warm reset restarts at their plot's swap: kind and unit (R489, step 4). -/
def State.liveUnits (s : State) : List (Nat × Nat) :=
  ((List.range 1024).filter fun t => s.reg (Reg.rxState t) != 0).map (fun t => (0, t)) ++
    ((List.range 1024).filter fun t => s.reg (Reg.txState t) != 0).map (fun t => (1, t)) ++
    ((List.range 128).filter fun n => [1, 2].contains (s.nat (Reg.sapState n))).map (fun n => (2, n)) ++
    ((List.range 64).filter fun n => [1, 2, 3, 4, 5].contains (s.nat (Reg.pscState n))).map fun n => (3, n)
/-- A warm reset: the data plane stops and is zeroed; DRAM, clocks, bridge and configuration stay (Table 18.2). -/
def State.warmReset (s : State) : State :=
  let pendGroups := (s.groups.filter fun (e : Nat × GrpSt) => e.2.swapAt.isSome || e.2.switchAt.isSome).length
  let pendSets := (s.areSets.filter fun (e : Nat × SetSt) => e.2.state == 1).length
  let lost := s.timed.length + pendGroups + pendSets
  let taken := s.takenResets
  let live := s.liveUnits
  let s1 := (s.graftEnd 0x16).when (lost != 0) fun s => s.logEvent 0x0108 1 16 lost 0
  let s2 := overN 16 (fun s p => (s.when (s.reg (Reg.lastState p) != 0) fun s => s.dropImage p 0x23).modPlot p fun x => {
    ownerKey := x.ownerKey, observerKey := x.observerKey, eraseKeys := x.eraseKeys, releases := x.releases, waiting := []
    image := x.image, areImage := x.areImage, meters := x.meters, meterFrom := x.meterFrom, meterTo := x.meterTo
    meterP := x.meterP }) s1
  let s3 := overL live (fun s (e : Nat × Nat) => match e.1 with
    | 0 => s.setRegs [(Reg.rxState e.2, 0), (Reg.rxStatus e.2, 0)]
    | 1 => s.setRegs [(Reg.txState e.2, 0), (Reg.txStatus e.2, 0)]
    | 2 => s.setReg (Reg.sapState e.2) 0
    | _ => s.setReg (Reg.pscState e.2) 0) s2
  let s4 := overN 128 (fun s n => s.setReg (Reg.sapState n) 0) s3
  let s5 := overN 16 (fun s p => s.when (s.reg (Reg.plotState p) == 2) fun s => s.setReg (Reg.plotState p) 1) s4
  let s6 := (s5.dropNoted s.timed).clearRegs warmCounter
  let inPm (a : Nat) : Bool := decide (0x4100000000 ≤ a) && decide (a % 0x1000000 ≥ 0x400000)
  let groups : NTable GrpSt := s.groups.map fun (e : Nat × GrpSt) =>
    (e.1, ({ bank := if e.2.fading then 1 - e.2.bank else e.2.bank } : GrpSt))
  let xps : NTable AreXpSt := s.areXps.map fun (e : Nat × AreXpSt) =>
    (e.1, ({ bank := if e.2.fadePos.isSome then 1 - e.2.bank else e.2.bank, exp0 := e.2.exp0, exp1 := e.2.exp1 } : AreXpSt))
  let brace : NTable PscSt := s.pscs.map fun (e : Nat × PscSt) =>
    (e.1, if s.reg (Reg.pscState e.1) = 6 then e.2 else ({ braced := e.2.braced, coefs := e.2.coefs, idle := e.2.idle } : PscSt))
  let gens : NTable GenSt := s.gens.map fun (e : Nat × GenSt) => (e.1, { e.2 with phase := 0, lfsr := 1 })
  let mem : NTable Byte := s6.mem.filter fun (e : Nat × Byte) => decide (e.1 < 0x400000000) || inPm e.1
  { s6 with
    cores := [], tasks := [], wins := [], src := [], prev := [], ingest := [], staged := [], out := [], ranTo := 0
    sinks := [], buses := [], xps := [], trellis := [], trackers := [], bridges := [], freeIn := [], sils := [], repairs := [], areSets := [], hist := [], fcuState := []
    txHist := [], rxs := [], txs := [], saps := [], timed := [], mem := mem, groups := groups, areXps := xps
    pscs := brace, gens := gens
    sessions := [], gard := {}
    host := { s6.host with bound := none }
    rst := { s6.rst with plotResets := taken, units := live } }
/-- A chip-wide reset of kind power-on, cold or warm takes the pair role (R484; 08, R244); its welt transmitters idle. -/
def State.leavePair (s : State) : State :=
  if !s.paired then s
  else
    let s1 := s.setRegs [(Reg.pairRole, 255), (Reg.pairAuth, 0), (Reg.pairState, 4), (Reg.weltState 0, 0), (Reg.weltState 1, 0),
      (Reg.graftPhase, 0)]
    { s1 with pair := { seq := s.pair.seq, frameSeq := s.pair.frameSeq } }
/-- A gardener reset: sessions close, staged and checking images are cancelled, the servo and a graft start over (Table
18.2). -/
def State.gardenerReset (s : State) : State :=
  let s1 := overN 16 (fun s p => s.when (s.reg (Reg.lastState p) == 1 || s.reg (Reg.lastState p) == 2) fun s =>
    (s.dropImage p 0x23).assignWaiting p) s
  ({ s1 with sessions := [], gard := {}, host := { s1.host with bound := none } }.restartPtp).graftEnd 0x16
/-- The slot that boots: the other one where that is asked for; FW_STATE tells a fallback (R490). -/
def State.bootOther (s : State) (cause : Nat) (fell : Bool) : State :=
  let k := s.spareSlot
  let s1 := (s.setReg Reg.fwActive k).modRst fun r => { r with other := false, fellBack := false, stagedFw := none }
  if fell then (s1.setReg Reg.fwState 4).logEvent 0x0107 2 16 k cause else s1.setReg Reg.fwState 0
/-- Enter a reset. -/
def State.enterReset (s : State) (kind src : Nat) : State :=
  let s1 := s.setReg Reg.rstCause (kind * 256 + src : Nat)
  let s2 := s1.when (kind != 1) fun s => s.logKeep 0x0101 (if kind = 2 then 3 else 2) (kind * 256 + src) 0
  if kind ≤ 2 then s2.coldReset kind src
  else if kind = 3 then
    (s2.warmReset.leavePair).modRst fun r => { r with kind := 3, source := src, phase := 1 }
  else
    let s3 := s2.gardenerReset.when s.rst.other fun s => s.bootOther 1 s.rst.fellBack
    s3.modRst fun r => { r with kind := 4, source := src, phase := 1 }
/-- A port enters reset: it is absorbed where it is in one already or a chip-wide reset runs (R485, R487, Table 18.2). -/
def State.portReset (s : State) (port : Nat) : State :=
  let s1 := s.bump (rstCounter 3)
  if bit (s.rst.ports : Int) port ∨ (s.rst.kind ≠ 0 ∧ s.rst.kind ≠ 4) then s1
  else
    let s2 := s1.modRst fun r => { r with ports := r.ports + 2 ^ port }
    if port < 24 then
      let s3 := s2.when (s2.reg (Reg.netLink port) == 1) fun s => s.linkDown port
      let s4 := s3.clearRegs fun r => r.idx == 0x3200 + port && (r.sub == 19 || (decide (r.sub ≥ 32) && r.sub != 45))
      (s4.modPort port fun x => { x with mode := none, changing := false }).setReg (Reg.netLink port) 2
    else if port < 26 then
      ((s2.clearRegs fun r => r.idx == 0x3300 && (r.sub == 5 || r.sub == 6))).setReg Reg.t1sStatus
        (clearBit (s2.reg Reg.t1sStatus) (port - 24))
    else
      (s2.weltDown (port - 26)).clearRegs fun r => r.idx == 0x2401 && r.unit == port - 26 && (r.sub == 4 || r.sub == 5)
/-- RESET_ENTER: of the sources that have appeared the greatest reach acts: it begins a reset, supersedes the one in
progress, takes it back to SUPPLY or STRETCH, or is absorbed; each is counted (R487, R491, R492). -/
def execResetEnter (s : State) : Out :=
  let ports := s.rst.asks.filter fun (e : Nat × Nat) => e.1 == 5
  let chip := s.rst.asks.filter fun (e : Nat × Nat) => e.1 != 5
  let s0 := s.modRst fun r => { r with asks := [] }
  let counted := overL chip (fun s (e : Nat × Nat) => s.when (decide (2 ≤ e.1)) fun s => s.bump (rstCounter (e.1 - 2))) s0
  let s1 := match chip with
    | [] => counted
    | a :: t =>
      let best := t.foldl (fun (b x : Nat × Nat) => if x.1 < b.1 then x else b) a
      let cur := s.rst.kind
      if cur = 0 ∨ best.1 < cur then counted.enterReset best.1 best.2
      else
        let ph := s.rst.phase
        let back := if best.1 = 1 then 0 else if best.1 = 2 then min ph 1 else if ph = 2 then 1 else ph
        counted.modRst fun r => { r with phase := back }
  .next (overL ports (fun s (e : Nat × Nat) => s.portReset e.2) s1)

/-! Bring-up (R486, R489, R491). -/

/-- RESET_SOURCE_CLEAR: a held source clears (R486); XREF is present again. -/
def execResetSourceClear (src : Fin 13) (s : State) : Out :=
  let s1 := s.when (src.val == 4) fun s => s.setReg (Reg.clkState 1) 0
  .next (s1.releaseReset src)
/-- STRETCH_END: of a port, which comes up in its mode, or of the chip once no source holds (R486, R491). -/
def execStretchEnd (port : Option (Fin 28)) (s : State) : Out :=
  match port with
  | some p =>
    if !bit (s.rst.ports : Int) p then .next s
    else
      let s1 := (s.modRst fun r => { r with ports := r.ports - 2 ^ p.val }).setReg Reg.rstLastTick s.tick
      .next (s1.when (decide (p.val < 24)) fun s => s.setReg (Reg.netLink p) 0)
  | none =>
    if s.rst.kind = 0 ∨ s.rst.phase ≠ 1 ∨ s.rst.held ≠ [] then .next s
    else .next (s.modRst fun r => { r with phase := if r.kind ≤ 2 then 2 else if r.kind = 3 then 3 else 5
                                           bootTick := if r.kind = 4 then some s.tick else none })
/-- OPTION_LOAD commits straps and option block in one step (R492, R531). -/
def State.optionLoad (s : State) (rep : BringUp) : State :=
  let i := s.flashNow
  let o := optSelect i.opt0 i.opt1
  let s1 := s.modRst fun r => { r with
    opt := o.2.1, optCopy := o.1, optDefault := o.2.2, strapAddr := rep.addr, phase := 3 }
  let s2 := s1.setRegs [(Reg.tickFamily, if rep.fam44 then 1 else 0), (Reg.pairMode, if rep.pairEn then 1 else 0),
    (Reg.pairSeat, if rep.seat then 1 else 0), (Reg.pairState, if rep.pairEn then 4 else 0), (Reg.pairRole, 255),
    (Reg.addrMode, if rep.addr.val = 0 then 0 else 1), (Reg.fwActive, min 1 (leAt o.2.1 0x0E 1))]
  (s2.setReg Reg.dramSize s2.dramMib).refreshFaults
/-- MEMORY: at a power-on or cold reset DRAM is trained and its zero-scrub begins, 2 MiB per tick in all; at a power-on
the log is read back (Table 18.3; 19, R516). -/
def State.memoryDone (s : State) (rep : BringUp) : State :=
  let blocks (c : Nat) : Nat := s.dramBytes c / 65536
  let e := s.tick + (blocks 0 + blocks 1 + 31) / 32
  let scrub := (List.range 2).flatMap fun c => if blocks c = 0 then [] else
    [({ kind := 10, unit := noUnit, first := c * 131072, count := blocks c, plot := 255, scrub := some (e, false) } : Holding)]
  let s1 := s.modRst fun r => { r with phase := 5, bootAt := rep.now, bootTick := none }
  if s.rst.kind = 3 then s1
  else
    let s2 := ({ s1 with holdings := scrub }.modRst fun r => { r with
      dramFail := !rep.trained && decide (blocks 0 + blocks 1 > 0) }).refreshFaults
    if s.rst.kind = 1 then s2.logRestore rep else s2
/-- BRINGUP_PHASE_DONE: the phase's end condition is met (Table 18.3, R491, R492). -/
def execBringupPhaseDone (rep : BringUp) (s : State) : Out :=
  match s.rst.phase with
  | 0 => if s.rst.held = [] then .next (s.modRst fun r => { r with phase := 1, supplyEnd := rep.now }) else .next s
  | 2 => if s.rst.asks = [] then .next (s.optionLoad rep) else .next s
  | 3 => .next (s.modRst fun r => { r with phase := 4 })
  | 4 => .next (s.memoryDone rep)
  | _ => .next s
/-- T1S_STATUS: PLCA active with a node address below T1S_PLCA_COUNT, PLCA_RANGE at or above it (R442). -/
def State.refreshT1s (s : State) : State :=
  let a := s.nat Reg.idAddr
  let plca := s.reg Reg.t1sAccess == 1 && a != 0
  let past := plca && decide (a ≥ s.nat Reg.t1sPlcaCount)
  s.setReg Reg.t1sStatus (s.nat Reg.t1sStatus % 4 + (if plca && !past then 4 else 0) + if past then 8 else 0 : Nat)
/-- Address after a power-on or cold reset: the strap's, the stored one, or the chain procedure (16, R443, R444; R532). -/
def State.addrStart (s : State) : State :=
  let strap := s.rst.strapAddr
  let take (s : State) (a : Nat) : State :=
    { s.setRegs [(Reg.idAddr, a), (Reg.addrState, 1)] with addr := { s.addr with announces := 3, chain := false } }
  if strap = 255 then { s.setReg Reg.addrState 2 with addr := { s.addr with chain := false } }
  else if strap ≠ 0 then take s strap
  else if s.reg Reg.addrSource = 1 ∧ s.addr.stored ≠ 0 then take s s.addr.stored
  else { s with addr := { s.addr with chain := true } }
/-- A unit that a warm reset stopped runs its start sequence from this boundary (R489, step 4). -/
def State.restartUnit (s : State) (e : Nat × Nat) : State :=
  match e.1 with
  | 0 => (s.setActs true e.2 [(s.tick, true)]).setRegs [(Reg.rxState e.2, 1), (Reg.rxStatus e.2, 1)]
  | 1 => (s.setActs false e.2 [(s.tick, true)]).setRegs [(Reg.txState e.2, 1), (Reg.txStatus e.2, 1)]
  | 2 => (s.modSap e.2 fun x => { x with acts := [(s.tick, true, false)] }).setReg (Reg.sapStatus e.2) 1
  | _ => (s.modPsc e.2 fun x => { x with acts := [(s.tick, true, false)] }).setReg (Reg.pscStatus e.2) 1
/-- Plot that a unit of that list belongs to. -/
def State.unitPlot (s : State) (e : Nat × Nat) : Option Nat :=
  s.holder (match e.1 with | 0 => 18 | 1 => 19 | 2 => 26 | _ => 27) noUnit e.2
/-- Units of a set restart and leave the list. -/
def State.restartUnits (s : State) (f : Nat × Nat → Bool) : State :=
  (overL (s.rst.units.filter f) State.restartUnit (s.modRst fun r => { r with units := r.units.filter fun e => !f e })).refreshMc
/-- The restore after a warm reset: plot resets, then every active last is installed again from its image with swap tick 0;
units of plots without one restart at once (R489). -/
def State.warmRestore (s : State) : State :=
  let resets := s.rst.plotResets
  let s1 := overL resets (fun s (e : Nat × Bool) => s.resetPlot e.1 e.2) (s.modRst fun r => { r with
    plotResets := [], units := r.units.filter fun e => !(resets.any fun (x : Nat × Bool) => s.unitPlot e == some x.1) })
  let s2 := overN 16 (fun s p =>
    let img := (s.plot p).image
    if img = [] then s
    else (s.modPlot p fun x => { x with staged := some img, stagedOwner := true, wantTick := 0, restoring := true, image := [] }).setReg
      (Reg.lastState p) 2) s1
  s2.restartUnits fun e => match s2.unitPlot e with | some p => !(s2.plot p).restoring | none => true
/-- Conditions of the return begin to hold, or hold on (R499). -/
def State.returnFrom (s : State) (now : Nat) : State :=
  let ok := bit (s.reg Reg.pwrInputs) 0 && (s.nat Reg.supFlags / 256 % 256 == 0)
  s.modBrace fun b => { b with from_ := if ok then some (b.from_.getD now) else none }
/-- A brace in progress resumes as BRACED, its debounce starts over, and channels start at the brace target (R502). -/
def State.braceResume (s : State) (now : Nat) : State :=
  if s.reg Reg.braceState = 0 then s
  else
    let s1 := (s.setReg Reg.braceState 2).orReg Reg.pwrInputs 4
    let s2 := (s1.modBrace fun b => { b with from_ := none, policyAt := none, policyDone := true, unbraceAt := none }).returnFrom now
    s2.pscBrace
/-- At the end of a bring-up from power-on or a cold reset the time counter starts at 0, and tick numbers with it, unless a value
was written before (01, R20). -/
def State.startCount (s : State) : State :=
  if s.clk.told then s
  else
    let s1 := { s with tick := 0, cycle := 0 }.shiftTicks (-(s.tick : Int))
    s1.modClk fun c => { c with phase := 0 }
/-- FIRMWARE_READY: the end of bring-up (R489, R491, R502; 01, R20; 08, R222). -/
def execFirmwareReady (now : Nat) (s : State) : Out :=
  let k := s.rst.kind
  if k = 0 ∨ s.rst.phase ≠ 5 ∨ s.rst.noFw ∨ !(s.rst.slot (min 1 (s.nat Reg.fwActive))).valid then .next s
  else
    let z := s.when (decide (k ≤ 2)) State.startCount
    let s0 := (z.modRst fun r => { r with
      kind := 0, phase := 6, failed := 0, bootTick := none, upAt := if k ≤ 3 then z.tick else r.upAt }).logEvent 0x0102 0 16 (s.nat Reg.rstCause)
      ((now - s.rst.supplyEnd) / 1000)
    let s1 := s0.when (decide (k ≤ 2)) fun s =>
      let s1 := s.restoreFlash.addrStart.refreshT1s
      overL s1.rst.plotResets (fun s (e : Nat × Bool) => s.resetPlot e.1 e.2) (s1.modRst fun r => { r with plotResets := [] })
    let s2 := s1.when (k == 3) State.warmRestore
    let s3 := s2.when (decide (k ≥ 3)) fun s => s.setReg Reg.rstLastTick s.tick
    let s4 := s3.when (decide (k ≤ 3) && s.paired) fun s => s.modPair fun x => { x with waitFrom := some s.tick }
    .next (s4.when (k != 1) fun s => s.braceResume now)
/-- Has the firmware been running for 2 s: by the tick of its start where a gardener reset began it, else by its instant. -/
def State.bootOver (s : State) (now : Nat) : Bool :=
  match s.rst.bootTick with
  | some t => decide (t + 2 * s.tps ≤ s.tick)
  | none => decide (s.rst.bootAt + 2000000 ≤ now)
/-- FW_READY_TIMEOUT: an image not ready in 2 s gives way to the other slot by a gardener reset, which counts, and which a reset
of greater reach absorbs; where that slot has failed too, the gardener stays in reset (R487, R490). -/
def execFwReadyTimeout (now : Nat) (s : State) : Out :=
  if s.rst.kind = 0 ∨ s.rst.phase ≠ 5 ∨ s.rst.noFw ∨ !s.bootOver now then .next s
  else
    let k := min 1 (s.nat Reg.fwActive)
    let failed := s.rst.failed ||| 2 ^ k
    if failed = 3 then .next ((s.modRst fun r => { r with failed := failed, noFw := true }).refreshFaults)
    else .next (((s.bump (rstCounter 2)).modRst fun r => { r with
      failed := failed, phase := if r.kind = 4 then 1 else 5, bootAt := now, bootTick := none }).bootOther 0 true)
/-- LAST_SWAP: at the boundary that opens S a committed shadow takes effect (01, R45, R50); units that a warm reset stopped
restart with the last that it reinstalls (R489). -/
def execLastSwap (p : Fin 16) (s : State) : Out :=
  let r := s.swapDue p
  let again := r.2 && (s.plot p).restoring
  .next (r.1.when again fun s => s.restartUnits fun e => s.unitPlot e == some p.val)

/-! Supply (R494 to R496). -/

/-- SUP_STATE follows the flags; a change is logged and notified (R494). -/
def State.refreshSupply (s : State) : State :=
  let f := s.nat Reg.supFlags
  let st : Nat := if f / 256 % 256 ≠ 0 then 2 else if f ≠ 0 then 1 else 0
  if s.nat Reg.supState = st then s
  else ((s.setReg Reg.supState st).logKeep 0x0103 1 f st).notifyGardener 0x70 Reg.supState
/-- A caution appears: it is counted and holds flash writes (R494, R495). -/
def State.caution (s : State) (b : Nat) : State :=
  if bit (s.reg Reg.supFlags) b then s
  else ((s.orReg Reg.supFlags (2 ^ b)).bump Reg.supCautionCount).holdFlash 0
/-- A bit of SUP_FLAGS clears. -/
def State.supClear (s : State) (b : Nat) : State := s.setReg Reg.supFlags (clearBit (s.reg Reg.supFlags) b)
/-- An action of brace goes to the partner with a target tick 8 ticks on (R501): the
BRACE_STATE that it enters. -/
def State.sendBrace (s : State) (t k : Nat) : State :=
  s.when s.forwards fun s => s.sendMgmt t ⟨0x2020, 1, 0, [BitVec.ofNat 8 k], 0, 255, true⟩
/-- Does the chip in role A lead this chip's brace: role B in LOCKSTEP with a heartbeat (R501). -/
def State.bracedByA (s : State) : Bool := s.reg Reg.pairState == 3 && s.reg Reg.pairRole == 1 && s.heartbeat
/-- Tick at which this chip's own brace action acts, from the boundary at which it reaches it. -/
def State.braceTick (s : State) (n : Nat) : Nat := if s.forwards && s.reg Reg.pairState == 3 then n + 8 else n
/-- A brace event of PWR_MAIN_OK (0) or of rail r (1 + r) (R498, R500). -/
def State.braceEvent (s : State) (p1 now : Nat) : State :=
  let s0 := s.modBrace fun b => { b with from_ := none }
  if s.reg Reg.braceState = 1 ∨ s.reg Reg.braceState = 2 then s0
  else
    let s1 := ((s0.setRegs [(Reg.braceState, 1), (Reg.braceSince, s.tick)]).bump Reg.braceCount).holdFlash 1
    let t := s.braceTick (s.tick + 1)
    let s2 := (s1.logKeep 0x0104 1 (s1.nat Reg.pwrInputs) p1).modBrace fun b => { b with
      at_ := now, policyAt := if s.bracedByA then none else some t, policyDone := false, unbraceAt := none }
    s2.sendBrace t 1
/-- RAIL_CROSSING: caution, brace, fail, over caution, over fail (R494); a fail takes AUTH and READY at once (08, R244). -/
def execRailCrossing (r : Fin 8) (th : Fin 5) (now : Nat) (s : State) : Out :=
  match th.val with
  | 0 => .next ((s.caution r).refreshSupply)
  | 3 => .next ((s.caution (16 + r)).refreshSupply)
  | 1 =>
    if bit (s.reg Reg.supFlags) (8 + r) then .next s
    else .next (((s.orReg Reg.supFlags (2 ^ (8 + r.val))).braceEvent (1 + r) now).refreshSupply)
  | t =>
    let code := (if t = 2 then 32 else 64) + r.val
    let s1 := (s.when (r.val != 2) fun s => s.bump Reg.supFailCount).leavePair
    if t = 2 ∧ r.val = 2 then .next ((s1.ask 1 0x01).holdReset code) else .next ((s1.ask 2 0x02).holdReset code)
/-- RAIL_CLEAR: the rail has stayed on the good side for 1 ms (R494). -/
def execRailClear (r : Fin 8) (th : Fin 5) (now : Nat) (s : State) : Out :=
  let ended (s : State) : State := s.modBrace fun b => { b with lastCaution := now }
  match th.val with
  | 0 => .next ((ended (s.supClear r)).refreshSupply)
  | 3 => .next ((ended (s.supClear (16 + r))).refreshSupply)
  | 1 => .next (((s.supClear (8 + r)).returnFrom now).refreshSupply)
  | t => .next (s.releaseReset ((if t = 2 then 32 else 64) + r.val))
/-- JUNCTION_CAUTION: the temperature crosses the maximum of the ordering code, or clears (R494). -/
def execJunctionCaution (above : Bool) (tenths : Int) (now : Nat) (s : State) : Out :=
  let s1 := s.readTj tenths
  if above then .next ((s1.caution 24).refreshSupply)
  else .next (((s1.supClear 24).modBrace fun b => { b with lastCaution := now }).refreshSupply)
/-- FLASH_HOLD_END: BRACE_STATE is NORMAL and no caution has been present for 1 s; queued writes proceed (R495). -/
def execFlashHoldEnd (now : Nat) (s : State) : Out :=
  let f := s.nat Reg.supFlags
  let cautions := f % 256 + f / 65536
  if s.reg Reg.flashHold = 0 ∨ s.reg Reg.braceState ≠ 0 ∨ cautions ≠ 0 ∨ now < s.brace.lastCaution + 1000000 ∨
      now < s.brace.normalAt + 1000000 then .next s
  else
    let s1 := (s.setRegs [(Reg.flashHold, 0), (Reg.flashPending, 0)]).modRst fun r => { r with
      saved := if r.kind = 1 ∨ r.kind = 2 then r.saved else none, stagedFw := none }
    match s.rst.stagedFw with
    | some (ok, build) => .next (s1.fwWritten ok build)
    | none => .next s1

/-! Brace (R497 to R502). -/

/-- The sequence ends: BRACED; the debounce counts from here or from the instant its conditions began to hold (R498,
R499). -/
def State.toBraced (s : State) (now : Nat) : State :=
  (s.setReg Reg.braceState 2).modBrace fun b => { b with from_ := b.from_.map fun f => max f now }
/-- PWR_MAIN_OK_CHANGE: a filtered change; a fall is a brace event (R498). -/
def execPwrMainOkChange (level : Bool) (now : Nat) (s : State) : Out :=
  if bit (s.reg Reg.pwrInputs) 0 = level then .next s
  else if level then .next ((s.orReg Reg.pwrInputs 1).returnFrom now)
  else .next ((s.setReg Reg.pwrInputs (clearBit (s.reg Reg.pwrInputs) 0)).braceEvent 0 now)
/-- PWR_BATT_ON_CHANGE: high, it ends the sequence once the policy has been applied (R498). -/
def execPwrBattOnChange (level : Bool) (now : Nat) (s : State) : Out :=
  if !level then .next (s.setReg Reg.pwrInputs (clearBit (s.reg Reg.pwrInputs) 1))
  else
    let s1 := s.orReg Reg.pwrInputs 2
    .next (s1.when (s.reg Reg.braceState == 1 && s.brace.policyDone) fun s => s.toBraced now)
/-- BRACE_POLICY_APPLY: step 3 at its boundary (R498, R501). -/
def execBracePolicyApply (s : State) : Out :=
  match s.brace.policyAt with
  | some t =>
    if s.tick < t ∨ s.reg Reg.braceState ≠ 1 then .next s
    else
      let s1 := ((s.pscBrace).orReg Reg.pwrInputs 4).modBrace fun b => { b with policyAt := none, policyDone := true }
      .next (s1.when (bit (s.reg Reg.pwrInputs) 1) fun s => s.toBraced s.brace.at_)
  | none => .next s
/-- BATT_MISSING: PWR_BATT_ON is not high 1 s after the brace event (R498). -/
def execBattMissing (now : Nat) (s : State) : Out :=
  if s.reg Reg.braceState ≠ 1 ∨ now < s.brace.at_ + 1000000 ∨ bit (s.reg Reg.pwrInputs) 1 then .next s
  else
    let s1 := s.orReg Reg.pwrInputs 8
    .next ((s1.logKeep 0x0105 2 (s1.nat Reg.pwrInputs) 0).toBraced now)
/-- UNBRACE: 250 ms of return conditions have passed (R499); a pair in LOCKSTEP follows role A's target tick (R501). -/
def execUnbrace (now : Nat) (s : State) : Out :=
  let due : Bool := match s.brace.from_ with | some f => decide (f + 250000 ≤ now) | none => false
  let go (s : State) : State :=
    ((((s.setReg Reg.braceState 3).pscUnbrace).setReg Reg.pwrInputs (clearBit (s.reg Reg.pwrInputs) 2)).modBrace fun b =>
      { b with unbraceAt := none }).logEvent 0x0106 0 16 (s.nat Reg.braceCount) 0
  if s.reg Reg.braceState ≠ 2 then .next s
  else match s.brace.unbraceAt with
    | some t => if t ≤ s.tick then .next (go s) else .next s
    | none =>
      if !due ∨ s.bracedByA then .next s
      else if s.braceTick s.tick = s.tick then .next (go s)
      else
        let t := s.braceTick s.tick
        .next ((s.modBrace fun b => { b with unbraceAt := some t }).sendBrace t 3)
/-- UNBRACE_COMPLETE: every brace gain is back at 0 dB (R499). -/
def execUnbraceComplete (now : Nat) (s : State) : Out :=
  if s.reg Reg.braceState ≠ 3 ∨ !s.pscGbHome then .next s
  else .next (((s.setReg Reg.braceState 0).setReg Reg.pwrInputs (clearBit (s.reg Reg.pwrInputs) 3)).modBrace fun b => { b with normalAt := now })

/-! Loss of a clock domain (09, R269, Table 9.2). -/

/-- The PCIe link is lost: its sessions close, rings close (16, R462, R471). -/
def State.pcieDown (s : State) : State :=
  let s1 := s.closeSessions fun ss => ss.transport == 3
  let s2 := overL ((s1.rings.filter fun (e : Nat × Ring) => e.2.owner != 255).map (·.1)) State.closeRing s1
  { s2 with host := { s2.host with mbox := false } }
/-- CLOCK_LOSS: domain d of Table 9.1 shows no edge, or leaves 5 % of its nominal frequency. -/
def execClockLoss (d : Fin 26) (s : State) : Out :=
  if d.val = 0 then .next s
  else
    let s1 := (((s.setReg (Reg.clkState d) 1).bump (Reg.clkLossCount d)).stick 10).logKeep 0x0201 2 d 0
    let ports (a n : Nat) (s : State) : State :=
      overN n (fun s i => s.when (s.reg (Reg.netLink (a + i)) == 1) fun s => (s.setReg (Reg.netLink (a + i)) 0).linkDown (a + i)) s
    match d.val with
    | 1 => .next (((s1.leavePair).ask 2 0x04).holdReset 4)
    | 4 => .next (s1.ask 4 0x0B)
    | 7 => .next s1.pcieDown
    | 8 => .next (ports 0 8 s1)
    | 9 => .next (ports 8 16 s1)
    | 10 => .next (s1.setReg Reg.t1sStatus (s1.nat Reg.t1sStatus / 4 * 4 : Nat))
    | 11 => .next ((s1.weltDown 0).weltDown 1)
    | x =>
      if [2, 3, 5, 6, 12, 17, 18].contains x then .next ((s1.leavePair).ask 2 0x05)
      else if x = 19 ∨ x = 24 then .next s1.toHoldover
      else .next s1

end Sys2Proof.Machine
end

