-- ==== Sys2Proof/Machine/Address.lean ====
section
/-!
DEFINITION. Node addresses and the field bus (16, R441 to R446).
-/
namespace Sys2Proof.Machine

/-- T1S_ACCESS (R442). -/
def execT1sAccess (v : Nat) (s : State) : Out :=
  if v > 1 then .next (s.reply 0x13) else .next (((s.setReg Reg.t1sAccess v).refreshT1s).reply 0)

/-- Does the chip take its address by the chain: its straps are all low (R443). -/
def State.chainMode (s : State) : Bool := s.reg Reg.addrMode == 0
/-- The highest address heard plus 1 becomes the chip's address, announced three times; with 254 heard there is none
(R444, R446). -/
def State.takeNext (s : State) : State :=
  let a := s.nat Reg.addrHighest
  if a ≥ 254 then
    (({ s with addr := { s.addr with waitFrom := none } }.setReg Reg.idAddr 0).setReg Reg.addrState
      (s.nat Reg.addrState / 4 * 4 + 2 : Nat)).refreshT1s
  else
    let s1 := { s with addr := { s.addr with waitFrom := none, announces := 3, lastTx := none, stored := a + 1 } }
    ((s1.setRegs [(Reg.idAddr, (a + 1 : Nat)), (Reg.addrState, (s.nat Reg.addrState / 4 * 4 + 1 : Nat))]).flashed).refreshT1s
/-- ADDR_ANNOUNCE: the highest address heard; another chip with this chip's address (R444, R445). -/
def execAddrAnnounce (a : Fin 256) (uid : Nat) (s : State) : Out :=
  let own := s.nat Reg.idAddr
  let mine := Config.uid % 18446744073709551616
  let s1 := s.when (decide (1 ≤ a.val) && decide (a.val ≤ 254)) fun s =>
    s.setReg Reg.addrHighest (max a.val (s.nat Reg.addrHighest) : Nat)
  if own = 0 ∨ a.val ≠ own ∨ uid = mine then .next s1
  else
    let again (s : State) : State := { s with addr := { s.addr with announces := s.addr.announces + 1 } }
    if !s.chainMode then
      let s2 := s1.orReg Reg.addrState 4
      .next (if uid < mine then s2 else again s2)
    else if uid < mine then .next s1.takeNext
    else .next (again s1)
/-- CHAIN_IN_HIGH at an instant in ms: the wait of 50 ms begins where the chip runs the chain procedure (R444). -/
def execChainInHigh (now : Nat) (s : State) : Out :=
  let waits := s.chainMode && s.addr.chain && s.reg Reg.idAddr == 0 && s.addr.waitFrom.isNone && !bit (s.reg Reg.addrState) 1
  .next { s with addr := { s.addr with chainIn := true, waitFrom := if waits then some now else s.addr.waitFrom } }
/-- CHAIN_ADDRESS_TAKE: 50 ms after CHAIN_IN went high (R444, step 2). -/
def execChainAddressTake (now : Nat) (s : State) : Out :=
  match s.addr.waitFrom with
  | some f => if f + 50 ≤ now then .next s.takeNext else .next s
  | none => .next s
/-- ADDR_ANNOUNCE_TX: an announcement leaves, 10 ms after the one before; CHAIN_OUT rises with the third (R444). The answer
holds its fields, the address and the unique ID. A chip with PLCA_RANGE sends nothing (R442). -/
def execAddrAnnounceTx (now : Nat) (s : State) : Out :=
  let due : Bool := match s.addr.lastTx with | some t => decide (t + 10 ≤ now) | none => true
  if s.addr.announces = 0 ∨ !due ∨ bit (s.reg Reg.t1sStatus) 3 then .next s
  else
    let k := s.addr.announces - 1
    let b := leBytes 1 (s.nat Reg.idAddr) ++ leBytes 8 (Config.uid % 18446744073709551616)
    .next { s with
      addr := { s.addr with announces := k, lastTx := if k = 0 then none else some now, chainOut := s.addr.chainOut || k == 0 }
      answer := { bytes := b, sent := true } }
/-- ADDR_RESTART: a chip in chain mode forgets its address and runs the procedure from its first step (R445). -/
def execAddrRestart (s : State) : Out :=
  if !s.chainMode then .next (s.reply 0)
  else
    let s1 := { s with addr := { s.addr with
      chainIn := false, chainOut := false, waitFrom := none, announces := 0, lastTx := none, chain := true } }
    .next (((s1.setRegs [(Reg.idAddr, 0), (Reg.addrState, 0)]).refreshT1s).reply 0)

end Sys2Proof.Machine
end

