-- ==== Sys2Proof/Machine/Bridge.lean ====
section
/-!
DEFINITION. The bridge (11_network_ports_and_bridge): reception, VLANs, the forwarding and multicast tables, learning
and aging, the engine port.
-/
namespace Sys2Proof.Machine

/-! Tables. -/

/-- Bucket of a key: low bits of the CRC-32 over the address and the FID (R328, R335). -/
def fdbBucket (mac : List Byte) (fid : Nat) : Nat := crc32 (mac ++ leBytes 1 fid) % 4096
/-- Bucket of a multicast key. -/
def mcBucket (mac : List Byte) (fid : Nat) : Nat := crc32 (mac ++ leBytes 1 fid) % 1024
/-- Is an entry's key this one. -/
def FdbEntry.is (e : FdbEntry) (mac : List Byte) (fid : Nat) : Bool := e.mac == mac && e.fid == fid
/-- Entry of a key. -/
def State.fdbFind (s : State) (mac : List Byte) (fid : Nat) : Option FdbEntry := s.net.fdb.find? fun e => e.is mac fid
/-- Change the entry of a key. -/
def State.fdbMod (s : State) (mac : List Byte) (fid : Nat) (f : FdbEntry → FdbEntry) : State :=
  s.modNet fun t => { t with fdb := t.fdb.map fun e => if e.is mac fid then f e else e }
/-- Is there a free way in a key's bucket of a table. -/
def fdbRoom (fdb : List FdbEntry) (mac : List Byte) (fid : Nat) : Bool :=
  decide ((fdb.filter fun e => fdbBucket e.mac e.fid == fdbBucket mac fid).length < 8)
/-- A port map as a list of ports. -/
def portsOf (mask : Nat) : List Nat := (List.range 25).filter fun p => bit (mask : Int) p

/-- The 17th move in a flap window pins the entry to the port it held before the first (R330; FLAP_PIN). -/
def State.flapPin (s : State) (e : FdbEntry) (now : Nat) : State :=
  let l := s.net.fdb.map fun x => if x.is e.mac e.fid then { x with pinned := true, port := e.home, pinAt := now } else x
  (((s.setFdb l).bump Reg.brFlapCount).logEvent 0x0701 1 16 e.home (beAt e.mac 2 4)).notifyGardener 0x30
    Reg.brFlapAlarm
/-- A learn event is applied (R329, R330, R333). -/
def State.learn (s : State) (v : LearnEv) : State :=
  match s.fdbFind v.mac v.fid with
  | none =>
    if fdbRoom s.net.fdb v.mac v.fid then s.setFdb (s.net.fdb ++ [{ mac := v.mac, fid := v.fid, port := v.port, hit := true }])
    else s.bump Reg.brLearnFull
  | some e =>
    if e.port = v.port then s.fdbMod v.mac v.fid fun x => { x with hit := true, idle := false }
    else if e.static then s.bump Reg.brStaticConflict
    else if e.pinned then s.bump Reg.brFlapBlocked
    else
      let first := e.moves == 0 || (match e.window with | some w => decide (w + 1000000000 ≤ v.time) | none => true)
      let moves := if first then 1 else e.moves + 1
      let s1 := (s.fdbMod v.mac v.fid fun x => { x with
        port := v.port, hit := true, idle := false, moves := moves
        window := if first then some v.time else x.window, home := if first then x.port else x.home }).bump Reg.brMoves
      let start := if first then v.time else (e.window.getD v.time)
      if moves ≥ 17 ∧ v.time < start + 1000000000 then
        s1.flapPin { e with home := if first then e.port else e.home } v.time
      else s1
/-- Order of learn events: timestamp, then port (R329). -/
def learnLe (a b : LearnEv) : Bool := decide (a.time < b.time) || (a.time == b.time && decide (a.port ≤ b.port))
/-- LEARN_EVENT_APPLY: the first event in order, not before 2 us after its timestamp (R329). -/
def execLearnEventApply (now : Nat) (s : State) : Out :=
  match sortBy learnLe s.net.learn with
  | [] => .next s
  | v :: t => if v.time + 2000 ≤ now then .next ((s.modNet fun n => { n with learn := t }).learn v) else .next s
/-- FLAP_WINDOW_END: windows of 1 s that end with 16 moves or fewer reset MOVES (R330). -/
def execFlapWindowEnd (now : Nat) (s : State) : Out :=
  .next (s.modNet fun t => { t with fdb := t.fdb.map fun e =>
    match e.window with
    | some w => if !e.pinned ∧ w + 1000000000 ≤ now then { e with moves := 0, window := none } else e
    | none => e })
/-- FLAP_HOLD_EXPIRE: pins older than BR_FLAP_HOLD are released (R330). -/
def execFlapHoldExpire (now : Nat) (s : State) : Out :=
  .next (s.setFdb (s.net.fdb.map fun e =>
    if e.pinned ∧ e.pinAt + s.nat Reg.brFlapHold * 1000000000 ≤ now then { e with pinned := false, moves := 0, window := none } else e))
/-- AGE_SCAN_VISIT of a dynamic entry, once per BR_AGE_TIME / 2 (R331); aging is off at BR_AGE_TIME 0. -/
def execAgeScanVisit (mac : List Byte) (fid : Nat) (s : State) : Out :=
  match s.fdbFind mac fid with
  | none => .next s
  | some e =>
    let now := s.timeNs
    let soon : Bool := match e.visited with | some t => decide (now < t + s.nat Reg.brAgeTime * 500000000) | none => false
    if e.static ∨ s.reg Reg.brAgeTime = 0 ∨ soon then .next s
    else if e.hit then .next (s.fdbMod mac fid fun x => { x with hit := false, idle := false, visited := some now })
    else if !e.idle then .next (s.fdbMod mac fid fun x => { x with idle := true, visited := some now })
    else .next (s.setFdb (s.net.fdb.filter fun x => !x.is mac fid))

/-- An FDB record of a batch (Table 11.3): well formed where address, port and reserved bytes are. -/
def fdbRecordOk (b : List Byte) : Bool :=
  b.length == 16 && decide (leAt b 7 1 < 16) && decide (leAt b 8 1 ≤ 24) && zeros (b.drop 10) && !bit (leAt b 0 1) 0
/-- Install static entries one after another; none where a bucket has no free way. -/
def addStatics : List FdbEntry → List (List Byte) → Option (List FdbEntry)
  | fdb, [] => some fdb
  | fdb, b :: t =>
    let mac := b.take 6
    let fid := leAt b 6 1
    let others := fdb.filter fun e => !e.is mac fid
    if fdbRoom others mac fid then addStatics (others ++ [{ mac := mac, fid := fid, port := leAt b 8 1, static := true }]) t else none
/-- FDB_ADD: a batch of 1 to 256 static entries, whole or not at all (R333). -/
def execFdbAdd (b : List Byte) (s : State) : Out :=
  let rs := records 16 b
  if b.length % 16 ≠ 0 ∨ rs = [] ∨ rs.length > 256 ∨ !(rs.all fdbRecordOk) then .next ((s.setReg Reg.fdbStatus 0x10).reply 0)
  else match addStatics s.net.fdb rs with
    | some l => .next (((s.setFdb l).setReg Reg.fdbStatus 0).reply 0)
    | none => .next ((s.setReg Reg.fdbStatus 0x11).reply 0)
/-- FDB_DEL: removes entries of either kind, by MAC and FID (R333). -/
def execFdbDel (b : List Byte) (s : State) : Out :=
  let rs := records 16 b
  let has (r : List Byte) : Bool := s.net.fdb.any fun e => e.is (r.take 6) (leAt r 6 1)
  if b.length % 16 ≠ 0 ∨ rs = [] ∨ rs.length > 256 then .next ((s.setReg Reg.fdbStatus 0x10).reply 0)
  else if !(rs.all has) then .next ((s.setReg Reg.fdbStatus 0x12).reply 0)
  else .next (((s.setFdb (s.net.fdb.filter fun e => !(rs.any fun r => e.is (r.take 6) (leAt r 6 1)))).setReg Reg.fdbStatus 0).reply 0)
/-- NET_FLUSH: every dynamic entry of the port goes (R333). -/
def execNetFlush (n : Fin 24) (s : State) : Out :=
  .next ((s.setFdb (s.net.fdb.filter fun e => e.static || e.port != n.val)).reply 0)

/-- A multicast record of a batch (Table 11.4); FLAGS is read-only. -/
def mcRecordOk (b : List Byte) : Bool :=
  b.length == 16 && bit (leAt b 0 1) 0 && decide (leAt b 7 1 < 2) && decide (leAt b 8 4 < 33554432) && zeros (b.drop 12)
/-- Add the gardener's entries one after another: FORMAT for an address with an ENGINE entry, FULL without a free way
(R335). -/
def addMc : List McEntry → List (List Byte) → Except Nat (List McEntry)
  | mc, [] => .ok mc
  | mc, b :: t =>
    let mac := b.take 6
    let fid := leAt b 6 1
    let others := mc.filter fun e => !(e.mac == mac && e.fid == fid)
    if mc.any fun e => e.mac == mac && e.fid == fid && e.engine then .error 0x10
    else if (others.filter fun e => mcBucket e.mac e.fid == mcBucket mac fid).length ≥ 4 then .error 0x11
    else addMc (others ++ [{ mac := mac, fid := fid, ports := leAt b 8 4, gardener := true }]) t
/-- Replace the multicast table. -/
def State.setMc (s : State) (l : List McEntry) : State := (s.modNet fun t => { t with mc := l }).setReg Reg.mcCount l.length
/-- MC_ADD: a batch of 1 to 256 entries, whole or not at all (R333, R335). -/
def execMcAdd (b : List Byte) (s : State) : Out :=
  let rs := records 16 b
  if b.length % 16 ≠ 0 ∨ rs = [] ∨ rs.length > 256 ∨ !(rs.all mcRecordOk) then .next ((s.setReg Reg.mcStatus 0x10).reply 0)
  else match addMc s.net.mc rs with
    | .ok l => .next (((s.setMc l).setReg Reg.mcStatus 0).reply 0)
    | .error c => .next ((s.setReg Reg.mcStatus c).reply 0)
/-- MC_DEL (R333, R335): an entry that the engine needs stays as the engine's. -/
def execMcDel (b : List Byte) (s : State) : Out :=
  let rs := records 16 b
  let named (e : McEntry) : Bool := rs.any fun r => e.mac == r.take 6 && e.fid == leAt r 6 1
  let has (r : List Byte) : Bool := s.net.mc.any fun e => e.mac == r.take 6 && e.fid == leAt r 6 1
  if b.length % 16 ≠ 0 ∨ rs = [] ∨ rs.length > 256 then .next ((s.setReg Reg.mcStatus 0x10).reply 0)
  else if !(rs.all has) then .next ((s.setReg Reg.mcStatus 0x12).reply 0)
  else
    let l := (s.net.mc.map fun e => if named e then { e with gardener := false, ports := 0 } else e).filter fun e => e.engine || e.gardener
    .next (((s.setMc l).setReg Reg.mcStatus 0).reply 0)

/-! The engine port (R337, R338). -/

/-- Index of the hash filter: address and VID (R337). -/
def hashIndex (mac : List Byte) (vid : Nat) : Nat := crc32 (mac ++ beBytes 2 vid) % 4096
/-- Group addresses of the gardener services: broadcast for ARP, PTP over UDP, gPTP and LLDP, slow protocols. -/
def serviceMacs : List (List Byte) :=
  [[0xFF, 0xFF, 0xFF, 0xFF, 0xFF, 0xFF], [0x01, 0x00, 0x5E, 0x00, 0x01, 0x81], [0x01, 0x80, 0xC2, 0x00, 0x00, 0x0E],
   [0x01, 0x80, 0xC2, 0x00, 0x00, 0x02]]
/-- VIDs of the gardener services: those of the ports and of the IPv4 interfaces (log entry 216). -/
def State.serviceVids (s : State) : List Nat :=
  (((List.range 24).map fun n => s.nat (Reg.netPvid n)) ++ (List.range 16).map fun k => leAt (s.blob (Reg.ipIface k)) 0 2).eraseDups
/-- Bits of the receive hash filter that are set: a live receive leg or a gardener service needs an address that hashes there
(R337). -/
def State.hashSet (s : State) : List Nat :=
  let legs := ((s.rxLive.flatMap fun t => [s.rxLeg t 0, s.rxLeg t 1]).filter legOn).map fun g => hashIndex (slice g 4 6) (leAt g 2 2)
  (legs ++ serviceMacs.flatMap fun m => s.serviceVids.map fun v => hashIndex m v).eraseDups
/-- Is an address broadcast. -/
def isBroadcast (mac : List Byte) : Bool := mac == [0xFF, 0xFF, 0xFF, 0xFF, 0xFF, 0xFF]
/-- Is an address a group address. -/
def isGroup (mac : List Byte) : Bool := bit (leAt mac 0 1) 0
/-- Services that take a frame: 1 PTP, 2 ESMC, 3 another service of the gardener; none where no service takes it (R337). -/
def State.service (s : State) (h : EthHead) (b : List Byte) : Option Nat :=
  let proto := beAt b (h.off + 9) 1
  let u := h.off + beAt b h.off 1 % 16 * 4
  if (ptpAt b).isSome then some 1
  else if h.ty = 0x8809 then (if beAt b h.off 1 = 0x0A then some 2 else none)
  else if h.ty = 0x88CC ∨ h.ty = 0x0806 then some 3
  else if h.ty = 0x0800 ∧ proto = 1 then some 3
  else if h.ty = 0x0800 ∧ proto = 17 ∧ beAt b (u + 2) 2 = 50871 ∧ beAt b (h.off + 6) 2 % 16384 = 0 then some 3
  else none
/-- Police a frame for the gardener from port n (R338): a bucket of 64 KiB at NET_CTRL_RATE; PTP and ESMC 2,048 frames
per second. -/
def State.police (s : State) (n now bytes : Nat) (exempt : Bool) : State × Bool :=
  let x := s.port n
  if exempt then
    let sec := now / 1000000000
    let used := if x.exempt.1 = sec then x.exempt.2 else 0
    if used ≥ 2048 then (s.bump (Reg.rxPoliced n), false)
    else (s.modPort n fun x => { x with exempt := (sec, used + 1) }, true)
  else
    let tokens := min 524288 (x.tokens + (now - x.filled) * s.nat (Reg.netCtrlRate n) / 1000000)
    if tokens < 8 * bytes then ((s.modPort n fun x => { x with tokens := tokens, filled := now }).bump (Reg.rxPoliced n), false)
    else (s.modPort n fun x => { x with tokens := tokens - 8 * bytes, filled := now }, true)
/-- QL of an ESMC PDU, and its extended QL as a grade where the extended TLV names one (R346; 09, Table 9.4). -/
def esmcRead (h : EthHead) (b : List Byte) : Nat × Option Nat :=
  let o := h.off + 10
  let ql := beAt b (o + 3) 1 % 16
  let ext := beAt b (o + 4) 1 == 2
  let code := beAt b (o + 7) 1
  (ql, if ext ∧ code = 0x21 then some 0 else if ext ∧ (code = 0x20 ∨ code = 0x23) then some 1 else none)
/-- A frame forwarded to port 24 (R337). -/
def State.enginePort (s : State) (n vid : Nat) (h : EthHead) (f : RxFrame) : State :=
  let b := f.data
  let pass := if isGroup h.dst then s.hashSet.contains (hashIndex h.dst vid) else h.dst == s.engMac
  let hits := s.rxMatches n vid h b
  if !pass then s
  else if hits ≠ [] then overL hits (fun s e => s.streamFrame e.1 e.2 h b f.last) s
  else match s.service h b with
    | none => s.bump Reg.engHashFalse
    | some k =>
      let (s1, ok) := s.police n f.last (b.length + 4) (k == 1 || k == 2)
      if ok ∧ k = 2 then
        let e := esmcRead h b
        (s1.modPort n fun x => { x with esmcAt := some f.last }).esmcGrade n e.1 e.2
      else s1

/-! Reception (R322, R326, R327, R334, R335). -/

/-- Is a VID's port in its member set. -/
def State.member (s : State) (vid p : Nat) : Bool := bit (s.reg (Reg.vlanMember vid)) p
/-- Ports that a frame is bound for by the tables: the entry's, or the member set where it floods; an FDB hit is marked. -/
def State.lookup (s : State) (n vid : Nat) (dst : List Byte) : State × List Nat :=
  let fid := s.nat (Reg.vlanFid vid)
  let flood := portsOf (s.nat (Reg.vlanMember vid))
  if isBroadcast dst then (s, flood)
  else if isGroup dst then
    match s.net.mc.find? fun e => e.mac == dst && e.fid == fid with
    | some e => (s, portsOf (e.ports ||| if e.engine then 16777216 else 0))
    | none => (s, if bit (s.reg (Reg.netUnkFlood n)) 1 then flood else [])
  else match s.fdbFind dst fid with
    | some e => (s.fdbMod dst fid fun x => { x with hit := true, idle := false }, [e.port])
    | none => (s, if bit (s.reg (Reg.netUnkFlood n)) 0 then flood else [])
/-- A frame as it leaves on a port: tagged unless the port is in the untagged set (R327). -/
def State.egressForm (s : State) (p vid pcp : Nat) (h : EthHead) (b : List Byte) : List Byte :=
  let untag := bit (s.reg (Reg.vlanUntag vid)) p
  let inner := if h.vid.isSome then b.drop 16 else b.drop 12
  if untag then b.take 12 ++ inner
  else b.take 12 ++ [0x81, 0x00] ++ beBytes 2 (pcp * 8192 + vid) ++ inner
/-- One destination of a forwarded frame (R324, R327, R336): a port outside the VID's member set, and the ingress port, count
DROP_FILTER (log entry 214). -/
def State.forward (s : State) (n p vid pcp : Nat) (h : EthHead) (f : RxFrame) : State :=
  if p = 24 then (if s.member vid 24 then s.enginePort n vid h f else s)
  else if p = n ∨ !s.member vid p then s.bump (Reg.dropFilter p)
  else
    let q := s.nat (Reg.netPcpMap n) / 16 ^ pcp % 8
    let body := s.egressForm p vid pcp h f.data
    (s.enqueue p { q := q, body := body, len := max 64 (body.length + 4), enq := f.last, stamp := f.stamp, ingress := some n }).pump p f.last
/-- Does the PTP unit take an event message that arrives at a port, so that it does not cross the bridge (10, R300). -/
def State.ptpTrap (s : State) (n : Nat) (b : List Byte) : Bool :=
  decide (s.reg Reg.ptpRole ≥ 2) && s.reg (Reg.ptpPortEn n) == 1 && (match ptpType b with | some t => decide (t ≤ 3) | none => false)
/-- FRAME_RX on a NET port (R322 to R338). -/
def execFrameRx (n : Fin 24) (f : RxFrame) (s : State) : Out :=
  let b := f.data
  let len := b.length + 4
  let h := ethHead b
  let reserved := b.take 5 == [0x01, 0x80, 0xC2, 0x00, 0x00] && decide (leAt b 5 1 < 16)
  let x := leAt b 5 1
  let s := s.bumpBy (Reg.netMmFrag n) f.frags
  let pause := (reserved && x == 1) || (h.ty == 0x8808 && (beAt b h.off 2 == 1 || beAt b h.off 2 == 0x101))
  if s.reg (Reg.netLink n) ≠ 1 then .next s
  else if f.mmErr then .next (s.bump (Reg.netMmErr n))
  else if !f.fcsOk then .next (s.bump (Reg.rxFcsErr n))
  else if len < 64 ∨ len > 9216 then .next (s.bump (Reg.rxSizeErr n))
  else
    let s1 := s.setRegs [(Reg.rxFrames n, bump64 (s.reg (Reg.rxFrames n))),
      (Reg.rxOctets n, (s.reg (Reg.rxOctets n) + len) % 18446744073709551616)]
    let (vid, pcp) := s1.vidOf n h
    let accept := s1.nat (Reg.netAccept n)
    let tagged := match h.vid with | some v => v != 0 | none => false
    if pause then .next (s1.bump (Reg.rxPause n))
    else if reserved ∧ (x = 2 ∨ x = 0xE) then
      .next (if x = 2 ∧ (h.ty ≠ 0x8809 ∨ beAt b h.off 1 ≠ 0x0A) then s1 else s1.enginePort n vid h f)
    else if reserved then .next (s1.bump (Reg.rxFiltered n))
    else if (accept = 1 ∧ !tagged) ∨ (accept = 2 ∧ tagged) ∨ !s1.member vid n then .next (s1.bump (Reg.rxFiltered n))
    else
      let learn := s1.reg (Reg.netLearn n) == 1 && s1.reg (Reg.vlanLearn vid) == 1 && !isGroup h.src
      let ev : LearnEv := { time := f.stamp / 8 * 8, port := n, mac := h.src, fid := s1.nat (Reg.vlanFid vid) }
      let s2 := if learn then s1.modNet fun t => { t with learn := t.learn ++ [ev] } else s1
      if s2.ptpTrap n b then .next (s2.enginePort n vid h f)
      else
        let (s3, ports) := s2.lookup n vid h.dst
        .next (overL ports (fun s p => s.forward n p vid pcp h f) s3)

end Sys2Proof.Machine
end

