-- ==== Sys2Proof/Machine/CoreCompute.lean ====
section
/-!
DEFINITION. The meanings of the arithmetic operations (04, Table 4.5): each adds its slot to the bundle under way on a core.
-/
namespace Sys2Proof.Machine

/-- ADD: one slot of a bundle. -/
def execCoreAdd (c : Fin 128) (ctl : SlotCtl) (m : Satur) (rd rs rt : Fin 32) (s : State) : Out :=
  .next (s.slot c ctl (opAdd m rd rs rt))
/-- SUB: one slot of a bundle. -/
def execCoreSub (c : Fin 128) (ctl : SlotCtl) (m : Satur) (rd rs rt : Fin 32) (s : State) : Out :=
  .next (s.slot c ctl (opSub m rd rs rt))
/-- AND: one slot of a bundle. -/
def execCoreAnd (c : Fin 128) (ctl : SlotCtl) (rd rs rt : Fin 32) (s : State) : Out :=
  .next (s.slot c ctl (opAnd rd rs rt))
/-- OR: one slot of a bundle. -/
def execCoreOr (c : Fin 128) (ctl : SlotCtl) (rd rs rt : Fin 32) (s : State) : Out :=
  .next (s.slot c ctl (opOr rd rs rt))
/-- XOR: one slot of a bundle. -/
def execCoreXor (c : Fin 128) (ctl : SlotCtl) (rd rs rt : Fin 32) (s : State) : Out :=
  .next (s.slot c ctl (opXor rd rs rt))
/-- MIN: one slot of a bundle. -/
def execCoreMin (c : Fin 128) (ctl : SlotCtl) (rd rs rt : Fin 32) (s : State) : Out :=
  .next (s.slot c ctl (opMin rd rs rt))
/-- MAX: one slot of a bundle. -/
def execCoreMax (c : Fin 128) (ctl : SlotCtl) (rd rs rt : Fin 32) (s : State) : Out :=
  .next (s.slot c ctl (opMax rd rs rt))
/-- MULF: one slot of a bundle. -/
def execCoreMulf (c : Fin 128) (ctl : SlotCtl) (trunc : Bool) (rd rs rt : Fin 32) (s : State) : Out :=
  .next (s.slot c ctl (opMulf trunc rd rs rt))
/-- MULI: one slot of a bundle. -/
def execCoreMuli (c : Fin 128) (ctl : SlotCtl) (rd rs rt : Fin 32) (s : State) : Out :=
  .next (s.slot c ctl (opMuli rd rs rt))
/-- SRAI: one slot of a bundle. -/
def execCoreSrai (c : Fin 128) (ctl : SlotCtl) (rd rs : Fin 32) (n : Fin 32) (s : State) : Out :=
  .next (s.slot c ctl (opSrai rd rs n))
/-- SLLI: one slot of a bundle. -/
def execCoreSlli (c : Fin 128) (ctl : SlotCtl) (rd rs : Fin 32) (n : Fin 32) (s : State) : Out :=
  .next (s.slot c ctl (opSlli rd rs n))
/-- SRLI: one slot of a bundle. -/
def execCoreSrli (c : Fin 128) (ctl : SlotCtl) (rd rs : Fin 32) (n : Fin 32) (s : State) : Out :=
  .next (s.slot c ctl (opSrli rd rs n))
/-- SRAR: one slot of a bundle. -/
def execCoreSrar (c : Fin 128) (ctl : SlotCtl) (trunc : Bool) (rd rs : Fin 32) (n : Fin 32) (s : State) : Out :=
  .next (s.slot c ctl (opSrar trunc rd rs n))
/-- MOV: one slot of a bundle. -/
def execCoreMov (c : Fin 128) (ctl : SlotCtl) (rd rs : Fin 32) (s : State) : Out :=
  .next (s.slot c ctl (opMov rd rs))
/-- NEG: one slot of a bundle. -/
def execCoreNeg (c : Fin 128) (ctl : SlotCtl) (m : Satur) (rd rs : Fin 32) (s : State) : Out :=
  .next (s.slot c ctl (opNeg m rd rs))
/-- ABS: one slot of a bundle. -/
def execCoreAbs (c : Fin 128) (ctl : SlotCtl) (m : Satur) (rd rs : Fin 32) (s : State) : Out :=
  .next (s.slot c ctl (opAbs m rd rs))
/-- NOT: one slot of a bundle. -/
def execCoreNot (c : Fin 128) (ctl : SlotCtl) (rd rs : Fin 32) (s : State) : Out :=
  .next (s.slot c ctl (opNot rd rs))
/-- CMP: one slot of a bundle. -/
def execCoreCmp (c : Fin 128) (ctl : SlotCtl) (q : Fin 4) (cond : Cond) (rs rt : Fin 32) (s : State) : Out :=
  .next (s.slot c ctl (opCmp q cond rs rt))
/-- MOVI: one slot of a bundle. -/
def execCoreMovi (c : Fin 128) (ctl : SlotCtl) (rd : Fin 32) (imm : Int) (s : State) : Out :=
  .next (s.slot c ctl (opMovi rd imm))
/-- MOVH: one slot of a bundle. -/
def execCoreMovh (c : Fin 128) (ctl : SlotCtl) (rd : Fin 32) (imm : Int) (s : State) : Out :=
  .next (s.slot c ctl (opMovh rd imm))
/-- CMAC: one slot of a bundle. -/
def execCoreCmac (c : Fin 128) (ctl : SlotCtl) (a : Fin 4) (x y : Fin 16) (f : MacFlags) (s : State) : Out :=
  .next (s.slot c ctl (opCmac a x y f))
/-- CMAC2: one slot of a bundle. -/
def execCoreCmac2 (c : Fin 128) (ctl : SlotCtl) (a0 a1 : Fin 4) (x y : Fin 16) (f : MacFlags) (s : State) : Out :=
  .next (s.slot c ctl (opCmac2 a0 a1 x y f))
/-- QMAC: one slot of a bundle. -/
def execCoreQmac (c : Fin 128) (ctl : SlotCtl) (a : Fin 4) (x y : Fin 8) (f : MacFlags) (s : State) : Out :=
  .next (s.slot c ctl (opQmac a x y f))
/-- QMAC2: one slot of a bundle. -/
def execCoreQmac2 (c : Fin 128) (ctl : SlotCtl) (a0 a1 : Fin 4) (x y : Fin 8) (f : MacFlags) (s : State) : Out :=
  .next (s.slot c ctl (opQmac2 a0 a1 x y f))
/-- ACV: one slot of a bundle. -/
def execCoreAcv (c : Fin 128) (ctl : SlotCtl) (trunc : Bool) (rd : Fin 32) (a : Fin 8) (n : Fin 64) (s : State) : Out :=
  .next (s.slot c ctl (opAcv trunc rd a n))
/-- ASR: one slot of a bundle. -/
def execCoreAsr (c : Fin 128) (ctl : SlotCtl) (trunc : Bool) (d a : Fin 8) (n : Fin 64) (s : State) : Out :=
  .next (s.slot c ctl (opAsr trunc d a n))
/-- ASL: one slot of a bundle. -/
def execCoreAsl (c : Fin 128) (ctl : SlotCtl) (d a : Fin 8) (n : Fin 64) (s : State) : Out :=
  .next (s.slot c ctl (opAsl d a n))
/-- AMOV: one slot of a bundle. -/
def execCoreAmov (c : Fin 128) (ctl : SlotCtl) (d : Fin 8) (rs : Fin 32) (s : State) : Out :=
  .next (s.slot c ctl (opAmov d rs))
/-- AADD: one slot of a bundle. -/
def execCoreAadd (c : Fin 128) (ctl : SlotCtl) (d a b : Fin 8) (s : State) : Out :=
  .next (s.slot c ctl (opAadd d a b))
/-- ASUB: one slot of a bundle. -/
def execCoreAsub (c : Fin 128) (ctl : SlotCtl) (d a b : Fin 8) (s : State) : Out :=
  .next (s.slot c ctl (opAsub d a b))
/-- AZERO: one slot of a bundle. -/
def execCoreAzero (c : Fin 128) (ctl : SlotCtl) (d : Fin 8) (s : State) : Out :=
  .next (s.slot c ctl (opAzero d))
/-- ACMP: one slot of a bundle. -/
def execCoreAcmp (c : Fin 128) (ctl : SlotCtl) (q : Fin 4) (cond : Cond) (a b : Fin 8) (s : State) : Out :=
  .next (s.slot c ctl (opAcmp q cond a b))

end Sys2Proof.Machine
end

