-- ==== Sys2Proof/Machine/CoreFlow.lean ====
section
/-!
DEFINITION. The meanings of the control and coprocessor operations (04, Table 4.6): each adds its slot to the bundle under way on a
core.
-/
namespace Sys2Proof.Machine

/-- BR: one slot of a bundle. -/
def execCoreBr (c : Fin 128) (ctl : SlotCtl) (hint : Bool) (target : Fin 8192) (s : State) : Out :=
  .next (s.slot c ctl (opBr hint target))
/-- CALL: one slot of a bundle. -/
def execCoreCall (c : Fin 128) (ctl : SlotCtl) (target : Fin 8192) (s : State) : Out :=
  .next (s.slot c ctl (opCall target))
/-- JR: one slot of a bundle. -/
def execCoreJr (c : Fin 128) (ctl : SlotCtl) (g : Fin 32) (s : State) : Out :=
  .next (s.slot c ctl (opJr g))
/-- LOOP: one slot of a bundle. -/
def execCoreLoop (c : Fin 128) (ctl : SlotCtl) (fromReg : Bool) (count : Fin 32) (len : Fin 256) (s : State) : Out :=
  .next (s.slot c ctl (opLoop fromReg count len))
/-- END: one slot of a bundle. -/
def execCoreEnd (c : Fin 128) (ctl : SlotCtl) (s : State) : Out :=
  .next (s.slot c ctl (opEnd))
/-- TRAP: one slot of a bundle. -/
def execCoreTrap (c : Fin 128) (ctl : SlotCtl) (code : Fin 256) (s : State) : Out :=
  .next (s.slot c ctl (opTrap code))
/-- POP: one slot of a bundle. -/
def execCorePop (c : Fin 128) (ctl : SlotCtl) (q : Fin 4) (quad : Fin 8) (s : State) : Out :=
  .next (s.slot c ctl (opPop q quad))
/-- DMAT: one slot of a bundle. -/
def execCoreDmat (c : Fin 128) (ctl : SlotCtl) (n : Fin 256) (s : State) : Out :=
  .next (s.slot c ctl (opDmat n))
/-- MOVC: one slot of a bundle. -/
def execCoreMovc (c : Fin 128) (ctl : SlotCtl) (fromCtl : Bool) (cr : Fin 64) (g : Fin 32) (s : State) : Out :=
  .next (s.slot c ctl (opMovc fromCtl cr g))
/-- DIV: one slot of a bundle. -/
def execCoreDiv (c : Fin 128) (ctl : SlotCtl) (rd rs rt : Fin 32) (s : State) : Out :=
  .next (s.slot c ctl (opDiv rd rs rt))
/-- SQRT: one slot of a bundle. -/
def execCoreSqrt (c : Fin 128) (ctl : SlotCtl) (rd rs : Fin 32) (s : State) : Out :=
  .next (s.slot c ctl (opSqrt rd rs))
/-- LOG2: one slot of a bundle. -/
def execCoreLog2 (c : Fin 128) (ctl : SlotCtl) (rd rs : Fin 32) (s : State) : Out :=
  .next (s.slot c ctl (opLog2 rd rs))
/-- EXP2: one slot of a bundle. -/
def execCoreExp2 (c : Fin 128) (ctl : SlotCtl) (rd rs : Fin 32) (s : State) : Out :=
  .next (s.slot c ctl (opExp2 rd rs))
/-- MAG: one slot of a bundle. -/
def execCoreMag (c : Fin 128) (ctl : SlotCtl) (rd rs rt : Fin 32) (s : State) : Out :=
  .next (s.slot c ctl (opMag rd rs rt))
/-- ATAN2: one slot of a bundle. -/
def execCoreAtan2 (c : Fin 128) (ctl : SlotCtl) (rd rs rt : Fin 32) (s : State) : Out :=
  .next (s.slot c ctl (opAtan2 rd rs rt))

end Sys2Proof.Machine
end

