-- ==== Sys2Proof/Machine/CoreLoadStore.lean ====
section
/-!
DEFINITION. The meanings of the load/store operations (04, Table 4.3): each adds its slot to the bundle under way on a core.
-/
namespace Sys2Proof.Machine

/-- LD16: one slot of a bundle. -/
def execCoreLd16 (c : Fin 128) (ctl : SlotCtl) (x : L1) (s : State) : Out :=
  .next (s.slot c ctl (opLd16 x))
/-- LD24: one slot of a bundle. -/
def execCoreLd24 (c : Fin 128) (ctl : SlotCtl) (x : L1) (s : State) : Out :=
  .next (s.slot c ctl (opLd24 x))
/-- LD32: one slot of a bundle. -/
def execCoreLd32 (c : Fin 128) (ctl : SlotCtl) (x : L1) (s : State) : Out :=
  .next (s.slot c ctl (opLd32 x))
/-- LD64: one slot of a bundle. -/
def execCoreLd64 (c : Fin 128) (ctl : SlotCtl) (x : L1) (s : State) : Out :=
  .next (s.slot c ctl (opLd64 x))
/-- LD2: one slot of a bundle. -/
def execCoreLd2 (c : Fin 128) (ctl : SlotCtl) (d1 : Fin 16) (k : Fin 8) (d2 : Fin 16) (j : Fin 8) (s : State) : Out :=
  .next (s.slot c ctl (opLd2 d1 k d2 j))
/-- LDST: one slot of a bundle. -/
def execCoreLdst (c : Fin 128) (ctl : SlotCtl) (d : Fin 16) (k : Fin 8) (v : Fin 16) (j : Fin 8) (s : State) : Out :=
  .next (s.slot c ctl (opLdst d k v j))
/-- LD2ST: one slot of a bundle. -/
def execCoreLd2st (c : Fin 128) (ctl : SlotCtl) (quad : Fin 8) (k : Fin 8) (j : Fin 8) (v : Fin 16) (w : Bool) (s : State) : Out :=
  .next (s.slot c ctl (opLd2st quad k j v w))
/-- ST16: one slot of a bundle. -/
def execCoreSt16 (c : Fin 128) (ctl : SlotCtl) (trunc : Bool) (x : L1) (s : State) : Out :=
  .next (s.slot c ctl (opSt16 trunc x))
/-- ST24: one slot of a bundle. -/
def execCoreSt24 (c : Fin 128) (ctl : SlotCtl) (trunc : Bool) (x : L1) (s : State) : Out :=
  .next (s.slot c ctl (opSt24 trunc x))
/-- ST32: one slot of a bundle. -/
def execCoreSt32 (c : Fin 128) (ctl : SlotCtl) (x : L1) (s : State) : Out :=
  .next (s.slot c ctl (opSt32 x))
/-- ST64: one slot of a bundle. -/
def execCoreSt64 (c : Fin 128) (ctl : SlotCtl) (x : L1) (s : State) : Out :=
  .next (s.slot c ctl (opSt64 x))
/-- SMAX: one slot of a bundle. -/
def execCoreSmax (c : Fin 128) (ctl : SlotCtl) (best : Fin 32) (idx : Fin 32) (k : Fin 8) (single : Bool) (s : State) : Out :=
  .next (s.slot c ctl (opSearch .max best idx k single))
/-- SMIN: one slot of a bundle. -/
def execCoreSmin (c : Fin 128) (ctl : SlotCtl) (best : Fin 32) (idx : Fin 32) (k : Fin 8) (single : Bool) (s : State) : Out :=
  .next (s.slot c ctl (opSearch .min best idx k single))
/-- SMAXA: one slot of a bundle. -/
def execCoreSmaxa (c : Fin 128) (ctl : SlotCtl) (best : Fin 32) (idx : Fin 32) (k : Fin 8) (single : Bool) (s : State) : Out :=
  .next (s.slot c ctl (opSearch .maxa best idx k single))
/-- SMINA: one slot of a bundle. -/
def execCoreSmina (c : Fin 128) (ctl : SlotCtl) (best : Fin 32) (idx : Fin 32) (k : Fin 8) (single : Bool) (s : State) : Out :=
  .next (s.slot c ctl (opSearch .mina best idx k single))
/-- PMOV: one slot of a bundle. -/
def execCorePmov (c : Fin 128) (ctl : SlotCtl) (toG : Bool) (g : Fin 32) (k : Fin 8) (s : State) : Out :=
  .next (s.slot c ctl (opPmov toG g k))
/-- PADD: one slot of a bundle. -/
def execCorePadd (c : Fin 128) (ctl : SlotCtl) (k : Fin 8) (imm : Int) (s : State) : Out :=
  .next (s.slot c ctl (opPadd k imm))

end Sys2Proof.Machine
end

