-- ==== Sys2Proof/Machine/Fcu.lean ====
section
/-!
DEFINITION. Commands of the filter chain units: bank writes, swaps, errors and scrub (05, R161 to R167).
-/
namespace Sys2Proof.Machine

/-- Does a stage use a coefficient word. -/
def Stage.usesCoef (st : Stage) (w : Nat) : Bool :=
  (List.range 8).any fun i =>
    decide (st.coef + i * st.cstride ≤ w) && decide (w < st.coef + i * st.cstride + st.coefWords)
/-- Does a stage use a state word, in either pass. -/
def Stage.usesState (st : Stage) (xf : Bool) (w : Nat) : Bool :=
  decide (st.state ≤ w) && decide (w < st.state + (if xf then 16 else 8) * st.stateWords)
/-- Set a group's swap status. -/
def State.swapStatus (s : State) (k code : Nat) : State := s.setReg (Reg.swapStatus k) code

/-- BANK_WRITE: words to the inactive bank of the selected group, at once (R161). -/
def execBankWrite (p : Fin 16) (u : Fin 64) (g : Fin 16) (offset : Nat) (words : List Int) (s : State) : Out :=
  let k := grpKey u g
  let gs := s.grp k
  match gs.rec_ with
  | none => .next (s.reply 0x11)
  | some r =>
    if gs.plot ≠ p.val then .next (s.reply 0x11)
    else if words = [] ∨ words.length > 4096 then .next (s.reply 0x12)
    else if gs.swapAt.isSome ∨ gs.switchAt.isSome ∨ gs.fading then .next ((s.swapStatus k 0x10).reply 0)
    else if !(List.range words.length).all (fun i => r.stages.any fun st => st.usesCoef (offset + i)) then
      .next ((s.swapStatus k 0x12).reply 0)
    else .next (((s.putFcuWords u (1 - gs.bank) offset (words.map (wrapS 32))).swapStatus k 0).reply 0)
/-- SWAP_AT: the group changes to its inactive bank at input sample s; 0 names the earliest (R162). -/
def execSwapAt (p : Fin 16) (u : Fin 64) (g : Fin 16) (sample : Nat) (s : State) : Out :=
  let k := grpKey u g
  let gs := s.grp k
  match gs.rec_ with
  | none => .next (s.reply 0x11)
  | some r =>
    let n := 6 * r.inMult
    let sm := if sample = 0 then (s.actTick - 1) * n else sample
    if gs.plot ≠ p.val then .next (s.reply 0x11)
    else if gs.swapAt.isSome ∨ gs.switchAt.isSome ∨ gs.fading then .next ((s.swapStatus k 0x10).reply 0)
    else if sm / n + 1 < s.actTick then .next ((s.swapStatus k 0x11).reply 0)
    else if sm / n > s.tick + 16777216 then .next ((s.swapStatus k 0x12).reply 0)
    else .next ((((s.setGrp k { gs with swapAt := some sm }).swapStatus k 1).setReg (Reg.grpState k) 2).reply 0)
/-- FCU_SWAP_BEGIN: in the tick that computes the named block, before its window, the swap begins at the named sample;
a block that a jump skipped begins it from the first stage-sample (R163 to R165). -/
def execFcuSwapBegin (u : Fin 64) (g : Fin 16) (s : State) : Out :=
  let k := grpKey u g
  let gs := s.grp k
  match gs.rec_, gs.swapAt with
  | some r, some sm =>
    let n := 6 * r.inMult
    if gs.ran ∨ sm / n + 1 > s.tick then .next s
    else
      let s1 := s.setGrp k { gs with
        swapAt := none, switchAt := some (if sm / n + 1 = s.tick then sm % n else 0), named := sm, pos := 0 }
      .next (if r.xf then (s1.swapStatus k 2).setReg (Reg.grpState k) 3 else s1)
  | _, _ => .next s
/-- FCU_FADE_END: in the reserved cycles pass B's state is copied over pass A's; the banks change places and the group
is RUNNING (R164). -/
def execFcuFadeEnd (u : Fin 64) (g : Fin 16) (s : State) : Out :=
  let k := grpKey u g
  let gs := s.grp k
  match gs.rec_ with
  | none => .next s
  | some r =>
    if !gs.fadeDone then .next s
    else
      let s1 := overL r.stages (fun s st =>
        s.putState u st.state (s.fcuWords u (st.state + 8 * st.stateWords) (8 * st.stateWords))) s
      let s2 := s1.setGrp k { gs with fading := false, fadeDone := false, pos := 0, bank := 1 - gs.bank }
      .next (s2.setRegs [(Reg.grpBank k, (1 - gs.bank : Nat)), (Reg.grpState k, 1), (Reg.swapStatus k, 0),
        (Reg.swapDoneSample k, gs.named)])

/-- An error in a group's work: outputs and state of the block zero, counted, logged, the plot's fault, evidence
(R166; 08, R236). -/
def State.groupError (s : State) (k addr : Nat) (next : Bool) : State :=
  let gs := s.grp k
  match gs.rec_ with
  | none => s
  | some r =>
    let s1 := (((s.bump (Reg.grpUecc k)).logEvent 0x0403 2 gs.plot (k / 16 * 256 + k % 16) addr).plotFault gs.plot 2).evidence
      gs.plot
    if next then s1.setGrp k { s1.grp k with errorNext := true }
    else if gs.ran then
      overN 8 (fun s i =>
        let x := sigOf 11 (r.fcu * 128 + r.group * 8 + i)
        s.setSource x (silence (NTable.get [] s.src x)))
        ((s1.zeroGroupState r).setGrp k { s1.grp k with rampUp := true })
    else s1.setGrp k { s1.grp k with error := true }
/-- FCU_UECC: an uncorrectable error or a residue failure in a group's work; coefficient words are rewritten from the
reference copy, which equals them (R166). -/
def execFcuUecc (u : Fin 64) (g : Fin 16) (addr : Nat) (s : State) : Out :=
  .next (s.groupError (grpKey u g) addr false)
/-- Does a group use one of the two words of a 64-bit word of its FCU: a bank's, or of the state memory (R167). -/
def FcuGroup.usesWord (r : FcuGroup) (w : Nat) : Bool :=
  r.stages.any fun st =>
    if w < 32768 then st.usesCoef (w % 16384) || st.usesCoef (w % 16384 + 1)
    else st.usesState r.xf (w - 32768) || st.usesState r.xf (w - 32767)
/-- FCU_SCRUB: 512 words of each FCU, in address order; an uncorrectable word among them is repaired, and every group that
uses it takes R166 in the next tick. Words 0 to 16,383 of 64 bits are the banks, the others the state memory (R167). -/
def execFcuScrub (uncorrectable : List (Fin 64 × Nat)) (s : State) : Out :=
  let s0 := { s with fcuScrub := (s.fcuScrub + 512) % 24576 }
  .next (overL (uncorrectable.filter fun e => decide (s.fcuScrub ≤ e.2) && decide (e.2 < s.fcuScrub + 512)) (fun s e =>
    let u := e.1.val
    let w := e.2 * 2
    let users := (List.range 16).filter fun g =>
      match (s.grp (grpKey u g)).rec_ with | some r => r.usesWord w | none => false
    let s1 := if users = [] then s.logEvent 0x0403 2 16 (u * 256 + 255) w
      else overL users (fun s g => s.groupError (grpKey u g) w true) s
    if w < 32768 then s1 else s1.putState u (w - 32768) [0, 0]) s0)

end Sys2Proof.Machine
end

