-- ==== Sys2Proof/Machine/Meters.lean ====
section
/-!
DEFINITION. Meters (17, R481 to R483).
-/
namespace Sys2Proof.Machine

/-- May a plot meter an identifier: it owns it, or reads it as a handoff. -/
def State.mayMeter (s : State) (p : Nat) (x : SigId) : Bool :=
  sigValid x && (s.sigOwner x == some p || (sigClass x == 15 && s.mayRead p (sigIdx x)))
/-- Identifiers of the records of a set. -/
def meterIds (b : List Byte) : List SigId := (records 4 b).map fun r => leAt r 0 4
/-- The first tick of a metering period of v rounds that is not before t (R482). -/
def periodStart (t v : Nat) : Nat := (t + 8 * v - 1) / (8 * v) * (8 * v)
/-- The code that a set is refused with (R482; log entry 114). -/
def State.meterCode (s : State) (p : Nat) (b : List Byte) : Option Nat :=
  if b = [] ∨ b.length % 4 ≠ 0 ∨ b.length > 1024 ∨ (meterIds b).any (fun x => decide (x ≥ 131072)) then some 0x10
  else if (meterIds b).all (s.mayMeter p) then none else some 0x11
/-- MTR_SET: checked at acceptance; a set that waits is replaced (R482). -/
def execMtrSet (p : Fin 16) (recs : List Byte) (s : State) : Out :=
  match s.meterCode p recs with
  | some c => .next ((s.setReg (Reg.mtrStatus p) c).reply 0)
  | none =>
    let x := s.plot p
    let v := match x.periodPend with | some e => e.2 | none => x.meterP
    let s1 := s.modPlot p fun x => { x with meterPend := some (periodStart s.actTick v, meterIds recs) }
    .next (((s1.setBlob (Reg.mtrSet p) recs).setReg (Reg.mtrStatus p) 1).reply 0)
/-- MTR_PERIOD in rounds; a set that waits takes effect with it (R482). -/
def execMtrPeriod (p : Fin 16) (v : Nat) (s : State) : Out :=
  if v < 1 ∨ v > 1000 then .next (s.reply 0x13)
  else
    let n := periodStart s.actTick v
    let s1 := s.modPlot p fun x => { x with
      periodPend := some (n, v), meterPend := x.meterPend.map fun e => (n, e.2) }
    .next ((s1.setRegs [(Reg.mtrPeriod p, (v : Int)), (Reg.mtrStatus p, 1)]).reply 0)
/-- METER_SET_APPLY: a set or a period that is due is checked again; it takes effect, or the set in force stays (R482). -/
def execMeterSetApply (p : Fin 16) (s : State) : Out :=
  let x := s.plot p
  let set := x.meterPend.filter fun e => decide (e.1 ≤ s.tick)
  let per := x.periodPend.filter fun e => decide (e.1 ≤ s.tick)
  if set.isNone && per.isNone then .next s
  else
    let ids := match set with | some e => e.2 | none => x.meters
    let v := match per with | some e => e.2 | none => x.meterP
    let s1 := s.modPlot p fun y => { y with
      meterPend := if set.isSome then none else y.meterPend, periodPend := if per.isSome then none else y.periodPend }
    if ids.all (s.mayMeter p) then
      let s2 := s1.modPlot p fun y => { y with meterNext := some (ids, v), meterP := v }
      .next ((s2.setRegs [(Reg.mtrCount p, (ids.length : Int)), (Reg.mtrStatus p, 0)]).notifyPlot p 4 (Reg.mtrStatus p))
    else
      let s2 := s1.setBlob (Reg.mtrSet p) (x.meters.flatMap fun i => leBytes 4 i)
      .next ((s2.setRegs [(Reg.mtrPeriod p, (x.meterP : Int)), (Reg.mtrStatus p, 0x11)]).notifyPlot p 4 (Reg.mtrStatus p))

/-- A meter takes a block. -/
def MeterAcc.add (a : MeterAcc) (b : List Sample) : MeterAcc := {
  peak := b.foldl (fun m x => max m x.natAbs) a.peak
  squares := a.squares + sumN (b.map fun x => x.natAbs * x.natAbs)
  count := a.count + b.length
  clips := a.clips + b.countP fun x => decide (x.natAbs ≥ 2147483647) }
/-- The meters of a plot take the blocks of the tick that ends; its period ends with its last tick, or where another set
follows (R481, R482). -/
def State.meterTick (s : State) (p : Nat) : State :=
  let x := s.plot p
  if x.meters = [] && x.meterNext.isNone then s
  else
    let k := s.tick
    let acc : NTable MeterAcc := if k ≤ x.meterFrom then x.meterAcc else
      (x.meters.zipIdx.map fun (e : SigId × Nat) =>
        (e.2, (NTable.get {} x.meterAcc e.2 : MeterAcc).add (s.watched p e.1))).filter fun (e : Nat × MeterAcc) => e.2 != {}
    if x.meterNext.isNone && decide (k < x.meterTo) && decide (x.meterFrom ≤ k) then s.modPlot p fun y => { y with meterAcc := acc }
    else
      let done := x.meters.zipIdx.map fun (e : SigId × Nat) => (e.1, (NTable.get {} acc e.2 : MeterAcc))
      let ids := match x.meterNext with | some e => e.1 | none => x.meters
      let v := x.meterP
      s.modPlot p fun y => { y with
        meterDone := if done = [] then y.meterDone else some (x.meterFrom, k != x.meterTo, done)
        meters := ids, meterNext := none, meterAcc := [], meterFrom := k, meterTo := (k / (8 * v) + 1) * (8 * v) }
/-- Entry of a meter (17, Table 17.9). -/
def meterEntry (early : Bool) (x : SigId) (a : MeterAcc) : List Byte :=
  let rms := if a.count = 0 then 0 else min 2147483647 ((isqrt (4 * a.squares / a.count) + 1) / 2)
  leBytes 4 x ++ leBytes 4 (min 2147483647 a.peak) ++ leBytes 4 rms ++ leBytes 2 (min 65535 a.clips) ++
    leBytes 1 ((if early then 2 else 0) + if a.count = 0 then 1 else 0) ++ [0]
/-- Entries of one period go to a ring in pages of their own; those that find both staging pages full are dropped (16, R467;
R481). -/
def Ring.stagePages (r : Ring) (first last : Nat) (pages : List (List (List Byte))) : Ring :=
  pages.foldl (fun r e =>
    if r.staged.length < 2 then { r with staged := r.staged ++ [⟨e, first, last, r.gap⟩], gap := false }
    else { r with status := r.status ||| 8, gap := true }) r
/-- METER_PERIOD_END: the values of a period that has ended are in place (R481). -/
def execMeterPeriodEnd (p : Fin 16) (s : State) : Out :=
  match (s.plot p).meterDone with
  | none => .next s
  | some (n, early, ms) =>
    let es := ms.map fun e => meterEntry early e.1 e.2
    let s1 := s.modPlot p fun x => { x with meterDone := none }
    let s2 := (s1.setBlob (Reg.mtrValues p) es.flatten).setReg (Reg.mtrTick p) n
    let pages := (if es.length > 251 then [es.take 251, es.drop 251] else [es])
    .next { s2 with rings := s2.rings.map fun (e : Nat × Ring) =>
      if e.2.owner == p.val && e.2.kind == 0 then (e.1, e.2.stagePages n ((s.plot p).meterFrom - 1) pages) else e }

end Sys2Proof.Machine
end

