-- ==== Sys2Proof/Machine/Rings.lean ====
section
/-!
DEFINITION. The PCIe host interface: rings, pages, the mailbox (16, R462, R465 to R471).
-/
namespace Sys2Proof.Machine

/-- A ring. -/
def State.ring (s : State) (r : Nat) : Ring := NTable.get {} s.rings r
/-- Change a ring. -/
def State.modRing (s : State) (r : Nat) (f : Ring → Ring) : State := { s with rings := NTable.mod {} s.rings r f }
/-- Is a ring open. -/
def Ring.isOpen (r : Ring) : Bool := r.owner != 255
/-- Is a page free to the producer: PROD - CONS below PAGES, modulo 2^32. -/
def Ring.free (r : Ring) : Bool := decide ((r.prod + 4294967296 - r.cons) % 4294967296 < r.pages)
/-- Is a number a power of 2. -/
def isPow2 (n : Nat) : Bool := (List.range 32).any fun k => n == 2 ^ k

/-- A page with its seal (R466). -/
def sealPage (seq : Nat) (body : List Byte) : List Byte :=
  let b := (body ++ List.replicate (4088 - body.length) 0).take 4088
  b ++ leBytes 4 (crc32 b) ++ leBytes 4 seq
/-- A page of entries (Table 16.7). -/
def Ring.pageBytes (r : Ring) (g : StagedPage) : List Byte :=
  let size := match g.entries with | e :: _ => e.length | [] => 16
  sealPage r.nextSeq ([0x42, 0x58, 0x50, 0x47] ++ leBytes 1 r.kind ++ leBytes 1 (if r.owner < 16 then r.owner else 255) ++
    leBytes 2 size ++ leBytes 8 r.nextSeq ++ leBytes 8 g.first ++ leBytes 8 g.last ++ leBytes 2 g.entries.length ++
    leBytes 2 (if g.gap then 1 else 0) ++ List.replicate 28 0 ++ g.entries.flatten)
/-- A due page is dropped: its sequence number is used up, no index is (R468). -/
def Ring.dropPage (r : Ring) : Ring := { r with
  nextSeq := r.nextSeq + 1, lost := (r.lost + 1) % 4294967296, status := r.status ||| 4 }
/-- A page is written at PROD and sealed: PROD advances; the vector rises once per COALESCE pages (R467). -/
def State.writePage (s : State) (r : Nat) (bytes : List Byte) : State :=
  let x := s.ring r
  let full := decide (x.run + 1 ≥ x.coalesce)
  let s1 := s.modRing r fun x => { x with
    prod := (x.prod + 1) % 4294967296, nextSeq := x.nextSeq + 1, run := if full then 0 else x.run + 1, stalled := false }
  let s2 := { s1 with host := { s1.host with page := some (r, x.prod % x.pages, bytes) } }
  s2.when (full && x.vector != 255) fun s => s.msix x.vector
/-- PAGE_WRITE: the oldest page of the staging area is due, and credits have returned (R467 to R469); in a warm reset no page is written until
the restore (18, Table 18.2). -/
def execPageWrite (r : Fin 64) (s : State) : Out :=
  let x := s.ring r
  match x.staged with
  | [] => .next s
  | g :: t =>
    let s1 := s.modRing r fun y => { y with staged := t, stalled := false }
    if !x.isOpen ∨ s.rst.kind = 3 then .next s
    else if !x.free then .next (s1.modRing r Ring.dropPage)
    else
      let s2 := s1.writePage r (x.pageBytes g)
      .next (s2.setReg (Reg.ringPagesSealed r) (bump64 (s.reg (Reg.ringPagesSealed r))))
/-- PAGE_ABANDON: no posted-write credit for 100 us. A page that has begun is abandoned unsealed; while the host stalls, a
page that falls due is dropped (R469). -/
def execPageAbandon (r : Fin 64) (s : State) : Out :=
  let x := s.ring r
  match x.staged with
  | [] => .next s
  | _ :: t =>
    let s1 := s.modRing r fun y => { y with staged := t }
    if !x.isOpen then .next s
    else if x.stalled || !x.free then .next (s1.modRing r Ring.dropPage)
    else
      let s2 := s1.modRing r fun y => { y with
        prod := (y.prod + 1) % 4294967296, nextSeq := y.nextSeq + 1, lost := (y.lost + 1) % 4294967296
        status := y.status ||| 2, stalled := true }
      .next (s2.logEvent 0x0702 1 16 r x.nextSeq)

/-- RING_OPEN by a session: the record of Table 16.5 (R465). -/
def execRingOpen (n : Fin 64) (r : Fin 64) (rec_ : List Byte) (s : State) : Out :=
  let ss : Session := NTable.get {} s.sessions n
  let base := leAt rec_ 0 8
  let pages := leAt rec_ 8 4
  let kind := leAt rec_ 12 1
  let vector := leAt rec_ 13 1
  let coalesce := leAt rec_ 14 2
  if !ss.open_ || ss.role == 2 then .next (s.reply 0x11)
  else if rec_.length ≠ 24 then .next (s.reply 0x12)
  else if r.val ≥ 62 ∨ kind > 3 ∨ base % 4096 ≠ 0 ∨ pages < 2 ∨ pages > 65536 ∨ !isPow2 pages ∨
      !(decide (1 ≤ vector) && decide (vector ≤ 4) || vector == 255) ∨ coalesce < 1 ∨ coalesce > 256 ∨
      leAt rec_ 16 8 ≠ 0 then .next (s.reply 0x13)
  else if kind = 3 ∧ ss.role ≠ 0 then .next (s.reply 0x11)
  else if (s.ring r).isOpen then .next (s.reply 0x14)
  else
    let x : Ring := { owner := if ss.role = 0 then 16 else ss.plot, base := base, pages := pages, kind := kind
                      vector := vector, coalesce := coalesce, status := 1 }
    .next (((s.modRing r fun _ => x).setReg (Reg.ringPagesSealed r) 0).reply 0)
/-- RING_CLOSE by the gardener role's session or one of the ring's plot (R465, R471). -/
def execRingClose (n : Fin 64) (r : Fin 64) (s : State) : Out :=
  let ss : Session := NTable.get {} s.sessions n
  let x := s.ring r
  let may := ss.open_ && (ss.role == 0 || (ss.role == 1 && (x.owner == ss.plot || !x.isOpen)))
  if !may then .next (s.reply 0x11)
  else if r.val ≥ 62 then .next (s.reply 0x13)
  else .next ((s.closeRing r).reply 0)
/-- RING_INDEX_WRITE at an offset of the ring's block: the host's index, and STATUS, write 1 to clear (Table 16.6). -/
def execRingIndexWrite (r : Fin 64) (off v : Nat) (s : State) : Out :=
  let x := s.ring r
  let host := x.kind == 3 || x.kind == 4
  let w := v % 4294967296
  if !x.isOpen then .next s
  else if off = 0 ∧ host then .next (s.modRing r fun y => { y with prod := w })
  else if off = 4 ∧ !host then .next (s.modRing r fun y => { y with cons := w })
  else if off = 0x14 then .next (s.modRing r fun y => { y with status := y.status - (y.status &&& w &&& 14) })
  else .next s

/-- MBOX_OPEN through BAR2: rings 62 and 63; closing them closes their sessions (R465). -/
def execMboxOpen (inBase outBase pages : Nat) (up : Bool) (s : State) : Out :=
  let s1 := { s with host := { s.host with inBase := inBase, outBase := outBase, mboxPages := pages } }
  if !up then
    let s2 := (s1.closeSessions fun ss => ss.transport == 3)
    .next { (s2.closeRing 62).closeRing 63 with host := { s2.host with mbox := false } }
  else if s.host.mbox ∨ pages < 2 ∨ pages > 256 ∨ !isPow2 pages then .next s1
  else
    let mk (base kind : Nat) : Ring := { owner := 16, base := base, pages := pages, kind := kind, vector := 0, status := 1 }
    let s2 := (s1.modRing 62 fun _ => mk inBase 4).modRing 63 fun _ => mk outBase 5
    .next { s2 with host := { s2.host with mbox := true } }
/-- A message of the engine goes to MBOX_OUT, one to a page (R465, R470; log entry 115). -/
def State.mboxOut (s : State) (msg : List Byte) : State :=
  let x := s.ring 63
  if !s.host.mbox then s
  else if !x.free then s.modRing 63 Ring.dropPage
  else s.writePage 63 (sealPage x.nextSeq msg)
/-- A message of the host has been taken from MBOX_IN. -/
def State.mboxIn (s : State) : State := s.modRing 62 fun y => { y with cons := (y.cons + 1) % 4294967296 }
/-- PCIE_LINK_LOSS (R462). -/
def execPcieLinkLoss (s : State) : Out := .next s.pcieDown

end Sys2Proof.Machine
end

