-- ==== Sys2Proof/Machine/DictRows.lean ====
section
/-!
DEFINITION. The object dictionary as rows: what READ, WRITE and DIR_ENTRY answer for an index and a sub-index
(17_dictionary_reference, R472-R479).
-/
namespace Sys2Proof.Machine

/-- One object, or one template of objects: index, count of indices, first sub-index, count, type code (R474),
access 0 RO 1 RW 2 WO 3 CMD 4 RWT (R12, R475), timed (R476), chosen by a selector, least and greatest value. -/
structure ObjInfo where
  idx : Nat
  span : Nat
  sub : Nat
  subs : Nat
  ty : Nat
  acc : Nat
  timed : Bool
  sel : Bool
  lo : Int
  hi : Int
  deriving DecidableEq, Repr

/-- Rows of the dictionary, part 0. -/
def dictRows0 : List ObjInfo := [
  ⟨19968, 1, 1, 1, 12, 0, false, false, 0, 18446744073709551615⟩,
  ⟨19968, 1, 2, 1, 5, 0, false, false, 0, 18446744073709551615⟩,
  ⟨19968, 1, 3, 1, 2, 0, false, false, 0, 255⟩,
  ⟨19984, 16, 1, 1, 15, 2, false, false, 0, 0⟩,
  ⟨19984, 16, 2, 1, 12, 3, false, false, 0, 18446744073709551615⟩,
  ⟨19984, 16, 3, 1, 1, 3, false, false, 0, 1⟩,
  ⟨19984, 16, 4, 1, 2, 0, false, false, 0, 255⟩,
  ⟨19984, 16, 5, 1, 2, 0, false, false, 0, 255⟩,
  ⟨19984, 16, 6, 1, 4, 0, false, false, 0, 4294967295⟩,
  ⟨19984, 16, 7, 1, 5, 0, false, false, 0, 18446744073709551615⟩,
  ⟨19984, 16, 8, 1, 5, 0, false, false, 0, 18446744073709551615⟩,
  ⟨19984, 16, 9, 1, 12, 0, false, false, 0, 18446744073709551615⟩,
  ⟨19984, 16, 10, 1, 12, 0, false, false, 0, 18446744073709551615⟩,
  ⟨20000, 16, 1, 1, 4, 0, false, false, 0, 4294967295⟩,
  ⟨20000, 16, 2, 1, 12, 0, false, false, 0, 18446744073709551615⟩,
  ⟨20000, 16, 3, 1, 3, 0, false, false, 0, 65535⟩,
  ⟨20000, 16, 4, 1, 1, 0, false, false, 0, 1⟩,
  ⟨20016, 16, 1, 1, 4, 1, false, false, 0, 131071⟩,
  ⟨20016, 16, 2, 1, 4, 0, false, false, 0, 4294967295⟩,
  ⟨20480, 1, 1, 1, 4, 1, false, false, 0, 131071⟩,
  ⟨20480, 1, 2, 1, 2, 0, false, false, 0, 255⟩,
  ⟨20480, 1, 3, 1, 2, 0, false, false, 0, 255⟩,
  ⟨20480, 1, 4, 1, 2, 0, false, false, 0, 255⟩,
  ⟨20480, 1, 5, 1, 4, 0, false, false, 0, 4294967295⟩,
  ⟨20480, 1, 6, 1, 1, 0, false, false, 0, 1⟩,
  ⟨20736, 16, 1, 1, 15, 0, false, false, 0, 0⟩,
  ⟨20736, 16, 2, 1, 15, 2, false, false, 0, 0⟩,
  ⟨20736, 16, 3, 1, 15, 4, false, false, 0, 0⟩,
  ⟨20736, 16, 4, 1, 2, 0, false, false, 0, 255⟩,
  ⟨20736, 16, 5, 1, 4, 0, false, false, 0, 4294967295⟩,
  ⟨20736, 16, 6, 1, 4, 0, false, false, 0, 4294967295⟩,
  ⟨20992, 1, 1, 1, 3, 1, false, false, 0, 8191⟩,
  ⟨20992, 1, 2, 1, 4, 1, false, true, 0, 4294967295⟩,
  ⟨20992, 1, 3, 1, 8, 1, false, true, -14400, 0⟩,
  ⟨20992, 1, 4, 1, 4, 1, false, true, 1, 480000⟩,
  ⟨20992, 1, 5, 1, 1, 0, false, true, 0, 1⟩,
  ⟨21248, 1, 1, 1, 3, 1, false, false, 0, 255⟩,
  ⟨21248, 1, 2, 1, 2, 1, true, true, 0, 2⟩,
  ⟨21248, 1, 3, 1, 4, 1, true, true, 1, 96000000⟩,
  ⟨21248, 1, 4, 1, 8, 1, true, true, -14400, 0⟩]
/-- Rows of the dictionary, part 1. -/
def dictRows1 : List ObjInfo := [
  ⟨21248, 1, 5, 1, 4, 1, true, true, 0, 4294967295⟩,
  ⟨21504, 1, 1, 1, 3, 1, false, false, 0, 2047⟩,
  ⟨21504, 1, 2, 1, 2, 0, false, true, 0, 255⟩,
  ⟨21504, 1, 3, 1, 1, 0, false, true, 0, 1⟩,
  ⟨21505, 1, 1, 1, 2, 1, false, false, 0, 255⟩,
  ⟨21505, 1, 2, 1, 2, 0, false, true, 0, 255⟩,
  ⟨21505, 1, 3, 1, 4, 0, false, true, 0, 4294967295⟩,
  ⟨21505, 1, 4, 1, 8, 0, false, true, -2147483648, 2147483647⟩,
  ⟨21505, 1, 5, 1, 4, 0, false, true, 0, 4294967295⟩,
  ⟨16385, 1, 1, 1, 3, 1, false, false, 0, 2047⟩,
  ⟨16385, 1, 2, 1, 11, 1, false, true, -2147483648, 2147483647⟩,
  ⟨16385, 1, 3, 1, 11, 4, false, true, -2147483648, 2147483647⟩,
  ⟨16385, 1, 4, 1, 1, 1, true, true, 0, 1⟩,
  ⟨16385, 1, 5, 1, 4, 1, true, true, 0, 80000⟩,
  ⟨16385, 1, 6, 1, 2, 1, true, true, 0, 2⟩,
  ⟨16385, 1, 7, 1, 3, 0, false, true, 0, 65535⟩,
  ⟨16385, 1, 8, 1, 11, 0, false, true, -2147483648, 2147483647⟩,
  ⟨16385, 1, 9, 1, 4, 0, false, true, 0, 4294967295⟩,
  ⟨16386, 1, 1, 1, 3, 1, false, false, 0, 65535⟩,
  ⟨16386, 1, 2, 1, 11, 1, false, true, -2147483648, 2147483647⟩,
  ⟨16386, 1, 3, 1, 11, 4, false, true, -2147483648, 2147483647⟩,
  ⟨16386, 1, 4, 1, 1, 1, true, true, 0, 1⟩,
  ⟨16386, 1, 5, 1, 4, 1, true, true, 0, 80000⟩,
  ⟨16386, 1, 6, 1, 2, 1, true, true, 0, 1⟩,
  ⟨16386, 1, 7, 1, 4, 0, false, true, 0, 4294967295⟩,
  ⟨16386, 1, 8, 1, 11, 0, false, true, -2147483648, 2147483647⟩,
  ⟨19456, 1, 1, 1, 2, 0, false, false, 0, 255⟩,
  ⟨19456, 1, 2, 1, 15, 0, false, false, 0, 0⟩,
  ⟨19457, 1, 1, 1, 2, 1, false, false, 0, 127⟩,
  ⟨19457, 1, 2, 1, 2, 0, false, true, 0, 255⟩,
  ⟨19457, 1, 3, 1, 2, 0, false, true, 0, 255⟩,
  ⟨19457, 1, 4, 1, 4, 0, false, true, 0, 4294967295⟩,
  ⟨19457, 1, 5, 1, 4, 0, false, true, 0, 4294967295⟩,
  ⟨19457, 1, 6, 1, 4, 0, false, true, 0, 4294967295⟩,
  ⟨19457, 1, 7, 1, 3, 0, false, true, 0, 65535⟩,
  ⟨19457, 1, 8, 1, 4, 0, false, true, 0, 4294967295⟩,
  ⟨19457, 1, 9, 1, 4, 0, false, true, 0, 4294967295⟩,
  ⟨19457, 1, 10, 1, 4, 0, false, true, 0, 4294967295⟩,
  ⟨19457, 1, 11, 1, 4, 0, false, true, 0, 4294967295⟩,
  ⟨19457, 1, 12, 1, 4, 0, false, true, 0, 4294967295⟩]
/-- Rows of the dictionary, part 2. -/
def dictRows2 : List ObjInfo := [
  ⟨19458, 1, 1, 1, 2, 1, false, false, 0, 255⟩,
  ⟨19458, 1, 2, 1, 15, 2, false, false, 0, 0⟩,
  ⟨19458, 1, 3, 1, 15, 4, false, false, 0, 0⟩,
  ⟨19458, 1, 4, 1, 4, 0, false, true, 0, 4294967295⟩,
  ⟨18432, 1, 1, 1, 2, 0, false, false, 0, 255⟩,
  ⟨18432, 1, 2, 1, 15, 0, false, false, 0, 0⟩,
  ⟨18433, 1, 1, 1, 2, 1, false, false, 0, 63⟩,
  ⟨18433, 1, 2, 1, 2, 1, false, false, 0, 15⟩,
  ⟨18433, 1, 3, 1, 2, 0, false, true, 0, 255⟩,
  ⟨18433, 1, 4, 1, 2, 0, false, true, 0, 255⟩,
  ⟨18433, 1, 5, 1, 4, 0, false, true, 0, 4294967295⟩,
  ⟨18433, 1, 6, 1, 4, 0, false, true, 0, 4294967295⟩,
  ⟨18433, 1, 7, 1, 4, 0, false, true, 0, 4294967295⟩,
  ⟨18433, 1, 8, 1, 4, 0, false, true, 0, 4294967295⟩,
  ⟨18433, 1, 9, 1, 2, 1, false, false, 0, 7⟩,
  ⟨18433, 1, 10, 1, 10, 0, false, true, -2147483648, 2147483647⟩,
  ⟨18434, 1, 1, 1, 3, 1, false, false, 0, 65535⟩,
  ⟨18434, 1, 2, 1, 15, 2, false, true, 0, 0⟩,
  ⟨18434, 1, 3, 1, 2, 1, false, false, 0, 1⟩,
  ⟨18434, 1, 4, 1, 15, 0, false, true, 0, 0⟩,
  ⟨18434, 1, 5, 1, 5, 3, false, true, 0, 18446744073709551615⟩,
  ⟨18434, 1, 6, 1, 2, 0, false, true, 0, 255⟩,
  ⟨18434, 1, 7, 1, 5, 0, false, true, 0, 18446744073709551615⟩,
  ⟨17408, 1, 1, 1, 2, 0, false, false, 0, 255⟩,
  ⟨17408, 1, 2, 1, 15, 0, false, false, 0, 0⟩,
  ⟨17408, 1, 3, 1, 4, 0, false, false, 0, 4294967295⟩,
  ⟨17409, 1, 1, 1, 2, 1, false, false, 0, 15⟩,
  ⟨17409, 1, 2, 1, 4, 0, false, true, 0, 4294967295⟩,
  ⟨17409, 1, 3, 1, 4, 0, false, true, 0, 4294967295⟩,
  ⟨17424, 1, 1, 1, 3, 1, false, false, 0, 32767⟩,
  ⟨17424, 1, 2, 1, 2, 0, false, true, 0, 255⟩,
  ⟨17424, 1, 3, 1, 4, 0, false, true, 0, 4294967295⟩,
  ⟨17424, 1, 4, 1, 2, 0, false, true, 0, 255⟩,
  ⟨17424, 1, 5, 1, 2, 0, false, true, 0, 255⟩,
  ⟨17424, 1, 6, 1, 3, 0, false, true, 0, 65535⟩,
  ⟨17424, 1, 7, 1, 3, 0, false, true, 0, 65535⟩,
  ⟨17424, 1, 8, 1, 2, 0, false, true, 0, 255⟩,
  ⟨17424, 1, 9, 1, 4, 0, false, true, 0, 4294967295⟩,
  ⟨17425, 1, 1, 1, 4, 1, false, false, 0, 4294967295⟩,
  ⟨17425, 1, 2, 1, 15, 2, false, true, 0, 0⟩]
/-- Rows of the dictionary, part 3. -/
def dictRows3 : List ObjInfo := [
  ⟨17425, 1, 3, 1, 2, 1, false, true, 0, 255⟩,
  ⟨17425, 1, 4, 1, 2, 1, false, false, 0, 1⟩,
  ⟨17425, 1, 5, 1, 15, 0, false, true, 0, 0⟩,
  ⟨17425, 1, 6, 1, 4, 0, false, false, 0, 4294967295⟩,
  ⟨17426, 1, 1, 1, 3, 1, false, false, 0, 1023⟩,
  ⟨17426, 1, 2, 1, 4, 0, false, true, 0, 4294967295⟩,
  ⟨17426, 1, 3, 1, 3, 0, false, true, 0, 65535⟩,
  ⟨17427, 1, 1, 1, 3, 1, false, false, 0, 1023⟩,
  ⟨17427, 1, 2, 1, 4, 0, false, true, 0, 4294967295⟩,
  ⟨17427, 1, 3, 1, 4, 0, false, true, 0, 4294967295⟩,
  ⟨17440, 16, 1, 1, 2, 1, false, false, 0, 255⟩,
  ⟨17440, 16, 2, 1, 12, 3, false, false, 0, 18446744073709551615⟩,
  ⟨17440, 16, 3, 1, 2, 0, false, false, 0, 255⟩,
  ⟨17440, 16, 4, 1, 3, 0, false, false, 0, 65535⟩,
  ⟨17440, 16, 5, 1, 12, 0, false, false, 0, 18446744073709551615⟩,
  ⟨17440, 16, 6, 1, 15, 2, false, false, 0, 0⟩,
  ⟨17440, 16, 7, 1, 1, 3, false, false, 0, 1⟩,
  ⟨17440, 16, 8, 1, 2, 0, false, false, 0, 255⟩,
  ⟨8960, 1, 1, 1, 2, 0, false, false, 0, 255⟩,
  ⟨8960, 1, 2, 1, 15, 0, false, false, 0, 0⟩,
  ⟨8960, 1, 3, 1, 2, 1, false, false, 1, 30⟩,
  ⟨8960, 1, 4, 1, 15, 0, false, true, 0, 0⟩,
  ⟨8960, 1, 5, 1, 4, 0, false, false, 0, 4294967295⟩,
  ⟨8976, 16, 1, 1, 2, 0, false, false, 0, 255⟩,
  ⟨8976, 16, 2, 1, 2, 0, false, false, 0, 255⟩,
  ⟨8976, 16, 3, 1, 2, 3, false, false, 0, 1⟩,
  ⟨8976, 16, 4, 1, 2, 4, false, false, 0, 1⟩,
  ⟨8976, 16, 5, 1, 12, 0, false, false, 0, 18446744073709551615⟩,
  ⟨8992, 16, 1, 16, 5, 1, false, false, 0, 18446744073709551615⟩,
  ⟨8992, 16, 17, 1, 4, 0, false, false, 0, 4294967295⟩,
  ⟨9008, 16, 1, 1, 15, 2, false, false, 0, 0⟩,
  ⟨9008, 16, 2, 1, 15, 2, false, false, 0, 0⟩,
  ⟨9008, 16, 3, 1, 2, 0, false, false, 0, 255⟩,
  ⟨9008, 16, 4, 1, 4, 0, false, false, 0, 4294967295⟩,
  ⟨9008, 16, 5, 1, 2, 1, false, false, 1, 30⟩,
  ⟨9008, 16, 6, 1, 15, 0, false, true, 0, 0⟩,
  ⟨9024, 16, 1, 16, 5, 0, false, false, 0, 18446744073709551615⟩,
  ⟨9040, 16, 1, 1, 4, 3, false, false, 0, 4294967295⟩,
  ⟨9040, 16, 2, 1, 4, 3, false, false, 0, 4294967295⟩,
  ⟨9040, 16, 3, 1, 4, 3, false, false, 0, 4294967295⟩]
/-- Rows of the dictionary, part 4. -/
def dictRows4 : List ObjInfo := [
  ⟨9040, 16, 4, 1, 15, 0, false, false, 0, 0⟩,
  ⟨9040, 16, 5, 1, 2, 0, false, false, 0, 255⟩,
  ⟨9056, 16, 1, 1, 15, 2, false, false, 0, 0⟩,
  ⟨9056, 16, 2, 1, 15, 2, false, false, 0, 0⟩,
  ⟨9056, 16, 3, 1, 4, 0, false, false, 0, 4294967295⟩,
  ⟨9056, 16, 4, 1, 2, 0, false, false, 0, 255⟩,
  ⟨9072, 16, 1, 1, 4, 0, false, false, 0, 4294967295⟩,
  ⟨9072, 16, 2, 1, 4, 3, false, false, 0, 4294967295⟩,
  ⟨9072, 16, 3, 1, 4, 1, false, false, 0, 511⟩,
  ⟨9216, 1, 1, 1, 2, 0, false, false, 0, 255⟩,
  ⟨9216, 1, 2, 1, 2, 0, false, false, 0, 255⟩,
  ⟨9216, 1, 3, 1, 2, 0, false, false, 0, 255⟩,
  ⟨9216, 1, 4, 1, 2, 0, false, false, 0, 255⟩,
  ⟨9216, 1, 5, 1, 1, 0, false, false, 0, 1⟩,
  ⟨9216, 1, 6, 1, 1, 0, false, false, 0, 1⟩,
  ⟨9216, 1, 7, 1, 12, 0, false, false, 0, 18446744073709551615⟩,
  ⟨9216, 1, 8, 1, 5, 0, false, false, 0, 18446744073709551615⟩,
  ⟨9216, 1, 9, 1, 1, 0, false, false, 0, 1⟩,
  ⟨9216, 1, 10, 1, 1, 3, false, false, 0, 1⟩,
  ⟨9216, 1, 11, 1, 12, 3, false, false, 0, 18446744073709551615⟩,
  ⟨9216, 1, 12, 1, 1, 1, false, false, 0, 1⟩,
  ⟨9216, 1, 13, 1, 3, 1, false, false, 0, 1000⟩,
  ⟨9216, 1, 14, 1, 4, 1, false, false, 8000, 480000⟩,
  ⟨9216, 1, 15, 1, 1, 0, false, false, 0, 1⟩,
  ⟨9216, 1, 16, 1, 1, 3, false, false, 0, 1⟩,
  ⟨9217, 1, 1, 1, 2, 1, false, false, 0, 1⟩,
  ⟨9217, 1, 2, 1, 2, 0, false, true, 0, 255⟩,
  ⟨9217, 1, 3, 1, 4, 0, false, true, 0, 4294967295⟩,
  ⟨9217, 1, 4, 1, 4, 0, false, true, 0, 4294967295⟩,
  ⟨9217, 1, 5, 1, 4, 0, false, true, 0, 4294967295⟩,
  ⟨9218, 1, 1, 1, 4, 0, false, false, 0, 4294967295⟩,
  ⟨9218, 1, 2, 1, 12, 0, false, false, 0, 18446744073709551615⟩,
  ⟨9218, 1, 3, 1, 3, 0, false, false, 0, 65535⟩,
  ⟨9218, 1, 4, 1, 2, 0, false, false, 0, 255⟩,
  ⟨9218, 1, 5, 1, 4, 0, false, false, 0, 4294967295⟩,
  ⟨9218, 1, 6, 1, 4, 0, false, false, 0, 4294967295⟩,
  ⟨9218, 1, 7, 1, 4, 0, false, false, 0, 4294967295⟩,
  ⟨9218, 1, 8, 1, 4, 0, false, false, 0, 4294967295⟩,
  ⟨9218, 1, 9, 1, 4, 0, false, false, 0, 4294967295⟩,
  ⟨9218, 1, 10, 1, 4, 0, false, false, 0, 4294967295⟩]
/-- Rows of the dictionary, part 5. -/
def dictRows5 : List ObjInfo := [
  ⟨9219, 1, 1, 1, 4, 0, false, false, 0, 4294967295⟩,
  ⟨9219, 1, 2, 1, 4, 0, false, false, 0, 4294967295⟩,
  ⟨9219, 1, 3, 1, 4, 0, false, false, 0, 4294967295⟩,
  ⟨9219, 1, 4, 1, 4, 0, false, false, 0, 4294967295⟩,
  ⟨9219, 1, 5, 1, 4, 0, false, false, 0, 4294967295⟩,
  ⟨9220, 1, 1, 1, 2, 1, false, false, 0, 151⟩,
  ⟨9220, 1, 2, 1, 2, 1, false, true, 0, 2⟩,
  ⟨9221, 1, 1, 1, 1, 3, false, false, 0, 1⟩,
  ⟨9221, 1, 2, 1, 2, 0, false, false, 0, 255⟩,
  ⟨9221, 1, 3, 1, 2, 0, false, false, 0, 255⟩,
  ⟨9221, 1, 4, 1, 4, 0, false, false, 0, 4294967295⟩,
  ⟨9221, 1, 5, 1, 12, 0, false, false, 0, 18446744073709551615⟩,
  ⟨9221, 1, 6, 1, 1, 3, false, false, 0, 1⟩,
  ⟨9222, 1, 1, 1, 4, 0, false, false, 0, 4294967295⟩,
  ⟨9222, 1, 2, 1, 4, 0, false, false, 0, 4294967295⟩,
  ⟨9222, 1, 3, 1, 4, 0, false, false, 0, 4294967295⟩,
  ⟨9222, 1, 4, 1, 4, 0, false, false, 0, 4294967295⟩,
  ⟨8448, 1, 1, 1, 2, 0, false, false, 0, 255⟩,
  ⟨8448, 1, 2, 1, 2, 0, false, false, 0, 255⟩,
  ⟨8448, 1, 3, 1, 2, 0, false, false, 0, 255⟩,
  ⟨8448, 1, 4, 1, 2, 1, true, false, 0, 6⟩,
  ⟨8448, 1, 5, 1, 2, 0, false, false, 0, 255⟩,
  ⟨8448, 1, 6, 1, 8, 0, false, false, -2147483648, 2147483647⟩,
  ⟨8448, 1, 7, 1, 9, 0, false, false, -9223372036854775808, 9223372036854775807⟩,
  ⟨8448, 1, 8, 1, 9, 0, false, false, -9223372036854775808, 9223372036854775807⟩,
  ⟨8448, 1, 9, 1, 12, 0, false, false, 0, 18446744073709551615⟩,
  ⟨8448, 1, 10, 1, 1, 1, true, false, 0, 1⟩,
  ⟨8448, 1, 11, 1, 4, 1, true, false, 0, 3600⟩,
  ⟨8448, 1, 12, 1, 4, 1, true, false, 10, 10000⟩,
  ⟨8448, 1, 13, 1, 9, 1, true, false, -500000000, 500000000⟩,
  ⟨8448, 1, 14, 1, 12, 0, false, false, 0, 18446744073709551615⟩,
  ⟨8448, 1, 15, 1, 2, 1, true, false, 0, 255⟩,
  ⟨8448, 1, 16, 1, 4, 0, false, false, 0, 4294967295⟩,
  ⟨8448, 1, 17, 1, 4, 0, false, false, 0, 4294967295⟩,
  ⟨8448, 1, 18, 1, 4, 3, false, false, 0, 4294967295⟩,
  ⟨8448, 1, 19, 1, 4, 1, true, false, 0, 2047⟩,
  ⟨8448, 1, 20, 1, 4, 0, false, false, 0, 4294967295⟩,
  ⟨8448, 1, 21, 1, 4, 0, false, false, 0, 4294967295⟩,
  ⟨8448, 1, 22, 1, 2, 0, false, false, 0, 255⟩,
  ⟨8448, 1, 23, 1, 4, 1, true, false, 0, 86400⟩]
/-- Rows of the dictionary, part 6. -/
def dictRows6 : List ObjInfo := [
  ⟨8464, 1, 1, 1, 2, 1, false, false, 0, 14⟩,
  ⟨8464, 1, 2, 1, 1, 1, true, true, 0, 1⟩,
  ⟨8464, 1, 3, 1, 2, 1, true, true, 1, 15⟩,
  ⟨8464, 1, 4, 1, 2, 1, true, true, 0, 255⟩,
  ⟨8464, 1, 5, 1, 2, 1, true, true, 0, 1⟩,
  ⟨8464, 1, 6, 1, 2, 1, true, true, 0, 15⟩,
  ⟨8464, 1, 7, 1, 2, 0, false, true, 0, 255⟩,
  ⟨8464, 1, 8, 1, 2, 0, false, true, 0, 255⟩,
  ⟨8464, 1, 9, 1, 9, 0, false, true, -9223372036854775808, 9223372036854775807⟩,
  ⟨8464, 1, 10, 1, 9, 0, false, true, -9223372036854775808, 9223372036854775807⟩,
  ⟨8464, 1, 11, 1, 3, 0, false, true, 0, 65535⟩,
  ⟨8464, 1, 12, 1, 3, 0, false, true, 0, 65535⟩,
  ⟨8464, 1, 13, 1, 8, 1, true, true, -10000000, 10000000⟩,
  ⟨8464, 1, 14, 1, 3, 1, true, true, 1, 300⟩,
  ⟨8464, 1, 15, 1, 4, 1, true, true, 10000, 500000⟩,
  ⟨8464, 1, 16, 1, 2, 1, true, true, 0, 23⟩,
  ⟨8464, 1, 17, 1, 4, 0, false, true, 0, 4294967295⟩,
  ⟨8480, 1, 1, 1, 2, 1, false, false, 0, 3⟩,
  ⟨8480, 1, 2, 1, 2, 1, true, true, 0, 255⟩,
  ⟨8480, 1, 3, 1, 2, 1, true, true, 1, 4⟩,
  ⟨8480, 1, 4, 1, 8, 1, true, true, -10000, 10000⟩,
  ⟨8480, 1, 5, 1, 2, 1, true, true, 0, 255⟩,
  ⟨8496, 1, 1, 1, 4, 1, true, false, 0, 16777215⟩,
  ⟨8496, 1, 2, 1, 2, 0, false, false, 0, 255⟩,
  ⟨8512, 1, 1, 1, 2, 1, false, false, 1, 25⟩,
  ⟨8512, 1, 2, 1, 5, 0, false, true, 0, 18446744073709551615⟩,
  ⟨8512, 1, 3, 1, 2, 0, false, true, 0, 255⟩,
  ⟨8512, 1, 4, 1, 4, 0, false, true, 0, 4294967295⟩,
  ⟨8528, 1, 1, 1, 4, 1, true, false, 0, 4294967295⟩,
  ⟨8528, 1, 2, 1, 2, 1, false, false, 0, 3⟩,
  ⟨8528, 1, 3, 1, 4, 1, true, true, 32000, 192000⟩,
  ⟨8528, 1, 4, 1, 9, 1, true, true, -500000000, 500000000⟩,
  ⟨8704, 1, 1, 1, 13, 0, false, false, 0, 0⟩,
  ⟨8704, 1, 2, 1, 4, 0, false, false, 0, 4294967295⟩,
  ⟨8704, 1, 3, 1, 5, 1, false, false, 0, 18446744073709551615⟩,
  ⟨8704, 1, 4, 1, 2, 0, false, false, 0, 255⟩,
  ⟨8704, 1, 5, 1, 13, 3, false, false, 0, 0⟩,
  ⟨8704, 1, 6, 1, 9, 3, false, false, -9223372036854775808, 9223372036854775807⟩,
  ⟨8704, 1, 7, 1, 9, 0, false, false, -9223372036854775808, 9223372036854775807⟩,
  ⟨8704, 1, 8, 1, 4, 1, false, false, 1000, 10000⟩]
/-- Rows of the dictionary, part 7. -/
def dictRows7 : List ObjInfo := [
  ⟨8704, 1, 9, 1, 9, 3, false, false, -9223372036854775808, 9223372036854775807⟩,
  ⟨8704, 1, 10, 1, 4, 0, false, false, 0, 4294967295⟩,
  ⟨8704, 1, 11, 1, 7, 1, false, false, -32768, 32767⟩,
  ⟨8704, 1, 12, 1, 2, 1, false, false, 0, 1⟩,
  ⟨8720, 1, 1, 1, 2, 1, false, false, 0, 255⟩,
  ⟨8720, 1, 2, 1, 2, 1, false, false, 0, 255⟩,
  ⟨8720, 1, 3, 1, 2, 1, false, false, 0, 255⟩,
  ⟨8720, 1, 4, 1, 2, 1, false, false, 0, 255⟩,
  ⟨8720, 1, 5, 1, 2, 1, false, false, 0, 255⟩,
  ⟨8720, 1, 6, 1, 1, 1, false, false, 0, 1⟩,
  ⟨8720, 1, 7, 1, 5, 0, false, false, 0, 18446744073709551615⟩,
  ⟨8720, 1, 8, 1, 2, 1, false, false, 0, 2⟩,
  ⟨8720, 1, 9, 1, 2, 1, false, false, 0, 255⟩,
  ⟨8736, 1, 1, 1, 2, 1, false, false, 0, 23⟩,
  ⟨8736, 1, 2, 1, 1, 1, false, true, 0, 1⟩,
  ⟨8736, 1, 3, 1, 2, 0, false, true, 0, 255⟩,
  ⟨8736, 1, 4, 1, 6, 1, false, true, -128, 127⟩,
  ⟨8736, 1, 5, 1, 6, 1, false, true, -128, 127⟩,
  ⟨8736, 1, 6, 1, 6, 1, false, true, -128, 127⟩,
  ⟨8736, 1, 7, 1, 1, 1, false, true, 0, 1⟩,
  ⟨8736, 1, 8, 1, 8, 1, false, true, -2147483648, 2147483647⟩,
  ⟨8736, 1, 9, 1, 8, 1, false, true, -2147483648, 2147483647⟩,
  ⟨8736, 1, 10, 1, 8, 1, false, true, -2147483648, 2147483647⟩,
  ⟨8736, 1, 11, 1, 9, 0, false, true, -9223372036854775808, 9223372036854775807⟩,
  ⟨8736, 1, 12, 1, 8, 0, false, true, -2147483648, 2147483647⟩,
  ⟨8736, 1, 13, 1, 4, 1, false, true, 100, 100000⟩,
  ⟨8736, 1, 14, 1, 4, 0, false, true, 0, 4294967295⟩,
  ⟨8736, 1, 15, 1, 4, 0, false, true, 0, 4294967295⟩,
  ⟨8752, 1, 1, 1, 2, 0, false, false, 0, 255⟩,
  ⟨8752, 1, 2, 1, 9, 0, false, false, -9223372036854775808, 9223372036854775807⟩,
  ⟨8752, 1, 3, 1, 9, 0, false, false, -9223372036854775808, 9223372036854775807⟩,
  ⟨8752, 1, 4, 1, 5, 0, false, false, 0, 18446744073709551615⟩,
  ⟨8752, 1, 5, 1, 3, 0, false, false, 0, 65535⟩,
  ⟨8752, 1, 6, 1, 5, 0, false, false, 0, 18446744073709551615⟩,
  ⟨8752, 1, 7, 1, 2, 0, false, false, 0, 255⟩,
  ⟨8768, 1, 1, 1, 15, 0, false, false, 0, 0⟩,
  ⟨8768, 1, 2, 1, 3, 0, false, false, 0, 65535⟩,
  ⟨8768, 1, 3, 1, 4, 0, false, false, 0, 4294967295⟩,
  ⟨8800, 1, 1, 1, 2, 1, false, false, 0, 23⟩,
  ⟨8800, 1, 2, 1, 2, 1, false, true, 0, 255⟩]
/-- Rows of the dictionary, part 8. -/
def dictRows8 : List ObjInfo := [
  ⟨8800, 1, 3, 1, 2, 1, false, true, 0, 255⟩,
  ⟨8800, 1, 4, 1, 1, 1, false, true, 0, 1⟩,
  ⟨8800, 1, 5, 1, 8, 1, false, true, -2147483648, 2147483647⟩,
  ⟨8800, 1, 6, 1, 5, 1, false, true, 0, 18446744073709551615⟩,
  ⟨8800, 1, 7, 1, 4, 1, false, true, 0, 4294967295⟩,
  ⟨8800, 1, 8, 1, 4, 1, false, true, 0, 4294967295⟩,
  ⟨8800, 1, 9, 1, 15, 3, false, true, 1, 8⟩,
  ⟨8800, 1, 10, 1, 2, 0, false, true, 0, 255⟩,
  ⟨8800, 1, 11, 1, 15, 0, false, true, 0, 0⟩,
  ⟨8800, 1, 12, 1, 15, 0, false, true, 0, 0⟩,
  ⟨8800, 1, 13, 1, 2, 0, false, true, 0, 255⟩,
  ⟨8800, 1, 14, 1, 4, 0, false, true, 0, 4294967295⟩,
  ⟨8800, 1, 15, 1, 1, 0, false, true, 0, 1⟩,
  ⟨12800, 24, 1, 1, 2, 1, false, false, 0, 255⟩,
  ⟨12800, 24, 2, 1, 2, 1, false, false, 0, 2⟩,
  ⟨12800, 24, 3, 1, 1, 1, false, false, 0, 1⟩,
  ⟨12800, 24, 4, 1, 2, 0, false, false, 0, 255⟩,
  ⟨12800, 24, 5, 1, 4, 0, false, false, 0, 4294967295⟩,
  ⟨12800, 24, 6, 1, 3, 1, false, false, 1, 4094⟩,
  ⟨12800, 24, 7, 1, 2, 1, false, false, 0, 2⟩,
  ⟨12800, 24, 8, 1, 4, 1, false, false, 0, 2004318071⟩,
  ⟨12800, 24, 9, 1, 15, 1, false, false, 0, 0⟩,
  ⟨12800, 24, 10, 1, 2, 1, false, false, 0, 255⟩,
  ⟨12800, 24, 11, 1, 2, 0, false, false, 0, 255⟩,
  ⟨12800, 24, 12, 1, 15, 1, false, false, 0, 0⟩,
  ⟨12800, 24, 13, 1, 3, 0, false, false, 0, 65535⟩,
  ⟨12800, 24, 14, 1, 1, 1, false, false, 0, 1⟩,
  ⟨12800, 24, 15, 1, 2, 1, false, false, 0, 3⟩,
  ⟨12800, 24, 16, 1, 4, 1, false, false, 100, 1000000⟩,
  ⟨12800, 24, 17, 1, 2, 0, false, false, 0, 255⟩,
  ⟨12800, 24, 18, 1, 1, 3, false, false, 0, 1⟩,
  ⟨12800, 24, 19, 1, 4, 0, false, false, 0, 4294967295⟩,
  ⟨12800, 24, 32, 1, 5, 0, false, false, 0, 18446744073709551615⟩,
  ⟨12800, 24, 33, 1, 5, 0, false, false, 0, 18446744073709551615⟩,
  ⟨12800, 24, 34, 1, 4, 0, false, false, 0, 4294967295⟩,
  ⟨12800, 24, 35, 1, 4, 0, false, false, 0, 4294967295⟩,
  ⟨12800, 24, 36, 1, 4, 0, false, false, 0, 4294967295⟩,
  ⟨12800, 24, 37, 1, 4, 0, false, false, 0, 4294967295⟩,
  ⟨12800, 24, 38, 1, 4, 0, false, false, 0, 4294967295⟩,
  ⟨12800, 24, 39, 1, 5, 0, false, false, 0, 18446744073709551615⟩]
/-- Rows of the dictionary, part 9. -/
def dictRows9 : List ObjInfo := [
  ⟨12800, 24, 40, 1, 5, 0, false, false, 0, 18446744073709551615⟩,
  ⟨12800, 24, 41, 1, 4, 0, false, false, 0, 4294967295⟩,
  ⟨12800, 24, 42, 1, 4, 0, false, false, 0, 4294967295⟩,
  ⟨12800, 24, 43, 1, 4, 0, false, false, 0, 4294967295⟩,
  ⟨12800, 24, 44, 1, 4, 0, false, false, 0, 4294967295⟩,
  ⟨12800, 24, 45, 1, 2, 1, false, false, 0, 7⟩,
  ⟨12800, 24, 46, 1, 5, 0, false, true, 0, 18446744073709551615⟩,
  ⟨12800, 24, 47, 1, 4, 0, false, true, 0, 4294967295⟩,
  ⟨12800, 24, 48, 1, 4, 0, false, false, 0, 4294967295⟩,
  ⟨12800, 24, 49, 1, 4, 0, false, false, 0, 4294967295⟩,
  ⟨13312, 1, 1, 1, 4, 1, false, false, 0, 1000000⟩,
  ⟨13312, 1, 2, 1, 4, 1, false, false, 1, 3600⟩,
  ⟨13312, 1, 3, 1, 4, 1, false, false, 100, 1000000⟩,
  ⟨13312, 1, 4, 1, 4, 0, false, false, 0, 4294967295⟩,
  ⟨13312, 1, 5, 1, 4, 0, false, false, 0, 4294967295⟩,
  ⟨13312, 1, 6, 1, 4, 0, false, false, 0, 4294967295⟩,
  ⟨13312, 1, 7, 1, 1, 0, false, false, 0, 1⟩,
  ⟨13312, 1, 8, 1, 4, 0, false, false, 0, 4294967295⟩,
  ⟨13312, 1, 9, 1, 4, 0, false, false, 0, 4294967295⟩,
  ⟨13312, 1, 10, 1, 4, 0, false, false, 0, 4294967295⟩,
  ⟨13313, 1, 1, 1, 15, 3, false, false, 1, 256⟩,
  ⟨13313, 1, 2, 1, 15, 3, false, false, 1, 256⟩,
  ⟨13313, 1, 3, 1, 3, 1, false, false, 0, 65535⟩,
  ⟨13313, 1, 4, 1, 15, 0, false, false, 0, 0⟩,
  ⟨13313, 1, 5, 1, 2, 0, false, false, 0, 255⟩,
  ⟨13314, 1, 1, 1, 3, 1, false, false, 1, 4094⟩,
  ⟨13314, 1, 2, 1, 4, 1, false, true, 0, 4294967295⟩,
  ⟨13314, 1, 3, 1, 4, 1, false, true, 0, 4294967295⟩,
  ⟨13314, 1, 4, 1, 2, 1, false, true, 0, 255⟩,
  ⟨13314, 1, 5, 1, 1, 1, false, true, 0, 1⟩,
  ⟨13315, 1, 1, 1, 15, 3, false, false, 1, 256⟩,
  ⟨13315, 1, 2, 1, 15, 3, false, false, 1, 256⟩,
  ⟨13315, 1, 3, 1, 3, 1, false, false, 0, 65535⟩,
  ⟨13315, 1, 4, 1, 15, 0, false, false, 0, 0⟩,
  ⟨13315, 1, 5, 1, 3, 0, false, false, 0, 65535⟩,
  ⟨13315, 1, 6, 1, 2, 0, false, false, 0, 255⟩,
  ⟨13316, 1, 1, 1, 5, 1, false, false, 0, 18446744073709551615⟩,
  ⟨13316, 1, 2, 1, 15, 0, false, false, 0, 0⟩,
  ⟨13316, 1, 3, 1, 4, 0, false, false, 0, 4294967295⟩,
  ⟨13317, 1, 1, 1, 4, 0, false, false, 0, 4294967295⟩]
/-- Rows of the dictionary, part 10. -/
def dictRows10 : List ObjInfo := [
  ⟨13317, 1, 2, 1, 5, 0, false, false, 0, 18446744073709551615⟩,
  ⟨13317, 1, 3, 1, 4, 0, false, false, 0, 4294967295⟩,
  ⟨14336, 1024, 1, 1, 2, 0, false, false, 0, 255⟩,
  ⟨14336, 1024, 2, 1, 2, 3, false, false, 0, 1⟩,
  ⟨14336, 1024, 3, 1, 2, 4, false, false, 0, 1⟩,
  ⟨14336, 1024, 4, 1, 2, 0, false, false, 0, 255⟩,
  ⟨14336, 1024, 5, 1, 2, 1, false, false, 0, 255⟩,
  ⟨14336, 1024, 6, 1, 4, 1, false, false, 0, 4294967295⟩,
  ⟨14336, 1024, 7, 1, 2, 1, false, false, 1, 64⟩,
  ⟨14336, 1024, 8, 1, 2, 1, false, false, 0, 255⟩,
  ⟨14336, 1024, 9, 1, 2, 1, false, false, 0, 2⟩,
  ⟨14336, 1024, 10, 1, 3, 1, false, false, 0, 8191⟩,
  ⟨14336, 1024, 11, 1, 2, 1, false, false, 1, 16⟩,
  ⟨14336, 1024, 12, 1, 3, 1, false, false, 0, 65535⟩,
  ⟨14336, 1024, 13, 1, 4, 1, false, false, 0, 4294967295⟩,
  ⟨14336, 1024, 14, 1, 15, 1, false, false, 0, 0⟩,
  ⟨14336, 1024, 15, 1, 15, 1, false, false, 0, 0⟩,
  ⟨14336, 1024, 16, 1, 4, 1, false, false, 0, 4294967295⟩,
  ⟨14336, 1024, 17, 1, 2, 1, false, false, 96, 127⟩,
  ⟨14336, 1024, 18, 1, 2, 1, false, false, 0, 7⟩,
  ⟨14336, 1024, 19, 1, 4, 0, false, false, 0, 4294967295⟩,
  ⟨14336, 1024, 32, 1, 5, 0, false, false, 0, 18446744073709551615⟩,
  ⟨14336, 1024, 33, 1, 4, 0, false, false, 0, 4294967295⟩,
  ⟨14336, 1024, 34, 1, 4, 0, false, false, 0, 4294967295⟩,
  ⟨14336, 1024, 35, 1, 4, 0, false, false, 0, 4294967295⟩,
  ⟨14336, 1024, 36, 1, 4, 0, false, false, 0, 4294967295⟩,
  ⟨14336, 1024, 37, 1, 4, 0, false, false, 0, 4294967295⟩,
  ⟨14336, 1024, 38, 1, 15, 0, false, false, 0, 0⟩,
  ⟨14336, 1024, 39, 1, 4, 0, false, false, 0, 4294967295⟩,
  ⟨14336, 1024, 40, 1, 4, 0, false, false, 0, 4294967295⟩,
  ⟨14336, 1024, 41, 1, 5, 0, false, false, 0, 18446744073709551615⟩,
  ⟨15360, 1024, 1, 1, 2, 0, false, false, 0, 255⟩,
  ⟨15360, 1024, 2, 1, 2, 3, false, false, 0, 1⟩,
  ⟨15360, 1024, 3, 1, 2, 4, false, false, 0, 1⟩,
  ⟨15360, 1024, 4, 1, 2, 0, false, false, 0, 255⟩,
  ⟨15360, 1024, 5, 1, 2, 1, false, false, 0, 255⟩,
  ⟨15360, 1024, 6, 1, 4, 1, false, false, 0, 4294967295⟩,
  ⟨15360, 1024, 7, 1, 2, 1, false, false, 1, 64⟩,
  ⟨15360, 1024, 8, 1, 2, 1, false, false, 0, 255⟩,
  ⟨15360, 1024, 9, 1, 2, 1, false, false, 0, 2⟩]
/-- Rows of the dictionary, part 11. -/
def dictRows11 : List ObjInfo := [
  ⟨15360, 1024, 10, 1, 3, 1, false, false, 0, 8191⟩,
  ⟨15360, 1024, 11, 1, 4, 1, false, false, 0, 4294967295⟩,
  ⟨15360, 1024, 12, 1, 15, 1, false, false, 0, 0⟩,
  ⟨15360, 1024, 13, 1, 15, 1, false, false, 0, 0⟩,
  ⟨15360, 1024, 14, 1, 4, 1, false, false, 0, 4294967295⟩,
  ⟨15360, 1024, 15, 1, 2, 1, false, false, 96, 127⟩,
  ⟨15360, 1024, 16, 1, 4, 1, false, false, 0, 4294967295⟩,
  ⟨15360, 1024, 17, 1, 2, 1, false, false, 0, 1⟩,
  ⟨15360, 1024, 18, 1, 2, 1, false, false, 0, 6⟩,
  ⟨15360, 1024, 19, 1, 15, 1, false, false, 0, 0⟩,
  ⟨15360, 1024, 32, 1, 5, 0, false, false, 0, 18446744073709551615⟩,
  ⟨15360, 1024, 33, 1, 15, 0, false, false, 0, 0⟩,
  ⟨12288, 128, 1, 1, 2, 0, false, false, 0, 255⟩,
  ⟨12288, 128, 2, 1, 2, 3, false, false, 0, 1⟩,
  ⟨12288, 128, 3, 1, 2, 4, false, false, 0, 1⟩,
  ⟨12288, 128, 4, 1, 2, 0, false, false, 0, 255⟩,
  ⟨12288, 128, 5, 1, 2, 1, false, false, 0, 255⟩,
  ⟨12288, 128, 6, 1, 2, 1, false, false, 0, 1⟩,
  ⟨12288, 128, 7, 1, 1, 1, false, false, 0, 1⟩,
  ⟨12288, 128, 8, 1, 2, 1, false, false, 0, 2⟩,
  ⟨12288, 128, 9, 1, 4, 1, false, false, 0, 4294967295⟩,
  ⟨12288, 128, 10, 1, 2, 1, false, false, 0, 3⟩,
  ⟨12288, 128, 11, 1, 2, 1, false, false, 1, 32⟩,
  ⟨12288, 128, 12, 1, 2, 1, false, false, 16, 32⟩,
  ⟨12288, 128, 13, 1, 2, 1, false, false, 16, 32⟩,
  ⟨12288, 128, 14, 1, 2, 1, false, false, 0, 127⟩,
  ⟨12288, 128, 15, 1, 3, 1, false, false, 16, 4096⟩,
  ⟨12288, 128, 16, 1, 3, 1, false, false, 16, 4096⟩,
  ⟨12288, 128, 17, 1, 3, 1, true, false, 0, 8000⟩,
  ⟨12288, 128, 18, 1, 1, 1, true, false, 0, 1⟩,
  ⟨12288, 128, 19, 1, 8, 1, true, false, -1000000, 1000000⟩,
  ⟨12288, 128, 20, 1, 1, 1, true, false, 0, 1⟩,
  ⟨12288, 128, 21, 1, 15, 0, false, false, 0, 0⟩,
  ⟨12288, 128, 22, 1, 8, 0, false, false, -2147483648, 2147483647⟩,
  ⟨12288, 128, 23, 1, 4, 0, false, false, 0, 4294967295⟩,
  ⟨12288, 128, 24, 1, 4, 0, false, false, 0, 4294967295⟩,
  ⟨12288, 128, 25, 1, 3, 0, false, false, 0, 65535⟩,
  ⟨12288, 128, 26, 1, 3, 3, false, false, 0, 65535⟩,
  ⟨12288, 128, 27, 1, 3, 1, true, false, 0, 255⟩,
  ⟨12288, 128, 28, 1, 2, 1, true, false, 0, 7⟩]
/-- Rows of the dictionary, part 12. -/
def dictRows12 : List ObjInfo := [
  ⟨12288, 128, 29, 1, 3, 0, false, false, 0, 65535⟩,
  ⟨12288, 128, 30, 1, 15, 1, true, false, 0, 0⟩,
  ⟨12288, 128, 31, 1, 15, 0, false, false, 0, 0⟩,
  ⟨12288, 128, 32, 1, 5, 0, false, false, 0, 18446744073709551615⟩,
  ⟨12288, 128, 33, 1, 4, 0, false, false, 0, 4294967295⟩,
  ⟨12288, 128, 34, 1, 4, 0, false, false, 0, 4294967295⟩,
  ⟨12288, 128, 35, 1, 4, 0, false, false, 0, 4294967295⟩,
  ⟨12288, 128, 36, 1, 4, 0, false, false, 0, 4294967295⟩,
  ⟨12288, 128, 37, 1, 4, 0, false, false, 0, 4294967295⟩,
  ⟨12288, 128, 38, 1, 4, 0, false, false, 0, 4294967295⟩,
  ⟨12288, 128, 39, 1, 4, 0, false, false, 0, 4294967295⟩,
  ⟨12544, 64, 1, 1, 2, 0, false, false, 0, 255⟩,
  ⟨12544, 64, 2, 1, 2, 3, false, false, 0, 1⟩,
  ⟨12544, 64, 3, 1, 2, 4, false, false, 0, 1⟩,
  ⟨12544, 64, 4, 1, 2, 0, false, false, 0, 255⟩,
  ⟨12544, 64, 5, 1, 2, 1, false, false, 0, 15⟩,
  ⟨12544, 64, 6, 1, 4, 1, false, false, 2000, 50000⟩,
  ⟨12544, 64, 7, 1, 2, 1, false, false, 0, 15⟩,
  ⟨12544, 64, 8, 1, 10, 1, false, false, 1073741824, 2126008811⟩,
  ⟨12544, 64, 9, 1, 4, 1, false, false, 1000, 400000⟩,
  ⟨12544, 64, 10, 1, 4, 1, false, false, 0, 4294967295⟩,
  ⟨12544, 64, 11, 1, 4, 1, false, false, 0, 4294967295⟩,
  ⟨12544, 64, 12, 1, 15, 1, false, false, 0, 0⟩,
  ⟨12544, 64, 13, 1, 2, 1, false, false, 0, 1⟩,
  ⟨12544, 64, 14, 1, 15, 1, true, false, 0, 0⟩,
  ⟨12544, 64, 15, 1, 12, 3, false, false, 0, 18446744073709551615⟩,
  ⟨12544, 64, 16, 1, 2, 0, false, false, 0, 255⟩,
  ⟨12544, 64, 17, 1, 3, 1, true, false, 1, 8000⟩,
  ⟨12544, 64, 18, 1, 8, 1, true, false, -4000, 0⟩,
  ⟨12544, 64, 19, 1, 4, 1, true, false, 100, 100000⟩,
  ⟨12544, 64, 20, 1, 8, 1, true, false, -4000, 0⟩,
  ⟨12544, 64, 21, 1, 4, 1, true, false, 10, 60000⟩,
  ⟨12544, 64, 22, 1, 4, 1, true, false, 10, 100000⟩,
  ⟨12544, 64, 23, 1, 4, 1, true, false, 10, 100000⟩,
  ⟨12544, 64, 24, 1, 3, 1, true, false, 10, 5000⟩,
  ⟨12544, 64, 25, 1, 4, 1, true, false, 0, 4294967295⟩,
  ⟨12544, 64, 26, 1, 4, 1, true, false, 100, 60000⟩,
  ⟨12544, 64, 27, 1, 7, 1, true, false, 60, 120⟩,
  ⟨12544, 64, 28, 1, 7, 1, true, false, 61, 150⟩,
  ⟨12544, 64, 29, 1, 7, 1, true, false, -40, 119⟩]
/-- Rows of the dictionary, part 13. -/
def dictRows13 : List ObjInfo := [
  ⟨12544, 64, 30, 1, 3, 1, true, false, 0, 65535⟩,
  ⟨12544, 64, 31, 1, 3, 1, true, false, 0, 65535⟩,
  ⟨12544, 64, 32, 1, 8, 1, true, false, -4000, 0⟩,
  ⟨12544, 64, 33, 1, 1, 1, true, false, 0, 1⟩,
  ⟨12544, 64, 34, 1, 2, 1, true, false, 0, 2⟩,
  ⟨12544, 64, 35, 1, 8, 1, true, false, -7000, -4000⟩,
  ⟨12544, 64, 36, 1, 4, 1, true, false, 0, 4294967295⟩,
  ⟨12544, 64, 37, 1, 4, 1, true, false, 0, 4294967295⟩,
  ⟨12544, 64, 38, 1, 4, 0, false, false, 0, 4294967295⟩,
  ⟨12544, 64, 39, 1, 8, 0, false, false, -2147483648, 2147483647⟩,
  ⟨12544, 64, 40, 1, 1, 0, false, false, 0, 1⟩,
  ⟨12544, 64, 41, 1, 8, 0, false, false, -2147483648, 2147483647⟩,
  ⟨12544, 64, 42, 1, 8, 0, false, false, -2147483648, 2147483647⟩,
  ⟨12544, 64, 43, 1, 2, 0, false, false, 0, 255⟩,
  ⟨12544, 64, 44, 1, 1, 3, false, false, 0, 1⟩,
  ⟨12544, 64, 45, 1, 3, 0, false, false, 0, 65535⟩,
  ⟨12544, 64, 46, 1, 3, 3, false, false, 0, 65535⟩,
  ⟨12544, 64, 47, 1, 3, 1, true, false, 0, 65535⟩,
  ⟨12544, 64, 48, 1, 4, 0, false, false, 0, 4294967295⟩,
  ⟨12544, 64, 49, 1, 4, 0, false, false, 0, 4294967295⟩,
  ⟨12544, 64, 50, 1, 4, 0, false, false, 0, 4294967295⟩,
  ⟨12544, 64, 51, 1, 15, 1, true, false, 0, 0⟩,
  ⟨8288, 1, 1, 1, 4, 0, false, false, 0, 4294967295⟩,
  ⟨8288, 1, 2, 1, 4, 0, false, false, 0, 4294967295⟩,
  ⟨8288, 1, 3, 1, 4, 0, false, false, 0, 4294967295⟩,
  ⟨8288, 1, 4, 1, 4, 0, false, false, 0, 4294967295⟩,
  ⟨8288, 1, 5, 1, 5, 0, false, false, 0, 18446744073709551615⟩,
  ⟨8288, 1, 6, 1, 2, 1, false, false, 0, 29⟩,
  ⟨8288, 1, 7, 1, 4, 0, false, true, 0, 4294967295⟩,
  ⟨8289, 1, 1, 1, 2, 1, false, false, 0, 5⟩,
  ⟨8289, 1, 2, 1, 4, 0, false, true, 0, 4294967295⟩,
  ⟨8289, 1, 3, 1, 4, 0, false, true, 0, 4294967295⟩,
  ⟨8289, 1, 4, 1, 4, 0, false, true, 0, 4294967295⟩,
  ⟨8289, 1, 5, 1, 5, 0, false, true, 0, 18446744073709551615⟩,
  ⟨8290, 1, 1, 1, 4, 0, false, false, 0, 4294967295⟩,
  ⟨8290, 1, 2, 1, 2, 0, false, false, 0, 255⟩,
  ⟨8290, 1, 3, 1, 1, 0, false, false, 0, 1⟩,
  ⟨20032, 16, 1, 1, 2, 1, false, false, 0, 255⟩,
  ⟨20032, 16, 2, 1, 4, 0, false, true, 0, 4294967295⟩,
  ⟨20032, 16, 3, 1, 4, 0, false, true, 0, 4294967295⟩]
/-- Rows of the dictionary, part 14. -/
def dictRows14 : List ObjInfo := [
  ⟨20032, 16, 4, 1, 4, 0, false, true, 0, 4294967295⟩,
  ⟨4096, 1, 1, 1, 14, 0, false, false, 0, 0⟩,
  ⟨4096, 1, 2, 1, 14, 0, false, false, 0, 0⟩,
  ⟨4096, 1, 3, 1, 2, 0, false, false, 0, 255⟩,
  ⟨4096, 1, 4, 1, 2, 0, false, false, 0, 255⟩,
  ⟨4096, 1, 5, 1, 5, 0, false, false, 0, 18446744073709551615⟩,
  ⟨4096, 1, 6, 1, 5, 0, false, false, 0, 18446744073709551615⟩,
  ⟨4096, 1, 7, 1, 2, 0, false, false, 0, 255⟩,
  ⟨4096, 1, 8, 1, 2, 0, false, false, 0, 255⟩,
  ⟨4352, 1, 1, 1, 2, 1, false, false, 0, 15⟩,
  ⟨4352, 1, 2, 1, 15, 1, false, true, 0, 0⟩,
  ⟨4608, 1, 1, 1, 2, 0, false, false, 0, 255⟩,
  ⟨4608, 1, 2, 1, 3, 1, false, false, 1, 300⟩,
  ⟨4608, 1, 3, 1, 2, 1, false, false, 0, 63⟩,
  ⟨4608, 1, 4, 1, 15, 0, false, true, 0, 0⟩,
  ⟨4608, 1, 5, 1, 4, 0, false, false, 0, 4294967295⟩,
  ⟨4608, 1, 6, 1, 4, 0, false, false, 0, 4294967295⟩,
  ⟨4608, 1, 7, 1, 4, 0, false, false, 0, 4294967295⟩,
  ⟨4608, 1, 8, 1, 15, 2, false, false, 0, 0⟩,
  ⟨4608, 1, 9, 1, 5, 0, false, false, 0, 18446744073709551615⟩,
  ⟨4608, 1, 10, 1, 5, 0, false, false, 0, 18446744073709551615⟩,
  ⟨4608, 1, 11, 1, 4, 0, false, false, 0, 4294967295⟩,
  ⟨4608, 1, 12, 1, 4, 0, false, false, 0, 4294967295⟩,
  ⟨4864, 1, 1, 1, 2, 0, false, false, 0, 255⟩,
  ⟨4864, 1, 2, 1, 2, 1, false, false, 0, 1⟩,
  ⟨4864, 1, 3, 1, 2, 0, false, false, 0, 255⟩,
  ⟨4864, 1, 4, 1, 1, 3, false, false, 0, 1⟩,
  ⟨4864, 1, 5, 1, 2, 0, false, false, 0, 255⟩,
  ⟨5120, 64, 1, 1, 15, 3, false, false, 0, 0⟩,
  ⟨5120, 64, 2, 1, 1, 3, false, false, 0, 1⟩,
  ⟨5120, 64, 3, 1, 2, 0, false, false, 0, 255⟩,
  ⟨5120, 64, 4, 1, 5, 0, false, false, 0, 18446744073709551615⟩,
  ⟨13056, 1, 1, 1, 2, 1, false, false, 0, 1⟩,
  ⟨13056, 1, 2, 1, 2, 1, false, false, 2, 255⟩,
  ⟨13056, 1, 3, 1, 2, 1, false, false, 1, 255⟩,
  ⟨13056, 1, 4, 1, 2, 0, false, false, 0, 255⟩,
  ⟨13056, 1, 5, 1, 4, 0, false, false, 0, 4294967295⟩,
  ⟨13056, 1, 6, 1, 4, 0, false, false, 0, 4294967295⟩,
  ⟨21760, 16, 1, 1, 15, 1, false, false, 1, 256⟩,
  ⟨21760, 16, 2, 1, 3, 1, false, false, 1, 1000⟩]
/-- Rows of the dictionary, part 15. -/
def dictRows15 : List ObjInfo := [
  ⟨21760, 16, 3, 1, 2, 0, false, false, 0, 255⟩,
  ⟨24576, 16, 1, 1, 15, 0, false, false, 0, 0⟩,
  ⟨24576, 16, 2, 1, 12, 0, false, false, 0, 18446744073709551615⟩,
  ⟨24576, 16, 3, 1, 3, 0, false, false, 0, 65535⟩,
  ⟨8192, 1, 1, 1, 3, 0, false, false, 0, 65535⟩,
  ⟨8192, 1, 2, 1, 15, 0, false, false, 0, 0⟩,
  ⟨8192, 1, 3, 1, 4, 3, false, false, 0, 4294967295⟩,
  ⟨8192, 1, 4, 1, 12, 0, false, false, 0, 18446744073709551615⟩,
  ⟨8192, 1, 5, 1, 4, 0, false, false, 0, 4294967295⟩,
  ⟨8208, 1, 1, 1, 2, 0, false, false, 0, 255⟩,
  ⟨8208, 1, 2, 1, 4, 0, false, false, 0, 4294967295⟩,
  ⟨8208, 1, 3, 1, 4, 0, false, false, 0, 4294967295⟩,
  ⟨8208, 1, 4, 1, 4, 0, false, false, 0, 4294967295⟩,
  ⟨8224, 1, 1, 1, 2, 0, false, false, 0, 255⟩,
  ⟨8224, 1, 2, 1, 4, 0, false, false, 0, 4294967295⟩,
  ⟨8224, 1, 3, 1, 12, 0, false, false, 0, 18446744073709551615⟩,
  ⟨8224, 1, 4, 1, 2, 0, false, false, 0, 255⟩,
  ⟨8240, 1, 1, 1, 2, 0, false, false, 0, 255⟩,
  ⟨8240, 1, 2, 1, 15, 2, false, false, 0, 0⟩,
  ⟨8240, 1, 3, 1, 1, 3, false, false, 0, 1⟩,
  ⟨8240, 1, 4, 1, 2, 0, false, false, 0, 255⟩,
  ⟨8240, 1, 5, 1, 5, 0, false, false, 0, 18446744073709551615⟩,
  ⟨8256, 1, 1, 1, 15, 1, false, false, 0, 0⟩,
  ⟨8256, 1, 2, 1, 2, 0, false, false, 0, 255⟩,
  ⟨8256, 1, 3, 1, 4, 0, false, false, 0, 4294967295⟩,
  ⟨8272, 1, 1, 1, 7, 0, false, false, -32768, 32767⟩,
  ⟨8272, 1, 2, 1, 7, 0, false, false, -32768, 32767⟩,
  ⟨9472, 1, 1, 1, 2, 0, false, false, 0, 255⟩,
  ⟨9472, 1, 2, 1, 4, 0, false, false, 0, 4294967295⟩,
  ⟨9472, 1, 3, 1, 1, 3, false, false, 0, 1⟩,
  ⟨9472, 1, 4, 1, 15, 0, false, false, 0, 0⟩,
  ⟨9472, 1, 5, 1, 3, 1, false, false, 0, 1023⟩,
  ⟨9472, 1, 6, 1, 15, 0, false, false, 0, 0⟩,
  ⟨9472, 1, 7, 1, 4, 1, false, false, 0, 4294967295⟩,
  ⟨9473, 1, 1, 8, 15, 0, false, false, 0, 0⟩,
  ⟨9474, 1, 1, 1, 4, 0, false, false, 0, 4294967295⟩,
  ⟨9474, 1, 2, 1, 3, 3, false, false, 0, 255⟩,
  ⟨9474, 1, 3, 1, 4, 0, false, false, 0, 4294967295⟩,
  ⟨4097, 1, 1, 1, 4, 1, false, false, 0, 16777215⟩,
  ⟨4097, 1, 2, 1, 15, 0, false, true, 0, 0⟩]
/-- The dictionary. -/
def dictRows : List ObjInfo :=
  dictRows0 ++ dictRows1 ++ dictRows2 ++ dictRows3 ++ dictRows4 ++ dictRows5 ++ dictRows6 ++ dictRows7 ++ dictRows8 ++ dictRows9 ++ dictRows10 ++ dictRows11 ++ dictRows12 ++ dictRows13 ++ dictRows14 ++ dictRows15

/-- Look an object up (R472). -/
def findObj (idx sub : Nat) : Option ObjInfo :=
  dictRows.find? fun o => o.idx ≤ idx && idx < o.idx + o.span && o.sub ≤ sub && sub < o.sub + o.subs

end Sys2Proof.Machine
end

