-- ==== Sys2Proof/Machine/Rights.lean ====
section
/-!
DEFINITION. Who may read and write an object: the roles' rights (07, Table 7.7, R215; 16, R450; 17, R478), the selectors
that act on a session only (16, R547), the unit that a selected object means, the dictionary directory.
-/
namespace Sys2Proof.Machine

/-- Does an index lie in a block. -/
def inBlock (idx a n : Nat) : Bool := decide (a ≤ idx) && decide (idx < a + n)

/-- Objects that act only on the session: selectors, DIR_SEL and LOG_CURSOR (16, R547; log entry 132). -/
def isSelector (idx sub : Nat) : Bool :=
  [(0x5000, 1), (0x5200, 1), (0x5300, 1), (0x5400, 1), (0x5401, 1), (0x4001, 1), (0x4002, 1), (0x4C01, 1), (0x4C02, 1),
    (0x4801, 1), (0x4801, 2), (0x4801, 9), (0x4802, 1), (0x4802, 3), (0x4401, 1), (0x4410, 1), (0x4411, 1), (0x4411, 4),
    (0x4412, 1), (0x4413, 1), (0x2300, 3), (0x2401, 1), (0x2404, 1), (0x2110, 1), (0x2120, 1), (0x2140, 1)].contains
      (idx, sub) ||
  [(0x2150, 2), (0x2220, 1), (0x2260, 1), (0x3401, 3), (0x3402, 1), (0x3403, 3), (0x2060, 6), (0x2061, 1), (0x1100, 1),
    (0x1200, 3), (0x1001, 1), (0x2500, 7)].contains (idx, sub) ||
  (inBlock idx 0x2330 16 && sub == 5) || (inBlock idx 0x3200 24 && sub == 0x2D) || (inBlock idx 0x4E40 16 && sub == 1)

/-- Rights before the access class is applied: bit 0 the gardener role reads, 1 writes, 2 an owner reads, 3 writes, 4 an
observer reads (Table 17.4; log entry 134). -/
def rawRights (idx sub : Nat) : Nat :=
  let cnt (b : Bool) (r : Nat) : Nat := if b then r + 1 else r
  if idx < 0x1400 then (if idx < 0x1100 then 0x15 else 0x03)
  else if idx < 0x2000 then 0x1F
  else if idx < 0x2060 then 0x17
  else if idx < 0x2100 then 0x03
  else if idx < 0x2300 then (if idx = 0x2260 then cnt (sub == 14) 0x1C else 0x17)
  else if idx < 0x2310 then (if sub ≤ 2 then 0x15 else 0x03)
  else if idx < 0x2350 then (if inBlock idx 0x2320 16 && sub == 17 then 0x05 else 0x17)
  else if idx < 0x2360 then 0x1C
  else if idx < 0x2370 then (match sub with | 1 => 0x0A | 2 => 0x08 | _ => 0x15)
  else if idx < 0x2400 then 0x1C
  else if idx < 0x2500 then 0x17
  else if idx < 0x3000 then
    (if (idx = 0x2500 ∧ (sub = 6 ∨ sub = 7)) ∨ (idx = 0x2502 ∧ sub = 1) then 0x15 else 0x03)
  else if idx < 0x3100 then cnt (decide (0x20 ≤ sub)) 0x1C
  else if idx < 0x3200 then (if sub = 0x20 ∨ sub = 0x21 then 0x17 else cnt (decide (0x30 ≤ sub) && decide (sub ≤ 0x32)) 0x1C)
  else if idx < 0x3300 then 0x17
  else if idx < 0x3400 then 0x03
  else if idx < 0x3800 then 0x17
  else if idx < 0x4000 then cnt (decide (0x20 ≤ sub)) 0x1C
  else match idx with
    | 0x4001 => cnt (sub == 9) 0x1C
    | 0x4002 => 0x1C
    | 0x4400 => if sub = 3 then 0x01 else 0x15
    | 0x4401 => 0x03
    | 0x4410 => cnt (sub == 9) 0x1C
    | 0x4411 => if sub = 6 then 0x14 else 0x0C
    | 0x4412 => cnt (sub == 2) 0x1C
    | 0x4413 => cnt (sub == 3) 0x1C
    | 0x4800 => 0x15
    | 0x4801 => if sub = 10 then 0x04 else cnt (sub == 5 || sub == 7 || sub == 8) 0x1C
    | 0x4802 => if sub ≤ 4 then 0x0C else 0x1C
    | 0x4C00 => 0x15
    | 0x4C01 => cnt ([4, 5, 8, 9, 10, 11, 12].contains sub) 0x1C
    | 0x4C02 => 0x0C
    | 0x4E00 => 0x15
    | 0x5000 => 0x15
    | 0x5401 => cnt (sub == 5) 0x1C
    | _ =>
      if inBlock idx 0x4E10 16 then (if sub ≤ 3 then 0x08 else if sub = 6 then 0x04 else 0x15)
      else if inBlock idx 0x4E20 16 then 0x15
      else if inBlock idx 0x4E40 16 then 0x1D
      else if inBlock idx 0x5100 16 then cnt (sub == 6) 0x1C
      else if inBlock idx 0x6000 16 then 0x14
      else 0x1C
/-- Roles that may read at least one object that a selector selects or serves: the read bits (16, R547). -/
def selReaders (idx sub : Nat) : Nat :=
  if [0x2300, 0x2060, 0x2061, 0x4401, 0x1100, 0x1200].contains idx then 0x01
  else if [0x5200, 0x5300, 0x5400, 0x4002].contains idx then 0x14
  else if idx = 0x4C02 ∨ idx = 0x4802 ∨ idx = 0x4411 ∨ (idx = 0x4801 ∧ sub = 9) then 0x04
  else 0x15
/-- Rights of the roles on an object (Table 17.4), by its access class. -/
def rightsOf (o : ObjInfo) (idx sub : Nat) : Nat :=
  if isSelector idx sub then selReaders idx sub ||| (selReaders idx sub &&& 5) * 2
  else match o.acc with
    | 0 => rawRights idx sub &&& 0x15
    | 2 => rawRights idx sub &&& 0x0A
    | 3 => rawRights idx sub &&& 0x0A
    | _ => rawRights idx sub

/-- The session's own selection at an object (16, R452). -/
def Session.chosen (ss : Session) (idx sub : Nat) : Nat := (Table.get regDefault ss.sel ⟨idx, sub, 0⟩).toNat
/-- Selector of the unit that a selected object of an index means. -/
def selectorOf (idx sub : Nat) : Option Nat :=
  if [0x5200, 0x5300, 0x5400, 0x5401, 0x4001, 0x4002, 0x4C01, 0x4C02, 0x4401, 0x4412, 0x4413, 0x2401, 0x2404,
      0x2110].contains idx || [0x2120, 0x2140, 0x2220, 0x2260, 0x3402, 0x1100, 0x2061, 0x5000].contains idx ||
      inBlock idx 0x4E40 16 then some 1
  else if idx = 0x2150 ∧ sub ≥ 3 then some 2
  else if idx = 0x2300 ∧ sub = 4 then some 3
  else if inBlock idx 0x2330 16 && sub == 6 then some 5
  else if inBlock idx 0x3200 24 && (sub == 0x2E || sub == 0x2F) then some 0x2D
  else if idx = 0x2060 ∧ sub = 7 then some 6
  else if idx = 0x1200 ∧ sub = 4 then some 3
  else none
/-- The register that an index and a sub-index mean in a session: the unit by its selectors (16, R547). -/
def Session.regOf (ss : Session) (idx sub : Nat) : Reg :=
  if isSelector idx sub then ⟨idx, sub, 0⟩
  else if idx = 0x4801 ∨ idx = 0x4802 then ⟨idx, sub, ss.chosen 0x4801 1 * 16 + ss.chosen 0x4801 2⟩
  else if idx = 0x4410 ∨ idx = 0x4411 then ⟨idx, sub, ss.chosen 0x4410 1⟩
  else if idx = 0x5000 then ⟨idx, sub, 0⟩
  else match selectorOf idx sub with
    | some k => ⟨idx, sub, ss.chosen idx k⟩
    | none => ⟨idx, sub, 0⟩
/-- The register of a write: what other selectors name besides the unit is taken with it (16, R455): the first word of
BANK_WRITE, the first tap of ARE_COEF_WRITE. -/
def Session.actReg (ss : Session) (idx sub : Nat) : Reg :=
  let r := ss.regOf idx sub
  if idx = 0x4802 ∧ sub = 2 then { r with unit := r.unit + 1024 * ss.chosen 0x4802 1 }
  else if idx = 0x4411 ∧ sub = 2 then { r with unit := r.unit + 32768 * ss.chosen 0x4411 1 }
  else r
/-- Is an object bound to a plot, and to which: templates by plot, units, selected items (07, R215). -/
def State.boundTo (s : State) (ss : Session) (idx sub : Nat) : Option (Option Nat) :=
  let r := ss.regOf idx sub
  if sub = 0 ∨ (isSelector idx sub && !inBlock idx 0x2330 16 && !inBlock idx 0x4E40 16) then none
  else if idx = 0x4411 ∧ sub = 6 then none
  else if idx = 0x5000 then some (s.sigOwner (ss.chosen 0x5000 1))
  else if idx = 0x4C02 then some (s.corePlot (ss.chosen 0x4C02 1))
  else if idx = 0x1400 ∨ inBlock idx 0x1400 64 then
    (let o := (NTable.get {} s.rings (idx - 0x1400) : Ring).owner
     if o = 255 then none else some (some o))
  else if inBlock idx 0x2310 0x70 || inBlock idx 0x3000 0x80 || inBlock idx 0x3100 0x40 || inBlock idx 0x3800 0x800 ||
      decide (idx ≥ 0x4000) || idx == 0x2260 then
    (if idx = 0x4400 ∨ idx = 0x4401 ∨ idx = 0x4800 ∨ idx = 0x4C00 ∨ idx = 0x4E00 then none else some (s.regPlot r))
  else none
/-- Highest sub-index of an index that the dictionary holds (17, R472). -/
def highestSub (idx : Nat) : Option Nat :=
  match dictRows.filter fun o => decide (o.idx ≤ idx) && decide (idx < o.idx + o.span) with
  | [] => none
  | l => some (l.foldl (fun m o => max m (o.sub + o.subs - 1)) 0)
/-- The object at an index and a sub-index; sub-index 0 is NSUB, a U8 that every role reads (17, R472). -/
def objAt (idx sub : Nat) : Option ObjInfo :=
  if sub = 0 then (highestSub idx).map fun h => ⟨idx, 1, 0, 1, 2, 0, false, false, h, h⟩ else findObj idx sub
/-- Does the role's right and the binding of the object let a session do it: read, or write (16, R450). -/
def State.mayTouch (s : State) (ss : Session) (o : ObjInfo) (idx sub : Nat) (write : Bool) : Bool :=
  let r := if sub = 0 then 0x15 else rightsOf o idx sub
  let b : Nat := match ss.role, write with
    | 0, false => 0 | 0, true => 1 | 1, false => 2 | 1, true => 3 | _, false => 4 | _, true => 5
  let sel := write && isSelector idx sub
  let role : Bool := if sel && ss.role == 2 then bit (r : Int) 4 else bit (r : Int) b
  let own : Bool := ss.role == 0 || (match s.boundTo ss idx sub with | some q => q == some ss.plot | none => true)
  role && own
/-- Is there an object that the session could not touch whatever its sub-index: it answers alike (16, R450). -/
def State.foreignTo (s : State) (ss : Session) (idx : Nat) : Bool :=
  match s.boundTo ss idx 1, highestSub idx with
  | some q, some _ => ss.role != 0 && q != some ss.plot
  | _, _ => false

/-- Largest length of a BLOB, 0 where the spec gives none or more than 16 bits hold (Table 17.4; log entry 133). -/
def blobMax (idx sub : Nat) : Nat :=
  let at_ (a n : Nat) : Bool := inBlock idx a n
  match idx, sub with
  | 0x4C00, 2 => 128 | 0x4C02, _ => 16 | 0x4800, 2 => 1024 | 0x4802, 2 => 16384 | 0x4802, 4 => 1024 | 0x4400, 2 => 32768
  | 0x4411, 5 => 768 | 0x2300, 2 => 16 | 0x2240, 1 => 256 | 0x2260, 9 => 128 | 0x2260, 11 => 256 | 0x2260, 12 => 256
  | 0x3401, 1 => 4096 | 0x3401, 2 => 4096 | 0x3403, 1 => 4096 | 0x3403, 2 => 4096 | 0x3404, 2 => 512 | 0x1100, 2 => 16
  | 0x1200, 4 => 16 | 0x1200, 8 => 32 | 0x2000, 2 => 16 | 0x2040, 1 => 64 | 0x2500, 4 => 16 | 0x2501, _ => 32 | 0x1001, 2 => 8
  | _, _ =>
    if at_ 0x5100 16 && sub != 1 then 4096
    else if at_ 0x2330 16 && sub ≤ 2 then 4096
    else if at_ 0x2360 16 then 32
    else if at_ 0x3200 24 then (if sub = 9 then 16 else 2048)
    else if at_ 0x3800 0x800 then (match sub with | 0x13 => 24 | 0x26 => 8 | 0x21 => 8 | _ => 32)
    else if at_ 0x3000 128 then (if sub = 0x15 then 16 else 24)
    else if at_ 0x3100 64 then (match sub with | 0x0C => 16 | 0x0E => 48 | _ => 8)
    else if at_ 0x1400 64 then 24
    else if at_ 0x5500 16 then 1024
    else if at_ 0x6000 16 then 4096
    else 0
/-- Length of a value in bytes by its type code (17, Table 17.2); 0 for a BLOB. -/
def tyLen : Nat → Nat
  | 1 => 1 | 2 => 1 | 3 => 2 | 4 => 4 | 5 => 8 | 6 => 1 | 7 => 2 | 8 => 4 | 9 => 8 | 10 => 4 | 11 => 4 | 12 => 8 | 13 => 10
  | 14 => 32 | _ => 0
/-- Is a type signed. -/
def tySigned (t : Nat) : Bool := decide (6 ≤ t) && decide (t ≤ 11)
/-- Value bytes of a number of a scalar type. -/
def scalarBytes (ty : Nat) (v : Int) : List Byte := leBytesI (tyLen ty) v
/-- Number of the value bytes of a scalar type. -/
def scalarValue (ty : Nat) (b : List Byte) : Int := if tySigned ty then leAtS b 0 (tyLen ty) else leAt b 0 (tyLen ty)
/-- Has an object a BAR0 slot: a scalar with a sub-index of 0x3F or less (16, R463). -/
def hasSlot (o : ObjInfo) (sub : Nat) : Bool := decide (o.ty ≤ 12) && decide (sub ≤ 0x3F)
/-- Is an object kept in boot flash (17, R477). -/
def inFlash (idx sub : Nat) : Bool := flashObj ⟨idx, sub, 0⟩ || (inBlock idx 0x2360 16 && decide (1 ≤ sub) && decide (sub ≤ 2))

/-- DIR_ENTRY of an index and a sub-index; all zeros where there is no such object (17, R478). -/
def dirEntry (idx sub : Nat) : List Byte :=
  match objAt idx sub with
  | none => List.replicate 8 0
  | some o =>
    let f (b : Bool) (n : Nat) : Nat := if b then n else 0
    let flags := f (inFlash idx sub) 8 + f o.sel 4 + f o.timed 2 + f (hasSlot o sub) 1
    let roles := if sub = 0 then 0x15 else rightsOf o idx sub
    leBytes 1 o.ty ++ leBytes 1 o.acc ++ leBytes 1 flags ++ leBytes 1 roles ++
      leBytes 2 (if o.ty = 15 then blobMax idx sub else tyLen o.ty) ++ [0, 0]

end Sys2Proof.Machine
end

