-- ==== Sys2Proof/Machine/View.lean ====
section
/-!
DEFINITION. What a read of an object answers (16, R450, R475): objects whose value follows from the rest of the state are
computed here, every other one is its register or its bytes.
-/
namespace Sys2Proof.Machine

/-! Tables of units. -/

/-- The plot that holds each unit of a list, 0xFF for none, one byte each. -/
def ownerBytes (l : List (Option Nat)) : List Byte := l.map fun p => BitVec.ofNat 8 (p.getD 255)
/-- Gaps between sorted ranges from a first unit up to an end. -/
def gaps : List (Nat × Nat) → Nat → Nat → List (Nat × Nat)
  | [], a, e => if a < e then [(a, e - a)] else []
  | (f, n) :: t, a, e => (if a < f then [(a, min f e - a)] else []) ++ gaps t (max a (f + n)) e
/-- FREE ranges of a kind and UNIT: what nobody holds and nothing scrubs, without DRAM that is not installed and the base
list's entries (07, R197; 15, R422; 11, R341). -/
def State.freeRanges (s : State) (kind unit : Nat) : List UnitRange :=
  let held := (s.holdings.filter fun h => h.kind == kind && h.unit == unit).map fun h => (h.first, h.count)
  let out : List (Nat × Nat) := if kind = 10 then
      [(s.dramBytes 0 / 65536, 131072 - s.dramBytes 0 / 65536), (131072 + s.dramBytes 1 / 65536, 131072 - s.dramBytes 1 / 65536)]
    else if kind = 29 then [(0, s.baseRecords unit)] else []
  let l := sortBy (fun (a b : Nat × Nat) => decide (a.1 ≤ b.1)) ((held ++ out).filter fun e => e.2 != 0)
  (gaps l 0 (s.kindRange kind unit).1).map fun e => { kind := kind, unit := unit, first := e.1, count := e.2 }
/-- UNITs that a kind has (Table 7.2). -/
def unitsOf (kind : Nat) : List Nat :=
  match kind with
  | 5 => List.range 16 | 13 => List.range 16 | 14 => List.range 64 | 15 => List.range 64 | 16 => List.range 64
  | 17 => List.range 64 | 20 => [2, 3, 7, 8, 15] | 24 => List.range 23 | 25 => List.range 24 | 29 => List.range 24
  | 30 => List.range 24 | _ => [noUnit]
/-- HO_TABLE: offers (DIR 0) and acceptances (DIR 1) of a plot, with their STATE (07, R209, R212). -/
def State.hoTable (s : State) (p : Nat) : List Byte :=
  let one (dir : Nat) (w : HoWord) : List Byte :=
    let a := s.auths.find? fun a => decide (a.index = w.index) &&
      (if dir = 0 then a.producer == p && a.consumer == w.peer else a.consumer == p && a.producer == w.peer)
    let st : Nat := match a with | some a => if a.withdrawAt.isSome then 2 else 1 | none => 0
    leBytes 2 w.index ++ leBytes 1 w.peer ++ leBytes 1 dir ++ leBytes 1 st ++ [0, 0, 0]
  (s.offers.filter fun w => w.plot == p).flatMap (one 0) ++ (s.accepts.filter fun w => w.plot == p).flatMap (one 1)
/-- Bytes of a route record (02, Table 2.2). -/
def Route.bytes (r : Route) : List Byte :=
  leBytes 4 r.sink ++ leBytes 4 (if r.none then 2147483648 else r.source) ++ leBytes 2 r.xfade ++
    leBytes 1 ((if r.deferred then 4 else 0) + (if r.power then 2 else 0) + if r.direct then 1 else 0) ++ leBytes 5 0

/-! Signals (02, Table 2.8). -/

/-- Does a lane of a filter chain group produce a signal: its LANES bit is set (05, R141). -/
def Last.laneLive (l : Last) (i : Nat) : Bool :=
  l.groups.any fun g => decide (g.fcu = i / 128) && decide (g.group = i % 128 / 8) && bit g.lanes (i % 8)
/-- Is an identifier produced or fed: SIG_STATE 2 (log entry 135). -/
def State.sigLive (s : State) (x : SigId) : Bool :=
  let i := sigIdx x
  match s.sigOwner x with
  | none => false
  | some p => match s.last p with
    | none => false
    | some l =>
      let fed := (s.plot p).routes.any fun r => decide (r.sink = x) && !r.none
      match sigClass x with
      | 0 => s.reg (Reg.sapState (s.sapIn (i / 32))) == 2
      | 2 => match s.rxOf i with | some t => s.reg (Reg.rxState t) == 2 | none => false
      | 10 => s.reg (Reg.pscState (if i < 64 then i else if i < 128 then i - 64 else 4 * (i - 128))) != 0
      | 14 => if i < 256 then s.reg (Reg.genType i) != 0 else s.reg (Reg.pscPilot (i - 256)) != 0
      | 11 => l.laneLive i
      | 12 => fed
      | 13 => fed
      | 15 => fed
      | _ => if isSink x then fed else l.produces x
/-- Nominal rate of a signal in Hz: of its port or stream, else by its plot's last (02, R60). -/
def State.sigHz (s : State) (x : SigId) : Nat :=
  let i := sigIdx x
  match sigClass x with
  | 0 => s.nat (Reg.sapRate (s.sapIn (i / 32)))
  | 1 => s.nat (Reg.sapRate (s.sapOut (i / 32)))
  | 2 => match s.rxOf i with | some t => s.nat (Reg.rxRate t) | none => 0
  | 3 => match s.txOf i with | some t => s.nat (Reg.txRate t) | none => 0
  | _ => match (s.sigOwner x).bind s.last with
    | some l => Config.baseRate s.family * s.sigMult l x (isSource x)
    | none => 0
/-- The plot's detector on a signal says SILENT. -/
def State.sigSilent (s : State) (x : SigId) : Bool :=
  match s.sigOwner x with | some p => s.silent p x | none => false
/-- Is a bridge channel's output zero or ramping (R88). -/
def State.bridgeMuted (s : State) (c : Nat) : Bool :=
  match s.bridgeTracker c with
  | some t => s.reg (Reg.trkState t) != 2 || (s.tracker t).down || decide ((s.tracker t).rampPos < 40)
  | none => true

/-! Units of the compute plane. -/

/-- Are the coefficients of a POLY stage symmetric, in the active bank, on every lane (05, R158; log entry 136). -/
def State.polySymmetric (s : State) (u bank : Nat) (st : Stage) : Bool :=
  (List.range 8).all fun lane =>
    let w := (List.range st.p1).map fun i => s.fcuWord u bank (st.coef + lane * st.cstride + i)
    w == w.reverse
/-- Alignment delay of a stage in 1/512 of a sample at its higher rate (Table 5.1), that is twice its value in 1/256. -/
def State.stageDelay (s : State) (u bank : Nat) (st : Stage) : Nat :=
  let half (t : Nat) : Nat := (t - 1) * 256
  match st.ty with
  | 3 => half st.p1 | 4 => half st.p1 | 5 => half st.p1 | 10 => half st.p1
  | 6 => if s.polySymmetric u bank st then half st.p1 else 0
  | 7 => if s.polySymmetric u bank st then half st.p1 else 0
  | 8 => st.p1 * half (st.p2 % 16 * (st.p2 / 16))
  | 9 => st.p1 * half (st.p2 % 16 * (st.p2 / 16))
  | _ => 0
/-- GRP_DELAY: the stages' delays at the output rate, in 1/256 sample, rounded down (R158). -/
def State.groupDelay (s : State) (g : FcuGroup) (bank : Nat) : Nat :=
  let out := g.outMult
  (g.stages.foldl (fun (a : Nat × Nat) st => (a.1 + s.stageDelay g.fcu bank st * 12 * out / st.highMult a.2, st.multAfter a.2))
    (0, g.inMult)).1 / 24
/-- CORE_STATE: free, owned without tasks, running tasks (03, Table 3.10). -/
def State.coreState (s : State) (c : Nat) : Nat :=
  match s.corePlot c with
  | none => 0
  | some p => match s.last p with
    | some l => if l.tasks.any fun t => t.core == c then 2 else 1
    | none => 1
/-- Sum of WCET of the active last's tasks on a core. -/
def State.coreBooked (s : State) (c : Nat) : Nat :=
  match (s.corePlot c).bind s.last with
  | some l => sumN ((l.tasks.filter fun t => t.core == c).map fun t => t.wcet)
  | none => 0
/-- Active lasts. -/
def State.activeLasts (s : State) : List Last := (List.range 16).filterMap s.last
/-- State of a crosspoint: unused, RUNNING, or that of its set (06, Table 6.9). -/
def State.areXpState (s : State) (k : Nat) : Nat :=
  let x := s.areXp k
  match x.rec_ with
  | none => 0
  | some r => if x.fadePos.isSome then 3 else if (s.areSet x.plot r.set).state = 1 then 2 else 1
/-- 256 words of a bank of the group's coefficient memory (05, Table 5.7). -/
def State.bankRead (s : State) (key off sel : Nat) : List Byte :=
  let b := (s.grp key).bank
  let bank := if sel = 0 then b else 1 - b
  (List.range 256).flatMap fun i => leBytesI 4 (s.fcuWord (key / 16) bank ((off + i) % 16384))
/-- 256 coefficients of a region of a crosspoint; beyond its taps they read 0. -/
def State.coefRead (s : State) (k off sel : Nat) : List Byte :=
  let x := s.areXp k
  let bank := if sel = 0 then x.bank else 1 - x.bank
  match x.rec_ with
  | none => List.replicate 768 0
  | some r => (List.range 256).flatMap fun i =>
      match r.off bank with
      | some o => if off + i < r.taps then leBytesI 3 (NTable.get 0 s.areCoef (bank * 16777216 + o + off + i)) else [0, 0, 0]
      | none => [0, 0, 0]

/-! Sessions and network. -/

/-- SESSION_INFO of a slot (16, Table 16.9). -/
def State.sessionInfo (s : State) (n : Nat) : List Byte :=
  let x := (NTable.get {} s.sessions n : Session)
  if x.open_ then leBytes 4 x.number ++ leBytes 1 x.role ++ leBytes 1 x.plot ++ leBytes 1 x.transport ++
    leBytes 1 (if x.claim then 1 else 0) ++ leBytes 8 x.lastTick else List.replicate 16 0
/-- CLAIM_MAP (16, R453). -/
def State.claimMap (s : State) : Nat :=
  let has (role p : Nat) : Bool := s.sessions.any fun (e : Nat × Session) => e.2.open_ && e.2.claim && e.2.role == role &&
    (role == 0 || e.2.plot == p)
  sumN ((List.range 16).map fun p => if has 1 p then 2 ^ p else 0) + if has 0 255 then 65536 else 0
/-- Open sessions that meet a condition. -/
def State.countSessions (s : State) (f : Session → Bool) : Nat :=
  (s.sessions.filter fun (e : Nat × Session) => e.2.open_ && f e.2).length
/-- FDB entry (11, Table 11.3). -/
def FdbEntry.bytes (e : FdbEntry) : List Byte :=
  e.mac ++ leBytes 1 e.fid ++ leBytes 1 ((if e.pinned then 8 else 0) + (if e.hit then 4 else 0) + (if e.idle then 2 else 0) +
    if e.static then 1 else 0) ++ leBytes 1 e.port ++ leBytes 1 e.moves ++ leBytes 6 0
/-- Multicast entry (11, Table 11.4). -/
def McEntry.bytes (e : McEntry) : List Byte :=
  e.mac ++ leBytes 1 e.fid ++ leBytes 1 (if e.engine then 1 else 0) ++ leBytes 4 e.ports ++ leBytes 4 0
/-- Entries of 64 buckets from a first one. -/
def bucketRead {α : Type} (l : List α) (bucket : α → Nat) (bytes : α → List Byte) (first : Nat) : List Byte :=
  (sortBy (fun a b => decide (bucket a ≤ bucket b)) (l.filter fun e => decide (first ≤ bucket e) && decide (bucket e < first + 64))).flatMap
    bytes
/-- ENG_HASH: 512 bytes. -/
def State.engHash (s : State) : List Byte :=
  let l := s.hashSet
  (List.range 512).map fun i => BitVec.ofNat 8 (sumN ((List.range 8).map fun b => if l.contains (8 * i + b) then 2 ^ b else 0))
/-- ASCII padded to 32 bytes. -/
def str32 (t : String) : List Byte := ascii t ++ List.replicate (32 - (ascii t).length) 0

/-! Values. -/

/-- Value of a write that waits for its boundary: a later read of an RW object returns it (17, R475). -/
def State.pendingValue (s : State) (o : ObjInfo) (r : Reg) : Option Int :=
  match (s.due.filter fun d => d.reg == r).getLast? with
  | some d => some d.value
  | none =>
    if o.acc ≠ 1 ∨ o.ty ≥ 13 then none
    else ((s.timed.filter fun x => x.reg == r).getLast?).map fun x => scalarValue o.ty x.bytes
/-- Bytes of a write that waits. -/
def State.pendingBytes (s : State) (o : ObjInfo) (r : Reg) : Option (List Byte) :=
  if o.acc ≠ 1 then none else ((s.timed.filter fun x => x.reg == r).getLast?).map (·.bytes)
/-- Value of a scalar object for a session. -/
def State.viewInt (s : State) (ss : Session) (o : ObjInfo) (r : Reg) : Int :=
  let u := r.unit
  let b (x : Bool) : Int := if x then 1 else 0
  let sig := ss.chosen 0x5000 1
  let g := s.grp u
  let ax := s.areXp u
  match r.idx, r.sub with
  | 0x4E00, 1 => s.tick
  | 0x2260, 2 => match (s.tev u).next with | some e => (e.2 : Nat) | none => (s.pendingValue o r).getD (s.reg r)
  | 0x5000, 2 => ((s.sigOwner sig).getD 255 : Nat)
  | 0x5000, 3 => if (s.sigOwner sig).isNone then 0 else if s.sigLive sig then 2 else 1
  | 0x5000, 4 => (s.domainOf sig (isSource sig) : Nat)
  | 0x5000, 5 => (s.sigHz sig : Nat)
  | 0x5000, 6 => b (s.sigSilent sig)
  | 0x5400, 2 => ((s.bridgeTracker u).getD 0 : Nat)
  | 0x5400, 3 => b (s.bridgeMuted u)
  | 0x4002, 8 => (s.xp u).gain.now
  | 0x4C01, 2 => (s.coreState u : Nat)
  | 0x4C01, 3 => ((s.corePlot u).getD 255 : Nat)
  | 0x4C01, 4 => (s.coreBooked u : Nat)
  | 0x4C02, 4 => s.reg (Reg.msgDropped (ss.chosen 0x4C02 1))
  | 0x4801, 5 => match g.rec_ with | some r => (r.stop - r.start : Nat) | none => 0
  | 0x4801, 6 => match g.rec_ with | some r => (s.groupDelay r g.bank : Nat) | none => 0
  | 0x4801, 10 => ((NTable.get [] s.src (sigOf 11 (u * 8 + ss.chosen 0x4801 9))).getLast?).getD 0
  | 0x4401, 2 => (sumN (s.activeLasts.map fun l => sumN ((l.areWins.filter fun w => w.tile == u).map fun w => w.stop - w.start)) : Nat)
  | 0x4410, 2 => (s.areXpState u : Nat)
  | 0x4410, 3 => match ax.rec_ with | some r => (r.taps : Nat) | none => 0
  | 0x4410, 4 => (ax.bank : Nat)
  | 0x4410, 5 => (ax.exp ax.bank : Nat)
  | 0x4410, 6 => match ax.rec_ with | some r => (r.input : Nat) | none => 0
  | 0x4410, 7 => match ax.rec_ with | some r => (r.output : Nat) | none => 0
  | 0x4410, 8 => match ax.rec_ with | some r => (r.set : Nat) | none => 0
  | 0x4411, 3 => (ax.exp (1 - ax.bank) : Nat)
  | 0x4411, 6 => ((s.plot ss.plot).areFifo.length : Nat)
  | 0x4412, 3 => (sumN (s.activeLasts.map fun l => (l.areXps.filter fun x => x.output == u).length) : Nat)
  | 0x4413, 2 => match s.activeLasts.findSome? fun l => l.areInput u with | some i => (i.hlen : Nat) | none => 0
  | 0x2300, 5 => (sumN ((s.holdings.filter fun h => h.scrub.isSome).map fun h => h.count) : Nat)
  | 0x2100, 0x10 => (s.dpllStatusNow : Nat)
  | 0x2110, 7 => (s.refGradeNow u : Nat)
  | 0x2200, 2 => (s.timeNow % 4294967296 : Nat)
  | 0x2210, 7 => (Config.uid : Nat)
  | 0x2220, 3 => (s.ptpPortNow u : Nat)
  | 0x2060, 7 => (sumN (s.activeLasts.map fun l => sumN ((l.slots.filter fun x => x.port == u).map fun x => x.count)) : Nat)
  | 0x2062, 1 => (s.dramMib : Nat)
  | 0x1000, 3 => (Config.orderCode % 2 : Nat)
  | 0x1000, 4 => 0xB0
  | 0x1000, 5 => (Config.uid : Nat)
  | 0x1000, 6 => (s.slotBuild (min 1 (s.nat Reg.fwActive)) : Nat)
  | 0x2400, 5 => if s.authPin s.timeNs then 1 else 0
  | 0x1000, 8 => (s.nat Reg.pairMode % 2 + 2 * (s.nat Reg.pairSeat % 2) : Nat)
  | 0x1200, 1 => (s.countSessions (fun _ => true) : Nat)
  | 0x1200, 7 => (s.claimMap : Nat)
  | 0x2030, 5 => (s.slotBuild s.spareSlot : Nat)
  | 0x3404, 1 => (leAt s.engMac.reverse 0 6 : Nat)
  | _, _ =>
    let p := r.idx % 16
    if inBlock r.idx 0x4E30 16 && r.sub == 2 then
      match s.last p with | some l => (l.latency (s.plot p).routes (s.nat (Reg.pathSink p)) : Nat) | none => 0
    else if inBlock r.idx 0x4420 16 && r.sub == 4 then
      (sumN ((List.range 8).map fun k => (s.areSet p k).state * 4 ^ k) : Nat)
    else if inBlock r.idx 0x2340 16 then (s.holdingOf p r.sub : Nat)
    else if inBlock r.idx 0x2360 16 && r.sub == 4 then (s.countSessions (fun x => x.role != 0 && x.plot == p) : Nat)
    else if inBlock r.idx 0x3200 24 && r.sub == 0x0D then (s.gclEntries (r.idx - 0x3200) : Nat)
    else if inBlock r.idx 0x1400 64 && r.sub == 3 then ((NTable.get {} s.rings (r.idx - 0x1400) : Ring).owner : Nat)
    else if isSelector r.idx r.sub then Table.get regDefault ss.sel ⟨r.idx, r.sub, 0⟩
    else (s.pendingValue o r).getD (s.reg r)
/-- Bytes that a BLOB object reads where nothing has been written (the defaults of the chapters' tables). -/
def blobDefault (idx sub : Nat) : List Byte :=
  if inBlock idx 0x3800 0x400 && (sub == 0x0E || sub == 0x0F) then legMask true (legOf [] 0)
  else if inBlock idx 0x3C00 0x400 && sub == 0x0C then legOf [] 2
  else if inBlock idx 0x3C00 0x400 && sub == 0x0D then legOf [] 4
  else if inBlock idx 0x3200 24 && sub == 9 then (List.replicate 8 (leBytes 2 64)).flatten
  else if inBlock idx 0x3200 24 && sub == 0x0C then leBytes 4 0 ++ leBytes 4 0x7F
  else if inBlock idx 0x3100 64 && sub == 0x0C then leBytesI 4 q30 ++ leBytes 4 0 ++ leBytesI 4 q30 ++ leBytes 4 0
  else if inBlock idx 0x3100 64 && sub == 0x0E then leBytes 4 268435456 ++ leBytes 44 0
  else if inBlock idx 0x3100 64 && sub == 0x33 then leBytesI 4 30000 ++ leBytesI 4 (-5000)
  else if inBlock idx 0x5500 16 || inBlock idx 0x6000 16 || idx == 0x4C02 || inBlock idx 0x5100 16 then []
  else List.replicate (blobMax idx sub) 0
/-- Bytes of a BLOB, STR32 or TIME object for a session. -/
def State.viewBytes (s : State) (ss : Session) (o : ObjInfo) (r : Reg) : List Byte :=
  let u := r.unit
  match r.idx, r.sub with
  | 0x1000, 1 => str32 "Fermety Microsystems"
  | 0x1000, 2 => str32 "BXE-2048"
  | 0x1001, 2 => let d := ss.chosen 0x1001 1; if d ≥ 16777216 then List.replicate 8 0 else dirEntry (d / 256) (d % 256)
  | 0x1200, 4 => s.sessionInfo u
  | 0x2000, 2 => (List.range 4).flatMap fun k => leBytes 4 (s.nat (rstCounter k))
  | 0x2040, 1 => s.rst.opt
  | 0x2200, 1 => timeBytes s.timeNs
  | 0x2260, 11 => (s.tev u).log.flatten
  | 0x2300, 2 => (List.range 16).flatMap fun p => leBytes 1 (s.nat (Reg.plotState p))
  | 0x2300, 4 => let k := ss.chosen 0x2300 3; (unitsOf k).flatMap fun x => (s.freeRanges k x).flatMap UnitRange.bytes
  | 0x2500, 6 => (s.logExport (ss.chosen 0x2500 7) (if ss.role = 0 then none else some ss.plot)).flatMap LogEntry.bytes
  | 0x3401, 4 => bucketRead s.net.fdb (fun e => fdbBucket e.mac e.fid) FdbEntry.bytes (ss.chosen 0x3401 3)
  | 0x3403, 4 => bucketRead s.net.mc (fun e => mcBucket e.mac e.fid) McEntry.bytes (ss.chosen 0x3403 3)
  | 0x3404, 2 => s.engHash
  | 0x4400, 2 => ownerBytes ((List.range 32768).map (s.holder 2 noUnit))
  | 0x4411, 5 => s.coefRead u (ss.chosen 0x4411 1) (ss.chosen 0x4411 4)
  | 0x4800, 2 => ownerBytes ((List.range 1024).map fun i => s.holder 14 (i / 16) (i % 16))
  | 0x4802, 4 => s.bankRead u (ss.chosen 0x4802 1) (ss.chosen 0x4802 3)
  | 0x4C00, 2 => ownerBytes ((List.range 128).map s.corePlot)
  | _, _ =>
    let p := r.idx % 16
    if inBlock r.idx 0x5100 16 && r.sub == 1 then ((s.plot p).routes.flatMap Route.bytes)
    else if inBlock r.idx 0x2330 16 && r.sub == 6 then
      (s.holdings.filter fun h => h.plot == p && h.scrub.isNone && h.kind == ss.chosen r.idx 5).flatMap fun h => h.range.bytes
    else if inBlock r.idx 0x2350 16 && r.sub == 4 then s.hoTable p
    else if (inBlock r.idx 0x3000 128 && r.sub == 0x1E) || (inBlock r.idx 0x3100 64 && r.sub == 0x33) then
      (match s.pendingValue o r with
       | some v => leBytes (blobMax r.idx r.sub) v.toNat
       | none => if s.blob r = [] then blobDefault r.idx r.sub else s.blob r)
    else if inBlock r.idx 0x3200 24 && r.sub == 0x0C && (s.port (r.idx - 0x3200)).gclNext.isSome then
      ((s.port (r.idx - 0x3200)).gclNext.map (·.2)).getD []
    else match s.pendingBytes o r with
      | some b => b
      | none => if s.blob r = [] then blobDefault r.idx r.sub else s.blob r
/-- Value bytes of an object for a session (17, R474). -/
def State.view (s : State) (ss : Session) (o : ObjInfo) (idx sub : Nat) : List Byte :=
  if sub = 0 then leBytes 1 o.hi.toNat
  else
    let r := ss.regOf idx sub
    if o.ty ≥ 13 then s.viewBytes ss o r else scalarBytes o.ty (s.viewInt ss o r)

end Sys2Proof.Machine
end

