-- ==== Sys2Proof/Machine/Writes.lean ====
section
/-!
DEFINITION. What a write of an object does (16, R454, R455, R554; 17, R474 to R476): its value's check, the meaning of each
object that has one, and the plain write of every other.
-/
namespace Sys2Proof.Machine

/-- Who writes: the role and plot of the session, and its slot where there is one. -/
structure Writer where
  role : Nat
  plot : Nat
  slot : Option (Fin 64) := none
  deriving DecidableEq, Repr

/-- The state that a meaning goes on to. -/
def went (s : State) (o : Out) : State := match o with | .next t => t | _ => s
/-- Signed words of n bytes. -/
def leWords (n : Nat) (b : List Byte) : List Int := (records n b).map fun x => leAtS x 0 n

/-! Values (R474). -/

/-- BLOB objects of one length. -/
def fixedLen (idx sub : Nat) : Bool :=
  [(0x1100, 2), (0x1200, 8), (0x2040, 1), (0x4C02, 2), (0x4C02, 3)].contains (idx, sub) ||
    (inBlock idx 0x2360 16) || (inBlock idx 0x3800 0x800 && [0x0C, 0x0D, 0x0E, 0x0F, 0x13].contains sub) ||
    (inBlock idx 0x3000 128 && sub == 0x1E) || (inBlock idx 0x3100 64 && [0x0C, 0x0E, 0x33].contains sub) ||
    (inBlock idx 0x3200 24 && sub == 9) || (inBlock idx 0x1400 64 && sub == 1)
/-- The latest value written to a register, in force or not. -/
def State.latest (s : State) (r : Reg) : Int :=
  match (s.due.filter fun d => d.reg == r).getLast? with | some d => d.value | none => s.reg r
/-- The range of a PTP field in a profile (10, Table 10.2). -/
def State.ptpRange (s : State) (sub : Nat) (v : Int) : Bool :=
  let k := s.latest Reg.ptpProfile
  let a : Int × Int :=
    match sub with
    | 4 => if k = 0 then (-4, 1) else if k = 1 then (-7, -1) else (-5, 0)
    | 5 => if k = 0 then (0, 4) else if k = 1 then (-3, 1) else (0, 3)
    | _ => if k = 0 then (-3, 5) else if k = 1 then (-7, -1) else (0, 3)
  decide (a.1 ≤ v) && decide (v ≤ a.2)
/-- Ranges of the chapters that an interval does not give: one check per object. -/
def State.rangeOk (s : State) (r : Reg) (v : Int) : Bool :=
  let i := r.idx
  let n := v.toNat
  match i, r.sub with
  | 0x2100, 0x0F => n == 255 || (decide (n ≤ 14) && n != 13)
  | 0x2110, 4 => decide (n ≤ 4)
  | 0x2120, 2 => decide (n ≤ 6)
  | 0x2120, 3 => n == 1 || n == 2 || n == 4
  | 0x2120, 5 => decide (n ≤ 2)
  | 0x2210, 3 => if s.latest Reg.ptpProfile = 2 then n == 0 else decide (n ≤ 127)
  | 0x2210, 9 => decide (2 ≤ n) && decide (n ≤ 10)
  | 0x2220, 4 => s.ptpRange 4 v
  | 0x2220, 5 => s.ptpRange 5 v
  | 0x2220, 6 => s.ptpRange 6 v
  | 0x2260, 3 => decide (1 ≤ n) && decide (n ≤ 3)
  | 0x2260, 5 => decide (-1000000 ≤ v) && decide (v ≤ 1000000)
  | 0x2260, 6 => decide (n ≥ 8 * 4294967296) && decide (s.nat (Reg.tevWidth r.unit) * 4294967296 < n)
  | 0x2260, 7 => decide (n ≥ 4) && decide (n * 4294967296 < s.nat (Reg.tevPeriod r.unit))
  | 0x3400, 1 => n == 0 || decide (n ≥ 10)
  | 0x3404, 1 => decide (n < 281474976710656)
  | 0x4C02, 1 => decide (n < 128)
  | 0x5000, 1 => sigValid n
  | _, _ =>
    if inBlock i 0x3200 24 then
      (if r.sub = 2 then decide (n < 2) || s.reg (Reg.netMode (i - 0x3200)) == 1
       else if r.sub = 8 then (List.range 8).all fun k => decide (n / 16 ^ k % 16 ≤ 6)
       else true)
    else if inBlock i 0x3800 0x800 then
      (if r.sub = 5 then decide (n ≤ 6) else if r.sub = 8 then decide (n ≤ 2)
       else if i < 0x3C00 ∧ r.sub = 0x0C then !s.paired || decide (n ≥ 1000)
       else if r.sub = 0x0D ∧ i < 0x3C00 then n % 4096 == 0 else true)
    else if inBlock i 0x3000 128 then
      (match r.sub with
       | 5 => decide (n ≤ 3) | 7 => i % 2 == 0 | 0x0C => n == 16 || n == 24 || n == 32
       | 0x0D => n == 16 || n == 20 || n == 24 || n == 32 | _ => true)
    else if inBlock i 0x4E30 16 then r.sub != 1 || sigValid n
    else if inBlock i 0x3100 64 then
      (let k := i - 0x3100
       match r.sub with
       | 5 => n % 2 == 0 || k % 2 == 0
       | 0x1C => decide (v > s.latest (Reg.pscThermKnee k))
       | 0x1D => decide (v < s.latest (Reg.pscThermKnee k))
       | _ => true)
    else true
/-- Are the bytes of an IPv4 interface record in range (16, Table 16.9). -/
def ifaceOk (b : List Byte) : Bool :=
  decide (leAt b 0 2 ≤ 4094) && decide (leAt b 2 1 ≤ 32) && leAt b 3 1 == 0 && leAt b 12 4 == 0
/-- The code that the value of a write is refused with, 0 for none (R474). -/
def State.valueCode (s : State) (o : ObjInfo) (r : Reg) (b : List Byte) : Nat :=
  if o.ty = 15 then
    (let m := blobMax r.idx r.sub
     if b = [] ∨ (m ≠ 0 ∧ b.length > m) ∨ (fixedLen r.idx r.sub ∧ b.length ≠ m) then 0x12
     else if r.idx = 0x1100 ∧ !ifaceOk b then 0x13
     else if inBlock r.idx 0x3100 64 ∧ r.sub = 0x33 ∧ r.idx % 4 ≠ 0 then 0x13
     else 0)
  else if b.length ≠ tyLen o.ty then 0x12
  else if o.ty ≥ 13 then 0
  else
    let v := scalarValue o.ty b
    if v < o.lo ∨ v > o.hi ∨ !s.rangeOk r v then 0x13 else 0

/-! Objects with a meaning of their own; none where a write is plain. -/

/-- The last, routes, detectors and generators. -/
def State.writeLast (s : State) (w : Writer) (r : Reg) (b : List Byte) (v : Int) : Option Out :=
  let p := Fin.ofNat 16 w.plot
  let at_ := s.actTick
  if inBlock r.idx 0x4E10 16 then
    (match r.sub with
     | 1 => some (execLastStage p (w.role == 1) b s)
     | 2 => some (execLastInstall p v.toNat s)
     | 3 => some (execLastCancel p s)
     | _ => none)
  else if inBlock r.idx 0x5100 16 then
    (match r.sub with
     | 2 => some (execRouteEdit p b s)
     | 3 => some (execRouteEditAt p at_ false b s)
     | _ => none)
  else if r.idx = 0x5200 then
    (let d := Fin.ofNat 8192 r.unit
     let f (k : Nat) : Int := if r.sub = k then v else s.reg ⟨0x5200, k, r.unit⟩
     some (execSilSignal p d (f 2).toNat (f 3) (f 4).toNat s))
  else if r.idx = 0x5300 then
    some (.next (if r.sub = 3 ∧ v > 500 * (s.plotMult w.plot * Config.baseRate s.family : Nat) then s.reply 0x13
      else (s.dueWrite r v).reply 0))
  else if inBlock r.idx 0x5500 16 then
    (match r.sub with
     | 1 => some (execMtrSet p b s)
     | 2 => some (execMtrPeriod p v.toNat s)
     | _ => none)
  else none
/-- Buses, crosspoints, cores, filter chains and the array renderer. -/
def State.writeCompute (s : State) (w : Writer) (r : Reg) (b : List Byte) (v : Int) : Option Out :=
  let p := Fin.ofNat 16 w.plot
  let bus := Fin.ofNat 2048 r.unit
  let xp := Fin.ofNat 65536 r.unit
  let core := Fin.ofNat 128 r.unit
  match r.idx, r.sub with
  | 0x4001, 2 => some (execBusGain p bus v s)
  | 0x4001, 3 => some (execBusGain p bus v s)
  | 0x4001, 4 => some (execBusMute p bus (v != 0) s)
  | 0x4001, 6 => some (execBusAuto p bus v.toNat s)
  | 0x4002, 2 => some (execXpGain p xp v s)
  | 0x4002, 3 => some (execXpGain p xp v s)
  | 0x4002, 4 => some (execXpMute p xp (v != 0) s)
  | 0x4C02, 2 => some (execMsgPost p core b s)
  | 0x4C02, 3 => some (execMsgPost p core b s)
  | 0x4802, 2 =>
    let k := r.unit % 1024
    if b.length % 4 ≠ 0 then some (.next (s.reply 0x12))
    else some (execBankWrite p (Fin.ofNat 64 (k / 16)) (Fin.ofNat 16 k) (r.unit / 1024) (leWords 4 b) s)
  | 0x4802, 5 => some (execSwapAt p (Fin.ofNat 64 (r.unit / 16)) (Fin.ofNat 16 r.unit) v.toNat s)
  | 0x4411, 2 =>
    if b.length % 3 ≠ 0 then some (.next (s.reply 0x12))
    else some (execAreCoefWrite p (Fin.ofNat 32768 r.unit) (r.unit / 32768) (leWords 3 b) s)
  | 0x4411, 3 => some (execAreCoefExp p (Fin.ofNat 32768 r.unit) v.toNat s)
  | _, _ =>
    if inBlock r.idx 0x4420 16 then
      (match r.sub with
       | 2 => some (execAreSwapAt p v.toNat s)
       | 6 => some (execAreImgStore p b s)
       | 7 => some (execAreImgLoad p s)
       | _ => none)
    else none
/-- Plots: resets, quotas, assignments, handoffs, keys, faults. -/
def State.writePlot (s : State) (w : Writer) (r : Reg) (b : List Byte) (v : Int) : Option Out :=
  let p := Fin.ofNat 16 r.idx
  if inBlock r.idx 0x2310 16 then
    (match r.sub with
     | 3 => some (execPlotReset p (v != 0) s)
     | 4 => some (execPlotResetAt p (v != 0) s.actTick false s)
     | _ => none)
  else if inBlock r.idx 0x2320 16 then some (execQuota p (Fin.ofNat 256 r.sub) v.toNat s)
  else if inBlock r.idx 0x2330 16 then
    (match r.sub with
     | 1 => some (execAssignGrant p b s)
     | 2 => some (execAssignRelease p b s)
     | _ => none)
  else if inBlock r.idx 0x2350 16 then
    (match r.sub with
     | 1 => some (execHoOffer p v.toNat s)
     | 2 => some (execHoAccept p v.toNat s)
     | 3 => some (execHoWithdraw p v.toNat s)
     | _ => none)
  else if inBlock r.idx 0x2360 16 then
    (match r.sub with
     | 1 => some (.next (if w.role = 1 ∨ s.reg (Reg.plotState p) = 0 then s.writeOwnerKey p b else s.reply 0x11))
     | 2 => some (.next (s.writeObserverKey p b))
     | _ => none)
  else if inBlock r.idx 0x2370 16 ∧ r.sub = 2 then some (execPlotFaultClear p (Fin.ofNat 4294967296 v.toNat) s)
  else none
/-- The pair, clocks and network time. -/
def State.writeTime (s : State) (w : Writer) (r : Reg) (b : List Byte) (v : Int) : Option Out :=
  match r.idx, r.sub with
  | 0x2400, 0x0A => some (execPairSuspectClear s)
  | 0x2400, 0x0B => some (execPairLeave v.toNat s)
  | 0x2400, 0x10 => some (execPairTake s)
  | 0x2405, 1 => some (execGraftStart s)
  | 0x2405, 6 => some (execGraftAbort s)
  | 0x2100, 0x0D => some (execDpllSteer v s)
  | 0x2100, 0x12 => some (execDpllStickyClear (Fin.ofNat 4294967296 v.toNat) s)
  | 0x2150, 1 => some (execSBase v.toNat s)
  | 0x2200, 3 => some (execTimeIncr (Fin.ofNat 18446744073709551616 v.toNat) s)
  | 0x2200, 5 => some (execTimeSet (Fin.ofNat 281474976710656 (leAt b 4 6)) (leAt b 0 4) s)
  | 0x2200, 6 => some (execTimeAdj v s)
  | 0x2200, 9 => some (execTimeStep v s)
  | 0x2210, 1 => some (execPtpRole v.toNat s)
  | 0x2210, 2 => some (execPtpProfile v.toNat s)
  | 0x2260, 2 => some (execTevMode (Fin.ofNat 16 w.plot) (Fin.ofNat 24 r.unit) v.toNat s)
  | 0x2260, 9 => some (execTevAction (Fin.ofNat 16 w.plot) (Fin.ofNat 24 r.unit) b s)
  | _, _ => none
/-- The network, the field bus, streams. -/
def State.writeNet (s : State) (w : Writer) (r : Reg) (b : List Byte) (v : Int) : Option Out :=
  let p := Fin.ofNat 16 w.plot
  let cmdAt : Option (Nat × Bool) := if r.sub = 3 then some (s.actTick, false) else none
  if inBlock r.idx 0x3200 24 then
    (let n := Fin.ofNat 24 (r.idx - 0x3200)
     match r.sub with
     | 1 => some (execNetMode n v.toNat s)
     | 9 => some (execNetQcells n b s)
     | 0x0A => some (execNetPreempt n v.toNat s)
     | 0x0C => some (execNetBaseGcl n b s)
     | 0x12 => some (execNetFlush n s)
     | _ => none)
  else if inBlock r.idx 0x3800 0x800 ∧ (r.sub = 2 ∨ r.sub = 3) then
    (let t := Fin.ofNat 1024 r.idx
     if r.idx < 0x3C00 then some (if v = 0 then execRxStop p t cmdAt s else execRxStart p t cmdAt s)
     else some (if v = 0 then execTxStop p t cmdAt s else execTxStart p t cmdAt s))
  else match r.idx, r.sub with
    | 0x3300, 1 => some (execT1sAccess v.toNat s)
    | 0x3300, 2 => some (.next (((s.setReg r v).refreshT1s).reply 0))
    | 0x3300, 3 => some (.next (((s.setReg r v).refreshT1s).reply 0))
    | 0x3404, 1 => if s.paired then some (.next (s.reply 0x11)) else none
    | 0x3401, 1 => some (execFdbAdd b s)
    | 0x3401, 2 => some (execFdbDel b s)
    | 0x3403, 1 => some (execMcAdd b s)
    | 0x3403, 2 => some (execMcDel b s)
    | _, _ => none
/-- Serial audio ports and power stages. -/
def State.writeAudio (s : State) (w : Writer) (r : Reg) (b : List Byte) (v : Int) : Option Out :=
  let p := Fin.ofNat 16 w.plot
  let cmdAt : Option (Nat × Bool) := if r.sub = 3 then some (s.actTick, false) else none
  let n := Fin.ofNat 128 (r.idx - 0x3000)
  let c := Fin.ofNat 64 (r.idx - 0x3100)
  if inBlock r.idx 0x3000 128 then
    (match r.sub with
     | 2 => some (if v = 0 then execSapStop p n cmdAt s else execSapStart p n cmdAt s)
     | 3 => some (if v = 0 then execSapStop p n cmdAt s else execSapStart p n cmdAt s)
     | 0x12 => some (execSapMute p n (v != 0) s)
     | 0x1A => some (execSapEventClear p n (Fin.ofNat 65536 v.toNat) s)
     | _ => none)
  else if inBlock r.idx 0x3100 64 then
    (match r.sub with
     | 2 => some (if v = 0 then execPscStop p c cmdAt s else execPscStart p c cmdAt s)
     | 3 => some (if v = 0 then execPscStop p c cmdAt s else execPscStart p c cmdAt s)
     | 0x0E => some (execPscLoopCoef p c (leWords 4 b) s)
     | 0x0F => some (execPscLoopSwapAt p c v.toNat s)
     | 0x2C => some (execPscFaultClear p c s)
     | 0x2E => some (execPscEventClear p c (Fin.ofNat 65536 v.toNat) s)
     | _ => none)
  else none
/-- The gardener role's key; each write closes every other session of that role (16, R451). -/
def State.writeGardenerKey (s : State) (slot : Option Nat) (key : List Byte) : State :=
  if key.length ≠ 32 then s.reply 0x12
  else
    let others := (s.sessions.filter fun (e : Nat × Session) => e.2.open_ && e.2.role == 0 && some e.1 != slot).map (·.1)
    let s1 := s.setBlob Reg.gardenerKey (if zeros key then [] else key)
    ((overL others State.closeSession s1).flashed).reply 0
/-- Management, reset, the log and faults. -/
def State.writeChip (s : State) (w : Writer) (r : Reg) (b : List Byte) (v : Int) : Option Out :=
  let n := v.toNat
  let port := n % 256
  match r.idx, r.sub with
  | 0x1200, 8 => some (.next (s.writeGardenerKey (w.slot.map (·.val)) b))
  | 0x1300, 4 => some (execAddrRestart s)
  | 0x2000, 3 =>
    if n ≥ 65536 then some (.next (s.reply 0x13))
    else match n / 256, port with
      | 1, 0 => some (execRstCmdCold s)
      | 2, 0 => some (execRstCmdWarm s)
      | 3, 0 => some (execRstCmdGardener s)
      | 4, _ => if port < 28 then some (execRstCmdPort (Fin.ofNat 28 port) s) else some (.next (s.reply 0x13))
      | _, _ => some (.next (s.reply 0x13))
  | 0x2030, 2 => some (execFwStage b.length (Config.fwCheck b) (Config.fwBuildOf b) s)
  | 0x2030, 3 => some (execFwSwitch s)
  | 0x2040, 1 => some (execOptBlock b s)
  | 0x2500, 3 => some (if v = 0 then execLogUnfreeze s else execLogFreeze s)
  | 0x2502, 2 => some (execFaultClear (Fin.ofNat 65536 n) s)
  | _, _ =>
    if inBlock r.idx 0x1400 64 then
      match w.slot with
      | some k => some (if r.sub = 1 then execRingOpen k (Fin.ofNat 64 (r.idx - 0x1400)) b s
          else execRingClose k (Fin.ofNat 64 (r.idx - 0x1400)) s)
      | none => some (.next (s.reply 0x11))
    else none

/-! Every other object. -/

/-- Would a write of a port's or stream's domain or rate break condition 3 of R62 for a route of an active or shadow last (02,
R62). -/
def State.breaksRoute (s : State) (r : Reg) (v : Int) : Bool :=
  let n := r.idx
  let domainOrRate : Bool :=
    (inBlock n 0x3000 128 && (r == Reg.sapDomain (n - 0x3000) || r == Reg.sapRate (n - 0x3000))) ||
      (inBlock n 0x3800 1024 && (r == Reg.rxDomain (n - 0x3800) || r == Reg.rxRate (n - 0x3800))) ||
      (inBlock n 0x3C00 1024 && (r == Reg.txDomain (n - 0x3C00) || r == Reg.txRate (n - 0x3C00)))
  let t := s.setReg r v
  let broken (l : Option Last) (rs : List Route) : Bool :=
    match l with
    | some l => rs.any fun q => !q.none && s.domainRateOk l q none && !t.domainRateOk l q none
    | none => false
  domainOrRate && (List.range 16).any fun p =>
    broken (s.plot p).active (s.plot p).routes || broken (s.plot p).shadow (((s.plot p).shadow.map (·.routes)).getD [])
/-- The status object of a stream, port or channel. -/
def unitStatus (n : Nat) : Option Reg :=
  if inBlock n 0x3800 1024 then some (Reg.rxStatus (n - 0x3800))
  else if inBlock n 0x3C00 1024 then some (Reg.txStatus (n - 0x3C00))
  else if inBlock n 0x3000 128 then some (Reg.sapStatus (n - 0x3000))
  else if inBlock n 0x3100 64 then some (Reg.pscStatus (n - 0x3100)) else none
/-- The status object that records the refusal of a configuration write to a unit that is not off (12, R365; 13, R378; 14,
R418). -/
def State.busyUnit (s : State) (r : Reg) : Option Reg :=
  let n := r.idx
  if inBlock n 0x3800 1024 then (if s.reg (Reg.rxState (n - 0x3800)) = 0 then none else some (Reg.rxStatus (n - 0x3800)))
  else if inBlock n 0x3C00 1024 then (if s.reg (Reg.txState (n - 0x3C00)) = 0 then none else some (Reg.txStatus (n - 0x3C00)))
  else if inBlock n 0x3000 128 then (if s.reg (Reg.sapState (n - 0x3000)) = 0 then none else some (Reg.sapStatus (n - 0x3000)))
  else if inBlock n 0x3100 64 then (if s.reg (Reg.pscState (n - 0x3100)) = 0 then none else some (Reg.pscStatus (n - 0x3100)))
  else none
/-- The bytes that a BLOB object keeps: res bits of a leg record read 0 (00, R11; log entry 219). -/
def keptBytes (r : Reg) (b : List Byte) : List Byte :=
  if inBlock r.idx 0x3800 1024 && (r.sub == 0x0E || r.sub == 0x0F) then legMask true b
  else if inBlock r.idx 0x3C00 1024 && (r.sub == 0x0C || r.sub == 0x0D) then legMask false b
  else b
/-- A write of an object without a meaning of its own: a timed object waits for its boundary, every other one takes its value
at once, and goes to boot flash where it is kept there. -/
def State.writePlain (s : State) (o : ObjInfo) (r : Reg) (b : List Byte) (v : Int) : State :=
  if o.timed then (s.dueWrite r (if o.ty = 15 then (leAt b 0 b.length : Nat) else v)).reply 0
  else match (s.busyUnit r).or (if s.breaksRoute r v then unitStatus r.idx else none) with
    | some st => (s.setReg st 0x14).reply 0
    | none =>
      let s1 := if o.ty ≥ 13 then s.setBlob r (keptBytes r b) else s.setReg r v
      (s1.when (inFlash r.idx r.sub) State.flashed).reply 0
/-- A write that has passed the checks of R450 takes effect; the answer's status is the item's. -/
def State.runWrite (s : State) (w : Writer) (o : ObjInfo) (r : Reg) (b : List Byte) : State :=
  let code := s.valueCode o r b
  if code ≠ 0 then s.reply code
  else
    let v := if o.ty ≥ 13 then 0 else scalarValue o.ty b
    let own := ((((((s.writeLast w r b v).or (s.writeCompute w r b v)).or (s.writePlot w r b v)).or
      (s.writeTime w r b v)).or (s.writeNet w r b v)).or (s.writeAudio w r b v)).or (s.writeChip w r b v)
    match own with
    | some out => went s out
    | none => s.writePlain o r b v
/-- The status of the latest write. -/
def State.code (s : State) : Nat := s.answer.status

/-! The tick of a write and a pair's partner (16, R455; 08, R250, R251). -/

/-- Does a write act on the chip that receives it, in every pair role (08, R250). -/
def localObj (idx sub : Nat) : Bool :=
  inBlock idx 0x2400 256 || isSelector idx sub || idx == 0x1100 || inBlock idx 0x1300 256 || inBlock idx 0x1400 64 ||
    idx == 0x3300 || [(0x1200, 2), (0x2000, 3), (0x2030, 2), (0x2030, 3), (0x2500, 3), (0x2500, 5), (0x2502, 2)].contains (idx, sub)
/-- Does a write set the tick of its own effect: a boundary counted from acceptance, a named tick, or its effect is on
management alone (log entry 120). -/
def ownsTick (o : ObjInfo) (idx sub : Nat) : Bool :=
  o.timed || o.acc == 4 ||
    ([0x4001, 0x4002].contains idx && sub == 2) ||
    ((inBlock idx 0x3000 128 || inBlock idx 0x3100 64 || inBlock idx 0x3800 0x800) && sub == 2) ||
    (inBlock idx 0x3100 64 && (sub == 0x0E || sub == 0x0F)) || (inBlock idx 0x3200 24 && sub == 0x0C) ||
    (idx == 0x2200 && [3, 5, 6, 9].contains sub) || (idx == 0x2210 && sub ≤ 2) || (idx == 0x2260 && sub == 2) ||
    (inBlock idx 0x2310 16 && sub == 3) || (inBlock idx 0x2350 16 && sub ≤ 3) || (inBlock idx 0x5100 16 && sub == 2) ||
    [(0x4C02, 2), (0x1200, 8)].contains (idx, sub) ||
    (inBlock idx 0x4E10 16 && sub ≤ 3) || (inBlock idx 0x2360 16 && sub ≤ 2) || (inBlock idx 0x5500 16 && sub ≤ 2)
/-- Actions wait under the plot of their writer, 16 for the gardener role (16, R456). -/
def Writer.owner (w : Writer) : Nat := if w.role = 0 then 16 else w.plot
/-- A write takes effect at a named tick: its meaning counts from there, and it joins its owner's pending actions; objects
whose own meaning does so already are left to it (16, R455, R456). -/
def State.runAt (s : State) (w : Writer) (o : ObjInfo) (r : Reg) (b : List Byte) (t : Nat) : State :=
  let old := s.pair.toTick
  let s1 := ({ s with pair := { s.pair with toTick := some t } }).runWrite w o r b
  let noted := o.timed || [(0x4001, 3), (0x4002, 3), (0x4C02, 3)].contains (r.idx, r.sub)
  let s2 := if noted && s1.code == 0 then s1.noteAt t w.owner r b else s1
  { s2 with pair := { s2.pair with toTick := old } }
/-- An action that takes effect at once waits for the tick at which both chips take it (08, R251). -/
def State.holdBack (s : State) (w : Writer) (r : Reg) (b : List Byte) (t : Nat) : State :=
  { s with timed := s.timed ++ [{ tick := t, owner := w.owner, reg := r, bytes := b, slot := w.slot.map (·.val) }] }
/-- The tick that an object's own value names (01, R41; 14, R398); 0 where it names none. -/
def namedTick (r : Reg) (b : List Byte) : Nat :=
  if (inBlock r.idx 0x4E10 16 && r.sub == 2) || (inBlock r.idx 0x3100 64 && r.sub == 0x0F) then leAt b 0 8 else 0
/-- A write on a chip that forwards: it goes to the partner; what would act at once waits with it (08, R251). -/
def State.forwardWrite (s : State) (w : Writer) (o : ObjInfo) (r : Reg) (b : List Byte) (at_ : Option Nat) : State :=
  let t := at_.getD (max (s.tick + 8) (namedTick r b))
  let act : FwdAction := { idx := r.idx, sub := r.sub, unit := r.unit, bytes := b, role := w.role, plot := w.plot, named := at_.isSome }
  let ran := match at_ with | some k => s.runAt w o r b k | none => s.runWrite w o r b
  if ran.code ≠ 0 then s.reply ran.code
  else if at_.isSome || ownsTick o r.idx r.sub then ran.sendMgmt t act
  else ((s.holdBack w r b t).sendMgmt t act).reply 0
/-- A write that has passed every check of the request. -/
def State.acceptWrite (s : State) (w : Writer) (o : ObjInfo) (r : Reg) (b : List Byte) (at_ : Option Nat) : State :=
  if s.forwards && !localObj r.idx r.sub then s.forwardWrite w o r b at_
  else match at_ with
    | some t => s.runAt w o r b t
    | none => s.runWrite w o r b

/-- Is an object one of a unit or of a plot, so that its plot alone writes it beside the gardener role. -/
def plotBound (idx : Nat) : Bool :=
  inBlock idx 0x2310 0x70 || idx == 0x2260 || inBlock idx 0x3000 0x140 || inBlock idx 0x3800 0x800 || decide (idx ≥ 0x4000)
/-- REGISTER_WRITE: a write of an object by its role, as a WRITE of one item would do it; a selector acts on a session alone
(16, R450, R461, R547; 17, R475). -/
def execRegisterWrite (owner : Fin 17) (idx sub unit : Nat) (v : List Byte) (s : State) : Out :=
  let w : Writer := if owner.val = 16 then { role := 0, plot := 255 } else { role := 1, plot := owner.val }
  let r : Reg := ⟨idx, sub, unit⟩
  match findObj idx sub with
  | none => .next (s.reply 0x10)
  | some o =>
    let may := bit (rightsOf o idx sub : Int) (if owner.val = 16 then 1 else 3) &&
      (owner.val == 16 || isSelector idx sub || !plotBound idx || s.regPlot r == some owner.val)
    if o.acc ≠ 1 ∨ !may then .next (s.reply 0x11)
    else if isSelector idx sub then .next (s.reply (s.valueCode o r v))
    else if s.paired && s.reg Reg.pairRole != 0 && !localObj idx sub then .next (s.reply 0x18)
    else .next (s.acceptWrite w o r v none)

/-- One action that is due: a value of an RWT object
stands from here on; what a pair held back takes effect; what no longer has its unit is discarded. -/
def State.applyTimed (s : State) (x : Timed) : State :=
  match findObj x.reg.idx x.reg.sub with
  | none => s
  | some o =>
    let base : Reg := if x.reg.idx = 0x4802 then { x.reg with unit := x.reg.unit % 1024 }
      else if x.reg.idx = 0x4411 then { x.reg with unit := x.reg.unit % 32768 } else x.reg
    let lost := (decide (x.owner < 16) && plotBound base.idx && s.regPlot base != some x.owner) || (o.acc == 4 && !s.inLast base)
    if lost then (s.dropNoted [x]).discard x.owner x.reg x.tick
    else if o.acc = 4 then
      (if o.ty ≥ 13 then s.setBlob x.reg x.bytes else s.setReg x.reg (scalarValue o.ty x.bytes))
    else if o.timed then s
    else
      let w : Writer := { role := if x.owner = 16 then 0 else 1, plot := if x.owner = 16 then 255 else x.owner
                          slot := x.slot.map (Fin.ofNat 64) }
      let old := s.pair.toTick
      let s1 := ({ s with pair := { s.pair with toTick := some s.tick } }).runWrite w o x.reg x.bytes
      { s1 with pair := { s1.pair with toTick := old }, answer := s.answer }
/-- TIMED_ACTION_APPLY: the actions due at this boundary, in order of acceptance (01, R45; 16, R456). -/
def execTimedActionApply (s : State) : Out :=
  let due := s.timed.filter fun x => decide (x.tick ≤ s.tick)
  .next (overL due State.applyTimed { s with timed := s.timed.filter fun x => !decide (x.tick ≤ s.tick) })

/-- MGMT: an action of role A reaches its partner, which queues it for its tick and answers MACK (08, R251, R252; 18, R501: the
brace's boundaries that A names). The answer holds the MACK's sequence number. -/
def execMgmt (seq t : Nat) (a : FwdAction) (s : State) : Out :=
  let takes := s.reg Reg.pairRole == 1 &&
    (s.reg Reg.pairState == 3 || (s.reg Reg.pairState == 2 && decide (s.reg Reg.graftPhase ≥ 3)))
  if !takes then .next s
  else
    let r : Reg := ⟨a.idx, a.sub, a.unit⟩
    let w : Writer := { role := a.role, plot := a.plot }
    let s1 : State :=
      if a.idx = 0x2020 ∧ a.sub = 1 then
        (if a.bytes = [3] then s.modBrace fun x => { x with unbraceAt := some t } else s.modBrace fun x => { x with policyAt := some t })
      else match findObj a.idx a.sub with
        | none => s
        | some o =>
          if a.named || o.acc == 4 then s.runAt w o r a.bytes t
          else if ownsTick o a.idx a.sub then
            let ran := ({ s with pair := { s.pair with toTick := some t } }).runWrite w o r a.bytes
            { ran with pair := { ran.pair with toTick := s.pair.toTick } }
          else s.holdBack w r a.bytes t
    .next { ((s1.heard).modPair fun x => { x with acked := seq }).sendCell (.mack seq) with
      answer := { bytes := leBytes 4 seq, sent := true } }

end Sys2Proof.Machine
end

