-- ==== Sys2Proof/Machine/Messages.lean ====
section
/-!
DEFINITION. Messages of the management protocol (16, R440, R448, R449, R454, R458): reception, tags, sequence numbers,
responses, notifications.
-/
namespace Sys2Proof.Machine

/-- Bytes of a header (16, Table 16.2). -/
def ompHeader (op flags node session seq len status tick : Nat) : List Byte :=
  leBytes 1 1 ++ leBytes 1 op ++ leBytes 1 flags ++ leBytes 1 node ++ leBytes 4 session ++ leBytes 4 seq ++ leBytes 2 len ++
    leBytes 1 status ++ [0] ++ leBytes 8 tick ++ leBytes 8 0
/-- Tag of a message under a session key (R449). -/
def ompTag (ks header body : List Byte) : List Byte := (hmac ks (header ++ body)).take 16
/-- Largest body of a transport (Table 16.1). -/
def bodyMax (transport : Nat) : Nat := if transport = 3 then 4032 else 1408
/-- Key of the source of a message: transport and address (R440, R452). -/
def sourceKey (m : Omp) : Nat := m.transport.val + 4 * m.source
/-- A session. -/
def State.session (s : State) (n : Nat) : Session := NTable.get {} s.sessions n
/-- Change a session. -/
def State.modSession (s : State) (n : Nat) (f : Session → Session) : State :=
  { s with sessions := NTable.mod {} s.sessions n f }
/-- Slot of a session number, open or half open. -/
def State.slotOf (s : State) (number : Nat) : Option Nat :=
  if number = 0 then none
  else (s.sessions.find? fun (e : Nat × Session) => e.2.number == number && (e.2.open_ || e.2.half)).map (·.1)

/-- What a request is answered with. -/
structure Reply where
  status : Nat := 0
  body : List Byte := []
  items : List (Nat × List Byte) := []
  applied : List Nat := []
  deriving DecidableEq, Repr

/-- A message leaves by a transport; on a field bus where the chip sends nothing it does not (R442). -/
def State.transmit (s : State) (transport : Nat) (msg : List Byte) : State × Bool :=
  if transport < 2 ∧ bit (s.reg Reg.t1sStatus) 3 then (s, false)
  else ((s.setReg Reg.ompTx (bump64 (s.reg Reg.ompTx))).when (transport == 3) fun s => s.mboxOut msg, true)
/-- A response is formed, sent, and kept for a repetition of its request (R449, R454). `who` is the slot and key of the session
that the request belongs to. -/
def State.respond (s : State) (m : Omp) (op session : Nat) (who : Option (Nat × List Byte)) (r : Reply) : State :=
  let flags := if who.isSome then 3 else 1
  let h := ompHeader op flags m.node session m.seq r.body.length r.status s.tick
  let msg := h ++ r.body ++ (match who with | some (_, ks) => ompTag ks h r.body | none => [])
  let t := s.transmit m.transport msg
  let a : Answer := { status := r.status, items := r.items, applied := r.applied, bytes := if t.2 then msg else [], sent := t.2 }
  let s1 := { t.1 with answer := a }
  match who with
  | some (k, _) =>
    if (s1.session k).open_ ∧ (s1.session k).number = session then
      s1.modSession k fun x => { x with replies := ((m.seq, { a with bytes := msg }) :: x.replies).take 8 }
    else s1
  | none => s1
/-- A message is dropped without an answer and counted (R440, R449, R460). -/
def State.ompDrop (s : State) : State := (s.bump Reg.ompDropped)
/-- Is a message taken at all: not while a reset holds the gardener, not by a field-bus port in reset, nor by a mailbox that is
closed (18, R487; R465). -/
def State.ompOpen (s : State) (m : Omp) : Bool :=
  s.rst.kind == 0 && !(decide (m.transport.val < 2) && bit (s.rst.ports : Int) (24 + m.transport.val)) &&
    (m.transport.val != 3 || s.host.mbox)
/-- Is the NODE field this chip's (R440). -/
def State.nodeOk (s : State) (m : Omp) : Bool :=
  m.node.val == 255 || (decide (m.transport.val < 2) && m.node.val == s.nat Reg.idAddr)
/-- A message has arrived: counted, its page taken, nothing answered yet. -/
def State.ompArrive (s : State) (m : Omp) : State :=
  let s1 := { s with answer := {} }
  (s1.setReg Reg.ompRx (bump64 (s.reg Reg.ompRx))).when (m.transport.val == 3) State.mboxIn
/-- A request of a session passes its tag and its sequence number, or the state that it leaves instead: dropped, or answered
once more (R440, R449). -/
def State.passRequest (s : State) (m : Omp) (op : Nat) : Except State (State × Nat × Session) :=
  match s.slotOf m.session with
  | none => .error s.ompDrop
  | some k =>
    let x := s.session k
    let h := ompHeader op m.flags m.node m.session m.seq m.body.length 0 m.tick
    if !x.open_ || x.transport != m.transport.val || x.source != m.source then .error s.ompDrop
    else if m.flags.val / 2 % 2 = 0 ∨ m.tag ≠ ompTag x.ks h m.body then .error s.ompDrop
    else
      let s1 := s.modSession k fun x => { x with lastTick := s.tick }
      if x.seq < m.seq then
        let s2 := s1.modSession k fun x => { x with seq := m.seq }
        .ok (s2, k, s2.session k)
      else match x.replies.find? fun e => e.1 == m.seq with
        | some e => let t := s1.transmit m.transport e.2.bytes
          .error { t.1 with answer := if t.2 then { e.2 with sent := true } else {} }
        | none => .error s1.ompDrop
/-- The flags that a request may carry, and its size (Tables 16.1, 16.2). -/
def ompFormOk (m : Omp) : Bool := decide (m.flags.val < 32) && m.flags.val % 2 == 0 && decide (m.body.length ≤ bodyMax m.transport)
/-- The gardener serves a request of a session: `f` gives the state and the reply (R454). -/
def State.serve (s : State) (m : Omp) (op : Nat) (f : State → Nat → Session → State × Reply) : State :=
  match s.passRequest m op with
  | .error t => t
  | .ok (s1, k, ss) =>
    let (s2, r) := if ompFormOk m then f s1 k ss else (s1, { status := 0x1A })
    s2.respond m op m.session (some (k, ss.ks)) r
/-- A request before login is served (R450). -/
def State.serveOpen (s : State) (m : Omp) (op : Nat) (f : State → State × Option (Nat × Reply)) : State :=
  if !s.ompOpen m then { s with answer := {} }
  else
    let s1 := s.ompArrive m
    if !s.nodeOk m then s1
    else
      let (s2, r) := if ompFormOk m then f s1 else (s1, some (m.session, { status := 0x1A }))
      match r with
      | some (session, r) => s2.respond m op session none r
      | none => s2

/-- Send one notification of a session (R449, R458). -/
def State.sendNotice (s : State) (k : Nat) (n : Notice) : State :=
  let x := s.session k
  let body := noticeBytes { n with lost := n.lost || x.noticeLost }
  let h := ompHeader 8 2 255 x.number x.noticeSeq body.length 0 s.tick
  let msg := h ++ body ++ ompTag x.ks h body
  let t := s.transmit x.transport msg
  if !t.2 then s
  else
    let s1 := t.1.modSession k fun y => { y with notices := y.notices.drop 1, noticeLost := false, noticeSeq := (y.noticeSeq + 1) % 4294967296 }
    { s1 with host := { s1.host with notices := s1.host.notices ++ [(k, msg)] } }
/-- The notifications that wait are sent (R458; log entry 126). -/
def State.sendNotices (s : State) : State :=
  let s0 := { s with host := { s.host with notices := [] } }
  overL (s.sessions.filter fun (e : Nat × Session) => e.2.open_ && e.2.notices != []) (fun s (e : Nat × Session) =>
    overL e.2.notices (fun s n => s.sendNotice e.1 n) s) s0

end Sys2Proof.Machine
end

