-- ==== Sys2Proof/Machine/Logins.lean ====
section
/-!
DEFINITION. Sessions: login, lockout, logout, claims, heartbeat, the gardener key (16, R451 to R453, R459).
-/
namespace Sys2Proof.Machine

/-- Source of logins (R452). -/
def State.loginSource (s : State) (k : Nat) : SourceSt := NTable.get {} s.sources k
/-- Change a source. -/
def State.modSource (s : State) (k : Nat) (f : SourceSt → SourceSt) : State :=
  { s with sources := NTable.mod {} s.sources k f }
/-- A failed login of a source: the fifth within 60 s locks it out (R452). -/
def State.loginFailed (s : State) (k : Nat) : State :=
  let span := 60 * s.tps
  let fails := ((s.loginSource k).fails.filter fun t => decide (s.tick < t + span)) ++ [s.tick]
  let s1 := s.bump Reg.loginFail
  if fails.length ≥ 5 then
    (s1.modSource k fun x => { x with fails := [], lockedUntil := some (s.tick + span) }).bump Reg.lockoutCount
  else s1.modSource k fun x => { x with fails := fails }
/-- Is a source locked out. -/
def State.lockedOut (s : State) (k : Nat) : Bool :=
  match (s.loginSource k).lockedUntil with | some t => decide (s.tick < t) | none => false
/-- The gardener role's key; as shipped all zeros (R451). -/
def State.gardenerKey (s : State) : List Byte :=
  if s.blob Reg.gardenerKey = [] then List.replicate 32 0 else s.blob Reg.gardenerKey
/-- May a gardener-role login begin while the key is all zeros: on the mailbox, or, where the option block clears PCIE_EN, on
T1S0 within 600 s of the end of bring-up (R451). -/
def State.firstLogin (s : State) (transport : Nat) : Bool :=
  if bit (leAt s.rst.opt 15 1 : Int) 0 then transport == 3
  else transport == 0 && decide (s.tick < s.rst.upAt + 600 * s.tps)
/-- The key of a role and plot; none where no login of it can succeed (R214, R451). -/
def State.roleKey (s : State) (role plot : Nat) : Option (List Byte) :=
  let x := s.plot plot
  match role with
  | 0 => some s.gardenerKey
  | 1 => if x.ownerKey = [] then none else some x.ownerKey
  | _ => if zeros x.observerKey then none else some x.observerKey
/-- A slot for a new session. -/
def State.freeSlot (s : State) : Option Nat :=
  (List.range 64).find? fun n => let x := s.session n; !x.open_ && !x.half
/-- The number of a new session: the one drawn, or the lowest that is free where that is 0 or in use. -/
def State.newNumber (s : State) (n : Nat) : Nat :=
  if n ≠ 0 ∧ (s.slotOf n).isNone then n
  else (((List.range 66).map (· + 1)).find? fun k => (s.slotOf k).isNone).getD 1
/-- LOGIN, first exchange: with the number and the challenge that the engine draws (R451). -/
def execLogin (m : Omp) (number : Fin 4294967296) (challenge : List Byte) (s : State) : Out :=
  .next (s.serveOpen m 1 fun s =>
    let b := m.body
    let role := leAt b 0 1
    let plot := leAt b 1 1
    let bad := b.length != 20 || decide (role > 2) || leAt b 2 2 != 0 || (if role = 0 then plot != 255 else decide (plot > 15))
    if m.session ≠ 0 then (s.ompDrop, none)
    else if s.lockedOut (sourceKey m) then (s.bump Reg.loginFail, some (0, { status := 0x19 }))
    else if bad then (s, some (0, { status := 0x1A }))
    else if role = 0 ∧ zeros s.gardenerKey ∧ !s.firstLogin m.transport then
      (s.loginFailed (sourceKey m), some (0, { status := 0x19 }))
    else match s.freeSlot with
      | none => (s, some (0, { status := 0x16 }))
      | some k =>
        let no := s.newNumber number
        let ch := (challenge ++ List.replicate 16 0).take 16
        let x : Session := { half := true, number := no, role := role, plot := plot, transport := m.transport, source := m.source
                             challenge := ch, nonce := slice b 4 16, lastTick := s.tick }
        (s.modSession k fun _ => x, some (no, { body := ch })))
/-- LOGIN, second exchange: the proof (R451). -/
def execLoginProof (m : Omp) (s : State) : Out :=
  .next (s.serveOpen m 1 fun s =>
    let fail (s : State) : State × Option (Nat × Reply) := (s.loginFailed (sourceKey m), some (m.session, { status := 0x19 }))
    if s.lockedOut (sourceKey m) then (s.bump Reg.loginFail, some (m.session, { status := 0x19 }))
    else match s.slotOf m.session with
      | none => fail s
      | some k =>
        let x := s.session k
        if !x.half || x.transport != m.transport.val || x.source != m.source then (s.ompDrop, none)
        else
          let gone := s.modSession k fun _ => {}
          let id := leBytes 4 x.number
          match s.roleKey x.role x.plot with
          | none => fail gone
          | some key =>
            if m.body ≠ hmac key (ascii "BXL" ++ x.challenge ++ x.nonce ++ id ++ leBytes 1 x.role ++ leBytes 1 x.plot) then fail gone
            else
              let y : Session := { x with
                open_ := true, half := false, lastTick := s.tick, restricted := x.role == 0 && zeros key
                ks := hmac key (ascii "BXS" ++ x.challenge ++ x.nonce) }
              (s.modSession k fun _ => y, some (x.number, { body := hmac key (ascii "BXE" ++ x.nonce ++ x.challenge ++ id) })))
/-- LOGIN_LAPSE: a first exchange without its second for 5 s (R451). -/
def execLoginLapse (n : Fin 64) (s : State) : Out :=
  let x := s.session n
  if x.half ∧ x.lastTick + 5 * s.tps ≤ s.tick then .next (s.modSession n fun _ => {}) else .next s
/-- LOGOUT is served (R452). -/
def State.logout (s : State) (m : Omp) (k : Nat) (_ : Session) : State × Reply :=
  if m.body ≠ [] then (s, { status := 0x1A }) else (s.closeSession k, {})
/-- SESSION_TIMEOUT: no correctly tagged request for that time (R452). -/
def execSessionTimeout (n : Fin 64) (s : State) : Out :=
  let x := s.session n
  if x.open_ ∧ x.lastTick + s.nat Reg.sessionTimeout * s.tps ≤ s.tick then .next (s.closeSession n) else .next s
/-- LOCKOUT_END (R452). -/
def execLockoutEnd (transport : Fin 4) (source : Nat) (s : State) : Out :=
  let k := transport.val + 4 * source
  match (s.loginSource k).lockedUntil with
  | some t => if t ≤ s.tick then .next (s.modSource k fun x => { x with lockedUntil := none }) else .next s
  | none => .next s
/-- Reply to HEARTBEAT: the time counter and the tick (R459). -/
def State.heartbeatReply (s : State) (m : Omp) : Reply :=
  if m.body ≠ [] then { status := 0x1A } else { body := timeBytes s.timeNs ++ leBytes 8 s.tick }
/-- Does another session of the same role and plot hold the claim (R453). -/
def State.claimedBy (s : State) (k : Nat) (ss : Session) : Bool :=
  s.sessions.any fun (e : Nat × Session) => e.1 != k && e.2.open_ && e.2.claim && e.2.role == ss.role && e.2.plot == ss.plot
/-- A claim is taken or given back (R453). -/
def State.claim (s : State) (m : Omp) (take : Bool) (k : Nat) (ss : Session) : State × Reply :=
  if m.body ≠ [if take then 1 else 0, 0, 0, 0, 0, 0, 0, 0] then (s, { status := 0x1A })
  else if ss.role = 2 then (s, { status := 0x11 })
  else if take && s.claimedBy k ss then (s, { status := 0x17 })
  else (s.modSession k fun x => { x with claim := take }, {})
/-- GARDENER_KEY: by a session of the gardener role, or by the role itself (R451). -/
def execGardenerKey (n : Option (Fin 64)) (key : List Byte) (s : State) : Out :=
  let may := match s.who (n.map (·.val)) with | some (role, _) => role == 0 | none => n.isNone
  .next (if !may then s.reply 0x11 else s.writeGardenerKey (n.map (·.val)) key)

end Sys2Proof.Machine
end

