-- ==== Sys2Proof/Machine/MemErrors.lean ====
section
/-!
DEFINITION. Uncorrectable words of the memories behind the trellis (15, R436).
-/
namespace Sys2Proof.Machine

/-- A mix-table error of a bus: its block is zero, and the next ramps up (R436). -/
def State.busError (s : State) (b : Nat) : State :=
  let k := s.bus b
  match k.rec_ with
  | none => s
  | some r =>
    if s.ranTo < r.stop then s.setBus b { k with error := true }
    else (s.setSource (sigOf 4 b) (silence (NTable.get [] s.src (sigOf 4 b)))).setBus b { k with rampUp := true }
/-- Frame memory loses the frame that a port would send next: it is dropped and counted in DROP_QFULL (R436 item 6). -/
def State.loseFrame (s : State) (n : Nat) : State :=
  match (s.port n).queue with
  | [] => s.bump (Reg.dropQfull n)
  | f :: _ => ((s.bump (Reg.dropQfull n)).legDrop f).modPort n fun x => { x with queue := x.queue.drop 1 }
/-- A word of a receive ring is lost: its two samples read zero and conceal their blocks (R436 item 3; 12, R356, R357). The place of a
sample in the ring is not stated: a free value (log entry 218). -/
def State.ringError (s : State) (addr : Nat) : State :=
  overL s.rxLive (fun s t =>
    let ring := s.rxRing t
    let a := addr / 8 * 8 - bedBase
    if s.reg (Reg.rxDomain t) ≠ 0 ∨ addr < bedBase ∨ !meets ring.1 ring.2 a 8 then s
    else
      let c := s.nat (Reg.rxChannels t)
      let n := 6 * max 1 (s.rxMult t)
      let first := s.tick - s.nat (Reg.rxLinkOffset t)
      overL [(a - ring.1) / 4, (a - ring.1) / 4 + 1] (fun s w =>
        let k := Config.ringPlace c n w % (16 * n * max 1 c)
        let slot := k / (n * max 1 c)
        let j := first + (slot + 16 - first % 16) % 16
        s.modRx t fun x => { x with samples := NTable.put none x.samples (sampleKey (j * n + k % n) (k / n % max 1 c)) none }) s) s
/-- MEM_UECC: an uncorrectable word is rewritten and handled by where it lies; `win` is the reading window, `bus` the
mix bus, `port` the NET port of a dropped frame (R436). -/
def execMemUecc (sel : Fin 6) (addr : Fin 1099511627776) (win : Option (Fin 16 × Fin 256)) (bus : Option (Fin 2048))
    (port : Option (Fin 24)) (s : State) : Out :=
  let s1 := ((s.bump (Reg.memUecc sel)).setReg (Reg.memLastUecc sel) addr.val).logEvent 0x0502 2 16
    (sel.val * 256 + addr.val / 4294967296) addr
  let s2 := if sel.val = 0 ∨ sel.val ≥ 4 then s1.store (addr.val / 8 * 8) (List.replicate 8 0) else s1
  let s3 := match win with
    | some (p, n) => match (s2.last p).bind fun l => l.windows.find? fun w => decide (w.win = n.val) with
      | some w => (s2.windowFail p w).evidence p
      | none => s2
    | none => s2
  let s4 := if sel.val = 1 then (match bus with
      | some b => (s3.busError b).evidence ((s3.holder 11 noUnit b).getD 16)
      | none => s3) else s3
  let s5 := if sel.val = 2 then (match port with
      | some n => s4.loseFrame n
      | none => s4) else s4
  let s6 := if sel.val = 0 then s5.ringError addr else s5
  .next (if sel.val = 3 then s6.evidence 16 else s6)

end Sys2Proof.Machine
end

