-- ==== Sys2Proof/Machine/Access.lean ====
section
/-!
DEFINITION. Reads, writes, block transfers and the BAR0 window (16, R450, R454 to R457, R463, R464; 17, R479).
-/
namespace Sys2Proof.Machine

/-- Bytes padded to a multiple of 8. -/
def padItem (b : List Byte) : List Byte := b ++ List.replicate ((8 - b.length % 8) % 8) 0

/-! Reads. -/

/-- The code of an object that a session cannot reach: it is the same whether the object exists or not (R450). -/
def State.unknownCode (s : State) (ss : Session) (idx : Nat) : Nat := if s.foreignTo ss idx then 0x11 else 0x10
/-- One object is read: its status and its value; FIFOs give up what is read (10, R308, R313). -/
def State.readItem (s : State) (ss : Session) (idx sub : Nat) : State × Nat × List Byte :=
  match objAt idx sub with
  | none => (s, s.unknownCode ss idx, [])
  | some o =>
    if !s.mayTouch ss o idx sub false then (s, 0x11, [])
    else if idx = 0x2240 ∧ sub = 1 then (let t := went s (execTsFifoRead s); (t, 0, t.answer.bytes))
    else if idx = 0x2260 ∧ sub = 12 then
      (let t := went s (execTevCapRead (Fin.ofNat 24 (ss.chosen 0x2260 1)) s); (t, 0, t.answer.bytes))
    else (s, 0, s.view ss o idx sub)
/-- Items of a READ request. -/
def readItems (b : List Byte) : Option (List (Nat × Nat)) :=
  if b = [] ∨ b.length % 4 ≠ 0 ∨ b.length > 256 then none
  else if (records 4 b).all fun x => leAt x 3 1 == 0 then some ((records 4 b).map fun x => (leAt x 0 2, leAt x 2 1))
  else none
/-- One item of a READ response: a value that the body has no room for answers TYPE (log entry 128). -/
def State.readStep (max_ : Nat) (a : State × Session × Reply) (e : Nat × Nat) : State × Session × Reply :=
  let (s, ss, r) := a
  let (t, code, v) := s.readItem ss e.1 e.2
  let full := decide (r.body.length + 8 + (padItem v).length > max_)
  let code := if full then 0x12 else code
  let v := if full then [] else v
  (if full then s else t, ss, { r with
    items := r.items ++ [(code, v)]
    body := r.body ++ leBytes 2 e.1 ++ leBytes 1 e.2 ++ leBytes 1 code ++ leBytes 2 v.length ++ [0, 0] ++ padItem v })
/-- READ of the items of a body (R450, R454). -/
def State.readAll (s : State) (ss : Session) (max_ : Nat) (items : List (Nat × Nat)) : State × Reply :=
  let a := items.foldl (State.readStep max_) (s, ss, {})
  (a.1, a.2.2)
/-- READ of a session is served. -/
def State.serveRead (s : State) (m : Omp) (_ : Nat) (ss : Session) : State × Reply :=
  match readItems m.body with
  | none => (s, { status := 0x1A })
  | some l => s.readAll ss (bodyMax m.transport) l
/-- READ before login: identity alone (R450). -/
def State.readIdentity (s : State) (m : Omp) : State × Option (Nat × Reply) :=
  match readItems m.body with
  | none => (s, none)
  | some l =>
    if l.all fun e => e.1 == 0x1000 && decide (1 ≤ e.2) && decide (e.2 ≤ 8) then
      (let a := s.readAll {} (bodyMax m.transport) l; (a.1, some (0, a.2)))
    else (s, none)

/-! Writes. -/

/-- Items of a WRITE request: index, sub-index, value. -/
def writeItems : Nat → List Byte → Option (List (Nat × Nat × List Byte))
  | _, [] => some []
  | 0, _ => none
  | k + 1, b =>
    let n := leAt b 4 2
    let whole := 8 + (n + 7) / 8 * 8
    if b.length < whole ∨ leAt b 3 1 ≠ 0 ∨ leAt b 6 2 ≠ 0 then none
    else (writeItems k (b.drop whole)).map fun t => (leAt b 0 2, leAt b 2 1, slice b 8 n) :: t
/-- What a session's write is checked for before its value (R450, R453, R455, R461; 08, R250): the object, or the code. -/
def State.mayWrite (s : State) (k : Nat) (ss : Session) (idx sub : Nat) (timed : Bool) : Except Nat ObjInfo :=
  match objAt idx sub with
  | none => .error (s.unknownCode ss idx)
  | some o =>
    let sel := isSelector idx sub
    if !s.mayTouch ss o idx sub true then .error 0x11
    else if ss.restricted && !(idx == 0x1200 && sub == 8) then .error 0x11
    else if sel then (if timed then .error 0x11 else .ok o)
    else if (if timed then o.acc != 4 && !o.timed else o.acc == 4) then .error 0x11
    else if s.paired && s.reg Reg.pairRole != 0 && !localObj idx sub then .error 0x18
    else if s.claimedBy k ss then .error 0x17
    else .ok o
/-- The writer that a session is. -/
def Session.writer (ss : Session) (k : Nat) : Writer := { role := ss.role, plot := ss.plot, slot := some (Fin.ofNat 64 k) }
/-- One object is written, at a tick where one is named: state, status, applied tick (R454, R455). -/
def State.writeItem (s : State) (k : Nat) (ss : Session) (idx sub : Nat) (b : List Byte) (at_ : Option (Nat × Bool)) :
    State × Nat × Nat :=
  let w := ss.writer k
  let r := ss.actReg idx sub
  match s.mayWrite k ss idx sub at_.isSome with
  | .error c => (s, c, 0)
  | .ok o =>
    if isSelector idx sub then
      (let c := s.valueCode o r b
       if c ≠ 0 then (s, c, 0)
       else (s.modSession k fun x => { x with sel := Table.put Reg.ord regDefault x.sel r (scalarValue o.ty b) }, 0, 0))
    else match at_ with
      | none => let t := s.acceptWrite w o r b none; (t, t.code, 0)
      | some (t, late) =>
        match s.atTick w.owner t late with
        | .error c => (s, c, 0)
        | .ok (t, st) =>
          let u := s.acceptWrite w o r b (some t)
          if u.code = 0 then (u, st, t) else (u, u.code, 0)
/-- What names the chip in role A: its UID, and no address that this chip knows (R461; log entry 127). -/
def State.whoIsA (s : State) : List Byte := leBytes 8 (s.nat Reg.pairPartnerUid) ++ leBytes 8 0
/-- The items of a request are written in order (R454). -/
def State.writeAll (s : State) (k : Nat) (at_ : Option (Nat × Bool)) (items : List (Nat × Nat × List Byte)) : State × Reply :=
  let a := items.foldl (fun (a : State × Reply) e =>
    let (s, r) := a
    let (t, code, done) := s.writeItem k (s.session k) e.1 e.2.1 e.2.2 at_
    (t, { r with
      status := if code = 0x18 then 0x18 else r.status
      items := r.items ++ [(code, [])], applied := r.applied ++ [done]
      body := r.body ++ leBytes 2 e.1 ++ leBytes 1 e.2.1 ++ leBytes 1 code ++ leBytes 4 0 ++
        (if at_.isSome then leBytes 8 done else []) })) (s, ({} : Reply))
  if a.2.status = 0x18 then (a.1, { a.2 with body := a.2.body ++ s.whoIsA }) else a
/-- A WRITE, or a WRITE_AT with its tick, is served (R454, R455). -/
def State.serveWrite (at_ : Option (Nat × Bool)) (s : State) (m : Omp) (k : Nat) (_ : Session) : State × Reply :=
  match writeItems 64 m.body with
  | none => (s, { status := 0x1A })
  | some [] => (s, { status := 0x1A })
  | some l => s.writeAll k at_ l

/-! Block transfers (R457). -/

/-- BLOCK_READ is served: at OFFSET 0 a snapshot is taken, which later reads serve; an export of the log may find a half bad
(19, R509). -/
def State.serveBlockRead (bad : Option (Fin 2 × Nat)) (s : State) (m : Omp) (k : Nat) (ss : Session) : State × Reply :=
    let b := m.body
    let idx := leAt b 0 2
    let sub := leAt b 2 1
    let off := leAt b 4 4
    let want := min (leAt b 8 4) (bodyMax m.transport - 8)
    let r := ss.regOf idx sub
    if b.length ≠ 12 ∨ leAt b 3 1 ≠ 0 then (s, { status := 0x1A })
    else
      let s0 := match bad with | some (h, slot) => s.when (idx == 0x2500 && sub == 6) fun s => s.retireHalf h slot | none => s
      let got : State × Nat × List Byte :=
        if off = 0 then
          (match objAt idx sub with
           | some o => if o.ty = 15 then s0.readItem ss idx sub
             else if s0.mayTouch ss o idx sub false then (s0, 0x12, []) else (s0, 0x11, [])
           | none => (s0, s0.unknownCode ss idx, []))
        else match ss.snapshot with
          | some (r', v, _) => if r' = r then (s0, 0, v) else (s0, 0x1C, [])
          | none => (s0, 0x1C, [])
      let (s1, code, v) := got
      if code ≠ 0 then (s1, { status := code })
      else if off > v.length then (s1, { status := 0x13 })
      else
        let data := slice v off want
        let rest : Option (Reg × List Byte × Nat) := if off + data.length ≥ v.length then none else some (r, v, s.tick)
        (s1.modSession k fun x => { x with snapshot := rest },
          { body := leBytes 4 v.length ++ leBytes 4 off ++ data, items := [(0, data)] })
/-- A segment joins a transfer; one that is there already is ignored. -/
def Transfer.take (t : Transfer) (off : Nat) (data : List Byte) (tick : Nat) : Transfer :=
  { t with lastTick := tick, segs := if t.segs.any fun e => e.1 == off then t.segs else t.segs ++ [(off, data)] }
/-- The bytes received in order; none while one is missing. -/
def Transfer.whole (t : Transfer) : Option (List Byte) :=
  let l := (sortBy (fun (a b : Nat × List Byte) => decide (a.1 ≤ b.1)) t.segs).foldl (fun (a : Option (List Byte)) e =>
    match a with
    | some v => if e.1 ≤ v.length then some (v ++ e.2.drop (v.length - e.1)) else none
    | none => none) (some [])
  match l with | some v => if v.length = t.total then some v else none | none => none
/-- A segment of an object that the session may write (R457). -/
def State.blockSegment (s : State) (m : Omp) (k : Nat) (ss : Session) (idx sub : Nat) : State × Reply :=
  let b := m.body
  let total := leAt b 4 4
  let off := leAt b 8 4
  let data := b.drop 16
  let r := ss.actReg idx sub
  let ack : Reply := { body := leBytes 4 off ++ leBytes 4 0 }
  let at_ : Option (Nat × Bool) := if bit (m.flags.val : Int) 4 then some (m.tick, bit (m.flags.val : Int) 3) else none
  let others := ss.transfers.filter fun t => t.reg != r
  let mine := ss.transfers.find? fun t => t.reg == r && t.total == total
  if total = 0 ∨ off + data.length > total ∨ data = [] ∨ (off + data.length < total ∧ data.length % 8 ≠ 0) then (s, { status := 0x1A })
  else if blobMax idx sub ≠ 0 ∧ total > blobMax idx sub then (s, { status := 0x12 })
  else if s.sessions.any fun (e : Nat × Session) => e.1 != k && e.2.open_ && e.2.transfers.any fun t => t.reg == r then (s, { status := 0x14 })
  else if mine.isNone ∧ others.length ≥ 4 then (s, { status := 0x16 })
  else
    let t0 : Transfer := mine.getD { reg := r, total := total, segs := [], lastTick := s.tick, at_ := at_ }
    let t1 := t0.take off data s.tick
    match t1.whole with
    | none => (s.modSession k fun x => { x with transfers := others ++ [t1] }, ack)
    | some v =>
      let s1 := s.modSession k fun x => { x with transfers := others }
      if crc32 v ≠ leAt b 12 4 then (s1, { status := 0x1B })
      else
        let (s2, code, done) := s1.writeItem k ss idx sub v at_
        let r : Reply := { status := code, items := [(code, [])], applied := [done]
                           body := if code = 0x18 then ack.body ++ s.whoIsA else ack.body }
        ({ s2 with gard := { s2.gard with busy := s2.tick + Config.serviceTicks v.length } }, r)
/-- BLOCK_WRITE is served: a segment; the last that is missing completes the write (R457). -/
def State.serveBlockWrite (s : State) (m : Omp) (k : Nat) (ss : Session) : State × Reply :=
  let idx := leAt m.body 0 2
  let sub := leAt m.body 2 1
  if m.body.length < 16 ∨ leAt m.body 3 1 ≠ 0 then (s, { status := 0x1A })
  else match s.mayWrite k ss idx sub (bit (m.flags.val : Int) 4) with
    | .error c => (s, { status := c, body := if c = 0x18 then s.whoIsA else [] })
    | .ok o => if o.ty ≠ 15 then (s, { status := 0x12 }) else s.blockSegment m k ss idx sub
/-- BLOCK_TRANSFER_ABORT: transfer k of a session has had no segment for 2 s (R457). -/
def execBlockTransferAbort (n : Fin 64) (k : Fin 4) (s : State) : Out :=
  let x := s.session n
  match x.transfers[k.val]? with
  | some t =>
    if t.lastTick + 2 * s.tps ≤ s.tick then
      .next ((s.modSession n fun x => { x with transfers := x.transfers.eraseIdx k }).reply 0x1C)
    else .next s
  | none => .next s
/-- BLOCK_SNAPSHOT_EXPIRE: 2 s have passed without a read (R457). -/
def execBlockSnapshotExpire (n : Fin 64) (s : State) : Out :=
  match (s.session n).snapshot with
  | some (_, _, t) => if t + 2 * s.tps ≤ s.tick then .next (s.modSession n fun x => { x with snapshot := none }) else .next s
  | none => .next s

/-! BAR0 (R463, R464, R479). -/

/-- First indices of the blocks of 64 rows (17, Table 17.6). -/
def bar0Blocks : List Nat :=
  [0x1000, 0x1100, 0x1200, 0x1300, 0x1400, 0x2000, 0x2040, 0x2100, 0x2140, 0x2200, 0x2240, 0x2300, 0x2340, 0x2400, 0x2500,
    0x3000, 0x3040, 0x3100, 0x3200, 0x3300, 0x3400] ++ (List.range 16).map (fun k => 0x3800 + 64 * k) ++
    (List.range 16).map (fun k => 0x3C00 + 64 * k) ++
    [0x4000, 0x4400, 0x4800, 0x4C00, 0x4E00, 0x4E40, 0x5000, 0x5100, 0x5200, 0x5300, 0x5400, 0x5500, 0x6000]
/-- Index and sub-index of a slot; none in the rows that are reserved. -/
def bar0Slot (off : Nat) : Option (Nat × Nat) :=
  let row := off / 512
  (bar0Blocks[row / 64]?).map fun b => (b + row % 64, off / 8 % 64)
/-- An access that reads 0 or changes nothing, and is counted. -/
def State.barError (s : State) : State := { s with host := { s.host with barErr := (s.host.barErr + 1) % 4294967296 } }
/-- A slot of 8 bytes: zero-extended, or sign-extended for the signed types (R463). -/
def slotBytes (ty : Nat) (b : List Byte) : List Byte :=
  if tySigned ty then leBytesI 8 (leAtS b 0 b.length) else leBytes 8 (leAt b 0 b.length)
/-- Answer of a BAR0 access. -/
def State.barAnswer (s : State) (code : Nat) (b : List Byte) : State := { s with answer := { status := code, bytes := b } }
/-- BAR0_ACCESS: a read, or a write of 8 bytes, with the rights of the bound session (R463, R464). -/
def execBar0Access (off : Fin 4194304) (w : Option (List Byte)) (s : State) : Out :=
  let zero := List.replicate 8 (0 : Byte)
  let wide : Bool := match w with | some b => b.length == 8 | none => true
  let refuse (code : Nat) : State :=
    let t := s.barError.barAnswer code zero
    if code = 0x11 then { t with host := { t.host with barAddr := off } } else t
  if off.val % 8 ≠ 0 ∨ !wide then .next (refuse 0x12)
  else match bar0Slot off with
    | none => .next (s.barAnswer 0 zero)
    | some (idx, sub) =>
      match s.host.bound with
      | none => .next (refuse 0)
      | some k =>
        let ss := s.session k
        match objAt idx sub with
        | none => .next (refuse 0x10)
        | some o =>
          if !hasSlot o sub then .next (refuse 0x10)
          else match w with
            | none =>
              let (t, code, v) := s.readItem ss idx sub
              if code ≠ 0 then .next (refuse code) else .next (t.barAnswer 0 (slotBytes o.ty v))
            | some b =>
              let (t, code, _) := s.writeItem k ss idx sub (b.take (tyLen o.ty)) none
              if code = 0x11 then .next (refuse code) else .next (t.barAnswer code zero)
/-- BAR0_BIND: the session whose key gives the tag (R464). -/
def execBar0Bind (session : Nat) (tag : List Byte) (s : State) : Out :=
  match s.slotOf session with
  | none => .next s
  | some k =>
    let x := s.session k
    if x.open_ && tag == (hmac x.ks (ascii "BXB" ++ leBytes 4 session)).take 16 then
      .next { s with host := { s.host with bound := some k } }
    else .next s

end Sys2Proof.Machine
end

