-- ==== Sys2Proof/Machine/Service.lean ====
section
/-!
DEFINITION. The gardener's service of requests: 17 queues, one request of each in turn (16, R460).
-/
namespace Sys2Proof.Machine

/-- OP of a request (Table 16.3). -/
def ReqKind.op : ReqKind → Nat
  | .logout => 2 | .read => 3 | .write => 4 | .writeAt => 5 | .blockRead _ => 6 | .blockWrite => 7 | .heartbeat => 9 | .claim _ => 10
/-- What a request does once the gardener serves it. -/
def State.doRequest (s : State) (q : Request) (k : Nat) (ss : Session) : State × Reply :=
  let m := q.msg
  match q.kind with
  | .logout => s.logout m k ss
  | .read => s.serveRead m k ss
  | .write => State.serveWrite none s m k ss
  | .writeAt => State.serveWrite (some (m.tick, bit (m.flags.val : Int) 3)) s m k ss
  | .blockRead bad => State.serveBlockRead bad s m k ss
  | .blockWrite => s.serveBlockWrite m k ss
  | .heartbeat => (s, s.heartbeatReply m)
  | .claim take => s.claim m take k ss
/-- The gardener serves a request. -/
def State.serveRequest (s : State) (q : Request) : State :=
  s.serve q.msg q.kind.op fun s k ss => s.doRequest q k ss
/-- Queue of a request: its session's plot, or 16. -/
def State.queueOf (s : State) (m : Omp) : Nat :=
  match s.slotOf m.session with | some k => min 16 (s.session k).plot | none => 16
/-- Requests that wait in a queue. -/
def State.waiting (s : State) (n : Nat) : List Request := NTable.get [] s.gard.queues n
/-- Replace them. -/
def State.setWaiting (s : State) (n : Nat) (l : List Request) : State :=
  { s with gard := { s.gard with queues := NTable.put [] s.gard.queues n l } }
/-- Does a request that arrives have to wait: a long request occupies the gardener, or others wait (log entry 221). -/
def State.gardBusy (s : State) : Bool :=
  decide (s.tick < s.gard.busy) || s.gard.queues.any fun (e : Nat × List Request) => e.2 != []
/-- A request of a session has arrived: a gardener that is idle serves it in its tick; else it takes its place in its queue of
16, beyond which it is dropped and counted (R460). -/
def State.request (s : State) (q : Request) : State :=
  if !s.ompOpen q.msg then { s with answer := {} }
  else
    let s1 := s.ompArrive q.msg
    if !s.nodeOk q.msg then s1
    else if !s.gardBusy then s1.serveRequest q
    else match s1.passRequest q.msg q.kind.op with
      | .error t => t
      | .ok _ =>
        let n := s1.queueOf q.msg
        if (s1.waiting n).length ≥ 16 then s1.ompDrop else s1.setWaiting n (s1.waiting n ++ [q])
/-- The queue whose turn is next: the first after the one served last that holds a request. -/
def State.nextQueue (s : State) : Option Nat :=
  ((List.range 17).map fun i => (s.gard.turn + 1 + i) % 17).find? fun n => s.waiting n != []
/-- The gardener serves one request from each queue that is not empty, in turn, until none waits or a long one occupies it. -/
def gardTurns : Nat → State → State
  | 0, s => s
  | k + 1, s =>
    if s.tick < s.gard.busy then s
    else match s.nextQueue with
      | none => s
      | some n => match s.waiting n with
        | [] => s
        | q :: t => gardTurns k ({ s with gard := { s.gard with turn := n } }.setWaiting n t |>.serveRequest q)
/-- The service of the tick that opens: at most 17 queues of 16 requests wait. -/
def State.gardService (s : State) : State := gardTurns 272 s

/-- LOGOUT (R452). -/
def execLogout (m : Omp) (s : State) : Out := .next (s.request ⟨.logout, m⟩)
/-- HEARTBEAT (R459); before login it keeps nothing alive. -/
def execHeartbeat (m : Omp) (s : State) : Out :=
  .next (if m.session = 0 then s.serveOpen m 9 fun s => (s, some (0, s.heartbeatReply m)) else s.request ⟨.heartbeat, m⟩)
/-- CLAIM with 1 (R453). -/
def execClaimTake (m : Omp) (s : State) : Out := .next (s.request ⟨.claim true, m⟩)
/-- CLAIM with 0 (R453). -/
def execClaimRelease (m : Omp) (s : State) : Out := .next (s.request ⟨.claim false, m⟩)
/-- READ; before login identity alone is served (R450). -/
def execRead (m : Omp) (s : State) : Out :=
  .next (if m.session = 0 then s.serveOpen m 3 fun s => s.readIdentity m else s.request ⟨.read, m⟩)
/-- WRITE (R454). -/
def execWrite (m : Omp) (s : State) : Out := .next (s.request ⟨.write, m⟩)
/-- WRITE_AT, with LATE_OK in bit 3 of FLAGS (R455). -/
def execWriteAt (m : Omp) (s : State) : Out := .next (s.request ⟨.writeAt, m⟩)
/-- BLOCK_READ (R457). -/
def execBlockRead (m : Omp) (bad : Option (Fin 2 × Nat)) (s : State) : Out := .next (s.request ⟨.blockRead bad, m⟩)
/-- BLOCK_WRITE (R457). -/
def execBlockWrite (m : Omp) (s : State) : Out := .next (s.request ⟨.blockWrite, m⟩)

end Sys2Proof.Machine
end

