-- ==== Sys2Proof/Machine/Tick.lean ====
section
/-!
DEFINITION. The tick: its boundary, INGEST_READY, the staging deadlines, the openings of egress (01_tick_and_last, R21
to R30).
-/
namespace Sys2Proof.Machine

/-- Is the data plane down: a power-on or cold reset before its bring-up (18, Table 18.3). -/
def State.planeDown (s : State) : Bool := (s.rst.kind == 1 || s.rst.kind == 2) && decide (s.rst.phase < 4)

/-! What the tick that closes leaves. -/

/-- Blocks that producers have written to their handoffs (R31). -/
def State.handoffBlocks (s : State) : List (SigId × List Sample) :=
  (List.range 16).flatMap fun p =>
    ((s.plot p).routes.filter fun r => sigClass r.sink == 15 && !r.none).map fun r => (r.sink, s.sinkBlock p r.sink)
/-- Source blocks as the next tick finds them: those of this tick, and handoffs as written. -/
def State.closedBlocks (s : State) : NTable (List Sample) :=
  s.handoffBlocks.foldl (fun t e => NTable.put [] t e.1 e.2) (s.src.filter fun (e : Nat × List Sample) => sigClass e.1 != 15)
/-- Every input of the array renderer has written its block into the history (06, R180). -/
def State.writeHistories (s : State) : State :=
  overN 16 (fun s p => match s.last p with | some l => overL l.areIns (fun s i => s.writeHistory p i) s | none => s) s
/-- A task at the end of a tick: a complete run ends its ramp (R53). -/
def TaskSt.close (t : TaskSt) : TaskSt :=
  { t with done := false, started := false, failStart := false, overran := false, rampUp := t.rampUp && !t.done }
/-- An FCU group at the end of a tick: an error that scrub found acts in the next (05, R167). -/
def GrpSt.close (g : GrpSt) : GrpSt := { g with ran := false, error := g.errorNext, errorNext := false }
/-- A crosspoint of the array renderer at the end of a tick: a fade moves on by a block, an error block is followed by a
ramp up (06, R189, R193). -/
def AreXpSt.close (x : AreXpSt) : AreXpSt :=
  { x with fadePos := x.fadePos.map (· + 1), rampUp := x.error, error := x.errorNext, errorNext := false }
/-- A plot at the end of a tick. -/
def PlotSt.close (x : PlotSt) : PlotSt := { x with areWrote := false, histDone := [], outgoing := none, ovrTick := false }
/-- Units at the end of a tick. -/
def State.closeUnits (s : State) : State :=
  let s1 := overN 16 (fun s p => s.setReg (Reg.ovrActive p) (if (s.plot p).ovrTick then 1 else 0)) s
  let logs := { s1.log with rates := s1.log.rates.map fun (e : Nat × LogRate) => (e.1, { e.2 with thisTick := 0 }) }
  { s1 with
    tasks := s1.tasks.map fun (e : Nat × TaskSt) => (e.1, e.2.close)
    wins := s1.wins.map fun (e : Nat × WinSt) => (e.1, { e.2 with ran := false })
    groups := s1.groups.map fun (e : Nat × GrpSt) => (e.1, e.2.close)
    areXps := s1.areXps.map fun (e : Nat × AreXpSt) => (e.1, e.2.close)
    plots := s1.plots.map fun (e : Nat × PlotSt) => (e.1, e.2.close)
    log := logs }
/-- Rewrites of the reserved cycles (03, R99, R121). -/
def State.runRepairs (s : State) : State :=
  { overL s.repairs (fun s (e : Nat × List Byte) => s.store e.1 e.2) s with repairs := [] }
/-- The engine has taken the pages of the rings that the host fills with frames to send (16, R465; log entry 121). -/
def State.takeSends (s : State) : State :=
  { s with rings := s.rings.map fun (e : Nat × Ring) => if e.2.kind = 3 then (e.1, { e.2 with cons := e.2.prod }) else e }
/-- Rate bridges as a tick closes: channels take their input, streams in S or F their output (02, R84, R86; 12, R361). -/
def State.closeBridges (s : State) : State :=
  let s1 := s.feedInto.feedOut
  overL (s1.txLive.filter fun t => s1.reg (Reg.txDomain t) != 0) (fun s t => s.feedFree t) s1
/-- The tick closes: the rest of its work, what watches its blocks, its end in every unit. -/
def State.closeTick (s : State) : State :=
  let s1 := (s.trellisClose.advanceTo Config.cyclesPerTick).writeHistories.runDetectors
  let s2 := overN 16 State.meterTick s1
  { s2.closeBridges.closePsc.sapClose.runRepairs.closeUnits.endDma.takeSends with prev := s2.closedBlocks }

/-! What the tick that opens finds. -/

/-- Units that stop before their scrub: its time runs from their stop (07, Table 7.4). -/
def State.holdScrubs (s : State) : State :=
  { s with holdings := s.holdings.map fun h =>
      match h.scrub with
      | some (_, r) => if stopKind h.kind && !s.unitStopped h then { h with scrub := some (s.tick + scrubTicks h.range, r) } else h
      | none => h }
/-- Blocks of the compute tick that opens: ingest, converters, generators, crossfades, handoffs, direct routes. -/
def State.openBlocks (s : State) : State :=
  let free := s.freeIn.foldl (fun t (e : Nat × List (Nat × Int)) => NTable.put [] t e.1 (e.2.map (·.2))) s.ingest
  let s1 := { s with src := free, ingest := [], freeIn := [] }.openInto
  overN 16 State.stageDirect s1.runGens.advanceSinks.deliverAll.stepTrackers
/-- TICK_BOUNDARY: the tick closes and a new one opens (R14, R25). What has a command of its own at the boundary is left
to it (log entry 27). -/
def execTickBoundary (rep : TickReport) (s : State) : Out :=
  if s.planeDown then .next s
  else
    let edge := s.edgeDigest
    let proof := s.proofDigest
    let failed := s.pair.proofFailed
    let s1 := ((s.closeTick.bumpBy Reg.areCecc rep.areCecc).badCells rep.cells).counterTick
    let s2 := { s1 with tick := s1.tick + 1, cycle := 0, ranTo := 0
                        pair := { s1.pair with cells := [] } }
    let s3 := (s2.openBlocks).holdScrubs.rxBoundary
    let s4 := (s3.sapOpen.clockBoundary rep).tevBoundary
    let s5 := match rep.tj with | some t => s4.readTj t | none => s4
    .next ((((s5.pairBoundary edge proof failed).sendNotices).passLimits).gardService)

/-- INGEST_READY: at cycle 1,536 the ingest of the tick before stands in memory (R22); in a pair packets of streams in S
and F reach their trackers, and the input digests are made (08, R229, R232). -/
def execIngestReady (s : State) : Out :=
  if s.planeDown then .next s
  else
    let s0 := { s.trellisTo Config.ingestReady with cycle := max s.cycle Config.ingestReady }
    if !s.paired then .next s0
    else
      let upTo := (s.boundaryTime s.tick + 4294967295) / 4294967296 - 1001
      let s1 := overL (s0.rxLive.filter fun t => s0.reg (Reg.rxDomain t) != 0) (fun s t => s.feedTracker t upTo) s0
      let l := s1.inputDigests
      let s2 := (s1.modPair fun x => { x with idigs := l }).sendCell (.idig (s.tick - 1) l)
      .next { s2 with tevs := s2.tevs.map fun (e : Nat × TevSt) => (e.1, { e.2 with capsNow := [] }) }

/-! Staging and egress. -/

/-- Egress sinks of a plot that are staged, those of direct routes apart (R26, R27). -/
def State.stagedSinks (s : State) (p : Nat) : List SigId :=
  ((s.plot p).routes.filter fun r => isEgress r.sink && !r.direct).map (·.sink)
/-- Is a plot one that stages at the half-tick deadline, or at the full-tick deadline (R23). -/
def State.stagesAt (s : State) (half : Bool) (p : Nat) : Bool :=
  match s.last p with | some l => l.half == half | none => false
/-- The tasks that produce the block of a sink: those that write its source (R55; log entry 116). -/
def State.producers (s : State) (p : Nat) (x : SigId) : List Task :=
  match s.last p, s.routeOf p x with
  | some l, some r => if r.none then [] else l.tasks.filter fun t => (l.writesOf t.id).contains r.source
  | _, _ => []
/-- A task overran: its blocks are zero, the overrun is counted, its data is written again where it asks for that
(R52 to R55). -/
def State.overran (s : State) (p : Nat) (t : Task) : State :=
  ((s.countOverrun p t.core t.id).zeroTask p t.id).reinit p t
/-- Stage the egress blocks of a plot; a buffer that is not staged is zero, an overrun of the tasks that produce it
(R23, R55). -/
def State.stagePlot (s : State) (p : Nat) (unstaged : List SigId) : State :=
  let xs := s.stagedSinks p
  let late := xs.filter unstaged.contains
  let tasks := (late.flatMap fun x => s.producers p x).eraseDups
  let s1 := overL tasks (fun s t => s.overran p t) s
  overL xs (fun s x =>
    let b := s.sinkBlock p x
    { s with staged := NTable.put [] s.staged x (if late.contains x then silence b else b) }) s1
/-- STAGING_DEADLINE of the half or the full tick: egress-feeding work is complete and its blocks are staged (R23); in a
pair the phase's digests are made (08, R234, R235), and at the full tick's deadline role A forwards the frame-start stamps of its
trackers and the source of a graft captures hot pages (R231, R256). -/
def execStagingDeadline (half : Bool) (unstaged : List SigId) (s : State) : Out :=
  if s.planeDown then .next s
  else
    let at_ := if half then Config.halfDeadline else Config.fullDeadline
    let s1 := (s.trellisTo at_).advanceTo at_
    let s2 := overL ((List.range 16).filter (s1.stagesAt half)) (fun s p => s.stagePlot p unstaged) s1
    let st := s2.nat Reg.pairState
    let s3 := if st = 2 ∨ st = 3 then s2.makeDigest (!half) else s2
    .next (if half then s3 else s3.sendStamps.sendHot)

/-- Does the block of a sink that leaves in this tick ramp down: a swap at the next boundary changes its latency, or its
plot is reset there (R47; 07, R207). -/
def State.leavesLast (s : State) (x : SigId) : Bool :=
  match s.sigOwner x with
  | none => false
  | some p => (s.plot p).resets.any (fun (e : Nat × Bool) => e.1 == s.tick + 1) ||
      match s.last p, s.swapNext p with
      | some o, some n => latencyChanges o n x
      | _, _ => false
/-- Does the plot of a sink hold a route record for it. -/
def State.hasRoute (s : State) (x : SigId) : Bool :=
  match s.sigOwner x with | some p => (s.routeOf p x).isSome | none => false
/-- Blocks that open egress: those staged for sinks that the plot routes. -/
def State.leaving (s : State) (half : Bool) : NTable (List Sample) :=
  (s.staged.filter fun (e : Nat × List Sample) => s.sinkHalf e.1 == half && s.hasRoute e.1).map fun (e : Nat × List Sample) =>
    (e.1, if s.leavesLast e.1 then rampDown e.2 else e.2)
/-- The latest 8 blocks of the network sinks that open (R33). -/
def State.leaveHistory (s : State) (half : Bool) (now : NTable (List Sample)) : NTable (List (List Sample)) :=
  let xs := ((s.txHist.map (·.1)) ++ (now.map (·.1)).filter fun x => sigClass x == 3).eraseDups.filter fun x => s.sinkHalf x == half
  xs.foldl (fun t x => NTable.put [] t x ((NTable.get [] now x :: NTable.get [] t x).take 8))
    (s.txHist.filter fun (e : Nat × List (List Sample)) => (s.sigOwner e.1).isSome)
/-- Did the block of a sink that now leaves open half a tick late: in the tick of a swap by the old last, so that its ramp
down runs to its end (R47). -/
def State.outHalf (s : State) (x : SigId) : Bool :=
  match s.sigOwner x with
  | some p => (match (s.plot p).outgoing with
    | some o => o.half && !o.directSink x
    | none => s.sinkHalf x)
  | none => false
/-- Blocks open egress: for serial ports, for streams, for power stages (R28 to R30). -/
def State.openSinks (s : State) (half : Bool) : State :=
  let now := s.leaving half
  let s1 := { s with
    out := now.foldl (fun t (e : Nat × List Sample) => NTable.put [] t e.1 e.2)
      (s.out.filter fun (e : Nat × List Sample) => s.outHalf e.1 != half)
    txHist := s.leaveHistory half now
    staged := s.staged.filter fun (e : Nat × List Sample) => s.sinkHalf e.1 != half }
  overN 64 (fun s n =>
    let x := sigOf 9 n
    match s.sigOwner x with
    | some p => if s.sinkHalf x == half then s.pscFeed n (if half then 96000 else 0) (padTo (6 * s.plotMult p) (NTable.get [] now x)) else s
    | none => s) s1
/-- Do the packets of a plot stay back at an opening of a phase: 0 half-tick, 1 full-tick (08, R237). -/
def State.staysBack (s : State) (key p : Nat) : Bool := bit ((NTable.get 0 s.pair.withheld key : Nat) : Int) p
/-- EGRESS_OPENING: at the full tick or in its middle the blocks staged leave; streams whose packet is complete queue it
(R28, R33, R360). In the focused proof role B withholds direct packets too (08, R239). -/
def execEgressOpening (half : Bool) (s : State) : Out :=
  if s.planeDown then .next s
  else
    let key := if half then 0 else 1
    let s0 := if half then { s with cycle := max s.cycle (Config.cyclesPerTick / 2) } else s
    let s1 := s0.openSinks half
    let s2 := if half then s1.openStreams 3 fun p => s1.staysBack key p
      else (s1.openStreams 4 fun p => s1.staysBack key p).openStreams 2 fun _ => s1.focusHolds
    .next { s2 with pair := { s2.pair with withheld := NTable.put 0 s2.pair.withheld key 0 } }

end Sys2Proof.Machine
end

