-- ==== Sys2Proof/Machine/Dispatch.lean ====
section
/-!
DEFINITION. One arm for each command: a direct call of its meaning.
-/
namespace Sys2Proof.Machine

/-- The effect of a command on everything but the queue. -/
def exec (i : Instr) (s : State) : Host.Outcome State Fault Refusal :=
  match i with
  | .tickBoundary rep => Sys2Proof.Machine.execTickBoundary rep s
  | .ingestReady => Sys2Proof.Machine.execIngestReady s
  | .stagingDeadline half unstaged => Sys2Proof.Machine.execStagingDeadline half unstaged s
  | .egressOpening half => Sys2Proof.Machine.execEgressOpening half s
  | .taskStart p task => Sys2Proof.Machine.execTaskStart p task s
  | .taskDeadlineStop c => Sys2Proof.Machine.execTaskDeadlineStop c s
  | .coprocResultWrite c => Sys2Proof.Machine.execCoprocResultWrite c s
  | .coreLd16 c ctl x => Sys2Proof.Machine.execCoreLd16 c ctl x s
  | .coreLd24 c ctl x => Sys2Proof.Machine.execCoreLd24 c ctl x s
  | .coreLd32 c ctl x => Sys2Proof.Machine.execCoreLd32 c ctl x s
  | .coreLd64 c ctl x => Sys2Proof.Machine.execCoreLd64 c ctl x s
  | .coreLd2 c ctl d1 k d2 j => Sys2Proof.Machine.execCoreLd2 c ctl d1 k d2 j s
  | .coreLdst c ctl d k v j => Sys2Proof.Machine.execCoreLdst c ctl d k v j s
  | .coreLd2st c ctl quad k j v w => Sys2Proof.Machine.execCoreLd2st c ctl quad k j v w s
  | .coreSt16 c ctl trunc x => Sys2Proof.Machine.execCoreSt16 c ctl trunc x s
  | .coreSt24 c ctl trunc x => Sys2Proof.Machine.execCoreSt24 c ctl trunc x s
  | .coreSt32 c ctl x => Sys2Proof.Machine.execCoreSt32 c ctl x s
  | .coreSt64 c ctl x => Sys2Proof.Machine.execCoreSt64 c ctl x s
  | .coreSmax c ctl best idx k single => Sys2Proof.Machine.execCoreSmax c ctl best idx k single s
  | .coreSmin c ctl best idx k single => Sys2Proof.Machine.execCoreSmin c ctl best idx k single s
  | .coreSmaxa c ctl best idx k single => Sys2Proof.Machine.execCoreSmaxa c ctl best idx k single s
  | .coreSmina c ctl best idx k single => Sys2Proof.Machine.execCoreSmina c ctl best idx k single s
  | .corePmov c ctl toG g k => Sys2Proof.Machine.execCorePmov c ctl toG g k s
  | .corePadd c ctl k imm => Sys2Proof.Machine.execCorePadd c ctl k imm s
  | .coreAdd c ctl sat rd rs rt => Sys2Proof.Machine.execCoreAdd c ctl sat rd rs rt s
  | .coreSub c ctl sat rd rs rt => Sys2Proof.Machine.execCoreSub c ctl sat rd rs rt s
  | .coreAnd c ctl rd rs rt => Sys2Proof.Machine.execCoreAnd c ctl rd rs rt s
  | .coreOr c ctl rd rs rt => Sys2Proof.Machine.execCoreOr c ctl rd rs rt s
  | .coreXor c ctl rd rs rt => Sys2Proof.Machine.execCoreXor c ctl rd rs rt s
  | .coreMin c ctl rd rs rt => Sys2Proof.Machine.execCoreMin c ctl rd rs rt s
  | .coreMax c ctl rd rs rt => Sys2Proof.Machine.execCoreMax c ctl rd rs rt s
  | .coreMulf c ctl trunc rd rs rt => Sys2Proof.Machine.execCoreMulf c ctl trunc rd rs rt s
  | .coreMuli c ctl rd rs rt => Sys2Proof.Machine.execCoreMuli c ctl rd rs rt s
  | .coreSrai c ctl rd rs n => Sys2Proof.Machine.execCoreSrai c ctl rd rs n s
  | .coreSlli c ctl rd rs n => Sys2Proof.Machine.execCoreSlli c ctl rd rs n s
  | .coreSrli c ctl rd rs n => Sys2Proof.Machine.execCoreSrli c ctl rd rs n s
  | .coreSrar c ctl trunc rd rs n => Sys2Proof.Machine.execCoreSrar c ctl trunc rd rs n s
  | .coreMov c ctl rd rs => Sys2Proof.Machine.execCoreMov c ctl rd rs s
  | .coreNeg c ctl sat rd rs => Sys2Proof.Machine.execCoreNeg c ctl sat rd rs s
  | .coreAbs c ctl sat rd rs => Sys2Proof.Machine.execCoreAbs c ctl sat rd rs s
  | .coreNot c ctl rd rs => Sys2Proof.Machine.execCoreNot c ctl rd rs s
  | .coreCmp c ctl q cond rs rt => Sys2Proof.Machine.execCoreCmp c ctl q cond rs rt s
  | .coreMovi c ctl rd imm => Sys2Proof.Machine.execCoreMovi c ctl rd imm s
  | .coreMovh c ctl rd imm => Sys2Proof.Machine.execCoreMovh c ctl rd imm s
  | .coreCmac c ctl a x y f => Sys2Proof.Machine.execCoreCmac c ctl a x y f s
  | .coreCmac2 c ctl a0 a1 x y f => Sys2Proof.Machine.execCoreCmac2 c ctl a0 a1 x y f s
  | .coreQmac c ctl a x y f => Sys2Proof.Machine.execCoreQmac c ctl a x y f s
  | .coreQmac2 c ctl a0 a1 x y f => Sys2Proof.Machine.execCoreQmac2 c ctl a0 a1 x y f s
  | .coreAcv c ctl trunc rd a n => Sys2Proof.Machine.execCoreAcv c ctl trunc rd a n s
  | .coreAsr c ctl trunc d a n => Sys2Proof.Machine.execCoreAsr c ctl trunc d a n s
  | .coreAsl c ctl d a n => Sys2Proof.Machine.execCoreAsl c ctl d a n s
  | .coreAmov c ctl d rs => Sys2Proof.Machine.execCoreAmov c ctl d rs s
  | .coreAadd c ctl d a b => Sys2Proof.Machine.execCoreAadd c ctl d a b s
  | .coreAsub c ctl d a b => Sys2Proof.Machine.execCoreAsub c ctl d a b s
  | .coreAzero c ctl d => Sys2Proof.Machine.execCoreAzero c ctl d s
  | .coreAcmp c ctl q cond a b => Sys2Proof.Machine.execCoreAcmp c ctl q cond a b s
  | .coreBr c ctl hint target => Sys2Proof.Machine.execCoreBr c ctl hint target s
  | .coreCall c ctl target => Sys2Proof.Machine.execCoreCall c ctl target s
  | .coreJr c ctl g => Sys2Proof.Machine.execCoreJr c ctl g s
  | .coreLoop c ctl fromReg count len => Sys2Proof.Machine.execCoreLoop c ctl fromReg count len s
  | .coreEnd c ctl => Sys2Proof.Machine.execCoreEnd c ctl s
  | .coreTrap c ctl code => Sys2Proof.Machine.execCoreTrap c ctl code s
  | .corePop c ctl q quad => Sys2Proof.Machine.execCorePop c ctl q quad s
  | .coreDmat c ctl n => Sys2Proof.Machine.execCoreDmat c ctl n s
  | .coreMovc c ctl fromCtl cr g => Sys2Proof.Machine.execCoreMovc c ctl fromCtl cr g s
  | .coreDiv c ctl rd rs rt => Sys2Proof.Machine.execCoreDiv c ctl rd rs rt s
  | .coreSqrt c ctl rd rs => Sys2Proof.Machine.execCoreSqrt c ctl rd rs s
  | .coreLog2 c ctl rd rs => Sys2Proof.Machine.execCoreLog2 c ctl rd rs s
  | .coreExp2 c ctl rd rs => Sys2Proof.Machine.execCoreExp2 c ctl rd rs s
  | .coreMag c ctl rd rs rt => Sys2Proof.Machine.execCoreMag c ctl rd rs rt s
  | .coreAtan2 c ctl rd rs rt => Sys2Proof.Machine.execCoreAtan2 c ctl rd rs rt s
  | .coreScrub corrected uncorrectable => Sys2Proof.Machine.execCoreScrub corrected uncorrectable s
  | .lastStage p owner image => Sys2Proof.Machine.execLastStage p owner image s
  | .lastInstall p t => Sys2Proof.Machine.execLastInstall p t s
  | .lastChecksComplete p => Sys2Proof.Machine.execLastChecksComplete p s
  | .lastCancel p => Sys2Proof.Machine.execLastCancel p s
  | .shadowCommit p => Sys2Proof.Machine.execShadowCommit p s
  | .pairSwapTimeout p => Sys2Proof.Machine.execPairSwapTimeout p s
  | .lastSwap p => Sys2Proof.Machine.execLastSwap p s
  | .timedActionApply => Sys2Proof.Machine.execTimedActionApply s
  | .routeEdit p batch => Sys2Proof.Machine.execRouteEdit p batch s
  | .routeEditAt p t lateOk batch => Sys2Proof.Machine.execRouteEditAt p t lateOk batch s
  | .routeEditApply p => Sys2Proof.Machine.execRouteEditApply p s
  | .routeHeldApply p => Sys2Proof.Machine.execRouteHeldApply p s
  | .busGain p b gain => Sys2Proof.Machine.execBusGain p b gain s
  | .busMute p b mute => Sys2Proof.Machine.execBusMute p b mute s
  | .busAuto p b law => Sys2Proof.Machine.execBusAuto p b law s
  | .xpGain p x gain => Sys2Proof.Machine.execXpGain p x gain s
  | .xpMute p x mute => Sys2Proof.Machine.execXpMute p x mute s
  | .mixWriteApply => Sys2Proof.Machine.execMixWriteApply s
  | .silSignal p d sig thresh hold => Sys2Proof.Machine.execSilSignal p d sig thresh hold s
  | .silenceHoldExpire d => Sys2Proof.Machine.execSilenceHoldExpire d s
  | .genType p g ty freq level seed => Sys2Proof.Machine.execGenType p g ty freq level seed s
  | .trackerLock t rate ppb => Sys2Proof.Machine.execTrackerLock t rate ppb s
  | .trackerLost t => Sys2Proof.Machine.execTrackerLost t s
  | .trackerInputReturn t rate ppb => Sys2Proof.Machine.execTrackerInputReturn t rate ppb s
  | .trackerResync t => Sys2Proof.Machine.execTrackerResync t s
  | .trackerRecentred t => Sys2Proof.Machine.execTrackerRecentred t s
  | .msgPost p c msg => Sys2Proof.Machine.execMsgPost p c msg s
  | .msgEnterInbox c => Sys2Proof.Machine.execMsgEnterInbox c s
  | .bankWrite p u g offset words => Sys2Proof.Machine.execBankWrite p u g offset words s
  | .swapAt p u g sample => Sys2Proof.Machine.execSwapAt p u g sample s
  | .fcuSwapBegin u g => Sys2Proof.Machine.execFcuSwapBegin u g s
  | .fcuFadeEnd u g => Sys2Proof.Machine.execFcuFadeEnd u g s
  | .fcuUecc u g addr => Sys2Proof.Machine.execFcuUecc u g addr s
  | .fcuScrub uncorrectable => Sys2Proof.Machine.execFcuScrub uncorrectable s
  | .areCoefWrite p xp offset coefs => Sys2Proof.Machine.execAreCoefWrite p xp offset coefs s
  | .areCoefExp p xp e => Sys2Proof.Machine.execAreCoefExp p xp e s
  | .areCoefStoreWrite p => Sys2Proof.Machine.execAreCoefStoreWrite p s
  | .areImgStore p image => Sys2Proof.Machine.execAreImgStore p image s
  | .areImgLoad p => Sys2Proof.Machine.execAreImgLoad p s
  | .areSwapAt p b => Sys2Proof.Machine.execAreSwapAt p b s
  | .areSwapBegin p set => Sys2Proof.Machine.execAreSwapBegin p set s
  | .areFadeEnd xp => Sys2Proof.Machine.execAreFadeEnd xp s
  | .areUecc xp residue => Sys2Proof.Machine.execAreUecc xp residue s
  | .areHistoryUecc addr => Sys2Proof.Machine.execAreHistoryUecc addr s
  | .areScrub corrected coef hist => Sys2Proof.Machine.execAreScrub corrected coef hist s
  | .assignGrant p batch => Sys2Proof.Machine.execAssignGrant p batch s
  | .assignRelease p batch => Sys2Proof.Machine.execAssignRelease p batch s
  | .releaseTakeEffect p => Sys2Proof.Machine.execReleaseTakeEffect p s
  | .scrubComplete => Sys2Proof.Machine.execScrubComplete s
  | .quota p code v => Sys2Proof.Machine.execQuota p code v s
  | .trim p => Sys2Proof.Machine.execTrim p s
  | .plotReset p keys => Sys2Proof.Machine.execPlotReset p keys s
  | .plotResetAt p keys t lateOk => Sys2Proof.Machine.execPlotResetAt p keys t lateOk s
  | .plotResetApply p => Sys2Proof.Machine.execPlotResetApply p s
  | .plotResetComplete p => Sys2Proof.Machine.execPlotResetComplete p s
  | .hoOffer p w => Sys2Proof.Machine.execHoOffer p w s
  | .hoAccept p w => Sys2Proof.Machine.execHoAccept p w s
  | .hoWithdraw p w => Sys2Proof.Machine.execHoWithdraw p w s
  | .handoffForm h => Sys2Proof.Machine.execHandoffForm h s
  | .handoffWithdrawApply h => Sys2Proof.Machine.execHandoffWithdrawApply h s
  | .ownerKey p n key => Sys2Proof.Machine.execOwnerKey p n key s
  | .observerKey p n key => Sys2Proof.Machine.execObserverKey p n key s
  | .plotFaultClear p m => Sys2Proof.Machine.execPlotFaultClear p m s
  | .pairWaitExpire => Sys2Proof.Machine.execPairWaitExpire s
  | .tick l f => Sys2Proof.Machine.execTick l f s
  | .beat l t => Sys2Proof.Machine.execBeat l t s
  | .digest c => Sys2Proof.Machine.execDigest c s
  | .idig t l => Sys2Proof.Machine.execIdig t l s
  | .rcpt t seq crc at_ => Sys2Proof.Machine.execRcpt t seq crc at_ s
  | .rpay t seq index payload at_ => Sys2Proof.Machine.execRpay t seq index payload at_ s
  | .lfwd x => Sys2Proof.Machine.execLfwd x s
  | .mgmt seq t a => Sys2Proof.Machine.execMgmt seq t a s
  | .mack seq => Sys2Proof.Machine.execMack seq s
  | .mirror page w data => Sys2Proof.Machine.execMirror page w data s
  | .hot page w data => Sys2Proof.Machine.execHot page w data s
  | .pdig l => Sys2Proof.Machine.execPdig l s
  | .rpayTimeout t seq now => Sys2Proof.Machine.execRpayTimeout t seq now s
  | .weltLinkDown l => Sys2Proof.Machine.execWeltLinkDown l s
  | .weltLinkUp l ps => Sys2Proof.Machine.execWeltLinkUp l ps s
  | .digestCompare full => Sys2Proof.Machine.execDigestCompare full s
  | .focusProofEnd => Sys2Proof.Machine.execFocusProofEnd s
  | .partnerAuthChange level => Sys2Proof.Machine.execPartnerAuthChange level s
  | .handover => Sys2Proof.Machine.execHandover s
  | .mackTimeout => Sys2Proof.Machine.execMackTimeout s
  | .graftStart => Sys2Proof.Machine.execGraftStart s
  | .graftPhaseComplete partner copy => Sys2Proof.Machine.execGraftPhaseComplete partner copy s
  | .graftPhaseTimeout partner => Sys2Proof.Machine.execGraftPhaseTimeout partner s
  | .graftJoin => Sys2Proof.Machine.execGraftJoin s
  | .graftAbort => Sys2Proof.Machine.execGraftAbort s
  | .pairLeave t => Sys2Proof.Machine.execPairLeave t s
  | .pairLeaveApply => Sys2Proof.Machine.execPairLeaveApply s
  | .pairTake => Sys2Proof.Machine.execPairTake s
  | .pairTakeApply => Sys2Proof.Machine.execPairTakeApply s
  | .pairSuspectClear => Sys2Proof.Machine.execPairSuspectClear s
  | .proofFail kind unit => Sys2Proof.Machine.execProofFail kind unit s
  | .proofSetPass => Sys2Proof.Machine.execProofSetPass s
  | .clockLoss d => Sys2Proof.Machine.execClockLoss d s
  | .refFault r bits => Sys2Proof.Machine.execRefFault r bits s
  | .refQualified r => Sys2Proof.Machine.execRefQualified r s
  | .dpllLadderAdvance => Sys2Proof.Machine.execDpllLadderAdvance s
  | .dpllLock => Sys2Proof.Machine.execDpllLock s
  | .dpllLockLost => Sys2Proof.Machine.execDpllLockLost s
  | .slewComplete => Sys2Proof.Machine.execSlewComplete s
  | .holdoverDegrade => Sys2Proof.Machine.execHoldoverDegrade s
  | .dpllStickyClear m => Sys2Proof.Machine.execDpllStickyClear m s
  | .dpllSteer v => Sys2Proof.Machine.execDpllSteer v s
  | .sBase hz => Sys2Proof.Machine.execSBase hz s
  | .timeIncr v => Sys2Proof.Machine.execTimeIncr v s
  | .timeAdj a => Sys2Proof.Machine.execTimeAdj a s
  | .timeStep d => Sys2Proof.Machine.execTimeStep d s
  | .timeSet sec ns => Sys2Proof.Machine.execTimeSet sec ns s
  | .counterChangeApply => Sys2Proof.Machine.execCounterChangeApply s
  | .ptpRole v => Sys2Proof.Machine.execPtpRole v s
  | .ptpProfile v => Sys2Proof.Machine.execPtpProfile v s
  | .ptpMessageRx n m => Sys2Proof.Machine.execPtpMessageRx n m s
  | .servoLock => Sys2Proof.Machine.execServoLock s
  | .servoUnlock => Sys2Proof.Machine.execServoUnlock s
  | .announceTimeout => Sys2Proof.Machine.execAnnounceTimeout s
  | .tsFifoRead => Sys2Proof.Machine.execTsFifoRead s
  | .launch n now => Sys2Proof.Machine.execLaunch n now s
  | .launchLateDrop n now => Sys2Proof.Machine.execLaunchLateDrop n now s
  | .tevMode p n mode => Sys2Proof.Machine.execTevMode p n mode s
  | .tevCapture n falling ns => Sys2Proof.Machine.execTevCapture n falling ns s
  | .tevCapRead n => Sys2Proof.Machine.execTevCapRead n s
  | .tevAction p n batch => Sys2Proof.Machine.execTevAction p n batch s
  | .cancel p n => Sys2Proof.Machine.execCancel p n s
  | .tevActionDue n => Sys2Proof.Machine.execTevActionDue n s
  | .tevPulseEdge n => Sys2Proof.Machine.execTevPulseEdge n s
  | .netMode n mode => Sys2Proof.Machine.execNetMode n mode s
  | .netPowerdownDone n => Sys2Proof.Machine.execNetPowerdownDone n s
  | .netLinkDown n => Sys2Proof.Machine.execNetLinkDown n s
  | .netLinkUp n sgmii => Sys2Proof.Machine.execNetLinkUp n sgmii s
  | .frameRx n f => Sys2Proof.Machine.execFrameRx n f s
  | .learnEventApply now => Sys2Proof.Machine.execLearnEventApply now s
  | .flapWindowEnd now => Sys2Proof.Machine.execFlapWindowEnd now s
  | .flapHoldExpire now => Sys2Proof.Machine.execFlapHoldExpire now s
  | .ageScanVisit mac fid => Sys2Proof.Machine.execAgeScanVisit mac fid s
  | .fdbAdd b => Sys2Proof.Machine.execFdbAdd b s
  | .fdbDel b => Sys2Proof.Machine.execFdbDel b s
  | .netFlush n => Sys2Proof.Machine.execNetFlush n s
  | .mcAdd b => Sys2Proof.Machine.execMcAdd b s
  | .mcDel b => Sys2Proof.Machine.execMcDel b s
  | .netQcells n cells => Sys2Proof.Machine.execNetQcells n cells s
  | .netBaseGcl n b => Sys2Proof.Machine.execNetBaseGcl n b s
  | .baseGclApply n => Sys2Proof.Machine.execBaseGclApply n s
  | .gateChange n now => Sys2Proof.Machine.execGateChange n now s
  | .residenceDrop n now => Sys2Proof.Machine.execResidenceDrop n now s
  | .netPreempt n v => Sys2Proof.Machine.execNetPreempt n v s
  | .preemptVerifyDone n ok => Sys2Proof.Machine.execPreemptVerifyDone n ok s
  | .preemptHold n now => Sys2Proof.Machine.execPreemptHold n now s
  | .segSend n q mss head payload => Sys2Proof.Machine.execSegSend n q mss head payload s
  | .esmcTx n => Sys2Proof.Machine.execEsmcTx n s
  | .esmcTimeout n now => Sys2Proof.Machine.execEsmcTimeout n now s
  | .rxStart p t at_ => Sys2Proof.Machine.execRxStart p t at_ s
  | .rxStop p t at_ => Sys2Proof.Machine.execRxStop p t at_ s
  | .txStart p t at_ => Sys2Proof.Machine.execTxStart p t at_ s
  | .txStop p t at_ => Sys2Proof.Machine.execTxStop p t at_ s
  | .streamCmdApply rx t => Sys2Proof.Machine.execStreamCmdApply rx t s
  | .streamStopComplete rx t => Sys2Proof.Machine.execStreamStopComplete rx t s
  | .playoutDeadline t => Sys2Proof.Machine.execPlayoutDeadline t s
  | .nonaudioHoldExpire sap t k => Sys2Proof.Machine.execNonaudioHoldExpire sap t k s
  | .sapStart p n at_ => Sys2Proof.Machine.execSapStart p n at_ s
  | .sapStop p n at_ => Sys2Proof.Machine.execSapStop p n at_ s
  | .sapCmdApply n => Sys2Proof.Machine.execSapCmdApply n s
  | .sapFrame n f => Sys2Proof.Machine.execSapFrame n f s
  | .sapPrerollEnd n => Sys2Proof.Machine.execSapPrerollEnd n s
  | .sapRampdownEnd n => Sys2Proof.Machine.execSapRampdownEnd n s
  | .sapPostrollEnd n => Sys2Proof.Machine.execSapPostrollEnd n s
  | .sapClockLost n now => Sys2Proof.Machine.execSapClockLost n now s
  | .sapMute p n mute => Sys2Proof.Machine.execSapMute p n mute s
  | .sapEventClear p n m => Sys2Proof.Machine.execSapEventClear p n m s
  | .pscStart p n at_ => Sys2Proof.Machine.execPscStart p n at_ s
  | .pscStop p n at_ => Sys2Proof.Machine.execPscStop p n at_ s
  | .pscBoundary temps => Sys2Proof.Machine.execPscBoundary temps s
  | .pscLoopUpdate n v i_ v1 i1 => Sys2Proof.Machine.execPscLoopUpdate n v i_ v1 i1 s
  | .pscCarrierStop n => Sys2Proof.Machine.execPscCarrierStop n s
  | .pscSenseLoss n => Sys2Proof.Machine.execPscSenseLoss n s
  | .pscAutoRestart n => Sys2Proof.Machine.execPscAutoRestart n s
  | .pscFaultClear p n => Sys2Proof.Machine.execPscFaultClear p n s
  | .pscLoopCoef p n words => Sys2Proof.Machine.execPscLoopCoef p n words s
  | .pscLoopSwapAt p n t => Sys2Proof.Machine.execPscLoopSwapAt p n t s
  | .loopSwapApply n => Sys2Proof.Machine.execLoopSwapApply n s
  | .pscZWindowEnd n => Sys2Proof.Machine.execPscZWindowEnd n s
  | .pscEventClear p n m => Sys2Proof.Machine.execPscEventClear p n m s
  | .dmaWindowRun p win failed parity => Sys2Proof.Machine.execDmaWindowRun p win failed parity s
  | .trellisResponse m addr data cause => Sys2Proof.Machine.execTrellisResponse m addr data cause s
  | .memUecc sel addr win bus port => Sys2Proof.Machine.execMemUecc sel addr win bus port s
  | .memScrub corrected => Sys2Proof.Machine.execMemScrub corrected s
  | .dramDerate ctl multiple hot mr4 => Sys2Proof.Machine.execDramDerate ctl multiple hot mr4 s
  | .login m number challenge => Sys2Proof.Machine.execLogin m number challenge s
  | .loginProof m => Sys2Proof.Machine.execLoginProof m s
  | .loginLapse n => Sys2Proof.Machine.execLoginLapse n s
  | .logout m => Sys2Proof.Machine.execLogout m s
  | .read m => Sys2Proof.Machine.execRead m s
  | .write m => Sys2Proof.Machine.execWrite m s
  | .writeAt m => Sys2Proof.Machine.execWriteAt m s
  | .blockRead m bad => Sys2Proof.Machine.execBlockRead m bad s
  | .blockWrite m => Sys2Proof.Machine.execBlockWrite m s
  | .blockTransferAbort n k => Sys2Proof.Machine.execBlockTransferAbort n k s
  | .blockSnapshotExpire n => Sys2Proof.Machine.execBlockSnapshotExpire n s
  | .heartbeat m => Sys2Proof.Machine.execHeartbeat m s
  | .claimTake m => Sys2Proof.Machine.execClaimTake m s
  | .claimRelease m => Sys2Proof.Machine.execClaimRelease m s
  | .sessionTimeout n => Sys2Proof.Machine.execSessionTimeout n s
  | .lockoutEnd transport source => Sys2Proof.Machine.execLockoutEnd transport source s
  | .gardenerKey n key => Sys2Proof.Machine.execGardenerKey n key s
  | .addrAnnounce a uid => Sys2Proof.Machine.execAddrAnnounce a uid s
  | .chainAddressTake now => Sys2Proof.Machine.execChainAddressTake now s
  | .addrAnnounceTx now => Sys2Proof.Machine.execAddrAnnounceTx now s
  | .addrRestart => Sys2Proof.Machine.execAddrRestart s
  | .t1sAccess v => Sys2Proof.Machine.execT1sAccess v s
  | .bar0Access off w => Sys2Proof.Machine.execBar0Access off w s
  | .bar0Bind session tag => Sys2Proof.Machine.execBar0Bind session tag s
  | .mboxOpen inBase outBase pages up => Sys2Proof.Machine.execMboxOpen inBase outBase pages up s
  | .ringOpen n r rec => Sys2Proof.Machine.execRingOpen n r rec s
  | .ringClose n r => Sys2Proof.Machine.execRingClose n r s
  | .ringIndexWrite r off v => Sys2Proof.Machine.execRingIndexWrite r off v s
  | .pageWrite r => Sys2Proof.Machine.execPageWrite r s
  | .pageAbandon r => Sys2Proof.Machine.execPageAbandon r s
  | .pcieLinkLoss => Sys2Proof.Machine.execPcieLinkLoss s
  | .meterPeriodEnd p => Sys2Proof.Machine.execMeterPeriodEnd p s
  | .mtrSet p recs => Sys2Proof.Machine.execMtrSet p recs s
  | .mtrPeriod p v => Sys2Proof.Machine.execMtrPeriod p v s
  | .meterSetApply p => Sys2Proof.Machine.execMeterSetApply p s
  | .powerOnReset => Sys2Proof.Machine.execPowerOnReset s
  | .resetPin => Sys2Proof.Machine.execResetPin s
  | .tjOvertemp tenths => Sys2Proof.Machine.execTjOvertemp tenths s
  | .rstCmdCold => Sys2Proof.Machine.execRstCmdCold s
  | .rstCmdWarm => Sys2Proof.Machine.execRstCmdWarm s
  | .rstCmdGardener => Sys2Proof.Machine.execRstCmdGardener s
  | .rstCmdPort port => Sys2Proof.Machine.execRstCmdPort port s
  | .resetCmdApply => Sys2Proof.Machine.execResetCmdApply s
  | .resetEnter => Sys2Proof.Machine.execResetEnter s
  | .watchdogExpire now => Sys2Proof.Machine.execWatchdogExpire now s
  | .stretchEnd port => Sys2Proof.Machine.execStretchEnd port s
  | .bringupPhaseDone rep => Sys2Proof.Machine.execBringupPhaseDone rep s
  | .firmwareReady now => Sys2Proof.Machine.execFirmwareReady now s
  | .fwReadyTimeout now => Sys2Proof.Machine.execFwReadyTimeout now s
  | .fwStage len ok build => Sys2Proof.Machine.execFwStage len ok build s
  | .fwSwitch => Sys2Proof.Machine.execFwSwitch s
  | .optBlock b => Sys2Proof.Machine.execOptBlock b s
  | .railCrossing r th now => Sys2Proof.Machine.execRailCrossing r th now s
  | .railClear r th now => Sys2Proof.Machine.execRailClear r th now s
  | .flashHoldEnd now => Sys2Proof.Machine.execFlashHoldEnd now s
  | .pwrMainOkChange level now => Sys2Proof.Machine.execPwrMainOkChange level now s
  | .pwrBattOnChange level now => Sys2Proof.Machine.execPwrBattOnChange level now s
  | .bracePolicyApply => Sys2Proof.Machine.execBracePolicyApply s
  | .battMissing now => Sys2Proof.Machine.execBattMissing now s
  | .unbrace now => Sys2Proof.Machine.execUnbrace now s
  | .unbraceComplete now => Sys2Proof.Machine.execUnbraceComplete now s
  | .logQueueDrain bad0 bad1 => Sys2Proof.Machine.execLogQueueDrain bad0 bad1 s
  | .logDropped p => Sys2Proof.Machine.execLogDropped p s
  | .logScrub uncorrectable => Sys2Proof.Machine.execLogScrub uncorrectable s
  | .logFreeze => Sys2Proof.Machine.execLogFreeze s
  | .logUnfreeze => Sys2Proof.Machine.execLogUnfreeze s
  | .faultFrameStart now => Sys2Proof.Machine.execFaultFrameStart now s
  | .faultClear m => Sys2Proof.Machine.execFaultClear m s
  | .registerWrite owner idx sub unit v => Sys2Proof.Machine.execRegisterWrite owner idx sub unit v s
  | .refFaultEnd r => Sys2Proof.Machine.execRefFaultEnd r s
  | .junctionCaution above tenths now => Sys2Proof.Machine.execJunctionCaution above tenths now s
  | .resetSourceClear src => Sys2Proof.Machine.execResetSourceClear src s
  | .chainInHigh now => Sys2Proof.Machine.execChainInHigh now s
  | .ptpMessageTx n ty => Sys2Proof.Machine.execPtpMessageTx n ty s

end Sys2Proof.Machine
end

