-- ==== Sys2Proof/WellFormed.lean ====
section
/-!
DEFINITION. Well-formed commands: every number fits the field that carries it. What a rule refuses with a code of its own
is well formed, and its meaning answers the code.
-/
namespace Sys2Proof

/-- A number fits an unsigned field of w bits. -/
def fitsU (w n : Nat) : Bool := decide (n < 2 ^ w)
/-- A number fits a signed field of w bits. -/
def fitsS (w : Nat) (v : Int) : Bool := decide (-2 ^ (w - 1) ≤ v) && decide (v < 2 ^ (w - 1))
/-- Words of a coefficient list fit their format. -/
def allS (w : Nat) (l : List Int) : Bool := l.all (fitsS w)
/-- The tick of a named action fits the type TICK (16, R447). -/
def atOk (a : Option (Nat × Bool)) : Bool := match a with | some (t, _) => fitsU 64 t | none => true
/-- The start of a page of the trellis address map (08, R255; 15, R420). -/
def pageAt (a : Nat) : Bool := decide (a % 4096 = 0) && fitsU 40 a
/-- Format L1: a signed 5-bit step, 0 with M (04, Table 4.2). -/
def L1.ok (x : L1) : Bool := fitsS 5 x.imm && (x.m || x.imm == 0)
/-- The fields of a message's header and its tag (16, Table 16.2, R449). -/
def Omp.ok (m : Omp) : Bool :=
  fitsU 32 m.session && fitsU 32 m.seq && fitsU 64 m.tick && fitsU 16 m.body.length && decide (m.tag.length ≤ 16)
/-- A forwarded action names an object and a role (08, R251; 16, R447). -/
def FwdAction.ok (a : FwdAction) : Bool :=
  fitsU 16 a.idx && fitsU 8 a.sub && fitsU 32 a.unit && decide (a.role ≤ 2) && fitsU 8 a.plot

/-- Is a command well formed. -/
def Instr.wellFormed (i : Instr) : Bool :=
  match i with
  | .taskStart _ task => fitsU 16 task
  | .coreLd16 _ _ x => x.ok
  | .coreLd24 _ _ x => x.ok
  | .coreLd32 _ _ x => x.ok
  | .coreLd64 _ _ x => x.ok
  | .coreSt16 _ _ _ x => x.ok
  | .coreSt24 _ _ _ x => x.ok
  | .coreSt32 _ _ x => x.ok
  | .coreSt64 _ _ x => x.ok
  | .corePadd _ _ _ imm => fitsS 11 imm
  | .coreMovi _ _ _ imm => fitsS 10 imm
  | .coreMovh _ _ _ imm => decide (0 ≤ imm) && decide (imm < 1024)
  | .lastInstall _ t => fitsU 64 t
  | .routeEditAt _ t _ _ => fitsU 64 t
  | .busGain _ _ gain => fitsS 32 gain
  | .busAuto _ _ law => fitsU 8 law
  | .xpGain _ _ gain => fitsS 32 gain
  | .silSignal _ _ sig thresh hold => fitsU 32 sig && fitsS 32 thresh && fitsU 32 hold
  | .genType _ _ ty freq level seed => fitsU 8 ty && fitsU 32 freq && fitsS 32 level && fitsU 32 seed
  | .trackerLock _ rate ppb => fitsU 32 rate && fitsS 32 ppb
  | .trackerInputReturn _ rate ppb => fitsU 32 rate && fitsS 32 ppb
  | .bankWrite _ _ _ offset words => fitsU 16 offset && allS 32 words
  | .swapAt _ _ _ sample => fitsU 64 sample
  | .areCoefWrite _ _ offset coefs => fitsU 32 offset && allS 24 coefs
  | .areCoefExp _ _ e => fitsU 8 e
  | .areSwapAt _ b => fitsU 64 b
  | .quota _ _ v => fitsU 64 v
  | .plotResetAt _ _ t _ => fitsU 64 t
  | .hoOffer _ w => fitsU 32 w
  | .hoAccept _ w => fitsU 32 w
  | .hoWithdraw _ w => fitsU 32 w
  | .beat _ t => fitsU 64 t
  | .idig t _ => fitsU 64 t
  | .rcpt _ seq crc _ => fitsU 16 seq && fitsU 32 crc
  | .rpay _ seq _ _ _ => fitsU 16 seq
  | .mgmt seq t a => fitsU 32 seq && fitsU 64 t && a.ok
  | .mack seq => fitsU 32 seq
  | .mirror page w data => pageAt page && fitsU 64 w && decide (data.length = 4096)
  | .hot page w data => pageAt page && fitsU 64 w && decide (data.length = 4096)
  | .rpayTimeout _ seq _ => fitsU 16 seq
  | .weltLinkUp _ ps => fitsU 32 ps
  | .pairLeave t => fitsU 64 t
  | .dpllSteer v => fitsS 64 v
  | .sBase hz => fitsU 32 hz
  | .timeAdj a => fitsS 64 a
  | .timeStep d => fitsS 64 d
  | .timeSet _ ns => fitsU 32 ns
  | .ptpRole v => fitsU 8 v
  | .ptpProfile v => fitsU 8 v
  | .tevMode _ _ mode => fitsU 8 mode
  | .netMode _ mode => fitsU 8 mode
  | .ageScanVisit _ fid => fitsU 16 fid
  | .netPreempt _ v => fitsU 8 v
  | .segSend _ q mss _ _ => fitsU 3 q && fitsU 16 mss
  | .rxStart _ _ at_ => atOk at_
  | .rxStop _ _ at_ => atOk at_
  | .txStart _ _ at_ => atOk at_
  | .txStop _ _ at_ => atOk at_
  | .sapStart _ _ at_ => atOk at_
  | .sapStop _ _ at_ => atOk at_
  | .pscStart _ _ at_ => atOk at_
  | .pscStop _ _ at_ => atOk at_
  | .pscLoopCoef _ _ words => allS 32 words
  | .pscLoopSwapAt _ _ t => fitsU 64 t
  | .login m _ _ => m.ok
  | .loginProof m => m.ok
  | .logout m => m.ok
  | .read m => m.ok
  | .write m => m.ok
  | .writeAt m => m.ok
  | .blockRead m _ => m.ok
  | .blockWrite m => m.ok
  | .heartbeat m => m.ok
  | .claimTake m => m.ok
  | .claimRelease m => m.ok
  | .addrAnnounce _ uid => fitsU 64 uid
  | .t1sAccess v => fitsU 8 v
  | .bar0Bind session _ => fitsU 32 session
  | .ringIndexWrite _ off v => fitsU 32 off && fitsU 32 v
  | .mtrPeriod _ v => fitsU 16 v
  | .tjOvertemp tenths => fitsS 16 tenths
  | .registerWrite _ idx sub unit _ => fitsU 16 idx && fitsU 8 sub && fitsU 32 unit
  | .junctionCaution _ tenths _ => fitsS 16 tenths
  | .tickBoundary _ => true
  | .ingestReady => true
  | .stagingDeadline _ _ => true
  | .egressOpening _ => true
  | .taskDeadlineStop _ => true
  | .coprocResultWrite _ => true
  | .coreLd2 _ _ _ _ _ _ => true
  | .coreLdst _ _ _ _ _ _ => true
  | .coreLd2st _ _ _ _ _ _ _ => true
  | .coreSmax _ _ _ _ _ _ => true
  | .coreSmin _ _ _ _ _ _ => true
  | .coreSmaxa _ _ _ _ _ _ => true
  | .coreSmina _ _ _ _ _ _ => true
  | .corePmov _ _ _ _ _ => true
  | .coreAdd _ _ _ _ _ _ => true
  | .coreSub _ _ _ _ _ _ => true
  | .coreAnd _ _ _ _ _ => true
  | .coreOr _ _ _ _ _ => true
  | .coreXor _ _ _ _ _ => true
  | .coreMin _ _ _ _ _ => true
  | .coreMax _ _ _ _ _ => true
  | .coreMulf _ _ _ _ _ _ => true
  | .coreMuli _ _ _ _ _ => true
  | .coreSrai _ _ _ _ _ => true
  | .coreSlli _ _ _ _ _ => true
  | .coreSrli _ _ _ _ _ => true
  | .coreSrar _ _ _ _ _ _ => true
  | .coreMov _ _ _ _ => true
  | .coreNeg _ _ _ _ _ => true
  | .coreAbs _ _ _ _ _ => true
  | .coreNot _ _ _ _ => true
  | .coreCmp _ _ _ _ _ _ => true
  | .coreCmac _ _ _ _ _ _ => true
  | .coreCmac2 _ _ _ _ _ _ _ => true
  | .coreQmac _ _ _ _ _ _ => true
  | .coreQmac2 _ _ _ _ _ _ _ => true
  | .coreAcv _ _ _ _ _ _ => true
  | .coreAsr _ _ _ _ _ _ => true
  | .coreAsl _ _ _ _ _ => true
  | .coreAmov _ _ _ _ => true
  | .coreAadd _ _ _ _ _ => true
  | .coreAsub _ _ _ _ _ => true
  | .coreAzero _ _ _ => true
  | .coreAcmp _ _ _ _ _ _ => true
  | .coreBr _ _ _ _ => true
  | .coreCall _ _ _ => true
  | .coreJr _ _ _ => true
  | .coreLoop _ _ _ _ _ => true
  | .coreEnd _ _ => true
  | .coreTrap _ _ _ => true
  | .corePop _ _ _ _ => true
  | .coreDmat _ _ _ => true
  | .coreMovc _ _ _ _ _ => true
  | .coreDiv _ _ _ _ _ => true
  | .coreSqrt _ _ _ _ => true
  | .coreLog2 _ _ _ _ => true
  | .coreExp2 _ _ _ _ => true
  | .coreMag _ _ _ _ _ => true
  | .coreAtan2 _ _ _ _ _ => true
  | .coreScrub _ _ => true
  | .lastStage _ _ _ => true
  | .lastChecksComplete _ => true
  | .lastCancel _ => true
  | .shadowCommit _ => true
  | .pairSwapTimeout _ => true
  | .lastSwap _ => true
  | .timedActionApply => true
  | .routeEdit _ _ => true
  | .routeEditApply _ => true
  | .routeHeldApply _ => true
  | .busMute _ _ _ => true
  | .xpMute _ _ _ => true
  | .mixWriteApply => true
  | .silenceHoldExpire _ => true
  | .trackerLost _ => true
  | .trackerResync _ => true
  | .trackerRecentred _ => true
  | .msgPost _ _ _ => true
  | .msgEnterInbox _ => true
  | .fcuSwapBegin _ _ => true
  | .fcuFadeEnd _ _ => true
  | .fcuUecc _ _ _ => true
  | .fcuScrub _ => true
  | .areCoefStoreWrite _ => true
  | .areImgStore _ _ => true
  | .areImgLoad _ => true
  | .areSwapBegin _ _ => true
  | .areFadeEnd _ => true
  | .areUecc _ _ => true
  | .areHistoryUecc _ => true
  | .areScrub _ _ _ => true
  | .assignGrant _ _ => true
  | .assignRelease _ _ => true
  | .releaseTakeEffect _ => true
  | .scrubComplete => true
  | .trim _ => true
  | .plotReset _ _ => true
  | .plotResetApply _ => true
  | .plotResetComplete _ => true
  | .handoffForm _ => true
  | .handoffWithdrawApply _ => true
  | .ownerKey _ _ _ => true
  | .observerKey _ _ _ => true
  | .plotFaultClear _ _ => true
  | .pairWaitExpire => true
  | .tick _ _ => true
  | .digest _ => true
  | .lfwd _ => true
  | .pdig _ => true
  | .weltLinkDown _ => true
  | .digestCompare _ => true
  | .focusProofEnd => true
  | .partnerAuthChange _ => true
  | .handover => true
  | .mackTimeout => true
  | .graftStart => true
  | .graftPhaseComplete _ _ => true
  | .graftPhaseTimeout _ => true
  | .graftJoin => true
  | .graftAbort => true
  | .pairLeaveApply => true
  | .pairTake => true
  | .pairTakeApply => true
  | .pairSuspectClear => true
  | .proofFail _ _ => true
  | .proofSetPass => true
  | .clockLoss _ => true
  | .refFault _ _ => true
  | .refQualified _ => true
  | .dpllLadderAdvance => true
  | .dpllLock => true
  | .dpllLockLost => true
  | .slewComplete => true
  | .holdoverDegrade => true
  | .dpllStickyClear _ => true
  | .timeIncr _ => true
  | .counterChangeApply => true
  | .ptpMessageRx _ _ => true
  | .servoLock => true
  | .servoUnlock => true
  | .announceTimeout => true
  | .tsFifoRead => true
  | .launch _ _ => true
  | .launchLateDrop _ _ => true
  | .tevCapture _ _ _ => true
  | .tevCapRead _ => true
  | .tevAction _ _ _ => true
  | .cancel _ _ => true
  | .tevActionDue _ => true
  | .tevPulseEdge _ => true
  | .netPowerdownDone _ => true
  | .netLinkDown _ => true
  | .netLinkUp _ _ => true
  | .frameRx _ _ => true
  | .learnEventApply _ => true
  | .flapWindowEnd _ => true
  | .flapHoldExpire _ => true
  | .fdbAdd _ => true
  | .fdbDel _ => true
  | .netFlush _ => true
  | .mcAdd _ => true
  | .mcDel _ => true
  | .netQcells _ _ => true
  | .netBaseGcl _ _ => true
  | .baseGclApply _ => true
  | .gateChange _ _ => true
  | .residenceDrop _ _ => true
  | .preemptVerifyDone _ _ => true
  | .preemptHold _ _ => true
  | .esmcTx _ => true
  | .esmcTimeout _ _ => true
  | .streamCmdApply _ _ => true
  | .streamStopComplete _ _ => true
  | .playoutDeadline _ => true
  | .nonaudioHoldExpire _ _ _ => true
  | .sapCmdApply _ => true
  | .sapFrame _ _ => true
  | .sapPrerollEnd _ => true
  | .sapRampdownEnd _ => true
  | .sapPostrollEnd _ => true
  | .sapClockLost _ _ => true
  | .sapMute _ _ _ => true
  | .sapEventClear _ _ _ => true
  | .pscBoundary _ => true
  | .pscLoopUpdate _ _ _ _ _ => true
  | .pscCarrierStop _ => true
  | .pscSenseLoss _ => true
  | .pscAutoRestart _ => true
  | .pscFaultClear _ _ => true
  | .loopSwapApply _ => true
  | .pscZWindowEnd _ => true
  | .pscEventClear _ _ _ => true
  | .dmaWindowRun _ _ _ _ => true
  | .trellisResponse _ _ _ _ => true
  | .memUecc _ _ _ _ _ => true
  | .memScrub _ => true
  | .dramDerate _ _ _ _ => true
  | .loginLapse _ => true
  | .blockTransferAbort _ _ => true
  | .blockSnapshotExpire _ => true
  | .sessionTimeout _ => true
  | .lockoutEnd _ _ => true
  | .gardenerKey _ _ => true
  | .chainAddressTake _ => true
  | .addrAnnounceTx _ => true
  | .addrRestart => true
  | .bar0Access _ _ => true
  | .mboxOpen _ _ _ _ => true
  | .ringOpen _ _ _ => true
  | .ringClose _ _ => true
  | .pageWrite _ => true
  | .pageAbandon _ => true
  | .pcieLinkLoss => true
  | .meterPeriodEnd _ => true
  | .mtrSet _ _ => true
  | .meterSetApply _ => true
  | .powerOnReset => true
  | .resetPin => true
  | .rstCmdCold => true
  | .rstCmdWarm => true
  | .rstCmdGardener => true
  | .rstCmdPort _ => true
  | .resetCmdApply => true
  | .resetEnter => true
  | .watchdogExpire _ => true
  | .stretchEnd _ => true
  | .bringupPhaseDone _ => true
  | .firmwareReady _ => true
  | .fwReadyTimeout _ => true
  | .fwStage _ _ _ => true
  | .fwSwitch => true
  | .optBlock _ => true
  | .railCrossing _ _ _ => true
  | .railClear _ _ _ => true
  | .flashHoldEnd _ => true
  | .pwrMainOkChange _ _ => true
  | .pwrBattOnChange _ _ => true
  | .bracePolicyApply => true
  | .battMissing _ => true
  | .unbrace _ => true
  | .unbraceComplete _ => true
  | .logQueueDrain _ _ => true
  | .logDropped _ => true
  | .logScrub _ => true
  | .logFreeze => true
  | .logUnfreeze => true
  | .faultFrameStart _ => true
  | .faultClear _ => true
  | .refFaultEnd _ => true
  | .resetSourceClear _ => true
  | .chainInHigh _ => true
  | .ptpMessageTx _ _ => true

end Sys2Proof
end

