-- ==== Sys2Proof/Safety.lean ====
section
/-!
DEFINITION. A safe run, and the words in which claims are made: what a command leaves, which registers it leaves
alone, and how a slot of a core runs.
-/
namespace Sys2Proof.Machine

/-- A run of k steps meets no fault and no refusal. -/
def Safe (k : Nat) (s : State) : Prop := ∃ t : State, Host.Core.run Sys2Proof.core k s = .next t

/-- A command runs: it answers a next state, of which q holds. -/
def Runs (i : Instr) (s : State) (q : State → Prop) : Prop := ∃ t, exec i s = .next t ∧ q t

/-- Every register but those of a list reads as before. -/
def SameRegs (s t : State) (l : List Reg) : Prop := ∀ r, r ∉ l → t.reg r = s.reg r

/-- Every byte of memory reads as before. -/
def SameMem (s t : State) : Prop := ∀ a, t.byte a = s.byte a

/-- The state but for its registers and the answer of a request. -/
def State.units (s : State) : State := { s with regs := [], answer := {} }

/-- The state but for its registers, the answer of a request and what reports go to: the log, the notices of sessions,
the event pages of rings. -/
def State.quiet (s : State) : State := { s with regs := [], answer := {}, log := {}, sessions := [], rings := [] }

/-- A command answers a request with a status and does nothing else. -/
def Answers (i : Instr) (s : State) (code : Nat) : Prop := exec i s = .next (s.reply code)

/-- The core as a slot finds it: the bundles without operation that stand before its bundle have issued, as far as they
retire before DEADLINE. -/
def State.found (s : State) (c : Nat) (r : RunTask) (ctl : SlotCtl) : CoreSt :=
  if (s.core c).bundle.slots = 0 then (s.core c).issueNops r.task.deadline ctl.nops else s.core c

/-- A slot runs on a core with a task: the bundle gains what `q` says of it, where the hardware reports no error of the
fetch and no parity failure and the slot's condition holds; where it does not hold it gains no result and no store, and no
exception but ILLEGAL (04, R126, R127, R129). The last slot's bundle retires. -/
def SlotRuns (i : Instr) (c : Nat) (ctl : SlotCtl) (s : State) (q : State → CoreSt → RunTask → Bundle → Prop) : Prop :=
  ∀ r, (s.core c).run = some r → ctl.hw.fetch = .clean → ctl.hw.parity = false →
    ∃ u, exec i s = .next (if ctl.last then u.retire c r else u) ∧
      u = s.setCore c { s.found c r ctl with bundle := (u.core c).bundle } ∧
      (slotHolds ctl (s.found c r ctl) = true → q s (s.found c r ctl) r (u.core c).bundle) ∧
      (slotHolds ctl (s.found c r ctl) = false →
        (u.core c).bundle.writes = (s.found c r ctl).bundle.writes ∧
        (u.core c).bundle.stores = (s.found c r ctl).bundle.stores ∧
        ((u.core c).bundle.exc = (s.found c r ctl).bundle.exc ∨
          (s.found c r ctl).bundle.exc = 0 ∧ (u.core c).bundle.exc = 1))
/-- A slot whose encoding or operands are undefined: ILLEGAL where no exception stands yet, whether its condition holds or
not; no result and no store (04, R129). -/
def SlotIllegal (i : Instr) (c : Nat) (ctl : SlotCtl) (s : State) : Prop :=
  ∀ r, (s.core c).run = some r → ctl.hw.fetch = .clean → ctl.hw.parity = false →
    ∃ u, exec i s = .next (if ctl.last then u.retire c r else u) ∧
      u = s.setCore c { s.found c r ctl with bundle := (u.core c).bundle } ∧
      (u.core c).bundle.writes = (s.found c r ctl).bundle.writes ∧
      (u.core c).bundle.stores = (s.found c r ctl).bundle.stores ∧
      (u.core c).bundle.exc = if (s.found c r ctl).bundle.exc = 0 then 1 else (s.found c r ctl).bundle.exc

/-- A slot's operation adds one g register result and the flag SAT32 where it saturates. -/
def AddsWord (rd : Fin 32) (v : CoreSt → Word) (saturates : CoreSt → Bool) :
    State → CoreSt → RunTask → Bundle → Prop := fun _ k _ b =>
  b.writes = k.bundle.writes ++ [.g rd (v k)] ∧ b.stores = k.bundle.stores ∧ b.exc = k.bundle.exc ∧
    b.flags = if saturates k then k.bundle.flags ||| 1 else k.bundle.flags

/-- A word saturated at 32 bits. -/
def sat32 (x : Int) : Word := BitVec.ofInt 32 (max (-2 ^ 31) (min (2 ^ 31 - 1) x))
/-- Does a result leave the signed 32-bit range. -/
def over32 (x : Int) : Bool := decide (x < -2 ^ 31) || decide (x > 2 ^ 31 - 1)

/-- An accumulator saturated at 80 bits. -/
def acc80 (x : Int) : Acc := BitVec.ofInt 80 (max (-2 ^ 79) (min (2 ^ 79 - 1) x))
/-- Does a result leave the signed 80-bit range. -/
def over80 (x : Int) : Bool := decide (x < -2 ^ 79) || decide (x > 2 ^ 79 - 1)
/-- A right shift, rounded by adding half an LSB, or truncated. -/
def shiftRight (trunc : Bool) (x : Int) (n : Nat) : Int :=
  if trunc = true ∨ n = 0 then x / 2 ^ n else (x + 2 ^ (n - 1)) / 2 ^ n

/-- A slot's operation adds one accumulator result, the exact x saturated, and the flag ASAT where it saturates. -/
def AddsAcc (d : Nat) (x : CoreSt → Int) : State → CoreSt → RunTask → Bundle → Prop := fun _ k _ b =>
  b.writes = k.bundle.writes ++ [.a d (acc80 (x k))] ∧ b.stores = k.bundle.stores ∧ b.exc = k.bundle.exc ∧
    b.flags = if over80 (x k) then k.bundle.flags ||| 2 else k.bundle.flags

/-- The two results of a CMAC unit in an accumulator pair: added to the pair or replacing it, negated or not. -/
def macWrites (k : CoreSt) (pair : Nat) (f : MacFlags) (re im : Int) : List RegWrite :=
  [.a (2 * pair) (acc80 ((if f.acc then k.ra (2 * pair) else 0) + if f.neg then -re else re)),
   .a (2 * pair + 1) (acc80 ((if f.acc then k.ra (2 * pair + 1) else 0) + if f.neg then -im else im))]
/-- The complex product of the pairs x and y, y conjugated or not, on a unit. -/
def complexWrites (k : CoreSt) (x y pair : Nat) (f : MacFlags) : List RegWrite :=
  macWrites k pair f
    (k.ri (2 * x) * k.ri (2 * y) - k.ri (2 * x + 1) * (if f.conj then -k.ri (2 * y + 1) else k.ri (2 * y + 1)))
    (k.ri (2 * x) * (if f.conj then -k.ri (2 * y + 1) else k.ri (2 * y + 1)) + k.ri (2 * x + 1) * k.ri (2 * y))
/-- The four real products of the quads x and y, summed by pairs, on a unit. -/
def quadWrites (k : CoreSt) (x y pair : Nat) (f : MacFlags) : List RegWrite :=
  macWrites k pair f
    (k.ri (4 * x) * k.ri (4 * y) + k.ri (4 * x + 1) * k.ri (4 * y + 1))
    (k.ri (4 * x + 2) * k.ri (4 * y + 2) + k.ri (4 * x + 3) * k.ri (4 * y + 3))
/-- A slot's operation adds register results. -/
def AddsWrites (w : CoreSt → List RegWrite) : State → CoreSt → RunTask → Bundle → Prop := fun _ k _ b =>
  b.writes = k.bundle.writes ++ w k ∧ b.stores = k.bundle.stores ∧ b.exc = k.bundle.exc

/-- What a post-modify by a step adds to the results: the pointer's new value, where it has one. -/
def pointerWrites (k : CoreSt) (n e : Nat) (step : Option Int) : List RegWrite :=
  match step with
  | none => []
  | some d => match k.postModify n e d with | some v => [.p n v] | none => []
/-- A single load through a pointer: what the address gives goes to g registers, the pointer is post-modified; an address
that may not be read raises the code of its check. -/
def Loads (x : L1) (c size e : Nat) (vals : Access → List RegWrite) :
    State → CoreSt → RunTask → Bundle → Prop := fun s k r b =>
  b.stores = k.bundle.stores ∧
  (∀ a, s.access c r.plot (k.rp x.k) size true = .ok a →
    b.writes = k.bundle.writes ++ vals a ++ pointerWrites k x.k e (l1Step k x e)) ∧
  (∀ code, s.access c r.plot (k.rp x.k) size true = .error code →
    b.writes = k.bundle.writes ∧ b.exc = if k.bundle.exc = 0 then code else k.bundle.exc)
/-- A single store through a pointer: bytes at an offset from the address; registers keep their values but for the
pointer. -/
def Stores (x : L1) (c size e off : Nat) (bytes : CoreSt → List Byte) :
    State → CoreSt → RunTask → Bundle → Prop := fun s k r b =>
  (∀ a, s.access c r.plot (k.rp x.k) size true = .ok a →
    b.stores = k.bundle.stores ++ [(a.own, a.addr + off, bytes k)] ∧
    b.writes = k.bundle.writes ++ pointerWrites k x.k e (l1Step k x e)) ∧
  (∀ code, s.access c r.plot (k.rp x.k) size true = .error code →
    b.stores = k.bundle.stores ∧ b.writes = k.bundle.writes ∧
    b.exc = if k.bundle.exc = 0 then code else k.bundle.exc)
/-- A load of a pair through a pointer of a multi-access form, with its post-modify. -/
def pairWrites (k : CoreSt) (a : Access) (g n : Nat) : List RegWrite :=
  [.load g a.own a.addr 4 0, .load (g + 1) a.own (a.addr + 4) 4 0] ++
    pointerWrites k n 8 (some (k.rc (16 + n)).toInt)
/-- The g registers that a result writes. -/
def RegWrite.gs : RegWrite → List Nat
  | .g r _ | .gCyc r | .load r _ _ _ _ => [r]
  | .find _ best idx _ _ _ _ _ _ => [best, idx]
  | _ => []
/-- One element of a search: it replaces best and index where it is better. -/
def searchPick (better : Bool) (w i best idx : Word) : Word × Word := if better then (w, i) else (best, idx)
/-- A search of one or two elements through a pointer, from a best value and its index; SCNT advances and the pointer is
post-modified. -/
def Searches (f : Better) (best idx : Fin 32) (n : Fin 8) (single : Bool) (c : Nat) :
    State → CoreSt → RunTask → Bundle → Prop := fun s k r b =>
  ∀ a, s.access c r.plot (k.rp n) (if single then 4 else 8) true = .ok a →
    b.writes = k.bundle.writes ++
      [.find f best idx a.own a.addr single (k.rc 27) (k.rg best) (k.rg idx),
       .c 27 (k.rc 27 + if single then 1 else 2)] ++
      pointerWrites k n (if single then 4 else 8) (some (k.rc (16 + n)).toInt) ∧
    b.stores = k.bundle.stores
/-- Is an element x better than the best b (03, R105). -/
def betterThan : Better → Int → Int → Bool
  | .max, x, b => decide (b < x)
  | .min, x, b => decide (x < b)
  | .maxa, x, b => decide (|b| < |x|)
  | .mina, x, b => decide (|x| < |b|)
/-- A slot's operation hands a result to the coprocessor: opcode of Table 4.6, destination, value and flags. -/
def AddsCop (op : Nat) (rd : Fin 32) (v : CoreSt → Word) (flags : CoreSt → Nat) :
    State → CoreSt → RunTask → Bundle → Prop := fun _ k _ b =>
  b.cops = k.bundle.cops ++ [(rd.val, v k, op, flags k)] ∧ b.writes = k.bundle.writes ∧ b.stores = k.bundle.stores ∧
    b.exc = k.bundle.exc

/-- The units of an assignment record, held by a plot. -/
def unitsHeld (p : Nat) (b : List Byte) : Holding :=
  ⟨(readUnits b).kind, (readUnits b).unit, (readUnits b).first, (readUnits b).count, p, none, 0⟩

/-- A request of an open session comes with its right tag and a new sequence number (16, R440, R449). -/
structure Tagged (s : State) (m : Omp) (op k : Nat) (x : Session) : Prop where
  taken : s.ompOpen m = true
  node : s.nodeOk m = true
  slot : s.slotOf m.session = some k
  session : s.session k = x
  isOpen : x.open_ = true
  transport : x.transport = m.transport.val
  source : x.source = m.source
  tagged : m.flags.val / 2 % 2 = 1
  tag : m.tag = ompTag x.ks (ompHeader op m.flags m.node m.session m.seq m.body.length 0 m.tick) m.body
  seq : x.seq < m.seq
/-- Such a request is fresh: its form is good, and no other occupies the gardener (16, R460). -/
structure Fresh (s : State) (m : Omp) (op k : Nat) (x : Session) : Prop extends Tagged s m op k x where
  idle : s.gardBusy = false
  form : ompFormOk m = true
/-- The state in which such a request is served: counted, the session's tick and sequence number noted. -/
def State.received (s : State) (m : Omp) (k : Nat) : State :=
  ((s.ompArrive m).modSession k fun x => { x with lastTick := s.tick }).modSession k fun x => { x with seq := m.seq }
/-- A request before login reaches the chip in good form. -/
structure Arrives (s : State) (m : Omp) : Prop where
  taken : s.ompOpen m = true
  node : s.nodeOk m = true
  form : ompFormOk m = true

/-- The commands that can change a byte of memory: the slots of a core (the last of a bundle retires it, with its stores),
engine work that moves, repairs or clears bytes, leftover traffic as time passes, a last that is written before its swap, a
mirrored page, the tick, a reset. -/
def storesBytes (i : Instr) : Bool :=
  match i with
  | .tickBoundary _ | .ingestReady | .stagingDeadline _ _ | .coreLd16 _ _ _ | .coreLd24 _ _ _ | .coreLd32 _ _ _
  | .coreLd64 _ _ _ | .coreLd2 _ _ _ _ _ _ | .coreLdst _ _ _ _ _ _ | .coreLd2st _ _ _ _ _ _ _ | .coreSt16 _ _ _ _
  | .coreSt24 _ _ _ _ | .coreSt32 _ _ _ | .coreSt64 _ _ _ | .coreSmax _ _ _ _ _ _ | .coreSmin _ _ _ _ _ _
  | .coreSmaxa _ _ _ _ _ _ | .coreSmina _ _ _ _ _ _ | .corePmov _ _ _ _ _ | .corePadd _ _ _ _
  | .coreAdd _ _ _ _ _ _ | .coreSub _ _ _ _ _ _ | .coreAnd _ _ _ _ _ | .coreOr _ _ _ _ _ | .coreXor _ _ _ _ _
  | .coreMin _ _ _ _ _ | .coreMax _ _ _ _ _ | .coreMulf _ _ _ _ _ _ | .coreMuli _ _ _ _ _ | .coreSrai _ _ _ _ _
  | .coreSlli _ _ _ _ _ | .coreSrli _ _ _ _ _ | .coreSrar _ _ _ _ _ _ | .coreMov _ _ _ _ | .coreNeg _ _ _ _ _
  | .coreAbs _ _ _ _ _ | .coreNot _ _ _ _ | .coreCmp _ _ _ _ _ _ | .coreMovi _ _ _ _ | .coreMovh _ _ _ _
  | .coreCmac _ _ _ _ _ _ | .coreCmac2 _ _ _ _ _ _ _ | .coreQmac _ _ _ _ _ _ | .coreQmac2 _ _ _ _ _ _ _
  | .coreAcv _ _ _ _ _ _ | .coreAsr _ _ _ _ _ _ | .coreAsl _ _ _ _ _ | .coreAmov _ _ _ _ | .coreAadd _ _ _ _ _
  | .coreAsub _ _ _ _ _ | .coreAzero _ _ _ | .coreAcmp _ _ _ _ _ _ | .coreBr _ _ _ _ | .coreCall _ _ _
  | .coreJr _ _ _ | .coreLoop _ _ _ _ _ | .coreEnd _ _ | .coreTrap _ _ _ | .corePop _ _ _ _ | .coreDmat _ _ _
  | .coreMovc _ _ _ _ _ | .coreDiv _ _ _ _ _ | .coreSqrt _ _ _ _ | .coreLog2 _ _ _ _ | .coreExp2 _ _ _ _
  | .coreMag _ _ _ _ _ | .coreAtan2 _ _ _ _ _ | .coreScrub _ _ | .shadowCommit _ | .pairSwapTimeout _
  | .scrubComplete | .tick _ _ | .hot _ _ _ | .dmaWindowRun _ _ _ _ | .trellisResponse _ _ _ _ | .memUecc _ _ _ _ _
  | .resetEnter => true
  | _ => false
/-- The commands that can move the tick: the tick itself, a change of the time counter as it applies, the partner's tick frame
while a graft aligns the clock, the end of bring-up, a reset. -/
def movesTick (i : Instr) : Bool :=
  match i with
  | .tickBoundary _ | .tick _ _ | .counterChangeApply | .resetEnter | .firmwareReady _ => true
  | _ => false

end Sys2Proof.Machine
end

