-- ==== Sys2Proof/Certificates/Slice0/Obligations.lean ====
section
/-!
DEFINITION. The statements for the provers, family by family.
-/
open Sys2Proof Sys2Proof.Machine

/-- A step takes the command at the front. Where a command stands at the front of the queue, a step is that command's effect on the state with the queue's rest. On an empty queue the running core whose next bundle comes first fetches it, and the bundle's operations wait as the commands they are; with no such core the block idles: both are the model's choice (log entry 140). -/
def Obligations.StepTakesTheCommandAtTheFront : Prop :=
  (∀ (c : Instr) (q : List Instr) (s : State), step { s with pending := c :: q } = exec c { s with pending := q }) ∧
  (∀ s : State, s.pending = [] → step s = .next s.fetchBundle ∧
    ((∀ e ∈ s.cores, e.2.fetches = false) → step s = .next s) ∧
    (∀ (c : Fin 128) (r : RunTask) (i : Instr) (ops : List Instr), s.nextCore = some c.val → (s.core c).run = some r →
      decodeBundle c (s.bundleAt c (s.core c).pc) = some (i :: ops) →
      ∃ t, step s = .next t ∧ t.pending = i :: ops ∧ SameMem s t ∧ SameRegs s t [] ∧
        ∀ d, d ≠ c.val → t.core d = s.core d))

/-- Every command completes, within its reach. In every state every command answers a next state, in which the queue is as before; the tick is as before but for the tick boundary, a counter change that applies, the partner's tick frame, the end of bring-up and a reset; and every byte of memory is as before but for the slots of a core, the engine's own moves, repairs and clears, leftover traffic as time passes, a last that is committed, a mirrored page that comes in, the tick and a reset. -/
def Obligations.EveryCommandCompletesWithinItsReach : Prop :=
  ∀ (c : Instr) (s : State), ∃ t, exec c s = .next t ∧ t.pending = s.pending ∧ (movesTick c = false → t.tick = s.tick) ∧
    (storesBytes c = false → SameMem s t)

/-- Every step keeps the canonical form of memory. From any state whose memory lists rising addresses and no byte that reads as an unlisted one, a step leads to a state of the same form, whatever command stands at the front. -/
def Obligations.EveryStepKeepsMemoryCanonical : Prop :=
  ∀ s t : State, NTable.wf 0 s.mem = true → step s = .next t → NTable.wf 0 t.mem = true

/-- The state after reset. The queue, the memory, the sessions and the rings are empty, memory has its canonical form, no reset is in progress and no core runs; every plot is FREE with no last installed, every stream is stopped, the supply is good, brace is NORMAL, and the registers read the dictionary's defaults, among them a session time-out of 10 s. -/
def Obligations.StateAfterReset : Prop :=
  State.reset.pending = [] ∧ NTable.wf 0 State.reset.mem = true ∧ (∀ a, State.reset.byte a = 0) ∧
  State.reset.sessions = [] ∧ State.reset.rings = [] ∧ State.reset.rst.kind = 0 ∧
  (∀ c, (State.reset.core c).run = none) ∧ (∀ r, State.reset.reg r = regDefault r) ∧
  (∀ p < 16, State.reset.reg (Reg.plotState p) = 0 ∧ State.reset.reg (Reg.lastState p) = 0) ∧
  (∀ t < 1024, State.reset.reg (Reg.rxState t) = 0 ∧ State.reset.reg (Reg.txState t) = 0) ∧
  State.reset.reg Reg.supState = 0 ∧ State.reset.reg Reg.braceState = 0 ∧ State.reset.reg Reg.faultCount = 0 ∧
  State.reset.reg Reg.sessionTimeout = 10

/-- Registers at the start of a task. TASK_START of a task that begins leaves every g, a and p register and every q predicate of its core 0, whatever they held and whether or not another task was still running there, and the core runs the task. -/
def Obligations.TaskStartClearsRegisters : Prop :=
  ∀ (p : Fin 16) (task : Nat) (t : Task) (s : State), s.findTask p task = some t → (s.task p task).started = false →
    (s.task p task).failStart = false → t.kind ≠ 2 ∨ s.reg (Reg.lastActiveSince p) = s.tick →
    Runs (.taskStart p task) s fun u => (u.core t.core).run = some ⟨t, p⟩ ∧
      ∀ n, (u.core t.core).rg n = 0 ∧ (u.core t.core).ra n = 0 ∧ (u.core t.core).rp n = 0 ∧ (u.core t.core).rq n = false

/-- Word operations of the arithmetic slot add one g result. For every core, slot control and operand, on a core with a task: ADD, SUB, NEG and ABS wrap or saturate at 32 bits, AND, OR, XOR and NOT are bitwise, MIN and MAX are signed, MULF is the Q1.31 product shifted by 31, MULI keeps the low 32 bits; the result goes to rd, SAT32 is set where a saturation took place, no store and no exception is added but RESIDUE where the multiplier of MULF or MULI fails its check, and no other core and nothing else of the state changes before the bundle retires. -/
def Obligations.CoreWordOperationsAddOneResult : Prop :=
  ∀ (c : Fin 128) (ctl : SlotCtl) (trunc : Bool) (rd rs rt : Fin 32) (s : State),
    SlotRuns (.coreAdd c ctl .wrap rd rs rt) c ctl s (AddsWord rd (fun k => k.rg rs + k.rg rt) fun _ => false) ∧
    SlotRuns (.coreAdd c ctl .sat rd rs rt) c ctl s
      (AddsWord rd (fun k => sat32 (k.ri rs + k.ri rt)) fun k => over32 (k.ri rs + k.ri rt)) ∧
    SlotRuns (.coreSub c ctl .wrap rd rs rt) c ctl s (AddsWord rd (fun k => k.rg rs - k.rg rt) fun _ => false) ∧
    SlotRuns (.coreSub c ctl .sat rd rs rt) c ctl s
      (AddsWord rd (fun k => sat32 (k.ri rs - k.ri rt)) fun k => over32 (k.ri rs - k.ri rt)) ∧
    SlotRuns (.coreAnd c ctl rd rs rt) c ctl s (AddsWord rd (fun k => k.rg rs &&& k.rg rt) fun _ => false) ∧
    SlotRuns (.coreOr c ctl rd rs rt) c ctl s (AddsWord rd (fun k => k.rg rs ||| k.rg rt) fun _ => false) ∧
    SlotRuns (.coreXor c ctl rd rs rt) c ctl s (AddsWord rd (fun k => k.rg rs ^^^ k.rg rt) fun _ => false) ∧
    SlotRuns (.coreMin c ctl rd rs rt) c ctl s
      (AddsWord rd (fun k => BitVec.ofInt 32 (min (k.ri rs) (k.ri rt))) fun _ => false) ∧
    SlotRuns (.coreMax c ctl rd rs rt) c ctl s
      (AddsWord rd (fun k => BitVec.ofInt 32 (max (k.ri rs) (k.ri rt))) fun _ => false) ∧
    (ctl.hw.residue = false →
      SlotRuns (.coreMulf c ctl trunc rd rs rt) c ctl s
        (AddsWord rd (fun k => sat32 (shiftRight trunc (k.ri rs * k.ri rt) 31)) fun k =>
          over32 (shiftRight trunc (k.ri rs * k.ri rt) 31)) ∧
      SlotRuns (.coreMuli c ctl rd rs rt) c ctl s
        (AddsWord rd (fun k => BitVec.ofInt 32 (k.ri rs * k.ri rt)) fun _ => false)) ∧
    (ctl.hw.residue = true →
      SlotRuns (.coreMulf c ctl trunc rd rs rt) c ctl s (fun _ k _ b => b.exc = if k.bundle.exc = 0 then 7 else k.bundle.exc) ∧
      SlotRuns (.coreMuli c ctl rd rs rt) c ctl s fun _ k _ b => b.exc = if k.bundle.exc = 0 then 7 else k.bundle.exc) ∧
    SlotRuns (.coreNeg c ctl .wrap rd rs) c ctl s (AddsWord rd (fun k => -k.rg rs) fun _ => false) ∧
    SlotRuns (.coreNeg c ctl .sat rd rs) c ctl s
      (AddsWord rd (fun k => sat32 (-k.ri rs)) fun k => over32 (-k.ri rs)) ∧
    SlotRuns (.coreAbs c ctl .wrap rd rs) c ctl s
      (AddsWord rd (fun k => BitVec.ofInt 32 |k.ri rs|) fun _ => false) ∧
    SlotRuns (.coreAbs c ctl .sat rd rs) c ctl s (AddsWord rd (fun k => sat32 |k.ri rs|) fun k => over32 |k.ri rs|) ∧
    SlotRuns (.coreNot c ctl rd rs) c ctl s (AddsWord rd (fun k => ~~~k.rg rs) fun _ => false)

/-- Shifts, moves, immediates and comparisons of the arithmetic slot. On a core with a task SRAI, SLLI, SRLI and SRAR shift by an immediate, the last rounded or truncated; MOV copies, MOVI loads a 10-bit immediate, MOVH shifts rd left by 10 and puts the 10-bit immediate below, each without a saturation; CMP writes its predicate from two words by its condition code and adds no other result. -/
def Obligations.CoreShiftsMovesAndCompares : Prop :=
  ∀ (c : Fin 128) (ctl : SlotCtl) (trunc : Bool) (rd rs rt n : Fin 32) (q : Fin 4) (imm : Int) (s : State),
    SlotRuns (.coreSrai c ctl rd rs n) c ctl s
      (AddsWord rd (fun k => BitVec.ofInt 32 (k.ri rs / 2 ^ n.val)) fun _ => false) ∧
    SlotRuns (.coreSlli c ctl rd rs n) c ctl s
      (AddsWord rd (fun k => BitVec.ofInt 32 (k.ri rs * 2 ^ n.val)) fun _ => false) ∧
    SlotRuns (.coreSrli c ctl rd rs n) c ctl s
      (AddsWord rd (fun k => BitVec.ofNat 32 ((k.rg rs).toNat / 2 ^ n.val)) fun _ => false) ∧
    SlotRuns (.coreSrar c ctl trunc rd rs n) c ctl s
      (AddsWord rd (fun k => BitVec.ofInt 32 (shiftRight trunc (k.ri rs) n)) fun _ => false) ∧
    SlotRuns (.coreMov c ctl rd rs) c ctl s (AddsWord rd (fun k => k.rg rs) fun _ => false) ∧
    (-512 ≤ imm → imm ≤ 511 → SlotRuns (.coreMovi c ctl rd imm) c ctl s
      (AddsWord rd (fun _ => BitVec.ofInt 32 imm) fun _ => false)) ∧
    (0 ≤ imm → imm ≤ 1023 → SlotRuns (.coreMovh c ctl rd imm) c ctl s
      (AddsWord rd (fun k => (k.rg rd <<< 10) ||| BitVec.ofInt 32 imm) fun _ => false)) ∧
    (∀ cond, SlotRuns (.coreCmp c ctl q cond rs rt) c ctl s (AddsWrites fun k => [.q q (match cond with
      | .eq => decide (k.ri rs = k.ri rt) | .ne => decide (k.ri rs ≠ k.ri rt)
      | .lt => decide (k.ri rs < k.ri rt) | .ge => decide (k.ri rt ≤ k.ri rs)
      | .le => decide (k.ri rs ≤ k.ri rt) | .gt => decide (k.ri rt < k.ri rs)
      | .ltu => decide ((k.rg rs).toNat < (k.rg rt).toNat)
      | .geu => decide ((k.rg rt).toNat ≤ (k.rg rs).toNat))]))

/-- CMAC and accumulator operations. On a core with a task CMAC and QMAC write the complex or quad-real sums to an accumulator pair, added or not, negated or not, saturated at 80 bits; CMAC2 and QMAC2 do so on two units, the second on the next pairs or quads, and raise ILLEGAL where both name one pair; a residue failure of a multiplier or of an accumulate adder raises RESIDUE; ACV shifts and saturates an accumulator to a word; ASR, ASL, AMOV, AADD, ASUB and AZERO write one accumulator saturated at 80 bits; ACMP compares signed accumulators and raises ILLEGAL on an unsigned code. -/
def Obligations.CoreAccumulatorOperations : Prop :=
  ∀ (c : Fin 128) (ctl : SlotCtl) (trunc : Bool) (rd rs : Fin 32) (n : Fin 64) (d a b : Fin 8) (q p0 p1 : Fin 4)
    (x y : Fin 16) (u v : Fin 8) (f : MacFlags) (s : State),
    (ctl.hw.residue = false →
      SlotRuns (.coreCmac c ctl p0 x y f) c ctl s (AddsWrites fun k => complexWrites k x y p0 f) ∧
      SlotRuns (.coreQmac c ctl p0 u v f) c ctl s (AddsWrites fun k => quadWrites k u v p0 f) ∧
      (p0 ≠ p1 →
        SlotRuns (.coreCmac2 c ctl p0 p1 x y f) c ctl s (AddsWrites fun k =>
          complexWrites k x y p0 f ++ complexWrites k ((x + 1) % 16) ((y + 1) % 16) p1 f) ∧
        SlotRuns (.coreQmac2 c ctl p0 p1 u v f) c ctl s (AddsWrites fun k =>
          quadWrites k u v p0 f ++ quadWrites k ((u + 1) % 8) ((v + 1) % 8) p1 f)) ∧
      SlotRuns (.coreAadd c ctl d a b) c ctl s (AddsAcc d fun k => k.ra a + k.ra b) ∧
      SlotRuns (.coreAsub c ctl d a b) c ctl s (AddsAcc d fun k => k.ra a - k.ra b)) ∧
    SlotIllegal (.coreCmac2 c ctl p0 p0 x y f) c ctl s ∧
    SlotIllegal (.coreQmac2 c ctl p0 p0 u v f) c ctl s ∧
    (ctl.hw.residue = true → ∀ i, i = .coreCmac c ctl p0 x y f ∨ i = .coreQmac c ctl p0 u v f ∨
        (p0 ≠ p1 ∧ (i = .coreCmac2 c ctl p0 p1 x y f ∨ i = .coreQmac2 c ctl p0 p1 u v f)) ∨
        i = .coreAadd c ctl d a b ∨ i = .coreAsub c ctl d a b →
      SlotRuns i c ctl s fun _ k _ bd => bd.exc = if k.bundle.exc = 0 then 7 else k.bundle.exc) ∧
    SlotRuns (.coreAcv c ctl trunc rd a n) c ctl s
      (AddsWord rd (fun k => sat32 (shiftRight trunc (k.ra a) n)) fun k => over32 (shiftRight trunc (k.ra a) n)) ∧
    SlotRuns (.coreAsr c ctl trunc d a n) c ctl s (AddsAcc d fun k => shiftRight trunc (k.ra a) n) ∧
    SlotRuns (.coreAsl c ctl d a n) c ctl s (AddsAcc d fun k => k.ra a * 2 ^ n.val) ∧
    SlotRuns (.coreAmov c ctl d rs) c ctl s (AddsAcc d fun k => k.ri rs * 2 ^ 31) ∧
    SlotRuns (.coreAzero c ctl d) c ctl s (AddsAcc d fun _ => 0) ∧
    (∀ cond, cond ≠ .ltu → cond ≠ .geu →
      SlotRuns (.coreAcmp c ctl q cond a b) c ctl s (AddsWrites fun k => [.q q (match cond with
        | .eq => decide (k.ra a = k.ra b) | .ne => decide (k.ra a ≠ k.ra b)
        | .lt => decide (k.ra a < k.ra b) | .ge => decide (k.ra b ≤ k.ra a)
        | .le => decide (k.ra a ≤ k.ra b) | _ => decide (k.ra b < k.ra a))])) ∧
    (∀ cond, cond = .ltu ∨ cond = .geu → SlotIllegal (.coreAcmp c ctl q cond a b) c ctl s)

/-- Loads of the load/store slot. On a core with a task, where the pointer's address may be read: LD16 and LD24 load left-justified (LD24 bytes 3 to 1 of the word), LD32 a word, LD64 two words into an even/odd pair, each with the pointer's post-modify as one more result; LD2 loads two pairs through two pointers and LDST loads one and stores one, and with one pointer named twice they raise ILLEGAL; LD2ST loads two pairs and stores one through p6 or p7. What a load reads is read as its bundle retires. An address that may not be read adds no result and raises its code; an operand that the encoding does not hold raises ILLEGAL; an uncorrectable word raises 5, or 6 in cluster memory, and a corrected one sets CECC and is counted. -/
def Obligations.CoreLoads : Prop :=
  ∀ (c : Fin 128) (ctl : SlotCtl) (x : L1) (d1 d2 v : Fin 16) (k j quad : Fin 8) (w : Bool) (s : State),
    (l1Ok x = true →
      SlotRuns (.coreLd16 c ctl x) c ctl s (Loads x c 2 2 fun a => [.load x.r a.own a.addr 2 16]) ∧
      SlotRuns (.coreLd24 c ctl x) c ctl s (Loads x c 3 4 fun a => [.load x.r a.own (a.addr + 1) 3 8]) ∧
      SlotRuns (.coreLd32 c ctl x) c ctl s (Loads x c 4 4 fun a => [.load x.r a.own a.addr 4 0]) ∧
      (x.r.val % 2 = 0 → SlotRuns (.coreLd64 c ctl x) c ctl s (Loads x c 8 8 fun a =>
        [.load x.r a.own a.addr 4 0, .load (x.r + 1) a.own (a.addr + 4) 4 0])) ∧
      (x.r.val % 2 = 1 → SlotIllegal (.coreLd64 c ctl x) c ctl s) ∧
      SlotRuns (.coreLd32 c ctl x) c ctl s (fun s k r b => ∀ a, s.access c r.plot (k.rp x.k) 4 true = .ok a →
        (ctl.hw.load = .uncorrectable →
          b.exc = if k.bundle.exc = 0 then (if a.cluster then 6 else 5) else k.bundle.exc) ∧
        (ctl.hw.load = .corrected → b.flags = k.bundle.flags ||| 16 ∧ b.corrected = k.bundle.corrected + 1))) ∧
    (l1Ok x = false →
      SlotIllegal (.coreLd16 c ctl x) c ctl s ∧ SlotIllegal (.coreLd24 c ctl x) c ctl s ∧
      SlotIllegal (.coreLd32 c ctl x) c ctl s ∧ SlotIllegal (.coreLd64 c ctl x) c ctl s) ∧
    (k ≠ j → SlotRuns (.coreLd2 c ctl d1 k d2 j) c ctl s fun s st r b => ∀ a a',
      s.access c r.plot (st.rp k) 8 true = .ok a → s.access c r.plot (st.rp j) 8 false = .ok a' →
        b.writes = st.bundle.writes ++ pairWrites st a (2 * d1) k ++ pairWrites st a' (2 * d2) j ∧
        b.stores = st.bundle.stores) ∧
    SlotIllegal (.coreLd2 c ctl d1 k d2 k) c ctl s ∧
    (k ≠ j → SlotRuns (.coreLdst c ctl d1 k v j) c ctl s fun s st r b => ∀ a a',
      s.access c r.plot (st.rp k) 8 true = .ok a → s.access c r.plot (st.rp j) 8 false = .ok a' →
        b.writes = st.bundle.writes ++ pairWrites st a (2 * d1) k ++
          pointerWrites st j 8 (some (st.rc (16 + j)).toInt) ∧
        b.stores = st.bundle.stores ++ [(a'.own, a'.addr, wordBytes (st.rg (2 * v)) ++ wordBytes (st.rg (2 * v + 1)))]) ∧
    SlotIllegal (.coreLdst c ctl d1 k v k) c ctl s ∧
    (k = j ∨ k.val = (if w then 7 else 6) ∨ j.val = (if w then 7 else 6) →
      SlotIllegal (.coreLd2st c ctl quad k j v w) c ctl s) ∧
    (k ≠ j → k.val ≠ (if w then 7 else 6) → j.val ≠ (if w then 7 else 6) →
      SlotRuns (.coreLd2st c ctl quad k j v w) c ctl s fun s st r b => ∀ a a' a'',
        s.access c r.plot (st.rp k) 8 true = .ok a → s.access c r.plot (st.rp j) 8 false = .ok a' →
        s.access c r.plot (st.rp (if w then 7 else 6)) 8 false = .ok a'' →
          b.writes = st.bundle.writes ++ pairWrites st a (4 * quad) k ++ pairWrites st a' (4 * quad + 2) j ++
            pointerWrites st (if w then 7 else 6) 8 (some (st.rc (16 + if w then 7 else 6)).toInt) ∧
          b.stores = st.bundle.stores ++ [(a''.own, a''.addr, wordBytes (st.rg (2 * v)) ++ wordBytes (st.rg (2 * v + 1)))])

/-- Stores, searches and pointer operations of the load/store slot. On a core with a task ST16 and ST24 store a register shifted right to 16 or 24 bits, rounded or truncated and saturated, ST24 into bytes 3 to 1 of a word, ST32 a word and ST64 a pair, at the checked address; SMAX, SMIN, SMAXA and SMINA search one or two elements from best and its index, as the bundle retires, and advance SCNT; PMOV moves between a pointer and a g register; PADD steps a pointer by bytes. An operand that the encoding does not hold raises ILLEGAL. -/
def Obligations.CoreStoresSearchesAndPointers : Prop :=
  ∀ (c : Fin 128) (ctl : SlotCtl) (trunc : Bool) (x : L1) (best idx g : Fin 32) (n : Fin 8) (single : Bool) (imm : Int)
    (s : State),
    (l1Ok x = true →
      SlotRuns (.coreSt16 c ctl trunc x) c ctl s (Stores x c 2 2 0 fun k =>
        leBytesI 2 (max (-2 ^ 15) (min (2 ^ 15 - 1) (shiftRight trunc (k.ri x.r) 16)))) ∧
      SlotRuns (.coreSt24 c ctl trunc x) c ctl s (Stores x c 3 4 1 fun k =>
        leBytesI 3 (max (-2 ^ 23) (min (2 ^ 23 - 1) (shiftRight trunc (k.ri x.r) 8)))) ∧
      SlotRuns (.coreSt32 c ctl x) c ctl s (Stores x c 4 4 0 fun k => wordBytes (k.rg x.r)) ∧
      (x.r.val % 2 = 0 → SlotRuns (.coreSt64 c ctl x) c ctl s
        (Stores x c 8 8 0 fun k => wordBytes (k.rg x.r) ++ wordBytes (k.rg (x.r + 1)))) ∧
      (x.r.val % 2 = 1 → SlotIllegal (.coreSt64 c ctl x) c ctl s)) ∧
    (l1Ok x = false →
      SlotIllegal (.coreSt16 c ctl trunc x) c ctl s ∧ SlotIllegal (.coreSt24 c ctl trunc x) c ctl s ∧
      SlotIllegal (.coreSt32 c ctl x) c ctl s ∧ SlotIllegal (.coreSt64 c ctl x) c ctl s) ∧
    SlotRuns (.coreSmax c ctl best idx n single) c ctl s (Searches .max best idx n single c) ∧
    SlotRuns (.coreSmin c ctl best idx n single) c ctl s (Searches .min best idx n single c) ∧
    SlotRuns (.coreSmaxa c ctl best idx n single) c ctl s (Searches .maxa best idx n single c) ∧
    SlotRuns (.coreSmina c ctl best idx n single) c ctl s (Searches .mina best idx n single c) ∧
    SlotRuns (.corePmov c ctl true g n) c ctl s
      (AddsWord g (fun k => BitVec.ofNat 32 (k.rp n)) fun _ => false) ∧
    SlotRuns (.corePmov c ctl false g n) c ctl s (AddsWrites fun k => [.p n (k.rg g)]) ∧
    (-1024 ≤ imm → imm ≤ 1023 → SlotRuns (.corePadd c ctl n imm) c ctl s fun _ k _ b =>
      b.writes = k.bundle.writes ++ pointerWrites k n 8 (some imm) ∧ b.stores = k.bundle.stores) ∧
    (imm < -1024 ∨ 1023 < imm → SlotIllegal (.corePadd c ctl n imm) c ctl s)

/-- Where a core may access and how a pointer moves. An address of the core's own data memory below 0x40000 that is aligned to the access (3-byte accesses to 4) is data memory of that core; cluster memory of another core is reached only where the access may go there and the core belongs to the plot; a misaligned access is refused with ALIGN and any other address with ACCESS; a linear pointer moves by its step, and a circular one inside its buffer wraps at the buffer's ends, outside it moves as a linear one, and takes no step longer than the buffer; mode 3 is undefined. -/
def Obligations.CoreAddressingAndPointers : Prop :=
  ∀ (s : State) (k : CoreSt) (c p a n e : Nat) (size : Nat) (cluster : Bool) (step : Int),
    (a < 0x40000 → a % (if size = 3 then 4 else size) = 0 →
      ∃ x, s.access c p a size cluster = .ok x ∧ x.addr = dmBase c + a ∧ x.cluster = false ∧ x.own = c) ∧
    (a < 0x40000 → a % (if size = 3 then 4 else size) ≠ 0 → s.access c p a size cluster = .error 3) ∧
    (0x40000 ≤ a → a < 0x100000 → s.access c p a size cluster = .error 2) ∧
    (0x300000 ≤ a → s.access c p a size cluster = .error 2) ∧
    (0x100000 ≤ a → cluster = false → s.access c p a size cluster = .error 2) ∧
    (0x100000 ≤ a → a < 0x300000 → s.corePlot (c / 8 * 8 + (a - 0x100000) / 0x40000) = some p →
      a % (if size = 3 then 4 else size) = 0 → ∃ x, s.access c p a size true = .ok x ∧ x.cluster = true ∧
        x.addr = sliceBase (c / 8 * 8 + (a - 0x100000) / 0x40000) + (a - 0x100000) % 0x40000) ∧
    ((k.rc 24).toNat / 4 ^ n % 4 = 0 → k.postModify n e step = some (BitVec.ofInt 32 (k.rp n + step))) ∧
    ((k.rc 24).toNat / 4 ^ n % 4 = 1 → step.natAbs ≤ (k.rc (8 + n)).toNat → (k.rc n).toNat ≤ k.rp n →
      k.rp n < (k.rc n).toNat + (k.rc (8 + n)).toNat →
      k.postModify n e step = some (BitVec.ofInt 32
        ((k.rc n).toNat + ((k.rp n : Int) - (k.rc n).toNat + step) % (k.rc (8 + n)).toNat))) ∧
    ((k.rc 24).toNat / 4 ^ n % 4 = 1 → step.natAbs ≤ (k.rc (8 + n)).toNat →
      k.rp n < (k.rc n).toNat ∨ (k.rc n).toNat + (k.rc (8 + n)).toNat ≤ k.rp n →
      k.postModify n e step = some (BitVec.ofInt 32 (k.rp n + step))) ∧
    ((k.rc 24).toNat / 4 ^ n % 4 = 1 → (k.rc (8 + n)).toNat < step.natAbs → k.postModify n e step = none) ∧
    ((k.rc 24).toNat / 4 ^ n % 4 = 3 → k.postModify n e step = none)

/-- Control operations of a bundle. On a core with a task an unconditional BR and CALL jump, CALL with the next bundle's address in g31; a conditional BR carries its condition, its hint and its target; JR jumps to the address in a register below 8,192; LOOP opens a body with its count, or skips it at count 0; END ends the task; TRAP raises exception 9 with its code; POP takes the oldest inbox entry into a quad and sets the predicate, or clears it; DMAT marks a window of the plot's active last; MOVC moves to and from control registers and is ILLEGAL on registers that are not there or read only. BR, CALL, JR and LOOP are ILLEGAL where the loops under way forbid them, CALL, JR and LOOP with a condition, BR with a hint and none. That a MOVC write drops the bits of PMODE and STAT that are res is the model's choice (log entry 194). -/
def Obligations.CoreControlOperations : Prop :=
  ∀ (c : Fin 128) (ctl : SlotCtl) (hint fromReg fromCtl : Bool) (target : Fin 8192) (g count : Fin 32) (len n code : Fin 256)
    (q : Fin 4) (quad : Fin 8) (cr : Fin 64) (s : State),
    (∀ r, (s.core c).run = some r → ctl.hw.fetch = .clean → ctl.hw.parity = false →
      ∃ u, exec (.coreBr c ctl hint target) s = .next (if ctl.last then u.retire c r else u) ∧
        u = s.setCore c { s.found c r ctl with bundle := (u.core c).bundle } ∧
        (u.core c).bundle.writes = (s.found c r ctl).bundle.writes ∧
        (u.core c).bundle.stores = (s.found c r ctl).bundle.stores ∧
        ((s.found c r ctl).atBodyEnd = true ∨ (ctl.pred = none ∧ hint = true) →
          (u.core c).bundle.exc = if (s.found c r ctl).bundle.exc = 0 then 1 else (s.found c r ctl).bundle.exc) ∧
        ((s.found c r ctl).atBodyEnd = false → ctl.pred = none → hint = false →
          (u.core c).bundle.flow = .jump target 1) ∧
        ((s.found c r ctl).atBodyEnd = false → ∀ p, ctl.pred = some p →
          (u.core c).bundle.branch = some ((s.found c r ctl).rq p.2 != p.1, hint, target.val))) ∧
    (ctl.pred ≠ none → SlotIllegal (.coreCall c ctl target) c ctl s ∧ SlotIllegal (.coreJr c ctl g) c ctl s ∧
      SlotIllegal (.coreLoop c ctl fromReg count len) c ctl s) ∧
    (ctl.pred = none →
      SlotRuns (.coreCall c ctl target) c ctl s (fun _ k _ b =>
        (k.loops = [] → b.flow = .jump target 1 ∧
          b.writes = k.bundle.writes ++ [.g 31 (BitVec.ofNat 32 ((k.pc + 1) % 8192))]) ∧
        (k.loops ≠ [] → b.exc = if k.bundle.exc = 0 then 1 else k.bundle.exc)) ∧
      SlotRuns (.coreJr c ctl g) c ctl s (fun _ k _ b =>
        (k.loops = [] → (k.rg g).toNat < 8192 → b.flow = .jump (k.rg g).toNat 3 ∧ b.writes = k.bundle.writes) ∧
        (k.loops ≠ [] ∨ 8192 ≤ (k.rg g).toNat → b.exc = if k.bundle.exc = 0 then 1 else k.bundle.exc)) ∧
      SlotRuns (.coreLoop c ctl fromReg count len) c ctl s (fun _ k _ b =>
        (k.loops = [] → (if fromReg then (k.rg count).toNat else count.val) = 0 → b.flow = .fall (len + 1)) ∧
        (k.loops = [] → (if fromReg then (k.rg count).toNat else count.val) ≠ 0 →
          b.loop = some (if fromReg then (k.rg count).toNat else count.val, (k.pc + 1) % 8192, len.val)) ∧
        (∀ o, k.loops = [o] → o.last ≠ k.pc → k.inside ((k.pc + 1) % 8192) len = true →
          (if fromReg then (k.rg count).toNat else count.val) ≠ 0 →
          b.loop = some (if fromReg then (k.rg count).toNat else count.val, (k.pc + 1) % 8192, len.val)) ∧
        (k.atBodyEnd = true ∨ k.inside ((k.pc + 1) % 8192) len = false →
          b.exc = if k.bundle.exc = 0 then 1 else k.bundle.exc) ∧
        (2 ≤ k.loops.length → b.exc = if k.bundle.exc = 0 then 1 else k.bundle.exc))) ∧
    SlotRuns (.coreEnd c ctl) c ctl s (fun _ k _ b => b = { k.bundle with
      slots := b.slots, minIssue := b.minIssue, conds := b.conds, isEnd := true }) ∧
    SlotRuns (.coreTrap c ctl code) c ctl s (fun _ k _ b =>
      b.trap = code.val ∧ b.exc = if k.bundle.exc = 0 then 9 else k.bundle.exc) ∧
    SlotRuns (.corePop c ctl q quad) c ctl s (fun _ k _ b =>
      (k.inbox = [] → b.writes = k.bundle.writes ++ [.q q false] ∧ b.pop = k.bundle.pop) ∧
      (∀ e t, k.inbox = e :: t → b.pop = some (q.val, quad.val) ∧
        b.writes = k.bundle.writes ++ [.q q true, .g (4 * quad) (BitVec.ofNat 32 (leAt e 0 4)),
          .g (4 * quad + 1) (BitVec.ofNat 32 (leAt e 4 4)), .g (4 * quad + 2) (BitVec.ofNat 32 (leAt e 8 4)),
          .g (4 * quad + 3) (BitVec.ofNat 32 (leAt e 12 4))])) ∧
    SlotRuns (.coreDmat c ctl n) c ctl s (fun s k r b =>
      ((∃ l w, s.last r.plot = some l ∧ w ∈ l.windows ∧ w.win = n.val) → b.dmat = some n.val) ∧
      (s.last r.plot = none ∨ (∃ l, s.last r.plot = some l ∧ ∀ w ∈ l.windows, w.win ≠ n.val) →
        b.exc = if k.bundle.exc = 0 then 1 else k.bundle.exc)) ∧
    (cr.val < 29 → SlotRuns (.coreMovc c ctl true cr g) c ctl s (AddsWord g (fun k => k.rc cr) fun _ => false)) ∧
    SlotRuns (.coreMovc c ctl true 29 g) c ctl s (AddsWrites fun _ => [.gCyc g]) ∧
    SlotRuns (.coreMovc c ctl true 30 g) c ctl s (AddsWord g (fun _ => BitVec.ofNat 32 s.tick) fun _ => false) ∧
    SlotRuns (.coreMovc c ctl true 31 g) c ctl s
      (AddsWord g (fun _ => BitVec.ofNat 32 (s.tick / 4294967296)) fun _ => false) ∧
    SlotRuns (.coreMovc c ctl true 32 g) c ctl s (fun _ k r b =>
      b.writes = k.bundle.writes ++ [.g g (BitVec.ofNat 32 (r.plot * 256 + c))]) ∧
    SlotRuns (.coreMovc c ctl true 33 g) c ctl s (fun _ k r b =>
      b.writes = k.bundle.writes ++ [.g g (BitVec.ofNat 32 r.task.id)]) ∧
    (cr.val < 29 → SlotRuns (.coreMovc c ctl false cr g) c ctl s (AddsWrites fun k => [.c cr
      (if cr.val = 24 then k.rg g &&& 0xFFFF#32 else if cr.val = 28 then k.rg g &&& 0x1F#32 else k.rg g)])) ∧
    (34 ≤ cr.val → SlotIllegal (.coreMovc c ctl fromCtl cr g) c ctl s) ∧
    (29 ≤ cr.val → SlotIllegal (.coreMovc c ctl false cr g) c ctl s)

/-- Coprocessor operations. On a core with a task DIV, SQRT, LOG2, EXP2, MAG and ATAN2 hand their result to the coprocessor under the opcode of Table 4.6: DIV the Q8.24 quotient rounded and saturated, with SAT32 where it saturates (log entry 198) and DZ and its limit by the dividend's sign at a zero divisor; SQRT of a negative operand 0 with INV; LOG2 and EXP2 their limits at the ends of their range; MAG the rounded root; ATAN2 of 0 and 0 zero with INV. Inside the range LOG2, EXP2 and ATAN2 are functions of their operands within the bound of Table 3.7 (log entry 4). COPROC_RESULT_WRITE writes what is due first and frees it once no bundle still to issue can write before it, and does nothing before. -/
def Obligations.CoprocessorOperations : Prop :=
  ∀ (c : Fin 128) (ctl : SlotCtl) (rd rs rt : Fin 32) (s : State),
    SlotRuns (.coreDiv c ctl rd rs rt) c ctl s (AddsCop 9 rd
      (fun k => if k.ri rt = 0 then (if 0 < k.ri rs then 0x7FFFFFFF#32 else if k.ri rs < 0 then 0x80000000#32 else 0#32)
        else sat32 ((2 * (k.ri rs * 2 ^ 24) * (k.ri rt).sign + |k.ri rt|) / (2 * |k.ri rt|)))
      fun k => if k.ri rt = 0 then 4 else if
        over32 ((2 * (k.ri rs * 2 ^ 24) * (k.ri rt).sign + |k.ri rt|) / (2 * |k.ri rt|)) then 1 else 0) ∧
    SlotRuns (.coreSqrt c ctl rd rs) c ctl s (AddsCop 10 rd
      (fun k => if k.ri rs < 0 then 0#32 else BitVec.ofInt 32 (isqrtRound ((k.ri rs).toNat * 2 ^ 31)))
      fun k => if k.ri rs < 0 then 8 else 0) ∧
    SlotRuns (.coreLog2 c ctl rd rs) c ctl s (AddsCop 11 rd
      (fun k => if k.ri rs ≤ 0 then 0x80000000#32 else BitVec.ofInt 32 (log2Result (k.ri rs)))
      fun k => if k.ri rs ≤ 0 then 8 else 0) ∧
    SlotRuns (.coreExp2 c ctl rd rs) c ctl s (AddsCop 12 rd
      (fun k => if 0 ≤ k.ri rs then 0x7FFFFFFF#32 else BitVec.ofInt 32 (exp2Result (k.ri rs))) fun _ => 0) ∧
    SlotRuns (.coreMag c ctl rd rs rt) c ctl s (AddsCop 13 rd
      (fun k => BitVec.ofNat 32 ((Nat.sqrt (k.ri rs * k.ri rs + k.ri rt * k.ri rt).toNat + 1) / 2)) fun _ => 0) ∧
    SlotRuns (.coreAtan2 c ctl rd rs rt) c ctl s (AddsCop 14 rd
      (fun k => if k.ri rs = 0 ∧ k.ri rt = 0 then 0#32 else if k.ri rs = 0 ∧ k.ri rt < 0 then 0x7FFFFFFF#32
        else BitVec.ofInt 32 (atan2Result (k.ri rs) (k.ri rt)))
      fun k => if k.ri rs = 0 ∧ k.ri rt = 0 then 8 else 0) ∧
    (∀ e ∈ (s.core c).cop, (∀ d ∈ (s.core c).cop, e.due ≤ d.due) → e.due ≤ (s.core c).next + 4 ∨ e.due ≤ s.cycle →
      Runs (.coprocResultWrite c) s fun t =>
        (t.core c).cop = (s.core c).cop.filter (fun d => decide (e.due < d.due)) ∧
        ((∀ d ∈ (s.core c).cop, d.due = e.due → d.dest = e.dest → d = e) →
          NTable.get 0 (t.core c).g e.dest = e.value) ∧
        SameMem s t ∧ (∀ d, d ≠ c.val → t.core d = s.core d) ∧ SameRegs s t []) ∧
    ((∀ e ∈ (s.core c).cop, (s.core c).next + 4 < e.due ∧ s.cycle < e.due) →
      exec (.coprocResultWrite c) s = .next s)

/-- How a bundle retires. Where it issues so that it retires before DEADLINE and has no exception, names no register twice, carries one condition at most and no END: each g result is in its register, a load the bytes that its core's memory holds for its cycle, a search the better element with its index; each store is in memory and nothing else of memory changes; the bundle is empty, the issue is counted, and without a branch or an open loop the next bundle is the one after it. Where an exception stands it is counted, recorded with code, task and bundle address, and the core runs nothing; so where a register is named twice or conditions differ, with ILLEGAL; with END the task is done and the core runs nothing; a bundle that would retire at or after DEADLINE does not, and holds back every younger one. Every slot command is its operation's slot; a fetch that is uncorrectable raises 4 and a parity failure 8 in any slot, without a result. -/
def Obligations.CoreBundleRetires : Prop :=
  (∀ (s : State) (c : Nat) (r : RunTask) (k : CoreSt), k = s.core c →
    (r.task.deadline ≤ k.issueCycle c + 4 →
      s.retire c r = s.setCore c { k with bundle := {}, next := max k.next (k.issueCycle c) }) ∧
    (k.issueCycle c + 4 < r.task.deadline → k.bundle.exc ≠ 0 →
      (s.retire c r).reg (Reg.coreExcLast c) = k.bundle.exc * 16777216 + r.task.id ∧
      (s.retire c r).reg (Reg.coreExcPc c) = k.pc ∧ ((s.retire c r).core c).run = none ∧
      SameMem s (s.retire c r)) ∧
    (k.issueCycle c + 4 < r.task.deadline → k.bundle.exc = 0 → hasDup k.bundle.dests = true ∨ k.bundle.clash = true →
      (s.retire c r).reg (Reg.coreExcLast c) = 1 * 16777216 + r.task.id ∧
      ((s.retire c r).core c).run = none ∧ SameMem s (s.retire c r)) ∧
    (k.issueCycle c + 4 < r.task.deadline → k.bundle.exc = 0 → hasDup k.bundle.dests = false → k.bundle.clash = false →
      (∀ a, (∀ e ∈ k.bundle.stores, a < e.2.1 ∨ e.2.1 + e.2.2.length ≤ a) → (s.retire c r).byte a = s.byte a) ∧
      (∀ own a b, k.bundle.stores = [(own, a, b)] → (s.core own).dma = [] → (s.retire c r).bytes a b.length = b) ∧
      (k.bundle.isEnd = true → ((s.retire c r).core c).run = none ∧
        ((s.retire c r).task r.plot r.task.id).done = true) ∧
      (k.bundle.isEnd = false →
        ((k.bundle.writes.flatMap RegWrite.gs).Nodup →
          (∀ (g : Nat) (v : Word), RegWrite.g g v ∈ k.bundle.writes → NTable.get 0 ((s.retire c r).core c).g g = v) ∧
          (∀ g own a n sh, RegWrite.load g own a n sh ∈ k.bundle.writes →
            NTable.get 0 ((s.retire c r).core c).g g =
              BitVec.ofNat 32 (leAt (s.coreBytes own (k.issueCycle c + 1) a n) 0 n * 2 ^ sh)) ∧
          (∀ f best idx own a single i b0 i0, RegWrite.find f best idx own a single i b0 i0 ∈ k.bundle.writes →
            ∃ x y : Word × Word,
              x = searchPick (betterThan f (s.coreWord own (k.issueCycle c + 1) a).toInt b0.toInt)
                (s.coreWord own (k.issueCycle c + 1) a) i b0 i0 ∧
              y = searchPick (betterThan f (s.coreWord own (k.issueCycle c + 1) (a + 4)).toInt x.1.toInt)
                (s.coreWord own (k.issueCycle c + 1) (a + 4)) (i + 1) x.1 x.2 ∧
              NTable.get 0 ((s.retire c r).core c).g best = (if single then x.1 else y.1) ∧
              NTable.get 0 ((s.retire c r).core c).g idx = (if single then x.2 else y.2))) ∧
        ((s.retire c r).core c).bundle = {} ∧ ((s.retire c r).core c).issued = k.issued + 1 ∧
        ((s.retire c r).core c).run = k.run ∧
        (k.bundle.branch = none → k.bundle.flow = .seq → k.loops = [] → k.bundle.loop = none →
          ((s.retire c r).core c).pc = (k.pc + 1) % 8192)))) ∧
  (∀ (s : State) (own u a n : Nat), (s.core own).dma = [] → s.coreBytes own u a n = s.bytes a n) ∧
  (∀ (i : Instr) (c : Fin 128) (ctl : SlotCtl) (op : Op) (s : State), coreOp i = some (c, ctl, op) →
    exec i s = .next (s.slot c ctl op) ∧ ((s.core c).run = none → exec i s = .next s) ∧
    (∀ r, (s.core c).run = some r → ctl.hw.fetch = .uncorrectable ∨ (ctl.hw.fetch = .clean ∧ ctl.hw.parity = true) →
      ∃ u, exec i s = .next (if ctl.last then u.retire c r else u) ∧
        u = s.setCore c { s.found c r ctl with bundle := (u.core c).bundle } ∧
        (u.core c).bundle.writes = (s.found c r ctl).bundle.writes ∧
        (u.core c).bundle.exc = (if (s.found c r ctl).bundle.exc = 0 then
          (if ctl.hw.fetch = .uncorrectable then 4 else 8) else (s.found c r ctl).bundle.exc)))

/-- Tasks and engine work on the cores. TASK_START of a task of the active last that has not started, on an idle core, sets the core running it from its entry with every register 0, and marks it started; where its DIR 0 window failed it counts the overrun and runs nothing. TASK_DEADLINE_STOP of a running task stops it, records exception 10 and counts it and the overrun; on an idle core it does nothing. CORE_SCRUB advances each core's scrub position by 1,024 words, counts a pass at its end, and counts the corrected and the uncorrectable words reported among those it reads; no byte outside an uncorrectable word changes. MSG_POST takes 16 bytes for a core of the plot, due at the first boundary at least two ticks on, and answers RANGE or TYPE codes else. MSG_ENTER_INBOX moves the first due message into an inbox with room, or drops and counts it. -/
def Obligations.CoreTasksScrubAndMessages : Prop :=
  ∀ (p : Fin 16) (c : Fin 128) (task : Nat) (t : Task) (msg : List Byte) (s : State),
    (s.findTask p task = some t → (s.task p task).started = false →
      t.kind ≠ 2 ∨ s.reg (Reg.lastActiveSince p) = s.tick → (s.core t.core).run = none →
      ((s.task p task).failStart = false → Runs (.taskStart p task) s fun u =>
        (u.core t.core).run = some ⟨t, p⟩ ∧ (u.core t.core).pc = t.entry ∧ (∀ g, (u.core t.core).rg g = 0) ∧
        (u.task p task).started = true ∧ SameMem s u ∧ SameRegs s u []) ∧
      ((s.task p task).failStart = true → Runs (.taskStart p task) s fun u =>
        (u.core t.core).run = none ∧ (u.task p task).started = true ∧
        u.reg (Reg.ovrCount p) = (s.reg (Reg.ovrCount p) + 1) % 4294967296 ∧ SameMem s u)) ∧
    (s.findTask p task = none ∨ (s.task p task).started = true → exec (.taskStart p task) s = .next s) ∧
    (∀ r, (s.core c).run = some r → Runs (.taskDeadlineStop c) s fun u =>
      (u.core c).run = none ∧ u.reg (Reg.coreExcLast c) = 10 * 16777216 + r.task.id ∧
      u.reg (Reg.coreExcCount c) = (s.reg (Reg.coreExcCount c) + 1) % 4294967296 ∧
      u.reg (Reg.ovrCount r.plot) = (s.reg (Reg.ovrCount r.plot) + 1) % 4294967296 ∧
      (u.task r.plot r.task.id).done = false ∧ (∀ d, d ≠ c.val → u.core d = s.core d) ∧ SameMem s u) ∧
    ((s.core c).run = none → exec (.taskDeadlineStop c) s = .next s) ∧
    (∀ corrected uncorrectable : List (Fin 128 × Nat), Runs (.coreScrub corrected uncorrectable) s fun u =>
      (∀ d : Fin 128, (u.core d).scrub = ((s.core d).scrub + 1024) % 73728 ∧
        u.reg (Reg.coreScrubPass d) = (if (s.core d).scrub + 1024 ≥ 73728 then
          (s.reg (Reg.coreScrubPass d) + 1) % 4294967296 else s.reg (Reg.coreScrubPass d)) ∧
        (∃ n, n = (corrected.filter fun e => s.scrubReads e && decide (e.1 = d)).length ∧ u.reg (Reg.coreCecc d) =
          if n = 0 then s.reg (Reg.coreCecc d) else (s.reg (Reg.coreCecc d) + n) % 4294967296) ∧
        (∃ n, n = (uncorrectable.filter fun e => s.scrubReads e && decide (e.1 = d)).length ∧ u.reg (Reg.coreUecc d) =
          if n = 0 then s.reg (Reg.coreUecc d) else (s.reg (Reg.coreUecc d) + n) % 4294967296)) ∧
      ∀ a, (∀ e ∈ uncorrectable, a < nearAddr e.1 (scrubLocal e.1 e.2) ∨ nearAddr e.1 (scrubLocal e.1 e.2) + 8 ≤ a) →
        u.byte a = s.byte a) ∧
    (s.corePlot c = some p.val → msg.length = 16 → Runs (.msgPost p c msg) s fun u =>
      (u.core c).posted = (s.core c).posted ++ [⟨s.actTick, msg⟩] ∧ u.answer.status = 0 ∧
      (∀ d, d ≠ c.val → u.core d = s.core d) ∧ SameMem s u ∧ SameRegs s u []) ∧
    (s.corePlot c ≠ some p.val → Answers (.msgPost p c msg) s 0x11) ∧
    (s.corePlot c = some p.val → msg.length ≠ 16 → Answers (.msgPost p c msg) s 0x12) ∧
    (∀ m, ((s.core c).posted.find? fun m => decide (m.due ≤ s.tick)) = some m →
      ((s.core c).inbox.length < 64 → Runs (.msgEnterInbox c) s fun u =>
        (u.core c).inbox = (s.core c).inbox ++ [m.bytes] ∧ (u.core c).posted = (s.core c).posted.erase m ∧
        SameMem s u ∧ SameRegs s u []) ∧
      (64 ≤ (s.core c).inbox.length → Runs (.msgEnterInbox c) s fun u =>
        (u.core c).inbox = (s.core c).inbox ∧ (u.core c).posted = (s.core c).posted.erase m ∧
        u.reg (Reg.msgDropped c) = (s.reg (Reg.msgDropped c) + 1) % 4294967296 ∧ SameMem s u)) ∧
    ((∀ m ∈ (s.core c).posted, s.tick < m.due) → exec (.msgEnterInbox c) s = .next s)

/-- Filter chain unit commands. BANK_WRITE by the group's plot puts the words, wrapped to 32 bits, into the inactive bank and leaves the active bank and every other group's state alone; SWAP_AT names the sample, or with 0 the earliest, status 1 and group state 2, or answers BUSY, LATE or RANGE codes in the status; FCU_SWAP_BEGIN at the named block starts the change at the named sample, and at a later one at its first; FCU_FADE_END exchanges the banks, with the status 0 and the sample recorded; FCU_UECC counts the error, sets the plot's fault bit 2 and marks the group; FCU_SCRUB advances by 512 words, and each group that uses a word it finds uncorrectable has its error in the next tick. -/
def Obligations.FilterChainUnitCommands : Prop :=
  ∀ (p : Fin 16) (u : Fin 64) (g : Fin 16) (r : FcuGroup) (s : State), (s.grp (grpKey u g)).rec_ = some r →
    (∀ (offset : Nat) (words : List Int), (s.grp (grpKey u g)).plot = p.val → words ≠ [] → words.length ≤ 4096 →
      (s.grp (grpKey u g)).bank ≤ 1 → offset + words.length ≤ 16384 →
      (s.grp (grpKey u g)).swapAt = none → (s.grp (grpKey u g)).switchAt = none → (s.grp (grpKey u g)).fading = false →
      (∀ i, i < words.length → r.stages.any (fun st => st.usesCoef (offset + i)) = true) →
      Runs (.bankWrite p u g offset words) s fun t =>
        (∀ i, i < words.length →
          t.fcuWord u (1 - (s.grp (grpKey u g)).bank) (offset + i) = wrapS 32 (words.getD i 0)) ∧
        (∀ w, w < 16384 → t.fcuWord u (s.grp (grpKey u g)).bank w = s.fcuWord u (s.grp (grpKey u g)).bank w) ∧
        t.groups = s.groups ∧ t.reg (Reg.swapStatus (grpKey u g)) = 0 ∧ t.answer.status = 0 ∧
        SameRegs s t [Reg.swapStatus (grpKey u g)] ∧ SameMem s t) ∧
    ((s.grp (grpKey u g)).plot ≠ p.val → (∀ offset words, Answers (.bankWrite p u g offset words) s 0x11) ∧
      ∀ sample, Answers (.swapAt p u g sample) s 0x11) ∧
    (∀ (offset : Nat) (words : List Int), (s.grp (grpKey u g)).plot = p.val → words ≠ [] → words.length ≤ 4096 →
      (s.grp (grpKey u g)).swapAt ≠ none ∨ (s.grp (grpKey u g)).switchAt ≠ none ∨ (s.grp (grpKey u g)).fading = true →
      Runs (.bankWrite p u g offset words) s fun t => t.reg (Reg.swapStatus (grpKey u g)) = 0x10 ∧
        t.fcuCoef = s.fcuCoef ∧ t.groups = s.groups ∧ SameRegs s t [Reg.swapStatus (grpKey u g)] ∧ SameMem s t) ∧
    (∀ sample, 0 < sample → (s.grp (grpKey u g)).plot = p.val →
      (s.grp (grpKey u g)).swapAt = none → (s.grp (grpKey u g)).switchAt = none → (s.grp (grpKey u g)).fading = false →
      s.actTick ≤ sample / (6 * r.inMult) + 1 → sample / (6 * r.inMult) ≤ s.tick + 16777216 →
      Runs (.swapAt p u g sample) s fun t =>
        t.grp (grpKey u g) = { s.grp (grpKey u g) with swapAt := some sample } ∧
        t.reg (Reg.swapStatus (grpKey u g)) = 1 ∧ t.reg (Reg.grpState (grpKey u g)) = 2 ∧
        SameRegs s t [Reg.swapStatus (grpKey u g), Reg.grpState (grpKey u g)] ∧ SameMem s t ∧
        (∀ k, k ≠ grpKey u g → t.grp k = s.grp k)) ∧
    (0 < r.inMult → 0 < s.actTick → s.actTick ≤ s.tick + 16777216 → (s.grp (grpKey u g)).plot = p.val →
      (s.grp (grpKey u g)).swapAt = none → (s.grp (grpKey u g)).switchAt = none → (s.grp (grpKey u g)).fading = false →
      Runs (.swapAt p u g 0) s fun t =>
        t.grp (grpKey u g) = { s.grp (grpKey u g) with swapAt := some ((s.actTick - 1) * (6 * r.inMult)) } ∧
        t.reg (Reg.swapStatus (grpKey u g)) = 1 ∧ SameMem s t) ∧
    (∀ sample, 0 < sample → (s.grp (grpKey u g)).plot = p.val →
      (s.grp (grpKey u g)).swapAt = none → (s.grp (grpKey u g)).switchAt = none → (s.grp (grpKey u g)).fading = false →
      (sample / (6 * r.inMult) + 1 < s.actTick → Runs (.swapAt p u g sample) s fun t =>
        t.reg (Reg.swapStatus (grpKey u g)) = 0x11 ∧ t.groups = s.groups) ∧
      (s.actTick ≤ sample / (6 * r.inMult) + 1 → s.tick + 16777216 < sample / (6 * r.inMult) →
        Runs (.swapAt p u g sample) s fun t =>
          t.reg (Reg.swapStatus (grpKey u g)) = 0x12 ∧ t.groups = s.groups)) ∧
    (∀ sample, (s.grp (grpKey u g)).plot = p.val → (s.grp (grpKey u g)).fading = true →
      Runs (.swapAt p u g sample) s fun t => t.reg (Reg.swapStatus (grpKey u g)) = 0x10 ∧ t.groups = s.groups) ∧
    (∀ sm, (s.grp (grpKey u g)).swapAt = some sm → (s.grp (grpKey u g)).ran = false →
      sm / (6 * r.inMult) + 1 ≤ s.tick → Runs (.fcuSwapBegin u g) s fun t =>
        t.grp (grpKey u g) = { s.grp (grpKey u g) with
          swapAt := none
          switchAt := some (if sm / (6 * r.inMult) + 1 = s.tick then sm % (6 * r.inMult) else 0)
          named := sm, pos := 0 } ∧
        (r.xf = true → t.reg (Reg.swapStatus (grpKey u g)) = 2 ∧ t.reg (Reg.grpState (grpKey u g)) = 3) ∧
        (r.xf = false → SameRegs s t []) ∧
        (∀ k, k ≠ grpKey u g → t.grp k = s.grp k) ∧ SameMem s t) ∧
    ((s.grp (grpKey u g)).ran = true ∨ (s.grp (grpKey u g)).swapAt = none → exec (.fcuSwapBegin u g) s = .next s) ∧
    ((s.grp (grpKey u g)).fadeDone = false → exec (.fcuFadeEnd u g) s = .next s) ∧
    ((s.grp (grpKey u g)).fadeDone = true → Runs (.fcuFadeEnd u g) s fun t =>
      (t.grp (grpKey u g)).bank = 1 - (s.grp (grpKey u g)).bank ∧ (t.grp (grpKey u g)).fading = false ∧
      t.reg (Reg.grpState (grpKey u g)) = 1 ∧ t.reg (Reg.swapStatus (grpKey u g)) = 0 ∧
      t.reg (Reg.swapDoneSample (grpKey u g)) = (s.grp (grpKey u g)).named ∧
      (∀ k, k ≠ grpKey u g → t.grp k = s.grp k) ∧ SameMem s t) ∧
    (∀ addr, (s.grp (grpKey u g)).ran = false → Runs (.fcuUecc u g addr) s fun t =>
      t.reg (Reg.grpUecc (grpKey u g)) = (s.reg (Reg.grpUecc (grpKey u g)) + 1) % 4294967296 ∧
      bit (t.reg (Reg.plotFault (s.grp (grpKey u g)).plot)) 2 = true ∧ (t.grp (grpKey u g)).error = true ∧
      SameMem s t) ∧
    (∀ addr, (s.grp (grpKey u g)).ran = true → Runs (.fcuUecc u g addr) s fun t =>
      t.reg (Reg.grpUecc (grpKey u g)) = (s.reg (Reg.grpUecc (grpKey u g)) + 1) % 4294967296 ∧
      bit (t.reg (Reg.plotFault (s.grp (grpKey u g)).plot)) 2 = true ∧ (t.grp (grpKey u g)).rampUp = true ∧
      SameMem s t) ∧
    (∀ bad : List (Fin 64 × Nat), Runs (.fcuScrub bad) s fun t =>
      t.fcuScrub = (s.fcuScrub + 512) % 24576 ∧ t.fcuCoef = s.fcuCoef ∧ SameMem s t ∧
      ((∀ e ∈ bad, e.2 < s.fcuScrub ∨ s.fcuScrub + 512 ≤ e.2) →
        t.groups = s.groups ∧ t.fcuState = s.fcuState ∧ SameRegs s t []) ∧
      (∀ e ∈ bad, s.fcuScrub ≤ e.2 → e.2 < s.fcuScrub + 512 → ∀ (h : Fin 16) (q : FcuGroup),
        (s.grp (grpKey e.1 h)).rec_ = some q → q.usesWord (e.2 * 2) = true → (t.grp (grpKey e.1 h)).errorNext = true))

/-- Array renderer coefficient commands. For a crosspoint of the plot with an inactive region: ARE_COEF_WRITE that fits its taps queues the coefficients for that region behind those accepted before; ARE_COEF_EXP sets the inactive region's exponent where the bound of its output holds; both answer BUSY in the status while the set is not RUNNING. ARE_COEF_STORE_WRITE moves up to 4,096 coefficients accepted in earlier ticks into the store, once a tick. ARE_IMG_STORE stages an image and ARE_IMG_LOAD checks it: an image that cannot be parsed answers 0x14 and one that breaks a bound 0x12, and one that passes is loading with status 3, or 4 where it is empty. -/
def Obligations.RendererCoefficientCommands : Prop :=
  ∀ (p : Fin 16) (xp : Fin 32768) (r : AreXp) (off : Nat) (s : State),
    s.ownXp p xp = some r → r.off (1 - (s.areXp xp).bank) = some off →
    (∀ (offset : Nat) (coefs : List Int), coefs ≠ [] → coefs.length ≤ 65536 → offset + coefs.length ≤ r.taps →
      (s.areSet p r.set).state = 0 → Runs (.areCoefWrite p xp offset coefs) s fun t =>
        (t.plot p).areFifo.length = (s.plot p).areFifo.length + coefs.length ∧
        (t.plot p).areFifo.take (s.plot p).areFifo.length = (s.plot p).areFifo ∧
        (∀ i, i < coefs.length → ((t.plot p).areFifo.drop (s.plot p).areFifo.length)[i]? =
          some { bank := 1 - (s.areXp xp).bank, addr := off + offset + i, value := wrapS 24 (coefs.getD i 0),
                 set := r.set, tick := s.tick, load := false }) ∧
        t.answer.status = 0 ∧ SameRegs s t [] ∧ SameMem s t ∧ t.areCoef = s.areCoef) ∧
    (∀ (offset : Nat) (coefs : List Int), coefs ≠ [] → coefs.length ≤ 65536 → offset + coefs.length ≤ r.taps →
      (s.areSet p r.set).state ≠ 0 → Runs (.areCoefWrite p xp offset coefs) s fun t =>
        t.reg (Reg.areSwapStatus p) = 0x10 ∧ t.plots = s.plots) ∧
    (∀ e, e ≤ 54 → (s.areSet p r.set).state = 0 →
      (s.modXp xp fun x => x.setExp (1 - x.bank) e).boundOk p r.output = true → Runs (.areCoefExp p xp e) s fun t =>
        (t.areXp xp).exp (1 - (s.areXp xp).bank) = e ∧
        ((s.areXp xp).bank ≤ 1 → (t.areXp xp).exp (s.areXp xp).bank = (s.areXp xp).exp (s.areXp xp).bank) ∧
        (∀ k, k ≠ xp.val → t.areXp k = s.areXp k) ∧ t.answer.status = 0 ∧ SameRegs s t [] ∧ SameMem s t) ∧
    (∀ ready : List CoefWrite, ready = ((s.plot p).areFifo.takeWhile fun w => decide (w.tick < s.tick)).take 4096 →
      (s.plot p).areWrote = false → Runs (.areCoefStoreWrite p) s fun t =>
        (t.plot p).areFifo = (s.plot p).areFifo.drop ready.length ∧ (t.plot p).areWrote = true ∧
        (∀ (i : Nat) (w : CoefWrite), ready[i]? = some w → (∀ (j : Nat) (v : CoefWrite), i < j → ready[j]? = some v →
            v.bank * 16777216 + v.addr ≠ w.bank * 16777216 + w.addr) →
          NTable.get 0 t.areCoef (w.bank * 16777216 + w.addr) = w.value) ∧
        (∀ a, (∀ w ∈ ready, w.bank * 16777216 + w.addr ≠ a) → NTable.get 0 t.areCoef a = NTable.get 0 s.areCoef a) ∧
        SameMem s t) ∧
    ((s.plot p).areWrote = true → exec (.areCoefStoreWrite p) s = .next s) ∧
    (∀ image : List Byte, Runs (.areImgStore p image) s fun t =>
      (t.plot p).areImage = some image ∧ (∀ q, q ≠ p.val → t.plot q = s.plot q) ∧ t.answer.status = 0 ∧
        SameRegs s t [] ∧ SameMem s t) ∧
    ((s.plot p).areImage = none → Runs (.areImgLoad p) s fun t =>
      t.reg (Reg.areImgStatus p) = 0x14 ∧ t.plots = s.plots) ∧
    (∀ (b : List Byte) (rec_ : ImgRec), (s.plot p).areImage = some b →
      parseImage (b.length + 1) b = some [rec_] → rec_.xp = xp.val → rec_.exp = 0xFF →
      rec_.tap + rec_.coefs.length ≤ r.taps → s.boundOk p r.output = true → (s.areSet p r.set).state = 0 →
      Runs (.areImgLoad p) s fun t =>
        t.reg (Reg.areImgStatus p) = 3 ∧ (t.plot p).loading = true ∧
        (t.plot p).areFifo.length = (s.plot p).areFifo.length + rec_.coefs.length ∧
        SameRegs s t [Reg.areImgStatus p] ∧ SameMem s t) ∧
    (∀ (b : List Byte) (l : List ImgRec), (s.plot p).areImage = some b → parseImage (b.length + 1) b = some l →
      (s.loadExps p l = none → Runs (.areImgLoad p) s fun t => t.reg (Reg.areImgStatus p) = 0x12 ∧ t.plots = s.plots ∧
        t.areXps = s.areXps ∧ SameMem s t) ∧
      (∀ s1, s.loadExps p l = some s1 →
        (∀ e ∈ l, ∀ x, s.ownXp p e.xp = some x → (s.areSet p x.set).state = 0) → Runs (.areImgLoad p) s fun t =>
          t.reg (Reg.areImgStatus p) = (if l = [] then 4 else 3) ∧ (t.plot p).loading = true ∧
          t.areXps = s1.areXps ∧ SameRegs s t [Reg.areImgStatus p] ∧ SameMem s t))

/-- Array renderer swaps and errors. ARE_SWAP_AT over sets that are RUNNING makes each PENDING at its block, which 0 leaves to the earliest, with status 1, or answers BUSY where a set is not; ARE_SWAP_BEGIN in the tick of its block exchanges the banks of crosspoints without a fade and starts the others' fades; ARE_FADE_END after the last fade block exchanges the bank; ARE_UECC counts an error of the crosspoint, zeroes it for the block and sets the plot's fault bit 3; ARE_HISTORY_UECC zeroes the history word and counts it at its input; ARE_SCRUB advances by 1,024 lines and 2,048 words, adds the corrected errors to their counter, marks every crosspoint that reads an uncorrectable line for the next block and zeroes an uncorrectable history word. -/
def Obligations.RendererSwapsAndErrors : Prop :=
  ∀ (p : Fin 16) (xp : Fin 32768) (set : Fin 8) (s : State),
    (∀ b blk least : Nat, s.nat (Reg.areSwapSets p) % 256 ≠ 0 →
      (∀ i < 8, bit (s.nat (Reg.areSwapSets p) % 256 : Nat) i = true →
        ∀ r ∈ s.xpsOf p i, r.off (1 - (s.areXp r.xp).bank) ≠ none) →
      ((∀ i < 8, bit (s.nat (Reg.areSwapSets p) % 256 : Nat) i = true → (s.areSet p i).state = 0) →
        least = (match s.lastCoefTick p (s.nat (Reg.areSwapSets p) % 256) with
          | some t => max (s.actTick - 1) (t + 1) | none => s.actTick - 1) →
        blk = (if b = 0 then least else b) → least ≤ blk → blk ≤ s.tick + 16777216 →
        Runs (.areSwapAt p b) s fun t => t.reg (Reg.areSwapStatus p) = 1 ∧
          (∀ i < 8, t.areSet p i = if bit (s.nat (Reg.areSwapSets p) % 256 : Nat) i then ⟨1, blk⟩ else s.areSet p i) ∧
          SameRegs s t [Reg.areSwapStatus p] ∧ SameMem s t) ∧
      (∀ i < 8, bit (s.nat (Reg.areSwapSets p) % 256 : Nat) i = true → (s.areSet p i).state ≠ 0 →
        Runs (.areSwapAt p b) s fun t => t.reg (Reg.areSwapStatus p) = 0x10 ∧ t.areSets = s.areSets)) ∧
    (((s.xpsOf p set).map (·.xp)).Nodup → (s.areSet p set).state = 1 → (s.areSet p set).block + 1 ≤ s.tick →
      Runs (.areSwapBegin p set) s fun t =>
        (∀ r ∈ s.xpsOf p set,
          (r.xf = true → (t.areXp r.xp).fadePos = some 0 ∧ (t.areXp r.xp).bank = (s.areXp r.xp).bank ∧
            (t.areSet p set).state = 2) ∧
          (r.xf = false → (t.areXp r.xp).bank = 1 - (s.areXp r.xp).bank)) ∧
        (∀ k, k ∉ (s.xpsOf p set).map (·.xp) → t.areXp k = s.areXp k) ∧ SameMem s t) ∧
    ((s.areSet p set).state ≠ 1 ∨ s.tick < (s.areSet p set).block + 1 → exec (.areSwapBegin p set) s = .next s) ∧
    (∀ (r : AreXp) (n : Nat), (s.areXp xp).rec_ = some r → (s.areXp xp).fadePos = some n → r.xfTicks ≤ n →
      Runs (.areFadeEnd xp) s fun t => (t.areXp xp).fadePos = none ∧ (t.areXp xp).bank = 1 - (s.areXp xp).bank ∧
        (∀ k, k ≠ xp.val → t.areXp k = s.areXp k) ∧ SameMem s t) ∧
    ((s.areXp xp).rec_ = none ∨ (s.areXp xp).fadePos = none → exec (.areFadeEnd xp) s = .next s) ∧
    (∀ (r : AreXp) (residue : Option (Fin 16)), (s.areXp xp).rec_ = some r → Runs (.areUecc xp residue) s fun t =>
      t.reg (Reg.areXpUecc xp) = (s.reg (Reg.areXpUecc xp) + 1) % 4294967296 ∧ (t.areXp xp).error = true ∧
      bit (t.reg (Reg.plotFault (s.areXp xp).plot)) 3 = true ∧ SameMem s t) ∧
    (∀ (addr : Fin 4194304) (q : Nat) (l : Last) (i : AreIn), s.inputAt addr = some (q, l, i) →
      (∀ p' l' j, s.inputAt (2 * (addr.val / 2)) = some (p', l', j) → j.input = i.input → p' = q) →
      Runs (.areHistoryUecc addr) s fun t => NTable.get 0 t.hist (2 * (addr.val / 2)) = 0 ∧
        NTable.get 0 t.hist (2 * (addr.val / 2) + 1) = 0 ∧
        t.reg (Reg.areInUecc i.input) = (s.reg (Reg.areInUecc i.input) + 1) % 4294967296 ∧
        bit (t.reg (Reg.plotFault q)) 4 = true ∧ SameMem s t) ∧
    (∀ addr : Fin 4194304, s.inputAt addr = none → exec (.areHistoryUecc addr) s = .next s) ∧
    (∀ (n : Nat) (coef : List (Fin 2 × Nat)) (hist : List Nat), Runs (.areScrub n coef hist) s fun t =>
      t.areLine = (s.areLine + 1024) % 2097152 ∧ t.histWord = (s.histWord + 2048) % 2097152 ∧
      t.reg Reg.areCecc = (s.reg Reg.areCecc + n) % 4294967296 ∧ SameMem s t ∧
      ((∀ e ∈ coef, e.2 < s.areLine ∨ s.areLine + 1024 ≤ e.2) → (∀ w ∈ hist, w < s.histWord ∨ s.histWord + 2048 ≤ w) →
        SameRegs s t [Reg.areCecc] ∧ t.areXps = s.areXps ∧ t.hist = s.hist) ∧
      (∀ e ∈ coef, s.areLine ≤ e.2 → e.2 < s.areLine + 1024 → ∀ (q : Fin 16) (l : Last) (r : AreXp) (o : Nat),
        s.last q = some l → r ∈ l.areXps → s.readsBank r e.1 = true → r.off e.1 = some o → o < e.2 * 8 + 8 →
        e.2 * 8 < o + r.taps → (t.areXp r.xp).errorNext = true) ∧
      (∀ w ∈ hist, s.histWord ≤ w → w < s.histWord + 2048 →
        NTable.get 0 t.hist (2 * w) = 0 ∧ NTable.get 0 t.hist (2 * w + 1) = 0))

/-- Gain, mute, law and generator writes wait for their boundary. By the plot that holds the unit and within range, each write of a bus or a crosspoint joins the due writes for the boundary that the pair rule gives and changes no register; by another plot it is answered 0x11 and out of range 0x13. MIX_WRITE_APPLY takes what is due: one due write of a gain, law or generator parameter, or a mute that changes, stands in its register, of two of one gain the later; clearing a mute that is not set changes no register, nor does an action on a unit that the last no longer holds; what is not due stays, and with nothing due the state is as it was. -/
def Obligations.MixWritesWaitForTheirBoundary : Prop :=
  ∀ (p : Fin 16) (b : Fin 2048) (x : Fin 65536) (gain : Int) (mute : Bool) (law : Nat) (s : State),
    (s.holds p 11 noUnit b = true →
      (-2147483648 ≤ gain → gain < 2147483648 → Runs (.busGain p b gain) s fun t =>
        t.due = s.due ++ [⟨s.actTick, Reg.busGain b, gain⟩] ∧ t.answer.status = 0 ∧ SameRegs s t [] ∧
          t.buses = s.buses ∧ SameMem s t) ∧
      (gain < -2147483648 ∨ 2147483648 ≤ gain → Answers (.busGain p b gain) s 0x13) ∧
      Runs (.busMute p b mute) s (fun t =>
        t.due = s.due ++ [⟨s.actTick, Reg.busMute b, if mute then 1 else 0⟩] ∧ t.answer.status = 0 ∧ SameRegs s t [] ∧
          t.buses = s.buses ∧ SameMem s t) ∧
      (law ≤ 2 → Runs (.busAuto p b law) s fun t =>
        t.due = s.due ++ [⟨s.actTick, Reg.busAuto b, law⟩] ∧ t.answer.status = 0 ∧ SameRegs s t [] ∧
          t.buses = s.buses ∧ SameMem s t) ∧
      (2 < law → Answers (.busAuto p b law) s 0x13)) ∧
    (s.holds p 11 noUnit b = false → Answers (.busGain p b gain) s 0x11 ∧ Answers (.busMute p b mute) s 0x11 ∧
      Answers (.busAuto p b law) s 0x11) ∧
    (s.holds p 12 noUnit x = true →
      (-2147483648 ≤ gain → gain < 2147483648 → Runs (.xpGain p x gain) s fun t =>
        t.due = s.due ++ [⟨s.actTick, Reg.xpGain x, gain⟩] ∧ t.answer.status = 0 ∧ SameRegs s t [] ∧ t.xps = s.xps ∧
          SameMem s t) ∧
      (gain < -2147483648 ∨ 2147483648 ≤ gain → Answers (.xpGain p x gain) s 0x13) ∧
      Runs (.xpMute p x mute) s (fun t =>
        t.due = s.due ++ [⟨s.actTick, Reg.xpMute x, if mute then 1 else 0⟩] ∧ t.answer.status = 0 ∧ SameRegs s t [] ∧
          t.xps = s.xps ∧ SameMem s t)) ∧
    (s.holds p 12 noUnit x = false → Answers (.xpGain p x gain) s 0x11 ∧ Answers (.xpMute p x mute) s 0x11) ∧
    (∀ d : Due, s.due.filter (fun e => isMixReg e.reg && decide (e.tick ≤ s.tick)) = [d] → Runs .mixWriteApply s fun t =>
      t.due = s.due.filter (fun e => !(isMixReg e.reg && decide (e.tick ≤ s.tick))) ∧ SameMem s t ∧
      (s.inLast d.reg = true ∨ (∀ q ∈ s.timed, q.tick ≠ d.tick ∨ q.target ≠ d.reg) →
        (d.reg.sub ≠ 4 ∨ d.reg.idx = 0x5300 ∨ d.value ≠ 0 ∨ s.reg d.reg ≠ 0 →
          t.reg d.reg = d.value ∧ SameRegs s t [d.reg]) ∧
        (d.reg.sub = 4 → d.reg.idx ≠ 0x5300 → d.value = 0 → s.reg d.reg = 0 → SameRegs s t [])) ∧
      (s.inLast d.reg = false → (∃ q ∈ s.timed, q.tick = d.tick ∧ q.target = d.reg) → SameRegs s t [])) ∧
    (∀ d e : Due, s.due.filter (fun e => isMixReg e.reg && decide (e.tick ≤ s.tick)) = [d, e] → s.timed = [] →
      d.reg = e.reg → e.reg = Reg.busGain b ∨ e.reg = Reg.xpGain x → Runs .mixWriteApply s fun t =>
        t.reg e.reg = e.value ∧ SameRegs s t [e.reg] ∧ SameMem s t) ∧
    (s.due.filter (fun e => isMixReg e.reg && decide (e.tick ≤ s.tick)) = [] → exec .mixWriteApply s = .next s)

/-- Silence detectors, generators and rate trackers. SIL_SIGNAL for a detector of the plot, with a signal of the plot or none, sets signal, threshold and hold and restarts it with SILENT clear; SILENCE_HOLD_EXPIRE sets SILENT of an enabled detector once HOLD quiet blocks are counted and else changes nothing; GEN_TYPE puts the four parameters among the due writes; values out of range are answered 0x13 and what another plot holds 0x11. A tracker goes from ACQUIRE to LOCKED with its rate and ratio, from LOCKED to LOST or RESYNC with a counted event and the plot's fault bit 7, from RESYNC to ACQUIRE, and from LOST to LOCKED within 100 ppm of the held ratio or else to ACQUIRE; in any other state each of these leaves the machine as it is. -/
def Obligations.DetectorsGeneratorsAndTrackers : Prop :=
  ∀ (p : Fin 16) (s : State),
    (∀ (d : Fin 8192) (sig : Nat) (thresh : Int) (hold : Nat), d.val / 512 = p.val →
      (-14400 ≤ thresh → thresh ≤ 0 → 1 ≤ hold → hold ≤ 480000 → sig / 131072 % 16384 = 0 →
        (2147483648 ≤ sig ∨ sigValid sig = true ∧ s.sigOwner sig = some p.val →
          Runs (.silSignal p d sig thresh hold) s fun t =>
            t.reg (Reg.silSignal d) = sig ∧ t.reg (Reg.silThresh d) = thresh ∧ t.reg (Reg.silHold d) = hold ∧
            t.reg (Reg.silState d) = 0 ∧ (NTable.get {} t.sils d : SilSt) = {} ∧ t.answer.status = 0 ∧
            SameRegs s t [Reg.silSignal d, Reg.silThresh d, Reg.silHold d, Reg.silState d] ∧ SameMem s t) ∧
        (sig < 2147483648 → sigValid sig = true → s.sigOwner sig ≠ some p.val →
          Answers (.silSignal p d sig thresh hold) s 0x11)) ∧
      (thresh < -14400 ∨ 0 < thresh ∨ hold < 1 ∨ 480000 < hold ∨ sig / 131072 % 16384 ≠ 0 ∨
          (sig < 2147483648 ∧ sigValid sig = false) → Answers (.silSignal p d sig thresh hold) s 0x13)) ∧
    (∀ (d : Fin 8192) (sig : Nat) (thresh : Int) (hold : Nat), d.val / 512 ≠ p.val →
      Answers (.silSignal p d sig thresh hold) s 0x11) ∧
    (∀ d : Fin 8192,
      (s.reg (Reg.silSignal d) < 131072 → s.reg (Reg.silHold d) ≤ ((NTable.get {} s.sils d : SilSt).count : Int) →
        Runs (.silenceHoldExpire d) s fun t => t.reg (Reg.silState d) = 1 ∧ SameRegs s t [Reg.silState d] ∧
          t.units = s.units) ∧
      (131072 ≤ s.reg (Reg.silSignal d) ∨ ((NTable.get {} s.sils d : SilSt).count : Int) < s.reg (Reg.silHold d) →
        exec (.silenceHoldExpire d) s = .next s)) ∧
    (∀ (g : Fin 256) (ty freq : Nat) (level : Int) (seed : Nat),
      (s.holds p 23 noUnit g = true →
        (ty ≤ 2 → 1 ≤ freq → freq ≤ 500 * (s.plotMult p * Config.baseRate s.family) → -14400 ≤ level → level ≤ 0 →
          seed < 4294967296 → Runs (.genType p g ty freq level seed) s fun t =>
            t.due = s.due ++ [⟨s.actTick, Reg.genFreq g, freq⟩, ⟨s.actTick, Reg.genLevel g, level⟩,
              ⟨s.actTick, Reg.genSeed g, seed⟩, ⟨s.actTick, Reg.genType g, ty⟩] ∧ t.answer.status = 0 ∧
            SameRegs s t [] ∧ t.gens = s.gens ∧ SameMem s t) ∧
        (2 < ty ∨ freq < 1 ∨ 500 * (s.plotMult p * Config.baseRate s.family) < freq ∨ level < -14400 ∨ 0 < level ∨
          4294967296 ≤ seed → Answers (.genType p g ty freq level seed) s 0x13)) ∧
      (s.holds p 23 noUnit g = false → Answers (.genType p g ty freq level seed) s 0x11)) ∧
    (∀ (k : Fin 256) (rate : Nat) (ppb : Int),
      (s.reg (Reg.trkState k) = 1 → Runs (.trackerLock k rate ppb) s fun t => t.reg (Reg.trkState k) = 2 ∧
        t.reg (Reg.trkRate k) = rate ∧ t.reg (Reg.trkPpb k) = ppb ∧ (t.tracker k).heldPpb = ppb ∧
        SameRegs s t [Reg.trkState k, Reg.trkRate k, Reg.trkPpb k] ∧ SameMem s t) ∧
      (s.reg (Reg.trkState k) ≠ 1 → exec (.trackerLock k rate ppb) s = .next s) ∧
      (s.reg (Reg.trkState k) = 2 → Runs (.trackerLost k) s fun t => t.reg (Reg.trkState k) = 3 ∧
        t.reg (Reg.trkEvents k) = (s.reg (Reg.trkEvents k) + 1) % 4294967296 ∧
        bit (t.reg (Reg.plotFault (trackerPlot k))) 7 = true ∧ SameMem s t) ∧
      (s.reg (Reg.trkState k) = 2 → Runs (.trackerResync k) s fun t => t.reg (Reg.trkState k) = 4 ∧
        t.reg (Reg.trkEvents k) = (s.reg (Reg.trkEvents k) + 1) % 4294967296 ∧
        bit (t.reg (Reg.plotFault (trackerPlot k))) 7 = true ∧ SameMem s t) ∧
      (s.reg (Reg.trkState k) ≠ 2 → exec (.trackerLost k) s = .next s ∧ exec (.trackerResync k) s = .next s) ∧
      (s.reg (Reg.trkState k) = 4 → Runs (.trackerRecentred k) s fun t => t.reg (Reg.trkState k) = 1 ∧
        SameRegs s t [Reg.trkState k] ∧ t.units = s.units) ∧
      (s.reg (Reg.trkState k) ≠ 4 → exec (.trackerRecentred k) s = .next s) ∧
      (s.reg (Reg.trkState k) = 3 → |ppb - (s.tracker k).heldPpb| ≤ 100000 → Runs (.trackerInputReturn k rate ppb) s
        fun t => t.reg (Reg.trkState k) = 2 ∧ t.reg (Reg.trkPpb k) = ppb ∧
          SameRegs s t [Reg.trkState k, Reg.trkRate k, Reg.trkPpb k] ∧ SameMem s t) ∧
      (s.reg (Reg.trkState k) = 3 → 100000 < |ppb - (s.tracker k).heldPpb| → Runs (.trackerInputReturn k rate ppb) s
        fun t => t.reg (Reg.trkState k) = 1 ∧ t.reg (Reg.trkRate k) = rate ∧
          SameRegs s t [Reg.trkState k, Reg.trkRate k, Reg.trkPpb k] ∧ SameMem s t) ∧
      (s.reg (Reg.trkState k) ≠ 3 → exec (.trackerInputReturn k rate ppb) s = .next s))

/-- Trellis and memory commands. A DMA window of the active last that has not run in this tick runs once the leftover beats and the plane's work before its slot are done: it moves its far bytes or its signal's block to near memory, or near bytes to far memory, failed beats as zeros, and is counted; a TRIGGERED one without a DMAT 16 cycles before its slot is idle, and one that has run does nothing more. A response that the master reaches stores its bytes where OKAY and else is SLVERR, counted, with memory as it was: at once for M0 to M17, in leftover cycles of the target port for the others; one that the master does not reach is DECERR. MEM_SCRUB advances every memory's pass and counts; MEM_UECC counts, records the address and zeroes the word in bed memory and DRAM alone; DRAM_DERATE reports the higher multiple and DRAM_HOT. -/
def Obligations.TrellisAndMemoryCommands : Prop :=
  (∀ (p : Fin 16) (win : Fin 256) (w : DmaWin) (failed : List Nat) (parity : Bool) (s s0 : State),
    ((s.last p).bind fun l => l.windows.find? fun w => decide (w.win = win.val)) = some w →
    (s.trellisTo (64 * w.slot)).advanceTo (64 * w.slot) = s0 →
    ((NTable.get {} s.wins (p.val * 1024 + win.val) : WinSt).ran = true →
      exec (.dmaWindowRun p win failed parity) s = .next s) ∧
    ((NTable.get {} s.wins (p.val * 1024 + win.val) : WinSt).ran = false → w.triggered = true →
      (∀ t, (NTable.get {} s.wins (p.val * 1024 + win.val) : WinSt).trigger = some t →
        s.tick * Config.cyclesPerTick + 64 * w.slot < t + 16) → Runs (.dmaWindowRun p win failed parity) s fun t =>
        t.reg (Reg.dmaIdle p win) = (s0.reg (Reg.dmaIdle p win) + 1) % 4294967296 ∧
        (NTable.get {} t.wins (p.val * 1024 + win.val) : WinSt).ran = true ∧ SameRegs s0 t [Reg.dmaIdle p win] ∧
        SameMem s0 t) ∧
    ((NTable.get {} s.wins (p.val * 1024 + win.val) : WinSt).ran = false → w.triggered = false ∨
      (∃ t, (NTable.get {} s.wins (p.val * 1024 + win.val) : WinSt).trigger = some t ∧
        t + 16 ≤ s.tick * Config.cyclesPerTick + 64 * w.slot) → Runs (.dmaWindowRun p win failed parity) s fun t =>
      t.reg (Reg.dmaRuns p w.win) = (s0.reg (Reg.dmaRuns p w.win) + 1) % 4294967296 ∧
      (NTable.get {} t.wins (p.val * 1024 + win.val) : WinSt).ran = true ∧
      (failed = [] → parity = false → SameRegs s0 t [Reg.dmaRuns p win]) ∧
      (failed ≠ [] ∨ parity = true → t.reg (Reg.dmaFail p w.win) = (s0.reg (Reg.dmaFail p w.win) + 1) % 4294967296) ∧
      (w.dir = 0 → w.signal = false →
        t.bytes (nearAddr w.core w.near) w.length =
          zeroBeats failed ((List.range w.length).map fun i => s0.byte (w.farAt s.tick i)) ∧
        ∀ a, a < nearAddr w.core w.near ∨ nearAddr w.core w.near + w.length ≤ a → t.byte a = s0.byte a) ∧
      (w.dir = 0 → w.signal = true →
        t.bytes (nearAddr w.core w.near) (4 * (w.length / 4)) =
          zeroBeats failed (blockBytes (padTo (w.length / 4) (s0.sinkBlock p w.sig)))) ∧
      (w.dir = 1 → w.signal = false → w.wrap = 0 →
        t.bytes w.far w.length = zeroBeats failed (s0.bytes (nearAddr w.core w.near) w.length) ∧
        ∀ a, a < w.far ∨ w.far + w.length ≤ a → t.byte a = s0.byte a) ∧
      (w.dir = 1 → w.signal = true → (s0.task p w.task).overran = false → (s0.task p w.task).rampUp = false →
        NTable.get [] t.src w.sig = bytesBlock (zeroBeats failed (s0.bytes (nearAddr w.core w.near) w.length)) ∧
        SameMem s0 t))) ∧
  ∀ (m : Fin 28) (addr : Fin 1099511627776) (data : List Byte) (s : State),
    (s.trellisReach m addr = true → m.val < 18 → plainMemory addr = true → Runs (.trellisResponse m addr data none) s fun t =>
      t.bytes addr data.length = data ∧ (∀ a, a < addr.val ∨ addr.val + data.length ≤ a → t.byte a = s.byte a) ∧
      SameRegs s t []) ∧
    (s.trellisReach m addr = true → m.val < 18 → ∀ c : Fin 4, Runs (.trellisResponse m addr data (some c)) s fun t =>
      t.reg Reg.trlSlverr = (s.reg Reg.trlSlverr + 1) % 4294967296 ∧
      SameRegs s t [Reg.trlSlverr, Reg.trlLastErr, Reg.trlTimeout, Reg.trlParity] ∧ SameMem s t) ∧
    (s.trellisReach m addr = true → 18 ≤ m.val →
      (s.leftoverSlot (targetPort addr) (s.cycle / 64) = none → ∀ cause, Runs (.trellisResponse m addr data cause) s fun t =>
        (∃ n, (NTable.get {} t.trellis (targetPort addr) : TrellisPort).waiting =
          (NTable.get {} s.trellis (targetPort addr) : TrellisPort).waiting ++ [⟨m, addr, data, cause.map (·.val), n⟩]) ∧
        SameRegs s t [] ∧ SameMem s t) ∧
      (s.leftoverSlot (targetPort addr) (s.cycle / 64) ≠ none →
        (NTable.get {} s.trellis (targetPort addr) : TrellisPort).waiting = [] →
        (NTable.get {} s.trellis (targetPort addr) : TrellisPort).upTo ≤ s.cycle → addr.val % 64 + data.length ≤ 64 →
        plainMemory addr = true → Runs (.trellisResponse m addr data none) s fun t =>
          t.bytes addr data.length = data ∧ (∀ a, a < addr.val ∨ addr.val + data.length ≤ a → t.byte a = s.byte a) ∧
          (NTable.get {} t.trellis (targetPort addr) : TrellisPort).waiting = [] ∧ SameRegs s t [])) ∧
    (s.trellisReach m addr = false → ∀ cause, Runs (.trellisResponse m addr data cause) s fun t =>
      t.reg Reg.trlDecerr = (s.reg Reg.trlDecerr + 1) % 4294967296 ∧
      SameRegs s t [Reg.trlDecerr, Reg.trlLastErr] ∧ SameMem s t) ∧
    (∀ corrected : List (Fin 6), Runs (.memScrub corrected) s fun t => SameMem s t ∧ ∀ sel : Fin 6,
      NTable.get 0 t.memory.pass sel = (if NTable.get 0 s.memory.pass sel + 1 ≥ patrolTicks s sel then 0
        else NTable.get 0 s.memory.pass sel + 1) ∧
      t.reg (Reg.memScrubPass sel) = (if NTable.get 0 s.memory.pass sel + 1 ≥ patrolTicks s sel
        then (s.reg (Reg.memScrubPass sel) + 1) % 4294967296 else s.reg (Reg.memScrubPass sel)) ∧
      (sel ∈ corrected → t.reg (Reg.memCecc sel) =
        (s.reg (Reg.memCecc sel) + (corrected.filter fun e => e == sel).length) % 4294967296) ∧
      (sel ∉ corrected → t.reg (Reg.memCecc sel) = s.reg (Reg.memCecc sel))) ∧
    (∀ (sel : Fin 6) win bus port, Runs (.memUecc sel addr win bus port) s fun t =>
      t.reg (Reg.memUecc sel) = (s.reg (Reg.memUecc sel) + 1) % 4294967296 ∧ t.reg (Reg.memLastUecc sel) = addr.val ∧
      ((sel.val = 0 ∨ 4 ≤ sel.val) → t.bytes (addr.val / 8 * 8) 8 = List.replicate 8 0) ∧
      (∀ a, a < addr.val / 8 * 8 ∨ addr.val / 8 * 8 + 8 ≤ a → t.byte a = s.byte a) ∧
      (1 ≤ sel.val → sel.val ≤ 3 → SameMem s t) ∧
      (∀ n : Fin 24, sel.val = 2 → port = some n → t.reg (Reg.dropQfull n) = (s.reg (Reg.dropQfull n) + 1) % 4294967296) ∧
      (∀ (b : Fin 2048) r, sel.val = 1 → bus = some b → (s.bus b).rec_ = some r → s.ranTo < r.stop →
        (t.bus b).error = true)) ∧
    (∀ (ctl : Fin 2) (multiple mr4 : Nat) (hot : Bool), Runs (.dramDerate ctl multiple hot mr4) s fun t =>
      NTable.get false t.memory.hot ctl = hot ∧
      NTable.get 1 t.memory.derate ctl = (if hot then 4 else if multiple ≤ 1 then 1 else if multiple = 2 then 2 else 4) ∧
      t.reg Reg.dramDerate = (max (NTable.get 1 t.memory.derate 0) (NTable.get 1 t.memory.derate 1) : Nat) ∧
      t.reg Reg.dramHot = (if NTable.get false t.memory.hot 0 || NTable.get false t.memory.hot 1 then 1 else 0) ∧
      SameRegs s t [Reg.dramDerate, Reg.dramHot] ∧ SameMem s t)

/-- Route edits. A batch whose length is not 1 to 256 records of 16 bytes is refused with 0x18, one on a plot without a last with 0x1B, and one that fails a check with the code and position of its first failing record, and the routes stay; one that passes waits for its boundary with status 1, ROUTE_EDIT for the pair rule's boundary and ROUTE_EDIT_AT for its named tick. A due batch that needs no new check, or passes it, puts its records on sinks that do not crossfade among the routes with status 0, and holds one on a sink that does with status 2; one that fails its new check is discarded with 0x19. A held record whose sink's crossfade has ended takes effect, and one whose sink's still runs stays. -/
def Obligations.RouteEdits : Prop :=
  ∀ (p : Fin 16) (batch : List Byte) (s : State),
    (batch = [] ∨ 4096 < batch.length ∨ batch.length % 16 ≠ 0 → Runs (.routeEdit p batch) s fun t =>
      t.reg (Reg.routeEditStatus p) = 0x18 ∧ t.plots = s.plots ∧
        SameRegs s t [Reg.routeEditStatus p, Reg.routeEditDetail p] ∧ SameMem s t) ∧
    (batch ≠ [] → batch.length ≤ 4096 → batch.length % 16 = 0 → s.last p = none → Runs (.routeEdit p batch) s fun t =>
      t.reg (Reg.routeEditStatus p) = 0x1B ∧ t.plots = s.plots ∧ SameMem s t) ∧
    (∀ l c pos, batch ≠ [] → batch.length ≤ 4096 → batch.length % 16 = 0 → s.last p = some l →
      s.checkBatch p l (records 16 batch) = some (c, pos) → Runs (.routeEdit p batch) s fun t =>
        t.reg (Reg.routeEditStatus p) = c ∧ t.reg (Reg.routeEditDetail p) = pos ∧ t.plots = s.plots ∧ SameMem s t) ∧
    (∀ l, batch ≠ [] → batch.length ≤ 4096 → batch.length % 16 = 0 → s.last p = some l →
      s.checkBatch p l (records 16 batch) = none →
      Runs (.routeEdit p batch) s (fun t => t.reg (Reg.routeEditStatus p) = 1 ∧ t.answer.status = 0 ∧
        (t.plot p).batches = (s.plot p).batches ++
          [⟨s.actTick, (records 16 batch).map readRoute, false, (s.plot p).edits⟩] ∧
        (t.plot p).routes = (s.plot p).routes ∧ SameRegs s t [Reg.routeEditStatus p] ∧ SameMem s t) ∧
      ∀ (at_ st k : Nat) (lateOk : Bool), s.atTick p at_ lateOk = .ok (k, st) →
        Runs (.routeEditAt p at_ lateOk batch) s fun t => t.reg (Reg.routeEditStatus p) = 1 ∧
          t.answer.status = st ∧ (t.plot p).batches = (s.plot p).batches ++
            [⟨k, (records 16 batch).map readRoute, false, (s.plot p).edits⟩] ∧
          (t.plot p).routes = (s.plot p).routes ∧ SameMem s t) ∧
    (∀ (at_ c : Nat) (lateOk : Bool), s.atTick p at_ lateOk = .error c → Answers (.routeEditAt p at_ lateOk batch) s c) ∧
    (∀ b : RouteBatch, (s.plot p).batches.filter (fun b => decide (b.due ≤ s.tick)) = [b] →
      (b.recheck = false ∨ s.recheckFail p b = none → (b.routes.map (·.sink)).Nodup →
        (∀ r ∈ b.routes, (s.sinkSt r.sink).fade = none) → Runs (.routeEditApply p) s fun t =>
          (∀ r ∈ b.routes, r ∈ (t.plot p).routes) ∧
          (t.plot p).batches = (s.plot p).batches.filter (fun b => !decide (b.due ≤ s.tick)) ∧
          t.reg (Reg.routeEditStatus p) = 0 ∧
          (∀ q, (∀ r ∈ b.routes, r.sink ≠ q.sink) → (q ∈ (t.plot p).routes ↔ q ∈ (s.plot p).routes)) ∧ SameMem s t) ∧
      (∀ r : Route, b.recheck = false ∨ s.recheckFail p b = none → b.routes = [r] → (s.sinkSt r.sink).fade ≠ none →
        Runs (.routeEditApply p) s fun t => ⟨b.edit, r⟩ ∈ (t.plot p).held ∧ (t.plot p).routes = (s.plot p).routes ∧
          t.reg (Reg.routeEditStatus p) = 2 ∧ SameMem s t) ∧
      (∀ pos, b.recheck = true → s.recheckFail p b = some pos → Runs (.routeEditApply p) s fun t =>
        t.reg (Reg.routeEditStatus p) = 0x19 ∧ t.reg (Reg.routeEditDetail p) = pos ∧
        (t.plot p).routes = (s.plot p).routes ∧ SameMem s t)) ∧
    (∀ (e : Nat) (r : Route), (s.plot p).held = [⟨e, r⟩] → (s.sinkSt r.sink).fade = none →
      Runs (.routeHeldApply p) s fun t => r ∈ (t.plot p).routes ∧ (t.plot p).held = [] ∧
        (s.reg (Reg.routeEditStatus p) = 2 → t.reg (Reg.routeEditStatus p) = 0) ∧ SameMem s t) ∧
    ((∀ h ∈ (s.plot p).held, (s.sinkSt h.route.sink).fade ≠ none) → Runs (.routeHeldApply p) s fun t =>
      (t.plot p).held = (s.plot p).held ∧ (t.plot p).routes = (s.plot p).routes ∧ SameMem s t)

/-- A last on its way. LAST_STAGE takes an image to STAGED, or answers BUSY from CHECKING on and while RESETTING; LAST_INSTALL from STAGED starts the checks and is else BUSY; LAST_CHECKS_COMPLETE discards an image that fails with code and detail, makes one that passes the shadow with its serial, and does nothing in another state or with the gardener in reset; LAST_CANCEL discards an image in STAGED or CHECKING, or a shadow whose boundary of S - 16 has not passed, and later answers TOO_LATE in LAST_ERROR. SHADOW_COMMIT commits: a single chip from S - 16 on, role A of two by S - 32 and role B by S - 16 with the partner's word, and else changes nothing; PAIR_SWAP_TIMEOUT without that word discards with PAIR, but the source of a graft swaps alone, and the graft returns to CONFIG. -/
def Obligations.LastInstallAndCancel : Prop :=
  ∀ (p : Fin 16) (s : State),
    (∀ (owner : Bool) (image : List Byte),
      (s.nat (Reg.lastState p) < 2 → s.reg (Reg.plotState p) ≠ 3 →
        Runs (.lastStage p owner image) s fun t => (t.plot p).staged = some image ∧ (t.plot p).stagedOwner = owner ∧
          t.reg (Reg.lastState p) = 1 ∧ t.answer.status = 0 ∧ SameRegs s t [Reg.lastState p] ∧
          (t.plot p).active = (s.plot p).active ∧ SameMem s t) ∧
      (2 ≤ s.nat (Reg.lastState p) ∨ s.reg (Reg.plotState p) = 3 → Answers (.lastStage p owner image) s 0x14)) ∧
    (∀ n, (s.reg (Reg.lastState p) = 1 → s.reg (Reg.plotState p) ≠ 3 → Runs (.lastInstall p n) s fun t =>
        t.reg (Reg.lastState p) = 2 ∧ (t.plot p).wantTick = n ∧ t.answer.status = 0 ∧ SameRegs s t [Reg.lastState p] ∧
          SameMem s t) ∧
      (s.reg (Reg.lastState p) ≠ 1 ∨ s.reg (Reg.plotState p) = 3 → Answers (.lastInstall p n) s 0x14)) ∧
    (∀ (b : List Byte) (c d : Nat), s.reg (Reg.lastState p) = 2 → s.rst.kind = 0 → (s.plot p).staged = some b →
      s.installFault p b (s.plot p).stagedOwner (s.plot p).wantTick = some (c, d) →
      Runs (.lastChecksComplete p) s fun t => t.reg (Reg.lastState p) = 0 ∧ t.reg (Reg.lastError p) = c ∧
        t.reg (Reg.lastErrorDetail p) = d ∧ (t.plot p).staged = none ∧ (t.plot p).active = (s.plot p).active ∧
        (t.plot p).waiting = [] ∧ SameMem s t) ∧
    (∀ b : List Byte, s.reg (Reg.lastState p) = 2 → s.rst.kind = 0 → (s.plot p).staged = some b →
      s.installFault p b (s.plot p).stagedOwner (s.plot p).wantTick = none →
      Runs (.lastChecksComplete p) s fun t => t.reg (Reg.lastState p) = 3 ∧ t.reg (Reg.lastError p) = 0 ∧
        (t.plot p).shadow = some (readImage b).toLast ∧
        t.reg (Reg.lastShadowSerial p) = (readImage b).toLast.serial ∧
        t.reg (Reg.lastSwapTick p) = ((s.swapTick (s.plot p).wantTick).getD 0 : Nat) ∧
        (t.plot p).staged = none ∧ (t.plot p).active = (s.plot p).active ∧ (t.plot p).waiting = [] ∧ SameMem s t) ∧
    (s.reg (Reg.lastState p) ≠ 2 ∨ s.rst.kind ≠ 0 ∨ (s.plot p).staged = none → exec (.lastChecksComplete p) s = .next s) ∧
    ((s.reg (Reg.lastState p) = 1 ∨ s.reg (Reg.lastState p) = 2 ∨ (3 ≤ s.reg (Reg.lastState p) ∧
        s.tick + 16 < s.nat (Reg.lastSwapTick p) ∧ (s.plot p).late = false)) →
      Runs (.lastCancel p) s fun t => t.reg (Reg.lastState p) = 0 ∧ t.reg (Reg.lastError p) = 0x20 ∧
        (t.plot p).staged = none ∧ (t.plot p).shadow = none ∧ (t.plot p).active = (s.plot p).active ∧
        t.answer.status = 0 ∧ SameMem s t) ∧
    (3 ≤ s.reg (Reg.lastState p) → s.nat (Reg.lastSwapTick p) ≤ s.tick + 16 ∨ (s.plot p).late = true →
      Runs (.lastCancel p) s fun t => t.reg (Reg.lastError p) = 0x21 ∧ t.plots = s.plots ∧
        SameRegs s t [Reg.lastError p, Reg.lastErrorDetail p] ∧ SameMem s t) ∧
    (s.reg (Reg.lastState p) = 3 → s.tick ≤ s.nat (Reg.lastSwapTick p) →
      (s.swapsTogether = false ∧ s.nat (Reg.lastSwapTick p) ≤ s.tick + 16 ∨ s.swapsTogether = true ∧
        (s.plot p).partnerOk = true ∧
        s.tick + (if s.reg Reg.pairRole = 0 then 32 else 16) ≤ s.nat (Reg.lastSwapTick p)) →
      Runs (.shadowCommit p) s fun t => t.reg (Reg.lastState p) = 4 ∧ SameRegs s t [Reg.lastState p] ∧ t.plots = s.plots ∧
        (∀ new r, (s.plot p).shadow = some new → new.pm = [r] → new.dm = [] →
          t.bytes (pmBase r.core + 8 * r.addr) r.code.length = r.code ∧
          ∀ a, a < pmBase r.core + 8 * r.addr ∨ pmBase r.core + 8 * r.addr + r.code.length ≤ a → t.byte a = s.byte a)) ∧
    (s.reg (Reg.lastState p) ≠ 3 ∨ s.nat (Reg.lastSwapTick p) < s.tick ∨
      (s.swapsTogether = false ∧ s.tick + 16 < s.nat (Reg.lastSwapTick p)) ∨ (s.swapsTogether = true ∧
        ((s.plot p).partnerOk = false ∨
          s.nat (Reg.lastSwapTick p) < s.tick + (if s.reg Reg.pairRole = 0 then 32 else 16))) →
      exec (.shadowCommit p) s = .next s) ∧
    (s.swapsTogether = true → s.reg (Reg.lastState p) = 3 →
      s.nat (Reg.lastSwapTick p) < s.tick + (if s.reg Reg.pairRole = 0 then 32 else 16) →
      Runs (.pairSwapTimeout p) s fun t =>
        (s.reg Reg.pairRole = 0 ∧ s.reg Reg.pairState = 2 → t.reg (Reg.lastState p) = 4 ∧ t.plots = s.plots) ∧
        (s.reg Reg.pairRole ≠ 0 ∨ s.reg Reg.pairState ≠ 2 → t.reg (Reg.lastState p) = 0 ∧
          t.reg (Reg.lastError p) = 0x1F ∧ (t.plot p).shadow = none ∧ SameMem s t) ∧
        (s.reg Reg.pairState = 2 → t.reg Reg.graftPhase = 3)) ∧
    (s.swapsTogether = false ∨ s.reg (Reg.lastState p) ≠ 3 ∨
      s.tick + (if s.reg Reg.pairRole = 0 then 32 else 16) ≤ s.nat (Reg.lastSwapTick p) →
      exec (.pairSwapTimeout p) s = .next s)

/-- A last takes effect at its tick. At the boundary that opens the swap tick of a committed shadow, LAST_SWAP makes the shadow the plot's active last with its routes, its serial and the tick; a shadow whose tick was passed over is discarded with SKIPPED; before its tick, at it while not committed, and without a shadow nothing changes. -/
def Obligations.LastTakesEffectAtItsTick : Prop :=
  ∀ (p : Fin 16) (s : State),
    ((s.plot p).shadow = none → exec (.lastSwap p) s = .next s) ∧
    (s.tick < s.nat (Reg.lastSwapTick p) ∨ s.reg (Reg.lastState p) < 3 ∨
      (s.tick = s.nat (Reg.lastSwapTick p) ∧ s.reg (Reg.lastState p) ≠ 4) → exec (.lastSwap p) s = .next s) ∧
    (∀ new : Last, (s.plot p).shadow = some new →
      (3 ≤ s.reg (Reg.lastState p) → s.nat (Reg.lastSwapTick p) < s.tick → Runs (.lastSwap p) s fun t =>
        t.reg (Reg.lastState p) = 0 ∧ t.reg (Reg.lastError p) = 0x22 ∧ (t.plot p).shadow = none ∧
        (t.plot p).active = (s.plot p).active ∧ SameMem s t) ∧
      (s.tick = s.nat (Reg.lastSwapTick p) → s.reg (Reg.lastState p) = 4 →
        Runs (.lastSwap p) s fun t => (t.plot p).active = some new ∧ (t.plot p).shadow = none ∧
          (t.plot p).outgoing = (s.plot p).active ∧ (t.plot p).held = [] ∧
          (t.plot p).routes = new.routes ∧ t.reg (Reg.lastState p) = 0 ∧
          t.reg (Reg.lastActiveSerial p) = new.serial ∧ t.reg (Reg.lastActiveSince p) = s.tick ∧
          t.reg (Reg.plotState p) = 2 ∧ SameMem s t))

/-- The time counter's commands. Where the host's servo moves the counter, TIME_INCR of 1.998 to 2.002 ns and TIME_ADJ wait for the next boundary, and elsewhere are BUSY; a TIME_INCR beyond is RANGE; TIME_STEP and TIME_SET are noted for the next boundary, TIME_SET only while no plot has an active last; COUNTER_CHANGE_APPLY takes a step that is due by the whole ticks it holds and counts it, and a set that is due to the tick of its time with the fraction 0, and with nothing due changes nothing. -/
def Obligations.TimeCounterCommands : Prop :=
  ∀ s : State,
    (∀ v : Fin 18446744073709551616,
      (1998 * 281474976710656 ≤ 1000 * v.val → 1000 * v.val ≤ 2002 * 281474976710656 →
        (s.hostServo = true → Runs (.timeIncr v) s fun t => t.due = s.due ++ [⟨s.after 1, Reg.timeIncr, (v.val : Int)⟩] ∧
          t.answer.status = 0 ∧ SameRegs s t [] ∧ SameMem s t) ∧
        (s.hostServo = false → Answers (.timeIncr v) s 0x14)) ∧
      (1000 * v.val < 1998 * 281474976710656 ∨ 2002 * 281474976710656 < 1000 * v.val → Answers (.timeIncr v) s 0x13)) ∧
    (∀ a : Int, -2 ^ 63 ≤ a → a < 2 ^ 63 →
      (s.hostServo = true → Runs (.timeAdj a) s fun t => t.due = s.due ++ [⟨s.after 1, Reg.timeAdj, a⟩] ∧
        t.answer.status = 0 ∧ SameRegs s t [] ∧ SameMem s t) ∧
      (s.hostServo = false → Answers (.timeAdj a) s 0x14)) ∧
    (∀ d : Int, -2 ^ 63 ≤ d → d < 2 ^ 63 → Runs (.timeStep d) s fun t =>
      t.clk.steps = s.clk.steps ++ [(s.after 1, d)] ∧ t.tick = s.tick ∧ t.answer.status = 0 ∧ SameRegs s t [] ∧
        SameMem s t) ∧
    (∀ d : Int, d < -2 ^ 63 ∨ 2 ^ 63 ≤ d → Answers (.timeStep d) s 0x12 ∧ Answers (.timeAdj d) s 0x12) ∧
    (∀ (sec : Fin 281474976710656) (ns : Nat),
      (ns < 1000000000 → s.anyLast = false → Runs (.timeSet sec ns) s fun t =>
        t.clk.sets = s.clk.sets ++ [(s.after 1, sec.val * 1000000000 + ns)] ∧ t.tick = s.tick ∧ t.answer.status = 0 ∧
          SameRegs s t [] ∧ SameMem s t) ∧
      (ns < 1000000000 → s.anyLast = true → Answers (.timeSet sec ns) s 0x14) ∧
      (1000000000 ≤ ns → Answers (.timeSet sec ns) s 0x13)) ∧
    (∀ (k : Nat) (d : Int), (s.clk.steps.filter fun e => decide (e.1 ≤ s.tick)) = [(k, d)] →
      (s.clk.sets.filter fun e => decide (e.1 ≤ s.tick)) = [] → Runs .counterChangeApply s fun t =>
        t.clk.steps = (s.clk.steps.filter fun e => !decide (e.1 ≤ s.tick)) ∧ t.clk.sets = s.clk.sets ∧
        t.tick = ((s.tick : Int) + Int.tdiv (d * s.tps) 1000000000).toNat ∧
        t.reg Reg.timeStepCount = (s.reg Reg.timeStepCount + 1) % 4294967296 ∧ SameMem s t) ∧
    (∀ k ns : Nat, (s.clk.steps.filter fun e => decide (e.1 ≤ s.tick)) = [] →
      (s.clk.sets.filter fun e => decide (e.1 ≤ s.tick)) = [(k, ns)] → Runs .counterChangeApply s fun t =>
        t.clk.sets = (s.clk.sets.filter fun e => !decide (e.1 ≤ s.tick)) ∧ t.clk.steps = s.clk.steps ∧
        t.tick = ns * s.tps / 1000000000 ∧ t.cycle = 0 ∧ SameMem s t) ∧
    ((∀ e ∈ s.clk.steps, s.tick < e.1) → (∀ e ∈ s.clk.sets, s.tick < e.1) → exec .counterChangeApply s = .next s)

/-- The PTP unit's commands. PTP_ROLE and PTP_PROFILE in range wait for the next boundary; an Announce on a port of the unit joins the masters heard, and the best of them, unless the chip's own set is better, is the parent; a Sync of the parent gives the servo's offset and rate; a delay measurement of a NET port gives its mean delay; SERVO_LOCK after 16 good intervals enters LOCKED and SERVO_UNLOCK after 4 bad ones leaves it; ANNOUNCE_TIMEOUT drops the parent, with the servo in state 1 and the grandmaster's class 255; PTP_MESSAGE_TX sends a message that the port's state allows with the next sequence number; TS_FIFO_READ returns and removes up to 16 entries; where its condition does not hold each leaves the state as it is. -/
def Obligations.PtpUnitCommands : Prop :=
  ∀ (n : Fin 25) (s : State),
    (∀ v, v ≤ 3 → Runs (.ptpRole v) s fun t => t.due = s.due ++ [⟨s.after 1, Reg.ptpRole, v⟩] ∧ t.answer.status = 0 ∧
      SameRegs s t [] ∧ SameMem s t) ∧
    (∀ v, 3 < v → Answers (.ptpRole v) s 0x13) ∧
    (∀ v, v ≤ 2 → Runs (.ptpProfile v) s fun t => t.due = s.due ++ [⟨s.after 1, Reg.ptpProfile, v⟩] ∧
      t.answer.status = 0 ∧ SameRegs s t [] ∧ SameMem s t) ∧
    (∀ v, 2 < v → Answers (.ptpProfile v) s 0x13) ∧
    (∀ (srcId srcPort gmId gmClass accuracy variance prio1 prio2 steps : Nat) (f : Foreign) (heard : List Foreign),
      f = { port := n, srcId, srcPort, gmId, gmClass, accuracy, variance, prio1, prio2, steps } →
      heard = (s.clk.foreign.filter fun g => !(g.port == n.val && g.srcId == srcId && g.srcPort == srcPort)) ++ [f] →
      s.ptpPort n = true →
      Runs (.ptpMessageRx n (.announce srcId srcPort gmId gmClass accuracy variance prio1 prio2 steps)) s fun t =>
        t.clk.foreign = heard ∧ t.clk.parent = (s.modClk fun c => { c with foreign := heard }).chooseParent ∧
        ((∀ g ∈ s.clk.foreign, lexLt f.key g.key = true) → s.mayMaster = false ∨ lexLt s.ownSet.key f.key = false →
          t.clk.parent = some f ∧ t.reg Reg.ptpParentId = srcId ∧ t.reg Reg.ptpParentPort = srcPort ∧
          t.reg Reg.ptpGmId = gmId ∧ t.reg Reg.ptpGmClass = gmClass) ∧ SameMem s t) ∧
    (∀ (f : Foreign) (off rate : Int), s.ptpPort n = true → s.clk.parent = some f → f.port = n.val →
      Runs (.ptpMessageRx n (.sync f.srcId f.srcPort off rate)) s fun t =>
        t.reg Reg.servoOffset = off ∧ t.reg Reg.servoFreq = rate ∧
        t.clk.servoIn = (if off.natAbs ≤ 100000 then s.clk.servoIn + 1 else 0) ∧
        t.clk.servoOut = (if 1000000 < off.natAbs then s.clk.servoOut + 1 else 0) ∧
        (s.reg Reg.timeMode ≠ 0 ∨ s.reg Reg.timeServoMode ≠ 0 → SameRegs s t [Reg.servoOffset, Reg.servoFreq]) ∧
        SameMem s t) ∧
    (∀ (id port : Nat) (off rate : Int), (∀ f, s.clk.parent = some f → f.port ≠ n.val ∨ f.srcId ≠ id ∨ f.srcPort ≠ port) →
      exec (.ptpMessageRx n (.sync id port off rate)) s = .next s) ∧
    (∀ mean nrr : Int,
      (s.ptpPort n = true → n.val ≠ 24 → Runs (.ptpMessageRx n (.delay mean nrr)) s fun t =>
        t.reg (Reg.ptpMeanDelay n) = mean ∧ (s.reg Reg.ptpRole = 3 → t.reg (Reg.ptpNrr n) = nrr) ∧
        SameRegs s t [Reg.ptpMeanDelay n, Reg.ptpNrr n] ∧ t.units = s.units) ∧
      (n.val = 24 → exec (.ptpMessageRx n (.delay mean nrr)) s = .next s)) ∧
    (∀ m, s.ptpPort n = false → exec (.ptpMessageRx n m) s = .next s) ∧
    (s.reg Reg.servoState = 2 ∨ s.reg Reg.servoState = 4 → 16 ≤ s.clk.servoIn →
      Runs .servoLock s fun t => t.reg Reg.servoState = 3 ∧ SameMem s t) ∧
    ((s.reg Reg.servoState ≠ 2 ∧ s.reg Reg.servoState ≠ 4) ∨ s.clk.servoIn < 16 → exec .servoLock s = .next s) ∧
    (s.reg Reg.servoState = 3 → 4 ≤ s.clk.servoOut → Runs .servoUnlock s fun t =>
      t.reg Reg.servoState = (if s.reg Reg.timeMode = 1 then 4 else 2) ∧ t.clk.servoIn = 0 ∧ SameMem s t) ∧
    (s.reg Reg.servoState ≠ 3 ∨ s.clk.servoOut < 4 → exec .servoUnlock s = .next s) ∧
    (∀ f, s.clk.parent = some f → Runs .announceTimeout s fun t => t.clk.parent = none ∧ t.reg Reg.servoState = 1 ∧
      t.reg Reg.ptpGmClass = 255 ∧ (∀ g ∈ t.clk.foreign, g ∈ s.clk.foreign ∧ g ≠ f) ∧ SameMem s t) ∧
    (s.clk.parent = none → exec .announceTimeout s = .next s) ∧
    (∀ ty : Fin 16, s.ptpPort n = true →
      (ty.val = 1 ∨ ty.val = 2 ∨ ty.val = 3 ∨ (ty.val = 0 ∨ ty.val = 0xB) ∧
        (n.val = 24 ∧ s.mayMaster = true ∧ s.clk.parent = none ∨ n.val ≠ 24 ∧ s.ptpPortNow n = 6) →
        Runs (.ptpMessageTx n ty) s fun t => t.answer.sent = true ∧
          t.answer.bytes = s.ptpFields ty n (NTable.get 0 s.clk.seqs (n.val * 16 + ty.val)) ∧
          NTable.get 0 t.clk.seqs (n.val * 16 + ty.val) = (NTable.get 0 s.clk.seqs (n.val * 16 + ty.val) + 1) % 65536 ∧
          SameRegs s t [] ∧ SameMem s t)) ∧
    (s.ptpPort n = false → ∀ ty, exec (.ptpMessageTx n ty) s = .next s) ∧
    Runs .tsFifoRead s (fun t => t.answer.bytes = (s.clk.tsFifo.take 16).flatten ∧ t.clk.tsFifo = s.clk.tsFifo.drop 16 ∧
      t.reg Reg.tsFifoLevel = (s.clk.tsFifo.length - 16 : Nat) ∧ SameRegs s t [Reg.tsFifoLevel] ∧ SameMem s t)

/-- TEV pins. By the plot that holds the pin: TEV_MODE waits for the next boundary, TEV_ACTION joins a batch that passes to the pending actions and answers its code, CANCEL removes them all. An edge that a capture pin selects, 8 ns or more after the one before, is stored with its time and its level counted, or dropped and counted at 32; a nearer one is stored or not; any other edge changes nothing. TEV_CAP_READ returns and removes up to 16 entries; a due START opens a pin that is shut and a due STOP shuts one that is open, and else they change no window; a due edge of a pulse train moves the train on, its last one ends it; with nothing due nothing changes. -/
def Obligations.TevPinCommands : Prop :=
  ∀ (p : Fin 16) (n : Fin 24) (s : State),
    (s.holds p 28 noUnit n = true →
      (∀ mode, mode ≤ 3 → Runs (.tevMode p n mode) s fun t => (t.tev n).next = some (s.after 1, mode) ∧
        t.answer.status = 0 ∧ SameRegs s t [] ∧ (∀ m, m ≠ n.val → t.tev m = s.tev m) ∧ SameMem s t) ∧
      (∀ mode, 3 < mode → Answers (.tevMode p n mode) s 0x13) ∧
      (∀ batch, s.tevBatchCode n batch = 0 → Runs (.tevAction p n batch) s fun t =>
        (t.tev n).acts = tevMerge (s.tev n).acts ((records 16 batch).map tevRecord) ∧
        t.reg (Reg.tevActStatus n) = 0 ∧ SameRegs s t [Reg.tevActStatus n] ∧ SameMem s t) ∧
      (∀ batch, s.tevBatchCode n batch ≠ 0 → Runs (.tevAction p n batch) s fun t => t.tevs = s.tevs ∧
        t.reg (Reg.tevActStatus n) = s.tevBatchCode n batch ∧ SameRegs s t [Reg.tevActStatus n] ∧ SameMem s t) ∧
      Runs (.cancel p n) s (fun t => (t.tev n).acts = [] ∧ t.reg (Reg.tevActStatus n) = 0 ∧
        SameRegs s t [Reg.tevActStatus n] ∧ (∀ m, m ≠ n.val → t.tev m = s.tev m) ∧ SameMem s t)) ∧
    (s.holds p 28 noUnit n = false → (∀ mode, Answers (.tevMode p n mode) s 0x11) ∧
      (∀ batch, Answers (.tevAction p n batch) s 0x11) ∧ Answers (.cancel p n) s 0x11) ∧
    (∀ (falling : Bool) (ns : Nat), s.reg (Reg.tevMode n) = 1 →
      (if falling then 2 ≤ s.nat (Reg.tevEdge n) else s.nat (Reg.tevEdge n) % 2 = 1) → s.ownPin (128 + n.val) = true →
      ((∀ e, (s.tev n).lastEdge = some e → e + 8 ≤ ns) →
        ((s.tev n).caps.length < 32 → Runs (.tevCapture n falling ns) s fun t =>
          (t.tev n).caps = (s.tev n).caps ++ [timeBytes ((ns : Int) - s.tevOffsetNs n).toNat ++
            [if falling then 1 else 0, if (s.tev n).gap then 1 else 0] ++ leBytes 4 (s.tev n).seq] ∧
          (t.tev n).lastEdge = some ns ∧ t.reg (Reg.tevCapLevel n) = ((s.tev n).caps.length + 1 : Nat) ∧
          (t.tev n).seq = ((s.tev n).seq + 1) % 4294967296 ∧ SameRegs s t [Reg.tevCapLevel n] ∧ SameMem s t) ∧
        (32 ≤ (s.tev n).caps.length → Runs (.tevCapture n falling ns) s fun t =>
          (t.tev n).caps = (s.tev n).caps ∧ (t.tev n).gap = true ∧
          t.reg (Reg.tevCapDrop n) = (s.reg (Reg.tevCapDrop n) + 1) % 4294967296 ∧ SameRegs s t [Reg.tevCapDrop n] ∧
          SameMem s t)) ∧
      (∀ e, (s.tev n).lastEdge = some e → ns < e + 8 → Runs (.tevCapture n falling ns) s fun t =>
        ((t.tev n).caps = (s.tev n).caps ∨ (t.tev n).caps.length = (s.tev n).caps.length + 1) ∧ SameMem s t)) ∧
    (∀ (falling : Bool) (ns : Nat), s.reg (Reg.tevMode n) ≠ 1 ∨
      (if falling then s.nat (Reg.tevEdge n) < 2 else s.nat (Reg.tevEdge n) % 2 ≠ 1) ∨ s.ownPin (128 + n.val) = false →
      exec (.tevCapture n falling ns) s = .next s) ∧
    Runs (.tevCapRead n) s (fun t => t.answer.bytes = ((s.tev n).caps.take 16).flatten ∧
      (t.tev n).caps = (s.tev n).caps.drop 16 ∧ t.reg (Reg.tevCapLevel n) = ((s.tev n).caps.length - 16 : Nat) ∧
      SameRegs s t [Reg.tevCapLevel n] ∧ SameMem s t) ∧
    (∀ a : TevAct, (s.tev n).acts = [a] → a.time / 65536 * 4294967296 < s.boundaryTime (s.tick + 1) →
      Runs (.tevActionDue n) s fun t => (t.tev n).acts = [] ∧ SameMem s t ∧
        (a.kind = 1 → s.reg (Reg.tevState n) ≠ 1 → t.reg (Reg.tevState n) = 1 ∧ SameRegs s t [Reg.tevState n]) ∧
        (a.kind = 2 → s.reg (Reg.tevState n) = 1 → t.reg (Reg.tevState n) = 0 ∧ SameRegs s t [Reg.tevState n]) ∧
        (a.kind = 1 → s.reg (Reg.tevState n) = 1 → SameRegs s t []) ∧
        (a.kind = 2 → s.reg (Reg.tevState n) ≠ 1 → t.reg (Reg.tevState n) = s.reg (Reg.tevState n))) ∧
    ((∀ a ∈ (s.tev n).acts, s.boundaryTime (s.tick + 1) ≤ a.time / 65536 * 4294967296) →
      exec (.tevActionDue n) s = .next s) ∧
    (∀ start e : Nat, (s.tev n).train = some (start, e) →
      (s.edgeTime n start e * 4294967296 < s.boundaryTime (s.tick + 1) →
        (s.trainDone n (e + 1) = false → Runs (.tevPulseEdge n) s fun t =>
          (t.tev n).train = some (start, e + 1) ∧ SameRegs s t [] ∧ SameMem s t) ∧
        (s.trainDone n (e + 1) = true → Runs (.tevPulseEdge n) s fun t =>
          (t.tev n).train = none ∧ t.reg (Reg.tevState n) = 0 ∧ SameRegs s t [Reg.tevState n] ∧ SameMem s t)) ∧
      (s.boundaryTime (s.tick + 1) ≤ s.edgeTime n start e * 4294967296 → exec (.tevPulseEdge n) s = .next s)) ∧
    ((s.tev n).train = none → exec (.tevPulseEdge n) s = .next s)

/-- Frames leave and are dropped at a NET port. Once queues 0 to 6 have run up to the instant, LAUNCH starts the head of queue 7 in its launch window when the link is up and gate and port allow, counting it, and else changes nothing more; LAUNCH_LATE_DROP drops and counts what is after its window; GATE_CHANGE starts a frame of a lower queue whose gate allows it; RESIDENCE_DROP drops and counts what waited beyond BR_MAX_RESIDENCE; PREEMPT_HOLD cuts the frame on the wire before its gate closes, and the rest waits at the head of the queue. -/
def Obligations.FramesLeaveAndDrop : Prop :=
  ∀ (n : Fin 24) (now : Nat) (s s1 : State), s.pump n now = s1 →
    (∀ f, (s1.port n).head 7 = some f →
      (f.launch.getD 0 ≤ now → now ≤ f.launch.getD 0 + s.nat (Reg.launchWindow n) → (s1.port n).busy ≤ now →
        s1.reg (Reg.netLink n) = 1 → s1.mayStart n 7 now f = true → Runs (.launch n now) s fun t =>
          (t.port n).queue = (s1.port n).queue.erase f ∧
          ((t.port n).wire.map fun w => (w.q, w.len, w.first)) = some (f.q, f.len, some (f.first.getD now)) ∧
          (f.ingress = none → (t.port n).wire = some { f with first := some (f.first.getD now) }) ∧
          t.reg (Reg.txFrames n) = (s1.reg (Reg.txFrames n) + 1) % 18446744073709551616 ∧
          SameRegs s1 t [Reg.txFrames n, Reg.txOctets n, Reg.qTxFrames n f.q, Reg.netMmFrag n, Reg.tcNoFollow n,
            Reg.tsFifoLevel, Reg.tsFifoDrop] ∧ SameMem s t) ∧
      (now < f.launch.getD 0 ∨ f.launch.getD 0 + s.nat (Reg.launchWindow n) < now ∨ now < (s1.port n).busy ∨
        s1.reg (Reg.netLink n) ≠ 1 ∨ s1.mayStart n 7 now f = false → exec (.launch n now) s = .next s1)) ∧
    ((s1.port n).head 7 = none → exec (.launch n now) s = .next s1) ∧
    (∀ late, late = (s.port n).queue.filter (fun f => f.q == 7 &&
        decide (f.launch.getD 0 + s.nat (Reg.launchWindow n) < now)) → Runs (.launchLateDrop n now) s fun t =>
      (t.port n).queue = (s.port n).queue.filter (fun f => !(f.q == 7 &&
        decide (f.launch.getD 0 + s.nat (Reg.launchWindow n) < now))) ∧
      (late ≠ [] → t.reg (Reg.launchLate n) = (s.reg (Reg.launchLate n) + late.length) % 4294967296) ∧
      (late = [] → SameRegs s t []) ∧ SameRegs s t [Reg.launchLate n, Reg.qDrops n 7] ∧ SameMem s t) ∧
    (∀ f : QFrame, (s.port n).queue = [f] → f.q < 7 → max (s.port n).busy f.enq ≤ now → s.reg (Reg.netLink n) = 1 →
      s.mayStart n f.q (max (s.port n).busy f.enq) f = true → Runs (.gateChange n now) s fun t =>
        (t.port n).queue = [] ∧ t.reg (Reg.txFrames n) = (s.reg (Reg.txFrames n) + 1) % 18446744073709551616 ∧
        (f.ingress = none → (t.port n).wire =
          some { f with first := some (f.first.getD (max (s.port n).busy f.enq)) }) ∧
        SameRegs s t [Reg.txFrames n, Reg.txOctets n, Reg.qTxFrames n f.q, Reg.netMmFrag n, Reg.tcNoFollow n,
          Reg.tsFifoLevel, Reg.tsFifoDrop] ∧ SameMem s t) ∧
    (s.reg (Reg.netLink n) ≠ 1 ∨ (s.port n).queue = [] → exec (.gateChange n now) s = .next s) ∧
    (∀ old, old = (s1.port n).queue.filter (fun f => decide (f.q < 7) && f.first.isNone &&
        decide (f.stamp + s.nat Reg.brMaxResidence * 1000 < now)) → Runs (.residenceDrop n now) s fun t =>
      (t.port n).queue = (s1.port n).queue.filter (fun f => !(decide (f.q < 7) && f.first.isNone &&
        decide (f.stamp + s.nat Reg.brMaxResidence * 1000 < now))) ∧
      (old ≠ [] → t.reg (Reg.dropGate n) = (s1.reg (Reg.dropGate n) + old.length) % 4294967296) ∧
      (old = [] → SameRegs s1 t []) ∧
      SameRegs s1 t (Reg.dropGate n :: (List.range 7).map fun q => Reg.qDrops n q) ∧ SameMem s t) ∧
    (∀ (f : QFrame) (gone cut : Nat), (s1.port n).wire = some f → now < (s1.port n).busy →
      gone = f.len + 20 - ((s1.port n).busy - now) * s1.portSpeed n / 8000 → cut = max gone (f.sent + 64) →
      (∃ c, s1.gateClose n f.q now = some c ∧ c ≤ now + (s1.wireNs n 139 + 7) / 8 * 8) →
      s1.preemptable n f.q = true → cut + 64 ≤ f.len → Runs (.preemptHold n now) s fun t =>
        (t.port n).wire = none ∧ (t.port n).busy = now + s1.wireNs n (cut - gone + 16) ∧
        (t.port n).queue = { f with sent := cut, enq := now } :: (s1.port n).queue ∧
        t.reg (Reg.netMmFrag n) = (s1.reg (Reg.netMmFrag n) + 1) % 4294967296 ∧ SameMem s t) ∧
    ((s1.port n).wire = none ∨ (s1.port n).busy ≤ now → exec (.preemptHold n now) s = .next s1)

/-- NET port configuration and links. NET_MODE in a mode that the port offers sets it and powers the port down, taking a link that is up down with its count, and NET_POWERDOWN_DONE ends that; NET_LINK_UP of a port that is down gives the speed of its mode; NET_LINK_DOWN takes the link down, empties the queue, counts it and removes the port's dynamic entries; NET_QCELLS and NET_BASE_GCL are taken or answered TYPE or RANGE, and BASE_GCL_APPLY takes a due list; NET_PREEMPT in range starts the verify exchange and PREEMPT_VERIFY_DONE ends it as ACTIVE or FAILED; SEG_SEND of a template that is not IP or out of bounds is refused and counted, and a good one is counted with its segments; ESMC_TX that is due answers a PDU and notes the QL sent, ESMC_TIMEOUT reads QL-DNU. -/
def Obligations.NetPortConfiguration : Prop :=
  ∀ (n : Fin 24) (s : State),
    (∀ mode, modeOk n mode = true → Runs (.netMode n mode) s fun t =>
      t.reg (Reg.netMode n) = mode ∧ t.reg (Reg.netLink n) = 2 ∧ (t.port n).mode = some mode ∧
      (t.port n).changing = true ∧ t.answer.status = 0 ∧ SameMem s t ∧
      (s.reg (Reg.netLink n) ≠ 1 → SameRegs s t [Reg.netMode n, Reg.netLink n]) ∧
      (s.reg (Reg.netLink n) = 1 → (t.port n).queue = [] ∧ t.reg (Reg.netSpeed n) = 0 ∧
        t.reg (Reg.netLinkDowns n) = (s.reg (Reg.netLinkDowns n) + 1) % 4294967296)) ∧
    (∀ mode, modeOk n mode = false → Answers (.netMode n mode) s 0x13) ∧
    ((s.port n).changing = true → Runs (.netPowerdownDone n) s fun t => t.reg (Reg.netLink n) = 0 ∧
      (t.port n).changing = false ∧ SameRegs s t [Reg.netLink n] ∧ SameMem s t) ∧
    ((s.port n).changing = false → exec (.netPowerdownDone n) s = .next s) ∧
    (∀ (sgmii mode : Nat), s.reg (Reg.netLink n) = 0 → s.nat (Reg.netMode n) = mode → 1 ≤ mode → mode ≤ 5 →
      Runs (.netLinkUp n sgmii) s fun t => t.reg (Reg.netLink n) = 1 ∧
        t.reg (Reg.netSpeed n) = (if mode = 1 then 25000 else if mode = 2 then 10000 else if mode = 3 then 2500
          else if mode = 5 ∧ (sgmii = 10 ∨ sgmii = 100) then sgmii else 1000 : Nat) ∧
        SameRegs s t [Reg.netLink n, Reg.netSpeed n] ∧ t.units = s.units) ∧
    (∀ sgmii, s.reg (Reg.netLink n) ≠ 0 ∨ s.nat (Reg.netMode n) = 0 → exec (.netLinkUp n sgmii) s = .next s) ∧
    (s.reg (Reg.netLink n) = 1 → Runs (.netLinkDown n) s fun t => t.reg (Reg.netLink n) = 0 ∧ (t.port n).queue = [] ∧
      t.reg (Reg.netSpeed n) = 0 ∧ t.reg (Reg.netLinkDowns n) = (s.reg (Reg.netLinkDowns n) + 1) % 4294967296 ∧
      (∀ e ∈ t.net.fdb, e.static = true ∨ e.port ≠ n.val) ∧ SameMem s t) ∧
    (s.reg (Reg.netLink n) ≠ 1 → exec (.netLinkDown n) s = .next s) ∧
    (∀ cells : List Byte, cells.length ≠ 16 → Answers (.netQcells n cells) s 0x12) ∧
    (∀ (cells : List Byte) (others held : Nat), cells.length = 16 →
      others = (List.range 24).foldl (fun a m => if m = n.val then a else
        a + (List.range 8).foldl (fun a q => a + s.queueCells m q) 0) 0 →
      held = (s.holdings.filter fun h => h.kind == 30 && h.unit == n.val).foldl (fun a h => max a (h.first + h.count)) 0 →
      (others + (List.range 8).foldl (fun a q => a + leAt cells (2 * q) 2) 0 ≤ 16384 → held ≤ leAt cells 14 2 →
        Runs (.netQcells n cells) s fun t => t.blob (Reg.netQcells n) = cells ∧ t.answer.status = 0 ∧ SameRegs s t [] ∧
          SameMem s t) ∧
      (16384 < others + (List.range 8).foldl (fun a q => a + leAt cells (2 * q) 2) 0 ∨ leAt cells 14 2 < held →
        Answers (.netQcells n cells) s 0x13)) ∧
    (∀ b, s.gclOk n b = true → Runs (.netBaseGcl n b) s fun t =>
      (t.port n).gclNext = some ((s.actTick + 7) / 8 * 8, b) ∧ t.answer.status = 0 ∧ SameRegs s t [] ∧ SameMem s t) ∧
    (∀ b, s.gclOk n b = false → Answers (.netBaseGcl n b) s 0x13) ∧
    (∀ k b, (s.port n).gclNext = some (k, b) →
      (k ≤ s.tick → Runs (.baseGclApply n) s fun t =>
        t.blob (Reg.netBaseGcl n) = b ∧ (t.port n).gclNext = none ∧ SameRegs s t [] ∧ SameMem s t) ∧
      (s.tick < k → exec (.baseGclApply n) s = .next s)) ∧
    ((s.port n).gclNext = none → exec (.baseGclApply n) s = .next s) ∧
    (∀ v, (8 ≤ n.val → s.nat (Reg.netMode n) = 3 ∨ s.nat (Reg.netMode n) = 4 ∨
        (s.nat (Reg.netMode n) = 5 ∧ s.portSpeed n = 1000) → v < 128 → Runs (.netPreempt n v) s fun t =>
          t.reg (Reg.netPreempt n) = v ∧ t.reg (Reg.netPreemptState n) =
            (if v = 0 then 0 else if s.reg (Reg.netPreemptState n) = 0 then 1 else s.reg (Reg.netPreemptState n)) ∧
          t.answer.status = 0 ∧ SameRegs s t [Reg.netPreempt n, Reg.netPreemptState n] ∧ SameMem s t) ∧
      (n.val < 8 ∨ 128 ≤ v ∨ s.nat (Reg.netMode n) < 3 → Answers (.netPreempt n v) s 0x13)) ∧
    (∀ ok, (s.reg (Reg.netPreemptState n) = 1 → Runs (.preemptVerifyDone n ok) s fun t =>
        t.reg (Reg.netPreemptState n) = (if ok then 2 else 3) ∧ SameRegs s t [Reg.netPreemptState n] ∧ t.units = s.units) ∧
      (s.reg (Reg.netPreemptState n) ≠ 1 → exec (.preemptVerifyDone n ok) s = .next s)) ∧
    (∀ (q mss : Nat) (head payload : List Byte),
      (segHead head = none ∨ 6 < q ∨ mss < 64 ∨ 9000 < mss ∨ 262144 < payload.length ∨
          9216 < head.length + min mss payload.length + 4 → Runs (.segSend n q mss head payload) s fun t =>
        t.reg Reg.segRefused = (s.reg Reg.segRefused + 1) % 4294967296 ∧ SameRegs s t [Reg.segRefused] ∧ t.units = s.units) ∧
      (segHead head ≠ none → q ≤ 6 → 64 ≤ mss → mss ≤ 9000 → payload.length ≤ 262144 →
        head.length + min mss payload.length + 4 ≤ 9216 → Runs (.segSend n q mss head payload) s fun t =>
          t.reg Reg.segSends = (s.reg Reg.segSends + 1) % 4294967296 ∧
          t.reg Reg.segFrames =
            (s.reg Reg.segFrames + max 1 ((payload.length + mss - 1) / mss : Nat)) % 18446744073709551616 ∧
          (s.reg (Reg.netLink n) ≠ 1 → t.reg (Reg.dropLink n) =
            (s.reg (Reg.dropLink n) + max 1 ((payload.length + mss - 1) / mss : Nat)) % 4294967296) ∧ SameMem s t)) ∧
    (bit (s.reg Reg.synceTxMask) n = true →
      (∀ q, (s.port n).esmcSent = some q → q.1 ≠ s.esmcQl n ∨ q.2 + 1000000000 ≤ s.timeNs) →
      Runs (.esmcTx n) s fun t => t.answer.sent = true ∧
        (∃ event, t.answer.bytes = s.esmcPdu (s.esmcQl n) event) ∧
        (t.port n).esmcSent = some ((s.esmcQl n, s.timeNs) : Nat × Nat) ∧ SameRegs s t [] ∧ SameMem s t) ∧
    (bit (s.reg Reg.synceTxMask) n = false ∨
      (∃ q, (s.port n).esmcSent = some q ∧ q.1 = s.esmcQl n ∧ s.timeNs < q.2 + 1000000000) →
      exec (.esmcTx n) s = .next s) ∧
    (∀ k now, (s.port n).esmcAt = some k →
      (k + 5000000000 ≤ now → Runs (.esmcTimeout n now) s fun t =>
        t.reg (Reg.netEsmcQl n) = 0xF ∧ (t.port n).esmcAt = none ∧ SameMem s t) ∧
      (now < k + 5000000000 → exec (.esmcTimeout n now) s = .next s)) ∧
    (∀ now, (s.port n).esmcAt = none → exec (.esmcTimeout n now) s = .next s)

/-- Streams start and stop. RX_START, TX_START, RX_STOP and TX_STOP by a plot that does not hold the stream answer ACCESS; a start whose configuration is good, or of a stream that runs, joins the actions with status 1, a stopped stream STARTING, and one whose configuration is not reports the code of the first check; a stop joins them, or cancels a start that has not acted. At its boundary a start runs a stream that is STARTING and waits for one that is STOPPING, a stop takes a running stream to STOPPING and ends one that is STARTING, both together are discarded, and what is not due stays; STREAM_STOP_COMPLETE one tick later ends the stream. -/
def Obligations.StreamsStartAndStop : Prop :=
  ∀ (p : Fin 16) (t : Fin 1024) (rx : Bool) (at_ : Option (Nat × Bool)) (s : State),
    (s.streamPlot rx t ≠ some p.val →
      Answers (if rx then .rxStart p t at_ else .txStart p t at_) s 0x11 ∧
      Answers (if rx then .rxStop p t at_ else .txStop p t at_) s 0x11) ∧
    (∀ c : Nat, s.streamPlot rx t = some p.val → s.actAt p at_ = .error c →
      Answers (if rx then .rxStart p t at_ else .txStart p t at_) s c ∧
      Answers (if rx then .rxStop p t at_ else .txStop p t at_) s c) ∧
    (∀ due code : Nat, s.streamPlot rx t = some p.val → s.actAt p at_ = .ok (due, code) →
      ((s.reg (streamRegs rx t).1 ≠ 0 ∧ s.reg (streamRegs rx t).1 ≠ 3) ∨
          (if rx then s.rxCode p t else s.txCode p t) = none →
        Runs (if rx then .rxStart p t at_ else .txStart p t at_) s fun u =>
          u.streamActs rx t = s.streamActs rx t ++ [(due, true)] ∧ u.reg (streamRegs rx t).2 = 1 ∧
          u.reg (streamRegs rx t).1 = (if s.reg (streamRegs rx t).1 = 0 then 1 else s.reg (streamRegs rx t).1) ∧
          u.answer.status = code ∧
          SameRegs s u [(streamRegs rx t).1, (streamRegs rx t).2, Reg.mcCount] ∧ SameMem s u) ∧
      (∀ c : Nat, s.reg (streamRegs rx t).1 = 0 ∨ s.reg (streamRegs rx t).1 = 3 →
        (if rx then s.rxCode p t else s.txCode p t) = some c →
        Runs (if rx then .rxStart p t at_ else .txStart p t at_) s fun u => u.reg (streamRegs rx t).2 = c ∧
          SameRegs s u [(streamRegs rx t).2] ∧ u.units = s.units) ∧
      (s.reg (streamRegs rx t).1 = 1 → at_ = none → Runs (if rx then .rxStop p t at_ else .txStop p t at_) s fun u =>
        u.streamActs rx t = [] ∧ u.reg (streamRegs rx t).1 = 0 ∧ u.reg (streamRegs rx t).2 = 0 ∧
        SameRegs s u [(streamRegs rx t).1, (streamRegs rx t).2, Reg.mcCount] ∧ SameMem s u) ∧
      (s.reg (streamRegs rx t).1 ≠ 1 ∨ at_ ≠ none →
        Runs (if rx then .rxStop p t at_ else .txStop p t at_) s fun u =>
          u.streamActs rx t = s.streamActs rx t ++ [(due, false)] ∧ u.reg (streamRegs rx t).2 = 1 ∧
          u.answer.status = code ∧ SameRegs s u [(streamRegs rx t).2] ∧ SameMem s u)) ∧
    (∀ due rest : List (Nat × Bool), (s.streamActs rx t).filter (fun e => decide (e.1 ≤ s.tick)) = due →
      (s.streamActs rx t).filter (fun e => !decide (e.1 ≤ s.tick)) = rest →
      (∀ k, due = [(k, true)] →
        (s.reg (streamRegs rx t).1 = 1 → Runs (.streamCmdApply rx t) s fun u => u.streamActs rx t = rest ∧
          u.reg (streamRegs rx t).1 = 2 ∧ u.reg (streamRegs rx t).2 = 0 ∧
          (if rx then (u.rx t).startT else (u.tx t).startT) = s.tick ∧
          SameRegs s u [(streamRegs rx t).1, (streamRegs rx t).2] ∧ SameMem s u) ∧
        (s.reg (streamRegs rx t).1 = 3 → Runs (.streamCmdApply rx t) s fun u => u.streamActs rx t = s.streamActs rx t ∧
          u.reg (streamRegs rx t).2 = 1 ∧ SameRegs s u [(streamRegs rx t).2] ∧ SameMem s u) ∧
        (s.reg (streamRegs rx t).1 ≠ 1 → s.reg (streamRegs rx t).1 ≠ 3 → Runs (.streamCmdApply rx t) s fun u =>
          u.streamActs rx t = rest ∧ u.reg (streamRegs rx t).2 = 0 ∧ SameRegs s u [(streamRegs rx t).2] ∧ SameMem s u)) ∧
      (∀ k, due = [(k, false)] →
        (s.reg (streamRegs rx t).1 = 2 → Runs (.streamCmdApply rx t) s fun u => u.streamActs rx t = rest ∧
          u.reg (streamRegs rx t).1 = 3 ∧ u.reg (streamRegs rx t).2 = 0 ∧
          (if rx then (u.rx t).stopT else (u.tx t).stopT) = some s.tick ∧
          SameRegs s u [(streamRegs rx t).1, (streamRegs rx t).2] ∧ SameMem s u) ∧
        (s.reg (streamRegs rx t).1 = 1 → Runs (.streamCmdApply rx t) s fun u => u.streamActs rx t = [] ∧
          u.reg (streamRegs rx t).1 = 0 ∧ u.reg (streamRegs rx t).2 = 0 ∧ SameMem s u) ∧
        (s.reg (streamRegs rx t).1 ≠ 1 → s.reg (streamRegs rx t).1 ≠ 2 → Runs (.streamCmdApply rx t) s fun u =>
          u.streamActs rx t = rest ∧ u.reg (streamRegs rx t).2 = 0 ∧ SameRegs s u [(streamRegs rx t).2] ∧ SameMem s u)) ∧
      (∀ k j, due = [(k, true), (j, false)] → Runs (.streamCmdApply rx t) s fun u => u.streamActs rx t = rest ∧
        (s.reg (streamRegs rx t).1 ≠ 1 → u.reg (streamRegs rx t).1 = s.reg (streamRegs rx t).1) ∧ SameMem s u) ∧
      (due = [] → exec (.streamCmdApply rx t) s = .next s)) ∧
    (∀ k, (if rx then (s.rx t).stopT else (s.tx t).stopT) = some k →
      (s.reg (streamRegs rx t).1 = 3 → k + 1 ≤ s.tick → Runs (.streamStopComplete rx t) s fun u =>
        u.reg (streamRegs rx t).1 = (if (s.streamActs rx t).any (·.2) then 1 else 0) ∧
        (if rx then (u.rx t).stopT else (u.tx t).stopT) = none ∧
        SameRegs s u [(streamRegs rx t).1, Reg.mcCount] ∧ SameMem s u) ∧
      (s.reg (streamRegs rx t).1 ≠ 3 ∨ s.tick ≤ k → exec (.streamStopComplete rx t) s = .next s)) ∧
    ((if rx then (s.rx t).stopT else (s.tx t).stopT) = none → exec (.streamStopComplete rx t) s = .next s)

/-- Play-out of a receive stream. PLAYOUT_DEADLINE of a running stream in the house domain closes the ingest tick's block: RX_CONCEALED counts it where a sample is missing, and no other register but those of its non-audio detectors changes; the block of each channel of a stream without detectors, ramp or stop is delivered as the packets gave it. A stream that does not run, is not in the house domain, or whose block is closed, stays as it is. -/
def Obligations.StreamPlayOut : Prop :=
  ∀ (t : Fin 1024) (s : State),
    (s.reg (Reg.rxState t) = 2 → s.reg (Reg.rxDomain t) = 0 → (s.rx t).closed = false →
      s.nat (Reg.rxLinkOffset t) ≤ s.tick →
      Runs (.playoutDeadline t) s (fun u => (u.rx t).closed = true ∧
        (u.rx t).concealed = ((List.range (s.nat (Reg.rxChannels t))).any fun ch =>
          (s.rxBlock t ch (s.tick - s.nat (Reg.rxLinkOffset t))).any Option.isNone) ∧
        u.reg (Reg.rxConcealed t) = (if (u.rx t).concealed then (s.reg (Reg.rxConcealed t) + 1) % 4294967296
          else s.reg (Reg.rxConcealed t)) ∧
        SameRegs s u [Reg.rxConcealed t, Reg.rxNaState t, Reg.rxNaEvents t] ∧ SameMem s u) ∧
      ∀ (ch : Nat) (v : List RxSample), ch < s.nat (Reg.rxChannels t) → s.reg (Reg.rxNonaudio t) = 0 →
        s.reg (Reg.rxNaState t) = 0 → (s.rx t).pairs = [] → (s.rx t).rampUp = false → (s.rx t).stopT = none →
        s.rxBlock t ch (s.tick - s.nat (Reg.rxLinkOffset t)) = v.map some → Runs (.playoutDeadline t) s fun u =>
          NTable.get [] u.ingest (sigOf 2 (s.nat (Reg.rxChBase t) + ch)) = v.map fun x => x.v) ∧
    (s.reg (Reg.rxState t) ≠ 2 ∨ s.reg (Reg.rxDomain t) ≠ 0 ∨ (s.rx t).closed = true ∨
      s.tick < s.nat (Reg.rxLinkOffset t) → exec (.playoutDeadline t) s = .next s)

/-- Frames at a NET port. A frame on a port without link changes no more than the count of its fragments; one with a reassembly or FCS error, or outside 64 to 9,216 bytes, is counted and discarded; a good one is counted, and one to a reserved address that no service takes, or on a port that is no member of its VID, is filtered. A VLAN frame whose unicast destination has an entry on another member port joins that port's queue in the egress form of the VLAN, with the queue of its PCP; one whose destination has its entry on the port it came in by counts DROP_FILTER; either is learnt from where the port and the VID learn. -/
def Obligations.ForwardedFrames : Prop :=
  ∀ (n : Fin 24) (f : RxFrame) (h : EthHead) (vid pcp : Nat) (s : State), ethHead f.data = h → s.vidOf n h = (vid, pcp) →
    (s.reg (Reg.netLink n) ≠ 1 → Runs (.frameRx n f) s fun t => SameRegs s t [Reg.netMmFrag n] ∧ t.units = s.units) ∧
    (s.reg (Reg.netLink n) = 1 → f.mmErr = true → Runs (.frameRx n f) s fun t =>
      t.reg (Reg.netMmErr n) = (s.reg (Reg.netMmErr n) + 1) % 4294967296 ∧
        SameRegs s t [Reg.netMmErr n, Reg.netMmFrag n] ∧ t.units = s.units) ∧
    (s.reg (Reg.netLink n) = 1 → f.mmErr = false → f.fcsOk = false → Runs (.frameRx n f) s fun t =>
      t.reg (Reg.rxFcsErr n) = (s.reg (Reg.rxFcsErr n) + 1) % 4294967296 ∧
        SameRegs s t [Reg.rxFcsErr n, Reg.netMmFrag n] ∧ t.units = s.units) ∧
    (s.reg (Reg.netLink n) = 1 → f.mmErr = false → f.fcsOk = true → (f.data.length < 60 ∨ 9212 < f.data.length) →
      Runs (.frameRx n f) s fun t => t.reg (Reg.rxSizeErr n) = (s.reg (Reg.rxSizeErr n) + 1) % 4294967296 ∧
        SameRegs s t [Reg.rxSizeErr n, Reg.netMmFrag n] ∧ t.units = s.units) ∧
    (s.reg (Reg.netLink n) = 1 → f.mmErr = false → f.fcsOk = true → 60 ≤ f.data.length → f.data.length ≤ 9212 →
      h.ty ≠ 0x8808 →
      (f.data.take 5 = [0x01, 0x80, 0xC2, 0x00, 0x00] → leAt f.data 5 1 < 16 → leAt f.data 5 1 ≠ 1 → leAt f.data 5 1 ≠ 2 →
        leAt f.data 5 1 ≠ 14 → Runs (.frameRx n f) s fun t =>
          t.reg (Reg.rxFiltered n) = (s.reg (Reg.rxFiltered n) + 1) % 4294967296 ∧
          t.reg (Reg.rxFrames n) = (s.reg (Reg.rxFrames n) + 1) % 18446744073709551616 ∧
          SameRegs s t [Reg.rxFiltered n, Reg.rxFrames n, Reg.rxOctets n, Reg.netMmFrag n] ∧ t.units = s.units) ∧
      (f.data.take 5 ≠ [0x01, 0x80, 0xC2, 0x00, 0x00] → s.member vid n = false → Runs (.frameRx n f) s fun t =>
          t.reg (Reg.rxFiltered n) = (s.reg (Reg.rxFiltered n) + 1) % 4294967296 ∧
          SameRegs s t [Reg.rxFiltered n, Reg.rxFrames n, Reg.rxOctets n, Reg.netMmFrag n] ∧ t.units = s.units) ∧
      ∀ e, f.data.take 5 ≠ [0x01, 0x80, 0xC2, 0x00, 0x00] → s.nat (Reg.netAccept n) = 0 → s.member vid n = true →
        s.ptpTrap n f.data = false → isGroup h.dst = false → s.fdbFind h.dst (s.nat (Reg.vlanFid vid)) = some e →
        (e.port = n.val → Runs (.frameRx n f) s fun t =>
          t.reg (Reg.dropFilter n) = (s.reg (Reg.dropFilter n) + 1) % 4294967296 ∧
          t.reg (Reg.rxFrames n) = (s.reg (Reg.rxFrames n) + 1) % 18446744073709551616 ∧ t.net.ports = s.net.ports ∧
          t.net.learn = (if s.reg (Reg.netLearn n) = 1 ∧ s.reg (Reg.vlanLearn vid) = 1 ∧ isGroup h.src = false
            then s.net.learn ++ [⟨f.stamp / 8 * 8, n.val, h.src, s.nat (Reg.vlanFid vid)⟩] else s.net.learn) ∧
          SameRegs s t [Reg.dropFilter n, Reg.rxFrames n, Reg.rxOctets n, Reg.netMmFrag n] ∧ SameMem s t) ∧
        (∀ q : Nat, q = s.nat (Reg.netPcpMap n) / 16 ^ pcp % 8 → e.port ≠ n.val → e.port < 24 →
          s.member vid e.port = true → s.reg (Reg.netLink e.port) = 1 → (s.port e.port).queue = [] →
          f.last < (s.port e.port).busy → q < 7 →
          cellsOf (max 64 ((s.egressForm e.port vid pcp h f.data).length + 4)) ≤ s.queueCells e.port q →
          Runs (.frameRx n f) s fun t => ∃ g : QFrame, (t.port e.port).queue = [g] ∧ g.q = q ∧
            g.body = s.egressForm e.port vid pcp h f.data ∧ g.stamp = f.stamp ∧ g.ingress = some n.val ∧
            t.reg (Reg.rxFrames n) = (s.reg (Reg.rxFrames n) + 1) % 18446744073709551616 ∧
            t.reg (Reg.rxOctets n) = (s.reg (Reg.rxOctets n) + (f.data.length + 4)) % 18446744073709551616 ∧
            t.net.learn = (if s.reg (Reg.netLearn n) = 1 ∧ s.reg (Reg.vlanLearn vid) = 1 ∧ isGroup h.src = false
              then s.net.learn ++ [⟨f.stamp / 8 * 8, n.val, h.src, s.nat (Reg.vlanFid vid)⟩] else s.net.learn) ∧
            SameRegs s t [Reg.rxFrames n, Reg.rxOctets n, Reg.netMmFrag n] ∧ SameMem s t))

/-- The forwarding and multicast tables. LEARN_EVENT_APPLY applies the first waiting event 2 us after its timestamp: a new key enters the table, or is counted where its bucket has no way; a known one on its own port is marked used; one on another port moves an entry, or is counted where that is static or pinned. A flap window of 1 s that ends with the entry unpinned resets its moves; a pin older than BR_FLAP_HOLD is released; AGE_SCAN_VISIT takes a used dynamic entry to unused, idle and removed in turn; NET_FLUSH removes the port's dynamic entries; FDB_ADD, FDB_DEL, MC_ADD and MC_DEL take a batch whole with status 0 or leave the table with a code. -/
def Obligations.ForwardingTables : Prop :=
  ∀ (now fid : Nat) (mac b : List Byte) (n : Fin 24) (s : State),
    (∀ (v : LearnEv) (rest : List LearnEv), sortBy learnLe s.net.learn = v :: rest →
      (v.time + 2000 ≤ now → s.fdbFind v.mac v.fid = none →
        (fdbRoom s.net.fdb v.mac v.fid = true → Runs (.learnEventApply now) s fun t =>
          t.net.fdb = s.net.fdb ++ [{ mac := v.mac, fid := v.fid, port := v.port, hit := true }] ∧ t.net.learn = rest ∧
          t.reg Reg.brFdbCount = (s.net.fdb.length + 1 : Nat) ∧ SameRegs s t [Reg.brFdbCount, Reg.brFlapAlarm] ∧ SameMem s t) ∧
        (fdbRoom s.net.fdb v.mac v.fid = false → Runs (.learnEventApply now) s fun t => t.net.fdb = s.net.fdb ∧
          t.net.learn = rest ∧ t.reg Reg.brLearnFull = (s.reg Reg.brLearnFull + 1) % 4294967296 ∧
          SameRegs s t [Reg.brLearnFull] ∧ SameMem s t)) ∧
      (∀ e : FdbEntry, v.time + 2000 ≤ now → s.fdbFind v.mac v.fid = some e →
        (e.port = v.port → Runs (.learnEventApply now) s fun t =>
          t.fdbFind v.mac v.fid = some { e with hit := true, idle := false } ∧ t.net.learn = rest ∧ SameRegs s t [] ∧ SameMem s t) ∧
        (e.port ≠ v.port → e.static = true → Runs (.learnEventApply now) s fun t => t.net.fdb = s.net.fdb ∧
          t.net.learn = rest ∧ t.reg Reg.brStaticConflict = (s.reg Reg.brStaticConflict + 1) % 4294967296 ∧
          SameRegs s t [Reg.brStaticConflict] ∧ SameMem s t) ∧
        (e.port ≠ v.port → e.static = false → e.pinned = true → Runs (.learnEventApply now) s fun t => t.net.fdb = s.net.fdb ∧
          t.net.learn = rest ∧ t.reg Reg.brFlapBlocked = (s.reg Reg.brFlapBlocked + 1) % 4294967296 ∧
          SameRegs s t [Reg.brFlapBlocked] ∧ SameMem s t) ∧
        (e.port ≠ v.port → e.static = false → e.pinned = false → e.moves < 16 → Runs (.learnEventApply now) s fun t =>
          (t.fdbFind v.mac v.fid).any (fun x => x.port == v.port && x.hit) = true ∧ t.net.learn = rest ∧
          t.reg Reg.brMoves = (s.reg Reg.brMoves + 1) % 4294967296 ∧ SameRegs s t [Reg.brMoves] ∧ SameMem s t)) ∧
      (now < v.time + 2000 → exec (.learnEventApply now) s = .next s)) ∧
    (s.net.learn = [] → exec (.learnEventApply now) s = .next s) ∧
    Runs (.flapWindowEnd now) s (fun t => t.net.fdb.length = s.net.fdb.length ∧
      (∀ e ∈ s.net.fdb, ∀ w, e.window = some w → e.pinned = false → w + 1000000000 ≤ now →
        { e with moves := 0, window := none } ∈ t.net.fdb) ∧
      (∀ e ∈ t.net.fdb, ∀ w, e.window = some w → e.pinned = true ∨ now < w + 1000000000) ∧ SameRegs s t [] ∧ SameMem s t) ∧
    Runs (.flapHoldExpire now) s (fun t => t.net.fdb.length = s.net.fdb.length ∧
      (∀ e ∈ s.net.fdb, e.pinned = true → e.pinAt + s.nat Reg.brFlapHold * 1000000000 ≤ now →
        { e with pinned := false, moves := 0, window := none } ∈ t.net.fdb) ∧
      (∀ e ∈ t.net.fdb, e.pinned = true → now < e.pinAt + s.nat Reg.brFlapHold * 1000000000) ∧
      SameRegs s t [Reg.brFdbCount, Reg.brFlapAlarm] ∧ SameMem s t) ∧
    (∀ e : FdbEntry, s.fdbFind mac fid = some e →
      (e.static = false → s.reg Reg.brAgeTime ≠ 0 →
        (∀ k, e.visited = some k → k + s.nat Reg.brAgeTime * 500000000 ≤ s.timeNs) →
        Runs (.ageScanVisit mac fid) s fun t => t.fdbFind mac fid =
          (if e.hit then some { e with hit := false, idle := false, visited := some s.timeNs } else if e.idle then none
            else some { e with idle := true, visited := some s.timeNs }) ∧
          SameRegs s t [Reg.brFdbCount, Reg.brFlapAlarm] ∧ SameMem s t) ∧
      (e.static = true ∨ s.reg Reg.brAgeTime = 0 → exec (.ageScanVisit mac fid) s = .next s)) ∧
    (s.fdbFind mac fid = none → exec (.ageScanVisit mac fid) s = .next s) ∧
    Runs (.netFlush n) s (fun t => t.net.fdb = s.net.fdb.filter (fun e => e.static || e.port != n.val) ∧
      t.answer.status = 0 ∧ SameRegs s t [Reg.brFdbCount, Reg.brFlapAlarm] ∧ SameMem s t) ∧
    (∀ rs : List (List Byte), records 16 b = rs →
      (b.length % 16 = 0 → rs ≠ [] → rs.length ≤ 256 →
        (rs.all fdbRecordOk = true →
          (∀ l, addStatics s.net.fdb rs = some l → Runs (.fdbAdd b) s fun t => t.net.fdb = l ∧ t.reg Reg.fdbStatus = 0 ∧
            SameRegs s t [Reg.fdbStatus, Reg.brFdbCount, Reg.brFlapAlarm] ∧ SameMem s t) ∧
          (addStatics s.net.fdb rs = none → Runs (.fdbAdd b) s fun t => t.reg Reg.fdbStatus = 0x11 ∧
            SameRegs s t [Reg.fdbStatus] ∧ t.units = s.units)) ∧
        ((∀ r ∈ rs, ∃ e ∈ s.net.fdb, e.is (r.take 6) (leAt r 6 1) = true) → Runs (.fdbDel b) s fun t =>
          t.net.fdb = s.net.fdb.filter (fun e => !(rs.any fun r => e.is (r.take 6) (leAt r 6 1))) ∧
          t.reg Reg.fdbStatus = 0 ∧ SameRegs s t [Reg.fdbStatus, Reg.brFdbCount, Reg.brFlapAlarm] ∧ SameMem s t) ∧
        (∀ r ∈ rs, (∀ e ∈ s.net.fdb, e.is (r.take 6) (leAt r 6 1) = false) → Runs (.fdbDel b) s fun t =>
          t.reg Reg.fdbStatus = 0x12 ∧ SameRegs s t [Reg.fdbStatus] ∧ t.units = s.units) ∧
        (rs.all mcRecordOk = true →
          (∀ l, addMc s.net.mc rs = .ok l → Runs (.mcAdd b) s fun t => t.net.mc = l ∧ t.reg Reg.mcStatus = 0 ∧
            t.reg Reg.mcCount = l.length ∧ SameRegs s t [Reg.mcStatus, Reg.mcCount] ∧ SameMem s t) ∧
          (∀ c : Nat, addMc s.net.mc rs = .error c → Runs (.mcAdd b) s fun t => t.reg Reg.mcStatus = c ∧
            SameRegs s t [Reg.mcStatus] ∧ t.units = s.units)) ∧
        ((∀ r ∈ rs, ∃ e ∈ s.net.mc, e.mac = r.take 6 ∧ e.fid = leAt r 6 1) → Runs (.mcDel b) s fun t =>
          (∀ e ∈ t.net.mc, (∀ r ∈ rs, e.mac ≠ r.take 6 ∨ e.fid ≠ leAt r 6 1) ∨ (e.engine = true ∧ e.gardener = false)) ∧
          t.reg Reg.mcStatus = 0 ∧ t.reg Reg.mcCount = t.net.mc.length ∧ SameRegs s t [Reg.mcStatus, Reg.mcCount] ∧
          SameMem s t) ∧
        (∀ r ∈ rs, (∀ e ∈ s.net.mc, e.mac ≠ r.take 6 ∨ e.fid ≠ leAt r 6 1) → Runs (.mcDel b) s fun t =>
          t.reg Reg.mcStatus = 0x12 ∧ SameRegs s t [Reg.mcStatus] ∧ t.units = s.units)) ∧
      (b.length % 16 ≠ 0 ∨ rs = [] ∨ 256 < rs.length →
        Runs (.fdbAdd b) s (fun t => t.reg Reg.fdbStatus = 0x10 ∧ SameRegs s t [Reg.fdbStatus] ∧ t.units = s.units) ∧
        Runs (.fdbDel b) s (fun t => t.reg Reg.fdbStatus = 0x10 ∧ SameRegs s t [Reg.fdbStatus] ∧ t.units = s.units) ∧
        Runs (.mcAdd b) s (fun t => t.reg Reg.mcStatus = 0x10 ∧ SameRegs s t [Reg.mcStatus] ∧ t.units = s.units) ∧
        Runs (.mcDel b) s (fun t => t.reg Reg.mcStatus = 0x10 ∧ SameRegs s t [Reg.mcStatus] ∧ t.units = s.units)))

/-- Serial audio ports: requests and states. SAP_START joins the actions with status 1, or, of a port that is OFF, reports the code of its first failed check; SAP_STOP joins them. A due start takes a port from OFF to PREROLL and from RAMPDOWN or POSTROLL to RUNNING, a due stop from RUNNING to RAMPDOWN and from PREROLL to POSTROLL; in other states they change the status alone. SAP_PREROLL_END enters RUNNING at a boundary, SAP_RAMPDOWN_END enters POSTROLL once the gain is 0, SAP_POSTROLL_END enters OFF. SAP_CLOCK_LOST of a slave counts the loss and ends a POSTROLL, SAP_MUTE waits for its boundary, SAP_EVENT_CLEAR clears the bits it names; where its condition does not hold each leaves the port as it is. -/
def Obligations.SerialPortCommands : Prop :=
  ∀ (p : Fin 16) (n : Fin 128) (s : State),
    (∀ at_, s.sapPlot n ≠ some p.val → Answers (.sapStart p n at_) s 0x11 ∧ Answers (.sapStop p n at_) s 0x11) ∧
    (∀ at_ c, s.sapPlot n = some p.val → s.actAt p at_ = .error c → Answers (.sapStart p n at_) s c ∧
      Answers (.sapStop p n at_) s c) ∧
    (∀ at_ due code, s.sapPlot n = some p.val → s.actAt p at_ = .ok (due, code) →
      (s.reg (Reg.sapState n) ≠ 0 ∨ s.sapCode p n = none → Runs (.sapStart p n at_) s fun t =>
        (t.sap n).acts = (s.sap n).acts ++ [(due, true, at_.isSome)] ∧ t.reg (Reg.sapStatus n) = 1 ∧
        t.answer.status = code ∧ SameRegs s t [Reg.sapStatus n] ∧ SameMem s t) ∧
      (∀ c, s.reg (Reg.sapState n) = 0 → s.sapCode p n = some c → Runs (.sapStart p n at_) s fun t =>
        t.reg (Reg.sapStatus n) = c ∧ SameRegs s t [Reg.sapStatus n] ∧ t.units = s.units) ∧
      Runs (.sapStop p n at_) s (fun t => (t.sap n).acts = (s.sap n).acts ++ [(due, false, at_.isSome)] ∧
        t.reg (Reg.sapStatus n) = 1 ∧ t.answer.status = code ∧ SameRegs s t [Reg.sapStatus n] ∧ SameMem s t)) ∧
    (∀ due rest, (s.sap n).acts.filter (fun e => decide (e.1 ≤ s.tick)) = due →
      (s.sap n).acts.filter (fun e => !decide (e.1 ≤ s.tick)) = rest →
      (∀ k v, due = [(k, true, v)] →
        (s.reg (Reg.sapState n) = 0 → v = false ∨ s.sapCode ((s.sapPlot n).getD 16) n = none →
          Runs (.sapCmdApply n) s fun t => t.reg (Reg.sapState n) = 1 ∧ t.reg (Reg.sapFrames n) = 0 ∧
            (t.sap n).left = s.nat (Reg.sapPreroll n) ∧ (t.sap n).acts = rest ∧
            SameRegs s t [Reg.sapState n, Reg.sapFrames n] ∧ SameMem s t) ∧
        (s.reg (Reg.sapState n) = 3 ∨ s.reg (Reg.sapState n) = 4 → Runs (.sapCmdApply n) s fun t =>
          t.reg (Reg.sapState n) = 2 ∧ (t.sap n).gDir = 1 ∧ (t.sap n).acts = rest ∧ SameRegs s t [Reg.sapState n] ∧
          SameMem s t) ∧
        (s.reg (Reg.sapState n) = 1 ∨ s.reg (Reg.sapState n) = 2 → Runs (.sapCmdApply n) s fun t =>
          t.reg (Reg.sapStatus n) = 0 ∧ (t.sap n).acts = rest ∧ SameRegs s t [Reg.sapStatus n] ∧ SameMem s t)) ∧
      (∀ k v, due = [(k, false, v)] →
        (s.reg (Reg.sapState n) = 2 → Runs (.sapCmdApply n) s fun t => t.reg (Reg.sapState n) = 3 ∧ (t.sap n).gDir = 2 ∧
          (t.sap n).acts = rest ∧ SameRegs s t [Reg.sapState n] ∧ SameMem s t) ∧
        (s.reg (Reg.sapState n) = 1 → Runs (.sapCmdApply n) s fun t => t.reg (Reg.sapState n) = 4 ∧
          (t.sap n).left = s.nat (Reg.sapPostroll n) ∧ (t.sap n).acts = rest ∧ SameRegs s t [Reg.sapState n] ∧ SameMem s t) ∧
        (s.reg (Reg.sapState n) ≠ 1 → s.reg (Reg.sapState n) ≠ 2 → Runs (.sapCmdApply n) s fun t =>
          t.reg (Reg.sapStatus n) = 0 ∧ (t.sap n).acts = rest ∧ SameRegs s t [Reg.sapStatus n] ∧ SameMem s t)) ∧
      (due = [] → exec (.sapCmdApply n) s = .next s)) ∧
    (s.reg (Reg.sapState n) = 1 → (s.sap n).left = 0 →
      (s.cycle = 0 → Runs (.sapPrerollEnd n) s fun t => t.reg (Reg.sapState n) = 2 ∧ (t.sap n).gDir = 1 ∧
        SameRegs s t [Reg.sapState n, Reg.sapStatus n] ∧ SameMem s t) ∧
      (s.cycle ≠ 0 → Runs (.sapPrerollEnd n) s fun t => (t.sap n).ready = true ∧ SameRegs s t [] ∧ SameMem s t)) ∧
    (s.reg (Reg.sapState n) ≠ 1 ∨ (s.sap n).left ≠ 0 → exec (.sapPrerollEnd n) s = .next s) ∧
    (∀ k, gainPos (s.sap n).gPos (s.sap n).gLen (s.sap n).gDir
        (if s.sapH n then s.cycle * s.sapN n / 192000 else 0) = k →
      (s.reg (Reg.sapState n) = 3 → k = 0 → Runs (.sapRampdownEnd n) s fun t => t.reg (Reg.sapState n) = 4 ∧
        (t.sap n).left = s.nat (Reg.sapPostroll n) ∧ SameRegs s t [Reg.sapState n] ∧ SameMem s t) ∧
      (s.reg (Reg.sapState n) ≠ 3 ∨ k ≠ 0 → exec (.sapRampdownEnd n) s = .next s)) ∧
    (s.reg (Reg.sapState n) = 4 → (s.sap n).left = 0 → Runs (.sapPostrollEnd n) s fun t => t.reg (Reg.sapState n) = 0 ∧
      (t.sap n).sdo = [] ∧ SameRegs s t [Reg.sapState n, Reg.sapStatus n] ∧ SameMem s t) ∧
    (s.reg (Reg.sapState n) ≠ 4 ∨ (s.sap n).left ≠ 0 → exec (.sapPostrollEnd n) s = .next s) ∧
    (∀ now, s.reg (Reg.sapState n) ≠ 0 → s.sapSlave n = true → (s.sap n).lost = false →
      (if s.nat (Reg.sapRateClass n) = 0 then (s.sap n).lastFrame + 125000 ≤ now
        else 4000000000 ≤ (now - (s.sap n).lastFrame) * s.nat (Reg.sapRateClass n)) → Runs (.sapClockLost n now) s fun t =>
        t.reg (Reg.sapClkLost n) = (s.reg (Reg.sapClkLost n) + 1) % 4294967296 ∧
        bit (t.reg (Reg.sapEvents n)) 1 = true ∧
        (s.reg (Reg.sapState n) ≠ 4 → (t.sap n).lost = true ∧ t.reg (Reg.sapState n) = s.reg (Reg.sapState n)) ∧
        (s.reg (Reg.sapState n) = 4 → t.reg (Reg.sapState n) = 0) ∧
        SameRegs s t [Reg.sapClkLost n, Reg.sapEvents n, Reg.notifyDropped, Reg.sapState n, Reg.sapStatus n] ∧ SameMem s t) ∧
    (∀ now, s.reg (Reg.sapState n) = 0 ∨ s.sapSlave n = false ∨ (s.sap n).lost = true →
      exec (.sapClockLost n now) s = .next s) ∧
    (∀ mute, s.sapPlot n = some p.val → Runs (.sapMute p n mute) s fun t =>
      t.due = s.due ++ [⟨s.actTick, Reg.sapMute n, if mute then 1 else 0⟩] ∧ t.answer.status = 0 ∧ SameRegs s t [] ∧ SameMem s t) ∧
    (∀ m, s.sapPlot n = some p.val → Runs (.sapEventClear p n m) s fun t =>
      t.reg (Reg.sapEvents n) = ((s.nat (Reg.sapEvents n) &&& (65535 - m.val) : Nat) : Int) ∧
      SameRegs s t [Reg.sapEvents n] ∧ t.units = s.units) ∧
    (∀ m mute, s.sapPlot n ≠ some p.val → Answers (.sapEventClear p n m) s 0x11 ∧ Answers (.sapMute p n mute) s 0x11)

/-- Serial frames and non-audio. A SAP_FRAME of a port that is not OFF, with its clock and, in AES3 mode, valid, is counted and timed; on an unsplit port in the house domain whose clock is a master's it stores the words of SDI, left-justified, under the sample that the frame carries. A frame at a port that is OFF counts nothing. NONAUDIO_HOLD_EXPIRE 8,000 ticks after the last firing clears the pair's bit; earlier, or of a pair whose bit is clear, it changes nothing. -/
def Obligations.SerialFramesAndNonaudio : Prop :=
  ∀ (n : Fin 128) (f : SapFrame) (s : State),
    (s.reg (Reg.sapState n) = 0 → Runs (.sapFrame n f) s fun t => SameRegs s t [] ∧
      (t.sap n).count = (s.sap n).count ∧ (t.sap n).frames = (s.sap n).frames ∧ SameMem s t ∧
      (s.sapAes n = false → t = s)) ∧
    (s.reg (Reg.sapState n) ≠ 0 → s.sapHz n ≠ 0 ∨ s.reg (Reg.sapDomain n) = 2 →
      (s.sapAes n = true → ∃ a, f.aes = some a ∧ a.valid = true) → Runs (.sapFrame n f) s fun t =>
        t.reg (Reg.sapFrames n) = (s.reg (Reg.sapFrames n) + 1) % 18446744073709551616 ∧
        (t.sap n).lastFrame = f.time ∧ (t.sap n).count = (s.sap n).count + 1 ∧ SameMem s t) ∧
    (s.sapAes n = false → s.reg (Reg.sapState n) ≠ 0 → s.reg (Reg.sapDomain n) = 0 → s.sapSlave n = false →
      s.sapHz n ≠ 0 → s.sapSplit n = false → s.ownPin n = true → Runs (.sapFrame n f) s fun t =>
        NTable.get [] (t.sap n).frames ((2 * f.time * s.sapHz n + 1000000000) / 2000000000 + 1) =
          (List.range (s.nat (Reg.sapSlots n))).map (fun k => f.words.getD k 0 * 2 ^ (32 - s.nat (Reg.sapDataBits n))) ∧
        SameRegs s t [Reg.sapFrames n, Reg.sapSat n, Reg.sapEvents n, Reg.notifyDropped] ∧ SameMem s t) ∧
    (∀ (t : Fin 1024) (k : Fin 32),
      (∀ fired, (NTable.get {} (s.rx t).pairs k : PairNa).fired = some fired →
        (bit (s.reg (Reg.rxNaState t)) k = true → fired + 8000 ≤ s.tick → Runs (.nonaudioHoldExpire false t k) s fun u =>
          u.reg (Reg.rxNaState t) = clearBit (s.reg (Reg.rxNaState t)) k ∧
          (NTable.get {} (u.rx t).pairs k : PairNa).fired = none ∧ (NTable.get {} (u.rx t).pairs k : PairNa).rampUp = true ∧
          SameRegs s u [Reg.rxNaState t] ∧ SameMem s u) ∧
        (s.tick < fired + 8000 → exec (.nonaudioHoldExpire false t k) s = .next s)) ∧
      ((NTable.get {} (s.rx t).pairs k : PairNa).fired = none ∨ bit (s.reg (Reg.rxNaState t)) k = false →
        exec (.nonaudioHoldExpire false t k) s = .next s)) ∧
    (∀ (t : Fin 1024) (k : Fin 32),
      (∀ fired, (NTable.get {} (s.sap t).pairs k : PairNa).fired = some fired →
        (bit (s.reg (Reg.sapNaState t)) k = true → fired + 8000 ≤ s.tick → Runs (.nonaudioHoldExpire true t k) s fun u =>
          u.reg (Reg.sapNaState t) = clearBit (s.reg (Reg.sapNaState t)) k ∧
          (NTable.get {} (u.sap t).pairs k : PairNa).fired = none ∧ (NTable.get {} (u.sap t).pairs k : PairNa).rampUp = true ∧
          SameRegs s u [Reg.sapNaState t] ∧ SameMem s u) ∧
        (s.tick < fired + 8000 → exec (.nonaudioHoldExpire true t k) s = .next s)) ∧
      ((NTable.get {} (s.sap t).pairs k : PairNa).fired = none ∨ bit (s.reg (Reg.sapNaState t)) k = false →
        exec (.nonaudioHoldExpire true t k) s = .next s))

/-- Power-stage requests. PSC_START of a channel that leads joins the actions with status 1, or reports the code of its first failed check; PSC_STOP joins them; to the second channel of a bridge-tied pair both are ignored. PSC_FAULT_CLEAR in FAULT is noted for the boundary, and else ignored; PSC_EVENT_CLEAR clears the bits it names; PSC_LOOP_COEF gives words for the inactive set, and PSC_LOOP_SWAP_AT a tick, each with BUSY in PSC_STATUS while a swap waits, and with TYPE or RANGE for what they do not take; LOOP_SWAP_APPLY at its tick exchanges the two sets, and without one due changes nothing. -/
def Obligations.PowerStageRequests : Prop :=
  ∀ (p : Fin 16) (n : Fin 64) (s : State),
    (s.pscPlot n ≠ some p.val → (∀ at_, Answers (.pscStart p n at_) s 0x11 ∧ Answers (.pscStop p n at_) s 0x11) ∧
      Answers (.pscFaultClear p n) s 0x11 ∧ (∀ m, Answers (.pscEventClear p n m) s 0x11) ∧
      (∀ words, Answers (.pscLoopCoef p n words) s 0x11) ∧ ∀ k, Answers (.pscLoopSwapAt p n k) s 0x11) ∧
    (∀ at_, s.pscPlot n = some p.val → s.pscLead n ≠ n.val → Answers (.pscStart p n at_) s 0 ∧ Answers (.pscStop p n at_) s 0) ∧
    (∀ at_ c, s.pscPlot n = some p.val → s.pscLead n = n.val → s.actAt p at_ = .error c →
      Answers (.pscStart p n at_) s c ∧ Answers (.pscStop p n at_) s c) ∧
    (∀ at_ due code, s.pscPlot n = some p.val → s.pscLead n = n.val → s.actAt p at_ = .ok (due, code) →
      (s.pscCode p n = none → Runs (.pscStart p n at_) s fun t =>
        (t.psc n).acts = (s.psc n).acts ++ [(due, true, at_.isSome)] ∧ t.reg (Reg.pscStatus n) = 1 ∧
        t.answer.status = code ∧ SameRegs s t [Reg.pscStatus n] ∧ SameMem s t) ∧
      (∀ c, s.pscCode p n = some c → Runs (.pscStart p n at_) s fun t => t.reg (Reg.pscStatus n) = c ∧
        SameRegs s t [Reg.pscStatus n] ∧ t.units = s.units) ∧
      Runs (.pscStop p n at_) s (fun t => (t.psc n).acts = (s.psc n).acts ++ [(due, false, at_.isSome)] ∧
        t.reg (Reg.pscStatus n) = 1 ∧ t.answer.status = code ∧ SameRegs s t [Reg.pscStatus n] ∧ SameMem s t)) ∧
    (s.pscPlot n = some p.val → s.reg (Reg.pscState n) = 6 → Runs (.pscFaultClear p n) s fun t => (t.psc n).clear = true ∧
      t.answer.status = 0 ∧ SameRegs s t [] ∧ SameMem s t) ∧
    (s.pscPlot n = some p.val → s.reg (Reg.pscState n) ≠ 6 → Answers (.pscFaultClear p n) s 0) ∧
    (∀ m, s.pscPlot n = some p.val → Runs (.pscEventClear p n m) s fun t =>
      t.reg (Reg.pscEvents n) = ((s.nat (Reg.pscEvents n) &&& (65535 - m.val) : Nat) : Int) ∧
      SameRegs s t [Reg.pscEvents n] ∧ t.units = s.units) ∧
    (∀ words : List Int, s.pscPlot n = some p.val →
      (words.length = 12 → (∀ w ∈ words, -2147483648 ≤ w ∧ w < 2147483648) →
        ((s.psc n).swapAt = none → Runs (.pscLoopCoef p n words) s fun t =>
          (t.psc n).coefNext = (s.psc n).coefNext ++ [(s.actTick, words)] ∧ (t.psc n).coefs = (s.psc n).coefs ∧
          t.answer.status = 0 ∧ SameRegs s t [] ∧ SameMem s t) ∧
        (∀ k, (s.psc n).swapAt = some k → Runs (.pscLoopCoef p n words) s fun t => t.reg (Reg.pscStatus n) = 0x14 ∧
          SameRegs s t [Reg.pscStatus n] ∧ t.units = s.units)) ∧
      (words.length ≠ 12 ∨ (∃ w ∈ words, w < -2147483648 ∨ 2147483648 ≤ w) → Answers (.pscLoopCoef p n words) s 0x12)) ∧
    (∀ k, s.pscPlot n = some p.val →
      ((s.psc n).swapAt = none → k = 0 ∨ s.actTick ≤ k → Runs (.pscLoopSwapAt p n k) s fun t =>
        (t.psc n).swapAt = some (if k = 0 then s.actTick else k) ∧ t.answer.status = 0 ∧ SameRegs s t [] ∧ SameMem s t) ∧
      ((s.psc n).swapAt = none → k ≠ 0 → k < s.actTick → Answers (.pscLoopSwapAt p n k) s 0x13) ∧
      ((s.psc n).swapAt ≠ none → Runs (.pscLoopSwapAt p n k) s fun t => t.reg (Reg.pscStatus n) = 0x14 ∧
        SameRegs s t [Reg.pscStatus n] ∧ t.units = s.units)) ∧
    (∀ k, (s.psc n).swapAt = some k →
      (k ≤ s.tick → Runs (.loopSwapApply n) s fun t => (t.psc n).coefs = (s.psc n).idle ∧
        (t.psc n).idle = (s.psc n).coefs ∧ (t.psc n).loop = (s.psc n).loop ∧ (t.psc n).swapAt = none ∧
        t.reg (Reg.pscLoopActive n) = 1 - s.reg (Reg.pscLoopActive n) ∧ SameRegs s t [Reg.pscLoopActive n] ∧ SameMem s t) ∧
      (s.tick < k → exec (.loopSwapApply n) s = .next s)) ∧
    ((s.psc n).swapAt = none → exec (.loopSwapApply n) s = .next s)

/-- Power-stage control. At PSC_BOUNDARY a cool channel that is not braced and does not sleep goes at a due start from OFF to PRECHARGE, then to SETTLE, after 8 ticks to RUNNING, at a due stop to STOPPING, with its gain at 0 to the carrier stop, with a trip waiting to FAULT with its code and a count, and when cleared to OFF; a sense group's reading sets the temperatures of its channels. PSC_LOOP_UPDATE of a channel that is not OFF steps its loop period, and of one that switches keeps the duty within PSC_DUTY_MAX. PSC_SENSE_LOSS trips a channel whose clock ought to run; PSC_AUTO_RESTART after an OC trip and its wait begins PRECHARGE; PSC_CARRIER_STOP rests the channel in OFF or DORMANT; PSC_Z_WINDOW_END reports the window and clears its sums; else each changes nothing. -/
def Obligations.PowerStageControl : Prop :=
  ∀ (n : Fin 64) (s : State),
    (s.due.filter (fun d => isPscReg d.reg && decide (d.tick ≤ s.tick)) = [] →
      (∀ x : PscSt, s.pscs = [(n.val, x)] → s.pscLead n = n.val → x.braced = false → x.sensor = false →
        s.reg (Reg.pscTemp n) < 100 * s.reg (Reg.pscThermTrip n) → bit (s.reg (Reg.pscFlags n)) 2 = false →
        x.again = none → x.cstop = false →
        (x.trip = none → x.acts = [] →
          (s.reg (Reg.pscState n) = 1 → x.startB + 1 ≤ s.tick → Runs (.pscBoundary []) s fun t =>
            t.reg (Reg.pscState n) = 2 ∧ SameMem s t) ∧
          (s.reg (Reg.pscState n) = 2 → x.startB + 8 ≤ s.tick → Runs (.pscBoundary []) s fun t =>
            t.reg (Reg.pscState n) = 3 ∧ (t.psc n).gsDir = 1 ∧ SameMem s t) ∧
          (s.reg (Reg.pscState n) = 4 → x.gsTick.gsPos = 0 → Runs (.pscBoundary []) s fun t =>
            t.reg (Reg.pscState n) = 4 ∧ (t.psc n).cstop = true ∧ SameMem s t) ∧
          (s.reg (Reg.pscState n) = 6 → x.clear = true → Runs (.pscBoundary []) s fun t =>
            t.reg (Reg.pscState n) = 0 ∧ t.reg (Reg.pscFault n) = 0 ∧ SameMem s t)) ∧
        (∀ k, x.trip = none → x.acts = [(k, true, false)] → k ≤ s.tick → s.reg (Reg.pscState n) = 0 →
          Runs (.pscBoundary []) s fun t => t.reg (Reg.pscState n) = 1 ∧ t.reg (Reg.pscStatus n) = 0 ∧
            t.reg (Reg.pscFault n) = 0 ∧ (t.psc n).acts = [] ∧ SameMem s t) ∧
        (∀ k v, x.trip = none → x.acts = [(k, false, v)] → k ≤ s.tick →
          (s.reg (Reg.pscState n) = 3 → Runs (.pscBoundary []) s fun t => t.reg (Reg.pscState n) = 4 ∧
            (t.psc n).gsDir = 2 ∧ t.reg (Reg.pscStatus n) = 0 ∧ SameMem s t) ∧
          (s.reg (Reg.pscState n) = 1 → Runs (.pscBoundary []) s fun t => t.reg (Reg.pscState n) = 4 ∧
            (t.psc n).cstop = true ∧ t.reg (Reg.pscStatus n) = 0 ∧ SameMem s t)) ∧
        (∀ c, s.reg (Reg.pscState n) ≠ 0 → x.trip = some c → c ≠ 3 → x.acts = [] → Runs (.pscBoundary []) s fun t =>
          t.reg (Reg.pscState n) = 6 ∧ t.reg (Reg.pscFault n) = c ∧
          t.reg (Reg.pscTrips n) = (s.reg (Reg.pscTrips n) + 1) % 4294967296 ∧ bit (t.reg (Reg.pscEvents n)) 1 = true ∧
          SameMem s t)) ∧
      (∀ (g : Fin 16) (v : Nat) (i : Fin 4), s.pscs = [] → s.blob (Reg.pscTsCal (4 * g.val)) = [] →
        Runs (.pscBoundary [(g, some v)]) s fun t =>
          t.reg (Reg.pscTemp (4 * g.val + i.val)) = roundShift (30000 * (min v 2147483648 : Nat)) 31 - 5000 ∧ SameMem s t)) ∧
    (∀ v i v1 i1,
      (s.pscLead n = n.val → s.reg (Reg.pscState n) ≠ 0 → (s.psc n).k < 384 → Runs (.pscLoopUpdate n v i v1 i1) s fun t =>
        (t.psc n).k = (s.psc n).k + 1 ∧
        (s.reg (Reg.pscState n) = 2 ∨ s.reg (Reg.pscState n) = 3 ∨ s.reg (Reg.pscState n) = 4 →
          0 ≤ s.reg (Reg.pscDutyMax n) → (s.psc n).hard = false →
          (t.psc n).d ≤ s.reg (Reg.pscDutyMax n) * 268435456 ∧ -(s.reg (Reg.pscDutyMax n) * 268435456) ≤ (t.psc n).d) ∧
        SameRegs s t [Reg.pscClamp n, Reg.pscOcCycles n, Reg.pscEvents n, Reg.notifyDropped] ∧ SameMem s t) ∧
      (s.pscLead n ≠ n.val ∨ s.reg (Reg.pscState n) = 0 ∨ 384 ≤ (s.psc n).k →
        exec (.pscLoopUpdate n v i v1 i1) s = .next s)) ∧
    (∀ x : Nat, x = s.pscLead n →
      (1 ≤ s.reg (Reg.pscState x) → s.reg (Reg.pscState x) ≤ 4 → Runs (.pscSenseLoss n) s fun t =>
        (t.psc x).trip = some ((s.psc x).trip.getD 5) ∧ (t.psc x).hard = true ∧ SameRegs s t [] ∧ SameMem s t) ∧
      (s.reg (Reg.pscState x) < 1 ∨ 4 < s.reg (Reg.pscState x) → exec (.pscSenseLoss n) s = .next s)) ∧
    (s.reg (Reg.pscState n) = 6 → s.reg (Reg.pscFault n) = 2 → (s.psc n).latched = false → (s.psc n).noRestart = false →
      (s.psc n).restartAt ≤ s.tick → s.cycle = 0 → Runs (.pscAutoRestart n) s fun t =>
        t.reg (Reg.pscState n) = 1 ∧ t.reg (Reg.pscFault n) = 0 ∧ (t.psc n).startB = s.tick ∧
        SameRegs s t [Reg.pscState n, Reg.pscFault n, Reg.pscState (n.val + 1), Reg.pscFault (n.val + 1)] ∧ SameMem s t) ∧
    (s.reg (Reg.pscState n) ≠ 6 ∨ s.reg (Reg.pscFault n) ≠ 2 ∨ (s.psc n).latched = true ∨ (s.psc n).noRestart = true ∨
      s.tick < (s.psc n).restartAt ∨ s.cycle ≠ 0 → exec (.pscAutoRestart n) s = .next s) ∧
    ((s.psc n).cstop = true → Runs (.pscCarrierStop n) s fun t =>
      t.reg (Reg.pscState n) = (if (s.psc n).toDorm then 5 else 0) ∧ (t.psc n).cstop = false ∧
      (t.psc n).leg0.riseA = none ∧ SameRegs s t [Reg.pscState n, Reg.pscState (n.val + 1), Reg.pscEvents n,
        Reg.notifyDropped] ∧ SameMem s t) ∧
    ((s.psc n).cstop = false → exec (.pscCarrierStop n) s = .next s) ∧
    (∀ w : Nat, w = (if s.reg (Reg.pscPilot n) = 1 then s.tps else s.tps / 10) →
      (s.reg (Reg.pscPilot n) ≠ 0 → s.reg (Reg.pscState n) = 3 → s.tick % w = 0 → Runs (.pscZWindowEnd n) s fun t =>
        t.reg (Reg.pscZValid n) = (if (s.psc n).zClean then 1 else 0) ∧
        t.reg (Reg.pscZPhase n) = ratioAngle (s.psc n).zv (s.psc n).zi ∧ (t.psc n).zv = (0, 0) ∧ (t.psc n).zi = (0, 0) ∧
        SameRegs s t [Reg.pscZMag n, Reg.pscZPhase n, Reg.pscZValid n, Reg.pscEvents n, Reg.notifyDropped] ∧ SameMem s t) ∧
      (s.reg (Reg.pscPilot n) = 0 ∨ s.reg (Reg.pscState n) ≠ 3 ∨ s.tick % w ≠ 0 → exec (.pscZWindowEnd n) s = .next s))

/-- Grants and releases. Outside reset and checks a batch of good records is granted at once with status 0 and the units held, or noted for release at the next boundary; one with a failing record is refused whole with code and position, one of a bad length with FORMAT; while RESETTING it is refused with 0x15, during the checks it waits. RELEASE_TAKE_EFFECT moves the ranges that are due to scrubbing for their time; SCRUB_COMPLETE frees a range whose time is over and zeroes bed bytes, or returns it to its plot. QUOTA takes effect at once and marks a plot above it OVER; TRIM one tick after a swap that fits every quota scrubs what is above it. -/
def Obligations.GrantsReleasesAndQuotas : Prop :=
  ∀ (p : Fin 16) (batch : List Byte) (s : State),
    (∀ recs : List (List Byte), records 16 batch = recs → s.reg (Reg.plotState p) ≠ 3 → s.reg (Reg.lastState p) ≠ 2 →
      batch ≠ [] → batch.length ≤ 4096 → batch.length % 16 = 0 →
      (s.grantFault p 0 [] recs = none → Runs (.assignGrant p batch) s fun t =>
        t.holdings = s.holdings ++ recs.map (unitsHeld p) ∧
        t.reg (Reg.assignStatus p) = 0 ∧ t.answer.status = 0 ∧
        SameRegs s t [Reg.assignStatus p, Reg.flashPending] ∧ SameMem s t) ∧
      (∀ c pos, s.grantFault p 0 [] recs = some (c, pos) → Runs (.assignGrant p batch) s fun t =>
        t.reg (Reg.assignStatus p) = c ∧ t.reg (Reg.assignDetail p) = pos ∧ t.holdings = s.holdings ∧
        SameRegs s t [Reg.assignStatus p, Reg.assignDetail p, Reg.flashPending] ∧ SameMem s t) ∧
      (s.releaseFault p 0 [] recs = none → Runs (.assignRelease p batch) s fun t => t.holdings = s.holdings ∧
        (t.plot p).releases = (s.plot p).releases ++ recs.map (fun r => (s.after 1, unitsHeld p r)) ∧
        t.reg (Reg.assignStatus p) = 0 ∧ SameRegs s t [Reg.assignStatus p, Reg.flashPending] ∧ SameMem s t) ∧
      (∀ c pos, s.releaseFault p 0 [] recs = some (c, pos) → Runs (.assignRelease p batch) s fun t =>
        t.reg (Reg.assignStatus p) = c ∧ t.reg (Reg.assignDetail p) = pos ∧ t.holdings = s.holdings ∧
        (t.plot p).releases = (s.plot p).releases ∧ SameMem s t)) ∧
    (∀ grant : Bool,
      (s.reg (Reg.plotState p) ≠ 3 → s.reg (Reg.lastState p) ≠ 2 → batch = [] ∨ 4096 < batch.length ∨ batch.length % 16 ≠ 0 →
        Runs (if grant then .assignGrant p batch else .assignRelease p batch) s fun t =>
          t.reg (Reg.assignStatus p) = 0x10 ∧ t.holdings = s.holdings ∧ (t.plot p).releases = (s.plot p).releases ∧ SameMem s t) ∧
      (s.reg (Reg.plotState p) = 3 → Runs (if grant then .assignGrant p batch else .assignRelease p batch) s fun t =>
        t.reg (Reg.assignStatus p) = 0x15 ∧ t.holdings = s.holdings ∧ (t.plot p).releases = (s.plot p).releases ∧ SameMem s t) ∧
      (s.reg (Reg.plotState p) ≠ 3 → s.reg (Reg.lastState p) = 2 →
        Runs (if grant then .assignGrant p batch else .assignRelease p batch) s fun t =>
          t.reg (Reg.assignStatus p) = 1 ∧ (t.plot p).waiting = (s.plot p).waiting ++ [(grant, batch)] ∧
          t.holdings = s.holdings ∧ SameRegs s t [Reg.assignStatus p] ∧ SameMem s t)) ∧
    (∀ (k : Nat) (h : Holding) (rest : List (Nat × Holding)),
      (s.plot p).releases.filter (fun e => decide (e.1 ≤ s.tick)) = [(k, h)] →
      (s.plot p).releases.filter (fun e => !decide (e.1 ≤ s.tick)) = rest → h.plot = p.val →
      (stopKind h.kind = false → Runs (.releaseTakeEffect p) s fun t =>
        { h with scrub := some ((s.scrubEnd h).1, false), used := (s.scrubEnd h).2 } ∈ t.holdings ∧ (t.plot p).releases = rest ∧
        bit (t.reg (Reg.plotFlags p)) 1 = true ∧ SameRegs s t [Reg.overMask p, Reg.plotFlags p] ∧ SameMem s t) ∧
      (stopKind h.kind = true → Runs (.releaseTakeEffect p) s fun t => (t.plot p).releases = rest ∧ SameMem s t ∧
        ∀ x ∈ h.parts, { x with scrub := some (s.tick + 1, false), used := 0 } ∈ t.holdings)) ∧
    (((s.plot p).releases.filter fun e => decide (e.1 ≤ s.tick)) = [] → Runs (.releaseTakeEffect p) s fun t =>
      t.holdings = s.holdings ∧ (t.plot p).releases = (s.plot p).releases ∧
      SameRegs s t [Reg.overMask p, Reg.plotFlags p] ∧ SameMem s t) ∧
    Runs .scrubComplete s (fun t =>
      (∀ h ∈ s.holdings, h.scrub = none → h ∈ t.holdings) ∧
      (∀ h ∈ s.holdings, ∀ e r, h.scrub = some (e, r) →
        (e = 0 ∨ s.tick < e ∨ s.unitStopped h = false → h ∈ t.holdings) ∧
        (e ≠ 0 → e ≤ s.tick → s.unitStopped h = true →
          (r = false → h ∉ t.holdings) ∧
          (r = true → { h with scrub := if s.reg (Reg.plotState h.plot) = 3 then some (0, true) else none } ∈ t.holdings) ∧
          (h.kind = 9 → ∀ a, bedBase + h.first ≤ a → a < bedBase + h.first + h.count → t.byte a = 0))) ∧
      (∀ a, t.byte a = s.byte a ∨ t.byte a = 0) ∧
      ((∀ h ∈ s.holdings, ∀ e r, h.scrub = some (e, r) → e = 0 ∨ s.tick < e) → t.holdings = s.holdings ∧ SameMem s t ∧
        SameRegs s t ((List.range 16).map fun q => Reg.plotFlags q))) ∧
    (∀ (code : Fin 256) (v : Nat), 1 ≤ code.val → code.val ≤ 16 →
      (v < 18446744073709551616 → s.holdingOf p code ≤ v → Runs (.quota p code v) s fun t => t.reg (Reg.quota p code) = v ∧
        t.answer.status = 0 ∧ t.holdings = s.holdings ∧
        SameRegs s t [Reg.quota p code, Reg.flashPending, Reg.overMask p, Reg.plotFlags p] ∧ SameMem s t) ∧
      (v < 18446744073709551616 → v < s.holdingOf p code → Runs (.quota p code v) s fun t =>
        t.reg (Reg.quota p code) = v ∧ bit (t.reg (Reg.overMask p)) code = true ∧ bit (t.reg (Reg.plotFlags p)) 0 = true ∧
        t.holdings = s.holdings ∧ SameMem s t ∧
        (∀ l, (s.plot p).shadow = some l → s.reg (Reg.lastState p) = 3 → (∃ k ∈ l.claims, k.code = code.val ∧ v < k.amount) →
          (t.plot p).shadow = none ∧ t.reg (Reg.lastError p) = 0x0D)) ∧
      (18446744073709551616 ≤ v → Answers (.quota p code v) s 0x13)) ∧
    (∀ (code : Fin 256) (v : Nat), code.val = 0 ∨ 16 < code.val → Answers (.quota p code v) s 0x10) ∧
    ((s.plot p).trimAt = none → exec (.trim p) s = .next s) ∧
    (∀ k, (s.plot p).trimAt = some k →
      (s.tick < k → exec (.trim p) s = .next s) ∧
      (k ≤ s.tick → (∀ l, s.last p = some l → ∃ x ∈ l.claims, s.reg (Reg.quota p x.code) < x.amount) →
        Runs (.trim p) s fun t => (t.plot p).trimAt = none ∧ t.holdings = s.holdings ∧ SameRegs s t [] ∧ SameMem s t) ∧
      (k ≤ s.tick → Runs (.trim p) s fun t => (t.plot p).trimAt = none ∧ SameMem s t ∧
        ∀ g ∈ s.holdings, g.plot ≠ p.val ∨ g.scrub ≠ none → g ∈ t.holdings) ∧
      (∀ (l : Last) (c : Nat) (h : Holding), k ≤ s.tick → s.last p = some l →
        (∀ x ∈ l.claims, (x.amount : Int) ≤ s.reg (Reg.quota p x.code)) →
        ((List.range 17).filter fun c => bit (s.reg (Reg.overMask p)) c) = [c] → s.excess p c = [h] →
        stopKind h.kind = false → Runs (.trim p) s fun t => (t.plot p).trimAt = none ∧
          { h with scrub := some ((s.scrubEnd h).1, false), used := (s.scrubEnd h).2 } ∈ t.holdings ∧
          SameRegs s t [Reg.overMask p, Reg.plotFlags p, Reg.flashPending] ∧ SameMem s t))

/-- Plot reset. PLOT_RESET and PLOT_RESET_AT note a reset for its boundary; at it PLOT_RESET_APPLY leaves the plot RESETTING without a last, its fault clear and its reset tick named, and before it changes nothing; PLOT_RESET_COMPLETE, once no range that returns to the plot is still scrubbed, leaves it UNCLAIMED where it has no owner key or KEYS was named, and IDLE otherwise, and before that changes nothing. PLOT_FAULT_CLEAR clears the bits it names. -/
def Obligations.PlotReset : Prop :=
  ∀ (p : Fin 16) (s : State),
    (∀ keys, Runs (.plotReset p keys) s fun t => (t.plot p).resets = (s.plot p).resets ++ [(s.actTick, keys)] ∧
      t.answer.status = 0 ∧ SameRegs s t [] ∧ SameMem s t) ∧
    (∀ keys k lateOk due st, s.atTick 16 k lateOk = .ok (due, st) → Runs (.plotResetAt p keys k lateOk) s fun t =>
      (t.plot p).resets = (s.plot p).resets ++ [(due, keys)] ∧ t.answer.status = st ∧ SameRegs s t [] ∧ SameMem s t) ∧
    (∀ keys k lateOk c, s.atTick 16 k lateOk = .error c → Answers (.plotResetAt p keys k lateOk) s c) ∧
    ((∃ e ∈ (s.plot p).resets, e.1 ≤ s.tick) → Runs (.plotResetApply p) s fun t => t.reg (Reg.plotState p) = 3 ∧
      t.reg (Reg.plotResetTick p) = s.tick ∧ t.reg (Reg.plotFault p) = 0 ∧ t.last p = none ∧ (t.plot p).shadow = none ∧
      (t.plot p).routes = [] ∧ (t.plot p).ownerKey = (s.plot p).ownerKey ∧ SameMem s t) ∧
    ((∀ e ∈ (s.plot p).resets, s.tick < e.1) → exec (.plotResetApply p) s = .next s) ∧
    (s.reg (Reg.plotState p) = 3 → (∀ h ∈ s.holdings, h.plot = p.val → ∀ e, h.scrub = some (e, true) → e = 0) →
      Runs (.plotResetComplete p) s fun t => t.reg (Reg.overMask p) = 0 ∧
        t.reg (Reg.plotState p) = (if (s.plot p).eraseKeys = true ∨ (s.plot p).ownerKey = [] then 0 else 1) ∧ SameMem s t) ∧
    (s.reg (Reg.plotState p) ≠ 3 ∨ (∃ h ∈ s.holdings, h.plot = p.val ∧ ∃ e, h.scrub = some (e, true) ∧ e ≠ 0) →
      exec (.plotResetComplete p) s = .next s) ∧
    (∀ m, Runs (.plotFaultClear p m) s fun t =>
      t.reg (Reg.plotFault p) = clearMask 32 (s.reg (Reg.plotFault p)) m.val ∧ t.answer.status = 0 ∧
      SameRegs s t [Reg.plotFault p] ∧ t.units = s.units)

/-- Handoffs and keys. HO_OFFER by the holder of the handoff replaces the offer, HO_ACCEPT keeps the acceptance and answers 0x16 where no offer meets it, HO_WITHDRAW gives an authorisation in force its end, or removes the plot's own words; HANDOFF_FORM and HANDOFF_WITHDRAW_APPLY act on what is due, the latter with the HANDOFF fault of both plots. OWNER_KEY by the gardener role claims an UNCLAIMED plot, by the owner replaces its key; OBSERVER_KEY by the owner replaces that key; each counts KEY_SERIAL, and is denied to others. -/
def Obligations.HandoffsAndKeys : Prop :=
  ∀ (p : Fin 16) (w : Nat) (s : State),
    (hoWord p w = none →
      Runs (.hoOffer p w) s (fun t => t.reg (Reg.hoStatus p) = 0x10 ∧ SameRegs s t [Reg.hoStatus p] ∧ t.units = s.units) ∧
      Runs (.hoAccept p w) s (fun t => t.reg (Reg.hoStatus p) = 0x10 ∧ SameRegs s t [Reg.hoStatus p] ∧ t.units = s.units) ∧
      Runs (.hoWithdraw p w) s (fun t => t.reg (Reg.hoStatus p) = 0x10 ∧ SameRegs s t [Reg.hoStatus p] ∧ t.units = s.units)) ∧
    (∀ i q, hoWord p w = some (i, q) →
      (s.holds p 20 15 i = false → Runs (.hoOffer p w) s fun t => t.reg (Reg.hoStatus p) = 0x14 ∧
        SameRegs s t [Reg.hoStatus p] ∧ t.units = s.units) ∧
      (s.holds p 20 15 i = true → Runs (.hoOffer p w) s fun t => t.reg (Reg.hoStatus p) = 0 ∧
        t.offers = (s.offers.filter fun x => x.index != i) ++ [{ index := i, plot := p.val, peer := q }] ∧
        SameRegs s t [Reg.hoStatus p, Reg.flashPending] ∧ SameMem s t) ∧
      Runs (.hoAccept p w) s (fun t => ({ index := i, plot := p.val, peer := q } : HoWord) ∈ t.accepts ∧
        (∀ x ∈ s.accepts, x ∈ t.accepts) ∧ t.offers = s.offers ∧
        t.reg (Reg.hoStatus p) = (if s.offers.any fun x => x.index == i && x.plot == q && x.peer == p.val then 0 else 0x16) ∧
        SameRegs s t [Reg.hoStatus p, Reg.flashPending] ∧ SameMem s t) ∧
      (s.inForce i p q = true ∨ s.inForce i q p = true → Runs (.hoWithdraw p w) s fun t =>
        t.inForce i p q = false ∧ t.inForce i q p = false ∧
        t.auths.length = s.auths.length ∧ t.reg (Reg.hoStatus p) = 0 ∧
        SameRegs s t [Reg.hoStatus p, Reg.flashPending] ∧ SameMem s t) ∧
      (s.inForce i p q = false → s.inForce i q p = false → Runs (.hoWithdraw p w) s fun t =>
        ({ index := i, plot := p.val, peer := q } : HoWord) ∉ t.offers ∧
        ({ index := i, plot := p.val, peer := q } : HoWord) ∉ t.accepts ∧ t.auths = s.auths ∧
        t.reg (Reg.hoStatus p) = (if s.offers.any (fun x => x.index == i && x.plot == p.val && x.peer == q) ||
          s.accepts.any (fun x => x.index == i && x.plot == p.val && x.peer == q) then 0 else 0x16) ∧
        SameRegs s t [Reg.hoStatus p, Reg.flashPending] ∧ SameMem s t)) ∧
    (∀ i : Fin 8192, Runs (.handoffForm i) s fun t =>
      (∀ a ∈ t.auths, a.index = i.val → ∀ k, a.formAt = some k → s.tick < k) ∧ t.auths.length = s.auths.length ∧
      (∀ a ∈ s.auths, a.index ≠ i.val → a ∈ t.auths) ∧ SameRegs s t [] ∧ SameMem s t) ∧
    (∀ i : Fin 8192,
      Runs (.handoffWithdrawApply i) s (fun t =>
        t.auths = s.auths.filter (fun a => !(a.index == i.val && a.withdrawAt.any fun k => decide (k ≤ s.tick))) ∧
        (∀ a ∈ s.auths, a.index = i.val → ∀ k, a.withdrawAt = some k → k ≤ s.tick → a.producer < 16 → a.consumer < 16 →
          bit (t.reg (Reg.plotFault a.producer)) 6 = true ∧ bit (t.reg (Reg.plotFault a.consumer)) 6 = true) ∧ SameMem s t) ∧
      ((∀ a ∈ s.auths, a.index = i.val → ∀ k, a.withdrawAt = some k → s.tick < k) →
        exec (.handoffWithdrawApply i) s = .next s)) ∧
    (∀ (n : Option (Fin 64)) (key : List Byte),
      ((s.reg (Reg.plotState p) = 0 ∧ (n = none ∨ ∃ q, s.who (n.map (·.val)) = some (0, q))) ∨
          s.who (n.map (·.val)) = some (1, p.val) →
        (key.length = 32 → Runs (.ownerKey p n key) s fun t =>
          (t.plot p).ownerKey = key ∧
          t.reg (Reg.plotState p) = (if s.reg (Reg.plotState p) = 0 then 1 else s.reg (Reg.plotState p)) ∧
          t.reg (Reg.keySerial p) = (s.reg (Reg.keySerial p) + 1) % 4294967296 ∧ t.answer.status = 0 ∧
          SameRegs s t [Reg.plotState p, Reg.keySerial p, Reg.flashPending] ∧ SameMem s t) ∧
        (key.length ≠ 32 → Answers (.ownerKey p n key) s 0x12)) ∧
      (s.reg (Reg.plotState p) ≠ 0 ∨ (n ≠ none ∧ ∀ q, s.who (n.map (·.val)) ≠ some (0, q)) →
        s.who (n.map (·.val)) ≠ some (1, p.val) → Answers (.ownerKey p n key) s 0x11) ∧
      (s.who (n.map (·.val)) = some (1, p.val) →
        (key.length = 32 → Runs (.observerKey p n key) s fun t => (t.plot p).observerKey = key ∧
          (t.plot p).ownerKey = (s.plot p).ownerKey ∧
          t.reg (Reg.keySerial p) = (s.reg (Reg.keySerial p) + 1) % 4294967296 ∧ t.answer.status = 0 ∧
          SameRegs s t [Reg.keySerial p, Reg.flashPending] ∧ SameMem s t) ∧
        (key.length ≠ 32 → Answers (.observerKey p n key) s 0x12)) ∧
      (s.who (n.map (·.val)) ≠ some (1, p.val) → Answers (.observerKey p n key) s 0x11))

/-- Meters. MTR_SET with good records and MTR_PERIOD of 1 to 1,000 rounds wait, with status 1, for the first period start at or after their boundary; METER_SET_APPLY of what is due names the set in force from there and notifies, or with a record the plot may not meter keeps the old set with code 0x11; with nothing due it changes nothing. METER_PERIOD_END puts the values and the first tick of a period that has ended in place. -/
def Obligations.Meters : Prop :=
  ∀ (p : Fin 16) (s : State),
    (∀ recs v, s.meterCode p recs = none → v = ((s.plot p).periodPend.map fun e => e.2).getD (s.plot p).meterP →
      Runs (.mtrSet p recs) s fun t =>
      (t.plot p).meterPend = some (periodStart s.actTick v, meterIds recs) ∧ t.blob (Reg.mtrSet p) = recs ∧
      t.reg (Reg.mtrStatus p) = 1 ∧ (t.plot p).meters = (s.plot p).meters ∧ SameRegs s t [Reg.mtrStatus p] ∧ SameMem s t) ∧
    (∀ recs c, s.meterCode p recs = some c → Runs (.mtrSet p recs) s fun t => t.reg (Reg.mtrStatus p) = c ∧
      SameRegs s t [Reg.mtrStatus p] ∧ t.units = s.units) ∧
    (∀ v, 1 ≤ v → v ≤ 1000 → Runs (.mtrPeriod p v) s fun t => (t.plot p).periodPend = some (periodStart s.actTick v, v) ∧
      (t.plot p).meterPend = (s.plot p).meterPend.map (fun e => (periodStart s.actTick v, e.2)) ∧
      t.reg (Reg.mtrPeriod p) = v ∧ t.reg (Reg.mtrStatus p) = 1 ∧ SameRegs s t [Reg.mtrPeriod p, Reg.mtrStatus p] ∧
      SameMem s t) ∧
    (∀ v, v = 0 ∨ 1000 < v → Answers (.mtrPeriod p v) s 0x13) ∧
    (∀ set per, (s.plot p).meterPend.filter (fun e => decide (e.1 ≤ s.tick)) = set →
      (s.plot p).periodPend.filter (fun e => decide (e.1 ≤ s.tick)) = per →
      (set = none → per = none → exec (.meterSetApply p) s = .next s) ∧
      (∀ ids v, set ≠ none ∨ per ≠ none → (set.map fun e => e.2).getD (s.plot p).meters = ids →
        (per.map fun e => e.2).getD (s.plot p).meterP = v →
        (ids.all (s.mayMeter p) = true → Runs (.meterSetApply p) s fun t =>
          (t.plot p).meterNext = some (ids, v) ∧ (t.plot p).meterP = v ∧ (set ≠ none → (t.plot p).meterPend = none) ∧
          (per ≠ none → (t.plot p).periodPend = none) ∧
          t.reg (Reg.mtrCount p) = ids.length ∧ t.reg (Reg.mtrStatus p) = 0 ∧
          SameRegs s t [Reg.mtrCount p, Reg.mtrStatus p, Reg.notifyDropped] ∧ SameMem s t) ∧
        (ids.all (s.mayMeter p) = false → Runs (.meterSetApply p) s fun t =>
          (t.plot p).meters = (s.plot p).meters ∧ (t.plot p).meterNext = (s.plot p).meterNext ∧
          (set ≠ none → (t.plot p).meterPend = none) ∧ t.reg (Reg.mtrStatus p) = 0x11 ∧
          SameRegs s t [Reg.mtrPeriod p, Reg.mtrStatus p, Reg.notifyDropped] ∧ SameMem s t))) ∧
    (∀ first early ms, (s.plot p).meterDone = some (first, early, ms) → Runs (.meterPeriodEnd p) s fun t =>
      t.reg (Reg.mtrTick p) = first ∧ t.blob (Reg.mtrValues p) = (ms.map fun e => meterEntry early e.1 e.2).flatten ∧
      (t.plot p).meterDone = none ∧ SameRegs s t [Reg.mtrTick p] ∧ SameMem s t) ∧
    ((s.plot p).meterDone = none → exec (.meterPeriodEnd p) s = .next s)

/-- The tick's moments. With the data plane up, TICK_BOUNDARY opens the next tick and leaves the queue; INGEST_READY stands at its cycle; STAGING_DEADLINE on a single chip stages the block of each sink that its plots stage then, or silence where no producer finished it; EGRESS_OPENING lets the staged blocks of routed sinks of its half leave, ramped down where they leave for the last time, with nothing left staged of that half. With the data plane down, each leaves the machine as it is. -/
def Obligations.TickMoments : Prop :=
  ∀ (rep : TickReport) (half : Bool) (unstaged : List SigId) (s : State),
    (s.planeDown = true → exec (.tickBoundary rep) s = .next s ∧ exec .ingestReady s = .next s ∧
      exec (.stagingDeadline half unstaged) s = .next s ∧ exec (.egressOpening half) s = .next s) ∧
    (s.planeDown = false → Runs (.tickBoundary rep) s fun t => t.tick = s.tick + 1 ∧ t.pending = s.pending) ∧
    (s.planeDown = false → Runs .ingestReady s (fun t => t.tick = s.tick ∧ t.pending = s.pending) ∧
      (s.paired = false → (∀ e ∈ s.trellis, e.2.waiting = []) → Runs .ingestReady s fun t => t.cycle = max s.cycle 1536 ∧
        SameRegs s t [] ∧ SameMem s t)) ∧
    (s.planeDown = false → Runs (.stagingDeadline half unstaged) s fun t => t.tick = s.tick ∧ t.pending = s.pending) ∧
    (∀ k : Nat, k = (if half then Config.halfDeadline else Config.fullDeadline) → ∀ u : State, u = (s.trellisTo k).advanceTo k →
      s.planeDown = false → u.reg Reg.pairState = 0 →
      (∀ p < 16, u.stagesAt half p = true → ∀ x ∈ u.stagedSinks p, x ∈ unstaged → u.producers p x = []) →
      Runs (.stagingDeadline half unstaged) s fun t => SameRegs u t [] ∧ SameMem u t ∧
        ∀ p < 16, u.stagesAt half p = true → ∀ x ∈ u.stagedSinks p,
          (∀ q < 16, q ≠ p → u.stagesAt half q = true → x ∉ u.stagedSinks q) →
          NTable.get [] t.staged x = (if x ∈ unstaged then silence (u.sinkBlock p x) else u.sinkBlock p x)) ∧
    (s.planeDown = false → NTable.wf [] s.staged = true → Runs (.egressOpening half) s fun t =>
      (∀ (x : SigId) (b : List Sample), (x, b) ∈ s.staged → s.sinkHalf x = half → s.hasRoute x = true →
        NTable.get [] t.out x = if s.leavesLast x then rampDown b else b) ∧
      t.staged = s.staged.filter (fun (e : Nat × List Sample) => s.sinkHalf e.1 != half) ∧
      (s.txLive = [] → SameRegs s t [] ∧ SameMem s t))

/-- Writes of objects. REGISTER_WRITE of an index that has no object is NO_OBJECT and of one that is not writable ACCESS; an object without a meaning of its own that the writer may write takes its value at once or, a timed one, at its boundary, and a bad value is refused with its code; SESSION_TIMEOUT takes 1 to 300 of the gardener role, PLOT_FAULT_MASK is written by its own plot alone. TIMED_ACTION_APPLY of a due action on an RWT object of a unit in use gives it its value. MGMT from role A is acknowledged, and of an object that acts at once waits for its tick; a chip that is not role B in lockstep or in a graft's last phases takes none. -/
def Obligations.ObjectWrites : Prop :=
  ∀ (owner : Fin 17) (p : Fin 16) (idx sub unit : Nat) (v : List Byte) (s : State),
    (findObj idx sub = none → Answers (.registerWrite owner idx sub unit v) s 0x10) ∧
    (∀ o, findObj idx sub = some o → o.acc ≠ 1 → Answers (.registerWrite owner idx sub unit v) s 0x11) ∧
    (∀ (o : ObjInfo) (w : Writer) (n : Int) (r : Reg), findObj idx sub = some o → o.acc = 1 → r = ⟨idx, sub, unit⟩ →
      w = (if owner.val = 16 then { role := 0, plot := 255 } else { role := 1, plot := owner.val }) →
      n = (if o.ty ≥ 13 then 0 else scalarValue o.ty v) →
      bit (rightsOf o idx sub : Int) (if owner.val = 16 then 1 else 3) = true →
      owner.val = 16 ∨ plotBound idx = false ∨ s.regPlot r = some owner.val → isSelector idx sub = false → s.paired = false →
      (s.valueCode o r v ≠ 0 → Answers (.registerWrite owner idx sub unit v) s (s.valueCode o r v)) ∧
      (s.valueCode o r v = 0 → s.writeLast w r v n = none → s.writeCompute w r v n = none → s.writePlot w r v n = none →
        s.writeTime w r v n = none → s.writeNet w r v n = none → s.writeAudio w r v n = none → s.writeChip w r v n = none →
        (o.timed = true → Runs (.registerWrite owner idx sub unit v) s fun t =>
          t.due = s.due ++ [⟨s.actTick, r, if o.ty = 15 then (leAt v 0 v.length : Nat) else n⟩] ∧ t.answer.status = 0 ∧
          SameRegs s t [] ∧ SameMem s t) ∧
        (o.timed = false → s.busyUnit r = none → s.breaksRoute r n = false → Runs (.registerWrite owner idx sub unit v) s fun t =>
          (if o.ty ≥ 13 then t.blob r = keptBytes r v else t.reg r = n) ∧ t.answer.status = 0 ∧
          SameRegs s t [r, Reg.flashPending] ∧ SameMem s t))) ∧
    (v.length = 2 → 1 ≤ leAt v 0 2 → leAt v 0 2 ≤ 300 → Runs (.registerWrite 16 0x1200 2 0 v) s fun t =>
      t.reg Reg.sessionTimeout = leAt v 0 2 ∧ t.answer.status = 0 ∧
      SameRegs s t [Reg.sessionTimeout, Reg.flashPending] ∧ SameMem s t) ∧
    (v.length = 2 → leAt v 0 2 = 0 ∨ 300 < leAt v 0 2 → Answers (.registerWrite 16 0x1200 2 0 v) s 0x13) ∧
    (v.length ≠ 2 → Answers (.registerWrite 16 0x1200 2 0 v) s 0x12) ∧
    (owner.val < 16 → Answers (.registerWrite owner 0x1200 2 0 v) s 0x11) ∧
    (v.length = 4 → leAt v 0 4 ≤ 511 → s.paired = false → owner.val = p.val →
      Runs (.registerWrite owner (0x2370 + p) 3 0 v) s fun t => t.reg (Reg.plotFaultMask p) = leAt v 0 4 ∧
        t.answer.status = 0 ∧ SameRegs s t [Reg.plotFaultMask p, Reg.flashPending] ∧ SameMem s t) ∧
    (owner.val < 16 → owner.val ≠ p.val → Answers (.registerWrite owner (0x2370 + p) 3 0 v) s 0x11) ∧
    ((∀ x ∈ s.timed, s.tick < x.tick) → exec .timedActionApply s = .next s) ∧
    (∀ (x : Timed) (o : ObjInfo) (b : Reg), s.timed = [x] → x.tick ≤ s.tick → findObj x.reg.idx x.reg.sub = some o → o.acc = 4 →
      b = (if x.reg.idx = 0x4802 then { x.reg with unit := x.reg.unit % 1024 }
        else if x.reg.idx = 0x4411 then { x.reg with unit := x.reg.unit % 32768 } else x.reg) →
      (s.inLast b = true → 16 ≤ x.owner ∨ plotBound b.idx = false ∨ s.regPlot b = some x.owner → Runs .timedActionApply s fun t =>
        (if o.ty ≥ 13 then t.blob x.reg = x.bytes ∧ SameRegs s t [] else t.reg x.reg = scalarValue o.ty x.bytes ∧
          SameRegs s t [x.reg]) ∧ t.timed = [] ∧ SameMem s t) ∧
      (s.inLast b = false ∨ (x.owner < 16 ∧ plotBound b.idx = true ∧ s.regPlot b ≠ some x.owner) → Runs .timedActionApply s fun t =>
        t.timed = [] ∧ t.blobs = s.blobs ∧ SameRegs s t [] ∧ SameMem s t)) ∧
    (∀ (seq t : Nat) (a : FwdAction), s.reg Reg.pairRole = 1 →
      s.reg Reg.pairState = 3 ∨ (s.reg Reg.pairState = 2 ∧ 3 ≤ s.reg Reg.graftPhase) →
      Runs (.mgmt seq t a) s (fun u => u.answer.bytes = leBytes 4 seq ∧ u.answer.sent = true ∧ u.pair.acked = seq ∧ u.tick = s.tick) ∧
      (a.idx = 0x2020 → a.sub = 1 → Runs (.mgmt seq t a) s fun u =>
        u.brace = (if a.bytes = [3] then { s.brace with unbraceAt := some t } else { s.brace with policyAt := some t }) ∧
        SameRegs s u [] ∧ SameMem s u) ∧
      (∀ o : ObjInfo, a.idx ≠ 0x2020 → findObj a.idx a.sub = some o → o.acc ≠ 4 → a.named = false →
        ownsTick o a.idx a.sub = false → Runs (.mgmt seq t a) s fun u =>
          (∃ x : Timed, u.timed = s.timed ++ [x] ∧ x.tick = t ∧ x.bytes = a.bytes ∧ x.reg = ⟨a.idx, a.sub, a.unit⟩) ∧
          SameRegs s u [] ∧ SameMem s u)) ∧
    (∀ (seq t : Nat) (a : FwdAction), s.reg Reg.pairRole ≠ 1 ∨
      (s.reg Reg.pairState ≠ 3 ∧ (s.reg Reg.pairState ≠ 2 ∨ s.reg Reg.graftPhase < 3)) → exec (.mgmt seq t a) s = .next s)

/-- References. REF_FAULT of an enabled candidate marks it FAILED with its fault bits, of another only keeps the bits; REF_FAULT_END of a failed one whose grade is not 15 starts its qualifying time, or makes STEER VALID, and REF_QUALIFIED at the end of that time makes it VALID and earlier changes nothing. DPLL_STICKY_CLEAR clears the bits it names; DPLL_STEER within 500 ppm and S_BASE with nothing of domain S live wait for their boundary, and answer RANGE or BUSY otherwise. -/
def Obligations.ReferenceCommands : Prop :=
  ∀ (r : Fin 15) (s : State),
    (∀ bits : Fin 32,
      (r.val ≠ 13 → s.reg (Reg.refEnable r) ≠ 0 → bits.val ≠ 0 → Runs (.refFault r bits) s fun t =>
        t.reg (Reg.refState r) = 1 ∧ t.reg (Reg.refFault r) = (s.nat (Reg.refFault r) ||| bits.val : Nat) ∧
        t.reg (Reg.refFaultSticky r) = (s.nat (Reg.refFaultSticky r) ||| bits.val : Nat) ∧ SameMem s t) ∧
      (r.val = 13 ∨ s.reg (Reg.refEnable r) = 0 ∨ bits.val = 0 → Runs (.refFault r bits) s fun t =>
        t.reg (Reg.refState r) = s.reg (Reg.refState r) ∧
        t.reg (Reg.refFault r) = (s.nat (Reg.refFault r) ||| bits.val : Nat) ∧
        t.reg (Reg.refFaultSticky r) = (s.nat (Reg.refFaultSticky r) ||| bits.val : Nat) ∧ SameMem s t)) ∧
    (s.refGradeNow r ≠ 15 →
      (s.reg (Reg.refState r) = 1 → Runs (.refFaultEnd r) s fun t =>
        t.reg (Reg.refFault r) = 0 ∧ t.reg (Reg.refState r) = (if r.val = 14 then 3 else 2) ∧
        (r.val ≠ 14 → (t.refSt r).since = s.tick) ∧ SameRegs s t [Reg.refFault r, Reg.refState r] ∧ SameMem s t) ∧
      (s.reg (Reg.refState r) ≠ 1 → Runs (.refFaultEnd r) s fun t =>
        t.reg (Reg.refFault r) = 0 ∧ SameRegs s t [Reg.refFault r] ∧ SameMem s t)) ∧
    (s.reg (Reg.refEnable r) = 1 → s.refGradeNow r = 15 → bit (s.nat (Reg.refFault r) : Int) 4 = true →
      Runs (.refFaultEnd r) s fun t => t.reg (Reg.refFault r) = (s.nat (Reg.refFault r) &&& 16 : Nat) ∧
        SameRegs s t [Reg.refFault r] ∧ SameMem s t) ∧
    (∀ wait : Nat, wait = (if (s.refSt r).fresh then s.nat (Reg.refQualTime r) else s.nat Reg.dpllWtr) * s.tps →
      (s.reg (Reg.refState r) = 2 → (s.refSt r).since + wait ≤ s.tick → Runs (.refQualified r) s fun t =>
        t.reg (Reg.refState r) = 3 ∧ SameRegs s t [Reg.refState r] ∧ t.units = s.units) ∧
      (s.reg (Reg.refState r) ≠ 2 ∨ s.tick < (s.refSt r).since + wait → exec (.refQualified r) s = .next s)) ∧
    (∀ m : Fin 4294967296, Runs (.dpllStickyClear m) s fun t =>
      t.reg Reg.dpllSticky = ((s.nat Reg.dpllSticky &&& (4294967295 - m.val) : Nat) : Int) ∧ t.answer.status = 0 ∧
      (bit (m.val : Int) 4 = false → SameRegs s t [Reg.dpllSticky]) ∧
      (bit (m.val : Int) 4 = true → t.reg (Reg.refFaultSticky r) = 0) ∧ t.units = s.units) ∧
    (∀ v : Int, -500000000 ≤ v → v ≤ 500000000 → Runs (.dpllSteer v) s fun t =>
      t.due = s.due ++ [⟨s.actTick, Reg.dpllSteer, v⟩] ∧ t.answer.status = 0 ∧ SameRegs s t [] ∧ SameMem s t) ∧
    (∀ v : Int, v < -500000000 ∨ 500000000 < v → Answers (.dpllSteer v) s 0x13) ∧
    (∀ hz : Nat, hz = 32000 ∨ hz = 44100 ∨ hz = 48000 →
      (s.liveS = false → Runs (.sBase hz) s fun t => t.due = s.due ++ [⟨s.actTick, Reg.sBase, hz⟩] ∧ SameRegs s t [] ∧
        SameMem s t) ∧
      (s.liveS = true → Answers (.sBase hz) s 0x14)) ∧
    (∀ hz : Nat, hz ≠ 32000 → hz ≠ 44100 → hz ≠ 48000 → Answers (.sBase hz) s 0x13)

/-- Transitions of the DPLL take effect when they are due. In ACQUIRE and not slewing, DPLL_LADDER_ADVANCE after a step's dwell inside the lock window takes the next step, and DPLL_LOCK after 8,000 ticks at the final step enters LOCKED; DPLL_LOCK_LOST after 8 ticks beyond 4 windows goes back to ACQUIRE, and takes role B out of lockstep; SLEW_COMPLETE inside the window, the counter's own slew over, ends the slew; HOLDOVER_DEGRADE after DPLL_HO_DEGRADE seconds marks the holdover degraded. Where one is not due, nothing changes. -/
def Obligations.DpllCommands : Prop :=
  ∀ s : State,
    (s.reg Reg.dpllState = 1 → s.clk.slewing = false → s.nat Reg.dpllBwNow < s.finalStep → dwell (s.nat Reg.dpllBwNow) ≤ s.clk.inWin →
      Runs .dpllLadderAdvance s fun t =>
        t.reg Reg.dpllBwNow = (s.nat Reg.dpllBwNow + 1 : Nat) ∧ t.clk.inWin = 0 ∧ SameRegs s t [Reg.dpllBwNow] ∧ SameMem s t) ∧
    (s.reg Reg.dpllState ≠ 1 ∨ s.clk.slewing = true ∨ s.finalStep ≤ s.nat Reg.dpllBwNow ∨
      s.clk.inWin < dwell (s.nat Reg.dpllBwNow) → exec .dpllLadderAdvance s = .next s) ∧
    (s.reg Reg.dpllState = 1 → s.clk.slewing = false → s.nat Reg.dpllBwNow = s.finalStep → 8000 ≤ s.clk.inWin →
      Runs .dpllLock s fun t => t.reg Reg.dpllState = 2 ∧ t.reg Reg.dpllLockedSince = s.tick ∧
        (0 ≤ s.reg Reg.dpllSticky → bit (t.reg Reg.dpllSticky) 0 = true) ∧
        SameRegs s t [Reg.dpllState, Reg.dpllLockedSince, Reg.dpllSticky, Reg.dpllGrade,
          Reg.synceQlOut, Reg.notifyDropped] ∧ SameMem s t) ∧
    (s.reg Reg.dpllState ≠ 1 ∨ s.clk.slewing = true ∨ s.nat Reg.dpllBwNow ≠ s.finalStep ∨ s.clk.inWin < 8000 →
      exec .dpllLock s = .next s) ∧
    (s.reg Reg.dpllState = 2 → 8 ≤ s.clk.outWin →
      Runs .dpllLockLost s (fun t => t.reg Reg.dpllState = 1 ∧ t.reg Reg.dpllBwNow = s.startStep ∧
        bit (t.reg Reg.dpllSticky) 1 = true ∧ t.clk.inWin = 0 ∧ t.clk.outWin = 0 ∧ SameMem s t) ∧
      (s.reg Reg.pairState ≠ 3 ∨ s.reg Reg.pairRole ≠ 1 → Runs .dpllLockLost s fun t =>
        SameRegs s t [Reg.dpllState, Reg.dpllBwNow, Reg.dpllSticky, Reg.notifyDropped]) ∧
      (s.reg Reg.pairState = 3 → s.reg Reg.pairRole = 1 → Runs .dpllLockLost s fun t =>
        t.reg Reg.pairState = 4 ∧ t.reg Reg.pairRole = 1 ∧ t.reg Reg.pairAuth = 0)) ∧
    (s.reg Reg.dpllState ≠ 2 ∨ s.clk.outWin < 8 → exec .dpllLockLost s = .next s) ∧
    (s.clk.slewing = true → s.nat Reg.dpllRef ≠ 8 ∨ s.reg Reg.timeAdjLeft = 0 →
      (s.reg Reg.dpllPhaseErr).natAbs ≤ (s.lockWindow (s.nat Reg.dpllRef)).toNat →
      Runs .slewComplete s fun t => t.clk.slewing = false ∧ t.clk.inWin = 0 ∧ SameRegs s t [] ∧ SameMem s t) ∧
    (s.clk.slewing = false ∨ (s.nat Reg.dpllRef = 8 ∧ s.reg Reg.timeAdjLeft ≠ 0) ∨
      (s.lockWindow (s.nat Reg.dpllRef)).toNat < (s.reg Reg.dpllPhaseErr).natAbs → exec .slewComplete s = .next s) ∧
    (s.reg Reg.dpllState = 3 → s.nat Reg.dpllHoSince + s.nat Reg.dpllHoDegrade * s.tps ≤ s.tick → Runs .holdoverDegrade s fun t =>
        t.clk.degraded = true ∧ t.reg Reg.dpllGrade = 9 ∧
        SameRegs s t [Reg.dpllGrade, Reg.synceQlOut, Reg.dpllSticky, Reg.notifyDropped] ∧ SameMem s t) ∧
    (s.reg Reg.dpllState ≠ 3 ∨ s.tick < s.nat Reg.dpllHoSince + s.nat Reg.dpllHoDegrade * s.tps →
      exec .holdoverDegrade s = .next s)

/-- The root log. LOG_QUEUE_DRAIN first freezes the log that is asked to, else writes the keep domain's first entry, or else the queue's, with the next SEQ in its slot or, of a lost log, in a last-word register, and retires the halves that read back bad; LOG_DROPPED reports dropped entries at most once in 8,000 ticks; LOG_SCRUB goes on to the next word in service and retires the half of an uncorrectable one; LOG_FREEZE of a running log freezes it with LOG_FROZEN as the next entry, and LOG_UNFREEZE ends a freeze with an entry of its own. -/
def Obligations.RootLogCommands : Prop :=
  ∀ (bad0 bad1 : Bool) (s : State),
    (s.log.ask = true → Runs (.logQueueDrain bad0 bad1) s fun t => t.log.ask = false ∧ t.log.keep = s.log.keep ∧
      t.log.queue = s.log.queue ∧ (s.log.lost = false → t.log.freeze.isSome = true) ∧ SameMem s t) ∧
    (∀ (e : LogEntry) (keep queue : List LogEntry), s.log.ask = false →
      (s.log.keep = e :: keep ∧ s.log.queue = queue) ∨ (s.log.keep = [] ∧ keep = [] ∧ s.log.queue = e :: queue) →
      Runs (.logQueueDrain bad0 bad1) s (fun t => t.log.queue = queue ∧
        (s.log.lost = false → NTable.get none t.log.slots s.log.headSlot = some { e with seq := s.nat Reg.logHead }) ∧
        (s.log.lost = true → { e with seq := s.nat Reg.logHead } ∈ t.log.lastWords) ∧
        (bad0 = true → t.log.retired0 = true) ∧ (bad1 = true → t.log.retired1 = true) ∧ SameMem s t) ∧
      (bad0 = false → bad1 = false → s.log.lost = false → (∀ b, e.trigger = some b → bit (s.reg Reg.logFreezeMask) b = false) →
        Runs (.logQueueDrain bad0 bad1) s fun t => t.log.keep = keep ∧
          t.log.headSlot = s.log.nextSlot s.log.headSlot ∧ t.reg Reg.logHead = (s.reg Reg.logHead + 1) % 4294967296 ∧
          SameRegs s t [Reg.logHead] ∧ SameMem s t) ∧
      (∀ b, e.trigger = some b → bit (s.reg Reg.logFreezeMask) b = true → s.log.lost = false →
        Runs (.logQueueDrain bad0 bad1) s fun t => t.log.freeze.isSome = true)) ∧
    (s.log.ask = false → s.log.keep = [] → s.log.queue = [] → exec (.logQueueDrain bad0 bad1) s = .next s) ∧
    (∀ p : Fin 17,
      ((s.log.rate p).dropped ≠ 0 → (∀ k, (s.log.rate p).lastDrop = some k → k + 8000 ≤ s.tick) → Runs (.logDropped p) s fun t =>
        t.log.keep = s.log.keep ++ [s.entry 0x0905 1 p (s.log.rate p).dropped 0] ∧ (t.log.rate p).dropped = 0 ∧
        (t.log.rate p).lastDrop = some s.tick ∧ SameRegs s t [] ∧ SameMem s t) ∧
      ((s.log.rate p).dropped = 0 ∨ (∃ k, (s.log.rate p).lastDrop = some k ∧ s.tick < k + 8000) →
        exec (.logDropped p) s = .next s)) ∧
    (∀ w, w = (if s.log.scrubWord < 65536 ∧ s.log.retired0 = true then 65536
        else if 65536 ≤ s.log.scrubWord ∧ s.log.retired1 = true then 0 else s.log.scrubWord) →
      s.log.lost = false → s.log.scrubWord < 131072 →
      Runs (.logScrub false) s (fun t => t.log.scrubWord = (w + 1) % 131072 ∧ SameRegs s t [] ∧ SameMem s t) ∧
      Runs (.logScrub true) s (fun t => t.log.scrubWord = (w + 1) % 131072 ∧
        (if w < 65536 then t.log.retired0 else t.log.retired1) = true ∧
        t.log.keep.length = s.log.keep.length + 1 ∧ SameMem s t)) ∧
    (s.log.lost = true → exec (.logScrub bad0) s = .next s) ∧
    (s.log.freeze = none → s.log.lost = false → Runs .logFreeze s fun t => t.log.freeze.isSome = true ∧
      t.log.headSlot = (s.log.headSlot + 1) % 16384 ∧ t.answer.status = 0 ∧
      t.reg Reg.logHead = (s.reg Reg.logHead + 1) % 4294967296 ∧
      (∃ e, NTable.get none t.log.slots s.log.headSlot = some e ∧ e.code = 0x0903 ∧ e.seq = s.nat Reg.logHead) ∧ SameMem s t) ∧
    (s.log.freeze ≠ none ∨ s.log.lost = true → Runs .logFreeze s fun t => t.log = s.log ∧ t.answer.status = 0 ∧
      SameRegs s t [] ∧ SameMem s t) ∧
    (∀ f, s.log.freeze = some f → Runs .logUnfreeze s (fun t => t.log.freeze = none ∧ t.answer.status = 0 ∧ SameMem s t) ∧
      (s.log.lost = false → Runs .logUnfreeze s fun t => t.log.headSlot = (s.log.headSlot + 1) % 16384 ∧
        (∃ e, NTable.get none t.log.slots s.log.headSlot = some e ∧ e.code = 0x0904 ∧ e.p0 = f.seq % 4294967296) ∧ SameMem s t)) ∧
    (s.log.freeze = none → Answers .logUnfreeze s 0)

/-- The fault pin and its codes. FAULT_CLEAR of a mask of the eight codes acknowledges those of them that are present, leaves what is present, what was acknowledged and what is signalled, and refuses any other mask; FAULT_FRAME_START does nothing while a frame is under way, and at a frame's end signals the lowest code that is present and not acknowledged, or none. -/
def Obligations.FaultPin : Prop :=
  ∀ s : State,
    (∀ m : Fin 65536, m.val < 256 → Runs (.faultClear m) s fun t =>
      (∀ c < 8, bit (t.reg Reg.faultCode) c = bit (s.nat Reg.faultCode : Int) c ∧
        bit (t.reg Reg.faultCode) (8 + c) = (bit (s.nat Reg.faultCode : Int) (8 + c) ||
          (bit (m.val : Int) c && bit (s.nat Reg.faultCode : Int) c))) ∧
      t.nat Reg.faultCode / 16777216 = s.nat Reg.faultCode / 16777216 ∧ t.answer.status = 0 ∧
      SameRegs s t [Reg.faultCode] ∧ t.units = s.units) ∧
    (∀ m : Fin 65536, 256 ≤ m.val → Answers (.faultClear m) s 0x13) ∧
    (∀ now, now < s.log.frameEnd → exec (.faultFrameStart now) s = .next s) ∧
    (∀ now, s.log.frameEnd ≤ now → Runs (.faultFrameStart now) s fun t =>
      (∀ c < 8, bit (t.reg Reg.faultCode) c = bit (s.faultsNow : Int) c) ∧
      (∀ k < 8, t.nat Reg.faultCode / 16777216 = k + 1 ↔
        bit (t.reg Reg.faultCode) k = true ∧ bit (t.reg Reg.faultCode) (8 + k) = false ∧
          ∀ j < k, bit (t.reg Reg.faultCode) j = false ∨ bit (t.reg Reg.faultCode) (8 + j) = true) ∧
      SameRegs s t [Reg.faultCode, Reg.faultCount, Reg.notifyDropped] ∧ SameMem s t)

/-- Roles and links of a pair. PAIR_WAIT_EXPIRE without a frame takes role A where AUTH is low and else notes the lost partner; HANDOVER at its instant exchanges the roles; TICK on a link that is up takes the partner's frame and its unique ID, once for both links; a cell heard on a link that is up is noted; WELT_LINK_UP accepts a one-way delay of at most 0.75 us and rejects a longer one; WELT_LINK_DOWN counts a link that was up, and the last one leaves role A ALONE, or SPLIT where the partner's AUTH is high; PARTNER_AUTH_CHANGE follows the pin; PAIR_TAKE of a chip whose partner is absent takes role A two ticks on. Where its condition does not hold each changes nothing, or answers 0x14. -/
def Obligations.PairRolesAndLinks : Prop :=
  ∀ (l : Fin 2) (s : State),
    (∀ k, s.pair.waitFrom = some k →
      (s.pair.partner = none → k + s.nat Reg.pairWait ≤ s.tick → s.reg Reg.pairState = 4 →
        (s.reg Reg.pairPartnerAuth = 0 → Runs .pairWaitExpire s fun t => t.reg Reg.pairRole = 0 ∧ t.reg Reg.pairAuth = 1 ∧
          t.reg Reg.pairState = 1 ∧ t.reg Reg.pairAuthSince = s.tick ∧ t.pair.waitFrom = none ∧
          SameRegs s t [Reg.pairRole, Reg.pairAuth, Reg.pairAuthSince, Reg.pairPartnerLost, Reg.pairState, Reg.notifyDropped] ∧
          SameMem s t) ∧
        (s.reg Reg.pairPartnerAuth ≠ 0 → Runs .pairWaitExpire s fun t => t.reg Reg.pairPartnerLost = 1 ∧
          SameRegs s t [Reg.pairPartnerLost] ∧ t.units = s.units)) ∧
      (s.pair.partner ≠ none ∨ s.tick < k + s.nat Reg.pairWait ∨ s.reg Reg.pairState ≠ 4 → exec .pairWaitExpire s = .next s)) ∧
    (s.pair.waitFrom = none → exec .pairWaitExpire s = .next s) ∧
    (∀ k half, s.pair.handAt = some (k, half) →
      (s.tick < k ∨ (s.tick = k ∧ half = true ∧ s.cycle < 96000) → exec .handover s = .next s) ∧
      (k < s.tick ∨ (k = s.tick ∧ (half = false ∨ 96000 ≤ s.cycle)) →
        (∀ leaves : Bool, leaves = (match s.pair.leaveAt with | some e => decide (e ≤ s.tick) | none => false) →
          s.reg Reg.pairRole = 0 → Runs .handover s fun t =>
          t.reg Reg.pairRole = (if leaves then 255 else 1) ∧ t.reg Reg.pairState = 4 ∧ t.reg Reg.pairAuth = 0 ∧
          t.pair.handAt = none ∧ t.pair.leaveAt = (if leaves then none else s.pair.leaveAt) ∧
          t.reg Reg.handoverCount = (s.reg Reg.handoverCount + 1) % 4294967296 ∧ SameMem s t) ∧
        (s.reg Reg.pairRole ≠ 0 → Runs .handover s fun t =>
          t.reg Reg.pairRole = 0 ∧ t.reg Reg.pairState = 1 ∧ t.reg Reg.pairAuth = 1 ∧ t.reg Reg.pairAuthSince = s.tick ∧
          t.pair.handAt = none ∧ t.reg Reg.handoverCount = (s.reg Reg.handoverCount + 1) % 4294967296 ∧ SameMem s t))) ∧
    (s.pair.handAt = none → exec .handover s = .next s) ∧
    (∀ f : TickFrame,
      (s.reg (Reg.weltState l) = 2 → s.paired = true → (∀ g, s.pair.partner = some g → g.seq ≠ f.seq ∨ g.tick ≠ f.tick) →
        Runs (.tick l f) s fun t => t.pair.partner = some f ∧ t.reg Reg.pairPartnerUid = f.uid) ∧
      (s.reg (Reg.weltState l) ≠ 2 ∨ s.paired = false ∨ (∃ g, s.pair.partner = some g ∧ g.seq = f.seq ∧ g.tick = f.tick) →
        exec (.tick l f) s = .next s)) ∧
    (∀ k, (s.reg (Reg.weltState l) = 2 → k ≤ s.tick + 1 → Runs (.beat l k) s fun t => t.pair.cellAt = (s.tick, s.cycle) ∧
        SameRegs s t [] ∧ SameMem s t) ∧
      (s.reg (Reg.weltState l) ≠ 2 ∨ s.tick + 1 < k → exec (.beat l k) s = .next s)) ∧
    (∀ ps, s.paired = true → Runs (.weltLinkUp l ps) s fun t => t.reg (Reg.weltLatency l) = ps ∧
      t.reg (Reg.weltState l) = (if ps ≤ 750000 then 2 else 3) ∧ SameRegs s t [Reg.weltLatency l, Reg.weltState l] ∧
      SameMem s t) ∧
    (∀ ps, s.paired = false → exec (.weltLinkUp l ps) s = .next s) ∧
    (s.reg (Reg.weltState l) = 2 →
      ((∀ m : Fin 2, m ≠ l → s.reg (Reg.weltState m) = 2) → Runs (.weltLinkDown l) s fun t => t.reg (Reg.weltState l) = 0 ∧
        t.reg (Reg.weltDownCount l) = (s.reg (Reg.weltDownCount l) + 1) % 4294967296 ∧
        SameRegs s t [Reg.weltState l, Reg.weltDownCount l] ∧ t.units = s.units) ∧
      ((∀ m : Fin 2, m ≠ l → s.reg (Reg.weltState m) ≠ 2) →
        Runs (.weltLinkDown l) s (fun t => t.reg (Reg.weltState l) = 0 ∧ t.pair.partner = none ∧
          t.pair.lostAt = some s.pair.cellAt ∧
          t.reg (Reg.weltDownCount l) = (s.reg (Reg.weltDownCount l) + 1) % 4294967296 ∧ SameMem s t) ∧
        (s.reg Reg.pairState = 3 ∨ s.reg Reg.pairState = 5 →
          (s.reg Reg.pairRole = 0 → Runs (.weltLinkDown l) s fun t => t.reg Reg.pairRole = 0 ∧
            t.reg Reg.pairState = if s.reg Reg.pairPartnerAuth = 1 then 5 else 1) ∧
          (s.reg Reg.pairRole ≠ 0 → s.reg Reg.pairPartnerAuth = 1 → Runs (.weltLinkDown l) s fun t =>
            t.reg Reg.pairState = 5 ∧ t.reg Reg.pairRole = s.reg Reg.pairRole) ∧
          (s.reg Reg.pairRole ≠ 0 → s.reg Reg.pairPartnerAuth ≠ 1 → Runs (.weltLinkDown l) s fun t =>
            t.reg Reg.pairState = 1 ∧ t.reg Reg.pairRole = 0 ∧ t.reg Reg.pairAuth = 1)))) ∧
    (s.reg (Reg.weltState l) ≠ 0 → s.reg (Reg.weltState l) ≠ 2 → Runs (.weltLinkDown l) s fun t =>
      t.reg (Reg.weltState l) = 0 ∧ SameRegs s t [Reg.weltState l] ∧ t.units = s.units) ∧
    (s.reg (Reg.weltState l) = 0 → exec (.weltLinkDown l) s = .next s) ∧
    (∀ level : Bool,
      Runs (.partnerAuthChange level) s (fun t => t.reg Reg.pairPartnerAuth = (if level then 1 else 0) ∧ SameMem s t) ∧
      (s.heartbeat = true → s.reg Reg.pairState ≠ 4 ∨ s.pair.waitFrom = none ∨ s.reg Reg.pairPartnerLost ≠ 1 ∨ level = true ∨
          s.pair.partner ≠ none → Runs (.partnerAuthChange level) s fun t =>
        t.reg Reg.authConflict = (if level = true ∧ s.reg Reg.pairPartnerAuth ≠ 1 ∧ s.reg Reg.pairState = 3 ∧ s.reg Reg.pairRole = 0
          then (s.reg Reg.authConflict + 1) % 4294967296 else s.reg Reg.authConflict) ∧
        SameRegs s t [Reg.pairPartnerAuth, Reg.authConflict] ∧ t.units = s.units) ∧
      (s.heartbeat = false → s.reg Reg.pairState = 3 ∨ s.reg Reg.pairState = 5 → Runs (.partnerAuthChange level) s fun t =>
        t.reg Reg.pairState = if level then 5 else 1)) ∧
    (s.heartbeat = false → s.reg Reg.pairPartnerAuth = 0 →
      (s.reg Reg.pairState = 4 → Runs .pairTake s fun t =>
        t.pair.takeAt = some (s.tick + 2) ∧ t.answer.status = 0 ∧ SameRegs s t [] ∧ SameMem s t) ∧
      (s.reg Reg.pairState = 2 → s.pair.target = true → Runs .pairTake s fun t =>
        t.pair.takeAt = some (s.tick + 2) ∧ t.answer.status = 0 ∧ t.reg Reg.graftResult = 0x17 ∧ t.reg Reg.pairState = 4 ∧
        SameMem s t)) ∧
    (s.heartbeat = true ∨ s.reg Reg.pairPartnerAuth ≠ 0 ∨
        (s.reg Reg.pairState ≠ 4 ∧ (s.reg Reg.pairState ≠ 2 ∨ s.pair.target = false)) → Answers .pairTake s 0x14) ∧
    (∀ k, s.pair.takeAt = some k →
      (k ≤ s.tick → Runs .pairTakeApply s fun t => t.reg Reg.pairRole = 0 ∧ t.reg Reg.pairState = 1 ∧
        t.reg Reg.pairAuth = 1 ∧ t.pair.takeAt = none ∧ SameMem s t) ∧
      (s.tick < k → exec .pairTakeApply s = .next s)) ∧
    (s.pair.takeAt = none → exec .pairTakeApply s = .next s)

/-- Digests and proofs of a pair. DIGEST with a heartbeat keeps the partner's cell of its phase; DIGEST_COMPARE in SETTLE counts equal ticks, in lockstep of equal cells clears the run of missing ones, of two that differ counts the difference with its case and takes the case's decision, and of a missing one counts it, as case 4 from the third on; FOCUS_PROOF_END at its tick leaves role A ALONE and role B in STANDBY where neither is SUSPECT; PROOF_FAIL makes the chip SUSPECT with count and unit, and takes role B out of the pair; PROOF_SET_PASS counts each unit once in 1,024 ticks, PAIR_SUSPECT_CLEAR ends SUSPECT. -/
def Obligations.PairDigestsAndProofs : Prop :=
  ∀ s : State,
    (∀ c : DigestCell,
      (s.heartbeat = true → Runs (.digest c) s fun t => NTable.get {} t.pair.theirs (if c.full then 1 else 0) = c ∧
        t.pair.own = s.pair.own ∧ SameRegs s t [] ∧ SameMem s t) ∧
      (s.heartbeat = false → exec (.digest c) s = .next s)) ∧
    (∀ (full here : Bool) (own other : DigestCell) (m : Nat), NTable.get {} s.pair.own (if full then 1 else 0) = own →
      NTable.get {} s.pair.theirs (if full then 1 else 0) = other → differing own other = m →
      here = (decide (other.tick = s.tick) && decide (own.tick = s.tick) && decide (other.full = full)) →
      (s.reg Reg.pairState = 2 → s.reg Reg.graftPhase = 5 → Runs (.digestCompare full) s fun t =>
        t.pair.settled = (if here = true ∧ m = 0 ∧ s.pair.unsettled = [] then (if full then s.pair.settled + 1 else s.pair.settled)
          else 0) ∧ SameRegs s t [] ∧ SameMem s t) ∧
      (s.reg Reg.pairState ≠ 2 ∨ s.reg Reg.graftPhase ≠ 5 → s.reg Reg.pairState ≠ 3 ∨ own.tick ≠ s.tick →
        exec (.digestCompare full) s = .next s) ∧
      (s.reg Reg.pairState = 3 → own.tick = s.tick →
        (here = true → m = 0 → Runs (.digestCompare full) s fun t =>
          NTable.get 0 t.pair.missing (if full then 1 else 0) = 0 ∧ t.pair.handAt = s.pair.handAt ∧ SameRegs s t [] ∧
          SameMem s t) ∧
        (∀ case_ : Nat, here = true → m ≠ 0 →
          case_ = (if s.reg Reg.pairRole = 0 then caseOf (hasEvidence own m) (hasEvidence other m)
            else caseOf (hasEvidence other m) (hasEvidence own m)) →
          Runs (.digestCompare full) s (fun t =>
            t.reg Reg.divCount = (s.reg Reg.divCount + 1) % 4294967296 ∧ t.reg Reg.divLastTick = s.tick ∧
            t.reg Reg.divLastPlots = m ∧ t.reg Reg.divLastCase = case_ ∧
            SameRegs s t [Reg.divCount, Reg.divLastTick, Reg.divLastPlots, Reg.divLastCase, Reg.pairState, Reg.pairRole,
              Reg.pairAuth, Reg.notifyDropped] ∧ SameMem s t) ∧
          (s.pair.focus = none →
            (case_ = 2 → Runs (.digestCompare full) s fun t =>
              t.pair.handAt = some (if full then (s.tick + 1, false) else (s.tick, true)) ∧
              (s.reg Reg.pairRole = 0 → NTable.get 0 t.pair.withheld (if full then 1 else 0) = 65535)) ∧
            (case_ = 4 → Runs (.digestCompare full) s fun t => t.pair.focus = some (s.tick + 16, m) ∧
              (s.reg Reg.pairRole ≠ 0 → NTable.get 0 t.pair.withheld (if full then 1 else 0) = 65535)) ∧
            (case_ = 3 ∨ case_ = 5 → s.reg Reg.pairRole = 0 → Runs (.digestCompare full) s fun t =>
              t.reg Reg.pairState = 1 ∧ t.reg Reg.pairRole = 0) ∧
            (case_ = 3 ∨ case_ = 5 → s.reg Reg.pairRole ≠ 0 → Runs (.digestCompare full) s fun t =>
              t.reg Reg.pairState = 4 ∧ t.reg Reg.pairRole = 1 ∧ t.reg Reg.pairAuth = 0))) ∧
        (∀ n : Nat, here = false → n = NTable.get 0 s.pair.missing (if full then 1 else 0) + 1 →
          Runs (.digestCompare full) s fun t => t.reg Reg.digestMissing = (s.reg Reg.digestMissing + 1) % 4294967296 ∧
            NTable.get 0 t.pair.missing (if full then 1 else 0) = n ∧
            (s.reg Reg.pairRole ≠ 0 → NTable.get 0 t.pair.withheld (if full then 1 else 0) = 65535) ∧
            (3 ≤ n → s.pair.focus = none → t.pair.focus = some (s.tick + 16, own.mask) ∧ t.reg Reg.divLastCase = 4) ∧
            SameMem s t))) ∧
    (∀ k m, s.pair.focus = some (k, m) →
      (s.tick < k → exec .focusProofEnd s = .next s) ∧
      (k ≤ s.tick → s.reg Reg.pairState ≠ 3 ∨ s.reg Reg.pairSuspect = 1 ∨ s.partnerSuspect = true → Runs .focusProofEnd s fun t =>
        t.pair.focus = none ∧ SameRegs s t [] ∧ SameMem s t) ∧
      (k ≤ s.tick → s.reg Reg.pairState = 3 → s.reg Reg.pairSuspect ≠ 1 → s.partnerSuspect = false →
        (s.reg Reg.pairRole = 0 → Runs .focusProofEnd s fun t => t.reg Reg.pairState = 1 ∧ t.pair.focus = none ∧
          SameRegs s t [Reg.pairState, Reg.notifyDropped] ∧ SameMem s t) ∧
        (s.reg Reg.pairRole ≠ 0 → Runs .focusProofEnd s fun t => t.reg Reg.pairState = 4 ∧ t.reg Reg.pairRole = 1 ∧
          t.reg Reg.pairAuth = 0 ∧ t.pair.focus = none ∧
          SameRegs s t [Reg.pairState, Reg.pairRole, Reg.pairAuth, Reg.notifyDropped] ∧ SameMem s t))) ∧
    (s.pair.focus = none → exec .focusProofEnd s = .next s) ∧
    (∀ (kind : Fin 4) (unit : Fin 256),
      Runs (.proofFail kind unit) s (fun t => t.reg Reg.pairSuspect = 1 ∧
        t.reg Reg.proofFailCount = (s.reg Reg.proofFailCount + 1) % 4294967296 ∧
        t.reg Reg.proofLast = (kind.val * 16777216 + unit.val : Nat) ∧ SameMem s t) ∧
      (s.paired = false ∨ s.reg Reg.pairRole ≠ 1 ∨ s.reg Reg.pairState = 4 → Runs (.proofFail kind unit) s fun t =>
        SameRegs s t [Reg.pairSuspect, Reg.proofFailCount, Reg.proofLast, Reg.faultCode, Reg.faultCount]) ∧
      (s.reg Reg.pairRole = 1 → s.reg Reg.pairState = 2 → Runs (.proofFail kind unit) s fun t =>
        t.reg Reg.graftResult = 0x18 ∧ t.reg Reg.pairState = if s.pair.target then 4 else 1) ∧
      (s.reg Reg.pairRole = 1 → s.reg Reg.pairState = 1 ∨ s.reg Reg.pairState = 3 ∨ s.reg Reg.pairState = 5 →
        Runs (.proofFail kind unit) s fun t => t.reg Reg.pairState = 4 ∧ t.reg Reg.pairRole = 1 ∧ t.reg Reg.pairAuth = 0)) ∧
    (∀ n, n = (if s.pair.proofRound = s.tick / 1024 then s.pair.proofUnits else 0) →
      (n < 224 → Runs .proofSetPass s fun t => t.reg Reg.proofPass = (s.reg Reg.proofPass + 1) % 4294967296 ∧
        t.pair.proofUnits = n + 1 ∧ t.pair.proofRound = s.tick / 1024 ∧ SameRegs s t [Reg.proofPass] ∧ SameMem s t) ∧
      (224 ≤ n → exec .proofSetPass s = .next s)) ∧
    Runs .pairSuspectClear s (fun t => t.reg Reg.pairSuspect = 0 ∧ t.answer.status = 0 ∧
      SameRegs s t [Reg.pairSuspect, Reg.faultCode, Reg.faultCount] ∧ t.units = s.units)

/-- Inputs and management of a pair. RCPT of a packet not yet accepted is kept for it, of one at hand marks it where the payload agrees; RPAY of a packet at hand counts one whose payload differs and of one that is lacking in a stream that runs or starts accepts it; RPAY_TIMEOUT without a RCPT sends the payload; LFWD gives an unwired serial port its samples, an unwired TEV pin its capture, and keeps the tracker stamps; IDIG of the previous tick counts an input whose digest differs; MACK removes its action, MACK_TIMEOUT ends lockstep at role A where one is late. Where its condition does not hold each changes nothing. -/
def Obligations.PairInputsAndManagement : Prop :=
  ∀ (t : Fin 1024) (seq : Nat) (s : State),
    (∀ crc at_, (∀ p ∈ (s.rx t).pkts, p.seq ≠ seq) → Runs (.rcpt t seq crc at_) s fun u =>
      u.pair.rcpts = s.pair.rcpts ++ [(t.val, seq, crc, at_, s.tick)] ∧ SameRegs s u [] ∧ SameMem s u) ∧
    (∀ crc at_, (∃ p ∈ (s.rx t).pkts, p.seq = seq) → Runs (.rcpt t seq crc at_) s fun u =>
      u.pair.rcpts = s.pair.rcpts ∧ (u.rx t).pkts.length = (s.rx t).pkts.length ∧
      (∀ p ∈ (s.rx t).pkts, p.seq = seq → { p with
        rcpt := p.rcpt || crc32 p.payload == crc, at_ := match at_ with | some k => min k p.at_ | none => p.at_ } ∈ (u.rx t).pkts) ∧
      (∀ p ∈ (s.rx t).pkts, p.seq ≠ seq → p ∈ (u.rx t).pkts) ∧ SameRegs s u [] ∧ SameMem s u) ∧
    (∀ (index at_ : Nat) (payload : List Byte) (p : RxPkt), ((s.rx t).pkts.find? fun q => q.s == index) = some p →
      (crc32 p.payload ≠ crc32 payload → Runs (.rpay t seq index payload at_) s fun u =>
        u.reg Reg.reconDup = (s.reg Reg.reconDup + 1) % 4294967296 ∧ SameRegs s u [Reg.reconDup] ∧ u.units = s.units) ∧
      (crc32 p.payload = crc32 payload → exec (.rpay t seq index payload at_) s = .next s)) ∧
    (∀ (index at_ : Nat) (payload : List Byte), (∀ p ∈ (s.rx t).pkts, p.s ≠ index) →
      (s.reg (Reg.rxState t) ≠ 1 → s.reg (Reg.rxState t) ≠ 2 → exec (.rpay t seq index payload at_) s = .next s) ∧
      (s.reg (Reg.rxState t) = 1 ∨ s.reg (Reg.rxState t) = 2 →
        Runs (.rpay t seq index payload at_) s (fun u => u.reg Reg.reconRecv = (s.reg Reg.reconRecv + 1) % 4294967296 ∧
          SameMem s u) ∧
        (s.reg (Reg.rxDomain t) = 0 → s.reg (Reg.rxState t) = 1 ∨ s.tick < s.ingestTick t index →
          Runs (.rpay t seq index payload at_) s fun u =>
            (∃ q ∈ (u.rx t).pkts, q.s = index ∧ q.seq = seq ∧ q.payload = payload) ∧
            u.reg (Reg.rxPkts t) = (s.reg (Reg.rxPkts t) + 1) % 18446744073709551616 ∧
            SameRegs s u [Reg.reconRecv, Reg.rxPkts t, Reg.rxLastS t, Reg.rxSeqGaps t]))) ∧
    (∀ (now : Nat) (r : Option RxPkt),
      ((s.rx t).pkts.find? fun p => p.seq == seq && !p.rcpt && !p.rpay && decide (p.at_ + 1000 ≤ now)) = r →
      (∀ p, r = some p → s.paired = true → s.heartbeat = true → Runs (.rpayTimeout t seq now) s fun u =>
        u.answer.bytes = p.payload ∧ u.answer.sent = true ∧ (∀ q ∈ (u.rx t).pkts, q.seq = seq → q.rpay = true) ∧
        (u.rx t).pkts.length = (s.rx t).pkts.length ∧
        u.reg Reg.reconSent = (s.reg Reg.reconSent + 1) % 4294967296 ∧ SameRegs s u [Reg.reconSent] ∧ SameMem s u) ∧
      (r = none ∨ s.paired = false ∨ s.heartbeat = false → exec (.rpayTimeout t seq now) s = .next s)) ∧
    (∀ (n : Fin 128) (f : SapFrame) (q : Nat), q = s.sapIn n →
      (s.ownPin n = false → s.reg (Reg.sapState q) ≠ 0 → Runs (.lfwd (.sap n f)) s (fun u => SameMem s u ∧
        (s.sapH q = true → NTable.get [] (u.sap n).frames ((2 * f.time * max 1 (s.sapHz q) + 1000000000) / 2000000000 + 1) =
          (List.range (s.sapSlotsOf q)).map (fun k => f.words.getD k 0 * 2 ^ (32 - s.nat (Reg.sapDataBits q))) ∧
        SameRegs s u []))) ∧
      (s.ownPin n = true ∨ s.reg (Reg.sapState q) = 0 → exec (.lfwd (.sap n f)) s = .next s)) ∧
    (∀ (n : Fin 24) (falling : Bool) (ns : Nat),
      (s.ownPin (128 + n.val) = false → s.reg (Reg.tevMode n) = 1 →
        ((s.tev n).caps.length < 32 → Runs (.lfwd (.tev n falling ns)) s fun u =>
          (u.tev n).caps.length = (s.tev n).caps.length + 1 ∧ u.reg (Reg.tevCapLevel n) = ((s.tev n).caps.length + 1 : Nat) ∧
          SameRegs s u [Reg.tevCapLevel n] ∧ SameMem s u) ∧
        (32 ≤ (s.tev n).caps.length → Runs (.lfwd (.tev n falling ns)) s fun u => (u.tev n).caps = (s.tev n).caps ∧
          u.reg (Reg.tevCapDrop n) = (s.reg (Reg.tevCapDrop n) + 1) % 4294967296 ∧
          SameRegs s u [Reg.tevCapDrop n] ∧ SameMem s u)) ∧
      (s.ownPin (128 + n.val) = true ∨ s.reg (Reg.tevMode n) ≠ 1 → exec (.lfwd (.tev n falling ns)) s = .next s)) ∧
    (∀ n l, Runs (.lfwd (.stamps n l)) s fun u => NTable.get [] u.pair.stamps n = l ∧ SameRegs s u [] ∧ SameMem s u) ∧
    (∀ k l, k + 1 ≠ s.tick ∨ s.heartbeat = false → exec (.idig k l) s = .next s) ∧
    (∀ (k : Nat) (l bad : List (Nat × Nat)), k + 1 = s.tick → s.heartbeat = true →
      (l.filter fun e => s.pair.idigs.any fun o => o.1 == e.1 && o.2 != e.2) = bad → Runs (.idig k l) s fun u =>
        (bad = [] → SameRegs s u []) ∧
        (bad ≠ [] → u.reg Reg.inDivCount = (s.reg Reg.inDivCount + bad.length) % 4294967296 ∧
          ∀ e, bad.getLast? = some e → u.reg Reg.inDivLast = e.1) ∧
        SameRegs s u [Reg.inDivCount, Reg.inDivLast] ∧ SameMem s u) ∧
    Runs (.mack seq) s (fun u => (∀ e ∈ u.pair.sent, e.1 ≠ seq) ∧ (∀ e ∈ s.pair.sent, e.1 ≠ seq → e ∈ u.pair.sent) ∧
      SameRegs s u [] ∧ SameMem s u) ∧
    ((∃ e ∈ s.pair.sent, e.2 ≤ s.tick + 4) → s.reg Reg.pairRole = 0 →
      Runs .mackTimeout s (fun u => (∀ e ∈ u.pair.sent, s.tick + 4 < e.2) ∧
        SameRegs s u [Reg.pairState, Reg.notifyDropped] ∧ SameMem s u) ∧
      (s.reg Reg.pairState = 3 → Runs .mackTimeout s fun u => u.reg Reg.pairState = 1) ∧
      (s.reg Reg.pairState ≠ 3 → Runs .mackTimeout s fun u => SameRegs s u [])) ∧
    ((∀ e ∈ s.pair.sent, s.tick + 4 < e.2) ∨ s.reg Reg.pairRole ≠ 0 → exec .mackTimeout s = .next s)

/-- Graft and leave. GRAFT_START in STANDBY makes a chip that is not SUSPECT the target in phase 1; GRAFT_PHASE_COMPLETE takes the phases in turn where each has ended, and names the join tick after 64 settled ticks; GRAFT_PHASE_TIMEOUT of a phase that is too long and GRAFT_ABORT end the graft with their codes, and GRAFT_JOIN at its tick enters lockstep; MIRROR of a target from MIRROR on waits for the boundary and HOT writes its page at once; PDIG follows the pages that are not settled; PAIR_LEAVE waits for its boundary, where PAIR_LEAVE_APPLY leaves the chip in STANDBY without a role. Where its condition does not hold each changes nothing but the instant a cell was heard, or answers with a code. -/
def Obligations.GraftAndLeave : Prop :=
  ∀ s : State,
    (s.reg Reg.pairState = 4 →
      (s.reg Reg.pairSuspect = 0 → Runs .graftStart s fun t => t.reg Reg.pairState = 2 ∧
        t.reg Reg.pairRole = 1 ∧ t.reg Reg.graftPhase = 1 ∧ t.reg Reg.graftResult = 2 ∧ t.pair.target = true ∧
        t.pair.graftFrom = s.tick ∧ t.answer.status = 0 ∧ SameMem s t) ∧
      (s.reg Reg.pairSuspect ≠ 0 → Runs .graftStart s fun t => t.reg Reg.graftResult = 0x18 ∧ t.answer.status = 0 ∧
        SameRegs s t [Reg.graftResult] ∧ t.units = s.units)) ∧
    (s.reg Reg.pairState ≠ 4 → Answers .graftStart s 0x14) ∧
    (∀ (partner : ChipId) (copy : GraftCopy), s.reg Reg.pairState = 2 →
      (s.reg Reg.graftPhase = 1 →
        (s.heartbeat = true → partner = s.chipId → s.sameSeat = false → Runs (.graftPhaseComplete partner copy) s fun t =>
          t.reg Reg.graftPhase = 2 ∧ t.pair.phaseFrom = s.tick ∧ SameRegs s t [Reg.graftPhase] ∧ SameMem s t) ∧
        (s.heartbeat = true → partner ≠ s.chipId ∨ s.sameSeat = true → Runs (.graftPhaseComplete partner copy) s fun t =>
          t.reg Reg.graftPhase = 0 ∧ t.reg Reg.graftResult = 0x12 ∧
          t.reg Reg.pairState = (if s.pair.target then 4 else 1) ∧ (s.pair.target = true → t.reg Reg.pairRole = 255) ∧
          SameMem s t) ∧
        (s.heartbeat = false → exec (.graftPhaseComplete partner copy) s = .next s)) ∧
      (s.reg Reg.graftPhase = 2 →
        (s.clockAligned = true → Runs (.graftPhaseComplete partner copy) s fun t => t.reg Reg.graftPhase = 3 ∧
          SameRegs s t [Reg.graftPhase] ∧ SameMem s t) ∧
        (s.clockAligned = false → exec (.graftPhaseComplete partner copy) s = .next s)) ∧
      (s.reg Reg.graftPhase = 3 →
        Runs (.graftPhaseComplete partner copy) s (fun t => t.reg Reg.graftPhase = 4 ∧ t.pair.phaseFrom = s.tick ∧ SameMem s t) ∧
        (s.pair.target = false → Runs (.graftPhaseComplete partner copy) s fun t => t.pair.mirrored = 0 ∧
          SameRegs s t [Reg.graftPhase]) ∧
        (s.pair.target = true → copy.lasts = [] → Runs (.graftPhaseComplete partner copy) s fun t =>
          t.holdings = (copy.holdings.flatMap fun e => (records 16 e.2).map (unitsHeld e.1)) ∧
          t.offers = (copy.offers.map fun e => ⟨e.1, e.2.1, e.2.2⟩) ∧ t.accepts = (copy.accepts.map fun e => ⟨e.1, e.2.1, e.2.2⟩))) ∧
      (s.reg Reg.graftPhase = 4 →
        (s.pair.target = true ∨ s.pageCount ≤ s.pair.mirrored → Runs (.graftPhaseComplete partner copy) s fun t =>
          t.reg Reg.graftPhase = 5 ∧ t.pair.settled = 0 ∧ SameRegs s t [Reg.graftPhase] ∧ SameMem s t) ∧
        (s.pair.target = false → s.pair.mirrored < s.pageCount → exec (.graftPhaseComplete partner copy) s = .next s)) ∧
      (s.reg Reg.graftPhase = 5 →
        (64 ≤ s.pair.settled → Runs (.graftPhaseComplete partner copy) s fun t => t.reg Reg.graftPhase = 6 ∧
          t.reg Reg.graftJoinTick = (s.tick + 64 : Nat) ∧ SameRegs s t [Reg.graftPhase, Reg.graftJoinTick] ∧ SameMem s t) ∧
        (s.pair.settled < 64 → exec (.graftPhaseComplete partner copy) s = .next s))) ∧
    (∀ partner copy, s.reg Reg.pairState ≠ 2 → exec (.graftPhaseComplete partner copy) s = .next s ∧
      exec (.graftPhaseTimeout partner) s = .next s) ∧
    (∀ (partner : ChipId) (limit : Nat) (code : Int), s.reg Reg.pairState = 2 →
      (s.reg Reg.graftPhase = 1 ∧ limit = s.pair.phaseFrom + 8000 ∧
          code = (if s.heartbeat = true ∧ partner ≠ s.chipId then 0x12
            else if s.reg (Reg.weltState 0) = 3 ∨ s.reg (Reg.weltState 1) = 3 then 0x11 else 0x10)) ∨
        (s.reg Reg.graftPhase = 2 ∧ limit = s.pair.phaseFrom + 80000 ∧ code = 0x13) ∨
        (s.reg Reg.graftPhase = 5 ∧ limit = s.pair.graftFrom + 480000 ∧ code = 0x14) →
      (limit ≤ s.tick → Runs (.graftPhaseTimeout partner) s fun t => t.reg Reg.graftPhase = 0 ∧ t.reg Reg.graftResult = code ∧
        t.reg Reg.pairState = (if s.pair.target then 4 else 1) ∧ (s.pair.target = true → t.reg Reg.pairRole = 255) ∧ SameMem s t) ∧
      (s.tick < limit → exec (.graftPhaseTimeout partner) s = .next s)) ∧
    (s.reg Reg.pairState = 2 → s.reg Reg.graftPhase = 6 → s.nat Reg.graftJoinTick ≤ s.tick → Runs .graftJoin s fun t =>
      t.reg Reg.pairState = 3 ∧ t.reg Reg.graftResult = 1 ∧ t.reg Reg.graftPhase = 0 ∧
      SameRegs s t [Reg.pairState, Reg.graftResult, Reg.graftPhase, Reg.notifyDropped] ∧ SameMem s t) ∧
    (s.reg Reg.pairState ≠ 2 ∨ s.reg Reg.graftPhase ≠ 6 ∨ s.tick < s.nat Reg.graftJoinTick → exec .graftJoin s = .next s) ∧
    (s.reg Reg.pairState = 2 → Runs .graftAbort s fun t => t.reg Reg.graftResult = 0x17 ∧ t.reg Reg.graftPhase = 0 ∧
      t.reg Reg.pairState = (if s.pair.target then 4 else 1) ∧ t.answer.status = 0 ∧ SameMem s t) ∧
    (s.reg Reg.pairState ≠ 2 → Answers .graftAbort s 0) ∧
    (∀ (page w : Nat) (data : List Byte),
      (s.takesPages = true →
        Runs (.mirror page w data) s (fun t => t.pair.mirror = s.pair.mirror ++ [(page, w, data)] ∧ SameRegs s t [] ∧ SameMem s t) ∧
        Runs (.hot page w data) s (fun t => NTable.get 0 t.pair.pageTick (page / 4096) = w) ∧
        (plainMemory page = true → Runs (.hot page w data) s fun t => t.bytes page data.length = data ∧
          (∀ a, a < page ∨ page + data.length ≤ a → t.byte a = s.byte a) ∧ SameRegs s t [])) ∧
      (s.takesPages = false →
        Runs (.mirror page w data) s (fun t => t.pair.mirror = s.pair.mirror ∧ SameRegs s t [] ∧ SameMem s t) ∧
        Runs (.hot page w data) s (fun t => t.pair.pageTick = s.pair.pageTick ∧ SameRegs s t [] ∧ SameMem s t))) ∧
    (∀ l : List (Nat × Nat × Nat),
      (s.reg Reg.pairState = 2 → Runs (.pdig l) s fun t =>
        (∀ a, a ∈ t.pair.unsettled ↔ (a ∈ s.pair.unsettled ∧ ∀ e ∈ l, e.1 ≠ a) ∨ ∃ e ∈ l, e.1 = a ∧ s.pageEntry a ≠ e) ∧
        t.reg Reg.graftPagesLeft = t.pair.unsettled.length ∧ SameRegs s t [Reg.graftPagesLeft] ∧ SameMem s t) ∧
      (s.reg Reg.pairState ≠ 2 → Runs (.pdig l) s fun t => t.pair.unsettled = s.pair.unsettled ∧ SameRegs s t [] ∧ SameMem s t)) ∧
    (∀ k, s.paired = true → k = 0 ∨ s.tick + 2 ≤ k → Runs (.pairLeave k) s fun t =>
      t.pair.leaveAt = some (if k = 0 then s.tick + 2 else k) ∧
      t.pair.handAt = (if s.reg Reg.pairRole = 0 ∧ s.reg Reg.pairState = 3 ∧ s.pair.handAt = none then
        some (if k = 0 then s.tick + 2 else k, false) else s.pair.handAt) ∧
      t.answer.status = 0 ∧ SameRegs s t [] ∧ SameMem s t) ∧
    (∀ k, s.paired = true → k ≠ 0 → k < s.tick + 2 → Answers (.pairLeave k) s 0x13) ∧
    (∀ k, s.paired = false → Answers (.pairLeave k) s 0x14) ∧
    (∀ k, s.pair.leaveAt = some k →
      (k ≤ s.tick → s.reg Reg.pairRole ≠ 0 ∨ s.reg Reg.pairState ≠ 3 ∨ s.pair.handAt = none → Runs .pairLeaveApply s fun t =>
        t.reg Reg.pairState = 4 ∧ t.reg Reg.pairRole = 255 ∧ t.reg Reg.pairAuth = 0 ∧ t.pair.leaveAt = none ∧ SameMem s t) ∧
      (s.tick < k ∨ (s.reg Reg.pairRole = 0 ∧ s.reg Reg.pairState = 3 ∧ s.pair.handAt ≠ none) →
        exec .pairLeaveApply s = .next s)) ∧
    (s.pair.leaveAt = none → exec .pairLeaveApply s = .next s)

/-- Login in two exchanges. LOGIN of a source that is not locked out, with a good body and a free slot, opens a half session with the number and the challenge drawn and answers 0; a bad body answers FORMAT, no free slot FULL, a locked source or a gardener login that is not allowed AUTH with its count; in a session it is dropped. LOGIN_PROOF of the half session with the right proof opens it with the session key, with another proof forgets it and answers AUTH; without a half session it answers AUTH, from another source it is dropped. LOGIN_LAPSE forgets a half session that is 5 s old, LOCKOUT_END lifts a lockout that has run out. Where its condition does not hold each of these two changes nothing. -/
def Obligations.LoginInTwoExchanges : Prop :=
  ∀ (m : Omp) (s : State),
    (∀ (number : Fin 4294967296) (challenge : List Byte) (role plot : Nat) (bad : Bool), Arrives s m →
      leAt m.body 0 1 = role → leAt m.body 1 1 = plot →
      bad = (m.body.length != 20 || decide (2 < role) || leAt m.body 2 2 != 0 || (role == 0 && plot != 255) ||
        (role != 0 && decide (15 < plot))) →
      (m.session ≠ 0 → Runs (.login m number challenge) s fun t => t.sessions = s.sessions ∧ t.answer.sent = false ∧
        t.reg Reg.ompDropped = (s.reg Reg.ompDropped + 1) % 4294967296 ∧ SameRegs s t [Reg.ompRx, Reg.ompDropped] ∧ SameMem s t) ∧
      (m.session = 0 → s.lockedOut (sourceKey m) = true → Runs (.login m number challenge) s fun t =>
        t.answer.status = 0x19 ∧ t.sessions = s.sessions ∧ t.reg Reg.loginFail = (s.reg Reg.loginFail + 1) % 4294967296 ∧
        SameRegs s t [Reg.ompRx, Reg.ompTx, Reg.loginFail] ∧ SameMem s t) ∧
      (m.session = 0 → s.lockedOut (sourceKey m) = false →
        (bad = true → Runs (.login m number challenge) s fun t => t.answer.status = 0x1A ∧ t.sessions = s.sessions ∧
          SameRegs s t [Reg.ompRx, Reg.ompTx] ∧ SameMem s t) ∧
        (bad = false → role = 0 → zeros s.gardenerKey = true → s.firstLogin m.transport = false →
          Runs (.login m number challenge) s fun t => t.answer.status = 0x19 ∧ t.sessions = s.sessions ∧
            t.reg Reg.loginFail = (s.reg Reg.loginFail + 1) % 4294967296 ∧
            SameRegs s t [Reg.ompRx, Reg.ompTx, Reg.loginFail, Reg.lockoutCount] ∧ SameMem s t) ∧
        (bad = false → role ≠ 0 ∨ zeros s.gardenerKey = false ∨ s.firstLogin m.transport = true →
          (s.freeSlot = none → Runs (.login m number challenge) s fun t => t.answer.status = 0x16 ∧ t.sessions = s.sessions ∧
            SameRegs s t [Reg.ompRx, Reg.ompTx] ∧ SameMem s t) ∧
          (∀ k, s.freeSlot = some k → challenge.length = 16 → Runs (.login m number challenge) s fun t =>
            (t.session k).half = true ∧ (t.session k).open_ = false ∧ (t.session k).number = s.newNumber number ∧
            (t.session k).role = role ∧ (t.session k).plot = plot ∧ (t.session k).transport = m.transport ∧
            (t.session k).source = m.source ∧ (t.session k).challenge = challenge ∧ (t.session k).nonce = slice m.body 4 16 ∧
            (t.session k).lastTick = s.tick ∧ (∀ j, j ≠ k → t.session j = s.session j) ∧ t.answer.status = 0 ∧
            SameRegs s t [Reg.ompRx, Reg.ompTx] ∧ SameMem s t)))) ∧
    (Arrives s m →
      (s.lockedOut (sourceKey m) = true → Runs (.loginProof m) s fun t => t.answer.status = 0x19 ∧ t.sessions = s.sessions ∧
        t.reg Reg.loginFail = (s.reg Reg.loginFail + 1) % 4294967296 ∧
        SameRegs s t [Reg.ompRx, Reg.ompTx, Reg.loginFail] ∧ SameMem s t) ∧
      (s.lockedOut (sourceKey m) = false → s.slotOf m.session = none → Runs (.loginProof m) s fun t =>
        t.answer.status = 0x19 ∧ t.sessions = s.sessions ∧ t.reg Reg.loginFail = (s.reg Reg.loginFail + 1) % 4294967296 ∧
        SameRegs s t [Reg.ompRx, Reg.ompTx, Reg.loginFail, Reg.lockoutCount] ∧ SameMem s t)) ∧
    (∀ (k : Nat) (x : Session), Arrives s m → s.lockedOut (sourceKey m) = false → s.slotOf m.session = some k → s.session k = x →
      (x.half = false ∨ x.transport ≠ m.transport.val ∨ x.source ≠ m.source → Runs (.loginProof m) s fun t =>
        t.sessions = s.sessions ∧ t.answer.sent = false ∧ t.reg Reg.ompDropped = (s.reg Reg.ompDropped + 1) % 4294967296 ∧
        SameRegs s t [Reg.ompRx, Reg.ompDropped] ∧ SameMem s t) ∧
      (x.half = true → x.transport = m.transport.val → x.source = m.source →
        (∀ key, s.roleKey x.role x.plot = some key →
          m.body = hmac key (ascii "BXL" ++ x.challenge ++ x.nonce ++ leBytes 4 x.number ++ leBytes 1 x.role ++ leBytes 1 x.plot) →
          Runs (.loginProof m) s fun t => (t.session k).open_ = true ∧ (t.session k).half = false ∧
            (t.session k).ks = hmac key (ascii "BXS" ++ x.challenge ++ x.nonce) ∧ (t.session k).number = x.number ∧
            (t.session k).role = x.role ∧ (t.session k).plot = x.plot ∧ (t.session k).lastTick = s.tick ∧
            (t.session k).restricted = (x.role == 0 && zeros key) ∧ (∀ j, j ≠ k → t.session j = s.session j) ∧
            t.answer.status = 0 ∧ SameRegs s t [Reg.ompRx, Reg.ompTx] ∧ SameMem s t) ∧
        ((∀ key, s.roleKey x.role x.plot = some key → m.body ≠
            hmac key (ascii "BXL" ++ x.challenge ++ x.nonce ++ leBytes 4 x.number ++ leBytes 1 x.role ++ leBytes 1 x.plot)) →
          Runs (.loginProof m) s fun t => t.session k = {} ∧ (∀ j, j ≠ k → t.session j = s.session j) ∧
            t.answer.status = 0x19 ∧ t.reg Reg.loginFail = (s.reg Reg.loginFail + 1) % 4294967296 ∧
            SameRegs s t [Reg.ompRx, Reg.ompTx, Reg.loginFail, Reg.lockoutCount] ∧ SameMem s t))) ∧
    (∀ n : Fin 64,
      ((s.session n).half = true → (s.session n).lastTick + 5 * s.tps ≤ s.tick → Runs (.loginLapse n) s fun t =>
        t.session n = {} ∧ (∀ j, j ≠ n.val → t.session j = s.session j) ∧ SameRegs s t [] ∧ SameMem s t) ∧
      ((s.session n).half = false ∨ s.tick < (s.session n).lastTick + 5 * s.tps → exec (.loginLapse n) s = .next s)) ∧
    (∀ (transport : Fin 4) (source : Nat),
      (∀ k, (s.loginSource (transport.val + 4 * source)).lockedUntil = some k →
        (k ≤ s.tick → Runs (.lockoutEnd transport source) s fun t =>
          (t.loginSource (transport.val + 4 * source)).lockedUntil = none ∧ SameRegs s t [] ∧ SameMem s t) ∧
        (s.tick < k → exec (.lockoutEnd transport source) s = .next s)) ∧
      ((s.loginSource (transport.val + 4 * source)).lockedUntil = none → exec (.lockoutEnd transport source) s = .next s))

/-- Requests of a session that is open. A message that the chip does not take or that names another node does nothing but count; a tagged request while the gardener is occupied waits in its plot's queue of 16 and is dropped beyond it. LOGOUT without a body closes its session; HEARTBEAT answers the time and the tick, with or without a session; CLAIM_TAKE claims where no other session holds the claim and answers CLAIMED where one does, CLAIM_RELEASE gives it back, an observer is refused; another body answers FORMAT. GARDENER_KEY of 32 bytes by the gardener role writes the key and closes its other sessions, else it is refused; SESSION_TIMEOUT closes a session that has been silent for its time and leaves every other. -/
def Obligations.SessionRequests : Prop :=
  ∀ (m : Omp) (k : Nat) (x : Session) (s : State),
    (∀ (i : Instr) (number : Fin 4294967296) (challenge : List Byte) (bad : Option (Fin 2 × Nat)),
      i ∈ [.login m number challenge, .loginProof m, .logout m, .read m, .write m, .writeAt m, .blockRead m bad, .blockWrite m,
        .heartbeat m, .claimTake m, .claimRelease m] →
      (s.ompOpen m = false → exec i s = .next { s with answer := {} }) ∧
      (s.ompOpen m = true → s.nodeOk m = false → exec i s = .next (s.ompArrive m))) ∧
    (∀ (i : Instr) (q : ReqKind) (bad : Option (Fin 2 × Nat)),
      (i, q) ∈ [(.logout m, .logout), (.read m, .read), (.write m, .write), (.writeAt m, .writeAt), (.blockRead m bad, .blockRead bad),
        (.blockWrite m, .blockWrite), (.heartbeat m, .heartbeat), (.claimTake m, .claim true), (.claimRelease m, .claim false)] →
      Tagged s m q.op k x → s.gardBusy = true →
      ((s.waiting (min 16 x.plot)).length < 16 → Runs i s fun t =>
        t.waiting (min 16 x.plot) = s.waiting (min 16 x.plot) ++ [⟨q, m⟩] ∧ t.sessions = s.sessions ∧ t.answer.sent = false ∧
        SameRegs s t [Reg.ompRx] ∧ SameMem s t) ∧
      (16 ≤ (s.waiting (min 16 x.plot)).length → Runs i s fun t => t.gard = s.gard ∧ t.sessions = s.sessions ∧ t.answer.sent = false ∧
        t.reg Reg.ompDropped = (s.reg Reg.ompDropped + 1) % 4294967296 ∧ SameRegs s t [Reg.ompRx, Reg.ompDropped] ∧ SameMem s t)) ∧
    (Fresh s m 2 k x →
      (m.body = [] → Runs (.logout m) s fun t => t.session k = {} ∧ (∀ j, j ≠ k → t.session j = s.session j) ∧
        t.answer.status = 0 ∧ SameRegs s t [Reg.ompRx, Reg.ompTx] ∧ SameMem s t) ∧
      (m.body ≠ [] → Runs (.logout m) s fun t => (t.session k).open_ = true ∧ (t.session k).seq = m.seq ∧
        t.answer.status = 0x1A ∧ SameRegs s t [Reg.ompRx, Reg.ompTx] ∧ SameMem s t)) ∧
    (Fresh s m 9 k x → Runs (.heartbeat m) s fun t => (t.session k).lastTick = s.tick ∧ (t.session k).open_ = true ∧
      (∀ j, j ≠ k → t.session j = s.session j) ∧ t.answer.status = (if m.body = [] then 0 else 0x1A) ∧
      SameRegs s t [Reg.ompRx, Reg.ompTx] ∧ SameMem s t) ∧
    (Arrives s m → m.session = 0 → Runs (.heartbeat m) s fun t => t.sessions = s.sessions ∧
      t.answer.status = (if m.body = [] then 0 else 0x1A) ∧
      (m.body = [] → t.answer.sent = true → t.answer.bytes.drop 32 = timeBytes s.timeNs ++ leBytes 8 s.tick) ∧
      SameRegs s t [Reg.ompRx, Reg.ompTx] ∧ SameMem s t) ∧
    (Fresh s m 10 k x → ∀ (take : Bool) (i : Instr), i = (if take then .claimTake m else .claimRelease m) →
      (m.body = [if take then 1 else 0, 0, 0, 0, 0, 0, 0, 0] → x.role ≠ 2 →
        (take = false ∨ s.claimedBy k x = false → Runs i s fun t => (t.session k).claim = take ∧ t.answer.status = 0 ∧
          (∀ j, j ≠ k → t.session j = s.session j) ∧ SameRegs s t [Reg.ompRx, Reg.ompTx] ∧ SameMem s t) ∧
        (take = true → s.claimedBy k x = true → Runs i s fun t => (t.session k).claim = x.claim ∧ t.answer.status = 0x17 ∧
          (∀ j, j ≠ k → t.session j = s.session j) ∧ SameRegs s t [Reg.ompRx, Reg.ompTx] ∧ SameMem s t)) ∧
      (m.body ≠ [if take then 1 else 0, 0, 0, 0, 0, 0, 0, 0] ∨ x.role = 2 → Runs i s fun t => (t.session k).claim = x.claim ∧
        t.answer.status = (if m.body = [if take then 1 else 0, 0, 0, 0, 0, 0, 0, 0] then 0x11 else 0x1A) ∧
        SameRegs s t [Reg.ompRx, Reg.ompTx] ∧ SameMem s t)) ∧
    (∀ (n : Option (Fin 64)) (key : List Byte),
      (n = none ∨ (∃ j, n = some j ∧ (s.session j).open_ = true ∧ (s.session j).role = 0) →
        (key.length = 32 → Runs (.gardenerKey n key) s fun t => t.gardenerKey = key ∧ t.answer.status = 0 ∧
          (∀ j, (s.session j).open_ = true → (s.session j).role = 0 → some j ≠ n.map (·.val) → t.session j = {}) ∧
          (∀ j, n = some j → t.session j = s.session j) ∧ SameRegs s t [Reg.flashPending] ∧ SameMem s t) ∧
        (key.length ≠ 32 → Answers (.gardenerKey n key) s 0x12)) ∧
      (∀ j, n = some j → (s.session j).open_ = false ∨ (s.session j).role ≠ 0 → Answers (.gardenerKey n key) s 0x11)) ∧
    (∀ n : Fin 64,
      ((s.session n).open_ = true → (s.session n).lastTick + s.nat Reg.sessionTimeout * s.tps ≤ s.tick →
        Runs (.sessionTimeout n) s fun t => t.session n = {} ∧ (∀ j, j ≠ n.val → t.session j = s.session j) ∧
          SameRegs s t [] ∧ SameMem s t) ∧
      ((s.session n).open_ = false ∨ s.tick < (s.session n).lastTick + s.nat Reg.sessionTimeout * s.tps →
        exec (.sessionTimeout n) s = .next s))

/-- Reads, writes and block transfers. A session's READ answers each item with its status and value, its first as one read of the object does; before login READ serves identity. WRITE and WRITE_AT do what the write of their items in order does, and answer each status and the tick applied. BLOCK_WRITE of a segment does what the segment does; BLOCK_READ at offset 0 takes the object's value as its snapshot, past it serves the snapshot; a malformed request answers FORMAT. Transfers and snapshots 2 s old end. A BAR0 access acts as the bound session; with none bound, at a bad address or refused it is counted and reads 0; BAR0_BIND binds the session of the right tag. -/
def Obligations.ReadsWritesAndTransfers : Prop :=
  ∀ (m : Omp) (k idx sub : Nat) (x y : Session) (s : State), (s.received m k).session k = y →
    (Fresh s m 3 k x →
      (readItems m.body = none → Runs (.read m) s fun t => t.answer.status = 0x1A ∧ SameRegs s t [Reg.ompRx, Reg.ompTx] ∧ SameMem s t) ∧
      (∀ u : State × Nat × List Byte, readItems m.body = some [(idx, sub)] → (s.received m k).readItem y idx sub = u →
        (8 + (padItem u.2.2).length ≤ bodyMax m.transport → Runs (.read m) s fun t => t.answer.status = 0 ∧
          t.answer.items = [(u.2.1, u.2.2)] ∧ SameRegs u.1 t [Reg.ompTx] ∧ SameMem u.1 t) ∧
        (bodyMax m.transport < 8 + (padItem u.2.2).length → Runs (.read m) s fun t => t.answer.status = 0 ∧
          t.answer.items = [(0x12, [])] ∧ SameRegs s t [Reg.ompRx, Reg.ompTx] ∧ SameMem s t)) ∧
      (∀ o, readItems m.body = some [(idx, sub)] → objAt idx sub = some o → ¬(idx = 0x2240 ∧ sub = 1) → ¬(idx = 0x2260 ∧ sub = 12) →
        (s.received m k).mayTouch y o idx sub false = true →
        8 + (padItem ((s.received m k).view y o idx sub)).length ≤ bodyMax m.transport → Runs (.read m) s fun t =>
          t.answer.status = 0 ∧ t.answer.items = [(0, (s.received m k).view y o idx sub)] ∧
          SameRegs s t [Reg.ompRx, Reg.ompTx] ∧ SameMem s t)) ∧
    (Arrives s m → m.session = 0 →
      (readItems m.body = some [(0x1000, sub)] → 1 ≤ sub → sub ≤ 8 → Runs (.read m) s fun t => t.answer.status = 0 ∧
        t.answer.items = ((s.ompArrive m).readAll {} (bodyMax m.transport) [(0x1000, sub)]).2.items ∧
        t.sessions = s.sessions ∧ SameMem s t) ∧
      (readItems m.body = none ∨ readItems m.body = some [(idx, sub)] ∧ idx ≠ 0x1000 → Runs (.read m) s fun t =>
        t.answer.sent = false ∧ t.sessions = s.sessions ∧ SameRegs s t [Reg.ompRx] ∧ SameMem s t)) ∧
    (∀ (at_ : Option (Nat × Bool)) (i : Instr),
      (Fresh s m 4 k x ∧ i = .write m ∧ at_ = none) ∨ (Fresh s m 5 k x ∧ i = .writeAt m ∧ at_ = some (m.tick, bit (m.flags.val : Int) 3)) →
      (writeItems 64 m.body = none ∨ m.body = [] → Runs i s fun t => t.answer.status = 0x1A ∧
        SameRegs s t [Reg.ompRx, Reg.ompTx] ∧ SameMem s t) ∧
      (∀ (l : List (Nat × Nat × List Byte)) (u : State × Reply), writeItems 64 m.body = some l → l ≠ [] →
        (s.received m k).writeAll k at_ l = u → Runs i s fun t => t.answer.items = u.2.items ∧ t.answer.applied = u.2.applied ∧
          t.answer.status = u.2.status ∧ SameRegs u.1 t [Reg.ompTx] ∧ SameMem u.1 t) ∧
      (∀ (b : List Byte) (u : State × Nat × Nat), writeItems 64 m.body = some [(idx, sub, b)] →
        (s.received m k).writeItem k y idx sub b at_ = u → Runs i s fun t => t.answer.items = [(u.2.1, [])] ∧
          t.answer.applied = [u.2.2] ∧ t.answer.status = (if u.2.1 = 0x18 then 0x18 else 0) ∧
          SameRegs u.1 t [Reg.ompTx] ∧ SameMem u.1 t)) ∧
    (Fresh s m 7 k x →
      (m.body.length < 16 ∨ leAt m.body 3 1 ≠ 0 → Runs (.blockWrite m) s fun t => t.answer.status = 0x1A ∧
        SameRegs s t [Reg.ompRx, Reg.ompTx] ∧ SameMem s t) ∧
      (16 ≤ m.body.length → leAt m.body 3 1 = 0 → leAt m.body 0 2 = idx → leAt m.body 2 1 = sub →
        (∀ (o : ObjInfo), (s.received m k).mayWrite k y idx sub (bit (m.flags.val : Int) 4) = .ok o →
          (∀ u : State × Reply, o.ty = 15 → (s.received m k).blockSegment m k y idx sub = u → Runs (.blockWrite m) s fun t =>
            t.answer.status = u.2.status ∧ t.answer.applied = u.2.applied ∧ t.gard = u.1.gard ∧ SameRegs u.1 t [Reg.ompTx] ∧ SameMem u.1 t) ∧
          (o.ty ≠ 15 → Runs (.blockWrite m) s fun t => t.answer.status = 0x12 ∧ SameRegs s t [Reg.ompRx, Reg.ompTx] ∧ SameMem s t)) ∧
        (∀ code, (s.received m k).mayWrite k y idx sub (bit (m.flags.val : Int) 4) = .error code →
          Runs (.blockWrite m) s fun t => t.answer.status = code ∧ SameRegs s t [Reg.ompRx, Reg.ompTx] ∧ SameMem s t))) ∧
    (∀ bad : Option (Fin 2 × Nat), Fresh s m 6 k x →
      (m.body.length ≠ 12 ∨ leAt m.body 3 1 ≠ 0 → Runs (.blockRead m bad) s fun t => t.answer.status = 0x1A ∧
        SameRegs s t [Reg.ompRx, Reg.ompTx] ∧ SameMem s t) ∧
      (m.body.length = 12 → leAt m.body 3 1 = 0 → leAt m.body 0 2 = idx → leAt m.body 2 1 = sub →
        (∀ (o : ObjInfo) (u : State × Nat × List Byte), leAt m.body 4 4 = 0 → bad = none ∨ ¬(idx = 0x2500 ∧ sub = 6) →
          objAt idx sub = some o → o.ty = 15 → (s.received m k).readItem y idx sub = u → Runs (.blockRead m bad) s fun t =>
            t.answer.status = u.2.1 ∧ SameRegs u.1 t [Reg.ompTx] ∧ SameMem u.1 t ∧
            (u.2.1 = 0 → t.answer.items = [(0, slice u.2.2 0 (min (leAt m.body 8 4) (bodyMax m.transport - 8)))])) ∧
        (leAt m.body 4 4 = 0 → bad = none → objAt idx sub = none → Runs (.blockRead m bad) s fun t =>
          t.answer.status = (s.received m k).unknownCode y idx ∧ SameRegs s t [Reg.ompRx, Reg.ompTx] ∧ SameMem s t) ∧
        (∀ (v : List Byte) (w : Nat), leAt m.body 4 4 ≠ 0 → bad = none → x.snapshot = some (x.regOf idx sub, v, w) →
          (leAt m.body 4 4 ≤ v.length → Runs (.blockRead m bad) s fun t => t.answer.status = 0 ∧
            t.answer.items = [(0, slice v (leAt m.body 4 4) (min (leAt m.body 8 4) (bodyMax m.transport - 8)))] ∧
            SameRegs s t [Reg.ompRx, Reg.ompTx] ∧ SameMem s t) ∧
          (v.length < leAt m.body 4 4 → Runs (.blockRead m bad) s fun t => t.answer.status = 0x13 ∧
            SameRegs s t [Reg.ompRx, Reg.ompTx] ∧ SameMem s t)) ∧
        (leAt m.body 4 4 ≠ 0 → bad = none → x.snapshot = none → Runs (.blockRead m bad) s fun t => t.answer.status = 0x1C ∧
          SameRegs s t [Reg.ompRx, Reg.ompTx] ∧ SameMem s t))) ∧
    (∀ (n : Fin 64) (j : Fin 4),
      (∀ f : Transfer, (s.session n).transfers[j.val]? = some f →
        (f.lastTick + 2 * s.tps ≤ s.tick → Runs (.blockTransferAbort n j) s fun t => t.answer.status = 0x1C ∧
          (t.session n).transfers = (s.session n).transfers.eraseIdx j ∧ SameRegs s t [] ∧ SameMem s t) ∧
        (s.tick < f.lastTick + 2 * s.tps → exec (.blockTransferAbort n j) s = .next s)) ∧
      ((s.session n).transfers.length ≤ j.val → exec (.blockTransferAbort n j) s = .next s)) ∧
    (∀ n : Fin 64,
      (∀ (r : Reg) (v : List Byte) (w : Nat), (s.session n).snapshot = some (r, v, w) →
        (w + 2 * s.tps ≤ s.tick → Runs (.blockSnapshotExpire n) s fun t => (t.session n).snapshot = none ∧
          SameRegs s t [] ∧ SameMem s t) ∧
        (s.tick < w + 2 * s.tps → exec (.blockSnapshotExpire n) s = .next s)) ∧
      ((s.session n).snapshot = none → exec (.blockSnapshotExpire n) s = .next s)) ∧
    (∀ (off : Fin 4194304) (w : Option (List Byte)),
      (off.val % 8 ≠ 0 ∨ (∃ b, w = some b ∧ b.length ≠ 8) → Runs (.bar0Access off w) s fun t => t.answer.status = 0x12 ∧
        t.answer.bytes = List.replicate 8 0 ∧ t.host.barErr = (s.host.barErr + 1) % 4294967296 ∧ SameRegs s t [] ∧ SameMem s t) ∧
      (off.val % 8 = 0 → (∀ b, w = some b → b.length = 8) →
        (bar0Slot off = none → Runs (.bar0Access off w) s fun t => t.answer.status = 0 ∧ t.answer.bytes = List.replicate 8 0 ∧
          t.host = s.host ∧ SameRegs s t [] ∧ SameMem s t) ∧
        (bar0Slot off = some (idx, sub) → s.host.bound = none → Runs (.bar0Access off w) s fun t =>
          t.answer.bytes = List.replicate 8 0 ∧ t.host.barErr = (s.host.barErr + 1) % 4294967296 ∧ SameRegs s t [] ∧ SameMem s t) ∧
        (bar0Slot off = some (idx, sub) → s.host.bound = some k → s.session k = x →
          (objAt idx sub = none ∨ (∃ o, objAt idx sub = some o ∧ hasSlot o sub = false) → Runs (.bar0Access off w) s fun t =>
            t.answer.status = 0x10 ∧ t.answer.bytes = List.replicate 8 0 ∧ t.host.barErr = (s.host.barErr + 1) % 4294967296 ∧
            SameRegs s t [] ∧ SameMem s t) ∧
          (∀ o, objAt idx sub = some o → hasSlot o sub = true →
            (∀ u : State × Nat × List Byte, w = none → s.readItem x idx sub = u →
              (u.2.1 = 0 → Runs (.bar0Access off w) s fun t => t.answer.status = 0 ∧ t.answer.bytes = slotBytes o.ty u.2.2 ∧
                SameRegs u.1 t [] ∧ SameMem u.1 t) ∧
              (u.2.1 ≠ 0 → Runs (.bar0Access off w) s fun t => t.answer.status = u.2.1 ∧ t.answer.bytes = List.replicate 8 0 ∧
                t.host.barErr = (s.host.barErr + 1) % 4294967296 ∧ SameRegs s t [] ∧ SameMem s t)) ∧
            (∀ (b : List Byte) (u : State × Nat × Nat), w = some b → s.writeItem k x idx sub (b.take (tyLen o.ty)) none = u →
              (u.2.1 ≠ 0x11 → Runs (.bar0Access off w) s fun t => t.answer.status = u.2.1 ∧ SameRegs u.1 t [] ∧ SameMem u.1 t) ∧
              (u.2.1 = 0x11 → Runs (.bar0Access off w) s fun t => t.answer.status = 0x11 ∧ t.host.barAddr = off.val ∧
                t.host.barErr = (s.host.barErr + 1) % 4294967296 ∧ SameRegs s t [] ∧ SameMem s t)))))) ∧
    (∀ (session : Nat) (tag : List Byte),
      (s.slotOf session = some k → s.session k = x →
        (x.open_ = true → tag = (hmac x.ks (ascii "BXB" ++ leBytes 4 session)).take 16 → Runs (.bar0Bind session tag) s fun t =>
          t.host.bound = some k ∧ t.sessions = s.sessions ∧ SameRegs s t [] ∧ SameMem s t) ∧
        (x.open_ = false ∨ tag ≠ (hmac x.ks (ascii "BXB" ++ leBytes 4 session)).take 16 → exec (.bar0Bind session tag) s = .next s)) ∧
      (s.slotOf session = none → exec (.bar0Bind session tag) s = .next s))

/-- Pages use up sequence numbers. PAGE_WRITE of an open ring with a free index writes the oldest staged page with the ring's sequence number at PROD mod PAGES, advances PROD and the sequence number and counts a page sealed; with no free index the page is dropped: PROD stands still, LOST and the sequence number advance and FULL is set, so that the next page's SEQ shows the loss. PAGE_ABANDON of a page that has begun advances PROD, LOST and the sequence number and sets HOST_STALL; with no free index, or while the host stalls, the page is dropped in the same way; a message of the mailbox takes a page in the same way. With no page staged, on a closed ring, or, for PAGE_WRITE, in a warm reset nothing changes. -/
def Obligations.PagesUseUpSequenceNumbers : Prop :=
  ∀ (r : Fin 64) (g : StagedPage) (rest : List StagedPage) (s : State),
    (∀ msg, s.host.mbox = true → ((s.mboxOut msg).ring 63).nextSeq = (s.ring 63).nextSeq + 1 ∧
      ((s.ring 63).free = false → ((s.mboxOut msg).ring 63).prod = (s.ring 63).prod ∧
        ((s.mboxOut msg).ring 63).lost = ((s.ring 63).lost + 1) % 4294967296 ∧
        ((s.mboxOut msg).ring 63).status = (s.ring 63).status ||| 4)) ∧
    ((s.ring r).staged = [] ∨ (s.ring r).isOpen = false → exec (.pageWrite r) s = .next s ∧ exec (.pageAbandon r) s = .next s) ∧
    (s.rst.kind = 3 → exec (.pageWrite r) s = .next s) ∧
    ((s.ring r).staged = g :: rest → (s.ring r).isOpen = true →
      (s.rst.kind ≠ 3 → (s.ring r).free = true → Runs (.pageWrite r) s fun t =>
        t.host.page = some (r.val, (s.ring r).prod % (s.ring r).pages, (s.ring r).pageBytes g) ∧
        ((s.ring r).pageBytes g).drop 4092 = leBytes 4 (s.ring r).nextSeq ∧
        (t.ring r).prod = ((s.ring r).prod + 1) % 4294967296 ∧ (t.ring r).nextSeq = (s.ring r).nextSeq + 1 ∧
        (t.ring r).lost = (s.ring r).lost ∧ (t.ring r).staged = rest ∧
        t.reg (Reg.ringPagesSealed r) = (s.reg (Reg.ringPagesSealed r) + 1) % 18446744073709551616 ∧
        SameRegs s t [Reg.ringPagesSealed r] ∧ SameMem s t) ∧
      (s.rst.kind ≠ 3 → (s.ring r).free = false → Runs (.pageWrite r) s fun t =>
        (t.ring r).prod = (s.ring r).prod ∧ (t.ring r).nextSeq = (s.ring r).nextSeq + 1 ∧
        (t.ring r).lost = ((s.ring r).lost + 1) % 4294967296 ∧ (t.ring r).status = (s.ring r).status ||| 4 ∧
        (t.ring r).staged = rest ∧ t.host = s.host ∧ SameRegs s t [] ∧ SameMem s t) ∧
      ((s.ring r).free = true → (s.ring r).stalled = false → Runs (.pageAbandon r) s fun t =>
        (t.ring r).prod = ((s.ring r).prod + 1) % 4294967296 ∧ (t.ring r).nextSeq = (s.ring r).nextSeq + 1 ∧
        (t.ring r).lost = ((s.ring r).lost + 1) % 4294967296 ∧ (t.ring r).status = (s.ring r).status ||| 2 ∧
        (t.ring r).stalled = true ∧ (t.ring r).staged = rest ∧ t.host = s.host ∧ SameRegs s t [] ∧ SameMem s t) ∧
      ((s.ring r).free = false ∨ (s.ring r).stalled = true → Runs (.pageAbandon r) s fun t =>
        (t.ring r).prod = (s.ring r).prod ∧ (t.ring r).nextSeq = (s.ring r).nextSeq + 1 ∧
        (t.ring r).lost = ((s.ring r).lost + 1) % 4294967296 ∧ (t.ring r).status = (s.ring r).status ||| 4 ∧
        (t.ring r).staged = rest ∧ t.host = s.host ∧ SameRegs s t [] ∧ SameMem s t))

/-- Rings and the mailbox. RING_OPEN of a closed ring by an owner or the gardener with a valid record opens it with the record's base, pages, kind, vector and coalescing, empty; an observer, a bad record or an open ring is refused with its code. RING_CLOSE by its plot or the gardener closes it, by another session answers ACCESS. RING_INDEX_WRITE takes the host's index, clears bits of STATUS, and does nothing at another offset or on a closed ring. MBOX_OPEN opens rings 62 and 63 where they are not open and the size is good, and its close ends the sessions on it; PCIE_LINK_LOSS closes every ring and every session of the link. -/
def Obligations.RingsAndMailbox : Prop :=
  ∀ (n r : Fin 64) (rec : List Byte) (s : State),
    ((s.session n).open_ = true → rec.length = 24 → r.val < 62 → leAt rec 0 8 % 4096 = 0 → 2 ≤ leAt rec 8 4 →
      leAt rec 8 4 ≤ 65536 → isPow2 (leAt rec 8 4) = true → (1 ≤ leAt rec 13 1 ∧ leAt rec 13 1 ≤ 4 ∨ leAt rec 13 1 = 255) →
      1 ≤ leAt rec 14 2 → leAt rec 14 2 ≤ 256 → leAt rec 16 8 = 0 →
      (s.session n).role = 0 ∧ leAt rec 12 1 ≤ 3 ∨ (s.session n).role = 1 ∧ leAt rec 12 1 ≤ 2 →
      (s.ring r).isOpen = false → Runs (.ringOpen n r rec) s fun t =>
        t.ring r = { owner := if (s.session n).role = 0 then 16 else (s.session n).plot, base := leAt rec 0 8, pages := leAt rec 8 4, kind := leAt rec 12 1, vector := leAt rec 13 1, coalesce := leAt rec 14 2, status := 1 } ∧
        (∀ q, q ≠ r.val → t.ring q = s.ring q) ∧ t.reg (Reg.ringPagesSealed r) = 0 ∧ t.answer.status = 0 ∧
        SameRegs s t [Reg.ringPagesSealed r] ∧ SameMem s t) ∧
    ((s.session n).open_ = false ∨ (s.session n).role = 2 → Answers (.ringOpen n r rec) s 0x11) ∧
    ((s.session n).open_ = true → (s.session n).role ≠ 2 →
      (rec.length ≠ 24 → Answers (.ringOpen n r rec) s 0x12) ∧
      (∀ bad : Bool, rec.length = 24 → bad = (decide (62 ≤ r.val) || decide (3 < leAt rec 12 1) || leAt rec 0 8 % 4096 != 0 ||
          decide (leAt rec 8 4 < 2) || decide (65536 < leAt rec 8 4) || !isPow2 (leAt rec 8 4) ||
          !(decide (1 ≤ leAt rec 13 1 ∧ leAt rec 13 1 ≤ 4) || leAt rec 13 1 == 255) || decide (leAt rec 14 2 < 1) ||
          decide (256 < leAt rec 14 2) || leAt rec 16 8 != 0) →
        (bad = true → Answers (.ringOpen n r rec) s 0x13) ∧
        (bad = false → leAt rec 12 1 = 3 → (s.session n).role ≠ 0 → Answers (.ringOpen n r rec) s 0x11) ∧
        (bad = false → leAt rec 12 1 ≠ 3 ∨ (s.session n).role = 0 → (s.ring r).isOpen = true → Answers (.ringOpen n r rec) s 0x14))) ∧
    ((s.session n).open_ = true → (s.session n).role = 0 ∨ (s.session n).role = 1 ∧ (s.ring r).owner = (s.session n).plot →
      r.val < 62 → Runs (.ringClose n r) s fun t => (t.ring r).isOpen = false ∧ (t.ring r).staged = [] ∧
        (t.ring r).status = (s.ring r).status / 2 * 2 ∧ (∀ q, q ≠ r.val → t.ring q = s.ring q) ∧ t.answer.status = 0 ∧
        SameRegs s t [] ∧ SameMem s t) ∧
    ((s.session n).open_ = true → (s.session n).role = 0 ∨ (s.session n).role = 1 ∧ (s.ring r).owner = (s.session n).plot →
      62 ≤ r.val → Answers (.ringClose n r) s 0x13) ∧
    ((s.session n).open_ = false ∨ (s.session n).role = 2 ∨ ((s.session n).role = 1 ∧ (s.ring r).isOpen = true ∧
      (s.ring r).owner ≠ (s.session n).plot) → Answers (.ringClose n r) s 0x11) ∧
    (∀ v, (s.ring r).isOpen = true →
      ((s.ring r).kind < 3 ∨ (s.ring r).kind = 5 → Runs (.ringIndexWrite r 4 v) s fun t => (t.ring r).cons = v % 4294967296 ∧
        (t.ring r).prod = (s.ring r).prod ∧ (∀ q, q ≠ r.val → t.ring q = s.ring q) ∧ SameRegs s t [] ∧ SameMem s t) ∧
      ((s.ring r).kind = 3 ∨ (s.ring r).kind = 4 → Runs (.ringIndexWrite r 0 v) s fun t => (t.ring r).prod = v % 4294967296 ∧
        (t.ring r).cons = (s.ring r).cons ∧ (∀ q, q ≠ r.val → t.ring q = s.ring q) ∧ SameRegs s t [] ∧ SameMem s t) ∧
      Runs (.ringIndexWrite r 0x14 v) s (fun t => (t.ring r).status = (s.ring r).status - ((s.ring r).status &&& (v % 4294967296) &&& 14) ∧
        (t.ring r).prod = (s.ring r).prod ∧ (t.ring r).cons = (s.ring r).cons ∧ (∀ q, q ≠ r.val → t.ring q = s.ring q) ∧
        SameRegs s t [] ∧ SameMem s t)) ∧
    (∀ off v, (s.ring r).isOpen = false ∨ (off ≠ 0 ∧ off ≠ 4 ∧ off ≠ 0x14) ∨ (off = 0 ∧ (s.ring r).kind ≠ 3 ∧ (s.ring r).kind ≠ 4) ∨
      (off = 4 ∧ ((s.ring r).kind = 3 ∨ (s.ring r).kind = 4)) → exec (.ringIndexWrite r off v) s = .next s) ∧
    (∀ inBase outBase pages,
      (s.host.mbox = false → 2 ≤ pages → pages ≤ 256 → isPow2 pages = true → Runs (.mboxOpen inBase outBase pages true) s fun t =>
        t.host.mbox = true ∧ (t.ring 62).isOpen = true ∧ (t.ring 62).base = inBase ∧ (t.ring 62).pages = pages ∧
        (t.ring 63).isOpen = true ∧ (t.ring 63).base = outBase ∧ (t.ring 63).pages = pages ∧
        (∀ q, q < 62 → t.ring q = s.ring q) ∧ SameRegs s t [] ∧ SameMem s t) ∧
      (s.host.mbox = true ∨ pages < 2 ∨ 256 < pages ∨ isPow2 pages = false → Runs (.mboxOpen inBase outBase pages true) s fun t =>
        t.host.mbox = s.host.mbox ∧ t.rings = s.rings ∧ t.sessions = s.sessions ∧ SameRegs s t [] ∧ SameMem s t) ∧
      Runs (.mboxOpen inBase outBase pages false) s (fun t => t.host.mbox = false ∧ (t.ring 62).isOpen = false ∧
        (t.ring 63).isOpen = false ∧ (∀ k, (s.session k).transport = 3 → t.session k = {}) ∧ SameRegs s t [] ∧ SameMem s t)) ∧
    Runs .pcieLinkLoss s (fun t => t.host.mbox = false ∧ (∀ q, (t.ring q).isOpen = false) ∧
      (∀ k, (s.session k).transport = 3 → t.session k = {}) ∧ SameRegs s t [] ∧ SameMem s t)

/-- The node address. ADDR_ANNOUNCE of another address keeps the highest heard; of the chip's own by a chip with a lower unique ID it is a conflict in fixed mode and a new address in chain mode, and by one with a higher it is announced again, a conflict too in fixed mode; of an address outside 1 to 254 that is not the chip's it does nothing. CHAIN_IN_HIGH starts the wait of 50 ms where the procedure runs, CHAIN_ADDRESS_TAKE ends it with the next address, or with none where 254 was heard; the third ADDR_ANNOUNCE_TX raises CHAIN_OUT; ADDR_RESTART forgets the address in chain mode; T1S_ACCESS selects the access and refuses a value above 1. Where its condition does not hold each changes nothing but the level of CHAIN_IN. -/
def Obligations.NodeAddress : Prop :=
  ∀ s : State,
    (∀ (a : Fin 256) uid, 1 ≤ a.val → a.val ≤ 254 → a.val ≠ s.nat Reg.idAddr → Runs (.addrAnnounce a uid) s fun t =>
      t.reg Reg.addrHighest = (max a.val (s.nat Reg.addrHighest) : Nat) ∧ SameRegs s t [Reg.addrHighest] ∧ t.units = s.units) ∧
    (∀ (a : Fin 256) uid, a.val = 0 ∨ a.val = 255 → a.val ≠ s.nat Reg.idAddr ∨ a.val = 0 → exec (.addrAnnounce a uid) s = .next s) ∧
    (∀ a : Fin 256, 1 ≤ a.val → a.val ≤ 254 → Runs (.addrAnnounce a (Config.uid % 18446744073709551616)) s fun t =>
      t.reg Reg.addrHighest = (max a.val (s.nat Reg.addrHighest) : Nat) ∧ SameRegs s t [Reg.addrHighest] ∧ t.units = s.units) ∧
    (∀ (a : Fin 256) uid, 1 ≤ a.val → a.val ≤ 254 → a.val = s.nat Reg.idAddr → uid ≠ Config.uid % 18446744073709551616 →
      (s.chainMode = false → uid < Config.uid % 18446744073709551616 → Runs (.addrAnnounce a uid) s fun t =>
        bit (t.reg Reg.addrState) 2 = true ∧ t.reg Reg.idAddr = s.reg Reg.idAddr ∧ t.addr = s.addr ∧
        SameRegs s t [Reg.addrHighest, Reg.addrState] ∧ SameMem s t) ∧
      (Config.uid % 18446744073709551616 < uid → Runs (.addrAnnounce a uid) s fun t =>
        t.reg Reg.idAddr = s.reg Reg.idAddr ∧ t.addr.announces = s.addr.announces + 1 ∧
        (s.chainMode = false → bit (t.reg Reg.addrState) 2 = true) ∧ (s.chainMode = true → t.reg Reg.addrState = s.reg Reg.addrState) ∧
        SameRegs s t [Reg.addrHighest, Reg.addrState] ∧ SameMem s t) ∧
      (s.chainMode = true → uid < Config.uid % 18446744073709551616 → max a.val (s.nat Reg.addrHighest) < 254 →
        Runs (.addrAnnounce a uid) s fun t => t.reg Reg.idAddr = (max a.val (s.nat Reg.addrHighest) + 1 : Nat) ∧
          t.addr.announces = 3 ∧ t.addr.stored = max a.val (s.nat Reg.addrHighest) + 1 ∧ t.addr.chainOut = s.addr.chainOut ∧
          SameRegs s t [Reg.addrHighest, Reg.idAddr, Reg.addrState, Reg.t1sStatus, Reg.flashPending] ∧ SameMem s t) ∧
      (s.chainMode = true → uid < Config.uid % 18446744073709551616 → 254 ≤ max a.val (s.nat Reg.addrHighest) →
        Runs (.addrAnnounce a uid) s fun t => t.reg Reg.idAddr = 0 ∧ bit (t.reg Reg.addrState) 1 = true ∧
          SameRegs s t [Reg.addrHighest, Reg.idAddr, Reg.addrState, Reg.t1sStatus] ∧ SameMem s t)) ∧
    (∀ now, s.chainMode = true → s.addr.chain = true → s.reg Reg.idAddr = 0 → s.addr.waitFrom = none → s.reg Reg.addrState = 0 →
      Runs (.chainInHigh now) s fun t => t.addr.waitFrom = some now ∧ t.addr.chainIn = true ∧ SameRegs s t [] ∧ SameMem s t) ∧
    (∀ now, s.chainMode = false ∨ s.addr.chain = false ∨ s.reg Reg.idAddr ≠ 0 ∨ s.addr.waitFrom ≠ none ∨
      bit (s.reg Reg.addrState) 1 = true → Runs (.chainInHigh now) s fun t => t.addr.waitFrom = s.addr.waitFrom ∧
      t.addr.chainIn = true ∧ SameRegs s t [] ∧ SameMem s t) ∧
    (∀ now f, s.addr.waitFrom = some f →
      (now < f + 50 → exec (.chainAddressTake now) s = .next s) ∧
      (f + 50 ≤ now → s.nat Reg.addrHighest < 254 → Runs (.chainAddressTake now) s fun t =>
        t.reg Reg.idAddr = (s.nat Reg.addrHighest + 1 : Nat) ∧ t.addr.stored = s.nat Reg.addrHighest + 1 ∧
        t.addr.announces = 3 ∧ t.addr.waitFrom = none ∧ t.reg Reg.addrState % 4 = 1 ∧
        SameRegs s t [Reg.idAddr, Reg.addrState, Reg.t1sStatus, Reg.flashPending] ∧ SameMem s t) ∧
      (f + 50 ≤ now → 254 ≤ s.nat Reg.addrHighest → Runs (.chainAddressTake now) s fun t => t.reg Reg.idAddr = 0 ∧
        bit (t.reg Reg.addrState) 1 = true ∧ t.addr.chainOut = s.addr.chainOut ∧ t.addr.waitFrom = none ∧
        SameRegs s t [Reg.idAddr, Reg.addrState, Reg.t1sStatus] ∧ SameMem s t)) ∧
    (∀ now, s.addr.waitFrom = none → exec (.chainAddressTake now) s = .next s) ∧
    (∀ now, s.addr.announces ≠ 0 → (∀ f, s.addr.lastTx = some f → f + 10 ≤ now) → bit (s.reg Reg.t1sStatus) 3 = false →
      Runs (.addrAnnounceTx now) s fun t => t.addr.announces = s.addr.announces - 1 ∧ t.answer.sent = true ∧
        t.answer.bytes = leBytes 1 (s.nat Reg.idAddr) ++ leBytes 8 (Config.uid % 18446744073709551616) ∧
        (s.addr.announces = 1 → t.addr.chainOut = true) ∧ (1 < s.addr.announces → t.addr.chainOut = s.addr.chainOut) ∧
        SameRegs s t [] ∧ SameMem s t) ∧
    (∀ now, s.addr.announces = 0 ∨ (∃ f, s.addr.lastTx = some f ∧ now < f + 10) ∨ bit (s.reg Reg.t1sStatus) 3 = true → exec (.addrAnnounceTx now) s = .next s) ∧
    (s.chainMode = true → Runs .addrRestart s fun t => t.reg Reg.idAddr = 0 ∧ t.reg Reg.addrState = 0 ∧ t.addr.chain = true ∧
      t.addr.chainOut = false ∧ t.addr.announces = 0 ∧ t.answer.status = 0 ∧
      SameRegs s t [Reg.idAddr, Reg.addrState, Reg.t1sStatus] ∧ SameMem s t) ∧
    (s.chainMode = false → Answers .addrRestart s 0) ∧
    (∀ v : Nat,
      (v ≤ 1 → Runs (.t1sAccess v) s fun t => t.reg Reg.t1sAccess = v ∧ t.answer.status = 0 ∧
        SameRegs s t [Reg.t1sAccess, Reg.t1sStatus] ∧ t.units = s.units) ∧
      (1 < v → Answers (.t1sAccess v) s 0x13))

/-- Reset sources and entry. Each source appears with its kind and code and holds the reset where the source does: power-on, pin, over-temperature, watchdog, clock loss, and the RST_CMD kinds at their boundary two ticks on. RESET_ENTER begins the reset that has appeared where none of its reach runs: cold and power-on leave the chip's state of reset and zero memory, warm clears the cores and keeps DRAM, gardener closes the sessions and keeps memory, a port reset marks its port; one of no greater reach is absorbed. RESET_SOURCE_CLEAR releases its source. CLOCK_LOSS of a port's or a link's clock takes its links down. -/
def Obligations.ResetSourcesAndEntry : Prop :=
  ∀ s : State,
    Runs .powerOnReset s (fun t => t.rst.asks = s.rst.asks ++ [(1, 1)] ∧ SameRegs s t [] ∧ SameMem s t) ∧
    (s.rst.phase ≠ 1 ∨ 3 ≤ s.rst.kind → Runs .resetPin s fun t => t.rst.asks = s.rst.asks ++ [(2, 3)] ∧ 3 ∈ t.rst.held ∧
      t.reg Reg.rstPinEvents = (s.reg Reg.rstPinEvents + 1) % 4294967296 ∧
      SameRegs s t [Reg.rstPinEvents, Reg.faultCode, Reg.faultCount] ∧ SameMem s t) ∧
    (s.rst.phase = 1 → s.rst.kind = 1 ∨ s.rst.kind = 2 → exec .resetPin s = .next s) ∧
    (∀ tenths : Int,
      (1250 < tenths → Runs (.tjOvertemp tenths) s fun t => t.rst.asks = s.rst.asks ++ [(2, 6)] ∧ 6 ∈ t.rst.held ∧
        t.reg Reg.tjNow = tenths ∧ t.reg Reg.tjMax = max tenths (s.reg Reg.tjMax) ∧
        SameRegs s t [Reg.tjNow, Reg.tjMax, Reg.faultCode, Reg.faultCount] ∧ SameMem s t) ∧
      (tenths ≤ 1250 → Runs (.tjOvertemp tenths) s fun t => t.rst = s.rst ∧ t.reg Reg.tjNow = tenths ∧
        t.reg Reg.tjMax = max tenths (s.reg Reg.tjMax) ∧ SameRegs s t [Reg.tjNow, Reg.tjMax] ∧ SameMem s t)) ∧
    (∀ now, s.rst.kind = 0 → Runs (.watchdogExpire now) s fun t => t.rst.asks = s.rst.asks ++ [(4, 10)] ∧
      ((s.rst.dogs.filter fun x => decide (now < x + 600000000)).length ≥ 2 → t.rst.other = true ∧ t.rst.dogs = []) ∧
      ((s.rst.dogs.filter fun x => decide (now < x + 600000000)).length < 2 → t.rst.other = s.rst.other) ∧
      SameRegs s t [] ∧ SameMem s t) ∧
    (∀ now, s.rst.kind ≠ 0 → exec (.watchdogExpire now) s = .next s) ∧
    (∀ (i : Instr) (kind port : Nat), (i, kind, port) ∈ [(Instr.rstCmdCold, 1, 0), (.rstCmdWarm, 2, 0), (.rstCmdGardener, 3, 0)] ∨
      (∃ p : Fin 28, i = .rstCmdPort p ∧ kind = 4 ∧ port = p.val) → Runs i s fun t =>
        t.rst.cmds = s.rst.cmds ++ [(s.tick + 2, kind, port)] ∧ t.answer.status = 0 ∧ SameRegs s t [] ∧ SameMem s t) ∧
    (∀ k kind port, s.rst.cmds = [(k, kind, port)] →
      (k ≤ s.tick → Runs .resetCmdApply s fun t => t.rst.cmds = [] ∧ t.rst.asks = s.rst.asks ++ [match kind with
        | 1 => (2, 7) | 2 => (3, 8) | 4 => (5, port) | _ => (4, 9)] ∧ SameRegs s t [] ∧ SameMem s t) ∧
      (s.tick < k → Runs .resetCmdApply s fun t => t.rst = s.rst ∧ SameRegs s t [] ∧ SameMem s t)) ∧
    (∀ d : Fin 26,
      (d.val ≠ 0 → 0 ≤ s.reg Reg.dpllSticky → Runs (.clockLoss d) s fun t => t.reg (Reg.clkState d) = 1 ∧
        t.reg (Reg.clkLossCount d) = (s.reg (Reg.clkLossCount d) + 1) % 4294967296 ∧ bit (t.reg Reg.dpllSticky) 10 = true ∧
        (d.val = 1 → t.rst.asks = s.rst.asks ++ [(2, 4)] ∧ 4 ∈ t.rst.held) ∧
        (d.val = 4 → t.rst.asks = s.rst.asks ++ [(4, 11)]) ∧
        (d.val ∈ [2, 3, 5, 6, 12, 17, 18] → t.rst.asks = s.rst.asks ++ [(2, 5)]) ∧
        (d.val = 7 → t.host.mbox = false ∧ ∀ q, (t.ring q).isOpen = false) ∧
        (∀ n : Fin 24, d.val = (if n.val < 8 then 8 else 9) → t.reg (Reg.netLink n) = (if s.reg (Reg.netLink n) = 1 then 0 else s.reg (Reg.netLink n))) ∧
        (d.val = 10 → t.reg Reg.t1sStatus = (s.nat Reg.t1sStatus / 4 * 4 : Nat)) ∧
        (d.val = 11 → t.reg (Reg.weltState 0) = 0 ∧ t.reg (Reg.weltState 1) = 0) ∧
        (d.val ∈ [1, 2, 3, 5, 6, 12, 17, 18] → s.paired = true → t.reg Reg.pairAuth = 0 ∧ t.reg Reg.pairState = 4) ∧ SameMem s t) ∧
      (d.val = 0 → exec (.clockLoss d) s = .next s)) ∧
    (∀ src, s.rst.asks = [(2, src)] → s.rst.kind = 0 ∨ 2 < s.rst.kind → Runs .resetEnter s fun t =>
      t.rst.kind = 2 ∧ t.rst.source = src ∧ t.rst.phase = 1 ∧ t.rst.asks = [] ∧ t.reg Reg.rstCause = (2 * 256 + src : Nat) ∧
      t.reg (rstCounter 0) = (s.reg (rstCounter 0) + 1) % 4294967296 ∧ t.reg Reg.braceState = s.reg Reg.braceState ∧
      t.tick = 0 ∧ t.cores = [] ∧ t.plots = [] ∧ t.sessions = [] ∧ t.pending = s.pending ∧ ∀ a, t.byte a = 0) ∧
    (∀ src, s.rst.asks = [(1, src)] → s.rst.kind ≠ 1 → Runs .resetEnter s fun t =>
      t.rst.kind = 1 ∧ t.rst.source = src ∧ t.rst.phase = 0 ∧ t.rst.asks = [] ∧ t.reg Reg.rstCause = (256 + src : Nat) ∧
      t.reg Reg.braceState = 0 ∧ t.reg (rstCounter 0) = 0 ∧ t.tick = 0 ∧ t.cores = [] ∧ t.plots = [] ∧ t.sessions = [] ∧
      t.pending = s.pending ∧ ∀ a, t.byte a = 0) ∧
    (∀ src, s.rst.asks = [(3, src)] → s.rst.kind = 0 ∨ s.rst.kind = 4 → Runs .resetEnter s fun t =>
      t.rst.kind = 3 ∧ t.rst.source = src ∧ t.rst.phase = 1 ∧ t.rst.asks = [] ∧ t.reg Reg.rstCause = (3 * 256 + src : Nat) ∧
      t.tick = s.tick ∧ t.cores = [] ∧ t.sessions = [] ∧ t.pending = s.pending ∧ ∀ a < 0x400000000, t.byte a = s.byte a) ∧
    (∀ src, s.rst.asks = [(4, src)] → s.rst.kind = 0 → Runs .resetEnter s fun t =>
      t.rst.kind = 4 ∧ t.rst.source = src ∧ t.rst.phase = 1 ∧ t.rst.asks = [] ∧ t.reg Reg.rstCause = (4 * 256 + src : Nat) ∧
      t.tick = s.tick ∧ t.sessions = [] ∧ t.pending = s.pending ∧ SameMem s t) ∧
    (∀ port, s.rst.asks = [(5, port)] → s.rst.kind = 0 → bit (s.rst.ports : Int) port = false → Runs .resetEnter s fun t =>
      t.rst.ports = s.rst.ports + 2 ^ port ∧ t.rst.kind = 0 ∧ t.rst.asks = [] ∧
      t.reg (rstCounter 3) = (s.reg (rstCounter 3) + 1) % 4294967296 ∧ t.tick = s.tick ∧ SameMem s t) ∧
    (s.rst.asks = [] → exec .resetEnter s = .next s) ∧
    (∀ kind src, s.rst.asks = [(kind, src)] → kind ≠ 5 → s.rst.kind ≠ 0 → s.rst.kind ≤ kind → Runs .resetEnter s fun t =>
      t.rst.phase = (if kind = 1 then 0 else if kind = 2 then min s.rst.phase 1 else if s.rst.phase = 2 then 1 else s.rst.phase) ∧
      t.rst.kind = s.rst.kind ∧ t.rst.source = s.rst.source ∧ t.rst.asks = [] ∧ t.tick = s.tick ∧ SameMem s t) ∧
    (∀ src : Fin 13, Runs (.resetSourceClear src) s fun t => src.val ∉ t.rst.held ∧
      (∀ x ∈ s.rst.held, x ≠ src.val → x ∈ t.rst.held) ∧ SameRegs s t [Reg.clkState 1, Reg.faultCode, Reg.faultCount] ∧ SameMem s t)

/-- Bring-up, firmware and option block. STRETCH_END of the chip goes to the phase of its kind once no source holds, of a port ends its reset; BRINGUP_PHASE_DONE takes the phases in turn and at OPTION_LOAD commits the straps; FIRMWARE_READY of a valid image ends the reset, after a cold one with ticks from 0 unless a value was written, FW_READY_TIMEOUT after 2 s boots the other slot by a gardener reset that counts or, where both have failed, none. FW_STAGE writes the spare slot, or waits while flash is held, FW_SWITCH asks for the reset that boots it; OPT_BLOCK writes the copy not in use with the next SERIAL and its CRC; FLASH_HOLD_END lets queued writes proceed. Where its condition does not hold each changes nothing. -/
def Obligations.BringUpFirmwareAndFlash : Prop :=
  ∀ s : State,
    (s.rst.kind ≠ 0 → s.rst.phase = 1 → s.rst.held = [] → Runs (.stretchEnd none) s fun t =>
      t.rst.phase = (if s.rst.kind ≤ 2 then 2 else if s.rst.kind = 3 then 3 else 5) ∧ t.rst.kind = s.rst.kind ∧
      SameRegs s t [] ∧ SameMem s t) ∧
    (s.rst.kind = 0 ∨ s.rst.phase ≠ 1 ∨ s.rst.held ≠ [] → exec (.stretchEnd none) s = .next s) ∧
    (∀ p : Fin 28,
      (bit (s.rst.ports : Int) p = true → Runs (.stretchEnd (some p)) s fun t => t.rst.ports = s.rst.ports - 2 ^ p.val ∧
        t.reg Reg.rstLastTick = s.tick ∧ (p.val < 24 → t.reg (Reg.netLink p) = 0) ∧
        SameRegs s t [Reg.rstLastTick, Reg.netLink p] ∧ SameMem s t) ∧
      (bit (s.rst.ports : Int) p = false → exec (.stretchEnd (some p)) s = .next s)) ∧
    (∀ rep : BringUp,
      (s.rst.phase = 0 → s.rst.held = [] → Runs (.bringupPhaseDone rep) s fun t => t.rst.phase = 1 ∧
        t.rst.supplyEnd = rep.now ∧ SameRegs s t [] ∧ SameMem s t) ∧
      (s.rst.phase = 0 → s.rst.held ≠ [] → exec (.bringupPhaseDone rep) s = .next s) ∧
      (s.rst.phase = 2 → s.rst.asks = [] → Runs (.bringupPhaseDone rep) s fun t => t.rst.phase = 3 ∧
        t.rst.strapAddr = rep.addr ∧ t.reg Reg.tickFamily = (if rep.fam44 then 1 else 0) ∧
        t.reg Reg.pairMode = (if rep.pairEn then 1 else 0) ∧ t.reg Reg.pairState = (if rep.pairEn then 4 else 0) ∧
        t.reg Reg.addrMode = (if rep.addr.val = 0 then 0 else 1) ∧
        t.rst.opt = (optSelect s.flashNow.opt0 s.flashNow.opt1).2.1 ∧ SameMem s t) ∧
      (s.rst.phase = 3 → Runs (.bringupPhaseDone rep) s fun t => t.rst.phase = 4 ∧ SameRegs s t [] ∧ SameMem s t) ∧
      (s.rst.phase = 2 → s.rst.asks ≠ [] → exec (.bringupPhaseDone rep) s = .next s) ∧
      (s.rst.phase = 1 ∨ 5 ≤ s.rst.phase → exec (.bringupPhaseDone rep) s = .next s) ∧
      (s.rst.phase = 4 → Runs (.bringupPhaseDone rep) s fun t => t.rst.phase = 5 ∧ t.rst.bootAt = rep.now ∧ SameMem s t)) ∧
    (∀ now, s.rst.kind = 0 ∨ s.rst.phase ≠ 5 ∨ s.rst.noFw = true → exec (.firmwareReady now) s = .next s ∧
      exec (.fwReadyTimeout now) s = .next s) ∧
    (∀ now, s.rst.kind ≠ 0 → s.rst.phase = 5 → s.rst.noFw = false →
      ((s.rst.slot (min 1 (s.nat Reg.fwActive))).valid = true → Runs (.firmwareReady now) s fun t => t.rst.kind = 0 ∧
        t.rst.phase = 6 ∧ t.rst.failed = 0 ∧ (s.rst.kind ≤ 3 → t.rst.upAt = t.tick) ∧
        t.tick = (if s.rst.kind ≤ 2 ∧ s.clk.told = false then 0 else s.tick) ∧
        (s.rst.kind = 4 → t.reg Reg.rstLastTick = s.tick ∧ SameMem s t)) ∧
      ((s.rst.slot (min 1 (s.nat Reg.fwActive))).valid = false → exec (.firmwareReady now) s = .next s) ∧
      (s.bootOver now = false → exec (.fwReadyTimeout now) s = .next s) ∧
      (s.bootOver now = true → s.rst.failed ||| 2 ^ (min 1 (s.nat Reg.fwActive)) ≠ 3 → Runs (.fwReadyTimeout now) s fun t =>
        t.reg Reg.fwActive = s.spareSlot ∧ t.reg Reg.fwState = 4 ∧ t.rst.bootAt = now ∧ t.rst.phase = (if s.rst.kind = 4 then 1 else 5) ∧
        t.reg (rstCounter 2) = (s.reg (rstCounter 2) + 1) % 4294967296 ∧
        t.rst.failed = s.rst.failed ||| 2 ^ (min 1 (s.nat Reg.fwActive)) ∧ SameRegs s t [Reg.fwActive, Reg.fwState, rstCounter 2] ∧ SameMem s t) ∧
      (s.bootOver now = true → s.rst.failed ||| 2 ^ (min 1 (s.nat Reg.fwActive)) = 3 → Runs (.fwReadyTimeout now) s fun t =>
        t.rst.noFw = true ∧ t.rst.kind = s.rst.kind ∧ SameRegs s t [Reg.faultCode, Reg.faultCount] ∧ SameMem s t)) ∧
    (∀ len ok build,
      (16777216 < len → Answers (.fwStage len ok build) s 0x13) ∧
      (len ≤ 16777216 → s.reg Reg.flashHold = 0 → Runs (.fwStage len ok build) s fun t =>
        t.rst.slot s.spareSlot = { valid := ok, build := build } ∧ t.rst.slot (1 - s.spareSlot) = s.rst.slot (1 - s.spareSlot) ∧
        t.reg Reg.fwState = (if ok then 2 else 0x10) ∧ t.answer.status = 0 ∧ SameRegs s t [Reg.fwState] ∧ SameMem s t) ∧
      (len ≤ 16777216 → s.reg Reg.flashHold ≠ 0 → Runs (.fwStage len ok build) s fun t => t.rst.stagedFw = some (ok, build) ∧
        t.rst.fw0 = s.rst.fw0 ∧ t.rst.fw1 = s.rst.fw1 ∧ t.reg Reg.fwState = 1 ∧
        t.reg Reg.flashPending = (s.reg Reg.flashPending + 1) % 4294967296 ∧ t.answer.status = 0 ∧
        SameRegs s t [Reg.fwState, Reg.flashPending] ∧ SameMem s t)) ∧
    ((s.rst.slot s.spareSlot).valid = true → Runs .fwSwitch s fun t => t.rst.cmds = s.rst.cmds ++ [(s.tick + 2, 5, 0)] ∧
      t.reg Reg.fwState = 3 ∧ t.answer.status = 0 ∧ SameRegs s t [Reg.fwState] ∧ SameMem s t) ∧
    ((s.rst.slot s.spareSlot).valid = false → Runs .fwSwitch s fun t => t.rst = s.rst ∧ t.reg Reg.fwState = 0x11 ∧
      SameRegs s t [Reg.fwState] ∧ SameMem s t) ∧
    (∀ b : List Byte,
      (b.length = 64 → Runs (.optBlock b) s fun t => ∃ x, (if s.rst.optCopy = 0 then t.rst.opt1 else t.rst.opt0) = x ∧
        (if s.rst.optCopy = 0 then t.rst.opt0 = s.rst.opt0 else t.rst.opt1 = s.rst.opt1) ∧ t.rst.opt = s.rst.opt ∧
        x.length = 64 ∧ x.take 8 = b.take 8 ∧ leAt x 8 4 = (leAt s.rst.opt 8 4 + 1) % 4294967296 ∧
        slice x 12 48 = slice b 12 48 ∧ x.drop 60 = leBytes 4 (crc32 (x.take 60)) ∧ t.answer.status = 0 ∧
        SameRegs s t [Reg.flashPending] ∧ SameMem s t) ∧
      (b.length ≠ 64 → Answers (.optBlock b) s 0x12)) ∧
    (∀ now, s.reg Reg.flashHold ≠ 0 → s.reg Reg.braceState = 0 →
      s.nat Reg.supFlags % 256 + s.nat Reg.supFlags / 65536 = 0 →
      (s.brace.lastCaution + 1000000 ≤ now → s.brace.normalAt + 1000000 ≤ now → s.rst.stagedFw = none →
        Runs (.flashHoldEnd now) s fun t => t.reg Reg.flashHold = 0 ∧ t.reg Reg.flashPending = 0 ∧
          SameRegs s t [Reg.flashHold, Reg.flashPending] ∧ SameMem s t) ∧
      (∀ ok build, s.brace.lastCaution + 1000000 ≤ now → s.brace.normalAt + 1000000 ≤ now → s.rst.stagedFw = some (ok, build) →
        Runs (.flashHoldEnd now) s fun t => t.reg Reg.flashHold = 0 ∧ t.reg Reg.flashPending = 0 ∧ t.rst.stagedFw = none ∧
          t.rst.slot s.spareSlot = { valid := ok, build := build } ∧ t.reg Reg.fwState = (if ok then 2 else 0x10) ∧
          SameRegs s t [Reg.flashHold, Reg.flashPending, Reg.fwState] ∧ SameMem s t) ∧
      (now < s.brace.lastCaution + 1000000 ∨ now < s.brace.normalAt + 1000000 → exec (.flashHoldEnd now) s = .next s)) ∧
    (∀ now, s.reg Reg.flashHold = 0 ∨ s.reg Reg.braceState ≠ 0 ∨ s.nat Reg.supFlags % 256 + s.nat Reg.supFlags / 65536 ≠ 0 →
      exec (.flashHoldEnd now) s = .next s)

/-- Supply and brace. A rail below its caution threshold sets its flag, counts and holds flash writes, below its brace threshold it begins the brace sequence once, at a fail threshold it takes AUTH and READY at once and appears as a reset that it holds; RAIL_CLEAR takes each back, JUNCTION_CAUTION does the same for the temperature. PWR_MAIN_OK falling begins the sequence; the battery policy at its boundary reaches the channels, drives PWR_SHED_N and, with the battery on or missing for 1 s, the chip is BRACED; 250 ms of return conditions unbrace it, and it is NORMAL when every brace gain is home. In a pair in lockstep role A brings its actions 8 ticks on and role B waits for them; where its condition does not hold each changes nothing. -/
def Obligations.SupplyAndBrace : Prop :=
  ∀ (r : Fin 8) (now : Nat) (pairLeft : List Reg) (s : State), pairLeft =
      [Reg.pairRole, Reg.pairAuth, Reg.pairState, Reg.weltState 0, Reg.weltState 1, Reg.graftPhase] →
    (∀ (th : Fin 5) (b : Nat), (th, b) = (0, r.val) ∨ (th, b) = (3, 16 + r.val) →
      (bit (s.reg Reg.supFlags) b = false → Runs (.railCrossing r th now) s fun t => bit (t.reg Reg.supFlags) b = true ∧
        t.reg Reg.supCautionCount = (s.reg Reg.supCautionCount + 1) % 4294967296 ∧ bit (t.reg Reg.flashHold) 0 = true ∧
        t.reg Reg.supState = (if t.nat Reg.supFlags / 256 % 256 = 0 then 1 else 2) ∧
        SameRegs s t [Reg.supFlags, Reg.supCautionCount, Reg.flashHold, Reg.supState, Reg.notifyDropped] ∧ SameMem s t) ∧
      (bit (s.reg Reg.supFlags) b = true → Runs (.railCrossing r th now) s fun t =>
        SameRegs s t [Reg.supState, Reg.notifyDropped] ∧ SameMem s t) ∧
      Runs (.railClear r th now) s (fun t => bit (t.reg Reg.supFlags) b = false ∧ t.brace.lastCaution = now ∧
        SameRegs s t [Reg.supFlags, Reg.supState, Reg.notifyDropped] ∧ SameMem s t)) ∧
    (bit (s.reg Reg.supFlags) (8 + r) = false → s.reg Reg.braceState ≠ 1 → s.reg Reg.braceState ≠ 2 → Runs (.railCrossing r 1 now) s fun t =>
      bit (t.reg Reg.supFlags) (8 + r) = true ∧ t.reg Reg.supState = 2 ∧ t.reg Reg.braceState = 1 ∧
      t.reg Reg.braceSince = s.tick ∧ t.reg Reg.braceCount = (s.reg Reg.braceCount + 1) % 4294967296 ∧
      bit (t.reg Reg.flashHold) 1 = true ∧ t.brace.at_ = now ∧ t.brace.from_ = none ∧
      t.brace.policyAt = (if s.bracedByA then none else some (s.braceTick (s.tick + 1))) ∧
      SameRegs s t [Reg.supFlags, Reg.supState, Reg.braceState, Reg.braceSince, Reg.braceCount, Reg.flashHold, Reg.notifyDropped] ∧
      SameMem s t) ∧
    (bit (s.reg Reg.supFlags) (8 + r) = false → s.reg Reg.braceState = 1 ∨ s.reg Reg.braceState = 2 →
      Runs (.railCrossing r 1 now) s fun t => t.reg Reg.braceState = s.reg Reg.braceState ∧ t.brace.from_ = none ∧
        SameRegs s t [Reg.supFlags, Reg.supState, Reg.notifyDropped] ∧ SameMem s t) ∧
    (bit (s.reg Reg.supFlags) (8 + r) = true → exec (.railCrossing r 1 now) s = .next s) ∧
    Runs (.railClear r 1 now) s (fun t => bit (t.reg Reg.supFlags) (8 + r) = false ∧
      SameRegs s t [Reg.supFlags, Reg.supState, Reg.notifyDropped] ∧ SameMem s t) ∧
    (r.val ≠ 2 → Runs (.railCrossing r 2 now) s fun t => t.rst.asks = s.rst.asks ++ [(2, 2)] ∧ 32 + r.val ∈ t.rst.held ∧
      t.reg Reg.supFailCount = (s.reg Reg.supFailCount + 1) % 4294967296 ∧
      SameRegs s t ([Reg.supFailCount, Reg.faultCode, Reg.faultCount] ++ pairLeft) ∧ SameMem s t) ∧
    (r.val = 2 → Runs (.railCrossing r 2 now) s fun t => t.rst.asks = s.rst.asks ++ [(1, 1)] ∧ 34 ∈ t.rst.held ∧
      SameRegs s t ([Reg.faultCode, Reg.faultCount] ++ pairLeft) ∧ SameMem s t) ∧
    Runs (.railCrossing r 4 now) s (fun t => t.rst.asks = s.rst.asks ++ [(2, 2)] ∧ 64 + r.val ∈ t.rst.held ∧
      SameRegs s t ([Reg.supFailCount, Reg.faultCode, Reg.faultCount] ++ pairLeft) ∧ SameMem s t) ∧
    (∀ th : Fin 5, th.val = 2 ∨ th.val = 4 → s.paired = true → Runs (.railCrossing r th now) s fun t =>
      t.reg Reg.pairAuth = 0 ∧ t.reg Reg.pairRole = 255 ∧ t.reg Reg.pairState = 4) ∧
    Runs (.railClear r 2 now) s (fun t => 32 + r.val ∉ t.rst.held ∧ SameRegs s t [Reg.faultCode, Reg.faultCount] ∧ SameMem s t) ∧
    Runs (.railClear r 4 now) s (fun t => 64 + r.val ∉ t.rst.held ∧ SameRegs s t [Reg.faultCode, Reg.faultCount] ∧ SameMem s t) ∧
    (∀ tenths : Int,
      (bit (s.reg Reg.supFlags) 24 = false → Runs (.junctionCaution true tenths now) s fun t => bit (t.reg Reg.supFlags) 24 = true ∧
        t.reg Reg.tjNow = tenths ∧ t.reg Reg.supCautionCount = (s.reg Reg.supCautionCount + 1) % 4294967296 ∧
        bit (t.reg Reg.flashHold) 0 = true ∧ SameMem s t) ∧
      (bit (s.reg Reg.supFlags) 24 = true → Runs (.junctionCaution true tenths now) s fun t => t.reg Reg.tjNow = tenths ∧
        SameRegs s t [Reg.tjNow, Reg.tjMax, Reg.supState, Reg.notifyDropped] ∧ SameMem s t) ∧
      Runs (.junctionCaution false tenths now) s (fun t => bit (t.reg Reg.supFlags) 24 = false ∧ t.reg Reg.tjNow = tenths ∧
        t.brace.lastCaution = now ∧
        SameRegs s t [Reg.supFlags, Reg.supState, Reg.tjNow, Reg.tjMax, Reg.notifyDropped] ∧ SameMem s t)) ∧
    (∀ level, bit (s.reg Reg.pwrInputs) 0 = level → exec (.pwrMainOkChange level now) s = .next s) ∧
    (bit (s.reg Reg.pwrInputs) 0 = true → s.reg Reg.braceState = 1 ∨ s.reg Reg.braceState = 2 →
      Runs (.pwrMainOkChange false now) s fun t => bit (t.reg Reg.pwrInputs) 0 = false ∧ t.brace.from_ = none ∧
        SameRegs s t [Reg.pwrInputs] ∧ SameMem s t) ∧
    (bit (s.reg Reg.pwrInputs) 0 = true → s.reg Reg.braceState ≠ 1 → s.reg Reg.braceState ≠ 2 → Runs (.pwrMainOkChange false now) s fun t =>
      bit (t.reg Reg.pwrInputs) 0 = false ∧ t.reg Reg.braceState = 1 ∧ t.reg Reg.braceSince = s.tick ∧
      t.reg Reg.braceCount = (s.reg Reg.braceCount + 1) % 4294967296 ∧ bit (t.reg Reg.flashHold) 1 = true ∧ t.brace.at_ = now ∧
      SameRegs s t [Reg.pwrInputs, Reg.braceState, Reg.braceSince, Reg.braceCount, Reg.flashHold] ∧ SameMem s t) ∧
    (bit (s.reg Reg.pwrInputs) 0 = false → Runs (.pwrMainOkChange true now) s fun t => bit (t.reg Reg.pwrInputs) 0 = true ∧
      SameRegs s t [Reg.pwrInputs] ∧ SameMem s t) ∧
    Runs (.pwrBattOnChange false now) s (fun t => bit (t.reg Reg.pwrInputs) 1 = false ∧ SameRegs s t [Reg.pwrInputs] ∧ SameMem s t) ∧
    Runs (.pwrBattOnChange true now) s (fun t => bit (t.reg Reg.pwrInputs) 1 = true ∧
      t.reg Reg.braceState = (if s.reg Reg.braceState = 1 ∧ s.brace.policyDone = true then 2 else s.reg Reg.braceState) ∧
      SameRegs s t [Reg.pwrInputs, Reg.braceState] ∧ SameMem s t) ∧
    (∀ k, s.brace.policyAt = some k → s.reg Reg.braceState = 1 →
      (k ≤ s.tick → Runs .bracePolicyApply s fun t => t.brace.policyAt = none ∧ t.brace.policyDone = true ∧
        bit (t.reg Reg.pwrInputs) 2 = true ∧ (∀ n < 64, (t.psc n).braced = true) ∧
        t.reg Reg.braceState = (if bit (s.reg Reg.pwrInputs) 1 then 2 else 1) ∧
        SameRegs s t [Reg.pwrInputs, Reg.braceState] ∧ SameMem s t) ∧
      (s.tick < k → exec .bracePolicyApply s = .next s)) ∧
    (s.brace.policyAt = none ∨ s.reg Reg.braceState ≠ 1 → exec .bracePolicyApply s = .next s) ∧
    (s.reg Reg.braceState ≠ 1 ∨ bit (s.reg Reg.pwrInputs) 1 = true → exec (.battMissing now) s = .next s) ∧
    (s.reg Reg.braceState = 1 → bit (s.reg Reg.pwrInputs) 1 = false →
      (s.brace.at_ + 1000000 ≤ now → Runs (.battMissing now) s fun t => t.reg Reg.braceState = 2 ∧
        bit (t.reg Reg.pwrInputs) 3 = true ∧ SameRegs s t [Reg.pwrInputs, Reg.braceState] ∧ SameMem s t) ∧
      (now < s.brace.at_ + 1000000 → exec (.battMissing now) s = .next s)) ∧
    (∀ k, s.reg Reg.braceState = 2 → s.brace.from_ = some k → s.brace.unbraceAt = none → s.bracedByA = false →
      s.braceTick s.tick ≠ s.tick → k + 250000 ≤ now → Runs (.unbrace now) s fun t => t.brace.unbraceAt = some (s.braceTick s.tick) ∧
        SameRegs s t [] ∧ SameMem s t) ∧
    (s.reg Reg.braceState ≠ 2 ∨ (s.brace.unbraceAt = none ∧ (s.brace.from_ = none ∨ s.bracedByA = true)) →
      exec (.unbrace now) s = .next s) ∧
    (∀ k, s.reg Reg.braceState = 2 → s.brace.unbraceAt = some k →
      (k ≤ s.tick → Runs (.unbrace now) s fun t => t.reg Reg.braceState = 3 ∧ bit (t.reg Reg.pwrInputs) 2 = false ∧
        t.brace.unbraceAt = none ∧ (∀ n < 64, (t.psc n).braced = false) ∧ SameRegs s t [Reg.pwrInputs, Reg.braceState] ∧ SameMem s t) ∧
      (s.tick < k → exec (.unbrace now) s = .next s)) ∧
    (∀ k, s.reg Reg.braceState = 2 → s.brace.from_ = some k → s.brace.unbraceAt = none → s.bracedByA = false →
      s.braceTick s.tick = s.tick →
      (k + 250000 ≤ now → Runs (.unbrace now) s fun t => t.reg Reg.braceState = 3 ∧ bit (t.reg Reg.pwrInputs) 2 = false ∧
        (∀ n < 64, (t.psc n).braced = false) ∧ SameRegs s t [Reg.pwrInputs, Reg.braceState] ∧ SameMem s t) ∧
      (now < k + 250000 → exec (.unbrace now) s = .next s)) ∧
    (s.reg Reg.braceState = 3 →
      (s.pscGbHome = true → Runs (.unbraceComplete now) s fun t => t.reg Reg.braceState = 0 ∧ t.brace.normalAt = now ∧
        SameRegs s t [Reg.pwrInputs, Reg.braceState] ∧ SameMem s t) ∧
      (s.pscGbHome = false → exec (.unbraceComplete now) s = .next s)) ∧
    (s.reg Reg.braceState ≠ 3 → exec (.unbraceComplete now) s = .next s)
end

