-- ==== Sys2Proof/Laws/Bounded.lean ====
section
/-!
SUPPORT. What keeping a free value within a bound gives: the bound, whatever the free value.
-/
namespace Sys2Proof.Laws
open Sys2Proof.Machine

theorem between_bounds (lo hi x : Int) (h : lo ≤ hi) : lo ≤ between lo hi x ∧ between lo hi x ≤ hi := by
  simp only [between]; omega
theorem ceilShift_bounds (a : Int) (n : Nat) : a / 2 ^ n ≤ ceilShift a n ∧ ceilShift a n ≤ a / 2 ^ n + 1 := by
  have hp : (0 : Int) < 2 ^ n := by positivity
  have h1 := Int.mul_ediv_add_emod a (2 ^ n)
  have h2 := Int.mul_ediv_add_emod (-a) (2 ^ n)
  have h3 := Int.emod_nonneg a hp.ne'
  have h4 := Int.emod_nonneg (-a) hp.ne'
  have h5 := Int.emod_lt_of_pos a hp
  have h6 := Int.emod_lt_of_pos (-a) hp
  simp only [ceilShift]
  constructor <;> nlinarith
/-- A value that is enclosed is the floor of the exact value or the number above it. -/
theorem enclosed_bounds (a : Int) (n : Nat) (x : Int) :
    a / 2 ^ n ≤ enclosed a n x ∧ enclosed a n x ≤ a / 2 ^ n + 1 := by
  have h := ceilShift_bounds a n
  have b := between_bounds (a / 2 ^ n) (ceilShift a n) x h.1
  exact ⟨b.1, b.2.trans h.2⟩
/-- A value that is near lies within e of the exact value a / 2^n. -/
theorem near_bounds (a : Int) (n : Nat) (e x : Int) (he : 1 ≤ e) :
    ceilShift a n - e ≤ near a n e x ∧ near a n e x ≤ a / 2 ^ n + e := by
  have h := ceilShift_bounds a n
  exact between_bounds _ _ x (by omega)

end Sys2Proof.Laws
end

