-- ==== Sys2Proof/Laws/Keeps.lean ====
section
/-!
SUPPORT. A property of memory, of the queue and of the tick that an operation keeps, whatever the property: from a lemma without
`Closed P` or `AnyTick P` it follows that the operation leaves all three as they are; with `Closed P`, that the canonical form of
memory is kept.
-/
set_option linter.all false
namespace Sys2Proof.Machine
variable {P : NTable Byte → List Instr → Nat → Prop}
/-- A property of memory, of the queue and of the tick. -/
def Holds2 (P : NTable Byte → List Instr → Nat → Prop) (m : NTable Byte) (q : List Instr) (k : Nat) : Prop := P m q k
/-- The property holds in a state. -/
def Holds (P : NTable Byte → List Instr → Nat → Prop) (s : State) : Prop := Holds2 P s.mem s.pending s.tick
/-- It holds in the next state, where there is one. -/
def OutHolds (P : NTable Byte → List Instr → Nat → Prop) (o : Out) : Prop := match o with | .next t => Holds P t | _ => True
/-- What a property of memory must allow for the operations that store: empty memory, a byte put, a filter. -/
structure Closed (P : NTable Byte → List Instr → Nat → Prop) : Prop where
  nil : ∀ q k m, P m q k → P [] q k
  put : ∀ q k m a v, P m q k → P (NTable.put 0 m a v) q k
  filter : ∀ q k m f, P m q k → P (m.filter f) q k
/-- What a property must allow for the operations that move the tick. -/
structure AnyTick (P : NTable Byte → List Instr → Nat → Prop) : Prop where
  any : ∀ q m k l, P m q k → P m q l
theorem keeps_mk_ {a0 a1 a2 a3 a4 a5 a6 a7 a8 a9 a10 a11 a12 a13 a14 a15 a16 a17 a18 a19 a20 a21 a22 a23 a24 a25 a26 a27 a28 a29 a30 a31 a32 a33 a34 a35 a36 a37 a38 a39 a40 a41 a42 a43 a44 a45 a46 a47 a48 a49 a50 a51 a52 a53 a54 a55 a56 a57 a58 a59 a60 a61 a62} (h : Holds2 P a6 a0 a2) : Holds P (State.mk a0 a1 a2 a3 a4 a5 a6 a7 a8 a9 a10 a11 a12 a13 a14 a15 a16 a17 a18 a19 a20 a21 a22 a23 a24 a25 a26 a27 a28 a29 a30 a31 a32 a33 a34 a35 a36 a37 a38 a39 a40 a41 a42 a43 a44 a45 a46 a47 a48 a49 a50 a51 a52 a53 a54 a55 a56 a57 a58 a59 a60 a61 a62) := h
theorem keeps_fold_ {s : State} (h : Holds P s) : Holds2 P s.mem s.pending s.tick := h
theorem keeps_tick_ {m : NTable Byte} {q : List Instr} {k l : Nat} (ht : AnyTick P) (h : Holds2 P m q k) : Holds2 P m q l := ht.any _ _ _ _ h
theorem keeps_next_ {t : State} (h : Holds P t) : OutHolds P (.next t) := h
theorem keeps_ite_ {c : Prop} [Decidable c] {a b : State} (ha : Holds P a) (hb : Holds P b) : Holds P (if c then a else b) := by split <;> with_reducible assumption
theorem keeps_iteO_ {c : Prop} [Decidable c] {a b : Out} (ha : OutHolds P a) (hb : OutHolds P b) : OutHolds P (if c then a else b) := by split <;> with_reducible assumption
theorem keeps_when_ {s : State} {b : Bool} {f : State → State} (hs : Holds P s) (hf : Holds P (f s)) : Holds P (s.when b f) := by unfold State.when; split <;> with_reducible assumption
/-- It holds in an outcome that may be there. -/
def OptHolds (P : NTable Byte → List Instr → Nat → Prop) (o : Option Out) : Prop := match o with | some x => OutHolds P x | none => True
theorem keeps_some_ {o : Out} (h : OutHolds P o) : OptHolds P (some o) := h
theorem keeps_none_ : OptHolds P none := trivial
theorem keeps_or_ {a b : Option Out} (ha : OptHolds P a) (hb : OptHolds P b) : OptHolds P (a.or b) := by
  cases a with
  | none => exact hb
  | some x => exact ha
theorem keeps_iteP_ {c : Prop} [Decidable c] {a b : Option Out} (ha : OptHolds P a) (hb : OptHolds P b) : OptHolds P (if c then a else b) := by split <;> with_reducible assumption
theorem keeps_fst_ {α : Type} {a : State} {b : α} (h : Holds P a) : Holds P (a, b).1 := h
theorem keeps_snd_ {α : Type} {a : State} {b : α} (h : Holds P a) : Holds P (b, a).2 := h
theorem keeps_iteF_ {α : Type} {c : Prop} [Decidable c] {a b : State × α} (ha : Holds P a.1) (hb : Holds P b.1) : Holds P (if c then a else b).1 := by split <;> with_reducible assumption
/-- It holds in a state beside a result. -/
def FstHolds {α : Type} (P : NTable Byte → List Instr → Nat → Prop) (x : State × α) : Prop := Holds P x.1
theorem keeps_fmk_ {α : Type} {a : State} {b : α} (h : Holds P a) : FstHolds P (a, b) := h
theorem keeps_iteP2_ {α : Type} {c : Prop} [Decidable c] {a b : State × α} (ha : FstHolds P a) (hb : FstHolds P b) : FstHolds P (if c then a else b) := by split <;> with_reducible assumption
theorem keeps_ofFst_ {α : Type} {x : State × α} (h : Holds P x.1) : FstHolds P x := h
theorem keeps_foldlF_ {α β : Type} {l : List α} {f : State × β → α → State × β} {s : State × β} (hf : ∀ s x, Holds P s.1 → Holds P (f s x).1) (hs : Holds P s.1) : Holds P (l.foldl f s).1 := by
  induction l generalizing s with
  | nil => exact hs
  | cons a l ih => exact ih (hf s a hs)
theorem keeps_foldl_ {α : Type} {l : List α} {f : State → α → State} {s : State} (hf : ∀ s x, Holds P s → Holds P (f s x)) (hs : Holds P s) : Holds P (l.foldl f s) := by
  induction l generalizing s with
  | nil => exact hs
  | cons a l ih => exact ih (hf s a hs)
theorem keeps_overL_ {α : Type} {l : List α} {f : State → α → State} {s : State} (hf : ∀ s x, Holds P s → Holds P (f s x)) (hs : Holds P s) : Holds P (overL l f s) := keeps_foldl_ hf hs
theorem keeps_overN_ {n : Nat} {f : State → Nat → State} {s : State} (hf : ∀ s x, Holds P s → Holds P (f s x)) (hs : Holds P s) : Holds P (overN n f s) := keeps_foldl_ hf hs
theorem keeps_memPut_ (hc : Closed P) (b : List Byte) (a : Nat) {m : NTable Byte} {q : List Instr} {k : Nat} (h : Holds2 P m q k) : Holds2 P (memPut m a b) q k := by
  induction b generalizing m a with
  | nil => exact h
  | cons x t ih => exact ih _ (hc.put _ _ _ _ _ h)
theorem keeps_filter_ (hc : Closed P) {f : Nat × Byte → Bool} {m : NTable Byte} {q : List Instr} {k : Nat} (h : Holds2 P m q k) : Holds2 P (m.filter f) q k := hc.filter _ _ _ _ h
end Sys2Proof.Machine
end

