-- ==== Sys2Proof/Laws/KeepsCompute.lean ====
section
/-!
SUPPORT. What the shared operations, the cores and the FCUs keep: one lemma per operation.
-/
set_option linter.all false
namespace Sys2Proof.Machine
variable {P : NTable Byte → List Instr → Nat → Prop}
/-! Ops. -/
theorem keeps_setReg (s : State) (r : Reg) (v : Int) (hm : Holds P s) : Holds P (State.setReg s r v) := by
  unfold State.setReg
  repeat' first
    | with_reducible assumption
    | fail_if_no_progress (with_reducible apply keeps_mk_; first | with_reducible apply keeps_fold_ | with_reducible apply keeps_memPut_ | with_reducible apply keeps_filter_)
theorem keeps_bump (s : State) (r : Reg) (hm : Holds P s) : Holds P (State.bump s r) := by
  unfold State.bump
  repeat' first
    | with_reducible assumption
    | with_reducible apply keeps_setReg
theorem keeps_bumpBy (s : State) (r : Reg) (n : Nat) (hm : Holds P s) : Holds P (State.bumpBy s r n) := by
  unfold State.bumpBy
  repeat' first
    | with_reducible assumption
    | with_reducible apply keeps_setReg
theorem keeps_orReg (s : State) (r : Reg) (m : Nat) (hm : Holds P s) : Holds P (State.orReg s r m) := by
  unfold State.orReg
  repeat' first
    | with_reducible assumption
    | with_reducible apply keeps_setReg
theorem keeps_setBlob (s : State) (r : Reg) (b : List Byte) (hm : Holds P s) : Holds P (State.setBlob s r b) := by
  unfold State.setBlob
  repeat' first
    | with_reducible assumption
    | fail_if_no_progress (with_reducible apply keeps_mk_; first | with_reducible apply keeps_fold_ | with_reducible apply keeps_memPut_ | with_reducible apply keeps_filter_)
theorem keeps_setRegs (s : State) (l : List (Reg × Int)) (hm : Holds P s) : Holds P (State.setRegs s l) := by
  unfold State.setRegs
  repeat' first
    | with_reducible assumption
    | extract_lets
    | with_reducible apply keeps_setReg
    | (with_reducible apply keeps_foldl_; intro _ _ _)
theorem keeps_freeWord (s : State) (hm : Holds P s) : Holds P (s.freeWord).2 := by
  show Holds2 P s.mem s.pending s.tick
  exact hm
theorem keeps_modPlot (s : State) (p : Nat) (f : PlotSt → PlotSt) (hm : Holds P s) : Holds P (State.modPlot s p f) := by
  unfold State.modPlot
  repeat' first
    | with_reducible assumption
    | fail_if_no_progress (with_reducible apply keeps_mk_; first | with_reducible apply keeps_fold_ | with_reducible apply keeps_memPut_ | with_reducible apply keeps_filter_)
theorem keeps_setCore (s : State) (c : Nat) (k : CoreSt) (hm : Holds P s) : Holds P (State.setCore s c k) := by
  unfold State.setCore
  repeat' first
    | with_reducible assumption
    | fail_if_no_progress (with_reducible apply keeps_mk_; first | with_reducible apply keeps_fold_ | with_reducible apply keeps_memPut_ | with_reducible apply keeps_filter_)
theorem keeps_modCore (s : State) (c : Nat) (f : CoreSt → CoreSt) (hm : Holds P s) : Holds P (State.modCore s c f) := by
  unfold State.modCore
  repeat' first
    | with_reducible assumption
    | with_reducible apply keeps_setCore
theorem keeps_modTask (s : State) (p id : Nat) (f : TaskSt → TaskSt) (hm : Holds P s) : Holds P (State.modTask s p id f) := by
  unfold State.modTask
  repeat' first
    | with_reducible assumption
    | fail_if_no_progress (with_reducible apply keeps_mk_; first | with_reducible apply keeps_fold_ | with_reducible apply keeps_memPut_ | with_reducible apply keeps_filter_)
theorem keeps_reply (s : State) (code : Nat) (hm : Holds P s) : Holds P (State.reply s code) := by
  unfold State.reply
  repeat' first
    | with_reducible assumption
    | fail_if_no_progress (with_reducible apply keeps_mk_; first | with_reducible apply keeps_fold_ | with_reducible apply keeps_memPut_ | with_reducible apply keeps_filter_)
theorem keeps_dueWrite (s : State) (r : Reg) (v : Int) (hm : Holds P s) : Holds P (State.dueWrite s r v) := by
  unfold State.dueWrite
  repeat' first
    | with_reducible assumption
    | fail_if_no_progress (with_reducible apply keeps_mk_; first | with_reducible apply keeps_fold_ | with_reducible apply keeps_memPut_ | with_reducible apply keeps_filter_)
theorem keeps_nextWrite (s : State) (r : Reg) (v : Int) (hm : Holds P s) : Holds P (State.nextWrite s r v) := by
  unfold State.nextWrite
  repeat' first
    | with_reducible assumption
    | fail_if_no_progress (with_reducible apply keeps_mk_; first | with_reducible apply keeps_fold_ | with_reducible apply keeps_memPut_ | with_reducible apply keeps_filter_)
theorem keeps_touch (s : State) (a n : Nat) (hm : Holds P s) : Holds P (State.touch s a n) := by
  unfold State.touch
  repeat' first
    | with_reducible assumption
    | extract_lets
    | fail_if_no_progress (with_reducible apply keeps_mk_; first | with_reducible apply keeps_fold_ | with_reducible apply keeps_memPut_ | with_reducible apply keeps_filter_)
    | with_reducible apply keeps_ite_
theorem keeps_store (hc : Closed P) (s : State) (a : Nat) (b : List Byte) (hm : Holds P s) : Holds P (State.store s a b) := by
  unfold State.store
  repeat' first
    | with_reducible assumption
    | extract_lets
    | fail_if_no_progress (with_reducible apply keeps_mk_; first | with_reducible apply keeps_fold_ | with_reducible apply keeps_memPut_ | with_reducible apply keeps_filter_)
    | with_reducible apply keeps_fold_
    | with_reducible apply keeps_touch
theorem keeps_clearMem (hc : Closed P) (s : State) (a n : Nat) (hm : Holds P s) : Holds P (State.clearMem s a n) := by
  unfold State.clearMem
  repeat' first
    | with_reducible assumption
    | extract_lets
    | fail_if_no_progress (with_reducible apply keeps_mk_; first | with_reducible apply keeps_fold_ | with_reducible apply keeps_memPut_ | with_reducible apply keeps_filter_)
    | with_reducible apply keeps_fold_
theorem keeps_logEvent (s : State) (code level plot p0 p1 : Nat) (hm : Holds P s) : Holds P (State.logEvent s code level plot p0 p1) := by
  unfold State.logEvent
  repeat' first
    | with_reducible assumption
    | fail_if_no_progress (with_reducible apply keeps_mk_; first | with_reducible apply keeps_fold_ | with_reducible apply keeps_memPut_ | with_reducible apply keeps_filter_)
theorem keeps_logKeep (s : State) (code level p0 p1 : Nat) (hm : Holds P s) : Holds P (State.logKeep s code level p0 p1) := by
  unfold State.logKeep
  repeat' first
    | with_reducible assumption
    | extract_lets
    | fail_if_no_progress (with_reducible apply keeps_mk_; first | with_reducible apply keeps_fold_ | with_reducible apply keeps_memPut_ | with_reducible apply keeps_filter_)
theorem keeps_discard (s : State) (p : Nat) (r : Reg) (due : Nat) (hm : Holds P s) : Holds P (State.discard s p r due) := by
  unfold State.discard
  repeat' first
    | with_reducible assumption
    | with_reducible apply keeps_logEvent
theorem keeps_notify (s : State) (who : Session → Bool) (code idx sub : Nat) (hm : Holds P s) : Holds P (State.notify s who code idx sub) := by
  unfold State.notify
  repeat' first
    | with_reducible assumption
    | extract_lets
    | fail_if_no_progress (with_reducible apply keeps_mk_; first | with_reducible apply keeps_fold_ | with_reducible apply keeps_memPut_ | with_reducible apply keeps_filter_)
    | with_reducible apply keeps_bumpBy
theorem keeps_stageEntry (s : State) (owner kind : Nat) (e : List Byte) (hm : Holds P s) : Holds P (State.stageEntry s owner kind e) := by
  unfold State.stageEntry
  repeat' first
    | with_reducible assumption
    | fail_if_no_progress (with_reducible apply keeps_mk_; first | with_reducible apply keeps_fold_ | with_reducible apply keeps_memPut_ | with_reducible apply keeps_filter_)
theorem keeps_eventEntry (s : State) (owner code : Nat) (r : Reg) (hm : Holds P s) : Holds P (State.eventEntry s owner code r) := by
  unfold State.eventEntry
  repeat' first
    | with_reducible assumption
    | with_reducible apply keeps_stageEntry
theorem keeps_notifyPlot (s : State) (p code : Nat) (r : Reg) (hm : Holds P s) : Holds P (State.notifyPlot s p code r) := by
  unfold State.notifyPlot
  repeat' first
    | with_reducible assumption
    | extract_lets
    | with_reducible apply keeps_notify
    | with_reducible apply keeps_eventEntry
theorem keeps_notifyGardener (s : State) (code : Nat) (r : Reg) (hm : Holds P s) : Holds P (State.notifyGardener s code r) := by
  unfold State.notifyGardener
  repeat' first
    | with_reducible assumption
    | extract_lets
    | with_reducible apply keeps_notify
    | with_reducible apply keeps_eventEntry
theorem keeps_plotFault (s : State) (p b : Nat) (hm : Holds P s) : Holds P (State.plotFault s p b) := by
  unfold State.plotFault
  repeat' first
    | with_reducible assumption
    | extract_lets
    | with_reducible apply keeps_orReg
    | with_reducible apply keeps_notifyPlot
    | with_reducible apply keeps_ite_
theorem keeps_evidence (s : State) (p : Nat) (hm : Holds P s) : Holds P (State.evidence s p) := by
  unfold State.evidence
  repeat' first
    | with_reducible assumption
    | extract_lets
    | fail_if_no_progress (with_reducible apply keeps_mk_; first | with_reducible apply keeps_fold_ | with_reducible apply keeps_memPut_ | with_reducible apply keeps_filter_)
theorem keeps_msix (s : State) (v : Nat) (hm : Holds P s) : Holds P (State.msix s v) := by
  unfold State.msix
  repeat' first
    | with_reducible assumption
    | extract_lets
    | fail_if_no_progress (with_reducible apply keeps_mk_; first | with_reducible apply keeps_fold_ | with_reducible apply keeps_memPut_ | with_reducible apply keeps_filter_)
theorem keeps_refreshFaults (s : State) (hm : Holds P s) : Holds P (State.refreshFaults s) := by
  unfold State.refreshFaults
  repeat' first
    | with_reducible assumption
    | extract_lets
    | with_reducible apply keeps_setReg
    | with_reducible apply keeps_bumpBy
theorem keeps_proofFail (s : State) (kind unit : Nat) (hm : Holds P s) : Holds P (State.proofFail s kind unit) := by
  unfold State.proofFail
  repeat' first
    | with_reducible assumption
    | extract_lets
    | fail_if_no_progress (with_reducible apply keeps_mk_; first | with_reducible apply keeps_fold_ | with_reducible apply keeps_memPut_ | with_reducible apply keeps_filter_)
    | with_reducible apply keeps_setReg
    | with_reducible apply keeps_bump
    | with_reducible apply keeps_logEvent
    | with_reducible apply keeps_refreshFaults
/-! Roles. -/
theorem keeps_modPair (s : State) (f : PairSt → PairSt) (hm : Holds P s) : Holds P (State.modPair s f) := by
  unfold State.modPair
  repeat' first
    | with_reducible assumption
    | fail_if_no_progress (with_reducible apply keeps_mk_; first | with_reducible apply keeps_fold_ | with_reducible apply keeps_memPut_ | with_reducible apply keeps_filter_)
theorem keeps_sendCell (s : State) (c : Cell) (hm : Holds P s) : Holds P (State.sendCell s c) := by
  unfold State.sendCell
  repeat' first
    | with_reducible assumption
    | extract_lets
    | with_reducible apply keeps_modPair
    | with_reducible apply keeps_ite_
    | dsimp +zetaDelta only
    | split
theorem keeps_sendMgmt (s : State) (t : Nat) (a : FwdAction) (hm : Holds P s) : Holds P (State.sendMgmt s t a) := by
  unfold State.sendMgmt
  repeat' first
    | with_reducible assumption
    | extract_lets
    | with_reducible apply keeps_modPair
    | with_reducible apply keeps_sendCell
theorem keeps_heard (s : State) (hm : Holds P s) : Holds P (State.heard s) := by
  unfold State.heard
  repeat' first
    | with_reducible assumption
    | extract_lets
    | with_reducible apply keeps_modPair
    | with_reducible apply keeps_when_
theorem keeps_badCells (s : State) (l : List (Fin 2 × List Byte)) (hm : Holds P s) : Holds P (State.badCells s l) := by
  unfold State.badCells
  repeat' first
    | with_reducible assumption
    | extract_lets
    | with_reducible apply keeps_bump
    | (with_reducible apply keeps_overL_; intro _ _ _)
theorem keeps_pairTo (s : State) (st : Nat) (hm : Holds P s) : Holds P (State.pairTo s st) := by
  unfold State.pairTo
  repeat' first
    | with_reducible assumption
    | extract_lets
    | with_reducible apply keeps_setReg
    | with_reducible apply keeps_notifyGardener
    | with_reducible apply keeps_msix
    | with_reducible apply keeps_ite_
theorem keeps_takeA (s : State) (hm : Holds P s) : Holds P (State.takeA s) := by
  unfold State.takeA
  repeat' first
    | with_reducible assumption
    | extract_lets
    | with_reducible apply keeps_setRegs
    | with_reducible apply keeps_modPair
    | with_reducible apply keeps_pairTo
theorem keeps_toStandby (s : State) (role : Int) (graft : Bool) (hm : Holds P s) : Holds P (State.toStandby s role graft) := by
  unfold State.toStandby
  repeat' first
    | with_reducible assumption
    | extract_lets
    | with_reducible apply keeps_setRegs
    | with_reducible apply keeps_modPair
    | with_reducible apply keeps_pairTo
theorem keeps_purgeBarred (s : State) (hm : Holds P s) : Holds P (State.purgeBarred s) := by
  unfold State.purgeBarred
  repeat' first
    | with_reducible assumption
    | extract_lets
    | fail_if_no_progress (with_reducible apply keeps_mk_; first | with_reducible apply keeps_fold_ | with_reducible apply keeps_memPut_ | with_reducible apply keeps_filter_)
/-! LogBook. -/
theorem keeps_refreshLog (s : State) (hm : Holds P s) : Holds P (State.refreshLog s) := by
  unfold State.refreshLog
  repeat' first
    | with_reducible assumption
    | extract_lets
    | with_reducible apply keeps_setReg
theorem keeps_logNotice (s : State) (r : Reg) (hm : Holds P s) : Holds P (State.logNotice s r) := by
  unfold State.logNotice
  repeat' first
    | with_reducible assumption
    | extract_lets
    | with_reducible apply keeps_notifyGardener
    | with_reducible apply keeps_msix
theorem keeps_logWrite (s : State) (e : LogEntry) (hm : Holds P s) : Holds P (State.logWrite s e) := by
  unfold State.logWrite
  repeat' first
    | with_reducible assumption
    | extract_lets
    | fail_if_no_progress (with_reducible apply keeps_mk_; first | with_reducible apply keeps_fold_ | with_reducible apply keeps_memPut_ | with_reducible apply keeps_filter_)
    | with_reducible apply keeps_setReg
    | with_reducible apply keeps_setBlob
    | with_reducible apply keeps_ite_
theorem keeps_freezeLog (s : State) (trigger seq : Nat) (hm : Holds P s) : Holds P (State.freezeLog s trigger seq) := by
  unfold State.freezeLog
  repeat' first
    | with_reducible assumption
    | extract_lets
    | fail_if_no_progress (with_reducible apply keeps_mk_; first | with_reducible apply keeps_fold_ | with_reducible apply keeps_memPut_ | with_reducible apply keeps_filter_)
    | with_reducible apply keeps_setBlob
    | with_reducible apply keeps_refreshLog
    | with_reducible apply keeps_logNotice
    | with_reducible apply keeps_logWrite
    | with_reducible apply keeps_ite_
theorem keeps_logPut (s : State) (e : LogEntry) (hm : Holds P s) : Holds P (State.logPut s e) := by
  unfold State.logPut
  repeat' first
    | with_reducible assumption
    | extract_lets
    | with_reducible apply keeps_logWrite
    | with_reducible apply keeps_freezeLog
    | with_reducible apply keeps_ite_
    | dsimp +zetaDelta only
    | split
theorem keeps_retireHalf (s : State) (h slot : Nat) (hm : Holds P s) : Holds P (State.retireHalf s h slot) := by
  unfold State.retireHalf
  repeat' first
    | with_reducible assumption
    | extract_lets
    | fail_if_no_progress (with_reducible apply keeps_mk_; first | with_reducible apply keeps_fold_ | with_reducible apply keeps_memPut_ | with_reducible apply keeps_filter_)
    | with_reducible apply keeps_refreshFaults
    | with_reducible apply keeps_refreshLog
    | with_reducible apply keeps_logNotice
    | with_reducible apply keeps_ite_
theorem keeps_execLogQueueDrain (bad0 bad1 : Bool) (s : State) (hm : Holds P s) : OutHolds P (execLogQueueDrain bad0 bad1 s) := by
  unfold execLogQueueDrain
  repeat' first
    | with_reducible assumption
    | extract_lets
    | fail_if_no_progress (with_reducible apply keeps_mk_; first | with_reducible apply keeps_fold_ | with_reducible apply keeps_memPut_ | with_reducible apply keeps_filter_)
    | with_reducible apply keeps_freeWord
    | with_reducible apply keeps_freezeLog
    | with_reducible apply keeps_logPut
    | with_reducible apply keeps_retireHalf
    | with_reducible apply keeps_when_
    | with_reducible apply keeps_next_
    | with_reducible apply keeps_iteO_
    | dsimp +zetaDelta only
    | split
theorem keeps_execLogDropped (p : Fin 17) (s : State) (hm : Holds P s) : OutHolds P (execLogDropped p s) := by
  unfold execLogDropped
  repeat' first
    | with_reducible assumption
    | extract_lets
    | fail_if_no_progress (with_reducible apply keeps_mk_; first | with_reducible apply keeps_fold_ | with_reducible apply keeps_memPut_ | with_reducible apply keeps_filter_)
    | with_reducible apply keeps_next_
    | with_reducible apply keeps_iteO_
theorem keeps_execLogScrub (uncorrectable : Bool) (s : State) (hm : Holds P s) : OutHolds P (execLogScrub uncorrectable s) := by
  unfold execLogScrub
  repeat' first
    | with_reducible assumption
    | extract_lets
    | fail_if_no_progress (with_reducible apply keeps_mk_; first | with_reducible apply keeps_fold_ | with_reducible apply keeps_memPut_ | with_reducible apply keeps_filter_)
    | with_reducible apply keeps_retireHalf
    | with_reducible apply keeps_when_
    | with_reducible apply keeps_next_
    | with_reducible apply keeps_iteO_
theorem keeps_execLogFreeze (s : State) (hm : Holds P s) : OutHolds P (execLogFreeze s) := by
  unfold execLogFreeze
  repeat' first
    | with_reducible assumption
    | extract_lets
    | with_reducible apply keeps_freeWord
    | with_reducible apply keeps_reply
    | with_reducible apply keeps_freezeLog
    | with_reducible apply keeps_next_
theorem keeps_execLogUnfreeze (s : State) (hm : Holds P s) : OutHolds P (execLogUnfreeze s) := by
  unfold execLogUnfreeze
  repeat' first
    | with_reducible assumption
    | extract_lets
    | fail_if_no_progress (with_reducible apply keeps_mk_; first | with_reducible apply keeps_fold_ | with_reducible apply keeps_memPut_ | with_reducible apply keeps_filter_)
    | with_reducible apply keeps_setBlob
    | with_reducible apply keeps_reply
    | with_reducible apply keeps_refreshLog
    | with_reducible apply keeps_logNotice
    | with_reducible apply keeps_logWrite
    | with_reducible apply keeps_next_
    | dsimp +zetaDelta only
    | split
theorem keeps_logRestore (s : State) (rep : BringUp) (hm : Holds P s) : Holds P (State.logRestore s rep) := by
  unfold State.logRestore
  repeat' first
    | with_reducible assumption
    | extract_lets
    | fail_if_no_progress (with_reducible apply keeps_mk_; first | with_reducible apply keeps_fold_ | with_reducible apply keeps_memPut_ | with_reducible apply keeps_filter_)
    | with_reducible apply keeps_setReg
    | with_reducible apply keeps_setBlob
    | with_reducible apply keeps_refreshFaults
    | with_reducible apply keeps_refreshLog
    | with_reducible apply keeps_when_
theorem keeps_execFaultFrameStart (now : Nat) (s : State) (hm : Holds P s) : OutHolds P (execFaultFrameStart now s) := by
  unfold execFaultFrameStart
  repeat' first
    | with_reducible assumption
    | extract_lets
    | fail_if_no_progress (with_reducible apply keeps_mk_; first | with_reducible apply keeps_fold_ | with_reducible apply keeps_memPut_ | with_reducible apply keeps_filter_)
    | with_reducible apply keeps_setReg
    | with_reducible apply keeps_refreshFaults
    | with_reducible apply keeps_logNotice
    | with_reducible apply keeps_when_
    | with_reducible apply keeps_next_
    | with_reducible apply keeps_iteO_
theorem keeps_execFaultClear (m : Fin 65536) (s : State) (hm : Holds P s) : OutHolds P (execFaultClear m s) := by
  unfold execFaultClear
  repeat' first
    | with_reducible assumption
    | extract_lets
    | with_reducible apply keeps_setReg
    | with_reducible apply keeps_reply
    | with_reducible apply keeps_next_
    | with_reducible apply keeps_iteO_
/-! Area. -/
theorem keeps_setArea (s : State) (w : WordArea) (k : Nat) (v : Int) (hm : Holds P s) : Holds P (State.setArea s w k v) := by
  unfold State.setArea
  repeat' first
    | with_reducible assumption
    | fail_if_no_progress (with_reducible apply keeps_mk_; first | with_reducible apply keeps_fold_ | with_reducible apply keeps_memPut_ | with_reducible apply keeps_filter_)
    | split
theorem keeps_putByte (hc : Closed P) (s : State) (a : Nat) (b : Byte) (hm : Holds P s) : Holds P (State.putByte s a b) := by
  unfold State.putByte
  split
  · exact keeps_setArea _ _ _ _ hm
  · split
    · exact hm
    · split
      · exact hc.put _ _ _ _ _ hm
      · exact hm
theorem keeps_takeTables (s : State) (t : EngineTables) (hm : Holds P s) : Holds P (State.takeTables s t) := by
  unfold State.takeTables
  repeat' first
    | with_reducible assumption
    | extract_lets
    | fail_if_no_progress (with_reducible apply keeps_mk_; first | with_reducible apply keeps_fold_ | with_reducible apply keeps_memPut_ | with_reducible apply keeps_filter_)
theorem keeps_mapStore (hc : Closed P) (s : State) (a : Nat) (b : List Byte) (hm : Holds P s) : Holds P (State.mapStore s a b) := by
  unfold State.mapStore
  repeat' first
    | with_reducible assumption
    | extract_lets
    | with_reducible apply keeps_touch
    | with_reducible apply keeps_store
    | with_reducible apply keeps_putByte
    | with_reducible apply keeps_takeTables
    | with_reducible apply keeps_ite_
    | (with_reducible apply keeps_foldl_; intro _ _ _)
/-! Clocks. -/
theorem keeps_modRef (s : State) (r : Nat) (f : RefSt → RefSt) (hm : Holds P s) : Holds P (State.modRef s r f) := by
  unfold State.modRef
  repeat' first
    | with_reducible assumption
    | extract_lets
    | fail_if_no_progress (with_reducible apply keeps_mk_; first | with_reducible apply keeps_fold_ | with_reducible apply keeps_memPut_ | with_reducible apply keeps_filter_)
theorem keeps_modClk (s : State) (f : ClkSt → ClkSt) (hm : Holds P s) : Holds P (State.modClk s f) := by
  unfold State.modClk
  repeat' first
    | with_reducible assumption
    | fail_if_no_progress (with_reducible apply keeps_mk_; first | with_reducible apply keeps_fold_ | with_reducible apply keeps_memPut_ | with_reducible apply keeps_filter_)
theorem keeps_stick (s : State) (b : Nat) (hm : Holds P s) : Holds P (State.stick s b) := by
  unfold State.stick
  repeat' first
    | with_reducible assumption
    | extract_lets
    | with_reducible apply keeps_orReg
    | with_reducible apply keeps_notify
    | with_reducible apply keeps_msix
    | with_reducible apply keeps_ite_
theorem keeps_recordFreq (s : State) (f : Int) (hm : Holds P s) : Holds P (State.recordFreq s f) := by
  unfold State.recordFreq
  repeat' first
    | with_reducible assumption
    | extract_lets
    | with_reducible apply keeps_modClk
theorem keeps_fixHoldover (s : State) (hm : Holds P s) : Holds P (State.fixHoldover s) := by
  unfold State.fixHoldover
  repeat' first
    | with_reducible assumption
    | extract_lets
    | with_reducible apply keeps_setRegs
    | with_reducible apply keeps_modClk
theorem keeps_refFaults (s : State) (r bits : Nat) (hm : Holds P s) : Holds P (State.refFaults s r bits) := by
  unfold State.refFaults
  repeat' first
    | with_reducible assumption
    | extract_lets
    | with_reducible apply keeps_setReg
    | with_reducible apply keeps_orReg
    | with_reducible apply keeps_modRef
    | with_reducible apply keeps_stick
    | with_reducible apply keeps_fixHoldover
    | with_reducible apply keeps_ite_
    | with_reducible apply keeps_when_
theorem keeps_refQualify (s : State) (r : Nat) (hm : Holds P s) : Holds P (State.refQualify s r) := by
  unfold State.refQualify
  repeat' first
    | with_reducible assumption
    | extract_lets
    | with_reducible apply keeps_setReg
    | with_reducible apply keeps_modRef
    | with_reducible apply keeps_ite_
theorem keeps_refEnds (s : State) (r bits : Nat) (hm : Holds P s) : Holds P (State.refEnds s r bits) := by
  unfold State.refEnds
  repeat' first
    | with_reducible assumption
    | extract_lets
    | with_reducible apply keeps_setReg
    | with_reducible apply keeps_refQualify
    | with_reducible apply keeps_ite_
theorem keeps_gradeFault (s : State) (r : Nat) (hm : Holds P s) : Holds P (State.gradeFault s r) := by
  unfold State.gradeFault
  repeat' first
    | with_reducible assumption
    | extract_lets
    | with_reducible apply keeps_refFaults
    | with_reducible apply keeps_refEnds
    | with_reducible apply keeps_ite_
    | with_reducible apply keeps_when_
theorem keeps_carryGrade (s : State) (r g : Nat) (hm : Holds P s) : Holds P (State.carryGrade s r g) := by
  unfold State.carryGrade
  repeat' first
    | with_reducible assumption
    | extract_lets
    | with_reducible apply keeps_modRef
    | with_reducible apply keeps_gradeFault
theorem keeps_refMeasured (s : State) (q : RefReport) (hm : Holds P s) : Holds P (State.refMeasured s q) := by
  unfold State.refMeasured
  repeat' first
    | with_reducible assumption
    | extract_lets
    | with_reducible apply keeps_setRegs
    | with_reducible apply keeps_refFaults
    | with_reducible apply keeps_carryGrade
    | with_reducible apply keeps_when_
    | dsimp +zetaDelta only
    | split
theorem keeps_synceLos (s : State) (hm : Holds P s) : Holds P (State.synceLos s) := by
  unfold State.synceLos
  repeat' first
    | with_reducible assumption
    | extract_lets
    | with_reducible apply keeps_refFaults
    | with_reducible apply keeps_refEnds
    | with_reducible apply keeps_ite_
    | with_reducible apply keeps_when_
    | (with_reducible apply keeps_overL_; intro _ _ _)
theorem keeps_refreshGrade (s0 : State) (hm : Holds P s0) : Holds P (State.refreshGrade s0) := by
  unfold State.refreshGrade
  repeat' first
    | with_reducible assumption
    | extract_lets
    | with_reducible apply keeps_setRegs
    | with_reducible apply keeps_modClk
    | with_reducible apply keeps_stick
    | with_reducible apply keeps_ite_
    | with_reducible apply keeps_when_
theorem keeps_acquire (s : State) (step : Nat) (r : Nat) (hm : Holds P s) : Holds P (State.acquire s step r) := by
  unfold State.acquire
  repeat' first
    | with_reducible assumption
    | extract_lets
    | with_reducible apply keeps_setRegs
    | with_reducible apply keeps_modClk
theorem keeps_followMode (s : State) (hm : Holds P s) : Holds P (State.followMode s) := by
  unfold State.followMode
  repeat' first
    | with_reducible assumption
    | extract_lets
    | with_reducible apply keeps_setReg
    | with_reducible apply keeps_modClk
    | with_reducible apply keeps_ite_
theorem keeps_enterHoldover (s : State) (fix : Bool) (hm : Holds P s) : Holds P (State.enterHoldover s fix) := by
  unfold State.enterHoldover
  repeat' first
    | with_reducible assumption
    | extract_lets
    | fail_if_no_progress (with_reducible apply keeps_mk_; first | with_reducible apply keeps_fold_ | with_reducible apply keeps_memPut_ | with_reducible apply keeps_filter_)
    | with_reducible apply keeps_setRegs
    | with_reducible apply keeps_modClk
    | with_reducible apply keeps_stick
    | with_reducible apply keeps_fixHoldover
    | with_reducible apply keeps_when_
theorem keeps_switchRef (s : State) (hm : Holds P s) : Holds P (State.switchRef s) := by
  unfold State.switchRef
  repeat' first
    | with_reducible assumption
    | extract_lets
    | with_reducible apply keeps_setReg
    | with_reducible apply keeps_bump
    | with_reducible apply keeps_stick
    | with_reducible apply keeps_acquire
    | with_reducible apply keeps_followMode
    | with_reducible apply keeps_enterHoldover
    | with_reducible apply keeps_ite_
theorem keeps_toHoldover (s : State) (hm : Holds P s) : Holds P (State.toHoldover s) := by
  unfold State.toHoldover
  repeat' first
    | with_reducible assumption
    | extract_lets
    | with_reducible apply keeps_setReg
    | with_reducible apply keeps_bump
    | with_reducible apply keeps_stick
    | with_reducible apply keeps_followMode
    | with_reducible apply keeps_enterHoldover
    | with_reducible apply keeps_ite_
    | with_reducible apply keeps_when_
theorem keeps_steerTo (s : State) (aim : Int) (hm : Holds P s) : Holds P (State.steerTo s aim) := by
  unfold State.steerTo
  repeat' first
    | with_reducible assumption
    | extract_lets
    | with_reducible apply keeps_setReg
    | with_reducible apply keeps_modClk
    | with_reducible apply keeps_stick
    | with_reducible apply keeps_when_
theorem keeps_countWindow (s : State) (hm : Holds P s) : Holds P (State.countWindow s) := by
  unfold State.countWindow
  repeat' first
    | with_reducible assumption
    | extract_lets
    | with_reducible apply keeps_modClk
theorem keeps_restartPtp (s : State) (hm : Holds P s) : Holds P (State.restartPtp s) := by
  unfold State.restartPtp
  repeat' first
    | with_reducible assumption
    | extract_lets
    | with_reducible apply keeps_setReg
    | with_reducible apply keeps_setRegs
    | with_reducible apply keeps_modClk
    | with_reducible apply keeps_carryGrade
    | (with_reducible apply keeps_overN_; intro _ _ _)
theorem keeps_applyProfile (s : State) (v : Int) (hm : Holds P s) : Holds P (State.applyProfile s v) := by
  unfold State.applyProfile
  repeat' first
    | with_reducible assumption
    | extract_lets
    | with_reducible apply keeps_setReg
    | with_reducible apply keeps_setRegs
    | with_reducible apply keeps_when_
    | (with_reducible apply keeps_overN_; intro _ _ _)
theorem keeps_applyClock (s : State) (d : Due) (hm : Holds P s) : Holds P (State.applyClock s d) := by
  unfold State.applyClock
  repeat' first
    | with_reducible assumption
    | extract_lets
    | with_reducible apply keeps_setReg
    | with_reducible apply keeps_modClk
    | with_reducible apply keeps_refQualify
    | with_reducible apply keeps_gradeFault
    | with_reducible apply keeps_restartPtp
    | with_reducible apply keeps_applyProfile
    | with_reducible apply keeps_ite_
theorem keeps_counterTick (s : State) (hm : Holds P s) : Holds P (State.counterTick s) := by
  unfold State.counterTick
  repeat' first
    | with_reducible assumption
    | extract_lets
    | with_reducible apply keeps_setReg
    | with_reducible apply keeps_modClk
theorem keeps_clockMeasured (s : State) (d hz : Nat) (hm : Holds P s) : Holds P (State.clockMeasured s d hz) := by
  unfold State.clockMeasured
  repeat' first
    | with_reducible assumption
    | extract_lets
    | with_reducible apply keeps_setReg
    | with_reducible apply keeps_when_
theorem keeps_clocksMeasured (s : State) (l : List (Fin 26 × Nat)) (hm : Holds P s) : Holds P (State.clocksMeasured s l) := by
  unfold State.clocksMeasured
  repeat' first
    | with_reducible assumption
    | extract_lets
    | with_reducible apply keeps_clockMeasured
    | with_reducible apply keeps_ite_
    | (with_reducible apply keeps_overL_; intro _ _ _)
    | split
theorem keeps_runNcos (s : State) (hm : Holds P s) : Holds P (State.runNcos s) := by
  unfold State.runNcos
  repeat' first
    | with_reducible assumption
    | with_reducible apply keeps_modClk
theorem keeps_refoutTick (s : State) (k : Nat) (hm : Holds P s) : Holds P (State.refoutTick s k) := by
  unfold State.refoutTick
  repeat' first
    | with_reducible assumption
    | extract_lets
    | with_reducible apply keeps_modClk
theorem keeps_followIncr (s : State) (hm : Holds P s) : Holds P (State.followIncr s) := by
  unfold State.followIncr
  repeat' first
    | with_reducible assumption
    | extract_lets
    | with_reducible apply keeps_setReg
    | with_reducible apply keeps_modClk
    | with_reducible apply keeps_when_
theorem keeps_clockBoundary (s : State) (rep : TickReport) (hm : Holds P s) : Holds P (State.clockBoundary s rep) := by
  unfold State.clockBoundary
  repeat' first
    | with_reducible assumption
    | extract_lets
    | fail_if_no_progress (with_reducible apply keeps_mk_; first | with_reducible apply keeps_fold_ | with_reducible apply keeps_memPut_ | with_reducible apply keeps_filter_)
    | with_reducible apply keeps_setReg
    | with_reducible apply keeps_modClk
    | with_reducible apply keeps_stick
    | with_reducible apply keeps_recordFreq
    | with_reducible apply keeps_refMeasured
    | with_reducible apply keeps_synceLos
    | with_reducible apply keeps_refreshGrade
    | with_reducible apply keeps_switchRef
    | with_reducible apply keeps_steerTo
    | with_reducible apply keeps_countWindow
    | with_reducible apply keeps_applyClock
    | with_reducible apply keeps_clocksMeasured
    | with_reducible apply keeps_runNcos
    | with_reducible apply keeps_refoutTick
    | with_reducible apply keeps_followIncr
    | with_reducible apply keeps_when_
    | (with_reducible apply keeps_overL_; intro _ _ _)
    | (with_reducible apply keeps_overN_; intro _ _ _)
theorem keeps_execRefFault (r : Fin 15) (bits : Fin 32) (s : State) (hm : Holds P s) : OutHolds P (execRefFault r bits s) := by
  unfold execRefFault
  repeat' first
    | with_reducible assumption
    | extract_lets
    | with_reducible apply keeps_refFaults
    | with_reducible apply keeps_refreshGrade
    | with_reducible apply keeps_next_
theorem keeps_execRefFaultEnd (r : Fin 15) (s : State) (hm : Holds P s) : OutHolds P (execRefFaultEnd r s) := by
  unfold execRefFaultEnd
  repeat' first
    | with_reducible assumption
    | extract_lets
    | with_reducible apply keeps_refEnds
    | with_reducible apply keeps_next_
theorem keeps_execRefQualified (r : Fin 15) (s : State) (hm : Holds P s) : OutHolds P (execRefQualified r s) := by
  unfold execRefQualified
  repeat' first
    | with_reducible assumption
    | extract_lets
    | with_reducible apply keeps_setReg
    | with_reducible apply keeps_next_
    | with_reducible apply keeps_iteO_
theorem keeps_execDpllLadderAdvance (s : State) (hm : Holds P s) : OutHolds P (execDpllLadderAdvance s) := by
  unfold execDpllLadderAdvance
  repeat' first
    | with_reducible assumption
    | extract_lets
    | with_reducible apply keeps_setReg
    | with_reducible apply keeps_modClk
    | with_reducible apply keeps_next_
    | with_reducible apply keeps_iteO_
theorem keeps_execDpllLock (s : State) (hm : Holds P s) : OutHolds P (execDpllLock s) := by
  unfold execDpllLock
  repeat' first
    | with_reducible assumption
    | extract_lets
    | with_reducible apply keeps_setRegs
    | with_reducible apply keeps_stick
    | with_reducible apply keeps_refreshGrade
    | with_reducible apply keeps_next_
    | with_reducible apply keeps_iteO_
theorem keeps_execDpllLockLost (s : State) (hm : Holds P s) : OutHolds P (execDpllLockLost s) := by
  unfold execDpllLockLost
  repeat' first
    | with_reducible assumption
    | extract_lets
    | with_reducible apply keeps_setRegs
    | with_reducible apply keeps_toStandby
    | with_reducible apply keeps_modClk
    | with_reducible apply keeps_stick
    | with_reducible apply keeps_when_
    | with_reducible apply keeps_next_
    | with_reducible apply keeps_iteO_
theorem keeps_execSlewComplete (s : State) (hm : Holds P s) : OutHolds P (execSlewComplete s) := by
  unfold execSlewComplete
  repeat' first
    | with_reducible assumption
    | extract_lets
    | with_reducible apply keeps_modClk
    | with_reducible apply keeps_next_
    | with_reducible apply keeps_iteO_
theorem keeps_execHoldoverDegrade (s : State) (hm : Holds P s) : OutHolds P (execHoldoverDegrade s) := by
  unfold execHoldoverDegrade
  repeat' first
    | with_reducible assumption
    | extract_lets
    | with_reducible apply keeps_modClk
    | with_reducible apply keeps_refreshGrade
    | with_reducible apply keeps_next_
    | with_reducible apply keeps_iteO_
theorem keeps_execDpllStickyClear (m : Fin 4294967296) (s : State) (hm : Holds P s) : OutHolds P (execDpllStickyClear m s) := by
  unfold execDpllStickyClear
  repeat' first
    | with_reducible assumption
    | extract_lets
    | with_reducible apply keeps_setReg
    | with_reducible apply keeps_reply
    | with_reducible apply keeps_when_
    | (with_reducible apply keeps_overN_; intro _ _ _)
    | with_reducible apply keeps_next_
theorem keeps_execDpllSteer (v : Int) (s : State) (hm : Holds P s) : OutHolds P (execDpllSteer v s) := by
  unfold execDpllSteer
  repeat' first
    | with_reducible assumption
    | extract_lets
    | with_reducible apply keeps_reply
    | with_reducible apply keeps_dueWrite
    | with_reducible apply keeps_next_
    | with_reducible apply keeps_iteO_
theorem keeps_execSBase (hz : Nat) (s : State) (hm : Holds P s) : OutHolds P (execSBase hz s) := by
  unfold execSBase
  repeat' first
    | with_reducible assumption
    | extract_lets
    | with_reducible apply keeps_reply
    | with_reducible apply keeps_dueWrite
    | with_reducible apply keeps_next_
    | with_reducible apply keeps_iteO_
/-! Signals. -/
theorem keeps_setSource (s : State) (x : SigId) (b : List Sample) (hm : Holds P s) : Holds P (State.setSource s x b) := by
  unfold State.setSource
  repeat' first
    | with_reducible assumption
    | fail_if_no_progress (with_reducible apply keeps_mk_; first | with_reducible apply keeps_fold_ | with_reducible apply keeps_memPut_ | with_reducible apply keeps_filter_)
theorem keeps_setSink (s : State) (x : SigId) (k : SinkSt) (hm : Holds P s) : Holds P (State.setSink s x k) := by
  unfold State.setSink
  repeat' first
    | with_reducible assumption
    | fail_if_no_progress (with_reducible apply keeps_mk_; first | with_reducible apply keeps_fold_ | with_reducible apply keeps_memPut_ | with_reducible apply keeps_filter_)
theorem keeps_advanceSinks (s : State) (hm : Holds P s) : Holds P (State.advanceSinks s) := by
  unfold State.advanceSinks
  repeat' first
    | with_reducible assumption
    | fail_if_no_progress (with_reducible apply keeps_mk_; first | with_reducible apply keeps_fold_ | with_reducible apply keeps_memPut_ | with_reducible apply keeps_filter_)
theorem keeps_startFade (s : State) (p : Nat) (old : Option Route) (r : Route) (hm : Holds P s) : Holds P (State.startFade s p old r) := by
  unfold State.startFade
  repeat' first
    | with_reducible assumption
    | extract_lets
    | with_reducible apply keeps_setSink
    | with_reducible apply keeps_ite_
theorem keeps_startUp (s : State) (p : Nat) (r : Route) (hm : Holds P s) : Holds P (State.startUp s p r) := by
  unfold State.startUp
  repeat' first
    | with_reducible assumption
    | extract_lets
    | with_reducible apply keeps_setSink
/-! FcuEngine. -/
theorem keeps_setGrp (s : State) (k : Nat) (g : GrpSt) (hm : Holds P s) : Holds P (State.setGrp s k g) := by
  unfold State.setGrp
  repeat' first
    | with_reducible assumption
    | fail_if_no_progress (with_reducible apply keeps_mk_; first | with_reducible apply keeps_fold_ | with_reducible apply keeps_memPut_ | with_reducible apply keeps_filter_)
theorem keeps_putFcuWords (s : State) (u bank w : Nat) (l : List Int) (hm : Holds P s) : Holds P (State.putFcuWords s u bank w l) := by
  unfold State.putFcuWords
  repeat' first
    | with_reducible assumption
    | extract_lets
    | fail_if_no_progress (with_reducible apply keeps_mk_; first | with_reducible apply keeps_fold_ | with_reducible apply keeps_memPut_ | with_reducible apply keeps_filter_)
    | with_reducible apply keeps_touch
theorem keeps_putState (s : State) (u w : Nat) (l : List Int) (hm : Holds P s) : Holds P (State.putState s u w l) := by
  unfold State.putState
  repeat' first
    | with_reducible assumption
    | extract_lets
    | fail_if_no_progress (with_reducible apply keeps_mk_; first | with_reducible apply keeps_fold_ | with_reducible apply keeps_memPut_ | with_reducible apply keeps_filter_)
    | with_reducible apply keeps_touch
theorem keeps_runChain (s : State) (u lane : Nat) (passB : Bool) (bankAt : Nat → Nat → Nat) (l : List Stage) (m : Nat) (x : List Int) (n : Nat) (hm : Holds P s) : Holds P (s.runChain u lane passB bankAt l m x n).1 := by
  induction l generalizing s m x n with
  | nil => exact hm
  | cons st t ih => exact ih _ _ _ _ (keeps_putState _ _ _ _ hm)
theorem keeps_zeroGroupState (s : State) (g : FcuGroup) (hm : Holds P s) : Holds P (State.zeroGroupState s g) := by
  unfold State.zeroGroupState
  repeat' first
    | with_reducible assumption
    | extract_lets
    | with_reducible apply keeps_putState
    | (with_reducible apply keeps_overL_; intro _ _ _)
theorem keeps_advanceSwap (s : State) (k : Nat) (g : GrpSt) (r : FcuGroup) (i0 : Nat) (hm : Holds P s) : Holds P (State.advanceSwap s k g r i0) := by
  unfold State.advanceSwap
  repeat' first
    | with_reducible assumption
    | extract_lets
    | with_reducible apply keeps_setRegs
    | with_reducible apply keeps_setGrp
    | with_reducible apply keeps_ite_
theorem keeps_runGroup (s : State) (k : Nat) (hm : Holds P s) : Holds P (State.runGroup s k) := by
  unfold State.runGroup
  repeat' first
    | with_reducible assumption
    | extract_lets
    | with_reducible apply keeps_bumpBy
    | with_reducible apply keeps_setSource
    | with_reducible apply keeps_runChain
    | with_reducible apply keeps_zeroGroupState
    | with_reducible apply keeps_advanceSwap
    | with_reducible apply keeps_ite_
    | (with_reducible apply keeps_overN_; intro _ _ _)
    | dsimp +zetaDelta only
    | split
/-! Cores. -/
theorem keeps_coreStoreByte (hc : Closed P) (s : State) (own u a : Nat) (v : Byte) (hm : Holds P s) : Holds P (State.coreStoreByte s own u a v) := by
  unfold State.coreStoreByte
  repeat' first
    | with_reducible assumption
    | extract_lets
    | with_reducible apply keeps_modCore
    | with_reducible apply keeps_store
    | with_reducible apply keeps_ite_
theorem keeps_coreStore (hc : Closed P) (s : State) (own u a : Nat) (b : List Byte) (hm : Holds P s) : Holds P (State.coreStore s own u a b) := by
  unfold State.coreStore
  repeat' first
    | with_reducible assumption
    | extract_lets
    | with_reducible apply keeps_store
    | with_reducible apply keeps_coreStoreByte
    | with_reducible apply keeps_ite_
    | (with_reducible apply keeps_overL_; intro _ _ _)
theorem keeps_endDma (s : State) (hm : Holds P s) : Holds P (State.endDma s) := by
  unfold State.endDma
  repeat' first
    | with_reducible assumption
    | extract_lets
    | with_reducible apply keeps_modCore
    | (with_reducible apply keeps_overL_; intro _ _ _)
theorem keeps_repair (s : State) (a : Nat) (b : List Byte) (hm : Holds P s) : Holds P (State.repair s a b) := by
  unfold State.repair
  repeat' first
    | with_reducible assumption
    | fail_if_no_progress (with_reducible apply keeps_mk_; first | with_reducible apply keeps_fold_ | with_reducible apply keeps_memPut_ | with_reducible apply keeps_filter_)
theorem keeps_countOverrun (s : State) (p core id : Nat) (hm : Holds P s) : Holds P (State.countOverrun s p core id) := by
  unfold State.countOverrun
  repeat' first
    | with_reducible assumption
    | extract_lets
    | with_reducible apply keeps_setReg
    | with_reducible apply keeps_bump
    | with_reducible apply keeps_modPlot
    | with_reducible apply keeps_modTask
    | with_reducible apply keeps_logEvent
    | with_reducible apply keeps_plotFault
    | with_reducible apply keeps_ite_
theorem keeps_zeroTask (s : State) (p id : Nat) (hm : Holds P s) : Holds P (State.zeroTask s p id) := by
  unfold State.zeroTask
  repeat' first
    | with_reducible assumption
    | extract_lets
    | fail_if_no_progress (with_reducible apply keeps_mk_; first | with_reducible apply keeps_fold_ | with_reducible apply keeps_memPut_ | with_reducible apply keeps_filter_)
    | with_reducible apply keeps_modTask
theorem keeps_reinit (s : State) (p : Nat) (t : Task) (hm : Holds P s) : Holds P (State.reinit s p t) := by
  unfold State.reinit
  repeat' first
    | with_reducible assumption
    | extract_lets
    | with_reducible apply keeps_repair
    | with_reducible apply keeps_ite_
    | (with_reducible apply keeps_overL_; intro _ _ _)
    | split
theorem keeps_stopOverrun (s : State) (c : Nat) (r : RunTask) (hm : Holds P s) : Holds P (State.stopOverrun s c r) := by
  unfold State.stopOverrun
  repeat' first
    | with_reducible assumption
    | extract_lets
    | with_reducible apply keeps_modCore
    | with_reducible apply keeps_countOverrun
    | with_reducible apply keeps_zeroTask
    | with_reducible apply keeps_reinit
theorem keeps_exception (s : State) (c : Nat) (r : RunTask) (code trap : Nat) (hm : Holds P s) : Holds P (State.exception s c r code trap) := by
  unfold State.exception
  repeat' first
    | with_reducible assumption
    | extract_lets
    | with_reducible apply keeps_setReg
    | with_reducible apply keeps_bump
    | with_reducible apply keeps_logEvent
    | with_reducible apply keeps_plotFault
    | with_reducible apply keeps_evidence
    | with_reducible apply keeps_proofFail
    | with_reducible apply keeps_repair
    | with_reducible apply keeps_stopOverrun
    | with_reducible apply keeps_ite_
    | with_reducible apply keeps_when_
    | (with_reducible apply keeps_overL_; intro _ _ _)
/-! CoreIssue. -/
theorem keeps_finish (s : State) (c : Nat) (r : RunTask) (hm : Holds P s) : Holds P (State.finish s c r) := by
  unfold State.finish
  repeat' first
    | with_reducible assumption
    | extract_lets
    | fail_if_no_progress (with_reducible apply keeps_mk_; first | with_reducible apply keeps_fold_ | with_reducible apply keeps_memPut_ | with_reducible apply keeps_filter_)
    | with_reducible apply keeps_bump
    | with_reducible apply keeps_modCore
    | with_reducible apply keeps_modTask
    | with_reducible apply keeps_when_
theorem keeps_retire (hc : Closed P) (s : State) (c : Nat) (r : RunTask) (hm : Holds P s) : Holds P (State.retire s c r) := by
  unfold State.retire
  repeat' first
    | with_reducible assumption
    | extract_lets
    | fail_if_no_progress (with_reducible apply keeps_mk_; first | with_reducible apply keeps_fold_ | with_reducible apply keeps_memPut_ | with_reducible apply keeps_filter_)
    | with_reducible apply keeps_bumpBy
    | with_reducible apply keeps_setCore
    | with_reducible apply keeps_coreStore
    | with_reducible apply keeps_exception
    | with_reducible apply keeps_finish
    | with_reducible apply keeps_ite_
    | (with_reducible apply keeps_overL_; intro _ _ _)
    | dsimp +zetaDelta only
    | split
theorem keeps_slot (hc : Closed P) (s : State) (c : Nat) (ctl : SlotCtl) (op : Op) (hm : Holds P s) : Holds P (State.slot s c ctl op) := by
  unfold State.slot
  repeat' first
    | with_reducible assumption
    | extract_lets
    | with_reducible apply keeps_setCore
    | with_reducible apply keeps_retire
    | with_reducible apply keeps_ite_
    | dsimp +zetaDelta only
    | split
theorem keeps_execCoprocResultWrite (c : Fin 128) (s : State) (hm : Holds P s) : OutHolds P (execCoprocResultWrite c s) := by
  unfold execCoprocResultWrite
  repeat' first
    | with_reducible assumption
    | extract_lets
    | with_reducible apply keeps_setCore
    | with_reducible apply keeps_next_
    | with_reducible apply keeps_iteO_
    | dsimp +zetaDelta only
    | split
/-! CoreLoadStore. -/
theorem keeps_execCoreLd16 (hc : Closed P) (c : Fin 128) (ctl : SlotCtl) (x : L1) (s : State) (hm : Holds P s) : OutHolds P (execCoreLd16 c ctl x s) := by
  unfold execCoreLd16
  repeat' first
    | with_reducible assumption
    | extract_lets
    | with_reducible apply keeps_slot
    | with_reducible apply keeps_next_
theorem keeps_execCoreLd24 (hc : Closed P) (c : Fin 128) (ctl : SlotCtl) (x : L1) (s : State) (hm : Holds P s) : OutHolds P (execCoreLd24 c ctl x s) := by
  unfold execCoreLd24
  repeat' first
    | with_reducible assumption
    | extract_lets
    | with_reducible apply keeps_slot
    | with_reducible apply keeps_next_
theorem keeps_execCoreLd32 (hc : Closed P) (c : Fin 128) (ctl : SlotCtl) (x : L1) (s : State) (hm : Holds P s) : OutHolds P (execCoreLd32 c ctl x s) := by
  unfold execCoreLd32
  repeat' first
    | with_reducible assumption
    | extract_lets
    | with_reducible apply keeps_slot
    | with_reducible apply keeps_next_
theorem keeps_execCoreLd64 (hc : Closed P) (c : Fin 128) (ctl : SlotCtl) (x : L1) (s : State) (hm : Holds P s) : OutHolds P (execCoreLd64 c ctl x s) := by
  unfold execCoreLd64
  repeat' first
    | with_reducible assumption
    | extract_lets
    | with_reducible apply keeps_slot
    | with_reducible apply keeps_next_
theorem keeps_execCoreLd2 (hc : Closed P) (c : Fin 128) (ctl : SlotCtl) (d1 : Fin 16) (k : Fin 8) (d2 : Fin 16) (j : Fin 8) (s : State) (hm : Holds P s) : OutHolds P (execCoreLd2 c ctl d1 k d2 j s) := by
  unfold execCoreLd2
  repeat' first
    | with_reducible assumption
    | extract_lets
    | with_reducible apply keeps_slot
    | with_reducible apply keeps_next_
theorem keeps_execCoreLdst (hc : Closed P) (c : Fin 128) (ctl : SlotCtl) (d : Fin 16) (k : Fin 8) (v : Fin 16) (j : Fin 8) (s : State) (hm : Holds P s) : OutHolds P (execCoreLdst c ctl d k v j s) := by
  unfold execCoreLdst
  repeat' first
    | with_reducible assumption
    | extract_lets
    | with_reducible apply keeps_slot
    | with_reducible apply keeps_next_
theorem keeps_execCoreLd2st (hc : Closed P) (c : Fin 128) (ctl : SlotCtl) (quad : Fin 8) (k : Fin 8) (j : Fin 8) (v : Fin 16) (w : Bool) (s : State) (hm : Holds P s) : OutHolds P (execCoreLd2st c ctl quad k j v w s) := by
  unfold execCoreLd2st
  repeat' first
    | with_reducible assumption
    | extract_lets
    | with_reducible apply keeps_slot
    | with_reducible apply keeps_next_
theorem keeps_execCoreSt16 (hc : Closed P) (c : Fin 128) (ctl : SlotCtl) (trunc : Bool) (x : L1) (s : State) (hm : Holds P s) : OutHolds P (execCoreSt16 c ctl trunc x s) := by
  unfold execCoreSt16
  repeat' first
    | with_reducible assumption
    | extract_lets
    | with_reducible apply keeps_slot
    | with_reducible apply keeps_next_
theorem keeps_execCoreSt24 (hc : Closed P) (c : Fin 128) (ctl : SlotCtl) (trunc : Bool) (x : L1) (s : State) (hm : Holds P s) : OutHolds P (execCoreSt24 c ctl trunc x s) := by
  unfold execCoreSt24
  repeat' first
    | with_reducible assumption
    | extract_lets
    | with_reducible apply keeps_slot
    | with_reducible apply keeps_next_
theorem keeps_execCoreSt32 (hc : Closed P) (c : Fin 128) (ctl : SlotCtl) (x : L1) (s : State) (hm : Holds P s) : OutHolds P (execCoreSt32 c ctl x s) := by
  unfold execCoreSt32
  repeat' first
    | with_reducible assumption
    | extract_lets
    | with_reducible apply keeps_slot
    | with_reducible apply keeps_next_
theorem keeps_execCoreSt64 (hc : Closed P) (c : Fin 128) (ctl : SlotCtl) (x : L1) (s : State) (hm : Holds P s) : OutHolds P (execCoreSt64 c ctl x s) := by
  unfold execCoreSt64
  repeat' first
    | with_reducible assumption
    | extract_lets
    | with_reducible apply keeps_slot
    | with_reducible apply keeps_next_
theorem keeps_execCoreSmax (hc : Closed P) (c : Fin 128) (ctl : SlotCtl) (best : Fin 32) (idx : Fin 32) (k : Fin 8) (single : Bool) (s : State) (hm : Holds P s) : OutHolds P (execCoreSmax c ctl best idx k single s) := by
  unfold execCoreSmax
  repeat' first
    | with_reducible assumption
    | extract_lets
    | with_reducible apply keeps_slot
    | with_reducible apply keeps_next_
theorem keeps_execCoreSmin (hc : Closed P) (c : Fin 128) (ctl : SlotCtl) (best : Fin 32) (idx : Fin 32) (k : Fin 8) (single : Bool) (s : State) (hm : Holds P s) : OutHolds P (execCoreSmin c ctl best idx k single s) := by
  unfold execCoreSmin
  repeat' first
    | with_reducible assumption
    | extract_lets
    | with_reducible apply keeps_slot
    | with_reducible apply keeps_next_
theorem keeps_execCoreSmaxa (hc : Closed P) (c : Fin 128) (ctl : SlotCtl) (best : Fin 32) (idx : Fin 32) (k : Fin 8) (single : Bool) (s : State) (hm : Holds P s) : OutHolds P (execCoreSmaxa c ctl best idx k single s) := by
  unfold execCoreSmaxa
  repeat' first
    | with_reducible assumption
    | extract_lets
    | with_reducible apply keeps_slot
    | with_reducible apply keeps_next_
theorem keeps_execCoreSmina (hc : Closed P) (c : Fin 128) (ctl : SlotCtl) (best : Fin 32) (idx : Fin 32) (k : Fin 8) (single : Bool) (s : State) (hm : Holds P s) : OutHolds P (execCoreSmina c ctl best idx k single s) := by
  unfold execCoreSmina
  repeat' first
    | with_reducible assumption
    | extract_lets
    | with_reducible apply keeps_slot
    | with_reducible apply keeps_next_
theorem keeps_execCorePmov (hc : Closed P) (c : Fin 128) (ctl : SlotCtl) (toG : Bool) (g : Fin 32) (k : Fin 8) (s : State) (hm : Holds P s) : OutHolds P (execCorePmov c ctl toG g k s) := by
  unfold execCorePmov
  repeat' first
    | with_reducible assumption
    | extract_lets
    | with_reducible apply keeps_slot
    | with_reducible apply keeps_next_
theorem keeps_execCorePadd (hc : Closed P) (c : Fin 128) (ctl : SlotCtl) (k : Fin 8) (imm : Int) (s : State) (hm : Holds P s) : OutHolds P (execCorePadd c ctl k imm s) := by
  unfold execCorePadd
  repeat' first
    | with_reducible assumption
    | extract_lets
    | with_reducible apply keeps_slot
    | with_reducible apply keeps_next_
/-! CoreCompute. -/
theorem keeps_execCoreAdd (hc : Closed P) (c : Fin 128) (ctl : SlotCtl) (m : Satur) (rd rs rt : Fin 32) (s : State) (hm : Holds P s) : OutHolds P (execCoreAdd c ctl m rd rs rt s) := by
  unfold execCoreAdd
  repeat' first
    | with_reducible assumption
    | extract_lets
    | with_reducible apply keeps_slot
    | with_reducible apply keeps_next_
theorem keeps_execCoreSub (hc : Closed P) (c : Fin 128) (ctl : SlotCtl) (m : Satur) (rd rs rt : Fin 32) (s : State) (hm : Holds P s) : OutHolds P (execCoreSub c ctl m rd rs rt s) := by
  unfold execCoreSub
  repeat' first
    | with_reducible assumption
    | extract_lets
    | with_reducible apply keeps_slot
    | with_reducible apply keeps_next_
theorem keeps_execCoreAnd (hc : Closed P) (c : Fin 128) (ctl : SlotCtl) (rd rs rt : Fin 32) (s : State) (hm : Holds P s) : OutHolds P (execCoreAnd c ctl rd rs rt s) := by
  unfold execCoreAnd
  repeat' first
    | with_reducible assumption
    | extract_lets
    | with_reducible apply keeps_slot
    | with_reducible apply keeps_next_
theorem keeps_execCoreOr (hc : Closed P) (c : Fin 128) (ctl : SlotCtl) (rd rs rt : Fin 32) (s : State) (hm : Holds P s) : OutHolds P (execCoreOr c ctl rd rs rt s) := by
  unfold execCoreOr
  repeat' first
    | with_reducible assumption
    | extract_lets
    | with_reducible apply keeps_slot
    | with_reducible apply keeps_next_
theorem keeps_execCoreXor (hc : Closed P) (c : Fin 128) (ctl : SlotCtl) (rd rs rt : Fin 32) (s : State) (hm : Holds P s) : OutHolds P (execCoreXor c ctl rd rs rt s) := by
  unfold execCoreXor
  repeat' first
    | with_reducible assumption
    | extract_lets
    | with_reducible apply keeps_slot
    | with_reducible apply keeps_next_
theorem keeps_execCoreMin (hc : Closed P) (c : Fin 128) (ctl : SlotCtl) (rd rs rt : Fin 32) (s : State) (hm : Holds P s) : OutHolds P (execCoreMin c ctl rd rs rt s) := by
  unfold execCoreMin
  repeat' first
    | with_reducible assumption
    | extract_lets
    | with_reducible apply keeps_slot
    | with_reducible apply keeps_next_
theorem keeps_execCoreMax (hc : Closed P) (c : Fin 128) (ctl : SlotCtl) (rd rs rt : Fin 32) (s : State) (hm : Holds P s) : OutHolds P (execCoreMax c ctl rd rs rt s) := by
  unfold execCoreMax
  repeat' first
    | with_reducible assumption
    | extract_lets
    | with_reducible apply keeps_slot
    | with_reducible apply keeps_next_
theorem keeps_execCoreMulf (hc : Closed P) (c : Fin 128) (ctl : SlotCtl) (trunc : Bool) (rd rs rt : Fin 32) (s : State) (hm : Holds P s) : OutHolds P (execCoreMulf c ctl trunc rd rs rt s) := by
  unfold execCoreMulf
  repeat' first
    | with_reducible assumption
    | extract_lets
    | with_reducible apply keeps_slot
    | with_reducible apply keeps_next_
theorem keeps_execCoreMuli (hc : Closed P) (c : Fin 128) (ctl : SlotCtl) (rd rs rt : Fin 32) (s : State) (hm : Holds P s) : OutHolds P (execCoreMuli c ctl rd rs rt s) := by
  unfold execCoreMuli
  repeat' first
    | with_reducible assumption
    | extract_lets
    | with_reducible apply keeps_slot
    | with_reducible apply keeps_next_
theorem keeps_execCoreSrai (hc : Closed P) (c : Fin 128) (ctl : SlotCtl) (rd rs : Fin 32) (n : Fin 32) (s : State) (hm : Holds P s) : OutHolds P (execCoreSrai c ctl rd rs n s) := by
  unfold execCoreSrai
  repeat' first
    | with_reducible assumption
    | extract_lets
    | with_reducible apply keeps_slot
    | with_reducible apply keeps_next_
theorem keeps_execCoreSlli (hc : Closed P) (c : Fin 128) (ctl : SlotCtl) (rd rs : Fin 32) (n : Fin 32) (s : State) (hm : Holds P s) : OutHolds P (execCoreSlli c ctl rd rs n s) := by
  unfold execCoreSlli
  repeat' first
    | with_reducible assumption
    | extract_lets
    | with_reducible apply keeps_slot
    | with_reducible apply keeps_next_
theorem keeps_execCoreSrli (hc : Closed P) (c : Fin 128) (ctl : SlotCtl) (rd rs : Fin 32) (n : Fin 32) (s : State) (hm : Holds P s) : OutHolds P (execCoreSrli c ctl rd rs n s) := by
  unfold execCoreSrli
  repeat' first
    | with_reducible assumption
    | extract_lets
    | with_reducible apply keeps_slot
    | with_reducible apply keeps_next_
theorem keeps_execCoreSrar (hc : Closed P) (c : Fin 128) (ctl : SlotCtl) (trunc : Bool) (rd rs : Fin 32) (n : Fin 32) (s : State) (hm : Holds P s) : OutHolds P (execCoreSrar c ctl trunc rd rs n s) := by
  unfold execCoreSrar
  repeat' first
    | with_reducible assumption
    | extract_lets
    | with_reducible apply keeps_slot
    | with_reducible apply keeps_next_
theorem keeps_execCoreMov (hc : Closed P) (c : Fin 128) (ctl : SlotCtl) (rd rs : Fin 32) (s : State) (hm : Holds P s) : OutHolds P (execCoreMov c ctl rd rs s) := by
  unfold execCoreMov
  repeat' first
    | with_reducible assumption
    | extract_lets
    | with_reducible apply keeps_slot
    | with_reducible apply keeps_next_
theorem keeps_execCoreNeg (hc : Closed P) (c : Fin 128) (ctl : SlotCtl) (m : Satur) (rd rs : Fin 32) (s : State) (hm : Holds P s) : OutHolds P (execCoreNeg c ctl m rd rs s) := by
  unfold execCoreNeg
  repeat' first
    | with_reducible assumption
    | extract_lets
    | with_reducible apply keeps_slot
    | with_reducible apply keeps_next_
theorem keeps_execCoreAbs (hc : Closed P) (c : Fin 128) (ctl : SlotCtl) (m : Satur) (rd rs : Fin 32) (s : State) (hm : Holds P s) : OutHolds P (execCoreAbs c ctl m rd rs s) := by
  unfold execCoreAbs
  repeat' first
    | with_reducible assumption
    | extract_lets
    | with_reducible apply keeps_slot
    | with_reducible apply keeps_next_
theorem keeps_execCoreNot (hc : Closed P) (c : Fin 128) (ctl : SlotCtl) (rd rs : Fin 32) (s : State) (hm : Holds P s) : OutHolds P (execCoreNot c ctl rd rs s) := by
  unfold execCoreNot
  repeat' first
    | with_reducible assumption
    | extract_lets
    | with_reducible apply keeps_slot
    | with_reducible apply keeps_next_
theorem keeps_execCoreCmp (hc : Closed P) (c : Fin 128) (ctl : SlotCtl) (q : Fin 4) (cond : Cond) (rs rt : Fin 32) (s : State) (hm : Holds P s) : OutHolds P (execCoreCmp c ctl q cond rs rt s) := by
  unfold execCoreCmp
  repeat' first
    | with_reducible assumption
    | extract_lets
    | with_reducible apply keeps_slot
    | with_reducible apply keeps_next_
theorem keeps_execCoreMovi (hc : Closed P) (c : Fin 128) (ctl : SlotCtl) (rd : Fin 32) (imm : Int) (s : State) (hm : Holds P s) : OutHolds P (execCoreMovi c ctl rd imm s) := by
  unfold execCoreMovi
  repeat' first
    | with_reducible assumption
    | extract_lets
    | with_reducible apply keeps_slot
    | with_reducible apply keeps_next_
theorem keeps_execCoreMovh (hc : Closed P) (c : Fin 128) (ctl : SlotCtl) (rd : Fin 32) (imm : Int) (s : State) (hm : Holds P s) : OutHolds P (execCoreMovh c ctl rd imm s) := by
  unfold execCoreMovh
  repeat' first
    | with_reducible assumption
    | extract_lets
    | with_reducible apply keeps_slot
    | with_reducible apply keeps_next_
theorem keeps_execCoreCmac (hc : Closed P) (c : Fin 128) (ctl : SlotCtl) (a : Fin 4) (x y : Fin 16) (f : MacFlags) (s : State) (hm : Holds P s) : OutHolds P (execCoreCmac c ctl a x y f s) := by
  unfold execCoreCmac
  repeat' first
    | with_reducible assumption
    | extract_lets
    | with_reducible apply keeps_slot
    | with_reducible apply keeps_next_
theorem keeps_execCoreCmac2 (hc : Closed P) (c : Fin 128) (ctl : SlotCtl) (a0 a1 : Fin 4) (x y : Fin 16) (f : MacFlags) (s : State) (hm : Holds P s) : OutHolds P (execCoreCmac2 c ctl a0 a1 x y f s) := by
  unfold execCoreCmac2
  repeat' first
    | with_reducible assumption
    | extract_lets
    | with_reducible apply keeps_slot
    | with_reducible apply keeps_next_
theorem keeps_execCoreQmac (hc : Closed P) (c : Fin 128) (ctl : SlotCtl) (a : Fin 4) (x y : Fin 8) (f : MacFlags) (s : State) (hm : Holds P s) : OutHolds P (execCoreQmac c ctl a x y f s) := by
  unfold execCoreQmac
  repeat' first
    | with_reducible assumption
    | extract_lets
    | with_reducible apply keeps_slot
    | with_reducible apply keeps_next_
theorem keeps_execCoreQmac2 (hc : Closed P) (c : Fin 128) (ctl : SlotCtl) (a0 a1 : Fin 4) (x y : Fin 8) (f : MacFlags) (s : State) (hm : Holds P s) : OutHolds P (execCoreQmac2 c ctl a0 a1 x y f s) := by
  unfold execCoreQmac2
  repeat' first
    | with_reducible assumption
    | extract_lets
    | with_reducible apply keeps_slot
    | with_reducible apply keeps_next_
theorem keeps_execCoreAcv (hc : Closed P) (c : Fin 128) (ctl : SlotCtl) (trunc : Bool) (rd : Fin 32) (a : Fin 8) (n : Fin 64) (s : State) (hm : Holds P s) : OutHolds P (execCoreAcv c ctl trunc rd a n s) := by
  unfold execCoreAcv
  repeat' first
    | with_reducible assumption
    | extract_lets
    | with_reducible apply keeps_slot
    | with_reducible apply keeps_next_
theorem keeps_execCoreAsr (hc : Closed P) (c : Fin 128) (ctl : SlotCtl) (trunc : Bool) (d a : Fin 8) (n : Fin 64) (s : State) (hm : Holds P s) : OutHolds P (execCoreAsr c ctl trunc d a n s) := by
  unfold execCoreAsr
  repeat' first
    | with_reducible assumption
    | extract_lets
    | with_reducible apply keeps_slot
    | with_reducible apply keeps_next_
theorem keeps_execCoreAsl (hc : Closed P) (c : Fin 128) (ctl : SlotCtl) (d a : Fin 8) (n : Fin 64) (s : State) (hm : Holds P s) : OutHolds P (execCoreAsl c ctl d a n s) := by
  unfold execCoreAsl
  repeat' first
    | with_reducible assumption
    | extract_lets
    | with_reducible apply keeps_slot
    | with_reducible apply keeps_next_
theorem keeps_execCoreAmov (hc : Closed P) (c : Fin 128) (ctl : SlotCtl) (d : Fin 8) (rs : Fin 32) (s : State) (hm : Holds P s) : OutHolds P (execCoreAmov c ctl d rs s) := by
  unfold execCoreAmov
  repeat' first
    | with_reducible assumption
    | extract_lets
    | with_reducible apply keeps_slot
    | with_reducible apply keeps_next_
theorem keeps_execCoreAadd (hc : Closed P) (c : Fin 128) (ctl : SlotCtl) (d a b : Fin 8) (s : State) (hm : Holds P s) : OutHolds P (execCoreAadd c ctl d a b s) := by
  unfold execCoreAadd
  repeat' first
    | with_reducible assumption
    | extract_lets
    | with_reducible apply keeps_slot
    | with_reducible apply keeps_next_
theorem keeps_execCoreAsub (hc : Closed P) (c : Fin 128) (ctl : SlotCtl) (d a b : Fin 8) (s : State) (hm : Holds P s) : OutHolds P (execCoreAsub c ctl d a b s) := by
  unfold execCoreAsub
  repeat' first
    | with_reducible assumption
    | extract_lets
    | with_reducible apply keeps_slot
    | with_reducible apply keeps_next_
theorem keeps_execCoreAzero (hc : Closed P) (c : Fin 128) (ctl : SlotCtl) (d : Fin 8) (s : State) (hm : Holds P s) : OutHolds P (execCoreAzero c ctl d s) := by
  unfold execCoreAzero
  repeat' first
    | with_reducible assumption
    | extract_lets
    | with_reducible apply keeps_slot
    | with_reducible apply keeps_next_
theorem keeps_execCoreAcmp (hc : Closed P) (c : Fin 128) (ctl : SlotCtl) (q : Fin 4) (cond : Cond) (a b : Fin 8) (s : State) (hm : Holds P s) : OutHolds P (execCoreAcmp c ctl q cond a b s) := by
  unfold execCoreAcmp
  repeat' first
    | with_reducible assumption
    | extract_lets
    | with_reducible apply keeps_slot
    | with_reducible apply keeps_next_
/-! CoreFlow. -/
theorem keeps_execCoreBr (hc : Closed P) (c : Fin 128) (ctl : SlotCtl) (hint : Bool) (target : Fin 8192) (s : State) (hm : Holds P s) : OutHolds P (execCoreBr c ctl hint target s) := by
  unfold execCoreBr
  repeat' first
    | with_reducible assumption
    | extract_lets
    | with_reducible apply keeps_slot
    | with_reducible apply keeps_next_
theorem keeps_execCoreCall (hc : Closed P) (c : Fin 128) (ctl : SlotCtl) (target : Fin 8192) (s : State) (hm : Holds P s) : OutHolds P (execCoreCall c ctl target s) := by
  unfold execCoreCall
  repeat' first
    | with_reducible assumption
    | extract_lets
    | with_reducible apply keeps_slot
    | with_reducible apply keeps_next_
theorem keeps_execCoreJr (hc : Closed P) (c : Fin 128) (ctl : SlotCtl) (g : Fin 32) (s : State) (hm : Holds P s) : OutHolds P (execCoreJr c ctl g s) := by
  unfold execCoreJr
  repeat' first
    | with_reducible assumption
    | extract_lets
    | with_reducible apply keeps_slot
    | with_reducible apply keeps_next_
theorem keeps_execCoreLoop (hc : Closed P) (c : Fin 128) (ctl : SlotCtl) (fromReg : Bool) (count : Fin 32) (len : Fin 256) (s : State) (hm : Holds P s) : OutHolds P (execCoreLoop c ctl fromReg count len s) := by
  unfold execCoreLoop
  repeat' first
    | with_reducible assumption
    | extract_lets
    | with_reducible apply keeps_slot
    | with_reducible apply keeps_next_
theorem keeps_execCoreEnd (hc : Closed P) (c : Fin 128) (ctl : SlotCtl) (s : State) (hm : Holds P s) : OutHolds P (execCoreEnd c ctl s) := by
  unfold execCoreEnd
  repeat' first
    | with_reducible assumption
    | extract_lets
    | with_reducible apply keeps_slot
    | with_reducible apply keeps_next_
theorem keeps_execCoreTrap (hc : Closed P) (c : Fin 128) (ctl : SlotCtl) (code : Fin 256) (s : State) (hm : Holds P s) : OutHolds P (execCoreTrap c ctl code s) := by
  unfold execCoreTrap
  repeat' first
    | with_reducible assumption
    | extract_lets
    | with_reducible apply keeps_slot
    | with_reducible apply keeps_next_
theorem keeps_execCorePop (hc : Closed P) (c : Fin 128) (ctl : SlotCtl) (q : Fin 4) (quad : Fin 8) (s : State) (hm : Holds P s) : OutHolds P (execCorePop c ctl q quad s) := by
  unfold execCorePop
  repeat' first
    | with_reducible assumption
    | extract_lets
    | with_reducible apply keeps_slot
    | with_reducible apply keeps_next_
theorem keeps_execCoreDmat (hc : Closed P) (c : Fin 128) (ctl : SlotCtl) (n : Fin 256) (s : State) (hm : Holds P s) : OutHolds P (execCoreDmat c ctl n s) := by
  unfold execCoreDmat
  repeat' first
    | with_reducible assumption
    | extract_lets
    | with_reducible apply keeps_slot
    | with_reducible apply keeps_next_
theorem keeps_execCoreMovc (hc : Closed P) (c : Fin 128) (ctl : SlotCtl) (fromCtl : Bool) (cr : Fin 64) (g : Fin 32) (s : State) (hm : Holds P s) : OutHolds P (execCoreMovc c ctl fromCtl cr g s) := by
  unfold execCoreMovc
  repeat' first
    | with_reducible assumption
    | extract_lets
    | with_reducible apply keeps_slot
    | with_reducible apply keeps_next_
theorem keeps_execCoreDiv (hc : Closed P) (c : Fin 128) (ctl : SlotCtl) (rd rs rt : Fin 32) (s : State) (hm : Holds P s) : OutHolds P (execCoreDiv c ctl rd rs rt s) := by
  unfold execCoreDiv
  repeat' first
    | with_reducible assumption
    | extract_lets
    | with_reducible apply keeps_slot
    | with_reducible apply keeps_next_
theorem keeps_execCoreSqrt (hc : Closed P) (c : Fin 128) (ctl : SlotCtl) (rd rs : Fin 32) (s : State) (hm : Holds P s) : OutHolds P (execCoreSqrt c ctl rd rs s) := by
  unfold execCoreSqrt
  repeat' first
    | with_reducible assumption
    | extract_lets
    | with_reducible apply keeps_slot
    | with_reducible apply keeps_next_
theorem keeps_execCoreLog2 (hc : Closed P) (c : Fin 128) (ctl : SlotCtl) (rd rs : Fin 32) (s : State) (hm : Holds P s) : OutHolds P (execCoreLog2 c ctl rd rs s) := by
  unfold execCoreLog2
  repeat' first
    | with_reducible assumption
    | extract_lets
    | with_reducible apply keeps_slot
    | with_reducible apply keeps_next_
theorem keeps_execCoreExp2 (hc : Closed P) (c : Fin 128) (ctl : SlotCtl) (rd rs : Fin 32) (s : State) (hm : Holds P s) : OutHolds P (execCoreExp2 c ctl rd rs s) := by
  unfold execCoreExp2
  repeat' first
    | with_reducible assumption
    | extract_lets
    | with_reducible apply keeps_slot
    | with_reducible apply keeps_next_
theorem keeps_execCoreMag (hc : Closed P) (c : Fin 128) (ctl : SlotCtl) (rd rs rt : Fin 32) (s : State) (hm : Holds P s) : OutHolds P (execCoreMag c ctl rd rs rt s) := by
  unfold execCoreMag
  repeat' first
    | with_reducible assumption
    | extract_lets
    | with_reducible apply keeps_slot
    | with_reducible apply keeps_next_
theorem keeps_execCoreAtan2 (hc : Closed P) (c : Fin 128) (ctl : SlotCtl) (rd rs rt : Fin 32) (s : State) (hm : Holds P s) : OutHolds P (execCoreAtan2 c ctl rd rs rt s) := by
  unfold execCoreAtan2
  repeat' first
    | with_reducible assumption
    | extract_lets
    | with_reducible apply keeps_slot
    | with_reducible apply keeps_next_
/-! CoreTasks. -/
theorem keeps_execTaskStart (p : Fin 16) (task : Nat) (s : State) (hm : Holds P s) : OutHolds P (execTaskStart p task s) := by
  unfold execTaskStart
  repeat' first
    | with_reducible assumption
    | extract_lets
    | fail_if_no_progress (with_reducible apply keeps_mk_; first | with_reducible apply keeps_fold_ | with_reducible apply keeps_memPut_ | with_reducible apply keeps_filter_)
    | with_reducible apply keeps_modCore
    | with_reducible apply keeps_modTask
    | with_reducible apply keeps_countOverrun
    | with_reducible apply keeps_zeroTask
    | with_reducible apply keeps_reinit
    | with_reducible apply keeps_exception
    | with_reducible apply keeps_next_
    | with_reducible apply keeps_iteO_
    | dsimp +zetaDelta only
    | split
theorem keeps_execTaskDeadlineStop (c : Fin 128) (s : State) (hm : Holds P s) : OutHolds P (execTaskDeadlineStop c s) := by
  unfold execTaskDeadlineStop
  repeat' first
    | with_reducible assumption
    | extract_lets
    | fail_if_no_progress (with_reducible apply keeps_mk_; first | with_reducible apply keeps_fold_ | with_reducible apply keeps_memPut_ | with_reducible apply keeps_filter_)
    | with_reducible apply keeps_exception
    | with_reducible apply keeps_next_
    | split
theorem keeps_scrubUecc (hc : Closed P) (s : State) (c w : Nat) (hm : Holds P s) : Holds P (State.scrubUecc s c w) := by
  unfold State.scrubUecc
  repeat' first
    | with_reducible assumption
    | extract_lets
    | with_reducible apply keeps_bump
    | with_reducible apply keeps_store
    | with_reducible apply keeps_logEvent
    | with_reducible apply keeps_ite_
theorem keeps_execCoreScrub (hc : Closed P) (corrected : List (Fin 128 × Nat)) (uncorrectable : List (Fin 128 × Nat)) (s : State) (hm : Holds P s) : OutHolds P (execCoreScrub corrected uncorrectable s) := by
  unfold execCoreScrub
  repeat' first
    | with_reducible assumption
    | extract_lets
    | with_reducible apply keeps_bump
    | with_reducible apply keeps_modCore
    | with_reducible apply keeps_scrubUecc
    | with_reducible apply keeps_when_
    | (with_reducible apply keeps_overL_; intro _ _ _)
    | (with_reducible apply keeps_overN_; intro _ _ _)
    | with_reducible apply keeps_next_
theorem keeps_postMessage (s : State) (c due : Nat) (msg : List Byte) (hm : Holds P s) : Holds P (State.postMessage s c due msg) := by
  unfold State.postMessage
  repeat' first
    | with_reducible assumption
    | with_reducible apply keeps_modCore
theorem keeps_execMsgPost (p : Fin 16) (c : Fin 128) (msg : List Byte) (s : State) (hm : Holds P s) : OutHolds P (execMsgPost p c msg s) := by
  unfold execMsgPost
  repeat' first
    | with_reducible assumption
    | extract_lets
    | with_reducible apply keeps_reply
    | with_reducible apply keeps_postMessage
    | with_reducible apply keeps_next_
    | with_reducible apply keeps_iteO_
theorem keeps_execMsgEnterInbox (c : Fin 128) (s : State) (hm : Holds P s) : OutHolds P (execMsgEnterInbox c s) := by
  unfold execMsgEnterInbox
  repeat' first
    | with_reducible assumption
    | extract_lets
    | with_reducible apply keeps_bump
    | with_reducible apply keeps_setCore
    | with_reducible apply keeps_notifyPlot
    | with_reducible apply keeps_plotFault
    | with_reducible apply keeps_next_
    | with_reducible apply keeps_iteO_
    | dsimp +zetaDelta only
    | split
/-! Fcu. -/
theorem keeps_swapStatus (s : State) (k code : Nat) (hm : Holds P s) : Holds P (State.swapStatus s k code) := by
  unfold State.swapStatus
  repeat' first
    | with_reducible assumption
    | with_reducible apply keeps_setReg
theorem keeps_execBankWrite (p : Fin 16) (u : Fin 64) (g : Fin 16) (offset : Nat) (words : List Int) (s : State) (hm : Holds P s) : OutHolds P (execBankWrite p u g offset words s) := by
  unfold execBankWrite
  repeat' first
    | with_reducible assumption
    | extract_lets
    | with_reducible apply keeps_reply
    | with_reducible apply keeps_putFcuWords
    | with_reducible apply keeps_swapStatus
    | with_reducible apply keeps_next_
    | with_reducible apply keeps_iteO_
    | dsimp +zetaDelta only
    | split
theorem keeps_execSwapAt (p : Fin 16) (u : Fin 64) (g : Fin 16) (sample : Nat) (s : State) (hm : Holds P s) : OutHolds P (execSwapAt p u g sample s) := by
  unfold execSwapAt
  repeat' first
    | with_reducible assumption
    | extract_lets
    | with_reducible apply keeps_setReg
    | with_reducible apply keeps_reply
    | with_reducible apply keeps_setGrp
    | with_reducible apply keeps_swapStatus
    | with_reducible apply keeps_next_
    | with_reducible apply keeps_iteO_
    | dsimp +zetaDelta only
    | split
theorem keeps_execFcuSwapBegin (u : Fin 64) (g : Fin 16) (s : State) (hm : Holds P s) : OutHolds P (execFcuSwapBegin u g s) := by
  unfold execFcuSwapBegin
  repeat' first
    | with_reducible assumption
    | extract_lets
    | with_reducible apply keeps_setReg
    | with_reducible apply keeps_setGrp
    | with_reducible apply keeps_swapStatus
    | with_reducible apply keeps_ite_
    | with_reducible apply keeps_next_
    | with_reducible apply keeps_iteO_
    | dsimp +zetaDelta only
    | split
theorem keeps_execFcuFadeEnd (u : Fin 64) (g : Fin 16) (s : State) (hm : Holds P s) : OutHolds P (execFcuFadeEnd u g s) := by
  unfold execFcuFadeEnd
  repeat' first
    | with_reducible assumption
    | extract_lets
    | with_reducible apply keeps_setRegs
    | with_reducible apply keeps_setGrp
    | with_reducible apply keeps_putState
    | (with_reducible apply keeps_overL_; intro _ _ _)
    | with_reducible apply keeps_next_
    | with_reducible apply keeps_iteO_
    | dsimp +zetaDelta only
    | split
theorem keeps_groupError (s : State) (k addr : Nat) (next : Bool) (hm : Holds P s) : Holds P (State.groupError s k addr next) := by
  unfold State.groupError
  repeat' first
    | with_reducible assumption
    | extract_lets
    | with_reducible apply keeps_bump
    | with_reducible apply keeps_logEvent
    | with_reducible apply keeps_plotFault
    | with_reducible apply keeps_evidence
    | with_reducible apply keeps_setSource
    | with_reducible apply keeps_setGrp
    | with_reducible apply keeps_zeroGroupState
    | with_reducible apply keeps_ite_
    | (with_reducible apply keeps_overN_; intro _ _ _)
    | dsimp +zetaDelta only
    | split
theorem keeps_execFcuUecc (u : Fin 64) (g : Fin 16) (addr : Nat) (s : State) (hm : Holds P s) : OutHolds P (execFcuUecc u g addr s) := by
  unfold execFcuUecc
  repeat' first
    | with_reducible assumption
    | extract_lets
    | with_reducible apply keeps_groupError
    | with_reducible apply keeps_next_
theorem keeps_execFcuScrub (uncorrectable : List (Fin 64 × Nat)) (s : State) (hm : Holds P s) : OutHolds P (execFcuScrub uncorrectable s) := by
  unfold execFcuScrub
  repeat' first
    | with_reducible assumption
    | extract_lets
    | fail_if_no_progress (with_reducible apply keeps_mk_; first | with_reducible apply keeps_fold_ | with_reducible apply keeps_memPut_ | with_reducible apply keeps_filter_)
    | with_reducible apply keeps_logEvent
    | with_reducible apply keeps_putState
    | with_reducible apply keeps_groupError
    | with_reducible apply keeps_ite_
    | (with_reducible apply keeps_overL_; intro _ _ _)
    | with_reducible apply keeps_next_
end Sys2Proof.Machine
end

