-- ==== Sys2Proof/Laws/KeepsPlane.lean ====
section
/-!
SUPPORT. What the ARE, the mix fabric, memory, routes, handoffs and lasts keep: one lemma per operation.
-/
set_option linter.all false
namespace Sys2Proof.Machine
variable {P : NTable Byte → List Instr → Nat → Prop}
/-! Are. -/
theorem keeps_modXp (s : State) (x : Nat) (f : AreXpSt → AreXpSt) (hm : Holds P s) : Holds P (State.modXp s x f) := by
  unfold State.modXp
  repeat' first
    | with_reducible assumption
    | fail_if_no_progress (with_reducible apply keeps_mk_; first | with_reducible apply keeps_fold_ | with_reducible apply keeps_memPut_ | with_reducible apply keeps_filter_)
theorem keeps_writeHistory (s : State) (p : Nat) (r : AreIn) (hm : Holds P s) : Holds P (State.writeHistory s p r) := by
  unfold State.writeHistory
  repeat' first
    | with_reducible assumption
    | extract_lets
    | fail_if_no_progress (with_reducible apply keeps_mk_; first | with_reducible apply keeps_fold_ | with_reducible apply keeps_memPut_ | with_reducible apply keeps_filter_)
    | with_reducible apply keeps_modPlot
    | with_reducible apply keeps_touch
    | with_reducible apply keeps_ite_
theorem keeps_runAreOut (s : State) (p : Nat) (l : Last) (o : AreOut) (hm : Holds P s) : Holds P (State.runAreOut s p l o) := by
  unfold State.runAreOut
  repeat' first
    | with_reducible assumption
    | extract_lets
    | with_reducible apply keeps_bumpBy
    | with_reducible apply keeps_setSource
    | with_reducible apply keeps_writeHistory
    | (with_reducible apply keeps_overL_; intro _ _ _)
theorem keeps_putSet (s : State) (p set : Nat) (v : SetSt) (hm : Holds P s) : Holds P (State.putSet s p set v) := by
  unfold State.putSet
  repeat' first
    | with_reducible assumption
    | fail_if_no_progress (with_reducible apply keeps_mk_; first | with_reducible apply keeps_fold_ | with_reducible apply keeps_memPut_ | with_reducible apply keeps_filter_)
theorem keeps_areStatus (s : State) (p code : Nat) (hm : Holds P s) : Holds P (State.areStatus s p code) := by
  unfold State.areStatus
  repeat' first
    | with_reducible assumption
    | with_reducible apply keeps_setReg
theorem keeps_queueCoefs (s : State) (p bank off set : Nat) (load : Bool) (cs : List Int) (hm : Holds P s) : Holds P (State.queueCoefs s p bank off set load cs) := by
  unfold State.queueCoefs
  repeat' first
    | with_reducible assumption
    | extract_lets
    | with_reducible apply keeps_modPlot
theorem keeps_execAreCoefWrite (p : Fin 16) (xp : Fin 32768) (offset : Nat) (coefs : List Int) (s : State) (hm : Holds P s) : OutHolds P (execAreCoefWrite p xp offset coefs s) := by
  unfold execAreCoefWrite
  repeat' first
    | with_reducible assumption
    | extract_lets
    | with_reducible apply keeps_reply
    | with_reducible apply keeps_areStatus
    | with_reducible apply keeps_queueCoefs
    | with_reducible apply keeps_next_
    | with_reducible apply keeps_iteO_
    | dsimp +zetaDelta only
    | split
theorem keeps_execAreCoefExp (p : Fin 16) (xp : Fin 32768) (e : Nat) (s : State) (hm : Holds P s) : OutHolds P (execAreCoefExp p xp e s) := by
  unfold execAreCoefExp
  repeat' first
    | with_reducible assumption
    | extract_lets
    | with_reducible apply keeps_reply
    | with_reducible apply keeps_modXp
    | with_reducible apply keeps_areStatus
    | with_reducible apply keeps_next_
    | with_reducible apply keeps_iteO_
    | dsimp +zetaDelta only
    | split
theorem keeps_execAreCoefStoreWrite (p : Fin 16) (s : State) (hm : Holds P s) : OutHolds P (execAreCoefStoreWrite p s) := by
  unfold execAreCoefStoreWrite
  repeat' first
    | with_reducible assumption
    | extract_lets
    | fail_if_no_progress (with_reducible apply keeps_mk_; first | with_reducible apply keeps_fold_ | with_reducible apply keeps_memPut_ | with_reducible apply keeps_filter_)
    | with_reducible apply keeps_setReg
    | with_reducible apply keeps_modPlot
    | with_reducible apply keeps_when_
    | with_reducible apply keeps_next_
    | with_reducible apply keeps_iteO_
theorem keeps_loadExps (s : State) (p : Nat) (l : List ImgRec) (hm : Holds P s) {t : State} (h : s.loadExps p l = some t) : Holds P t := by
  induction l generalizing s with
  | nil => unfold State.loadExps at h; injection h with h; exact h ▸ hm
  | cons r l ih =>
    have key : ∀ (c : Prop) [Decidable c] (u : State), (if c then u.loadExps p l else none) = some t → Holds P u → Holds P t := by
      intro c _ u h hu
      split at h
      · exact ih _ hu h
      · exact absurd h (by simp)
    unfold State.loadExps at h
    split at h
    · exact absurd h (by simp)
    · dsimp only at h
      split at h
      · exact absurd h (by simp)
      · refine key _ _ h ?_
        split
        · exact hm
        · exact keeps_modXp _ _ _ hm
theorem keeps_execAreImgStore (p : Fin 16) (image : List Byte) (s : State) (hm : Holds P s) : OutHolds P (execAreImgStore p image s) := by
  unfold execAreImgStore
  repeat' first
    | with_reducible assumption
    | extract_lets
    | with_reducible apply keeps_modPlot
    | with_reducible apply keeps_reply
    | with_reducible apply keeps_next_
theorem keeps_execAreImgLoad (p : Fin 16) (s : State) (hm : Holds P s) : OutHolds P (execAreImgLoad p s) := by
  unfold execAreImgLoad
  extract_lets status
  have hs : ∀ c, OutHolds P (status c) := fun c => keeps_reply _ _ (keeps_setReg _ _ _ hm)
  split
  · exact hs _
  · split
    · exact hs _
    · rename_i heq
      have h1 := keeps_loadExps _ _ _ hm heq
      split
      · exact hs _
      · apply keeps_next_
        apply keeps_reply
        apply keeps_setReg
        apply keeps_modPlot
        apply keeps_overL_
        · intro t r ht
          split
          · split
            · exact keeps_queueCoefs _ _ _ _ _ _ _ ht
            · exact ht
          · exact ht
        · exact h1
theorem keeps_execAreSwapAt (p : Fin 16) (b : Nat) (s : State) (hm : Holds P s) : OutHolds P (execAreSwapAt p b s) := by
  unfold execAreSwapAt
  repeat' first
    | with_reducible assumption
    | extract_lets
    | with_reducible apply keeps_reply
    | with_reducible apply keeps_putSet
    | with_reducible apply keeps_areStatus
    | (with_reducible apply keeps_overL_; intro _ _ _)
    | with_reducible apply keeps_next_
    | with_reducible apply keeps_iteO_
theorem keeps_setDone (s : State) (p set : Nat) (hm : Holds P s) : Holds P (State.setDone s p set) := by
  unfold State.setDone
  repeat' first
    | with_reducible assumption
    | extract_lets
    | with_reducible apply keeps_setReg
    | with_reducible apply keeps_putSet
    | with_reducible apply keeps_areStatus
    | with_reducible apply keeps_ite_
theorem keeps_execAreSwapBegin (p : Fin 16) (set : Fin 8) (s : State) (hm : Holds P s) : OutHolds P (execAreSwapBegin p set s) := by
  unfold execAreSwapBegin
  repeat' first
    | with_reducible assumption
    | extract_lets
    | with_reducible apply keeps_modXp
    | with_reducible apply keeps_putSet
    | with_reducible apply keeps_areStatus
    | with_reducible apply keeps_setDone
    | (with_reducible apply keeps_overL_; intro _ _ _)
    | with_reducible apply keeps_next_
    | with_reducible apply keeps_iteO_
theorem keeps_execAreFadeEnd (xp : Fin 32768) (s : State) (hm : Holds P s) : OutHolds P (execAreFadeEnd xp s) := by
  unfold execAreFadeEnd
  repeat' first
    | with_reducible assumption
    | extract_lets
    | with_reducible apply keeps_modXp
    | with_reducible apply keeps_setDone
    | with_reducible apply keeps_next_
    | with_reducible apply keeps_iteO_
    | dsimp +zetaDelta only
    | split
theorem keeps_xpError (s : State) (k : Nat) (next : Bool) (hm : Holds P s) : Holds P (State.xpError s k next) := by
  unfold State.xpError
  repeat' first
    | with_reducible assumption
    | extract_lets
    | with_reducible apply keeps_bump
    | with_reducible apply keeps_modXp
theorem keeps_reformOut (s : State) (k : Nat) (hm : Holds P s) : Holds P (State.reformOut s k) := by
  unfold State.reformOut
  repeat' first
    | with_reducible assumption
    | extract_lets
    | with_reducible apply keeps_setSource
    | with_reducible apply keeps_ite_
    | dsimp +zetaDelta only
    | split
theorem keeps_execAreUecc (xp : Fin 32768) (residue : Option (Fin 16)) (s : State) (hm : Holds P s) : OutHolds P (execAreUecc xp residue s) := by
  unfold execAreUecc
  repeat' first
    | with_reducible assumption
    | extract_lets
    | with_reducible apply keeps_bump
    | with_reducible apply keeps_logEvent
    | with_reducible apply keeps_plotFault
    | with_reducible apply keeps_evidence
    | with_reducible apply keeps_xpError
    | with_reducible apply keeps_reformOut
    | with_reducible apply keeps_next_
    | dsimp +zetaDelta only
    | split
theorem keeps_historyError (s : State) (p : Nat) (l : Last) (i : AreIn) (w : Nat) (next : Bool) (hm : Holds P s) : Holds P (State.historyError s p l i w next) := by
  unfold State.historyError
  repeat' first
    | with_reducible assumption
    | extract_lets
    | with_reducible apply keeps_bump
    | with_reducible apply keeps_logEvent
    | with_reducible apply keeps_plotFault
    | with_reducible apply keeps_evidence
    | with_reducible apply keeps_xpError
    | with_reducible apply keeps_reformOut
    | with_reducible apply keeps_ite_
    | (with_reducible apply keeps_overL_; intro _ _ _)
theorem keeps_historyWord (s : State) (w : Nat) (next : Bool) (hm : Holds P s) : Holds P (State.historyWord s w next) := by
  unfold State.historyWord
  repeat' first
    | with_reducible assumption
    | extract_lets
    | fail_if_no_progress (with_reducible apply keeps_mk_; first | with_reducible apply keeps_fold_ | with_reducible apply keeps_memPut_ | with_reducible apply keeps_filter_)
    | with_reducible apply keeps_historyError
    | with_reducible apply keeps_ite_
    | dsimp +zetaDelta only
    | split
theorem keeps_execAreHistoryUecc (addr : Fin 4194304) (s : State) (hm : Holds P s) : OutHolds P (execAreHistoryUecc addr s) := by
  unfold execAreHistoryUecc
  repeat' first
    | with_reducible assumption
    | extract_lets
    | with_reducible apply keeps_historyWord
    | with_reducible apply keeps_next_
    | split
theorem keeps_lineError (s : State) (bank line : Nat) (hm : Holds P s) : Holds P (State.lineError s bank line) := by
  unfold State.lineError
  repeat' first
    | with_reducible assumption
    | extract_lets
    | with_reducible apply keeps_logEvent
    | with_reducible apply keeps_plotFault
    | with_reducible apply keeps_evidence
    | with_reducible apply keeps_xpError
    | (with_reducible apply keeps_overL_; intro _ _ _)
    | dsimp +zetaDelta only
    | split
theorem keeps_execAreScrub (corrected : Nat) (coef : List (Fin 2 × Nat)) (hist : List Nat) (s : State) (hm : Holds P s) : OutHolds P (execAreScrub corrected coef hist s) := by
  unfold execAreScrub
  repeat' first
    | with_reducible assumption
    | extract_lets
    | fail_if_no_progress (with_reducible apply keeps_mk_; first | with_reducible apply keeps_fold_ | with_reducible apply keeps_memPut_ | with_reducible apply keeps_filter_)
    | with_reducible apply keeps_bumpBy
    | with_reducible apply keeps_historyWord
    | with_reducible apply keeps_lineError
    | (with_reducible apply keeps_overL_; intro _ _ _)
    | with_reducible apply keeps_next_
/-! MixEngine. -/
theorem keeps_setBus (s : State) (b : Nat) (v : BusSt) (hm : Holds P s) : Holds P (State.setBus s b v) := by
  unfold State.setBus
  repeat' first
    | with_reducible assumption
    | fail_if_no_progress (with_reducible apply keeps_mk_; first | with_reducible apply keeps_fold_ | with_reducible apply keeps_memPut_ | with_reducible apply keeps_filter_)
theorem keeps_setXp (s : State) (x : Nat) (v : XpSt) (hm : Holds P s) : Holds P (State.setXp s x v) := by
  unfold State.setXp
  repeat' first
    | with_reducible assumption
    | fail_if_no_progress (with_reducible apply keeps_mk_; first | with_reducible apply keeps_fold_ | with_reducible apply keeps_memPut_ | with_reducible apply keeps_filter_)
theorem keeps_runBus (s : State) (p : Nat) (l : Last) (r : BusRec) (hm : Holds P s) : Holds P (State.runBus s p l r) := by
  unfold State.runBus
  repeat' first
    | with_reducible assumption
    | extract_lets
    | with_reducible apply keeps_bumpBy
    | with_reducible apply keeps_setRegs
    | with_reducible apply keeps_setSource
    | with_reducible apply keeps_setBus
    | with_reducible apply keeps_setXp
    | (with_reducible apply keeps_overL_; intro _ _ _)
theorem keeps_rampXp (s : State) (x : Nat) (hm : Holds P s) : Holds P (State.rampXp s x) := by
  unfold State.rampXp
  repeat' first
    | with_reducible assumption
    | extract_lets
    | with_reducible apply keeps_setXp
    | dsimp +zetaDelta only
    | split
theorem keeps_rampBus (s : State) (b : Nat) (hm : Holds P s) : Holds P (State.rampBus s b) := by
  unfold State.rampBus
  repeat' first
    | with_reducible assumption
    | extract_lets
    | with_reducible apply keeps_setBus
    | dsimp +zetaDelta only
    | split
theorem keeps_setGen (s : State) (g : Nat) (v : GenSt) (hm : Holds P s) : Holds P (State.setGen s g v) := by
  unfold State.setGen
  repeat' first
    | with_reducible assumption
    | fail_if_no_progress (with_reducible apply keeps_mk_; first | with_reducible apply keeps_fold_ | with_reducible apply keeps_memPut_ | with_reducible apply keeps_filter_)
theorem keeps_makeGen (s : State) (g : Nat) (hm : Holds P s) : Holds P (State.makeGen s g) := by
  unfold State.makeGen
  repeat' first
    | with_reducible assumption
    | extract_lets
    | with_reducible apply keeps_setSource
    | with_reducible apply keeps_setGen
    | dsimp +zetaDelta only
    | split
theorem keeps_runGens (s : State) (hm : Holds P s) : Holds P (State.runGens s) := by
  unfold State.runGens
  repeat' first
    | with_reducible assumption
    | extract_lets
    | with_reducible apply keeps_setGen
    | with_reducible apply keeps_makeGen
    | (with_reducible apply keeps_overL_; intro _ _ _)
theorem keeps_remakeGens (s : State) (p : Nat) (hm : Holds P s) : Holds P (State.remakeGens s p) := by
  unfold State.remakeGens
  repeat' first
    | with_reducible assumption
    | extract_lets
    | with_reducible apply keeps_makeGen
    | (with_reducible apply keeps_overL_; intro _ _ _)
theorem keeps_applyGen (s : State) (g : Nat) (hm : Holds P s) : Holds P (State.applyGen s g) := by
  unfold State.applyGen
  repeat' first
    | with_reducible assumption
    | extract_lets
    | with_reducible apply keeps_setGen
    | with_reducible apply keeps_makeGen
theorem keeps_runDetectors (s : State) (hm : Holds P s) : Holds P (State.runDetectors s) := by
  unfold State.runDetectors
  repeat' first
    | with_reducible assumption
    | extract_lets
    | fail_if_no_progress (with_reducible apply keeps_mk_; first | with_reducible apply keeps_fold_ | with_reducible apply keeps_memPut_ | with_reducible apply keeps_filter_)
    | with_reducible apply keeps_setReg
    | with_reducible apply keeps_ite_
    | (with_reducible apply keeps_overL_; intro _ _ _)
/-! Mix. -/
theorem keeps_execBusGain (p : Fin 16) (b : Fin 2048) (gain : Int) (s : State) (hm : Holds P s) : OutHolds P (execBusGain p b gain s) := by
  unfold execBusGain
  repeat' first
    | with_reducible assumption
    | extract_lets
    | with_reducible apply keeps_reply
    | with_reducible apply keeps_dueWrite
    | with_reducible apply keeps_next_
    | with_reducible apply keeps_iteO_
theorem keeps_execBusMute (p : Fin 16) (b : Fin 2048) (mute : Bool) (s : State) (hm : Holds P s) : OutHolds P (execBusMute p b mute s) := by
  unfold execBusMute
  repeat' first
    | with_reducible assumption
    | extract_lets
    | with_reducible apply keeps_reply
    | with_reducible apply keeps_dueWrite
    | with_reducible apply keeps_next_
    | with_reducible apply keeps_iteO_
theorem keeps_execBusAuto (p : Fin 16) (b : Fin 2048) (law : Nat) (s : State) (hm : Holds P s) : OutHolds P (execBusAuto p b law s) := by
  unfold execBusAuto
  repeat' first
    | with_reducible assumption
    | extract_lets
    | with_reducible apply keeps_reply
    | with_reducible apply keeps_dueWrite
    | with_reducible apply keeps_next_
    | with_reducible apply keeps_iteO_
theorem keeps_execXpGain (p : Fin 16) (x : Fin 65536) (gain : Int) (s : State) (hm : Holds P s) : OutHolds P (execXpGain p x gain s) := by
  unfold execXpGain
  repeat' first
    | with_reducible assumption
    | extract_lets
    | with_reducible apply keeps_reply
    | with_reducible apply keeps_dueWrite
    | with_reducible apply keeps_next_
    | with_reducible apply keeps_iteO_
theorem keeps_execXpMute (p : Fin 16) (x : Fin 65536) (mute : Bool) (s : State) (hm : Holds P s) : OutHolds P (execXpMute p x mute s) := by
  unfold execXpMute
  repeat' first
    | with_reducible assumption
    | extract_lets
    | with_reducible apply keeps_reply
    | with_reducible apply keeps_dueWrite
    | with_reducible apply keeps_next_
    | with_reducible apply keeps_iteO_
theorem keeps_applyMix (s : State) (r : Reg) (v : Int) (hm : Holds P s) : Holds P (State.applyMix s r v) := by
  unfold State.applyMix
  repeat' first
    | with_reducible assumption
    | extract_lets
    | with_reducible apply keeps_setReg
    | with_reducible apply keeps_rampXp
    | with_reducible apply keeps_rampBus
    | with_reducible apply keeps_applyGen
    | with_reducible apply keeps_ite_
theorem keeps_applyDueMix (s : State) (all : List Due) (d : Due) (hm : Holds P s) : Holds P (State.applyDueMix s all d) := by
  unfold State.applyDueMix
  repeat' first
    | with_reducible assumption
    | extract_lets
    | with_reducible apply keeps_discard
    | with_reducible apply keeps_applyMix
    | with_reducible apply keeps_ite_
    | dsimp +zetaDelta only
    | split
theorem keeps_execMixWriteApply (s : State) (hm : Holds P s) : OutHolds P (execMixWriteApply s) := by
  unfold execMixWriteApply
  repeat' first
    | with_reducible assumption
    | extract_lets
    | fail_if_no_progress (with_reducible apply keeps_mk_; first | with_reducible apply keeps_fold_ | with_reducible apply keeps_memPut_ | with_reducible apply keeps_filter_)
    | with_reducible apply keeps_applyDueMix
    | (with_reducible apply keeps_overL_; intro _ _ _)
    | with_reducible apply keeps_next_
theorem keeps_execSilSignal (p : Fin 16) (d : Fin 8192) (sig : Nat) (thresh : Int) (hold : Nat) (s : State) (hm : Holds P s) : OutHolds P (execSilSignal p d sig thresh hold s) := by
  unfold execSilSignal
  repeat' first
    | with_reducible assumption
    | extract_lets
    | fail_if_no_progress (with_reducible apply keeps_mk_; first | with_reducible apply keeps_fold_ | with_reducible apply keeps_memPut_ | with_reducible apply keeps_filter_)
    | with_reducible apply keeps_setRegs
    | with_reducible apply keeps_reply
    | with_reducible apply keeps_next_
    | with_reducible apply keeps_iteO_
theorem keeps_execSilenceHoldExpire (d : Fin 8192) (s : State) (hm : Holds P s) : OutHolds P (execSilenceHoldExpire d s) := by
  unfold execSilenceHoldExpire
  repeat' first
    | with_reducible assumption
    | extract_lets
    | with_reducible apply keeps_setReg
    | with_reducible apply keeps_next_
    | with_reducible apply keeps_iteO_
theorem keeps_execGenType (p : Fin 16) (g : Fin 256) (ty freq : Nat) (level : Int) (seed : Nat) (s : State) (hm : Holds P s) : OutHolds P (execGenType p g ty freq level seed s) := by
  unfold execGenType
  repeat' first
    | with_reducible assumption
    | extract_lets
    | with_reducible apply keeps_reply
    | with_reducible apply keeps_dueWrite
    | with_reducible apply keeps_next_
    | with_reducible apply keeps_iteO_
theorem keeps_setTracker (s : State) (t : Nat) (k : TrackerSt) (hm : Holds P s) : Holds P (State.setTracker s t k) := by
  unfold State.setTracker
  repeat' first
    | with_reducible assumption
    | fail_if_no_progress (with_reducible apply keeps_mk_; first | with_reducible apply keeps_fold_ | with_reducible apply keeps_memPut_ | with_reducible apply keeps_filter_)
theorem keeps_trackerLoss (s : State) (t state : Nat) (hm : Holds P s) : Holds P (State.trackerLoss s t state) := by
  unfold State.trackerLoss
  repeat' first
    | with_reducible assumption
    | extract_lets
    | with_reducible apply keeps_setReg
    | with_reducible apply keeps_bump
    | with_reducible apply keeps_logEvent
    | with_reducible apply keeps_notifyPlot
    | with_reducible apply keeps_plotFault
    | with_reducible apply keeps_setTracker
theorem keeps_trackerLocked (s : State) (t : Nat) (rate : Nat) (ppb : Int) (hm : Holds P s) : Holds P (State.trackerLocked s t rate ppb) := by
  unfold State.trackerLocked
  repeat' first
    | with_reducible assumption
    | extract_lets
    | with_reducible apply keeps_setRegs
    | with_reducible apply keeps_setTracker
theorem keeps_execTrackerLock (t : Fin 256) (rate : Nat) (ppb : Int) (s : State) (hm : Holds P s) : OutHolds P (execTrackerLock t rate ppb s) := by
  unfold execTrackerLock
  repeat' first
    | with_reducible assumption
    | extract_lets
    | with_reducible apply keeps_trackerLocked
    | with_reducible apply keeps_next_
    | with_reducible apply keeps_iteO_
theorem keeps_execTrackerLost (t : Fin 256) (s : State) (hm : Holds P s) : OutHolds P (execTrackerLost t s) := by
  unfold execTrackerLost
  repeat' first
    | with_reducible assumption
    | extract_lets
    | with_reducible apply keeps_trackerLoss
    | with_reducible apply keeps_next_
    | with_reducible apply keeps_iteO_
theorem keeps_execTrackerInputReturn (t : Fin 256) (rate : Nat) (ppb : Int) (s : State) (hm : Holds P s) : OutHolds P (execTrackerInputReturn t rate ppb s) := by
  unfold execTrackerInputReturn
  repeat' first
    | with_reducible assumption
    | extract_lets
    | with_reducible apply keeps_setReg
    | with_reducible apply keeps_setRegs
    | with_reducible apply keeps_trackerLocked
    | with_reducible apply keeps_next_
    | with_reducible apply keeps_iteO_
theorem keeps_execTrackerResync (t : Fin 256) (s : State) (hm : Holds P s) : OutHolds P (execTrackerResync t s) := by
  unfold execTrackerResync
  repeat' first
    | with_reducible assumption
    | extract_lets
    | with_reducible apply keeps_trackerLoss
    | with_reducible apply keeps_next_
    | with_reducible apply keeps_iteO_
theorem keeps_execTrackerRecentred (t : Fin 256) (s : State) (hm : Holds P s) : OutHolds P (execTrackerRecentred t s) := by
  unfold execTrackerRecentred
  repeat' first
    | with_reducible assumption
    | extract_lets
    | with_reducible apply keeps_setReg
    | with_reducible apply keeps_next_
    | with_reducible apply keeps_iteO_
theorem keeps_stepTrackers (s : State) (hm : Holds P s) : Holds P (State.stepTrackers s) := by
  unfold State.stepTrackers
  repeat' first
    | with_reducible assumption
    | extract_lets
    | with_reducible apply keeps_setTracker
    | with_reducible apply keeps_trackerLocked
    | with_reducible apply keeps_ite_
    | (with_reducible apply keeps_overL_; intro _ _ _)
/-! Plane. -/
theorem keeps_runWork (s : State) (w : Work) (hm : Holds P s) : Holds P (State.runWork s w) := by
  unfold State.runWork
  repeat' first
    | with_reducible assumption
    | with_reducible apply keeps_runGroup
    | with_reducible apply keeps_runAreOut
    | with_reducible apply keeps_runBus
    | split
theorem keeps_advanceTo (s : State) (c : Nat) (hm : Holds P s) : Holds P (State.advanceTo s c) := by
  unfold State.advanceTo
  repeat' first
    | with_reducible assumption
    | extract_lets
    | fail_if_no_progress (with_reducible apply keeps_mk_; first | with_reducible apply keeps_fold_ | with_reducible apply keeps_memPut_ | with_reducible apply keeps_filter_)
    | with_reducible apply keeps_runWork
    | (with_reducible apply keeps_overL_; intro _ _ _)
/-! Memory. -/
theorem keeps_trellisError (s : State) (m a : Nat) (cause : Option Nat) (hm : Holds P s) : Holds P (State.trellisError s m a cause) := by
  unfold State.trellisError
  repeat' first
    | with_reducible assumption
    | extract_lets
    | with_reducible apply keeps_setReg
    | with_reducible apply keeps_bump
    | with_reducible apply keeps_logEvent
    | with_reducible apply keeps_when_
theorem keeps_trellisBeat (hc : Closed P) (s : State) (port : Nat) (rotate : Bool) (cycle : Nat) (hm : Holds P s) : Holds P (State.trellisBeat s port rotate cycle) := by
  unfold State.trellisBeat
  repeat' first
    | with_reducible assumption
    | extract_lets
    | fail_if_no_progress (with_reducible apply keeps_mk_; first | with_reducible apply keeps_fold_ | with_reducible apply keeps_memPut_ | with_reducible apply keeps_filter_)
    | with_reducible apply keeps_mapStore
    | with_reducible apply keeps_trellisError
    | dsimp +zetaDelta only
    | split
theorem keeps_trellisSlot (hc : Closed P) (s : State) (port slot c e : Nat) (hm : Holds P s) : Holds P (State.trellisSlot s port slot c e) := by
  unfold State.trellisSlot
  repeat' first
    | with_reducible assumption
    | extract_lets
    | with_reducible apply keeps_trellisBeat
    | (with_reducible apply keeps_overN_; intro _ _ _)
    | split
theorem keeps_trellisPortTo (hc : Closed P) (s : State) (port e : Nat) (hm : Holds P s) : Holds P (State.trellisPortTo s port e) := by
  unfold State.trellisPortTo
  repeat' first
    | with_reducible assumption
    | extract_lets
    | with_reducible apply keeps_trellisSlot
    | with_reducible apply keeps_ite_
    | (with_reducible apply keeps_overN_; intro _ _ _)
theorem keeps_trellisTo (hc : Closed P) (s : State) (e : Nat) (hm : Holds P s) : Holds P (State.trellisTo s e) := by
  unfold State.trellisTo
  repeat' first
    | with_reducible assumption
    | extract_lets
    | with_reducible apply keeps_trellisPortTo
    | (with_reducible apply keeps_overL_; intro _ _ _)
theorem keeps_trellisClose (hc : Closed P) (s : State) (hm : Holds P s) : Holds P (State.trellisClose s) := by
  unfold State.trellisClose
  repeat' first
    | with_reducible assumption
    | extract_lets
    | fail_if_no_progress (with_reducible apply keeps_mk_; first | with_reducible apply keeps_fold_ | with_reducible apply keeps_memPut_ | with_reducible apply keeps_filter_)
    | with_reducible apply keeps_trellisTo
theorem keeps_execTrellisResponse (hc : Closed P) (m : Fin 28) (addr : Fin 1099511627776) (data : List Byte) (cause : Option (Fin 4)) (s : State) (hm : Holds P s) : OutHolds P (execTrellisResponse m addr data cause s) := by
  unfold execTrellisResponse
  repeat' first
    | with_reducible assumption
    | extract_lets
    | fail_if_no_progress (with_reducible apply keeps_mk_; first | with_reducible apply keeps_fold_ | with_reducible apply keeps_memPut_ | with_reducible apply keeps_filter_)
    | with_reducible apply keeps_mapStore
    | with_reducible apply keeps_trellisError
    | with_reducible apply keeps_trellisPortTo
    | with_reducible apply keeps_next_
    | with_reducible apply keeps_iteO_
    | split
theorem keeps_dmaStore (hc : Closed P) (s : State) (own a start rate : Nat) (b : List Byte) (hm : Holds P s) : Holds P (State.dmaStore s own a start rate b) := by
  unfold State.dmaStore
  repeat' first
    | with_reducible assumption
    | extract_lets
    | with_reducible apply keeps_modCore
    | with_reducible apply keeps_store
theorem keeps_moveWindow (hc : Closed P) (s : State) (p : Nat) (w : DmaWin) (failed : List Nat) (hm : Holds P s) : Holds P (State.moveWindow s p w failed) := by
  unfold State.moveWindow
  repeat' first
    | with_reducible assumption
    | extract_lets
    | with_reducible apply keeps_store
    | with_reducible apply keeps_setSource
    | with_reducible apply keeps_dmaStore
    | with_reducible apply keeps_ite_
    | (with_reducible apply keeps_overL_; intro _ _ _)
theorem keeps_windowFail (s : State) (p : Nat) (w : DmaWin) (hm : Holds P s) : Holds P (State.windowFail s p w) := by
  unfold State.windowFail
  repeat' first
    | with_reducible assumption
    | extract_lets
    | with_reducible apply keeps_bump
    | with_reducible apply keeps_modTask
    | with_reducible apply keeps_countOverrun
    | with_reducible apply keeps_ite_
theorem keeps_execDmaWindowRun (hc : Closed P) (p : Fin 16) (win : Fin 256) (failed : List Nat) (parity : Bool) (s : State) (hm : Holds P s) : OutHolds P (execDmaWindowRun p win failed parity s) := by
  unfold execDmaWindowRun
  repeat' first
    | with_reducible assumption
    | extract_lets
    | fail_if_no_progress (with_reducible apply keeps_mk_; first | with_reducible apply keeps_fold_ | with_reducible apply keeps_memPut_ | with_reducible apply keeps_filter_)
    | with_reducible apply keeps_bump
    | with_reducible apply keeps_evidence
    | with_reducible apply keeps_advanceTo
    | with_reducible apply keeps_trellisTo
    | with_reducible apply keeps_moveWindow
    | with_reducible apply keeps_windowFail
    | with_reducible apply keeps_ite_
    | with_reducible apply keeps_next_
    | with_reducible apply keeps_iteO_
    | dsimp +zetaDelta only
    | split
theorem keeps_execMemScrub (corrected : List (Fin 6)) (s : State) (hm : Holds P s) : OutHolds P (execMemScrub corrected s) := by
  unfold execMemScrub
  repeat' first
    | with_reducible assumption
    | extract_lets
    | fail_if_no_progress (with_reducible apply keeps_mk_; first | with_reducible apply keeps_fold_ | with_reducible apply keeps_memPut_ | with_reducible apply keeps_filter_)
    | with_reducible apply keeps_bump
    | with_reducible apply keeps_when_
    | (with_reducible apply keeps_overL_; intro _ _ _)
    | (with_reducible apply keeps_overN_; intro _ _ _)
    | with_reducible apply keeps_next_
theorem keeps_execDramDerate (ctl : Fin 2) (multiple : Nat) (hot : Bool) (mr4 : Nat) (s : State) (hm : Holds P s) : OutHolds P (execDramDerate ctl multiple hot mr4 s) := by
  unfold execDramDerate
  repeat' first
    | with_reducible assumption
    | extract_lets
    | fail_if_no_progress (with_reducible apply keeps_mk_; first | with_reducible apply keeps_fold_ | with_reducible apply keeps_memPut_ | with_reducible apply keeps_filter_)
    | with_reducible apply keeps_setReg
    | with_reducible apply keeps_logEvent
    | with_reducible apply keeps_ite_
    | with_reducible apply keeps_next_
/-! Handoffs. -/
theorem keeps_deliver (s : State) (a : Auth) (hm : Holds P s) : Holds P (State.deliver s a) := by
  unfold State.deliver
  repeat' first
    | with_reducible assumption
    | extract_lets
    | fail_if_no_progress (with_reducible apply keeps_mk_; first | with_reducible apply keeps_fold_ | with_reducible apply keeps_memPut_ | with_reducible apply keeps_filter_)
    | with_reducible apply keeps_setSource
theorem keeps_deliverAll (s : State) (hm : Holds P s) : Holds P (State.deliverAll s) := by
  unfold State.deliverAll
  repeat' first
    | with_reducible assumption
    | extract_lets
    | fail_if_no_progress (with_reducible apply keeps_mk_; first | with_reducible apply keeps_fold_ | with_reducible apply keeps_memPut_ | with_reducible apply keeps_filter_)
    | with_reducible apply keeps_deliver
    | (with_reducible apply keeps_overL_; intro _ _ _)
theorem keeps_deliverOf (s : State) (p : Nat) (hm : Holds P s) : Holds P (State.deliverOf s p) := by
  unfold State.deliverOf
  repeat' first
    | with_reducible assumption
    | extract_lets
    | with_reducible apply keeps_deliver
    | (with_reducible apply keeps_overL_; intro _ _ _)
theorem keeps_rateFaults (s : State) (p : Nat) (was : Serving) (hm : Holds P s) : Holds P (State.rateFaults s p was) := by
  unfold State.rateFaults
  repeat' first
    | with_reducible assumption
    | extract_lets
    | with_reducible apply keeps_plotFault
    | with_reducible apply keeps_ite_
    | (with_reducible apply keeps_overL_; intro _ _ _)
    | dsimp +zetaDelta only
    | split
theorem keeps_served (s : State) (p : Nat) (was : Serving) (hm : Holds P s) : Holds P (State.served s p was) := by
  unfold State.served
  repeat' first
    | with_reducible assumption
    | extract_lets
    | with_reducible apply keeps_deliverOf
    | with_reducible apply keeps_rateFaults
/-! Routes. -/
theorem keeps_noteAt (s : State) (t owner : Nat) (r : Reg) (b : List Byte) (hm : Holds P s) : Holds P (State.noteAt s t owner r b) := by
  unfold State.noteAt
  repeat' first
    | with_reducible assumption
    | fail_if_no_progress (with_reducible apply keeps_mk_; first | with_reducible apply keeps_fold_ | with_reducible apply keeps_memPut_ | with_reducible apply keeps_filter_)
theorem keeps_dropNoted (s : State) (l : List Timed) (hm : Holds P s) : Holds P (State.dropNoted s l) := by
  unfold State.dropNoted
  repeat' first
    | with_reducible assumption
    | fail_if_no_progress (with_reducible apply keeps_mk_; first | with_reducible apply keeps_fold_ | with_reducible apply keeps_memPut_ | with_reducible apply keeps_filter_)
theorem keeps_editStatus (s : State) (p code : Nat) (hm : Holds P s) : Holds P (State.editStatus s p code) := by
  unfold State.editStatus
  repeat' first
    | with_reducible assumption
    | with_reducible apply keeps_setReg
theorem keeps_acceptBatch (s : State) (p : Nat) (batch : List Byte) (due : Nat) (hm : Holds P s) : Holds P (State.acceptBatch s p batch due) := by
  unfold State.acceptBatch
  repeat' first
    | with_reducible assumption
    | extract_lets
    | with_reducible apply keeps_setReg
    | with_reducible apply keeps_modPlot
    | with_reducible apply keeps_editStatus
    | with_reducible apply keeps_ite_
    | dsimp +zetaDelta only
    | split
theorem keeps_execRouteEdit (p : Fin 16) (batch : List Byte) (s : State) (hm : Holds P s) : OutHolds P (execRouteEdit p batch s) := by
  unfold execRouteEdit
  repeat' first
    | with_reducible assumption
    | extract_lets
    | with_reducible apply keeps_reply
    | with_reducible apply keeps_acceptBatch
    | with_reducible apply keeps_next_
theorem keeps_execRouteEditAt (p : Fin 16) (t : Nat) (lateOk : Bool) (batch : List Byte) (s : State) (hm : Holds P s) : OutHolds P (execRouteEditAt p t lateOk batch s) := by
  unfold execRouteEditAt
  repeat' first
    | with_reducible assumption
    | extract_lets
    | with_reducible apply keeps_reply
    | with_reducible apply keeps_noteAt
    | with_reducible apply keeps_acceptBatch
    | with_reducible apply keeps_ite_
    | with_reducible apply keeps_next_
    | dsimp +zetaDelta only
    | split
theorem keeps_stageDirect (s : State) (p : Nat) (hm : Holds P s) : Holds P (State.stageDirect s p) := by
  unfold State.stageDirect
  repeat' first
    | with_reducible assumption
    | extract_lets
    | fail_if_no_progress (with_reducible apply keeps_mk_; first | with_reducible apply keeps_fold_ | with_reducible apply keeps_memPut_ | with_reducible apply keeps_filter_)
    | (with_reducible apply keeps_overL_; intro _ _ _)
theorem keeps_swapTrackers (s : State) (base : Nat) (clocks : List Nat) (hm : Holds P s) : Holds P (State.swapTrackers s base clocks) := by
  unfold State.swapTrackers
  repeat' first
    | with_reducible assumption
    | extract_lets
    | with_reducible apply keeps_setReg
    | with_reducible apply keeps_setRegs
    | with_reducible apply keeps_setTracker
    | with_reducible apply keeps_ite_
    | (with_reducible apply keeps_overL_; intro _ _ _)
    | dsimp +zetaDelta only
    | split
theorem keeps_assignTrackers (s : State) (p : Nat) (hm : Holds P s) : Holds P (State.assignTrackers s p) := by
  unfold State.assignTrackers
  repeat' first
    | with_reducible assumption
    | extract_lets
    | with_reducible apply keeps_swapTrackers
theorem keeps_applyRoute (s : State) (p edit : Nat) (r : Route) (hm : Holds P s) : Holds P (State.applyRoute s p edit r).1 := by
  show FstHolds P (State.applyRoute s p edit r)
  unfold State.applyRoute
  repeat' first
    | with_reducible assumption
    | extract_lets
    | with_reducible apply keeps_fmk_
    | with_reducible apply keeps_bump
    | with_reducible apply keeps_modPlot
    | with_reducible apply keeps_startFade
    | with_reducible apply keeps_ite_
    | with_reducible apply keeps_when_
    | dsimp +zetaDelta only
    | split
theorem keeps_applyBatch (s : State) (p : Nat) (b : RouteBatch) (hm : Holds P s) : Holds P (State.applyBatch s p b) := by
  unfold State.applyBatch
  repeat' first
    | with_reducible assumption
    | extract_lets
    | with_reducible apply keeps_setReg
    | with_reducible apply keeps_logEvent
    | with_reducible apply keeps_served
    | with_reducible apply keeps_editStatus
    | with_reducible apply keeps_stageDirect
    | with_reducible apply keeps_assignTrackers
    | with_reducible apply keeps_applyRoute
    | (with_reducible apply keeps_foldlF_; intro _ _ _)
    | dsimp +zetaDelta only
    | split
theorem keeps_execRouteEditApply (p : Fin 16) (s : State) (hm : Holds P s) : OutHolds P (execRouteEditApply p s) := by
  unfold execRouteEditApply
  repeat' first
    | with_reducible assumption
    | extract_lets
    | with_reducible apply keeps_modPlot
    | with_reducible apply keeps_applyBatch
    | (with_reducible apply keeps_overL_; intro _ _ _)
    | with_reducible apply keeps_next_
theorem keeps_execRouteHeldApply (p : Fin 16) (s : State) (hm : Holds P s) : OutHolds P (execRouteHeldApply p s) := by
  unfold execRouteHeldApply
  repeat' first
    | with_reducible assumption
    | extract_lets
    | with_reducible apply keeps_modPlot
    | with_reducible apply keeps_served
    | with_reducible apply keeps_editStatus
    | with_reducible apply keeps_stageDirect
    | with_reducible apply keeps_assignTrackers
    | with_reducible apply keeps_applyRoute
    | with_reducible apply keeps_when_
    | (with_reducible apply keeps_overL_; intro _ _ _)
    | with_reducible apply keeps_next_
/-! Holdings. -/
theorem keeps_assignStatus (s : State) (p code pos : Nat) (hm : Holds P s) : Holds P (State.assignStatus s p code pos) := by
  unfold State.assignStatus
  repeat' first
    | with_reducible assumption
    | extract_lets
    | with_reducible apply keeps_setReg
theorem keeps_assign (s : State) (p : Nat) (grant : Bool) (batch : List Byte) (hm : Holds P s) : Holds P (State.assign s p grant batch) := by
  unfold State.assign
  repeat' first
    | with_reducible assumption
    | extract_lets
    | fail_if_no_progress (with_reducible apply keeps_mk_; first | with_reducible apply keeps_fold_ | with_reducible apply keeps_memPut_ | with_reducible apply keeps_filter_)
    | with_reducible apply keeps_setReg
    | with_reducible apply keeps_modPlot
    | with_reducible apply keeps_assignStatus
    | with_reducible apply keeps_ite_
    | dsimp +zetaDelta only
    | split
theorem keeps_takeBatch (s : State) (p : Nat) (grant : Bool) (batch : List Byte) (hm : Holds P s) : Holds P (State.takeBatch s p grant batch) := by
  unfold State.takeBatch
  repeat' first
    | with_reducible assumption
    | extract_lets
    | with_reducible apply keeps_setReg
    | with_reducible apply keeps_modPlot
    | with_reducible apply keeps_assignStatus
    | with_reducible apply keeps_assign
    | with_reducible apply keeps_ite_
theorem keeps_assignWaiting (s : State) (p : Nat) (hm : Holds P s) : Holds P (State.assignWaiting s p) := by
  unfold State.assignWaiting
  repeat' first
    | with_reducible assumption
    | extract_lets
    | with_reducible apply keeps_modPlot
    | with_reducible apply keeps_assign
    | (with_reducible apply keeps_overL_; intro _ _ _)
theorem keeps_clearOver (s : State) (p : Nat) (hm : Holds P s) : Holds P (State.clearOver s p) := by
  unfold State.clearOver
  repeat' first
    | with_reducible assumption
    | extract_lets
    | with_reducible apply keeps_setReg
/-! LastControl. -/
theorem keeps_dropImage (s : State) (p code : Nat) (hm : Holds P s) : Holds P (State.dropImage s p code) := by
  unfold State.dropImage
  repeat' first
    | with_reducible assumption
    | extract_lets
    | with_reducible apply keeps_setRegs
    | with_reducible apply keeps_modPlot
theorem keeps_execLastStage (p : Fin 16) (owner : Bool) (image : List Byte) (s : State) (hm : Holds P s) : OutHolds P (execLastStage p owner image s) := by
  unfold execLastStage
  repeat' first
    | with_reducible assumption
    | extract_lets
    | with_reducible apply keeps_setReg
    | with_reducible apply keeps_modPlot
    | with_reducible apply keeps_reply
    | with_reducible apply keeps_next_
    | with_reducible apply keeps_iteO_
theorem keeps_execLastInstall (p : Fin 16) (t : Nat) (s : State) (hm : Holds P s) : OutHolds P (execLastInstall p t s) := by
  unfold execLastInstall
  repeat' first
    | with_reducible assumption
    | extract_lets
    | with_reducible apply keeps_setReg
    | with_reducible apply keeps_modPlot
    | with_reducible apply keeps_reply
    | with_reducible apply keeps_next_
    | with_reducible apply keeps_iteO_
theorem keeps_execLastChecksComplete (p : Fin 16) (s : State) (hm : Holds P s) : OutHolds P (execLastChecksComplete p s) := by
  unfold execLastChecksComplete
  repeat' first
    | with_reducible assumption
    | extract_lets
    | with_reducible apply keeps_setReg
    | with_reducible apply keeps_setRegs
    | with_reducible apply keeps_modPlot
    | with_reducible apply keeps_logEvent
    | with_reducible apply keeps_assignWaiting
    | with_reducible apply keeps_dropImage
    | with_reducible apply keeps_next_
    | dsimp +zetaDelta only
    | split
theorem keeps_execLastCancel (p : Fin 16) (s : State) (hm : Holds P s) : OutHolds P (execLastCancel p s) := by
  unfold execLastCancel
  repeat' first
    | with_reducible assumption
    | extract_lets
    | with_reducible apply keeps_setRegs
    | with_reducible apply keeps_reply
    | with_reducible apply keeps_assignWaiting
    | with_reducible apply keeps_dropImage
    | with_reducible apply keeps_next_
    | with_reducible apply keeps_iteO_
theorem keeps_passLimits (s : State) (hm : Holds P s) : Holds P (State.passLimits s) := by
  unfold State.passLimits
  repeat' first
    | with_reducible assumption
    | extract_lets
    | with_reducible apply keeps_modPlot
    | with_reducible apply keeps_ite_
    | (with_reducible apply keeps_overN_; intro _ _ _)
theorem keeps_putCoefs (s : State) (bank off : Nat) (cs : List Int) (hm : Holds P s) : Holds P (State.putCoefs s bank off cs) := by
  unfold State.putCoefs
  repeat' first
    | with_reducible assumption
    | extract_lets
    | fail_if_no_progress (with_reducible apply keeps_mk_; first | with_reducible apply keeps_fold_ | with_reducible apply keeps_memPut_ | with_reducible apply keeps_filter_)
    | with_reducible apply keeps_touch
theorem keeps_writeRegions (s : State) (old : Option Last) (new : Last) (hm : Holds P s) : Holds P (State.writeRegions s old new) := by
  unfold State.writeRegions
  repeat' first
    | with_reducible assumption
    | extract_lets
    | fail_if_no_progress (with_reducible apply keeps_mk_; first | with_reducible apply keeps_fold_ | with_reducible apply keeps_memPut_ | with_reducible apply keeps_filter_)
    | with_reducible apply keeps_putCoefs
    | (with_reducible apply keeps_overL_; intro _ _ _)
    | (with_reducible apply keeps_overN_; intro _ _ _)
    | split
theorem keeps_writeAhead (hc : Closed P) (s : State) (restoring : Bool) (old : Option Last) (new : Last) (hm : Holds P s) : Holds P (State.writeAhead s restoring old new) := by
  unfold State.writeAhead
  repeat' first
    | with_reducible assumption
    | extract_lets
    | fail_if_no_progress (with_reducible apply keeps_mk_; first | with_reducible apply keeps_fold_ | with_reducible apply keeps_memPut_ | with_reducible apply keeps_filter_)
    | with_reducible apply keeps_store
    | with_reducible apply keeps_putFcuWords
    | with_reducible apply keeps_writeRegions
    | with_reducible apply keeps_when_
    | (with_reducible apply keeps_overL_; intro _ _ _)
theorem keeps_commit (hc : Closed P) (s : State) (p : Nat) (hm : Holds P s) : Holds P (State.commit s p) := by
  unfold State.commit
  repeat' first
    | with_reducible assumption
    | extract_lets
    | with_reducible apply keeps_setReg
    | with_reducible apply keeps_writeAhead
    | split
theorem keeps_execShadowCommit (hc : Closed P) (p : Fin 16) (s : State) (hm : Holds P s) : OutHolds P (execShadowCommit p s) := by
  unfold execShadowCommit
  repeat' first
    | with_reducible assumption
    | extract_lets
    | with_reducible apply keeps_commit
    | with_reducible apply keeps_next_
    | with_reducible apply keeps_iteO_
theorem keeps_execPairSwapTimeout (hc : Closed P) (p : Fin 16) (s : State) (hm : Holds P s) : OutHolds P (execPairSwapTimeout p s) := by
  unfold execPairSwapTimeout
  repeat' first
    | with_reducible assumption
    | extract_lets
    | with_reducible apply keeps_setReg
    | with_reducible apply keeps_dropImage
    | with_reducible apply keeps_commit
    | with_reducible apply keeps_ite_
    | with_reducible apply keeps_next_
    | with_reducible apply keeps_iteO_
theorem keeps_swapMix (s : State) (p : Nat) (old : Option Last) (new : Last) (hm : Holds P s) : Holds P (State.swapMix s p old new) := by
  unfold State.swapMix
  repeat' first
    | with_reducible assumption
    | extract_lets
    | with_reducible apply keeps_setRegs
    | with_reducible apply keeps_setBus
    | with_reducible apply keeps_setXp
    | (with_reducible apply keeps_overL_; intro _ _ _)
    | dsimp +zetaDelta only
    | split
theorem keeps_cancelGroup (s : State) (k : Nat) (hm : Holds P s) : Holds P (State.cancelGroup s k) := by
  unfold State.cancelGroup
  repeat' first
    | with_reducible assumption
    | extract_lets
    | with_reducible apply keeps_setReg
theorem keeps_swapFcu (s : State) (p : Nat) (old : Option Last) (new : Last) (hm : Holds P s) : Holds P (State.swapFcu s p old new) := by
  unfold State.swapFcu
  repeat' first
    | with_reducible assumption
    | extract_lets
    | with_reducible apply keeps_setRegs
    | with_reducible apply keeps_setGrp
    | with_reducible apply keeps_putState
    | with_reducible apply keeps_zeroGroupState
    | with_reducible apply keeps_cancelGroup
    | with_reducible apply keeps_ite_
    | (with_reducible apply keeps_overL_; intro _ _ _)
    | dsimp +zetaDelta only
    | split
theorem keeps_swapAre (s : State) (p : Nat) (old : Option Last) (new : Last) (hm : Holds P s) : Holds P (State.swapAre s p old new) := by
  unfold State.swapAre
  repeat' first
    | with_reducible assumption
    | extract_lets
    | with_reducible apply keeps_setReg
    | with_reducible apply keeps_modPlot
    | with_reducible apply keeps_modXp
    | with_reducible apply keeps_putSet
    | with_reducible apply keeps_areStatus
    | with_reducible apply keeps_ite_
    | with_reducible apply keeps_when_
    | (with_reducible apply keeps_overL_; intro _ _ _)
    | (with_reducible apply keeps_overN_; intro _ _ _)
    | dsimp +zetaDelta only
    | split
theorem keeps_swapSinks (s : State) (p : Nat) (old : Option Last) (eff : List Route) (new : Last) (hm : Holds P s) : Holds P (State.swapSinks s p old eff new) := by
  unfold State.swapSinks
  repeat' first
    | with_reducible assumption
    | extract_lets
    | fail_if_no_progress (with_reducible apply keeps_mk_; first | with_reducible apply keeps_fold_ | with_reducible apply keeps_memPut_ | with_reducible apply keeps_filter_)
    | with_reducible apply keeps_setSink
    | with_reducible apply keeps_startFade
    | with_reducible apply keeps_startUp
    | with_reducible apply keeps_ite_
    | (with_reducible apply keeps_overL_; intro _ _ _)
    | dsimp +zetaDelta only
    | split
theorem keeps_keepBanks (s s0 : State) (new : Last) (hm : Holds P s) : Holds P (State.keepBanks s s0 new) := by
  unfold State.keepBanks
  repeat' first
    | with_reducible assumption
    | extract_lets
    | with_reducible apply keeps_setReg
    | with_reducible apply keeps_setGrp
    | with_reducible apply keeps_modXp
    | (with_reducible apply keeps_overL_; intro _ _ _)
theorem keeps_swap (s : State) (p : Nat) (new : Last) (hm : Holds P s) : Holds P (State.swap s p new) := by
  unfold State.swap
  repeat' first
    | with_reducible assumption
    | extract_lets
    | fail_if_no_progress (with_reducible apply keeps_mk_; first | with_reducible apply keeps_fold_ | with_reducible apply keeps_memPut_ | with_reducible apply keeps_filter_)
    | with_reducible apply keeps_setReg
    | with_reducible apply keeps_setRegs
    | with_reducible apply keeps_modPlot
    | with_reducible apply keeps_remakeGens
    | with_reducible apply keeps_served
    | with_reducible apply keeps_stageDirect
    | with_reducible apply keeps_assignTrackers
    | with_reducible apply keeps_swapMix
    | with_reducible apply keeps_swapFcu
    | with_reducible apply keeps_swapAre
    | with_reducible apply keeps_swapSinks
    | with_reducible apply keeps_keepBanks
    | with_reducible apply keeps_when_
theorem keeps_swapDue (s : State) (p : Nat) (hm : Holds P s) : Holds P (State.swapDue s p).1 := by
  show FstHolds P (State.swapDue s p)
  unfold State.swapDue
  repeat' first
    | with_reducible assumption
    | extract_lets
    | with_reducible apply keeps_fmk_
    | with_reducible apply keeps_dropImage
    | with_reducible apply keeps_swap
    | dsimp +zetaDelta only
    | split
end Sys2Proof.Machine
end

