-- ==== Sys2Proof/Laws/KeepsNet.lean ====
section
/-!
SUPPORT. What time, converters, queues, ports, streams and the bridge keep: one lemma per operation.
-/
set_option linter.all false
namespace Sys2Proof.Machine
variable {P : NTable Byte → List Instr → Nat → Prop}
/-! Time. -/
theorem keeps_execTimeIncr (v : Fin 18446744073709551616) (s : State) (hm : Holds P s) : OutHolds P (execTimeIncr v s) := by
  unfold execTimeIncr
  repeat' first
    | with_reducible assumption
    | extract_lets
    | with_reducible apply keeps_reply
    | with_reducible apply keeps_nextWrite
    | with_reducible apply keeps_next_
    | with_reducible apply keeps_iteO_
theorem keeps_execTimeAdj (a : Int) (s : State) (hm : Holds P s) : OutHolds P (execTimeAdj a s) := by
  unfold execTimeAdj
  repeat' first
    | with_reducible assumption
    | extract_lets
    | with_reducible apply keeps_reply
    | with_reducible apply keeps_nextWrite
    | with_reducible apply keeps_next_
    | with_reducible apply keeps_iteO_
theorem keeps_execTimeStep (d : Int) (s : State) (hm : Holds P s) : OutHolds P (execTimeStep d s) := by
  unfold execTimeStep
  repeat' first
    | with_reducible assumption
    | extract_lets
    | with_reducible apply keeps_reply
    | with_reducible apply keeps_modClk
    | with_reducible apply keeps_next_
    | with_reducible apply keeps_iteO_
theorem keeps_execTimeSet (sec : Fin 281474976710656) (ns : Nat) (s : State) (hm : Holds P s) : OutHolds P (execTimeSet sec ns s) := by
  unfold execTimeSet
  repeat' first
    | with_reducible assumption
    | extract_lets
    | with_reducible apply keeps_reply
    | with_reducible apply keeps_modClk
    | with_reducible apply keeps_next_
    | with_reducible apply keeps_iteO_
theorem keeps_modTev (s : State) (n : Nat) (f : TevSt → TevSt) (hm : Holds P s) : Holds P (State.modTev s n f) := by
  unfold State.modTev
  repeat' first
    | with_reducible assumption
    | fail_if_no_progress (with_reducible apply keeps_mk_; first | with_reducible apply keeps_fold_ | with_reducible apply keeps_memPut_ | with_reducible apply keeps_filter_)
theorem keeps_tevLog (s : State) (n : Nat) (a : TevAct) (code : Nat) (hm : Holds P s) : Holds P (State.tevLog s n a code) := by
  unfold State.tevLog
  repeat' first
    | with_reducible assumption
    | extract_lets
    | with_reducible apply keeps_modTev
theorem keeps_tevOpen (s : State) (n : Nat) (t : Nat) (on : Bool) (hm : Holds P s) : Holds P (State.tevOpen s n t on) := by
  unfold State.tevOpen
  repeat' first
    | with_reducible assumption
    | extract_lets
    | with_reducible apply keeps_setReg
    | with_reducible apply keeps_modTev
theorem keeps_tevAct (s : State) (n : Nat) (passed : Bool) (a : TevAct) (hm : Holds P s) : Holds P (State.tevAct s n passed a) := by
  unfold State.tevAct
  repeat' first
    | with_reducible assumption
    | extract_lets
    | with_reducible apply keeps_notifyPlot
    | with_reducible apply keeps_tevLog
    | with_reducible apply keeps_tevOpen
    | with_reducible apply keeps_ite_
    | with_reducible apply keeps_when_
    | dsimp +zetaDelta only
    | split
theorem keeps_tevStep (s : State) (n : Nat) (passed : Bool) (hm : Holds P s) : Holds P (State.tevStep s n passed) := by
  unfold State.tevStep
  repeat' first
    | with_reducible assumption
    | extract_lets
    | with_reducible apply keeps_modTev
    | with_reducible apply keeps_tevLog
    | with_reducible apply keeps_tevAct
    | with_reducible apply keeps_when_
    | (with_reducible apply keeps_overL_; intro _ _ _)
    | dsimp +zetaDelta only
    | split
theorem keeps_sendEdge (s : State) (n start e : Nat) (drive : Bool) (hm : Holds P s) : Holds P (State.sendEdge s n start e drive) := by
  unfold State.sendEdge
  repeat' first
    | with_reducible assumption
    | extract_lets
    | with_reducible apply keeps_modTev
    | with_reducible apply keeps_tevOpen
    | with_reducible apply keeps_ite_
theorem keeps_passEdges (s : State) (n : Nat) (hm : Holds P s) : Holds P (State.passEdges s n) := by
  unfold State.passEdges
  repeat' first
    | with_reducible assumption
    | extract_lets
    | with_reducible apply keeps_modTev
    | with_reducible apply keeps_tevOpen
    | with_reducible apply keeps_ite_
    | dsimp +zetaDelta only
    | split
theorem keeps_tevPass (k n : Nat) (s : State) (hm : Holds P s) : Holds P (tevPass k n s) := by
  induction k generalizing s with
  | zero => exact hm
  | succ k ih =>
    unfold tevPass
    split
    · exact ih _ (keeps_tevStep _ _ _ hm)
    · exact hm
theorem keeps_tevJump (s : State) (hm : Holds P s) : Holds P (State.tevJump s) := by
  unfold State.tevJump
  repeat' first
    | with_reducible assumption
    | extract_lets
    | with_reducible apply keeps_passEdges
    | with_reducible apply keeps_tevPass
    | (with_reducible apply keeps_overN_; intro _ _ _)
theorem keeps_tevBoundary (s : State) (hm : Holds P s) : Holds P (State.tevBoundary s) := by
  unfold State.tevBoundary
  repeat' first
    | with_reducible assumption
    | extract_lets
    | with_reducible apply keeps_setReg
    | with_reducible apply keeps_setRegs
    | with_reducible apply keeps_modTev
    | with_reducible apply keeps_ite_
    | with_reducible apply keeps_when_
    | (with_reducible apply keeps_overN_; intro _ _ _)
    | dsimp +zetaDelta only
    | split
theorem keeps_shiftTicks (s : State) (d : Int) (hm : Holds P s) : Holds P (State.shiftTicks s d) := by
  unfold State.shiftTicks
  repeat' first
    | with_reducible assumption
    | extract_lets
    | fail_if_no_progress (with_reducible apply keeps_mk_; first | with_reducible apply keeps_fold_ | with_reducible apply keeps_memPut_ | with_reducible apply keeps_filter_)
theorem keeps_afterJump (s : State) (d : Int) (hm : Holds P s) : Holds P (State.afterJump s d) := by
  unfold State.afterJump
  repeat' first
    | with_reducible assumption
    | extract_lets
    | with_reducible apply keeps_dropImage
    | with_reducible apply keeps_passLimits
    | with_reducible apply keeps_tevJump
    | with_reducible apply keeps_shiftTicks
    | with_reducible apply keeps_ite_
    | (with_reducible apply keeps_overN_; intro _ _ _)
theorem keeps_stepCounter (ht : AnyTick P) (s : State) (d : Int) (hm : Holds P s) : Holds P (State.stepCounter s d) := by
  unfold State.stepCounter
  repeat' first
    | with_reducible assumption
    | extract_lets
    | fail_if_no_progress (with_reducible apply keeps_mk_; first | with_reducible apply keeps_fold_ | with_reducible apply keeps_memPut_ | with_reducible apply keeps_filter_ | (with_reducible apply keeps_tick_; with_reducible exact ht; with_reducible apply keeps_fold_))
    | with_reducible apply keeps_setReg
    | with_reducible apply keeps_bump
    | with_reducible apply keeps_logEvent
    | with_reducible apply keeps_afterJump
theorem keeps_setCounter (ht : AnyTick P) (s : State) (ns : Nat) (hm : Holds P s) : Holds P (State.setCounter s ns) := by
  unfold State.setCounter
  repeat' first
    | with_reducible assumption
    | extract_lets
    | fail_if_no_progress (with_reducible apply keeps_mk_; first | with_reducible apply keeps_fold_ | with_reducible apply keeps_memPut_ | with_reducible apply keeps_filter_ | (with_reducible apply keeps_tick_; with_reducible exact ht; with_reducible apply keeps_fold_))
    | with_reducible apply keeps_modClk
    | with_reducible apply keeps_afterJump
theorem keeps_execCounterChangeApply (ht : AnyTick P) (s : State) (hm : Holds P s) : OutHolds P (execCounterChangeApply s) := by
  unfold execCounterChangeApply
  repeat' first
    | with_reducible assumption
    | extract_lets
    | with_reducible apply keeps_modClk
    | with_reducible apply keeps_stepCounter
    | with_reducible apply keeps_setCounter
    | (with_reducible apply keeps_overL_; intro _ _ _)
    | with_reducible apply keeps_next_
theorem keeps_execPtpRole (v : Nat) (s : State) (hm : Holds P s) : OutHolds P (execPtpRole v s) := by
  unfold execPtpRole
  repeat' first
    | with_reducible assumption
    | extract_lets
    | with_reducible apply keeps_reply
    | with_reducible apply keeps_nextWrite
    | with_reducible apply keeps_next_
    | with_reducible apply keeps_iteO_
theorem keeps_execPtpProfile (v : Nat) (s : State) (hm : Holds P s) : OutHolds P (execPtpProfile v s) := by
  unfold execPtpProfile
  repeat' first
    | with_reducible assumption
    | extract_lets
    | with_reducible apply keeps_reply
    | with_reducible apply keeps_nextWrite
    | with_reducible apply keeps_next_
    | with_reducible apply keeps_iteO_
theorem keeps_ptpGrade (s : State) (hm : Holds P s) : Holds P (State.ptpGrade s) := by
  unfold State.ptpGrade
  repeat' first
    | with_reducible assumption
    | extract_lets
    | with_reducible apply keeps_refFaults
    | with_reducible apply keeps_refEnds
    | with_reducible apply keeps_carryGrade
    | with_reducible apply keeps_ite_
theorem keeps_ptpStates (s : State) (hm : Holds P s) : Holds P (State.ptpStates s) := by
  unfold State.ptpStates
  repeat' first
    | with_reducible assumption
    | extract_lets
    | with_reducible apply keeps_setReg
    | (with_reducible apply keeps_overN_; intro _ _ _)
theorem keeps_setParent (s : State) (f : Option Foreign) (hm : Holds P s) : Holds P (State.setParent s f) := by
  unfold State.setParent
  repeat' first
    | with_reducible assumption
    | extract_lets
    | with_reducible apply keeps_setReg
    | with_reducible apply keeps_setRegs
    | with_reducible apply keeps_modClk
    | with_reducible apply keeps_refreshGrade
    | with_reducible apply keeps_ptpGrade
    | with_reducible apply keeps_ptpStates
    | with_reducible apply keeps_ite_
    | dsimp +zetaDelta only
    | split
theorem keeps_servoStep (s : State) (d : Int) (hm : Holds P s) : Holds P (State.servoStep s d) := by
  unfold State.servoStep
  repeat' first
    | with_reducible assumption
    | extract_lets
    | with_reducible apply keeps_sendMgmt
    | with_reducible apply keeps_modClk
    | with_reducible apply keeps_when_
theorem keeps_servoSample (s : State) (off rate : Int) (hm : Holds P s) : Holds P (State.servoSample s off rate) := by
  unfold State.servoSample
  repeat' first
    | with_reducible assumption
    | extract_lets
    | with_reducible apply keeps_setReg
    | with_reducible apply keeps_setRegs
    | with_reducible apply keeps_modClk
    | with_reducible apply keeps_servoStep
    | with_reducible apply keeps_ite_
theorem keeps_execPtpMessageRx (n : Fin 25) (m : PtpMsg) (s : State) (hm : Holds P s) : OutHolds P (execPtpMessageRx n m s) := by
  unfold execPtpMessageRx
  repeat' first
    | with_reducible assumption
    | extract_lets
    | with_reducible apply keeps_setRegs
    | with_reducible apply keeps_modClk
    | with_reducible apply keeps_setParent
    | with_reducible apply keeps_servoSample
    | with_reducible apply keeps_next_
    | with_reducible apply keeps_iteO_
    | dsimp +zetaDelta only
    | split
theorem keeps_execServoLock (s : State) (hm : Holds P s) : OutHolds P (execServoLock s) := by
  unfold execServoLock
  repeat' first
    | with_reducible assumption
    | extract_lets
    | with_reducible apply keeps_setReg
    | with_reducible apply keeps_refreshGrade
    | with_reducible apply keeps_ptpGrade
    | with_reducible apply keeps_ptpStates
    | with_reducible apply keeps_next_
    | with_reducible apply keeps_iteO_
theorem keeps_execServoUnlock (s : State) (hm : Holds P s) : OutHolds P (execServoUnlock s) := by
  unfold execServoUnlock
  repeat' first
    | with_reducible assumption
    | extract_lets
    | with_reducible apply keeps_setReg
    | with_reducible apply keeps_modClk
    | with_reducible apply keeps_refreshGrade
    | with_reducible apply keeps_ptpGrade
    | with_reducible apply keeps_ptpStates
    | with_reducible apply keeps_next_
    | with_reducible apply keeps_iteO_
theorem keeps_execAnnounceTimeout (s : State) (hm : Holds P s) : OutHolds P (execAnnounceTimeout s) := by
  unfold execAnnounceTimeout
  repeat' first
    | with_reducible assumption
    | extract_lets
    | with_reducible apply keeps_modClk
    | with_reducible apply keeps_setParent
    | with_reducible apply keeps_next_
    | dsimp +zetaDelta only
    | split
theorem keeps_execPtpMessageTx (n : Fin 25) (ty : Fin 16) (s : State) (hm : Holds P s) : OutHolds P (execPtpMessageTx n ty s) := by
  unfold execPtpMessageTx
  repeat' first
    | with_reducible assumption
    | extract_lets
    | fail_if_no_progress (with_reducible apply keeps_mk_; first | with_reducible apply keeps_fold_ | with_reducible apply keeps_memPut_ | with_reducible apply keeps_filter_)
    | with_reducible apply keeps_modClk
    | with_reducible apply keeps_next_
    | with_reducible apply keeps_iteO_
theorem keeps_tsPush (s : State) (ns port msg seq domain : Nat) (hm : Holds P s) : Holds P (State.tsPush s ns port msg seq domain) := by
  unfold State.tsPush
  repeat' first
    | with_reducible assumption
    | extract_lets
    | with_reducible apply keeps_setReg
    | with_reducible apply keeps_bump
    | with_reducible apply keeps_modClk
    | with_reducible apply keeps_ite_
theorem keeps_execTsFifoRead (s : State) (hm : Holds P s) : OutHolds P (execTsFifoRead s) := by
  unfold execTsFifoRead
  repeat' first
    | with_reducible assumption
    | extract_lets
    | fail_if_no_progress (with_reducible apply keeps_mk_; first | with_reducible apply keeps_fold_ | with_reducible apply keeps_memPut_ | with_reducible apply keeps_filter_)
    | with_reducible apply keeps_setReg
    | with_reducible apply keeps_modClk
    | with_reducible apply keeps_next_
theorem keeps_execTevMode (p : Fin 16) (n : Fin 24) (mode : Nat) (s : State) (hm : Holds P s) : OutHolds P (execTevMode p n mode s) := by
  unfold execTevMode
  repeat' first
    | with_reducible assumption
    | extract_lets
    | with_reducible apply keeps_reply
    | with_reducible apply keeps_modTev
    | with_reducible apply keeps_next_
    | with_reducible apply keeps_iteO_
theorem keeps_capture (s : State) (n : Nat) (falling : Bool) (stamp : Nat) (hm : Holds P s) : Holds P (State.capture s n falling stamp) := by
  unfold State.capture
  repeat' first
    | with_reducible assumption
    | extract_lets
    | with_reducible apply keeps_setReg
    | with_reducible apply keeps_bump
    | with_reducible apply keeps_stageEntry
    | with_reducible apply keeps_modTev
    | with_reducible apply keeps_ite_
theorem keeps_forwardInput (s : State) (item : Nat) (x : Lfwd) (hm : Holds P s) : Holds P (State.forwardInput s item x) := by
  unfold State.forwardInput
  repeat' first
    | with_reducible assumption
    | extract_lets
    | with_reducible apply keeps_sendCell
    | with_reducible apply keeps_when_
theorem keeps_execTevCapture (n : Fin 24) (falling : Bool) (ns : Nat) (s : State) (hm : Holds P s) : OutHolds P (execTevCapture n falling ns s) := by
  unfold execTevCapture
  repeat' first
    | with_reducible assumption
    | extract_lets
    | with_reducible apply keeps_freeWord
    | with_reducible apply keeps_modTev
    | with_reducible apply keeps_capture
    | with_reducible apply keeps_forwardInput
    | with_reducible apply keeps_next_
    | with_reducible apply keeps_iteO_
    | dsimp +zetaDelta only
    | split
theorem keeps_execTevCapRead (n : Fin 24) (s : State) (hm : Holds P s) : OutHolds P (execTevCapRead n s) := by
  unfold execTevCapRead
  repeat' first
    | with_reducible assumption
    | extract_lets
    | fail_if_no_progress (with_reducible apply keeps_mk_; first | with_reducible apply keeps_fold_ | with_reducible apply keeps_memPut_ | with_reducible apply keeps_filter_)
    | with_reducible apply keeps_setReg
    | with_reducible apply keeps_modTev
    | with_reducible apply keeps_next_
theorem keeps_execTevAction (p : Fin 16) (n : Fin 24) (batch : List Byte) (s : State) (hm : Holds P s) : OutHolds P (execTevAction p n batch s) := by
  unfold execTevAction
  repeat' first
    | with_reducible assumption
    | extract_lets
    | with_reducible apply keeps_setReg
    | with_reducible apply keeps_reply
    | with_reducible apply keeps_modTev
    | with_reducible apply keeps_ite_
    | with_reducible apply keeps_next_
    | with_reducible apply keeps_iteO_
theorem keeps_execCancel (p : Fin 16) (n : Fin 24) (s : State) (hm : Holds P s) : OutHolds P (execCancel p n s) := by
  unfold execCancel
  repeat' first
    | with_reducible assumption
    | extract_lets
    | with_reducible apply keeps_setReg
    | with_reducible apply keeps_reply
    | with_reducible apply keeps_modTev
    | with_reducible apply keeps_next_
    | with_reducible apply keeps_iteO_
theorem keeps_execTevActionDue (n : Fin 24) (s : State) (hm : Holds P s) : OutHolds P (execTevActionDue n s) := by
  unfold execTevActionDue
  repeat' first
    | with_reducible assumption
    | extract_lets
    | with_reducible apply keeps_tevStep
    | with_reducible apply keeps_next_
    | with_reducible apply keeps_iteO_
theorem keeps_execTevPulseEdge (n : Fin 24) (s : State) (hm : Holds P s) : OutHolds P (execTevPulseEdge n s) := by
  unfold execTevPulseEdge
  repeat' first
    | with_reducible assumption
    | extract_lets
    | with_reducible apply keeps_sendEdge
    | with_reducible apply keeps_next_
    | with_reducible apply keeps_iteO_
    | split
/-! Converters. -/
theorem keeps_carry (s : State) (x : SigId) (at_ : Nat) (v : Int) (hm : Holds P s) : Holds P (State.carry s x at_ v) := by
  unfold State.carry
  repeat' first
    | with_reducible assumption
    | fail_if_no_progress (with_reducible apply keeps_mk_; first | with_reducible apply keeps_fold_ | with_reducible apply keeps_memPut_ | with_reducible apply keeps_filter_)
theorem keeps_sinkMoved (s : State) (x : SigId) (n : Nat) (hm : Holds P s) : Holds P (State.sinkMoved s x n) := by
  unfold State.sinkMoved
  repeat' first
    | with_reducible assumption
    | extract_lets
    | with_reducible apply keeps_setSink
    | with_reducible apply keeps_ite_
theorem keeps_bridgePut (s : State) (c : Nat) (xs : List (Nat × Int)) (hm : Holds P s) : Holds P (State.bridgePut s c xs) := by
  unfold State.bridgePut
  repeat' first
    | with_reducible assumption
    | extract_lets
    | fail_if_no_progress (with_reducible apply keeps_mk_; first | with_reducible apply keeps_fold_ | with_reducible apply keeps_memPut_ | with_reducible apply keeps_filter_)
theorem keeps_feedInto (s : State) (hm : Holds P s) : Holds P (State.feedInto s) := by
  unfold State.feedInto
  repeat' first
    | with_reducible assumption
    | extract_lets
    | with_reducible apply keeps_sinkMoved
    | with_reducible apply keeps_bridgePut
    | (with_reducible apply keeps_overL_; intro _ _ _)
    | dsimp +zetaDelta only
    | split
theorem keeps_feedOut (s : State) (hm : Holds P s) : Holds P (State.feedOut s) := by
  unfold State.feedOut
  repeat' first
    | with_reducible assumption
    | extract_lets
    | with_reducible apply keeps_bridgePut
    | (with_reducible apply keeps_overL_; intro _ _ _)
theorem keeps_restamp (s : State) (hm : Holds P s) : Holds P (State.restamp s) := by
  unfold State.restamp
  repeat' first
    | with_reducible assumption
    | extract_lets
    | fail_if_no_progress (with_reducible apply keeps_mk_; first | with_reducible apply keeps_fold_ | with_reducible apply keeps_memPut_ | with_reducible apply keeps_filter_)
    | with_reducible apply keeps_ite_
    | (with_reducible apply keeps_overL_; intro _ _ _)
    | split
theorem keeps_openInto (s : State) (hm : Holds P s) : Holds P (State.openInto s) := by
  unfold State.openInto
  repeat' first
    | with_reducible assumption
    | extract_lets
    | with_reducible apply keeps_setSource
    | (with_reducible apply keeps_overL_; intro _ _ _)
    | dsimp +zetaDelta only
    | split
theorem keeps_takeFar (s : State) (x : SigId) (hz i n : Nat) (ats : List Nat) (hm : Holds P s) : Holds P (State.takeFar s x hz i n ats).1 := by
  show FstHolds P (State.takeFar s x hz i n ats)
  unfold State.takeFar
  repeat' first
    | with_reducible assumption
    | extract_lets
    | with_reducible apply keeps_fmk_
    | with_reducible apply keeps_carry
    | with_reducible apply keeps_sinkMoved
    | (with_reducible apply keeps_overL_; intro _ _ _)
    | dsimp +zetaDelta only
    | split
/-! Queues. -/
theorem keeps_modNet (s : State) (f : NetSt → NetSt) (hm : Holds P s) : Holds P (State.modNet s f) := by
  unfold State.modNet
  repeat' first
    | with_reducible assumption
    | fail_if_no_progress (with_reducible apply keeps_mk_; first | with_reducible apply keeps_fold_ | with_reducible apply keeps_memPut_ | with_reducible apply keeps_filter_)
theorem keeps_modPort (s : State) (n : Nat) (f : PortSt → PortSt) (hm : Holds P s) : Holds P (State.modPort s n f) := by
  unfold State.modPort
  repeat' first
    | with_reducible assumption
    | with_reducible apply keeps_modNet
theorem keeps_legDrop (s : State) (f : QFrame) (hm : Holds P s) : Holds P (State.legDrop s f) := by
  unfold State.legDrop
  repeat' first
    | with_reducible assumption
    | with_reducible apply keeps_setBlob
    | dsimp +zetaDelta only
    | split
theorem keeps_dropFrame (s : State) (n : Nat) (r : Reg) (f : QFrame) (hm : Holds P s) : Holds P (State.dropFrame s n r f) := by
  unfold State.dropFrame
  repeat' first
    | with_reducible assumption
    | extract_lets
    | with_reducible apply keeps_bump
    | with_reducible apply keeps_legDrop
theorem keeps_enqueue (s : State) (n : Nat) (f : QFrame) (hm : Holds P s) : Holds P (State.enqueue s n f) := by
  unfold State.enqueue
  repeat' first
    | with_reducible assumption
    | extract_lets
    | with_reducible apply keeps_modPort
    | with_reducible apply keeps_dropFrame
    | with_reducible apply keeps_ite_
theorem keeps_correct (s : State) (n : Nat) (f : QFrame) (now : Nat) (hm : Holds P s) : Holds P (State.correct s n f now).1 := by
  show FstHolds P (State.correct s n f now)
  unfold State.correct
  repeat' first
    | with_reducible assumption
    | extract_lets
    | with_reducible apply keeps_fmk_
    | with_reducible apply keeps_bump
    | with_reducible apply keeps_modClk
    | dsimp +zetaDelta only
    | split
theorem keeps_sendFrame (s : State) (n : Nat) (f : QFrame) (now : Nat) (hm : Holds P s) : Holds P (State.sendFrame s n f now) := by
  unfold State.sendFrame
  repeat' first
    | with_reducible assumption
    | extract_lets
    | with_reducible apply keeps_setReg
    | with_reducible apply keeps_bump
    | with_reducible apply keeps_setRegs
    | with_reducible apply keeps_tsPush
    | with_reducible apply keeps_modPort
    | with_reducible apply keeps_correct
    | with_reducible apply keeps_when_
    | dsimp +zetaDelta only
    | split
theorem keeps_pumpFuel (k : Nat) (s : State) (n now : Nat) (hm : Holds P s) : Holds P (pumpFuel k s n now) := by
  induction k generalizing s with
  | zero => exact hm
  | succ k ih =>
    unfold pumpFuel
    extract_lets
    split
    · exact hm
    · extract_lets
      split
      · exact hm
      · split
        · exact ih _ (keeps_sendFrame _ _ _ _ hm)
        · split
          · exact ih _ (keeps_sendFrame _ _ _ _ hm)
          · exact hm
theorem keeps_pump (s : State) (n now : Nat) (hm : Holds P s) : Holds P (State.pump s n now) := by
  unfold State.pump
  repeat' first
    | with_reducible assumption
    | with_reducible apply keeps_pumpFuel
theorem keeps_execLaunch (n : Fin 24) (now : Nat) (s : State) (hm : Holds P s) : OutHolds P (execLaunch n now s) := by
  unfold execLaunch
  repeat' first
    | with_reducible assumption
    | extract_lets
    | with_reducible apply keeps_sendFrame
    | with_reducible apply keeps_pump
    | with_reducible apply keeps_next_
    | with_reducible apply keeps_iteO_
    | dsimp +zetaDelta only
    | split
theorem keeps_execLaunchLateDrop (n : Fin 24) (now : Nat) (s : State) (hm : Holds P s) : OutHolds P (execLaunchLateDrop n now s) := by
  unfold execLaunchLateDrop
  repeat' first
    | with_reducible assumption
    | extract_lets
    | with_reducible apply keeps_modPort
    | with_reducible apply keeps_dropFrame
    | (with_reducible apply keeps_overL_; intro _ _ _)
    | with_reducible apply keeps_next_
theorem keeps_execGateChange (n : Fin 24) (now : Nat) (s : State) (hm : Holds P s) : OutHolds P (execGateChange n now s) := by
  unfold execGateChange
  repeat' first
    | with_reducible assumption
    | extract_lets
    | with_reducible apply keeps_pump
    | with_reducible apply keeps_next_
theorem keeps_execResidenceDrop (n : Fin 24) (now : Nat) (s : State) (hm : Holds P s) : OutHolds P (execResidenceDrop n now s) := by
  unfold execResidenceDrop
  repeat' first
    | with_reducible assumption
    | extract_lets
    | with_reducible apply keeps_modPort
    | with_reducible apply keeps_dropFrame
    | with_reducible apply keeps_pump
    | (with_reducible apply keeps_overL_; intro _ _ _)
    | with_reducible apply keeps_next_
theorem keeps_execPreemptHold (n : Fin 24) (now : Nat) (s : State) (hm : Holds P s) : OutHolds P (execPreemptHold n now s) := by
  unfold execPreemptHold
  repeat' first
    | with_reducible assumption
    | extract_lets
    | with_reducible apply keeps_setReg
    | with_reducible apply keeps_bump
    | with_reducible apply keeps_setRegs
    | with_reducible apply keeps_modPort
    | with_reducible apply keeps_pump
    | with_reducible apply keeps_next_
    | with_reducible apply keeps_iteO_
    | dsimp +zetaDelta only
    | split
/-! Ports. -/
theorem keeps_setFdb (s : State) (l : List FdbEntry) (hm : Holds P s) : Holds P (State.setFdb s l) := by
  unfold State.setFdb
  repeat' first
    | with_reducible assumption
    | extract_lets
    | with_reducible apply keeps_setRegs
    | with_reducible apply keeps_modNet
theorem keeps_linkDown (s : State) (n : Nat) (hm : Holds P s) : Holds P (State.linkDown s n) := by
  unfold State.linkDown
  repeat' first
    | with_reducible assumption
    | extract_lets
    | with_reducible apply keeps_setReg
    | with_reducible apply keeps_bump
    | with_reducible apply keeps_refFaults
    | with_reducible apply keeps_modPort
    | with_reducible apply keeps_dropFrame
    | with_reducible apply keeps_setFdb
    | with_reducible apply keeps_ite_
    | (with_reducible apply keeps_overL_; intro _ _ _)
theorem keeps_execNetMode (n : Fin 24) (mode : Nat) (s : State) (hm : Holds P s) : OutHolds P (execNetMode n mode s) := by
  unfold execNetMode
  repeat' first
    | with_reducible assumption
    | extract_lets
    | with_reducible apply keeps_setRegs
    | with_reducible apply keeps_reply
    | with_reducible apply keeps_modPort
    | with_reducible apply keeps_linkDown
    | with_reducible apply keeps_ite_
    | with_reducible apply keeps_next_
    | with_reducible apply keeps_iteO_
theorem keeps_execNetPowerdownDone (n : Fin 24) (s : State) (hm : Holds P s) : OutHolds P (execNetPowerdownDone n s) := by
  unfold execNetPowerdownDone
  repeat' first
    | with_reducible assumption
    | extract_lets
    | with_reducible apply keeps_setReg
    | with_reducible apply keeps_modPort
    | with_reducible apply keeps_next_
    | with_reducible apply keeps_iteO_
theorem keeps_execNetLinkDown (n : Fin 24) (s : State) (hm : Holds P s) : OutHolds P (execNetLinkDown n s) := by
  unfold execNetLinkDown
  repeat' first
    | with_reducible assumption
    | extract_lets
    | with_reducible apply keeps_setReg
    | with_reducible apply keeps_linkDown
    | with_reducible apply keeps_next_
    | with_reducible apply keeps_iteO_
theorem keeps_execNetLinkUp (n : Fin 24) (sgmii : Nat) (s : State) (hm : Holds P s) : OutHolds P (execNetLinkUp n sgmii s) := by
  unfold execNetLinkUp
  repeat' first
    | with_reducible assumption
    | extract_lets
    | with_reducible apply keeps_setRegs
    | with_reducible apply keeps_next_
    | with_reducible apply keeps_iteO_
theorem keeps_execNetQcells (n : Fin 24) (cells : List Byte) (s : State) (hm : Holds P s) : OutHolds P (execNetQcells n cells s) := by
  unfold execNetQcells
  repeat' first
    | with_reducible assumption
    | extract_lets
    | with_reducible apply keeps_setBlob
    | with_reducible apply keeps_reply
    | with_reducible apply keeps_next_
    | with_reducible apply keeps_iteO_
theorem keeps_execNetBaseGcl (n : Fin 24) (b : List Byte) (s : State) (hm : Holds P s) : OutHolds P (execNetBaseGcl n b s) := by
  unfold execNetBaseGcl
  repeat' first
    | with_reducible assumption
    | extract_lets
    | with_reducible apply keeps_reply
    | with_reducible apply keeps_modPort
    | with_reducible apply keeps_next_
    | with_reducible apply keeps_iteO_
theorem keeps_execBaseGclApply (n : Fin 24) (s : State) (hm : Holds P s) : OutHolds P (execBaseGclApply n s) := by
  unfold execBaseGclApply
  repeat' first
    | with_reducible assumption
    | extract_lets
    | with_reducible apply keeps_setBlob
    | with_reducible apply keeps_modPort
    | with_reducible apply keeps_next_
    | with_reducible apply keeps_iteO_
    | split
theorem keeps_execNetPreempt (n : Fin 24) (v : Nat) (s : State) (hm : Holds P s) : OutHolds P (execNetPreempt n v s) := by
  unfold execNetPreempt
  repeat' first
    | with_reducible assumption
    | extract_lets
    | with_reducible apply keeps_setRegs
    | with_reducible apply keeps_reply
    | with_reducible apply keeps_next_
    | with_reducible apply keeps_iteO_
theorem keeps_execPreemptVerifyDone (n : Fin 24) (ok : Bool) (s : State) (hm : Holds P s) : OutHolds P (execPreemptVerifyDone n ok s) := by
  unfold execPreemptVerifyDone
  repeat' first
    | with_reducible assumption
    | extract_lets
    | with_reducible apply keeps_setReg
    | with_reducible apply keeps_next_
    | with_reducible apply keeps_iteO_
theorem keeps_execSegSend (n : Fin 24) (q mss : Nat) (head payload : List Byte) (s : State) (hm : Holds P s) : OutHolds P (execSegSend n q mss head payload s) := by
  unfold execSegSend
  repeat' first
    | with_reducible assumption
    | extract_lets
    | with_reducible apply keeps_setReg
    | with_reducible apply keeps_bump
    | with_reducible apply keeps_enqueue
    | with_reducible apply keeps_pump
    | (with_reducible apply keeps_overL_; intro _ _ _)
    | with_reducible apply keeps_next_
    | with_reducible apply keeps_iteO_
    | dsimp +zetaDelta only
    | split
theorem keeps_execEsmcTx (n : Fin 24) (s : State) (hm : Holds P s) : OutHolds P (execEsmcTx n s) := by
  unfold execEsmcTx
  repeat' first
    | with_reducible assumption
    | extract_lets
    | fail_if_no_progress (with_reducible apply keeps_mk_; first | with_reducible apply keeps_fold_ | with_reducible apply keeps_memPut_ | with_reducible apply keeps_filter_)
    | with_reducible apply keeps_modPort
    | with_reducible apply keeps_next_
    | with_reducible apply keeps_iteO_
theorem keeps_esmcGrade (s : State) (n ql : Nat) (ext : Option Nat) (hm : Holds P s) : Holds P (State.esmcGrade s n ql ext) := by
  unfold State.esmcGrade
  repeat' first
    | with_reducible assumption
    | extract_lets
    | with_reducible apply keeps_setReg
    | with_reducible apply keeps_carryGrade
    | with_reducible apply keeps_ite_
    | (with_reducible apply keeps_overL_; intro _ _ _)
theorem keeps_execEsmcTimeout (n : Fin 24) (now : Nat) (s : State) (hm : Holds P s) : OutHolds P (execEsmcTimeout n now s) := by
  unfold execEsmcTimeout
  repeat' first
    | with_reducible assumption
    | extract_lets
    | with_reducible apply keeps_modPort
    | with_reducible apply keeps_esmcGrade
    | with_reducible apply keeps_next_
    | with_reducible apply keeps_iteO_
    | split
/-! Streams. -/
theorem keeps_modRx (s : State) (t : Nat) (f : RxSt → RxSt) (hm : Holds P s) : Holds P (State.modRx s t f) := by
  unfold State.modRx
  repeat' first
    | with_reducible assumption
    | fail_if_no_progress (with_reducible apply keeps_mk_; first | with_reducible apply keeps_fold_ | with_reducible apply keeps_memPut_ | with_reducible apply keeps_filter_)
theorem keeps_modTx (s : State) (t : Nat) (f : TxSt → TxSt) (hm : Holds P s) : Holds P (State.modTx s t f) := by
  unfold State.modTx
  repeat' first
    | with_reducible assumption
    | fail_if_no_progress (with_reducible apply keeps_mk_; first | with_reducible apply keeps_fold_ | with_reducible apply keeps_memPut_ | with_reducible apply keeps_filter_)
theorem keeps_storeSamples (s : State) (t i : Nat) (payload : List Byte) (hm : Holds P s) : Holds P (State.storeSamples s t i payload) := by
  unfold State.storeSamples
  repeat' first
    | with_reducible assumption
    | extract_lets
    | with_reducible apply keeps_modRx
theorem keeps_seqGap (s : State) (t seq : Nat) (hm : Holds P s) : Holds P (State.seqGap s t seq) := by
  unfold State.seqGap
  repeat' first
    | with_reducible assumption
    | extract_lets
    | with_reducible apply keeps_bumpBy
    | with_reducible apply keeps_modRx
    | with_reducible apply keeps_ite_
    | dsimp +zetaDelta only
    | split
theorem keeps_freePair (s : State) (t k first : Nat) (a b : List RxSample) (hm : Holds P s) : Holds P (State.freePair s t k first a b).1 := by
  show FstHolds P (State.freePair s t k first a b)
  unfold State.freePair
  repeat' first
    | with_reducible assumption
    | extract_lets
    | with_reducible apply keeps_fmk_
    | with_reducible apply keeps_bump
    | with_reducible apply keeps_orReg
    | with_reducible apply keeps_modRx
    | with_reducible apply keeps_ite_
theorem keeps_deliverPkt (s : State) (t : Nat) (p : RxPkt) (hm : Holds P s) : Holds P (State.deliverPkt s t p) := by
  unfold State.deliverPkt
  repeat' first
    | with_reducible assumption
    | extract_lets
    | with_reducible apply keeps_carry
    | with_reducible apply keeps_modRx
    | with_reducible apply keeps_freePair
    | with_reducible apply keeps_ite_
    | (with_reducible apply keeps_overL_; intro _ _ _)
    | (with_reducible apply keeps_overN_; intro _ _ _)
theorem keeps_feedTracker (s : State) (t upTo : Nat) (hm : Holds P s) : Holds P (State.feedTracker s t upTo) := by
  unfold State.feedTracker
  repeat' first
    | with_reducible assumption
    | extract_lets
    | with_reducible apply keeps_modRx
    | with_reducible apply keeps_deliverPkt
    | (with_reducible apply keeps_overL_; intro _ _ _)
theorem keeps_tellRcpt (s : State) (t : Nat) (p : RxPkt) (hm : Holds P s) : Holds P (State.tellRcpt s t p) := by
  unfold State.tellRcpt
  repeat' first
    | with_reducible assumption
    | extract_lets
    | with_reducible apply keeps_sendCell
    | with_reducible apply keeps_ite_
theorem keeps_acceptPkt (s : State) (t : Nat) (p0 : RxPkt) (hm : Holds P s) : Holds P (State.acceptPkt s t p0) := by
  unfold State.acceptPkt
  repeat' first
    | with_reducible assumption
    | extract_lets
    | with_reducible apply keeps_setRegs
    | with_reducible apply keeps_modRx
    | with_reducible apply keeps_storeSamples
    | with_reducible apply keeps_seqGap
    | with_reducible apply keeps_feedTracker
    | with_reducible apply keeps_tellRcpt
    | with_reducible apply keeps_ite_
theorem keeps_copyPkt (s : State) (t : Nat) (p : RxPkt) (hm : Holds P s) : Holds P (State.copyPkt s t p) := by
  unfold State.copyPkt
  repeat' first
    | with_reducible assumption
    | extract_lets
    | with_reducible apply keeps_bump
    | with_reducible apply keeps_modRx
    | with_reducible apply keeps_when_
theorem keeps_judgePkt (s : State) (t : Nat) (p : RxPkt) (form : Bool) (hm : Holds P s) : Holds P (State.judgePkt s t p form) := by
  unfold State.judgePkt
  repeat' first
    | with_reducible assumption
    | extract_lets
    | with_reducible apply keeps_bump
    | with_reducible apply keeps_acceptPkt
    | with_reducible apply keeps_copyPkt
    | with_reducible apply keeps_ite_
    | dsimp +zetaDelta only
    | split
theorem keeps_streamFrame (s : State) (t k : Nat) (h : EthHead) (b : List Byte) (arr : Nat) (hm : Holds P s) : Holds P (State.streamFrame s t k h b arr) := by
  unfold State.streamFrame
  repeat' first
    | with_reducible assumption
    | extract_lets
    | with_reducible apply keeps_bump
    | with_reducible apply keeps_judgePkt
    | with_reducible apply keeps_ite_
    | dsimp +zetaDelta only
    | split
theorem keeps_rxPair (s : State) (t k j : Nat) (hm : Holds P s) : Holds P (State.rxPair s t k j) := by
  unfold State.rxPair
  repeat' first
    | with_reducible assumption
    | extract_lets
    | with_reducible apply keeps_bump
    | with_reducible apply keeps_orReg
    | with_reducible apply keeps_modRx
    | with_reducible apply keeps_ite_
theorem keeps_putRxBlocks (s : State) (t j : Nat) (up down : Bool) (into : State → SigId → List Sample → State) (hf : ∀ s y b, Holds P s → Holds P (into s y b)) (hm : Holds P s) : Holds P (s.putRxBlocks t j up down into) := by
  unfold State.putRxBlocks
  apply keeps_overN_
  · intro _ _ h
    exact hf _ _ _ h
  · exact hm
theorem keeps_legLosses (s : State) (t : Nat) (hm : Holds P s) : Holds P (State.legLosses s t) := by
  unfold State.legLosses
  repeat' first
    | with_reducible assumption
    | extract_lets
    | with_reducible apply keeps_setBlob
    | with_reducible apply keeps_ite_
theorem keeps_execPlayoutDeadline (t : Fin 1024) (s : State) (hm : Holds P s) : OutHolds P (execPlayoutDeadline t s) := by
  unfold execPlayoutDeadline
  repeat' first
    | with_reducible assumption
    | extract_lets
    | fail_if_no_progress (with_reducible apply keeps_mk_; first | with_reducible apply keeps_fold_ | with_reducible apply keeps_memPut_ | with_reducible apply keeps_filter_)
    | with_reducible apply keeps_bump
    | with_reducible apply keeps_modRx
    | with_reducible apply keeps_rxPair
    | with_reducible apply keeps_putRxBlocks
    | with_reducible apply keeps_legLosses
    | with_reducible apply keeps_when_
    | (with_reducible apply keeps_overN_; intro _ _ _)
    | with_reducible apply keeps_next_
    | with_reducible apply keeps_iteO_
    | intro _
theorem keeps_rxBoundary (s : State) (hm : Holds P s) : Holds P (State.rxBoundary s) := by
  unfold State.rxBoundary
  repeat' first
    | with_reducible assumption
    | fail_if_no_progress (with_reducible apply keeps_mk_; first | with_reducible apply keeps_fold_ | with_reducible apply keeps_memPut_ | with_reducible apply keeps_filter_)
theorem keeps_naExpireRx (s : State) (t k : Nat) (hm : Holds P s) : Holds P (State.naExpireRx s t k) := by
  unfold State.naExpireRx
  repeat' first
    | with_reducible assumption
    | extract_lets
    | with_reducible apply keeps_setReg
    | with_reducible apply keeps_modRx
    | with_reducible apply keeps_ite_
    | split
theorem keeps_refreshMc (s : State) (hm : Holds P s) : Holds P (State.refreshMc s) := by
  unfold State.refreshMc
  repeat' first
    | with_reducible assumption
    | extract_lets
    | with_reducible apply keeps_setReg
    | with_reducible apply keeps_modNet
theorem keeps_setActs (s : State) (rx : Bool) (t : Nat) (l : List (Nat × Bool)) (hm : Holds P s) : Holds P (State.setActs s rx t l) := by
  unfold State.setActs
  repeat' first
    | with_reducible assumption
    | extract_lets
    | with_reducible apply keeps_modRx
    | with_reducible apply keeps_modTx
    | with_reducible apply keeps_ite_
theorem keeps_noteCmd (s : State) (at_ : Option (Nat × Bool)) (p due : Nat) (r : Reg) (start : Bool) (hm : Holds P s) : Holds P (State.noteCmd s at_ p due r start) := by
  unfold State.noteCmd
  repeat' first
    | with_reducible assumption
    | extract_lets
    | with_reducible apply keeps_noteAt
    | with_reducible apply keeps_ite_
theorem keeps_streamStart (s : State) (p : Nat) (rx : Bool) (t : Nat) (at_ : Option (Nat × Bool)) (hm : Holds P s) : Holds P (State.streamStart s p rx t at_) := by
  unfold State.streamStart
  repeat' first
    | with_reducible assumption
    | extract_lets
    | with_reducible apply keeps_setReg
    | with_reducible apply keeps_reply
    | with_reducible apply keeps_refreshMc
    | with_reducible apply keeps_setActs
    | with_reducible apply keeps_noteCmd
    | with_reducible apply keeps_ite_
    | dsimp +zetaDelta only
    | split
theorem keeps_streamStop (s : State) (p : Nat) (rx : Bool) (t : Nat) (at_ : Option (Nat × Bool)) (hm : Holds P s) : Holds P (State.streamStop s p rx t at_) := by
  unfold State.streamStop
  repeat' first
    | with_reducible assumption
    | extract_lets
    | with_reducible apply keeps_setReg
    | with_reducible apply keeps_reply
    | with_reducible apply keeps_refreshMc
    | with_reducible apply keeps_setActs
    | with_reducible apply keeps_noteCmd
    | with_reducible apply keeps_ite_
    | dsimp +zetaDelta only
    | split
theorem keeps_execRxStart (p : Fin 16) (t : Fin 1024) (at_ : Option (Nat × Bool)) (s : State) (hm : Holds P s) : OutHolds P (execRxStart p t at_ s) := by
  unfold execRxStart
  repeat' first
    | with_reducible assumption
    | extract_lets
    | with_reducible apply keeps_streamStart
    | with_reducible apply keeps_next_
theorem keeps_execRxStop (p : Fin 16) (t : Fin 1024) (at_ : Option (Nat × Bool)) (s : State) (hm : Holds P s) : OutHolds P (execRxStop p t at_ s) := by
  unfold execRxStop
  repeat' first
    | with_reducible assumption
    | extract_lets
    | with_reducible apply keeps_streamStop
    | with_reducible apply keeps_next_
theorem keeps_execTxStart (p : Fin 16) (t : Fin 1024) (at_ : Option (Nat × Bool)) (s : State) (hm : Holds P s) : OutHolds P (execTxStart p t at_ s) := by
  unfold execTxStart
  repeat' first
    | with_reducible assumption
    | extract_lets
    | with_reducible apply keeps_streamStart
    | with_reducible apply keeps_next_
theorem keeps_execTxStop (p : Fin 16) (t : Fin 1024) (at_ : Option (Nat × Bool)) (s : State) (hm : Holds P s) : OutHolds P (execTxStop p t at_ s) := by
  unfold execTxStop
  repeat' first
    | with_reducible assumption
    | extract_lets
    | with_reducible apply keeps_streamStop
    | with_reducible apply keeps_next_
theorem keeps_streamGo (s : State) (rx : Bool) (t : Nat) (hm : Holds P s) : Holds P (State.streamGo s rx t) := by
  unfold State.streamGo
  repeat' first
    | with_reducible assumption
    | extract_lets
    | with_reducible apply keeps_setRegs
    | with_reducible apply keeps_modRx
    | with_reducible apply keeps_modTx
    | with_reducible apply keeps_ite_
theorem keeps_streamHalt (s : State) (rx : Bool) (t : Nat) (hm : Holds P s) : Holds P (State.streamHalt s rx t) := by
  unfold State.streamHalt
  repeat' first
    | with_reducible assumption
    | extract_lets
    | with_reducible apply keeps_setRegs
    | with_reducible apply keeps_modRx
    | with_reducible apply keeps_modTx
    | with_reducible apply keeps_ite_
theorem keeps_execStreamCmdApply (rx : Bool) (t : Fin 1024) (s : State) (hm : Holds P s) : OutHolds P (execStreamCmdApply rx t s) := by
  unfold execStreamCmdApply
  repeat' first
    | with_reducible assumption
    | extract_lets
    | with_reducible apply keeps_setReg
    | with_reducible apply keeps_setRegs
    | with_reducible apply keeps_discard
    | with_reducible apply keeps_refreshMc
    | with_reducible apply keeps_setActs
    | with_reducible apply keeps_streamGo
    | with_reducible apply keeps_streamHalt
    | (with_reducible apply keeps_overL_; intro _ _ _)
    | with_reducible apply keeps_next_
    | with_reducible apply keeps_iteO_
    | dsimp +zetaDelta only
    | split
theorem keeps_execStreamStopComplete (rx : Bool) (t : Fin 1024) (s : State) (hm : Holds P s) : OutHolds P (execStreamStopComplete rx t s) := by
  unfold execStreamStopComplete
  repeat' first
    | with_reducible assumption
    | extract_lets
    | with_reducible apply keeps_setReg
    | with_reducible apply keeps_modRx
    | with_reducible apply keeps_modTx
    | with_reducible apply keeps_refreshMc
    | with_reducible apply keeps_ite_
    | with_reducible apply keeps_next_
    | with_reducible apply keeps_iteO_
    | dsimp +zetaDelta only
    | split
theorem keeps_streamCut (s : State) (rx : Bool) (t : Nat) (hm : Holds P s) : Holds P (State.streamCut s rx t) := by
  unfold State.streamCut
  repeat' first
    | with_reducible assumption
    | extract_lets
    | with_reducible apply keeps_setReg
    | with_reducible apply keeps_refreshMc
    | with_reducible apply keeps_setActs
    | with_reducible apply keeps_streamHalt
    | with_reducible apply keeps_ite_
theorem keeps_numberNext (s : State) (t : Nat) (hm : Holds P s) : Holds P (State.numberNext s t) := by
  unfold State.numberNext
  repeat' first
    | with_reducible assumption
    | with_reducible apply keeps_modTx
theorem keeps_sendPacket (s : State) (t first : Nat) (chans : List (List Sample)) (launch : Option Nat) (now block : Nat) (hm : Holds P s) : Holds P (State.sendPacket s t first chans launch now block) := by
  unfold State.sendPacket
  repeat' first
    | with_reducible assumption
    | extract_lets
    | with_reducible apply keeps_setReg
    | with_reducible apply keeps_enqueue
    | with_reducible apply keeps_numberNext
    | (with_reducible apply keeps_overL_; intro _ _ _)
theorem keeps_openStreams (s : State) (kind : Nat) (withheld : Nat → Bool) (hm : Holds P s) : Holds P (State.openStreams s kind withheld) := by
  unfold State.openStreams
  repeat' first
    | with_reducible assumption
    | extract_lets
    | with_reducible apply keeps_bump
    | with_reducible apply keeps_modTx
    | with_reducible apply keeps_numberNext
    | with_reducible apply keeps_sendPacket
    | with_reducible apply keeps_ite_
    | (with_reducible apply keeps_overL_; intro _ _ _)
    | dsimp +zetaDelta only
    | split
theorem keeps_sendWhole (s : State) (t k : Nat) (hm : Holds P s) : Holds P (State.sendWhole s t k) := by
  induction k generalizing s with
  | zero => exact hm
  | succ k ih =>
    unfold State.sendWhole
    extract_lets n x bufs first s1 s2
    split
    · exact hm
    · have h1 : Holds P s1 := keeps_modTx _ _ _ hm
      apply ih
      show Holds P (if _ then _ else _)
      split
      · exact keeps_sendPacket _ _ _ _ _ _ _ h1
      · exact h1
theorem keeps_feedFree (s : State) (t : Nat) (hm : Holds P s) : Holds P (State.feedFree s t) := by
  unfold State.feedFree
  split
  · exact hm
  · extract_lets hz upTo first from_ ats s0 s1
    have h0 : Holds P s0 := keeps_modTx _ _ _ hm
    apply keeps_sendWhole
    apply keeps_overL_
    · intro t e ht
      exact keeps_modTx _ _ _ (keeps_takeFar _ _ _ _ _ _ ht)
    · exact h0
/-! MemErrors. -/
theorem keeps_busError (s : State) (b : Nat) (hm : Holds P s) : Holds P (State.busError s b) := by
  unfold State.busError
  repeat' first
    | with_reducible assumption
    | extract_lets
    | with_reducible apply keeps_setSource
    | with_reducible apply keeps_setBus
    | with_reducible apply keeps_ite_
    | dsimp +zetaDelta only
    | split
theorem keeps_loseFrame (s : State) (n : Nat) (hm : Holds P s) : Holds P (State.loseFrame s n) := by
  unfold State.loseFrame
  repeat' first
    | with_reducible assumption
    | extract_lets
    | with_reducible apply keeps_bump
    | with_reducible apply keeps_modPort
    | with_reducible apply keeps_legDrop
    | split
theorem keeps_ringError (s : State) (addr : Nat) (hm : Holds P s) : Holds P (State.ringError s addr) := by
  unfold State.ringError
  repeat' first
    | with_reducible assumption
    | extract_lets
    | with_reducible apply keeps_modRx
    | with_reducible apply keeps_ite_
    | (with_reducible apply keeps_overL_; intro _ _ _)
theorem keeps_execMemUecc (hc : Closed P) (sel : Fin 6) (addr : Fin 1099511627776) (win : Option (Fin 16 × Fin 256)) (bus : Option (Fin 2048)) (port : Option (Fin 24)) (s : State) (hm : Holds P s) : OutHolds P (execMemUecc sel addr win bus port s) := by
  unfold execMemUecc
  repeat' first
    | with_reducible assumption
    | extract_lets
    | with_reducible apply keeps_setReg
    | with_reducible apply keeps_bump
    | with_reducible apply keeps_store
    | with_reducible apply keeps_logEvent
    | with_reducible apply keeps_evidence
    | with_reducible apply keeps_windowFail
    | with_reducible apply keeps_busError
    | with_reducible apply keeps_loseFrame
    | with_reducible apply keeps_ringError
    | with_reducible apply keeps_ite_
    | with_reducible apply keeps_next_
    | dsimp +zetaDelta only
    | split
/-! Bridge. -/
theorem keeps_fdbMod (s : State) (mac : List Byte) (fid : Nat) (f : FdbEntry → FdbEntry) (hm : Holds P s) : Holds P (State.fdbMod s mac fid f) := by
  unfold State.fdbMod
  repeat' first
    | with_reducible assumption
    | with_reducible apply keeps_modNet
theorem keeps_flapPin (s : State) (e : FdbEntry) (now : Nat) (hm : Holds P s) : Holds P (State.flapPin s e now) := by
  unfold State.flapPin
  repeat' first
    | with_reducible assumption
    | extract_lets
    | with_reducible apply keeps_bump
    | with_reducible apply keeps_logEvent
    | with_reducible apply keeps_notifyGardener
    | with_reducible apply keeps_setFdb
theorem keeps_learn (s : State) (v : LearnEv) (hm : Holds P s) : Holds P (State.learn s v) := by
  unfold State.learn
  repeat' first
    | with_reducible assumption
    | extract_lets
    | with_reducible apply keeps_bump
    | with_reducible apply keeps_setFdb
    | with_reducible apply keeps_fdbMod
    | with_reducible apply keeps_flapPin
    | with_reducible apply keeps_ite_
    | dsimp +zetaDelta only
    | split
theorem keeps_execLearnEventApply (now : Nat) (s : State) (hm : Holds P s) : OutHolds P (execLearnEventApply now s) := by
  unfold execLearnEventApply
  repeat' first
    | with_reducible assumption
    | extract_lets
    | with_reducible apply keeps_modNet
    | with_reducible apply keeps_learn
    | with_reducible apply keeps_next_
    | with_reducible apply keeps_iteO_
    | split
theorem keeps_execFlapWindowEnd (now : Nat) (s : State) (hm : Holds P s) : OutHolds P (execFlapWindowEnd now s) := by
  unfold execFlapWindowEnd
  repeat' first
    | with_reducible assumption
    | extract_lets
    | with_reducible apply keeps_modNet
    | with_reducible apply keeps_next_
theorem keeps_execFlapHoldExpire (now : Nat) (s : State) (hm : Holds P s) : OutHolds P (execFlapHoldExpire now s) := by
  unfold execFlapHoldExpire
  repeat' first
    | with_reducible assumption
    | extract_lets
    | with_reducible apply keeps_setFdb
    | with_reducible apply keeps_next_
theorem keeps_execAgeScanVisit (mac : List Byte) (fid : Nat) (s : State) (hm : Holds P s) : OutHolds P (execAgeScanVisit mac fid s) := by
  unfold execAgeScanVisit
  repeat' first
    | with_reducible assumption
    | extract_lets
    | with_reducible apply keeps_setFdb
    | with_reducible apply keeps_fdbMod
    | with_reducible apply keeps_next_
    | with_reducible apply keeps_iteO_
    | dsimp +zetaDelta only
    | split
theorem keeps_execFdbAdd (b : List Byte) (s : State) (hm : Holds P s) : OutHolds P (execFdbAdd b s) := by
  unfold execFdbAdd
  repeat' first
    | with_reducible assumption
    | extract_lets
    | with_reducible apply keeps_setReg
    | with_reducible apply keeps_reply
    | with_reducible apply keeps_setFdb
    | with_reducible apply keeps_next_
    | with_reducible apply keeps_iteO_
    | dsimp +zetaDelta only
    | split
theorem keeps_execFdbDel (b : List Byte) (s : State) (hm : Holds P s) : OutHolds P (execFdbDel b s) := by
  unfold execFdbDel
  repeat' first
    | with_reducible assumption
    | extract_lets
    | with_reducible apply keeps_setReg
    | with_reducible apply keeps_reply
    | with_reducible apply keeps_setFdb
    | with_reducible apply keeps_next_
    | with_reducible apply keeps_iteO_
theorem keeps_execNetFlush (n : Fin 24) (s : State) (hm : Holds P s) : OutHolds P (execNetFlush n s) := by
  unfold execNetFlush
  repeat' first
    | with_reducible assumption
    | extract_lets
    | with_reducible apply keeps_reply
    | with_reducible apply keeps_setFdb
    | with_reducible apply keeps_next_
theorem keeps_setMc (s : State) (l : List McEntry) (hm : Holds P s) : Holds P (State.setMc s l) := by
  unfold State.setMc
  repeat' first
    | with_reducible assumption
    | extract_lets
    | with_reducible apply keeps_setReg
    | with_reducible apply keeps_modNet
theorem keeps_execMcAdd (b : List Byte) (s : State) (hm : Holds P s) : OutHolds P (execMcAdd b s) := by
  unfold execMcAdd
  repeat' first
    | with_reducible assumption
    | extract_lets
    | with_reducible apply keeps_setReg
    | with_reducible apply keeps_reply
    | with_reducible apply keeps_setMc
    | with_reducible apply keeps_next_
    | with_reducible apply keeps_iteO_
    | dsimp +zetaDelta only
    | split
theorem keeps_execMcDel (b : List Byte) (s : State) (hm : Holds P s) : OutHolds P (execMcDel b s) := by
  unfold execMcDel
  repeat' first
    | with_reducible assumption
    | extract_lets
    | with_reducible apply keeps_setReg
    | with_reducible apply keeps_reply
    | with_reducible apply keeps_setMc
    | with_reducible apply keeps_next_
    | with_reducible apply keeps_iteO_
theorem keeps_police (s : State) (n now bytes : Nat) (exempt : Bool) (hm : Holds P s) : Holds P (State.police s n now bytes exempt).1 := by
  show FstHolds P (State.police s n now bytes exempt)
  unfold State.police
  repeat' first
    | with_reducible assumption
    | extract_lets
    | with_reducible apply keeps_fmk_
    | with_reducible apply keeps_bump
    | with_reducible apply keeps_modPort
    | dsimp +zetaDelta only
    | split
theorem keeps_enginePort (s : State) (n vid : Nat) (h : EthHead) (f : RxFrame) (hm : Holds P s) : Holds P (State.enginePort s n vid h f) := by
  unfold State.enginePort
  repeat' first
    | with_reducible assumption
    | extract_lets
    | with_reducible apply keeps_bump
    | with_reducible apply keeps_modPort
    | with_reducible apply keeps_esmcGrade
    | with_reducible apply keeps_streamFrame
    | with_reducible apply keeps_police
    | with_reducible apply keeps_ite_
    | (with_reducible apply keeps_overL_; intro _ _ _)
    | dsimp +zetaDelta only
    | split
theorem keeps_lookup (s : State) (n vid : Nat) (dst : List Byte) (hm : Holds P s) : Holds P (State.lookup s n vid dst).1 := by
  show FstHolds P (State.lookup s n vid dst)
  unfold State.lookup
  repeat' first
    | with_reducible assumption
    | extract_lets
    | with_reducible apply keeps_fmk_
    | with_reducible apply keeps_fdbMod
    | dsimp +zetaDelta only
    | split
theorem keeps_forward (s : State) (n p vid pcp : Nat) (h : EthHead) (f : RxFrame) (hm : Holds P s) : Holds P (State.forward s n p vid pcp h f) := by
  unfold State.forward
  repeat' first
    | with_reducible assumption
    | extract_lets
    | with_reducible apply keeps_bump
    | with_reducible apply keeps_enqueue
    | with_reducible apply keeps_pump
    | with_reducible apply keeps_enginePort
    | with_reducible apply keeps_ite_
theorem keeps_execFrameRx (n : Fin 24) (f : RxFrame) (s : State) (hm : Holds P s) : OutHolds P (execFrameRx n f s) := by
  unfold execFrameRx
  repeat' first
    | with_reducible assumption
    | extract_lets
    | with_reducible apply keeps_bump
    | with_reducible apply keeps_bumpBy
    | with_reducible apply keeps_setRegs
    | with_reducible apply keeps_modNet
    | with_reducible apply keeps_enginePort
    | with_reducible apply keeps_lookup
    | with_reducible apply keeps_forward
    | with_reducible apply keeps_ite_
    | (with_reducible apply keeps_overL_; intro _ _ _)
    | with_reducible apply keeps_next_
    | with_reducible apply keeps_iteO_
end Sys2Proof.Machine
end

