-- ==== Sys2Proof/Laws/KeepsAudio.lean ====
section
/-!
SUPPORT. What serial audio ports and power stages keep: one lemma per operation.
-/
set_option linter.all false
namespace Sys2Proof.Machine
variable {P : NTable Byte → List Instr → Nat → Prop}
/-! Sap. -/
theorem keeps_modSap (s : State) (n : Nat) (f : SapSt → SapSt) (hm : Holds P s) : Holds P (State.modSap s n f) := by
  unfold State.modSap
  repeat' first
    | with_reducible assumption
    | fail_if_no_progress (with_reducible apply keeps_mk_; first | with_reducible apply keeps_fold_ | with_reducible apply keeps_memPut_ | with_reducible apply keeps_filter_)
theorem keeps_sapEvent (s : State) (n b : Nat) (hm : Holds P s) : Holds P (State.sapEvent s n b) := by
  unfold State.sapEvent
  repeat' first
    | with_reducible assumption
    | extract_lets
    | with_reducible apply keeps_orReg
    | with_reducible apply keeps_notifyPlot
    | with_reducible apply keeps_ite_
    | dsimp +zetaDelta only
    | split
theorem keeps_sapRampSet (s : State) (n : Nat) (hm : Holds P s) : Holds P (State.sapRampSet s n) := by
  unfold State.sapRampSet
  repeat' first
    | with_reducible assumption
    | extract_lets
    | with_reducible apply keeps_modSap
theorem keeps_sapOff (s : State) (n : Nat) (hm : Holds P s) : Holds P (State.sapOff s n) := by
  unfold State.sapOff
  repeat' first
    | with_reducible assumption
    | extract_lets
    | with_reducible apply keeps_setReg
    | with_reducible apply keeps_modSap
    | with_reducible apply keeps_ite_
theorem keeps_sapPost (s : State) (n : Nat) (hm : Holds P s) : Holds P (State.sapPost s n) := by
  unfold State.sapPost
  repeat' first
    | with_reducible assumption
    | extract_lets
    | with_reducible apply keeps_setReg
    | with_reducible apply keeps_modSap
theorem keeps_sapRun (s : State) (n : Nat) (hm : Holds P s) : Holds P (State.sapRun s n) := by
  unfold State.sapRun
  repeat' first
    | with_reducible assumption
    | extract_lets
    | with_reducible apply keeps_setReg
    | with_reducible apply keeps_modSap
theorem keeps_sapPre (s : State) (n : Nat) (hm : Holds P s) : Holds P (State.sapPre s n) := by
  unfold State.sapPre
  repeat' first
    | with_reducible assumption
    | extract_lets
    | with_reducible apply keeps_setRegs
    | with_reducible apply keeps_modSap
theorem keeps_sapRequest (s : State) (p n : Nat) (start : Bool) (at_ : Option (Nat × Bool)) (hm : Holds P s) : Holds P (State.sapRequest s p n start at_) := by
  unfold State.sapRequest
  repeat' first
    | with_reducible assumption
    | extract_lets
    | with_reducible apply keeps_setReg
    | with_reducible apply keeps_reply
    | with_reducible apply keeps_noteCmd
    | with_reducible apply keeps_modSap
    | with_reducible apply keeps_ite_
    | split
theorem keeps_execSapStart (p : Fin 16) (n : Fin 128) (at_ : Option (Nat × Bool)) (s : State) (hm : Holds P s) : OutHolds P (execSapStart p n at_ s) := by
  unfold execSapStart
  repeat' first
    | with_reducible assumption
    | extract_lets
    | with_reducible apply keeps_sapRequest
    | with_reducible apply keeps_next_
theorem keeps_execSapStop (p : Fin 16) (n : Fin 128) (at_ : Option (Nat × Bool)) (s : State) (hm : Holds P s) : OutHolds P (execSapStop p n at_ s) := by
  unfold execSapStop
  repeat' first
    | with_reducible assumption
    | extract_lets
    | with_reducible apply keeps_sapRequest
    | with_reducible apply keeps_next_
theorem keeps_sapGo (s : State) (n : Nat) (again : Bool) (hm : Holds P s) : Holds P (State.sapGo s n again) := by
  unfold State.sapGo
  repeat' first
    | with_reducible assumption
    | extract_lets
    | with_reducible apply keeps_setReg
    | with_reducible apply keeps_modSap
    | with_reducible apply keeps_sapRun
    | with_reducible apply keeps_sapPre
    | with_reducible apply keeps_ite_
    | dsimp +zetaDelta only
    | split
theorem keeps_sapHalt (s : State) (n : Nat) (hm : Holds P s) : Holds P (State.sapHalt s n).1 := by
  show FstHolds P (State.sapHalt s n)
  unfold State.sapHalt
  repeat' first
    | with_reducible assumption
    | extract_lets
    | with_reducible apply keeps_fmk_
    | with_reducible apply keeps_setReg
    | with_reducible apply keeps_modSap
    | with_reducible apply keeps_sapPost
    | dsimp +zetaDelta only
    | split
theorem keeps_execSapCmdApply (n : Fin 128) (s : State) (hm : Holds P s) : OutHolds P (execSapCmdApply n s) := by
  unfold execSapCmdApply
  repeat' first
    | with_reducible assumption
    | extract_lets
    | with_reducible apply keeps_setReg
    | with_reducible apply keeps_discard
    | with_reducible apply keeps_modSap
    | with_reducible apply keeps_sapGo
    | with_reducible apply keeps_sapHalt
    | (with_reducible apply keeps_overL_; intro _ _ _)
    | with_reducible apply keeps_next_
    | with_reducible apply keeps_iteO_
    | dsimp +zetaDelta only
    | split
theorem keeps_execSapMute (p : Fin 16) (n : Fin 128) (mute : Bool) (s : State) (hm : Holds P s) : OutHolds P (execSapMute p n mute s) := by
  unfold execSapMute
  repeat' first
    | with_reducible assumption
    | extract_lets
    | with_reducible apply keeps_reply
    | with_reducible apply keeps_dueWrite
    | with_reducible apply keeps_next_
    | with_reducible apply keeps_iteO_
theorem keeps_execSapEventClear (p : Fin 16) (n : Fin 128) (m : Fin 65536) (s : State) (hm : Holds P s) : OutHolds P (execSapEventClear p n m s) := by
  unfold execSapEventClear
  repeat' first
    | with_reducible assumption
    | extract_lets
    | with_reducible apply keeps_setReg
    | with_reducible apply keeps_reply
    | with_reducible apply keeps_next_
    | with_reducible apply keeps_iteO_
theorem keeps_sapTake (s : State) (n time : Nat) (x : SigId) (hm : Holds P s) : Holds P (State.sapTake s n time x).1 := by
  show FstHolds P (State.sapTake s n time x)
  unfold State.sapTake
  repeat' first
    | with_reducible assumption
    | extract_lets
    | with_reducible apply keeps_fmk_
    | with_reducible apply keeps_takeFar
theorem keeps_sapSend (s : State) (n idx time : Nat) (hm : Holds P s) : Holds P (State.sapSend s n idx time) := by
  unfold State.sapSend
  repeat' first
    | with_reducible assumption
    | extract_lets
    | with_reducible apply keeps_bumpBy
    | with_reducible apply keeps_modSap
    | with_reducible apply keeps_sapEvent
    | with_reducible apply keeps_sapTake
    | with_reducible apply keeps_when_
    | (with_reducible apply keeps_foldlF_; intro _ _ _)
    | dsimp +zetaDelta only
    | split
theorem keeps_sapCs (s : State) (n idx : Nat) (a : AesFrame) (hm : Holds P s) : Holds P (State.sapCs s n idx a) := by
  unfold State.sapCs
  repeat' first
    | with_reducible assumption
    | extract_lets
    | with_reducible apply keeps_bump
    | with_reducible apply keeps_setBlob
    | with_reducible apply keeps_modSap
    | with_reducible apply keeps_sapEvent
    | with_reducible apply keeps_ite_
    | dsimp +zetaDelta only
    | split
theorem keeps_sapAesWords (s : State) (n : Nat) (w : List Int) (a : AesFrame) (hm : Holds P s) : Holds P (State.sapAesWords s n w a).1 := by
  show FstHolds P (State.sapAesWords s n w a)
  unfold State.sapAesWords
  repeat' first
    | with_reducible assumption
    | extract_lets
    | with_reducible apply keeps_fmk_
    | with_reducible apply keeps_bumpBy
    | with_reducible apply keeps_modSap
    | with_reducible apply keeps_sapEvent
    | with_reducible apply keeps_when_
theorem keeps_sapStore (s : State) (n sample : Nat) (w : List Int) (hm : Holds P s) : Holds P (State.sapStore s n sample w) := by
  unfold State.sapStore
  repeat' first
    | with_reducible assumption
    | extract_lets
    | with_reducible apply keeps_modSap
    | with_reducible apply keeps_ite_
    | (with_reducible apply keeps_overL_; intro _ _ _)
theorem keeps_sapLose (s : State) (n : Nat) (hm : Holds P s) : Holds P (State.sapLose s n) := by
  unfold State.sapLose
  repeat' first
    | with_reducible assumption
    | extract_lets
    | with_reducible apply keeps_bump
    | with_reducible apply keeps_modSap
    | with_reducible apply keeps_sapEvent
    | with_reducible apply keeps_sapOff
    | with_reducible apply keeps_ite_
theorem keeps_sapBack (s : State) (n : Nat) (hm : Holds P s) : Holds P (State.sapBack s n) := by
  unfold State.sapBack
  repeat' first
    | with_reducible assumption
    | extract_lets
    | with_reducible apply keeps_modSap
    | with_reducible apply keeps_sapEvent
theorem keeps_sapStep (s : State) (n idx : Nat) (inWin : Bool) (hm : Holds P s) : Holds P (State.sapStep s n idx inWin) := by
  unfold State.sapStep
  repeat' first
    | with_reducible assumption
    | extract_lets
    | with_reducible apply keeps_bump
    | with_reducible apply keeps_modSap
    | with_reducible apply keeps_sapEvent
    | with_reducible apply keeps_ite_
theorem keeps_sapKeepStamp (s : State) (n idx stamp : Nat) (hm : Holds P s) : Holds P (State.sapKeepStamp s n idx stamp) := by
  unfold State.sapKeepStamp
  repeat' first
    | with_reducible assumption
    | extract_lets
    | with_reducible apply keeps_modSap
    | with_reducible apply keeps_ite_
theorem keeps_sapPairsNow (s : State) (n : Nat) (rows : List (Nat × List Int)) (q : Nat) (hm : Holds P s) : Holds P (State.sapPairsNow s n rows q) := by
  unfold State.sapPairsNow
  repeat' first
    | with_reducible assumption
    | extract_lets
    | with_reducible apply keeps_bump
    | with_reducible apply keeps_orReg
    | with_reducible apply keeps_modSap
    | with_reducible apply keeps_sapEvent
    | with_reducible apply keeps_ite_
    | (with_reducible apply keeps_overN_; intro _ _ _)
theorem keeps_sapFree (s : State) (n q sample stamp : Nat) (hm : Holds P s) : Holds P (State.sapFree s n q sample stamp) := by
  unfold State.sapFree
  repeat' first
    | with_reducible assumption
    | extract_lets
    | with_reducible apply keeps_carry
    | with_reducible apply keeps_modSap
    | with_reducible apply keeps_sapPairsNow
    | with_reducible apply keeps_ite_
    | with_reducible apply keeps_when_
    | (with_reducible apply keeps_overN_; intro _ _ _)
theorem keeps_execSapFrame (n : Fin 128) (f : SapFrame) (s : State) (hm : Holds P s) : OutHolds P (execSapFrame n f s) := by
  unfold execSapFrame
  repeat' first
    | with_reducible assumption
    | extract_lets
    | with_reducible apply keeps_setReg
    | with_reducible apply keeps_forwardInput
    | with_reducible apply keeps_modSap
    | with_reducible apply keeps_sapSend
    | with_reducible apply keeps_sapCs
    | with_reducible apply keeps_sapAesWords
    | with_reducible apply keeps_sapStore
    | with_reducible apply keeps_sapBack
    | with_reducible apply keeps_sapStep
    | with_reducible apply keeps_sapKeepStamp
    | with_reducible apply keeps_sapFree
    | with_reducible apply keeps_ite_
    | with_reducible apply keeps_when_
    | (with_reducible apply keeps_overL_; intro _ _ _)
    | with_reducible apply keeps_next_
    | with_reducible apply keeps_iteO_
    | dsimp +zetaDelta only
    | split
theorem keeps_execSapPrerollEnd (n : Fin 128) (s : State) (hm : Holds P s) : OutHolds P (execSapPrerollEnd n s) := by
  unfold execSapPrerollEnd
  repeat' first
    | with_reducible assumption
    | extract_lets
    | with_reducible apply keeps_setReg
    | with_reducible apply keeps_modSap
    | with_reducible apply keeps_sapRun
    | with_reducible apply keeps_ite_
    | with_reducible apply keeps_next_
    | with_reducible apply keeps_iteO_
theorem keeps_execSapRampdownEnd (n : Fin 128) (s : State) (hm : Holds P s) : OutHolds P (execSapRampdownEnd n s) := by
  unfold execSapRampdownEnd
  repeat' first
    | with_reducible assumption
    | extract_lets
    | with_reducible apply keeps_sapPost
    | with_reducible apply keeps_next_
    | with_reducible apply keeps_iteO_
theorem keeps_execSapPostrollEnd (n : Fin 128) (s : State) (hm : Holds P s) : OutHolds P (execSapPostrollEnd n s) := by
  unfold execSapPostrollEnd
  repeat' first
    | with_reducible assumption
    | extract_lets
    | with_reducible apply keeps_sapOff
    | with_reducible apply keeps_next_
    | with_reducible apply keeps_iteO_
theorem keeps_execSapClockLost (n : Fin 128) (now : Nat) (s : State) (hm : Holds P s) : OutHolds P (execSapClockLost n now s) := by
  unfold execSapClockLost
  repeat' first
    | with_reducible assumption
    | extract_lets
    | with_reducible apply keeps_sapLose
    | with_reducible apply keeps_next_
    | with_reducible apply keeps_iteO_
theorem keeps_sapBlocks (s : State) (q : Nat) (hm : Holds P s) : Holds P (State.sapBlocks s q) := by
  unfold State.sapBlocks
  repeat' first
    | with_reducible assumption
    | extract_lets
    | fail_if_no_progress (with_reducible apply keeps_mk_; first | with_reducible apply keeps_fold_ | with_reducible apply keeps_memPut_ | with_reducible apply keeps_filter_)
    | with_reducible apply keeps_bump
    | with_reducible apply keeps_modSap
    | with_reducible apply keeps_sapPairsNow
    | with_reducible apply keeps_ite_
    | with_reducible apply keeps_when_
    | (with_reducible apply keeps_overN_; intro _ _ _)
theorem keeps_sapStampOut (s : State) (n : Nat) (hm : Holds P s) : Holds P (State.sapStampOut s n) := by
  unfold State.sapStampOut
  repeat' first
    | with_reducible assumption
    | extract_lets
    | with_reducible apply keeps_setBlob
    | with_reducible apply keeps_stageEntry
    | with_reducible apply keeps_modSap
    | with_reducible apply keeps_ite_
    | dsimp +zetaDelta only
    | split
theorem keeps_sapRound (s : State) (n : Nat) (hm : Holds P s) : Holds P (State.sapRound s n) := by
  unfold State.sapRound
  repeat' first
    | with_reducible assumption
    | extract_lets
    | with_reducible apply keeps_setReg
    | with_reducible apply keeps_setRegs
    | with_reducible apply keeps_modSap
    | with_reducible apply keeps_sapEvent
    | with_reducible apply keeps_sapLose
    | with_reducible apply keeps_sapBack
    | with_reducible apply keeps_ite_
    | with_reducible apply keeps_when_
    | dsimp +zetaDelta only
    | split
theorem keeps_sapClose (s : State) (hm : Holds P s) : Holds P (State.sapClose s) := by
  unfold State.sapClose
  repeat' first
    | with_reducible assumption
    | extract_lets
    | with_reducible apply keeps_setReg
    | with_reducible apply keeps_bump
    | with_reducible apply keeps_modSap
    | with_reducible apply keeps_sapBlocks
    | with_reducible apply keeps_sapStampOut
    | with_reducible apply keeps_sapRound
    | with_reducible apply keeps_ite_
    | with_reducible apply keeps_when_
    | (with_reducible apply keeps_overL_; intro _ _ _)
theorem keeps_applySap (s : State) (all : List Due) (d : Due) (hm : Holds P s) : Holds P (State.applySap s all d) := by
  unfold State.applySap
  repeat' first
    | with_reducible assumption
    | extract_lets
    | with_reducible apply keeps_setReg
    | with_reducible apply keeps_setBlob
    | with_reducible apply keeps_discard
    | with_reducible apply keeps_sapRampSet
    | with_reducible apply keeps_ite_
    | dsimp +zetaDelta only
    | split
theorem keeps_sapOpen (s : State) (hm : Holds P s) : Holds P (State.sapOpen s) := by
  unfold State.sapOpen
  repeat' first
    | with_reducible assumption
    | extract_lets
    | fail_if_no_progress (with_reducible apply keeps_mk_; first | with_reducible apply keeps_fold_ | with_reducible apply keeps_memPut_ | with_reducible apply keeps_filter_)
    | with_reducible apply keeps_setReg
    | with_reducible apply keeps_modSap
    | with_reducible apply keeps_sapRun
    | with_reducible apply keeps_applySap
    | with_reducible apply keeps_ite_
    | (with_reducible apply keeps_overL_; intro _ _ _)
theorem keeps_sapCut (s : State) (n : Nat) (hm : Holds P s) : Holds P (State.sapCut s n) := by
  unfold State.sapCut
  repeat' first
    | with_reducible assumption
    | extract_lets
    | with_reducible apply keeps_modSap
    | with_reducible apply keeps_sapPost
    | with_reducible apply keeps_ite_
theorem keeps_naExpireSap (s : State) (n k : Nat) (hm : Holds P s) : Holds P (State.naExpireSap s n k) := by
  unfold State.naExpireSap
  repeat' first
    | with_reducible assumption
    | extract_lets
    | with_reducible apply keeps_setReg
    | with_reducible apply keeps_modSap
    | with_reducible apply keeps_ite_
    | split
theorem keeps_execNonaudioHoldExpire (sap : Bool) (t : Fin 1024) (k : Fin 32) (s : State) (hm : Holds P s) : OutHolds P (execNonaudioHoldExpire sap t k s) := by
  unfold execNonaudioHoldExpire
  repeat' first
    | with_reducible assumption
    | extract_lets
    | with_reducible apply keeps_naExpireRx
    | with_reducible apply keeps_naExpireSap
    | with_reducible apply keeps_ite_
    | with_reducible apply keeps_next_
/-! PscLoop. -/
theorem keeps_modPsc (s : State) (n : Nat) (f : PscSt → PscSt) (hm : Holds P s) : Holds P (State.modPsc s n f) := by
  unfold State.modPsc
  repeat' first
    | with_reducible assumption
    | fail_if_no_progress (with_reducible apply keeps_mk_; first | with_reducible apply keeps_fold_ | with_reducible apply keeps_memPut_ | with_reducible apply keeps_filter_)
theorem keeps_pscEvent (s : State) (n b : Nat) (hm : Holds P s) : Holds P (State.pscEvent s n b) := by
  unfold State.pscEvent
  repeat' first
    | with_reducible assumption
    | extract_lets
    | with_reducible apply keeps_orReg
    | with_reducible apply keeps_notifyPlot
    | with_reducible apply keeps_ite_
    | dsimp +zetaDelta only
    | split
theorem keeps_pscTrip (s : State) (n code : Nat) (hm : Holds P s) : Holds P (State.pscTrip s n code) := by
  unfold State.pscTrip
  repeat' first
    | with_reducible assumption
    | with_reducible apply keeps_modPsc
theorem keeps_pscRef (s : State) (n k : Nat) (hm : Holds P s) : Holds P (State.pscRef s n k).1 := by
  show FstHolds P (State.pscRef s n k)
  unfold State.pscRef
  repeat' first
    | with_reducible assumption
    | extract_lets
    | with_reducible apply keeps_fmk_
    | with_reducible apply keeps_modPsc
    | with_reducible apply keeps_pscEvent
    | with_reducible apply keeps_when_
theorem keeps_pscDemod (s : State) (n k : Nat) (v i : Int) (hm : Holds P s) : Holds P (State.pscDemod s n k v i) := by
  unfold State.pscDemod
  repeat' first
    | with_reducible assumption
    | extract_lets
    | with_reducible apply keeps_modPsc
    | with_reducible apply keeps_ite_
theorem keeps_pscCurrent (s : State) (n : Nat) (is : List Int) (hm : Holds P s) : Holds P (State.pscCurrent s n is).1 := by
  show FstHolds P (State.pscCurrent s n is)
  unfold State.pscCurrent
  repeat' first
    | with_reducible assumption
    | extract_lets
    | with_reducible apply keeps_fmk_
    | with_reducible apply keeps_bumpBy
    | with_reducible apply keeps_modPsc
    | with_reducible apply keeps_pscEvent
    | with_reducible apply keeps_when_
theorem keeps_pscPeriodEnd (s : State) (n : Nat) (hm : Holds P s) : Holds P (State.pscPeriodEnd s n) := by
  unfold State.pscPeriodEnd
  repeat' first
    | with_reducible assumption
    | extract_lets
    | with_reducible apply keeps_modPsc
    | with_reducible apply keeps_pscTrip
    | with_reducible apply keeps_ite_
theorem keeps_ingestOf (s : State) (x : SigId) (f : Nat → List Sample) (hm : Holds P s) : Holds P (State.ingestOf s x f) := by
  unfold State.ingestOf
  repeat' first
    | with_reducible assumption
    | fail_if_no_progress (with_reducible apply keeps_mk_; first | with_reducible apply keeps_fold_ | with_reducible apply keeps_memPut_ | with_reducible apply keeps_filter_)
    | split
theorem keeps_closePsc (s : State) (hm : Holds P s) : Holds P (State.closePsc s) := by
  unfold State.closePsc
  repeat' first
    | with_reducible assumption
    | extract_lets
    | with_reducible apply keeps_ingestOf
    | with_reducible apply keeps_ite_
    | (with_reducible apply keeps_overL_; intro _ _ _)
theorem keeps_execPscLoopUpdate (n : Fin 64) (v i v1 i1 : Fin 256) (s : State) (hm : Holds P s) : OutHolds P (execPscLoopUpdate n v i v1 i1 s) := by
  unfold execPscLoopUpdate
  repeat' first
    | with_reducible assumption
    | extract_lets
    | with_reducible apply keeps_bumpBy
    | with_reducible apply keeps_modPsc
    | with_reducible apply keeps_pscEvent
    | with_reducible apply keeps_pscTrip
    | with_reducible apply keeps_pscRef
    | with_reducible apply keeps_pscDemod
    | with_reducible apply keeps_pscCurrent
    | with_reducible apply keeps_pscPeriodEnd
    | with_reducible apply keeps_ite_
    | with_reducible apply keeps_when_
    | with_reducible apply keeps_next_
    | with_reducible apply keeps_iteO_
theorem keeps_execPscSenseLoss (n : Fin 64) (s : State) (hm : Holds P s) : OutHolds P (execPscSenseLoss n s) := by
  unfold execPscSenseLoss
  repeat' first
    | with_reducible assumption
    | extract_lets
    | with_reducible apply keeps_pscTrip
    | with_reducible apply keeps_next_
    | with_reducible apply keeps_iteO_
theorem keeps_execPscZWindowEnd (n : Fin 64) (s : State) (hm : Holds P s) : OutHolds P (execPscZWindowEnd n s) := by
  unfold execPscZWindowEnd
  repeat' first
    | with_reducible assumption
    | extract_lets
    | fail_if_no_progress (with_reducible apply keeps_mk_; first | with_reducible apply keeps_fold_ | with_reducible apply keeps_memPut_ | with_reducible apply keeps_filter_)
    | with_reducible apply keeps_setRegs
    | with_reducible apply keeps_modPsc
    | with_reducible apply keeps_pscEvent
    | with_reducible apply keeps_pscTrip
    | with_reducible apply keeps_ite_
    | with_reducible apply keeps_when_
    | with_reducible apply keeps_next_
    | with_reducible apply keeps_iteO_
/-! Psc. -/
theorem keeps_pscSet (s : State) (n : Nat) (st : Int) (hm : Holds P s) : Holds P (State.pscSet s n st) := by
  unfold State.pscSet
  repeat' first
    | with_reducible assumption
    | extract_lets
    | with_reducible apply keeps_setReg
    | with_reducible apply keeps_modPsc
    | (with_reducible apply keeps_overL_; intro _ _ _)
theorem keeps_pscBegin (s : State) (n : Nat) (wake : Bool) (hm : Holds P s) : Holds P (State.pscBegin s n wake) := by
  unfold State.pscBegin
  repeat' first
    | with_reducible assumption
    | extract_lets
    | with_reducible apply keeps_setReg
    | with_reducible apply keeps_modPsc
    | with_reducible apply keeps_pscSet
    | (with_reducible apply keeps_overL_; intro _ _ _)
theorem keeps_pscRun (s : State) (n : Nat) (hm : Holds P s) : Holds P (State.pscRun s n) := by
  unfold State.pscRun
  repeat' first
    | with_reducible assumption
    | extract_lets
    | with_reducible apply keeps_modPsc
    | with_reducible apply keeps_pscSet
theorem keeps_pscStop (s : State) (n : Nat) (dorm : Bool) (hm : Holds P s) : Holds P (State.pscStop s n dorm) := by
  unfold State.pscStop
  repeat' first
    | with_reducible assumption
    | extract_lets
    | with_reducible apply keeps_modPsc
    | with_reducible apply keeps_pscSet
theorem keeps_pscStopCarrier (s : State) (n : Nat) (hm : Holds P s) : Holds P (State.pscStopCarrier s n) := by
  unfold State.pscStopCarrier
  repeat' first
    | with_reducible assumption
    | extract_lets
    | with_reducible apply keeps_modPsc
    | with_reducible apply keeps_pscSet
theorem keeps_pscRest (s : State) (n : Nat) (st : Int) (t : Int) (hm : Holds P s) : Holds P (State.pscRest s n st t) := by
  unfold State.pscRest
  repeat' first
    | with_reducible assumption
    | extract_lets
    | with_reducible apply keeps_modPsc
    | with_reducible apply keeps_pscSet
theorem keeps_execPscCarrierStop (n : Fin 64) (s : State) (hm : Holds P s) : OutHolds P (execPscCarrierStop n s) := by
  unfold execPscCarrierStop
  repeat' first
    | with_reducible assumption
    | extract_lets
    | with_reducible apply keeps_pscEvent
    | with_reducible apply keeps_pscRest
    | with_reducible apply keeps_ite_
    | with_reducible apply keeps_next_
    | with_reducible apply keeps_iteO_
theorem keeps_pscFaultIn (s : State) (n code : Nat) (hm : Holds P s) : Holds P (State.pscFaultIn s n code) := by
  unfold State.pscFaultIn
  repeat' first
    | with_reducible assumption
    | extract_lets
    | with_reducible apply keeps_setReg
    | with_reducible apply keeps_bump
    | with_reducible apply keeps_logEvent
    | with_reducible apply keeps_notifyPlot
    | with_reducible apply keeps_modPsc
    | with_reducible apply keeps_pscEvent
    | with_reducible apply keeps_pscRest
    | with_reducible apply keeps_ite_
    | (with_reducible apply keeps_overL_; intro _ _ _)
theorem keeps_pscRequest (s : State) (p n : Nat) (start : Bool) (at_ : Option (Nat × Bool)) (hm : Holds P s) : Holds P (State.pscRequest s p n start at_) := by
  unfold State.pscRequest
  repeat' first
    | with_reducible assumption
    | extract_lets
    | with_reducible apply keeps_setReg
    | with_reducible apply keeps_reply
    | with_reducible apply keeps_noteCmd
    | with_reducible apply keeps_modPsc
    | with_reducible apply keeps_ite_
    | split
theorem keeps_execPscStart (p : Fin 16) (n : Fin 64) (at_ : Option (Nat × Bool)) (s : State) (hm : Holds P s) : OutHolds P (execPscStart p n at_ s) := by
  unfold execPscStart
  repeat' first
    | with_reducible assumption
    | extract_lets
    | with_reducible apply keeps_pscRequest
    | with_reducible apply keeps_next_
theorem keeps_execPscStop (p : Fin 16) (n : Fin 64) (at_ : Option (Nat × Bool)) (s : State) (hm : Holds P s) : OutHolds P (execPscStop p n at_ s) := by
  unfold execPscStop
  repeat' first
    | with_reducible assumption
    | extract_lets
    | with_reducible apply keeps_pscRequest
    | with_reducible apply keeps_next_
theorem keeps_execPscFaultClear (p : Fin 16) (n : Fin 64) (s : State) (hm : Holds P s) : OutHolds P (execPscFaultClear p n s) := by
  unfold execPscFaultClear
  repeat' first
    | with_reducible assumption
    | extract_lets
    | with_reducible apply keeps_reply
    | with_reducible apply keeps_modPsc
    | with_reducible apply keeps_next_
    | with_reducible apply keeps_iteO_
theorem keeps_execPscEventClear (p : Fin 16) (n : Fin 64) (m : Fin 65536) (s : State) (hm : Holds P s) : OutHolds P (execPscEventClear p n m s) := by
  unfold execPscEventClear
  repeat' first
    | with_reducible assumption
    | extract_lets
    | with_reducible apply keeps_setReg
    | with_reducible apply keeps_reply
    | with_reducible apply keeps_next_
    | with_reducible apply keeps_iteO_
theorem keeps_execPscLoopCoef (p : Fin 16) (n : Fin 64) (words : List Int) (s : State) (hm : Holds P s) : OutHolds P (execPscLoopCoef p n words s) := by
  unfold execPscLoopCoef
  repeat' first
    | with_reducible assumption
    | extract_lets
    | with_reducible apply keeps_setReg
    | with_reducible apply keeps_setBlob
    | with_reducible apply keeps_reply
    | with_reducible apply keeps_modPsc
    | with_reducible apply keeps_next_
    | with_reducible apply keeps_iteO_
theorem keeps_execPscLoopSwapAt (p : Fin 16) (n : Fin 64) (t : Nat) (s : State) (hm : Holds P s) : OutHolds P (execPscLoopSwapAt p n t s) := by
  unfold execPscLoopSwapAt
  repeat' first
    | with_reducible assumption
    | extract_lets
    | with_reducible apply keeps_setReg
    | with_reducible apply keeps_reply
    | with_reducible apply keeps_modPsc
    | with_reducible apply keeps_next_
    | with_reducible apply keeps_iteO_
theorem keeps_execLoopSwapApply (n : Fin 64) (s : State) (hm : Holds P s) : OutHolds P (execLoopSwapApply n s) := by
  unfold execLoopSwapApply
  repeat' first
    | with_reducible assumption
    | extract_lets
    | with_reducible apply keeps_setReg
    | with_reducible apply keeps_modPsc
    | with_reducible apply keeps_next_
    | with_reducible apply keeps_iteO_
    | split
theorem keeps_execPscAutoRestart (n : Fin 64) (s : State) (hm : Holds P s) : OutHolds P (execPscAutoRestart n s) := by
  unfold execPscAutoRestart
  repeat' first
    | with_reducible assumption
    | extract_lets
    | with_reducible apply keeps_pscBegin
    | with_reducible apply keeps_next_
    | with_reducible apply keeps_iteO_
theorem keeps_pscMoveGb (s : State) (n : Nat) (target : Int) (hm : Holds P s) : Holds P (State.pscMoveGb s n target) := by
  unfold State.pscMoveGb
  repeat' first
    | with_reducible assumption
    | with_reducible apply keeps_modPsc
theorem keeps_pscBrace (s : State) (hm : Holds P s) : Holds P (State.pscBrace s) := by
  unfold State.pscBrace
  repeat' first
    | with_reducible assumption
    | extract_lets
    | with_reducible apply keeps_modPsc
    | with_reducible apply keeps_pscMoveGb
    | with_reducible apply keeps_ite_
    | (with_reducible apply keeps_overN_; intro _ _ _)
theorem keeps_pscUnbrace (s : State) (hm : Holds P s) : Holds P (State.pscUnbrace s) := by
  unfold State.pscUnbrace
  repeat' first
    | with_reducible assumption
    | extract_lets
    | with_reducible apply keeps_modPsc
    | with_reducible apply keeps_pscMoveGb
    | with_reducible apply keeps_ite_
    | (with_reducible apply keeps_overN_; intro _ _ _)
theorem keeps_applyPsc (s : State) (d : Due) (hm : Holds P s) : Holds P (State.applyPsc s d) := by
  unfold State.applyPsc
  repeat' first
    | with_reducible assumption
    | extract_lets
    | with_reducible apply keeps_setReg
    | with_reducible apply keeps_setBlob
    | with_reducible apply keeps_modPsc
    | with_reducible apply keeps_pscMoveGb
    | with_reducible apply keeps_ite_
theorem keeps_pscReading (s : State) (g : Nat) (q : Option Nat) (hm : Holds P s) : Holds P (State.pscReading s g q) := by
  unfold State.pscReading
  repeat' first
    | with_reducible assumption
    | extract_lets
    | with_reducible apply keeps_setReg
    | with_reducible apply keeps_modPsc
    | with_reducible apply keeps_pscEvent
    | with_reducible apply keeps_when_
    | (with_reducible apply keeps_overN_; intro _ _ _)
    | dsimp +zetaDelta only
    | split
theorem keeps_pscThermal (s : State) (n : Nat) (hm : Holds P s) : Holds P (State.pscThermal s n) := by
  unfold State.pscThermal
  repeat' first
    | with_reducible assumption
    | extract_lets
    | with_reducible apply keeps_modPsc
    | with_reducible apply keeps_pscEvent
    | with_reducible apply keeps_pscTrip
    | with_reducible apply keeps_ite_
    | with_reducible apply keeps_when_
theorem keeps_pscTransit (s : State) (n : Nat) (hm : Holds P s) : Holds P (State.pscTransit s n) := by
  unfold State.pscTransit
  repeat' first
    | with_reducible assumption
    | extract_lets
    | with_reducible apply keeps_setReg
    | with_reducible apply keeps_modPsc
    | with_reducible apply keeps_pscSet
    | with_reducible apply keeps_pscBegin
    | with_reducible apply keeps_pscRun
    | with_reducible apply keeps_pscStopCarrier
    | with_reducible apply keeps_ite_
    | (with_reducible apply keeps_overL_; intro _ _ _)
theorem keeps_pscGo (s : State) (n : Nat) (again : Bool) (hm : Holds P s) : Holds P (State.pscGo s n again) := by
  unfold State.pscGo
  repeat' first
    | with_reducible assumption
    | extract_lets
    | with_reducible apply keeps_setReg
    | with_reducible apply keeps_modPsc
    | with_reducible apply keeps_pscBegin
    | with_reducible apply keeps_pscRun
    | with_reducible apply keeps_ite_
    | dsimp +zetaDelta only
    | split
theorem keeps_pscHalt (s : State) (n : Nat) (hm : Holds P s) : Holds P (State.pscHalt s n).1 := by
  show FstHolds P (State.pscHalt s n)
  unfold State.pscHalt
  repeat' first
    | with_reducible assumption
    | extract_lets
    | with_reducible apply keeps_fmk_
    | with_reducible apply keeps_setReg
    | with_reducible apply keeps_modPsc
    | with_reducible apply keeps_pscSet
    | with_reducible apply keeps_pscStop
    | with_reducible apply keeps_pscStopCarrier
    | dsimp +zetaDelta only
    | split
theorem keeps_pscCommands (s : State) (n : Nat) (hm : Holds P s) : Holds P (State.pscCommands s n) := by
  unfold State.pscCommands
  repeat' first
    | with_reducible assumption
    | extract_lets
    | with_reducible apply keeps_setReg
    | with_reducible apply keeps_discard
    | with_reducible apply keeps_modPsc
    | with_reducible apply keeps_pscGo
    | with_reducible apply keeps_pscHalt
    | with_reducible apply keeps_ite_
    | (with_reducible apply keeps_overL_; intro _ _ _)
    | dsimp +zetaDelta only
    | split
theorem keeps_pscSleep (s : State) (n : Nat) (hm : Holds P s) : Holds P (State.pscSleep s n) := by
  unfold State.pscSleep
  repeat' first
    | with_reducible assumption
    | extract_lets
    | with_reducible apply keeps_modPsc
    | with_reducible apply keeps_pscBegin
    | with_reducible apply keeps_pscRun
    | with_reducible apply keeps_pscStop
    | with_reducible apply keeps_ite_
theorem keeps_pscTick (s : State) (n : Nat) (hm : Holds P s) : Holds P (State.pscTick s n) := by
  unfold State.pscTick
  repeat' first
    | with_reducible assumption
    | extract_lets
    | with_reducible apply keeps_setReg
    | with_reducible apply keeps_modPsc
theorem keeps_pscTempBlock (s : State) (g : Nat) (hm : Holds P s) : Holds P (State.pscTempBlock s g) := by
  unfold State.pscTempBlock
  repeat' first
    | with_reducible assumption
    | extract_lets
    | with_reducible apply keeps_setSource
    | with_reducible apply keeps_ite_
    | dsimp +zetaDelta only
    | split
theorem keeps_execPscBoundary (temps : List (Fin 16 × Option Nat)) (s : State) (hm : Holds P s) : OutHolds P (execPscBoundary temps s) := by
  unfold execPscBoundary
  repeat' first
    | with_reducible assumption
    | extract_lets
    | fail_if_no_progress (with_reducible apply keeps_mk_; first | with_reducible apply keeps_fold_ | with_reducible apply keeps_memPut_ | with_reducible apply keeps_filter_)
    | with_reducible apply keeps_modPsc
    | with_reducible apply keeps_pscFaultIn
    | with_reducible apply keeps_applyPsc
    | with_reducible apply keeps_pscReading
    | with_reducible apply keeps_pscThermal
    | with_reducible apply keeps_pscTransit
    | with_reducible apply keeps_pscCommands
    | with_reducible apply keeps_pscSleep
    | with_reducible apply keeps_pscTick
    | with_reducible apply keeps_pscTempBlock
    | with_reducible apply keeps_ite_
    | (with_reducible apply keeps_overL_; intro _ _ _)
    | with_reducible apply keeps_next_
    | dsimp +zetaDelta only
    | split
theorem keeps_pscCut (s : State) (n : Nat) (hm : Holds P s) : Holds P (State.pscCut s n) := by
  unfold State.pscCut
  repeat' first
    | with_reducible assumption
    | extract_lets
    | with_reducible apply keeps_setReg
    | with_reducible apply keeps_modPsc
    | with_reducible apply keeps_pscSet
    | with_reducible apply keeps_pscStopCarrier
    | with_reducible apply keeps_ite_
    | (with_reducible apply keeps_overL_; intro _ _ _)
theorem keeps_pscFeed (s : State) (n at_ : Nat) (b : List Sample) (hm : Holds P s) : Holds P (State.pscFeed s n at_ b) := by
  unfold State.pscFeed
  repeat' first
    | with_reducible assumption
    | extract_lets
    | with_reducible apply keeps_modPsc
    | with_reducible apply keeps_ite_
end Sys2Proof.Machine
end

