-- ==== Sys2Proof/Laws/KeepsChip.lean ====
section
/-!
SUPPORT. What the pair, plots, resets, meters, addresses and rings keep: one lemma per operation.
-/
set_option linter.all false
namespace Sys2Proof.Machine
variable {P : NTable Byte → List Instr → Nat → Prop}
/-! Pair. -/
theorem keeps_graftEnd (s : State) (code : Nat) (hm : Holds P s) : Holds P (State.graftEnd s code) := by
  unfold State.graftEnd
  repeat' first
    | with_reducible assumption
    | extract_lets
    | with_reducible apply keeps_setReg
    | with_reducible apply keeps_logEvent
    | with_reducible apply keeps_modPair
    | with_reducible apply keeps_pairTo
    | with_reducible apply keeps_toStandby
    | with_reducible apply keeps_ite_
theorem keeps_graftBegin (s : State) (hm : Holds P s) : Holds P (State.graftBegin s) := by
  unfold State.graftBegin
  repeat' first
    | with_reducible assumption
    | extract_lets
    | with_reducible apply keeps_setReg
    | with_reducible apply keeps_setRegs
    | with_reducible apply keeps_modPair
    | with_reducible apply keeps_pairTo
    | with_reducible apply keeps_ite_
theorem keeps_partnerLoss (s : State) (hm : Holds P s) : Holds P (State.partnerLoss s) := by
  unfold State.partnerLoss
  repeat' first
    | with_reducible assumption
    | extract_lets
    | with_reducible apply keeps_setReg
    | with_reducible apply keeps_pairTo
    | with_reducible apply keeps_takeA
    | with_reducible apply keeps_purgeBarred
    | with_reducible apply keeps_graftEnd
    | with_reducible apply keeps_ite_
    | with_reducible apply keeps_when_
theorem keeps_execPairWaitExpire (s : State) (hm : Holds P s) : OutHolds P (execPairWaitExpire s) := by
  unfold execPairWaitExpire
  repeat' first
    | with_reducible assumption
    | extract_lets
    | with_reducible apply keeps_setReg
    | with_reducible apply keeps_takeA
    | with_reducible apply keeps_next_
    | with_reducible apply keeps_iteO_
    | split
theorem keeps_makeDigest (s : State) (full : Bool) (hm : Holds P s) : Holds P (State.makeDigest s full) := by
  unfold State.makeDigest
  repeat' first
    | with_reducible assumption
    | extract_lets
    | with_reducible apply keeps_bump
    | with_reducible apply keeps_modPair
    | with_reducible apply keeps_sendCell
    | with_reducible apply keeps_when_
theorem keeps_withhold (s : State) (key : Nat) (hm : Holds P s) : Holds P (State.withhold s key) := by
  unfold State.withhold
  repeat' first
    | with_reducible assumption
    | with_reducible apply keeps_modPair
theorem keeps_decide85 (s : State) (key m case_ : Nat) (h : Nat × Bool) (hm : Holds P s) : Holds P (State.decide85 s key m case_ h) := by
  unfold State.decide85
  repeat' first
    | with_reducible assumption
    | extract_lets
    | with_reducible apply keeps_bump
    | with_reducible apply keeps_setRegs
    | with_reducible apply keeps_logEvent
    | with_reducible apply keeps_modPair
    | with_reducible apply keeps_pairTo
    | with_reducible apply keeps_toStandby
    | with_reducible apply keeps_withhold
    | with_reducible apply keeps_ite_
    | with_reducible apply keeps_when_
    | dsimp +zetaDelta only
    | split
theorem keeps_execDigest (c : DigestCell) (s : State) (hm : Holds P s) : OutHolds P (execDigest c s) := by
  unfold execDigest
  repeat' first
    | with_reducible assumption
    | extract_lets
    | with_reducible apply keeps_modPair
    | with_reducible apply keeps_heard
    | with_reducible apply keeps_next_
    | with_reducible apply keeps_iteO_
theorem keeps_execDigestCompare (full : Bool) (s : State) (hm : Holds P s) : OutHolds P (execDigestCompare full s) := by
  unfold execDigestCompare
  repeat' first
    | with_reducible assumption
    | extract_lets
    | with_reducible apply keeps_bump
    | with_reducible apply keeps_modPair
    | with_reducible apply keeps_withhold
    | with_reducible apply keeps_decide85
    | with_reducible apply keeps_when_
    | with_reducible apply keeps_next_
    | with_reducible apply keeps_iteO_
theorem keeps_execFocusProofEnd (s : State) (hm : Holds P s) : OutHolds P (execFocusProofEnd s) := by
  unfold execFocusProofEnd
  repeat' first
    | with_reducible assumption
    | extract_lets
    | with_reducible apply keeps_modPair
    | with_reducible apply keeps_pairTo
    | with_reducible apply keeps_toStandby
    | with_reducible apply keeps_next_
    | with_reducible apply keeps_iteO_
    | dsimp +zetaDelta only
    | split
theorem keeps_suspectLeaves (s : State) (hm : Holds P s) : Holds P (State.suspectLeaves s) := by
  unfold State.suspectLeaves
  repeat' first
    | with_reducible assumption
    | extract_lets
    | with_reducible apply keeps_toStandby
    | with_reducible apply keeps_graftEnd
    | with_reducible apply keeps_ite_
theorem keeps_suspectReact (s : State) (hm : Holds P s) : Holds P (State.suspectReact s) := by
  unfold State.suspectReact
  repeat' first
    | with_reducible assumption
    | extract_lets
    | with_reducible apply keeps_modPair
    | with_reducible apply keeps_suspectLeaves
    | with_reducible apply keeps_ite_
theorem keeps_execProofFail (kind : Fin 4) (unit : Fin 256) (s : State) (hm : Holds P s) : OutHolds P (execProofFail kind unit s) := by
  unfold execProofFail
  repeat' first
    | with_reducible assumption
    | extract_lets
    | with_reducible apply keeps_proofFail
    | with_reducible apply keeps_suspectLeaves
    | with_reducible apply keeps_next_
theorem keeps_execProofSetPass (s : State) (hm : Holds P s) : OutHolds P (execProofSetPass s) := by
  unfold execProofSetPass
  repeat' first
    | with_reducible assumption
    | extract_lets
    | with_reducible apply keeps_bump
    | with_reducible apply keeps_modPair
    | with_reducible apply keeps_next_
    | with_reducible apply keeps_iteO_
theorem keeps_execPairSuspectClear (s : State) (hm : Holds P s) : OutHolds P (execPairSuspectClear s) := by
  unfold execPairSuspectClear
  repeat' first
    | with_reducible assumption
    | extract_lets
    | with_reducible apply keeps_setReg
    | with_reducible apply keeps_reply
    | with_reducible apply keeps_refreshFaults
    | with_reducible apply keeps_next_
theorem keeps_execHandover (s : State) (hm : Holds P s) : OutHolds P (execHandover s) := by
  unfold execHandover
  repeat' first
    | with_reducible assumption
    | extract_lets
    | with_reducible apply keeps_bump
    | with_reducible apply keeps_logEvent
    | with_reducible apply keeps_modPair
    | with_reducible apply keeps_takeA
    | with_reducible apply keeps_toStandby
    | with_reducible apply keeps_next_
    | with_reducible apply keeps_iteO_
    | dsimp +zetaDelta only
    | split
theorem keeps_heedRole (s : State) (was : Option TickFrame) (f : TickFrame) (hm : Holds P s) : Holds P (State.heedRole s was f) := by
  unfold State.heedRole
  repeat' first
    | with_reducible assumption
    | extract_lets
    | with_reducible apply keeps_setRegs
    | with_reducible apply keeps_modPair
    | with_reducible apply keeps_pairTo
    | with_reducible apply keeps_takeA
    | with_reducible apply keeps_toStandby
    | with_reducible apply keeps_graftEnd
    | with_reducible apply keeps_graftBegin
    | with_reducible apply keeps_ite_
theorem keeps_heedSwaps (hc : Closed P) (s : State) (f : TickFrame) (hm : Holds P s) : Holds P (State.heedSwaps s f) := by
  unfold State.heedSwaps
  repeat' first
    | with_reducible assumption
    | extract_lets
    | with_reducible apply keeps_modPlot
    | with_reducible apply keeps_dropImage
    | with_reducible apply keeps_ite_
    | (with_reducible apply keeps_overN_; intro _ _ _)
theorem keeps_heedEdges (s : State) (f : TickFrame) (hm : Holds P s) : Holds P (State.heedEdges s f) := by
  unfold State.heedEdges
  repeat' first
    | with_reducible assumption
    | extract_lets
    | with_reducible apply keeps_bump
    | with_reducible apply keeps_modPair
    | with_reducible apply keeps_decide85
    | with_reducible apply keeps_ite_
    | dsimp +zetaDelta only
    | split
theorem keeps_heedProofs (s : State) (f : TickFrame) (hm : Holds P s) : Holds P (State.heedProofs s f) := by
  unfold State.heedProofs
  repeat' first
    | with_reducible assumption
    | extract_lets
    | with_reducible apply keeps_bump
    | with_reducible apply keeps_logEvent
    | with_reducible apply keeps_ite_
    | dsimp +zetaDelta only
    | split
theorem keeps_adopt (ht : AnyTick P) (s : State) (l : Nat) (f : TickFrame) (hm : Holds P s) : Holds P (State.adopt s l f) := by
  unfold State.adopt
  repeat' first
    | with_reducible assumption
    | extract_lets
    | fail_if_no_progress (with_reducible apply keeps_mk_; first | with_reducible apply keeps_fold_ | with_reducible apply keeps_memPut_ | with_reducible apply keeps_filter_ | (with_reducible apply keeps_tick_; with_reducible exact ht; with_reducible apply keeps_fold_))
    | with_reducible apply keeps_modClk
    | with_reducible apply keeps_afterJump
    | with_reducible apply keeps_ite_
theorem keeps_execTick (ht : AnyTick P) (hc : Closed P) (l : Fin 2) (f : TickFrame) (s : State) (hm : Holds P s) : OutHolds P (execTick l f s) := by
  unfold execTick
  repeat' first
    | with_reducible assumption
    | extract_lets
    | with_reducible apply keeps_setReg
    | with_reducible apply keeps_modPair
    | with_reducible apply keeps_heard
    | with_reducible apply keeps_heedRole
    | with_reducible apply keeps_heedSwaps
    | with_reducible apply keeps_heedEdges
    | with_reducible apply keeps_heedProofs
    | with_reducible apply keeps_adopt
    | with_reducible apply keeps_next_
    | with_reducible apply keeps_iteO_
theorem keeps_execBeat (l : Fin 2) (t : Nat) (s : State) (hm : Holds P s) : OutHolds P (execBeat l t s) := by
  unfold execBeat
  repeat' first
    | with_reducible assumption
    | extract_lets
    | with_reducible apply keeps_heard
    | with_reducible apply keeps_next_
    | with_reducible apply keeps_iteO_
theorem keeps_weltDown (s : State) (l : Nat) (hm : Holds P s) : Holds P (State.weltDown s l) := by
  unfold State.weltDown
  repeat' first
    | with_reducible assumption
    | extract_lets
    | with_reducible apply keeps_setReg
    | with_reducible apply keeps_bump
    | with_reducible apply keeps_modPair
    | with_reducible apply keeps_partnerLoss
    | with_reducible apply keeps_ite_
    | with_reducible apply keeps_when_
theorem keeps_execWeltLinkDown (l : Fin 2) (s : State) (hm : Holds P s) : OutHolds P (execWeltLinkDown l s) := by
  unfold execWeltLinkDown
  repeat' first
    | with_reducible assumption
    | extract_lets
    | with_reducible apply keeps_weltDown
    | with_reducible apply keeps_next_
theorem keeps_execWeltLinkUp (l : Fin 2) (ps : Nat) (s : State) (hm : Holds P s) : OutHolds P (execWeltLinkUp l ps s) := by
  unfold execWeltLinkUp
  repeat' first
    | with_reducible assumption
    | extract_lets
    | with_reducible apply keeps_setRegs
    | with_reducible apply keeps_modPair
    | with_reducible apply keeps_when_
    | with_reducible apply keeps_next_
    | with_reducible apply keeps_iteO_
theorem keeps_execPartnerAuthChange (level : Bool) (s : State) (hm : Holds P s) : OutHolds P (execPartnerAuthChange level s) := by
  unfold execPartnerAuthChange
  repeat' first
    | with_reducible assumption
    | extract_lets
    | with_reducible apply keeps_setReg
    | with_reducible apply keeps_bump
    | with_reducible apply keeps_takeA
    | with_reducible apply keeps_partnerLoss
    | with_reducible apply keeps_when_
    | with_reducible apply keeps_next_
    | with_reducible apply keeps_iteO_
theorem keeps_execRcpt (t : Fin 1024) (seq crc : Nat) (at_ : Option Nat) (s : State) (hm : Holds P s) : OutHolds P (execRcpt t seq crc at_ s) := by
  unfold execRcpt
  repeat' first
    | with_reducible assumption
    | extract_lets
    | with_reducible apply keeps_modPair
    | with_reducible apply keeps_heard
    | with_reducible apply keeps_modRx
    | with_reducible apply keeps_next_
    | with_reducible apply keeps_iteO_
theorem keeps_rebuildRx (s : State) (t tick : Nat) (into : State → SigId → List Sample → State) (hf : ∀ s y b, Holds P s → Holds P (into s y b)) (hm : Holds P s) : Holds P (s.rebuildRx t tick into) := by
  unfold State.rebuildRx
  extract_lets x j miss s1
  have h1 : Holds P s1 := keeps_putRxBlocks _ _ _ _ _ _ hf hm
  apply keeps_when_
  · exact keeps_modRx _ _ _ h1
  · exact keeps_setReg _ _ _ (keeps_modRx _ _ _ h1)
theorem keeps_execRpay (t : Fin 1024) (seq index : Nat) (payload : List Byte) (at_ : Nat) (s : State) (hm : Holds P s) : OutHolds P (execRpay t seq index payload at_ s) := by
  unfold execRpay
  repeat' first
    | with_reducible assumption
    | extract_lets
    | fail_if_no_progress (with_reducible apply keeps_mk_; first | with_reducible apply keeps_fold_ | with_reducible apply keeps_memPut_ | with_reducible apply keeps_filter_)
    | with_reducible apply keeps_bump
    | with_reducible apply keeps_acceptPkt
    | with_reducible apply keeps_rebuildRx
    | with_reducible apply keeps_when_
    | with_reducible apply keeps_next_
    | with_reducible apply keeps_iteO_
    | dsimp +zetaDelta only
    | split
    | intro _
theorem keeps_execRpayTimeout (t : Fin 1024) (seq now : Nat) (s : State) (hm : Holds P s) : OutHolds P (execRpayTimeout t seq now s) := by
  unfold execRpayTimeout
  repeat' first
    | with_reducible assumption
    | extract_lets
    | fail_if_no_progress (with_reducible apply keeps_mk_; first | with_reducible apply keeps_fold_ | with_reducible apply keeps_memPut_ | with_reducible apply keeps_filter_)
    | with_reducible apply keeps_bump
    | with_reducible apply keeps_sendCell
    | with_reducible apply keeps_modRx
    | with_reducible apply keeps_next_
    | with_reducible apply keeps_iteO_
    | dsimp +zetaDelta only
    | split
theorem keeps_sendStamps (s : State) (hm : Holds P s) : Holds P (State.sendStamps s) := by
  unfold State.sendStamps
  repeat' first
    | with_reducible assumption
    | extract_lets
    | with_reducible apply keeps_sendCell
    | with_reducible apply keeps_modSap
    | with_reducible apply keeps_ite_
    | (with_reducible apply keeps_overL_; intro _ _ _)
theorem keeps_execLfwd (x : Lfwd) (s : State) (hm : Holds P s) : OutHolds P (execLfwd x s) := by
  unfold execLfwd
  repeat' first
    | with_reducible assumption
    | extract_lets
    | with_reducible apply keeps_modPair
    | with_reducible apply keeps_capture
    | with_reducible apply keeps_restamp
    | with_reducible apply keeps_modSap
    | with_reducible apply keeps_sapFree
    | with_reducible apply keeps_ite_
    | with_reducible apply keeps_next_
    | with_reducible apply keeps_iteO_
    | dsimp +zetaDelta only
    | split
theorem keeps_execIdig (t : Nat) (l : List (Nat × Nat)) (s : State) (hm : Holds P s) : OutHolds P (execIdig t l s) := by
  unfold execIdig
  repeat' first
    | with_reducible assumption
    | extract_lets
    | with_reducible apply keeps_setReg
    | with_reducible apply keeps_bump
    | with_reducible apply keeps_logEvent
    | with_reducible apply keeps_heard
    | (with_reducible apply keeps_overL_; intro _ _ _)
    | with_reducible apply keeps_next_
    | with_reducible apply keeps_iteO_
theorem keeps_execMack (seq : Nat) (s : State) (hm : Holds P s) : OutHolds P (execMack seq s) := by
  unfold execMack
  repeat' first
    | with_reducible assumption
    | extract_lets
    | with_reducible apply keeps_modPair
    | with_reducible apply keeps_heard
    | with_reducible apply keeps_next_
theorem keeps_execMackTimeout (s : State) (hm : Holds P s) : OutHolds P (execMackTimeout s) := by
  unfold execMackTimeout
  repeat' first
    | with_reducible assumption
    | extract_lets
    | with_reducible apply keeps_modPair
    | with_reducible apply keeps_pairTo
    | with_reducible apply keeps_when_
    | with_reducible apply keeps_next_
    | with_reducible apply keeps_iteO_
theorem keeps_execGraftStart (s : State) (hm : Holds P s) : OutHolds P (execGraftStart s) := by
  unfold execGraftStart
  repeat' first
    | with_reducible assumption
    | extract_lets
    | with_reducible apply keeps_reply
    | with_reducible apply keeps_graftBegin
    | with_reducible apply keeps_next_
    | with_reducible apply keeps_iteO_
theorem keeps_graftPhaseTo (s : State) (k : Nat) (hm : Holds P s) : Holds P (State.graftPhaseTo s k) := by
  unfold State.graftPhaseTo
  repeat' first
    | with_reducible assumption
    | extract_lets
    | with_reducible apply keeps_setReg
    | with_reducible apply keeps_modPair
theorem keeps_takeCopy (s : State) (c : GraftCopy) (hm : Holds P s) : Holds P (State.takeCopy s c) := by
  unfold State.takeCopy
  repeat' first
    | with_reducible assumption
    | extract_lets
    | fail_if_no_progress (with_reducible apply keeps_mk_; first | with_reducible apply keeps_fold_ | with_reducible apply keeps_memPut_ | with_reducible apply keeps_filter_)
    | with_reducible apply keeps_setReg
    | with_reducible apply keeps_setBlob
    | with_reducible apply keeps_modPlot
    | (with_reducible apply keeps_overL_; intro _ _ _)
theorem keeps_takeLasts (s : State) (c : GraftCopy) (hm : Holds P s) : Holds P (State.takeLasts s c) := by
  unfold State.takeLasts
  repeat' first
    | with_reducible assumption
    | extract_lets
    | with_reducible apply keeps_modPlot
    | with_reducible apply keeps_swap
    | (with_reducible apply keeps_overL_; intro _ _ _)
theorem keeps_execGraftPhaseComplete (partner : ChipId) (copy : GraftCopy) (s : State) (hm : Holds P s) : OutHolds P (execGraftPhaseComplete partner copy s) := by
  unfold execGraftPhaseComplete
  repeat' first
    | with_reducible assumption
    | extract_lets
    | with_reducible apply keeps_setReg
    | with_reducible apply keeps_modPair
    | with_reducible apply keeps_graftEnd
    | with_reducible apply keeps_graftPhaseTo
    | with_reducible apply keeps_takeCopy
    | with_reducible apply keeps_takeLasts
    | with_reducible apply keeps_ite_
    | with_reducible apply keeps_next_
    | with_reducible apply keeps_iteO_
    | split
theorem keeps_execGraftPhaseTimeout (partner : ChipId) (s : State) (hm : Holds P s) : OutHolds P (execGraftPhaseTimeout partner s) := by
  unfold execGraftPhaseTimeout
  repeat' first
    | with_reducible assumption
    | extract_lets
    | with_reducible apply keeps_graftEnd
    | with_reducible apply keeps_next_
    | with_reducible apply keeps_iteO_
    | split
theorem keeps_execGraftJoin (s : State) (hm : Holds P s) : OutHolds P (execGraftJoin s) := by
  unfold execGraftJoin
  repeat' first
    | with_reducible assumption
    | extract_lets
    | with_reducible apply keeps_graftEnd
    | with_reducible apply keeps_next_
    | with_reducible apply keeps_iteO_
theorem keeps_execGraftAbort (s : State) (hm : Holds P s) : OutHolds P (execGraftAbort s) := by
  unfold execGraftAbort
  repeat' first
    | with_reducible assumption
    | extract_lets
    | with_reducible apply keeps_reply
    | with_reducible apply keeps_graftEnd
    | with_reducible apply keeps_next_
theorem keeps_putPage (hc : Closed P) (s : State) (e : Nat × Nat × List Byte) (hm : Holds P s) : Holds P (State.putPage s e) := by
  unfold State.putPage
  repeat' first
    | with_reducible assumption
    | extract_lets
    | with_reducible apply keeps_modPair
    | with_reducible apply keeps_mapStore
theorem keeps_execMirror (page w : Nat) (data : List Byte) (s : State) (hm : Holds P s) : OutHolds P (execMirror page w data s) := by
  unfold execMirror
  repeat' first
    | with_reducible assumption
    | extract_lets
    | with_reducible apply keeps_modPair
    | with_reducible apply keeps_heard
    | with_reducible apply keeps_next_
    | with_reducible apply keeps_iteO_
theorem keeps_execHot (hc : Closed P) (page w : Nat) (data : List Byte) (s : State) (hm : Holds P s) : OutHolds P (execHot page w data s) := by
  unfold execHot
  repeat' first
    | with_reducible assumption
    | extract_lets
    | with_reducible apply keeps_heard
    | with_reducible apply keeps_putPage
    | with_reducible apply keeps_next_
    | with_reducible apply keeps_iteO_
theorem keeps_execPdig (l : List (Nat × Nat × Nat)) (s : State) (hm : Holds P s) : OutHolds P (execPdig l s) := by
  unfold execPdig
  repeat' first
    | with_reducible assumption
    | extract_lets
    | with_reducible apply keeps_setReg
    | with_reducible apply keeps_modPair
    | with_reducible apply keeps_sendCell
    | with_reducible apply keeps_heard
    | with_reducible apply keeps_ite_
    | with_reducible apply keeps_next_
    | with_reducible apply keeps_iteO_
theorem keeps_sendPages (s : State) (hm : Holds P s) : Holds P (State.sendPages s) := by
  unfold State.sendPages
  repeat' first
    | with_reducible assumption
    | extract_lets
    | with_reducible apply keeps_modPair
    | with_reducible apply keeps_sendCell
    | with_reducible apply keeps_ite_
    | with_reducible apply keeps_when_
    | (with_reducible apply keeps_overL_; intro _ _ _)
theorem keeps_sendHot (s : State) (hm : Holds P s) : Holds P (State.sendHot s) := by
  unfold State.sendHot
  repeat' first
    | with_reducible assumption
    | extract_lets
    | with_reducible apply keeps_sendCell
    | with_reducible apply keeps_ite_
    | (with_reducible apply keeps_overL_; intro _ _ _)
theorem keeps_execPairLeave (t : Nat) (s : State) (hm : Holds P s) : OutHolds P (execPairLeave t s) := by
  unfold execPairLeave
  repeat' first
    | with_reducible assumption
    | extract_lets
    | with_reducible apply keeps_reply
    | with_reducible apply keeps_modPair
    | with_reducible apply keeps_next_
    | with_reducible apply keeps_iteO_
theorem keeps_execPairLeaveApply (s : State) (hm : Holds P s) : OutHolds P (execPairLeaveApply s) := by
  unfold execPairLeaveApply
  repeat' first
    | with_reducible assumption
    | extract_lets
    | with_reducible apply keeps_modPair
    | with_reducible apply keeps_toStandby
    | with_reducible apply keeps_graftEnd
    | with_reducible apply keeps_next_
    | with_reducible apply keeps_iteO_
    | dsimp +zetaDelta only
    | split
theorem keeps_execPairTake (s : State) (hm : Holds P s) : OutHolds P (execPairTake s) := by
  unfold execPairTake
  repeat' first
    | with_reducible assumption
    | extract_lets
    | with_reducible apply keeps_reply
    | with_reducible apply keeps_modPair
    | with_reducible apply keeps_graftEnd
    | with_reducible apply keeps_next_
    | with_reducible apply keeps_iteO_
theorem keeps_execPairTakeApply (s : State) (hm : Holds P s) : OutHolds P (execPairTakeApply s) := by
  unfold execPairTakeApply
  repeat' first
    | with_reducible assumption
    | extract_lets
    | with_reducible apply keeps_modPair
    | with_reducible apply keeps_takeA
    | with_reducible apply keeps_next_
    | with_reducible apply keeps_iteO_
    | split
theorem keeps_sendFrames (s : State) (hm : Holds P s) : Holds P (State.sendFrames s) := by
  unfold State.sendFrames
  repeat' first
    | with_reducible assumption
    | extract_lets
    | with_reducible apply keeps_modPair
    | with_reducible apply keeps_sendCell
theorem keeps_pairBoundary (hc : Closed P) (s : State) (edge proof : Nat) (failed : Bool) (hm : Holds P s) : Holds P (State.pairBoundary s edge proof failed) := by
  unfold State.pairBoundary
  repeat' first
    | with_reducible assumption
    | extract_lets
    | with_reducible apply keeps_modPair
    | with_reducible apply keeps_graftBegin
    | with_reducible apply keeps_suspectReact
    | with_reducible apply keeps_putPage
    | with_reducible apply keeps_sendPages
    | with_reducible apply keeps_sendFrames
    | with_reducible apply keeps_ite_
    | (with_reducible apply keeps_overL_; intro _ _ _)
    | dsimp +zetaDelta only
    | split
/-! Plots. -/
theorem keeps_clearRegs (s : State) (f : Reg → Bool) (hm : Holds P s) : Holds P (State.clearRegs s f) := by
  unfold State.clearRegs
  repeat' first
    | with_reducible assumption
    | fail_if_no_progress (with_reducible apply keeps_mk_; first | with_reducible apply keeps_fold_ | with_reducible apply keeps_memPut_ | with_reducible apply keeps_filter_)
theorem keeps_flashed (s : State) (hm : Holds P s) : Holds P (State.flashed s) := by
  unfold State.flashed
  repeat' first
    | with_reducible assumption
    | extract_lets
    | with_reducible apply keeps_bump
    | with_reducible apply keeps_when_
theorem keeps_closeSession (s : State) (n : Nat) (hm : Holds P s) : Holds P (State.closeSession s n) := by
  unfold State.closeSession
  repeat' first
    | with_reducible assumption
    | extract_lets
    | fail_if_no_progress (with_reducible apply keeps_mk_; first | with_reducible apply keeps_fold_ | with_reducible apply keeps_memPut_ | with_reducible apply keeps_filter_)
theorem keeps_closeSessions (s : State) (f : Session → Bool) (hm : Holds P s) : Holds P (State.closeSessions s f) := by
  unfold State.closeSessions
  repeat' first
    | with_reducible assumption
    | extract_lets
    | with_reducible apply keeps_closeSession
    | (with_reducible apply keeps_overL_; intro _ _ _)
theorem keeps_closeRing (s : State) (r : Nat) (hm : Holds P s) : Holds P (State.closeRing s r) := by
  unfold State.closeRing
  repeat' first
    | with_reducible assumption
    | fail_if_no_progress (with_reducible apply keeps_mk_; first | with_reducible apply keeps_fold_ | with_reducible apply keeps_memPut_ | with_reducible apply keeps_filter_)
theorem keeps_closeRings (s : State) (owner : Nat) (hm : Holds P s) : Holds P (State.closeRings s owner) := by
  unfold State.closeRings
  repeat' first
    | with_reducible assumption
    | extract_lets
    | with_reducible apply keeps_closeRing
    | (with_reducible apply keeps_overL_; intro _ _ _)
theorem keeps_cutUnit (s : State) (h : Holding) (hm : Holds P s) : Holds P (State.cutUnit s h) := by
  unfold State.cutUnit
  repeat' first
    | with_reducible assumption
    | extract_lets
    | with_reducible apply keeps_streamCut
    | with_reducible apply keeps_sapCut
    | with_reducible apply keeps_pscCut
    | (with_reducible apply keeps_overN_; intro _ _ _)
    | dsimp +zetaDelta only
    | split
theorem keeps_enterScrub (s : State) (h : Holding) (returns : Bool) (hm : Holds P s) : Holds P (State.enterScrub s h returns) := by
  unfold State.enterScrub
  repeat' first
    | with_reducible assumption
    | extract_lets
    | fail_if_no_progress (with_reducible apply keeps_mk_; first | with_reducible apply keeps_fold_ | with_reducible apply keeps_memPut_ | with_reducible apply keeps_filter_)
    | with_reducible apply keeps_cutUnit
    | with_reducible apply keeps_ite_
    | (with_reducible apply keeps_overL_; intro _ _ _)
theorem keeps_scrubClear (hc : Closed P) (s : State) (h : Holding) (hm : Holds P s) : Holds P (State.scrubClear s h) := by
  unfold State.scrubClear
  repeat' first
    | with_reducible assumption
    | extract_lets
    | fail_if_no_progress (with_reducible apply keeps_mk_; first | with_reducible apply keeps_fold_ | with_reducible apply keeps_memPut_ | with_reducible apply keeps_filter_)
    | with_reducible apply keeps_setReg
    | with_reducible apply keeps_modPlot
    | with_reducible apply keeps_setCore
    | with_reducible apply keeps_clearMem
    | with_reducible apply keeps_modPort
    | with_reducible apply keeps_modPsc
    | with_reducible apply keeps_clearRegs
    | with_reducible apply keeps_when_
    | (with_reducible apply keeps_overN_; intro _ _ _)
    | dsimp +zetaDelta only
    | split
theorem keeps_refreshScrub (s : State) (p : Nat) (hm : Holds P s) : Holds P (State.refreshScrub s p) := by
  unfold State.refreshScrub
  repeat' first
    | with_reducible assumption
    | extract_lets
    | with_reducible apply keeps_setReg
theorem keeps_assigned (s : State) (p : Nat) (hm : Holds P s) : Holds P (State.assigned s p) := by
  unfold State.assigned
  repeat' first
    | with_reducible assumption
    | extract_lets
    | with_reducible apply keeps_reply
    | with_reducible apply keeps_flashed
    | with_reducible apply keeps_when_
theorem keeps_execAssignGrant (p : Fin 16) (batch : List Byte) (s : State) (hm : Holds P s) : OutHolds P (execAssignGrant p batch s) := by
  unfold execAssignGrant
  repeat' first
    | with_reducible assumption
    | extract_lets
    | with_reducible apply keeps_takeBatch
    | with_reducible apply keeps_assigned
    | with_reducible apply keeps_next_
theorem keeps_execAssignRelease (p : Fin 16) (batch : List Byte) (s : State) (hm : Holds P s) : OutHolds P (execAssignRelease p batch s) := by
  unfold execAssignRelease
  repeat' first
    | with_reducible assumption
    | extract_lets
    | with_reducible apply keeps_takeBatch
    | with_reducible apply keeps_assigned
    | with_reducible apply keeps_next_
theorem keeps_execReleaseTakeEffect (p : Fin 16) (s : State) (hm : Holds P s) : OutHolds P (execReleaseTakeEffect p s) := by
  unfold execReleaseTakeEffect
  repeat' first
    | with_reducible assumption
    | extract_lets
    | with_reducible apply keeps_modPlot
    | with_reducible apply keeps_clearOver
    | with_reducible apply keeps_enterScrub
    | with_reducible apply keeps_refreshScrub
    | (with_reducible apply keeps_overL_; intro _ _ _)
    | with_reducible apply keeps_next_
theorem keeps_execScrubComplete (hc : Closed P) (s : State) (hm : Holds P s) : OutHolds P (execScrubComplete s) := by
  unfold execScrubComplete
  repeat' first
    | with_reducible assumption
    | extract_lets
    | fail_if_no_progress (with_reducible apply keeps_mk_; first | with_reducible apply keeps_fold_ | with_reducible apply keeps_memPut_ | with_reducible apply keeps_filter_)
    | with_reducible apply keeps_scrubClear
    | with_reducible apply keeps_refreshScrub
    | (with_reducible apply keeps_overL_; intro _ _ _)
    | (with_reducible apply keeps_overN_; intro _ _ _)
    | with_reducible apply keeps_next_
theorem keeps_execQuota (p : Fin 16) (code : Fin 256) (v : Nat) (s : State) (hm : Holds P s) : OutHolds P (execQuota p code v s) := by
  unfold execQuota
  repeat' first
    | with_reducible assumption
    | extract_lets
    | with_reducible apply keeps_setReg
    | with_reducible apply keeps_orReg
    | with_reducible apply keeps_reply
    | with_reducible apply keeps_logEvent
    | with_reducible apply keeps_plotFault
    | with_reducible apply keeps_clearOver
    | with_reducible apply keeps_dropImage
    | with_reducible apply keeps_flashed
    | with_reducible apply keeps_when_
    | with_reducible apply keeps_next_
    | with_reducible apply keeps_iteO_
    | dsimp +zetaDelta only
    | split
theorem keeps_execTrim (p : Fin 16) (s : State) (hm : Holds P s) : OutHolds P (execTrim p s) := by
  unfold execTrim
  repeat' first
    | with_reducible assumption
    | extract_lets
    | with_reducible apply keeps_modPlot
    | with_reducible apply keeps_clearOver
    | with_reducible apply keeps_flashed
    | with_reducible apply keeps_enterScrub
    | with_reducible apply keeps_refreshScrub
    | (with_reducible apply keeps_overL_; intro _ _ _)
    | with_reducible apply keeps_next_
    | with_reducible apply keeps_iteO_
    | dsimp +zetaDelta only
    | split
theorem keeps_withdrawAt (s : State) (i producer consumer at_ : Nat) (hm : Holds P s) : Holds P (State.withdrawAt s i producer consumer at_) := by
  unfold State.withdrawAt
  repeat' first
    | with_reducible assumption
    | fail_if_no_progress (with_reducible apply keeps_mk_; first | with_reducible apply keeps_fold_ | with_reducible apply keeps_memPut_ | with_reducible apply keeps_filter_)
theorem keeps_formAuth (s : State) (i producer consumer : Nat) (hm : Holds P s) : Holds P (State.formAuth s i producer consumer) := by
  unfold State.formAuth
  repeat' first
    | with_reducible assumption
    | extract_lets
    | fail_if_no_progress (with_reducible apply keeps_mk_; first | with_reducible apply keeps_fold_ | with_reducible apply keeps_memPut_ | with_reducible apply keeps_filter_)
    | with_reducible apply keeps_ite_
theorem keeps_hoDone (s : State) (p code : Nat) (hm : Holds P s) : Holds P (State.hoDone s p code) := by
  unfold State.hoDone
  repeat' first
    | with_reducible assumption
    | extract_lets
    | with_reducible apply keeps_setReg
    | with_reducible apply keeps_reply
theorem keeps_execHoOffer (p : Fin 16) (w : Nat) (s : State) (hm : Holds P s) : OutHolds P (execHoOffer p w s) := by
  unfold execHoOffer
  repeat' first
    | with_reducible assumption
    | extract_lets
    | fail_if_no_progress (with_reducible apply keeps_mk_; first | with_reducible apply keeps_fold_ | with_reducible apply keeps_memPut_ | with_reducible apply keeps_filter_)
    | with_reducible apply keeps_flashed
    | with_reducible apply keeps_withdrawAt
    | with_reducible apply keeps_formAuth
    | with_reducible apply keeps_hoDone
    | (with_reducible apply keeps_overL_; intro _ _ _)
    | with_reducible apply keeps_next_
    | with_reducible apply keeps_iteO_
    | dsimp +zetaDelta only
    | split
theorem keeps_execHoAccept (p : Fin 16) (w : Nat) (s : State) (hm : Holds P s) : OutHolds P (execHoAccept p w s) := by
  unfold execHoAccept
  repeat' first
    | with_reducible assumption
    | extract_lets
    | fail_if_no_progress (with_reducible apply keeps_mk_; first | with_reducible apply keeps_fold_ | with_reducible apply keeps_memPut_ | with_reducible apply keeps_filter_)
    | with_reducible apply keeps_flashed
    | with_reducible apply keeps_formAuth
    | with_reducible apply keeps_hoDone
    | with_reducible apply keeps_next_
    | dsimp +zetaDelta only
    | split
theorem keeps_execHoWithdraw (p : Fin 16) (w : Nat) (s : State) (hm : Holds P s) : OutHolds P (execHoWithdraw p w s) := by
  unfold execHoWithdraw
  repeat' first
    | with_reducible assumption
    | extract_lets
    | fail_if_no_progress (with_reducible apply keeps_mk_; first | with_reducible apply keeps_fold_ | with_reducible apply keeps_memPut_ | with_reducible apply keeps_filter_)
    | with_reducible apply keeps_flashed
    | with_reducible apply keeps_withdrawAt
    | with_reducible apply keeps_hoDone
    | with_reducible apply keeps_next_
    | with_reducible apply keeps_iteO_
    | dsimp +zetaDelta only
    | split
theorem keeps_execHandoffForm (h : Fin 8192) (s : State) (hm : Holds P s) : OutHolds P (execHandoffForm h s) := by
  unfold execHandoffForm
  repeat' first
    | with_reducible assumption
    | extract_lets
    | fail_if_no_progress (with_reducible apply keeps_mk_; first | with_reducible apply keeps_fold_ | with_reducible apply keeps_memPut_ | with_reducible apply keeps_filter_)
    | with_reducible apply keeps_next_
theorem keeps_execHandoffWithdrawApply (h : Fin 8192) (s : State) (hm : Holds P s) : OutHolds P (execHandoffWithdrawApply h s) := by
  unfold execHandoffWithdrawApply
  repeat' first
    | with_reducible assumption
    | extract_lets
    | fail_if_no_progress (with_reducible apply keeps_mk_; first | with_reducible apply keeps_fold_ | with_reducible apply keeps_memPut_ | with_reducible apply keeps_filter_)
    | with_reducible apply keeps_plotFault
    | with_reducible apply keeps_ite_
    | (with_reducible apply keeps_overL_; intro _ _ _)
    | with_reducible apply keeps_next_
theorem keeps_execPlotReset (p : Fin 16) (keys : Bool) (s : State) (hm : Holds P s) : OutHolds P (execPlotReset p keys s) := by
  unfold execPlotReset
  repeat' first
    | with_reducible assumption
    | extract_lets
    | with_reducible apply keeps_modPlot
    | with_reducible apply keeps_reply
    | with_reducible apply keeps_next_
theorem keeps_execPlotResetAt (p : Fin 16) (keys : Bool) (t : Nat) (lateOk : Bool) (s : State) (hm : Holds P s) : OutHolds P (execPlotResetAt p keys t lateOk s) := by
  unfold execPlotResetAt
  repeat' first
    | with_reducible assumption
    | extract_lets
    | with_reducible apply keeps_modPlot
    | with_reducible apply keeps_reply
    | with_reducible apply keeps_noteAt
    | with_reducible apply keeps_next_
    | split
theorem keeps_resetPlot (s : State) (p : Nat) (keys : Bool) (hm : Holds P s) : Holds P (State.resetPlot s p keys) := by
  unfold State.resetPlot
  repeat' first
    | with_reducible assumption
    | extract_lets
    | fail_if_no_progress (with_reducible apply keeps_mk_; first | with_reducible apply keeps_fold_ | with_reducible apply keeps_memPut_ | with_reducible apply keeps_filter_)
    | with_reducible apply keeps_setRegs
    | with_reducible apply keeps_modPlot
    | with_reducible apply keeps_dropImage
    | with_reducible apply keeps_clearRegs
    | with_reducible apply keeps_closeRings
    | with_reducible apply keeps_enterScrub
    | with_reducible apply keeps_refreshScrub
    | with_reducible apply keeps_withdrawAt
    | with_reducible apply keeps_when_
    | (with_reducible apply keeps_overL_; intro _ _ _)
theorem keeps_execPlotResetApply (p : Fin 16) (s : State) (hm : Holds P s) : OutHolds P (execPlotResetApply p s) := by
  unfold execPlotResetApply
  repeat' first
    | with_reducible assumption
    | extract_lets
    | with_reducible apply keeps_resetPlot
    | with_reducible apply keeps_next_
    | with_reducible apply keeps_iteO_
theorem keeps_eraseKeys (s : State) (p : Nat) (hm : Holds P s) : Holds P (State.eraseKeys s p) := by
  unfold State.eraseKeys
  repeat' first
    | with_reducible assumption
    | extract_lets
    | with_reducible apply keeps_setRegs
    | with_reducible apply keeps_modPlot
    | with_reducible apply keeps_flashed
    | with_reducible apply keeps_closeSessions
theorem keeps_execPlotResetComplete (p : Fin 16) (s : State) (hm : Holds P s) : OutHolds P (execPlotResetComplete p s) := by
  unfold execPlotResetComplete
  repeat' first
    | with_reducible assumption
    | extract_lets
    | fail_if_no_progress (with_reducible apply keeps_mk_; first | with_reducible apply keeps_fold_ | with_reducible apply keeps_memPut_ | with_reducible apply keeps_filter_)
    | with_reducible apply keeps_setReg
    | with_reducible apply keeps_flashed
    | with_reducible apply keeps_refreshScrub
    | with_reducible apply keeps_eraseKeys
    | with_reducible apply keeps_ite_
    | (with_reducible apply keeps_overL_; intro _ _ _)
    | with_reducible apply keeps_next_
    | with_reducible apply keeps_iteO_
theorem keeps_keyWritten (s : State) (role p : Nat) (hm : Holds P s) : Holds P (State.keyWritten s role p) := by
  unfold State.keyWritten
  repeat' first
    | with_reducible assumption
    | extract_lets
    | with_reducible apply keeps_bump
    | with_reducible apply keeps_reply
    | with_reducible apply keeps_flashed
    | with_reducible apply keeps_closeSessions
theorem keeps_writeOwnerKey (s : State) (p : Nat) (key : List Byte) (hm : Holds P s) : Holds P (State.writeOwnerKey s p key) := by
  unfold State.writeOwnerKey
  repeat' first
    | with_reducible assumption
    | extract_lets
    | with_reducible apply keeps_setReg
    | with_reducible apply keeps_modPlot
    | with_reducible apply keeps_reply
    | with_reducible apply keeps_keyWritten
    | with_reducible apply keeps_ite_
    | with_reducible apply keeps_when_
theorem keeps_writeObserverKey (s : State) (p : Nat) (key : List Byte) (hm : Holds P s) : Holds P (State.writeObserverKey s p key) := by
  unfold State.writeObserverKey
  repeat' first
    | with_reducible assumption
    | extract_lets
    | with_reducible apply keeps_modPlot
    | with_reducible apply keeps_reply
    | with_reducible apply keeps_keyWritten
    | with_reducible apply keeps_ite_
theorem keeps_execOwnerKey (p : Fin 16) (n : Option (Fin 64)) (key : List Byte) (s : State) (hm : Holds P s) : OutHolds P (execOwnerKey p n key s) := by
  unfold execOwnerKey
  repeat' first
    | with_reducible assumption
    | extract_lets
    | with_reducible apply keeps_reply
    | with_reducible apply keeps_writeOwnerKey
    | with_reducible apply keeps_ite_
    | with_reducible apply keeps_next_
theorem keeps_execObserverKey (p : Fin 16) (n : Option (Fin 64)) (key : List Byte) (s : State) (hm : Holds P s) : OutHolds P (execObserverKey p n key s) := by
  unfold execObserverKey
  repeat' first
    | with_reducible assumption
    | extract_lets
    | with_reducible apply keeps_reply
    | with_reducible apply keeps_writeObserverKey
    | with_reducible apply keeps_ite_
    | with_reducible apply keeps_next_
theorem keeps_execPlotFaultClear (p : Fin 16) (m : Fin 4294967296) (s : State) (hm : Holds P s) : OutHolds P (execPlotFaultClear p m s) := by
  unfold execPlotFaultClear
  repeat' first
    | with_reducible assumption
    | extract_lets
    | with_reducible apply keeps_setReg
    | with_reducible apply keeps_reply
    | with_reducible apply keeps_next_
/-! Reset. -/
theorem keeps_modRst (s : State) (f : RstSt → RstSt) (hm : Holds P s) : Holds P (State.modRst s f) := by
  unfold State.modRst
  repeat' first
    | with_reducible assumption
    | fail_if_no_progress (with_reducible apply keeps_mk_; first | with_reducible apply keeps_fold_ | with_reducible apply keeps_memPut_ | with_reducible apply keeps_filter_)
theorem keeps_modBrace (s : State) (f : BraceSt → BraceSt) (hm : Holds P s) : Holds P (State.modBrace s f) := by
  unfold State.modBrace
  repeat' first
    | with_reducible assumption
    | fail_if_no_progress (with_reducible apply keeps_mk_; first | with_reducible apply keeps_fold_ | with_reducible apply keeps_memPut_ | with_reducible apply keeps_filter_)
theorem keeps_ask (s : State) (kind src : Nat) (hm : Holds P s) : Holds P (State.ask s kind src) := by
  unfold State.ask
  repeat' first
    | with_reducible assumption
    | with_reducible apply keeps_modRst
theorem keeps_holdReset (s : State) (src : Nat) (hm : Holds P s) : Holds P (State.holdReset s src) := by
  unfold State.holdReset
  repeat' first
    | with_reducible assumption
    | extract_lets
    | with_reducible apply keeps_refreshFaults
    | with_reducible apply keeps_modRst
theorem keeps_releaseReset (s : State) (src : Nat) (hm : Holds P s) : Holds P (State.releaseReset s src) := by
  unfold State.releaseReset
  repeat' first
    | with_reducible assumption
    | extract_lets
    | with_reducible apply keeps_refreshFaults
    | with_reducible apply keeps_modRst
theorem keeps_holdFlash (s : State) (b : Nat) (hm : Holds P s) : Holds P (State.holdFlash s b) := by
  unfold State.holdFlash
  repeat' first
    | with_reducible assumption
    | extract_lets
    | with_reducible apply keeps_orReg
    | with_reducible apply keeps_modRst
theorem keeps_restoreFlash (s : State) (hm : Holds P s) : Holds P (State.restoreFlash s) := by
  unfold State.restoreFlash
  repeat' first
    | with_reducible assumption
    | extract_lets
    | fail_if_no_progress (with_reducible apply keeps_mk_; first | with_reducible apply keeps_fold_ | with_reducible apply keeps_memPut_ | with_reducible apply keeps_filter_)
    | with_reducible apply keeps_setReg
    | with_reducible apply keeps_orReg
    | with_reducible apply keeps_refreshScrub
    | with_reducible apply keeps_modRst
    | with_reducible apply keeps_when_
    | (with_reducible apply keeps_overL_; intro _ _ _)
    | (with_reducible apply keeps_overN_; intro _ _ _)
theorem keeps_execOptBlock (b : List Byte) (s : State) (hm : Holds P s) : OutHolds P (execOptBlock b s) := by
  unfold execOptBlock
  repeat' first
    | with_reducible assumption
    | extract_lets
    | with_reducible apply keeps_reply
    | with_reducible apply keeps_flashed
    | with_reducible apply keeps_modRst
    | with_reducible apply keeps_next_
    | with_reducible apply keeps_iteO_
theorem keeps_fwWritten (s : State) (ok : Bool) (build : Nat) (hm : Holds P s) : Holds P (State.fwWritten s ok build) := by
  unfold State.fwWritten
  repeat' first
    | with_reducible assumption
    | extract_lets
    | with_reducible apply keeps_setReg
    | with_reducible apply keeps_modRst
theorem keeps_execFwStage (len : Nat) (ok : Bool) (build : Nat) (s : State) (hm : Holds P s) : OutHolds P (execFwStage len ok build s) := by
  unfold execFwStage
  repeat' first
    | with_reducible assumption
    | extract_lets
    | with_reducible apply keeps_setReg
    | with_reducible apply keeps_reply
    | with_reducible apply keeps_flashed
    | with_reducible apply keeps_modRst
    | with_reducible apply keeps_fwWritten
    | with_reducible apply keeps_next_
    | with_reducible apply keeps_iteO_
theorem keeps_execFwSwitch (s : State) (hm : Holds P s) : OutHolds P (execFwSwitch s) := by
  unfold execFwSwitch
  repeat' first
    | with_reducible assumption
    | extract_lets
    | with_reducible apply keeps_setReg
    | with_reducible apply keeps_reply
    | with_reducible apply keeps_modRst
    | with_reducible apply keeps_next_
    | with_reducible apply keeps_iteO_
theorem keeps_execPowerOnReset (s : State) (hm : Holds P s) : OutHolds P (execPowerOnReset s) := by
  unfold execPowerOnReset
  repeat' first
    | with_reducible assumption
    | extract_lets
    | with_reducible apply keeps_ask
    | with_reducible apply keeps_next_
theorem keeps_execResetPin (s : State) (hm : Holds P s) : OutHolds P (execResetPin s) := by
  unfold execResetPin
  repeat' first
    | with_reducible assumption
    | extract_lets
    | with_reducible apply keeps_bump
    | with_reducible apply keeps_ask
    | with_reducible apply keeps_holdReset
    | with_reducible apply keeps_next_
    | with_reducible apply keeps_iteO_
theorem keeps_readTj (s : State) (t : Int) (hm : Holds P s) : Holds P (State.readTj s t) := by
  unfold State.readTj
  repeat' first
    | with_reducible assumption
    | extract_lets
    | with_reducible apply keeps_setReg
    | with_reducible apply keeps_when_
theorem keeps_execTjOvertemp (tenths : Int) (s : State) (hm : Holds P s) : OutHolds P (execTjOvertemp tenths s) := by
  unfold execTjOvertemp
  repeat' first
    | with_reducible assumption
    | extract_lets
    | with_reducible apply keeps_ask
    | with_reducible apply keeps_holdReset
    | with_reducible apply keeps_readTj
    | with_reducible apply keeps_next_
    | with_reducible apply keeps_iteO_
theorem keeps_resetCmd (s : State) (kind port : Nat) (hm : Holds P s) : Holds P (State.resetCmd s kind port) := by
  unfold State.resetCmd
  repeat' first
    | with_reducible assumption
    | extract_lets
    | with_reducible apply keeps_reply
    | with_reducible apply keeps_modRst
theorem keeps_execRstCmdCold (s : State) (hm : Holds P s) : OutHolds P (execRstCmdCold s) := by
  unfold execRstCmdCold
  repeat' first
    | with_reducible assumption
    | extract_lets
    | with_reducible apply keeps_resetCmd
    | with_reducible apply keeps_next_
theorem keeps_execRstCmdWarm (s : State) (hm : Holds P s) : OutHolds P (execRstCmdWarm s) := by
  unfold execRstCmdWarm
  repeat' first
    | with_reducible assumption
    | extract_lets
    | with_reducible apply keeps_resetCmd
    | with_reducible apply keeps_next_
theorem keeps_execRstCmdGardener (s : State) (hm : Holds P s) : OutHolds P (execRstCmdGardener s) := by
  unfold execRstCmdGardener
  repeat' first
    | with_reducible assumption
    | extract_lets
    | with_reducible apply keeps_resetCmd
    | with_reducible apply keeps_next_
theorem keeps_execRstCmdPort (port : Fin 28) (s : State) (hm : Holds P s) : OutHolds P (execRstCmdPort port s) := by
  unfold execRstCmdPort
  repeat' first
    | with_reducible assumption
    | extract_lets
    | with_reducible apply keeps_resetCmd
    | with_reducible apply keeps_next_
theorem keeps_execResetCmdApply (s : State) (hm : Holds P s) : OutHolds P (execResetCmdApply s) := by
  unfold execResetCmdApply
  repeat' first
    | with_reducible assumption
    | extract_lets
    | with_reducible apply keeps_modRst
    | with_reducible apply keeps_ask
    | (with_reducible apply keeps_overL_; intro _ _ _)
    | with_reducible apply keeps_next_
    | split
theorem keeps_execWatchdogExpire (now : Nat) (s : State) (hm : Holds P s) : OutHolds P (execWatchdogExpire now s) := by
  unfold execWatchdogExpire
  repeat' first
    | with_reducible assumption
    | extract_lets
    | with_reducible apply keeps_modRst
    | with_reducible apply keeps_ask
    | with_reducible apply keeps_next_
    | with_reducible apply keeps_iteO_
theorem keeps_coldReset (ht : AnyTick P) (hc : Closed P) (s : State) (kind src : Nat) (hm : Holds P s) : Holds P (State.coldReset s kind src) := by
  unfold State.coldReset
  extract_lets power z held rst addr lg0 lg s1 paired s2 s3
  have h1 : Holds P s1 := ht.any _ _ _ _ (hc.nil _ _ _ hm)
  apply keeps_refreshFaults
  apply keeps_when_
  · exact keeps_setRegs _ _ h1
  · exact keeps_setReg _ _ _ (keeps_setReg _ _ _ (keeps_setRegs _ _ h1))
theorem keeps_warmReset (hc : Closed P) (s : State) (hm : Holds P s) : Holds P (State.warmReset s) := by
  unfold State.warmReset
  repeat' first
    | with_reducible assumption
    | extract_lets
    | fail_if_no_progress (with_reducible apply keeps_mk_; first | with_reducible apply keeps_fold_ | with_reducible apply keeps_memPut_ | with_reducible apply keeps_filter_)
    | with_reducible apply keeps_fold_
    | with_reducible apply keeps_setReg
    | with_reducible apply keeps_setRegs
    | with_reducible apply keeps_modPlot
    | with_reducible apply keeps_logEvent
    | with_reducible apply keeps_dropNoted
    | with_reducible apply keeps_dropImage
    | with_reducible apply keeps_graftEnd
    | with_reducible apply keeps_clearRegs
    | with_reducible apply keeps_when_
    | (with_reducible apply keeps_overL_; intro _ _ _)
    | (with_reducible apply keeps_overN_; intro _ _ _)
    | split
theorem keeps_leavePair (s : State) (hm : Holds P s) : Holds P (State.leavePair s) := by
  unfold State.leavePair
  repeat' first
    | with_reducible assumption
    | extract_lets
    | fail_if_no_progress (with_reducible apply keeps_mk_; first | with_reducible apply keeps_fold_ | with_reducible apply keeps_memPut_ | with_reducible apply keeps_filter_)
    | with_reducible apply keeps_setRegs
    | with_reducible apply keeps_ite_
theorem keeps_gardenerReset (s : State) (hm : Holds P s) : Holds P (State.gardenerReset s) := by
  unfold State.gardenerReset
  repeat' first
    | with_reducible assumption
    | extract_lets
    | fail_if_no_progress (with_reducible apply keeps_mk_; first | with_reducible apply keeps_fold_ | with_reducible apply keeps_memPut_ | with_reducible apply keeps_filter_)
    | with_reducible apply keeps_restartPtp
    | with_reducible apply keeps_assignWaiting
    | with_reducible apply keeps_dropImage
    | with_reducible apply keeps_graftEnd
    | with_reducible apply keeps_when_
    | (with_reducible apply keeps_overN_; intro _ _ _)
theorem keeps_bootOther (s : State) (cause : Nat) (fell : Bool) (hm : Holds P s) : Holds P (State.bootOther s cause fell) := by
  unfold State.bootOther
  repeat' first
    | with_reducible assumption
    | extract_lets
    | with_reducible apply keeps_setReg
    | with_reducible apply keeps_logEvent
    | with_reducible apply keeps_modRst
    | with_reducible apply keeps_ite_
theorem keeps_enterReset (ht : AnyTick P) (hc : Closed P) (s : State) (kind src : Nat) (hm : Holds P s) : Holds P (State.enterReset s kind src) := by
  unfold State.enterReset
  repeat' first
    | with_reducible assumption
    | extract_lets
    | with_reducible apply keeps_setReg
    | with_reducible apply keeps_logKeep
    | with_reducible apply keeps_modRst
    | with_reducible apply keeps_coldReset
    | with_reducible apply keeps_warmReset
    | with_reducible apply keeps_leavePair
    | with_reducible apply keeps_gardenerReset
    | with_reducible apply keeps_bootOther
    | with_reducible apply keeps_ite_
    | with_reducible apply keeps_when_
theorem keeps_portReset (s : State) (port : Nat) (hm : Holds P s) : Holds P (State.portReset s port) := by
  unfold State.portReset
  repeat' first
    | with_reducible assumption
    | extract_lets
    | with_reducible apply keeps_setReg
    | with_reducible apply keeps_bump
    | with_reducible apply keeps_modPort
    | with_reducible apply keeps_linkDown
    | with_reducible apply keeps_weltDown
    | with_reducible apply keeps_clearRegs
    | with_reducible apply keeps_modRst
    | with_reducible apply keeps_ite_
    | with_reducible apply keeps_when_
theorem keeps_execResetEnter (ht : AnyTick P) (hc : Closed P) (s : State) (hm : Holds P s) : OutHolds P (execResetEnter s) := by
  unfold execResetEnter
  repeat' first
    | with_reducible assumption
    | extract_lets
    | with_reducible apply keeps_bump
    | with_reducible apply keeps_modRst
    | with_reducible apply keeps_enterReset
    | with_reducible apply keeps_portReset
    | with_reducible apply keeps_ite_
    | with_reducible apply keeps_when_
    | (with_reducible apply keeps_overL_; intro _ _ _)
    | with_reducible apply keeps_next_
    | dsimp +zetaDelta only
    | split
theorem keeps_execResetSourceClear (src : Fin 13) (s : State) (hm : Holds P s) : OutHolds P (execResetSourceClear src s) := by
  unfold execResetSourceClear
  repeat' first
    | with_reducible assumption
    | extract_lets
    | with_reducible apply keeps_setReg
    | with_reducible apply keeps_releaseReset
    | with_reducible apply keeps_when_
    | with_reducible apply keeps_next_
theorem keeps_execStretchEnd (port : Option (Fin 28)) (s : State) (hm : Holds P s) : OutHolds P (execStretchEnd port s) := by
  unfold execStretchEnd
  repeat' first
    | with_reducible assumption
    | extract_lets
    | with_reducible apply keeps_setReg
    | with_reducible apply keeps_modRst
    | with_reducible apply keeps_when_
    | with_reducible apply keeps_next_
    | with_reducible apply keeps_iteO_
    | dsimp +zetaDelta only
    | split
theorem keeps_optionLoad (s : State) (rep : BringUp) (hm : Holds P s) : Holds P (State.optionLoad s rep) := by
  unfold State.optionLoad
  repeat' first
    | with_reducible assumption
    | extract_lets
    | with_reducible apply keeps_setReg
    | with_reducible apply keeps_setRegs
    | with_reducible apply keeps_refreshFaults
    | with_reducible apply keeps_modRst
theorem keeps_memoryDone (s : State) (rep : BringUp) (hm : Holds P s) : Holds P (State.memoryDone s rep) := by
  unfold State.memoryDone
  repeat' first
    | with_reducible assumption
    | extract_lets
    | fail_if_no_progress (with_reducible apply keeps_mk_; first | with_reducible apply keeps_fold_ | with_reducible apply keeps_memPut_ | with_reducible apply keeps_filter_)
    | with_reducible apply keeps_refreshFaults
    | with_reducible apply keeps_logRestore
    | with_reducible apply keeps_modRst
    | with_reducible apply keeps_ite_
theorem keeps_execBringupPhaseDone (rep : BringUp) (s : State) (hm : Holds P s) : OutHolds P (execBringupPhaseDone rep s) := by
  unfold execBringupPhaseDone
  repeat' first
    | with_reducible assumption
    | extract_lets
    | with_reducible apply keeps_modRst
    | with_reducible apply keeps_optionLoad
    | with_reducible apply keeps_memoryDone
    | with_reducible apply keeps_next_
    | with_reducible apply keeps_iteO_
    | split
theorem keeps_refreshT1s (s : State) (hm : Holds P s) : Holds P (State.refreshT1s s) := by
  unfold State.refreshT1s
  repeat' first
    | with_reducible assumption
    | extract_lets
    | with_reducible apply keeps_setReg
theorem keeps_addrStart (s : State) (hm : Holds P s) : Holds P (State.addrStart s) := by
  unfold State.addrStart
  repeat' first
    | with_reducible assumption
    | extract_lets
    | fail_if_no_progress (with_reducible apply keeps_mk_; first | with_reducible apply keeps_fold_ | with_reducible apply keeps_memPut_ | with_reducible apply keeps_filter_)
    | with_reducible apply keeps_setReg
    | with_reducible apply keeps_setRegs
    | with_reducible apply keeps_ite_
theorem keeps_restartUnit (s : State) (e : Nat × Nat) (hm : Holds P s) : Holds P (State.restartUnit s e) := by
  unfold State.restartUnit
  repeat' first
    | with_reducible assumption
    | extract_lets
    | with_reducible apply keeps_setReg
    | with_reducible apply keeps_setRegs
    | with_reducible apply keeps_setActs
    | with_reducible apply keeps_modSap
    | with_reducible apply keeps_modPsc
    | split
theorem keeps_restartUnits (s : State) (f : Nat × Nat → Bool) (hm : Holds P s) : Holds P (State.restartUnits s f) := by
  unfold State.restartUnits
  repeat' first
    | with_reducible assumption
    | extract_lets
    | with_reducible apply keeps_refreshMc
    | with_reducible apply keeps_modRst
    | with_reducible apply keeps_restartUnit
    | (with_reducible apply keeps_overL_; intro _ _ _)
theorem keeps_warmRestore (s : State) (hm : Holds P s) : Holds P (State.warmRestore s) := by
  unfold State.warmRestore
  repeat' first
    | with_reducible assumption
    | extract_lets
    | with_reducible apply keeps_setReg
    | with_reducible apply keeps_modPlot
    | with_reducible apply keeps_resetPlot
    | with_reducible apply keeps_modRst
    | with_reducible apply keeps_restartUnits
    | with_reducible apply keeps_ite_
    | (with_reducible apply keeps_overL_; intro _ _ _)
    | (with_reducible apply keeps_overN_; intro _ _ _)
theorem keeps_returnFrom (s : State) (now : Nat) (hm : Holds P s) : Holds P (State.returnFrom s now) := by
  unfold State.returnFrom
  repeat' first
    | with_reducible assumption
    | extract_lets
    | with_reducible apply keeps_modBrace
theorem keeps_braceResume (s : State) (now : Nat) (hm : Holds P s) : Holds P (State.braceResume s now) := by
  unfold State.braceResume
  repeat' first
    | with_reducible assumption
    | extract_lets
    | with_reducible apply keeps_setReg
    | with_reducible apply keeps_orReg
    | with_reducible apply keeps_pscBrace
    | with_reducible apply keeps_modBrace
    | with_reducible apply keeps_returnFrom
    | with_reducible apply keeps_ite_
theorem keeps_startCount (ht : AnyTick P) (s : State) (hm : Holds P s) : Holds P (State.startCount s) := by
  unfold State.startCount
  repeat' first
    | with_reducible assumption
    | extract_lets
    | fail_if_no_progress (with_reducible apply keeps_mk_; first | with_reducible apply keeps_fold_ | with_reducible apply keeps_memPut_ | with_reducible apply keeps_filter_ | (with_reducible apply keeps_tick_; with_reducible exact ht; with_reducible apply keeps_fold_))
    | with_reducible apply keeps_modClk
    | with_reducible apply keeps_shiftTicks
    | with_reducible apply keeps_ite_
theorem keeps_execFirmwareReady (ht : AnyTick P) (now : Nat) (s : State) (hm : Holds P s) : OutHolds P (execFirmwareReady now s) := by
  unfold execFirmwareReady
  repeat' first
    | with_reducible assumption
    | extract_lets
    | with_reducible apply keeps_setReg
    | with_reducible apply keeps_logEvent
    | with_reducible apply keeps_modPair
    | with_reducible apply keeps_resetPlot
    | with_reducible apply keeps_modRst
    | with_reducible apply keeps_restoreFlash
    | with_reducible apply keeps_refreshT1s
    | with_reducible apply keeps_addrStart
    | with_reducible apply keeps_warmRestore
    | with_reducible apply keeps_braceResume
    | with_reducible apply keeps_startCount
    | with_reducible apply keeps_when_
    | (with_reducible apply keeps_overL_; intro _ _ _)
    | with_reducible apply keeps_next_
    | with_reducible apply keeps_iteO_
theorem keeps_execFwReadyTimeout (now : Nat) (s : State) (hm : Holds P s) : OutHolds P (execFwReadyTimeout now s) := by
  unfold execFwReadyTimeout
  repeat' first
    | with_reducible assumption
    | extract_lets
    | with_reducible apply keeps_bump
    | with_reducible apply keeps_refreshFaults
    | with_reducible apply keeps_modRst
    | with_reducible apply keeps_bootOther
    | with_reducible apply keeps_next_
    | with_reducible apply keeps_iteO_
theorem keeps_execLastSwap (p : Fin 16) (s : State) (hm : Holds P s) : OutHolds P (execLastSwap p s) := by
  unfold execLastSwap
  repeat' first
    | with_reducible assumption
    | extract_lets
    | with_reducible apply keeps_swapDue
    | with_reducible apply keeps_restartUnits
    | with_reducible apply keeps_when_
    | with_reducible apply keeps_next_
theorem keeps_refreshSupply (s : State) (hm : Holds P s) : Holds P (State.refreshSupply s) := by
  unfold State.refreshSupply
  repeat' first
    | with_reducible assumption
    | extract_lets
    | with_reducible apply keeps_setReg
    | with_reducible apply keeps_logKeep
    | with_reducible apply keeps_notifyGardener
    | with_reducible apply keeps_ite_
theorem keeps_caution (s : State) (b : Nat) (hm : Holds P s) : Holds P (State.caution s b) := by
  unfold State.caution
  repeat' first
    | with_reducible assumption
    | extract_lets
    | with_reducible apply keeps_bump
    | with_reducible apply keeps_orReg
    | with_reducible apply keeps_holdFlash
    | with_reducible apply keeps_ite_
theorem keeps_supClear (s : State) (b : Nat) (hm : Holds P s) : Holds P (State.supClear s b) := by
  unfold State.supClear
  repeat' first
    | with_reducible assumption
    | with_reducible apply keeps_setReg
theorem keeps_sendBrace (s : State) (t k : Nat) (hm : Holds P s) : Holds P (State.sendBrace s t k) := by
  unfold State.sendBrace
  repeat' first
    | with_reducible assumption
    | extract_lets
    | with_reducible apply keeps_sendMgmt
    | with_reducible apply keeps_when_
theorem keeps_braceEvent (s : State) (p1 now : Nat) (hm : Holds P s) : Holds P (State.braceEvent s p1 now) := by
  unfold State.braceEvent
  repeat' first
    | with_reducible assumption
    | extract_lets
    | with_reducible apply keeps_bump
    | with_reducible apply keeps_setRegs
    | with_reducible apply keeps_logKeep
    | with_reducible apply keeps_modBrace
    | with_reducible apply keeps_holdFlash
    | with_reducible apply keeps_sendBrace
    | with_reducible apply keeps_ite_
theorem keeps_execRailCrossing (r : Fin 8) (th : Fin 5) (now : Nat) (s : State) (hm : Holds P s) : OutHolds P (execRailCrossing r th now s) := by
  unfold execRailCrossing
  repeat' first
    | with_reducible assumption
    | extract_lets
    | with_reducible apply keeps_bump
    | with_reducible apply keeps_orReg
    | with_reducible apply keeps_ask
    | with_reducible apply keeps_holdReset
    | with_reducible apply keeps_leavePair
    | with_reducible apply keeps_refreshSupply
    | with_reducible apply keeps_caution
    | with_reducible apply keeps_braceEvent
    | with_reducible apply keeps_when_
    | with_reducible apply keeps_next_
    | with_reducible apply keeps_iteO_
    | dsimp +zetaDelta only
    | split
theorem keeps_execRailClear (r : Fin 8) (th : Fin 5) (now : Nat) (s : State) (hm : Holds P s) : OutHolds P (execRailClear r th now s) := by
  unfold execRailClear
  repeat' first
    | with_reducible assumption
    | extract_lets
    | with_reducible apply keeps_modBrace
    | with_reducible apply keeps_releaseReset
    | with_reducible apply keeps_returnFrom
    | with_reducible apply keeps_refreshSupply
    | with_reducible apply keeps_supClear
    | with_reducible apply keeps_next_
    | dsimp +zetaDelta only
    | split
theorem keeps_execJunctionCaution (above : Bool) (tenths : Int) (now : Nat) (s : State) (hm : Holds P s) : OutHolds P (execJunctionCaution above tenths now s) := by
  unfold execJunctionCaution
  repeat' first
    | with_reducible assumption
    | extract_lets
    | with_reducible apply keeps_modBrace
    | with_reducible apply keeps_readTj
    | with_reducible apply keeps_refreshSupply
    | with_reducible apply keeps_caution
    | with_reducible apply keeps_supClear
    | with_reducible apply keeps_next_
    | with_reducible apply keeps_iteO_
theorem keeps_execFlashHoldEnd (now : Nat) (s : State) (hm : Holds P s) : OutHolds P (execFlashHoldEnd now s) := by
  unfold execFlashHoldEnd
  repeat' first
    | with_reducible assumption
    | extract_lets
    | with_reducible apply keeps_setRegs
    | with_reducible apply keeps_modRst
    | with_reducible apply keeps_fwWritten
    | with_reducible apply keeps_next_
    | with_reducible apply keeps_iteO_
    | dsimp +zetaDelta only
    | split
theorem keeps_toBraced (s : State) (now : Nat) (hm : Holds P s) : Holds P (State.toBraced s now) := by
  unfold State.toBraced
  repeat' first
    | with_reducible assumption
    | extract_lets
    | with_reducible apply keeps_setReg
    | with_reducible apply keeps_modBrace
theorem keeps_execPwrMainOkChange (level : Bool) (now : Nat) (s : State) (hm : Holds P s) : OutHolds P (execPwrMainOkChange level now s) := by
  unfold execPwrMainOkChange
  repeat' first
    | with_reducible assumption
    | extract_lets
    | with_reducible apply keeps_setReg
    | with_reducible apply keeps_orReg
    | with_reducible apply keeps_returnFrom
    | with_reducible apply keeps_braceEvent
    | with_reducible apply keeps_next_
    | with_reducible apply keeps_iteO_
theorem keeps_execPwrBattOnChange (level : Bool) (now : Nat) (s : State) (hm : Holds P s) : OutHolds P (execPwrBattOnChange level now s) := by
  unfold execPwrBattOnChange
  repeat' first
    | with_reducible assumption
    | extract_lets
    | with_reducible apply keeps_setReg
    | with_reducible apply keeps_orReg
    | with_reducible apply keeps_toBraced
    | with_reducible apply keeps_when_
    | with_reducible apply keeps_next_
    | with_reducible apply keeps_iteO_
theorem keeps_execBracePolicyApply (s : State) (hm : Holds P s) : OutHolds P (execBracePolicyApply s) := by
  unfold execBracePolicyApply
  repeat' first
    | with_reducible assumption
    | extract_lets
    | with_reducible apply keeps_orReg
    | with_reducible apply keeps_pscBrace
    | with_reducible apply keeps_modBrace
    | with_reducible apply keeps_toBraced
    | with_reducible apply keeps_when_
    | with_reducible apply keeps_next_
    | with_reducible apply keeps_iteO_
    | dsimp +zetaDelta only
    | split
theorem keeps_execBattMissing (now : Nat) (s : State) (hm : Holds P s) : OutHolds P (execBattMissing now s) := by
  unfold execBattMissing
  repeat' first
    | with_reducible assumption
    | extract_lets
    | with_reducible apply keeps_orReg
    | with_reducible apply keeps_logKeep
    | with_reducible apply keeps_toBraced
    | with_reducible apply keeps_next_
    | with_reducible apply keeps_iteO_
theorem keeps_execUnbrace (now : Nat) (s : State) (hm : Holds P s) : OutHolds P (execUnbrace now s) := by
  unfold execUnbrace
  repeat' first
    | with_reducible assumption
    | extract_lets
    | with_reducible apply keeps_setReg
    | with_reducible apply keeps_logEvent
    | with_reducible apply keeps_pscUnbrace
    | with_reducible apply keeps_modBrace
    | with_reducible apply keeps_sendBrace
    | with_reducible apply keeps_next_
    | with_reducible apply keeps_iteO_
    | dsimp +zetaDelta only
    | split
theorem keeps_execUnbraceComplete (now : Nat) (s : State) (hm : Holds P s) : OutHolds P (execUnbraceComplete now s) := by
  unfold execUnbraceComplete
  repeat' first
    | with_reducible assumption
    | extract_lets
    | with_reducible apply keeps_setReg
    | with_reducible apply keeps_modBrace
    | with_reducible apply keeps_next_
    | with_reducible apply keeps_iteO_
theorem keeps_pcieDown (s : State) (hm : Holds P s) : Holds P (State.pcieDown s) := by
  unfold State.pcieDown
  repeat' first
    | with_reducible assumption
    | extract_lets
    | fail_if_no_progress (with_reducible apply keeps_mk_; first | with_reducible apply keeps_fold_ | with_reducible apply keeps_memPut_ | with_reducible apply keeps_filter_)
    | with_reducible apply keeps_closeSessions
    | with_reducible apply keeps_closeRing
    | (with_reducible apply keeps_overL_; intro _ _ _)
theorem keeps_execClockLoss (d : Fin 26) (s : State) (hm : Holds P s) : OutHolds P (execClockLoss d s) := by
  unfold execClockLoss
  repeat' first
    | with_reducible assumption
    | extract_lets
    | with_reducible apply keeps_setReg
    | with_reducible apply keeps_bump
    | with_reducible apply keeps_logKeep
    | with_reducible apply keeps_stick
    | with_reducible apply keeps_toHoldover
    | with_reducible apply keeps_linkDown
    | with_reducible apply keeps_weltDown
    | with_reducible apply keeps_ask
    | with_reducible apply keeps_holdReset
    | with_reducible apply keeps_leavePair
    | with_reducible apply keeps_pcieDown
    | with_reducible apply keeps_when_
    | (with_reducible apply keeps_overN_; intro _ _ _)
    | with_reducible apply keeps_next_
    | with_reducible apply keeps_iteO_
    | dsimp +zetaDelta only
    | split
/-! Meters. -/
theorem keeps_execMtrSet (p : Fin 16) (recs : List Byte) (s : State) (hm : Holds P s) : OutHolds P (execMtrSet p recs s) := by
  unfold execMtrSet
  repeat' first
    | with_reducible assumption
    | extract_lets
    | with_reducible apply keeps_setReg
    | with_reducible apply keeps_setBlob
    | with_reducible apply keeps_modPlot
    | with_reducible apply keeps_reply
    | with_reducible apply keeps_next_
    | dsimp +zetaDelta only
    | split
theorem keeps_execMtrPeriod (p : Fin 16) (v : Nat) (s : State) (hm : Holds P s) : OutHolds P (execMtrPeriod p v s) := by
  unfold execMtrPeriod
  repeat' first
    | with_reducible assumption
    | extract_lets
    | with_reducible apply keeps_setRegs
    | with_reducible apply keeps_modPlot
    | with_reducible apply keeps_reply
    | with_reducible apply keeps_next_
    | with_reducible apply keeps_iteO_
theorem keeps_execMeterSetApply (p : Fin 16) (s : State) (hm : Holds P s) : OutHolds P (execMeterSetApply p s) := by
  unfold execMeterSetApply
  repeat' first
    | with_reducible assumption
    | extract_lets
    | with_reducible apply keeps_setBlob
    | with_reducible apply keeps_setRegs
    | with_reducible apply keeps_modPlot
    | with_reducible apply keeps_notifyPlot
    | with_reducible apply keeps_next_
    | with_reducible apply keeps_iteO_
theorem keeps_meterTick (s : State) (p : Nat) (hm : Holds P s) : Holds P (State.meterTick s p) := by
  unfold State.meterTick
  repeat' first
    | with_reducible assumption
    | extract_lets
    | with_reducible apply keeps_modPlot
    | with_reducible apply keeps_ite_
theorem keeps_execMeterPeriodEnd (p : Fin 16) (s : State) (hm : Holds P s) : OutHolds P (execMeterPeriodEnd p s) := by
  unfold execMeterPeriodEnd
  repeat' first
    | with_reducible assumption
    | extract_lets
    | fail_if_no_progress (with_reducible apply keeps_mk_; first | with_reducible apply keeps_fold_ | with_reducible apply keeps_memPut_ | with_reducible apply keeps_filter_)
    | with_reducible apply keeps_setReg
    | with_reducible apply keeps_setBlob
    | with_reducible apply keeps_modPlot
    | with_reducible apply keeps_next_
    | dsimp +zetaDelta only
    | split
/-! Address. -/
theorem keeps_execT1sAccess (v : Nat) (s : State) (hm : Holds P s) : OutHolds P (execT1sAccess v s) := by
  unfold execT1sAccess
  repeat' first
    | with_reducible assumption
    | extract_lets
    | with_reducible apply keeps_setReg
    | with_reducible apply keeps_reply
    | with_reducible apply keeps_refreshT1s
    | with_reducible apply keeps_next_
    | with_reducible apply keeps_iteO_
theorem keeps_takeNext (s : State) (hm : Holds P s) : Holds P (State.takeNext s) := by
  unfold State.takeNext
  repeat' first
    | with_reducible assumption
    | extract_lets
    | fail_if_no_progress (with_reducible apply keeps_mk_; first | with_reducible apply keeps_fold_ | with_reducible apply keeps_memPut_ | with_reducible apply keeps_filter_)
    | with_reducible apply keeps_setReg
    | with_reducible apply keeps_setRegs
    | with_reducible apply keeps_flashed
    | with_reducible apply keeps_refreshT1s
    | with_reducible apply keeps_ite_
theorem keeps_execAddrAnnounce (a : Fin 256) (uid : Nat) (s : State) (hm : Holds P s) : OutHolds P (execAddrAnnounce a uid s) := by
  unfold execAddrAnnounce
  repeat' first
    | with_reducible assumption
    | extract_lets
    | fail_if_no_progress (with_reducible apply keeps_mk_; first | with_reducible apply keeps_fold_ | with_reducible apply keeps_memPut_ | with_reducible apply keeps_filter_)
    | with_reducible apply keeps_setReg
    | with_reducible apply keeps_orReg
    | with_reducible apply keeps_takeNext
    | with_reducible apply keeps_ite_
    | with_reducible apply keeps_when_
    | with_reducible apply keeps_next_
    | with_reducible apply keeps_iteO_
theorem keeps_execChainInHigh (now : Nat) (s : State) (hm : Holds P s) : OutHolds P (execChainInHigh now s) := by
  unfold execChainInHigh
  repeat' first
    | with_reducible assumption
    | extract_lets
    | fail_if_no_progress (with_reducible apply keeps_mk_; first | with_reducible apply keeps_fold_ | with_reducible apply keeps_memPut_ | with_reducible apply keeps_filter_)
    | with_reducible apply keeps_next_
theorem keeps_execChainAddressTake (now : Nat) (s : State) (hm : Holds P s) : OutHolds P (execChainAddressTake now s) := by
  unfold execChainAddressTake
  repeat' first
    | with_reducible assumption
    | extract_lets
    | with_reducible apply keeps_takeNext
    | with_reducible apply keeps_next_
    | with_reducible apply keeps_iteO_
    | split
theorem keeps_execAddrAnnounceTx (now : Nat) (s : State) (hm : Holds P s) : OutHolds P (execAddrAnnounceTx now s) := by
  unfold execAddrAnnounceTx
  repeat' first
    | with_reducible assumption
    | extract_lets
    | fail_if_no_progress (with_reducible apply keeps_mk_; first | with_reducible apply keeps_fold_ | with_reducible apply keeps_memPut_ | with_reducible apply keeps_filter_)
    | with_reducible apply keeps_next_
    | with_reducible apply keeps_iteO_
theorem keeps_execAddrRestart (s : State) (hm : Holds P s) : OutHolds P (execAddrRestart s) := by
  unfold execAddrRestart
  repeat' first
    | with_reducible assumption
    | extract_lets
    | fail_if_no_progress (with_reducible apply keeps_mk_; first | with_reducible apply keeps_fold_ | with_reducible apply keeps_memPut_ | with_reducible apply keeps_filter_)
    | with_reducible apply keeps_setRegs
    | with_reducible apply keeps_reply
    | with_reducible apply keeps_refreshT1s
    | with_reducible apply keeps_next_
    | with_reducible apply keeps_iteO_
/-! Rings. -/
theorem keeps_modRing (s : State) (r : Nat) (f : Ring → Ring) (hm : Holds P s) : Holds P (State.modRing s r f) := by
  unfold State.modRing
  repeat' first
    | with_reducible assumption
    | fail_if_no_progress (with_reducible apply keeps_mk_; first | with_reducible apply keeps_fold_ | with_reducible apply keeps_memPut_ | with_reducible apply keeps_filter_)
theorem keeps_writePage (s : State) (r : Nat) (bytes : List Byte) (hm : Holds P s) : Holds P (State.writePage s r bytes) := by
  unfold State.writePage
  repeat' first
    | with_reducible assumption
    | extract_lets
    | fail_if_no_progress (with_reducible apply keeps_mk_; first | with_reducible apply keeps_fold_ | with_reducible apply keeps_memPut_ | with_reducible apply keeps_filter_)
    | with_reducible apply keeps_msix
    | with_reducible apply keeps_modRing
    | with_reducible apply keeps_when_
theorem keeps_execPageWrite (r : Fin 64) (s : State) (hm : Holds P s) : OutHolds P (execPageWrite r s) := by
  unfold execPageWrite
  repeat' first
    | with_reducible assumption
    | extract_lets
    | with_reducible apply keeps_setReg
    | with_reducible apply keeps_modRing
    | with_reducible apply keeps_writePage
    | with_reducible apply keeps_next_
    | with_reducible apply keeps_iteO_
    | dsimp +zetaDelta only
    | split
theorem keeps_execPageAbandon (r : Fin 64) (s : State) (hm : Holds P s) : OutHolds P (execPageAbandon r s) := by
  unfold execPageAbandon
  repeat' first
    | with_reducible assumption
    | extract_lets
    | with_reducible apply keeps_logEvent
    | with_reducible apply keeps_modRing
    | with_reducible apply keeps_next_
    | with_reducible apply keeps_iteO_
    | dsimp +zetaDelta only
    | split
theorem keeps_execRingOpen (n : Fin 64) (r : Fin 64) (rec_ : List Byte) (s : State) (hm : Holds P s) : OutHolds P (execRingOpen n r rec_ s) := by
  unfold execRingOpen
  repeat' first
    | with_reducible assumption
    | extract_lets
    | with_reducible apply keeps_setReg
    | with_reducible apply keeps_reply
    | with_reducible apply keeps_modRing
    | with_reducible apply keeps_next_
    | with_reducible apply keeps_iteO_
theorem keeps_execRingClose (n : Fin 64) (r : Fin 64) (s : State) (hm : Holds P s) : OutHolds P (execRingClose n r s) := by
  unfold execRingClose
  repeat' first
    | with_reducible assumption
    | extract_lets
    | with_reducible apply keeps_reply
    | with_reducible apply keeps_closeRing
    | with_reducible apply keeps_next_
    | with_reducible apply keeps_iteO_
theorem keeps_execRingIndexWrite (r : Fin 64) (off v : Nat) (s : State) (hm : Holds P s) : OutHolds P (execRingIndexWrite r off v s) := by
  unfold execRingIndexWrite
  repeat' first
    | with_reducible assumption
    | extract_lets
    | with_reducible apply keeps_modRing
    | with_reducible apply keeps_next_
    | with_reducible apply keeps_iteO_
theorem keeps_execMboxOpen (inBase outBase pages : Nat) (up : Bool) (s : State) (hm : Holds P s) : OutHolds P (execMboxOpen inBase outBase pages up s) := by
  unfold execMboxOpen
  repeat' first
    | with_reducible assumption
    | extract_lets
    | fail_if_no_progress (with_reducible apply keeps_mk_; first | with_reducible apply keeps_fold_ | with_reducible apply keeps_memPut_ | with_reducible apply keeps_filter_)
    | with_reducible apply keeps_closeSessions
    | with_reducible apply keeps_closeRing
    | with_reducible apply keeps_modRing
    | with_reducible apply keeps_next_
    | with_reducible apply keeps_iteO_
theorem keeps_mboxOut (s : State) (msg : List Byte) (hm : Holds P s) : Holds P (State.mboxOut s msg) := by
  unfold State.mboxOut
  repeat' first
    | with_reducible assumption
    | extract_lets
    | with_reducible apply keeps_modRing
    | with_reducible apply keeps_writePage
    | with_reducible apply keeps_ite_
theorem keeps_mboxIn (s : State) (hm : Holds P s) : Holds P (State.mboxIn s) := by
  unfold State.mboxIn
  repeat' first
    | with_reducible assumption
    | with_reducible apply keeps_modRing
theorem keeps_execPcieLinkLoss (s : State) (hm : Holds P s) : OutHolds P (execPcieLinkLoss s) := by
  unfold execPcieLinkLoss
  repeat' first
    | with_reducible assumption
    | extract_lets
    | with_reducible apply keeps_pcieDown
    | with_reducible apply keeps_next_
end Sys2Proof.Machine
end

