-- ==== Sys2Proof/Laws/KeepsManage.lean ====
section
/-!
SUPPORT. What writes, messages, logins, register access, the gardener and the tick keep: one lemma per operation.
-/
set_option linter.all false
namespace Sys2Proof.Machine
variable {P : NTable Byte → List Instr → Nat → Prop}
/-! Writes. -/
theorem keeps_went (s : State) (o : Out) (ho : OutHolds P o) (hm : Holds P s) : Holds P (went s o) := by
  unfold went
  split
  · exact ho
  · exact hm
theorem keeps_writeLast (s : State) (w : Writer) (r : Reg) (b : List Byte) (v : Int) (hm : Holds P s) : OptHolds P (State.writeLast s w r b v) := by
  unfold State.writeLast
  repeat' first
    | with_reducible assumption
    | extract_lets
    | with_reducible apply keeps_some_
    | with_reducible apply keeps_iteP_
    | with_reducible apply keeps_none_
    | with_reducible apply keeps_reply
    | with_reducible apply keeps_dueWrite
    | with_reducible apply keeps_execSilSignal
    | with_reducible apply keeps_execRouteEdit
    | with_reducible apply keeps_execRouteEditAt
    | with_reducible apply keeps_execLastStage
    | with_reducible apply keeps_execLastInstall
    | with_reducible apply keeps_execLastCancel
    | with_reducible apply keeps_execMtrSet
    | with_reducible apply keeps_execMtrPeriod
    | with_reducible apply keeps_ite_
    | with_reducible apply keeps_next_
    | dsimp +zetaDelta only
    | split
theorem keeps_writeCompute (s : State) (w : Writer) (r : Reg) (b : List Byte) (v : Int) (hm : Holds P s) : OptHolds P (State.writeCompute s w r b v) := by
  unfold State.writeCompute
  repeat' first
    | with_reducible assumption
    | extract_lets
    | with_reducible apply keeps_some_
    | with_reducible apply keeps_iteP_
    | with_reducible apply keeps_none_
    | with_reducible apply keeps_reply
    | with_reducible apply keeps_execMsgPost
    | with_reducible apply keeps_execBankWrite
    | with_reducible apply keeps_execSwapAt
    | with_reducible apply keeps_execAreCoefWrite
    | with_reducible apply keeps_execAreCoefExp
    | with_reducible apply keeps_execAreImgStore
    | with_reducible apply keeps_execAreImgLoad
    | with_reducible apply keeps_execAreSwapAt
    | with_reducible apply keeps_execBusGain
    | with_reducible apply keeps_execBusMute
    | with_reducible apply keeps_execBusAuto
    | with_reducible apply keeps_execXpGain
    | with_reducible apply keeps_execXpMute
    | with_reducible apply keeps_next_
    | dsimp +zetaDelta only
    | split
theorem keeps_writePlot (s : State) (w : Writer) (r : Reg) (b : List Byte) (v : Int) (hm : Holds P s) : OptHolds P (State.writePlot s w r b v) := by
  unfold State.writePlot
  repeat' first
    | with_reducible assumption
    | extract_lets
    | with_reducible apply keeps_some_
    | with_reducible apply keeps_iteP_
    | with_reducible apply keeps_none_
    | with_reducible apply keeps_reply
    | with_reducible apply keeps_execAssignGrant
    | with_reducible apply keeps_execAssignRelease
    | with_reducible apply keeps_execQuota
    | with_reducible apply keeps_execHoOffer
    | with_reducible apply keeps_execHoAccept
    | with_reducible apply keeps_execHoWithdraw
    | with_reducible apply keeps_execPlotReset
    | with_reducible apply keeps_execPlotResetAt
    | with_reducible apply keeps_writeOwnerKey
    | with_reducible apply keeps_writeObserverKey
    | with_reducible apply keeps_execPlotFaultClear
    | with_reducible apply keeps_ite_
    | with_reducible apply keeps_next_
    | dsimp +zetaDelta only
    | split
theorem keeps_writeTime (s : State) (w : Writer) (r : Reg) (b : List Byte) (v : Int) (hm : Holds P s) : OptHolds P (State.writeTime s w r b v) := by
  unfold State.writeTime
  repeat' first
    | with_reducible assumption
    | extract_lets
    | with_reducible apply keeps_some_
    | with_reducible apply keeps_none_
    | with_reducible apply keeps_execDpllStickyClear
    | with_reducible apply keeps_execDpllSteer
    | with_reducible apply keeps_execSBase
    | with_reducible apply keeps_execTimeIncr
    | with_reducible apply keeps_execTimeAdj
    | with_reducible apply keeps_execTimeStep
    | with_reducible apply keeps_execTimeSet
    | with_reducible apply keeps_execPtpRole
    | with_reducible apply keeps_execPtpProfile
    | with_reducible apply keeps_execTevMode
    | with_reducible apply keeps_execTevAction
    | with_reducible apply keeps_execPairSuspectClear
    | with_reducible apply keeps_execGraftStart
    | with_reducible apply keeps_execGraftAbort
    | with_reducible apply keeps_execPairLeave
    | with_reducible apply keeps_execPairTake
    | split
theorem keeps_writeNet (s : State) (w : Writer) (r : Reg) (b : List Byte) (v : Int) (hm : Holds P s) : OptHolds P (State.writeNet s w r b v) := by
  unfold State.writeNet
  extract_lets p cmdAt
  split
  · split <;> first
      | with_reducible exact keeps_none_
      | with_reducible exact keeps_some_ (keeps_execNetMode _ _ _ hm)
      | with_reducible exact keeps_some_ (keeps_execNetQcells _ _ _ hm)
      | with_reducible exact keeps_some_ (keeps_execNetPreempt _ _ _ hm)
      | with_reducible exact keeps_some_ (keeps_execNetBaseGcl _ _ _ hm)
      | with_reducible exact keeps_some_ (keeps_execNetFlush _ _ hm)
  · split
    · split <;> (apply keeps_some_; split)
      · exact keeps_execRxStop _ _ _ _ hm
      · exact keeps_execRxStart _ _ _ _ hm
      · exact keeps_execTxStop _ _ _ _ hm
      · exact keeps_execTxStart _ _ _ _ hm
    · split <;> first
        | with_reducible exact keeps_none_
        | with_reducible exact keeps_some_ (keeps_execT1sAccess _ _ hm)
        | with_reducible exact keeps_some_ (keeps_execFdbAdd _ _ hm)
        | with_reducible exact keeps_some_ (keeps_execFdbDel _ _ hm)
        | with_reducible exact keeps_some_ (keeps_execMcAdd _ _ hm)
        | with_reducible exact keeps_some_ (keeps_execMcDel _ _ hm)
        | with_reducible exact keeps_some_ (keeps_next_ (keeps_reply _ _ (keeps_refreshT1s _ (keeps_setReg _ _ _ hm))))
        | with_reducible exact keeps_iteP_ (keeps_some_ (keeps_next_ (keeps_reply _ _ hm))) keeps_none_
theorem keeps_writeAudio (s : State) (w : Writer) (r : Reg) (b : List Byte) (v : Int) (hm : Holds P s) : OptHolds P (State.writeAudio s w r b v) := by
  unfold State.writeAudio
  repeat' first
    | with_reducible assumption
    | extract_lets
    | with_reducible apply keeps_some_
    | with_reducible apply keeps_iteP_
    | with_reducible apply keeps_none_
    | with_reducible apply keeps_execSapStart
    | with_reducible apply keeps_execSapStop
    | with_reducible apply keeps_execSapMute
    | with_reducible apply keeps_execSapEventClear
    | with_reducible apply keeps_execPscStart
    | with_reducible apply keeps_execPscStop
    | with_reducible apply keeps_execPscFaultClear
    | with_reducible apply keeps_execPscEventClear
    | with_reducible apply keeps_execPscLoopCoef
    | with_reducible apply keeps_execPscLoopSwapAt
    | with_reducible apply keeps_iteO_
    | dsimp +zetaDelta only
    | split
theorem keeps_writeGardenerKey (s : State) (slot : Option Nat) (key : List Byte) (hm : Holds P s) : Holds P (State.writeGardenerKey s slot key) := by
  unfold State.writeGardenerKey
  repeat' first
    | with_reducible assumption
    | extract_lets
    | with_reducible apply keeps_setBlob
    | with_reducible apply keeps_reply
    | with_reducible apply keeps_flashed
    | with_reducible apply keeps_closeSession
    | with_reducible apply keeps_ite_
    | (with_reducible apply keeps_overL_; intro _ _ _)
theorem keeps_writeChip (s : State) (w : Writer) (r : Reg) (b : List Byte) (v : Int) (hm : Holds P s) : OptHolds P (State.writeChip s w r b v) := by
  unfold State.writeChip
  repeat' first
    | with_reducible assumption
    | extract_lets
    | with_reducible apply keeps_some_
    | with_reducible apply keeps_iteP_
    | with_reducible apply keeps_none_
    | with_reducible apply keeps_reply
    | with_reducible apply keeps_execLogFreeze
    | with_reducible apply keeps_execLogUnfreeze
    | with_reducible apply keeps_execFaultClear
    | with_reducible apply keeps_execOptBlock
    | with_reducible apply keeps_execFwStage
    | with_reducible apply keeps_execFwSwitch
    | with_reducible apply keeps_execRstCmdCold
    | with_reducible apply keeps_execRstCmdWarm
    | with_reducible apply keeps_execRstCmdGardener
    | with_reducible apply keeps_execRstCmdPort
    | with_reducible apply keeps_execAddrRestart
    | with_reducible apply keeps_execRingOpen
    | with_reducible apply keeps_execRingClose
    | with_reducible apply keeps_writeGardenerKey
    | with_reducible apply keeps_next_
    | with_reducible apply keeps_iteO_
    | dsimp +zetaDelta only
    | split
theorem keeps_writePlain (s : State) (o : ObjInfo) (r : Reg) (b : List Byte) (v : Int) (hm : Holds P s) : Holds P (State.writePlain s o r b v) := by
  unfold State.writePlain
  repeat' first
    | with_reducible assumption
    | extract_lets
    | with_reducible apply keeps_setReg
    | with_reducible apply keeps_setBlob
    | with_reducible apply keeps_reply
    | with_reducible apply keeps_dueWrite
    | with_reducible apply keeps_flashed
    | with_reducible apply keeps_ite_
    | with_reducible apply keeps_when_
    | dsimp +zetaDelta only
    | split
theorem keeps_runWrite (s : State) (w : Writer) (o : ObjInfo) (r : Reg) (b : List Byte) (hm : Holds P s) : Holds P (State.runWrite s w o r b) := by
  unfold State.runWrite
  extract_lets code v own
  split
  · exact keeps_reply _ _ hm
  · have ho : OptHolds P own := by
      repeat' apply keeps_or_
      · exact keeps_writeLast _ _ _ _ _ hm
      · exact keeps_writeCompute _ _ _ _ _ hm
      · exact keeps_writePlot _ _ _ _ _ hm
      · exact keeps_writeTime _ _ _ _ _ hm
      · exact keeps_writeNet _ _ _ _ _ hm
      · exact keeps_writeAudio _ _ _ _ _ hm
      · exact keeps_writeChip  _ _ _ _ _ hm
    clear_value own
    split
    · exact keeps_went _ _ ho hm
    · exact keeps_writePlain _ _ _ _ _ hm
theorem keeps_runAt (s : State) (w : Writer) (o : ObjInfo) (r : Reg) (b : List Byte) (t : Nat) (hm : Holds P s) : Holds P (State.runAt s w o r b t) := by
  unfold State.runAt
  repeat' first
    | with_reducible assumption
    | extract_lets
    | fail_if_no_progress (with_reducible apply keeps_mk_; first | with_reducible apply keeps_fold_ | with_reducible apply keeps_memPut_ | with_reducible apply keeps_filter_)
    | with_reducible apply keeps_noteAt
    | with_reducible apply keeps_runWrite
    | with_reducible apply keeps_ite_
theorem keeps_holdBack (s : State) (w : Writer) (r : Reg) (b : List Byte) (t : Nat) (hm : Holds P s) : Holds P (State.holdBack s w r b t) := by
  unfold State.holdBack
  repeat' first
    | with_reducible assumption
    | fail_if_no_progress (with_reducible apply keeps_mk_; first | with_reducible apply keeps_fold_ | with_reducible apply keeps_memPut_ | with_reducible apply keeps_filter_)
theorem keeps_forwardWrite (s : State) (w : Writer) (o : ObjInfo) (r : Reg) (b : List Byte) (at_ : Option Nat) (hm : Holds P s) : Holds P (State.forwardWrite s w o r b at_) := by
  unfold State.forwardWrite
  repeat' first
    | with_reducible assumption
    | extract_lets
    | with_reducible apply keeps_reply
    | with_reducible apply keeps_sendMgmt
    | with_reducible apply keeps_runWrite
    | with_reducible apply keeps_runAt
    | with_reducible apply keeps_holdBack
    | with_reducible apply keeps_ite_
    | dsimp +zetaDelta only
    | split
theorem keeps_acceptWrite (s : State) (w : Writer) (o : ObjInfo) (r : Reg) (b : List Byte) (at_ : Option Nat) (hm : Holds P s) : Holds P (State.acceptWrite s w o r b at_) := by
  unfold State.acceptWrite
  repeat' first
    | with_reducible assumption
    | extract_lets
    | with_reducible apply keeps_runWrite
    | with_reducible apply keeps_runAt
    | with_reducible apply keeps_forwardWrite
    | with_reducible apply keeps_ite_
    | split
theorem keeps_execRegisterWrite (owner : Fin 17) (idx sub unit : Nat) (v : List Byte) (s : State) (hm : Holds P s) : OutHolds P (execRegisterWrite owner idx sub unit v s) := by
  unfold execRegisterWrite
  repeat' first
    | with_reducible assumption
    | extract_lets
    | with_reducible apply keeps_reply
    | with_reducible apply keeps_acceptWrite
    | with_reducible apply keeps_next_
    | with_reducible apply keeps_iteO_
    | dsimp +zetaDelta only
    | split
theorem keeps_applyTimed (s : State) (x : Timed) (hm : Holds P s) : Holds P (State.applyTimed s x) := by
  unfold State.applyTimed
  repeat' first
    | with_reducible assumption
    | extract_lets
    | fail_if_no_progress (with_reducible apply keeps_mk_; first | with_reducible apply keeps_fold_ | with_reducible apply keeps_memPut_ | with_reducible apply keeps_filter_)
    | with_reducible apply keeps_setReg
    | with_reducible apply keeps_setBlob
    | with_reducible apply keeps_discard
    | with_reducible apply keeps_dropNoted
    | with_reducible apply keeps_runWrite
    | with_reducible apply keeps_ite_
    | dsimp +zetaDelta only
    | split
theorem keeps_execTimedActionApply (s : State) (hm : Holds P s) : OutHolds P (execTimedActionApply s) := by
  unfold execTimedActionApply
  repeat' first
    | with_reducible assumption
    | extract_lets
    | fail_if_no_progress (with_reducible apply keeps_mk_; first | with_reducible apply keeps_fold_ | with_reducible apply keeps_memPut_ | with_reducible apply keeps_filter_)
    | with_reducible apply keeps_applyTimed
    | (with_reducible apply keeps_overL_; intro _ _ _)
    | with_reducible apply keeps_next_
theorem keeps_execMgmt (seq t : Nat) (a : FwdAction) (s : State) (hm : Holds P s) : OutHolds P (execMgmt seq t a s) := by
  unfold execMgmt
  repeat' first
    | with_reducible assumption
    | extract_lets
    | fail_if_no_progress (with_reducible apply keeps_mk_; first | with_reducible apply keeps_fold_ | with_reducible apply keeps_memPut_ | with_reducible apply keeps_filter_)
    | with_reducible apply keeps_modPair
    | with_reducible apply keeps_sendCell
    | with_reducible apply keeps_heard
    | with_reducible apply keeps_modBrace
    | with_reducible apply keeps_runWrite
    | with_reducible apply keeps_runAt
    | with_reducible apply keeps_holdBack
    | with_reducible apply keeps_ite_
    | with_reducible apply keeps_next_
    | with_reducible apply keeps_iteO_
    | dsimp +zetaDelta only
    | split
/-! Messages. -/
theorem keeps_modSession (s : State) (n : Nat) (f : Session → Session) (hm : Holds P s) : Holds P (State.modSession s n f) := by
  unfold State.modSession
  repeat' first
    | with_reducible assumption
    | fail_if_no_progress (with_reducible apply keeps_mk_; first | with_reducible apply keeps_fold_ | with_reducible apply keeps_memPut_ | with_reducible apply keeps_filter_)
theorem keeps_transmit (s : State) (transport : Nat) (msg : List Byte) (hm : Holds P s) : Holds P (State.transmit s transport msg).1 := by
  show FstHolds P (State.transmit s transport msg)
  unfold State.transmit
  repeat' first
    | with_reducible assumption
    | extract_lets
    | with_reducible apply keeps_fmk_
    | with_reducible apply keeps_setReg
    | with_reducible apply keeps_mboxOut
    | with_reducible apply keeps_when_
    | split
theorem keeps_respond (s : State) (m : Omp) (op session : Nat) (who : Option (Nat × List Byte)) (r : Reply) (hm : Holds P s) : Holds P (State.respond s m op session who r) := by
  unfold State.respond
  repeat' first
    | with_reducible assumption
    | extract_lets
    | fail_if_no_progress (with_reducible apply keeps_mk_; first | with_reducible apply keeps_fold_ | with_reducible apply keeps_memPut_ | with_reducible apply keeps_filter_)
    | with_reducible apply keeps_modSession
    | with_reducible apply keeps_transmit
    | with_reducible apply keeps_ite_
    | dsimp +zetaDelta only
    | split
theorem keeps_ompDrop (s : State) (hm : Holds P s) : Holds P (State.ompDrop s) := by
  unfold State.ompDrop
  repeat' first
    | with_reducible assumption
    | with_reducible apply keeps_bump
theorem keeps_ompArrive (s : State) (m : Omp) (hm : Holds P s) : Holds P (State.ompArrive s m) := by
  unfold State.ompArrive
  repeat' first
    | with_reducible assumption
    | extract_lets
    | fail_if_no_progress (with_reducible apply keeps_mk_; first | with_reducible apply keeps_fold_ | with_reducible apply keeps_memPut_ | with_reducible apply keeps_filter_)
    | with_reducible apply keeps_setReg
    | with_reducible apply keeps_mboxIn
    | with_reducible apply keeps_when_
/-- It holds in whatever a request leaves. -/
def PassHolds (P : NTable Byte → List Instr → Nat → Prop) (x : Except State (State × Nat × Session)) : Prop :=
  match x with | .error t => Holds P t | .ok y => Holds P y.1
theorem keeps_passRequest (s : State) (m : Omp) (op : Nat) (hm : Holds P s) : PassHolds P (s.passRequest m op) := by
  unfold State.passRequest
  split
  · exact keeps_ompDrop _ hm
  · extract_lets
    split
    · exact keeps_ompDrop _ hm
    · split
      · exact keeps_ompDrop _ hm
      · split
        · exact keeps_modSession _ _ _ (keeps_modSession _ _ _ hm)
        · split
          · exact keeps_transmit _ _ _ (keeps_modSession _ _ _ hm)
          · exact keeps_ompDrop _ (keeps_modSession _ _ _ hm)
theorem keeps_serve (s : State) (m : Omp) (op : Nat) (f : State → Nat → Session → State × Reply) (hf : ∀ t k ss, Holds P t → Holds P (f t k ss).1) (hm : Holds P s) : Holds P (s.serve m op f) := by
  unfold State.serve
  have ha := keeps_passRequest s m op hm
  split
  · rename_i heq
    rw [heq] at ha
    exact ha
  · rename_i s2 k ss heq
    rw [heq] at ha
    apply keeps_respond
    have h2 : Holds P (if ompFormOk m then f s2 k ss else (s2, ({ status := 0x1A } : Reply))).1 := by
      split
      · exact hf _ _ _ ha
      · exact ha
    exact h2
theorem keeps_serveOpen (s : State) (m : Omp) (op : Nat) (f : State → State × Option (Nat × Reply)) (hf : ∀ t, Holds P t → Holds P (f t).1) (hm : Holds P s) : Holds P (s.serveOpen m op f) := by
  unfold State.serveOpen
  split
  · exact hm
  · extract_lets s1
    have h1 : Holds P s1 := keeps_ompArrive _ _ hm
    split
    · exact h1
    · have h2 : Holds P (if ompFormOk m then f s1 else (s1, some (m.session, ({ status := 0x1A } : Reply)))).1 := by
        split
        · exact hf _ h1
        · exact h1
      generalize (if ompFormOk m then f s1 else (s1, some (m.session, ({ status := 0x1A } : Reply)))) = y at h2 ⊢
      obtain ⟨s2, r⟩ := y
      dsimp only
      split
      · exact keeps_respond _ _ _ _ _ _ h2
      · exact h2
theorem keeps_sendNotice (s : State) (k : Nat) (n : Notice) (hm : Holds P s) : Holds P (State.sendNotice s k n) := by
  unfold State.sendNotice
  repeat' first
    | with_reducible assumption
    | extract_lets
    | fail_if_no_progress (with_reducible apply keeps_mk_; first | with_reducible apply keeps_fold_ | with_reducible apply keeps_memPut_ | with_reducible apply keeps_filter_)
    | with_reducible apply keeps_modSession
    | with_reducible apply keeps_transmit
    | with_reducible apply keeps_ite_
theorem keeps_sendNotices (s : State) (hm : Holds P s) : Holds P (State.sendNotices s) := by
  unfold State.sendNotices
  repeat' first
    | with_reducible assumption
    | extract_lets
    | fail_if_no_progress (with_reducible apply keeps_mk_; first | with_reducible apply keeps_fold_ | with_reducible apply keeps_memPut_ | with_reducible apply keeps_filter_)
    | with_reducible apply keeps_sendNotice
    | (with_reducible apply keeps_overL_; intro _ _ _)
/-! Logins. -/
theorem keeps_modSource (s : State) (k : Nat) (f : SourceSt → SourceSt) (hm : Holds P s) : Holds P (State.modSource s k f) := by
  unfold State.modSource
  repeat' first
    | with_reducible assumption
    | fail_if_no_progress (with_reducible apply keeps_mk_; first | with_reducible apply keeps_fold_ | with_reducible apply keeps_memPut_ | with_reducible apply keeps_filter_)
theorem keeps_loginFailed (s : State) (k : Nat) (hm : Holds P s) : Holds P (State.loginFailed s k) := by
  unfold State.loginFailed
  repeat' first
    | with_reducible assumption
    | extract_lets
    | with_reducible apply keeps_bump
    | with_reducible apply keeps_modSource
    | with_reducible apply keeps_ite_
theorem keeps_execLogin (m : Omp) (number : Fin 4294967296) (challenge : List Byte) (s : State) (hm : Holds P s) : OutHolds P (execLogin m number challenge s) := by
  unfold execLogin
  repeat' first
    | with_reducible assumption
    | extract_lets
    | with_reducible apply keeps_bump
    | with_reducible apply keeps_modSession
    | with_reducible apply keeps_ompDrop
    | with_reducible apply keeps_serveOpen
    | with_reducible apply keeps_loginFailed
    | with_reducible apply keeps_next_
    | dsimp +zetaDelta only
    | split
    | intro _
theorem keeps_execLoginProof (m : Omp) (s : State) (hm : Holds P s) : OutHolds P (execLoginProof m s) := by
  unfold execLoginProof
  repeat' first
    | with_reducible assumption
    | extract_lets
    | with_reducible apply keeps_bump
    | with_reducible apply keeps_modSession
    | with_reducible apply keeps_ompDrop
    | with_reducible apply keeps_serveOpen
    | with_reducible apply keeps_loginFailed
    | with_reducible apply keeps_next_
    | dsimp +zetaDelta only
    | split
    | intro _
theorem keeps_execLoginLapse (n : Fin 64) (s : State) (hm : Holds P s) : OutHolds P (execLoginLapse n s) := by
  unfold execLoginLapse
  repeat' first
    | with_reducible assumption
    | extract_lets
    | with_reducible apply keeps_modSession
    | with_reducible apply keeps_next_
    | with_reducible apply keeps_iteO_
theorem keeps_logout (s : State) (m : Omp) (k : Nat) (x_ : Session) (hm : Holds P s) : Holds P (State.logout s m k x_).1 := by
  show FstHolds P (State.logout s m k x_)
  unfold State.logout
  repeat' first
    | with_reducible assumption
    | extract_lets
    | with_reducible apply keeps_fmk_
    | with_reducible apply keeps_closeSession
    | split
theorem keeps_execSessionTimeout (n : Fin 64) (s : State) (hm : Holds P s) : OutHolds P (execSessionTimeout n s) := by
  unfold execSessionTimeout
  repeat' first
    | with_reducible assumption
    | extract_lets
    | with_reducible apply keeps_closeSession
    | with_reducible apply keeps_next_
    | with_reducible apply keeps_iteO_
theorem keeps_execLockoutEnd (transport : Fin 4) (source : Nat) (s : State) (hm : Holds P s) : OutHolds P (execLockoutEnd transport source s) := by
  unfold execLockoutEnd
  repeat' first
    | with_reducible assumption
    | extract_lets
    | with_reducible apply keeps_modSource
    | with_reducible apply keeps_next_
    | with_reducible apply keeps_iteO_
    | dsimp +zetaDelta only
    | split
theorem keeps_claim (s : State) (m : Omp) (take : Bool) (k : Nat) (ss : Session) (hm : Holds P s) : Holds P (State.claim s m take k ss).1 := by
  show FstHolds P (State.claim s m take k ss)
  unfold State.claim
  repeat' first
    | with_reducible assumption
    | extract_lets
    | with_reducible apply keeps_fmk_
    | with_reducible apply keeps_modSession
    | split
theorem keeps_execGardenerKey (n : Option (Fin 64)) (key : List Byte) (s : State) (hm : Holds P s) : OutHolds P (execGardenerKey n key s) := by
  unfold execGardenerKey
  repeat' first
    | with_reducible assumption
    | extract_lets
    | with_reducible apply keeps_reply
    | with_reducible apply keeps_writeGardenerKey
    | with_reducible apply keeps_ite_
    | with_reducible apply keeps_next_
/-! Access. -/
theorem keeps_readItem (s : State) (ss : Session) (idx sub : Nat) (hm : Holds P s) : Holds P (State.readItem s ss idx sub).1 := by
  show FstHolds P (State.readItem s ss idx sub)
  unfold State.readItem
  repeat' first
    | with_reducible assumption
    | extract_lets
    | with_reducible apply keeps_fmk_
    | with_reducible apply keeps_execTsFifoRead
    | with_reducible apply keeps_execTevCapRead
    | with_reducible apply keeps_went
    | dsimp +zetaDelta only
    | split
theorem keeps_readStep (max_ : Nat) (a : State × Session × Reply) (e : Nat × Nat) (hm : Holds P a.1) : Holds P (State.readStep max_ a e).1 := by
  unfold State.readStep
  obtain ⟨s, ss, r⟩ := a
  have h := keeps_readItem s ss e.1 e.2 hm
  dsimp only
  generalize s.readItem ss e.1 e.2 = y at h ⊢
  obtain ⟨t, code, v⟩ := y
  dsimp only
  split
  · exact hm
  · exact h
theorem keeps_readAll (s : State) (ss : Session) (max_ : Nat) (items : List (Nat × Nat)) (hm : Holds P s) : Holds P (State.readAll s ss max_ items).1 := by
  exact keeps_foldlF_ (fun a e h => keeps_readStep max_ a e h) hm
theorem keeps_serveRead (s : State) (m : Omp) (x_ : Nat) (ss : Session) (hm : Holds P s) : Holds P (State.serveRead s m x_ ss).1 := by
  show FstHolds P (State.serveRead s m x_ ss)
  unfold State.serveRead
  repeat' first
    | with_reducible assumption
    | extract_lets
    | with_reducible apply keeps_fmk_
    | with_reducible apply keeps_readAll
    | split
theorem keeps_readIdentity (s : State) (m : Omp) (hm : Holds P s) : Holds P (State.readIdentity s m).1 := by
  show FstHolds P (State.readIdentity s m)
  unfold State.readIdentity
  repeat' first
    | with_reducible assumption
    | extract_lets
    | with_reducible apply keeps_fmk_
    | with_reducible apply keeps_readAll
    | dsimp +zetaDelta only
    | split
theorem keeps_writeItem (s : State) (k : Nat) (ss : Session) (idx sub : Nat) (b : List Byte) (at_ : Option (Nat × Bool)) (hm : Holds P s) : Holds P (State.writeItem s k ss idx sub b at_).1 := by
  show FstHolds P (State.writeItem s k ss idx sub b at_)
  unfold State.writeItem
  repeat' first
    | with_reducible assumption
    | extract_lets
    | with_reducible apply keeps_fmk_
    | with_reducible apply keeps_acceptWrite
    | with_reducible apply keeps_modSession
    | dsimp +zetaDelta only
    | split
theorem keeps_writeAll (s : State) (k : Nat) (at_ : Option (Nat × Bool)) (items : List (Nat × Nat × List Byte)) (hm : Holds P s) : Holds P (State.writeAll s k at_ items).1 := by
  unfold State.writeAll
  extract_lets a
  have ha : Holds P a.1 := by
    apply keeps_foldlF_
    · intro b e h
      obtain ⟨t, r⟩ := b
      exact keeps_writeItem  _ _ _ _ _ _ _ h
    · exact hm
  split
  · exact ha
  · exact ha
theorem keeps_serveWrite (at_ : Option (Nat × Bool)) (s : State) (m : Omp) (k : Nat) (x_ : Session) (hm : Holds P s) : Holds P (State.serveWrite at_ s m k x_).1 := by
  show FstHolds P (State.serveWrite at_ s m k x_)
  unfold State.serveWrite
  repeat' first
    | with_reducible assumption
    | extract_lets
    | with_reducible apply keeps_fmk_
    | with_reducible apply keeps_writeAll
    | split
theorem keeps_serveBlockRead (bad : Option (Fin 2 × Nat)) (s : State) (m : Omp) (k : Nat) (ss : Session) (hm : Holds P s) : Holds P (State.serveBlockRead bad s m k ss).1 := by
  unfold State.serveBlockRead
  extract_lets b idx sub off want r s0 got
  split
  · exact hm
  · have h0 : Holds P s0 := by
      show Holds P (match bad with | some (h, slot) => s.when (idx == 0x2500 && sub == 6) fun s => s.retireHalf h slot | none => s)
      split
      · exact keeps_when_ hm (keeps_retireHalf _ _ _ hm)
      · exact hm
    have h1 : Holds P got.1 := by
      show FstHolds P (if off = 0 then _ else _)
      split
      · split
        · split
          · exact keeps_readItem _ _ _ _ h0
          · split
            · exact h0
            · exact h0
        · exact h0
      · split
        · split
          · exact h0
          · exact h0
        · exact h0
    clear_value got
    obtain ⟨s1, code, v⟩ := got
    dsimp only
    split
    · exact h1
    · split
      · exact h1
      · exact keeps_modSession _ _ _ h1
theorem keeps_blockSegment (s : State) (m : Omp) (k : Nat) (ss : Session) (idx sub : Nat) (hm : Holds P s) : Holds P (State.blockSegment s m k ss idx sub).1 := by
  show FstHolds P (State.blockSegment s m k ss idx sub)
  unfold State.blockSegment
  repeat' first
    | with_reducible assumption
    | extract_lets
    | with_reducible apply keeps_fmk_
    | fail_if_no_progress (with_reducible apply keeps_mk_; first | with_reducible apply keeps_fold_ | with_reducible apply keeps_memPut_ | with_reducible apply keeps_filter_)
    | with_reducible apply keeps_modSession
    | with_reducible apply keeps_writeItem
    | dsimp +zetaDelta only
    | split
theorem keeps_serveBlockWrite (s : State) (m : Omp) (k : Nat) (ss : Session) (hm : Holds P s) : Holds P (State.serveBlockWrite s m k ss).1 := by
  show FstHolds P (State.serveBlockWrite s m k ss)
  unfold State.serveBlockWrite
  repeat' first
    | with_reducible assumption
    | extract_lets
    | with_reducible apply keeps_fmk_
    | with_reducible apply keeps_blockSegment
    | dsimp +zetaDelta only
    | split
theorem keeps_execBlockTransferAbort (n : Fin 64) (k : Fin 4) (s : State) (hm : Holds P s) : OutHolds P (execBlockTransferAbort n k s) := by
  unfold execBlockTransferAbort
  repeat' first
    | with_reducible assumption
    | extract_lets
    | with_reducible apply keeps_reply
    | with_reducible apply keeps_modSession
    | with_reducible apply keeps_next_
    | with_reducible apply keeps_iteO_
    | dsimp +zetaDelta only
    | split
theorem keeps_execBlockSnapshotExpire (n : Fin 64) (s : State) (hm : Holds P s) : OutHolds P (execBlockSnapshotExpire n s) := by
  unfold execBlockSnapshotExpire
  repeat' first
    | with_reducible assumption
    | extract_lets
    | with_reducible apply keeps_modSession
    | with_reducible apply keeps_next_
    | with_reducible apply keeps_iteO_
    | split
theorem keeps_barError (s : State) (hm : Holds P s) : Holds P (State.barError s) := by
  unfold State.barError
  repeat' first
    | with_reducible assumption
    | extract_lets
    | fail_if_no_progress (with_reducible apply keeps_mk_; first | with_reducible apply keeps_fold_ | with_reducible apply keeps_memPut_ | with_reducible apply keeps_filter_)
theorem keeps_barAnswer (s : State) (code : Nat) (b : List Byte) (hm : Holds P s) : Holds P (State.barAnswer s code b) := by
  unfold State.barAnswer
  repeat' first
    | with_reducible assumption
    | fail_if_no_progress (with_reducible apply keeps_mk_; first | with_reducible apply keeps_fold_ | with_reducible apply keeps_memPut_ | with_reducible apply keeps_filter_)
theorem keeps_execBar0Access (off : Fin 4194304) (w : Option (List Byte)) (s : State) (hm : Holds P s) : OutHolds P (execBar0Access off w s) := by
  unfold execBar0Access
  repeat' first
    | with_reducible assumption
    | extract_lets
    | fail_if_no_progress (with_reducible apply keeps_mk_; first | with_reducible apply keeps_fold_ | with_reducible apply keeps_memPut_ | with_reducible apply keeps_filter_)
    | with_reducible apply keeps_readItem
    | with_reducible apply keeps_writeItem
    | with_reducible apply keeps_barError
    | with_reducible apply keeps_barAnswer
    | with_reducible apply keeps_ite_
    | with_reducible apply keeps_next_
    | with_reducible apply keeps_iteO_
    | dsimp +zetaDelta only
    | split
theorem keeps_execBar0Bind (session : Nat) (tag : List Byte) (s : State) (hm : Holds P s) : OutHolds P (execBar0Bind session tag s) := by
  unfold execBar0Bind
  repeat' first
    | with_reducible assumption
    | extract_lets
    | fail_if_no_progress (with_reducible apply keeps_mk_; first | with_reducible apply keeps_fold_ | with_reducible apply keeps_memPut_ | with_reducible apply keeps_filter_)
    | with_reducible apply keeps_next_
    | with_reducible apply keeps_iteO_
    | dsimp +zetaDelta only
    | split
/-! Service. -/
theorem keeps_doRequest (s : State) (q : Request) (k : Nat) (ss : Session) (hm : Holds P s) : Holds P (s.doRequest q k ss).1 := by
  unfold State.doRequest
  extract_lets m
  split
  · exact keeps_logout _ _ _ _ hm
  · exact keeps_serveRead _ _ _ _ hm
  · exact keeps_serveWrite _ _ _ _ _ hm
  · exact keeps_serveWrite _ _ _ _ _ hm
  · exact keeps_serveBlockRead _ _ _ _ _ hm
  · exact keeps_serveBlockWrite _ _ _ _ hm
  · exact hm
  · exact keeps_claim _ _ _ _ _ hm
theorem keeps_serveRequest (s : State) (q : Request) (hm : Holds P s) : Holds P (s.serveRequest q) := by
  unfold State.serveRequest
  exact keeps_serve _ _ _ _ (fun t k ss ht => keeps_doRequest t q k ss ht) hm
theorem keeps_setWaiting (s : State) (n : Nat) (l : List Request) (hm : Holds P s) : Holds P (State.setWaiting s n l) := by
  unfold State.setWaiting
  repeat' first
    | with_reducible assumption
    | extract_lets
    | fail_if_no_progress (with_reducible apply keeps_mk_; first | with_reducible apply keeps_fold_ | with_reducible apply keeps_memPut_ | with_reducible apply keeps_filter_)
theorem keeps_request (s : State) (q : Request) (hm : Holds P s) : Holds P (s.request q) := by
  unfold State.request
  split
  · exact hm
  · extract_lets s1
    have h1 : Holds P s1 := keeps_ompArrive _ _ hm
    split
    · exact h1
    · split
      · exact keeps_serveRequest _ _ h1
      · have ha := keeps_passRequest s1 q.msg q.kind.op h1
        split
        · rename_i heq
          rw [heq] at ha
          exact ha
        · split
          · exact keeps_ompDrop _ h1
          · exact keeps_setWaiting _ _ _ h1
theorem keeps_gardTurns (k : Nat) (s : State) (hm : Holds P s) : Holds P (gardTurns k s) := by
  induction k generalizing s with
  | zero => exact hm
  | succ k ih =>
    unfold gardTurns
    split
    · exact hm
    · split
      · exact hm
      · split
        · exact hm
        · apply ih
          apply keeps_serveRequest
          exact keeps_setWaiting _ _ _ hm
theorem keeps_gardService (s : State) (hm : Holds P s) : Holds P (State.gardService s) := by
  unfold State.gardService
  repeat' first
    | with_reducible assumption
    | with_reducible apply keeps_gardTurns
theorem keeps_execLogout (m : Omp) (s : State) (hm : Holds P s) : OutHolds P (execLogout m s) := by
  unfold execLogout
  repeat' first
    | with_reducible assumption
    | extract_lets
    | with_reducible apply keeps_request
    | with_reducible apply keeps_next_
theorem keeps_execHeartbeat (m : Omp) (s : State) (hm : Holds P s) : OutHolds P (execHeartbeat m s) := by
  unfold execHeartbeat
  repeat' first
    | with_reducible assumption
    | extract_lets
    | with_reducible apply keeps_serveOpen
    | with_reducible apply keeps_request
    | with_reducible apply keeps_ite_
    | with_reducible apply keeps_next_
    | dsimp +zetaDelta only
    | intro _
theorem keeps_execClaimTake (m : Omp) (s : State) (hm : Holds P s) : OutHolds P (execClaimTake m s) := by
  unfold execClaimTake
  repeat' first
    | with_reducible assumption
    | extract_lets
    | with_reducible apply keeps_request
    | with_reducible apply keeps_next_
theorem keeps_execClaimRelease (m : Omp) (s : State) (hm : Holds P s) : OutHolds P (execClaimRelease m s) := by
  unfold execClaimRelease
  repeat' first
    | with_reducible assumption
    | extract_lets
    | with_reducible apply keeps_request
    | with_reducible apply keeps_next_
theorem keeps_execRead (m : Omp) (s : State) (hm : Holds P s) : OutHolds P (execRead m s) := by
  unfold execRead
  repeat' first
    | with_reducible assumption
    | extract_lets
    | with_reducible apply keeps_serveOpen
    | with_reducible apply keeps_readIdentity
    | with_reducible apply keeps_request
    | with_reducible apply keeps_ite_
    | with_reducible apply keeps_next_
    | intro _
theorem keeps_execWrite (m : Omp) (s : State) (hm : Holds P s) : OutHolds P (execWrite m s) := by
  unfold execWrite
  repeat' first
    | with_reducible assumption
    | extract_lets
    | with_reducible apply keeps_request
    | with_reducible apply keeps_next_
theorem keeps_execWriteAt (m : Omp) (s : State) (hm : Holds P s) : OutHolds P (execWriteAt m s) := by
  unfold execWriteAt
  repeat' first
    | with_reducible assumption
    | extract_lets
    | with_reducible apply keeps_request
    | with_reducible apply keeps_next_
theorem keeps_execBlockRead (m : Omp) (bad : Option (Fin 2 × Nat)) (s : State) (hm : Holds P s) : OutHolds P (execBlockRead m bad s) := by
  unfold execBlockRead
  repeat' first
    | with_reducible assumption
    | extract_lets
    | with_reducible apply keeps_request
    | with_reducible apply keeps_next_
theorem keeps_execBlockWrite (m : Omp) (s : State) (hm : Holds P s) : OutHolds P (execBlockWrite m s) := by
  unfold execBlockWrite
  repeat' first
    | with_reducible assumption
    | extract_lets
    | with_reducible apply keeps_request
    | with_reducible apply keeps_next_
/-! Tick. -/
theorem keeps_writeHistories (s : State) (hm : Holds P s) : Holds P (State.writeHistories s) := by
  unfold State.writeHistories
  repeat' first
    | with_reducible assumption
    | extract_lets
    | with_reducible apply keeps_writeHistory
    | (with_reducible apply keeps_overL_; intro _ _ _)
    | (with_reducible apply keeps_overN_; intro _ _ _)
    | split
theorem keeps_closeUnits (s : State) (hm : Holds P s) : Holds P (State.closeUnits s) := by
  unfold State.closeUnits
  repeat' first
    | with_reducible assumption
    | extract_lets
    | fail_if_no_progress (with_reducible apply keeps_mk_; first | with_reducible apply keeps_fold_ | with_reducible apply keeps_memPut_ | with_reducible apply keeps_filter_)
    | with_reducible apply keeps_setReg
    | (with_reducible apply keeps_overN_; intro _ _ _)
theorem keeps_runRepairs (hc : Closed P) (s : State) (hm : Holds P s) : Holds P (State.runRepairs s) := by
  unfold State.runRepairs
  repeat' first
    | with_reducible assumption
    | extract_lets
    | fail_if_no_progress (with_reducible apply keeps_mk_; first | with_reducible apply keeps_fold_ | with_reducible apply keeps_memPut_ | with_reducible apply keeps_filter_)
    | with_reducible apply keeps_store
    | (with_reducible apply keeps_overL_; intro _ _ _)
theorem keeps_takeSends (s : State) (hm : Holds P s) : Holds P (State.takeSends s) := by
  unfold State.takeSends
  repeat' first
    | with_reducible assumption
    | fail_if_no_progress (with_reducible apply keeps_mk_; first | with_reducible apply keeps_fold_ | with_reducible apply keeps_memPut_ | with_reducible apply keeps_filter_)
theorem keeps_closeBridges (s : State) (hm : Holds P s) : Holds P (State.closeBridges s) := by
  unfold State.closeBridges
  repeat' first
    | with_reducible assumption
    | extract_lets
    | with_reducible apply keeps_feedInto
    | with_reducible apply keeps_feedOut
    | with_reducible apply keeps_feedFree
    | (with_reducible apply keeps_overL_; intro _ _ _)
theorem keeps_closeTick (hc : Closed P) (s : State) (hm : Holds P s) : Holds P (State.closeTick s) := by
  unfold State.closeTick
  repeat' first
    | with_reducible assumption
    | extract_lets
    | fail_if_no_progress (with_reducible apply keeps_mk_; first | with_reducible apply keeps_fold_ | with_reducible apply keeps_memPut_ | with_reducible apply keeps_filter_)
    | with_reducible apply keeps_endDma
    | with_reducible apply keeps_runDetectors
    | with_reducible apply keeps_advanceTo
    | with_reducible apply keeps_trellisClose
    | with_reducible apply keeps_sapClose
    | with_reducible apply keeps_closePsc
    | with_reducible apply keeps_meterTick
    | with_reducible apply keeps_writeHistories
    | with_reducible apply keeps_closeUnits
    | with_reducible apply keeps_runRepairs
    | with_reducible apply keeps_takeSends
    | with_reducible apply keeps_closeBridges
    | (with_reducible apply keeps_overN_; intro _ _ _)
theorem keeps_holdScrubs (s : State) (hm : Holds P s) : Holds P (State.holdScrubs s) := by
  unfold State.holdScrubs
  repeat' first
    | with_reducible assumption
    | fail_if_no_progress (with_reducible apply keeps_mk_; first | with_reducible apply keeps_fold_ | with_reducible apply keeps_memPut_ | with_reducible apply keeps_filter_)
theorem keeps_openBlocks (s : State) (hm : Holds P s) : Holds P (State.openBlocks s) := by
  unfold State.openBlocks
  repeat' first
    | with_reducible assumption
    | extract_lets
    | fail_if_no_progress (with_reducible apply keeps_mk_; first | with_reducible apply keeps_fold_ | with_reducible apply keeps_memPut_ | with_reducible apply keeps_filter_)
    | with_reducible apply keeps_advanceSinks
    | with_reducible apply keeps_runGens
    | with_reducible apply keeps_stepTrackers
    | with_reducible apply keeps_deliverAll
    | with_reducible apply keeps_stageDirect
    | with_reducible apply keeps_openInto
    | (with_reducible apply keeps_overN_; intro _ _ _)
theorem keeps_execTickBoundary (ht : AnyTick P) (hc : Closed P) (rep : TickReport) (s : State) (hm : Holds P s) : OutHolds P (execTickBoundary rep s) := by
  unfold execTickBoundary
  repeat' first
    | with_reducible assumption
    | extract_lets
    | fail_if_no_progress (with_reducible apply keeps_mk_; first | with_reducible apply keeps_fold_ | with_reducible apply keeps_memPut_ | with_reducible apply keeps_filter_ | (with_reducible apply keeps_tick_; with_reducible exact ht; with_reducible apply keeps_fold_))
    | with_reducible apply keeps_bumpBy
    | with_reducible apply keeps_badCells
    | with_reducible apply keeps_counterTick
    | with_reducible apply keeps_clockBoundary
    | with_reducible apply keeps_passLimits
    | with_reducible apply keeps_tevBoundary
    | with_reducible apply keeps_rxBoundary
    | with_reducible apply keeps_sapOpen
    | with_reducible apply keeps_pairBoundary
    | with_reducible apply keeps_readTj
    | with_reducible apply keeps_sendNotices
    | with_reducible apply keeps_gardService
    | with_reducible apply keeps_closeTick
    | with_reducible apply keeps_holdScrubs
    | with_reducible apply keeps_openBlocks
    | with_reducible apply keeps_next_
    | with_reducible apply keeps_iteO_
    | dsimp +zetaDelta only
    | split
theorem keeps_execIngestReady (hc : Closed P) (s : State) (hm : Holds P s) : OutHolds P (execIngestReady s) := by
  unfold execIngestReady
  repeat' first
    | with_reducible assumption
    | extract_lets
    | fail_if_no_progress (with_reducible apply keeps_mk_; first | with_reducible apply keeps_fold_ | with_reducible apply keeps_memPut_ | with_reducible apply keeps_filter_)
    | with_reducible apply keeps_modPair
    | with_reducible apply keeps_sendCell
    | with_reducible apply keeps_trellisTo
    | with_reducible apply keeps_feedTracker
    | (with_reducible apply keeps_overL_; intro _ _ _)
    | with_reducible apply keeps_next_
    | with_reducible apply keeps_iteO_
theorem keeps_overran (s : State) (p : Nat) (t : Task) (hm : Holds P s) : Holds P (State.overran s p t) := by
  unfold State.overran
  repeat' first
    | with_reducible assumption
    | extract_lets
    | with_reducible apply keeps_countOverrun
    | with_reducible apply keeps_zeroTask
    | with_reducible apply keeps_reinit
theorem keeps_stagePlot (s : State) (p : Nat) (unstaged : List SigId) (hm : Holds P s) : Holds P (State.stagePlot s p unstaged) := by
  unfold State.stagePlot
  repeat' first
    | with_reducible assumption
    | extract_lets
    | fail_if_no_progress (with_reducible apply keeps_mk_; first | with_reducible apply keeps_fold_ | with_reducible apply keeps_memPut_ | with_reducible apply keeps_filter_)
    | with_reducible apply keeps_overran
    | (with_reducible apply keeps_overL_; intro _ _ _)
theorem keeps_execStagingDeadline (hc : Closed P) (half : Bool) (unstaged : List SigId) (s : State) (hm : Holds P s) : OutHolds P (execStagingDeadline half unstaged s) := by
  unfold execStagingDeadline
  repeat' first
    | with_reducible assumption
    | extract_lets
    | with_reducible apply keeps_advanceTo
    | with_reducible apply keeps_trellisTo
    | with_reducible apply keeps_makeDigest
    | with_reducible apply keeps_sendStamps
    | with_reducible apply keeps_sendHot
    | with_reducible apply keeps_stagePlot
    | with_reducible apply keeps_ite_
    | (with_reducible apply keeps_overL_; intro _ _ _)
    | with_reducible apply keeps_next_
    | with_reducible apply keeps_iteO_
theorem keeps_openSinks (s : State) (half : Bool) (hm : Holds P s) : Holds P (State.openSinks s half) := by
  unfold State.openSinks
  repeat' first
    | with_reducible assumption
    | extract_lets
    | fail_if_no_progress (with_reducible apply keeps_mk_; first | with_reducible apply keeps_fold_ | with_reducible apply keeps_memPut_ | with_reducible apply keeps_filter_)
    | with_reducible apply keeps_pscFeed
    | with_reducible apply keeps_ite_
    | (with_reducible apply keeps_overN_; intro _ _ _)
    | dsimp +zetaDelta only
    | split
theorem keeps_execEgressOpening (half : Bool) (s : State) (hm : Holds P s) : OutHolds P (execEgressOpening half s) := by
  unfold execEgressOpening
  repeat' first
    | with_reducible assumption
    | extract_lets
    | fail_if_no_progress (with_reducible apply keeps_mk_; first | with_reducible apply keeps_fold_ | with_reducible apply keeps_memPut_ | with_reducible apply keeps_filter_)
    | with_reducible apply keeps_openStreams
    | with_reducible apply keeps_openSinks
    | with_reducible apply keeps_ite_
    | with_reducible apply keeps_next_
    | with_reducible apply keeps_iteO_
end Sys2Proof.Machine
end

