-- ==== Sys2Proof/Laws/KeepsExec.lean ====
section
/-!
SUPPORT. What every command keeps: a property of memory, the queue and the tick that allows storing and any tick.
-/
set_option linter.all false
namespace Sys2Proof.Machine
variable {P : NTable Byte → List Instr → Nat → Prop}
/-- A command keeps a property that allows storing and any tick. -/
theorem keeps_exec (ht : AnyTick P) (hc : Closed P) (i : Instr) (s : State) (hm : Holds P s) : OutHolds P (exec i s) := by
  cases i with
  | tickBoundary rep => exact keeps_execTickBoundary ht hc rep s hm
  | ingestReady => exact keeps_execIngestReady hc s hm
  | stagingDeadline half unstaged => exact keeps_execStagingDeadline hc half unstaged s hm
  | egressOpening half => exact keeps_execEgressOpening half s hm
  | taskStart p task => exact keeps_execTaskStart p task s hm
  | taskDeadlineStop c => exact keeps_execTaskDeadlineStop c s hm
  | coprocResultWrite c => exact keeps_execCoprocResultWrite c s hm
  | coreLd16 c ctl x => exact keeps_execCoreLd16 hc c ctl x s hm
  | coreLd24 c ctl x => exact keeps_execCoreLd24 hc c ctl x s hm
  | coreLd32 c ctl x => exact keeps_execCoreLd32 hc c ctl x s hm
  | coreLd64 c ctl x => exact keeps_execCoreLd64 hc c ctl x s hm
  | coreLd2 c ctl d1 k d2 j => exact keeps_execCoreLd2 hc c ctl d1 k d2 j s hm
  | coreLdst c ctl d k v j => exact keeps_execCoreLdst hc c ctl d k v j s hm
  | coreLd2st c ctl quad k j v w => exact keeps_execCoreLd2st hc c ctl quad k j v w s hm
  | coreSt16 c ctl trunc x => exact keeps_execCoreSt16 hc c ctl trunc x s hm
  | coreSt24 c ctl trunc x => exact keeps_execCoreSt24 hc c ctl trunc x s hm
  | coreSt32 c ctl x => exact keeps_execCoreSt32 hc c ctl x s hm
  | coreSt64 c ctl x => exact keeps_execCoreSt64 hc c ctl x s hm
  | coreSmax c ctl best idx k single => exact keeps_execCoreSmax hc c ctl best idx k single s hm
  | coreSmin c ctl best idx k single => exact keeps_execCoreSmin hc c ctl best idx k single s hm
  | coreSmaxa c ctl best idx k single => exact keeps_execCoreSmaxa hc c ctl best idx k single s hm
  | coreSmina c ctl best idx k single => exact keeps_execCoreSmina hc c ctl best idx k single s hm
  | corePmov c ctl toG g k => exact keeps_execCorePmov hc c ctl toG g k s hm
  | corePadd c ctl k imm => exact keeps_execCorePadd hc c ctl k imm s hm
  | coreAdd c ctl sat rd rs rt => exact keeps_execCoreAdd hc c ctl sat rd rs rt s hm
  | coreSub c ctl sat rd rs rt => exact keeps_execCoreSub hc c ctl sat rd rs rt s hm
  | coreAnd c ctl rd rs rt => exact keeps_execCoreAnd hc c ctl rd rs rt s hm
  | coreOr c ctl rd rs rt => exact keeps_execCoreOr hc c ctl rd rs rt s hm
  | coreXor c ctl rd rs rt => exact keeps_execCoreXor hc c ctl rd rs rt s hm
  | coreMin c ctl rd rs rt => exact keeps_execCoreMin hc c ctl rd rs rt s hm
  | coreMax c ctl rd rs rt => exact keeps_execCoreMax hc c ctl rd rs rt s hm
  | coreMulf c ctl trunc rd rs rt => exact keeps_execCoreMulf hc c ctl trunc rd rs rt s hm
  | coreMuli c ctl rd rs rt => exact keeps_execCoreMuli hc c ctl rd rs rt s hm
  | coreSrai c ctl rd rs n => exact keeps_execCoreSrai hc c ctl rd rs n s hm
  | coreSlli c ctl rd rs n => exact keeps_execCoreSlli hc c ctl rd rs n s hm
  | coreSrli c ctl rd rs n => exact keeps_execCoreSrli hc c ctl rd rs n s hm
  | coreSrar c ctl trunc rd rs n => exact keeps_execCoreSrar hc c ctl trunc rd rs n s hm
  | coreMov c ctl rd rs => exact keeps_execCoreMov hc c ctl rd rs s hm
  | coreNeg c ctl sat rd rs => exact keeps_execCoreNeg hc c ctl sat rd rs s hm
  | coreAbs c ctl sat rd rs => exact keeps_execCoreAbs hc c ctl sat rd rs s hm
  | coreNot c ctl rd rs => exact keeps_execCoreNot hc c ctl rd rs s hm
  | coreCmp c ctl q cond rs rt => exact keeps_execCoreCmp hc c ctl q cond rs rt s hm
  | coreMovi c ctl rd imm => exact keeps_execCoreMovi hc c ctl rd imm s hm
  | coreMovh c ctl rd imm => exact keeps_execCoreMovh hc c ctl rd imm s hm
  | coreCmac c ctl a x y f => exact keeps_execCoreCmac hc c ctl a x y f s hm
  | coreCmac2 c ctl a0 a1 x y f => exact keeps_execCoreCmac2 hc c ctl a0 a1 x y f s hm
  | coreQmac c ctl a x y f => exact keeps_execCoreQmac hc c ctl a x y f s hm
  | coreQmac2 c ctl a0 a1 x y f => exact keeps_execCoreQmac2 hc c ctl a0 a1 x y f s hm
  | coreAcv c ctl trunc rd a n => exact keeps_execCoreAcv hc c ctl trunc rd a n s hm
  | coreAsr c ctl trunc d a n => exact keeps_execCoreAsr hc c ctl trunc d a n s hm
  | coreAsl c ctl d a n => exact keeps_execCoreAsl hc c ctl d a n s hm
  | coreAmov c ctl d rs => exact keeps_execCoreAmov hc c ctl d rs s hm
  | coreAadd c ctl d a b => exact keeps_execCoreAadd hc c ctl d a b s hm
  | coreAsub c ctl d a b => exact keeps_execCoreAsub hc c ctl d a b s hm
  | coreAzero c ctl d => exact keeps_execCoreAzero hc c ctl d s hm
  | coreAcmp c ctl q cond a b => exact keeps_execCoreAcmp hc c ctl q cond a b s hm
  | coreBr c ctl hint target => exact keeps_execCoreBr hc c ctl hint target s hm
  | coreCall c ctl target => exact keeps_execCoreCall hc c ctl target s hm
  | coreJr c ctl g => exact keeps_execCoreJr hc c ctl g s hm
  | coreLoop c ctl fromReg count len => exact keeps_execCoreLoop hc c ctl fromReg count len s hm
  | coreEnd c ctl => exact keeps_execCoreEnd hc c ctl s hm
  | coreTrap c ctl code => exact keeps_execCoreTrap hc c ctl code s hm
  | corePop c ctl q quad => exact keeps_execCorePop hc c ctl q quad s hm
  | coreDmat c ctl n => exact keeps_execCoreDmat hc c ctl n s hm
  | coreMovc c ctl fromCtl cr g => exact keeps_execCoreMovc hc c ctl fromCtl cr g s hm
  | coreDiv c ctl rd rs rt => exact keeps_execCoreDiv hc c ctl rd rs rt s hm
  | coreSqrt c ctl rd rs => exact keeps_execCoreSqrt hc c ctl rd rs s hm
  | coreLog2 c ctl rd rs => exact keeps_execCoreLog2 hc c ctl rd rs s hm
  | coreExp2 c ctl rd rs => exact keeps_execCoreExp2 hc c ctl rd rs s hm
  | coreMag c ctl rd rs rt => exact keeps_execCoreMag hc c ctl rd rs rt s hm
  | coreAtan2 c ctl rd rs rt => exact keeps_execCoreAtan2 hc c ctl rd rs rt s hm
  | coreScrub corrected uncorrectable => exact keeps_execCoreScrub hc corrected uncorrectable s hm
  | lastStage p owner image => exact keeps_execLastStage p owner image s hm
  | lastInstall p t => exact keeps_execLastInstall p t s hm
  | lastChecksComplete p => exact keeps_execLastChecksComplete p s hm
  | lastCancel p => exact keeps_execLastCancel p s hm
  | shadowCommit p => exact keeps_execShadowCommit hc p s hm
  | pairSwapTimeout p => exact keeps_execPairSwapTimeout hc p s hm
  | lastSwap p => exact keeps_execLastSwap p s hm
  | timedActionApply => exact keeps_execTimedActionApply s hm
  | routeEdit p batch => exact keeps_execRouteEdit p batch s hm
  | routeEditAt p t lateOk batch => exact keeps_execRouteEditAt p t lateOk batch s hm
  | routeEditApply p => exact keeps_execRouteEditApply p s hm
  | routeHeldApply p => exact keeps_execRouteHeldApply p s hm
  | busGain p b gain => exact keeps_execBusGain p b gain s hm
  | busMute p b mute => exact keeps_execBusMute p b mute s hm
  | busAuto p b law => exact keeps_execBusAuto p b law s hm
  | xpGain p x gain => exact keeps_execXpGain p x gain s hm
  | xpMute p x mute => exact keeps_execXpMute p x mute s hm
  | mixWriteApply => exact keeps_execMixWriteApply s hm
  | silSignal p d sig thresh hold => exact keeps_execSilSignal p d sig thresh hold s hm
  | silenceHoldExpire d => exact keeps_execSilenceHoldExpire d s hm
  | genType p g ty freq level seed => exact keeps_execGenType p g ty freq level seed s hm
  | trackerLock t rate ppb => exact keeps_execTrackerLock t rate ppb s hm
  | trackerLost t => exact keeps_execTrackerLost t s hm
  | trackerInputReturn t rate ppb => exact keeps_execTrackerInputReturn t rate ppb s hm
  | trackerResync t => exact keeps_execTrackerResync t s hm
  | trackerRecentred t => exact keeps_execTrackerRecentred t s hm
  | msgPost p c msg => exact keeps_execMsgPost p c msg s hm
  | msgEnterInbox c => exact keeps_execMsgEnterInbox c s hm
  | bankWrite p u g offset words => exact keeps_execBankWrite p u g offset words s hm
  | swapAt p u g sample => exact keeps_execSwapAt p u g sample s hm
  | fcuSwapBegin u g => exact keeps_execFcuSwapBegin u g s hm
  | fcuFadeEnd u g => exact keeps_execFcuFadeEnd u g s hm
  | fcuUecc u g addr => exact keeps_execFcuUecc u g addr s hm
  | fcuScrub uncorrectable => exact keeps_execFcuScrub uncorrectable s hm
  | areCoefWrite p xp offset coefs => exact keeps_execAreCoefWrite p xp offset coefs s hm
  | areCoefExp p xp e => exact keeps_execAreCoefExp p xp e s hm
  | areCoefStoreWrite p => exact keeps_execAreCoefStoreWrite p s hm
  | areImgStore p image => exact keeps_execAreImgStore p image s hm
  | areImgLoad p => exact keeps_execAreImgLoad p s hm
  | areSwapAt p b => exact keeps_execAreSwapAt p b s hm
  | areSwapBegin p set => exact keeps_execAreSwapBegin p set s hm
  | areFadeEnd xp => exact keeps_execAreFadeEnd xp s hm
  | areUecc xp residue => exact keeps_execAreUecc xp residue s hm
  | areHistoryUecc addr => exact keeps_execAreHistoryUecc addr s hm
  | areScrub corrected coef hist => exact keeps_execAreScrub corrected coef hist s hm
  | assignGrant p batch => exact keeps_execAssignGrant p batch s hm
  | assignRelease p batch => exact keeps_execAssignRelease p batch s hm
  | releaseTakeEffect p => exact keeps_execReleaseTakeEffect p s hm
  | scrubComplete => exact keeps_execScrubComplete hc s hm
  | quota p code v => exact keeps_execQuota p code v s hm
  | trim p => exact keeps_execTrim p s hm
  | plotReset p keys => exact keeps_execPlotReset p keys s hm
  | plotResetAt p keys t lateOk => exact keeps_execPlotResetAt p keys t lateOk s hm
  | plotResetApply p => exact keeps_execPlotResetApply p s hm
  | plotResetComplete p => exact keeps_execPlotResetComplete p s hm
  | hoOffer p w => exact keeps_execHoOffer p w s hm
  | hoAccept p w => exact keeps_execHoAccept p w s hm
  | hoWithdraw p w => exact keeps_execHoWithdraw p w s hm
  | handoffForm h => exact keeps_execHandoffForm h s hm
  | handoffWithdrawApply h => exact keeps_execHandoffWithdrawApply h s hm
  | ownerKey p n key => exact keeps_execOwnerKey p n key s hm
  | observerKey p n key => exact keeps_execObserverKey p n key s hm
  | plotFaultClear p m => exact keeps_execPlotFaultClear p m s hm
  | pairWaitExpire => exact keeps_execPairWaitExpire s hm
  | tick l f => exact keeps_execTick ht hc l f s hm
  | beat l t => exact keeps_execBeat l t s hm
  | digest c => exact keeps_execDigest c s hm
  | idig t l => exact keeps_execIdig t l s hm
  | rcpt t seq crc at_ => exact keeps_execRcpt t seq crc at_ s hm
  | rpay t seq index payload at_ => exact keeps_execRpay t seq index payload at_ s hm
  | lfwd x => exact keeps_execLfwd x s hm
  | mgmt seq t a => exact keeps_execMgmt seq t a s hm
  | mack seq => exact keeps_execMack seq s hm
  | mirror page w data => exact keeps_execMirror page w data s hm
  | hot page w data => exact keeps_execHot hc page w data s hm
  | pdig l => exact keeps_execPdig l s hm
  | rpayTimeout t seq now => exact keeps_execRpayTimeout t seq now s hm
  | weltLinkDown l => exact keeps_execWeltLinkDown l s hm
  | weltLinkUp l ps => exact keeps_execWeltLinkUp l ps s hm
  | digestCompare full => exact keeps_execDigestCompare full s hm
  | focusProofEnd => exact keeps_execFocusProofEnd s hm
  | partnerAuthChange level => exact keeps_execPartnerAuthChange level s hm
  | handover => exact keeps_execHandover s hm
  | mackTimeout => exact keeps_execMackTimeout s hm
  | graftStart => exact keeps_execGraftStart s hm
  | graftPhaseComplete partner copy => exact keeps_execGraftPhaseComplete partner copy s hm
  | graftPhaseTimeout partner => exact keeps_execGraftPhaseTimeout partner s hm
  | graftJoin => exact keeps_execGraftJoin s hm
  | graftAbort => exact keeps_execGraftAbort s hm
  | pairLeave t => exact keeps_execPairLeave t s hm
  | pairLeaveApply => exact keeps_execPairLeaveApply s hm
  | pairTake => exact keeps_execPairTake s hm
  | pairTakeApply => exact keeps_execPairTakeApply s hm
  | pairSuspectClear => exact keeps_execPairSuspectClear s hm
  | proofFail kind unit => exact keeps_execProofFail kind unit s hm
  | proofSetPass => exact keeps_execProofSetPass s hm
  | clockLoss d => exact keeps_execClockLoss d s hm
  | refFault r bits => exact keeps_execRefFault r bits s hm
  | refQualified r => exact keeps_execRefQualified r s hm
  | dpllLadderAdvance => exact keeps_execDpllLadderAdvance s hm
  | dpllLock => exact keeps_execDpllLock s hm
  | dpllLockLost => exact keeps_execDpllLockLost s hm
  | slewComplete => exact keeps_execSlewComplete s hm
  | holdoverDegrade => exact keeps_execHoldoverDegrade s hm
  | dpllStickyClear m => exact keeps_execDpllStickyClear m s hm
  | dpllSteer v => exact keeps_execDpllSteer v s hm
  | sBase hz => exact keeps_execSBase hz s hm
  | timeIncr v => exact keeps_execTimeIncr v s hm
  | timeAdj a => exact keeps_execTimeAdj a s hm
  | timeStep d => exact keeps_execTimeStep d s hm
  | timeSet sec ns => exact keeps_execTimeSet sec ns s hm
  | counterChangeApply => exact keeps_execCounterChangeApply ht s hm
  | ptpRole v => exact keeps_execPtpRole v s hm
  | ptpProfile v => exact keeps_execPtpProfile v s hm
  | ptpMessageRx n m => exact keeps_execPtpMessageRx n m s hm
  | servoLock => exact keeps_execServoLock s hm
  | servoUnlock => exact keeps_execServoUnlock s hm
  | announceTimeout => exact keeps_execAnnounceTimeout s hm
  | tsFifoRead => exact keeps_execTsFifoRead s hm
  | launch n now => exact keeps_execLaunch n now s hm
  | launchLateDrop n now => exact keeps_execLaunchLateDrop n now s hm
  | tevMode p n mode => exact keeps_execTevMode p n mode s hm
  | tevCapture n falling ns => exact keeps_execTevCapture n falling ns s hm
  | tevCapRead n => exact keeps_execTevCapRead n s hm
  | tevAction p n batch => exact keeps_execTevAction p n batch s hm
  | cancel p n => exact keeps_execCancel p n s hm
  | tevActionDue n => exact keeps_execTevActionDue n s hm
  | tevPulseEdge n => exact keeps_execTevPulseEdge n s hm
  | netMode n mode => exact keeps_execNetMode n mode s hm
  | netPowerdownDone n => exact keeps_execNetPowerdownDone n s hm
  | netLinkDown n => exact keeps_execNetLinkDown n s hm
  | netLinkUp n sgmii => exact keeps_execNetLinkUp n sgmii s hm
  | frameRx n f => exact keeps_execFrameRx n f s hm
  | learnEventApply now => exact keeps_execLearnEventApply now s hm
  | flapWindowEnd now => exact keeps_execFlapWindowEnd now s hm
  | flapHoldExpire now => exact keeps_execFlapHoldExpire now s hm
  | ageScanVisit mac fid => exact keeps_execAgeScanVisit mac fid s hm
  | fdbAdd b => exact keeps_execFdbAdd b s hm
  | fdbDel b => exact keeps_execFdbDel b s hm
  | netFlush n => exact keeps_execNetFlush n s hm
  | mcAdd b => exact keeps_execMcAdd b s hm
  | mcDel b => exact keeps_execMcDel b s hm
  | netQcells n cells => exact keeps_execNetQcells n cells s hm
  | netBaseGcl n b => exact keeps_execNetBaseGcl n b s hm
  | baseGclApply n => exact keeps_execBaseGclApply n s hm
  | gateChange n now => exact keeps_execGateChange n now s hm
  | residenceDrop n now => exact keeps_execResidenceDrop n now s hm
  | netPreempt n v => exact keeps_execNetPreempt n v s hm
  | preemptVerifyDone n ok => exact keeps_execPreemptVerifyDone n ok s hm
  | preemptHold n now => exact keeps_execPreemptHold n now s hm
  | segSend n q mss head payload => exact keeps_execSegSend n q mss head payload s hm
  | esmcTx n => exact keeps_execEsmcTx n s hm
  | esmcTimeout n now => exact keeps_execEsmcTimeout n now s hm
  | rxStart p t at_ => exact keeps_execRxStart p t at_ s hm
  | rxStop p t at_ => exact keeps_execRxStop p t at_ s hm
  | txStart p t at_ => exact keeps_execTxStart p t at_ s hm
  | txStop p t at_ => exact keeps_execTxStop p t at_ s hm
  | streamCmdApply rx t => exact keeps_execStreamCmdApply rx t s hm
  | streamStopComplete rx t => exact keeps_execStreamStopComplete rx t s hm
  | playoutDeadline t => exact keeps_execPlayoutDeadline t s hm
  | nonaudioHoldExpire sap t k => exact keeps_execNonaudioHoldExpire sap t k s hm
  | sapStart p n at_ => exact keeps_execSapStart p n at_ s hm
  | sapStop p n at_ => exact keeps_execSapStop p n at_ s hm
  | sapCmdApply n => exact keeps_execSapCmdApply n s hm
  | sapFrame n f => exact keeps_execSapFrame n f s hm
  | sapPrerollEnd n => exact keeps_execSapPrerollEnd n s hm
  | sapRampdownEnd n => exact keeps_execSapRampdownEnd n s hm
  | sapPostrollEnd n => exact keeps_execSapPostrollEnd n s hm
  | sapClockLost n now => exact keeps_execSapClockLost n now s hm
  | sapMute p n mute => exact keeps_execSapMute p n mute s hm
  | sapEventClear p n m => exact keeps_execSapEventClear p n m s hm
  | pscStart p n at_ => exact keeps_execPscStart p n at_ s hm
  | pscStop p n at_ => exact keeps_execPscStop p n at_ s hm
  | pscBoundary temps => exact keeps_execPscBoundary temps s hm
  | pscLoopUpdate n v i_ v1 i1 => exact keeps_execPscLoopUpdate n v i_ v1 i1 s hm
  | pscCarrierStop n => exact keeps_execPscCarrierStop n s hm
  | pscSenseLoss n => exact keeps_execPscSenseLoss n s hm
  | pscAutoRestart n => exact keeps_execPscAutoRestart n s hm
  | pscFaultClear p n => exact keeps_execPscFaultClear p n s hm
  | pscLoopCoef p n words => exact keeps_execPscLoopCoef p n words s hm
  | pscLoopSwapAt p n t => exact keeps_execPscLoopSwapAt p n t s hm
  | loopSwapApply n => exact keeps_execLoopSwapApply n s hm
  | pscZWindowEnd n => exact keeps_execPscZWindowEnd n s hm
  | pscEventClear p n m => exact keeps_execPscEventClear p n m s hm
  | dmaWindowRun p win failed parity => exact keeps_execDmaWindowRun hc p win failed parity s hm
  | trellisResponse m addr data cause => exact keeps_execTrellisResponse hc m addr data cause s hm
  | memUecc sel addr win bus port => exact keeps_execMemUecc hc sel addr win bus port s hm
  | memScrub corrected => exact keeps_execMemScrub corrected s hm
  | dramDerate ctl multiple hot mr4 => exact keeps_execDramDerate ctl multiple hot mr4 s hm
  | login m number challenge => exact keeps_execLogin m number challenge s hm
  | loginProof m => exact keeps_execLoginProof m s hm
  | loginLapse n => exact keeps_execLoginLapse n s hm
  | logout m => exact keeps_execLogout m s hm
  | read m => exact keeps_execRead m s hm
  | write m => exact keeps_execWrite m s hm
  | writeAt m => exact keeps_execWriteAt m s hm
  | blockRead m bad => exact keeps_execBlockRead m bad s hm
  | blockWrite m => exact keeps_execBlockWrite m s hm
  | blockTransferAbort n k => exact keeps_execBlockTransferAbort n k s hm
  | blockSnapshotExpire n => exact keeps_execBlockSnapshotExpire n s hm
  | heartbeat m => exact keeps_execHeartbeat m s hm
  | claimTake m => exact keeps_execClaimTake m s hm
  | claimRelease m => exact keeps_execClaimRelease m s hm
  | sessionTimeout n => exact keeps_execSessionTimeout n s hm
  | lockoutEnd transport source => exact keeps_execLockoutEnd transport source s hm
  | gardenerKey n key => exact keeps_execGardenerKey n key s hm
  | addrAnnounce a uid => exact keeps_execAddrAnnounce a uid s hm
  | chainAddressTake now => exact keeps_execChainAddressTake now s hm
  | addrAnnounceTx now => exact keeps_execAddrAnnounceTx now s hm
  | addrRestart => exact keeps_execAddrRestart s hm
  | t1sAccess v => exact keeps_execT1sAccess v s hm
  | bar0Access off w => exact keeps_execBar0Access off w s hm
  | bar0Bind session tag => exact keeps_execBar0Bind session tag s hm
  | mboxOpen inBase outBase pages up => exact keeps_execMboxOpen inBase outBase pages up s hm
  | ringOpen n r rec => exact keeps_execRingOpen n r rec s hm
  | ringClose n r => exact keeps_execRingClose n r s hm
  | ringIndexWrite r off v => exact keeps_execRingIndexWrite r off v s hm
  | pageWrite r => exact keeps_execPageWrite r s hm
  | pageAbandon r => exact keeps_execPageAbandon r s hm
  | pcieLinkLoss => exact keeps_execPcieLinkLoss s hm
  | meterPeriodEnd p => exact keeps_execMeterPeriodEnd p s hm
  | mtrSet p recs => exact keeps_execMtrSet p recs s hm
  | mtrPeriod p v => exact keeps_execMtrPeriod p v s hm
  | meterSetApply p => exact keeps_execMeterSetApply p s hm
  | powerOnReset => exact keeps_execPowerOnReset s hm
  | resetPin => exact keeps_execResetPin s hm
  | tjOvertemp tenths => exact keeps_execTjOvertemp tenths s hm
  | rstCmdCold => exact keeps_execRstCmdCold s hm
  | rstCmdWarm => exact keeps_execRstCmdWarm s hm
  | rstCmdGardener => exact keeps_execRstCmdGardener s hm
  | rstCmdPort port => exact keeps_execRstCmdPort port s hm
  | resetCmdApply => exact keeps_execResetCmdApply s hm
  | resetEnter => exact keeps_execResetEnter ht hc s hm
  | watchdogExpire now => exact keeps_execWatchdogExpire now s hm
  | stretchEnd port => exact keeps_execStretchEnd port s hm
  | bringupPhaseDone rep => exact keeps_execBringupPhaseDone rep s hm
  | firmwareReady now => exact keeps_execFirmwareReady ht now s hm
  | fwReadyTimeout now => exact keeps_execFwReadyTimeout now s hm
  | fwStage len ok build => exact keeps_execFwStage len ok build s hm
  | fwSwitch => exact keeps_execFwSwitch s hm
  | optBlock b => exact keeps_execOptBlock b s hm
  | railCrossing r th now => exact keeps_execRailCrossing r th now s hm
  | railClear r th now => exact keeps_execRailClear r th now s hm
  | flashHoldEnd now => exact keeps_execFlashHoldEnd now s hm
  | pwrMainOkChange level now => exact keeps_execPwrMainOkChange level now s hm
  | pwrBattOnChange level now => exact keeps_execPwrBattOnChange level now s hm
  | bracePolicyApply => exact keeps_execBracePolicyApply s hm
  | battMissing now => exact keeps_execBattMissing now s hm
  | unbrace now => exact keeps_execUnbrace now s hm
  | unbraceComplete now => exact keeps_execUnbraceComplete now s hm
  | logQueueDrain bad0 bad1 => exact keeps_execLogQueueDrain bad0 bad1 s hm
  | logDropped p => exact keeps_execLogDropped p s hm
  | logScrub uncorrectable => exact keeps_execLogScrub uncorrectable s hm
  | logFreeze => exact keeps_execLogFreeze s hm
  | logUnfreeze => exact keeps_execLogUnfreeze s hm
  | faultFrameStart now => exact keeps_execFaultFrameStart now s hm
  | faultClear m => exact keeps_execFaultClear m s hm
  | registerWrite owner idx sub unit v => exact keeps_execRegisterWrite owner idx sub unit v s hm
  | refFaultEnd r => exact keeps_execRefFaultEnd r s hm
  | junctionCaution above tenths now => exact keeps_execJunctionCaution above tenths now s hm
  | resetSourceClear src => exact keeps_execResetSourceClear src s hm
  | chainInHigh now => exact keeps_execChainInHigh now s hm
  | ptpMessageTx n ty => exact keeps_execPtpMessageTx n ty s hm

end Sys2Proof.Machine
end

