-- ==== Sys2Proof/Laws/Table.lean ====
section
/-!
SUPPORT. What the sparse tables do: a read after a write, a write elsewhere, and the canonical form kept.
-/
namespace Sys2Proof.Machine

theorem Table.get_erase_same {κ α : Type} [DecidableEq κ] (d : κ → α) (t : Table κ α) (k : κ) :
    Table.get d (Table.erase t k) k = d k := by
  have : (Table.erase t k).find? (fun e => decide (e.1 = k)) = none := by
    rw [List.find?_eq_none]
    intro e he
    simp [Table.erase] at he
    simpa using he.2
  simp [Table.get, this]

theorem Table.find_erase_other {κ α : Type} [DecidableEq κ] (t : Table κ α) (k j : κ) (h : j ≠ k) :
    (Table.erase t k).find? (fun e => decide (e.1 = j)) = t.find? (fun e => decide (e.1 = j)) := by
  induction t with
  | nil => rfl
  | cons e t ih =>
    unfold Table.erase at ih ⊢
    by_cases hk : e.1 = k
    · have hj : e.1 ≠ j := fun c => h (c ▸ hk)
      simp [List.filter_cons, List.find?_cons, hk, ih, Ne.symm h]
    · by_cases hj : e.1 = j
      · simp [List.filter_cons, List.find?_cons, hj, h]
      · simp [List.filter_cons, List.find?_cons, hk, hj, ih]

theorem Table.get_erase_other {κ α : Type} [DecidableEq κ] (d : κ → α) (t : Table κ α) (k j : κ) (h : j ≠ k) :
    Table.get d (Table.erase t k) j = Table.get d t j := by
  simp [Table.get, Table.find_erase_other t k j h]

theorem Table.find_ins_other {κ α : Type} [DecidableEq κ] (ord : κ → Nat) (t : Table κ α) (k j : κ) (v : α)
    (h : j ≠ k) : (Table.ins ord k v t).find? (fun e => decide (e.1 = j)) = t.find? (fun e => decide (e.1 = j)) := by
  induction t with
  | nil => simp [Table.ins, Ne.symm h]
  | cons e t ih =>
    by_cases ho : ord k < ord e.1
    · simp [Table.ins, ho, List.find?_cons, Ne.symm h]
    · simp [Table.ins, ho, List.find?_cons, ih]

theorem Table.find_ins_same {κ α : Type} [DecidableEq κ] (ord : κ → Nat) (t : Table κ α) (k : κ) (v : α)
    (h : ∀ e ∈ t, e.1 ≠ k) : (Table.ins ord k v t).find? (fun e => decide (e.1 = k)) = some (k, v) := by
  induction t with
  | nil => simp [Table.ins]
  | cons e t ih =>
    have he : e.1 ≠ k := h e (by simp)
    by_cases ho : ord k < ord e.1
    · simp [Table.ins, ho, List.find?_cons]
    · simp [Table.ins, ho, List.find?_cons, he, ih (fun e' h' => h e' (by simp [h']))]

/-- A read after a write to the same key gives the value written. -/
@[simp] theorem Table.get_put_same {κ α : Type} [DecidableEq κ] [DecidableEq α] (ord : κ → Nat) (d : κ → α)
    (t : Table κ α) (k : κ) (v : α) : Table.get d (Table.put ord d t k v) k = v := by
  by_cases h : v = d k
  · simp [Table.put, h, Table.get_erase_same]
  · have hne : ∀ e ∈ Table.erase t k, e.1 ≠ k := by
      intro e he
      simp [Table.erase] at he
      simpa using he.2
    simp [Table.put, h, Table.get, Table.find_ins_same ord _ k v hne]

/-- A write leaves every other key alone. -/
theorem Table.get_put_other {κ α : Type} [DecidableEq κ] [DecidableEq α] (ord : κ → Nat) (d : κ → α)
    (t : Table κ α) (k j : κ) (v : α) (h : j ≠ k) :
    Table.get d (Table.put ord d t k v) j = Table.get d t j := by
  by_cases hv : v = d k
  · simp [Table.put, hv, Table.get_erase_other d t k j h]
  · simp [Table.put, hv, Table.get, Table.find_ins_other ord _ k j v h, Table.find_erase_other t k j h]

@[simp] theorem NTable.get_put_same {α : Type} [DecidableEq α] (d : α) (t : NTable α) (k : Nat) (v : α) :
    NTable.get d (NTable.put d t k v) k = v := Table.get_put_same _ _ _ _ _

theorem NTable.get_put_other {α : Type} [DecidableEq α] (d : α) (t : NTable α) (k j : Nat) (v : α) (h : j ≠ k) :
    NTable.get d (NTable.put d t k v) j = NTable.get d t j := Table.get_put_other _ _ _ _ _ _ h

@[simp] theorem NTable.get_mod_same {α : Type} [DecidableEq α] (d : α) (t : NTable α) (k : Nat) (f : α → α) :
    NTable.get d (NTable.mod d t k f) k = f (NTable.get d t k) := NTable.get_put_same _ _ _ _

theorem NTable.get_mod_other {α : Type} [DecidableEq α] (d : α) (t : NTable α) (k j : Nat) (f : α → α)
    (h : j ≠ k) : NTable.get d (NTable.mod d t k f) j = NTable.get d t j := NTable.get_put_other _ _ _ _ _ h

/-- Sortedness as a relation on all pairs. -/
theorem Table.sorted_iff {κ α : Type} (ord : κ → Nat) (t : Table κ α) :
    Table.sorted ord t = true ↔ t.Pairwise (fun a b => ord a.1 < ord b.1) := by
  induction t with
  | nil => simp [Table.sorted]
  | cons a t ih =>
    cases t with
    | nil => simp [Table.sorted]
    | cons b t =>
      simp only [Table.sorted, Bool.and_eq_true, decide_eq_true_eq, ih, List.pairwise_cons]
      constructor
      · rintro ⟨hab, hb, ht⟩
        refine ⟨?_, hb, ht⟩
        intro c hc
        rcases List.mem_cons.1 hc with rfl | hc
        · exact hab
        · exact lt_trans hab (hb c hc)
      · rintro ⟨ha, hb, ht⟩
        exact ⟨ha b (by simp), hb, ht⟩

theorem Table.mem_ins {κ α : Type} (ord : κ → Nat) (k : κ) (v : α) (t : Table κ α) (e : κ × α) :
    e ∈ Table.ins ord k v t ↔ e = (k, v) ∨ e ∈ t := by
  induction t with
  | nil => simp [Table.ins]
  | cons a t ih =>
    by_cases ho : ord k < ord a.1
    · simp [Table.ins, ho]
    · simp only [Table.ins, ho, if_false, List.mem_cons, ih]
      tauto

/-- Every write keeps the canonical form. -/
theorem Table.wf_put {κ α : Type} [DecidableEq κ] [DecidableEq α] (ord : κ → Nat) (d : κ → α)
    (inj : ∀ a b, ord a = ord b → a = b) (t : Table κ α) (k : κ) (v : α) (h : Table.wf ord d t = true) :
    Table.wf ord d (Table.put ord d t k v) = true := by
  simp only [Table.wf, Bool.and_eq_true, Table.sorted_iff, List.all_eq_true] at h ⊢
  have hs : (Table.erase t k).Pairwise (fun a b => ord a.1 < ord b.1) := h.1.filter _
  have ha : ∀ e ∈ Table.erase t k, e ∈ t ∧ e.1 ≠ k := by
    intro e he; simpa [Table.erase] using he
  by_cases hv : v = d k
  · rw [Table.put, if_pos hv]
    exact ⟨hs, fun e he => h.2 e (ha e he).1⟩
  · rw [Table.put, if_neg hv]
    refine ⟨?_, ?_⟩
    · have hk : ∀ e ∈ Table.erase t k, ord e.1 ≠ ord k := fun e he c => (ha e he).2 (inj _ _ c)
      clear ha
      revert hs hk
      generalize Table.erase t k = u
      induction u with
      | nil => intros; simp [Table.ins]
      | cons a u ih =>
        intro hs hk
        rw [List.pairwise_cons] at hs
        by_cases ho : ord k < ord a.1
        · simp only [Table.ins, ho, if_true, List.pairwise_cons]
          refine ⟨?_, hs.1, hs.2⟩
          intro b hb
          rcases List.mem_cons.1 hb with rfl | hb
          · exact ho
          · exact lt_trans ho (hs.1 b hb)
        · simp only [Table.ins, ho, if_false, List.pairwise_cons]
          refine ⟨?_, ih hs.2 (fun e he => hk e (by simp [he]))⟩
          intro b hb
          rcases (Table.mem_ins ord k v u b).1 hb with rfl | hb
          · have := hk a (by simp); simp only; omega
          · exact hs.1 b hb
    · intro e he
      rcases (Table.mem_ins ord k v _ e).1 he with rfl | he
      · simpa using hv
      · exact h.2 e (ha e he).1

/-- Every write to a table keyed by numbers keeps the canonical form. -/
theorem NTable.wf_put {α : Type} [DecidableEq α] (d : α) (t : NTable α) (k : Nat) (v : α)
    (h : NTable.wf d t = true) : NTable.wf d (NTable.put d t k v) = true :=
  Table.wf_put id _ (fun _ _ h => h) t k v h

end Sys2Proof.Machine
end

