-- ==== Sys2Proof/Laws/State.lean ====
section
/-!
SUPPORT. What each update of the state leaves alone, field by field, and what a register reads after a write.
-/
set_option linter.all false
namespace Sys2Proof.Machine

/-! touch. -/
@[simp] theorem touch_pending (s : State) (a n : Nat) : (s.touch a n).pending = s.pending := by unfold State.touch; split <;> rfl
@[simp] theorem touch_free (s : State) (a n : Nat) : (s.touch a n).free = s.free := by unfold State.touch; split <;> rfl
@[simp] theorem touch_tick (s : State) (a n : Nat) : (s.touch a n).tick = s.tick := by unfold State.touch; split <;> rfl
@[simp] theorem touch_cycle (s : State) (a n : Nat) : (s.touch a n).cycle = s.cycle := by unfold State.touch; split <;> rfl
@[simp] theorem touch_regs (s : State) (a n : Nat) : (s.touch a n).regs = s.regs := by unfold State.touch; split <;> rfl
@[simp] theorem touch_blobs (s : State) (a n : Nat) : (s.touch a n).blobs = s.blobs := by unfold State.touch; split <;> rfl
@[simp] theorem touch_mem (s : State) (a n : Nat) : (s.touch a n).mem = s.mem := by unfold State.touch; split <;> rfl
@[simp] theorem touch_repairs (s : State) (a n : Nat) : (s.touch a n).repairs = s.repairs := by unfold State.touch; split <;> rfl
@[simp] theorem touch_cores (s : State) (a n : Nat) : (s.touch a n).cores = s.cores := by unfold State.touch; split <;> rfl
@[simp] theorem touch_tasks (s : State) (a n : Nat) : (s.touch a n).tasks = s.tasks := by unfold State.touch; split <;> rfl
@[simp] theorem touch_plots (s : State) (a n : Nat) : (s.touch a n).plots = s.plots := by unfold State.touch; split <;> rfl
@[simp] theorem touch_wins (s : State) (a n : Nat) : (s.touch a n).wins = s.wins := by unfold State.touch; split <;> rfl
@[simp] theorem touch_src (s : State) (a n : Nat) : (s.touch a n).src = s.src := by unfold State.touch; split <;> rfl
@[simp] theorem touch_prev (s : State) (a n : Nat) : (s.touch a n).prev = s.prev := by unfold State.touch; split <;> rfl
@[simp] theorem touch_ingest (s : State) (a n : Nat) : (s.touch a n).ingest = s.ingest := by unfold State.touch; split <;> rfl
@[simp] theorem touch_staged (s : State) (a n : Nat) : (s.touch a n).staged = s.staged := by unfold State.touch; split <;> rfl
@[simp] theorem touch_out (s : State) (a n : Nat) : (s.touch a n).out = s.out := by unfold State.touch; split <;> rfl
@[simp] theorem touch_ranTo (s : State) (a n : Nat) : (s.touch a n).ranTo = s.ranTo := by unfold State.touch; split <;> rfl
@[simp] theorem touch_sinks (s : State) (a n : Nat) : (s.touch a n).sinks = s.sinks := by unfold State.touch; split <;> rfl
@[simp] theorem touch_buses (s : State) (a n : Nat) : (s.touch a n).buses = s.buses := by unfold State.touch; split <;> rfl
@[simp] theorem touch_xps (s : State) (a n : Nat) : (s.touch a n).xps = s.xps := by unfold State.touch; split <;> rfl
@[simp] theorem touch_gens (s : State) (a n : Nat) : (s.touch a n).gens = s.gens := by unfold State.touch; split <;> rfl
@[simp] theorem touch_trackers (s : State) (a n : Nat) : (s.touch a n).trackers = s.trackers := by unfold State.touch; split <;> rfl
@[simp] theorem touch_bridges (s : State) (a n : Nat) : (s.touch a n).bridges = s.bridges := by unfold State.touch; split <;> rfl
@[simp] theorem touch_freeIn (s : State) (a n : Nat) : (s.touch a n).freeIn = s.freeIn := by unfold State.touch; split <;> rfl
@[simp] theorem touch_sils (s : State) (a n : Nat) : (s.touch a n).sils = s.sils := by unfold State.touch; split <;> rfl
@[simp] theorem touch_memory (s : State) (a n : Nat) : (s.touch a n).memory = s.memory := by unfold State.touch; split <;> rfl
@[simp] theorem touch_trellis (s : State) (a n : Nat) : (s.touch a n).trellis = s.trellis := by unfold State.touch; split <;> rfl
@[simp] theorem touch_groups (s : State) (a n : Nat) : (s.touch a n).groups = s.groups := by unfold State.touch; split <;> rfl
@[simp] theorem touch_fcuCoef (s : State) (a n : Nat) : (s.touch a n).fcuCoef = s.fcuCoef := by unfold State.touch; split <;> rfl
@[simp] theorem touch_fcuState (s : State) (a n : Nat) : (s.touch a n).fcuState = s.fcuState := by unfold State.touch; split <;> rfl
@[simp] theorem touch_fcuScrub (s : State) (a n : Nat) : (s.touch a n).fcuScrub = s.fcuScrub := by unfold State.touch; split <;> rfl
@[simp] theorem touch_areXps (s : State) (a n : Nat) : (s.touch a n).areXps = s.areXps := by unfold State.touch; split <;> rfl
@[simp] theorem touch_areCoef (s : State) (a n : Nat) : (s.touch a n).areCoef = s.areCoef := by unfold State.touch; split <;> rfl
@[simp] theorem touch_hist (s : State) (a n : Nat) : (s.touch a n).hist = s.hist := by unfold State.touch; split <;> rfl
@[simp] theorem touch_areLine (s : State) (a n : Nat) : (s.touch a n).areLine = s.areLine := by unfold State.touch; split <;> rfl
@[simp] theorem touch_histWord (s : State) (a n : Nat) : (s.touch a n).histWord = s.histWord := by unfold State.touch; split <;> rfl
@[simp] theorem touch_areSets (s : State) (a n : Nat) : (s.touch a n).areSets = s.areSets := by unfold State.touch; split <;> rfl
@[simp] theorem touch_holdings (s : State) (a n : Nat) : (s.touch a n).holdings = s.holdings := by unfold State.touch; split <;> rfl
@[simp] theorem touch_offers (s : State) (a n : Nat) : (s.touch a n).offers = s.offers := by unfold State.touch; split <;> rfl
@[simp] theorem touch_accepts (s : State) (a n : Nat) : (s.touch a n).accepts = s.accepts := by unfold State.touch; split <;> rfl
@[simp] theorem touch_auths (s : State) (a n : Nat) : (s.touch a n).auths = s.auths := by unfold State.touch; split <;> rfl
@[simp] theorem touch_due (s : State) (a n : Nat) : (s.touch a n).due = s.due := by unfold State.touch; split <;> rfl
@[simp] theorem touch_timed (s : State) (a n : Nat) : (s.touch a n).timed = s.timed := by unfold State.touch; split <;> rfl
@[simp] theorem touch_sessions (s : State) (a n : Nat) : (s.touch a n).sessions = s.sessions := by unfold State.touch; split <;> rfl
@[simp] theorem touch_sources (s : State) (a n : Nat) : (s.touch a n).sources = s.sources := by unfold State.touch; split <;> rfl
@[simp] theorem touch_rings (s : State) (a n : Nat) : (s.touch a n).rings = s.rings := by unfold State.touch; split <;> rfl
@[simp] theorem touch_answer (s : State) (a n : Nat) : (s.touch a n).answer = s.answer := by unfold State.touch; split <;> rfl
@[simp] theorem touch_gard (s : State) (a n : Nat) : (s.touch a n).gard = s.gard := by unfold State.touch; split <;> rfl
@[simp] theorem touch_log (s : State) (a n : Nat) : (s.touch a n).log = s.log := by unfold State.touch; split <;> rfl
@[simp] theorem touch_clk (s : State) (a n : Nat) : (s.touch a n).clk = s.clk := by unfold State.touch; split <;> rfl
@[simp] theorem touch_tevs (s : State) (a n : Nat) : (s.touch a n).tevs = s.tevs := by unfold State.touch; split <;> rfl
@[simp] theorem touch_net (s : State) (a n : Nat) : (s.touch a n).net = s.net := by unfold State.touch; split <;> rfl
@[simp] theorem touch_rxs (s : State) (a n : Nat) : (s.touch a n).rxs = s.rxs := by unfold State.touch; split <;> rfl
@[simp] theorem touch_txs (s : State) (a n : Nat) : (s.touch a n).txs = s.txs := by unfold State.touch; split <;> rfl
@[simp] theorem touch_txHist (s : State) (a n : Nat) : (s.touch a n).txHist = s.txHist := by unfold State.touch; split <;> rfl
@[simp] theorem touch_saps (s : State) (a n : Nat) : (s.touch a n).saps = s.saps := by unfold State.touch; split <;> rfl
@[simp] theorem touch_pscs (s : State) (a n : Nat) : (s.touch a n).pscs = s.pscs := by unfold State.touch; split <;> rfl
@[simp] theorem touch_host (s : State) (a n : Nat) : (s.touch a n).host = s.host := by unfold State.touch; split <;> rfl
@[simp] theorem touch_addr (s : State) (a n : Nat) : (s.touch a n).addr = s.addr := by unfold State.touch; split <;> rfl
@[simp] theorem touch_rst (s : State) (a n : Nat) : (s.touch a n).rst = s.rst := by unfold State.touch; split <;> rfl
@[simp] theorem touch_brace (s : State) (a n : Nat) : (s.touch a n).brace = s.brace := by unfold State.touch; split <;> rfl
/-! setReg. -/
@[simp] theorem setReg_pending (s : State) (r : Reg) (v : Int) : (State.setReg s r v).pending = s.pending := rfl
@[simp] theorem setReg_free (s : State) (r : Reg) (v : Int) : (State.setReg s r v).free = s.free := rfl
@[simp] theorem setReg_tick (s : State) (r : Reg) (v : Int) : (State.setReg s r v).tick = s.tick := rfl
@[simp] theorem setReg_cycle (s : State) (r : Reg) (v : Int) : (State.setReg s r v).cycle = s.cycle := rfl
@[simp] theorem setReg_blobs (s : State) (r : Reg) (v : Int) : (State.setReg s r v).blobs = s.blobs := rfl
@[simp] theorem setReg_mem (s : State) (r : Reg) (v : Int) : (State.setReg s r v).mem = s.mem := rfl
@[simp] theorem setReg_repairs (s : State) (r : Reg) (v : Int) : (State.setReg s r v).repairs = s.repairs := rfl
@[simp] theorem setReg_cores (s : State) (r : Reg) (v : Int) : (State.setReg s r v).cores = s.cores := rfl
@[simp] theorem setReg_tasks (s : State) (r : Reg) (v : Int) : (State.setReg s r v).tasks = s.tasks := rfl
@[simp] theorem setReg_plots (s : State) (r : Reg) (v : Int) : (State.setReg s r v).plots = s.plots := rfl
@[simp] theorem setReg_wins (s : State) (r : Reg) (v : Int) : (State.setReg s r v).wins = s.wins := rfl
@[simp] theorem setReg_src (s : State) (r : Reg) (v : Int) : (State.setReg s r v).src = s.src := rfl
@[simp] theorem setReg_prev (s : State) (r : Reg) (v : Int) : (State.setReg s r v).prev = s.prev := rfl
@[simp] theorem setReg_ingest (s : State) (r : Reg) (v : Int) : (State.setReg s r v).ingest = s.ingest := rfl
@[simp] theorem setReg_staged (s : State) (r : Reg) (v : Int) : (State.setReg s r v).staged = s.staged := rfl
@[simp] theorem setReg_out (s : State) (r : Reg) (v : Int) : (State.setReg s r v).out = s.out := rfl
@[simp] theorem setReg_ranTo (s : State) (r : Reg) (v : Int) : (State.setReg s r v).ranTo = s.ranTo := rfl
@[simp] theorem setReg_sinks (s : State) (r : Reg) (v : Int) : (State.setReg s r v).sinks = s.sinks := rfl
@[simp] theorem setReg_buses (s : State) (r : Reg) (v : Int) : (State.setReg s r v).buses = s.buses := rfl
@[simp] theorem setReg_xps (s : State) (r : Reg) (v : Int) : (State.setReg s r v).xps = s.xps := rfl
@[simp] theorem setReg_gens (s : State) (r : Reg) (v : Int) : (State.setReg s r v).gens = s.gens := rfl
@[simp] theorem setReg_trackers (s : State) (r : Reg) (v : Int) : (State.setReg s r v).trackers = s.trackers := rfl
@[simp] theorem setReg_bridges (s : State) (r : Reg) (v : Int) : (State.setReg s r v).bridges = s.bridges := rfl
@[simp] theorem setReg_freeIn (s : State) (r : Reg) (v : Int) : (State.setReg s r v).freeIn = s.freeIn := rfl
@[simp] theorem setReg_sils (s : State) (r : Reg) (v : Int) : (State.setReg s r v).sils = s.sils := rfl
@[simp] theorem setReg_memory (s : State) (r : Reg) (v : Int) : (State.setReg s r v).memory = s.memory := rfl
@[simp] theorem setReg_trellis (s : State) (r : Reg) (v : Int) : (State.setReg s r v).trellis = s.trellis := rfl
@[simp] theorem setReg_groups (s : State) (r : Reg) (v : Int) : (State.setReg s r v).groups = s.groups := rfl
@[simp] theorem setReg_fcuCoef (s : State) (r : Reg) (v : Int) : (State.setReg s r v).fcuCoef = s.fcuCoef := rfl
@[simp] theorem setReg_fcuState (s : State) (r : Reg) (v : Int) : (State.setReg s r v).fcuState = s.fcuState := rfl
@[simp] theorem setReg_fcuScrub (s : State) (r : Reg) (v : Int) : (State.setReg s r v).fcuScrub = s.fcuScrub := rfl
@[simp] theorem setReg_areXps (s : State) (r : Reg) (v : Int) : (State.setReg s r v).areXps = s.areXps := rfl
@[simp] theorem setReg_areCoef (s : State) (r : Reg) (v : Int) : (State.setReg s r v).areCoef = s.areCoef := rfl
@[simp] theorem setReg_hist (s : State) (r : Reg) (v : Int) : (State.setReg s r v).hist = s.hist := rfl
@[simp] theorem setReg_areLine (s : State) (r : Reg) (v : Int) : (State.setReg s r v).areLine = s.areLine := rfl
@[simp] theorem setReg_histWord (s : State) (r : Reg) (v : Int) : (State.setReg s r v).histWord = s.histWord := rfl
@[simp] theorem setReg_areSets (s : State) (r : Reg) (v : Int) : (State.setReg s r v).areSets = s.areSets := rfl
@[simp] theorem setReg_holdings (s : State) (r : Reg) (v : Int) : (State.setReg s r v).holdings = s.holdings := rfl
@[simp] theorem setReg_offers (s : State) (r : Reg) (v : Int) : (State.setReg s r v).offers = s.offers := rfl
@[simp] theorem setReg_accepts (s : State) (r : Reg) (v : Int) : (State.setReg s r v).accepts = s.accepts := rfl
@[simp] theorem setReg_auths (s : State) (r : Reg) (v : Int) : (State.setReg s r v).auths = s.auths := rfl
@[simp] theorem setReg_due (s : State) (r : Reg) (v : Int) : (State.setReg s r v).due = s.due := rfl
@[simp] theorem setReg_timed (s : State) (r : Reg) (v : Int) : (State.setReg s r v).timed = s.timed := rfl
@[simp] theorem setReg_sessions (s : State) (r : Reg) (v : Int) : (State.setReg s r v).sessions = s.sessions := rfl
@[simp] theorem setReg_sources (s : State) (r : Reg) (v : Int) : (State.setReg s r v).sources = s.sources := rfl
@[simp] theorem setReg_rings (s : State) (r : Reg) (v : Int) : (State.setReg s r v).rings = s.rings := rfl
@[simp] theorem setReg_answer (s : State) (r : Reg) (v : Int) : (State.setReg s r v).answer = s.answer := rfl
@[simp] theorem setReg_gard (s : State) (r : Reg) (v : Int) : (State.setReg s r v).gard = s.gard := rfl
@[simp] theorem setReg_log (s : State) (r : Reg) (v : Int) : (State.setReg s r v).log = s.log := rfl
@[simp] theorem setReg_clk (s : State) (r : Reg) (v : Int) : (State.setReg s r v).clk = s.clk := rfl
@[simp] theorem setReg_tevs (s : State) (r : Reg) (v : Int) : (State.setReg s r v).tevs = s.tevs := rfl
@[simp] theorem setReg_net (s : State) (r : Reg) (v : Int) : (State.setReg s r v).net = s.net := rfl
@[simp] theorem setReg_rxs (s : State) (r : Reg) (v : Int) : (State.setReg s r v).rxs = s.rxs := rfl
@[simp] theorem setReg_txs (s : State) (r : Reg) (v : Int) : (State.setReg s r v).txs = s.txs := rfl
@[simp] theorem setReg_txHist (s : State) (r : Reg) (v : Int) : (State.setReg s r v).txHist = s.txHist := rfl
@[simp] theorem setReg_saps (s : State) (r : Reg) (v : Int) : (State.setReg s r v).saps = s.saps := rfl
@[simp] theorem setReg_pscs (s : State) (r : Reg) (v : Int) : (State.setReg s r v).pscs = s.pscs := rfl
@[simp] theorem setReg_pair (s : State) (r : Reg) (v : Int) : (State.setReg s r v).pair = s.pair := rfl
@[simp] theorem setReg_host (s : State) (r : Reg) (v : Int) : (State.setReg s r v).host = s.host := rfl
@[simp] theorem setReg_addr (s : State) (r : Reg) (v : Int) : (State.setReg s r v).addr = s.addr := rfl
@[simp] theorem setReg_rst (s : State) (r : Reg) (v : Int) : (State.setReg s r v).rst = s.rst := rfl
@[simp] theorem setReg_brace (s : State) (r : Reg) (v : Int) : (State.setReg s r v).brace = s.brace := rfl
/-! setBlob. -/
@[simp] theorem setBlob_pending (s : State) (r : Reg) (b : List Byte) : (State.setBlob s r b).pending = s.pending := rfl
@[simp] theorem setBlob_free (s : State) (r : Reg) (b : List Byte) : (State.setBlob s r b).free = s.free := rfl
@[simp] theorem setBlob_tick (s : State) (r : Reg) (b : List Byte) : (State.setBlob s r b).tick = s.tick := rfl
@[simp] theorem setBlob_cycle (s : State) (r : Reg) (b : List Byte) : (State.setBlob s r b).cycle = s.cycle := rfl
@[simp] theorem setBlob_regs (s : State) (r : Reg) (b : List Byte) : (State.setBlob s r b).regs = s.regs := rfl
@[simp] theorem setBlob_mem (s : State) (r : Reg) (b : List Byte) : (State.setBlob s r b).mem = s.mem := rfl
@[simp] theorem setBlob_repairs (s : State) (r : Reg) (b : List Byte) : (State.setBlob s r b).repairs = s.repairs := rfl
@[simp] theorem setBlob_cores (s : State) (r : Reg) (b : List Byte) : (State.setBlob s r b).cores = s.cores := rfl
@[simp] theorem setBlob_tasks (s : State) (r : Reg) (b : List Byte) : (State.setBlob s r b).tasks = s.tasks := rfl
@[simp] theorem setBlob_plots (s : State) (r : Reg) (b : List Byte) : (State.setBlob s r b).plots = s.plots := rfl
@[simp] theorem setBlob_wins (s : State) (r : Reg) (b : List Byte) : (State.setBlob s r b).wins = s.wins := rfl
@[simp] theorem setBlob_src (s : State) (r : Reg) (b : List Byte) : (State.setBlob s r b).src = s.src := rfl
@[simp] theorem setBlob_prev (s : State) (r : Reg) (b : List Byte) : (State.setBlob s r b).prev = s.prev := rfl
@[simp] theorem setBlob_ingest (s : State) (r : Reg) (b : List Byte) : (State.setBlob s r b).ingest = s.ingest := rfl
@[simp] theorem setBlob_staged (s : State) (r : Reg) (b : List Byte) : (State.setBlob s r b).staged = s.staged := rfl
@[simp] theorem setBlob_out (s : State) (r : Reg) (b : List Byte) : (State.setBlob s r b).out = s.out := rfl
@[simp] theorem setBlob_ranTo (s : State) (r : Reg) (b : List Byte) : (State.setBlob s r b).ranTo = s.ranTo := rfl
@[simp] theorem setBlob_sinks (s : State) (r : Reg) (b : List Byte) : (State.setBlob s r b).sinks = s.sinks := rfl
@[simp] theorem setBlob_buses (s : State) (r : Reg) (b : List Byte) : (State.setBlob s r b).buses = s.buses := rfl
@[simp] theorem setBlob_xps (s : State) (r : Reg) (b : List Byte) : (State.setBlob s r b).xps = s.xps := rfl
@[simp] theorem setBlob_gens (s : State) (r : Reg) (b : List Byte) : (State.setBlob s r b).gens = s.gens := rfl
@[simp] theorem setBlob_trackers (s : State) (r : Reg) (b : List Byte) : (State.setBlob s r b).trackers = s.trackers := rfl
@[simp] theorem setBlob_bridges (s : State) (r : Reg) (b : List Byte) : (State.setBlob s r b).bridges = s.bridges := rfl
@[simp] theorem setBlob_freeIn (s : State) (r : Reg) (b : List Byte) : (State.setBlob s r b).freeIn = s.freeIn := rfl
@[simp] theorem setBlob_sils (s : State) (r : Reg) (b : List Byte) : (State.setBlob s r b).sils = s.sils := rfl
@[simp] theorem setBlob_memory (s : State) (r : Reg) (b : List Byte) : (State.setBlob s r b).memory = s.memory := rfl
@[simp] theorem setBlob_trellis (s : State) (r : Reg) (b : List Byte) : (State.setBlob s r b).trellis = s.trellis := rfl
@[simp] theorem setBlob_groups (s : State) (r : Reg) (b : List Byte) : (State.setBlob s r b).groups = s.groups := rfl
@[simp] theorem setBlob_fcuCoef (s : State) (r : Reg) (b : List Byte) : (State.setBlob s r b).fcuCoef = s.fcuCoef := rfl
@[simp] theorem setBlob_fcuState (s : State) (r : Reg) (b : List Byte) : (State.setBlob s r b).fcuState = s.fcuState := rfl
@[simp] theorem setBlob_fcuScrub (s : State) (r : Reg) (b : List Byte) : (State.setBlob s r b).fcuScrub = s.fcuScrub := rfl
@[simp] theorem setBlob_areXps (s : State) (r : Reg) (b : List Byte) : (State.setBlob s r b).areXps = s.areXps := rfl
@[simp] theorem setBlob_areCoef (s : State) (r : Reg) (b : List Byte) : (State.setBlob s r b).areCoef = s.areCoef := rfl
@[simp] theorem setBlob_hist (s : State) (r : Reg) (b : List Byte) : (State.setBlob s r b).hist = s.hist := rfl
@[simp] theorem setBlob_areLine (s : State) (r : Reg) (b : List Byte) : (State.setBlob s r b).areLine = s.areLine := rfl
@[simp] theorem setBlob_histWord (s : State) (r : Reg) (b : List Byte) : (State.setBlob s r b).histWord = s.histWord := rfl
@[simp] theorem setBlob_areSets (s : State) (r : Reg) (b : List Byte) : (State.setBlob s r b).areSets = s.areSets := rfl
@[simp] theorem setBlob_holdings (s : State) (r : Reg) (b : List Byte) : (State.setBlob s r b).holdings = s.holdings := rfl
@[simp] theorem setBlob_offers (s : State) (r : Reg) (b : List Byte) : (State.setBlob s r b).offers = s.offers := rfl
@[simp] theorem setBlob_accepts (s : State) (r : Reg) (b : List Byte) : (State.setBlob s r b).accepts = s.accepts := rfl
@[simp] theorem setBlob_auths (s : State) (r : Reg) (b : List Byte) : (State.setBlob s r b).auths = s.auths := rfl
@[simp] theorem setBlob_due (s : State) (r : Reg) (b : List Byte) : (State.setBlob s r b).due = s.due := rfl
@[simp] theorem setBlob_timed (s : State) (r : Reg) (b : List Byte) : (State.setBlob s r b).timed = s.timed := rfl
@[simp] theorem setBlob_sessions (s : State) (r : Reg) (b : List Byte) : (State.setBlob s r b).sessions = s.sessions := rfl
@[simp] theorem setBlob_sources (s : State) (r : Reg) (b : List Byte) : (State.setBlob s r b).sources = s.sources := rfl
@[simp] theorem setBlob_rings (s : State) (r : Reg) (b : List Byte) : (State.setBlob s r b).rings = s.rings := rfl
@[simp] theorem setBlob_answer (s : State) (r : Reg) (b : List Byte) : (State.setBlob s r b).answer = s.answer := rfl
@[simp] theorem setBlob_gard (s : State) (r : Reg) (b : List Byte) : (State.setBlob s r b).gard = s.gard := rfl
@[simp] theorem setBlob_log (s : State) (r : Reg) (b : List Byte) : (State.setBlob s r b).log = s.log := rfl
@[simp] theorem setBlob_clk (s : State) (r : Reg) (b : List Byte) : (State.setBlob s r b).clk = s.clk := rfl
@[simp] theorem setBlob_tevs (s : State) (r : Reg) (b : List Byte) : (State.setBlob s r b).tevs = s.tevs := rfl
@[simp] theorem setBlob_net (s : State) (r : Reg) (b : List Byte) : (State.setBlob s r b).net = s.net := rfl
@[simp] theorem setBlob_rxs (s : State) (r : Reg) (b : List Byte) : (State.setBlob s r b).rxs = s.rxs := rfl
@[simp] theorem setBlob_txs (s : State) (r : Reg) (b : List Byte) : (State.setBlob s r b).txs = s.txs := rfl
@[simp] theorem setBlob_txHist (s : State) (r : Reg) (b : List Byte) : (State.setBlob s r b).txHist = s.txHist := rfl
@[simp] theorem setBlob_saps (s : State) (r : Reg) (b : List Byte) : (State.setBlob s r b).saps = s.saps := rfl
@[simp] theorem setBlob_pscs (s : State) (r : Reg) (b : List Byte) : (State.setBlob s r b).pscs = s.pscs := rfl
@[simp] theorem setBlob_pair (s : State) (r : Reg) (b : List Byte) : (State.setBlob s r b).pair = s.pair := rfl
@[simp] theorem setBlob_host (s : State) (r : Reg) (b : List Byte) : (State.setBlob s r b).host = s.host := rfl
@[simp] theorem setBlob_addr (s : State) (r : Reg) (b : List Byte) : (State.setBlob s r b).addr = s.addr := rfl
@[simp] theorem setBlob_rst (s : State) (r : Reg) (b : List Byte) : (State.setBlob s r b).rst = s.rst := rfl
@[simp] theorem setBlob_brace (s : State) (r : Reg) (b : List Byte) : (State.setBlob s r b).brace = s.brace := rfl
/-! modPlot. -/
@[simp] theorem modPlot_pending (s : State) (p : Nat) (f : PlotSt → PlotSt) : (State.modPlot s p f).pending = s.pending := rfl
@[simp] theorem modPlot_free (s : State) (p : Nat) (f : PlotSt → PlotSt) : (State.modPlot s p f).free = s.free := rfl
@[simp] theorem modPlot_tick (s : State) (p : Nat) (f : PlotSt → PlotSt) : (State.modPlot s p f).tick = s.tick := rfl
@[simp] theorem modPlot_cycle (s : State) (p : Nat) (f : PlotSt → PlotSt) : (State.modPlot s p f).cycle = s.cycle := rfl
@[simp] theorem modPlot_regs (s : State) (p : Nat) (f : PlotSt → PlotSt) : (State.modPlot s p f).regs = s.regs := rfl
@[simp] theorem modPlot_blobs (s : State) (p : Nat) (f : PlotSt → PlotSt) : (State.modPlot s p f).blobs = s.blobs := rfl
@[simp] theorem modPlot_mem (s : State) (p : Nat) (f : PlotSt → PlotSt) : (State.modPlot s p f).mem = s.mem := rfl
@[simp] theorem modPlot_repairs (s : State) (p : Nat) (f : PlotSt → PlotSt) : (State.modPlot s p f).repairs = s.repairs := rfl
@[simp] theorem modPlot_cores (s : State) (p : Nat) (f : PlotSt → PlotSt) : (State.modPlot s p f).cores = s.cores := rfl
@[simp] theorem modPlot_tasks (s : State) (p : Nat) (f : PlotSt → PlotSt) : (State.modPlot s p f).tasks = s.tasks := rfl
@[simp] theorem modPlot_wins (s : State) (p : Nat) (f : PlotSt → PlotSt) : (State.modPlot s p f).wins = s.wins := rfl
@[simp] theorem modPlot_src (s : State) (p : Nat) (f : PlotSt → PlotSt) : (State.modPlot s p f).src = s.src := rfl
@[simp] theorem modPlot_prev (s : State) (p : Nat) (f : PlotSt → PlotSt) : (State.modPlot s p f).prev = s.prev := rfl
@[simp] theorem modPlot_ingest (s : State) (p : Nat) (f : PlotSt → PlotSt) : (State.modPlot s p f).ingest = s.ingest := rfl
@[simp] theorem modPlot_staged (s : State) (p : Nat) (f : PlotSt → PlotSt) : (State.modPlot s p f).staged = s.staged := rfl
@[simp] theorem modPlot_out (s : State) (p : Nat) (f : PlotSt → PlotSt) : (State.modPlot s p f).out = s.out := rfl
@[simp] theorem modPlot_ranTo (s : State) (p : Nat) (f : PlotSt → PlotSt) : (State.modPlot s p f).ranTo = s.ranTo := rfl
@[simp] theorem modPlot_sinks (s : State) (p : Nat) (f : PlotSt → PlotSt) : (State.modPlot s p f).sinks = s.sinks := rfl
@[simp] theorem modPlot_buses (s : State) (p : Nat) (f : PlotSt → PlotSt) : (State.modPlot s p f).buses = s.buses := rfl
@[simp] theorem modPlot_xps (s : State) (p : Nat) (f : PlotSt → PlotSt) : (State.modPlot s p f).xps = s.xps := rfl
@[simp] theorem modPlot_gens (s : State) (p : Nat) (f : PlotSt → PlotSt) : (State.modPlot s p f).gens = s.gens := rfl
@[simp] theorem modPlot_trackers (s : State) (p : Nat) (f : PlotSt → PlotSt) : (State.modPlot s p f).trackers = s.trackers := rfl
@[simp] theorem modPlot_bridges (s : State) (p : Nat) (f : PlotSt → PlotSt) : (State.modPlot s p f).bridges = s.bridges := rfl
@[simp] theorem modPlot_freeIn (s : State) (p : Nat) (f : PlotSt → PlotSt) : (State.modPlot s p f).freeIn = s.freeIn := rfl
@[simp] theorem modPlot_sils (s : State) (p : Nat) (f : PlotSt → PlotSt) : (State.modPlot s p f).sils = s.sils := rfl
@[simp] theorem modPlot_memory (s : State) (p : Nat) (f : PlotSt → PlotSt) : (State.modPlot s p f).memory = s.memory := rfl
@[simp] theorem modPlot_trellis (s : State) (p : Nat) (f : PlotSt → PlotSt) : (State.modPlot s p f).trellis = s.trellis := rfl
@[simp] theorem modPlot_groups (s : State) (p : Nat) (f : PlotSt → PlotSt) : (State.modPlot s p f).groups = s.groups := rfl
@[simp] theorem modPlot_fcuCoef (s : State) (p : Nat) (f : PlotSt → PlotSt) : (State.modPlot s p f).fcuCoef = s.fcuCoef := rfl
@[simp] theorem modPlot_fcuState (s : State) (p : Nat) (f : PlotSt → PlotSt) : (State.modPlot s p f).fcuState = s.fcuState := rfl
@[simp] theorem modPlot_fcuScrub (s : State) (p : Nat) (f : PlotSt → PlotSt) : (State.modPlot s p f).fcuScrub = s.fcuScrub := rfl
@[simp] theorem modPlot_areXps (s : State) (p : Nat) (f : PlotSt → PlotSt) : (State.modPlot s p f).areXps = s.areXps := rfl
@[simp] theorem modPlot_areCoef (s : State) (p : Nat) (f : PlotSt → PlotSt) : (State.modPlot s p f).areCoef = s.areCoef := rfl
@[simp] theorem modPlot_hist (s : State) (p : Nat) (f : PlotSt → PlotSt) : (State.modPlot s p f).hist = s.hist := rfl
@[simp] theorem modPlot_areLine (s : State) (p : Nat) (f : PlotSt → PlotSt) : (State.modPlot s p f).areLine = s.areLine := rfl
@[simp] theorem modPlot_histWord (s : State) (p : Nat) (f : PlotSt → PlotSt) : (State.modPlot s p f).histWord = s.histWord := rfl
@[simp] theorem modPlot_areSets (s : State) (p : Nat) (f : PlotSt → PlotSt) : (State.modPlot s p f).areSets = s.areSets := rfl
@[simp] theorem modPlot_holdings (s : State) (p : Nat) (f : PlotSt → PlotSt) : (State.modPlot s p f).holdings = s.holdings := rfl
@[simp] theorem modPlot_offers (s : State) (p : Nat) (f : PlotSt → PlotSt) : (State.modPlot s p f).offers = s.offers := rfl
@[simp] theorem modPlot_accepts (s : State) (p : Nat) (f : PlotSt → PlotSt) : (State.modPlot s p f).accepts = s.accepts := rfl
@[simp] theorem modPlot_auths (s : State) (p : Nat) (f : PlotSt → PlotSt) : (State.modPlot s p f).auths = s.auths := rfl
@[simp] theorem modPlot_due (s : State) (p : Nat) (f : PlotSt → PlotSt) : (State.modPlot s p f).due = s.due := rfl
@[simp] theorem modPlot_timed (s : State) (p : Nat) (f : PlotSt → PlotSt) : (State.modPlot s p f).timed = s.timed := rfl
@[simp] theorem modPlot_sessions (s : State) (p : Nat) (f : PlotSt → PlotSt) : (State.modPlot s p f).sessions = s.sessions := rfl
@[simp] theorem modPlot_sources (s : State) (p : Nat) (f : PlotSt → PlotSt) : (State.modPlot s p f).sources = s.sources := rfl
@[simp] theorem modPlot_rings (s : State) (p : Nat) (f : PlotSt → PlotSt) : (State.modPlot s p f).rings = s.rings := rfl
@[simp] theorem modPlot_answer (s : State) (p : Nat) (f : PlotSt → PlotSt) : (State.modPlot s p f).answer = s.answer := rfl
@[simp] theorem modPlot_gard (s : State) (p : Nat) (f : PlotSt → PlotSt) : (State.modPlot s p f).gard = s.gard := rfl
@[simp] theorem modPlot_log (s : State) (p : Nat) (f : PlotSt → PlotSt) : (State.modPlot s p f).log = s.log := rfl
@[simp] theorem modPlot_clk (s : State) (p : Nat) (f : PlotSt → PlotSt) : (State.modPlot s p f).clk = s.clk := rfl
@[simp] theorem modPlot_tevs (s : State) (p : Nat) (f : PlotSt → PlotSt) : (State.modPlot s p f).tevs = s.tevs := rfl
@[simp] theorem modPlot_net (s : State) (p : Nat) (f : PlotSt → PlotSt) : (State.modPlot s p f).net = s.net := rfl
@[simp] theorem modPlot_rxs (s : State) (p : Nat) (f : PlotSt → PlotSt) : (State.modPlot s p f).rxs = s.rxs := rfl
@[simp] theorem modPlot_txs (s : State) (p : Nat) (f : PlotSt → PlotSt) : (State.modPlot s p f).txs = s.txs := rfl
@[simp] theorem modPlot_txHist (s : State) (p : Nat) (f : PlotSt → PlotSt) : (State.modPlot s p f).txHist = s.txHist := rfl
@[simp] theorem modPlot_saps (s : State) (p : Nat) (f : PlotSt → PlotSt) : (State.modPlot s p f).saps = s.saps := rfl
@[simp] theorem modPlot_pscs (s : State) (p : Nat) (f : PlotSt → PlotSt) : (State.modPlot s p f).pscs = s.pscs := rfl
@[simp] theorem modPlot_pair (s : State) (p : Nat) (f : PlotSt → PlotSt) : (State.modPlot s p f).pair = s.pair := rfl
@[simp] theorem modPlot_host (s : State) (p : Nat) (f : PlotSt → PlotSt) : (State.modPlot s p f).host = s.host := rfl
@[simp] theorem modPlot_addr (s : State) (p : Nat) (f : PlotSt → PlotSt) : (State.modPlot s p f).addr = s.addr := rfl
@[simp] theorem modPlot_rst (s : State) (p : Nat) (f : PlotSt → PlotSt) : (State.modPlot s p f).rst = s.rst := rfl
@[simp] theorem modPlot_brace (s : State) (p : Nat) (f : PlotSt → PlotSt) : (State.modPlot s p f).brace = s.brace := rfl
/-! setCore. -/
@[simp] theorem setCore_regs (s : State) (c : Nat) (k : CoreSt) : (State.setCore s c k).regs = s.regs := rfl
@[simp] theorem setCore_mem (s : State) (c : Nat) (k : CoreSt) : (State.setCore s c k).mem = s.mem := rfl
@[simp] theorem setCore_tick (s : State) (c : Nat) (k : CoreSt) : (State.setCore s c k).tick = s.tick := rfl
@[simp] theorem setCore_cycle (s : State) (c : Nat) (k : CoreSt) : (State.setCore s c k).cycle = s.cycle := rfl
@[simp] theorem setCore_pending (s : State) (c : Nat) (k : CoreSt) : (State.setCore s c k).pending = s.pending := rfl
@[simp] theorem setCore_plots (s : State) (c : Nat) (k : CoreSt) : (State.setCore s c k).plots = s.plots := rfl
@[simp] theorem setCore_pair (s : State) (c : Nat) (k : CoreSt) : (State.setCore s c k).pair = s.pair := rfl
@[simp] theorem setCore_log (s : State) (c : Nat) (k : CoreSt) : (State.setCore s c k).log = s.log := rfl
/-! modTask. -/
@[simp] theorem modTask_regs (s : State) (p id : Nat) (f : TaskSt → TaskSt) : (State.modTask s p id f).regs = s.regs := rfl
@[simp] theorem modTask_mem (s : State) (p id : Nat) (f : TaskSt → TaskSt) : (State.modTask s p id f).mem = s.mem := rfl
@[simp] theorem modTask_tick (s : State) (p id : Nat) (f : TaskSt → TaskSt) : (State.modTask s p id f).tick = s.tick := rfl
@[simp] theorem modTask_cycle (s : State) (p id : Nat) (f : TaskSt → TaskSt) : (State.modTask s p id f).cycle = s.cycle := rfl
@[simp] theorem modTask_pending (s : State) (p id : Nat) (f : TaskSt → TaskSt) : (State.modTask s p id f).pending = s.pending := rfl
@[simp] theorem modTask_cores (s : State) (p id : Nat) (f : TaskSt → TaskSt) : (State.modTask s p id f).cores = s.cores := rfl
@[simp] theorem modTask_plots (s : State) (p id : Nat) (f : TaskSt → TaskSt) : (State.modTask s p id f).plots = s.plots := rfl
@[simp] theorem modTask_pair (s : State) (p id : Nat) (f : TaskSt → TaskSt) : (State.modTask s p id f).pair = s.pair := rfl
@[simp] theorem modTask_log (s : State) (p id : Nat) (f : TaskSt → TaskSt) : (State.modTask s p id f).log = s.log := rfl
/-! reply. -/
@[simp] theorem reply_pending (s : State) (code : Nat) : (State.reply s code).pending = s.pending := rfl
@[simp] theorem reply_free (s : State) (code : Nat) : (State.reply s code).free = s.free := rfl
@[simp] theorem reply_tick (s : State) (code : Nat) : (State.reply s code).tick = s.tick := rfl
@[simp] theorem reply_cycle (s : State) (code : Nat) : (State.reply s code).cycle = s.cycle := rfl
@[simp] theorem reply_regs (s : State) (code : Nat) : (State.reply s code).regs = s.regs := rfl
@[simp] theorem reply_blobs (s : State) (code : Nat) : (State.reply s code).blobs = s.blobs := rfl
@[simp] theorem reply_mem (s : State) (code : Nat) : (State.reply s code).mem = s.mem := rfl
@[simp] theorem reply_repairs (s : State) (code : Nat) : (State.reply s code).repairs = s.repairs := rfl
@[simp] theorem reply_cores (s : State) (code : Nat) : (State.reply s code).cores = s.cores := rfl
@[simp] theorem reply_tasks (s : State) (code : Nat) : (State.reply s code).tasks = s.tasks := rfl
@[simp] theorem reply_plots (s : State) (code : Nat) : (State.reply s code).plots = s.plots := rfl
@[simp] theorem reply_wins (s : State) (code : Nat) : (State.reply s code).wins = s.wins := rfl
@[simp] theorem reply_src (s : State) (code : Nat) : (State.reply s code).src = s.src := rfl
@[simp] theorem reply_prev (s : State) (code : Nat) : (State.reply s code).prev = s.prev := rfl
@[simp] theorem reply_ingest (s : State) (code : Nat) : (State.reply s code).ingest = s.ingest := rfl
@[simp] theorem reply_staged (s : State) (code : Nat) : (State.reply s code).staged = s.staged := rfl
@[simp] theorem reply_out (s : State) (code : Nat) : (State.reply s code).out = s.out := rfl
@[simp] theorem reply_ranTo (s : State) (code : Nat) : (State.reply s code).ranTo = s.ranTo := rfl
@[simp] theorem reply_sinks (s : State) (code : Nat) : (State.reply s code).sinks = s.sinks := rfl
@[simp] theorem reply_buses (s : State) (code : Nat) : (State.reply s code).buses = s.buses := rfl
@[simp] theorem reply_xps (s : State) (code : Nat) : (State.reply s code).xps = s.xps := rfl
@[simp] theorem reply_gens (s : State) (code : Nat) : (State.reply s code).gens = s.gens := rfl
@[simp] theorem reply_trackers (s : State) (code : Nat) : (State.reply s code).trackers = s.trackers := rfl
@[simp] theorem reply_bridges (s : State) (code : Nat) : (State.reply s code).bridges = s.bridges := rfl
@[simp] theorem reply_freeIn (s : State) (code : Nat) : (State.reply s code).freeIn = s.freeIn := rfl
@[simp] theorem reply_sils (s : State) (code : Nat) : (State.reply s code).sils = s.sils := rfl
@[simp] theorem reply_memory (s : State) (code : Nat) : (State.reply s code).memory = s.memory := rfl
@[simp] theorem reply_trellis (s : State) (code : Nat) : (State.reply s code).trellis = s.trellis := rfl
@[simp] theorem reply_groups (s : State) (code : Nat) : (State.reply s code).groups = s.groups := rfl
@[simp] theorem reply_fcuCoef (s : State) (code : Nat) : (State.reply s code).fcuCoef = s.fcuCoef := rfl
@[simp] theorem reply_fcuState (s : State) (code : Nat) : (State.reply s code).fcuState = s.fcuState := rfl
@[simp] theorem reply_fcuScrub (s : State) (code : Nat) : (State.reply s code).fcuScrub = s.fcuScrub := rfl
@[simp] theorem reply_areXps (s : State) (code : Nat) : (State.reply s code).areXps = s.areXps := rfl
@[simp] theorem reply_areCoef (s : State) (code : Nat) : (State.reply s code).areCoef = s.areCoef := rfl
@[simp] theorem reply_hist (s : State) (code : Nat) : (State.reply s code).hist = s.hist := rfl
@[simp] theorem reply_areLine (s : State) (code : Nat) : (State.reply s code).areLine = s.areLine := rfl
@[simp] theorem reply_histWord (s : State) (code : Nat) : (State.reply s code).histWord = s.histWord := rfl
@[simp] theorem reply_areSets (s : State) (code : Nat) : (State.reply s code).areSets = s.areSets := rfl
@[simp] theorem reply_holdings (s : State) (code : Nat) : (State.reply s code).holdings = s.holdings := rfl
@[simp] theorem reply_offers (s : State) (code : Nat) : (State.reply s code).offers = s.offers := rfl
@[simp] theorem reply_accepts (s : State) (code : Nat) : (State.reply s code).accepts = s.accepts := rfl
@[simp] theorem reply_auths (s : State) (code : Nat) : (State.reply s code).auths = s.auths := rfl
@[simp] theorem reply_due (s : State) (code : Nat) : (State.reply s code).due = s.due := rfl
@[simp] theorem reply_timed (s : State) (code : Nat) : (State.reply s code).timed = s.timed := rfl
@[simp] theorem reply_sessions (s : State) (code : Nat) : (State.reply s code).sessions = s.sessions := rfl
@[simp] theorem reply_sources (s : State) (code : Nat) : (State.reply s code).sources = s.sources := rfl
@[simp] theorem reply_rings (s : State) (code : Nat) : (State.reply s code).rings = s.rings := rfl
@[simp] theorem reply_gard (s : State) (code : Nat) : (State.reply s code).gard = s.gard := rfl
@[simp] theorem reply_log (s : State) (code : Nat) : (State.reply s code).log = s.log := rfl
@[simp] theorem reply_clk (s : State) (code : Nat) : (State.reply s code).clk = s.clk := rfl
@[simp] theorem reply_tevs (s : State) (code : Nat) : (State.reply s code).tevs = s.tevs := rfl
@[simp] theorem reply_net (s : State) (code : Nat) : (State.reply s code).net = s.net := rfl
@[simp] theorem reply_rxs (s : State) (code : Nat) : (State.reply s code).rxs = s.rxs := rfl
@[simp] theorem reply_txs (s : State) (code : Nat) : (State.reply s code).txs = s.txs := rfl
@[simp] theorem reply_txHist (s : State) (code : Nat) : (State.reply s code).txHist = s.txHist := rfl
@[simp] theorem reply_saps (s : State) (code : Nat) : (State.reply s code).saps = s.saps := rfl
@[simp] theorem reply_pscs (s : State) (code : Nat) : (State.reply s code).pscs = s.pscs := rfl
@[simp] theorem reply_pair (s : State) (code : Nat) : (State.reply s code).pair = s.pair := rfl
@[simp] theorem reply_host (s : State) (code : Nat) : (State.reply s code).host = s.host := rfl
@[simp] theorem reply_addr (s : State) (code : Nat) : (State.reply s code).addr = s.addr := rfl
@[simp] theorem reply_rst (s : State) (code : Nat) : (State.reply s code).rst = s.rst := rfl
@[simp] theorem reply_brace (s : State) (code : Nat) : (State.reply s code).brace = s.brace := rfl
/-! dueWrite. -/
@[simp] theorem dueWrite_regs (s : State) (r : Reg) (v : Int) : (State.dueWrite s r v).regs = s.regs := rfl
@[simp] theorem dueWrite_mem (s : State) (r : Reg) (v : Int) : (State.dueWrite s r v).mem = s.mem := rfl
@[simp] theorem dueWrite_tick (s : State) (r : Reg) (v : Int) : (State.dueWrite s r v).tick = s.tick := rfl
@[simp] theorem dueWrite_cycle (s : State) (r : Reg) (v : Int) : (State.dueWrite s r v).cycle = s.cycle := rfl
@[simp] theorem dueWrite_pending (s : State) (r : Reg) (v : Int) : (State.dueWrite s r v).pending = s.pending := rfl
@[simp] theorem dueWrite_cores (s : State) (r : Reg) (v : Int) : (State.dueWrite s r v).cores = s.cores := rfl
@[simp] theorem dueWrite_plots (s : State) (r : Reg) (v : Int) : (State.dueWrite s r v).plots = s.plots := rfl
@[simp] theorem dueWrite_pair (s : State) (r : Reg) (v : Int) : (State.dueWrite s r v).pair = s.pair := rfl
@[simp] theorem dueWrite_log (s : State) (r : Reg) (v : Int) : (State.dueWrite s r v).log = s.log := rfl
/-! nextWrite. -/
@[simp] theorem nextWrite_regs (s : State) (r : Reg) (v : Int) : (State.nextWrite s r v).regs = s.regs := rfl
@[simp] theorem nextWrite_mem (s : State) (r : Reg) (v : Int) : (State.nextWrite s r v).mem = s.mem := rfl
@[simp] theorem nextWrite_tick (s : State) (r : Reg) (v : Int) : (State.nextWrite s r v).tick = s.tick := rfl
@[simp] theorem nextWrite_cycle (s : State) (r : Reg) (v : Int) : (State.nextWrite s r v).cycle = s.cycle := rfl
@[simp] theorem nextWrite_pending (s : State) (r : Reg) (v : Int) : (State.nextWrite s r v).pending = s.pending := rfl
@[simp] theorem nextWrite_cores (s : State) (r : Reg) (v : Int) : (State.nextWrite s r v).cores = s.cores := rfl
@[simp] theorem nextWrite_plots (s : State) (r : Reg) (v : Int) : (State.nextWrite s r v).plots = s.plots := rfl
@[simp] theorem nextWrite_pair (s : State) (r : Reg) (v : Int) : (State.nextWrite s r v).pair = s.pair := rfl
@[simp] theorem nextWrite_log (s : State) (r : Reg) (v : Int) : (State.nextWrite s r v).log = s.log := rfl
/-! store. -/
@[simp] theorem store_regs (s : State) (a : Nat) (b : List Byte) : (State.store s a b).regs = s.regs := touch_regs _ _ _
@[simp] theorem store_tick (s : State) (a : Nat) (b : List Byte) : (State.store s a b).tick = s.tick := touch_tick _ _ _
@[simp] theorem store_cycle (s : State) (a : Nat) (b : List Byte) : (State.store s a b).cycle = s.cycle := touch_cycle _ _ _
@[simp] theorem store_pending (s : State) (a : Nat) (b : List Byte) : (State.store s a b).pending = s.pending := touch_pending _ _ _
@[simp] theorem store_cores (s : State) (a : Nat) (b : List Byte) : (State.store s a b).cores = s.cores := touch_cores _ _ _
@[simp] theorem store_plots (s : State) (a : Nat) (b : List Byte) : (State.store s a b).plots = s.plots := touch_plots _ _ _
@[simp] theorem store_log (s : State) (a : Nat) (b : List Byte) : (State.store s a b).log = s.log := touch_log _ _ _
/-! clearMem. -/
@[simp] theorem clearMem_regs (s : State) (a n : Nat) : (State.clearMem s a n).regs = s.regs := rfl
@[simp] theorem clearMem_tick (s : State) (a n : Nat) : (State.clearMem s a n).tick = s.tick := rfl
@[simp] theorem clearMem_cycle (s : State) (a n : Nat) : (State.clearMem s a n).cycle = s.cycle := rfl
@[simp] theorem clearMem_pending (s : State) (a n : Nat) : (State.clearMem s a n).pending = s.pending := rfl
@[simp] theorem clearMem_cores (s : State) (a n : Nat) : (State.clearMem s a n).cores = s.cores := rfl
@[simp] theorem clearMem_plots (s : State) (a n : Nat) : (State.clearMem s a n).plots = s.plots := rfl
@[simp] theorem clearMem_pair (s : State) (a n : Nat) : (State.clearMem s a n).pair = s.pair := rfl
@[simp] theorem clearMem_log (s : State) (a n : Nat) : (State.clearMem s a n).log = s.log := rfl
/-! logEvent. -/
@[simp] theorem logEvent_pending (s : State) (code level plot p0 p1 : Nat) : (State.logEvent s code level plot p0 p1).pending = s.pending := rfl
@[simp] theorem logEvent_free (s : State) (code level plot p0 p1 : Nat) : (State.logEvent s code level plot p0 p1).free = s.free := rfl
@[simp] theorem logEvent_tick (s : State) (code level plot p0 p1 : Nat) : (State.logEvent s code level plot p0 p1).tick = s.tick := rfl
@[simp] theorem logEvent_cycle (s : State) (code level plot p0 p1 : Nat) : (State.logEvent s code level plot p0 p1).cycle = s.cycle := rfl
@[simp] theorem logEvent_regs (s : State) (code level plot p0 p1 : Nat) : (State.logEvent s code level plot p0 p1).regs = s.regs := rfl
@[simp] theorem logEvent_blobs (s : State) (code level plot p0 p1 : Nat) : (State.logEvent s code level plot p0 p1).blobs = s.blobs := rfl
@[simp] theorem logEvent_mem (s : State) (code level plot p0 p1 : Nat) : (State.logEvent s code level plot p0 p1).mem = s.mem := rfl
@[simp] theorem logEvent_repairs (s : State) (code level plot p0 p1 : Nat) : (State.logEvent s code level plot p0 p1).repairs = s.repairs := rfl
@[simp] theorem logEvent_cores (s : State) (code level plot p0 p1 : Nat) : (State.logEvent s code level plot p0 p1).cores = s.cores := rfl
@[simp] theorem logEvent_tasks (s : State) (code level plot p0 p1 : Nat) : (State.logEvent s code level plot p0 p1).tasks = s.tasks := rfl
@[simp] theorem logEvent_plots (s : State) (code level plot p0 p1 : Nat) : (State.logEvent s code level plot p0 p1).plots = s.plots := rfl
@[simp] theorem logEvent_wins (s : State) (code level plot p0 p1 : Nat) : (State.logEvent s code level plot p0 p1).wins = s.wins := rfl
@[simp] theorem logEvent_src (s : State) (code level plot p0 p1 : Nat) : (State.logEvent s code level plot p0 p1).src = s.src := rfl
@[simp] theorem logEvent_prev (s : State) (code level plot p0 p1 : Nat) : (State.logEvent s code level plot p0 p1).prev = s.prev := rfl
@[simp] theorem logEvent_ingest (s : State) (code level plot p0 p1 : Nat) : (State.logEvent s code level plot p0 p1).ingest = s.ingest := rfl
@[simp] theorem logEvent_staged (s : State) (code level plot p0 p1 : Nat) : (State.logEvent s code level plot p0 p1).staged = s.staged := rfl
@[simp] theorem logEvent_out (s : State) (code level plot p0 p1 : Nat) : (State.logEvent s code level plot p0 p1).out = s.out := rfl
@[simp] theorem logEvent_ranTo (s : State) (code level plot p0 p1 : Nat) : (State.logEvent s code level plot p0 p1).ranTo = s.ranTo := rfl
@[simp] theorem logEvent_sinks (s : State) (code level plot p0 p1 : Nat) : (State.logEvent s code level plot p0 p1).sinks = s.sinks := rfl
@[simp] theorem logEvent_buses (s : State) (code level plot p0 p1 : Nat) : (State.logEvent s code level plot p0 p1).buses = s.buses := rfl
@[simp] theorem logEvent_xps (s : State) (code level plot p0 p1 : Nat) : (State.logEvent s code level plot p0 p1).xps = s.xps := rfl
@[simp] theorem logEvent_gens (s : State) (code level plot p0 p1 : Nat) : (State.logEvent s code level plot p0 p1).gens = s.gens := rfl
@[simp] theorem logEvent_trackers (s : State) (code level plot p0 p1 : Nat) : (State.logEvent s code level plot p0 p1).trackers = s.trackers := rfl
@[simp] theorem logEvent_bridges (s : State) (code level plot p0 p1 : Nat) : (State.logEvent s code level plot p0 p1).bridges = s.bridges := rfl
@[simp] theorem logEvent_freeIn (s : State) (code level plot p0 p1 : Nat) : (State.logEvent s code level plot p0 p1).freeIn = s.freeIn := rfl
@[simp] theorem logEvent_sils (s : State) (code level plot p0 p1 : Nat) : (State.logEvent s code level plot p0 p1).sils = s.sils := rfl
@[simp] theorem logEvent_memory (s : State) (code level plot p0 p1 : Nat) : (State.logEvent s code level plot p0 p1).memory = s.memory := rfl
@[simp] theorem logEvent_trellis (s : State) (code level plot p0 p1 : Nat) : (State.logEvent s code level plot p0 p1).trellis = s.trellis := rfl
@[simp] theorem logEvent_groups (s : State) (code level plot p0 p1 : Nat) : (State.logEvent s code level plot p0 p1).groups = s.groups := rfl
@[simp] theorem logEvent_fcuCoef (s : State) (code level plot p0 p1 : Nat) : (State.logEvent s code level plot p0 p1).fcuCoef = s.fcuCoef := rfl
@[simp] theorem logEvent_fcuState (s : State) (code level plot p0 p1 : Nat) : (State.logEvent s code level plot p0 p1).fcuState = s.fcuState := rfl
@[simp] theorem logEvent_fcuScrub (s : State) (code level plot p0 p1 : Nat) : (State.logEvent s code level plot p0 p1).fcuScrub = s.fcuScrub := rfl
@[simp] theorem logEvent_areXps (s : State) (code level plot p0 p1 : Nat) : (State.logEvent s code level plot p0 p1).areXps = s.areXps := rfl
@[simp] theorem logEvent_areCoef (s : State) (code level plot p0 p1 : Nat) : (State.logEvent s code level plot p0 p1).areCoef = s.areCoef := rfl
@[simp] theorem logEvent_hist (s : State) (code level plot p0 p1 : Nat) : (State.logEvent s code level plot p0 p1).hist = s.hist := rfl
@[simp] theorem logEvent_areLine (s : State) (code level plot p0 p1 : Nat) : (State.logEvent s code level plot p0 p1).areLine = s.areLine := rfl
@[simp] theorem logEvent_histWord (s : State) (code level plot p0 p1 : Nat) : (State.logEvent s code level plot p0 p1).histWord = s.histWord := rfl
@[simp] theorem logEvent_areSets (s : State) (code level plot p0 p1 : Nat) : (State.logEvent s code level plot p0 p1).areSets = s.areSets := rfl
@[simp] theorem logEvent_holdings (s : State) (code level plot p0 p1 : Nat) : (State.logEvent s code level plot p0 p1).holdings = s.holdings := rfl
@[simp] theorem logEvent_offers (s : State) (code level plot p0 p1 : Nat) : (State.logEvent s code level plot p0 p1).offers = s.offers := rfl
@[simp] theorem logEvent_accepts (s : State) (code level plot p0 p1 : Nat) : (State.logEvent s code level plot p0 p1).accepts = s.accepts := rfl
@[simp] theorem logEvent_auths (s : State) (code level plot p0 p1 : Nat) : (State.logEvent s code level plot p0 p1).auths = s.auths := rfl
@[simp] theorem logEvent_due (s : State) (code level plot p0 p1 : Nat) : (State.logEvent s code level plot p0 p1).due = s.due := rfl
@[simp] theorem logEvent_timed (s : State) (code level plot p0 p1 : Nat) : (State.logEvent s code level plot p0 p1).timed = s.timed := rfl
@[simp] theorem logEvent_sessions (s : State) (code level plot p0 p1 : Nat) : (State.logEvent s code level plot p0 p1).sessions = s.sessions := rfl
@[simp] theorem logEvent_sources (s : State) (code level plot p0 p1 : Nat) : (State.logEvent s code level plot p0 p1).sources = s.sources := rfl
@[simp] theorem logEvent_rings (s : State) (code level plot p0 p1 : Nat) : (State.logEvent s code level plot p0 p1).rings = s.rings := rfl
@[simp] theorem logEvent_answer (s : State) (code level plot p0 p1 : Nat) : (State.logEvent s code level plot p0 p1).answer = s.answer := rfl
@[simp] theorem logEvent_gard (s : State) (code level plot p0 p1 : Nat) : (State.logEvent s code level plot p0 p1).gard = s.gard := rfl
@[simp] theorem logEvent_clk (s : State) (code level plot p0 p1 : Nat) : (State.logEvent s code level plot p0 p1).clk = s.clk := rfl
@[simp] theorem logEvent_tevs (s : State) (code level plot p0 p1 : Nat) : (State.logEvent s code level plot p0 p1).tevs = s.tevs := rfl
@[simp] theorem logEvent_net (s : State) (code level plot p0 p1 : Nat) : (State.logEvent s code level plot p0 p1).net = s.net := rfl
@[simp] theorem logEvent_rxs (s : State) (code level plot p0 p1 : Nat) : (State.logEvent s code level plot p0 p1).rxs = s.rxs := rfl
@[simp] theorem logEvent_txs (s : State) (code level plot p0 p1 : Nat) : (State.logEvent s code level plot p0 p1).txs = s.txs := rfl
@[simp] theorem logEvent_txHist (s : State) (code level plot p0 p1 : Nat) : (State.logEvent s code level plot p0 p1).txHist = s.txHist := rfl
@[simp] theorem logEvent_saps (s : State) (code level plot p0 p1 : Nat) : (State.logEvent s code level plot p0 p1).saps = s.saps := rfl
@[simp] theorem logEvent_pscs (s : State) (code level plot p0 p1 : Nat) : (State.logEvent s code level plot p0 p1).pscs = s.pscs := rfl
@[simp] theorem logEvent_pair (s : State) (code level plot p0 p1 : Nat) : (State.logEvent s code level plot p0 p1).pair = s.pair := rfl
@[simp] theorem logEvent_host (s : State) (code level plot p0 p1 : Nat) : (State.logEvent s code level plot p0 p1).host = s.host := rfl
@[simp] theorem logEvent_addr (s : State) (code level plot p0 p1 : Nat) : (State.logEvent s code level plot p0 p1).addr = s.addr := rfl
@[simp] theorem logEvent_rst (s : State) (code level plot p0 p1 : Nat) : (State.logEvent s code level plot p0 p1).rst = s.rst := rfl
@[simp] theorem logEvent_brace (s : State) (code level plot p0 p1 : Nat) : (State.logEvent s code level plot p0 p1).brace = s.brace := rfl
/-! logKeep. -/
@[simp] theorem logKeep_regs (s : State) (code level p0 p1 : Nat) : (State.logKeep s code level p0 p1).regs = s.regs := rfl
@[simp] theorem logKeep_mem (s : State) (code level p0 p1 : Nat) : (State.logKeep s code level p0 p1).mem = s.mem := rfl
@[simp] theorem logKeep_tick (s : State) (code level p0 p1 : Nat) : (State.logKeep s code level p0 p1).tick = s.tick := rfl
@[simp] theorem logKeep_cycle (s : State) (code level p0 p1 : Nat) : (State.logKeep s code level p0 p1).cycle = s.cycle := rfl
@[simp] theorem logKeep_pending (s : State) (code level p0 p1 : Nat) : (State.logKeep s code level p0 p1).pending = s.pending := rfl
@[simp] theorem logKeep_cores (s : State) (code level p0 p1 : Nat) : (State.logKeep s code level p0 p1).cores = s.cores := rfl
@[simp] theorem logKeep_plots (s : State) (code level p0 p1 : Nat) : (State.logKeep s code level p0 p1).plots = s.plots := rfl
@[simp] theorem logKeep_pair (s : State) (code level p0 p1 : Nat) : (State.logKeep s code level p0 p1).pair = s.pair := rfl
/-! stageEntry. -/
@[simp] theorem stageEntry_regs (s : State) (owner kind : Nat) (e : List Byte) : (State.stageEntry s owner kind e).regs = s.regs := rfl
@[simp] theorem stageEntry_mem (s : State) (owner kind : Nat) (e : List Byte) : (State.stageEntry s owner kind e).mem = s.mem := rfl
@[simp] theorem stageEntry_tick (s : State) (owner kind : Nat) (e : List Byte) : (State.stageEntry s owner kind e).tick = s.tick := rfl
@[simp] theorem stageEntry_cycle (s : State) (owner kind : Nat) (e : List Byte) : (State.stageEntry s owner kind e).cycle = s.cycle := rfl
@[simp] theorem stageEntry_pending (s : State) (owner kind : Nat) (e : List Byte) : (State.stageEntry s owner kind e).pending = s.pending := rfl
@[simp] theorem stageEntry_cores (s : State) (owner kind : Nat) (e : List Byte) : (State.stageEntry s owner kind e).cores = s.cores := rfl
@[simp] theorem stageEntry_plots (s : State) (owner kind : Nat) (e : List Byte) : (State.stageEntry s owner kind e).plots = s.plots := rfl
@[simp] theorem stageEntry_pair (s : State) (owner kind : Nat) (e : List Byte) : (State.stageEntry s owner kind e).pair = s.pair := rfl
@[simp] theorem stageEntry_log (s : State) (owner kind : Nat) (e : List Byte) : (State.stageEntry s owner kind e).log = s.log := rfl
/-! msix. -/
@[simp] theorem msix_regs (s : State) (v : Nat) : (State.msix s v).regs = s.regs := rfl
@[simp] theorem msix_mem (s : State) (v : Nat) : (State.msix s v).mem = s.mem := rfl
@[simp] theorem msix_tick (s : State) (v : Nat) : (State.msix s v).tick = s.tick := rfl
@[simp] theorem msix_cycle (s : State) (v : Nat) : (State.msix s v).cycle = s.cycle := rfl
@[simp] theorem msix_pending (s : State) (v : Nat) : (State.msix s v).pending = s.pending := rfl
@[simp] theorem msix_cores (s : State) (v : Nat) : (State.msix s v).cores = s.cores := rfl
@[simp] theorem msix_plots (s : State) (v : Nat) : (State.msix s v).plots = s.plots := rfl
@[simp] theorem msix_pair (s : State) (v : Nat) : (State.msix s v).pair = s.pair := rfl
@[simp] theorem msix_log (s : State) (v : Nat) : (State.msix s v).log = s.log := rfl
/-! modPair. -/
@[simp] theorem modPair_regs (s : State) (f : PairSt → PairSt) : (State.modPair s f).regs = s.regs := rfl
@[simp] theorem modPair_mem (s : State) (f : PairSt → PairSt) : (State.modPair s f).mem = s.mem := rfl
@[simp] theorem modPair_tick (s : State) (f : PairSt → PairSt) : (State.modPair s f).tick = s.tick := rfl
@[simp] theorem modPair_cycle (s : State) (f : PairSt → PairSt) : (State.modPair s f).cycle = s.cycle := rfl
@[simp] theorem modPair_pending (s : State) (f : PairSt → PairSt) : (State.modPair s f).pending = s.pending := rfl
@[simp] theorem modPair_cores (s : State) (f : PairSt → PairSt) : (State.modPair s f).cores = s.cores := rfl
@[simp] theorem modPair_plots (s : State) (f : PairSt → PairSt) : (State.modPair s f).plots = s.plots := rfl
@[simp] theorem modPair_log (s : State) (f : PairSt → PairSt) : (State.modPair s f).log = s.log := rfl
/-! purgeBarred. -/
@[simp] theorem purgeBarred_regs (s : State) : (State.purgeBarred s).regs = s.regs := rfl
@[simp] theorem purgeBarred_mem (s : State) : (State.purgeBarred s).mem = s.mem := rfl
@[simp] theorem purgeBarred_tick (s : State) : (State.purgeBarred s).tick = s.tick := rfl
@[simp] theorem purgeBarred_cycle (s : State) : (State.purgeBarred s).cycle = s.cycle := rfl
@[simp] theorem purgeBarred_pending (s : State) : (State.purgeBarred s).pending = s.pending := rfl
@[simp] theorem purgeBarred_cores (s : State) : (State.purgeBarred s).cores = s.cores := rfl
@[simp] theorem purgeBarred_plots (s : State) : (State.purgeBarred s).plots = s.plots := rfl
@[simp] theorem purgeBarred_pair (s : State) : (State.purgeBarred s).pair = s.pair := rfl
@[simp] theorem purgeBarred_log (s : State) : (State.purgeBarred s).log = s.log := rfl
/-! takeTables. -/
@[simp] theorem takeTables_regs (s : State) (t : EngineTables) : (State.takeTables s t).regs = s.regs := rfl
@[simp] theorem takeTables_mem (s : State) (t : EngineTables) : (State.takeTables s t).mem = s.mem := rfl
@[simp] theorem takeTables_tick (s : State) (t : EngineTables) : (State.takeTables s t).tick = s.tick := rfl
@[simp] theorem takeTables_cycle (s : State) (t : EngineTables) : (State.takeTables s t).cycle = s.cycle := rfl
@[simp] theorem takeTables_pending (s : State) (t : EngineTables) : (State.takeTables s t).pending = s.pending := rfl
@[simp] theorem takeTables_cores (s : State) (t : EngineTables) : (State.takeTables s t).cores = s.cores := rfl
@[simp] theorem takeTables_plots (s : State) (t : EngineTables) : (State.takeTables s t).plots = s.plots := rfl
@[simp] theorem takeTables_pair (s : State) (t : EngineTables) : (State.takeTables s t).pair = s.pair := rfl
@[simp] theorem takeTables_log (s : State) (t : EngineTables) : (State.takeTables s t).log = s.log := rfl
/-! modRef. -/
@[simp] theorem modRef_regs (s : State) (r : Nat) (f : RefSt → RefSt) : (State.modRef s r f).regs = s.regs := rfl
@[simp] theorem modRef_mem (s : State) (r : Nat) (f : RefSt → RefSt) : (State.modRef s r f).mem = s.mem := rfl
@[simp] theorem modRef_tick (s : State) (r : Nat) (f : RefSt → RefSt) : (State.modRef s r f).tick = s.tick := rfl
@[simp] theorem modRef_cycle (s : State) (r : Nat) (f : RefSt → RefSt) : (State.modRef s r f).cycle = s.cycle := rfl
@[simp] theorem modRef_pending (s : State) (r : Nat) (f : RefSt → RefSt) : (State.modRef s r f).pending = s.pending := rfl
@[simp] theorem modRef_cores (s : State) (r : Nat) (f : RefSt → RefSt) : (State.modRef s r f).cores = s.cores := rfl
@[simp] theorem modRef_plots (s : State) (r : Nat) (f : RefSt → RefSt) : (State.modRef s r f).plots = s.plots := rfl
@[simp] theorem modRef_pair (s : State) (r : Nat) (f : RefSt → RefSt) : (State.modRef s r f).pair = s.pair := rfl
@[simp] theorem modRef_log (s : State) (r : Nat) (f : RefSt → RefSt) : (State.modRef s r f).log = s.log := rfl
/-! modClk. -/
@[simp] theorem modClk_regs (s : State) (f : ClkSt → ClkSt) : (State.modClk s f).regs = s.regs := rfl
@[simp] theorem modClk_mem (s : State) (f : ClkSt → ClkSt) : (State.modClk s f).mem = s.mem := rfl
@[simp] theorem modClk_tick (s : State) (f : ClkSt → ClkSt) : (State.modClk s f).tick = s.tick := rfl
@[simp] theorem modClk_cycle (s : State) (f : ClkSt → ClkSt) : (State.modClk s f).cycle = s.cycle := rfl
@[simp] theorem modClk_pending (s : State) (f : ClkSt → ClkSt) : (State.modClk s f).pending = s.pending := rfl
@[simp] theorem modClk_cores (s : State) (f : ClkSt → ClkSt) : (State.modClk s f).cores = s.cores := rfl
@[simp] theorem modClk_plots (s : State) (f : ClkSt → ClkSt) : (State.modClk s f).plots = s.plots := rfl
@[simp] theorem modClk_pair (s : State) (f : ClkSt → ClkSt) : (State.modClk s f).pair = s.pair := rfl
@[simp] theorem modClk_log (s : State) (f : ClkSt → ClkSt) : (State.modClk s f).log = s.log := rfl
/-! setSource. -/
@[simp] theorem setSource_regs (s : State) (x : SigId) (b : List Sample) : (State.setSource s x b).regs = s.regs := rfl
@[simp] theorem setSource_mem (s : State) (x : SigId) (b : List Sample) : (State.setSource s x b).mem = s.mem := rfl
@[simp] theorem setSource_tick (s : State) (x : SigId) (b : List Sample) : (State.setSource s x b).tick = s.tick := rfl
@[simp] theorem setSource_cycle (s : State) (x : SigId) (b : List Sample) : (State.setSource s x b).cycle = s.cycle := rfl
@[simp] theorem setSource_pending (s : State) (x : SigId) (b : List Sample) : (State.setSource s x b).pending = s.pending := rfl
@[simp] theorem setSource_cores (s : State) (x : SigId) (b : List Sample) : (State.setSource s x b).cores = s.cores := rfl
@[simp] theorem setSource_plots (s : State) (x : SigId) (b : List Sample) : (State.setSource s x b).plots = s.plots := rfl
@[simp] theorem setSource_pair (s : State) (x : SigId) (b : List Sample) : (State.setSource s x b).pair = s.pair := rfl
@[simp] theorem setSource_log (s : State) (x : SigId) (b : List Sample) : (State.setSource s x b).log = s.log := rfl
/-! setSink. -/
@[simp] theorem setSink_regs (s : State) (x : SigId) (k : SinkSt) : (State.setSink s x k).regs = s.regs := rfl
@[simp] theorem setSink_mem (s : State) (x : SigId) (k : SinkSt) : (State.setSink s x k).mem = s.mem := rfl
@[simp] theorem setSink_tick (s : State) (x : SigId) (k : SinkSt) : (State.setSink s x k).tick = s.tick := rfl
@[simp] theorem setSink_cycle (s : State) (x : SigId) (k : SinkSt) : (State.setSink s x k).cycle = s.cycle := rfl
@[simp] theorem setSink_pending (s : State) (x : SigId) (k : SinkSt) : (State.setSink s x k).pending = s.pending := rfl
@[simp] theorem setSink_cores (s : State) (x : SigId) (k : SinkSt) : (State.setSink s x k).cores = s.cores := rfl
@[simp] theorem setSink_plots (s : State) (x : SigId) (k : SinkSt) : (State.setSink s x k).plots = s.plots := rfl
@[simp] theorem setSink_pair (s : State) (x : SigId) (k : SinkSt) : (State.setSink s x k).pair = s.pair := rfl
@[simp] theorem setSink_log (s : State) (x : SigId) (k : SinkSt) : (State.setSink s x k).log = s.log := rfl
/-! advanceSinks. -/
@[simp] theorem advanceSinks_regs (s : State) : (State.advanceSinks s).regs = s.regs := rfl
@[simp] theorem advanceSinks_mem (s : State) : (State.advanceSinks s).mem = s.mem := rfl
@[simp] theorem advanceSinks_tick (s : State) : (State.advanceSinks s).tick = s.tick := rfl
@[simp] theorem advanceSinks_cycle (s : State) : (State.advanceSinks s).cycle = s.cycle := rfl
@[simp] theorem advanceSinks_pending (s : State) : (State.advanceSinks s).pending = s.pending := rfl
@[simp] theorem advanceSinks_cores (s : State) : (State.advanceSinks s).cores = s.cores := rfl
@[simp] theorem advanceSinks_plots (s : State) : (State.advanceSinks s).plots = s.plots := rfl
@[simp] theorem advanceSinks_pair (s : State) : (State.advanceSinks s).pair = s.pair := rfl
@[simp] theorem advanceSinks_log (s : State) : (State.advanceSinks s).log = s.log := rfl
/-! setGrp. -/
@[simp] theorem setGrp_regs (s : State) (k : Nat) (g : GrpSt) : (State.setGrp s k g).regs = s.regs := rfl
@[simp] theorem setGrp_mem (s : State) (k : Nat) (g : GrpSt) : (State.setGrp s k g).mem = s.mem := rfl
@[simp] theorem setGrp_tick (s : State) (k : Nat) (g : GrpSt) : (State.setGrp s k g).tick = s.tick := rfl
@[simp] theorem setGrp_cycle (s : State) (k : Nat) (g : GrpSt) : (State.setGrp s k g).cycle = s.cycle := rfl
@[simp] theorem setGrp_pending (s : State) (k : Nat) (g : GrpSt) : (State.setGrp s k g).pending = s.pending := rfl
@[simp] theorem setGrp_cores (s : State) (k : Nat) (g : GrpSt) : (State.setGrp s k g).cores = s.cores := rfl
@[simp] theorem setGrp_plots (s : State) (k : Nat) (g : GrpSt) : (State.setGrp s k g).plots = s.plots := rfl
@[simp] theorem setGrp_pair (s : State) (k : Nat) (g : GrpSt) : (State.setGrp s k g).pair = s.pair := rfl
@[simp] theorem setGrp_log (s : State) (k : Nat) (g : GrpSt) : (State.setGrp s k g).log = s.log := rfl
/-! repair. -/
@[simp] theorem repair_regs (s : State) (a : Nat) (b : List Byte) : (State.repair s a b).regs = s.regs := rfl
@[simp] theorem repair_mem (s : State) (a : Nat) (b : List Byte) : (State.repair s a b).mem = s.mem := rfl
@[simp] theorem repair_tick (s : State) (a : Nat) (b : List Byte) : (State.repair s a b).tick = s.tick := rfl
@[simp] theorem repair_cycle (s : State) (a : Nat) (b : List Byte) : (State.repair s a b).cycle = s.cycle := rfl
@[simp] theorem repair_pending (s : State) (a : Nat) (b : List Byte) : (State.repair s a b).pending = s.pending := rfl
@[simp] theorem repair_cores (s : State) (a : Nat) (b : List Byte) : (State.repair s a b).cores = s.cores := rfl
@[simp] theorem repair_plots (s : State) (a : Nat) (b : List Byte) : (State.repair s a b).plots = s.plots := rfl
@[simp] theorem repair_pair (s : State) (a : Nat) (b : List Byte) : (State.repair s a b).pair = s.pair := rfl
@[simp] theorem repair_log (s : State) (a : Nat) (b : List Byte) : (State.repair s a b).log = s.log := rfl
/-! modXp. -/
@[simp] theorem modXp_regs (s : State) (x : Nat) (f : AreXpSt → AreXpSt) : (State.modXp s x f).regs = s.regs := rfl
@[simp] theorem modXp_mem (s : State) (x : Nat) (f : AreXpSt → AreXpSt) : (State.modXp s x f).mem = s.mem := rfl
@[simp] theorem modXp_tick (s : State) (x : Nat) (f : AreXpSt → AreXpSt) : (State.modXp s x f).tick = s.tick := rfl
@[simp] theorem modXp_cycle (s : State) (x : Nat) (f : AreXpSt → AreXpSt) : (State.modXp s x f).cycle = s.cycle := rfl
@[simp] theorem modXp_pending (s : State) (x : Nat) (f : AreXpSt → AreXpSt) : (State.modXp s x f).pending = s.pending := rfl
@[simp] theorem modXp_cores (s : State) (x : Nat) (f : AreXpSt → AreXpSt) : (State.modXp s x f).cores = s.cores := rfl
@[simp] theorem modXp_plots (s : State) (x : Nat) (f : AreXpSt → AreXpSt) : (State.modXp s x f).plots = s.plots := rfl
@[simp] theorem modXp_pair (s : State) (x : Nat) (f : AreXpSt → AreXpSt) : (State.modXp s x f).pair = s.pair := rfl
@[simp] theorem modXp_log (s : State) (x : Nat) (f : AreXpSt → AreXpSt) : (State.modXp s x f).log = s.log := rfl
/-! putSet. -/
@[simp] theorem putSet_regs (s : State) (p set : Nat) (v : SetSt) : (State.putSet s p set v).regs = s.regs := rfl
@[simp] theorem putSet_mem (s : State) (p set : Nat) (v : SetSt) : (State.putSet s p set v).mem = s.mem := rfl
@[simp] theorem putSet_tick (s : State) (p set : Nat) (v : SetSt) : (State.putSet s p set v).tick = s.tick := rfl
@[simp] theorem putSet_cycle (s : State) (p set : Nat) (v : SetSt) : (State.putSet s p set v).cycle = s.cycle := rfl
@[simp] theorem putSet_pending (s : State) (p set : Nat) (v : SetSt) : (State.putSet s p set v).pending = s.pending := rfl
@[simp] theorem putSet_cores (s : State) (p set : Nat) (v : SetSt) : (State.putSet s p set v).cores = s.cores := rfl
@[simp] theorem putSet_plots (s : State) (p set : Nat) (v : SetSt) : (State.putSet s p set v).plots = s.plots := rfl
@[simp] theorem putSet_pair (s : State) (p set : Nat) (v : SetSt) : (State.putSet s p set v).pair = s.pair := rfl
@[simp] theorem putSet_log (s : State) (p set : Nat) (v : SetSt) : (State.putSet s p set v).log = s.log := rfl
/-! setBus. -/
@[simp] theorem setBus_regs (s : State) (b : Nat) (v : BusSt) : (State.setBus s b v).regs = s.regs := rfl
@[simp] theorem setBus_mem (s : State) (b : Nat) (v : BusSt) : (State.setBus s b v).mem = s.mem := rfl
@[simp] theorem setBus_tick (s : State) (b : Nat) (v : BusSt) : (State.setBus s b v).tick = s.tick := rfl
@[simp] theorem setBus_cycle (s : State) (b : Nat) (v : BusSt) : (State.setBus s b v).cycle = s.cycle := rfl
@[simp] theorem setBus_pending (s : State) (b : Nat) (v : BusSt) : (State.setBus s b v).pending = s.pending := rfl
@[simp] theorem setBus_cores (s : State) (b : Nat) (v : BusSt) : (State.setBus s b v).cores = s.cores := rfl
@[simp] theorem setBus_plots (s : State) (b : Nat) (v : BusSt) : (State.setBus s b v).plots = s.plots := rfl
@[simp] theorem setBus_pair (s : State) (b : Nat) (v : BusSt) : (State.setBus s b v).pair = s.pair := rfl
@[simp] theorem setBus_log (s : State) (b : Nat) (v : BusSt) : (State.setBus s b v).log = s.log := rfl
/-! setXp. -/
@[simp] theorem setXp_regs (s : State) (x : Nat) (v : XpSt) : (State.setXp s x v).regs = s.regs := rfl
@[simp] theorem setXp_mem (s : State) (x : Nat) (v : XpSt) : (State.setXp s x v).mem = s.mem := rfl
@[simp] theorem setXp_tick (s : State) (x : Nat) (v : XpSt) : (State.setXp s x v).tick = s.tick := rfl
@[simp] theorem setXp_cycle (s : State) (x : Nat) (v : XpSt) : (State.setXp s x v).cycle = s.cycle := rfl
@[simp] theorem setXp_pending (s : State) (x : Nat) (v : XpSt) : (State.setXp s x v).pending = s.pending := rfl
@[simp] theorem setXp_cores (s : State) (x : Nat) (v : XpSt) : (State.setXp s x v).cores = s.cores := rfl
@[simp] theorem setXp_plots (s : State) (x : Nat) (v : XpSt) : (State.setXp s x v).plots = s.plots := rfl
@[simp] theorem setXp_pair (s : State) (x : Nat) (v : XpSt) : (State.setXp s x v).pair = s.pair := rfl
@[simp] theorem setXp_log (s : State) (x : Nat) (v : XpSt) : (State.setXp s x v).log = s.log := rfl
/-! setGen. -/
@[simp] theorem setGen_regs (s : State) (g : Nat) (v : GenSt) : (State.setGen s g v).regs = s.regs := rfl
@[simp] theorem setGen_mem (s : State) (g : Nat) (v : GenSt) : (State.setGen s g v).mem = s.mem := rfl
@[simp] theorem setGen_tick (s : State) (g : Nat) (v : GenSt) : (State.setGen s g v).tick = s.tick := rfl
@[simp] theorem setGen_cycle (s : State) (g : Nat) (v : GenSt) : (State.setGen s g v).cycle = s.cycle := rfl
@[simp] theorem setGen_pending (s : State) (g : Nat) (v : GenSt) : (State.setGen s g v).pending = s.pending := rfl
@[simp] theorem setGen_cores (s : State) (g : Nat) (v : GenSt) : (State.setGen s g v).cores = s.cores := rfl
@[simp] theorem setGen_plots (s : State) (g : Nat) (v : GenSt) : (State.setGen s g v).plots = s.plots := rfl
@[simp] theorem setGen_pair (s : State) (g : Nat) (v : GenSt) : (State.setGen s g v).pair = s.pair := rfl
@[simp] theorem setGen_log (s : State) (g : Nat) (v : GenSt) : (State.setGen s g v).log = s.log := rfl
/-! setTracker. -/
@[simp] theorem setTracker_regs (s : State) (t : Nat) (k : TrackerSt) : (State.setTracker s t k).regs = s.regs := rfl
@[simp] theorem setTracker_mem (s : State) (t : Nat) (k : TrackerSt) : (State.setTracker s t k).mem = s.mem := rfl
@[simp] theorem setTracker_tick (s : State) (t : Nat) (k : TrackerSt) : (State.setTracker s t k).tick = s.tick := rfl
@[simp] theorem setTracker_cycle (s : State) (t : Nat) (k : TrackerSt) : (State.setTracker s t k).cycle = s.cycle := rfl
@[simp] theorem setTracker_pending (s : State) (t : Nat) (k : TrackerSt) : (State.setTracker s t k).pending = s.pending := rfl
@[simp] theorem setTracker_cores (s : State) (t : Nat) (k : TrackerSt) : (State.setTracker s t k).cores = s.cores := rfl
@[simp] theorem setTracker_plots (s : State) (t : Nat) (k : TrackerSt) : (State.setTracker s t k).plots = s.plots := rfl
@[simp] theorem setTracker_pair (s : State) (t : Nat) (k : TrackerSt) : (State.setTracker s t k).pair = s.pair := rfl
@[simp] theorem setTracker_log (s : State) (t : Nat) (k : TrackerSt) : (State.setTracker s t k).log = s.log := rfl
/-! noteAt. -/
@[simp] theorem noteAt_regs (s : State) (t owner : Nat) (r : Reg) (b : List Byte) : (State.noteAt s t owner r b).regs = s.regs := rfl
@[simp] theorem noteAt_mem (s : State) (t owner : Nat) (r : Reg) (b : List Byte) : (State.noteAt s t owner r b).mem = s.mem := rfl
@[simp] theorem noteAt_tick (s : State) (t owner : Nat) (r : Reg) (b : List Byte) : (State.noteAt s t owner r b).tick = s.tick := rfl
@[simp] theorem noteAt_cycle (s : State) (t owner : Nat) (r : Reg) (b : List Byte) : (State.noteAt s t owner r b).cycle = s.cycle := rfl
@[simp] theorem noteAt_pending (s : State) (t owner : Nat) (r : Reg) (b : List Byte) : (State.noteAt s t owner r b).pending = s.pending := rfl
@[simp] theorem noteAt_cores (s : State) (t owner : Nat) (r : Reg) (b : List Byte) : (State.noteAt s t owner r b).cores = s.cores := rfl
@[simp] theorem noteAt_plots (s : State) (t owner : Nat) (r : Reg) (b : List Byte) : (State.noteAt s t owner r b).plots = s.plots := rfl
@[simp] theorem noteAt_pair (s : State) (t owner : Nat) (r : Reg) (b : List Byte) : (State.noteAt s t owner r b).pair = s.pair := rfl
@[simp] theorem noteAt_log (s : State) (t owner : Nat) (r : Reg) (b : List Byte) : (State.noteAt s t owner r b).log = s.log := rfl
/-! dropNoted. -/
@[simp] theorem dropNoted_regs (s : State) (l : List Timed) : (State.dropNoted s l).regs = s.regs := rfl
@[simp] theorem dropNoted_mem (s : State) (l : List Timed) : (State.dropNoted s l).mem = s.mem := rfl
@[simp] theorem dropNoted_tick (s : State) (l : List Timed) : (State.dropNoted s l).tick = s.tick := rfl
@[simp] theorem dropNoted_cycle (s : State) (l : List Timed) : (State.dropNoted s l).cycle = s.cycle := rfl
@[simp] theorem dropNoted_pending (s : State) (l : List Timed) : (State.dropNoted s l).pending = s.pending := rfl
@[simp] theorem dropNoted_cores (s : State) (l : List Timed) : (State.dropNoted s l).cores = s.cores := rfl
@[simp] theorem dropNoted_plots (s : State) (l : List Timed) : (State.dropNoted s l).plots = s.plots := rfl
@[simp] theorem dropNoted_pair (s : State) (l : List Timed) : (State.dropNoted s l).pair = s.pair := rfl
@[simp] theorem dropNoted_log (s : State) (l : List Timed) : (State.dropNoted s l).log = s.log := rfl
/-! modTev. -/
@[simp] theorem modTev_regs (s : State) (n : Nat) (f : TevSt → TevSt) : (State.modTev s n f).regs = s.regs := rfl
@[simp] theorem modTev_mem (s : State) (n : Nat) (f : TevSt → TevSt) : (State.modTev s n f).mem = s.mem := rfl
@[simp] theorem modTev_tick (s : State) (n : Nat) (f : TevSt → TevSt) : (State.modTev s n f).tick = s.tick := rfl
@[simp] theorem modTev_cycle (s : State) (n : Nat) (f : TevSt → TevSt) : (State.modTev s n f).cycle = s.cycle := rfl
@[simp] theorem modTev_pending (s : State) (n : Nat) (f : TevSt → TevSt) : (State.modTev s n f).pending = s.pending := rfl
@[simp] theorem modTev_cores (s : State) (n : Nat) (f : TevSt → TevSt) : (State.modTev s n f).cores = s.cores := rfl
@[simp] theorem modTev_plots (s : State) (n : Nat) (f : TevSt → TevSt) : (State.modTev s n f).plots = s.plots := rfl
@[simp] theorem modTev_pair (s : State) (n : Nat) (f : TevSt → TevSt) : (State.modTev s n f).pair = s.pair := rfl
@[simp] theorem modTev_log (s : State) (n : Nat) (f : TevSt → TevSt) : (State.modTev s n f).log = s.log := rfl
/-! carry. -/
@[simp] theorem carry_regs (s : State) (x : SigId) (at_ : Nat) (v : Int) : (State.carry s x at_ v).regs = s.regs := rfl
@[simp] theorem carry_mem (s : State) (x : SigId) (at_ : Nat) (v : Int) : (State.carry s x at_ v).mem = s.mem := rfl
@[simp] theorem carry_tick (s : State) (x : SigId) (at_ : Nat) (v : Int) : (State.carry s x at_ v).tick = s.tick := rfl
@[simp] theorem carry_cycle (s : State) (x : SigId) (at_ : Nat) (v : Int) : (State.carry s x at_ v).cycle = s.cycle := rfl
@[simp] theorem carry_pending (s : State) (x : SigId) (at_ : Nat) (v : Int) : (State.carry s x at_ v).pending = s.pending := rfl
@[simp] theorem carry_cores (s : State) (x : SigId) (at_ : Nat) (v : Int) : (State.carry s x at_ v).cores = s.cores := rfl
@[simp] theorem carry_plots (s : State) (x : SigId) (at_ : Nat) (v : Int) : (State.carry s x at_ v).plots = s.plots := rfl
@[simp] theorem carry_pair (s : State) (x : SigId) (at_ : Nat) (v : Int) : (State.carry s x at_ v).pair = s.pair := rfl
@[simp] theorem carry_log (s : State) (x : SigId) (at_ : Nat) (v : Int) : (State.carry s x at_ v).log = s.log := rfl
/-! modNet. -/
@[simp] theorem modNet_regs (s : State) (f : NetSt → NetSt) : (State.modNet s f).regs = s.regs := rfl
@[simp] theorem modNet_mem (s : State) (f : NetSt → NetSt) : (State.modNet s f).mem = s.mem := rfl
@[simp] theorem modNet_tick (s : State) (f : NetSt → NetSt) : (State.modNet s f).tick = s.tick := rfl
@[simp] theorem modNet_cycle (s : State) (f : NetSt → NetSt) : (State.modNet s f).cycle = s.cycle := rfl
@[simp] theorem modNet_pending (s : State) (f : NetSt → NetSt) : (State.modNet s f).pending = s.pending := rfl
@[simp] theorem modNet_cores (s : State) (f : NetSt → NetSt) : (State.modNet s f).cores = s.cores := rfl
@[simp] theorem modNet_plots (s : State) (f : NetSt → NetSt) : (State.modNet s f).plots = s.plots := rfl
@[simp] theorem modNet_pair (s : State) (f : NetSt → NetSt) : (State.modNet s f).pair = s.pair := rfl
@[simp] theorem modNet_log (s : State) (f : NetSt → NetSt) : (State.modNet s f).log = s.log := rfl
/-! modRx. -/
@[simp] theorem modRx_regs (s : State) (t : Nat) (f : RxSt → RxSt) : (State.modRx s t f).regs = s.regs := rfl
@[simp] theorem modRx_mem (s : State) (t : Nat) (f : RxSt → RxSt) : (State.modRx s t f).mem = s.mem := rfl
@[simp] theorem modRx_tick (s : State) (t : Nat) (f : RxSt → RxSt) : (State.modRx s t f).tick = s.tick := rfl
@[simp] theorem modRx_cycle (s : State) (t : Nat) (f : RxSt → RxSt) : (State.modRx s t f).cycle = s.cycle := rfl
@[simp] theorem modRx_pending (s : State) (t : Nat) (f : RxSt → RxSt) : (State.modRx s t f).pending = s.pending := rfl
@[simp] theorem modRx_cores (s : State) (t : Nat) (f : RxSt → RxSt) : (State.modRx s t f).cores = s.cores := rfl
@[simp] theorem modRx_plots (s : State) (t : Nat) (f : RxSt → RxSt) : (State.modRx s t f).plots = s.plots := rfl
@[simp] theorem modRx_pair (s : State) (t : Nat) (f : RxSt → RxSt) : (State.modRx s t f).pair = s.pair := rfl
@[simp] theorem modRx_log (s : State) (t : Nat) (f : RxSt → RxSt) : (State.modRx s t f).log = s.log := rfl
/-! modTx. -/
@[simp] theorem modTx_regs (s : State) (t : Nat) (f : TxSt → TxSt) : (State.modTx s t f).regs = s.regs := rfl
@[simp] theorem modTx_mem (s : State) (t : Nat) (f : TxSt → TxSt) : (State.modTx s t f).mem = s.mem := rfl
@[simp] theorem modTx_tick (s : State) (t : Nat) (f : TxSt → TxSt) : (State.modTx s t f).tick = s.tick := rfl
@[simp] theorem modTx_cycle (s : State) (t : Nat) (f : TxSt → TxSt) : (State.modTx s t f).cycle = s.cycle := rfl
@[simp] theorem modTx_pending (s : State) (t : Nat) (f : TxSt → TxSt) : (State.modTx s t f).pending = s.pending := rfl
@[simp] theorem modTx_cores (s : State) (t : Nat) (f : TxSt → TxSt) : (State.modTx s t f).cores = s.cores := rfl
@[simp] theorem modTx_plots (s : State) (t : Nat) (f : TxSt → TxSt) : (State.modTx s t f).plots = s.plots := rfl
@[simp] theorem modTx_pair (s : State) (t : Nat) (f : TxSt → TxSt) : (State.modTx s t f).pair = s.pair := rfl
@[simp] theorem modTx_log (s : State) (t : Nat) (f : TxSt → TxSt) : (State.modTx s t f).log = s.log := rfl
/-! rxBoundary. -/
@[simp] theorem rxBoundary_regs (s : State) : (State.rxBoundary s).regs = s.regs := rfl
@[simp] theorem rxBoundary_mem (s : State) : (State.rxBoundary s).mem = s.mem := rfl
@[simp] theorem rxBoundary_tick (s : State) : (State.rxBoundary s).tick = s.tick := rfl
@[simp] theorem rxBoundary_cycle (s : State) : (State.rxBoundary s).cycle = s.cycle := rfl
@[simp] theorem rxBoundary_pending (s : State) : (State.rxBoundary s).pending = s.pending := rfl
@[simp] theorem rxBoundary_cores (s : State) : (State.rxBoundary s).cores = s.cores := rfl
@[simp] theorem rxBoundary_plots (s : State) : (State.rxBoundary s).plots = s.plots := rfl
@[simp] theorem rxBoundary_pair (s : State) : (State.rxBoundary s).pair = s.pair := rfl
@[simp] theorem rxBoundary_log (s : State) : (State.rxBoundary s).log = s.log := rfl
/-! modSap. -/
@[simp] theorem modSap_regs (s : State) (n : Nat) (f : SapSt → SapSt) : (State.modSap s n f).regs = s.regs := rfl
@[simp] theorem modSap_mem (s : State) (n : Nat) (f : SapSt → SapSt) : (State.modSap s n f).mem = s.mem := rfl
@[simp] theorem modSap_tick (s : State) (n : Nat) (f : SapSt → SapSt) : (State.modSap s n f).tick = s.tick := rfl
@[simp] theorem modSap_cycle (s : State) (n : Nat) (f : SapSt → SapSt) : (State.modSap s n f).cycle = s.cycle := rfl
@[simp] theorem modSap_pending (s : State) (n : Nat) (f : SapSt → SapSt) : (State.modSap s n f).pending = s.pending := rfl
@[simp] theorem modSap_cores (s : State) (n : Nat) (f : SapSt → SapSt) : (State.modSap s n f).cores = s.cores := rfl
@[simp] theorem modSap_plots (s : State) (n : Nat) (f : SapSt → SapSt) : (State.modSap s n f).plots = s.plots := rfl
@[simp] theorem modSap_pair (s : State) (n : Nat) (f : SapSt → SapSt) : (State.modSap s n f).pair = s.pair := rfl
@[simp] theorem modSap_log (s : State) (n : Nat) (f : SapSt → SapSt) : (State.modSap s n f).log = s.log := rfl
/-! modPsc. -/
@[simp] theorem modPsc_regs (s : State) (n : Nat) (f : PscSt → PscSt) : (State.modPsc s n f).regs = s.regs := rfl
@[simp] theorem modPsc_mem (s : State) (n : Nat) (f : PscSt → PscSt) : (State.modPsc s n f).mem = s.mem := rfl
@[simp] theorem modPsc_tick (s : State) (n : Nat) (f : PscSt → PscSt) : (State.modPsc s n f).tick = s.tick := rfl
@[simp] theorem modPsc_cycle (s : State) (n : Nat) (f : PscSt → PscSt) : (State.modPsc s n f).cycle = s.cycle := rfl
@[simp] theorem modPsc_pending (s : State) (n : Nat) (f : PscSt → PscSt) : (State.modPsc s n f).pending = s.pending := rfl
@[simp] theorem modPsc_cores (s : State) (n : Nat) (f : PscSt → PscSt) : (State.modPsc s n f).cores = s.cores := rfl
@[simp] theorem modPsc_plots (s : State) (n : Nat) (f : PscSt → PscSt) : (State.modPsc s n f).plots = s.plots := rfl
@[simp] theorem modPsc_pair (s : State) (n : Nat) (f : PscSt → PscSt) : (State.modPsc s n f).pair = s.pair := rfl
@[simp] theorem modPsc_log (s : State) (n : Nat) (f : PscSt → PscSt) : (State.modPsc s n f).log = s.log := rfl
/-! clearRegs. -/
@[simp] theorem clearRegs_mem (s : State) (f : Reg → Bool) : (State.clearRegs s f).mem = s.mem := rfl
@[simp] theorem clearRegs_tick (s : State) (f : Reg → Bool) : (State.clearRegs s f).tick = s.tick := rfl
@[simp] theorem clearRegs_cycle (s : State) (f : Reg → Bool) : (State.clearRegs s f).cycle = s.cycle := rfl
@[simp] theorem clearRegs_pending (s : State) (f : Reg → Bool) : (State.clearRegs s f).pending = s.pending := rfl
@[simp] theorem clearRegs_cores (s : State) (f : Reg → Bool) : (State.clearRegs s f).cores = s.cores := rfl
@[simp] theorem clearRegs_plots (s : State) (f : Reg → Bool) : (State.clearRegs s f).plots = s.plots := rfl
@[simp] theorem clearRegs_pair (s : State) (f : Reg → Bool) : (State.clearRegs s f).pair = s.pair := rfl
@[simp] theorem clearRegs_log (s : State) (f : Reg → Bool) : (State.clearRegs s f).log = s.log := rfl
/-! closeSession. -/
@[simp] theorem closeSession_regs (s : State) (n : Nat) : (State.closeSession s n).regs = s.regs := rfl
@[simp] theorem closeSession_mem (s : State) (n : Nat) : (State.closeSession s n).mem = s.mem := rfl
@[simp] theorem closeSession_tick (s : State) (n : Nat) : (State.closeSession s n).tick = s.tick := rfl
@[simp] theorem closeSession_cycle (s : State) (n : Nat) : (State.closeSession s n).cycle = s.cycle := rfl
@[simp] theorem closeSession_pending (s : State) (n : Nat) : (State.closeSession s n).pending = s.pending := rfl
@[simp] theorem closeSession_cores (s : State) (n : Nat) : (State.closeSession s n).cores = s.cores := rfl
@[simp] theorem closeSession_plots (s : State) (n : Nat) : (State.closeSession s n).plots = s.plots := rfl
@[simp] theorem closeSession_pair (s : State) (n : Nat) : (State.closeSession s n).pair = s.pair := rfl
@[simp] theorem closeSession_log (s : State) (n : Nat) : (State.closeSession s n).log = s.log := rfl
/-! closeRing. -/
@[simp] theorem closeRing_regs (s : State) (r : Nat) : (State.closeRing s r).regs = s.regs := rfl
@[simp] theorem closeRing_mem (s : State) (r : Nat) : (State.closeRing s r).mem = s.mem := rfl
@[simp] theorem closeRing_tick (s : State) (r : Nat) : (State.closeRing s r).tick = s.tick := rfl
@[simp] theorem closeRing_cycle (s : State) (r : Nat) : (State.closeRing s r).cycle = s.cycle := rfl
@[simp] theorem closeRing_pending (s : State) (r : Nat) : (State.closeRing s r).pending = s.pending := rfl
@[simp] theorem closeRing_cores (s : State) (r : Nat) : (State.closeRing s r).cores = s.cores := rfl
@[simp] theorem closeRing_plots (s : State) (r : Nat) : (State.closeRing s r).plots = s.plots := rfl
@[simp] theorem closeRing_pair (s : State) (r : Nat) : (State.closeRing s r).pair = s.pair := rfl
@[simp] theorem closeRing_log (s : State) (r : Nat) : (State.closeRing s r).log = s.log := rfl
/-! withdrawAt. -/
@[simp] theorem withdrawAt_regs (s : State) (i producer consumer at_ : Nat) : (State.withdrawAt s i producer consumer at_).regs = s.regs := rfl
@[simp] theorem withdrawAt_mem (s : State) (i producer consumer at_ : Nat) : (State.withdrawAt s i producer consumer at_).mem = s.mem := rfl
@[simp] theorem withdrawAt_tick (s : State) (i producer consumer at_ : Nat) : (State.withdrawAt s i producer consumer at_).tick = s.tick := rfl
@[simp] theorem withdrawAt_cycle (s : State) (i producer consumer at_ : Nat) : (State.withdrawAt s i producer consumer at_).cycle = s.cycle := rfl
@[simp] theorem withdrawAt_pending (s : State) (i producer consumer at_ : Nat) : (State.withdrawAt s i producer consumer at_).pending = s.pending := rfl
@[simp] theorem withdrawAt_cores (s : State) (i producer consumer at_ : Nat) : (State.withdrawAt s i producer consumer at_).cores = s.cores := rfl
@[simp] theorem withdrawAt_plots (s : State) (i producer consumer at_ : Nat) : (State.withdrawAt s i producer consumer at_).plots = s.plots := rfl
@[simp] theorem withdrawAt_pair (s : State) (i producer consumer at_ : Nat) : (State.withdrawAt s i producer consumer at_).pair = s.pair := rfl
@[simp] theorem withdrawAt_log (s : State) (i producer consumer at_ : Nat) : (State.withdrawAt s i producer consumer at_).log = s.log := rfl
/-! modRst. -/
@[simp] theorem modRst_regs (s : State) (f : RstSt → RstSt) : (State.modRst s f).regs = s.regs := rfl
@[simp] theorem modRst_mem (s : State) (f : RstSt → RstSt) : (State.modRst s f).mem = s.mem := rfl
@[simp] theorem modRst_tick (s : State) (f : RstSt → RstSt) : (State.modRst s f).tick = s.tick := rfl
@[simp] theorem modRst_cycle (s : State) (f : RstSt → RstSt) : (State.modRst s f).cycle = s.cycle := rfl
@[simp] theorem modRst_pending (s : State) (f : RstSt → RstSt) : (State.modRst s f).pending = s.pending := rfl
@[simp] theorem modRst_cores (s : State) (f : RstSt → RstSt) : (State.modRst s f).cores = s.cores := rfl
@[simp] theorem modRst_plots (s : State) (f : RstSt → RstSt) : (State.modRst s f).plots = s.plots := rfl
@[simp] theorem modRst_pair (s : State) (f : RstSt → RstSt) : (State.modRst s f).pair = s.pair := rfl
@[simp] theorem modRst_log (s : State) (f : RstSt → RstSt) : (State.modRst s f).log = s.log := rfl
/-! modBrace. -/
@[simp] theorem modBrace_regs (s : State) (f : BraceSt → BraceSt) : (State.modBrace s f).regs = s.regs := rfl
@[simp] theorem modBrace_mem (s : State) (f : BraceSt → BraceSt) : (State.modBrace s f).mem = s.mem := rfl
@[simp] theorem modBrace_tick (s : State) (f : BraceSt → BraceSt) : (State.modBrace s f).tick = s.tick := rfl
@[simp] theorem modBrace_cycle (s : State) (f : BraceSt → BraceSt) : (State.modBrace s f).cycle = s.cycle := rfl
@[simp] theorem modBrace_pending (s : State) (f : BraceSt → BraceSt) : (State.modBrace s f).pending = s.pending := rfl
@[simp] theorem modBrace_cores (s : State) (f : BraceSt → BraceSt) : (State.modBrace s f).cores = s.cores := rfl
@[simp] theorem modBrace_plots (s : State) (f : BraceSt → BraceSt) : (State.modBrace s f).plots = s.plots := rfl
@[simp] theorem modBrace_pair (s : State) (f : BraceSt → BraceSt) : (State.modBrace s f).pair = s.pair := rfl
@[simp] theorem modBrace_log (s : State) (f : BraceSt → BraceSt) : (State.modBrace s f).log = s.log := rfl
/-! modRing. -/
@[simp] theorem modRing_regs (s : State) (r : Nat) (f : Ring → Ring) : (State.modRing s r f).regs = s.regs := rfl
@[simp] theorem modRing_mem (s : State) (r : Nat) (f : Ring → Ring) : (State.modRing s r f).mem = s.mem := rfl
@[simp] theorem modRing_tick (s : State) (r : Nat) (f : Ring → Ring) : (State.modRing s r f).tick = s.tick := rfl
@[simp] theorem modRing_cycle (s : State) (r : Nat) (f : Ring → Ring) : (State.modRing s r f).cycle = s.cycle := rfl
@[simp] theorem modRing_pending (s : State) (r : Nat) (f : Ring → Ring) : (State.modRing s r f).pending = s.pending := rfl
@[simp] theorem modRing_cores (s : State) (r : Nat) (f : Ring → Ring) : (State.modRing s r f).cores = s.cores := rfl
@[simp] theorem modRing_plots (s : State) (r : Nat) (f : Ring → Ring) : (State.modRing s r f).plots = s.plots := rfl
@[simp] theorem modRing_pair (s : State) (r : Nat) (f : Ring → Ring) : (State.modRing s r f).pair = s.pair := rfl
@[simp] theorem modRing_log (s : State) (r : Nat) (f : Ring → Ring) : (State.modRing s r f).log = s.log := rfl
/-! holdBack. -/
@[simp] theorem holdBack_regs (s : State) (w : Writer) (r : Reg) (b : List Byte) (t : Nat) : (State.holdBack s w r b t).regs = s.regs := rfl
@[simp] theorem holdBack_mem (s : State) (w : Writer) (r : Reg) (b : List Byte) (t : Nat) : (State.holdBack s w r b t).mem = s.mem := rfl
@[simp] theorem holdBack_tick (s : State) (w : Writer) (r : Reg) (b : List Byte) (t : Nat) : (State.holdBack s w r b t).tick = s.tick := rfl
@[simp] theorem holdBack_cycle (s : State) (w : Writer) (r : Reg) (b : List Byte) (t : Nat) : (State.holdBack s w r b t).cycle = s.cycle := rfl
@[simp] theorem holdBack_pending (s : State) (w : Writer) (r : Reg) (b : List Byte) (t : Nat) : (State.holdBack s w r b t).pending = s.pending := rfl
@[simp] theorem holdBack_cores (s : State) (w : Writer) (r : Reg) (b : List Byte) (t : Nat) : (State.holdBack s w r b t).cores = s.cores := rfl
@[simp] theorem holdBack_plots (s : State) (w : Writer) (r : Reg) (b : List Byte) (t : Nat) : (State.holdBack s w r b t).plots = s.plots := rfl
@[simp] theorem holdBack_pair (s : State) (w : Writer) (r : Reg) (b : List Byte) (t : Nat) : (State.holdBack s w r b t).pair = s.pair := rfl
@[simp] theorem holdBack_log (s : State) (w : Writer) (r : Reg) (b : List Byte) (t : Nat) : (State.holdBack s w r b t).log = s.log := rfl
/-! modSession. -/
@[simp] theorem modSession_regs (s : State) (n : Nat) (f : Session → Session) : (State.modSession s n f).regs = s.regs := rfl
@[simp] theorem modSession_mem (s : State) (n : Nat) (f : Session → Session) : (State.modSession s n f).mem = s.mem := rfl
@[simp] theorem modSession_tick (s : State) (n : Nat) (f : Session → Session) : (State.modSession s n f).tick = s.tick := rfl
@[simp] theorem modSession_cycle (s : State) (n : Nat) (f : Session → Session) : (State.modSession s n f).cycle = s.cycle := rfl
@[simp] theorem modSession_pending (s : State) (n : Nat) (f : Session → Session) : (State.modSession s n f).pending = s.pending := rfl
@[simp] theorem modSession_cores (s : State) (n : Nat) (f : Session → Session) : (State.modSession s n f).cores = s.cores := rfl
@[simp] theorem modSession_plots (s : State) (n : Nat) (f : Session → Session) : (State.modSession s n f).plots = s.plots := rfl
@[simp] theorem modSession_pair (s : State) (n : Nat) (f : Session → Session) : (State.modSession s n f).pair = s.pair := rfl
@[simp] theorem modSession_log (s : State) (n : Nat) (f : Session → Session) : (State.modSession s n f).log = s.log := rfl
/-! modSource. -/
@[simp] theorem modSource_regs (s : State) (k : Nat) (f : SourceSt → SourceSt) : (State.modSource s k f).regs = s.regs := rfl
@[simp] theorem modSource_mem (s : State) (k : Nat) (f : SourceSt → SourceSt) : (State.modSource s k f).mem = s.mem := rfl
@[simp] theorem modSource_tick (s : State) (k : Nat) (f : SourceSt → SourceSt) : (State.modSource s k f).tick = s.tick := rfl
@[simp] theorem modSource_cycle (s : State) (k : Nat) (f : SourceSt → SourceSt) : (State.modSource s k f).cycle = s.cycle := rfl
@[simp] theorem modSource_pending (s : State) (k : Nat) (f : SourceSt → SourceSt) : (State.modSource s k f).pending = s.pending := rfl
@[simp] theorem modSource_cores (s : State) (k : Nat) (f : SourceSt → SourceSt) : (State.modSource s k f).cores = s.cores := rfl
@[simp] theorem modSource_plots (s : State) (k : Nat) (f : SourceSt → SourceSt) : (State.modSource s k f).plots = s.plots := rfl
@[simp] theorem modSource_pair (s : State) (k : Nat) (f : SourceSt → SourceSt) : (State.modSource s k f).pair = s.pair := rfl
@[simp] theorem modSource_log (s : State) (k : Nat) (f : SourceSt → SourceSt) : (State.modSource s k f).log = s.log := rfl
/-! barError. -/
@[simp] theorem barError_regs (s : State) : (State.barError s).regs = s.regs := rfl
@[simp] theorem barError_mem (s : State) : (State.barError s).mem = s.mem := rfl
@[simp] theorem barError_tick (s : State) : (State.barError s).tick = s.tick := rfl
@[simp] theorem barError_cycle (s : State) : (State.barError s).cycle = s.cycle := rfl
@[simp] theorem barError_pending (s : State) : (State.barError s).pending = s.pending := rfl
@[simp] theorem barError_cores (s : State) : (State.barError s).cores = s.cores := rfl
@[simp] theorem barError_plots (s : State) : (State.barError s).plots = s.plots := rfl
@[simp] theorem barError_pair (s : State) : (State.barError s).pair = s.pair := rfl
@[simp] theorem barError_log (s : State) : (State.barError s).log = s.log := rfl
/-! barAnswer. -/
@[simp] theorem barAnswer_regs (s : State) (code : Nat) (b : List Byte) : (State.barAnswer s code b).regs = s.regs := rfl
@[simp] theorem barAnswer_mem (s : State) (code : Nat) (b : List Byte) : (State.barAnswer s code b).mem = s.mem := rfl
@[simp] theorem barAnswer_tick (s : State) (code : Nat) (b : List Byte) : (State.barAnswer s code b).tick = s.tick := rfl
@[simp] theorem barAnswer_cycle (s : State) (code : Nat) (b : List Byte) : (State.barAnswer s code b).cycle = s.cycle := rfl
@[simp] theorem barAnswer_pending (s : State) (code : Nat) (b : List Byte) : (State.barAnswer s code b).pending = s.pending := rfl
@[simp] theorem barAnswer_cores (s : State) (code : Nat) (b : List Byte) : (State.barAnswer s code b).cores = s.cores := rfl
@[simp] theorem barAnswer_plots (s : State) (code : Nat) (b : List Byte) : (State.barAnswer s code b).plots = s.plots := rfl
@[simp] theorem barAnswer_pair (s : State) (code : Nat) (b : List Byte) : (State.barAnswer s code b).pair = s.pair := rfl
@[simp] theorem barAnswer_log (s : State) (code : Nat) (b : List Byte) : (State.barAnswer s code b).log = s.log := rfl
/-! setWaiting. -/
@[simp] theorem setWaiting_regs (s : State) (n : Nat) (l : List Request) : (State.setWaiting s n l).regs = s.regs := rfl
@[simp] theorem setWaiting_mem (s : State) (n : Nat) (l : List Request) : (State.setWaiting s n l).mem = s.mem := rfl
@[simp] theorem setWaiting_tick (s : State) (n : Nat) (l : List Request) : (State.setWaiting s n l).tick = s.tick := rfl
@[simp] theorem setWaiting_cycle (s : State) (n : Nat) (l : List Request) : (State.setWaiting s n l).cycle = s.cycle := rfl
@[simp] theorem setWaiting_pending (s : State) (n : Nat) (l : List Request) : (State.setWaiting s n l).pending = s.pending := rfl
@[simp] theorem setWaiting_cores (s : State) (n : Nat) (l : List Request) : (State.setWaiting s n l).cores = s.cores := rfl
@[simp] theorem setWaiting_plots (s : State) (n : Nat) (l : List Request) : (State.setWaiting s n l).plots = s.plots := rfl
@[simp] theorem setWaiting_pair (s : State) (n : Nat) (l : List Request) : (State.setWaiting s n l).pair = s.pair := rfl
@[simp] theorem setWaiting_log (s : State) (n : Nat) (l : List Request) : (State.setWaiting s n l).log = s.log := rfl
/-! takeSends. -/
@[simp] theorem takeSends_regs (s : State) : (State.takeSends s).regs = s.regs := rfl
@[simp] theorem takeSends_mem (s : State) : (State.takeSends s).mem = s.mem := rfl
@[simp] theorem takeSends_tick (s : State) : (State.takeSends s).tick = s.tick := rfl
@[simp] theorem takeSends_cycle (s : State) : (State.takeSends s).cycle = s.cycle := rfl
@[simp] theorem takeSends_pending (s : State) : (State.takeSends s).pending = s.pending := rfl
@[simp] theorem takeSends_cores (s : State) : (State.takeSends s).cores = s.cores := rfl
@[simp] theorem takeSends_plots (s : State) : (State.takeSends s).plots = s.plots := rfl
@[simp] theorem takeSends_pair (s : State) : (State.takeSends s).pair = s.pair := rfl
@[simp] theorem takeSends_log (s : State) : (State.takeSends s).log = s.log := rfl
/-! holdScrubs. -/
@[simp] theorem holdScrubs_regs (s : State) : (State.holdScrubs s).regs = s.regs := rfl
@[simp] theorem holdScrubs_mem (s : State) : (State.holdScrubs s).mem = s.mem := rfl
@[simp] theorem holdScrubs_tick (s : State) : (State.holdScrubs s).tick = s.tick := rfl
@[simp] theorem holdScrubs_cycle (s : State) : (State.holdScrubs s).cycle = s.cycle := rfl
@[simp] theorem holdScrubs_pending (s : State) : (State.holdScrubs s).pending = s.pending := rfl
@[simp] theorem holdScrubs_cores (s : State) : (State.holdScrubs s).cores = s.cores := rfl
@[simp] theorem holdScrubs_plots (s : State) : (State.holdScrubs s).plots = s.plots := rfl
@[simp] theorem holdScrubs_pair (s : State) : (State.holdScrubs s).pair = s.pair := rfl
@[simp] theorem holdScrubs_log (s : State) : (State.holdScrubs s).log = s.log := rfl

/-! Registers. -/

@[simp] theorem reg_setReg_same (s : State) (r : Reg) (v : Int) : (s.setReg r v).reg r = v :=
  Table.get_put_same _ _ _ _ _
theorem reg_setReg_other (s : State) (r q : Reg) (v : Int) (h : q ≠ r) : (s.setReg r v).reg q = s.reg q :=
  Table.get_put_other _ _ _ _ _ _ h
/-- A register after a write of another or of the same. -/
theorem reg_setReg (s : State) (r q : Reg) (v : Int) : (s.setReg r v).reg q = if q = r then v else s.reg q := by
  split
  · next h => rw [h, reg_setReg_same]
  · next h => exact reg_setReg_other s r q v h
/-- Two states with the same table of registers read the same. -/
theorem reg_of_regs {s t : State} (h : t.regs = s.regs) (r : Reg) : t.reg r = s.reg r := by
  simp only [State.reg, h]
@[simp] theorem reg_setBlob (s : State) (r : Reg) (b : List Byte) (q_ : Reg) : (State.setBlob s r b).reg q_ = s.reg q_ := rfl
@[simp] theorem reg_modPlot (s : State) (p : Nat) (f : PlotSt → PlotSt) (q_ : Reg) : (State.modPlot s p f).reg q_ = s.reg q_ := rfl
@[simp] theorem reg_setCore (s : State) (c : Nat) (k : CoreSt) (q_ : Reg) : (State.setCore s c k).reg q_ = s.reg q_ := rfl
@[simp] theorem reg_modTask (s : State) (p id : Nat) (f : TaskSt → TaskSt) (q_ : Reg) : (State.modTask s p id f).reg q_ = s.reg q_ := rfl
@[simp] theorem reg_reply (s : State) (code : Nat) (q_ : Reg) : (State.reply s code).reg q_ = s.reg q_ := rfl
@[simp] theorem reg_dueWrite (s : State) (r : Reg) (v : Int) (q_ : Reg) : (State.dueWrite s r v).reg q_ = s.reg q_ := rfl
@[simp] theorem reg_nextWrite (s : State) (r : Reg) (v : Int) (q_ : Reg) : (State.nextWrite s r v).reg q_ = s.reg q_ := rfl
@[simp] theorem reg_store (s : State) (a : Nat) (b : List Byte) (q_ : Reg) : (State.store s a b).reg q_ = s.reg q_ := reg_of_regs (touch_regs _ _ _) q_
@[simp] theorem reg_clearMem (s : State) (a n : Nat) (q_ : Reg) : (State.clearMem s a n).reg q_ = s.reg q_ := rfl
@[simp] theorem reg_logEvent (s : State) (code level plot p0 p1 : Nat) (q_ : Reg) : (State.logEvent s code level plot p0 p1).reg q_ = s.reg q_ := rfl
@[simp] theorem reg_logKeep (s : State) (code level p0 p1 : Nat) (q_ : Reg) : (State.logKeep s code level p0 p1).reg q_ = s.reg q_ := rfl
@[simp] theorem reg_stageEntry (s : State) (owner kind : Nat) (e : List Byte) (q_ : Reg) : (State.stageEntry s owner kind e).reg q_ = s.reg q_ := rfl
@[simp] theorem reg_msix (s : State) (v : Nat) (q_ : Reg) : (State.msix s v).reg q_ = s.reg q_ := rfl
@[simp] theorem reg_modPair (s : State) (f : PairSt → PairSt) (q_ : Reg) : (State.modPair s f).reg q_ = s.reg q_ := rfl
@[simp] theorem reg_purgeBarred (s : State) (q_ : Reg) : (State.purgeBarred s).reg q_ = s.reg q_ := rfl
@[simp] theorem reg_takeTables (s : State) (t : EngineTables) (q_ : Reg) : (State.takeTables s t).reg q_ = s.reg q_ := rfl
@[simp] theorem reg_modRef (s : State) (r : Nat) (f : RefSt → RefSt) (q_ : Reg) : (State.modRef s r f).reg q_ = s.reg q_ := rfl
@[simp] theorem reg_modClk (s : State) (f : ClkSt → ClkSt) (q_ : Reg) : (State.modClk s f).reg q_ = s.reg q_ := rfl
@[simp] theorem reg_setSource (s : State) (x : SigId) (b : List Sample) (q_ : Reg) : (State.setSource s x b).reg q_ = s.reg q_ := rfl
@[simp] theorem reg_setSink (s : State) (x : SigId) (k : SinkSt) (q_ : Reg) : (State.setSink s x k).reg q_ = s.reg q_ := rfl
@[simp] theorem reg_advanceSinks (s : State) (q_ : Reg) : (State.advanceSinks s).reg q_ = s.reg q_ := rfl
@[simp] theorem reg_setGrp (s : State) (k : Nat) (g : GrpSt) (q_ : Reg) : (State.setGrp s k g).reg q_ = s.reg q_ := rfl
@[simp] theorem reg_repair (s : State) (a : Nat) (b : List Byte) (q_ : Reg) : (State.repair s a b).reg q_ = s.reg q_ := rfl
@[simp] theorem reg_modXp (s : State) (x : Nat) (f : AreXpSt → AreXpSt) (q_ : Reg) : (State.modXp s x f).reg q_ = s.reg q_ := rfl
@[simp] theorem reg_putSet (s : State) (p set : Nat) (v : SetSt) (q_ : Reg) : (State.putSet s p set v).reg q_ = s.reg q_ := rfl
@[simp] theorem reg_setBus (s : State) (b : Nat) (v : BusSt) (q_ : Reg) : (State.setBus s b v).reg q_ = s.reg q_ := rfl
@[simp] theorem reg_setXp (s : State) (x : Nat) (v : XpSt) (q_ : Reg) : (State.setXp s x v).reg q_ = s.reg q_ := rfl
@[simp] theorem reg_setGen (s : State) (g : Nat) (v : GenSt) (q_ : Reg) : (State.setGen s g v).reg q_ = s.reg q_ := rfl
@[simp] theorem reg_setTracker (s : State) (t : Nat) (k : TrackerSt) (q_ : Reg) : (State.setTracker s t k).reg q_ = s.reg q_ := rfl
@[simp] theorem reg_noteAt (s : State) (t owner : Nat) (r : Reg) (b : List Byte) (q_ : Reg) : (State.noteAt s t owner r b).reg q_ = s.reg q_ := rfl
@[simp] theorem reg_dropNoted (s : State) (l : List Timed) (q_ : Reg) : (State.dropNoted s l).reg q_ = s.reg q_ := rfl
@[simp] theorem reg_modTev (s : State) (n : Nat) (f : TevSt → TevSt) (q_ : Reg) : (State.modTev s n f).reg q_ = s.reg q_ := rfl
@[simp] theorem reg_carry (s : State) (x : SigId) (at_ : Nat) (v : Int) (q_ : Reg) : (State.carry s x at_ v).reg q_ = s.reg q_ := rfl
@[simp] theorem reg_modNet (s : State) (f : NetSt → NetSt) (q_ : Reg) : (State.modNet s f).reg q_ = s.reg q_ := rfl
@[simp] theorem reg_modRx (s : State) (t : Nat) (f : RxSt → RxSt) (q_ : Reg) : (State.modRx s t f).reg q_ = s.reg q_ := rfl
@[simp] theorem reg_modTx (s : State) (t : Nat) (f : TxSt → TxSt) (q_ : Reg) : (State.modTx s t f).reg q_ = s.reg q_ := rfl
@[simp] theorem reg_rxBoundary (s : State) (q_ : Reg) : (State.rxBoundary s).reg q_ = s.reg q_ := rfl
@[simp] theorem reg_modSap (s : State) (n : Nat) (f : SapSt → SapSt) (q_ : Reg) : (State.modSap s n f).reg q_ = s.reg q_ := rfl
@[simp] theorem reg_modPsc (s : State) (n : Nat) (f : PscSt → PscSt) (q_ : Reg) : (State.modPsc s n f).reg q_ = s.reg q_ := rfl
@[simp] theorem reg_closeSession (s : State) (n : Nat) (q_ : Reg) : (State.closeSession s n).reg q_ = s.reg q_ := rfl
@[simp] theorem reg_closeRing (s : State) (r : Nat) (q_ : Reg) : (State.closeRing s r).reg q_ = s.reg q_ := rfl
@[simp] theorem reg_withdrawAt (s : State) (i producer consumer at_ : Nat) (q_ : Reg) : (State.withdrawAt s i producer consumer at_).reg q_ = s.reg q_ := rfl
@[simp] theorem reg_modRst (s : State) (f : RstSt → RstSt) (q_ : Reg) : (State.modRst s f).reg q_ = s.reg q_ := rfl
@[simp] theorem reg_modBrace (s : State) (f : BraceSt → BraceSt) (q_ : Reg) : (State.modBrace s f).reg q_ = s.reg q_ := rfl
@[simp] theorem reg_modRing (s : State) (r : Nat) (f : Ring → Ring) (q_ : Reg) : (State.modRing s r f).reg q_ = s.reg q_ := rfl
@[simp] theorem reg_holdBack (s : State) (w : Writer) (r : Reg) (b : List Byte) (t : Nat) (q_ : Reg) : (State.holdBack s w r b t).reg q_ = s.reg q_ := rfl
@[simp] theorem reg_modSession (s : State) (n : Nat) (f : Session → Session) (q_ : Reg) : (State.modSession s n f).reg q_ = s.reg q_ := rfl
@[simp] theorem reg_modSource (s : State) (k : Nat) (f : SourceSt → SourceSt) (q_ : Reg) : (State.modSource s k f).reg q_ = s.reg q_ := rfl
@[simp] theorem reg_barError (s : State) (q_ : Reg) : (State.barError s).reg q_ = s.reg q_ := rfl
@[simp] theorem reg_barAnswer (s : State) (code : Nat) (b : List Byte) (q_ : Reg) : (State.barAnswer s code b).reg q_ = s.reg q_ := rfl
@[simp] theorem reg_setWaiting (s : State) (n : Nat) (l : List Request) (q_ : Reg) : (State.setWaiting s n l).reg q_ = s.reg q_ := rfl
@[simp] theorem reg_takeSends (s : State) (q_ : Reg) : (State.takeSends s).reg q_ = s.reg q_ := rfl
@[simp] theorem reg_holdScrubs (s : State) (q_ : Reg) : (State.holdScrubs s).reg q_ = s.reg q_ := rfl

end Sys2Proof.Machine
end

