-- ==== Sys2Proof/Laws/Slots.lean ====
section
/-!
SUPPORT. How a slot of a core runs: one lemma for every command of the instruction set.
-/
namespace Sys2Proof.Machine

@[simp] theorem core_setCore_same (s : State) (c : Nat) (k : CoreSt) : (s.setCore c k).core c = k :=
  NTable.get_put_same _ _ _ _
theorem core_setCore_other (s : State) (c d : Nat) (k : CoreSt) (h : d ≠ c) : (s.setCore c k).core d = s.core d :=
  NTable.get_put_other _ _ _ _ _ h

theorem raise_writes (b : Bundle) (n : Nat) : (b.raise n).writes = b.writes := by unfold Bundle.raise; split <;> rfl
theorem raise_stores (b : Bundle) (n : Nat) : (b.raise n).stores = b.stores := by unfold Bundle.raise; split <;> rfl
theorem raise_exc (b : Bundle) (n : Nat) : (b.raise n).exc = if b.exc = 0 then n else b.exc := by
  unfold Bundle.raise; split <;> rfl

/-- The bundle as a slot finds it, but for its counts: what the slot waits for, names and stands for. -/
def Bundle.Noted (b b0 : Bundle) : Prop :=
  b = { b0 with slots := b.slots, minIssue := b.minIssue, dests := b.dests, conds := b.conds }

/-- Without an error of the fetch and a parity failure, a slot adds its operation, or raises ILLEGAL, or adds nothing. -/
theorem add_cases (b : Bundle) (s : State) (c : Nat) (r : RunTask) (k : CoreSt) (ctl : SlotCtl) (op : Op)
    (hf : ctl.hw.fetch = .clean) (hp : ctl.hw.parity = false) : ∃ b1 : Bundle, b1.Noted b ∧
      b.add s c r k ctl op = if op.bad s c r k ctl = true then b1.raise 1
        else if (op.always || slotHolds ctl k) = true then op.act s c r k ctl b1 else b1 := by
  refine ⟨{ b with
    slots := b.slots + 1
    minIssue := (predUses ctl ++ (if op.always || slotHolds ctl k then op.needs k else [])).foldl
      (fun m e => max m (k.ready e)) b.minIssue
    dests := b.dests ++ op.dests
    conds := b.conds ++ predConds ctl }, rfl, ?_⟩
  unfold Bundle.add
  simp only [hf, hp, reduceCtorEq, if_false, Bool.false_eq_true]
  rfl

/-- A slot on a core with a task, its last bundle retired. -/
theorem slot_run (s : State) (c : Nat) (ctl : SlotCtl) (op : Op) (r : RunTask) (hr : (s.core c).run = some r) :
    s.slot c ctl op =
      (let u := s.setCore c { s.found c r ctl with bundle := (s.found c r ctl).bundle.add s c r (s.found c r ctl) ctl op }
       if ctl.last then u.retire c r else u) := by
  unfold State.slot State.found
  simp only [hr]

/-- A slot command runs as its operation says. -/
theorem slotRuns_slot (i : Instr) (c : Nat) (ctl : SlotCtl) (s : State) (op : Op)
    (q : State → CoreSt → RunTask → Bundle → Prop) (h : exec i s = .next (s.slot c ctl op)) (ha : op.always = false)
    (hq : ∀ r k b, b.Noted k.bundle → slotHolds ctl k = true →
      q s k r (if op.bad s c r k ctl = true then b.raise 1 else op.act s c r k ctl b)) : SlotRuns i c ctl s q := by
  intro r hr hf hp
  obtain ⟨b1, hb1, hadd⟩ := add_cases (s.found c r ctl).bundle s c r (s.found c r ctl) ctl op hf hp
  have hn : b1.writes = (s.found c r ctl).bundle.writes ∧ b1.stores = (s.found c r ctl).bundle.stores ∧
      b1.exc = (s.found c r ctl).bundle.exc := by
    rw [hb1]; exact ⟨rfl, rfl, rfl⟩
  refine ⟨s.setCore c { s.found c r ctl with
    bundle := (s.found c r ctl).bundle.add s c r (s.found c r ctl) ctl op }, ?_, ?_, ?_, ?_⟩
  · rw [h, slot_run s c ctl op r hr]
  · rw [core_setCore_same]
  · intro hs
    rw [core_setCore_same]
    have := hq r (s.found c r ctl) b1 hb1 hs
    simpa only [hadd, hs, Bool.or_true, if_true] using this
  · intro hs
    rw [core_setCore_same]
    dsimp only
    rw [hadd, ha, hs]
    split
    · refine ⟨(raise_writes _ _).trans hn.1, (raise_stores _ _).trans hn.2.1, ?_⟩
      rw [raise_exc, hn.2.2]
      split
      · exact .inr ⟨‹_›, rfl⟩
      · exact .inl rfl
    · exact ⟨hn.1, hn.2.1, .inl hn.2.2⟩

/-- A slot command whose operands are undefined raises ILLEGAL. -/
theorem slotIllegal_slot (i : Instr) (c : Nat) (ctl : SlotCtl) (s : State) (op : Op)
    (h : exec i s = .next (s.slot c ctl op)) (hb : ∀ r k, op.bad s c r k ctl = true) : SlotIllegal i c ctl s := by
  intro r hr hf hp
  obtain ⟨b1, hb1, hadd⟩ := add_cases (s.found c r ctl).bundle s c r (s.found c r ctl) ctl op hf hp
  rw [hb, if_pos rfl] at hadd
  have hn : b1.writes = (s.found c r ctl).bundle.writes ∧ b1.stores = (s.found c r ctl).bundle.stores ∧
      b1.exc = (s.found c r ctl).bundle.exc := by
    rw [hb1]; exact ⟨rfl, rfl, rfl⟩
  refine ⟨s.setCore c { s.found c r ctl with
    bundle := (s.found c r ctl).bundle.add s c r (s.found c r ctl) ctl op }, ?_, ?_, ?_, ?_, ?_⟩
  · rw [h, slot_run s c ctl op r hr]
  all_goals rw [core_setCore_same]
  all_goals dsimp only
  all_goals rw [hadd]
  · rw [raise_writes, hn.1]
  · rw [raise_stores, hn.2.1]
  · rw [raise_exc, hn.2.2]

end Sys2Proof.Machine
end

