-- ==== Sys2Proof/Machine/Pins.lean ====
section
/-!
DEFINITION. The pins: balls (21, R529, R530), what a reset makes of output pins (18, R503), the levels of pins that the keep
domain drives (18, R486, R497; 19, R519, R520).
-/
namespace Sys2Proof.Machine

/-- Letters of row names (21, R529). -/
def ballLetters : List String :=
  ["A", "B", "C", "D", "E", "F", "G", "H", "J", "K", "L", "M", "N", "P", "T", "U", "V", "W", "Y"]
/-- Name of a row, 1 to 53. -/
def rowName (r : Nat) : String :=
  let l (k : Nat) : String := ballLetters.getD (k - 1) ""
  if r ≤ 19 then l r else if r ≤ 38 then "A" ++ l (r - 19) else "B" ++ l (r - 38)
/-- Name of the ball at a row and a column. -/
def ballName (b : Nat × Nat) : String := rowName b.1 ++ toString b.2

/-- Signal pins (21, Table 21.1): SAP pins 0 SCK, 1 SFS, 2 SDI, 3 SDO; PWM_A or PWM_B; VSNS or ISNS; receive or transmit, negative
or positive of a lane; DRAM data by subchannel, control in the order of Table 21.3; single pins in the order of `singlePins`. -/
inductive Pin where
  | sap (n : Fin 128) (k : Fin 4)
  | pwm (n : Fin 64) (second : Bool)
  | sense (n : Fin 64) (current : Bool)
  | tsns (g : Fin 16)
  | snsClk (k : Fin 8)
  | tev (t : Fin 24)
  | refin (i : Fin 8)
  | refout (j : Fin 4)
  | net (p : Fin 24) (rx neg : Bool)
  | welt (w : Fin 2) (l : Fin 4) (rx neg : Bool)
  | pcie (l : Fin 4) (rx neg : Bool)
  | dramDq (d : Fin 2) (second : Bool) (i : Fin 16)
  | dramCtl (d : Fin 2) (second : Bool) (k : Fin 20)
  | dramReset (d : Fin 2)
  | dramZq (d : Fin 2)
  | single (k : Fin 51)
  deriving DecidableEq, Repr

/-- Single pins with their rows and columns (21, Table 21.4). -/
def singlePins : List (String × Nat × Nat) :=
  [("PCIE_REFCLK_P", 10, 19), ("PCIE_REFCLK_N", 10, 20), ("XREF_P", 12, 19), ("XREF_N", 12, 20), ("OSPI_SCLK", 44, 2),
    ("OSPI_CS_N", 44, 3), ("OSPI_DQS", 44, 4), ("OSPI_RESET_N", 44, 5)] ++
  (List.range 8).map (fun i => ("OSPI_DQ" ++ toString i, 46, 1 + i)) ++
  [("TCK", 48, 2), ("TMS", 48, 3), ("TDI", 48, 4), ("TDO", 48, 5), ("TRST_N", 48, 6), ("CHAIN_IN", 44, 49), ("CHAIN_OUT", 44, 50),
    ("FAMILY_SEL", 50, 2), ("PAIR_EN", 50, 3), ("PAIR_SEAT", 50, 4), ("TEST_MODE", 50, 5)] ++
  (List.range 8).map (fun i => ("ADDR_STRAP" ++ toString i, 52, 1 + i)) ++
  [("RESET_N", 44, 47), ("FAULT_N", 44, 48), ("AUTH", 46, 47), ("READY", 46, 48), ("PARTNER_AUTH", 46, 49),
    ("PWR_MAIN_OK", 48, 47), ("PWR_BATT_ON", 48, 48), ("PWR_SHED_N", 48, 49), ("T1S0_P", 50, 47), ("T1S0_N", 50, 48),
    ("T1S1_P", 50, 50), ("T1S1_N", 50, 51), ("PCIE_PERST_N", 52, 47), ("PCIE_CLKREQ_N", 52, 48), ("PCIE_WAKE_N", 52, 49),
    ("SD_CAL", 52, 51)]
/-- Row and column of a signal's ball (21, R530, Tables 21.2 to 21.4). -/
def Pin.ball : Pin → Nat × Nat
  | .sap n k =>
    let m := n.val % 64
    let j := m % 32
    let row := 3 + j + j / 4
    if n.val < 64 then (row, (if m < 32 then 1 else 5) + k) else (row, (if m < 32 then 53 else 49) - k)
  | .pwm n b => (46 + 2 * (n.val / 16), (if b then 12 else 11) + 2 * (n.val % 16))
  | .sense n b => (47 + 2 * (n.val / 16), (if b then 12 else 11) + 2 * (n.val % 16))
  | .tsns g => (45, 11 + 2 * g.val)
  | .snsClk k => (45, 12 + 4 * k.val)
  | .tev t => (43, 10 + t.val)
  | .refin i => (43, 34 + i.val)
  | .refout j => (43, 42 + j.val)
  | .net p rx neg =>
    let c := (if neg then 12 else 11) + 2 * (p.val % 16)
    if p.val < 16 then (if rx then 4 else 2, c) else (if rx then 8 else 6, c)
  | .welt w l rx neg => (if rx then 8 else 6, (if neg then 28 else 27) + 2 * (4 * w.val + l.val))
  | .pcie l rx neg => (if rx then 12 else 10, (if neg then 12 else 11) + 2 * l.val)
  | .dramDq d b i => (14 + 10 * d.val + (if b then 2 else 0), 11 + 2 * i.val)
  | .dramCtl d b k => (14 + 10 * d.val + (if b then 6 else 4), 11 + k.val)
  | .dramReset d => (20 + 10 * d.val, 31)
  | .dramZq d => (20 + 10 * d.val, 32)
  | .single k => (singlePins[k.val]?.map (·.2)).getD (0, 0)
/-- The signal pins, 1,171 in all (21, Table 21.1). -/
def signalPins : List Pin :=
  let two := [false, true]
  (List.finRange 128).flatMap (fun n => (List.finRange 4).map (.sap n)) ++
  (List.finRange 64).flatMap (fun n => two.map (.pwm n) ++ two.map (.sense n)) ++
  (List.finRange 16).map .tsns ++ (List.finRange 8).map .snsClk ++ (List.finRange 24).map .tev ++
  (List.finRange 8).map .refin ++ (List.finRange 4).map .refout ++
  (List.finRange 24).flatMap (fun p => two.flatMap fun a => two.map (.net p a)) ++
  (List.finRange 2).flatMap (fun w => (List.finRange 4).flatMap fun l => two.flatMap fun a => two.map (.welt w l a)) ++
  (List.finRange 4).flatMap (fun l => two.flatMap fun a => two.map (.pcie l a)) ++
  (List.finRange 2).flatMap (fun d => two.flatMap (fun b => (List.finRange 16).map (.dramDq d b) ++ (List.finRange 20).map (.dramCtl d b)) ++
    [.dramReset d, .dramZq d]) ++
  (List.finRange 51).map .single
/-- Rails of the other balls (18, Table 18.4). -/
inductive Rail where
  | vcore | vsram | vkeep | vio18 | vio33 | vsd075 | vsd12 | vddq | vss
  deriving DecidableEq, Repr
/-- Rail of a ball that no signal takes (21, Table 21.5). -/
def railAt (r c : Nat) : Rail :=
  let side := [7, 12, 17, 22, 27, 32, 37, 42].contains r && c % 2 == 1
  if c ≤ 8 then (if side then .vio18 else if (r = 45 ∨ r = 47) ∧ c % 2 = 1 then .vio33 else .vss)
  else if 46 ≤ c then (if side then .vio18 else if r = 51 ∧ c % 2 = 1 then .vio33 else .vss)
  else if r ≤ 13 then (if r = 9 then .vsd12 else if r = 11 ∨ r = 13 then .vsd075 else .vss)
  else if r ≤ 30 then
    if [15, 17, 25, 27].contains r ∧ c % 2 = 0 ∧ 12 ≤ c ∧ c ≤ 40 then .vddq
    else if r = 21 ∧ ((10 ≤ c ∧ c ≤ 13) ∨ (41 ≤ c ∧ c ≤ 44)) then .vkeep
    else if r = 22 ∨ r = 23 then .vsram else .vss
  else if r ≤ 42 then (if (r + c) % 2 = 0 then .vcore else .vss)
  else if r = 44 then (if c % 2 = 0 ∧ 10 ≤ c ∧ c ≤ 44 then .vio18 else .vss)
  else if 46 ≤ r ∧ (c = 10 ∨ c = 44) then .vio18
  else .vss

/-! Output pins (18, R503). -/

/-- What drives an output pin: a reset, to a level, to high impedance or to electrical idle; or its unit. -/
inductive PinDrive where
  | low
  | highZ
  | idle
  | byUnit
  deriving DecidableEq, Repr
/-- State of an output pin while a reset holds it (18, Table 18.7); its unit decides where none does. -/
def State.pinDrive (s : State) (x : Pin) : PinDrive :=
  let cold := s.rst.kind == 1 || s.rst.kind == 2
  let down := cold || s.rst.kind == 3
  let port (n : Nat) : Bool := bit (s.rst.ports : Int) n
  match x with
  | .pwm _ _ | .snsClk _ => if down then .low else .byUnit
  | .sap _ k => if !down then .byUnit else if k.val = 3 then .low else .highZ
  | .tev _ => if down then .highZ else .byUnit
  | .refout _ => if cold then .low else .byUnit
  | .net p false _ => if cold || port p then .idle else .byUnit
  | .welt w _ false _ => if down || port (26 + w.val) then .idle else .byUnit
  | .single k =>
    match (singlePins[k.val]?.map (·.1)).getD "" with
    | "AUTH" | "READY" => if down then .low else .byUnit
    | "T1S0_P" | "T1S0_N" => if cold || port 24 then .highZ else .byUnit
    | "T1S1_P" | "T1S1_N" => if cold || port 25 then .highZ else .byUnit
    | _ => .byUnit
  | _ => .byUnit
/-- Is RESET_N driven low: for the stretch of a power-on or cold reset (18, R486). -/
def State.resetLow (s : State) : Bool := (s.rst.kind == 1 || s.rst.kind == 2) && s.rst.phase == 1
/-- CHAIN_OUT is low until an address is held and announced (16, R444). -/
def State.chainPin (s : State) : Bool := s.addr.chainOut
/-- Is PWR_SHED_N driven low (18, R498, R499). -/
def State.shedLow (s : State) : Bool := bit (s.reg Reg.pwrInputs) 2
/-- Is FAULT_N low at an instant in us: code c gives c pulses of 250 ms, 250 ms apart, then 2,000 ms released (19, R520). -/
def State.faultLow (s : State) (now : Nat) : Bool :=
  let c := s.nat Reg.faultCode / 16777216
  let start := s.log.frameEnd - ((2 * c - 1) * 250 + 2000) * 1000
  decide (0 < c) && decide (start ≤ now) && decide (now < start + (2 * c - 1) * 250000) && (now - start) / 250000 % 2 == 0

end Sys2Proof.Machine
end

