-- ==== Sys2Proof/Tests/Slice0.lean ====
section
/-!
SUPPORT. Tests: what WellFormed refuses, and for each obligation with hypotheses a concrete state and operands that meet them,
clause by clause. Expected results come from the spec.
-/
namespace Sys2Proof.Tests
open Sys2Proof Sys2Proof.Machine
set_option Elab.async false

/-- On an empty queue the block idles (log entry 140). -/
theorem test_reset_idles : step State.reset = .next State.reset := by rfl

/-- A state with registers set. -/
def st (l : List (Reg × Int)) : State := State.reset.setRegs l
/-- A state with one plot. -/
def plotSt (p : Nat) (x : PlotSt) (l : List (Reg × Int)) : State := { st l with plots := [(p, x)] }

/-! Cores. -/

/-- A task. -/
def t0 : Task := ⟨1, 0, 0, 5, false, 100, 50, 1000⟩
/-- A core running it, with pointers, predicates and a buffer. -/
def coreK : CoreSt := { run := some ⟨t0, 0⟩, p := [(0, 16), (1, 32), (2, 0x100000), (3, 0x80000)], q := [(1, true)] }
/-- The state with that core, of plot 0. -/
def busy : State := { State.reset with cores := [(0, coreK)], holdings := [⟨1, noUnit, 0, 2, 0, none, 0⟩] }
/-- A slot whose condition holds, and one whose condition does not. -/
def ctl1 : SlotCtl := ⟨some (false, 1), 0, true, .ok⟩
def ctl0 : SlotCtl := ⟨some (false, 2), 3, false, .ok⟩

/-- What every statement of a slot asks for: a task, no failure of the fetch, a condition that holds or does not. -/
theorem witness_slots : (busy.core 0).run = some ⟨t0, 0⟩ ∧ ctl1.hw.fetch = .clean ∧ ctl1.hw.parity = false ∧
    slotHolds ctl1 (busy.found 0 ⟨t0, 0⟩ ctl1) = true ∧ ctl0.hw.fetch = .clean ∧ ctl0.hw.parity = false ∧
    slotHolds ctl0 (busy.found 0 ⟨t0, 0⟩ ctl0) = false := by decide +kernel
/-- A residue failure, a load of an uncorrectable and of a corrected word. -/
def ctlR : SlotCtl := ⟨none, 0, true, { residue := true }⟩
def ctlL : SlotCtl := ⟨none, 0, true, { load := .uncorrectable }⟩
def ctlC : SlotCtl := ⟨none, 0, true, { load := .corrected }⟩
/-- Where a word saturates and where it does not. -/
theorem witness_CoreWordOperationsAddOneResult :
    ctl1.hw.residue = false ∧ ctlR.hw.residue = true ∧ ctlR.hw.fetch = .clean ∧ ctlR.hw.parity = false ∧
    over32 (2 ^ 31) = true ∧ over32 (2 ^ 31 - 1) = false ∧ over32 (-2 ^ 31) = false ∧ over32 (-2 ^ 31 - 1) = true := by
  decide +kernel
theorem witness_CoreShiftsMovesAndCompares : ((-512 : Int) ≤ -512 ∧ (-512 : Int) ≤ 511) ∧ ((-512 : Int) ≤ 511 ∧ (511 : Int) ≤ 511) ∧
    ((0 : Int) ≤ 0 ∧ (0 : Int) ≤ 1023) ∧ ((0 : Int) ≤ 1023 ∧ (1023 : Int) ≤ 1023) := by decide
theorem witness_CoreAccumulatorOperations : ctl1.hw.residue = false ∧ (0 : Fin 4) ≠ 1 ∧
    ctlR.hw.residue = true ∧ ctlR.hw.fetch = .clean ∧ ctlR.hw.parity = false ∧
    Cond.gt ≠ .ltu ∧ Cond.gt ≠ .geu ∧ (Cond.geu = .ltu ∨ Cond.geu = .geu) := by decide
/-- Accesses that may be read: own data memory, a cluster slice of the plot; and one that may not. -/
theorem witness_CoreLoads :
    l1Ok ⟨0, 0, true, 15⟩ = true ∧ l1Ok ⟨1, 0, true, -16⟩ = true ∧ l1Ok ⟨0, 0, true, 16⟩ = false ∧
    busy.access 0 0 (coreK.rp 0) 8 true = .ok ⟨dmBase 0 + 16, 2, false, 0, 16⟩ ∧
    busy.access 0 0 (coreK.rp 1) 8 false = .ok ⟨dmBase 0 + 32, 4, false, 0, 32⟩ ∧
    busy.access 0 0 (coreK.rp 2) 8 true = .ok ⟨sliceBase 0, 0, true, 0, 0x100000⟩ ∧
    busy.access 0 0 (coreK.rp 7) 8 false = .ok ⟨dmBase 0, 0, false, 0, 0⟩ ∧
    busy.access 0 0 (coreK.rp 6) 8 false = .ok ⟨dmBase 0, 0, false, 0, 0⟩ ∧
    busy.access 0 0 (coreK.rp 3) 8 true = .error 2 ∧ (0 : Fin 8) ≠ 1 ∧ (0 : Fin 8).val ≠ 7 ∧ (1 : Fin 8).val ≠ 6 ∧
    (6 : Fin 8).val = (if false then 7 else 6) ∧ ctlL.hw.load = .uncorrectable ∧ ctlC.hw.load = .corrected :=
  ⟨rfl, rfl, rfl, rfl, rfl, rfl, rfl, rfl, rfl, by decide, by decide, by decide, by decide, rfl, rfl⟩
theorem witness_CoreStoresSearchesAndPointers :
    l1Ok ⟨30, 0, false, 0⟩ = true ∧ l1Ok ⟨31, 0, true, 15⟩ = true ∧ l1Ok ⟨0, 0, false, 1⟩ = false ∧
    busy.access 0 0 (coreK.rp 0) 4 true = .ok ⟨dmBase 0 + 16, 2, false, 0, 16⟩ ∧
    ((-1024 : Int) ≤ -1024 ∧ (-1024 : Int) ≤ 1023) ∧ ((-1024 : Int) ≤ 1023 ∧ (1023 : Int) ≤ 1023) ∧
    ((-1025 : Int) < -1024 ∨ (1023 : Int) < -1025) ∧ ((1024 : Int) < -1024 ∨ (1023 : Int) < 1024) :=
  ⟨rfl, rfl, rfl, rfl, by decide, by decide, by decide, by decide⟩
/-- The clauses of an address: the ends of each range, one aligned and one not; pointers at both ends of a buffer. -/
theorem witness_CoreAddressingAndPointers :
    (0x3FFF8 < 0x40000 ∧ 0x3FFF8 % 8 = 0) ∧ (0x3FFFF < 0x40000 ∧ 0x3FFFF % 8 ≠ 0) ∧ (0x40000 ≤ 0xFFFFF ∧ 0xFFFFF < 0x100000) ∧
    (0x300000 ≤ 0x300000) ∧ (0x100000 ≤ 0x2FFFF8 ∧ 0x2FFFF8 < 0x300000) ∧
    (busy.corePlot (0 / 8 * 8 + (0x13FFF8 - 0x100000) / 0x40000) = some 0 ∧ 0x13FFF8 % 8 = 0) ∧
    (let k : CoreSt := { c := [(0, 64), (8, 32), (24, 1)], p := [(0, 95)] }
     (k.rc 24).toNat / 4 ^ 1 % 4 = 0 ∧ (k.rc 24).toNat / 4 ^ 0 % 4 = 1 ∧ (32 : Int).natAbs ≤ (k.rc (8 + 0)).toNat ∧
     (k.rc 0).toNat ≤ k.rp 0 ∧ k.rp 0 < (k.rc 0).toNat + (k.rc (8 + 0)).toNat ∧ (k.rc (8 + 0)).toNat < (-33 : Int).natAbs) ∧
    (let k : CoreSt := { c := [(0, 64), (8, 32), (24, 13)], p := [(0, 96)] }
     (k.rc 24).toNat / 4 ^ 0 % 4 = 1 ∧ (k.rc 0).toNat + (k.rc (8 + 0)).toNat ≤ k.rp 0 ∧ (k.rc 24).toNat / 4 ^ 1 % 4 = 3) := by
  decide +kernel
theorem witness_CoreControlOperations :
    coreK.atBodyEnd = false ∧ ({ coreK with loops := [⟨0, 0⟩] } : CoreSt).atBodyEnd = true ∧ coreK.loops = [] ∧
    ({ ctl1 with pred := none } : SlotCtl).pred = none ∧ ctl1.pred = some (false, 1) ∧ ctl1.pred ≠ none ∧
    (let k : CoreSt := { coreK with pc := 2, loops := [⟨1, 9⟩] }
     k.loops = [⟨1, 9⟩] ∧ 9 ≠ k.pc ∧ k.inside ((k.pc + 1) % 8192) 6 = true ∧ k.inside ((k.pc + 1) % 8192) 7 = false) ∧ (coreK.rg 0).toNat < 8192 ∧
    8192 ≤ (({ coreK with g := [(0, 8192)] } : CoreSt).rg 0).toNat ∧
    2 ≤ ({ coreK with loops := [⟨0, 0⟩, ⟨0, 0⟩] } : CoreSt).loops.length ∧ coreK.inbox = [] ∧
    ({ coreK with inbox := [[1]] } : CoreSt).inbox = [1] :: [] ∧ busy.last 0 = none ∧
    (let l : Last := { windows := [⟨7, true, 0, 0, 0, 0, 1, false, 0, 0, 0, 0, 0, 64, 0, 1⟩] }
     (plotSt 0 { active := some l } []).last 0 = some l ∧ ∃ w ∈ l.windows, w.win = 7) ∧
    (let l : Last := { windows := [⟨7, true, 0, 0, 0, 0, 1, false, 0, 0, 0, 0, 0, 64, 0, 1⟩] }
     (plotSt 0 { active := some l } []).last 0 = some l ∧ ∀ w ∈ l.windows, w.win ≠ 8) ∧
    (28 : Fin 64).val < 29 ∧ 34 ≤ (34 : Fin 64).val ∧ 29 ≤ (29 : Fin 64).val := by decide +kernel
theorem witness_CoprocessorOperations :
    (let k : CoreSt := { coreK with next := 8, cop := [⟨3, 9, 0, 12, 0⟩, ⟨4, 9, 0, 13, 1⟩] }
     (⟨3, 9, 0, 12, 0⟩ : CopEntry) ∈ k.cop ∧ (∀ d ∈ k.cop, 12 ≤ d.due) ∧ 12 ≤ k.next + 4 ∧
     ∀ d ∈ k.cop, d.due = 12 → d.dest = 3 → d = ⟨3, 9, 0, 12, 0⟩) ∧
    (let k : CoreSt := { coreK with next := 8, cop := [⟨3, 9, 0, 13, 0⟩] }
     ∀ e ∈ k.cop, k.next + 4 < e.due ∧ busy.cycle < e.due) := by decide +kernel
/-- A bundle that retires, one with an exception, one too late; with END, with a store, with results of each kind; a register
named twice, two conditions. -/
theorem witness_CoreBundleRetires :
    (let k : CoreSt := { coreK with next := 996 }; t0.deadline ≤ k.issueCycle 0 + 4) ∧
    (let k : CoreSt := { coreK with next := 995, bundle := { exc := 9 } }; k.issueCycle 0 + 4 < t0.deadline ∧ k.bundle.exc ≠ 0) ∧
    (let k : CoreSt := { coreK with next := 995, bundle := { stores := [(0, 64, [1, 2])]
                                                             writes := [.g 3 7, .load 4 0 64 4 0, .find .max 5 6 0 64 true 0 0 0] } }
     k.issueCycle 0 + 4 < t0.deadline ∧ k.bundle.exc = 0 ∧ hasDup k.bundle.dests = false ∧ k.bundle.clash = false ∧
     k.bundle.isEnd = false ∧ (busy.core 0).dma = [] ∧ (k.bundle.writes.flatMap RegWrite.gs).Nodup ∧
     RegWrite.load 4 0 64 4 0 ∈ k.bundle.writes ∧ RegWrite.find .max 5 6 0 64 true 0 0 0 ∈ k.bundle.writes ∧
     k.bundle.branch = none ∧ k.bundle.flow = .seq ∧ k.loops = [] ∧ k.bundle.loop = none) ∧
    (let k : CoreSt := { coreK with bundle := { dests := [3, 3] } }
     k.issueCycle 0 + 4 < t0.deadline ∧ k.bundle.exc = 0 ∧ hasDup k.bundle.dests = true) ∧
    (let k : CoreSt := { coreK with bundle := { conds := [(true, 1), (false, 1)] } }; k.bundle.clash = true) ∧
    (let k : CoreSt := { coreK with bundle := { isEnd := true } }
     k.issueCycle 0 + 4 < t0.deadline ∧ hasDup k.bundle.dests = false ∧ k.bundle.clash = false ∧ k.bundle.isEnd = true) ∧
    ((coreOp (.coreEnd 0 ctl1)).any fun e => e.1 = 0 && e.2.1 = ctl1) = true ∧
    ({ ctl1 with hw := { fetch := .uncorrectable } } : SlotCtl).hw.fetch = .uncorrectable ∧
    ({ ctl1 with hw := { parity := true } } : SlotCtl).hw.fetch = .clean := by decide +kernel
/-- A state with that task in plot 0's active last. -/
def tasked : State := { plotSt 0 { active := some { tasks := [t0] } } [] with holdings := busy.holdings }
theorem witness_CoreTasksScrubAndMessages :
    (tasked.findTask 0 1 = some t0 ∧ (tasked.task 0 1).started = false ∧ (tasked.task 0 1).failStart = false ∧ t0.kind ≠ 2 ∧
      (tasked.core t0.core).run = none) ∧
    ((tasked.modTask 0 1 fun t => { t with failStart := true }).task 0 1).failStart = true ∧
    tasked.findTask 0 2 = none ∧ ((tasked.modTask 0 1 fun t => { t with started := true }).task 0 1).started = true ∧
    (busy.core 0).run = some ⟨t0, 0⟩ ∧ (tasked.core 0).run = none ∧ busy.corePlot 0 = some 0 ∧ busy.corePlot 5 ≠ some 0 ∧
    (List.replicate 16 (0 : Byte)).length = 16 ∧ ([] : List Byte).length ≠ 16 ∧
    (let k : CoreSt := { posted := [⟨5, []⟩, ⟨0, []⟩], inbox := List.replicate 63 [] }
     (k.posted.find? fun m => decide (m.due ≤ 0)) = some ⟨0, []⟩ ∧ k.inbox.length < 64) ∧
    (let k : CoreSt := { posted := [⟨0, []⟩], inbox := List.replicate 64 [] }
     (k.posted.find? fun m => decide (m.due ≤ 0)) = some ⟨0, []⟩ ∧ 64 ≤ k.inbox.length) ∧
    (∀ m ∈ ({ posted := [⟨1, []⟩] } : CoreSt).posted, 0 < m.due) := by decide +kernel
theorem witness_TaskStartClearsRegisters :
    (tasked.findTask 0 1 = some t0 ∧ (tasked.task 0 1).started = false ∧ (tasked.task 0 1).failStart = false ∧
      (t0.kind ≠ 2 ∨ tasked.reg (Reg.lastActiveSince 0) = tasked.tick)) ∧
    (let t : Task := { t0 with kind := 2 }; let s := plotSt 0 { active := some { tasks := [t] } } []
     s.findTask 0 1 = some t ∧ (s.task 0 1).started = false ∧ s.reg (Reg.lastActiveSince 0) = s.tick) := by decide +kernel

/-! Filter chain units and array renderer. -/

/-- A group with one biquad of eight lanes, and a state that holds it in plot 0 at tick 10. -/
def grp0 : FcuGroup := ⟨0, 0, 255, 1, 0, 100, 0, true, 4, [⟨1, 0, 0, false, false, 0, 0, 5, 0⟩]⟩
def grpS (f : GrpSt → GrpSt) : State := { State.reset with tick := 10, groups := [(grpKey 0 0, f { rec_ := some grp0 })] }
theorem witness_FilterChainUnitCommands :
    (let s := grpS id; let g := s.grp (grpKey 0 0)
     g.rec_ = some grp0 ∧ g.plot = (0 : Fin 16).val ∧ [(1 : Int), -1].length ≤ 4096 ∧ g.bank ≤ 1 ∧ 38 + [(1 : Int), -1].length ≤ 16384 ∧
       g.swapAt = none ∧ g.switchAt = none ∧ g.fading = false ∧
       (∀ i < 2, grp0.stages.any (fun st => st.usesCoef (38 + i)) = true) ∧
       (0 < 66 ∧ s.actTick ≤ 66 / (6 * grp0.inMult) + 1 ∧ 66 / (6 * grp0.inMult) ≤ s.tick + 16777216)) ∧
    ((grpS fun g => { g with fading := true }).grp (grpKey 0 0)).fading = true ∧
    (let s := grpS id; let g := s.grp (grpKey 0 0)
     g.plot ≠ (1 : Fin 16).val ∧ 0 < grp0.inMult ∧ 0 < s.actTick ∧ s.actTick ≤ s.tick + 16777216 ∧
       65 / (6 * grp0.inMult) + 1 < s.actTick ∧ s.tick + 16777216 < 100663362 / (6 * grp0.inMult)) ∧
    (let s := grpS fun g => { g with swapAt := some 1 }; let g := s.grp (grpKey 0 0)
     g.swapAt ≠ none ∧ 1 / (6 * grp0.inMult) + 1 ≤ s.tick) ∧
    (let g := (grpS fun g => { g with ran := true }).grp (grpKey 0 0); g.rec_ = some grp0 ∧ g.ran = true) ∧
    (let s := grpS id; s.fcuScrub ≤ 19 ∧ 19 < s.fcuScrub + 512 ∧ grp0.usesWord (19 * 2) = true ∧ grp0.usesWord (20 * 2) = false) ∧
    (let s := grpS fun g => { g with swapAt := some 55 }; let g := s.grp (grpKey 0 0)
     g.rec_ = some grp0 ∧ g.swapAt = some 55 ∧ g.ran = false ∧ 55 / (6 * grp0.inMult) + 1 = s.tick ∧ grp0.xf = true) ∧
    (let g := (grpS fun g => { g with fadeDone := true }).grp (grpKey 0 0); g.rec_ = some grp0 ∧ g.fadeDone = true) := by
  decide +kernel

/-- A crosspoint of plot 0 with both regions, its input, and a last with them. -/
def xp0 : AreXp := ⟨5, 0, 0, false, false, false, true, 2, 64, some 0, some 64, 32, 32, 0, 8⟩
def areL : Last := { areXps := [xp0], areIns := [⟨0, 1, 0, 64⟩] }
def areS (f : PlotSt → PlotSt) (set : SetSt) (x : AreXpSt → AreXpSt) : State :=
  { plotSt 0 (f { active := some areL }) [(Reg.areSwapSets 0, 4)] with
    tick := 10, areXps := [(5, x { rec_ := some xp0 })], areSets := NTable.put {} [] 2 set }
/-- One record of an ARE image: crosspoint 5, tap 0, one coefficient, EXP kept. -/
def areImg : List Byte := [5, 0, 0, 0, 0, 0, 0, 0, 1, 0, 0, 0, 255, 0, 0, 0, 1, 0, 0, 0, 0, 0, 0, 0]
theorem witness_RendererCoefficientCommands :
    (let s := areS id {} id
     s.ownXp 0 5 = some xp0 ∧ xp0.off (1 - (s.areXp 5).bank) = some 64 ∧ [(1 : Int)] ≠ [] ∧ 63 + [(1 : Int)].length ≤ xp0.taps ∧
       (s.areSet 0 xp0.set).state = 0 ∧ (54 ≤ 54 ∧ (s.modXp 5 fun x => x.setExp (1 - x.bank) 48).boundOk 0 xp0.output = true) ∧
       (s.plot 0).areImage = none) ∧
    (let s := areS id ⟨1, 20⟩ id
     s.ownXp 0 5 = some xp0 ∧ xp0.off (1 - (s.areXp 5).bank) = some 64 ∧ (s.areSet 0 xp0.set).state ≠ 0) ∧
    (let w : CoefWrite := ⟨1, 64, 7, 2, 9, false⟩
     let s := areS (fun x => { x with areFifo := [w] }) {} id
     [w] = ((s.plot 0).areFifo.takeWhile fun w => decide (w.tick < s.tick)).take 4096 ∧ (s.plot 0).areWrote = false) ∧
    ((areS (fun x => { x with areWrote := true }) {} id).plot 0).areWrote = true ∧
    (let s := areS (fun x => { x with areImage := some areImg }) {} id
     (s.plot 0).areImage = some areImg ∧ parseImage (areImg.length + 1) areImg = some [⟨5, 0, 255, [1]⟩] ∧
       0 + [(1 : Int)].length ≤ xp0.taps ∧ s.boundOk 0 xp0.output = true ∧ (s.areSet 0 xp0.set).state = 0 ∧
       (s.loadExps 0 [⟨5, 0, 255, [1]⟩]).isSome = true ∧ (s.loadExps 0 [⟨5, 64, 255, [1]⟩]).isNone = true) := by decide +kernel
theorem witness_RendererSwapsAndErrors :
    (let s := areS id {} id
     s.nat (Reg.areSwapSets 0) % 256 ≠ 0 ∧ (∀ r ∈ s.xpsOf 0 2, r.off (1 - (s.areXp r.xp).bank) ≠ none) ∧
       s.xpsOf 0 2 = [xp0] ∧ (∀ i < 8, bit (s.nat (Reg.areSwapSets 0) % 256 : Nat) i = true → (s.areSet 0 i).state = 0) ∧
       s.lastCoefTick 0 4 = none ∧ s.actTick - 1 ≤ 11 ∧ 16777226 ≤ s.tick + 16777216) ∧
    (let s := areS id ⟨1, 20⟩ id
     bit (s.nat (Reg.areSwapSets 0) % 256 : Nat) 2 = true ∧ (s.areSet 0 2).state ≠ 0) ∧
    (let s := areS id ⟨1, 9⟩ id
     s.xpsOf 0 2 = [xp0] ∧ ((s.xpsOf 0 2).map (·.xp)).Nodup ∧ (s.areSet 0 2).state = 1 ∧ (s.areSet 0 2).block + 1 ≤ s.tick ∧
       xp0.xf = true) ∧
    (let r := { xp0 with xf := false }
     let s := { areS id ⟨1, 9⟩ id with plots := [(0, { active := some { areL with areXps := [r] } })] }
     s.xpsOf 0 2 = [r] ∧ (s.areSet 0 2).state = 1 ∧ r.xf = false) ∧
    (let s := areS id ⟨1, 10⟩ id; s.tick < (s.areSet 0 2).block + 1) ∧
    (let s := areS id {} fun x => { x with fadePos := some 8 }
     (s.areXp 5).rec_ = some xp0 ∧ (s.areXp 5).fadePos = some 8 ∧ xp0.xfTicks ≤ 8) ∧
    (areS id {} id).inputAt 63 = some (0, areL, ⟨0, 1, 0, 64⟩) ∧ (areS id {} id).inputAt 62 = some (0, areL, ⟨0, 1, 0, 64⟩) ∧
    (areS id {} id).inputAt 64 = none ∧
    (let s := areS id {} id
     s.areLine ≤ 7 ∧ 7 < s.areLine + 1024 ∧ xp0 ∈ areL.areXps ∧ s.readsBank xp0 0 = true ∧ xp0.off 0 = some 0 ∧
       0 < 7 * 8 + 8 ∧ 7 * 8 < 0 + xp0.taps ∧ s.histWord ≤ 31 ∧ 31 < s.histWord + 2048) := by decide +kernel
/-! Mix, trellis and memory, routes, lasts. -/

def mixS : State := { State.reset with holdings := [⟨11, noUnit, 0, 4, 0, none, 0⟩, ⟨12, noUnit, 0, 4, 0, none, 0⟩, ⟨23, noUnit, 0, 4, 0, none, 0⟩] }
theorem witness_MixWritesWaitForTheirBoundary :
    (mixS.holds 0 11 noUnit 3 = true ∧ (-2147483648 : Int) ≤ -2147483648 ∧ (2147483647 : Int) < 2147483648 ∧
      (-2147483649 : Int) < -2147483648 ∧ 2 ≤ 2 ∧ 2 < 3) ∧
    mixS.holds 0 11 noUnit 4 = false ∧ mixS.holds 0 12 noUnit 3 = true ∧ mixS.holds 0 12 noUnit 4 = false ∧
    (let due (s : State) := s.due.filter fun e => isMixReg e.reg && decide (e.tick ≤ s.tick)
     let d : Due := ⟨0, Reg.busGain 3, 100⟩; let m : Due := ⟨0, Reg.busMute 3, 0⟩; let e : Due := ⟨0, Reg.busGain 3, 7⟩
     due { mixS with due := [d, ⟨1, Reg.busMute 3, 1⟩] } = [d] ∧ d.reg.sub ≠ 4 ∧ mixS.timed = [] ∧
     due { mixS with due := [m] } = [m] ∧ m.reg.sub = 4 ∧ m.reg.idx ≠ 0x5300 ∧ m.value = 0 ∧ mixS.reg m.reg = 0 ∧
     (mixS.setReg m.reg 1).reg m.reg ≠ 0 ∧
     (let s := { mixS with due := [d], timed := [⟨0, 0, Reg.busGain 3, [], none⟩] }
      s.inLast d.reg = false ∧ s.timed.any fun q => q.tick == d.tick && q.target == d.reg) ∧
     due { mixS with due := [d, e] } = [d, e] ∧ d.reg = e.reg ∧ e.reg = Reg.busGain 3 ∧
     due { mixS with due := [⟨1, Reg.busMute 3, 1⟩] } = []) := by decide +kernel
theorem witness_DetectorsGeneratorsAndTrackers :
    ((511 : Fin 8192).val / 512 = (0 : Fin 16).val ∧ (-14400 : Int) ≤ -14400 ∧ (0 : Int) ≤ 0 ∧ 1 ≤ 1 ∧ 480000 ≤ 480000 ∧
      (3 / 131072 % 16384 = 0 ∧ sigValid (sigOf 4 3) = true ∧ mixS.sigOwner (sigOf 4 3) = some (0 : Fin 16).val) ∧
      (sigOf 4 4 < 2147483648 ∧ sigValid (sigOf 4 4) = true ∧ mixS.sigOwner (sigOf 4 4) ≠ some (0 : Fin 16).val) ∧
      131072 / 131072 % 16384 ≠ 0) ∧
    (512 : Fin 8192).val / 512 ≠ (0 : Fin 16).val ∧
    (let s := { st [(Reg.silSignal 3, 5), (Reg.silHold 3, 10)] with sils := [(3, ⟨10⟩)] }
     s.reg (Reg.silSignal 3) < 131072 ∧ s.reg (Reg.silHold 3) ≤ ((NTable.get {} s.sils 3 : SilSt).count : Int)) ∧
    (let s := { st [(Reg.silHold 3, 10)] with sils := [(3, ⟨9⟩)] }
     ((NTable.get {} s.sils 3 : SilSt).count : Int) < s.reg (Reg.silHold 3)) ∧
    (mixS.holds 0 23 noUnit 0 = true ∧ 1 ≤ 500 * (mixS.plotMult 0 * Config.baseRate mixS.family) ∧ 4294967295 < 4294967296 ∧
      mixS.holds 0 23 noUnit 4 = false) ∧
    (st [(Reg.trkState 3, 1)]).reg (Reg.trkState 3) = 1 ∧ (st [(Reg.trkState 3, 2)]).reg (Reg.trkState 3) = 2 ∧
    (st [(Reg.trkState 3, 3)]).reg (Reg.trkState 3) = 3 ∧ (st [(Reg.trkState 3, 4)]).reg (Reg.trkState 3) = 4 ∧
    |(100000 : Int) - (State.reset.tracker 3).heldPpb| ≤ 100000 ∧ (100000 : Int) < |(-100001) - (State.reset.tracker 3).heldPpb| := by
  decide +kernel
def win0 : DmaWin := ⟨7, false, 0, 0, 22, 0, 1, false, 8, 0x4000000000, 0, 0, 0, 64, 0, 1⟩
def winS (w : WinSt) : State := { plotSt 0 { active := some { windows := [win0] } } [] with wins := NTable.put {} [] 7 w }
def busRec0 : BusRec := ⟨5, 0, 1, 0, 1, 0, 0, 0, false, false, false, 0⟩
theorem witness_TrellisAndMemoryCommands :
    (((winS {}).last 0).bind fun l => l.windows.find? fun w => decide (w.win = (7 : Fin 256).val)) = some win0 ∧
    ((NTable.get {} (winS {}).wins 7 : WinSt).ran = false ∧ win0.triggered = false ∧ win0.dir = 0 ∧ win0.signal = false) ∧
    (NTable.get {} (winS { ran := true }).wins 7 : WinSt).ran = true ∧
    ({ win0 with dir := 1, wrap := 0 } : DmaWin).dir = 1 ∧
    ((winS { trigger := some 48 }).tick * Config.cyclesPerTick + 64 * 1 = 64 ∧ 48 + 16 ≤ 64 ∧ 64 < 49 + 16) ∧
    ((winS {}).task 0 0).overran = false ∧ ((winS {}).task 0 0).rampUp = false ∧
    (State.reset.trellisReach 0 0x4000000000 = true ∧ plainMemory 0x4000000000 = true) ∧
    (let s := State.reset
     s.trellisReach 18 0x4000000000 = true ∧ targetPort 0x4000000000 = 16 ∧ s.leftoverSlot 16 (s.cycle / 64) ≠ none ∧
     (NTable.get {} s.trellis 16 : TrellisPort).waiting = [] ∧ (NTable.get {} s.trellis 16 : TrellisPort).upTo ≤ s.cycle ∧
     0x4000000000 % 64 + 64 ≤ 64 ∧
     (let s1 := { s with cycle := 64 * 2880 }; s1.leftoverSlot 16 (s1.cycle / 64) = none)) ∧
    State.reset.trellisReach 27 0x4000000000 = false ∧ (0 = 0 ∨ 4 ≤ 0) ∧ (0 = 4 ∨ 4 ≤ 4) ∧ (1 ≤ 3 ∧ 3 ≤ 3) ∧
    ((State.reset.setBus 5 { rec_ := some busRec0 }).bus 5).rec_ = some busRec0 ∧ State.reset.ranTo < busRec0.stop :=
  by refine ⟨by decide +kernel, by decide +kernel, by decide +kernel, by decide +kernel, by decide +kernel, by decide +kernel,
      by decide +kernel, by decide +kernel, by decide +kernel, by decide +kernel, by decide, by decide, by decide,
      by decide +kernel, by decide +kernel⟩
/-- A batch of one route: silence at ARE input 0. -/
def batch0 : List Byte := leBytes 4 40960 ++ leBytes 4 0x80000000 ++ List.replicate 8 0
def routeS (f : PlotSt → PlotSt) : State :=
  { plotSt 0 (f { active := some {} }) [] with holdings := [⟨6, noUnit, 0, 4, 0, none, 0⟩] }
def rt0 : Route := readRoute batch0
theorem witness_RouteEdits :
    (([] : List Byte) = [] ∧ 4096 < (List.replicate 4097 (0 : Byte)).length ∧ (List.replicate 17 (0 : Byte)).length % 16 ≠ 0) ∧
    (batch0 ≠ [] ∧ batch0.length ≤ 4096 ∧ batch0.length % 16 = 0 ∧ State.reset.last 0 = none) ∧
    ((routeS id).last 0 = some {} ∧ (routeS id).checkBatch 0 {} (records 16 batch0) = none) ∧
    (routeS id).checkBatch 1 {} (records 16 batch0) ≠ none ∧
    (let b : RouteBatch := ⟨0, [rt0], false, 0⟩; let s := routeS fun x => { x with batches := [b] }
     (s.plot 0).batches.filter (fun b => decide (b.due ≤ s.tick)) = [b] ∧ b.recheck = false ∧
     s.recheckFail 0 { b with recheck := true } = none ∧ s.recheckFail 1 { b with recheck := true } = some 0 ∧
     (b.routes.map (·.sink)).Nodup ∧ ∀ r ∈ b.routes, (s.sinkSt r.sink).fade = none) ∧
    (let b : RouteBatch := ⟨0, [rt0], false, 0⟩
     let s := { routeS fun x => { x with batches := [b] } with sinks := [(40960, { fade := some {} })] }
     (s.plot 0).batches.filter (fun b => decide (b.due ≤ s.tick)) = [b] ∧ (s.sinkSt rt0.sink).fade ≠ none) ∧
    (let s := { routeS fun x => { x with held := [⟨0, rt0⟩] } with sinks := [(40960, { fade := some {} })] }
     ∀ h ∈ (s.plot 0).held, (s.sinkSt h.route.sink).fade ≠ none) ∧
    (let s := routeS fun x => { x with held := [⟨0, rt0⟩] }
     (s.plot 0).held = [⟨0, rt0⟩] ∧ (s.sinkSt rt0.sink).fade = none) := by decide +kernel
/-- A tick that may be named, one too late and taken, one too far. -/
theorem witness_RouteEdits_ticks :
    let code (t : Nat) (late : Bool) : Nat := match (routeS id).atTick 0 t late with | .ok e => 256 * e.1 + e.2 | .error c => c
    code 2 false = 512 ∧ code 1 true = 513 ∧ code 16777217 false = 0x13 := by decide +kernel
/-- An image with the six sections that must be there, all empty. -/
def img0 : List Byte :=
  let dir := [1, 4, 5, 12, 15, 19].flatMap fun t =>
    leBytes 2 t ++ [1, 0] ++ leBytes 4 320 ++ leBytes 4 0 ++ leBytes 4 (crc32 []) ++ leBytes 4 0xFFFFFFFF ++ List.replicate 12 0
  let h := leBytes 4 0x544C5842 ++ [1, 0] ++ leBytes 2 128 ++ leBytes 4 384 ++ [0, 0, 1, 0] ++ leBytes 8 77 ++
    List.replicate 24 0 ++ leBytes 4 128 ++ leBytes 4 6 ++ List.replicate 68 0
  let b := h ++ leBytes 4 (crc32 h) ++ dir ++ leBytes 4 0x454C5842 ++ List.replicate 28 0
  b ++ sha256 b
def lastS (f : PlotSt → PlotSt) (l : List (Reg × Int)) : State := plotSt 0 (f { staged := some img0 }) l
theorem witness_image_passes : (lastS id []).installFault 0 img0 true 0 = none := by decide +kernel
theorem witness_image_fails : (lastS id []).installFault 1 img0 true 0 = some (11, 0) := by decide +kernel
theorem witness_LastInstallAndCancel :
    ((st []).nat (Reg.lastState 0) < 2 ∧ (st [(Reg.lastState 0, 1)]).nat (Reg.lastState 0) < 2 ∧ (st []).reg (Reg.plotState 0) ≠ 3) ∧
    2 ≤ (st [(Reg.lastState 0, 2)]).nat (Reg.lastState 0) ∧ (st [(Reg.lastState 0, 1)]).reg (Reg.lastState 0) = 1 ∧
    (st []).reg (Reg.lastState 0) ≠ 1 ∧ (st [(Reg.plotState 0, 3)]).reg (Reg.plotState 0) = 3 ∧
    (let s := lastS id [(Reg.lastState 0, 2)]
     s.reg (Reg.lastState 0) = 2 ∧ s.rst.kind = 0 ∧ (s.plot 0).stagedOwner = true ∧ (s.plot 0).wantTick = 0) ∧
    (let s := st [(Reg.lastState 0, 3), (Reg.lastSwapTick 0, 17)]
     s.reg (Reg.lastState 0) = 3 ∧ s.tick + 16 < s.nat (Reg.lastSwapTick 0) ∧ (s.plot 0).late = false ∧ s.swapsTogether = false) ∧
    (let s := st [(Reg.lastState 0, 3), (Reg.lastSwapTick 0, 16)]
     3 ≤ s.reg (Reg.lastState 0) ∧ s.tick ≤ s.nat (Reg.lastSwapTick 0) ∧ s.nat (Reg.lastSwapTick 0) ≤ s.tick + 16) ∧
    (let s := plotSt 0 { partnerOk := true } [(Reg.pairState, 3), (Reg.pairRole, 0), (Reg.lastState 0, 3), (Reg.lastSwapTick 0, 32)]
     s.swapsTogether = true ∧ (s.plot 0).partnerOk = true ∧
       s.tick + (if s.reg Reg.pairRole = 0 then 32 else 16) ≤ s.nat (Reg.lastSwapTick 0)) ∧
    (let s := plotSt 0 { shadow := some { pm := [⟨0, 0, [1, 2, 3, 4, 5, 6, 7, 8]⟩] } } [(Reg.lastState 0, 3)]
     ((s.plot 0).shadow.map fun l => l.pm.length) = some 1 ∧ ((s.plot 0).shadow.map fun l => l.dm.length) = some 0) ∧
    (let s := st [(Reg.pairState, 2), (Reg.graftPhase, 4), (Reg.pairRole, 0), (Reg.lastState 0, 3), (Reg.lastSwapTick 0, 31)]
     s.swapsTogether = true ∧ s.reg Reg.pairRole = 0 ∧ s.reg Reg.pairState = 2 ∧
       s.nat (Reg.lastSwapTick 0) < s.tick + (if s.reg Reg.pairRole = 0 then 32 else 16)) ∧
    (let s := st [(Reg.pairState, 3), (Reg.pairRole, 1), (Reg.lastState 0, 3), (Reg.lastSwapTick 0, 15)]
     s.swapsTogether = true ∧ s.reg Reg.pairRole ≠ 0 ∧ s.reg (Reg.lastState 0) = 3 ∧
       s.nat (Reg.lastSwapTick 0) < s.tick + (if s.reg Reg.pairRole = 0 then 32 else 16)) := by
  decide +kernel
/-- The two clauses of the checks, at a state that installs and at one that does not. -/
theorem witness_LastInstallAndCancel_checks : ∃ (s : State) (b : List Byte), s.reg (Reg.lastState 0) = 2 ∧ s.rst.kind = 0 ∧
    (s.plot 0).staged = some b ∧ s.installFault 0 b (s.plot 0).stagedOwner (s.plot 0).wantTick = none :=
  ⟨lastS id [(Reg.lastState 0, 2)], img0, by decide +kernel, rfl, rfl, by decide +kernel⟩
theorem witness_LastInstallAndCancel_fails : ∃ (s : State) (b : List Byte), s.reg (Reg.lastState 0) = 2 ∧ s.rst.kind = 0 ∧
    (s.plot 0).staged = some b ∧ s.installFault 0 b (s.plot 0).stagedOwner (s.plot 0).wantTick = some (1, 0) :=
  ⟨plotSt 0 { staged := some [] } [(Reg.lastState 0, 2)], [], by decide +kernel, rfl, rfl, by decide +kernel⟩
theorem witness_LastTakesEffectAtItsTick :
    (let s := { plotSt 0 { shadow := some {} } [(Reg.lastState 0, 4), (Reg.lastSwapTick 0, 9)] with tick := 9 }
     (s.plot 0).shadow = some {} ∧ 3 ≤ s.reg (Reg.lastState 0) ∧ s.tick = s.nat (Reg.lastSwapTick 0) ∧ s.reg (Reg.lastState 0) = 4 ∧
       ({ s with tick := 8 } : State).tick < s.nat (Reg.lastSwapTick 0) ∧
       s.nat (Reg.lastSwapTick 0) < ({ s with tick := 10 } : State).tick) ∧ ((st []).plot 0).shadow = none := by decide +kernel

/-! Time and network. -/

theorem witness_TimeCounterCommands :
    (1998 * 281474976710656 ≤ 1000 * 562949953421312 ∧ 1000 * 562949953421312 ≤ 2002 * 281474976710656) ∧
    (st [(Reg.timeServoMode, 1), (Reg.timeMode, 0)]).hostServo = true ∧ (st [(Reg.timeServoMode, 1), (Reg.timeMode, 1)]).hostServo = false ∧
    1000 * 562386976710656 < 1998 * 281474976710656 ∧ 2002 * 281474976710656 < 1000 * 563512909374734 ∧
    (2 ^ 63 : Int) ≤ 2 ^ 63 ∧ ((-2 ^ 63 : Int) ≤ -2 ^ 63 ∧ (2 ^ 63 - 1 : Int) < 2 ^ 63) ∧
    (999999999 < 1000000000 ∧ 1000000000 ≤ 1000000000) ∧ State.reset.anyLast = false ∧
    (plotSt 15 { active := some {} } []).anyLast = true ∧
    (let s := { State.reset with clk := { steps := [(0, -5), (1, 2)], sets := [(1, 3)] } }
     (s.clk.steps.filter fun e => decide (e.1 ≤ s.tick)) = [(0, -5)] ∧ (s.clk.sets.filter fun e => decide (e.1 ≤ s.tick)) = []) ∧
    (let s := { State.reset with clk := { sets := [(0, 7)] } }
     (s.clk.steps.filter fun e => decide (e.1 ≤ s.tick)) = [] ∧ (s.clk.sets.filter fun e => decide (e.1 ≤ s.tick)) = [(0, 7)]) ∧
    (let s := { State.reset with clk := { steps := [(1, 2)], sets := [(1, 3)] } }
     (∀ e ∈ s.clk.steps, s.tick < e.1) ∧ ∀ e ∈ s.clk.sets, s.tick < e.1) := by
  decide +kernel
/-- A chip whose PTP unit is a boundary clock with port 3, slave only. -/
def ptpS (c : ClkSt) : State := { st [(Reg.ptpRole, 2), (Reg.ptpPortEn 3, 1), (Reg.ptpSlaveOnly, 1)] with clk := c }
theorem witness_PtpUnitCommands :
    (3 ≤ 3 ∧ 3 < 4 ∧ 2 ≤ 2 ∧ 2 < 3) ∧ ((ptpS {}).ptpPort 3 = true ∧ (ptpS {}).mayMaster = false) ∧
    (let f : Foreign := ⟨3, 1, 1, 2, 6, 33, 5, 128, 128, 0⟩; let g : Foreign := ⟨3, 2, 1, 2, 7, 33, 5, 128, 128, 0⟩
     (∀ h ∈ (ptpS { foreign := [g] }).clk.foreign, lexLt f.key h.key = true) ∧
     (let s := ptpS { parent := some f }
      s.clk.parent = some f ∧ f.port = (3 : Fin 25).val ∧ (∀ h, s.clk.parent = some h → h.port ≠ 3 ∨ h.srcId ≠ 9 ∨ h.srcPort ≠ 1))) ∧
    (ptpS {}).ptpPort 4 = false ∧ (3 : Fin 25).val ≠ 24 ∧ (24 : Fin 25).val = 24 ∧
    (let s := { st [(Reg.servoState, 2)] with clk := { servoIn := 16 } }; s.reg Reg.servoState = 2 ∧ 16 ≤ s.clk.servoIn) ∧
    (let s := { st [(Reg.servoState, 4)] with clk := { servoIn := 15 } }; s.reg Reg.servoState = 4 ∧ s.clk.servoIn < 16) ∧
    (let s := { st [(Reg.servoState, 3)] with clk := { servoOut := 4 } }; s.reg Reg.servoState = 3 ∧ 4 ≤ s.clk.servoOut) ∧
    (let s := { st [(Reg.servoState, 3)] with clk := { servoOut := 3 } }; s.clk.servoOut < 4) ∧
    (let s := st [(Reg.ptpRole, 1), (Reg.ptpSlaveOnly, 0)]; s.mayMaster = true ∧ s.clk.parent = none ∧ s.ptpPort 24 = true) ∧
    (let s := st [(Reg.ptpRole, 2), (Reg.ptpPortEn 3, 1), (Reg.ptpSlaveOnly, 0)]; s.ptpPort 3 = true ∧ s.ptpPortNow 3 = 6) := by
  refine ⟨by decide, by decide +kernel, ⟨by decide +kernel, by decide +kernel, by decide +kernel, ?_⟩, by decide +kernel, by decide, by decide,
    by decide +kernel, by decide +kernel, by decide +kernel, by decide +kernel, by decide +kernel, by decide +kernel⟩
  intro h e; cases e; decide
/-- Pin 2 held by plot 0. -/
def tevS (x : TevSt) (l : List (Reg × Int)) : State :=
  { st l with tevs := [(2, x)], holdings := [⟨28, noUnit, 2, 1, 0, none, 0⟩] }
/-- A START at 3 us. -/
def start3us : List Byte := [1, 0, 0, 0, 0, 0] ++ leBytes 10 (3000 * 65536)
theorem witness_TevPinCommands :
    (tevS {} []).holds 0 28 noUnit 2 = true ∧ (tevS {} []).holds 0 28 noUnit 3 = false ∧ (3 ≤ 3 ∧ 3 < 4) ∧
    (tevS {} []).tevBatchCode 2 [] ≠ 0 ∧
    (∃ b ∈ [[1, 0] ++ leBytes 14 (3000 * 65536), start3us, [1, 0] ++ leBytes 4 3000 ++ List.replicate 10 0,
      [1, 0, 0, 0] ++ leBytes 4 3000 ++ List.replicate 8 0, [1, 0, 0, 0] ++ leBytes 12 (3000 * 65536)],
      (tevS {} []).tevBatchCode 2 b = 0) ∧
    (let s := tevS {} [(Reg.tevMode 2, 1), (Reg.tevEdge 2, 1)]
     s.reg (Reg.tevMode 2) = 1 ∧ s.nat (Reg.tevEdge 2) % 2 = 1 ∧ s.nat (Reg.tevEdge 2) < 2 ∧ s.ownPin (128 + (2 : Fin 24).val) = true ∧
       (s.tev 2).lastEdge = none ∧ (s.tev 2).caps.length < 32) ∧
    (let s := tevS { lastEdge := some 10 } [(Reg.tevMode 2, 1), (Reg.tevEdge 2, 2)]
     2 ≤ s.nat (Reg.tevEdge 2) ∧ (s.tev 2).lastEdge = some 10 ∧ 10 + 8 ≤ 18 ∧ 17 < 10 + 8) ∧
    (tevS {} []).reg (Reg.tevMode 2) ≠ 1 ∧
    (let s := tevS { caps := List.replicate 32 [] } []; 32 ≤ (s.tev 2).caps.length) ∧
    (let a : TevAct := ⟨1, 0, []⟩; let s := tevS { acts := [a] } []
     (s.tev 2).acts = [a] ∧ a.time / 65536 * 4294967296 < s.boundaryTime (s.tick + 1) ∧ a.kind = 1 ∧ s.reg (Reg.tevState 2) ≠ 1) ∧
    (let a : TevAct := ⟨2, 0, []⟩; let s := tevS { acts := [a] } [(Reg.tevState 2, 1)]
     (s.tev 2).acts = [a] ∧ a.kind = 2 ∧ s.reg (Reg.tevState 2) = 1) ∧
    (let s := tevS { acts := [⟨1, 200000 * 65536, []⟩] } []
     ∀ a ∈ (s.tev 2).acts, s.boundaryTime (s.tick + 1) ≤ a.time / 65536 * 4294967296) ∧
    (let s := tevS { train := some (0, 0) } [(Reg.tevPeriod 2, 1000)]
     (s.tev 2).train = some (0, 0) ∧ s.trainDone 2 1 = false ∧ s.edgeTime 2 0 0 * 4294967296 < s.boundaryTime (s.tick + 1) ∧
       (s.setReg (Reg.tevCount 2) 1).trainDone 2 2 = true ∧ s.boundaryTime (s.tick + 1) ≤ s.edgeTime 2 (200000 * 65536) 0 * 4294967296) ∧
    ((tevS {} []).tev 2).train = none := by
  decide +kernel
def portS (x : PortSt) (l : List (Reg × Int)) : State := { st l with net := { ports := [(9, x)] } }
def frame (q : Nat) : QFrame := { q, body := List.replicate 60 0, len := 64, enq := 0, stamp := 0, launch := some 1000 }
def up9 : List (Reg × Int) := [(Reg.netLink 9, 1), (Reg.netMode 9, 4), (Reg.netSpeed 9, 1000)]
theorem witness_FramesLeaveAndDrop :
    (let s := { portS { queue := [frame 7] } (up9 ++ [(Reg.launchWindow 9, 500)]) with
       plots := [(0, { active := some { gates := [⟨9, 1000, 8000⟩] } })] }
     let s1 := s.pump 9 1500
     (s1.port 9).head 7 = some (frame 7) ∧ (frame 7).launch.getD 0 = 1000 ∧ 1000 ≤ 1500 ∧ 1500 ≤ 1000 + s.nat (Reg.launchWindow 9) ∧
       (s1.port 9).busy ≤ 1500 ∧ s1.reg (Reg.netLink 9) = 1 ∧ s1.mayStart 9 7 1500 (frame 7) = true ∧ (frame 7).ingress = none ∧
       (s.port 9).queue.filter (fun f => f.q == 7 && decide (f.launch.getD 0 + s.nat (Reg.launchWindow 9) < 1501)) = [frame 7]) ∧
    ((portS {} up9).pump 9 0).port 9 = {} ∧
    (let s := portS { queue := [frame 5] } up9
     (s.port 9).queue = [frame 5] ∧ (frame 5).q < 7 ∧ max (s.port 9).busy (frame 5).enq ≤ 10 ∧ s.reg (Reg.netLink 9) = 1 ∧
       s.mayStart 9 (frame 5).q (max (s.port 9).busy (frame 5).enq) (frame 5) = true) ∧
    (let s := portS { queue := [frame 5] } [(Reg.brMaxResidence, 1)]
     let s1 := s.pump 9 1001
     s.reg (Reg.netLink 9) ≠ 1 ∧ (s1.port 9).queue.filter (fun f => decide (f.q < 7) && f.first.isNone &&
       decide (f.stamp + s.nat Reg.brMaxResidence * 1000 < 1001)) = [frame 5]) ∧
    (let s := { portS { wire := some { frame 5 with len := 2000 }, busy := 8000 } (up9 ++ [(Reg.netPreemptState 9, 2), (Reg.netPreempt 9, 32)]) with
       blobs := [(Reg.netBaseGcl 9, leBytes 4 8 ++ [0x7F, 0, 0, 0] ++ leBytes 4 8 ++ [0, 0, 0, 0] ++ leBytes 4 8 ++ [0x7F, 0, 0, 0])] }
     let s1 := s.pump 9 0
     (s1.port 9).wire = some { frame 5 with len := 2000 } ∧ 0 < (s1.port 9).busy ∧ s1.gateClose 9 5 0 = some 8 ∧
       8 ≤ 0 + (s1.wireNs 9 139 + 7) / 8 * 8 ∧ s1.preemptable 9 5 = true ∧
       max (2000 + 20 - ((s1.port 9).busy - 0) * s1.portSpeed 9 / 8000) (0 + 64) + 64 ≤ 2000) := by decide +kernel
/-- A template: IPv4 without options, UDP. -/
def udpHead : List Byte := List.replicate 12 0 ++ [8, 0, 0x45] ++ List.replicate 8 0 ++ [17] ++ List.replicate 18 0
theorem witness_NetPortConfiguration :
    (st [(Reg.netLink 9, 1)]).reg (Reg.netLink 9) = 1 ∧ (portS {} []).port 9 = {} ∧
    (modeOk 9 4 = true ∧ modeOk 9 1 = false ∧ modeOk 7 2 = true ∧ modeOk 8 5 = true ∧ State.reset.reg (Reg.netLink 9) ≠ 1) ∧
    (portS { changing := true } []).port 9 = { changing := true } ∧
    (let s := st [(Reg.netMode 9, 4)]; s.reg (Reg.netLink 9) = 0 ∧ s.nat (Reg.netMode 9) = 4) ∧
    (let s := portS {} up9; s.reg (Reg.netLink 9) = 1 ∧ (s.port 9).queue = []) ∧
    ((List.replicate 15 (0 : Byte)).length ≠ 16 ∧
      (List.range 24).foldl (fun a m => if m = 9 then a else a + (List.range 8).foldl (fun a q => a + State.reset.queueCells m q) 0) 0 +
        (List.range 8).foldl (fun a q => a + leAt (List.replicate 16 (0 : Byte)) (2 * q) 2) 0 ≤ 16384 ∧
      16384 < (List.range 8).foldl (fun a q => a + leAt (List.replicate 16 (255 : Byte)) (2 * q) 2) 0) ∧
    (State.reset.gclOk 9 (leBytes 4 8 ++ [0x7F, 0, 0, 0]) = true ∧ State.reset.gclOk 9 [] = false) ∧
    (let s := portS { gclNext := some (0, []) } []; (s.port 9).gclNext = some (0, []) ∧ 0 ≤ s.tick ∧ s.tick < 1) ∧
    (8 ≤ (8 : Fin 24).val ∧ (st [(Reg.netMode 8, 4)]).nat (Reg.netMode 8) = 4 ∧ 127 < 128 ∧ 128 ≤ 128 ∧ (7 : Fin 24).val < 8) ∧
    (st [(Reg.netPreemptState 9, 1)]).reg (Reg.netPreemptState 9) = 1 ∧ segHead [] = none ∧
    ((segHead udpHead).isSome = true ∧ 6 ≤ 6 ∧ 64 ≤ 64 ∧ 9000 ≤ 9000 ∧ (List.replicate 64 (0 : Byte)).length ≤ 64 ∧
      udpHead.length + min 64 64 + 4 ≤ 9216 ∧ 6 < 7 ∧ 63 < 64) ∧
    bit ((st [(Reg.synceTxMask, 512)]).reg Reg.synceTxMask) 9 = true ∧
    (let s := portS { esmcAt := some 0 } []; (s.port 9).esmcAt = some 0 ∧ 0 + 5000000000 ≤ 5000000000 ∧ 4999999999 < 0 + 5000000000) ∧
    (let s := portS { esmcSent := some (0, 0) } []; (s.port 9).esmcSent = some (0, 0) ∧ 0 ≠ s.esmcQl 9) ∧
    (let s := portS { esmcSent := some (11, 0) } []
     (s.port 9).esmcSent = some (11, 0) ∧ 11 = s.esmcQl 9 ∧ s.timeNs < 0 + 1000000000) := by decide +kernel

/-! Streams, frames, tables, serial ports, power stages. -/

/-- A leg on port 3, VID 1. -/
def leg3 : List Byte := [3, 1, 1, 0] ++ List.replicate 28 0
/-- Stream 5, whose plot is 0: one channel at 48 kHz in AVTP 16-bit, received in H and sent in S. -/
def strS (legs : Bool) (l : List (Reg × Int)) : State :=
  { st ([(Reg.rxRate 5, 48000), (Reg.rxChannels 5, 1), (Reg.rxFormat 5, 3), (Reg.txRate 5, 48000), (Reg.txChannels 5, 1),
      (Reg.txFormat 5, 3), (Reg.txDomain 5, 1), (Reg.sBase, 48000)] ++ l) with
    holdings := [⟨18, noUnit, 5, 1, 0, none, 0⟩, ⟨19, noUnit, 5, 1, 0, none, 0⟩, ⟨20, 2, 0, 8, 0, none, 0⟩, ⟨20, 3, 0, 8, 0, none, 0⟩,
      ⟨9, noUnit, 0, 65536, 0, none, 0⟩]
    blobs := if legs then [(Reg.rxLeg0 5, leg3), (Reg.txLeg0 5, leg3)] else [] }
theorem witness_StreamsStartAndStop_requests :
    State.reset.streamPlot true 5 ≠ some 0 ∧ State.reset.streamPlot false 5 ≠ some 0 ∧
    (strS true []).streamPlot true 5 = some 0 ∧ (strS true []).streamPlot false 5 = some 0 ∧
    ((strS true []).reg (streamRegs true 5).1 = 0 ∧ (strS true []).rxCode 0 5 = none ∧ (strS false []).rxCode 0 5 = some 0x10) ∧
    ((strS true []).reg (streamRegs false 5).1 = 0 ∧ (strS true []).txCode 0 5 = none ∧ (strS false []).txCode 0 5 = some 0x10) ∧
    ((strS true [(Reg.rxState 5, 3)]).reg (streamRegs true 5).1 = 3 ∧ (strS true [(Reg.rxState 5, 1)]).reg (streamRegs true 5).1 = 1 ∧
      (strS true [(Reg.rxState 5, 2)]).reg (streamRegs true 5).1 ≠ 1) := by decide +kernel
/-- What of `l` is due at tick `k`, and what is not. -/
def dueAt (l : List (Nat × Bool)) (k : Nat) : List (Nat × Bool) × List (Nat × Bool) :=
  (l.filter (fun e => decide (e.1 ≤ k)), l.filter (fun e => !decide (e.1 ≤ k)))
theorem witness_StreamsStartAndStop_due :
    dueAt [(0, true), (9, false)] 0 = ([(0, true)], [(9, false)]) ∧ dueAt [(0, false)] 0 = ([(0, false)], []) ∧
    dueAt [(0, true), (0, false), (7, true)] 0 = ([(0, true), (0, false)], [(7, true)]) ∧ dueAt [(1, true)] 0 = ([], [(1, true)]) := by decide +kernel
theorem witness_StreamsStartAndStop :
    (let s := { strS true [(Reg.rxState 5, 1)] with rxs := [(5, { acts := [(0, true), (9, false)] })] }
     s.streamActs true 5 = [(0, true), (9, false)] ∧ s.tick = 0 ∧ s.reg (streamRegs true 5).1 = 1 ∧
       s.reg (streamRegs true 5).1 ≠ 2 ∧ s.reg (streamRegs true 5).1 ≠ 3) ∧
    ((strS true [(Reg.rxState 5, 2)]).reg (streamRegs true 5).1 = 2 ∧ (strS true [(Reg.rxState 5, 3)]).reg (streamRegs true 5).1 = 3 ∧
      (strS true []).reg (streamRegs true 5).1 ≠ 1 ∧ (strS true []).reg (streamRegs true 5).1 ≠ 2 ∧
      (strS true []).reg (streamRegs true 5).1 ≠ 3) ∧
    (let s := { strS true [(Reg.txState 5, 3)] with txs := [(5, { stopT := some 0 })], tick := 1 }
     (s.tx 5).stopT = some 0 ∧ s.reg (streamRegs false 5).1 = 3 ∧ 0 + 1 ≤ s.tick) ∧
    (let s := { strS true [(Reg.txState 5, 3)] with txs := [(5, { stopT := some 1 })], tick := 1 }
     (s.tx 5).stopT = some 1 ∧ s.tick ≤ 1) ∧ ((strS true []).tx 5).stopT = none ∧ ((strS true []).rx 5).stopT = none := by decide +kernel
/-- A tick a stream may be started at, none or named. -/
theorem witness_StreamsStartAndStop_tick :
    let code (a : Option (Nat × Bool)) : Nat := match State.reset.actAt 0 a with | .ok e => 256 * e.1 + e.2 | .error c => c
    code none = 512 ∧ code (some (2, false)) = 512 ∧ code (some (1, true)) = 513 ∧ code (some (16777217, false)) = 0x13 := by decide +kernel
theorem witness_StreamPlayOut :
    (let s := { strS true [(Reg.rxState 5, 2), (Reg.rxLinkOffset 5, 4)] with tick := 4 }
     s.reg (Reg.rxState 5) = 2 ∧ s.reg (Reg.rxDomain 5) = 0 ∧ (s.rx 5).closed = false ∧ s.nat (Reg.rxLinkOffset 5) ≤ s.tick) ∧
    (let v : List RxSample := (List.range 6).map fun (i : Nat) => { v := (i : Int) }
     let s := { strS true [(Reg.rxState 5, 2), (Reg.rxLinkOffset 5, 0), (Reg.rxNonaudio 5, 0)] with
       rxs := NTable.put {} [] 5 { samples := (List.range 6).foldl (fun t i => NTable.put none t (sampleKey i 0) (some { v := (i : Int) })) [] } }
     0 < s.nat (Reg.rxChannels 5) ∧ s.reg (Reg.rxNonaudio 5) = 0 ∧ s.reg (Reg.rxNaState 5) = 0 ∧ (s.rx 5).pairs = [] ∧
       (s.rx 5).rampUp = false ∧ (s.rx 5).stopT = none ∧ s.rxBlock 5 0 (s.tick - s.nat (Reg.rxLinkOffset 5)) = v.map some) ∧
    State.reset.reg (Reg.rxState 5) ≠ 2 ∧ (strS true [(Reg.rxDomain 5, 1)]).reg (Reg.rxDomain 5) ≠ 0 ∧
    (({ State.reset with rxs := [(5, { closed := true })] } : State).rx 5).closed = true ∧
    (st [(Reg.rxLinkOffset 5, 4)]).tick < (st [(Reg.rxLinkOffset 5, 4)]).nat (Reg.rxLinkOffset 5) := by decide +kernel
/-- A frame to 02:00:00:00:00:01, in VLAN 1 by the port's PVID. -/
def ethF : RxFrame := ⟨[2, 0, 0, 0, 0, 1] ++ List.replicate 6 2 ++ [8, 0] ++ List.replicate 46 0, true, 1000, 1500, 0, false⟩
/-- A frame to the reserved address 01-80-C2-00-00-03. -/
def ethR : RxFrame := { ethF with data := [0x01, 0x80, 0xC2, 0, 0, 3] ++ List.replicate 6 2 ++ [8, 0] ++ List.replicate 46 0 }
/-- Ports 4 and 9 up and in VLAN 1, the address known on port `p`, port 4 busy; the port learns. -/
def brS (p : Nat) : State :=
  { st [(Reg.netLink 9, 1), (Reg.netLink 4, 1), (Reg.netPvid 9, 1), (Reg.vlanMember 1, 528), (Reg.netPcpMap 9, 0), (Reg.netLearn 9, 1),
      (Reg.vlanLearn 1, 1)] with
    net := { ports := [(4, { busy := 2000 })], fdb := [{ mac := [2, 0, 0, 0, 0, 1], fid := 0, port := p }] } }
theorem witness_ForwardedFrames :
    State.reset.reg (Reg.netLink 9) ≠ 1 ∧ (brS 4).reg (Reg.netLink 9) = 1 ∧ ethF.fcsOk = true ∧ ethF.mmErr = false ∧
    ({ ethF with mmErr := true } : RxFrame).mmErr = true ∧
    ({ ethF with data := List.replicate 59 0 } : RxFrame).data.length < 60 ∧
    9212 < ({ ethF with data := List.replicate 9213 0 } : RxFrame).data.length ∧ ({ ethF with fcsOk := false } : RxFrame).fcsOk = false ∧
    (ethR.data.take 5 = [0x01, 0x80, 0xC2, 0x00, 0x00] ∧ leAt ethR.data 5 1 = 3 ∧ ethR.data.length = 60 ∧ (ethHead ethR.data).ty ≠ 0x8808) ∧
    (st [(Reg.netPvid 9, 1), (Reg.vlanMember 1, 0)]).member 1 9 = false ∧ (st [(Reg.netPvid 9, 1), (Reg.vlanMember 1, 0)]).vidOf 9 (ethHead ethF.data) = (1, 0) ∧
    (60 ≤ ethF.data.length ∧ ethF.data.length ≤ 9212 ∧ ethF.data.take 5 ≠ [0x01, 0x80, 0xC2, 0x00, 0x00] ∧ (ethHead ethF.data).ty ≠ 0x8808 ∧
      (brS 4).nat (Reg.netAccept 9) = 0 ∧ (brS 4).vidOf 9 (ethHead ethF.data) = (1, 0) ∧ (brS 4).member 1 9 = true ∧
      (brS 4).ptpTrap 9 ethF.data = false ∧ isGroup (ethHead ethF.data).dst = false) ∧
    (∃ e, (brS 4).fdbFind (ethHead ethF.data).dst ((brS 4).nat (Reg.vlanFid 1)) = some e ∧ e.port ≠ (9 : Fin 24).val ∧ e.port < 24 ∧
      (brS 4).member 1 e.port = true ∧ (brS 4).reg (Reg.netLink e.port) = 1 ∧ ((brS 4).port e.port).queue = [] ∧
      ethF.last < ((brS 4).port e.port).busy ∧ (brS 4).nat (Reg.netPcpMap 9) / 16 ^ 0 % 8 < 7 ∧
      cellsOf (max 64 (((brS 4).egressForm e.port 1 0 (ethHead ethF.data) ethF.data).length + 4)) ≤ (brS 4).queueCells e.port 0) ∧
    (∃ e, (brS 9).fdbFind (ethHead ethF.data).dst ((brS 9).nat (Reg.vlanFid 1)) = some e ∧ e.port = (9 : Fin 24).val) := by
  refine ⟨by decide +kernel, by decide +kernel, rfl, rfl, rfl, by decide +kernel, by decide +kernel, rfl, by decide +kernel,
    by decide +kernel, by decide +kernel, by decide +kernel,
    ⟨{ mac := [2, 0, 0, 0, 0, 1], fid := 0, port := 4 }, by decide +kernel⟩, ⟨{ mac := [2, 0, 0, 0, 0, 1], fid := 0, port := 9 }, by decide +kernel⟩⟩
/-- A static record of 02:00:00:00:00:01 on port 4; a multicast record. -/
def rec1 : List Byte := [2, 0, 0, 0, 0, 1, 0, 0, 4] ++ List.replicate 7 0
def mrec : List Byte := [3, 0, 0, 0, 0, 1, 0, 0, 16] ++ List.replicate 7 0
def fdbS (l : List FdbEntry) : State := { State.reset with net := { fdb := l } }
/-- Eight keys of one bucket: no way is left for the ninth, that of the zero record. -/
def full8 : List FdbEntry :=
  [((21, 95) : Byte × Byte), (42, 190), (63, 225), (79, 181), (90, 234), (101, 11), (112, 84), (138, 217)].map fun x =>
    { mac := [0, 0, 0, 0, x.1, x.2], fid := 0, port := 1 }
theorem witness_ForwardingTables_learn :
    (let v : LearnEv := ⟨0, 3, [2, 0, 0, 0, 0, 9], 0⟩; let w : LearnEv := ⟨8, 3, [2, 0, 0, 0, 0, 9], 0⟩
     let s := { State.reset with net := { learn := [w, v] } }
     sortBy learnLe s.net.learn = v :: [w] ∧ v.time + 2000 ≤ 2000 ∧ 1999 < v.time + 2000 ∧ s.fdbFind v.mac v.fid = none ∧
       fdbRoom s.net.fdb v.mac v.fid = true) ∧
    (fdbRoom full8 [0, 0, 0, 0, 0, 0] 0 = false ∧ (fdbS full8).fdbFind [0, 0, 0, 0, 0, 0] 0 = none) ∧
    (let v : LearnEv := ⟨0, 3, [2, 0, 0, 0, 0, 9], 0⟩; let e : FdbEntry := { mac := v.mac, fid := 0, port := 3 }
     let f : FdbEntry := { e with port := 5, moves := 15 }; let g : FdbEntry := { f with static := true }
     let h : FdbEntry := { f with pinned := true }
     ((fdbS [e]).fdbFind v.mac v.fid = some e ∧ e.port = v.port) ∧
     ((fdbS [f]).fdbFind v.mac v.fid = some f ∧ f.port ≠ v.port ∧ f.static = false ∧ f.pinned = false ∧ f.moves < 16) ∧
     ((fdbS [g]).fdbFind v.mac v.fid = some g ∧ g.static = true) ∧ ((fdbS [h]).fdbFind v.mac v.fid = some h ∧ h.pinned = true)) ∧
    State.reset.net.learn = [] ∧
    (let e : FdbEntry := { mac := [2, 0, 0, 0, 0, 9], fid := 0, port := 3, moves := 3, window := some 0 }
     e ∈ (fdbS [e]).net.fdb ∧ e.pinned = false ∧ 0 + 1000000000 ≤ 1000000000) ∧
    (let e : FdbEntry := { mac := [2, 0, 0, 0, 0, 9], fid := 0, port := 3, pinned := true }
     e ∈ (fdbS [e]).net.fdb ∧ e.pinAt + (fdbS [e]).nat Reg.brFlapHold * 1000000000 ≤ 3600000000000) ∧
    (let e : FdbEntry := { mac := [2, 0, 0, 0, 0, 9], fid := 0, port := 3, visited := some 0 }
     let s := { fdbS [e] with clk := { phase := 150 * 1000000000 * 4294967296 } }
     s.fdbFind [2, 0, 0, 0, 0, 9] 0 = some e ∧ e.static = false ∧ s.reg Reg.brAgeTime ≠ 0 ∧
       0 + s.nat Reg.brAgeTime * 500000000 ≤ s.timeNs ∧ (st [(Reg.brAgeTime, 0)]).reg Reg.brAgeTime = 0) := by decide +kernel
theorem witness_ForwardingTables_batches :
    (records 16 rec1 = [rec1] ∧ rec1.length % 16 = 0 ∧ [rec1].all fdbRecordOk = true ∧ (addStatics [] [rec1]).isSome = true) ∧
    (addStatics full8 [List.replicate 16 0] = none ∧ fdbRecordOk (List.replicate 16 0) = true) ∧
    (records 16 ([] : List Byte) = [] ∧ (rec1 ++ [0]).length % 16 ≠ 0 ∧ 256 < (records 16 (List.replicate 4112 0)).length) ∧
    (let e : FdbEntry := { mac := [2, 0, 0, 0, 0, 1], fid := 0, port := 4, static := true }; e.is (rec1.take 6) (leAt rec1 6 1) = true) ∧
    (∀ e ∈ State.reset.net.fdb, e.is (rec1.take 6) (leAt rec1 6 1) = false) ∧
    (records 16 mrec = [mrec] ∧ [mrec].all mcRecordOk = true) ∧ (addMc [] [mrec]).toOption.isSome = true ∧
    (addMc [{ mac := [3, 0, 0, 0, 0, 1], fid := 0, ports := 16, engine := true }] [mrec]).toOption.isSome = false ∧
    (let e : McEntry := ⟨[3, 0, 0, 0, 0, 1], 0, 16, false, true⟩; e.mac = mrec.take 6 ∧ e.fid = leAt mrec 6 1) ∧
    (∀ e ∈ State.reset.net.mc, e.mac ≠ mrec.take 6 ∨ e.fid ≠ leAt mrec 6 1) := by decide +kernel
/-- Serial port 3 of plot 0. -/
def sapS (x : SapSt) (l : List (Reg × Int)) : State :=
  { st ([(Reg.sapRate 3, 48000), (Reg.sapFormat 3, 1), (Reg.sapSlots 3, 2), (Reg.sapSlotBits 3, 32), (Reg.sapDataBits 3, 24)] ++ l) with
    saps := [(3, x)], holdings := [⟨26, noUnit, 3, 1, 0, none, 0⟩] }
/-- What of `l` is due at tick `k`, and what is not. -/
def sapDue (l : List (Nat × Bool × Bool)) (k : Nat) : List (Nat × Bool × Bool) × List (Nat × Bool × Bool) :=
  (l.filter (fun e => decide (e.1 ≤ k)), l.filter (fun e => !decide (e.1 ≤ k)))
theorem witness_SerialPortCommands_due :
    sapDue [(0, true, false), (4, false, true)] 0 = ([(0, true, false)], [(4, false, true)]) ∧
    sapDue [(0, false, true)] 0 = ([(0, false, true)], []) ∧ sapDue [(1, true, false)] 0 = ([], [(1, true, false)]) := ⟨rfl, rfl, rfl⟩
theorem witness_SerialPortCommands :
    State.reset.sapPlot 3 ≠ some 0 ∧ (sapS {} []).sapPlot 3 = some 0 ∧
    ((sapS {} []).reg (Reg.sapState 3) = 0 ∧ (sapS {} []).sapCode 0 3 = none ∧ (sapS {} [(Reg.sapSlots 3, 3)]).sapCode 0 3 = some 0x10) ∧
    (let s := sapS { acts := [(0, true, true)] } []; (s.sap 3).acts = [(0, true, true)] ∧ s.tick = 0 ∧ s.reg (Reg.sapState 3) = 0 ∧
      s.sapCode ((s.sapPlot 3).getD 16) 3 = none) ∧
    ((sapS {} [(Reg.sapState 3, 3)]).reg (Reg.sapState 3) = 3 ∧ (sapS {} [(Reg.sapState 3, 2)]).reg (Reg.sapState 3) = 2 ∧
      (sapS {} [(Reg.sapState 3, 1)]).reg (Reg.sapState 3) = 1 ∧ (sapS {} [(Reg.sapState 3, 4)]).reg (Reg.sapState 3) ≠ 2) ∧
    (let s := sapS { left := 0 } [(Reg.sapState 3, 1)]; (s.sap 3).left = 0 ∧ s.cycle = 0 ∧ ({ s with cycle := 1 } : State).cycle ≠ 0) ∧
    ((sapS { left := 1 } [(Reg.sapState 3, 1)]).sap 3).left ≠ 0 ∧
    (let s := sapS { gDir := 2 } [(Reg.sapState 3, 3)]; s.reg (Reg.sapState 3) = 3 ∧
      gainPos (s.sap 3).gPos (s.sap 3).gLen (s.sap 3).gDir (if s.sapH 3 then s.cycle * s.sapN 3 / 192000 else 0) = 0) ∧
    (let s := sapS { gPos := 9, gLen := 9, gDir := 2 } [(Reg.sapState 3, 3)]
     gainPos (s.sap 3).gPos (s.sap 3).gLen (s.sap 3).gDir (if s.sapH 3 then s.cycle * s.sapN 3 / 192000 else 0) ≠ 0) ∧
    (let s := sapS {} [(Reg.sapState 3, 4)]; s.reg (Reg.sapState 3) = 4 ∧ (s.sap 3).left = 0) ∧
    (let s := sapS {} [(Reg.sapState 3, 2), (Reg.sapClock 3, 1)]
     s.reg (Reg.sapState 3) ≠ 0 ∧ s.sapSlave 3 = true ∧ (s.sap 3).lost = false ∧ s.nat (Reg.sapRateClass 3) = 0 ∧
       (s.sap 3).lastFrame + 125000 ≤ 125000) ∧
    (let s := sapS {} [(Reg.sapState 3, 4), (Reg.sapClock 3, 1), (Reg.sapRateClass 3, 48000)]
     s.reg (Reg.sapState 3) = 4 ∧ s.sapSlave 3 = true ∧ s.nat (Reg.sapRateClass 3) ≠ 0 ∧
       4000000000 ≤ (125000 - (s.sap 3).lastFrame) * s.nat (Reg.sapRateClass 3)) ∧
    (sapS {} []).sapSlave 3 = false ∧ ((sapS { lost := true } []).sap 3).lost = true := by decide +kernel
/-- A valid frame of an AES3 receiver. -/
def okA : AesFrame := ⟨true, true, (false, false), false⟩
theorem witness_SerialFramesAndNonaudio :
    ((sapS {} []).sapAes 3 = false ∧ (sapS {} []).reg (Reg.sapState 3) = 0) ∧
    (let s := sapS {} [(Reg.sapState 3, 2), (Reg.sapFormat 3, 3)]; s.sapAes 3 = true ∧
      okA.valid = true) ∧
    (let s := sapS {} [(Reg.sapState 3, 2)]
     s.sapAes 3 = false ∧ s.reg (Reg.sapState 3) ≠ 0 ∧ s.reg (Reg.sapDomain 3) = 0 ∧ s.sapSlave 3 = false ∧ s.sapHz 3 ≠ 0 ∧
       s.sapSplit 3 = false ∧ s.ownPin 3 = true) ∧ (sapS {} [(Reg.sapDomain 3, 2)]).reg (Reg.sapDomain 3) = 2 ∧
    (let s := { st [(Reg.rxNaState 5, 2)] with rxs := [(5, { pairs := [(1, { fired := some 0 })] })], tick := 8000 }
     (NTable.get {} (s.rx 5).pairs 1 : PairNa).fired = some 0 ∧ bit (s.reg (Reg.rxNaState 5)) 1 = true ∧ 0 + 8000 ≤ s.tick ∧
       ({ s with tick := 7999 } : State).tick < 0 + 8000) ∧
    (let s := { st [(Reg.sapNaState 5, 2)] with saps := [(5, { pairs := [(1, { fired := some 0 })] })], tick := 8000 }
     (NTable.get {} (s.sap 5).pairs 1 : PairNa).fired = some 0 ∧ bit (s.reg (Reg.sapNaState 5)) 1 = true ∧ 0 + 8000 ≤ s.tick) ∧
    (NTable.get {} (State.reset.sap 5).pairs 1 : PairNa).fired = none ∧ bit (State.reset.reg (Reg.rxNaState 5)) 1 = false := by
  decide +kernel
/-- Power-stage channel 4 of plot 0. -/
def pscS (x : PscSt) (l : List (Reg × Int)) : State := { st l with pscs := [(4, x)], holdings := [⟨27, noUnit, 4, 2, 0, none, 0⟩] }
theorem witness_PowerStageRequests :
    State.reset.pscPlot 4 ≠ some 0 ∧ (pscS {} []).pscPlot 4 = some 0 ∧ (pscS {} []).pscLead 4 = (4 : Fin 64).val ∧
    ((pscS {} [(Reg.pscFlags 4, 1)]).pscPlot 5 = some 0 ∧ (pscS {} [(Reg.pscFlags 4, 1)]).pscLead 5 ≠ (5 : Fin 64).val) ∧
    (pscS {} []).pscCode 0 4 = none ∧ (pscS {} [(Reg.pscFlags 4, 2)]).pscCode 0 4 = some 0x10 ∧
    (pscS {} [(Reg.pscState 4, 6)]).reg (Reg.pscState 4) = 6 ∧ (pscS {} []).reg (Reg.pscState 4) ≠ 6 ∧
    ((List.replicate 12 (2147483647 : Int)).length = 12 ∧ ∀ w ∈ List.replicate 12 (-2147483648 : Int), -2147483648 ≤ w ∧ w < 2147483648) ∧
    (List.replicate 11 (0 : Int)).length ≠ 12 ∧ (∃ w ∈ List.replicate 12 (2147483648 : Int), w < -2147483648 ∨ 2147483648 ≤ w) ∧
    ((pscS {} []).psc 4).swapAt = none ∧ (pscS {} []).actTick ≤ 2 ∧ 1 < (pscS {} []).actTick ∧
    (let s := pscS { swapAt := some 0 } []; (s.psc 4).swapAt = some 0 ∧ 0 ≤ s.tick) ∧
    (let s := pscS { swapAt := some 1 } []; (s.psc 4).swapAt = some 1 ∧ s.tick < 1) ∧
    (let code (a : Option (Nat × Bool)) : Nat := match (pscS {} []).actAt 0 a with | .ok e => 256 * e.1 + e.2 | .error c => c
     code none = 512 ∧ code (some (16777217, false)) = 0x13) := by decide +kernel
def hot : List (Reg × Int) := [(Reg.pscThermTrip 4, 100), (Reg.pscTemp 4, 2500)]
/-- What every clause of a boundary asks of its channel. -/
def cool (x : PscSt) (l : List (Reg × Int)) : Bool :=
  let s := pscS x (hot ++ l)
  s.due.isEmpty && decide (s.pscs = [((4 : Fin 64).val, x)]) && decide (s.pscLead 4 = (4 : Fin 64).val) && !x.braced && !x.sensor &&
    decide (s.reg (Reg.pscTemp 4) < 100 * s.reg (Reg.pscThermTrip 4)) && !bit (s.reg (Reg.pscFlags 4)) 2 && x.again.isNone && !x.cstop
theorem witness_PowerStageControl_boundary :
    cool { acts := [(0, true, false)] } [] = true ∧ (pscS {} hot).reg (Reg.pscState 4) = 0 ∧
    (let l := [(Reg.pscState 4, 1)]; cool { acts := [(0, false, true)] } l = true ∧ (pscS {} (hot ++ l)).reg (Reg.pscState 4) = 1) ∧
    (let l := [(Reg.pscState 4, 3)]; cool { acts := [(0, false, true)] } l = true ∧ (pscS {} (hot ++ l)).reg (Reg.pscState 4) = 3) ∧
    (cool {} [(Reg.pscState 4, 1)] = true ∧ (let s := { pscS {} [(Reg.pscState 4, 1)] with tick := 1 }
      (s.psc 4).startB + 1 ≤ s.tick ∧ (s.psc 4).trip = none ∧ (s.psc 4).acts = [])) ∧
    (cool {} [(Reg.pscState 4, 2)] = true ∧ (let s := { pscS {} [(Reg.pscState 4, 2)] with tick := 8 }
      (s.psc 4).startB + 8 ≤ s.tick)) ∧
    (cool {} [(Reg.pscState 4, 4)] = true ∧ ({} : PscSt).gsTick.gsPos = 0) ∧
    (cool { clear := true } [(Reg.pscState 4, 6)] = true) ∧
    (let x : PscSt := { trip := some 1 }; cool x [(Reg.pscState 4, 3)] = true ∧ x.trip = some 1 ∧ (1 : Nat) ≠ 3 ∧ x.acts = []) ∧
    (State.reset.pscs = [] ∧ State.reset.blob (Reg.pscTsCal (4 * (3 : Fin 16).val)) = []) := by decide +kernel
theorem witness_PowerStageControl :
    (let s := pscS { k := 383 } [(Reg.pscDutyMax 4, 0), (Reg.pscState 4, 4)]
     s.pscLead 4 = (4 : Fin 64).val ∧ s.reg (Reg.pscState 4) ≠ 0 ∧ (s.psc 4).k < 384 ∧ 0 ≤ s.reg (Reg.pscDutyMax 4) ∧
       s.reg (Reg.pscState 4) = 4 ∧ (s.psc 4).hard = false) ∧ 384 ≤ ((pscS { k := 384 } []).psc 4).k ∧
    (pscS {} [(Reg.pscFlags 4, 1)]).pscLead 5 ≠ (5 : Fin 64).val ∧
    (let s := pscS {} [(Reg.pscState 4, 1)]; (4 : Nat) = s.pscLead 4 ∧ 1 ≤ s.reg (Reg.pscState 4) ∧ s.reg (Reg.pscState 4) ≤ 4) ∧
    (4 < (pscS {} [(Reg.pscState 4, 6)]).reg (Reg.pscState 4) ∧ (pscS {} []).reg (Reg.pscState 4) < 1) ∧
    (let s := pscS {} [(Reg.pscState 4, 6), (Reg.pscFault 4, 2)]
     s.reg (Reg.pscState 4) = 6 ∧ s.reg (Reg.pscFault 4) = 2 ∧ (s.psc 4).latched = false ∧ (s.psc 4).noRestart = false ∧
       (s.psc 4).restartAt ≤ s.tick ∧ s.cycle = 0) ∧ (pscS { restartAt := 1 } []).tick < ((pscS { restartAt := 1 } []).psc 4).restartAt ∧
    ((pscS { latched := true } []).psc 4).latched = true ∧ ((pscS { noRestart := true } []).psc 4).noRestart = true ∧
    (let s := pscS { cstop := true } []; (s.psc 4).cstop = true ∧ (s.psc 4).toDorm = false) ∧ ((pscS {} []).psc 4).cstop = false ∧
    ((pscS { cstop := true, toDorm := true } []).psc 4).toDorm = true ∧
    (let s := pscS {} [(Reg.pscPilot 4, 1), (Reg.pscState 4, 3)]
     s.reg (Reg.pscPilot 4) ≠ 0 ∧ s.reg (Reg.pscState 4) = 3 ∧ s.tick % s.tps = 0) ∧ (pscS {} []).reg (Reg.pscPilot 4) = 0 ∧
    (let s := { pscS {} [(Reg.pscPilot 4, 2), (Reg.pscState 4, 3)] with tick := 1 }; s.tick % (s.tps / 10) ≠ 0) := by decide +kernel

/-! Plots. -/

/-- Bed bytes 4096 to 8191, as an assignment record and as a holding. -/
def bedRec : List Byte := [9, 0, 255, 255] ++ leBytes 4 4096 ++ leBytes 4 4096 ++ leBytes 4 0
def bedHold : Holding := ⟨9, noUnit, 4096, 4096, 0, none, 0⟩
theorem witness_GrantsReleasesAndQuotas_batches :
    (let s := st [(Reg.quota 0 7, 4096)]
     records 16 bedRec = [bedRec] ∧ s.reg (Reg.plotState 0) ≠ 3 ∧ s.reg (Reg.lastState 0) ≠ 2 ∧ bedRec ≠ [] ∧ bedRec.length ≤ 4096 ∧
       bedRec.length % 16 = 0 ∧ s.grantFault 0 0 [] [bedRec] = none ∧
       (st [(Reg.quota 0 7, 4095)]).grantFault 0 0 [] [bedRec] = some (0x12, 0) ∧
       ({ s with holdings := [bedHold] } : State).releaseFault 0 0 [] [bedRec] = none ∧ s.releaseFault 0 0 [] [bedRec] = some (0x14, 0)) ∧
    (bedRec ++ [0]).length % 16 ≠ 0 ∧ 4096 < (List.replicate 4112 (0 : Byte)).length ∧
    (st [(Reg.plotState 0, 3)]).reg (Reg.plotState 0) = 3 ∧ (st [(Reg.lastState 0, 2)]).reg (Reg.lastState 0) = 2 ∧
    (let l := [(0, bedHold), (1, bedHold)]
     l.filter (fun e => decide (e.1 ≤ 0)) = [(0, bedHold)] ∧ l.filter (fun e => !decide (e.1 ≤ 0)) = [(1, bedHold)]) ∧
    (let s := plotSt 0 { releases := [(0, bedHold), (1, bedHold)] } []
     (s.plot 0).releases = [(0, bedHold), (1, bedHold)] ∧ s.tick = 0 ∧ bedHold.plot = (0 : Fin 16).val ∧ stopKind bedHold.kind = false) ∧
    stopKind 18 = true ∧ (({ bedHold with kind := 27 } : Holding).parts).length = 2048 := by decide +kernel
theorem witness_GrantsReleasesAndQuotas :
    (let h := { bedHold with scrub := some (3, false) }; let s := { State.reset with holdings := [h], tick := 3 }
     h ∈ s.holdings ∧ h.kind = 9 ∧ 3 ≠ 0 ∧ 3 ≤ s.tick ∧ s.unitStopped h = true ∧ 3 < 4) ∧
    (let h : Holding := ⟨18, noUnit, 5, 1, 0, some (3, true), 0⟩; (st [(Reg.rxState 5, 2)]).unitStopped h = false ∧
      State.reset.unitStopped h = true) ∧
    (let s := { State.reset with holdings := [bedHold] }
     1 ≤ (16 : Fin 256).val ∧ (16 : Fin 256).val ≤ 16 ∧ s.holdingOf 0 7 ≤ 4096 ∧ 4095 < s.holdingOf 0 7 ∧ 16 < (17 : Fin 256).val) ∧
    (let l : Last := { claims := [⟨7, 4096⟩] }; let s := plotSt 0 { shadow := some l } [(Reg.lastState 0, 3)]
     (s.plot 0).shadow = some l ∧ s.reg (Reg.lastState 0) = 3 ∧ ∃ k ∈ l.claims, k.code = (7 : Fin 256).val ∧ 4095 < k.amount) ∧
    ((State.reset.plot 0).trimAt = none ∧ (let s := plotSt 0 { trimAt := some 1 } []; (s.plot 0).trimAt = some 1 ∧ s.tick < 1)) ∧
    (let s := plotSt 0 { trimAt := some 0, active := some { claims := [⟨7, 1⟩] } } [(Reg.quota 0 7, 0)]
     (s.plot 0).trimAt = some 0 ∧ s.last 0 = some { claims := [⟨7, 1⟩] } ∧
       ∃ x ∈ [(⟨7, 1⟩ : Claim)], s.reg (Reg.quota 0 x.code) < x.amount) ∧
    (let s := { plotSt 0 { trimAt := some 0, active := some { claims := [⟨7, 0⟩] } } [(Reg.quota 0 7, 0), (Reg.overMask 0, 128)] with holdings := [bedHold] }
     0 ≤ s.tick ∧ s.last 0 = some { claims := [⟨7, 0⟩] } ∧ (∀ x ∈ [(⟨7, 0⟩ : Claim)], (x.amount : Int) ≤ s.reg (Reg.quota 0 x.code)) ∧
       ((List.range 17).filter fun c => bit (s.reg (Reg.overMask 0)) c) = [7] ∧ s.excess 0 7 = [bedHold]) := by decide +kernel
theorem witness_PlotReset :
    (let s := plotSt 0 { resets := [(0, true)] } []; ∃ e ∈ (s.plot 0).resets, e.1 ≤ s.tick) ∧
    (let s := plotSt 0 { resets := [(1, true)] } []; ∀ e ∈ (s.plot 0).resets, s.tick < e.1) ∧
    (let s := { st [(Reg.plotState 0, 3)] with holdings := [bedHold, { bedHold with scrub := some (9, false) }, { bedHold with scrub := some (0, true) }] }
     s.reg (Reg.plotState 0) = 3 ∧ ∀ h ∈ s.holdings, h.plot = (0 : Fin 16).val → h.scrub = none ∨ h.scrub = some (9, false) ∨ h.scrub = some (0, true)) ∧
    (State.reset.reg (Reg.plotState 0) ≠ 3 ∧ ({ bedHold with scrub := some (9, true) } : Holding).scrub = some (9, true)) := by
  refine ⟨⟨(0, true), by decide +kernel⟩, by decide +kernel, by decide +kernel, by decide +kernel⟩
theorem witness_PlotReset_tick :
    let code (t : Nat) (late : Bool) : Nat := match State.reset.atTick 16 t late with | .ok e => 256 * e.1 + e.2 | .error c => c
    code 2 false = 512 ∧ code 1 true = 513 ∧ code 1 false = 0x15 := by decide +kernel
theorem witness_HandoffsAndKeys :
    (hoWord 0 0 = none ∧ hoWord 0 (65536 + 8191) = some (8191, 1)) ∧
    State.reset.holds 0 20 15 8191 = false ∧ ({ State.reset with holdings := [⟨20, 15, 8191, 1, 0, none, 0⟩] } : State).holds 0 20 15 8191 = true ∧
    ({ State.reset with auths := [⟨8191, 0, 1, none, none, false, false⟩] } : State).inForce 8191 0 1 = true ∧
    (State.reset.inForce 8191 0 1 = false ∧ State.reset.inForce 8191 1 0 = false) ∧
    (let a : Auth := ⟨8191, 0, 15, none, some 0, false, false⟩
     a.index = (8191 : Fin 8192).val ∧ a.withdrawAt = some 0 ∧ a.producer < 16 ∧ a.consumer < 16 ∧ 0 ≤ State.reset.tick ∧ State.reset.tick < 1) ∧
    ((List.replicate 32 (1 : Byte)).length = 32 ∧ State.reset.reg (Reg.plotState 0) = 0 ∧ (st [(Reg.plotState 0, 1)]).reg (Reg.plotState 0) ≠ 0) ∧
    (let s := { State.reset with sessions := [(3, { open_ := true, role := 0, plot := 0 }), (4, { open_ := true, role := 1, plot := 0 })] }
     s.who (some 3) = some (0, 0) ∧ s.who (some 4) = some (1, (0 : Fin 16).val) ∧ s.who (some 5) = none ∧ s.who none = none) := by decide +kernel
/-- A meter record of generator signal 0, which plot 0 holds. -/
def mtr0 : List Byte := leBytes 4 (sigOf 6 0)
def mtrS (x : PlotSt) : State := { plotSt 0 x [] with holdings := [⟨7, noUnit, 0, 1, 0, none, 0⟩] }
theorem witness_Meters :
    ((mtrS {}).meterCode 0 mtr0 = none ∧ 8 = (((mtrS {}).plot 0).periodPend.map fun e => e.2).getD ((mtrS {}).plot 0).meterP ∧ (mtrS {}).meterCode 0 [] = some 0x10 ∧
      State.reset.meterCode 0 mtr0 = some 0x11) ∧ (1 ≤ 1 ∧ 1000 ≤ 1000 ∧ 1000 < 1001) ∧
    (let s := mtrS { meterPend := some (0, [sigOf 6 0]), periodPend := some (8, 4) }
     (s.plot 0).meterPend.filter (fun e => decide (e.1 ≤ s.tick)) = some (0, [sigOf 6 0]) ∧
       (s.plot 0).periodPend.filter (fun e => decide (e.1 ≤ s.tick)) = none ∧
       [sigOf 6 0].all (s.mayMeter 0) = true ∧ [sigOf 6 1].all (s.mayMeter 0) = false) ∧
    (let s := mtrS { meterDone := some (0, false, []) }; (s.plot 0).meterDone = some (0, false, [])) ∧
    ((mtrS {}).plot 0).meterDone = none := by decide +kernel

/-! The tick, writes, clocks, the log. -/

/-- Serial slot 0 of port 0, routed to silence; its plot 0 has a last. -/
def sdo0 : SigId := sigOf 1 0
def tickS (half : Bool) : State :=
  { plotSt 0 { active := some { half := half }, routes := [⟨sdo0, 0, true, 0, false, false, false⟩] } [(Reg.pairState, 0)] with
    holdings := [⟨26, noUnit, 0, 1, 0, none, 0⟩], staged := [(sdo0, [1])] }
theorem witness_TickMoments :
    ({ State.reset with rst := { kind := 2, phase := 3 } } : State).planeDown = true ∧ State.reset.planeDown = false ∧
    State.reset.paired = false ∧ (∀ e ∈ State.reset.trellis, e.2.waiting = []) ∧
    (let u := ((tickS true).trellisTo Config.halfDeadline).advanceTo Config.halfDeadline
     (tickS true).planeDown = false ∧ (∀ q < 16, q ≠ 0 → u.stagesAt true q = false) ∧ u.stagesAt true 0 = true ∧
       u.stagedSinks 0 = [sdo0] ∧ u.reg Reg.pairState = 0 ∧ u.producers 0 sdo0 = []) ∧
    (let u := ((tickS false).trellisTo Config.fullDeadline).advanceTo Config.fullDeadline; u.stagesAt false 0 = true) ∧
    (let s := tickS true; NTable.wf [] s.staged = true ∧ (sdo0, [1]) ∈ s.staged ∧ s.txLive = [] ∧ s.sinkHalf sdo0 = true ∧ s.hasRoute sdo0 = true ∧
       s.leavesLast sdo0 = false) ∧
    ({ plotSt 0 { active := some {}, resets := [(1, false)] } [] with holdings := [⟨26, noUnit, 0, 1, 0, none, 0⟩] } : State).leavesLast sdo0 = true := by
  decide +kernel
/-- An object without a meaning of its own, REF_PRIO of REFIN 2, as the gardener role writes it; an untimed one. -/
def w16 : Writer := { role := 0, plot := 255 }
theorem witness_ObjectWrites_plain :
    (let r : Reg := ⟨0x2110, 3, 2⟩; let v : List Byte := [9]; let s := State.reset
     (findObj 0x2110 3).any (fun o => o.acc == 1 && decide (o.ty < 13) && o.timed && bit (rightsOf o 0x2110 3 : Int) 1 &&
       (s.valueCode o r v == 0)) = true ∧ isSelector 0x2110 3 = false ∧ s.paired = false ∧
       (s.writeLast w16 r v 9).isNone ∧ (s.writeCompute w16 r v 9).isNone ∧ (s.writePlot w16 r v 9).isNone ∧
       (s.writeTime w16 r v 9).isNone ∧ (s.writeNet w16 r v 9).isNone ∧ (s.writeAudio w16 r v 9).isNone ∧ (s.writeChip w16 r v 9).isNone) ∧
    (let r : Reg := ⟨0x2210, 3, 0⟩; let v : List Byte := [1]; let s := State.reset
     (findObj 0x2210 3).any (fun o => o.acc == 1 && decide (o.ty < 13) && !o.timed && bit (rightsOf o 0x2210 3 : Int) 1 &&
       (s.valueCode o r v == 0)) = true ∧ s.busyUnit r = none ∧ s.breaksRoute r 1 = false ∧ isSelector 0x2210 3 = false ∧
       (s.writeLast w16 r v 1).isNone ∧ (s.writeCompute w16 r v 1).isNone ∧ (s.writePlot w16 r v 1).isNone ∧
       (s.writeTime w16 r v 1).isNone ∧ (s.writeNet w16 r v 1).isNone ∧ (s.writeAudio w16 r v 1).isNone ∧ (s.writeChip w16 r v 1).isNone) := by
  decide +kernel
theorem witness_ObjectWrites :
    findObj 0 0 = none ∧ (findObj 0x1000 1).any (fun o => o.acc != 1) = true ∧
    ((leBytes 2 300).length = 2 ∧ 1 ≤ leAt (leBytes 2 1) 0 2 ∧ leAt (leBytes 2 300) 0 2 ≤ 300 ∧ leAt (leBytes 2 0) 0 2 = 0 ∧
      300 < leAt (leBytes 2 301) 0 2 ∧ (leBytes 4 10).length ≠ 2) ∧
    ((leBytes 4 511).length = 4 ∧ leAt (leBytes 4 511) 0 4 ≤ 511 ∧ State.reset.paired = false ∧ (15 : Fin 17).val = (15 : Fin 16).val ∧
      (15 : Fin 17).val < 16 ∧ (14 : Fin 17).val ≠ (15 : Fin 16).val) ∧
    (findObj 0x4001 3).any (fun o => o.acc == 4 && decide (o.ty < 13)) = true ∧
    (let s := { State.reset with buses := [(3, { rec_ := some ⟨3, 0, 1, 0, 1, 0, 0, 0, false, false, false, 0⟩ })] }; s.inLast ⟨0x4001, 3, 3⟩ = true ∧ s.inLast ⟨0x4001, 3, 4⟩ = false) ∧
    plotBound 0x4001 = true ∧ State.reset.regPlot ⟨0x4001, 3, 3⟩ ≠ some 0 := by decide +kernel
theorem witness_ObjectWrites_mgmt :
    (let s := st [(Reg.pairRole, 1), (Reg.pairState, 3)]; s.reg Reg.pairRole = 1 ∧ s.reg Reg.pairState = 3) ∧
    (let s := st [(Reg.pairRole, 1), (Reg.pairState, 2), (Reg.graftPhase, 3)]; s.reg Reg.pairState = 2 ∧ 3 ≤ s.reg Reg.graftPhase) ∧
    (st [(Reg.pairState, 2), (Reg.graftPhase, 2)]).reg Reg.graftPhase < 3 ∧ State.reset.reg Reg.pairState ≠ 3 ∧
    (findObj 0x1200 2).any (fun o => o.acc != 4 && !ownsTick o 0x1200 2) = true ∧ State.reset.reg Reg.pairRole ≠ 1 := by decide +kernel
theorem witness_ReferenceCommands :
    ((2 : Fin 15).val ≠ 13 ∧ (st [(Reg.refEnable 2, 1)]).reg (Reg.refEnable 2) ≠ 0 ∧ (31 : Fin 32).val ≠ 0 ∧ (0 : Fin 32).val = 0) ∧
    (let s := st [(Reg.refState 2, 1), (Reg.refEnable 2, 1), (Reg.refGradeMode 2, 1), (Reg.refGradeFix 2, 3)]
     s.reg (Reg.refState 2) = 1 ∧ s.refGradeNow 2 ≠ 15 ∧ (2 : Fin 15).val ≠ 14) ∧
    (let s := st [(Reg.refFault 2, 16), (Reg.refEnable 2, 1), (Reg.refGradeMode 2, 1), (Reg.refGradeFix 2, 15)]
     s.reg (Reg.refEnable 2) = 1 ∧ s.refGradeNow 2 = 15 ∧ bit (s.nat (Reg.refFault 2) : Int) 4 = true ∧ s.reg (Reg.refState 2) ≠ 1) ∧
    (let s := { st [(Reg.refState 2, 2), (Reg.refQualTime 2, 1)] with clk := { refs := [(2, { since := 1 })] }, tick := 8001 }
     s.reg (Reg.refState 2) = 2 ∧ 8000 = (if (s.refSt 2).fresh then s.nat (Reg.refQualTime 2) else s.nat Reg.dpllWtr) * s.tps ∧
       (s.refSt 2).since + 8000 ≤ s.tick ∧ ({ s with tick := 8000 } : State).tick < (s.refSt 2).since + 8000) ∧
    (bit 16 4 = true ∧ bit 15 4 = false) ∧ ((-500000000 : Int) ≤ -500000000 ∧ (500000000 : Int) ≤ 500000000 ∧ (500000000 : Int) < 500000001 ∧ (96000 : Nat) ≠ 48000) ∧
    State.reset.liveS = false ∧ (st [(Reg.sapState 3, 2), (Reg.sapDomain 3, 1)]).liveS = true := by decide +kernel
theorem witness_DpllCommands :
    (let s := { st [(Reg.dpllState, 1), (Reg.dpllBwNow, 0), (Reg.dpllBwFinal, 7)] with clk := { inWin := 800 } }
     s.reg Reg.dpllState = 1 ∧ s.clk.slewing = false ∧ s.nat Reg.dpllBwNow < s.finalStep ∧ dwell (s.nat Reg.dpllBwNow) ≤ s.clk.inWin ∧
       799 < dwell 0) ∧
    (let s := { st [(Reg.dpllState, 1), (Reg.dpllBwNow, 1), (Reg.dpllBwFinal, 7)] with clk := { inWin := 8000 } }
     s.nat Reg.dpllBwNow = s.finalStep ∧ 8000 ≤ s.clk.inWin ∧ 0 ≤ s.reg Reg.dpllSticky) ∧
    (let s := { st [(Reg.dpllState, 2)] with clk := { outWin := 8 } }; s.reg Reg.dpllState = 2 ∧ 8 ≤ s.clk.outWin ∧ 7 < 8 ∧
      s.reg Reg.dpllState ≠ 1) ∧
    (let s := { st [(Reg.dpllState, 2), (Reg.pairState, 3), (Reg.pairRole, 1)] with clk := { outWin := 8 } }
     s.reg Reg.pairState = 3 ∧ s.reg Reg.pairRole = 1) ∧ State.reset.reg Reg.pairState ≠ 3 ∧
    (let s := { st [(Reg.dpllPhaseErr, -50000), (Reg.dpllRef, 2)] with clk := { slewing := true } }
     s.clk.slewing = true ∧ s.nat Reg.dpllRef ≠ 8 ∧ (s.reg Reg.dpllPhaseErr).natAbs ≤ (s.lockWindow (s.nat Reg.dpllRef)).toNat) ∧
    (let s := { st [(Reg.dpllPhaseErr, -50001), (Reg.dpllRef, 2)] with clk := { slewing := true } }
     (s.lockWindow (s.nat Reg.dpllRef)).toNat < (s.reg Reg.dpllPhaseErr).natAbs) ∧
    (let s := st [(Reg.dpllRef, 8), (Reg.timeAdjLeft, 1)]; s.nat Reg.dpllRef = 8 ∧ s.reg Reg.timeAdjLeft ≠ 0) ∧
    State.reset.clk.slewing = false ∧
    (let s := { st [(Reg.dpllState, 3), (Reg.dpllHoSince, 0), (Reg.dpllHoDegrade, 1)] with tick := 8000 }
     s.reg Reg.dpllState = 3 ∧ s.nat Reg.dpllHoSince + s.nat Reg.dpllHoDegrade * s.tps ≤ s.tick ∧
       ({ s with tick := 7999 } : State).tick < s.nat Reg.dpllHoSince + s.nat Reg.dpllHoDegrade * s.tps) := by decide +kernel
/-- A log entry that is no freeze trigger. -/
def ent : LogEntry := { code := 0x0701, level := 1, plot := 0, tick := 0, cycle := 0, p0 := 0, p1 := 0 }
theorem witness_RootLogCommands :
    ((State.reset.log.ask = false ∧ State.reset.log.keep = [] ∧ State.reset.log.queue = [] ∧ State.reset.log.lost = false) ∧ ent.trigger = none) ∧
    (({ ask := true } : LogSt).ask = true ∧ ({ retired0 := true, retired1 := true } : LogSt).lost = true) ∧
    (({ keep := [ent] } : LogSt).keep = ent :: [] ∧ ({ queue := [ent] } : LogSt).queue = ent :: [] ∧ ({ queue := [ent] } : LogSt).keep = []) ∧
    (let e := { ent with code := 0x0801 }; e.trigger = some 5 ∧ bit ((st [(Reg.logFreezeMask, 32)]).reg Reg.logFreezeMask) 5 = true ∧
      bit ((st [(Reg.logFreezeMask, 0)]).reg Reg.logFreezeMask) 5 = false) ∧
    (let l : LogSt := { rates := [(16, { dropped := 3, lastDrop := some 0 })] }
     (l.rate (16 : Fin 17)).dropped ≠ 0 ∧ (l.rate (16 : Fin 17)).lastDrop = some 0 ∧ (0 + 8000 ≤ 8000) ∧ 7999 < 0 + 8000) ∧
    (State.reset.log.rate (16 : Fin 17)).dropped = 0 ∧
    (let l : LogSt := { scrubWord := 131071 }; l.lost = false ∧ l.scrubWord < 131072) ∧
    (let l : LogSt := { scrubWord := 5, retired0 := true }; l.lost = false ∧ l.scrubWord < 65536 ∧ l.retired0 = true) ∧
    State.reset.log.freeze = none ∧ (let l : LogSt := { freeze := some ⟨0, 0, 4, 0⟩ }; l.freeze = some ⟨0, 0, 4, 0⟩) := by
  decide +kernel
theorem witness_FaultPin :
    ((255 : Fin 65536).val < 256 ∧ 256 ≤ (256 : Fin 65536).val) ∧
    (let s := { State.reset with log := { frameEnd := 5 } }; 4 < s.log.frameEnd ∧ s.log.frameEnd ≤ 5) := by decide +kernel

/-! The pair. -/

def tf0 : TickFrame := ⟨0, 0, 0, 0, 0, 0, 0, 0, 0, 0, 0, 0, 0, 7⟩
def pairS (x : PairSt) (l : List (Reg × Int)) : State := { st l with pair := x }
theorem witness_PairRolesAndLinks :
    (let s := pairS { waitFrom := some 0 } [(Reg.pairState, 4), (Reg.pairWait, 0), (Reg.pairPartnerAuth, 0)]
     s.pair.waitFrom = some 0 ∧ s.pair.partner = none ∧ 0 + s.nat Reg.pairWait ≤ s.tick ∧ s.reg Reg.pairState = 4 ∧
       s.reg Reg.pairPartnerAuth = 0 ∧ (st [(Reg.pairPartnerAuth, 1)]).reg Reg.pairPartnerAuth ≠ 0 ∧
       s.tick < 0 + (st [(Reg.pairWait, 1)]).nat Reg.pairWait) ∧
    (let s := pairS { handAt := some (1, true), leaveAt := some 1 } [(Reg.pairRole, 0)]
     ({ s with tick := 0 } : State).tick < 1 ∧ ({ s with tick := 1, cycle := 95999 } : State).cycle < 96000 ∧
       96000 ≤ ({ s with tick := 1, cycle := 96000 } : State).cycle ∧ s.reg Reg.pairRole = 0 ∧
       (match s.pair.leaveAt with | some e => decide (e ≤ 1) | none => false) = true ∧
       (match s.pair.leaveAt with | some e => decide (e ≤ 0) | none => false) = false ∧
       (st [(Reg.pairRole, 1)]).reg Reg.pairRole ≠ 0) ∧ State.reset.pair.handAt = none ∧
    (let s := pairS { partner := some tf0 } [(Reg.weltState 1, 2), (Reg.pairState, 3)]
     s.reg (Reg.weltState 1) = 2 ∧ s.paired = true ∧ s.pair.partner = some tf0 ∧ tf0.seq ≠ 1 ∧ tf0.tick ≠ 1 ∧
       State.reset.reg (Reg.weltState 1) ≠ 2 ∧ State.reset.paired = false ∧ 1 ≤ s.tick + 1 ∧ s.tick + 1 < 2 ∧
       (750000 : Nat) ≤ 750000 ∧ ¬(750001 : Nat) ≤ 750000) ∧
    (let s := pairS {} [(Reg.weltState 0, 2), (Reg.weltState 1, 2)]
     s.reg (Reg.weltState 0) = 2 ∧ ∀ m : Fin 2, m ≠ 0 → s.reg (Reg.weltState m) = 2) := by decide +kernel
theorem witness_PairRolesAndLinks_loss :
    (let s := pairS {} [(Reg.weltState 0, 2), (Reg.pairState, 3), (Reg.pairRole, 0)]
     s.reg (Reg.weltState 0) = 2 ∧ (∀ m : Fin 2, m ≠ 0 → s.reg (Reg.weltState m) ≠ 2) ∧ s.reg Reg.pairState = 3 ∧
       s.reg Reg.pairRole = 0 ∧ s.heartbeat = true) ∧
    (let s := pairS {} [(Reg.weltState 0, 2), (Reg.pairState, 5), (Reg.pairRole, 1), (Reg.pairPartnerAuth, 1)]
     (∀ m : Fin 2, m ≠ 0 → s.reg (Reg.weltState m) ≠ 2) ∧ s.reg Reg.pairState = 5 ∧ s.reg Reg.pairRole ≠ 0 ∧
       s.reg Reg.pairPartnerAuth = 1 ∧ (st [(Reg.pairPartnerAuth, 0)]).reg Reg.pairPartnerAuth ≠ 1) ∧
    (let s := st [(Reg.weltState 0, 3)]; s.reg (Reg.weltState 0) ≠ 0 ∧ s.reg (Reg.weltState 0) ≠ 2) ∧
    State.reset.reg (Reg.weltState 0) = 0 ∧
    (let s := pairS { waitFrom := some 0 } [(Reg.weltState 0, 2), (Reg.pairState, 4), (Reg.pairPartnerLost, 1)]
     s.heartbeat = true ∧ s.reg Reg.pairState = 4 ∧ s.pair.waitFrom ≠ none ∧ s.reg Reg.pairPartnerLost = 1 ∧ s.pair.partner = none) ∧
    (let s := pairS {} [(Reg.pairState, 3)]; s.heartbeat = false ∧ s.reg Reg.pairState = 3 ∧ s.reg Reg.pairPartnerAuth ≠ 1) ∧
    (let s := pairS {} [(Reg.pairState, 4)]; s.reg Reg.pairState = 4 ∧ s.heartbeat = false ∧ s.reg Reg.pairPartnerAuth = 0) ∧
    (let s := pairS { target := true } [(Reg.pairState, 2)]; s.reg Reg.pairState = 2 ∧ s.heartbeat = false ∧ s.pair.target = true ∧
      (pairS {} [(Reg.pairState, 2)]).pair.target = false) ∧
    (let s := pairS { takeAt := some 1 } []; s.pair.takeAt = some 1 ∧ s.tick < 1 ∧ 1 ≤ ({ s with tick := 1 } : State).tick) ∧
    State.reset.pair.takeAt = none := by decide +kernel

def cellA : DigestCell := { mask := 1, evid := 1, ds := [5] }
def cellB : DigestCell := { mask := 1, ds := [6] }
theorem witness_PairDigestsAndProofs :
    ((st [(Reg.weltState 0, 2)]).heartbeat = true ∧ State.reset.heartbeat = false) ∧
    (let s := st [(Reg.pairState, 2), (Reg.graftPhase, 5)]; s.reg Reg.pairState = 2 ∧ s.reg Reg.graftPhase = 5 ∧
      s.pair.unsettled = []) ∧
    (let a : DigestCell := {}; let s := st [(Reg.pairState, 3)]
     (NTable.get {} s.pair.own 0 : DigestCell) = a ∧ (NTable.get {} s.pair.theirs 0 : DigestCell) = a ∧ s.reg Reg.pairState = 3 ∧
       s.pair.focus = none ∧ a.tick = s.tick ∧ a.full = false ∧ differing a a = 0 ∧ a.tick ≠ ({ s with tick := 1 } : State).tick) ∧
    (let s := pairS { own := [(0, cellA)], theirs := [(0, cellB)] } [(Reg.pairState, 3), (Reg.pairRole, 0)]
     (NTable.get {} s.pair.own 0 : DigestCell) = cellA ∧ (NTable.get {} s.pair.theirs 0 : DigestCell) = cellB ∧
       differing cellA cellB ≠ 0 ∧ cellA.tick = s.tick ∧ cellB.tick = s.tick ∧ s.reg Reg.pairRole = 0 ∧
       (st [(Reg.pairRole, 1)]).reg Reg.pairRole ≠ 0) ∧
    (let m := differing cellA cellB
     caseOf (hasEvidence cellA m) (hasEvidence cellB m) = 2 ∧ caseOf (hasEvidence cellB m) (hasEvidence cellA m) = 3 ∧
       caseOf (hasEvidence cellB m) (hasEvidence cellB m) = 4 ∧ caseOf (hasEvidence cellA m) (hasEvidence cellA m) = 5) ∧
    (let s := pairS { own := [(0, cellA)], theirs := [(0, { cellB with tick := 1 })], missing := [(0, 2)] } [(Reg.pairState, 3)]
     (NTable.get {} s.pair.theirs 0 : DigestCell).tick ≠ s.tick ∧ NTable.get 0 s.pair.missing 0 + 1 = 3 ∧ s.pair.focus = none) ∧
    (let s := pairS { focus := some (1, 1) } [(Reg.pairState, 3), (Reg.pairRole, 0)]
     s.pair.focus = some (1, 1) ∧ s.tick < 1 ∧ 1 ≤ ({ s with tick := 1 } : State).tick ∧ s.reg Reg.pairState = 3 ∧
       s.reg Reg.pairSuspect ≠ 1 ∧ s.partnerSuspect = false ∧ s.reg Reg.pairRole = 0 ∧
       (pairS { partner := some { tf0 with flags := 16 } } []).partnerSuspect = true) ∧
    State.reset.pair.focus = none := by decide +kernel
theorem witness_PairDigestsAndProofs_proofs :
    State.reset.paired = false ∧
    (let s := pairS { target := true } [(Reg.pairRole, 1), (Reg.pairState, 2)]; s.reg Reg.pairRole = 1 ∧ s.reg Reg.pairState = 2) ∧
    (let s := st [(Reg.pairRole, 1), (Reg.pairState, 5)]; s.reg Reg.pairRole = 1 ∧ s.reg Reg.pairState = 5) ∧
    (let s := pairS { proofRound := 0, proofUnits := 223 } []
     (if s.pair.proofRound = s.tick / 1024 then s.pair.proofUnits else 0) < 224) ∧
    (let s := pairS { proofRound := 0, proofUnits := 224 } []
     224 ≤ (if s.pair.proofRound = s.tick / 1024 then s.pair.proofUnits else 0)) ∧
    (let s := { pairS { proofRound := 0, proofUnits := 224 } [] with tick := 1024 }
     (if s.pair.proofRound = s.tick / 1024 then s.pair.proofUnits else 0) < 224) := by decide +kernel

def pkt (rc : Bool) : RxPkt := { s := 8, seq := 3, payload := [1, 2], legs := 1, at_ := 0, rcpt := rc }
def inS (x : RxSt) (l : List (Reg × Int)) : State := { st l with rxs := NTable.put {} [] 5 x }
theorem witness_PairInputsAndManagement :
    (∀ p ∈ ((inS {} []).rx 5).pkts, p.seq ≠ 3) ∧ (∃ p ∈ ((inS { pkts := [pkt false] } []).rx 5).pkts, p.seq = 3) ∧
    (((inS { pkts := [pkt false] } []).rx 5).pkts.find? (fun q => q.s == 8) = some (pkt false) ∧
      crc32 (pkt false).payload ≠ crc32 [1, 3]) ∧
    (let s := inS {} [(Reg.rxState 5, 2), (Reg.rxDomain 5, 0), (Reg.rxRate 5, 48000), (Reg.rxLinkOffset 5, 4)]
     (∀ p ∈ (s.rx 5).pkts, p.s ≠ 8) ∧ s.reg (Reg.rxState 5) = 2 ∧ s.reg (Reg.rxDomain 5) = 0 ∧ s.tick < s.ingestTick 5 8 ∧
       (inS {} [(Reg.rxState 5, 1)]).reg (Reg.rxState 5) = 1 ∧ State.reset.reg (Reg.rxState 5) ≠ 1 ∧ State.reset.reg (Reg.rxState 5) ≠ 2) ∧
    (let s := inS { pkts := [pkt false] } [(Reg.pairState, 3), (Reg.weltState 0, 2)]
     (s.rx 5).pkts.find? (fun p => p.seq == 3 && !p.rcpt && !p.rpay && decide (p.at_ + 1000 ≤ 1000)) = some (pkt false) ∧
       (s.rx 5).pkts.find? (fun p => p.seq == 3 && !p.rcpt && !p.rpay && decide (p.at_ + 1000 ≤ 999)) = none ∧
       s.paired = true ∧ s.heartbeat = true) := by
  refine ⟨by decide +kernel, ⟨pkt false, by decide +kernel⟩, by decide +kernel, by decide +kernel, by decide +kernel⟩
theorem witness_PairInputsAndManagement_cells :
    (let s := sapS {} [(Reg.pairState, 3), (Reg.linMode 3, 2), (Reg.pairSeat, 0), (Reg.sapState 3, 2)]
     s.ownPin 3 = false ∧ s.sapIn 3 = (3 : Fin 128).val ∧ s.reg (Reg.sapState 3) ≠ 0 ∧ s.sapH 3 = true ∧ State.reset.ownPin 3 = true) ∧
    (let s := st [(Reg.pairState, 3), (Reg.linMode 130, 2), (Reg.pairSeat, 0), (Reg.tevMode 2, 1)]
     s.ownPin (128 + (2 : Fin 24).val) = false ∧ s.reg (Reg.tevMode 2) = 1 ∧ (s.tev 2).caps.length < 32 ∧
       State.reset.reg (Reg.tevMode 2) ≠ 1 ∧
       32 ≤ (({ s with tevs := [(2, { caps := List.replicate 32 [] })] } : State).tev 2).caps.length) ∧
    (let s := { pairS { idigs := [(9, 1)] } [(Reg.weltState 0, 2)] with tick := 1 }
     0 + 1 = s.tick ∧ 1 + 1 ≠ s.tick ∧ s.heartbeat = true ∧
       ([(9, 2)] : List (Nat × Nat)).filter (fun e => s.pair.idigs.any fun o => o.1 == e.1 && o.2 != e.2) = [(9, 2)] ∧
       ([(9, 1)] : List (Nat × Nat)).filter (fun e => s.pair.idigs.any fun o => o.1 == e.1 && o.2 != e.2) = []) ∧
    (let s := pairS { sent := [(1, 4)] } [(Reg.pairRole, 0), (Reg.pairState, 3)]
     (∃ e ∈ s.pair.sent, e.2 ≤ s.tick + 4) ∧ s.reg Reg.pairRole = 0 ∧ s.reg Reg.pairState = 3 ∧
       (st [(Reg.pairRole, 1)]).reg Reg.pairRole ≠ 0 ∧ (st [(Reg.pairState, 1)]).reg Reg.pairState ≠ 3) ∧
    (∀ e ∈ (pairS { sent := [(1, 5)] } []).pair.sent, State.reset.tick + 4 < e.2) := by
  refine ⟨by decide +kernel, by decide +kernel, by decide +kernel, ⟨⟨(1, 4), by decide +kernel⟩, by decide +kernel⟩, by decide +kernel⟩

/-- A chip in a graft, in a phase. -/
def graftS (k : Int) (x : PairSt) (l : List (Reg × Int)) : State := pairS x ([(Reg.pairState, 2), (Reg.graftPhase, k)] ++ l)
theorem witness_GraftAndLeave :
    (let s := st [(Reg.pairState, 4)]; s.reg Reg.pairState = 4 ∧ s.reg Reg.pairSuspect = 0 ∧
      (st [(Reg.pairSuspect, 1)]).reg Reg.pairSuspect ≠ 0 ∧ State.reset.reg Reg.pairState ≠ 4) ∧
    (let s := graftS 1 { partner := some { tf0 with seat := 1 } } [(Reg.weltState 1, 2), (Reg.pairSeat, 0)]
     s.reg Reg.pairState = 2 ∧ s.reg Reg.graftPhase = 1 ∧ s.heartbeat = true ∧ s.sameSeat = false ∧
       { s.chipId with stepping := 0xA0 } ≠ s.chipId ∧
       (graftS 1 { partner := some tf0 } [(Reg.pairSeat, 0)]).sameSeat = true ∧ (graftS 1 {} []).heartbeat = false) ∧
    (let s := graftS 2 { target := true, partner := some tf0 } [(Reg.dpllState, 2), (Reg.dpllRef, 13)]
     s.reg Reg.graftPhase = 2 ∧ s.clockAligned = true ∧ (graftS 2 { target := true } []).clockAligned = false) ∧
    (graftS 3 { target := true } []).pair.target = true ∧ (graftS 3 {} []).pair.target = false ∧
    (let s := graftS 4 { mirrored := 200000000 } []; s.pageCount ≤ s.pair.mirrored ∧ (graftS 4 {} []).pair.mirrored < s.pageCount) ∧
    (let s := graftS 5 { settled := 64 } []; s.reg Reg.graftPhase = 5 ∧ 64 ≤ s.pair.settled ∧
       (graftS 5 { settled := 63 } []).pair.settled < 64) := by decide +kernel
theorem witness_GraftAndLeave_ends :
    (let s := { graftS 1 { phaseFrom := 1 } [] with tick := 8001 }
     s.reg Reg.graftPhase = 1 ∧ s.pair.phaseFrom + 8000 ≤ s.tick ∧ s.tick < s.pair.phaseFrom + 8001 ∧ s.heartbeat = false ∧
       (st [(Reg.weltState 0, 3)]).reg (Reg.weltState 0) = 3) ∧
    (let s := { graftS 2 { phaseFrom := 1 } [] with tick := 80001 }; s.reg Reg.graftPhase = 2 ∧ s.pair.phaseFrom + 80000 ≤ s.tick) ∧
    (let s := { graftS 5 { graftFrom := 1 } [] with tick := 480001 }; s.reg Reg.graftPhase = 5 ∧ s.pair.graftFrom + 480000 ≤ s.tick) ∧
    (let s := { graftS 6 {} [(Reg.graftJoinTick, 9)] with tick := 9 }
     s.reg Reg.pairState = 2 ∧ s.reg Reg.graftPhase = 6 ∧ s.nat Reg.graftJoinTick ≤ s.tick ∧
       ({ s with tick := 8 } : State).tick < s.nat Reg.graftJoinTick) ∧
    (let s := graftS 4 { target := true } []; s.takesPages = true ∧ plainMemory 0x4000000000 = true ∧ State.reset.takesPages = false) ∧
    ((st [(Reg.pairState, 3)]).paired = true ∧ State.reset.paired = false ∧ State.reset.tick + 2 ≤ 2 ∧ 1 < State.reset.tick + 2) ∧
    (let s := pairS { leaveAt := some 1 } [(Reg.pairRole, 1)]; s.pair.leaveAt = some 1 ∧ 1 ≤ ({ s with tick := 1 } : State).tick ∧ s.tick < 1 ∧
       s.reg Reg.pairRole ≠ 0) ∧
    (let s := pairS { handAt := some (1, false), leaveAt := some 1 } [(Reg.pairRole, 0), (Reg.pairState, 3)]
     s.reg Reg.pairRole = 0 ∧ s.reg Reg.pairState = 3 ∧ s.pair.handAt ≠ none) ∧ State.reset.pair.leaveAt = none := by decide +kernel

/-! Management. -/

/-- A message on T1S0 from node 9, for session 5 with sequence number 1, tagged under an empty key. -/
def ompM (op : Nat) (session : Nat) (body : List Byte) : Omp :=
  let m : Omp := { transport := 0, source := 9, session, seq := 1, body, tag := [] }
  { m with tag := ompTag [] (ompHeader op m.flags m.node m.session m.seq m.body.length 0 m.tick) m.body }
/-- The session in slot 4. -/
def ss5 : Session := { open_ := true, number := 5, role := 0, source := 9 }
def ssS (x : Session) : State := { State.reset with sessions := [(4, x)] }
theorem fresh5 (op : Nat) (body : List Byte) (r : Nat) (h : body.length ≤ 1408) :
    Fresh (ssS { ss5 with role := r }) (ompM op 5 body) op 4 { ss5 with role := r } where
  taken := by simp [State.ompOpen, ssS, ompM, State.reset, bit]
  node := by simp [State.nodeOk, ompM]
  idle := by simp [State.gardBusy, ssS, State.reset]
  slot := rfl
  session := rfl
  isOpen := rfl
  transport := rfl
  source := rfl
  tagged := by simp [ompM]
  tag := by simp only [ompM, ss5]
  seq := by simp [ompM, ss5]
  form := by simpa [ompFormOk, ompM, bodyMax] using h
theorem arrives0 (op : Nat) (body : List Byte) (h : body.length ≤ 1408) : Arrives (ssS ss5) (ompM op 0 body) where
  taken := by simp [State.ompOpen, ssS, ompM, State.reset, bit]
  node := by simp [State.nodeOk, ompM]
  form := by simpa [ompFormOk, ompM, bodyMax] using h
/-- Login bodies of an owner of plot 3 and, on the mailbox or later, of the gardener role. -/
def ownerBody : List Byte := [1, 3, 0, 0] ++ List.replicate 16 7
def gardBody : List Byte := [0, 255, 0, 0] ++ List.replicate 16 7
/-- A half session of the owner of plot 3, whose key is 32 bytes of 1. -/
def half3 : Session := { half := true, number := 5, role := 1, plot := 3, source := 9, challenge := List.replicate 16 1, nonce := List.replicate 16 2 }
def halfS : State := { ssS half3 with plots := [(3, { ownerKey := List.replicate 32 1 })] }
theorem witness_LoginInTwoExchanges :
    (Arrives (ssS ss5) (ompM 1 0 ownerBody) ∧ Arrives (ssS ss5) (ompM 1 0 gardBody)) ∧
    ((ompM 1 0 ownerBody).session = 0 ∧ (ssS ss5).lockedOut (sourceKey (ompM 1 0 ownerBody)) = false ∧ ownerBody.length = 20 ∧
      leAt ownerBody 2 2 = 0 ∧ (ssS ss5).freeSlot = some 0 ∧ (1 ≤ leAt ownerBody 0 1 ∧ leAt ownerBody 0 1 ≤ 2 ∧ leAt ownerBody 1 1 ≤ 15)) ∧
    (gardBody.length = 20 ∧ leAt gardBody 0 1 = 0 ∧ leAt gardBody 1 1 = 255 ∧ zeros (ssS ss5).gardenerKey = true ∧
      (State.reset).firstLogin 3 = true ∧ zeros ({ State.reset with blobs := [(Reg.gardenerKey, List.replicate 32 1)] } : State).gardenerKey = false) ∧
    ({ State.reset with sources := [(36, { lockedUntil := some 1 })] } : State).lockedOut (sourceKey (ompM 1 0 [])) = true ∧
    (halfS.slotOf 5 = some 4 ∧ halfS.session 4 = half3 ∧ half3.half = true ∧ half3.transport = (ompM 1 5 []).transport.val ∧
      half3.source = (ompM 1 5 []).source ∧ halfS.roleKey half3.role half3.plot = some (List.replicate 32 1)) ∧
    (let s := { ssS half3 with tick := 40000 }; (s.session (4 : Fin 64)).half = true ∧ (s.session (4 : Fin 64)).lastTick + 5 * s.tps ≤ s.tick ∧
       ({ s with tick := 39999 } : State).tick < (s.session (4 : Fin 64)).lastTick + 5 * s.tps) ∧
    (let s := { State.reset with sources := [(36, { lockedUntil := some 0 })] }
     (s.loginSource ((0 : Fin 4).val + 4 * 9)).lockedUntil = some 0 ∧ 0 ≤ s.tick ∧ s.tick < 1 ∧
       (State.reset.loginSource 0).lockedUntil = none) :=
  ⟨⟨arrives0 1 _ (by decide), arrives0 1 _ (by decide)⟩, by decide +kernel, by decide +kernel, by decide +kernel, by decide +kernel,
    by decide +kernel, by decide +kernel⟩
/-- The proof of that half session, as a message; it arrives, and so does another. -/
def proof3 : List Byte := hmac (List.replicate 32 1)
  (ascii "BXL" ++ half3.challenge ++ half3.nonce ++ leBytes 4 half3.number ++ leBytes 1 half3.role ++ leBytes 1 half3.plot)
theorem body5 (b : List Byte) : (ompM 17 5 b).body = b := rfl
theorem proof3_length : proof3.length = 32 := by simp [proof3, hmac, sha256, wordBe]
theorem witness_LoginInTwoExchanges_proof :
    ((ompM 17 5 proof3).body = proof3 ∧ (ompM 17 5 proof3).body.length ≤ bodyMax 0) ∧ (ompM 17 5 []).body ≠ proof3 := by
  refine ⟨⟨body5 _, ?_⟩, ?_⟩
  · rw [body5, proof3_length]; decide
  · rw [body5]; intro h; have := congrArg List.length h; rw [proof3_length] at this; simp at this
/-- The other outcomes: a wrong length, a gardener login on another transport, no slot, no half session, another source. -/
theorem witness_LoginInTwoExchanges_refused :
    ((ompM 1 0 []).body.length ≠ 20 ∧ (ompM 1 5 []).session ≠ 0 ∧ State.reset.firstLogin 0 = false ∧ zeros State.reset.gardenerKey = true) ∧
    (let s : State := { State.reset with sessions := (List.range 64).map fun n => (n, ss5) }; s.freeSlot = none) ∧
    State.reset.slotOf 5 = none ∧ (ssS ss5).session 4 = ss5 ∧ ss5.half = false ∧ { half3 with source := 8 }.source ≠ (ompM 1 5 []).source ∧
    State.reset.roleKey 1 0 = none := by decide +kernel
theorem tagged5 (op : Nat) (body : List Byte) (g : GardSt) :
    Tagged { ssS ss5 with gard := g } (ompM op 5 body) op 4 ss5 where
  taken := by simp [State.ompOpen, ssS, ompM, State.reset, bit]
  node := by simp [State.nodeOk, ompM]
  slot := rfl
  session := rfl
  isOpen := rfl
  transport := rfl
  source := rfl
  tagged := by simp [ompM]
  tag := by simp only [ompM, ss5]
  seq := by simp [ompM, ss5]
/-- A gardener that is occupied to tick 9; its plot's queue is empty, or full. -/
theorem witness_SessionRequests_wait (op : Nat) (body : List Byte) :
    (let s : State := { ssS ss5 with gard := { busy := 9 } }; Tagged s (ompM op 5 body) op 4 ss5 ∧ s.gardBusy = true ∧
      (s.waiting (min 16 ss5.plot)).length < 16) ∧
    (let g : GardSt := { busy := 9, queues := [(min 16 ss5.plot, List.replicate 16 ⟨.logout, ompM 2 5 []⟩)] }
     let s : State := { ssS ss5 with gard := g }; Tagged s (ompM op 5 body) op 4 ss5 ∧ s.gardBusy = true ∧
      16 ≤ (s.waiting (min 16 ss5.plot)).length) ∧
    (let s : State := { State.reset with rst := { kind := 4 } }; s.ompOpen (ompM op 5 body) = false) ∧
    (let m := { ompM op 5 body with node := 7 }; (ssS ss5).ompOpen m = true ∧ (ssS ss5).nodeOk m = false) :=
  ⟨⟨tagged5 op body _, by decide +kernel, by decide +kernel⟩, ⟨tagged5 op body _, by decide +kernel, by decide +kernel⟩,
    by simp [State.ompOpen, ompM, State.reset], by simp [State.ompOpen, ssS, ompM, State.reset, bit], by
      simp [State.nodeOk, ompM, ssS]; decide +kernel⟩
theorem witness_SessionRequests :
    (Fresh (ssS ss5) (ompM 2 5 []) 2 4 ss5 ∧ Fresh (ssS ss5) (ompM 2 5 [1]) 2 4 ss5 ∧ Fresh (ssS ss5) (ompM 9 5 []) 9 4 ss5 ∧
      Arrives (ssS ss5) (ompM 9 0 [])) ∧
    (Fresh (ssS ss5) (ompM 10 5 [1, 0, 0, 0, 0, 0, 0, 0]) 10 4 ss5 ∧ Fresh (ssS ss5) (ompM 10 5 [0, 0, 0, 0, 0, 0, 0, 0]) 10 4 ss5 ∧
      ss5.role ≠ 2 ∧ Fresh (ssS { ss5 with role := 2 }) (ompM 10 5 [1, 0, 0, 0, 0, 0, 0, 0]) 10 4 { ss5 with role := 2 }) ∧
    ((ssS ss5).claimedBy 4 ss5 = false ∧
      ({ State.reset with sessions := [(4, ss5), (7, { ss5 with number := 6, claim := true })] } : State).claimedBy 4 ss5 = true) ∧
    ((List.replicate 32 (1 : Byte)).length = 32 ∧ ([] : List Byte).length ≠ 32 ∧
      ((ssS { ss5 with role := 1 }).session (4 : Fin 64)).open_ = true ∧ ((ssS { ss5 with role := 1 }).session (4 : Fin 64)).role ≠ 0) ∧
    (let s := { ssS ss5 with tick := 80000 }; (s.session (4 : Fin 64)).lastTick + s.nat Reg.sessionTimeout * s.tps ≤ s.tick ∧
       ({ s with tick := 79999 } : State).tick < (s.session (4 : Fin 64)).lastTick + s.nat Reg.sessionTimeout * s.tps) :=
  ⟨⟨fresh5 2 _ 0 (by decide), fresh5 2 _ 0 (by decide), fresh5 9 _ 0 (by decide), arrives0 9 _ (by decide)⟩,
    ⟨fresh5 10 _ 0 (by decide), fresh5 10 _ 0 (by decide), by decide, fresh5 10 _ 2 (by decide)⟩, by decide +kernel,
    by decide +kernel, by decide +kernel⟩
/-- READ of SESSION_TIMEOUT, WRITE of it, a block segment and a block read of PLOT_FAULT_MASK's neighbour blobs. -/
def readB : List Byte := leBytes 2 0x1200 ++ [2, 0]
def writeB : List Byte := leBytes 2 0x1200 ++ [2, 0] ++ leBytes 2 2 ++ [0, 0] ++ leBytes 2 30 ++ List.replicate 6 0
/-- A read and a segment that are malformed or refused. -/
theorem witness_ReadsWritesAndTransfers_refused :
    readItems [] = none ∧ writeItems 64 [1] = none ∧ readItems (leBytes 2 0x1200 ++ [2, 0]) = some [(0x1200, 2)] ∧
    ([] : List Byte).length < 16 ∧ ([] : List Byte).length ≠ 12 ∧
    ((ssS ss5).received (ompM 7 5 []) 4).mayWrite 4 ss5 0x1000 1 false = .error 0x11 ∧ objAt 0x0FFF 1 = none ∧
    (objAt 0x1200 2).any (fun o => o.ty != 15) = true ∧ (objAt 0x2040 1).any (fun o => o.ty == 15) = true ∧
    bar0Slot 4194296 = none ∧ (State.reset.session (0 : Fin 64)).snapshot = none ∧ (State.reset.session (0 : Fin 64)).transfers.length ≤ (0 : Fin 4).val := by
  decide +kernel
/-- Offset in BAR0 of an object. -/
def off0 (row sub : Nat) : Fin 4194304 := Fin.ofNat 4194304 (row * 512 + sub * 8)
theorem witness_ReadsWritesAndTransfers :
    (Fresh (ssS ss5) (ompM 3 5 readB) 3 4 ss5 ∧ readItems readB = some [(0x1200, 2)] ∧ (objAt 0x1200 2).any (fun o =>
      ((ssS ss5).received (ompM 3 5 readB) 4).mayTouch (((ssS ss5).received (ompM 3 5 readB) 4).session 4) o 0x1200 2 false &&
      decide (8 + (padItem (((ssS ss5).received (ompM 3 5 readB) 4).view (((ssS ss5).received (ompM 3 5 readB) 4).session 4) o 0x1200 2)).length ≤
        bodyMax 0)) = true) ∧
    (Arrives (ssS ss5) (ompM 3 0 (leBytes 2 0x1000 ++ [1, 0])) ∧ readItems (leBytes 2 0x1000 ++ [1, 0]) = some [(0x1000, 1)]) ∧
    (Fresh (ssS ss5) (ompM 4 5 writeB) 4 4 ss5 ∧ Fresh (ssS ss5) (ompM 5 5 writeB) 5 4 ss5 ∧
      writeItems 64 writeB = some [(0x1200, 2, leBytes 2 30)]) ∧
    (let b := leBytes 2 0x2040 ++ [1, 0] ++ List.replicate 12 0; Fresh (ssS ss5) (ompM 7 5 b) 7 4 ss5 ∧ 16 ≤ b.length ∧ leAt b 3 1 = 0) ∧
    (let s := { State.reset with sessions := [(4, { ss5 with snapshot := some (⟨0x2040, 1, 0⟩, [1, 2, 3, 4], 0), transfers := [⟨⟨0x2040, 1, 0⟩, 8, [], 0, none⟩] })],
                                 tick := 16000 }
     (s.session (4 : Fin 64)).snapshot = some (⟨0x2040, 1, 0⟩, [1, 2, 3, 4], 0) ∧ 0 + 2 * s.tps ≤ s.tick ∧
       ({ s with tick := 15999 } : State).tick < 0 + 2 * s.tps ∧ (s.session (4 : Fin 64)).transfers[(0 : Fin 4).val]? = some ⟨⟨0x2040, 1, 0⟩, 8, [], 0, none⟩) ∧
    ((off0 128 2).val % 8 = 0 ∧ bar0Slot (off0 128 2) = some (0x1200, 2) ∧ State.reset.host.bound = none ∧
      (Fin.ofNat 4194304 4194303).val % 8 ≠ 0 ∧ ({ ssS ss5 with host := { bound := some 4 } } : State).host.bound = some 4 ∧
      (objAt 0x1200 2).any (fun o => hasSlot o 2 && ((ssS ss5).readItem ss5 0x1200 2).2.1 == 0 &&
        ((ssS ss5).writeItem 4 ss5 0x1200 2 (([30, 0, 0, 0, 0, 0, 0, 0] : List Byte).take (tyLen o.ty)) none).2.1 != 0x11) = true) ∧
    ((ssS ss5).slotOf 5 = some 4 ∧ (ssS ss5).session 4 = ss5 ∧ ss5.open_ = true) :=
  ⟨⟨fresh5 3 _ 0 (by decide), by decide +kernel, by decide +kernel⟩, ⟨arrives0 3 _ (by decide), by decide +kernel⟩,
    ⟨fresh5 4 _ 0 (by decide), fresh5 5 _ 0 (by decide), by decide +kernel⟩, ⟨fresh5 7 _ 0 (by decide), by decide +kernel⟩,
    by decide +kernel, by decide +kernel, by decide +kernel⟩
def ringS (r : Nat) (x : Ring) : State := { State.reset with rings := [(r, x)] }
/-- A page of one entry. -/
def pg : StagedPage := ⟨[List.replicate 16 0], 0, 0, false⟩
theorem witness_PagesUseUpSequenceNumbers :
    (let x : Ring := { owner := 3, pages := 2, staged := [pg], prod := 1 }
     ((ringS 5 x).ring (5 : Fin 64)).staged = pg :: [] ∧ x.isOpen = true ∧ x.free = true ∧ x.stalled = false) ∧
    (State.reset.ring (5 : Fin 64)).staged = [] ∧ State.reset.rst.kind ≠ 3 ∧
    (let x : Ring := { owner := 3, pages := 2, staged := [pg], prod := 2 }; x.isOpen = true ∧ x.free = false) ∧
    ({ owner := 3, stalled := true } : Ring).stalled = true ∧
    ({ State.reset with host := { mbox := true } } : State).host.mbox = true ∧ (State.reset.ring 63).free = false := by decide +kernel
def ringRec : List Byte := leBytes 8 4096 ++ leBytes 4 65536 ++ [2, 255] ++ leBytes 2 256 ++ leBytes 8 0
theorem witness_RingsAndMailbox :
    ((ssS ss5).session (4 : Fin 64)).open_ = true ∧ ringRec.length = 24 ∧ (61 : Fin 64).val < 62 ∧ leAt ringRec 0 8 % 4096 = 0 ∧
    (2 ≤ leAt ringRec 8 4 ∧ leAt ringRec 8 4 ≤ 65536 ∧ isPow2 (leAt ringRec 8 4) = true ∧ leAt ringRec 13 1 = 255 ∧ 1 ≤ leAt ringRec 14 2 ∧
      leAt ringRec 14 2 ≤ 256 ∧ leAt ringRec 16 8 = 0 ∧ leAt ringRec 12 1 ≤ 2) ∧
    (((ssS ss5).session (4 : Fin 64)).role = 0 ∧ ((ssS ss5).ring (61 : Fin 64)).isOpen = false) ∧
    (((ssS { ss5 with role := 1 }).session (4 : Fin 64)).role = 1 ∧ ((ssS { ss5 with role := 2 }).session (4 : Fin 64)).role = 2) ∧
    (State.reset.session (4 : Fin 64)).open_ = false ∧ ([] : List Byte).length ≠ 24 ∧ leAt (List.replicate 24 (0 : Byte)) 8 4 < 2 ∧
    leAt (ringRec.take 12 ++ [3] ++ ringRec.drop 13) 12 1 = 3 ∧
    (let x : Ring := { owner := 16, kind := 3 }; x.isOpen = true ∧ x.kind = 3) ∧ (let x : Ring := { owner := 16, kind := 5 }; x.isOpen = true) ∧
    (State.reset.host.mbox = false ∧ isPow2 2 = true ∧ isPow2 256 = true) := by decide +kernel
theorem witness_NodeAddress :
    (1 ≤ (254 : Fin 256).val ∧ (254 : Fin 256).val ≤ 254 ∧ (254 : Fin 256).val ≠ State.reset.nat Reg.idAddr ∧
      (254 : Fin 256).val = (st [(Reg.idAddr, 254)]).nat Reg.idAddr) ∧
    (State.reset.chainMode = true ∧ (st [(Reg.addrMode, 1)]).chainMode = false ∧ max (3 : Fin 256).val ((st [(Reg.addrHighest, 253)]).nat Reg.addrHighest) < 254) ∧
    (Config.uid % 18446744073709551616 < Config.uid % 18446744073709551616 + 1) ∧
    (Config.uid % 18446744073709551616 = 0 ∨ ∃ uid : Nat, uid ≠ Config.uid % 18446744073709551616 ∧ uid < Config.uid % 18446744073709551616) ∧
    (State.reset.addr.chain = true ∧ State.reset.reg Reg.idAddr = 0 ∧ State.reset.addr.waitFrom = none ∧ State.reset.reg Reg.addrState = 0) ∧
    (let s := { State.reset with addr := { waitFrom := some 0 } }
     s.addr.waitFrom = some 0 ∧ 49 < 0 + 50 ∧ 0 + 50 ≤ 50 ∧ s.nat Reg.addrHighest < 254 ∧ 254 ≤ (st [(Reg.addrHighest, 254)]).nat Reg.addrHighest) ∧
    (let s := { State.reset with addr := { announces := 1, lastTx := some 0 } }
     s.addr.announces ≠ 0 ∧ (∀ f, s.addr.lastTx = some f → f + 10 ≤ 10) ∧ bit (s.reg Reg.t1sStatus) 3 = false) ∧
    State.reset.addr.announces = 0 ∧ ((0 : Fin 256).val = 0 ∧ (255 : Fin 256).val = 255) := by
  refine ⟨by decide +kernel, by decide +kernel, Nat.lt_succ_self _, ?_, by decide +kernel, by decide +kernel,
    ⟨by decide, fun f h => ?_, by decide +kernel⟩, rfl, by decide⟩
  · rcases Nat.eq_zero_or_pos (Config.uid % 18446744073709551616) with h | h
    · exact .inl h
    · exact .inr ⟨0, by omega, h⟩
  · cases h; decide

/-! Reset, power, the whole. -/

def rstS (x : RstSt) (l : List (Reg × Int)) : State := { st l with rst := x }
theorem witness_ResetSourcesAndEntry :
    (State.reset.rst.phase ≠ 1 ∧ (rstS { kind := 3, phase := 1 } []).rst.kind = 3) ∧
    (let s := rstS { kind := 2, phase := 1 } []; s.rst.phase = 1 ∧ s.rst.kind = 2) ∧ ((1250 : Int) < 1251 ∧ (1250 : Int) ≤ 1250) ∧
    (let s := rstS { dogs := [1, 0] } []
     s.rst.kind = 0 ∧ (s.rst.dogs.filter fun x => decide (600000000 < x + 600000000)).length < 2 ∧
       2 ≤ (s.rst.dogs.filter fun x => decide (599999999 < x + 600000000)).length ∧ (rstS { kind := 4 } []).rst.kind ≠ 0) ∧
    (Instr.rstCmdWarm, 2, 0) ∈ [(Instr.rstCmdCold, 1, 0), (.rstCmdWarm, 2, 0), (.rstCmdGardener, 3, 0)] ∧
    (let s := rstS { cmds := [(0, 2, 0)] } []; s.rst.cmds = [(0, 2, 0)] ∧ 0 ≤ s.tick ∧ s.tick < 1) ∧
    ((1 : Fin 26).val ≠ 0 ∧ 0 ≤ State.reset.reg Reg.dpllSticky ∧ (18 : Fin 26).val ∈ [2, 3, 5, 6, 12, 17, 18] ∧ State.reset.rst.asks = [] ∧
      (8 : Fin 26).val = (if (7 : Fin 24).val < 8 then 8 else 9) ∧ (9 : Fin 26).val = (if (8 : Fin 24).val < 8 then 8 else 9)) ∧
    ((rstS { asks := [(2, 3)] } []).rst.asks = [(2, 3)] ∧ (rstS { asks := [(2, 3)] } []).rst.kind = 0 ∧ 2 < (rstS { asks := [(2, 3)], kind := 3 } []).rst.kind) ∧
    ((rstS { asks := [(1, 1)], kind := 2 } []).rst.asks = [(1, 1)] ∧ (rstS { asks := [(1, 1)], kind := 2 } []).rst.kind ≠ 1) ∧
    ((rstS { asks := [(3, 8)], kind := 4 } []).rst.asks = [(3, 8)] ∧ (rstS { asks := [(3, 8)], kind := 4 } []).rst.kind = 4) ∧
    ((rstS { asks := [(4, 9)] } []).rst.asks = [(4, 9)] ∧ (rstS { asks := [(4, 9)] } []).rst.kind = 0) ∧
    ((rstS { asks := [(5, 27)] } []).rst.asks = [(5, 27)] ∧ bit ((rstS { asks := [(5, 27)] } []).rst.ports : Int) 27 = false) ∧
    (let s := rstS { asks := [(4, 9)], kind := 4 } []; s.rst.asks = [(4, 9)] ∧ (4 : Nat) ≠ 5 ∧ s.rst.kind ≠ 0 ∧ s.rst.kind ≤ 4) := by
  decide +kernel
theorem witness_BringUpFirmwareAndFlash :
    (let s := rstS { kind := 3, phase := 1 } []; s.rst.kind ≠ 0 ∧ s.rst.phase = 1 ∧ s.rst.held = []) ∧
    (rstS { held := [3] } []).rst.held ≠ [] ∧
    (bit ((rstS { ports := 2 ^ 27 } []).rst.ports : Int) (27 : Fin 28) = true ∧ bit (State.reset.rst.ports : Int) (27 : Fin 28) = false) ∧
    ((rstS { phase := 0 } []).rst.phase = 0 ∧ (rstS { phase := 0 } []).rst.held = [] ∧ (rstS { phase := 2 } []).rst.phase = 2 ∧
      (rstS { phase := 2 } []).rst.asks = [] ∧ (rstS { phase := 3 } []).rst.phase = 3 ∧ (rstS { phase := 4 } []).rst.phase = 4) ∧
    (let s := { rstS { kind := 4, phase := 5, bootTick := some 1 } [] with tick := 16001 }
     s.bootOver 0 = true ∧ ({ s with tick := 16000 } : State).bootOver 9000000 = false ∧ (rstS { kind := 2 } []).clk.told = false ∧
       (rstS { noFw := true } []).rst.noFw = true ∧ (rstS { phase := 2, asks := [(1, 1)] } []).rst.asks ≠ []) ∧
    (let s := rstS { kind := 4, phase := 5 } [(Reg.fwActive, 0)]
     s.bootOver 1999999 = false ∧ s.bootOver 2000000 = true) ∧
    (let s := rstS { kind := 4, phase := 5 } [(Reg.fwActive, 0)]
     s.rst.kind ≠ 0 ∧ s.rst.phase = 5 ∧ s.rst.noFw = false ∧ (s.rst.slot (min 1 (s.nat Reg.fwActive))).valid = true ∧
       1999999 < s.rst.bootAt + 2000000 ∧ s.rst.bootAt + 2000000 ≤ 2000000 ∧ s.rst.failed ||| 2 ^ (min 1 (s.nat Reg.fwActive)) ≠ 3 ∧
       (s.rst.slot s.spareSlot).valid = false) ∧
    (let s := rstS { kind := 4, phase := 5, failed := 1 } [(Reg.fwActive, 1)]
     (s.rst.slot (min 1 (s.nat Reg.fwActive))).valid = false ∧ s.rst.failed ||| 2 ^ (min 1 (s.nat Reg.fwActive)) = 3 ∧
       (s.rst.slot s.spareSlot).valid = true) ∧
    (16777216 < 16777217 ∧ 16777216 ≤ 16777216 ∧ State.reset.reg Reg.flashHold = 0 ∧ (st [(Reg.flashHold, 2)]).reg Reg.flashHold ≠ 0) ∧
    ((List.replicate 64 (0 : Byte)).length = 64 ∧ (List.replicate 63 (0 : Byte)).length ≠ 64) ∧
    (let s := st [(Reg.flashHold, 2), (Reg.braceState, 0), (Reg.supFlags, 0)]
     s.reg Reg.flashHold ≠ 0 ∧ s.reg Reg.braceState = 0 ∧ s.nat Reg.supFlags % 256 + s.nat Reg.supFlags / 65536 = 0 ∧
       s.brace.lastCaution + 1000000 ≤ 1000000 ∧ s.brace.normalAt + 1000000 ≤ 1000000 ∧ s.rst.stagedFw = none ∧
       999999 < s.brace.lastCaution + 1000000 ∧ (rstS { stagedFw := some (true, 7) } []).rst.stagedFw = some (true, 7)) := by decide +kernel
def braceS (x : BraceSt) (l : List (Reg × Int)) : State := { st l with brace := x }
theorem witness_SupplyAndBrace :
    (((0 : Fin 5), 7) = ((0 : Fin 5), (7 : Fin 8).val) ∧ ((3 : Fin 5), 23) = ((3 : Fin 5), 16 + (7 : Fin 8).val) ∧
      bit ((st [(Reg.supFlags, 0)]).reg Reg.supFlags) 23 = false) ∧
    (let s := st [(Reg.supFlags, 0), (Reg.braceState, 0)]; bit (s.reg Reg.supFlags) (8 + (7 : Fin 8)) = false ∧ s.reg Reg.braceState = 0 ∧
       (st [(Reg.braceState, 1)]).reg Reg.braceState = 1 ∧ (st [(Reg.braceState, 2)]).reg Reg.braceState = 2) ∧
    (bit ((st [(Reg.supFlags, 0x8080)]).reg Reg.supFlags) 7 = true ∧ bit ((st [(Reg.supFlags, 0x8080)]).reg Reg.supFlags) (8 + (7 : Fin 8)) = true ∧
      (st [(Reg.pairState, 3)]).paired = true) ∧
    (let s := { braceS { from_ := some 0 } [(Reg.braceState, 2), (Reg.pairState, 3), (Reg.pairRole, 0)] with tick := 5 }
     s.bracedByA = false ∧ s.brace.unbraceAt = none ∧ s.braceTick s.tick = 13 ∧
       (braceS { unbraceAt := some 1 } []).brace.unbraceAt = some 1 ∧
       (st [(Reg.braceState, 2), (Reg.pairState, 3), (Reg.pairRole, 1), (Reg.weltState 0, 2)]).bracedByA = true) ∧
    ((7 : Fin 8).val ≠ 2 ∧ (2 : Fin 8).val = 2) ∧ bit ((st [(Reg.supFlags, 0)]).reg Reg.supFlags) 24 = false ∧
    (bit ((st [(Reg.pwrInputs, 1)]).reg Reg.pwrInputs) 0 = true ∧ bit ((st [(Reg.pwrInputs, 0)]).reg Reg.pwrInputs) 0 = false) ∧
    (let s := braceS { policyAt := some 0 } [(Reg.braceState, 1), (Reg.pwrInputs, 0)]
     s.brace.policyAt = some 0 ∧ s.reg Reg.braceState = 1 ∧ 0 ≤ s.tick ∧ s.tick < 1 ∧ bit (s.reg Reg.pwrInputs) 1 = false ∧
       s.brace.at_ + 1000000 ≤ 1000000 ∧ 999999 < s.brace.at_ + 1000000) ∧
    (let s := braceS { from_ := some 0 } [(Reg.braceState, 2)]
     s.reg Reg.braceState = 2 ∧ s.brace.from_ = some 0 ∧ s.brace.unbraceAt = none ∧ s.bracedByA = false ∧ s.braceTick s.tick = s.tick ∧
       0 + 250000 ≤ 250000 ∧ 249999 < 0 + 250000) ∧
    ((st [(Reg.braceState, 3)]).reg Reg.braceState = 3 ∧ (st [(Reg.braceState, 3)]).pscGbHome = true ∧
      (pscS { gbTo := -600, gbLen := 8 } [(Reg.pscState 4, 3)]).pscGbHome = false) := by decide +kernel
/-- A step of a state whose memory lists one byte, in canonical form; a byte out of place, or one that reads as unlisted, is not. -/
theorem witness_EveryStepKeepsMemoryCanonical :
    (let s : State := { State.reset with mem := [(4096, 1)], pending := [.heartbeat (ompM 9 0 [])] }
     NTable.wf 0 s.mem = true ∧ (match step s with | .next _ => true | _ => false) = true) ∧
    NTable.wf (0 : Byte) [(4096, 1), (1, 1)] = false ∧ NTable.wf (0 : Byte) [(4096, 0)] = false := by decide +kernel
theorem witness_EveryCommandCompletesWithinItsReach :
    movesTick .pcieLinkLoss = false ∧ storesBytes .pcieLinkLoss = false ∧ movesTick .resetEnter = true ∧ storesBytes .resetEnter = true := by decide
theorem witness_StepTakesTheCommandAtTheFront : State.reset.pending = [] ∧ ∀ e ∈ State.reset.cores, e.2.fetches = false :=
  ⟨rfl, by decide⟩
/-- Example 4.1 of 04: MOV g9, g8 beside LD32 g8, and a conditional branch. -/
theorem test_bundle_mov_ld32 : decodeBundle 0 0x0068004928000000 =
    some [.coreLd32 0 ⟨none, 0, false, {}⟩ ⟨8, 0, false, 0⟩, .coreMov 0 ⟨none, 0, true, {}⟩ 9 8] := by decide +kernel
theorem test_bundle_br : decodeBundle 0 0x240000000000C123 = some [.coreBr 0 ⟨some (false, 1), 0, true, {}⟩ true 0x123] := by
  decide +kernel
/-- PNEG or PQ without a P bit is res (04, R126). -/
theorem test_bundle_res : decodeBundle 0 0x0468004928000000 = none := by decide +kernel
/-- That bundle in PM of core 0, lowest byte first, as the core comes to it. -/
def fetchS : State := { busy with mem := [(pmBase 0 + 3, 0x28), (pmBase 0 + 4, 0x49), (pmBase 0 + 6, 0x68)] }
theorem witness_StepTakesTheCommandAtTheFront_fetch : fetchS.pending = [] ∧ fetchS.nextCore = some (0 : Fin 128).val ∧
    (fetchS.core (0 : Fin 128)).run = some ⟨t0, 0⟩ ∧ fetchS.bundleAt 0 (fetchS.core 0).pc = 0x0068004928000000 := by decide +kernel
/-- Example 21.1 of 21. -/
theorem test_balls : Pin.ball (.sap 77 0) = (19, 53) ∧ Pin.ball (.sap 77 3) = (19, 50) ∧ Pin.ball (.pwm 37 false) = (50, 21) ∧
    Pin.ball (.sense 37 true) = (51, 22) ∧ Pin.ball (.tsns 9) = (45, 29) ∧ Pin.ball (.snsClk 4) = (45, 28) ∧
    Pin.ball (.welt 1 2 false false) = (6, 39) ∧ Pin.ball (.welt 1 2 true true) = (8, 40) ∧
    rowName 19 = "Y" ∧ rowName 50 = "BM" ∧ rowName 51 = "BN" ∧ rowName 45 = "BG" ∧ rowName 6 = "F" ∧ rowName 8 = "H" := by
  decide +kernel

/-! What WellFormed refuses: for each check a term that breaks it and nothing else. -/

def okOmp : Omp := { transport := 0, source := 0, session := 0, seq := 0, body := [], tag := [] }
def okAct : FwdAction := ⟨0, 0, 0, [], 0, 0, false⟩
theorem test_wellFormed_refuses1 : ([
    .taskStart 0 65536, .coreLd16 0 ctl1 ⟨0, 0, true, 16⟩, .coreLd16 0 ctl1 ⟨0, 0, true, -17⟩,
    .coreLd16 0 ctl1 ⟨0, 0, false, 1⟩, .coreLd24 0 ctl1 ⟨0, 0, true, 16⟩, .coreLd24 0 ctl1 ⟨0, 0, true, -17⟩,
    .coreLd24 0 ctl1 ⟨0, 0, false, 1⟩, .coreLd32 0 ctl1 ⟨0, 0, true, 16⟩, .coreLd32 0 ctl1 ⟨0, 0, true, -17⟩,
    .coreLd32 0 ctl1 ⟨0, 0, false, 1⟩, .coreLd64 0 ctl1 ⟨0, 0, true, 16⟩, .coreLd64 0 ctl1 ⟨0, 0, true, -17⟩,
    .coreLd64 0 ctl1 ⟨0, 0, false, 1⟩, .coreSt16 0 ctl1 false ⟨0, 0, true, 16⟩,
    .coreSt16 0 ctl1 false ⟨0, 0, true, -17⟩, .coreSt16 0 ctl1 false ⟨0, 0, false, 1⟩,
    .coreSt24 0 ctl1 false ⟨0, 0, true, 16⟩, .coreSt24 0 ctl1 false ⟨0, 0, true, -17⟩,
    .coreSt24 0 ctl1 false ⟨0, 0, false, 1⟩, .coreSt32 0 ctl1 ⟨0, 0, true, 16⟩] : List Instr).all (fun i => !i.wellFormed) = true := by
  decide +kernel
theorem test_wellFormed_refuses2 : ([
    .coreSt32 0 ctl1 ⟨0, 0, true, -17⟩, .coreSt32 0 ctl1 ⟨0, 0, false, 1⟩, .coreSt64 0 ctl1 ⟨0, 0, true, 16⟩,
    .coreSt64 0 ctl1 ⟨0, 0, true, -17⟩, .coreSt64 0 ctl1 ⟨0, 0, false, 1⟩, .corePadd 0 ctl1 0 (1024),
    .corePadd 0 ctl1 0 (-1025), .coreMovi 0 ctl1 0 (512), .coreMovi 0 ctl1 0 (-513), .coreMovh 0 ctl1 0 (-1),
    .coreMovh 0 ctl1 0 1024, .lastInstall 0 18446744073709551616, .routeEditAt 0 18446744073709551616 false [],
    .busGain 0 0 (2147483648), .busGain 0 0 (-2147483649), .busAuto 0 0 256, .xpGain 0 0 (2147483648),
    .xpGain 0 0 (-2147483649), .silSignal 0 0 4294967296 0 0, .silSignal 0 0 0 (2147483648) 0] : List Instr).all (fun i => !i.wellFormed) = true := by
  decide +kernel
theorem test_wellFormed_refuses3 : ([
    .silSignal 0 0 0 (-2147483649) 0, .silSignal 0 0 0 0 4294967296, .genType 0 0 256 0 0 0,
    .genType 0 0 0 4294967296 0 0, .genType 0 0 0 0 (2147483648) 0, .genType 0 0 0 0 (-2147483649) 0,
    .genType 0 0 0 0 0 4294967296, .trackerLock 0 4294967296 0, .trackerLock 0 0 (2147483648),
    .trackerLock 0 0 (-2147483649), .trackerInputReturn 0 4294967296 0, .trackerInputReturn 0 0 (2147483648),
    .trackerInputReturn 0 0 (-2147483649), .bankWrite 0 0 0 65536 [], .bankWrite 0 0 0 0 [2147483648],
    .swapAt 0 0 0 18446744073709551616, .areCoefWrite 0 0 4294967296 [], .areCoefWrite 0 0 0 [8388608],
    .areCoefExp 0 0 256, .areSwapAt 0 18446744073709551616] : List Instr).all (fun i => !i.wellFormed) = true := by
  decide +kernel
theorem test_wellFormed_refuses4 : ([
    .quota 0 0 18446744073709551616, .plotResetAt 0 false 18446744073709551616 false, .hoOffer 0 4294967296,
    .hoAccept 0 4294967296, .hoWithdraw 0 4294967296, .beat 0 18446744073709551616, .idig 18446744073709551616 [],
    .rcpt 0 65536 0 none, .rcpt 0 0 4294967296 none, .rpay 0 65536 0 [] 0, .mgmt 4294967296 0 okAct,
    .mgmt 0 18446744073709551616 okAct, .mgmt 0 0 { okAct with idx := 65536 }, .mgmt 0 0 { okAct with sub := 256 },
    .mgmt 0 0 { okAct with unit := 4294967296 }, .mgmt 0 0 { okAct with role := 3 },
    .mgmt 0 0 { okAct with plot := 256 }, .mack 4294967296, .mirror 1 0 (List.replicate 4096 0),
    .mirror 1099511627776 0 (List.replicate 4096 0)] : List Instr).all (fun i => !i.wellFormed) = true := by
  decide +kernel
theorem test_wellFormed_refuses5 : ([
    .mirror 0 18446744073709551616 (List.replicate 4096 0), .mirror 0 0 [], .hot 1 0 (List.replicate 4096 0),
    .hot 1099511627776 0 (List.replicate 4096 0), .hot 0 18446744073709551616 (List.replicate 4096 0), .hot 0 0 [],
    .rpayTimeout 0 65536 0, .weltLinkUp 0 4294967296, .pairLeave 18446744073709551616,
    .dpllSteer (9223372036854775808), .dpllSteer (-9223372036854775809), .sBase 4294967296,
    .timeAdj (9223372036854775808), .timeAdj (-9223372036854775809), .timeStep (9223372036854775808),
    .timeStep (-9223372036854775809), .timeSet 0 4294967296, .ptpRole 256, .ptpProfile 256, .tevMode 0 0 256] : List Instr).all (fun i => !i.wellFormed) = true := by
  decide +kernel
theorem test_wellFormed_refuses6 : ([
    .netMode 0 256, .ageScanVisit [] 65536, .netPreempt 0 256, .segSend 0 8 0 [] [], .segSend 0 0 65536 [] [],
    .rxStart 0 0 (some (18446744073709551616, false)), .rxStop 0 0 (some (18446744073709551616, false)),
    .txStart 0 0 (some (18446744073709551616, false)), .txStop 0 0 (some (18446744073709551616, false)),
    .sapStart 0 0 (some (18446744073709551616, false)), .sapStop 0 0 (some (18446744073709551616, false)),
    .pscStart 0 0 (some (18446744073709551616, false)), .pscStop 0 0 (some (18446744073709551616, false)),
    .pscLoopCoef 0 0 [2147483648], .pscLoopSwapAt 0 0 18446744073709551616,
    .login { okOmp with session := 4294967296 } 0 [], .loginProof { okOmp with session := 4294967296 },
    .logout { okOmp with session := 4294967296 }, .read { okOmp with session := 4294967296 },
    .read { okOmp with seq := 4294967296 }] : List Instr).all (fun i => !i.wellFormed) = true := by
  decide +kernel
theorem test_wellFormed_refuses7 : ([
    .read { okOmp with tick := 18446744073709551616 }, .read { okOmp with body := List.replicate 65536 0 },
    .read { okOmp with tag := List.replicate 17 0 }, .write { okOmp with session := 4294967296 },
    .writeAt { okOmp with session := 4294967296 }, .blockRead { okOmp with session := 4294967296 } none,
    .blockWrite { okOmp with session := 4294967296 }, .heartbeat { okOmp with session := 4294967296 },
    .claimTake { okOmp with session := 4294967296 }, .claimRelease { okOmp with session := 4294967296 },
    .addrAnnounce 0 18446744073709551616, .t1sAccess 256, .bar0Bind 4294967296 [], .ringIndexWrite 0 4294967296 0,
    .ringIndexWrite 0 0 4294967296, .mtrPeriod 0 65536, .tjOvertemp (32768), .tjOvertemp (-32769),
    .registerWrite 0 65536 0 0 [], .registerWrite 0 0 256 0 []] : List Instr).all (fun i => !i.wellFormed) = true := by
  decide +kernel
theorem test_wellFormed_refuses8 : ([
    .registerWrite 0 0 0 4294967296 [], .junctionCaution false (32768) 0, .junctionCaution false (-32769) 0] : List Instr).all (fun i => !i.wellFormed) = true := by
  decide +kernel
/-- The same commands within their fields. -/
theorem test_wellFormed_takes1 : ([
    .taskStart 0 0, .coreLd16 0 ctl1 ⟨0, 0, false, 0⟩, .coreLd24 0 ctl1 ⟨0, 0, false, 0⟩,
    .coreLd32 0 ctl1 ⟨0, 0, false, 0⟩, .coreLd64 0 ctl1 ⟨0, 0, false, 0⟩, .coreSt16 0 ctl1 false ⟨0, 0, false, 0⟩,
    .coreSt24 0 ctl1 false ⟨0, 0, false, 0⟩, .coreSt32 0 ctl1 ⟨0, 0, false, 0⟩, .coreSt64 0 ctl1 ⟨0, 0, false, 0⟩,
    .corePadd 0 ctl1 0 0, .coreMovi 0 ctl1 0 0, .coreMovh 0 ctl1 0 0, .lastInstall 0 0, .routeEditAt 0 0 false [],
    .busGain 0 0 0, .busAuto 0 0 0, .xpGain 0 0 0, .silSignal 0 0 0 0 0, .genType 0 0 0 0 0 0, .trackerLock 0 0 0,
    .trackerInputReturn 0 0 0, .bankWrite 0 0 0 0 [], .swapAt 0 0 0 0, .areCoefWrite 0 0 0 [], .areCoefExp 0 0 0,
    .areSwapAt 0 0, .quota 0 0 0, .plotResetAt 0 false 0 false, .hoOffer 0 0, .hoAccept 0 0, .hoWithdraw 0 0,
    .beat 0 0, .idig 0 [], .rcpt 0 0 0 none, .rpay 0 0 0 [] 0, .mgmt 0 0 okAct, .mack 0,
    .mirror 0 0 (List.replicate 4096 0), .hot 0 0 (List.replicate 4096 0), .rpayTimeout 0 0 0] : List Instr).all Instr.wellFormed = true := by
  decide +kernel
/-- The same commands within their fields. -/
theorem test_wellFormed_takes2 : ([
    .weltLinkUp 0 0, .pairLeave 0, .dpllSteer 0, .sBase 0, .timeAdj 0, .timeStep 0, .timeSet 0 0, .ptpRole 0,
    .ptpProfile 0, .tevMode 0 0 0, .netMode 0 0, .ageScanVisit [] 0, .netPreempt 0 0, .segSend 0 0 0 [] [],
    .rxStart 0 0 none, .rxStop 0 0 none, .txStart 0 0 none, .txStop 0 0 none, .sapStart 0 0 none, .sapStop 0 0 none,
    .pscStart 0 0 none, .pscStop 0 0 none, .pscLoopCoef 0 0 [], .pscLoopSwapAt 0 0 0, .login okOmp 0 [],
    .loginProof okOmp, .logout okOmp, .read okOmp, .write okOmp, .writeAt okOmp, .blockRead okOmp none,
    .blockWrite okOmp, .heartbeat okOmp, .claimTake okOmp, .claimRelease okOmp, .addrAnnounce 0 0, .t1sAccess 0,
    .bar0Bind 0 [], .ringIndexWrite 0 0 0, .mtrPeriod 0 0] : List Instr).all Instr.wellFormed = true := by
  decide +kernel
/-- The same commands within their fields. -/
theorem test_wellFormed_takes3 : ([
    .tjOvertemp 0, .registerWrite 0 0 0 0 [], .junctionCaution false 0 0] : List Instr).all Instr.wellFormed = true := by
  decide +kernel

/-! The spec's worked examples. -/

/-- The state after a command. -/
def after (i : Instr) (s : State) : State := match exec i s with | .next t => t | _ => s
/-- Example 2.1: the identifiers of Table 2.10. -/
theorem test_example_identifiers :
    sigOf 0 128 = 0x0080 ∧ sigOf 4 100 = 0x8064 ∧ sigOf 1 288 = 0x2120 ∧ sigOf 3 40 = 0x6028 := by decide
/-- Example 7.1: the quota cut of plot 3, the grant to plot 6. -/
theorem test_example_quota :
    (let t := after (.quota 3 1 24) { st [(Reg.quota 3 1, 32)] with holdings := [⟨1, noUnit, 72, 32, 3, none, 0⟩] }
     t.reg (Reg.overMask 3) = 2 ∧ bit (t.reg (Reg.plotFlags 3)) 0 = true ∧ bit (t.reg (Reg.plotFault 3)) 5 = true) := by decide +kernel
theorem test_example_grant :
    (let t := after (.assignGrant 6 [1, 0, 0xFF, 0xFF, 0x60, 0, 0, 0, 8, 0, 0, 0, 0, 0, 0, 0])
       { st [(Reg.quota 6 1, 24)] with holdings := [⟨1, noUnit, 0, 16, 6, none, 0⟩] }
     t.reg (Reg.assignStatus 6) = 0 ∧ t.holdings = [⟨1, noUnit, 0, 16, 6, none, 0⟩, ⟨1, noUnit, 96, 8, 6, none, 0⟩]) := by decide +kernel
/-- Example 10.1: the batch of four, written in tick 799,992. -/
def batch10 : List Byte :=
  [(1, 0x4000, 100000), (2, 0xC000, 100000), (2, 0, 200000), (1, 0, 300000)].flatMap fun (e : Nat × Nat × Nat) =>
    leBytes 1 e.1 ++ [0] ++ leBytes 2 e.2.1 ++ leBytes 4 e.2.2 ++ leBytes 6 100 ++ [0, 0]
theorem test_example_tev_batch :
    (let t := after (.tevAction 2 5 batch10) { st [(Reg.tevMode 5, 2)] with holdings := [⟨28, noUnit, 5, 1, 2, none, 0⟩], tick := 799992 }
     t.reg (Reg.tevActStatus 5) = 0 ∧ (t.tev 5).acts.length = 4) := by decide +kernel
/-- Example 10.1: in tick 800,000 a and b fall in one step. -/
theorem test_example_tev_zero_window :
    (let t := after (.tevActionDue 5) { st [(Reg.tevMode 5, 2)] with
       holdings := [⟨28, noUnit, 5, 1, 2, none, 0⟩], tick := 800000, tevs := [(5, { acts := (records 16 batch10).map tevRecord })] }
     t.reg (Reg.tevState 5) = 0 ∧ (t.tev 5).acts.length = 2 ∧ ((t.tev 5).log.map fun e => e.getD 1 9) = [1, 1]) := by decide +kernel
/-- Example 11.1 and chapter 12: sizes and times of frames. -/
theorem test_example_frames :
    fmtHead 1 + 8 * 12 * 3 = 350 ∧ cellsOf 350 = 2 ∧ (st [(Reg.netMode 9, 3)]).wireNs 9 370 = 1184 ∧
    fmtHead 1 + 64 * 12 * 3 = 2366 ∧ fmtHead 1 + 8 * 48 * 3 = 1214 := by decide +kernel
/-- Example 13.1: the start in tick 2,000,002, RUNNING after the pre-roll, the stop that begins the ramp. -/
theorem test_example_sap :
    (after (.sapCmdApply 12) { st [(Reg.sapPreroll 12, 96)] with saps := [(12, { acts := [(2000002, true, false)] })], tick := 2000002 }).reg
      (Reg.sapState 12) = 1 ∧
    (after (.sapPrerollEnd 12) { st [(Reg.sapState 12, 1)] with tick := 2000010 }).reg (Reg.sapState 12) = 2 ∧
    (after (.sapCmdApply 12) { st [(Reg.sapState 12, 2)] with saps := [(12, { acts := [(2100002, false, false)] })], tick := 2100002 }).reg
      (Reg.sapState 12) = 3 := by decide +kernel
/-- Example 16.1: the page with SEQ 41 is abandoned at index 9, SEQ 42 is dropped, SEQ 43 is written at index 10. -/
def ring3 (prod nextSeq lost : Nat) (stalled : Bool) : State :=
  ringS 3 { owner := 2, pages := 16, kind := 0, prod := prod, cons := prod, nextSeq := nextSeq, lost := lost, staged := [pg], stalled := stalled }
theorem test_example_ring :
    (let x := (after (.pageAbandon 3) (ring3 9 41 0 false)).ring 3; x.prod = 10 ∧ x.nextSeq = 42 ∧ x.lost = 1 ∧ bit (x.status : Int) 1 = true) ∧
    (let x := (after (.pageAbandon 3) (ring3 10 42 1 true)).ring 3; x.prod = 10 ∧ x.nextSeq = 43 ∧ x.lost = 2 ∧ bit (x.status : Int) 2 = true) ∧
    (let x := (after (.pageWrite 3) (ring3 10 43 2 false)).ring 3; x.prod = 11 ∧ x.nextSeq = 44 ∧ x.lost = 2) := by decide +kernel
/-- Example 17.1: bytes of BAR0. -/
theorem test_example_bar0 :
    bar0Slot 1737744 = some (0x4002, 2) ∧ bar0Slot 1737736 = some (0x4002, 1) ∧ bar0Slot 696848 = some (0x3811, 2) := by decide +kernel
/-- Example 15.1: addresses of the ring in tick 1,000,000, and what tick 999,920 wrote. -/
theorem test_example_delay_line :
    (let w : DmaWin := ⟨0, false, 1, 8, 20, 2000, 7, false, 0x8000, 0x200000, 32768, 384, 0, 384, 0, 40⟩
     w.farAt 1000000 0 = 0x206000 ∧ w.farAt 999920 0 = 0x206800 ∧ ({ w with dir := 0, offset := 2048 } : DmaWin).farAt 1000000 0 = 0x206800) := by
  decide +kernel
/-- The check value of CRC-32, SHA-256 of "abc" (FIPS 180-4), HMAC of RFC 4231 case 2: their first words. -/
theorem test_hashes :
    crc32 (ascii "123456789") = 0xCBF43926 ∧ (sha256 (ascii "abc")).take 4 = [0xBA, 0x78, 0x16, 0xBF] ∧
    (hmac (ascii "Jefe") (ascii "what do ya want for nothing?")).take 4 = [0x5B, 0xDC, 0xC1, 0x46] := by decide +kernel
end Sys2Proof.Tests
end

section
/-!
PROOFS. Registers at the start of a task (03, R91, R128).
-/
namespace Sys2Proof.Machine

/-- Reading back a core that was changed. -/
@[simp] theorem core_modCore_same (s : State) (c : Nat) (f : CoreSt → CoreSt) :
    (s.modCore c f).core c = f (s.core c) := core_setCore_same s c _

/-! A core at a task's START: what its register reads return. The coprocessor is empty, so no pending result stands
before a g register. -/

@[simp] theorem CoreSt.start_run (k : CoreSt) (p : Nat) (t : Task) : (k.start p t).run = some ⟨t, p⟩ := rfl
@[simp] theorem CoreSt.start_rg (k : CoreSt) (p : Nat) (t : Task) (n : Nat) : (k.start p t).rg n = 0 := rfl
@[simp] theorem CoreSt.start_ra (k : CoreSt) (p : Nat) (t : Task) (n : Nat) : (k.start p t).ra n = 0 := rfl
@[simp] theorem CoreSt.start_rp (k : CoreSt) (p : Nat) (t : Task) (n : Nat) : (k.start p t).rp n = 0 := rfl
@[simp] theorem CoreSt.start_rq (k : CoreSt) (p : Nat) (t : Task) (n : Nat) : (k.start p t).rq n = false := rfl

/-- The last act of TASK_START for a task that begins is the start of its core, in a state where a task still running
there has been stopped (01, R51). -/
theorem execTaskStart_begins (p : Fin 16) (task : Nat) (t : Task) (s : State) (hfind : s.findTask p task = some t)
    (hnew : (s.task p task).started = false) (hread : (s.task p task).failStart = false)
    (hcopy : t.kind ≠ 2 ∨ s.reg (Reg.lastActiveSince p) = s.tick) :
    ∃ v : State, execTaskStart p task s = .next (v.modCore t.core fun k => k.start p t) := by
  have hgo : ¬((s.task p task).started = true ∨ (t.kind = 2 ∧ s.reg (Reg.lastActiveSince p) ≠ s.tick)) := by
    rintro (h | ⟨hkind, htick⟩)
    · simp [hnew] at h
    · exact hcopy.elim (· hkind) htick
  simp only [execTaskStart, hfind, if_neg hgo, hread, Bool.false_eq_true, if_false]
  exact ⟨_, rfl⟩

/-- Settles O5: whatever state the command prepares, its last act puts the core at a task's START. -/
theorem taskStartClearsRegisters : Obligations.TaskStartClearsRegisters := by
  intro p task t s hfind hnew hread hcopy
  obtain ⟨v, hv⟩ := execTaskStart_begins p task t s hfind hnew hread hcopy
  exact ⟨_, hv, by simp⟩

end Sys2Proof.Machine
end

section
/-!
PROOFS. Pages and sequence numbers (16, R466 to R469).
-/
namespace Sys2Proof.Machine

/-! What a ring, the host's side, the registers and memory read after the operations of a page. -/

@[simp] theorem ring_modRing_same (s : State) (r : Nat) (f : Ring → Ring) : (s.modRing r f).ring r = f (s.ring r) :=
  NTable.get_mod_same _ _ _ _
@[simp] theorem modRing_host (s : State) (r : Nat) (f : Ring → Ring) : (s.modRing r f).host = s.host := rfl
@[simp] theorem ring_setReg (s : State) (q : Reg) (v : Int) (r : Nat) : (s.setReg q v).ring r = s.ring r := rfl
@[simp] theorem ring_logEvent (s : State) (code level plot p0 p1 r : Nat) :
    (s.logEvent code level plot p0 p1).ring r = s.ring r := rfl

/-- What a change of the state leaves alone, it leaves alone under a condition. -/
theorem when_keeps {α : Type} {g : State → α} {s : State} {b : Bool} {f : State → State} (h : g (f s) = g s) :
    g (s.when b f) = g s := by
  cases b
  · rfl
  · exact h

theorem sameRegs_of_regs {s t : State} (h : t.regs = s.regs) (l : List Reg) : SameRegs s t l :=
  fun q _ => reg_of_regs h q
theorem sameRegs_setReg {s t : State} (h : t.regs = s.regs) (q : Reg) (v : Int) : SameRegs s (t.setReg q v) [q] :=
  fun q' hq => (reg_setReg_other t q q' v (hq ∘ List.mem_singleton.mpr)).trans (reg_of_regs h q')
theorem sameMem_of_mem {s t : State} (h : t.mem = s.mem) : SameMem s t := fun a => by simp only [State.byte, h]

/-! The seal (R466). -/

@[simp] theorem length_leBytes (n x : Nat) : (leBytes n x).length = n := by
  induction n generalizing x with
  | zero => rfl
  | succ n ih => simp [leBytes, ih]

/-- The last four bytes of a sealed page are its sequence number. -/
theorem drop_sealPage (seq : Nat) (body : List Byte) : (sealPage seq body).drop 4092 = leBytes 4 seq := by
  have hbody : ((body ++ List.replicate (4088 - body.length) (0 : Byte)).take 4088).length = 4088 := by
    rw [List.length_take, List.length_append, List.length_replicate]; omega
  exact List.drop_left' (by rw [List.length_append, hbody, length_leBytes])

/-! A page that is written and sealed at PROD (R467). -/

/-- A ring after a page was written at PROD. -/
theorem ring_writePage (s : State) (r : Nat) (b : List Byte) : (s.writePage r b).ring r =
    { s.ring r with
      prod := ((s.ring r).prod + 1) % 4294967296
      nextSeq := (s.ring r).nextSeq + 1
      run := if decide ((s.ring r).run + 1 ≥ (s.ring r).coalesce) then 0 else (s.ring r).run + 1
      stalled := false } := by
  refine (when_keeps (g := (·.ring r)) rfl).trans ?_
  simp only [State.ring, State.modRing, NTable.get_mod_same]
@[simp] theorem writePage_page (s : State) (r : Nat) (b : List Byte) :
    (s.writePage r b).host.page = some (r, (s.ring r).prod % (s.ring r).pages, b) := when_keeps (g := (·.host.page)) rfl
@[simp] theorem writePage_regs (s : State) (r : Nat) (b : List Byte) : (s.writePage r b).regs = s.regs :=
  when_keeps (g := (·.regs)) rfl
@[simp] theorem writePage_mem (s : State) (r : Nat) (b : List Byte) : (s.writePage r b).mem = s.mem :=
  when_keeps (g := (·.mem)) rfl

/-! The cases of PAGE_WRITE and PAGE_ABANDON (R468, R469; log entries 159 and 161). -/

section
variable {r : Fin 64} {g : StagedPage} {rest : List StagedPage} {s : State}

theorem execPageWrite_idle (h : (s.ring r).staged = [] ∨ (s.ring r).isOpen = false ∨ s.rst.kind = 3) :
    execPageWrite r s = .next s := by
  cases hstaged : (s.ring r).staged with
  | nil => simp only [execPageWrite, hstaged]
  | cons g rest =>
    have hstop : (s.ring r).isOpen = false ∨ s.rst.kind = 3 := by simpa [hstaged] using h
    simp [execPageWrite, hstaged, hstop]

theorem execPageAbandon_idle (h : (s.ring r).staged = [] ∨ (s.ring r).isOpen = false) :
    execPageAbandon r s = .next s := by
  cases hstaged : (s.ring r).staged with
  | nil => simp only [execPageAbandon, hstaged]
  | cons g rest =>
    have hclosed : (s.ring r).isOpen = false := by simpa [hstaged] using h
    simp [execPageAbandon, hstaged, hclosed]

theorem execPageWrite_free (hstaged : (s.ring r).staged = g :: rest) (hopen : (s.ring r).isOpen = true)
    (hkind : s.rst.kind ≠ 3) (hfree : (s.ring r).free = true) : execPageWrite r s =
      .next (((s.modRing r fun y => { y with staged := rest, stalled := false }).writePage r ((s.ring r).pageBytes g)).setReg
        (Reg.ringPagesSealed r) (bump64 (s.reg (Reg.ringPagesSealed r)))) := by
  simp [execPageWrite, hstaged, hopen, hkind, hfree]

theorem execPageWrite_drops (hstaged : (s.ring r).staged = g :: rest) (hopen : (s.ring r).isOpen = true)
    (hkind : s.rst.kind ≠ 3) (hfree : (s.ring r).free = false) : execPageWrite r s =
      .next ((s.modRing r fun y => { y with staged := rest, stalled := false }).modRing r Ring.dropPage) := by
  simp [execPageWrite, hstaged, hopen, hkind, hfree]

theorem execPageAbandon_begun (hstaged : (s.ring r).staged = g :: rest) (hopen : (s.ring r).isOpen = true)
    (hfree : (s.ring r).free = true) (hstalled : (s.ring r).stalled = false) : execPageAbandon r s =
      .next (((s.modRing r fun y => { y with staged := rest }).modRing r fun y => { y with
        prod := (y.prod + 1) % 4294967296, nextSeq := y.nextSeq + 1, lost := (y.lost + 1) % 4294967296
        status := y.status ||| 2, stalled := true }).logEvent 0x0702 1 16 r (s.ring r).nextSeq) := by
  simp [execPageAbandon, hstaged, hopen, hfree, hstalled]

theorem execPageAbandon_drops (hstaged : (s.ring r).staged = g :: rest) (hopen : (s.ring r).isOpen = true)
    (hdrop : (s.ring r).free = false ∨ (s.ring r).stalled = true) : execPageAbandon r s =
      .next ((s.modRing r fun y => { y with staged := rest }).modRing r Ring.dropPage) := by
  simp [execPageAbandon, hstaged, hopen, hdrop.symm]

end

/-! A message of the mailbox takes a page of ring 63 (R465). -/

section
variable {s : State} (msg : List Byte) (hmbox : s.host.mbox = true)
include hmbox

theorem mboxOut_free (hfree : (s.ring 63).free = true) :
    s.mboxOut msg = s.writePage 63 (sealPage (s.ring 63).nextSeq msg) := by
  simp [State.mboxOut, hmbox, hfree]
theorem mboxOut_drops (hfree : (s.ring 63).free = false) : s.mboxOut msg = s.modRing 63 Ring.dropPage := by
  simp [State.mboxOut, hmbox, hfree]

theorem mboxOut_nextSeq : ((s.mboxOut msg).ring 63).nextSeq = (s.ring 63).nextSeq + 1 := by
  cases hfree : (s.ring 63).free with
  | true => rw [mboxOut_free msg hmbox hfree, ring_writePage]
  | false => rw [mboxOut_drops msg hmbox hfree, ring_modRing_same]; rfl

end

/-- Settles O55: each case of the two commands and of the mailbox either leaves the state alone or ends in one change of
the ring (written, abandoned, dropped), and each of these changes advances the sequence number. -/
theorem pagesUseUpSequenceNumbers : Obligations.PagesUseUpSequenceNumbers := by
  intro r g rest s
  refine ⟨fun msg hmbox => ⟨mboxOut_nextSeq msg hmbox, fun hfree => ?mailboxDrops⟩,
    fun h => ⟨execPageWrite_idle (h.imp_right .inl), execPageAbandon_idle h⟩,
    fun hkind => execPageWrite_idle (.inr (.inr hkind)),
    fun hstaged hopen => ⟨fun hkind hfree => ⟨_, execPageWrite_free hstaged hopen hkind hfree, ?written⟩,
      fun hkind hfree => ⟨_, execPageWrite_drops hstaged hopen hkind hfree, ?writeDrops⟩,
      fun hfree hstalled => ⟨_, execPageAbandon_begun hstaged hopen hfree hstalled, ?abandoned⟩,
      fun hdrop => ⟨_, execPageAbandon_drops hstaged hopen hdrop, ?abandonDrops⟩⟩⟩
  case mailboxDrops => simp only [mboxOut_drops msg hmbox hfree, ring_modRing_same, Ring.dropPage, true_and]
  case written =>
    simp only [setReg_host, writePage_page, ring_setReg, ring_writePage, ring_modRing_same, true_and]
    exact ⟨drop_sealPage _ _, reg_setReg_same _ _ _, sameRegs_setReg (by rw [writePage_regs, modRing_regs]) _ _,
      sameMem_of_mem (by rw [setReg_mem, writePage_mem, modRing_mem])⟩
  case abandoned =>
    simp only [ring_logEvent, ring_modRing_same, logEvent_host, modRing_host, true_and]
    exact ⟨sameRegs_of_regs (by simp only [logEvent_regs, modRing_regs]) _,
      sameMem_of_mem (by simp only [logEvent_mem, modRing_mem])⟩
  case writeDrops | abandonDrops =>
    simp only [ring_modRing_same, modRing_host, Ring.dropPage, true_and]
    exact ⟨sameRegs_of_regs rfl _, sameMem_of_mem rfl⟩

end Sys2Proof.Machine
end

section
/-!
PROOFS. What every command answers and keeps, and the first command of the queue (00, 15, 16).
-/
namespace Sys2Proof.Machine

/-! Completion: no branch of a command's meaning ends in a fault or a refusal. -/

/-- A meaning answers a next state. -/
def Completes (o : Out) : Prop := ∃ t, o = .next t

theorem completes_next (t : State) : Completes (.next t) := ⟨t, rfl⟩
theorem completes_ite {c : Prop} [Decidable c] {a b : Out} (ha : Completes a) (hb : Completes b) :
    Completes (if c then a else b) := by
  split <;> assumption

/-- Every leaf of every command's meaning is a next state: of most commands the whole meaning, of the others, named here,
what stands at the end of each branch. -/
theorem exec_completes (i : Instr) (s : State) : Completes (exec i s) := by
  cases i
  all_goals try exact completes_next _
  all_goals dsimp only [exec]
  all_goals
    delta
      execTickBoundary execIngestReady execStagingDeadline execEgressOpening execTaskStart execTaskDeadlineStop
      execCoprocResultWrite execLastStage execLastInstall execLastChecksComplete execLastCancel execShadowCommit
      execPairSwapTimeout execRouteEditAt execBusGain execBusMute execBusAuto execXpGain execXpMute execSilSignal
      execSilenceHoldExpire execGenType execTrackerLock execTrackerLost execTrackerInputReturn execTrackerResync
      execTrackerRecentred execMsgPost execMsgEnterInbox execBankWrite execSwapAt execFcuSwapBegin execFcuFadeEnd
      execAreCoefWrite execAreCoefExp execAreCoefStoreWrite execAreImgLoad execAreSwapAt execAreSwapBegin
      execAreFadeEnd execAreUecc execAreHistoryUecc execQuota execTrim execPlotResetAt execPlotResetApply
      execPlotResetComplete execHoOffer execHoAccept execHoWithdraw execPairWaitExpire execTick execBeat execDigest
      execIdig execRcpt execRpay execLfwd execMgmt execMirror execHot execPdig execRpayTimeout execWeltLinkUp
      execDigestCompare execFocusProofEnd execPartnerAuthChange execHandover execMackTimeout execGraftStart
      execGraftPhaseComplete execGraftPhaseTimeout execGraftJoin execPairLeave execPairLeaveApply execPairTake
      execPairTakeApply execProofSetPass execClockLoss execRefQualified execDpllLadderAdvance execDpllLock
      execDpllLockLost execSlewComplete execHoldoverDegrade execDpllSteer execSBase execTimeIncr execTimeAdj
      execTimeStep execTimeSet execPtpRole execPtpProfile execPtpMessageRx execServoLock execServoUnlock
      execAnnounceTimeout execLaunch execTevMode execTevCapture execTevAction execCancel execTevActionDue
      execTevPulseEdge execNetMode execNetPowerdownDone execNetLinkDown execNetLinkUp execFrameRx
      execLearnEventApply execAgeScanVisit execFdbAdd execFdbDel execMcAdd execMcDel execNetQcells execNetBaseGcl
      execBaseGclApply execNetPreempt execPreemptVerifyDone execPreemptHold execSegSend execEsmcTx execEsmcTimeout
      execStreamCmdApply execStreamStopComplete execPlayoutDeadline execSapCmdApply execSapFrame execSapPrerollEnd
      execSapRampdownEnd execSapPostrollEnd execSapClockLost execSapMute execSapEventClear execPscLoopUpdate
      execPscCarrierStop execPscSenseLoss execPscAutoRestart execPscFaultClear execPscLoopCoef execPscLoopSwapAt
      execLoopSwapApply execPscZWindowEnd execPscEventClear execDmaWindowRun execTrellisResponse execLoginLapse
      execBlockTransferAbort execBlockSnapshotExpire execSessionTimeout execLockoutEnd execAddrAnnounce
      execChainAddressTake execAddrAnnounceTx execAddrRestart execT1sAccess execBar0Access execBar0Bind execMboxOpen
      execRingOpen execRingClose execRingIndexWrite execPageWrite execPageAbandon execMeterPeriodEnd execMtrSet
      execMtrPeriod execMeterSetApply execResetPin execTjOvertemp execWatchdogExpire execStretchEnd
      execBringupPhaseDone execFirmwareReady execFwReadyTimeout execFwStage execFwSwitch execOptBlock
      execRailCrossing execRailClear execFlashHoldEnd execPwrMainOkChange execPwrBattOnChange execBracePolicyApply
      execBattMissing execUnbrace execUnbraceComplete execLogQueueDrain execLogDropped execLogScrub execLogUnfreeze
      execFaultFrameStart execFaultClear execRegisterWrite execJunctionCaution execPtpMessageTx
  all_goals
    repeat' first
      | exact completes_next _
      | with_reducible apply completes_ite
      | extract_lets
      | split
      | (dsimp +zetaDelta only; split)

/-! Reach: a property of memory, the queue and the tick is kept by a command that cannot change what it speaks of. -/

section
variable {P : NTable Byte → List Instr → Nat → Prop}

/-- A property need allow storing only for the commands that store, and any tick only for those that move the tick. -/
theorem keeps_exec_reach (i : Instr) (s : State) (ht : movesTick i = true → AnyTick P)
    (hc : storesBytes i = true → Closed P) (hm : Holds P s) : OutHolds P (exec i s) := by
  cases i with
  | tickBoundary rep => exact keeps_execTickBoundary (ht rfl) (hc rfl) rep s hm
  | ingestReady => exact keeps_execIngestReady (hc rfl) s hm
  | stagingDeadline half unstaged => exact keeps_execStagingDeadline (hc rfl) half unstaged s hm
  | egressOpening half => exact keeps_execEgressOpening half s hm
  | taskStart p task => exact keeps_execTaskStart p task s hm
  | taskDeadlineStop c => exact keeps_execTaskDeadlineStop c s hm
  | coprocResultWrite c => exact keeps_execCoprocResultWrite c s hm
  | coreLd16 c ctl x => exact keeps_execCoreLd16 (hc rfl) c ctl x s hm
  | coreLd24 c ctl x => exact keeps_execCoreLd24 (hc rfl) c ctl x s hm
  | coreLd32 c ctl x => exact keeps_execCoreLd32 (hc rfl) c ctl x s hm
  | coreLd64 c ctl x => exact keeps_execCoreLd64 (hc rfl) c ctl x s hm
  | coreLd2 c ctl d1 k d2 j => exact keeps_execCoreLd2 (hc rfl) c ctl d1 k d2 j s hm
  | coreLdst c ctl d k v j => exact keeps_execCoreLdst (hc rfl) c ctl d k v j s hm
  | coreLd2st c ctl quad k j v w => exact keeps_execCoreLd2st (hc rfl) c ctl quad k j v w s hm
  | coreSt16 c ctl trunc x => exact keeps_execCoreSt16 (hc rfl) c ctl trunc x s hm
  | coreSt24 c ctl trunc x => exact keeps_execCoreSt24 (hc rfl) c ctl trunc x s hm
  | coreSt32 c ctl x => exact keeps_execCoreSt32 (hc rfl) c ctl x s hm
  | coreSt64 c ctl x => exact keeps_execCoreSt64 (hc rfl) c ctl x s hm
  | coreSmax c ctl best idx k single => exact keeps_execCoreSmax (hc rfl) c ctl best idx k single s hm
  | coreSmin c ctl best idx k single => exact keeps_execCoreSmin (hc rfl) c ctl best idx k single s hm
  | coreSmaxa c ctl best idx k single => exact keeps_execCoreSmaxa (hc rfl) c ctl best idx k single s hm
  | coreSmina c ctl best idx k single => exact keeps_execCoreSmina (hc rfl) c ctl best idx k single s hm
  | corePmov c ctl toG g k => exact keeps_execCorePmov (hc rfl) c ctl toG g k s hm
  | corePadd c ctl k imm => exact keeps_execCorePadd (hc rfl) c ctl k imm s hm
  | coreAdd c ctl sa rd rs rt => exact keeps_execCoreAdd (hc rfl) c ctl sa rd rs rt s hm
  | coreSub c ctl sa rd rs rt => exact keeps_execCoreSub (hc rfl) c ctl sa rd rs rt s hm
  | coreAnd c ctl rd rs rt => exact keeps_execCoreAnd (hc rfl) c ctl rd rs rt s hm
  | coreOr c ctl rd rs rt => exact keeps_execCoreOr (hc rfl) c ctl rd rs rt s hm
  | coreXor c ctl rd rs rt => exact keeps_execCoreXor (hc rfl) c ctl rd rs rt s hm
  | coreMin c ctl rd rs rt => exact keeps_execCoreMin (hc rfl) c ctl rd rs rt s hm
  | coreMax c ctl rd rs rt => exact keeps_execCoreMax (hc rfl) c ctl rd rs rt s hm
  | coreMulf c ctl trunc rd rs rt => exact keeps_execCoreMulf (hc rfl) c ctl trunc rd rs rt s hm
  | coreMuli c ctl rd rs rt => exact keeps_execCoreMuli (hc rfl) c ctl rd rs rt s hm
  | coreSrai c ctl rd rs n => exact keeps_execCoreSrai (hc rfl) c ctl rd rs n s hm
  | coreSlli c ctl rd rs n => exact keeps_execCoreSlli (hc rfl) c ctl rd rs n s hm
  | coreSrli c ctl rd rs n => exact keeps_execCoreSrli (hc rfl) c ctl rd rs n s hm
  | coreSrar c ctl trunc rd rs n => exact keeps_execCoreSrar (hc rfl) c ctl trunc rd rs n s hm
  | coreMov c ctl rd rs => exact keeps_execCoreMov (hc rfl) c ctl rd rs s hm
  | coreNeg c ctl sa rd rs => exact keeps_execCoreNeg (hc rfl) c ctl sa rd rs s hm
  | coreAbs c ctl sa rd rs => exact keeps_execCoreAbs (hc rfl) c ctl sa rd rs s hm
  | coreNot c ctl rd rs => exact keeps_execCoreNot (hc rfl) c ctl rd rs s hm
  | coreCmp c ctl q cond rs rt => exact keeps_execCoreCmp (hc rfl) c ctl q cond rs rt s hm
  | coreMovi c ctl rd imm => exact keeps_execCoreMovi (hc rfl) c ctl rd imm s hm
  | coreMovh c ctl rd imm => exact keeps_execCoreMovh (hc rfl) c ctl rd imm s hm
  | coreCmac c ctl a x y f => exact keeps_execCoreCmac (hc rfl) c ctl a x y f s hm
  | coreCmac2 c ctl a0 a1 x y f => exact keeps_execCoreCmac2 (hc rfl) c ctl a0 a1 x y f s hm
  | coreQmac c ctl a x y f => exact keeps_execCoreQmac (hc rfl) c ctl a x y f s hm
  | coreQmac2 c ctl a0 a1 x y f => exact keeps_execCoreQmac2 (hc rfl) c ctl a0 a1 x y f s hm
  | coreAcv c ctl trunc rd a n => exact keeps_execCoreAcv (hc rfl) c ctl trunc rd a n s hm
  | coreAsr c ctl trunc d a n => exact keeps_execCoreAsr (hc rfl) c ctl trunc d a n s hm
  | coreAsl c ctl d a n => exact keeps_execCoreAsl (hc rfl) c ctl d a n s hm
  | coreAmov c ctl d rs => exact keeps_execCoreAmov (hc rfl) c ctl d rs s hm
  | coreAadd c ctl d a b => exact keeps_execCoreAadd (hc rfl) c ctl d a b s hm
  | coreAsub c ctl d a b => exact keeps_execCoreAsub (hc rfl) c ctl d a b s hm
  | coreAzero c ctl d => exact keeps_execCoreAzero (hc rfl) c ctl d s hm
  | coreAcmp c ctl q cond a b => exact keeps_execCoreAcmp (hc rfl) c ctl q cond a b s hm
  | coreBr c ctl hint target => exact keeps_execCoreBr (hc rfl) c ctl hint target s hm
  | coreCall c ctl target => exact keeps_execCoreCall (hc rfl) c ctl target s hm
  | coreJr c ctl g => exact keeps_execCoreJr (hc rfl) c ctl g s hm
  | coreLoop c ctl fromReg count len => exact keeps_execCoreLoop (hc rfl) c ctl fromReg count len s hm
  | coreEnd c ctl => exact keeps_execCoreEnd (hc rfl) c ctl s hm
  | coreTrap c ctl code => exact keeps_execCoreTrap (hc rfl) c ctl code s hm
  | corePop c ctl q quad => exact keeps_execCorePop (hc rfl) c ctl q quad s hm
  | coreDmat c ctl n => exact keeps_execCoreDmat (hc rfl) c ctl n s hm
  | coreMovc c ctl fromCtl cr g => exact keeps_execCoreMovc (hc rfl) c ctl fromCtl cr g s hm
  | coreDiv c ctl rd rs rt => exact keeps_execCoreDiv (hc rfl) c ctl rd rs rt s hm
  | coreSqrt c ctl rd rs => exact keeps_execCoreSqrt (hc rfl) c ctl rd rs s hm
  | coreLog2 c ctl rd rs => exact keeps_execCoreLog2 (hc rfl) c ctl rd rs s hm
  | coreExp2 c ctl rd rs => exact keeps_execCoreExp2 (hc rfl) c ctl rd rs s hm
  | coreMag c ctl rd rs rt => exact keeps_execCoreMag (hc rfl) c ctl rd rs rt s hm
  | coreAtan2 c ctl rd rs rt => exact keeps_execCoreAtan2 (hc rfl) c ctl rd rs rt s hm
  | coreScrub corrected uncorrectable => exact keeps_execCoreScrub (hc rfl) corrected uncorrectable s hm
  | lastStage p owner image => exact keeps_execLastStage p owner image s hm
  | lastInstall p t => exact keeps_execLastInstall p t s hm
  | lastChecksComplete p => exact keeps_execLastChecksComplete p s hm
  | lastCancel p => exact keeps_execLastCancel p s hm
  | shadowCommit p => exact keeps_execShadowCommit (hc rfl) p s hm
  | pairSwapTimeout p => exact keeps_execPairSwapTimeout (hc rfl) p s hm
  | lastSwap p => exact keeps_execLastSwap p s hm
  | timedActionApply => exact keeps_execTimedActionApply s hm
  | routeEdit p batch => exact keeps_execRouteEdit p batch s hm
  | routeEditAt p t lateOk batch => exact keeps_execRouteEditAt p t lateOk batch s hm
  | routeEditApply p => exact keeps_execRouteEditApply p s hm
  | routeHeldApply p => exact keeps_execRouteHeldApply p s hm
  | busGain p b gain => exact keeps_execBusGain p b gain s hm
  | busMute p b mute => exact keeps_execBusMute p b mute s hm
  | busAuto p b law => exact keeps_execBusAuto p b law s hm
  | xpGain p x gain => exact keeps_execXpGain p x gain s hm
  | xpMute p x mute => exact keeps_execXpMute p x mute s hm
  | mixWriteApply => exact keeps_execMixWriteApply s hm
  | silSignal p d sig thresh hold => exact keeps_execSilSignal p d sig thresh hold s hm
  | silenceHoldExpire d => exact keeps_execSilenceHoldExpire d s hm
  | genType p g ty freq level seed => exact keeps_execGenType p g ty freq level seed s hm
  | trackerLock t rate ppb => exact keeps_execTrackerLock t rate ppb s hm
  | trackerLost t => exact keeps_execTrackerLost t s hm
  | trackerInputReturn t rate ppb => exact keeps_execTrackerInputReturn t rate ppb s hm
  | trackerResync t => exact keeps_execTrackerResync t s hm
  | trackerRecentred t => exact keeps_execTrackerRecentred t s hm
  | msgPost p c msg => exact keeps_execMsgPost p c msg s hm
  | msgEnterInbox c => exact keeps_execMsgEnterInbox c s hm
  | bankWrite p u g offset words => exact keeps_execBankWrite p u g offset words s hm
  | swapAt p u g sample => exact keeps_execSwapAt p u g sample s hm
  | fcuSwapBegin u g => exact keeps_execFcuSwapBegin u g s hm
  | fcuFadeEnd u g => exact keeps_execFcuFadeEnd u g s hm
  | fcuUecc u g addr => exact keeps_execFcuUecc u g addr s hm
  | fcuScrub uncorrectable => exact keeps_execFcuScrub uncorrectable s hm
  | areCoefWrite p xp offset coefs => exact keeps_execAreCoefWrite p xp offset coefs s hm
  | areCoefExp p xp e => exact keeps_execAreCoefExp p xp e s hm
  | areCoefStoreWrite p => exact keeps_execAreCoefStoreWrite p s hm
  | areImgStore p image => exact keeps_execAreImgStore p image s hm
  | areImgLoad p => exact keeps_execAreImgLoad p s hm
  | areSwapAt p b => exact keeps_execAreSwapAt p b s hm
  | areSwapBegin p set => exact keeps_execAreSwapBegin p set s hm
  | areFadeEnd xp => exact keeps_execAreFadeEnd xp s hm
  | areUecc xp residue => exact keeps_execAreUecc xp residue s hm
  | areHistoryUecc addr => exact keeps_execAreHistoryUecc addr s hm
  | areScrub corrected coef hist => exact keeps_execAreScrub corrected coef hist s hm
  | assignGrant p batch => exact keeps_execAssignGrant p batch s hm
  | assignRelease p batch => exact keeps_execAssignRelease p batch s hm
  | releaseTakeEffect p => exact keeps_execReleaseTakeEffect p s hm
  | scrubComplete => exact keeps_execScrubComplete (hc rfl) s hm
  | quota p code v => exact keeps_execQuota p code v s hm
  | trim p => exact keeps_execTrim p s hm
  | plotReset p keys => exact keeps_execPlotReset p keys s hm
  | plotResetAt p keys t lateOk => exact keeps_execPlotResetAt p keys t lateOk s hm
  | plotResetApply p => exact keeps_execPlotResetApply p s hm
  | plotResetComplete p => exact keeps_execPlotResetComplete p s hm
  | hoOffer p w => exact keeps_execHoOffer p w s hm
  | hoAccept p w => exact keeps_execHoAccept p w s hm
  | hoWithdraw p w => exact keeps_execHoWithdraw p w s hm
  | handoffForm h => exact keeps_execHandoffForm h s hm
  | handoffWithdrawApply h => exact keeps_execHandoffWithdrawApply h s hm
  | ownerKey p n key => exact keeps_execOwnerKey p n key s hm
  | observerKey p n key => exact keeps_execObserverKey p n key s hm
  | plotFaultClear p m => exact keeps_execPlotFaultClear p m s hm
  | pairWaitExpire => exact keeps_execPairWaitExpire s hm
  | tick l f => exact keeps_execTick (ht rfl) (hc rfl) l f s hm
  | beat l t => exact keeps_execBeat l t s hm
  | digest c => exact keeps_execDigest c s hm
  | idig t l => exact keeps_execIdig t l s hm
  | rcpt t seq crc at_ => exact keeps_execRcpt t seq crc at_ s hm
  | rpay t seq index payload at_ => exact keeps_execRpay t seq index payload at_ s hm
  | lfwd x => exact keeps_execLfwd x s hm
  | mgmt seq t a => exact keeps_execMgmt seq t a s hm
  | mack seq => exact keeps_execMack seq s hm
  | mirror page w data => exact keeps_execMirror page w data s hm
  | hot page w data => exact keeps_execHot (hc rfl) page w data s hm
  | pdig l => exact keeps_execPdig l s hm
  | rpayTimeout t seq now => exact keeps_execRpayTimeout t seq now s hm
  | weltLinkDown l => exact keeps_execWeltLinkDown l s hm
  | weltLinkUp l ps => exact keeps_execWeltLinkUp l ps s hm
  | digestCompare full => exact keeps_execDigestCompare full s hm
  | focusProofEnd => exact keeps_execFocusProofEnd s hm
  | partnerAuthChange level => exact keeps_execPartnerAuthChange level s hm
  | handover => exact keeps_execHandover s hm
  | mackTimeout => exact keeps_execMackTimeout s hm
  | graftStart => exact keeps_execGraftStart s hm
  | graftPhaseComplete partner copy => exact keeps_execGraftPhaseComplete partner copy s hm
  | graftPhaseTimeout partner => exact keeps_execGraftPhaseTimeout partner s hm
  | graftJoin => exact keeps_execGraftJoin s hm
  | graftAbort => exact keeps_execGraftAbort s hm
  | pairLeave t => exact keeps_execPairLeave t s hm
  | pairLeaveApply => exact keeps_execPairLeaveApply s hm
  | pairTake => exact keeps_execPairTake s hm
  | pairTakeApply => exact keeps_execPairTakeApply s hm
  | pairSuspectClear => exact keeps_execPairSuspectClear s hm
  | proofFail kind unit => exact keeps_execProofFail kind unit s hm
  | proofSetPass => exact keeps_execProofSetPass s hm
  | clockLoss d => exact keeps_execClockLoss d s hm
  | refFault r bits => exact keeps_execRefFault r bits s hm
  | refQualified r => exact keeps_execRefQualified r s hm
  | dpllLadderAdvance => exact keeps_execDpllLadderAdvance s hm
  | dpllLock => exact keeps_execDpllLock s hm
  | dpllLockLost => exact keeps_execDpllLockLost s hm
  | slewComplete => exact keeps_execSlewComplete s hm
  | holdoverDegrade => exact keeps_execHoldoverDegrade s hm
  | dpllStickyClear m => exact keeps_execDpllStickyClear m s hm
  | dpllSteer v => exact keeps_execDpllSteer v s hm
  | sBase hz => exact keeps_execSBase hz s hm
  | timeIncr v => exact keeps_execTimeIncr v s hm
  | timeAdj a => exact keeps_execTimeAdj a s hm
  | timeStep d => exact keeps_execTimeStep d s hm
  | timeSet sec ns => exact keeps_execTimeSet sec ns s hm
  | counterChangeApply => exact keeps_execCounterChangeApply (ht rfl) s hm
  | ptpRole v => exact keeps_execPtpRole v s hm
  | ptpProfile v => exact keeps_execPtpProfile v s hm
  | ptpMessageRx n m => exact keeps_execPtpMessageRx n m s hm
  | servoLock => exact keeps_execServoLock s hm
  | servoUnlock => exact keeps_execServoUnlock s hm
  | announceTimeout => exact keeps_execAnnounceTimeout s hm
  | tsFifoRead => exact keeps_execTsFifoRead s hm
  | launch n now => exact keeps_execLaunch n now s hm
  | launchLateDrop n now => exact keeps_execLaunchLateDrop n now s hm
  | tevMode p n mode => exact keeps_execTevMode p n mode s hm
  | tevCapture n falling ns => exact keeps_execTevCapture n falling ns s hm
  | tevCapRead n => exact keeps_execTevCapRead n s hm
  | tevAction p n batch => exact keeps_execTevAction p n batch s hm
  | cancel p n => exact keeps_execCancel p n s hm
  | tevActionDue n => exact keeps_execTevActionDue n s hm
  | tevPulseEdge n => exact keeps_execTevPulseEdge n s hm
  | netMode n mode => exact keeps_execNetMode n mode s hm
  | netPowerdownDone n => exact keeps_execNetPowerdownDone n s hm
  | netLinkDown n => exact keeps_execNetLinkDown n s hm
  | netLinkUp n sgmii => exact keeps_execNetLinkUp n sgmii s hm
  | frameRx n f => exact keeps_execFrameRx n f s hm
  | learnEventApply now => exact keeps_execLearnEventApply now s hm
  | flapWindowEnd now => exact keeps_execFlapWindowEnd now s hm
  | flapHoldExpire now => exact keeps_execFlapHoldExpire now s hm
  | ageScanVisit mac fid => exact keeps_execAgeScanVisit mac fid s hm
  | fdbAdd b => exact keeps_execFdbAdd b s hm
  | fdbDel b => exact keeps_execFdbDel b s hm
  | netFlush n => exact keeps_execNetFlush n s hm
  | mcAdd b => exact keeps_execMcAdd b s hm
  | mcDel b => exact keeps_execMcDel b s hm
  | netQcells n cells => exact keeps_execNetQcells n cells s hm
  | netBaseGcl n b => exact keeps_execNetBaseGcl n b s hm
  | baseGclApply n => exact keeps_execBaseGclApply n s hm
  | gateChange n now => exact keeps_execGateChange n now s hm
  | residenceDrop n now => exact keeps_execResidenceDrop n now s hm
  | netPreempt n v => exact keeps_execNetPreempt n v s hm
  | preemptVerifyDone n ok => exact keeps_execPreemptVerifyDone n ok s hm
  | preemptHold n now => exact keeps_execPreemptHold n now s hm
  | segSend n q mss head payload => exact keeps_execSegSend n q mss head payload s hm
  | esmcTx n => exact keeps_execEsmcTx n s hm
  | esmcTimeout n now => exact keeps_execEsmcTimeout n now s hm
  | rxStart p t at_ => exact keeps_execRxStart p t at_ s hm
  | rxStop p t at_ => exact keeps_execRxStop p t at_ s hm
  | txStart p t at_ => exact keeps_execTxStart p t at_ s hm
  | txStop p t at_ => exact keeps_execTxStop p t at_ s hm
  | streamCmdApply rx t => exact keeps_execStreamCmdApply rx t s hm
  | streamStopComplete rx t => exact keeps_execStreamStopComplete rx t s hm
  | playoutDeadline t => exact keeps_execPlayoutDeadline t s hm
  | nonaudioHoldExpire sap t k => exact keeps_execNonaudioHoldExpire sap t k s hm
  | sapStart p n at_ => exact keeps_execSapStart p n at_ s hm
  | sapStop p n at_ => exact keeps_execSapStop p n at_ s hm
  | sapCmdApply n => exact keeps_execSapCmdApply n s hm
  | sapFrame n f => exact keeps_execSapFrame n f s hm
  | sapPrerollEnd n => exact keeps_execSapPrerollEnd n s hm
  | sapRampdownEnd n => exact keeps_execSapRampdownEnd n s hm
  | sapPostrollEnd n => exact keeps_execSapPostrollEnd n s hm
  | sapClockLost n now => exact keeps_execSapClockLost n now s hm
  | sapMute p n mute => exact keeps_execSapMute p n mute s hm
  | sapEventClear p n m => exact keeps_execSapEventClear p n m s hm
  | pscStart p n at_ => exact keeps_execPscStart p n at_ s hm
  | pscStop p n at_ => exact keeps_execPscStop p n at_ s hm
  | pscBoundary temps => exact keeps_execPscBoundary temps s hm
  | pscLoopUpdate n v i_ v1 i1 => exact keeps_execPscLoopUpdate n v i_ v1 i1 s hm
  | pscCarrierStop n => exact keeps_execPscCarrierStop n s hm
  | pscSenseLoss n => exact keeps_execPscSenseLoss n s hm
  | pscAutoRestart n => exact keeps_execPscAutoRestart n s hm
  | pscFaultClear p n => exact keeps_execPscFaultClear p n s hm
  | pscLoopCoef p n words => exact keeps_execPscLoopCoef p n words s hm
  | pscLoopSwapAt p n t => exact keeps_execPscLoopSwapAt p n t s hm
  | loopSwapApply n => exact keeps_execLoopSwapApply n s hm
  | pscZWindowEnd n => exact keeps_execPscZWindowEnd n s hm
  | pscEventClear p n m => exact keeps_execPscEventClear p n m s hm
  | dmaWindowRun p win failed parity => exact keeps_execDmaWindowRun (hc rfl) p win failed parity s hm
  | trellisResponse m addr data cause => exact keeps_execTrellisResponse (hc rfl) m addr data cause s hm
  | memUecc sel addr win bus port => exact keeps_execMemUecc (hc rfl) sel addr win bus port s hm
  | memScrub corrected => exact keeps_execMemScrub corrected s hm
  | dramDerate ctl multiple hot mr4 => exact keeps_execDramDerate ctl multiple hot mr4 s hm
  | login m number challenge => exact keeps_execLogin m number challenge s hm
  | loginProof m => exact keeps_execLoginProof m s hm
  | loginLapse n => exact keeps_execLoginLapse n s hm
  | logout m => exact keeps_execLogout m s hm
  | read m => exact keeps_execRead m s hm
  | write m => exact keeps_execWrite m s hm
  | writeAt m => exact keeps_execWriteAt m s hm
  | blockRead m bad => exact keeps_execBlockRead m bad s hm
  | blockWrite m => exact keeps_execBlockWrite m s hm
  | blockTransferAbort n k => exact keeps_execBlockTransferAbort n k s hm
  | blockSnapshotExpire n => exact keeps_execBlockSnapshotExpire n s hm
  | heartbeat m => exact keeps_execHeartbeat m s hm
  | claimTake m => exact keeps_execClaimTake m s hm
  | claimRelease m => exact keeps_execClaimRelease m s hm
  | sessionTimeout n => exact keeps_execSessionTimeout n s hm
  | lockoutEnd transport source => exact keeps_execLockoutEnd transport source s hm
  | gardenerKey n key => exact keeps_execGardenerKey n key s hm
  | addrAnnounce a uid => exact keeps_execAddrAnnounce a uid s hm
  | chainAddressTake now => exact keeps_execChainAddressTake now s hm
  | addrAnnounceTx now => exact keeps_execAddrAnnounceTx now s hm
  | addrRestart => exact keeps_execAddrRestart s hm
  | t1sAccess v => exact keeps_execT1sAccess v s hm
  | bar0Access off w => exact keeps_execBar0Access off w s hm
  | bar0Bind session tag => exact keeps_execBar0Bind session tag s hm
  | mboxOpen inBase outBase pages up => exact keeps_execMboxOpen inBase outBase pages up s hm
  | ringOpen n r rec => exact keeps_execRingOpen n r rec s hm
  | ringClose n r => exact keeps_execRingClose n r s hm
  | ringIndexWrite r off v => exact keeps_execRingIndexWrite r off v s hm
  | pageWrite r => exact keeps_execPageWrite r s hm
  | pageAbandon r => exact keeps_execPageAbandon r s hm
  | pcieLinkLoss => exact keeps_execPcieLinkLoss s hm
  | meterPeriodEnd p => exact keeps_execMeterPeriodEnd p s hm
  | mtrSet p recs => exact keeps_execMtrSet p recs s hm
  | mtrPeriod p v => exact keeps_execMtrPeriod p v s hm
  | meterSetApply p => exact keeps_execMeterSetApply p s hm
  | powerOnReset => exact keeps_execPowerOnReset s hm
  | resetPin => exact keeps_execResetPin s hm
  | tjOvertemp tenths => exact keeps_execTjOvertemp tenths s hm
  | rstCmdCold => exact keeps_execRstCmdCold s hm
  | rstCmdWarm => exact keeps_execRstCmdWarm s hm
  | rstCmdGardener => exact keeps_execRstCmdGardener s hm
  | rstCmdPort port => exact keeps_execRstCmdPort port s hm
  | resetCmdApply => exact keeps_execResetCmdApply s hm
  | resetEnter => exact keeps_execResetEnter (ht rfl) (hc rfl) s hm
  | watchdogExpire now => exact keeps_execWatchdogExpire now s hm
  | stretchEnd port => exact keeps_execStretchEnd port s hm
  | bringupPhaseDone rep => exact keeps_execBringupPhaseDone rep s hm
  | firmwareReady now => exact keeps_execFirmwareReady (ht rfl) now s hm
  | fwReadyTimeout now => exact keeps_execFwReadyTimeout now s hm
  | fwStage len ok build => exact keeps_execFwStage len ok build s hm
  | fwSwitch => exact keeps_execFwSwitch s hm
  | optBlock b => exact keeps_execOptBlock b s hm
  | railCrossing r th now => exact keeps_execRailCrossing r th now s hm
  | railClear r th now => exact keeps_execRailClear r th now s hm
  | flashHoldEnd now => exact keeps_execFlashHoldEnd now s hm
  | pwrMainOkChange level now => exact keeps_execPwrMainOkChange level now s hm
  | pwrBattOnChange level now => exact keeps_execPwrBattOnChange level now s hm
  | bracePolicyApply => exact keeps_execBracePolicyApply s hm
  | battMissing now => exact keeps_execBattMissing now s hm
  | unbrace now => exact keeps_execUnbrace now s hm
  | unbraceComplete now => exact keeps_execUnbraceComplete now s hm
  | logQueueDrain bad0 bad1 => exact keeps_execLogQueueDrain bad0 bad1 s hm
  | logDropped p => exact keeps_execLogDropped p s hm
  | logScrub uncorrectable => exact keeps_execLogScrub uncorrectable s hm
  | logFreeze => exact keeps_execLogFreeze s hm
  | logUnfreeze => exact keeps_execLogUnfreeze s hm
  | faultFrameStart now => exact keeps_execFaultFrameStart now s hm
  | faultClear m => exact keeps_execFaultClear m s hm
  | registerWrite owner idx sub unit v => exact keeps_execRegisterWrite owner idx sub unit v s hm
  | refFaultEnd r => exact keeps_execRefFaultEnd r s hm
  | junctionCaution above tenths now => exact keeps_execJunctionCaution above tenths now s hm
  | resetSourceClear src => exact keeps_execResetSourceClear src s hm
  | chainInHigh now => exact keeps_execChainInHigh now s hm
  | ptpMessageTx n ty => exact keeps_execPtpMessageTx n ty s hm

end

theorem exec_pending {i : Instr} {s t : State} (h : exec i s = .next t) : t.pending = s.pending := by
  have hk := keeps_exec (P := fun _ q _ => q = s.pending) ⟨fun _ _ _ _ h => h⟩
    ⟨fun _ _ _ h => h, fun _ _ _ _ _ h => h, fun _ _ _ _ h => h⟩ i s rfl
  rwa [h] at hk

theorem exec_tick {i : Instr} {s t : State} (hi : movesTick i = false) (h : exec i s = .next t) : t.tick = s.tick := by
  have hk := keeps_exec_reach (P := fun _ _ k => k = s.tick) i s (by simp [hi])
    (fun _ => ⟨fun _ _ _ h => h, fun _ _ _ _ _ h => h, fun _ _ _ _ h => h⟩) rfl
  rwa [h] at hk

theorem exec_mem {i : Instr} {s t : State} (hi : storesBytes i = false) (h : exec i s = .next t) : t.mem = s.mem := by
  have hk := keeps_exec_reach (P := fun m _ _ => m = s.mem) i s (fun _ => ⟨fun _ _ _ _ h => h⟩) (by simp [hi]) rfl
  rwa [h] at hk

/-- Settles O2: every leaf of a command's meaning is a next state, and what it keeps follows from the commands' reach. -/
theorem everyCommandCompletesWithinItsReach : Obligations.EveryCommandCompletesWithinItsReach := by
  intro c s
  obtain ⟨t, h⟩ := exec_completes c s
  exact ⟨t, h, exec_pending h, fun hc => exec_tick hc h, fun hc => sameMem_of_mem (exec_mem hc h)⟩

/-! The canonical form of memory (15). -/

/-- A filter keeps the canonical form. -/
theorem NTable.wf_filter {α : Type} [DecidableEq α] (d : α) (t : NTable α) (f : Nat × α → Bool)
    (h : NTable.wf d t = true) : NTable.wf d (t.filter f) = true := by
  simp only [NTable.wf, Table.wf, Bool.and_eq_true, Table.sorted_iff, List.all_eq_true] at h ⊢
  exact ⟨h.1.filter _, fun e he => h.2 e (List.mem_of_mem_filter he)⟩

theorem closed_wf : Closed fun m _ _ => NTable.wf 0 m = true where
  nil _ _ _ _ := rfl
  put _ _ _ _ _ h := NTable.wf_put _ _ _ _ h
  filter _ _ _ _ h := NTable.wf_filter _ _ _ h

/-- A fetch from an empty queue stores only as a bundle without operation retires. -/
theorem wf_fetchBundle (s : State) (h : NTable.wf 0 s.mem = true) : NTable.wf 0 s.fetchBundle.mem = true := by
  unfold State.fetchBundle
  split
  · exact h
  · dsimp only
    split
    · exact h
    · split
      · exact keeps_retire closed_wf _ _ _ h
      · exact keeps_retire closed_wf _ _ _ h
      · exact h

/-- Settles O3: a fetch retires at most a bundle, and every command keeps the canonical form. -/
theorem everyStepKeepsMemoryCanonical : Obligations.EveryStepKeepsMemoryCanonical := by
  intro s t hwf hstep
  cases hq : s.pending with
  | nil =>
    obtain rfl : s.fetchBundle = t := by simpa [step, hq] using hstep
    exact wf_fetchBundle s hwf
  | cons i rest =>
    have hk := keeps_exec ⟨fun _ _ _ _ h => h⟩ closed_wf i { s with pending := rest } hwf
    rw [step, hq] at hstep
    rwa [show exec i _ = _ from hstep] at hk

/-! The command at the front, or the bundle that a core fetches (log entry 140). -/

theorem nextCore_none (s : State) (h : ∀ e ∈ s.cores, e.2.fetches = false) : s.nextCore = none := by
  refine List.foldlRecOn (motive := (· = none)) s.cores _ rfl fun m hm e he => ?_
  simp [h e he, hm]

theorem fetchBundle_none {s : State} (h : s.nextCore = none) : s.fetchBundle = s := by
  simp only [State.fetchBundle, h]

theorem fetchBundle_ops {s : State} {c : Fin 128} {r : RunTask} {i : Instr} {ops : List Instr}
    (hc : s.nextCore = some c.val) (hr : (s.core c).run = some r)
    (hd : decodeBundle c (s.bundleAt c (s.core c).pc) = some (i :: ops)) :
    ∃ k, s.fetchBundle = { s.setCore c k with pending := i :: ops } := by
  simp only [State.fetchBundle, hc, hr, Fin.ofNat_val_eq_self, hd]
  exact ⟨_, rfl⟩

/-- Settles O1: by the shape of the queue, and of the fetch on an empty one. -/
theorem stepTakesTheCommandAtTheFront : Obligations.StepTakesTheCommandAtTheFront := by
  refine ⟨fun c q s => rfl, fun s hs => ?_⟩
  have hstep : step s = .next s.fetchBundle := by rw [step, hs]
  refine ⟨hstep, fun hidle => ?_, fun c r i ops hc hr hd => ?_⟩
  · rw [hstep, fetchBundle_none (nextCore_none s hidle)]
  · obtain ⟨k, hk⟩ := fetchBundle_ops hc hr hd
    exact ⟨_, hstep, by rw [hk], by rw [hk]; exact sameMem_of_mem rfl, by rw [hk]; exact sameRegs_of_regs rfl [],
      fun d hd => by rw [hk]; exact core_setCore_other s c d k hd⟩

/-! The state after reset (18, R485). -/

theorem regDefault_plotState (p : Nat) (h : p < 16) : regDefault (Reg.plotState p) = 0 := by
  simp (disch := omega) only [regDefault, if_neg, if_pos]
theorem regDefault_lastState (p : Nat) (h : p < 16) : regDefault (Reg.lastState p) = 0 := by
  simp (disch := omega) only [regDefault, if_neg]
theorem regDefault_rxState (t : Nat) (h : t < 1024) : regDefault (Reg.rxState t) = 0 := by
  simp (disch := omega) only [regDefault, if_neg, if_pos]
theorem regDefault_txState (t : Nat) (h : t < 1024) : regDefault (Reg.txState t) = 0 := by
  simp (disch := omega) only [regDefault, if_neg, if_pos]

/-- Settles O4: every table is empty, so every unit reads its default. -/
theorem stateAfterReset : Obligations.StateAfterReset :=
  ⟨rfl, rfl, fun _ => rfl, rfl, rfl, rfl, fun _ => rfl, fun _ => rfl,
    fun p hp => ⟨regDefault_plotState p hp, regDefault_lastState p hp⟩,
    fun t ht => ⟨regDefault_rxState t ht, regDefault_txState t ht⟩, rfl, rfl, rfl, rfl⟩

end Sys2Proof.Machine
end

section
/-!
PROOFS. The arithmetic slot of a bundle: word operations, accumulators, comparisons (03, R103, R104, R106; 04, Table 4.5).
-/
namespace Sys2Proof.Machine

/-! What a bundle holds after one more result, flag or residue check. -/

section
variable (b : Bundle)

@[simp] theorem Bundle.wg_writes (r : Nat) (v : Word) (cls : ProdClass) (lat : Nat) :
    (b.wg r v cls lat).writes = b.writes ++ [.g r v] := rfl
@[simp] theorem Bundle.wg_stores (r : Nat) (v : Word) (cls : ProdClass) (lat : Nat) :
    (b.wg r v cls lat).stores = b.stores := rfl
@[simp] theorem Bundle.wg_exc (r : Nat) (v : Word) (cls : ProdClass) (lat : Nat) : (b.wg r v cls lat).exc = b.exc := rfl
@[simp] theorem Bundle.wg_flags (r : Nat) (v : Word) (cls : ProdClass) (lat : Nat) :
    (b.wg r v cls lat).flags = b.flags := rfl
@[simp] theorem Bundle.wa_writes (r : Nat) (v : Int) (cls : ProdClass) :
    (b.wa r v cls).writes = b.writes ++ [.a r (BitVec.ofInt 80 v)] := rfl
@[simp] theorem Bundle.wa_stores (r : Nat) (v : Int) (cls : ProdClass) : (b.wa r v cls).stores = b.stores := rfl
@[simp] theorem Bundle.wa_exc (r : Nat) (v : Int) (cls : ProdClass) : (b.wa r v cls).exc = b.exc := rfl
@[simp] theorem Bundle.wa_flags (r : Nat) (v : Int) (cls : ProdClass) : (b.wa r v cls).flags = b.flags := rfl
@[simp] theorem Bundle.wq_writes (n : Nat) (v : Bool) (cls : ProdClass) :
    (b.wq n v cls).writes = b.writes ++ [.q n v] := rfl
@[simp] theorem Bundle.wq_stores (n : Nat) (v : Bool) (cls : ProdClass) : (b.wq n v cls).stores = b.stores := rfl
@[simp] theorem Bundle.wq_exc (n : Nat) (v : Bool) (cls : ProdClass) : (b.wq n v cls).exc = b.exc := rfl

@[simp] theorem Bundle.flag_writes (m : Nat) (on : Bool) : (b.flag m on).writes = b.writes := by cases on <;> rfl
@[simp] theorem Bundle.flag_stores (m : Nat) (on : Bool) : (b.flag m on).stores = b.stores := by cases on <;> rfl
@[simp] theorem Bundle.flag_exc (m : Nat) (on : Bool) : (b.flag m on).exc = b.exc := by cases on <;> rfl
@[simp] theorem Bundle.flag_flags (m : Nat) (on : Bool) :
    (b.flag m on).flags = if on then b.flags ||| m else b.flags := by cases on <;> rfl

theorem Bundle.residue_ok {hw : HwFault} (h : hw.residue = false) : b.residue hw = b := by simp [Bundle.residue, h]
theorem Bundle.residue_exc {hw : HwFault} (h : hw.residue = true) :
    (b.residue hw).exc = if b.exc = 0 then 7 else b.exc := by simp [Bundle.residue, h, raise_exc]

end

/-- A slot finds the results, stores, exception, flags and coprocessor work of the bundle as they stood. -/
theorem Bundle.Noted.kept {b b0 : Bundle} (h : b.Noted b0) :
    b.writes = b0.writes ∧ b.stores = b0.stores ∧ b.exc = b0.exc ∧ b.flags = b0.flags ∧ b.cops = b0.cops ∧
      b.corrected = b0.corrected ∧ b.trap = b0.trap := by
  unfold Bundle.Noted at h
  refine ⟨?_, ?_, ?_, ?_, ?_, ?_, ?_⟩ <;> rw [h]

/-! Exact values: saturation, shifts and wraps over whole numbers against the words that hold them. -/

theorem sat32_eq (x : Int) : wordOf (sat 32 x) = sat32 x := by
  rw [wordOf, sat32]; congr 1; simp only [sat]; omega
theorem over32_eq (x : Int) : overflows 32 x = over32 x := by
  rw [Bool.eq_iff_iff]; simp only [overflows, over32, sat, bne_iff_ne, Bool.or_eq_true, decide_eq_true_eq]; omega
theorem acc80_eq (x : Int) : BitVec.ofInt 80 (sat 80 x) = acc80 x := by
  rw [acc80]; congr 1; simp only [sat]; omega
theorem over80_eq (x : Int) : overflows 80 x = over80 x := by
  rw [Bool.eq_iff_iff]; simp only [overflows, over80, sat, bne_iff_ne, Bool.or_eq_true, decide_eq_true_eq]; omega
theorem shiftBy_eq (trunc : Bool) (x : Int) (n : Nat) : shiftBy trunc x n = shiftRight trunc x n := by
  cases trunc <;> simp [shiftBy, shiftRight, truncShift, roundShift]
  split <;> simp_all

theorem ofInt_rg (k : CoreSt) (r : Nat) : BitVec.ofInt 32 (k.ri r) = k.rg r := BitVec.ofInt_toInt
theorem wordOf_add (x y : Int) : wordOf (x + y) = wordOf x + wordOf y := by
  simp only [wordOf, BitVec.ofInt_add]
theorem wordOf_neg (x : Int) : wordOf (-x) = -wordOf x := BitVec.ofInt_neg

/-! The three kinds of operation of this slot. -/

section
variable {i : Instr} {c : Nat} {ctl : SlotCtl} {s : State}

/-- A word operation adds its value and, where it saturates, SAT32. -/
theorem slotRuns_word {rd : Fin 32} {rs : List (Fin 32)} {f : CoreSt → Word × Bool} {v : CoreSt → Word}
    {o : CoreSt → Bool} (h : exec i s = .next (s.slot c ctl (wordOp rd rs f))) (hf : ∀ k, f k = (v k, o k)) :
    SlotRuns i c ctl s (AddsWord rd v o) := by
  refine slotRuns_slot i c ctl s _ _ h rfl fun r k b hb _ => ?_
  obtain ⟨hw, hs, he, hfl, -⟩ := hb.kept
  simp [wordOp, AddsWord, hf, hw, hs, he, hfl]

/-- An accumulator operation adds its value saturated at 80 bits and, where it saturates, ASAT. -/
theorem slotRuns_acc {d : Fin 8} {as : List (Fin 8)} {rs : List (Fin 32)} {f v : CoreSt → Int}
    (h : exec i s = .next (s.slot c ctl (accOp d as rs f))) (hf : ∀ k, f k = v k) :
    SlotRuns i c ctl s (AddsAcc d v) := by
  refine slotRuns_slot i c ctl s _ _ h rfl fun r k b hb _ => ?_
  obtain ⟨hw, hs, he, hfl, -⟩ := hb.kept
  simp [accOp, AddsAcc, hf, acc80_eq, over80_eq, hw, hs, he, hfl]

/-- An operation whose multiplier or adder passes its residue check is the operation without one. -/
theorem slotRuns_checked {op : Op} {q : State → CoreSt → RunTask → Bundle → Prop}
    (h : exec i s = .next (s.slot c ctl op.checked)) (hr : ctl.hw.residue = false) (ha : op.always = false)
    (hq : ∀ r k b, b.Noted k.bundle → slotHolds ctl k = true →
      q s k r (if op.bad s c r k ctl = true then b.raise 1 else op.act s c r k ctl b)) : SlotRuns i c ctl s q := by
  refine slotRuns_slot i c ctl s _ _ h ha fun r k b hb hh => ?_
  simpa only [Op.checked, Bundle.residue_ok _ hr] using hq r k b hb hh

/-- One whose multiplier or adder fails its residue check raises RESIDUE where no exception stands (R123). -/
theorem slotRuns_residue {op : Op} (h : exec i s = .next (s.slot c ctl op.checked)) (hr : ctl.hw.residue = true)
    (ha : op.always = false) (hb : ∀ r k, op.bad s c r k ctl = false)
    (he : ∀ r k b, (op.act s c r k ctl b).exc = b.exc) :
    SlotRuns i c ctl s fun _ k _ b => b.exc = if k.bundle.exc = 0 then 7 else k.bundle.exc := by
  refine slotRuns_slot i c ctl s _ _ h ha fun r k b hn _ => ?_
  obtain ⟨-, -, hexc, -⟩ := hn.kept
  simp only [Op.checked, hb, Bool.false_eq_true, if_false]
  rw [Bundle.residue_exc _ hr, he, hexc]

/-- A word operation behind a residue check that passes. -/
theorem slotRuns_wordChecked {rd : Fin 32} {rs : List (Fin 32)} {f : CoreSt → Word × Bool} {v : CoreSt → Word}
    {o : CoreSt → Bool} (h : exec i s = .next (s.slot c ctl (wordOp rd rs f).checked)) (hr : ctl.hw.residue = false)
    (hf : ∀ k, f k = (v k, o k)) : SlotRuns i c ctl s (AddsWord rd v o) := by
  refine slotRuns_checked h hr rfl fun r k b hb _ => ?_
  obtain ⟨hw, hs, he, hfl, -⟩ := hb.kept
  simp [wordOp, AddsWord, hf, hw, hs, he, hfl]

theorem slotRuns_wordResidue {rd : Fin 32} {rs : List (Fin 32)} {f : CoreSt → Word × Bool}
    (h : exec i s = .next (s.slot c ctl (wordOp rd rs f).checked)) (hr : ctl.hw.residue = true) :
    SlotRuns i c ctl s fun _ k _ b => b.exc = if k.bundle.exc = 0 then 7 else k.bundle.exc :=
  slotRuns_residue h hr rfl (fun _ _ => rfl) fun _ _ _ => Bundle.flag_exc _ _ _

end

theorem satOr_sat (x : Int) : satOr .sat x = (sat32 x, over32 x) := by simp [satOr, sat32_eq, over32_eq]
theorem natAbs_eq_abs (x : Int) : (x.natAbs : Int) = |x| := Int.natCast_natAbs x

theorem min_word (k : CoreSt) (x y : Nat) :
    (if k.ri x ≤ k.ri y then k.rg x else k.rg y) = BitVec.ofInt 32 (min (k.ri x) (k.ri y)) := by
  rw [min_def, apply_ite (BitVec.ofInt 32), ofInt_rg, ofInt_rg]
theorem max_word (k : CoreSt) (x y : Nat) :
    (if k.ri x ≥ k.ri y then k.rg x else k.rg y) = BitVec.ofInt 32 (max (k.ri x) (k.ri y)) := by
  rw [max_comm, max_def, apply_ite (BitVec.ofInt 32), ofInt_rg, ofInt_rg]

/-- Settles O6: each operation is a word operation whose value is the exact result wrapped or saturated. -/
theorem coreWordOperationsAddOneResult : Obligations.CoreWordOperationsAddOneResult := by
  intro c ctl trunc rd rs rt s
  have hadd : ∀ k : CoreSt, satOr .wrap (k.ri rs + k.ri rt) = (k.rg rs + k.rg rt, false) := fun k => by
    simp only [satOr, wordOf_add]; rw [wordOf, wordOf, ofInt_rg, ofInt_rg]
  have hsub : ∀ k : CoreSt, satOr .wrap (k.ri rs - k.ri rt) = (k.rg rs - k.rg rt, false) := fun k => by
    simp only [satOr, sub_eq_add_neg, wordOf_add, wordOf_neg]; rw [wordOf, wordOf, ofInt_rg, ofInt_rg]
  have hmul : ∀ k : CoreSt, (k.rg rs * k.rg rt, false) = (BitVec.ofInt 32 (k.ri rs * k.ri rt), false) := fun k => by
    rw [BitVec.ofInt_mul, ofInt_rg, ofInt_rg]
  have hneg : ∀ k : CoreSt, satOr .wrap (-k.ri rs) = (-k.rg rs, false) := fun k => by
    simp only [satOr, wordOf_neg]; rw [wordOf, ofInt_rg]
  refine ⟨slotRuns_word rfl hadd, slotRuns_word rfl fun k => satOr_sat _, slotRuns_word rfl hsub,
    slotRuns_word rfl fun k => satOr_sat _, slotRuns_word rfl fun k => rfl, slotRuns_word rfl fun k => rfl,
    slotRuns_word rfl fun k => rfl, slotRuns_word rfl fun k => by rw [min_word],
    slotRuns_word rfl fun k => by rw [max_word],
    fun hr => ⟨slotRuns_wordChecked rfl hr fun k => by rw [satOr_sat, shiftBy_eq], slotRuns_wordChecked rfl hr hmul⟩,
    fun hr => ⟨slotRuns_wordResidue rfl hr, slotRuns_wordResidue rfl hr⟩,
    slotRuns_word rfl hneg, slotRuns_word rfl fun k => satOr_sat _,
    slotRuns_word rfl fun k => by rw [natAbs_eq_abs]; rfl,
    slotRuns_word rfl fun k => by rw [natAbs_eq_abs]; exact satOr_sat _, slotRuns_word rfl fun k => rfl⟩

/-! Shifts, immediates and comparisons. -/

theorem srai_word (k : CoreSt) (r n : Nat) : (k.rg r).sshiftRight n = BitVec.ofInt 32 (k.ri r / 2 ^ n) := by
  rw [BitVec.sshiftRight, Int.shiftRight_eq_div_pow]; rfl
theorem slli_word (k : CoreSt) (r n : Nat) : k.rg r <<< n = BitVec.ofInt 32 (k.ri r * 2 ^ n) := by
  rw [BitVec.ofInt_mul, ofInt_rg, BitVec.shiftLeft_eq_mul_twoPow]
  congr 1
  apply BitVec.eq_of_toNat_eq
  rw [BitVec.toNat_twoPow, BitVec.toNat_ofInt]
  norm_cast
theorem srli_word (k : CoreSt) (r n : Nat) : k.rg r >>> n = BitVec.ofNat 32 ((k.rg r).toNat / 2 ^ n) := by
  apply BitVec.eq_of_toNat_eq
  rw [BitVec.toNat_ushiftRight, Nat.shiftRight_eq_div_pow, BitVec.toNat_ofNat, Nat.mod_eq_of_lt]
  exact (Nat.div_le_self _ _).trans_lt (k.rg r).isLt

theorem wrapS_10 {imm : Int} (hlo : -512 ≤ imm) (hhi : imm ≤ 511) : wrapS 10 imm = imm := by
  simp only [wrapS]; omega

/-- The relation of a condition code over two words. -/
theorem condHolds_words (cond : Cond) (k : CoreSt) (x y : Nat) :
    condHolds cond (k.ri x) (k.ri y) (k.rg x).toNat (k.rg y).toNat = match cond with
      | .eq => decide (k.ri x = k.ri y) | .ne => decide (k.ri x ≠ k.ri y)
      | .lt => decide (k.ri x < k.ri y) | .ge => decide (k.ri y ≤ k.ri x)
      | .le => decide (k.ri x ≤ k.ri y) | .gt => decide (k.ri y < k.ri x)
      | .ltu => decide ((k.rg x).toNat < (k.rg y).toNat)
      | .geu => decide ((k.rg y).toNat ≤ (k.rg x).toNat) := by
  cases cond <;> simp [condHolds, beq_eq_decide, bne]

/-- An operation that adds register results and nothing else. -/
theorem slotRuns_writes {i : Instr} {c : Nat} {ctl : SlotCtl} {s : State} {op : Op} {w : CoreSt → List RegWrite}
    (h : exec i s = .next (s.slot c ctl op)) (ha : op.always = false) (hb : ∀ r k, op.bad s c r k ctl = false)
    (hw : ∀ r k b, (op.act s c r k ctl b).writes = b.writes ++ w k)
    (hs : ∀ r k b, (op.act s c r k ctl b).stores = b.stores) (he : ∀ r k b, (op.act s c r k ctl b).exc = b.exc) :
    SlotRuns i c ctl s (AddsWrites w) := by
  refine slotRuns_slot i c ctl s _ _ h ha fun r k b hn _ => ?_
  obtain ⟨hw0, hs0, he0, -⟩ := hn.kept
  simp [AddsWrites, hb, hw, hs, he, hw0, hs0, he0]

/-- Settles O7: shifts and moves are word operations; CMP adds its predicate alone. -/
theorem coreShiftsMovesAndCompares : Obligations.CoreShiftsMovesAndCompares := by
  intro c ctl trunc rd rs rt n q imm s
  refine ⟨slotRuns_word rfl fun k => by rw [srai_word], slotRuns_word rfl fun k => by rw [slli_word],
    slotRuns_word rfl fun k => by rw [srli_word], slotRuns_word rfl fun k => by rw [shiftBy_eq, wordOf],
    slotRuns_word rfl fun k => rfl, fun hlo hhi => slotRuns_word rfl fun k => by rw [wrapS_10 hlo hhi, wordOf],
    fun hlo hhi => slotRuns_word rfl fun k => by rw [Int.emod_eq_of_lt hlo (by omega), wordOf],
    fun cond => ?_⟩
  exact slotRuns_writes rfl rfl (fun _ _ => rfl)
    (fun r k b => congrArg (b.writes ++ [RegWrite.q q ·]) (condHolds_words cond k rs rt)) (fun _ _ _ => rfl) fun _ _ _ => rfl

/-! Accumulators (R103, R104). -/

/-- A unit's results do not depend on the bundle they join. -/
theorem Bundle.mac_kept (b : Bundle) (k : CoreSt) (pair : Nat) (f : MacFlags) (re im : Int) :
    (b.mac k pair f re im).writes = b.writes ++ macWrites k pair f re im ∧
      (b.mac k pair f re im).stores = b.stores ∧ (b.mac k pair f re im).exc = b.exc := by
  simp [Bundle.mac, macWrites, macInto, acc80_eq]

theorem complexMac_kept (x y pair : Nat) (f : MacFlags) (k : CoreSt) (b : Bundle) :
    (complexMac x y pair f k b).writes = b.writes ++ complexWrites k x y pair f ∧
      (complexMac x y pair f k b).stores = b.stores ∧ (complexMac x y pair f k b).exc = b.exc :=
  b.mac_kept k pair f _ _

theorem quadMac_kept (x y pair : Nat) (f : MacFlags) (k : CoreSt) (b : Bundle) :
    (quadMac x y pair f k b).writes = b.writes ++ quadWrites k x y pair f ∧
      (quadMac x y pair f k b).stores = b.stores ∧ (quadMac x y pair f k b).exc = b.exc :=
  b.mac_kept k pair f _ _

section
variable {i : Instr} {c : Nat} {ctl : SlotCtl} {s : State}

/-- An operation behind a residue check that passes adds register results and nothing else. -/
theorem slotRuns_writesChecked {op : Op} {w : CoreSt → List RegWrite} (h : exec i s = .next (s.slot c ctl op.checked))
    (hr : ctl.hw.residue = false) (ha : op.always = false) (hb : ∀ r k, op.bad s c r k ctl = false)
    (hk : ∀ r k b, (op.act s c r k ctl b).writes = b.writes ++ w k ∧ (op.act s c r k ctl b).stores = b.stores ∧
      (op.act s c r k ctl b).exc = b.exc) : SlotRuns i c ctl s (AddsWrites w) :=
  slotRuns_writes h ha hb
    (fun r k b => by simpa only [Op.checked, Bundle.residue_ok _ hr] using (hk r k b).1)
    (fun r k b => by simpa only [Op.checked, Bundle.residue_ok _ hr] using (hk r k b).2.1)
    fun r k b => by simpa only [Op.checked, Bundle.residue_ok _ hr] using (hk r k b).2.2

theorem slotRuns_accChecked {d : Fin 8} {as : List (Fin 8)} {rs : List (Fin 32)} {f : CoreSt → Int}
    (h : exec i s = .next (s.slot c ctl (accOp d as rs f).checked)) (hr : ctl.hw.residue = false) :
    SlotRuns i c ctl s (AddsAcc d f) := by
  refine slotRuns_checked h hr rfl fun r k b hb _ => ?_
  obtain ⟨hw, hs, he, hfl, -⟩ := hb.kept
  simp [accOp, AddsAcc, acc80_eq, over80_eq, hw, hs, he, hfl]

end

/-- The relation of a signed condition code over two accumulators. -/
theorem condHolds_accs (cond : Cond) (k : CoreSt) (x y : Nat) : cond ≠ .ltu → cond ≠ .geu →
    condHolds cond (k.ra x) (k.ra y) 0 0 = match cond with
      | .eq => decide (k.ra x = k.ra y) | .ne => decide (k.ra x ≠ k.ra y)
      | .lt => decide (k.ra x < k.ra y) | .ge => decide (k.ra y ≤ k.ra x)
      | .le => decide (k.ra x ≤ k.ra y) | _ => decide (k.ra y < k.ra x) := by
  intro hltu hgeu
  cases cond
  case ltu => exact absurd rfl hltu
  case geu => exact absurd rfl hgeu
  all_goals simp [condHolds, beq_eq_decide, bne]

/-- Settles O8: the CMAC units add their sums pair by pair, behind the residue check; the others are accumulator
operations, a word from an accumulator, or a predicate. -/
theorem coreAccumulatorOperations : Obligations.CoreAccumulatorOperations := by
  intro c ctl trunc rd rs n d a b q p0 p1 x y u v f s
  refine ⟨fun hr => ⟨?cmac, ?qmac, fun hp => ⟨?cmac2, ?qmac2⟩, slotRuns_accChecked rfl hr, slotRuns_accChecked rfl hr⟩,
    slotIllegal_slot _ _ _ _ _ rfl fun r k => decide_eq_true rfl,
    slotIllegal_slot _ _ _ _ _ rfl fun r k => decide_eq_true rfl, ?residue, ?acv,
    slotRuns_acc rfl fun k => shiftBy_eq _ _ _, slotRuns_acc rfl fun k => rfl, slotRuns_acc rfl fun k => by norm_num,
    slotRuns_acc rfl fun k => rfl, ?acmp, ?unsigned⟩
  case cmac => exact slotRuns_writesChecked rfl hr rfl (fun _ _ => rfl) fun r k b => complexMac_kept x y p0 f k b
  case qmac => exact slotRuns_writesChecked rfl hr rfl (fun _ _ => rfl) fun r k b => quadMac_kept u v p0 f k b
  case cmac2 =>
    refine slotRuns_writesChecked rfl hr rfl (fun _ _ => decide_eq_false hp) fun r k b => ?_
    obtain ⟨hw0, hs0, he0⟩ := complexMac_kept x y p0 f k b
    obtain ⟨hw1, hs1, he1⟩ :=
      complexMac_kept ((x.val + 1) % 16) ((y.val + 1) % 16) p1 f k (complexMac x y p0 f k b)
    exact ⟨by rw [hw1, hw0, List.append_assoc], hs1.trans hs0, he1.trans he0⟩
  case qmac2 =>
    refine slotRuns_writesChecked rfl hr rfl (fun _ _ => decide_eq_false hp) fun r k b => ?_
    obtain ⟨hw0, hs0, he0⟩ := quadMac_kept u v p0 f k b
    obtain ⟨hw1, hs1, he1⟩ := quadMac_kept ((u.val + 1) % 8) ((v.val + 1) % 8) p1 f k (quadMac u v p0 f k b)
    exact ⟨by rw [hw1, hw0, List.append_assoc], hs1.trans hs0, he1.trans he0⟩
  case residue =>
    rintro hr i (rfl | rfl | ⟨hp, rfl | rfl⟩ | rfl | rfl)
    · exact slotRuns_residue rfl hr rfl (fun _ _ => rfl) fun r k b => (complexMac_kept x y p0 f k b).2.2
    · exact slotRuns_residue rfl hr rfl (fun _ _ => rfl) fun r k b => (quadMac_kept u v p0 f k b).2.2
    · exact slotRuns_residue rfl hr rfl (fun _ _ => decide_eq_false hp) fun r k b =>
        (complexMac_kept _ _ _ _ _ _).2.2.trans (complexMac_kept _ _ _ _ _ _).2.2
    · exact slotRuns_residue rfl hr rfl (fun _ _ => decide_eq_false hp) fun r k b =>
        (quadMac_kept _ _ _ _ _ _).2.2.trans (quadMac_kept _ _ _ _ _ _).2.2
    · exact slotRuns_residue rfl hr rfl (fun _ _ => rfl) fun r k b => Bundle.flag_exc _ _ _
    · exact slotRuns_residue rfl hr rfl (fun _ _ => rfl) fun r k b => Bundle.flag_exc _ _ _
  case acv =>
    refine slotRuns_slot _ _ _ _ _ _ rfl rfl fun r k b hb _ => ?_
    obtain ⟨hw, hs, he, hfl, -⟩ := hb.kept
    simp [opAcv, AddsWord, satOr_sat, shiftBy_eq, hw, hs, he, hfl]
  case acmp =>
    intro cond hltu hgeu
    refine slotRuns_writes rfl rfl (fun _ _ => by simp [opAcmp, hltu, hgeu]) (fun r k bd => ?_) (fun _ _ _ => rfl)
      fun _ _ _ => rfl
    exact congrArg (bd.writes ++ [RegWrite.q q ·]) (condHolds_accs cond k a b hltu hgeu)
  case unsigned =>
    rintro cond (rfl | rfl) <;> exact slotIllegal_slot _ _ _ _ _ rfl fun r k => rfl

end Sys2Proof.Machine
end

section
/-!
PROOFS. The load/store slot of a bundle: loads, stores, searches, pointers and the address check (03, R92, R101, R102,
R105; 04, Table 4.3, R131, R132).
-/
namespace Sys2Proof.Machine

/-! What a bundle holds after a load or a store is noted and a pointer is updated. -/

section
variable (b : Bundle)

@[simp] theorem Bundle.wload_writes (r : Nat) (a : Access) (off n sh : Nat) :
    (b.wload r a off n sh).writes = b.writes ++ [.load r a.own (a.addr + off) n sh] := rfl
@[simp] theorem Bundle.wload_stores (r : Nat) (a : Access) (off n sh : Nat) :
    (b.wload r a off n sh).stores = b.stores := rfl
@[simp] theorem Bundle.wload_exc (r : Nat) (a : Access) (off n sh : Nat) : (b.wload r a off n sh).exc = b.exc := rfl
@[simp] theorem Bundle.wload_flags (r : Nat) (a : Access) (off n sh : Nat) :
    (b.wload r a off n sh).flags = b.flags := rfl
@[simp] theorem Bundle.wload_corrected (r : Nat) (a : Access) (off n sh : Nat) :
    (b.wload r a off n sh).corrected = b.corrected := rfl

@[simp] theorem Bundle.raise_flags (n : Nat) : (b.raise n).flags = b.flags := by unfold Bundle.raise; split <;> rfl
@[simp] theorem Bundle.raise_corrected (n : Nat) : (b.raise n).corrected = b.corrected := by
  unfold Bundle.raise; split <;> rfl

@[simp] theorem Bundle.noteLoad_writes (a : Access) (hw : Ecc) : (b.noteLoad a hw).writes = b.writes := by
  cases hw <;> simp [Bundle.noteLoad, Bundle.corrects, raise_writes] <;> split <;> rfl
@[simp] theorem Bundle.noteLoad_stores (a : Access) (hw : Ecc) : (b.noteLoad a hw).stores = b.stores := by
  cases hw <;> simp [Bundle.noteLoad, Bundle.corrects, raise_stores] <;> split <;> rfl
/-- An uncorrectable word raises 5, or 6 in cluster memory (Table 3.9). -/
theorem Bundle.noteLoad_uncorrectable (a : Access) :
    (b.noteLoad a .uncorrectable).exc = if b.exc = 0 then (if a.cluster then 6 else 5) else b.exc := by
  cases ha : a.cluster <;> simp [Bundle.noteLoad, raise_exc, ha]
/-- A corrected word sets CECC and is counted (R122). -/
theorem Bundle.noteLoad_corrected (a : Access) :
    (b.noteLoad a .corrected).flags = b.flags ||| 16 ∧ (b.noteLoad a .corrected).corrected = b.corrected + 1 := by
  cases ha : a.cluster <;> simp [Bundle.noteLoad, Bundle.corrects, Bundle.flag, ha]

@[simp] theorem Bundle.noteStore_writes (a : Access) (off : Nat) (bytes : List Byte) :
    (b.noteStore a off bytes).writes = b.writes := by unfold Bundle.noteStore; dsimp only; split <;> rfl
@[simp] theorem Bundle.noteStore_stores (a : Access) (off : Nat) (bytes : List Byte) :
    (b.noteStore a off bytes).stores = b.stores ++ [(a.own, a.addr + off, bytes)] := by
  unfold Bundle.noteStore; dsimp only; split <;> rfl

section
variable (k : CoreSt) (n e : Nat) (step : Option Int)

/-- A pointer's post-modify adds its new value, or raises ILLEGAL. -/
theorem Bundle.modify_cases : (∃ v, b.modify k n e step = b.wp n v ∧ pointerWrites k n e step = [.p n v]) ∨
    (b.modify k n e step = b ∨ b.modify k n e step = b.raise excIllegal) ∧ pointerWrites k n e step = [] := by
  unfold Bundle.modify pointerWrites
  cases step with
  | none => exact .inr ⟨.inl rfl, rfl⟩
  | some d =>
    cases h : k.postModify n e d with
    | none => exact .inr ⟨.inr (by simp [h]), by simp [h]⟩
    | some v => exact .inl ⟨v, by simp [h], by simp [h]⟩

@[simp] theorem Bundle.modify_writes : (b.modify k n e step).writes = b.writes ++ pointerWrites k n e step := by
  obtain ⟨v, h, hp⟩ | ⟨h | h, hp⟩ := b.modify_cases k n e step <;> rw [h, hp]
  · rfl
  · rw [List.append_nil]
  · rw [List.append_nil, raise_writes]
@[simp] theorem Bundle.modify_stores : (b.modify k n e step).stores = b.stores := by
  obtain ⟨v, h, -⟩ | ⟨h | h, -⟩ := b.modify_cases k n e step <;> rw [h]
  · rfl
  · rw [raise_stores]
@[simp] theorem Bundle.modify_flags : (b.modify k n e step).flags = b.flags := by
  obtain ⟨v, h, -⟩ | ⟨h | h, -⟩ := b.modify_cases k n e step <;> rw [h]
  · rfl
  · rw [Bundle.raise_flags]
@[simp] theorem Bundle.modify_corrected : (b.modify k n e step).corrected = b.corrected := by
  obtain ⟨v, h, -⟩ | ⟨h | h, -⟩ := b.modify_cases k n e step <;> rw [h]
  · rfl
  · rw [Bundle.raise_corrected]
/-- An exception that stands, stands after the pointer's update. -/
theorem Bundle.modify_exc (hexc : b.exc ≠ 0) : (b.modify k n e step).exc = b.exc := by
  obtain ⟨v, h, -⟩ | ⟨h | h, -⟩ := b.modify_cases k n e step <;> rw [h]
  · rfl
  · rw [raise_exc, if_neg hexc]

end
end

/-! Single loads and stores. -/

section
variable {i : Instr} {c : Nat} {ctl : SlotCtl} {s : State} {x : L1} {size e : Nat} {even : Bool}

/-- The loaded parts of a single access as results. -/
def loadWrites (a : Access) (parts : List (Nat × Nat × Nat × Nat)) : List RegWrite :=
  parts.map fun v => .load v.1 a.own (a.addr + v.2.1) v.2.2.1 v.2.2.2

theorem foldl_wload (a : Access) (parts : List (Nat × Nat × Nat × Nat)) (b : Bundle) :
    let b1 := parts.foldl (fun (b : Bundle) v => b.wload v.1 a v.2.1 v.2.2.1 v.2.2.2) b
    b1.writes = b.writes ++ loadWrites a parts ∧ b1.stores = b.stores ∧ b1.exc = b.exc ∧ b1.flags = b.flags ∧
      b1.corrected = b.corrected := by
  induction parts generalizing b with
  | nil => simp [loadWrites]
  | cons v t ih =>
    obtain ⟨hw, hs, he, hf, hc⟩ := ih (b.wload v.1 a v.2.1 v.2.2.1 v.2.2.2)
    exact ⟨by simpa [loadWrites] using hw, hs, he, hf, hc⟩

/-- A single load adds what its address gives and its pointer's update; an address that may not be read raises its
code. -/
theorem slotRuns_load {parts : List (Nat × Nat × Nat × Nat)} {vals : Access → List RegWrite}
    (h : exec i s = .next (s.slot c ctl (opLoad x size e even parts))) (hok : l1Ok x = true)
    (heven : even = true → x.r.val % 2 = 0) (hv : ∀ a, loadWrites a parts = vals a) :
    SlotRuns i c ctl s (Loads x c size e vals) := by
  refine slotRuns_slot i c ctl s _ _ h rfl fun r k b hn _ => ?_
  obtain ⟨hw0, hs0, he0, -⟩ := hn.kept
  have hbad : (opLoad x size e even parts).bad s c r k ctl = false := by
    cases even <;> simp [opLoad, hok] at heven ⊢; exact heven
  rw [if_neg (by simp [hbad])]
  simp only [opLoad]
  cases ha : s.access c r.plot (k.rp x.k) size true with
  | error code =>
    refine ⟨(raise_stores _ _).trans hs0, fun a h' => ?_, fun code' h' => ?_⟩
    · rw [ha] at h'; exact nomatch h'
    · obtain rfl : code = code' := by rw [ha] at h'; exact Except.error.inj h'
      exact ⟨(raise_writes _ _).trans hw0, by rw [raise_exc, he0]⟩
  | ok a =>
    obtain ⟨hw, hs, -⟩ := foldl_wload a parts (b.noteLoad a ctl.hw.load)
    refine ⟨by simp [hs, hs0], fun a' h' => ?_, fun code' h' => ?_⟩
    · obtain rfl : a = a' := by rw [ha] at h'; exact Except.ok.inj h'
      simp [hw, hw0, hv]
    · rw [ha] at h'; exact nomatch h'

/-- What the ECC reports of a single load: an exception, or the flag and the count. -/
theorem slotRuns_loadEcc {parts : List (Nat × Nat × Nat × Nat)}
    (h : exec i s = .next (s.slot c ctl (opLoad x size e even parts))) (hok : l1Ok x = true) (heven : even = false) :
    SlotRuns i c ctl s (fun s k r b => ∀ a, s.access c r.plot (k.rp x.k) size true = .ok a →
      (ctl.hw.load = .uncorrectable →
        b.exc = if k.bundle.exc = 0 then (if a.cluster then 6 else 5) else k.bundle.exc) ∧
      (ctl.hw.load = .corrected → b.flags = k.bundle.flags ||| 16 ∧ b.corrected = k.bundle.corrected + 1)) := by
  refine slotRuns_slot i c ctl s _ _ h rfl fun r k b hn _ a ha => ?_
  obtain ⟨-, -, he0, hf0, -, hc0, -⟩ := hn.kept
  simp only [opLoad, hok, heven, Bool.not_true, Bool.false_and, Bool.or_self, Bool.false_eq_true, if_false, ha]
  obtain ⟨-, -, he, hf, hc⟩ := foldl_wload a parts (b.noteLoad a ctl.hw.load)
  refine ⟨fun hecc => ?_, fun hecc => ?_⟩
  · have hexc := b.noteLoad_uncorrectable a
    rw [Bundle.modify_exc _ _ _ _ _ ?_, he, hecc, hexc, he0]
    rw [he, hecc, hexc]
    split
    · split <;> decide
    · assumption
  · obtain ⟨hfl, hcr⟩ := b.noteLoad_corrected a
    rw [Bundle.modify_flags, Bundle.modify_corrected, hf, hc, hecc, hfl, hcr, hf0, hc0]
    exact ⟨rfl, rfl⟩

/-- A single access whose immediate its encoding does not hold, or a pair at an odd register, is ILLEGAL (R129). -/
theorem slotIllegal_load {parts : List (Nat × Nat × Nat × Nat)}
    (h : exec i s = .next (s.slot c ctl (opLoad x size e even parts)))
    (hbad : l1Ok x = false ∨ even = true ∧ x.r.val % 2 = 1) : SlotIllegal i c ctl s := by
  refine slotIllegal_slot i c ctl s _ h fun r k => ?_
  rcases hbad with hok | ⟨rfl, hodd⟩ <;> simp [opLoad, *]

/-- A single store adds its bytes at the address, and its pointer's update. -/
theorem slotRuns_store {off : Nat} {data : List Nat} {f : CoreSt → List Byte × Bool} {bytes : CoreSt → List Byte}
    (h : exec i s = .next (s.slot c ctl (opStore x size e off even data f))) (hok : l1Ok x = true)
    (heven : even = true → x.r.val % 2 = 0) (hv : ∀ k, (f k).1 = bytes k) :
    SlotRuns i c ctl s (Stores x c size e off bytes) := by
  refine slotRuns_slot i c ctl s _ _ h rfl fun r k b hn _ => ?_
  obtain ⟨hw0, hs0, he0, -⟩ := hn.kept
  have hbad : (opStore x size e off even data f).bad s c r k ctl = false := by
    cases even <;> simp [opStore, hok] at heven ⊢; exact heven
  rw [if_neg (by simp [hbad])]
  simp only [opStore]
  cases ha : s.access c r.plot (k.rp x.k) size true with
  | error code =>
    refine ⟨fun a h' => ?_, fun code' h' => ?_⟩
    · rw [ha] at h'; exact nomatch h'
    · obtain rfl : code = code' := by rw [ha] at h'; exact Except.error.inj h'
      exact ⟨(raise_stores _ _).trans hs0, (raise_writes _ _).trans hw0, by rw [raise_exc, he0]⟩
  | ok a =>
    refine ⟨fun a' h' => ?_, fun code' h' => ?_⟩
    · obtain rfl : a = a' := by rw [ha] at h'; exact Except.ok.inj h'
      simp [hw0, hs0, hv]
    · rw [ha] at h'; exact nomatch h'

theorem slotIllegal_store {off : Nat} {data : List Nat} {f : CoreSt → List Byte × Bool}
    (h : exec i s = .next (s.slot c ctl (opStore x size e off even data f)))
    (hbad : l1Ok x = false ∨ even = true ∧ x.r.val % 2 = 1) : SlotIllegal i c ctl s := by
  refine slotIllegal_slot i c ctl s _ h fun r k => ?_
  rcases hbad with hok | ⟨rfl, hodd⟩ <;> simp [opStore, *]

end

/-! The accesses of the multi-access forms. -/

section
variable {s : State} {c g n : Nat} {hw : Ecc} {first : Bool} {r : RunTask} {k : CoreSt} {a : Access}

theorem pairLoad_ok (h : s.access c r.plot (k.rp n) 8 first = .ok a) (b : Bundle) :
    (pairLoad s c hw first g n r k b).writes = b.writes ++ pairWrites k a g n ∧
      (pairLoad s c hw first g n r k b).stores = b.stores := by
  simp [pairLoad, h, pairWrites]

theorem pairStore_ok (h : s.access c r.plot (k.rp n) 8 false = .ok a) (b : Bundle) :
    (pairStore s c g n r k b).writes = b.writes ++ pointerWrites k n 8 (some (k.rc (16 + n)).toInt) ∧
      (pairStore s c g n r k b).stores =
        b.stores ++ [(a.own, a.addr, wordBytes (k.rg g) ++ wordBytes (k.rg (g + 1)))] := by
  simp [pairStore, h]

end

/-- Settles O9: single loads are one operation with their parts; the multi-access forms chain their accesses. -/
theorem coreLoads : Obligations.CoreLoads := by
  intro c ctl x d1 d2 v k j quad w s
  refine ⟨fun hok => ⟨slotRuns_load rfl hok nofun fun a => rfl, slotRuns_load rfl hok nofun fun a => rfl,
      slotRuns_load rfl hok nofun fun a => rfl, fun heven => slotRuns_load rfl hok (fun _ => heven) fun a => rfl,
      fun hodd => slotIllegal_load rfl (.inr ⟨rfl, hodd⟩), slotRuns_loadEcc rfl hok rfl⟩,
    fun hbad => ⟨slotIllegal_load rfl (.inl hbad), slotIllegal_load rfl (.inl hbad), slotIllegal_load rfl (.inl hbad),
      slotIllegal_load rfl (.inl hbad)⟩,
    fun hkj => ?ld2, slotIllegal_slot _ _ _ _ _ rfl fun r st => decide_eq_true rfl,
    fun hkj => ?ldst, slotIllegal_slot _ _ _ _ _ rfl fun r st => decide_eq_true rfl,
    fun hdup => slotIllegal_slot _ _ _ _ _ rfl fun r st => ?_, fun hkj hk hj => ?ld2st⟩
  case ld2 =>
    refine slotRuns_slot _ _ _ _ _ _ rfl rfl fun r st b hn _ a a' ha ha' => ?_
    obtain ⟨hw0, hs0, -⟩ := hn.kept
    rw [if_neg (by simp [opLd2, hkj])]
    obtain ⟨hw1, hs1⟩ := pairLoad_ok (hw := ctl.hw.load) (g := 2 * d1) ha b
    obtain ⟨hw2, hs2⟩ := pairLoad_ok (hw := ctl.hw.load2) (g := 2 * d2) ha'
      (pairLoad s c ctl.hw.load true (2 * d1) k r st b)
    exact ⟨hw2.trans (by rw [hw1, hw0]), hs2.trans (hs1.trans hs0)⟩
  case ldst =>
    refine slotRuns_slot _ _ _ _ _ _ rfl rfl fun r st b hn _ a a' ha ha' => ?_
    obtain ⟨hw0, hs0, -⟩ := hn.kept
    rw [if_neg (by simp [opLdst, hkj])]
    obtain ⟨hw1, hs1⟩ := pairLoad_ok (hw := ctl.hw.load) (g := 2 * d1) ha b
    obtain ⟨hw2, hs2⟩ := pairStore_ok (g := 2 * v) ha' (pairLoad s c ctl.hw.load true (2 * d1) k r st b)
    exact ⟨hw2.trans (by rw [hw1, hw0]), hs2.trans (by rw [hs1, hs0])⟩
  case ld2st =>
    refine slotRuns_slot _ _ _ _ _ _ rfl rfl fun r st b hn _ a a' a'' ha ha' ha'' => ?_
    obtain ⟨hw0, hs0, -⟩ := hn.kept
    rw [if_neg (by simp [opLd2st, hasDup, Fin.val_inj, hkj, hk, hj])]
    obtain ⟨hw1, hs1⟩ := pairLoad_ok (hw := ctl.hw.load) (g := 4 * quad) ha b
    obtain ⟨hw2, hs2⟩ := pairLoad_ok (hw := ctl.hw.load2) (g := 4 * quad + 2) ha'
      (pairLoad s c ctl.hw.load true (4 * quad) k r st b)
    obtain ⟨hw3, hs3⟩ := pairStore_ok (g := 2 * v) ha'' (pairLoad s c ctl.hw.load2 false (4 * quad + 2) j r st
      (pairLoad s c ctl.hw.load true (4 * quad) k r st b))
    exact ⟨hw3.trans (by rw [hw2, hw1, hw0]), hs3.trans (by rw [hs2, hs1, hs0])⟩
  · simpa [opLd2st, hasDup, Fin.val_inj, or_assoc] using hdup

/-! Stores, searches and pointer moves. -/

theorem narrow_16 (trunc : Bool) (v : Int) :
    (narrow trunc 16 v).1 = leBytesI 2 (max (-2 ^ 15) (min (2 ^ 15 - 1) (shiftRight trunc v 16))) := by
  simp only [narrow, shiftBy_eq, Nat.reduceSub]; congr 1; simp only [sat]; omega
theorem narrow_24 (trunc : Bool) (v : Int) :
    (narrow trunc 24 v).1 = leBytesI 3 (max (-2 ^ 23) (min (2 ^ 23 - 1) (shiftRight trunc v 8))) := by
  simp only [narrow, shiftBy_eq, Nat.reduceSub]; congr 1; simp only [sat]; omega

theorem slotRuns_search {i : Instr} {c : Nat} {ctl : SlotCtl} {s : State} {f : Better} {best idx : Fin 32} {n : Fin 8}
    {single : Bool} (h : exec i s = .next (s.slot c ctl (opSearch f best idx n single))) :
    SlotRuns i c ctl s (Searches f best idx n single c) := by
  refine slotRuns_slot i c ctl s _ _ h rfl fun r k b hn _ a ha => ?_
  obtain ⟨hw0, hs0, -⟩ := hn.kept
  simp [opSearch, ha, hw0, hs0]

theorem ofNat_rp (k : CoreSt) (n : Nat) : BitVec.ofNat 32 (k.rp n) = NTable.get 0 k.p n := BitVec.ofNat_toNat _ _ |>.trans
  (by simp)

/-- Settles O10: single stores are one operation with their bytes; searches note what the retirement compares. -/
theorem coreStoresSearchesAndPointers : Obligations.CoreStoresSearchesAndPointers := by
  intro c ctl trunc x best idx g n single imm s
  refine ⟨fun hok => ⟨slotRuns_store rfl hok nofun fun k => narrow_16 _ _, slotRuns_store rfl hok nofun fun k => narrow_24 _ _,
      slotRuns_store rfl hok nofun fun k => rfl, fun heven => slotRuns_store rfl hok (fun _ => heven) fun k => rfl,
      fun hodd => slotIllegal_store rfl (.inr ⟨rfl, hodd⟩)⟩,
    fun hbad => ⟨slotIllegal_store rfl (.inl hbad), slotIllegal_store rfl (.inl hbad), slotIllegal_store rfl (.inl hbad),
      slotIllegal_store rfl (.inl hbad)⟩,
    slotRuns_search rfl, slotRuns_search rfl, slotRuns_search rfl, slotRuns_search rfl, ?toG,
    slotRuns_writes rfl rfl (fun _ _ => rfl) (fun _ _ _ => rfl) (fun _ _ _ => rfl) fun _ _ _ => rfl,
    fun hlo hhi => ?padd, fun hout => slotIllegal_slot _ _ _ _ _ rfl fun r k => by simpa [opPadd] using hout⟩
  case toG =>
    refine slotRuns_slot _ _ _ _ _ _ rfl rfl fun r k b hn _ => ?_
    obtain ⟨hw, hs, he, hf, -⟩ := hn.kept
    simp [opPmov, AddsWord, ofNat_rp, hw, hs, he, hf]
  case padd =>
    refine slotRuns_slot _ _ _ _ _ _ rfl rfl fun r k b hn _ => ?_
    obtain ⟨hw, hs, -⟩ := hn.kept
    rw [if_neg (by simp [opPadd]; omega)]
    simp [opPadd, hw, hs]

/-! The address check (R92) and the post-modify (R101). -/

section
variable {s : State} {c p a size : Nat} {cluster : Bool}

theorem access_own (ha : a < 0x40000) (hal : a % (if size = 3 then 4 else size) = 0) :
    s.access c p a size cluster = .ok ⟨dmBase c + a, a / 8 % 8, false, c, a⟩ := by
  simp [State.access, ha, hal]
theorem access_ownMisaligned (ha : a < 0x40000) (hal : a % (if size = 3 then 4 else size) ≠ 0) :
    s.access c p a size cluster = .error 3 := by
  simp [State.access, ha, hal, excAlign]
theorem access_none (ha : 0x40000 ≤ a) (hout : a < 0x100000 ∨ 0x300000 ≤ a ∨ cluster = false) :
    s.access c p a size cluster = .error 2 := by
  rw [State.access, if_neg (by omega), if_neg, excAccess]
  rintro ⟨h1, h2, h3, -⟩
  rcases hout with h | h | h
  · omega
  · omega
  · simp [h] at h3
theorem access_cluster (hlo : 0x100000 ≤ a) (hhi : a < 0x300000)
    (hp : s.corePlot (c / 8 * 8 + (a - 0x100000) / 0x40000) = some p) (hal : a % (if size = 3 then 4 else size) = 0) :
    s.access c p a size true = .ok ⟨sliceBase (c / 8 * 8 + (a - 0x100000) / 0x40000) + (a - 0x100000) % 0x40000,
      a / 8 % 8, true, c / 8 * 8 + (a - 0x100000) / 0x40000, a⟩ := by
  rw [State.access, if_neg (by omega), if_pos ⟨hlo, hhi, rfl, hp⟩, if_neg (by simpa using hal)]

end

/-- A step inside a circular buffer, brought back by one length where it leaves, is the step modulo the length. -/
theorem circular_step {pk base len step : Int} (hlo : base ≤ pk) (hhi : pk < base + len) (hs1 : -len ≤ step)
    (hs2 : step ≤ len) :
    (if pk + step ≥ base + len then pk + step - len else if pk + step < base then pk + step + len else pk + step) =
      base + (pk - base + step) % len := by
  split
  · rw [← Int.sub_emod_right, Int.emod_eq_of_lt] <;> omega
  · split
    · rw [← Int.add_emod_right, Int.emod_eq_of_lt] <;> omega
    · rw [Int.emod_eq_of_lt] <;> omega

/-- Settles O11: the check by where the address lies, the post-modify by the pointer's mode. -/
theorem coreAddressingAndPointers : Obligations.CoreAddressingAndPointers := by
  intro s k c p a n e size cluster step
  refine ⟨fun ha hal => ⟨_, access_own ha hal, rfl, rfl, rfl⟩, access_ownMisaligned,
    fun hlo hhi => access_none hlo (.inl hhi), fun h => access_none (by omega) (.inr (.inl h)),
    fun h hc => access_none (by omega) (.inr (.inr hc)),
    fun hlo hhi hp hal => ⟨_, access_cluster hlo hhi hp hal, rfl, rfl⟩, fun hm => ?linear, fun hm hs hlo hhi => ?inside,
    fun hm hs hout => ?outside, fun hm hs => ?tooLong, fun hm => ?undefined⟩
  case linear => simp [CoreSt.postModify, hm]
  case inside =>
    have hin : ¬((k.rp n : Int) < ((k.rc n).toNat : Int) ∨
      (k.rp n : Int) ≥ ((k.rc n).toNat : Int) + ((k.rc (8 + n)).toNat : Int)) := by omega
    simp only [CoreSt.postModify, hm, one_ne_zero, if_false, if_true, Int.toNat_natCast, if_neg (Nat.not_lt.mpr hs),
      if_neg hin]
    rw [circular_step (by omega) (by omega) (by omega) (by omega)]
  case outside =>
    have hout' : (k.rp n : Int) < ((k.rc n).toNat : Int) ∨
      (k.rp n : Int) ≥ ((k.rc n).toNat : Int) + ((k.rc (8 + n)).toNat : Int) := by omega
    simp only [CoreSt.postModify, hm, one_ne_zero, if_false, if_true, Int.toNat_natCast, if_neg (Nat.not_lt.mpr hs),
      if_pos hout']
  case tooLong => simp [CoreSt.postModify, hm, hs]
  case undefined => simp [CoreSt.postModify, hm]

end Sys2Proof.Machine
end

section
/-!
PROOFS. The control/coprocessor slot of a bundle and the coprocessor's results (03, R107 to R114, R119; 04, Table 4.6).
-/
namespace Sys2Proof.Machine

section
variable {i : Instr} {c : Nat} {ctl : SlotCtl} {s : State} {op : Op}

/-- A slot that never acts where its condition fails runs as its operation says; an operation whose operands are good is
its effect alone. -/
theorem slotRuns_act {q : State → CoreSt → RunTask → Bundle → Prop} (h : exec i s = .next (s.slot c ctl op))
    (ha : op.always = false) (hb : ∀ r k, op.bad s c r k ctl = false)
    (hq : ∀ r k b, b.Noted k.bundle → q s k r (op.act s c r k ctl b)) : SlotRuns i c ctl s q :=
  slotRuns_slot i c ctl s op q h ha fun r k b hn _ => by simpa [hb] using hq r k b hn

end

/-! Branches, calls and loops. -/

section
variable {c : Fin 128} {ctl : SlotCtl} {s : State}

/-- A branch acts whatever its condition: it carries the condition's value on. -/
theorem br_runs (hint : Bool) (target : Fin 8192) {r : RunTask} (hr : (s.core c).run = some r)
    (hf : ctl.hw.fetch = .clean) (hp : ctl.hw.parity = false) :
    ∃ u, exec (.coreBr c ctl hint target) s = .next (if ctl.last then u.retire c r else u) ∧
      u = s.setCore c { s.found c r ctl with bundle := (u.core c).bundle } ∧
      ∃ b : Bundle, b.Noted (s.found c r ctl).bundle ∧ (u.core c).bundle =
        if (opBr hint target).bad s c r (s.found c r ctl) ctl = true then b.raise 1
        else (opBr hint target).act s c r (s.found c r ctl) ctl b := by
  obtain ⟨b, hb, hadd⟩ := add_cases (s.found c r ctl).bundle s c r (s.found c r ctl) ctl (opBr hint target) hf hp
  refine ⟨s.setCore c { s.found c r ctl with
    bundle := (s.found c r ctl).bundle.add s c r (s.found c r ctl) ctl (opBr hint target) }, ?_, ?_, b, hb, ?_⟩
  · exact congrArg Host.Outcome.next (slot_run s c ctl _ r hr)
  · rw [core_setCore_same]
  · rw [core_setCore_same]; exact hadd

theorem opBr_bad (hint : Bool) (target : Fin 8192) (r : RunTask) (k : CoreSt) :
    (opBr hint target).bad s c r k ctl = true ↔ k.atBodyEnd = true ∨ (ctl.pred = none ∧ hint = true) := by
  simp [opBr]

theorem br_kept (hint : Bool) (target : Fin 8192) (r : RunTask) (k : CoreSt) (b : Bundle) :
    let b1 := if (opBr hint target).bad s c r k ctl = true then b.raise 1 else (opBr hint target).act s c r k ctl b
    b1.writes = b.writes ∧ b1.stores = b.stores := by
  dsimp only
  split
  · exact ⟨raise_writes _ _, raise_stores _ _⟩
  · simp only [opBr]; split <;> exact ⟨rfl, rfl⟩

/-- Loops under way and a body that fits: where LOOP may open. -/
theorem opLoop_bad {fromReg : Bool} {count : Fin 32} {len : Fin 256} (hpred : ctl.pred = none) (r : RunTask) (k : CoreSt) :
    (opLoop fromReg count len).bad s c r k ctl = true ↔
      2 ≤ k.loops.length ∨ k.atBodyEnd = true ∨ k.inside ((k.pc + 1) % 8192) len = false := by
  simp [opLoop, hpred, or_assoc]

end

/-- The windows of a plot's active last that DMAT may mark. -/
theorem opDmat_bad (n : Fin 256) (s : State) (c : Nat) (r : RunTask) (k : CoreSt) (ctl : SlotCtl) :
    (opDmat n).bad s c r k ctl = true ↔
      s.last r.plot = none ∨ ∃ l, s.last r.plot = some l ∧ ∀ w ∈ l.windows, w.win ≠ n.val := by
  unfold opDmat
  cases h : s.last r.plot with
  | none => simp [h]
  | some l => simp [h]

/-- What a slot finds, beside what it adds to the results it names. -/
theorem add_dests (b : Bundle) (s : State) (c : Nat) (r : RunTask) (k : CoreSt) (ctl : SlotCtl) (op : Op)
    (hf : ctl.hw.fetch = .clean) (hp : ctl.hw.parity = false) : ∃ b1 : Bundle, b1.Noted b ∧ b1.dests = b.dests ++ op.dests ∧
      b.add s c r k ctl op = if op.bad s c r k ctl = true then b1.raise 1
        else if (op.always || slotHolds ctl k) = true then op.act s c r k ctl b1 else b1 := by
  refine ⟨{ b with
    slots := b.slots + 1
    minIssue := (predUses ctl ++ (if op.always || slotHolds ctl k then op.needs k else [])).foldl
      (fun m e => max m (k.ready e)) b.minIssue
    dests := b.dests ++ op.dests
    conds := b.conds ++ predConds ctl }, rfl, rfl, ?_⟩
  unfold Bundle.add
  simp only [hf, hp, reduceCtorEq, if_false, Bool.false_eq_true]
  rfl

/-- END names no result: it changes the bundle's counts and its end alone. -/
theorem end_runs (c : Fin 128) (ctl : SlotCtl) (s : State) : SlotRuns (.coreEnd c ctl) c ctl s (fun _ k _ b =>
    b = { k.bundle with slots := b.slots, minIssue := b.minIssue, conds := b.conds, isEnd := true }) := by
  intro r hr hf hp
  obtain ⟨b, hb, hd, hadd⟩ := add_dests (s.found c r ctl).bundle s c r (s.found c r ctl) ctl opEnd hf hp
  refine ⟨s.setCore c { s.found c r ctl with
    bundle := (s.found c r ctl).bundle.add s c r (s.found c r ctl) ctl opEnd }, ?_, ?_, ?_, ?_⟩
  · exact congrArg Host.Outcome.next (slot_run s c ctl _ r hr)
  · rw [core_setCore_same]
  · intro hs
    rw [core_setCore_same]
    dsimp only
    rw [hadd]
    simp only [opEnd, hs, Bool.false_or, Bool.false_eq_true, if_false, if_true, List.append_nil] at hd ⊢
    unfold Bundle.Noted at hb
    rw [hb, hd]
  · intro hs
    rw [core_setCore_same]
    dsimp only
    rw [hadd]
    simp only [opEnd, hs, Bool.or_self, Bool.false_eq_true, if_false]
    obtain ⟨hw, hst, he, -⟩ := hb.kept
    exact ⟨hw, hst, .inl he⟩

/-- The bundle's exception where an operation's operands are undefined. -/
theorem Bundle.Noted.raise_exc {b b0 : Bundle} (h : b.Noted b0) (n : Nat) :
    (b.raise n).exc = if b0.exc = 0 then n else b0.exc := by
  rw [Sys2Proof.Machine.raise_exc, h.kept.2.2.1]

/-- Settles O12: each control operation by its condition, its operands and the loops under way. -/
theorem coreControlOperations : Obligations.CoreControlOperations := by
  intro c ctl hint fromReg fromCtl target g count len n code q quad cr s
  refine ⟨fun r hr hf hp => ?br, fun hpred => ⟨?callPred, ?jrPred, ?loopPred⟩, fun hpred => ⟨?call, ?jr, ?loop⟩, end_runs c ctl s,
    ?trap, ?pop, ?dmat, fun hcr => ?fromCr, ?cycle, ?tick, ?tickHigh, ?plot, ?task, fun hcr => ?toCr, fun hcr => ?noCr,
    fun hcr => ?readOnly⟩
  case br =>
    obtain ⟨u, hu, hset, b, hb, hbd⟩ := br_runs hint target hr hf hp
    obtain ⟨hw, hs, he, -⟩ := hb.kept
    refine ⟨u, hu, hset, ?_, ?_, fun h => ?_, fun hbody hpred hhint => ?_, fun hbody p hpred => ?_⟩
    · rw [hbd, ← hw]; exact (br_kept ..).1
    · rw [hbd, ← hs]; exact (br_kept ..).2
    · rw [hbd, if_pos ((opBr_bad ..).mpr h), hb.raise_exc]
    · rw [hbd, if_neg (by simp [opBr, hbody, hhint])]
      simp [opBr, hpred]
    · rw [hbd, if_neg (by simp [opBr, hbody, hpred])]
      simp [opBr, hpred, slotHolds]
  case callPred =>
    exact slotIllegal_slot _ _ _ _ _ rfl fun r k => by simp [opCall, Option.isSome_iff_ne_none, hpred]
  case jrPred =>
    exact slotIllegal_slot _ _ _ _ _ rfl fun r k => by simp [opJr, Option.isSome_iff_ne_none, hpred]
  case loopPred =>
    exact slotIllegal_slot _ _ _ _ _ rfl fun r k => by simp [opLoop, Option.isSome_iff_ne_none, hpred]
  case call =>
    refine slotRuns_slot _ _ _ _ _ _ rfl rfl fun r k b hb _ => ⟨fun hl => ?_, fun hl => ?_⟩
    · rw [if_neg (by simp [opCall, hpred, hl])]
      exact ⟨rfl, by simp [opCall, hb.kept.1]⟩
    · rw [if_pos (by simp [opCall, hpred, hl]), hb.raise_exc]
  case jr =>
    refine slotRuns_slot _ _ _ _ _ _ rfl rfl fun r k b hb _ => ⟨fun hl hg => ?_, fun hl => ?_⟩
    · rw [if_neg (by simp [opJr, hpred, hl]; omega)]
      exact ⟨rfl, hb.kept.1⟩
    · rw [if_pos ?_, hb.raise_exc]
      rcases hl with hl | hg
      · simp [opJr, hl]
      · simp [opJr]; omega
  case loop =>
    refine slotRuns_slot _ _ _ _ _ _ rfl rfl fun r k b hb _ => ⟨fun hl hn => ?_, fun hl hn => ?_,
      fun o hl ho hin hn => ?_, fun hbad => ?_, fun hl => ?_⟩
    · rw [if_neg (by simp [opLoop_bad hpred, hl, CoreSt.atBodyEnd, CoreSt.inside])]
      simp only [opLoop]; rw [if_pos hn]
    · rw [if_neg (by simp [opLoop_bad hpred, hl, CoreSt.atBodyEnd, CoreSt.inside])]
      simp only [opLoop]; rw [if_neg hn]
    · rw [if_neg (by simp [opLoop_bad hpred, hl, CoreSt.atBodyEnd, ho, hin])]
      simp only [opLoop]; rw [if_neg hn]
    · rw [if_pos ((opLoop_bad hpred r k).mpr (.inr hbad)), hb.raise_exc]
    · rw [if_pos ((opLoop_bad hpred r k).mpr (.inl hl)), hb.raise_exc]
  case trap =>
    exact slotRuns_act rfl rfl (fun _ _ => rfl) fun r k b hb => ⟨rfl, hb.raise_exc 9⟩
  case pop =>
    refine slotRuns_act rfl rfl (fun _ _ => rfl) fun r k b hb => ⟨fun hi => ?_, fun e t hi => ?_⟩
    · exact ⟨by simp [opPop, hi, hb.kept.1], by simp [opPop, hi]; unfold Bundle.Noted at hb; rw [hb]; rfl⟩
    · simp [opPop, hi, hb.kept.1, List.range_succ]
  case dmat =>
    refine slotRuns_slot _ _ _ _ _ _ rfl rfl fun r k b hb _ => ⟨?_, fun h => ?_⟩
    · rintro ⟨l, w, hl, hw, hn⟩
      rw [if_neg ?_]
      · rfl
      · rw [opDmat_bad, hl]
        rintro (h | ⟨l', hl', hall⟩)
        · exact nomatch h
        · obtain rfl : l = l' := Option.some.inj hl'
          exact hall w hw hn
    · rw [if_pos ((opDmat_bad ..).mpr h), hb.raise_exc]
  case fromCr =>
    refine slotRuns_act rfl rfl (fun _ _ => by simp [opMovc]; omega) fun r k b hb => ?_
    obtain ⟨hw, hs, he, hfl, -⟩ := hb.kept
    have hne : cr.val ≠ 29 ∧ cr.val ≠ 30 ∧ cr.val ≠ 31 ∧ cr.val ≠ 32 ∧ cr.val ≠ 33 := by omega
    simp [opMovc, AddsWord, hne, hw, hs, he, hfl]
  case cycle =>
    exact slotRuns_writes rfl rfl (fun _ _ => rfl) (fun _ _ _ => rfl) (fun _ _ _ => rfl) fun _ _ _ => rfl
  case tick | tickHigh =>
    refine slotRuns_act rfl rfl (fun _ _ => rfl) fun r k b hb => ?_
    obtain ⟨hw, hs, he, hfl, -⟩ := hb.kept
    exact ⟨by rw [← hw]; rfl, hs, he, hfl⟩
  case plot | task =>
    exact slotRuns_act rfl rfl (fun _ _ => rfl) fun r k b hb => by rw [← hb.kept.1]; rfl
  case toCr =>
    refine slotRuns_act rfl rfl (fun _ _ => by simp [opMovc]; omega) fun r k b hb => ?_
    obtain ⟨hw, hs, he, -⟩ := hb.kept
    by_cases h24 : cr.val = 24
    · simp [opMovc, AddsWrites, Bundle.wc, h24, hw, hs, he]
    · by_cases h28 : cr.val = 28
      · simp [opMovc, AddsWrites, Bundle.wc, h28, hw, hs, he]
      · simp [opMovc, AddsWrites, Bundle.wc, h24, h28, hw, hs, he]
  case noCr => exact slotIllegal_slot _ _ _ _ _ rfl fun r k => by simp [opMovc, hcr]
  case readOnly => exact slotIllegal_slot _ _ _ _ _ rfl fun r k => by simp [opMovc, hcr]

/-! The coprocessor (R107, R108). -/

/-- A coprocessor operation hands its value and flags over and adds nothing else. -/
theorem slotRuns_cop {i : Instr} {c : Nat} {ctl : SlotCtl} {s : State} {op : Nat} {rd : Fin 32} {rs : List (Fin 32)}
    {f : CoreSt → Word × Nat} {v : CoreSt → Word} {fl : CoreSt → Nat}
    (h : exec i s = .next (s.slot c ctl (copOp op rd rs f))) (hf : ∀ k, f k = (v k, fl k)) :
    SlotRuns i c ctl s (AddsCop op rd v fl) := by
  refine slotRuns_act h rfl (fun _ _ => rfl) fun r k b hb => ?_
  obtain ⟨hw, hs, he, -, hc, -⟩ := hb.kept
  simp [copOp, AddsCop, hf, hw, hs, he, hc]

/-- The rounded quotient with a positive divisor. -/
theorem divResult_quotient {x y : Int} (hy : y ≠ 0) :
    divResult x y = (sat32 ((2 * (x * 2 ^ 24) * y.sign + |y|) / (2 * |y|)),
      if over32 ((2 * (x * 2 ^ 24) * y.sign + |y|) / (2 * |y|)) then 1 else 0) := by
  have hq : (if y < 0 then divRound (-x * 2 ^ 24) (-y) else divRound (x * 2 ^ 24) y) =
      (2 * (x * 2 ^ 24) * y.sign + |y|) / (2 * |y|) := by
    rcases lt_or_gt_of_ne hy with h | h
    · rw [if_pos h, divRound, if_neg (by omega), Int.sign_eq_neg_one_of_neg h, abs_of_neg h]
      congr 1; ring
    · rw [if_neg (by omega), divRound, if_neg hy, Int.sign_eq_one_of_pos h, abs_of_pos h, mul_one]
  simp only [divResult, if_neg hy, hq, sat32_eq, over32_eq]

/-! The results that are due first (R108). -/

/-- The cycle of the result due first. -/
def dueFirst (e : CopEntry) (t : List CopEntry) : Nat := t.foldl (fun m d => min m d.due) e.due

theorem foldl_min_due (t : List CopEntry) (m : Nat) : t.foldl (fun m d => min m d.due) m ≤ m ∧
    (∀ d ∈ t, t.foldl (fun m d => min m d.due) m ≤ d.due) ∧
    (t.foldl (fun m d => min m d.due) m = m ∨ ∃ d ∈ t, t.foldl (fun m d => min m d.due) m = d.due) := by
  induction t generalizing m with
  | nil => simp
  | cons x t ih =>
    obtain ⟨hm, hall, hmem⟩ := ih (min m x.due)
    refine ⟨hm.trans (min_le_left _ _), ?_, ?_⟩
    · rintro d (_ | ⟨_, hd⟩)
      · exact hm.trans (min_le_right _ _)
      · exact hall d hd
    · rcases hmem with h | ⟨d, hd, h⟩
      · rcases min_choice m x.due with h' | h'
        · exact .inl (h.trans h')
        · exact .inr ⟨x, List.mem_cons_self, h.trans h'⟩
      · exact .inr ⟨d, List.mem_cons_of_mem _ hd, h⟩

/-- The first cycle is that of an entry, and no entry is due before it. -/
theorem dueFirst_spec (e : CopEntry) (t : List CopEntry) :
    (∀ d ∈ e :: t, dueFirst e t ≤ d.due) ∧ ∃ d ∈ e :: t, dueFirst e t = d.due := by
  obtain ⟨he, ht, hmem⟩ := foldl_min_due t e.due
  refine ⟨?_, ?_⟩
  · rintro d (_ | ⟨_, hd⟩)
    · exact he
    · exact ht d hd
  · rcases hmem with h | ⟨d, hd, h⟩
    · exact ⟨e, List.mem_cons_self, h⟩
    · exact ⟨d, List.mem_cons_of_mem _ hd, h⟩

theorem execCoprocResultWrite_cons {c : Fin 128} {s : State} {e : CopEntry} {t : List CopEntry}
    (h : (s.core c).cop = e :: t) : execCoprocResultWrite c s =
      if dueFirst e t ≤ (s.core c).next + 4 ∨ dueFirst e t ≤ s.cycle then
        .next (s.setCore c ((s.core c).copWrite (dueFirst e t))) else .next s := by
  simp only [execCoprocResultWrite, h]; rfl

theorem mem_insertBy {α : Type} (le : α → α → Bool) (x y : α) (l : List α) : y ∈ insertBy le x l ↔ y = x ∨ y ∈ l := by
  induction l with
  | nil => simp [insertBy]
  | cons a l ih => unfold insertBy; split <;> simp [ih, or_left_comm]
theorem mem_sortBy {α : Type} (le : α → α → Bool) (y : α) (l : List α) : y ∈ sortBy le l ↔ y ∈ l := by
  induction l with
  | nil => simp [sortBy]
  | cons a l ih =>
    rw [sortBy, List.foldr_cons, mem_insertBy, List.mem_cons]
    exact or_congr_right ih

/-- Flags of STAT change a control register alone. -/
theorem setFlags_g (k : CoreSt) (m : Nat) : (k.setFlags m).g = k.g := by unfold CoreSt.setFlags; split <;> rfl
theorem setFlags_cop (k : CoreSt) (m : Nat) : (k.setFlags m).cop = k.cop := by unfold CoreSt.setFlags; split <;> rfl

/-- Writing results changes no entry of the buffer. -/
theorem foldl_copWrite_cop (l : List CopEntry) (k : CoreSt) :
    (l.foldl (fun k e => CoreSt.setFlags { k with g := NTable.put 0 k.g e.dest e.value } e.flag) k).cop = k.cop := by
  induction l generalizing k with
  | nil => rfl
  | cons e l ih => rw [List.foldl_cons, ih, setFlags_cop]

/-- Writing results leaves in a register the value of the results for it, where they have one. -/
theorem foldl_copWrite_g (r : Nat) (v : Word) (l : List CopEntry) (k : CoreSt) (hv : ∀ e ∈ l, e.dest = r → e.value = v)
    (hk : NTable.get 0 k.g r = v ∨ ∃ e ∈ l, e.dest = r) :
    NTable.get 0 (l.foldl (fun k e => CoreSt.setFlags { k with g := NTable.put 0 k.g e.dest e.value } e.flag) k).g r = v := by
  induction l generalizing k with
  | nil => simpa using hk
  | cons e l ih =>
    refine ih _ (fun d hd => hv d (List.mem_cons_of_mem _ hd)) ?_
    rw [setFlags_g]
    by_cases he : e.dest = r
    · exact .inl (by rw [he, NTable.get_put_same, hv e List.mem_cons_self he])
    · rw [NTable.get_put_other _ _ _ _ _ (Ne.symm he)]
      refine hk.imp_right ?_
      rintro ⟨d, _ | ⟨_, hd⟩, hdr⟩
      · exact absurd hdr he
      · exact ⟨d, hd, hdr⟩

theorem copWrite_cop (k : CoreSt) (t : Nat) : (k.copWrite t).cop = k.cop.filter fun d => decide (t < d.due) := by
  rw [CoreSt.copWrite, foldl_copWrite_cop]
  exact List.filter_congr fun d _ => by rw [← decide_not]; simp

theorem copWrite_g {k : CoreSt} {e : CopEntry} (he : e ∈ k.cop) (hmin : ∀ d ∈ k.cop, e.due ≤ d.due)
    (huniq : ∀ d ∈ k.cop, d.due = e.due → d.dest = e.dest → d = e) :
    NTable.get 0 (k.copWrite e.due).g e.dest = e.value := by
  refine foldl_copWrite_g _ _ _ _ (fun d hd hdest => ?_) (.inr ⟨e, ?_, rfl⟩)
  · simp only [mem_sortBy, List.mem_filter, decide_eq_true_eq] at hd
    rw [huniq d hd.1 (le_antisymm hd.2 (hmin d hd.1)) hdest]
  · simp [mem_sortBy, he]

/-- Settles O13: each operation is a coprocessor operation with its value; a result is written at the first due cycle. -/
theorem coprocessorOperations : Obligations.CoprocessorOperations := by
  intro c ctl rd rs rt s
  refine ⟨slotRuns_cop rfl fun k => ?div, slotRuns_cop rfl fun k => ?sqrt, slotRuns_cop rfl fun k => ?log2,
    slotRuns_cop rfl fun k => ?exp2, slotRuns_cop rfl fun k => ?mag, slotRuns_cop rfl fun k => ?atan2,
    fun e he hmin hdue => ?due, fun hlate => ?late⟩
  case div =>
    by_cases hy : k.ri rt = 0
    · simp [divResult, hy]
    · simp only [divResult_quotient hy, if_neg hy]
  case sqrt => by_cases h : k.ri rs < 0 <;> simp only [h, if_true, if_false, wordOf]
  case log2 => split <;> simp_all [wordOf]
  case exp2 => split <;> simp_all [wordOf]
  case mag => rw [wordOf, BitVec.ofInt_natCast, isqrt]
  case atan2 => dsimp only; split <;> [skip; split] <;> simp_all [wordOf]
  case due =>
    cases hcop : (s.core c).cop with
    | nil => rw [hcop] at he; exact nomatch he
    | cons d t =>
      obtain ⟨hle, d', hd', heq⟩ := dueFirst_spec d t
      rw [← hcop] at hle hd'
      have hfirst : dueFirst d t = e.due := le_antisymm (hle e he) (heq ▸ hmin d' hd')
      refine ⟨s.setCore c ((s.core c).copWrite e.due), ?_, ?_, fun huniq => ?_, sameMem_of_mem rfl,
        fun x hx => core_setCore_other _ _ _ _ hx, sameRegs_of_regs rfl _⟩
      · exact (execCoprocResultWrite_cons hcop).trans (by rw [hfirst, if_pos hdue])
      · rw [core_setCore_same, copWrite_cop, hcop]
      · rw [core_setCore_same]
        rw [← hcop] at huniq
        exact copWrite_g he hmin huniq
  case late =>
    cases hcop : (s.core c).cop with
    | nil => simp only [exec, execCoprocResultWrite, hcop]
    | cons d t =>
      obtain ⟨-, d', hd', heq⟩ := dueFirst_spec d t
      obtain ⟨h1, h2⟩ := hlate d' (hcop ▸ hd')
      exact (execCoprocResultWrite_cons hcop).trans (if_neg (by omega))

end Sys2Proof.Machine
end

section
/-!
PROOFS. Bytes of memory after a store or a clear (15, R420).
-/
namespace Sys2Proof.Machine

/-- A byte after bytes were put: inside them the byte put there, elsewhere the byte that was there. -/
theorem get_memPut (b : List Byte) (m : NTable Byte) (a x : Nat) : NTable.get 0 (memPut m a b) x =
    if a ≤ x ∧ x < a + b.length then b.getD (x - a) 0 else NTable.get 0 m x := by
  induction b generalizing m a with
  | nil => rw [if_neg (by simp only [List.length_nil]; omega)]; rfl
  | cons v t ih =>
    rw [memPut, ih]
    rcases Nat.lt_trichotomy x a with h | rfl | h
    · rw [if_neg (by omega), if_neg (by omega), NTable.get_put_other _ _ _ _ _ (by omega)]
    · rw [if_neg (by omega), if_pos (by simp), NTable.get_put_same, Nat.sub_self]; rfl
    · obtain ⟨d, rfl⟩ := Nat.exists_eq_add_of_lt h
      simp only [List.length_cons]
      by_cases hin : a + d + 1 < a + (t.length + 1)
      · rw [if_pos (by omega), if_pos (by omega), show a + d + 1 - a = d + 1 by omega,
          show a + d + 1 - (a + 1) = d by omega]
        rfl
      · rw [if_neg (by omega), if_neg (by omega), NTable.get_put_other _ _ _ _ _ (by omega)]

@[simp] theorem store_mem (s : State) (a : Nat) (b : List Byte) : (s.store a b).mem = memPut s.mem a b :=
  touch_mem _ _ _

theorem byte_store (s : State) (a : Nat) (b : List Byte) (x : Nat) : (s.store a b).byte x =
    if a ≤ x ∧ x < a + b.length then b.getD (x - a) 0 else s.byte x := by
  rw [State.byte, store_mem, get_memPut]; rfl
theorem byte_store_outside {s : State} {a : Nat} {b : List Byte} {x : Nat} (h : x < a ∨ a + b.length ≤ x) :
    (s.store a b).byte x = s.byte x := by
  rw [byte_store, if_neg (by omega)]

/-- Bytes read where they were put. -/
theorem bytes_of_byte {s : State} {a : Nat} {b : List Byte} (h : ∀ i < b.length, s.byte (a + i) = b.getD i 0) :
    s.bytes a b.length = b := by
  refine List.ext_getElem (by simp [State.bytes]) fun i hi hb => ?_
  simp only [State.bytes, List.getElem_map, List.getElem_range, h i hb, List.getD_eq_getElem _ _ hb]
theorem bytes_store (s : State) (a : Nat) (b : List Byte) : (s.store a b).bytes a b.length = b :=
  bytes_of_byte fun i hi => by rw [byte_store, if_pos (by omega), Nat.add_sub_cancel_left]

theorem byte_of_mem {s t : State} (h : t.mem = s.mem) (a : Nat) : t.byte a = s.byte a := by simp only [State.byte, h]
theorem bytes_of_mem {s t : State} (h : t.mem = s.mem) (a n : Nat) : t.bytes a n = s.bytes a n := by
  simp only [State.bytes, byte_of_mem h]

theorem SameMem.trans {s t u : State} (h : SameMem s t) (h' : SameMem t u) : SameMem s u := fun a => (h' a).trans (h a)

end Sys2Proof.Machine
end

section
/-!
PROOFS. What counting, logging, notifying and plot faults leave alone (07, R216; 16, R458; 19, R505).
-/
namespace Sys2Proof.Machine

/-! Folds: what every step leaves alone, the fold leaves alone. -/

theorem foldl_keeps {α β σ : Type} {g : σ → β} {f : σ → α → σ} (l : List α) (s : σ) (h : ∀ s, ∀ x ∈ l, g (f s x) = g s) :
    g (l.foldl f s) = g s := by
  induction l generalizing s with
  | nil => rfl
  | cons a l ih => exact (ih _ fun s x hx => h s x (List.mem_cons_of_mem _ hx)).trans (h s a List.mem_cons_self)
theorem overL_keeps {α β : Type} {g : State → β} {f : State → α → State} (l : List α) (s : State)
    (h : ∀ s, ∀ x ∈ l, g (f s x) = g s) : g (overL l f s) = g s := foldl_keeps l s h
theorem overN_keeps {β : Type} {g : State → β} {f : State → Nat → State} (n : Nat) (s : State)
    (h : ∀ s, ∀ x < n, g (f s x) = g s) : g (overN n f s) = g s :=
  foldl_keeps _ s fun s x hx => h s x (List.mem_range.mp hx)

/-- Memory that every property of memory follows is the same memory. -/
theorem mem_of_keeps {s t : State} (h : ∀ P, Holds P s → Holds P t) : t.mem = s.mem := h (fun m _ _ => m = s.mem) rfl

/-! What a register reads after each shared operation. -/

@[simp] theorem reg_bump_same (s : State) (r : Reg) : (s.bump r).reg r = bump32 (s.reg r) := reg_setReg_same _ _ _
theorem reg_bump_other (s : State) (r q : Reg) (h : q ≠ r) : (s.bump r).reg q = s.reg q := reg_setReg_other _ _ _ _ h
@[simp] theorem reg_bumpBy_same (s : State) (r : Reg) (n : Nat) : (s.bumpBy r n).reg r = (s.reg r + n) % 4294967296 :=
  reg_setReg_same _ _ _
theorem reg_bumpBy_other (s : State) (r q : Reg) (n : Nat) (h : q ≠ r) : (s.bumpBy r n).reg q = s.reg q :=
  reg_setReg_other _ _ _ _ h
@[simp] theorem reg_modCore (s : State) (c : Nat) (f : CoreSt → CoreSt) (q : Reg) : (s.modCore c f).reg q = s.reg q := rfl

@[simp] theorem bump_mem (s : State) (r : Reg) : (s.bump r).mem = s.mem := rfl
@[simp] theorem bump_cores (s : State) (r : Reg) : (s.bump r).cores = s.cores := rfl
@[simp] theorem bumpBy_mem (s : State) (r : Reg) (n : Nat) : (s.bumpBy r n).mem = s.mem := rfl
@[simp] theorem bumpBy_cores (s : State) (r : Reg) (n : Nat) : (s.bumpBy r n).cores = s.cores := rfl

/-- A state that differs from another in reports alone: in registers of a list, the answer, the log, sessions and rings. -/
def Reports (s t : State) (l : List Reg) : Prop := t.quiet = s.quiet ∧ SameRegs s t l

theorem SameRegs.refl (s : State) (l : List Reg) : SameRegs s s l := fun _ _ => rfl
theorem SameRegs.trans {s t u : State} {l : List Reg} (h : SameRegs s t l) (h' : SameRegs t u l) : SameRegs s u l :=
  fun q hq => (h' q hq).trans (h q hq)
theorem SameRegs.mono {s t : State} {l l' : List Reg} (h : SameRegs s t l) (hl : l ⊆ l') : SameRegs s t l' :=
  fun q hq => h q fun hm => hq (hl hm)
theorem SameRegs.setReg {s : State} {q : Reg} {l : List Reg} (hq : q ∈ l) (v : Int) : SameRegs s (s.setReg q v) l :=
  fun q' hq' => reg_setReg_other s q q' v fun h => hq' (h ▸ hq)

namespace Reports
variable {s t u : State} {l l' : List Reg}

theorem refl (s : State) (l : List Reg) : Reports s s l := ⟨rfl, .refl s l⟩
theorem trans (h : Reports s t l) (h' : Reports t u l) : Reports s u l := ⟨h'.1.trans h.1, h.2.trans h'.2⟩
theorem mono (h : Reports s t l) (hl : l ⊆ l') : Reports s t l' := ⟨h.1, h.2.mono hl⟩
theorem setReg {q : Reg} (hq : q ∈ l) (v : Int) : Reports s (s.setReg q v) l := ⟨rfl, .setReg hq v⟩
theorem bump {q : Reg} (hq : q ∈ l) : Reports s (s.bump q) l := setReg hq _
theorem bumpBy {q : Reg} (hq : q ∈ l) (n : Nat) : Reports s (s.bumpBy q n) l := setReg hq _
theorem orReg {q : Reg} (hq : q ∈ l) (m : Nat) : Reports s (s.orReg q m) l := setReg hq _
theorem reply (s : State) (code : Nat) (l : List Reg) : Reports s (s.reply code) l := ⟨rfl, sameRegs_of_regs rfl l⟩
theorem logEvent (s : State) (code level plot p0 p1 : Nat) (l : List Reg) :
    Reports s (s.logEvent code level plot p0 p1) l := ⟨rfl, sameRegs_of_regs rfl l⟩
theorem notify (hl : Reg.notifyDropped ∈ l) (who : Session → Bool) (code idx sub : Nat) :
    Reports s (s.notify who code idx sub) l :=
  ⟨rfl, fun _ hq => reg_setReg_other _ _ _ _ fun h => hq (h ▸ hl)⟩
theorem eventEntry (s : State) (owner code : Nat) (r : Reg) (l : List Reg) : Reports s (s.eventEntry owner code r) l :=
  ⟨rfl, sameRegs_of_regs rfl l⟩
theorem notifyPlot (hl : Reg.notifyDropped ∈ l) (p code : Nat) (r : Reg) : Reports s (s.notifyPlot p code r) l :=
  (notify hl _ _ _ _).trans (eventEntry _ _ _ _ _)
theorem notifyGardener (hl : Reg.notifyDropped ∈ l) (code : Nat) (r : Reg) : Reports s (s.notifyGardener code r) l :=
  (notify hl _ _ _ _).trans (eventEntry _ _ _ _ _)
theorem plotFault (hl : Reg.notifyDropped ∈ l) {p : Nat} (hp : Reg.plotFault p ∈ l) (b : Nat) :
    Reports s (s.plotFault p b) l := by
  unfold State.plotFault
  split
  · exact refl s l
  · dsimp only
    split
    · exact (orReg hp _).trans (notifyPlot hl _ _ _)
    · exact orReg hp _
theorem refreshFaults (hc : Reg.faultCode ∈ l) (hn : Reg.faultCount ∈ l) : Reports s s.refreshFaults l := by
  unfold State.refreshFaults
  extract_lets w now fresh
  exact (setReg hc _).trans (bumpBy hn _)
theorem when (b : Bool) {f : State → State} (h : Reports s (f s) l) : Reports s (s.when b f) l := by
  cases b
  · exact refl s l
  · exact h

/-! What reports leave alone. -/

theorem field {α : Type} (h : Reports s t l) (g : State → α) (hg : ∀ s, g s.quiet = g s) : g t = g s :=
  (hg t).symm.trans ((congrArg g h.1).trans (hg s))
theorem mem (h : Reports s t l) : t.mem = s.mem := h.field State.mem fun _ => rfl
theorem tick (h : Reports s t l) : t.tick = s.tick := h.field State.tick fun _ => rfl
theorem cycle (h : Reports s t l) : t.cycle = s.cycle := h.field State.cycle fun _ => rfl
theorem cores (h : Reports s t l) : t.cores = s.cores := h.field State.cores fun _ => rfl
theorem tasks (h : Reports s t l) : t.tasks = s.tasks := h.field State.tasks fun _ => rfl
theorem plots (h : Reports s t l) : t.plots = s.plots := h.field State.plots fun _ => rfl
theorem sameMem (h : Reports s t l) : SameMem s t := sameMem_of_mem h.mem

end Reports

end Sys2Proof.Machine
end

section
/-!
PROOFS. How a bundle issues and retires (03, R115, R120; 04, R126, R127, R129, R130).
-/
namespace Sys2Proof.Machine

theorem core_of_cores {s t : State} (h : t.cores = s.cores) (c : Nat) : t.core c = s.core c := by
  simp only [State.core, h]
theorem task_of_tasks {s t : State} (h : t.tasks = s.tasks) (p id : Nat) : t.task p id = s.task p id := by
  simp only [State.task, h]

/-! What an exception leaves: its record, a core without a task, memory as it was (01, R51 to R54; 03, R120). -/

/-- Registers of a failed proof and of the fault codes. -/
def faultRegs : List Reg := [Reg.pairSuspect, Reg.proofFailCount, Reg.proofLast, Reg.faultCode, Reg.faultCount]
/-- A failed proof is reported, and the pair notes it. -/
theorem proofFail_eq (s : State) (kind unit : Nat) : ∃ u x, Reports s u faultRegs ∧ s.proofFail kind unit = { u with pair := x } := by
  refine ⟨_, _, ?_, rfl⟩
  exact ((((Reports.setReg (by simp [faultRegs]) _).trans (.bump (by simp [faultRegs]))).trans
    (.setReg (by simp [faultRegs]) _)).trans (.logEvent ..)).trans (.refreshFaults (by simp [faultRegs]) (by simp [faultRegs]))

/-- Registers that the consequences of an exception may change, beside its record and the overrun's. -/
def excRegs (c p : Nat) : List Reg :=
  [Reg.coreResidue c, Reg.coreUecc c, Reg.plotFault p, Reg.notifyDropped] ++ faultRegs
/-- Registers that an overrun changes. -/
def ovrRegs (p : Nat) : List Reg :=
  [Reg.ovrCount p, Reg.ovrLastTick p, Reg.ovrLastTask p, Reg.plotFault p, Reg.notifyDropped]

/-- Cores, tasks and the registers outside a list are as they were. -/
structure KeepsCores (l : List Reg) (s t : State) : Prop where
  cores : t.cores = s.cores
  tasks : t.tasks = s.tasks
  regs : SameRegs s t l

namespace KeepsCores
variable {l : List Reg} {s t u : State}

theorem refl (l : List Reg) (s : State) : KeepsCores l s s := ⟨rfl, rfl, .refl s l⟩
theorem trans (h : KeepsCores l s t) (h' : KeepsCores l t u) : KeepsCores l s u :=
  ⟨h'.cores.trans h.cores, h'.tasks.trans h.tasks, h.regs.trans h'.regs⟩
theorem of_reports (h : Reports s t l) : KeepsCores l s t := ⟨h.cores, h.tasks, h.2⟩
theorem of_ite {p : Prop} [Decidable p] (ht : KeepsCores l s t) (hu : KeepsCores l s u) :
    KeepsCores l s (if p then t else u) := by split <;> assumption
theorem of_when (b : Bool) {f : State → State} (h : ∀ s, KeepsCores l s (f s)) (s : State) :
    KeepsCores l s (s.when b f) := of_ite (h s) (refl l s)
theorem of_overL {α : Type} {f : State → α → State} (x : List α) (h : ∀ s a, KeepsCores l s (f s a)) (s : State) :
    KeepsCores l s (overL x f s) := by
  induction x generalizing s with
  | nil => exact refl l s
  | cons a x ih => exact (h s a).trans (ih (f s a))
theorem evidence (s : State) (p : Nat) : KeepsCores l s (s.evidence p) := ⟨rfl, rfl, sameRegs_of_regs rfl l⟩
theorem repair (s : State) (a : Nat) (b : List Byte) : KeepsCores l s (s.repair a b) := ⟨rfl, rfl, sameRegs_of_regs rfl l⟩
theorem proofFail (hl : faultRegs ⊆ l) (s : State) (kind unit : Nat) : KeepsCores l s (s.proofFail kind unit) := by
  obtain ⟨u, x, hu, hx⟩ := proofFail_eq s kind unit
  rw [hx]
  exact of_reports (hu.mono hl) |>.trans ⟨rfl, rfl, sameRegs_of_regs rfl l⟩

end KeepsCores

/-- What an exception does before it stops the core: its record, then its consequences. -/
theorem exception_eq (s : State) (c : Nat) (r : RunTask) (code trap : Nat) : ∃ u, s.exception c r code trap = u.stopOverrun c r ∧
    u.cores = s.cores ∧ SameRegs (((s.bump (Reg.coreExcCount c)).setReg (Reg.coreExcLast c)
      (code * 16777216 + r.task.id)).setReg (Reg.coreExcPc c) (s.core c).pc) u (excRegs c r.plot) := by
  have hrep : ∀ {s t : State}, Reports s t (excRegs c r.plot) → KeepsCores (excRegs c r.plot) s t := .of_reports
  unfold State.exception
  extract_lets pc s1 s2 s3 s4 s5
  have h1 : Reports s s1 [Reg.coreExcCount c, Reg.coreExcLast c, Reg.coreExcPc c] :=
    ((Reports.bump (by simp)).trans (.setReg (by simp) _)).trans (.setReg (by simp) _)
  have h2 : KeepsCores (excRegs c r.plot) s1 s2 := .of_ite (.refl _ _) (hrep (.logEvent ..))
  have h3 : KeepsCores (excRegs c r.plot) s2 s3 :=
    .of_ite (hrep (.bump (by simp [excRegs]))) (.of_ite (hrep (.bump (by simp [excRegs])))
      (.of_ite (.of_overL _ (fun s e => .trans (hrep (.bump (by simp [excRegs]))) (.repair _ _ _)) _) (.refl _ _)))
  have h4 : KeepsCores (excRegs c r.plot) s3 s4 :=
    .of_when _ (fun s => .trans (hrep (.plotFault (by simp [excRegs]) (by simp [excRegs]) 1)) (.evidence _ _)) _
  have h5 : KeepsCores (excRegs c r.plot) s4 s5 := .of_when _ (fun s => .proofFail (List.subset_append_right _ _) s 0 c) _
  have h := ((h2.trans h3).trans h4).trans h5
  exact ⟨s5, rfl, h.cores.trans h1.cores, h.regs⟩

/-- An overrun is counted: cores stay as they are, and registers but its own and the plot's fault. -/
theorem countOverrun_frame (s : State) (p core id : Nat) : (s.countOverrun p core id).cores = s.cores ∧
    (s.countOverrun p core id).reg (Reg.ovrCount p) = bump32 (s.reg (Reg.ovrCount p)) ∧
    SameRegs s (s.countOverrun p core id) (ovrRegs p) := by
  have hfault : ∀ s : State, Reports s (s.plotFault p 0) [Reg.plotFault p, Reg.notifyDropped] := fun s =>
    .plotFault (by simp) (by simp) 0
  unfold State.countOverrun
  dsimp only
  split
  all_goals
    refine ⟨(hfault _).cores, ?_, fun q hq => ?_⟩
    · refine ((hfault _).2 _ (by simp)).trans ?_
      simp [reg_setReg_other]
    · simp only [ovrRegs, List.mem_cons, List.not_mem_nil, or_false, not_or] at hq
      obtain ⟨h1, h2, h3, h4, h5⟩ := hq
      refine ((hfault _).2 q (by simp [h4, h5])).trans ?_
      simp only [reg_modPlot, reg_setReg_other, reg_bump_other, ne_eq, h1, h2, h3, not_false_eq_true]

theorem zeroTask_done (s : State) (p id : Nat) : ((s.zeroTask p id).task p id).done = false := by
  simp [State.zeroTask, State.task, State.modTask]

/-- Repairs wait: cores, tasks and registers stay as they are. -/
theorem reinit_keeps (l : List Reg) (s : State) (p : Nat) (t : Task) : KeepsCores l s (s.reinit p t) := by
  unfold State.reinit
  split
  · exact .of_ite (.of_overL _ (fun s e => .repair _ _ _) _) (.refl _ _)
  · exact .refl _ _

/-- A core stopped as an overrun: it runs nothing, its task is not done, the overrun is counted. -/
theorem stopOverrun_frame (s : State) (c : Nat) (r : RunTask) : (s.stopOverrun c r).core c = (s.core c).stop ∧
    (∀ d, d ≠ c → (s.stopOverrun c r).core d = s.core d) ∧
    ((s.stopOverrun c r).task r.plot r.task.id).done = false ∧
    (s.stopOverrun c r).reg (Reg.ovrCount r.plot) = bump32 (s.reg (Reg.ovrCount r.plot)) ∧
    SameRegs s (s.stopOverrun c r) (ovrRegs r.plot) := by
  obtain ⟨hcores, hcount, hregs⟩ := countOverrun_frame (s.modCore c CoreSt.stop) r.plot c r.task.id
  have hre := reinit_keeps []
    (((s.modCore c CoreSt.stop).countOverrun r.plot c r.task.id).zeroTask r.plot r.task.id) r.plot r.task
  have hcore : ∀ d, (s.stopOverrun c r).core d = (s.modCore c CoreSt.stop).core d := fun d =>
    (core_of_cores hre.cores d).trans (core_of_cores hcores d)
  refine ⟨?_, fun d hd => ?_, ?_, ?_, fun q hq => ?_⟩
  · rw [hcore, core_modCore_same]
  · rw [hcore, State.modCore, core_setCore_other _ _ _ _ hd]
  · exact (congrArg TaskSt.done (task_of_tasks hre.tasks _ _)).trans (zeroTask_done _ _ _)
  · exact (hre.regs _ (by simp)).trans hcount
  · exact (hre.regs q (by simp)).trans (hregs q hq)


/-- An exception leaves its record, a core that runs nothing, an overrun counted, and memory as it was. -/
theorem exception_frame (s : State) (c : Nat) (r : RunTask) (code trap : Nat) :
    (s.exception c r code trap).reg (Reg.coreExcCount c) = bump32 (s.reg (Reg.coreExcCount c)) ∧
    (s.exception c r code trap).reg (Reg.coreExcLast c) = code * 16777216 + r.task.id ∧
    (s.exception c r code trap).reg (Reg.coreExcPc c) = (s.core c).pc ∧
    (s.exception c r code trap).reg (Reg.ovrCount r.plot) = bump32 (s.reg (Reg.ovrCount r.plot)) ∧
    ((s.exception c r code trap).task r.plot r.task.id).done = false ∧
    (s.exception c r code trap).core c = (s.core c).stop ∧
    (∀ d, d ≠ c → (s.exception c r code trap).core d = s.core d) ∧ (s.exception c r code trap).mem = s.mem := by
  have hmem : (s.exception c r code trap).mem = s.mem := mem_of_keeps fun _ => keeps_exception s c r code trap
  obtain ⟨u, hu, hucores, hk⟩ := exception_eq s c r code trap
  rw [hu] at hmem ⊢
  obtain ⟨hcore, hother, hdone, hcount, hregs⟩ := stopOverrun_frame u c r
  have hcores : ∀ d, u.core d = s.core d := fun d => core_of_cores hucores d
  refine ⟨?_, ?_, ?_, ?_, hdone, by rw [hcore, hcores], fun d hd => by rw [hother d hd, hcores], hmem⟩
  · rw [hregs _ (by simp [ovrRegs]), hk _ (by simp [excRegs, faultRegs])]
    rw [reg_setReg_other _ _ _ _ (by simp), reg_setReg_other _ _ _ _ (by simp), reg_bump_same]
  · rw [hregs _ (by simp [ovrRegs]), hk _ (by simp [excRegs, faultRegs])]
    rw [reg_setReg_other _ _ _ _ (by simp), reg_setReg_same]
  · rw [hregs _ (by simp [ovrRegs]), hk _ (by simp [excRegs, faultRegs]), reg_setReg_same]
  · rw [hcount, hk _ (by simp [excRegs, faultRegs]; omega), reg_setReg_other _ _ _ _ (by simp),
      reg_setReg_other _ _ _ _ (by simp), reg_bump_other _ _ _ (by simp)]

/-! What a bundle that issues leaves of its core. -/

/-- A core whose registers g, task, windows and message queues are as another's. -/
structure CoreSt.SameData (k k' : CoreSt) : Prop where
  g : k'.g = k.g
  run : k'.run = k.run
  dma : k'.dma = k.dma

theorem CoreSt.SameData.trans {k k' k'' : CoreSt} (h : k.SameData k') (h' : k'.SameData k'') : k.SameData k'' :=
  ⟨h'.g.trans h.g, h'.run.trans h.run, h'.dma.trans h.dma⟩

theorem useUnit_sameData (k : CoreSt) (u t iv : Nat) : k.SameData (k.useUnit u t iv) := by
  unfold CoreSt.useUnit
  split
  · exact ⟨rfl, rfl, rfl⟩
  · split <;> exact ⟨rfl, rfl, rfl⟩
theorem speculate_sameData (s : State) (c : Fin 128) (r : RunTask) (t : Nat) (k : CoreSt) :
    k.SameData (s.speculate c r t k) := by
  unfold State.speculate
  split
  · exact ⟨rfl, rfl, rfl⟩
  · extract_lets k1 wait b
    split
    · split
      · exact useUnit_sameData _ _ _ _
      · exact ⟨rfl, rfl, rfl⟩
    · exact ⟨rfl, rfl, rfl⟩
/-- Falling through changes the loops under way, their counters and the address of the next bundle alone. -/
theorem fallThrough_eq (k : CoreSt) : ∃ cr pc loops, k.fallThrough = { k with c := cr, pc := pc, loops := loops } := by
  unfold CoreSt.fallThrough
  dsimp only
  split
  · exact ⟨k.c, _, k.loops, rfl⟩
  · split
    · split <;> exact ⟨_, _, _, rfl⟩
    · exact ⟨k.c, _, k.loops, rfl⟩
  · split
    · split
      · exact ⟨_, _, _, rfl⟩
      · split
        · split <;> exact ⟨_, _, _, rfl⟩
        · exact ⟨_, _, _, rfl⟩
    · exact ⟨k.c, _, k.loops, rfl⟩
theorem fallThrough_sameData (k : CoreSt) : k.SameData k.fallThrough := by
  obtain ⟨cr, pc, loops, h⟩ := fallThrough_eq k
  rw [h]; exact ⟨rfl, rfl, rfl⟩
theorem flow_sameData (s : State) (c : Nat) (r : RunTask) (t : Nat) (b : Bundle) (k : CoreSt) :
    k.SameData (s.flow c r t b k) := by
  unfold State.flow
  split
  · split
    · dsimp only
      split
      · exact ⟨rfl, rfl, rfl⟩
      · have h := speculate_sameData s (Fin.ofNat 128 c) r t k
        exact ⟨h.g, h.run, h.dma⟩
    · have h := fallThrough_sameData k
      exact ⟨h.g, h.run, h.dma⟩
  · split
    · exact ⟨rfl, rfl, rfl⟩
    · exact ⟨rfl, rfl, rfl⟩
    · have h := fallThrough_sameData k
      exact ⟨h.g, h.run, h.dma⟩

/-- Without a branch or an open loop flow goes to the next bundle. -/
theorem flow_pc (s : State) (c : Nat) (r : RunTask) (t : Nat) {b : Bundle} {k : CoreSt} (hb : b.branch = none)
    (hf : b.flow = .seq) (hl : k.loops = []) : (s.flow c r t b k).pc = (k.pc + 1) % 8192 := by
  simp only [State.flow, hb, hf, CoreSt.fallThrough, hl]

/-- A fold of changes that keep a core's task, windows, pc and loops. -/
structure CoreSt.SameCtl (k k' : CoreSt) : Prop where
  run : k'.run = k.run
  dma : k'.dma = k.dma
  pc : k'.pc = k.pc
  loops : k'.loops = k.loops
  issued : k'.issued = k.issued

theorem CoreSt.SameCtl.refl (k : CoreSt) : k.SameCtl k := ⟨rfl, rfl, rfl, rfl, rfl⟩
theorem CoreSt.SameCtl.trans {k k' k'' : CoreSt} (h : k.SameCtl k') (h' : k'.SameCtl k'') : k.SameCtl k'' :=
  ⟨h'.run.trans h.run, h'.dma.trans h.dma, h'.pc.trans h.pc, h'.loops.trans h.loops, h'.issued.trans h.issued⟩
theorem foldl_sameCtl {α : Type} {f : CoreSt → α → CoreSt} (l : List α) (h : ∀ (k : CoreSt) (a : α), k.SameCtl (f k a)) (k : CoreSt) :
    k.SameCtl (l.foldl f k) := by
  induction l generalizing k with
  | nil => exact .refl k
  | cons a l ih => exact (h k a).trans (ih _)
theorem useUnit_sameCtl (k : CoreSt) (u t iv : Nat) : k.SameCtl (k.useUnit u t iv) := by
  unfold CoreSt.useUnit
  split
  · exact ⟨rfl, rfl, rfl, rfl, rfl⟩
  · split <;> exact ⟨rfl, rfl, rfl, rfl, rfl⟩
theorem setFlags_sameCtl (k : CoreSt) (m : Nat) : k.SameCtl (k.setFlags m) := by
  unfold CoreSt.setFlags
  split <;> exact ⟨rfl, rfl, rfl, rfl, rfl⟩
theorem applyWrite_sameCtl (s : State) (t : Nat) (k : CoreSt) (w : RegWrite) : k.SameCtl (s.applyWrite t k w) := by
  cases w <;> exact ⟨rfl, rfl, rfl, rfl, rfl⟩
theorem copWrite_sameCtl (k : CoreSt) (t : Nat) : k.SameCtl (k.copWrite t) :=
  .trans (k' := { k with cop := k.cop.filter fun e => !decide (e.due ≤ t) }) ⟨rfl, rfl, rfl, rfl, rfl⟩
    (foldl_sameCtl _ (fun k (e : CopEntry) => .trans (k' := { k with g := NTable.put 0 k.g e.dest e.value })
      ⟨rfl, rfl, rfl, rfl, rfl⟩ (setFlags_sameCtl _ _)) _)

/-- Results change registers: the core's task, windows and flow are as they were, and g is what the writes leave. -/
theorem writeBack_frame (s : State) (t : Nat) (b : Bundle) (k : CoreSt) : k.SameCtl (s.writeBack t b k) ∧
    (s.writeBack t b k).g = (b.writes.foldl (s.applyWrite t) (k.copWrite (t + 4))).g := by
  refine ⟨?_, ?_⟩
  · unfold State.writeBack
    extract_lets k1 k2
    have h1 : k.SameCtl k1 := .trans (copWrite_sameCtl k (t + 4)) (foldl_sameCtl _ (applyWrite_sameCtl s t) _)
    have h2 : k1.SameCtl k2 := by
      refine .trans (setFlags_sameCtl k1 b.flags) (foldl_sameCtl _ (fun k e => ?_) _)
      exact ⟨rfl, rfl, rfl, rfl, rfl⟩
    refine h1.trans (h2.trans (foldl_sameCtl _ (fun k e => ?_) _))
    have h := useUnit_sameCtl k (copUnit e.2.2.1) t (copInterval e.2.2.1)
    exact ⟨h.run, h.dma, h.pc, h.loops, h.issued⟩
  · unfold State.writeBack
    extract_lets k1 k2
    have h2 : k2.g = (k1.setFlags b.flags).g := foldl_keeps (g := CoreSt.g) _ _ fun _ _ _ => rfl
    refine Eq.trans (foldl_keeps (g := CoreSt.g) _ _ fun k e _ => ?_) (h2.trans (setFlags_g _ _))
    exact (useUnit_sameData k _ _ _).g

end Sys2Proof.Machine
end

section
/-!
PROOFS. The retirement of a bundle, and what every slot command is (03, R115, R120; 04, R126, R127, R129, R130).
-/
namespace Sys2Proof.Machine

/-! Stores of a core: bytes outside them stay, and of cores the windows' notes alone change. -/

/-- A core store takes effect as plain stores of bytes where no window of the tick writes later (R95). -/
theorem coreStore_plain {s : State} {own : Nat} (h : (s.core own).dma = []) (u a : Nat) (b : List Byte) :
    s.coreStore own u a b = s.store a b := by rw [State.coreStore, if_pos h]

theorem byte_coreStoreByte (s : State) (own u a : Nat) (v : Byte) {x : Nat} (hx : x ≠ a) :
    (s.coreStoreByte own u a v).byte x = s.byte x := by
  unfold State.coreStoreByte
  split
  · rfl
  · exact byte_store_outside (by simp only [List.length_singleton]; omega)
theorem byte_coreStore (s : State) (own u a : Nat) (b : List Byte) {x : Nat} (hx : x < a ∨ a + b.length ≤ x) :
    (s.coreStore own u a b).byte x = s.byte x := by
  unfold State.coreStore
  split
  · exact byte_store_outside hx
  · refine overL_keeps (g := (·.byte x)) _ s fun s e he => byte_coreStoreByte s own u _ _ ?_
    have hlt := List.snd_lt_of_mem_zipIdx he
    omega

/-- A core but for what its windows have noted. -/
def CoreSt.bare (k : CoreSt) : CoreSt := { k with dma := [] }

theorem bare_coreStoreByte (s : State) (own u a : Nat) (v : Byte) (d : Nat) :
    ((s.coreStoreByte own u a v).core d).bare = (s.core d).bare := by
  unfold State.coreStoreByte
  split
  · by_cases hd : d = own
    · rw [hd, core_modCore_same]; rfl
    · rw [State.modCore, core_setCore_other _ _ _ _ hd]
  · rw [core_of_cores (store_cores _ _ _)]
theorem bare_coreStore (s : State) (own u a : Nat) (b : List Byte) (d : Nat) :
    ((s.coreStore own u a b).core d).bare = (s.core d).bare := by
  unfold State.coreStore
  split
  · rw [core_of_cores (store_cores _ _ _)]
  · exact overL_keeps (g := fun s => (s.core d).bare) _ s fun s e _ => bare_coreStoreByte s own u _ _ d

/-! A bundle that issues. -/

section
variable {s : State} {c : Nat} {r : RunTask}

/-- The stores of a bundle that issues in cycle t take effect in cycle t + 4 (03, Table 3.1). -/
def State.storeAll (s : State) (t : Nat) (l : List (Nat × Nat × List Byte)) : State :=
  overL l (fun s e => s.coreStore e.1 (t + 4) e.2.1 e.2.2) s

/-- A bundle that retires before DEADLINE, without an exception, a register named twice or two conditions: its results are
in its core, its stores in memory, and an END ends the task. -/
theorem retire_issues (hdl : (s.core c).issueCycle c + 4 < r.task.deadline) (hexc : (s.core c).bundle.exc = 0)
    (hdup : hasDup (s.core c).bundle.dests = false) (hclash : (s.core c).bundle.clash = false) : ∃ k' u,
    s.retire c r = (if (s.core c).bundle.isEnd then u.finish c r else u) ∧
    u.mem = ((s.setCore c k').storeAll ((s.core c).issueCycle c) (s.core c).bundle.stores).mem ∧
    u.cores = ((s.setCore c k').storeAll ((s.core c).issueCycle c) (s.core c).bundle.stores).cores ∧
    k'.g = ((s.core c).bundle.writes.foldl (s.applyWrite ((s.core c).issueCycle c))
      ((s.core c).copWrite ((s.core c).issueCycle c + 4))).g ∧
    k'.run = (s.core c).run ∧ k'.dma = (s.core c).dma ∧ k'.bundle = {} ∧ k'.issued = (s.core c).issued + 1 ∧
    ((s.core c).bundle.branch = none → (s.core c).bundle.flow = .seq → (s.core c).loops = [] →
      (s.core c).bundle.loop = none → k'.pc = ((s.core c).pc + 1) % 8192) := by
  unfold State.retire
  extract_lets k b t k1 k2 k3 s1 s2 s3 s4
  rw [if_neg (not_le.mpr hdl), if_neg (not_not.mpr hexc), if_neg (by simp [b, k, hdup, hclash])]
  obtain ⟨hctl, hg⟩ := writeBack_frame s t b k
  have h2 : k1.SameCtl k2 ∧ k2.g = k1.g := by
    simp only [k2]; split <;> exact ⟨⟨rfl, rfl, rfl, rfl, rfl⟩, rfl⟩
  have h3 : k2.SameData k3 := by
    simp only [k3]; split
    · exact ⟨rfl, rfl, rfl⟩
    · exact flow_sameData _ _ _ _ _ _
  have h4 : s4.mem = s3.mem ∧ s4.cores = s3.cores := by
    simp only [s4]; split <;> exact ⟨rfl, rfl⟩
  refine ⟨{ k3 with lastIssue := t, issued := k.issued + 1, bundle := {} }, s4, rfl, h4.1.trans (bumpBy_mem _ _ _),
    h4.2.trans (bumpBy_cores _ _ _), h3.g.trans (h2.2.trans hg), h3.run.trans (h2.1.run.trans hctl.run),
    h3.dma.trans (h2.1.dma.trans hctl.dma), rfl, rfl, fun hbr hfl hlo hloop => ?_⟩
  have hk3 : k3 = s.flow c r t b k2 := by simp only [k3, b, k, hloop]
  show k3.pc = _
  rw [hk3, flow_pc _ _ _ _ hbr hfl (h2.1.loops.trans (hctl.loops.trans hlo)), h2.1.pc, hctl.pc]

/-- END stops the core, its task is done, and memory stays. -/
theorem finish_frame (s : State) (c : Nat) (r : RunTask) : ((s.finish c r).core c).run = none ∧
    ((s.finish c r).task r.plot r.task.id).done = true ∧ (s.finish c r).mem = s.mem := by
  refine ⟨?_, ?_, mem_of_keeps fun _ => keeps_finish s c r⟩
  · unfold State.finish
    extract_lets k s1 s2
    exact congrArg CoreSt.run (core_modCore_same s2 c CoreSt.stop)
  · unfold State.finish
    extract_lets k s1 s2
    simp [State.task, State.modTask]

/-! What a register g holds after the writes of a bundle. -/

theorem applyWrite_g_other (s : State) (t : Nat) (k : CoreSt) (w : RegWrite) (g : Nat) (hg : g ∉ w.gs) :
    NTable.get 0 (s.applyWrite t k w).g g = NTable.get 0 k.g g := by
  cases w with
  | g r v => exact NTable.get_put_other _ _ _ _ _ (by simpa [RegWrite.gs] using hg)
  | gCyc r => exact NTable.get_put_other _ _ _ _ _ (by simpa [RegWrite.gs] using hg)
  | load r own a n sh => exact NTable.get_put_other _ _ _ _ _ (by simpa [RegWrite.gs] using hg)
  | find f best idx own a single i b0 i0 =>
    simp only [RegWrite.gs, List.mem_cons, List.not_mem_nil, or_false, not_or] at hg
    exact (NTable.get_put_other _ _ _ _ _ hg.2).trans (NTable.get_put_other _ _ _ _ _ hg.1)
  | a r v => rfl
  | p r v => rfl
  | q r v => rfl
  | c r v => rfl

/-- Where no register is written twice, a register holds what its own write leaves there, whatever stands around it. -/
theorem foldl_applyWrite_g (s : State) (t : Nat) (l : List RegWrite) (k : CoreSt) (w : RegWrite) (g : Nat) (v : Word)
    (hnd : (l.flatMap RegWrite.gs).Nodup) (hw : w ∈ l) (hg : g ∈ w.gs)
    (hv : ∀ k, NTable.get 0 (s.applyWrite t k w).g g = v) : NTable.get 0 (l.foldl (s.applyWrite t) k).g g = v := by
  induction l generalizing k with
  | nil => exact nomatch hw
  | cons x l ih =>
    rw [List.flatMap_cons, List.nodup_append] at hnd
    obtain ⟨-, hl, hdisj⟩ := hnd
    by_cases hwl : w ∈ l
    · exact ih _ hl hwl
    · obtain rfl : w = x := by simpa [hwl] using hw
      have hrest : ∀ y ∈ l, g ∉ y.gs := fun y hy hgy => hdisj g hg g (List.mem_flatMap.mpr ⟨y, hy, hgy⟩) rfl
      exact (foldl_keeps (g := fun k : CoreSt => NTable.get 0 k.g g) l _ fun k y hy =>
        applyWrite_g_other s t k y g (hrest y hy)).trans (hv k)

theorem better_test (f : Better) (x b : Int) : f.test x b = betterThan f x b := by
  cases f <;> simp only [Better.test, betterThan, gt_iff_lt, decide_eq_decide]
  · rw [Int.abs_eq_natAbs, Int.abs_eq_natAbs, Nat.cast_lt]
  · rw [Int.abs_eq_natAbs, Int.abs_eq_natAbs, Nat.cast_lt]
theorem searchStep_eq (f : Better) (i x : Word) (e : Word × Word) :
    searchStep f i x e = searchPick (betterThan f x.toInt e.1.toInt) x i e.1 e.2 := by
  simp only [searchStep, searchPick, better_test]

/-- A search leaves the better of its elements, with its index (R105). -/
theorem applyWrite_find (s : State) (t : Nat) (f : Better) (best idx own a : Nat) (single : Bool) (i b0 i0 : Word) :
    ∃ x y : Word × Word,
      x = searchPick (betterThan f (s.coreWord own (t + 1) a).toInt b0.toInt) (s.coreWord own (t + 1) a) i b0 i0 ∧
      y = searchPick (betterThan f (s.coreWord own (t + 1) (a + 4)).toInt x.1.toInt) (s.coreWord own (t + 1) (a + 4)) (i + 1)
        x.1 x.2 ∧
      ∀ k, (s.applyWrite t k (.find f best idx own a single i b0 i0)).g =
        NTable.put 0 (NTable.put 0 k.g best (if single then x.1 else y.1)) idx (if single then x.2 else y.2) := by
  refine ⟨_, _, rfl, rfl, fun k => ?_⟩
  cases single <;> simp [State.applyWrite, searchStep_eq]

theorem find_distinct {l : List RegWrite} (hnd : (l.flatMap RegWrite.gs).Nodup) {f : Better} {best idx own a : Nat}
    {single : Bool} {i b0 i0 : Word} (hw : RegWrite.find f best idx own a single i b0 i0 ∈ l) : best ≠ idx := by
  have h := (List.nodup_flatMap.mp hnd).1 _ hw
  simpa [RegWrite.gs] using h

end

/-! Every slot command is its operation's slot (R126, R129). -/

/-- A command that is a slot's operation runs as that slot. -/
theorem exec_eq_slot (i : Instr) (s : State) : exec i s = match coreOp i with
    | some e => .next (s.slot e.1 e.2.1 e.2.2)
    | none => exec i s := by
  cases i <;> rfl
theorem exec_coreOp {i : Instr} {c : Fin 128} {ctl : SlotCtl} {op : Op} (s : State) (h : coreOp i = some (c, ctl, op)) :
    exec i s = .next (s.slot c ctl op) := by
  rw [exec_eq_slot, h]

/-- A fetch that is uncorrectable, or a parity failure, raises its code and adds no result. -/
theorem add_failed (b : Bundle) (s : State) (c : Nat) (r : RunTask) (k : CoreSt) (ctl : SlotCtl) (op : Op)
    (h : ctl.hw.fetch = .uncorrectable ∨ (ctl.hw.fetch = .clean ∧ ctl.hw.parity = true)) :
    (b.add s c r k ctl op).writes = b.writes ∧
      (b.add s c r k ctl op).exc = if b.exc = 0 then (if ctl.hw.fetch = .uncorrectable then 4 else 8) else b.exc := by
  rcases h with h | ⟨h, hp⟩
  · simp [Bundle.add, h, raise_writes, raise_exc]
  · simp [Bundle.add, h, hp, raise_writes, raise_exc]

theorem slot_idle {s : State} {c : Nat} (h : (s.core c).run = none) (ctl : SlotCtl) (op : Op) : s.slot c ctl op = s := by
  simp only [State.slot, h]

theorem coreBytes_plain {s : State} {own : Nat} (h : (s.core own).dma = []) (u a n : Nat) :
    s.coreBytes own u a n = s.bytes a n := by
  simp [State.coreBytes, State.bytes, State.coreByte, h]

/-- Settles O14: a retirement issues, is an exception, or is held back; a slot adds its operation to the bundle. -/
theorem coreBundleRetires : Obligations.CoreBundleRetires := by
  refine ⟨?retires, fun s own u a n h => coreBytes_plain h u a n, ?slots⟩
  case retires =>
    rintro s c r k rfl
    refine ⟨fun hdl => ?late, fun hdl hexc => ?exc, fun hdl hexc hill => ?ill, fun hdl hexc hdup hclash => ?issues⟩
    case late => exact if_pos hdl
    case exc =>
      have hret : s.retire c r = (s.bumpBy (Reg.coreCecc c) (s.core c).bundle.corrected).exception c r
          (s.core c).bundle.exc (s.core c).bundle.trap := (if_neg (not_le.mpr hdl)).trans (if_pos hexc)
      obtain ⟨-, hlast, hpc, -, -, hcore, -, hmem⟩ := exception_frame
        (s.bumpBy (Reg.coreCecc c) (s.core c).bundle.corrected) c r (s.core c).bundle.exc (s.core c).bundle.trap
      rw [hret]
      exact ⟨hlast, hpc, by rw [hcore]; rfl, sameMem_of_mem hmem⟩
    case ill =>
      have hret : s.retire c r = s.exception c r 1 0 :=
        (if_neg (not_le.mpr hdl)).trans ((if_neg (not_not.mpr hexc)).trans (if_pos (by simpa using hill)))
      obtain ⟨-, hlast, -, -, -, hcore, -, hmem⟩ := exception_frame s c r 1 0
      rw [hret]
      exact ⟨by simpa using hlast, by rw [hcore]; rfl, sameMem_of_mem hmem⟩
    case issues =>
      obtain ⟨k', u, hret, hmem, hcores, hg, hrun, hdma, hbundle, hissued, hpc⟩ := retire_issues hdl hexc hdup hclash
      have hretmem : (s.retire c r).mem = u.mem := by
        rw [hret]; split
        · exact (finish_frame u c r).2.2
        · rfl
      have hown' : ∀ own, ((s.setCore c k').core own).dma = (s.core own).dma := fun own => by
        by_cases ho : own = c
        · rw [ho, core_setCore_same, hdma]
        · rw [core_setCore_other _ _ _ _ ho]
      refine ⟨fun a ha => ?_, fun own a b hst hown => ?_, fun hend => ?_, fun hend => ?_⟩
      · rw [byte_of_mem (hretmem.trans hmem)]
        exact overL_keeps (g := (·.byte a)) _ (s.setCore c k') fun s e he => byte_coreStore s _ _ _ _ (ha e he)
      · rw [bytes_of_mem (hretmem.trans hmem), hst]
        have hplain := coreStore_plain ((hown' own).trans hown) ((s.core c).issueCycle c + 4) a b
        exact (congrArg (State.bytes · a b.length) hplain).trans (bytes_store _ _ _)
      · rw [hret, if_pos hend]
        obtain ⟨h1, h2, -⟩ := finish_frame u c r
        exact ⟨h1, h2⟩
      · have hbare : ((s.retire c r).core c).bare = k'.bare := by
          rw [hret, if_neg (by simp [hend]), core_of_cores hcores]
          refine (overL_keeps (g := fun s : State => (s.core c).bare) _ _ fun s e _ => bare_coreStore s _ _ _ _ c).trans ?_
          rw [core_setCore_same]
        have hregs : ((s.retire c r).core c).g = k'.g := (congrArg CoreSt.g hbare :)
        refine ⟨fun hnd => ⟨fun g v hw => ?_, fun g own a n sh hw => ?_, fun f best idx own a single i b0 i0 hw => ?_⟩,
          (congrArg CoreSt.bundle hbare :).trans hbundle, (congrArg CoreSt.issued hbare :).trans hissued,
          (congrArg CoreSt.run hbare :).trans hrun, fun hbr hfl hlo hloop =>
          (congrArg CoreSt.pc hbare :).trans (hpc hbr hfl hlo hloop)⟩
        · rw [hregs, hg]
          exact foldl_applyWrite_g s _ _ _ _ g _ hnd hw (by simp [RegWrite.gs]) fun k => NTable.get_put_same _ _ _ _
        · rw [hregs, hg]
          exact foldl_applyWrite_g s _ _ _ _ g _ hnd hw (by simp [RegWrite.gs]) fun k => NTable.get_put_same _ _ _ _
        · obtain ⟨x, y, hx, hy, hfind⟩ := applyWrite_find s ((s.core c).issueCycle c) f best idx own a single i b0 i0
          refine ⟨x, y, hx, hy, ?_, ?_⟩
          · rw [hregs, hg]
            refine foldl_applyWrite_g s _ _ _ _ best _ hnd hw (by simp [RegWrite.gs]) fun k => ?_
            rw [hfind, NTable.get_put_other _ _ _ _ _ (find_distinct hnd hw), NTable.get_put_same]
          · rw [hregs, hg]
            refine foldl_applyWrite_g s _ _ _ _ idx _ hnd hw (by simp [RegWrite.gs]) fun k => ?_
            rw [hfind, NTable.get_put_same]
  case slots =>
    intro i c ctl op s h
    refine ⟨exec_coreOp s h, fun hidle => by rw [exec_coreOp s h, slot_idle hidle], fun r hr hhw => ?_⟩
    refine ⟨s.setCore c { s.found c r ctl with
      bundle := (s.found c r ctl).bundle.add s c r (s.found c r ctl) ctl op }, ?_, ?_, ?_⟩
    · rw [exec_coreOp s h, slot_run s c ctl op r hr]
    · rw [core_setCore_same]
    · rw [core_setCore_same]; exact add_failed _ s c r _ ctl op hhw

end Sys2Proof.Machine
end

section
/-!
PROOFS. Tasks, scrub and messages on the cores (01, R51 to R55; 03, R91, R118, R120 to R124).
-/
namespace Sys2Proof.Machine

/-! Folds over the cores: what one step changes, and what is counted. -/

/-- Where one step of a fold alone changes what is read, what is read afterwards is what that step leaves. -/
theorem overN_once {β : Type} {g : State → β} {f : State → Nat → State} {n d : Nat} {s : State} {v : β} (hd : d < n)
    (hother : ∀ s x, x ≠ d → g (f s x) = g s) (hv : ∀ t, g t = g s → g (f t d) = v) : g (overN n f s) = v := by
  induction n with
  | zero => exact absurd hd (Nat.not_lt_zero d)
  | succ n ih =>
    rw [overN, List.range_succ, List.foldl_append]
    by_cases hdn : d = n
    · subst hdn
      exact hv _ (overN_keeps (g := g) d s fun s x hx => hother s x (Nat.ne_of_lt hx))
    · exact (hother _ n (Ne.symm hdn)).trans (ih (by omega))

/-- A 32-bit counter after n counts. -/
def counted (n : Nat) (x : Int) : Int := if n = 0 then x else (x + n) % 4294967296

theorem counted_bump32 (n : Nat) (x : Int) : counted n (bump32 x) = counted (n + 1) x := by
  unfold counted bump32
  split
  · next h => subst h; simp
  · rw [if_neg (by omega), Int.emod_add_emod]; congr 1; push_cast; ring

/-- A fold that counts one in a register for each element of a kind. -/
theorem overL_counts {α : Type} {f : State → α → State} {q : Reg} (p : α → Bool)
    (hp : ∀ s e, p e = true → (f s e).reg q = bump32 (s.reg q)) (hn : ∀ s e, p e = false → (f s e).reg q = s.reg q)
    (l : List α) (s : State) : (overL l f s).reg q = counted (l.filter p).length (s.reg q) := by
  induction l generalizing s with
  | nil => rfl
  | cons e l ih =>
    refine (ih (f s e)).trans ?_
    cases h : p e with
    | true => rw [hp s e h, counted_bump32, List.filter_cons_of_pos h, List.length_cons]
    | false => rw [hn s e h, List.filter_cons_of_neg (by simp [h])]

/-! Scrub (R122, R124). -/

/-- One core's step of scrub: its position and, at the end of a pass, its count. -/
def State.scrubStep (s : State) (c : Nat) : State :=
  (s.modCore c fun k => { k with scrub := ((s.core c).scrub + 1024) % scrubWords }).when
    (decide ((s.core c).scrub + 1024 ≥ scrubWords)) fun s => s.bump (Reg.coreScrubPass c)

theorem execCoreScrub_eq (corrected uncorrectable : List (Fin 128 × Nat)) (s : State) :
    execCoreScrub corrected uncorrectable s = .next (overL (uncorrectable.filter s.scrubReads) (fun s e => s.scrubUecc e.1 e.2)
      (overL (corrected.filter s.scrubReads) (fun s e => s.bump (Reg.coreCecc e.1)) (overN 128 State.scrubStep s))) := rfl

theorem scrubStep_regs (s : State) (c : Nat) : SameRegs s (s.scrubStep c) [Reg.coreScrubPass c] := by
  unfold State.scrubStep State.when
  split
  · exact SameRegs.trans (t := s.modCore c _) (sameRegs_of_regs rfl _) (.setReg (by simp) _)
  · exact sameRegs_of_regs rfl _
theorem scrubStep_mem (s : State) (c : Nat) : (s.scrubStep c).mem = s.mem := when_keeps (g := State.mem) rfl

theorem scrubStep_core (s : State) (c : Nat) :
    ((s.scrubStep c).core c).scrub = ((s.core c).scrub + 1024) % scrubWords ∧
      (∀ d, d ≠ c → (s.scrubStep c).core d = s.core d) := by
  have hcores : (s.scrubStep c).cores = (s.modCore c fun k => { k with scrub := ((s.core c).scrub + 1024) % scrubWords }).cores :=
    when_keeps (g := State.cores) rfl
  refine ⟨?_, fun d hd => ?_⟩
  · rw [core_of_cores hcores, core_modCore_same]
  · rw [core_of_cores hcores, State.modCore, core_setCore_other _ _ _ _ hd]

theorem scrubStep_pass (s : State) (c : Nat) : (s.scrubStep c).reg (Reg.coreScrubPass c) =
    if (s.core c).scrub + 1024 ≥ 73728 then bump32 (s.reg (Reg.coreScrubPass c)) else s.reg (Reg.coreScrubPass c) := by
  unfold State.scrubStep State.when
  by_cases h : (s.core c).scrub + 1024 ≥ scrubWords
  · rw [if_pos (decide_eq_true h), reg_bump_same]; exact (if_pos h).symm
  · rw [if_neg (by simpa using h)]; exact (if_neg h).symm

/-- An uncorrectable word of scrub is counted, and at most its own 8 bytes are rewritten. -/
theorem scrubUecc_frame (s : State) (c w : Nat) : (s.scrubUecc c w).cores = s.cores ∧
    (s.scrubUecc c w).reg (Reg.coreUecc c) = bump32 (s.reg (Reg.coreUecc c)) ∧
    SameRegs s (s.scrubUecc c w) [Reg.coreUecc c] ∧
    ∀ a, a < nearAddr c (scrubLocal c w) ∨ nearAddr c (scrubLocal c w) + 8 ≤ a → (s.scrubUecc c w).byte a = s.byte a := by
  have hrep : ∀ p x y, Reports s ((s.bump (Reg.coreUecc c)).logEvent 0x0402 2 p x y) [Reg.coreUecc c] := fun p x y =>
    (Reports.bump (by simp)).trans (.logEvent ..)
  unfold State.scrubUecc
  extract_lets a p s1
  have h1 : Reports s s1 [Reg.coreUecc c] := hrep _ _ _
  have hcount : s1.reg (Reg.coreUecc c) = bump32 (s.reg (Reg.coreUecc c)) := (reg_logEvent ..).trans (reg_bump_same _ _)
  clear_value s1
  split
  · exact ⟨h1.cores, hcount, h1.2, fun x _ => byte_of_mem h1.mem x⟩
  · refine ⟨(store_cores _ _ _).trans h1.cores, (reg_store _ _ _ _).trans hcount,
      fun q hq => (reg_store _ _ _ _).trans (h1.2 q hq), fun x hx => ?_⟩
    rw [byte_store_outside (by simpa using hx), byte_of_mem h1.mem]

/-! The start of a task (01, R51, R55). -/

section
variable {p : Fin 16} {task : Nat} {t : Task} {s : State}

theorem execTaskStart_none (h : s.findTask p task = none ∨ (s.task p task).started = true) :
    execTaskStart p task s = .next s := by
  unfold execTaskStart
  split
  · rfl
  · next t ht =>
    have hs : (s.task p task).started = true := h.resolve_left (by simp [ht])
    exact if_pos (.inl hs)

/-- A task that begins on an idle core: noted as started, and the core at its START, or the overrun of its failed window
counted. -/
theorem execTaskStart_idle (hfind : s.findTask p task = some t) (hnew : (s.task p task).started = false)
    (hcopy : t.kind ≠ 2 ∨ s.reg (Reg.lastActiveSince p) = s.tick) (hidle : (s.core t.core).run = none) :
    execTaskStart p task s =
      let s2 := State.modTask { s with cycle := max s.cycle t.start } p task fun x => { x with started := true }
      if (s.task p task).failStart then .next (((s2.countOverrun p t.core task).zeroTask p task).reinit p t)
      else .next (s2.modCore t.core fun k => k.start p t) := by
  have hgo : ¬((s.task p task).started = true ∨ (t.kind = 2 ∧ s.reg (Reg.lastActiveSince p) ≠ s.tick)) := by
    rintro (h | ⟨hkind, htick⟩)
    · simp [hnew] at h
    · exact hcopy.elim (· hkind) htick
  have hrun : (State.core { s with cycle := max s.cycle t.start } t.core).run = none := hidle
  simp only [execTaskStart, hfind, if_neg hgo, hrun]

end

/-- An overrun of a task leaves whether it has started. -/
theorem countOverrun_started (s : State) (p core id : Nat) :
    ((s.countOverrun p core id).task p id).started = (s.task p id).started := by
  have hfault : ∀ s : State, Reports s (s.plotFault p 0) [Reg.plotFault p, Reg.notifyDropped] := fun s =>
    .plotFault (by simp) (by simp) 0
  have htask : ∀ (s : State) (f : TaskSt → TaskSt), (s.modTask p id f).task p id = f (s.task p id) := fun s f =>
    NTable.get_mod_same _ _ _ _
  unfold State.countOverrun
  extract_lets t s1
  have h1 : s1.task p id = s.task p id := task_of_tasks ((hfault _).tasks.trans rfl) p id
  clear_value s1
  split
  · exact (congrArg TaskSt.started (htask s1 fun t => { t with logged := true, logTick := s.tick, since := 0 })).trans
      (by rw [h1])
  · exact (congrArg TaskSt.started (htask s1 fun t => { t with since := t.since + 1 })).trans
      (by rw [h1])
theorem zeroTask_started (s : State) (p id : Nat) : ((s.zeroTask p id).task p id).started = (s.task p id).started := by
  simp [State.zeroTask, State.task, State.modTask]

/-! What scrub leaves, core by core. -/

section
variable (corrected uncorrectable : List (Fin 128 × Nat)) (s : State) (d : Fin 128)

/-- The cores after the advance of every core's scrub position. -/
theorem overN_scrubStep_core : ((overN 128 State.scrubStep s).core d).scrub = ((s.core d).scrub + 1024) % scrubWords :=
  overN_once (g := fun s => (s.core d).scrub) d.isLt
    (fun s x hx => congrArg CoreSt.scrub ((scrubStep_core s x).2 d (Ne.symm hx)))
    fun t ht => (scrubStep_core t d).1.trans (by rw [show (t.core d).scrub = (s.core d).scrub from ht])

theorem overN_scrubStep_pass : (overN 128 State.scrubStep s).reg (Reg.coreScrubPass d) =
    if (s.core d).scrub + 1024 ≥ 73728 then bump32 (s.reg (Reg.coreScrubPass d)) else s.reg (Reg.coreScrubPass d) := by
  have h : (((overN 128 State.scrubStep s).core d).scrub, (overN 128 State.scrubStep s).reg (Reg.coreScrubPass d)) =
      (((s.core d).scrub + 1024) % scrubWords,
        if (s.core d).scrub + 1024 ≥ 73728 then bump32 (s.reg (Reg.coreScrubPass d)) else s.reg (Reg.coreScrubPass d)) := by
    refine overN_once (g := fun s => ((s.core d).scrub, s.reg (Reg.coreScrubPass d))) d.isLt (fun s x hx => ?_) fun t ht => ?_
    · exact congrArg₂ (·, ·) (congrArg CoreSt.scrub ((scrubStep_core s x).2 d (Ne.symm hx)))
        (scrubStep_regs s x _ (by simpa using Ne.symm hx))
    · injection ht with hscrub hpass
      exact congrArg₂ (·, ·) ((scrubStep_core t d).1.trans (by rw [hscrub])) ((scrubStep_pass t d).trans (by rw [hscrub, hpass]))
  injection h

theorem overN_scrubStep_reg {q : Reg} (hq : ∀ c, q ≠ Reg.coreScrubPass c) : (overN 128 State.scrubStep s).reg q = s.reg q :=
  overN_keeps (g := fun s => s.reg q) 128 s fun s x _ => scrubStep_regs s x q (by simpa using hq x)

/-- The words of one core among those that scrub reads. -/
theorem filter_scrubReads (l : List (Fin 128 × Nat)) : ((l.filter s.scrubReads).filter fun e => decide (e.1 = d)) =
    l.filter fun e => s.scrubReads e && decide (e.1 = d) := by
  rw [List.filter_filter]
  exact List.filter_congr fun e _ => Bool.and_comm ..

theorem overL_corrected_cecc (t : State) : (overL (corrected.filter s.scrubReads) (fun s e => s.bump (Reg.coreCecc e.1)) t).reg
    (Reg.coreCecc d) = counted (corrected.filter fun e => s.scrubReads e && decide (e.1 = d)).length (t.reg (Reg.coreCecc d)) := by
  refine (overL_counts (fun e => decide (e.1 = d)) (fun t e h => ?_) (fun t e h => ?_) _ t).trans (by rw [filter_scrubReads])
  · rw [of_decide_eq_true h]; exact reg_bump_same _ _
  · exact reg_bump_other _ _ _ (by simpa [Fin.ext_iff, eq_comm] using h)

theorem overL_uncorrectable_uecc (t : State) : (overL (uncorrectable.filter s.scrubReads) (fun s e => s.scrubUecc e.1 e.2) t).reg
    (Reg.coreUecc d) = counted (uncorrectable.filter fun e => s.scrubReads e && decide (e.1 = d)).length
      (t.reg (Reg.coreUecc d)) := by
  refine (overL_counts (fun e => decide (e.1 = d)) (fun t e h => ?_) (fun t e h => ?_) _ t).trans (by rw [filter_scrubReads])
  · rw [of_decide_eq_true h]; exact (scrubUecc_frame t d e.2).2.1
  · exact (scrubUecc_frame t e.1 e.2).2.2.1 _ (by simpa [Fin.ext_iff, eq_comm] using h)

theorem overL_scrubUecc_cores (l : List (Fin 128 × Nat)) (t : State) :
    (overL l (fun s e => s.scrubUecc e.1 e.2) t).cores = t.cores :=
  overL_keeps (g := State.cores) l t fun t e _ => (scrubUecc_frame t e.1 e.2).1
theorem overL_scrubUecc_reg (l : List (Fin 128 × Nat)) (t : State) {q : Reg} (hq : ∀ c, q ≠ Reg.coreUecc c) :
    (overL l (fun s e => s.scrubUecc e.1 e.2) t).reg q = t.reg q :=
  overL_keeps (g := fun t => t.reg q) l t fun t e _ => (scrubUecc_frame t e.1 e.2).2.2.1 q (by simpa using hq e.1)
theorem overL_cecc_reg (l : List (Fin 128 × Nat)) (t : State) {q : Reg} (hq : ∀ c, q ≠ Reg.coreCecc c) :
    (overL l (fun s e => s.bump (Reg.coreCecc e.1)) t).reg q = t.reg q :=
  overL_keeps (g := fun t => t.reg q) l t fun t e _ => reg_bump_other t _ q (hq e.1)
theorem overL_cecc_cores (l : List (Fin 128 × Nat)) (t : State) :
    (overL l (fun s e => s.bump (Reg.coreCecc e.1)) t).cores = t.cores :=
  overL_keeps (g := State.cores) l t fun _ _ _ => rfl
theorem overL_cecc_mem (l : List (Fin 128 × Nat)) (t : State) :
    (overL l (fun s e => s.bump (Reg.coreCecc e.1)) t).mem = t.mem :=
  overL_keeps (g := State.mem) l t fun _ _ _ => rfl
theorem overN_scrubStep_mem : (overN 128 State.scrubStep s).mem = s.mem :=
  overN_keeps (g := State.mem) 128 s fun s x _ => scrubStep_mem s x

end

/-- A started message leaves an inbox: the first message due is no longer posted. -/
theorem execMsgEnterInbox_due {c : Fin 128} {m : Posted} {s : State}
    (hm : ((s.core c).posted.find? fun m => decide (m.due ≤ s.tick)) = some m) : execMsgEnterInbox c s =
      let k1 := { s.core c with posted := (s.core c).posted.erase m }
      if (s.core c).inbox.length < 64 then .next (s.setCore c { k1 with inbox := k1.inbox ++ [m.bytes] })
      else
        let s1 := (s.setCore c k1).bump (Reg.msgDropped c)
        match s.corePlot c with
        | some p => .next ((s1.notifyPlot p 2 (Reg.msgDropped c)).plotFault p 8)
        | none => .next s1 := by
  simp only [execMsgEnterInbox, hm] <;> rfl

/-- A message dropped at a full inbox is counted and reported. -/
theorem msgDropped_frame {c : Fin 128} {m : Posted} {s : State}
    (hm : ((s.core c).posted.find? fun m => decide (m.due ≤ s.tick)) = some m) (hfull : 64 ≤ (s.core c).inbox.length) :
    ∃ u, execMsgEnterInbox c s = .next u ∧
      Reports ((s.setCore c { s.core c with posted := (s.core c).posted.erase m }).bump (Reg.msgDropped c)) u
        (match s.corePlot c with | some p => [Reg.plotFault p, Reg.notifyDropped] | none => []) := by
  rw [execMsgEnterInbox_due hm]
  dsimp only
  rw [if_neg (by omega)]
  cases s.corePlot c with
  | none => exact ⟨_, rfl, .refl _ _⟩
  | some p => exact ⟨_, rfl, (Reports.notifyPlot (by simp) _ _ _).trans (.plotFault (by simp) (by simp) 8)⟩

/-- Settles O15: tasks by their start and stop, scrub core by core, messages by what is due. -/
theorem coreTasksScrubAndMessages : Obligations.CoreTasksScrubAndMessages := by
  intro p c task t msg s
  refine ⟨fun hfind hnew hcopy hidle => ⟨fun hok => ?start, fun hfail => ?fails⟩, execTaskStart_none, fun r hr => ?stop,
    fun hidle => ?idle, fun corrected uncorrectable => ?scrub, fun hp hlen => ?post, fun hp => ?type, fun hp hlen => ?range,
    fun m hm => ⟨fun hroom => ?enters, fun hfull => ?drops⟩, fun hall => ?nothing⟩
  case start =>
    refine ⟨_, (execTaskStart_idle hfind hnew hcopy hidle).trans (if_neg (by simp [hok])), ?_⟩
    refine ⟨by simp, by rw [core_modCore_same]; rfl, fun g => by simp, ?_, sameMem_of_mem rfl, sameRegs_of_regs rfl _⟩
    exact congrArg TaskSt.started (NTable.get_mod_same {} s.tasks (taskKey p task) fun x => { x with started := true })
  case fails =>
    refine ⟨_, (execTaskStart_idle hfind hnew hcopy hidle).trans (if_pos hfail), ?_⟩
    let s2 := State.modTask { s with cycle := max s.cycle t.start } p task fun x => { x with started := true }
    obtain ⟨hcores, hcount, hregs⟩ := countOverrun_frame s2 p t.core task
    have hre := reinit_keeps [] ((s2.countOverrun p t.core task).zeroTask p task) p t
    refine ⟨?_, ?_, ?_, sameMem_of_mem ?_⟩
    · exact (congrArg CoreSt.run (core_of_cores (hre.cores.trans hcores) t.core)).trans hidle
    · refine (congrArg TaskSt.started (task_of_tasks hre.tasks p task)).trans ?_
      refine (zeroTask_started _ p task).trans ((countOverrun_started s2 p t.core task).trans ?_)
      exact congrArg TaskSt.started (NTable.get_mod_same {} s.tasks (taskKey p task) fun x => { x with started := true })
    · exact (hre.regs _ (List.not_mem_nil)).trans hcount
    · exact mem_of_keeps fun P h => keeps_reinit _ _ _ (keeps_zeroTask _ _ _ (keeps_countOverrun s2 _ _ _ h))
  case stop =>
    obtain ⟨hcount, hlast, -, hovr, hdone, hcore, hother, hmem⟩ :=
      exception_frame { s with cycle := max s.cycle r.task.deadline } c r excDeadline 0
    have hstop : execTaskDeadlineStop c s = .next ({ s with cycle := max s.cycle r.task.deadline }.exception c r excDeadline 0) := by
      simp only [execTaskDeadlineStop, hr]
    refine ⟨_, hstop, ?_⟩
    exact ⟨congrArg CoreSt.run hcore, hlast, hcount, hovr, hdone, hother, sameMem_of_mem hmem⟩
  case idle => simp only [exec, execTaskDeadlineStop, hidle]
  case scrub =>
    refine ⟨_, execCoreScrub_eq corrected uncorrectable s, fun d => ⟨?_, ?_, ⟨_, rfl, ?_⟩, ⟨_, rfl, ?_⟩⟩, fun a ha => ?_⟩
    · exact (congrArg CoreSt.scrub (core_of_cores ((overL_scrubUecc_cores _ _).trans (overL_cecc_cores _ _)) d)).trans
        (overN_scrubStep_core s d)
    · exact (overL_scrubUecc_reg _ _ (by simp)).trans ((overL_cecc_reg _ _ (by simp)).trans (overN_scrubStep_pass s d))
    · refine (overL_scrubUecc_reg _ _ (by simp)).trans ((overL_corrected_cecc corrected s d _).trans ?_)
      exact congrArg (counted _) (overN_scrubStep_reg s (by simp))
    · refine (overL_uncorrectable_uecc uncorrectable s d _).trans (congrArg (counted _) ?_)
      exact (overL_cecc_reg _ _ (by simp)).trans (overN_scrubStep_reg s (by simp))
    · refine Eq.trans (overL_keeps (g := fun t => t.byte a) _ _ fun t e he => ?_)
        (byte_of_mem ((overL_cecc_mem _ _).trans (overN_scrubStep_mem s)) a)
      exact (scrubUecc_frame t e.1 e.2).2.2.2 a (ha e (List.mem_of_mem_filter he))
  case post =>
    refine ⟨(s.postMessage c s.actTick msg).reply 0, ?_, ?_, rfl, fun d hd => ?_, sameMem_of_mem rfl, sameRegs_of_regs rfl _⟩
    · simp only [exec, execMsgPost, hp, hlen, ne_eq, not_true_eq_false, if_false]
    · exact congrArg CoreSt.posted (core_modCore_same s c fun k => { k with posted := k.posted ++ [⟨s.actTick, msg⟩] })
    · exact core_setCore_other s c d _ hd
  case type => exact if_pos hp
  case range => exact (if_neg (not_not.mpr hp)).trans (if_pos hlen)
  case enters =>
    refine ⟨_, (execMsgEnterInbox_due hm).trans (if_pos hroom), ?_⟩
    exact ⟨by simp, by simp, sameMem_of_mem rfl, sameRegs_of_regs rfl _⟩
  case drops =>
    obtain ⟨u, hu, hrep⟩ := msgDropped_frame hm hfull
    have hcore : u.core c = { s.core c with posted := (s.core c).posted.erase m } :=
      (core_of_cores hrep.cores c).trans (core_setCore_same ..)
    refine ⟨u, hu, by rw [hcore], by rw [hcore], ?_, sameMem_of_mem hrep.mem⟩
    refine (hrep.2 _ ?_).trans (reg_bump_same _ _)
    cases s.corePlot c <;> simp
  case nothing =>
    have hnone : ((s.core c).posted.find? fun m => decide (m.due ≤ s.tick)) = none :=
      List.find?_eq_none.mpr fun m hm => by simpa using hall m hm
    simp only [exec, execMsgEnterInbox, hnone]

end Sys2Proof.Machine
end

section
/-!
PROOFS. Filter chain units: banks, swaps, errors and scrub (05, R160 to R167).
-/
namespace Sys2Proof.Machine

/-! Registers of a list, a fault bit, and a run of table entries. -/

/-- A bit that is or-ed in is set. -/
theorem bit_or_two_pow (n b : Nat) : bit ((n ||| 2 ^ b : Nat) : Int) b = true := by
  have h : (n ||| 2 ^ b).testBit b = true := by simp
  rw [Nat.testBit_eq_decide_div_mod_eq, decide_eq_true_eq] at h
  exact decide_eq_true (by exact_mod_cast h)

/-- A reported fault of a plot stands in PLOT_FAULT. -/
theorem bit_plotFault (s : State) (p b : Nat) : bit ((s.plotFault p b).reg (Reg.plotFault p)) b = true := by
  unfold State.plotFault
  split
  · assumption
  · extract_lets s1
    have h1 : bit (s1.reg (Reg.plotFault p)) b = true := by
      rw [show s1.reg (Reg.plotFault p) = _ from reg_setReg_same _ _ _]; exact bit_or_two_pow _ b
    split
    · rwa [(Reports.notifyPlot (l := [Reg.notifyDropped]) (by simp) _ _ _).2 _ (by simp)]
    · exact h1

/-- A run of table entries put from an index on: inside it the value put there, elsewhere the value that was there. -/
theorem get_putRun (base : Nat) (l : List Int) (w : Nat) (t : NTable Int) (k : Nat) :
    NTable.get 0 ((l.zipIdx w).foldl (fun (t : NTable Int) (e : Int × Nat) => NTable.put 0 t (base + e.2) e.1) t) k =
      if base + w ≤ k ∧ k < base + w + l.length then l.getD (k - (base + w)) 0 else NTable.get 0 t k := by
  induction l generalizing w t with
  | nil => rw [if_neg (by simp only [List.length_nil]; omega)]; rfl
  | cons v l ih =>
    rw [List.zipIdx_cons, List.foldl_cons, ih]
    rcases Nat.lt_trichotomy k (base + w) with h | rfl | h
    · rw [if_neg (by omega), if_neg (by omega), NTable.get_put_other _ _ _ _ _ (by omega)]
    · rw [if_neg (by omega), if_pos (by simp), NTable.get_put_same, Nat.sub_self]; rfl
    · obtain ⟨d, rfl⟩ := Nat.exists_eq_add_of_lt h
      simp only [List.length_cons]
      by_cases hin : d < l.length
      · rw [if_pos (by omega), if_pos (by omega), show base + w + d + 1 - (base + (w + 1)) = d by omega,
          show base + w + d + 1 - (base + w) = d + 1 by omega]
        rfl
      · rw [if_neg (by omega), if_neg (by omega), NTable.get_put_other _ _ _ _ _ (by omega)]

/-! Groups. -/

section
variable (s : State) (k j : Nat) (g : GrpSt)

@[simp] theorem grp_setGrp_same : (s.setGrp k g).grp k = g := NTable.get_put_same _ _ _ _
theorem grp_setGrp_other (h : j ≠ k) : (s.setGrp k g).grp j = s.grp j := NTable.get_put_other _ _ _ _ _ h
theorem setRegs_keeps {α : Type} {g : State → α} (hg : ∀ s r v, g (State.setReg s r v) = g s) (s : State)
    (l : List (Reg × Int)) : g (s.setRegs l) = g s := foldl_keeps l s fun s e _ => hg s e.1 e.2
theorem grp_setRegs (l : List (Reg × Int)) : (s.setRegs l).grp k = s.grp k :=
  setRegs_keeps (g := fun s => s.grp k) (fun _ _ _ => rfl) s l
theorem grp_of_groups {s t : State} (h : t.groups = s.groups) (k : Nat) : t.grp k = s.grp k := by simp only [State.grp, h]

/-- State words of an FCU are its own table: groups, coefficients, registers and memory stay. -/
theorem putState_keeps (u w : Nat) (l : List Int) : (s.putState u w l).groups = s.groups ∧
    (s.putState u w l).fcuCoef = s.fcuCoef ∧ (s.putState u w l).fcuScrub = s.fcuScrub ∧ (s.putState u w l).regs = s.regs :=
  ⟨touch_groups _ _ _, touch_fcuCoef _ _ _, touch_fcuScrub _ _ _, touch_regs _ _ _⟩
theorem zeroGroupState_keeps (r : FcuGroup) : (s.zeroGroupState r).groups = s.groups ∧
    (s.zeroGroupState r).fcuCoef = s.fcuCoef ∧ (s.zeroGroupState r).fcuScrub = s.fcuScrub ∧
    (s.zeroGroupState r).regs = s.regs :=
  ⟨overL_keeps (g := State.groups) _ s fun s _ _ => (putState_keeps s _ _ _).1,
    overL_keeps (g := State.fcuCoef) _ s fun s _ _ => (putState_keeps s _ _ _).2.1,
    overL_keeps (g := State.fcuScrub) _ s fun s _ _ => (putState_keeps s _ _ _).2.2.1,
    overL_keeps (g := State.regs) _ s fun s _ _ => (putState_keeps s _ _ _).2.2.2⟩

/-- The coefficients of a bank after words of one bank were written. -/
theorem fcuWord_putFcuWords (u bank w : Nat) (l : List Int) (b x : Nat) :
    (s.putFcuWords u bank w l).fcuWord u b x =
      if u * 32768 + bank * 16384 + w ≤ u * 32768 + b * 16384 + x ∧
          u * 32768 + b * 16384 + x < u * 32768 + bank * 16384 + w + l.length then
        l.getD (u * 32768 + b * 16384 + x - (u * 32768 + bank * 16384 + w)) 0 else s.fcuWord u b x :=
  (congrArg (fun t => NTable.get 0 t _) (touch_fcuCoef _ _ _)).trans (get_putRun _ l w s.fcuCoef _)

end

/-! An error in a group's work (R166). -/

/-- The report of an error in a group's work. -/
def State.groupReport (s : State) (k addr p : Nat) : State :=
  ((s.bump (Reg.grpUecc k)).logEvent 0x0403 2 p (k / 16 * 256 + k % 16) addr).plotFault p 2

theorem groupReport_reports (s : State) (k addr p : Nat) :
    Reports s (s.groupReport k addr p) [Reg.grpUecc k, Reg.plotFault p, Reg.notifyDropped] :=
  ((Reports.bump (by simp)).trans (.logEvent ..)).trans (.plotFault (by simp) (by simp) 2)
theorem groupReport_uecc (s : State) (k addr p : Nat) :
    (s.groupReport k addr p).reg (Reg.grpUecc k) = bump32 (s.reg (Reg.grpUecc k)) :=
  ((Reports.plotFault (l := [Reg.plotFault p, Reg.notifyDropped]) (by simp) (by simp) 2).2 _ (by simp)).trans
    ((reg_logEvent ..).trans (reg_bump_same _ _))

theorem groupError_none {s : State} {k : Nat} (h : (s.grp k).rec_ = none) (addr : Nat) (next : Bool) :
    s.groupError k addr next = s := by
  unfold State.groupError; simp only [h]

/-- The eight lanes' outputs of a group silenced for the block. -/
def State.silenceGroup (s : State) (r : FcuGroup) : State :=
  overN 8 (fun s i =>
    let x := sigOf 11 (r.fcu * 128 + r.group * 8 + i)
    s.setSource x (silence (NTable.get [] s.src x))) s
theorem silenceGroup_keeps {α : Type} {g : State → α} (hg : ∀ s x b, g (State.setSource s x b) = g s) (s : State)
    (r : FcuGroup) : g (s.silenceGroup r) = g s :=
  overN_keeps (g := g) 8 s fun _ _ _ => hg _ _ _

/-- What an error leaves of a group: the mark of its kind. -/
def GrpSt.errored (g : GrpSt) (next : Bool) : GrpSt :=
  if next then { g with errorNext := true } else if g.ran then { g with rampUp := true } else { g with error := true }

theorem groupError_eq {s : State} {k : Nat} {r : FcuGroup} (h : (s.grp k).rec_ = some r) (addr : Nat) (next : Bool) :
    s.groupError k addr next =
      let p := (s.grp k).plot
      let s1 := (s.groupReport k addr p).evidence p
      if next then s1.setGrp k { s1.grp k with errorNext := true }
      else if (s.grp k).ran then ((s1.zeroGroupState r).setGrp k { s1.grp k with rampUp := true }).silenceGroup r
      else s1.setGrp k { s1.grp k with error := true } := by
  unfold State.groupError; simp only [h]; rfl

/-- An error in a group's work marks the group, is counted and sets the plot's fault bit 2; other groups and the coefficients stay. -/
theorem groupError_frame {s : State} {k : Nat} {r : FcuGroup} (h : (s.grp k).rec_ = some r) (addr : Nat) (next : Bool) :
    (s.groupError k addr next).grp k = (s.grp k).errored next ∧
    (∀ j, j ≠ k → (s.groupError k addr next).grp j = s.grp j) ∧
    (s.groupError k addr next).fcuCoef = s.fcuCoef ∧ (s.groupError k addr next).fcuScrub = s.fcuScrub ∧
    (s.groupError k addr next).reg (Reg.grpUecc k) = bump32 (s.reg (Reg.grpUecc k)) ∧
    bit ((s.groupError k addr next).reg (Reg.plotFault (s.grp k).plot)) 2 = true := by
  have hrep := groupReport_reports s k addr (s.grp k).plot
  have huecc := groupReport_uecc s k addr (s.grp k).plot
  have hbit : bit ((s.groupReport k addr (s.grp k).plot).reg (Reg.plotFault (s.grp k).plot)) 2 = true := bit_plotFault _ _ 2
  obtain ⟨s1, hs1⟩ : ∃ t, t = (s.groupReport k addr (s.grp k).plot).evidence (s.grp k).plot := ⟨_, rfl⟩
  have hgrp : ∀ j, s1.grp j = s.grp j := grp_of_groups (hs1 ▸ hrep.field State.groups fun _ => rfl)
  have hcoef : s1.fcuCoef = s.fcuCoef := hs1 ▸ hrep.field State.fcuCoef fun _ => rfl
  have hscrub : s1.fcuScrub = s.fcuScrub := hs1 ▸ hrep.field State.fcuScrub fun _ => rfl
  replace huecc : s1.reg (Reg.grpUecc k) = bump32 (s.reg (Reg.grpUecc k)) := hs1 ▸ huecc
  replace hbit : bit (s1.reg (Reg.plotFault (s.grp k).plot)) 2 = true := hs1 ▸ hbit
  have hset : ∀ j, j ≠ k → ∀ g, (s1.setGrp k g).grp j = s.grp j := fun j hj g =>
    (grp_setGrp_other _ _ _ _ hj).trans (hgrp j)
  rw [groupError_eq h]
  dsimp only
  rw [← hs1, hgrp]
  clear hs1
  unfold GrpSt.errored
  cases next with
  | true => exact ⟨grp_setGrp_same .., fun j hj => hset j hj _, hcoef, hscrub, huecc, hbit⟩
  | false =>
    rw [if_neg Bool.false_ne_true, if_neg Bool.false_ne_true]
    split
    · obtain ⟨hzgroups, hzcoef, hzscrub, hzregs⟩ := zeroGroupState_keeps s1 r
      have hz : ∀ j g, ((s1.zeroGroupState r).setGrp k g).grp j = (s1.setGrp k g).grp j := fun j g =>
        grp_of_groups (s := s1.setGrp k g) (congrArg (fun t => NTable.put {} t k g) hzgroups) j
      refine ⟨?_, fun j hj => ?_, ?_, ?_, ?_, ?_⟩
      · exact (silenceGroup_keeps (g := (fun s => s.grp k)) (fun _ _ _ => rfl) _ _).trans (grp_setGrp_same ..)
      · exact (silenceGroup_keeps (g := (fun s => s.grp j)) (fun _ _ _ => rfl) _ _).trans ((hz j _).trans (hset j hj _))
      · exact (silenceGroup_keeps (g := State.fcuCoef) (fun _ _ _ => rfl) _ _).trans (hzcoef.trans hcoef)
      · exact (silenceGroup_keeps (g := State.fcuScrub) (fun _ _ _ => rfl) _ _).trans (hzscrub.trans hscrub)
      · exact (silenceGroup_keeps (g := (fun s => s.reg (Reg.grpUecc k))) (fun _ _ _ => rfl) _ _).trans ((reg_of_regs hzregs _).trans huecc)
      · refine Eq.trans (congrArg (bit · 2) ?_) hbit
        exact (silenceGroup_keeps (g := (fun t => t.reg (Reg.plotFault (s.grp k).plot))) (fun _ _ _ => rfl) _ _).trans (reg_of_regs hzregs _)
    · exact ⟨grp_setGrp_same .., fun j hj => hset j hj _, hcoef, hscrub, huecc, hbit⟩

/-! The requests of a group's plot (R161 to R163). -/

section
variable {p : Fin 16} {u : Fin 64} {g : Fin 16} {r : FcuGroup} {s : State}

/-- Whether a change of bank of a group is under way. -/
@[reducible] def GrpSt.swapping (g : GrpSt) : Prop := g.swapAt.isSome ∨ g.switchAt.isSome ∨ g.fading

theorem swapping_of {g : GrpSt} (h : g.swapAt ≠ none ∨ g.switchAt ≠ none ∨ g.fading = true) : g.swapping := by
  simpa only [GrpSt.swapping, Option.isSome_iff_ne_none] using h
theorem not_swapping_of {g : GrpSt} (hswap : g.swapAt = none) (hswitch : g.switchAt = none) (hfade : g.fading = false) :
    ¬g.swapping := by
  simp [GrpSt.swapping, hswap, hswitch, hfade]

theorem bankWrite_foreign (hr : (s.grp (grpKey u g)).rec_ = some r) (hp : (s.grp (grpKey u g)).plot ≠ p.val) (offset : Nat)
    (words : List Int) : Answers (.bankWrite p u g offset words) s 0x11 := by
  simp only [Answers, exec, execBankWrite, hr, if_pos hp]
theorem swapAt_foreign (hr : (s.grp (grpKey u g)).rec_ = some r) (hp : (s.grp (grpKey u g)).plot ≠ p.val) (sample : Nat) :
    Answers (.swapAt p u g sample) s 0x11 := by
  simp only [Answers, exec, execSwapAt, hr, if_pos hp]

/-- BANK_WRITE of the group's plot with a good length. -/
theorem bankWrite_eq (hr : (s.grp (grpKey u g)).rec_ = some r) (hp : (s.grp (grpKey u g)).plot = p.val) {words : List Int}
    (hne : words ≠ []) (hlen : words.length ≤ 4096) (offset : Nat) : exec (.bankWrite p u g offset words) s =
      if (s.grp (grpKey u g)).swapping then .next ((s.swapStatus (grpKey u g) 0x10).reply 0)
      else if !(List.range words.length).all (fun i => r.stages.any fun st => st.usesCoef (offset + i)) then
        .next ((s.swapStatus (grpKey u g) 0x12).reply 0)
      else .next (((s.putFcuWords u (1 - (s.grp (grpKey u g)).bank) offset (words.map (wrapS 32))).swapStatus
        (grpKey u g) 0).reply 0) := by
  have hgood : ¬(words = [] ∨ words.length > 4096) := not_or.mpr ⟨hne, by omega⟩
  simp only [exec, execBankWrite, hr, if_neg (not_not.mpr hp), if_neg hgood]

/-- SWAP_AT of the group's plot. -/
theorem swapAt_eq (hr : (s.grp (grpKey u g)).rec_ = some r) (hp : (s.grp (grpKey u g)).plot = p.val) (sample : Nat) :
    exec (.swapAt p u g sample) s =
      let k := grpKey u g
      let n := 6 * r.inMult
      let sm := if sample = 0 then (s.actTick - 1) * n else sample
      if (s.grp k).swapping then .next ((s.swapStatus k 0x10).reply 0)
      else if sm / n + 1 < s.actTick then .next ((s.swapStatus k 0x11).reply 0)
      else if sm / n > s.tick + 16777216 then .next ((s.swapStatus k 0x12).reply 0)
      else .next ((((s.setGrp k { s.grp k with swapAt := some sm }).swapStatus k 1).setReg (Reg.grpState k) 2).reply 0) := by
  simp only [exec, execSwapAt, hr, if_neg (not_not.mpr hp)]

/-- A status code leaves every unit and memory as it is. -/
theorem swapStatus_frame (s : State) (k code : Nat) : ((s.swapStatus k code).reply 0).reg (Reg.swapStatus k) = code ∧
    SameRegs s ((s.swapStatus k code).reply 0) [Reg.swapStatus k] :=
  ⟨reg_setReg_same _ _ _, .trans (.setReg (by simp) _) (sameRegs_of_regs rfl _)⟩

/-- A swap that is accepted: its sample named, status 1, group state 2. -/
theorem swapAt_accepts (hr : (s.grp (grpKey u g)).rec_ = some r) (hp : (s.grp (grpKey u g)).plot = p.val)
    (hfree : ¬(s.grp (grpKey u g)).swapping) (sample : Nat) {sm : Nat}
    (hsm : (if sample = 0 then (s.actTick - 1) * (6 * r.inMult) else sample) = sm)
    (hearly : s.actTick ≤ sm / (6 * r.inMult) + 1) (hlate : sm / (6 * r.inMult) ≤ s.tick + 16777216) :
    Runs (.swapAt p u g sample) s fun t =>
      t.grp (grpKey u g) = { s.grp (grpKey u g) with swapAt := some sm } ∧
      t.reg (Reg.swapStatus (grpKey u g)) = 1 ∧ t.reg (Reg.grpState (grpKey u g)) = 2 ∧
      SameRegs s t [Reg.swapStatus (grpKey u g), Reg.grpState (grpKey u g)] ∧ SameMem s t ∧
      (∀ k, k ≠ grpKey u g → t.grp k = s.grp k) := by
  have heq := swapAt_eq hr hp sample
  dsimp only at heq
  rw [hsm, if_neg hfree, if_neg (by omega), if_neg (by omega)] at heq
  refine ⟨_, heq, grp_setGrp_same .., ?_, ?_, fun q hq => ?_, sameMem_of_mem rfl, fun j hj => grp_setGrp_other _ _ _ _ hj⟩
  · simp [State.swapStatus, reg_setReg]
  · simp
  · simp only [List.mem_cons, List.not_mem_nil, or_false, not_or] at hq
    simp [State.swapStatus, reg_setReg, hq]

end

/-! Scrub of the filter chain units (R167). -/

/-- What an uncorrectable word of scrub does to the groups that use it. -/
def State.fcuScrubWord (s : State) (e : Fin 64 × Nat) : State :=
  let u := e.1.val
  let w := e.2 * 2
  let users := (List.range 16).filter fun g =>
    match (s.grp (grpKey u g)).rec_ with | some r => r.usesWord w | none => false
  let s1 := if users = [] then s.logEvent 0x0403 2 16 (u * 256 + 255) w
    else overL users (fun s g => s.groupError (grpKey u g) w true) s
  if w < 32768 then s1 else s1.putState u (w - 32768) [0, 0]

theorem execFcuScrub_eq (bad : List (Fin 64 × Nat)) (s : State) : execFcuScrub bad s =
    .next (overL (bad.filter fun e => decide (s.fcuScrub ≤ e.2) && decide (e.2 < s.fcuScrub + 512)) State.fcuScrubWord
      { s with fcuScrub := (s.fcuScrub + 512) % 24576 }) := rfl

/-- What scrub keeps: records, marks that are set, coefficients and the scrub position. -/
structure ScrubKeeps (s t : State) : Prop where
  rec_ : ∀ k, (t.grp k).rec_ = (s.grp k).rec_
  mark : ∀ k, (s.grp k).errorNext = true → (t.grp k).errorNext = true
  coef : t.fcuCoef = s.fcuCoef
  scrub : t.fcuScrub = s.fcuScrub

namespace ScrubKeeps
variable {s t u : State}

theorem refl (s : State) : ScrubKeeps s s := ⟨fun _ => rfl, fun _ h => h, rfl, rfl⟩
theorem trans (h : ScrubKeeps s t) (h' : ScrubKeeps t u) : ScrubKeeps s u :=
  ⟨fun k => (h'.rec_ k).trans (h.rec_ k), fun k hk => h'.mark k (h.mark k hk), h'.coef.trans h.coef, h'.scrub.trans h.scrub⟩
theorem of_groups (hg : t.groups = s.groups) (hc : t.fcuCoef = s.fcuCoef) (hs : t.fcuScrub = s.fcuScrub) : ScrubKeeps s t :=
  ⟨fun k => by rw [grp_of_groups hg], fun k h => by rwa [grp_of_groups hg], hc, hs⟩
theorem overL {α : Type} {f : State → α → State} (hf : ∀ s x, ScrubKeeps s (f s x)) (l : List α) (s : State) :
    ScrubKeeps s (overL l f s) := by
  induction l generalizing s with
  | nil => exact refl s
  | cons x l ih => exact (hf s x).trans (ih _)
theorem groupError (s : State) (k addr : Nat) : ScrubKeeps s (s.groupError k addr true) := by
  cases h : (s.grp k).rec_ with
  | none => rw [groupError_none h]; exact refl s
  | some r =>
    obtain ⟨hk, hother, hcoef, hscrub, -, -⟩ := groupError_frame h addr true
    refine ⟨fun j => ?_, fun j hj => ?_, hcoef, hscrub⟩
    · by_cases hjk : j = k
      · subst hjk; rw [hk]; rfl
      · rw [hother j hjk]
    · by_cases hjk : j = k
      · subst hjk; rw [hk]; rfl
      · rwa [hother j hjk]

end ScrubKeeps

/-- The state words of a scrubbed word are zeroed, which no group's mark sees. -/
theorem fcuScrubWord_keeps (s : State) (e : Fin 64 × Nat) : ScrubKeeps s (s.fcuScrubWord e) := by
  unfold State.fcuScrubWord
  extract_lets u w users s1
  have h1 : ScrubKeeps s s1 := by
    show ScrubKeeps s (if users = [] then _ else _)
    split
    · exact .of_groups rfl rfl rfl
    · exact .overL (fun s g => .groupError s _ w) users s
  clear_value s1
  split
  · exact h1
  · obtain ⟨hg, hc, hs, -⟩ := putState_keeps s1 u (w - 32768) [0, 0]
    exact h1.trans (.of_groups hg hc hs)

/-- A mark that one element of a fold sets stays set. -/
theorem mark_of_mem {α : Type} {s : State} {f : State → α → State} (hf : ∀ s x, ScrubKeeps s (f s x)) {k : Nat} {x : α}
    (hx : ∀ s', (∀ k, (s'.grp k).rec_ = (s.grp k).rec_) → ((f s' x).grp k).errorNext = true)
    {l : List α} {t : State} (ht : ∀ k, (t.grp k).rec_ = (s.grp k).rec_) (hmem : x ∈ l) :
    ((overL l f t).grp k).errorNext = true := by
  induction l generalizing t with
  | nil => simp at hmem
  | cons a l ih =>
    rcases List.mem_cons.mp hmem with rfl | hmem
    · exact (ScrubKeeps.overL hf l _).mark k (hx t ht)
    · exact ih (fun k => ((hf t a).rec_ k).trans (ht k)) hmem

/-- A word that scrub finds uncorrectable marks each group that uses it. -/
theorem fcuScrubWord_marks {s : State} {e : Fin 64 × Nat} {h : Fin 16} {q : FcuGroup}
    (hrec : (s.grp (grpKey e.1 h)).rec_ = some q) (huse : q.usesWord (e.2 * 2) = true) :
    ((s.fcuScrubWord e).grp (grpKey e.1 h)).errorNext = true := by
  unfold State.fcuScrubWord
  extract_lets u w users s1
  have hmem : h.val ∈ users := by
    refine List.mem_filter.mpr ⟨List.mem_range.mpr h.isLt, ?_⟩
    simp only [u, w, hrec, huse]
  have h1 : (s1.grp (grpKey e.1 h)).errorNext = true := by
    have hs1 : s1 = overL users (fun s g => s.groupError (grpKey u g) w true) s := if_neg (List.ne_nil_of_mem hmem)
    rw [hs1]
    refine mark_of_mem (s := s) (fun s g => .groupError s _ w) (fun s' hs' => ?_) (fun _ => rfl) hmem
    rw [(groupError_frame ((hs' _).trans hrec) w true).1]; rfl
  clear_value s1
  split
  · exact h1
  · rw [grp_of_groups (putState_keeps s1 u (w - 32768) [0, 0]).1]; exact h1

/-- A group as FCU_SWAP_BEGIN leaves it. -/
theorem fcuSwapBegin_eq {u : Fin 64} {g : Fin 16} {r : FcuGroup} {s : State} {sm : Nat}
    (hr : (s.grp (grpKey u g)).rec_ = some r) (hsm : (s.grp (grpKey u g)).swapAt = some sm)
    (hran : (s.grp (grpKey u g)).ran = false) (htick : sm / (6 * r.inMult) + 1 ≤ s.tick) :
    exec (.fcuSwapBegin u g) s =
      let k := grpKey u g
      let n := 6 * r.inMult
      let s1 := s.setGrp k { s.grp k with
        swapAt := none, switchAt := some (if sm / n + 1 = s.tick then sm % n else 0), named := sm, pos := 0 }
      .next (if r.xf then (s1.swapStatus k 2).setReg (Reg.grpState k) 3 else s1) := by
  have hgo : ¬((s.grp (grpKey u g)).ran = true ∨ sm / (6 * r.inMult) + 1 > s.tick) := by
    simp only [hran, Bool.false_eq_true, false_or]; omega
  simp only [exec, execFcuSwapBegin, hr, hsm, if_neg hgo]

/-- A group as FCU_FADE_END leaves it, over the states of its stages. -/
theorem fcuFadeEnd_frame {u : Fin 64} {g : Fin 16} {r : FcuGroup} {s : State} (hr : (s.grp (grpKey u g)).rec_ = some r)
    (hdone : (s.grp (grpKey u g)).fadeDone = true) : ∃ s1 : State, s1.groups = s.groups ∧
      exec (.fcuFadeEnd u g) s = .next ((s1.setGrp (grpKey u g) { s.grp (grpKey u g) with
        fading := false, fadeDone := false, pos := 0, bank := 1 - (s.grp (grpKey u g)).bank }).setRegs
        [(Reg.grpBank (grpKey u g), (1 - (s.grp (grpKey u g)).bank : Nat)), (Reg.grpState (grpKey u g), 1),
          (Reg.swapStatus (grpKey u g), 0), (Reg.swapDoneSample (grpKey u g), (s.grp (grpKey u g)).named)]) := by
  refine ⟨overL r.stages (fun s st =>
    s.putState u st.state (s.fcuWords u (st.state + 8 * st.stateWords) (8 * st.stateWords))) s,
    overL_keeps (g := State.groups) _ s fun s _ _ => (putState_keeps s _ _ _).1, ?_⟩
  simp only [exec, execFcuFadeEnd, hr, hdone, Bool.not_true, Bool.false_eq_true, if_false]

/-- Settles O16: bank writes, swaps, fade ends, errors and scrub, each by what its command leaves of groups and coefficients. -/
theorem filterChainUnitCommands : Obligations.FilterChainUnitCommands := by
  intro p u g r s hr
  refine ⟨fun offset words hp hne hlen hbank hfit hswap hswitch hfade hused => ?write,
    fun hp => ⟨bankWrite_foreign hr hp, swapAt_foreign hr hp⟩, fun offset words hp hne hlen hbusy => ?busy,
    fun sample hpos hp hswap hswitch hfade hearly hlate => ?named, fun hmult hact hfar hp hswap hswitch hfade => ?earliest,
    fun sample hpos hp hswap hswitch hfade => ⟨fun hlate => ?late, fun hearly hfar => ?far⟩, fun sample hp hfade => ?fading,
    fun sm hsm hran htick => ?begins, fun h => ?waits, fun h => ?fadeOn, fun hdone => ?fadeEnd, fun addr hran => ?error,
    fun addr hran => ?ramp, fun bad => ?scrub⟩
  case write =>
    have hall : (List.range words.length).all (fun i => r.stages.any fun st => st.usesCoef (offset + i)) = true :=
      List.all_eq_true.mpr fun i hi => hused i (List.mem_range.mp hi)
    have heq := bankWrite_eq hr hp hne hlen offset
    rw [if_neg (not_swapping_of hswap hswitch hfade), hall, if_neg (by simp)] at heq
    refine ⟨_, heq, fun i hi => ?_, fun w hw => ?_, touch_groups _ _ _, (swapStatus_frame _ _ 0).1, rfl, ?_,
      sameMem_of_mem (exec_mem rfl heq)⟩
    · refine (fcuWord_putFcuWords s u (1 - (s.grp (grpKey u g)).bank) offset (words.map (wrapS 32)) _ _).trans ?_
      rw [List.length_map, if_pos (by omega), Nat.add_sub_add_left]
      simp [List.getD, hi]
    · refine (fcuWord_putFcuWords s u (1 - (s.grp (grpKey u g)).bank) offset (words.map (wrapS 32)) _ _).trans ?_
      rw [List.length_map, if_neg (by omega)]
    · refine SameRegs.trans (sameRegs_of_regs ?_ _) (swapStatus_frame _ _ 0).2
      exact touch_regs _ _ _
  case busy =>
    refine ⟨_, (bankWrite_eq hr hp hne hlen offset).trans (if_pos (swapping_of hbusy)), ?_⟩
    obtain ⟨hstatus, hregs⟩ := swapStatus_frame s (grpKey u g) 0x10
    exact ⟨hstatus, rfl, rfl, hregs, sameMem_of_mem rfl⟩
  case named =>
    have hsm : (if sample = 0 then (s.actTick - 1) * (6 * r.inMult) else sample) = sample := if_neg (by omega)
    exact swapAt_accepts hr hp (not_swapping_of hswap hswitch hfade) sample hsm hearly hlate
  case earliest =>
    have hdiv : (s.actTick - 1) * (6 * r.inMult) / (6 * r.inMult) = s.actTick - 1 := Nat.mul_div_cancel _ (by omega)
    obtain ⟨t, ht, hgrp, hstatus, -, -, hmem, -⟩ := swapAt_accepts hr hp (not_swapping_of hswap hswitch hfade) 0
      (if_pos rfl) (by omega) (by omega)
    exact ⟨t, ht, hgrp, hstatus, hmem⟩
  case late =>
    have heq := swapAt_eq hr hp sample
    dsimp only at heq
    rw [if_neg (by omega : ¬sample = 0), if_neg (not_swapping_of hswap hswitch hfade), if_pos hlate] at heq
    exact ⟨_, heq, (swapStatus_frame s _ _).1, rfl⟩
  case far =>
    have heq := swapAt_eq hr hp sample
    dsimp only at heq
    rw [if_neg (by omega : ¬sample = 0), if_neg (not_swapping_of hswap hswitch hfade), if_neg (by omega), if_pos hfar] at heq
    exact ⟨_, heq, (swapStatus_frame s _ _).1, rfl⟩
  case fading =>
    refine ⟨_, (swapAt_eq hr hp sample).trans (if_pos (.inr (.inr hfade))), (swapStatus_frame s _ _).1, rfl⟩
  case begins =>
    refine ⟨_, fcuSwapBegin_eq hr hsm hran htick, ?_⟩
    cases hxf : r.xf
    · exact ⟨grp_setGrp_same .., fun h => by simp at h, fun _ => sameRegs_of_regs rfl _,
        fun j hj => grp_setGrp_other _ _ _ _ hj, sameMem_of_mem rfl⟩
    · refine ⟨grp_setGrp_same .., fun _ => ⟨?_, ?_⟩, fun h => by simp at h,
        fun j hj => grp_setGrp_other _ _ _ _ hj, sameMem_of_mem rfl⟩
      · simp [State.swapStatus, reg_setReg]
      · simp
  case waits =>
    rcases h with hran | hnone
    · cases hsm : (s.grp (grpKey u g)).swapAt with
      | none => simp only [exec, execFcuSwapBegin, hr, hsm]
      | some sm => simp only [exec, execFcuSwapBegin, hr, hsm, hran, true_or, if_true]
    · simp only [exec, execFcuSwapBegin, hr, hnone]
  case fadeOn => simp only [exec, execFcuFadeEnd, hr, h, Bool.not_false, if_true]
  case fadeEnd =>
    obtain ⟨s1, hgroups, heq⟩ := fcuFadeEnd_frame hr hdone
    refine ⟨_, heq, ?_, ?_, ?_, ?_, ?_, fun j hj => ?_, sameMem_of_mem (exec_mem rfl heq)⟩
    · rw [grp_setRegs, grp_setGrp_same]
    · rw [grp_setRegs, grp_setGrp_same]
    · simp [State.setRegs, reg_setReg]
    · simp [State.setRegs, reg_setReg]
    · simp [State.setRegs]
    · rw [grp_setRegs, grp_setGrp_other _ _ _ _ hj, grp_of_groups hgroups]
  case error =>
    obtain ⟨hk, -, -, -, huecc, hbit⟩ := groupError_frame hr addr false
    refine ⟨_, rfl, huecc, hbit, ?_, sameMem_of_mem (mem_of_keeps fun _ => keeps_groupError s _ _ _)⟩
    rw [hk]; simp [GrpSt.errored, hran]
  case ramp =>
    obtain ⟨hk, -, -, -, huecc, hbit⟩ := groupError_frame hr addr false
    refine ⟨_, rfl, huecc, hbit, ?_, sameMem_of_mem (mem_of_keeps fun _ => keeps_groupError s _ _ _)⟩
    rw [hk]; simp [GrpSt.errored, hran]
  case scrub =>
    have hkeeps := ScrubKeeps.overL fcuScrubWord_keeps
      (bad.filter fun e => decide (s.fcuScrub ≤ e.2) && decide (e.2 < s.fcuScrub + 512))
      { s with fcuScrub := (s.fcuScrub + 512) % 24576 }
    have hexec : exec (.fcuScrub bad) s = _ := execFcuScrub_eq bad s
    refine ⟨_, hexec, hkeeps.scrub, hkeeps.coef, sameMem_of_mem (exec_mem rfl hexec), fun hnone => ?_,
      fun e he hlow hhigh h q hrec huse => ?_⟩
    · rw [List.filter_eq_nil_iff.mpr fun e he => by have := hnone e he; simp; omega]
      dsimp only [overL, List.foldl_nil]
      exact ⟨rfl, rfl, sameRegs_of_regs (by dsimp only) _⟩
    · have hmem : e ∈ bad.filter fun e => decide (s.fcuScrub ≤ e.2) && decide (e.2 < s.fcuScrub + 512) :=
        List.mem_filter.mpr ⟨he, by simp [hlow, hhigh]⟩
      exact mark_of_mem fcuScrubWord_keeps (fun s' hs' => fcuScrubWord_marks ((hs' _).trans hrec) huse)
        (fun k => congrArg GrpSt.rec_ (grp_of_groups (by dsimp only) k)) hmem

end Sys2Proof.Machine
end

section
/-!
PROOFS. Array renderer: coefficients, exponents and images (06, R168, R172, R184 to R186).
-/
namespace Sys2Proof.Machine

/-! Plots, crosspoints and runs of table writes. -/

section
variable (s : State) (p q : Nat)

@[simp] theorem plot_modPlot_same (f : PlotSt → PlotSt) : (s.modPlot p f).plot p = f (s.plot p) := NTable.get_mod_same _ _ _ _
theorem plot_modPlot_other (f : PlotSt → PlotSt) (h : q ≠ p) : (s.modPlot p f).plot q = s.plot q :=
  NTable.get_mod_other _ _ _ _ _ h
@[simp] theorem plot_setReg (r : Reg) (v : Int) : (s.setReg r v).plot p = s.plot p := rfl
@[simp] theorem plot_reply (code : Nat) : (s.reply code).plot p = s.plot p := rfl
theorem plot_of_plots {s t : State} (h : t.plots = s.plots) (p : Nat) : t.plot p = s.plot p := by simp only [State.plot, h]

@[simp] theorem areXp_modXp_same (f : AreXpSt → AreXpSt) : (s.modXp p f).areXp p = f (s.areXp p) := NTable.get_mod_same _ _ _ _
theorem areXp_modXp_other (f : AreXpSt → AreXpSt) (h : q ≠ p) : (s.modXp p f).areXp q = s.areXp q :=
  NTable.get_mod_other _ _ _ _ _ h
@[simp] theorem areXp_reply (code : Nat) : (s.reply code).areXp p = s.areXp p := rfl
theorem areXp_of_areXps {s t : State} (h : t.areXps = s.areXps) (k : Nat) : t.areXp k = s.areXp k := by
  simp only [State.areXp, h]

end

/-- A key that no write of a run names reads as before. -/
theorem get_putAll_other {α β : Type} [DecidableEq β] (d : β) (key : α → Nat) (val : α → β) (l : List α) (t : NTable β) {k : Nat}
    (h : ∀ w ∈ l, key w ≠ k) : NTable.get d (l.foldl (fun t w => NTable.put d t (key w) (val w)) t) k = NTable.get d t k :=
  foldl_keeps (g := fun t => NTable.get d t k) l t fun t w hw => NTable.get_put_other _ _ _ _ _ (h w hw).symm

/-- The last write of a run to a key stands. -/
theorem get_putAll_last {α β : Type} [DecidableEq β] (d : β) (key : α → Nat) (val : α → β) {l : List α} {t : NTable β} {i : Nat}
    {w : α} (hw : l[i]? = some w) (hlast : ∀ j v, i < j → l[j]? = some v → key v ≠ key w) :
    NTable.get d (l.foldl (fun t w => NTable.put d t (key w) (val w)) t) (key w) = val w := by
  induction l generalizing i t with
  | nil => simp at hw
  | cons a l ih =>
    cases i with
    | zero =>
      obtain rfl : a = w := by simpa using hw
      refine (get_putAll_other d key val l _ fun v hv => ?_).trans (NTable.get_put_same _ _ _ _)
      obtain ⟨j, hj⟩ := List.mem_iff_getElem?.mp hv
      exact hlast (j + 1) v (Nat.succ_pos j) hj
    | succ i => exact ih hw fun j v hij hj => hlast (j + 1) v (Nat.succ_lt_succ hij) hj

/-! Coefficients that are queued (R185). -/

/-- The writes that coefficients queue. -/
def State.coefWrites (s : State) (bank off set : Nat) (load : Bool) (cs : List Int) : List CoefWrite :=
  (cs.zipIdx off).map fun e => { bank := bank, addr := e.2, value := wrapS 24 e.1, set := set, tick := s.tick, load := load }

section
variable (s : State) (p bank off set : Nat) (load : Bool) (cs : List Int)

@[simp] theorem length_coefWrites : (s.coefWrites bank off set load cs).length = cs.length := by simp [State.coefWrites]
theorem getElem?_coefWrites {i : Nat} (h : i < cs.length) : (s.coefWrites bank off set load cs)[i]? =
    some { bank := bank, addr := off + i, value := wrapS 24 (cs.getD i 0), set := set, tick := s.tick, load := load } := by
  simp [State.coefWrites, h]
theorem queueCoefs_fifo : ((s.queueCoefs p bank off set load cs).plot p).areFifo =
    (s.plot p).areFifo ++ s.coefWrites bank off set load cs := congrArg PlotSt.areFifo (plot_modPlot_same s p _)
@[simp] theorem queueCoefs_areXps : (s.queueCoefs p bank off set load cs).areXps = s.areXps := rfl
@[simp] theorem queueCoefs_regs : (s.queueCoefs p bank off set load cs).regs = s.regs := rfl

end

/-- ARE_COEF_WRITE of coefficients that fit an inactive region of the plot. -/
theorem areCoefWrite_eq {p : Fin 16} {xp : Fin 32768} {r : AreXp} {off offset : Nat} {s : State} {coefs : List Int}
    (hr : s.ownXp p xp = some r) (hoff : r.off (1 - (s.areXp xp).bank) = some off) (hne : coefs ≠ [])
    (hlen : coefs.length ≤ 65536) (hfit : offset + coefs.length ≤ r.taps) : exec (.areCoefWrite p xp offset coefs) s =
      if (s.areSet p r.set).state ≠ 0 then .next ((s.areStatus p 0x10).reply 0)
      else .next ((s.queueCoefs p (1 - (s.areXp xp).bank) (off + offset) r.set false coefs).reply 0) := by
  have hgood : ¬(coefs = [] ∨ coefs.length > 65536) := not_or.mpr ⟨hne, by omega⟩
  have hin : ¬offset + coefs.length > r.taps := by omega
  simp only [exec, execAreCoefWrite, hr, if_neg hgood, hoff, if_neg hin]

/-! Exponents (R168, R172). -/

theorem exp_setExp_same (x : AreXpSt) (bank e : Nat) : (x.setExp bank e).exp bank = e := by
  unfold AreXpSt.setExp AreXpSt.exp; split <;> rfl
/-- The exponent of the active region stays where the inactive one is set. -/
theorem exp_setExp_active (x : AreXpSt) (e : Nat) (h : x.bank ≤ 1) : (x.setExp (1 - x.bank) e).exp x.bank = x.exp x.bank := by
  have hb : x.bank = 0 ∨ x.bank = 1 := by omega
  rcases hb with hb | hb <;> simp [AreXpSt.setExp, AreXpSt.exp, hb]

/-! The store (R185). -/

/-- The table of coefficients after writes in order. -/
def putCoefs (ready : List CoefWrite) (t : NTable Int) : NTable Int :=
  ready.foldl (fun t w => NTable.put 0 t (w.bank * 16777216 + w.addr) w.value) t

/-- ARE_COEF_STORE_WRITE that has not written in this tick takes the writes that are ready. -/
theorem areCoefStoreWrite_frame {p : Fin 16} {s : State} (ready : List CoefWrite)
    (hready : ready = ((s.plot p).areFifo.takeWhile fun w => decide (w.tick < s.tick)).take 4096)
    (hwrote : (s.plot p).areWrote = false) : ∃ t, exec (.areCoefStoreWrite p) s = .next t ∧
      (t.plot p).areFifo = (s.plot p).areFifo.drop ready.length ∧ (t.plot p).areWrote = true ∧
      t.areCoef = putCoefs ready s.areCoef := by
  subst hready
  refine ⟨_, by simp only [exec, execAreCoefStoreWrite, hwrote, Bool.false_eq_true, if_false]; rfl, ?_, ?_, when_keeps
    (g := State.areCoef) rfl⟩
  · exact (congrArg PlotSt.areFifo (when_keeps (g := fun s => s.plot p) rfl)).trans (by simp)
  · exact (congrArg PlotSt.areWrote (when_keeps (g := fun s => s.plot p) rfl)).trans (by simp)

/-! Images (R186). -/

/-- The exponents of an image are written to crosspoints alone. -/
theorem loadExps_frame {p : Nat} {l : List ImgRec} {s t : State} (h : s.loadExps p l = some t) :
    t.regs = s.regs ∧ t.plots = s.plots := by
  induction l generalizing s with
  | nil => cases h; exact ⟨rfl, rfl⟩
  | cons r l ih =>
    unfold State.loadExps at h
    split at h
    · cases h
    · next x hx =>
      extract_lets st s1 at h
      split at h
      · cases h
      · have h1 : s1.regs = s.regs ∧ s1.plots = s.plots := by
          show (if r.exp = 0xFF then _ else _ : State).regs = _ ∧ (if r.exp = 0xFF then _ else _ : State).plots = _
          split <;> exact ⟨rfl, rfl⟩
        clear_value s1
        split at h
        · exact ⟨(ih h).1.trans h1.1, (ih h).2.trans h1.2⟩
        · cases h

/-- The coefficients of an image's record queued for its crosspoint. -/
def State.queueRecord (p : Nat) (s : State) (r : ImgRec) : State :=
  match s.ownXp p r.xp with
  | some x => match x.off (1 - (s.areXp r.xp).bank) with
    | some off => s.queueCoefs p (1 - (s.areXp r.xp).bank) (off + r.tap) x.set true r.coefs
    | none => s
  | none => s

theorem queueRecord_frame (p : Nat) (s : State) (r : ImgRec) :
    (s.queueRecord p r).areXps = s.areXps ∧ (s.queueRecord p r).regs = s.regs := by
  unfold State.queueRecord
  split
  · split
    · exact ⟨rfl, rfl⟩
    · exact ⟨rfl, rfl⟩
  · exact ⟨rfl, rfl⟩

/-- An image that passes its checks, on sets that are RUNNING, is queued. -/
theorem areImgLoad_queues {p : Fin 16} {s s1 : State} {b : List Byte} {l : List ImgRec}
    (himage : (s.plot p).areImage = some b) (hparse : parseImage (b.length + 1) b = some l)
    (hexps : s.loadExps p l = some s1)
    (hsets : ∀ e ∈ l, ∀ x, s.ownXp p e.xp = some x → (s.areSet p x.set).state = 0) : exec (.areImgLoad p) s =
      .next ((((overL l (State.queueRecord p) s1).modPlot p fun x => { x with loading := true }).setReg (Reg.areImgStatus p)
        (if l = [] then 4 else 3)).reply 0) := by
  have hbind : ((s.plot p).areImage.bind fun b => parseImage (b.length + 1) b) = some l := by rw [himage]; exact hparse
  simp only [exec, execAreImgLoad, hbind, hexps]
  refine if_neg (Bool.eq_false_iff.mp (List.any_eq_false.mpr fun e he => ?_))
  split
  · next x hx => simp [hsets e he x hx]
  · simp

/-- An image that is loading changes its status alone, once its coefficients are queued. -/
theorem areImgLoad_regs (s u : State) (p : Nat) (f : PlotSt → PlotSt) (v : Int) (h : u.regs = s.regs) :
    SameRegs s (((u.modPlot p f).setReg (Reg.areImgStatus p) v).reply 0) [Reg.areImgStatus p] := by
  have h1 : SameRegs s (u.modPlot p f) [Reg.areImgStatus p] := sameRegs_of_regs h _
  have h2 : Reports (u.modPlot p f) (((u.modPlot p f).setReg (Reg.areImgStatus p) v).reply 0) [Reg.areImgStatus p] :=
    .trans (.setReg (by simp) v) (.reply _ _ _)
  exact h1.trans h2.2

/-- Settles O17: coefficients are queued in order, the exponent and the store are written, an image is checked whole. -/
theorem rendererCoefficientCommands : Obligations.RendererCoefficientCommands := by
  intro p xp r off s hr hoff
  refine ⟨fun offset coefs hne hlen hfit hset => ?write, fun offset coefs hne hlen hfit hset => ?busy,
    fun e he hset hbound => ?exp, fun ready hready hwrote => ?store, fun hwrote => ?wrote, fun image => ?image,
    fun hnone => ?missing, fun b rec_ himage hparse hxp hexp hfit hbound hset => ?one,
    fun b l himage hparse => ⟨fun hfail => ?fails, fun s1 hexps hsets => ?loads⟩⟩
  case write =>
    have hfifo := queueCoefs_fifo s p (1 - (s.areXp xp).bank) (off + offset) r.set false coefs
    refine ⟨_, (areCoefWrite_eq hr hoff hne hlen hfit).trans (if_neg (not_not.mpr hset)), ?_, ?_, fun i hi => ?_, rfl,
      sameRegs_of_regs rfl _, sameMem_of_mem rfl, rfl⟩
    · rw [plot_reply, hfifo]; simp
    · rw [plot_reply, hfifo, List.take_left]
    · rw [plot_reply, hfifo, List.drop_left, getElem?_coefWrites _ _ _ _ _ _ hi]
  case busy =>
    exact ⟨_, (areCoefWrite_eq hr hoff hne hlen hfit).trans (if_pos hset), reg_setReg_same s _ _, rfl⟩
  case exp =>
    have hother : (r.off (1 - (s.areXp xp).bank)).isNone = false := by rw [hoff]; rfl
    have heq : exec (.areCoefExp p xp e) s = .next ((s.modXp xp fun x => x.setExp (1 - x.bank) e).reply 0) := by
      simp only [exec, execAreCoefExp, hr, if_neg (by omega : ¬e > 54), hother, Bool.false_eq_true, if_false,
        if_neg (not_not.mpr hset), hbound, if_true]
    refine ⟨_, heq, ?_, fun hb => ?_, fun k hk => ?_, rfl, sameRegs_of_regs rfl _, sameMem_of_mem rfl⟩
    · rw [areXp_reply, areXp_modXp_same, exp_setExp_same]
    · rw [areXp_reply, areXp_modXp_same, exp_setExp_active _ _ hb]
    · rw [areXp_reply, areXp_modXp_other _ _ _ _ hk]
  case store =>
    obtain ⟨t, heq, hfifo, hdone, hcoef⟩ := areCoefStoreWrite_frame ready hready hwrote
    refine ⟨t, heq, hfifo, hdone, fun i w hw hlast => ?_, fun a ha => ?_, sameMem_of_mem (exec_mem rfl heq)⟩
    · rw [hcoef]; exact get_putAll_last 0 (fun w : CoefWrite => w.bank * 16777216 + w.addr) CoefWrite.value hw hlast
    · rw [hcoef]; exact get_putAll_other 0 (fun w : CoefWrite => w.bank * 16777216 + w.addr) CoefWrite.value ready _ ha
  case wrote => simp only [exec, execAreCoefStoreWrite, hwrote, if_true]
  case image =>
    refine ⟨_, rfl, by simp, fun q hq => ?_, rfl, sameRegs_of_regs rfl _, sameMem_of_mem rfl⟩
    rw [plot_reply, plot_modPlot_other s p q _ hq]
  case missing =>
    refine ⟨(s.setReg (Reg.areImgStatus p) 0x14).reply 0, ?_, reg_setReg_same s _ _, rfl⟩
    simp only [exec, execAreImgLoad, hnone, Option.bind_none]
    rfl
  case one =>
    have hown : s.ownXp p rec_.xp = some r := hxp ▸ hr
    have hoff' : r.off (1 - (s.areXp rec_.xp).bank) = some off := hxp ▸ hoff
    have hexps : s.loadExps p [rec_] = some s := by
      have hgood : ¬((r.off (1 - (s.areXp rec_.xp).bank)).isNone = true ∨ rec_.tap + rec_.coefs.length > r.taps ∨
          (rec_.exp ≠ 0xFF ∧ rec_.exp > 54)) := by
        rw [hoff', hexp]; simp; omega
      simp only [State.loadExps, hown]
      rw [if_neg hgood, if_pos hexp, if_pos hbound]
    have heq := areImgLoad_queues himage hparse hexps fun e he x hx => by
      obtain rfl := List.mem_singleton.mp he
      obtain rfl := Option.some.inj (hown.symm.trans hx)
      exact hset
    have hqueue : overL [rec_] (State.queueRecord p) s =
        s.queueCoefs p (1 - (s.areXp rec_.xp).bank) (off + rec_.tap) r.set true rec_.coefs := by
      simp only [overL, List.foldl_cons, List.foldl_nil, State.queueRecord, hown, hoff']
    rw [hqueue, if_neg (by simp)] at heq
    refine ⟨_, heq, reg_setReg_same _ _ _, by simp, ?_, ?_, sameMem_of_mem (exec_mem rfl heq)⟩
    · simp [queueCoefs_fifo]
    · exact areImgLoad_regs _ _ _ _ _ (queueCoefs_regs _ _ _ _ _ _ _)
  case fails =>
    have hbind : ((s.plot p).areImage.bind fun b => parseImage (b.length + 1) b) = some l := by rw [himage]; exact hparse
    refine ⟨(s.setReg (Reg.areImgStatus p) 0x12).reply 0, ?_, reg_setReg_same s _ _, rfl, rfl, sameMem_of_mem rfl⟩
    simp only [exec, execAreImgLoad, hbind, hfail]
    rfl
  case loads =>
    have heq := areImgLoad_queues himage hparse hexps hsets
    have hxps : (overL l (State.queueRecord p) s1).areXps = s1.areXps :=
      overL_keeps (g := State.areXps) l s1 fun s r _ => (queueRecord_frame p s r).1
    have hregs : (overL l (State.queueRecord p) s1).regs = s1.regs :=
      overL_keeps (g := State.regs) l s1 fun s r _ => (queueRecord_frame p s r).2
    have hmem := exec_mem rfl heq
    generalize overL l (State.queueRecord p) s1 = s2 at heq hxps hregs hmem
    refine ⟨_, heq, reg_setReg_same _ _ _, by simp, hxps, ?_, sameMem_of_mem hmem⟩
    exact SameRegs.trans (t := s2) (sameRegs_of_regs (hregs.trans (loadExps_frame hexps).1) _)
      (.trans (t := s2.modPlot p fun x => { x with loading := true }) (sameRegs_of_regs rfl _)
        (.trans (.setReg (by simp) _) (sameRegs_of_regs rfl _)))

end Sys2Proof.Machine
end

section
/-!
PROOFS. Array renderer: swaps, fades and errors (06, R187 to R196).
-/
namespace Sys2Proof.Machine

/-! What an error of crosspoints leaves alone. -/

/-- A crosspoint but for its error marks. -/
def AreXpSt.still (x : AreXpSt) : AreXpSt := { x with error := false, errorNext := false, rampUp := false }
/-- The state but for its reports, crosspoints, source blocks, histories and evidence. -/
def State.still (s : State) : State := { s.quiet with areXps := [], src := [], hist := [], pair := {} }

/-- Errors at crosspoints: beside the marks and the registers of a kind the crosspoints, sets, lasts and time are as before,
and a mark for the next block that was set stays. -/
structure XpErrors (R : Reg → Prop) (s t : State) : Prop where
  still : t.still = s.still
  xps : ∀ k, (t.areXp k).still = (s.areXp k).still
  mark : ∀ k, (s.areXp k).errorNext = true → (t.areXp k).errorNext = true
  regs : ∀ q, ¬R q → t.reg q = s.reg q

/-- A crosspoint with an error, in this block or for the next. -/
def AreXpSt.errored (x : AreXpSt) (next : Bool) : AreXpSt :=
  if next then { x with errorNext := true } else { x with error := true, rampUp := false }
theorem areXp_xpError (s : State) (k : Nat) (next : Bool) (j : Nat) :
    (s.xpError k next).areXp j = if j = k then (s.areXp k).errored next else s.areXp j := by
  have hxps : (s.xpError k next).areXps = (s.modXp k fun x => x.errored next).areXps := rfl
  rw [areXp_of_areXps hxps]
  split
  · next h => rw [h, areXp_modXp_same]
  · next h => rw [areXp_modXp_other _ _ _ _ h]

theorem errorNext_xpError (s : State) (k : Nat) : ((s.xpError k true).areXp k).errorNext = true := by
  rw [areXp_xpError, if_pos rfl]; rfl

namespace XpErrors
variable {R R' : Reg → Prop} {s t u : State}

theorem refl (R : Reg → Prop) (s : State) : XpErrors R s s := ⟨rfl, fun _ => rfl, fun _ h => h, fun _ _ => rfl⟩
theorem trans (h : XpErrors R s t) (h' : XpErrors R t u) : XpErrors R s u :=
  ⟨h'.still.trans h.still, fun k => (h'.xps k).trans (h.xps k), fun k hk => h'.mark k (h.mark k hk),
    fun q hq => (h'.regs q hq).trans (h.regs q hq)⟩
theorem mono (h : XpErrors R s t) (hR : ∀ q, R q → R' q) : XpErrors R' s t :=
  ⟨h.still, h.xps, h.mark, fun q hq => h.regs q fun hr => hq (hR q hr)⟩
theorem overL {α : Type} {f : State → α → State} (hf : ∀ s x, XpErrors R s (f s x)) (l : List α) (s : State) :
    XpErrors R s (overL l f s) := by
  induction l generalizing s with
  | nil => exact refl R s
  | cons x l ih => exact (hf s x).trans (ih _)
/-- Reports change no crosspoint. -/
theorem of_reports {l : List Reg} (h : Reports s t l) (hR : ∀ q ∈ l, R q) : XpErrors R s t :=
  have hx : t.areXps = s.areXps := h.field State.areXps fun _ => rfl
  ⟨congrArg (fun s : State => { s with areXps := [], src := [], hist := [], pair := {} }) h.1,
    fun k => by rw [areXp_of_areXps hx], fun k hk => by rwa [areXp_of_areXps hx], fun q hq => h.2 q fun hm => hq (hR q hm)⟩
/-- A state of the same registers and crosspoints that is still the same. -/
theorem of_eq (hs : t.still = s.still) (hx : t.areXps = s.areXps) (hr : t.regs = s.regs) : XpErrors R s t :=
  ⟨hs, fun k => by rw [areXp_of_areXps hx], fun k hk => by rwa [areXp_of_areXps hx], fun q _ => reg_of_regs hr q⟩
theorem field {α : Type} (h : XpErrors R s t) (g : State → α) (hg : ∀ s, g s.still = g s) : g t = g s :=
  (hg t).symm.trans ((congrArg g h.still).trans (hg s))

theorem evidence (R : Reg → Prop) (s : State) (p : Nat) : XpErrors R s (s.evidence p) := of_eq rfl rfl rfl

/-- An error at a crosspoint. -/
theorem xpError (hR : ∀ k, R (Reg.areXpUecc k)) (s : State) (k : Nat) (next : Bool) : XpErrors R s (s.xpError k next) := by
  have hx := areXp_xpError s k next
  refine ⟨rfl, fun j => ?_, fun j hj => ?_, fun q hq => reg_setReg_other _ _ _ _ fun h => hq (h ▸ hR k)⟩
  · rw [hx]; split
    · next h => subst h; cases next <;> rfl
    · rfl
  · rw [hx]; split
    · next h => subst h; cases next
                · exact hj
                · rfl
    · exact hj

end XpErrors

/-- The output formed again is a source block alone. -/
theorem reformOut_keeps {α : Type} {g : State → α} (hg : ∀ s x b, g (State.setSource s x b) = g s) (s : State) (k : Nat) :
    g (s.reformOut k) = g s := by
  unfold State.reformOut
  dsimp only
  split
  · split
    · split
      · rfl
      · exact hg _ _ _
    · rfl
  · rfl
theorem XpErrors.reformOut (R : Reg → Prop) (s : State) (k : Nat) : XpErrors R s (s.reformOut k) :=
  .of_eq (reformOut_keeps (g := State.still) (fun _ _ _ => rfl) s k) (reformOut_keeps (g := State.areXps) (fun _ _ _ => rfl) s k)
    (reformOut_keeps (g := State.regs) (fun _ _ _ => rfl) s k)

/-! A history word (R194). -/

/-- The registers of an error at an input of a plot. -/
def inputErrReg (p i : Nat) (q : Reg) : Prop :=
  (∃ k, q = Reg.areXpUecc k) ∨ q = Reg.areInUecc i ∨ q = Reg.plotFault p ∨ q = Reg.notifyDropped

/-- The crosspoints of an input's history error. -/
def State.inputHits (s : State) (l : Last) (i : AreIn) (w : Nat) (next : Bool) : List AreXp :=
  l.areXps.filter fun r => decide (r.input = i.input) &&
    (!next || [2 * w, 2 * w + 1].any fun a => decide (i.hbase ≤ a) && decide (a < i.hbase + i.hlen) && s.readsHistory i r a)
/-- An error of a history read at a crosspoint. -/
def State.hitXp (next : Bool) (s : State) (r : AreXp) : State :=
  let s' := s.xpError r.xp next
  if next then s' else s'.reformOut r.xp

theorem historyError_eq (s : State) (p : Nat) (l : Last) (i : AreIn) (w : Nat) (next : Bool) :
    s.historyError p l i w next =
      (((((overL (s.inputHits l i w next) (State.hitXp next) s).bump (Reg.areInUecc i.input)).logEvent 0x0404 2 p
        (i.input + 0x8000) 1).plotFault p 4).evidence p) := rfl

theorem hitXp_errors (next : Bool) (s : State) (r : AreXp) : XpErrors (fun q => ∃ k, q = Reg.areXpUecc k) s (s.hitXp next r) := by
  have h : XpErrors (fun q => ∃ k, q = Reg.areXpUecc k) s (s.xpError r.xp next) := .xpError (fun k => ⟨k, rfl⟩) s r.xp next
  unfold State.hitXp
  cases next
  · exact h.trans (.reformOut _ _ _)
  · exact h

/-- An error of an input is counted, sets the plot's fault bit 4 and marks crosspoints; the histories stay. -/
theorem historyError_frame (s : State) (p : Nat) (l : Last) (i : AreIn) (w : Nat) (next : Bool) :
    XpErrors (inputErrReg p i.input) s (s.historyError p l i w next) ∧
    (s.historyError p l i w next).reg (Reg.areInUecc i.input) = bump32 (s.reg (Reg.areInUecc i.input)) ∧
    bit ((s.historyError p l i w next).reg (Reg.plotFault p)) 4 = true ∧
    (s.historyError p l i w next).hist = s.hist := by
  rw [historyError_eq]
  have h1 := XpErrors.overL (hitXp_errors next) (s.inputHits l i w next) s
  have hhist : (overL (s.inputHits l i w next) (State.hitXp next) s).hist = s.hist :=
    overL_keeps (g := State.hist) _ s fun s r _ => by
      unfold State.hitXp
      cases next
      · exact reformOut_keeps (g := State.hist) (fun _ _ _ => rfl) _ _
      · rfl
  generalize overL (s.inputHits l i w next) (State.hitXp next) s = s1 at h1 hhist
  have hrep : Reports s1 (((s1.bump (Reg.areInUecc i.input)).logEvent 0x0404 2 p (i.input + 0x8000) 1).plotFault p 4)
      [Reg.areInUecc i.input, Reg.plotFault p, Reg.notifyDropped] :=
    ((Reports.bump (by simp)).trans (.logEvent ..)).trans (.plotFault (by simp) (by simp) 4)
  have hcount : (((s1.bump (Reg.areInUecc i.input)).logEvent 0x0404 2 p (i.input + 0x8000) 1).plotFault p 4).reg
      (Reg.areInUecc i.input) = bump32 (s1.reg (Reg.areInUecc i.input)) :=
    ((Reports.plotFault (l := [Reg.plotFault p, Reg.notifyDropped]) (by simp) (by simp) 4).2 _ (by simp)).trans
      ((reg_logEvent ..).trans (reg_bump_same _ _))
  refine ⟨(h1.mono fun q hq => .inl hq).trans ((XpErrors.of_reports hrep fun q hq => ?_).trans (.evidence _ _ _)), ?_, ?_, ?_⟩
  · exact .inr (by simpa using hq)
  · exact hcount.trans (congrArg bump32 (h1.regs _ (by simp)))
  · exact bit_plotFault _ p 4
  · exact (hrep.field State.hist fun _ => rfl).trans hhist

/-- A history of which a word is zero. -/
def State.zeroWord (s : State) (w : Nat) : State :=
  { s with hist := NTable.put 0 (NTable.put 0 s.hist (2 * w) 0) (2 * w + 1) 0 }
theorem zeroWord_errors (R : Reg → Prop) (s : State) (w : Nat) : XpErrors R s (s.zeroWord w) := .of_eq rfl rfl rfl
theorem zeroWord_hist (s : State) (w a : Nat) : NTable.get 0 (s.zeroWord w).hist a =
    if a = 2 * w ∨ a = 2 * w + 1 then 0 else NTable.get 0 s.hist a := by
  unfold State.zeroWord
  by_cases h1 : a = 2 * w + 1
  · rw [if_pos (.inr h1), h1, NTable.get_put_same]
  · rw [NTable.get_put_other _ _ _ _ _ h1]
    by_cases h0 : a = 2 * w
    · rw [if_pos (.inl h0), h0, NTable.get_put_same]
    · rw [if_neg (by omega), NTable.get_put_other _ _ _ _ _ h0]

theorem historyWord_eq (s : State) (w : Nat) (next : Bool) : s.historyWord w next =
    let a := s.inputAt (2 * w)
    let s2 := match a with | some (p, l, i) => (s.zeroWord w).historyError p l i w next | none => s.zeroWord w
    match s.inputAt (2 * w + 1) with
    | some (p, l, i) => if a.map (·.2.2.input) = some i.input then s2 else s2.historyError p l i w next
    | none => s2 := rfl

/-- The input of a history sample has its error counted once and its plot's fault, where the word's other sample is of the
same input only with the same plot. -/
theorem historyWord_counts {s : State} {addr q : Nat} {l : Last} {i : AreIn} (next : Bool)
    (hin : s.inputAt addr = some (q, l, i))
    (hsame : ∀ p' l' j, s.inputAt (2 * (addr / 2)) = some (p', l', j) → j.input = i.input → p' = q) :
    (s.historyWord (addr / 2) next).reg (Reg.areInUecc i.input) = bump32 (s.reg (Reg.areInUecc i.input)) ∧
    bit ((s.historyWord (addr / 2) next).reg (Reg.plotFault q)) 4 = true := by
  -- an error of another input leaves the count, and the fault bit too
  have hother : ∀ (t : State) p' l' (j : AreIn), j.input ≠ i.input →
      (t.historyError p' l' j (addr / 2) next).reg (Reg.areInUecc i.input) = t.reg (Reg.areInUecc i.input) ∧
      (bit (t.reg (Reg.plotFault q)) 4 = true →
        bit ((t.historyError p' l' j (addr / 2) next).reg (Reg.plotFault q)) 4 = true) := fun t p' l' j hj => by
    obtain ⟨herr, -, hbit, -⟩ := historyError_frame t p' l' j (addr / 2) next
    refine ⟨herr.regs _ (by simp [inputErrReg, Ne.symm hj]), fun h => ?_⟩
    by_cases hp : p' = q
    · exact hp ▸ hbit
    · rwa [herr.regs _ (by simp [inputErrReg, Ne.symm hp])]
  have hown : ∀ (t : State) l', (t.historyError q l' i (addr / 2) next).reg (Reg.areInUecc i.input) =
      bump32 (t.reg (Reg.areInUecc i.input)) ∧ bit ((t.historyError q l' i (addr / 2) next).reg (Reg.plotFault q)) 4 = true :=
    fun t l' => ⟨(historyError_frame t q l' i (addr / 2) next).2.1, (historyError_frame t q l' i (addr / 2) next).2.2.1⟩
  have hz : (s.zeroWord (addr / 2)).reg (Reg.areInUecc i.input) = s.reg (Reg.areInUecc i.input) := rfl
  rw [historyWord_eq]
  rcases Nat.mod_two_eq_zero_or_one addr with heven | hodd
  · rw [show 2 * (addr / 2) = addr by omega, hin]
    dsimp only
    obtain ⟨hcount, hbit⟩ := hown (s.zeroWord (addr / 2)) l
    rw [hz] at hcount
    split
    · next p' l' j hb =>
      split
      · exact ⟨hcount, hbit⟩
      · next hne =>
        obtain ⟨hc, hb'⟩ := hother ((s.zeroWord (addr / 2)).historyError q l i (addr / 2) next) p' l' j
          fun h => hne (by simp [h])
        exact ⟨hc.trans hcount, hb' hbit⟩
    · exact ⟨hcount, hbit⟩
  · rw [show 2 * (addr / 2) + 1 = addr by omega, hin]
    cases ha : s.inputAt (2 * (addr / 2)) with
    | none =>
      dsimp only
      rw [if_neg (by simp)]
      exact hz ▸ hown (s.zeroWord (addr / 2)) l
    | some x =>
      obtain ⟨p', l', j⟩ := x
      dsimp only [Option.map]
      by_cases hj : j.input = i.input
      · rw [if_pos (by rw [hj])]
        obtain rfl := hsame p' l' j ha hj
        obtain ⟨-, hc, hb, -⟩ := historyError_frame (s.zeroWord (addr / 2)) p' l' j (addr / 2) next
        rw [hj] at hc
        exact ⟨hc, hb⟩
      · rw [if_neg (by simpa using hj)]
        obtain ⟨hc, hb⟩ := hown ((s.zeroWord (addr / 2)).historyError p' l' j (addr / 2) next) l
        exact ⟨hc.trans (congrArg bump32 ((hother _ p' l' j hj).1.trans hz)), hb⟩

/-- The registers of an error at some input. -/
def someInputErr (q : Reg) : Prop := ∃ p i, inputErrReg p i q

/-- A history word that fails is zero, and errors of inputs alone come of it. -/
theorem historyWord_frame (s : State) (w : Nat) (next : Bool) : XpErrors someInputErr s (s.historyWord w next) ∧
    (s.historyWord w next).hist = (s.zeroWord w).hist := by
  have herr : ∀ s p l i, XpErrors someInputErr s (State.historyError s p l i w next) ∧
      (State.historyError s p l i w next).hist = s.hist := fun s p l i =>
    ⟨(historyError_frame s p l i w next).1.mono fun q hq => ⟨p, i.input, hq⟩, (historyError_frame s p l i w next).2.2.2⟩
  rw [historyWord_eq]
  extract_lets a s2
  have h2 : XpErrors someInputErr s s2 ∧ s2.hist = (s.zeroWord w).hist := by
    have hz := zeroWord_errors someInputErr s w
    cases ha : a with
    | none =>
      have hs2 : s2 = s.zeroWord w := by simp only [s2, ha]
      rw [hs2]; exact ⟨hz, rfl⟩
    | some x =>
      have hs2 : s2 = (s.zeroWord w).historyError x.1 x.2.1 x.2.2 w next := by simp only [s2, ha]
      rw [hs2]; exact ⟨hz.trans (herr _ _ _ _).1, (herr _ _ _ _).2⟩
  clear_value s2
  split
  · split
    · exact h2
    · exact ⟨h2.1.trans (herr _ _ _ _).1, (herr _ _ _ _).2.trans h2.2⟩
  · exact h2

/-! A coefficient line (R195, R196). -/

/-- The crosspoints of a last that read a line of a bank. -/
def State.lineHits (s : State) (bank line : Nat) (l : Last) : List AreXp :=
  l.areXps.filter fun r =>
    s.readsBank r bank && match r.off bank with
      | some o => decide (o < line * 8 + 8) && decide (line * 8 < o + r.taps)
      | none => false
/-- A crosspoint marked for the next block. -/
def State.markXp (s : State) (r : AreXp) : State := s.xpError r.xp true
/-- A plot's part of a line's error. -/
def State.linePlot (hit : Last → List AreXp) (s : State) (p : Nat) : State :=
  let s1 := match s.last p with | some l => overL (hit l) State.markXp s | none => s
  (s1.plotFault p 3).evidence p

/-- The plots whose lasts read a line. -/
def State.linePlots (s : State) (bank line : Nat) : List Nat :=
  (List.range 16).filter fun p => match s.last p with | some l => s.lineHits bank line l != [] | none => false

/-- A line's error: nothing where no last reads it, else an entry and each plot's part. -/
theorem lineError_eq (s : State) (bank line : Nat) : (s.linePlots bank line = [] ∧ s.lineError bank line = s) ∨
    ∃ p first, s.lineError bank line =
      overL (s.linePlots bank line) (State.linePlot (s.lineHits bank line)) (s.logEvent 0x0404 2 p first 0) := by
  have h : s.lineError bank line = match s.linePlots bank line with
    | [] => s
    | p0 :: _ => overL (s.linePlots bank line) (State.linePlot (s.lineHits bank line)) (s.logEvent 0x0404 2 p0
        (match s.last p0 with | some l => ((s.lineHits bank line l).head?.map (·.xp)).getD 0 | none => 0) 0) := rfl
  cases hplots : s.linePlots bank line with
  | nil => exact .inl ⟨rfl, by rw [h, hplots]⟩
  | cons p t =>
    rw [hplots] at h
    exact .inr ⟨p, _, h⟩

/-- The registers of an error of a coefficient line. -/
def lineErrReg (q : Reg) : Prop := (∃ k, q = Reg.areXpUecc k) ∨ (∃ p, q = Reg.plotFault p) ∨ q = Reg.notifyDropped

theorem xpError_lineErr (s : State) (k : Nat) (next : Bool) : XpErrors lineErrReg s (s.xpError k next) :=
  .xpError (fun k => .inl ⟨k, rfl⟩) s k next

theorem markXp_errors (s : State) (r : AreXp) : XpErrors lineErrReg s (s.markXp r) := xpError_lineErr s r.xp true

theorem linePlot_errors (hit : Last → List AreXp) (s : State) (p : Nat) : XpErrors lineErrReg s (s.linePlot hit p) := by
  unfold State.linePlot
  extract_lets s1
  have h1 : XpErrors lineErrReg s s1 := by
    cases hl : s.last p with
    | none => simp only [s1, hl]; exact .refl _ _
    | some l => simp only [s1, hl]; exact .overL markXp_errors (hit l) s
  clear_value s1
  refine h1.trans ((XpErrors.of_reports (Reports.plotFault (l := [Reg.plotFault p, Reg.notifyDropped]) (by simp) (by simp) 3)
    fun q hq => ?_).trans (.evidence _ _ _))
  rcases List.mem_pair.mp hq with rfl | rfl
  · exact .inr (.inl ⟨p, rfl⟩)
  · exact .inr (.inr rfl)

theorem lineError_errors (s : State) (bank line : Nat) : XpErrors lineErrReg s (s.lineError bank line) := by
  rcases lineError_eq s bank line with ⟨-, h⟩ | ⟨p, first, h⟩
  · rw [h]; exact .refl _ _
  · rw [h]; exact (XpErrors.of_reports (Reports.logEvent _ _ _ _ _ _ []) (by simp)).trans (.overL (linePlot_errors _) _ _)

/-- A mark that one element of a fold sets stays set. -/
theorem XpErrors.mark_of_mem {α : Type} {R : Reg → Prop} {s : State} {f : State → α → State} {k : Nat} {x : α}
    (hf : ∀ s x, XpErrors R s (f s x)) (hx : ∀ s', XpErrors R s s' → ((f s' x).areXp k).errorNext = true) {l : List α}
    {t : State} (ht : XpErrors R s t) (hmem : x ∈ l) : ((Sys2Proof.Machine.overL l f t).areXp k).errorNext = true := by
  induction l generalizing t with
  | nil => simp at hmem
  | cons a l ih =>
    rcases List.mem_cons.mp hmem with rfl | hmem
    · exact (XpErrors.overL hf l _).mark k (hx t ht)
    · exact ih (ht.trans (hf t a)) hmem

theorem linePlot_marks {hit : Last → List AreXp} {s : State} {p : Nat} {l : Last} {r : AreXp} (hl : s.last p = some l)
    (hr : r ∈ hit l) : ((s.linePlot hit p).areXp r.xp).errorNext = true := by
  have h1 : ((overL (hit l) State.markXp s).areXp r.xp).errorNext = true :=
    XpErrors.mark_of_mem markXp_errors (fun s' _ => errorNext_xpError s' r.xp) (.refl _ s) hr
  have heq : s.linePlot hit p = ((overL (hit l) State.markXp s).plotFault p 3).evidence p := by
    unfold State.linePlot; simp only [hl]
  rw [heq]
  generalize overL (hit l) State.markXp s = s1 at h1
  have hrep := Reports.plotFault (s := s1) (p := p) (l := [Reg.plotFault p, Reg.notifyDropped]) (by simp) (by simp) 3
  exact ((XpErrors.of_reports (R := fun _ => True) hrep fun _ _ => trivial).trans (.evidence _ _ p)).mark _ h1

/-- A line's error marks each crosspoint of an active last that reads it. -/
theorem lineError_marks {s : State} {bank line : Nat} {q : Fin 16} {l : Last} {r : AreXp} (hl : s.last q = some l)
    (hr : r ∈ s.lineHits bank line l) : ((s.lineError bank line).areXp r.xp).errorNext = true := by
  have hmem : q.val ∈ s.linePlots bank line := by
    refine List.mem_filter.mpr ⟨List.mem_range.mpr q.isLt, ?_⟩
    simp only [hl, bne_iff_ne]
    exact List.ne_nil_of_mem hr
  rcases lineError_eq s bank line with ⟨h, -⟩ | ⟨p, first, h⟩
  · rw [h] at hmem; simp at hmem
  · rw [h]
    refine XpErrors.mark_of_mem (linePlot_errors _) (fun s' hs' => linePlot_marks (l := l) ?_ hr) (.refl _ _) hmem
    have hplots : s'.plots = (s.logEvent 0x0404 2 p first 0).plots := hs'.field State.plots fun _ => rfl
    rw [State.last, plot_of_plots hplots]; exact hl

/-- What a crosspoint reads does not follow from errors. -/
theorem XpErrors.readsBank {R : Reg → Prop} {s t : State} (h : XpErrors R s t) (r : AreXp) (bank : Nat) :
    t.readsBank r bank = s.readsBank r bank := by
  have hx := h.xps r.xp
  have hbank : (t.areXp r.xp).bank = (s.areXp r.xp).bank := by
    have h := congrArg AreXpSt.bank hx; exact h
  have hfade : (t.areXp r.xp).fadePos = (s.areXp r.xp).fadePos := by
    have h := congrArg AreXpSt.fadePos hx; exact h
  have hplot : (t.areXp r.xp).plot = (s.areXp r.xp).plot := by
    have h := congrArg AreXpSt.plot hx; exact h
  have hsets : t.areSets = s.areSets := h.field State.areSets fun _ => rfl
  have htick : t.tick = s.tick := h.field State.tick fun _ => rfl
  unfold State.readsBank State.areSet
  simp only [hbank, hfade, hplot, hsets, htick]

theorem XpErrors.lineHits {R : Reg → Prop} {s t : State} (h : XpErrors R s t) (bank line : Nat) (l : Last) :
    t.lineHits bank line l = s.lineHits bank line l := by
  unfold State.lineHits
  simp only [h.readsBank]

/-! Scrub (R192, R196). -/

/-- The lines and the history words of a scrub step among those reported, and the state with the step counted. -/
def State.scrubLines (s : State) (coef : List (Fin 2 × Nat)) : List (Fin 2 × Nat) :=
  coef.filter fun e => decide (s.areLine ≤ e.2) && decide (e.2 < s.areLine + 1024)
def State.scrubWords (s : State) (hist : List Nat) : List Nat :=
  hist.filter fun w => decide (s.histWord ≤ w) && decide (w < s.histWord + 2048)
def State.scrubbed (s : State) (n line word : Nat) : State :=
  ({ s with areLine := line, histWord := word }).bumpBy Reg.areCecc n
def State.scrubLine (s : State) (e : Fin 2 × Nat) : State := s.lineError e.1 e.2
def State.scrubHist (s : State) (w : Nat) : State := s.historyWord w true

theorem areScrub_eq (n : Nat) (coef : List (Fin 2 × Nat)) (hist : List Nat) (s : State) : exec (.areScrub n coef hist) s =
    .next (overL (s.scrubWords hist) State.scrubHist (overL (s.scrubLines coef) State.scrubLine 
      (s.scrubbed n ((s.areLine + 1024) % 2097152) ((s.histWord + 2048) % 2097152)))) := rfl

/-- A scrub step that is counted changes its positions and the corrected errors' count alone. -/
theorem scrubbed_frame (s : State) (n line word : Nat) : (s.scrubbed n line word).areLine = line ∧
    (s.scrubbed n line word).histWord = word ∧
    (s.scrubbed n line word).reg Reg.areCecc = (s.reg Reg.areCecc + n) % 4294967296 ∧
    SameRegs s (s.scrubbed n line word) [Reg.areCecc] ∧ (s.scrubbed n line word).areXps = s.areXps ∧
    (s.scrubbed n line word).hist = s.hist ∧ (s.scrubbed n line word).plots = s.plots ∧
    ∀ r bank, (s.scrubbed n line word).readsBank r bank = s.readsBank r bank :=
  ⟨rfl, rfl, reg_bumpBy_same { s with areLine := line, histWord := word } _ _,
    SameRegs.trans (t := { s with areLine := line, histWord := word }) (sameRegs_of_regs rfl _) (.setReg (by simp) _),
    rfl, rfl, rfl, fun _ _ => rfl⟩

/-- The registers of errors that scrub finds. -/
def scrubErrReg (q : Reg) : Prop := lineErrReg q ∨ someInputErr q
theorem not_scrubErrReg_areCecc : ¬scrubErrReg Reg.areCecc := by
  simp [scrubErrReg, lineErrReg, someInputErr, inputErrReg]
theorem scrubLine_errors (s : State) (e : Fin 2 × Nat) : XpErrors scrubErrReg s (s.scrubLine e) :=
  (lineError_errors s e.1 e.2).mono fun _ h => .inl h
theorem scrubHist_errors (s : State) (w : Nat) : XpErrors scrubErrReg s (s.scrubHist w) :=
  (historyWord_frame s w true).1.mono fun _ h => .inr h

/-- A history word that scrub finds uncorrectable is zero afterwards. -/
theorem scrubHist_zero {l : List Nat} {w : Nat} (hw : w ∈ l) (s : State) {a : Nat} (ha : a = 2 * w ∨ a = 2 * w + 1) :
    NTable.get 0 (overL l State.scrubHist s).hist a = 0 := by
  have hstep : ∀ s w', NTable.get 0 (State.scrubHist s w').hist a =
      if a = 2 * w' ∨ a = 2 * w' + 1 then 0 else NTable.get 0 s.hist a := fun s w' =>
    (congrArg (NTable.get 0 · a) (historyWord_frame s w' true).2).trans (zeroWord_hist s w' a)
  induction l generalizing s with
  | nil => simp at hw
  | cons b l ih =>
    by_cases hl : w ∈ l
    · exact ih hl _
    · obtain rfl : w = b := (List.mem_cons.mp hw).resolve_right hl
      have hkeep : NTable.get 0 (overL l State.scrubHist (s.scrubHist w)).hist a = NTable.get 0 (s.scrubHist w).hist a :=
        overL_keeps (g := fun s => NTable.get 0 s.hist a) l _ fun t w' hw' => by
          rw [hstep, if_neg]
          rintro h
          exact hl (by obtain rfl : w' = w := by omega
                       exact hw')
      exact hkeep.trans ((hstep s w).trans (if_pos ha))

/-! Swaps and fades (R187 to R191). -/

@[simp] theorem areSet_areStatus (s : State) (p code q set : Nat) : (s.areStatus p code).areSet q set = s.areSet q set := rfl
theorem areSet_putSet (s : State) (p set : Nat) (v : SetSt) (i : Nat) :
    (s.putSet p set v).areSet p i = if i = set then v else s.areSet p i := by
  split
  · next h => subst h; exact NTable.get_put_same _ _ _ _
  · next h => exact NTable.get_put_other _ _ _ _ _ (by omega)

/-- A request written to a list of sets. -/
theorem areSet_putSets (p : Nat) (v : SetSt) (l : List Nat) (s : State) (i : Nat) :
    (overL l (fun s i => s.putSet p i v) s).areSet p i = if i ∈ l then v else s.areSet p i := by
  induction l generalizing s with
  | nil => rfl
  | cons a l ih =>
    refine (ih (s.putSet p a v)).trans ?_
    rw [areSet_putSet]
    by_cases hl : i ∈ l <;> by_cases ha : i = a <;> simp [hl, ha]

/-- What the end of a set's change leaves: crosspoints and memory, and the set where a fade is under way. -/
theorem setDone_frame (s : State) (p set : Nat) : (s.setDone p set).areXps = s.areXps ∧ (s.setDone p set).mem = s.mem ∧
    ((∃ r ∈ s.xpsOf p set, (s.areXp r.xp).fadePos ≠ none) → s.setDone p set = s) := by
  unfold State.setDone
  split
  · next h =>
    refine ⟨rfl, rfl, fun ⟨r, hr, hfade⟩ => ?_⟩
    have hnone := List.all_eq_true.mp h.2 r hr
    simp only [Option.isNone_iff_eq_none] at hnone
    exact absurd hnone hfade
  · exact ⟨rfl, rfl, fun _ => rfl⟩

/-- ARE_SWAP_AT of sets whose crosspoints have an inactive region. -/
theorem areSwapAt_eq {p : Fin 16} {b least blk : Nat} {s : State} (hmask : s.nat (Reg.areSwapSets p) % 256 ≠ 0)
    (hregions : ∀ i < 8, bit (s.nat (Reg.areSwapSets p) % 256 : Nat) i = true →
      ∀ r ∈ s.xpsOf p i, r.off (1 - (s.areXp r.xp).bank) ≠ none)
    (hleast : least = match s.lastCoefTick p (s.nat (Reg.areSwapSets p) % 256) with
      | some t => max (s.actTick - 1) (t + 1) | none => s.actTick - 1) (hblk : blk = if b = 0 then least else b) :
    exec (.areSwapAt p b) s =
      let sets := (List.range 8).filter fun i => bit (s.nat (Reg.areSwapSets p) % 256 : Nat) i
      if sets.any (fun i => (s.areSet p i).state != 0) then .next ((s.areStatus p 0x10).reply 0)
      else if blk < least then .next ((s.areStatus p 0x11).reply 0)
      else if blk > s.tick + 16777216 then .next ((s.areStatus p 0x12).reply 0)
      else .next (((overL sets (fun s i => s.putSet p i ⟨1, blk⟩) s).areStatus p 1).reply 0) := by
  subst hblk hleast
  have hgood : ¬(s.nat (Reg.areSwapSets p) % 256 = 0 ∨
      ((List.range 8).filter fun i => bit (s.nat (Reg.areSwapSets p) % 256 : Nat) i).any
        (fun i => (s.xpsOf p i).any fun r => (r.off (1 - (s.areXp r.xp).bank)).isNone) = true) := by
    simp only [not_or, List.any_eq_true, List.mem_filter, List.mem_range, Option.isNone_iff_eq_none, not_exists, not_and]
    exact ⟨hmask, fun i hi r hr => hregions i hi.1 hi.2 r hr⟩
  exact if_neg hgood

/-- An error at a crosspoint is counted and sets its plot's fault bit 3, over the error itself. -/
theorem areUecc_reports {xp : Fin 32768} {r : AreXp} {s : State} (hr : (s.areXp xp).rec_ = some r) (residue : Option (Fin 16)) :
    ∃ u, Reports ((s.xpError xp false).reformOut xp) u
        ([Reg.plotFault (s.areXp xp).plot, Reg.notifyDropped] ++ residue.toList.map fun t => Reg.areTileResidue t) ∧
      exec (.areUecc xp residue) s = .next (u.evidence (s.areXp xp).plot) ∧
      bit (u.reg (Reg.plotFault (s.areXp xp).plot)) 3 = true := by
  have hrep : ∀ l x t, Reports t ((State.logEvent t 0x0404 2 (s.areXp xp).plot xp x).plotFault (s.areXp xp).plot 3)
      ([Reg.plotFault (s.areXp xp).plot, Reg.notifyDropped] ++ l) := fun l x t =>
    (Reports.logEvent ..).trans (.plotFault (by simp) (by simp) 3)
  cases residue with
  | none => exact ⟨_, hrep _ _ _, by simp only [exec, execAreUecc, hr]; rfl, bit_plotFault ..⟩
  | some t =>
    refine ⟨_, (hrep _ _ _).trans (.bump (q := Reg.areTileResidue t) (by simp)), by simp only [exec, execAreUecc, hr]; rfl, ?_⟩
    rw [reg_bump_other _ _ _ (by simp)]; exact bit_plotFault ..

/-- The change of a set's crosspoint as its block begins. -/
def AreXp.swap (r : AreXp) (x : AreXpSt) : AreXpSt := if r.xf then { x with fadePos := some 0 } else { x with bank := 1 - x.bank }

/-- The crosspoints of a list with distinct numbers, each changed by its own record. -/
theorem areXp_swapAll (l : List AreXp) (hl : (l.map (·.xp)).Nodup) (s : State) :
    (∀ r ∈ l, (overL l (fun s r => s.modXp r.xp r.swap) s).areXp r.xp = r.swap (s.areXp r.xp)) ∧
    (∀ k, k ∉ l.map (·.xp) → (overL l (fun s r => s.modXp r.xp r.swap) s).areXp k = s.areXp k) := by
  induction l generalizing s with
  | nil => exact ⟨by simp, fun _ _ => rfl⟩
  | cons a l ih =>
    rw [List.map_cons, List.nodup_cons] at hl
    obtain ⟨hin, hout⟩ := ih hl.2 (s.modXp a.xp a.swap)
    refine ⟨fun r hr => ?_, fun k hk => ?_⟩
    · rcases List.mem_cons.mp hr with rfl | hr
      · exact (hout _ hl.1).trans (areXp_modXp_same ..)
      · have hne : r.xp ≠ a.xp := fun h => hl.1 (h ▸ List.mem_map_of_mem hr)
        exact (hin r hr).trans (congrArg r.swap (areXp_modXp_other _ _ _ _ hne))
    · rw [List.map_cons, List.mem_cons, not_or] at hk
      exact (hout k hk.2).trans (areXp_modXp_other _ _ _ _ hk.1)

theorem areSwapBegin_eq {p : Fin 16} {set : Fin 8} {s : State} (hstate : (s.areSet p set).state = 1)
    (hblock : (s.areSet p set).block + 1 ≤ s.tick) : exec (.areSwapBegin p set) s =
      .next ((((overL (s.xpsOf p set) (fun s r => s.modXp r.xp r.swap) s).putSet p set
        { s.areSet p set with state := 2 }).areStatus p 2).setDone p set) := by
  have hgo : ¬((s.areSet p set).state ≠ 1 ∨ (s.areSet p set).block + 1 > s.tick) := by
    rw [not_or, not_not]; exact ⟨hstate, by omega⟩
  simp only [exec, execAreSwapBegin, if_neg hgo]
  rfl

/-- Settles O18: requests by the sets they name, changes by the set's crosspoints, errors by what they leave alone. -/
theorem rendererSwapsAndErrors : Obligations.RendererSwapsAndErrors := by
  intro p xp set s
  refine ⟨fun b blk least hmask hregions => ⟨fun hstate hleast hblk hearly hlate => ?swapAt, fun i hi hbit hstate => ?busy⟩,
    fun hnodup hstate hblock => ?begin, fun h => ?waits, fun r n hr hfade hn => ?fadeEnd, fun h => ?noFade,
    fun r residue hr => ?uecc, fun addr q l i hin hsame => ?history, fun addr hnone => ?noInput,
    fun n coef hist => ?scrub⟩
  case swapAt =>
    have heq := areSwapAt_eq hmask hregions hleast hblk
    dsimp only at heq
    rw [if_neg ?_, if_neg (by omega), if_neg (by omega)] at heq
    · refine ⟨_, heq, reg_setReg_same _ _ _, fun i hi => ?_, ?_, sameMem_of_mem (exec_mem rfl heq)⟩
      · refine (areSet_putSets p ⟨1, blk⟩ _ s i).trans ?_
        simp [hi]
      · have hregs : (overL ((List.range 8).filter fun i => bit (s.nat (Reg.areSwapSets p) % 256 : Nat) i)
            (fun s i => s.putSet p i ⟨1, blk⟩) s).regs = s.regs := overL_keeps (g := State.regs) _ s fun _ _ _ => rfl
        exact SameRegs.trans (sameRegs_of_regs hregs _) (.trans (.setReg (by simp) _) (sameRegs_of_regs rfl _))
    · simp only [List.any_eq_true, List.mem_filter, List.mem_range, not_exists, not_and]
      rintro i ⟨hi, hbit⟩
      simp [hstate i hi hbit]
  case busy =>
    have heq := areSwapAt_eq (b := b) hmask hregions rfl rfl
    dsimp only at heq
    rw [if_pos] at heq
    · exact ⟨_, heq, reg_setReg_same _ _ _, rfl⟩
    · exact List.any_eq_true.mpr ⟨i, List.mem_filter.mpr ⟨List.mem_range.mpr hi, hbit⟩, by simpa using hstate⟩
  case begin =>
    have heq := areSwapBegin_eq hstate hblock
    have hmem := exec_mem rfl heq
    obtain ⟨hin, hout⟩ := areXp_swapAll (s.xpsOf p set) hnodup s
    have hplots : (overL (s.xpsOf p set) (fun s r => s.modXp r.xp r.swap) s).plots = s.plots :=
      overL_keeps (g := State.plots) _ s fun _ _ _ => rfl
    generalize overL (s.xpsOf p set) (fun s r => s.modXp r.xp r.swap) s = s1 at heq hmem hin hout hplots
    obtain ⟨hxps, -, hfading⟩ := setDone_frame ((s1.putSet p set { s.areSet p set with state := 2 }).areStatus p 2) p set
    have hxp : ∀ k, State.areXp (((s1.putSet p set { s.areSet p set with state := 2 }).areStatus p 2).setDone p set) k =
      s1.areXp k := fun k => (areXp_of_areXps hxps k).trans (areXp_of_areXps rfl k)
    refine ⟨_, heq, fun r hr => ⟨fun hxf => ⟨?_, ?_, ?_⟩, fun hxf => ?_⟩, fun k hk => (hxp k).trans (hout k hk), sameMem_of_mem hmem⟩
    · rw [hxp, hin r hr, AreXp.swap, if_pos hxf]
    · rw [hxp, hin r hr, AreXp.swap, if_pos hxf]
    · rw [hfading]
      · rw [areSet_areStatus, areSet_putSet, if_pos rfl]
      · have hxpsOf : State.xpsOf ((s1.putSet p set { s.areSet p set with state := 2 }).areStatus p 2) p set = s.xpsOf p set := by
          unfold State.xpsOf State.last
          rw [plot_of_plots (t := (s1.putSet p set { s.areSet p set with state := 2 }).areStatus p 2) hplots]
        refine ⟨r, hxpsOf ▸ hr, ?_⟩
        have hx : State.areXp ((s1.putSet p set { s.areSet p set with state := 2 }).areStatus p 2) r.xp = r.swap (s.areXp r.xp) :=
          (areXp_of_areXps rfl _).trans (hin r hr)
        rw [hx, AreXp.swap, if_pos hxf]
        exact Option.some_ne_none 0
    · rw [hxp, hin r hr, AreXp.swap, if_neg (by simp [hxf])]
  case waits =>
    have hgo : (s.areSet p set).state ≠ 1 ∨ (s.areSet p set).block + 1 > s.tick := h
    simp only [exec, execAreSwapBegin, if_pos hgo]
  case fadeEnd =>
    have heq : exec (.areFadeEnd xp) s = .next ((s.modXp xp fun x => { x with fadePos := none, bank := 1 - x.bank }).setDone
        (s.areXp xp).plot r.set) := by
      simp only [exec, execAreFadeEnd, hr, hfade, if_neg (by omega : ¬n < r.xfTicks)]
    have hxps := (setDone_frame (s.modXp xp fun x => { x with fadePos := none, bank := 1 - x.bank }) (s.areXp xp).plot r.set).1
    refine ⟨_, heq, ?_, ?_, fun k hk => ?_, sameMem_of_mem (exec_mem rfl heq)⟩
    · rw [areXp_of_areXps hxps, areXp_modXp_same]
    · rw [areXp_of_areXps hxps, areXp_modXp_same]
    · rw [areXp_of_areXps hxps, areXp_modXp_other _ _ _ _ hk]
  case noFade =>
    rcases h with h | h
    · simp only [exec, execAreFadeEnd, h]
    · cases hr : (s.areXp xp).rec_ <;> simp only [exec, execAreFadeEnd, h, hr]
  case uecc =>
    obtain ⟨u, hu, heq, hbit⟩ := areUecc_reports hr residue
    have hx : ∀ k, u.areXp k = (s.xpError xp false).areXp k := areXp_of_areXps
      ((hu.field State.areXps fun _ => rfl).trans (reformOut_keeps (g := State.areXps) (fun _ _ _ => rfl) _ _))
    have hcount : u.reg (Reg.areXpUecc xp) = bump32 (s.reg (Reg.areXpUecc xp)) :=
      (hu.2 _ (by cases residue <;> simp)).trans
        ((reformOut_keeps (g := fun s => s.reg (Reg.areXpUecc xp)) (fun _ _ _ => rfl) _ _).trans (reg_bump_same _ _))
    refine ⟨_, heq, hcount, ?_, hbit, sameMem_of_mem (exec_mem rfl heq)⟩
    have hev : State.areXp (u.evidence (s.areXp xp).plot) xp = u.areXp xp := rfl
    rw [hev, hx, areXp_xpError, if_pos rfl]; rfl
  case history =>
    have heq : exec (.areHistoryUecc addr) s = .next (s.historyWord (addr / 2) false) := by
      simp only [exec, execAreHistoryUecc, hin]
    obtain ⟨hcount, hbit⟩ := historyWord_counts false hin (fun p' l' j h hj => hsame p' l' j h hj)
    refine ⟨_, heq, ?_, ?_, hcount, hbit, sameMem_of_mem (exec_mem rfl heq)⟩
    · rw [(historyWord_frame s _ false).2, zeroWord_hist, if_pos (.inl rfl)]
    · rw [(historyWord_frame s _ false).2, zeroWord_hist, if_pos (.inr rfl)]
  case noInput => simp only [exec, execAreHistoryUecc, hnone]
  case scrub =>
    have heq := areScrub_eq n coef hist s
    have hmem := exec_mem rfl heq
    obtain ⟨hline, hword, hcecc, hregs, hxps, hhist, hplots, hbank⟩ :=
      scrubbed_frame s n ((s.areLine + 1024) % 2097152) ((s.histWord + 2048) % 2097152)
    generalize s.scrubbed n _ _ = s0 at heq hmem hline hword hcecc hregs hxps hhist hplots hbank
    have h1 := XpErrors.overL scrubLine_errors (s.scrubLines coef) s0
    have h2 := XpErrors.overL scrubHist_errors (s.scrubWords hist) (overL (s.scrubLines coef) State.scrubLine s0)
    have h := h1.trans h2
    refine ⟨_, heq, (h.field State.areLine fun _ => rfl).trans hline, (h.field State.histWord fun _ => rfl).trans hword,
      (h.regs _ not_scrubErrReg_areCecc).trans hcecc, sameMem_of_mem hmem, fun hcoef hhistw => ?_,
      fun e he hlow hhigh q l r o hl hr hreads hoff hlo hhi => ?_, fun w hw hlow hhigh => ?_⟩
    · rw [show s.scrubLines coef = [] from List.filter_eq_nil_iff.mpr fun e he => by have := hcoef e he; simp; omega,
        show s.scrubWords hist = [] from List.filter_eq_nil_iff.mpr fun w hw => by have := hhistw w hw; simp; omega]
      exact ⟨hregs, hxps, hhist⟩
    · have hin : e ∈ s.scrubLines coef := List.mem_filter.mpr ⟨he, by simp [hlow, hhigh]⟩
      refine h2.mark _ (XpErrors.mark_of_mem (s := s0) scrubLine_errors (fun s' hs' => ?_) (.refl _ _) hin)
      refine lineError_marks (q := q) (l := l) ?_ (List.mem_filter.mpr ⟨hr, ?_⟩)
      · have hp : s'.plots = s.plots := (hs'.field State.plots fun _ => rfl).trans hplots
        rw [State.last, plot_of_plots hp]; exact hl
      · simp [hs'.readsBank, hbank, hreads, hoff, hlo, hhi]
    · have hin : w ∈ s.scrubWords hist := List.mem_filter.mpr ⟨hw, by simp [hlow, hhigh]⟩
      exact ⟨scrubHist_zero hin _ (.inl rfl), scrubHist_zero hin _ (.inr rfl)⟩

end Sys2Proof.Machine
end

section
/-!
PROOFS. Writes that wait for a boundary: gains, mutes, laws and generator parameters (02, R73 to R83; 17, R476).
-/
namespace Sys2Proof.Machine

/-! A write that is accepted joins the due ones. -/

/-- A write that joins the due ones changes no register and no unit. -/
theorem dueWrite_accepts {i : Instr} {s : State} {r : Reg} {v : Int} (h : exec i s = .next ((s.dueWrite r v).reply 0)) :
    Runs i s fun t => t.due = s.due ++ [⟨s.actTick, r, v⟩] ∧ t.answer.status = 0 ∧ SameRegs s t [] ∧ t.buses = s.buses ∧
      t.xps = s.xps ∧ SameMem s t :=
  ⟨_, h, rfl, rfl, sameRegs_of_regs rfl _, rfl, rfl, sameMem_of_mem rfl⟩

theorem gainOk_iff (g : Int) : gainOk g = true ↔ -2147483648 ≤ g ∧ g < 2147483648 := by
  simp only [gainOk, Bool.and_eq_true, decide_eq_true_eq]
theorem gainOk_false {g : Int} (h : g < -2147483648 ∨ 2147483648 ≤ g) : gainOk g = false :=
  Bool.eq_false_iff.mpr fun hg => by have := (gainOk_iff g).mp hg; omega

/-! What a write that is due leaves. -/

/-- A state with the registers of another, its due writes and its memory. -/
def SameWrites (s t : State) : Prop := t.regs = s.regs ∧ t.due = s.due ∧ t.timed = s.timed ∧ t.mem = s.mem

namespace SameWrites
variable {s t u : State}
theorem refl (s : State) : SameWrites s s := ⟨rfl, rfl, rfl, rfl⟩
theorem sameRegs (h : SameWrites s t) (l : List Reg) : SameRegs s t l := sameRegs_of_regs h.1 l
theorem rampBus (s : State) (b : Nat) : SameWrites s (s.rampBus b) := by
  unfold State.rampBus; dsimp only; split <;> exact ⟨rfl, rfl, rfl, rfl⟩
theorem rampXp (s : State) (x : Nat) : SameWrites s (s.rampXp x) := by
  unfold State.rampXp; dsimp only; split <;> exact ⟨rfl, rfl, rfl, rfl⟩
theorem trans (h : SameWrites s t) (h' : SameWrites t u) : SameWrites s u := by
  obtain ⟨hr, hd, ht, hm⟩ := h
  obtain ⟨hr', hd', ht', hm'⟩ := h'
  exact ⟨hr'.trans hr, hd'.trans hd, ht'.trans ht, hm'.trans hm⟩
theorem makeGen (s : State) (g : Nat) : SameWrites s (s.makeGen g) := by
  unfold State.makeGen; split <;> exact ⟨rfl, rfl, rfl, rfl⟩
theorem applyGen (s : State) (g : Nat) : SameWrites s (s.applyGen g) := by
  unfold State.applyGen
  extract_lets k ty seed k0 k1
  exact SameWrites.trans (t := s.setGen g _) ⟨rfl, rfl, rfl, rfl⟩ (.makeGen _ g)
end SameWrites

/-- A mix write that takes effect sets its register alone. -/
theorem applyMix_frame (s : State) (r : Reg) (v : Int) : SameWrites (s.setReg r v) (s.applyMix r v) := by
  unfold State.applyMix
  dsimp only
  split
  · exact .applyGen _ _
  · split
    · exact .refl _
    · split
      · exact .rampBus _ _
      · exact .rampXp _ _

theorem applyMix_reg (s : State) (r : Reg) (v : Int) : (s.applyMix r v).reg r = v ∧ SameRegs s (s.applyMix r v) [r] := by
  obtain ⟨hregs, -⟩ := applyMix_frame s r v
  exact ⟨(reg_of_regs hregs r).trans (reg_setReg_same _ _ _), SameRegs.trans (.setReg (by simp) v) (sameRegs_of_regs hregs _)⟩

/-- Is a register a mute: of a bus or of a crosspoint. -/
def isMute (r : Reg) : Bool := (r.idx == 0x4001 || r.idx == 0x4002) && r.sub == 4

theorem isMute_of_mix {r : Reg} (h : isMixReg r = true) : isMute r = true ↔ r.sub = 4 ∧ r.idx ≠ 0x5300 := by
  simp only [isMixReg, Bool.or_eq_true, Bool.and_eq_true, beq_iff_eq, decide_eq_true_eq] at h
  simp only [isMute, Bool.and_eq_true, Bool.or_eq_true, beq_iff_eq]
  omega

/-- A write of a unit that is no longer in the last, by a timed action, changes nothing. -/
theorem applyDueMix_gone {s : State} {all : List Due} {d : Due} (hlast : s.inLast d.reg = false)
    (htimed : ∃ q ∈ s.timed, q.tick = d.tick ∧ q.target = d.reg) : s.applyDueMix all d = s := by
  have hany : (s.timed.any fun x => x.tick == d.tick && x.target == d.reg) = true := by
    obtain ⟨q, hq, htick, htarget⟩ := htimed
    exact List.any_eq_true.mpr ⟨q, hq, by simp [htick, htarget]⟩
  have hgone : (!s.inLast d.reg && s.timed.any fun x => x.tick == d.tick && x.target == d.reg) = true := by
    rw [hlast, hany]; rfl
  exact if_pos hgone

/-- A write whose unit is in the last, or that is no timed action. -/
theorem applyDueMix_eq {s : State} {all : List Due} {d : Due}
    (h : s.inLast d.reg = true ∨ ∀ q ∈ s.timed, q.tick ≠ d.tick ∨ q.target ≠ d.reg) : s.applyDueMix all d =
      let p : Nat := if d.reg.idx = 0x4001 then (s.bus d.reg.unit).plot else (s.xp d.reg.unit).plot
      if isMute d.reg = false then s.applyMix d.reg d.value
      else match stepActs ((all.filter fun e => e.reg == d.reg).map fun e => e.value != 0) with
        | some none => s.discard p d.reg d.tick
        | _ => if d.value = 0 ∧ s.reg d.reg = 0 then s.discard p d.reg d.tick else s.applyMix d.reg d.value := by
  have hgo : ¬((!s.inLast d.reg && s.timed.any fun x => x.tick == d.tick && x.target == d.reg) = true) := by
    rcases h with h | h
    · simp [h]
    · simp only [Bool.and_eq_true, List.any_eq_true, beq_iff_eq, not_and, not_exists]
      exact fun _ q hq htick htarget => (h q hq).elim (· htick) (· htarget)
  simp only [State.applyDueMix, if_neg hgo, Bool.not_eq_true']
  rfl

/-- A write that takes effect leaves the writes that are due. -/
theorem applyDueMix_due (s : State) (all : List Due) (d : Due) : (s.applyDueMix all d).due = s.due := by
  have happly := (applyMix_frame s d.reg d.value).2.1
  unfold State.applyDueMix
  dsimp only
  split
  · rfl
  · split
    · exact happly
    · split
      · rfl
      · split
        · rfl
        · exact happly

/-- The only write that is due to its register: it stands there, or a clearing of what is not muted is discarded. -/
theorem applyDueMix_single {s : State} {d : Due} (hmix : isMixReg d.reg = true)
    (h : s.inLast d.reg = true ∨ ∀ q ∈ s.timed, q.tick ≠ d.tick ∨ q.target ≠ d.reg) :
    ((d.reg.sub ≠ 4 ∨ d.reg.idx = 0x5300 ∨ d.value ≠ 0 ∨ s.reg d.reg ≠ 0) → s.applyDueMix [d] d = s.applyMix d.reg d.value) ∧
    (d.reg.sub = 4 → d.reg.idx ≠ 0x5300 → d.value = 0 → s.reg d.reg = 0 → ∃ p, s.applyDueMix [d] d = s.discard p d.reg d.tick) := by
  have hstep : stepActs (([d].filter fun e => e.reg == d.reg).map fun e => e.value != 0) = some (some (d.value != 0)) := by
    cases hv : d.value != 0 <;> simp [stepActs, hv]
  rw [applyDueMix_eq h, hstep]
  dsimp only
  refine ⟨fun hset => ?_, fun hsub hidx hv hr => ?_⟩
  · by_cases hm : isMute d.reg = true
    · have hne : ¬(d.value = 0 ∧ s.reg d.reg = 0) := by
        obtain ⟨hsub, hidx⟩ := (isMute_of_mix hmix).mp hm
        tauto
      rw [if_neg (by simp [hm]), if_neg hne]
    · rw [if_pos (by simpa using hm)]
  · have hm : isMute d.reg = true := (isMute_of_mix hmix).mpr ⟨hsub, hidx⟩
    rw [if_neg (by simp [hm]), if_pos ⟨hv, hr⟩]; exact ⟨_, rfl⟩

/-- A gain's write that is due and no timed action's. -/
theorem applyDueMix_gain {s : State} {all : List Due} {d : Due} (hmute : isMute d.reg = false) (htimed : s.timed = []) :
    s.applyDueMix all d = s.applyMix d.reg d.value := by
  rw [applyDueMix_eq (.inr (by simp [htimed]))]
  exact if_pos hmute

/-- The writes due at this boundary, and the state without them. -/
def State.dueMix (s : State) : List Due := s.due.filter fun d => isMixReg d.reg && decide (d.tick ≤ s.tick)
def State.takeMix (s : State) : State :=
  { s with due := s.due.filter fun d => !(isMixReg d.reg && decide (d.tick ≤ s.tick)) }
theorem mixWriteApply_eq (s : State) : exec .mixWriteApply s =
    .next (overL s.dueMix (fun t d => t.applyDueMix s.dueMix d) s.takeMix) := rfl

/-- Settles O19: requests join the due writes; what is due stands in its register, by the kinds of write. -/
theorem mixWritesWaitForTheirBoundary : Obligations.MixWritesWaitForTheirBoundary := by
  intro p b x gain mute law s
  refine ⟨fun hb => ⟨fun hlo hhi => ?busGain, fun hout => ?busGainRange, ?busMute, fun hlaw => ?busAuto, fun hlaw => ?busAutoRange⟩,
    fun hb => ⟨?b1, ?b2, ?b3⟩, fun hx => ⟨fun hlo hhi => ?xpGain, fun hout => ?xpGainRange, ?xpMute⟩, fun hx => ⟨?x1, ?x2⟩,
    fun d hd => ?one, fun d e hde htimed hreg hgain => ?two, fun hnone => ?none⟩
  case busGain =>
    obtain ⟨t, ht, hdue, hans, hregs, hbuses, -, hmem⟩ := dueWrite_accepts (i := .busGain p b gain) (s := s)
      (r := Reg.busGain b) (v := gain) (by simp only [exec, execBusGain, hb, (gainOk_iff gain).mpr ⟨hlo, hhi⟩]; rfl)
    exact ⟨t, ht, hdue, hans, hregs, hbuses, hmem⟩
  case busGainRange => simp only [Answers, exec, execBusGain, hb, gainOk_false hout]; rfl
  case busMute =>
    obtain ⟨t, ht, hdue, hans, hregs, hbuses, -, hmem⟩ := dueWrite_accepts (i := .busMute p b mute) (s := s)
      (r := Reg.busMute b) (v := if mute then 1 else 0) (by simp only [exec, execBusMute, hb]; rfl)
    exact ⟨t, ht, hdue, hans, hregs, hbuses, hmem⟩
  case busAuto =>
    obtain ⟨t, ht, hdue, hans, hregs, hbuses, -, hmem⟩ := dueWrite_accepts (i := .busAuto p b law) (s := s)
      (r := Reg.busAuto b) (v := law) (by simp only [exec, execBusAuto, hb, if_neg (by omega : ¬law > 2)]; rfl)
    exact ⟨t, ht, hdue, hans, hregs, hbuses, hmem⟩
  case busAutoRange => simp only [Answers, exec, execBusAuto, hb, if_pos (show law > 2 from hlaw)]; rfl
  case b1 => simp only [Answers, exec, execBusGain, hb]; rfl
  case b2 => simp only [Answers, exec, execBusMute, hb]; rfl
  case b3 => simp only [Answers, exec, execBusAuto, hb]; rfl
  case xpGain =>
    obtain ⟨t, ht, hdue, hans, hregs, -, hxps, hmem⟩ := dueWrite_accepts (i := .xpGain p x gain) (s := s)
      (r := Reg.xpGain x) (v := gain) (by simp only [exec, execXpGain, hx, (gainOk_iff gain).mpr ⟨hlo, hhi⟩]; rfl)
    exact ⟨t, ht, hdue, hans, hregs, hxps, hmem⟩
  case xpGainRange => simp only [Answers, exec, execXpGain, hx, gainOk_false hout]; rfl
  case xpMute =>
    obtain ⟨t, ht, hdue, hans, hregs, -, hxps, hmem⟩ := dueWrite_accepts (i := .xpMute p x mute) (s := s)
      (r := Reg.xpMute x) (v := if mute then 1 else 0) (by simp only [exec, execXpMute, hx]; rfl)
    exact ⟨t, ht, hdue, hans, hregs, hxps, hmem⟩
  case x1 => simp only [Answers, exec, execXpGain, hx]; rfl
  case x2 => simp only [Answers, exec, execXpMute, hx]; rfl
  case one =>
    have hmix : isMixReg d.reg = true := by
      have hmem : d ∈ s.due.filter fun e => isMixReg e.reg && decide (e.tick ≤ s.tick) := by rw [hd]; exact List.mem_singleton_self d
      exact (Bool.and_eq_true_iff.mp (List.mem_filter.mp hmem).2).1
    have heq : exec .mixWriteApply s = .next (s.takeMix.applyDueMix [d] d) := by
      rw [mixWriteApply_eq, show s.dueMix = [d] from hd]; rfl
    have hregs : SameRegs s s.takeMix [] := sameRegs_of_regs rfl _
    refine ⟨_, heq, applyDueMix_due _ _ _, sameMem_of_mem (exec_mem rfl heq), fun h => ?_, fun hlast htimed => ?_⟩
    · obtain ⟨hset, hclear⟩ := applyDueMix_single (s := s.takeMix) hmix h
      refine ⟨fun hs => ?_, fun hsub hidx hv hr => ?_⟩
      · rw [hset hs]
        exact ⟨(applyMix_reg _ _ _).1, (applyMix_reg _ _ _).2⟩
      · obtain ⟨q, hq⟩ := hclear hsub hidx hv hr
        rw [hq]; exact sameRegs_of_regs rfl _
    · rw [applyDueMix_gone (s := s.takeMix) hlast htimed]; exact hregs
  case two =>
    have hmute : isMute e.reg = false := by rcases hgain with h | h <;> rw [h] <;> rfl
    have heq : exec .mixWriteApply s = .next ((s.takeMix.applyDueMix [d, e] d).applyDueMix [d, e] e) := by
      rw [mixWriteApply_eq, show s.dueMix = [d, e] from hde]; rfl
    have hd : s.takeMix.applyDueMix [d, e] d = s.takeMix.applyMix d.reg d.value :=
      applyDueMix_gain (hreg ▸ hmute) htimed
    have htimed' : (s.takeMix.applyMix d.reg d.value).timed = [] := (applyMix_frame _ _ _).2.2.1.trans htimed
    have hboth := heq
    rw [hd, applyDueMix_gain hmute htimed', hreg] at hboth
    obtain ⟨-, hregs⟩ := applyMix_reg s.takeMix e.reg d.value
    obtain ⟨hval, hregs'⟩ := applyMix_reg (s.takeMix.applyMix e.reg d.value) e.reg e.value
    exact ⟨_, hboth, hval, hregs.trans hregs', sameMem_of_mem (exec_mem rfl hboth)⟩
  case none =>
    have hrest : s.takeMix = s := by
      have hall : (s.due.filter fun d => !(isMixReg d.reg && decide (d.tick ≤ s.tick))) = s.due :=
        List.filter_eq_self.mpr fun d hd => by rw [Bool.eq_false_iff.mpr (List.filter_eq_nil_iff.mp hnone d hd)]; rfl
      unfold State.takeMix
      rw [hall]
    rw [mixWriteApply_eq, show s.dueMix = [] from hnone, hrest]; rfl

end Sys2Proof.Machine
end

section
/-!
PROOFS. Silence detectors, general generators and rate trackers (02, R82, R83, R85, R88).
-/
namespace Sys2Proof.Machine

/-- Registers of a list are written, and no other. -/
theorem Reports.setRegs {s : State} {l : List Reg} {v : List (Reg × Int)} (h : ∀ e ∈ v, e.1 ∈ l) : Reports s (s.setRegs v) l := by
  induction v generalizing s with
  | nil => exact .refl s l
  | cons e v ih => exact (Reports.setReg (h e List.mem_cons_self) e.2).trans (ih fun e' he' => h e' (List.mem_cons_of_mem _ he'))

/-- A register that a command writes alone. -/
theorem setReg_runs {i : Instr} {s : State} {r : Reg} {v : Int} (h : exec i s = .next (s.setReg r v)) :
    Runs i s fun t => t.reg r = v ∧ SameRegs s t [r] ∧ t.units = s.units :=
  ⟨_, h, reg_setReg_same _ _ _, .setReg (by simp) _, rfl⟩

theorem dueWrite_due (s : State) (r : Reg) (v : Int) : (s.dueWrite r v).due = s.due ++ [⟨s.actTick, r, v⟩] := rfl
@[simp] theorem dueWrite_gens (s : State) (r : Reg) (v : Int) : (s.dueWrite r v).gens = s.gens := rfl
@[simp] theorem dueWrite_actTick (s : State) (r : Reg) (v : Int) : (s.dueWrite r v).actTick = s.actTick := rfl

/-! Silence detectors (R82). -/

section
variable {p : Fin 16} {d : Fin 8192} {sig : Nat} {thresh : Int} {hold : Nat} {s : State}

/-- Parameters of a detector out of range, or a signal that does not exist. -/
def silBad (sig : Nat) (thresh : Int) (hold : Nat) : Prop :=
  thresh < -14400 ∨ thresh > 0 ∨ hold < 1 ∨ hold > 480000 ∨ sig / 131072 % 16384 ≠ 0 ∨ (sig < 2147483648 ∧ !sigValid sig)

theorem silSignal_bad (hd : d.val / 512 = p.val) (hbad : silBad sig thresh hold) :
    Answers (.silSignal p d sig thresh hold) s 0x13 := by
  unfold silBad at hbad
  simp only [Answers, exec, execSilSignal, if_neg (not_not.mpr hd), if_pos hbad]

theorem silSignal_good (hd : d.val / 512 = p.val) (hgood : ¬silBad sig thresh hold) :
    exec (.silSignal p d sig thresh hold) s =
      if sig < 2147483648 ∧ s.sigOwner sig ≠ some p.val then .next (s.reply 0x11)
      else .next (({ s with sils := NTable.put {} s.sils d {} }.setRegs [(Reg.silSignal d, (sig : Int)),
        (Reg.silThresh d, thresh), (Reg.silHold d, hold), (Reg.silState d, 0)]).reply 0) := by
  unfold silBad at hgood
  simp only [exec, execSilSignal, if_neg (not_not.mpr hd), if_neg hgood]

/-- A detector that is set: its registers, and its count restarted. -/
theorem silSignal_sets (h : exec (.silSignal p d sig thresh hold) s =
    .next (({ s with sils := NTable.put {} s.sils d {} }.setRegs [(Reg.silSignal d, (sig : Int)),
      (Reg.silThresh d, thresh), (Reg.silHold d, hold), (Reg.silState d, 0)]).reply 0)) :
    Runs (.silSignal p d sig thresh hold) s fun t =>
      t.reg (Reg.silSignal d) = sig ∧ t.reg (Reg.silThresh d) = thresh ∧ t.reg (Reg.silHold d) = hold ∧
      t.reg (Reg.silState d) = 0 ∧ (NTable.get {} t.sils d : SilSt) = {} ∧ t.answer.status = 0 ∧
      SameRegs s t [Reg.silSignal d, Reg.silThresh d, Reg.silHold d, Reg.silState d] ∧ SameMem s t := by
  have hrep := (Reports.setRegs (s := { s with sils := NTable.put {} s.sils d {} })
    (l := [Reg.silSignal d, Reg.silThresh d, Reg.silHold d, Reg.silState d]) (v := [(Reg.silSignal d, (sig : Int)),
      (Reg.silThresh d, thresh), (Reg.silHold d, hold), (Reg.silState d, 0)]) (by simp)).trans (.reply _ 0 _)
  have hsils := hrep.field State.sils fun _ => rfl
  refine ⟨_, h, ?_, ?_, ?_, ?_, ?_, rfl, ?_, sameMem_of_mem (hrep.mem.trans rfl)⟩
  · simp [State.setRegs, reg_setReg]
  · simp [State.setRegs, reg_setReg]
  · simp [State.setRegs, reg_setReg]
  · simp [State.setRegs]
  · rw [hsils]; exact NTable.get_put_same {} s.sils d.val {}
  · exact SameRegs.trans (sameRegs_of_regs rfl _) hrep.2

end

/-! Trackers (R85, R88). -/

section
variable (s : State) (k : Nat)

@[simp] theorem tracker_setTracker_same (v : TrackerSt) : (s.setTracker k v).tracker k = v := NTable.get_put_same _ _ _ _

/-- A tracker that locks: its registers and the ratio that it holds. -/
theorem trackerLocked_frame (rate : Nat) (ppb : Int) : (s.trackerLocked k rate ppb).reg (Reg.trkState k) = 2 ∧
    (s.trackerLocked k rate ppb).reg (Reg.trkRate k) = rate ∧ (s.trackerLocked k rate ppb).reg (Reg.trkPpb k) = ppb ∧
    ((s.trackerLocked k rate ppb).tracker k).heldPpb = ppb ∧
    SameRegs s (s.trackerLocked k rate ppb) [Reg.trkState k, Reg.trkRate k, Reg.trkPpb k] ∧
    SameMem s (s.trackerLocked k rate ppb) := by
  have hrep := Reports.setRegs (s := s.setTracker k { s.tracker k with rampPos := 0, down := false, heldPpb := ppb })
    (l := [Reg.trkState k, Reg.trkRate k, Reg.trkPpb k])
    (v := [(Reg.trkState k, 2), (Reg.trkRate k, (rate : Int)), (Reg.trkPpb k, ppb)]) (by simp)
  unfold State.trackerLocked
  refine ⟨?_, ?_, ?_, ?_, ?_, sameMem_of_mem (hrep.mem.trans rfl)⟩
  · simp [State.setRegs, reg_setReg]
  · simp [State.setRegs, reg_setReg]
  · simp [State.setRegs]
  · have htr := hrep.field State.trackers fun _ => rfl
    rw [State.tracker, htr]
    exact congrArg TrackerSt.heldPpb (tracker_setTracker_same s k _)
  · exact SameRegs.trans (sameRegs_of_regs rfl _) hrep.2

/-- A tracker that loses its input or its buffer: the state, a counted event and the plot's fault bit 7. -/
theorem trackerLoss_frame (state : Nat) : (s.trackerLoss k state).reg (Reg.trkState k) = state ∧
    (s.trackerLoss k state).reg (Reg.trkEvents k) = bump32 (s.reg (Reg.trkEvents k)) ∧
    bit ((s.trackerLoss k state).reg (Reg.plotFault (trackerPlot k))) 7 = true ∧ SameMem s (s.trackerLoss k state) := by
  have hbit : bit ((s.trackerLoss k state).reg (Reg.plotFault (trackerPlot k))) 7 = true := bit_plotFault ..
  have hmem : (s.trackerLoss k state).mem = s.mem := mem_of_keeps fun _ => keeps_trackerLoss s k state
  refine ⟨?_, ?_, hbit, sameMem_of_mem hmem⟩
  all_goals
    unfold State.trackerLoss
    dsimp only
    rw [(((Reports.logEvent _ _ _ _ _ _ [Reg.plotFault (trackerPlot k), Reg.notifyDropped]).trans
      (.notifyPlot (by simp) _ _ _)).trans (.plotFault (by simp) (by simp) 7)).2 _ (by simp)]
  · rw [reg_bump_other _ _ _ (by simp)]; exact reg_setReg_same _ _ _
  · rw [reg_bump_same, reg_setReg_other _ _ _ _ (by simp)]; rfl

end

/-- Settles O20: detectors, generators and trackers by what each request or event writes. -/
theorem detectorsGeneratorsAndTrackers : Obligations.DetectorsGeneratorsAndTrackers := by
  intro p s
  refine ⟨fun d sig thresh hold hd => ⟨fun h1 h2 h3 h4 h5 => ⟨fun hsig => ?sil, fun hlow hvalid howner => ?silForeign⟩,
      fun hbad => silSignal_bad hd (by simpa only [silBad, gt_iff_lt, Bool.not_eq_true'] using hbad)⟩,
    fun d sig thresh hold hd => ?silAccess, fun d => ⟨fun hsig hhold => ?expire, fun h => ?quiet⟩,
    fun g ty freq level seed => ⟨fun hg => ⟨fun h1 h2 h3 h4 h5 h6 => ?gen, fun hbad => ?genRange⟩, fun hg => ?genAccess⟩,
    fun k rate ppb => ⟨fun h => ?lock, fun h => ?lockNot, fun h => ?lost, fun h => ?resync, fun h => ⟨?lostNot, ?resyncNot⟩,
      fun h => ?centred, fun h => ?centredNot, fun h hnear => ?returns, fun h hfar => ?acquires, fun h => ?returnsNot⟩⟩
  case sil =>
    have hgood : ¬silBad sig thresh hold := by
      unfold silBad
      rintro (h | h | h | h | h | ⟨h, hv⟩)
      any_goals omega
      rcases hsig with hsig | ⟨hsig, -⟩
      · omega
      · simp [hsig] at hv
    refine silSignal_sets ((silSignal_good hd hgood).trans (if_neg fun h => ?_))
    rcases hsig with hsig | ⟨-, hsig⟩
    · exact absurd h.1 (by omega)
    · exact h.2 hsig
  case silForeign =>
    have hgood : ¬silBad sig thresh hold := by
      unfold silBad
      rintro (h | h | h | h | h | ⟨h, hv⟩)
      any_goals omega
      simp [hvalid] at hv
    exact (silSignal_good hd hgood).trans (if_pos ⟨hlow, howner⟩)
  case silAccess => simp only [Answers, exec, execSilSignal, if_pos hd]
  case expire => exact setReg_runs (if_pos ⟨hsig, hhold⟩)
  case quiet => exact if_neg fun hn => by have := hn.1; have := hn.2; omega
  case gen =>
    have hgood : ¬(ty > 2 ∨ freq < 1 ∨ freq > 500 * (s.plotMult p * Config.baseRate s.family) ∨ level < -14400 ∨ level > 0 ∨
        seed ≥ 4294967296) := by omega
    have heq : exec (.genType p g ty freq level seed) s = .next (((((s.dueWrite (Reg.genFreq g) freq).dueWrite
        (Reg.genLevel g) level).dueWrite (Reg.genSeed g) seed).dueWrite (Reg.genType g) ty).reply 0) := by
      simp only [exec, execGenType, hg, Bool.not_true, Bool.false_eq_true, if_false, if_neg hgood]
    refine ⟨_, heq, ?_, rfl, sameRegs_of_regs ?_ _, ?_, sameMem_of_mem (exec_mem rfl heq)⟩
    · simp [dueWrite_due]
    · simp
    · simp
  case genRange =>
    have hbad' : ty > 2 ∨ freq < 1 ∨ freq > 500 * (s.plotMult p * Config.baseRate s.family) ∨ level < -14400 ∨ level > 0 ∨
        seed ≥ 4294967296 := hbad
    simp only [Answers, exec, execGenType, hg, Bool.not_true, Bool.false_eq_true, if_false, if_pos hbad']
  case genAccess => simp only [Answers, exec, execGenType, hg, Bool.not_false, if_true]
  case lock =>
    obtain ⟨h1, h2, h3, h4, h5, h6⟩ := trackerLocked_frame s k rate ppb
    exact ⟨_, if_pos h, h1, h2, h3, h4, h5, h6⟩
  case lockNot => exact if_neg h
  case lost => exact ⟨_, if_pos h, trackerLoss_frame s k 3⟩
  case resync => exact ⟨_, if_pos h, trackerLoss_frame s k 4⟩
  case lostNot => exact if_neg h
  case resyncNot => exact if_neg h
  case centred => exact setReg_runs (if_pos h)
  case centredNot => exact if_neg h
  case returns =>
    obtain ⟨h1, -, h3, -, h5, h6⟩ := trackerLocked_frame s k rate ppb
    exact ⟨_, (if_neg (not_not.mpr h)).trans (if_pos (by rw [Int.abs_eq_natAbs] at hnear; omega)), h1, h3, h5, h6⟩
  case acquires =>
    refine ⟨_, (if_neg (not_not.mpr h)).trans (if_neg (by rw [Int.abs_eq_natAbs] at hfar; omega)), ?_, ?_, ?_, sameMem_of_mem rfl⟩
    · simp [State.setRegs, reg_setReg]
    · simp [State.setRegs, reg_setReg]
    · exact SameRegs.trans (.setReg (by simp) _) (Reports.setRegs (by simp)).2
  case returnsNot => exact if_pos h

end Sys2Proof.Machine
end

section
/-!
PROOFS. DMA windows: what a window moves, and its failure (15, R426 to R430).
-/
namespace Sys2Proof.Machine

/-! Stores one byte after another. -/

/-- Bytes stored one by one from an address on. -/
theorem byte_putEach {f : State → Byte × Nat → State} {a : Nat}
    (hf : ∀ s e x, (f s e).byte x = if x = a + e.2 then e.1 else s.byte x) (b : List Byte) (k : Nat) (s : State) (x : Nat) :
    (overL (b.zipIdx k) f s).byte x =
      if a + k ≤ x ∧ x < a + k + b.length then b.getD (x - (a + k)) 0 else s.byte x := by
  induction b generalizing k s with
  | nil => rw [if_neg (by simp only [List.length_nil]; omega)]; rfl
  | cons v b ih =>
    refine (ih (k + 1) (f s (v, k))).trans ?_
    rw [hf]
    rcases Nat.lt_trichotomy x (a + k) with h | rfl | h
    · rw [if_neg (by omega), if_neg (by omega), if_neg (by omega)]
    · rw [if_neg (by omega), if_pos rfl, if_pos (by simp), Nat.sub_self]; rfl
    · obtain ⟨d, rfl⟩ := Nat.exists_eq_add_of_lt h
      simp only [List.length_cons]
      by_cases hin : d < b.length
      · rw [if_pos (by omega), if_pos (by omega), show a + k + d + 1 - (a + (k + 1)) = d by omega,
          show a + k + d + 1 - (a + k) = d + 1 by omega]
        rfl
      · rw [if_neg (by omega), if_neg (by omega), if_neg (by omega)]

/-- One byte stored. -/
theorem byte_store_one (s : State) (a : Nat) (v : Byte) (x : Nat) :
    (s.store a [v]).byte x = if x = a then v else s.byte x := by
  rw [byte_store]
  by_cases h : x = a
  · rw [if_pos ⟨by omega, by simp [h]⟩, if_pos h, h, Nat.sub_self]; rfl
  · rw [if_neg (by simp only [List.length_singleton]; omega), if_neg h]

theorem byte_dmaStore (s : State) (own a start rate : Nat) (b : List Byte) (x : Nat) :
    (s.dmaStore own a start rate b).byte x = (s.store a b).byte x := by
  simp only [State.dmaStore, byte_store]; rfl

/-! What a window moves. -/

@[simp] theorem length_zeroBeats (failed : List Nat) (b : List Byte) : (zeroBeats failed b).length = b.length := by
  simp [zeroBeats]
@[simp] theorem length_bytes (s : State) (a n : Nat) : (s.bytes a n).length = n := by simp [State.bytes]
@[simp] theorem length_padTo (n : Nat) (b : List Sample) : (padTo n b).length = n := by simp [padTo]
@[simp] theorem length_blockBytes (b : List Sample) : (blockBytes b).length = 4 * b.length := by
  induction b with
  | nil => rfl
  | cons x b ih =>
    have hx : (leBytesI 4 x).length = 4 := length_leBytes 4 _
    rw [show blockBytes (x :: b) = leBytesI 4 x ++ blockBytes b from rfl, List.length_append, hx, ih, List.length_cons]; omega

/-- A window that moves its bytes changes memory, cores and a source block alone. -/
theorem moveWindow_keeps {α : Type} {g : State → α} (hstore : ∀ s a b, g (State.store s a b) = g s)
    (hcore : ∀ s c f, g (State.modCore s c f) = g s) (hsrc : ∀ s x b, g (State.setSource s x b) = g s) (s : State) (p : Nat)
    (w : DmaWin) (failed : List Nat) : g (s.moveWindow p w failed) = g s := by
  have hdma : ∀ s own a start rate b, g (State.dmaStore s own a start rate b) = g s := fun s own a start rate b =>
    (hstore _ _ _).trans (hcore _ _ _)
  unfold State.moveWindow
  dsimp only
  split
  · exact hdma _ _ _ _ _ _
  · split
    · exact hsrc _ _ _
    · split
      · exact overL_keeps (g := g) _ s fun s e _ => hdma _ _ _ _ _ _
      · exact overL_keeps (g := g) _ s fun s e _ => hstore _ _ _

/-- A window into near memory stores its bytes there. -/
theorem moveWindow_in {s : State} {p : Nat} {w : DmaWin} {failed : List Nat} (hdir : w.dir = 0) {b : List Byte}
    (hb : (if w.signal then blockBytes (padTo (w.length / 4) (s.sinkBlock p w.sig))
      else (List.range w.length).map fun i => s.byte (w.farAt s.tick i)) = b) (x : Nat) :
    (s.moveWindow p w failed).byte x = (s.store (nearAddr w.core w.near) (zeroBeats failed b)).byte x := by
  unfold State.moveWindow
  simp only [if_pos hdir, hb]
  exact byte_dmaStore ..

/-- A window out of near memory, without wrap, stores its bytes one after another. -/
theorem moveWindow_out {s : State} {p : Nat} {w : DmaWin} {failed : List Nat} (hdir : w.dir = 1) (hsig : w.signal = false)
    (hwrap : w.wrap = 0) (x : Nat) : (s.moveWindow p w failed).byte x =
      (s.store w.far (zeroBeats failed (s.bytes (nearAddr w.core w.near) w.length))).byte x := by
  have hfar : ∀ n i, w.farAt n i = w.far + i := fun n i => if_pos hwrap
  have hdma : ∀ (s : State) (e : Byte × Nat) x, (s.dmaStore (clusterOwner w.port (w.farAt s.tick e.2)) (w.farAt s.tick e.2)
      (w.writes + e.2 / w.rate) w.rate [e.1]).byte x = if x = w.far + e.2 then e.1 else s.byte x := fun s e x => by
    rw [byte_dmaStore, byte_store_one, hfar]
  have hone : ∀ (s : State) (e : Byte × Nat) x, (s.store (w.farAt s.tick e.2) [e.1]).byte x =
      if x = w.far + e.2 then e.1 else s.byte x := fun s e x => by rw [byte_store_one, hfar]
  unfold State.moveWindow
  simp only [if_neg (show ¬w.dir = 0 by omega), hsig, Bool.false_eq_true, if_false]
  rw [byte_store]
  split
  · exact byte_putEach hdma _ 0 s x
  · exact byte_putEach hone _ 0 s x

/-- A window out of near memory to a signal gives it the block, where its task neither overran nor ramps up. -/
theorem moveWindow_signal {s : State} {p : Nat} {w : DmaWin} {failed : List Nat} (hdir : w.dir = 1) (hsig : w.signal = true)
    (hover : (s.task p w.task).overran = false) (hramp : (s.task p w.task).rampUp = false) :
    s.moveWindow p w failed =
      s.setSource w.sig (bytesBlock (zeroBeats failed (s.bytes (nearAddr w.core w.near) w.length))) := by
  unfold State.moveWindow
  simp only [if_neg (show ¬w.dir = 0 by omega), hsig, hover, hramp, if_true, Bool.false_eq_true, if_false, Bool.false_and]

/-! A failed window (R430). -/

/-- The state but for its reports, plots, tasks and evidence. -/
def State.calm (s : State) : State := { s.quiet with plots := [], tasks := [], pair := {} }

theorem Reports.calm {s t : State} {l : List Reg} (h : Reports s t l) : t.calm = s.calm :=
  congrArg (fun s : State => { s with plots := [], tasks := [], pair := {} }) h.1
theorem setReg_calm (s : State) (r : Reg) (v : Int) : (s.setReg r v).calm = s.calm := rfl
theorem bump_calm (s : State) (r : Reg) : (s.bump r).calm = s.calm := rfl
theorem modPlot_calm (s : State) (p : Nat) (f : PlotSt → PlotSt) : (s.modPlot p f).calm = s.calm := rfl
theorem evidence_calm (s : State) (p : Nat) : (s.evidence p).calm = s.calm := rfl

theorem countOverrun_calm (s : State) (p core id : Nat) : (s.countOverrun p core id).calm = s.calm := by
  have hfault : ∀ s : State, (s.plotFault p 0).calm = s.calm := fun s =>
    (Reports.plotFault (l := [Reg.plotFault p, Reg.notifyDropped]) (by simp) (by simp) 0).calm
  unfold State.countOverrun
  extract_lets t s1
  have h1 : s1.calm = s.calm := by rw [hfault, modPlot_calm, setReg_calm, setReg_calm, bump_calm]
  clear_value s1
  split
  · exact h1
  · exact h1

/-- The registers that a failed window changes. -/
def failRegs (p : Nat) (w : DmaWin) : List Reg := Reg.dmaFail p w.win :: ovrRegs p

/-- A failed window is counted, and an overrun of the task that writes to it. -/
theorem windowFail_frame (s : State) (p : Nat) (w : DmaWin) : (s.windowFail p w).calm = s.calm ∧
    (s.windowFail p w).reg (Reg.dmaFail p w.win) = bump32 (s.reg (Reg.dmaFail p w.win)) ∧
    SameRegs s (s.windowFail p w) (failRegs p w) := by
  have hbump : SameRegs s (s.bump (Reg.dmaFail p w.win)) (failRegs p w) := .setReg (by simp [failRegs]) _
  unfold State.windowFail
  dsimp only
  split
  · exact ⟨rfl, reg_bump_same _ _, .trans hbump (sameRegs_of_regs rfl _)⟩
  · obtain ⟨-, -, hregs⟩ := countOverrun_frame (s.bump (Reg.dmaFail p w.win)) p w.core w.task
    refine ⟨(countOverrun_calm _ _ _ _).trans rfl, ?_, .trans hbump (hregs.mono (by simp [failRegs]))⟩
    exact (hregs _ (by simp [ovrRegs])).trans (reg_bump_same _ _)

theorem calm_field {s t : State} {α : Type} (h : t.calm = s.calm) (g : State → α) (hg : ∀ s, g s.calm = g s) : g t = g s :=
  (hg t).symm.trans ((congrArg g h).trans (hg s))

/-- What follows a window that has moved: its failure, where beats failed or a parity error stands. -/
def State.windowEnd (s : State) (p : Nat) (w : DmaWin) (failed : List Nat) (parity : Bool) : State :=
  let s3 := if failed = [] ∧ !parity then s else s.windowFail p w
  if parity then (s3.bump Reg.trlParity).evidence 16 else s3

theorem windowEnd_frame (s : State) (p : Nat) (w : DmaWin) (failed : List Nat) (parity : Bool) :
    (s.windowEnd p w failed parity).calm = s.calm ∧
    SameRegs s (s.windowEnd p w failed parity) (Reg.trlParity :: failRegs p w) ∧
    (failed = [] → parity = false → s.windowEnd p w failed parity = s) ∧
    (failed ≠ [] ∨ parity = true → (s.windowEnd p w failed parity).reg (Reg.dmaFail p w.win) =
      bump32 (s.reg (Reg.dmaFail p w.win))) := by
  obtain ⟨hcalm, hcount, hregs⟩ := windowFail_frame s p w
  have hregs' := hregs.mono (List.subset_cons_self Reg.trlParity _)
  cases parity with
  | false =>
    by_cases hf : failed = []
    · have h : s.windowEnd p w failed false = s := if_pos ⟨hf, rfl⟩
      rw [h]
      exact ⟨rfl, .refl _ _, fun _ _ => rfl, fun hn => by simp [hf] at hn⟩
    · have h : s.windowEnd p w failed false = s.windowFail p w := if_neg fun hn => hf hn.1
      rw [h]
      exact ⟨hcalm, hregs', fun hn => absurd hn hf, fun _ => hcount⟩
  | true =>
    have h : s.windowEnd p w failed true = ((s.windowFail p w).bump Reg.trlParity).evidence 16 := by
      have hn : ¬(failed = [] ∧ (!true) = true) := fun hn => by simp at hn
      unfold State.windowEnd
      simp only [if_neg hn, if_true]
    rw [h]
    refine ⟨(evidence_calm _ _).trans hcalm, .trans hregs' (.trans (.setReg (by simp) _) (sameRegs_of_regs rfl _)),
      fun _ hp => by simp at hp, fun _ => ?_⟩
    exact (reg_of_regs rfl _).trans ((reg_bump_other _ _ _ (by simp; omega)).trans hcount)

/-! An occurrence of a window. -/

/-- Two states alike in registers and holdings, from which rates and domains of units follow. -/
structure SameUnits (s t : State) : Prop where
  regs : t.regs = s.regs
  holdings : t.holdings = s.holdings

namespace SameUnits
variable {s t : State} (h : SameUnits s t)
include h

theorem nat (r : Reg) : t.nat r = s.nat r := by simp only [State.nat, State.reg, h.regs]
theorem holder (k u i : Nat) : t.holder k u i = s.holder k u i := by simp only [State.holder, h.holdings]
theorem sapSplit (n : Nat) : t.sapSplit n = s.sapSplit n := by simp only [State.sapSplit, State.reg, h.regs]
theorem multOf (hz : Nat) : t.multOf hz = s.multOf hz := by unfold State.multOf State.family; rw [h.nat]
theorem rxOf (i : Nat) : t.rxOf i = s.rxOf i := by unfold State.rxOf; simp only [h.nat, h.holder]
theorem txOf (i : Nat) : t.txOf i = s.txOf i := by unfold State.txOf; simp only [h.nat, h.holder]
theorem sapIn (i : Nat) : t.sapIn i = s.sapIn i := by simp only [State.sapIn, h.sapSplit]
theorem sapOut (i : Nat) : t.sapOut i = s.sapOut i := by simp only [State.sapOut, h.sapSplit]
theorem sapHz (i : Nat) : t.sapHz i = s.sapHz i := by simp only [State.sapHz, h.nat]
theorem streamMult (r d : Nat) : t.streamMult r d = s.streamMult r d := by
  simp only [State.streamMult, h.multOf, h.nat]
theorem unitDomain (x : SigId) : t.unitDomain x = s.unitDomain x := by
  simp only [State.unitDomain, h.nat, h.sapIn, h.sapOut, h.rxOf, h.txOf]
theorem farHz (x : SigId) : t.farHz x = s.farHz x := by
  simp only [State.farHz, h.nat, h.sapHz, h.sapIn, h.sapOut, h.rxOf, h.txOf]
theorem farMult (x : SigId) : t.farMult x = s.farMult x := by
  simp only [State.farMult, h.streamMult, h.farHz, h.unitDomain]
theorem freeSink (x : SigId) : t.freeSink x = s.freeSink x := by simp only [State.freeSink, h.unitDomain]
theorem sigMult (l : Last) (x : SigId) (b : Bool) : t.sigMult l x b = s.sigMult l x b := by
  simp only [State.sigMult, h.multOf, h.nat, h.sapIn, h.sapOut, h.rxOf, h.txOf]

end SameUnits

/-- Two states alike in what signals follow from. -/
structure SameSignals (s t : State) : Prop extends SameUnits s t where
  plots : t.plots = s.plots
  tick : t.tick = s.tick
  sinks : t.sinks = s.sinks
  src : t.src = s.src
  prev : t.prev = s.prev

namespace SameSignals
variable {s t : State} (h : SameSignals s t)
include h

theorem plot (p : Nat) : t.plot p = s.plot p := plot_of_plots h.plots p
theorem sinkLen (p : Nat) (x : SigId) : t.sinkLen p x = s.sinkLen p x := by
  simp only [State.sinkLen, State.routeOf, State.last, h.plot, h.farMult, h.freeSink, h.sigMult]
theorem rampsAway (p : Nat) (x : SigId) : t.rampsAway p x = s.rampsAway p x := by
  have hswap : t.swapNext p = s.swapNext p := by unfold State.swapNext; rw [h.nat, h.nat, h.tick, h.plot]
  simp only [State.rampsAway, State.routeOf, State.last, h.plot, hswap]
theorem source : t.source = s.source := by
  funext x d; simp only [State.source, h.src, h.prev]
theorem sinkTake (p : Nat) (x : SigId) (i n k : Nat) (get : SigId → Bool → List Sample) :
    t.sinkTake p x i n k get = s.sinkTake p x i n k get := by
  simp only [State.sinkTake, State.routeOf, State.sinkSt, h.plot, h.sinks, h.rampsAway]
theorem sinkBlock (p : Nat) (x : SigId) : t.sinkBlock p x = s.sinkBlock p x := by
  simp only [State.sinkBlock, h.sinkLen, h.sinkTake, h.source]

end SameSignals

/-- The tick does not follow from leftover traffic and work. -/
theorem tick_advanced (s : State) (e c : Nat) : ((s.trellisTo e).advanceTo c).tick = s.tick := by
  have hclosed : Closed fun _ _ k => k = s.tick := ⟨fun _ _ _ h => h, fun _ _ _ _ _ h => h, fun _ _ _ _ h => h⟩
  exact keeps_advanceTo (P := fun _ _ k => k = s.tick) _ c (keeps_trellisTo hclosed s e rfl)

section
variable {p : Fin 16} {win : Fin 256} {w : DmaWin} {failed : List Nat} {parity : Bool} {s : State}

/-- The window's mark that it has run. -/
def State.ranWindow (s : State) (key : Nat) (k : WinSt) : State := { s with wins := NTable.put {} s.wins key { k with ran := true } }
/-- A window's run from a state in which it has begun. -/
def State.runWindow (s : State) (p win : Nat) (w : DmaWin) (failed : List Nat) (parity : Bool) : State :=
  ((s.moveWindow p w failed).bump (Reg.dmaRuns p win)).windowEnd p w failed parity

theorem dmaWindowRun_done (hw : ((s.last p).bind fun l => l.windows.find? fun w => decide (w.win = win.val)) = some w)
    (hran : (NTable.get {} s.wins (p.val * 1024 + win.val) : WinSt).ran = true) :
    exec (.dmaWindowRun p win failed parity) s = .next s := by
  simp only [exec, execDmaWindowRun, hw]
  exact if_pos hran

/-- Does an occurrence of a window run: it is not TRIGGERED, or its trigger came in time. -/
def DmaWin.onAt (w : DmaWin) (k : WinSt) (tick : Nat) : Bool :=
  !w.triggered || (match k.trigger with
    | some t => decide (t + 16 ≤ tick * Config.cyclesPerTick + 64 * w.slot)
    | none => false)

theorem dmaWindowRun_eq (hw : ((s.last p).bind fun l => l.windows.find? fun w => decide (w.win = win.val)) = some w)
    (hran : (NTable.get {} s.wins (p.val * 1024 + win.val) : WinSt).ran = false) :
    exec (.dmaWindowRun p win failed parity) s =
      let key := p.val * 1024 + win.val
      let k : WinSt := NTable.get {} s.wins key
      let s0 := (s.trellisTo (64 * w.slot)).advanceTo (64 * w.slot)
      if !w.onAt k s.tick then .next ((s0.ranWindow key k).bump (Reg.dmaIdle p win))
      else .next (State.runWindow { s0.ranWindow key {} with cycle := max s0.cycle w.stop } p win w failed parity) := by
  simp only [exec, execDmaWindowRun, hw]
  refine (if_neg (by simp [hran])).trans ?_
  rfl

theorem onAt_idle {k : WinSt} {tick : Nat} (htrig : w.triggered = true)
    (hlate : ∀ t, k.trigger = some t → tick * Config.cyclesPerTick + 64 * w.slot < t + 16) : w.onAt k tick = false := by
  unfold DmaWin.onAt
  cases ht : k.trigger with
  | none => simp [htrig]
  | some t => simpa [htrig] using hlate t ht
theorem onAt_runs {k : WinSt} {tick : Nat} (h : w.triggered = false ∨
    ∃ t, k.trigger = some t ∧ t + 16 ≤ tick * Config.cyclesPerTick + 64 * w.slot) : w.onAt k tick = true := by
  unfold DmaWin.onAt
  rcases h with h | ⟨t, ht, hle⟩
  · simp [h]
  · simp [ht, hle]

end

end Sys2Proof.Machine
end

section
/-!
PROOFS. Trellis and memory: windows that run, responses, patrol, errors and refresh (15, R423 to R438).
-/
namespace Sys2Proof.Machine

/-! Windows that run. -/

/-- A window that has run: its count, its failure, and what moved. -/
theorem runWindow_frame (s : State) (p win : Nat) (w : DmaWin) (failed : List Nat) (parity : Bool) :
    (s.runWindow p win w failed parity).reg (Reg.dmaRuns p win) = bump32 (s.reg (Reg.dmaRuns p win)) ∧
    (failed = [] → parity = false → SameRegs s (s.runWindow p win w failed parity) [Reg.dmaRuns p win]) ∧
    (failed ≠ [] ∨ parity = true →
      (s.runWindow p win w failed parity).reg (Reg.dmaFail p w.win) = bump32 (s.reg (Reg.dmaFail p w.win))) ∧
    (s.runWindow p win w failed parity).wins = s.wins ∧
    (s.runWindow p win w failed parity).mem = (s.moveWindow p w failed).mem ∧
    (s.runWindow p win w failed parity).src = (s.moveWindow p w failed).src := by
  have hregs : (s.moveWindow p w failed).regs = s.regs :=
    moveWindow_keeps (g := State.regs) store_regs (fun _ _ _ => rfl) (fun _ _ _ => rfl) s p w failed
  have hwins : (s.moveWindow p w failed).wins = s.wins :=
    moveWindow_keeps (g := State.wins) (fun _ _ _ => touch_wins _ _ _) (fun _ _ _ => rfl) (fun _ _ _ => rfl) s p w failed
  obtain ⟨hcalm, hend, hnone, hfail⟩ := windowEnd_frame ((s.moveWindow p w failed).bump (Reg.dmaRuns p win)) p w failed parity
  have hreg : ∀ q, (s.moveWindow p w failed).reg q = s.reg q := fun q => reg_of_regs hregs q
  refine ⟨?_, fun hf hp => ?_, fun hf => ?_, ?_, ?_, ?_⟩
  · refine (hend _ (by simp [failRegs, ovrRegs])).trans ((reg_bump_same _ _).trans (congrArg bump32 (hreg _)))
  · unfold State.runWindow
    rw [hnone hf hp]
    exact .trans (sameRegs_of_regs hregs _) (.setReg (by simp) _)
  · exact (hfail hf).trans (congrArg bump32 ((reg_bump_other _ _ _ (by simp)).trans (hreg _)))
  · exact (calm_field hcalm State.wins fun _ => rfl).trans hwins
  · exact calm_field hcalm State.mem fun _ => rfl
  · exact calm_field hcalm State.src fun _ => rfl

/-- Bytes read where a store put them. -/
theorem bytes_stored {s t : State} {a n : Nat} {b : List Byte} (hb : b.length = n)
    (h : ∀ x, t.byte x = (s.store a b).byte x) : t.bytes a n = b := by
  subst hb
  exact bytes_of_byte fun i hi => by rw [h, byte_store, if_pos (by omega), Nat.add_sub_cancel_left]

/-! Responses (R425, R431, R433). -/

theorem mapStore_plain {a : Nat} (h : plainMemory a = true) (s : State) (b : List Byte) : s.mapStore a b = s.store a b :=
  if_pos h

/-- A response other than OKAY is counted by its kind and recorded. -/
theorem trellisError_frame (s : State) (m a : Nat) (cause : Option Nat) :
    Reports s (s.trellisError m a cause)
      [if cause.isSome then Reg.trlSlverr else Reg.trlDecerr, Reg.trlTimeout, Reg.trlParity, Reg.trlLastErr] ∧
    (s.trellisError m a cause).reg (if cause.isSome then Reg.trlSlverr else Reg.trlDecerr) =
      bump32 (s.reg (if cause.isSome then Reg.trlSlverr else Reg.trlDecerr)) ∧
    (cause = none → SameRegs s (s.trellisError m a cause) [Reg.trlDecerr, Reg.trlLastErr]) := by
  have hq : ∀ q ∈ [Reg.trlTimeout, Reg.trlParity, Reg.trlLastErr],
      (if cause.isSome then Reg.trlSlverr else Reg.trlDecerr) ≠ q := by cases cause <;> simp
  unfold State.trellisError
  extract_lets kind c s1 s2 s3
  have h1 : Reports s s1 [if cause.isSome then Reg.trlSlverr else Reg.trlDecerr] := .bump (by simp)
  have hcount : s1.reg (if cause.isSome then Reg.trlSlverr else Reg.trlDecerr) = _ := reg_bump_same _ _
  have h2 : Reports s1 s2 [Reg.trlTimeout, Reg.trlParity, Reg.trlLastErr] :=
    (Reports.when _ (.bump (by simp))).trans (.when _ (.bump (by simp)))
  have hnone : cause = none → s2 = s1 := by rintro rfl; rfl
  have h3 : Reports s2 s3 [Reg.trlLastErr] := .setReg (by simp) _
  clear_value s1 s2 s3
  have h4 : ∀ b f, (∀ t, Reports t (f t) []) → Reports s3 (s3.when b f) [] := fun b f hf => .when b (hf s3)
  have hlog : ∀ t, Reports t (State.logEvent t 0x0501 2 16 (m * 16777216 + c * 65536 + a / 4294967296) a) [] := fun t =>
    .logEvent ..
  have hlast := h4 (decide (16 ≤ m) && decide (m ≤ 21)) _ hlog
  refine ⟨?_, ?_, fun hc => ?_⟩
  · exact (((h1.mono (by simp)).trans (h2.mono (by simp))).trans (h3.mono (by simp))).trans (hlast.mono (by simp))
  · exact (hlast.2 _ (by simp)).trans ((h3.2 _ (by simpa using hq _ (by simp))).trans
      ((h2.2 _ fun hm => hq _ hm rfl).trans hcount))
  · rw [hnone hc] at h3
    subst hc
    exact (((h1.mono (by simp)).trans (h3.mono (by simp))).trans (hlast.mono (by simp))).2

/-- A request that waits for the leftover cycles of its target port. -/
def trellisRequest (m : Fin 28) (addr : Fin 1099511627776) (data : List Byte) (cause : Option (Fin 4)) : TrReq :=
  { master := m, addr := addr, data := data, cause := cause.map (·.val), more := max 1 ((addr.val % 64 + data.length + 63) / 64) }
def State.trellisQueue (s : State) (port : Nat) (r : TrReq) : State :=
  { s with trellis := NTable.mod {} s.trellis port fun x => { x with waiting := x.waiting ++ [r] } }

theorem port_trellisQueue (s : State) (port : Nat) (r : TrReq) : (NTable.get {} (s.trellisQueue port r).trellis port : TrellisPort) =
    { (NTable.get {} s.trellis port : TrellisPort) with
      waiting := (NTable.get {} s.trellis port : TrellisPort).waiting ++ [r] } :=
  NTable.get_mod_same {} s.trellis port fun x => { x with waiting := x.waiting ++ [r] }
/-- A port of the trellis written. -/
def State.putTrellis (s : State) (port : Nat) (x : TrellisPort) : State := { s with trellis := NTable.put {} s.trellis port x }

theorem trellisQueue_regs_mem (s : State) (port : Nat) (r : TrReq) :
    (s.trellisQueue port r).regs = s.regs ∧ (s.trellisQueue port r).mem = s.mem := ⟨rfl, rfl⟩
theorem putTrellis_regs_mem (s : State) (port : Nat) (x : TrellisPort) :
    (s.putTrellis port x).regs = s.regs ∧ (s.putTrellis port x).mem = s.mem := ⟨rfl, rfl⟩

section
variable {m : Fin 28} {addr : Fin 1099511627776} {data : List Byte} {s : State}

theorem trellisResponse_unreached (h : s.trellisReach m addr = false) (cause : Option (Fin 4)) :
    exec (.trellisResponse m addr data cause) s = .next (s.trellisError m addr none) := by
  simp only [exec, execTrellisResponse, h, Bool.not_false, if_true]
theorem trellisResponse_stores (h : s.trellisReach m addr = true) (hm : m.val < 18) :
    exec (.trellisResponse m addr data none) s = .next (s.mapStore addr data) := by
  simp only [exec, execTrellisResponse, h, Bool.not_true, Bool.false_eq_true, if_false, if_pos hm]
theorem trellisResponse_fails (h : s.trellisReach m addr = true) (hm : m.val < 18) (c : Fin 4) :
    exec (.trellisResponse m addr data (some c)) s = .next (s.trellisError m addr (some c.val)) := by
  simp only [exec, execTrellisResponse, h, Bool.not_true, Bool.false_eq_true, if_false, if_pos hm]
theorem trellisResponse_queued (h : s.trellisReach m addr = true) (hm : 18 ≤ m.val) (cause : Option (Fin 4)) :
    exec (.trellisResponse m addr data cause) s =
      .next ((s.trellisQueue (targetPort addr) (trellisRequest m addr data cause)).trellisPortTo (targetPort addr)
        (64 * (s.cycle / 64 + 1))) := by
  simp only [exec, execTrellisResponse, h, Bool.not_true, Bool.false_eq_true, if_false, if_neg (by omega : ¬m.val < 18)]
  rfl

end

/-- The leftover slots do not follow from what waits. -/
theorem leftoverSlot_trellisQueue (s : State) (port : Nat) (r : TrReq) (port' slot : Nat) :
    (s.trellisQueue port r).leftoverSlot port' slot = s.leftoverSlot port' slot := by
  unfold State.leftoverSlot State.slotBooked; rfl

/-- The rest of the slot under way of a port: the cycles from where its beats stand. -/
theorem trellisPortTo_slot (s : State) (port : Nat) (hw : (NTable.get {} s.trellis port : TrellisPort).waiting ≠ []) :
    s.trellisPortTo port (64 * (s.cycle / 64 + 1)) =
      let c := max (NTable.get {} s.trellis port : TrellisPort).upTo s.cycle
      if 64 * (s.cycle / 64 + 1) ≤ c then s else s.trellisSlot port (s.cycle / 64) c (64 * (s.cycle / 64 + 1)) := by
  unfold State.trellisPortTo
  extract_lets x c
  by_cases h : 64 * (s.cycle / 64 + 1) ≤ c
  · rw [if_pos (.inr h), if_pos h]
  · have hc : c / 64 = s.cycle / 64 := by
      have : s.cycle ≤ c := le_max_right _ _
      omega
    have hn : (64 * (s.cycle / 64 + 1) + 63) / 64 - c / 64 = 1 := by omega
    rw [if_neg (by rintro (h' | h'); exacts [hw h', h h']), if_neg h, hn, hc]
    rfl

/-- A fold whose first step alone changes the state. -/
theorem overN_first {f : State → Nat → State} {s t : State} (h0 : f s 0 = t) (ht : ∀ i, f t i = t) {n : Nat} (hn : 0 < n) :
    overN n f s = t := by
  obtain ⟨k, rfl⟩ := Nat.exists_eq_succ_of_ne_zero (by omega : n ≠ 0)
  induction k with
  | zero => exact h0
  | succ k ih =>
    rw [overN, List.range_succ, List.foldl_append]
    exact (congrArg (f · (k + 1)) (ih (Nat.succ_pos k))).trans (ht _)

/-- A port at which nothing waits carries nothing. -/
theorem trellisBeat_idle {s : State} {port : Nat} (h : (NTable.get {} s.trellis port : TrellisPort).waiting = []) (rotate : Bool)
    (cycle : Nat) : s.trellisBeat port rotate cycle = s := by
  unfold State.trellisBeat TrellisPort.pick
  simp only [h, List.foldl_nil]

/-- The last beat of the only request that waits. -/
theorem trellisBeat_last {s : State} {port : Nat} {r : TrReq}
    (h : (NTable.get {} s.trellis port : TrellisPort).waiting = [r]) (hcause : r.cause = none) (hmore : r.more ≤ 1)
    (rotate : Bool) (cycle : Nat) : ∃ x1 : TrellisPort, x1.waiting = [] ∧ s.trellisBeat port rotate cycle =
      (s.putTrellis port x1).mapStore r.addr (r.data.take (64 - r.addr % 64)) := by
  unfold State.trellisBeat TrellisPort.pick
  simp only [h, List.foldl_cons, List.foldl_nil, hcause]
  exact ⟨_, by simp [hmore], rfl⟩

/-- A request of one beat that finds its port free in a leftover slot is carried at once. -/
theorem trellisResponse_carried {m : Fin 28} {addr : Fin 1099511627776} {data : List Byte} {s : State}
    (hreach : s.trellisReach m addr = true) (hm : 18 ≤ m.val)
    (hslot : s.leftoverSlot (targetPort addr) (s.cycle / 64) ≠ none)
    (hfree : (NTable.get {} s.trellis (targetPort addr) : TrellisPort).waiting = [])
    (hup : (NTable.get {} s.trellis (targetPort addr) : TrellisPort).upTo ≤ s.cycle)
    (hfit : addr.val % 64 + data.length ≤ 64) (hplain : plainMemory addr = true) : ∃ x1 : TrellisPort, x1.waiting = [] ∧
      exec (.trellisResponse m addr data none) s =
        .next (((s.trellisQueue (targetPort addr) (trellisRequest m addr data none)).putTrellis (targetPort addr) x1).store
          addr data) := by
  have hnew : (NTable.get {} (s.trellisQueue (targetPort addr) (trellisRequest m addr data none)).trellis (targetPort addr) :
      TrellisPort) = { (NTable.get {} s.trellis (targetPort addr) : TrellisPort) with waiting := [trellisRequest m addr data none] } := by
    rw [port_trellisQueue, hfree]; rfl
  obtain ⟨rotate, hrot⟩ := Option.ne_none_iff_exists'.mp hslot
  have hw : (NTable.get {} (s.trellisQueue (targetPort addr) (trellisRequest m addr data none)).trellis (targetPort addr) :
      TrellisPort).waiting = [trellisRequest m addr data none] := by rw [hnew]
  have hmore : (trellisRequest m addr data none).more ≤ 1 := by
    show max 1 ((addr.val % 64 + data.length + 63) / 64) ≤ 1
    omega
  obtain ⟨x1, hx1, hbeat⟩ := trellisBeat_last hw rfl hmore rotate (max s.cycle (64 * (s.cycle / 64)))
  refine ⟨x1, hx1, (trellisResponse_queued hreach hm none).trans (congrArg Host.Outcome.next ?_)⟩
  have hcycle : max (NTable.get {} s.trellis (targetPort addr) : TrellisPort).upTo s.cycle = s.cycle := max_eq_right hup
  have hport := trellisPortTo_slot (s.trellisQueue (targetPort addr) (trellisRequest m addr data none)) (targetPort addr)
    (by rw [hw]; simp)
  rw [hnew] at hport
  refine hport.trans ?_
  show (if 64 * (s.cycle / 64 + 1) ≤ max (NTable.get {} s.trellis (targetPort addr) : TrellisPort).upTo s.cycle then _ else
    State.trellisSlot _ _ _ (max (NTable.get {} s.trellis (targetPort addr) : TrellisPort).upTo s.cycle) _) = _
  rw [hcycle, if_neg (by omega)]
  unfold State.trellisSlot
  rw [leftoverSlot_trellisQueue]
  rw [show (s.trellisQueue (targetPort addr) (trellisRequest m addr data none)).cycle = s.cycle from rfl, hrot]
  have htake : (trellisRequest m addr data none).data.take (64 - (trellisRequest m addr data none).addr % 64) = data :=
    List.take_of_length_le (by show data.length ≤ 64 - addr.val % 64; omega)
  rw [htake, show (trellisRequest m addr data none).addr = addr.val from rfl, mapStore_plain hplain] at hbeat
  refine overN_first (by rw [Nat.add_zero]; exact hbeat) (fun i => trellisBeat_idle ?_ _ _) (by omega)
  rw [show State.trellis (State.store _ _ _) = _ from touch_trellis _ _ _]
  exact (congrArg TrellisPort.waiting (NTable.get_put_same _ _ _ _)).trans hx1

/-- A request that finds no leftover slot waits. -/
theorem trellisResponse_waits {m : Fin 28} {addr : Fin 1099511627776} {data : List Byte} {s : State}
    (hreach : s.trellisReach m addr = true) (hm : 18 ≤ m.val)
    (hslot : s.leftoverSlot (targetPort addr) (s.cycle / 64) = none) (cause : Option (Fin 4)) :
    exec (.trellisResponse m addr data cause) s =
      .next (s.trellisQueue (targetPort addr) (trellisRequest m addr data cause)) := by
  refine (trellisResponse_queued hreach hm cause).trans (congrArg Host.Outcome.next ?_)
  have hport := trellisPortTo_slot (s.trellisQueue (targetPort addr) (trellisRequest m addr data cause)) (targetPort addr)
    (by rw [port_trellisQueue]; simp)
  refine hport.trans ?_
  dsimp only
  split
  · rfl
  · unfold State.trellisSlot
    rw [leftoverSlot_trellisQueue, show (s.trellisQueue (targetPort addr) (trellisRequest m addr data cause)).cycle = s.cycle from rfl,
      hslot]

/-! Patrol, errors and refresh (R435 to R438). -/

/-- One tick of patrol over a memory. -/
def State.patrolStep (s : State) (sel : Nat) : State :=
  let n := NTable.get 0 s.memory.pass sel + 1
  let fin := decide (n ≥ patrolTicks s sel)
  { s with memory := { s.memory with pass := NTable.put 0 s.memory.pass sel (if fin then 0 else n) } }.when fin fun s =>
    s.bump (Reg.memScrubPass sel)

theorem memScrub_eq (corrected : List (Fin 6)) (s : State) : exec (.memScrub corrected) s =
    .next (overL corrected (fun s (e : Fin 6) => s.bump (Reg.memCecc e)) (overN 6 State.patrolStep s)) := rfl

theorem patrolStep_frame (s : State) (d : Nat) : (s.patrolStep d).rst = s.rst ∧ (s.patrolStep d).mem = s.mem ∧
    (∀ k, NTable.get 0 (s.patrolStep d).memory.pass k = if k = d then
      (if NTable.get 0 s.memory.pass d + 1 ≥ patrolTicks s d then 0 else NTable.get 0 s.memory.pass d + 1)
      else NTable.get 0 s.memory.pass k) ∧
    (s.patrolStep d).reg (Reg.memScrubPass d) = (if NTable.get 0 s.memory.pass d + 1 ≥ patrolTicks s d
      then bump32 (s.reg (Reg.memScrubPass d)) else s.reg (Reg.memScrubPass d)) ∧
    SameRegs s (s.patrolStep d) [Reg.memScrubPass d] := by
  unfold State.patrolStep
  extract_lets n fin
  have hmem : ∀ v, SameRegs s (({ s with memory := { s.memory with pass := NTable.put 0 s.memory.pass d v } }.when fin fun s =>
      s.bump (Reg.memScrubPass d))) [Reg.memScrubPass d] := fun v =>
    SameRegs.trans (t := { s with memory := { s.memory with pass := NTable.put 0 s.memory.pass d v } }) (sameRegs_of_regs rfl _)
      (Reports.when fin (.bump (by simp))).2
  refine ⟨when_keeps (g := State.rst) rfl, when_keeps (g := State.mem) rfl, fun k => ?_, ?_, hmem _⟩
  · rw [when_keeps (g := State.memory) rfl]
    by_cases hk : k = d
    · rw [if_pos hk, hk]
      refine (NTable.get_put_same 0 s.memory.pass d _).trans ?_
      simp only [fin, decide_eq_true_eq, n]
    · rw [if_neg hk]; exact NTable.get_put_other _ _ _ _ _ hk
  · by_cases h : NTable.get 0 s.memory.pass d + 1 ≥ patrolTicks s d
    · rw [if_pos h, show fin = true from decide_eq_true h]
      exact reg_bump_same _ _
    · rw [if_neg h, show fin = false from decide_eq_false h]; rfl

theorem patrolTicks_of_rst {s t : State} (h : t.rst = s.rst) (sel : Nat) : patrolTicks t sel = patrolTicks s sel := by
  simp only [patrolTicks, State.dramBytes, h]

/-- The pass of each memory after a tick of patrol, and its count. -/
theorem overN_patrolStep (s : State) (d : Fin 6) :
    NTable.get 0 (overN 6 State.patrolStep s).memory.pass d =
      (if NTable.get 0 s.memory.pass d + 1 ≥ patrolTicks s d then 0 else NTable.get 0 s.memory.pass d + 1) ∧
    (overN 6 State.patrolStep s).reg (Reg.memScrubPass d) = (if NTable.get 0 s.memory.pass d + 1 ≥ patrolTicks s d
      then bump32 (s.reg (Reg.memScrubPass d)) else s.reg (Reg.memScrubPass d)) := by
  have hkey : ∀ t, t.rst = s.rst → patrolTicks t d = patrolTicks s d := fun t h => patrolTicks_of_rst h d
  have h : ((overN 6 State.patrolStep s).rst, NTable.get 0 (overN 6 State.patrolStep s).memory.pass d,
      (overN 6 State.patrolStep s).reg (Reg.memScrubPass d)) =
      (s.rst, (if NTable.get 0 s.memory.pass d + 1 ≥ patrolTicks s d then 0 else NTable.get 0 s.memory.pass d + 1),
        (if NTable.get 0 s.memory.pass d + 1 ≥ patrolTicks s d
          then bump32 (s.reg (Reg.memScrubPass d)) else s.reg (Reg.memScrubPass d))) := by
    refine overN_once (g := fun s => (s.rst, NTable.get 0 s.memory.pass d, s.reg (Reg.memScrubPass d))) d.isLt
      (fun t x hx => ?_) fun t ht => ?_
    · obtain ⟨hrst, -, hpass, -, hregs⟩ := patrolStep_frame t x
      rw [hrst, hpass, if_neg (Ne.symm hx), hregs _ (by simpa using Ne.symm hx)]
    · obtain ⟨hrst, -, hpass, hcount, -⟩ := patrolStep_frame t d
      injection ht with ht hrest
      injection hrest with hp hr
      rw [hrst, hpass, hcount, if_pos rfl, hkey t ht, hp, hr, ht]
  injection h with _ h
  injection h with h1 h2
  exact ⟨h1, h2⟩

/-- A state with the registers, memory and buses of another, but for registers of a list. -/
structure SameUecc (l : List Reg) (s t : State) : Prop where
  regs : SameRegs s t l
  mem : t.mem = s.mem
  buses : t.buses = s.buses
  ranTo : t.ranTo = s.ranTo

namespace SameUecc
variable {l l' : List Reg} {s t u : State}
theorem refl (l : List Reg) (s : State) : SameUecc l s s := ⟨.refl s l, rfl, rfl, rfl⟩
theorem trans (h : SameUecc l s t) (h' : SameUecc l t u) : SameUecc l s u :=
  ⟨h.regs.trans h'.regs, h'.mem.trans h.mem, h'.buses.trans h.buses, h'.ranTo.trans h.ranTo⟩
theorem of_reports (h : Reports s t l) : SameUecc l s t :=
  ⟨h.2, h.mem, h.field State.buses fun _ => rfl, h.field State.ranTo fun _ => rfl⟩
theorem evidence (s : State) (p : Nat) : SameUecc l s (s.evidence p) := ⟨sameRegs_of_regs rfl l, rfl, rfl, rfl⟩
theorem windowFail (s : State) (p : Nat) (w : DmaWin) : SameUecc (failRegs p w) s (s.windowFail p w) := by
  obtain ⟨hcalm, -, hregs⟩ := windowFail_frame s p w
  exact ⟨hregs, calm_field hcalm State.mem fun _ => rfl, calm_field hcalm State.buses fun _ => rfl,
    calm_field hcalm State.ranTo fun _ => rfl⟩
end SameUecc

theorem bus_of_buses {s t : State} (h : t.buses = s.buses) (b : Nat) : t.bus b = s.bus b := by simp only [State.bus, h]

theorem busError_regs_mem (s : State) (b : Nat) : (s.busError b).regs = s.regs ∧ (s.busError b).mem = s.mem := by
  unfold State.busError
  dsimp only
  split
  · exact ⟨rfl, rfl⟩
  · split <;> exact ⟨rfl, rfl⟩
theorem busError_marks {s : State} {b : Nat} {r : BusRec} (hr : (s.bus b).rec_ = some r) (hran : s.ranTo < r.stop) :
    ((s.busError b).bus b).error = true := by
  unfold State.busError
  simp only [hr, if_pos hran]
  exact congrArg BusSt.error (NTable.get_put_same _ _ _ _)

theorem loseFrame_frame (s : State) (n : Nat) : (s.loseFrame n).reg (Reg.dropQfull n) = bump32 (s.reg (Reg.dropQfull n)) ∧
    SameRegs s (s.loseFrame n) [Reg.dropQfull n] ∧ (s.loseFrame n).mem = s.mem := by
  have hleg : ∀ (s : State) f, (s.legDrop f).regs = s.regs ∧ (s.legDrop f).mem = s.mem := fun s f => by
    unfold State.legDrop
    split <;> exact ⟨rfl, rfl⟩
  have hbump : SameRegs s (s.bump (Reg.dropQfull n)) [Reg.dropQfull n] := .setReg (by simp) _
  unfold State.loseFrame
  split
  · exact ⟨reg_bump_same _ _, hbump, rfl⟩
  · next f l hq =>
    obtain ⟨hr, hm⟩ := hleg (s.bump (Reg.dropQfull n)) f
    exact ⟨(reg_of_regs hr _).trans (reg_bump_same _ _), hbump.trans (sameRegs_of_regs hr _), hm⟩

theorem ringError_regs_mem (s : State) (addr : Nat) : (s.ringError addr).regs = s.regs ∧ (s.ringError addr).mem = s.mem := by
  have hkeep : ∀ {α : Type} (g : State → α), (∀ s t f, g (State.modRx s t f) = g s) → g (s.ringError addr) = g s := fun g hg =>
    overL_keeps (g := g) _ s fun s t _ => by
      dsimp only
      split
      · rfl
      · exact overL_keeps (g := g) _ s fun s x _ => hg _ _ _
  exact ⟨hkeep State.regs fun _ _ _ => rfl, hkeep State.mem fun _ _ _ => rfl⟩

/-- The report of an uncorrectable memory word. -/
def State.memReport (s : State) (sel : Fin 6) (addr : Fin 1099511627776) : State :=
  ((s.bump (Reg.memUecc sel)).setReg (Reg.memLastUecc sel) addr.val).logEvent 0x0502 2 16
    (sel.val * 256 + addr.val / 4294967296) addr
/-- The word of bed memory or DRAM zeroed. -/
def State.memClear (s : State) (sel addr : Nat) : State :=
  if sel = 0 ∨ sel ≥ 4 then s.store (addr / 8 * 8) (List.replicate 8 0) else s
/-- The window that read the word fails. -/
def State.memWindow (s : State) (win : Option (Fin 16 × Fin 256)) : State :=
  match win with
  | some (p, n) => match (s.last p).bind fun l => l.windows.find? fun w => decide (w.win = n.val) with
    | some w => (s.windowFail p w).evidence p
    | none => s
  | none => s
/-- The bus that read a mix table has its error. -/
def State.memBus (s : State) (sel : Nat) (bus : Option (Fin 2048)) : State :=
  if sel = 1 then (match bus with
    | some b => (s.busError b).evidence ((s.holder 11 noUnit b).getD 16)
    | none => s) else s
/-- The frame of a word of frame memory is dropped. -/
def State.memFrame (s : State) (sel : Nat) (port : Option (Fin 24)) : State :=
  if sel = 2 then (match port with
    | some n => s.loseFrame n
    | none => s) else s

theorem memUecc_eq (sel : Fin 6) (addr : Fin 1099511627776) (win : Option (Fin 16 × Fin 256)) (bus : Option (Fin 2048))
    (port : Option (Fin 24)) (s : State) : exec (.memUecc sel addr win bus port) s =
      let s5 := ((((s.memReport sel addr).memClear sel addr).memWindow win).memBus sel bus).memFrame sel port
      let s6 := if sel.val = 0 then s5.ringError addr else s5
      .next (if sel.val = 3 then s6.evidence 16 else s6) := rfl

theorem memReport_frame (s : State) (sel : Fin 6) (addr : Fin 1099511627776) :
    SameUecc [Reg.memUecc sel, Reg.memLastUecc sel] s (s.memReport sel addr) ∧
    (s.memReport sel addr).reg (Reg.memUecc sel) = bump32 (s.reg (Reg.memUecc sel)) ∧
    (s.memReport sel addr).reg (Reg.memLastUecc sel) = addr.val := by
  refine ⟨.of_reports (((Reports.bump (by simp)).trans (.setReg (by simp) _)).trans (.logEvent ..)), ?_, ?_⟩
  · refine (reg_logEvent ..).trans ((reg_setReg_other _ _ _ _ (by simp)).trans (reg_bump_same _ _))
  · exact (reg_logEvent ..).trans (reg_setReg_same _ _ _)

theorem memClear_frame (s : State) (sel addr : Nat) : (s.memClear sel addr).regs = s.regs ∧
    (s.memClear sel addr).buses = s.buses ∧ (s.memClear sel addr).ranTo = s.ranTo ∧
    (s.memClear sel addr).mem = if sel = 0 ∨ sel ≥ 4 then memPut s.mem (addr / 8 * 8) (List.replicate 8 0) else s.mem := by
  unfold State.memClear
  split
  · exact ⟨store_regs _ _ _, touch_buses _ _ _, touch_ranTo _ _ _, store_mem _ _ _⟩
  · exact ⟨rfl, rfl, rfl, rfl⟩

/-- The registers of a failed window's report, of any plot. -/
def isFailReg (q : Reg) : Prop := ∃ p w, q ∈ failRegs p w

theorem not_isFailReg_uecc (sel : Fin 6) : ¬isFailReg (Reg.memUecc sel) ∧ ¬isFailReg (Reg.memLastUecc sel) := by
  refine ⟨?_, ?_⟩
  · rintro ⟨p, w, h⟩
    simp [failRegs, ovrRegs] at h
    omega
  · rintro ⟨p, w, h⟩
    simp [failRegs, ovrRegs] at h

theorem memWindow_frame (s : State) (win : Option (Fin 16 × Fin 256)) : (∀ q, ¬isFailReg q → (s.memWindow win).reg q = s.reg q) ∧
    (s.memWindow win).mem = s.mem ∧ (s.memWindow win).buses = s.buses ∧ (s.memWindow win).ranTo = s.ranTo := by
  unfold State.memWindow
  split
  · next p n =>
    split
    · next w hw =>
      have h := (SameUecc.windowFail s p w).trans (.evidence _ p)
      exact ⟨fun q hq => h.regs q fun hm => hq ⟨p, w, hm⟩, h.mem, h.buses, h.ranTo⟩
    · exact ⟨fun _ _ => rfl, rfl, rfl, rfl⟩
  · exact ⟨fun _ _ => rfl, rfl, rfl, rfl⟩

theorem memBus_frame (s : State) (sel : Nat) (bus : Option (Fin 2048)) : (s.memBus sel bus).regs = s.regs ∧
    (s.memBus sel bus).mem = s.mem := by
  unfold State.memBus
  split
  · split
    · exact busError_regs_mem s _
    · exact ⟨rfl, rfl⟩
  · exact ⟨rfl, rfl⟩

theorem memFrame_frame (s : State) (sel : Nat) (port : Option (Fin 24)) :
    (∀ q, (∀ n, q ≠ Reg.dropQfull n) → (s.memFrame sel port).reg q = s.reg q) ∧ (s.memFrame sel port).mem = s.mem := by
  unfold State.memFrame
  split
  · split
    · next n =>
      obtain ⟨-, hregs, hmem⟩ := loseFrame_frame s n
      exact ⟨fun q hq => hregs q (by simpa using hq n), hmem⟩
    · exact ⟨fun _ _ => rfl, rfl⟩
  · exact ⟨fun _ _ => rfl, rfl⟩

/-- What ends a memory error: the receive ring's samples, and the evidence of gardener SRAM. -/
theorem memUecc_end (s : State) (sel addr : Nat) : ∃ t,
    t = (if sel = 3 then (if sel = 0 then s.ringError addr else s).evidence 16 else if sel = 0 then s.ringError addr else s) ∧
    t.regs = s.regs ∧ t.mem = s.mem ∧ (sel ≠ 0 → sel ≠ 3 → t = s) := by
  refine ⟨_, rfl, ?_⟩
  by_cases h0 : sel = 0
  · rw [if_neg (by omega), if_pos h0]
    exact ⟨(ringError_regs_mem s addr).1, (ringError_regs_mem s addr).2, fun h => absurd h0 h⟩
  · rw [if_neg h0]
    split
    · next h3 => exact ⟨rfl, rfl, fun _ h => absurd h3 h⟩
    · exact ⟨rfl, rfl, fun _ _ => rfl⟩

/-- Refresh: the multiple and the temperature flag of a controller, and the higher of both in the objects (R438). -/
def State.derated (s : State) (ctl : Nat) (m : Nat) (hot : Bool) : State :=
  let mem := { s.memory with derate := NTable.put 1 s.memory.derate ctl m, hot := NTable.put false s.memory.hot ctl hot }
  (State.setReg { s with memory := mem } Reg.dramDerate (max (NTable.get 1 mem.derate 0) (NTable.get 1 mem.derate 1) : Nat)).setReg
    Reg.dramHot (if NTable.get false mem.hot 0 || NTable.get false mem.hot 1 then 1 else 0)
theorem derated_frame (s : State) (ctl m : Nat) (hot : Bool) :
    NTable.get false (s.derated ctl m hot).memory.hot ctl = hot ∧ NTable.get 1 (s.derated ctl m hot).memory.derate ctl = m ∧
    (s.derated ctl m hot).reg Reg.dramDerate = (max (NTable.get 1 (s.derated ctl m hot).memory.derate 0)
      (NTable.get 1 (s.derated ctl m hot).memory.derate 1) : Nat) ∧
    (s.derated ctl m hot).reg Reg.dramHot = (if NTable.get false (s.derated ctl m hot).memory.hot 0 ||
      NTable.get false (s.derated ctl m hot).memory.hot 1 then 1 else 0) ∧
    SameRegs s (s.derated ctl m hot) [Reg.dramDerate, Reg.dramHot] := by
  refine ⟨NTable.get_put_same _ _ _ _, NTable.get_put_same _ _ _ _, ?_, reg_setReg_same _ _ _, ?_⟩
  · exact (reg_setReg_other _ _ _ _ (by simp)).trans (reg_setReg_same _ _ _)
  · refine SameRegs.trans (t := { s with memory := (s.derated ctl m hot).memory }) (sameRegs_of_regs rfl _) ?_
    exact (SameRegs.setReg (by simp) _).trans (.setReg (by simp) _)
theorem dramDerate_reports (ctl : Fin 2) (multiple mr4 : Nat) (hot : Bool) (s : State) : ∃ t,
    exec (.dramDerate ctl multiple hot mr4) s = .next t ∧
    Reports (s.derated ctl (if hot then 4 else if multiple ≤ 1 then 1 else if multiple = 2 then 2 else 4) hot) t [] := by
  have heq : exec (.dramDerate ctl multiple hot mr4) s = .next (if hot && !NTable.get false s.memory.hot ctl then
      (s.derated ctl (if hot then 4 else if multiple ≤ 1 then 1 else if multiple = 2 then 2 else 4) hot).logEvent 0x0503 1 16 ctl mr4
      else s.derated ctl (if hot then 4 else if multiple ≤ 1 then 1 else if multiple = 2 then 2 else 4) hot) := rfl
  refine ⟨_, heq, ?_⟩
  generalize s.derated ctl _ hot = s1
  cases hot && !NTable.get false s.memory.hot ctl
  · exact .refl _ _
  · exact .logEvent ..

/-- Settles O21: windows by what moves and what is counted, responses by their slot, patrol and errors by what they leave. -/
theorem trellisAndMemoryCommands : Obligations.TrellisAndMemoryCommands := by
  refine ⟨fun p win w failed parity s s0 hw hs0 => ⟨fun hran => dmaWindowRun_done hw hran, fun hran htrig hlate => ?idle,
    fun hran hon => ?runs⟩, fun m addr data s => ⟨fun hreach hm hplain => ?stores, fun hreach hm c => ?slverr,
    fun hreach hm => ⟨fun hslot cause => ?waits, fun hslot hfree hup hfit hplain => ?carried⟩, fun hreach cause => ?decerr,
    fun corrected => ?scrub, fun sel win bus port => ?uecc, fun ctl multiple mr4 hot => ?derate⟩⟩
  case idle =>
    have heq := dmaWindowRun_eq (failed := failed) (parity := parity) hw hran
    dsimp only at heq
    rw [hs0, onAt_idle htrig hlate] at heq
    refine ⟨_, heq, reg_bump_same _ _, ?_, .trans (sameRegs_of_regs rfl _) (.setReg (by simp) _), sameMem_of_mem rfl⟩
    exact congrArg WinSt.ran (NTable.get_put_same _ _ _ _)
  case runs =>
    have hwin : w.win = win.val := by
      obtain ⟨l, -, hfind⟩ := Option.bind_eq_some_iff.mp hw
      simpa using List.find?_some hfind
    have htick : s0.tick = s.tick := hs0 ▸ tick_advanced s _ _
    have heq := dmaWindowRun_eq (failed := failed) (parity := parity) hw hran
    dsimp only at heq
    rw [hs0, onAt_runs hon] at heq
    obtain ⟨s1, hs1⟩ : ∃ t, t = { s0.ranWindow (p.val * 1024 + win.val) {} with cycle := max s0.cycle w.stop } := ⟨_, rfl⟩
    have hsig : SameSignals s0 s1 := hs1 ▸ ⟨⟨rfl, rfl⟩, rfl, rfl, rfl, rfl, rfl⟩
    have hmem1 : s1.mem = s0.mem := hs1 ▸ rfl
    have htasks : s1.tasks = s0.tasks := hs1 ▸ rfl
    have hran1 : (NTable.get {} s1.wins (p.val * 1024 + win.val) : WinSt).ran = true :=
      hs1 ▸ congrArg WinSt.ran (NTable.get_put_same {} s0.wins (p.val * 1024 + win.val) { ran := true })
    rw [← hs1] at heq
    clear hs1
    obtain ⟨hcount, hclean, hfail, hwins, hmem, hsrc⟩ := runWindow_frame s1 p win w failed parity
    have hregs1 : ∀ q, s1.reg q = s0.reg q := reg_of_regs hsig.regs
    have hbyte : ∀ x, (s1.runWindow p win w failed parity).byte x = (s1.moveWindow p w failed).byte x := byte_of_mem hmem
    refine ⟨_, heq, ?_, ?_, fun hf hp => ?_, fun hf => ?_, fun hdir hsigf => ?_, fun hdir hsigt => ?_,
      fun hdir hsigf hwrap => ?_, fun hdir hsigt hover hramp => ?_⟩
    · rw [hwin, hcount, hregs1]; rfl
    · rw [hwins]; exact hran1
    · exact .trans (sameRegs_of_regs hsig.regs _) (hclean hf hp)
    · rw [hfail hf, hregs1]; rfl
    · have hb : (if w.signal then blockBytes (padTo (w.length / 4) (s1.sinkBlock p w.sig))
          else (List.range w.length).map fun i => s1.byte (w.farAt s1.tick i)) =
          (List.range w.length).map fun i => s0.byte (w.farAt s.tick i) := by
        rw [if_neg (by simp [hsigf]), hsig.tick, htick]
        simp only [byte_of_mem hmem1]
      have hx : ∀ x, (s1.runWindow p win w failed parity).byte x = _ := fun x => (hbyte x).trans (moveWindow_in hdir hb x)
      refine ⟨?_, fun a ha => ?_⟩
      · exact bytes_stored (by simp) hx
      · rw [hx, byte_store_outside (by simpa using ha), byte_of_mem hmem1]
    · have hb : (if w.signal then blockBytes (padTo (w.length / 4) (s1.sinkBlock p w.sig))
          else (List.range w.length).map fun i => s1.byte (w.farAt s1.tick i)) =
          blockBytes (padTo (w.length / 4) (s0.sinkBlock p w.sig)) := by
        rw [if_pos hsigt, hsig.sinkBlock]
      exact bytes_stored (by simp) fun x => (hbyte x).trans (moveWindow_in hdir hb x)
    · have hx : ∀ x, (s1.runWindow p win w failed parity).byte x = _ := fun x =>
        (hbyte x).trans (moveWindow_out hdir hsigf hwrap x)
      rw [bytes_of_mem hmem1] at hx
      refine ⟨?_, fun a ha => ?_⟩
      · exact bytes_stored (by simp) hx
      · rw [hx, byte_store_outside (by simpa using ha), byte_of_mem hmem1]
    · have htask : s1.task p w.task = s0.task p w.task := task_of_tasks htasks _ _
      have hmove := moveWindow_signal (failed := failed) hdir hsigt (by rw [htask]; exact hover) (by rw [htask]; exact hramp)
      rw [bytes_of_mem hmem1] at hmove
      refine ⟨?_, sameMem_of_mem ?_⟩
      · rw [hsrc, hmove]; exact NTable.get_put_same _ _ _ _
      · rw [hmem, hmove]; exact hmem1
  case stores =>
    have heq : exec (.trellisResponse m addr data none) s = .next (s.store addr data) := by
      rw [trellisResponse_stores hreach hm, mapStore_plain hplain]
    exact ⟨_, heq, bytes_store _ _ _, fun a ha => byte_store_outside ha, sameRegs_of_regs (store_regs _ _ _) _⟩
  case slverr =>
    obtain ⟨hrep, hcount, -⟩ := trellisError_frame s m addr (some c.val)
    exact ⟨_, trellisResponse_fails hreach hm c, hcount, hrep.2.mono (by simp), hrep.sameMem⟩
  case waits =>
    refine ⟨_, trellisResponse_waits hreach hm hslot cause, ⟨(trellisRequest m addr data cause).more, ?_⟩, sameRegs_of_regs rfl _,
      sameMem_of_mem rfl⟩
    rw [port_trellisQueue]; rfl
  case carried =>
    obtain ⟨x1, hx1, heq⟩ := trellisResponse_carried (data := data) hreach hm hslot hfree hup hfit hplain
    refine ⟨_, heq, bytes_store _ _ _, fun a ha => ?_, ?_, sameRegs_of_regs ?_ _⟩
    · rw [byte_store_outside ha]; exact byte_of_mem ((putTrellis_regs_mem _ _ _).2.trans (trellisQueue_regs_mem _ _ _).2) a
    swap
    · exact (store_regs _ _ _).trans ((putTrellis_regs_mem _ _ _).1.trans (trellisQueue_regs_mem _ _ _).1)
    rw [show State.trellis (State.store _ _ _) = _ from touch_trellis _ _ _]
    exact (congrArg TrellisPort.waiting (NTable.get_put_same _ _ _ _)).trans hx1
  case decerr =>
    obtain ⟨hrep, hcount, hregs⟩ := trellisError_frame s m addr none
    exact ⟨_, trellisResponse_unreached hreach cause, hcount, hregs rfl, hrep.sameMem⟩
  case scrub =>
    have heq := memScrub_eq corrected s
    obtain hpass := overN_patrolStep s
    have hcecc : ∀ sel : Fin 6, (overN 6 State.patrolStep s).reg (Reg.memCecc sel) = s.reg (Reg.memCecc sel) := fun sel =>
      overN_keeps (g := fun s => s.reg (Reg.memCecc sel)) 6 s fun t x _ => (patrolStep_frame t x).2.2.2.2 _ (by simp)
    generalize overN 6 State.patrolStep s = s1 at heq hpass hcecc
    have hmemory : (overL corrected (fun s (e : Fin 6) => s.bump (Reg.memCecc e)) s1).memory = s1.memory :=
      overL_keeps (g := State.memory) corrected s1 fun _ _ _ => rfl
    have hcount : ∀ sel : Fin 6, (overL corrected (fun s (e : Fin 6) => s.bump (Reg.memCecc e)) s1).reg (Reg.memCecc sel) =
        counted (corrected.filter fun e => e == sel).length (s1.reg (Reg.memCecc sel)) := fun sel =>
      overL_counts (fun e => e == sel) (fun t e he => by rw [beq_iff_eq.mp he, reg_bump_same])
        (fun t e he => reg_bump_other _ _ _ (by simpa [Fin.val_inj] using Ne.symm (ne_of_beq_false he))) corrected s1
    refine ⟨_, heq, sameMem_of_mem (exec_mem rfl heq), fun sel => ⟨?_, ?_, fun hin => ?_, fun hout => ?_⟩⟩
    · rw [hmemory]; exact (hpass sel).1
    · refine Eq.trans ?_ (hpass sel).2
      exact overL_keeps (g := fun s => s.reg (Reg.memScrubPass sel)) corrected s1 fun t e _ => reg_bump_other _ _ _ (by simp)
    · have hne : (corrected.filter fun e => e == sel).length ≠ 0 := by
        rw [ne_eq, List.length_eq_zero_iff, List.filter_eq_nil_iff]
        exact fun h => h sel hin (by simp)
      rw [hcount, counted, if_neg hne, hcecc]
    · have hnil : (corrected.filter fun e => e == sel) = [] :=
        List.filter_eq_nil_iff.mpr fun e he h => hout (beq_iff_eq.mp h ▸ he)
      rw [hcount, hnil, hcecc]; rfl
  case uecc =>
    have heq := memUecc_eq sel addr win bus port s
    dsimp only at heq
    obtain ⟨h1, huecc, hlast⟩ := memReport_frame s sel addr
    obtain ⟨hregs2, hbuses2, hran2, hmem2⟩ := memClear_frame (s.memReport sel addr) sel addr
    obtain ⟨hregs3, hmem3, hbuses3, hran3⟩ := memWindow_frame ((s.memReport sel addr).memClear sel addr) win
    have hbus : ∀ b, (((s.memReport sel addr).memClear sel addr).memWindow win).bus b = s.bus b := fun b =>
      bus_of_buses (hbuses3.trans (hbuses2.trans h1.buses)) b
    have hran : (((s.memReport sel addr).memClear sel addr).memWindow win).ranTo = s.ranTo :=
      hran3.trans (hran2.trans h1.ranTo)
    rw [h1.mem] at hmem2
    have hreg3 : ∀ q, ¬isFailReg q → (((s.memReport sel addr).memClear sel addr).memWindow win).reg q =
        (s.memReport sel addr).reg q := fun q hq => (hregs3 q hq).trans (reg_of_regs hregs2 q)
    have hmem3' := hmem3.trans hmem2
    generalize ((s.memReport sel addr).memClear sel addr).memWindow win = s3 at heq hbus hran hreg3 hmem3'
    obtain ⟨hregs4, hmem4⟩ := memBus_frame s3 sel bus
    obtain ⟨hregs5, hmem5⟩ := memFrame_frame (s3.memBus sel bus) sel port
    have hmark : ∀ (b : Fin 2048) r, sel.val = 1 → bus = some b → (s.bus b).rec_ = some r → s.ranTo < r.stop →
        ((s3.memBus sel bus).bus b).error = true := fun b r hsel hb hr hlt => by
      have h4 : s3.memBus sel bus = (s3.busError b).evidence ((s3.holder 11 noUnit b).getD 16) := by
        rw [hb]; exact if_pos hsel
      rw [h4]
      exact busError_marks (r := r) (by rw [hbus]; exact hr) (by rw [hran]; exact hlt)
    have hdrop : ∀ n : Fin 24, sel.val = 2 → port = some n →
        ((s3.memBus sel bus).memFrame sel port).reg (Reg.dropQfull n) = bump32 (s.reg (Reg.dropQfull n)) := fun n hsel hn => by
      have h5 : (s3.memBus sel bus).memFrame sel port = (s3.memBus sel bus).loseFrame n := by rw [hn]; exact if_pos hsel
      rw [h5, (loseFrame_frame _ n).1, reg_of_regs hregs4, hreg3 _ (by simp [isFailReg, failRegs, ovrRegs]), h1.regs _ (by simp)]
    have hreg : ∀ q, ¬isFailReg q → (∀ n, q ≠ Reg.dropQfull n) →
        ((s3.memBus sel bus).memFrame sel port).reg q = (s.memReport sel addr).reg q := fun q hf hd =>
      (hregs5 q hd).trans ((reg_of_regs hregs4 q).trans (hreg3 q hf))
    have hmem : ((s3.memBus sel bus).memFrame sel port).mem = _ := hmem5.trans (hmem4.trans hmem3')
    have hplain : (sel.val = 1 → (s3.memBus sel bus).memFrame sel port = s3.memBus sel bus) := fun hsel =>
      if_neg (by omega)
    generalize (s3.memBus sel bus).memFrame sel port = s5 at heq hdrop hreg hmem hplain
    obtain ⟨t, ht, htregs, htmem, htsame⟩ := memUecc_end s5 sel addr
    rw [← ht] at heq
    rw [← htmem] at hmem
    have hstored : (sel.val = 0 ∨ 4 ≤ sel.val) → ∀ x, t.byte x = (s.store (addr.val / 8 * 8) (List.replicate 8 0)).byte x :=
      fun hsel x => byte_of_mem (by rw [hmem, if_pos hsel, store_mem]) x
    have hkept : ¬(sel.val = 0 ∨ 4 ≤ sel.val) → SameMem s t := fun hsel => sameMem_of_mem (by rw [hmem]; exact if_neg hsel)
    refine ⟨t, heq, ?_, ?_, fun hsel => ?_, fun a ha => ?_, fun h1 h3 => hkept (by omega), fun n hsel hn => ?_,
      fun b r hsel hb hr hlt => ?_⟩
    · rw [reg_of_regs htregs, hreg _ (not_isFailReg_uecc sel).1 (by simp)]; exact huecc
    · rw [reg_of_regs htregs, hreg _ (not_isFailReg_uecc sel).2 (by simp)]; exact hlast
    · exact bytes_stored (by simp) (hstored hsel)
    · by_cases hsel : sel.val = 0 ∨ 4 ≤ sel.val
      · rw [hstored hsel, byte_store_outside (by simpa using ha)]
      · exact hkept hsel a
    · rw [reg_of_regs htregs, hdrop n hsel hn]; rfl
    · rw [htsame (by omega) (by omega), hplain hsel]; exact hmark b r hsel hb hr hlt
  case derate =>
    obtain ⟨t, heq, hrep⟩ := dramDerate_reports ctl multiple mr4 hot s
    obtain ⟨hhot, hderate, hrmax, hrhot, hregs⟩ :=
      derated_frame s ctl (if hot then 4 else if multiple ≤ 1 then 1 else if multiple = 2 then 2 else 4) hot
    have hmem := hrep.field State.memory fun _ => rfl
    have hreg : ∀ q, t.reg q = _ := fun q => hrep.2 q (List.not_mem_nil)
    refine ⟨t, heq, by rw [hmem]; exact hhot, by rw [hmem]; exact hderate, by rw [hreg, hmem]; exact hrmax,
      by rw [hreg, hmem]; exact hrhot, hregs.trans (hrep.2.mono (by simp)), sameMem_of_mem (exec_mem rfl heq)⟩

end Sys2Proof.Machine
end

section
/-!
PROOFS. Route edits (02, R65 to R70).
-/
namespace Sys2Proof.Machine

/-! How a batch is answered (R67). -/

/-- A batch that is refused changes the status and the detail. -/
def State.refuseBatch (s : State) (p c pos : Nat) : State := (s.editStatus p c).setReg (Reg.routeEditDetail p) pos
/-- A batch that passes its checks waits for its tick. -/
def State.holdBatch (s : State) (p : Nat) (batch : List Byte) (due : Nat) : State :=
  (s.modPlot p fun x => { x with
    batches := x.batches ++ [{ due := due, routes := (records 16 batch).map readRoute, recheck := false, edit := (s.plot p).edits }]
    edits := x.edits + 1 }).editStatus p 1

section
variable (s : State) (p c pos : Nat)

theorem reports_refuseBatch : Reports s (s.refuseBatch p c pos) [Reg.routeEditStatus p, Reg.routeEditDetail p] :=
  .trans (.setReg (by simp) _) (.setReg (by simp) _)
@[simp] theorem refuseBatch_status : (s.refuseBatch p c pos).reg (Reg.routeEditStatus p) = c := by
  unfold State.refuseBatch State.editStatus
  rw [reg_setReg_other _ _ _ _ (by simp), reg_setReg_same]
@[simp] theorem refuseBatch_detail : (s.refuseBatch p c pos).reg (Reg.routeEditDetail p) = pos := reg_setReg_same _ _ _

end

section
variable (s : State) (p : Nat) (batch : List Byte) (due : Nat)

@[simp] theorem holdBatch_status : (s.holdBatch p batch due).reg (Reg.routeEditStatus p) = 1 := reg_setReg_same _ _ _
theorem holdBatch_regs : SameRegs s (s.holdBatch p batch due) [Reg.routeEditStatus p] := by
  refine .trans (sameRegs_of_regs ?_ _) (.setReg (by simp) _)
  rfl
theorem holdBatch_batches : ((s.holdBatch p batch due).plot p).batches = (s.plot p).batches ++
    [⟨due, (records 16 batch).map readRoute, false, (s.plot p).edits⟩] := by
  simp [State.holdBatch, State.editStatus]
theorem holdBatch_routes : ((s.holdBatch p batch due).plot p).routes = (s.plot p).routes := by
  simp [State.holdBatch, State.editStatus]

end

section
variable {s : State} {p : Nat} {batch : List Byte} (due : Nat)

theorem acceptBatch_bad (h : batch = [] ∨ 4096 < batch.length ∨ batch.length % 16 ≠ 0) :
    s.acceptBatch p batch due = s.refuseBatch p 0x18 0 := by
  unfold State.acceptBatch
  exact if_pos h
variable (h0 : batch ≠ []) (h1 : batch.length ≤ 4096) (h2 : batch.length % 16 = 0)
include h0 h1 h2
theorem acceptBatch_noLast (hl : s.last p = none) : s.acceptBatch p batch due = s.refuseBatch p 0x1B 0 := by
  unfold State.acceptBatch
  rw [if_neg (by simp [h0, h2]; omega), hl]
  rfl
theorem acceptBatch_fails {l : Last} {c pos : Nat} (hl : s.last p = some l)
    (hc : s.checkBatch p l (records 16 batch) = some (c, pos)) : s.acceptBatch p batch due = s.refuseBatch p c pos := by
  unfold State.acceptBatch
  rw [if_neg (by simp [h0, h2]; omega), hl]
  dsimp only
  rw [hc]
  rfl
theorem acceptBatch_passes {l : Last} (hl : s.last p = some l) (hc : s.checkBatch p l (records 16 batch) = none) :
    s.acceptBatch p batch due = s.holdBatch p batch due := by
  unfold State.acceptBatch
  rw [if_neg (by simp [h0, h2]; omega), hl]
  dsimp only
  rw [hc]
  rfl

end

/-- A command that stores no bytes answers a state whose memory is as before. -/
theorem runs_of_exec {i : Instr} {s t : State} {P : State → Prop} (hb : storesBytes i = false) (h : exec i s = .next t)
    (hp : SameMem s t → P t) : Runs i s P := ⟨t, h, hp (sameMem_of_mem (exec_mem hb h))⟩

theorem runs_refuseBatch {s : State} {p : Fin 16} {batch : List Byte} {c pos : Nat} {P : State → Prop}
    (h : s.acceptBatch p batch s.actTick = s.refuseBatch p c pos)
    (hP : ∀ t : State, t.reg (Reg.routeEditStatus p) = (c : Int) → t.reg (Reg.routeEditDetail p) = (pos : Int) → t.plots = s.plots →
      SameRegs s t [Reg.routeEditStatus p, Reg.routeEditDetail p] → SameMem s t → P t) : Runs (.routeEdit p batch) s P := by
  have h' : exec (.routeEdit p batch) s = .next ((s.refuseBatch p c pos).reply 0) := by rw [← h]; rfl
  have hr : Reports s ((s.refuseBatch p c pos).reply 0) [Reg.routeEditStatus p, Reg.routeEditDetail p] :=
    (reports_refuseBatch s p c pos).trans (.reply _ _ _)
  exact ⟨_, h', hP _ (refuseBatch_status s p c pos) (refuseBatch_detail s p c pos) hr.plots hr.2 hr.sameMem⟩

/-! Routes of a plot with one more (R65). -/

theorem mem_mergeRoute_same (rs : List Route) (r : Route) : r ∈ mergeRoute rs r := by simp [mergeRoute]
theorem mem_mergeRoute_other (rs : List Route) {q r : Route} (h : q.sink ≠ r.sink) : q ∈ mergeRoute rs r ↔ q ∈ rs := by
  simp only [mergeRoute, List.mem_cons, List.mem_filter, decide_eq_true_eq]
  exact ⟨fun hq => hq.elim (fun he => absurd (congrArg Route.sink he) h) And.left, fun hq => .inr ⟨hq, h⟩⟩
theorem mem_mergeRoutes_other (l rs : List Route) {q : Route} (h : ∀ r ∈ l, r.sink ≠ q.sink) : q ∈ l.foldl mergeRoute rs ↔ q ∈ rs := by
  induction l generalizing rs with
  | nil => rfl
  | cons r l ih =>
    refine (ih _ fun x hx => h x (.tail _ hx)).trans (mem_mergeRoute_other rs (h r (.head _)).symm)
theorem mem_mergeRoutes (l rs : List Route) (hn : (l.map (·.sink)).Nodup) : ∀ r ∈ l, r ∈ l.foldl mergeRoute rs := by
  induction l generalizing rs with
  | nil => simp
  | cons a l ih =>
    obtain ⟨ha, hn'⟩ := List.nodup_cons.mp hn
    intro r hr
    rcases List.mem_cons.mp hr with rfl | hr
    · have hother : ∀ x ∈ l, x.sink ≠ r.sink := fun x hx he => ha (List.mem_map.mpr ⟨x, hx, he⟩)
      exact (mem_mergeRoutes_other l _ hother).mpr (mem_mergeRoute_same rs r)
    · exact ih (mergeRoute rs a) hn' r hr

/-! One record of an edit (R65, R69). -/

theorem startFade_frame (s : State) (p : Nat) (old : Option Route) (r : Route) : (s.startFade p old r).plots = s.plots ∧
    (s.startFade p old r).regs = s.regs ∧ ∀ x, x ≠ r.sink → (s.startFade p old r).sinkSt x = s.sinkSt x := by
  unfold State.startFade
  dsimp only
  split
  all_goals exact ⟨rfl, rfl, fun x hx => NTable.get_put_other _ _ _ _ _ hx⟩

theorem applyRoute_fading {s : State} {p edit : Nat} {r : Route} (h : (s.sinkSt r.sink).fade ≠ none) : (s.applyRoute p edit r).2 = true ∧
    ⟨edit, r⟩ ∈ ((s.applyRoute p edit r).1.plot p).held ∧ ((s.applyRoute p edit r).1.plot p).routes = (s.plot p).routes := by
  unfold State.applyRoute
  dsimp only
  rw [if_pos (Option.isSome_iff_ne_none.mpr h)]
  refine ⟨rfl, ?_⟩
  dsimp only
  generalize List.any _ _ = again
  generalize hs : s.modPlot p _ = s1
  have hp : (s1.when again fun s => s.bump (Reg.routeEditDropped p)).plot p = s1.plot p := by cases again <;> rfl
  rw [hp, ← hs, plot_modPlot_same]
  exact ⟨by simp, rfl⟩

/-- What a record on a sink that does not crossfade does. -/
structure RouteTaken (p : Nat) (r : Route) (s t : State) : Prop where
  routes : (t.plot p).routes = mergeRoute (s.plot p).routes r
  held : (t.plot p).held = (s.plot p).held
  batches : (t.plot p).batches = (s.plot p).batches
  regs : t.regs = s.regs
  sinks : ∀ x, x ≠ r.sink → t.sinkSt x = s.sinkSt x

theorem applyRoute_free {s : State} {p edit : Nat} {r : Route} (h : (s.sinkSt r.sink).fade = none) : (s.applyRoute p edit r).2 = false ∧
    RouteTaken p r s (s.applyRoute p edit r).1 := by
  unfold State.applyRoute
  dsimp only
  rw [if_neg (by simp [h])]
  refine ⟨rfl, ?_⟩
  dsimp only
  obtain ⟨u, hu⟩ : ∃ u, s.modPlot p (fun x => { x with routes := mergeRoute x.routes r }) = u := ⟨_, rfl⟩
  have hp : u.plot p = { s.plot p with routes := mergeRoute (s.plot p).routes r } := by rw [← hu, plot_modPlot_same]
  have hr : u.regs = s.regs := by rw [← hu]; rfl
  have hs : ∀ x, u.sinkSt x = s.sinkSt x := fun x => by rw [← hu]; rfl
  have key : ∀ same : Bool, RouteTaken p r s (if same then u else u.startFade p (s.routeOf p r.sink) r) := by
    intro same
    cases same with
    | true => exact ⟨by simp [hp], by simp [hp], by simp [hp], hr, fun x _ => hs x⟩
    | false =>
      obtain ⟨fp, fr, fs⟩ := startFade_frame u p (s.routeOf p r.sink) r
      have fq := plot_of_plots fp p
      exact ⟨by simp [fq, hp], by simp [fq, hp], by simp [fq, hp], fr.trans hr, fun x hx => (fs x hx).trans (hs x)⟩
  rw [hu]
  exact key _

/-- The next record of a batch, and whether one is held. -/
def applyNext (p edit : Nat) (e : State × Bool) (r : Route) : State × Bool :=
  ((e.1.applyRoute p edit r).1, e.2 || (e.1.applyRoute p edit r).2)

/-- What a batch on sinks that do not crossfade does. -/
structure RoutesTaken (p : Nat) (l : List Route) (s t : State) : Prop where
  routes : (t.plot p).routes = l.foldl mergeRoute (s.plot p).routes
  batches : (t.plot p).batches = (s.plot p).batches
  regs : t.regs = s.regs

theorem applyAll_free {p edit : Nat} (l : List Route) {s : State} (hn : (l.map (·.sink)).Nodup)
    (h : ∀ r ∈ l, (s.sinkSt r.sink).fade = none) : (l.foldl (applyNext p edit) (s, false)).2 = false ∧
    RoutesTaken p l s (l.foldl (applyNext p edit) (s, false)).1 := by
  induction l generalizing s with
  | nil => exact ⟨rfl, rfl, rfl, rfl⟩
  | cons r l ih =>
    obtain ⟨hr, hn'⟩ := List.nodup_cons.mp hn
    obtain ⟨hf, ht⟩ := applyRoute_free (p := p) (edit := edit) (h r (.head _))
    have he : applyNext p edit (s, false) r = ((s.applyRoute p edit r).1, false) := by simp [applyNext, hf]
    have hl : ∀ x ∈ l, ((s.applyRoute p edit r).1.sinkSt x.sink).fade = none := fun x hx => by
      rw [ht.sinks _ fun e => hr (List.mem_map.mpr ⟨x, hx, e⟩)]
      exact h x (.tail _ hx)
    obtain ⟨hf', ht'⟩ := ih hn' hl
    rw [List.foldl_cons, he]
    exact ⟨hf', by rw [ht'.routes, ht.routes]; rfl, ht'.batches.trans ht.batches, ht'.regs.trans ht.regs⟩

/-! What follows an edit leaves the routes: trackers, delivery and staging (01, R27; 02, R85). -/

/-- Two states alike in their plots and in a plot's edit status. -/
structure SameEdits (p : Fin 16) (s t : State) : Prop where
  plots : t.plots = s.plots
  status : t.reg (Reg.routeEditStatus p) = s.reg (Reg.routeEditStatus p)

namespace SameEdits
variable {p : Fin 16} {s t u : State}

theorem refl (p : Fin 16) (s : State) : SameEdits p s s := ⟨rfl, rfl⟩
theorem trans (h : SameEdits p s t) (h' : SameEdits p t u) : SameEdits p s u := ⟨h'.1.trans h.1, h'.2.trans h.2⟩
theorem plot (h : SameEdits p s t) (q : Nat) : t.plot q = s.plot q := plot_of_plots h.plots q
theorem of_overL {α : Type} {f : State → α → State} (l : List α) (h : ∀ s a, SameEdits p s (f s a)) (s : State) :
    SameEdits p s (overL l f s) :=
  ⟨overL_keeps l s fun s a _ => (h s a).plots, overL_keeps (g := fun s => s.reg (Reg.routeEditStatus p)) l s fun s a _ => (h s a).status⟩
theorem setReg {r : Reg} (h : Reg.routeEditStatus p ≠ r) (s : State) (v : Int) : SameEdits p s (s.setReg r v) :=
  ⟨rfl, reg_setReg_other _ _ _ _ h⟩

theorem stageDirect (s : State) (q : Nat) : SameEdits p s (s.stageDirect q) := by
  unfold State.stageDirect
  refine of_overL _ (fun s r => ?_) s
  exact ⟨rfl, rfl⟩
theorem deliver (s : State) (a : Auth) : SameEdits p s (s.deliver a) := ⟨rfl, rfl⟩
theorem deliverOf (s : State) (q : Nat) : SameEdits p s (s.deliverOf q) := of_overL _ deliver s
theorem plotFault (s : State) (q b : Nat) : SameEdits p s (s.plotFault q b) := by
  have h : Reports s (s.plotFault q b) [Reg.notifyDropped, Reg.plotFault q] := .plotFault (by simp) (by simp) b
  exact ⟨h.plots, h.2 _ (by simp)⟩
theorem rateFaults (s : State) (q : Nat) (was : Serving) : SameEdits p s (s.rateFaults q was) := by
  refine of_overL _ (fun s a => ?_) s
  dsimp only
  split
  · split
    · exact .refl _ _
    · exact plotFault _ _ _
  · exact .refl _ _
theorem served (s : State) (q : Nat) (was : Serving) : SameEdits p s (s.served q was) :=
  (deliverOf s q).trans (rateFaults _ q was)

theorem setTracker (s : State) (t : Nat) (k : TrackerSt) : SameEdits p s (s.setTracker t k) := ⟨rfl, rfl⟩
theorem swapTrackers (s : State) (base : Nat) (clocks : List Nat) : SameEdits p s (s.swapTrackers base clocks) := by
  unfold State.swapTrackers
  dsimp only
  refine .trans (of_overL _ (fun s t => ?_) s) (of_overL _ (fun s c => ?_) _)
  · split
    · exact (setTracker s t {}).trans
        (((setReg (by simp) _ _).trans (setReg (by simp) _ _)).trans (setReg (by simp; omega) _ _))
    · exact .refl _ _
  · split
    · exact .refl _ _
    · split
      · exact (setTracker s _ _).trans (setReg (by simp) _ _)
      · exact .refl _ _
theorem assignTrackers (s : State) (q : Nat) : SameEdits p s (s.assignTrackers q) :=
  (swapTrackers s _ _).trans (swapTrackers _ _ _)

end SameEdits

/-- Trackers, delivery and staging after an edit. -/
def State.settleEdit (s : State) (p : Fin 16) (was : Serving) : State := ((s.assignTrackers p).served p was).stageDirect p

theorem sameEdits_settleEdit (s : State) (p : Fin 16) (was : Serving) : SameEdits p s (s.settleEdit p was) :=
  ((SameEdits.assignTrackers s p).trans (.served _ p was)).trans (.stageDirect _ p)

/-! The check after a swap reads nothing that a batch's departure changes (R70). -/

/-- Two states alike in what the check of an edit reads. -/
structure SameRouting (s t : State) : Prop extends SameUnits s t where
  auths : t.auths = s.auths
  routes : ∀ p, (t.plot p).routes = (s.plot p).routes
  active : ∀ p, (t.plot p).active = (s.plot p).active

namespace SameRouting
variable {s t : State} (h : SameRouting s t)
include h

theorem last (p : Nat) : t.last p = s.last p := h.active p
theorem sigOwner (x : SigId) : t.sigOwner x = s.sigOwner x := by simp only [State.sigOwner, h.holder]
theorem mayRead (p i : Nat) : t.mayRead p i = s.mayRead p i := by simp only [State.mayRead, h.auths]
theorem bridgeSink (x : SigId) : t.bridgeSink x = s.bridgeSink x := by simp only [State.bridgeSink, h.sigOwner, h.routes]
theorem domainOf (x : SigId) (src : Bool) : t.domainOf x src = s.domainOf x src := by
  simp only [State.domainOf, h.bridgeSink, h.unitDomain]
theorem rateHz (l : Last) (x : SigId) (src : Bool) : t.rateHz l x src = s.rateHz l x src := by
  simp only [State.rateHz, State.family, h.nat, h.sapIn, h.sapOut, h.rxOf, h.txOf, h.sigMult]
theorem domainRateOk (l : Last) (r : Route) (ho : Option Nat) : t.domainRateOk l r ho = s.domainRateOk l r ho := by
  unfold State.domainRateOk State.family
  rw [h.domainOf, h.domainOf, h.rateHz, h.rateHz, h.nat]
theorem handoffReads (l : Last) (rs : List Route) (x : SigId) : t.handoffReads l rs x = s.handoffReads l rs x := by
  simp only [State.handoffReads, State.family, h.nat, h.rateHz]
theorem routeCode (p : Nat) (l : Last) (rs : List Route) (a b : Bool) (ho : Option Nat) (r : Route) :
    t.routeCode p l rs a b ho r = s.routeCode p l rs a b ho r := by
  simp only [State.routeCode, h.sigOwner, h.mayRead, h.domainRateOk]
theorem recheckFail (p : Nat) (b : RouteBatch) : t.recheckFail p b = s.recheckFail p b := by
  simp only [State.recheckFail, h.last, h.routes, h.routeCode, h.handoffReads]

end SameRouting

/-! Batches and held records that are due (R68 to R70). -/

/-- A plot whose due batches leave its list. -/
def State.takeDue (s : State) (p : Nat) : State :=
  s.modPlot p fun x => { x with batches := x.batches.filter fun b => !decide (b.due ≤ s.tick) }

theorem takeDue_plot (s : State) (p : Nat) : (s.takeDue p).plot p =
    { s.plot p with batches := (s.plot p).batches.filter fun b => !decide (b.due ≤ s.tick) } := plot_modPlot_same _ _ _

theorem sameRouting_takeDue (s : State) (p : Nat) : SameRouting s (s.takeDue p) where
  regs := rfl
  holdings := rfl
  auths := rfl
  routes q := by
    by_cases h : q = p
    · rw [h, takeDue_plot]
    · exact congrArg PlotSt.routes (plot_modPlot_other _ _ _ _ h)
  active q := by
    by_cases h : q = p
    · rw [h, takeDue_plot]
    · exact congrArg PlotSt.active (plot_modPlot_other _ _ _ _ h)

theorem exec_routeEditApply {s : State} {p : Fin 16} {b : RouteBatch}
    (h : (s.plot p).batches.filter (fun b => decide (b.due ≤ s.tick)) = [b]) :
    exec (.routeEditApply p) s = .next ((s.takeDue p).applyBatch p b) := by
  show execRouteEditApply p s = _
  unfold execRouteEditApply
  dsimp only
  rw [h]
  rfl

theorem applyBatch_discarded {s : State} {p : Nat} {b : RouteBatch} {pos : Nat} (hb : b.recheck = true)
    (hf : s.recheckFail p b = some pos) : s.applyBatch p b = (s.refuseBatch p 0x19 pos).logEvent 0x0304 1 p 0x19 pos := by
  unfold State.applyBatch
  rw [if_pos hb, hf]
  rfl

theorem applyBatch_applied {s : State} {p : Fin 16} {b : RouteBatch} (hb : b.recheck = false ∨ s.recheckFail p b = none) :
    s.applyBatch p b = ((b.routes.foldl (applyNext p b.edit) (s, false)).1.editStatus p
      (if (b.routes.foldl (applyNext p b.edit) (s, false)).2 then 2 else 0)).settleEdit p (s.serving p) := by
  have h : (if b.recheck then s.recheckFail p b else none) = none := by
    rcases hb with hb | hb
    · rw [hb]; rfl
    · rw [hb, ite_self]
  unfold State.applyBatch
  rw [h]
  rfl

/-- A held record that its sink's crossfade lets go takes effect. -/
theorem exec_routeHeldApply_ready {s : State} {p : Fin 16} {e : Nat} {r : Route} (hh : (s.plot p).held = [⟨e, r⟩])
    (hf : (s.sinkSt r.sink).fade = none) : ∃ u, RouteTaken p r (s.modPlot p fun x => { x with held := [] }) u ∧
      exec (.routeHeldApply p) s = .next ((u.when (u.reg (Reg.routeEditStatus p) == 2) fun s => s.editStatus p 0).settleEdit p
        (s.serving p)) := by
  have hm : s.modPlot p (fun x => { x with held := x.held.filter fun h => (s.sinkSt h.route.sink).fade.isSome }) =
      s.modPlot p fun x => { x with held := [] } := by
    have hx : ((s.plot p).held.filter fun h => (s.sinkSt h.route.sink).fade.isSome) = [] := by simp [hh, hf]
    unfold State.modPlot NTable.mod
    simp only [State.plot] at hx
    simp only [hx]
  have ht := (applyRoute_free (p := p) (edit := e) (s := s.modPlot p fun x => { x with held := [] }) (r := r) hf).2
  refine ⟨_, ht, ?_⟩
  have hu : (((s.modPlot p fun x => { x with held := [] }).applyRoute p e r).1.plot p).held = [] := by
    rw [ht.held, plot_modPlot_same]
  show execRouteHeldApply p s = _
  unfold execRouteHeldApply
  dsimp only
  have hr : ((s.plot p).held.filter fun h => (s.sinkSt h.route.sink).fade.isNone) = [⟨e, r⟩] := by simp [hh, hf]
  rw [hr, hm]
  have ho : overL [(⟨e, r⟩ : HeldRoute)] (fun s h => (s.applyRoute p h.edit h.route).1) (s.modPlot p fun x => { x with held := [] }) =
      ((s.modPlot p fun x => { x with held := [] }).applyRoute p e r).1 := rfl
  rw [ho, hu]
  simp [State.settleEdit]

/-- With every record's sink crossfading nothing held moves. -/
theorem exec_routeHeldApply_none {s : State} {p : Fin 16} (hh : ∀ h ∈ (s.plot p).held, (s.sinkSt h.route.sink).fade ≠ none) :
    ∃ u : State, (u.plot p).held = (s.plot p).held ∧ (u.plot p).routes = (s.plot p).routes ∧
      exec (.routeHeldApply p) s = .next (u.settleEdit p (s.serving p)) := by
  have hr : ((s.plot p).held.filter fun h => (s.sinkSt h.route.sink).fade.isNone) = [] := by
    simpa using hh
  refine ⟨s.modPlot p fun x => { x with held := x.held.filter fun h => (s.sinkSt h.route.sink).fade.isSome }, ?_, ?_, ?_⟩
  · rw [plot_modPlot_same]
    exact List.filter_eq_self.mpr fun h hm => Option.isSome_iff_ne_none.mpr (hh h hm)
  · rw [plot_modPlot_same]
  · show execRouteHeldApply p s = _
    unfold execRouteHeldApply
    dsimp only
    rw [hr]
    rfl

/-- Settles O22: each answer of a batch is one case of its acceptance; a due batch applies its records one after another, and
what follows the edit leaves plots and status. -/
theorem routeEdits : Obligations.RouteEdits := by
  intro p batch s
  refine ⟨?_, ?_, ?_, ?_, ?_, ?_, ?_, ?_⟩
  · intro h
    exact runs_refuseBatch (acceptBatch_bad _ h) fun t hs _ hp hr hm => ⟨hs, hp, hr, hm⟩
  · intro h0 h1 h2 hl
    exact runs_refuseBatch (acceptBatch_noLast _ h0 h1 h2 hl) fun t hs _ hp _ hm => ⟨hs, hp, hm⟩
  · intro l c pos h0 h1 h2 hl hc
    exact runs_refuseBatch (acceptBatch_fails _ h0 h1 h2 hl hc) fun t hs hd hp _ hm => ⟨hs, hd, hp, hm⟩
  · intro l h0 h1 h2 hl hc
    constructor
    · have h : exec (.routeEdit p batch) s = .next ((s.holdBatch p batch s.actTick).reply 0) := by
        rw [← acceptBatch_passes s.actTick h0 h1 h2 hl hc]; rfl
      exact runs_of_exec rfl h fun hm => ⟨holdBatch_status _ _ _ _, rfl, holdBatch_batches _ _ _ _, holdBatch_routes _ _ _ _,
        .trans (holdBatch_regs _ _ _ _) (sameRegs_of_regs rfl _), hm⟩
    · intro at_ st k lateOk hk
      have h : exec (.routeEditAt p at_ lateOk batch) s =
          .next (((s.holdBatch p batch k).noteAt k p (Reg.routeEditAt p) batch).reply st) := by
        show execRouteEditAt p at_ lateOk batch s = _
        unfold execRouteEditAt
        rw [hk]
        dsimp only
        rw [acceptBatch_passes k h0 h1 h2 hl hc, if_pos (holdBatch_status _ _ _ _)]
      exact runs_of_exec rfl h fun hm => ⟨holdBatch_status _ _ _ _, rfl, holdBatch_batches _ _ _ _, holdBatch_routes _ _ _ _, hm⟩
  · intro at_ c lateOk hc
    show execRouteEditAt p at_ lateOk batch s = _
    unfold execRouteEditAt
    rw [hc]
  · intro b hb
    have hrun := exec_routeEditApply hb
    have hsame := sameRouting_takeDue s p
    refine ⟨fun hok hn hfree => ?_, fun r hok hr hfade => ?_, fun pos hre hfail => ?_⟩
    · have hok' : b.recheck = false ∨ (s.takeDue p).recheckFail p b = none := by rwa [hsame.recheckFail]
      obtain ⟨hheld, htaken⟩ := applyAll_free (s := s.takeDue p) (p := p) (edit := b.edit) b.routes hn hfree
      rw [applyBatch_applied hok', hheld, if_neg Bool.false_ne_true] at hrun
      have hset := sameEdits_settleEdit ((b.routes.foldl (applyNext p b.edit) (s.takeDue p, false)).1.editStatus p 0) p
        ((s.takeDue p).serving p)
      have hroutes := (congrArg PlotSt.routes (hset.plot p)).trans htaken.routes
      rw [takeDue_plot] at hroutes
      refine runs_of_exec rfl hrun fun hm => ⟨fun r hr => ?_, ?_, ?_, fun q hq => ?_, hm⟩
      · rw [hroutes]
        exact mem_mergeRoutes b.routes _ hn r hr
      · exact ((congrArg PlotSt.batches (hset.plot p)).trans htaken.batches).trans (by rw [takeDue_plot])
      · exact hset.status.trans (reg_setReg_same _ _ _)
      · rw [hroutes]
        exact mem_mergeRoutes_other b.routes _ hq
    · have hok' : b.recheck = false ∨ (s.takeDue p).recheckFail p b = none := by rwa [hsame.recheckFail]
      obtain ⟨hheld, hin, hroutes⟩ := applyRoute_fading (s := s.takeDue p) (p := p) (edit := b.edit) hfade
      rw [applyBatch_applied hok', hr] at hrun
      simp only [List.foldl_cons, List.foldl_nil, applyNext, hheld, Bool.false_or, if_true] at hrun
      have hset := sameEdits_settleEdit (((s.takeDue p).applyRoute p b.edit r).1.editStatus p 2) p ((s.takeDue p).serving p)
      refine runs_of_exec rfl hrun fun hm => ⟨?_, ?_, ?_, hm⟩
      · rw [hset.plot]
        exact hin
      · exact ((congrArg PlotSt.routes (hset.plot p)).trans hroutes).trans (by rw [takeDue_plot])
      · exact hset.status.trans (reg_setReg_same _ _ _)
    · rw [applyBatch_discarded hre ((hsame.recheckFail p b).trans hfail)] at hrun
      have hrep : Reports (s.takeDue p) (((s.takeDue p).refuseBatch p 0x19 pos).logEvent 0x0304 1 p 0x19 pos)
          [Reg.routeEditStatus p, Reg.routeEditDetail p] := (reports_refuseBatch _ _ _ _).trans (.logEvent _ _ _ _ _ _ _)
      refine runs_of_exec rfl hrun fun hm => ⟨?_, ?_, ?_, hm⟩
      · exact refuseBatch_status (s.takeDue p) p 0x19 pos
      · exact refuseBatch_detail (s.takeDue p) p 0x19 pos
      · exact (congrArg PlotSt.routes (plot_of_plots hrep.plots p)).trans (by rw [takeDue_plot])
  · intro e r hh hf
    obtain ⟨u, ht, hrun⟩ := exec_routeHeldApply_ready hh hf
    have hset := sameEdits_settleEdit (u.when (u.reg (Reg.routeEditStatus p) == 2) fun s => s.editStatus p 0) p (s.serving p)
    have hplot : (u.when (u.reg (Reg.routeEditStatus p) == 2) fun s => s.editStatus p 0).plot p = u.plot p := by
      cases u.reg (Reg.routeEditStatus p) == 2 <;> rfl
    refine runs_of_exec rfl hrun fun hm => ⟨?_, ?_, fun hst => ?_, hm⟩
    · rw [hset.plot, hplot, ht.routes]
      exact mem_mergeRoute_same _ _
    · rw [hset.plot, hplot, ht.held, plot_modPlot_same]
    · have hu : u.reg (Reg.routeEditStatus p) = 2 := (reg_of_regs ht.regs _).trans hst
      refine hset.status.trans ?_
      rw [hu]
      exact reg_setReg_same _ _ _
  · intro hh
    obtain ⟨u, hheld, hroutes, hrun⟩ := exec_routeHeldApply_none hh
    have hset := sameEdits_settleEdit u p (s.serving p)
    exact runs_of_exec rfl hrun fun hm => ⟨by rw [hset.plot, hheld], by rw [hset.plot, hroutes], hm⟩

end Sys2Proof.Machine
end

section
/-!
PROOFS. Install, cancel, commit and swap of a plot last (01, R41 to R50).
-/
namespace Sys2Proof.Machine

/-! Batches of grants that waited for the checks (07, R203). -/

/-- What the batches of a plot that waited change: what is to be released, and the answer. -/
structure AssignsOnly (p : Nat) (s t : State) : Prop where
  plot : ∃ r, t.plot p = { s.plot p with releases := r }
  regs : SameRegs s t [Reg.assignStatus p, Reg.assignDetail p]

namespace AssignsOnly
variable {p : Nat} {s t u : State}

theorem refl (p : Nat) (s : State) : AssignsOnly p s s := ⟨⟨_, rfl⟩, .refl _ _⟩
theorem trans (h : AssignsOnly p s t) (h' : AssignsOnly p t u) : AssignsOnly p s u := by
  obtain ⟨⟨r, hr⟩, hg⟩ := h
  obtain ⟨⟨r', hr'⟩, hg'⟩ := h'
  exact ⟨⟨r', by rw [hr', hr]⟩, hg.trans hg'⟩
theorem of_overL {α : Type} {f : State → α → State} (l : List α) (h : ∀ s a, AssignsOnly p s (f s a)) (s : State) :
    AssignsOnly p s (overL l f s) := by
  induction l generalizing s with
  | nil => exact refl p s
  | cons a l ih => exact (h s a).trans (ih _)

theorem assignStatus (s : State) (c pos : Nat) : AssignsOnly p s (s.assignStatus p c pos) :=
  ⟨⟨_, rfl⟩, .trans (.setReg (by simp) _) (.setReg (by simp) _)⟩

theorem assign (s : State) (grant : Bool) (batch : List Byte) : AssignsOnly p s (s.assign p grant batch) := by
  unfold State.assign
  split
  · exact assignStatus _ _ _
  · dsimp only
    split
    · exact assignStatus _ _ _
    · obtain ⟨u, hu⟩ : ∃ u, s.setReg (Reg.assignStatus p) 0 = u := ⟨_, rfl⟩
      have h : AssignsOnly p s u := hu ▸ ⟨⟨_, rfl⟩, .setReg (by simp) _⟩
      rw [hu]
      refine h.trans ?_
      split
      · exact ⟨⟨_, rfl⟩, sameRegs_of_regs rfl _⟩
      · exact ⟨⟨_, plot_modPlot_same _ _ _⟩, sameRegs_of_regs rfl _⟩

theorem all (s : State) (l : List (Bool × List Byte)) : AssignsOnly p s (overL l (fun s e => s.assign p e.1 e.2) s) :=
  of_overL l (fun s e => assign s e.1 e.2) s

end AssignsOnly

/-- After the batches that waited none waits; all else of the plot but its releases is as before. -/
theorem assignWaiting_frame (s : State) (p : Nat) : (∃ r, (s.assignWaiting p).plot p = { s.plot p with waiting := [], releases := r }) ∧
    SameRegs s (s.assignWaiting p) [Reg.assignStatus p, Reg.assignDetail p] := by
  obtain ⟨⟨r, hr⟩, hg⟩ := AssignsOnly.all (p := p) (s.modPlot p fun x => { x with waiting := [] }) (s.plot p).waiting
  rw [plot_modPlot_same] at hr
  exact ⟨⟨r, hr⟩, .trans (sameRegs_of_regs rfl _) hg⟩

/-! An image that is discarded (R49, R50). -/

/-- The registers of a plot's last on its way. -/
@[reducible] def lastRegs (p : Nat) : List Reg :=
  [Reg.lastState p, Reg.lastError p, Reg.lastErrorDetail p, Reg.lastShadowSerial p, Reg.lastSwapTick p]

theorem setRegs_plot (s : State) (l : List (Reg × Int)) (p : Nat) : (s.setRegs l).plot p = s.plot p :=
  setRegs_keeps (g := fun s => s.plot p) (fun _ _ _ => rfl) s l

section
variable (s : State) (p code : Nat)

theorem dropImage_plot : (s.dropImage p code).plot p = { s.plot p with staged := none, shadow := none, partnerOk := false, late := false } := by
  unfold State.dropImage
  rw [setRegs_plot, plot_modPlot_same]
theorem dropImage_state : (s.dropImage p code).reg (Reg.lastState p) = 0 := by simp [State.dropImage, State.setRegs, reg_setReg]
theorem dropImage_error : (s.dropImage p code).reg (Reg.lastError p) = code := by simp [State.dropImage, State.setRegs, reg_setReg]
theorem dropImage_regs : SameRegs s (s.dropImage p code) (lastRegs p) := by
  refine .trans (sameRegs_of_regs (t := s.modPlot p fun x => { x with staged := none, shadow := none, partnerOk := false, late := false }) rfl _) ?_
  exact (Reports.setRegs (by simp)).2
theorem dropImage_mem : (s.dropImage p code).mem = s.mem := by
  refine setRegs_keeps (g := State.mem) (fun _ _ _ => rfl) _ _

end

/-! What the engine writes of a committed last (R46, R50). -/

/-- Two states alike in plots, registers and memory. -/
structure SameStore (s t : State) : Prop where
  plots : t.plots = s.plots
  regs : t.regs = s.regs
  mem : t.mem = s.mem

namespace SameStore
variable {s t u : State}

theorem refl (s : State) : SameStore s s := ⟨rfl, rfl, rfl⟩
theorem trans (h : SameStore s t) (h' : SameStore t u) : SameStore s u :=
  ⟨h'.1.trans h.1, h'.2.trans h.2, h'.3.trans h.3⟩
theorem of_overL {α : Type} {f : State → α → State} (l : List α) (h : ∀ s a, SameStore s (f s a)) (s : State) :
    SameStore s (overL l f s) := by
  induction l generalizing s with
  | nil => exact refl s
  | cons a l ih => exact (h s a).trans (ih _)
theorem touch (s : State) (a n : Nat) : SameStore s (s.touch a n) := ⟨by simp, by simp, by simp⟩

theorem putFcuWords (s : State) (u bank w : Nat) (l : List Int) : SameStore s (s.putFcuWords u bank w l) := by
  unfold State.putFcuWords
  refine .trans (t := { s with fcuCoef := _ }) ?_ (touch _ _ _)
  exact ⟨rfl, rfl, rfl⟩
theorem putCoefs (s : State) (bank off : Nat) (cs : List Int) : SameStore s (s.putCoefs bank off cs) := by
  unfold State.putCoefs
  refine .trans (t := { s with areCoef := _ }) ?_ (touch _ _ _)
  exact ⟨rfl, rfl, rfl⟩
theorem overN {f : State → Nat → State} (n : Nat) (h : ∀ s i, SameStore s (f s i)) (s : State) : SameStore s (overN n f s) :=
  of_overL _ h s
theorem when (b : Bool) {f : State → State} (h : ∀ s, SameStore s (f s)) (s : State) : SameStore s (s.when b f) := by
  cases b
  · exact refl s
  · exact h s
theorem writeRegions (s : State) (old : Option Last) (new : Last) : SameStore s (s.writeRegions old new) := by
  unfold State.writeRegions
  dsimp only
  refine .trans (of_overL _ (fun s r => overN 2 (fun s b => ?_) s) s) (of_overL _ (fun s r => putCoefs s _ _ _) _)
  split
  · exact ⟨rfl, rfl, rfl⟩
  · exact refl _

end SameStore

/-- The program and data memory of a committed last's cores. -/
def State.writeCores (s : State) (new : Last) : State :=
  overL (new.dm.filter fun r => !r.live) (fun s r => s.store (nearAddr r.core r.addr) r.bytes)
    (overL new.pm (fun s r => s.store (pmBase r.core + 8 * r.addr) r.code) s)

theorem sameStore_writeAhead (s : State) (restoring : Bool) (old : Option Last) (new : Last) :
    SameStore (s.writeCores new) (s.writeAhead restoring old new) := by
  unfold State.writeAhead
  refine .trans (.of_overL _ (fun s i => ?_) _) (.when _ (fun s => ?_) _)
  · exact ⟨rfl, rfl, rfl⟩
  exact .trans (.of_overL _ (fun s r => (SameStore.putFcuWords s _ _ _ _).trans (.putFcuWords _ _ _ _ _)) s) (.writeRegions _ _ _)

theorem writeCores_plots (s : State) (new : Last) : (s.writeCores new).plots = s.plots :=
  (overL_keeps _ _ fun _ _ _ => by simp [State.store]).trans (overL_keeps _ _ fun _ _ _ => by simp [State.store])
theorem writeCores_regs (s : State) (new : Last) : (s.writeCores new).regs = s.regs :=
  (overL_keeps _ _ fun _ _ _ => store_regs _ _ _).trans (overL_keeps _ _ fun _ _ _ => store_regs _ _ _)
theorem writeCores_one (s : State) {new : Last} {r : PmRec} (hp : new.pm = [r]) (hd : new.dm = []) :
    s.writeCores new = s.store (pmBase r.core + 8 * r.addr) r.code := by
  unfold State.writeCores
  rw [hp, hd]
  rfl

theorem commit_plots (s : State) (p : Nat) : (s.commit p).plots = s.plots := by
  unfold State.commit
  split
  · exact (sameStore_writeAhead _ _ _ _).plots.trans (writeCores_plots _ _)
  · rfl
theorem commit_regs (s : State) (p : Nat) : SameRegs s (s.commit p) [Reg.lastState p] := by
  unfold State.commit
  refine .trans (sameRegs_of_regs ?_ _) (.setReg (by simp) _)
  split
  · exact (sameStore_writeAhead _ _ _ _).regs.trans (writeCores_regs _ _)
  · rfl
@[simp] theorem commit_state (s : State) (p : Nat) : (s.commit p).reg (Reg.lastState p) = 4 := reg_setReg_same _ _ _
theorem commit_mem {s : State} {p : Nat} {new : Last} {r : PmRec} (hs : (s.plot p).shadow = some new) (hp : new.pm = [r])
    (hd : new.dm = []) : (s.commit p).mem = (s.store (pmBase r.core + 8 * r.addr) r.code).mem := by
  unfold State.commit
  rw [hs]
  refine (sameStore_writeAhead s _ _ new).mem.trans ?_
  rw [writeCores_one s hp hd]


/-! The checks of an image end (R42, R43). -/

theorem exec_lastChecksComplete_idle {s : State} {p : Fin 16}
    (h : s.reg (Reg.lastState p) ≠ 2 ∨ s.rst.kind ≠ 0 ∨ (s.plot p).staged = none) : exec (.lastChecksComplete p) s = .next s := by
  have hn : (if s.reg (Reg.lastState p) = 2 ∧ s.rst.kind = 0 then (s.plot p).staged else none) = none := by
    split
    · next hg => rcases h with h | h | h
                 · exact absurd hg.1 h
                 · exact absurd hg.2 h
                 · exact h
    · rfl
  show execLastChecksComplete p s = _
  unfold execLastChecksComplete
  dsimp only
  rw [hn]

/-- The shadow that an image which passed its checks becomes. -/
def State.makeShadow (s : State) (p : Nat) (b : List Byte) : State :=
  (s.modPlot p fun x => { x with shadow := some (readImage b).toLast, staged := none, partnerOk := false, late := false, nextImage := b }).setRegs
    [(Reg.lastState p, 3), (Reg.lastError p, 0), (Reg.lastErrorDetail p, 0), (Reg.lastShadowSerial p, (readImage b).toLast.serial),
      (Reg.lastSwapTick p, ((s.swapTick (s.plot p).wantTick).getD 0 : Nat))]
/-- The image that fails is discarded with its code and detail, and the root log has it. -/
def State.failImage (s : State) (p c d : Nat) : State :=
  ((s.dropImage p c).setReg (Reg.lastErrorDetail p) d).logEvent 0x0301 1 p c d

section
variable {s : State} {p : Fin 16} {b : List Byte} (h2 : s.reg (Reg.lastState p) = 2) (h0 : s.rst.kind = 0)
  (hb : (s.plot p).staged = some b)
include h2 h0 hb

theorem exec_lastChecksComplete_fails {c d : Nat} (hf : s.installFault p b (s.plot p).stagedOwner (s.plot p).wantTick = some (c, d)) :
    exec (.lastChecksComplete p) s = .next ((s.failImage p c d).assignWaiting p) := by
  show execLastChecksComplete p s = _
  unfold execLastChecksComplete
  dsimp only
  rw [if_pos ⟨h2, h0⟩, hb]
  dsimp only
  rw [hf]
  rfl

theorem exec_lastChecksComplete_passes (hf : s.installFault p b (s.plot p).stagedOwner (s.plot p).wantTick = none) :
    exec (.lastChecksComplete p) s = .next ((s.makeShadow p b).assignWaiting p) := by
  show execLastChecksComplete p s = _
  unfold execLastChecksComplete
  dsimp only
  rw [if_pos ⟨h2, h0⟩, hb]
  dsimp only
  rw [hf]
  rfl

end

theorem failImage_plot (s : State) (p c d : Nat) : (s.failImage p c d).plot p = (s.dropImage p c).plot p := by
  unfold State.failImage
  generalize s.dropImage p c = u
  rfl
theorem failImage_regs (s : State) (p c d : Nat) : SameRegs (s.dropImage p c) (s.failImage p c d) [Reg.lastErrorDetail p] := by
  unfold State.failImage
  exact .trans (.setReg (by simp) _) (Reports.logEvent _ _ _ _ _ _ _).2
theorem failImage_detail (s : State) (p c d : Nat) : (s.failImage p c d).reg (Reg.lastErrorDetail p) = d := by
  unfold State.failImage
  generalize s.dropImage p c = u
  exact reg_setReg_same _ _ _

theorem lastChecksComplete_fails {s : State} {p : Fin 16} {b : List Byte} {c d : Nat} (h2 : s.reg (Reg.lastState p) = 2)
    (h0 : s.rst.kind = 0) (hb : (s.plot p).staged = some b)
    (hf : s.installFault p b (s.plot p).stagedOwner (s.plot p).wantTick = some (c, d)) :
    Runs (.lastChecksComplete p) s fun t => t.reg (Reg.lastState p) = 0 ∧ t.reg (Reg.lastError p) = c ∧
      t.reg (Reg.lastErrorDetail p) = d ∧ (t.plot p).staged = none ∧ (t.plot p).active = (s.plot p).active ∧
      (t.plot p).waiting = [] ∧ SameMem s t := by
  obtain ⟨⟨r, hr⟩, hg⟩ := assignWaiting_frame (s.failImage p c d) p
  rw [failImage_plot, dropImage_plot] at hr
  have hq := failImage_regs s p c d
  refine runs_of_exec rfl (exec_lastChecksComplete_fails h2 h0 hb hf) fun hm => ⟨?_, ?_, ?_, ?_, ?_, ?_, hm⟩
  · rw [hg _ (by simp), hq _ (by simp), dropImage_state]
  · rw [hg _ (by simp), hq _ (by simp), dropImage_error]
  · rw [hg _ (by simp), failImage_detail]
  all_goals rw [hr]

theorem lastChecksComplete_passes {s : State} {p : Fin 16} {b : List Byte} (h2 : s.reg (Reg.lastState p) = 2)
    (h0 : s.rst.kind = 0) (hb : (s.plot p).staged = some b)
    (hf : s.installFault p b (s.plot p).stagedOwner (s.plot p).wantTick = none) :
    Runs (.lastChecksComplete p) s fun t => t.reg (Reg.lastState p) = 3 ∧ t.reg (Reg.lastError p) = 0 ∧
      (t.plot p).shadow = some (readImage b).toLast ∧ t.reg (Reg.lastShadowSerial p) = (readImage b).toLast.serial ∧
      t.reg (Reg.lastSwapTick p) = ((s.swapTick (s.plot p).wantTick).getD 0 : Nat) ∧
      (t.plot p).staged = none ∧ (t.plot p).active = (s.plot p).active ∧ (t.plot p).waiting = [] ∧ SameMem s t := by
  obtain ⟨⟨r, hr⟩, hg⟩ := assignWaiting_frame (s.makeShadow p b) p
  rw [show (s.makeShadow p b).plot p = _ from (setRegs_plot _ _ _).trans (plot_modPlot_same _ _ _)] at hr
  refine runs_of_exec rfl (exec_lastChecksComplete_passes h2 h0 hb hf) fun hm => ⟨?_, ?_, ?_, ?_, ?_, ?_, ?_, ?_, hm⟩
  · rw [hg _ (by simp)]; simp [State.makeShadow, State.setRegs, reg_setReg]
  · rw [hg _ (by simp)]; simp [State.makeShadow, State.setRegs, reg_setReg]
  · rw [hr]
  · rw [hg _ (by simp)]; simp [State.makeShadow, State.setRegs, reg_setReg]
  · rw [hg _ (by simp)]; simp [State.makeShadow, State.setRegs, reg_setReg]
  all_goals rw [hr]

/-! Cancel, commit and the partner's time-out (R48 to R50). -/

theorem lastCancel_taken {s : State} {p : Fin 16} (h : s.reg (Reg.lastState p) = 1 ∨ s.reg (Reg.lastState p) = 2 ∨
    (3 ≤ s.reg (Reg.lastState p) ∧ s.tick + 16 < s.nat (Reg.lastSwapTick p) ∧ (s.plot p).late = false)) :
    Runs (.lastCancel p) s fun t => t.reg (Reg.lastState p) = 0 ∧ t.reg (Reg.lastError p) = 0x20 ∧
      (t.plot p).staged = none ∧ (t.plot p).shadow = none ∧ (t.plot p).active = (s.plot p).active ∧
      t.answer.status = 0 ∧ SameMem s t := by
  have hrun : exec (.lastCancel p) s = .next (((s.dropImage p 0x20).assignWaiting p).reply 0) := by
    show execLastCancel p s = _
    unfold execLastCancel
    dsimp only
    have h0 : s.nat (Reg.lastState p) ≠ 0 := by unfold State.nat; omega
    have h1 : s.nat (Reg.lastState p) ≤ 2 ∨ (s.tick + 16 < s.nat (Reg.lastSwapTick p) ∧ (s.plot p).late = false) := by
      rcases h with h | h | ⟨_, h⟩
      · left; unfold State.nat; omega
      · left; unfold State.nat; omega
      · exact .inr h
    rw [if_neg h0, if_pos h1]
  obtain ⟨⟨r, hr⟩, hg⟩ := assignWaiting_frame (s.dropImage p 0x20) p
  rw [dropImage_plot] at hr
  refine runs_of_exec rfl hrun fun hm => ⟨?_, ?_, ?_, ?_, ?_, rfl, hm⟩
  · rw [reg_reply, hg _ (by simp), dropImage_state]
  · rw [reg_reply, hg _ (by simp), dropImage_error]; rfl
  all_goals rw [plot_reply, hr]

theorem lastCancel_late {s : State} {p : Fin 16} (h3 : 3 ≤ s.reg (Reg.lastState p))
    (h : s.nat (Reg.lastSwapTick p) ≤ s.tick + 16 ∨ (s.plot p).late = true) :
    Runs (.lastCancel p) s fun t => t.reg (Reg.lastError p) = 0x21 ∧ t.plots = s.plots ∧
      SameRegs s t [Reg.lastError p, Reg.lastErrorDetail p] ∧ SameMem s t := by
  have hrun : exec (.lastCancel p) s = .next ((s.setRegs [(Reg.lastError p, 0x21), (Reg.lastErrorDetail p, 0)]).reply 0) := by
    show execLastCancel p s = _
    unfold execLastCancel
    dsimp only
    have h0 : s.nat (Reg.lastState p) ≠ 0 := by unfold State.nat; omega
    have h1 : ¬(s.nat (Reg.lastState p) ≤ 2 ∨ (s.tick + 16 < s.nat (Reg.lastSwapTick p) ∧ (s.plot p).late = false)) := by
      have h2 : 2 < s.nat (Reg.lastState p) := by unfold State.nat; omega
      rcases h with h | h
      · rintro (hn | ⟨hn, _⟩)
        · exact Nat.not_le.mpr h2 hn
        · exact Nat.not_lt.mpr h hn
      · rintro (hn | ⟨_, hn⟩)
        · exact Nat.not_le.mpr h2 hn
        · exact absurd (h.symm.trans hn) Bool.noConfusion
    rw [if_neg h0, if_neg h1]
  have hrep : Reports s ((s.setRegs [(Reg.lastError p, 0x21), (Reg.lastErrorDetail p, 0)]).reply 0)
      [Reg.lastError p, Reg.lastErrorDetail p] := (Reports.setRegs (by simp)).trans (.reply _ _ _)
  refine runs_of_exec rfl hrun fun hm => ⟨?_, hrep.plots, hrep.2, hm⟩
  simp [State.setRegs, reg_setReg]

theorem exec_shadowCommit {s : State} {p : Fin 16} (h3 : s.reg (Reg.lastState p) = 3) (ht : s.tick ≤ s.nat (Reg.lastSwapTick p))
    (h : s.swapsTogether = false ∧ s.nat (Reg.lastSwapTick p) ≤ s.tick + 16 ∨ s.swapsTogether = true ∧
      (s.plot p).partnerOk = true ∧ s.tick + (if s.reg Reg.pairRole = 0 then 32 else 16) ≤ s.nat (Reg.lastSwapTick p)) :
    exec (.shadowCommit p) s = .next (s.commit p) := by
  show execShadowCommit p s = _
  unfold execShadowCommit
  dsimp only
  rw [if_neg (by simp [h3]; omega)]
  rcases h with ⟨hw, hl⟩ | ⟨hw, hl⟩
  · rw [if_neg (by simp [hw]), if_pos hl]
  · rw [if_pos hw, if_pos hl]

theorem exec_shadowCommit_idle {s : State} {p : Fin 16} (h : s.reg (Reg.lastState p) ≠ 3 ∨ s.nat (Reg.lastSwapTick p) < s.tick ∨
    (s.swapsTogether = false ∧ s.tick + 16 < s.nat (Reg.lastSwapTick p)) ∨ (s.swapsTogether = true ∧
      ((s.plot p).partnerOk = false ∨ s.nat (Reg.lastSwapTick p) < s.tick + (if s.reg Reg.pairRole = 0 then 32 else 16)))) :
    exec (.shadowCommit p) s = .next s := by
  show execShadowCommit p s = _
  unfold execShadowCommit
  dsimp only
  rcases h with h | h | ⟨hw, hl⟩ | ⟨hw, hl⟩
  · rw [if_pos (.inl h)]
  · rw [if_pos (.inr h)]
  · rw [if_neg (by simp [hw] : ¬s.swapsTogether = true), if_neg (Nat.not_le.mpr hl), ite_self]
  · have hn : ¬((s.plot p).partnerOk = true ∧ s.tick + (if s.reg Reg.pairRole = 0 then 32 else 16) ≤ s.nat (Reg.lastSwapTick p)) := by
      rintro ⟨hp, hle⟩
      rcases hl with hl | hl
      · rw [hl] at hp
        exact absurd hp Bool.false_ne_true
      · exact Nat.not_lt.mpr hle hl
    rw [if_pos hw, if_neg hn, ite_self]

theorem exec_pairSwapTimeout {s : State} {p : Fin 16} (hw : s.swapsTogether = true) (h3 : s.reg (Reg.lastState p) = 3)
    (ht : s.nat (Reg.lastSwapTick p) < s.tick + (if s.reg Reg.pairRole = 0 then 32 else 16)) :
    exec (.pairSwapTimeout p) s = .next ((if s.reg Reg.pairRole = 0 ∧ s.reg Reg.pairState = 2 then s.commit p else s.dropImage p 0x1F).when
      (decide (s.reg Reg.pairState = 2)) fun s => s.setReg Reg.graftPhase 3) := by
  show execPairSwapTimeout p s = _
  unfold execPairSwapTimeout
  simp only [beq_iff_eq]
  rw [if_pos ⟨hw, h3, ht⟩]
  by_cases h2 : s.reg Reg.pairState = 2 <;> simp [State.when, h2]

theorem exec_pairSwapTimeout_idle {s : State} {p : Fin 16} (h : s.swapsTogether = false ∨ s.reg (Reg.lastState p) ≠ 3 ∨
    s.tick + (if s.reg Reg.pairRole = 0 then 32 else 16) ≤ s.nat (Reg.lastSwapTick p)) : exec (.pairSwapTimeout p) s = .next s := by
  show execPairSwapTimeout p s = _
  unfold execPairSwapTimeout
  simp only [beq_iff_eq]
  refine if_neg ?_
  rintro ⟨hw, h3, ht⟩
  rcases h with h | h | h
  · rw [h] at hw
    exact absurd hw Bool.false_ne_true
  · exact h h3
  · exact Nat.not_le.mpr ht h

/-- Settles O23: each command is one case of its guard; what waits for the checks touches the answers of grants alone. -/
theorem lastInstallAndCancel : Obligations.LastInstallAndCancel := by
  intro p s
  refine ⟨fun owner image => ⟨fun hst hpl => ?_, fun h => ?_⟩, fun n => ⟨fun hst hpl => ?_, fun h => ?_⟩, ?_, ?_, ?_, ?_, ?_, ?_, ?_, ?_, ?_⟩
  · have h : exec (.lastStage p owner image) s = .next (((s.modPlot p fun x =>
        { x with staged := some image, stagedOwner := owner }).setReg (Reg.lastState p) 1).reply 0) :=
      if_neg (by simp [State.lastBusy, hst, hpl])
    refine runs_of_exec rfl h fun hm => ⟨?_, ?_, ?_, rfl, ?_, ?_, hm⟩
    · simp
    · simp
    · simp
    · exact (SameRegs.trans (sameRegs_of_regs (t := s.modPlot p fun x => { x with staged := some image, stagedOwner := owner }) rfl _)
        (.setReg (by simp) _)).trans (sameRegs_of_regs rfl _)
    · simp
  · exact if_pos (by simpa [State.lastBusy] using h)
  · have h : exec (.lastInstall p n) s = .next (((s.modPlot p fun x => { x with wantTick := n }).setReg (Reg.lastState p) 2).reply 0) :=
      if_neg (by simp [hst, hpl])
    refine runs_of_exec rfl h fun hm => ⟨by simp, by simp, rfl, ?_, hm⟩
    exact (SameRegs.trans (sameRegs_of_regs (t := s.modPlot p fun x => { x with wantTick := n }) rfl _)
      (.setReg (by simp) _)).trans (sameRegs_of_regs rfl _)
  · exact if_pos h
  · intro b c d h2 h0 hb hf
    exact lastChecksComplete_fails h2 h0 hb hf
  · intro b h2 h0 hb hf
    exact lastChecksComplete_passes h2 h0 hb hf
  · exact exec_lastChecksComplete_idle
  · exact lastCancel_taken
  · exact lastCancel_late
  · intro h3 ht h
    refine ⟨_, exec_shadowCommit h3 ht h, commit_state _ _, commit_regs _ _, commit_plots _ _, fun new r hs hp hd => ⟨?_, fun a ha => ?_⟩⟩
    · rw [bytes_of_mem (commit_mem hs hp hd), bytes_store]
    · rw [byte_of_mem (commit_mem hs hp hd), byte_store_outside ha]
  · exact exec_shadowCommit_idle
  · intro hw h3 ht
    refine ⟨_, exec_pairSwapTimeout hw h3 ht, fun h => ?_, fun h => ?_, fun h => ?_⟩
    · rw [if_pos h, decide_eq_true h.2]
      exact ⟨(reg_setReg_other _ _ _ _ (by simp)).trans (commit_state _ _), commit_plots s p⟩
    · rw [if_neg (by omega : ¬(s.reg Reg.pairRole = 0 ∧ s.reg Reg.pairState = 2))]
      have hrep : Reports (s.dropImage p 0x1F) ((s.dropImage p 0x1F).when (decide (s.reg Reg.pairState = 2)) fun s =>
          s.setReg Reg.graftPhase 3) [Reg.graftPhase] := .when _ (.setReg (by simp) _)
      refine ⟨(hrep.2 _ (by simp)).trans (dropImage_state _ _ _), (hrep.2 _ (by simp)).trans (dropImage_error _ _ _), ?_,
        sameMem_of_mem (hrep.mem.trans (dropImage_mem _ _ _))⟩
      rw [plot_of_plots hrep.plots, dropImage_plot]
    · rw [decide_eq_true h]
      exact reg_setReg_same _ _ _
  · exact exec_pairSwapTimeout_idle

end Sys2Proof.Machine
end

section
/-!
PROOFS. A last takes effect at its tick (01, R45, R50; 18, R489).
-/
namespace Sys2Proof.Machine

/-- A plot that a warm reset reinstalls, at its swap tick, whose list of units to restart names a receive stream beyond the
last: that stream's RX_STATUS has the index of the plot's LAST_STATE. -/
def strayRestart : State :=
  { plots := [(0, { shadow := some {}, restoring := true })]
    regs := [(Reg.lastState 0, 4)]
    holdings := [{ kind := 18, unit := noUnit, first := 5648, count := 1, plot := 0, scrub := none }]
    rst := { units := [(0, 5648)] } }

/-- LAST_STATE after the swap of that state. -/
def strayRestart.stateAfter : Int :=
  match exec (.lastSwap 0) strayRestart with
  | .next t => t.reg (Reg.lastState 0)
  | _ => 0

theorem strayRestart_stateAfter : strayRestart.stateAfter = 1 := by decide +kernel

/-- Refutes O24: the swap of a plot that a warm reset reinstalls ends with the restart of its units, whose registers follow from
the unit's number; a number beyond the last stream's reaches LAST_STATE, which then reads 1. -/
theorem not_lastTakesEffectAtItsTick : ¬ Obligations.LastTakesEffectAtItsTick := by
  intro h
  obtain ⟨_, _, hswap⟩ := h 0 strayRestart
  obtain ⟨t, ht, _, _, _, _, _, hstate, _⟩ := (hswap {} rfl).2 rfl rfl
  have hafter := strayRestart_stateAfter
  rw [strayRestart.stateAfter, ht] at hafter
  exact absurd (hafter.symm.trans hstate) (by decide)

end Sys2Proof.Machine
end

section
/-!
PROOFS. What an operation leaves: a view of the state, and the registers outside a set. The time counter (10, R293 to R299).
-/
namespace Sys2Proof.Machine

/-- A state that follows from another with a view of it unchanged, and every register outside a set. -/
structure Only {α : Type} (q : State → α) (P : Reg → Prop) (s t : State) : Prop where
  view : q t = q s
  regs : ∀ r, ¬P r → t.reg r = s.reg r

namespace Only
section
variable {α : Type} {q : State → α} {P Q : Reg → Prop} {s t u : State}

theorem refl (s : State) : Only q P s s := ⟨rfl, fun _ _ => rfl⟩
theorem trans (h : Only q P s t) (h' : Only q P t u) : Only q P s u :=
  ⟨h'.view.trans h.view, fun r hr => (h'.regs r hr).trans (h.regs r hr)⟩
theorem mono (h : Only q P s t) (hp : ∀ r, P r → Q r) : Only q Q s t := ⟨h.view, fun r hr => h.regs r fun hP => hr (hp r hP)⟩
theorem of_regs (hv : q t = q s) (hr : t.regs = s.regs) : Only q P s t := ⟨hv, fun r _ => reg_of_regs hr r⟩
theorem setReg {r : Reg} (hr : P r) (v : Int) (hv : q (s.setReg r v) = q s) : Only q P s (s.setReg r v) :=
  ⟨hv, fun _ hx => reg_setReg_other _ _ _ _ fun h => hx (h ▸ hr)⟩
theorem setRegs {l : List (Reg × Int)} (hl : ∀ e ∈ l, P e.1) (hv : ∀ s r v, q (State.setReg s r v) = q s) : Only q P s (s.setRegs l) := by
  induction l generalizing s with
  | nil => exact refl s
  | cons e l ih =>
    exact (setReg (s := s) (hl e (.head _)) e.2 (hv _ _ _)).trans (ih fun x hx => hl x (.tail _ hx))
theorem of_overL {β : Type} {f : State → β → State} (l : List β) (h : ∀ s, ∀ a ∈ l, Only q P s (f s a)) (s : State) : Only q P s (overL l f s) := by
  induction l generalizing s with
  | nil => exact refl s
  | cons a l ih => exact (h s a (.head _)).trans (ih (fun s b hb => h s b (.tail _ hb)) _)
theorem of_overN {f : State → Nat → State} (n : Nat) (h : ∀ s, ∀ i < n, Only q P s (f s i)) (s : State) : Only q P s (overN n f s) :=
  of_overL _ (fun s i hi => h s i (List.mem_range.mp hi)) s
theorem when (b : Bool) {f : State → State} (h : Only q P s (f s)) : Only q P s (s.when b f) := by
  cases b
  · exact refl s
  · exact h
theorem of_ite {p : Prop} [Decidable p] (ht : p → Only q P s t) (hu : ¬p → Only q P s u) : Only q P s (if p then t else u) := by
  split
  · exact ht ‹_›
  · exact hu ‹_›
theorem of_reports {l : List Reg} (h : Reports s t l) (hv : ∀ s, q (State.quiet s) = q s) (hl : ∀ r ∈ l, P r) : Only q P s t :=
  ⟨h.field q hv, fun r hr => h.2 r fun hm => hr (hl r hm)⟩
/-- A field of the view. -/
theorem field {β : Type} (h : Only q P s t) (g : α → β) : g (q t) = g (q s) := congrArg g h.view
theorem sameRegs {l : List Reg} (h : Only q (· ∈ l) s t) : SameRegs s t l := fun r hr => h.regs r hr
end
end Only

/-! The counter's own state stands while what it dates moves with it (01, R18, R19). -/

/-- The clock's state, the tick and the cycle. -/
@[reducible] def State.counter (s : State) : ClkSt × Nat × Nat := (s.clk, s.tick, s.cycle)
/-- Any register but the count of steps. -/
@[reducible] def notStepCount (r : Reg) : Prop := r ≠ Reg.timeStepCount
/-- A state that follows from another with the counter as before. -/
@[reducible] def SameCounter (s t : State) : Prop := Only State.counter notStepCount s t

namespace SameCounter
variable (s : State)

theorem setReg {r : Reg} (h : r ≠ Reg.timeStepCount) (v : Int) : SameCounter s (s.setReg r v) := Only.setReg (P := notStepCount) h v rfl
theorem modTev (n : Nat) (f : TevSt → TevSt) : SameCounter s (s.modTev n f) := .of_regs rfl rfl
theorem modPlot (p : Nat) (f : PlotSt → PlotSt) : SameCounter s (s.modPlot p f) := .of_regs rfl rfl
theorem of_reports {s t : State} {l : List Reg} (h : Reports s t l) (hl : Reg.timeStepCount ∉ l) : SameCounter s t :=
  Only.of_reports h (fun _ => rfl) fun _ hr he => hl (he ▸ hr)

theorem dropImage (p c : Nat) : SameCounter s (s.dropImage p c) := by
  refine (modPlot s p _).trans (Only.setRegs ?_ fun _ _ _ => rfl)
  simp

theorem tevLog (n : Nat) (a : TevAct) (c : Nat) : SameCounter s (s.tevLog n a c) := modTev _ _ _
theorem tevOpen (n t : Nat) (on : Bool) : SameCounter s (s.tevOpen n t on) := (modTev s n _).trans (setReg _ (by simp) _)

/-- The outcome of an action is logged, and once more when it was passed over. -/
theorem tevLogs (passed : Bool) (n : Nat) (a : TevAct) (c : Nat) :
    SameCounter s ((s.tevLog n a c).when passed fun s => s.tevLog n a 4) := (tevLog s n a c).trans (.when _ (tevLog _ _ _ _))

theorem tevAct (n : Nat) (passed : Bool) (a : TevAct) : SameCounter s (s.tevAct n passed a) := by
  unfold State.tevAct
  dsimp only
  split
  · split
    · exact tevLogs s _ _ _ _
    · exact (tevOpen s _ _ _).trans (tevLogs _ _ _ _ _)
  · split
    · exact (tevOpen s _ _ _).trans (tevLogs _ _ _ _ _)
    · split
      · exact (tevLogs s _ _ _ _).trans (of_reports (l := [Reg.notifyDropped]) (.notifyPlot (by simp) _ _ _) (by simp))
      · exact tevLogs s _ _ _ _

theorem tevStep (n : Nat) (passed : Bool) : SameCounter s (s.tevStep n passed) := by
  unfold State.tevStep
  split
  · exact .refl _
  · exact (modTev s n _).trans ((Only.of_overL _ (fun s b _ => tevLogs s _ _ _ _) _).trans (Only.of_overL _ (fun s b _ => tevAct s _ _ _) _))

theorem passEdges (n : Nat) : SameCounter s (s.passEdges n) := by
  unfold State.passEdges
  split
  · exact .refl _
  · dsimp only
    split
    · exact .refl _
    · split
      · exact tevOpen s _ _ _
      · exact modTev s _ _

theorem tevPass (k n : Nat) (s : State) : SameCounter s (tevPass k n s) := by
  induction k generalizing s with
  | zero => exact .refl _
  | succ k ih =>
    unfold Machine.tevPass
    split
    · exact (tevStep s n true).trans (ih _)
    · exact .refl _

theorem tevJump : SameCounter s s.tevJump :=
  Only.of_overN 24 (fun s n _ => (tevPass 8 n s).trans (passEdges _ n)) s

theorem passLimits : SameCounter s s.passLimits :=
  Only.of_overN 16 (fun s p _ => .of_ite (fun _ => modPlot s p _) fun _ => .refl s) s

theorem shiftTicks (d : Int) : SameCounter s (s.shiftTicks d) := .of_regs rfl rfl

theorem afterJump (d : Int) : SameCounter s (s.afterJump d) := by
  have h : SameCounter s (overN 16 (fun s p =>
      if s.nat (Reg.lastState p) ≥ 3 ∧ s.nat (Reg.lastSwapTick p) < s.tick then s.dropImage p 0x22 else s) (s.shiftTicks d).passLimits) :=
    ((shiftTicks s d).trans (passLimits _)).trans
      (Only.of_overN 16 (fun s p _ => .of_ite (fun _ => dropImage s p 0x22) fun _ => .refl s) _)
  unfold State.afterJump
  dsimp only
  split
  · exact h.trans (tevJump _)
  · exact h

end SameCounter

/-! Changes of the counter take effect (R297, R299). -/

/-- The whole ticks of a step. -/
def State.stepTicks (s : State) (d : Int) : Int := Int.tdiv (d * s.tps) 1000000000
/-- The state with a step of the counter, before what the counter dates moves. -/
def State.stepped (s : State) (d : Int) : State :=
  ({ s with tick := ((s.tick : Int) + s.stepTicks d).toNat, clk := { s.clk with told := true } }.setReg Reg.timeAdjLeft
    (s.reg Reg.timeAdjLeft + (d * 65536 - s.stepTicks d * (1000000000 * 65536) / s.tps))).bump Reg.timeStepCount

theorem stepped_count (s : State) (d : Int) : (s.stepped d).reg Reg.timeStepCount = bump32 (s.reg Reg.timeStepCount) := by
  unfold State.stepped
  rw [reg_bump_same, reg_setReg_other _ _ _ _ (by simp)]
  rfl

theorem stepCounter_frame (s : State) (d : Int) : (s.stepCounter d).tick = ((s.tick : Int) + Int.tdiv (d * s.tps) 1000000000).toNat ∧
    (s.stepCounter d).reg Reg.timeStepCount = bump32 (s.reg Reg.timeStepCount) ∧
    (s.stepCounter d).clk.steps = s.clk.steps ∧ (s.stepCounter d).clk.sets = s.clk.sets := by
  obtain ⟨v, w, h⟩ : ∃ v w, s.stepCounter d = ((s.stepped d).logEvent 0x0202 1 16 v w).afterJump (s.stepTicks d) := ⟨_, _, rfl⟩
  have ho : SameCounter (s.stepped d) (s.stepCounter d) := by
    rw [h]
    exact (SameCounter.of_reports (l := []) (.logEvent _ _ _ _ _ _ _) (by simp)).trans (SameCounter.afterJump _ _)
  have hv := ho.view
  refine ⟨congrArg (fun c : ClkSt × Nat × Nat => c.2.1) hv, ?_, congrArg (fun c : ClkSt × Nat × Nat => c.1.steps) hv,
    congrArg (fun c : ClkSt × Nat × Nat => c.1.sets) hv⟩
  rw [ho.regs _ (by simp), stepped_count]

theorem setCounter_frame (s : State) (ns : Nat) : (s.setCounter ns).tick = ns * s.tps / 1000000000 ∧ (s.setCounter ns).cycle = 0 ∧
    (s.setCounter ns).clk.steps = s.clk.steps ∧ (s.setCounter ns).clk.sets = s.clk.sets := by
  unfold State.setCounter
  extract_lets t n s1
  obtain ⟨p, hp⟩ : ∃ p : Int, (t : Int) - (s.boundaryTime n : Int) = p := ⟨_, rfl⟩
  rw [hp]
  have h := SameCounter.afterJump (s1.modClk fun c => { c with told := true, phase := p }) ((n : Int) - s.tick)
  have hv := h.view.trans (show _ = (({ s.clk with told := true, phase := p } : ClkSt), n, 0) from rfl)
  refine ⟨(congrArg (fun c : ClkSt × Nat × Nat => c.2.1) hv).trans ?_, congrArg (fun c : ClkSt × Nat × Nat => c.2.2) hv,
    congrArg (fun c : ClkSt × Nat × Nat => c.1.steps) hv, congrArg (fun c : ClkSt × Nat × Nat => c.1.sets) hv⟩
  show ns * 4294967296 * s.tps / (1000000000 * 4294967296) = _
  rw [Nat.mul_right_comm]
  exact Nat.mul_div_mul_right _ _ (by decide)

/-- The changes that are due leave their lists. -/
def State.dropChanges (s : State) : State :=
  s.modClk fun c => { c with
    steps := c.steps.filter fun e => !decide (e.1 ≤ s.tick), sets := c.sets.filter fun e => !decide (e.1 ≤ s.tick) }

theorem exec_counterChangeApply {s : State} {steps : List (Nat × Int)} {sets : List (Nat × Nat)}
    (h : (s.clk.steps.filter fun e => decide (e.1 ≤ s.tick)) = steps) (h' : (s.clk.sets.filter fun e => decide (e.1 ≤ s.tick)) = sets) :
    exec .counterChangeApply s = .next (overL sets (fun s e => s.setCounter e.2) (overL steps (fun s e => s.stepCounter e.2) s.dropChanges)) := by
  show execCounterChangeApply s = _
  unfold execCounterChangeApply
  dsimp only
  rw [h, h']
  rfl

/-- With none of a list due all of it stays. -/
theorem filter_later {α : Type} {l : List (Nat × α)} {k : Nat} (h : (l.filter fun e => decide (e.1 ≤ k)) = []) :
    (l.filter fun e => !decide (e.1 ≤ k)) = l := by
  rw [List.filter_eq_nil_iff] at h
  exact List.filter_eq_self.mpr fun e he => by simpa using h e he

/-- A write that waits for the next boundary and is answered at once. -/
theorem nextWrite_accepts {i : Instr} {s : State} {r : Reg} {v : Int} (h : exec i s = .next ((s.nextWrite r v).reply 0)) :
    Runs i s fun t => t.due = s.due ++ [⟨s.after 1, r, v⟩] ∧ t.answer.status = 0 ∧ SameRegs s t [] ∧ SameMem s t :=
  ⟨_, h, rfl, rfl, sameRegs_of_regs rfl _, sameMem_of_mem rfl⟩

/-- Settles O25: each command is one case of its guard; a step or a set that is due is one change, and what it dates moves with
the counter and leaves it. -/
theorem timeCounterCommands : Obligations.TimeCounterCommands := by
  intro s
  refine ⟨fun v => ⟨fun hlo hhi => ⟨fun hs => ?_, fun hs => ?_⟩, fun h => ?_⟩, fun a hlo hhi => ⟨fun hs => ?_, fun hs => ?_⟩,
    fun d hlo hhi => ?_, fun d hd => ⟨?_, ?_⟩, fun sec ns => ⟨fun hn hl => ?_, fun hn hl => ?_, fun hn => ?_⟩, ?_, ?_, ?_⟩
  · refine nextWrite_accepts ?_
    show execTimeIncr v s = _
    unfold execTimeIncr
    rw [if_neg (by omega), if_neg (by simp [hs])]
  · show execTimeIncr v s = _
    unfold execTimeIncr
    rw [if_neg (by omega), if_pos (by simp [hs])]
  · exact if_pos h
  · refine nextWrite_accepts ?_
    show execTimeAdj a s = _
    unfold execTimeAdj
    rw [if_neg (by omega), if_neg (by simp [hs])]
  · show execTimeAdj a s = _
    unfold execTimeAdj
    rw [if_neg (by omega), if_pos (by simp [hs])]
  · have h : exec (.timeStep d) s = .next ((s.modClk fun c => { c with steps := c.steps ++ [(s.after 1, d)] }).reply 0) :=
      if_neg (by omega)
    exact ⟨_, h, rfl, rfl, rfl, sameRegs_of_regs rfl _, sameMem_of_mem rfl⟩
  · exact if_pos (by omega)
  · exact if_pos (by omega)
  · have h : exec (.timeSet sec ns) s =
        .next ((s.modClk fun c => { c with sets := c.sets ++ [(s.after 1, sec.val * 1000000000 + ns)] }).reply 0) := by
      show execTimeSet sec ns s = _
      unfold execTimeSet
      rw [if_neg (by omega), if_neg (by simp [hl])]
    exact ⟨_, h, rfl, rfl, rfl, sameRegs_of_regs rfl _, sameMem_of_mem rfl⟩
  · show execTimeSet sec ns s = _
    unfold execTimeSet
    rw [if_neg (by omega), if_pos hl]
  · exact if_pos hn
  · intro k d hsteps hsets
    obtain ⟨ht, hr, hst, hse⟩ := stepCounter_frame s.dropChanges d
    refine runs_of_exec rfl (exec_counterChangeApply hsteps hsets) fun hm => ⟨hst, hse.trans (filter_later hsets), ht, hr, hm⟩
  · intro k ns hsteps hsets
    obtain ⟨ht, hc, hst, hse⟩ := setCounter_frame s.dropChanges ns
    exact runs_of_exec rfl (exec_counterChangeApply hsteps hsets) fun hm => ⟨hse, hst.trans (filter_later hsteps), ht, hc, hm⟩
  · intro hsteps hsets
    have h1 : (s.clk.steps.filter fun e => decide (e.1 ≤ s.tick)) = [] := List.filter_eq_nil_iff.mpr fun e he => by simpa using hsteps e he
    have h2 : (s.clk.sets.filter fun e => decide (e.1 ≤ s.tick)) = [] := List.filter_eq_nil_iff.mpr fun e he => by simpa using hsets e he
    refine (exec_counterChangeApply h1 h2).trans ?_
    have hd : s.dropChanges = s := by
      unfold State.dropChanges State.modClk
      dsimp only
      rw [filter_later h1, filter_later h2]
    rw [hd]
    rfl

end Sys2Proof.Machine
end

section
/-!
PROOFS. The PTP unit's commands (10, R300 to R308; 09, R276 to R289).
-/
namespace Sys2Proof.Machine

/-! What a candidate's faults and grade change (09, R276 to R280). -/

/-- What the PTP servo keeps of its own. -/
@[reducible] def State.servo (s : State) : Option Foreign × List Foreign × Nat × Nat :=
  (s.clk.parent, s.clk.foreign, s.clk.servoIn, s.clk.servoOut)
/-- The registers that a candidate's faults, state and grade may change. -/
@[reducible] def refRegs (r : Nat) : List Reg := [Reg.refFault r, Reg.refFaultSticky r, Reg.refState r, Reg.dpllSticky, Reg.dpllHoFreq,
  Reg.dpllHoValid, Reg.dpllGrade, Reg.synceQlOut, Reg.notifyDropped]
/-- A view of the state that shows nothing of a candidate: neither reports nor registers, nor what the clock keeps of the
candidates, of the holdover and of the last good grade. -/
structure RefBlind {α : Type} (q : State → α) : Prop where
  quiet : ∀ s, q (State.quiet s) = q s
  msix : ∀ s v, q (State.msix s v) = q s
  refs : ∀ s k f, q (State.modRef s k f) = q s
  holdover : ∀ s a b, q (State.modClk s fun c => { c with ho := a, hoShort := b }) = q s
  good : ∀ s g, q (State.modClk s fun c => { c with good := g }) = q s
theorem refBlind_servo : RefBlind State.servo := ⟨fun _ => rfl, fun _ _ => rfl, fun _ _ _ => rfl, fun _ _ _ => rfl, fun _ _ => rfl⟩
theorem refBlind_net : RefBlind State.net := ⟨fun _ => rfl, fun _ _ => rfl, fun _ _ _ => rfl, fun _ _ _ => rfl, fun _ _ => rfl⟩

/-- A state that follows from another with a view of it as before, by the registers of a candidate. -/
@[reducible] def RefChange {α : Type} (q : State → α) (r : Nat) (s t : State) : Prop := Only q (· ∈ refRegs r) s t

namespace RefChange
variable {α : Type} {q : State → α} (hq : RefBlind q) (s : State) (r : Nat)
include hq

theorem setReg {x : Reg} (h : x ∈ refRegs r) (v : Int) : RefChange q r s (s.setReg x v) :=
  Only.of_reports (.setReg h v) hq.quiet fun _ => id
theorem setRegs {l : List (Reg × Int)} (h : ∀ e ∈ l, e.1 ∈ refRegs r) : RefChange q r s (s.setRegs l) :=
  Only.of_reports (.setRegs h) hq.quiet fun _ => id
theorem orReg {x : Reg} (h : x ∈ refRegs r) (v : Nat) : RefChange q r s (s.orReg x v) := setReg hq s r h _
theorem modRef (k : Nat) (f : RefSt → RefSt) : RefChange q r s (s.modRef k f) := .of_regs (hq.refs s k f) rfl
theorem msix (v : Nat) : RefChange q r s (s.msix v) := .of_regs (hq.msix s v) rfl

theorem stick (b : Nat) : RefChange q r s (s.stick b) := by
  unfold State.stick
  refine .of_ite (fun _ => .refl _) fun _ => ?_
  refine (orReg hq s r (by simp) _).trans (.of_ite (fun _ => ?_) fun _ => .refl _)
  have h : Reports (s.orReg Reg.dpllSticky (2 ^ b)) _ [Reg.notifyDropped] := .notify (by simp) (fun _ => true) 0x10 Reg.dpllSticky.idx
    Reg.dpllSticky.sub
  exact (Only.of_reports h hq.quiet fun x hx => by rw [List.mem_singleton.mp hx]; simp).trans (msix hq _ _ _)

theorem fixHoldover : RefChange q r s s.fixHoldover := by
  have h : RefChange q r s (s.setRegs [(Reg.dpllHoFreq, s.pptOf s.holdoverNow.1), (Reg.dpllHoValid, s.holdoverNow.2.1)]) :=
    setRegs hq s r (by simp)
  exact h.trans (.of_regs (hq.holdover _ _ _) rfl)

theorem refFaults (bits : Nat) : RefChange q r s (s.refFaults r bits) := by
  unfold State.refFaults
  extract_lets s1 sel fresh s2 s3 s4
  have h1 : RefChange q r s s1 := (orReg hq s r (by simp) _).trans (orReg hq _ r (by simp) _)
  have h2 : RefChange q r s1 s2 := (setReg hq s1 r (by simp) _).trans (modRef hq _ r _ _)
  have h3 : RefChange q r s2 s3 := .when _ (stick hq _ r 4)
  have h4 : RefChange q r s3 s4 := .when _ (stick hq _ r 5)
  exact .of_ite (fun _ => h1) fun _ => h1.trans (h2.trans (h3.trans (h4.trans (.when _ (fixHoldover hq _ r)))))

theorem refQualify : RefChange q r s (s.refQualify r) := by
  unfold State.refQualify
  exact .of_ite (fun _ => setReg hq s r (by simp) _) fun _ => (setReg hq s r (by simp) _).trans (modRef hq _ r _ _)

theorem refEnds (bits : Nat) : RefChange q r s (s.refEnds r bits) := by
  unfold State.refEnds
  exact (setReg hq s r (by simp) _).trans (.of_ite (fun _ => .refl _) fun _ => refQualify hq _ r)

theorem gradeFault : RefChange q r s (s.gradeFault r) := by
  unfold State.gradeFault
  exact .of_ite (fun _ => .refl _) fun _ => .of_ite (fun _ => refFaults hq s r 16) fun _ => .when _ (refEnds hq s r 16)

theorem carryGrade (g : Nat) : RefChange q r s (s.carryGrade r g) := (modRef hq s r r _).trans (gradeFault hq _ r)

theorem refreshGrade : RefChange q r s s.refreshGrade := by
  unfold State.refreshGrade
  extract_lets g st u
  have hu : RefChange q r s u := .when _ (.of_regs (hq.good _ _) rfl)
  refine .of_ite (fun _ => hu) fun _ => hu.trans (.trans (setRegs hq _ r ?_) (stick hq _ r 8))
  simp

end RefChange

/-! PTP's grade and port states follow the servo (R302). -/

/-- The registers that follow the servo. -/
@[reducible] def ptpRegs (r : Reg) : Prop := r ∈ refRegs 8 ∨ ∃ n, r = Reg.ptpPortState n
/-- PTP's grade, its port states and the own grade. -/
def State.ptpFollow (s : State) : State := s.ptpGrade.ptpStates.refreshGrade

theorem only_ptpFollow (s : State) : Only State.servo ptpRegs s s.ptpFollow := by
  have hgrade : Only State.servo ptpRegs s s.ptpGrade := by
    unfold State.ptpGrade
    refine .of_ite (fun _ => ?_) fun _ => ?_
    · exact ((RefChange.carryGrade refBlind_servo s 8 _).trans (RefChange.refEnds refBlind_servo _ 8 1)).mono fun _ => .inl
    · exact ((RefChange.carryGrade refBlind_servo s 8 _).trans (RefChange.refFaults refBlind_servo _ 8 1)).mono fun _ => .inl
  have hstates : Only State.servo ptpRegs s.ptpGrade s.ptpGrade.ptpStates :=
    .of_overN 24 (fun s n _ => Only.setReg (P := ptpRegs) (.inr ⟨n, rfl⟩) _ rfl) _
  exact (hgrade.trans hstates).trans ((RefChange.refreshGrade refBlind_servo _ 8).mono fun _ => .inl)

/-- A servo register is not among those that follow. -/
theorem not_ptpRegs {k : Nat} : ¬ptpRegs ⟨0x2230, k, 0⟩ := by simp [ptpRegs]
theorem ptpFollow_reg (s : State) (k : Nat) : s.ptpFollow.reg ⟨0x2230, k, 0⟩ = s.reg ⟨0x2230, k, 0⟩ :=
  (only_ptpFollow s).regs _ not_ptpRegs

section
variable {s t : State} {P : Reg → Prop} (h : Only State.servo P s t)
include h
theorem parent_of_servo : t.clk.parent = s.clk.parent := congrArg (fun c => c.1) h.view
theorem foreign_of_servo : t.clk.foreign = s.clk.foreign := congrArg (fun c => c.2.1) h.view
theorem servoIn_of_servo : t.clk.servoIn = s.clk.servoIn := congrArg (fun c => c.2.2.1) h.view
theorem servoOut_of_servo : t.clk.servoOut = s.clk.servoOut := congrArg (fun c => c.2.2.2) h.view
end
section
variable (s : State)
theorem ptpFollow_parent : s.ptpFollow.clk.parent = s.clk.parent := parent_of_servo (only_ptpFollow s)
theorem ptpFollow_foreign : s.ptpFollow.clk.foreign = s.clk.foreign := foreign_of_servo (only_ptpFollow s)
theorem ptpFollow_servoIn : s.ptpFollow.clk.servoIn = s.clk.servoIn := servoIn_of_servo (only_ptpFollow s)
end

/-! The parent (R302). -/

/-- The registers that name a parent and its grandmaster. -/
def parentRegs (f : Option Foreign) : List (Reg × Int) :=
  match f with
  | some x => [(Reg.ptpParentId, x.srcId), (Reg.ptpParentPort, x.srcPort), (Reg.ptpGmId, x.gmId), (Reg.ptpGmClass, x.gmClass)]
  | none => [(Reg.ptpParentId, 0), (Reg.ptpParentPort, 0), (Reg.ptpGmId, 0), (Reg.ptpGmClass, 255)]
/-- A parent as chosen, with the registers that name it. -/
def State.nameParent (s : State) (f : Option Foreign) : State := (s.modClk fun c => { c with parent := f }).setRegs (parentRegs f)
/-- A new parent starts the servo anew. -/
def State.newServo (s : State) (state : Int) : State :=
  (s.setReg Reg.servoState state).modClk fun c => { c with servoIn := 0, servoOut := 0 }

theorem newServo_state (s : State) (v : Int) : (s.newServo v).reg Reg.servoState = v := reg_setReg_same _ _ _
theorem nameParent_clk (s : State) (f : Option Foreign) : (s.nameParent f).clk = { s.clk with parent := f } :=
  setRegs_keeps (g := State.clk) (fun _ _ _ => rfl) _ _

theorem setParent_same {s : State} {f : Option Foreign}
    (h : (f.map fun x => (x.srcId, x.srcPort)) = s.clk.parent.map fun x => (x.srcId, x.srcPort)) :
    s.setParent f = (s.nameParent f).ptpFollow := by
  unfold State.setParent
  rw [h]
  simp only [beq_self_eq_true, if_true]
  cases f <;> rfl
theorem setParent_new {s : State} {f : Option Foreign}
    (h : (f.map fun x => (x.srcId, x.srcPort)) ≠ s.clk.parent.map fun x => (x.srcId, x.srcPort)) :
    s.setParent f = ((s.nameParent f).newServo (if f.isNone then 1 else if s.reg Reg.timeMode = 1 then 4 else 2)).ptpFollow := by
  unfold State.setParent
  simp only [beq_false_of_ne h, Bool.false_eq_true, if_false]
  cases f <;> rfl

/-- What a choice of the parent leaves. -/
theorem setParent_frame (s : State) (f : Option Foreign) : (s.setParent f).clk.parent = f ∧ (s.setParent f).clk.foreign = s.clk.foreign ∧
    ∀ k, k ≠ 1 → (s.setParent f).reg ⟨0x2230, k, 0⟩ = (s.nameParent f).reg ⟨0x2230, k, 0⟩ := by
  by_cases h : (f.map fun x => (x.srcId, x.srcPort)) = s.clk.parent.map fun x => (x.srcId, x.srcPort)
  · rw [setParent_same h]
    refine ⟨?_, ?_, fun k _ => ptpFollow_reg _ k⟩
    · rw [ptpFollow_parent, nameParent_clk]
    · rw [ptpFollow_foreign, nameParent_clk]
  · rw [setParent_new h]
    have hclk : ∀ (u : State) v, (u.newServo v).clk = { u.clk with servoIn := 0, servoOut := 0 } := fun _ _ => rfl
    refine ⟨?_, ?_, fun k hk => (ptpFollow_reg _ k).trans ?_⟩
    · rw [ptpFollow_parent, hclk, nameParent_clk]
    · rw [ptpFollow_foreign, hclk, nameParent_clk]
    · exact reg_setReg_other _ _ _ _ (by simp [hk])

section
variable (s : State) (f : Foreign)
theorem nameParent_parentId : (s.nameParent (some f)).reg Reg.ptpParentId = f.srcId := by
  simp [State.nameParent, parentRegs, State.setRegs, reg_setReg]
theorem nameParent_parentPort : (s.nameParent (some f)).reg Reg.ptpParentPort = f.srcPort := by
  simp [State.nameParent, parentRegs, State.setRegs, reg_setReg]
theorem nameParent_gmId : (s.nameParent (some f)).reg Reg.ptpGmId = f.gmId := by
  simp [State.nameParent, parentRegs, State.setRegs, reg_setReg]
theorem nameParent_gmClass : (s.nameParent (some f)).reg Reg.ptpGmClass = f.gmClass := by
  simp [State.nameParent, parentRegs, State.setRegs]
theorem nameParent_none_gmClass : (s.nameParent none).reg Reg.ptpGmClass = 255 := by
  simp [State.nameParent, parentRegs, State.setRegs]
end

/-- The better of the best master so far and the next. -/
def betterMaster (b : Option Foreign) (f : Foreign) : Option Foreign :=
  match b with
  | none => some f
  | some g => if lexLt f.key g.key then some f else b

theorem bestMaster_mem (l : List Foreign) (b : Option Foreign) (g : Foreign) (h : l.foldl betterMaster b = some g) : g ∈ l ∨ b = some g := by
  induction l generalizing b with
  | nil => exact .inr h
  | cons f l ih =>
    rcases ih _ h with hm | hb
    · exact .inl (.tail _ hm)
    · cases b with
      | none => exact .inl (Option.some.inj hb ▸ .head _)
      | some x =>
        rw [betterMaster] at hb
        split at hb
        · exact .inl (Option.some.inj hb ▸ .head _)
        · exact .inr hb

/-- A master better than every other heard is the best. -/
theorem bestMaster_last (l : List Foreign) (f : Foreign) (h : ∀ g ∈ l, lexLt f.key g.key = true) :
    (l ++ [f]).foldl betterMaster none = some f := by
  rw [List.foldl_append]
  cases hb : l.foldl betterMaster none with
  | none => rfl
  | some g =>
    rcases bestMaster_mem l none g hb with hm | hn
    · exact if_pos (h g hm)
    · cases hn

theorem chooseParent_of_best {s : State} {f : Foreign} (hb : s.clk.foreign.foldl betterMaster none = some f)
    (hm : s.mayMaster = false ∨ lexLt s.ownSet.key f.key = false) : s.chooseParent = some f := by
  have h : s.chooseParent = if s.mayMaster && lexLt s.ownSet.key f.key then none else some f := by
    show (match s.clk.foreign.foldl betterMaster none with
      | some f => if s.mayMaster && lexLt s.ownSet.key f.key then none else some f
      | none => none) = _
    rw [hb]
  rw [h, if_neg (by rcases hm with hm | hm <;> simp [hm])]

/-! The servo (R296, R298, R302). -/

/-- The servo after one more interval, before it steers the counter. -/
def State.sampled (s : State) (off rate : Int) : State :=
  (s.setRegs [(Reg.servoOffset, off), (Reg.servoFreq, rate)]).modClk fun c => { c with
    servoIn := if off.natAbs ≤ 100000 then c.servoIn + 1 else 0, servoOut := if off.natAbs > 1000000 then c.servoOut + 1 else 0 }

theorem servoStep_only (s : State) (d : Int) {P : Reg → Prop} : Only State.servo P s (s.servoStep d) := by
  have h : ∀ (s : State) c, Only State.servo P s (s.sendCell c) := fun s c => by
    unfold State.sendCell
    split
    · exact .of_regs rfl rfl
    · split
      · exact .refl _
      · exact .of_regs rfl rfl
  have hm : ∀ (s : State) t a, Only State.servo P s (s.sendMgmt t a) := fun s t a => by
    unfold State.sendMgmt
    refine .trans ?_ (h _ _)
    exact .of_regs rfl rfl
  unfold State.servoStep
  refine .trans (t := s.modClk fun c => { c with steps := c.steps ++ [(s.after 1, d)] }) ?_ (.when _ (hm _ _ _))
  exact .of_regs rfl rfl

theorem servoSample_only (s : State) (off rate : Int) :
    Only State.servo (· ∈ [Reg.timeIncr, Reg.timeAdjLeft]) (s.sampled off rate) (s.servoSample off rate) := by
  unfold State.servoSample
  extract_lets a s1 v s2
  refine .of_ite (fun _ => ?_) fun _ => .refl _
  have h2 : Only State.servo (· ∈ [Reg.timeIncr, Reg.timeAdjLeft]) (s.sampled off rate) s2 :=
    Only.setReg (P := (· ∈ [Reg.timeIncr, Reg.timeAdjLeft])) (by simp) _ rfl
  exact h2.trans (.of_ite (fun _ => servoStep_only _ _) fun _ =>
    Only.setReg (P := (· ∈ [Reg.timeIncr, Reg.timeAdjLeft])) (by simp) _ rfl)

theorem servoSample_watched {s : State} {off rate : Int} (h : s.reg Reg.timeMode ≠ 0 ∨ s.reg Reg.timeServoMode ≠ 0) :
    s.servoSample off rate = s.sampled off rate := by
  unfold State.servoSample
  rw [if_neg (by omega)]
  rfl

theorem sampled_offset (s : State) (off rate : Int) : (s.sampled off rate).reg Reg.servoOffset = off := by
  unfold State.sampled
  simp only [State.setRegs, List.foldl_cons, List.foldl_nil]
  exact (reg_setReg_other _ _ _ _ (by simp)).trans (reg_setReg_same _ _ _)
theorem sampled_freq (s : State) (off rate : Int) : (s.sampled off rate).reg Reg.servoFreq = rate := reg_setReg_same _ _ _
theorem sampled_regs (s : State) (off rate : Int) : SameRegs s (s.sampled off rate) [Reg.servoOffset, Reg.servoFreq] :=
  (Reports.setRegs (by simp)).2.trans (sameRegs_of_regs rfl _)

/-! The commands. -/

section
variable {n : Fin 25} {s : State}

theorem exec_ptpMessageRx_off (m : PtpMsg) (h : s.ptpPort n = false) : exec (.ptpMessageRx n m) s = .next s :=
  if_pos (by simp [h])

section
variable (h : s.ptpPort n = true)
include h

theorem exec_announce {srcId srcPort gmId gmClass accuracy variance prio1 prio2 steps : Nat} {heard : List Foreign}
    (hh : heard = (s.clk.foreign.filter fun g => !(g.port == n.val && g.srcId == srcId && g.srcPort == srcPort)) ++
      [{ port := n, srcId, srcPort, gmId, gmClass, accuracy, variance, prio1, prio2, steps }]) :
    exec (.ptpMessageRx n (.announce srcId srcPort gmId gmClass accuracy variance prio1 prio2 steps)) s =
      .next ((s.modClk fun c => { c with foreign := heard }).setParent (s.modClk fun c => { c with foreign := heard }).chooseParent) := by
  rw [hh]
  exact if_neg (by simp [h])

theorem exec_sync {f : Foreign} {off rate : Int} (hp : s.clk.parent = some f) (hf : f.port = n.val) :
    exec (.ptpMessageRx n (.sync f.srcId f.srcPort off rate)) s = .next (s.servoSample off rate) := by
  show execPtpMessageRx n (.sync f.srcId f.srcPort off rate) s = _
  unfold execPtpMessageRx
  rw [if_neg (by simp [h])]
  dsimp only
  rw [hp]
  exact if_pos ⟨hf, rfl, rfl⟩

theorem exec_delay {mean nrr : Int} (hn : n.val ≠ 24) : exec (.ptpMessageRx n (.delay mean nrr)) s =
    .next (s.setRegs ((Reg.ptpMeanDelay n, mean) :: if s.reg Reg.ptpRole = 3 then [(Reg.ptpNrr n, nrr)] else [])) := by
  show execPtpMessageRx n (.delay mean nrr) s = _
  unfold execPtpMessageRx
  rw [if_neg (by simp [h])]
  exact if_neg hn

end

theorem exec_sync_other {id port : Nat} {off rate : Int}
    (h : ∀ f, s.clk.parent = some f → f.port ≠ n.val ∨ f.srcId ≠ id ∨ f.srcPort ≠ port) :
    exec (.ptpMessageRx n (.sync id port off rate)) s = .next s := by
  show execPtpMessageRx n (.sync id port off rate) s = _
  unfold execPtpMessageRx
  split
  · rfl
  · dsimp only
    split
    · next f hf => exact if_neg (by have := h f hf; omega)
    · rfl

theorem exec_delay_pcie {mean nrr : Int} (hn : n.val = 24) : exec (.ptpMessageRx n (.delay mean nrr)) s = .next s := by
  cases h : s.ptpPort n with
  | false => exact exec_ptpMessageRx_off _ h
  | true =>
    show execPtpMessageRx n (.delay mean nrr) s = _
    unfold execPtpMessageRx
    rw [if_neg (by simp [h])]
    exact if_pos hn

/-- A message that goes out takes the next sequence number of its kind on its port. -/
def State.sendPtp (s : State) (n : Fin 25) (ty : Fin 16) : State :=
  { s.modClk fun c => { c with seqs := NTable.put 0 c.seqs (n.val * 16 + ty.val) ((NTable.get 0 s.clk.seqs (n.val * 16 + ty.val) + 1) % 65536) } with
    answer := { bytes := s.ptpFields ty n (NTable.get 0 s.clk.seqs (n.val * 16 + ty.val)), sent := true } }

theorem exec_ptpMessageTx {ty : Fin 16} (h : s.ptpPort n = true) (hty : ty.val = 1 ∨ ty.val = 2 ∨ ty.val = 3 ∨ (ty.val = 0 ∨ ty.val = 0xB) ∧
    (n.val = 24 ∧ s.mayMaster = true ∧ s.clk.parent = none ∨ n.val ≠ 24 ∧ s.ptpPortNow n = 6)) :
    exec (.ptpMessageTx n ty) s = .next (s.sendPtp n ty) := by
  show execPtpMessageTx n ty s = _
  unfold execPtpMessageTx
  have hmaster : (ty.val = 0 ∨ ty.val = 0xB) →
      (if n.val = 24 then s.mayMaster && s.clk.parent.isNone else s.ptpPortNow n == 6) = true := fun h0 => by
    have hm : n.val = 24 ∧ s.mayMaster = true ∧ s.clk.parent = none ∨ n.val ≠ 24 ∧ s.ptpPortNow n = 6 := by
      rcases hty with h1 | h1 | h1 | ⟨_, hm⟩
      · exact absurd h0 (by omega)
      · exact absurd h0 (by omega)
      · exact absurd h0 (by omega)
      · exact hm
    rcases hm with ⟨h24, hmay, hnone⟩ | ⟨h24, hnow⟩
    · rw [if_pos h24, hmay, hnone]; rfl
    · rw [if_neg h24, hnow]; rfl
  have hallowed : (s.ptpPort n && (if ty.val = 0 ∨ ty.val = 0xB then
      (if n.val = 24 then s.mayMaster && s.clk.parent.isNone else s.ptpPortNow n == 6)
      else ty.val == 1 || ty.val == 2 || ty.val == 3)) = true := by
    rw [h, Bool.true_and]
    by_cases h0 : ty.val = 0 ∨ ty.val = 0xB
    · rw [if_pos h0, hmaster h0]
    · rw [if_neg h0]
      simp only [Bool.or_eq_true, beq_iff_eq]
      omega
  dsimp only
  rw [hallowed]
  rfl

end

/-- Settles O26: each message and each servo command is one case; what follows the servo leaves the servo and its registers. -/
theorem ptpUnitCommands : Obligations.PtpUnitCommands := by
  intro n s
  refine ⟨fun v hv => nextWrite_accepts (if_neg (by omega)), fun v hv => if_pos hv, fun v hv => nextWrite_accepts (if_neg (by omega)),
    fun v hv => if_pos hv, ?_, ?_, fun id port off rate h => exec_sync_other h, fun mean nrr => ⟨fun h hn => ?_, exec_delay_pcie⟩,
    fun m h => exec_ptpMessageRx_off m h, ?_, ?_, ?_, ?_, ?_, ?_, ?_, ?_, ?_⟩
  · intro srcId srcPort gmId gmClass accuracy variance prio1 prio2 steps f heard hf hheard h
    obtain ⟨hpar, hfor, hreg⟩ := setParent_frame (s.modClk fun c => { c with foreign := heard })
      (s.modClk fun c => { c with foreign := heard }).chooseParent
    refine runs_of_exec rfl (exec_announce h (hf ▸ hheard)) fun hm => ⟨hfor, hpar, fun hbest hown => ?_, hm⟩
    have hch : (s.modClk fun c => { c with foreign := heard }).chooseParent = some f := by
      refine chooseParent_of_best ?_ hown
      show heard.foldl betterMaster none = some f
      rw [hheard]
      exact bestMaster_last _ f fun g hg => hbest g (List.mem_of_mem_filter hg)
    rw [hch] at hpar hreg ⊢
    subst hf
    refine ⟨hpar, ?_, ?_, ?_, ?_⟩
    · rw [hreg 4 (by decide), nameParent_parentId]
    · rw [hreg 5 (by decide), nameParent_parentPort]
    · rw [hreg 6 (by decide), nameParent_gmId]
    · rw [hreg 7 (by decide), nameParent_gmClass]
  · intro f off rate h hp hf
    have ho := servoSample_only s off rate
    have hclk : (s.sampled off rate).clk = { s.clk with
        servoIn := if off.natAbs ≤ 100000 then s.clk.servoIn + 1 else 0, servoOut := if off.natAbs > 1000000 then s.clk.servoOut + 1 else 0 } := rfl
    refine runs_of_exec rfl (exec_sync h hp hf) fun hm => ⟨?_, ?_, ?_, ?_, fun hw => ?_, hm⟩
    · rw [ho.regs _ (by simp), sampled_offset]
    · rw [ho.regs _ (by simp), sampled_freq]
    · rw [servoIn_of_servo ho, hclk]
    · rw [servoOut_of_servo ho, hclk]
    · rw [servoSample_watched hw]
      exact sampled_regs s off rate
  · refine ⟨_, exec_delay h hn, ?_, fun h3 => ?_, ?_, setRegs_keeps (g := State.units) (fun _ _ _ => rfl) _ _⟩
    · split
      · exact (reg_setReg_other _ _ _ _ (by simp)).trans (reg_setReg_same _ _ _)
      · exact reg_setReg_same _ _ _
    · rw [if_pos h3]
      exact reg_setReg_same _ _ _
    · refine (Reports.setRegs fun e he => ?_).2
      rcases List.mem_cons.mp he with rfl | he
      · simp
      · split at he
        · rw [List.mem_singleton.mp he]
          simp
        · cases he
  · intro hst hin
    have h : exec .servoLock s = .next (s.setReg Reg.servoState 3).ptpFollow := if_pos ⟨hst, hin⟩
    exact runs_of_exec rfl h fun hm => ⟨(ptpFollow_reg _ 1).trans (reg_setReg_same _ _ _), hm⟩
  · exact fun h => if_neg (by omega)
  · intro hst hout
    have h : exec .servoUnlock s = .next ((s.setReg Reg.servoState (if s.reg Reg.timeMode = 1 then 4 else 2)).modClk fun c =>
        { c with servoIn := 0 }).ptpFollow := if_pos ⟨hst, hout⟩
    refine runs_of_exec rfl h fun hm => ⟨(ptpFollow_reg _ 1).trans (reg_setReg_same _ _ _), ?_, hm⟩
    rw [ptpFollow_servoIn]
    rfl
  · exact fun h => if_neg (by omega)
  · intro f hf
    obtain ⟨rest, hrest⟩ : ∃ l, (s.clk.foreign.filter fun g => !(g.port == f.port && g.srcId == f.srcId && g.srcPort == f.srcPort)) = l := ⟨_, rfl⟩
    have h : exec .announceTimeout s = .next ((s.modClk fun c => { c with foreign := rest }).setParent none) := by
      show execAnnounceTimeout s = _
      unfold execAnnounceTimeout
      rw [hf, ← hrest]
      rfl
    have hnew : (Option.map (fun x : Foreign => (x.srcId, x.srcPort)) none) ≠
        (s.modClk fun c => { c with foreign := rest }).clk.parent.map fun x => (x.srcId, x.srcPort) := by
      show none ≠ s.clk.parent.map _
      rw [hf]
      simp
    obtain ⟨hpar, hfor, hreg⟩ := setParent_frame (s.modClk fun c => { c with foreign := rest }) none
    refine runs_of_exec rfl h fun hm => ⟨hpar, ?_, ?_, fun g hg => ?_, hm⟩
    · rw [setParent_new hnew]
      exact (ptpFollow_reg _ 1).trans (newServo_state _ _)
    · rw [hreg 7 (by decide), nameParent_none_gmClass]
    · rw [hfor] at hg
      have hg' : g ∈ rest := hg
      rw [← hrest, List.mem_filter] at hg'
      refine ⟨hg'.1, fun he => ?_⟩
      simp [he] at hg'
  · intro h
    show execAnnounceTimeout s = _
    unfold execAnnounceTimeout
    rw [h]
  · intro ty h hty
    exact runs_of_exec rfl (exec_ptpMessageTx h hty) fun hm => ⟨rfl, rfl, NTable.get_put_same _ _ _ _, sameRegs_of_regs rfl _, hm⟩
  · intro h ty
    show execPtpMessageTx n ty s = _
    unfold execPtpMessageTx
    rw [h]
    rfl
  · have h : exec .tsFifoRead s = .next { (s.modClk fun c => { c with tsFifo := c.tsFifo.drop 16 }).setReg Reg.tsFifoLevel
        (s.clk.tsFifo.length - 16 : Nat) with answer := { bytes := (s.clk.tsFifo.take 16).flatten } } := rfl
    refine runs_of_exec rfl h fun hm => ⟨rfl, rfl, reg_setReg_same _ _ _, ?_, hm⟩
    exact SameRegs.trans (t := s.modClk fun c => { c with tsFifo := c.tsFifo.drop 16 }) (sameRegs_of_regs rfl _)
      (.trans (.setReg (by simp) _) (sameRegs_of_regs rfl _))

end Sys2Proof.Machine
end

section
/-!
PROOFS. TEV pins (10, R311 to R316).
-/
namespace Sys2Proof.Machine

/-! A pin. -/

section
variable (s : State) (n m : Nat) (f : TevSt → TevSt)

@[simp] theorem tev_modTev_same : (s.modTev n f).tev n = f (s.tev n) := NTable.get_mod_same _ _ _ _
theorem tev_modTev_other (h : m ≠ n) : (s.modTev n f).tev m = s.tev m := NTable.get_mod_other _ _ _ _ _ h
@[simp] theorem tev_reply (c : Nat) : (s.reply c).tev n = s.tev n := rfl
@[simp] theorem tev_setReg (r : Reg) (v : Int) : (s.setReg r v).tev n = s.tev n := rfl
theorem tev_of_tevs {s t : State} (h : t.tevs = s.tevs) (n : Nat) : t.tev n = s.tev n := by simp only [State.tev, h]

end

/-- A pin whose own state changes but for its pending actions, by the register of its window at most. -/
@[reducible] def SamePinActs (n : Nat) (s t : State) : Prop := Only (fun s => (s.tev n).acts) (· ∈ [Reg.tevState n]) s t

section
variable (s : State) (n : Nat)

theorem tevLog_acts (a : TevAct) (c : Nat) : ((s.tevLog n a c).tev n).acts = (s.tev n).acts := by
  unfold State.tevLog
  rw [tev_modTev_same]
theorem tevLog_regs (a : TevAct) (c : Nat) : (s.tevLog n a c).regs = s.regs := rfl
theorem tevOpen_acts (t : Nat) (on : Bool) : ((s.tevOpen n t on).tev n).acts = (s.tev n).acts := by
  unfold State.tevOpen
  rw [tev_setReg, tev_modTev_same]
theorem tevOpen_train (t : Nat) : ((s.tevOpen n t false).tev n).train = none := by
  unfold State.tevOpen
  rw [tev_setReg, tev_modTev_same]
  rfl
theorem tevOpen_state (t : Nat) (on : Bool) : (s.tevOpen n t on).reg (Reg.tevState n) = if on then 1 else 0 := reg_setReg_same _ _ _
theorem tevOpen_regs (t : Nat) (on : Bool) : SameRegs s (s.tevOpen n t on) [Reg.tevState n] :=
  .trans (sameRegs_of_regs (t := s.modTev n _) rfl _) (.setReg (by simp) _)

end

/-! One action (R315). -/

section
variable {s : State} {n : Nat} {a : TevAct}

theorem tevAct_start (h : a.kind = 1) (ho : s.reg (Reg.tevState n) ≠ 1) : s.tevAct n false a = (s.tevOpen n a.time true).tevLog n a 0 := by
  unfold State.tevAct
  dsimp only
  rw [if_pos h, if_neg (by simpa using ho)]
  rfl
theorem tevAct_start_open (h : a.kind = 1) (ho : s.reg (Reg.tevState n) = 1) : s.tevAct n false a = s.tevLog n a 3 := by
  unfold State.tevAct
  dsimp only
  rw [if_pos h, if_pos (by simpa using ho)]
  rfl
theorem tevAct_stop (h : a.kind ≠ 1) (ho : s.reg (Reg.tevState n) = 1) : s.tevAct n false a = (s.tevOpen n a.time false).tevLog n a 0 := by
  unfold State.tevAct
  dsimp only
  rw [if_neg h, if_pos (by simpa using ho)]
  rfl
/-- A stop of a pin that is shut is logged and reported. -/
theorem tevAct_stop_shut (h : a.kind ≠ 1) (ho : s.reg (Reg.tevState n) ≠ 1) :
    Reports (s.tevLog n a 2) (s.tevAct n false a) [Reg.notifyDropped] := by
  unfold State.tevAct
  dsimp only
  rw [if_neg h, if_neg (by simpa using ho)]
  split
  · exact .notifyPlot (by simp) _ _ _
  · exact .refl _ _

end

/-- The pending actions of a pin are taken. -/
def State.takeActs (s : State) (n : Nat) : State := s.modTev n fun x => { x with acts := [] }

theorem tevAct_acts (s : State) (n : Nat) (a : TevAct) : ((s.tevAct n false a).tev n).acts = (s.tev n).acts := by
  by_cases h : a.kind = 1
  · by_cases ho : s.reg (Reg.tevState n) = 1
    · rw [tevAct_start_open h ho, tevLog_acts]
    · rw [tevAct_start h ho, tevLog_acts, tevOpen_acts]
  · by_cases ho : s.reg (Reg.tevState n) = 1
    · rw [tevAct_stop h ho, tevLog_acts, tevOpen_acts]
    · rw [tev_of_tevs ((tevAct_stop_shut h ho).field State.tevs fun _ => rfl), tevLog_acts]

theorem tevStep_one {s : State} {n : Nat} {a : TevAct} (h : (s.tev n).acts = [a]) : s.tevStep n false = (s.takeActs n).tevAct n false a := by
  have hsort : sortBy tevLe (s.tev n).acts = [a] := by rw [h]; rfl
  have hnow : ([a].filter fun b => b.time / 65536 == a.time / 65536) = [a] := by simp
  have hzero : min ([a].countP fun b => b.kind == 1) ([a].countP fun b => b.kind == 2) = 0 := by
    by_cases h1 : a.kind = 1
    · simp [h1]
    · simp [List.countP_cons, h1]
  unfold State.tevStep
  rw [hsort]
  dsimp only
  rw [hnow, hzero]
  rfl

theorem exec_tevActionDue {s : State} {n : Fin 24} {a : TevAct} (h : (s.tev n).acts = [a])
    (ht : a.time / 65536 * 4294967296 < s.boundaryTime (s.tick + 1)) :
    exec (.tevActionDue n) s = .next ((s.takeActs n).tevAct n false a) := by
  rw [← tevStep_one h]
  exact if_pos (by simpa [h] using ht)

/-! Captures (R312, R313). -/

/-- The entry of a capture (Table 10.5). -/
def State.capEntry (s : State) (n : Nat) (falling : Bool) (stamp : Nat) : List Byte :=
  timeBytes stamp ++ [if falling then 1 else 0, if (s.tev n).gap then 1 else 0] ++ leBytes 4 (s.tev n).seq
/-- A pin with one more entry. -/
def TevSt.stores (t : TevSt) (e : List Byte) : TevSt :=
  { t with caps := t.caps ++ [e], capsNow := t.capsNow ++ [e], gap := false, seq := (t.seq + 1) % 4294967296 }
/-- A pin that has dropped an entry. -/
def TevSt.drops (t : TevSt) : TevSt := { t with gap := true, seq := (t.seq + 1) % 4294967296 }

theorem capture_eq_store {s : State} {n : Nat} {falling : Bool} {stamp : Nat} (h : (s.tev n).caps.length < 32) :
    ∃ o, s.capture n falling stamp = ((s.modTev n fun t => t.stores (s.capEntry n falling stamp)).setReg (Reg.tevCapLevel n)
      ((s.tev n).caps.length + 1 : Nat)).stageEntry o 2 (s.capEntry n falling stamp) := ⟨_, if_neg (Nat.not_le.mpr h)⟩
theorem capture_eq_drop {s : State} {n : Nat} {falling : Bool} {stamp : Nat} (h : 32 ≤ (s.tev n).caps.length) :
    s.capture n falling stamp = (s.modTev n TevSt.drops).bump (Reg.tevCapDrop n) := if_pos h

section
variable (s : State) (o : Nat) (e : List Byte)
theorem stageEntry_tevs : (s.stageEntry o 2 e).tevs = s.tevs := rfl
end

/-- A capture is stored in a pin with room: the entry, the level. -/
theorem capture_room {s : State} {n : Nat} {falling : Bool} {stamp : Nat} (h : (s.tev n).caps.length < 32) :
    (s.capture n falling stamp).tev n = (s.tev n).stores (s.capEntry n falling stamp) ∧
    (s.capture n falling stamp).reg (Reg.tevCapLevel n) = ((s.tev n).caps.length + 1 : Nat) ∧
    SameRegs s (s.capture n falling stamp) [Reg.tevCapLevel n] := by
  obtain ⟨o, heq⟩ := capture_eq_store (falling := falling) (stamp := stamp) h
  rw [heq, tev_of_tevs (stageEntry_tevs _ _ _), reg_of_regs (stageEntry_regs _ _ _ _)]
  refine ⟨tev_modTev_same s n fun t => t.stores (s.capEntry n falling stamp), reg_setReg_same _ _ _, ?_⟩
  have h1 : SameRegs s (s.modTev n fun t => t.stores (s.capEntry n falling stamp)) [Reg.tevCapLevel n] := sameRegs_of_regs rfl _
  exact (h1.trans (.setReg (by simp) _)).trans (sameRegs_of_regs (stageEntry_regs _ _ _ _) _)

/-- At 32 entries a capture is dropped and counted. -/
theorem capture_full {s : State} {n : Nat} {falling : Bool} {stamp : Nat} (h : 32 ≤ (s.tev n).caps.length) :
    (s.capture n falling stamp).tev n = (s.tev n).drops ∧
    (s.capture n falling stamp).reg (Reg.tevCapDrop n) = bump32 (s.reg (Reg.tevCapDrop n)) ∧
    SameRegs s (s.capture n falling stamp) [Reg.tevCapDrop n] := by
  rw [capture_eq_drop h]
  refine ⟨tev_modTev_same s n _, reg_bump_same _ _, ?_⟩
  have h1 : SameRegs s (s.modTev n TevSt.drops) [Reg.tevCapDrop n] := sameRegs_of_regs rfl _
  exact h1.trans (.setReg (by simp) _)

theorem sendCell_tevs (s : State) (c : Cell) : (s.sendCell c).tevs = s.tevs ∧ (s.sendCell c).regs = s.regs := by
  unfold State.sendCell
  split
  · exact ⟨rfl, rfl⟩
  · split
    · exact ⟨rfl, rfl⟩
    · exact ⟨rfl, rfl⟩
theorem forwardInput_tevs (s : State) (item : Nat) (x : Lfwd) : (s.forwardInput item x).tevs = s.tevs ∧ (s.forwardInput item x).regs = s.regs := by
  unfold State.forwardInput State.when
  split
  · exact sendCell_tevs _ _
  · exact ⟨rfl, rfl⟩

/-- The edge that a pin saw last. -/
def State.sawEdge (s : State) (n ns : Nat) : State := s.modTev n fun t => { t with lastEdge := some ns }
/-- An edge that a pin takes: its time is kept, and it is captured, and forwarded by a chip of a pair that alone has it. -/
def State.takeEdge (s : State) (n : Fin 24) (falling : Bool) (ns : Nat) : State :=
  ((s.sawEdge n ns).capture n falling ((ns : Int) - s.tevOffsetNs n).toNat).forwardInput (128 + n.val) (.tev n falling ns)

/-- Does a capture pin select an edge. -/
@[reducible] def State.selects (s : State) (n : Nat) (falling : Bool) : Prop :=
  if falling then 2 ≤ s.nat (Reg.tevEdge n) else s.nat (Reg.tevEdge n) % 2 = 1

section
variable {s : State} {n : Fin 24} {falling : Bool} {ns : Nat}

/-- An edge that the pin does not take changes nothing. -/
theorem exec_tevCapture_other (h : s.reg (Reg.tevMode n) ≠ 1 ∨ ¬s.selects n falling ∨ s.ownPin (128 + n.val) = false) :
    exec (.tevCapture n falling ns) s = .next s := by
  show execTevCapture n falling ns s = _
  unfold execTevCapture
  dsimp only
  rw [if_pos ?_]
  rcases h with h | h | h
  · exact .inl h
  · refine .inr (.inl ?_)
    cases falling <;> simpa [State.selects] using h
  · exact .inr (.inr (by simp [h]))

variable (hmode : s.reg (Reg.tevMode n) = 1) (hsel : s.selects n falling) (hown : s.ownPin (128 + n.val) = true)
include hmode hsel hown

theorem selected : ¬(s.reg (Reg.tevMode n) ≠ 1 ∨ (!(if falling then decide (s.nat (Reg.tevEdge n) ≥ 2)
    else s.nat (Reg.tevEdge n) % 2 == 1)) = true ∨ (!s.ownPin (128 + n.val)) = true) := by
  rintro (h | h | h)
  · exact h hmode
  · cases falling <;> simp_all [State.selects]
  · simp [hown] at h

theorem exec_tevCapture_far (hfar : ∀ e, (s.tev n).lastEdge = some e → e + 8 ≤ ns) :
    exec (.tevCapture n falling ns) s = .next (s.takeEdge n falling ns) := by
  have hnear : (match (s.tev n).lastEdge with | some e => decide (ns < e + 8) | none => false) = false := by
    split
    · next e he => exact decide_eq_false (by have := hfar e he; omega)
    · rfl
  show execTevCapture n falling ns s = _
  unfold execTevCapture
  extract_lets t sel near
  have hn : near = false := hnear
  rw [hn]
  dsimp only
  rw [if_neg Bool.false_ne_true]
  dsimp only
  rw [if_neg (selected hmode hsel hown)]
  rfl

/-- An edge nearer than 8 ns takes a free word: it is not taken, or taken as any other. -/
theorem exec_tevCapture_near {e : Nat} (he : (s.tev n).lastEdge = some e) (hnear : ns < e + 8) :
    ∃ u : State, u.tevs = s.tevs ∧ (exec (.tevCapture n falling ns) s = .next u ∨ exec (.tevCapture n falling ns) s = .next (u.takeEdge n falling ns)) := by
  have hnear : (match (s.tev n).lastEdge with | some e => decide (ns < e + 8) | none => false) = true := by
    rw [he]
    exact decide_eq_true hnear
  refine ⟨s.freeWord.2, rfl, ?_⟩
  show execTevCapture n falling ns s = _ ∨ execTevCapture n falling ns s = _
  unfold execTevCapture
  extract_lets t sel near
  have hn : near = true := hnear
  rw [hn]
  dsimp only
  rw [if_pos rfl, if_neg (selected hmode hsel hown)]
  by_cases hw : s.freeWord.1 % 2 = 0
  · left
    rw [if_pos hw]
  · right
    rw [if_neg hw]
    rfl

end

section
variable (s : State) (n : Fin 24) (falling : Bool) (ns : Nat)

theorem takeEdge_tev : (s.takeEdge n falling ns).tev n = ((s.sawEdge n ns).capture n falling ((ns : Int) - s.tevOffsetNs n).toNat).tev n :=
  tev_of_tevs (forwardInput_tevs _ _ _).1 n
theorem takeEdge_regs : (s.takeEdge n falling ns).regs = ((s.sawEdge n ns).capture n falling ((ns : Int) - s.tevOffsetNs n).toNat).regs :=
  (forwardInput_tevs _ _ _).2
theorem sawEdge_tev : (s.sawEdge n ns).tev n = { s.tev n with lastEdge := some ns } := tev_modTev_same _ _ _
theorem sawEdge_regs : (s.sawEdge n ns).regs = s.regs := rfl
/-- The entry does not depend on the edge seen before. -/
theorem sawEdge_capEntry (stamp : Nat) : (s.sawEdge n ns).capEntry n falling stamp = s.capEntry n falling stamp := by
  simp only [State.capEntry, sawEdge_tev]

end

theorem takeEdge_room {s : State} {n : Fin 24} {falling : Bool} {ns : Nat} (h : (s.tev n).caps.length < 32) :
    (s.takeEdge n falling ns).tev n = TevSt.stores { s.tev n with lastEdge := some ns } (s.capEntry n falling ((ns : Int) - s.tevOffsetNs n).toNat) ∧
    (s.takeEdge n falling ns).reg (Reg.tevCapLevel n) = ((s.tev n).caps.length + 1 : Nat) ∧
    SameRegs s (s.takeEdge n falling ns) [Reg.tevCapLevel n] := by
  have hlen : ((s.sawEdge n ns).tev n).caps.length = (s.tev n).caps.length := by rw [sawEdge_tev]
  obtain ⟨h1, h2, h3⟩ := capture_room (s := s.sawEdge n ns) (falling := falling) (stamp := ((ns : Int) - s.tevOffsetNs n).toNat) (hlen ▸ h)
  rw [takeEdge_tev, reg_of_regs (takeEdge_regs _ _ _ _), h1, h2, sawEdge_tev, sawEdge_capEntry]
  refine ⟨rfl, rfl, ?_⟩
  exact (SameRegs.trans (sameRegs_of_regs (sawEdge_regs s n ns) _) h3).trans (sameRegs_of_regs (takeEdge_regs _ _ _ _) _)

theorem takeEdge_full {s : State} {n : Fin 24} {falling : Bool} {ns : Nat} (h : 32 ≤ (s.tev n).caps.length) :
    (s.takeEdge n falling ns).tev n = TevSt.drops { s.tev n with lastEdge := some ns } ∧
    (s.takeEdge n falling ns).reg (Reg.tevCapDrop n) = bump32 (s.reg (Reg.tevCapDrop n)) ∧
    SameRegs s (s.takeEdge n falling ns) [Reg.tevCapDrop n] := by
  have hlen : ((s.sawEdge n ns).tev n).caps.length = (s.tev n).caps.length := by rw [sawEdge_tev]
  obtain ⟨h1, h2, h3⟩ := capture_full (s := s.sawEdge n ns) (falling := falling) (stamp := ((ns : Int) - s.tevOffsetNs n).toNat) (hlen ▸ h)
  rw [takeEdge_tev, reg_of_regs (takeEdge_regs _ _ _ _), h1, h2, sawEdge_tev]
  refine ⟨rfl, congrArg bump32 (reg_of_regs (sawEdge_regs s n ns) _), ?_⟩
  exact (SameRegs.trans (sameRegs_of_regs (sawEdge_regs s n ns) _) h3).trans (sameRegs_of_regs (takeEdge_regs _ _ _ _) _)

/-! Edges of a train (R316). -/

theorem exec_tevPulseEdge {s : State} {n : Fin 24} {start e : Nat} (h : (s.tev n).train = some (start, e))
    (ht : s.edgeTime n start e * 4294967296 < s.boundaryTime (s.tick + 1)) :
    exec (.tevPulseEdge n) s = .next (s.sendEdge n start e true) := by
  show execTevPulseEdge n s = _
  unfold execTevPulseEdge
  rw [h]
  exact if_pos ht

theorem sendEdge_next {s : State} {n start e : Nat} (h : s.trainDone n (e + 1) = false) :
    ((s.sendEdge n start e true).tev n).train = some (start, e + 1) ∧ (s.sendEdge n start e true).regs = s.regs := by
  unfold State.sendEdge
  extract_lets at_ idle
  rw [if_neg (by simp [h])]
  exact ⟨congrArg TevSt.train (tev_modTev_same s n _), rfl⟩

theorem sendEdge_last {s : State} {n start e : Nat} (h : s.trainDone n (e + 1) = true) :
    s.sendEdge n start e true = s.tevOpen n (s.edgeTime n start e * 65536) false := if_pos h

/-! The commands of a pin that the plot holds (R311, R314). -/

section
variable {p : Fin 16} {n : Fin 24} {s : State} (h : s.holds p 28 noUnit n = true)
include h

theorem exec_tevMode {mode : Nat} (hm : mode ≤ 3) : exec (.tevMode p n mode) s =
    .next ((s.modTev n fun t => { t with next := some (s.after 1, mode) }).reply 0) := by
  show execTevMode p n mode s = _
  unfold execTevMode
  rw [if_neg (by simp [h]), if_neg (by omega)]

theorem exec_tevAction_good {batch : List Byte} (hc : s.tevBatchCode n batch = 0) : exec (.tevAction p n batch) s =
    .next (((s.setReg (Reg.tevActStatus n) 0).modTev n fun t => { t with acts := tevMerge t.acts ((records 16 batch).map tevRecord) }).reply 0) := by
  show execTevAction p n batch s = _
  unfold execTevAction
  rw [if_neg (by simp [h])]
  dsimp only
  rw [hc]
  rfl

theorem exec_tevAction_bad {batch : List Byte} (hc : s.tevBatchCode n batch ≠ 0) : exec (.tevAction p n batch) s =
    .next ((s.setReg (Reg.tevActStatus n) (s.tevBatchCode n batch)).reply 0) := by
  show execTevAction p n batch s = _
  unfold execTevAction
  rw [if_neg (by simp [h])]
  dsimp only
  rw [if_neg hc]

theorem exec_cancel : exec (.cancel p n) s = .next (((s.takeActs n).setReg (Reg.tevActStatus n) 0).reply 0) := if_neg (by simp [h])

end

/-- Settles O27: each command is one case of its guard, a capture by the room of its pin, an action by the pin's window. -/
theorem tevPinCommands : Obligations.TevPinCommands := by
  intro p n s
  refine ⟨fun h => ⟨fun mode hm => ?_, fun mode hm => ?_, fun batch hc => ?_, fun batch hc => ?_, ?_⟩,
    fun h => ⟨fun mode => if_pos (by simp [h]), fun batch => if_pos (by simp [h]), if_pos (by simp [h])⟩, ?_, ?_, ?_, ?_, ?_, ?_, ?_⟩
  · refine runs_of_exec rfl (exec_tevMode h hm) fun hmem => ⟨?_, rfl, sameRegs_of_regs rfl _, fun m hne =>
      (tev_reply _ _ _).trans (tev_modTev_other _ _ _ _ hne), hmem⟩
    exact congrArg TevSt.next (tev_modTev_same s n fun t => { t with next := some (s.after 1, mode) })
  · show execTevMode p n mode s = _
    unfold execTevMode
    rw [if_neg (by simp [h]), if_pos hm]
  · refine runs_of_exec rfl (exec_tevAction_good h hc) fun hmem => ⟨?_, ?_, ?_, hmem⟩
    · exact congrArg TevSt.acts (tev_modTev_same (s.setReg (Reg.tevActStatus n) 0) n fun t =>
        { t with acts := tevMerge t.acts ((records 16 batch).map tevRecord) })
    · rw [reg_reply, reg_modTev, reg_setReg_same]
    · exact SameRegs.trans (.setReg (q := Reg.tevActStatus n) (by simp) 0) (sameRegs_of_regs rfl _)
  · exact runs_of_exec rfl (exec_tevAction_bad h hc) fun hmem => ⟨rfl, reg_setReg_same _ _ _,
      SameRegs.trans (.setReg (q := Reg.tevActStatus n) (by simp) _) (sameRegs_of_regs rfl _), hmem⟩
  · refine runs_of_exec rfl (exec_cancel h) fun hmem => ⟨?_, ?_, ?_, fun m hne =>
      (tev_reply _ _ _).trans ((tev_setReg _ _ _ _).trans (tev_modTev_other _ _ _ _ hne)), hmem⟩
    · exact congrArg TevSt.acts (tev_modTev_same s n fun t => { t with acts := [] })
    · rw [reg_reply, reg_setReg_same]
    · exact SameRegs.trans (t := s.takeActs n) (sameRegs_of_regs rfl _)
        (SameRegs.trans (.setReg (q := Reg.tevActStatus n) (by simp) 0) (sameRegs_of_regs rfl _))
  · intro falling ns hmode hsel hown
    refine ⟨fun hfar => ⟨fun hroom => ?_, fun hfull => ?_⟩, fun e he hnear => ?_⟩
    · obtain ⟨htev, hlevel, hregs⟩ := takeEdge_room (n := n) (falling := falling) (ns := ns) hroom
      refine runs_of_exec rfl (exec_tevCapture_far hmode hsel hown hfar) fun hmem => ?_
      rw [htev]
      exact ⟨rfl, rfl, hlevel, rfl, hregs, hmem⟩
    · obtain ⟨htev, hdrop, hregs⟩ := takeEdge_full (n := n) (falling := falling) (ns := ns) hfull
      refine runs_of_exec rfl (exec_tevCapture_far hmode hsel hown hfar) fun hmem => ?_
      rw [htev]
      exact ⟨rfl, rfl, hdrop, hregs, hmem⟩
    · obtain ⟨u, hu, hrun | hrun⟩ := exec_tevCapture_near hmode hsel hown he hnear
      · exact runs_of_exec rfl hrun fun hmem => ⟨.inl (by rw [tev_of_tevs hu]), hmem⟩
      · refine runs_of_exec rfl hrun fun hmem => ⟨?_, hmem⟩
        by_cases hroom : (u.tev n).caps.length < 32
        · right
          rw [(takeEdge_room hroom).1]
          simp [TevSt.stores, tev_of_tevs hu]
        · left
          rw [(takeEdge_full (Nat.not_lt.mp hroom)).1]
          simp [TevSt.drops, tev_of_tevs hu]
  · intro falling ns h
    refine exec_tevCapture_other (h.imp_right fun h => h.imp_left fun h => ?_)
    cases falling <;> simpa [State.selects] using h
  · have h : exec (.tevCapRead n) s = .next { (s.modTev n fun t => { t with caps := t.caps.drop 16 }).setReg (Reg.tevCapLevel n)
        ((s.tev n).caps.length - 16 : Nat) with answer := { bytes := ((s.tev n).caps.take 16).flatten } } := rfl
    refine runs_of_exec rfl h fun hmem => ⟨rfl, ?_, reg_setReg_same _ _ _, ?_, hmem⟩
    · exact congrArg TevSt.caps (tev_modTev_same s n fun t => { t with caps := t.caps.drop 16 })
    · exact SameRegs.trans (t := s.modTev n fun t => { t with caps := t.caps.drop 16 }) (sameRegs_of_regs rfl _)
        (SameRegs.trans (.setReg (q := Reg.tevCapLevel n) (by simp) _) (sameRegs_of_regs rfl _))
  · intro a ha ht
    have hst : (s.takeActs n).reg (Reg.tevState n) = s.reg (Reg.tevState n) := rfl
    have htake : ∀ l, SameRegs s (s.takeActs n) l := fun l => sameRegs_of_regs rfl l
    have hlog : ∀ (u : State) c l, SameRegs u (u.tevLog n a c) l := fun u c l => sameRegs_of_regs (tevLog_regs u n a c) l
    refine runs_of_exec rfl (exec_tevActionDue ha ht) fun hmem => ⟨?_, hmem, fun hk ho => ?_, fun hk ho => ?_, fun hk ho => ?_, fun hk ho => ?_⟩
    · rw [tevAct_acts]
      exact congrArg TevSt.acts (tev_modTev_same s n fun t => { t with acts := [] })
    · rw [tevAct_start hk (hst.trans_ne ho), reg_of_regs (tevLog_regs _ _ _ _)]
      exact ⟨tevOpen_state _ _ _ _, (htake _).trans ((tevOpen_regs _ _ _ _).trans (hlog _ _ _))⟩
    · rw [tevAct_stop (a := a) (by omega) (hst.trans ho), reg_of_regs (tevLog_regs _ _ _ _)]
      exact ⟨tevOpen_state _ _ _ _, (htake _).trans ((tevOpen_regs _ _ _ _).trans (hlog _ _ _))⟩
    · rw [tevAct_start_open hk (hst.trans ho)]
      exact (htake _).trans (hlog _ _ _)
    · rw [(tevAct_stop_shut (n := n) (by omega : a.kind ≠ 1) (hst.trans_ne ho)).2 _ (by simp), reg_of_regs (tevLog_regs _ _ _ _), hst]
  · intro h
    refine if_neg ?_
    simpa using h
  · intro start e htrain
    refine ⟨fun ht => ⟨fun hd => ?_, fun hd => ?_⟩, fun ht => ?_⟩
    · obtain ⟨hnext, hregs⟩ := sendEdge_next (start := start) hd
      exact runs_of_exec rfl (exec_tevPulseEdge htrain ht) fun hmem => ⟨hnext, sameRegs_of_regs hregs _, hmem⟩
    · refine runs_of_exec rfl (exec_tevPulseEdge htrain ht) fun hmem => ?_
      rw [sendEdge_last hd] at hmem ⊢
      exact ⟨tevOpen_train _ _ _, tevOpen_state _ _ _ _, tevOpen_regs _ _ _ _, hmem⟩
    · show execTevPulseEdge n s = _
      unfold execTevPulseEdge
      rw [htrain]
      exact if_neg (Nat.not_lt.mpr ht)
  · intro h
    show execTevPulseEdge n s = _
    unfold execTevPulseEdge
    rw [h]

end Sys2Proof.Machine
end

section
/-!
PROOFS. Frames leave and are dropped at a NET port (10, R309; 11, R325, R339 to R344).
-/
namespace Sys2Proof.Machine

/-! A port. -/

section
variable (s : State) (n m : Nat) (f : PortSt → PortSt)

@[simp] theorem port_modPort_same : (s.modPort n f).port n = f (s.port n) := NTable.get_mod_same _ _ _ _
@[simp] theorem port_setReg (r : Reg) (v : Int) : (s.setReg r v).port n = s.port n := rfl
theorem port_of_net {s t : State} (h : t.net = s.net) (n : Nat) : t.port n = s.port n := by simp only [State.port, h]
theorem modPort_regs : (s.modPort n f).regs = s.regs := rfl

end

/-- The registers that count a frame which leaves. -/
@[reducible] def sendRegs (n q : Nat) : List Reg := [Reg.txFrames n, Reg.txOctets n, Reg.qTxFrames n q, Reg.netMmFrag n, Reg.tcNoFollow n,
  Reg.tsFifoLevel, Reg.tsFifoDrop]

/-- A correction changes no port, and counts a follow-up without its Sync alone. -/
theorem correct_frame (s : State) (n : Nat) (f : QFrame) (now : Nat) : (s.correct n f now).1.net = s.net ∧
    SameRegs s (s.correct n f now).1 [Reg.tcNoFollow n] ∧ (f.ingress = none → (s.correct n f now).2 = f.body) := by
  unfold State.correct
  split
  · next inp o hi ho =>
    have hno : f.ingress ≠ none := by rw [hi]; simp
    dsimp only
    split
    · exact ⟨rfl, .refl _ _, fun _ => rfl⟩
    split
    · split
      · exact ⟨rfl, .refl _ _, fun h => absurd h hno⟩
      · exact ⟨rfl, .setReg (by simp) _, fun _ => rfl⟩
    split
    · exact ⟨rfl, .refl _ _, fun _ => rfl⟩
    split
    · exact ⟨rfl, sameRegs_of_regs rfl _, fun _ => rfl⟩
    · exact ⟨rfl, .refl _ _, fun h => absurd h hno⟩
  · exact ⟨rfl, .refl _ _, fun _ => rfl⟩

theorem tsPush_frame (s : State) (ns port msg seq dom : Nat) : (s.tsPush ns port msg seq dom).net = s.net ∧
    SameRegs s (s.tsPush ns port msg seq dom) [Reg.tsFifoLevel, Reg.tsFifoDrop] := by
  unfold State.tsPush
  split
  · exact ⟨rfl, SameRegs.trans (t := s.bump Reg.tsFifoDrop) (.setReg (by simp) _) (sameRegs_of_regs rfl _)⟩
  · refine ⟨rfl, SameRegs.trans (t := s.modClk _) (sameRegs_of_regs rfl _) (.setReg (by simp) _)⟩

/-- The port that a frame leaves: it is out of the queue, on the wire, and the port is busy with it. -/
def PortSt.sends (x : PortSt) (f : QFrame) (busy : Nat) (body : List Byte) (first : Nat) : PortSt :=
  { x with queue := x.queue.erase f, busy := busy, wire := some { f with body := body, first := some first } }

/-- The counters of a frame that leaves. -/
def State.countSent (s : State) (n : Nat) (f : QFrame) : State :=
  ((s.setReg (Reg.txFrames n) ((s.reg (Reg.txFrames n) + 1) % 18446744073709551616)).setRegs
    [(Reg.txOctets n, (s.reg (Reg.txOctets n) + f.len) % 18446744073709551616),
     (Reg.qTxFrames n f.q, (s.reg (Reg.qTxFrames n f.q) + 1) % 18446744073709551616)]).when (decide (f.sent > 0)) fun s => s.bump (Reg.netMmFrag n)

theorem countSent_frame (s : State) (n : Nat) (f : QFrame) : (s.countSent n f).net = s.net ∧
    (s.countSent n f).reg (Reg.txFrames n) = (s.reg (Reg.txFrames n) + 1) % 18446744073709551616 ∧
    SameRegs s (s.countSent n f) [Reg.txFrames n, Reg.txOctets n, Reg.qTxFrames n f.q, Reg.netMmFrag n] := by
  unfold State.countSent
  obtain ⟨u, hu⟩ : ∃ u, s.setReg (Reg.txFrames n) ((s.reg (Reg.txFrames n) + 1) % 18446744073709551616) = u := ⟨_, rfl⟩
  have hsame : SameRegs s u [Reg.txFrames n, Reg.txOctets n, Reg.qTxFrames n f.q, Reg.netMmFrag n] := hu ▸ .setReg (by simp) _
  have hreg : u.reg (Reg.txFrames n) = (s.reg (Reg.txFrames n) + 1) % 18446744073709551616 := hu ▸ reg_setReg_same _ _ _
  have hnet : u.net = s.net := by rw [← hu]; rfl
  rw [hu]
  have hrep : Reports u ((u.setRegs [(Reg.txOctets n, (s.reg (Reg.txOctets n) + f.len) % 18446744073709551616),
      (Reg.qTxFrames n f.q, (s.reg (Reg.qTxFrames n f.q) + 1) % 18446744073709551616)]).when (decide (f.sent > 0)) fun s =>
        s.bump (Reg.netMmFrag n)) [Reg.txOctets n, Reg.qTxFrames n f.q, Reg.netMmFrag n] :=
    (Reports.setRegs (by simp)).trans (.when _ (.bump (by simp)))
  refine ⟨(hrep.field State.net fun _ => rfl).trans hnet, ?_, hsame.trans (hrep.2.mono (by simp))⟩
  rw [hrep.2 _ (by simp), hreg]

/-- A frame that starts leaves its queue for the wire and is counted. -/
theorem sendFrame_frame (s : State) (n : Nat) (f : QFrame) (now : Nat) :
    (∃ body, ((s.sendFrame n f now).port n) = (s.port n).sends f (now + s.wireNs n (f.len - f.sent + 20)) body (f.first.getD now) ∧
      (f.ingress = none → body = f.body)) ∧
    (s.sendFrame n f now).reg (Reg.txFrames n) = (s.reg (Reg.txFrames n) + 1) % 18446744073709551616 ∧
    SameRegs s (s.sendFrame n f now) (sendRegs n f.q) := by
  obtain ⟨s0, hs0⟩ : ∃ u, s.modPort n (fun x => { x with queue := x.queue.erase f, busy := now + s.wireNs n (f.len - f.sent + 20) }) = u := ⟨_, rfl⟩
  have hp0 : s0.port n = { s.port n with queue := (s.port n).queue.erase f, busy := now + s.wireNs n (f.len - f.sent + 20) } := by
    rw [← hs0, port_modPort_same]
  have hr0 : s0.regs = s.regs := by rw [← hs0]; rfl
  obtain ⟨hnet1, hregs1, hbody⟩ := correct_frame s0 n f (f.first.getD now)
  obtain ⟨s1, hs1⟩ : ∃ u, (s0.correct n f (f.first.getD now)).1 = u := ⟨_, rfl⟩
  obtain ⟨body, hb⟩ : ∃ b, (s0.correct n f (f.first.getD now)).2 = b := ⟨_, rfl⟩
  rw [hs1] at hnet1 hregs1
  rw [hb] at hbody
  obtain ⟨s2, hs2⟩ : ∃ u, s1.modPort n (fun x => { x with wire := some { f with body := body, first := some (f.first.getD now) } }) = u := ⟨_, rfl⟩
  have hp2 : s2.port n = (s.port n).sends f (now + s.wireNs n (f.len - f.sent + 20)) body (f.first.getD now) := by
    rw [← hs2, port_modPort_same, port_of_net hnet1, hp0]
    rfl
  have hr2 : s2.regs = s1.regs := by rw [← hs2]; rfl
  obtain ⟨hnet4, htx, hregs4⟩ := countSent_frame s2 n f
  have heq : s.sendFrame n f now = (match f.mark with
      | some (msg, seq, dom) => (s2.countSent n f).tsPush ((s2.countSent n f).egressStamp n now).toNat n msg seq dom
      | none => s2.countSent n f) := by
    rw [← hs2, ← hs1, ← hb, ← hs0]
    rfl
  have hsame : SameRegs s (s2.countSent n f) (sendRegs n f.q) :=
    (SameRegs.trans (sameRegs_of_regs hr0 _) (hregs1.mono (by simp))).trans ((sameRegs_of_regs hr2 _).trans (hregs4.mono (by simp)))
  have htx' : (s2.countSent n f).reg (Reg.txFrames n) = (s.reg (Reg.txFrames n) + 1) % 18446744073709551616 := by
    rw [htx, reg_of_regs hr2, hregs1 _ (by simp), reg_of_regs hr0]
  rw [heq]
  split
  · next msg seq dom _ =>
    obtain ⟨hnet5, hregs5⟩ := tsPush_frame (s2.countSent n f) ((s2.countSent n f).egressStamp n now).toNat n msg seq dom
    refine ⟨⟨body, ?_, hbody⟩, (hregs5 _ (by simp)).trans htx', hsame.trans (hregs5.mono (by simp))⟩
    rw [port_of_net hnet5, port_of_net hnet4, hp2]
  · refine ⟨⟨body, ?_, hbody⟩, htx', hsame⟩
    rw [port_of_net hnet4, hp2]

/-! Frames that are dropped. -/

/-- A state that follows from another by dropping frames: the bridge as before, counts in the registers of a set. -/
@[reducible] def Drops (l : List Reg) (s t : State) : Prop := Only State.net (· ∈ l) s t

theorem drops_dropFrame (s : State) (n : Nat) (r : Reg) (f : QFrame) {l : List Reg} (hr : r ∈ l) (hq : Reg.qDrops n f.q ∈ l) :
    Drops l s (s.dropFrame n r f) := by
  have hbump : ∀ (s : State) (q : Reg), q ∈ l → Drops l s (s.bump q) := fun s q h => Only.setReg (P := (· ∈ l)) h _ rfl
  refine ((hbump s r hr).trans (hbump _ _ hq)).trans ?_
  unfold State.dropFrame State.legDrop
  split
  · exact .of_regs rfl rfl
  · exact .refl _
theorem dropFrame_counts (s : State) (n : Nat) (r : Reg) (f : QFrame) (hr : r ≠ Reg.qDrops n f.q) :
    (s.dropFrame n r f).reg r = bump32 (s.reg r) := by
  have h : (s.dropFrame n r f).reg r = ((s.bump r).bump (Reg.qDrops n f.q)).reg r := by
    unfold State.dropFrame State.legDrop
    split <;> rfl
  rw [h, reg_bump_other _ _ _ hr, reg_bump_same]

/-- Frames of a set are dropped: each is counted, and the rest of the queue stays. -/
theorem dropAll_frame (s : State) (n : Nat) (r : Reg) (late : QFrame → Bool) (l : List Reg) (hr : ∀ q, r ≠ Reg.qDrops n q)
    (hl : r ∈ l) (hq : ∀ f, late f = true → Reg.qDrops n f.q ∈ l) :
    let t := overL ((s.port n).queue.filter late) (fun s f => s.dropFrame n r f) (s.modPort n fun x => { x with queue := x.queue.filter fun f => !late f })
    (t.port n).queue = (s.port n).queue.filter (fun f => !late f) ∧
    t.reg r = counted ((s.port n).queue.filter late).length (s.reg r) ∧
    ((s.port n).queue.filter late = [] → SameRegs s t []) ∧ SameRegs s t l := by
  intro t
  have hm : SameRegs s (s.modPort n fun x => { x with queue := x.queue.filter fun f => !late f }) [] := sameRegs_of_regs rfl _
  have hd : Drops l (s.modPort n fun x => { x with queue := x.queue.filter fun f => !late f }) t :=
    .of_overL _ (fun s f hf => drops_dropFrame s n r f hl (hq f (List.mem_filter.mp hf).2)) _
  have hc := overL_counts (f := fun s f => s.dropFrame n r f) (q := r) (fun _ => true) (fun s f _ => dropFrame_counts s n r f (hr f.q))
    (fun _ _ h => absurd h (by simp)) ((s.port n).queue.filter late) (s.modPort n fun x => { x with queue := x.queue.filter fun f => !late f })
  refine ⟨?_, ?_, fun h => ?_, (hm.mono (by simp)).trans hd.sameRegs⟩
  · rw [port_of_net hd.view, port_modPort_same]
  · rw [List.filter_true] at hc
    exact hc.trans (congrArg (counted _) (reg_of_regs (modPort_regs s n _) r))
  · have ht : t = s.modPort n fun x => { x with queue := x.queue.filter fun f => !late f } := by
      show overL _ _ _ = _
      rw [h]
      rfl
    rw [ht]
    exact hm

/-! The commands. -/

section
variable {n : Fin 24} {now : Nat} {s s1 : State} (hp : s.pump n now = s1)
include hp

theorem exec_launch {f : QFrame} (hf : (s1.port n).head 7 = some f) : exec (.launch n now) s =
    if f.launch.getD 0 ≤ now ∧ now ≤ f.launch.getD 0 + s.nat (Reg.launchWindow n) ∧ (s1.port n).busy ≤ now ∧ s1.reg (Reg.netLink n) = 1 ∧
      s1.mayStart n 7 now f = true then .next (s1.sendFrame n f now) else .next s1 := by
  show execLaunch n now s = _
  unfold execLaunch
  rw [hp]
  dsimp only
  rw [hf]

theorem exec_launch_empty (hf : (s1.port n).head 7 = none) : exec (.launch n now) s = .next s1 := by
  show execLaunch n now s = _
  unfold execLaunch
  rw [hp]
  dsimp only
  rw [hf]

theorem exec_residenceDrop : exec (.residenceDrop n now) s = .next (overL ((s1.port n).queue.filter fun f =>
      decide (f.q < 7) && f.first.isNone && decide (f.stamp + s.nat Reg.brMaxResidence * 1000 < now))
    (fun s f => s.dropFrame n (Reg.dropGate n) f) (s1.modPort n fun x => { x with queue := x.queue.filter fun f =>
      !(decide (f.q < 7) && f.first.isNone && decide (f.stamp + s.nat Reg.brMaxResidence * 1000 < now)) })) := by
  show execResidenceDrop n now s = _
  unfold execResidenceDrop
  rw [hp]

end

/-- The head of a queue that holds one frame. -/
theorem head_one (x : PortSt) (f : QFrame) (h : x.queue = [f]) (q : Nat) : x.head q = if f.q = q then some f else none := by
  unfold PortSt.head
  rw [h]
  by_cases hq : f.q = q
  · simp [hq]
  · simp [hq]
theorem head_empty (x : PortSt) (h : x.queue = []) (q : Nat) : x.head q = none := by
  unfold PortSt.head
  rw [h]
  rfl

theorem heads_one (x : PortSt) (f : QFrame) (h : x.queue = [f]) (hq : f.q < 7) :
    ([6, 5, 4, 3, 2, 1, 0].filterMap fun q => x.head q) = [f] := by
  simp only [head_one x f h]
  have : f.q = 0 ∨ f.q = 1 ∨ f.q = 2 ∨ f.q = 3 ∨ f.q = 4 ∨ f.q = 5 ∨ f.q = 6 := by omega
  rcases this with e | e | e | e | e | e | e <;> simp [e]
theorem heads_empty (x : PortSt) (h : x.queue = []) : ([6, 5, 4, 3, 2, 1, 0].filterMap fun q => x.head q) = [] := by
  simp only [head_empty x h]
  rfl

theorem pumpFuel_empty (k : Nat) {s : State} {n now : Nat} (h : (s.port n).queue = []) : pumpFuel k s n now = s := by
  cases k with
  | zero => rfl
  | succ k =>
    unfold pumpFuel
    extract_lets x heads
    have hh : heads = [] := heads_empty _ h
    rw [hh]
    rfl

theorem pumpFuel_down (k : Nat) {s : State} {n now : Nat} (h : s.reg (Reg.netLink n) ≠ 1) : pumpFuel k s n now = s := by
  cases k with
  | zero => rfl
  | succ k =>
    unfold pumpFuel
    extract_lets x heads
    split
    · rfl
    · exact if_pos (.inr h)

/-- One frame that its gate lets start leaves, and the queues are empty. -/
theorem pump_one {s : State} {n now : Nat} {f : QFrame} (hq : (s.port n).queue = [f]) (h7 : f.q < 7)
    (ht : max (s.port n).busy f.enq ≤ now) (hl : s.reg (Reg.netLink n) = 1)
    (hm : s.mayStart n f.q (max (s.port n).busy f.enq) f = true) : s.pump n now = s.sendFrame n f (max (s.port n).busy f.enq) := by
  have hlen : (s.port n).queue.length + 1 = 1 + 1 := by rw [hq]; rfl
  obtain ⟨⟨body, hport, _⟩, _, _⟩ := sendFrame_frame s n f (max (s.port n).busy f.enq)
  have hempty : ((s.sendFrame n f (max (s.port n).busy f.enq)).port n).queue = [] := by
    rw [hport]
    simp [PortSt.sends, hq]
  unfold State.pump
  rw [hlen, pumpFuel]
  dsimp only
  rw [heads_one _ _ hq h7]
  have hfind : [f].find? (fun f' => decide (f'.enq ≤ max (s.port n).busy f.enq) && s.mayStart n f'.q (max (s.port n).busy f.enq) f') =
      some f := by
    rw [List.find?_cons_of_pos]
    simp only [Bool.and_eq_true, decide_eq_true_eq]
    exact ⟨le_max_right _ _, hm⟩
  simp only [List.foldl_cons, List.foldl_nil]
  rw [if_neg (by rintro (h | h); exacts [Nat.not_le.mpr h ht, h hl]), hfind]
  exact pumpFuel_empty 1 hempty

/-- The frame on the wire is cut: what has gone is counted as a fragment, and the rest waits at the head of the queue. -/
def State.cutFrame (s : State) (n : Nat) (f : QFrame) (cut now busy : Nat) : State :=
  (((s.bump (Reg.netMmFrag n)).setReg (Reg.txFrames n) ((s.bump (Reg.netMmFrag n)).reg (Reg.txFrames n) - 1)).setRegs
    [(Reg.txOctets n, (s.bump (Reg.netMmFrag n)).reg (Reg.txOctets n) - f.len),
     (Reg.qTxFrames n f.q, (s.bump (Reg.netMmFrag n)).reg (Reg.qTxFrames n f.q) - 1)]).modPort n
    fun x => { x with queue := { f with sent := cut, enq := now } :: x.queue, busy := busy, wire := none }

theorem cutFrame_port (s : State) (n : Nat) (f : QFrame) (cut now busy : Nat) : (s.cutFrame n f cut now busy).port n =
    { s.port n with queue := { f with sent := cut, enq := now } :: (s.port n).queue, busy := busy, wire := none } := by
  unfold State.cutFrame
  rw [port_modPort_same]
  have h : ∀ (s : State) l, (s.setRegs l).port n = s.port n := fun s l => setRegs_keeps (g := fun s => s.port n) (fun _ _ _ => rfl) s l
  rw [h, port_setReg]
  rfl
theorem cutFrame_count (s : State) (n : Nat) (f : QFrame) (cut now busy : Nat) :
    (s.cutFrame n f cut now busy).reg (Reg.netMmFrag n) = bump32 (s.reg (Reg.netMmFrag n)) := by
  unfold State.cutFrame
  rw [reg_of_regs (modPort_regs _ _ _)]
  have h : ∀ (s : State) a b, (s.setRegs [(Reg.txOctets n, a), (Reg.qTxFrames n f.q, b)]).reg (Reg.netMmFrag n) = s.reg (Reg.netMmFrag n) :=
    fun s a b => (Reports.setRegs (l := [Reg.txOctets n, Reg.qTxFrames n f.q]) (by simp)).2 _ (by simp)
  rw [h, reg_setReg_other _ _ _ _ (by simp), reg_bump_same]

theorem exec_preemptHold {n : Fin 24} {now : Nat} {s s1 : State} {f : QFrame} {gone cut : Nat} (hp : s.pump n now = s1)
    (hw : (s1.port n).wire = some f) (hb : now < (s1.port n).busy) (hg : gone = f.len + 20 - ((s1.port n).busy - now) * s1.portSpeed n / 8000)
    (hc : cut = max gone (f.sent + 64)) (hclose : ∃ c, s1.gateClose n f.q now = some c ∧ c ≤ now + (s1.wireNs n 139 + 7) / 8 * 8)
    (hpre : s1.preemptable n f.q = true) (hlen : cut + 64 ≤ f.len) :
    exec (.preemptHold n now) s = .next (s1.cutFrame n f cut now (now + s1.wireNs n (cut - gone + 16))) := by
  obtain ⟨c, hgc, hcl⟩ := hclose
  show execPreemptHold n now s = _
  unfold execPreemptHold
  rw [hp]
  dsimp only
  rw [hw]
  dsimp only
  rw [hgc, ← hg, ← hc]
  dsimp only
  rw [if_neg]
  · rfl
  · simp [hcl, hpre]
    omega

/-- Settles O28: a frame that starts is one case of each command, and what is dropped is counted frame by frame. -/
theorem framesLeaveAndDrop : Obligations.FramesLeaveAndDrop := by
  intro n now s s1 hp
  refine ⟨fun f hf => ⟨fun h1 h2 h3 h4 h5 => ?_, fun h => ?_⟩, exec_launch_empty hp, ?_, ?_, ?_, ?_, ?_, ?_⟩
  · have hrun := exec_launch hp hf
    rw [if_pos ⟨h1, h2, h3, h4, h5⟩] at hrun
    obtain ⟨⟨body, hport, hbody⟩, htx, hregs⟩ := sendFrame_frame s1 n f now
    refine runs_of_exec rfl hrun fun hm => ⟨?_, ?_, fun hi => ?_, htx, hregs, hm⟩
    · rw [hport]; rfl
    · rw [hport]; rfl
    · rw [hport, hbody hi]; rfl
  · rw [exec_launch hp hf, if_neg]
    rintro ⟨h1, h2, h3, h4, h5⟩
    rcases h with h | h | h | h | h
    · omega
    · omega
    · omega
    · exact h h4
    · rw [h5] at h; cases h
  · intro late hlate
    obtain ⟨hq, hc, hnone, hregs⟩ := dropAll_frame s n (Reg.launchLate n)
      (fun f => f.q == 7 && decide (f.launch.getD 0 + s.nat (Reg.launchWindow n) < now)) [Reg.launchLate n, Reg.qDrops n 7]
      (fun q => by simp) (by simp) (fun f hf => by simp at hf; simp [hf.1])
    refine runs_of_exec rfl rfl fun hm => ⟨hq, fun hne => ?_, fun he => hnone (hlate ▸ he), hregs, hm⟩
    rw [hc, ← hlate]
    exact if_neg (by simpa using hne)
  · intro f hq h7 ht hl hms
    have hrun : exec (.gateChange n now) s = .next (s.pump n now) := rfl
    rw [pump_one hq h7 ht hl hms] at hrun
    obtain ⟨⟨body, hport, hbody⟩, htx, hregs⟩ := sendFrame_frame s n f (max (s.port n).busy f.enq)
    refine runs_of_exec rfl hrun fun hm => ⟨?_, htx, fun hi => ?_, hregs, hm⟩
    · rw [hport]; simp [PortSt.sends, hq]
    · rw [hport, hbody hi]; rfl
  · intro h
    have hrun : exec (.gateChange n now) s = .next (s.pump n now) := rfl
    rw [hrun]
    refine congrArg _ ?_
    rcases h with h | h
    · exact pumpFuel_down _ h
    · exact pumpFuel_empty _ h
  · intro old hold
    obtain ⟨hq, hc, hnone, hregs⟩ := dropAll_frame s1 n (Reg.dropGate n)
      (fun f => decide (f.q < 7) && f.first.isNone && decide (f.stamp + s.nat Reg.brMaxResidence * 1000 < now))
      (Reg.dropGate n :: (List.range 7).map fun q => Reg.qDrops n q)
      (fun q => by simp) (by simp) (fun f hf => by
        simp only [Bool.and_eq_true, decide_eq_true_eq] at hf
        exact .tail _ (List.mem_map.mpr ⟨f.q, List.mem_range.mpr hf.1.1, rfl⟩))
    have hrun := exec_residenceDrop hp
    refine ⟨_, hrun, hq, fun hne => ?_, fun he => hnone (hold ▸ he), hregs, sameMem_of_mem (exec_mem rfl hrun)⟩
    rw [hc, ← hold]
    exact if_neg (by simpa using hne)
  · intro f gone cut hw hb hg hc hclose hpre hlen
    refine runs_of_exec rfl (exec_preemptHold hp hw hb hg hc hclose hpre hlen) fun hm => ?_
    rw [cutFrame_port, cutFrame_count]
    exact ⟨rfl, rfl, rfl, rfl, hm⟩
  · intro h
    show execPreemptHold n now s = _
    unfold execPreemptHold
    rw [hp]
    dsimp only
    split
    · rfl
    · next f hf =>
      rcases h with h | h
      · rw [h] at hf; cases hf
      · exact if_pos (.inl h)

end Sys2Proof.Machine
end

section
/-!
PROOFS. NET port configuration and links (11, R319 to R321, R324, R341 to R346).
-/
namespace Sys2Proof.Machine

/-! A link that goes down (R321). -/

/-- The registers of a port whose link goes down, and of the candidates on it. -/
@[reducible] def linkRegs (n : Nat) (r : Reg) : Prop :=
  r = Reg.dropLink n ∨ (∃ q, r = Reg.qDrops n q) ∨ r = Reg.brFdbCount ∨ r = Reg.brFlapAlarm ∨ r = Reg.netLinkDowns n ∨ r = Reg.netSpeed n ∨
    ∃ k, r ∈ refRegs k

/-- A link that goes down loses its frames, dynamic entries and speed, and is counted. -/
theorem linkDown_frame (s : State) (n : Nat) :
    ((s.linkDown n).port n) = { s.port n with queue := [], busy := 0, wire := none } ∧
    (s.linkDown n).net.fdb = s.net.fdb.filter (fun e => e.static || e.port != n) ∧
    (s.linkDown n).reg (Reg.netLinkDowns n) = bump32 (s.reg (Reg.netLinkDowns n)) ∧
    (s.linkDown n).reg (Reg.netSpeed n) = 0 ∧ ∀ r, ¬linkRegs n r → (s.linkDown n).reg r = s.reg r := by
  obtain ⟨s1, hs1⟩ : ∃ u, s.modPort n (fun x => { x with queue := [], busy := 0, wire := none }) = u := ⟨_, rfl⟩
  have hp1 : s1.port n = { s.port n with queue := [], busy := 0, wire := none } := by rw [← hs1, port_modPort_same]
  have hf1 : s1.net.fdb = s.net.fdb := by rw [← hs1]; rfl
  have hr1 : s1.regs = s.regs := by rw [← hs1]; rfl
  obtain ⟨s2, hs2⟩ : ∃ u, overL (s.port n).queue (fun s f => s.dropFrame n (Reg.dropLink n) f) s1 = u := ⟨_, rfl⟩
  have h2 : Only State.net (fun r => r = Reg.dropLink n ∨ ∃ q, r = Reg.qDrops n q) s1 s2 := by
    rw [← hs2]
    refine .of_overL _ (fun s f _ => ?_) s1
    refine (drops_dropFrame s n (Reg.dropLink n) f (l := [Reg.dropLink n, Reg.qDrops n f.q]) (by simp) (by simp)).mono fun r hr => ?_
    rcases List.mem_pair.mp hr with h | h
    · exact .inl h
    · exact .inr ⟨f.q, h⟩
  obtain ⟨s3, hs3⟩ : ∃ u, s2.setFdb (s2.net.fdb.filter fun e => e.static || e.port != n) = u := ⟨_, rfl⟩
  have hp3 : s3.port n = s2.port n := by
    rw [← hs3]
    exact setRegs_keeps (g := fun s => s.port n) (fun _ _ _ => rfl) _ _
  have hf3 : s3.net.fdb = s2.net.fdb.filter fun e => e.static || e.port != n := by
    rw [← hs3]
    exact setRegs_keeps (g := fun s => s.net.fdb) (fun _ _ _ => rfl) _ _
  have hr3 : SameRegs s2 s3 [Reg.brFdbCount, Reg.brFlapAlarm] := by
    rw [← hs3]
    exact (sameRegs_of_regs (t := s2.modNet _) rfl _).trans (Reports.setRegs (by simp)).2
  obtain ⟨s4, hs4⟩ : ∃ u, (s3.bump (Reg.netLinkDowns n)).setReg (Reg.netSpeed n) 0 = u := ⟨_, rfl⟩
  have hn4 : s4.net = s3.net := by rw [← hs4]; rfl
  have hr4 : SameRegs s3 s4 [Reg.netLinkDowns n, Reg.netSpeed n] := by
    rw [← hs4]
    exact SameRegs.trans (t := s3.bump (Reg.netLinkDowns n)) (.setReg (by simp) _) (.setReg (by simp) _)
  have h5 : Only State.net (fun r => ∃ k, r ∈ refRegs k) s4 (s.linkDown n) := by
    have heq : s.linkDown n = overL [9, 10, 11, 12] (fun s r => if s.nat (Reg.refSyncePort r) = n then s.refFaults r 1 else s) s4 := by
      rw [← hs4, ← hs3, ← hs2, ← hs1]
      rfl
    rw [heq]
    refine .of_overL _ (fun s r _ => .of_ite (fun _ => ?_) fun _ => .refl _) s4
    exact (RefChange.refFaults refBlind_net s r 1).mono fun x hx => ⟨r, hx⟩
  have hdowns : s3.reg (Reg.netLinkDowns n) = s.reg (Reg.netLinkDowns n) := by
    rw [hr3 _ (by simp), h2.regs _ (by simp), reg_of_regs hr1]
  refine ⟨?_, ?_, ?_, ?_, fun r hr => ?_⟩
  · rw [port_of_net h5.view, port_of_net hn4, hp3, port_of_net h2.view, hp1]
  · rw [h5.view, hn4, hf3, h2.view, hf1]
  · rw [h5.regs _ (by simp), ← hs4, reg_setReg_other _ _ _ _ (by simp), reg_bump_same, hdowns]
  · rw [h5.regs _ (by simp), ← hs4, reg_setReg_same]
  · simp only [linkRegs, not_or, not_exists] at hr
    obtain ⟨hd, hq, hc, hf, hl, hsp, hk⟩ := hr
    rw [h5.regs r (by simpa using hk), hr4 r (by simp [hl, hsp]), hr3 r (by simp [hc, hf]), h2.regs r (by simp [hd]; simpa using hq),
      reg_of_regs hr1]

theorem mem_fdb_linkDown {s : State} {n : Nat} {e : FdbEntry} (h : e ∈ (s.linkDown n).net.fdb) : e.static = true ∨ e.port ≠ n := by
  rw [(linkDown_frame s n).2.1, List.mem_filter] at h
  simpa using h.2

/-! Modes and links (R319 to R321). -/

section
variable {n : Fin 24} {s : State} {mode : Nat}

/-- A port in a new mode, powered down. -/
def State.changeMode (s : State) (n : Fin 24) (mode : Nat) : State :=
  (s.modPort n fun x => { x with mode := some mode, changing := true }).setRegs [(Reg.netMode n, (mode : Int)), (Reg.netLink n, 2)]

theorem changeMode_frame (s : State) (n : Fin 24) (mode : Nat) :
    (s.changeMode n mode).port n = { s.port n with mode := some mode, changing := true } ∧
    (s.changeMode n mode).reg (Reg.netMode n) = mode ∧ (s.changeMode n mode).reg (Reg.netLink n) = 2 ∧
    SameRegs s (s.changeMode n mode) [Reg.netMode n, Reg.netLink n] := by
  refine ⟨(setRegs_keeps (g := fun s => s.port n) (fun _ _ _ => rfl) _ _).trans (port_modPort_same s n fun x =>
    { x with mode := some mode, changing := true }), ?_, reg_setReg_same _ _ _, ?_⟩
  · exact (reg_setReg_other _ _ _ _ (by simp)).trans (reg_setReg_same _ _ _)
  · exact SameRegs.trans (t := s.modPort n fun x => { x with mode := some mode, changing := true }) (sameRegs_of_regs rfl _)
      (Reports.setRegs (by simp)).2

theorem exec_netMode (h : modeOk n mode = true) : exec (.netMode n mode) s =
    .next (((if s.reg (Reg.netLink n) = 1 then s.linkDown n else s).changeMode n mode).reply 0) := if_neg (by simp [h])

theorem netMode_runs (h : modeOk n mode = true) : Runs (.netMode n mode) s fun t =>
    t.reg (Reg.netMode n) = mode ∧ t.reg (Reg.netLink n) = 2 ∧ (t.port n).mode = some mode ∧
    (t.port n).changing = true ∧ t.answer.status = 0 ∧ SameMem s t ∧
    (s.reg (Reg.netLink n) ≠ 1 → SameRegs s t [Reg.netMode n, Reg.netLink n]) ∧
    (s.reg (Reg.netLink n) = 1 → (t.port n).queue = [] ∧ t.reg (Reg.netSpeed n) = 0 ∧
      t.reg (Reg.netLinkDowns n) = (s.reg (Reg.netLinkDowns n) + 1) % 4294967296) := by
  obtain ⟨u, hu⟩ : ∃ u, (if s.reg (Reg.netLink n) = 1 then s.linkDown n else s) = u := ⟨_, rfl⟩
  obtain ⟨hport, hmode, hlink, hregs⟩ := changeMode_frame u n mode
  have hrun := exec_netMode (s := s) h
  rw [hu] at hrun
  refine runs_of_exec rfl hrun fun hm => ⟨hmode, hlink, congrArg PortSt.mode hport, congrArg PortSt.changing hport, rfl, hm,
    fun hl => ?_, fun hl => ?_⟩
  · rw [if_neg hl] at hu
    rw [hu]
    exact hregs
  · rw [if_pos hl] at hu
    obtain ⟨hp, _, hdowns, hspeed, _⟩ := linkDown_frame s n
    rw [hu] at hp hdowns hspeed
    refine ⟨?_, ?_, ?_⟩
    · exact (congrArg PortSt.queue hport).trans (congrArg PortSt.queue hp)
    · exact (hregs _ (by simp)).trans hspeed
    · exact (hregs _ (by simp)).trans hdowns

theorem exec_netLinkUp {sgmii : Nat} (h0 : s.reg (Reg.netLink n) = 0) (hm : s.nat (Reg.netMode n) = mode) (h1 : 1 ≤ mode) (h5 : mode ≤ 5) :
    exec (.netLinkUp n sgmii) s = .next (s.setRegs [(Reg.netLink n, 1), (Reg.netSpeed n,
      (if mode = 1 then 25000 else if mode = 2 then 10000 else if mode = 3 then 2500
        else if mode = 5 ∧ (sgmii = 10 ∨ sgmii = 100) then sgmii else 1000 : Nat))]) := by
  show execNetLinkUp n sgmii s = _
  unfold execNetLinkUp
  rw [hm]
  have hcases : mode = 1 ∨ mode = 2 ∨ mode = 3 ∨ mode = 4 ∨ mode = 5 := by omega
  rcases hcases with rfl | rfl | rfl | rfl | rfl
  · exact if_neg (by simp [h0])
  · exact if_neg (by simp [h0])
  · exact if_neg (by simp [h0])
  · exact if_neg (by simp [h0])
  · by_cases hs : sgmii = 10 ∨ sgmii = 100
    · have hv : sgmii ≠ 0 := by omega
      simp [h0, hs, hv]
    · simp [h0, hs]

theorem exec_netLinkUp_idle {sgmii : Nat} (h : s.reg (Reg.netLink n) ≠ 0 ∨ s.nat (Reg.netMode n) = 0) :
    exec (.netLinkUp n sgmii) s = .next s := by
  show execNetLinkUp n sgmii s = _
  unfold execNetLinkUp
  rcases h with h | h
  · exact if_pos (.inl h)
  · rw [h]
    exact if_pos (.inr rfl)

end

/-! Segmentation (R345). -/

theorem length_segmentsFuel (k : Nat) (head : List Byte) (x : SegHead) {mss : Nat} (i : Nat) (p : List Byte) (hm : 0 < mss)
    (hk : p.length / mss < k) : (segmentsFuel k head x mss i p).length = max 1 ((p.length + mss - 1) / mss) := by
  induction k generalizing i p with
  | zero => exact absurd hk (Nat.not_lt_zero _)
  | succ k ih =>
    unfold segmentsFuel
    split
    · next hle =>
      have : (p.length + mss - 1) / mss < 2 := (Nat.div_lt_iff_lt_mul hm).mpr (by omega)
      rw [List.length_singleton]
      omega
    · next hlt =>
      have hlen : p.length = (p.drop mss).length + mss := by rw [List.length_drop]; omega
      have hdiv : p.length / mss = (p.drop mss).length / mss + 1 := by rw [hlen, Nat.add_div_right _ hm]
      have hpos : 0 < (p.drop mss).length := by rw [List.length_drop]; omega
      have hup : (p.length + mss - 1) / mss = ((p.drop mss).length + mss - 1) / mss + 1 := by
        rw [← Nat.add_div_right _ hm]
        congr 1
        omega
      have hge : 1 ≤ ((p.drop mss).length + mss - 1) / mss := (Nat.one_le_div_iff hm).mpr (by omega)
      rw [List.length_cons, ih (i + 1) (p.drop mss) (by omega), hup]
      omega

/-- A frame that reaches a queue is dropped for one of three causes, or waits there. -/
theorem enqueue_cases (s : State) (n : Nat) (f : QFrame) :
    (∃ r ∈ [Reg.dropLink n, Reg.launchLate n, Reg.dropQfull n], s.enqueue n f = s.dropFrame n r f) ∨
      s.enqueue n f = s.modPort n fun x => { x with queue := x.queue ++ [f] } := by
  unfold State.enqueue
  extract_lets late room
  by_cases h1 : s.reg (Reg.netLink n) ≠ 1
  · exact .inl ⟨_, by simp, if_pos h1⟩
  rw [if_neg h1]
  cases late with
  | true => exact .inl ⟨Reg.launchLate n, by simp, rfl⟩
  | false =>
    rw [if_neg Bool.false_ne_true]
    by_cases h3 : s.cellsUsed n f.q f.plot + cellsOf f.len > room
    · exact .inl ⟨_, by simp, if_pos h3⟩
    · exact .inr (if_neg h3)

/-- The segmentation counts are not among a port's: no frame that is queued, dropped or sent changes one. -/
theorem enqueue_seg (s : State) (n : Fin 24) (f : QFrame) (k : Nat) : (s.enqueue n f).reg ⟨0x3405, k, 0⟩ = s.reg ⟨0x3405, k, 0⟩ := by
  rcases enqueue_cases s n f with ⟨r, hr, h⟩ | h
  · rw [h]
    refine (drops_dropFrame s n r f (l := [r, Reg.qDrops n f.q]) (by simp) (by simp)).regs _ fun hm => ?_
    rcases List.mem_pair.mp hm with he | he
    · rw [← he] at hr
      simp at hr
      omega
    · simp at he
      omega
  · rw [h]
    rfl

theorem pumpFuel_seg (k : Nat) (s : State) (n : Fin 24) (now j : Nat) : (pumpFuel k s n now).reg ⟨0x3405, j, 0⟩ = s.reg ⟨0x3405, j, 0⟩ := by
  have hsend : ∀ (s : State) (f : QFrame) t, (s.sendFrame n f t).reg ⟨0x3405, j, 0⟩ = s.reg ⟨0x3405, j, 0⟩ := fun s f t =>
    (sendFrame_frame s n f t).2.2 _ (by simp; omega)
  induction k generalizing s with
  | zero => rfl
  | succ k ih =>
    unfold pumpFuel
    dsimp only
    split
    · rfl
    split
    · rfl
    split
    · exact (ih _).trans (hsend _ _ _)
    split
    · exact (ih _).trans (hsend _ _ _)
    · rfl

/-- The frame of a segment. -/
def segFrame (q now : Nat) (b : List Byte) : QFrame := { q := q, body := b, len := max 64 (b.length + 4), enq := now, stamp := now }
/-- A segment is queued. -/
def State.queueSeg (n q now : Nat) (s : State) (b : List Byte) : State := s.enqueue n (segFrame q now b)
/-- A segment is dropped at a port without link. -/
def State.dropSeg (n q now : Nat) (s : State) (b : List Byte) : State := s.dropFrame n (Reg.dropLink n) (segFrame q now b)

/-- At a port without link every segment is dropped. -/
theorem queueSegs_down {n : Nat} (q now : Nat) (l : List (List Byte)) {s : State} (h : s.reg (Reg.netLink n) ≠ 1) :
    overL l (State.queueSeg n q now) s = overL l (State.dropSeg n q now) s ∧
      (overL l (State.dropSeg n q now) s).reg (Reg.netLink n) ≠ 1 := by
  induction l generalizing s with
  | nil => exact ⟨rfl, h⟩
  | cons b l ih =>
    have hb : State.queueSeg n q now s b = State.dropSeg n q now s b := if_pos h
    have hl : (State.dropSeg n q now s b).reg (Reg.netLink n) ≠ 1 := by
      have hd := drops_dropFrame s n (Reg.dropLink n) (segFrame q now b) (l := [Reg.dropLink n, Reg.qDrops n q]) (by simp) (by simp [segFrame])
      exact (hd.regs (Reg.netLink n) (by simp)) ▸ h
    obtain ⟨h1, h2⟩ := ih hl
    exact ⟨by rw [overL, List.foldl_cons, hb]; exact h1, h2⟩

/-- The counts of a descriptor that is taken. -/
def State.countSegs (s : State) (k : Nat) : State :=
  (s.bump Reg.segSends).setReg Reg.segFrames ((s.reg Reg.segFrames + (k : Int)) % 18446744073709551616)

section
variable {n : Fin 24} {s : State} {q mss : Nat} {head payload : List Byte}

theorem exec_segSend_refused (h : segHead head = none ∨ 6 < q ∨ mss < 64 ∨ 9000 < mss ∨ 262144 < payload.length ∨
    9216 < head.length + min mss payload.length + 4) : exec (.segSend n q mss head payload) s = .next (s.bump Reg.segRefused) := by
  show execSegSend n q mss head payload s = _
  unfold execSegSend
  split
  · rfl
  · next x hx =>
    refine if_pos ?_
    rcases h with h | h
    · rw [h] at hx; cases hx
    · exact h

theorem exec_segSend (hx : segHead head ≠ none) (h : q ≤ 6 ∧ 64 ≤ mss ∧ mss ≤ 9000 ∧ payload.length ≤ 262144 ∧
    head.length + min mss payload.length + 4 ≤ 9216) : ∃ segs : List (List Byte),
      segs.length = max 1 ((payload.length + mss - 1) / mss) ∧
      exec (.segSend n q mss head payload) s = .next ((overL segs (State.queueSeg n q s.timeNs) (s.countSegs segs.length)).pump n s.timeNs) := by
  obtain ⟨x, hx⟩ := Option.ne_none_iff_exists'.mp hx
  refine ⟨segmentsFuel (payload.length / mss + 1) head x mss 0 payload, length_segmentsFuel _ _ _ _ _ (by omega) (Nat.lt_succ_self _), ?_⟩
  show execSegSend n q mss head payload s = _
  unfold execSegSend
  rw [hx]
  exact if_neg (by omega)

theorem segSend_runs (hx : segHead head ≠ none) (h : q ≤ 6 ∧ 64 ≤ mss ∧ mss ≤ 9000 ∧ payload.length ≤ 262144 ∧
    head.length + min mss payload.length + 4 ≤ 9216) : Runs (.segSend n q mss head payload) s fun t =>
      t.reg Reg.segSends = (s.reg Reg.segSends + 1) % 4294967296 ∧
      t.reg Reg.segFrames = (s.reg Reg.segFrames + max 1 ((payload.length + mss - 1) / mss : Nat)) % 18446744073709551616 ∧
      (s.reg (Reg.netLink n) ≠ 1 → t.reg (Reg.dropLink n) =
        (s.reg (Reg.dropLink n) + max 1 ((payload.length + mss - 1) / mss : Nat)) % 4294967296) ∧ SameMem s t := by
  obtain ⟨segs, hlen, hrun⟩ := exec_segSend (n := n) (s := s) hx h
  have hseg : ∀ k, ((overL segs (State.queueSeg n q s.timeNs) (s.countSegs segs.length)).pump n s.timeNs).reg ⟨0x3405, k, 0⟩ =
      (s.countSegs segs.length).reg ⟨0x3405, k, 0⟩ := fun k =>
    (pumpFuel_seg _ _ _ _ _).trans (overL_keeps (g := fun s => s.reg ⟨0x3405, k, 0⟩) segs _ fun s b _ => enqueue_seg s n _ k)
  have hcast : ((segs.length : Nat) : Int) = (max 1 ((payload.length + mss - 1) / mss) : Nat) := by rw [hlen]
  refine runs_of_exec rfl hrun fun hm => ⟨?_, ?_, fun hl => ?_, hm⟩
  · exact (hseg 1).trans ((reg_setReg_other _ _ _ _ (by simp)).trans (reg_bump_same _ _))
  · exact (hseg 2).trans ((reg_setReg_same _ _ _).trans (by rw [hcast]))
  · have hc : SameRegs s (s.countSegs segs.length) [Reg.segSends, Reg.segFrames] :=
      SameRegs.trans (t := s.bump Reg.segSends) (.setReg (by simp) _) (.setReg (by simp) _)
    have hl' : (s.countSegs segs.length).reg (Reg.netLink n) ≠ 1 := by
      rw [hc _ (by simp)]
      exact hl
    obtain ⟨hall, hdown⟩ := queueSegs_down q s.timeNs segs hl'
    have hcount := overL_counts (f := State.dropSeg n q s.timeNs) (q := Reg.dropLink n) (fun _ => true)
      (fun s b _ => dropFrame_counts s n (Reg.dropLink n) (segFrame q _ b) (by simp)) (fun _ _ h => absurd h (by simp)) segs (s.countSegs segs.length)
    rw [List.filter_true, hc _ (by simp)] at hcount
    rw [hall, State.pump, pumpFuel_down _ hdown, hcount, counted, if_neg (by omega), hcast]

end

/-! Preemption and ESMC (R343, R344, R346). -/

theorem exec_netPreempt {n : Fin 24} {s : State} {v : Nat} (h8 : 8 ≤ n.val) (hm : s.nat (Reg.netMode n) = 3 ∨ s.nat (Reg.netMode n) = 4 ∨
    (s.nat (Reg.netMode n) = 5 ∧ s.portSpeed n = 1000)) (hv : v < 128) : exec (.netPreempt n v) s =
    .next ((s.setRegs [(Reg.netPreempt n, v), (Reg.netPreemptState n,
      if v = 0 then 0 else if s.reg (Reg.netPreemptState n) = 0 then 1 else s.reg (Reg.netPreemptState n))]).reply 0) := by
  refine if_neg ?_
  rintro (h | h | h)
  · omega
  · exact h hm
  · omega

theorem exec_esmcTx {n : Fin 24} {s : State} (hb : bit (s.reg Reg.synceTxMask) n = true)
    (h : ∀ q, (s.port n).esmcSent = some q → q.1 ≠ s.esmcQl n ∨ q.2 + 1000000000 ≤ s.timeNs) : ∃ event, exec (.esmcTx n) s =
      .next { s.modPort n fun x => { x with esmcSent := some (s.esmcQl n, s.timeNs) } with
        answer := { bytes := s.esmcPdu (s.esmcQl n) event, sent := true } } := by
  refine ⟨_, if_neg ?_⟩
  rw [hb]
  cases hs : (s.port n).esmcSent with
  | none => simp
  | some q =>
    rcases h q hs with h1 | h1
    · simp [h1]
    · simp [h1]

theorem exec_esmcTx_idle {n : Fin 24} {s : State} (h : bit (s.reg Reg.synceTxMask) n = false ∨
    (∃ q, (s.port n).esmcSent = some q ∧ q.1 = s.esmcQl n ∧ s.timeNs < q.2 + 1000000000)) : exec (.esmcTx n) s = .next s := by
  refine if_pos ?_
  rcases h with h | ⟨q, hs, hq, ht⟩
  · exact .inl (by simp [h])
  · right
    rw [hs]
    simp [hq, ht]

theorem esmcGrade_frame (s : State) (n : Fin 24) (ql : Nat) (ext : Option Nat) : (s.esmcGrade n ql ext).net = s.net ∧
    (s.esmcGrade n ql ext).reg (Reg.netEsmcQl n) = ql := by
  obtain ⟨g, hg⟩ : ∃ g, s.esmcGrade n ql ext = overL [9, 10, 11, 12]
      (fun s r => if s.nat (Reg.refSyncePort r) = n then s.carryGrade r g else s) (s.setReg (Reg.netEsmcQl n) ql) := ⟨_, rfl⟩
  have h : Only State.net (fun r => ∃ k, r ∈ refRegs k) (s.setReg (Reg.netEsmcQl n) ql) (s.esmcGrade n ql ext) := by
    rw [hg]
    refine .of_overL _ (fun s r _ => .of_ite (fun _ => ?_) fun _ => .refl _) _
    exact (RefChange.carryGrade refBlind_net s r g).mono fun x hx => ⟨r, hx⟩
  exact ⟨h.view, (h.regs _ (by simp; omega)).trans (reg_setReg_same _ _ _)⟩

/-- Settles O29: each command is one case of its guard; a link that goes down, a descriptor and a received QL have a lemma of
their own. -/
theorem netPortConfiguration : Obligations.NetPortConfiguration := by
  intro n s
  refine ⟨fun mode h => netMode_runs h, fun mode h => if_pos (by simp [h]), ?_, ?_, ?_, fun sgmii h => exec_netLinkUp_idle h, ?_, ?_, ?_, ?_,
    ?_, ?_, ?_, ?_, ?_, ?_, ?_, ?_, fun h => exec_esmcTx_idle h, ?_, ?_⟩
  · intro h
    have hrun : exec (.netPowerdownDone n) s = .next ((s.modPort n fun x => { x with mode := none, changing := false }).setReg
      (Reg.netLink n) 0) := if_pos h
    refine runs_of_exec rfl hrun fun hm => ⟨reg_setReg_same _ _ _, ?_, ?_, hm⟩
    · rw [port_setReg, port_modPort_same]
    · exact SameRegs.trans (t := s.modPort n fun x => { x with mode := none, changing := false }) (sameRegs_of_regs rfl _) (.setReg (by simp) _)
  · exact fun h => if_neg (by simp [h])
  · intro sgmii mode h0 hmode h1 h5
    refine ⟨_, exec_netLinkUp h0 hmode h1 h5, ?_, reg_setReg_same _ _ _, (Reports.setRegs (by simp)).2,
      setRegs_keeps (g := State.units) (fun _ _ _ => rfl) _ _⟩
    exact (reg_setReg_other _ _ _ _ (by simp)).trans (reg_setReg_same _ _ _)
  · intro h
    have hrun : exec (.netLinkDown n) s = .next ((s.setReg (Reg.netLink n) 0).linkDown n) := if_pos h
    obtain ⟨hp, _, hdowns, hspeed, hregs⟩ := linkDown_frame (s.setReg (Reg.netLink n) 0) n
    refine runs_of_exec rfl hrun fun hm => ⟨?_, congrArg PortSt.queue hp, hspeed, ?_, fun e he => mem_fdb_linkDown he, hm⟩
    · rw [hregs _ (by simp [linkRegs]; omega), reg_setReg_same]
    · rw [hdowns, reg_setReg_other _ _ _ _ (by simp)]
      rfl
  · exact fun h => if_neg h
  · exact fun cells h => if_pos h
  · intro cells others held hlen hothers hheld
    have hrun : exec (.netQcells n cells) s = if others + (List.range 8).foldl (fun a q => a + leAt cells (2 * q) 2) 0 > 16384 ∨
        leAt cells 14 2 < held then .next (s.reply 0x13) else .next ((s.setBlob (Reg.netQcells n) cells).reply 0) := by
      rw [hothers, hheld]
      exact if_neg (by simp [hlen])
    refine ⟨fun h1 h2 => ?_, fun h => ?_⟩
    · rw [if_neg (by omega)] at hrun
      exact runs_of_exec rfl hrun fun hm => ⟨Table.get_put_same _ _ _ _ _, rfl, sameRegs_of_regs rfl _, hm⟩
    · rw [if_pos (by omega)] at hrun
      exact hrun
  · intro b h
    have hrun : exec (.netBaseGcl n b) s = .next ((s.modPort n fun x => { x with gclNext := some ((s.actTick + 7) / 8 * 8, b) }).reply 0) :=
      if_neg (by simp [h])
    refine runs_of_exec rfl hrun fun hm => ⟨?_, rfl, sameRegs_of_regs rfl _, hm⟩
    exact congrArg PortSt.gclNext (port_modPort_same s n fun x => { x with gclNext := some ((s.actTick + 7) / 8 * 8, b) })
  · exact fun b h => if_pos (by simp [h])
  · intro k b hk
    have hrun : exec (.baseGclApply n) s = if k ≤ s.tick then
        .next ((s.setBlob (Reg.netBaseGcl n) b).modPort n fun x => { x with gclNext := none }) else .next s := by
      show execBaseGclApply n s = _
      unfold execBaseGclApply
      rw [hk]
    refine ⟨fun h => ?_, fun h => ?_⟩
    · rw [if_pos h] at hrun
      refine runs_of_exec rfl hrun fun hm => ⟨Table.get_put_same _ _ _ _ _, ?_, sameRegs_of_regs rfl _, hm⟩
      rw [port_modPort_same]
    · rw [if_neg (Nat.not_le.mpr h)] at hrun
      exact hrun
  · intro h
    show execBaseGclApply n s = _
    unfold execBaseGclApply
    rw [h]
  · refine fun v => ⟨fun h8 hmode hv => ?_, fun h => if_pos ?_⟩
    · refine runs_of_exec rfl (exec_netPreempt h8 hmode hv) fun hm => ⟨?_, reg_setReg_same _ _ _, rfl, ?_, hm⟩
      · exact (reg_setReg_other _ _ _ _ (by simp)).trans (reg_setReg_same _ _ _)
      · exact (Reports.setRegs (by simp)).2.trans (sameRegs_of_regs rfl _)
    · rcases h with h | h | h
      · exact .inl h
      · exact .inr (.inr h)
      · exact .inr (.inl (by omega))
  · refine fun ok => ⟨fun h => ?_, fun h => if_neg h⟩
    have hrun : exec (.preemptVerifyDone n ok) s = .next (s.setReg (Reg.netPreemptState n) (if ok then 2 else 3)) := if_pos h
    exact ⟨_, hrun, reg_setReg_same _ _ _, .setReg (by simp) _, rfl⟩
  · refine fun q mss head payload => ⟨fun h => ?_, fun hx h1 h2 h3 h4 h5 => segSend_runs hx ⟨h1, h2, h3, h4, h5⟩⟩
    exact ⟨_, exec_segSend_refused h, reg_bump_same _ _, .setReg (by simp) _, rfl⟩
  · intro hb h
    obtain ⟨event, hrun⟩ := exec_esmcTx hb h
    refine runs_of_exec rfl hrun fun hm => ⟨rfl, ⟨event, rfl⟩, ?_, sameRegs_of_regs rfl _, hm⟩
    exact congrArg PortSt.esmcSent (port_modPort_same s n fun x => { x with esmcSent := some (s.esmcQl n, s.timeNs) })
  · intro k now hk
    have hrun : exec (.esmcTimeout n now) s = if k + 5000000000 ≤ now then
        .next ((s.modPort n fun x => { x with esmcAt := none }).esmcGrade n 0xF none) else .next s := by
      show execEsmcTimeout n now s = _
      unfold execEsmcTimeout
      rw [hk]
    refine ⟨fun h => ?_, fun h => ?_⟩
    · rw [if_pos h] at hrun
      obtain ⟨hnet, hql⟩ := esmcGrade_frame (s.modPort n fun x => { x with esmcAt := none }) n 0xF none
      refine runs_of_exec rfl hrun fun hm => ⟨hql, ?_, hm⟩
      rw [port_of_net hnet, port_modPort_same]
    · rw [if_neg (Nat.not_le.mpr h)] at hrun
      exact hrun
  · intro now h
    show execEsmcTimeout n now s = _
    unfold execEsmcTimeout
    rw [h]

end Sys2Proof.Machine
end

section
/-!
PROOFS. Streams start and stop (12, R364, R365).
-/
namespace Sys2Proof.Machine

/-! A stream's registers and pending actions. -/

/-- The streams of a state. -/
@[reducible] def State.streams (s : State) : NTable RxSt × NTable TxSt := (s.rxs, s.txs)
/-- A state that follows from another with its streams as before, by the registers of a set. -/
@[reducible] def SameStreams (l : List Reg) (s t : State) : Prop := Only State.streams (· ∈ l) s t

section
variable (rx : Bool) (t : Nat)
theorem state_ne_status : (streamRegs rx t).1 ≠ (streamRegs rx t).2 := by cases rx <;> simp [streamRegs]
theorem state_ne_mcCount : (streamRegs rx t).1 ≠ Reg.mcCount := by cases rx <;> simp [streamRegs]
theorem status_ne_mcCount : (streamRegs rx t).2 ≠ Reg.mcCount := by cases rx <;> simp [streamRegs]
end

section
variable {s u : State} (h : u.streams = s.streams) (rx : Bool) (t : Nat)
include h
theorem rx_of_streams : u.rx t = s.rx t := congrArg (fun x : NTable RxSt × NTable TxSt => NTable.get ({} : RxSt) x.1 t) h
theorem tx_of_streams : u.tx t = s.tx t := congrArg (fun x : NTable RxSt × NTable TxSt => NTable.get ({} : TxSt) x.2 t) h
theorem streamActs_of_streams : u.streamActs rx t = s.streamActs rx t := by
  simp only [State.streamActs, rx_of_streams h, tx_of_streams h]
end

section
variable (s : State) (rx : Bool) (t : Nat) (l : List (Nat × Bool))

theorem rx_modRx (f : RxSt → RxSt) : (s.modRx t f).rx t = f (s.rx t) := NTable.get_mod_same _ _ _ _
theorem tx_modTx (f : TxSt → TxSt) : (s.modTx t f).tx t = f (s.tx t) := NTable.get_mod_same _ _ _ _
theorem setActs_acts : (s.setActs rx t l).streamActs rx t = l := by
  cases rx
  · exact congrArg TxSt.acts (tx_modTx s t fun x => { x with acts := l })
  · exact congrArg RxSt.acts (rx_modRx s t fun x => { x with acts := l })
theorem setActs_regs : (s.setActs rx t l).regs = s.regs := by cases rx <;> rfl

end

/-- Entries of the engine follow the live streams: their count alone is a register. -/
theorem sameStreams_refreshMc (s : State) : SameStreams [Reg.mcCount] s s.refreshMc := by
  unfold State.refreshMc
  exact .trans (t := s.modNet _) (.of_regs rfl rfl) (Only.setReg (P := (· ∈ [Reg.mcCount])) (by simp) _ rfl)
theorem sameStreams_noteCmd (s : State) (at_ : Option (Nat × Bool)) (p due : Nat) (r : Reg) (start : Bool) :
    SameStreams [] s (s.noteCmd at_ p due r start) := by
  unfold State.noteCmd
  exact .of_ite (fun _ => .of_regs rfl rfl) fun _ => .refl _
theorem sameStreams_reply (s : State) (c : Nat) : SameStreams [] s (s.reply c) := .of_regs rfl rfl
theorem sameStreams_setReg (s : State) {r : Reg} {l : List Reg} (h : r ∈ l) (v : Int) : SameStreams l s (s.setReg r v) :=
  Only.setReg (P := (· ∈ l)) h v rfl
theorem sameStreams_discards (s : State) (l : List (Nat × Bool)) (p : Nat) (r : Reg) :
    SameStreams [] s (overL l (fun s e => s.discard p r e.1) s) := by
  refine .of_overL _ (fun s e _ => ?_) s
  exact .of_regs rfl rfl
theorem SameStreams.widen {l : List Reg} {s u : State} (h : SameStreams [] s u) : SameStreams l s u := h.mono (by simp)

/-! Requests (R364, R365). -/

/-- A start that joins the pending actions. -/
def State.joinStart (s : State) (p : Nat) (rx : Bool) (t due : Nat) (at_ : Option (Nat × Bool)) : State :=
  let s1 := ((s.setActs rx t (s.streamActs rx t ++ [(due, true)])).setReg (streamRegs rx t).2 1).noteCmd at_ p due
    (if rx then Reg.rxCmdAt t else Reg.txCmdAt t) true
  (if s.reg (streamRegs rx t).1 = 0 then s1.setReg (streamRegs rx t).1 1 else s1).refreshMc
/-- A stop that joins them. -/
def State.joinStop (s : State) (p : Nat) (rx : Bool) (t due : Nat) (at_ : Option (Nat × Bool)) : State :=
  ((s.setActs rx t (s.streamActs rx t ++ [(due, false)])).setReg (streamRegs rx t).2 1).noteCmd at_ p due
    (if rx then Reg.rxCmdAt t else Reg.txCmdAt t) false
/-- A start that has not acted is taken back. -/
def State.cancelStart (s : State) (rx : Bool) (t : Nat) : State :=
  (((s.setActs rx t []).setReg (streamRegs rx t).1 0).setReg (streamRegs rx t).2 0).refreshMc

section
variable {s : State} {p : Fin 16} {rx : Bool} {t : Fin 1024} {at_ : Option (Nat × Bool)}

theorem exec_streamStart : exec (if rx then .rxStart p t at_ else .txStart p t at_) s = .next (s.streamStart p rx t at_) := by
  cases rx <;> rfl
theorem exec_streamStop : exec (if rx then .rxStop p t at_ else .txStop p t at_) s = .next (s.streamStop p rx t at_) := by
  cases rx <;> rfl

theorem streamStart_foreign (h : s.streamPlot rx t ≠ some p.val) : s.streamStart p rx t at_ = s.reply 0x11 := if_pos h
theorem streamStop_foreign (h : s.streamPlot rx t ≠ some p.val) : s.streamStop p rx t at_ = s.reply 0x11 := if_pos h

variable (h : s.streamPlot rx t = some p.val)
include h

theorem streamStart_error {c : Nat} (hc : s.actAt p at_ = .error c) : s.streamStart p rx t at_ = s.reply c := by
  unfold State.streamStart
  dsimp only
  rw [if_neg (not_not.mpr h), hc]
theorem streamStop_error {c : Nat} (hc : s.actAt p at_ = .error c) : s.streamStop p rx t at_ = s.reply c := by
  unfold State.streamStop
  dsimp only
  rw [if_neg (not_not.mpr h), hc]

variable {due code : Nat} (hd : s.actAt p at_ = .ok (due, code))
include hd

theorem streamStart_joins (hgood : (s.reg (streamRegs rx t).1 ≠ 0 ∧ s.reg (streamRegs rx t).1 ≠ 3) ∨
    (if rx then s.rxCode p t else s.txCode p t) = none) : s.streamStart p rx t at_ = (s.joinStart p rx t due at_).reply code := by
  have hbad : (if s.reg (streamRegs rx t).1 = 0 ∨ s.reg (streamRegs rx t).1 = 3 then (if rx then s.rxCode p t else s.txCode p t)
      else none) = none := by
    rcases hgood with ⟨h0, h3⟩ | hg
    · rw [if_neg (by simp [h0, h3])]
    · rw [hg, ite_self]
  unfold State.streamStart
  dsimp only
  rw [if_neg (not_not.mpr h), hd]
  dsimp only
  rw [hbad]
  rfl

theorem streamStart_refused {c : Nat} (hst : s.reg (streamRegs rx t).1 = 0 ∨ s.reg (streamRegs rx t).1 = 3)
    (hc : (if rx then s.rxCode p t else s.txCode p t) = some c) :
    s.streamStart p rx t at_ = (s.setReg (streamRegs rx t).2 c).reply code := by
  unfold State.streamStart
  dsimp only
  rw [if_neg (not_not.mpr h), hd]
  dsimp only
  rw [if_pos hst, hc]

theorem streamStop_cancels (hst : s.reg (streamRegs rx t).1 = 1) (hat : at_ = none) :
    s.streamStop p rx t at_ = (s.cancelStart rx t).reply code := by
  unfold State.streamStop
  dsimp only
  rw [if_neg (not_not.mpr h), hd]
  dsimp only
  rw [if_pos ⟨hst, by rw [hat]; rfl⟩]
  rfl

theorem streamStop_joins (hst : s.reg (streamRegs rx t).1 ≠ 1 ∨ at_ ≠ none) :
    s.streamStop p rx t at_ = (s.joinStop p rx t due at_).reply code := by
  unfold State.streamStop
  dsimp only
  rw [if_neg (not_not.mpr h), hd]
  dsimp only
  rw [if_neg]
  · rfl
  · rintro ⟨h1, hn⟩
    rcases hst with h2 | h2
    · exact h2 h1
    · exact h2 (Option.isNone_iff_eq_none.mp hn)

end

section
variable (s : State) (p : Nat) (rx : Bool) (t due : Nat) (at_ : Option (Nat × Bool))

theorem setActs_sameRegs (l : List (Nat × Bool)) (r : List Reg) : SameRegs s (s.setActs rx t l) r := sameRegs_of_regs (setActs_regs _ _ _ _) _

theorem joinStart_frame : (s.joinStart p rx t due at_).streamActs rx t = s.streamActs rx t ++ [(due, true)] ∧
    (s.joinStart p rx t due at_).reg (streamRegs rx t).2 = 1 ∧
    (s.joinStart p rx t due at_).reg (streamRegs rx t).1 = (if s.reg (streamRegs rx t).1 = 0 then 1 else s.reg (streamRegs rx t).1) ∧
    SameRegs s (s.joinStart p rx t due at_) [(streamRegs rx t).1, (streamRegs rx t).2, Reg.mcCount] := by
  obtain ⟨s0, hs0⟩ : ∃ u, s.setActs rx t (s.streamActs rx t ++ [(due, true)]) = u := ⟨_, rfl⟩
  have hacts : s0.streamActs rx t = s.streamActs rx t ++ [(due, true)] := hs0 ▸ setActs_acts s rx t _
  have hregs : s0.regs = s.regs := hs0 ▸ setActs_regs s rx t _
  have h1 : SameStreams [(streamRegs rx t).2] s0 ((s0.setReg (streamRegs rx t).2 1).noteCmd at_ p due
      (if rx then Reg.rxCmdAt t else Reg.txCmdAt t) true) :=
    (sameStreams_setReg s0 (by simp) 1).trans (sameStreams_noteCmd _ _ _ _ _ _).widen
  have hv1 : ((s0.setReg (streamRegs rx t).2 1).noteCmd at_ p due (if rx then Reg.rxCmdAt t else Reg.txCmdAt t) true).reg
      (streamRegs rx t).2 = 1 := ((sameStreams_noteCmd _ _ _ _ _ _).regs _ (by simp)).trans (reg_setReg_same _ _ _)
  obtain ⟨s1, hs1⟩ : ∃ u, (s0.setReg (streamRegs rx t).2 1).noteCmd at_ p due (if rx then Reg.rxCmdAt t else Reg.txCmdAt t) true = u := ⟨_, rfl⟩
  rw [hs1] at h1 hv1
  have heq : s.joinStart p rx t due at_ = (if s.reg (streamRegs rx t).1 = 0 then s1.setReg (streamRegs rx t).1 1 else s1).refreshMc := by
    rw [← hs1, ← hs0]
    rfl
  obtain ⟨s2, hs2⟩ : ∃ u, (if s.reg (streamRegs rx t).1 = 0 then s1.setReg (streamRegs rx t).1 1 else s1) = u := ⟨_, rfl⟩
  have h2 : SameStreams [(streamRegs rx t).1] s1 s2 := hs2 ▸ .of_ite (fun _ => sameStreams_setReg _ (by simp) _) fun _ => .refl _
  have hv2 : s2.reg (streamRegs rx t).1 = if s.reg (streamRegs rx t).1 = 0 then 1 else s.reg (streamRegs rx t).1 := by
    rw [← hs2]
    split
    · exact reg_setReg_same _ _ _
    · rw [h1.regs _ (by simpa using state_ne_status rx t), reg_of_regs hregs]
  have h3 := sameStreams_refreshMc s2
  rw [heq, hs2]
  refine ⟨?_, ?_, ?_, ?_⟩
  · rw [streamActs_of_streams h3.view, streamActs_of_streams h2.view, streamActs_of_streams h1.view, hacts]
  · rw [h3.regs _ (by simpa using status_ne_mcCount rx t), h2.regs _ (by simpa using (state_ne_status rx t).symm), hv1]
  · rw [h3.regs _ (by simpa using state_ne_mcCount rx t), hv2]
  · exact (sameRegs_of_regs hregs _).trans (((h1.sameRegs.mono (by simp)).trans (h2.sameRegs.mono (by simp))).trans (h3.sameRegs.mono (by simp)))

theorem joinStop_frame : (s.joinStop p rx t due at_).streamActs rx t = s.streamActs rx t ++ [(due, false)] ∧
    (s.joinStop p rx t due at_).reg (streamRegs rx t).2 = 1 ∧ SameRegs s (s.joinStop p rx t due at_) [(streamRegs rx t).2] := by
  obtain ⟨s0, hs0⟩ : ∃ u, s.setActs rx t (s.streamActs rx t ++ [(due, false)]) = u := ⟨_, rfl⟩
  have hacts : s0.streamActs rx t = s.streamActs rx t ++ [(due, false)] := hs0 ▸ setActs_acts s rx t _
  have hregs : s0.regs = s.regs := hs0 ▸ setActs_regs s rx t _
  have h1 := sameStreams_setReg s0 (r := (streamRegs rx t).2) (l := [(streamRegs rx t).2]) (by simp) 1
  have h2 := sameStreams_noteCmd (s0.setReg (streamRegs rx t).2 1) at_ p due (if rx then Reg.rxCmdAt t else Reg.txCmdAt t) false
  have heq : s.joinStop p rx t due at_ = (s0.setReg (streamRegs rx t).2 1).noteCmd at_ p due (if rx then Reg.rxCmdAt t else Reg.txCmdAt t) false := by
    rw [← hs0]
    rfl
  rw [heq]
  refine ⟨?_, (h2.regs _ (by simp)).trans (reg_setReg_same _ _ _), (sameRegs_of_regs hregs _).trans (h1.trans h2.widen).sameRegs⟩
  rw [streamActs_of_streams h2.view, streamActs_of_streams h1.view, hacts]

theorem cancelStart_frame : (s.cancelStart rx t).streamActs rx t = [] ∧ (s.cancelStart rx t).reg (streamRegs rx t).1 = 0 ∧
    (s.cancelStart rx t).reg (streamRegs rx t).2 = 0 ∧
    SameRegs s (s.cancelStart rx t) [(streamRegs rx t).1, (streamRegs rx t).2, Reg.mcCount] := by
  have h1 := sameStreams_setReg (s.setActs rx t []) (r := (streamRegs rx t).1) (l := [(streamRegs rx t).1, (streamRegs rx t).2]) (by simp) 0
  have h2 := sameStreams_setReg ((s.setActs rx t []).setReg (streamRegs rx t).1 0) (r := (streamRegs rx t).2)
    (l := [(streamRegs rx t).1, (streamRegs rx t).2]) (by simp) 0
  have h3 := sameStreams_refreshMc (((s.setActs rx t []).setReg (streamRegs rx t).1 0).setReg (streamRegs rx t).2 0)
  unfold State.cancelStart
  refine ⟨?_, ?_, ?_, ?_⟩
  · rw [streamActs_of_streams h3.view, streamActs_of_streams (h1.trans h2).view, setActs_acts]
  · rw [h3.regs _ (by simpa using state_ne_mcCount rx t), reg_setReg_other _ _ _ _ (state_ne_status rx t), reg_setReg_same]
  · rw [h3.regs _ (by simpa using status_ne_mcCount rx t), reg_setReg_same]
  · exact (setActs_sameRegs s rx t [] _).trans (((h1.trans h2).sameRegs.mono (by simp)).trans (h3.sameRegs.mono (by simp)))

end

/-! What is due at a boundary (R364, R365). -/

section
variable (s : State) (rx : Bool) (t : Nat)

/-- The tick at which a stream started, and the tick at which it stopped. -/
theorem streamGo_frame : (s.streamGo rx t).streamActs rx t = s.streamActs rx t ∧ (s.streamGo rx t).reg (streamRegs rx t).1 = 2 ∧
    (s.streamGo rx t).reg (streamRegs rx t).2 = 0 ∧
    (if rx then ((s.streamGo rx t).rx t).startT else ((s.streamGo rx t).tx t).startT) = s.tick ∧
    SameRegs s (s.streamGo rx t) [(streamRegs rx t).1, (streamRegs rx t).2] := by
  obtain ⟨u, hu⟩ : ∃ u, s.setRegs [((streamRegs rx t).1, 2), ((streamRegs rx t).2, 0)] = u := ⟨_, rfl⟩
  have hv : u.streams = s.streams := hu ▸ setRegs_keeps (g := State.streams) (fun _ _ _ => rfl) s _
  have h1 : u.reg (streamRegs rx t).1 = 2 := hu ▸ (reg_setReg_other _ _ _ _ (state_ne_status rx t)).trans (reg_setReg_same _ _ _)
  have h2 : u.reg (streamRegs rx t).2 = 0 := hu ▸ reg_setReg_same _ _ _
  have hr : SameRegs s u [(streamRegs rx t).1, (streamRegs rx t).2] := hu ▸ (Reports.setRegs (by simp)).2
  cases rx with
  | false =>
    have heq : s.streamGo false t = u.modTx t fun x => { x with startT := s.tick, stopT := none, seq := 0, buf := [], first := none, withheld := false } := by
      rw [← hu]
      rfl
    rw [heq]
    have htx := tx_modTx u t fun x => { x with startT := s.tick, stopT := none, seq := 0, buf := [], first := none, withheld := false }
    refine ⟨(congrArg TxSt.acts htx).trans ?_, h1, h2, congrArg TxSt.startT htx, hr.trans (sameRegs_of_regs rfl _)⟩
    show (u.tx t).acts = (s.tx t).acts
    exact congrArg TxSt.acts (tx_of_streams hv t)
  | true =>
    have heq : s.streamGo true t = u.modRx t fun x => { x with startT := s.tick, stopT := none, rampUp := true, lastSeq := none, next := none } := by
      rw [← hu]
      rfl
    rw [heq]
    have hrx := rx_modRx u t fun x => { x with startT := s.tick, stopT := none, rampUp := true, lastSeq := none, next := none }
    refine ⟨(congrArg RxSt.acts hrx).trans ?_, h1, h2, congrArg RxSt.startT hrx, hr.trans (sameRegs_of_regs rfl _)⟩
    show (u.rx t).acts = (s.rx t).acts
    exact congrArg RxSt.acts (rx_of_streams hv t)

theorem streamHalt_frame : (s.streamHalt rx t).streamActs rx t = s.streamActs rx t ∧ (s.streamHalt rx t).reg (streamRegs rx t).1 = 3 ∧
    (s.streamHalt rx t).reg (streamRegs rx t).2 = 0 ∧
    (if rx then ((s.streamHalt rx t).rx t).stopT else ((s.streamHalt rx t).tx t).stopT) = some s.tick ∧
    SameRegs s (s.streamHalt rx t) [(streamRegs rx t).1, (streamRegs rx t).2] := by
  obtain ⟨u, hu⟩ : ∃ u, s.setRegs [((streamRegs rx t).1, 3), ((streamRegs rx t).2, 0)] = u := ⟨_, rfl⟩
  have hv : u.streams = s.streams := hu ▸ setRegs_keeps (g := State.streams) (fun _ _ _ => rfl) s _
  have h1 : u.reg (streamRegs rx t).1 = 3 := hu ▸ (reg_setReg_other _ _ _ _ (state_ne_status rx t)).trans (reg_setReg_same _ _ _)
  have h2 : u.reg (streamRegs rx t).2 = 0 := hu ▸ reg_setReg_same _ _ _
  have hr : SameRegs s u [(streamRegs rx t).1, (streamRegs rx t).2] := hu ▸ (Reports.setRegs (by simp)).2
  cases rx with
  | false =>
    have heq : s.streamHalt false t = u.modTx t fun x => { x with stopT := some s.tick } := by
      rw [← hu]
      rfl
    rw [heq]
    have htx := tx_modTx u t fun x => { x with stopT := some s.tick }
    refine ⟨(congrArg TxSt.acts htx).trans ?_, h1, h2, congrArg TxSt.stopT htx, hr.trans (sameRegs_of_regs rfl _)⟩
    show (u.tx t).acts = (s.tx t).acts
    exact congrArg TxSt.acts (tx_of_streams hv t)
  | true =>
    have heq : s.streamHalt true t = u.modRx t fun x => { x with stopT := some s.tick } := by
      rw [← hu]
      rfl
    rw [heq]
    have hrx := rx_modRx u t fun x => { x with stopT := some s.tick }
    refine ⟨(congrArg RxSt.acts hrx).trans ?_, h1, h2, congrArg RxSt.stopT hrx, hr.trans (sameRegs_of_regs rfl _)⟩
    show (u.rx t).acts = (s.rx t).acts
    exact congrArg RxSt.acts (rx_of_streams hv t)

end

/-- A stop of a starting stream that is due. -/
def State.dropStart (s : State) (rx : Bool) (t : Nat) (rest : List (Nat × Bool)) : State :=
  ((((s.setActs rx t rest).setActs rx t []).setRegs [((streamRegs rx t).1, 0), ((streamRegs rx t).2, 0)])).refreshMc
/-- A start and a stop of one boundary are both discarded. -/
def State.dropBoth (s : State) (rx : Bool) (t : Nat) (due rest : List (Nat × Bool)) : State :=
  (overL due (fun u e => u.discard ((s.streamPlot rx t).getD 16) (if rx then Reg.rxCmd t else Reg.txCmd t) e.1)
    (((s.setActs rx t rest).setReg (streamRegs rx t).1
      (if s.reg (streamRegs rx t).1 = 1 ∧ !(rest.any (·.2)) then 0 else s.reg (streamRegs rx t).1)).setReg (streamRegs rx t).2
      (if rest = [] then 0 else 1))).refreshMc

section
variable {s : State} {rx : Bool} {t : Fin 1024} {rest : List (Nat × Bool)}


theorem dropStart_frame : (s.dropStart rx t rest).streamActs rx t = [] ∧ (s.dropStart rx t rest).reg (streamRegs rx t).1 = 0 ∧
    (s.dropStart rx t rest).reg (streamRegs rx t).2 = 0 := by
  obtain ⟨u, hu⟩ : ∃ u, s.setActs rx t rest = u := ⟨_, rfl⟩
  have heq : s.dropStart rx t rest = u.cancelStart rx t := by rw [← hu]; rfl
  obtain ⟨ha, h1, h2, -⟩ := cancelStart_frame u rx t
  rw [heq]
  exact ⟨ha, h1, h2⟩

theorem dropBoth_frame (due : List (Nat × Bool)) : (s.dropBoth rx t due rest).streamActs rx t = rest ∧
    (s.reg (streamRegs rx t).1 ≠ 1 → (s.dropBoth rx t due rest).reg (streamRegs rx t).1 = s.reg (streamRegs rx t).1) := by
  obtain ⟨s0, hs0⟩ : ∃ u, s.setActs rx t rest = u := ⟨_, rfl⟩
  obtain ⟨v, hv⟩ : ∃ v : Int, (if s.reg (streamRegs rx t).1 = 1 ∧ !(rest.any (·.2)) then 0 else s.reg (streamRegs rx t).1) = v := ⟨_, rfl⟩
  have ha : s0.streamActs rx t = rest := hs0 ▸ setActs_acts s rx t rest
  have h1 := sameStreams_setReg s0 (r := (streamRegs rx t).1) (l := [(streamRegs rx t).1, (streamRegs rx t).2]) (by simp) v
  have h2 := sameStreams_setReg (s0.setReg (streamRegs rx t).1 v) (r := (streamRegs rx t).2)
    (l := [(streamRegs rx t).1, (streamRegs rx t).2]) (by simp) (if rest = [] then 0 else 1)
  have h3 := sameStreams_discards ((s0.setReg (streamRegs rx t).1 v).setReg (streamRegs rx t).2 (if rest = [] then 0 else 1)) due
    ((s.streamPlot rx t).getD 16) (if rx then Reg.rxCmd t else Reg.txCmd t)
  obtain ⟨u, hu⟩ : ∃ u, overL due (fun s' e => s'.discard ((s.streamPlot rx t).getD 16) (if rx then Reg.rxCmd t else Reg.txCmd t) e.1)
    ((s0.setReg (streamRegs rx t).1 v).setReg (streamRegs rx t).2 (if rest = [] then 0 else 1)) = u := ⟨_, rfl⟩
  have heq : s.dropBoth rx t due rest = u.refreshMc := by
    rw [← hu, ← hv, ← hs0]
    rfl
  rw [hu] at h3
  have h4 := sameStreams_refreshMc u
  rw [heq]
  constructor
  · rw [streamActs_of_streams h4.view, streamActs_of_streams h3.view, streamActs_of_streams (h1.trans h2).view, ha]
  · intro hst
    rw [h4.regs _ (by simpa using state_ne_mcCount rx t), h3.regs _ (by simp), reg_setReg_other _ _ _ _ (state_ne_status rx t),
      reg_setReg_same, ← hv, if_neg fun h => hst h.1]

variable {due : List (Nat × Bool)} (hd : (s.streamActs rx t).filter (fun e => decide (e.1 ≤ s.tick)) = due)
  (hr : (s.streamActs rx t).filter (fun e => !decide (e.1 ≤ s.tick)) = rest)
include hd
theorem streamCmdApply_none (h : due = []) : exec (.streamCmdApply rx t) s = .next s := by
  show execStreamCmdApply rx t s = _
  unfold execStreamCmdApply
  dsimp only
  rw [hd, h]
  rfl
include hr
theorem streamCmdApply_start {k : Nat} (h : due = [(k, true)]) : exec (.streamCmdApply rx t) s = .next
    (if s.reg (streamRegs rx t).1 = 1 then (s.setActs rx t rest).streamGo rx t
      else if s.reg (streamRegs rx t).1 = 3 then s.setReg (streamRegs rx t).2 1 else (s.setActs rx t rest).setReg (streamRegs rx t).2 0) := by
  show execStreamCmdApply rx t s = _
  unfold execStreamCmdApply
  dsimp only
  rw [hd, hr, h]
  show (if _ then _ else if _ then _ else _) = _
  split_ifs <;> rfl
theorem streamCmdApply_stop {k : Nat} (h : due = [(k, false)]) : exec (.streamCmdApply rx t) s = .next
    (if s.reg (streamRegs rx t).1 = 2 then (s.setActs rx t rest).streamHalt rx t
      else if s.reg (streamRegs rx t).1 = 1 then s.dropStart rx t rest
      else overL due (fun u e => u.discard ((s.streamPlot rx t).getD 16) (if rx then Reg.rxCmd t else Reg.txCmd t) e.1)
        ((s.setActs rx t rest).setReg (streamRegs rx t).2 0)) := by
  show execStreamCmdApply rx t s = _
  unfold execStreamCmdApply
  dsimp only
  rw [hd, hr, h]
  show (if _ then _ else if _ then _ else _) = _
  split_ifs <;> rfl
theorem streamCmdApply_both {k j : Nat} (h : due = [(k, true), (j, false)]) :
    exec (.streamCmdApply rx t) s = .next (s.dropBoth rx t due rest) := by
  show execStreamCmdApply rx t s = _
  unfold execStreamCmdApply
  dsimp only
  rw [hd, hr, h]
  rfl
end

/-- A stopping stream has ended. -/
def State.endStop (s : State) (rx : Bool) (t : Nat) : State :=
  let s1 := if rx then s.modRx t fun x => { x with stopT := none, pkts := [], samples := [], feed := [], pairs := [] }
    else s.modTx t fun x => { x with stopT := none }
  (s1.setReg (streamRegs rx t).1 (if (s.streamActs rx t).any (·.2) then 1 else 0)).refreshMc

section
variable {s : State} {rx : Bool} {t : Fin 1024}

theorem endStop_frame : (s.endStop rx t).reg (streamRegs rx t).1 = (if (s.streamActs rx t).any (·.2) then 1 else 0) ∧
    (if rx then ((s.endStop rx t).rx t).stopT else ((s.endStop rx t).tx t).stopT) = none ∧
    SameRegs s (s.endStop rx t) [(streamRegs rx t).1, Reg.mcCount] := by
  obtain ⟨v, hv⟩ : ∃ v : Int, (if (s.streamActs rx t).any (·.2) then 1 else 0) = v := ⟨_, rfl⟩
  have main : ∀ s1 : State, s1.regs = s.regs → s.endStop rx t = (s1.setReg (streamRegs rx t).1 v).refreshMc →
      (if rx then (s1.rx t).stopT else (s1.tx t).stopT) = none →
      (s.endStop rx t).reg (streamRegs rx t).1 = v ∧ (if rx then ((s.endStop rx t).rx t).stopT else ((s.endStop rx t).tx t).stopT) = none ∧
        SameRegs s (s.endStop rx t) [(streamRegs rx t).1, Reg.mcCount] := by
    intro s1 hregs heq hstop
    have h1 := sameStreams_setReg s1 (r := (streamRegs rx t).1) (l := [(streamRegs rx t).1, Reg.mcCount]) (by simp) v
    have h2 := sameStreams_refreshMc (s1.setReg (streamRegs rx t).1 v)
    have h := h1.trans (h2.mono (by simp))
    rw [heq]
    refine ⟨?_, ?_, (sameRegs_of_regs hregs _).trans h.sameRegs⟩
    · rw [h2.regs _ (by simpa using state_ne_mcCount rx t), reg_setReg_same]
    · rw [rx_of_streams h.view, tx_of_streams h.view, hstop]
  rw [hv]
  cases rx with
  | false => exact main (s.modTx t fun x => { x with stopT := none }) rfl (by rw [← hv]; rfl) (congrArg TxSt.stopT (tx_modTx s t fun x => { x with stopT := none }))
  | true =>
    exact main (s.modRx t fun x => { x with stopT := none, pkts := [], samples := [], feed := [], pairs := [] }) rfl (by rw [← hv]; rfl)
      (congrArg RxSt.stopT (rx_modRx s t fun x => { x with stopT := none, pkts := [], samples := [], feed := [], pairs := [] }))

theorem streamStopComplete_some {k : Nat} (hk : (if rx then (s.rx t).stopT else (s.tx t).stopT) = some k) :
    exec (.streamStopComplete rx t) s = .next (if s.reg (streamRegs rx t).1 = 3 ∧ k + 1 ≤ s.tick then s.endStop rx t else s) := by
  show execStreamStopComplete rx t s = _
  unfold execStreamStopComplete
  dsimp only
  rw [hk]
  by_cases h : s.reg (streamRegs rx t).1 = 3 ∧ k + 1 ≤ s.tick
  · rw [if_pos h]
    exact if_pos h
  · rw [if_neg h]
    exact if_neg h
theorem streamStopComplete_none (hk : (if rx then (s.rx t).stopT else (s.tx t).stopT) = none) :
    exec (.streamStopComplete rx t) s = .next s := by
  show execStreamStopComplete rx t s = _
  unfold execStreamStopComplete
  dsimp only
  rw [hk]

theorem stores_start {p : Fin 16} {at_ : Option (Nat × Bool)} : storesBytes (if rx then .rxStart p t at_ else .txStart p t at_) = false := by
  cases rx <;> rfl
theorem stores_stop {p : Fin 16} {at_ : Option (Nat × Bool)} : storesBytes (if rx then .rxStop p t at_ else .txStop p t at_) = false := by
  cases rx <;> rfl

/-! The statement's parts. -/

theorem streamRequests {p : Fin 16} {at_ : Option (Nat × Bool)} (h : s.streamPlot rx t = some p.val) {due code : Nat}
    (hd : s.actAt p at_ = .ok (due, code)) :
    ((s.reg (streamRegs rx t).1 ≠ 0 ∧ s.reg (streamRegs rx t).1 ≠ 3) ∨ (if rx then s.rxCode p t else s.txCode p t) = none →
      Runs (if rx then .rxStart p t at_ else .txStart p t at_) s fun u =>
        u.streamActs rx t = s.streamActs rx t ++ [(due, true)] ∧ u.reg (streamRegs rx t).2 = 1 ∧
        u.reg (streamRegs rx t).1 = (if s.reg (streamRegs rx t).1 = 0 then 1 else s.reg (streamRegs rx t).1) ∧
        u.answer.status = code ∧ SameRegs s u [(streamRegs rx t).1, (streamRegs rx t).2, Reg.mcCount] ∧ SameMem s u) ∧
    (∀ c : Nat, s.reg (streamRegs rx t).1 = 0 ∨ s.reg (streamRegs rx t).1 = 3 →
      (if rx then s.rxCode p t else s.txCode p t) = some c →
      Runs (if rx then .rxStart p t at_ else .txStart p t at_) s fun u => u.reg (streamRegs rx t).2 = c ∧
        SameRegs s u [(streamRegs rx t).2] ∧ u.units = s.units) ∧
    (s.reg (streamRegs rx t).1 = 1 → at_ = none → Runs (if rx then .rxStop p t at_ else .txStop p t at_) s fun u =>
      u.streamActs rx t = [] ∧ u.reg (streamRegs rx t).1 = 0 ∧ u.reg (streamRegs rx t).2 = 0 ∧
      SameRegs s u [(streamRegs rx t).1, (streamRegs rx t).2, Reg.mcCount] ∧ SameMem s u) ∧
    (s.reg (streamRegs rx t).1 ≠ 1 ∨ at_ ≠ none → Runs (if rx then .rxStop p t at_ else .txStop p t at_) s fun u =>
      u.streamActs rx t = s.streamActs rx t ++ [(due, false)] ∧ u.reg (streamRegs rx t).2 = 1 ∧
      u.answer.status = code ∧ SameRegs s u [(streamRegs rx t).2] ∧ SameMem s u) := by
  refine ⟨fun hgood => ?_, fun c hst hc => ?_, fun hst hat => ?_, fun hst => ?_⟩
  · obtain ⟨ha, h2, h1, hs⟩ := joinStart_frame s p rx t due at_
    refine runs_of_exec stores_start (exec_streamStart.trans (congrArg Host.Outcome.next (streamStart_joins h hd hgood))) fun hm => ?_
    exact ⟨(streamActs_of_streams (sameStreams_reply _ code).view rx t).trans ha, h2, h1, rfl, hs, hm⟩
  · refine runs_of_exec stores_start (exec_streamStart.trans (congrArg Host.Outcome.next (streamStart_refused h hd hst hc))) fun _ => ?_
    exact ⟨reg_setReg_same _ _ _, SameRegs.setReg (by simp) _, rfl⟩
  · obtain ⟨ha, h1, h2, hs⟩ := cancelStart_frame s rx t
    refine runs_of_exec stores_stop (exec_streamStop.trans (congrArg Host.Outcome.next (streamStop_cancels h hd hst hat))) fun hm => ?_
    exact ⟨(streamActs_of_streams (sameStreams_reply _ code).view rx t).trans ha, h1, h2, hs, hm⟩
  · obtain ⟨ha, h2, hs⟩ := joinStop_frame s p rx t due at_
    refine runs_of_exec stores_stop (exec_streamStop.trans (congrArg Host.Outcome.next (streamStop_joins h hd hst))) fun hm => ?_
    exact ⟨(streamActs_of_streams (sameStreams_reply _ code).view rx t).trans ha, h2, rfl, hs, hm⟩

variable {due rest : List (Nat × Bool)} (hd : (s.streamActs rx t).filter (fun e => decide (e.1 ≤ s.tick)) = due)
  (hr : (s.streamActs rx t).filter (fun e => !decide (e.1 ≤ s.tick)) = rest)
include hd hr

theorem streamStarts {k : Nat} (h : due = [(k, true)]) :
    (s.reg (streamRegs rx t).1 = 1 → Runs (.streamCmdApply rx t) s fun u => u.streamActs rx t = rest ∧
      u.reg (streamRegs rx t).1 = 2 ∧ u.reg (streamRegs rx t).2 = 0 ∧
      (if rx then (u.rx t).startT else (u.tx t).startT) = s.tick ∧
      SameRegs s u [(streamRegs rx t).1, (streamRegs rx t).2] ∧ SameMem s u) ∧
    (s.reg (streamRegs rx t).1 = 3 → Runs (.streamCmdApply rx t) s fun u => u.streamActs rx t = s.streamActs rx t ∧
      u.reg (streamRegs rx t).2 = 1 ∧ SameRegs s u [(streamRegs rx t).2] ∧ SameMem s u) ∧
    (s.reg (streamRegs rx t).1 ≠ 1 → s.reg (streamRegs rx t).1 ≠ 3 → Runs (.streamCmdApply rx t) s fun u =>
      u.streamActs rx t = rest ∧ u.reg (streamRegs rx t).2 = 0 ∧ SameRegs s u [(streamRegs rx t).2] ∧ SameMem s u) := by
  have he := streamCmdApply_start hd hr h
  refine ⟨fun h1 => ?_, fun h3 => ?_, fun h1 h3 => ?_⟩
  · rw [if_pos h1] at he
    obtain ⟨s0, hs0⟩ : ∃ u, s.setActs rx t rest = u := ⟨_, rfl⟩
    have ha : s0.streamActs rx t = rest := hs0 ▸ setActs_acts s rx t rest
    have hregs : s0.regs = s.regs := hs0 ▸ setActs_regs s rx t rest
    have htick : s0.tick = s.tick := by rw [← hs0]; cases rx <;> rfl
    rw [hs0] at he
    obtain ⟨hga, hg1, hg2, hgt, hgr⟩ := streamGo_frame s0 rx t
    exact runs_of_exec rfl he fun hm => ⟨hga.trans ha, hg1, hg2, hgt.trans htick, (sameRegs_of_regs hregs _).trans hgr, hm⟩
  · rw [if_neg (by omega), if_pos h3] at he
    exact runs_of_exec rfl he fun hm => ⟨streamActs_of_streams (sameStreams_setReg s (l := [(streamRegs rx t).2]) (by simp) 1).view rx t,
      reg_setReg_same _ _ _, SameRegs.setReg (by simp) _, hm⟩
  · rw [if_neg h1, if_neg h3] at he
    refine runs_of_exec rfl he fun hm => ⟨?_, reg_setReg_same _ _ _, (setActs_sameRegs s rx t rest _).trans (SameRegs.setReg (by simp) _), hm⟩
    exact (streamActs_of_streams (sameStreams_setReg _ (l := [(streamRegs rx t).2]) (by simp) 0).view rx t).trans (setActs_acts s rx t rest)

theorem streamStops {k : Nat} (h : due = [(k, false)]) :
    (s.reg (streamRegs rx t).1 = 2 → Runs (.streamCmdApply rx t) s fun u => u.streamActs rx t = rest ∧
      u.reg (streamRegs rx t).1 = 3 ∧ u.reg (streamRegs rx t).2 = 0 ∧
      (if rx then (u.rx t).stopT else (u.tx t).stopT) = some s.tick ∧
      SameRegs s u [(streamRegs rx t).1, (streamRegs rx t).2] ∧ SameMem s u) ∧
    (s.reg (streamRegs rx t).1 = 1 → Runs (.streamCmdApply rx t) s fun u => u.streamActs rx t = [] ∧
      u.reg (streamRegs rx t).1 = 0 ∧ u.reg (streamRegs rx t).2 = 0 ∧ SameMem s u) ∧
    (s.reg (streamRegs rx t).1 ≠ 1 → s.reg (streamRegs rx t).1 ≠ 2 → Runs (.streamCmdApply rx t) s fun u =>
      u.streamActs rx t = rest ∧ u.reg (streamRegs rx t).2 = 0 ∧ SameRegs s u [(streamRegs rx t).2] ∧ SameMem s u) := by
  have he := streamCmdApply_stop hd hr h
  refine ⟨fun h2 => ?_, fun h1 => ?_, fun h1 h2 => ?_⟩
  · rw [if_pos h2] at he
    obtain ⟨s0, hs0⟩ : ∃ u, s.setActs rx t rest = u := ⟨_, rfl⟩
    have ha : s0.streamActs rx t = rest := hs0 ▸ setActs_acts s rx t rest
    have hregs : s0.regs = s.regs := hs0 ▸ setActs_regs s rx t rest
    have htick : s0.tick = s.tick := by rw [← hs0]; cases rx <;> rfl
    rw [hs0] at he
    obtain ⟨hga, hg1, hg2, hgt, hgr⟩ := streamHalt_frame s0 rx t
    exact runs_of_exec rfl he fun hm => ⟨hga.trans ha, hg1, hg2, hgt.trans (congrArg some htick), (sameRegs_of_regs hregs _).trans hgr, hm⟩
  · rw [if_neg (by omega), if_pos h1] at he
    obtain ⟨ha, h1', h2'⟩ := dropStart_frame (s := s) (rx := rx) (t := t) (rest := rest)
    exact runs_of_exec rfl he fun hm => ⟨ha, h1', h2', hm⟩
  · rw [if_neg h2, if_neg h1] at he
    have hs := sameStreams_setReg (s.setActs rx t rest) (r := (streamRegs rx t).2) (l := [(streamRegs rx t).2]) (by simp) 0
    have hd' := sameStreams_discards ((s.setActs rx t rest).setReg (streamRegs rx t).2 0) due
      ((s.streamPlot rx t).getD 16) (if rx then Reg.rxCmd t else Reg.txCmd t)
    refine runs_of_exec rfl he fun hm => ⟨?_, ?_, (setActs_sameRegs s rx t rest _).trans (hs.trans hd'.widen).sameRegs, hm⟩
    · exact (streamActs_of_streams (hs.trans hd'.widen).view rx t).trans (setActs_acts s rx t rest)
    · exact (hd'.regs _ (by simp)).trans (reg_setReg_same _ _ _)

end

/-- Settles O30: the requests by the plot's answer and the first check, the boundary by what is due, the end by the tick of the stop. -/
theorem streamsStartAndStop : Obligations.StreamsStartAndStop := by
  unfold Obligations.StreamsStartAndStop
  intro p t rx at_ s
  refine ⟨fun h => ⟨?_, ?_⟩, fun c h hc => ⟨?_, ?_⟩, fun due code h hd => streamRequests h hd, fun due rest hd hr => ⟨?_, ?_, ?_, ?_⟩,
    fun k hk => ⟨fun hst ht => ?_, fun hno => ?_⟩, streamStopComplete_none⟩
  · exact exec_streamStart.trans (congrArg Host.Outcome.next (streamStart_foreign h))
  · exact exec_streamStop.trans (congrArg Host.Outcome.next (streamStop_foreign h))
  · exact exec_streamStart.trans (congrArg Host.Outcome.next (streamStart_error h hc))
  · exact exec_streamStop.trans (congrArg Host.Outcome.next (streamStop_error h hc))
  · exact fun k hdue => streamStarts hd hr hdue
  · exact fun k hdue => streamStops hd hr hdue
  · intro k j hdue
    obtain ⟨ha, h1⟩ := dropBoth_frame (s := s) (rx := rx) (t := t) (rest := rest) due
    exact runs_of_exec rfl (streamCmdApply_both hd hr hdue) fun hm => ⟨ha, h1, hm⟩
  · exact streamCmdApply_none hd
  · have he := streamStopComplete_some hk
    rw [if_pos ⟨hst, ht⟩] at he
    obtain ⟨h1, h2, h3⟩ := endStop_frame (s := s) (rx := rx) (t := t)
    exact runs_of_exec rfl he fun hm => ⟨h1, h2, h3, hm⟩
  · have he := streamStopComplete_some hk
    rwa [if_neg fun h => hno.elim (fun hn => hn h.1) fun hn => absurd h.2 (Nat.not_le.mpr (Nat.lt_succ_of_le hn))] at he

end Sys2Proof.Machine
end

section
/-!
PROOFS. Play-out of a receive stream (12, R357).
-/
namespace Sys2Proof.Machine

/-! What a pair's run of its detectors leaves (12, R361). -/

/-- What play-out reads of a stream beside its detectors' counts. -/
@[reducible] def State.playing (t : Nat) (s : State) : RxSt × (Nat → Bool) :=
  ({ s.rx t with pairs := [] }, fun k => (NTable.get {} (s.rx t).pairs k).rampUp)
/-- The registers of a stream's detectors. -/
@[reducible] def naRegs (t : Nat) : List Reg := [Reg.rxNaState t, Reg.rxNaEvents t]
/-- A state that follows from another by the detectors of a stream. -/
@[reducible] def SamePlaying (t : Nat) (s u : State) : Prop := Only (State.playing t) (· ∈ naRegs t) s u

theorem run_rampUp (x : PairNa) (mask first : Nat) (a b : List RxSample) : (x.run mask first a b).1.rampUp = x.rampUp :=
  foldl_keeps (g := fun st : PairNa × Bool => st.1.rampUp) _ (x, false) fun _ _ _ => rfl

/-- Detectors of a pair with its ramp as before leave what play-out reads. -/
theorem playing_putPair (s : State) (t k : Nat) (y : PairNa) (hy : y.rampUp = (NTable.get {} (s.rx t).pairs k).rampUp) :
    (s.modRx t fun x => { x with pairs := NTable.put {} x.pairs k y }).playing t = s.playing t := by
  have h := rx_modRx s t fun x => { x with pairs := NTable.put {} x.pairs k y }
  unfold State.playing
  rw [h]
  refine Prod.ext rfl (funext fun i => ?_)
  show (NTable.get {} (NTable.put {} (s.rx t).pairs k y) i).rampUp = (NTable.get {} (s.rx t).pairs i).rampUp
  by_cases hi : i = k
  · rw [hi, NTable.get_put_same, hy]
  · rw [NTable.get_put_other _ _ _ _ _ hi]

theorem rxPair_frame (s : State) (t k j : Nat) : SamePlaying t s (s.rxPair t k j) := by
  unfold State.rxPair
  extract_lets fill mask cs was
  have hramp := run_rampUp (NTable.get {} (s.rx t).pairs k) cs (j * 6 * max 1 (s.rxMult t)) (fill (2 * k)) (fill (2 * k + 1))
  generalize (NTable.get {} (s.rx t).pairs k).run cs (j * 6 * max 1 (s.rxMult t)) (fill (2 * k)) (fill (2 * k + 1)) = r at hramp ⊢
  obtain ⟨y, fire⟩ := r
  have h1 : SamePlaying t s (s.modRx t fun x => { x with pairs := NTable.put {} x.pairs k (if fire then { y with fired := some s.tick } else y) }) := by
    refine .of_regs (playing_putPair s t k _ ?_) rfl
    split <;> exact hramp
  exact .of_ite (fun _ => h1.trans (.trans (Only.setReg (by simp) _ rfl) (Only.setReg (by simp) _ rfl))) fun _ => h1
theorem legLosses_frame (s : State) (t : Nat) : SamePlaying t s (s.legLosses t) := by
  unfold State.legLosses
  exact .of_ite (fun _ => .refl _) fun _ => .of_regs rfl rfl

theorem rxBlock_of_playing {s u : State} {t : Nat} (h : SamePlaying t s u) (ch j : Nat) : u.rxBlock t ch j = s.rxBlock t ch j := by
  have hsamples : (u.rx t).samples = (s.rx t).samples := congrArg (RxSt.samples ∘ Prod.fst) h.view
  have hreg : ∀ r, r ∉ naRegs t → u.nat r = s.nat r := fun r hr => congrArg Int.toNat (h.regs r hr)
  have hmult : u.rxMult t = s.rxMult t := by
    unfold State.rxMult State.streamMult State.multOf State.family
    rw [hreg (Reg.rxRate t) (by simp), hreg (Reg.rxDomain t) (by simp), hreg Reg.sBase (by simp), hreg Reg.tickFamily (by simp)]
  unfold State.rxBlock
  rw [hmult, hsamples]

/-! The blocks that leave (12, R357). -/

/-- What play-out delivers of one channel. -/
def State.rxOut (s : State) (t j : Nat) (up down : Bool) (ch : Nat) : List Sample :=
  let raw := (s.rxBlock t ch j).map fun o => match o with | some x => x.v | none => 0
  let na := NTable.get {} (s.rx t).pairs (ch / 2)
  let mute := bit (s.reg (Reg.rxNaState t)) (ch / 2) && bit (s.reg (Reg.rxNonaudio t)) 2
  let b1 := if up || na.rampUp then rampUp raw else raw
  let b2 := if down then rampDown b1 else b1
  if mute then silence b2 else b2

/-- The blocks of the first channels put in place. -/
def State.rxOuts (s : State) (t j : Nat) (up down : Bool) (n : Nat) : NTable (List Sample) :=
  (List.range n).foldl (fun y ch => NTable.put [] y (sigOf 2 (s.nat (Reg.rxChBase t) + ch)) (s.rxOut t j up down ch)) s.ingest

theorem putRxBlocks_ingest (s : State) (t j : Nat) (up down : Bool) :
    s.putRxBlocks t j up down (fun s y b => { s with ingest := NTable.put [] s.ingest y b }) =
      { s with ingest := s.rxOuts t j up down (s.nat (Reg.rxChannels t)) } := by
  unfold State.putRxBlocks
  generalize s.nat (Reg.rxChannels t) = n
  induction n with
  | zero => rfl
  | succ n ih =>
    rw [overN, List.range_succ, List.foldl_append, ← overN, ih]
    unfold State.rxOuts
    rw [List.range_succ, List.foldl_append]
    rfl

theorem get_rxOuts (s : State) (t j : Nat) (up down : Bool) {n ch : Nat} (h : ch < n) :
    NTable.get [] (s.rxOuts t j up down n) (sigOf 2 (s.nat (Reg.rxChBase t) + ch)) = s.rxOut t j up down ch := by
  induction n with
  | zero => exact absurd h (Nat.not_lt_zero ch)
  | succ n ih =>
    unfold State.rxOuts
    rw [List.range_succ, List.foldl_append]
    by_cases hn : ch = n
    · rw [hn]
      exact NTable.get_put_same _ _ _ _
    · refine (NTable.get_put_other _ _ _ _ _ ?_).trans (ih (by omega))
      simp only [sigOf]
      omega

/-- A block without a ramp, a detector's ramp or a mute leaves as the packets gave it. -/
theorem rxOut_plain {s : State} {t j ch : Nat} {v : List RxSample} (hna : s.reg (Reg.rxNonaudio t) = 0)
    (hramp : (NTable.get {} (s.rx t).pairs (ch / 2)).rampUp = false) (hv : s.rxBlock t ch j = v.map some) :
    s.rxOut t j false false ch = v.map fun x => x.v := by
  unfold State.rxOut
  dsimp only
  rw [hna, hv, hramp]
  have hbit : bit (0 : Int) 2 = false := by decide
  simp [hbit, Function.comp_def]

/-! The deadline. -/

/-- A channel lacks a sample of the block. -/
def State.rxMisses (s : State) (t j : Nat) : Bool :=
  (List.range (s.nat (Reg.rxChannels t))).any fun ch => (s.rxBlock t ch j).any Option.isNone
/-- The detectors have run on the block. -/
def State.rxDetected (s : State) (t j : Nat) : State :=
  overN ((s.nat (Reg.rxChannels t) + 1) / 2) (fun s k => s.rxPair t k j) (s.legLosses t)
/-- The stream's state once its block is closed. -/
def closeRx (miss up : Bool) (y : RxSt) : RxSt :=
  { y with closed := true, concealed := miss, wasRamp := up, rampUp := miss,
           pairs := y.pairs.map fun (e : Nat × PairNa) => (e.1, { e.2 with rampUp := false }) }
/-- The stream's block of the ingest tick is closed. -/
def State.playOut (s : State) (t : Nat) : State :=
  let j := s.tick - s.nat (Reg.rxLinkOffset t)
  let s1 := s.rxDetected t j
  let s2 : State := { s1 with ingest := s1.rxOuts t j (s.rx t).rampUp ((s.rx t).stopT == some (s.tick + 1)) (s1.nat (Reg.rxChannels t)) }
  (s2.modRx t (closeRx (s.rxMisses t j) (s.rx t).rampUp)).when (s.rxMisses t j) fun s => s.bump (Reg.rxConcealed t)

theorem rxDetected_frame (s : State) (t j : Nat) : SamePlaying t s (s.rxDetected t j) :=
  (legLosses_frame s t).trans (.of_overN _ (fun s k _ => rxPair_frame s t k j) _)

section
variable {s : State} {t : Fin 1024}

theorem playoutDeadline_idle (h : s.reg (Reg.rxState t) ≠ 2 ∨ s.reg (Reg.rxDomain t) ≠ 0 ∨ (s.rx t).closed = true ∨
    s.tick < s.nat (Reg.rxLinkOffset t)) : exec (.playoutDeadline t) s = .next s := if_pos h
theorem playoutDeadline_closes (h : ¬(s.reg (Reg.rxState t) ≠ 2 ∨ s.reg (Reg.rxDomain t) ≠ 0 ∨ (s.rx t).closed = true ∨
    s.tick < s.nat (Reg.rxLinkOffset t))) : exec (.playoutDeadline t) s = .next (s.playOut t) := by
  refine (if_neg h).trans ?_
  dsimp only
  rw [putRxBlocks_ingest]
  rfl

theorem playOut_frame : ((s.playOut t).rx t).closed = true ∧
    ((s.playOut t).rx t).concealed = s.rxMisses t (s.tick - s.nat (Reg.rxLinkOffset t)) ∧
    (s.playOut t).reg (Reg.rxConcealed t) = (if s.rxMisses t (s.tick - s.nat (Reg.rxLinkOffset t))
      then (s.reg (Reg.rxConcealed t) + 1) % 4294967296 else s.reg (Reg.rxConcealed t)) ∧
    SameRegs s (s.playOut t) [Reg.rxConcealed t, Reg.rxNaState t, Reg.rxNaEvents t] := by
  unfold State.playOut
  extract_lets j s1 s2
  have h1 : SamePlaying t s s1 := rxDetected_frame s t j
  have hregs : s2.regs = s1.regs := rfl
  clear_value s2 s1
  obtain ⟨x, hx⟩ : ∃ x, s2.modRx t (closeRx (s.rxMisses t j) (s.rx t).rampUp) = x := ⟨_, rfl⟩
  have hrx : x.rx t = closeRx (s.rxMisses t j) (s.rx t).rampUp (s2.rx t) := hx ▸ rx_modRx s2 t _
  have hreg : ∀ r, x.reg r = s1.reg r := fun r => by
    rw [← hx]
    exact reg_of_regs hregs r
  have hs : SameRegs s x [Reg.rxConcealed t, Reg.rxNaState t, Reg.rxNaEvents t] := fun r hr =>
    (hreg r).trans (h1.regs r fun h => hr (List.mem_cons_of_mem _ h))
  have hc : x.reg (Reg.rxConcealed t) = s.reg (Reg.rxConcealed t) := (hreg _).trans (h1.regs _ (by simp))
  rw [hx]
  generalize s.rxMisses t j = miss at hrx ⊢
  cases miss with
  | false => exact ⟨congrArg RxSt.closed hrx, congrArg RxSt.concealed hrx, hc, hs⟩
  | true =>
    refine ⟨congrArg RxSt.closed hrx, congrArg RxSt.concealed hrx, ?_, hs.trans (SameRegs.setReg (by simp) _)⟩
    exact (reg_bump_same x _).trans (congrArg bump32 hc)

theorem playOut_delivers {ch : Nat} {v : List RxSample} (hch : ch < s.nat (Reg.rxChannels t)) (hna : s.reg (Reg.rxNonaudio t) = 0)
    (hpairs : (s.rx t).pairs = []) (hup : (s.rx t).rampUp = false) (hstop : (s.rx t).stopT = none)
    (hv : s.rxBlock t ch (s.tick - s.nat (Reg.rxLinkOffset t)) = v.map some) :
    NTable.get [] (s.playOut t).ingest (sigOf 2 (s.nat (Reg.rxChBase t) + ch)) = v.map fun x => x.v := by
  unfold State.playOut
  extract_lets j s1 s2
  have h1 : SamePlaying t s s1 := rxDetected_frame s t j
  have hreg : ∀ r, r ∉ naRegs t → s1.nat r = s.nat r := fun r hr => congrArg Int.toNat (h1.regs r hr)
  have hramp : (NTable.get {} (s1.rx t).pairs (ch / 2)).rampUp = false := by
    have hf := congrFun (congrArg Prod.snd h1.view) (ch / 2)
    refine hf.trans ?_
    show (NTable.get {} (s.rx t).pairs (ch / 2)).rampUp = false
    rw [hpairs]
    rfl
  have hout : s1.rxOut t j false false ch = v.map fun x => x.v :=
    rxOut_plain ((h1.regs _ (by simp)).trans hna) hramp ((rxBlock_of_playing h1 ch j).trans hv)
  have hget := get_rxOuts s1 t j false false (hch.trans_eq (hreg (Reg.rxChannels t) (by simp)).symm)
  rw [hout, hreg (Reg.rxChBase t) (by simp)] at hget
  have hs2 : s2.ingest = s1.rxOuts t j false false (s1.nat (Reg.rxChannels t)) := by
    show s1.rxOuts t j (s.rx t).rampUp ((s.rx t).stopT == some (s.tick + 1)) _ = _
    rw [hup, hstop]
    rfl
  clear_value s2 s1
  rw [when_keeps (g := State.ingest) rfl]
  exact (congrArg (fun y => NTable.get [] y (sigOf 2 (s.nat (Reg.rxChBase t) + ch))) hs2).trans hget
end

/-- Settles O31: the detectors leave what play-out reads, and each channel's block is put once. -/
theorem streamPlayOut : Obligations.StreamPlayOut := by
  unfold Obligations.StreamPlayOut
  intro t s
  refine ⟨fun hst hdom hcl hk => ?_, playoutDeadline_idle⟩
  have he := playoutDeadline_closes (s := s) (t := t) (by simp [hst, hdom, hcl]; omega)
  constructor
  · refine runs_of_exec rfl he fun hm => ?_
    obtain ⟨h1, h2, h3, h4⟩ := playOut_frame (s := s) (t := t)
    exact ⟨h1, h2, by rw [h2]; exact h3, h4, hm⟩
  · intro ch v hch hna _ hpairs hup hstop hv
    exact runs_of_exec rfl he fun _ => playOut_delivers hch hna hpairs hup hstop hv

end Sys2Proof.Machine
end

section
/-!
PROOFS. Frames at a NET port (11, R326, R327, R334, R336).
-/
namespace Sys2Proof.Machine

/-! A port whose transmitter is busy sends nothing. -/

theorem pump_busy {s : State} {n now : Nat} {f : QFrame} (hq : (s.port n).queue = [f]) (h7 : f.q < 7)
    (hb : now < (s.port n).busy) : s.pump n now = s := by
  have hlen : (s.port n).queue.length + 1 = 1 + 1 := by rw [hq]; rfl
  unfold State.pump
  rw [hlen, pumpFuel]
  dsimp only
  rw [heads_one _ _ hq h7]
  exact if_pos (.inl (hb.trans_le (le_max_left _ _)))

/-- A frame without a launch time that fits an empty queue waits there. -/
theorem enqueue_fits {s : State} {n : Nat} {f : QFrame} (hl : s.reg (Reg.netLink n) = 1) (hq : (s.port n).queue = [])
    (hf : f.launch = none) (h7 : f.q < 7) (hroom : cellsOf f.len ≤ s.queueCells n f.q) :
    s.enqueue n f = s.modPort n fun x => { x with queue := x.queue ++ [f] } := by
  have hused : s.cellsUsed n f.q f.plot = 0 := by
    unfold State.cellsUsed
    rw [hq]
    rfl
  unfold State.enqueue
  dsimp only
  rw [hf, hused, if_neg (not_not.mpr hl), if_neg Bool.false_ne_true, if_neg]
  rw [if_neg (by omega)]
  omega

/-- Such a frame at a port whose transmitter is busy waits. -/
theorem enqueue_pump_busy {s : State} {n now : Nat} {f : QFrame} (hl : s.reg (Reg.netLink n) = 1) (hq : (s.port n).queue = [])
    (hb : now < (s.port n).busy) (hf : f.launch = none) (h7 : f.q < 7) (hroom : cellsOf f.len ≤ s.queueCells n f.q) :
    (s.enqueue n f).pump n now = s.modPort n fun x => { x with queue := x.queue ++ [f] } := by
  rw [enqueue_fits hl hq hf h7 hroom]
  have hport := port_modPort_same s n fun x => { x with queue := x.queue ++ [f] }
  refine pump_busy (f := f) ((congrArg PortSt.queue hport).trans ?_) h7 (hb.trans_eq (congrArg PortSt.busy hport).symm)
  show (s.port n).queue ++ [f] = [f]
  rw [hq]
  rfl

theorem isBroadcast_of_isGroup {mac : List Byte} (h : isGroup mac = false) : isBroadcast mac = false := by
  by_contra hb
  rw [Bool.not_eq_false, isBroadcast, beq_iff_eq] at hb
  rw [hb] at h
  exact absurd h (by decide)

/-! The counts of a frame that was received. -/

/-- A good frame is counted (R326). -/
def State.rxCounted (s : State) (n : Nat) (f : RxFrame) : State :=
  let s0 := s.bumpBy (Reg.netMmFrag n) f.frags
  s0.setRegs [(Reg.rxFrames n, bump64 (s0.reg (Reg.rxFrames n))),
    (Reg.rxOctets n, (s0.reg (Reg.rxOctets n) + (f.data.length + 4 : Nat)) % 18446744073709551616)]
/-- Its source address waits to be learnt where the port and the VID learn. -/
def State.rxLearnt (s : State) (n : Nat) (f : RxFrame) (h : EthHead) (vid : Nat) : State :=
  if s.reg (Reg.netLearn n) == 1 && s.reg (Reg.vlanLearn vid) == 1 && !isGroup h.src then
    s.modNet fun t => { t with learn := t.learn ++ [{ time := f.stamp / 8 * 8, port := n, mac := h.src, fid := s.nat (Reg.vlanFid vid) }] }
  else s

/-- A frame that no service takes is filtered, or learnt and forwarded where the tables say (R331, R334). -/
def State.sortFrame (s : State) (n : Nat) (f : RxFrame) (h : EthHead) (vid pcp : Nat) : State :=
  let tagged := match h.vid with | some v => v != 0 | none => false
  if (s.nat (Reg.netAccept n) = 1 ∧ !tagged) ∨ (s.nat (Reg.netAccept n) = 2 ∧ tagged) ∨ !s.member vid n then s.bump (Reg.rxFiltered n)
  else
    let s2 := s.rxLearnt n f h vid
    if s2.ptpTrap n f.data then s2.enginePort n vid h f
    else overL (s2.lookup n vid h.dst).2 (fun s p => s.forward n p vid pcp h f) (s2.lookup n vid h.dst).1

section
variable {n : Fin 24} {f : RxFrame} {s : State}

/-- The registers that the counts of a good frame move. -/
@[reducible] def frameRegs (n : Nat) : List Reg := [Reg.rxFrames n, Reg.rxOctets n, Reg.netMmFrag n]

theorem rxCounted_regs : SameRegs s (s.rxCounted n f) (frameRegs n) :=
  SameRegs.trans (t := s.bumpBy (Reg.netMmFrag n) f.frags) (SameRegs.setReg (by simp) _) (Reports.setRegs (by simp)).2
theorem rxCounted_units : (s.rxCounted n f).units = s.units :=
  (setRegs_keeps (g := State.units) (fun _ _ _ => rfl) (s.bumpBy (Reg.netMmFrag n) f.frags) _).trans rfl
theorem units_bump (s : State) (r : Reg) : (s.bump r).units = s.units := rfl
theorem rxCounted_frames : (s.rxCounted n f).reg (Reg.rxFrames n) = (s.reg (Reg.rxFrames n) + 1) % 18446744073709551616 := by
  refine (reg_setReg_other _ _ _ _ (by simp)).trans ((reg_setReg_same _ _ _).trans ?_)
  rw [reg_bumpBy_other _ _ _ _ (by simp)]
  rfl
theorem rxCounted_octets : (s.rxCounted n f).reg (Reg.rxOctets n) =
    (s.reg (Reg.rxOctets n) + (f.data.length + 4 : Nat)) % 18446744073709551616 := by
  refine (reg_setReg_same _ _ _).trans ?_
  rw [reg_bumpBy_other _ _ _ _ (by simp)]
theorem vidOf_of_regs {u : State} {h : EthHead} (hp : u.nat (Reg.netPvid n) = s.nat (Reg.netPvid n)) : u.vidOf n h = s.vidOf n h := by
  unfold State.vidOf
  rw [hp]
theorem rxCounted_nat {r : Reg} (hr : r ∉ frameRegs n) : (s.rxCounted n f).nat r = s.nat r := congrArg Int.toNat (rxCounted_regs r hr)
theorem rxCounted_vidOf (h : EthHead) : (s.rxCounted n f).vidOf n h = s.vidOf n h := vidOf_of_regs (rxCounted_nat (by simp))
theorem rxCounted_member (vid p : Nat) : (s.rxCounted n f).member vid p = s.member vid p := by
  unfold State.member
  rw [rxCounted_regs _ (by simp)]

/-! Frames that are discarded. -/

theorem bumpBy_link : (s.bumpBy (Reg.netMmFrag n) f.frags).reg (Reg.netLink n) = s.reg (Reg.netLink n) :=
  reg_bumpBy_other _ _ _ _ (by simp)

theorem frameRx_noLink (h : s.reg (Reg.netLink n) ≠ 1) : exec (.frameRx n f) s = .next (s.bumpBy (Reg.netMmFrag n) f.frags) :=
  if_pos (by rwa [bumpBy_link])

variable (hl : s.reg (Reg.netLink n) = 1)
include hl
theorem frameRx_mmErr (he : f.mmErr = true) : exec (.frameRx n f) s = .next ((s.bumpBy (Reg.netMmFrag n) f.frags).bump (Reg.netMmErr n)) :=
  (if_neg (by rw [bumpBy_link]; simp [hl])).trans (if_pos he)
variable (he : f.mmErr = false)
include he
theorem frameRx_fcs (hf : f.fcsOk = false) : exec (.frameRx n f) s = .next ((s.bumpBy (Reg.netMmFrag n) f.frags).bump (Reg.rxFcsErr n)) :=
  (if_neg (by rw [bumpBy_link]; simp [hl])).trans ((if_neg (by simp [he])).trans (if_pos (by simp [hf])))
variable (hf : f.fcsOk = true)
include hf
theorem frameRx_size (hs : f.data.length < 60 ∨ 9212 < f.data.length) :
    exec (.frameRx n f) s = .next ((s.bumpBy (Reg.netMmFrag n) f.frags).bump (Reg.rxSizeErr n)) :=
  (if_neg (by rw [bumpBy_link]; simp [hl])).trans ((if_neg (by simp [he])).trans ((if_neg (by simp [hf])).trans (if_pos (by omega))))

/-! Good frames. -/

variable {h : EthHead} (hh : ethHead f.data = h) (hmin : 60 ≤ f.data.length) (hmax : f.data.length ≤ 9212) (hty : h.ty ≠ 0x8808)
include hh hmin hmax hty

theorem frameRx_reserved (ht : f.data.take 5 = [0x01, 0x80, 0xC2, 0x00, 0x00]) (hx : leAt f.data 5 1 < 16) (h1 : leAt f.data 5 1 ≠ 1)
    (h2 : leAt f.data 5 1 ≠ 2) (h14 : leAt f.data 5 1 ≠ 14) : exec (.frameRx n f) s = .next ((s.rxCounted n f).bump (Reg.rxFiltered n)) := by
  refine (if_neg (by rw [bumpBy_link]; simp [hl])).trans ((if_neg (by simp [he])).trans ((if_neg (by simp [hf])).trans
    ((if_neg (by omega)).trans ?_)))
  dsimp only
  rw [if_neg (by simp [hh, hty, h1]), if_neg (by simp [h2, h14]), if_pos (by simp [ht, hx])]
  rfl

variable (ht : f.data.take 5 ≠ [0x01, 0x80, 0xC2, 0x00, 0x00]) {vid pcp : Nat} (hv : s.vidOf n h = (vid, pcp))
include ht hv

theorem frameRx_sorts : exec (.frameRx n f) s = .next ((s.rxCounted n f).sortFrame n f h vid pcp) := by
  have hv' := (rxCounted_vidOf (n := n) (f := f) (s := s) h).trans hv
  have hres : (f.data.take 5 == [0x01, 0x80, 0xC2, 0x00, 0x00] && decide (leAt f.data 5 1 < 16)) = false := by
    rw [beq_false_of_ne ht]
    rfl
  show execFrameRx n f s = _
  unfold execFrameRx
  dsimp only
  rw [if_neg (by rw [bumpBy_link]; simp [hl]), if_neg (by simp [he]), if_neg (by simp [hf]), if_neg (by omega), hres, hh]
  obtain ⟨s1, hs1⟩ : ∃ u, s.rxCounted n f = u := ⟨_, rfl⟩
  rw [hs1] at hv' ⊢
  unfold State.rxCounted at hs1
  dsimp only at hs1
  rw [hs1, hv', if_neg (by simp [hty]), if_neg (by simp), if_neg (by simp)]
  unfold State.sortFrame
  dsimp only
  rw [apply_ite Host.Outcome.next, apply_ite Host.Outcome.next]
  rfl

end

section
variable {n : Fin 24} {f : RxFrame} {s : State} {h : EthHead} {vid pcp : Nat}

theorem sortFrame_foreign (hm : s.member vid n = false) : s.sortFrame n f h vid pcp = s.bump (Reg.rxFiltered n) :=
  if_pos (.inr (.inr (by rw [hm]; rfl)))

/-- A frame for one known port goes there, and the entry is marked used. -/
theorem sortFrame_known {e : FdbEntry} (ha : s.nat (Reg.netAccept n) = 0) (hm : s.member vid n = true) (hp : s.ptpTrap n f.data = false)
    (hg : isGroup h.dst = false) (hf : s.fdbFind h.dst (s.nat (Reg.vlanFid vid)) = some e) :
    s.sortFrame n f h vid pcp = ((s.rxLearnt n f h vid).fdbMod h.dst (s.nat (Reg.vlanFid vid)) fun x => { x with hit := true, idle := false }).forward
      n e.port vid pcp h f := by
  have hp' : (s.rxLearnt n f h vid).ptpTrap n f.data = false := by
    unfold State.rxLearnt
    split
    · exact hp
    · exact hp
  have hf' : (s.rxLearnt n f h vid).fdbFind h.dst (s.nat (Reg.vlanFid vid)) = some e := by
    unfold State.rxLearnt
    split
    · exact hf
    · exact hf
  have hfid : (s.rxLearnt n f h vid).nat (Reg.vlanFid vid) = s.nat (Reg.vlanFid vid) := by
    unfold State.rxLearnt
    split <;> rfl
  unfold State.sortFrame
  dsimp only
  rw [if_neg (by simp [ha, hm]), hp', if_neg Bool.false_ne_true]
  unfold State.lookup
  dsimp only
  rw [isBroadcast_of_isGroup hg, if_neg Bool.false_ne_true, hg, if_neg Bool.false_ne_true, hfid, hf']
  rfl

/-! What a learnt and found frame leaves. -/

theorem rxLearnt_learn : (s.rxLearnt n f h vid).net.learn =
    (if s.reg (Reg.netLearn n) = 1 ∧ s.reg (Reg.vlanLearn vid) = 1 ∧ isGroup h.src = false
      then s.net.learn ++ [⟨f.stamp / 8 * 8, n.val, h.src, s.nat (Reg.vlanFid vid)⟩] else s.net.learn) := by
  unfold State.rxLearnt
  by_cases hc : s.reg (Reg.netLearn n) = 1 ∧ s.reg (Reg.vlanLearn vid) = 1 ∧ isGroup h.src = false
  · rw [if_pos hc, if_pos (by simpa [and_assoc] using hc)]
    rfl
  · rw [if_neg hc, if_neg (by simpa [and_assoc] using hc)]

/-- A frame known on a port: what the tables hold of it. -/
def State.rxFound (s : State) (n : Nat) (f : RxFrame) (h : EthHead) (vid : Nat) : State :=
  (s.rxLearnt n f h vid).fdbMod h.dst (s.nat (Reg.vlanFid vid)) fun x => { x with hit := true, idle := false }

theorem rxFound_frame : (s.rxFound n f h vid).net.learn = (s.rxLearnt n f h vid).net.learn ∧ (s.rxFound n f h vid).net.ports = s.net.ports ∧
    (s.rxFound n f h vid).regs = s.regs ∧ (s.rxFound n f h vid).blobs = s.blobs := by
  refine ⟨rfl, ?_, ?_, ?_⟩ <;>
  · unfold State.rxFound State.rxLearnt
    split <;> rfl

theorem forward_own {s : State} (hn : n.val ≠ 24) : s.forward n n vid pcp h f = s.bump (Reg.dropFilter n) :=
  (if_neg hn).trans (if_pos (.inl rfl))

/-- The frame as it waits at the port that it leaves by. -/
def egressFrame (s : State) (n p vid pcp : Nat) (h : EthHead) (f : RxFrame) : QFrame :=
  { q := s.nat (Reg.netPcpMap n) / 16 ^ pcp % 8, body := s.egressForm p vid pcp h f.data,
    len := max 64 ((s.egressForm p vid pcp h f.data).length + 4), enq := f.last, stamp := f.stamp, ingress := some n }

theorem forward_waits {s : State} {p : Nat} (hp : p ≠ n.val) (h24 : p < 24) (hm : s.member vid p = true) (hl : s.reg (Reg.netLink p) = 1)
    (hq : (s.port p).queue = []) (hb : f.last < (s.port p).busy) (h7 : (egressFrame s n p vid pcp h f).q < 7)
    (hroom : cellsOf (egressFrame s n p vid pcp h f).len ≤ s.queueCells p (egressFrame s n p vid pcp h f).q) :
    s.forward n p vid pcp h f = s.modPort p fun x => { x with queue := x.queue ++ [egressFrame s n p vid pcp h f] } :=
  (if_neg (by omega)).trans ((if_neg (by simp [hp, hm])).trans
    (enqueue_pump_busy (f := egressFrame s n p vid pcp h f) hl hq hb rfl h7 hroom))

end

/-- A unicast frame whose destination is known: dropped at its own port, or forwarded to its one port. -/
theorem knownFrame {n : Fin 24} {f : RxFrame} {s : State} {h : EthHead} {vid pcp : Nat} {e : FdbEntry} (hl : s.reg (Reg.netLink n) = 1)
    (he : f.mmErr = false) (hf : f.fcsOk = true) (hh : ethHead f.data = h) (hmin : 60 ≤ f.data.length) (hmax : f.data.length ≤ 9212)
    (hty : h.ty ≠ 0x8808) (ht : f.data.take 5 ≠ [0x01, 0x80, 0xC2, 0x00, 0x00]) (hv : s.vidOf n h = (vid, pcp))
    (ha : s.nat (Reg.netAccept n) = 0) (hm : s.member vid n = true) (hp : s.ptpTrap n f.data = false) (hg : isGroup h.dst = false)
    (hfind : s.fdbFind h.dst (s.nat (Reg.vlanFid vid)) = some e) :
    (e.port = n.val → Runs (.frameRx n f) s fun t =>
      t.reg (Reg.dropFilter n) = (s.reg (Reg.dropFilter n) + 1) % 4294967296 ∧
      t.reg (Reg.rxFrames n) = (s.reg (Reg.rxFrames n) + 1) % 18446744073709551616 ∧ t.net.ports = s.net.ports ∧
      t.net.learn = (if s.reg (Reg.netLearn n) = 1 ∧ s.reg (Reg.vlanLearn vid) = 1 ∧ isGroup h.src = false
        then s.net.learn ++ [⟨f.stamp / 8 * 8, n.val, h.src, s.nat (Reg.vlanFid vid)⟩] else s.net.learn) ∧
      SameRegs s t [Reg.dropFilter n, Reg.rxFrames n, Reg.rxOctets n, Reg.netMmFrag n] ∧ SameMem s t) ∧
    (∀ q : Nat, q = s.nat (Reg.netPcpMap n) / 16 ^ pcp % 8 → e.port ≠ n.val → e.port < 24 →
      s.member vid e.port = true → s.reg (Reg.netLink e.port) = 1 → (s.port e.port).queue = [] →
      f.last < (s.port e.port).busy → q < 7 →
      cellsOf (max 64 ((s.egressForm e.port vid pcp h f.data).length + 4)) ≤ s.queueCells e.port q →
      Runs (.frameRx n f) s fun t => ∃ g : QFrame, (t.port e.port).queue = [g] ∧ g.q = q ∧
        g.body = s.egressForm e.port vid pcp h f.data ∧ g.stamp = f.stamp ∧ g.ingress = some n.val ∧
        t.reg (Reg.rxFrames n) = (s.reg (Reg.rxFrames n) + 1) % 18446744073709551616 ∧
        t.reg (Reg.rxOctets n) = (s.reg (Reg.rxOctets n) + (f.data.length + 4)) % 18446744073709551616 ∧
        t.net.learn = (if s.reg (Reg.netLearn n) = 1 ∧ s.reg (Reg.vlanLearn vid) = 1 ∧ isGroup h.src = false
          then s.net.learn ++ [⟨f.stamp / 8 * 8, n.val, h.src, s.nat (Reg.vlanFid vid)⟩] else s.net.learn) ∧
        SameRegs s t [Reg.rxFrames n, Reg.rxOctets n, Reg.netMmFrag n] ∧ SameMem s t) := by
  obtain ⟨c, hc⟩ : ∃ c, s.rxCounted n f = c := ⟨_, rfl⟩
  have hcr : SameRegs s c (frameRegs n) := by rw [← hc]; exact rxCounted_regs
  have hcn : ∀ r, r ∉ frameRegs n → c.nat r = s.nat r := fun r hr => congrArg Int.toNat (hcr r hr)
  have hframes : c.reg (Reg.rxFrames n) = (s.reg (Reg.rxFrames n) + 1) % 18446744073709551616 := by rw [← hc]; exact rxCounted_frames
  have hoctets : c.reg (Reg.rxOctets n) = (s.reg (Reg.rxOctets n) + (f.data.length + 4 : Nat)) % 18446744073709551616 := by rw [← hc]; exact rxCounted_octets
  have hcnet : c.net = s.net := by rw [← hc]; rfl
  have hcblob : c.blobs = s.blobs := by rw [← hc]; rfl
  have hcmember : ∀ p, c.member vid p = s.member vid p := fun p => by rw [← hc]; exact rxCounted_member vid p
  have hfid := hcn (Reg.vlanFid vid) (by simp)
  have hlearn : (c.rxLearnt n f h vid).net.learn = (if s.reg (Reg.netLearn n) = 1 ∧ s.reg (Reg.vlanLearn vid) = 1 ∧ isGroup h.src = false
      then s.net.learn ++ [⟨f.stamp / 8 * 8, n.val, h.src, s.nat (Reg.vlanFid vid)⟩] else s.net.learn) := by
    rw [rxLearnt_learn, hcr _ (by simp), hcr _ (by simp), hcnet, hfid]
  have hpt : c.ptpTrap n f.data = false := by
    unfold State.ptpTrap
    rw [hcr _ (by simp), hcr _ (by simp)]
    exact hp
  have hfind' : c.fdbFind h.dst (c.nat (Reg.vlanFid vid)) = some e := by
    unfold State.fdbFind
    rw [hcnet, hfid]
    exact hfind
  have hrun := frameRx_sorts hl he hf hh hmin hmax hty ht hv
  rw [hc, sortFrame_known ((hcn _ (by simp)).trans ha) ((hcmember n).trans hm) hpt hg hfind'] at hrun
  obtain ⟨hul, hup, hur, hub⟩ := rxFound_frame (n := n) (f := f) (s := c) (h := h) (vid := vid)
  obtain ⟨u, hu⟩ : ∃ u, c.rxFound n f h vid = u := ⟨_, rfl⟩
  have hrun' : exec (.frameRx n f) s = .next (u.forward n e.port vid pcp h f) := hrun.trans (by rw [← hu]; rfl)
  rw [hu, hlearn] at hul
  rw [hu] at hup hur hub
  have hus : SameRegs s u (frameRegs n) := hcr.trans (sameRegs_of_regs hur _)
  refine ⟨fun hport => ?_, fun q hq hport h24 hmem hlink hempty hbusy h7 hroom => ?_⟩
  · rw [hport, forward_own (by omega)] at hrun'
    refine runs_of_exec rfl hrun' fun hm => ⟨?_, ?_, hup.trans (by rw [hcnet]), hul, (hus.mono (by simp)).trans (SameRegs.setReg (by simp) _), hm⟩
    · exact (reg_bump_same _ _).trans (congrArg bump32 (hus _ (by simp)))
    · exact (reg_bump_other _ _ _ (by simp)).trans ((reg_of_regs hur _).trans hframes)
  · have hports : ∀ p, u.port p = s.port p := fun p => by
      unfold State.port
      rw [hup, hcnet]
    have hform : u.egressForm e.port vid pcp h f.data = s.egressForm e.port vid pcp h f.data := by
      unfold State.egressForm
      rw [hus _ (by simp)]
    have hcells : u.queueCells e.port q = s.queueCells e.port q := by
      unfold State.queueCells State.blob
      rw [hub, hcblob]
    have hgq : (egressFrame u n e.port vid pcp h f).q = q := by
      rw [hq]
      exact congrArg (fun x : Int => x.toNat / 16 ^ pcp % 8) (hus (Reg.netPcpMap n) (by simp))
    have hglen : (egressFrame u n e.port vid pcp h f).len = max 64 ((s.egressForm e.port vid pcp h f.data).length + 4) := by
      show max 64 ((u.egressForm e.port vid pcp h f.data).length + 4) = _
      rw [hform]
    have hwaits := forward_waits (n := n) (f := f) (s := u) (h := h) (vid := vid) (pcp := pcp) (p := e.port) hport h24
      (by unfold State.member; rw [hus _ (by simp)]; exact hmem) ((hus _ (by simp)).trans hlink)
      (by rw [hports]; exact hempty) (by rw [hports]; exact hbusy) (by rw [hgq]; exact h7) (by rw [hgq, hglen, hcells]; exact hroom)
    rw [hwaits] at hrun'
    refine runs_of_exec rfl hrun' fun hm => ⟨egressFrame u n e.port vid pcp h f, ?_, hgq, hform, rfl, rfl, (reg_of_regs hur _).trans hframes,
      (reg_of_regs hur _).trans hoctets, hul, hus, hm⟩
    refine (congrArg PortSt.queue (port_modPort_same u e.port fun x => { x with queue := x.queue ++ [egressFrame u n e.port vid pcp h f] })).trans ?_
    show (u.port e.port).queue ++ _ = _
    rw [hports, hempty]
    rfl

/-- Settles O32: each discard is counted, a known frame is counted, learnt and forwarded to its one port. -/
theorem forwardedFrames : Obligations.ForwardedFrames := by
  unfold Obligations.ForwardedFrames
  intro n f h vid pcp s hh hv
  have hfrag : SameRegs s (s.bumpBy (Reg.netMmFrag n) f.frags) [Reg.netMmFrag n] := SameRegs.setReg (by simp) _
  have hcount : ∀ r, r ≠ Reg.netMmFrag n → ((s.bumpBy (Reg.netMmFrag n) f.frags).bump r).reg r = (s.reg r + 1) % 4294967296 := fun r hr =>
    (reg_bump_same _ _).trans (congrArg bump32 (hfrag r (by simpa using hr)))
  have hdiscard : ∀ r, SameRegs s ((s.bumpBy (Reg.netMmFrag n) f.frags).bump r) [r, Reg.netMmFrag n] := fun r =>
    (hfrag.mono (by simp)).trans (SameRegs.setReg (by simp) _)
  have hgood : ∀ r, r ∉ frameRegs n → ((s.rxCounted n f).bump r).reg r = (s.reg r + 1) % 4294967296 ∧
      ((s.rxCounted n f).bump r).reg (Reg.rxFrames n) = (s.reg (Reg.rxFrames n) + 1) % 18446744073709551616 ∧
      SameRegs s ((s.rxCounted n f).bump r) [r, Reg.rxFrames n, Reg.rxOctets n, Reg.netMmFrag n] := fun r hr => by
    refine ⟨(reg_bump_same _ _).trans (congrArg bump32 (rxCounted_regs r hr)), ?_, (rxCounted_regs.mono (by simp)).trans (SameRegs.setReg (by simp) _)⟩
    exact (reg_bump_other _ _ _ fun e => hr (by rw [← e]; simp)).trans rxCounted_frames
  refine ⟨fun hl => ?_, fun hl he => ?_, fun hl he hf => ?_, fun hl he hf hs => ?_, fun hl he hf hmin hmax hty => ⟨?_, ?_, ?_⟩⟩
  · exact runs_of_exec rfl (frameRx_noLink hl) fun _ => ⟨hfrag, rfl⟩
  · exact runs_of_exec rfl (frameRx_mmErr hl he) fun _ => ⟨hcount _ (by simp), hdiscard _, rfl⟩
  · exact runs_of_exec rfl (frameRx_fcs hl he hf) fun _ => ⟨hcount _ (by simp), hdiscard _, rfl⟩
  · exact runs_of_exec rfl (frameRx_size hl he hf hs) fun _ => ⟨hcount _ (by simp), hdiscard _, rfl⟩
  · intro ht hx h1 h2 h14
    obtain ⟨hc, hr, hs⟩ := hgood (Reg.rxFiltered n) (by simp)
    exact runs_of_exec rfl (frameRx_reserved hl he hf hh hmin hmax hty ht hx h1 h2 h14) fun _ => ⟨hc, hr, hs, (units_bump _ _).trans rxCounted_units⟩
  · intro ht hm
    obtain ⟨hc, -, hs⟩ := hgood (Reg.rxFiltered n) (by simp)
    have hrun := frameRx_sorts hl he hf hh hmin hmax hty ht hv
    rw [sortFrame_foreign ((rxCounted_member vid n).trans hm)] at hrun
    exact runs_of_exec rfl hrun fun _ => ⟨hc, hs, (units_bump _ _).trans rxCounted_units⟩
  · exact fun e ht ha hm hp hg hfind => knownFrame hl he hf hh hmin hmax hty ht hv ha hm hp hg hfind

end Sys2Proof.Machine
end

section
/-!
PROOFS. The forwarding and multicast tables (11, R328 to R336).
-/
namespace Sys2Proof.Machine

/-! The tables' own operations. -/

section
variable (s : State)

/-- The registers that follow the forwarding table. -/
@[reducible] def fdbRegs : List Reg := [Reg.brFdbCount, Reg.brFlapAlarm]

theorem setFdb_fdb (l : List FdbEntry) : (s.setFdb l).net.fdb = l :=
  setRegs_keeps (g := fun s => s.net.fdb) (fun _ _ _ => rfl) (s.modNet _) _
theorem setFdb_learn (l : List FdbEntry) : (s.setFdb l).net.learn = s.net.learn :=
  setRegs_keeps (g := fun s => s.net.learn) (fun _ _ _ => rfl) (s.modNet _) _
theorem setFdb_regs (l : List FdbEntry) : SameRegs s (s.setFdb l) fdbRegs :=
  (sameRegs_of_regs (t := s.modNet _) rfl _).trans (Reports.setRegs (by simp)).2
theorem setFdb_count (l : List FdbEntry) : (s.setFdb l).reg Reg.brFdbCount = l.length :=
  (reg_setReg_other _ _ _ _ (by simp)).trans (reg_setReg_same _ _ _)

theorem setMc_count (l : List McEntry) : (s.setMc l).reg Reg.mcCount = l.length := reg_setReg_same _ _ _
theorem setMc_regs (l : List McEntry) : SameRegs s (s.setMc l) [Reg.mcCount] :=
  (sameRegs_of_regs (t := s.modNet _) rfl _).trans (SameRegs.setReg (by simp) _)

end

theorem find_map_is {l : List FdbEntry} {mac : List Byte} {fid : Nat} {f : FdbEntry → FdbEntry}
    (hf : ∀ x, x.is mac fid = true → (f x).is mac fid = true) :
    (l.map fun e => if e.is mac fid then f e else e).find? (fun e => e.is mac fid) = (l.find? fun e => e.is mac fid).map f := by
  induction l with
  | nil => rfl
  | cons e l ih =>
    rw [List.map_cons]
    by_cases he : e.is mac fid = true
    · rw [List.find?_cons_of_pos (p := fun e : FdbEntry => e.is mac fid) (by rw [if_pos he]; exact hf e he),
        List.find?_cons_of_pos (p := fun e : FdbEntry => e.is mac fid) he, if_pos he]
      rfl
    · rw [List.find?_cons_of_neg (p := fun e : FdbEntry => e.is mac fid) (by rw [if_neg he]; exact he),
        List.find?_cons_of_neg (p := fun e : FdbEntry => e.is mac fid) he, ih]

/-- What is found of a key whose entry is changed. -/
theorem fdbFind_fdbMod {s : State} {mac : List Byte} {fid : Nat} {f : FdbEntry → FdbEntry}
    (hf : ∀ x, x.is mac fid = true → (f x).is mac fid = true) : (s.fdbMod mac fid f).fdbFind mac fid = (s.fdbFind mac fid).map f :=
  find_map_is hf

/-! Learning (R329, R330, R333). -/

section
variable {s : State} {now : Nat} {v : LearnEv} {rest : List LearnEv}

theorem learnEventApply_none (h : s.net.learn = []) : exec (.learnEventApply now) s = .next s := by
  show execLearnEventApply now s = _
  unfold execLearnEventApply
  rw [h]
  rfl

variable (h : sortBy learnLe s.net.learn = v :: rest)
include h
theorem learnEventApply_early (ht : now < v.time + 2000) : exec (.learnEventApply now) s = .next s := by
  show execLearnEventApply now s = _
  unfold execLearnEventApply
  rw [h]
  exact if_neg (Nat.not_le.mpr ht)
theorem learnEventApply_due (ht : v.time + 2000 ≤ now) :
    exec (.learnEventApply now) s = .next ((s.modNet fun n => { n with learn := rest }).learn v) := by
  show execLearnEventApply now s = _
  unfold execLearnEventApply
  rw [h]
  exact if_pos ht
end

section
variable {u : State} {v : LearnEv}

theorem learn_room (hf : u.fdbFind v.mac v.fid = none) (h : fdbRoom u.net.fdb v.mac v.fid = true) :
    u.learn v = u.setFdb (u.net.fdb ++ [{ mac := v.mac, fid := v.fid, port := v.port, hit := true }]) := by
  unfold State.learn
  rw [hf]
  exact if_pos h
theorem learn_full (hf : u.fdbFind v.mac v.fid = none) (h : fdbRoom u.net.fdb v.mac v.fid = false) :
    u.learn v = u.bump Reg.brLearnFull := by
  unfold State.learn
  rw [hf]
  exact if_neg (by simp [h])

variable {e : FdbEntry} (hf : u.fdbFind v.mac v.fid = some e)
include hf
theorem learn_again (hp : e.port = v.port) : u.learn v = u.fdbMod v.mac v.fid fun x => { x with hit := true, idle := false } := by
  unfold State.learn
  rw [hf]
  exact if_pos hp
variable (hp : e.port ≠ v.port)
include hp
theorem learn_static (hs : e.static = true) : u.learn v = u.bump Reg.brStaticConflict := by
  unfold State.learn
  rw [hf]
  exact (if_neg hp).trans (if_pos hs)
variable (hs : e.static = false)
include hs
theorem learn_pinned (hpin : e.pinned = true) : u.learn v = u.bump Reg.brFlapBlocked := by
  unfold State.learn
  rw [hf]
  exact (if_neg hp).trans ((if_neg (by simp [hs])).trans (if_pos hpin))
/-- An entry that moves fewer than 17 times in its window takes the new port, and the move is counted. -/
theorem learn_moves (hpin : e.pinned = false) (hm : e.moves < 16) : ∃ f : FdbEntry → FdbEntry,
    u.learn v = (u.fdbMod v.mac v.fid f).bump Reg.brMoves ∧
      ∀ x, (f x).mac = x.mac ∧ (f x).fid = x.fid ∧ (f x).port = v.port ∧ (f x).hit = true := by
  unfold State.learn
  rw [hf]
  dsimp only
  rw [if_neg hp, if_neg (by simp [hs]), if_neg (by simp [hpin]), if_neg]
  · exact ⟨_, rfl, fun x => ⟨rfl, rfl, rfl, rfl⟩⟩
  · have hlow : ∀ c : Bool, (if c then 1 else e.moves + 1) < 17 := fun c => by cases c <;> simp; omega
    exact fun hc => absurd hc.1 (Nat.not_le.mpr (hlow _))
end

/-! The statement's parts. -/

section
variable {s : State} {now : Nat} {v : LearnEv} {rest : List LearnEv} (h : sortBy learnLe s.net.learn = v :: rest)
  (ht : v.time + 2000 ≤ now)
include h ht

theorem learnsNew (hf : s.fdbFind v.mac v.fid = none) :
    (fdbRoom s.net.fdb v.mac v.fid = true → Runs (.learnEventApply now) s fun t =>
      t.net.fdb = s.net.fdb ++ [{ mac := v.mac, fid := v.fid, port := v.port, hit := true }] ∧ t.net.learn = rest ∧
      t.reg Reg.brFdbCount = (s.net.fdb.length + 1 : Nat) ∧ SameRegs s t [Reg.brFdbCount, Reg.brFlapAlarm] ∧ SameMem s t) ∧
    (fdbRoom s.net.fdb v.mac v.fid = false → Runs (.learnEventApply now) s fun t => t.net.fdb = s.net.fdb ∧
      t.net.learn = rest ∧ t.reg Reg.brLearnFull = (s.reg Reg.brLearnFull + 1) % 4294967296 ∧
      SameRegs s t [Reg.brLearnFull] ∧ SameMem s t) := by
  have hrun := learnEventApply_due h ht
  refine ⟨fun hroom => ?_, fun hroom => ?_⟩
  · rw [learn_room (u := s.modNet fun n => { n with learn := rest }) hf hroom] at hrun
    refine runs_of_exec rfl hrun fun hm => ⟨setFdb_fdb _ _, setFdb_learn _ _, (setFdb_count _ _).trans ?_,
      (sameRegs_of_regs (t := s.modNet _) rfl _).trans (setFdb_regs _ _), hm⟩
    rw [List.length_append]
    rfl
  · rw [learn_full (u := s.modNet fun n => { n with learn := rest }) hf hroom] at hrun
    exact runs_of_exec rfl hrun fun hm => ⟨rfl, rfl, reg_bump_same _ _, SameRegs.setReg (s := s.modNet _) (by simp) _, hm⟩

theorem learnsKnown {e : FdbEntry} (hf : s.fdbFind v.mac v.fid = some e) :
    (e.port = v.port → Runs (.learnEventApply now) s fun t =>
      t.fdbFind v.mac v.fid = some { e with hit := true, idle := false } ∧ t.net.learn = rest ∧ SameRegs s t [] ∧ SameMem s t) ∧
    (e.port ≠ v.port → e.static = true → Runs (.learnEventApply now) s fun t => t.net.fdb = s.net.fdb ∧
      t.net.learn = rest ∧ t.reg Reg.brStaticConflict = (s.reg Reg.brStaticConflict + 1) % 4294967296 ∧
      SameRegs s t [Reg.brStaticConflict] ∧ SameMem s t) ∧
    (e.port ≠ v.port → e.static = false → e.pinned = true → Runs (.learnEventApply now) s fun t => t.net.fdb = s.net.fdb ∧
      t.net.learn = rest ∧ t.reg Reg.brFlapBlocked = (s.reg Reg.brFlapBlocked + 1) % 4294967296 ∧
      SameRegs s t [Reg.brFlapBlocked] ∧ SameMem s t) ∧
    (e.port ≠ v.port → e.static = false → e.pinned = false → e.moves < 16 → Runs (.learnEventApply now) s fun t =>
      (t.fdbFind v.mac v.fid).any (fun x => x.port == v.port && x.hit) = true ∧ t.net.learn = rest ∧
      t.reg Reg.brMoves = (s.reg Reg.brMoves + 1) % 4294967296 ∧ SameRegs s t [Reg.brMoves] ∧ SameMem s t) := by
  have hrun := learnEventApply_due h ht
  have hf' : (s.modNet fun n => { n with learn := rest }).fdbFind v.mac v.fid = some e := hf
  have hcount : ∀ r, SameRegs s ((s.modNet fun n => { n with learn := rest }).bump r) [r] := fun r =>
    SameRegs.setReg (s := s.modNet _) (by simp) _
  refine ⟨fun hp => ?_, fun hp hs => ?_, fun hp hs hpin => ?_, fun hp hs hpin hmoves => ?_⟩
  · rw [learn_again hf' hp] at hrun
    refine runs_of_exec rfl hrun fun hm => ⟨?_, rfl, sameRegs_of_regs rfl _, hm⟩
    refine (fdbFind_fdbMod ?_).trans ?_
    · exact fun _ hx => hx
    · rw [hf']
      rfl
  · rw [learn_static hf' hp hs] at hrun
    exact runs_of_exec rfl hrun fun hm => ⟨rfl, rfl, reg_bump_same _ _, hcount _, hm⟩
  · rw [learn_pinned hf' hp hs hpin] at hrun
    exact runs_of_exec rfl hrun fun hm => ⟨rfl, rfl, reg_bump_same _ _, hcount _, hm⟩
  · obtain ⟨f, hl, hfx⟩ := learn_moves hf' hp hs hpin hmoves
    rw [hl] at hrun
    refine runs_of_exec rfl hrun fun hm => ⟨?_, rfl, reg_bump_same _ _, SameRegs.setReg (s := (s.modNet _).fdbMod _ _ _) (by simp) _, hm⟩
    show (((s.modNet fun n => { n with learn := rest }).fdbMod v.mac v.fid f).fdbFind v.mac v.fid).any _ = true
    rw [fdbFind_fdbMod (fun x hx => ?_), hf']
    · obtain ⟨-, -, hport, hhit⟩ := hfx e
      simp [hport, hhit]
    · obtain ⟨hmac, hfid, -, -⟩ := hfx x
      unfold FdbEntry.is at hx ⊢
      rwa [hmac, hfid]
end

/-! Flap windows and pins (R330). -/

/-- An entry at the end of its flap window. -/
def FdbEntry.windowEnd (now : Nat) (e : FdbEntry) : FdbEntry :=
  match e.window with
  | some w => if !e.pinned ∧ w + 1000000000 ≤ now then { e with moves := 0, window := none } else e
  | none => e
/-- An entry at the end of its pin. -/
def FdbEntry.unpin (hold now : Nat) (e : FdbEntry) : FdbEntry :=
  if e.pinned ∧ e.pinAt + hold ≤ now then { e with pinned := false, moves := 0, window := none } else e

theorem windowEnd_due {now w : Nat} {e : FdbEntry} (hw : e.window = some w) (hp : e.pinned = false) (ht : w + 1000000000 ≤ now) :
    e.windowEnd now = { e with moves := 0, window := none } := by
  unfold FdbEntry.windowEnd
  rw [hw]
  exact if_pos ⟨by simp [hp], ht⟩
theorem windowEnd_window {now w : Nat} {e : FdbEntry} (hw : (e.windowEnd now).window = some w) :
    (e.windowEnd now).pinned = true ∨ now < w + 1000000000 := by
  unfold FdbEntry.windowEnd at hw ⊢
  split at hw
  · next w' he =>
    split_ifs at hw ⊢ with hc
    rw [he, Option.some_inj] at hw
    subst hw
    by_cases hp : e.pinned = true
    · exact .inl hp
    · exact .inr (Nat.not_le.mp fun hle => hc ⟨by simpa using hp, hle⟩)
  · next he =>
    rw [he] at hw
    exact absurd hw (by simp)
theorem unpin_pinned {hold now : Nat} {e : FdbEntry} (hp : (e.unpin hold now).pinned = true) : now < (e.unpin hold now).pinAt + hold := by
  unfold FdbEntry.unpin at hp ⊢
  split_ifs at hp ⊢ with hc
  exact Nat.not_le.mp fun hle => hc ⟨hp, hle⟩

/-! Aging (R331). -/

section
variable {s : State} {mac : List Byte} {fid : Nat} {e : FdbEntry}

theorem ageScanVisit_unknown (h : s.fdbFind mac fid = none) : exec (.ageScanVisit mac fid) s = .next s := by
  show execAgeScanVisit mac fid s = _
  unfold execAgeScanVisit
  rw [h]

variable (h : s.fdbFind mac fid = some e)
include h
theorem ageScanVisit_exempt (hs : e.static = true ∨ s.reg Reg.brAgeTime = 0) : exec (.ageScanVisit mac fid) s = .next s := by
  show execAgeScanVisit mac fid s = _
  unfold execAgeScanVisit
  rw [h]
  exact if_pos (hs.imp id Or.inl)

variable (hs : e.static = false) (hage : s.reg Reg.brAgeTime ≠ 0)
  (hv : ∀ k, e.visited = some k → k + s.nat Reg.brAgeTime * 500000000 ≤ s.timeNs)
include hs hage hv
theorem ageScanVisit_visits : exec (.ageScanVisit mac fid) s = .next
    (if e.hit then s.fdbMod mac fid fun x => { x with hit := false, idle := false, visited := some s.timeNs }
      else if e.idle then s.setFdb (s.net.fdb.filter fun x => !x.is mac fid)
      else s.fdbMod mac fid fun x => { x with idle := true, visited := some s.timeNs }) := by
  have hsoon : (match e.visited with | some t => decide (s.timeNs < t + s.nat Reg.brAgeTime * 500000000) | none => false) = false := by
    cases hk : e.visited with
    | none => rfl
    | some k => exact decide_eq_false (Nat.not_lt.mpr (hv k hk))
  show execAgeScanVisit mac fid s = _
  unfold execAgeScanVisit
  rw [h]
  dsimp only
  rw [if_neg (by rintro (hc | hc | hc); exacts [by simp [hs] at hc, hage hc, Bool.false_ne_true (hsoon.symm.trans hc)])]
  cases e.hit <;> cases e.idle <;> rfl

theorem agesKnown : Runs (.ageScanVisit mac fid) s fun t => t.fdbFind mac fid =
    (if e.hit then some { e with hit := false, idle := false, visited := some s.timeNs } else if e.idle then none
      else some { e with idle := true, visited := some s.timeNs }) ∧
    SameRegs s t [Reg.brFdbCount, Reg.brFlapAlarm] ∧ SameMem s t := by
  refine runs_of_exec rfl (ageScanVisit_visits h hs hage hv) fun hm => ?_
  split
  · refine ⟨?_, sameRegs_of_regs rfl _, ?_⟩
    · refine (fdbFind_fdbMod ?_).trans ?_
      · exact fun _ hx => hx
      · rw [h]
        rfl
    · exact sameMem_of_mem rfl
  · split
    · refine ⟨?_, setFdb_regs _ _, ?_⟩
      · unfold State.fdbFind
        rw [setFdb_fdb, List.find?_eq_none]
        intro x hx
        simpa using (List.mem_filter.mp hx).2
      · exact sameMem_of_mem (setRegs_keeps (g := State.mem) (fun _ _ _ => rfl) (s.modNet _) _)
    · refine ⟨?_, sameRegs_of_regs rfl _, ?_⟩
      · refine (fdbFind_fdbMod ?_).trans ?_
        · exact fun _ hx => hx
        · rw [h]
          rfl
      · exact sameMem_of_mem rfl
end

/-! A status register that a batch answers in. -/

theorem reg_status_same (s : State) (r : Reg) (v : Int) : ((s.setReg r v).reply 0).reg r = v := reg_setReg_same s r v
theorem reg_status_other (s : State) (r q : Reg) (v : Int) (h : q ≠ r) : ((s.setReg r v).reply 0).reg q = s.reg q := reg_setReg_other s r q v h
theorem status_sameRegs (s : State) (r : Reg) (v : Int) {l : List Reg} (h : r ∈ l) : SameRegs s ((s.setReg r v).reply 0) l :=
  SameRegs.setReg (s := s) h v

/-! Batches of static and multicast entries (R332, R335). -/

section
variable {s : State} {b : List Byte}

/-- A batch of no whole record, none, or more than 256 is refused. -/
theorem batch_badLength (h : b.length % 16 ≠ 0 ∨ records 16 b = [] ∨ 256 < (records 16 b).length) :
    exec (.fdbAdd b) s = .next ((s.setReg Reg.fdbStatus 0x10).reply 0) ∧ exec (.fdbDel b) s = .next ((s.setReg Reg.fdbStatus 0x10).reply 0) ∧
    exec (.mcAdd b) s = .next ((s.setReg Reg.mcStatus 0x10).reply 0) ∧ exec (.mcDel b) s = .next ((s.setReg Reg.mcStatus 0x10).reply 0) :=
  ⟨if_pos (h.imp id (Or.imp id Or.inl)), if_pos h, if_pos (h.imp id (Or.imp id Or.inl)), if_pos h⟩

variable (hl : b.length % 16 = 0) (h0 : records 16 b ≠ []) (hmax : (records 16 b).length ≤ 256)
include hl h0 hmax

theorem fdbAdd_records (hok : (records 16 b).all fdbRecordOk = true) : exec (.fdbAdd b) s = match addStatics s.net.fdb (records 16 b) with
    | some l => .next (((s.setFdb l).setReg Reg.fdbStatus 0).reply 0)
    | none => .next ((s.setReg Reg.fdbStatus 0x11).reply 0) :=
  if_neg (by simp [hl, h0, hok]; omega)
theorem mcAdd_records (hok : (records 16 b).all mcRecordOk = true) : exec (.mcAdd b) s = match addMc s.net.mc (records 16 b) with
    | .ok l => .next (((s.setMc l).setReg Reg.mcStatus 0).reply 0)
    | .error c => .next ((s.setReg Reg.mcStatus c).reply 0) :=
  if_neg (by simp [hl, h0, hok]; omega)

theorem fdbDel_known (h : ∀ r ∈ records 16 b, ∃ e ∈ s.net.fdb, e.is (r.take 6) (leAt r 6 1) = true) :
    exec (.fdbDel b) s = .next (((s.setFdb (s.net.fdb.filter fun e => !((records 16 b).any fun r => e.is (r.take 6) (leAt r 6 1)))).setReg
      Reg.fdbStatus 0).reply 0) := by
  refine (if_neg (by simp [hl, h0]; omega)).trans (if_neg ?_)
  simpa using h
theorem fdbDel_unknown {r : List Byte} (hr : r ∈ records 16 b) (h : ∀ e ∈ s.net.fdb, e.is (r.take 6) (leAt r 6 1) = false) :
    exec (.fdbDel b) s = .next ((s.setReg Reg.fdbStatus 0x12).reply 0) := by
  refine (if_neg (by simp [hl, h0]; omega)).trans (if_pos ?_)
  simpa using ⟨r, hr, h⟩

/-- What the table keeps where the gardener's entries of a batch are removed. -/
def mcWithout (mc : List McEntry) (rs : List (List Byte)) : List McEntry :=
  (mc.map fun e => if rs.any fun r => e.mac == r.take 6 && e.fid == leAt r 6 1 then { e with gardener := false, ports := 0 } else e).filter
    fun e => e.engine || e.gardener

theorem mcDel_known (h : ∀ r ∈ records 16 b, ∃ e ∈ s.net.mc, e.mac = r.take 6 ∧ e.fid = leAt r 6 1) :
    exec (.mcDel b) s = .next (((s.setMc (mcWithout s.net.mc (records 16 b))).setReg Reg.mcStatus 0).reply 0) := by
  refine (if_neg (by simp [hl, h0]; omega)).trans (if_neg ?_)
  simpa using h
theorem mcDel_unknown {r : List Byte} (hr : r ∈ records 16 b) (h : ∀ e ∈ s.net.mc, e.mac ≠ r.take 6 ∨ e.fid ≠ leAt r 6 1) :
    exec (.mcDel b) s = .next ((s.setReg Reg.mcStatus 0x12).reply 0) := by
  refine (if_neg (by simp [hl, h0]; omega)).trans (if_pos ?_)
  simp only [Bool.not_eq_true', List.all_eq_false, List.any_eq_true, not_exists, not_and, Bool.and_eq_true, beq_iff_eq]
  exact ⟨r, hr, fun e he hmac hfid => (h e he).elim (fun hn => hn hmac) fun hn => hn hfid⟩

end

theorem mem_mcWithout {mc : List McEntry} {rs : List (List Byte)} {e : McEntry} (h : e ∈ mcWithout mc rs) :
    (∀ r ∈ rs, e.mac ≠ r.take 6 ∨ e.fid ≠ leAt r 6 1) ∨ (e.engine = true ∧ e.gardener = false) := by
  obtain ⟨hmem, hkeep⟩ := List.mem_filter.mp h
  obtain ⟨x, -, hx⟩ := List.mem_map.mp hmem
  split at hx
  · subst hx
    exact .inr ⟨by simpa using hkeep, rfl⟩
  · next hno =>
    subst hx
    refine .inl fun r hr => ?_
    by_contra hc
    push Not at hc
    exact hno (List.any_eq_true.mpr ⟨r, hr, by simp [hc]⟩)

/-- Settles O33: each event, visit and batch has one case per condition of the tables. -/
theorem forwardingTables : Obligations.ForwardingTables := by
  unfold Obligations.ForwardingTables
  intro now fid mac b n s
  refine ⟨fun v rest h => ⟨fun ht hf => learnsNew h ht hf, fun e ht hf => learnsKnown h ht hf, learnEventApply_early h⟩, learnEventApply_none,
    ?_, ?_, fun e h => ⟨fun hs hage hv => agesKnown h hs hage hv, ageScanVisit_exempt h⟩, ageScanVisit_unknown, ?_, ?_⟩
  · refine runs_of_exec (t := s.modNet fun t => { t with fdb := t.fdb.map (FdbEntry.windowEnd now) }) rfl rfl fun hm =>
      ⟨List.length_map _, fun e he w hw hp ht => ?_, fun e he w hw => ?_, sameRegs_of_regs rfl _, hm⟩
    · exact List.mem_map.mpr ⟨e, he, windowEnd_due hw hp ht⟩
    · obtain ⟨x, -, rfl⟩ := List.mem_map.mp he
      exact windowEnd_window hw
  · refine runs_of_exec (t := s.setFdb (s.net.fdb.map (FdbEntry.unpin (s.nat Reg.brFlapHold * 1000000000) now))) rfl rfl fun hm =>
      ⟨?_, fun e he hp ht => ?_, fun e he hp => ?_, setFdb_regs _ _, hm⟩
    · rw [setFdb_fdb, List.length_map]
    · rw [setFdb_fdb]
      exact List.mem_map.mpr ⟨e, he, if_pos ⟨hp, ht⟩⟩
    · rw [setFdb_fdb] at he
      obtain ⟨x, -, rfl⟩ := List.mem_map.mp he
      exact unpin_pinned hp
  · exact runs_of_exec rfl (show exec (.netFlush n) s = .next ((s.setFdb (s.net.fdb.filter fun e => e.static || e.port != n.val)).reply 0) from rfl)
      fun hm => ⟨setFdb_fdb _ _, rfl, setFdb_regs _ _, hm⟩
  · rintro rs rfl
    refine ⟨fun hl h0 hmax => ⟨fun hok => ⟨fun l ha => ?_, fun ha => ?_⟩, fun h => ?_, fun r hr h => ?_, fun hok => ⟨fun l ha => ?_, fun c ha => ?_⟩,
      fun h => ?_, fun r hr h => ?_⟩, fun h => ?_⟩
    · have hrun := fdbAdd_records (s := s) hl h0 hmax hok
      rw [ha] at hrun
      exact runs_of_exec rfl hrun fun hm => ⟨setFdb_fdb _ _, reg_status_same _ _ _,
        ((setFdb_regs s l).mono (by simp)).trans (status_sameRegs _ _ _ (by simp)), hm⟩
    · have hrun := fdbAdd_records (s := s) hl h0 hmax hok
      rw [ha] at hrun
      exact runs_of_exec rfl hrun fun _ => ⟨reg_status_same _ _ _, status_sameRegs _ _ _ (by simp), rfl⟩
    · exact runs_of_exec rfl (fdbDel_known hl h0 hmax h) fun hm => ⟨setFdb_fdb _ _, reg_status_same _ _ _,
        ((setFdb_regs s _).mono (by simp)).trans (status_sameRegs _ _ _ (by simp)), hm⟩
    · exact runs_of_exec rfl (fdbDel_unknown hl h0 hmax hr h) fun _ => ⟨reg_status_same _ _ _, status_sameRegs _ _ _ (by simp), rfl⟩
    · have hrun := mcAdd_records (s := s) hl h0 hmax hok
      rw [ha] at hrun
      exact runs_of_exec rfl hrun fun hm => ⟨rfl, reg_status_same _ _ _, (reg_status_other _ _ _ _ (by simp)).trans (setMc_count s l),
        ((setMc_regs s l).mono (by simp)).trans (status_sameRegs _ _ _ (by simp)), hm⟩
    · have hrun := mcAdd_records (s := s) hl h0 hmax hok
      rw [ha] at hrun
      exact runs_of_exec rfl hrun fun _ => ⟨reg_status_same _ _ _, status_sameRegs _ _ _ (by simp), rfl⟩
    · exact runs_of_exec rfl (mcDel_known hl h0 hmax h) fun hm => ⟨fun e he => mem_mcWithout he, reg_status_same _ _ _,
        (reg_status_other _ _ _ _ (by simp)).trans (setMc_count s _), ((setMc_regs s _).mono (by simp)).trans (status_sameRegs _ _ _ (by simp)), hm⟩
    · exact runs_of_exec rfl (mcDel_unknown hl h0 hmax hr h) fun _ => ⟨reg_status_same _ _ _, status_sameRegs _ _ _ (by simp), rfl⟩
    · obtain ⟨h1, h2, h3, h4⟩ := batch_badLength (s := s) h
      exact ⟨runs_of_exec rfl h1 fun _ => ⟨reg_status_same _ _ _, status_sameRegs _ _ _ (by simp), rfl⟩, runs_of_exec rfl h2 fun _ => ⟨reg_status_same _ _ _, status_sameRegs _ _ _ (by simp), rfl⟩,
        runs_of_exec rfl h3 fun _ => ⟨reg_status_same _ _ _, status_sameRegs _ _ _ (by simp), rfl⟩, runs_of_exec rfl h4 fun _ => ⟨reg_status_same _ _ _, status_sameRegs _ _ _ (by simp), rfl⟩⟩

end Sys2Proof.Machine
end

section
/-!
PROOFS. Serial audio ports: requests and states (13, R375 to R381).
-/
namespace Sys2Proof.Machine

/-! A port's registers and state. -/

/-- The serial ports of a state. -/
@[reducible] def SameSaps (l : List Reg) (s t : State) : Prop := Only State.saps (· ∈ l) s t

section
variable {s u : State} {n : Nat}

theorem sap_modSap_same (s : State) (n : Nat) (f : SapSt → SapSt) : (s.modSap n f).sap n = f (s.sap n) := NTable.get_mod_same _ _ _ _
theorem sap_of_saps (h : u.saps = s.saps) (n : Nat) : u.sap n = s.sap n := congrArg (fun x => NTable.get ({} : SapSt) x n) h
theorem modSap_sameRegs (s : State) (n : Nat) (f : SapSt → SapSt) (l : List Reg) : SameRegs s (s.modSap n f) l :=
  sameRegs_of_regs (modSap_regs s n f) l
theorem modSap_acts {f : SapSt → SapSt} (hf : ∀ x, (f x).acts = x.acts) (s : State) (n : Nat) :
    ((s.modSap n f).sap n).acts = (s.sap n).acts := by rw [sap_modSap_same, hf]

theorem sameSaps_noteCmd (s : State) (at_ : Option (Nat × Bool)) (p due : Nat) (r : Reg) (start : Bool) :
    SameSaps [] s (s.noteCmd at_ p due r start) := by
  unfold State.noteCmd
  exact .of_ite (fun _ => .of_regs rfl rfl) fun _ => .refl _
theorem sameSaps_discards (s : State) (l : List (Nat × Bool × Bool)) (p n : Nat) :
    SameSaps [] s (overL l (fun s e => s.discard p (sapActReg n e.2.2) e.1) s) := by
  refine .of_overL _ (fun s e _ => ?_) s
  exact .of_regs rfl rfl
theorem sameSaps_sapEvent (s : State) (n b : Nat) : SameSaps [Reg.sapEvents n, Reg.notifyDropped] s (s.sapEvent n b) := by
  unfold State.sapEvent
  refine .of_ite (fun _ => .refl _) fun _ => ?_
  have h1 : SameSaps [Reg.sapEvents n, Reg.notifyDropped] s (s.orReg (Reg.sapEvents n) (2 ^ b)) := Only.setReg (by simp) _ rfl
  dsimp only
  split
  · exact .of_ite (fun _ => h1.trans (.of_reports (Reports.notifyPlot (l := [Reg.notifyDropped]) (by simp) _ _ _) (fun _ => rfl) (by simp)))
      fun _ => h1
  · exact h1
/-- An event's bit stands once it is raised. -/
theorem bit_sapEvent (s : State) (n b : Nat) : bit ((s.sapEvent n b).reg (Reg.sapEvents n)) b = true := by
  have h1 : bit ((s.orReg (Reg.sapEvents n) (2 ^ b)).reg (Reg.sapEvents n)) b = true := by
    rw [State.orReg, reg_setReg_same]
    exact bit_or_two_pow _ b
  unfold State.sapEvent
  split
  · assumption
  · dsimp only
    split
    · split
      · rwa [(Reports.notifyPlot (l := [Reg.notifyDropped]) (by simp) _ _ _).2 _ (by simp)]
      · exact h1
    · exact h1
end

/-! Requests (R375). -/

section
variable {s : State} {p : Fin 16} {n : Fin 128} {at_ : Option (Nat × Bool)} {start : Bool}

theorem exec_sapRequest : exec (if start then .sapStart p n at_ else .sapStop p n at_) s = .next (s.sapRequest p n start at_) := by
  cases start <;> rfl
theorem sapRequest_foreign (h : s.sapPlot n ≠ some p.val) : s.sapRequest p n start at_ = s.reply 0x11 := if_pos h

variable (h : s.sapPlot n = some p.val)
include h
theorem sapRequest_error {c : Nat} (hc : s.actAt p at_ = .error c) : s.sapRequest p n start at_ = s.reply c := by
  unfold State.sapRequest
  rw [if_neg (not_not.mpr h), hc]

/-- A request that joins the pending actions. -/
def State.sapJoin (s : State) (p n due : Nat) (start : Bool) (at_ : Option (Nat × Bool)) : State :=
  ((s.modSap n fun x => { x with acts := x.acts ++ [(due, start, at_.isSome)] }).setReg (Reg.sapStatus n) 1).noteCmd
    at_ p due (Reg.sapCmdAt n) start

variable {due code : Nat} (hd : s.actAt p at_ = .ok (due, code))
include hd
theorem sapRequest_joins (hgood : start = false ∨ s.reg (Reg.sapState n) ≠ 0 ∨ s.sapCode p n = none) :
    s.sapRequest p n start at_ = (s.sapJoin p n due start at_).reply code := by
  have hcode : (if start ∧ s.reg (Reg.sapState n) = 0 then s.sapCode p n else none) = none := by
    rcases hgood with hg | hg | hg
    · rw [if_neg (by simp [hg])]
    · rw [if_neg (by simp [hg])]
    · rw [hg, ite_self]
  unfold State.sapRequest
  rw [if_neg (not_not.mpr h), hd]
  dsimp only
  rw [hcode]
  rfl
theorem sapRequest_refused {c : Nat} (hst : s.reg (Reg.sapState n) = 0) (hc : s.sapCode p n = some c) :
    s.sapRequest p n true at_ = (s.setReg (Reg.sapStatus n) c).reply code := by
  unfold State.sapRequest
  rw [if_neg (not_not.mpr h), hd]
  dsimp only
  rw [if_pos ⟨rfl, hst⟩, hc]
omit hd h in
theorem sapJoin_frame : ((s.sapJoin p n due start at_).sap n).acts = (s.sap n).acts ++ [(due, start, at_.isSome)] ∧
    (s.sapJoin p n due start at_).reg (Reg.sapStatus n) = 1 ∧ SameRegs s (s.sapJoin p n due start at_) [Reg.sapStatus n] := by
  unfold State.sapJoin
  have h1 := sap_modSap_same s n fun x => { x with acts := x.acts ++ [(due, start, at_.isSome)] }
  obtain ⟨u, hu⟩ : ∃ u, s.modSap n (fun x => { x with acts := x.acts ++ [(due, start, at_.isSome)] }) = u := ⟨_, rfl⟩
  have hr : u.regs = s.regs := by rw [← hu]; rfl
  rw [hu] at h1 ⊢
  have h2 := sameSaps_noteCmd (u.setReg (Reg.sapStatus n) 1) at_ p due (Reg.sapCmdAt n) start
  refine ⟨?_, (h2.regs _ (by simp)).trans (reg_setReg_same _ _ _), ?_⟩
  · exact congrArg SapSt.acts ((sap_of_saps (h2.view.trans rfl) n).trans h1)
  · exact (sameRegs_of_regs hr _).trans ((SameRegs.setReg (by simp) _).trans (h2.sameRegs.mono (by simp)))
theorem sapJoins (hgood : start = false ∨ s.reg (Reg.sapState n) ≠ 0 ∨ s.sapCode p n = none) :
    Runs (if start then .sapStart p n at_ else .sapStop p n at_) s fun t =>
      (t.sap n).acts = (s.sap n).acts ++ [(due, start, at_.isSome)] ∧ t.reg (Reg.sapStatus n) = 1 ∧ t.answer.status = code ∧
      SameRegs s t [Reg.sapStatus n] ∧ SameMem s t := by
  obtain ⟨h1, h2, h3⟩ := sapJoin_frame (s := s) (p := p) (n := n) (due := due) (start := start) (at_ := at_)
  refine runs_of_exec (by cases start <;> rfl) (exec_sapRequest.trans (congrArg Host.Outcome.next (sapRequest_joins h hd hgood)))
    fun hm => ⟨?_, h2, rfl, h3, hm⟩
  exact (congrArg SapSt.acts (sap_of_saps rfl n)).trans h1
end

/-! What is due at a boundary (R376, R377). -/

section
variable (s : State) (n : Fin 128)

theorem sapPre_frame : (s.sapPre n).reg (Reg.sapState n) = 1 ∧ (s.sapPre n).reg (Reg.sapFrames n) = 0 ∧
    ((s.sapPre n).sap n).left = s.nat (Reg.sapPreroll n) ∧ ((s.sapPre n).sap n).acts = (s.sap n).acts ∧
    SameRegs s (s.sapPre n) [Reg.sapState n, Reg.sapFrames n] := by
  unfold State.sapPre
  extract_lets l
  obtain ⟨u, hu⟩ : ∃ u, s.setRegs [(Reg.sapState n, 1), (Reg.sapFrames n, 0)] = u := ⟨_, rfl⟩
  have hsap : u.sap n = s.sap n := sap_of_saps (hu ▸ setRegs_keeps (g := State.saps) (fun _ _ _ => rfl) s _) n
  have h1 : u.reg (Reg.sapState n) = 1 := hu ▸ (reg_setReg_other _ _ _ _ (by simp)).trans (reg_setReg_same _ _ _)
  have h2 : u.reg (Reg.sapFrames n) = 0 := hu ▸ reg_setReg_same _ _ _
  have hr : SameRegs s u [Reg.sapState n, Reg.sapFrames n] := hu ▸ (Reports.setRegs (by simp)).2
  rw [hu]
  refine ⟨h1, h2, congrArg SapSt.left (sap_modSap_same u n _), ?_, hr.trans (modSap_sameRegs _ _ _ _)⟩
  refine (modSap_acts ?_ u n).trans (congrArg SapSt.acts hsap)
  exact fun _ => rfl

theorem sapRun_frame : (s.sapRun n).reg (Reg.sapState n) = 2 ∧ ((s.sapRun n).sap n).gDir = 1 ∧ ((s.sapRun n).sap n).acts = (s.sap n).acts ∧
    SameRegs s (s.sapRun n) [Reg.sapState n] := by
  unfold State.sapRun
  have h := sap_modSap_same (s.setReg (Reg.sapState n) 2) n fun x => { x with gDir := 1, ready := false }
  refine ⟨reg_setReg_same s (Reg.sapState n) 2, congrArg SapSt.gDir h, ?_,
    SameRegs.trans (t := s.setReg _ _) (SameRegs.setReg (by simp) _) (modSap_sameRegs _ _ _ _)⟩
  refine modSap_acts ?_ (s.setReg (Reg.sapState n) 2) n
  exact fun _ => rfl

theorem sapPost_frame : (s.sapPost n).reg (Reg.sapState n) = 4 ∧ ((s.sapPost n).sap n).left = s.nat (Reg.sapPostroll n) ∧
    ((s.sapPost n).sap n).acts = (s.sap n).acts ∧ SameRegs s (s.sapPost n) [Reg.sapState n] := by
  unfold State.sapPost
  have h := sap_modSap_same (s.setReg (Reg.sapState n) 4) n fun x =>
    { x with left := s.nat (Reg.sapPostroll n), gPos := 0, gDir := 0, ready := false }
  refine ⟨reg_setReg_same s (Reg.sapState n) 4, congrArg SapSt.left h, ?_,
    SameRegs.trans (t := s.setReg _ _) (SameRegs.setReg (by simp) _) (modSap_sameRegs _ _ _ _)⟩
  refine modSap_acts ?_ (s.setReg (Reg.sapState n) 4) n
  exact fun _ => rfl

theorem sapOff_frame : (s.sapOff n).reg (Reg.sapState n) = 0 ∧ ((s.sapOff n).sap n).sdo = [] ∧
    SameRegs s (s.sapOff n) [Reg.sapState n, Reg.sapStatus n] := by
  unfold State.sapOff
  extract_lets s1
  have hsdo : (s1.sap n).sdo = [] := congrArg SapSt.sdo (sap_modSap_same _ n _)
  have h0 : s1.reg (Reg.sapState n) = 0 := reg_setReg_same s (Reg.sapState n) 0
  have hr : SameRegs s s1 [Reg.sapState n, Reg.sapStatus n] :=
    SameRegs.trans (t := s.setReg (Reg.sapState n) 0) (SameRegs.setReg (by simp) _) (modSap_sameRegs _ _ _ _)
  clear_value s1
  split
  · exact ⟨(reg_setReg_other _ _ _ _ (by simp)).trans h0, hsdo, hr.trans (SameRegs.setReg (by simp) _)⟩
  · exact ⟨h0, hsdo, hr⟩

/-- A request is waited for, and all else of the port stands. -/
theorem sap_wait (w : Option Bool) : ((s.modSap n fun x => { x with wait := w }).sap n) = { s.sap n with wait := w } := sap_modSap_same _ _ _

/-- The actions of a port that are not due. -/
def State.sapLater (s : State) (n : Nat) : State :=
  s.modSap n fun x => { x with acts := (s.sap n).acts.filter fun e => !decide (e.1 ≤ s.tick) }
theorem sapLater_frame : (s.sapLater n).sap n = { s.sap n with acts := (s.sap n).acts.filter fun e => !decide (e.1 ≤ s.tick) } ∧
    (s.sapLater n).regs = s.regs := ⟨sap_modSap_same _ _ _, rfl⟩
end

section
variable {s : State} {n : Fin 128} {k : Nat} {v : Bool}

theorem sapCmdApply_none (hd : (s.sap n).acts.filter (fun e => decide (e.1 ≤ s.tick)) = []) : exec (.sapCmdApply n) s = .next s := by
  show execSapCmdApply n s = _
  unfold execSapCmdApply
  dsimp only
  rw [hd]
  rfl
theorem sapCmdApply_start (hd : (s.sap n).acts.filter (fun e => decide (e.1 ≤ s.tick)) = [(k, true, v)]) :
    exec (.sapCmdApply n) s = .next ((s.sapLater n).sapGo n v) := by
  have hall : ([(k, true, v)] : List (Nat × Bool × Bool)).all (fun e => e.2.2) = v := Bool.and_true v
  show execSapCmdApply n s = _
  unfold execSapCmdApply
  dsimp only
  rw [hd, hall]
  rfl
theorem sapCmdApply_stop (hd : (s.sap n).acts.filter (fun e => decide (e.1 ≤ s.tick)) = [(k, false, v)]) :
    exec (.sapCmdApply n) s = .next (if ((s.sapLater n).sapHalt n).2 then ((s.sapLater n).sapHalt n).1 else
      overL [(k, false, v)] (fun u e => u.discard ((s.sapPlot n).getD 16) (sapActReg n e.2.2) e.1) ((s.sapLater n).sapHalt n).1) := by
  show execSapCmdApply n s = _
  unfold execSapCmdApply
  dsimp only
  rw [hd]
  rw [apply_ite Host.Outcome.next]
  rfl
end

/-! The statement's parts. -/

section
variable {s : State} {n : Fin 128} {rest : List (Nat × Bool × Bool)} {k : Nat} {v : Bool}
  (hr : (s.sap n).acts.filter (fun e => !decide (e.1 ≤ s.tick)) = rest)
include hr

theorem sapLater_acts : ((s.sapLater n).sap n).acts = rest := (congrArg SapSt.acts (sapLater_frame s n).1).trans hr

theorem sapStarts (hd : (s.sap n).acts.filter (fun e => decide (e.1 ≤ s.tick)) = [(k, true, v)]) :
    (s.reg (Reg.sapState n) = 0 → v = false ∨ s.sapCode ((s.sapPlot n).getD 16) n = none →
      Runs (.sapCmdApply n) s fun t => t.reg (Reg.sapState n) = 1 ∧ t.reg (Reg.sapFrames n) = 0 ∧
        (t.sap n).left = s.nat (Reg.sapPreroll n) ∧ (t.sap n).acts = rest ∧
        SameRegs s t [Reg.sapState n, Reg.sapFrames n] ∧ SameMem s t) ∧
    (s.reg (Reg.sapState n) = 3 ∨ s.reg (Reg.sapState n) = 4 → Runs (.sapCmdApply n) s fun t =>
      t.reg (Reg.sapState n) = 2 ∧ (t.sap n).gDir = 1 ∧ (t.sap n).acts = rest ∧ SameRegs s t [Reg.sapState n] ∧ SameMem s t) ∧
    (s.reg (Reg.sapState n) = 1 ∨ s.reg (Reg.sapState n) = 2 → Runs (.sapCmdApply n) s fun t =>
      t.reg (Reg.sapStatus n) = 0 ∧ (t.sap n).acts = rest ∧ SameRegs s t [Reg.sapStatus n] ∧ SameMem s t) := by
  have hrun := sapCmdApply_start hd
  have hacts := sapLater_acts hr
  have hcode : ∀ p, (s.sapLater n).sapCode p n = s.sapCode p n := fun _ => rfl
  have hplot : (s.sapLater n).sapPlot n = s.sapPlot n := rfl
  have hregs : (s.sapLater n).regs = s.regs := (sapLater_frame s n).2
  obtain ⟨u, hu⟩ : ∃ u, s.sapLater n = u := ⟨_, rfl⟩
  rw [hu] at hrun hacts hcode hplot hregs
  have hreg : ∀ r, u.reg r = s.reg r := fun r => reg_of_regs hregs r
  refine ⟨fun h0 hgood => ?_, fun hst => ?_, fun hst => ?_⟩
  · have hgo : u.sapGo n v = (u.sapPre n).modSap n fun x => { x with wait := some true } := by
      have hnone : (if v then u.sapCode ((u.sapPlot n).getD 16) n else none) = none := by
        rcases hgood with hg | hg
        · rw [hg]
          rfl
        · rw [hcode, hplot, hg, ite_self]
      unfold State.sapGo
      dsimp only
      rw [if_pos ((hreg _).trans h0), hnone]
    rw [hgo] at hrun
    obtain ⟨h1, h2, h3, h4, h5⟩ := sapPre_frame u n
    have hw := sap_wait (u.sapPre n) n (some true)
    refine runs_of_exec rfl hrun fun hm => ⟨h1, h2, (congrArg SapSt.left hw).trans (h3.trans (congrArg Int.toNat (hreg _))),
      (congrArg SapSt.acts hw).trans (h4.trans hacts), (sameRegs_of_regs hregs _).trans (h5.trans (modSap_sameRegs _ _ _ _)), hm⟩
  · have hgo : ∃ w : State, u.sapGo n v = (w.sapRun n).modSap n (fun x => { x with wait := some true }) ∧ w.regs = u.regs ∧
        (w.sap n).acts = (u.sap n).acts := by
      unfold State.sapGo
      dsimp only
      rcases hst with h | h
      · exact ⟨u, (if_neg (by rw [hreg]; omega)).trans (if_pos ((hreg _).trans h)), rfl, rfl⟩
      · refine ⟨u.modSap n fun x => { x with gPos := 0 }, (if_neg (by rw [hreg]; omega)).trans ((if_neg (by rw [hreg]; omega)).trans
          (if_pos ((hreg _).trans h))), rfl, modSap_acts ?_ u n⟩
        exact fun _ => rfl
    obtain ⟨w, hgo, hwr, hwa⟩ := hgo
    rw [hgo] at hrun
    obtain ⟨h1, h2, h3, h4⟩ := sapRun_frame w n
    have hw := sap_wait (w.sapRun n) n (some true)
    exact runs_of_exec rfl hrun fun hm => ⟨h1, (congrArg SapSt.gDir hw).trans h2, (congrArg SapSt.acts hw).trans (h3.trans (hwa.trans hacts)),
      (sameRegs_of_regs (hwr.trans hregs) _).trans (h4.trans (modSap_sameRegs _ _ _ _)), hm⟩
  · have hgo : u.sapGo n v = u.setReg (Reg.sapStatus n) 0 :=
      (if_neg (by rw [hreg]; omega)).trans ((if_neg (by rw [hreg]; omega)).trans (if_neg (by rw [hreg]; omega)))
    rw [hgo] at hrun
    exact runs_of_exec rfl hrun fun hm => ⟨reg_setReg_same _ _ _, (congrArg SapSt.acts (sap_of_saps rfl n)).trans hacts,
      (sameRegs_of_regs hregs _).trans (SameRegs.setReg (by simp) _), hm⟩

theorem sapStops (hd : (s.sap n).acts.filter (fun e => decide (e.1 ≤ s.tick)) = [(k, false, v)]) :
    (s.reg (Reg.sapState n) = 2 → Runs (.sapCmdApply n) s fun t => t.reg (Reg.sapState n) = 3 ∧ (t.sap n).gDir = 2 ∧
      (t.sap n).acts = rest ∧ SameRegs s t [Reg.sapState n] ∧ SameMem s t) ∧
    (s.reg (Reg.sapState n) = 1 → Runs (.sapCmdApply n) s fun t => t.reg (Reg.sapState n) = 4 ∧
      (t.sap n).left = s.nat (Reg.sapPostroll n) ∧ (t.sap n).acts = rest ∧ SameRegs s t [Reg.sapState n] ∧ SameMem s t) ∧
    (s.reg (Reg.sapState n) ≠ 1 → s.reg (Reg.sapState n) ≠ 2 → Runs (.sapCmdApply n) s fun t =>
      t.reg (Reg.sapStatus n) = 0 ∧ (t.sap n).acts = rest ∧ SameRegs s t [Reg.sapStatus n] ∧ SameMem s t) := by
  have hrun := sapCmdApply_stop hd
  have hacts := sapLater_acts hr
  have hregs : (s.sapLater n).regs = s.regs := (sapLater_frame s n).2
  obtain ⟨u, hu⟩ : ∃ u, s.sapLater n = u := ⟨_, rfl⟩
  rw [hu] at hrun hacts hregs
  have hreg : ∀ r, u.reg r = s.reg r := fun r => reg_of_regs hregs r
  refine ⟨fun hst => ?_, fun hst => ?_, fun h1 h2 => ?_⟩
  · have hhalt : u.sapHalt n = ((((u.setReg (Reg.sapState n) 3).modSap n fun x => { x with gDir := 2 }).modSap n
        fun x => { x with wait := some false }), true) := (if_neg (by rw [hreg]; omega)).trans (if_pos ((hreg _).trans hst))
    rw [hhalt, if_pos rfl] at hrun
    have ha : (((u.setReg (Reg.sapState n) 3).modSap n fun x => { x with gDir := 2 }).sap n).acts = rest := by
      refine (modSap_acts ?_ (u.setReg (Reg.sapState n) 3) n).trans ((congrArg SapSt.acts (sap_of_saps rfl n)).trans hacts)
      exact fun _ => rfl
    have hg : (((u.setReg (Reg.sapState n) 3).modSap n fun x => { x with gDir := 2 }).sap n).gDir = 2 := congrArg SapSt.gDir (sap_modSap_same _ n _)
    have hw := sap_wait ((u.setReg (Reg.sapState n) 3).modSap n fun x => { x with gDir := 2 }) n (some false)
    exact runs_of_exec rfl hrun fun hm => ⟨reg_setReg_same u (Reg.sapState n) 3, (congrArg SapSt.gDir hw).trans hg,
      (congrArg SapSt.acts hw).trans ha, (sameRegs_of_regs hregs _).trans (SameRegs.setReg (s := u) (by simp) _), hm⟩
  · have hhalt : u.sapHalt n = ((u.sapPost n).modSap n fun x => { x with wait := some false }, true) := if_pos ((hreg _).trans hst)
    rw [hhalt, if_pos rfl] at hrun
    obtain ⟨h1, h2, h3, h4⟩ := sapPost_frame u n
    have hw := sap_wait (u.sapPost n) n (some false)
    exact runs_of_exec rfl hrun fun hm => ⟨h1, (congrArg SapSt.left hw).trans (h2.trans (congrArg Int.toNat (hreg _))),
      (congrArg SapSt.acts hw).trans (h3.trans hacts), (sameRegs_of_regs hregs _).trans (h4.trans (modSap_sameRegs _ _ _ _)), hm⟩
  · have hhalt : u.sapHalt n = (u.setReg (Reg.sapStatus n) 0, false) := (if_neg (by rw [hreg]; omega)).trans (if_neg (by rw [hreg]; omega))
    rw [hhalt, if_neg Bool.false_ne_true] at hrun
    have hdrop := sameSaps_discards (u.setReg (Reg.sapStatus n) 0) [(k, false, v)] ((s.sapPlot n).getD 16) n
    exact runs_of_exec rfl hrun fun hm => ⟨(hdrop.regs _ (by simp)).trans (reg_setReg_same _ _ _),
      (congrArg SapSt.acts (sap_of_saps (hdrop.view.trans rfl) n)).trans hacts,
      (sameRegs_of_regs hregs _).trans ((SameRegs.setReg (by simp) _).trans (hdrop.sameRegs.mono (by simp))), hm⟩
end

section
variable {s : State} {n : Fin 128}

theorem sapPrerollEnds (h1 : s.reg (Reg.sapState n) = 1) (hl : (s.sap n).left = 0) :
    (s.cycle = 0 → Runs (.sapPrerollEnd n) s fun t => t.reg (Reg.sapState n) = 2 ∧ (t.sap n).gDir = 1 ∧
      SameRegs s t [Reg.sapState n, Reg.sapStatus n] ∧ SameMem s t) ∧
    (s.cycle ≠ 0 → Runs (.sapPrerollEnd n) s fun t => (t.sap n).ready = true ∧ SameRegs s t [] ∧ SameMem s t) := by
  have hno : ¬(s.reg (Reg.sapState n) ≠ 1 ∨ (s.sap n).left ≠ 0) := by simp [h1, hl]
  refine ⟨fun hc => ?_, fun hc => ?_⟩
  · have hrun : exec (.sapPrerollEnd n) s = .next (if (s.sap n).wait = some true
        then ((s.sapRun n).setReg (Reg.sapStatus n) 0).modSap n (fun x => { x with wait := none }) else s.sapRun n) :=
      (if_neg hno).trans (if_pos hc)
    obtain ⟨hst, hg, -, hregs⟩ := sapRun_frame s n
    refine runs_of_exec rfl hrun fun hm => ?_
    clear hrun
    obtain ⟨u, hu⟩ : ∃ u, s.sapRun n = u := ⟨_, rfl⟩
    rw [hu] at hst hg hregs hm ⊢
    split at hm <;> rename_i hw
    · rw [if_pos hw]
      have hwait := sap_wait (u.setReg (Reg.sapStatus n) 0) n none
      exact ⟨(reg_setReg_other u _ _ _ (by simp)).trans hst, (congrArg SapSt.gDir hwait).trans hg,
        (hregs.mono (by simp)).trans (SameRegs.setReg (s := u) (by simp) _), hm⟩
    · rw [if_neg hw]
      exact ⟨hst, hg, hregs.mono (by simp), hm⟩
  · exact runs_of_exec rfl ((if_neg hno).trans (if_neg hc)) fun hm =>
      ⟨congrArg SapSt.ready (sap_modSap_same s n fun x => { x with ready := true }), modSap_sameRegs _ _ _ _, hm⟩

theorem sapRampdownEnds {k : Nat} (hk : gainPos (s.sap n).gPos (s.sap n).gLen (s.sap n).gDir
      (if s.sapH n then s.cycle * s.sapN n / 192000 else 0) = k) :
    (s.reg (Reg.sapState n) = 3 → k = 0 → Runs (.sapRampdownEnd n) s fun t => t.reg (Reg.sapState n) = 4 ∧
      (t.sap n).left = s.nat (Reg.sapPostroll n) ∧ SameRegs s t [Reg.sapState n] ∧ SameMem s t) ∧
    (s.reg (Reg.sapState n) ≠ 3 ∨ k ≠ 0 → exec (.sapRampdownEnd n) s = .next s) := by
  subst hk
  refine ⟨fun h3 h0 => ?_, fun hno => if_neg fun h => hno.elim (fun hn => hn h.1) fun hn => hn h.2⟩
  obtain ⟨h1, h2, -, h4⟩ := sapPost_frame s n
  exact runs_of_exec rfl (show exec (.sapRampdownEnd n) s = .next (s.sapPost n) from if_pos ⟨h3, h0⟩) fun hm => ⟨h1, h2, h4, hm⟩

/-- A port whose clock is lost. -/
def State.unclocked (s : State) (n : Nat) (x : SapSt) : SapSt :=
  { x with lost := true, recount := 0, lock := 0, left := if s.reg (Reg.sapState n) = 1 then s.nat (Reg.sapPreroll n) else x.left }
/-- A loss of the clock, as a port that is not in POSTROLL reports it. -/
def State.sapLost (s : State) (n : Nat) : State := ((s.modSap n (s.unclocked n)).bump (Reg.sapClkLost n)).sapEvent n 1

theorem sapLost_frame : (s.sapLost n).reg (Reg.sapClkLost n) = bump32 (s.reg (Reg.sapClkLost n)) ∧
    bit ((s.sapLost n).reg (Reg.sapEvents n)) 1 = true ∧ ((s.sapLost n).sap n).lost = true ∧
    SameRegs s (s.sapLost n) [Reg.sapClkLost n, Reg.sapEvents n, Reg.notifyDropped] := by
  unfold State.sapLost
  obtain ⟨u, hu⟩ : ∃ u, s.modSap n (s.unclocked n) = u := ⟨_, rfl⟩
  have hlost : (u.sap n).lost = true := hu ▸ congrArg SapSt.lost (sap_modSap_same s n _)
  have hr : u.regs = s.regs := by rw [← hu]; rfl
  rw [hu]
  have h := sameSaps_sapEvent (u.bump (Reg.sapClkLost n)) n 1
  refine ⟨?_, bit_sapEvent _ _ _, ?_, ?_⟩
  · rw [h.regs _ (by simp), reg_bump_same, reg_of_regs hr]
  · exact (congrArg SapSt.lost (sap_of_saps (h.view.trans rfl) n)).trans hlost
  · exact (sameRegs_of_regs hr _).trans ((SameRegs.setReg (by simp) _).trans (h.sameRegs.mono (by simp)))

theorem sapClockLost_loses {now : Nat} (h0 : s.reg (Reg.sapState n) ≠ 0) (hs : s.sapSlave n = true) (hl : (s.sap n).lost = false)
    (hdue : if s.nat (Reg.sapRateClass n) = 0 then (s.sap n).lastFrame + 125000 ≤ now
      else 4000000000 ≤ (now - (s.sap n).lastFrame) * s.nat (Reg.sapRateClass n)) :
    exec (.sapClockLost n now) s = .next (if s.reg (Reg.sapState n) = 4 then (s.sapLost n).sapOff n
      else if s.reg (Reg.sapState n) = 2 ∨ s.reg (Reg.sapState n) = 3
        then (s.sapLost n).modSap n fun x => { x with conceal := s.tick :: x.conceal } else s.sapLost n) := by
  show execSapClockLost n now s = _
  unfold execSapClockLost
  dsimp only
  refine (if_neg ?_).trans rfl
  rintro (h | h | h | h)
  · exact h0 h
  · simp [hs] at h
  · simp [hl] at h
  · revert h
    split at hdue <;> rename_i hc
    · simp [hc, hdue]
    · simp [hc, hdue]

theorem sapClockLosses {now : Nat} (h0 : s.reg (Reg.sapState n) ≠ 0) (hs : s.sapSlave n = true) (hl : (s.sap n).lost = false)
    (hdue : if s.nat (Reg.sapRateClass n) = 0 then (s.sap n).lastFrame + 125000 ≤ now
      else 4000000000 ≤ (now - (s.sap n).lastFrame) * s.nat (Reg.sapRateClass n)) : Runs (.sapClockLost n now) s fun t =>
    t.reg (Reg.sapClkLost n) = (s.reg (Reg.sapClkLost n) + 1) % 4294967296 ∧ bit (t.reg (Reg.sapEvents n)) 1 = true ∧
    (s.reg (Reg.sapState n) ≠ 4 → (t.sap n).lost = true ∧ t.reg (Reg.sapState n) = s.reg (Reg.sapState n)) ∧
    (s.reg (Reg.sapState n) = 4 → t.reg (Reg.sapState n) = 0) ∧
    SameRegs s t [Reg.sapClkLost n, Reg.sapEvents n, Reg.notifyDropped, Reg.sapState n, Reg.sapStatus n] ∧ SameMem s t := by
  have hrun := sapClockLost_loses h0 hs hl hdue
  obtain ⟨hc, he, hlost, hregs⟩ := sapLost_frame (s := s) (n := n)
  obtain ⟨u, hu⟩ : ∃ u, s.sapLost n = u := ⟨_, rfl⟩
  rw [hu] at hrun hc he hlost hregs
  have hst : u.reg (Reg.sapState n) = s.reg (Reg.sapState n) := hregs _ (by simp)
  by_cases h4 : s.reg (Reg.sapState n) = 4
  · rw [if_pos h4] at hrun
    obtain ⟨hoff, -, hoffr⟩ := sapOff_frame u n
    refine runs_of_exec rfl hrun fun hm => ⟨(hoffr _ (by simp)).trans hc, ?_, fun h => absurd h4 h, fun _ => hoff,
      (hregs.mono (by simp)).trans (hoffr.mono (by simp)), hm⟩
    rwa [hoffr _ (by simp)]
  · rw [if_neg h4] at hrun
    by_cases h23 : s.reg (Reg.sapState n) = 2 ∨ s.reg (Reg.sapState n) = 3
    · rw [if_pos h23] at hrun
      refine runs_of_exec rfl hrun fun hm => ⟨hc, he, fun _ => ⟨?_, hst⟩, fun h => absurd h h4, (hregs.mono (by simp)).trans (modSap_sameRegs _ _ _ _), hm⟩
      exact (congrArg SapSt.lost (sap_modSap_same u n fun x => { x with conceal := s.tick :: x.conceal })).trans hlost
    · rw [if_neg h23] at hrun
      exact runs_of_exec rfl hrun fun hm => ⟨hc, he, fun _ => ⟨hlost, hst⟩, fun h => absurd h h4, hregs.mono (by simp), hm⟩

end

/-- Settles O34: requests join or are refused by the port's check; each move of a port's state has its condition. -/
theorem serialPortCommands : Obligations.SerialPortCommands := by
  unfold Obligations.SerialPortCommands
  intro p n s
  have hforeign : ∀ at_ (start : Bool), s.sapPlot n ≠ some p.val → Answers (if start then .sapStart p n at_ else .sapStop p n at_) s 0x11 :=
    fun at_ start h => exec_sapRequest.trans (congrArg Host.Outcome.next (sapRequest_foreign h))
  have herror : ∀ at_ (start : Bool) c, s.sapPlot n = some p.val → s.actAt p at_ = .error c →
      Answers (if start then .sapStart p n at_ else .sapStop p n at_) s c :=
    fun at_ start c h hc => exec_sapRequest.trans (congrArg Host.Outcome.next (sapRequest_error h hc))
  refine ⟨fun at_ h => ⟨hforeign at_ true h, hforeign at_ false h⟩, fun at_ c h hc => ⟨herror at_ true c h hc, herror at_ false c h hc⟩,
    fun at_ due code h hd => ⟨fun hg => sapJoins (start := true) h hd (.inr hg), fun c h0 hc => ?_, sapJoins (start := false) h hd (.inl rfl)⟩,
    ?_, sapPrerollEnds, fun h => if_pos h, fun k hk => sapRampdownEnds hk, fun h4 hl => ?_, fun h => if_neg fun hc => h.elim (fun hn => hn hc.1) fun hn => hn hc.2,
    fun now h0 hs hl hdue => sapClockLosses h0 hs hl hdue, fun now h => ?_, fun mute h => ?_, fun m h => ?_, fun m mute h => ⟨if_pos h, if_pos h⟩⟩
  · exact runs_of_exec rfl ((exec_sapRequest (start := true)).trans (congrArg Host.Outcome.next (sapRequest_refused h hd h0 hc)))
      fun _ => ⟨reg_setReg_same _ _ _, SameRegs.setReg (s := s) (by simp) _, rfl⟩
  · rintro due rest hd hr
    exact ⟨fun k v hdue => sapStarts hr (hd.trans hdue), fun k v hdue => sapStops hr (hd.trans hdue), fun hdue => sapCmdApply_none (hd.trans hdue)⟩
  · obtain ⟨h1, h2, h3⟩ := sapOff_frame s n
    exact runs_of_exec rfl (show exec (.sapPostrollEnd n) s = .next (s.sapOff n) from if_pos ⟨h4, hl⟩) fun hm => ⟨h1, h2, h3, hm⟩
  · refine if_pos ?_
    rcases h with h | h | h
    · exact .inl h
    · exact .inr (.inl (by simp [h]))
    · exact .inr (.inr (.inl h))
  · obtain ⟨t, ht, hdue, hans, hregs, -, -, hmem⟩ := dueWrite_accepts (i := .sapMute p n mute) (s := s) (r := Reg.sapMute n)
      (v := if mute then 1 else 0) (if_neg (not_not.mpr h))
    exact ⟨t, ht, hdue, hans, hregs, hmem⟩
  · exact runs_of_exec rfl (if_neg (not_not.mpr h)) fun _ => ⟨reg_status_same _ _ _, status_sameRegs _ _ _ (by simp), rfl⟩

end Sys2Proof.Machine
end

section
/-!
PROOFS. Serial frames and the hold of non-audio (12, R361; 13, R369 to R384).
-/
namespace Sys2Proof.Machine

/-! The time and count of a port's frames. -/

/-- Time and count of the latest frames of a port. -/
@[reducible] def State.stamped (n : Nat) (s : State) : Nat × Nat := ((s.sap n).lastFrame, (s.sap n).count)
/-- What a port has stored by sample. -/
@[reducible] def State.stored (n : Nat) (s : State) : (Nat × Nat) × NTable (List Int) := (s.stamped n, (s.sap n).frames)

section
variable {n : Nat} {P : Reg → Prop} {s t : State}

/-- A state that follows from another with a port's times, counts and samples as before. -/
@[reducible] def SameStored (n : Nat) (P : Reg → Prop) (s t : State) : Prop := Only (State.stored n) P s t

theorem SameStored.of_saps (h : Only State.saps P s t) : SameStored n P s t :=
  ⟨congrArg (fun x : SapSt => ((x.lastFrame, x.count), x.frames)) (sap_of_saps h.view n), h.regs⟩
theorem SameStored.stamped (h : SameStored n P s t) : Only (State.stamped n) P s t := ⟨congrArg Prod.fst h.view, h.regs⟩

theorem sap_modSap_other (s : State) {n m : Nat} (h : n ≠ m) (f : SapSt → SapSt) : (s.modSap m f).sap n = s.sap n :=
  NTable.get_mod_other _ _ _ _ _ h
/-- A change of any port that leaves its samples. -/
theorem SameStored.modSap (s : State) (m : Nat) {f : SapSt → SapSt}
    (hf : ∀ x, ((f x).lastFrame, (f x).count) = (x.lastFrame, x.count) ∧ (f x).frames = x.frames) : SameStored n P s (s.modSap m f) := by
  refine ⟨?_, fun _ _ => rfl⟩
  unfold State.stored State.stamped
  by_cases h : n = m
  · obtain ⟨h1, h2⟩ := hf (s.sap n)
    rw [← h, sap_modSap_same, h1, h2]
  · rw [sap_modSap_other s h]
/-- A change of any port that leaves its times and counts. -/
theorem stamped_modSap (s : State) (m : Nat) {f : SapSt → SapSt}
    (hf : ∀ x, ((f x).lastFrame, (f x).count) = (x.lastFrame, x.count)) : Only (State.stamped n) P s (s.modSap m f) := by
  refine ⟨?_, fun _ _ => rfl⟩
  unfold State.stamped
  by_cases h : n = m
  · rw [← h, sap_modSap_same, hf]
  · rw [sap_modSap_other s h]
theorem SameStored.setReg {r : Reg} (hr : P r) (v : Int) : SameStored n P s (s.setReg r v) := Only.setReg hr v rfl
theorem sapEvent_stored {m : Nat} (he : P (Reg.sapEvents m)) (hd : P Reg.notifyDropped) (b : Nat) : SameStored n P s (s.sapEvent m b) :=
  SameStored.of_saps ((sameSaps_sapEvent s m b).mono fun r hr => by
    rcases List.mem_pair.mp hr with h | h
    · exact h ▸ he
    · exact h ▸ hd)
end

/-! The steps of a frame (R369 to R384). -/

section
variable {n m : Nat} {P : Reg → Prop} {s : State}

theorem sapBack_stored (he : P (Reg.sapEvents m)) (hd : P Reg.notifyDropped) : SameStored n P s (s.sapBack m) := by
  unfold State.sapBack
  refine .trans (SameStored.modSap s m ?_) (sapEvent_stored he hd 2)
  exact fun _ => ⟨rfl, rfl⟩

theorem sapStep_stored {idx : Nat} {inWin : Bool}
    (hP : inWin = false → P (Reg.sapSlip m) ∧ P (Reg.sapEvents m) ∧ P Reg.notifyDropped) : SameStored n P s (s.sapStep m idx inWin) := by
  unfold State.sapStep
  extract_lets b x s1 st pre
  have h1 : SameStored n P s s1 := by
    refine .of_ite (fun hw => ?_) fun _ => .of_ite (fun _ => ?_) fun _ => .refl s
    · obtain ⟨hs, he, hd⟩ := hP (by simpa using hw)
      refine .trans (.trans (SameStored.modSap s m ?_) (SameStored.setReg hs _)) (sapEvent_stored he hd 3)
      exact fun _ => ⟨rfl, rfl⟩
    · refine SameStored.modSap s m ?_
      exact fun _ => ⟨rfl, rfl⟩
  refine .of_ite (fun _ => h1.trans ?_) fun _ => .of_ite (fun _ => h1.trans ?_) fun _ => .of_ite (fun _ => .of_ite (fun _ => h1.trans ?_)
    fun _ => h1.trans ?_) fun _ => h1
  · refine SameStored.modSap s1 m ?_
    exact fun _ => ⟨rfl, rfl⟩
  · refine SameStored.modSap s1 m ?_
    exact fun _ => ⟨rfl, rfl⟩
  · refine SameStored.modSap s1 m ?_
    exact fun _ => ⟨rfl, rfl⟩
  · refine SameStored.modSap s1 m ?_
    exact fun _ => ⟨rfl, rfl⟩

theorem sapKeepStamp_stored (idx stamp : Nat) : SameStored n P s (s.sapKeepStamp m idx stamp) := by
  unfold State.sapKeepStamp
  extract_lets b
  refine .of_ite (fun _ => .of_ite (fun _ => SameStored.modSap s m ?_) fun _ => .refl s) fun _ => .of_ite (fun _ => SameStored.modSap s m ?_) fun _ => .refl s
  · exact fun _ => ⟨rfl, rfl⟩
  · exact fun _ => ⟨rfl, rfl⟩

theorem sapCs_stored (hc : P (Reg.sapCsErr m)) (he : P (Reg.sapEvents m)) (hd : P Reg.notifyDropped) (idx : Nat) (a : AesFrame) :
    SameStored n P s (s.sapCs m idx a) := by
  unfold State.sapCs
  extract_lets x s0
  have h0 : SameStored n P s s0 := by
    refine SameStored.modSap s m ?_
    exact fun _ => ⟨rfl, rfl⟩
  refine .of_ite (fun _ => SameStored.modSap s m ?_) fun _ => ?_
  · exact fun _ => ⟨rfl, rfl⟩
  split
  · refine .of_ite (fun _ => h0) fun _ => ?_
    extract_lets bytes s1
    have h1 : SameStored n P s s1 := by
      refine h0.trans (.of_ite (fun _ => SameStored.modSap s0 m ?_) fun _ => .refl s0)
      exact fun _ => ⟨rfl, rfl⟩
    refine .of_ite (fun _ => h1.trans (SameStored.setReg hc _)) fun _ => .of_ite (fun _ => h1) fun _ => h1.trans ?_
    exact .trans (t := s1.setBlob _ _) (.of_regs rfl rfl) (sapEvent_stored he hd 7)
  · exact h0

theorem sapAesWords_stored (hc : P (Reg.sapAesErr m)) (he : P (Reg.sapEvents m)) (hd : P Reg.notifyDropped) (w : List Int) (a : AesFrame) :
    SameStored n P s (s.sapAesWords m w a).1 := by
  unfold State.sapAesWords
  dsimp only
  refine .trans (.trans (SameStored.modSap s m ?_) (SameStored.setReg hc _)) (.when _ (sapEvent_stored he hd 5))
  exact fun _ => ⟨rfl, rfl⟩

theorem sendCell_saps (s : State) (c : Cell) : (s.sendCell c).saps = s.saps ∧ (s.sendCell c).regs = s.regs := by
  unfold State.sendCell
  split
  · exact ⟨rfl, rfl⟩
  · split <;> exact ⟨rfl, rfl⟩
theorem forwardInput_stored (item : Nat) (x : Lfwd) : SameStored n P s (s.forwardInput item x) := by
  unfold State.forwardInput
  obtain ⟨h1, h2⟩ := sendCell_saps s (.lfwd x)
  exact .when _ (SameStored.of_saps (.of_regs h1 h2))

theorem takeFar_stored (x : SigId) (hz i k : Nat) (ats : List Nat) : SameStored n P s (s.takeFar x hz i k ats).1 := by
  have hcarry : ∀ (u : State) y (l : List (Nat × Int)), SameStored n P u (overL l (fun s e => s.carry y e.1 e.2) u) := fun u y l => by
    refine .of_overL _ (fun u e _ => ?_) u
    exact .of_regs rfl rfl
  have hmoved : ∀ (u : State) k, SameStored n P u (u.sinkMoved x k) := fun u k => by
    unfold State.sinkMoved
    exact .of_ite (fun _ => .refl u) fun _ => .of_regs rfl rfl
  unfold State.takeFar
  split
  · exact .refl s
  · extract_lets b s1
    have h1 : SameStored n P s s1 := by
      show SameStored n P s (match (s.routeOf _ x).bind s.feeder with | some y => _ | none => s)
      split
      · exact hcarry _ _ _
      · exact .refl s
    exact h1.trans ((hcarry s1 x _).trans (hmoved _ _))
theorem sapTake_stored (time : Nat) (x : SigId) : SameStored n P s (s.sapTake m time x).1 := takeFar_stored _ _ _ _ _

/-- The samples that a port's frame takes from its sinks. -/
theorem sapTakes_stored (time : Nat) (sinks : List (Nat × Nat)) (a : State × List Int) : SameStored n P a.1 (sinks.foldl (fun (a : State × List Int) e =>
    let r := a.1.sapTake m time (sigOf 1 (32 * e.1 + e.2))
    (r.1, a.2 ++ [r.2])) a).1 := by
  induction sinks generalizing a with
  | nil => exact .refl a.1
  | cons e l ih =>
    have h := sapTake_stored (n := n) (P := P) (s := a.1) (m := m) time (sigOf 1 (32 * e.1 + e.2))
    exact h.trans (ih ((a.1.sapTake m time (sigOf 1 (32 * e.1 + e.2))).1, a.2 ++ [(a.1.sapTake m time (sigOf 1 (32 * e.1 + e.2))).2]))

theorem sapSend_stored (hs : P (Reg.sapSat m)) (he : P (Reg.sapEvents m)) (hd : P Reg.notifyDropped) (idx time : Nat) :
    SameStored n P s (s.sapSend m idx time) := by
  have hrest : ∀ (u : State) (f : SapSt → SapSt) k c, (∀ x, ((f x).lastFrame, (f x).count) = (x.lastFrame, x.count) ∧ (f x).frames = x.frames) →
      SameStored n P u (((u.modSap m f).bumpBy (Reg.sapSat m) k).when c fun s => s.sapEvent m 4) := fun u f k c hf =>
    .trans (.trans (SameStored.modSap u m hf) (SameStored.setReg hs _)) (Only.when c (sapEvent_stored he hd 4))
  unfold State.sapSend
  dsimp only
  split
  · refine hrest s _ _ _ ?_
    exact fun _ => ⟨rfl, rfl⟩
  · refine .trans (sapTakes_stored (m := m) time _ (s, [])) (hrest _ _ _ _ ?_)
    exact fun _ => ⟨rfl, rfl⟩

/-! The steps that store samples. -/

theorem sapStore_stamped (sample : Nat) (w : List Int) : Only (State.stamped n) P s (s.sapStore m sample w) := by
  unfold State.sapStore
  extract_lets slots scale
  refine .of_overL _ (fun s e _ => .of_ite (fun _ => .refl s) fun _ => stamped_modSap s e.1 ?_) s
  exact fun _ => rfl

/-- A port's words stored, left-justified, under a sample. -/
def State.storeWords (scale : Int) (slots sample : Nat) (w : List Int) (x : SapSt) : SapSt :=
  { x with frames := NTable.put [] x.frames sample ((List.range slots).map fun k => w.getD k 0 * scale) }
theorem sapStore_own {m : Fin 128} {v : State} (hv : SameRegs s v [Reg.sapFrames m, Reg.sapSat m, Reg.sapEvents m, Reg.notifyDropped])
    (hsplit : s.sapSplit m = false) (hpin : s.ownPin m = true) {sample : Nat} {w : List Int} :
    v.sapStore m sample w = v.modSap m (State.storeWords (2 ^ (32 - s.nat (Reg.sapDataBits m))) (s.nat (Reg.sapSlots m)) sample w) := by
  have hports : v.sapInPorts m = [m.val] := by
    unfold State.sapInPorts State.sapSplit
    rw [hv _ (by simp)]
    exact if_neg (by simpa [State.sapSplit] using hsplit)
  have hpin' : v.ownPin m = true := by
    unfold State.ownPin State.paired
    rw [hv _ (by simp), hv _ (by simp), hv _ (by simp)]
    exact hpin
  have hslots : v.nat (Reg.sapSlots m) = s.nat (Reg.sapSlots m) := congrArg Int.toNat (hv _ (by simp; omega))
  have hbits : v.nat (Reg.sapDataBits m) = s.nat (Reg.sapDataBits m) := congrArg Int.toNat (hv _ (by simp))
  unfold State.sapStore State.sapSlotsOf
  dsimp only
  rw [hports, hslots, hbits]
  show (if !v.ownPin m then v else _) = _
  rw [hpin', if_neg (by simp)]
  simp only [Nat.zero_mul, Nat.zero_add]
  rfl

theorem sapPairsNow_stored {q : Nat} (hs : P (Reg.sapNaState q)) (hv : P (Reg.sapNaEvents q)) (he : P (Reg.sapEvents q))
    (hd : P Reg.notifyDropped) (rows : List (Nat × List Int)) : SameStored n P s (s.sapPairsNow m rows q) := by
  unfold State.sapPairsNow
  extract_lets x mask cs s1
  have h1 : SameStored n P s s1 := by
    refine .of_overN _ (fun s k _ => ?_) s
    dsimp only
    refine .of_ite (fun _ => .trans (.trans (.trans (SameStored.modSap s q ?_) (SameStored.setReg hs _)) (SameStored.setReg hv _)) (sapEvent_stored he hd 6))
      fun _ => SameStored.modSap s q ?_
    · exact fun _ => ⟨rfl, rfl⟩
    · exact fun _ => ⟨rfl, rfl⟩
  refine .of_ite (fun _ => h1.trans (SameStored.modSap s1 q ?_)) fun _ => h1
  exact fun _ => ⟨rfl, rfl⟩

theorem sapFree_stamped {q : Nat} (hs : P (Reg.sapNaState q)) (hv : P (Reg.sapNaEvents q)) (he : P (Reg.sapEvents q))
    (hd : P Reg.notifyDropped) (sample stamp : Nat) : Only (State.stamped n) P s (s.sapFree m q sample stamp) := by
  unfold State.sapFree
  dsimp only
  have h1 : Only (State.stamped n) P s ((s.sapPairsNow m [(sample, NTable.get [] (s.sap q).frames sample)] q).modSap q fun x => { x with frames := [] }) := by
    refine (sapPairsNow_stored hs hv he hd _).stamped.trans (stamped_modSap _ q ?_)
    exact fun _ => rfl
  have h2 : ∀ u : State, ∀ c, Only (State.stamped n) P u (u.when c fun s => s.modSap m fun x => { x with used := x.used ++ [stamp] }) := fun u c => by
    refine .when c (stamped_modSap u m ?_)
    exact fun _ => rfl
  refine .trans (.trans (h1.trans (h2 _ _)) (.of_overN _ (fun s k _ => .of_ite (fun _ => .refl s) fun _ => ?_) _)) (.when _ (stamped_modSap _ q ?_))
  · exact .of_regs rfl rfl
  · exact fun _ => rfl
end

/-! SAP_FRAME (R369 to R374). -/

/-- The sample index of a frame start. -/
def State.frameIdx (s : State) (n time : Nat) : Nat := (2 * time * max 1 (s.sapHz n) + 1000000000) / 2000000000
/-- A frame that does not count. -/
def State.sapIgnores (s : State) (n : Nat) (f : SapFrame) : Prop :=
  s.reg (Reg.sapState n) = 0 ∨ s.sapHz n = 0 ∧ s.reg (Reg.sapDomain n) ≠ 2 ∨
    !(!s.sapAes n || (match f.aes with | some a => a.valid | none => false))
/-- The registers of a port's frames that a port in the house domain moves beside its count. -/
@[reducible] def frameEvents (n : Nat) : List Reg := [Reg.sapFrames n, Reg.sapSat n, Reg.sapEvents n, Reg.notifyDropped]

section
variable {s : State} {n : Fin 128} {f : SapFrame}

theorem sapFrame_ignored (h : s.sapIgnores n f) : ∃ g : SapSt → SapSt,
    exec (.sapFrame n f) s = .next (if s.sapAes n then s.modSap n g else s) ∧ ∀ x, ((g x).lastFrame, (g x).count) = (x.lastFrame, x.count) ∧
      (g x).frames = x.frames := ⟨_, if_pos h, fun _ => ⟨rfl, rfl⟩⟩

/-- The parts of a frame that counts: its count and time, the words before they are stored, and what follows. -/
theorem sapFrame_parts (h : ¬s.sapIgnores n f) : ∃ u v words t, exec (.sapFrame n f) s = .next t ∧
    u.stamped n = (f.time, (s.sap n).count + 1) ∧ u.reg (Reg.sapFrames n) = bump64 (s.reg (Reg.sapFrames n)) ∧
    SameRegs s u [Reg.sapFrames n] ∧
    (∀ P : Reg → Prop, P (Reg.sapEvents n) → P Reg.notifyDropped → (s.sapSlave n = true → P (Reg.sapSlip n)) →
      (s.sapAes n = true → P (Reg.sapCsErr n) ∧ P (Reg.sapAesErr n)) → SameStored n P u v) ∧
    (s.sapAes n = false → words = f.words) ∧
    ∃ w, w = v.when (!s.sapAes n || (match f.aes with | some a => a.valid && decide ((s.sap n).lock ≥ 3) | none => false))
        (fun s' => s'.sapStore n (s.frameIdx n f.time + 1) words) ∧
      Only (State.stamped n) (· ≠ Reg.sapFrames n) w t ∧
      (s.sapH n = true → ∀ P : Reg → Prop, P (Reg.sapSat n) → P (Reg.sapEvents n) → P Reg.notifyDropped → SameStored n P w t) := by
  show ∃ u v words t, execSapFrame n f s = .next t ∧ _
  unfold execSapFrame
  extract_lets st aes locked valid s0 hz idx off inWin stamp s1 s2 s3 s4
  rw [if_neg (show ¬(st = 0 ∨ s.sapHz n = 0 ∧ s.reg (Reg.sapDomain n) ≠ 2 ∨ (!valid) = true) from h)]
  have h0 : SameStored n (fun _ => False) s s0 := by
    refine .of_ite (fun _ => SameStored.modSap s n ?_) fun _ => .refl s
    exact fun _ => ⟨rfl, rfl⟩
  have h1 : s1.stamped n = (f.time, (s.sap n).count + 1) := by
    have hs := sap_modSap_same s0 n fun x => { x with
      lastFrame := f.time, roundFrames := x.roundFrames + 1, roundSum := x.roundSum + off, count := x.count + 1, lastStamp := stamp }
    have hcount : (s0.sap n).count = (s.sap n).count := congrArg (fun x => x.1.2) h0.view
    refine Prod.ext (congrArg SapSt.lastFrame hs) ((congrArg SapSt.count hs).trans ?_)
    show (s0.sap n).count + 1 = _
    rw [hcount]
  have hr1 : s1.regs = s0.regs := rfl
  have h3 : ∀ P : Reg → Prop, P (Reg.sapEvents n) → P Reg.notifyDropped → (s.sapSlave n = true → P (Reg.sapSlip n)) →
      SameStored n P (s1.setReg (Reg.sapFrames n) (bump64 (s.reg (Reg.sapFrames n)))) s3 := fun P he hd hs => by
    refine .trans (.trans (.when _ (sapBack_stored he hd)) (sapStep_stored fun hw => ⟨hs ?_, he, hd⟩)) (sapKeepStamp_stored _ _)
    simp only [inWin, Bool.or_eq_false_iff] at hw
    simpa using hw.1.1
  have h4 : ∀ P : Reg → Prop, P (Reg.sapEvents n) → P Reg.notifyDropped → (s.sapAes n = true → P (Reg.sapCsErr n) ∧ P (Reg.sapAesErr n)) →
      SameStored n P s3 s4 := fun P he hd hc => by
    show SameStored n P s3 (match f.aes with | some a => if aes then s3.sapCs n idx a else s3 | none => s3)
    split
    · exact .of_ite (fun ha => sapCs_stored (hc ha).1 he hd idx _) fun _ => .refl s3
    · exact .refl s3
  have hcount : ∀ r, (s1.setReg (Reg.sapFrames n) (bump64 (s.reg (Reg.sapFrames n)))).stamped r = s1.stamped r := fun _ => rfl
  have hregs : SameRegs s (s1.setReg (Reg.sapFrames n) (bump64 (s.reg (Reg.sapFrames n)))) [Reg.sapFrames n] := fun r hr =>
    (reg_setReg_other _ _ _ _ (by simpa using hr)).trans ((reg_of_regs hr1 r).trans (h0.regs r not_false))
  clear_value s4 s3 s2 s1
  split
  next s5 words heq =>
  have h5 : (s.sapAes n = false → words = f.words) ∧ ∀ P : Reg → Prop, P (Reg.sapEvents n) → P Reg.notifyDropped →
      (s.sapAes n = true → P (Reg.sapCsErr n) ∧ P (Reg.sapAesErr n)) → SameStored n P s4 s5 := by
    split at heq
    · split at heq <;> rename_i ha
      · have he1 := congrArg Prod.fst heq
        dsimp only at he1
        refine ⟨fun hno => absurd ha (by show ¬s.sapAes n = true; simp [hno]), fun P he hd hc => ?_⟩
        rw [← he1]
        exact sapAesWords_stored (hc ha).2 he hd _ _
      · injection heq with e1 e2
        subst e1 e2
        exact ⟨fun _ => rfl, fun P _ _ _ => .refl s4⟩
    · injection heq with e1 e2
      subst e1 e2
      exact ⟨fun _ => rfl, fun P _ _ _ => .refl s4⟩
  extract_lets w6 w7 w8 w9
  have h7 : ∀ P : Reg → Prop, SameStored n P w6 w7 := fun P => by
    refine .of_overL _ (fun s e _ => ?_) w6
    exact forwardInput_stored _ _
  have h8 : s.sapH n = true → w8 = w7 := fun hh => by
    show w7.when (!s.sapH n) _ = w7
    rw [hh]
    rfl
  have h8' : Only (State.stamped n) (· ≠ Reg.sapFrames n) w7 w8 := by
    refine .when _ (.of_overL _ (fun s q _ => ?_) w7)
    exact sapFree_stamped (by simp) (by simp) (by simp) (by simp) _ _
  have h9 : ∀ P : Reg → Prop, P (Reg.sapSat n) → P (Reg.sapEvents n) → P Reg.notifyDropped → SameStored n P w8
      (if s.sapH n then w9 else w9.modSap n fun x => x.moveOn (s.reg (Reg.sapMute n) == 1) 1) := fun P hs he hd => by
    refine .of_ite (fun _ => sapSend_stored hs he hd _ _) fun _ => .trans (sapSend_stored hs he hd _ _) (SameStored.modSap w9 n ?_)
    exact fun _ => ⟨rfl, rfl⟩
  refine ⟨s1.setReg (Reg.sapFrames n) (bump64 (s.reg (Reg.sapFrames n))), s5, words, _, rfl, (hcount n).trans h1, reg_setReg_same _ _ _, hregs,
    fun P he hd hs hc => (h3 P he hd hs).trans ((h4 P he hd hc).trans (h5.2 P he hd hc)), h5.1, w6, rfl, ?_, fun hh P hs he hd => ?_⟩
  · exact (h7 _).stamped.trans (h8'.trans (h9 _ (by simp) (by simp) (by simp)).stamped)
  · have h := h9 P hs he hd
    rw [h8 hh] at h
    exact (h7 P).trans h

end

/-! The statement's parts. -/

section
variable {s : State} {n : Fin 128} {f : SapFrame}

theorem sapFrame_off (h : s.reg (Reg.sapState n) = 0) : Runs (.sapFrame n f) s fun t => SameRegs s t [] ∧
    (t.sap n).count = (s.sap n).count ∧ (t.sap n).frames = (s.sap n).frames ∧ SameMem s t ∧ (s.sapAes n = false → t = s) := by
  obtain ⟨g, hrun, hg⟩ := sapFrame_ignored (s := s) (n := n) (f := f) (.inl h)
  have hs : SameStored n (fun _ => False) s (if s.sapAes n then s.modSap n g else s) :=
    .of_ite (fun _ => SameStored.modSap s n hg) fun _ => .refl s
  refine runs_of_exec rfl hrun fun hm => ⟨fun r _ => hs.regs r not_false, congrArg (fun x => x.1.2) hs.view, congrArg Prod.snd hs.view, hm,
    fun ha => by rw [ha]; rfl⟩

theorem sapFrame_counts (h0 : s.reg (Reg.sapState n) ≠ 0) (hz : s.sapHz n ≠ 0 ∨ s.reg (Reg.sapDomain n) = 2)
    (ha : s.sapAes n = true → ∃ a, f.aes = some a ∧ a.valid = true) : Runs (.sapFrame n f) s fun t =>
    t.reg (Reg.sapFrames n) = (s.reg (Reg.sapFrames n) + 1) % 18446744073709551616 ∧
    (t.sap n).lastFrame = f.time ∧ (t.sap n).count = (s.sap n).count + 1 ∧ SameMem s t := by
  have hno : ¬s.sapIgnores n f := by
    rintro (h | h | h)
    · exact h0 h
    · exact hz.elim (fun hn => hn h.1) fun hn => h.2 hn
    · cases haes : s.sapAes n with
      | false => simp [haes] at h
      | true =>
        obtain ⟨a, hf, hv⟩ := ha haes
        simp [haes, hf, hv] at h
  obtain ⟨u, v, words, t, hrun, hu, hcount, -, huv, -, w, hw, hwt, -⟩ := sapFrame_parts hno
  have hvw : Only (State.stamped n) (· ≠ Reg.sapFrames n) v w := hw ▸ .when _ (sapStore_stamped _ _)
  have hut := ((huv _ (by simp) (by simp) (by simp) (by simp)).stamped.trans hvw).trans hwt
  refine runs_of_exec rfl hrun fun hm => ⟨(hut.regs _ (by simp)).trans hcount, ?_, ?_, hm⟩
  · exact congrArg Prod.fst (hut.view.trans hu)
  · exact congrArg Prod.snd (hut.view.trans hu)

theorem sapFrame_stores (ha : s.sapAes n = false) (h0 : s.reg (Reg.sapState n) ≠ 0) (hd : s.reg (Reg.sapDomain n) = 0)
    (hslave : s.sapSlave n = false) (hz : s.sapHz n ≠ 0) (hsplit : s.sapSplit n = false) (hpin : s.ownPin n = true) :
    Runs (.sapFrame n f) s fun t =>
      NTable.get [] (t.sap n).frames ((2 * f.time * s.sapHz n + 1000000000) / 2000000000 + 1) =
        (List.range (s.nat (Reg.sapSlots n))).map (fun k => f.words.getD k 0 * 2 ^ (32 - s.nat (Reg.sapDataBits n))) ∧
      SameRegs s t [Reg.sapFrames n, Reg.sapSat n, Reg.sapEvents n, Reg.notifyDropped] ∧ SameMem s t := by
  have hno : ¬s.sapIgnores n f := by
    rintro (h | h | h)
    · exact h0 h
    · exact hz h.1
    · simp [ha] at h
  obtain ⟨u, v, words, t, hrun, -, -, hsu, huv, hwords, w, hw, -, hwt⟩ := sapFrame_parts hno
  have huv' := huv (· ∈ frameEvents n) (by simp) (by simp) (fun h => absurd h (by simp [hslave])) fun h => absurd h (by simp [ha])
  have hwt' := hwt (decide_eq_true hd) (· ∈ frameEvents n) (by simp) (by simp) (by simp)
  have hv : SameRegs s v (frameEvents n) := (hsu.mono (by simp)).trans huv'.sameRegs
  have hstore : w = v.modSap n (State.storeWords (2 ^ (32 - s.nat (Reg.sapDataBits n))) (s.nat (Reg.sapSlots n)) (s.frameIdx n f.time + 1) f.words) := by
    rw [hw, ha, hwords ha]
    exact sapStore_own hv hsplit hpin
  have hidx : s.frameIdx n f.time = (2 * f.time * s.sapHz n + 1000000000) / 2000000000 := by
    unfold State.frameIdx
    rw [max_eq_right (Nat.one_le_iff_ne_zero.mpr hz)]
  refine runs_of_exec rfl hrun fun hm => ⟨?_, ?_, hm⟩
  · have hframes : (t.sap n).frames = (w.sap n).frames := congrArg Prod.snd hwt'.view
    rw [hframes, hstore, sap_modSap_same, ← hidx]
    exact NTable.get_put_same _ _ _ _
  · refine hv.trans (SameRegs.trans (t := w) ?_ hwt'.sameRegs)
    rw [hstore]
    exact modSap_sameRegs _ _ _ _
end

/-! The hold of non-audio (12, R361). -/

section
variable {s : State} {n k fired : Nat}

/-- A pair whose hold is over. -/
def releasePair (k : Nat) (p : NTable PairNa) : NTable PairNa := NTable.mod {} p k fun y => { y with fired := none, rampUp := true }

theorem naExpireRx_release (hf : (NTable.get {} (s.rx n).pairs k : PairNa).fired = some fired) (hb : bit (s.reg (Reg.rxNaState n)) k = true)
    (ht : fired + 8000 ≤ s.tick) : s.naExpireRx n k =
      (s.setReg (Reg.rxNaState n) (clearBit (s.reg (Reg.rxNaState n)) k)).modRx n fun x => { x with pairs := releasePair k x.pairs } := by
  unfold State.naExpireRx
  rw [hf]
  exact if_pos ⟨hb, ht⟩
theorem naExpireRx_early (hf : (NTable.get {} (s.rx n).pairs k : PairNa).fired = some fired) (ht : s.tick < fired + 8000) :
    s.naExpireRx n k = s := by
  unfold State.naExpireRx
  rw [hf]
  exact if_neg fun h => Nat.not_le.mpr ht h.2
theorem naExpireRx_clear (h : (NTable.get {} (s.rx n).pairs k : PairNa).fired = none ∨ bit (s.reg (Reg.rxNaState n)) k = false) :
    s.naExpireRx n k = s := by
  unfold State.naExpireRx
  split
  · next hf => exact if_neg fun hc => h.elim (fun hn => by simp [hn] at hf) fun hn => by simp [hn] at hc
  · rfl
theorem naExpireSap_release (hf : (NTable.get {} (s.sap n).pairs k : PairNa).fired = some fired) (hb : bit (s.reg (Reg.sapNaState n)) k = true)
    (ht : fired + 8000 ≤ s.tick) : s.naExpireSap n k =
      (s.setReg (Reg.sapNaState n) (clearBit (s.reg (Reg.sapNaState n)) k)).modSap n fun x => { x with pairs := releasePair k x.pairs } := by
  unfold State.naExpireSap
  rw [hf]
  exact if_pos ⟨hb, ht⟩
theorem naExpireSap_early (hf : (NTable.get {} (s.sap n).pairs k : PairNa).fired = some fired) (ht : s.tick < fired + 8000) :
    s.naExpireSap n k = s := by
  unfold State.naExpireSap
  rw [hf]
  exact if_neg fun h => Nat.not_le.mpr ht h.2
theorem naExpireSap_clear (h : (NTable.get {} (s.sap n).pairs k : PairNa).fired = none ∨ bit (s.reg (Reg.sapNaState n)) k = false) :
    s.naExpireSap n k = s := by
  unfold State.naExpireSap
  split
  · next hf => exact if_neg fun hc => h.elim (fun hn => by simp [hn] at hf) fun hn => by simp [hn] at hc
  · rfl
end

theorem releasePair_get (k : Nat) (p : NTable PairNa) : (NTable.get {} (releasePair k p) k).fired = none ∧ (NTable.get {} (releasePair k p) k).rampUp = true :=
  ⟨congrArg PairNa.fired (NTable.get_mod_same _ _ _ _), congrArg PairNa.rampUp (NTable.get_mod_same _ _ _ _)⟩

/-- Settles O35: a frame by its parts, a hold by the pair's tick of firing. -/
theorem serialFramesAndNonaudio : Obligations.SerialFramesAndNonaudio := by
  unfold Obligations.SerialFramesAndNonaudio
  intro n f s
  refine ⟨sapFrame_off, sapFrame_counts, sapFrame_stores, fun t k => ⟨fun fired hf => ⟨fun hb ht => ?_, fun ht => ?_⟩, fun h => ?_⟩,
    fun t k => ⟨fun fired hf => ⟨fun hb ht => ?_, fun ht => ?_⟩, fun h => ?_⟩⟩
  · have hrun : exec (.nonaudioHoldExpire false t k) s = .next (s.naExpireRx t k) := rfl
    rw [naExpireRx_release hf hb ht] at hrun
    have hp := congrArg RxSt.pairs (rx_modRx (s.setReg (Reg.rxNaState t) (clearBit (s.reg (Reg.rxNaState t)) k)) t
      fun x => { x with pairs := releasePair k x.pairs })
    obtain ⟨hfired, hramp⟩ := releasePair_get k (s.rx t).pairs
    refine runs_of_exec rfl hrun fun hm => ⟨reg_setReg_same s _ _, ?_, ?_, SameRegs.setReg (s := s) (by simp) _, hm⟩
    · exact (congrArg (fun p => (NTable.get {} p k.val : PairNa).fired) hp).trans hfired
    · exact (congrArg (fun p => (NTable.get {} p k.val : PairNa).rampUp) hp).trans hramp
  · exact congrArg Host.Outcome.next (naExpireRx_early hf ht)
  · exact congrArg Host.Outcome.next (naExpireRx_clear h)
  · have hrun : exec (.nonaudioHoldExpire true t k) s = .next (s.naExpireSap t k) := rfl
    rw [naExpireSap_release hf hb ht] at hrun
    have hp := congrArg SapSt.pairs (sap_modSap_same (s.setReg (Reg.sapNaState t) (clearBit (s.reg (Reg.sapNaState t)) k)) t
      fun x => { x with pairs := releasePair k x.pairs })
    obtain ⟨hfired, hramp⟩ := releasePair_get k (s.sap t).pairs
    refine runs_of_exec rfl hrun fun hm => ⟨reg_setReg_same s _ _, ?_, ?_, SameRegs.setReg (s := s) (by simp) _, hm⟩
    · exact (congrArg (fun p => (NTable.get {} p k.val : PairNa).fired) hp).trans hfired
    · exact (congrArg (fun p => (NTable.get {} p k.val : PairNa).rampUp) hp).trans hramp
  · exact congrArg Host.Outcome.next (naExpireSap_early hf ht)
  · exact congrArg Host.Outcome.next (naExpireSap_clear h)

end Sys2Proof.Machine
end

section
/-!
PROOFS. Power-stage requests (14, R403, R404, R417).
-/
namespace Sys2Proof.Machine

theorem psc_modPsc_same (s : State) (n : Nat) (f : PscSt → PscSt) : (s.modPsc n f).psc n = f (s.psc n) := NTable.get_mod_same _ _ _ _
theorem psc_of_pscs {s u : State} (h : u.pscs = s.pscs) (n : Nat) : u.psc n = s.psc n := congrArg (fun x => NTable.get ({} : PscSt) x n) h

section
variable {s : State} {p : Fin 16} {n : Fin 64} {at_ : Option (Nat × Bool)} {start : Bool}

theorem exec_pscRequest : exec (if start then .pscStart p n at_ else .pscStop p n at_) s = .next (s.pscRequest p n start at_) := by
  cases start <;> rfl
theorem pscRequest_foreign (h : s.pscPlot n ≠ some p.val) : s.pscRequest p n start at_ = s.reply 0x11 := if_pos h

variable (h : s.pscPlot n = some p.val)
include h
theorem pscRequest_second (hl : s.pscLead n ≠ n.val) : s.pscRequest p n start at_ = s.reply 0 :=
  (if_neg (not_not.mpr h)).trans (if_pos hl)
variable (hl : s.pscLead n = n.val)
include hl
theorem pscRequest_error {c : Nat} (hc : s.actAt p at_ = .error c) : s.pscRequest p n start at_ = s.reply c := by
  unfold State.pscRequest
  rw [if_neg (not_not.mpr h), if_neg (not_not.mpr hl), hc]

/-- A request that joins the pending actions. -/
def State.pscJoin (s : State) (p n due : Nat) (start : Bool) (at_ : Option (Nat × Bool)) : State :=
  ((s.modPsc n fun x => { x with acts := x.acts ++ [(due, start, at_.isSome)] }).setReg (Reg.pscStatus n) 1).noteCmd
    at_ p due (Reg.pscCmdAt n) start

variable {due code : Nat} (hd : s.actAt p at_ = .ok (due, code))
include hd
theorem pscRequest_joins (hgood : start = false ∨ s.pscCode p n = none) :
    s.pscRequest p n start at_ = (s.pscJoin p n due start at_).reply code := by
  have hcode : (if start then s.pscCode p n else none) = none := by
    rcases hgood with hg | hg
    · rw [hg]
      rfl
    · rw [hg, ite_self]
  unfold State.pscRequest
  rw [if_neg (not_not.mpr h), if_neg (not_not.mpr hl), hd]
  dsimp only
  rw [hcode]
  rfl
theorem pscRequest_refused {c : Nat} (hc : s.pscCode p n = some c) :
    s.pscRequest p n true at_ = (s.setReg (Reg.pscStatus n) c).reply code := by
  unfold State.pscRequest
  rw [if_neg (not_not.mpr h), if_neg (not_not.mpr hl), hd]
  dsimp only
  rw [if_pos rfl, hc]
omit hd h hl in
theorem pscJoin_frame : ((s.pscJoin p n due start at_).psc n).acts = (s.psc n).acts ++ [(due, start, at_.isSome)] ∧
    (s.pscJoin p n due start at_).reg (Reg.pscStatus n) = 1 ∧ SameRegs s (s.pscJoin p n due start at_) [Reg.pscStatus n] := by
  unfold State.pscJoin
  have h1 := psc_modPsc_same s n fun x => { x with acts := x.acts ++ [(due, start, at_.isSome)] }
  obtain ⟨u, hu⟩ : ∃ u, s.modPsc n (fun x => { x with acts := x.acts ++ [(due, start, at_.isSome)] }) = u := ⟨_, rfl⟩
  have hr : u.regs = s.regs := by rw [← hu]; rfl
  rw [hu] at h1 ⊢
  have h2 : Only State.pscs (· ∈ []) (u.setReg (Reg.pscStatus n) 1) ((u.setReg (Reg.pscStatus n) 1).noteCmd at_ p due (Reg.pscCmdAt n) start) := by
    unfold State.noteCmd
    exact .of_ite (fun _ => .of_regs rfl rfl) fun _ => .refl _
  refine ⟨?_, (h2.regs _ (by simp)).trans (reg_setReg_same _ _ _), ?_⟩
  · exact congrArg PscSt.acts ((psc_of_pscs (h2.view.trans rfl) n).trans h1)
  · exact (sameRegs_of_regs hr _).trans ((SameRegs.setReg (by simp) _).trans (h2.sameRegs.mono (by simp)))
theorem pscJoins (hgood : start = false ∨ s.pscCode p n = none) :
    Runs (if start then .pscStart p n at_ else .pscStop p n at_) s fun t =>
      (t.psc n).acts = (s.psc n).acts ++ [(due, start, at_.isSome)] ∧ t.reg (Reg.pscStatus n) = 1 ∧ t.answer.status = code ∧
      SameRegs s t [Reg.pscStatus n] ∧ SameMem s t := by
  obtain ⟨h1, h2, h3⟩ := pscJoin_frame (s := s) (p := p) (n := n) (due := due) (start := start) (at_ := at_)
  refine runs_of_exec (by cases start <;> rfl) (exec_pscRequest.trans (congrArg Host.Outcome.next (pscRequest_joins h hl hd hgood)))
    fun hm => ⟨?_, h2, rfl, h3, hm⟩
  exact (congrArg PscSt.acts (psc_of_pscs rfl n)).trans h1
end

/-! Loop coefficients (R417). -/

/-- A channel with its coefficient sets exchanged. -/
def PscSt.swapSets (x : PscSt) : PscSt := { x with coefs := x.idle, idle := x.coefs, swapAt := none }

section
variable {s : State} {p : Fin 16} {n : Fin 64} {words : List Int} {k : Nat}

theorem pscLoopCoef_bad (h : s.pscPlot n = some p.val) (hw : words.length ≠ 12 ∨ ∃ w ∈ words, w < -2147483648 ∨ 2147483648 ≤ w) :
    exec (.pscLoopCoef p n words) s = .next (s.reply 0x12) := by
  refine (if_neg (not_not.mpr h)).trans (if_pos (hw.imp id ?_))
  rintro ⟨w, hmem, hbad⟩
  rw [Bool.not_eq_true', List.all_eq_false]
  refine ⟨w, hmem, ?_⟩
  simp only [Bool.and_eq_true, decide_eq_true_eq]
  omega
theorem pscLoopCoef_good (h : s.pscPlot n = some p.val) (hl : words.length = 12) (hw : ∀ w ∈ words, -2147483648 ≤ w ∧ w < 2147483648) :
    exec (.pscLoopCoef p n words) s = .next (if (s.psc n).swapAt.isSome then (s.setReg (Reg.pscStatus n) 0x14).reply 0
      else ((s.setBlob (Reg.pscLoopCoef n) (words.flatMap (leBytesI 4))).modPsc n
        fun x => { x with coefNext := x.coefNext ++ [(s.actTick, words)] }).reply 0) := by
  have hok : (words.all fun w => decide (-2147483648 ≤ w) && decide (w < 2147483648)) = true :=
    List.all_eq_true.mpr fun w hmem => by simpa using hw w hmem
  refine (if_neg (not_not.mpr h)).trans ((if_neg ?_).trans (apply_ite Host.Outcome.next _ _ _).symm)
  simp [hl, hok]
theorem pscLoopSwapAt_busy (h : s.pscPlot n = some p.val) (hk : (s.psc n).swapAt ≠ none) :
    exec (.pscLoopSwapAt p n k) s = .next ((s.setReg (Reg.pscStatus n) 0x14).reply 0) :=
  (if_neg (not_not.mpr h)).trans (if_pos (Option.isSome_iff_ne_none.mpr hk))
theorem pscLoopSwapAt_free (h : s.pscPlot n = some p.val) (hk : (s.psc n).swapAt = none) :
    exec (.pscLoopSwapAt p n k) s = .next (if k ≠ 0 ∧ k < s.actTick then s.reply 0x13
      else (s.modPsc n fun x => { x with swapAt := some (if k = 0 then s.actTick else k) }).reply 0) :=
  (if_neg (not_not.mpr h)).trans ((if_neg (by rw [hk]; exact Bool.false_ne_true)).trans (apply_ite Host.Outcome.next _ _ _).symm)
theorem loopSwapApply_none (hk : (s.psc n).swapAt = none) : exec (.loopSwapApply n) s = .next s := by
  show execLoopSwapApply n s = _
  unfold execLoopSwapApply
  rw [hk]
theorem loopSwapApply_some (hk : (s.psc n).swapAt = some k) : exec (.loopSwapApply n) s = .next (if k ≤ s.tick
    then (s.modPsc n PscSt.swapSets).setReg (Reg.pscLoopActive n) (1 - s.reg (Reg.pscLoopActive n)) else s) := by
  show execLoopSwapApply n s = _
  unfold execLoopSwapApply
  rw [hk, apply_ite Host.Outcome.next]
  rfl
end

/-- Settles O36: requests by holder, lead and check; coefficient sets by the swap that waits. -/
theorem powerStageRequests : Obligations.PowerStageRequests := by
  unfold Obligations.PowerStageRequests
  intro p n s
  have hans : ∀ at_ (start : Bool) c, s.pscRequest p n start at_ = s.reply c →
      Answers (if start then .pscStart p n at_ else .pscStop p n at_) s c :=
    fun at_ start c h => exec_pscRequest.trans (congrArg Host.Outcome.next h)
  have hbusy : ∀ i, exec i s = .next ((s.setReg (Reg.pscStatus n) 0x14).reply 0) → Runs i s fun t => t.reg (Reg.pscStatus n) = 0x14 ∧
      SameRegs s t [Reg.pscStatus n] ∧ t.units = s.units := fun i hi =>
    ⟨_, hi, reg_status_same _ _ _, status_sameRegs _ _ _ (by simp), rfl⟩
  refine ⟨fun h => ⟨fun at_ => ⟨hans at_ true _ (pscRequest_foreign h), hans at_ false _ (pscRequest_foreign h)⟩, if_pos h, fun _ => if_pos h,
      fun _ => if_pos h, fun _ => if_pos h⟩,
    fun at_ h hl => ⟨hans at_ true _ (pscRequest_second h hl), hans at_ false _ (pscRequest_second h hl)⟩,
    fun at_ c h hl hc => ⟨hans at_ true _ (pscRequest_error h hl hc), hans at_ false _ (pscRequest_error h hl hc)⟩,
    fun at_ due code h hl hd => ⟨fun hg => pscJoins (start := true) h hl hd (.inr hg), fun c hc => ?_, pscJoins (start := false) h hl hd (.inl rfl)⟩,
    fun h h6 => ?_, fun h h6 => (if_neg (not_not.mpr h)).trans (if_neg h6), fun m h => ?_,
    fun words h => ⟨fun hlen hw => ⟨fun hk => ?_, fun k hk => ?_⟩, pscLoopCoef_bad h⟩,
    fun k h => ⟨fun hk ht => ?_, fun hk h0 ht => ?_, fun hk => hbusy _ (pscLoopSwapAt_busy h hk)⟩,
    fun k hk => ⟨fun ht => ?_, fun ht => ?_⟩, loopSwapApply_none⟩
  · exact runs_of_exec rfl ((exec_pscRequest (start := true)).trans (congrArg Host.Outcome.next (pscRequest_refused h hl hd hc)))
      fun _ => ⟨reg_setReg_same _ _ _, SameRegs.setReg (s := s) (by simp) _, rfl⟩
  · exact runs_of_exec rfl ((if_neg (not_not.mpr h)).trans (if_pos h6)) fun hm =>
      ⟨congrArg PscSt.clear (psc_modPsc_same s n fun x => { x with clear := true }), rfl, sameRegs_of_regs rfl _, hm⟩
  · exact runs_of_exec rfl (if_neg (not_not.mpr h)) fun _ => ⟨reg_status_same _ _ _, status_sameRegs _ _ _ (by simp), rfl⟩
  · have hrun := pscLoopCoef_good h hlen hw
    rw [hk, if_neg (show ¬((none : Option Nat).isSome = true) from Bool.false_ne_true)] at hrun
    have hx := psc_modPsc_same (s.setBlob (Reg.pscLoopCoef n) (words.flatMap (leBytesI 4))) n
      fun x => { x with coefNext := x.coefNext ++ [(s.actTick, words)] }
    exact runs_of_exec rfl hrun fun hm => ⟨congrArg PscSt.coefNext hx, (congrArg PscSt.coefs hx :), rfl, sameRegs_of_regs rfl _, hm⟩
  · have hrun := pscLoopCoef_good h hlen hw
    rw [hk] at hrun
    exact hbusy _ hrun
  · have hrun := pscLoopSwapAt_free (k := k) h hk
    rw [if_neg (by omega)] at hrun
    exact runs_of_exec rfl hrun fun hm => ⟨congrArg PscSt.swapAt (psc_modPsc_same s n fun x => { x with swapAt := some (if k = 0 then s.actTick else k) }), rfl, sameRegs_of_regs rfl _, hm⟩
  · have hrun := pscLoopSwapAt_free (k := k) h hk
    rw [if_pos ⟨h0, ht⟩] at hrun
    exact hrun
  · have hrun := loopSwapApply_some hk
    rw [if_pos ht] at hrun
    have hx := psc_modPsc_same s n PscSt.swapSets
    exact runs_of_exec rfl hrun fun hm => ⟨(congrArg PscSt.coefs hx :), (congrArg PscSt.idle hx :), (congrArg PscSt.loop hx :), congrArg PscSt.swapAt hx,
      reg_setReg_same _ _ _, SameRegs.setReg (s := s.modPsc n _) (by simp) _, hm⟩
  · have hrun := loopSwapApply_some hk
    rwa [if_neg (Nat.not_le.mpr ht)] at hrun

end Sys2Proof.Machine
end

section
/-!
PROOFS. Power-stage channels at a boundary (14, R402 to R411).
-/
namespace Sys2Proof.Machine

/-! What the boundary reads of a channel that its gains leave alone. -/

/-- The parts of a channel that decide its transitions. -/
structure PscMode where
  trip : Option Nat
  acts : List (Nat × Bool × Bool)
  startB : Nat
  clear : Bool
  again : Option Bool
  cstop : Bool
  wake : Bool
  braced : Bool
  toDorm : Bool
/-- They of a channel. -/
def PscSt.mode (x : PscSt) : PscMode := ⟨x.trip, x.acts, x.startB, x.clear, x.again, x.cstop, x.wake, x.braced, x.toDorm⟩

section
variable {s u : State} {n : Nat}

theorem psc_modPsc_other (s : State) {n m : Nat} (h : n ≠ m) (f : PscSt → PscSt) : (s.modPsc m f).psc n = s.psc n :=
  NTable.get_mod_other _ _ _ _ _ h
/-- The channels of a state, and its tick. -/
@[reducible] def State.stages (s : State) : NTable PscSt × Nat := (s.pscs, s.tick)
/-- A state that follows from another by registers of a set, its channels as before. -/
@[reducible] def SameStages (l : List Reg) (s t : State) : Prop := Only State.stages (· ∈ l) s t
theorem SameStages.psc {l : List Reg} (h : SameStages l s u) (n : Nat) : u.psc n = s.psc n := psc_of_pscs (congrArg Prod.fst h.view) n
theorem SameStages.tick {l : List Reg} (h : SameStages l s u) : u.tick = s.tick := congrArg Prod.snd h.view
theorem SameStages.setReg {r : Reg} {l : List Reg} (h : r ∈ l) (v : Int) : SameStages l s (s.setReg r v) := Only.setReg (P := (· ∈ l)) h v rfl

theorem sameStages_pscEvent (s : State) (n b : Nat) : SameStages [Reg.pscEvents n, Reg.notifyDropped] s (s.pscEvent n b) := by
  unfold State.pscEvent
  refine .of_ite (fun _ => .refl _) fun _ => ?_
  have h1 : SameStages [Reg.pscEvents n, Reg.notifyDropped] s (s.orReg (Reg.pscEvents n) (2 ^ b)) := Only.setReg (by simp) _ rfl
  dsimp only
  split
  · exact .of_ite (fun _ => h1.trans (.of_reports (Reports.notifyPlot (l := [Reg.notifyDropped]) (by simp) _ _ _) (fun _ => rfl) (by simp)))
      fun _ => h1
  · exact h1
theorem bit_pscEvent (s : State) (n b : Nat) : bit ((s.pscEvent n b).reg (Reg.pscEvents n)) b = true := by
  have h1 : bit ((s.orReg (Reg.pscEvents n) (2 ^ b)).reg (Reg.pscEvents n)) b = true := by
    rw [State.orReg, reg_setReg_same]
    exact bit_or_two_pow _ b
  unfold State.pscEvent
  split
  · assumption
  · dsimp only
    split
    · split
      · rwa [(Reports.notifyPlot (l := [Reg.notifyDropped]) (by simp) _ _ _).2 _ (by simp)]
      · exact h1
    · exact h1

/-- A register of a channel written on every leg that the channel governs (R392). -/
theorem legs_setReg (s : State) (n : Nat) (r : Nat → Reg) (hr : r n ≠ r (n + 1)) (v : Int) :
    SameStages [r n, r (n + 1)] s (overL (s.pscLegs n) (fun s m => s.setReg (r m) v) s) ∧
      (overL (s.pscLegs n) (fun s m => s.setReg (r m) v) s).reg (r n) = v := by
  have hset : ∀ (u : State), SameStages [r n, r (n + 1)] u (u.setReg (r n) v) ∧ (u.setReg (r n) v).reg (r n) = v := fun u =>
    ⟨SameStages.setReg (by simp) _, reg_setReg_same _ _ _⟩
  unfold State.pscLegs
  split
  · obtain ⟨h1, h2⟩ := hset s
    exact ⟨.trans h1 (.setReg (by simp) _ rfl), (reg_setReg_other _ _ _ _ hr).trans h2⟩
  · exact hset s
/-- The legs of a channel do not change with registers other than its flags. -/
theorem pscLegs_of_flags (h : u.reg (Reg.pscFlags n) = s.reg (Reg.pscFlags n)) : u.pscLegs n = s.pscLegs n := by
  unfold State.pscLegs State.pscBtl
  rw [h]

theorem pscState_next (n : Nat) : Reg.pscState n ≠ Reg.pscState (n + 1) := by simp
theorem pscFault_next (n : Nat) : Reg.pscFault n ≠ Reg.pscFault (n + 1) := by simp

/-- A channel enters a state. -/
theorem pscSet_frame (s : State) (n : Nat) (st : Int) : (s.pscSet n st).reg (Reg.pscState n) = st ∧
    (s.pscSet n st).psc n = { s.psc n with zClean := false } ∧ (s.pscSet n st).tick = s.tick ∧
    SameRegs s (s.pscSet n st) [Reg.pscState n, Reg.pscState (n + 1)] := by
  obtain ⟨h, hv⟩ := legs_setReg s n Reg.pscState (pscState_next n) st
  unfold State.pscSet
  obtain ⟨w, hw⟩ : ∃ w, overL (s.pscLegs n) (fun s m => s.setReg (Reg.pscState m) st) s = w := ⟨_, rfl⟩
  rw [hw] at h hv ⊢
  refine ⟨hv, (psc_modPsc_same w n _).trans ?_, h.tick, h.sameRegs.trans (sameRegs_of_regs rfl _)⟩
  rw [h.psc]
end

/-! Sequences (R409, R410). -/

section
variable (s : State) (n : Nat)

theorem pscRun_frame : (s.pscRun n).reg (Reg.pscState n) = 3 ∧ ((s.pscRun n).psc n).gsDir = 1 ∧ ((s.pscRun n).psc n).braced = (s.psc n).braced ∧
    SameRegs s (s.pscRun n) [Reg.pscState n, Reg.pscState (n + 1)] ∧ ((s.pscRun n).psc n).acts = (s.psc n).acts := by
  obtain ⟨h1, h2, -, h4⟩ := pscSet_frame s n 3
  have hx := psc_modPsc_same (s.pscSet n 3) n fun x => { x with gsDir := 1, fast := false, toDorm := false }
  rw [h2] at hx
  exact ⟨h1, (congrArg PscSt.gsDir hx :), (congrArg PscSt.braced hx :), h4.trans (sameRegs_of_regs rfl _), (congrArg PscSt.acts hx :)⟩
theorem pscStop_frame : (s.pscStop n false).reg (Reg.pscState n) = 4 ∧ ((s.pscStop n false).psc n).gsDir = 2 ∧
    ((s.pscStop n false).psc n).toDorm = false ∧ ((s.pscStop n false).psc n).braced = (s.psc n).braced ∧
    SameRegs s (s.pscStop n false) [Reg.pscState n, Reg.pscState (n + 1)] := by
  obtain ⟨h1, h2, -, h4⟩ := pscSet_frame s n 4
  have hx := psc_modPsc_same (s.pscSet n 4) n fun x => { x with gsDir := 2, fast := false, toDorm := false }
  rw [h2] at hx
  exact ⟨h1, (congrArg PscSt.gsDir hx :), (congrArg PscSt.toDorm hx :), (congrArg PscSt.braced hx :), h4.trans (sameRegs_of_regs rfl _)⟩
theorem pscStopCarrier_frame : (s.pscStopCarrier n).reg (Reg.pscState n) = 4 ∧ ((s.pscStopCarrier n).psc n).cstop = true ∧
    ((s.pscStopCarrier n).psc n).braced = (s.psc n).braced ∧ ((s.pscStopCarrier n).psc n).acts = (s.psc n).acts ∧
    SameRegs s (s.pscStopCarrier n) [Reg.pscState n, Reg.pscState (n + 1)] := by
  obtain ⟨h1, h2, -, h4⟩ := pscSet_frame s n 4
  have hx := psc_modPsc_same (s.pscSet n 4) n fun x => { x with cstop := true, gsPos := 0, gsDir := 0 }
  rw [h2] at hx
  exact ⟨h1, (congrArg PscSt.cstop hx :), (congrArg PscSt.braced hx :), (congrArg PscSt.acts hx :), h4.trans (sameRegs_of_regs rfl _)⟩
/-- The gates go low and the channel rests (R410). -/
theorem pscRest_frame (st t : Int) : (s.pscRest n st t).reg (Reg.pscState n) = st ∧ ((s.pscRest n st t).psc n).cstop = false ∧
    ((s.pscRest n st t).psc n).leg0.riseA = none ∧ ((s.pscRest n st t).psc n).braced = (s.psc n).braced ∧
    ((s.pscRest n st t).psc n).acts = (s.psc n).acts ∧ SameRegs s (s.pscRest n st t) [Reg.pscState n, Reg.pscState (n + 1)] := by
  obtain ⟨h1, h2, -, h4⟩ := pscSet_frame s n st
  unfold State.pscRest
  extract_lets dead
  have hx := psc_modPsc_same (s.pscSet n st) n fun x => { x with
    cstop := false, gsPos := 0, gsDir := 0, fast := false, toDorm := false, leg0 := x.leg0.low t dead, leg1 := x.leg1.low t dead }
  rw [h2] at hx
  exact ⟨h1, (congrArg PscSt.cstop hx :), (congrArg (fun x : PscSt => x.leg0.riseA) hx :), (congrArg PscSt.braced hx :),
    (congrArg PscSt.acts hx :), h4.trans (sameRegs_of_regs rfl _)⟩
/-- PRECHARGE begins, with the fault gone (R409). -/
theorem pscBegin_frame (wake : Bool) : (s.pscBegin n wake).reg (Reg.pscState n) = 1 ∧ (s.pscBegin n wake).reg (Reg.pscFault n) = 0 ∧
    ((s.pscBegin n wake).psc n).startB = s.tick ∧ ((s.pscBegin n wake).psc n).acts = (s.psc n).acts ∧
    ((s.pscBegin n wake).psc n).braced = (s.psc n).braced ∧
    SameRegs s (s.pscBegin n wake) [Reg.pscState n, Reg.pscFault n, Reg.pscState (n + 1), Reg.pscFault (n + 1)] := by
  obtain ⟨h1, h2, -, h4⟩ := pscSet_frame s n 1
  have hlegs : s.pscLegs n = (s.pscSet n 1).pscLegs n := (pscLegs_of_flags (h4 _ (by simp))).symm
  obtain ⟨hf, hv⟩ := legs_setReg (s.pscSet n 1) n Reg.pscFault (pscFault_next n) 0
  unfold State.pscBegin
  extract_lets x gb vfs ratio
  rw [hlegs]
  obtain ⟨w, hw⟩ : ∃ w, overL ((s.pscSet n 1).pscLegs n) (fun s m => s.setReg (Reg.pscFault m) 0) (s.pscSet n 1) = w := ⟨_, rfl⟩
  rw [hw] at hf hv ⊢
  have hpsc := (hf.psc n).trans h2
  have hx := psc_modPsc_same w n
  refine ⟨(hf.regs _ (by simp)).trans h1, hv, (congrArg PscSt.startB (hx _) :), ?_, ?_,
    (h4.mono (by simp)).trans ((hf.sameRegs.mono (by simp)).trans (sameRegs_of_regs rfl _))⟩
  · exact (congrArg PscSt.acts (hx _) :).trans (congrArg PscSt.acts hpsc :)
  · exact (congrArg PscSt.braced (hx _) :).trans (congrArg PscSt.braced hpsc :)

end

/-! The steps of a boundary (R411). -/

/-- Gains of the tick that closed, and coefficients that are due. -/
def State.pscGains (s : State) (n : Nat) : State :=
  (s.modPsc n fun x => { x with
    idle := x.coefNext.foldl (fun w e => if e.1 ≤ s.tick then e.2 else w) x.idle
    coefNext := x.coefNext.filter fun e => !decide (e.1 ≤ s.tick) }).pscTick n
/-- They, and the thermal gain of a channel that is not OFF. -/
def State.pscWarm (s : State) (n : Nat) : State :=
  if (s.pscGains n).reg (Reg.pscState n) = 0 then s.pscGains n else (s.pscGains n).pscThermal n
/-- A trip that waits is applied. -/
def State.pscTripped (s : State) (n : Nat) : State :=
  match (s.psc n).trip with
  | some c => if s.reg (Reg.pscState n) = 0 then s.modPsc n fun x => { x with trip := none, hard := false } else s.pscFaultIn n c
  | none => s

/-- The boundary of one channel whose writes are all applied. -/
theorem pscBoundary_one {s : State} {n : Fin 64} {x : PscSt}
    (hdue : s.due.filter (fun d => isPscReg d.reg && decide (d.tick ≤ s.tick)) = []) (hx : s.pscs = [(n.val, x)]) (hl : s.pscLead n = n.val) :
    exec (.pscBoundary []) s = .next (((((s.pscWarm n).pscTripped n).pscTransit n).pscCommands n).pscSleep n) := by
  have hall : (s.due.filter fun d => !(isPscReg d.reg && decide (d.tick ≤ s.tick))) = s.due := by
    rw [List.filter_eq_self]
    intro d hd
    simpa only [Bool.not_eq_true', Bool.not_eq_true] using List.filter_eq_nil_iff.mp hdue d hd
  show execPscBoundary [] s = _
  unfold execPscBoundary
  dsimp only
  rw [hdue, hall]
  have hchannels : (s.pscs.map (·.1)).filter (fun m => s.pscLead m == m) = [n.val] := by
    rw [hx]
    simp [hl]
  show Host.Outcome.next (overL ((s.pscs.map (·.1)).filter fun m => s.pscLead m == m) _ s) = _
  rw [hchannels]
  simp only [overL, List.foldl_cons, List.foldl_nil]
  unfold State.pscTripped
  have hw : s.pscWarm n = s.pscWarm n := rfl
  conv_rhs at hw => unfold State.pscWarm State.pscGains
  rewrite [← hw]
  generalize s.pscWarm n = w
  cases (w.psc n).trip <;> rfl

section
variable {s : State} {n : Nat}

theorem pscGains_frame (s : State) (n : Nat) : ((s.pscGains n).psc n).mode = (s.psc n).mode ∧
    ((s.pscGains n).psc n).gsPos = (s.psc n).gsTick.gsPos ∧
    (s.pscGains n).tick = s.tick ∧ SameRegs s (s.pscGains n) [Reg.pscGainNow n] := by
  unfold State.pscGains
  obtain ⟨u, hu⟩ : ∃ u, s.modPsc n (fun x => { x with
    idle := x.coefNext.foldl (fun w e => if e.1 ≤ s.tick then e.2 else w) x.idle
    coefNext := x.coefNext.filter fun e => !decide (e.1 ≤ s.tick) }) = u := ⟨_, rfl⟩
  have h1 : u.psc n = _ := hu ▸ psc_modPsc_same s n _
  have ht : u.tick = s.tick := by rw [← hu]; rfl
  have hr : u.regs = s.regs := by rw [← hu]; rfl
  rw [hu]
  unfold State.pscTick
  extract_lets x
  have h2 := psc_modPsc_same u n fun x => { x.gsTick with
    gbPos := if x.gbPos < x.gbLen then x.gbPos + 1 else x.gbPos
    k := 0, gMin := q30, leg0 := x.leg0.newTick, leg1 := x.leg1.newTick }
  rw [h1] at h2
  exact ⟨(congrArg PscSt.mode h2 :), (congrArg PscSt.gsPos h2 :), ht,
    (sameRegs_of_regs hr _).trans (SameRegs.setReg (s := u.modPsc n _) (by simp) _)⟩

/-- A cool channel's thermal gain moves and trips nothing. -/
theorem pscThermal_frame (ht : s.reg (Reg.pscTemp n) < 100 * s.reg (Reg.pscThermTrip n)) :
    ((s.pscThermal n).psc n).mode = (s.psc n).mode ∧ ((s.pscThermal n).psc n).gsPos = (s.psc n).gsPos ∧
    (s.pscThermal n).tick = s.tick ∧ SameRegs s (s.pscThermal n) [Reg.pscEvents n, Reg.notifyDropped] := by
  unfold State.pscThermal
  extract_lets x t hot aim gt s1
  rw [if_neg fun h => Int.not_le.mpr ht h.2.1]
  have h1 := psc_modPsc_same s n fun x => { x with gt := gt }
  have h2 : SameStages [Reg.pscEvents n, Reg.notifyDropped] (s.modPsc n fun x => { x with gt := gt }) s1 := .when _ (sameStages_pscEvent _ n 3)
  have h3 := (h2.psc n).trans h1
  exact ⟨(congrArg PscSt.mode h3 :), (congrArg PscSt.gsPos h3 :), h2.tick, (sameRegs_of_regs rfl _).trans h2.sameRegs⟩

/-- A cool channel as the boundary's transitions find it. -/
theorem pscWarm_frame (ht : s.reg (Reg.pscTemp n) < 100 * s.reg (Reg.pscThermTrip n)) :
    ((s.pscWarm n).psc n).mode = (s.psc n).mode ∧ ((s.pscWarm n).psc n).gsPos = (s.psc n).gsTick.gsPos ∧
    (s.pscWarm n).tick = s.tick ∧ SameRegs s (s.pscWarm n) [Reg.pscGainNow n, Reg.pscEvents n, Reg.notifyDropped] := by
  obtain ⟨h1, h2, h4, h5⟩ := pscGains_frame s n
  unfold State.pscWarm
  split
  · exact ⟨h1, h2, h4, h5.mono (by simp)⟩
  · obtain ⟨h6, h7, h8, h9⟩ := pscThermal_frame (s := s.pscGains n) (n := n) (by rw [h5 _ (by simp), h5 _ (by simp)]; exact ht)
    exact ⟨h6.trans h1, h7.trans h2, h8.trans h4, (h5.mono (by simp)).trans (h9.mono (by simp))⟩

/-- A trip is applied (R406). -/
theorem pscFaultIn_frame (s : State) (n code : Nat) : (s.pscFaultIn n code).reg (Reg.pscState n) = 6 ∧ (s.pscFaultIn n code).reg (Reg.pscFault n) = code ∧
    (s.pscFaultIn n code).reg (Reg.pscTrips n) = bump32 (s.reg (Reg.pscTrips n)) ∧
    bit ((s.pscFaultIn n code).reg (Reg.pscEvents n)) 1 = true ∧ ((s.pscFaultIn n code).psc n).again = none ∧
    ((s.pscFaultIn n code).psc n).clear = false ∧
    ((s.pscFaultIn n code).psc n).acts = (s.psc n).acts ∧ ((s.pscFaultIn n code).psc n).braced = (s.psc n).braced ∧
    (s.pscFaultIn n code).reg (Reg.pscFlags n) = s.reg (Reg.pscFlags n) := by
  obtain ⟨hst, -, -, hb, ha, hr⟩ := pscRest_frame s n 6 0
  have hlegs : s.pscLegs n = (s.pscRest n 6 0).pscLegs n := (pscLegs_of_flags (hr _ (by simp))).symm
  have htrips := hr (Reg.pscTrips n) (by simp)
  have hflags := hr (Reg.pscFlags n) (by simp)
  unfold State.pscFaultIn
  extract_lets p keep ocs latch s1 s2
  have h1 : s1.reg (Reg.pscState n) = 6 ∧ s1.reg (Reg.pscFault n) = code ∧ s1.reg (Reg.pscTrips n) = bump32 (s.reg (Reg.pscTrips n)) ∧
      (s1.psc n).again = none ∧ (s1.psc n).clear = false ∧ (s1.psc n).acts = (s.psc n).acts ∧ (s1.psc n).braced = (s.psc n).braced ∧
      s1.reg (Reg.pscFlags n) = s.reg (Reg.pscFlags n) := by
    show (State.modPsc (overL (s.pscLegs n) _ _) n _).reg _ = _ ∧ _
    obtain ⟨w, hw⟩ : ∃ w, overL (s.pscLegs n) (fun s m => (s.setReg (Reg.pscFault m) code).bump (Reg.pscTrips m)) (s.pscRest n 6 0) = w := ⟨_, rfl⟩
    have hs1 : s1 = w.modPsc n fun x => { x with
        trip := none, hard := false, latched := latch, noRestart := false, again := none, clear := false, ocTrips := ocs
        restartAt := s.tick + (s.nat (Reg.pscOcRestart n) * s.tps + 999) / 1000 } := by rw [← hw]
    have hsame : SameStages [Reg.pscFault n, Reg.pscTrips n, Reg.pscFault (n + 1), Reg.pscTrips (n + 1)] (s.pscRest n 6 0) w ∧
        w.reg (Reg.pscFault n) = code ∧ w.reg (Reg.pscTrips n) = bump32 ((s.pscRest n 6 0).reg (Reg.pscTrips n)) := by
      rw [← hw, hlegs]
      generalize s.pscRest n 6 0 = u
      have hleg : ∀ u : State, SameStages [Reg.pscFault n, Reg.pscTrips n, Reg.pscFault (n + 1), Reg.pscTrips (n + 1)] u
          ((u.setReg (Reg.pscFault n) code).bump (Reg.pscTrips n)) ∧ ((u.setReg (Reg.pscFault n) code).bump (Reg.pscTrips n)).reg (Reg.pscFault n) = code ∧
          ((u.setReg (Reg.pscFault n) code).bump (Reg.pscTrips n)).reg (Reg.pscTrips n) = bump32 (u.reg (Reg.pscTrips n)) := fun u =>
        ⟨.trans (.setReg (by simp) _ rfl) (.setReg (by simp) _ rfl), (reg_bump_other _ _ _ (by simp)).trans (reg_setReg_same _ _ _),
          (reg_bump_same _ _).trans (congrArg bump32 (reg_setReg_other _ _ _ _ (by simp)))⟩
      obtain ⟨h1, h2, h3⟩ := hleg u
      unfold State.pscLegs
      split
      · refine ⟨.trans h1 (.trans (.setReg (by simp) _ rfl) (.setReg (by simp) _ rfl)), ?_, ?_⟩
        · exact (reg_bump_other _ _ _ (by simp)).trans ((reg_setReg_other _ _ _ _ (by simp)).trans h2)
        · exact (reg_bump_other _ _ _ (by simp)).trans ((reg_setReg_other _ _ _ _ (by simp)).trans h3)
      · exact ⟨h1, h2, h3⟩
    obtain ⟨hsw, hfault, htw⟩ := hsame
    have hpsc := hsw.psc n
    have hxw := psc_modPsc_same w n fun x => { x with
        trip := none, hard := false, latched := latch, noRestart := false, again := none, clear := false, ocTrips := ocs
        restartAt := s.tick + (s.nat (Reg.pscOcRestart n) * s.tps + 999) / 1000 }
    rw [← hs1, hpsc] at hxw
    have hr1 : ∀ r, s1.reg r = w.reg r := fun r => by rw [hs1]; rfl
    refine ⟨(hr1 _).trans ((hsw.regs _ (by simp)).trans hst), (hr1 _).trans hfault, (hr1 _).trans (htw.trans (congrArg bump32 htrips)),
      (congrArg PscSt.again hxw :), (congrArg PscSt.clear hxw :), ?_, ?_, (hr1 _).trans ((hsw.regs _ (by simp)).trans hflags)⟩
    · exact (congrArg PscSt.acts hxw :).trans ha
    · exact (congrArg PscSt.braced hxw :).trans hb
  obtain ⟨h1s, h1f, h1t, h1n, h1c, h1a, h1b, h1g⟩ := h1
  have h2 : SameStages [Reg.pscEvents n, Reg.notifyDropped] s1 s2 := (sameStages_pscEvent s1 n 1).trans (.of_regs rfl rfl)
  have h2b : bit (s2.reg (Reg.pscEvents n)) 1 = true := bit_pscEvent s1 n 1
  clear_value s2 s1
  have h3 : SameStages [Reg.notifyDropped] s2 (if p < 16 then s2.notifyPlot p 0x50 (Reg.pscFault n) else s2) :=
    .of_ite (fun _ => .of_reports (Reports.notifyPlot (l := [Reg.notifyDropped]) (by simp) _ _ _) (fun _ => rfl) (by simp)) fun _ => .refl s2
  obtain ⟨u, hu⟩ : ∃ u, (if p < 16 then s2.notifyPlot p 0x50 (Reg.pscFault n) else s2) = u := ⟨_, rfl⟩
  rw [hu] at h3 ⊢
  have h4 := h2.trans (h3.mono (Q := (· ∈ [Reg.pscEvents n, Reg.notifyDropped])) (by simp))
  have hp : u.psc n = s1.psc n := SameStages.psc h4 n
  refine ⟨(h4.regs _ (by simp)).trans h1s, (h4.regs _ (by simp)).trans h1f, (h4.regs _ (by simp)).trans h1t, ?_, ?_, ?_, ?_, ?_,
    (h4.regs _ (by simp)).trans h1g⟩
  · rw [h3.regs _ (by simp)]
    exact h2b
  · rw [hp, h1n]
  · rw [hp, h1c]
  · rw [hp, h1a]
  · rw [hp, h1b]

/-- Without dormancy and brace, sleep leaves a channel as it is, but for a channel that stops its carrier. -/
theorem pscSleep_cases (hf : bit (s.reg (Reg.pscFlags n)) 2 = false) (hb : (s.psc n).braced = false) (h5 : s.reg (Reg.pscState n) ≠ 5)
    (h4 : s.reg (Reg.pscState n) = 4 → (s.psc n).toDorm = false ∨ (s.psc n).cstop = true) :
    s.pscSleep n = s ∨ s.pscSleep n = s.modPsc n fun x => { x with again := some true } := by
  have hquiet : s.pscQuiet n = false := by
    unfold State.pscQuiet
    rw [hf]
    rfl
  unfold State.pscSleep
  dsimp only
  rw [hb, hquiet, hf]
  simp only [Bool.false_and, Bool.false_eq_true, and_false, if_false]
  by_cases h3 : s.reg (Reg.pscState n) = 3
  · exact .inl (if_pos h3)
  · rw [if_neg h3, if_neg fun h => h5 h.1]
    split_ifs with ha hc
    · exact .inr rfl
    · exact absurd (h4 ha.1) (by simp [ha.2.1, hc])
    · exact .inl rfl
end

/-! Transitions and commands of a cool channel without dormancy (R409 to R411). -/

section
variable {s : State} {n k : Nat}

/-- What sleep leaves of such a channel. -/
theorem pscSleep_frame (hf : bit (s.reg (Reg.pscFlags n)) 2 = false) (hb : (s.psc n).braced = false) (h5 : s.reg (Reg.pscState n) ≠ 5)
    (h4 : s.reg (Reg.pscState n) = 4 → (s.psc n).toDorm = false ∨ (s.psc n).cstop = true) :
    (s.pscSleep n).regs = s.regs ∧ ((s.pscSleep n).psc n).gsDir = (s.psc n).gsDir ∧ ((s.pscSleep n).psc n).cstop = (s.psc n).cstop ∧
    ((s.pscSleep n).psc n).acts = (s.psc n).acts := by
  rcases pscSleep_cases hf hb h5 h4 with h | h
  · rw [h]
    exact ⟨rfl, rfl, rfl, rfl⟩
  · have hx := psc_modPsc_same s n fun x => { x with again := some true }
    rw [h]
    exact ⟨rfl, (congrArg PscSt.gsDir hx :), (congrArg PscSt.cstop hx :), (congrArg PscSt.acts hx :)⟩

theorem pscTripped_none (h : (s.psc n).trip = none) : s.pscTripped n = s := by
  unfold State.pscTripped
  rw [h]
theorem pscTripped_some {c : Nat} (h : (s.psc n).trip = some c) (h0 : s.reg (Reg.pscState n) ≠ 0) : s.pscTripped n = s.pscFaultIn n c := by
  unfold State.pscTripped
  rw [h]
  exact if_neg h0

theorem pscTransit_clear (hst : s.reg (Reg.pscState n) = 6) (hc : (s.psc n).clear = true) : (s.pscTransit n).reg (Reg.pscState n) = 0 ∧
    (s.pscTransit n).reg (Reg.pscFault n) = 0 ∧ ((s.pscTransit n).psc n).acts = (s.psc n).acts ∧ ((s.pscTransit n).psc n).braced = (s.psc n).braced ∧
    (s.pscTransit n).reg (Reg.pscFlags n) = s.reg (Reg.pscFlags n) := by
  have heq : s.pscTransit n = (overL (s.pscLegs n) (fun s m => s.setReg (Reg.pscFault m) 0) (s.pscSet n 0)).modPsc n
      fun x => { x with clear := false, latched := false, noRestart := false } := if_pos ⟨hst, hc⟩
  obtain ⟨h1, h2, -, h4⟩ := pscSet_frame s n 0
  have hlegs : s.pscLegs n = (s.pscSet n 0).pscLegs n := (pscLegs_of_flags (h4 _ (by simp))).symm
  obtain ⟨hf, hv⟩ := legs_setReg (s.pscSet n 0) n Reg.pscFault (pscFault_next n) 0
  rw [heq, hlegs]
  obtain ⟨w, hw⟩ : ∃ w, overL ((s.pscSet n 0).pscLegs n) (fun s m => s.setReg (Reg.pscFault m) 0) (s.pscSet n 0) = w := ⟨_, rfl⟩
  rw [hw] at hf hv ⊢
  have hx := psc_modPsc_same w n fun x => { x with clear := false, latched := false, noRestart := false }
  rw [hf.psc, h2] at hx
  exact ⟨(hf.regs _ (by simp)).trans h1, hv, (congrArg PscSt.acts hx :), (congrArg PscSt.braced hx :),
    (hf.regs _ (by simp)).trans (h4 _ (by simp))⟩
theorem pscTransit_settle (hst : s.reg (Reg.pscState n) = 1) (ht : (s.psc n).startB + 1 ≤ s.tick) : s.pscTransit n = s.pscSet n 2 :=
  (if_neg (by omega)).trans ((if_neg (by omega)).trans (if_pos ⟨hst, ht⟩))
theorem pscTransit_run (hst : s.reg (Reg.pscState n) = 2) (ht : (s.psc n).startB + 8 ≤ s.tick)
    (hf : bit (s.reg (Reg.pscFlags n)) 2 = false) : s.pscTransit n = s.pscRun n :=
  (if_neg (by omega)).trans ((if_neg (by omega)).trans ((if_neg (by omega)).trans ((if_pos ⟨hst, ht⟩).trans (if_neg (by simp [hf])))))
theorem pscTransit_stop (hst : s.reg (Reg.pscState n) = 4) (hc : (s.psc n).cstop = false) (hg : (s.psc n).gsPos = 0) :
    s.pscTransit n = s.pscStopCarrier n :=
  (if_neg (by omega)).trans ((if_neg (by omega)).trans ((if_neg (by omega)).trans ((if_neg (by omega)).trans
    (if_pos ⟨hst, by simp [hc], hg⟩))))
/-- A channel in OFF, RUNNING or a fault that is neither cleared nor thermal stays. -/
theorem pscTransit_stays (ha : (s.psc n).again = none)
    (h : s.reg (Reg.pscState n) = 0 ∨ s.reg (Reg.pscState n) = 3 ∨ (s.reg (Reg.pscState n) = 1 ∧ s.tick < (s.psc n).startB + 1) ∨
      (s.reg (Reg.pscState n) = 6 ∧ (s.psc n).clear = false ∧ s.reg (Reg.pscFault n) ≠ 3)) : s.pscTransit n = s := by
  have hclear : ¬(s.reg (Reg.pscState n) = 6 ∧ (s.psc n).clear = true) := by
    rcases h with h | h | ⟨h, -⟩ | ⟨-, h, -⟩
    · omega
    · omega
    · omega
    · simp [h]
  have hthermal : ¬(s.reg (Reg.pscState n) = 6 ∧ s.reg (Reg.pscFault n) = 3) := by
    rcases h with h | h | ⟨h, -⟩ | ⟨-, -, h⟩ <;> omega
  have hst : s.reg (Reg.pscState n) = 0 ∨ s.reg (Reg.pscState n) = 3 ∨ (s.reg (Reg.pscState n) = 1 ∧ s.tick < (s.psc n).startB + 1) ∨
      s.reg (Reg.pscState n) = 6 := h.imp id (Or.imp id (Or.imp id And.left))
  have hagain : ¬((s.reg (Reg.pscState n) = 0 ∨ s.reg (Reg.pscState n) = 5) ∧ (s.psc n).again.isSome = true) := by
    rw [ha]
    simp
  have hsettle : ¬(s.reg (Reg.pscState n) = 1 ∧ s.tick ≥ (s.psc n).startB + 1) := by
    rintro ⟨h1, h2⟩
    rcases hst with h' | h' | ⟨-, h'⟩ | h'
    · omega
    · omega
    · exact Nat.not_lt.mpr h2 h'
    · omega
  have hrun : ¬(s.reg (Reg.pscState n) = 2 ∧ s.tick ≥ (s.psc n).startB + 8) := by
    rcases hst with h' | h' | ⟨h', -⟩ | h' <;> omega
  have hstop : ¬s.reg (Reg.pscState n) = 4 := by
    rcases hst with h' | h' | ⟨h', -⟩ | h' <;> omega
  exact (if_neg hclear).trans ((if_neg hagain).trans ((if_neg hsettle).trans ((if_neg hrun).trans
    ((if_neg fun hc => hstop hc.1).trans (if_neg fun hc => hthermal ⟨hc.1, hc.2.1⟩)))))

theorem pscCommands_none (h : (s.psc n).acts = []) : s.pscCommands n = s := by
  unfold State.pscCommands
  dsimp only
  rw [h]
  rfl
theorem pscCommands_start (h : (s.psc n).acts = [(k, true, false)]) (hk : k ≤ s.tick) :
    s.pscCommands n = (s.modPsc n fun x => { x with acts := [] }).pscGo n false := by
  unfold State.pscCommands
  dsimp only
  rw [h, List.filter_cons_of_pos (by simpa using hk), List.filter_cons_of_neg (by simpa using hk)]
  rfl
theorem pscCommands_stop {v : Bool} (h : (s.psc n).acts = [(k, false, v)]) (hk : k ≤ s.tick)
    (hr : ((s.modPsc n fun x => { x with acts := [] }).pscHalt n).2 = true) :
    s.pscCommands n = ((s.modPsc n fun x => { x with acts := [] }).pscHalt n).1 := by
  unfold State.pscCommands
  dsimp only
  rw [h, List.filter_cons_of_pos (by simpa using hk), List.filter_cons_of_neg (by simpa using hk)]
  exact if_pos hr
end

/-! The boundary of a channel that is alone (R411). -/

/-- A cool channel at a boundary, alone, with no write due, without dormancy or brace. -/
structure CoolChannel (s : State) (n : Fin 64) (x : PscSt) : Prop where
  due : s.due.filter (fun d => isPscReg d.reg && decide (d.tick ≤ s.tick)) = []
  alone : s.pscs = [(n.val, x)]
  leads : s.pscLead n = n.val
  unbraced : x.braced = false
  cool : s.reg (Reg.pscTemp n) < 100 * s.reg (Reg.pscThermTrip n)
  awake : bit (s.reg (Reg.pscFlags n)) 2 = false
  again : x.again = none
  runs : x.cstop = false

section
variable {s : State} {n : Fin 64} {x : PscSt} (h : CoolChannel s n x)
include h

theorem CoolChannel.warm : ∃ u, exec (.pscBoundary []) s = .next ((((u.pscTripped n).pscTransit n).pscCommands n).pscSleep n) ∧
    (u.psc n).mode = x.mode ∧ (u.psc n).gsPos = x.gsTick.gsPos ∧ u.tick = s.tick ∧
    SameRegs s u [Reg.pscGainNow n, Reg.pscEvents n, Reg.notifyDropped] := by
  have hpsc : s.psc n = x := by
    unfold State.psc
    rw [h.alone]
    simp [NTable.get, Table.get]
  obtain ⟨h1, h2, h3, h4⟩ := pscWarm_frame h.cool
  rw [hpsc] at h1 h2
  exact ⟨s.pscWarm n, pscBoundary_one h.due h.alone h.leads, h1, h2, h3, h4⟩

/-- Such a channel without a trip: what its transitions find. -/
theorem CoolChannel.untripped (ht : x.trip = none) : ∃ u, exec (.pscBoundary []) s = .next (((u.pscTransit n).pscCommands n).pscSleep n) ∧
    (u.psc n).mode = x.mode ∧ (u.psc n).gsPos = x.gsTick.gsPos ∧ u.tick = s.tick ∧
    SameRegs s u [Reg.pscGainNow n, Reg.pscEvents n, Reg.notifyDropped] := by
  obtain ⟨u, hrun, hmode, hg, htick, hregs⟩ := h.warm
  rw [pscTripped_none ((congrArg PscMode.trip hmode :).trans ht)] at hrun
  exact ⟨u, hrun, hmode, hg, htick, hregs⟩

/-- One transition of a channel without commands, and nothing after it. -/
theorem CoolChannel.transits {v : State} {st : Int} (hv : v.reg (Reg.pscState n) = st) (hb : (v.psc n).braced = false)
    (hacts : (v.psc n).acts = []) (hf : v.reg (Reg.pscFlags n) = s.reg (Reg.pscFlags n)) (h5 : st ≠ 5) (h4 : st = 4 → (v.psc n).cstop = true)
    (hrun : exec (.pscBoundary []) s = .next ((v.pscCommands n).pscSleep n)) : Runs (.pscBoundary []) s fun t =>
      t.reg (Reg.pscState n) = st ∧ (t.psc n).gsDir = (v.psc n).gsDir ∧ (t.psc n).cstop = (v.psc n).cstop ∧
      (∀ r, t.reg r = v.reg r) ∧ SameMem s t := by
  rw [pscCommands_none hacts] at hrun
  obtain ⟨h1, h2, h3, -⟩ := pscSleep_frame (s := v) (n := n) (by rw [hf]; exact h.awake) hb (by rw [hv]; exact h5)
    (fun h' => .inr (h4 (hv.symm.trans h')))
  exact runs_of_exec rfl hrun fun hm => ⟨(reg_of_regs h1 _).trans hv, h2, h3, reg_of_regs h1, hm⟩

theorem CoolChannel.steps (ht : x.trip = none) (hacts : x.acts = []) :
    (s.reg (Reg.pscState n) = 1 → x.startB + 1 ≤ s.tick → Runs (.pscBoundary []) s fun t =>
      t.reg (Reg.pscState n) = 2 ∧ SameMem s t) ∧
    (s.reg (Reg.pscState n) = 2 → x.startB + 8 ≤ s.tick → Runs (.pscBoundary []) s fun t =>
      t.reg (Reg.pscState n) = 3 ∧ (t.psc n).gsDir = 1 ∧ SameMem s t) ∧
    (s.reg (Reg.pscState n) = 4 → x.gsTick.gsPos = 0 → Runs (.pscBoundary []) s fun t =>
      t.reg (Reg.pscState n) = 4 ∧ (t.psc n).cstop = true ∧ SameMem s t) ∧
    (s.reg (Reg.pscState n) = 6 → x.clear = true → Runs (.pscBoundary []) s fun t =>
      t.reg (Reg.pscState n) = 0 ∧ t.reg (Reg.pscFault n) = 0 ∧ SameMem s t) := by
  obtain ⟨u, hrun, hmode, hg, htick, hregs⟩ := h.untripped ht
  have hst : u.reg (Reg.pscState n) = s.reg (Reg.pscState n) := hregs _ (by simp)
  have hfl : u.reg (Reg.pscFlags n) = s.reg (Reg.pscFlags n) := hregs _ (by simp)
  have hstart : (u.psc n).startB = x.startB := (congrArg PscMode.startB hmode :)
  have hbr : (u.psc n).braced = false := (congrArg PscMode.braced hmode :).trans h.unbraced
  have hac : (u.psc n).acts = [] := (congrArg PscMode.acts hmode :).trans hacts
  refine ⟨fun h1 hb => ?_, fun h2 hb => ?_, fun h4 h0 => ?_, fun h6 hcl => ?_⟩
  · rw [pscTransit_settle (hst.trans h1) (by rw [hstart, htick]; exact hb)] at hrun
    obtain ⟨hs, hp, -, hr⟩ := pscSet_frame u n 2
    obtain ⟨t, he, h1, -, -, -, hm⟩ := h.transits hs (by rw [hp]; exact hbr) (by rw [hp]; exact hac) ((hr _ (by simp)).trans hfl) (by simp) (by simp) hrun
    exact ⟨t, he, h1, hm⟩
  · rw [pscTransit_run (hst.trans h2) (by rw [hstart, htick]; exact hb) (by rw [hfl]; exact h.awake)] at hrun
    obtain ⟨hs, hd, hb', hr, ha'⟩ := pscRun_frame u n
    obtain ⟨t, he, h1, h2, -, -, hm⟩ := h.transits hs (hb'.trans hbr) (ha'.trans hac) ((hr _ (by simp)).trans hfl) (by simp) (by simp) hrun
    exact ⟨t, he, h1, h2.trans hd, hm⟩
  · rw [pscTransit_stop (hst.trans h4) ((congrArg PscMode.cstop hmode :).trans h.runs) (hg.trans h0)] at hrun
    obtain ⟨hs, hc', hb', ha', hr⟩ := pscStopCarrier_frame u n
    obtain ⟨t, he, h1, -, h3, -, hm⟩ := h.transits hs (hb'.trans hbr) (ha'.trans hac) ((hr _ (by simp)).trans hfl) (by simp) (fun _ => hc') hrun
    exact ⟨t, he, h1, h3.trans hc', hm⟩
  · obtain ⟨hs, hf', ha', hb', hr⟩ := pscTransit_clear (hst.trans h6) ((congrArg PscMode.clear hmode :).trans hcl)
    obtain ⟨t, he, h1, -, -, h4, hm⟩ := h.transits hs (hb'.trans hbr) (ha'.trans hac) (hr.trans hfl) (by simp) (by simp) hrun
    exact ⟨t, he, h1, (h4 _).trans hf', hm⟩

theorem CoolChannel.starts {k : Nat} (ht : x.trip = none) (hacts : x.acts = [(k, true, false)]) (hk : k ≤ s.tick)
    (h0 : s.reg (Reg.pscState n) = 0) : Runs (.pscBoundary []) s fun t => t.reg (Reg.pscState n) = 1 ∧ t.reg (Reg.pscStatus n) = 0 ∧
      t.reg (Reg.pscFault n) = 0 ∧ (t.psc n).acts = [] ∧ SameMem s t := by
  obtain ⟨u, hrun, hmode, -, htick, hregs⟩ := h.untripped ht
  have hst : u.reg (Reg.pscState n) = 0 := (hregs _ (by simp)).trans h0
  have hbr : (u.psc n).braced = false := (congrArg PscMode.braced hmode :).trans h.unbraced
  have hac : (u.psc n).acts = [(k, true, false)] := (congrArg PscMode.acts hmode :).trans hacts
  have hcs : (u.psc n).cstop = false := (congrArg PscMode.cstop hmode :).trans h.runs
  rw [pscTransit_stays ((congrArg PscMode.again hmode :).trans h.again) (.inl hst), pscCommands_start hac (by rw [htick]; exact hk)] at hrun
  have hw := psc_modPsc_same u n fun x => { x with acts := [] }
  obtain ⟨w, hw'⟩ : ∃ w, u.modPsc n (fun x => { x with acts := [] }) = w := ⟨_, rfl⟩
  have hwr : w.regs = u.regs := by rw [← hw']; rfl
  rw [hw'] at hrun hw
  have hgo : w.pscGo n false = (w.setReg (Reg.pscStatus n) 0).pscBegin n false := by
    unfold State.pscGo
    dsimp only
    rw [if_neg Bool.false_ne_true]
    exact (if_neg (by rw [hw]; simp [hcs])).trans (if_pos ((reg_of_regs hwr _).trans hst))
  rw [hgo] at hrun
  have hpsc : (w.setReg (Reg.pscStatus n) 0).psc n = w.psc n := rfl
  obtain ⟨h1, hf, -, ha, hb, hr⟩ := pscBegin_frame (w.setReg (Reg.pscStatus n) 0) n false
  rw [hpsc, hw] at ha hb
  have hstatus := (hr (Reg.pscStatus n) (by simp)).trans (reg_setReg_same w _ _)
  have hflags : ((w.setReg (Reg.pscStatus n) 0).pscBegin n false).reg (Reg.pscFlags n) = s.reg (Reg.pscFlags n) :=
    (hr _ (by simp)).trans ((reg_setReg_other _ _ _ _ (by simp)).trans ((reg_of_regs hwr _).trans (hregs _ (by simp))))
  obtain ⟨v, hv⟩ : ∃ v, (w.setReg (Reg.pscStatus n) 0).pscBegin n false = v := ⟨_, rfl⟩
  rw [hv] at hrun h1 hf ha hb hstatus hflags
  obtain ⟨e1, -, -, e4⟩ := pscSleep_frame (s := v) (n := n) (by rw [hflags]; exact h.awake) (hb.trans hbr) (by omega) (fun h' => by omega)
  exact runs_of_exec rfl hrun fun hm => ⟨(reg_of_regs e1 _).trans h1, (reg_of_regs e1 _).trans hstatus, (reg_of_regs e1 _).trans hf, e4.trans ha, hm⟩

theorem CoolChannel.stops {k : Nat} {v : Bool} (ht : x.trip = none) (hacts : x.acts = [(k, false, v)]) (hk : k ≤ s.tick) :
    (s.reg (Reg.pscState n) = 3 → Runs (.pscBoundary []) s fun t => t.reg (Reg.pscState n) = 4 ∧
      (t.psc n).gsDir = 2 ∧ t.reg (Reg.pscStatus n) = 0 ∧ SameMem s t) ∧
    (s.reg (Reg.pscState n) = 1 → Runs (.pscBoundary []) s fun t => t.reg (Reg.pscState n) = 4 ∧
      (t.psc n).cstop = true ∧ t.reg (Reg.pscStatus n) = 0 ∧ SameMem s t) := by
  obtain ⟨u, hrun, hmode, -, htick, hregs⟩ := h.untripped ht
  have hbr : (u.psc n).braced = false := (congrArg PscMode.braced hmode :).trans h.unbraced
  have hac : (u.psc n).acts = [(k, false, v)] := (congrArg PscMode.acts hmode :).trans hacts
  have hcs : (u.psc n).cstop = false := (congrArg PscMode.cstop hmode :).trans h.runs
  have hag : (u.psc n).again = none := (congrArg PscMode.again hmode :).trans h.again
  have hst : u.reg (Reg.pscState n) = s.reg (Reg.pscState n) := hregs _ (by simp)
  have hfl : u.reg (Reg.pscFlags n) = s.reg (Reg.pscFlags n) := hregs _ (by simp)
  have hdrop : ∀ w : State, ((w.modPsc n fun x => { x with acts := [] }).psc n) = { w.psc n with acts := [] } ∧
      (w.modPsc n fun x => { x with acts := [] }).regs = w.regs := fun w => ⟨psc_modPsc_same w n _, rfl⟩
  refine ⟨fun h3 => ?_, fun h1 => ?_⟩
  · rw [pscTransit_stays hag (.inr (.inl (hst.trans h3)))] at hrun
    obtain ⟨hw, hwr⟩ := hdrop u
    obtain ⟨w, hw'⟩ : ∃ w, u.modPsc n (fun x => { x with acts := [] }) = w := ⟨_, rfl⟩
    rw [hw'] at hw hwr
    have hwc : (w.psc n).cstop = false := by rw [hw]; exact hcs
    have hws : w.reg (Reg.pscState n) = 3 := (reg_of_regs hwr _).trans (hst.trans h3)
    have hhalt : w.pscHalt n = ((w.setReg (Reg.pscStatus n) 0).pscStop n false, true) :=
      (if_neg (by simp [hwc])).trans ((if_neg (by omega)).trans (if_pos hws))
    have hcmd := pscCommands_stop hac (by rw [htick]; exact hk) (by rw [hw', hhalt])
    rw [hw', hhalt] at hcmd
    rw [hcmd] at hrun
    obtain ⟨hs, hd, hdorm, hb, hr⟩ := pscStop_frame (w.setReg (Reg.pscStatus n) 0) n
    have hwb : (w.psc n).braced = false := by rw [hw]; exact hbr
    have hstatus := (hr (Reg.pscStatus n) (by simp)).trans (reg_setReg_same w _ _)
    have hflags := (hr (Reg.pscFlags n) (by simp)).trans ((reg_setReg_other _ _ _ _ (by simp)).trans ((reg_of_regs hwr _).trans hfl))
    obtain ⟨y, hy⟩ : ∃ y, (w.setReg (Reg.pscStatus n) 0).pscStop n false = y := ⟨_, rfl⟩
    rw [hy] at hrun hs hd hdorm hb hstatus hflags
    obtain ⟨e1, e2, -, -⟩ := pscSleep_frame (s := y) (n := n) (by rw [hflags]; exact h.awake) (hb.trans hwb) (by omega) (fun _ => .inl hdorm)
    exact runs_of_exec rfl hrun fun hm => ⟨(reg_of_regs e1 _).trans hs, e2.trans hd, (reg_of_regs e1 _).trans hstatus, hm⟩
  · have hmid : ∃ m : State, u.pscTransit n = m ∧ (m.reg (Reg.pscState n) = 1 ∨ m.reg (Reg.pscState n) = 2) ∧ (m.psc n).cstop = false ∧
        (m.psc n).braced = false ∧ (m.psc n).acts = [(k, false, v)] ∧ m.tick = s.tick ∧ m.reg (Reg.pscFlags n) = s.reg (Reg.pscFlags n) := by
      by_cases hb : (u.psc n).startB + 1 ≤ u.tick
      · obtain ⟨hs, hp, htk, hr⟩ := pscSet_frame u n 2
        exact ⟨_, pscTransit_settle (hst.trans h1) hb, .inr hs, by rw [hp]; exact hcs, by rw [hp]; exact hbr, by rw [hp]; exact hac,
          htk.trans htick, (hr _ (by simp)).trans hfl⟩
      · exact ⟨u, pscTransit_stays hag (.inr (.inr (.inl ⟨hst.trans h1, Nat.not_le.mp hb⟩))), .inl (hst.trans h1), hcs, hbr, hac, htick, hfl⟩
    obtain ⟨m, hm', hms, hmc, hmb, hma, hmt, hmf⟩ := hmid
    rw [hm'] at hrun
    obtain ⟨hw, hwr⟩ := hdrop m
    obtain ⟨w, hw'⟩ : ∃ w, m.modPsc n (fun x => { x with acts := [] }) = w := ⟨_, rfl⟩
    rw [hw'] at hw hwr
    have hwc : (w.psc n).cstop = false := by rw [hw]; exact hmc
    have hws : w.reg (Reg.pscState n) = 1 ∨ w.reg (Reg.pscState n) = 2 := by rwa [reg_of_regs hwr]
    have hhalt : w.pscHalt n = ((w.setReg (Reg.pscStatus n) 0).pscStopCarrier n, true) := (if_neg (by simp [hwc])).trans (if_pos hws)
    have hcmd := pscCommands_stop hma (by rw [hmt]; exact hk) (by rw [hw', hhalt])
    rw [hw', hhalt] at hcmd
    rw [hcmd] at hrun
    obtain ⟨hs, hc, hb, -, hr⟩ := pscStopCarrier_frame (w.setReg (Reg.pscStatus n) 0) n
    have hwb : (w.psc n).braced = false := by rw [hw]; exact hmb
    have hstatus := (hr (Reg.pscStatus n) (by simp)).trans (reg_setReg_same w _ _)
    have hflags := (hr (Reg.pscFlags n) (by simp)).trans ((reg_setReg_other _ _ _ _ (by simp)).trans ((reg_of_regs hwr _).trans hmf))
    obtain ⟨y, hy⟩ : ∃ y, (w.setReg (Reg.pscStatus n) 0).pscStopCarrier n = y := ⟨_, rfl⟩
    rw [hy] at hrun hs hc hb hstatus hflags
    obtain ⟨e1, -, e3, -⟩ := pscSleep_frame (s := y) (n := n) (by rw [hflags]; exact h.awake) (hb.trans hwb) (by omega) (fun _ => .inr hc)
    exact runs_of_exec rfl hrun fun hm => ⟨(reg_of_regs e1 _).trans hs, e3.trans hc, (reg_of_regs e1 _).trans hstatus, hm⟩

theorem CoolChannel.trips {c : Nat} (h0 : s.reg (Reg.pscState n) ≠ 0) (ht : x.trip = some c) (h3 : c ≠ 3) (hacts : x.acts = []) :
    Runs (.pscBoundary []) s fun t => t.reg (Reg.pscState n) = 6 ∧ t.reg (Reg.pscFault n) = c ∧
      t.reg (Reg.pscTrips n) = (s.reg (Reg.pscTrips n) + 1) % 4294967296 ∧ bit (t.reg (Reg.pscEvents n)) 1 = true ∧ SameMem s t := by
  obtain ⟨u, hrun, hmode, -, -, hregs⟩ := h.warm
  have hst : u.reg (Reg.pscState n) = s.reg (Reg.pscState n) := hregs _ (by simp)
  rw [pscTripped_some ((congrArg PscMode.trip hmode :).trans ht) (by rwa [hst])] at hrun
  obtain ⟨f1, f2, f3, f4, hag, f5, f6, f7, f8⟩ := pscFaultIn_frame u n c
  have htrips : u.reg (Reg.pscTrips n) = s.reg (Reg.pscTrips n) := hregs _ (by simp)
  have hfl : u.reg (Reg.pscFlags n) = s.reg (Reg.pscFlags n) := hregs _ (by simp)
  obtain ⟨v, hv⟩ : ∃ v, u.pscFaultIn n c = v := ⟨_, rfl⟩
  rw [hv] at hrun f1 f2 f3 f4 f5 f6 f7 f8 hag
  rw [pscTransit_stays hag (.inr (.inr (.inr ⟨f1, f5, by rw [f2]; exact_mod_cast h3⟩)))] at hrun
  obtain ⟨t, he, h1, -, -, hr, hm⟩ := h.transits f1 (f7.trans ((congrArg PscMode.braced hmode :).trans h.unbraced))
    (f6.trans ((congrArg PscMode.acts hmode :).trans hacts)) (f8.trans hfl) (by simp) (by simp) hrun
  refine ⟨t, he, h1, (hr _).trans f2, ((hr _).trans f3).trans (congrArg bump32 htrips), ?_, hm⟩
  rw [hr]
  exact f4

end

end Sys2Proof.Machine
end

section
/-!
PROOFS. Power-stage channels within a tick (14, R389 to R408).
-/
namespace Sys2Proof.Machine

/-! Temperature readings (R395, R402). -/

theorem overN_invariant {p : State → Prop} {f : State → Nat → State} (n : Nat) {s : State} (h0 : p s) (h : ∀ s i, p s → p (f s i)) : p (overN n f s) :=
  List.foldlRecOn (List.range n) f h0 fun s hs i _ => h s i hs

/-- A channel of a group takes its reading. -/
def State.takeTemp (g : Nat) (v : Int) (s : State) (i : Nat) : State :=
  (s.setReg (Reg.pscTemp (4 * g + i)) v).modPsc (4 * g + i) fun x => { x with sensor := false }

section
variable {s : State} {g : Fin 16} {v : Int}

theorem takeTemp_none (s : State) (i : Nat) (h : s.pscs = []) : (s.takeTemp g v i).pscs = [] := by
  unfold State.takeTemp State.modPsc
  dsimp only [State.setReg]
  rw [h]
  rfl
theorem takeTemps_reg (i : Fin 4) : (overN 4 (State.takeTemp g v) s).reg (Reg.pscTemp (4 * g.val + i.val)) = v :=
  overN_once (g := fun s => s.reg (Reg.pscTemp (4 * g.val + i.val))) i.isLt
    (fun s x hx => reg_setReg_other s _ _ _ (by simp; omega)) fun t _ => reg_setReg_same t _ _
theorem pscTempBlock_frame (s : State) (g : Nat) : (s.pscTempBlock g).pscs = s.pscs ∧ (s.pscTempBlock g).regs = s.regs := by
  unfold State.pscTempBlock
  dsimp only
  split
  · split <;> exact ⟨rfl, rfl⟩
  · exact ⟨rfl, rfl⟩
theorem pscReading_some (hb : s.blob (Reg.pscTsCal (4 * g.val)) = []) (q : Nat) :
    s.pscReading g (some q) = overN 4 (State.takeTemp g (roundShift (30000 * (q : Int)) 31 - 5000)) s := by
  unfold State.pscReading
  rw [hb]
  rfl
/-- The boundary of readings alone. -/
theorem pscBoundary_reads {q : Nat} (hdue : s.due.filter (fun d => isPscReg d.reg && decide (d.tick ≤ s.tick)) = []) (hx : s.pscs = [])
    (hb : s.blob (Reg.pscTsCal (4 * g.val)) = []) : exec (.pscBoundary [(g, some q)]) s = .next
      ((overN 4 (State.takeTemp g (roundShift (30000 * (min q 2147483648 : Nat)) 31 - 5000)) s).pscTempBlock g) := by
  have hall : (s.due.filter fun d => !(isPscReg d.reg && decide (d.tick ≤ s.tick))) = s.due := by
    rw [List.filter_eq_self]
    intro d hd
    simpa only [Bool.not_eq_true', Bool.not_eq_true] using List.filter_eq_nil_iff.mp hdue d hd
  show execPscBoundary [(g, some q)] s = _
  unfold execPscBoundary
  dsimp only
  rw [hdue, hall]
  have hread := pscReading_some (g := g) hb (min q 2147483648)
  have hnone : ((overN 4 (State.takeTemp g (roundShift (30000 * (min q 2147483648 : Nat)) 31 - 5000)) s).pscTempBlock g).pscs = [] :=
    (pscTempBlock_frame _ _).1.trans (overN_invariant (p := fun u => u.pscs = []) 4 hx fun u i hu => takeTemp_none u i hu)
  show Host.Outcome.next (overL ((((s.pscReading g (some (min q 2147483648))).pscTempBlock g).pscs.map (·.1)).filter _) _
    ((s.pscReading g (some (min q 2147483648))).pscTempBlock g)) = _
  rw [hread, hnone]
  rfl
end

/-! A loop period (R389 to R404). -/

/-- The state of a channel that a loop period's parts leave: its period and its duty. -/
@[reducible] def State.period (n : Nat) (s : State) : Nat × Int := ((s.psc n).k, (s.psc n).d)
/-- The registers that a loop period can move. -/
@[reducible] def loopRegs (n : Nat) : List Reg := [Reg.pscClamp n, Reg.pscOcCycles n, Reg.pscEvents n, Reg.notifyDropped]
/-- A state that follows from another with the period and duty of a channel as before. -/
@[reducible] def SamePeriod (n : Nat) (s t : State) : Prop := Only (State.period n) (· ∈ loopRegs n) s t

section
variable {s : State} {n : Nat}

theorem SamePeriod.modPsc (s : State) (n : Nat) {f : PscSt → PscSt} (hf : ∀ x, ((f x).k, (f x).d) = (x.k, x.d)) : SamePeriod n s (s.modPsc n f) := by
  refine ⟨?_, fun _ _ => rfl⟩
  unfold State.period
  rw [psc_modPsc_same, hf]
theorem SamePeriod.event (s : State) (n b : Nat) : SamePeriod n s (s.pscEvent n b) := by
  have h := sameStages_pscEvent s n b
  refine ⟨?_, fun r hr => h.regs r fun hm => hr ?_⟩
  · unfold State.period
    rw [SameStages.psc h n]
  · rcases List.mem_pair.mp hm with e | e <;> simp [e]
theorem SamePeriod.trip (s : State) (n c : Nat) : SamePeriod n s (s.pscTrip n c) := by
  refine SamePeriod.modPsc s n ?_
  exact fun _ => rfl

theorem pscRef_period (s : State) (n k : Nat) : SamePeriod n s (s.pscRef n k).1 := by
  unfold State.pscRef
  dsimp only
  refine .trans (.trans (SamePeriod.modPsc s n ?_) (.when _ (SamePeriod.event _ n 4))) (.when _ (SamePeriod.event _ n 5))
  exact fun _ => rfl
theorem pscDemod_period (s : State) (n k : Nat) (v i : Int) : SamePeriod n s (s.pscDemod n k v i) := by
  unfold State.pscDemod
  refine .of_ite (fun _ => .refl s) fun _ => SamePeriod.modPsc s n ?_
  exact fun _ => rfl
theorem pscCurrent_period (s : State) (n : Nat) (is : List Int) : SamePeriod n s (s.pscCurrent n is).1 := by
  unfold State.pscCurrent
  dsimp only
  refine .trans (.trans (.setReg (by simp) _ rfl) (SamePeriod.modPsc _ n ?_)) (.when _ (SamePeriod.event _ n 2))
  exact fun _ => rfl
theorem pscPeriodEnd_period (s : State) (n : Nat) : SamePeriod n s (s.pscPeriodEnd n) := by
  unfold State.pscPeriodEnd
  dsimp only
  have h : SamePeriod n s (s.modPsc n fun x => { x with ocPeriod := false, ocRun := if (s.psc n).ocPeriod then (s.psc n).ocRun + 1 else 0 }) := by
    refine SamePeriod.modPsc s n ?_
    exact fun _ => rfl
  exact .of_ite (fun _ => h.trans (SamePeriod.trip _ n 2)) fun _ => h

theorem clampDuty_le {d m : Int} (hm : 0 ≤ m) : clampDuty d m ≤ m ∧ -m ≤ clampDuty d m := by
  unfold clampDuty
  split_ifs <;> omega
end

section
variable {s : State} {n : Fin 64} {v i v1 i1 : Fin 256}

theorem pscLoopUpdate_idle (h : s.pscLead n ≠ n.val ∨ s.reg (Reg.pscState n) = 0 ∨ 384 ≤ (s.psc n).k) :
    exec (.pscLoopUpdate n v i v1 i1) s = .next s := if_pos h

/-- A loop period counts; one that switches sets the duty to a clamped value. -/
theorem pscLoopUpdate_counts (h : ¬(s.pscLead n ≠ n.val ∨ s.reg (Reg.pscState n) = 0 ∨ 384 ≤ (s.psc n).k)) : ∃ (u t : State) (d0 : Int),
    exec (.pscLoopUpdate n v i v1 i1) s = .next t ∧ (u.psc n).k = (s.psc n).k + 1 ∧ SameRegs s u (loopRegs n) ∧ SamePeriod n u t ∧
    (s.reg (Reg.pscState n) ≠ 1 → s.reg (Reg.pscState n) ≠ 5 → s.reg (Reg.pscState n) ≠ 6 → (s.psc n).hard = false →
      (u.psc n).d = clampDuty d0 (s.reg (Reg.pscDutyMax n) * 268435456)) := by
  show ∃ (u t : State) (d0 : Int), execPscLoopUpdate n v i v1 i1 s = .next t ∧ _
  unfold execPscLoopUpdate
  extract_lets st x btl k j t0 dead a b m
  rw [if_neg (show ¬(s.pscLead n ≠ n.val ∨ st = 0 ∨ x.k ≥ 384) from h)]
  generalize s.snsCal n = cal
  obtain ⟨vg, vo, ig, io⟩ := cal
  dsimp -zeta only
  extract_lets va ia vb ib s1 vn ref d0 d acts src loop s3 y l0 d1 half h1 l1 s5 dc s6 s7
  have hs1 : SameRegs s s1 (loopRegs n) := fun _ _ => rfl
  have hk1 : (s1.psc n).k = (s.psc n).k + 1 := (congrArg PscSt.k (psc_modPsc_same s n _) :)
  by_cases hst : st = 1 ∨ st = 5 ∨ st = 6
  · exact ⟨s1, s1, 0, if_pos hst, hk1, hs1, .refl _, by omega⟩
  rw [if_neg hst]
  by_cases hhard : x.hard = true
  · refine ⟨s1, _, 0, if_pos hhard, hk1, hs1, SamePeriod.modPsc s1 n ?_, fun _ _ _ hh => absurd hhard (by rw [hh]; simp)⟩
    exact fun _ => rfl
  rw [if_neg hhard]
  let u := (s1.pscRef n k).1.modPsc n fun y => { y with d := d, loop := loop, zClean := y.zClean && !acts }
  have hu : u.psc n = { (s1.pscRef n k).1.psc n with d := d, loop := loop, zClean := ((s1.pscRef n k).1.psc n).zClean && !acts } :=
    psc_modPsc_same _ n _
  have href := pscRef_period s1 n k
  have h3 : SamePeriod n u s3 := by
    refine .trans (.setReg (by simp) _ rfl) (.when acts (SamePeriod.event _ n 7))
  have h4 := h3.trans (pscCurrent_period s3 n (if btl = true then [ia, ib] else [ia]))
  have h5 : SamePeriod n u s5 := by
    refine (h4.trans (SamePeriod.modPsc _ n ?_)).trans (pscDemod_period _ n _ _ _)
    exact fun _ => rfl
  have h6 : SamePeriod n u s6 := by
    refine .of_ite (fun _ => h5.trans (SamePeriod.modPsc _ n ?_)) fun _ => h5
    exact fun _ => rfl
  have h7 : SamePeriod n u s7 := h6.trans (.when _ (SamePeriod.trip _ n 1))
  refine ⟨u, _, d0, rfl, ?_, fun q hq => (href.regs q hq).trans (hs1 q hq),
    .of_ite (fun _ => h7.trans (pscPeriodEnd_period _ n)) fun _ => h7, fun _ _ _ _ => ?_⟩
  · rw [hu]
    exact (congrArg Prod.fst href.view).trans hk1
  · rw [hu]
end

/-! The other events of a channel (R404 to R408). -/

section
variable {s : State} {n : Fin 64}

theorem pscLoopUpdate_clause {v i v1 i1 : Fin 256} (hl : s.pscLead n = n.val) (h0 : s.reg (Reg.pscState n) ≠ 0) (hk : (s.psc n).k < 384) :
    Runs (.pscLoopUpdate n v i v1 i1) s fun t => (t.psc n).k = (s.psc n).k + 1 ∧
      (s.reg (Reg.pscState n) = 2 ∨ s.reg (Reg.pscState n) = 3 ∨ s.reg (Reg.pscState n) = 4 →
        0 ≤ s.reg (Reg.pscDutyMax n) → (s.psc n).hard = false →
        (t.psc n).d ≤ s.reg (Reg.pscDutyMax n) * 268435456 ∧ -(s.reg (Reg.pscDutyMax n) * 268435456) ≤ (t.psc n).d) ∧
      SameRegs s t [Reg.pscClamp n, Reg.pscOcCycles n, Reg.pscEvents n, Reg.notifyDropped] ∧ SameMem s t := by
  have hcount : ¬(s.pscLead n ≠ n.val ∨ s.reg (Reg.pscState n) = 0 ∨ 384 ≤ (s.psc n).k) := by
    rintro (h | h | h)
    · exact h hl
    · exact h0 h
    · omega
  obtain ⟨u, t, d0, hexec, hku, hregs, hperiod, hduty⟩ := pscLoopUpdate_counts (v := v) (i := i) (v1 := v1) (i1 := i1) hcount
  refine runs_of_exec rfl hexec fun hm => ⟨(congrArg Prod.fst hperiod.view).trans hku, fun hst hmax hhard => ?_,
    fun q hq => (hperiod.regs q hq).trans (hregs q hq), hm⟩
  have hd : (t.psc n).d = clampDuty d0 (s.reg (Reg.pscDutyMax n) * 268435456) :=
    (congrArg Prod.snd hperiod.view).trans (hduty (by omega) (by omega) (by omega) hhard)
  rw [hd]
  exact clampDuty_le (by omega)

theorem pscSenseLoss_trips (h1 : 1 ≤ s.reg (Reg.pscState (s.pscLead n))) (h4 : s.reg (Reg.pscState (s.pscLead n)) ≤ 4) :
    exec (.pscSenseLoss n) s = .next (s.pscTrip (s.pscLead n) 5) := if_pos ⟨h1, h4⟩
theorem pscSenseLoss_resting (h : s.reg (Reg.pscState (s.pscLead n)) < 1 ∨ 4 < s.reg (Reg.pscState (s.pscLead n))) :
    exec (.pscSenseLoss n) s = .next s := if_neg (by omega)
theorem psc_pscTrip (s : State) (n c : Nat) : ((s.pscTrip n c).psc n).trip = some ((s.psc n).trip.getD c) ∧ ((s.pscTrip n c).psc n).hard = true := by
  unfold State.pscTrip
  rw [psc_modPsc_same]
  dsimp only
  cases (s.psc n).trip <;> exact ⟨rfl, rfl⟩

theorem pscAutoRestart_begins (hst : s.reg (Reg.pscState n) = 6) (hf : s.reg (Reg.pscFault n) = 2) (hl : (s.psc n).latched = false)
    (hr : (s.psc n).noRestart = false) (ht : (s.psc n).restartAt ≤ s.tick) (hc : s.cycle = 0) :
    exec (.pscAutoRestart n) s = .next (s.pscBegin n false) := if_pos ⟨hst, hf, by rw [hl]; rfl, by rw [hr]; rfl, ht, hc⟩
theorem pscAutoRestart_waits (h : s.reg (Reg.pscState n) ≠ 6 ∨ s.reg (Reg.pscFault n) ≠ 2 ∨ (s.psc n).latched = true ∨
    (s.psc n).noRestart = true ∨ s.tick < (s.psc n).restartAt ∨ s.cycle ≠ 0) : exec (.pscAutoRestart n) s = .next s := by
  refine if_neg ?_
  rintro ⟨hst, hf, hl, hr, ht, hc⟩
  rcases h with h | h | h | h | h | h
  · exact h hst
  · exact h hf
  · simp [h] at hl
  · simp [h] at hr
  · exact Nat.not_le.mpr h ht
  · exact h hc

theorem pscCarrierStop_none (h : (s.psc n).cstop = false) : exec (.pscCarrierStop n) s = .next s := if_pos (by rw [h]; rfl)
theorem pscCarrierStop_rests (h : (s.psc n).cstop = true) : Runs (.pscCarrierStop n) s fun t =>
    t.reg (Reg.pscState n) = (if (s.psc n).toDorm then 5 else 0) ∧ (t.psc n).cstop = false ∧ (t.psc n).leg0.riseA = none ∧
    SameRegs s t [Reg.pscState n, Reg.pscState (n.val + 1), Reg.pscEvents n, Reg.notifyDropped] ∧ SameMem s t := by
  have hrun : ∃ k : Int, exec (.pscCarrierStop n) s = .next (if (s.psc n).toDorm then
      (s.pscRest n (if (s.psc n).toDorm then 5 else 0) k).pscEvent n 0 else s.pscRest n (if (s.psc n).toDorm then 5 else 0) k) :=
    ⟨_, if_neg (by rw [h]; simp)⟩
  obtain ⟨k, hexec⟩ := hrun
  refine runs_of_exec rfl hexec fun hm => ?_
  revert hm
  have hrest := pscRest_frame (s := s) (n := n) (if (s.psc n).toDorm then 5 else 0) k
  generalize s.pscRest n (if (s.psc n).toDorm then 5 else 0) k = u at hrest ⊢
  obtain ⟨hst, hstop, hrise, -, -, hregs⟩ := hrest
  have hevent : SameStages [Reg.pscEvents n, Reg.notifyDropped] u (if (s.psc n).toDorm then u.pscEvent n 0 else u) :=
    .of_ite (fun _ => sameStages_pscEvent u n 0) fun _ => .refl u
  generalize (if (s.psc n).toDorm then u.pscEvent n 0 else u) = t at hevent ⊢
  intro hm
  refine ⟨(hevent.regs _ (by simp)).trans hst, ?_, ?_, fun q hq => ?_, hm⟩
  · rw [SameStages.psc hevent]
    exact hstop
  · rw [SameStages.psc hevent]
    exact hrise
  · simp only [List.mem_cons, List.not_mem_nil, or_false, not_or] at hq
    obtain ⟨h1, h2, h3, h4⟩ := hq
    exact (hevent.regs q (by simp [h3, h4])).trans (hregs q (by simp [h1, h2]))

theorem pscZWindowEnd_quiet (h : s.reg (Reg.pscPilot n) = 0 ∨ s.reg (Reg.pscState n) ≠ 3 ∨
    s.tick % (if s.reg (Reg.pscPilot n) = 1 then s.tps else s.tps / 10) ≠ 0) : exec (.pscZWindowEnd n) s = .next s := if_pos h

/-- The sums of a channel's impedance window. -/
@[reducible] def State.window (n : Nat) (s : State) : (Int × Int) × (Int × Int) := ((s.psc n).zv, (s.psc n).zi)
/-- A state that follows from another by registers of a set, the window's sums as before. -/
@[reducible] def SameWindow (n : Nat) (l : List Reg) (s t : State) : Prop := Only (State.window n) (· ∈ l) s t

theorem SameWindow.event (s : State) (n b : Nat) : SameWindow n [Reg.pscEvents n, Reg.notifyDropped] s (s.pscEvent n b) := by
  have h := sameStages_pscEvent s n b
  refine ⟨?_, h.regs⟩
  unfold State.window
  rw [SameStages.psc h n]
theorem SameWindow.trip (s : State) (n c : Nat) (l : List Reg) : SameWindow n l s (s.pscTrip n c) := by
  refine ⟨?_, fun _ _ => rfl⟩
  unfold State.window State.pscTrip
  rw [psc_modPsc_same]

/-- The registers that report an impedance window. -/
@[reducible] def State.reportWindow (s : State) (n : Nat) (mag : Int) : State :=
  s.setRegs [(Reg.pscZMag n, mag), (Reg.pscZPhase n, ratioAngle (s.psc n).zv (s.psc n).zi), (Reg.pscZValid n, if (s.psc n).zClean then 1 else 0)]

theorem pscZWindowEnd_runs (h : ¬(s.reg (Reg.pscPilot n) = 0 ∨ s.reg (Reg.pscState n) ≠ 3 ∨
    s.tick % (if s.reg (Reg.pscPilot n) = 1 then s.tps else s.tps / 10) ≠ 0)) : ∃ (u t : State) (mag : Int), exec (.pscZWindowEnd n) s = .next t ∧
      u.regs = (s.reportWindow n mag).regs ∧ (u.psc n).zv = (0, 0) ∧ (u.psc n).zi = (0, 0) ∧
      SameWindow n [Reg.pscEvents n, Reg.notifyDropped] u t := by
  show ∃ (u t : State) (mag : Int), execPscZWindowEnd n s = .next t ∧ _
  unfold execPscZWindowEnd
  extract_lets w x vf i2 v2 mag s1 s2 bad s3
  rw [if_neg (show ¬(s.reg (Reg.pscPilot n) = 0 ∨ s.reg (Reg.pscState n) ≠ 3 ∨ s.tick % w ≠ 0) from h)]
  have hs2 : s2.regs = (s.reportWindow n mag).regs ∧ s2.psc n = s1.psc n := by
    unfold s2
    split <;> exact ⟨rfl, rfl⟩
  have hx : s1.psc n = { s.psc n with zv := (0, 0), zi := (0, 0), zClean := true } := psc_modPsc_same _ n _
  refine ⟨s2, _, mag, rfl, hs2.1, ?_, ?_, .trans (.when bad (SameWindow.event s2 n 6)) (.when _ (SameWindow.trip _ n 4 _))⟩
  · rw [hs2.2, hx]
  · rw [hs2.2, hx]

theorem pscZWindowEnd_reports (hp : s.reg (Reg.pscPilot n) ≠ 0) (hst : s.reg (Reg.pscState n) = 3)
    (ht : s.tick % (if s.reg (Reg.pscPilot n) = 1 then s.tps else s.tps / 10) = 0) : Runs (.pscZWindowEnd n) s fun t =>
      t.reg (Reg.pscZValid n) = (if (s.psc n).zClean then 1 else 0) ∧
      t.reg (Reg.pscZPhase n) = ratioAngle (s.psc n).zv (s.psc n).zi ∧ (t.psc n).zv = (0, 0) ∧ (t.psc n).zi = (0, 0) ∧
      SameRegs s t [Reg.pscZMag n, Reg.pscZPhase n, Reg.pscZValid n, Reg.pscEvents n, Reg.notifyDropped] ∧ SameMem s t := by
  have hdue : ¬(s.reg (Reg.pscPilot n) = 0 ∨ s.reg (Reg.pscState n) ≠ 3 ∨
      s.tick % (if s.reg (Reg.pscPilot n) = 1 then s.tps else s.tps / 10) ≠ 0) := by
    rintro (h | h | h)
    · exact hp h
    · exact h hst
    · exact h ht
  obtain ⟨u, t, mag, hexec, hregs, hv, hi, hwin⟩ := pscZWindowEnd_runs hdue
  refine runs_of_exec rfl hexec fun hm => ⟨?_, ?_, (congrArg Prod.fst hwin.view).trans hv, (congrArg Prod.snd hwin.view).trans hi, fun q hq => ?_, hm⟩
  · rw [hwin.regs _ (by simp), reg_of_regs hregs]
    exact reg_setReg_same _ _ _
  · rw [hwin.regs _ (by simp), reg_of_regs hregs]
    exact (reg_setReg_other _ _ _ _ (by simp)).trans (reg_setReg_same _ _ _)
  · simp only [List.mem_cons, List.not_mem_nil, or_false, not_or] at hq
    obtain ⟨h1, h2, h3, h4, h5⟩ := hq
    rw [hwin.regs q (by simp [h4, h5]), reg_of_regs hregs]
    exact (reg_setReg_other _ _ _ _ h3).trans ((reg_setReg_other _ _ _ _ h2).trans (reg_setReg_other _ _ _ _ h1))
end

/-- Settles O37: the transitions at a boundary act on a channel whose gains and temperatures leave them alone; a loop period's parts
keep its count and its clamped duty. -/
theorem powerStageControl : Obligations.PowerStageControl := by
  intro n s
  refine ⟨fun hdue => ⟨fun x halone hlead hb hs hcool hawake hagain hcs => ?_, fun g v i hx hblob => ?_⟩, fun v i v1 i1 => ⟨pscLoopUpdate_clause, pscLoopUpdate_idle⟩, ?_,
    fun hst hf hl hr ht hc => ?_, pscAutoRestart_waits, pscCarrierStop_rests, pscCarrierStop_none, ?_⟩
  · have hc : CoolChannel s n x := ⟨hdue, halone, hlead, hb, hcool, hawake, hagain, hcs⟩
    exact ⟨hc.steps, fun k => hc.starts, fun k v => hc.stops, fun c => hc.trips⟩
  · have hexec := pscBoundary_reads (q := v) hdue hx hblob
    refine runs_of_exec rfl hexec fun hm => ⟨?_, hm⟩
    rw [reg_of_regs (pscTempBlock_frame _ _).2]
    exact takeTemps_reg i
  · rintro x rfl
    refine ⟨fun h1 h4 => ?_, pscSenseLoss_resting⟩
    have hexec := pscSenseLoss_trips h1 h4
    obtain ⟨htrip, hhard⟩ := psc_pscTrip s (s.pscLead n) 5
    exact runs_of_exec rfl hexec fun hm => ⟨htrip, hhard, fun _ _ => rfl, hm⟩
  · have hexec := pscAutoRestart_begins hst hf hl hr ht hc
    obtain ⟨h1, h2, h3, -, -, hregs⟩ := pscBegin_frame (s := s) (n := n) false
    exact runs_of_exec rfl hexec fun hm => ⟨h1, h2, h3, hregs, hm⟩
  · rintro w rfl
    exact ⟨pscZWindowEnd_reports, pscZWindowEnd_quiet⟩

end Sys2Proof.Machine
end

section
/-!
PROOFS. Grants, releases, scrub and quotas (07, R197 to R206).
-/
namespace Sys2Proof.Machine

/-! Batches of records (R202, R203). -/

section
variable {s u : State} {p : Fin 16} {batch : List Byte}

theorem flashed_reports (s : State) : Reports s s.flashed [Reg.flashPending] := .when _ (.bump (by simp))
theorem assigned_reports (s : State) (p : Nat) : Reports s (s.assigned p) [Reg.flashPending] :=
  (Reports.when _ (flashed_reports s)).trans (.reply _ 0 _)
theorem assigned_pending (h : s.reg (Reg.assignStatus p) ≠ 0) : s.assigned p = s.reply 0 := by
  rw [State.assigned, show (s.reg (Reg.assignStatus p) == 0) = false from beq_false_of_ne h]
  rfl
theorem assignStatus_reports (s : State) (p c pos : Nat) : Reports s (s.assignStatus p c pos) [Reg.assignStatus p, Reg.assignDetail p] :=
  (Reports.setReg (by simp) _).trans (.setReg (by simp) _)
theorem assignStatus_not_pending (p : Fin 16) : Reg.assignStatus p ∉ [Reg.flashPending] := by simp; omega
theorem assignStatus_regs (s : State) (p c pos : Nat) : (s.assignStatus p c pos).reg (Reg.assignStatus p) = c ∧
    (s.assignStatus p c pos).reg (Reg.assignDetail p) = pos :=
  ⟨(reg_setReg_other _ _ _ _ (by simp)).trans (reg_setReg_same _ _ _), reg_setReg_same _ _ _⟩

/-- A batch of a plot: its effect, and the answer. -/
theorem exec_batch (grant : Bool) : exec (if grant then .assignGrant p batch else .assignRelease p batch) s =
    .next ((s.takeBatch p grant batch).assigned p) := by
  cases grant <;> rfl
theorem takeBatch_resetting (grant : Bool) (h : s.reg (Reg.plotState p) = 3) : s.takeBatch p grant batch = s.assignStatus p 0x15 0 := if_pos h
theorem takeBatch_checking (grant : Bool) (h : s.reg (Reg.plotState p) ≠ 3) (hl : s.reg (Reg.lastState p) = 2) :
    s.takeBatch p grant batch = (s.modPlot p fun x => { x with waiting := x.waiting ++ [(grant, batch)] }).setReg (Reg.assignStatus p) 1 :=
  (if_neg h).trans (if_pos hl)
theorem takeBatch_assigns (grant : Bool) (h : s.reg (Reg.plotState p) ≠ 3) (hl : s.reg (Reg.lastState p) ≠ 2) :
    s.takeBatch p grant batch = s.assign p grant batch := (if_neg h).trans (if_neg hl)
theorem assign_malformed (grant : Bool) (h : batch = [] ∨ 4096 < batch.length ∨ batch.length % 16 ≠ 0) :
    s.assign p grant batch = s.assignStatus p 0x10 0 := if_pos h
theorem wellFormedBatch (h0 : batch ≠ []) (hl : batch.length ≤ 4096) (h16 : batch.length % 16 = 0) :
    ¬(batch = [] ∨ batch.length > 4096 ∨ batch.length % 16 ≠ 0) := by
  rintro (h | h | h)
  · exact h0 h
  · omega
  · exact h h16

/-- The outcome of a good batch's checks. -/
@[reducible] def State.batchFault (s : State) (p : Nat) (grant : Bool) (recs : List (List Byte)) : Option (Nat × Nat) :=
  if grant then s.grantFault p 0 [] recs else s.releaseFault p 0 [] recs
theorem assign_refused {grant : Bool} (hb : ¬(batch = [] ∨ batch.length > 4096 ∨ batch.length % 16 ≠ 0)) {c pos : Nat}
    (hf : s.batchFault p grant (records 16 batch) = some (c, pos)) : s.assign p grant batch = s.assignStatus p c pos := by
  unfold State.assign
  rw [if_neg hb]
  dsimp only
  rw [show (if grant = true then s.grantFault p 0 [] (records 16 batch) else s.releaseFault p 0 [] (records 16 batch)) = _ from hf]
theorem assign_granted (hb : ¬(batch = [] ∨ batch.length > 4096 ∨ batch.length % 16 ≠ 0))
    (hf : s.grantFault p 0 [] (records 16 batch) = none) : s.assign p true batch =
      { s.setReg (Reg.assignStatus p) 0 with holdings := s.holdings ++ (records 16 batch).map (unitsHeld p) } := by
  unfold State.assign
  rw [if_neg hb]
  dsimp only
  rw [if_pos rfl, hf]
  rfl
theorem assign_released (hb : ¬(batch = [] ∨ batch.length > 4096 ∨ batch.length % 16 ≠ 0))
    (hf : s.releaseFault p 0 [] (records 16 batch) = none) : s.assign p false batch =
      (s.setReg (Reg.assignStatus p) 0).modPlot p fun x =>
        { x with releases := x.releases ++ (records 16 batch).map fun r => (s.after 1, unitsHeld p r) } := by
  unfold State.assign
  rw [if_neg hb]
  dsimp only
  rw [if_neg (by simp), hf]
  dsimp only
  rw [if_neg (by simp), List.map_map]
  rfl

/-- A batch that is refused keeps holdings and releases. -/
theorem runs_refusedBatch {grant : Bool} {c pos : Nat} (h : s.takeBatch p grant batch = s.assignStatus p c pos) :
    Runs (if grant then .assignGrant p batch else .assignRelease p batch) s fun t =>
      t.reg (Reg.assignStatus p) = c ∧ t.reg (Reg.assignDetail p) = pos ∧ t.holdings = s.holdings ∧ (t.plot p).releases = (s.plot p).releases ∧
      SameRegs s t [Reg.assignStatus p, Reg.assignDetail p, Reg.flashPending] ∧ SameMem s t := by
  obtain ⟨hstatus, hdetail⟩ := assignStatus_regs s p c pos
  have h1 := assignStatus_reports s p c pos
  have h2 := assigned_reports (s.assignStatus p c pos) p
  have hr : Reports s ((s.assignStatus p c pos).assigned p) [Reg.assignStatus p, Reg.assignDetail p, Reg.flashPending] :=
    (h1.mono (by simp)).trans (h2.mono (by simp))
  refine ⟨_, (exec_batch grant).trans (by rw [h]), ?_, ?_, hr.field State.holdings fun _ => rfl, ?_, hr.2, hr.sameMem⟩
  · exact (h2.2 _ (assignStatus_not_pending p)).trans hstatus
  · exact (h2.2 _ (by simp)).trans hdetail
  · exact congrArg PlotSt.releases (plot_of_plots hr.plots p)

theorem runs_grants (h : s.reg (Reg.plotState p) ≠ 3) (hl : s.reg (Reg.lastState p) ≠ 2)
    (hb : ¬(batch = [] ∨ batch.length > 4096 ∨ batch.length % 16 ≠ 0)) (hf : s.grantFault p 0 [] (records 16 batch) = none) :
    Runs (.assignGrant p batch) s fun t => t.holdings = s.holdings ++ (records 16 batch).map (unitsHeld p) ∧
      t.reg (Reg.assignStatus p) = 0 ∧ t.answer.status = 0 ∧ SameRegs s t [Reg.assignStatus p, Reg.flashPending] ∧ SameMem s t := by
  have htake := (takeBatch_assigns true h hl).trans (assign_granted hb hf)
  have hexec : exec (.assignGrant p batch) s = .next ((s.takeBatch p true batch).assigned p) := rfl
  rw [htake] at hexec
  have hset : SameRegs s { s.setReg (Reg.assignStatus p) 0 with holdings := s.holdings ++ (records 16 batch).map (unitsHeld p) }
      [Reg.assignStatus p, Reg.flashPending] := SameRegs.setReg (by simp) 0
  have hstatus : State.reg { s.setReg (Reg.assignStatus p) 0 with holdings := s.holdings ++ (records 16 batch).map (unitsHeld p) }
      (Reg.assignStatus p) = 0 := reg_setReg_same _ _ _
  have hheld : State.holdings { s.setReg (Reg.assignStatus p) 0 with holdings := s.holdings ++ (records 16 batch).map (unitsHeld p) } =
      s.holdings ++ (records 16 batch).map (unitsHeld p) := rfl
  generalize ({ s.setReg (Reg.assignStatus p) 0 with holdings := s.holdings ++ (records 16 batch).map (unitsHeld p) } : State) = u at hexec hset hstatus hheld
  have h2 := assigned_reports u p
  exact runs_of_exec rfl hexec fun hm => ⟨(h2.field State.holdings fun _ => rfl).trans hheld, (h2.2 _ (assignStatus_not_pending p)).trans hstatus, rfl,
    hset.trans (h2.2.mono (by simp)), hm⟩

theorem runs_releases (h : s.reg (Reg.plotState p) ≠ 3) (hl : s.reg (Reg.lastState p) ≠ 2)
    (hb : ¬(batch = [] ∨ batch.length > 4096 ∨ batch.length % 16 ≠ 0)) (hf : s.releaseFault p 0 [] (records 16 batch) = none) :
    Runs (.assignRelease p batch) s fun t => t.holdings = s.holdings ∧
      (t.plot p).releases = (s.plot p).releases ++ (records 16 batch).map (fun r => (s.after 1, unitsHeld p r)) ∧
      t.reg (Reg.assignStatus p) = 0 ∧ SameRegs s t [Reg.assignStatus p, Reg.flashPending] ∧ SameMem s t := by
  have htake := (takeBatch_assigns false h hl).trans (assign_released hb hf)
  have hexec : exec (.assignRelease p batch) s = .next ((s.takeBatch p false batch).assigned p) := rfl
  rw [htake] at hexec
  have hplot := plot_modPlot_same (s := s.setReg (Reg.assignStatus p) 0) (p := p.val) fun x =>
    { x with releases := x.releases ++ (records 16 batch).map fun r => (s.after 1, unitsHeld p r) }
  have hset : SameRegs s ((s.setReg (Reg.assignStatus p) 0).modPlot p fun x =>
    { x with releases := x.releases ++ (records 16 batch).map fun r => (s.after 1, unitsHeld p r) })
      [Reg.assignStatus p, Reg.flashPending] := SameRegs.setReg (by simp) 0
  have hstatus : ((s.setReg (Reg.assignStatus p) 0).modPlot p fun x =>
    { x with releases := x.releases ++ (records 16 batch).map fun r => (s.after 1, unitsHeld p r) }).reg
      (Reg.assignStatus p) = 0 := reg_setReg_same _ _ _
  have hheld := modPlot_holdings (s.setReg (Reg.assignStatus p) 0) p fun x =>
    { x with releases := x.releases ++ (records 16 batch).map fun r => (s.after 1, unitsHeld p r) }
  generalize ((s.setReg (Reg.assignStatus p) 0).modPlot p fun x =>
    { x with releases := x.releases ++ (records 16 batch).map fun r => (s.after 1, unitsHeld p r) }) = u at hexec hset hstatus hheld hplot
  have h2 := assigned_reports u p
  exact runs_of_exec rfl hexec fun hm => ⟨(h2.field State.holdings fun _ => rfl).trans hheld,
    (congrArg PlotSt.releases (plot_of_plots h2.plots p)).trans (congrArg PlotSt.releases hplot), (h2.2 _ (assignStatus_not_pending p)).trans hstatus,
    hset.trans (h2.2.mono (by simp)), hm⟩

theorem runs_waitingBatch (grant : Bool) (h : s.reg (Reg.plotState p) ≠ 3) (hl : s.reg (Reg.lastState p) = 2) :
    Runs (if grant then .assignGrant p batch else .assignRelease p batch) s fun t => t.reg (Reg.assignStatus p) = 1 ∧
      (t.plot p).waiting = (s.plot p).waiting ++ [(grant, batch)] ∧ t.holdings = s.holdings ∧
      SameRegs s t [Reg.assignStatus p] ∧ SameMem s t := by
  have hexec := exec_batch (s := s) (p := p) (batch := batch) grant
  have hstatus : ((s.modPlot p fun x => { x with waiting := x.waiting ++ [(grant, batch)] }).setReg (Reg.assignStatus p) 1).reg
      (Reg.assignStatus p) = 1 := reg_setReg_same _ _ _
  rw [takeBatch_checking grant h hl, assigned_pending (by rw [hstatus]; decide)] at hexec
  refine ⟨_, hexec, hstatus, ?_, rfl, ?_, fun _ => rfl⟩
  · exact congrArg PlotSt.waiting (plot_modPlot_same (s := s) (p := p.val) fun x => { x with waiting := x.waiting ++ [(grant, batch)] })
  · exact sameRegs_setReg (s := s) rfl _ _
end
/-! Units enter SCRUBBING (R203, R205 to R207). -/

/-- What the stop of a unit leaves alone. -/
@[reducible] def State.grants (s : State) : List Holding × NTable PlotSt × Nat := (s.holdings, s.plots, s.tick)

section
variable (s : State)

theorem streamCut_grants (rx : Bool) (n : Nat) : (s.streamCut rx n).grants = s.grants := by
  have hacts : (s.setActs rx n []).grants = s.grants := by cases rx <;> rfl
  have hhalt (u : State) : (u.streamHalt rx n).grants = u.grants := by
    unfold State.streamHalt
    cases rx
    · exact setRegs_keeps (g := State.grants) (fun _ _ _ => rfl) u _
    · exact setRegs_keeps (g := State.grants) (fun _ _ _ => rfl) u _
  have hfresh (u : State) : u.refreshMc.grants = u.grants := rfl
  unfold State.streamCut
  dsimp only
  split_ifs
  · exact (hhalt _).trans hacts
  · exact (hfresh _).trans hacts
  · exact hacts
theorem sapCut_grants (n : Nat) : (s.sapCut n).grants = s.grants := by
  unfold State.sapCut
  dsimp only
  split_ifs <;> rfl
theorem pscSet_grants (n : Nat) (st : Int) : (s.pscSet n st).grants = s.grants :=
  overL_keeps (g := State.grants) (s.pscLegs n) s fun _ _ _ => rfl
theorem pscCut_grants (n : Nat) : (s.pscCut n).grants = s.grants := by
  unfold State.pscCut
  dsimp only
  split_ifs
  · rfl
  · refine (overL_keeps (g := State.grants) (f := fun s k => s.setReg (Reg.pscFault k) 0) _ _ fun _ _ _ => rfl).trans ?_
    exact pscSet_grants _ _ _
  · exact pscSet_grants _ _ _
theorem cutUnit_grants (h : Holding) : (s.cutUnit h).grants = s.grants := by
  refine overN_keeps (g := State.grants) h.count s fun u i _ => ?_
  dsimp only
  split
  · exact streamCut_grants u true _
  · exact streamCut_grants u false _
  · exact sapCut_grants u _
  · exact pscCut_grants u _
  · rfl

/-- One part of a holding enters SCRUBBING. -/
def State.scrubPart (returns : Bool) (s : State) (h : Holding) : State :=
  let s1 := if stopKind h.kind then s.cutUnit h else s
  let e := s1.scrubEnd h
  let now : Holding := { h with scrub := some (e.1, returns), used := e.2 }
  let rest := s1.holdings.flatMap fun x => if x.plot = h.plot && x.scrub.isNone then x.cut h.range else [x]
  let cores : NTable CoreSt := if h.kind = 1 then s1.cores.map fun (e : Nat × CoreSt) =>
    if h.first ≤ e.1 ∧ e.1 < h.first + h.count then (e.1, e.2.stop) else e else s1.cores
  { s1 with cores := cores, holdings := rest ++ [now] }
theorem enterScrub_parts (h : Holding) (returns : Bool) : s.enterScrub h returns = overL h.parts (State.scrubPart returns) s := rfl

theorem scrubEnd_congr {s u : State} (hh : u.holdings = s.holdings) (ht : u.tick = s.tick) (h : Holding) : u.scrubEnd h = s.scrubEnd h := by
  unfold State.scrubEnd
  rw [hh, ht]

/-- A part's holding stands as it is scrubbed, and what its plot does not hold stays. -/
theorem scrubPart_frame (returns : Bool) (h : Holding) : { h with scrub := some ((s.scrubEnd h).1, returns), used := (s.scrubEnd h).2 } ∈
      (s.scrubPart returns h).holdings ∧
    (∀ g ∈ s.holdings, g.plot ≠ h.plot ∨ g.scrub ≠ none → g ∈ (s.scrubPart returns h).holdings) ∧
    (s.scrubPart returns h).plots = s.plots ∧ (s.scrubPart returns h).tick = s.tick := by
  have hg : (if stopKind h.kind then s.cutUnit h else s).grants = s.grants := by
    split
    · exact cutUnit_grants s h
    · rfl
  unfold State.scrubPart
  generalize (if stopKind h.kind then s.cutUnit h else s) = u at hg ⊢
  dsimp only
  rw [scrubEnd_congr (congrArg Prod.fst hg) (congrArg (fun x => x.2.2) hg)]
  refine ⟨List.mem_append_right _ (List.mem_singleton.mpr rfl), fun g hm ho => List.mem_append_left _ (List.mem_flatMap.mpr ⟨g, ?_, ?_⟩),
    congrArg (fun x => x.2.1) hg, congrArg (fun x => x.2.2) hg⟩
  · rw [show u.holdings = s.holdings from congrArg Prod.fst hg]
    exact hm
  · rw [if_neg]
    · exact List.mem_singleton.mpr rfl
    · rw [Bool.and_eq_true, decide_eq_true_eq, Option.isNone_iff_eq_none]
      rintro ⟨h1, h2⟩
      rcases ho with ho | ho
      · exact ho h1
      · exact ho h2

/-- What stays of the holdings while parts of a plot's units enter SCRUBBING. -/
structure ScrubStays (p : Nat) (s t : State) : Prop where
  held : ∀ g ∈ s.holdings, g.plot ≠ p ∨ g.scrub ≠ none → g ∈ t.holdings
  plots : t.plots = s.plots
  tick : t.tick = s.tick

theorem ScrubStays.refl (p : Nat) (s : State) : ScrubStays p s s := ⟨fun _ h _ => h, rfl, rfl⟩
theorem ScrubStays.trans {p : Nat} {s t u : State} (h : ScrubStays p s t) (h' : ScrubStays p t u) : ScrubStays p s u :=
  ⟨fun g hm ho => h'.held g (h.held g hm ho) ho, h'.plots.trans h.plots, h'.tick.trans h.tick⟩
theorem ScrubStays.of_overL {α : Type} {p : Nat} {f : State → α → State} (l : List α) (s : State) (h : ∀ s, ∀ x ∈ l, ScrubStays p s (f s x)) :
    ScrubStays p s (overL l f s) := by
  induction l generalizing s with
  | nil => exact .refl p s
  | cons x l ih => exact (h s x (.head _)).trans (ih _ fun s y hy => h s y (.tail _ hy))
theorem ScrubStays.part (returns : Bool) (h : Holding) : ScrubStays h.plot s (s.scrubPart returns h) :=
  have hf := scrubPart_frame s returns h
  ⟨hf.2.1, hf.2.2.1, hf.2.2.2⟩
theorem parts_plot {h x : Holding} (hx : x ∈ h.parts) : x.plot = h.plot ∧ x.kind = h.kind ∧ x.unit = h.unit := by
  unfold Holding.parts at hx
  split_ifs at hx
  · obtain ⟨i, -, rfl⟩ := List.mem_map.mp hx
    exact ⟨rfl, rfl, rfl⟩
  · obtain ⟨i, -, rfl⟩ := List.mem_map.mp hx
    exact ⟨rfl, rfl, rfl⟩
  · obtain rfl := List.mem_singleton.mp hx
    exact ⟨rfl, rfl, rfl⟩
theorem ScrubStays.enter (h : Holding) (returns : Bool) : ScrubStays h.plot s (s.enterScrub h returns) := by
  rw [enterScrub_parts]
  refine .of_overL _ s fun u x hx => ?_
  rw [← (parts_plot hx).1]
  exact .part u returns x

theorem parts_of_plain {h : Holding} (hk : stopKind h.kind = false) : h.parts = [h] := by
  unfold Holding.parts
  rw [if_neg (fun h27 => by rw [h27] at hk; exact absurd hk (by decide)), if_neg (by rw [hk]; decide)]
/-- A range that need not stop stands as it is scrubbed. -/
theorem enterScrub_plain {h : Holding} (hk : stopKind h.kind = false) (returns : Bool) :
    { h with scrub := some ((s.scrubEnd h).1, returns), used := (s.scrubEnd h).2 } ∈ (s.enterScrub h returns).holdings ∧
      (s.enterScrub h returns).regs = s.regs := by
  rw [enterScrub_parts, parts_of_plain hk]
  refine ⟨(scrubPart_frame s returns h).1, ?_⟩
  show (s.scrubPart returns h).regs = s.regs
  unfold State.scrubPart
  rw [hk]
  rfl
theorem scrubEnd_stops {h : Holding} (hk : stopKind h.kind = true) : s.scrubEnd h = (s.tick + 1, 0) := by
  have h4 : h.kind = 18 ∨ h.kind = 19 ∨ h.kind = 26 ∨ h.kind = 27 := by simpa [stopKind, or_assoc] using hk
  unfold State.scrubEnd
  rcases h4 with h | h | h | h <;> rw [h] <;> rfl
/-- Every part of a range that stops first stands as it is scrubbed, a tick on. -/
theorem enterScrub_stops {h : Holding} (hk : stopKind h.kind = true) (returns : Bool) :
    ∀ x ∈ h.parts, { x with scrub := some (s.tick + 1, returns), used := 0 } ∈ (s.enterScrub h returns).holdings := by
  rw [enterScrub_parts]
  suffices ∀ (l : List Holding) (u : State), u.tick = s.tick → (∀ x ∈ l, x.kind = h.kind ∧ x.plot = h.plot) →
      ∀ x ∈ l, { x with scrub := some (s.tick + 1, returns), used := 0 } ∈ (overL l (State.scrubPart returns) u).holdings from
    this _ s rfl fun x hx => ⟨(parts_plot hx).2.1, (parts_plot hx).1⟩
  intro l
  induction l with
  | nil => intro _ _ _ x hx; cases hx
  | cons y l ih =>
    intro u ht hl x hx
    obtain ⟨hin, -, -, htick⟩ := scrubPart_frame u returns y
    rcases List.mem_cons.mp hx with rfl | hx
    · have hend := scrubEnd_stops u (h := x) (by rw [(hl x (.head _)).1]; exact hk)
      rw [hend, ht] at hin
      refine (ScrubStays.of_overL (p := x.plot) l (u.scrubPart returns x) fun v z hz => ?_).held _ hin (.inr (by simp))
      rw [(hl x (.head _)).2, ← (hl z (.tail _ hz)).2]
      exact .part v returns z
    · exact ih _ (htick.trans ht) (fun z hz => hl z (.tail _ hz)) x hx
end
/-! What follows a change of a plot's holdings. -/

section
variable {s : State} {p : Fin 16}

theorem clearOver_reports (s : State) (p : Nat) : Reports s (s.clearOver p) [Reg.overMask p, Reg.plotFlags p] :=
  (Reports.setReg (by simp) _).trans (.setReg (by simp) _)
theorem refreshScrub_reports (s : State) (p : Nat) : Reports s (s.refreshScrub p) [Reg.plotFlags p] := .setReg (by simp) _
theorem bit_one_of_add_two (f : Nat) : bit ((f % 2 + 2 : Nat) : Int) 1 = true := by
  refine decide_eq_true ?_
  omega
theorem refreshScrub_flag {h : Holding} (hm : h ∈ s.holdings) (hp : h.plot = p.val) (hs : h.scrub ≠ none) :
    bit ((s.refreshScrub p).reg (Reg.plotFlags p)) 1 = true := by
  have hon : (s.holdings.any fun h => h.plot == p.val && h.scrub.isSome) = true :=
    List.any_eq_true.mpr ⟨h, hm, by rw [Bool.and_eq_true, beq_iff_eq, Option.isSome_iff_ne_none]; exact ⟨hp, hs⟩⟩
  unfold State.refreshScrub
  dsimp only
  rw [reg_setReg_same, hon]
  exact bit_one_of_add_two _

/-! Released units move to SCRUBBING (R203). -/

/-- The releases of a plot that are not due stay. -/
def PlotSt.keepReleases (k : Nat) (x : PlotSt) : PlotSt := { x with releases := x.releases.filter fun e => !decide (e.1 ≤ k) }
theorem exec_releaseTakeEffect : exec (.releaseTakeEffect p) s = .next
    (((overL ((s.plot p).releases.filter fun e => decide (e.1 ≤ s.tick)) (fun s e => s.enterScrub e.2 false)
      (s.modPlot p (PlotSt.keepReleases s.tick))).clearOver p).refreshScrub p) := rfl
theorem releaseTakeEffect_reports (s : State) (p : Nat) : Reports s ((s.clearOver p).refreshScrub p) [Reg.overMask p, Reg.plotFlags p] :=
  (clearOver_reports s p).trans ((refreshScrub_reports _ p).mono (by simp))
theorem releases_kept (s : State) (p : Nat) : ((s.modPlot p (PlotSt.keepReleases s.tick)).plot p).releases =
    (s.plot p).releases.filter fun e => !decide (e.1 ≤ s.tick) :=
  congrArg PlotSt.releases (plot_modPlot_same (s := s) (p := p) (PlotSt.keepReleases s.tick))

theorem releaseTakeEffect_none (h : ((s.plot p).releases.filter fun e => decide (e.1 ≤ s.tick)) = []) : Runs (.releaseTakeEffect p) s fun t =>
    t.holdings = s.holdings ∧ (t.plot p).releases = (s.plot p).releases ∧ SameRegs s t [Reg.overMask p, Reg.plotFlags p] ∧ SameMem s t := by
  have hall : ((s.plot p).releases.filter fun e => !decide (e.1 ≤ s.tick)) = (s.plot p).releases := by
    rw [List.filter_eq_self]
    intro e he
    simpa only [Bool.not_eq_true', Bool.not_eq_true] using List.filter_eq_nil_iff.mp h e he
  have hexec := exec_releaseTakeEffect (s := s) (p := p)
  rw [h] at hexec
  have hr := releaseTakeEffect_reports (s.modPlot p (PlotSt.keepReleases s.tick)) p
  refine runs_of_exec rfl hexec fun hm => ⟨hr.field State.holdings fun _ => rfl, ?_, (sameRegs_of_regs rfl _).trans hr.2, hm⟩
  exact (congrArg PlotSt.releases (plot_of_plots hr.plots p)).trans ((releases_kept s p).trans hall)

theorem releaseTakeEffect_one {k : Nat} {h : Holding} (hdue : (s.plot p).releases.filter (fun e => decide (e.1 ≤ s.tick)) = [(k, h)]) :
    ∃ u, exec (.releaseTakeEffect p) s = .next ((u.clearOver p).refreshScrub p) ∧
      u = (s.modPlot p (PlotSt.keepReleases s.tick)).enterScrub h false ∧
      (u.plot p).releases = (s.plot p).releases.filter fun e => !decide (e.1 ≤ s.tick) := by
  have hexec := exec_releaseTakeEffect (s := s) (p := p)
  rw [hdue] at hexec
  exact ⟨_, hexec, rfl, (congrArg PlotSt.releases (plot_of_plots (ScrubStays.enter _ h false).plots p)).trans (releases_kept s p)⟩

theorem releaseTakeEffect_plain {k : Nat} {h : Holding} (hdue : (s.plot p).releases.filter (fun e => decide (e.1 ≤ s.tick)) = [(k, h)])
    (hp : h.plot = p.val) (hk : stopKind h.kind = false) : Runs (.releaseTakeEffect p) s fun t =>
      { h with scrub := some ((s.scrubEnd h).1, false), used := (s.scrubEnd h).2 } ∈ t.holdings ∧
      (t.plot p).releases = (s.plot p).releases.filter (fun e => !decide (e.1 ≤ s.tick)) ∧
      bit (t.reg (Reg.plotFlags p)) 1 = true ∧ SameRegs s t [Reg.overMask p, Reg.plotFlags p] ∧ SameMem s t := by
  obtain ⟨u, hexec, hu, hrel⟩ := releaseTakeEffect_one hdue
  obtain ⟨hin, hregs⟩ := enterScrub_plain (s.modPlot p (PlotSt.keepReleases s.tick)) hk false
  rw [← hu] at hin hregs
  rw [scrubEnd_congr (s := s) (u := s.modPlot p (PlotSt.keepReleases s.tick)) rfl rfl] at hin
  have hr := releaseTakeEffect_reports u p
  have hheld : ((u.clearOver p).refreshScrub p).holdings = u.holdings := hr.field State.holdings fun _ => rfl
  refine runs_of_exec rfl hexec fun hm => ⟨hheld ▸ hin, (congrArg PlotSt.releases (plot_of_plots hr.plots p)).trans hrel, ?_,
    (sameRegs_of_regs hregs _).trans hr.2, hm⟩
  have hover : (u.clearOver p).holdings = u.holdings := (clearOver_reports u p).field State.holdings fun _ => rfl
  rw [← hover] at hin
  exact refreshScrub_flag hin hp (by simp)

theorem releaseTakeEffect_stops {k : Nat} {h : Holding} (hdue : (s.plot p).releases.filter (fun e => decide (e.1 ≤ s.tick)) = [(k, h)])
    (hk : stopKind h.kind = true) : Runs (.releaseTakeEffect p) s fun t =>
      (t.plot p).releases = (s.plot p).releases.filter (fun e => !decide (e.1 ≤ s.tick)) ∧ SameMem s t ∧
      ∀ x ∈ h.parts, { x with scrub := some (s.tick + 1, false), used := 0 } ∈ t.holdings := by
  obtain ⟨u, hexec, hu, hrel⟩ := releaseTakeEffect_one hdue
  have hin := enterScrub_stops (s.modPlot p (PlotSt.keepReleases s.tick)) hk false
  rw [← hu] at hin
  have hr := releaseTakeEffect_reports u p
  have hheld : ((u.clearOver p).refreshScrub p).holdings = u.holdings := hr.field State.holdings fun _ => rfl
  refine runs_of_exec rfl hexec fun hm => ⟨(congrArg PlotSt.releases (plot_of_plots hr.plots p)).trans hrel, hm, fun x hx => ?_⟩
  rw [hheld]
  exact hin x hx

/-! Quotas (R204). -/

theorem quota_badCode {code : Fin 256} {v : Nat} (h : code.val = 0 ∨ 16 < code.val) : Answers (.quota p code v) s 0x10 := if_pos h
theorem goodCode {code : Fin 256} (h1 : 1 ≤ code.val) (h16 : code.val ≤ 16) : ¬(code.val = 0 ∨ code.val > 16) := by omega
theorem quota_tooLarge {code : Fin 256} {v : Nat} (h1 : 1 ≤ code.val) (h16 : code.val ≤ 16) (h : 18446744073709551616 ≤ v) :
    Answers (.quota p code v) s 0x13 := (if_neg (goodCode h1 h16)).trans (if_pos h)

/-- A quota is written. -/
theorem quotaSet_reports (s : State) (p c v : Nat) : Reports s (s.setReg (Reg.quota p c) v).flashed [Reg.quota p c, Reg.flashPending] :=
  (Reports.setReg (by simp) _).trans ((flashed_reports _).mono (by simp))
theorem quota_not_pending (p : Fin 16) (c : Nat) : Reg.quota p c ∉ [Reg.flashPending] := by simp; omega
theorem quotaSet_quota (s : State) (p : Fin 16) (c v : Nat) : (s.setReg (Reg.quota p c) v).flashed.reg (Reg.quota p c) = v :=
  ((flashed_reports _).2 _ (quota_not_pending p c)).trans (reg_setReg_same _ _ _)

theorem runs_quota_within {code : Fin 256} {v : Nat} (h1 : 1 ≤ code.val) (h16 : code.val ≤ 16) (hv : v < 18446744073709551616)
    (hh : s.holdingOf p code ≤ v) : Runs (.quota p code v) s fun t => t.reg (Reg.quota p code) = v ∧ t.answer.status = 0 ∧
      t.holdings = s.holdings ∧ SameRegs s t [Reg.quota p code, Reg.flashPending, Reg.overMask p, Reg.plotFlags p] ∧ SameMem s t := by
  have hexec : exec (.quota p code v) s = .next (((s.setReg (Reg.quota p code) v).flashed.clearOver p).reply 0) :=
    (if_neg (goodCode h1 h16)).trans ((if_neg (Nat.not_le.mpr hv)).trans (if_pos hh))
  have hq := quotaSet_reports s p code v
  have hr := (clearOver_reports (s.setReg (Reg.quota p code) v).flashed p).trans (.reply _ 0 _)
  have hall := (hq.mono (l' := [Reg.quota p code, Reg.flashPending, Reg.overMask p, Reg.plotFlags p]) (by simp)).trans (hr.mono (by simp))
  refine runs_of_exec rfl hexec fun hm => ⟨?_, rfl, hall.field State.holdings fun _ => rfl, hall.2, hm⟩
  exact (hr.2 _ (by simp; omega)).trans (quotaSet_quota s p code v)

/-- The state where a quota below the holding has marked its plot. -/
def State.markOver (s : State) (p c : Nat) (v : Nat) : State :=
  (((s.setReg (Reg.quota p c) v).flashed.orReg (Reg.overMask p) (2 ^ c)).orReg (Reg.plotFlags p) 1).when
    (!bit (s.reg (Reg.plotFlags p)) 0) fun s => s.plotFault p 5
theorem markOver_frame (s : State) (p : Fin 16) {c : Nat} (hc : c ≤ 16) (v : Nat) : (s.markOver p c v).reg (Reg.quota p c) = v ∧
    bit ((s.markOver p c v).reg (Reg.overMask p)) c = true ∧ bit ((s.markOver p c v).reg (Reg.plotFlags p)) 0 = true ∧
    (s.markOver p c v).holdings = s.holdings ∧ (s.markOver p c v).plots = s.plots := by
  have hq := quotaSet_reports s p c v
  have hval := quotaSet_quota s p c v
  unfold State.markOver
  generalize (s.setReg (Reg.quota p c) v).flashed = u at hq hval ⊢
  have hover : bit ((u.orReg (Reg.overMask p) (2 ^ c)).reg (Reg.overMask p)) c = true := by
    rw [State.orReg, reg_setReg_same]
    exact bit_or_two_pow _ c
  have ho : Reports u (u.orReg (Reg.overMask p) (2 ^ c)) [Reg.overMask p] := .orReg (by simp) _
  generalize u.orReg (Reg.overMask p) (2 ^ c) = w at hover ho ⊢
  have hflag : bit ((w.orReg (Reg.plotFlags p) 1).reg (Reg.plotFlags p)) 0 = true := by
    rw [State.orReg, reg_setReg_same]
    exact bit_or_two_pow _ 0
  have hf : Reports w (w.orReg (Reg.plotFlags p) 1) [Reg.plotFlags p] := .orReg (by simp) _
  generalize w.orReg (Reg.plotFlags p) 1 = x at hflag hf ⊢
  have hfault : Reports x (x.when (!bit (s.reg (Reg.plotFlags p)) 0) fun s => s.plotFault p 5) [Reg.plotFault p, Reg.notifyDropped] :=
    .when _ (.plotFault (by simp) (by simp) 5)
  refine ⟨?_, ?_, ?_, ?_, ?_⟩
  · rw [hfault.2 _ (by simp; omega), hf.2 _ (by simp), ho.2 _ (by simp; omega), hval]
  · rw [hfault.2 _ (by simp), hf.2 _ (by simp), hover]
  · rw [hfault.2 _ (by simp), hflag]
  · exact (hfault.field State.holdings fun _ => rfl).trans ((hf.field State.holdings fun _ => rfl).trans ((ho.field State.holdings fun _ => rfl).trans (hq.field State.holdings fun _ => rfl)))
  · exact hfault.plots.trans (hf.plots.trans (ho.plots.trans hq.plots))

theorem runs_quota_below {code : Fin 256} {v : Nat} (h1 : 1 ≤ code.val) (h16 : code.val ≤ 16) (hv : v < 18446744073709551616)
    (hh : v < s.holdingOf p code) : Runs (.quota p code v) s fun t =>
      t.reg (Reg.quota p code) = v ∧ bit (t.reg (Reg.overMask p)) code = true ∧ bit (t.reg (Reg.plotFlags p)) 0 = true ∧
      t.holdings = s.holdings ∧ SameMem s t ∧
      (∀ l, (s.plot p).shadow = some l → s.reg (Reg.lastState p) = 3 → (∃ k ∈ l.claims, k.code = code.val ∧ v < k.amount) →
        (t.plot p).shadow = none ∧ t.reg (Reg.lastError p) = 0x0D) := by
  have hexec : exec (.quota p code v) s = (match (s.plot p).shadow with
      | some l =>
        if s.reg (Reg.lastState p) = 3 ∧ l.claims.any fun k => k.code == code.val && decide (k.amount > v) then
          .next ((((s.markOver p code v).dropImage p 0x0D).logEvent 0x0305 1 p code l.serial).reply 0)
        else .next ((s.markOver p code v).reply 0)
      | none => .next ((s.markOver p code v).reply 0)) :=
    (if_neg (goodCode h1 h16)).trans ((if_neg (Nat.not_le.mpr hv)).trans (if_neg (Nat.not_le.mpr hh)))
  obtain ⟨hq, hover, hflag, hheld, hplots⟩ := markOver_frame s p (c := code.val) h16 v
  generalize s.markOver p code v = u at hexec hq hover hflag hheld hplots
  have hreply : exec (.quota p code v) s = .next (u.reply 0) →
      (∀ l, (s.plot p).shadow = some l → s.reg (Reg.lastState p) = 3 → ¬∃ k ∈ l.claims, k.code = code.val ∧ v < k.amount) →
      Runs (.quota p code v) s fun t =>
      t.reg (Reg.quota p code) = v ∧ bit (t.reg (Reg.overMask p)) code = true ∧ bit (t.reg (Reg.plotFlags p)) 0 = true ∧
      t.holdings = s.holdings ∧ SameMem s t ∧
      (∀ l, (s.plot p).shadow = some l → s.reg (Reg.lastState p) = 3 → (∃ k ∈ l.claims, k.code = code.val ∧ v < k.amount) →
        (t.plot p).shadow = none ∧ t.reg (Reg.lastError p) = 0x0D) :=
    fun he hn => runs_of_exec rfl he fun hm => ⟨hq, hover, hflag, hheld, hm, fun l hl h3 hk => absurd hk (hn l hl h3)⟩
  rcases hsh : (s.plot p).shadow with _ | l
  · rw [hsh] at hexec hreply
    exact hreply hexec fun l hl => by cases hl
  · rw [hsh] at hexec hreply
    dsimp only at hexec
    by_cases hcl : s.reg (Reg.lastState p) = 3 ∧ l.claims.any (fun k => k.code == code.val && decide (k.amount > v)) = true
    · rw [if_pos hcl] at hexec
      have hd := dropImage_regs (s := u) (p := p.val) (code := 0x0D)
      have hdp := dropImage_plot (s := u) (p := p.val) (code := 0x0D)
      have hde := dropImage_error (s := u) (p := p.val) (code := 0x0D)
      have hdh : (u.dropImage p 0x0D).holdings = u.holdings := setRegs_keeps (g := State.holdings) (fun _ _ _ => rfl) _ _
      generalize u.dropImage p 0x0D = w at hexec hd hdp hde hdh
      refine runs_of_exec rfl hexec fun hm => ⟨?_, ?_, ?_, hdh.trans hheld, hm, fun _ _ _ _ => ⟨?_, hde⟩⟩
      · exact (hd _ (by simp)).trans hq
      · rw [← hover]
        exact congrArg (bit · code) (hd _ (by simp))
      · rw [← hflag]
        exact congrArg (bit · 0) (hd _ (by simp))
      · exact congrArg PlotSt.shadow hdp
    · rw [if_neg hcl] at hexec
      refine hreply hexec fun l' hl' h3 hk => hcl ⟨h3, ?_⟩
      obtain rfl : l = l' := Option.some.inj hl'
      obtain ⟨k, hk, hc, ha⟩ := hk
      exact List.any_eq_true.mpr ⟨k, hk, by rw [Bool.and_eq_true, beq_iff_eq, decide_eq_true_eq]; exact ⟨hc, ha⟩⟩

/-! Units above quota are trimmed (R205). -/

theorem mem_takeTop {a g : Nat} {x : Holding} (need : Nat) (l : List Holding) (hx : x ∈ takeTop a g need l) : ∃ h ∈ l, x.plot = h.plot := by
  induction l generalizing need with
  | nil =>
    rw [takeTop] at hx
    cases hx
  | cons h l ih =>
    cases need with
    | zero =>
      rw [takeTop.eq_def] at hx
      cases hx
    | succ need =>
      rw [takeTop] at hx
      rcases List.mem_cons.mp hx with rfl | hx
      · exact ⟨h, .head _, rfl⟩
      · obtain ⟨y, hy, he⟩ := ih _ hx
        exact ⟨y, .tail _ hy, he⟩
theorem cut_plot {h x : Holding} {u : UnitRange} (hx : x ∈ h.cut u) : x.plot = h.plot := by
  unfold Holding.cut at hx
  dsimp only at hx
  split_ifs at hx <;> simp only [List.mem_append, List.mem_singleton, List.not_mem_nil, or_false, false_or] at hx
  · exact (congrArg Holding.plot hx :)
  · rcases hx with rfl | rfl <;> rfl
  · exact (congrArg Holding.plot hx :)
  · exact (congrArg Holding.plot hx :)
theorem align_plot {h x : Holding} {g : Nat} (hx : x ∈ h.align g) : x.plot = h.plot := by
  unfold Holding.align at hx
  dsimp only at hx
  split_ifs at hx
  · exact (congrArg Holding.plot (List.mem_singleton.mp hx) :)
  · cases hx
theorem cuts_plot {q : Nat} (us : List UnitRange) (hs : List Holding) (h : ∀ x ∈ hs, x.plot = q) :
    ∀ x ∈ us.foldl (fun hs u => hs.flatMap fun h => h.cut u) hs, x.plot = q := by
  induction us generalizing hs with
  | nil => exact h
  | cons u us ih =>
    refine ih _ fun x hx => ?_
    obtain ⟨y, hy, hx⟩ := List.mem_flatMap.mp hx
    exact (cut_plot hx).trans (h y hy)
/-- What is above a plot's quota is the plot's. -/
theorem excess_plot {p c : Nat} : ∀ x ∈ s.excess p c, x.plot = p := by
  intro x hx
  unfold State.excess at hx
  dsimp only at hx
  have hmine : ∀ y ∈ s.holdings.filter (fun h => h.plot == p && h.scrub.isNone && (quotaOf h.kind).map (·.1) == some c), y.plot = p := by
    intro y hy
    have hf := (List.mem_filter.mp hy).2
    simp only [Bool.and_eq_true, beq_iff_eq] at hf
    exact hf.1.1
  generalize s.holdings.filter (fun h => h.plot == p && h.scrub.isNone && (quotaOf h.kind).map (·.1) == some c) = mine at hx hmine
  cases mine with
  | nil => cases hx
  | cons h0 rest =>
    dsimp only at hx
    obtain ⟨y, hy, hxy⟩ := mem_takeTop _ _ hx
    obtain ⟨z, hz, hy⟩ := List.mem_flatMap.mp ((mem_sortBy _ _ _).mp hy)
    exact hxy.trans ((align_plot hy).trans (cuts_plot _ _ hmine z hz))

/-- Does the active last of a plot fit every quota. -/
def State.fitsQuotas (s : State) (p : Nat) : Bool :=
  match s.last p with
  | some l => l.claims.all fun k => decide ((k.amount : Int) ≤ s.reg (Reg.quota p k.code))
  | none => false
/-- A plot's trim is over. -/
def PlotSt.trimmed (x : PlotSt) : PlotSt := { x with trimAt := none }
/-- The units above a plot's quotas enter SCRUBBING. -/
def State.trimOver (s : State) (p : Nat) : State :=
  overL ((List.range 17).filter fun c => bit (s.reg (Reg.overMask p)) c)
    (fun u c => overL (u.excess p c) (fun v h => v.enterScrub h false) u) (s.modPlot p PlotSt.trimmed)
theorem excess_trimmed (s : State) (p c : Nat) : (s.modPlot p PlotSt.trimmed).excess p c = s.excess p c := by
  have hl : (s.modPlot p PlotSt.trimmed).last p = s.last p :=
    (congrArg PlotSt.active (plot_modPlot_same (s := s) (p := p) PlotSt.trimmed) :)
  have hh : (s.modPlot p PlotSt.trimmed).holdingOf p c = s.holdingOf p c := rfl
  have hk (k n : Nat) : (s.modPlot p PlotSt.trimmed).kindRange k n = s.kindRange k n := rfl
  unfold State.excess
  simp only [hl, hh, hk]
  rfl
theorem trim_none (h : (s.plot p).trimAt = none) : exec (.trim p) s = .next s := by
  show execTrim p s = _
  unfold execTrim
  rw [h]
theorem exec_trim {k : Nat} (h : (s.plot p).trimAt = some k) : exec (.trim p) s =
    if s.tick < k then .next s else if !s.fitsQuotas p then .next (s.modPlot p PlotSt.trimmed) else
      .next ((((s.trimOver p).clearOver p).refreshScrub p).flashed) := by
  show execTrim p s = _
  unfold execTrim
  rw [h]
  rfl
theorem trimEnd_reports (s : State) (p : Nat) : Reports s (((s.clearOver p).refreshScrub p).flashed) [Reg.overMask p, Reg.plotFlags p, Reg.flashPending] :=
  ((releaseTakeEffect_reports s p).mono (by simp)).trans ((flashed_reports _).mono (by simp))
theorem trimOver_stays (s : State) (p : Nat) : ScrubStays p (s.modPlot p PlotSt.trimmed) (s.trimOver p) :=
  .of_overL _ _ fun u c _ => .of_overL _ u fun v h hh => by
    rw [← excess_plot h hh]
    exact .enter v h false
theorem trimmed_trimAt (s : State) (p : Nat) : ((s.modPlot p PlotSt.trimmed).plot p).trimAt = none :=
  congrArg PlotSt.trimAt (plot_modPlot_same (s := s) (p := p) PlotSt.trimmed)

theorem trim_unfit {k : Nat} (h : (s.plot p).trimAt = some k) (hk : k ≤ s.tick) (hf : s.fitsQuotas p = false) :
    Runs (.trim p) s fun t => (t.plot p).trimAt = none ∧ t.holdings = s.holdings ∧ SameRegs s t [] ∧ SameMem s t := by
  have hexec := exec_trim h
  rw [if_neg (Nat.not_lt.mpr hk), hf, if_pos (by decide)] at hexec
  exact runs_of_exec rfl hexec fun hm => ⟨trimmed_trimAt s p, rfl, fun _ _ => rfl, hm⟩
theorem trim_fits {k : Nat} (h : (s.plot p).trimAt = some k) (hk : k ≤ s.tick) (hf : s.fitsQuotas p = true) {P : State → Prop}
    (hP : ∀ t, (t.plot p).trimAt = none → Reports (s.trimOver p) t [Reg.overMask p, Reg.plotFlags p, Reg.flashPending] → SameMem s t → P t) :
    Runs (.trim p) s P := by
  have hexec := exec_trim h
  rw [if_neg (Nat.not_lt.mpr hk), hf, if_neg (by decide)] at hexec
  have hr := trimEnd_reports (s.trimOver p) p
  refine runs_of_exec rfl hexec fun hm => hP _ ?_ hr hm
  exact (congrArg PlotSt.trimAt (plot_of_plots (hr.plots.trans (trimOver_stays s p).plots) p)).trans (trimmed_trimAt s p)
theorem trim_others {k : Nat} (h : (s.plot p).trimAt = some k) (hk : k ≤ s.tick) : Runs (.trim p) s fun t => (t.plot p).trimAt = none ∧ SameMem s t ∧
    ∀ g ∈ s.holdings, g.plot ≠ p.val ∨ g.scrub ≠ none → g ∈ t.holdings := by
  cases hf : s.fitsQuotas p
  · obtain ⟨t, hexec, ht, hheld, -, hm⟩ := trim_unfit h hk hf
    exact ⟨t, hexec, ht, hm, fun g hg _ => by rw [hheld]; exact hg⟩
  · refine trim_fits h hk hf fun t ht hr hm => ⟨ht, hm, fun g hg ho => ?_⟩
    rw [show t.holdings = (s.trimOver p).holdings from hr.field State.holdings fun _ => rfl]
    exact (trimOver_stays s p).held g hg ho
theorem trim_one {k c : Nat} {h : Holding} (ht : (s.plot p).trimAt = some k) (hk : k ≤ s.tick) (hf : s.fitsQuotas p = true)
    (hcodes : ((List.range 17).filter fun c => bit (s.reg (Reg.overMask p)) c) = [c]) (he : s.excess p c = [h]) (hs : stopKind h.kind = false) :
    Runs (.trim p) s fun t => (t.plot p).trimAt = none ∧ { h with scrub := some ((s.scrubEnd h).1, false), used := (s.scrubEnd h).2 } ∈ t.holdings ∧
      SameRegs s t [Reg.overMask p, Reg.plotFlags p, Reg.flashPending] ∧ SameMem s t := by
  have hu : s.trimOver p = (s.modPlot p PlotSt.trimmed).enterScrub h false := by
    unfold State.trimOver
    rw [hcodes]
    show overL ((s.modPlot p PlotSt.trimmed).excess p c) _ _ = _
    rw [excess_trimmed, he]
    rfl
  obtain ⟨hin, hregs⟩ := enterScrub_plain (s.modPlot p PlotSt.trimmed) hs false
  rw [← hu, scrubEnd_congr (s := s) (u := s.modPlot p PlotSt.trimmed) rfl rfl] at hin
  rw [← hu] at hregs
  refine trim_fits ht hk hf fun t htrim hr hm => ⟨htrim, ?_, (sameRegs_of_regs hregs _).trans hr.2, hm⟩
  rw [show t.holdings = (s.trimOver p).holdings from hr.field State.holdings fun _ => rfl]
  exact hin
end

/-! Scrubbed units are cleared (R206, R207). -/

theorem byte_clearMem (s : State) (a n x : Nat) : (s.clearMem a n).byte x = if a ≤ x ∧ x < a + n then 0 else s.byte x := by
  unfold State.clearMem State.byte NTable.get Table.get
  dsimp only
  rw [List.find?_filter]
  split_ifs with h
  · rw [List.find?_eq_none.mpr]
    intro e _
    simp only [Bool.not_eq_true', Bool.and_eq_false_iff, decide_eq_false_iff_not, decide_eq_true_eq, not_and]
    omega
  · have hp : (fun e : Nat × Byte => decide ((!(decide (a ≤ e.1) && decide (e.1 < a + n))) = true ∧ decide (e.1 = x) = true)) =
        fun e => decide (e.1 = x) := by
      funext e
      refine decide_eq_decide.mpr ?_
      simp only [Bool.not_eq_true', Bool.and_eq_false_iff, decide_eq_false_iff_not, decide_eq_true_eq]
      omega
    rw [hp]

/-- What the clearing of a range leaves: the holdings, and every byte as it was or zero. -/
structure Clears (s t : State) : Prop where
  held : t.holdings = s.holdings
  bytes : ∀ a, t.byte a = s.byte a ∨ t.byte a = 0

theorem Clears.refl (s : State) : Clears s s := ⟨rfl, fun _ => .inl rfl⟩
theorem Clears.trans {s t u : State} (h : Clears s t) (h' : Clears t u) : Clears s u :=
  ⟨h'.held.trans h.held, fun a => (h'.bytes a).elim (fun e => (h.bytes a).imp e.trans e.trans) .inr⟩
theorem Clears.of_mem {s t : State} (hh : t.holdings = s.holdings) (hm : t.mem = s.mem) : Clears s t :=
  ⟨hh, fun a => .inl (sameMem_of_mem hm a)⟩
theorem Clears.zero {s t : State} (h : Clears s t) {a : Nat} (h0 : s.byte a = 0) : t.byte a = 0 := (h.bytes a).elim (·.trans h0) id
theorem Clears.of_overL {α : Type} {f : State → α → State} (l : List α) (h : ∀ s x, Clears s (f s x)) (s : State) : Clears s (overL l f s) := by
  induction l generalizing s with
  | nil => exact .refl s
  | cons x l ih => exact (h s x).trans (ih _)
theorem Clears.of_overN {f : State → Nat → State} (n : Nat) (h : ∀ s i, Clears s (f s i)) (s : State) : Clears s (overN n f s) :=
  of_overL _ h s
theorem Clears.mem (s : State) (a n : Nat) : Clears s (s.clearMem a n) := by
  refine ⟨rfl, fun x => ?_⟩
  rw [byte_clearMem]
  split
  · exact .inr rfl
  · exact .inl rfl

theorem Clears.core (s : State) (c : Nat) (k : CoreSt) : Clears s (s.setCore c k) := .of_mem rfl rfl
theorem Clears.modPsc (s : State) (n : Nat) (f : PscSt → PscSt) : Clears s (s.modPsc n f) := .of_mem rfl rfl
theorem Clears.modPlot (s : State) (p : Nat) (f : PlotSt → PlotSt) : Clears s (s.modPlot p f) := .of_mem rfl rfl
theorem Clears.setReg (s : State) (r : Reg) (v : Int) : Clears s (s.setReg r v) := .of_mem rfl rfl
theorem Clears.when {s : State} (b : Bool) {f : State → State} (h : Clears s (f s)) : Clears s (s.when b f) := by
  cases b
  · exact .refl s
  · exact h
/-- A core's memories and the core are cleared. -/
theorem Clears.wholeCore (s : State) (c : Nat) :
    Clears s ((((s.clearMem (dmBase c) 0x40000).clearMem (sliceBase c) 0x40000).clearMem (pmBase c) 0x10000).setCore c {}) :=
  (((Clears.mem s _ _).trans (.mem _ _ _)).trans (.mem _ _ _)).trans (.core _ c {})

theorem scrubClear_clears (s : State) (h : Holding) : Clears s (s.scrubClear h) := by
  unfold State.scrubClear
  extract_lets inside s1 each s2
  have h1 : Clears s s1 := .of_mem rfl rfl
  have hs2 : Clears s1 s2 := .mem _ _ _
  clear_value s1
  refine h1.trans ?_
  split
  case h_1 => exact .of_overN h.count (fun u i => .wholeCore u (h.first + i)) s1
  case h_6 => exact .mem _ _ _
  case h_7 => exact hs2.trans ((Clears.modPlot s2 _ _).trans (.when _ (.setReg _ _ _)))
  case h_18 => exact .of_overN h.count (fun u i => .modPsc u (h.first + i) _) s1
  all_goals exact .of_mem rfl rfl
theorem scrubClear_bed {s : State} {h : Holding} (hk : h.kind = 9) {a : Nat} (h1 : bedBase + h.first ≤ a) (h2 : a < bedBase + h.first + h.count) :
    (s.scrubClear h).byte a = 0 := by
  have hmem : (s.scrubClear h).mem = (s.clearMem (bedBase + h.first) h.count).mem := by
    unfold State.scrubClear
    rw [hk]
    rfl
  rw [sameMem_of_mem hmem, byte_clearMem, if_pos ⟨h1, h2⟩]
theorem scrubClears_bed {h : Holding} (hk : h.kind = 9) {a : Nat} (h1 : bedBase + h.first ≤ a) (h2 : a < bedBase + h.first + h.count)
    (l : List Holding) (s : State) (hl : h ∈ l) : (overL l State.scrubClear s).byte a = 0 := by
  induction l generalizing s with
  | nil => cases hl
  | cons x l ih =>
    rcases List.mem_cons.mp hl with rfl | hl
    · exact (Clears.of_overL l scrubClear_clears _).zero (scrubClear_bed hk h1 h2)
    · exact ih _ hl

/-- Is a holding's scrub over. -/
def State.scrubOver (s : State) (h : Holding) : Bool :=
  match h.scrub with
  | some (e, _) => e != 0 && decide (e ≤ s.tick) && s.unitStopped h
  | none => false
/-- A holding after its scrub. -/
def State.scrubResult (s : State) (h : Holding) : Option Holding :=
  let waits := s.reg (Reg.plotState h.plot) == 3
  if s.scrubOver h then (match h.scrub with
    | some (_, true) => some { h with scrub := if waits then some (0, true) else none }
    | _ => none) else some h
/-- The state after the scrubs that are over, before the plots' flags follow. -/
def State.afterScrub (s : State) : State :=
  { overL (s.holdings.filter s.scrubOver) State.scrubClear s with
    holdings := (overL (s.holdings.filter s.scrubOver) State.scrubClear s).holdings.filterMap s.scrubResult }
theorem exec_scrubComplete (s : State) : exec .scrubComplete s = .next (overN 16 State.refreshScrub s.afterScrub) := rfl

/-- Holdings and memory, which the plots' flags leave alone. -/
@[reducible] def State.stores (s : State) : List Holding × NTable Byte := (s.holdings, s.mem)
theorem Only.stores {P : Reg → Prop} {s t : State} (h : Only State.stores P s t) : t.holdings = s.holdings ∧ SameMem s t :=
  ⟨congrArg Prod.fst h.view, sameMem_of_mem (congrArg Prod.snd h.view)⟩
theorem refreshes_frame (s : State) : Only State.stores (· ∈ (List.range 16).map fun q => Reg.plotFlags q) s (overN 16 State.refreshScrub s) :=
  .of_overN 16 (fun _ q hq => Only.setReg (P := (· ∈ (List.range 16).map fun q => Reg.plotFlags q))
    (List.mem_map.mpr ⟨q, List.mem_range.mpr hq, rfl⟩) _ rfl) s
theorem afterScrub_holdings (s : State) : s.afterScrub.holdings = s.holdings.filterMap s.scrubResult := by
  show (overL _ State.scrubClear s).holdings.filterMap _ = _
  rw [(Clears.of_overL _ scrubClear_clears s).held]
theorem scrubResult_stays {s : State} {h : Holding} (ho : s.scrubOver h = false) : s.scrubResult h = some h := by
  unfold State.scrubResult
  rw [ho]
  rfl
theorem scrubOver_none {s : State} {h : Holding} (hs : h.scrub = none) : s.scrubOver h = false := by
  unfold State.scrubOver
  rw [hs]
theorem scrubOver_some {s : State} {h : Holding} {e : Nat} {r : Bool} (hs : h.scrub = some (e, r)) :
    s.scrubOver h = (e != 0 && decide (e ≤ s.tick) && s.unitStopped h) := by
  unfold State.scrubOver
  rw [hs]
theorem scrubResult_frees {s : State} {h : Holding} {e : Nat} (hs : h.scrub = some (e, false)) (ho : s.scrubOver h = true) : s.scrubResult h = none := by
  unfold State.scrubResult
  rw [ho, hs]
  rfl
theorem scrubResult_returns {s : State} {h : Holding} {e : Nat} (hs : h.scrub = some (e, true)) (ho : s.scrubOver h = true) : s.scrubResult h =
    some { h with scrub := if s.reg (Reg.plotState h.plot) = 3 then some (0, true) else none } := by
  unfold State.scrubResult
  rw [ho, hs]
  simp only [if_true, beq_iff_eq]
/-- What is scrubbed and stays is not a holding that is freed. -/
theorem scrubResult_ne {s : State} {h g : Holding} {e : Nat} (hs : h.scrub = some (e, false)) (ho : s.scrubOver h = true) : s.scrubResult g ≠ some h := by
  intro hg
  cases hog : s.scrubOver g
  · rw [scrubResult_stays hog] at hg
    obtain rfl := Option.some.inj hg
    rw [ho] at hog
    cases hog
  · cases hgs : g.scrub with
    | none => rw [scrubOver_none hgs] at hog; cases hog
    | some x =>
      obtain ⟨e', r⟩ := x
      cases r
      · rw [scrubResult_frees hgs hog] at hg
        cases hg
      · rw [scrubResult_returns hgs hog] at hg
        have hx : (if s.reg (Reg.plotState g.plot) = 3 then some (0, true) else none) = h.scrub := congrArg Holding.scrub (Option.some.inj hg)
        rw [hs] at hx
        split_ifs at hx
        simp at hx

theorem scrubComplete_frame (s : State) : ∃ t, exec .scrubComplete s = .next t ∧ t.holdings = s.holdings.filterMap s.scrubResult ∧
    SameMem s.afterScrub t ∧ SameRegs s.afterScrub t ((List.range 16).map fun q => Reg.plotFlags q) :=
  have hf := refreshes_frame s.afterScrub
  ⟨_, exec_scrubComplete s, hf.stores.1.trans (afterScrub_holdings s), hf.stores.2, hf.sameRegs⟩

theorem runs_scrubComplete (s : State) : Runs .scrubComplete s (fun t =>
      (∀ h ∈ s.holdings, h.scrub = none → h ∈ t.holdings) ∧
      (∀ h ∈ s.holdings, ∀ e r, h.scrub = some (e, r) →
        (e = 0 ∨ s.tick < e ∨ s.unitStopped h = false → h ∈ t.holdings) ∧
        (e ≠ 0 → e ≤ s.tick → s.unitStopped h = true →
          (r = false → h ∉ t.holdings) ∧
          (r = true → { h with scrub := if s.reg (Reg.plotState h.plot) = 3 then some (0, true) else none } ∈ t.holdings) ∧
          (h.kind = 9 → ∀ a, bedBase + h.first ≤ a → a < bedBase + h.first + h.count → t.byte a = 0))) ∧
      (∀ a, t.byte a = s.byte a ∨ t.byte a = 0) ∧
      ((∀ h ∈ s.holdings, ∀ e r, h.scrub = some (e, r) → e = 0 ∨ s.tick < e) → t.holdings = s.holdings ∧ SameMem s t ∧
        SameRegs s t ((List.range 16).map fun q => Reg.plotFlags q))) := by
  obtain ⟨t, hexec, hheld, hmem, hregs⟩ := scrubComplete_frame s
  refine ⟨t, hexec, ?_⟩
  have hin {h g : Holding} (hh : h ∈ s.holdings) (hg : s.scrubResult h = some g) : g ∈ t.holdings := by
    rw [hheld]
    exact List.mem_filterMap.mpr ⟨h, hh, hg⟩
  refine ⟨fun h hh hs => hin hh (scrubResult_stays (scrubOver_none hs)), fun h hh e r hs => ⟨fun hw => hin hh (scrubResult_stays ?_), fun h0 he hu => ?_⟩,
    fun a => ?_, fun hnone => ?_⟩
  · rw [scrubOver_some hs]
    rcases hw with hw | hw | hw
    · simp [hw]
    · simp [Nat.not_le.mpr hw]
    · simp [hw]
  · have ho : s.scrubOver h = true := by
      rw [scrubOver_some hs]
      simp [h0, he, hu]
    refine ⟨?_, ?_, fun hk a h1 h2 => ?_⟩
    · rintro rfl hmem
      rw [hheld] at hmem
      obtain ⟨g, -, hg⟩ := List.mem_filterMap.mp hmem
      exact scrubResult_ne hs ho hg
    · rintro rfl
      exact hin hh (scrubResult_returns hs ho)
    · exact (hmem a).trans (scrubClears_bed hk h1 h2 _ s (List.mem_filter.mpr ⟨hh, ho⟩))
  · rw [hmem a]
    exact (Clears.of_overL _ scrubClear_clears s).bytes a
  · have hover : ∀ h ∈ s.holdings, s.scrubOver h = false := by
      intro h hh
      cases hs : h.scrub with
      | none => exact scrubOver_none hs
      | some x =>
        rw [scrubOver_some hs]
        rcases hnone h hh x.1 x.2 hs with h0 | h0
        · simp [h0]
        · simp [Nat.not_le.mpr h0]
    have hdone : s.holdings.filter s.scrubOver = [] := List.filter_eq_nil_iff.mpr fun h hh => by rw [hover h hh]; decide
    have hstays : s.holdings.filterMap s.scrubResult = s.holdings := by
      rw [List.filterMap_congr (g := some) fun h hh => scrubResult_stays (hover h hh)]
      exact List.filterMap_some
    have hsame : s.afterScrub.mem = s.mem ∧ s.afterScrub.regs = s.regs := by
      unfold State.afterScrub
      rw [hdone]
      exact ⟨rfl, rfl⟩
    exact ⟨hheld.trans hstays, fun a => (hmem a).trans (sameMem_of_mem hsame.1 a), (sameRegs_of_regs hsame.2 _).trans hregs⟩

theorem fitsQuotas_of {s : State} {p : Nat} {l : Last} (hl : s.last p = some l) (h : ∀ x ∈ l.claims, (x.amount : Int) ≤ s.reg (Reg.quota p x.code)) :
    s.fitsQuotas p = true := by
  unfold State.fitsQuotas
  rw [hl]
  exact List.all_eq_true.mpr fun x hx => decide_eq_true (h x hx)
theorem not_fitsQuotas {s : State} {p : Nat} (h : ∀ l, s.last p = some l → ∃ x ∈ l.claims, s.reg (Reg.quota p x.code) < x.amount) :
    s.fitsQuotas p = false := by
  unfold State.fitsQuotas
  cases hl : s.last p with
  | none => rfl
  | some l =>
    obtain ⟨x, hx, hlt⟩ := h l hl
    exact List.all_eq_false.mpr ⟨x, hx, by simpa using hlt⟩

/-- Settles O38: a batch takes effect whole or not at all, and units enter SCRUBBING range by range, each with the end its engine gives. -/
theorem grantsReleasesAndQuotas : Obligations.GrantsReleasesAndQuotas := by
  intro p batch s
  refine ⟨?_, fun grant => ⟨fun h hl hb => ?_, fun h => ?_, runs_waitingBatch grant⟩, ?_, releaseTakeEffect_none, runs_scrubComplete s,
    fun code v h1 h16 => ⟨runs_quota_within h1 h16, runs_quota_below h1 h16, quota_tooLarge h1 h16⟩, fun code v => quota_badCode, trim_none,
    fun k hk => ⟨fun hlt => ?_, fun ht hun => trim_unfit hk ht (not_fitsQuotas hun), trim_others hk,
      fun l c h ht hl hc hcodes he hs => trim_one hk ht (fitsQuotas_of hl hc) hcodes he hs⟩⟩
  · rintro recs rfl h hl h0 hlen h16
    have hb := wellFormedBatch h0 hlen h16
    refine ⟨runs_grants h hl hb, fun c pos hf => ?_, runs_releases h hl hb, fun c pos hf => ?_⟩
    · obtain ⟨t, hexec, h1, h2, h3, -, h4, h5⟩ := runs_refusedBatch (grant := true) ((takeBatch_assigns true h hl).trans (assign_refused hb hf))
      exact ⟨t, hexec, h1, h2, h3, h4, h5⟩
    · obtain ⟨t, hexec, h1, h2, h3, h4, -, h5⟩ := runs_refusedBatch (grant := false) ((takeBatch_assigns false h hl).trans (assign_refused hb hf))
      exact ⟨t, hexec, h1, h2, h3, h4, h5⟩
  · obtain ⟨t, hexec, h1, -, h3, h4, -, h5⟩ := runs_refusedBatch ((takeBatch_assigns grant h hl).trans (assign_malformed grant hb))
    exact ⟨t, hexec, h1, h3, h4, h5⟩
  · obtain ⟨t, hexec, h1, -, h3, h4, -, h5⟩ := runs_refusedBatch (takeBatch_resetting (batch := batch) grant h)
    exact ⟨t, hexec, h1, h3, h4, h5⟩
  · rintro k h rest hdue rfl hp
    exact ⟨releaseTakeEffect_plain hdue hp, releaseTakeEffect_stops hdue⟩
  · exact (exec_trim hk).trans (if_pos hlt)
end Sys2Proof.Machine
end

section
/-!
PROOFS. Plot reset, handoffs and keys (07, R207 to R216).
-/
namespace Sys2Proof.Machine

/-! Sessions and rings close (16, R452, R471). -/

section
variable (s : State)

/-- What the closing of sessions and rings leaves alone. -/
@[reducible] def State.settled (s : State) : NTable PlotSt × NTable Byte × Nat × List Auth × List (Reg × Int) := (s.plots, s.mem, s.tick, s.auths, s.regs)
theorem closeSessions_settled (f : Session → Bool) : (s.closeSessions f).settled = s.settled :=
  overL_keeps (g := State.settled) _ s fun _ _ _ => rfl
theorem closeRings_settled (p : Nat) : (s.closeRings p).settled = s.settled :=
  overL_keeps (g := State.settled) _ s fun _ _ _ => rfl
theorem closeSessions_regs (f : Session → Bool) : (s.closeSessions f).regs = s.regs :=
  congrArg (fun x => x.2.2.2.2) (closeSessions_settled s f)
theorem closeSessions_plots (f : Session → Bool) : (s.closeSessions f).plots = s.plots :=
  congrArg (fun x => x.1) (closeSessions_settled s f)
end

/-! Plot reset (R207). -/

section
variable {s : State} {p : Fin 16}

/-- A reset that is noted for its boundary. -/
def PlotSt.noteReset (due : Nat) (keys : Bool) (x : PlotSt) : PlotSt := { x with resets := x.resets ++ [(due, keys)] }
theorem noteReset_resets (s : State) (p due : Nat) (keys : Bool) : ((s.modPlot p (PlotSt.noteReset due keys)).plot p).resets =
    (s.plot p).resets ++ [(due, keys)] := congrArg PlotSt.resets (plot_modPlot_same (s := s) (p := p) (PlotSt.noteReset due keys))

theorem runs_plotReset (keys : Bool) : Runs (.plotReset p keys) s fun t => (t.plot p).resets = (s.plot p).resets ++ [(s.actTick, keys)] ∧
    t.answer.status = 0 ∧ SameRegs s t [] ∧ SameMem s t :=
  runs_of_exec rfl rfl fun hm => ⟨noteReset_resets s p _ keys, rfl, fun _ _ => rfl, hm⟩
theorem runs_plotResetAt {keys lateOk : Bool} {k due st : Nat} (h : s.atTick 16 k lateOk = .ok (due, st)) : Runs (.plotResetAt p keys k lateOk) s fun t =>
    (t.plot p).resets = (s.plot p).resets ++ [(due, keys)] ∧ t.answer.status = st ∧ SameRegs s t [] ∧ SameMem s t := by
  have hexec : exec (.plotResetAt p keys k lateOk) s = .next (((s.modPlot p (PlotSt.noteReset due keys)).noteAt due 16
      (Reg.plotResetAt p) [if keys then 1 else 0]).reply st) := by
    show execPlotResetAt p keys k lateOk s = _
    unfold execPlotResetAt
    rw [h]
    rfl
  exact runs_of_exec rfl hexec fun hm => ⟨noteReset_resets s p due keys, rfl, fun _ _ => rfl, hm⟩
theorem plotResetAt_refused {keys lateOk : Bool} {k c : Nat} (h : s.atTick 16 k lateOk = .error c) : Answers (.plotResetAt p keys k lateOk) s c := by
  show execPlotResetAt p keys k lateOk s = _
  unfold execPlotResetAt
  rw [h]

/-- The parts of a plot that its reset keeps. -/
def PlotSt.reset (k : Nat) (keys : Bool) (x : PlotSt) : PlotSt :=
  { resets := x.resets.filter fun e => decide (k < e.1), eraseKeys := x.eraseKeys || keys, ownerKey := x.ownerKey, observerKey := x.observerKey }

/-- The reset of a plot ends with its own state and registers. -/
theorem resetPlot_ends (s : State) (p : Nat) (keys : Bool) : ∃ u : State, (u.plot p).ownerKey = (s.plot p).ownerKey ∧
    s.resetPlot p keys = ((u.modPlot p (PlotSt.reset s.tick keys)).setRegs
      [(Reg.plotState p, 3), (Reg.plotResetTick p, s.tick), (Reg.plotFault p, 0)]).refreshScrub p := by
  unfold State.resetPlot
  extract_lets s0 gone goneOut mine s1 s2 freed s3 s4 s5 s6 s7
  refine ⟨s6.closeRings p, ?_, rfl⟩
  have h0 : (s0.plot p).ownerKey = (s.plot p).ownerKey := by
    unfold s0
    cases s.reg (Reg.lastState p) != 0
    · rfl
    · exact (congrArg PlotSt.ownerKey (dropImage_plot (s := s) (p := p) (code := 0x23)) :)
  have h1 : s1.plots = s0.plots := overL_keeps (g := State.plots) _ s0 fun u a _ => when_keeps (g := State.plots) rfl
  have h3 : s3.plots = s2.plots := overL_keeps (g := State.plots) freed s2 fun u e _ => (ScrubStays.enter u e.2 false).plots
  have h4 : s4.plots = s3.plots := overL_keeps (g := State.plots) _ s3 fun u h _ => (ScrubStays.enter u h true).plots
  have h7 : (s6.closeRings p).plots = s6.plots := congrArg (fun x => x.1) (closeRings_settled s6 p)
  have h6 : s6.plots = s4.plots := rfl
  rw [← h0]
  exact congrArg PlotSt.ownerKey (plot_of_plots (h7.trans (h6.trans (h4.trans (h3.trans h1)))) p)

theorem plotResetApply_waits (h : ∀ e ∈ (s.plot p).resets, s.tick < e.1) : exec (.plotResetApply p) s = .next s := by
  refine if_pos ?_
  rw [List.filter_eq_nil_iff]
  intro e he
  simpa using h e he
theorem plotResetApply_resets (h : ∃ e ∈ (s.plot p).resets, e.1 ≤ s.tick) : ∃ keys, exec (.plotResetApply p) s = .next (s.resetPlot p keys) := by
  refine ⟨_, if_neg ?_⟩
  rw [List.filter_eq_nil_iff]
  obtain ⟨e, he, hk⟩ := h
  exact fun hn => hn e he (decide_eq_true hk)

theorem runs_plotResetApply (h : ∃ e ∈ (s.plot p).resets, e.1 ≤ s.tick) : Runs (.plotResetApply p) s fun t => t.reg (Reg.plotState p) = 3 ∧
    t.reg (Reg.plotResetTick p) = s.tick ∧ t.reg (Reg.plotFault p) = 0 ∧ t.last p = none ∧ (t.plot p).shadow = none ∧
    (t.plot p).routes = [] ∧ (t.plot p).ownerKey = (s.plot p).ownerKey ∧ SameMem s t := by
  obtain ⟨keys, hexec⟩ := plotResetApply_resets h
  obtain ⟨u, hkey, hreset⟩ := resetPlot_ends s p keys
  rw [hreset] at hexec
  have hplot := plot_modPlot_same (s := u) (p := p.val) (PlotSt.reset s.tick keys)
  generalize u.modPlot p (PlotSt.reset s.tick keys) = v at hexec hplot
  have hset : (v.setRegs [(Reg.plotState p, 3), (Reg.plotResetTick p, s.tick), (Reg.plotFault p, 0)]).plot p = v.plot p := setRegs_plot _ _ _
  have hr (r : Reg) (hne : r ∉ [Reg.plotFlags p]) :=
    (refreshScrub_reports (v.setRegs [(Reg.plotState p, 3), (Reg.plotResetTick p, s.tick), (Reg.plotFault p, 0)]) p).2 r hne
  have hx : ((v.setRegs [(Reg.plotState p, 3), (Reg.plotResetTick p, s.tick), (Reg.plotFault p, 0)]).refreshScrub p).plot p =
      (u.plot p).reset s.tick keys := hset.trans hplot
  refine runs_of_exec rfl hexec fun hm => ⟨?_, ?_, ?_, ?_, ?_, ?_, ?_, hm⟩
  · rw [hr _ (by simp)]
    exact (reg_setReg_other _ _ _ _ (by simp)).trans ((reg_setReg_other _ _ _ _ (by simp)).trans (reg_setReg_same _ _ _))
  · rw [hr _ (by simp)]
    exact (reg_setReg_other _ _ _ _ (by simp)).trans (reg_setReg_same _ _ _)
  · rw [hr _ (by simp)]
    exact reg_setReg_same _ _ _
  · exact congrArg PlotSt.active hx
  · exact congrArg PlotSt.shadow hx
  · exact congrArg PlotSt.routes hx
  · exact (congrArg PlotSt.ownerKey hx).trans hkey

/-! The end of a plot's reset (R207, step 5). -/

/-- Is a holding of a plot still scrubbed before it returns. -/
@[reducible] def State.resetWaits (s : State) (p : Nat) : Prop := ∃ h ∈ s.holdings, h.plot = p ∧ ∃ e, h.scrub = some (e, true) ∧ e ≠ 0
theorem waits_iff (s : State) (p : Nat) : ((s.holdings.filter fun h => h.plot == p && h.scrub.isSome).any fun h =>
    match h.scrub with | some (e, r) => r && e != 0 | none => false) = true ↔ s.resetWaits p := by
  rw [List.any_eq_true]
  constructor
  · rintro ⟨h, hh, hw⟩
    obtain ⟨hm, hp⟩ := List.mem_filter.mp hh
    cases hs : h.scrub with
    | none => rw [hs] at hw; cases hw
    | some x =>
      obtain ⟨e, r⟩ := x
      rw [hs] at hw hp
      simp only [Bool.and_eq_true, beq_iff_eq, bne_iff_ne] at hw hp
      exact ⟨h, hm, hp.1, e, by rw [hs, hw.1], hw.2⟩
  · rintro ⟨h, hm, hp, e, hs, he⟩
    refine ⟨h, List.mem_filter.mpr ⟨hm, by rw [hs, hp]; simp⟩, ?_⟩
    rw [hs]
    simpa using he

theorem plotResetComplete_waits (h : s.reg (Reg.plotState p) ≠ 3 ∨ s.resetWaits p) : exec (.plotResetComplete p) s = .next s :=
  if_pos (h.imp_right (waits_iff s p).mpr)

/-- Where a plot's reset ends: without its keys, or idle. -/
def State.endReset (u : State) (p : Nat) (keys : Bool) : State :=
  let u3 := (u.setReg (Reg.overMask p) 0).setReg (Reg.plotFlags p) (2 * (u.nat (Reg.plotFlags p) / 2) : Nat)
  ((if keys then u3.eraseKeys p else u3.setReg (Reg.plotState p) 1).refreshScrub p).flashed
theorem plotResetComplete_ends (h3 : s.reg (Reg.plotState p) = 3) (hw : ¬s.resetWaits p) : ∃ u : State,
    exec (.plotResetComplete p) s = .next (u.endReset p ((s.plot p).eraseKeys || decide ((s.plot p).ownerKey = []))) :=
  ⟨_, if_neg (not_or.mpr ⟨not_not_intro h3, mt (waits_iff s p).mp hw⟩)⟩

theorem eraseKeys_regs (u : State) (p : Fin 16) : (u.eraseKeys p).reg (Reg.plotState p) = 0 ∧
    SameRegs u (u.eraseKeys p) [Reg.plotState p, Reg.keySerial p, Reg.flashPending] := by
  unfold State.eraseKeys
  have hset : SameRegs u ((u.modPlot p fun x => { x with ownerKey := [], observerKey := [], eraseKeys := false }).setRegs
      [(Reg.plotState p, 0), (Reg.keySerial p, 0)]) [Reg.plotState p, Reg.keySerial p, Reg.flashPending] :=
    (sameRegs_of_regs rfl _).trans (Reports.setRegs (by simp)).2
  have h0 : ((u.modPlot p fun x => { x with ownerKey := [], observerKey := [], eraseKeys := false }).setRegs
      [(Reg.plotState p, 0), (Reg.keySerial p, 0)]).reg (Reg.plotState p) = 0 :=
    (reg_setReg_other _ _ _ _ (by simp)).trans (reg_setReg_same _ _ _)
  generalize (u.modPlot p fun x => { x with ownerKey := [], observerKey := [], eraseKeys := false }).setRegs
      [(Reg.plotState p, 0), (Reg.keySerial p, 0)] = v at hset h0
  have hclose := closeSessions_regs v (ofPlot p)
  have hf := flashed_reports (v.closeSessions (ofPlot p))
  refine ⟨?_, hset.trans ((sameRegs_of_regs hclose _).trans (hf.2.mono (by simp)))⟩
  rw [hf.2 _ (by simp), reg_of_regs hclose, h0]
theorem endReset_frame (u : State) (p : Fin 16) (keys : Bool) : (u.endReset p keys).reg (Reg.overMask p) = 0 ∧
    (u.endReset p keys).reg (Reg.plotState p) = if keys then 0 else 1 := by
  unfold State.endReset
  extract_lets u3
  have hover : u3.reg (Reg.overMask p) = 0 := (reg_setReg_other _ _ _ _ (by simp)).trans (reg_setReg_same _ _ _)
  clear_value u3
  have h4 : (if keys then u3.eraseKeys p else u3.setReg (Reg.plotState p) 1).reg (Reg.overMask p) = 0 ∧
      (if keys then u3.eraseKeys p else u3.setReg (Reg.plotState p) 1).reg (Reg.plotState p) = if keys then 0 else 1 := by
    cases keys
    · exact ⟨(reg_setReg_other _ _ _ _ (by simp)).trans hover, reg_setReg_same _ _ _⟩
    · obtain ⟨h1, h2⟩ := eraseKeys_regs u3 p
      exact ⟨(h2 _ (by simp)).trans hover, h1⟩
  generalize (if keys then u3.eraseKeys p else u3.setReg (Reg.plotState p) 1) = v at h4 ⊢
  have hr : Reports v (v.refreshScrub p).flashed [Reg.plotFlags p, Reg.flashPending] :=
    ((refreshScrub_reports v p).mono (by simp)).trans ((flashed_reports _).mono (by simp))
  exact ⟨(hr.2 _ (by simp)).trans h4.1, (hr.2 _ (by simp)).trans h4.2⟩

theorem runs_plotResetComplete (h3 : s.reg (Reg.plotState p) = 3) (hw : ¬s.resetWaits p) : Runs (.plotResetComplete p) s fun t =>
    t.reg (Reg.overMask p) = 0 ∧
    t.reg (Reg.plotState p) = (if (s.plot p).eraseKeys = true ∨ (s.plot p).ownerKey = [] then 0 else 1) ∧ SameMem s t := by
  obtain ⟨u, hexec⟩ := plotResetComplete_ends h3 hw
  obtain ⟨h1, h2⟩ := endReset_frame u p ((s.plot p).eraseKeys || decide ((s.plot p).ownerKey = []))
  refine runs_of_exec rfl hexec fun hm => ⟨h1, ?_, hm⟩
  rw [h2]
  simp only [Bool.or_eq_true, decide_eq_true_eq]

/-- Settles O39: a reset leaves the parts of a plot that outlast it, and ends once nothing that returns is scrubbed. -/
theorem plotReset : Obligations.PlotReset := by
  intro p s
  refine ⟨runs_plotReset, fun keys k lateOk due st => runs_plotResetAt, fun keys k lateOk c => plotResetAt_refused, runs_plotResetApply,
    plotResetApply_waits, fun h3 hw => runs_plotResetComplete h3 ?_, plotResetComplete_waits, fun m => ⟨_, rfl, reg_setReg_same _ _ _, rfl, ?_, rfl⟩⟩
  · rintro ⟨h, hm, hp, e, hs, he⟩
    exact he (hw h hm hp e hs)
  · exact sameRegs_setReg (s := s) rfl _ _
end
end Sys2Proof.Machine
end

section
/-!
PROOFS. Handoffs and keys (07, R209 to R214).
-/
namespace Sys2Proof.Machine

/-! Handoffs (R209, R212). -/

section
variable {s : State} {p : Fin 16} {w i q : Nat}

/-- A handoff word that a plot names. -/
@[reducible] def hoPair (i p q : Nat) : HoWord := { index := i, plot := p, peer := q }
theorem hoDone_reports (s : State) (p c : Nat) : Reports s (s.hoDone p c) [Reg.hoStatus p] := (Reports.setReg (by simp) _).trans (.reply _ 0 _)
theorem hoDone_status (s : State) (p c : Nat) : (s.hoDone p c).reg (Reg.hoStatus p) = c := reg_setReg_same _ _ _
/-- A handoff's words are kept, and the command is answered. -/
theorem hoEnd_reports (s : State) (p c : Nat) : Reports s (s.flashed.hoDone p c) [Reg.hoStatus p, Reg.flashPending] :=
  ((flashed_reports s).mono (by simp)).trans ((hoDone_reports _ p c).mono (by simp))

theorem exec_hoOffer_none (h : hoWord p w = none) : exec (.hoOffer p w) s = .next (s.hoDone p 0x10) := by
  show execHoOffer p w s = _
  unfold execHoOffer
  rw [h]
theorem exec_hoAccept_none (h : hoWord p w = none) : exec (.hoAccept p w) s = .next (s.hoDone p 0x10) := by
  show execHoAccept p w s = _
  unfold execHoAccept
  rw [h]
theorem exec_hoWithdraw_none (h : hoWord p w = none) : exec (.hoWithdraw p w) s = .next (s.hoDone p 0x10) := by
  show execHoWithdraw p w s = _
  unfold execHoWithdraw
  rw [h]
theorem runs_hoDone {j : Instr} {c : Nat} (h : exec j s = .next (s.hoDone p c)) : Runs j s fun t => t.reg (Reg.hoStatus p) = c ∧
    SameRegs s t [Reg.hoStatus p] ∧ t.units = s.units := ⟨_, h, hoDone_status s p c, (hoDone_reports s p c).2, rfl⟩

/-- The other offers of an index are withdrawn. -/
def State.withdrawOthers (s : State) (i p q : Nat) : State :=
  overL (s.offers.filter fun x => x.index == i && !(x.plot == p && x.peer == q)) (fun s x => s.withdrawAt i x.plot x.peer s.actTick) s
/-- The parts that a change of authorisations leaves alone. -/
@[reducible] def State.words (s : State) : List HoWord × List HoWord × List (Reg × Int) := (s.offers, s.accepts, s.regs)
theorem withdrawOthers_words (s : State) (i p q : Nat) : (s.withdrawOthers i p q).words = s.words :=
  overL_keeps (g := State.words) _ s fun _ _ _ => rfl
theorem formAuth_words (s : State) (i p q : Nat) : (s.formAuth i p q).words = s.words := by
  unfold State.formAuth
  split <;> rfl

theorem exec_hoOffer_foreign (h : hoWord p w = some (i, q)) (hh : s.holds p 20 15 i = false) : exec (.hoOffer p w) s = .next (s.hoDone p 0x14) := by
  show execHoOffer p w s = _
  unfold execHoOffer
  rw [h]
  dsimp only
  rw [hh]
  rfl
/-- The offers of an index are one. -/
def State.offer (s : State) (i p q : Nat) : State := { s with offers := (s.offers.filter fun (x : HoWord) => x.index != i) ++ [hoPair i p q] }
theorem exec_hoOffer (h : hoWord p w = some (i, q)) (hh : s.holds p 20 15 i = true) : exec (.hoOffer p w) s = .next
    (((((s.withdrawOthers i p q).offer i p q).formAuth i p q).flashed).hoDone p 0) := by
  show execHoOffer p w s = _
  unfold execHoOffer
  rw [h]
  dsimp only
  rw [hh]
  rfl
theorem runs_hoOffer (h : hoWord p w = some (i, q)) (hh : s.holds p 20 15 i = true) : Runs (.hoOffer p w) s fun t => t.reg (Reg.hoStatus p) = 0 ∧
    t.offers = (s.offers.filter fun x => x.index != i) ++ [hoPair i p q] ∧ SameRegs s t [Reg.hoStatus p, Reg.flashPending] ∧ SameMem s t := by
  have hw := withdrawOthers_words s i p q
  have hf := formAuth_words ((s.withdrawOthers i p q).offer i p q) i p q
  have hexec := exec_hoOffer h hh
  have ho : ((s.withdrawOthers i p q).offer i p q).offers = (s.offers.filter fun x => x.index != i) ++ [hoPair i p q] := by
    show (s.withdrawOthers i p q).offers.filter _ ++ _ = _
    rw [show (s.withdrawOthers i p q).offers = s.offers from congrArg Prod.fst hw]
  have hregs : (((s.withdrawOthers i p q).offer i p q).formAuth i p q).regs = s.regs :=
    (congrArg (fun x => x.2.2) hf).trans (congrArg (fun x => x.2.2) hw)
  have hoffers := (congrArg Prod.fst hf).trans ho
  generalize ((s.withdrawOthers i p q).offer i p q).formAuth i p q = u at hexec hregs hoffers
  have hr := hoEnd_reports u p 0
  exact runs_of_exec rfl hexec fun hm => ⟨hoDone_status _ p 0, (hr.field State.offers fun _ => rfl).trans hoffers, (sameRegs_of_regs hregs _).trans hr.2, hm⟩

/-- An acceptance is kept beside those that name other producers. -/
def State.accept (s : State) (i p q : Nat) : State :=
  { s with accepts := (s.accepts.filter fun (x : HoWord) => !(x.index == i && x.plot == p && x.peer == q)) ++ [hoPair i p q] }
theorem exec_hoAccept (h : hoWord p w = some (i, q)) : exec (.hoAccept p w) s = .next ((((s.accept i p q).formAuth i q p).flashed).hoDone p
    (if s.offers.any fun x => x.index == i && x.plot == q && x.peer == p.val then 0 else 0x16)) := by
  show execHoAccept p w s = _
  unfold execHoAccept
  rw [h]
  rfl
theorem mem_accept (s : State) (i p q : Nat) : hoPair i p q ∈ (s.accept i p q).accepts ∧ ∀ x ∈ s.accepts, x ∈ (s.accept i p q).accepts := by
  refine ⟨List.mem_append_right _ (List.mem_singleton.mpr rfl), fun x hx => ?_⟩
  by_cases hm : x = hoPair i p q
  · exact List.mem_append_right _ (List.mem_singleton.mpr hm)
  · refine List.mem_append_left _ (List.mem_filter.mpr ⟨hx, ?_⟩)
    rw [Bool.not_eq_true', Bool.eq_false_iff]
    simp only [ne_eq, Bool.and_eq_true, beq_iff_eq, and_assoc]
    rintro ⟨h1, h2, h3⟩
    obtain ⟨a, b, c⟩ := x
    dsimp only at h1 h2 h3
    subst h1 h2 h3
    exact hm rfl
theorem runs_hoAccept (h : hoWord p w = some (i, q)) : Runs (.hoAccept p w) s (fun t => hoPair i p q ∈ t.accepts ∧
    (∀ x ∈ s.accepts, x ∈ t.accepts) ∧ t.offers = s.offers ∧
    t.reg (Reg.hoStatus p) = (if s.offers.any fun x => x.index == i && x.plot == q && x.peer == p.val then 0 else 0x16) ∧
    SameRegs s t [Reg.hoStatus p, Reg.flashPending] ∧ SameMem s t) := by
  have hf := formAuth_words (s.accept i p q) i q p
  have hexec := exec_hoAccept (s := s) h
  obtain ⟨h1, h2⟩ := mem_accept s i p q
  have ha : ((s.accept i p q).formAuth i q p).accepts = (s.accept i p q).accepts := congrArg (fun x => x.2.1) hf
  have hoffers : ((s.accept i p q).formAuth i q p).offers = s.offers := congrArg Prod.fst hf
  have hregs : ((s.accept i p q).formAuth i q p).regs = s.regs := congrArg (fun x => x.2.2) hf
  rw [← ha] at h1 h2
  generalize (s.accept i p q).formAuth i q p = u at hexec h1 h2 hoffers hregs
  generalize hc : (if s.offers.any fun x => x.index == i && x.plot == q && x.peer == p.val then 0 else 0x16) = c at hexec
  have hr := hoEnd_reports u p c
  have haccepts : (u.flashed.hoDone p c).accepts = u.accepts := hr.field State.accepts fun _ => rfl
  refine runs_of_exec rfl hexec fun hm => ⟨by rw [haccepts]; exact h1, fun x hx => by rw [haccepts]; exact h2 x hx,
    (hr.field State.offers fun _ => rfl).trans hoffers, (hoDone_status _ p c).trans ?_, (sameRegs_of_regs hregs _).trans hr.2, hm⟩
  rw [← hc]
  push_cast
  rfl

theorem inForce_withdrawn (s : State) (i a c k : Nat) : (s.withdrawAt i a c k).inForce i a c = false := by
  unfold State.inForce State.withdrawAt
  rw [List.any_eq_false]
  intro x hx
  obtain ⟨y, -, rfl⟩ := List.mem_map.mp hx
  simp only [Bool.and_eq_true, beq_iff_eq, and_assoc]
  split_ifs with h
  · simp
  · exact h
theorem inForce_withdrawAt {s : State} {i a c : Nat} (b d k : Nat) (h : s.inForce i a c = false) : (s.withdrawAt i b d k).inForce i a c = false := by
  unfold State.inForce State.withdrawAt at *
  rw [List.any_eq_false] at h ⊢
  intro x hx
  obtain ⟨y, hy, rfl⟩ := List.mem_map.mp hx
  split_ifs
  · simp
  · exact h y hy
theorem exec_hoWithdraw_inForce (h : hoWord p w = some (i, q)) (hf : s.inForce i p q = true ∨ s.inForce i q p = true) :
    exec (.hoWithdraw p w) s = .next ((((s.withdrawAt i p q s.actTick).withdrawAt i q p s.actTick).flashed).hoDone p 0) := by
  show execHoWithdraw p w s = _
  unfold execHoWithdraw
  rw [h]
  exact if_pos (by rw [Bool.or_eq_true]; exact hf)
theorem runs_hoWithdraw_inForce (h : hoWord p w = some (i, q)) (hf : s.inForce i p q = true ∨ s.inForce i q p = true) :
    Runs (.hoWithdraw p w) s fun t => t.inForce i p q = false ∧ t.inForce i q p = false ∧
      t.auths.length = s.auths.length ∧ t.reg (Reg.hoStatus p) = 0 ∧ SameRegs s t [Reg.hoStatus p, Reg.flashPending] ∧ SameMem s t := by
  have hexec := exec_hoWithdraw_inForce h hf
  have h1 := inForce_withdrawAt (i := i) (a := p) (c := q) q p s.actTick (inForce_withdrawn s i p q s.actTick)
  have h2 := inForce_withdrawn (s.withdrawAt i p q s.actTick) i q p s.actTick
  have hlen : ((s.withdrawAt i p q s.actTick).withdrawAt i q p s.actTick).auths.length = s.auths.length :=
    (List.length_map _).trans (List.length_map _)
  have hregs : ((s.withdrawAt i p q s.actTick).withdrawAt i q p s.actTick).regs = s.regs := rfl
  generalize (s.withdrawAt i p q s.actTick).withdrawAt i q p s.actTick = u at hexec h1 h2 hlen hregs
  have hr := hoEnd_reports u p 0
  have hauths : (u.flashed.hoDone p 0).auths = u.auths := hr.field State.auths fun _ => rfl
  have hin (a c : Nat) : (u.flashed.hoDone p 0).inForce i a c = u.inForce i a c := by
    unfold State.inForce
    rw [hauths]
  exact runs_of_exec rfl hexec fun hm => ⟨(hin _ _).trans h1, (hin _ _).trans h2, (congrArg List.length hauths).trans hlen,
    hoDone_status _ p 0, (sameRegs_of_regs hregs _).trans hr.2, hm⟩

/-- Is a word that of a plot for a handoff and a peer. -/
@[reducible] def HoWord.isOf (i p q : Nat) (x : HoWord) : Bool := x.index == i && x.plot == p && x.peer == q
/-- A plot's own words of a handoff are removed. -/
def State.dropWords (s : State) (i p q : Nat) : State :=
  { s with offers := s.offers.filter fun x => !x.isOf i p q, accepts := s.accepts.filter fun x => !x.isOf i p q }
theorem exec_hoWithdraw_idle (h : hoWord p w = some (i, q)) (h1 : s.inForce i p q = false) (h2 : s.inForce i q p = false) :
    exec (.hoWithdraw p w) s = .next (((s.dropWords i p q).flashed).hoDone p
      (if s.offers.any (HoWord.isOf i p q) || s.accepts.any (HoWord.isOf i p q) then 0 else 0x16)) := by
  show execHoWithdraw p w s = _
  unfold execHoWithdraw
  rw [h]
  dsimp only
  rw [h1, h2]
  rfl
theorem not_mem_dropped (l : List HoWord) (i p q : Nat) : hoPair i p q ∉ l.filter fun x => !x.isOf i p q := by
  intro hm
  have := (List.mem_filter.mp hm).2
  simp [HoWord.isOf] at this
theorem runs_hoWithdraw_idle (h : hoWord p w = some (i, q)) (h1 : s.inForce i p q = false) (h2 : s.inForce i q p = false) :
    Runs (.hoWithdraw p w) s fun t => hoPair i p q ∉ t.offers ∧ hoPair i p q ∉ t.accepts ∧ t.auths = s.auths ∧
      t.reg (Reg.hoStatus p) = (if s.offers.any (HoWord.isOf i p q) || s.accepts.any (HoWord.isOf i p q) then 0 else 0x16) ∧
      SameRegs s t [Reg.hoStatus p, Reg.flashPending] ∧ SameMem s t := by
  have hexec := exec_hoWithdraw_idle h h1 h2
  have ho : hoPair i p q ∉ (s.dropWords i p q).offers := not_mem_dropped s.offers i p q
  have ha : hoPair i p q ∉ (s.dropWords i p q).accepts := not_mem_dropped s.accepts i p q
  have hauths : (s.dropWords i p q).auths = s.auths := rfl
  have hregs : (s.dropWords i p q).regs = s.regs := rfl
  generalize s.dropWords i p q = u at hexec ho ha hauths hregs
  generalize hc : (if s.offers.any (HoWord.isOf i p q) || s.accepts.any (HoWord.isOf i p q) then 0 else 0x16) = c at hexec
  have hr := hoEnd_reports u p c
  have h3 : (u.flashed.hoDone p c).offers = u.offers := hr.field State.offers fun _ => rfl
  have h4 : (u.flashed.hoDone p c).accepts = u.accepts := hr.field State.accepts fun _ => rfl
  refine runs_of_exec rfl hexec fun hm => ⟨by rw [h3]; exact ho, by rw [h4]; exact ha, (hr.field State.auths fun _ => rfl).trans hauths,
    (hoDone_status _ p c).trans ?_, (sameRegs_of_regs hregs _).trans hr.2, hm⟩
  rw [← hc]
  push_cast
  rfl

/-! A handoff forms and ends (R212). -/

/-- An authorisation of an index delivers from its boundary. -/
def Auth.form (i k : Nat) (a : Auth) : Auth :=
  let now : Bool := match a.formAt with | some t => decide (t ≤ k) | none => false
  if a.index == i && now then { a with formAt := none } else a
theorem form_other {i k : Nat} {a : Auth} (h : a.index ≠ i) : a.form i k = a := by
  unfold Auth.form
  rw [beq_false_of_ne h]
  rfl
theorem form_index (i k : Nat) (a : Auth) : (a.form i k).index = a.index := by
  unfold Auth.form
  dsimp only
  split <;> split <;> rfl
theorem form_later {i k t : Nat} {a : Auth} (hi : a.index = i) (h : (a.form i k).formAt = some t) : k < t := by
  unfold Auth.form at h
  dsimp only at h
  rw [beq_iff_eq.mpr hi, Bool.true_and] at h
  cases hf : a.formAt with
  | none =>
    rw [hf] at h
    simp [hf] at h
  | some u =>
    rw [hf] at h
    dsimp only at h
    split at h
    · cases h
    · rw [hf] at h
      obtain rfl := Option.some.inj h
      simpa using ‹¬decide (u ≤ k) = true›
theorem exec_handoffForm (s : State) (i : Fin 8192) : exec (.handoffForm i) s = .next { s with auths := s.auths.map (Auth.form i s.tick) } := rfl
theorem runs_handoffForm (s : State) (i : Fin 8192) : Runs (.handoffForm i) s fun t =>
    (∀ a ∈ t.auths, a.index = i.val → ∀ k, a.formAt = some k → s.tick < k) ∧ t.auths.length = s.auths.length ∧
    (∀ a ∈ s.auths, a.index ≠ i.val → a ∈ t.auths) ∧ SameRegs s t [] ∧ SameMem s t := by
  refine ⟨_, exec_handoffForm s i, fun a ha hi k hk => ?_, List.length_map _, fun a ha hi => ?_, fun _ _ => rfl, fun _ => rfl⟩
  · obtain ⟨b, -, rfl⟩ := List.mem_map.mp ha
    exact form_later ((form_index i s.tick b).symm.trans hi) hk
  · exact List.mem_map.mpr ⟨a, ha, form_other hi⟩

/-- Is an authorisation's end due. -/
def Auth.ends (i k : Nat) (a : Auth) : Bool := a.index == i && (match a.withdrawAt with | some t => decide (t ≤ k) | none => false)
theorem ends_any (i k : Nat) (a : Auth) : a.ends i k = (a.index == i && a.withdrawAt.any fun t => decide (t ≤ k)) := by
  unfold Auth.ends
  cases a.withdrawAt <;> rfl
/-- The words that formed an authorisation go unless another still stands on them. -/
def State.dropFormed (s : State) (a : Auth) : State :=
  let again := s.auths.any fun b => b.index == a.index && b.producer == a.producer && b.consumer == a.consumer
  if again then s else { s with
    offers := s.offers.filter fun x => !(x.index == a.index && x.plot == a.producer && x.peer == a.consumer)
    accepts := s.accepts.filter fun x => !(x.index == a.index && x.plot == a.consumer && x.peer == a.producer) }
/-- The end of an authorisation. -/
def State.endAuth (s : State) (a : Auth) : State := ((s.dropFormed a).plotFault a.producer 6).plotFault a.consumer 6
theorem exec_handoffWithdrawApply (s : State) (i : Fin 8192) : exec (.handoffWithdrawApply i) s =
    .next (overL (s.auths.filter (Auth.ends i s.tick)) State.endAuth { s with auths := s.auths.filter fun a => !a.ends i s.tick }) := rfl

theorem dropFormed_regs (s : State) (a : Auth) : (s.dropFormed a).regs = s.regs ∧ (s.dropFormed a).auths = s.auths := by
  unfold State.dropFormed
  dsimp only
  split <;> exact ⟨rfl, rfl⟩
/-- A plot's HANDOFF fault stays while others are raised. -/
theorem plotFault_stays {s : State} {x : Nat} (y : Nat) (h : bit (s.reg (Reg.plotFault x)) 6 = true) :
    bit ((s.plotFault y 6).reg (Reg.plotFault x)) 6 = true := by
  by_cases hxy : x = y
  · subst hxy
    exact bit_plotFault s x 6
  · rw [(Reports.plotFault (l := [Reg.notifyDropped, Reg.plotFault y]) (by simp) (by simp) 6).2 _ (by simp [hxy])]
    exact h
theorem endAuth_faults (s : State) (a : Auth) : bit ((s.endAuth a).reg (Reg.plotFault a.producer)) 6 = true ∧
    bit ((s.endAuth a).reg (Reg.plotFault a.consumer)) 6 = true :=
  ⟨plotFault_stays _ (bit_plotFault _ _ 6), bit_plotFault _ _ 6⟩
theorem endAuth_stays {s : State} {x : Nat} (a : Auth) (h : bit (s.reg (Reg.plotFault x)) 6 = true) :
    bit ((s.endAuth a).reg (Reg.plotFault x)) 6 = true := by
  refine plotFault_stays _ (plotFault_stays _ ?_)
  rw [reg_of_regs (dropFormed_regs s a).1]
  exact h
theorem endAuth_auths (s : State) (a : Auth) : (s.endAuth a).auths = s.auths := by
  have h1 : Reports (s.dropFormed a) ((s.dropFormed a).plotFault a.producer 6) [Reg.notifyDropped, Reg.plotFault a.producer] :=
    .plotFault (by simp) (by simp) 6
  have h2 : Reports ((s.dropFormed a).plotFault a.producer 6) (s.endAuth a) [Reg.notifyDropped, Reg.plotFault a.consumer] :=
    .plotFault (by simp) (by simp) 6
  exact (h2.field State.auths fun _ => rfl).trans ((h1.field State.auths fun _ => rfl).trans (dropFormed_regs s a).2)
theorem endAuths_stay {x : Nat} (l : List Auth) (s : State) (h : bit (s.reg (Reg.plotFault x)) 6 = true) :
    bit ((overL l State.endAuth s).reg (Reg.plotFault x)) 6 = true :=
  List.foldlRecOn (motive := fun u => bit (u.reg (Reg.plotFault x)) 6 = true) l State.endAuth h fun _ hu a _ => endAuth_stays a hu
theorem endAuths_fault {a : Auth} (l : List Auth) (s : State) (ha : a ∈ l) : bit ((overL l State.endAuth s).reg (Reg.plotFault a.producer)) 6 = true ∧
    bit ((overL l State.endAuth s).reg (Reg.plotFault a.consumer)) 6 = true := by
  induction l generalizing s with
  | nil => cases ha
  | cons b l ih =>
    rcases List.mem_cons.mp ha with rfl | ha
    · obtain ⟨h1, h2⟩ := endAuth_faults s a
      exact ⟨endAuths_stay l _ h1, endAuths_stay l _ h2⟩
    · exact ih _ ha

theorem runs_handoffWithdrawApply (s : State) (i : Fin 8192) : Runs (.handoffWithdrawApply i) s (fun t =>
    t.auths = s.auths.filter (fun a => !(a.index == i.val && a.withdrawAt.any fun k => decide (k ≤ s.tick))) ∧
    (∀ a ∈ s.auths, a.index = i.val → ∀ k, a.withdrawAt = some k → k ≤ s.tick → a.producer < 16 → a.consumer < 16 →
      bit (t.reg (Reg.plotFault a.producer)) 6 = true ∧ bit (t.reg (Reg.plotFault a.consumer)) 6 = true) ∧ SameMem s t) := by
  refine runs_of_exec rfl (exec_handoffWithdrawApply s i) fun hm => ⟨?_, fun a ha hi k hk hdue _ _ => ?_, hm⟩
  · rw [overL_keeps (g := State.auths) _ _ fun u a _ => endAuth_auths u a]
    exact congrArg (fun f => s.auths.filter f) (funext fun a => congrArg Bool.not (ends_any i s.tick a))
  · refine endAuths_fault _ _ (List.mem_filter.mpr ⟨ha, ?_⟩)
    rw [ends_any, hk]
    simp [hi, hdue]
theorem handoffWithdrawApply_none {s : State} {i : Fin 8192} (h : ∀ a ∈ s.auths, a.index = i.val → ∀ k, a.withdrawAt = some k → s.tick < k) :
    exec (.handoffWithdrawApply i) s = .next s := by
  have hno : ∀ a ∈ s.auths, a.ends i s.tick = false := by
    intro a ha
    rw [ends_any]
    cases hw : a.withdrawAt with
    | none => simp
    | some k =>
      by_cases hi : a.index = i.val
      · simpa [hi] using h a ha hi k hw
      · simp [hi]
  rw [exec_handoffWithdrawApply, List.filter_eq_nil_iff.mpr fun a ha => by rw [hno a ha]; decide,
    List.filter_eq_self.mpr fun a ha => by rw [hno a ha]; rfl]
  rfl
end

/-! Keys of a plot (R214). -/

section
variable {s : State} {p : Fin 16} {n : Option (Fin 64)} {key : List Byte}

/-- May a writer write an owner key. -/
def State.mayOwn (s : State) (p : Nat) (n : Option (Fin 64)) : Bool :=
  let free := s.reg (Reg.plotState p) == 0
  match s.who (n.map (·.val)) with
  | some (role, q) => (role == 0 && free) || (role == 1 && q == p)
  | none => n.isNone && free
/-- May a writer write an observer key. -/
def State.mayObserve (s : State) (p : Nat) (n : Option (Fin 64)) : Bool :=
  match s.who (n.map (·.val)) with | some (role, q) => role == 1 && q == p | none => false
theorem exec_ownerKey : exec (.ownerKey p n key) s = .next (if !s.mayOwn p n then s.reply 0x11 else s.writeOwnerKey p key) := rfl
theorem exec_observerKey : exec (.observerKey p n key) s = .next (if !s.mayObserve p n then s.reply 0x11 else s.writeObserverKey p key) := rfl

theorem mayOwn_of (h : (s.reg (Reg.plotState p) = 0 ∧ (n = none ∨ ∃ q, s.who (n.map (·.val)) = some (0, q))) ∨
    s.who (n.map (·.val)) = some (1, p.val)) : s.mayOwn p n = true := by
  unfold State.mayOwn
  rcases h with ⟨h0, rfl | ⟨q, hq⟩⟩ | h
  · rw [h0]
    rfl
  · rw [h0, hq]
    rfl
  · rw [h]
    simp
theorem not_mayOwn (h : s.reg (Reg.plotState p) ≠ 0 ∨ (n ≠ none ∧ ∀ q, s.who (n.map (·.val)) ≠ some (0, q)))
    (h1 : s.who (n.map (·.val)) ≠ some (1, p.val)) : s.mayOwn p n = false := by
  unfold State.mayOwn
  cases hw : s.who (n.map (·.val)) with
  | none =>
    rcases h with h | h
    · simp [h]
    · cases n
      · exact absurd rfl h.1
      · rfl
  | some x =>
    obtain ⟨role, q⟩ := x
    have hown : (role == 1 && q == p.val) = false := by
      rw [Bool.and_eq_false_iff, beq_eq_false_iff_ne, beq_eq_false_iff_ne, ← not_and_or]
      rintro ⟨rfl, rfl⟩
      exact h1 hw
    dsimp only
    rw [hown, Bool.or_false]
    rcases h with h | h
    · simp [h]
    · have hr : role ≠ 0 := by
        rintro rfl
        exact h.2 q hw
      simp [hr]
theorem mayObserve_iff : s.mayObserve p n = true ↔ s.who (n.map (·.val)) = some (1, p.val) := by
  unfold State.mayObserve
  cases s.who (n.map (·.val)) with
  | none => simp
  | some x => simp [Prod.ext_iff]

/-- A key write counts. -/
theorem keyWritten_frame (s : State) (role : Nat) (p : Fin 16) : (s.keyWritten role p).reg (Reg.keySerial p) = (s.reg (Reg.keySerial p) + 1) % 4294967296 ∧
    (s.keyWritten role p).plots = s.plots ∧ SameRegs s (s.keyWritten role p) [Reg.keySerial p, Reg.flashPending] := by
  have hb : SameRegs s (s.bump (Reg.keySerial p)) [Reg.keySerial p, Reg.flashPending] := SameRegs.setReg (by simp) _
  have hs : (s.bump (Reg.keySerial p)).reg (Reg.keySerial p) = bump32 (s.reg (Reg.keySerial p)) := reg_bump_same _ _
  have hp : (s.bump (Reg.keySerial p)).plots = s.plots := rfl
  unfold State.keyWritten
  generalize s.bump (Reg.keySerial p) = u at hb hs hp
  have hc := closeSessions_regs u (ofRole role p)
  have hcp := closeSessions_plots u (ofRole role p)
  have hf := (flashed_reports (u.closeSessions (ofRole role p))).trans (.reply _ 0 _)
  refine ⟨?_, hf.plots.trans (hcp.trans hp), hb.trans ((sameRegs_of_regs hc _).trans (hf.2.mono (by simp)))⟩
  rw [hf.2 _ (by simp; omega), reg_of_regs hc, hs]
  rfl

theorem ownerKey_bad (h : s.mayOwn p n = true) (hl : key.length ≠ 32) : Answers (.ownerKey p n key) s 0x12 := by
  refine exec_ownerKey.trans ?_
  rw [h]
  exact congrArg Host.Outcome.next (if_pos hl)
theorem observerKey_bad (h : s.mayObserve p n = true) (hl : key.length ≠ 32) : Answers (.observerKey p n key) s 0x12 := by
  refine exec_observerKey.trans ?_
  rw [h]
  exact congrArg Host.Outcome.next (if_pos hl)

/-- A plot's owner key, and its claim where it was unclaimed. -/
def State.ownBy (s : State) (p : Nat) (key : List Byte) : State :=
  (s.modPlot p fun x => { x with ownerKey := key }).when (s.reg (Reg.plotState p) == 0) fun s => s.setReg (Reg.plotState p) 1
theorem ownBy_frame (s : State) (p : Fin 16) (key : List Byte) : ((s.ownBy p key).plot p).ownerKey = key ∧
    (s.ownBy p key).reg (Reg.plotState p) = (if s.reg (Reg.plotState p) = 0 then 1 else s.reg (Reg.plotState p)) ∧
    SameRegs s (s.ownBy p key) [Reg.plotState p] := by
  have hk := plot_modPlot_same (s := s) (p := p.val) fun x => { x with ownerKey := key }
  unfold State.ownBy
  by_cases h0 : s.reg (Reg.plotState p) = 0
  · rw [beq_iff_eq.mpr h0, if_pos h0]
    exact ⟨congrArg PlotSt.ownerKey hk, reg_setReg_same _ _ _, sameRegs_setReg (s := s) rfl _ _⟩
  · rw [beq_false_of_ne h0, if_neg h0]
    exact ⟨congrArg PlotSt.ownerKey hk, rfl, fun _ _ => rfl⟩
theorem runs_ownerKey (h : s.mayOwn p n = true) (hl : key.length = 32) : Runs (.ownerKey p n key) s fun t =>
    (t.plot p).ownerKey = key ∧ t.reg (Reg.plotState p) = (if s.reg (Reg.plotState p) = 0 then 1 else s.reg (Reg.plotState p)) ∧
    t.reg (Reg.keySerial p) = (s.reg (Reg.keySerial p) + 1) % 4294967296 ∧ t.answer.status = 0 ∧
    SameRegs s t [Reg.plotState p, Reg.keySerial p, Reg.flashPending] ∧ SameMem s t := by
  have hexec : exec (.ownerKey p n key) s = .next ((s.ownBy p key).keyWritten 1 p) := by
    refine exec_ownerKey.trans ?_
    rw [h]
    exact congrArg Host.Outcome.next (if_neg (not_not_intro hl))
  obtain ⟨hkey, hstate, hregs⟩ := ownBy_frame s p key
  generalize s.ownBy p key = u at hexec hkey hstate hregs
  obtain ⟨hserial, hplots, hframe⟩ := keyWritten_frame u 1 p
  refine runs_of_exec rfl hexec fun hm => ⟨?_, (hframe _ (by simp)).trans hstate, ?_, rfl, (hregs.mono (by simp)).trans (hframe.mono (by simp)), hm⟩
  · exact (congrArg PlotSt.ownerKey (plot_of_plots hplots p)).trans hkey
  · rw [hserial, hregs _ (by simp)]

theorem runs_observerKey (h : s.mayObserve p n = true) (hl : key.length = 32) : Runs (.observerKey p n key) s fun t =>
    (t.plot p).observerKey = key ∧ (t.plot p).ownerKey = (s.plot p).ownerKey ∧
    t.reg (Reg.keySerial p) = (s.reg (Reg.keySerial p) + 1) % 4294967296 ∧ t.answer.status = 0 ∧
    SameRegs s t [Reg.keySerial p, Reg.flashPending] ∧ SameMem s t := by
  have hexec : exec (.observerKey p n key) s = .next ((s.modPlot p fun x => { x with observerKey := key }).keyWritten 2 p) := by
    refine exec_observerKey.trans ?_
    rw [h]
    exact congrArg Host.Outcome.next (if_neg (not_not_intro hl))
  have hk := plot_modPlot_same (s := s) (p := p.val) fun x => { x with observerKey := key }
  have hregs : SameRegs s (s.modPlot p fun x => { x with observerKey := key }) [] := fun _ _ => rfl
  generalize (s.modPlot p fun x => { x with observerKey := key }) = u at hexec hk hregs
  obtain ⟨hserial, hplots, hframe⟩ := keyWritten_frame u 2 p
  refine runs_of_exec rfl hexec fun hm => ⟨?_, ?_, ?_, rfl, (hregs.mono (by simp)).trans hframe, hm⟩
  · exact (congrArg PlotSt.observerKey (plot_of_plots hplots p)).trans (congrArg PlotSt.observerKey hk)
  · exact (congrArg PlotSt.ownerKey (plot_of_plots hplots p)).trans (congrArg PlotSt.ownerKey hk :)
  · rw [hserial, hregs _ (by simp)]

/-- Settles O40: handoff words form and end authorisations, and a key is written by those who may. -/
theorem handoffsAndKeys : Obligations.HandoffsAndKeys := by
  intro p w s
  refine ⟨fun h => ⟨runs_hoDone (exec_hoOffer_none h), runs_hoDone (exec_hoAccept_none h), runs_hoDone (exec_hoWithdraw_none h)⟩,
    fun i q h => ⟨fun hh => runs_hoDone (exec_hoOffer_foreign h hh), runs_hoOffer h, runs_hoAccept h, runs_hoWithdraw_inForce h,
      runs_hoWithdraw_idle h⟩, runs_handoffForm s, fun i => ⟨runs_handoffWithdrawApply s i, handoffWithdrawApply_none⟩,
    fun n key => ⟨fun h => ⟨runs_ownerKey (mayOwn_of h), ownerKey_bad (mayOwn_of h)⟩, fun h h1 => ?_,
      fun h => ⟨runs_observerKey (mayObserve_iff.mpr h), observerKey_bad (mayObserve_iff.mpr h)⟩, fun h => ?_⟩⟩
  · refine exec_ownerKey.trans ?_
    rw [not_mayOwn h h1]
    rfl
  · refine exec_observerKey.trans ?_
    rw [Bool.eq_false_iff.mpr (mt mayObserve_iff.mp h)]
    rfl
end
end Sys2Proof.Machine
end

section
/-!
PROOFS. Meters (17, R481 to R483).
-/
namespace Sys2Proof.Machine

section
variable {s : State} {p : Fin 16} {recs : List Byte}

theorem mtrSet_refused {c : Nat} (h : s.meterCode p recs = some c) : Runs (.mtrSet p recs) s fun t => t.reg (Reg.mtrStatus p) = c ∧
    SameRegs s t [Reg.mtrStatus p] ∧ t.units = s.units := by
  have hexec : exec (.mtrSet p recs) s = .next ((s.setReg (Reg.mtrStatus p) c).reply 0) := by
    show execMtrSet p recs s = _
    unfold execMtrSet
    rw [h]
  exact ⟨_, hexec, reg_setReg_same _ _ _, sameRegs_setReg (s := s) rfl _ _, rfl⟩

/-- A set waits for its period. -/
def PlotSt.waitSet (k : Nat) (ids : List SigId) (x : PlotSt) : PlotSt := { x with meterPend := some (k, ids) }
theorem exec_mtrSet (h : s.meterCode p recs = none) : exec (.mtrSet p recs) s = .next ((((s.modPlot p (PlotSt.waitSet
    (periodStart s.actTick (((s.plot p).periodPend.map fun e => e.2).getD (s.plot p).meterP)) (meterIds recs))).setBlob (Reg.mtrSet p) recs).setReg
      (Reg.mtrStatus p) 1).reply 0) := by
  show execMtrSet p recs s = _
  unfold execMtrSet
  rw [h]
  dsimp only
  cases (s.plot p).periodPend <;> rfl
theorem mtrSet_waits (h : s.meterCode p recs = none) : Runs (.mtrSet p recs) s fun t =>
    (t.plot p).meterPend = some (periodStart s.actTick (((s.plot p).periodPend.map fun e => e.2).getD (s.plot p).meterP), meterIds recs) ∧
    t.blob (Reg.mtrSet p) = recs ∧ t.reg (Reg.mtrStatus p) = 1 ∧ (t.plot p).meters = (s.plot p).meters ∧
    SameRegs s t [Reg.mtrStatus p] ∧ SameMem s t := by
  have hexec := exec_mtrSet h
  generalize periodStart s.actTick (((s.plot p).periodPend.map fun e => e.2).getD (s.plot p).meterP) = k at hexec ⊢
  have hx := plot_modPlot_same (s := s) (p := p.val) (PlotSt.waitSet k (meterIds recs))
  exact runs_of_exec rfl hexec fun hm => ⟨congrArg PlotSt.meterPend hx, Table.get_put_same _ _ _ _ _, reg_setReg_same _ _ _,
    (congrArg PlotSt.meters hx :), sameRegs_setReg (s := s) rfl _ _, hm⟩

/-- A period waits, and a set with it. -/
def PlotSt.waitPeriod (k v : Nat) (x : PlotSt) : PlotSt := { x with periodPend := some (k, v), meterPend := x.meterPend.map fun e => (k, e.2) }
theorem mtrPeriod_bad {v : Nat} (h : v = 0 ∨ 1000 < v) : Answers (.mtrPeriod p v) s 0x13 := if_pos (h.imp_left fun h => by omega)
theorem exec_mtrPeriod {v : Nat} (h1 : 1 ≤ v) (h2 : v ≤ 1000) : exec (.mtrPeriod p v) s = .next (((s.modPlot p (PlotSt.waitPeriod
    (periodStart s.actTick v) v)).setRegs [(Reg.mtrPeriod p, (v : Int)), (Reg.mtrStatus p, 1)]).reply 0) :=
  if_neg (show ¬(v < 1 ∨ v > 1000) by omega)
theorem mtrPeriod_waits {v : Nat} (h1 : 1 ≤ v) (h2 : v ≤ 1000) : Runs (.mtrPeriod p v) s fun t =>
    (t.plot p).periodPend = some (periodStart s.actTick v, v) ∧
    (t.plot p).meterPend = (s.plot p).meterPend.map (fun e => (periodStart s.actTick v, e.2)) ∧
    t.reg (Reg.mtrPeriod p) = v ∧ t.reg (Reg.mtrStatus p) = 1 ∧ SameRegs s t [Reg.mtrPeriod p, Reg.mtrStatus p] ∧ SameMem s t := by
  have hx := plot_modPlot_same (s := s) (p := p.val) (PlotSt.waitPeriod (periodStart s.actTick v) v)
  have hset : SameRegs s ((s.modPlot p (PlotSt.waitPeriod (periodStart s.actTick v) v)).setRegs [(Reg.mtrPeriod p, (v : Int)), (Reg.mtrStatus p, 1)])
      [Reg.mtrPeriod p, Reg.mtrStatus p] := (sameRegs_of_regs (s := s) rfl _).trans (Reports.setRegs (by simp)).2
  exact runs_of_exec rfl (exec_mtrPeriod h1 h2) fun hm => ⟨congrArg PlotSt.periodPend hx, congrArg PlotSt.meterPend hx,
    (reg_setReg_other _ _ _ _ (by simp)).trans (reg_setReg_same _ _ _), reg_setReg_same _ _ _, hset, hm⟩

/-- What is due of a plot's waiting set and period. -/
@[reducible] def State.dueSet (s : State) (p : Nat) : Option (Nat × List SigId) := (s.plot p).meterPend.filter fun e => decide (e.1 ≤ s.tick)
@[reducible] def State.duePeriod (s : State) (p : Nat) : Option (Nat × Nat) := (s.plot p).periodPend.filter fun e => decide (e.1 ≤ s.tick)
/-- The meters and the period that are in force with what is due. -/
@[reducible] def State.nextIds (s : State) (p : Nat) : List SigId := ((s.dueSet p).map fun e => e.2).getD (s.plot p).meters
@[reducible] def State.nextPeriod (s : State) (p : Nat) : Nat := ((s.duePeriod p).map fun e => e.2).getD (s.plot p).meterP
/-- What was due waits no longer. -/
def PlotSt.takeDue (set per : Bool) (y : PlotSt) : PlotSt :=
  { y with meterPend := if set then none else y.meterPend, periodPend := if per then none else y.periodPend }
/-- A set is in force from its period on. -/
def PlotSt.force (ids : List SigId) (v : Nat) (y : PlotSt) : PlotSt := { y with meterNext := some (ids, v), meterP := v }
/-- The state where what was due has been taken. -/
@[reducible] def State.takeMeters (s : State) (p : Nat) : State := s.modPlot p (PlotSt.takeDue (s.dueSet p).isSome (s.duePeriod p).isSome)

theorem meterSetApply_none (h1 : s.dueSet p = none) (h2 : s.duePeriod p = none) : exec (.meterSetApply p) s = .next s := by
  refine if_pos (show ((s.dueSet p).isNone && (s.duePeriod p).isNone) = true from ?_)
  rw [h1, h2]
  rfl
theorem exec_meterSetApply (h : s.dueSet p ≠ none ∨ s.duePeriod p ≠ none) : exec (.meterSetApply p) s =
    if (s.nextIds p).all (s.mayMeter p) then
      .next ((((s.takeMeters p).modPlot p (PlotSt.force (s.nextIds p) (s.nextPeriod p))).setRegs
        [(Reg.mtrCount p, ((s.nextIds p).length : Int)), (Reg.mtrStatus p, 0)]).notifyPlot p 4 (Reg.mtrStatus p))
    else
      .next ((((s.takeMeters p).setBlob (Reg.mtrSet p) ((s.plot p).meters.flatMap fun i => leBytes 4 i)).setRegs
        [(Reg.mtrPeriod p, ((s.plot p).meterP : Int)), (Reg.mtrStatus p, 0x11)]).notifyPlot p 4 (Reg.mtrStatus p)) := by
  have hdue : ¬((s.dueSet p).isNone && (s.duePeriod p).isNone) = true := by
    rw [Bool.and_eq_true, Option.isNone_iff_eq_none, Option.isNone_iff_eq_none]
    exact not_and_or.mpr h
  refine (if_neg hdue).trans ?_
  unfold State.nextIds State.nextPeriod State.takeMeters
  change (s.plot p).meterPend.filter _ ≠ none ∨ (s.plot p).periodPend.filter _ ≠ none at h
  generalize hs : s.dueSet p = set
  generalize hp : s.duePeriod p = per
  rw [show (s.plot p).meterPend.filter _ = set from hs, show (s.plot p).periodPend.filter _ = per from hp]
  cases set <;> cases per <;> rfl
theorem plot_takeMeters (s : State) (p : Nat) : (s.takeMeters p).plot p = (s.plot p).takeDue (s.dueSet p).isSome (s.duePeriod p).isSome :=
  plot_modPlot_same (s := s) (p := p) _
theorem takeDue_meterPend {x : PlotSt} {set : Option (Nat × List SigId)} (h : set ≠ none) (per : Bool) : (x.takeDue set.isSome per).meterPend = none := by
  unfold PlotSt.takeDue
  rw [Option.isSome_iff_ne_none.mpr h]
  rfl
theorem takeDue_periodPend {x : PlotSt} {per : Option (Nat × Nat)} (h : per ≠ none) (set : Bool) : (x.takeDue set per.isSome).periodPend = none := by
  unfold PlotSt.takeDue
  rw [Option.isSome_iff_ne_none.mpr h]
  rfl

theorem meterSetApply_takes (h : s.dueSet p ≠ none ∨ s.duePeriod p ≠ none) (hall : (s.nextIds p).all (s.mayMeter p) = true) :
    Runs (.meterSetApply p) s fun t => (t.plot p).meterNext = some (s.nextIds p, s.nextPeriod p) ∧ (t.plot p).meterP = s.nextPeriod p ∧
      (s.dueSet p ≠ none → (t.plot p).meterPend = none) ∧ (s.duePeriod p ≠ none → (t.plot p).periodPend = none) ∧
      t.reg (Reg.mtrCount p) = (s.nextIds p).length ∧ t.reg (Reg.mtrStatus p) = 0 ∧
      SameRegs s t [Reg.mtrCount p, Reg.mtrStatus p, Reg.notifyDropped] ∧ SameMem s t := by
  have hexec := exec_meterSetApply h
  rw [if_pos hall] at hexec
  have hx : ((s.takeMeters p).modPlot p (PlotSt.force (s.nextIds p) (s.nextPeriod p))).plot p =
      ((s.plot p).takeDue (s.dueSet p).isSome (s.duePeriod p).isSome).force (s.nextIds p) (s.nextPeriod p) := by
    rw [plot_modPlot_same, plot_takeMeters]
  have hregs : ((s.takeMeters p).modPlot p (PlotSt.force (s.nextIds p) (s.nextPeriod p))).regs = s.regs := rfl
  generalize (s.takeMeters p).modPlot p (PlotSt.force (s.nextIds p) (s.nextPeriod p)) = u at hexec hx hregs
  have hset : Reports u (u.setRegs [(Reg.mtrCount p, ((s.nextIds p).length : Int)), (Reg.mtrStatus p, 0)])
      [Reg.mtrCount p, Reg.mtrStatus p, Reg.notifyDropped] := .setRegs (by simp)
  have hcount : (u.setRegs [(Reg.mtrCount p, ((s.nextIds p).length : Int)), (Reg.mtrStatus p, 0)]).reg (Reg.mtrCount p) = (s.nextIds p).length :=
    (reg_setReg_other _ _ _ _ (by simp)).trans (reg_setReg_same _ _ _)
  have hstatus : (u.setRegs [(Reg.mtrCount p, ((s.nextIds p).length : Int)), (Reg.mtrStatus p, 0)]).reg (Reg.mtrStatus p) = 0 := reg_setReg_same _ _ _
  generalize u.setRegs [(Reg.mtrCount p, ((s.nextIds p).length : Int)), (Reg.mtrStatus p, 0)] = v at hexec hset hcount hstatus
  have hn : Reports v (v.notifyPlot p 4 (Reg.mtrStatus p)) [Reg.notifyDropped] := .notifyPlot (by simp) _ _ _
  have hplot := (plot_of_plots (hn.plots.trans hset.plots) p).trans hx
  refine runs_of_exec rfl hexec fun hm => ⟨congrArg PlotSt.meterNext hplot, congrArg PlotSt.meterP hplot,
    fun hs => (congrArg PlotSt.meterPend hplot).trans (takeDue_meterPend hs (s.duePeriod p).isSome), fun hs => (congrArg PlotSt.periodPend hplot).trans (takeDue_periodPend hs (s.dueSet p).isSome),
    (hn.2 _ (by simp)).trans hcount, (hn.2 _ (by simp)).trans hstatus,
    (sameRegs_of_regs hregs _).trans (hset.2.trans (hn.2.mono (by simp))), hm⟩
theorem meterSetApply_keeps (h : s.dueSet p ≠ none ∨ s.duePeriod p ≠ none) (hall : (s.nextIds p).all (s.mayMeter p) = false) :
    Runs (.meterSetApply p) s fun t => (t.plot p).meters = (s.plot p).meters ∧ (t.plot p).meterNext = (s.plot p).meterNext ∧
      (s.dueSet p ≠ none → (t.plot p).meterPend = none) ∧ t.reg (Reg.mtrStatus p) = 0x11 ∧
      SameRegs s t [Reg.mtrPeriod p, Reg.mtrStatus p, Reg.notifyDropped] ∧ SameMem s t := by
  have hexec := exec_meterSetApply h
  rw [if_neg (by rw [hall]; decide)] at hexec
  have hx : ((s.takeMeters p).setBlob (Reg.mtrSet p) ((s.plot p).meters.flatMap fun i => leBytes 4 i)).plot p =
      (s.plot p).takeDue (s.dueSet p).isSome (s.duePeriod p).isSome := plot_takeMeters s p
  have hregs : ((s.takeMeters p).setBlob (Reg.mtrSet p) ((s.plot p).meters.flatMap fun i => leBytes 4 i)).regs = s.regs := rfl
  generalize (s.takeMeters p).setBlob (Reg.mtrSet p) ((s.plot p).meters.flatMap fun i => leBytes 4 i) = u at hexec hx hregs
  have hset : Reports u (u.setRegs [(Reg.mtrPeriod p, ((s.plot p).meterP : Int)), (Reg.mtrStatus p, 0x11)])
      [Reg.mtrPeriod p, Reg.mtrStatus p, Reg.notifyDropped] := .setRegs (by simp)
  have hstatus : (u.setRegs [(Reg.mtrPeriod p, ((s.plot p).meterP : Int)), (Reg.mtrStatus p, 0x11)]).reg (Reg.mtrStatus p) = 0x11 := reg_setReg_same _ _ _
  generalize u.setRegs [(Reg.mtrPeriod p, ((s.plot p).meterP : Int)), (Reg.mtrStatus p, 0x11)] = v at hexec hset hstatus
  have hn : Reports v (v.notifyPlot p 4 (Reg.mtrStatus p)) [Reg.notifyDropped] := .notifyPlot (by simp) _ _ _
  have hplot := (plot_of_plots (hn.plots.trans hset.plots) p).trans hx
  exact runs_of_exec rfl hexec fun hm => ⟨(congrArg PlotSt.meters hplot :), (congrArg PlotSt.meterNext hplot :),
    fun hs => (congrArg PlotSt.meterPend hplot).trans (takeDue_meterPend hs (s.duePeriod p).isSome), (hn.2 _ (by simp)).trans hstatus,
    (sameRegs_of_regs hregs _).trans (hset.2.trans (hn.2.mono (by simp))), hm⟩

/-- A period's values have been read. -/
def PlotSt.metered (x : PlotSt) : PlotSt := { x with meterDone := none }
theorem meterPeriodEnd_none (h : (s.plot p).meterDone = none) : exec (.meterPeriodEnd p) s = .next s := by
  show execMeterPeriodEnd p s = _
  unfold execMeterPeriodEnd
  rw [h]
theorem meterPeriodEnd_some {first : Nat} {early : Bool} {ms : List (SigId × MeterAcc)} (h : (s.plot p).meterDone = some (first, early, ms)) :
    ∃ rings, exec (.meterPeriodEnd p) s = .next { ((s.modPlot p PlotSt.metered).setBlob (Reg.mtrValues p)
      (ms.map fun e => meterEntry early e.1 e.2).flatten).setReg (Reg.mtrTick p) first with rings := rings } := by
  show ∃ rings, execMeterPeriodEnd p s = _
  unfold execMeterPeriodEnd
  rw [h]
  exact ⟨_, rfl⟩

/-- Settles O41: a set and a period wait for one period start, are checked again there, and a period that has ended is read once. -/
theorem meters : Obligations.Meters := by
  intro p s
  refine ⟨?_, fun recs c => mtrSet_refused, fun v => mtrPeriod_waits, fun v => mtrPeriod_bad, ?_, fun first early ms h => ?_, meterPeriodEnd_none⟩
  · rintro recs v h rfl
    exact mtrSet_waits h
  · rintro set per rfl rfl
    refine ⟨meterSetApply_none, ?_⟩
    rintro ids v h rfl rfl
    exact ⟨meterSetApply_takes h, meterSetApply_keeps h⟩
  · obtain ⟨rings, hexec⟩ := meterPeriodEnd_some h
    exact runs_of_exec rfl hexec fun hm => ⟨reg_setReg_same _ _ _, Table.get_put_same _ _ _ _ _,
      congrArg PlotSt.meterDone (plot_modPlot_same (s := s) (p := p.val) PlotSt.metered), sameRegs_setReg (s := s) rfl _ _, hm⟩
end
end Sys2Proof.Machine
end

section
/-!
PROOFS. The tick's moments (01, R21 to R30).
-/
namespace Sys2Proof.Machine

/-! What a data plane that is down leaves. -/

section
variable {s : State} {half : Bool} {unstaged : List SigId} {rep : TickReport}

theorem moments_down (h : s.planeDown = true) : exec (.tickBoundary rep) s = .next s ∧ exec .ingestReady s = .next s ∧
    exec (.stagingDeadline half unstaged) s = .next s ∧ exec (.egressOpening half) s = .next s := ⟨if_pos h, if_pos h, if_pos h, if_pos h⟩

/-! The next tick opens (R25). -/

/-- Every memory, queue and the one tick. -/
@[reducible] def atTickOf (k : Nat) (_ : NTable Byte) (_ : List Instr) (t : Nat) : Prop := t = k
theorem atTickOf_closed (k : Nat) : Closed (atTickOf k) := ⟨fun _ _ _ h => h, fun _ _ _ _ _ h => h, fun _ _ _ _ h => h⟩

/-- The tick that closes, with what the report of its cells adds. -/
def State.closed (s : State) (rep : TickReport) : State := ((s.closeTick.bumpBy Reg.areCecc rep.areCecc).badCells rep.cells).counterTick
/-- What the tick that opens finds, before the pair and the gardener act. -/
def State.opened (s : State) (rep : TickReport) : State :=
  let s4 := (((s.openBlocks).holdScrubs.rxBoundary).sapOpen.clockBoundary rep).tevBoundary
  match rep.tj with | some t => s4.readTj t | none => s4
theorem exec_tickBoundary (h : s.planeDown = false) : ∃ cells edge proof failed, exec (.tickBoundary rep) s =
    .next ((((({ s.closed rep with tick := (s.closed rep).tick + 1, cycle := 0, ranTo := 0, pair := cells } : State).opened rep).pairBoundary edge proof failed).sendNotices).passLimits).gardService :=
  ⟨_, _, _, _, if_neg (by rw [h]; decide)⟩
theorem closed_tick (s : State) (rep : TickReport) : (s.closed rep).tick = s.tick :=
  keeps_counterTick (P := atTickOf s.tick) _ (keeps_badCells _ _ (keeps_bumpBy _ _ _ (keeps_closeTick (atTickOf_closed s.tick) s rfl)))
theorem opened_tick (s : State) (rep : TickReport) : (s.opened rep).tick = s.tick := by
  have h : Holds (atTickOf s.tick) (((s.openBlocks).holdScrubs.rxBoundary).sapOpen.clockBoundary rep).tevBoundary :=
    keeps_tevBoundary _ (keeps_clockBoundary _ _ (keeps_sapOpen _ (keeps_rxBoundary _ (keeps_holdScrubs _ (keeps_openBlocks _ rfl)))))
  unfold State.opened
  dsimp only
  split
  · exact keeps_readTj (P := atTickOf s.tick) _ _ h
  · exact h
theorem runs_tickBoundary (h : s.planeDown = false) : Runs (.tickBoundary rep) s fun t => t.tick = s.tick + 1 ∧ t.pending = s.pending := by
  obtain ⟨cells, edge, proof, failed, hexec⟩ := exec_tickBoundary (rep := rep) h
  refine ⟨_, hexec, ?_, exec_pending hexec⟩
  rw [← closed_tick s rep]
  generalize s.closed rep = u
  have ho := opened_tick { u with tick := u.tick + 1, cycle := 0, ranTo := 0, pair := cells } rep
  exact keeps_gardService (P := atTickOf (u.tick + 1)) _ (keeps_passLimits _ (keeps_sendNotices _ (keeps_pairBoundary (atTickOf_closed _) _ _ _ _ ho)))

/-! INGEST_READY (R22). -/

theorem runs_of_completes {i : Instr} {P : State → Prop} (h : ∀ t, exec i s = .next t → P t) : Runs i s P := by
  obtain ⟨t, ht⟩ := exec_completes i s
  exact ⟨t, ht, h t ht⟩
theorem trellisTo_idle (h : ∀ e ∈ s.trellis, e.2.waiting = []) (k : Nat) : s.trellisTo k = s := by
  have hno : (s.trellis.filter fun (x : Nat × TrellisPort) => x.2.waiting != []) = [] := by
    rw [List.filter_eq_nil_iff]
    intro e he
    simp [h e he]
  unfold State.trellisTo
  rw [hno]
  rfl
theorem exec_ingestReady_alone (h : s.planeDown = false) (hp : s.paired = false) (hw : ∀ e ∈ s.trellis, e.2.waiting = []) :
    exec .ingestReady s = .next { s with cycle := max s.cycle Config.ingestReady } := by
  refine (if_neg (by rw [h]; decide)).trans ((if_pos (by rw [hp]; rfl)).trans ?_)
  rw [trellisTo_idle hw]

/-! Staging (R23). -/

/-- A state with other staged blocks. -/
def State.withStaged (u : State) (b : NTable (List Sample)) : State := { u with staged := b }
/-- The block of a sink as a deadline stages it. -/
def State.stagedBlock (u : State) (unstaged : List SigId) (p : Nat) (x : SigId) : List Sample :=
  if x ∈ unstaged then silence (u.sinkBlock p x) else u.sinkBlock p x
/-- The staged blocks with those of a plot. -/
def State.putStaged (u : State) (unstaged : List SigId) (b : NTable (List Sample)) (p : Nat) : NTable (List Sample) :=
  (u.stagedSinks p).foldl (fun b x => NTable.put [] b x (u.stagedBlock unstaged p x)) b

theorem sinkBlock_withStaged (u : State) (b : NTable (List Sample)) (p : Nat) (x : SigId) : (u.withStaged b).sinkBlock p x = u.sinkBlock p x :=
  SameSignals.sinkBlock (s := u) (t := u.withStaged b) ⟨⟨rfl, rfl⟩, rfl, rfl, rfl, rfl, rfl⟩ p x
/-- A sink is staged, one that is late with silence. -/
def State.stageSink (p : Nat) (late : List SigId) (s : State) (x : SigId) : State :=
  { s with staged := NTable.put [] s.staged x (if late.contains x then silence (s.sinkBlock p x) else s.sinkBlock p x) }
theorem stageSink_withStaged (u : State) (b : NTable (List Sample)) (p : Nat) {late : List SigId} {x : SigId} (hl : late.contains x = decide (x ∈ unstaged)) :
    (u.withStaged b).stageSink p late x = u.withStaged (NTable.put [] b x (u.stagedBlock unstaged p x)) := by
  unfold State.stageSink State.stagedBlock
  rw [sinkBlock_withStaged, hl]
  simp only [decide_eq_true_eq]
  rfl
theorem stageSinks_withStaged (u : State) (p : Nat) (late : List SigId) (l : List SigId) (hl : ∀ x ∈ l, late.contains x = decide (x ∈ unstaged))
    (b : NTable (List Sample)) : overL l (State.stageSink p late) (u.withStaged b) =
      u.withStaged (l.foldl (fun b x => NTable.put [] b x (u.stagedBlock unstaged p x)) b) := by
  induction l generalizing b with
  | nil => rfl
  | cons x l ih =>
    show overL l _ ((u.withStaged b).stageSink p late x) = _
    rw [stageSink_withStaged u b p (hl x (.head _))]
    exact ih (fun y hy => hl y (.tail _ hy)) _
/-- A plot whose late sinks no task feeds is staged without an overrun. -/
theorem stagePlot_idle (u : State) {p : Nat} (hp : ∀ x ∈ u.stagedSinks p, x ∈ unstaged → u.producers p x = []) (b : NTable (List Sample)) :
    (u.withStaged b).stagePlot p unstaged = u.withStaged (u.putStaged unstaged b p) := by
  have hnone : (((u.stagedSinks p).filter unstaged.contains).flatMap fun x => u.producers p x) = [] := by
    rw [List.flatMap_eq_nil_iff]
    intro x hx
    obtain ⟨h1, h2⟩ := List.mem_filter.mp hx
    exact hp x h1 (List.contains_iff_mem.mp h2)
  show overL (u.stagedSinks p) _ (overL ((((u.stagedSinks p).filter unstaged.contains).flatMap fun x => u.producers p x).eraseDups) _ (u.withStaged b)) = _
  rw [hnone]
  refine stageSinks_withStaged u p ((u.stagedSinks p).filter unstaged.contains) (u.stagedSinks p) (fun x hx => ?_) b
  rw [List.contains_eq_mem, decide_eq_decide, List.mem_filter, List.contains_iff_mem]
  exact and_iff_right hx
theorem stagePlots_idle (u : State) (l : List Nat) (hl : ∀ p ∈ l, ∀ x ∈ u.stagedSinks p, x ∈ unstaged → u.producers p x = []) (b : NTable (List Sample)) :
    overL l (fun s p => s.stagePlot p unstaged) (u.withStaged b) = u.withStaged (l.foldl (u.putStaged unstaged) b) := by
  induction l generalizing b with
  | nil => rfl
  | cons p l ih =>
    show overL l _ ((u.withStaged b).stagePlot p unstaged) = _
    rw [stagePlot_idle u (hl p (.head _))]
    exact ih (fun q hq => hl q (.tail _ hq)) _

theorem get_putStaged_other (u : State) (b : NTable (List Sample)) {p : Nat} {x : SigId} (h : x ∉ u.stagedSinks p) :
    NTable.get [] (u.putStaged unstaged b p) x = NTable.get [] b x :=
  get_putAll_other [] (fun x => x) (u.stagedBlock unstaged p) _ _ fun _ hy he => h (he ▸ hy)
theorem get_putStaged_same (u : State) (b : NTable (List Sample)) {p : Nat} {x : SigId} (h : x ∈ u.stagedSinks p) :
    NTable.get [] (u.putStaged unstaged b p) x = u.stagedBlock unstaged p x := by
  unfold State.putStaged
  generalize u.stagedSinks p = l at h ⊢
  induction l generalizing b with
  | nil => cases h
  | cons y l ih =>
    by_cases hl : x ∈ l
    · exact ih _ hl
    · obtain rfl := (List.mem_cons.mp h).resolve_right hl
      exact (get_putAll_other [] (fun x => x) (u.stagedBlock unstaged p) l _ fun z hz he => hl (by rw [← he]; exact hz)).trans (NTable.get_put_same _ _ _ _)
theorem get_putStageds_other (u : State) (b : NTable (List Sample)) {x : SigId} (l : List Nat) (h : ∀ q ∈ l, x ∉ u.stagedSinks q) :
    NTable.get [] (l.foldl (u.putStaged unstaged) b) x = NTable.get [] b x :=
  foldl_keeps (g := fun b => NTable.get [] b x) l b fun b q hq => get_putStaged_other u b (h q hq)
/-- The block of a sink that one plot alone stages. -/
theorem get_putStageds (u : State) {p : Nat} {x : SigId} (hx : x ∈ u.stagedSinks p) (l : List Nat) (hd : l.Nodup) (hp : p ∈ l)
    (ho : ∀ q ∈ l, q ≠ p → x ∉ u.stagedSinks q) (b : NTable (List Sample)) :
    NTable.get [] (l.foldl (u.putStaged unstaged) b) x = u.stagedBlock unstaged p x := by
  induction l generalizing b with
  | nil => cases hp
  | cons q l ih =>
    obtain ⟨hq, hd⟩ := List.nodup_cons.mp hd
    by_cases hpl : p ∈ l
    · exact ih hd hpl (fun r hr => ho r (.tail _ hr)) _
    · obtain rfl := (List.mem_cons.mp hp).resolve_right hpl
      refine (get_putStageds_other u _ l fun r hr => ho r (.tail _ hr) ?_).trans (get_putStaged_same u b hx)
      rintro rfl
      exact hpl hr

theorem sendStamps_alone (h : s.reg Reg.pairState = 0) : s.sendStamps = s := if_pos (.inl (by unfold State.paired; rw [h]; rfl))
theorem sendHot_alone (h : s.reg Reg.pairState = 0) : s.sendHot = s := if_pos (by unfold State.sendsPages; rw [h]; rfl)
theorem exec_stagingDeadline_alone {k : Nat} {u : State} (hk : k = if half then Config.halfDeadline else Config.fullDeadline)
    (hu : u = (s.trellisTo k).advanceTo k) (h : s.planeDown = false) (hp : u.reg Reg.pairState = 0)
    (hprod : ∀ p < 16, u.stagesAt half p = true → ∀ x ∈ u.stagedSinks p, x ∈ unstaged → u.producers p x = []) :
    exec (.stagingDeadline half unstaged) s =
      .next (u.withStaged (((List.range 16).filter (u.stagesAt half)).foldl (u.putStaged unstaged) u.staged)) := by
  have hs2 : overL ((List.range 16).filter (u.stagesAt half)) (fun s p => s.stagePlot p unstaged) u =
      u.withStaged (((List.range 16).filter (u.stagesAt half)).foldl (u.putStaged unstaged) u.staged) :=
    stagePlots_idle u _ (fun p hm => by
      obtain ⟨h1, h2⟩ := List.mem_filter.mp hm
      exact hprod p (List.mem_range.mp h1) h2) u.staged
  show execStagingDeadline half unstaged s = _
  unfold execStagingDeadline
  rw [if_neg (by rw [h]; decide)]
  extract_lets at_ s1 s2 st s3
  have hs1 : s1 = u := by rw [hu, hk]
  have h2 : s2 = u.withStaged (((List.range 16).filter (u.stagesAt half)).foldl (u.putStaged unstaged) u.staged) := by
    unfold s2
    rw [hs1]
    exact hs2
  have hreg : s2.reg Reg.pairState = 0 := by
    rw [h2]
    exact hp
  have h3 : s3 = s2 := if_neg (by unfold st State.nat; rw [hreg]; decide)
  rw [h3, sendStamps_alone hreg, sendHot_alone hreg, ite_self, h2]

/-! Egress opens (R28 to R30). -/

/-- The blocks that have opened and those staged. -/
@[reducible] def State.leavings (s : State) : NTable (List Sample) × NTable (List Sample) := (s.out, s.staged)
theorem enqueue_leavings (s : State) (n : Nat) (f : QFrame) : (s.enqueue n f).leavings = s.leavings := by
  have hd (r : Reg) : (s.dropFrame n r f).leavings = s.leavings := by
    unfold State.dropFrame State.legDrop
    split <;> rfl
  unfold State.enqueue
  extract_lets late room
  split_ifs
  · exact hd _
  · exact hd _
  · exact hd _
  · rfl
theorem sendPacket_leavings (s : State) (t first : Nat) (chans : List (List Sample)) (launch : Option Nat) (now block : Nat) :
    (s.sendPacket t first chans launch now block).leavings = s.leavings :=
  overL_keeps (g := State.leavings) _ _ fun u _ _ => enqueue_leavings u _ _
theorem openStreams_leavings (s : State) (kind : Nat) (w : Nat → Bool) : (s.openStreams kind w).leavings = s.leavings := by
  unfold State.openStreams
  extract_lets b
  refine overL_keeps (g := State.leavings) _ s fun u t _ => ?_
  split
  · rfl
  · extract_lets half m hold mute s1 e l n chans
    split_ifs
    · rfl
    · rfl
    · rfl
    · rfl
    · rfl
    · exact sendPacket_leavings s1 _ _ _ _ _ _
theorem openStreams_none (h : s.txLive = []) (kind : Nat) (w : Nat → Bool) : s.openStreams kind w = s := by
  unfold State.openStreams
  rw [h]
  rfl
theorem pscFeed_keeps (s : State) (n a : Nat) (b : List Sample) : (s.pscFeed n a b).leavings = s.leavings ∧ (s.pscFeed n a b).regs = s.regs := by
  unfold State.pscFeed
  split <;> exact ⟨rfl, rfl⟩

/-- What opens egress before its streams. -/
theorem openSinks_frame (s : State) (half : Bool) : (s.openSinks half).leavings = ((s.leaving half).foldl (fun t (e : Nat × List Sample) => NTable.put [] t e.1 e.2)
      (s.out.filter fun (e : Nat × List Sample) => s.outHalf e.1 != half), s.staged.filter fun (e : Nat × List Sample) => s.sinkHalf e.1 != half) ∧
    (s.openSinks half).regs = s.regs := by
  unfold State.openSinks
  extract_lets now s1
  have hfeed (u : State) (n : Nat) (a : Nat) (f : Nat → List Sample) (o : Option Nat) (b : Bool) : (match o with
      | some p => if b then u.pscFeed n a (f p) else u
      | none => u).leavings = u.leavings ∧ (match o with
      | some p => if b then u.pscFeed n a (f p) else u
      | none => u).regs = u.regs := by
    cases o <;> cases b
    · exact ⟨rfl, rfl⟩
    · exact ⟨rfl, rfl⟩
    · exact ⟨rfl, rfl⟩
    · exact pscFeed_keeps u n a _
  refine ⟨(overN_keeps (g := State.leavings) 64 s1 fun u n _ => ?_).trans rfl, (overN_keeps (g := State.regs) 64 s1 fun u n _ => ?_).trans rfl⟩
  · exact (hfeed u n (if half then 96000 else 0) (fun p => padTo (6 * u.plotMult p) (NTable.get [] now (sigOf 9 n))) (u.sigOwner (sigOf 9 n)) (u.sinkHalf (sigOf 9 n) == half)).1
  · exact (hfeed u n (if half then 96000 else 0) (fun p => padTo (6 * u.plotMult p) (NTable.get [] now (sigOf 9 n))) (u.sigOwner (sigOf 9 n)) (u.sinkHalf (sigOf 9 n) == half)).2

/-- The state at whose cycle egress opens. -/
def State.atOpening (s : State) (half : Bool) : State := if half then { s with cycle := max s.cycle (Config.cyclesPerTick / 2) } else s
/-- The streams whose egress opens. -/
def State.streamsOpen (s : State) (half : Bool) : State :=
  if half then s.openStreams 3 fun p => s.staysBack (if half then 0 else 1) p
  else (s.openStreams 4 fun p => s.staysBack (if half then 0 else 1) p).openStreams 2 fun _ => s.focusHolds
theorem exec_egressOpening (h : s.planeDown = false) : ∃ pair, exec (.egressOpening half) s =
    .next { ((s.atOpening half).openSinks half).streamsOpen half with pair := pair } := by
  have hup : ¬s.planeDown = true := by rw [h]; decide
  exact ⟨_, if_neg hup⟩
theorem streamsOpen_leavings (s : State) (half : Bool) : (s.streamsOpen half).leavings = s.leavings := by
  cases half
  · exact (openStreams_leavings _ _ _).trans (openStreams_leavings _ _ _)
  · exact openStreams_leavings _ _ _
theorem streamsOpen_none (h : s.txLive = []) (half : Bool) : s.streamsOpen half = s := by
  cases half
  · unfold State.streamsOpen
    rw [if_neg (by decide), openStreams_none h, openStreams_none h]
  · exact openStreams_none h _ _
theorem atOpening_leaving (s : State) (half h : Bool) : (s.atOpening half).leaving h = s.leaving h := by cases half <;> rfl
theorem atOpening_half (s : State) (half : Bool) (x : SigId) : (s.atOpening half).sinkHalf x = s.sinkHalf x := by cases half <;> rfl
theorem atOpening_staged (s : State) (half : Bool) : (s.atOpening half).staged = s.staged ∧ (s.atOpening half).regs = s.regs := by
  cases half <;> exact ⟨rfl, rfl⟩

/-- A block that leaves is the one that opens: a sink is staged once. -/
theorem get_leaving {x : SigId} {b : List Sample} (hw : NTable.wf [] s.staged = true) (hm : (x, b) ∈ s.staged) (hh : s.sinkHalf x = half)
    (hr : s.hasRoute x = true) (t : NTable (List Sample)) :
    NTable.get [] ((s.leaving half).foldl (fun t (e : Nat × List Sample) => NTable.put [] t e.1 e.2) t) x = if s.leavesLast x then rampDown b else b := by
  have hsorted : s.staged.Pairwise fun a c => a.1 < c.1 := (Table.sorted_iff id s.staged).mp (Bool.and_eq_true _ _ ▸ hw).1
  have hin : (x, if s.leavesLast x then rampDown b else b) ∈ s.leaving half :=
    List.mem_map.mpr ⟨(x, b), List.mem_filter.mpr ⟨hm, by rw [hh, hr]; simp⟩, rfl⟩
  have hl : (s.leaving half).Pairwise fun a c => a.1 < c.1 := List.pairwise_map.mpr (hsorted.filter _)
  obtain ⟨i, hi, he⟩ := List.mem_iff_getElem.mp hin
  refine get_putAll_last [] (fun e : Nat × List Sample => e.1) (fun e => e.2) (w := (x, if s.leavesLast x then rampDown b else b)) (i := i)
    (by rw [List.getElem?_eq_getElem hi, he]) fun j v hij hv => ?_
  obtain ⟨hj, hv⟩ := List.getElem?_eq_some_iff.mp hv
  have := List.pairwise_iff_getElem.mp hl i j hi hj hij
  rw [he, hv] at this
  exact Nat.ne_of_gt this

theorem runs_egressOpening (h : s.planeDown = false) (hw : NTable.wf [] s.staged = true) : Runs (.egressOpening half) s fun t =>
    (∀ (x : SigId) (b : List Sample), (x, b) ∈ s.staged → s.sinkHalf x = half → s.hasRoute x = true →
      NTable.get [] t.out x = if s.leavesLast x then rampDown b else b) ∧
    t.staged = s.staged.filter (fun (e : Nat × List Sample) => s.sinkHalf e.1 != half) ∧ (s.txLive = [] → SameRegs s t [] ∧ SameMem s t) := by
  obtain ⟨pair, hexec⟩ := exec_egressOpening (half := half) h
  obtain ⟨hopen, hregs⟩ := openSinks_frame (s.atOpening half) half
  obtain ⟨hstaged, hregs0⟩ := atOpening_staged s half
  rw [atOpening_leaving, hstaged] at hopen
  simp only [atOpening_half] at hopen
  have hleave := (streamsOpen_leavings ((s.atOpening half).openSinks half) half).trans hopen
  have hlive : ((s.atOpening half).openSinks half).txLive = s.txLive := by
    unfold State.txLive
    rw [hregs, hregs0]
  have hquiet : s.txLive = [] → (((s.atOpening half).openSinks half).streamsOpen half).regs = s.regs := fun h0 => by
    rw [streamsOpen_none (hlive.trans h0), hregs, hregs0]
  generalize ((s.atOpening half).openSinks half).streamsOpen half = u at hexec hleave hquiet
  refine runs_of_exec rfl hexec fun hm => ⟨fun x b hx hh hr => ?_, congrArg Prod.snd hleave, fun h0 => ⟨sameRegs_of_regs (hquiet h0) _, hm⟩⟩
  show NTable.get [] u.out x = _
  rw [show u.out = _ from congrArg Prod.fst hleave]
  exact get_leaving hw hx hh hr _

/-- Settles O42: each moment keeps the tick but the boundary, stages or opens the blocks of its half, and does nothing with the plane down. -/
theorem tickMoments : Obligations.TickMoments := by
  intro rep half unstaged s
  refine ⟨moments_down, runs_tickBoundary, fun h => ⟨runs_of_completes fun t ht => ⟨exec_tick rfl ht, exec_pending ht⟩, fun hp hw => ?_⟩,
    fun h => runs_of_completes fun t ht => ⟨exec_tick rfl ht, exec_pending ht⟩, fun k hk u hu h hp hprod => ?_, runs_egressOpening⟩
  · exact ⟨_, exec_ingestReady_alone h hp hw, rfl, fun _ _ => rfl, fun _ => rfl⟩
  · refine ⟨_, exec_stagingDeadline_alone hk hu h hp hprod, fun _ _ => rfl, fun _ => rfl, fun p hp16 hst x hx ho => ?_⟩
    refine get_putStageds u hx _ ((List.nodup_range).filter _) (List.mem_filter.mpr ⟨List.mem_range.mpr hp16, hst⟩) (fun q hq hne => ?_) _
    obtain ⟨h1, h2⟩ := List.mem_filter.mp hq
    exact ho q (List.mem_range.mp h1) hne h2
end
end Sys2Proof.Machine
end

section
/-!
PROOFS. Writes of objects (16, R450 to R456; 17, R474 to R476; 08, R251).
-/
namespace Sys2Proof.Machine

/-! REGISTER_WRITE (R450, R461). -/

section
variable {s : State} {owner : Fin 17} {idx sub unit : Nat} {v : List Byte} {o : ObjInfo}

/-- The writer of REGISTER_WRITE. -/
@[reducible] def writerOf (owner : Fin 17) : Writer := if owner.val = 16 then { role := 0, plot := 255 } else { role := 1, plot := owner.val }
/-- May the writer of REGISTER_WRITE write an object. -/
def State.mayRegister (s : State) (owner : Fin 17) (o : ObjInfo) (r : Reg) : Bool :=
  bit (rightsOf o r.idx r.sub : Int) (if owner.val = 16 then 1 else 3) &&
    (owner.val == 16 || isSelector r.idx r.sub || !plotBound r.idx || s.regPlot r == some owner.val)
/-- Does a write act on this chip alone and at once: it is local to the chip, or the chip is not paired. -/
def State.actsHere (s : State) (idx sub : Nat) : Prop := localObj idx sub = true ∨ s.paired = false

theorem registerWrite_unknown (h : findObj idx sub = none) : Answers (.registerWrite owner idx sub unit v) s 0x10 := by
  show execRegisterWrite owner idx sub unit v s = _
  unfold execRegisterWrite
  rw [h]
theorem exec_registerWrite (h : findObj idx sub = some o) : exec (.registerWrite owner idx sub unit v) s =
    if o.acc ≠ 1 ∨ !s.mayRegister owner o ⟨idx, sub, unit⟩ then .next (s.reply 0x11)
    else if isSelector idx sub then .next (s.reply (s.valueCode o ⟨idx, sub, unit⟩ v))
    else if s.paired && s.reg Reg.pairRole != 0 && !localObj idx sub then .next (s.reply 0x18)
    else .next (s.acceptWrite (writerOf owner) o ⟨idx, sub, unit⟩ v none) := by
  show execRegisterWrite owner idx sub unit v s = _
  unfold execRegisterWrite
  rw [h]
  rfl
theorem registerWrite_readOnly (h : findObj idx sub = some o) (ha : o.acc ≠ 1) : Answers (.registerWrite owner idx sub unit v) s 0x11 :=
  (exec_registerWrite h).trans (if_pos (.inl ha))
theorem registerWrite_denied (h : findObj idx sub = some o) (hm : s.mayRegister owner o ⟨idx, sub, unit⟩ = false) :
    Answers (.registerWrite owner idx sub unit v) s 0x11 := (exec_registerWrite h).trans (if_pos (.inr (by rw [hm]; rfl)))
theorem mayRegister_of {r : Reg} (hr : bit (rightsOf o r.idx r.sub : Int) (if owner.val = 16 then 1 else 3) = true)
    (hp : owner.val = 16 ∨ plotBound r.idx = false ∨ s.regPlot r = some owner.val) : s.mayRegister owner o r = true := by
  unfold State.mayRegister
  rw [hr]
  rcases hp with h | h | h <;> simp [h]
theorem acceptWrite_here {w : Writer} {r : Reg} (h : s.actsHere r.idx r.sub) : s.acceptWrite w o r v none = s.runWrite w o r v := by
  refine if_neg ?_
  rcases h with h | h
  · simp [h]
  · have h0 : s.reg Reg.pairState = 0 := by simpa [State.paired] using h
    simp [State.forwards, h0]
/-- A write of an object that its writer may write runs. -/
theorem registerWrite_runs (h : findObj idx sub = some o) (ha : o.acc = 1) (hm : s.mayRegister owner o ⟨idx, sub, unit⟩ = true)
    (hs : isSelector idx sub = false) (hh : s.actsHere idx sub) : exec (.registerWrite owner idx sub unit v) s =
      .next (s.runWrite (writerOf owner) o ⟨idx, sub, unit⟩ v) := by
  have h1 : ¬(o.acc ≠ 1 ∨ (!s.mayRegister owner o ⟨idx, sub, unit⟩) = true) := by rw [ha, hm]; simp
  have h2 : ¬(s.paired && s.reg Reg.pairRole != 0 && !localObj idx sub) = true := by
    rcases hh with hh | hh <;> simp [hh]
  rw [exec_registerWrite h, if_neg h1, if_neg (by rw [hs]; decide), if_neg h2, acceptWrite_here hh]

theorem runWrite_bad {w : Writer} {r : Reg} (h : s.valueCode o r v ≠ 0) : s.runWrite w o r v = s.reply (s.valueCode o r v) := if_pos h
/-- No object has a meaning of its own for a write. -/
structure PlainWrite (s : State) (w : Writer) (r : Reg) (b : List Byte) (n : Int) : Prop where
  last : s.writeLast w r b n = none
  compute : s.writeCompute w r b n = none
  plot : s.writePlot w r b n = none
  time : s.writeTime w r b n = none
  net : s.writeNet w r b n = none
  audio : s.writeAudio w r b n = none
  chip : s.writeChip w r b n = none
theorem runWrite_plain {w : Writer} {r : Reg} (h : s.valueCode o r v = 0) (hp : PlainWrite s w r v (if o.ty ≥ 13 then 0 else scalarValue o.ty v)) :
    s.runWrite w o r v = s.writePlain o r v (if o.ty ≥ 13 then 0 else scalarValue o.ty v) := by
  unfold State.runWrite
  rw [if_neg (not_not_intro h)]
  dsimp only
  rw [hp.last, hp.compute, hp.plot, hp.time, hp.net, hp.audio, hp.chip]
  rfl
theorem writePlain_timed {r : Reg} {n : Int} (h : o.timed = true) : s.writePlain o r v n =
    (s.dueWrite r (if o.ty = 15 then (leAt v 0 v.length : Nat) else n)).reply 0 := if_pos h
/-- The value of a write stands. -/
def State.takeValue (s : State) (o : ObjInfo) (r : Reg) (b : List Byte) (n : Int) : State :=
  if o.ty ≥ 13 then s.setBlob r (keptBytes r b) else s.setReg r n
theorem writePlain_now {r : Reg} {n : Int} (h : o.timed = false) (hu : s.busyUnit r = none) (hb : s.breaksRoute r n = false) :
    s.writePlain o r v n = ((s.takeValue o r v n).when (inFlash r.idx r.sub) State.flashed).reply 0 := by
  unfold State.writePlain
  rw [if_neg (by rw [h]; decide), hu, hb]
  rfl
/-- The count of flash writes that wait is no object to write. -/
theorem flashPending_readOnly : (findObj Reg.flashPending.idx Reg.flashPending.sub).all (fun o => o.acc != 1) = true := by decide +kernel
theorem written_ne_pending (h : findObj idx sub = some o) (ha : o.acc = 1) : (⟨idx, sub, unit⟩ : Reg) ≠ Reg.flashPending := by
  intro he
  have hro := flashPending_readOnly
  rw [← he, h] at hro
  simp [ha] at hro
theorem takeValue_frame (s : State) (o : ObjInfo) {r : Reg} (v : List Byte) (n : Int) (hr : r ≠ Reg.flashPending) :
    let t := ((s.takeValue o r v n).when (inFlash r.idx r.sub) State.flashed).reply 0
    (if o.ty ≥ 13 then t.blob r = keptBytes r v else t.reg r = n) ∧ t.answer.status = 0 ∧ SameRegs s t [r, Reg.flashPending] ∧ SameMem s t := by
  have hset : Reports (s.takeValue o r v n) (((s.takeValue o r v n).when (inFlash r.idx r.sub) State.flashed).reply 0) [Reg.flashPending] :=
    (Reports.when _ (flashed_reports _)).trans (.reply _ 0 _)
  generalize ht : ((s.takeValue o r v n).when (inFlash r.idx r.sub) State.flashed).reply 0 = t at hset
  have hstatus : t.answer.status = 0 := by rw [← ht]; rfl
  dsimp only
  by_cases h13 : o.ty ≥ 13
  · have hu : s.takeValue o r v n = s.setBlob r (keptBytes r v) := if_pos h13
    rw [hu] at hset
    rw [if_pos h13]
    refine ⟨?_, hstatus, (sameRegs_of_regs (s := s) rfl _).trans (hset.2.mono (by simp)), fun a => hset.sameMem a⟩
    exact (hset.field (fun s => s.blob r) fun _ => rfl).trans (Table.get_put_same _ _ _ _ _)
  · have hu : s.takeValue o r v n = s.setReg r n := if_neg h13
    rw [hu] at hset
    rw [if_neg h13]
    refine ⟨?_, hstatus, .trans (.setReg (by simp) n) (hset.2.mono (by simp)), fun a => hset.sameMem a⟩
    exact (hset.2 r (by simpa using hr)).trans (reg_setReg_same _ _ _)

/-- A plain write of an object that takes its value at once. -/
theorem registerWrite_now {w : Writer} {n : Int} (h : findObj idx sub = some o) (ha : o.acc = 1) (hw : w = writerOf owner)
    (hn : n = if o.ty ≥ 13 then 0 else scalarValue o.ty v) (hm : s.mayRegister owner o ⟨idx, sub, unit⟩ = true)
    (hs : isSelector idx sub = false) (hh : s.actsHere idx sub) (hv : s.valueCode o ⟨idx, sub, unit⟩ v = 0)
    (hp : PlainWrite s w ⟨idx, sub, unit⟩ v n) (ht : o.timed = false) (hu : s.busyUnit ⟨idx, sub, unit⟩ = none)
    (hb : s.breaksRoute ⟨idx, sub, unit⟩ n = false) : Runs (.registerWrite owner idx sub unit v) s fun t =>
      (if o.ty ≥ 13 then t.blob ⟨idx, sub, unit⟩ = keptBytes ⟨idx, sub, unit⟩ v else t.reg ⟨idx, sub, unit⟩ = n) ∧ t.answer.status = 0 ∧
      SameRegs s t [⟨idx, sub, unit⟩, Reg.flashPending] ∧ SameMem s t := by
  subst hn hw
  have hexec := registerWrite_runs (v := v) h ha hm hs hh
  rw [runWrite_plain hv hp, writePlain_now ht hu hb] at hexec
  exact ⟨_, hexec, takeValue_frame s o v _ (written_ne_pending h ha)⟩
theorem registerWrite_later {w : Writer} {n : Int} (h : findObj idx sub = some o) (ha : o.acc = 1) (hw : w = writerOf owner)
    (hn : n = if o.ty ≥ 13 then 0 else scalarValue o.ty v) (hm : s.mayRegister owner o ⟨idx, sub, unit⟩ = true)
    (hs : isSelector idx sub = false) (hh : s.actsHere idx sub) (hv : s.valueCode o ⟨idx, sub, unit⟩ v = 0)
    (hp : PlainWrite s w ⟨idx, sub, unit⟩ v n) (ht : o.timed = true) : Runs (.registerWrite owner idx sub unit v) s fun t =>
      t.due = s.due ++ [⟨s.actTick, ⟨idx, sub, unit⟩, if o.ty = 15 then (leAt v 0 v.length : Nat) else n⟩] ∧ t.answer.status = 0 ∧
      SameRegs s t [] ∧ SameMem s t := by
  subst hn hw
  have hexec := registerWrite_runs (v := v) h ha hm hs hh
  rw [runWrite_plain hv hp, writePlain_timed ht] at hexec
  exact ⟨_, hexec, rfl, rfl, fun _ _ => rfl, fun _ => rfl⟩
theorem registerWrite_refused (h : findObj idx sub = some o) (ha : o.acc = 1) (hm : s.mayRegister owner o ⟨idx, sub, unit⟩ = true)
    (hs : isSelector idx sub = false) (hh : s.actsHere idx sub) (hv : s.valueCode o ⟨idx, sub, unit⟩ v ≠ 0) :
    Answers (.registerWrite owner idx sub unit v) s (s.valueCode o ⟨idx, sub, unit⟩ v) :=
  (registerWrite_runs h ha hm hs hh).trans (congrArg Host.Outcome.next (runWrite_bad hv))
end

/-! SESSION_TIMEOUT and PLOT_FAULT_MASK (16, R453; 07, R216). -/

section
variable {s : State} {owner : Fin 17} {p : Fin 16} {v : List Byte}

/-- The dictionary's row of the session time-out. -/
def timeoutRow : ObjInfo := { idx := 0x1200, span := 1, sub := 2, subs := 1, ty := 3, acc := 1, timed := false, sel := false, lo := 1, hi := 300 }
theorem findObj_timeout : findObj 0x1200 2 = some timeoutRow := by decide +kernel
theorem timeout_gardener (s : State) : s.mayRegister 16 timeoutRow Reg.sessionTimeout = true := mayRegister_of (by decide) (.inl rfl)
theorem timeout_plots (h : owner.val < 16) : s.mayRegister owner timeoutRow ⟨0x1200, 2, 0⟩ = false := by
  unfold State.mayRegister
  rw [if_neg (by omega)]
  rfl
theorem valueCode_scalar {o : ObjInfo} (h : o.ty < 13) (r : Reg) : s.valueCode o r v = if v.length ≠ tyLen o.ty then 0x12
    else if scalarValue o.ty v < o.lo ∨ scalarValue o.ty v > o.hi ∨ !s.rangeOk r (scalarValue o.ty v) then 0x13 else 0 := by
  unfold State.valueCode
  rw [if_neg (by omega), if_neg (show ¬o.ty ≥ 13 by omega)]
theorem timeout_code (s : State) (v : List Byte) : s.valueCode timeoutRow ⟨0x1200, 2, 0⟩ v =
    if v.length ≠ 2 then 0x12 else if leAt v 0 2 = 0 ∨ 300 < leAt v 0 2 then 0x13 else 0 := by
  refine (valueCode_scalar (o := timeoutRow) (by decide) _).trans ?_
  have hr : s.rangeOk ⟨0x1200, 2, 0⟩ (leAt v 0 2 : Int) = true := rfl
  have hval : scalarValue timeoutRow.ty v = (leAt v 0 2 : Int) := rfl
  have hrange : ((leAt v 0 2 : Int) < 1 ∨ (leAt v 0 2 : Int) > 300) ↔ leAt v 0 2 = 0 ∨ 300 < leAt v 0 2 := by omega
  rw [hval, hr]
  simp only [Bool.not_true, Bool.false_eq_true, or_false]
  exact congrArg (fun c => if v.length ≠ 2 then 0x12 else c) (if_congr hrange rfl rfl)
theorem timeout_plain (s : State) (v : List Byte) (n : Int) : PlainWrite s (writerOf 16) ⟨0x1200, 2, 0⟩ v n := ⟨rfl, rfl, rfl, rfl, rfl, rfl, rfl⟩
theorem sessionTimeout_set (hl : v.length = 2) (h1 : 1 ≤ leAt v 0 2) (h2 : leAt v 0 2 ≤ 300) : Runs (.registerWrite 16 0x1200 2 0 v) s fun t =>
    t.reg Reg.sessionTimeout = leAt v 0 2 ∧ t.answer.status = 0 ∧ SameRegs s t [Reg.sessionTimeout, Reg.flashPending] ∧ SameMem s t := by
  have hcode : s.valueCode timeoutRow ⟨0x1200, 2, 0⟩ v = 0 := by
    rw [timeout_code, if_neg (not_not_intro hl), if_neg (by omega)]
  exact registerWrite_now (n := (leAt v 0 2 : Int)) findObj_timeout rfl rfl rfl (timeout_gardener s) (by decide) (.inl (by decide)) hcode (timeout_plain s v _) rfl rfl rfl
theorem sessionTimeout_refused {c : Nat} (hc : s.valueCode timeoutRow ⟨0x1200, 2, 0⟩ v = c) (h0 : c ≠ 0) :
    Answers (.registerWrite 16 0x1200 2 0 v) s c := by
  subst hc
  exact registerWrite_refused findObj_timeout rfl (timeout_gardener s) (by decide) (.inl (by decide)) h0

/-- The dictionary's row of the fault masks of the plots. -/
def faultMaskRow : ObjInfo := { idx := 0x2370, span := 16, sub := 3, subs := 1, ty := 4, acc := 1, timed := false, sel := false, lo := 0, hi := 511 }
theorem findObj_faultMask (p : Fin 16) : findObj (0x2370 + p) 3 = some faultMaskRow := by
  revert p
  decide +kernel
theorem faultMask_rights (p : Fin 16) : bit (rightsOf faultMaskRow (0x2370 + p) 3 : Int) 3 = true ∧ plotBound (0x2370 + p) = true ∧
    isSelector (0x2370 + p) 3 = false := by
  revert p
  decide +kernel
theorem faultMask_plot (s : State) (p : Fin 16) : s.regPlot ⟨0x2370 + p, 3, 0⟩ = some p.val := by
  have h : (0x2370 + p.val) % 16 = p.val := by omega
  unfold State.regPlot
  dsimp only
  rw [if_pos, h]
  refine List.any_eq_true.mpr ⟨0x2370, by decide, ?_⟩
  simp only [Bool.and_eq_true, decide_eq_true_eq]
  omega
theorem faultMask_own (h : owner.val = p.val) : s.mayRegister owner faultMaskRow ⟨0x2370 + p, 3, 0⟩ = true := by
  refine mayRegister_of ?_ (.inr (.inr ((faultMask_plot s p).trans (by rw [h]))))
  rw [if_neg (by omega)]
  exact (faultMask_rights p).1
theorem faultMask_foreign (h16 : owner.val < 16) (h : owner.val ≠ p.val) : s.mayRegister owner faultMaskRow ⟨0x2370 + p, 3, 0⟩ = false := by
  obtain ⟨-, hbound, hsel⟩ := faultMask_rights p
  unfold State.mayRegister
  rw [faultMask_plot, hbound, hsel]
  simp [Ne.symm h, show owner.val ≠ 16 by omega]
theorem faultMask_plain (s : State) (w : Writer) (p : Fin 16) (v : List Byte) (n : Int) : PlainWrite s w ⟨0x2370 + p, 3, 0⟩ v n ∧
    s.rangeOk ⟨0x2370 + p, 3, 0⟩ n = true ∧ s.busyUnit ⟨0x2370 + p, 3, 0⟩ = none ∧ s.breaksRoute ⟨0x2370 + p, 3, 0⟩ n = false := by
  fin_cases p <;> exact ⟨⟨rfl, rfl, rfl, rfl, rfl, rfl, rfl⟩, rfl, rfl, rfl⟩
theorem faultMask_set (hl : v.length = 4) (h511 : leAt v 0 4 ≤ 511) (hp : s.paired = false) (ho : owner.val = p.val) :
    Runs (.registerWrite owner (0x2370 + p) 3 0 v) s fun t => t.reg (Reg.plotFaultMask p) = leAt v 0 4 ∧
      t.answer.status = 0 ∧ SameRegs s t [Reg.plotFaultMask p, Reg.flashPending] ∧ SameMem s t := by
  obtain ⟨hplain, hr, hu, hb⟩ := faultMask_plain s (writerOf owner) p v (leAt v 0 4)
  have hcode : s.valueCode faultMaskRow ⟨0x2370 + p, 3, 0⟩ v = 0 := by
    refine (valueCode_scalar (o := faultMaskRow) (by decide) _).trans ((if_neg (not_not_intro hl)).trans (if_neg ?_))
    have hval : scalarValue faultMaskRow.ty v = (leAt v 0 4 : Int) := rfl
    rw [hval, hr]
    have hlo : faultMaskRow.lo = 0 := rfl
    have hhi : faultMaskRow.hi = 511 := rfl
    rw [hlo, hhi]
    simp only [Bool.not_true, Bool.false_eq_true, or_false]
    omega
  exact registerWrite_now (n := (leAt v 0 4 : Int)) (findObj_faultMask p) rfl rfl rfl (faultMask_own ho) (faultMask_rights p).2.2 (.inr hp) hcode hplain rfl hu hb
end

/-! Actions that are due (16, R456). -/

section
variable {s : State} {x : Timed} {o : ObjInfo} {b : Reg}

theorem timedActionApply_none (h : ∀ x ∈ s.timed, s.tick < x.tick) : exec .timedActionApply s = .next s := by
  have h1 : (s.timed.filter fun x => decide (x.tick ≤ s.tick)) = [] := by
    rw [List.filter_eq_nil_iff]
    intro x hx
    simpa using h x hx
  have h2 : (s.timed.filter fun x => !decide (x.tick ≤ s.tick)) = s.timed := by
    rw [List.filter_eq_self]
    intro x hx
    simpa using h x hx
  show execTimedActionApply s = _
  unfold execTimedActionApply
  rw [h1, h2]
  rfl
/-- The state without the actions that wait. -/
@[reducible] def State.noTimed (s : State) : State := { s with timed := [] }
theorem timedActionApply_one (h : s.timed = [x]) (hx : x.tick ≤ s.tick) : exec .timedActionApply s = .next (s.noTimed.applyTimed x) := by
  have h1 : (s.timed.filter fun x => decide (x.tick ≤ s.tick)) = [x] := by
    rw [h]
    exact List.filter_cons_of_pos (decide_eq_true hx)
  have h2 : (s.timed.filter fun x => !decide (x.tick ≤ s.tick)) = [] := by
    rw [h]
    exact List.filter_cons_of_neg (by simpa using hx)
  show execTimedActionApply s = _
  unfold execTimedActionApply
  rw [h1, h2]
  rfl
/-- The object of the unit that an action names. -/
@[reducible] def Timed.base (x : Timed) : Reg := if x.reg.idx = 0x4802 then { x.reg with unit := x.reg.unit % 1024 }
  else if x.reg.idx = 0x4411 then { x.reg with unit := x.reg.unit % 32768 } else x.reg
/-- Has a due action lost its unit. -/
def State.lostUnit (s : State) (o : ObjInfo) (x : Timed) : Bool :=
  (decide (x.owner < 16) && plotBound x.base.idx && s.regPlot x.base != some x.owner) || (o.acc == 4 && !s.inLast x.base)
theorem applyTimed_stands (hf : findObj x.reg.idx x.reg.sub = some o) (ha : o.acc = 4) (hl : s.lostUnit o x = false) :
    s.applyTimed x = if o.ty ≥ 13 then s.setBlob x.reg x.bytes else s.setReg x.reg (scalarValue o.ty x.bytes) := by
  unfold State.applyTimed
  rw [hf]
  have hn : ¬s.lostUnit o x = true := by rw [hl]; decide
  exact (if_neg hn).trans (if_pos ha)
theorem applyTimed_lost (hf : findObj x.reg.idx x.reg.sub = some o) (hl : s.lostUnit o x = true) :
    s.applyTimed x = (s.dropNoted [x]).discard x.owner x.reg x.tick := by
  unfold State.applyTimed
  rw [hf]
  exact if_pos hl
theorem lostUnit_iff (s : State) (ha : o.acc = 4) : s.lostUnit o x = true ↔
    s.inLast x.base = false ∨ (x.owner < 16 ∧ plotBound x.base.idx = true ∧ s.regPlot x.base ≠ some x.owner) := by
  unfold State.lostUnit
  rw [ha]
  simp only [Bool.or_eq_true, Bool.and_eq_true, decide_eq_true_eq, bne_iff_ne, beq_self_eq_true, true_and, Bool.not_eq_true', and_assoc]
  exact or_comm
theorem lostUnit_noTimed (s : State) (o : ObjInfo) (x : Timed) : s.noTimed.lostUnit o x = s.lostUnit o x := rfl

theorem runs_timed_stands (h : s.timed = [x]) (hx : x.tick ≤ s.tick) (hf : findObj x.reg.idx x.reg.sub = some o) (ha : o.acc = 4)
    (hin : s.inLast x.base = true) (ho : 16 ≤ x.owner ∨ plotBound x.base.idx = false ∨ s.regPlot x.base = some x.owner) :
    Runs .timedActionApply s fun t => (if o.ty ≥ 13 then t.blob x.reg = x.bytes ∧ SameRegs s t [] else t.reg x.reg = scalarValue o.ty x.bytes ∧
      SameRegs s t [x.reg]) ∧ t.timed = [] ∧ SameMem s t := by
  have hl : s.noTimed.lostUnit o x = false := by
    rw [lostUnit_noTimed, Bool.eq_false_iff]
    intro hlost
    rcases (lostUnit_iff s ha).mp hlost with h | ⟨h1, h2, h3⟩
    · rw [hin] at h
      cases h
    · rcases ho with ho | ho | ho
      · omega
      · rw [ho] at h2
        cases h2
      · exact h3 ho
  have hexec := (timedActionApply_one h hx).trans (congrArg Host.Outcome.next (applyTimed_stands hf ha hl))
  by_cases h13 : o.ty ≥ 13
  · rw [if_pos h13] at hexec
    refine ⟨_, hexec, ?_, rfl, fun _ => rfl⟩
    rw [if_pos h13]
    exact ⟨Table.get_put_same _ _ _ _ _, fun _ _ => rfl⟩
  · rw [if_neg h13] at hexec
    refine ⟨_, hexec, ?_, rfl, fun _ => rfl⟩
    rw [if_neg h13]
    exact ⟨reg_setReg_same _ _ _, sameRegs_setReg (s := s) rfl _ _⟩
theorem runs_timed_lost (h : s.timed = [x]) (hx : x.tick ≤ s.tick) (hf : findObj x.reg.idx x.reg.sub = some o) (ha : o.acc = 4)
    (hl : s.inLast x.base = false ∨ (x.owner < 16 ∧ plotBound x.base.idx = true ∧ s.regPlot x.base ≠ some x.owner)) :
    Runs .timedActionApply s fun t => t.timed = [] ∧ t.blobs = s.blobs ∧ SameRegs s t [] ∧ SameMem s t :=
  ⟨_, (timedActionApply_one h hx).trans (congrArg Host.Outcome.next (applyTimed_lost hf ((lostUnit_iff s ha).mpr hl))), rfl, rfl,
    fun _ _ => rfl, fun _ => rfl⟩
end

/-! MGMT (08, R251, R252). -/

section
variable {s : State} {seq t : Nat} {a : FwdAction}

/-- Does a chip take actions of role A. -/
def State.takesMgmt (s : State) : Bool :=
  s.reg Reg.pairRole == 1 && (s.reg Reg.pairState == 3 || (s.reg Reg.pairState == 2 && decide (s.reg Reg.graftPhase ≥ 3)))
/-- What an action of role A changes on its partner. -/
def State.queueMgmt (s : State) (t : Nat) (a : FwdAction) : State :=
  let r : Reg := ⟨a.idx, a.sub, a.unit⟩
  let w : Writer := { role := a.role, plot := a.plot }
  if a.idx = 0x2020 ∧ a.sub = 1 then
    (if a.bytes = [3] then s.modBrace fun x => { x with unbraceAt := some t } else s.modBrace fun x => { x with policyAt := some t })
  else match findObj a.idx a.sub with
    | none => s
    | some o =>
      if a.named || o.acc == 4 then s.runAt w o r a.bytes t
      else if ownsTick o a.idx a.sub then
        let ran := ({ s with pair := { s.pair with toTick := some t } }).runWrite w o r a.bytes
        { ran with pair := { ran.pair with toTick := s.pair.toTick } }
      else s.holdBack w r a.bytes t
/-- The acknowledgement of an action. -/
def State.ackMgmt (s : State) (seq : Nat) : State :=
  { ((s.heard).modPair fun x => { x with acked := seq }).sendCell (.mack seq) with answer := { bytes := leBytes 4 seq, sent := true } }
theorem exec_mgmt : exec (.mgmt seq t a) s = if !s.takesMgmt then .next s else .next ((s.queueMgmt t a).ackMgmt seq) := rfl
theorem takesMgmt_iff : s.takesMgmt = true ↔ s.reg Reg.pairRole = 1 ∧
    (s.reg Reg.pairState = 3 ∨ (s.reg Reg.pairState = 2 ∧ 3 ≤ s.reg Reg.graftPhase)) := by
  unfold State.takesMgmt
  simp only [Bool.and_eq_true, Bool.or_eq_true, beq_iff_eq, decide_eq_true_eq, ge_iff_le]

/-- What the pair's cells leave alone. -/
@[reducible] def State.offCells (s : State) : BraceSt × List Timed × List (Reg × Int) × NTable Byte := (s.brace, s.timed, s.regs, s.mem)
theorem sendCell_acked (s : State) (c : Cell) : (s.sendCell c).pair.acked = s.pair.acked ∧ (s.sendCell c).offCells = s.offCells := by
  unfold State.sendCell
  split
  · exact ⟨foldl_keeps (g := PairSt.acked) s.linksUp s.pair fun _ _ _ => rfl, rfl⟩
  · split
    · exact ⟨rfl, rfl⟩
    · exact ⟨rfl, rfl⟩
theorem heard_offCells (s : State) : s.heard.offCells = s.offCells := when_keeps (g := State.offCells) rfl
theorem ackMgmt_frame (s : State) (seq : Nat) : (s.ackMgmt seq).answer.bytes = leBytes 4 seq ∧ (s.ackMgmt seq).answer.sent = true ∧
    (s.ackMgmt seq).pair.acked = seq ∧ (s.ackMgmt seq).offCells = s.offCells := by
  obtain ⟨h1, h2⟩ := sendCell_acked ((s.heard).modPair fun x => { x with acked := seq }) (.mack seq)
  exact ⟨rfl, rfl, h1, h2.trans (heard_offCells s)⟩
theorem runs_mgmt (h : s.takesMgmt = true) {P : State → Prop} (hP : ∀ u, u.answer.bytes = leBytes 4 seq → u.answer.sent = true → u.pair.acked = seq →
    u.offCells = (s.queueMgmt t a).offCells → u.tick = s.tick → P u) : Runs (.mgmt seq t a) s P := by
  obtain ⟨h1, h2, h3, h4⟩ := ackMgmt_frame (s.queueMgmt t a) seq
  have hexec : exec (.mgmt seq t a) s = .next ((s.queueMgmt t a).ackMgmt seq) := exec_mgmt.trans (if_neg (by rw [h]; decide))
  exact ⟨_, hexec, hP _ h1 h2 h3 h4 (exec_tick rfl hexec)⟩
theorem queueMgmt_brace (hi : a.idx = 0x2020) (hs : a.sub = 1) : s.queueMgmt t a =
    if a.bytes = [3] then s.modBrace fun x => { x with unbraceAt := some t } else s.modBrace fun x => { x with policyAt := some t } := if_pos ⟨hi, hs⟩
theorem queueMgmt_waits {o : ObjInfo} (hi : a.idx ≠ 0x2020) (hf : findObj a.idx a.sub = some o) (h4 : o.acc ≠ 4) (hn : a.named = false)
    (ho : ownsTick o a.idx a.sub = false) : s.queueMgmt t a = s.holdBack { role := a.role, plot := a.plot } ⟨a.idx, a.sub, a.unit⟩ a.bytes t := by
  unfold State.queueMgmt
  dsimp only
  rw [if_neg fun h => hi h.1, hf]
  dsimp only
  rw [hn, ho, beq_false_of_ne h4]
  rfl
theorem runs_mgmt_brace (h : s.takesMgmt = true) (hi : a.idx = 0x2020) (hs : a.sub = 1) : Runs (.mgmt seq t a) s fun u =>
    u.brace = (if a.bytes = [3] then { s.brace with unbraceAt := some t } else { s.brace with policyAt := some t }) ∧
    SameRegs s u [] ∧ SameMem s u := by
  refine runs_mgmt h fun u _ _ _ hu _ => ?_
  have hq : (s.queueMgmt t a).offCells = ((if a.bytes = [3] then { s.brace with unbraceAt := some t } else { s.brace with policyAt := some t }), s.timed, s.regs, s.mem) := by
    rw [queueMgmt_brace hi hs]
    split <;> rfl
  have hall := hu.trans hq
  exact ⟨congrArg (fun x => x.1) hall, sameRegs_of_regs (congrArg (fun x => x.2.2.1) hall) _, sameMem_of_mem (congrArg (fun x => x.2.2.2) hall)⟩
theorem runs_mgmt_waits {o : ObjInfo} (h : s.takesMgmt = true) (hi : a.idx ≠ 0x2020) (hf : findObj a.idx a.sub = some o) (h4 : o.acc ≠ 4)
    (hn : a.named = false) (ho : ownsTick o a.idx a.sub = false) : Runs (.mgmt seq t a) s fun u =>
      (∃ x : Timed, u.timed = s.timed ++ [x] ∧ x.tick = t ∧ x.bytes = a.bytes ∧ x.reg = ⟨a.idx, a.sub, a.unit⟩) ∧ SameRegs s u [] ∧ SameMem s u := by
  refine runs_mgmt h fun u _ _ _ hu _ => ?_
  rw [queueMgmt_waits hi hf h4 hn ho] at hu
  exact ⟨⟨_, congrArg (fun x => x.2.1) hu, rfl, rfl, rfl⟩, sameRegs_of_regs (congrArg (fun x => x.2.2.1) hu) _,
    sameMem_of_mem (congrArg (fun x => x.2.2.2) hu)⟩
end

/-- Settles O43: a write passes the checks of its object and writer, and then takes its value at once, at its boundary or with the pair. -/
theorem objectWrites : Obligations.ObjectWrites := by
  intro owner p idx sub unit v s
  refine ⟨registerWrite_unknown, fun o => registerWrite_readOnly, ?_, sessionTimeout_set, fun hl hb => ?_, fun hl => ?_,
    fun h => registerWrite_denied findObj_timeout (timeout_plots h), faultMask_set, fun h16 h => registerWrite_denied (findObj_faultMask p) (faultMask_foreign h16 h),
    timedActionApply_none, ?_, fun seq t a hr hs => ⟨?_, ?_, ?_⟩, fun seq t a h => ?_⟩
  · rintro o w n r hf ha rfl hw hn hbit hown hsel hp
    have hm : s.mayRegister owner o ⟨idx, sub, unit⟩ = true := mayRegister_of hbit hown
    refine ⟨registerWrite_refused hf ha hm hsel (.inr hp), fun hv h1 h2 h3 h4 h5 h6 h7 => ?_⟩
    have hplain : PlainWrite s w ⟨idx, sub, unit⟩ v n := ⟨h1, h2, h3, h4, h5, h6, h7⟩
    exact ⟨registerWrite_later hf ha hw hn hm hsel (.inr hp) hv hplain, registerWrite_now hf ha hw hn hm hsel (.inr hp) hv hplain⟩
  · exact sessionTimeout_refused (by rw [timeout_code, if_neg (not_not_intro hl), if_pos hb]) (by decide)
  · exact sessionTimeout_refused (by rw [timeout_code, if_pos hl]) (by decide)
  · rintro x o b h hx hf ha rfl
    exact ⟨runs_timed_stands h hx hf ha, runs_timed_lost h hx hf ha⟩
  · exact runs_mgmt (takesMgmt_iff.mpr ⟨hr, hs⟩) fun u h1 h2 h3 _ ht => ⟨h1, h2, h3, ht⟩
  · exact runs_mgmt_brace (takesMgmt_iff.mpr ⟨hr, hs⟩)
  · exact fun o => runs_mgmt_waits (takesMgmt_iff.mpr ⟨hr, hs⟩)
  · have hno : s.takesMgmt = false := by
      rw [Bool.eq_false_iff]
      intro ht
      obtain ⟨h1, h2⟩ := takesMgmt_iff.mp ht
      omega
    exact exec_mgmt.trans (if_pos (by rw [hno]; rfl))
end Sys2Proof.Machine
end

section
/-!
PROOFS. References and the DPLL (09, R276 to R289).
-/
namespace Sys2Proof.Machine

/-! The DPLL's sticky bits and grade (R288, R289). -/

section
variable {s : State}

/-- Clock state and memory, which the sticky bits leave alone. -/
@[reducible] def State.clocked (s : State) : ClkSt × PairSt := (s.clk, s.pair)
theorem stick_frame (s : State) (b : Nat) : Only State.clocked (· ∈ [Reg.dpllSticky, Reg.notifyDropped]) s (s.stick b) := by
  unfold State.stick
  refine .of_ite (fun _ => .refl _) fun _ => ?_
  refine .trans (Only.setReg (P := (· ∈ [Reg.dpllSticky, Reg.notifyDropped])) (by simp) _ rfl) (.of_ite (fun _ => ?_) fun _ => .refl _)
  have h : Reports (s.orReg Reg.dpllSticky (2 ^ b)) _ [Reg.notifyDropped] := .notify (by simp) (fun _ => true) 0x10 Reg.dpllSticky.idx
    Reg.dpllSticky.sub
  exact (Only.of_reports h (fun _ => rfl) (by simp)).trans (.of_regs rfl rfl)
theorem stick_sticky (s : State) (b : Nat) : (s.stick b).reg Reg.dpllSticky =
    if bit (s.reg Reg.dpllSticky) b then s.reg Reg.dpllSticky else ((s.nat Reg.dpllSticky ||| 2 ^ b : Nat) : Int) := by
  unfold State.stick
  by_cases hb : bit (s.reg Reg.dpllSticky) b = true
  · rw [if_pos hb, if_pos hb]
  · rw [if_neg hb, if_neg hb]
    have h1 : (s.orReg Reg.dpllSticky (2 ^ b)).reg Reg.dpllSticky = ((s.nat Reg.dpllSticky ||| 2 ^ b : Nat) : Int) := reg_setReg_same _ _ _
    generalize s.orReg Reg.dpllSticky (2 ^ b) = u at h1 ⊢
    dsimp only
    split
    · have h2 : Reports u (u.notify (fun _ => true) 0x10 Reg.dpllSticky.idx Reg.dpllSticky.sub) [Reg.notifyDropped] := .notify (by simp) _ _ _ _
      exact (h2.2 _ (by simp)).trans h1
    · exact h1
theorem bit_stick (s : State) (b : Nat) : bit ((s.stick b).reg Reg.dpllSticky) b = true := by
  rw [stick_sticky]
  split
  · assumption
  · exact bit_or_two_pow _ b
theorem bit_nat (n b : Nat) : bit (n : Int) b = n.testBit b := by
  rw [Nat.testBit_eq_decide_div_mod_eq]
  exact decide_eq_decide.mpr (by exact_mod_cast Iff.rfl)
/-- A sticky bit that is set stays. -/
theorem bit_stick_stays {b : Nat} (c : Nat) (h0 : 0 ≤ s.reg Reg.dpllSticky) (h : bit (s.reg Reg.dpllSticky) b = true) :
    bit ((s.stick c).reg Reg.dpllSticky) b = true := by
  have hn : (s.reg Reg.dpllSticky : Int) = (s.nat Reg.dpllSticky : Nat) := (Int.toNat_of_nonneg h0).symm
  rw [stick_sticky]
  split
  · exact h
  · rw [hn, bit_nat] at h
    rw [bit_nat, Nat.testBit_or, h, Bool.true_or]
/-- The registers of the own grade. -/
@[reducible] def gradeRegs : List Reg := [Reg.dpllGrade, Reg.synceQlOut, Reg.dpllSticky, Reg.notifyDropped]
theorem refreshGrade_regs (s : State) : SameRegs s s.refreshGrade gradeRegs := by
  unfold State.refreshGrade
  extract_lets g st u
  have hu : u.regs = s.regs := when_keeps (g := State.regs) rfl
  have hs : SameRegs u ((u.setRegs [(Reg.dpllGrade, g), (Reg.synceQlOut, qlOf g)]).stick 8) gradeRegs :=
    .trans (Reports.setRegs (by simp)).2 ((stick_frame _ 8).sameRegs.mono (by simp))
  split
  · exact sameRegs_of_regs hu _
  · exact (sameRegs_of_regs hu _).trans hs
/-- The own grade stands in its register. -/
theorem refreshGrade_grade (h : s.ownGrade ≠ 0) : s.refreshGrade.reg Reg.dpllGrade = s.ownGrade := by
  unfold State.refreshGrade
  extract_lets g st u
  split
  · rename_i hg
    have hn : (u.reg Reg.dpllGrade).toNat = s.ownGrade := hg
    omega
  · rw [(stick_frame _ 8).regs _ (by simp)]
    exact (reg_setReg_other _ _ _ _ (by simp)).trans (reg_setReg_same _ _ _)
/-- The sticky bits that the own grade adds to. -/
theorem refreshGrade_sticky {b : Nat} (h0 : 0 ≤ s.reg Reg.dpllSticky) (h : bit (s.reg Reg.dpllSticky) b = true) :
    bit (s.refreshGrade.reg Reg.dpllSticky) b = true := by
  unfold State.refreshGrade
  extract_lets g st u
  have hu : u.reg Reg.dpllSticky = s.reg Reg.dpllSticky := reg_of_regs (when_keeps (g := State.regs) rfl) _
  clear_value u
  split
  · rw [hu]
    exact h
  · have hs : (u.setRegs [(Reg.dpllGrade, (g : Int)), (Reg.synceQlOut, qlOf g)]).reg Reg.dpllSticky = s.reg Reg.dpllSticky :=
      ((Reports.setRegs (l := [Reg.dpllGrade, Reg.synceQlOut]) (by simp)).2 _ (by simp)).trans hu
    exact bit_stick_stays 8 (by rw [hs]; exact h0) (by rw [hs]; exact h)
theorem refBlind_degraded : RefBlind fun s => s.clk.degraded := ⟨fun _ => rfl, fun _ _ => rfl, fun _ _ _ => rfl, fun _ _ _ => rfl, fun _ _ => rfl⟩
end

/-! References (R276 to R280). -/

section
variable {s : State} {r : Fin 15}

theorem refSt_modRef_same (s : State) (r : Nat) (f : RefSt → RefSt) : (s.modRef r f).refSt r = f (s.refSt r) := NTable.get_mod_same _ _ _ _
/-- A candidate's registers. -/
theorem refFaults_bits (s : State) (r : Fin 15) (bits : Nat) :
    let u := (s.orReg (Reg.refFault r) bits).orReg (Reg.refFaultSticky r) bits
    u.reg (Reg.refFault r) = (s.nat (Reg.refFault r) ||| bits : Nat) ∧ u.reg (Reg.refFaultSticky r) = (s.nat (Reg.refFaultSticky r) ||| bits : Nat) ∧
    SameRegs s u [Reg.refFault r, Reg.refFaultSticky r] := by
  refine ⟨(reg_setReg_other _ _ _ _ (by simp)).trans (reg_setReg_same _ _ _), ?_, .trans (.setReg (by simp) _) (.setReg (by simp) _)⟩
  have h : (s.orReg (Reg.refFault r) bits).nat (Reg.refFaultSticky r) = s.nat (Reg.refFaultSticky r) :=
    congrArg Int.toNat (reg_setReg_other _ _ _ _ (by simp))
  exact (reg_setReg_same _ _ _).trans (by rw [h])
theorem refFault_ignored {bits : Fin 32} (h : r.val = 13 ∨ s.reg (Reg.refEnable r) = 0 ∨ bits.val = 0) : Runs (.refFault r bits) s fun t =>
    t.reg (Reg.refState r) = s.reg (Reg.refState r) ∧ t.reg (Reg.refFault r) = (s.nat (Reg.refFault r) ||| bits.val : Nat) ∧
    t.reg (Reg.refFaultSticky r) = (s.nat (Reg.refFaultSticky r) ||| bits.val : Nat) ∧ SameMem s t := by
  obtain ⟨h1, h2, h3⟩ := refFaults_bits s r bits
  have hexec : exec (.refFault r bits) s = .next (((s.orReg (Reg.refFault r) bits).orReg (Reg.refFaultSticky r) bits).refreshGrade) :=
    congrArg (fun u : State => Host.Outcome.next u.refreshGrade) (if_pos h)
  generalize (s.orReg (Reg.refFault r) bits).orReg (Reg.refFaultSticky r) bits = u at hexec h1 h2 h3
  have hg := refreshGrade_regs u
  exact runs_of_exec rfl hexec fun hm => ⟨(hg _ (by simp)).trans (h3 _ (by simp)), (hg _ (by simp)).trans h1, (hg _ (by simp)).trans h2, hm⟩
theorem refFault_fails {bits : Fin 32} (h13 : r.val ≠ 13) (hen : s.reg (Reg.refEnable r) ≠ 0) (hb : bits.val ≠ 0) : Runs (.refFault r bits) s fun t =>
    t.reg (Reg.refState r) = 1 ∧ t.reg (Reg.refFault r) = (s.nat (Reg.refFault r) ||| bits.val : Nat) ∧
    t.reg (Reg.refFaultSticky r) = (s.nat (Reg.refFaultSticky r) ||| bits.val : Nat) ∧ SameMem s t := by
  have hexec : exec (.refFault r bits) s = .next ((s.refFaults r bits).refreshGrade) := rfl
  obtain ⟨h1, h2, h3⟩ := refFaults_bits s r bits
  have hall : (s.refFaults r bits).reg (Reg.refState r) = 1 ∧ (s.refFaults r bits).reg (Reg.refFault r) = (s.nat (Reg.refFault r) ||| bits.val : Nat) ∧
      (s.refFaults r bits).reg (Reg.refFaultSticky r) = (s.nat (Reg.refFaultSticky r) ||| bits.val : Nat) := by
    unfold State.refFaults
    extract_lets s1 sel fresh s2 s3 s4
    rw [if_neg (show ¬(r.val = 13 ∨ s.reg (Reg.refEnable r) = 0 ∨ bits.val = 0) by simp only [h13, hen, hb, or_self, not_false_eq_true])]
    have hs2 : SameRegs s1 s2 [Reg.refState r] := .trans (SameRegs.setReg (List.mem_singleton_self _) 1) (sameRegs_of_regs (modRef_regs _ _ _) _)
    have hst : s2.reg (Reg.refState r) = 1 := (reg_of_regs (modRef_regs _ _ _) _).trans (reg_setReg_same _ _ _)
    have hs3 : SameRegs s2 s3 [Reg.dpllSticky, Reg.notifyDropped] := (Only.when _ (stick_frame s2 4)).sameRegs
    have hs4 : SameRegs s3 s4 [Reg.dpllSticky, Reg.notifyDropped] := (Only.when _ (stick_frame s3 5)).sameRegs
    have hs5 (b : Bool) : SameRegs s4 (s4.when b State.fixHoldover) [Reg.dpllHoFreq, Reg.dpllHoValid] := by
      cases b
      · exact .refl _ _
      · exact (Reports.setRegs (l := [Reg.dpllHoFreq, Reg.dpllHoValid]) (by simp)).2
    have hend (q : Reg) (hq : q ∉ [Reg.dpllSticky, Reg.notifyDropped]) (hq' : q ∉ [Reg.dpllHoFreq, Reg.dpllHoValid]) (b : Bool) :
        (s4.when b State.fixHoldover).reg q = s2.reg q := ((hs5 b) q hq').trans ((hs4 q hq).trans (hs3 q hq))
    refine ⟨(hend _ (by simp) (by simp) _).trans hst, ?_, ?_⟩
    · exact (hend _ (by simp) (by simp) _).trans ((hs2 _ (by simp)).trans h1)
    · exact (hend _ (by simp) (by simp) _).trans ((hs2 _ (by simp)).trans h2)
  obtain ⟨ha, hb, hc⟩ := hall
  generalize s.refFaults r bits = u at hexec ha hb hc
  have hg := refreshGrade_regs u
  exact runs_of_exec rfl hexec fun hm => ⟨(hg _ (by simp)).trans ha, (hg _ (by simp)).trans hb, (hg _ (by simp)).trans hc, hm⟩

/-- An input with a grade is enabled and is none of the internal candidates. -/
theorem refGradeNow_ne (h : s.refGradeNow r ≠ 15) : r.val ≠ 13 ∧ s.reg (Reg.refEnable r) ≠ 0 := by
  refine not_or.mp fun h' => h ?_
  exact if_pos h'
theorem exec_refFaultEnd_graded (h : s.refGradeNow r ≠ 15) : exec (.refFaultEnd r) s =
    .next (if s.reg (Reg.refState r) ≠ 1 then s.setReg (Reg.refFault r) 0 else (s.setReg (Reg.refFault r) 0).refQualify r) := by
  obtain ⟨h13, hen⟩ := refGradeNow_ne h
  have hbits : (if s.reg (Reg.refEnable r) = 1 ∧ s.refGradeNow r = 15 then 15 else 31) = 31 := if_neg fun h' => h h'.2
  refine (congrArg (fun b => Host.Outcome.next (s.refEnds r b)) hbits).trans (congrArg _ ?_)
  have hleft : s.nat (Reg.refFault r) &&& (31 - 31 % 32) = 0 := Nat.and_zero _
  unfold State.refEnds
  rw [hleft]
  exact if_congr (by simp only [h13, hen, ne_eq, not_true_eq_false, false_or]) rfl rfl
theorem refFaultEnd_fails (h : s.refGradeNow r ≠ 15) (hst : s.reg (Reg.refState r) = 1) : Runs (.refFaultEnd r) s fun t =>
    t.reg (Reg.refFault r) = 0 ∧ t.reg (Reg.refState r) = (if r.val = 14 then 3 else 2) ∧
    (r.val ≠ 14 → (t.refSt r).since = s.tick) ∧ SameRegs s t [Reg.refFault r, Reg.refState r] ∧ SameMem s t := by
  have hexec := exec_refFaultEnd_graded h
  rw [if_neg (not_not_intro hst)] at hexec
  unfold State.refQualify at hexec
  refine runs_of_exec rfl hexec fun hm => ?_
  have hf : (s.setReg (Reg.refFault r) 0).reg (Reg.refFault r) = 0 := reg_setReg_same _ _ _
  have hs : SameRegs s (s.setReg (Reg.refFault r) 0) [Reg.refFault r, Reg.refState r] := .setReg (by simp) _
  have htick : (s.setReg (Reg.refFault r) 0).tick = s.tick := rfl
  generalize s.setReg (Reg.refFault r) 0 = u at hm hf hs htick ⊢
  by_cases h14 : r.val = 14
  · rw [if_pos h14]
    rw [if_pos h14] at hm
    exact ⟨(reg_setReg_other _ _ _ _ (by simp)).trans hf, (reg_setReg_same _ _ _).trans (if_pos h14).symm, fun h => absurd h14 h,
      hs.trans (.setReg (by simp) _), hm⟩
  · rw [if_neg h14]
    rw [if_neg h14] at hm
    refine ⟨(reg_of_regs (modRef_regs _ _ _) _).trans ((reg_setReg_other _ _ _ _ (by simp)).trans hf), ?_, fun _ => ?_, ?_, hm⟩
    · exact (reg_of_regs (modRef_regs _ _ _) _).trans ((reg_setReg_same _ _ _).trans (if_neg h14).symm)
    · exact (congrArg RefSt.since (refSt_modRef_same _ _ _)).trans htick
    · exact .trans (hs.trans (.setReg (by simp) _)) (sameRegs_of_regs (modRef_regs _ _ _) _)
theorem refFaultEnd_stays (h : s.refGradeNow r ≠ 15) (hst : s.reg (Reg.refState r) ≠ 1) : Runs (.refFaultEnd r) s fun t =>
    t.reg (Reg.refFault r) = 0 ∧ SameRegs s t [Reg.refFault r] ∧ SameMem s t :=
  runs_of_exec rfl ((exec_refFaultEnd_graded h).trans (congrArg _ (if_pos hst))) fun hm => ⟨reg_setReg_same _ _ _, .setReg (by simp) _, hm⟩
/-- A grade of 15 keeps its fault bit (R278). -/
theorem refFaultEnd_ungraded (hen : s.reg (Reg.refEnable r) = 1) (h : s.refGradeNow r = 15) (hb : bit (s.nat (Reg.refFault r) : Int) 4 = true) :
    Runs (.refFaultEnd r) s fun t => t.reg (Reg.refFault r) = (s.nat (Reg.refFault r) &&& 16 : Nat) ∧ SameRegs s t [Reg.refFault r] ∧ SameMem s t := by
  have hleft : s.nat (Reg.refFault r) &&& 16 ≠ 0 := by
    intro h0
    have ht := congrArg (Nat.testBit · 4) h0
    rw [bit_nat] at hb
    simp only [Nat.testBit_and, hb, Nat.zero_testBit] at ht
    exact absurd ht (by decide)
  have hexec : exec (.refFaultEnd r) s = .next (s.setReg (Reg.refFault r) (s.nat (Reg.refFault r) &&& 16 : Nat)) := by
    refine (congrArg (fun b => Host.Outcome.next (s.refEnds r b)) (if_pos ⟨hen, h⟩)).trans (congrArg _ ?_)
    exact if_pos (.inr (.inr (.inl hleft)))
  exact runs_of_exec rfl hexec fun hm => ⟨reg_setReg_same _ _ _, .setReg (by simp) _, hm⟩
theorem exec_refQualified (r : Fin 15) (s : State) : exec (.refQualified r) s =
    if s.reg (Reg.refState r) = 2 ∧ (s.refSt r).since + (if (s.refSt r).fresh then s.nat (Reg.refQualTime r) else s.nat Reg.dpllWtr) * s.tps ≤ s.tick
    then .next (s.setReg (Reg.refState r) 3) else .next s := rfl
theorem dpllStickyClear_runs (r : Fin 15) (m : Fin 4294967296) : Runs (.dpllStickyClear m) s fun t =>
    t.reg Reg.dpllSticky = ((s.nat Reg.dpllSticky &&& (4294967295 - m.val) : Nat) : Int) ∧ t.answer.status = 0 ∧
    (bit (m.val : Int) 4 = false → SameRegs s t [Reg.dpllSticky]) ∧
    (bit (m.val : Int) 4 = true → t.reg (Reg.refFaultSticky r) = 0) ∧ t.units = s.units := by
  have hexec : exec (.dpllStickyClear m) s = .next (((s.setReg Reg.dpllSticky ((s.nat Reg.dpllSticky &&& (4294967295 - m.val) : Nat) : Int)).when
    (bit (m.val : Int) 4) (overN 15 fun s r => s.setReg (Reg.refFaultSticky r) 0)).reply 0) := rfl
  have h0 : (s.setReg Reg.dpllSticky ((s.nat Reg.dpllSticky &&& (4294967295 - m.val) : Nat) : Int)).reg Reg.dpllSticky =
    ((s.nat Reg.dpllSticky &&& (4294967295 - m.val) : Nat) : Int) := reg_setReg_same _ _ _
  have hs : SameRegs s (s.setReg Reg.dpllSticky ((s.nat Reg.dpllSticky &&& (4294967295 - m.val) : Nat) : Int)) [Reg.dpllSticky] := .setReg (by simp) _
  have hu : (s.setReg Reg.dpllSticky ((s.nat Reg.dpllSticky &&& (4294967295 - m.val) : Nat) : Int)).units = s.units := rfl
  generalize s.setReg Reg.dpllSticky ((s.nat Reg.dpllSticky &&& (4294967295 - m.val) : Nat) : Int) = u at hexec h0 hs hu
  cases hb : bit (m.val : Int) 4 with
  | false =>
    rw [hb] at hexec
    exact runs_of_exec rfl hexec fun _ => ⟨h0, rfl, fun _ => hs, fun h => absurd h (by decide), hu⟩
  | true =>
    rw [hb] at hexec
    have hc : (overN 15 (fun s r => s.setReg (Reg.refFaultSticky r) 0) u).reg Reg.dpllSticky = u.reg Reg.dpllSticky :=
      overN_keeps (g := fun s => s.reg Reg.dpllSticky) 15 u fun _ _ _ => reg_setReg_other _ _ _ _ (by simp)
    have hz : (overN 15 (fun s r => s.setReg (Reg.refFaultSticky r) 0) u).reg (Reg.refFaultSticky r) = 0 :=
      overN_once (g := fun s => s.reg (Reg.refFaultSticky r)) r.isLt
        (fun _ _ hx => reg_setReg_other _ _ _ _ fun he => hx (congrArg Reg.unit he).symm) fun _ _ => reg_setReg_same _ _ _
    have hv : (overN 15 (fun s r => s.setReg (Reg.refFaultSticky r) 0) u).units = u.units := overN_keeps (g := State.units) 15 u fun _ _ _ => rfl
    have hw : u.when true (overN 15 fun s r => s.setReg (Reg.refFaultSticky r) 0) = overN 15 (fun s r => s.setReg (Reg.refFaultSticky r) 0) u := rfl
    rw [hw] at hexec
    generalize overN 15 (fun s r => s.setReg (Reg.refFaultSticky r) 0) u = v at hexec hc hz hv
    exact runs_of_exec rfl hexec fun _ => ⟨hc.trans h0, rfl, fun h => absurd h (by decide), fun _ => hz, hv.trans hu⟩
theorem exec_dpllSteer (v : Int) (s : State) : exec (.dpllSteer v) s =
    if v < -500000000 ∨ v > 500000000 then .next (s.reply 0x13) else .next ((s.dueWrite Reg.dpllSteer v).reply 0) := rfl
theorem exec_sBase (hz : Nat) (s : State) : exec (.sBase hz) s =
    if hz ≠ 32000 ∧ hz ≠ 44100 ∧ hz ≠ 48000 then .next (s.reply 0x13) else if s.liveS then .next (s.reply 0x14) else .next ((s.dueWrite Reg.sBase hz).reply 0) := rfl
end

/-- Settles O44: what an input's candidate does at its fault and after it, and what the references' writes ask for. -/
theorem referenceCommands : Obligations.ReferenceCommands := by
  unfold Obligations.ReferenceCommands
  intro r s
  refine ⟨fun bits => ⟨refFault_fails, refFault_ignored⟩, fun h => ⟨refFaultEnd_fails h, refFaultEnd_stays h⟩, refFaultEnd_ungraded, ?_,
    dpllStickyClear_runs r, fun v h1 h2 => ?_, fun v h => ?_, fun hz h => ⟨fun hl => ?_, fun hl => ?_⟩, fun hz h1 h2 h3 => ?_⟩
  · rintro _ rfl
    refine ⟨fun h1 h2 => ?_, fun h => (exec_refQualified r s).trans (if_neg ?_)⟩
    · exact runs_of_exec rfl ((exec_refQualified r s).trans (if_pos ⟨h1, h2⟩)) fun _ => ⟨reg_setReg_same _ _ _, .setReg (by simp) _, rfl⟩
    · rintro ⟨h1, h2⟩
      exact h.elim (fun h => h h1) fun h => absurd h2 (Nat.not_le.mpr h)
  · exact runs_of_exec rfl ((exec_dpllSteer v s).trans (if_neg (by omega))) fun hm => ⟨rfl, rfl, .refl _ _, hm⟩
  · exact (exec_dpllSteer v s).trans (if_pos h)
  · refine runs_of_exec rfl (((exec_sBase hz s).trans (if_neg (by omega))).trans (if_neg ?_)) fun hm => ⟨rfl, .refl _ _, hm⟩
    rw [hl]
    exact Bool.false_ne_true
  · exact ((exec_sBase hz s).trans (if_neg (by omega))).trans (if_pos hl)
  · exact (exec_sBase hz s).trans (if_pos ⟨h1, h2, h3⟩)
/-! The DPLL's moments (R282 to R289). -/

section
variable {s : State}

theorem exec_dpllLadderAdvance (s : State) : exec .dpllLadderAdvance s =
    if s.reg Reg.dpllState = 1 ∧ !s.clk.slewing ∧ s.nat Reg.dpllBwNow < s.finalStep ∧ s.clk.inWin ≥ dwell (s.nat Reg.dpllBwNow) then
      .next ((s.setReg Reg.dpllBwNow (s.nat Reg.dpllBwNow + 1 : Nat)).modClk fun c => { c with inWin := 0 })
    else .next s := rfl
theorem exec_dpllLock (s : State) : exec .dpllLock s =
    if s.reg Reg.dpllState = 1 ∧ !s.clk.slewing ∧ s.nat Reg.dpllBwNow = s.finalStep ∧ s.clk.inWin ≥ 8000 then
      .next (((s.setRegs [(Reg.dpllState, 2), (Reg.dpllLockedSince, s.tick)]).stick 0).refreshGrade)
    else .next s := rfl
/-- The lock that is lost, as the clock sees it (R285). -/
def State.unlocked (s : State) : State :=
  ((s.setRegs [(Reg.dpllState, 1), (Reg.dpllBwNow, s.startStep)]).modClk fun c => { c with inWin := 0, outWin := 0 }).stick 1
theorem exec_dpllLockLost (s : State) : exec .dpllLockLost s = if s.reg Reg.dpllState = 2 ∧ s.clk.outWin ≥ 8 then
    .next (s.unlocked.when (s.reg Reg.pairState == 3 && s.reg Reg.pairRole == 1) fun s => s.toStandby 1 false) else .next s := rfl
theorem exec_slewComplete (s : State) : exec .slewComplete s =
    if s.clk.slewing ∧ !(s.nat Reg.dpllRef == 8 && s.reg Reg.timeAdjLeft != 0) ∧ (s.reg Reg.dpllPhaseErr).natAbs ≤ (s.lockWindow (s.nat Reg.dpllRef)).toNat then
      .next (s.modClk fun c => { c with slewing := false, inWin := 0 })
    else .next s := rfl
theorem exec_holdoverDegrade (s : State) : exec .holdoverDegrade s =
    if s.reg Reg.dpllState = 3 ∧ s.nat Reg.dpllHoSince + s.nat Reg.dpllHoDegrade * s.tps ≤ s.tick then
      .next ((s.modClk fun c => { c with degraded := true }).refreshGrade)
    else .next s := rfl

theorem dpllLock_runs (h : s.reg Reg.dpllState = 1) (hs : s.clk.slewing = false) (hk : s.nat Reg.dpllBwNow = s.finalStep) (hw : 8000 ≤ s.clk.inWin) :
    Runs .dpllLock s fun t => t.reg Reg.dpllState = 2 ∧ t.reg Reg.dpllLockedSince = s.tick ∧
      (0 ≤ s.reg Reg.dpllSticky → bit (t.reg Reg.dpllSticky) 0 = true) ∧
      SameRegs s t [Reg.dpllState, Reg.dpllLockedSince, Reg.dpllSticky, Reg.dpllGrade, Reg.synceQlOut, Reg.notifyDropped] ∧ SameMem s t := by
  have hexec := (exec_dpllLock s).trans (if_pos ⟨h, by rw [hs]; rfl, hk, hw⟩)
  have h1 : (s.setRegs [(Reg.dpllState, 2), (Reg.dpllLockedSince, s.tick)]).reg Reg.dpllState = 2 :=
    (reg_setReg_other _ _ _ _ (by simp)).trans (reg_setReg_same _ _ _)
  have h2 : (s.setRegs [(Reg.dpllState, 2), (Reg.dpllLockedSince, (s.tick : Int))]).reg Reg.dpllLockedSince = s.tick := reg_setReg_same _ _ _
  have h3 : SameRegs s (s.setRegs [(Reg.dpllState, 2), (Reg.dpllLockedSince, s.tick)]) [Reg.dpllState, Reg.dpllLockedSince] :=
    (Reports.setRegs (by simp)).2
  generalize s.setRegs [(Reg.dpllState, 2), (Reg.dpllLockedSince, (s.tick : Int))] = u at hexec h1 h2 h3
  have hst := (stick_frame u 0).sameRegs
  have hgr := refreshGrade_regs (u.stick 0)
  refine runs_of_exec rfl hexec fun hm => ⟨?_, ?_, fun h0 => ?_, ?_, hm⟩
  · exact (hgr _ (by simp)).trans ((hst _ (by simp)).trans h1)
  · exact (hgr _ (by simp)).trans ((hst _ (by simp)).trans h2)
  · refine refreshGrade_sticky ?_ (bit_stick u 0)
    rw [stick_sticky]
    split
    · rw [h3 _ (by simp)]
      exact h0
    · exact Int.natCast_nonneg _
  · exact ((h3.mono (by simp)).trans (hst.mono (by simp))).trans (hgr.mono (by simp))

/-- What the lost lock leaves. -/
theorem unlocked_runs (s : State) : s.unlocked.reg Reg.dpllState = 1 ∧ s.unlocked.reg Reg.dpllBwNow = s.startStep ∧
    bit (s.unlocked.reg Reg.dpllSticky) 1 = true ∧ s.unlocked.clk.inWin = 0 ∧ s.unlocked.clk.outWin = 0 ∧
    SameRegs s s.unlocked [Reg.dpllState, Reg.dpllBwNow, Reg.dpllSticky, Reg.notifyDropped] := by
  have h1 : (s.setRegs [(Reg.dpllState, 1), (Reg.dpllBwNow, (s.startStep : Int))]).reg Reg.dpllState = 1 :=
    (reg_setReg_other _ _ _ _ (by simp)).trans (reg_setReg_same _ _ _)
  have h2 : (s.setRegs [(Reg.dpllState, 1), (Reg.dpllBwNow, (s.startStep : Int))]).reg Reg.dpllBwNow = s.startStep := reg_setReg_same _ _ _
  have h3 : SameRegs s (s.setRegs [(Reg.dpllState, 1), (Reg.dpllBwNow, (s.startStep : Int))]) [Reg.dpllState, Reg.dpllBwNow] :=
    (Reports.setRegs (by simp)).2
  unfold State.unlocked
  generalize s.setRegs [(Reg.dpllState, 1), (Reg.dpllBwNow, (s.startStep : Int))] = u at h1 h2 h3 ⊢
  have hv : (u.modClk fun c => { c with inWin := 0, outWin := 0 }).regs = u.regs := rfl
  have hi : (u.modClk fun c => { c with inWin := 0, outWin := 0 }).clk.inWin = 0 := rfl
  have ho : (u.modClk fun c => { c with inWin := 0, outWin := 0 }).clk.outWin = 0 := rfl
  generalize (u.modClk fun c => { c with inWin := 0, outWin := 0 }) = v at hv hi ho ⊢
  have hst := stick_frame v 1
  have hclk : (v.stick 1).clk = v.clk := congrArg Prod.fst hst.view
  refine ⟨?_, ?_, bit_stick v 1, (congrArg ClkSt.inWin hclk).trans hi, (congrArg ClkSt.outWin hclk).trans ho, ?_⟩
  · exact (hst.regs _ (by simp)).trans ((reg_of_regs hv _).trans h1)
  · exact (hst.regs _ (by simp)).trans ((reg_of_regs hv _).trans h2)
  · exact ((h3.mono (by simp)).trans (sameRegs_of_regs hv _)).trans (hst.sameRegs.mono (by simp))

/-- A chip that stands by: its pair registers and no clock (R232). -/
theorem pairTo_frame (s : State) (st : Nat) : Only State.clocked (· ∈ [Reg.pairState, Reg.notifyDropped]) s (s.pairTo st) := by
  unfold State.pairTo
  refine .of_ite (fun _ => .refl _) fun _ => .trans (Only.setReg (r := Reg.pairState) (List.mem_cons_self ..) st rfl) ?_
  have h : Reports (s.setReg Reg.pairState st) _ [Reg.notifyDropped] := .notifyGardener (by simp) 0x60 Reg.pairState
  exact (Only.of_reports h (fun _ => rfl) (by simp)).trans (.of_regs rfl rfl)
theorem pairTo_pair (s : State) (st : Nat) : (s.pairTo st).pair = s.pair := congrArg Prod.snd (pairTo_frame s st).view
theorem pairTo_state {st : Nat} (h0 : st ≠ 0) : (s.pairTo st).reg Reg.pairState = st := by
  by_cases h : s.nat Reg.pairState = st
  · have he : s.pairTo st = s := if_pos h
    rw [he]
    unfold State.nat at h
    omega
  · have he : s.pairTo st = ((s.setReg Reg.pairState st).notifyGardener 0x60 Reg.pairState).msix 7 := if_neg h
    have hv : (s.setReg Reg.pairState st).reg Reg.pairState = st := reg_setReg_same _ _ _
    rw [he]
    generalize s.setReg Reg.pairState st = u at hv ⊢
    have hn : Reports u (u.notifyGardener 0x60 Reg.pairState) [Reg.notifyDropped] := .notifyGardener (by simp) _ _
    exact (hn.2 _ (by simp)).trans hv
theorem toStandby_frame (s : State) (role : Int) (graft : Bool) :
    Only State.clk (· ∈ [Reg.pairRole, Reg.pairAuth, Reg.pairState, Reg.notifyDropped]) s (s.toStandby role graft) := by
  have h1 : Only State.clk (· ∈ [Reg.pairRole, Reg.pairAuth, Reg.pairState, Reg.notifyDropped]) s
    (s.setRegs [(Reg.pairRole, role), (Reg.pairAuth, 0)]) := .setRegs (by simp) fun _ _ _ => rfl
  unfold State.toStandby
  extract_lets auto
  generalize s.setRegs [(Reg.pairRole, role), (Reg.pairAuth, 0)] = u at h1 ⊢
  have h2 : Only State.clk (· ∈ [Reg.pairRole, Reg.pairAuth, Reg.pairState, Reg.notifyDropped]) u (u.modPair fun x =>
    { x with graftAt := if auto then some (s.tick + 1) else none, focus := none, handAt := none }) := .of_regs rfl rfl
  refine (h1.trans h2).trans ?_
  exact Only.mono ⟨congrArg Prod.fst (pairTo_frame _ 4).view, (pairTo_frame _ 4).regs⟩ (by simp)
theorem toStandby_regs (s : State) (role : Int) (graft : Bool) :
    (s.toStandby role graft).reg Reg.pairState = 4 ∧ (s.toStandby role graft).reg Reg.pairRole = role ∧ (s.toStandby role graft).reg Reg.pairAuth = 0 := by
  have h1 : (s.setRegs [(Reg.pairRole, role), (Reg.pairAuth, 0)]).reg Reg.pairRole = role :=
    (reg_setReg_other _ _ _ _ (by simp)).trans (reg_setReg_same _ _ _)
  have h2 : (s.setRegs [(Reg.pairRole, role), (Reg.pairAuth, 0)]).reg Reg.pairAuth = 0 := reg_setReg_same _ _ _
  unfold State.toStandby
  extract_lets auto
  generalize s.setRegs [(Reg.pairRole, role), (Reg.pairAuth, 0)] = u at h1 h2 ⊢
  have hv := modPair_regs u fun x => { x with graftAt := if auto then some (s.tick + 1) else none, focus := none, handAt := none }
  generalize (u.modPair fun x => { x with graftAt := if auto then some (s.tick + 1) else none, focus := none, handAt := none }) = v at hv ⊢
  have hf := (pairTo_frame v 4).regs
  exact ⟨pairTo_state (by decide), (hf _ (by simp)).trans ((reg_of_regs hv _).trans h1), (hf _ (by simp)).trans ((reg_of_regs hv _).trans h2)⟩

theorem dpllLockLost_runs (h : s.reg Reg.dpllState = 2) (hw : 8 ≤ s.clk.outWin) :
    Runs .dpllLockLost s (fun t => t.reg Reg.dpllState = 1 ∧ t.reg Reg.dpllBwNow = s.startStep ∧
      bit (t.reg Reg.dpllSticky) 1 = true ∧ t.clk.inWin = 0 ∧ t.clk.outWin = 0 ∧ SameMem s t) ∧
    (s.reg Reg.pairState ≠ 3 ∨ s.reg Reg.pairRole ≠ 1 → Runs .dpllLockLost s fun t =>
      SameRegs s t [Reg.dpllState, Reg.dpllBwNow, Reg.dpllSticky, Reg.notifyDropped]) ∧
    (s.reg Reg.pairState = 3 → s.reg Reg.pairRole = 1 → Runs .dpllLockLost s fun t =>
      t.reg Reg.pairState = 4 ∧ t.reg Reg.pairRole = 1 ∧ t.reg Reg.pairAuth = 0) := by
  have hexec := (exec_dpllLockLost s).trans (if_pos ⟨h, hw⟩)
  obtain ⟨h1, h2, h3, h4, h5, h6⟩ := unlocked_runs s
  generalize s.unlocked = u at hexec h1 h2 h3 h4 h5 h6
  refine ⟨runs_of_exec rfl hexec fun hm => ?_, fun hp => runs_of_exec rfl hexec fun _ => ?_, fun hst hr => runs_of_exec rfl hexec fun _ => ?_⟩
  · have hf := Only.when (f := fun s => s.toStandby 1 false) (s.reg Reg.pairState == 3 && s.reg Reg.pairRole == 1) (toStandby_frame u 1 false)
    have hr := hf.regs
    refine ⟨(hr _ (by simp)).trans h1, (hr _ (by simp)).trans h2, (congrArg (bit · 1) (hr _ (by simp))).trans h3,
      (congrArg ClkSt.inWin hf.view).trans h4, (congrArg ClkSt.outWin hf.view).trans h5, hm⟩
  · have hb : (s.reg Reg.pairState == 3 && s.reg Reg.pairRole == 1) = false := by
      rcases hp with hp | hp <;> simp [hp]
    rw [hb]
    exact h6
  · have hb : (s.reg Reg.pairState == 3 && s.reg Reg.pairRole == 1) = true := by simp [hst, hr]
    rw [hb]
    exact toStandby_regs u 1 false
/-- A degraded holdover's grade (R288). -/
theorem ownGrade_degraded (hd : s.clk.degraded = true) (h : s.reg Reg.dpllState = 3) : s.ownGrade = 9 := by
  unfold State.ownGrade
  have hn : s.nat Reg.dpllState = 3 := congrArg Int.toNat h
  rw [hn, hd]
  exact ite_self _
theorem holdoverDegrade_runs (h : s.reg Reg.dpllState = 3) (hw : s.nat Reg.dpllHoSince + s.nat Reg.dpllHoDegrade * s.tps ≤ s.tick) :
    Runs .holdoverDegrade s fun t => t.clk.degraded = true ∧ t.reg Reg.dpllGrade = 9 ∧
      SameRegs s t [Reg.dpllGrade, Reg.synceQlOut, Reg.dpllSticky, Reg.notifyDropped] ∧ SameMem s t := by
  have hexec := (exec_holdoverDegrade s).trans (if_pos ⟨h, hw⟩)
  have hv : (s.modClk fun c => { c with degraded := true }).regs = s.regs := rfl
  have hd : (s.modClk fun c => { c with degraded := true }).clk.degraded = true := rfl
  generalize (s.modClk fun c => { c with degraded := true }) = u at hexec hv hd
  have hg : u.ownGrade = 9 := ownGrade_degraded hd ((reg_of_regs hv _).trans h)
  refine runs_of_exec rfl hexec fun hm => ⟨?_, ?_, ?_, hm⟩
  · exact (RefChange.refreshGrade refBlind_degraded u 0).view.trans hd
  · exact (refreshGrade_grade (by rw [hg]; decide)).trans (by rw [hg]; rfl)
  · exact (sameRegs_of_regs hv _).trans (refreshGrade_regs u)
end

/-- Settles O45: each of the DPLL's transitions where it is due, and none where it is not. -/
theorem dpllCommands : Obligations.DpllCommands := by
  unfold Obligations.DpllCommands
  intro s
  refine ⟨fun h1 h2 h3 h4 => ?_, fun h => (exec_dpllLadderAdvance s).trans (if_neg ?_), dpllLock_runs, fun h => (exec_dpllLock s).trans (if_neg ?_),
    dpllLockLost_runs, fun h => (exec_dpllLockLost s).trans (if_neg ?_), fun h1 h2 h3 => ?_, fun h => (exec_slewComplete s).trans (if_neg ?_),
    holdoverDegrade_runs, fun h => (exec_holdoverDegrade s).trans (if_neg ?_)⟩
  · refine runs_of_exec rfl ((exec_dpllLadderAdvance s).trans (if_pos ⟨h1, by rw [h2]; rfl, h3, h4⟩)) fun hm => ⟨?_, rfl, ?_, hm⟩
    · exact (reg_of_regs (modClk_regs _ _) _).trans (reg_setReg_same s _ _)
    · exact (SameRegs.setReg (List.mem_singleton_self _) _).trans (sameRegs_of_regs (modClk_regs _ _) _)
  · rintro ⟨h1, h2, h3, h4⟩
    rcases h with h | h | h | h
    · exact h h1
    · exact absurd h2 (by rw [h]; decide)
    · exact absurd h3 (Nat.not_lt.mpr h)
    · exact absurd h4 (Nat.not_le.mpr h)
  · rintro ⟨h1, h2, h3, h4⟩
    rcases h with h | h | h | h
    · exact h h1
    · exact absurd h2 (by rw [h]; decide)
    · exact h h3
    · exact absurd h4 (Nat.not_le.mpr h)
  · rintro ⟨h1, h2⟩
    exact h.elim (fun h => h h1) fun h => absurd h2 (Nat.not_le.mpr h)
  · have hx : (!(s.nat Reg.dpllRef == 8 && s.reg Reg.timeAdjLeft != 0)) = true := by
      rcases h2 with h2 | h2 <;> simp [h2]
    exact runs_of_exec rfl ((exec_slewComplete s).trans (if_pos ⟨h1, hx, h3⟩)) fun hm => ⟨rfl, rfl, .refl _ _, hm⟩
  · rintro ⟨h1, h2, h3⟩
    rcases h with h | ⟨ha, hb⟩ | h
    · exact absurd h1 (by rw [h]; decide)
    · simp [ha, hb] at h2
    · exact absurd h3 (Nat.not_le.mpr h)
  · rintro ⟨h1, h2⟩
    exact h.elim (fun h => h h1) fun h => absurd h2 (Nat.not_le.mpr h)
end Sys2Proof.Machine
end

section
/-!
PROOFS. The fault pin (19, R515 to R519).
-/
namespace Sys2Proof.Machine

/-! FAULT_CODE: the codes present in bits 0 to 7, those acknowledged in bits 8 to 15, the code signalled in bits 24 up. -/

section
variable {a b d c : Nat}

theorem faultWord_present (hd : d < 256) (hc : c < 8) : (a * 65536 + b * 256 + d).testBit c = d.testBit c := by
  have h : a * 65536 + b * 256 + d = 2 ^ 8 * (a * 256 + b) + d := by omega
  rw [h, Nat.testBit_two_pow_mul_add _ hd, if_pos hc]
theorem faultWord_acked (hb : b < 256) (hd : d < 256) (hc : c < 8) : (a * 65536 + b * 256 + d).testBit (8 + c) = b.testBit c := by
  have h : a * 65536 + b * 256 + d = 2 ^ 8 * (2 ^ 8 * a + b) + d := by omega
  rw [h, Nat.testBit_two_pow_mul_add _ hd, if_neg (by omega), Nat.testBit_two_pow_mul_add _ hb, if_pos (by omega), Nat.add_sub_cancel_left]
theorem faultWord_signal (hb : b < 256) (hd : d < 256) : (a * 65536 + b * 256 + d) / 16777216 = a / 256 := by omega
theorem testBit_low (w : Nat) (hc : c < 8) : (w % 256).testBit c = w.testBit c := by
  rw [show 256 = 2 ^ 8 from rfl, Nat.testBit_mod_two_pow, decide_eq_true hc, Bool.true_and]
theorem testBit_middle (w : Nat) (hc : c < 8) : (w / 256 % 256).testBit c = w.testBit (8 + c) := by
  rw [testBit_low _ hc, show 256 = 2 ^ 8 from rfl, Nat.testBit_div_two_pow, Nat.add_comm]
/-- The low 24 bits of a word whose top is set anew. -/
theorem testBit_signal (k w : Nat) (hc : c < 24) : (k * 16777216 + w % 16777216).testBit c = w.testBit c := by
  rw [Nat.mul_comm, show 16777216 = 2 ^ 24 from rfl, Nat.testBit_two_pow_mul_add _ (Nat.mod_lt _ (by decide)), if_pos hc, Nat.testBit_mod_two_pow,
    decide_eq_true hc, Bool.true_and]
theorem acked_lt (m w : Nat) : w / 256 % 256 ||| (m &&& w % 256) < 256 :=
  Nat.or_lt_two_pow (n := 8) (Nat.mod_lt _ (by decide)) (Nat.and_lt_two_pow (n := 8) m (Nat.mod_lt _ (by decide)))
end

section
variable {s : State}

theorem faultsNow_lt (s : State) : s.faultsNow < 256 := by
  have h (b : Bool) (n : Nat) : (if b = true then 2 ^ n else 0) ≤ 2 ^ n := by
    split
    · exact le_rfl
    · exact Nat.zero_le _
  unfold State.faultsNow
  extract_lets f r
  have h0 := h r 0
  have h1 := h s.rst.noFw 1
  have h2 := h (s.rst.held.contains 4) 2
  have h3 := h (s.rst.held.contains 6) 3
  have h4 := h s.rst.dramFail 4
  have h5 := h (s.reg Reg.pairSuspect != 0) 5
  have h6 := h s.rst.optDefault 6
  have h7 := h (s.log.retired0 != s.log.retired1) 7
  refine Nat.lt_succ_of_le (le_trans (Nat.add_le_add (Nat.add_le_add (Nat.add_le_add (Nat.add_le_add (Nat.add_le_add
    (Nat.add_le_add (Nat.add_le_add h0 h1) h2) h3) h4) h5) h6) h7) (by decide))

theorem exec_faultClear (m : Fin 65536) (s : State) : exec (.faultClear m) s = if m.val ≥ 256 then .next (s.reply 0x13)
    else .next ((s.setReg Reg.faultCode (s.nat Reg.faultCode / 65536 * 65536 + ((s.nat Reg.faultCode / 256 % 256) |||
      (m.val &&& s.nat Reg.faultCode % 256)) * 256 + s.nat Reg.faultCode % 256 : Nat)).reply 0) := rfl
theorem faultClear_runs (m : Fin 65536) (hm : m.val < 256) : Runs (.faultClear m) s fun t =>
    (∀ c < 8, bit (t.reg Reg.faultCode) c = bit (s.nat Reg.faultCode : Int) c ∧
      bit (t.reg Reg.faultCode) (8 + c) = (bit (s.nat Reg.faultCode : Int) (8 + c) || (bit (m.val : Int) c && bit (s.nat Reg.faultCode : Int) c))) ∧
    t.nat Reg.faultCode / 16777216 = s.nat Reg.faultCode / 16777216 ∧ t.answer.status = 0 ∧ SameRegs s t [Reg.faultCode] ∧ t.units = s.units := by
  refine runs_of_exec rfl ((exec_faultClear m s).trans (if_neg (Nat.not_le.mpr hm))) fun _ => ?_
  have hlow : s.nat Reg.faultCode % 256 < 256 := Nat.mod_lt _ (by decide)
  have hv := reg_setReg_same s Reg.faultCode (s.nat Reg.faultCode / 65536 * 65536 + ((s.nat Reg.faultCode / 256 % 256) |||
      (m.val &&& s.nat Reg.faultCode % 256)) * 256 + s.nat Reg.faultCode % 256 : Nat)
  refine ⟨fun c hc => ⟨?_, ?_⟩, ?_, rfl, .setReg (by simp) _, rfl⟩
  · refine (congrArg (bit · c) hv).trans ?_
    rw [bit_nat, bit_nat, faultWord_present hlow hc, testBit_low _ hc]
  · refine (congrArg (bit · (8 + c)) hv).trans ?_
    rw [bit_nat, bit_nat, bit_nat, bit_nat, faultWord_acked (acked_lt _ _) hlow hc, Nat.testBit_or, Nat.testBit_and, testBit_middle _ hc, testBit_low _ hc]
  · refine (congrArg (Int.toNat · / 16777216) hv).trans ?_
    rw [Int.toNat_natCast, faultWord_signal (acked_lt _ _) hlow]
    omega

/-- The codes present are read anew, and what is no longer present is no longer acknowledged. -/
theorem refreshFaults_code (s : State) : ∃ b < 256, s.refreshFaults.nat Reg.faultCode = s.nat Reg.faultCode / 65536 * 65536 + b * 256 + s.faultsNow := by
  refine ⟨s.nat Reg.faultCode / 256 % 256 &&& s.faultsNow, Nat.and_lt_two_pow (n := 8) _ (faultsNow_lt s), ?_⟩
  unfold State.refreshFaults
  extract_lets w now fresh
  refine (congrArg Int.toNat ((reg_bumpBy_other _ _ _ _ (by simp)).trans (reg_setReg_same _ _ _))).trans ?_
  exact Int.toNat_natCast _

/-- The lowest code that is present and not acknowledged, counted from 1 (R517). -/
def lowestFault (w : Nat) : Nat := match (List.range 8).find? fun c => bit (w : Int) c && !bit (w : Int) (8 + c) with | some k => k + 1 | none => 0
theorem lowestFault_eq (w k : Nat) (hk : k < 8) : lowestFault w = k + 1 ↔
    bit (w : Int) k = true ∧ bit (w : Int) (8 + k) = false ∧ ∀ j < k, bit (w : Int) j = false ∨ bit (w : Int) (8 + j) = true := by
  have hfind : lowestFault w = k + 1 ↔ (List.range 8).find? (fun c => bit (w : Int) c && !bit (w : Int) (8 + c)) = some k := by
    unfold lowestFault
    cases (List.range 8).find? fun c => bit (w : Int) c && !bit (w : Int) (8 + c) <;> simp
  rw [hfind, List.find?_range_eq_some]
  simp [hk, and_assoc]
theorem exec_faultFrameStart (now : Nat) (s : State) : exec (.faultFrameStart now) s = if now < s.log.frameEnd then .next s else
    let w := s.refreshFaults.nat Reg.faultCode
    let s1 := s.refreshFaults.setReg Reg.faultCode (lowestFault w * 16777216 + w % 16777216 : Nat)
    .next ({ s1 with log := { s1.log with frameEnd := if lowestFault w = 0 then now else now + ((2 * lowestFault w - 1) * 250 + 2000) * 1000 } }.when
      (lowestFault w != w / 16777216) fun s => s.logNotice Reg.faultCode) := rfl
/-- A word that signals its lowest code. -/
theorem signalled {t : State} {w : Nat} (h : t.reg Reg.faultCode = (lowestFault w * 16777216 + w % 16777216 : Nat)) :
    (∀ c < 24, bit (t.reg Reg.faultCode) c = bit (w : Int) c) ∧ ∀ k < 8, t.nat Reg.faultCode / 16777216 = k + 1 ↔
      bit (t.reg Reg.faultCode) k = true ∧ bit (t.reg Reg.faultCode) (8 + k) = false ∧
        ∀ j < k, bit (t.reg Reg.faultCode) j = false ∨ bit (t.reg Reg.faultCode) (8 + j) = true := by
  have hbit : ∀ c < 24, bit (t.reg Reg.faultCode) c = bit (w : Int) c := fun c hc => by
    rw [h, bit_nat, bit_nat, testBit_signal _ _ hc]
  refine ⟨hbit, fun k hk => ?_⟩
  have htop : t.nat Reg.faultCode / 16777216 = lowestFault w := by
    rw [State.nat, h, Int.toNat_natCast]
    omega
  rw [htop, lowestFault_eq w k hk, hbit k (by omega), hbit (8 + k) (by omega)]
  refine and_congr_right fun _ => and_congr_right fun _ => forall_congr' fun j => forall_congr' fun hj => ?_
  rw [hbit j (by omega), hbit (8 + j) (by omega)]
theorem faultFrameStart_runs (now : Nat) (h : s.log.frameEnd ≤ now) : Runs (.faultFrameStart now) s fun t =>
    (∀ c < 8, bit (t.reg Reg.faultCode) c = bit (s.faultsNow : Int) c) ∧
    (∀ k < 8, t.nat Reg.faultCode / 16777216 = k + 1 ↔
      bit (t.reg Reg.faultCode) k = true ∧ bit (t.reg Reg.faultCode) (8 + k) = false ∧
        ∀ j < k, bit (t.reg Reg.faultCode) j = false ∨ bit (t.reg Reg.faultCode) (8 + j) = true) ∧
    SameRegs s t [Reg.faultCode, Reg.faultCount, Reg.notifyDropped] ∧ SameMem s t := by
  have hexec := (exec_faultFrameStart now s).trans (if_neg (Nat.not_lt.mpr h))
  obtain ⟨b, hb, hw⟩ := refreshFaults_code s
  have hs : SameRegs s s.refreshFaults [Reg.faultCode, Reg.faultCount] := (Reports.refreshFaults (by simp) (by simp)).2
  generalize s.refreshFaults = u at hexec hw hs
  generalize u.nat Reg.faultCode = w at hexec hw
  have hcode := reg_setReg_same u Reg.faultCode (lowestFault w * 16777216 + w % 16777216 : Nat)
  have hs1 : SameRegs u (u.setReg Reg.faultCode (lowestFault w * 16777216 + w % 16777216 : Nat)) [Reg.faultCode] := .setReg (by simp) _
  dsimp only at hexec
  generalize u.setReg Reg.faultCode (lowestFault w * 16777216 + w % 16777216 : Nat) = v at hexec hcode hs1
  obtain ⟨x, hx⟩ : ∃ x, x = { v with log := { v.log with
    frameEnd := if lowestFault w = 0 then now else now + ((2 * lowestFault w - 1) * 250 + 2000) * 1000 } } := ⟨_, rfl⟩
  have hvx : x.regs = v.regs := (congrArg State.regs hx :)
  rw [← hx] at hexec
  have hnotice : SameRegs x (x.when (lowestFault w != w / 16777216) fun s => s.logNotice Reg.faultCode) [Reg.notifyDropped] := by
    generalize (lowestFault w != w / 16777216) = flag
    cases flag
    · exact .refl _ _
    · have hn : Reports x (x.notifyGardener 0x80 Reg.faultCode) [Reg.notifyDropped] := .notifyGardener (by simp) _ _
      exact hn.2
  refine runs_of_exec rfl hexec fun hm => ?_
  obtain ⟨hbits, hsignal⟩ := signalled ((hnotice _ (by simp)).trans ((reg_of_regs hvx _).trans hcode))
  refine ⟨fun c hc => (hbits c (by omega)).trans ?_, hsignal, ?_, hm⟩
  · rw [hw, bit_nat, bit_nat, faultWord_present (faultsNow_lt s) hc]
  · exact (((hs.mono (by simp)).trans (hs1.mono (by simp))).trans (sameRegs_of_regs hvx _)).trans (hnotice.mono (by simp))
end

/-- Settles O47: what an acknowledgement leaves of FAULT_CODE, and the code that a frame of the pin signals. -/
theorem faultPin : Obligations.FaultPin := by
  unfold Obligations.FaultPin
  intro s
  exact ⟨faultClear_runs, fun m h => (exec_faultClear m s).trans (if_pos h), fun now h => (exec_faultFrameStart now s).trans (if_pos h), faultFrameStart_runs⟩
end Sys2Proof.Machine
end
section
/-!
PROOFS. The root log (19, R505 to R513).
-/
namespace Sys2Proof.Machine

/-! Writing an entry. -/

/-- The log with an entry more: in its slot, or, of a lost log, in a last-word register. -/
def LogSt.written (l : LogSt) (x : LogEntry) : LogSt :=
  if l.lost then { l with lastWords := if l.lastWords.length < 8 then l.lastWords ++ [x] else l.lastWords.set (lowestSeq l.lastWords) x }
  else { l with slots := NTable.put none l.slots l.headSlot (some x), headSlot := l.nextSlot l.headSlot }
/-- What writing entries leaves alone. -/
@[reducible] def LogSt.aside (l : LogSt) : List LogEntry × List LogEntry × Bool × Bool × Bool := (l.queue, l.keep, l.retired0, l.retired1, l.ask)

section
variable {s : State} {l : LogSt} {x e : LogEntry}

theorem written_aside (l : LogSt) (x : LogEntry) : (l.written x).aside = l.aside := by
  unfold LogSt.written
  split <;> rfl
theorem written_lost (l : LogSt) (x : LogEntry) : (l.written x).lost = l.lost := by
  unfold LogSt.written
  split <;> rfl
theorem written_freeze (l : LogSt) (x : LogEntry) : (l.written x).freeze = l.freeze := by
  unfold LogSt.written
  split <;> rfl
theorem written_running (h : l.lost = false) (x : LogEntry) :
    l.written x = { l with slots := NTable.put none l.slots l.headSlot (some x), headSlot := l.nextSlot l.headSlot } := by
  unfold LogSt.written
  rw [h]
  rfl
theorem written_slots (h : l.lost = false) (x : LogEntry) : (l.written x).slots = NTable.put none l.slots l.headSlot (some x) := by
  rw [written_running h]
theorem written_slot (h : l.lost = false) : NTable.get none (l.written x).slots l.headSlot = some x := by
  rw [written_slots h]
  exact NTable.get_put_same _ _ _ _
/-- The slot after a slot is another. -/
theorem nextSlot_ne (hf : l.freeze = none) (k : Nat) : l.nextSlot k ≠ k := by
  rw [LogSt.nextSlot, hf]
  dsimp only
  omega
/-- The last-word register that is written is one of them. -/
theorem lowestSeq_lt {w : List LogEntry} (h : w ≠ []) : lowestSeq w < w.length := by
  unfold lowestSeq
  generalize ha : w.zipIdx.foldl (fun (a : Option (Nat × Nat)) (e : LogEntry × Nat) =>
    match a with
    | some b => if e.1.seq < b.1 then some (e.1.seq, e.2) else some b
    | none => some (e.1.seq, e.2)) none = a
  have hinv : ∀ b : Nat × Nat, a = some b → b.2 < w.length := by
    rw [← ha]
    refine List.foldlRecOn w.zipIdx _ (motive := fun a => ∀ b : Nat × Nat, a = some b → b.2 < w.length) (fun b hb => nomatch hb) ?_
    intro a ih e he b hb
    have hlt : e.2 < w.length := by
      have := (List.mem_zipIdx he).2.1
      omega
    cases a with
    | none =>
      cases hb
      exact hlt
    | some c =>
      dsimp only at hb
      split at hb
      · cases hb
        exact hlt
      · exact ih b hb
  cases a with
  | none => exact List.length_pos_of_ne_nil h
  | some b => exact hinv b rfl
theorem written_lastWord (h : l.lost = true) : x ∈ (l.written x).lastWords := by
  unfold LogSt.written
  rw [if_pos h]
  dsimp only
  split
  · exact List.mem_append_right _ (List.mem_singleton_self x)
  · rename_i h8
    exact List.mem_set (lowestSeq_lt fun h0 => h8 (by rw [h0]; decide)) x

theorem logWrite_log (s : State) (e : LogEntry) : (s.logWrite e).log = s.log.written { e with seq := s.nat Reg.logHead } := by
  unfold State.logWrite LogSt.written
  by_cases hl : s.log.lost = true
  · by_cases h8 : s.log.lastWords.length < 8
    · simp only [hl, h8, if_true]
      rfl
    · simp only [hl, h8, if_true, if_false]
      rfl
  · simp only [hl, Bool.false_eq_true, if_false]
    rfl
theorem logWrite_head (s : State) (e : LogEntry) : (s.logWrite e).reg Reg.logHead = (s.reg Reg.logHead + 1) % 4294967296 ∧
    SameRegs s (s.logWrite e) [Reg.logHead] := by
  have h : (s.logWrite e).regs = (s.setReg Reg.logHead ((s.reg Reg.logHead + 1) % 4294967296)).regs := by
    unfold State.logWrite
    dsimp only
    split <;> rfl
  exact ⟨(reg_of_regs h _).trans (reg_setReg_same _ _ _), .trans (SameRegs.setReg (List.mem_singleton_self _) _) (sameRegs_of_regs h _)⟩

/-- A notice of the log leaves the log. -/
theorem logNotice_log (s : State) (r : Reg) : Only State.log (· ∈ [Reg.notifyDropped]) s (s.logNotice r) := by
  have hn : Reports s (s.notifyGardener 0x80 r) [Reg.notifyDropped] := .notifyGardener (by simp) _ _
  exact ⟨rfl, hn.2⟩
theorem refreshLog_log (s : State) : Only State.log (· ∈ [Reg.logState]) s s.refreshLog :=
  Only.setReg (P := (· ∈ [Reg.logState])) (r := Reg.logState) (List.mem_singleton_self _) _ rfl
/-- What follows a freeze or its end: LOG_FROZEN, LOG_STATE and their notice. -/
theorem stateNotice_log (s : State) (b : List Byte) : Only State.log (· ∈ [Reg.logState, Reg.notifyDropped]) s
    (((s.setBlob Reg.logFrozen b).refreshLog).logNotice Reg.logState) := by
  have h : Only State.log (· ∈ [Reg.logState, Reg.notifyDropped]) s ((s.setBlob Reg.logFrozen b).refreshLog) := by
    have h0 : Only State.log (· ∈ [Reg.logState, Reg.notifyDropped]) s (s.setBlob Reg.logFrozen b) := .of_regs rfl rfl
    exact h0.trans ((refreshLog_log _).mono (by simp))
  exact h.trans ((logNotice_log _ _).mono (by simp))

/-- The log that freezes (R512). -/
def LogSt.frozen (l : LogSt) (x : LogEntry) (f : Freeze) : LogSt := { l.written x with freeze := some f, headSlot := (l.headSlot + 1) % 16384 }
theorem freezeLog_held {trigger seq : Nat} (h : (s.log.freeze.isSome || s.log.lost) = true) : s.freezeLog trigger seq = s := if_pos h
theorem freezeLog_runs {trigger seq : Nat} (hf : s.log.freeze = none) (hl : s.log.lost = false) :
    (∃ f, (s.freezeLog trigger seq).log = s.log.frozen { s.entry 0x0903 0 16 trigger seq with seq := s.nat Reg.logHead } f) ∧
    (s.freezeLog trigger seq).reg Reg.logHead = (s.reg Reg.logHead + 1) % 4294967296 := by
  obtain ⟨hh, hr⟩ := logWrite_head s (s.entry 0x0903 0 16 trigger seq)
  have hlog := logWrite_log s (s.entry 0x0903 0 16 trigger seq)
  unfold State.freezeLog
  rw [if_neg (show ¬(s.log.freeze.isSome || s.log.lost) = true by rw [hf, hl]; decide)]
  extract_lets f n s1 _ s2
  have hs2 : s2.regs = s1.regs := rfl
  have hl2 : s2.log = s.log.frozen { s.entry 0x0903 0 16 trigger seq with seq := s.nat Reg.logHead } ⟨f, n, trigger, s.tick⟩ :=
    congrArg (fun l : LogSt => { l with freeze := some ⟨f, n, trigger, s.tick⟩, headSlot := (f + 1) % 16384 }) hlog
  have hfr := stateNotice_log s2 (leBytes 4 n ++ leBytes 2 trigger ++ leBytes 2 0 ++ leBytes 8 s.tick)
  exact ⟨⟨_, hfr.view.trans hl2⟩, (hfr.regs _ (by simp)).trans ((reg_of_regs hs2 _).trans hh)⟩
/-- After a trigger the log is frozen, unless it is lost. -/
theorem freezeLog_frozen {trigger seq : Nat} (hl : s.log.lost = false) : (s.freezeLog trigger seq).log.freeze.isSome = true := by
  cases hf : s.log.freeze with
  | some f =>
    rw [freezeLog_held (by rw [hf]; rfl), hf]
    rfl
  | none =>
    obtain ⟨⟨f, h⟩, -⟩ := freezeLog_runs (trigger := trigger) (seq := seq) hf hl
    rw [h]
    rfl
theorem freezeLog_aside (s : State) (trigger seq : Nat) : (s.freezeLog trigger seq).log.aside = s.log.aside := by
  by_cases h : (s.log.freeze.isSome || s.log.lost) = true
  · rw [freezeLog_held h]
  · rw [Bool.not_eq_true, Bool.or_eq_false_iff] at h
    obtain ⟨⟨f, hx⟩, -⟩ := freezeLog_runs (trigger := trigger) (seq := seq) (Option.not_isSome_iff_eq_none.mp (by rw [h.1]; decide)) h.2
    rw [hx]
    exact written_aside _ _

/-- An entry that is put, with the freeze that it may bring (R512). -/
theorem logPut_quiet (h : ∀ b, e.trigger = some b → bit (s.reg Reg.logFreezeMask) b = false) : s.logPut e = s.logWrite e := by
  unfold State.logPut
  dsimp only
  cases ht : e.trigger with
  | none => rfl
  | some b => exact if_neg (by rw [h b ht]; decide)
theorem logPut_trigger {b : Nat} (ht : e.trigger = some b) (hb : bit (s.reg Reg.logFreezeMask) b = true) :
    s.logPut e = (s.logWrite e).freezeLog b (s.nat Reg.logHead) := by
  unfold State.logPut
  rw [ht]
  exact if_pos hb
theorem logPut_cases (s : State) (e : LogEntry) : s.logPut e = s.logWrite e ∨ ∃ b seq, s.logPut e = (s.logWrite e).freezeLog b seq := by
  unfold State.logPut
  dsimp only
  cases ht : e.trigger with
  | none => exact .inl rfl
  | some b =>
    dsimp only
    split
    · exact .inr ⟨_, _, rfl⟩
    · exact .inl rfl
theorem logWrite_lost (s : State) (e : LogEntry) : (s.logWrite e).log.lost = s.log.lost :=
  (congrArg LogSt.lost (logWrite_log s e)).trans (written_lost _ _)
theorem logPut_aside (s : State) (e : LogEntry) : (s.logPut e).log.aside = s.log.aside := by
  have hw : (s.logWrite e).log.aside = s.log.aside := (congrArg LogSt.aside (logWrite_log s e)).trans (written_aside _ _)
  rcases logPut_cases s e with h | ⟨b, seq, h⟩
  · rw [h]
    exact hw
  · rw [h]
    exact (freezeLog_aside _ _ _).trans hw
theorem logPut_slot (hl : s.log.lost = false) :
    NTable.get none (s.logPut e).log.slots s.log.headSlot = some { e with seq := s.nat Reg.logHead } := by
  have hw : NTable.get none (s.logWrite e).log.slots s.log.headSlot = some { e with seq := s.nat Reg.logHead } := by
    rw [logWrite_log]
    exact written_slot hl
  rcases logPut_cases s e with h | ⟨b, seq, h⟩
  · rw [h]
    exact hw
  · rw [h]
    have hlw : (s.logWrite e).log.lost = false := (logWrite_lost s e).trans hl
    cases hf : (s.logWrite e).log.freeze with
    | some f =>
      rw [freezeLog_held (by rw [hf]; rfl)]
      exact hw
    | none =>
      obtain ⟨⟨f, hx⟩, -⟩ := freezeLog_runs (trigger := b) (seq := seq) hf hlw
      have hfs : s.log.freeze = none := by rw [← hf, logWrite_log, written_freeze]
      have hhead : (s.logWrite e).log.headSlot = s.log.nextSlot s.log.headSlot := by rw [logWrite_log, written_running hl]
      rw [hx]
      show NTable.get none ((s.logWrite e).log.written _).slots _ = _
      rw [written_slots hlw, hhead]
      exact (NTable.get_put_other _ _ _ _ _ (Ne.symm (nextSlot_ne hfs _))).trans hw
theorem logPut_lastWord (hl : s.log.lost = true) : { e with seq := s.nat Reg.logHead } ∈ (s.logPut e).log.lastWords := by
  have hw : { e with seq := s.nat Reg.logHead } ∈ (s.logWrite e).log.lastWords := by
    rw [logWrite_log]
    exact written_lastWord hl
  rcases logPut_cases s e with h | ⟨b, seq, h⟩
  · rw [h]
    exact hw
  · rw [h, freezeLog_held (by rw [logWrite_lost, hl, Bool.or_true])]
    exact hw

/-! Halves that are retired (R509 to R511). -/

/-- What a retired half leaves of the log. -/
@[reducible] def LogSt.body (l : LogSt) : List LogEntry × NTable (Option LogEntry) × List LogEntry × Option Freeze × Nat :=
  (l.queue, l.slots, l.lastWords, l.freeze, l.scrubWord)
/-- The log that retires a half, with the entry that says so. -/
def LogSt.retire (l : LogSt) (h : Nat) (x : LogEntry) : LogSt :=
  { l with retired0 := l.retired0 || h == 0, retired1 := l.retired1 || h == 1, lastRetired := h, keep := x :: l.keep }
/-- Is the half retired already. -/
def LogSt.gone (l : LogSt) (h : Nat) : Bool := if h = 0 then l.retired0 else l.retired1
theorem retireHalf_held {h slot : Nat} (hg : s.log.gone h = true) : s.retireHalf h slot = s := if_pos hg
theorem retireHalf_log {h slot : Nat} (hg : s.log.gone h = false) :
    (s.retireHalf h slot).log = s.log.retire h (s.entry 0x0901 2 16 h slot) := by
  unfold State.retireHalf
  have hn : ¬s.log.gone h = true := by rw [hg]; decide
  exact (congrArg State.log (if_neg hn)).trans rfl
theorem retireHalf_body (s : State) (h slot : Nat) : (s.retireHalf h slot).log.body = s.log.body := by
  cases hg : s.log.gone h with
  | true => rw [retireHalf_held hg]
  | false => rw [retireHalf_log hg]; rfl
theorem retireHalf_gone (s : State) (h slot : Nat) (hh : h ≤ 1) : (s.retireHalf h slot).log.gone h = true := by
  cases hg : s.log.gone h with
  | true => rw [retireHalf_held hg, hg]
  | false =>
    rw [retireHalf_log hg]
    unfold LogSt.gone LogSt.retire
    split
    · simp [*]
    · rename_i h0
      have h1 : h = 1 := by omega
      simp [h1]
theorem retireHalf_stays {h slot k : Nat} (hk : s.log.gone k = true) : (s.retireHalf h slot).log.gone k = true := by
  cases hg : s.log.gone h with
  | true => rw [retireHalf_held hg, hk]
  | false =>
    rw [retireHalf_log hg]
    unfold LogSt.gone at hk
    unfold LogSt.gone LogSt.retire
    split at hk <;> simp [*]
/-- The read-back of an entry that was written (R509). -/
def State.readBack (bad0 bad1 : Bool) (slot : Nat) (s : State) : State :=
  (s.when (bad0 && !s.log.retired0) fun s => s.retireHalf 0 slot).when (bad1 && !s.log.retired1) fun s => s.retireHalf 1 slot
theorem whenRetired_body (s : State) (b : Bool) (h slot : Nat) : (s.when b fun s => s.retireHalf h slot).log.body = s.log.body := by
  cases b
  · rfl
  · exact retireHalf_body s h slot
theorem whenRetired_stays {k : Nat} (b : Bool) (h slot : Nat) (hk : s.log.gone k = true) : (s.when b fun s => s.retireHalf h slot).log.gone k = true := by
  cases b
  · exact hk
  · exact retireHalf_stays hk
theorem readBack_body (bad0 bad1 : Bool) (slot : Nat) (s : State) : (s.readBack bad0 bad1 slot).log.body = s.log.body := by
  unfold State.readBack
  exact (whenRetired_body _ _ _ _).trans (whenRetired_body _ _ _ _)
theorem readBack_retires (bad0 bad1 : Bool) (slot : Nat) (s : State) :
    (bad0 = true → (s.readBack bad0 bad1 slot).log.retired0 = true) ∧ (bad1 = true → (s.readBack bad0 bad1 slot).log.retired1 = true) := by
  unfold State.readBack
  refine ⟨?_, ?_⟩
  · rintro rfl
    refine whenRetired_stays (k := 0) _ _ _ ?_
    cases hg : s.log.retired0 with
    | true => exact hg
    | false => exact retireHalf_gone s 0 slot (by decide)
  · rintro rfl
    cases hg : s.log.retired1 with
    | true => exact whenRetired_stays (k := 1) _ _ _ (whenRetired_stays (k := 1) _ _ _ hg)
    | false => exact retireHalf_gone _ 1 slot le_rfl
end

/-! The commands of the log. -/

section
variable {s : State} {bad0 bad1 : Bool} {e : LogEntry} {keep queue : List LogEntry}

/-- The log whose next entry has been taken out to be written. -/
def State.taken (s : State) (keep queue : List LogEntry) : State := { s with log := { s.log with keep := keep, queue := queue } }
theorem exec_logQueueDrain (ha : s.log.ask = false)
    (hq : (s.log.keep = e :: keep ∧ s.log.queue = queue) ∨ (s.log.keep = [] ∧ keep = [] ∧ s.log.queue = e :: queue)) :
    exec (.logQueueDrain bad0 bad1) s = .next (((s.taken keep queue).logPut e).readBack bad0 bad1 s.log.headSlot) := by
  show execLogQueueDrain bad0 bad1 s = _
  unfold execLogQueueDrain
  extract_lets slot readBack
  rw [if_neg (by rw [ha]; decide)]
  rcases hq with ⟨hk, rfl⟩ | ⟨hk, rfl, hq⟩
  · rw [hk]
    rfl
  · rw [hk, hq]
    dsimp only
    rw [← hk]
    rfl
theorem exec_logQueueDrain_idle (ha : s.log.ask = false) (hk : s.log.keep = []) (hq : s.log.queue = []) : exec (.logQueueDrain bad0 bad1) s = .next s := by
  show execLogQueueDrain bad0 bad1 s = _
  unfold execLogQueueDrain
  extract_lets slot readBack
  rw [if_neg (by rw [ha]; decide), hk, hq]
theorem logQueueDrain_asked (ha : s.log.ask = true) : Runs (.logQueueDrain bad0 bad1) s fun t => t.log.ask = false ∧ t.log.keep = s.log.keep ∧
    t.log.queue = s.log.queue ∧ (s.log.lost = false → t.log.freeze.isSome = true) ∧ SameMem s t := by
  have hexec : ∃ (u : State) (seq : Nat), exec (.logQueueDrain bad0 bad1) s = .next (u.freezeLog 9 seq) ∧ u.log = { s.log with ask := false } :=
    ⟨_, _, if_pos ha, rfl⟩
  obtain ⟨u, seq, hexec, hu⟩ := hexec
  have haside : (u.freezeLog 9 seq).log.aside = { s.log with ask := false }.aside := (freezeLog_aside u 9 seq).trans (congrArg LogSt.aside hu)
  refine runs_of_exec rfl hexec fun hm => ⟨(congrArg (·.2.2.2.2) haside :), (congrArg (·.2.1) haside :), (congrArg (·.1) haside :), fun hl => ?_, hm⟩
  exact freezeLog_frozen ((congrArg LogSt.lost hu).trans hl)
theorem logQueueDrain_writes (ha : s.log.ask = false)
    (hq : (s.log.keep = e :: keep ∧ s.log.queue = queue) ∨ (s.log.keep = [] ∧ keep = [] ∧ s.log.queue = e :: queue)) :
    Runs (.logQueueDrain bad0 bad1) s fun t => t.log.queue = queue ∧
      (s.log.lost = false → NTable.get none t.log.slots s.log.headSlot = some { e with seq := s.nat Reg.logHead }) ∧
      (s.log.lost = true → { e with seq := s.nat Reg.logHead } ∈ t.log.lastWords) ∧
      (bad0 = true → t.log.retired0 = true) ∧ (bad1 = true → t.log.retired1 = true) ∧ SameMem s t := by
  have hexec := exec_logQueueDrain (bad0 := bad0) (bad1 := bad1) ha hq
  have hslot (h : s.log.lost = false) : NTable.get none ((s.taken keep queue).logPut e).log.slots s.log.headSlot = some { e with seq := s.nat Reg.logHead } :=
    logPut_slot (s := s.taken keep queue) h
  have hword (h : s.log.lost = true) : { e with seq := s.nat Reg.logHead } ∈ ((s.taken keep queue).logPut e).log.lastWords :=
    logPut_lastWord (s := s.taken keep queue) h
  have haside : ((s.taken keep queue).logPut e).log.queue = queue := (congrArg (·.1) (logPut_aside (s.taken keep queue) e) :)
  generalize (s.taken keep queue).logPut e = u at hexec hslot hword haside
  have hbody := readBack_body bad0 bad1 s.log.headSlot u
  obtain ⟨h0, h1⟩ := readBack_retires bad0 bad1 s.log.headSlot u
  generalize u.readBack bad0 bad1 s.log.headSlot = t at hexec hbody h0 h1
  refine runs_of_exec rfl hexec fun hm => ⟨(congrArg (·.1) hbody :).trans haside, fun h => ?_, fun h => ?_, h0, h1, hm⟩
  · have hs : t.log.slots = u.log.slots := (congrArg (·.2.1) hbody :)
    rw [hs]
    exact hslot h
  · have hw : t.log.lastWords = u.log.lastWords := (congrArg (·.2.2.1) hbody :)
    rw [hw]
    exact hword h
theorem logQueueDrain_quiet (ha : s.log.ask = false)
    (hq : (s.log.keep = e :: keep ∧ s.log.queue = queue) ∨ (s.log.keep = [] ∧ keep = [] ∧ s.log.queue = e :: queue)) (h0 : bad0 = false)
    (h1 : bad1 = false) (hl : s.log.lost = false) (ht : ∀ b, e.trigger = some b → bit (s.reg Reg.logFreezeMask) b = false) :
    Runs (.logQueueDrain bad0 bad1) s fun t => t.log.keep = keep ∧ t.log.headSlot = s.log.nextSlot s.log.headSlot ∧
      t.reg Reg.logHead = (s.reg Reg.logHead + 1) % 4294967296 ∧ SameRegs s t [Reg.logHead] ∧ SameMem s t := by
  subst h0 h1
  have hexec := exec_logQueueDrain (bad0 := false) (bad1 := false) ha hq
  rw [logPut_quiet (s := s.taken keep queue) ht] at hexec
  obtain ⟨hh, hr⟩ := logWrite_head (s.taken keep queue) e
  have hlog := logWrite_log (s.taken keep queue) e
  rw [written_running (show (s.taken keep queue).log.lost = false from hl)] at hlog
  have hu : ((s.taken keep queue).logWrite e).readBack false false s.log.headSlot = (s.taken keep queue).logWrite e := rfl
  rw [hu] at hexec
  generalize (s.taken keep queue).logWrite e = u at hexec hh hr hlog
  exact runs_of_exec rfl hexec fun hm => ⟨(congrArg LogSt.keep hlog :), (congrArg LogSt.headSlot hlog :), hh, hr, hm⟩
theorem logQueueDrain_freezes (ha : s.log.ask = false)
    (hq : (s.log.keep = e :: keep ∧ s.log.queue = queue) ∨ (s.log.keep = [] ∧ keep = [] ∧ s.log.queue = e :: queue)) {b : Nat}
    (ht : e.trigger = some b) (hb : bit (s.reg Reg.logFreezeMask) b = true) (hl : s.log.lost = false) :
    Runs (.logQueueDrain bad0 bad1) s fun t => t.log.freeze.isSome = true := by
  have hexec := exec_logQueueDrain (bad0 := bad0) (bad1 := bad1) ha hq
  have hf : ((s.taken keep queue).logPut e).log.freeze.isSome = true := by
    rw [logPut_trigger (s := s.taken keep queue) ht hb]
    exact freezeLog_frozen ((logWrite_lost _ _).trans hl)
  generalize (s.taken keep queue).logPut e = u at hexec hf
  have hbody := readBack_body bad0 bad1 s.log.headSlot u
  exact runs_of_exec rfl hexec fun _ => (congrArg (Option.isSome ·.2.2.2.1) hbody :).trans hf

theorem exec_logDropped_none (p : Fin 17) (h : (s.log.rate p).dropped = 0 ∨ ∃ k, (s.log.rate p).lastDrop = some k ∧ s.tick < k + 8000) :
    exec (.logDropped p) s = .next s := by
  refine if_pos ?_
  rcases h with h | ⟨k, hk, ht⟩
  · exact .inl h
  · refine .inr ?_
    rw [hk]
    simpa using ht
theorem exec_logDropped (p : Fin 17) (h : (s.log.rate p).dropped ≠ 0) (hk : ∀ k, (s.log.rate p).lastDrop = some k → k + 8000 ≤ s.tick) :
    exec (.logDropped p) s = .next { s with log := { s.log with
      keep := s.log.keep ++ [s.entry 0x0905 1 p (s.log.rate p).dropped 0]
      rates := NTable.put {} s.log.rates p { s.log.rate p with dropped := 0, lastDrop := some s.tick } } } := by
  refine if_neg (not_or.mpr ⟨h, ?_⟩)
  cases hd : (s.log.rate p).lastDrop with
  | none => simp
  | some k => simpa using hk k hd

theorem exec_logScrub (u : Bool) (hl : s.log.lost = false) (w : Nat) (hw : w = if s.log.scrubWord < 65536 ∧ s.log.retired0 = true then 65536
    else if 65536 ≤ s.log.scrubWord ∧ s.log.retired1 = true then 0 else s.log.scrubWord) : exec (.logScrub u) s =
    .next ({ s with log := { s.log with scrubWord := (w + 1) % 131072 } }.when u fun s => s.retireHalf (w / 65536) (w % 65536 / 4)) := by
  subst hw
  exact if_neg (by rw [hl]; decide)
/-- The half whose word is read is in service. -/
theorem scrubbedHalf_live (hl : s.log.lost = false) (hlt : s.log.scrubWord < 131072) (w : Nat)
    (hw : w = if s.log.scrubWord < 65536 ∧ s.log.retired0 = true then 65536
      else if 65536 ≤ s.log.scrubWord ∧ s.log.retired1 = true then 0 else s.log.scrubWord) :
    w / 65536 ≤ 1 ∧ (w / 65536 = 0 ↔ w < 65536) ∧ s.log.gone (w / 65536) = false := by
  have hboth : s.log.retired0 = true → s.log.retired1 = false := fun h => by
    rw [LogSt.lost, h] at hl
    exact hl
  have hw2 : w < 131072 := by
    rw [hw]
    split
    · decide
    · split
      · decide
      · exact hlt
  refine ⟨by omega, by omega, ?_⟩
  unfold LogSt.gone
  subst hw
  by_cases ha : s.log.scrubWord < 65536 ∧ s.log.retired0 = true
  · rw [if_pos ha, if_neg (by decide)]
    exact hboth ha.2
  · rw [if_neg ha]
    by_cases hb : 65536 ≤ s.log.scrubWord ∧ s.log.retired1 = true
    · rw [if_pos hb, if_pos (by decide)]
      cases h0 : s.log.retired0 with
      | false => rfl
      | true => exact absurd hb.2 (by rw [hboth h0]; decide)
    · rw [if_neg hb]
      by_cases h : s.log.scrubWord < 65536
      · rw [if_pos (by omega)]
        exact Bool.eq_false_iff.mpr fun h0 => ha ⟨h, h0⟩
      · rw [if_neg (by omega)]
        exact Bool.eq_false_iff.mpr fun h1 => hb ⟨Nat.not_lt.mp h, h1⟩
theorem logScrub_reads (hl : s.log.lost = false) (w : Nat) (hw : w = if s.log.scrubWord < 65536 ∧ s.log.retired0 = true then 65536
    else if 65536 ≤ s.log.scrubWord ∧ s.log.retired1 = true then 0 else s.log.scrubWord) :
    Runs (.logScrub false) s fun t => t.log.scrubWord = (w + 1) % 131072 ∧ SameRegs s t [] ∧ SameMem s t :=
  runs_of_exec rfl (exec_logScrub false hl w hw) fun hm => ⟨rfl, .refl _ _, hm⟩
theorem logScrub_retires (hl : s.log.lost = false) (hlt : s.log.scrubWord < 131072) (w : Nat)
    (hw : w = if s.log.scrubWord < 65536 ∧ s.log.retired0 = true then 65536
      else if 65536 ≤ s.log.scrubWord ∧ s.log.retired1 = true then 0 else s.log.scrubWord) :
    Runs (.logScrub true) s fun t => t.log.scrubWord = (w + 1) % 131072 ∧ (if w < 65536 then t.log.retired0 else t.log.retired1) = true ∧
      t.log.keep.length = s.log.keep.length + 1 ∧ SameMem s t := by
  obtain ⟨h1, h0, hg⟩ := scrubbedHalf_live hl hlt w hw
  have hexec : ∃ u : State, exec (.logScrub true) s = .next (u.retireHalf (w / 65536) (w % 65536 / 4)) ∧ u.log.scrubWord = (w + 1) % 131072 ∧
      u.log.keep = s.log.keep ∧ u.log.gone (w / 65536) = false := ⟨_, exec_logScrub true hl w hw, rfl, rfl, hg⟩
  obtain ⟨u, hexec, hs, hk, hgu⟩ := hexec
  have hgone := retireHalf_gone u _ (w % 65536 / 4) h1
  have hlog := retireHalf_log (slot := w % 65536 / 4) hgu
  refine runs_of_exec rfl hexec fun hm => ⟨?_, ?_, ?_, hm⟩
  · exact (congrArg (·.2.2.2.2) (retireHalf_body u _ _) :).trans hs
  · rw [LogSt.gone] at hgone
    simpa only [h0] using hgone
  · rw [hlog, ← hk]
    rfl

theorem logFreeze_freezes (hf : s.log.freeze = none) (hl : s.log.lost = false) : Runs .logFreeze s fun t => t.log.freeze.isSome = true ∧
    t.log.headSlot = (s.log.headSlot + 1) % 16384 ∧ t.answer.status = 0 ∧ t.reg Reg.logHead = (s.reg Reg.logHead + 1) % 4294967296 ∧
    (∃ e, NTable.get none t.log.slots s.log.headSlot = some e ∧ e.code = 0x0903 ∧ e.seq = s.nat Reg.logHead) ∧ SameMem s t := by
  have hexec : ∃ (u : State) (seq : Nat), exec .logFreeze s = .next ((u.freezeLog 0xFF seq).reply 0) ∧ u.log = s.log ∧ u.regs = s.regs :=
    ⟨_, _, rfl, rfl, rfl⟩
  obtain ⟨u, seq, hexec, hu, hr⟩ := hexec
  obtain ⟨⟨f, hlog⟩, hh⟩ := freezeLog_runs (s := u) (trigger := 0xFF) (seq := seq) (by rw [hu]; exact hf) (by rw [hu]; exact hl)
  generalize u.freezeLog 0xFF seq = v at hexec hlog hh
  have hs : v.log.slots = (u.log.written { u.entry 0x0903 0 16 0xFF seq with seq := u.nat Reg.logHead }).slots := (congrArg LogSt.slots hlog :)
  have hslot : NTable.get none v.log.slots s.log.headSlot = some { u.entry 0x0903 0 16 0xFF seq with seq := u.nat Reg.logHead } := by
    rw [hs, ← hu]
    exact written_slot (by rw [hu]; exact hl)
  refine runs_of_exec rfl hexec fun hm => ⟨?_, ?_, rfl, ?_, ⟨_, hslot, rfl, congrArg Int.toNat (reg_of_regs hr _)⟩, hm⟩
  · exact (congrArg (Option.isSome ·.freeze) hlog :)
  · exact (congrArg LogSt.headSlot hlog :).trans (by rw [hu]; rfl)
  · exact hh.trans (by rw [reg_of_regs hr])
theorem logFreeze_held (h : s.log.freeze ≠ none ∨ s.log.lost = true) : Runs .logFreeze s fun t =>
    t.log = s.log ∧ t.answer.status = 0 ∧ SameRegs s t [] ∧ SameMem s t := by
  have hexec : ∃ (u : State) (seq : Nat), exec .logFreeze s = .next ((u.freezeLog 0xFF seq).reply 0) ∧ u.log = s.log ∧ u.regs = s.regs :=
    ⟨_, _, rfl, rfl, rfl⟩
  obtain ⟨u, seq, hexec, hu, hr⟩ := hexec
  rw [freezeLog_held (by rw [hu, Bool.or_eq_true]; exact h.imp_left Option.isSome_iff_ne_none.mpr)] at hexec
  exact runs_of_exec rfl hexec fun hm => ⟨hu, rfl, sameRegs_of_regs hr _, hm⟩

/-- The log of a freeze that ends, with the entry that says so (R513). -/
def State.thawed (s : State) (f : Freeze) : State :=
  let s1 := s.logWrite (s.entry 0x0904 0 16 f.seq 0)
  { s1 with log := { s1.log with freeze := none, headSlot := if s.log.lost then s1.log.headSlot else (s.log.headSlot + 1) % 16384 } }
theorem exec_logUnfreeze {f : Freeze} (hf : s.log.freeze = some f) : exec .logUnfreeze s =
    .next (((((s.thawed f).setBlob Reg.logFrozen []).refreshLog).logNotice Reg.logState).reply 0) := by
  show execLogUnfreeze s = _
  unfold execLogUnfreeze
  rw [hf]
  rfl
theorem logUnfreeze_runs {f : Freeze} (hf : s.log.freeze = some f) :
    Runs .logUnfreeze s (fun t => t.log.freeze = none ∧ t.answer.status = 0 ∧ SameMem s t) ∧
    (s.log.lost = false → Runs .logUnfreeze s fun t => t.log.headSlot = (s.log.headSlot + 1) % 16384 ∧
      (∃ e, NTable.get none t.log.slots s.log.headSlot = some e ∧ e.code = 0x0904 ∧ e.p0 = f.seq % 4294967296) ∧ SameMem s t) := by
  have hexec := exec_logUnfreeze hf
  have hfr : (s.thawed f).log.freeze = none := rfl
  have hhead (hl : s.log.lost = false) : (s.thawed f).log.headSlot = (s.log.headSlot + 1) % 16384 := if_neg (by rw [hl]; decide)
  have hslots : (s.thawed f).log.slots = (s.logWrite (s.entry 0x0904 0 16 f.seq 0)).log.slots := rfl
  rw [logWrite_log] at hslots
  generalize s.thawed f = u at hexec hfr hhead hslots
  have hn := (stateNotice_log u []).view
  generalize ((u.setBlob Reg.logFrozen []).refreshLog).logNotice Reg.logState = v at hexec hn
  have hslot (hl : s.log.lost = false) : NTable.get none v.log.slots s.log.headSlot = some { s.entry 0x0904 0 16 f.seq 0 with seq := s.nat Reg.logHead } := by
    have hs : v.log.slots = u.log.slots := (congrArg LogSt.slots hn :)
    rw [hs, hslots]
    exact written_slot hl
  refine ⟨runs_of_exec rfl hexec fun hm => ⟨(congrArg LogSt.freeze hn :).trans hfr, rfl, hm⟩, fun hl => runs_of_exec rfl hexec fun hm => ?_⟩
  exact ⟨(congrArg LogSt.headSlot hn :).trans (hhead hl), ⟨_, hslot hl, rfl, rfl⟩, hm⟩
theorem exec_logUnfreeze_running (hf : s.log.freeze = none) : Answers .logUnfreeze s 0 := by
  show execLogUnfreeze s = _
  unfold execLogUnfreeze
  rw [hf]
end

/-- Settles O46: the entry that is written next and where, the drops that are reported, the halves that scrub retires, and a freeze and its end. -/
theorem rootLogCommands : Obligations.RootLogCommands := by
  unfold Obligations.RootLogCommands
  intro bad0 bad1 s
  refine ⟨logQueueDrain_asked, fun e keep queue ha hq => ⟨logQueueDrain_writes ha hq, logQueueDrain_quiet ha hq, fun b ht hb hl => logQueueDrain_freezes ha hq ht hb hl⟩,
    exec_logQueueDrain_idle, fun p => ⟨fun h hk => ?_, exec_logDropped_none p⟩, fun w hw hl hlt => ⟨logScrub_reads hl w hw, logScrub_retires hl hlt w hw⟩,
    fun hl => if_pos hl, logFreeze_freezes, logFreeze_held, fun f hf => logUnfreeze_runs hf, exec_logUnfreeze_running⟩
  exact runs_of_exec rfl (exec_logDropped p h hk) fun hm =>
    ⟨rfl, congrArg LogRate.dropped (NTable.get_put_same _ _ _ _), congrArg LogRate.lastDrop (NTable.get_put_same _ _ _ _), .refl _ _, hm⟩
end Sys2Proof.Machine
end

section
/-!
PROOFS. Roles and links of a pair (08, R219 to R245).
-/
namespace Sys2Proof.Machine

/-! The changes of role. -/

/-- What a change of role leaves of the meeting with the partner. -/
@[reducible] def State.met (s : State) : Option TickFrame × Option (Nat × Nat) × (Nat × Nat) × Option Nat :=
  (s.pair.partner, s.pair.lostAt, s.pair.cellAt, s.pair.takeAt)
/-- The registers of the role and of a graft. -/
@[reducible] def roleRegs : List Reg := [Reg.pairRole, Reg.pairAuth, Reg.pairAuthSince, Reg.pairPartnerLost, Reg.pairState, Reg.graftPhase,
  Reg.graftResult, Reg.graftJoinTick, Reg.notifyDropped]
/-- A state that follows from another by a change of role. -/
@[reducible] def RoleChange (s t : State) : Prop := Only State.met (· ∈ roleRegs) s t

section
variable {s : State}

theorem RoleChange.pairTo (s : State) (st : Nat) : RoleChange s (s.pairTo st) := by
  have h := pairTo_frame s st
  exact ⟨congrArg (fun x : ClkSt × PairSt => (x.2.partner, x.2.lostAt, x.2.cellAt, x.2.takeAt)) h.view, (h.mono (by simp)).regs⟩
theorem RoleChange.modPair {f : PairSt → PairSt} (s : State) (h : ∀ x, ((f x).partner, (f x).lostAt, (f x).cellAt, (f x).takeAt) =
    (x.partner, x.lostAt, x.cellAt, x.takeAt)) : RoleChange s (s.modPair f) := .of_regs (h s.pair) rfl
theorem RoleChange.setRegs {l : List (Reg × Int)} (s : State) (h : ∀ e ∈ l, e.1 ∈ roleRegs) : RoleChange s (s.setRegs l) :=
  Only.setRegs h fun _ _ _ => rfl
theorem RoleChange.setReg {r : Reg} (s : State) (h : r ∈ roleRegs) (v : Int) : RoleChange s (s.setReg r v) := Only.setReg h v rfl
theorem RoleChange.toStandby (s : State) (role : Int) (graft : Bool) : RoleChange s (s.toStandby role graft) := by
  unfold State.toStandby
  extract_lets auto
  have h1 : RoleChange s (s.setRegs [(Reg.pairRole, role), (Reg.pairAuth, 0)]) := RoleChange.setRegs s (by simp)
  generalize s.setRegs [(Reg.pairRole, role), (Reg.pairAuth, 0)] = u at h1 ⊢
  have h2 : RoleChange u (u.modPair fun x =>
    { x with graftAt := if auto then some (s.tick + 1) else none, focus := none, handAt := none }) := .of_regs rfl rfl
  exact (h1.trans h2).trans (RoleChange.pairTo _ 4)
theorem toStandby_handAt (s : State) (role : Int) (graft : Bool) : (s.toStandby role graft).pair.handAt = none ∧
    (s.toStandby role graft).pair.leaveAt = s.pair.leaveAt := by
  have hl : (s.setRegs [(Reg.pairRole, role), (Reg.pairAuth, 0)]).pair = s.pair := rfl
  unfold State.toStandby
  extract_lets auto
  generalize s.setRegs [(Reg.pairRole, role), (Reg.pairAuth, 0)] = u at hl ⊢
  rw [pairTo_pair]
  exact ⟨rfl, (congrArg PairSt.leaveAt hl :)⟩

/-- Role A is taken with its registers and nothing else of the pair's (R223). -/
theorem takeA_frame (s : State) : Only State.met
    (· ∈ [Reg.pairRole, Reg.pairAuth, Reg.pairAuthSince, Reg.pairPartnerLost, Reg.pairState, Reg.notifyDropped]) s s.takeA := by
  have h1 : Only State.met (· ∈ [Reg.pairRole, Reg.pairAuth, Reg.pairAuthSince, Reg.pairPartnerLost, Reg.pairState, Reg.notifyDropped]) s
    (s.setRegs [(Reg.pairRole, 0), (Reg.pairAuth, 1), (Reg.pairAuthSince, s.tick), (Reg.pairPartnerLost, 0)]) := .setRegs (by simp) fun _ _ _ => rfl
  unfold State.takeA
  generalize s.setRegs [(Reg.pairRole, 0), (Reg.pairAuth, 1), (Reg.pairAuthSince, (s.tick : Int)), (Reg.pairPartnerLost, 0)] = u at h1 ⊢
  have h2 := RoleChange.modPair (f := fun x => { x with waitFrom := none, graftAt := none, handAt := none }) u fun _ => rfl
  have h3 := pairTo_frame (u.modPair fun x => { x with waitFrom := none, graftAt := none, handAt := none }) 1
  have h4 := RoleChange.pairTo (u.modPair fun x => { x with waitFrom := none, graftAt := none, handAt := none }) 1
  exact h1.trans ((⟨h2.view, (Only.of_regs (q := State.met) h2.view rfl).regs⟩ : Only State.met _ _ _).trans ⟨h4.view, (h3.mono (by simp)).regs⟩)
theorem RoleChange.takeA (s : State) : RoleChange s s.takeA := (takeA_frame s).mono (by simp)
theorem takeA_runs (s : State) : s.takeA.reg Reg.pairRole = 0 ∧ s.takeA.reg Reg.pairAuth = 1 ∧ s.takeA.reg Reg.pairState = 1 ∧
    s.takeA.reg Reg.pairAuthSince = s.tick ∧ s.takeA.pair.waitFrom = none ∧ s.takeA.pair.handAt = none := by
  have h1 : (s.setRegs [(Reg.pairRole, 0), (Reg.pairAuth, 1), (Reg.pairAuthSince, (s.tick : Int)), (Reg.pairPartnerLost, 0)]).reg Reg.pairRole = 0 :=
    (reg_setReg_other _ _ _ _ (by simp)).trans ((reg_setReg_other _ _ _ _ (by simp)).trans ((reg_setReg_other _ _ _ _ (by simp)).trans
      (reg_setReg_same _ _ _)))
  have h2 : (s.setRegs [(Reg.pairRole, 0), (Reg.pairAuth, 1), (Reg.pairAuthSince, (s.tick : Int)), (Reg.pairPartnerLost, 0)]).reg Reg.pairAuth = 1 :=
    (reg_setReg_other _ _ _ _ (by simp)).trans ((reg_setReg_other _ _ _ _ (by simp)).trans (reg_setReg_same _ _ _))
  have h3 : (s.setRegs [(Reg.pairRole, 0), (Reg.pairAuth, 1), (Reg.pairAuthSince, (s.tick : Int)), (Reg.pairPartnerLost, 0)]).reg Reg.pairAuthSince = s.tick :=
    (reg_setReg_other _ _ _ _ (by simp)).trans (reg_setReg_same _ _ _)
  unfold State.takeA
  generalize s.setRegs [(Reg.pairRole, 0), (Reg.pairAuth, 1), (Reg.pairAuthSince, (s.tick : Int)), (Reg.pairPartnerLost, 0)] = u at h1 h2 h3 ⊢
  have hv := modPair_regs u fun x => { x with waitFrom := none, graftAt := none, handAt := none }
  have hw : (u.modPair fun x => { x with waitFrom := none, graftAt := none, handAt := none }).pair.waitFrom = none := rfl
  have hh : (u.modPair fun x => { x with waitFrom := none, graftAt := none, handAt := none }).pair.handAt = none := rfl
  generalize (u.modPair fun x => { x with waitFrom := none, graftAt := none, handAt := none }) = v at hv hw hh ⊢
  have hf := (pairTo_frame v 1).regs
  have hp := pairTo_pair v 1
  refine ⟨?_, ?_, pairTo_state (by decide), ?_, (congrArg PairSt.waitFrom hp :).trans hw, (congrArg PairSt.handAt hp :).trans hh⟩
  · exact (hf _ (by simp)).trans ((reg_of_regs hv _).trans h1)
  · exact (hf _ (by simp)).trans ((reg_of_regs hv _).trans h2)
  · exact (hf _ (by simp)).trans ((reg_of_regs hv _).trans h3)

theorem RoleChange.logEvent (s : State) (code level plot p0 p1 : Nat) : RoleChange s (s.logEvent code level plot p0 p1) := .of_regs rfl rfl
/-- A graft that ends with a code other than 1. -/
theorem graftEnd_idle {code : Nat} (h : s.reg Reg.pairState ≠ 2) : s.graftEnd code = s := if_pos h
theorem RoleChange.graftEnd (s : State) (code : Nat) : RoleChange s (s.graftEnd code) := by
  unfold State.graftEnd
  refine .of_ite (fun _ => .refl _) fun _ => ?_
  extract_lets ok s1 s2
  have h1 : RoleChange s s1 := (RoleChange.setReg s (r := Reg.graftResult) (by simp) code).trans (RoleChange.logEvent _ _ _ _ _ _)
  have h2 : RoleChange s1 s2 := (RoleChange.setReg s1 (r := Reg.graftPhase) (by simp) 0).trans (RoleChange.modPair _ fun _ => rfl)
  have h := h1.trans h2
  exact .of_ite (fun _ => h.trans (RoleChange.pairTo _ _)) fun _ => .of_ite (fun _ => h.trans (RoleChange.toStandby _ _ _)) fun _ => h.trans (RoleChange.pairTo _ _)
theorem RoleChange.graftBegin (s : State) : RoleChange s s.graftBegin := by
  unfold State.graftBegin
  refine .of_ite (fun _ => RoleChange.setReg s (by simp) _) fun _ => ?_
  have h1 : RoleChange s (s.setRegs [(Reg.pairRole, 1), (Reg.graftPhase, 1), (Reg.graftResult, 2), (Reg.graftJoinTick, 0), (Reg.pairPartnerLost, 0)]) :=
    RoleChange.setRegs s (by simp)
  generalize s.setRegs [(Reg.pairRole, 1), (Reg.graftPhase, 1), (Reg.graftResult, 2), (Reg.graftJoinTick, 0), (Reg.pairPartnerLost, 0)] = u at h1 ⊢
  have h2 : RoleChange u (u.modPair fun x => { x with
    target := true, graftFrom := s.tick, phaseFrom := s.tick, settled := 0, graftAt := none, waitFrom := none, unsettled := [], mirror := [],
    srcTick := [] }) := .of_regs rfl rfl
  exact (h1.trans h2).trans (RoleChange.pairTo _ 2)
/-- A graft that ends without a join. -/
theorem graftEnd_fails {code : Nat} (h : s.reg Reg.pairState = 2) (hc : code ≠ 1) : (s.graftEnd code).reg Reg.graftResult = code ∧
    (s.graftEnd code).reg Reg.pairState = if s.pair.target then 4 else 1 := by
  unfold State.graftEnd
  rw [if_neg (not_not_intro h)]
  extract_lets ok s1 s2
  have hr1 : s1.reg Reg.graftResult = code := (reg_of_regs (logEvent_regs _ _ _ _ _ _) _).trans (reg_setReg_same _ _ _)
  have hr2 : s2.reg Reg.graftResult = s1.reg Reg.graftResult :=
    (reg_of_regs (modPair_regs _ _) _).trans (reg_setReg_other _ _ _ _ (by simp))
  have hok : ¬ok = true := fun h => hc (beq_iff_eq.mp h)
  rw [if_neg hok]
  cases ht : s.pair.target with
  | true => exact ⟨((toStandby_frame s2 255 false).regs _ (by simp)).trans (hr2.trans hr1), (toStandby_regs s2 255 false).1⟩
  | false => exact ⟨((pairTo_frame s2 1).regs _ (by simp)).trans (hr2.trans hr1), pairTo_state (by decide)⟩

/-! The partner that is lost (R224, R242). -/

theorem purgeBarred_frame (s : State) : RoleChange s s.purgeBarred := .of_regs rfl rfl
theorem RoleChange.partnerLoss (s : State) : RoleChange s s.partnerLoss := by
  unfold State.partnerLoss
  extract_lets st high s1
  have h1 : RoleChange s s1 := RoleChange.graftEnd s _
  have h2 : RoleChange s1 (s1.when s.pair.target fun s => s.setReg Reg.pairPartnerLost 1) := Only.when _ (RoleChange.setReg s1 (by simp) 1)
  refine .of_ite (fun _ => .refl _) fun _ => .of_ite (fun _ => .of_ite (fun _ => RoleChange.pairTo _ _) fun _ =>
    .of_ite (fun _ => (RoleChange.pairTo _ _).trans (purgeBarred_frame _)) fun _ => RoleChange.takeA s) fun _ =>
    .of_ite (fun _ => h1.trans h2) fun _ => .of_ite (fun _ => RoleChange.setReg s (by simp) 1) fun _ => .refl _
theorem partnerLoss_heartbeat (h : s.heartbeat = true) : s.partnerLoss = s := if_pos h
/-- The states in which a lost partner matters to a member of the pair. -/
theorem partnerLoss_member (h : s.heartbeat = false) (hst : s.reg Reg.pairState = 3 ∨ s.reg Reg.pairState = 5) : s.partnerLoss =
    if s.reg Reg.pairRole = 0 then s.pairTo (if s.reg Reg.pairPartnerAuth == 1 then 5 else 1)
    else if s.reg Reg.pairPartnerAuth == 1 then (s.pairTo 5).purgeBarred else s.takeA := by
  refine (if_neg (show ¬s.heartbeat = true by rw [h]; decide)).trans (if_pos ?_)
  unfold State.nat
  omega
theorem partnerLoss_A (h : s.heartbeat = false) (hst : s.reg Reg.pairState = 3 ∨ s.reg Reg.pairState = 5) (hr : s.reg Reg.pairRole = 0) :
    s.partnerLoss.reg Reg.pairRole = 0 ∧ s.partnerLoss.reg Reg.pairState = if s.reg Reg.pairPartnerAuth = 1 then 5 else 1 := by
  rw [partnerLoss_member h hst, if_pos hr]
  refine ⟨((pairTo_frame _ _).regs _ (by simp)).trans hr, ?_⟩
  by_cases ha : s.reg Reg.pairPartnerAuth = 1
  · rw [if_pos ha, ha]
    exact pairTo_state (by decide)
  · rw [if_neg ha, if_neg (by simpa using ha)]
    exact pairTo_state (by decide)
theorem partnerLoss_split (h : s.heartbeat = false) (hst : s.reg Reg.pairState = 3 ∨ s.reg Reg.pairState = 5) (hr : s.reg Reg.pairRole ≠ 0)
    (ha : s.reg Reg.pairPartnerAuth = 1) : s.partnerLoss.reg Reg.pairState = 5 ∧ s.partnerLoss.reg Reg.pairRole = s.reg Reg.pairRole := by
  rw [partnerLoss_member h hst, if_neg hr, if_pos (by rw [ha]; decide)]
  exact ⟨(reg_of_regs rfl _).trans (pairTo_state (by decide)), (reg_of_regs rfl _).trans ((pairTo_frame _ _).regs _ (by simp))⟩
theorem partnerLoss_alone (h : s.heartbeat = false) (hst : s.reg Reg.pairState = 3 ∨ s.reg Reg.pairState = 5) (hr : s.reg Reg.pairRole ≠ 0)
    (ha : s.reg Reg.pairPartnerAuth ≠ 1) : s.partnerLoss = s.takeA := by
  rw [partnerLoss_member h hst, if_neg hr, if_neg (by simpa using ha)]

/-! The partner's tick frame. -/

/-- A state that keeps the partner's frame and its unique ID. -/
@[reducible] def KeepsPartner (s t : State) : Prop := Only (fun s => s.pair.partner) (· ≠ Reg.pairPartnerUid) s t
theorem keepsPartner_of_role {t : State} (h : RoleChange s t) : KeepsPartner s t :=
  ⟨congrArg Prod.fst h.view, (h.mono (Q := (· ≠ Reg.pairPartnerUid)) (by simp)).regs⟩
theorem keepsPartner_modPair {f : PairSt → PairSt} (s : State) (h : (f s.pair).partner = s.pair.partner) : KeepsPartner s (s.modPair f) := .of_regs h rfl
theorem heedRole_keeps (s : State) (was : Option TickFrame) (f : TickFrame) : KeepsPartner s (s.heedRole was f) := by
  have hs (graft : Bool) : KeepsPartner s (s.toStandby 1 graft) := keepsPartner_of_role (RoleChange.toStandby s 1 graft)
  have hend (code : Nat) : KeepsPartner s (s.graftEnd code) := keepsPartner_of_role (RoleChange.graftEnd s code)
  have hnew : KeepsPartner s (((s.setRegs [(Reg.graftPhase, 1), (Reg.graftResult, 2), (Reg.graftJoinTick, 0)]).modPair fun x =>
      { x with target := false, graftFrom := s.tick, phaseFrom := s.tick, settled := 0, unsettled := [] }).pairTo 2) := by
    have h1 : RoleChange s (s.setRegs [(Reg.graftPhase, 1), (Reg.graftResult, 2), (Reg.graftJoinTick, 0)]) := RoleChange.setRegs s (by simp)
    generalize s.setRegs [(Reg.graftPhase, 1), (Reg.graftResult, 2), (Reg.graftJoinTick, 0)] = u at h1 ⊢
    have h2 : RoleChange u (u.modPair fun x => { x with
      target := false, graftFrom := s.tick, phaseFrom := s.tick, settled := 0, unsettled := [] }) := .of_regs rfl rfl
    exact keepsPartner_of_role ((h1.trans h2).trans (RoleChange.pairTo _ 2))
  have hbegin : KeepsPartner s s.graftBegin := keepsPartner_of_role (RoleChange.graftBegin s)
  have htake : KeepsPartner s s.takeA := keepsPartner_of_role (RoleChange.takeA s)
  have hpair : KeepsPartner s (s.pairTo 1) := keepsPartner_of_role (RoleChange.pairTo s 1)
  unfold State.heedRole
  extract_lets st role seatA own keeps
  refine .of_ite (fun _ => .of_ite (fun _ => .refl _) fun _ => hs true) fun _ => ?_
  refine .of_ite (fun _ => .of_ite (fun _ => hbegin) fun _ => .of_ite (fun _ => htake) fun _ => .refl _) fun _ => ?_
  refine .of_ite (fun _ => hs true) fun _ => .of_ite (fun _ => hs true) fun _ => ?_
  refine .of_ite (fun _ => keepsPartner_modPair s rfl) fun _ => .of_ite (fun _ => hpair) fun _ => ?_
  refine .of_ite (fun _ => hend _) fun _ => .of_ite (fun _ => .refl _) fun _ => .of_ite (fun _ => hnew) fun _ => ?_
  exact .of_ite (fun _ => hend _) fun _ => .of_ite (fun _ => keepsPartner_modPair s rfl) fun _ => .refl _
theorem heedSwaps_keeps (s : State) (f : TickFrame) : KeepsPartner s (s.heedSwaps f) := by
  unfold State.heedSwaps
  refine .of_ite (fun _ => .refl _) fun _ => .of_overN 16 (fun s p _ => ?_) s
  have hd : KeepsPartner s (s.dropImage p 0x1F) := by
    refine ⟨rfl, fun r hr => ?_⟩
    have hr' : r = Reg.pairPartnerUid := Decidable.not_not.mp hr
    exact dropImage_regs s p 0x1F r (by rw [hr']; simp; omega)
  extract_lets st w t
  exact .of_ite (fun _ => .of_regs rfl rfl) fun _ => .of_ite (fun _ => hd) fun _ => .refl _
theorem decide85_keeps (s : State) (key m case_ : Nat) (h : Nat × Bool) : KeepsPartner s (s.decide85 key m case_ h) := by
  have hw (u : State) : KeepsPartner u (u.withhold key) := .of_regs rfl rfl
  unfold State.decide85
  extract_lets a s1
  have h1 : KeepsPartner s s1 := by
    have h0 : Reports s ((s.bump Reg.divCount).setRegs [(Reg.divLastTick, (s.tick : Int)), (Reg.divLastPlots, (m : Int)), (Reg.divLastCase, (case_ : Int))])
      [Reg.divCount, Reg.divLastTick, Reg.divLastPlots, Reg.divLastCase] := .trans (.bump (q := Reg.divCount) (List.mem_cons_self ..)) (.setRegs (by simp))
    exact (Only.of_reports h0 (fun _ => rfl) (by simp)).trans (.of_regs rfl rfl)
  clear_value s1
  refine .of_ite (fun _ => h1) fun _ => Only.trans h1 ?_
  split
  · exact (Only.when a (f := fun s => s.withhold key) (hw s1)).trans (keepsPartner_modPair _ rfl)
  · exact (Only.when (!a) (f := fun s => s.withhold key) (hw s1)).trans (keepsPartner_modPair _ rfl)
  · exact .of_ite (fun _ => keepsPartner_of_role (RoleChange.pairTo _ _)) fun _ =>
      (hw s1).trans (keepsPartner_of_role (RoleChange.toStandby _ _ _))
theorem heedEdges_keeps (s : State) (f : TickFrame) : KeepsPartner s (s.heedEdges f) := by
  unfold State.heedEdges
  split
  · refine .of_ite (fun _ => .refl _) fun _ => .of_ite (fun _ => keepsPartner_modPair s rfl) fun _ => .of_ite (fun _ => .refl _) fun _ => ?_
    have h : KeepsPartner s (s.bump Reg.edgeDivCount) := Only.setReg (by simp) _ rfl
    exact h.trans (decide85_keeps _ _ _ _ _)
  · exact .refl _
theorem heedProofs_keeps (s : State) (f : TickFrame) : KeepsPartner s (s.heedProofs f) := by
  unfold State.heedProofs
  split
  · refine .of_ite (fun _ => .refl _) fun _ => ?_
    have h : KeepsPartner s (s.bump Reg.proofDiv) := Only.setReg (by simp) _ rfl
    exact h.trans (.of_regs rfl rfl)
  · exact .refl _

/-! Waiting for a partner, handing over, cells and links. -/

theorem exec_pairWaitExpire {k : Nat} (hk : s.pair.waitFrom = some k) : exec .pairWaitExpire s =
    if s.pair.partner.isSome ∨ s.tick < k + s.nat Reg.pairWait ∨ s.reg Reg.pairState ≠ 4 then .next s
    else if s.reg Reg.pairPartnerAuth = 0 then .next s.takeA else .next (s.setReg Reg.pairPartnerLost 1) := by
  show execPairWaitExpire s = _
  unfold execPairWaitExpire
  rw [hk]
theorem exec_pairWaitExpire_none (hk : s.pair.waitFrom = none) : exec .pairWaitExpire s = .next s := by
  show execPairWaitExpire s = _
  unfold execPairWaitExpire
  rw [hk]
theorem pairWaitExpire_due {k : Nat} (hk : s.pair.waitFrom = some k) (hp : s.pair.partner = none) (ht : k + s.nat Reg.pairWait ≤ s.tick)
    (hst : s.reg Reg.pairState = 4) : exec .pairWaitExpire s =
    if s.reg Reg.pairPartnerAuth = 0 then .next s.takeA else .next (s.setReg Reg.pairPartnerLost 1) := by
  refine (exec_pairWaitExpire hk).trans (if_neg ?_)
  rw [hp, hst]
  simp only [Option.isSome_none, Bool.false_eq_true, ne_eq, not_true_eq_false, false_or, or_false]
  exact Nat.not_lt.mpr ht

/-- The instant of a hand-over that has not come. -/
theorem exec_handover_none (h : s.pair.handAt = none) : exec .handover s = .next s := by
  show execHandover s = _
  unfold execHandover
  rw [h]
theorem exec_handover_early {k : Nat} {half : Bool} (h : s.pair.handAt = some (k, half))
    (ht : s.tick < k ∨ (s.tick = k ∧ half = true ∧ s.cycle < 96000)) : exec .handover s = .next s := by
  show execHandover s = _
  unfold execHandover
  rw [h]
  exact if_pos ht
/-- The state in which the roles are exchanged. -/
def State.handing (s : State) : State := (s.modPair fun x => { x with handAt := none, focus := none }).bump Reg.handoverCount
/-- Does role A leave the pair with its hand-over (R260). -/
def State.leavesNow (s : State) : Bool := match s.pair.leaveAt with | some l => decide (l ≤ s.tick) | none => false
theorem exec_handover {k : Nat} {half : Bool} (h : s.pair.handAt = some (k, half))
    (ht : ¬(s.tick < k ∨ (s.tick = k ∧ half = true ∧ s.cycle < 96000))) : exec .handover s =
    if s.reg Reg.pairRole = 0 then .next ((((s.handing.toStandby (if s.leavesNow then 255 else 1) (!s.leavesNow)).modPair fun x =>
      { x with leaveAt := if s.leavesNow then none else x.leaveAt })).logEvent 0x0603 1 16 1 (s.nat Reg.pairAuthSince))
    else .next (s.handing.takeA.logEvent 0x0603 1 16 0 (s.handing.takeA.nat Reg.pairAuthSince)) := by
  show execHandover s = _
  unfold execHandover
  rw [h]
  exact if_neg ht
theorem handing_count (s : State) : s.handing.reg Reg.handoverCount = (s.reg Reg.handoverCount + 1) % 4294967296 ∧ s.handing.tick = s.tick ∧
    s.handing.pair.leaveAt = s.pair.leaveAt := ⟨reg_setReg_same _ _ _, rfl, rfl⟩
theorem handover_stands {k : Nat} {half : Bool} (h : s.pair.handAt = some (k, half))
    (ht : ¬(s.tick < k ∨ (s.tick = k ∧ half = true ∧ s.cycle < 96000))) (leaves : Bool) (hl : leaves = s.leavesNow) (hr : s.reg Reg.pairRole = 0) :
    Runs .handover s fun t => t.reg Reg.pairRole = (if leaves then 255 else 1) ∧ t.reg Reg.pairState = 4 ∧ t.reg Reg.pairAuth = 0 ∧
      t.pair.handAt = none ∧ t.pair.leaveAt = (if leaves then none else s.pair.leaveAt) ∧
      t.reg Reg.handoverCount = (s.reg Reg.handoverCount + 1) % 4294967296 ∧ SameMem s t := by
  have hexec := (exec_handover h ht).trans (if_pos hr)
  rw [← hl] at hexec
  obtain ⟨hc, -, hleave⟩ := handing_count s
  generalize s.handing = u at hexec hc hleave
  obtain ⟨hst, hrole, hauth⟩ := toStandby_regs u (if leaves then 255 else 1) (!leaves)
  obtain ⟨hhand, hkeep⟩ := toStandby_handAt u (if leaves then 255 else 1) (!leaves)
  have hcount := (toStandby_frame u (if leaves then 255 else 1) (!leaves)).regs Reg.handoverCount (by simp)
  generalize u.toStandby (if leaves then 255 else 1) (!leaves) = v at hexec hst hrole hauth hhand hkeep hcount
  refine runs_of_exec rfl hexec fun hm => ⟨hrole, hst, hauth, hhand, ?_, hcount.trans hc, hm⟩
  rw [← hleave, ← hkeep]
  rfl
theorem handover_takes {k : Nat} {half : Bool} (h : s.pair.handAt = some (k, half))
    (ht : ¬(s.tick < k ∨ (s.tick = k ∧ half = true ∧ s.cycle < 96000))) (hr : s.reg Reg.pairRole ≠ 0) :
    Runs .handover s fun t => t.reg Reg.pairRole = 0 ∧ t.reg Reg.pairState = 1 ∧ t.reg Reg.pairAuth = 1 ∧ t.reg Reg.pairAuthSince = s.tick ∧
      t.pair.handAt = none ∧ t.reg Reg.handoverCount = (s.reg Reg.handoverCount + 1) % 4294967296 ∧ SameMem s t := by
  have hexec := (exec_handover h ht).trans (if_neg hr)
  obtain ⟨hc, htick, -⟩ := handing_count s
  generalize s.handing = u at hexec hc htick
  obtain ⟨h1, h2, h3, h4, -, h6⟩ := takeA_runs u
  have hcount := (takeA_frame u).regs Reg.handoverCount (by simp)
  generalize u.takeA = v at hexec h1 h2 h3 h4 h6 hcount
  exact runs_of_exec rfl hexec fun hm => ⟨h1, h3, h2, h4.trans (by rw [htick]), h6, hcount.trans hc, hm⟩

theorem exec_tick_frame (l : Fin 2) (f : TickFrame) (h : s.reg (Reg.weltState l) = 2) (hp : s.paired = true)
    (hs : ∀ g, s.pair.partner = some g → g.seq ≠ f.seq ∨ g.tick ≠ f.tick) :
    ∃ (u : State) (was : Option TickFrame), exec (.tick l f) s = .next ((((u.heedRole was f).heedSwaps f).heedEdges f).heedProofs f) ∧
      u.pair.partner = some f ∧ u.reg Reg.pairPartnerUid = f.uid := by
  refine ⟨_, _, if_neg ?_, rfl, reg_setReg_same _ _ _⟩
  rw [h, hp]
  cases hpart : s.pair.partner with
  | none => simp
  | some g =>
    have := hs g hpart
    simp
    omega
theorem tick_accepted (l : Fin 2) (f : TickFrame) (h : s.reg (Reg.weltState l) = 2) (hp : s.paired = true)
    (hs : ∀ g, s.pair.partner = some g → g.seq ≠ f.seq ∨ g.tick ≠ f.tick) :
    Runs (.tick l f) s fun t => t.pair.partner = some f ∧ t.reg Reg.pairPartnerUid = f.uid := by
  obtain ⟨u, was, hexec, hu, hr⟩ := exec_tick_frame l f h hp hs
  have hk : KeepsPartner u ((((u.heedRole was f).heedSwaps f).heedEdges f).heedProofs f) :=
    (((heedRole_keeps u was f).trans (heedSwaps_keeps _ f)).trans (heedEdges_keeps _ f)).trans (heedProofs_keeps _ f)
  generalize (((u.heedRole was f).heedSwaps f).heedEdges f).heedProofs f = t at hexec hk
  exact ⟨_, hexec, hk.view.trans hu, (hk.regs _ (fun h => h rfl)).trans hr⟩
theorem exec_tick_ignored (l : Fin 2) (f : TickFrame) (h : s.reg (Reg.weltState l) ≠ 2 ∨ s.paired = false ∨
    ∃ g, s.pair.partner = some g ∧ g.seq = f.seq ∧ g.tick = f.tick) : exec (.tick l f) s = .next s := by
  refine if_pos ?_
  rcases h with h | h | ⟨g, hg, h1, h2⟩
  · exact .inl h
  · exact .inr (.inr (by rw [h]; decide))
  · refine .inr (.inl ?_)
    rw [hg]
    simp [h1, h2]
theorem heartbeat_of_up (l : Fin 2) (h : s.reg (Reg.weltState l) = 2) : s.heartbeat = true := by
  unfold State.heartbeat
  rw [Bool.or_eq_true, beq_iff_eq, beq_iff_eq]
  match l with
  | 0 => exact .inl h
  | 1 => exact .inr h
theorem heartbeat_down (l : Fin 2) (h : s.reg (Reg.weltState l) ≠ 2) (ho : ∀ m : Fin 2, m ≠ l → s.reg (Reg.weltState m) ≠ 2) : s.heartbeat = false := by
  have h (m : Fin 2) : s.reg (Reg.weltState m) ≠ 2 := if hm : m = l then hm ▸ h else ho m hm
  have h0 := h 0
  have h1 := h 1
  unfold State.heartbeat
  rw [Bool.or_eq_false_iff, beq_eq_false_iff_ne, beq_eq_false_iff_ne]
  exact ⟨h0, h1⟩
theorem exec_beat (l : Fin 2) (k : Nat) (s : State) : exec (.beat l k) s =
    if s.reg (Reg.weltState l) = 2 ∧ k ≤ s.tick + 1 then .next s.heard else .next s := rfl
theorem heard_up (h : s.heartbeat = true) : s.heard = s.modPair fun x => { x with cellAt := (s.tick, s.cycle) } := by
  unfold State.heard
  rw [h]
  rfl
theorem weltLinkUp_runs (l : Fin 2) (ps : Nat) (h : s.paired = true) : Runs (.weltLinkUp l ps) s fun t =>
    t.reg (Reg.weltLatency l) = ps ∧ t.reg (Reg.weltState l) = (if ps ≤ 750000 then 2 else 3) ∧
    SameRegs s t [Reg.weltLatency l, Reg.weltState l] ∧ SameMem s t := by
  have hexec : exec (.weltLinkUp l ps) s = .next ((s.setRegs [(Reg.weltLatency l, ps), (Reg.weltState l, if ps > 750000 then 3 else 2)]).when
      (s.setRegs [(Reg.weltLatency l, ps), (Reg.weltState l, if ps > 750000 then 3 else 2)]).heartbeat fun s => s.modPair fun x =>
        { x with lostAt := none }) := if_neg (by rw [h]; decide)
  have h1 : (s.setRegs [(Reg.weltLatency l, (ps : Int)), (Reg.weltState l, if ps > 750000 then 3 else 2)]).reg (Reg.weltLatency l) = ps :=
    (reg_setReg_other _ _ _ _ (by simp)).trans (reg_setReg_same _ _ _)
  have h2 : (s.setRegs [(Reg.weltLatency l, (ps : Int)), (Reg.weltState l, if ps > 750000 then 3 else 2)]).reg (Reg.weltState l) =
    if ps > 750000 then 3 else 2 := reg_setReg_same _ _ _
  have h3 : SameRegs s (s.setRegs [(Reg.weltLatency l, (ps : Int)), (Reg.weltState l, if ps > 750000 then 3 else 2)]) [Reg.weltLatency l, Reg.weltState l] :=
    (Reports.setRegs (by simp)).2
  generalize s.setRegs [(Reg.weltLatency l, (ps : Int)), (Reg.weltState l, if ps > 750000 then 3 else 2)] = u at hexec h1 h2 h3
  have hw : (u.when u.heartbeat fun s => s.modPair fun x => { x with lostAt := none }).regs = u.regs := when_keeps (g := State.regs) rfl
  refine runs_of_exec rfl hexec fun hm => ⟨(reg_of_regs hw _).trans h1, (reg_of_regs hw _).trans (h2.trans ?_), h3.trans (sameRegs_of_regs hw _), hm⟩
  split <;> split <;> omega

/-! A link that goes down. -/

/-- The link's registers as it goes down. -/
def State.linkOff (s : State) (l : Nat) : State :=
  (s.setReg (Reg.weltState l) 0).when (s.reg (Reg.weltState l) == 2) fun s => s.bump (Reg.weltDownCount l)
theorem exec_weltLinkDown_off (l : Fin 2) (h : s.reg (Reg.weltState l) = 0) : exec (.weltLinkDown l) s = .next s := congrArg Host.Outcome.next (if_pos h)
theorem exec_weltLinkDown (l : Fin 2) (h : s.reg (Reg.weltState l) ≠ 0) : exec (.weltLinkDown l) s =
    .next (if (s.reg (Reg.weltState l) == 2) = true ∧ (!(s.linkOff l).heartbeat) = true then
      ((s.linkOff l).modPair fun x => { x with lostAt := some s.pair.cellAt, partner := none }).partnerLoss else s.linkOff l) :=
  congrArg Host.Outcome.next (if_neg h)
theorem linkOff_other (l : Fin 2) (h : s.reg (Reg.weltState l) ≠ 2) : s.linkOff l = s.setReg (Reg.weltState l) 0 := by
  unfold State.linkOff
  rw [beq_eq_false_iff_ne.mpr h]
  rfl
theorem linkOff_up (l : Fin 2) (h : s.reg (Reg.weltState l) = 2) : (s.linkOff l).reg (Reg.weltState l) = 0 ∧
    (s.linkOff l).reg (Reg.weltDownCount l) = (s.reg (Reg.weltDownCount l) + 1) % 4294967296 ∧
    SameRegs s (s.linkOff l) [Reg.weltState l, Reg.weltDownCount l] ∧ (s.linkOff l).units = s.units := by
  have he : s.linkOff l = (s.setReg (Reg.weltState l) 0).bump (Reg.weltDownCount l) := by
    unfold State.linkOff
    rw [h]
    rfl
  rw [he]
  refine ⟨(reg_bump_other _ _ _ (by simp)).trans (reg_setReg_same _ _ _), ?_, .trans (.setReg (by simp) _) (.setReg (by simp) _), rfl⟩
  refine (reg_setReg_same _ _ _).trans ?_
  rw [reg_setReg_other _ _ _ _ (by simp)]
  rfl
theorem weltLinkDown_one (l : Fin 2) (h : s.reg (Reg.weltState l) = 2) (ho : ∀ m : Fin 2, m ≠ l → s.reg (Reg.weltState m) = 2) :
    exec (.weltLinkDown l) s = .next (s.linkOff l) := by
  obtain ⟨-, -, hr, -⟩ := linkOff_up l h
  refine (exec_weltLinkDown l (by rw [h]; decide)).trans (congrArg _ (if_neg ?_))
  have hm : l + 1 ≠ l := by
    match l with
    | 0 => decide
    | 1 => decide
  have hup : (s.linkOff l).heartbeat = true := heartbeat_of_up (l + 1) ((hr _ (by simp; exact fun he => hm (Fin.ext he))).trans (ho _ hm))
  rw [hup]
  simp
/-- The last link that goes down, before the chip acts on its lost partner. -/
theorem weltLinkDown_last (l : Fin 2) (h : s.reg (Reg.weltState l) = 2) (ho : ∀ m : Fin 2, m ≠ l → s.reg (Reg.weltState m) ≠ 2) :
    ∃ u : State, exec (.weltLinkDown l) s = .next u.partnerLoss ∧ u.heartbeat = false ∧ u.reg (Reg.weltState l) = 0 ∧ u.pair.partner = none ∧
      u.pair.lostAt = some s.pair.cellAt ∧ u.reg (Reg.weltDownCount l) = (s.reg (Reg.weltDownCount l) + 1) % 4294967296 ∧
      SameRegs s u [Reg.weltState l, Reg.weltDownCount l] := by
  obtain ⟨hs, hc, hr, -⟩ := linkOff_up l h
  have hdown : (s.linkOff l).heartbeat = false := heartbeat_down l (by rw [hs]; decide) fun m hm =>
    (hr (Reg.weltState m) (by simpa [Fin.ext_iff] using hm)) ▸ ho m hm
  refine ⟨_, (exec_weltLinkDown l (by rw [h]; decide)).trans (congrArg _ (if_pos ⟨by rw [h]; decide, by rw [hdown]; rfl⟩)), ?_, ?_, rfl, rfl, ?_, ?_⟩
  · exact hdown
  · exact (reg_of_regs (modPair_regs _ _) _).trans hs
  · exact (reg_of_regs (modPair_regs _ _) _).trans hc
  · exact hr.trans (sameRegs_of_regs (modPair_regs _ _) _)
theorem weltLinkDown_lost (l : Fin 2) (h : s.reg (Reg.weltState l) = 2) (ho : ∀ m : Fin 2, m ≠ l → s.reg (Reg.weltState m) ≠ 2) :
    Runs (.weltLinkDown l) s (fun t => t.reg (Reg.weltState l) = 0 ∧ t.pair.partner = none ∧ t.pair.lostAt = some s.pair.cellAt ∧
      t.reg (Reg.weltDownCount l) = (s.reg (Reg.weltDownCount l) + 1) % 4294967296 ∧ SameMem s t) ∧
    (s.reg Reg.pairState = 3 ∨ s.reg Reg.pairState = 5 →
      (s.reg Reg.pairRole = 0 → Runs (.weltLinkDown l) s fun t => t.reg Reg.pairRole = 0 ∧
        t.reg Reg.pairState = if s.reg Reg.pairPartnerAuth = 1 then 5 else 1) ∧
      (s.reg Reg.pairRole ≠ 0 → s.reg Reg.pairPartnerAuth = 1 → Runs (.weltLinkDown l) s fun t =>
        t.reg Reg.pairState = 5 ∧ t.reg Reg.pairRole = s.reg Reg.pairRole) ∧
      (s.reg Reg.pairRole ≠ 0 → s.reg Reg.pairPartnerAuth ≠ 1 → Runs (.weltLinkDown l) s fun t =>
        t.reg Reg.pairState = 1 ∧ t.reg Reg.pairRole = 0 ∧ t.reg Reg.pairAuth = 1)) := by
  obtain ⟨u, hexec, hb, h1, h2, h3, h4, hr⟩ := weltLinkDown_last l h ho
  have hst : u.reg Reg.pairState = s.reg Reg.pairState := hr _ (by simp)
  have hrole : u.reg Reg.pairRole = s.reg Reg.pairRole := hr _ (by simp)
  have hauth : u.reg Reg.pairPartnerAuth = s.reg Reg.pairPartnerAuth := hr _ (by simp)
  rw [← hst, ← hrole, ← hauth]
  refine ⟨runs_of_exec rfl hexec fun hm => ?_, fun hmem => ⟨fun ha => ?_, fun ha hp => ?_, fun ha hp => ?_⟩⟩
  · have hf := RoleChange.partnerLoss u
    exact ⟨(hf.regs _ (by simp)).trans h1, (congrArg (·.1) hf.view :).trans h2, (congrArg (·.2.1) hf.view :).trans h3, (hf.regs _ (by simp)).trans h4, hm⟩
  · exact runs_of_exec rfl hexec fun _ => partnerLoss_A hb hmem ha
  · exact runs_of_exec rfl hexec fun _ => partnerLoss_split hb hmem ha hp
  · rw [partnerLoss_alone hb hmem ha hp] at hexec
    obtain ⟨h1, h2, h3, -⟩ := takeA_runs u
    exact runs_of_exec rfl hexec fun _ => ⟨h3, h1, h2⟩

/-! The partner's AUTH pin and a role that the host takes. -/

/-- The registers after a change of the partner's AUTH pin. -/
def State.authHeard (s : State) (level : Bool) : State :=
  (s.setReg Reg.pairPartnerAuth (if level then 1 else 0)).when
    (level && !(s.reg Reg.pairPartnerAuth == 1) && s.reg Reg.pairState == 3 && s.reg Reg.pairRole == 0 && s.heartbeat) fun s => s.bump Reg.authConflict
theorem exec_partnerAuthChange (level : Bool) (s : State) : exec (.partnerAuthChange level) s =
    if s.reg Reg.pairState = 4 ∧ s.pair.waitFrom.isSome ∧ s.reg Reg.pairPartnerLost = 1 ∧ !level ∧ s.pair.partner.isNone then
      .next (s.authHeard level).takeA else .next (s.authHeard level).partnerLoss := rfl
theorem authHeard_runs (s : State) (level : Bool) : (s.authHeard level).reg Reg.pairPartnerAuth = (if level then 1 else 0) ∧
    (s.authHeard level).reg Reg.authConflict = (if level = true ∧ s.reg Reg.pairPartnerAuth ≠ 1 ∧ s.reg Reg.pairState = 3 ∧ s.reg Reg.pairRole = 0 ∧
      s.heartbeat = true then (s.reg Reg.authConflict + 1) % 4294967296 else s.reg Reg.authConflict) ∧
    SameRegs s (s.authHeard level) [Reg.pairPartnerAuth, Reg.authConflict] ∧ (s.authHeard level).units = s.units := by
  have h1 : (s.setReg Reg.pairPartnerAuth (if level then 1 else 0)).reg Reg.pairPartnerAuth = (if level then 1 else 0) := reg_setReg_same _ _ _
  have h2 : (s.setReg Reg.pairPartnerAuth (if level then 1 else 0)).reg Reg.authConflict = s.reg Reg.authConflict := reg_setReg_other _ _ _ _ (by simp)
  have h3 : SameRegs s (s.setReg Reg.pairPartnerAuth (if level then 1 else 0)) [Reg.pairPartnerAuth, Reg.authConflict] := .setReg (by simp) _
  have h4 : (s.setReg Reg.pairPartnerAuth (if level then 1 else 0)).units = s.units := rfl
  unfold State.authHeard
  generalize s.setReg Reg.pairPartnerAuth (if level then 1 else 0) = u at h1 h2 h3 h4 ⊢
  have hc : (level && !(s.reg Reg.pairPartnerAuth == 1) && s.reg Reg.pairState == 3 && s.reg Reg.pairRole == 0 && s.heartbeat) = true ↔
      level = true ∧ s.reg Reg.pairPartnerAuth ≠ 1 ∧ s.reg Reg.pairState = 3 ∧ s.reg Reg.pairRole = 0 ∧ s.heartbeat = true := by
    simp [and_assoc]
  rw [← h2]
  by_cases h : (level && !(s.reg Reg.pairPartnerAuth == 1) && s.reg Reg.pairState == 3 && s.reg Reg.pairRole == 0 && s.heartbeat) = true
  · rw [if_pos (hc.mp h), h]
    exact ⟨(reg_bump_other _ _ _ (by simp)).trans h1, reg_setReg_same _ _ _, h3.trans (.setReg (by simp) _), h4⟩
  · rw [if_neg fun hx => h (hc.mpr hx), Bool.eq_false_iff.mpr h]
    exact ⟨h1, rfl, h3, h4⟩
theorem authHeard_heartbeat (s : State) (level : Bool) : (s.authHeard level).heartbeat = s.heartbeat := by
  obtain ⟨-, -, hr, -⟩ := authHeard_runs s level
  unfold State.heartbeat
  rw [hr _ (by simp), hr _ (by simp)]
theorem partnerAuthChange_runs (level : Bool) (s : State) : Runs (.partnerAuthChange level) s fun t =>
    t.reg Reg.pairPartnerAuth = (if level then 1 else 0) ∧ SameMem s t := by
  obtain ⟨ha, -, -, -⟩ := authHeard_runs s level
  have hexec := exec_partnerAuthChange level s
  generalize s.authHeard level = u at hexec ha
  split at hexec
  · exact runs_of_exec rfl hexec fun hm => ⟨((RoleChange.takeA u).regs _ (by simp)).trans ha, hm⟩
  · exact runs_of_exec rfl hexec fun hm => ⟨((RoleChange.partnerLoss u).regs _ (by simp)).trans ha, hm⟩
theorem partnerAuthChange_live (level : Bool) (hb : s.heartbeat = true) (h : s.reg Reg.pairState ≠ 4 ∨ s.pair.waitFrom = none ∨
    s.reg Reg.pairPartnerLost ≠ 1 ∨ level = true ∨ s.pair.partner ≠ none) : exec (.partnerAuthChange level) s = .next (s.authHeard level) := by
  refine ((exec_partnerAuthChange level s).trans (if_neg ?_)).trans (congrArg _ (partnerLoss_heartbeat ((authHeard_heartbeat s level).trans hb)))
  rintro ⟨h1, h2, h3, h4, h5⟩
  rcases h with h | h | h | h | h
  · exact h h1
  · rw [h] at h2
    exact absurd h2 (by decide)
  · exact h h3
  · rw [h] at h4
    exact absurd h4 (by decide)
  · exact h (Option.isNone_iff_eq_none.mp h5)
theorem partnerAuthChange_apart (level : Bool) (hb : s.heartbeat = false) (hst : s.reg Reg.pairState = 3 ∨ s.reg Reg.pairState = 5) :
    Runs (.partnerAuthChange level) s fun t => t.reg Reg.pairState = if level then 5 else 1 := by
  obtain ⟨ha, -, hr, -⟩ := authHeard_runs s level
  have hb' := (authHeard_heartbeat s level).trans hb
  have hexec := (exec_partnerAuthChange level s).trans (if_neg (by omega))
  have hst' : (s.authHeard level).reg Reg.pairState = 3 ∨ (s.authHeard level).reg Reg.pairState = 5 := by
    rw [hr _ (by simp)]
    exact hst
  generalize s.authHeard level = u at hexec ha hb' hst'
  refine runs_of_exec rfl hexec fun _ => ?_
  have hlevel : (if level then (5 : Int) else 1) = if u.reg Reg.pairPartnerAuth = 1 then 5 else 1 := by
    rw [ha]
    cases level <;> rfl
  rw [hlevel]
  by_cases hrole : u.reg Reg.pairRole = 0
  · exact (partnerLoss_A hb' hst' hrole).2
  · by_cases hp : u.reg Reg.pairPartnerAuth = 1
    · rw [if_pos hp]
      exact (partnerLoss_split hb' hst' hrole hp).1
    · rw [if_neg hp, partnerLoss_alone hb' hst' hrole hp]
      exact (takeA_runs u).2.2.1

theorem exec_pairTake (s : State) : exec .pairTake s =
    if s.paired ∧ (s.nat Reg.pairState = 4 ∨ (s.nat Reg.pairState = 2 ∧ s.pair.target)) ∧ !s.heartbeat ∧ s.reg Reg.pairPartnerAuth = 0 then
      .next (((s.graftEnd 0x17).modPair fun x => { x with takeAt := some (s.tick + 2) }).reply 0)
    else .next (s.reply 0x14) := rfl
theorem paired_of_state {n : Int} (h : s.reg Reg.pairState = n) (hn : n ≠ 0) : s.paired = true := by
  unfold State.paired
  rw [h]
  exact bne_iff_ne.mpr hn
theorem pairTake_refused (h : s.heartbeat = true ∨ s.reg Reg.pairPartnerAuth ≠ 0 ∨
    (s.reg Reg.pairState ≠ 4 ∧ (s.reg Reg.pairState ≠ 2 ∨ s.pair.target = false))) : Answers .pairTake s 0x14 := by
  refine (exec_pairTake s).trans (if_neg ?_)
  rintro ⟨-, hst, hb, ha⟩
  rcases h with h | h | ⟨h4, h2⟩
  · rw [h] at hb
    exact absurd hb (by decide)
  · exact h ha
  · rcases hst with hst | ⟨hst, ht⟩
    · unfold State.nat at hst
      omega
    · rcases h2 with h2 | h2
      · unfold State.nat at hst
        omega
      · rw [h2] at ht
        exact absurd ht (by decide)
theorem exec_pairTakeApply {k : Nat} (h : s.pair.takeAt = some k) : exec .pairTakeApply s =
    if s.tick < k then .next s else .next ((s.modPair fun x => { x with takeAt := none }).takeA) := by
  show execPairTakeApply s = _
  unfold execPairTakeApply
  rw [h]
theorem exec_pairTakeApply_none (h : s.pair.takeAt = none) : exec .pairTakeApply s = .next s := by
  show execPairTakeApply s = _
  unfold execPairTakeApply
  rw [h]
end

/-- Settles O48: each event of the two links, the partner's frame and its AUTH pin, and the roles that they bring. -/
theorem pairRolesAndLinks : Obligations.PairRolesAndLinks := by
  unfold Obligations.PairRolesAndLinks
  intro l s
  refine ⟨fun k hk => ⟨fun hp ht hst => ⟨fun ha => ?_, fun ha => ?_⟩, fun h => ?_⟩, exec_pairWaitExpire_none, fun k half hh => ⟨exec_handover_early hh, fun ht => ?_⟩,
    exec_handover_none, fun f => ⟨tick_accepted l f, exec_tick_ignored l f⟩, fun k => ⟨fun h1 h2 => ?_, fun h => ?_⟩, fun ps => weltLinkUp_runs l ps,
    fun ps h => if_pos (by rw [h]; rfl), fun h => ⟨fun ho => ?_, weltLinkDown_lost l h⟩, fun h0 h2 => ?_, exec_weltLinkDown_off l,
    fun level => ⟨partnerAuthChange_runs level s, fun hb h => ?_, partnerAuthChange_apart level⟩, fun hb ha => ⟨fun h4 => ?_, fun h2 ht => ?_⟩,
    pairTake_refused, fun k hk => ⟨fun ht => ?_, fun ht => (exec_pairTakeApply hk).trans (if_pos ht)⟩, exec_pairTakeApply_none⟩
  · obtain ⟨h1, h2, h3, h4, h5, -⟩ := takeA_runs s
    exact runs_of_exec rfl ((pairWaitExpire_due hk hp ht hst).trans (if_pos ha)) fun hm => ⟨h1, h2, h3, h4, h5, (takeA_frame s).sameRegs, hm⟩
  · exact runs_of_exec rfl ((pairWaitExpire_due hk hp ht hst).trans (if_neg ha)) fun _ => ⟨reg_setReg_same _ _ _, .setReg (by simp) _, rfl⟩
  · exact (exec_pairWaitExpire hk).trans (if_pos (h.imp_left Option.isSome_iff_ne_none.mpr))
  · have ht' : ¬(s.tick < k ∨ (s.tick = k ∧ half = true ∧ s.cycle < 96000)) := by
      rcases ht with ht | ⟨ht, ht2⟩
      · rintro (h | ⟨h, -⟩)
        · exact absurd h (Nat.lt_asymm ht)
        · exact absurd h (Nat.ne_of_gt ht)
      · rintro (h | ⟨-, hhalf, hc⟩)
        · exact absurd ht (Nat.ne_of_gt h)
        · rcases ht2 with h0 | h0
          · rw [h0] at hhalf
            exact absurd hhalf (by decide)
          · omega
    exact ⟨fun leaves hl hr => handover_stands hh ht' leaves hl hr, handover_takes hh ht'⟩
  · refine runs_of_exec rfl ((exec_beat l k s).trans (if_pos ⟨h1, h2⟩)) ?_
    rw [heard_up (heartbeat_of_up l h1)]
    exact fun hm => ⟨rfl, .refl _ _, hm⟩
  · refine (exec_beat l k s).trans (if_neg ?_)
    rintro ⟨h1, h2⟩
    exact h.elim (fun h => h h1) fun h => absurd h2 (Nat.not_le.mpr h)
  · obtain ⟨h1, h2, h3, h4⟩ := linkOff_up l h
    exact runs_of_exec rfl (weltLinkDown_one l h ho) fun _ => ⟨h1, h2, h3, h4⟩
  · have hexec := (exec_weltLinkDown l h0).trans (congrArg _ (if_neg (by simp [h2])))
    rw [linkOff_other l h2] at hexec
    exact runs_of_exec rfl hexec fun _ => ⟨reg_setReg_same _ _ _, .setReg (by simp) _, rfl⟩
  · obtain ⟨-, h2, h3, h4⟩ := authHeard_runs s level
    refine runs_of_exec rfl (partnerAuthChange_live level hb h) fun _ => ⟨h2.trans ?_, h3, h4⟩
    simp only [hb, and_true]
  · have hexec := (exec_pairTake s).trans (if_pos ⟨paired_of_state h4 (by decide), .inl (congrArg Int.toNat h4), by rw [hb]; rfl, ha⟩)
    rw [graftEnd_idle (by rw [h4]; decide)] at hexec
    exact runs_of_exec rfl hexec fun hm => ⟨rfl, rfl, .refl _ _, hm⟩
  · have hexec := (exec_pairTake s).trans (if_pos ⟨paired_of_state h2 (by decide), .inr ⟨congrArg Int.toNat h2, ht⟩, by rw [hb]; rfl, ha⟩)
    obtain ⟨hg, hst⟩ := graftEnd_fails (code := 0x17) h2 (by decide)
    rw [ht] at hst
    generalize s.graftEnd 0x17 = u at hexec hg hst
    exact runs_of_exec rfl hexec fun hm => ⟨rfl, rfl, hg, hst, hm⟩
  · have hexec := (exec_pairTakeApply hk).trans (if_neg (Nat.not_lt.mpr ht))
    have hu : (s.modPair fun x => { x with takeAt := none }).pair.takeAt = none := rfl
    generalize (s.modPair fun x => { x with takeAt := none }) = u at hexec hu
    obtain ⟨h1, h2, h3, -⟩ := takeA_runs u
    have hf := (takeA_frame u).view
    exact runs_of_exec rfl hexec fun hm => ⟨h1, h3, h2, (congrArg (·.2.2.2) hf :).trans hu, hm⟩
end Sys2Proof.Machine
end

section
/-!
PROOFS. Digests and proofs of a pair (08, R232 to R264).
-/
namespace Sys2Proof.Machine

section
variable {s : State}

/-! Digests (R235 to R239). -/

theorem digest_kept (c : DigestCell) (h : s.heartbeat = true) : Runs (.digest c) s fun t =>
    NTable.get {} t.pair.theirs (if c.full then 1 else 0) = c ∧ t.pair.own = s.pair.own ∧ SameRegs s t [] ∧ SameMem s t := by
  have hexec : exec (.digest c) s = .next (s.heard.modPair fun x => { x with theirs := NTable.put {} x.theirs (if c.full then 1 else 0) c }) :=
    if_neg (by rw [h]; decide)
  rw [heard_up h] at hexec
  exact runs_of_exec rfl hexec fun hm => ⟨NTable.get_put_same _ _ _ _, rfl, .refl _ _, hm⟩

/-- The registers of the latest difference. -/
@[reducible] def divRegs : List Reg := [Reg.divCount, Reg.divLastTick, Reg.divLastPlots, Reg.divLastCase]
/-- The difference as it is counted, before its decision. -/
def State.counted85 (s : State) (m case_ : Nat) : State :=
  (((s.bump Reg.divCount).setRegs [(Reg.divLastTick, s.tick), (Reg.divLastPlots, m), (Reg.divLastCase, case_)])).logEvent 0x0602 2 16 m case_
theorem counted85_regs (s : State) (m case_ : Nat) : (s.counted85 m case_).reg Reg.divCount = (s.reg Reg.divCount + 1) % 4294967296 ∧
    (s.counted85 m case_).reg Reg.divLastTick = s.tick ∧ (s.counted85 m case_).reg Reg.divLastPlots = m ∧
    (s.counted85 m case_).reg Reg.divLastCase = case_ ∧ SameRegs s (s.counted85 m case_) divRegs ∧ (s.counted85 m case_).pair = s.pair := by
  have h0 : (s.bump Reg.divCount).reg Reg.divCount = (s.reg Reg.divCount + 1) % 4294967296 := reg_setReg_same _ _ _
  have hr : SameRegs s (s.bump Reg.divCount) divRegs := .setReg (by simp) _
  have hp : (s.bump Reg.divCount).pair = s.pair := rfl
  unfold State.counted85
  generalize s.bump Reg.divCount = u at h0 hr hp ⊢
  have hset : SameRegs u (u.setRegs [(Reg.divLastTick, (s.tick : Int)), (Reg.divLastPlots, (m : Int)), (Reg.divLastCase, (case_ : Int))])
    [Reg.divLastTick, Reg.divLastPlots, Reg.divLastCase] := (Reports.setRegs (by simp)).2
  refine ⟨?_, ?_, ?_, ?_, ?_, ?_⟩
  · exact (reg_of_regs (logEvent_regs _ _ _ _ _ _) _).trans ((hset _ (by simp)).trans h0)
  · exact (reg_of_regs (logEvent_regs _ _ _ _ _ _) _).trans ((reg_setReg_other _ _ _ _ (by simp)).trans ((reg_setReg_other _ _ _ _ (by simp)).trans
      (reg_setReg_same _ _ _)))
  · exact (reg_of_regs (logEvent_regs _ _ _ _ _ _) _).trans ((reg_setReg_other _ _ _ _ (by simp)).trans (reg_setReg_same _ _ _))
  · exact (reg_of_regs (logEvent_regs _ _ _ _ _ _) _).trans (reg_setReg_same _ _ _)
  · exact (hr.trans (hset.mono (by simp))).trans (sameRegs_of_regs (logEvent_regs _ _ _ _ _ _) _)
  · exact (logEvent_pair _ _ _ _ _ _).trans hp
theorem decide85_eq (s : State) (key m case_ : Nat) (h : Nat × Bool) : s.decide85 key m case_ h = if s.pair.focus.isSome then s.counted85 m case_
    else match case_ with
      | 2 => ((s.counted85 m case_).when (s.reg Reg.pairRole == 0) fun s => s.withhold key).modPair fun x => { x with handAt := some h }
      | 4 => ((s.counted85 m case_).when (!(s.reg Reg.pairRole == 0)) fun s => s.withhold key).modPair fun x => { x with focus := some (s.tick + 16, m) }
      | _ => if s.reg Reg.pairRole == 0 then (s.counted85 m case_).pairTo 1 else ((s.counted85 m case_).withhold key).toStandby 1 false := by
  unfold State.decide85 State.counted85
  extract_lets a s1
  rfl
theorem withhold_regs (s : State) (key : Nat) : (s.withhold key).regs = s.regs := rfl
theorem withhold_withheld (s : State) (key : Nat) : NTable.get 0 (s.withhold key).pair.withheld key = 65535 :=
  NTable.get_put_same 0 s.pair.withheld key 65535
theorem toStandby_missing (s : State) (role : Int) (graft : Bool) : (s.toStandby role graft).pair.missing = s.pair.missing := by
  have hl : (s.setRegs [(Reg.pairRole, role), (Reg.pairAuth, 0)]).pair.missing = s.pair.missing := rfl
  unfold State.toStandby
  extract_lets auto
  generalize s.setRegs [(Reg.pairRole, role), (Reg.pairAuth, 0)] = u at hl ⊢
  rw [pairTo_pair]
  exact hl
theorem whenWithheld (u : State) (b : Bool) (key : Nat) : (u.when b fun s => s.withhold key).regs = u.regs ∧
    (u.when b fun s => s.withhold key).pair.missing = u.pair.missing ∧ (b = true → NTable.get 0 (u.when b fun s => s.withhold key).pair.withheld key = 65535) ∧
    (u.when b fun s => s.withhold key).pair.focus = u.pair.focus ∧ (u.when b fun s => s.withhold key).pair.handAt = u.pair.handAt := by
  cases b
  · exact ⟨rfl, rfl, fun h => absurd h (by decide), rfl, rfl⟩
  · exact ⟨rfl, rfl, fun _ => withhold_withheld u key, rfl, rfl⟩
section
variable {key m case_ : Nat} {h : Nat × Bool}
theorem decide85_focused (hf : s.pair.focus.isSome = true) : s.decide85 key m case_ h = s.counted85 m case_ := (decide85_eq s key m case_ h).trans (if_pos hf)
theorem decide85_two (hf : s.pair.focus = none) : s.decide85 key m 2 h =
    ((s.counted85 m 2).when (s.reg Reg.pairRole == 0) fun s => s.withhold key).modPair fun x => { x with handAt := some h } :=
  (decide85_eq s key m 2 h).trans (if_neg (by rw [hf]; decide))
theorem decide85_four (hf : s.pair.focus = none) : s.decide85 key m 4 h =
    ((s.counted85 m 4).when (!(s.reg Reg.pairRole == 0)) fun s => s.withhold key).modPair fun x => { x with focus := some (s.tick + 16, m) } :=
  (decide85_eq s key m 4 h).trans (if_neg (by rw [hf]; decide))
theorem decide85_other (hf : s.pair.focus = none) (h2 : case_ ≠ 2) (h4 : case_ ≠ 4) : s.decide85 key m case_ h =
    if s.reg Reg.pairRole = 0 then (s.counted85 m case_).pairTo 1 else ((s.counted85 m case_).withhold key).toStandby 1 false := by
  refine ((decide85_eq s key m case_ h).trans (if_neg (by rw [hf]; decide))).trans ?_
  split
  · exact absurd rfl h2
  · exact absurd rfl h4
  · exact if_congr beq_iff_eq rfl rfl
/-- The registers that a decision on a difference changes, and the count of missing cells that it leaves. -/
theorem decide85_frame (s : State) (key m case_ : Nat) (h : Nat × Bool) : (s.decide85 key m case_ h).pair.missing = s.pair.missing ∧
    SameRegs (s.counted85 m case_) (s.decide85 key m case_ h) [Reg.pairState, Reg.pairRole, Reg.pairAuth, Reg.notifyDropped] := by
  obtain ⟨-, -, -, -, -, hp⟩ := counted85_regs s m case_
  have hmiss : (s.counted85 m case_).pair.missing = s.pair.missing := congrArg PairSt.missing hp
  cases hf : s.pair.focus with
  | some f =>
    rw [decide85_focused (by rw [hf]; rfl)]
    exact ⟨hmiss, .refl _ _⟩
  | none =>
    by_cases h2 : case_ = 2
    · subst h2
      rw [decide85_two hf]
      generalize s.counted85 m 2 = u at hmiss ⊢
      obtain ⟨hr, hm, -⟩ := whenWithheld u (s.reg Reg.pairRole == 0) key
      exact ⟨Eq.trans hm hmiss, sameRegs_of_regs ((modPair_regs _ _).trans hr) _⟩
    by_cases h4 : case_ = 4
    · subst h4
      rw [decide85_four hf]
      generalize s.counted85 m 4 = u at hmiss ⊢
      obtain ⟨hr, hm, -⟩ := whenWithheld u (!(s.reg Reg.pairRole == 0)) key
      exact ⟨Eq.trans hm hmiss, sameRegs_of_regs ((modPair_regs _ _).trans hr) _⟩
    rw [decide85_other hf h2 h4]
    generalize s.counted85 m case_ = u at hmiss ⊢
    split
    · exact ⟨(congrArg PairSt.missing (pairTo_pair u 1)).trans hmiss, (pairTo_frame u 1).sameRegs.mono (by simp)⟩
    · refine ⟨(toStandby_missing _ _ _).trans hmiss, ?_⟩
      exact SameRegs.trans (sameRegs_of_regs (withhold_regs u key) _) ((toStandby_frame (u.withhold key) 1 false).sameRegs.mono (by simp))
end

/-! The comparison of two cells. -/

/-- A phase whose packets are held back no more, but for role B while a proof is awaited. -/
def State.digestHeld (s : State) (key : Nat) : State :=
  (s.modPair fun x => { x with withheld := NTable.put 0 x.withheld key 0 }).when (s.pair.focus.isSome && !(s.reg Reg.pairRole == 0)) fun s => s.withhold key
/-- The chip with a partner's cell that is missing once more. -/
def State.digestMissed (s : State) (key n : Nat) : State :=
  ((s.digestHeld key).bump Reg.digestMissing).modPair fun x => { x with missing := NTable.put 0 x.missing key n }
/-- The chip with both cells at hand. -/
def State.digestMet (s : State) (key : Nat) : State := (s.digestHeld key).modPair fun x => { x with missing := NTable.put 0 x.missing key 0 }
theorem digestHeld_frame (s : State) (key : Nat) : (s.digestHeld key).regs = s.regs ∧ (s.digestHeld key).tick = s.tick ∧
    (s.digestHeld key).pair.focus = s.pair.focus ∧ (s.digestHeld key).pair.handAt = s.pair.handAt ∧
    (s.pair.focus.isSome = true → s.reg Reg.pairRole ≠ 0 → NTable.get 0 (s.digestHeld key).pair.withheld key = 65535) := by
  have htick : ∀ (u : State) (b : Bool), (u.when b fun s => s.withhold key).tick = u.tick := fun u b => when_keeps (g := State.tick) rfl
  unfold State.digestHeld
  obtain ⟨hr, -, hw, hf, hh⟩ := whenWithheld (s.modPair fun x => { x with withheld := NTable.put 0 x.withheld key 0 })
    (s.pair.focus.isSome && !(s.reg Reg.pairRole == 0)) key
  refine ⟨hr, htick _ _, hf, hh, fun h1 h2 => hw ?_⟩
  rw [h1, beq_eq_false_iff_ne.mpr h2]
  rfl

theorem digestCompare_idle {full : Bool} {own : DigestCell} (hown : NTable.get {} s.pair.own (if full then 1 else 0) = own)
    (h : s.reg Reg.pairState ≠ 2 ∨ s.reg Reg.graftPhase ≠ 5) (hst : s.reg Reg.pairState ≠ 3 ∨ own.tick ≠ s.tick) :
    exec (.digestCompare full) s = .next s := by
  subst hown
  refine (if_neg ?_).trans (if_pos (hst.imp_left fun h3 hn => h3 ?_))
  · rintro ⟨h2, h5⟩
    exact h.elim (fun h => h (by unfold State.nat at h2; omega)) fun h => h h5
  · unfold State.nat at hn
    omega
section
variable {full here : Bool} {own other : DigestCell} {m : Nat}
variable (hown : NTable.get {} s.pair.own (if full then 1 else 0) = own) (hother : NTable.get {} s.pair.theirs (if full then 1 else 0) = other)
  (hm : differing own other = m) (hhere : here = (decide (other.tick = s.tick) && decide (own.tick = s.tick) && decide (other.full = full)))
include hown hother hm hhere

/-- A comparison in SETTLE of a graft (R253). -/
theorem digestCompare_settle (hst : s.reg Reg.pairState = 2) (hph : s.reg Reg.graftPhase = 5) : Runs (.digestCompare full) s fun t =>
    t.pair.settled = (if here = true ∧ m = 0 ∧ s.pair.unsettled = [] then (if full then s.pair.settled + 1 else s.pair.settled) else 0) ∧
    SameRegs s t [] ∧ SameMem s t := by
  subst hown hother hm
  have hexec : exec (.digestCompare full) s = .next (s.modPair fun x => { x with settled :=
      if !(here && differing (NTable.get {} s.pair.own (if full then 1 else 0)) (NTable.get {} s.pair.theirs (if full then 1 else 0)) == 0 &&
        s.pair.unsettled == []) then 0 else if full then x.settled + 1 else x.settled }) := by
    subst hhere
    exact if_pos ⟨congrArg Int.toNat hst, hph⟩
  refine runs_of_exec rfl hexec fun hmem => ⟨?_, .refl _ _, hmem⟩
  show (if (!_) = true then 0 else if full = true then s.pair.settled + 1 else s.pair.settled) = _
  simp only [Bool.not_eq_true', ← Bool.not_eq_true, ite_not, Bool.and_eq_true, beq_iff_eq, and_assoc]
/-- A comparison in LOCKSTEP. -/
theorem exec_digestCompare (hst : s.reg Reg.pairState = 3) (ht : own.tick = s.tick) : exec (.digestCompare full) s =
    if (!here) = true then
      if NTable.get 0 s.pair.missing (if full then 1 else 0) + 1 ≥ 3 then
        .next ((s.digestMissed (if full then 1 else 0) (NTable.get 0 s.pair.missing (if full then 1 else 0) + 1)).decide85 (if full then 1 else 0) own.mask 4
          (if full then (s.tick + 1, false) else (s.tick, true)))
      else .next ((s.digestMissed (if full then 1 else 0) (NTable.get 0 s.pair.missing (if full then 1 else 0) + 1)).when (!(s.reg Reg.pairRole == 0))
        fun s => s.withhold (if full then 1 else 0))
    else if m = 0 then .next (s.digestMet (if full then 1 else 0))
    else .next ((s.digestMet (if full then 1 else 0)).decide85 (if full then 1 else 0) m
      (if (s.reg Reg.pairRole == 0) = true then caseOf (hasEvidence own m) (hasEvidence other m) else caseOf (hasEvidence other m) (hasEvidence own m))
      (if full then (s.tick + 1, false) else (s.tick, true))) := by
  subst hown hother hm hhere
  have h2 : ¬(s.nat Reg.pairState = 2 ∧ s.reg Reg.graftPhase = 5) := by
    rw [State.nat, hst]
    exact fun h => absurd h.1 (by decide)
  have h3 : ¬(s.nat Reg.pairState ≠ 3 ∨ (NTable.get {} s.pair.own (if full then 1 else 0)).tick ≠ s.tick) := by
    rw [State.nat, hst]
    exact fun h => h.elim (fun h => h rfl) fun h => h ht
  exact (if_neg h2).trans (if_neg h3)

/-- The instant of a hand-over that a difference of a phase brings. -/
theorem digestCompare_equal (hst : s.reg Reg.pairState = 3) (ht : own.tick = s.tick) (h : here = true) (h0 : m = 0) : Runs (.digestCompare full) s fun t =>
    NTable.get 0 t.pair.missing (if full then 1 else 0) = 0 ∧ t.pair.handAt = s.pair.handAt ∧ SameRegs s t [] ∧ SameMem s t := by
  have hexec := (exec_digestCompare hown hother hm hhere hst ht).trans ((if_neg (by rw [h]; decide)).trans (if_pos h0))
  generalize (if full = true then 1 else 0 : Nat) = key at hexec ⊢
  obtain ⟨hr, -, -, hh, -⟩ := digestHeld_frame s key
  unfold State.digestMet at hexec
  generalize s.digestHeld key = u at hexec hr hh
  exact runs_of_exec rfl hexec fun hmem => ⟨NTable.get_put_same 0 u.pair.missing key 0, hh, sameRegs_of_regs (t := u.modPair _) hr _, hmem⟩
/-- A comparison of cells that differ. -/
theorem exec_digestCompare_differs (hst : s.reg Reg.pairState = 3) (ht : own.tick = s.tick) (h : here = true) (h0 : m ≠ 0) {case_ : Nat}
    (hc : case_ = (if s.reg Reg.pairRole = 0 then caseOf (hasEvidence own m) (hasEvidence other m) else caseOf (hasEvidence other m) (hasEvidence own m))) :
    ∃ u : State, exec (.digestCompare full) s = .next (u.decide85 (if full then 1 else 0) m case_ (if full then (s.tick + 1, false) else (s.tick, true))) ∧
      u.regs = s.regs ∧ u.tick = s.tick ∧ u.pair.focus = s.pair.focus := by
  refine ⟨s.digestMet (if full then 1 else 0), ?_, ?_⟩
  · refine (exec_digestCompare hown hother hm hhere hst ht).trans (((if_neg (by rw [h]; decide)).trans (if_neg h0)).trans ?_)
    rw [hc, if_congr beq_iff_eq rfl rfl]
  · obtain ⟨hr, htick, hf, -⟩ := digestHeld_frame s (if full then 1 else 0)
    exact ⟨hr, htick, hf⟩
theorem digestCompare_counts (hst : s.reg Reg.pairState = 3) (ht : own.tick = s.tick) (h : here = true) (h0 : m ≠ 0) {case_ : Nat}
    (hc : case_ = (if s.reg Reg.pairRole = 0 then caseOf (hasEvidence own m) (hasEvidence other m) else caseOf (hasEvidence other m) (hasEvidence own m))) :
    Runs (.digestCompare full) s fun t => t.reg Reg.divCount = (s.reg Reg.divCount + 1) % 4294967296 ∧ t.reg Reg.divLastTick = s.tick ∧
      t.reg Reg.divLastPlots = m ∧ t.reg Reg.divLastCase = case_ ∧ SameRegs s t [Reg.divCount, Reg.divLastTick, Reg.divLastPlots, Reg.divLastCase,
        Reg.pairState, Reg.pairRole, Reg.pairAuth, Reg.notifyDropped] ∧ SameMem s t := by
  obtain ⟨u, hexec, hr, htick, -⟩ := exec_digestCompare_differs hown hother hm hhere hst ht h h0 hc
  generalize (if full = true then 1 else 0 : Nat) = key at hexec
  generalize (if full = true then (s.tick + 1, false) else (s.tick, true) : Nat × Bool) = at_ at hexec
  obtain ⟨h1, h2, h3, h4, h5, -⟩ := counted85_regs u m case_
  obtain ⟨-, hf⟩ := decide85_frame u key m case_ at_
  rw [reg_of_regs hr] at h1
  rw [htick] at h2
  generalize u.decide85 key m case_ at_ = t at hexec hf
  refine runs_of_exec rfl hexec fun hmem => ⟨(hf _ (by simp)).trans h1, (hf _ (by simp)).trans h2, (hf _ (by simp)).trans h3, (hf _ (by simp)).trans h4, ?_, hmem⟩
  exact ((sameRegs_of_regs hr _).trans (h5.mono (by simp))).trans (hf.mono (by simp))
/-- The decisions of Table 8.5. -/
theorem digestCompare_decides (hst : s.reg Reg.pairState = 3) (ht : own.tick = s.tick) (h : here = true) (h0 : m ≠ 0) {case_ : Nat}
    (hc : case_ = (if s.reg Reg.pairRole = 0 then caseOf (hasEvidence own m) (hasEvidence other m) else caseOf (hasEvidence other m) (hasEvidence own m)))
    (hfocus : s.pair.focus = none) :
    (case_ = 2 → Runs (.digestCompare full) s fun t => t.pair.handAt = some (if full then (s.tick + 1, false) else (s.tick, true)) ∧
      (s.reg Reg.pairRole = 0 → NTable.get 0 t.pair.withheld (if full then 1 else 0) = 65535)) ∧
    (case_ = 4 → Runs (.digestCompare full) s fun t => t.pair.focus = some (s.tick + 16, m) ∧
      (s.reg Reg.pairRole ≠ 0 → NTable.get 0 t.pair.withheld (if full then 1 else 0) = 65535)) ∧
    (case_ = 3 ∨ case_ = 5 → s.reg Reg.pairRole = 0 → Runs (.digestCompare full) s fun t => t.reg Reg.pairState = 1 ∧ t.reg Reg.pairRole = 0) ∧
    (case_ = 3 ∨ case_ = 5 → s.reg Reg.pairRole ≠ 0 → Runs (.digestCompare full) s fun t =>
      t.reg Reg.pairState = 4 ∧ t.reg Reg.pairRole = 1 ∧ t.reg Reg.pairAuth = 0) := by
  obtain ⟨u, hexec, hr, htick, hf⟩ := exec_digestCompare_differs hown hother hm hhere hst ht h h0 hc
  have hrole : u.reg Reg.pairRole = s.reg Reg.pairRole := reg_of_regs hr _
  obtain ⟨-, -, -, -, h5, -⟩ := counted85_regs u m case_
  rw [hfocus] at hf
  clear hc hhere hother hown hm
  generalize (if full = true then 1 else 0 : Nat) = key at hexec ⊢
  generalize (if full = true then (s.tick + 1, false) else (s.tick, true) : Nat × Bool) = at_ at hexec ⊢
  refine ⟨?_, ?_, fun h35 ha => ?_, fun h35 ha => ?_⟩
  · rintro rfl
    rw [decide85_two hf] at hexec
    obtain ⟨-, -, hw, -⟩ := whenWithheld (u.counted85 m 2) (u.reg Reg.pairRole == 0) key
    exact runs_of_exec rfl hexec fun _ => ⟨rfl, fun ha => hw (by rw [hrole, ha]; rfl)⟩
  · rintro rfl
    rw [decide85_four hf] at hexec
    obtain ⟨-, -, hw, -⟩ := whenWithheld (u.counted85 m 4) (!(u.reg Reg.pairRole == 0)) key
    exact runs_of_exec rfl hexec fun _ => ⟨by rw [← htick]; rfl, fun ha => hw (by rw [hrole, beq_eq_false_iff_ne.mpr ha]; rfl)⟩
  · rw [decide85_other hf (by omega) (by omega), if_pos (hrole.trans ha)] at hexec
    refine runs_of_exec rfl hexec fun _ => ⟨pairTo_state (by decide), ?_⟩
    exact ((pairTo_frame _ 1).regs _ (by simp)).trans ((h5 _ (by simp)).trans (hrole.trans ha))
  · rw [decide85_other hf (by omega) (by omega), if_neg (by rw [hrole]; exact ha)] at hexec
    exact runs_of_exec rfl hexec fun _ => toStandby_regs _ 1 false
theorem digestCompare_missing (hst : s.reg Reg.pairState = 3) (ht : own.tick = s.tick) {n : Nat} (h : here = false)
    (hn : n = NTable.get 0 s.pair.missing (if full then 1 else 0) + 1) : Runs (.digestCompare full) s fun t =>
    t.reg Reg.digestMissing = (s.reg Reg.digestMissing + 1) % 4294967296 ∧ NTable.get 0 t.pair.missing (if full then 1 else 0) = n ∧
    (s.reg Reg.pairRole ≠ 0 → NTable.get 0 t.pair.withheld (if full then 1 else 0) = 65535) ∧
    (3 ≤ n → s.pair.focus = none → t.pair.focus = some (s.tick + 16, own.mask) ∧ t.reg Reg.divLastCase = 4) ∧ SameMem s t := by
  have hexec := (exec_digestCompare hown hother hm hhere hst ht).trans (if_pos (by rw [h]; decide))
  rw [← hn] at hexec
  clear hn hhere hother hown hm
  generalize (if full = true then 1 else 0 : Nat) = key at hexec ⊢
  generalize (if full = true then (s.tick + 1, false) else (s.tick, true) : Nat × Bool) = at_ at hexec
  obtain ⟨hr, htick, hf, -, hheld⟩ := digestHeld_frame s key
  have hcount : (s.digestMissed key n).reg Reg.digestMissing = (s.reg Reg.digestMissing + 1) % 4294967296 :=
    (reg_of_regs (modPair_regs _ _) _).trans ((reg_setReg_same _ _ _).trans (congrArg bump32 (reg_of_regs hr _)))
  have hmiss : NTable.get 0 (s.digestMissed key n).pair.missing key = n := NTable.get_put_same 0 _ key n
  have hrole : (s.digestMissed key n).reg Reg.pairRole = s.reg Reg.pairRole :=
    (reg_of_regs (modPair_regs _ _) _).trans ((reg_setReg_other _ _ _ _ (by simp)).trans (reg_of_regs hr _))
  have hfocus : (s.digestMissed key n).pair.focus = s.pair.focus := hf
  have htick' : (s.digestMissed key n).tick = s.tick := htick
  have hheld' : s.pair.focus.isSome = true → s.reg Reg.pairRole ≠ 0 → NTable.get 0 (s.digestMissed key n).pair.withheld key = 65535 := hheld
  generalize s.digestMissed key n = u at hexec hcount hmiss hrole hfocus htick' hheld'
  by_cases h3 : n ≥ 3
  · rw [if_pos h3] at hexec
    obtain ⟨-, -, -, hcase, hc, hpair⟩ := counted85_regs u own.mask 4
    obtain ⟨hkeep, hfr⟩ := decide85_frame u key own.mask 4 at_
    refine runs_of_exec rfl hexec fun hmem => ⟨?_, ?_, fun ha => ?_, fun _ hnone => ⟨?_, ?_⟩, hmem⟩
    · exact (hfr _ (by simp)).trans ((hc _ (by simp)).trans hcount)
    · rw [hkeep]
      exact hmiss
    · cases hfoc : u.pair.focus with
      | some f =>
        rw [decide85_focused (by rw [hfoc]; rfl), hpair]
        exact hheld' (by rw [← hfocus, hfoc]; rfl) ha
      | none =>
        rw [decide85_four hfoc]
        obtain ⟨-, -, hw, -⟩ := whenWithheld (u.counted85 own.mask 4) (!(u.reg Reg.pairRole == 0)) key
        exact hw (by rw [hrole, beq_eq_false_iff_ne.mpr ha]; rfl)
    · rw [decide85_four (hfocus.trans hnone), ← htick']
      rfl
    · exact (hfr _ (by simp)).trans hcase
  · rw [if_neg h3] at hexec
    obtain ⟨hwr, hwm, hw, -⟩ := whenWithheld u (!(s.reg Reg.pairRole == 0)) key
    generalize (u.when (!(s.reg Reg.pairRole == 0)) fun s => s.withhold key) = t at hexec hwr hwm hw
    refine runs_of_exec rfl hexec fun hmem => ⟨(reg_of_regs hwr _).trans hcount, by rw [hwm]; exact hmiss, fun ha => hw ?_, fun h => absurd h h3, hmem⟩
    rw [beq_eq_false_iff_ne.mpr ha]
    rfl
end

/-! Proofs (R239, R261 to R264). -/

theorem exec_focusProofEnd {k m : Nat} (hk : s.pair.focus = some (k, m)) : exec .focusProofEnd s = if s.tick < k then .next s
    else if s.reg Reg.pairState ≠ 3 ∨ s.reg Reg.pairSuspect = 1 ∨ s.partnerSuspect then .next (s.modPair fun x => { x with focus := none })
    else if s.reg Reg.pairRole = 0 then .next ((s.modPair fun x => { x with focus := none }).pairTo 1)
    else .next ((s.modPair fun x => { x with focus := none }).toStandby 1 true) := by
  show execFocusProofEnd s = _
  unfold execFocusProofEnd
  rw [hk]
  rfl
theorem exec_focusProofEnd_none (h : s.pair.focus = none) : exec .focusProofEnd s = .next s := by
  show execFocusProofEnd s = _
  unfold execFocusProofEnd
  rw [h]

/-- The registers of a failed proof. -/
def State.proofNoted (s : State) (last : Nat) : State :=
  ((((s.setReg Reg.pairSuspect 1).bump Reg.proofFailCount).setReg Reg.proofLast last).logEvent 0x0605 2 16 last 0).refreshFaults
theorem proofNoted_frame (s : State) (last : Nat) : (s.proofNoted last).reg Reg.pairSuspect = 1 ∧
    (s.proofNoted last).reg Reg.proofFailCount = (s.reg Reg.proofFailCount + 1) % 4294967296 ∧
    (s.proofNoted last).reg Reg.proofLast = last ∧ SameRegs s (s.proofNoted last) faultRegs ∧ (s.proofNoted last).pair = s.pair := by
  have h1 : (((s.setReg Reg.pairSuspect 1).bump Reg.proofFailCount).setReg Reg.proofLast last).reg Reg.pairSuspect = 1 :=
    (reg_setReg_other _ _ _ _ (by simp)).trans ((reg_bump_other _ _ _ (by simp)).trans (reg_setReg_same _ _ _))
  have h2 : (((s.setReg Reg.pairSuspect 1).bump Reg.proofFailCount).setReg Reg.proofLast last).reg Reg.proofFailCount =
      (s.reg Reg.proofFailCount + 1) % 4294967296 :=
    (reg_setReg_other _ _ _ _ (by simp)).trans ((reg_setReg_same _ _ _).trans (congrArg bump32 (reg_setReg_other _ _ _ _ (by simp))))
  have h3 : (((s.setReg Reg.pairSuspect 1).bump Reg.proofFailCount).setReg Reg.proofLast last).reg Reg.proofLast = last := reg_setReg_same _ _ _
  have h4 : SameRegs s (((s.setReg Reg.pairSuspect 1).bump Reg.proofFailCount).setReg Reg.proofLast last) faultRegs :=
    .trans (.trans (.setReg (by simp [faultRegs]) _) (.setReg (by simp [faultRegs]) _)) (.setReg (by simp [faultRegs]) _)
  have h5 : Reports (((s.setReg Reg.pairSuspect 1).bump Reg.proofFailCount).setReg Reg.proofLast last) (s.proofNoted last) [Reg.faultCode, Reg.faultCount] :=
    .trans (.logEvent _ 0x0605 2 16 last 0 _) (.refreshFaults (by simp) (by simp))
  exact ⟨(h5.2 _ (by simp)).trans h1, (h5.2 _ (by simp)).trans h2, (h5.2 _ (by simp)).trans h3, h4.trans (h5.2.mono (by simp [faultRegs])),
    h5.field State.pair fun _ => rfl⟩
theorem proofFail_regs (s : State) (kind unit : Nat) : (s.proofFail kind unit).regs = (s.proofNoted (kind * 16777216 + unit)).regs := rfl
theorem proofFail_frame (s : State) (kind unit : Nat) : (s.proofFail kind unit).reg Reg.pairSuspect = 1 ∧
    (s.proofFail kind unit).reg Reg.proofFailCount = (s.reg Reg.proofFailCount + 1) % 4294967296 ∧
    (s.proofFail kind unit).reg Reg.proofLast = (kind * 16777216 + unit : Nat) ∧ SameRegs s (s.proofFail kind unit) faultRegs := by
  have h (q : Reg) := reg_of_regs (proofFail_regs s kind unit) q
  obtain ⟨h1, h2, h3, h4, -⟩ := proofNoted_frame s (kind * 16777216 + unit)
  exact ⟨(h _).trans h1, (h _).trans h2, (h _).trans h3, fun q hq => (h q).trans (h4 q hq)⟩
theorem proofFail_target (s : State) (kind unit : Nat) : (s.proofFail kind unit).pair.target = s.pair.target := by
  have h : (s.proofFail kind unit).pair = { (s.proofNoted (kind * 16777216 + unit)).pair with proofFailed := true, suspectAt := some s.tick } := rfl
  obtain ⟨-, -, -, -, hp⟩ := proofNoted_frame s (kind * 16777216 + unit)
  generalize s.proofNoted (kind * 16777216 + unit) = u at h hp
  exact (congrArg PairSt.target h :).trans (congrArg PairSt.target hp :)
/-- The reaction to SUSPECT keeps its registers. -/
theorem suspectLeaves_role (s : State) : RoleChange s s.suspectLeaves := by
  unfold State.suspectLeaves
  exact .of_ite (fun _ => .refl _) fun _ => .of_ite (fun _ => RoleChange.graftEnd s _) fun _ => RoleChange.toStandby s 1 false
theorem suspectLeaves_stays (h : s.paired = false ∨ s.reg Reg.pairRole ≠ 1 ∨ s.reg Reg.pairState = 4) : s.suspectLeaves = s := by
  refine if_pos ?_
  rcases h with h | h | h
  · exact .inr (.inr (.inl (by rw [h]; rfl)))
  · exact .inr (.inl h)
  · exact .inr (.inr (.inr h))
theorem suspectLeaves_eq (hs : s.reg Reg.pairSuspect = 1) (hr : s.reg Reg.pairRole = 1) (hp : s.paired = true) (h4 : s.reg Reg.pairState ≠ 4) :
    s.suspectLeaves = if s.reg Reg.pairState = 2 then s.graftEnd 0x18 else s.toStandby 1 false := by
  refine if_neg ?_
  rw [hs, hr, hp]
  simp [h4]
theorem toStandby_focus (s : State) (role : Int) (graft : Bool) : (s.toStandby role graft).pair.focus = none := by
  unfold State.toStandby
  extract_lets auto
  generalize s.setRegs [(Reg.pairRole, role), (Reg.pairAuth, 0)] = u
  rw [pairTo_pair]
  rfl
theorem exec_proofFail (kind : Fin 4) (unit : Fin 256) (s : State) : exec (.proofFail kind unit) s = .next (s.proofFail kind unit).suspectLeaves := rfl
theorem exec_proofSetPass (s : State) : exec .proofSetPass s = if (if s.pair.proofRound = s.tick / 1024 then s.pair.proofUnits else 0) ≥ proofUnits then .next s
    else .next ((s.modPair fun x => { x with proofRound := s.tick / 1024
                                             proofUnits := (if s.pair.proofRound = s.tick / 1024 then s.pair.proofUnits else 0) + 1 }).bump Reg.proofPass) := by
  have h : exec .proofSetPass s = execProofSetPass s := rfl
  rw [h]
  unfold execProofSetPass
  dsimp only
theorem pairSuspectClear_runs : Runs .pairSuspectClear s fun t => t.reg Reg.pairSuspect = 0 ∧ t.answer.status = 0 ∧
    SameRegs s t [Reg.pairSuspect, Reg.faultCode, Reg.faultCount] ∧ t.units = s.units := by
  have hexec : exec .pairSuspectClear s = .next (((s.setReg Reg.pairSuspect 0).refreshFaults).reply 0) := rfl
  have h1 : (s.setReg Reg.pairSuspect 0).reg Reg.pairSuspect = 0 := reg_setReg_same _ _ _
  have h2 : SameRegs s (s.setReg Reg.pairSuspect 0) [Reg.pairSuspect, Reg.faultCode, Reg.faultCount] := .setReg (by simp) _
  have h3 : (s.setReg Reg.pairSuspect 0).units = s.units := rfl
  generalize s.setReg Reg.pairSuspect 0 = u at hexec h1 h2 h3
  have hf : Reports u u.refreshFaults [Reg.faultCode, Reg.faultCount] := .refreshFaults (by simp) (by simp)
  have hu : u.refreshFaults.units = u.units := rfl
  generalize u.refreshFaults = v at hexec hf hu
  exact runs_of_exec rfl hexec fun _ => ⟨(hf.2 _ (by simp)).trans h1, rfl, h2.trans (hf.2.mono (by simp)), hu.trans h3⟩
end

/-- Settles O49: a cell that is heard, the comparison of two cells with its decisions, and proofs that fail, pass and end. -/
theorem pairDigestsAndProofs : Obligations.PairDigestsAndProofs := by
  unfold Obligations.PairDigestsAndProofs
  intro s
  refine ⟨fun c => ⟨digest_kept c, fun h => if_pos (by rw [h]; rfl)⟩, fun full here own other m hown hother hm hhere =>
    ⟨digestCompare_settle hown hother hm hhere, digestCompare_idle hown, fun hst ht => ⟨digestCompare_equal hown hother hm hhere hst ht,
      fun case_ h h0 hc => ⟨digestCompare_counts hown hother hm hhere hst ht h h0 hc, digestCompare_decides hown hother hm hhere hst ht h h0 hc⟩,
      fun n h hn => digestCompare_missing hown hother hm hhere hst ht h hn⟩⟩,
    fun k m hk => ⟨fun ht => (exec_focusProofEnd hk).trans (if_pos ht), fun ht h => ?_, fun ht hst hs hp => ?_⟩, exec_focusProofEnd_none,
    fun kind unit => ?_, ?_, pairSuspectClear_runs⟩
  · exact runs_of_exec rfl ((exec_focusProofEnd hk).trans ((if_neg (Nat.not_lt.mpr ht)).trans (if_pos h))) fun hm => ⟨rfl, .refl _ _, hm⟩
  · have hn : ¬(s.reg Reg.pairState ≠ 3 ∨ s.reg Reg.pairSuspect = 1 ∨ s.partnerSuspect = true) := by
      rw [hst, hp]
      simp [hs]
    have hexec := (exec_focusProofEnd hk).trans ((if_neg (Nat.not_lt.mpr ht)).trans (if_neg hn))
    have hr : (s.modPair fun x => { x with focus := none }).regs = s.regs := rfl
    have hf : (s.modPair fun x => { x with focus := none }).pair.focus = none := rfl
    generalize (s.modPair fun x => { x with focus := none }) = u at hexec hr hf
    refine ⟨fun ha => ?_, fun ha => ?_⟩
    · refine runs_of_exec rfl (hexec.trans (if_pos ha)) fun hm => ⟨pairTo_state (by decide), ?_, ?_, hm⟩
      · exact (congrArg PairSt.focus (pairTo_pair u 1)).trans hf
      · exact (sameRegs_of_regs hr _).trans (pairTo_frame u 1).sameRegs
    · obtain ⟨h1, h2, h3⟩ := toStandby_regs u 1 true
      refine runs_of_exec rfl (hexec.trans (if_neg ha)) fun hm => ⟨h1, h2, h3, toStandby_focus u 1 true, ?_, hm⟩
      exact (sameRegs_of_regs hr _).trans ((toStandby_frame u 1 true).sameRegs.mono (by simp))
  · obtain ⟨h1, h2, h3, h4⟩ := proofFail_frame s kind unit
    have hexec := exec_proofFail kind unit s
    have hst : (s.proofFail kind unit).reg Reg.pairState = s.reg Reg.pairState := h4 _ (by simp [faultRegs])
    have hrole : (s.proofFail kind unit).reg Reg.pairRole = s.reg Reg.pairRole := h4 _ (by simp [faultRegs])
    have hp : (s.proofFail kind unit).paired = s.paired := by
      unfold State.paired
      rw [hst]
    have htarget := proofFail_target s kind unit
    generalize s.proofFail kind unit = u at hexec h1 h2 h3 h4 hst hrole hp htarget
    rw [← hst, ← hrole, ← hp, ← htarget]
    have hpaired (n : Int) (hn : n ≠ 0) (h : u.reg Reg.pairState = n) : u.paired = true := paired_of_state h hn
    have hf := (suspectLeaves_role u).regs
    refine ⟨runs_of_exec rfl hexec fun hm => ?_, fun h => ?_, fun hr h => ?_, fun hr h => ?_⟩
    · exact ⟨(hf _ (by simp)).trans h1, (hf _ (by simp)).trans h2, (hf _ (by simp)).trans h3, hm⟩
    · rw [suspectLeaves_stays h] at hexec
      exact runs_of_exec rfl hexec fun _ => h4
    · rw [suspectLeaves_eq h1 hr (hpaired 2 (by decide) h) (by omega), if_pos h] at hexec
      exact runs_of_exec rfl hexec fun _ => graftEnd_fails h (by decide)
    · rw [suspectLeaves_eq h1 hr (bne_iff_ne.mpr (by omega)) (by omega), if_neg (by omega)] at hexec
      exact runs_of_exec rfl hexec fun _ => toStandby_regs u 1 false
  · rintro _ rfl
    refine ⟨fun h => ?_, fun h => (exec_proofSetPass s).trans (if_pos h)⟩
    exact runs_of_exec rfl ((exec_proofSetPass s).trans (if_neg (Nat.not_le.mpr h))) fun hm => ⟨reg_setReg_same _ _ _, rfl, rfl, .setReg (by simp) _, hm⟩
end Sys2Proof.Machine
end

section
/-!
PROOFS. Inputs and management of a pair (08, R227 to R230).
-/
namespace Sys2Proof.Machine

section
variable {s : State} {t : Fin 1024} {seq : Nat}

/-! Receipts (R227). -/

theorem heard_cases (s : State) : s.heard = s ∨ s.heard = s.modPair fun x => { x with cellAt := (s.tick, s.cycle) } := by
  unfold State.heard
  cases s.heartbeat
  · exact .inl rfl
  · exact .inr rfl
/-- What a cell that is heard leaves. -/
theorem heard_frame (s : State) : s.heard.regs = s.regs ∧ s.heard.rxs = s.rxs ∧ s.heard.tick = s.tick ∧ s.heard.pair.rcpts = s.pair.rcpts ∧
    s.heard.pair.sent = s.pair.sent := by
  rcases heard_cases s with h | h
  · rw [h]
    exact ⟨rfl, rfl, rfl, rfl, rfl⟩
  · rw [h]
    exact ⟨rfl, rfl, rfl, rfl, rfl⟩
/-- A packet with the partner's receipt of it. -/
def RxPkt.receipted (seq crc : Nat) (at_ : Option Nat) (p : RxPkt) : RxPkt :=
  if p.seq = seq then { p with rcpt := p.rcpt || crc32 p.payload == crc, at_ := match at_ with | some k => min k p.at_ | none => p.at_ } else p
/-- A stream with the partner's receipt of a packet at hand. -/
def RxSt.receipted (seq crc : Nat) (at_ : Option Nat) (x : RxSt) : RxSt :=
  { x with pkts := x.pkts.map (RxPkt.receipted seq crc at_), feed := x.feed.map (RxPkt.receipted seq crc at_) }
theorem exec_rcpt (t : Fin 1024) (seq crc : Nat) (at_ : Option Nat) (s : State) : exec (.rcpt t seq crc at_) s =
    if (s.rx t).pkts.any (fun p => p.seq == seq) = true then
      .next (s.heard.modRx t (RxSt.receipted seq crc at_))
    else .next (s.heard.modPair fun x => { x with rcpts := x.rcpts ++ [(t.val, seq, crc, at_, s.tick)] }) := rfl
theorem rcpt_waits (crc : Nat) (at_ : Option Nat) (h : ∀ p ∈ (s.rx t).pkts, p.seq ≠ seq) : Runs (.rcpt t seq crc at_) s fun u =>
    u.pair.rcpts = s.pair.rcpts ++ [(t.val, seq, crc, at_, s.tick)] ∧ SameRegs s u [] ∧ SameMem s u := by
  have hexec := (exec_rcpt t seq crc at_ s).trans (if_neg (by simpa using h))
  obtain ⟨hr, -, -, hp, -⟩ := heard_frame s
  generalize s.heard = u at hexec hr hp
  exact runs_of_exec rfl hexec fun hm => ⟨congrArg (· ++ [(t.val, seq, crc, at_, s.tick)]) hp, sameRegs_of_regs (t := u.modPair _) hr _, hm⟩
theorem rcpt_marks (crc : Nat) (at_ : Option Nat) (h : ∃ p ∈ (s.rx t).pkts, p.seq = seq) : Runs (.rcpt t seq crc at_) s fun u =>
    u.pair.rcpts = s.pair.rcpts ∧ (u.rx t).pkts.length = (s.rx t).pkts.length ∧
    (∀ p ∈ (s.rx t).pkts, p.seq = seq → { p with
      rcpt := p.rcpt || crc32 p.payload == crc, at_ := match at_ with | some k => min k p.at_ | none => p.at_ } ∈ (u.rx t).pkts) ∧
    (∀ p ∈ (s.rx t).pkts, p.seq ≠ seq → p ∈ (u.rx t).pkts) ∧ SameRegs s u [] ∧ SameMem s u := by
  have hexec := (exec_rcpt t seq crc at_ s).trans (if_pos (by simpa using h))
  obtain ⟨hr, hx, -, hp, -⟩ := heard_frame s
  generalize s.heard = u at hexec hr hp hx
  have hrx : (u.rx t).pkts = (s.rx t).pkts := congrArg (fun l => (NTable.get {} l t.val).pkts) hx
  have hpkts : ((u.modRx t (RxSt.receipted seq crc at_)).rx t).pkts = (s.rx t).pkts.map (RxPkt.receipted seq crc at_) :=
    (congrArg RxSt.pkts (rx_modRx _ _ _)).trans (congrArg (List.map _) hrx)
  have hpair : (u.modRx t (RxSt.receipted seq crc at_)).pair.rcpts = s.pair.rcpts := hp
  have hregs : (u.modRx t (RxSt.receipted seq crc at_)).regs = s.regs := hr
  generalize (u.modRx t (RxSt.receipted seq crc at_)) = v at hexec hpkts hpair hregs
  refine runs_of_exec rfl hexec fun hm => ⟨hpair, by rw [hpkts, List.length_map], fun p hmem he => ?_, fun p hmem he => ?_, sameRegs_of_regs hregs _, hm⟩
  · rw [hpkts]
    exact List.mem_map.mpr ⟨p, hmem, if_pos he⟩
  · rw [hpkts]
    exact List.mem_map.mpr ⟨p, hmem, if_neg he⟩

/-! Payloads (R228). -/

theorem sendCell_rxs (s : State) (c : Cell) : (s.sendCell c).rxs = s.rxs ∧ (s.sendCell c).regs = s.regs := by
  unfold State.sendCell
  split
  · exact ⟨rfl, rfl⟩
  · split
    · exact ⟨rfl, rfl⟩
    · exact ⟨rfl, rfl⟩
theorem seqGap_frame (s : State) (t seq : Nat) : Only (fun s => (s.rx t).pkts) (· ∈ [Reg.rxSeqGaps t]) s (s.seqGap t seq) := by
  have h1 : Only (fun s => (s.rx t).pkts) (· ∈ [Reg.rxSeqGaps t]) s (s.modRx t fun x => { x with lastSeq := some seq }) :=
    .of_regs (congrArg RxSt.pkts (rx_modRx s t fun x => { x with lastSeq := some seq }) :) rfl
  unfold State.seqGap
  extract_lets m s1
  split
  · exact .of_ite (fun _ => .of_ite (fun _ => h1) fun _ => .refl _) fun _ => h1.trans (Only.setReg (by simp) _ rfl)
  · exact h1
theorem tellRcpt_frame (s : State) (t : Nat) (p : RxPkt) : (s.tellRcpt t p).rxs = s.rxs ∧ (s.tellRcpt t p).regs = s.regs := by
  unfold State.tellRcpt
  split
  · exact sendCell_rxs _ _
  · exact ⟨rfl, rfl⟩
/-- A packet that is accepted, before its samples go on. -/
theorem acceptPkt_stages (s : State) (t : Fin 1024) (p0 : RxPkt) : ∃ (u : State) (p : RxPkt), p.s = p0.s ∧ p.seq = p0.seq ∧ p.payload = p0.payload ∧
    (u.rx t).pkts = (s.rx t).pkts ++ [p] ∧ u.reg (Reg.rxPkts t) = (s.reg (Reg.rxPkts t) + 1) % 18446744073709551616 ∧
    SameRegs s u [Reg.rxPkts t, Reg.rxLastS t, Reg.rxSeqGaps t] ∧ s.acceptPkt t p0 = if s.reg (Reg.rxDomain t) = 0 then u.storeSamples t p.s p.payload
      else if s.paired then u.modRx t fun x => { x with feed := x.feed ++ [p] }
      else (u.modRx t fun x => { x with feed := x.feed ++ [p] }).feedTracker t p.at_ := by
  unfold State.acceptPkt
  extract_lets heard p s1 s2 s3
  have hp : p.s = p0.s ∧ p.seq = p0.seq ∧ p.payload = p0.payload := by
    have hcases : p = p0 ∨ ∃ e : Nat × Nat × Nat × Option Nat × Nat,
        p = { p0 with rcpt := e.2.2.1 == crc32 p0.payload, at_ := match e.2.2.2.1 with | some k => min k p0.at_ | none => p0.at_ } := by
      cases hh : heard with
      | some e => exact .inr ⟨e, by unfold p; rewrite [hh]; rfl⟩
      | none => exact .inl (by unfold p; rewrite [hh]; rfl)
    clear_value p
    rcases hcases with rfl | ⟨e, rfl⟩ <;> exact ⟨rfl, rfl, rfl⟩
  have hg := seqGap_frame s t p.seq
  have hset : Only (fun s => (s.rx t).pkts) (· ∈ [Reg.rxPkts t, Reg.rxLastS t]) (s.seqGap t p.seq) s1 := Only.setRegs (by simp) fun _ _ _ => rfl
  have hpk : s1.reg (Reg.rxPkts t) = (s.reg (Reg.rxPkts t) + 1) % 18446744073709551616 :=
    (reg_setReg_other _ _ _ _ (by simp)).trans (reg_setReg_same _ _ _)
  obtain ⟨hx, hr⟩ := tellRcpt_frame (s1.modRx t fun x => { x with pkts := x.pkts ++ [p] }) t p0
  refine ⟨s2, p, hp.1, hp.2.1, hp.2.2, ?_, ?_, ?_, rfl⟩
  · have h2 : (s2.rx t).pkts = ((s1.modRx t fun x => { x with pkts := x.pkts ++ [p] }).rx t).pkts := congrArg (fun l => (NTable.get {} l t.val).pkts) hx
    rw [h2, rx_modRx]
    exact congrArg (· ++ [p]) (hset.view.trans hg.view)
  · exact (reg_of_regs hr _).trans ((reg_of_regs rfl _).trans hpk)
  · have h2 : SameRegs s1 s2 [Reg.rxPkts t, Reg.rxLastS t, Reg.rxSeqGaps t] := sameRegs_of_regs (hr.trans rfl) _
    exact ((hg.sameRegs.mono (by simp)).trans (hset.sameRegs.mono (by simp))).trans h2

/-- A state with the count of received payloads as before. -/
@[reducible] def SameRecv (s u : State) : Prop := Only (fun _ => ()) (· ≠ Reg.reconRecv) s u
theorem sameRecv_of_regs {u : State} (h : u.regs = s.regs) : SameRecv s u := .of_regs rfl h
theorem carry_recv (s : State) (x : SigId) (at_ : Nat) (v : Int) : SameRecv s (s.carry x at_ v) := sameRecv_of_regs rfl
theorem modRx_recv (s : State) (t : Nat) (f : RxSt → RxSt) : SameRecv s (s.modRx t f) := sameRecv_of_regs rfl
theorem freePair_recv (s : State) (t k first : Nat) (a b : List RxSample) : SameRecv s (s.freePair t k first a b).1 := by
  unfold State.freePair
  extract_lets mask cs was
  generalize (NTable.get {} (s.rx t).pairs k).run cs first a b = r
  obtain ⟨y, fire⟩ := r
  dsimp -zeta only
  extract_lets s1 s2
  have h1 : SameRecv s s1 := modRx_recv _ _ _
  exact .of_ite (fun _ => h1.trans (.trans (Only.setReg (by simp) _ rfl) (Only.setReg (by simp) _ rfl))) fun _ => h1
theorem deliverPkt_recv (s : State) (t : Nat) (p : RxPkt) : SameRecv s (s.deliverPkt t p) := by
  unfold State.deliverPkt
  extract_lets fmt c n step gap at_ chan
  refine .of_overN _ (fun s k _ => ?_) s
  extract_lets a b r up s1
  have h1 : SameRecv r.1 s1 := by
    refine .of_overL _ (fun s e _ => .of_ite (fun _ => .refl _) fun _ => ?_) _
    extract_lets id raw vs zs
    have hz : SameRecv s zs := .of_overN _ (fun s _ _ => carry_recv _ _ _ _) _
    exact hz.trans (.of_overL _ (fun s _ _ => carry_recv _ _ _ _) _)
  exact ((freePair_recv _ _ _ _ _ _).trans h1).trans (modRx_recv _ _ _)
theorem feedTracker_recv (s : State) (t upTo : Nat) : SameRecv s (s.feedTracker t upTo) := by
  unfold State.feedTracker
  extract_lets due n s1 s2
  have h1 : SameRecv s s1 := modRx_recv _ _ _
  have h2 : SameRecv s1 s2 := .of_overL _ (fun s p _ => (deliverPkt_recv _ _ _).trans (modRx_recv _ _ _)) _
  exact (h1.trans h2).trans (modRx_recv _ _ _)
theorem acceptPkt_recv (s : State) (t : Fin 1024) (p0 : RxPkt) : (s.acceptPkt t p0).reg Reg.reconRecv = s.reg Reg.reconRecv := by
  obtain ⟨u, p, -, -, -, -, -, hr, heq⟩ := acceptPkt_stages s t p0
  have hu : u.reg Reg.reconRecv = s.reg Reg.reconRecv := hr _ (by simp)
  rw [heq]
  split
  · exact hu
  · split
    · exact hu
    · exact ((feedTracker_recv _ _ _).regs _ (fun h => h rfl)).trans hu
theorem acceptPkt_house (s : State) (t : Fin 1024) (p0 : RxPkt) (h : s.reg (Reg.rxDomain t) = 0) :
    (∃ q ∈ ((s.acceptPkt t p0).rx t).pkts, q.s = p0.s ∧ q.seq = p0.seq ∧ q.payload = p0.payload) ∧
    (s.acceptPkt t p0).reg (Reg.rxPkts t) = (s.reg (Reg.rxPkts t) + 1) % 18446744073709551616 ∧
    SameRegs s (s.acceptPkt t p0) [Reg.rxPkts t, Reg.rxLastS t, Reg.rxSeqGaps t] := by
  obtain ⟨u, p, h1, h2, h3, hpkts, hcount, hr, heq⟩ := acceptPkt_stages s t p0
  rw [heq, if_pos h]
  have hx : ((u.storeSamples t p.s p.payload).rx t).pkts = (u.rx t).pkts := (congrArg RxSt.pkts (rx_modRx u t _) :)
  refine ⟨⟨p, ?_, h1, h2, h3⟩, hcount, hr⟩
  rw [hx, hpkts]
  exact List.mem_append_right _ (List.mem_singleton_self p)
theorem rebuildRx_recv (s : State) (t tick : Nat) {into : State → SigId → List Sample → State} (h : ∀ s y b, (into s y b).regs = s.regs) :
    SameRecv s (s.rebuildRx t tick into) := by
  unfold State.rebuildRx
  extract_lets x j miss s1
  have h1 : SameRecv s s1 := .of_overN _ (fun s _ _ => sameRecv_of_regs (h _ _ _)) _
  refine (h1.trans (modRx_recv s1 t fun y => { y with concealed := miss, rampUp := miss })).trans ?_
  exact Only.when _ (f := fun s => s.setReg (Reg.rxConcealed t) ((s.reg (Reg.rxConcealed t) + 4294967295) % 4294967296)) (Only.setReg (by simp) _ rfl)

section
variable {index at_ : Nat} {payload : List Byte}

theorem exec_rpay_held {p : RxPkt} (h : (s.rx t).pkts.find? (fun q => q.s == index) = some p) : exec (.rpay t seq index payload at_) s =
    .next (s.when (crc32 p.payload != crc32 payload) fun s => s.bump Reg.reconDup) := by
  show execRpay t seq index payload at_ s = _
  unfold execRpay
  rw [h]
theorem find_packet_none (h : ∀ p ∈ (s.rx t).pkts, p.s ≠ index) : (s.rx t).pkts.find? (fun p => p.s == index) = none :=
  List.find?_eq_none.mpr fun p hp => by simpa using h p hp
theorem exec_rpay_stopped (h : ∀ p ∈ (s.rx t).pkts, p.s ≠ index) (h1 : s.reg (Reg.rxState t) ≠ 1) (h2 : s.reg (Reg.rxState t) ≠ 2) :
    exec (.rpay t seq index payload at_) s = .next s := by
  show execRpay t seq index payload at_ s = _
  unfold execRpay
  rw [find_packet_none h]
  exact if_pos ⟨h1, h2⟩
/-- A payload that is lacking, accepted for its stream. -/
def State.supplied (s : State) (t seq index : Nat) (payload : List Byte) (at_ : Nat) : State :=
  (s.acceptPkt t { s := index, seq := seq, payload := payload, legs := 0, at_ := at_, rcpt := true }).bump Reg.reconRecv
theorem exec_rpay_supplies (h : ∀ p ∈ (s.rx t).pkts, p.s ≠ index) (hst : s.reg (Reg.rxState t) = 1 ∨ s.reg (Reg.rxState t) = 2) :
    exec (.rpay t seq index payload at_) s =
    if s.reg (Reg.rxDomain t) ≠ 0 ∨ s.reg (Reg.rxState t) ≠ 2 then .next (s.supplied t seq index payload at_)
    else if s.ingestTick t index = s.tick ∧ (s.rx t).closed then
      .next ((s.supplied t seq index payload at_).rebuildRx t (s.ingestTick t index) fun s y b => { s with ingest := NTable.put [] s.ingest y b })
    else if s.ingestTick t index + 1 = s.tick ∧ s.cycle < 1536 then
      .next ((s.supplied t seq index payload at_).rebuildRx t (s.ingestTick t index) fun s y b => { s with src := NTable.put [] s.src y b })
    else .next (s.supplied t seq index payload at_) := by
  show execRpay t seq index payload at_ s = _
  unfold execRpay
  rw [find_packet_none h]
  exact if_neg (by omega)
theorem supplied_recv (s : State) (t : Fin 1024) (seq index : Nat) (payload : List Byte) (at_ : Nat) :
    (s.supplied t seq index payload at_).reg Reg.reconRecv = (s.reg Reg.reconRecv + 1) % 4294967296 :=
  (reg_setReg_same _ _ _).trans (congrArg bump32 (acceptPkt_recv s t _))
theorem rpay_counts (h : ∀ p ∈ (s.rx t).pkts, p.s ≠ index) (hst : s.reg (Reg.rxState t) = 1 ∨ s.reg (Reg.rxState t) = 2) :
    Runs (.rpay t seq index payload at_) s fun u => u.reg Reg.reconRecv = (s.reg Reg.reconRecv + 1) % 4294967296 ∧ SameMem s u := by
  have hexec := exec_rpay_supplies (seq := seq) (payload := payload) (at_ := at_) h hst
  have hrecv := supplied_recv s t seq index payload at_
  generalize s.supplied t seq index payload at_ = u at hexec hrecv
  split at hexec
  · exact runs_of_exec rfl hexec fun hm => ⟨hrecv, hm⟩
  split at hexec
  · exact runs_of_exec rfl hexec fun hm => ⟨((rebuildRx_recv u t _ (into := fun s y b => { s with ingest := NTable.put [] s.ingest y b })
      fun _ _ _ => rfl).regs _ (fun h => h rfl)).trans hrecv, hm⟩
  split at hexec
  · exact runs_of_exec rfl hexec fun hm => ⟨((rebuildRx_recv u t _ (into := fun s y b => { s with src := NTable.put [] s.src y b })
      fun _ _ _ => rfl).regs _ (fun h => h rfl)).trans hrecv, hm⟩
  · exact runs_of_exec rfl hexec fun hm => ⟨hrecv, hm⟩
theorem rpay_accepts (h : ∀ p ∈ (s.rx t).pkts, p.s ≠ index) (hst : s.reg (Reg.rxState t) = 1 ∨ s.reg (Reg.rxState t) = 2)
    (hd : s.reg (Reg.rxDomain t) = 0) (hk : s.reg (Reg.rxState t) = 1 ∨ s.tick < s.ingestTick t index) :
    Runs (.rpay t seq index payload at_) s fun u => (∃ q ∈ (u.rx t).pkts, q.s = index ∧ q.seq = seq ∧ q.payload = payload) ∧
      u.reg (Reg.rxPkts t) = (s.reg (Reg.rxPkts t) + 1) % 18446744073709551616 ∧
      SameRegs s u [Reg.reconRecv, Reg.rxPkts t, Reg.rxLastS t, Reg.rxSeqGaps t] := by
  have hexec : exec (.rpay t seq index payload at_) s = .next (s.supplied t seq index payload at_) := by
    refine (exec_rpay_supplies h hst).trans ?_
    by_cases h1 : s.reg (Reg.rxState t) = 1
    · exact if_pos (.inr (by omega))
    · have hlt := hk.resolve_left h1
      have ha : ¬(s.reg (Reg.rxDomain t) ≠ 0 ∨ s.reg (Reg.rxState t) ≠ 2) := by omega
      have hb : ¬(s.ingestTick t index = s.tick ∧ (s.rx t).closed = true) := fun h => absurd h.1 (Nat.ne_of_gt hlt)
      have hc : ¬(s.ingestTick t index + 1 = s.tick ∧ s.cycle < 1536) := fun h => Nat.lt_asymm hlt (Nat.lt_of_lt_of_eq (Nat.lt_succ_self _) h.1)
      rw [if_neg ha, if_neg hb, if_neg hc]
  obtain ⟨h1, h2, h3⟩ := acceptPkt_house s t { s := index, seq := seq, payload := payload, legs := 0, at_ := at_, rcpt := true } hd
  unfold State.supplied at hexec
  generalize s.acceptPkt t { s := index, seq := seq, payload := payload, legs := 0, at_ := at_, rcpt := true } = u at hexec h1 h2 h3
  exact runs_of_exec rfl hexec fun _ => ⟨h1, (reg_bump_other _ _ _ (by simp)).trans h2, (h3.mono (by simp)).trans (.setReg (by simp) _)⟩
end

/-! A payload for the partner (R228). -/

/-- A packet whose payload has been sent. -/
def RxPkt.paid (seq : Nat) (q : RxPkt) : RxPkt := if q.seq = seq then { q with rpay := true } else q
theorem exec_rpayTimeout (now : Nat) {p : RxPkt}
    (h : (s.rx t).pkts.find? (fun p => p.seq == seq && !p.rcpt && !p.rpay && decide (p.at_ + 1000 ≤ now)) = some p) :
    exec (.rpayTimeout t seq now) s = if !s.paired ∨ !s.heartbeat then .next s else
      .next { ((s.modRx t fun x => { x with pkts := x.pkts.map (RxPkt.paid seq) }).bump Reg.reconSent).sendCell (.rpay t p.seq p.s p.payload p.at_) with
        answer := { bytes := p.payload, sent := true } } := by
  show execRpayTimeout t seq now s = _
  unfold execRpayTimeout
  rw [h]
  rfl
theorem exec_rpayTimeout_idle (now : Nat) (h : (s.rx t).pkts.find? (fun p => p.seq == seq && !p.rcpt && !p.rpay && decide (p.at_ + 1000 ≤ now)) = none ∨
    s.paired = false ∨ s.heartbeat = false) : exec (.rpayTimeout t seq now) s = .next s := by
  cases hf : (s.rx t).pkts.find? (fun p => p.seq == seq && !p.rcpt && !p.rpay && decide (p.at_ + 1000 ≤ now)) with
  | none =>
    show execRpayTimeout t seq now s = _
    unfold execRpayTimeout
    rw [hf]
  | some p =>
    refine (exec_rpayTimeout now hf).trans (if_pos ?_)
    rcases h with h | h | h
    · rw [hf] at h
      cases h
    · exact .inl (by rw [h]; rfl)
    · exact .inr (by rw [h]; rfl)
theorem rpayTimeout_sends (now : Nat) {p : RxPkt}
    (h : (s.rx t).pkts.find? (fun p => p.seq == seq && !p.rcpt && !p.rpay && decide (p.at_ + 1000 ≤ now)) = some p) (hp : s.paired = true)
    (hb : s.heartbeat = true) : Runs (.rpayTimeout t seq now) s fun u =>
    u.answer.bytes = p.payload ∧ u.answer.sent = true ∧ (∀ q ∈ (u.rx t).pkts, q.seq = seq → q.rpay = true) ∧
    (u.rx t).pkts.length = (s.rx t).pkts.length ∧ u.reg Reg.reconSent = (s.reg Reg.reconSent + 1) % 4294967296 ∧
    SameRegs s u [Reg.reconSent] ∧ SameMem s u := by
  have hexec := (exec_rpayTimeout now h).trans (if_neg (by rw [hp, hb]; decide))
  have hpkts : (((s.modRx t fun x => { x with pkts := x.pkts.map (RxPkt.paid seq) }).bump Reg.reconSent).rx t).pkts = (s.rx t).pkts.map (RxPkt.paid seq) :=
    (congrArg RxSt.pkts (rx_modRx s t fun x => { x with pkts := x.pkts.map (RxPkt.paid seq) }) :)
  have hcount : ((s.modRx t fun x => { x with pkts := x.pkts.map (RxPkt.paid seq) }).bump Reg.reconSent).reg Reg.reconSent =
    (s.reg Reg.reconSent + 1) % 4294967296 := reg_setReg_same _ _ _
  have hr : SameRegs s ((s.modRx t fun x => { x with pkts := x.pkts.map (RxPkt.paid seq) }).bump Reg.reconSent) [Reg.reconSent] :=
    sameRegs_setReg (s := s.modRx t fun x => { x with pkts := x.pkts.map (RxPkt.paid seq) }) rfl _ _
  generalize ((s.modRx t fun x => { x with pkts := x.pkts.map (RxPkt.paid seq) }).bump Reg.reconSent) = v at hexec hpkts hcount hr
  obtain ⟨hx, hrc⟩ := sendCell_rxs v (.rpay t p.seq p.s p.payload p.at_)
  generalize v.sendCell (.rpay t p.seq p.s p.payload p.at_) = w at hexec hx hrc
  have hw : ∀ a, ({ w with answer := a }.rx t).pkts = (s.rx t).pkts.map (RxPkt.paid seq) := fun a =>
    (congrArg (fun l => (NTable.get {} l t.val).pkts) hx).trans hpkts
  refine runs_of_exec rfl hexec fun hm => ⟨rfl, rfl, fun q hq he => ?_, ?_, (reg_of_regs hrc _).trans hcount, hr.trans (sameRegs_of_regs hrc _), hm⟩
  · rw [hw] at hq
    obtain ⟨q0, -, rfl⟩ := List.mem_map.mp hq
    unfold RxPkt.paid at he ⊢
    split
    · rfl
    · rename_i hne
      rw [if_neg hne] at he
      exact absurd he hne
  · rw [hw, List.length_map]

/-! Inputs that the partner forwards (R229). -/

theorem exec_lfwd_sap (n : Fin 128) (f : SapFrame) (s : State) : exec (.lfwd (.sap n f)) s =
    if s.ownPin n ∨ s.reg (Reg.sapState (s.sapIn n)) = 0 then .next s
    else .next (if s.sapH (s.sapIn n) then s.modSap n fun x => { x with
        frames := NTable.put [] x.frames ((2 * f.time * max 1 (s.sapHz (s.sapIn n)) + 1000000000) / 2000000000 + 1)
          ((List.range (s.sapSlotsOf (s.sapIn n))).map fun k => f.words.getD k 0 * 2 ^ (32 - s.nat (Reg.sapDataBits (s.sapIn n)))) }
      else (s.modSap n fun x => { x with
        frames := NTable.put [] x.frames ((2 * f.time * max 1 (s.sapHz (s.sapIn n)) + 1000000000) / 2000000000 + 1)
          ((List.range (s.sapSlotsOf (s.sapIn n))).map fun k => f.words.getD k 0 * 2 ^ (32 - s.nat (Reg.sapDataBits (s.sapIn n)))) }).sapFree (s.sapIn n) n
        ((2 * f.time * max 1 (s.sapHz (s.sapIn n)) + 1000000000) / 2000000000 + 1) (s.sapStamp (s.sapIn n) f.time)) := rfl
theorem lfwd_sap (n : Fin 128) (f : SapFrame) (hp : s.ownPin n = false) (hst : s.reg (Reg.sapState (s.sapIn n)) ≠ 0) :
    Runs (.lfwd (.sap n f)) s fun u => SameMem s u ∧
      (s.sapH (s.sapIn n) = true → NTable.get [] (u.sap n).frames ((2 * f.time * max 1 (s.sapHz (s.sapIn n)) + 1000000000) / 2000000000 + 1) =
        (List.range (s.sapSlotsOf (s.sapIn n))).map (fun k => f.words.getD k 0 * 2 ^ (32 - s.nat (Reg.sapDataBits (s.sapIn n)))) ∧ SameRegs s u []) := by
  have hn : ¬(s.ownPin n = true ∨ s.reg (Reg.sapState (s.sapIn n)) = 0) := by
    rw [hp]
    simp [hst]
  have hexec := (exec_lfwd_sap n f s).trans (if_neg hn)
  generalize (2 * f.time * max 1 (s.sapHz (s.sapIn n)) + 1000000000) / 2000000000 + 1 = idx at hexec ⊢
  generalize (List.range (s.sapSlotsOf (s.sapIn n))).map (fun k => f.words.getD k 0 * 2 ^ (32 - s.nat (Reg.sapDataBits (s.sapIn n)))) = row at hexec ⊢
  refine runs_of_exec rfl hexec fun hm => ⟨hm, fun hh => ?_⟩
  rw [if_pos hh]
  refine ⟨?_, sameRegs_of_regs rfl _⟩
  rw [sap_modSap_same]
  exact NTable.get_put_same _ _ _ _
theorem exec_lfwd_tev (n : Fin 24) (falling : Bool) (ns : Nat) (s : State) : exec (.lfwd (.tev n falling ns)) s =
    if s.ownPin (128 + n.val) ∨ s.reg (Reg.tevMode n) ≠ 1 then .next s else .next (s.capture n falling ((ns : Int) - s.tevOffsetNs n).toNat) := rfl
theorem restamp_frame (s : State) : Only (fun s => s.pair.stamps) (fun _ => False) s s.restamp := by
  unfold State.restamp
  refine .of_ite (fun _ => .refl _) fun _ => .of_overL _ (fun s e _ => ?_) s
  split
  · exact .refl _
  · exact .of_regs rfl rfl
theorem lfwd_stamps (n : Fin 128) (l : List Nat) : Runs (.lfwd (.stamps n l)) s fun u => NTable.get [] u.pair.stamps n = l ∧ SameRegs s u [] ∧ SameMem s u := by
  have hexec : exec (.lfwd (.stamps n l)) s = .next ((s.modPair fun x => { x with stamps := NTable.put [] x.stamps n l }).restamp) := rfl
  have hp : NTable.get [] (s.modPair fun x => { x with stamps := NTable.put [] x.stamps n l }).pair.stamps n = l := NTable.get_put_same [] s.pair.stamps n l
  have hr : (s.modPair fun x => { x with stamps := NTable.put [] x.stamps n l }).regs = s.regs := rfl
  generalize (s.modPair fun x => { x with stamps := NTable.put [] x.stamps n l }) = u at hexec hp hr
  have hf := restamp_frame u
  refine runs_of_exec rfl hexec fun hm => ⟨(congrArg (NTable.get [] · n) hf.view).trans hp, ?_, hm⟩
  exact (sameRegs_of_regs hr _).trans fun q _ => hf.regs q id

/-! Inputs that differ (R230). -/

/-- An input whose digest differs, as it is counted. -/
def State.inputDiffers (s : State) (e : Nat × Nat) : State := ((s.bump Reg.inDivCount).setReg Reg.inDivLast e.1).logEvent 0x0601 1 16 e.1 0
theorem inputDiffers_regs (s : State) (e : Nat × Nat) : (s.inputDiffers e).reg Reg.inDivCount = (s.reg Reg.inDivCount + 1) % 4294967296 ∧
    (s.inputDiffers e).reg Reg.inDivLast = e.1 ∧ SameRegs s (s.inputDiffers e) [Reg.inDivCount, Reg.inDivLast] := by
  refine ⟨?_, ?_, ?_⟩
  · exact (reg_of_regs (logEvent_regs _ _ _ _ _ _) _).trans ((reg_setReg_other _ _ _ _ (by simp)).trans (reg_setReg_same _ _ _))
  · exact (reg_of_regs (logEvent_regs _ _ _ _ _ _) _).trans (reg_setReg_same _ _ _)
  · exact ((SameRegs.setReg (by simp) _).trans (.setReg (by simp) _)).trans (sameRegs_of_regs (logEvent_regs _ _ _ _ _ _) _)
theorem overL_inputDiffers (l : List (Nat × Nat)) (s : State) : SameRegs s (overL l State.inputDiffers s) [Reg.inDivCount, Reg.inDivLast] ∧
    (l ≠ [] → (overL l State.inputDiffers s).reg Reg.inDivCount = (s.reg Reg.inDivCount + l.length) % 4294967296) ∧
    ∀ e, l.getLast? = some e → (overL l State.inputDiffers s).reg Reg.inDivLast = e.1 := by
  induction l using List.reverseRecOn with
  | nil => exact ⟨.refl _ _, fun h => absurd rfl h, fun e h => by cases h⟩
  | append_singleton l e ih =>
    obtain ⟨ih1, ih2, -⟩ := ih
    have hstep : overL (l ++ [e]) State.inputDiffers s = (overL l State.inputDiffers s).inputDiffers e := List.foldl_append
    rw [hstep]
    have hcount : ((overL l State.inputDiffers s).reg Reg.inDivCount + 1) % 4294967296 = (s.reg Reg.inDivCount + (l.length + 1 : Nat)) % 4294967296 := by
      by_cases hl : l = []
      · subst hl
        rfl
      · rw [ih2 hl]
        omega
    generalize overL l State.inputDiffers s = u at ih1 hcount
    obtain ⟨h1, h2, h3⟩ := inputDiffers_regs u e
    refine ⟨ih1.trans h3, fun _ => ?_, fun e' he => ?_⟩
    · rw [h1, List.length_append, List.length_singleton]
      exact hcount
    · rw [h2]
      simp at he
      rw [he]
theorem exec_idig (k : Nat) (l : List (Nat × Nat)) (s : State) : exec (.idig k l) s = if k + 1 ≠ s.tick ∨ !s.heartbeat then .next s
    else .next (overL (l.filter fun e => s.pair.idigs.any fun o => o.1 == e.1 && o.2 != e.2) State.inputDiffers s.heard) := rfl
theorem idig_counts {k : Nat} {l bad : List (Nat × Nat)} (hk : k + 1 = s.tick) (hb : s.heartbeat = true)
    (hbad : (l.filter fun e => s.pair.idigs.any fun o => o.1 == e.1 && o.2 != e.2) = bad) : Runs (.idig k l) s fun u =>
    (bad = [] → SameRegs s u []) ∧ (bad ≠ [] → u.reg Reg.inDivCount = (s.reg Reg.inDivCount + bad.length) % 4294967296 ∧
      ∀ e, bad.getLast? = some e → u.reg Reg.inDivLast = e.1) ∧ SameRegs s u [Reg.inDivCount, Reg.inDivLast] ∧ SameMem s u := by
  have hexec := (exec_idig k l s).trans (if_neg (by rw [hb]; simp [hk]))
  rw [hbad] at hexec
  obtain ⟨hr, -⟩ := heard_frame s
  generalize s.heard = v at hexec hr
  obtain ⟨h1, h2, h3⟩ := overL_inputDiffers bad v
  refine runs_of_exec rfl hexec fun hm => ⟨?_, fun hne => ⟨(h2 hne).trans (by rw [reg_of_regs hr]), h3⟩, (sameRegs_of_regs hr _).trans h1, hm⟩
  rintro rfl
  exact sameRegs_of_regs hr _

/-! Management that is acknowledged (R231). -/

theorem exec_mack (seq : Nat) (s : State) : exec (.mack seq) s = .next (s.heard.modPair fun x => { x with sent := x.sent.filter fun e => e.1 != seq }) := rfl
theorem mack_removes (seq : Nat) : Runs (.mack seq) s fun u => (∀ e ∈ u.pair.sent, e.1 ≠ seq) ∧ (∀ e ∈ s.pair.sent, e.1 ≠ seq → e ∈ u.pair.sent) ∧
    SameRegs s u [] ∧ SameMem s u := by
  have hexec := exec_mack seq s
  obtain ⟨hr, -, -, -, hp⟩ := heard_frame s
  generalize s.heard = v at hexec hr hp
  have hs : (v.modPair fun x => { x with sent := x.sent.filter fun e => e.1 != seq }).pair.sent = s.pair.sent.filter fun e => e.1 != seq :=
    congrArg (List.filter _) hp
  have hr' : (v.modPair fun x => { x with sent := x.sent.filter fun e => e.1 != seq }).regs = s.regs := hr
  generalize (v.modPair fun x => { x with sent := x.sent.filter fun e => e.1 != seq }) = u at hexec hs hr'
  refine runs_of_exec rfl hexec fun hm => ⟨fun e he => ?_, fun e he hne => ?_, sameRegs_of_regs hr' _, hm⟩
  · rw [hs, List.mem_filter] at he
    exact bne_iff_ne.mp he.2
  · rw [hs, List.mem_filter]
    exact ⟨he, bne_iff_ne.mpr hne⟩
theorem exec_mackTimeout (s : State) : exec .mackTimeout s =
    if !(s.pair.sent.any fun e => decide (e.2 ≤ s.tick + 4)) ∨ s.reg Reg.pairRole ≠ 0 then .next s
    else .next ((s.modPair fun x => { x with sent := x.sent.filter fun e => !decide (e.2 ≤ s.tick + 4) }).when (s.reg Reg.pairState == 3) fun s => s.pairTo 1) := rfl
theorem mackTimeout_idle (h : (∀ e ∈ s.pair.sent, s.tick + 4 < e.2) ∨ s.reg Reg.pairRole ≠ 0) : exec .mackTimeout s = .next s := by
  refine (exec_mackTimeout s).trans (if_pos (h.imp_left fun h => ?_))
  simpa using h
theorem mackTimeout_late (h : ∃ e ∈ s.pair.sent, e.2 ≤ s.tick + 4) (hr : s.reg Reg.pairRole = 0) :
    Runs .mackTimeout s (fun u => (∀ e ∈ u.pair.sent, s.tick + 4 < e.2) ∧ SameRegs s u [Reg.pairState, Reg.notifyDropped] ∧ SameMem s u) ∧
    (s.reg Reg.pairState = 3 → Runs .mackTimeout s fun u => u.reg Reg.pairState = 1) ∧
    (s.reg Reg.pairState ≠ 3 → Runs .mackTimeout s fun u => SameRegs s u []) := by
  have hn : ¬((!(s.pair.sent.any fun e => decide (e.2 ≤ s.tick + 4))) = true ∨ s.reg Reg.pairRole ≠ 0) := by
    rw [hr]
    simpa using h
  have hexec := (exec_mackTimeout s).trans (if_neg hn)
  have hs : ∀ e ∈ (s.modPair fun x => { x with sent := x.sent.filter fun e => !decide (e.2 ≤ s.tick + 4) }).pair.sent, s.tick + 4 < e.2 := fun e he => by
    have h2 := (List.mem_filter.mp he).2
    simpa using h2
  have hr' : (s.modPair fun x => { x with sent := x.sent.filter fun e => !decide (e.2 ≤ s.tick + 4) }).regs = s.regs := rfl
  generalize (s.modPair fun x => { x with sent := x.sent.filter fun e => !decide (e.2 ≤ s.tick + 4) }) = v at hexec hs hr'
  refine ⟨runs_of_exec rfl hexec fun hm => ?_, fun h3 => runs_of_exec rfl hexec fun _ => ?_, fun h3 => runs_of_exec rfl hexec fun _ => ?_⟩
  · have hf := Only.when (f := fun s => s.pairTo 1) (s.reg Reg.pairState == 3) (pairTo_frame v 1)
    refine ⟨?_, (sameRegs_of_regs hr' _).trans hf.sameRegs, hm⟩
    have hp : (v.when (s.reg Reg.pairState == 3) fun s => s.pairTo 1).pair = v.pair := congrArg Prod.snd hf.view
    rw [hp]
    exact hs
  · rw [h3]
    exact pairTo_state (s := v) (by decide)
  · rw [beq_eq_false_iff_ne.mpr h3]
    exact sameRegs_of_regs hr' _
end

/-- Settles O50: receipts, payloads, forwarded inputs and their digests, and management that is acknowledged or late. -/
theorem pairInputsAndManagement : Obligations.PairInputsAndManagement := by
  unfold Obligations.PairInputsAndManagement
  intro t seq s
  refine ⟨rcpt_waits, rcpt_marks, fun index at_ payload p h => ⟨fun hc => ?_, fun hc => ?_⟩, fun index at_ payload h => ⟨exec_rpay_stopped h,
    fun hst => ⟨rpay_counts h hst, rpay_accepts h hst⟩⟩, fun now r hr => ⟨?_, fun h => exec_rpayTimeout_idle now (by rw [hr]; exact h)⟩,
    fun n f q hq => ?_, fun n falling ns => ⟨fun hp hm => ⟨fun h => ?_, fun h => ?_⟩, fun h => (exec_lfwd_tev n falling ns s).trans (if_pos h)⟩,
    lfwd_stamps, fun k l h => ?_, fun k l bad hk hb hbad => idig_counts hk hb hbad, mack_removes seq, mackTimeout_late, mackTimeout_idle⟩
  · have hexec := exec_rpay_held (seq := seq) (payload := payload) (at_ := at_) h
    rw [bne_iff_ne.mpr hc] at hexec
    exact runs_of_exec rfl hexec fun _ => ⟨reg_setReg_same _ _ _, .setReg (by simp) _, rfl⟩
  · refine (exec_rpay_held h).trans ?_
    rw [hc, bne_self_eq_false]
    rfl
  · rintro p rfl hp hb
    exact rpayTimeout_sends now hr hp hb
  · subst hq
    exact ⟨lfwd_sap n f, fun h => (exec_lfwd_sap n f s).trans (if_pos h)⟩
  · have hexec := (exec_lfwd_tev n falling ns s).trans (if_neg (by rw [hp, hm]; decide))
    obtain ⟨h1, h2, h3⟩ := capture_room (falling := falling) (stamp := ((ns : Int) - s.tevOffsetNs n).toNat) h
    refine runs_of_exec rfl hexec fun hmem => ⟨?_, h2, h3, hmem⟩
    rw [h1]
    exact List.length_append.trans rfl
  · have hexec := (exec_lfwd_tev n falling ns s).trans (if_neg (by rw [hp, hm]; decide))
    obtain ⟨h1, h2, h3⟩ := capture_full (falling := falling) (stamp := ((ns : Int) - s.tevOffsetNs n).toNat) h
    exact runs_of_exec rfl hexec fun hmem => ⟨by rw [h1]; rfl, h2, h3, hmem⟩
  · exact (exec_idig k l s).trans (if_pos (h.imp_right fun h => by rw [h]; rfl))
end Sys2Proof.Machine
end

section
/-!
PROOFS. Graft and leave (08, R253 to R260).
-/
namespace Sys2Proof.Machine

section
variable {s : State}

/-! The start and the end of a graft. -/

theorem exec_graftStart (h : s.reg Reg.pairState = 4) : exec .graftStart s = .next (s.graftBegin.reply 0) := by
  refine if_neg ?_
  rw [paired_of_state h (by decide), h]
  decide
theorem graftBegin_suspect (h : s.reg Reg.pairSuspect ≠ 0) : s.graftBegin = s.setReg Reg.graftResult 0x18 := if_pos h
theorem graftBegin_target (h : s.reg Reg.pairSuspect = 0) : s.graftBegin.reg Reg.pairState = 2 ∧ s.graftBegin.reg Reg.pairRole = 1 ∧
    s.graftBegin.reg Reg.graftPhase = 1 ∧ s.graftBegin.reg Reg.graftResult = 2 ∧ s.graftBegin.pair.target = true ∧
    s.graftBegin.pair.graftFrom = s.tick := by
  unfold State.graftBegin
  rw [if_neg (not_not_intro h)]
  have h1 : (s.setRegs [(Reg.pairRole, 1), (Reg.graftPhase, 1), (Reg.graftResult, 2), (Reg.graftJoinTick, 0), (Reg.pairPartnerLost, 0)]).reg Reg.pairRole = 1 := by
    simp only [State.setRegs, List.foldl_cons, List.foldl_nil]
    rw [reg_setReg_other _ _ _ _ (by simp), reg_setReg_other _ _ _ _ (by simp), reg_setReg_other _ _ _ _ (by simp), reg_setReg_other _ _ _ _ (by simp),
      reg_setReg_same]
  have h2 : (s.setRegs [(Reg.pairRole, 1), (Reg.graftPhase, 1), (Reg.graftResult, 2), (Reg.graftJoinTick, 0), (Reg.pairPartnerLost, 0)]).reg Reg.graftPhase = 1 := by
    simp only [State.setRegs, List.foldl_cons, List.foldl_nil]
    rw [reg_setReg_other _ _ _ _ (by simp), reg_setReg_other _ _ _ _ (by simp), reg_setReg_other _ _ _ _ (by simp), reg_setReg_same]
  have h3 : (s.setRegs [(Reg.pairRole, 1), (Reg.graftPhase, 1), (Reg.graftResult, 2), (Reg.graftJoinTick, 0), (Reg.pairPartnerLost, 0)]).reg Reg.graftResult = 2 := by
    simp only [State.setRegs, List.foldl_cons, List.foldl_nil]
    rw [reg_setReg_other _ _ _ _ (by simp), reg_setReg_other _ _ _ _ (by simp), reg_setReg_same]
  generalize s.setRegs [(Reg.pairRole, 1), (Reg.graftPhase, 1), (Reg.graftResult, 2), (Reg.graftJoinTick, 0), (Reg.pairPartnerLost, 0)] = u at h1 h2 h3 ⊢
  have hr : (u.modPair fun x => { x with target := true, graftFrom := s.tick, phaseFrom := s.tick, settled := 0, graftAt := none, waitFrom := none,
                                         unsettled := [], mirror := [], srcTick := [] }).regs = u.regs := rfl
  have ht : (u.modPair fun x => { x with target := true, graftFrom := s.tick, phaseFrom := s.tick, settled := 0, graftAt := none, waitFrom := none,
                                         unsettled := [], mirror := [], srcTick := [] }).pair.target = true := rfl
  have hg : (u.modPair fun x => { x with target := true, graftFrom := s.tick, phaseFrom := s.tick, settled := 0, graftAt := none, waitFrom := none,
                                         unsettled := [], mirror := [], srcTick := [] }).pair.graftFrom = s.tick := rfl
  generalize (u.modPair fun x => { x with target := true, graftFrom := s.tick, phaseFrom := s.tick, settled := 0, graftAt := none, waitFrom := none,
                                          unsettled := [], mirror := [], srcTick := [] }) = v at hr ht hg ⊢
  have hf := (pairTo_frame v 2).regs
  refine ⟨pairTo_state (by decide), ?_, ?_, ?_, (congrArg PairSt.target (pairTo_pair v 2)).trans ht, (congrArg PairSt.graftFrom (pairTo_pair v 2)).trans hg⟩
  · exact (hf _ (by simp)).trans ((reg_of_regs hr _).trans h1)
  · exact (hf _ (by simp)).trans ((reg_of_regs hr _).trans h2)
  · exact (hf _ (by simp)).trans ((reg_of_regs hr _).trans h3)

/-- What every end of a graft leaves. -/
theorem graftEnd_stages {code : Nat} (h : s.reg Reg.pairState = 2) : ∃ u : State, u.reg Reg.graftResult = code ∧ u.reg Reg.graftPhase = 0 ∧
    SameRegs s u [Reg.graftResult, Reg.graftPhase] ∧ u.pair.target = s.pair.target ∧
    s.graftEnd code = if code = 1 then u.pairTo 3 else if s.pair.target then u.toStandby 255 false else u.pairTo 1 := by
  unfold State.graftEnd
  rw [if_neg (not_not_intro h)]
  extract_lets ok s1 s2
  have hr1 : s1.reg Reg.graftResult = code := (reg_of_regs (logEvent_regs _ _ _ _ _ _) _).trans (reg_setReg_same _ _ _)
  have hs1 : SameRegs s s1 [Reg.graftResult, Reg.graftPhase] := SameRegs.trans (.setReg (by simp) _) (sameRegs_of_regs (logEvent_regs _ _ _ _ _ _) _)
  have hr2 : s2.regs = (s1.setReg Reg.graftPhase 0).regs := modPair_regs _ _
  refine ⟨s2, ?_, ?_, ?_, rfl, if_congr beq_iff_eq rfl rfl⟩
  · exact (reg_of_regs hr2 _).trans ((reg_setReg_other _ _ _ _ (by simp)).trans hr1)
  · exact (reg_of_regs hr2 _).trans (reg_setReg_same _ _ _)
  · exact (hs1.trans (.setReg (by simp) _)).trans (sameRegs_of_regs hr2 _)
/-- A graft that ends without a join. -/
theorem graftEnd_clears {code : Nat} (h : s.reg Reg.pairState = 2) (hc : code ≠ 1) : (s.graftEnd code).reg Reg.graftPhase = 0 ∧
    (s.graftEnd code).reg Reg.graftResult = code ∧ (s.graftEnd code).reg Reg.pairState = (if s.pair.target then 4 else 1) ∧
    (s.pair.target = true → (s.graftEnd code).reg Reg.pairRole = 255) := by
  obtain ⟨u, h1, h2, -, -, heq⟩ := graftEnd_stages (code := code) h
  obtain ⟨hres, hst⟩ := graftEnd_fails h hc
  refine ⟨?_, hres, hst, fun ht => ?_⟩
  · rw [heq, if_neg hc]
    split
    · exact ((toStandby_frame u 255 false).regs _ (by simp)).trans h2
    · exact ((pairTo_frame u 1).regs _ (by simp)).trans h2
  · rw [heq, if_neg hc, if_pos ht]
    exact (toStandby_regs u 255 false).2.1
theorem graftJoin_runs (h : s.reg Reg.pairState = 2) (h6 : s.reg Reg.graftPhase = 6) (ht : s.nat Reg.graftJoinTick ≤ s.tick) : Runs .graftJoin s fun t =>
    t.reg Reg.pairState = 3 ∧ t.reg Reg.graftResult = 1 ∧ t.reg Reg.graftPhase = 0 ∧
    SameRegs s t [Reg.pairState, Reg.graftResult, Reg.graftPhase, Reg.notifyDropped] ∧ SameMem s t := by
  have hexec : exec .graftJoin s = .next (s.graftEnd 1) := if_pos ⟨h, h6, ht⟩
  obtain ⟨u, h1, h2, h3, -, heq⟩ := graftEnd_stages (code := 1) h
  rw [if_pos rfl] at heq
  rw [heq] at hexec
  have hf := (pairTo_frame u 3).sameRegs
  exact runs_of_exec rfl hexec fun hm => ⟨pairTo_state (by decide), (hf _ (by simp)).trans h1, (hf _ (by simp)).trans h2,
    (h3.mono (by simp)).trans (hf.mono (by simp)), hm⟩

/-! The phases of a graft (Table 8.8). -/

theorem graftPhaseTo_frame (s : State) (k : Nat) : (s.graftPhaseTo k).reg Reg.graftPhase = k ∧ (s.graftPhaseTo k).pair.phaseFrom = s.tick ∧
    (s.graftPhaseTo k).pair.settled = 0 ∧ SameRegs s (s.graftPhaseTo k) [Reg.graftPhase] :=
  ⟨(reg_of_regs (modPair_regs _ _) _).trans (reg_setReg_same _ _ _), rfl, rfl,
    SameRegs.trans (.setReg (by simp) _) (sameRegs_of_regs (modPair_regs _ _) _)⟩
section
variable {partner : ChipId} {copy : GraftCopy}

/-- A step of a graft under way. -/
theorem exec_graftPhaseComplete : exec (.graftPhaseComplete partner copy) s = execGraftPhaseComplete partner copy s := rfl
variable (h : s.reg Reg.pairState = 2)
include h

theorem exec_config (hp : s.reg Reg.graftPhase = 1) : exec (.graftPhaseComplete partner copy) s = if !s.heartbeat then .next s
    else if s.compatible partner && !s.sameSeat then .next (s.graftPhaseTo 2) else .next (s.graftEnd 0x12) := by
  have hn : s.nat Reg.graftPhase = 1 := congrArg Int.toNat hp
  rewrite [exec_graftPhaseComplete, execGraftPhaseComplete, if_neg (not_not_intro h), hn]
  rfl
theorem exec_clock (hp : s.reg Reg.graftPhase = 2) : exec (.graftPhaseComplete partner copy) s =
    if s.clockAligned then .next (s.graftPhaseTo 3) else .next s := by
  have hn : s.nat Reg.graftPhase = 2 := congrArg Int.toNat hp
  rewrite [exec_graftPhaseComplete, execGraftPhaseComplete, if_neg (not_not_intro h), hn]
  rfl
theorem exec_copies (hp : s.reg Reg.graftPhase = 3) : exec (.graftPhaseComplete partner copy) s =
    .next (if s.pair.target then ((s.takeCopy copy).takeLasts copy).graftPhaseTo 4
      else (s.graftPhaseTo 4).modPair fun x => { x with mirrored := 0 }) := by
  have hn : s.nat Reg.graftPhase = 3 := congrArg Int.toNat hp
  rewrite [exec_graftPhaseComplete, execGraftPhaseComplete, if_neg (not_not_intro h), hn]
  rfl
theorem exec_mirrors (hp : s.reg Reg.graftPhase = 4) : exec (.graftPhaseComplete partner copy) s =
    if s.pair.target ∨ s.pageCount ≤ s.pair.mirrored then .next (s.graftPhaseTo 5) else .next s := by
  have hn : s.nat Reg.graftPhase = 4 := congrArg Int.toNat hp
  rewrite [exec_graftPhaseComplete, execGraftPhaseComplete, if_neg (not_not_intro h), hn]
  rfl
theorem exec_settles (hp : s.reg Reg.graftPhase = 5) : exec (.graftPhaseComplete partner copy) s =
    if s.pair.settled < 64 then .next s else .next ((s.graftPhaseTo 6).setReg Reg.graftJoinTick (s.tick + 64 : Nat)) := by
  have hn : s.nat Reg.graftPhase = 5 := congrArg Int.toNat hp
  rewrite [exec_graftPhaseComplete, execGraftPhaseComplete, if_neg (not_not_intro h), hn]
  rfl
theorem config_passes (hp : s.reg Reg.graftPhase = 1) (hb : s.heartbeat = true) (hc : partner = s.chipId) (hs : s.sameSeat = false) :
    Runs (.graftPhaseComplete partner copy) s fun t =>
      t.reg Reg.graftPhase = 2 ∧ t.pair.phaseFrom = s.tick ∧ SameRegs s t [Reg.graftPhase] ∧ SameMem s t := by
  have hok : (s.compatible partner && !s.sameSeat) = true := by
    rw [hs, State.compatible, beq_iff_eq.mpr hc]
    rfl
  have hexec := (exec_config (partner := partner) (copy := copy) h hp).trans ((if_neg (by rw [hb]; decide)).trans (if_pos hok))
  obtain ⟨h1, h2, -, h4⟩ := graftPhaseTo_frame s 2
  exact runs_of_exec rfl hexec fun hm => ⟨h1, h2, h4, hm⟩
theorem config_fails (hp : s.reg Reg.graftPhase = 1) (hb : s.heartbeat = true) (hc : partner ≠ s.chipId ∨ s.sameSeat = true) :
    Runs (.graftPhaseComplete partner copy) s fun t => t.reg Reg.graftPhase = 0 ∧ t.reg Reg.graftResult = 0x12 ∧
      t.reg Reg.pairState = (if s.pair.target then 4 else 1) ∧ (s.pair.target = true → t.reg Reg.pairRole = 255) ∧ SameMem s t := by
  have hno : ¬(s.compatible partner && !s.sameSeat) = true := by
    rw [State.compatible]
    rcases hc with hc | hc
    · simp [hc]
    · simp [hc]
  have hexec := (exec_config (partner := partner) (copy := copy) h hp).trans ((if_neg (by rw [hb]; decide)).trans (if_neg hno))
  obtain ⟨h1, h2, h3, h4⟩ := graftEnd_clears (code := 0x12) h (by decide)
  exact runs_of_exec rfl hexec fun hm => ⟨h1, h2, h3, h4, hm⟩
theorem copies_next (hp : s.reg Reg.graftPhase = 3) : Runs (.graftPhaseComplete partner copy) s fun t =>
    t.reg Reg.graftPhase = 4 ∧ t.pair.phaseFrom = s.tick ∧ SameMem s t := by
  have hexec := exec_copies (partner := partner) (copy := copy) h hp
  obtain ⟨u, hu⟩ : ∃ u : State, exec (.graftPhaseComplete partner copy) s = .next u ∧ u.reg Reg.graftPhase = 4 ∧ u.pair.phaseFrom = u.tick := by
    refine ⟨_, hexec, ?_⟩
    split
    · obtain ⟨h1, h2, -⟩ := graftPhaseTo_frame ((s.takeCopy copy).takeLasts copy) 4
      exact ⟨h1, h2⟩
    · obtain ⟨h1, h2, -⟩ := graftPhaseTo_frame s 4
      exact ⟨h1, h2⟩
  obtain ⟨hexec, h4, hfrom⟩ := hu
  exact runs_of_exec rfl hexec fun hm => ⟨h4, hfrom.trans (exec_tick rfl hexec), hm⟩
theorem copies_source (hp : s.reg Reg.graftPhase = 3) (ht : s.pair.target = false) : Runs (.graftPhaseComplete partner copy) s fun t =>
    t.pair.mirrored = 0 ∧ SameRegs s t [Reg.graftPhase] := by
  have hexec := (exec_copies (partner := partner) (copy := copy) h hp).trans (congrArg _ (if_neg (by rw [ht]; decide)))
  exact runs_of_exec rfl hexec fun _ => ⟨rfl, (graftPhaseTo_frame s 4).2.2.2⟩
end
/-- What the copy of CONFIG hands over: holdings, offers and acceptances. -/
@[reducible] def State.handed (s : State) : List Holding × List HoWord × List HoWord := (s.holdings, s.offers, s.accepts)
theorem takeCopy_handed (s : State) (c : GraftCopy) : (s.takeCopy c).handed = (c.holdings.flatMap fun e => (records 16 e.2).map (unitsHeld e.1),
    c.offers.map (fun e => ⟨e.1, e.2.1, e.2.2⟩), c.accepts.map fun e => ⟨e.1, e.2.1, e.2.2⟩) := by
  unfold State.takeCopy
  extract_lets s1 s2 hold s3
  exact overL_keeps (g := State.handed) _ s3 fun _ _ _ => rfl
theorem copies_target {partner : ChipId} {copy : GraftCopy} (h : s.reg Reg.pairState = 2) (hp : s.reg Reg.graftPhase = 3) (ht : s.pair.target = true)
    (hl : copy.lasts = []) : Runs (.graftPhaseComplete partner copy) s fun t =>
    t.holdings = (copy.holdings.flatMap fun e => (records 16 e.2).map (unitsHeld e.1)) ∧
    t.offers = (copy.offers.map fun e => ⟨e.1, e.2.1, e.2.2⟩) ∧ t.accepts = (copy.accepts.map fun e => ⟨e.1, e.2.1, e.2.2⟩) := by
  have hexec := (exec_copies (partner := partner) (copy := copy) h hp).trans (congrArg _ (if_pos ht))
  have hnone : (s.takeCopy copy).takeLasts copy = s.takeCopy copy := by
    unfold State.takeLasts
    rw [hl]
    rfl
  rw [hnone] at hexec
  have hc := takeCopy_handed s copy
  generalize s.takeCopy copy = u at hexec hc
  have hu : (u.graftPhaseTo 4).handed = u.handed := rfl
  have hall := hu.trans hc
  exact runs_of_exec rfl hexec fun _ => ⟨congrArg Prod.fst hall, congrArg (fun x => x.2.1) hall, congrArg (fun x => x.2.2) hall⟩

section
variable {partner : ChipId} (h : s.reg Reg.pairState = 2)
include h

/-- A phase that has lasted too long. -/
theorem graftPhaseTimeout_ends {code : Nat} (hc : code ≠ 1) (hexec : exec (.graftPhaseTimeout partner) s = .next (s.graftEnd code)) :
    Runs (.graftPhaseTimeout partner) s fun t => t.reg Reg.graftPhase = 0 ∧ t.reg Reg.graftResult = code ∧
      t.reg Reg.pairState = (if s.pair.target then 4 else 1) ∧ (s.pair.target = true → t.reg Reg.pairRole = 255) ∧ SameMem s t := by
  obtain ⟨h1, h2, h3, h4⟩ := graftEnd_clears (code := code) h hc
  exact runs_of_exec rfl hexec fun hm => ⟨h1, h2, h3, h4, hm⟩
theorem exec_timeout_config (hp : s.reg Reg.graftPhase = 1) : exec (.graftPhaseTimeout partner) s =
    if s.tick < s.pair.phaseFrom + 8000 then .next s
    else if s.heartbeat ∧ !s.compatible partner then .next (s.graftEnd 0x12)
    else if s.reg (Reg.weltState 0) = 3 ∨ s.reg (Reg.weltState 1) = 3 then .next (s.graftEnd 0x11)
    else .next (s.graftEnd 0x10) := by
  have h0 : exec (.graftPhaseTimeout partner) s = execGraftPhaseTimeout partner s := rfl
  have hn : s.nat Reg.graftPhase = 1 := congrArg Int.toNat hp
  rewrite [h0, execGraftPhaseTimeout, if_neg (not_not_intro h), hn]
  rfl
theorem exec_timeout_clock (hp : s.reg Reg.graftPhase = 2) : exec (.graftPhaseTimeout partner) s =
    if s.tick < s.pair.phaseFrom + 80000 then .next s else .next (s.graftEnd 0x13) := by
  have h0 : exec (.graftPhaseTimeout partner) s = execGraftPhaseTimeout partner s := rfl
  have hn : s.nat Reg.graftPhase = 2 := congrArg Int.toNat hp
  rewrite [h0, execGraftPhaseTimeout, if_neg (not_not_intro h), hn]
  rfl
theorem exec_timeout_settle (hp : s.reg Reg.graftPhase = 5) : exec (.graftPhaseTimeout partner) s =
    if s.tick < s.pair.graftFrom + 480000 then .next s else .next (s.graftEnd 0x14) := by
  have h0 : exec (.graftPhaseTimeout partner) s = execGraftPhaseTimeout partner s := rfl
  have hn : s.nat Reg.graftPhase = 5 := congrArg Int.toNat hp
  rewrite [h0, execGraftPhaseTimeout, if_neg (not_not_intro h), hn]
  rfl
/-- The code of a CONFIG that has lasted too long. -/
theorem timeout_config (hp : s.reg Reg.graftPhase = 1) (ht : s.pair.phaseFrom + 8000 ≤ s.tick) : ∃ code : Nat, code ≠ 1 ∧
    (code : Int) = (if s.heartbeat = true ∧ partner ≠ s.chipId then 0x12
      else if s.reg (Reg.weltState 0) = 3 ∨ s.reg (Reg.weltState 1) = 3 then 0x11 else 0x10) ∧
    exec (.graftPhaseTimeout partner) s = .next (s.graftEnd code) := by
  have hexec := (exec_timeout_config (partner := partner) h hp).trans (if_neg (Nat.not_lt.mpr ht))
  have hc : (s.heartbeat = true ∧ (!s.compatible partner) = true) ↔ s.heartbeat = true ∧ partner ≠ s.chipId := by
    simp [State.compatible]
  rw [hexec]
  by_cases h1 : s.heartbeat = true ∧ partner ≠ s.chipId
  · exact ⟨0x12, by decide, (if_pos h1).symm, if_pos (hc.mpr h1)⟩
  · by_cases h2 : s.reg (Reg.weltState 0) = 3 ∨ s.reg (Reg.weltState 1) = 3
    · exact ⟨0x11, by decide, ((if_neg h1).trans (if_pos h2)).symm, (if_neg fun h => h1 (hc.mp h)).trans (if_pos h2)⟩
    · exact ⟨0x10, by decide, ((if_neg h1).trans (if_neg h2)).symm, (if_neg fun h => h1 (hc.mp h)).trans (if_neg h2)⟩
theorem graftPhaseTimeout_runs (limit : Nat) (code : Int)
    (hc : (s.reg Reg.graftPhase = 1 ∧ limit = s.pair.phaseFrom + 8000 ∧
        code = (if s.heartbeat = true ∧ partner ≠ s.chipId then 0x12
          else if s.reg (Reg.weltState 0) = 3 ∨ s.reg (Reg.weltState 1) = 3 then 0x11 else 0x10)) ∨
      (s.reg Reg.graftPhase = 2 ∧ limit = s.pair.phaseFrom + 80000 ∧ code = 0x13) ∨
      (s.reg Reg.graftPhase = 5 ∧ limit = s.pair.graftFrom + 480000 ∧ code = 0x14)) :
    (limit ≤ s.tick → Runs (.graftPhaseTimeout partner) s fun t => t.reg Reg.graftPhase = 0 ∧ t.reg Reg.graftResult = code ∧
      t.reg Reg.pairState = (if s.pair.target then 4 else 1) ∧ (s.pair.target = true → t.reg Reg.pairRole = 255) ∧ SameMem s t) ∧
    (s.tick < limit → exec (.graftPhaseTimeout partner) s = .next s) := by
  rcases hc with ⟨hp, rfl, rfl⟩ | ⟨hp, rfl, rfl⟩ | ⟨hp, rfl, rfl⟩
  · refine ⟨fun ht => ?_, fun ht => (exec_timeout_config h hp).trans (if_pos ht)⟩
    obtain ⟨code, hne, hcode, hexec⟩ := timeout_config (partner := partner) h hp ht
    rw [← hcode]
    exact graftPhaseTimeout_ends h hne hexec
  · exact ⟨fun ht => graftPhaseTimeout_ends h (by decide) ((exec_timeout_clock h hp).trans (if_neg (Nat.not_lt.mpr ht))),
      fun ht => (exec_timeout_clock h hp).trans (if_pos ht)⟩
  · exact ⟨fun ht => graftPhaseTimeout_ends h (by decide) ((exec_timeout_settle h hp).trans (if_neg (Nat.not_lt.mpr ht))),
      fun ht => (exec_timeout_settle h hp).trans (if_pos ht)⟩
end

/-! Pages (R255, R256). -/

theorem exec_mirror (page w : Nat) (data : List Byte) (s : State) : exec (.mirror page w data) s =
    if s.takesPages then .next (s.heard.modPair fun x => { x with mirror := x.mirror ++ [(page, w, data)] }) else .next s.heard := rfl
theorem exec_hot (page w : Nat) (data : List Byte) (s : State) : exec (.hot page w data) s =
    if s.takesPages then .next (s.heard.putPage (page, w, data)) else .next s.heard := rfl
/-- What a cell that is heard leaves of the pages. -/
theorem heard_pages (s : State) : s.heard.mem = s.mem ∧ s.heard.pair.mirror = s.pair.mirror ∧ s.heard.pair.pageTick = s.pair.pageTick ∧
    s.heard.pair.unsettled = s.pair.unsettled ∧ s.heard.pair.target = s.pair.target := by
  rcases heard_cases s with h | h
  · rw [h]
    exact ⟨rfl, rfl, rfl, rfl, rfl⟩
  · rw [h]
    exact ⟨rfl, rfl, rfl, rfl, rfl⟩
theorem mirror_takes (page w : Nat) (data : List Byte) (h : s.takesPages = true) : Runs (.mirror page w data) s fun t =>
    t.pair.mirror = s.pair.mirror ++ [(page, w, data)] ∧ SameRegs s t [] ∧ SameMem s t := by
  have hexec := (exec_mirror page w data s).trans (if_pos h)
  obtain ⟨hr, -⟩ := heard_frame s
  obtain ⟨-, hp, -⟩ := heard_pages s
  generalize s.heard = u at hexec hr hp
  exact runs_of_exec rfl hexec fun hm => ⟨congrArg (· ++ [(page, w, data)]) hp, sameRegs_of_regs (t := u.modPair _) hr _, hm⟩
theorem putPage_tick (s : State) (page w : Nat) (data : List Byte) :
    NTable.get 0 (s.putPage (page, w, data)).pair.pageTick (page / 4096) = w := NTable.get_put_same 0 (s.mapStore page data).pair.pageTick (page / 4096) w
theorem hot_stores (page w : Nat) (data : List Byte) (h : s.takesPages = true) (hp : plainMemory page = true) : Runs (.hot page w data) s fun t =>
    t.bytes page data.length = data ∧ (∀ a, a < page ∨ page + data.length ≤ a → t.byte a = s.byte a) ∧ SameRegs s t [] := by
  have hexec := (exec_hot page w data s).trans (if_pos h)
  obtain ⟨hr, -⟩ := heard_frame s
  obtain ⟨hm, -⟩ := heard_pages s
  generalize s.heard = u at hexec hr hm
  have hst : (u.putPage (page, w, data)).regs = (u.store page data).regs ∧ (u.putPage (page, w, data)).mem = (u.store page data).mem := by
    unfold State.putPage
    rw [mapStore_plain hp]
    exact ⟨rfl, rfl⟩
  generalize u.putPage (page, w, data) = t at hexec hst
  obtain ⟨hregs, hmem⟩ := hst
  have hbyte (a : Nat) : t.byte a = (u.store page data).byte a := byte_of_mem hmem a
  refine ⟨t, hexec, ?_, fun a ha => ?_, sameRegs_of_regs (hregs.trans ((store_regs _ _ _).trans hr)) _⟩
  · exact bytes_stored rfl fun a => hbyte a
  · exact (hbyte a).trans ((byte_store_outside ha).trans (byte_of_mem hm a))
theorem exec_pdig_other (l : List (Nat × Nat × Nat)) (h : s.reg Reg.pairState ≠ 2) : exec (.pdig l) s = .next s.heard := if_pos h
/-- The pages of a digest cell that differ here, and the pages that are then not settled (R256). -/
def State.badPages (s : State) (l : List (Nat × Nat × Nat)) : List Nat := (l.filter fun e => s.pageEntry e.1 != e).map (·.1)
def State.leftPages (s : State) (l : List (Nat × Nat × Nat)) : List Nat :=
  (s.pair.unsettled.filter fun a => !(l.any fun e => e.1 == a)) ++ s.badPages l
theorem mem_leftPages (s : State) (l : List (Nat × Nat × Nat)) (a : Nat) : a ∈ s.leftPages l ↔
    (a ∈ s.pair.unsettled ∧ ∀ e ∈ l, e.1 ≠ a) ∨ ∃ e ∈ l, e.1 = a ∧ s.pageEntry a ≠ e := by
  rw [State.leftPages, List.mem_append, List.mem_filter, State.badPages, List.mem_map]
  refine or_congr (and_congr_right fun _ => ?_) ⟨?_, ?_⟩
  · simp
  · rintro ⟨e, he, rfl⟩
    obtain ⟨hl, hne⟩ := List.mem_filter.mp he
    exact ⟨e, hl, rfl, bne_iff_ne.mp hne⟩
  · rintro ⟨e, hl, rfl, hne⟩
    exact ⟨e, List.mem_filter.mpr ⟨hl, bne_iff_ne.mpr hne⟩, rfl⟩
theorem sendCell_unsettled (s : State) (c : Cell) : (s.sendCell c).pair.unsettled = s.pair.unsettled := by
  have hon (c : Cell) (x : PairSt) (l : Nat) : (x.sendOn c l).unsettled = x.unsettled := rfl
  unfold State.sendCell
  split
  · exact foldl_keeps (g := PairSt.unsettled) s.linksUp s.pair fun x l _ => hon c x l
  · split
    · rfl
    · rfl
theorem pdig_follows (l : List (Nat × Nat × Nat)) (h : s.reg Reg.pairState = 2) : Runs (.pdig l) s fun t =>
    (∀ a, a ∈ t.pair.unsettled ↔ (a ∈ s.pair.unsettled ∧ ∀ e ∈ l, e.1 ≠ a) ∨ ∃ e ∈ l, e.1 = a ∧ s.pageEntry a ≠ e) ∧
    t.reg Reg.graftPagesLeft = t.pair.unsettled.length ∧ SameRegs s t [Reg.graftPagesLeft] ∧ SameMem s t := by
  obtain ⟨u, hexec, hleft, hcount, hr⟩ : ∃ u : State, exec (.pdig l) s = .next (if s.pair.target && !(s.badPages l).isEmpty then
      u.sendCell (.pdig ((s.badPages l).map s.pageEntry)) else u) ∧ u.pair.unsettled = s.leftPages l ∧
      u.reg Reg.graftPagesLeft = (s.leftPages l).length ∧ SameRegs s u [Reg.graftPagesLeft] := by
    obtain ⟨hr, -⟩ := heard_frame s
    refine ⟨_, if_neg (not_not_intro h), rfl, reg_setReg_same _ _ _, ?_⟩
    exact SameRegs.trans (t := s.heard.modPair _) (sameRegs_of_regs ((modPair_regs _ _).trans hr) _) (.setReg (by simp) _)
  obtain ⟨t, hexec, hpair, hregs⟩ : ∃ t : State, exec (.pdig l) s = .next t ∧ t.pair.unsettled = u.pair.unsettled ∧ t.regs = u.regs := by
    refine ⟨_, hexec, ?_⟩
    split
    · exact ⟨sendCell_unsettled _ _, (sendCell_rxs _ _).2⟩
    · exact ⟨rfl, rfl⟩
  refine runs_of_exec rfl hexec fun hm => ⟨fun a => ?_, ?_, hr.trans (sameRegs_of_regs hregs _), hm⟩
  · rw [hpair, hleft]
    exact mem_leftPages s l a
  · rw [reg_of_regs hregs, hcount, hpair, hleft]

/-! Leaving the pair (R260). -/

theorem exec_pairLeave (k : Nat) (s : State) : exec (.pairLeave k) s = if !s.paired then .next (s.reply 0x14)
    else if k ≠ 0 ∧ k < s.tick + 2 then .next (s.reply 0x13)
    else .next ((s.modPair fun x => { x with
      leaveAt := some (if k = 0 then s.tick + 2 else k)
      handAt := if s.reg Reg.pairRole == 0 && s.reg Reg.pairState == 3 && x.handAt.isNone then some (if k = 0 then s.tick + 2 else k, false)
        else x.handAt }).reply 0) := rfl
/-- Does the leave wait for its hand-over. -/
def State.leaveHands (s : State) : Bool := s.reg Reg.pairRole == 0 && s.reg Reg.pairState == 3 && s.pair.handAt.isSome
theorem leaveHands_iff : s.leaveHands = true ↔ s.reg Reg.pairRole = 0 ∧ s.reg Reg.pairState = 3 ∧ s.pair.handAt ≠ none := by
  unfold State.leaveHands
  rw [Bool.and_eq_true, Bool.and_eq_true, beq_iff_eq, beq_iff_eq, Option.isSome_iff_ne_none, and_assoc]
theorem exec_pairLeaveApply {k : Nat} (hk : s.pair.leaveAt = some k) : exec .pairLeaveApply s = if s.tick < k ∨ s.leaveHands then .next s
    else .next (((s.graftEnd 0x17).toStandby 255 false).modPair fun x => { x with leaveAt := none, waitFrom := none }) := by
  have h0 : exec .pairLeaveApply s = execPairLeaveApply s := rfl
  rewrite [h0, execPairLeaveApply, hk]
  rfl
theorem exec_pairLeaveApply_none (hk : s.pair.leaveAt = none) : exec .pairLeaveApply s = .next s := by
  have h0 : exec .pairLeaveApply s = execPairLeaveApply s := rfl
  rewrite [h0, execPairLeaveApply, hk]
  rfl
end

/-- Settles O51: a graft from its start through its phases to its join or its end, the pages that it copies, and leaving the pair. -/
theorem graftAndLeave : Obligations.GraftAndLeave := by
  unfold Obligations.GraftAndLeave
  intro s
  refine ⟨fun h => ⟨fun hs => ?_, fun hs => ?_⟩, fun h => if_pos (.inr h), fun partner copy h => ⟨fun hp => ⟨config_passes h hp, config_fails h hp, fun hb => ?_⟩,
      fun hp => ⟨fun hc => ?_, fun hc => ?_⟩, fun hp => ⟨copies_next h hp, copies_source h hp, copies_target h hp⟩,
      fun hp => ⟨fun hd => ?_, fun ht hd => ?_⟩, fun hp => ⟨fun hd => ?_, fun hd => ?_⟩⟩,
    fun partner copy h => ⟨if_pos h, if_pos h⟩, fun partner limit code h hc => graftPhaseTimeout_runs h limit code hc, graftJoin_runs, fun h => ?_,
    fun h => ?_, fun h => ?_, fun page w data => ⟨fun h => ⟨mirror_takes page w data h, ?_, hot_stores page w data h⟩, fun h => ?_⟩,
    fun l => ⟨pdig_follows l, fun h => ?_⟩, fun k hp hk => ?_, fun k hp h0 hk => ?_, fun k hp => ?_, fun k hk => ⟨fun ht hh => ?_, fun h => ?_⟩,
    exec_pairLeaveApply_none⟩
  · have hexec := exec_graftStart h
    obtain ⟨h1, h2, h3, h4, h5, h6⟩ := graftBegin_target hs
    generalize s.graftBegin = u at hexec h1 h2 h3 h4 h5 h6
    exact runs_of_exec rfl hexec fun hm => ⟨h1, h2, h3, h4, h5, h6, rfl, hm⟩
  · have hexec := exec_graftStart h
    rw [graftBegin_suspect hs] at hexec
    have h1 := reg_setReg_same s Reg.graftResult 0x18
    have h2 : SameRegs s (s.setReg Reg.graftResult 0x18) [Reg.graftResult] := .setReg (List.mem_singleton_self _) _
    exact runs_of_exec rfl hexec fun _ => ⟨h1, rfl, h2, rfl⟩
  · exact (exec_config h hp).trans (if_pos (by rw [hb]; rfl))
  · obtain ⟨h1, -, -, h4⟩ := graftPhaseTo_frame s 3
    exact runs_of_exec rfl ((exec_clock h hp).trans (if_pos hc)) fun hm => ⟨h1, h4, hm⟩
  · exact (exec_clock h hp).trans (if_neg (by rw [hc]; decide))
  · obtain ⟨h1, -, h3, h4⟩ := graftPhaseTo_frame s 5
    exact runs_of_exec rfl ((exec_mirrors h hp).trans (if_pos hd)) fun hm => ⟨h1, h3, h4, hm⟩
  · refine (exec_mirrors h hp).trans (if_neg ?_)
    rintro (h1 | h1)
    · rw [ht] at h1
      exact absurd h1 (by decide)
    · exact absurd h1 (Nat.not_le.mpr hd)
  · obtain ⟨h1, -, -, h4⟩ := graftPhaseTo_frame s 6
    have hexec := (exec_settles (partner := partner) (copy := copy) h hp).trans (if_neg (Nat.not_lt.mpr hd))
    refine runs_of_exec rfl hexec fun hm => ⟨(reg_setReg_other _ _ _ _ (by simp)).trans h1, reg_setReg_same _ _ _, ?_, hm⟩
    exact (h4.mono (by simp)).trans (.setReg (by simp) _)
  · exact (exec_settles h hp).trans (if_pos hd)
  · refine if_neg ?_
    rintro ⟨h1, h2, h3⟩
    rcases h with h | h | h
    · exact h h1
    · exact h h2
    · exact absurd h3 (Nat.not_le.mpr h)
  · obtain ⟨h1, h2, h3, -⟩ := graftEnd_clears (code := 0x17) h (by decide)
    have hexec : exec .graftAbort s = .next ((s.graftEnd 0x17).reply 0) := rfl
    generalize s.graftEnd 0x17 = u at hexec h1 h2 h3
    exact runs_of_exec rfl hexec fun hm => ⟨h2, h1, h3, rfl, hm⟩
  · exact congrArg (fun u : State => Host.Outcome.next (u.reply 0)) (graftEnd_idle h)
  · exact ⟨_, (exec_hot page w data s).trans (if_pos h), putPage_tick _ _ _ _⟩
  · obtain ⟨hr, -⟩ := heard_frame s
    obtain ⟨hmem, h1, h2, -⟩ := heard_pages s
    have hno : ¬s.takesPages = true := by rw [h]; decide
    exact ⟨⟨_, (exec_mirror page w data s).trans (if_neg hno), h1, sameRegs_of_regs hr _, sameMem_of_mem hmem⟩,
      _, (exec_hot page w data s).trans (if_neg hno), h2, sameRegs_of_regs hr _, sameMem_of_mem hmem⟩
  · obtain ⟨hr, -⟩ := heard_frame s
    obtain ⟨-, -, -, h1, -⟩ := heard_pages s
    exact runs_of_exec rfl (exec_pdig_other l h) fun hm => ⟨h1, sameRegs_of_regs hr _, hm⟩
  · have hno : ¬(k ≠ 0 ∧ k < s.tick + 2) := fun h => hk.elim h.1 fun hle => absurd h.2 (Nat.not_lt.mpr hle)
    have hexec := (exec_pairLeave k s).trans ((if_neg (by rw [hp]; decide)).trans (if_neg hno))
    refine runs_of_exec rfl hexec fun hm => ⟨rfl, ?_, rfl, .refl _ _, hm⟩
    refine if_congr ?_ rfl rfl
    rw [Bool.and_eq_true, Bool.and_eq_true, beq_iff_eq, beq_iff_eq, Option.isNone_iff_eq_none, and_assoc]
  · exact (exec_pairLeave k s).trans ((if_neg (by rw [hp]; decide)).trans (if_pos ⟨h0, hk⟩))
  · exact (exec_pairLeave k s).trans (if_pos (by rw [hp]; rfl))
  · have hno : ¬(s.tick < k ∨ s.leaveHands = true) := by
      rintro (h | h)
      · exact absurd ht (Nat.not_le.mpr h)
      · obtain ⟨h1, h2, h3⟩ := leaveHands_iff.mp h
        rcases hh with hh | hh | hh
        · exact hh h1
        · exact hh h2
        · exact h3 hh
    have hexec := (exec_pairLeaveApply hk).trans (if_neg hno)
    generalize s.graftEnd 0x17 = u at hexec
    obtain ⟨h1, h2, h3⟩ := toStandby_regs u 255 false
    generalize u.toStandby 255 false = v at hexec h1 h2 h3
    exact runs_of_exec rfl hexec fun hm => ⟨h1, h2, h3, rfl, hm⟩
  · exact (exec_pairLeaveApply hk).trans (if_pos (h.imp_right leaveHands_iff.mpr))
end Sys2Proof.Machine
end
section
/-!
PROOFS. Messages that arrive and leave, and login in two exchanges (16, R440, R449 to R452).
-/
namespace Sys2Proof.Machine

/-! What a message leaves as it was: everything but registers, rings, the host's side and the answer. -/

/-- A state without its registers, rings, host side and answer. -/
def State.desk (s : State) : State := { s with regs := [], rings := [], host := {}, answer := {} }
/-- A state that follows from another with its desk and all registers but some as before. -/
@[reducible] def AtDesk (l : List Reg) (s t : State) : Prop := Only State.desk (· ∈ l) s t

section
variable {s t u : State} {l l' : List Reg} {m : Omp}

namespace AtDesk

theorem setReg {r : Reg} (hr : r ∈ l) (v : Int) : AtDesk l s (s.setReg r v) := Only.setReg (P := (· ∈ l)) hr v rfl
theorem bump {r : Reg} (hr : r ∈ l) : AtDesk l s (s.bump r) := setReg hr _
theorem more (h : AtDesk l s t) (hl : l ⊆ l') : AtDesk l' s t := Only.mono h fun _ hr => hl hr
theorem sessions (h : AtDesk l s t) : t.sessions = s.sessions := (congrArg State.sessions h.view :)
theorem sources (h : AtDesk l s t) : t.sources = s.sources := (congrArg State.sources h.view :)
theorem tick (h : AtDesk l s t) : t.tick = s.tick := (congrArg State.tick h.view :)
theorem gard (h : AtDesk l s t) : t.gard = s.gard := (congrArg State.gard h.view :)
theorem sameMem (h : AtDesk l s t) : SameMem s t := sameMem_of_mem (congrArg State.mem h.view :)
theorem session (h : AtDesk l s t) (k : Nat) : t.session k = s.session k := (congrArg (fun d : State => d.session k) h.view :)
theorem slotOf (h : AtDesk l s t) (n : Nat) : t.slotOf n = s.slotOf n := (congrArg (fun d : State => d.slotOf n) h.view :)
theorem roleKey (h : AtDesk l s t) (role plot : Nat) : t.roleKey role plot = s.roleKey role plot :=
  (congrArg (fun d : State => d.roleKey role plot) h.view :)
theorem lockedOut (h : AtDesk l s t) (k : Nat) : t.lockedOut k = s.lockedOut k := (congrArg (fun d : State => d.lockedOut k) h.view :)
theorem tps (h : AtDesk l s t) (hl : Reg.tickFamily ∉ l) : t.tps = s.tps := by
  unfold State.tps State.nat
  rw [h.regs _ hl]
theorem firstLogin (h : AtDesk l s t) (hl : Reg.tickFamily ∉ l) (n : Nat) : t.firstLogin n = s.firstLogin n := by
  have hr : t.rst = s.rst := (congrArg State.rst h.view :)
  unfold State.firstLogin
  rw [hr, AtDesk.tps h hl, AtDesk.tick h]

end AtDesk

theorem mboxOut_atDesk (msg : List Byte) : AtDesk l s (s.mboxOut msg) := by
  unfold State.mboxOut
  refine .of_ite (fun _ => .refl s) fun _ => .of_ite (fun _ => .of_regs rfl rfl) fun _ => .of_regs ?_ (writePage_regs _ _ _)
  unfold State.writePage
  exact when_keeps rfl
theorem ompArrive_atDesk (m : Omp) : AtDesk [Reg.ompRx] s (s.ompArrive m) := by
  unfold State.ompArrive
  have h : AtDesk [Reg.ompRx] s { s with answer := {} } := .of_regs rfl rfl
  exact (h.trans (AtDesk.setReg (.head _) _)).trans (.when _ (.of_regs rfl rfl))
@[simp] theorem ompArrive_answer (m : Omp) : (s.ompArrive m).answer = {} :=
  when_keeps (g := State.answer) rfl
theorem transmit_atDesk (transport : Nat) (msg : List Byte) : AtDesk [Reg.ompTx] s (s.transmit transport msg).1 := by
  unfold State.transmit
  split
  · exact .refl s
  · show AtDesk _ s ((s.setReg Reg.ompTx (bump64 (s.reg Reg.ompTx))).when (transport == 3) fun s => s.mboxOut msg)
    exact Only.trans (AtDesk.setReg (.head _) _) (.when _ (mboxOut_atDesk msg))
/-- A response that belongs to no session. -/
theorem respond_none_atDesk (m : Omp) (op session : Nat) (r : Reply) : AtDesk [Reg.ompTx] s (s.respond m op session none r) :=
  Only.trans (transmit_atDesk m.transport _) (.of_regs rfl rfl)
@[simp] theorem respond_none_status (m : Omp) (op session : Nat) (r : Reply) : (s.respond m op session none r).answer.status = r.status := rfl

/-! Requests before login. -/

theorem serveOpen_answers {op n : Nat} {r : Reply} {f : State → State × Option (Nat × Reply)} (ha : Arrives s m)
    (hf : f (s.ompArrive m) = (t, some (n, r))) : s.serveOpen m op f = t.respond m op n none r := by
  unfold State.serveOpen
  have h1 : ¬(!s.ompOpen m) = true := by rw [ha.taken]; decide
  have h2 : ¬(!s.nodeOk m) = true := by rw [ha.node]; decide
  simp only [if_neg h1, if_neg h2, if_pos ha.form, hf]
theorem serveOpen_drops {op : Nat} {f : State → State × Option (Nat × Reply)} (ha : Arrives s m)
    (hf : f (s.ompArrive m) = (t, none)) : s.serveOpen m op f = t := by
  unfold State.serveOpen
  have h1 : ¬(!s.ompOpen m) = true := by rw [ha.taken]; decide
  have h2 : ¬(!s.nodeOk m) = true := by rw [ha.node]; decide
  simp only [if_neg h1, if_neg h2, if_pos ha.form, hf]

end

/-! A request that is refused leaves the sessions. -/

/-- A state that follows from another with sessions, memory and tick, and all registers but some, as before. -/
@[reducible] def SameSessions (l : List Reg) (s t : State) : Prop := Only (fun s => (s.sessions, s.mem, s.tick)) (· ∈ l) s t

section
variable {s t u : State} {l l' : List Reg} {m : Omp}

theorem AtDesk.sameSessions (h : AtDesk l s t) : SameSessions l s t :=
  ⟨(congrArg (fun d : State => (d.sessions, d.mem, d.tick)) h.view :), h.regs⟩

namespace SameSessions

theorem sessions (h : SameSessions l s t) : t.sessions = s.sessions := h.field Prod.fst
theorem session (h : SameSessions l s t) (k : Nat) : t.session k = s.session k := congrArg (fun l : NTable Session => NTable.get ({} : Session) l k) h.sessions
theorem sameMem (h : SameSessions l s t) : SameMem s t := sameMem_of_mem (h.field fun x => x.2.1)
theorem tick (h : SameSessions l s t) : t.tick = s.tick := h.field fun x => x.2.2
theorem more (h : SameSessions l s t) (hl : l ⊆ l') : SameSessions l' s t := Only.mono h fun _ hr => hl hr

end SameSessions

theorem loginFailed_sessions (k : Nat) : SameSessions [Reg.loginFail, Reg.lockoutCount] s (s.loginFailed k) := by
  unfold State.loginFailed
  extract_lets _ _ s1
  have h1 : SameSessions [Reg.loginFail, Reg.lockoutCount] s s1 := .setReg (by simp) _ rfl
  refine .of_ite (fun _ => ?_) fun _ => h1.trans (.of_regs rfl rfl)
  exact (h1.trans (.of_regs (t := s1.modSource k _) rfl rfl)).trans (.setReg (by simp) _ rfl)
theorem loginFailed_fails (k : Nat) : (s.loginFailed k).reg Reg.loginFail = (s.reg Reg.loginFail + 1) % 4294967296 := by
  unfold State.loginFailed
  extract_lets _ _ s1
  have h1 : s1.reg Reg.loginFail = (s.reg Reg.loginFail + 1) % 4294967296 := reg_setReg_same _ _ _
  split
  · exact (reg_bump_other _ _ _ (by simp)).trans h1
  · exact h1

/-- What a response tells of a request that its service refused. -/
theorem respond_refuses {op n : Nat} {r : Reply} (h : SameSessions (Reg.ompRx :: l) s t) : (t.respond m op n none r).answer.status = r.status ∧
    (t.respond m op n none r).sessions = s.sessions ∧ SameRegs s (t.respond m op n none r) (Reg.ompRx :: Reg.ompTx :: l) ∧
    SameMem s (t.respond m op n none r) := by
  have hr : AtDesk [Reg.ompTx] t (t.respond m op n none r) := respond_none_atDesk m op n r
  have h2 : SameSessions (Reg.ompRx :: Reg.ompTx :: l) s _ := (h.more (l' := Reg.ompRx :: Reg.ompTx :: l) (by simp)).trans (hr.sameSessions.more (by simp))
  exact ⟨rfl, h2.sessions, h2.sameRegs, h2.sameMem⟩

end

/-! A first exchange, by what it finds. -/

section
variable {s u t : State} {m : Omp} {number : Fin 4294967296} {challenge : List Byte}

/-- A LOGIN whose fields are out of form. -/
def badLogin (m : Omp) : Bool :=
  m.body.length != 20 || decide (2 < leAt m.body 0 1) || leAt m.body 2 2 != 0 || (leAt m.body 0 1 == 0 && leAt m.body 1 1 != 255) ||
    (leAt m.body 0 1 != 0 && decide (15 < leAt m.body 1 1))
/-- The half session that a LOGIN opens. -/
def halfSession (m : Omp) (number tick : Nat) (challenge : List Byte) : Session :=
  { half := true, number := number, role := leAt m.body 0 1, plot := leAt m.body 1 1, transport := m.transport, source := m.source,
    challenge := (challenge ++ List.replicate 16 0).take 16, nonce := slice m.body 4 16, lastTick := tick }
/-- What LOGIN does once its message is in. -/
def loginServe (m : Omp) (number : Fin 4294967296) (challenge : List Byte) (s : State) : State × Option (Nat × Reply) :=
  if m.session ≠ 0 then (s.ompDrop, none)
  else if s.lockedOut (sourceKey m) then (s.bump Reg.loginFail, some (0, { status := 0x19 }))
  else if badLogin m then (s, some (0, { status := 0x1A }))
  else if leAt m.body 0 1 = 0 ∧ zeros s.gardenerKey ∧ !s.firstLogin m.transport then
    (s.loginFailed (sourceKey m), some (0, { status := 0x19 }))
  else match s.freeSlot with
    | none => (s, some (0, { status := 0x16 }))
    | some k => (s.modSession k fun _ => halfSession m (s.newNumber number) s.tick challenge,
        some (s.newNumber number, { body := (challenge ++ List.replicate 16 0).take 16 }))
theorem badLogin_eq (m : Omp) : (m.body.length != 20 || decide (leAt m.body 0 1 > 2) || leAt m.body 2 2 != 0 ||
    (if leAt m.body 0 1 = 0 then leAt m.body 1 1 != 255 else decide (leAt m.body 1 1 > 15))) = badLogin m := by
  unfold badLogin
  rw [Bool.or_assoc _ (leAt m.body 0 1 == 0 && _)]
  by_cases h : leAt m.body 0 1 = 0
  · simp [h]
  · simp only [if_neg h, gt_iff_lt, beq_eq_false_iff_ne.mpr h, bne_iff_ne.mpr h, Bool.false_and, Bool.false_or, Bool.true_and]
theorem exec_login : exec (.login m number challenge) s = .next (s.serveOpen m 1 (loginServe m number challenge)) := by
  show execLogin m number challenge s = _
  unfold execLogin
  refine congrArg (fun f => Host.Outcome.next (s.serveOpen m 1 f)) (funext fun u => ?_)
  dsimp only
  rw [badLogin_eq]
  rfl

theorem login_answers {n : Nat} {r : Reply} (ha : Arrives s m) (hf : loginServe m number challenge (s.ompArrive m) = (t, some (n, r))) :
    exec (.login m number challenge) s = .next (t.respond m 1 n none r) :=
  exec_login.trans (congrArg Host.Outcome.next (serveOpen_answers ha hf))
theorem loginServe_inSession (h : m.session ≠ 0) : loginServe m number challenge u = (u.ompDrop, none) := if_pos h
theorem loginServe_locked (h0 : m.session = 0) (h : u.lockedOut (sourceKey m) = true) :
    loginServe m number challenge u = (u.bump Reg.loginFail, some (0, { status := 0x19 })) := by
  unfold loginServe
  rw [if_neg (not_not_intro h0), if_pos h]

section
variable (h0 : m.session = 0) (hl : u.lockedOut (sourceKey m) = false)
include h0 hl

theorem loginServe_bad (h : badLogin m = true) : loginServe m number challenge u = (u, some (0, { status := 0x1A })) := by
  unfold loginServe
  rw [if_neg (not_not_intro h0), hl, if_neg Bool.false_ne_true, if_pos h]
theorem loginServe_first (h : badLogin m = false) (hr : leAt m.body 0 1 = 0) (hz : zeros u.gardenerKey = true)
    (hf : u.firstLogin m.transport = false) :
    loginServe m number challenge u = (u.loginFailed (sourceKey m), some (0, { status := 0x19 })) := by
  unfold loginServe
  rw [if_neg (not_not_intro h0), hl, if_neg Bool.false_ne_true, h, if_neg Bool.false_ne_true, if_pos ⟨hr, hz, by rw [hf]; rfl⟩]
theorem loginServe_slot (h : badLogin m = false)
    (hr : leAt m.body 0 1 ≠ 0 ∨ zeros u.gardenerKey = false ∨ u.firstLogin m.transport = true) : loginServe m number challenge u =
      match u.freeSlot with
      | none => (u, some (0, { status := 0x16 }))
      | some k => (u.modSession k fun _ => halfSession m (u.newNumber number) u.tick challenge,
          some (u.newNumber number, { body := (challenge ++ List.replicate 16 0).take 16 })) := by
  unfold loginServe
  have hn : ¬(leAt m.body 0 1 = 0 ∧ zeros u.gardenerKey ∧ !u.firstLogin m.transport) := by
    rintro ⟨h1, h2, h3⟩
    rcases hr with hr | hr | hr
    · exact hr h1
    · exact Bool.false_ne_true (hr.symm.trans h2)
    · rw [hr] at h3
      exact Bool.false_ne_true h3
  rewrite [if_neg (not_not_intro h0), hl, if_neg Bool.false_ne_true, h, if_neg Bool.false_ne_true, if_neg hn]
  rfl

end

end

/-! A second exchange, by what it finds. -/

section
variable {s u t : State} {m : Omp} {k : Nat} {x : Session}

/-- What a proof is made of, under the key of the half session's role. -/
def loginProofOf (x : Session) (key : List Byte) : List Byte :=
  hmac key (ascii "BXL" ++ x.challenge ++ x.nonce ++ leBytes 4 x.number ++ leBytes 1 x.role ++ leBytes 1 x.plot)
/-- The session that a proof opens. -/
def openSession (x : Session) (key : List Byte) (tick : Nat) : Session :=
  { x with open_ := true, half := false, lastTick := tick, restricted := x.role == 0 && zeros key,
           ks := hmac key (ascii "BXS" ++ x.challenge ++ x.nonce) }
/-- What LOGIN_PROOF does once its message is in. -/
def proofServe (m : Omp) (s : State) : State × Option (Nat × Reply) :=
  if s.lockedOut (sourceKey m) then (s.bump Reg.loginFail, some (m.session, { status := 0x19 }))
  else match s.slotOf m.session with
    | none => (s.loginFailed (sourceKey m), some (m.session, { status := 0x19 }))
    | some k =>
      if !(s.session k).half || (s.session k).transport != m.transport.val || (s.session k).source != m.source then (s.ompDrop, none)
      else
        match s.roleKey (s.session k).role (s.session k).plot with
        | none => ((s.modSession k fun _ => {}).loginFailed (sourceKey m), some (m.session, { status := 0x19 }))
        | some key =>
          if m.body ≠ loginProofOf (s.session k) key then
            ((s.modSession k fun _ => {}).loginFailed (sourceKey m), some (m.session, { status := 0x19 }))
          else (s.modSession k fun _ => openSession (s.session k) key s.tick, some ((s.session k).number,
            { body := hmac key (ascii "BXE" ++ (s.session k).nonce ++ (s.session k).challenge ++ leBytes 4 (s.session k).number) }))
theorem exec_loginProof : exec (.loginProof m) s = .next (s.serveOpen m 1 (proofServe m)) := rfl
theorem loginProof_answers {n : Nat} {r : Reply} (ha : Arrives s m) (hf : proofServe m (s.ompArrive m) = (t, some (n, r))) :
    exec (.loginProof m) s = .next (t.respond m 1 n none r) :=
  exec_loginProof.trans (congrArg Host.Outcome.next (serveOpen_answers ha hf))
theorem proofServe_locked (h : u.lockedOut (sourceKey m) = true) :
    proofServe m u = (u.bump Reg.loginFail, some (m.session, { status := 0x19 })) := if_pos h

theorem proofServe_own (hx : u.session k = x) (hh : x.half = true) (ht : x.transport = m.transport.val) (hsrc : x.source = m.source) :
    ¬(!(u.session k).half || (u.session k).transport != m.transport.val || (u.session k).source != m.source) = true := by
  rw [hx, hh, ht, hsrc]
  simp

section
variable (hl : u.lockedOut (sourceKey m) = false)
include hl

theorem proofServe_unknown (h : u.slotOf m.session = none) :
    proofServe m u = (u.loginFailed (sourceKey m), some (m.session, { status := 0x19 })) := by
  unfold proofServe
  rw [hl, if_neg Bool.false_ne_true, h]

variable (hs : u.slotOf m.session = some k) (hx : u.session k = x)
include hs hx

theorem proofServe_foreign (h : x.half = false ∨ x.transport ≠ m.transport.val ∨ x.source ≠ m.source) :
    proofServe m u = (u.ompDrop, none) := by
  unfold proofServe
  rw [hl, if_neg Bool.false_ne_true, hs]
  refine if_pos ?_
  rw [hx, Bool.or_eq_true, Bool.or_eq_true, bne_iff_ne, bne_iff_ne]
  rcases h with h | h | h
  · exact .inl (.inl (by rw [h]; rfl))
  · exact .inl (.inr h)
  · exact .inr h

variable (hh : x.half = true) (ht : x.transport = m.transport.val) (hsrc : x.source = m.source)
include hh ht hsrc

theorem proofServe_opens {key : List Byte} (hk : u.roleKey x.role x.plot = some key) (hp : m.body = loginProofOf x key) :
    proofServe m u = (u.modSession k fun _ => openSession x key u.tick, some (x.number,
      { body := hmac key (ascii "BXE" ++ x.nonce ++ x.challenge ++ leBytes 4 x.number) })) := by
  have ho := proofServe_own hx hh ht hsrc
  unfold proofServe
  rw [hl, if_neg Bool.false_ne_true, hs]
  refine (if_neg ho).trans ?_
  rw [hx, hk]
  exact if_neg (not_not_intro hp)
theorem proofServe_forgets (hk : ∀ key, u.roleKey x.role x.plot = some key → m.body ≠ loginProofOf x key) :
    proofServe m u = ((u.modSession k fun _ => {}).loginFailed (sourceKey m), some (m.session, { status := 0x19 })) := by
  have ho := proofServe_own hx hh ht hsrc
  unfold proofServe
  rw [hl, if_neg Bool.false_ne_true, hs]
  refine (if_neg ho).trans ?_
  rw [hx]
  cases h : u.roleKey x.role x.plot with
  | none => rfl
  | some key => exact if_pos (hk key h)

end

end

/-! Sessions and sources in their tables. -/

section
variable {s : State}

@[simp] theorem session_modSession_same (s : State) (k : Nat) (f : Session → Session) : (s.modSession k f).session k = f (s.session k) :=
  NTable.get_mod_same _ _ _ _
theorem session_modSession_other (s : State) {k j : Nat} (f : Session → Session) (h : j ≠ k) : (s.modSession k f).session j = s.session j :=
  NTable.get_mod_other _ _ _ _ _ h
@[simp] theorem loginSource_modSource_same (s : State) (k : Nat) (f : SourceSt → SourceSt) :
    (s.modSource k f).loginSource k = f (s.loginSource k) := NTable.get_mod_same _ _ _ _

/-- What a response tells of a request that changed one session. -/
theorem respond_changes {u : State} {m : Omp} {op n k : Nat} {r : Reply} {f : Session → Session} (h : AtDesk [Reg.ompRx] s u) :
    (((u.modSession k f).respond m op n none r).session k = f (s.session k)) ∧
    (∀ j, j ≠ k → ((u.modSession k f).respond m op n none r).session j = s.session j) ∧
    SameRegs s ((u.modSession k f).respond m op n none r) [Reg.ompRx, Reg.ompTx] ∧
    SameMem s ((u.modSession k f).respond m op n none r) := by
  have hr := respond_none_atDesk (s := u.modSession k f) m op n r
  have h1 : SameRegs s u [Reg.ompRx, Reg.ompTx] := h.sameRegs.mono (by simp)
  have h2 : SameRegs u (u.modSession k f) [Reg.ompRx, Reg.ompTx] := sameRegs_of_regs rfl _
  refine ⟨?_, fun j hj => ?_, (h1.trans h2).trans (hr.sameRegs.mono (by simp)), fun a => ?_⟩
  · exact (AtDesk.session hr k).trans ((session_modSession_same u k f).trans (congrArg f (AtDesk.session h k)))
  · exact (AtDesk.session hr j).trans ((session_modSession_other u f hj).trans (AtDesk.session h j))
  · exact (AtDesk.sameMem hr a).trans (AtDesk.sameMem h a)

end

/-! The two exchanges from the state before them. -/

section
variable {s : State} {m : Omp} {number : Fin 4294967296} {challenge : List Byte} {k : Nat} {x : Session}

theorem ompArrive_sessions (l : List Reg) : SameSessions (Reg.ompRx :: l) s (s.ompArrive m) :=
  (ompArrive_atDesk m).sameSessions.more (by simp)
/-- A message that its service drops. -/
theorem ompDrop_arrived : (s.ompArrive m).ompDrop.sessions = s.sessions ∧ (s.ompArrive m).ompDrop.answer.sent = false ∧
    (s.ompArrive m).ompDrop.reg Reg.ompDropped = (s.reg Reg.ompDropped + 1) % 4294967296 ∧
    SameRegs s (s.ompArrive m).ompDrop [Reg.ompRx, Reg.ompDropped] ∧ SameMem s (s.ompArrive m).ompDrop := by
  have h : SameSessions [Reg.ompRx, Reg.ompDropped] s (s.ompArrive m) := ompArrive_sessions _
  have h2 : SameRegs s (s.ompArrive m).ompDrop [Reg.ompRx, Reg.ompDropped] := h.sameRegs.trans (.setReg (by simp) _)
  have hd : (s.ompArrive m).reg Reg.ompDropped = s.reg Reg.ompDropped := (ompArrive_atDesk m).regs _ (by simp)
  refine ⟨(SameSessions.sessions h :), ?_, ?_, h2, fun a => SameSessions.sameMem h a⟩
  · exact congrArg Answer.sent (ompArrive_answer m)
  · exact (reg_setReg_same _ _ _).trans (by rw [hd]; rfl)
/-- A login that fails without a failure of its source. -/
theorem bump_arrived : SameSessions (Reg.ompRx :: [Reg.loginFail]) s ((s.ompArrive m).bump Reg.loginFail) ∧
    ((s.ompArrive m).bump Reg.loginFail).reg Reg.loginFail = (s.reg Reg.loginFail + 1) % 4294967296 := by
  have hd : (s.ompArrive m).reg Reg.loginFail = s.reg Reg.loginFail := (ompArrive_atDesk m).regs _ (by simp)
  exact ⟨(ompArrive_sessions _).trans (.setReg (by simp) _ rfl), (reg_setReg_same _ _ _).trans (by rw [hd]; rfl)⟩
theorem loginFailed_arrived (n : Nat) :
    SameSessions (Reg.ompRx :: [Reg.loginFail, Reg.lockoutCount]) s ((s.ompArrive m).loginFailed n) ∧
    ((s.ompArrive m).loginFailed n).reg Reg.loginFail = (s.reg Reg.loginFail + 1) % 4294967296 := by
  have hd : (s.ompArrive m).reg Reg.loginFail = s.reg Reg.loginFail := (ompArrive_atDesk m).regs _ (by simp)
  exact ⟨(ompArrive_sessions _).trans ((loginFailed_sessions n).more (by simp)), (loginFailed_fails n).trans (by rw [hd])⟩
/-- The count of failed logins stands through the response. -/
theorem respond_loginFail {u : State} {op n : Nat} {r : Reply} {v : Int} (h : u.reg Reg.loginFail = v) :
    (u.respond m op n none r).reg Reg.loginFail = v := ((respond_none_atDesk m op n r).regs _ (by simp)).trans h
theorem loginServe_arrived (h0 : m.session = 0) (hl : s.lockedOut (sourceKey m) = false) (hb : badLogin m = false)
    (hr : leAt m.body 0 1 ≠ 0 ∨ zeros s.gardenerKey = false ∨ s.firstLogin m.transport = true) :
    loginServe m number challenge (s.ompArrive m) =
    match s.freeSlot with
    | none => (s.ompArrive m, some (0, { status := 0x16 }))
    | some k => ((s.ompArrive m).modSession k fun _ => halfSession m (s.newNumber number) s.tick challenge,
        some (s.newNumber number, { body := (challenge ++ List.replicate 16 0).take 16 })) := by
  have hu := ompArrive_atDesk (s := s) m
  have hkey : (s.ompArrive m).gardenerKey = s.gardenerKey := (congrArg State.gardenerKey hu.view :)
  have hfree : (s.ompArrive m).freeSlot = s.freeSlot := (congrArg State.freeSlot hu.view :)
  have hnew : (s.ompArrive m).newNumber number = s.newNumber number := (congrArg (fun d : State => d.newNumber number) hu.view :)
  rewrite [loginServe_slot h0 ((AtDesk.lockedOut hu _).trans hl) hb (by rw [hkey, AtDesk.firstLogin hu (by simp)]; exact hr), hfree, hnew,
    AtDesk.tick hu]
  rfl

variable (ha : Arrives s m)
include ha

theorem login_inSession (h : m.session ≠ 0) : exec (.login m number challenge) s = .next (s.ompArrive m).ompDrop :=
  exec_login.trans (congrArg Host.Outcome.next (serveOpen_drops ha (loginServe_inSession h)))
theorem login_locked (h0 : m.session = 0) (h : s.lockedOut (sourceKey m) = true) : exec (.login m number challenge) s =
    .next (((s.ompArrive m).bump Reg.loginFail).respond m 1 0 none { status := 0x19 }) :=
  login_answers ha (loginServe_locked h0 ((AtDesk.lockedOut (ompArrive_atDesk m) _).trans h))

section
variable (h0 : m.session = 0) (hl : s.lockedOut (sourceKey m) = false)
include h0 hl

theorem login_bad (h : badLogin m = true) : exec (.login m number challenge) s =
    .next ((s.ompArrive m).respond m 1 0 none { status := 0x1A }) :=
  login_answers ha (loginServe_bad h0 ((AtDesk.lockedOut (ompArrive_atDesk m) _).trans hl) h)

variable (hb : badLogin m = false)
include hb

theorem login_first (hr : leAt m.body 0 1 = 0) (hz : zeros s.gardenerKey = true) (hf : s.firstLogin m.transport = false) :
    exec (.login m number challenge) s =
      .next (((s.ompArrive m).loginFailed (sourceKey m)).respond m 1 0 none { status := 0x19 }) := by
  have hu := ompArrive_atDesk (s := s) m
  have hkey : (s.ompArrive m).gardenerKey = s.gardenerKey := (congrArg State.gardenerKey hu.view :)
  exact login_answers ha (loginServe_first h0 ((AtDesk.lockedOut hu _).trans hl) hb hr (by rw [hkey]; exact hz)
    ((AtDesk.firstLogin hu (by simp) _).trans hf))

variable (hr : leAt m.body 0 1 ≠ 0 ∨ zeros s.gardenerKey = false ∨ s.firstLogin m.transport = true)
include hr

theorem login_full (h : s.freeSlot = none) : exec (.login m number challenge) s =
    .next ((s.ompArrive m).respond m 1 0 none { status := 0x16 }) :=
  login_answers ha ((loginServe_arrived h0 hl hb hr).trans (by rw [h]))
theorem login_opens (h : s.freeSlot = some k) : exec (.login m number challenge) s =
    .next (((s.ompArrive m).modSession k fun _ => halfSession m (s.newNumber number) s.tick challenge).respond m 1 (s.newNumber number) none
      { body := (challenge ++ List.replicate 16 0).take 16 }) :=
  login_answers ha ((loginServe_arrived h0 hl hb hr).trans (by rw [h]))

end

theorem loginProof_locked (h : s.lockedOut (sourceKey m) = true) : exec (.loginProof m) s =
    .next (((s.ompArrive m).bump Reg.loginFail).respond m 1 m.session none { status := 0x19 }) :=
  loginProof_answers ha (proofServe_locked ((AtDesk.lockedOut (ompArrive_atDesk m) _).trans h))

variable (hl : s.lockedOut (sourceKey m) = false)
include hl

theorem loginProof_unknown (h : s.slotOf m.session = none) : exec (.loginProof m) s =
    .next (((s.ompArrive m).loginFailed (sourceKey m)).respond m 1 m.session none { status := 0x19 }) :=
  have hu := ompArrive_atDesk m
  loginProof_answers ha (proofServe_unknown ((AtDesk.lockedOut hu _).trans hl) ((AtDesk.slotOf hu _).trans h))

variable (hs : s.slotOf m.session = some k) (hx : s.session k = x)
include hs hx

theorem loginProof_foreign (h : x.half = false ∨ x.transport ≠ m.transport.val ∨ x.source ≠ m.source) :
    exec (.loginProof m) s = .next (s.ompArrive m).ompDrop :=
  have hu := ompArrive_atDesk m
  exec_loginProof.trans (congrArg Host.Outcome.next (serveOpen_drops ha (proofServe_foreign ((AtDesk.lockedOut hu _).trans hl)
    ((AtDesk.slotOf hu _).trans hs) ((AtDesk.session hu k).trans hx) h)))

variable (hh : x.half = true) (ht : x.transport = m.transport.val) (hsrc : x.source = m.source)
include hh ht hsrc

theorem loginProof_opens {key : List Byte} (hk : s.roleKey x.role x.plot = some key) (hp : m.body = loginProofOf x key) :
    exec (.loginProof m) s = .next (((s.ompArrive m).modSession k fun _ => openSession x key s.tick).respond m 1 x.number none
      { body := hmac key (ascii "BXE" ++ x.nonce ++ x.challenge ++ leBytes 4 x.number) }) := by
  have hu := ompArrive_atDesk (s := s) m
  rw [← AtDesk.tick hu]
  exact loginProof_answers ha (proofServe_opens ((AtDesk.lockedOut hu _).trans hl) ((AtDesk.slotOf hu _).trans hs)
    ((AtDesk.session hu k).trans hx) hh ht hsrc ((AtDesk.roleKey hu _ _).trans hk) hp)
theorem loginProof_forgets (hk : ∀ key, s.roleKey x.role x.plot = some key → m.body ≠ loginProofOf x key) :
    exec (.loginProof m) s = .next ((((s.ompArrive m).modSession k fun _ => {}).loginFailed (sourceKey m)).respond m 1 m.session none
      { status := 0x19 }) := by
  have hu := ompArrive_atDesk (s := s) m
  exact loginProof_answers ha (proofServe_forgets ((AtDesk.lockedOut hu _).trans hl) ((AtDesk.slotOf hu _).trans hs)
    ((AtDesk.session hu k).trans hx) hh ht hsrc fun key h => hk key ((AtDesk.roleKey hu _ _).symm.trans h))

end

/-- Settles O52: each exchange, by what it finds in the state that its message leaves, and the two timers. -/
theorem loginInTwoExchanges : Obligations.LoginInTwoExchanges := by
  intro m s
  refine ⟨?first, fun ha => ⟨fun hl => ?locked, fun hl hs => ?unknown⟩, ?proof, fun n => ⟨?lapse, ?keeps⟩, ?lockout⟩
  case first =>
    rintro number challenge _ _ bad ha rfl rfl hbad
    have hb : bad = badLogin m := hbad
    refine ⟨fun h => ⟨_, login_inSession ha h, ompDrop_arrived⟩, fun h0 hl => ⟨_, login_locked ha h0 hl, ?_⟩, fun h0 hl =>
      ⟨fun h => ⟨_, login_bad ha h0 hl (hb ▸ h), ?_⟩, fun h hr hz hf => ⟨_, login_first ha h0 hl (hb ▸ h) hr hz hf, ?_⟩, fun h hr =>
        ⟨fun hfree => ⟨_, login_full ha h0 hl (hb ▸ h) hr hfree, ?_⟩, fun k hfree hc => ⟨_, login_opens ha h0 hl (hb ▸ h) hr hfree, ?_⟩⟩⟩⟩
    · obtain ⟨hst, hse, hrg, hmem⟩ := respond_refuses (op := 1) (n := 0) (r := { status := 0x19 }) (m := m) (bump_arrived (s := s)).1
      exact ⟨hst, hse, respond_loginFail bump_arrived.2, hrg, hmem⟩
    · exact respond_refuses (l := []) (ompArrive_sessions _)
    · obtain ⟨hst, hse, hrg, hmem⟩ := respond_refuses (op := 1) (n := 0) (r := { status := 0x19 }) (m := m) (loginFailed_arrived (s := s) (sourceKey m)).1
      exact ⟨hst, hse, respond_loginFail (loginFailed_arrived _).2, hrg, hmem⟩
    · exact respond_refuses (l := []) (ompArrive_sessions _)
    · obtain ⟨hk, hj, hrg, hmem⟩ := respond_changes (m := m) (op := 1) (n := s.newNumber number) (k := k)
        (r := { body := (challenge ++ List.replicate 16 0).take 16 }) (f := fun _ => halfSession m (s.newNumber number) s.tick challenge) (ompArrive_atDesk (s := s) m)
      rw [hk]
      exact ⟨rfl, rfl, rfl, rfl, rfl, rfl, rfl, List.take_left' hc, rfl, rfl, hj, rfl, hrg, hmem⟩
  case locked =>
    obtain ⟨hst, hse, hrg, hmem⟩ := respond_refuses (op := 1) (n := m.session) (r := { status := 0x19 }) (m := m) (bump_arrived (s := s)).1
    exact ⟨_, loginProof_locked ha hl, hst, hse, respond_loginFail bump_arrived.2, hrg, hmem⟩
  case unknown =>
    obtain ⟨hst, hse, hrg, hmem⟩ := respond_refuses (op := 1) (n := m.session) (r := { status := 0x19 }) (m := m) (loginFailed_arrived (s := s) (sourceKey m)).1
    exact ⟨_, loginProof_unknown ha hl hs, hst, hse, respond_loginFail (loginFailed_arrived _).2, hrg, hmem⟩
  case proof =>
    intro k x ha hl hs hx
    refine ⟨fun h => ⟨_, loginProof_foreign ha hl hs hx h, ompDrop_arrived⟩, fun hh ht hsrc =>
      ⟨fun key hk hp => ⟨_, loginProof_opens ha hl hs hx hh ht hsrc hk hp, ?_⟩, fun hk => ⟨_, loginProof_forgets ha hl hs hx hh ht hsrc hk, ?_⟩⟩⟩
    · obtain ⟨hk, hj, hrg, hmem⟩ := respond_changes (m := m) (op := 1) (n := x.number) (k := k)
        (r := { body := hmac key (ascii "BXE" ++ x.nonce ++ x.challenge ++ leBytes 4 x.number) }) (f := fun _ => openSession x key s.tick)
        (ompArrive_atDesk (s := s) m)
      rw [hk]
      exact ⟨rfl, rfl, rfl, rfl, rfl, rfl, rfl, rfl, hj, rfl, hrg, hmem⟩
    · have hu := ompArrive_atDesk (s := s) m
      have hf := loginFailed_sessions (s := (s.ompArrive m).modSession k fun _ => {}) (sourceKey m)
      have hr := respond_none_atDesk (s := ((s.ompArrive m).modSession k fun _ => {}).loginFailed (sourceKey m)) m 1 m.session { status := 0x19 }
      refine ⟨?_, fun j hj => ?_, rfl, ?_, ?_, fun a => ?_⟩
      · exact (AtDesk.session hr k).trans ((SameSessions.session hf k).trans (session_modSession_same _ _ _))
      · exact (AtDesk.session hr j).trans ((SameSessions.session hf j).trans ((session_modSession_other _ _ hj).trans (AtDesk.session hu j)))
      · refine respond_loginFail ((loginFailed_fails _).trans ?_)
        rw [reg_of_regs (modSession_regs _ _ _), hu.regs _ (by simp)]
      · refine ((hu.sameRegs.mono (by simp)).trans (sameRegs_of_regs (modSession_regs _ k fun _ => {}) _)).trans ?_
        exact (hf.sameRegs.mono (by simp)).trans (hr.sameRegs.mono (by simp))
      · exact (AtDesk.sameMem hr a).trans ((SameSessions.sameMem hf a).trans (AtDesk.sameMem hu a))
  case lapse =>
    exact fun hh ht => ⟨_, if_pos ⟨hh, ht⟩, session_modSession_same _ _ _, fun j hj => session_modSession_other _ _ hj,
      sameRegs_of_regs rfl _, fun _ => rfl⟩
  case keeps =>
    refine fun h => if_neg ?_
    rintro ⟨h1, h2⟩
    rcases h with h | h
    · exact Bool.false_ne_true (h.symm.trans h1)
    · exact absurd h2 (Nat.not_le.mpr h)
  case lockout =>
    intro transport source
    have hex : exec (.lockoutEnd transport source) s = execLockoutEnd transport source s := rfl
    rw [hex]
    unfold Runs
    rw [hex]
    unfold execLockoutEnd
    refine ⟨fun k hk => ?_, fun hk => ?_⟩
    · dsimp only
      rw [hk]
      refine ⟨fun h => ⟨_, if_pos h, ?_, sameRegs_of_regs rfl _, fun _ => rfl⟩, fun h => if_neg (Nat.not_le.mpr h)⟩
      rw [loginSource_modSource_same]
    · dsimp only
      rw [hk]

end Sys2Proof.Machine
end
section
/-!
PROOFS. The requests of a session that is open (16, R440, R449 to R454, R459, R460).
-/
namespace Sys2Proof.Machine

/-! A message that the chip does not take, or that names another node. -/

section
variable {s t : State} {m : Omp} {i : Instr} {q : Request}

/-- What a message does before its request is looked at. -/
def Gated (s : State) (m : Omp) (t : State) : Prop :=
  (s.ompOpen m = false → t = { s with answer := {} }) ∧ (s.ompOpen m = true → s.nodeOk m = false → t = s.ompArrive m)

theorem serveOpen_gated (op : Nat) (f : State → State × Option (Nat × Reply)) : Gated s m (s.serveOpen m op f) := by
  unfold State.serveOpen
  refine ⟨fun h => ?_, fun h hn => ?_⟩
  · rw [h]
    rfl
  · rw [h, hn]
    rfl
theorem request_gated (hq : q.msg = m) : Gated s m (s.request q) := by
  subst hq
  unfold State.request
  refine ⟨fun h => ?_, fun h hn => ?_⟩
  · rw [h]
    rfl
  · rw [h, hn]
    rfl
theorem ite_gated {p : Prop} [Decidable p] {u : State} (ht : Gated s m t) (hu : Gated s m u) : Gated s m (if p then t else u) := by
  split
  · exact ht
  · exact hu
/-- Every request passes the gate first. -/
theorem exec_gated {number : Fin 4294967296} {challenge : List Byte} {bad : Option (Fin 2 × Nat)}
    (hi : i ∈ [.login m number challenge, .loginProof m, .logout m, .read m, .write m, .writeAt m, .blockRead m bad, .blockWrite m,
      .heartbeat m, .claimTake m, .claimRelease m]) : ∃ t, exec i s = .next t ∧ Gated s m t := by
  simp only [List.mem_cons, List.not_mem_nil, or_false] at hi
  rcases hi with rfl | rfl | rfl | rfl | rfl | rfl | rfl | rfl | rfl | rfl | rfl
  · exact ⟨_, rfl, serveOpen_gated _ _⟩
  · exact ⟨_, rfl, serveOpen_gated _ _⟩
  · exact ⟨_, rfl, request_gated rfl⟩
  · exact ⟨_, rfl, ite_gated (serveOpen_gated _ _) (request_gated rfl)⟩
  · exact ⟨_, rfl, request_gated rfl⟩
  · exact ⟨_, rfl, request_gated rfl⟩
  · exact ⟨_, rfl, request_gated rfl⟩
  · exact ⟨_, rfl, request_gated rfl⟩
  · exact ⟨_, rfl, ite_gated (serveOpen_gated _ _) (request_gated rfl)⟩
  · exact ⟨_, rfl, request_gated rfl⟩
  · exact ⟨_, rfl, request_gated rfl⟩

end

/-! A request with its tag. -/

section
variable {s : State} {m : Omp} {op k : Nat} {x : Session}

/-- The session of a request that has passed. -/
def Session.passed (x : Session) (tick seq : Nat) : Session := { x with lastTick := tick, seq := seq }

theorem Tagged.number (h : Tagged s m op k x) : m.session ≠ 0 := by
  intro h0
  have hs := h.slot
  rw [h0, State.slotOf, if_pos rfl] at hs
  exact nomatch hs
theorem received_session (h : s.session k = x) : (s.received m k).session k = x.passed s.tick m.seq := by
  unfold State.received
  rw [session_modSession_same, session_modSession_same, AtDesk.session (ompArrive_atDesk m), h]
  rfl
theorem received_other {j : Nat} (hj : j ≠ k) : (s.received m k).session j = s.session j :=
  (session_modSession_other _ _ hj).trans ((session_modSession_other _ _ hj).trans (AtDesk.session (ompArrive_atDesk m) j))
theorem received_regs (k : Nat) : (s.received m k).regs = (s.ompArrive m).regs := rfl
theorem received_mem (k : Nat) : SameMem s (s.received m k) := fun a => AtDesk.sameMem (ompArrive_atDesk m) a
theorem passRequest_tagged (h : Tagged s m op k x) : (s.ompArrive m).passRequest m op = .ok (s.received m k, k, x.passed s.tick m.seq) := by
  have hu := ompArrive_atDesk (s := s) m
  have hx : (s.ompArrive m).session k = x := (AtDesk.session hu k).trans h.session
  have hr := received_session (m := m) h.session
  unfold State.received at hr ⊢
  rw [← AtDesk.tick hu] at hr ⊢
  unfold State.passRequest
  rw [AtDesk.slotOf hu, h.slot]
  dsimp only
  have h1 : ¬(!x.open_ || x.transport != m.transport.val || x.source != m.source) = true := by
    rw [h.isOpen, h.transport, h.source]
    simp
  have h2 : ¬(m.flags.val / 2 % 2 = 0 ∨ m.tag ≠ ompTag x.ks (ompHeader op m.flags m.node m.session m.seq m.body.length 0 m.tick) m.body) := by
    rw [h.tagged]
    exact fun h3 => h3.elim (by decide) fun h3 => h3 h.tag
  rw [hx, if_neg h1, if_neg h2, if_pos h.seq, hr]

variable {i : Instr} {q : ReqKind} {bad : Option (Fin 2 × Nat)}

theorem exec_request (hm : m.session ≠ 0)
    (hi : (i, q) ∈ [(.logout m, .logout), (.read m, .read), (.write m, .write), (.writeAt m, .writeAt), (.blockRead m bad, .blockRead bad),
      (.blockWrite m, .blockWrite), (.heartbeat m, .heartbeat), (.claimTake m, .claim true), (.claimRelease m, .claim false)]) :
    exec i s = .next (s.request ⟨q, m⟩) := by
  simp only [List.mem_cons, List.not_mem_nil, or_false] at hi
  rcases hi with ⟨rfl, rfl⟩ | ⟨rfl, rfl⟩ | ⟨rfl, rfl⟩ | ⟨rfl, rfl⟩ | ⟨rfl, rfl⟩ | ⟨rfl, rfl⟩ | ⟨rfl, rfl⟩ | ⟨rfl, rfl⟩ | ⟨rfl, rfl⟩
  · rfl
  · exact congrArg Host.Outcome.next (if_neg hm)
  · rfl
  · rfl
  · rfl
  · rfl
  · exact congrArg Host.Outcome.next (if_neg hm)
  · rfl
  · rfl

/-- A gardener that is occupied: the request takes its place, or is dropped. -/
theorem request_waits (h : Tagged s m q.op k x) (hb : s.gardBusy = true) : s.request ⟨q, m⟩ =
    if ((s.ompArrive m).waiting (min 16 x.plot)).length ≥ 16 then (s.ompArrive m).ompDrop
    else (s.ompArrive m).setWaiting (min 16 x.plot) ((s.ompArrive m).waiting (min 16 x.plot) ++ [⟨q, m⟩]) := by
  have hu := ompArrive_atDesk (s := s) m
  have hq : (s.ompArrive m).queueOf m = min 16 x.plot := by
    unfold State.queueOf
    rw [AtDesk.slotOf hu, h.slot]
    dsimp only
    rw [AtDesk.session hu, h.session]
  unfold State.request
  dsimp only
  rw [h.taken, h.node, hb, passRequest_tagged h, ← hq]
  rfl
/-- An idle gardener serves it. -/
theorem request_serves {w : State} {r : Reply} (h : Fresh s m q.op k x)
    (hd : (s.received m k).doRequest ⟨q, m⟩ k (x.passed s.tick m.seq) = (w, r)) :
    s.request ⟨q, m⟩ = w.respond m q.op m.session (some (k, x.ks)) r := by
  unfold State.request State.serveRequest State.serve
  dsimp only
  rewrite [h.taken, h.node, h.idle, passRequest_tagged h.toTagged]
  show (if ompFormOk m = true then (s.received m k).doRequest ⟨q, m⟩ k (x.passed s.tick m.seq) else _).1.respond m q.op m.session (some (k, x.ks))
    (if ompFormOk m = true then (s.received m k).doRequest ⟨q, m⟩ k (x.passed s.tick m.seq) else _).2 = _
  rw [if_pos h.form, hd]
/-- What the response of a session leaves: the reply, noted in the session where it is open still. -/
theorem respond_own {t : State} {n : Nat} {ks : List Byte} {r : Reply} :
    (∃ l, (t.respond m op n (some (k, ks)) r).session k = { t.session k with replies := l }) ∧
    ((t.session k).open_ = false → (t.respond m op n (some (k, ks)) r).session k = t.session k) ∧
    (∀ j, j ≠ k → (t.respond m op n (some (k, ks)) r).session j = t.session j) ∧
    (t.respond m op n (some (k, ks)) r).answer.status = r.status ∧
    Only State.mem (· ∈ [Reg.ompTx]) t (t.respond m op n (some (k, ks)) r) := by
  unfold State.respond
  extract_lets flags hd msg u a v s1
  have hu : AtDesk [Reg.ompTx] t s1 := Only.trans (transmit_atDesk m.transport msg) (.of_regs rfl rfl)
  have ha : s1.answer.status = r.status := rfl
  clear_value s1
  have hmem : Only State.mem (· ∈ [Reg.ompTx]) t s1 := ⟨(congrArg State.mem hu.view :), hu.regs⟩
  have hk := AtDesk.session hu k
  dsimp only
  split
  case isTrue ho =>
    refine ⟨⟨((m.seq, { a with bytes := msg }) :: (t.session k).replies).take 8, ?_⟩, fun hc => ?_, fun j hj => ?_, ha, hmem.trans (.of_regs rfl rfl)⟩
    · rw [session_modSession_same, hk]
    · exact absurd (hc.symm.trans ((congrArg Session.open_ hk).symm.trans ho.1)) Bool.false_ne_true
    · exact (session_modSession_other _ _ hj).trans (AtDesk.session hu j)
  case isFalse ho =>
    exact ⟨⟨(t.session k).replies, hk⟩, fun _ => hk, fun j _ => AtDesk.session hu j, ha, hmem⟩

end

/-! Logout, heartbeat, claims. -/

section
variable {s : State} {m : Omp} {k : Nat} {x : Session}

/-- A response of a session in the state that its request was received in, where only that session has changed since. -/
theorem respond_received {w : State} {op : Nat} {ks : List Byte} {r : Reply} {y : Session} (hk : w.session k = y)
    (hj : ∀ j, j ≠ k → w.session j = (s.received m k).session j) (hr : w.regs = (s.received m k).regs) (hm : w.mem = (s.received m k).mem) :
    (∃ l, (w.respond m op m.session (some (k, ks)) r).session k = { y with replies := l }) ∧
    (y.open_ = false → (w.respond m op m.session (some (k, ks)) r).session k = y) ∧
    (∀ j, j ≠ k → (w.respond m op m.session (some (k, ks)) r).session j = s.session j) ∧
    (w.respond m op m.session (some (k, ks)) r).answer.status = r.status ∧
    SameRegs s (w.respond m op m.session (some (k, ks)) r) [Reg.ompRx, Reg.ompTx] ∧ SameMem s (w.respond m op m.session (some (k, ks)) r) := by
  obtain ⟨h1, h2, h3, h4, h5⟩ := respond_own (t := w) (m := m) (op := op) (n := m.session) (k := k) (ks := ks) (r := r)
  rw [hk] at h1 h2
  refine ⟨h1, h2, fun j hne => (h3 j hne).trans ((hj j hne).trans (received_other hne)), h4, ?_, fun a => ?_⟩
  · have hu : SameRegs s (s.ompArrive m) [Reg.ompRx, Reg.ompTx] := (ompArrive_atDesk (s := s) m).sameRegs.mono (by simp)
    exact (hu.trans (sameRegs_of_regs (hr.trans (received_regs k)) _)).trans (h5.sameRegs.mono (by simp))
  · exact (byte_of_mem (h5.field id) a).trans ((byte_of_mem hm a).trans (received_mem k a))

/-- Who claims a plot does not depend on the session that asks. -/
theorem any_ins {κ α : Type} (ord : κ → Nat) (k : κ) (v : α) (t : Table κ α) (p : κ × α → Bool) :
    (Table.ins ord k v t).any p = (p (k, v) || t.any p) := by
  rw [Bool.eq_iff_iff]
  simp only [List.any_eq_true, Bool.or_eq_true, Table.mem_ins]
  constructor
  · rintro ⟨e, rfl | he, hp⟩
    · exact .inl hp
    · exact .inr ⟨e, he, hp⟩
  · rintro (hp | ⟨e, he, hp⟩)
    · exact ⟨_, .inl rfl, hp⟩
    · exact ⟨e, .inr he, hp⟩
theorem any_erase {α : Type} (k : Nat) (t : Table Nat α) (p : Nat × α → Bool) :
    (Table.erase t k).any (fun e => e.1 != k && p e) = t.any fun e => e.1 != k && p e := by
  unfold Table.erase
  rw [List.any_filter]
  refine congrArg t.any (funext fun e => ?_)
  by_cases h : e.1 = k <;> simp [h]
theorem any_put {α : Type} [DecidableEq α] (d : α) (t : NTable α) (k : Nat) (v : α) (p : Nat × α → Bool) :
    (NTable.put d t k v).any (fun e => e.1 != k && p e) = t.any fun e => e.1 != k && p e := by
  unfold NTable.put Table.put
  split
  · exact any_erase k t p
  · rw [any_ins, any_erase]
    simp
theorem claimedBy_received : (s.received m k).claimedBy k (x.passed s.tick m.seq) = s.claimedBy k x := by
  have hs : (s.ompArrive m).sessions = s.sessions := AtDesk.sessions (ompArrive_atDesk m)
  have hany := fun t n v => any_put ({} : Session) t n v fun e => e.2.open_ && e.2.claim && e.2.role == x.role && e.2.plot == x.plot
  simp only [← Bool.and_assoc] at hany
  refine (hany _ _ _).trans ((hany _ _ _).trans ?_)
  rw [hs]
  rfl

variable {take : Bool} {i : Instr}

theorem exec_claim (hi : i = if take then .claimTake m else .claimRelease m) : exec i s = .next (s.request ⟨.claim take, m⟩) := by
  subst hi
  cases take
  · rfl
  · rfl
theorem claim_bad {u : State} (hb : m.body ≠ [if take then 1 else 0, 0, 0, 0, 0, 0, 0, 0]) : u.claim m take k x = (u, { status := 0x1A }) :=
  if_pos hb
section
variable {u : State} (hb : m.body = [if take then 1 else 0, 0, 0, 0, 0, 0, 0, 0])
include hb
theorem claim_observer (hr : x.role = 2) : u.claim m take k x = (u, { status := 0x11 }) :=
  (if_neg (not_not_intro hb)).trans (if_pos hr)
theorem claim_held (hr : x.role ≠ 2) (ht : take = true) (hc : u.claimedBy k x = true) : u.claim m take k x = (u, { status := 0x17 }) := by
  refine (if_neg (not_not_intro hb)).trans ((if_neg hr).trans (if_pos ?_))
  rw [ht, hc]
  rfl
theorem claim_done (hr : x.role ≠ 2) (hc : take = false ∨ u.claimedBy k x = false) :
    u.claim m take k x = (u.modSession k fun x => { x with claim := take }, {}) := by
  refine (if_neg (not_not_intro hb)).trans ((if_neg hr).trans (if_neg ?_))
  rw [Bool.and_eq_true]
  rintro ⟨h1, h2⟩
  rcases hc with hc | hc
  · exact Bool.false_ne_true (hc.symm.trans h1)
  · exact Bool.false_ne_true (hc.symm.trans h2)
end

end

section
variable {s u : State} {m : Omp}

theorem heartbeat_status (u : State) (m : Omp) : (u.heartbeatReply m).status = if m.body = [] then 0 else 0x1A := by
  unfold State.heartbeatReply
  by_cases h : m.body = []
  · rw [if_neg (not_not_intro h), if_pos h]
  · rw [if_pos h, if_neg h]
theorem heartbeat_body (h : m.body = []) : (u.heartbeatReply m).body = timeBytes u.timeNs ++ leBytes 8 u.tick := by
  unfold State.heartbeatReply
  rw [if_neg (not_not_intro h)]
@[simp] theorem length_ompHeader (op flags node session seq len status tick : Nat) :
    (ompHeader op flags node session seq len status tick).length = 32 := by
  simp [ompHeader]
/-- The bytes of a response that is sent: its header, its body. -/
theorem respond_none_bytes {op n : Nat} {r : Reply} (hs : (u.respond m op n none r).answer.sent = true) :
    (u.respond m op n none r).answer.bytes.drop 32 = r.body := by
  have hb : (u.respond m op n none r).answer.bytes =
      ompHeader op 1 m.node n m.seq r.body.length r.status u.tick ++ r.body ++ [] := if_pos hs
  rw [hb, List.append_nil]
  exact List.drop_left' (length_ompHeader ..)
theorem AtDesk.timeNs {l : List Reg} (h : AtDesk l s u) (hl : Reg.tickFamily ∉ l) : u.timeNs = s.timeNs := by
  have hc : u.clk = s.clk := (congrArg State.clk h.view :)
  have hy : u.cycle = s.cycle := (congrArg State.cycle h.view :)
  unfold State.timeNs State.timeNow
  rw [AtDesk.tps h hl, AtDesk.tick h, hc, hy]

end

/-! The key of the gardener role, and what closes a session. -/

section
variable {s : State} {n : Option (Fin 64)} {key : List Byte}

@[simp] theorem session_closeSession_same (s : State) (n : Nat) : (s.closeSession n).session n = {} :=
  NTable.get_put_same ({} : Session) s.sessions n {}
theorem session_closeSession_other (s : State) {n j : Nat} (h : j ≠ n) : (s.closeSession n).session j = s.session j :=
  NTable.get_put_other ({} : Session) s.sessions n j {} h
theorem session_closeAll (l : List Nat) (j : Nat) (s : State) :
    (overL l State.closeSession s).session j = if j ∈ l then {} else s.session j := by
  induction l generalizing s with
  | nil => rfl
  | cons n l ih =>
    refine (ih (s.closeSession n)).trans ?_
    by_cases hl : j ∈ l
    · rw [if_pos hl, if_pos (.tail _ hl)]
    · rw [if_neg hl]
      by_cases hj : j = n
      · rw [hj, session_closeSession_same, if_pos (.head _)]
      · rw [session_closeSession_other _ hj, if_neg fun h => (List.mem_cons.mp h).elim hj hl]
/-- An open session has an entry of its own. -/
theorem session_listed {j : Nat} (h : (s.session j).open_ = true) : (j, s.session j) ∈ s.sessions := by
  unfold State.session NTable.get Table.get at h ⊢
  cases hf : s.sessions.find? fun e => decide (e.1 = j) with
  | none =>
    rw [hf] at h
    exact absurd h Bool.false_ne_true
  | some e =>
    have he : e.1 = j := of_decide_eq_true (List.find?_some (p := fun e : Nat × Session => decide (e.1 = j)) hf)
    exact he ▸ List.mem_of_find?_eq_some hf

/-- The other sessions of the gardener role. -/
def otherGardeners (s : State) (slot : Option Nat) : List Nat :=
  (s.sessions.filter fun (e : Nat × Session) => e.2.open_ && e.2.role == 0 && some e.1 != slot).map (·.1)

theorem mem_otherGardeners {slot : Option Nat} {j : Nat} (ho : (s.session j).open_ = true) (hr : (s.session j).role = 0) (hj : some j ≠ slot) :
    j ∈ otherGardeners s slot := by
  refine List.mem_map.mpr ⟨(j, s.session j), List.mem_filter.mpr ⟨session_listed ho, ?_⟩, rfl⟩
  simp [ho, hr, hj]
theorem not_mem_otherGardeners {j : Nat} : j ∉ otherGardeners s (some j) := by
  intro h
  obtain ⟨e, he, rfl⟩ := List.mem_map.mp h
  have := (List.mem_filter.mp he).2
  simp at this
theorem exec_gardenerKey (h : n = none ∨ ∃ j, n = some j ∧ (s.session j).open_ = true ∧ (s.session j).role = 0) :
    exec (.gardenerKey n key) s = .next (s.writeGardenerKey (n.map (·.val)) key) := by
  rcases h with rfl | ⟨j, rfl, ho, hr⟩
  · rfl
  · have hw : s.who (some j.val) = some (0, (s.session j).plot) := by
      rw [← hr]
      exact if_pos ho
    show execGardenerKey _ _ _ = _
    unfold execGardenerKey
    dsimp only [Option.map_some]
    rw [hw]
    rfl
theorem gardenerKey_denied {j : Fin 64} (h : (s.session j).open_ = false ∨ (s.session j).role ≠ 0) :
    Answers (.gardenerKey (some j) key) s 0x11 := by
  show execGardenerKey _ _ _ = _
  unfold execGardenerKey
  dsimp only [Option.map_some]
  cases ho : (s.session j).open_ with
  | false =>
    have hw : s.who (some j.val) = none := if_neg (Bool.eq_false_iff.mp ho)
    rw [hw]
    rfl
  | true =>
    have hw : s.who (some j.val) = some ((s.session j).role, (s.session j).plot) := if_pos ho
    have hr : (s.session j).role ≠ 0 := h.resolve_left (by rw [ho]; decide)
    rw [hw]
    refine congrArg Host.Outcome.next (if_pos ?_)
    show (!((s.session j).role == 0)) = true
    rw [beq_false_of_ne hr]
    rfl
theorem writeGardenerKey_eq {slot : Option Nat} (hl : key.length = 32) : s.writeGardenerKey slot key =
    ((overL (otherGardeners s slot) State.closeSession (s.setBlob Reg.gardenerKey (if zeros key then [] else key))).flashed).reply 0 :=
  if_neg (not_not_intro hl)
theorem writeGardenerKey_takes {slot : Option Nat} (hl : key.length = 32) :
    (s.writeGardenerKey slot key).gardenerKey = key ∧ (s.writeGardenerKey slot key).answer.status = 0 ∧
    (∀ j, (s.writeGardenerKey slot key).session j = if j ∈ otherGardeners s slot then {} else s.session j) ∧
    SameRegs s (s.writeGardenerKey slot key) [Reg.flashPending] ∧ SameMem s (s.writeGardenerKey slot key) := by
  rw [writeGardenerKey_eq hl]
  have hb : (s.setBlob Reg.gardenerKey (if zeros key then [] else key)).blob Reg.gardenerKey = if zeros key then [] else key :=
    Table.get_put_same _ _ _ _ _
  have hs : ∀ j, (s.setBlob Reg.gardenerKey (if zeros key then [] else key)).session j = s.session j := fun _ => rfl
  have hr : (s.setBlob Reg.gardenerKey (if zeros key then [] else key)).regs = s.regs := rfl
  have hm : (s.setBlob Reg.gardenerKey (if zeros key then [] else key)).mem = s.mem := rfl
  generalize s.setBlob Reg.gardenerKey (if zeros key then [] else key) = u at hb hs hr hm
  have hc := session_closeAll (otherGardeners s slot) (s := u)
  have hcu : Only (fun s => (s.blobs, s.mem)) (· ∈ [Reg.flashPending]) u (overL (otherGardeners s slot) State.closeSession u) :=
    Only.of_overL (f := State.closeSession) _ (fun s n _ => .of_regs rfl rfl) u
  generalize overL (otherGardeners s slot) State.closeSession u = v at hc hcu ⊢
  have hf := flashed_reports v
  have hfs : v.flashed.sessions = v.sessions := when_keeps (g := State.sessions) rfl
  have hblob : v.flashed.blobs = u.blobs := (hf.field State.blobs fun _ => rfl).trans (hcu.field Prod.fst)
  refine ⟨?_, rfl, fun j => ?_, ?_, fun a => ?_⟩
  · have hbv : (v.flashed.reply 0).blob Reg.gardenerKey = if zeros key then [] else key :=
      (congrArg (fun b => Table.get (fun _ => []) b Reg.gardenerKey) hblob).trans hb
    unfold State.gardenerKey
    rw [hbv]
    cases hz : zeros key with
    | true => exact (List.eq_replicate_iff.mpr ⟨hl, fun b hb => beq_iff_eq.mp (List.all_eq_true.mp hz b hb)⟩).symm
    | false => exact if_neg fun h : key = [] => by simp [h] at hl
  · refine (congrArg (fun l : NTable Session => NTable.get ({} : Session) l j) hfs).trans ((hc j).trans ?_)
    rw [hs]
  · exact (sameRegs_of_regs hr _).trans ((hcu.sameRegs).trans hf.2)
  · exact (byte_of_mem (hf.mem.trans ((hcu.field Prod.snd).trans hm)) a)

end

/-- Settles O53: the gate that every request passes, the queues of an occupied gardener, and each short request of an idle one. -/
theorem sessionRequests : Obligations.SessionRequests := by
  intro m k x s
  refine ⟨?gate, ?queue, fun h => ⟨fun hb => ?logout, fun hb => ?badLogout⟩, fun h => ?heartbeat, fun ha h0 => ?open_, fun h take i hi =>
    ⟨fun hb hr => ⟨fun hc => ?claims, fun ht hc => ?held⟩, fun hb => ?refused⟩, ?key, fun n => ⟨?silent, ?keeps⟩⟩
  case gate =>
    intro i number challenge bad hi
    obtain ⟨t, hex, h1, h2⟩ := exec_gated (s := s) hi
    exact ⟨fun h => hex.trans (congrArg _ (h1 h)), fun h hn => hex.trans (congrArg _ (h2 h hn))⟩
  case queue =>
    intro i q bad hi h hb
    have hex := (exec_request (s := s) h.number hi).trans (congrArg Host.Outcome.next (request_waits h hb))
    have hu := ompArrive_atDesk (s := s) m
    have hw : (s.ompArrive m).waiting (min 16 x.plot) = s.waiting (min 16 x.plot) :=
      congrArg (fun g : GardSt => NTable.get [] g.queues (min 16 x.plot)) (AtDesk.gard hu)
    rw [hw] at hex
    refine ⟨fun hlen => ?_, fun hlen => ?_⟩
    · rw [if_neg (Nat.not_le.mpr hlen)] at hex
      refine ⟨_, hex, NTable.get_put_same _ _ _ _, (AtDesk.sessions hu :), congrArg Answer.sent (ompArrive_answer m), hu.sameRegs, fun a => AtDesk.sameMem hu a⟩
    · rw [if_pos hlen] at hex
      exact ⟨_, hex, (AtDesk.gard hu :), ompDrop_arrived⟩
  case logout =>
    have hd : (s.received m k).doRequest ⟨.logout, m⟩ k (x.passed s.tick m.seq) = ((s.received m k).closeSession k, {}) := if_neg (not_not_intro hb)
    obtain ⟨h1, h2, h3, h4, h5, h6⟩ := respond_received (s := s) (m := m) (op := 2) (ks := x.ks) (r := {})
      (session_closeSession_same (s.received m k) k) (fun j hj => session_closeSession_other _ hj) rfl rfl
    exact ⟨_, congrArg Host.Outcome.next (request_serves (q := .logout) h hd), h2 rfl, h3, h4, h5, h6⟩
  case badLogout =>
    have hd : (s.received m k).doRequest ⟨.logout, m⟩ k (x.passed s.tick m.seq) = (s.received m k, { status := 0x1A }) := if_pos hb
    obtain ⟨⟨l, h1⟩, h2, h3, h4, h5, h6⟩ := respond_received (op := 2) (ks := x.ks) (r := { status := 0x1A })
      (received_session (m := m) h.session) (fun _ _ => rfl) rfl rfl
    refine ⟨_, congrArg Host.Outcome.next (request_serves (q := .logout) h hd), ?_, ?_, h4, h5, h6⟩
    · exact (congrArg Session.open_ h1).trans h.isOpen
    · exact congrArg Session.seq h1
  case heartbeat =>
    have hd : (s.received m k).doRequest ⟨.heartbeat, m⟩ k (x.passed s.tick m.seq) = (s.received m k, (s.received m k).heartbeatReply m) := rfl
    have hex : exec (.heartbeat m) s = .next (s.request ⟨.heartbeat, m⟩) := congrArg Host.Outcome.next (if_neg h.number)
    obtain ⟨⟨l, h1⟩, h2, h3, h4, h5, h6⟩ := respond_received (op := 9) (ks := x.ks) (r := (s.received m k).heartbeatReply m)
      (received_session (m := m) h.session) (fun _ _ => rfl) rfl rfl
    refine ⟨_, hex.trans (congrArg Host.Outcome.next (request_serves (q := .heartbeat) h hd)), ?_, ?_, h3, h4.trans ?_, h5, h6⟩
    · exact congrArg Session.lastTick h1
    · exact (congrArg Session.open_ h1).trans h.isOpen
    · exact heartbeat_status _ _
  case open_ =>
    have hu := ompArrive_atDesk (s := s) m
    have hex : exec (.heartbeat m) s = .next ((s.ompArrive m).respond m 9 0 none ((s.ompArrive m).heartbeatReply m)) :=
      (congrArg Host.Outcome.next (if_pos h0)).trans (congrArg Host.Outcome.next (serveOpen_answers ha rfl))
    obtain ⟨h1, h2, h3, h4⟩ := respond_refuses (l := []) (op := 9) (n := 0) (m := m) (r := (s.ompArrive m).heartbeatReply m) (ompArrive_sessions (s := s) _)
    refine ⟨_, hex, h2, h1.trans (heartbeat_status _ _), fun hb hs => ?_, h3, h4⟩
    rw [respond_none_bytes hs, heartbeat_body hb, AtDesk.timeNs hu (by simp), AtDesk.tick hu]
  case claims =>
    have hc' : take = false ∨ (s.received m k).claimedBy k (x.passed s.tick m.seq) = false := by rwa [claimedBy_received]
    have hd := claim_done (u := s.received m k) (x := x.passed s.tick m.seq) hb hr hc'
    obtain ⟨⟨l, h1⟩, h2, h3, h4, h5, h6⟩ := respond_received (s := s) (m := m) (op := 10) (ks := x.ks) (r := {})
      (session_modSession_same (s.received m k) k fun x => { x with claim := take }) (fun j hj => session_modSession_other _ _ hj) rfl rfl
    exact ⟨_, (exec_claim hi).trans (congrArg Host.Outcome.next (request_serves (q := .claim take) h hd)), (congrArg Session.claim h1 :), h4, h3, h5, h6⟩
  case held =>
    have hd := claim_held (u := s.received m k) (x := x.passed s.tick m.seq) hb hr ht (by rwa [claimedBy_received])
    obtain ⟨⟨l, h1⟩, h2, h3, h4, h5, h6⟩ := respond_received (op := 10) (ks := x.ks) (r := { status := 0x17 })
      (received_session (m := m) h.session) (fun _ _ => rfl) rfl rfl
    exact ⟨_, (exec_claim hi).trans (congrArg Host.Outcome.next (request_serves (q := .claim take) h hd)), (congrArg Session.claim h1 :), h4, h3, h5, h6⟩
  case refused =>
    obtain ⟨⟨l, h1⟩, h2, h3, h4, h5, h6⟩ := respond_received (op := 10) (ks := x.ks)
      (r := { status := if m.body = [if take then 1 else 0, 0, 0, 0, 0, 0, 0, 0] then 0x11 else 0x1A })
      (received_session (m := m) h.session) (fun _ _ => rfl) rfl rfl
    have hd : (s.received m k).doRequest ⟨.claim take, m⟩ k (x.passed s.tick m.seq) =
        (s.received m k, { status := if m.body = [if take then 1 else 0, 0, 0, 0, 0, 0, 0, 0] then 0x11 else 0x1A }) := by
      by_cases hbody : m.body = [if take then 1 else 0, 0, 0, 0, 0, 0, 0, 0]
      · rw [if_pos hbody]
        exact claim_observer hbody (hb.resolve_left (not_not_intro hbody))
      · rw [if_neg hbody]
        exact claim_bad hbody
    exact ⟨_, (exec_claim hi).trans (congrArg Host.Outcome.next (request_serves (q := .claim take) h hd)), (congrArg Session.claim h1 :), h4, h5, h6⟩
  case key =>
    refine fun n key => ⟨fun hn => ⟨fun hl => ?_, fun hl => ?_⟩, fun j hj h => hj ▸ gardenerKey_denied h⟩
    · obtain ⟨h1, h2, h3, h4, h5⟩ := writeGardenerKey_takes (s := s) (slot := n.map (·.val)) hl
      refine ⟨_, exec_gardenerKey hn, h1, h2, fun j ho hr hne => ?_, fun j hj => ?_, h4, h5⟩
      · rw [h3, if_pos (mem_otherGardeners ho hr hne)]
      · rw [h3, hj]
        exact if_neg not_mem_otherGardeners
    · exact (exec_gardenerKey hn).trans (congrArg Host.Outcome.next (if_pos hl))
  case silent =>
    exact fun ho ht => ⟨_, if_pos ⟨ho, ht⟩, session_closeSession_same _ _, fun j hj => session_closeSession_other _ hj, sameRegs_of_regs rfl _, fun _ => rfl⟩
  case keeps =>
    refine fun h => if_neg ?_
    rintro ⟨h1, h2⟩
    rcases h with h | h
    · exact Bool.false_ne_true (h.symm.trans h1)
    · exact absurd h2 (Nat.not_le.mpr h)

end Sys2Proof.Machine
end
section
/-!
PROOFS. Reads, writes, block transfers and the BAR0 window (16, R450, R454 to R457, R463, R464).
-/
namespace Sys2Proof.Machine

section
variable {s t u : State} {m : Omp} {op k idx sub : Nat} {x y : Session}

/-! What a response tells, and leaves. -/

theorem respond_own_answer {n : Nat} {ks : List Byte} {r : Reply} : (t.respond m op n (some (k, ks)) r).answer.items = r.items ∧
    (t.respond m op n (some (k, ks)) r).answer.applied = r.applied ∧ (t.respond m op n (some (k, ks)) r).gard = t.gard := by
  unfold State.respond
  extract_lets flags hd msg u a v s1
  have hu : AtDesk [Reg.ompTx] t s1 := Only.trans (transmit_atDesk m.transport msg) (.of_regs rfl rfl)
  have ha : s1.answer.items = r.items := rfl
  have hp : s1.answer.applied = r.applied := rfl
  have hg := AtDesk.gard hu
  clear_value s1
  dsimp only
  split
  · exact ⟨ha, hp, hg⟩
  · exact ⟨ha, hp, hg⟩
/-- Registers and memory through the response of a session. -/
theorem respond_own_keeps (t : State) (n : Nat) (ks : List Byte) (r : Reply) :
    SameRegs t (t.respond m op n (some (k, ks)) r) [Reg.ompTx] ∧ SameMem t (t.respond m op n (some (k, ks)) r) := by
  obtain ⟨-, -, -, -, h⟩ := respond_own (t := t) (m := m) (op := op) (n := n) (k := k) (ks := ks) (r := r)
  exact ⟨h.sameRegs, sameMem_of_mem (h.field id)⟩
theorem respond_own_status (t : State) (n : Nat) (ks : List Byte) (r : Reply) :
    (t.respond m op n (some (k, ks)) r).answer.status = r.status := by
  obtain ⟨-, -, -, h, -⟩ := respond_own (t := t) (m := m) (op := op) (n := n) (k := k) (ks := ks) (r := r)
  exact h
/-- The response of a request that changed no register and no byte. -/
theorem respond_received_keeps {w : State} (hr : w.regs = (s.received m k).regs) (hm : w.mem = (s.received m k).mem) (ks : List Byte) (r : Reply) :
    SameRegs s (w.respond m op m.session (some (k, ks)) r) [Reg.ompRx, Reg.ompTx] ∧ SameMem s (w.respond m op m.session (some (k, ks)) r) := by
  obtain ⟨h1, h2⟩ := respond_own_keeps (m := m) (op := op) (k := k) w m.session ks r
  have hu : SameRegs s (s.ompArrive m) [Reg.ompRx, Reg.ompTx] := (ompArrive_atDesk (s := s) m).sameRegs.mono (by simp)
  refine ⟨(hu.trans (sameRegs_of_regs (hr.trans (received_regs k)) _)).trans (h1.mono (by simp)), fun a => ?_⟩
  exact (h2 a).trans ((byte_of_mem hm a).trans (received_mem k a))

/-! Reads of a session. -/

theorem readItem_view {ss : Session} {o : ObjInfo} (ho : objAt idx sub = some o) (h1 : ¬(idx = 0x2240 ∧ sub = 1)) (h2 : ¬(idx = 0x2260 ∧ sub = 12))
    (ht : u.mayTouch ss o idx sub false = true) : u.readItem ss idx sub = (u, 0, u.view ss o idx sub) := by
  unfold State.readItem
  rw [ho]
  have hn : ¬(!u.mayTouch ss o idx sub false) = true := by
    rw [ht]
    decide
  exact (if_neg hn).trans ((if_neg h1).trans (if_neg h2))
/-- Of an object of identity, the state is as it was. -/
theorem readItem_identity {ss : Session} : (u.readItem ss 0x1000 sub).1 = u := by
  unfold State.readItem
  cases objAt 0x1000 sub with
  | none => rfl
  | some o =>
    dsimp only
    split
    · rfl
    · rfl
section
variable {max_ : Nat} {ss : Session} {v : State × Nat × List Byte} (hv : u.readItem ss idx sub = v)
include hv

theorem readAll_fits (h : 8 + (padItem v.2.2).length ≤ max_) : (u.readAll ss max_ [(idx, sub)]).1 = v.1 ∧
    (u.readAll ss max_ [(idx, sub)]).2.items = [(v.2.1, v.2.2)] ∧ (u.readAll ss max_ [(idx, sub)]).2.status = 0 := by
  have hn : decide (([] : List Byte).length + 8 + (padItem v.2.2).length > max_) = false :=
    decide_eq_false (by simp only [List.length_nil]; omega)
  unfold State.readAll
  simp only [List.foldl_cons, List.foldl_nil, State.readStep, hv, hn, Bool.false_eq_true, if_false, List.nil_append, and_self]
theorem readAll_full (h : max_ < 8 + (padItem v.2.2).length) : (u.readAll ss max_ [(idx, sub)]).1 = u ∧
    (u.readAll ss max_ [(idx, sub)]).2.items = [(0x12, [])] ∧ (u.readAll ss max_ [(idx, sub)]).2.status = 0 := by
  have hn : decide (([] : List Byte).length + 8 + (padItem v.2.2).length > max_) = true :=
    decide_eq_true (by simp only [List.length_nil]; omega)
  unfold State.readAll
  simp only [List.foldl_cons, List.foldl_nil, State.readStep, hv, hn, if_true, List.nil_append, and_self]

end

theorem readAll_identity (max_ : Nat) (ss : Session) : (u.readAll ss max_ [(0x1000, sub)]).1 = u := by
  rcases Nat.lt_or_ge max_ (8 + (padItem (u.readItem ss 0x1000 sub).2.2).length) with h | h
  · exact (readAll_full rfl h).1
  · exact (readAll_fits rfl h).1.trans readItem_identity

/-- A request of a kind that is served: what its answer shows, and the state before the answer. -/
theorem runs_served {q : ReqKind} {i : Instr} {w : State × Reply} (h : Fresh s m q.op k x) (hex : exec i s = .next (s.request ⟨q, m⟩))
    (hd : (s.received m k).doRequest ⟨q, m⟩ k (x.passed s.tick m.seq) = w) : Runs i s fun t =>
      t.answer.status = w.2.status ∧ t.answer.items = w.2.items ∧ t.answer.applied = w.2.applied ∧ t.gard = w.1.gard ∧
      SameRegs w.1 t [Reg.ompTx] ∧ SameMem w.1 t := by
  obtain ⟨hi, hp, hg⟩ := respond_own_answer (t := w.1) (m := m) (op := q.op) (k := k) (n := m.session) (ks := x.ks) (r := w.2)
  exact ⟨_, hex.trans (congrArg Host.Outcome.next (request_serves h hd)), respond_own_status _ _ _ _, hi, hp, hg, respond_own_keeps _ _ _ _⟩
/-- Such a request, where registers and memory are as the message found them. -/
theorem runs_answered {q : ReqKind} {i : Instr} {w : State × Reply} (h : Fresh s m q.op k x) (hex : exec i s = .next (s.request ⟨q, m⟩))
    (hd : (s.received m k).doRequest ⟨q, m⟩ k (x.passed s.tick m.seq) = w) (hr : w.1.regs = (s.received m k).regs)
    (hm : w.1.mem = (s.received m k).mem) : Runs i s fun t =>
      t.answer.status = w.2.status ∧ t.answer.items = w.2.items ∧ SameRegs s t [Reg.ompRx, Reg.ompTx] ∧ SameMem s t := by
  obtain ⟨hi, -, -⟩ := respond_own_answer (t := w.1) (m := m) (op := q.op) (k := k) (n := m.session) (ks := x.ks) (r := w.2)
  exact ⟨_, hex.trans (congrArg Host.Outcome.next (request_serves h hd)), respond_own_status _ _ _ _, hi, respond_received_keeps hr hm _ _⟩

theorem Runs.imp {i : Instr} {p q : State → Prop} (h : Runs i s p) (hpq : ∀ t, p t → q t) : Runs i s q := by
  obtain ⟨t, hex, hp⟩ := h
  exact ⟨t, hex, hpq t hp⟩

theorem runs_read (hy : (s.received m k).session k = y) (h : Fresh s m 3 k x) :
    (readItems m.body = none → Runs (.read m) s fun t => t.answer.status = 0x1A ∧ SameRegs s t [Reg.ompRx, Reg.ompTx] ∧ SameMem s t) ∧
    (∀ u : State × Nat × List Byte, readItems m.body = some [(idx, sub)] → (s.received m k).readItem y idx sub = u →
      (8 + (padItem u.2.2).length ≤ bodyMax m.transport → Runs (.read m) s fun t => t.answer.status = 0 ∧
        t.answer.items = [(u.2.1, u.2.2)] ∧ SameRegs u.1 t [Reg.ompTx] ∧ SameMem u.1 t) ∧
      (bodyMax m.transport < 8 + (padItem u.2.2).length → Runs (.read m) s fun t => t.answer.status = 0 ∧
        t.answer.items = [(0x12, [])] ∧ SameRegs s t [Reg.ompRx, Reg.ompTx] ∧ SameMem s t)) := by
  have hex : exec (.read m) s = .next (s.request ⟨.read, m⟩) := congrArg Host.Outcome.next (if_neg h.number)
  have hy' : y = x.passed s.tick m.seq := hy.symm.trans (received_session h.session)
  subst hy'
  refine ⟨fun hb => ?_, fun u hb hu => ?_⟩
  · have hd : (s.received m k).doRequest ⟨.read, m⟩ k (x.passed s.tick m.seq) = (s.received m k, { status := 0x1A }) := by
      show State.serveRead (s.received m k) m k _ = _
      unfold State.serveRead
      rw [hb]
    obtain ⟨t, ht, h1, -, h2⟩ := runs_answered (q := .read) h hex hd rfl rfl
    exact ⟨t, ht, h1, h2⟩
  · have hd : (s.received m k).doRequest ⟨.read, m⟩ k (x.passed s.tick m.seq) =
        (s.received m k).readAll (x.passed s.tick m.seq) (bodyMax m.transport) [(idx, sub)] := by
      show State.serveRead (s.received m k) m k _ = _
      unfold State.serveRead
      rw [hb]
    refine ⟨fun hlen => ?_, fun hlen => ?_⟩
    · obtain ⟨h1, h2, h3⟩ := readAll_fits hu hlen
      obtain ⟨t, ht, hs, hi, -, -, hk⟩ := runs_served (q := .read) h hex hd
      rw [h1] at hk
      exact ⟨t, ht, hs.trans h3, hi.trans h2, hk⟩
    · obtain ⟨h1, h2, h3⟩ := readAll_full hu hlen
      obtain ⟨t, ht, hs, hi, hk⟩ := runs_answered (q := .read) h hex hd (congrArg State.regs h1) (congrArg State.mem h1)
      exact ⟨t, ht, hs.trans h3, hi.trans h2, hk⟩

/-! Reads before login. -/

theorem readIdentity_serves (hb : readItems m.body = some [(0x1000, sub)]) (h1 : 1 ≤ sub) (h8 : sub ≤ 8) :
    u.readIdentity m = (u, some (0, (u.readAll {} (bodyMax m.transport) [(0x1000, sub)]).2)) := by
  unfold State.readIdentity
  rw [hb]
  refine (if_pos ?_).trans (Prod.ext (readAll_identity _ _) rfl)
  simp [h1, h8]
theorem readIdentity_refuses (hb : readItems m.body = none ∨ readItems m.body = some [(idx, sub)] ∧ idx ≠ 0x1000) :
    u.readIdentity m = (u, none) := by
  unfold State.readIdentity
  rcases hb with hb | ⟨hb, hi⟩
  · rw [hb]
  · rw [hb]
    refine if_neg ?_
    simp [hi]
theorem runs_identity (ha : Arrives s m) (h0 : m.session = 0) :
    (readItems m.body = some [(0x1000, sub)] → 1 ≤ sub → sub ≤ 8 → Runs (.read m) s fun t => t.answer.status = 0 ∧
      t.answer.items = ((s.ompArrive m).readAll {} (bodyMax m.transport) [(0x1000, sub)]).2.items ∧
      t.sessions = s.sessions ∧ SameMem s t) ∧
    (readItems m.body = none ∨ readItems m.body = some [(idx, sub)] ∧ idx ≠ 0x1000 → Runs (.read m) s fun t =>
      t.answer.sent = false ∧ t.sessions = s.sessions ∧ SameRegs s t [Reg.ompRx] ∧ SameMem s t) := by
  have hu := ompArrive_atDesk (s := s) m
  have hex : exec (.read m) s = .next (s.serveOpen m 3 fun s => s.readIdentity m) := congrArg Host.Outcome.next (if_pos h0)
  refine ⟨fun hb h1 h8 => ?_, fun hb => ?_⟩
  · refine ⟨_, hex.trans (congrArg Host.Outcome.next (serveOpen_answers ha (readIdentity_serves hb h1 h8))), ?_⟩
    obtain ⟨hs, hse, hr, hm⟩ := respond_refuses (l := []) (op := 3) (n := 0) (m := m)
      (r := ((s.ompArrive m).readAll {} (bodyMax m.transport) [(0x1000, sub)]).2) (ompArrive_sessions (s := s) _)
    refine ⟨hs.trans ?_, rfl, hse, hm⟩
    rcases Nat.lt_or_ge (bodyMax m.transport) (8 + (padItem ((s.ompArrive m).readItem {} 0x1000 sub).2.2).length) with h | h
    · exact (readAll_full rfl h).2.2
    · exact (readAll_fits rfl h).2.2
  · exact ⟨_, hex.trans (congrArg Host.Outcome.next (serveOpen_drops ha (readIdentity_refuses hb))),
      congrArg Answer.sent (ompArrive_answer m), AtDesk.sessions hu, hu.sameRegs, fun a => AtDesk.sameMem hu a⟩

/-! Writes. -/

theorem runs_write {at_ : Option (Nat × Bool)} {i : Instr} (hy : (s.received m k).session k = y)
    (hi : (Fresh s m 4 k x ∧ i = .write m ∧ at_ = none) ∨ (Fresh s m 5 k x ∧ i = .writeAt m ∧ at_ = some (m.tick, bit (m.flags.val : Int) 3))) :
    (writeItems 64 m.body = none ∨ m.body = [] → Runs i s fun t => t.answer.status = 0x1A ∧
      SameRegs s t [Reg.ompRx, Reg.ompTx] ∧ SameMem s t) ∧
    (∀ (l : List (Nat × Nat × List Byte)) (u : State × Reply), writeItems 64 m.body = some l → l ≠ [] →
      (s.received m k).writeAll k at_ l = u → Runs i s fun t => t.answer.items = u.2.items ∧ t.answer.applied = u.2.applied ∧
        t.answer.status = u.2.status ∧ SameRegs u.1 t [Reg.ompTx] ∧ SameMem u.1 t) ∧
    (∀ (b : List Byte) (u : State × Nat × Nat), writeItems 64 m.body = some [(idx, sub, b)] →
      (s.received m k).writeItem k y idx sub b at_ = u → Runs i s fun t => t.answer.items = [(u.2.1, [])] ∧
        t.answer.applied = [u.2.2] ∧ t.answer.status = (if u.2.1 = 0x18 then 0x18 else 0) ∧
        SameRegs u.1 t [Reg.ompTx] ∧ SameMem u.1 t) := by
  obtain ⟨q, h, hex, hd⟩ : ∃ q : ReqKind, Fresh s m q.op k x ∧ exec i s = .next (s.request ⟨q, m⟩) ∧
      (s.received m k).doRequest ⟨q, m⟩ k (x.passed s.tick m.seq) = State.serveWrite at_ (s.received m k) m k (x.passed s.tick m.seq) := by
    rcases hi with ⟨h, rfl, rfl⟩ | ⟨h, rfl, rfl⟩
    · exact ⟨.write, h, rfl, rfl⟩
    · exact ⟨.writeAt, h, rfl, rfl⟩
  have hall : ∀ (l : List (Nat × Nat × List Byte)) (u : State × Reply), writeItems 64 m.body = some l → l ≠ [] →
      (s.received m k).writeAll k at_ l = u → Runs i s fun t => t.answer.items = u.2.items ∧ t.answer.applied = u.2.applied ∧
        t.answer.status = u.2.status ∧ SameRegs u.1 t [Reg.ompTx] ∧ SameMem u.1 t := by
    intro l u hl hne hu
    have hw : State.serveWrite at_ (s.received m k) m k (x.passed s.tick m.seq) = u := by
      unfold State.serveWrite
      rw [hl]
      cases l with
      | nil => exact absurd rfl hne
      | cons e l => exact hu
    obtain ⟨t, ht, hs, hit, hap, -, hk⟩ := runs_served h hex (hd.trans hw)
    exact ⟨t, ht, hit, hap, hs, hk⟩
  refine ⟨fun hb => ?_, hall, fun b u hb hu => ?_⟩
  · have hw : State.serveWrite at_ (s.received m k) m k (x.passed s.tick m.seq) = (s.received m k, { status := 0x1A }) := by
      unfold State.serveWrite
      rcases hb with hb | hb
      · rw [hb]
      · rw [hb]
        rfl
    obtain ⟨t, ht, h1, -, h2⟩ := runs_answered h hex (hd.trans hw) rfl rfl
    exact ⟨t, ht, h1, h2⟩
  · have hone : ((s.received m k).writeAll k at_ [(idx, sub, b)]).1 = u.1 ∧ ((s.received m k).writeAll k at_ [(idx, sub, b)]).2.items = [(u.2.1, [])] ∧
        ((s.received m k).writeAll k at_ [(idx, sub, b)]).2.applied = [u.2.2] ∧
        ((s.received m k).writeAll k at_ [(idx, sub, b)]).2.status = if u.2.1 = 0x18 then 0x18 else 0 := by
      unfold State.writeAll
      simp only [List.foldl_cons, List.foldl_nil, hy, hu, List.nil_append]
      split
      · exact ⟨rfl, rfl, rfl, rfl⟩
      · exact ⟨rfl, rfl, rfl, rfl⟩
    obtain ⟨h1, h2, h3, h4⟩ := hone
    obtain ⟨t, ht, hit, hap, hs, hk⟩ := hall _ _ hb (by simp) rfl
    rw [h1] at hk
    exact ⟨t, ht, hit.trans h2, hap.trans h3, hs.trans h4, hk⟩

/-! Block transfers. -/

theorem runs_blockWrite (hy : (s.received m k).session k = y) (h : Fresh s m 7 k x) :
    (m.body.length < 16 ∨ leAt m.body 3 1 ≠ 0 → Runs (.blockWrite m) s fun t => t.answer.status = 0x1A ∧
      SameRegs s t [Reg.ompRx, Reg.ompTx] ∧ SameMem s t) ∧
    (16 ≤ m.body.length → leAt m.body 3 1 = 0 → leAt m.body 0 2 = idx → leAt m.body 2 1 = sub →
      (∀ (o : ObjInfo), (s.received m k).mayWrite k y idx sub (bit (m.flags.val : Int) 4) = .ok o →
        (∀ u : State × Reply, o.ty = 15 → (s.received m k).blockSegment m k y idx sub = u → Runs (.blockWrite m) s fun t =>
          t.answer.status = u.2.status ∧ t.answer.applied = u.2.applied ∧ t.gard = u.1.gard ∧ SameRegs u.1 t [Reg.ompTx] ∧ SameMem u.1 t) ∧
        (o.ty ≠ 15 → Runs (.blockWrite m) s fun t => t.answer.status = 0x12 ∧ SameRegs s t [Reg.ompRx, Reg.ompTx] ∧ SameMem s t)) ∧
      (∀ code, (s.received m k).mayWrite k y idx sub (bit (m.flags.val : Int) 4) = .error code →
        Runs (.blockWrite m) s fun t => t.answer.status = code ∧ SameRegs s t [Reg.ompRx, Reg.ompTx] ∧ SameMem s t)) := by
  have hy' : y = x.passed s.tick m.seq := hy.symm.trans (received_session h.session)
  subst hy'
  have hd : (s.received m k).doRequest ⟨.blockWrite, m⟩ k (x.passed s.tick m.seq) = (s.received m k).serveBlockWrite m k (x.passed s.tick m.seq) := rfl
  have hex : exec (.blockWrite m) s = .next (s.request ⟨.blockWrite, m⟩) := rfl
  have hkeeps : ∀ {r : Reply}, (s.received m k).serveBlockWrite m k (x.passed s.tick m.seq) = (s.received m k, r) →
      Runs (.blockWrite m) s fun t => t.answer.status = r.status ∧ SameRegs s t [Reg.ompRx, Reg.ompTx] ∧ SameMem s t := by
    intro r hw
    obtain ⟨t, ht, h1, -, h2⟩ := runs_answered (q := .blockWrite) h hex (hd.trans hw) rfl rfl
    exact ⟨t, ht, h1, h2⟩
  refine ⟨fun hb => hkeeps (if_pos hb), fun hlen h3 hi hsub => ?_⟩
  have hn : ¬(m.body.length < 16 ∨ leAt m.body 3 1 ≠ 0) := by omega
  have heq : (s.received m k).serveBlockWrite m k (x.passed s.tick m.seq) =
      match (s.received m k).mayWrite k (x.passed s.tick m.seq) idx sub (bit (m.flags.val : Int) 4) with
      | .error c => (s.received m k, { status := c, body := if c = 0x18 then (s.received m k).whoIsA else [] })
      | .ok o => if o.ty ≠ 15 then (s.received m k, { status := 0x12 })
          else (s.received m k).blockSegment m k (x.passed s.tick m.seq) idx sub := by
    subst hi hsub
    exact if_neg hn
  refine ⟨fun o ho => ⟨fun u hty hu => ?_, fun hty => ?_⟩, fun code hc => ?_⟩
  · rw [ho] at heq
    have hw := (heq.trans (if_neg (not_not_intro hty))).trans hu
    obtain ⟨t, ht, hs, -, hap, hg, hk⟩ := runs_served (q := .blockWrite) h hex (hd.trans hw)
    exact ⟨t, ht, hs, hap, hg, hk⟩
  · rw [ho] at heq
    exact hkeeps (heq.trans (if_pos hty))
  · rw [hc] at heq
    exact hkeeps heq

section
variable {bad : Option (Fin 2 × Nat)} (hlen : m.body.length = 12) (h3 : leAt m.body 3 1 = 0) (hi : leAt m.body 0 2 = idx) (hsub : leAt m.body 2 1 = sub)
include hlen h3 hi hsub

theorem serveBlockRead_eq {got : State × Nat × List Byte} (hbad : bad = none ∨ ¬(idx = 0x2500 ∧ sub = 6))
    (hgot : (if leAt m.body 4 4 = 0 then
        (match objAt idx sub with
         | some o => if o.ty = 15 then u.readItem y idx sub else if u.mayTouch y o idx sub false then (u, 0x12, []) else (u, 0x11, [])
         | none => (u, u.unknownCode y idx, []))
      else match y.snapshot with
        | some (r', v, _) => if r' = y.regOf idx sub then (u, 0, v) else (u, 0x1C, [])
        | none => (u, 0x1C, [])) = got) : ∃ f : Session → Session, ∃ b : List Byte, u.serveBlockRead bad m k y =
      if got.2.1 ≠ 0 then (got.1, { status := got.2.1 })
      else if leAt m.body 4 4 > got.2.2.length then (got.1, { status := 0x13 })
      else (got.1.modSession k f,
        { body := b, items := [(0, slice got.2.2 (leAt m.body 4 4) (min (leAt m.body 8 4) (bodyMax m.transport - 8)))] }) := by
  subst hgot hi hsub
  have hn : ¬(m.body.length ≠ 12 ∨ leAt m.body 3 1 ≠ 0) := by omega
  unfold State.serveBlockRead
  rcases bad with _ | ⟨half, slot⟩
  · exact ⟨_, _, if_neg hn⟩
  · have hw : (leAt m.body 0 2 == 0x2500 && leAt m.body 2 1 == 6) = false := by
      have := hbad.resolve_left (by simp)
      simpa using this
    simp only [hw, State.when, Bool.false_eq_true, if_false]
    exact ⟨_, _, if_neg hn⟩

end

theorem runs_blockRead {bad : Option (Fin 2 × Nat)} (hy : (s.received m k).session k = y) (h : Fresh s m 6 k x) :
    (m.body.length ≠ 12 ∨ leAt m.body 3 1 ≠ 0 → Runs (.blockRead m bad) s fun t => t.answer.status = 0x1A ∧
      SameRegs s t [Reg.ompRx, Reg.ompTx] ∧ SameMem s t) ∧
    (m.body.length = 12 → leAt m.body 3 1 = 0 → leAt m.body 0 2 = idx → leAt m.body 2 1 = sub →
      (∀ (o : ObjInfo) (u : State × Nat × List Byte), leAt m.body 4 4 = 0 → bad = none ∨ ¬(idx = 0x2500 ∧ sub = 6) →
        objAt idx sub = some o → o.ty = 15 → (s.received m k).readItem y idx sub = u → Runs (.blockRead m bad) s fun t =>
          t.answer.status = u.2.1 ∧ SameRegs u.1 t [Reg.ompTx] ∧ SameMem u.1 t ∧
          (u.2.1 = 0 → t.answer.items = [(0, slice u.2.2 0 (min (leAt m.body 8 4) (bodyMax m.transport - 8)))])) ∧
      (leAt m.body 4 4 = 0 → bad = none → objAt idx sub = none → Runs (.blockRead m bad) s fun t =>
        t.answer.status = (s.received m k).unknownCode y idx ∧ SameRegs s t [Reg.ompRx, Reg.ompTx] ∧ SameMem s t) ∧
      (∀ (v : List Byte) (w : Nat), leAt m.body 4 4 ≠ 0 → bad = none → x.snapshot = some (x.regOf idx sub, v, w) →
        (leAt m.body 4 4 ≤ v.length → Runs (.blockRead m bad) s fun t => t.answer.status = 0 ∧
          t.answer.items = [(0, slice v (leAt m.body 4 4) (min (leAt m.body 8 4) (bodyMax m.transport - 8)))] ∧
          SameRegs s t [Reg.ompRx, Reg.ompTx] ∧ SameMem s t) ∧
        (v.length < leAt m.body 4 4 → Runs (.blockRead m bad) s fun t => t.answer.status = 0x13 ∧
          SameRegs s t [Reg.ompRx, Reg.ompTx] ∧ SameMem s t)) ∧
      (leAt m.body 4 4 ≠ 0 → bad = none → x.snapshot = none → Runs (.blockRead m bad) s fun t => t.answer.status = 0x1C ∧
        SameRegs s t [Reg.ompRx, Reg.ompTx] ∧ SameMem s t)) := by
  have hy' : y = x.passed s.tick m.seq := hy.symm.trans (received_session h.session)
  subst hy'
  have hex : exec (.blockRead m bad) s = .next (s.request ⟨.blockRead bad, m⟩) := rfl
  have hd : (s.received m k).doRequest ⟨.blockRead bad, m⟩ k (x.passed s.tick m.seq) =
      State.serveBlockRead bad (s.received m k) m k (x.passed s.tick m.seq) := rfl
  have hkeeps : ∀ {w : State} {r : Reply}, w.regs = (s.received m k).regs → w.mem = (s.received m k).mem →
      State.serveBlockRead bad (s.received m k) m k (x.passed s.tick m.seq) = (w, r) →
      Runs (.blockRead m bad) s fun t => t.answer.status = r.status ∧ t.answer.items = r.items ∧ SameRegs s t [Reg.ompRx, Reg.ompTx] ∧ SameMem s t :=
    fun hr hm hw => runs_answered (q := .blockRead bad) h hex (hd.trans hw) hr hm
  have hcode : ∀ {c : Nat}, State.serveBlockRead bad (s.received m k) m k (x.passed s.tick m.seq) = (s.received m k, { status := c }) →
      Runs (.blockRead m bad) s fun t => t.answer.status = c ∧ SameRegs s t [Reg.ompRx, Reg.ompTx] ∧ SameMem s t := by
    intro c hw
    obtain ⟨t, ht, h1, -, h2⟩ := hkeeps rfl rfl hw
    exact ⟨t, ht, h1, h2⟩
  refine ⟨fun hb => hcode (if_pos hb), fun hlen h3 hi hsub => ⟨fun o u h0 hbad ho hty hu => ?first, fun h0 hbad ho => ?unknown,
    fun v w h0 hbad hx => ⟨fun hv => ?later, fun hv => ?past⟩, fun h0 hbad hx => ?lost⟩⟩
  case first =>
    obtain ⟨f, b, heq⟩ := serveBlockRead_eq (u := s.received m k) (y := x.passed s.tick m.seq) (k := k) (bad := bad) (got := u) hlen h3 hi hsub hbad
      (by rw [if_pos h0, ho]; exact (if_pos hty).trans hu)
    by_cases hc : u.2.1 = 0
    · rw [if_neg (not_not_intro hc), if_neg (by omega), h0] at heq
      obtain ⟨t, ht, hs, hit, -, -, hr, hm⟩ := runs_served (q := .blockRead bad) h hex (hd.trans heq)
      exact ⟨t, ht, hs.trans hc.symm, hr, hm, fun _ => hit⟩
    · rw [if_pos hc] at heq
      obtain ⟨t, ht, hs, hit, -, -, hr, hm⟩ := runs_served (q := .blockRead bad) h hex (hd.trans heq)
      exact ⟨t, ht, hs, hr, hm, fun h => absurd h hc⟩
  case unknown =>
    obtain ⟨f, b, heq⟩ := serveBlockRead_eq (u := s.received m k) (y := x.passed s.tick m.seq) (k := k) (bad := bad)
      (got := (s.received m k, (s.received m k).unknownCode (x.passed s.tick m.seq) idx, [])) hlen h3 hi hsub (.inl hbad)
      (by rw [if_pos h0, ho])
    have hc : (s.received m k).unknownCode (x.passed s.tick m.seq) idx ≠ 0 := by
      unfold State.unknownCode
      split
      · decide
      · decide
    exact hcode (heq.trans (if_pos hc))
  case later =>
    obtain ⟨f, b, heq⟩ := serveBlockRead_eq (u := s.received m k) (y := x.passed s.tick m.seq) (k := k) (bad := bad)
      (got := (s.received m k, 0, v)) hlen h3 hi hsub (.inl hbad)
      (by rw [if_neg h0, show (x.passed s.tick m.seq).snapshot = _ from hx]; exact if_pos rfl)
    rw [if_neg (not_not_intro rfl), if_neg (Nat.not_lt.mpr hv)] at heq
    exact hkeeps (w := (s.received m k).modSession k f) rfl rfl heq
  case past =>
    obtain ⟨f, b, heq⟩ := serveBlockRead_eq (u := s.received m k) (y := x.passed s.tick m.seq) (k := k) (bad := bad)
      (got := (s.received m k, 0, v)) hlen h3 hi hsub (.inl hbad)
      (by rw [if_neg h0, show (x.passed s.tick m.seq).snapshot = _ from hx]; exact if_pos rfl)
    rw [if_neg (not_not_intro rfl), if_pos hv] at heq
    exact hcode heq
  case lost =>
    obtain ⟨f, b, heq⟩ := serveBlockRead_eq (u := s.received m k) (y := x.passed s.tick m.seq) (k := k) (bad := bad)
      (got := (s.received m k, 0x1C, [])) hlen h3 hi hsub (.inl hbad)
      (by rw [if_neg h0, show (x.passed s.tick m.seq).snapshot = _ from hx])
    exact hcode (heq.trans (if_pos (show (0x1C : Nat) ≠ 0 by decide)))

end

/-! Transfers and snapshots that end. -/

section
variable {s : State}

theorem runs_transferAbort (n : Fin 64) (j : Fin 4) :
    (∀ f : Transfer, (s.session n).transfers[j.val]? = some f →
      (f.lastTick + 2 * s.tps ≤ s.tick → Runs (.blockTransferAbort n j) s fun t => t.answer.status = 0x1C ∧
        (t.session n).transfers = (s.session n).transfers.eraseIdx j ∧ SameRegs s t [] ∧ SameMem s t) ∧
      (s.tick < f.lastTick + 2 * s.tps → exec (.blockTransferAbort n j) s = .next s)) ∧
    ((s.session n).transfers.length ≤ j.val → exec (.blockTransferAbort n j) s = .next s) := by
  have hex : exec (.blockTransferAbort n j) s = execBlockTransferAbort n j s := rfl
  unfold Runs
  rw [hex]
  unfold execBlockTransferAbort
  dsimp only
  refine ⟨fun f hf => ?_, fun hlen => ?_⟩
  · rw [hf]
    refine ⟨fun ht => ⟨_, if_pos ht, rfl, ?_, sameRegs_of_regs rfl _, fun _ => rfl⟩, fun ht => if_neg (Nat.not_le.mpr ht)⟩
    exact congrArg Session.transfers (session_modSession_same s n fun x => { x with transfers := x.transfers.eraseIdx j.val })
  · rw [List.getElem?_eq_none hlen]
theorem runs_snapshotExpire (n : Fin 64) :
    (∀ (r : Reg) (v : List Byte) (w : Nat), (s.session n).snapshot = some (r, v, w) →
      (w + 2 * s.tps ≤ s.tick → Runs (.blockSnapshotExpire n) s fun t => (t.session n).snapshot = none ∧
        SameRegs s t [] ∧ SameMem s t) ∧
      (s.tick < w + 2 * s.tps → exec (.blockSnapshotExpire n) s = .next s)) ∧
    ((s.session n).snapshot = none → exec (.blockSnapshotExpire n) s = .next s) := by
  have hex : exec (.blockSnapshotExpire n) s = execBlockSnapshotExpire n s := rfl
  unfold Runs
  rw [hex]
  unfold execBlockSnapshotExpire
  refine ⟨fun r v w hf => ?_, fun hf => ?_⟩
  · rw [hf]
    refine ⟨fun ht => ⟨_, if_pos ht, ?_, sameRegs_of_regs rfl _, fun _ => rfl⟩, fun ht => if_neg (Nat.not_le.mpr ht)⟩
    exact congrArg Session.snapshot (session_modSession_same s n fun x => { x with snapshot := none })
  · rw [hf]

/-! The BAR0 window. -/

/-- An access that is refused with a code. -/
def barRefused (s : State) (off code : Nat) : State :=
  if code = 0x11 then { s.barError.barAnswer code (List.replicate 8 0) with host := { (s.barError.barAnswer code (List.replicate 8 0)).host with barAddr := off } }
  else s.barError.barAnswer code (List.replicate 8 0)

theorem barRefused_shows (s : State) (off code : Nat) : (barRefused s off code).answer.status = code ∧
    (barRefused s off code).answer.bytes = List.replicate 8 0 ∧ (barRefused s off code).host.barErr = (s.host.barErr + 1) % 4294967296 ∧
    SameRegs s (barRefused s off code) [] ∧ SameMem s (barRefused s off code) := by
  unfold barRefused
  split
  · exact ⟨rfl, rfl, rfl, sameRegs_of_regs rfl _, fun _ => rfl⟩
  · exact ⟨rfl, rfl, rfl, sameRegs_of_regs rfl _, fun _ => rfl⟩

variable {off : Fin 4194304} {w : Option (List Byte)} {k idx sub : Nat}

theorem bar0Access_form (h : off.val % 8 ≠ 0 ∨ ∃ b, w = some b ∧ b.length ≠ 8) : exec (.bar0Access off w) s = .next (barRefused s off 0x12) := by
  refine if_pos ?_
  rcases h with h | ⟨b, rfl, hb⟩
  · exact .inl h
  · exact .inr (by simpa using hb)
section
variable (ho : off.val % 8 = 0) (hw : ∀ b, w = some b → b.length = 8)
include ho hw

theorem bar0Access_eq : exec (.bar0Access off w) s =
    match bar0Slot off with
    | none => .next (s.barAnswer 0 (List.replicate 8 0))
    | some (idx, sub) => match s.host.bound with
      | none => .next (barRefused s off 0)
      | some k => match objAt idx sub with
        | none => .next (barRefused s off 0x10)
        | some o => if !hasSlot o sub then .next (barRefused s off 0x10)
          else match (generalizing := false) w with
            | none => if (s.readItem (s.session k) idx sub).2.1 ≠ 0 then .next (barRefused s off (s.readItem (s.session k) idx sub).2.1)
                else .next ((s.readItem (s.session k) idx sub).1.barAnswer 0 (slotBytes o.ty (s.readItem (s.session k) idx sub).2.2))
            | some b => if (s.writeItem k (s.session k) idx sub (b.take (tyLen o.ty)) none).2.1 = 0x11 then
                  .next (barRefused s off (s.writeItem k (s.session k) idx sub (b.take (tyLen o.ty)) none).2.1)
                else .next ((s.writeItem k (s.session k) idx sub (b.take (tyLen o.ty)) none).1.barAnswer
                  (s.writeItem k (s.session k) idx sub (b.take (tyLen o.ty)) none).2.1 (List.replicate 8 0)) := by
  refine if_neg ?_
  rintro (h | h)
  · exact h ho
  · cases w with
    | none => exact absurd h (by decide)
    | some b => exact absurd (hw b rfl) (by simpa using h)

/-- An access to an object that is there. -/
theorem bar0Access_reaches {o : ObjInfo} (hs : bar0Slot off = some (idx, sub)) (hb : s.host.bound = some k) (hobj : objAt idx sub = some o)
    (hslot : hasSlot o sub = true) : exec (.bar0Access off w) s =
    match (generalizing := false) w with
    | none => if (s.readItem (s.session k) idx sub).2.1 ≠ 0 then .next (barRefused s off (s.readItem (s.session k) idx sub).2.1)
        else .next ((s.readItem (s.session k) idx sub).1.barAnswer 0 (slotBytes o.ty (s.readItem (s.session k) idx sub).2.2))
    | some b => if (s.writeItem k (s.session k) idx sub (b.take (tyLen o.ty)) none).2.1 = 0x11 then
          .next (barRefused s off (s.writeItem k (s.session k) idx sub (b.take (tyLen o.ty)) none).2.1)
        else .next ((s.writeItem k (s.session k) idx sub (b.take (tyLen o.ty)) none).1.barAnswer
          (s.writeItem k (s.session k) idx sub (b.take (tyLen o.ty)) none).2.1 (List.replicate 8 0)) := by
  have heq := bar0Access_eq (s := s) ho hw
  rw [hs, hb] at heq
  dsimp only at heq
  rw [hobj] at heq
  dsimp only at heq
  rw [hslot] at heq
  exact heq
theorem runs_bar0Access {x : Session} :
    (bar0Slot off = none → Runs (.bar0Access off w) s fun t => t.answer.status = 0 ∧ t.answer.bytes = List.replicate 8 0 ∧
      t.host = s.host ∧ SameRegs s t [] ∧ SameMem s t) ∧
    (bar0Slot off = some (idx, sub) → s.host.bound = none → Runs (.bar0Access off w) s fun t =>
      t.answer.bytes = List.replicate 8 0 ∧ t.host.barErr = (s.host.barErr + 1) % 4294967296 ∧ SameRegs s t [] ∧ SameMem s t) ∧
    (bar0Slot off = some (idx, sub) → s.host.bound = some k → s.session k = x →
      (objAt idx sub = none ∨ (∃ o, objAt idx sub = some o ∧ hasSlot o sub = false) → Runs (.bar0Access off w) s fun t =>
        t.answer.status = 0x10 ∧ t.answer.bytes = List.replicate 8 0 ∧ t.host.barErr = (s.host.barErr + 1) % 4294967296 ∧
        SameRegs s t [] ∧ SameMem s t) ∧
      (∀ o, objAt idx sub = some o → hasSlot o sub = true →
        (∀ u : State × Nat × List Byte, w = none → s.readItem x idx sub = u →
          (u.2.1 = 0 → Runs (.bar0Access off w) s fun t => t.answer.status = 0 ∧ t.answer.bytes = slotBytes o.ty u.2.2 ∧
            SameRegs u.1 t [] ∧ SameMem u.1 t) ∧
          (u.2.1 ≠ 0 → Runs (.bar0Access off w) s fun t => t.answer.status = u.2.1 ∧ t.answer.bytes = List.replicate 8 0 ∧
            t.host.barErr = (s.host.barErr + 1) % 4294967296 ∧ SameRegs s t [] ∧ SameMem s t)) ∧
        (∀ (b : List Byte) (u : State × Nat × Nat), w = some b → s.writeItem k x idx sub (b.take (tyLen o.ty)) none = u →
          (u.2.1 ≠ 0x11 → Runs (.bar0Access off w) s fun t => t.answer.status = u.2.1 ∧ SameRegs u.1 t [] ∧ SameMem u.1 t) ∧
          (u.2.1 = 0x11 → Runs (.bar0Access off w) s fun t => t.answer.status = 0x11 ∧ t.host.barAddr = off.val ∧
            t.host.barErr = (s.host.barErr + 1) % 4294967296 ∧ SameRegs s t [] ∧ SameMem s t)))) := by
  have heq := bar0Access_eq (s := s) ho hw
  have hreach := fun {o : ObjInfo} h1 h2 h3 h4 => bar0Access_reaches (s := s) (k := k) (idx := idx) (sub := sub) (o := o) ho hw h1 h2 h3 h4
  clear ho hw
  refine ⟨fun hs => ?row, fun hs hb => ?unbound, fun hs hb hx => ⟨fun hn => ?absent, fun o ho hslot =>
    ⟨fun u hw hu => ⟨fun hc => ?reads, fun hc => ?unread⟩, fun b u hw hu => ⟨fun hc => ?writes, fun hc => ?denied⟩⟩⟩⟩
  case row =>
    rw [hs] at heq
    exact ⟨_, heq, rfl, rfl, rfl, sameRegs_of_regs rfl _, fun _ => rfl⟩
  case unbound =>
    rw [hs, hb] at heq
    obtain ⟨-, h⟩ := barRefused_shows s off 0
    exact ⟨_, heq, h⟩
  case absent =>
    rw [hs, hb] at heq
    dsimp only at heq
    rcases hn with hn | ⟨o, hn, hslot⟩
    · rw [hn] at heq
      exact ⟨_, heq, barRefused_shows s off 0x10⟩
    · rw [hn] at heq
      dsimp only at heq
      rw [hslot] at heq
      exact ⟨_, heq, barRefused_shows s off 0x10⟩
  case reads =>
    subst hw
    have heq := hreach hs hb ho hslot
    dsimp only at heq
    rw [hx, hu] at heq
    exact ⟨_, heq.trans (if_neg (not_not_intro hc)), rfl, rfl, sameRegs_of_regs rfl _, fun _ => rfl⟩
  case unread =>
    subst hw
    have heq := hreach hs hb ho hslot
    dsimp only at heq
    rw [hx, hu] at heq
    exact ⟨_, heq.trans (if_pos hc), barRefused_shows s off u.2.1⟩
  case writes =>
    subst hw
    have heq := hreach hs hb ho hslot
    dsimp only at heq
    rw [hx, hu] at heq
    exact ⟨_, heq.trans (if_neg hc), rfl, sameRegs_of_regs rfl _, fun _ => rfl⟩
  case denied =>
    subst hw
    have heq := hreach hs hb ho hslot
    dsimp only at heq
    rw [hx, hu] at heq
    obtain ⟨h1, h2, h3, h4, h5⟩ := barRefused_shows s off u.2.1
    refine ⟨_, heq.trans (if_pos hc), h1.trans hc, ?_, h3, h4, h5⟩
    unfold barRefused
    rw [if_pos hc]

end

end

/-- Settles O54: each request by what its service gives, and the BAR0 window by what its access finds. -/
theorem readsWritesAndTransfers : Obligations.ReadsWritesAndTransfers := by
  intro m k idx sub x y s hy
  refine ⟨fun h => ?reads, runs_identity, fun at_ i => runs_write hy, runs_blockWrite hy, fun bad => runs_blockRead hy, runs_transferAbort,
    runs_snapshotExpire, fun off w => ⟨fun h => ⟨_, bar0Access_form h, barRefused_shows s off 0x12⟩, fun ho hw => runs_bar0Access ho hw⟩, fun session tag => ?bind⟩
  case reads =>
    obtain ⟨h1, h2⟩ := runs_read (idx := idx) (sub := sub) hy h
    refine ⟨h1, h2, fun o hb ho hts htev ht hlen => ?_⟩
    have hu := readItem_view ho hts htev ht
    obtain ⟨t, hex, hs, hit, hr, hm⟩ := (h2 _ hb hu).1 hlen
    have hrec : SameRegs s (s.received m k) [Reg.ompRx, Reg.ompTx] :=
      (ompArrive_atDesk (s := s) m).sameRegs.mono (by simp)
    exact ⟨t, hex, hs, hit, hrec.trans (hr.mono (by simp)), fun a => (hm a).trans (received_mem k a)⟩
  case bind =>
    have hex : exec (.bar0Bind session tag) s = execBar0Bind session tag s := rfl
    unfold Runs
    rw [hex]
    unfold execBar0Bind
    refine ⟨fun hs hx => ?_, fun hs => by rw [hs]⟩
    rw [hs]
    dsimp only
    rw [hx]
    refine ⟨fun ho ht => ⟨_, if_pos ?_, rfl, rfl, sameRegs_of_regs rfl _, fun _ => rfl⟩, fun h => if_neg ?_⟩
    · rw [ho, ht]
      simp
    · rw [Bool.and_eq_true, beq_iff_eq]
      rintro ⟨h1, h2⟩
      rcases h with h | h
      · exact Bool.false_ne_true (h.symm.trans h1)
      · exact h h2

end Sys2Proof.Machine
end
section
/-!
PROOFS. Rings and the mailbox (16, R462, R465, R471).
-/
namespace Sys2Proof.Machine

/-! Rings in their table. -/

section
variable {s : State}

theorem ring_modRing_other (s : State) {r q : Nat} (f : Ring → Ring) (h : q ≠ r) : (s.modRing r f).ring q = s.ring q :=
  NTable.get_mod_other _ _ _ _ _ h
/-- A ring that is closed. -/
def Ring.closed (x : Ring) : Ring :=
  { x with owner := 255, status := x.status / 2 * 2, staged := [], stalled := false, run := 0, gap := false }
@[simp] theorem ring_closeRing_same (s : State) (r : Nat) : (s.closeRing r).ring r = (s.ring r).closed := ring_modRing_same s r Ring.closed
theorem ring_closeRing_other (s : State) {r q : Nat} (h : q ≠ r) : (s.closeRing r).ring q = s.ring q :=
  ring_modRing_other s Ring.closed h
theorem isOpen_closeRing (s : State) (r q : Nat) (h : q = r ∨ (s.ring q).isOpen = false) : ((s.closeRing r).ring q).isOpen = false := by
  by_cases hq : q = r
  · rw [hq, ring_closeRing_same]
    rfl
  · rw [ring_closeRing_other s hq]
    exact h.resolve_left hq
theorem isOpen_closeAll (l : List Nat) (q : Nat) (s : State) (h : q ∈ l ∨ (s.ring q).isOpen = false) :
    ((overL l State.closeRing s).ring q).isOpen = false := by
  induction l generalizing s with
  | nil => exact h.resolve_left List.not_mem_nil
  | cons r l ih =>
    refine ih (s.closeRing r) ?_
    rcases h with h | h
    · rcases List.mem_cons.mp h with h | h
      · exact .inr (isOpen_closeRing s r q (.inl h))
      · exact .inl h
    · exact .inr (isOpen_closeRing s r q (.inr h))
/-- A ring that is open has an entry. -/
theorem ring_listed {q : Nat} (h : (s.ring q).isOpen = true) : (q, s.ring q) ∈ s.rings := by
  unfold State.ring NTable.get Table.get at h ⊢
  cases hf : s.rings.find? fun e => decide (e.1 = q) with
  | none =>
    rw [hf] at h
    exact absurd h Bool.false_ne_true
  | some e =>
    have he : e.1 = q := of_decide_eq_true (List.find?_some (p := fun e : Nat × Ring => decide (e.1 = q)) hf)
    exact he ▸ List.mem_of_find?_eq_some hf
/-- Every ring that is open is closed. -/
theorem isOpen_closeOpen (q : Nat) :
    ((overL ((s.rings.filter fun (e : Nat × Ring) => e.2.owner != 255).map (·.1)) State.closeRing s).ring q).isOpen = false := by
  refine isOpen_closeAll _ q s ?_
  cases h : (s.ring q).isOpen with
  | false => exact .inr rfl
  | true => exact .inl (List.mem_map.mpr ⟨_, List.mem_filter.mpr ⟨ring_listed h, h⟩, rfl⟩)

/-! Sessions of a kind that are closed. -/

theorem session_unlisted {k : Nat} (h : ∀ e ∈ s.sessions, e.1 ≠ k) : s.session k = {} := by
  unfold State.session NTable.get Table.get
  rw [List.find?_eq_none.mpr fun e he => by simpa using h e he]
theorem session_closeSessions {f : Session → Bool} {k : Nat} (h : f (s.session k) = true) : (s.closeSessions f).session k = {} := by
  refine (session_closeAll _ k s).trans ?_
  by_cases hk : ∃ e ∈ s.sessions, e.1 = k
  · have hf : (k, s.session k) ∈ s.sessions := by
      unfold State.session NTable.get Table.get
      obtain ⟨e, he, hek⟩ := hk
      obtain ⟨d, hd⟩ := Option.isSome_iff_exists.mp (List.find?_isSome (p := fun e : Nat × Session => decide (e.1 = k)).mpr ⟨e, he, decide_eq_true hek⟩)
      rw [hd]
      have hdk : d.1 = k := of_decide_eq_true (List.find?_some (p := fun e : Nat × Session => decide (e.1 = k)) hd)
      exact hdk ▸ List.mem_of_find?_eq_some hd
    exact if_pos (List.mem_map.mpr ⟨_, List.mem_filter.mpr ⟨hf, h⟩, rfl⟩)
  · rw [session_unlisted fun e he hek => hk ⟨e, he, hek⟩, ite_self]

end

/-! A ring is opened by a session. -/

section
variable {s : State} {n r : Fin 64} {rec : List Byte}

/-- A record out of range. -/
def badRing (r : Fin 64) (rec : List Byte) : Bool :=
  decide (62 ≤ r.val) || decide (3 < leAt rec 12 1) || leAt rec 0 8 % 4096 != 0 ||
    decide (leAt rec 8 4 < 2) || decide (65536 < leAt rec 8 4) || !isPow2 (leAt rec 8 4) ||
    !(decide (1 ≤ leAt rec 13 1 ∧ leAt rec 13 1 ≤ 4) || leAt rec 13 1 == 255) || decide (leAt rec 14 2 < 1) ||
    decide (256 < leAt rec 14 2) || leAt rec 16 8 != 0
/-- The ring that a record opens. -/
def openedRing (ss : Session) (rec : List Byte) : Ring :=
  { owner := if ss.role = 0 then 16 else ss.plot, base := leAt rec 0 8, pages := leAt rec 8 4, kind := leAt rec 12 1,
    vector := leAt rec 13 1, coalesce := leAt rec 14 2, status := 1 }
theorem badRing_iff (r : Fin 64) (rec : List Byte) : badRing r rec = true ↔
    r.val ≥ 62 ∨ leAt rec 12 1 > 3 ∨ leAt rec 0 8 % 4096 ≠ 0 ∨ leAt rec 8 4 < 2 ∨ leAt rec 8 4 > 65536 ∨ (!isPow2 (leAt rec 8 4)) = true ∨
      (!(decide (1 ≤ leAt rec 13 1) && decide (leAt rec 13 1 ≤ 4) || leAt rec 13 1 == 255)) = true ∨ leAt rec 14 2 < 1 ∨ leAt rec 14 2 > 256 ∨
      leAt rec 16 8 ≠ 0 := by
  unfold badRing
  rw [Bool.decide_and]
  simp only [Bool.or_eq_true, decide_eq_true_eq, bne_iff_ne, or_assoc, ge_iff_le, gt_iff_lt]
theorem exec_ringOpen : exec (.ringOpen n r rec) s =
    if !(s.session n).open_ || (s.session n).role == 2 then .next (s.reply 0x11)
    else if rec.length ≠ 24 then .next (s.reply 0x12)
    else if badRing r rec = true then .next (s.reply 0x13)
    else if leAt rec 12 1 = 3 ∧ (s.session n).role ≠ 0 then .next (s.reply 0x11)
    else if (s.ring r).isOpen then .next (s.reply 0x14)
    else .next (((s.modRing r fun _ => openedRing (s.session n) rec).setReg (Reg.ringPagesSealed r) 0).reply 0) := by
  rw [if_congr (badRing_iff r rec) rfl rfl]
  rfl
theorem ringOpen_denied (h : (s.session n).open_ = false ∨ (s.session n).role = 2) : Answers (.ringOpen n r rec) s 0x11 := by
  refine exec_ringOpen.trans (if_pos ?_)
  rw [Bool.or_eq_true, beq_iff_eq]
  exact h.imp_left fun h => by rw [h]; rfl

section
variable (ho : (s.session n).open_ = true) (hr : (s.session n).role ≠ 2)
include ho hr

theorem mayOpen : ¬(!(s.session n).open_ || (s.session n).role == 2) = true := by
  rw [ho, beq_false_of_ne hr]
  decide
theorem ringOpen_length (h : rec.length ≠ 24) : Answers (.ringOpen n r rec) s 0x12 :=
  exec_ringOpen.trans ((if_neg (mayOpen ho hr)).trans (if_pos h))
theorem ringOpen_range (h : rec.length = 24) (hb : badRing r rec = true) : Answers (.ringOpen n r rec) s 0x13 :=
  exec_ringOpen.trans ((if_neg (mayOpen ho hr)).trans ((if_neg (not_not_intro h)).trans (if_pos hb)))

variable (h : rec.length = 24) (hb : badRing r rec = false)
include h hb

theorem ringOpen_good : exec (.ringOpen n r rec) s =
    if leAt rec 12 1 = 3 ∧ (s.session n).role ≠ 0 then .next (s.reply 0x11)
    else if (s.ring r).isOpen then .next (s.reply 0x14)
    else .next (((s.modRing r fun _ => openedRing (s.session n) rec).setReg (Reg.ringPagesSealed r) 0).reply 0) :=
  exec_ringOpen.trans ((if_neg (mayOpen ho hr)).trans ((if_neg (not_not_intro h)).trans (if_neg (Bool.eq_false_iff.mp hb))))
theorem ringOpen_kind (hk : leAt rec 12 1 = 3) (h0 : (s.session n).role ≠ 0) : Answers (.ringOpen n r rec) s 0x11 :=
  (ringOpen_good ho hr h hb).trans (if_pos ⟨hk, h0⟩)
theorem ringOpen_busy (hk : leAt rec 12 1 ≠ 3 ∨ (s.session n).role = 0) (hopen : (s.ring r).isOpen = true) : Answers (.ringOpen n r rec) s 0x14 :=
  (ringOpen_good ho hr h hb).trans ((if_neg fun h => hk.elim (fun hk => hk h.1) h.2).trans (if_pos hopen))
theorem runs_ringOpen (hk : leAt rec 12 1 ≠ 3 ∨ (s.session n).role = 0) (hopen : (s.ring r).isOpen = false) : Runs (.ringOpen n r rec) s fun t =>
    t.ring r = openedRing (s.session n) rec ∧ (∀ q, q ≠ r.val → t.ring q = s.ring q) ∧ t.reg (Reg.ringPagesSealed r) = 0 ∧
    t.answer.status = 0 ∧ SameRegs s t [Reg.ringPagesSealed r] ∧ SameMem s t := by
  have hq : ∀ q, q ≠ r.val → (s.modRing r fun _ => openedRing (s.session n) rec).ring q = s.ring q := fun q hq => ring_modRing_other s _ hq
  refine ⟨_, (ringOpen_good ho hr h hb).trans ((if_neg fun h => hk.elim (fun hk => hk h.1) h.2).trans (if_neg (Bool.eq_false_iff.mp hopen))),
    ring_modRing_same s r fun _ => openedRing (s.session n) rec, hq, reg_setReg_same _ _ _, rfl,
    sameRegs_setReg (s := s) (t := s.modRing r fun _ => openedRing (s.session n) rec) rfl _ _, fun _ => rfl⟩

end

/-! A ring is closed, and its indices written. -/

theorem exec_ringClose : exec (.ringClose n r) s =
    if !((s.session n).open_ && ((s.session n).role == 0 || ((s.session n).role == 1 && ((s.ring r).owner == (s.session n).plot || !(s.ring r).isOpen))))
      then .next (s.reply 0x11)
    else if r.val ≥ 62 then .next (s.reply 0x13)
    else .next ((s.closeRing r).reply 0) := rfl
theorem ringClose_allowed (ho : (s.session n).open_ = true)
    (hr : (s.session n).role = 0 ∨ (s.session n).role = 1 ∧ (s.ring r).owner = (s.session n).plot) :
    exec (.ringClose n r) s = if r.val ≥ 62 then .next (s.reply 0x13) else .next ((s.closeRing r).reply 0) := by
  refine exec_ringClose.trans (if_neg ?_)
  rcases hr with hr | ⟨hr, hp⟩
  · rw [ho, hr]
    simp
  · rw [ho, hr, hp]
    simp
theorem ringClose_denied (h : (s.session n).open_ = false ∨ (s.session n).role = 2 ∨ ((s.session n).role = 1 ∧ (s.ring r).isOpen = true ∧
    (s.ring r).owner ≠ (s.session n).plot)) : Answers (.ringClose n r) s 0x11 := by
  refine exec_ringClose.trans (if_pos ?_)
  rcases h with h | h | ⟨h1, h2, h3⟩
  · rw [h]
    rfl
  · rw [h]
    simp
  · rw [h1, h2, beq_false_of_ne h3]
    simp

/-- A ring's block is written. -/
theorem exec_indexWrite {off v : Nat} : exec (.ringIndexWrite r off v) s =
    if !(s.ring r).isOpen then .next s
    else if off = 0 ∧ ((s.ring r).kind == 3 || (s.ring r).kind == 4) = true then .next (s.modRing r fun y => { y with prod := v % 4294967296 })
    else if off = 4 ∧ (!((s.ring r).kind == 3 || (s.ring r).kind == 4)) = true then .next (s.modRing r fun y => { y with cons := v % 4294967296 })
    else if off = 0x14 then .next (s.modRing r fun y => { y with status := y.status - (y.status &&& v % 4294967296 &&& 14) })
    else .next s := rfl
theorem hosts_iff {x : Ring} : (x.kind == 3 || x.kind == 4) = true ↔ x.kind = 3 ∨ x.kind = 4 := by simp
theorem not_hosts_iff {x : Ring} : (!(x.kind == 3 || x.kind == 4)) = true ↔ x.kind ≠ 3 ∧ x.kind ≠ 4 := by simp
/-- A field of a ring's block is written. -/
theorem runs_modRing {i : Instr} {f : Ring → Ring} (hex : exec i s = .next (s.modRing r f)) : Runs i s fun t =>
    t.ring r = f (s.ring r) ∧ (∀ q, q ≠ r.val → t.ring q = s.ring q) ∧ SameRegs s t [] ∧ SameMem s t :=
  ⟨_, hex, ring_modRing_same s r f, fun _ hq => ring_modRing_other s f hq, sameRegs_of_regs rfl _, fun _ => rfl⟩

section
variable {v : Nat} (ho : (s.ring r).isOpen = true)
include ho

theorem indexWrite_open {off : Nat} : exec (.ringIndexWrite r off v) s =
    if off = 0 ∧ ((s.ring r).kind == 3 || (s.ring r).kind == 4) = true then .next (s.modRing r fun y => { y with prod := v % 4294967296 })
    else if off = 4 ∧ (!((s.ring r).kind == 3 || (s.ring r).kind == 4)) = true then .next (s.modRing r fun y => { y with cons := v % 4294967296 })
    else if off = 0x14 then .next (s.modRing r fun y => { y with status := y.status - (y.status &&& v % 4294967296 &&& 14) })
    else .next s := exec_indexWrite.trans (if_neg (by rw [ho]; decide))
theorem runs_consWrite (hk : (s.ring r).kind < 3 ∨ (s.ring r).kind = 5) : Runs (.ringIndexWrite r 4 v) s fun t =>
    (t.ring r).cons = v % 4294967296 ∧ (t.ring r).prod = (s.ring r).prod ∧ (∀ q, q ≠ r.val → t.ring q = s.ring q) ∧ SameRegs s t [] ∧ SameMem s t := by
  have hn : (s.ring r).kind ≠ 3 ∧ (s.ring r).kind ≠ 4 := by omega
  obtain ⟨t, hex, hx, h⟩ := runs_modRing ((indexWrite_open (v := v) ho).trans ((if_neg fun h => absurd h.1 (by decide)).trans (if_pos ⟨rfl, not_hosts_iff.mpr hn⟩)))
  exact ⟨t, hex, (congrArg Ring.cons hx :), (congrArg Ring.prod hx :), h⟩
theorem runs_prodWrite (hk : (s.ring r).kind = 3 ∨ (s.ring r).kind = 4) : Runs (.ringIndexWrite r 0 v) s fun t =>
    (t.ring r).prod = v % 4294967296 ∧ (t.ring r).cons = (s.ring r).cons ∧ (∀ q, q ≠ r.val → t.ring q = s.ring q) ∧ SameRegs s t [] ∧ SameMem s t := by
  obtain ⟨t, hex, hx, h⟩ := runs_modRing ((indexWrite_open (v := v) ho).trans (if_pos ⟨rfl, hosts_iff.mpr hk⟩))
  exact ⟨t, hex, (congrArg Ring.prod hx :), (congrArg Ring.cons hx :), h⟩
theorem runs_statusWrite : Runs (.ringIndexWrite r 0x14 v) s fun t =>
    (t.ring r).status = (s.ring r).status - ((s.ring r).status &&& (v % 4294967296) &&& 14) ∧ (t.ring r).prod = (s.ring r).prod ∧
    (t.ring r).cons = (s.ring r).cons ∧ (∀ q, q ≠ r.val → t.ring q = s.ring q) ∧ SameRegs s t [] ∧ SameMem s t := by
  obtain ⟨t, hex, hx, h⟩ := runs_modRing ((indexWrite_open (v := v) ho).trans
    ((if_neg fun h => absurd h.1 (by decide)).trans ((if_neg fun h => absurd h.1 (by decide)).trans (if_pos rfl))))
  exact ⟨t, hex, (congrArg Ring.status hx :), (congrArg Ring.prod hx :), (congrArg Ring.cons hx :), h⟩

end

theorem indexWrite_idle {off v : Nat} (h : (s.ring r).isOpen = false ∨ (off ≠ 0 ∧ off ≠ 4 ∧ off ≠ 0x14) ∨
    (off = 0 ∧ (s.ring r).kind ≠ 3 ∧ (s.ring r).kind ≠ 4) ∨ (off = 4 ∧ ((s.ring r).kind = 3 ∨ (s.ring r).kind = 4))) :
    exec (.ringIndexWrite r off v) s = .next s := by
  cases ho : (s.ring r).isOpen with
  | false => exact exec_indexWrite.trans (if_pos (by rw [ho]; rfl))
  | true =>
    have h := h.resolve_left (by rw [ho]; decide)
    have h1 : ¬(off = 0 ∧ ((s.ring r).kind == 3 || (s.ring r).kind == 4) = true) := by
      rw [hosts_iff]
      omega
    have h2 : ¬(off = 4 ∧ (!((s.ring r).kind == 3 || (s.ring r).kind == 4)) = true) := by
      rw [not_hosts_iff]
      omega
    have h3 : off ≠ 0x14 := by omega
    exact (indexWrite_open ho).trans ((if_neg h1).trans ((if_neg h2).trans (if_neg h3)))

end

/-! The mailbox, and the loss of the link. -/

section
variable {s : State} {inBase outBase pages : Nat}

/-- The host's side of the mailbox as it is written. -/
def mboxWritten (s : State) (inBase outBase pages : Nat) : State :=
  { s with host := { s.host with inBase := inBase, outBase := outBase, mboxPages := pages } }
/-- A ring of the mailbox. -/
def mboxRing (base pages kind : Nat) : Ring := { owner := 16, base := base, pages := pages, kind := kind, vector := 0, status := 1 }

theorem mboxOpen_up : exec (.mboxOpen inBase outBase pages true) s =
    if s.host.mbox = true ∨ pages < 2 ∨ pages > 256 ∨ (!isPow2 pages) = true then .next (mboxWritten s inBase outBase pages)
    else .next { ((mboxWritten s inBase outBase pages).modRing 62 fun _ => mboxRing inBase pages 4).modRing 63 fun _ => mboxRing outBase pages 5 with
      host := { (mboxWritten s inBase outBase pages).host with mbox := true } } := rfl
theorem mboxOpen_down : exec (.mboxOpen inBase outBase pages false) s =
    .next { ((((mboxWritten s inBase outBase pages).closeSessions fun ss => ss.transport == 3).closeRing 62).closeRing 63) with
      host := { ((mboxWritten s inBase outBase pages).closeSessions fun ss => ss.transport == 3).host with mbox := false } } := rfl
theorem runs_mboxOpen (hm : s.host.mbox = false) (h2 : 2 ≤ pages) (h256 : pages ≤ 256) (hp : isPow2 pages = true) :
    Runs (.mboxOpen inBase outBase pages true) s fun t =>
      t.host.mbox = true ∧ (t.ring 62).isOpen = true ∧ (t.ring 62).base = inBase ∧ (t.ring 62).pages = pages ∧
      (t.ring 63).isOpen = true ∧ (t.ring 63).base = outBase ∧ (t.ring 63).pages = pages ∧
      (∀ q, q < 62 → t.ring q = s.ring q) ∧ SameRegs s t [] ∧ SameMem s t := by
  have hn : ¬(s.host.mbox = true ∨ pages < 2 ∨ pages > 256 ∨ (!isPow2 pages) = true) := by
    rw [hm, hp]
    simp only [Bool.false_eq_true, Bool.not_true, false_or, or_false]
    omega
  refine ⟨_, mboxOpen_up.trans (if_neg hn), rfl, ?_⟩
  have hw : (mboxWritten s inBase outBase pages).regs = s.regs ∧ (mboxWritten s inBase outBase pages).mem = s.mem ∧
      ∀ q, (mboxWritten s inBase outBase pages).ring q = s.ring q := ⟨rfl, rfl, fun _ => rfl⟩
  obtain ⟨hr, hm, hq⟩ := hw
  generalize mboxWritten s inBase outBase pages = w at hr hm hq
  have h62 : ((w.modRing 62 fun _ => mboxRing inBase pages 4).modRing 63 fun _ => mboxRing outBase pages 5).ring 62 = mboxRing inBase pages 4 :=
    (ring_modRing_other _ _ (by decide)).trans (ring_modRing_same _ _ _)
  have h63 : ((w.modRing 62 fun _ => mboxRing inBase pages 4).modRing 63 fun _ => mboxRing outBase pages 5).ring 63 = mboxRing outBase pages 5 :=
    ring_modRing_same _ _ _
  have hlow : ∀ q, q < 62 → ((w.modRing 62 fun _ => mboxRing inBase pages 4).modRing 63 fun _ => mboxRing outBase pages 5).ring q = s.ring q :=
    fun q h => (ring_modRing_other _ _ (by omega)).trans ((ring_modRing_other _ _ (by omega)).trans (hq q))
  have hr2 : ((w.modRing 62 fun _ => mboxRing inBase pages 4).modRing 63 fun _ => mboxRing outBase pages 5).regs = s.regs := hr
  have hm2 : ((w.modRing 62 fun _ => mboxRing inBase pages 4).modRing 63 fun _ => mboxRing outBase pages 5).mem = s.mem := hm
  generalize (w.modRing 62 fun _ => mboxRing inBase pages 4).modRing 63 (fun _ => mboxRing outBase pages 5) = v at h62 h63 hlow hr2 hm2
  have hof : ∀ {q base kind : Nat}, v.ring q = mboxRing base pages kind → (v.ring q).isOpen = true ∧ (v.ring q).base = base ∧ (v.ring q).pages = pages := by
    intro q base kind h
    rw [h]
    exact ⟨rfl, rfl, rfl⟩
  obtain ⟨ho62, hb62, hp62⟩ := hof h62
  obtain ⟨ho63, hb63, hp63⟩ := hof h63
  exact ⟨ho62, hb62, hp62, ho63, hb63, hp63, hlow, sameRegs_of_regs hr2 _, byte_of_mem hm2⟩
theorem runs_mboxClose : Runs (.mboxOpen inBase outBase pages false) s fun t => t.host.mbox = false ∧ (t.ring 62).isOpen = false ∧
    (t.ring 63).isOpen = false ∧ (∀ k, (s.session k).transport = 3 → t.session k = {}) ∧ SameRegs s t [] ∧ SameMem s t := by
  have hc := closeSessions_settled (mboxWritten s inBase outBase pages) fun ss => ss.transport == 3
  have hse : ∀ k, (s.session k).transport = 3 → ((mboxWritten s inBase outBase pages).closeSessions fun ss => ss.transport == 3).session k = {} :=
    fun k hk => session_closeSessions (s := mboxWritten s inBase outBase pages) (beq_iff_eq.mpr hk)
  refine ⟨_, mboxOpen_down, rfl, ?_⟩
  generalize (mboxWritten s inBase outBase pages).closeSessions (fun ss => ss.transport == 3) = u at hc hse ⊢
  refine ⟨?_, ?_, hse, sameRegs_of_regs (congrArg (fun x => x.2.2.2.2) hc) _, byte_of_mem (congrArg (fun x => x.2.1) hc)⟩
  · exact isOpen_closeRing (u.closeRing 62) 63 62 (.inr (isOpen_closeRing u 62 62 (.inl rfl)))
  · exact isOpen_closeRing (u.closeRing 62) 63 63 (.inl rfl)
theorem runs_pcieLinkLoss : Runs .pcieLinkLoss s fun t => t.host.mbox = false ∧ (∀ q, (t.ring q).isOpen = false) ∧
    (∀ k, (s.session k).transport = 3 → t.session k = {}) ∧ SameRegs s t [] ∧ SameMem s t := by
  refine ⟨s.pcieDown, rfl, ?_⟩
  unfold State.pcieDown
  have hc := closeSessions_settled s fun ss => ss.transport == 3
  have hse : ∀ k, (s.session k).transport = 3 → (s.closeSessions fun ss => ss.transport == 3).session k = {} :=
    fun k hk => session_closeSessions (beq_iff_eq.mpr hk)
  generalize s.closeSessions (fun ss => ss.transport == 3) = u at hc hse ⊢
  have hopen := isOpen_closeOpen (s := u)
  have hk := overL_keeps (f := State.closeRing) (g := fun s : State => (s.settled, s.sessions)) ((u.rings.filter fun (e : Nat × Ring) => e.2.owner != 255).map (·.1)) u
    fun _ _ _ => rfl
  dsimp only
  generalize overL ((u.rings.filter fun (e : Nat × Ring) => e.2.owner != 255).map (·.1)) State.closeRing u = v at hopen hk ⊢
  have hset := (congrArg Prod.fst hk).trans hc
  refine ⟨rfl, hopen, fun k h => ?_, sameRegs_of_regs (congrArg (fun x => x.2.2.2.2) hset) _, byte_of_mem (congrArg (fun x => x.2.1) hset)⟩
  have hs : v.sessions = u.sessions := congrArg Prod.snd hk
  exact (congrArg (fun l : NTable Session => NTable.get ({} : Session) l k) hs).trans (hse k h)

end

/-- Settles O56: each command of a ring by the checks of its record, the mailbox and the link by what they open and close. -/
theorem ringsAndMailbox : Obligations.RingsAndMailbox := by
  intro n r rec s
  refine ⟨fun ho hlen h62 hbase h2 hmax hp hv h1 h256 h16 hrole hopen => ?opens, ringOpen_denied, fun ho hr => ⟨ringOpen_length ho hr, fun bad hlen hbad =>
    ⟨fun h => ringOpen_range ho hr hlen (hbad.symm.trans h), fun h => ringOpen_kind ho hr hlen (hbad.symm.trans h), fun h => ringOpen_busy ho hr hlen (hbad.symm.trans h)⟩⟩,
    fun ho hr h => ?closes, fun ho hr h => (ringClose_allowed ho hr).trans (if_pos h), ringClose_denied,
    fun v ho => ⟨runs_consWrite ho, runs_prodWrite ho, runs_statusWrite ho⟩, fun off v => indexWrite_idle,
    fun inBase outBase pages => ⟨runs_mboxOpen, fun h => ?stays, runs_mboxClose⟩, runs_pcieLinkLoss⟩
  case opens =>
    have hr : (s.session n).role ≠ 2 := by omega
    have hk : leAt rec 12 1 ≠ 3 ∨ (s.session n).role = 0 := by omega
    have hb : badRing r rec = false := by
      rw [Bool.eq_false_iff, Ne, badRing_iff, hp]
      have hvec : (!(decide (1 ≤ leAt rec 13 1) && decide (leAt rec 13 1 ≤ 4) || leAt rec 13 1 == 255)) = false := by
        simpa only [Bool.not_eq_false', Bool.or_eq_true, Bool.and_eq_true, decide_eq_true_eq, beq_iff_eq] using hv
      rw [hvec]
      simp only [Bool.not_true, Bool.false_eq_true, false_or]
      omega
    exact runs_ringOpen ho hr hlen hb hk hopen
  case closes =>
    refine ⟨_, (ringClose_allowed ho hr).trans (if_neg (Nat.not_le.mpr h)), ?_⟩
    have hx := ring_closeRing_same s r
    exact ⟨congrArg Ring.isOpen hx, congrArg Ring.staged hx, congrArg Ring.status hx, fun q hq => ring_closeRing_other s hq, rfl,
      sameRegs_of_regs rfl _, fun _ => rfl⟩
  case stays =>
    refine ⟨_, mboxOpen_up.trans (if_pos ?_), rfl, rfl, rfl, sameRegs_of_regs rfl _, fun _ => rfl⟩
    simpa using h

end Sys2Proof.Machine
end
section
/-!
PROOFS. Node addresses and the field bus (16, R441 to R446).
-/
namespace Sys2Proof.Machine

section
variable {s : State}

/-! The next address, or none. -/

theorem refreshT1s_only (s : State) : Only (fun s => (s.addr, s.mem)) (· ∈ [Reg.t1sStatus]) s s.refreshT1s :=
  .setReg (by simp) _ rfl
theorem flashed_addr (s : State) : Only (fun s => (s.addr, s.mem)) (· ∈ [Reg.flashPending]) s s.flashed :=
  .of_reports (flashed_reports s) (fun _ => rfl) fun _ h => h
/-- The field-bus registers that an address moves. -/
@[reducible] def addrRegs : List Reg := [Reg.idAddr, Reg.addrState, Reg.t1sStatus, Reg.flashPending]

/-- The state that an address is taken in. -/
def addressed (s : State) : State :=
  { s with addr := { s.addr with waitFrom := none, announces := 3, lastTx := none, stored := s.nat Reg.addrHighest + 1 } }.setRegs
    [(Reg.idAddr, (s.nat Reg.addrHighest + 1 : Nat)), (Reg.addrState, (s.nat Reg.addrState / 4 * 4 + 1 : Nat))]
theorem addressed_shows (s : State) : (addressed s).reg Reg.idAddr = (s.nat Reg.addrHighest + 1 : Nat) ∧
    (addressed s).reg Reg.addrState = (s.nat Reg.addrState / 4 * 4 + 1 : Nat) ∧ (addressed s).addr.announces = 3 ∧
    (addressed s).addr.stored = s.nat Reg.addrHighest + 1 ∧ (addressed s).addr.waitFrom = none ∧ (addressed s).addr.chainOut = s.addr.chainOut ∧
    (addressed s).mem = s.mem ∧ SameRegs s (addressed s) addrRegs := by
  unfold addressed
  refine ⟨(reg_setReg_other _ _ _ _ (by simp)).trans (reg_setReg_same _ _ _), reg_setReg_same _ _ _, rfl, rfl, rfl, rfl, rfl, ?_⟩
  exact SameRegs.trans (t := { s with addr := _ }) (sameRegs_of_regs rfl _) (Reports.setRegs (by simp)).2
theorem takeNext_gives (h : s.nat Reg.addrHighest < 254) : s.takeNext.reg Reg.idAddr = (s.nat Reg.addrHighest + 1 : Nat) ∧
    s.takeNext.reg Reg.addrState = (s.nat Reg.addrState / 4 * 4 + 1 : Nat) ∧ s.takeNext.addr.announces = 3 ∧
    s.takeNext.addr.stored = s.nat Reg.addrHighest + 1 ∧ s.takeNext.addr.waitFrom = none ∧ s.takeNext.addr.chainOut = s.addr.chainOut ∧
    SameMem s s.takeNext ∧ SameRegs s s.takeNext addrRegs := by
  have heq : s.takeNext = ((addressed s).flashed).refreshT1s := if_neg (Nat.not_le.mpr h)
  obtain ⟨h1, h2, h3, h4, h5, h6, h7, h8⟩ := addressed_shows s
  rw [heq]
  generalize addressed s = u at h1 h2 h3 h4 h5 h6 h7 h8
  have hu := ((flashed_addr u).mono (Q := (· ∈ [Reg.t1sStatus, Reg.flashPending])) (by simp)).trans ((refreshT1s_only _).mono (by simp))
  have ha : u.flashed.refreshT1s.addr = u.addr := hu.field Prod.fst
  refine ⟨(hu.regs _ (by simp)).trans h1, (hu.regs _ (by simp)).trans h2, ?_, ?_, ?_, ?_, byte_of_mem ((hu.field Prod.snd).trans h7),
    h8.trans (hu.sameRegs.mono (by simp))⟩
  · rw [ha, h3]
  · rw [ha, h4]
  · rw [ha, h5]
  · rw [ha, h6]
theorem takeNext_fails (h : 254 ≤ s.nat Reg.addrHighest) : s.takeNext.reg Reg.idAddr = 0 ∧ bit (s.takeNext.reg Reg.addrState) 1 = true ∧
    s.takeNext.addr.waitFrom = none ∧ s.takeNext.addr.chainOut = s.addr.chainOut ∧ SameMem s s.takeNext ∧
    SameRegs s s.takeNext [Reg.idAddr, Reg.addrState, Reg.t1sStatus] := by
  have heq : s.takeNext = (({ s with addr := { s.addr with waitFrom := none } }.setReg Reg.idAddr 0).setReg Reg.addrState
      (s.nat Reg.addrState / 4 * 4 + 2 : Nat)).refreshT1s := if_pos h
  have hs : SameRegs s { s with addr := { s.addr with waitFrom := none } } [Reg.idAddr, Reg.addrState, Reg.t1sStatus] := sameRegs_of_regs rfl _
  rw [heq]
  refine ⟨?_, ?_, rfl, rfl, fun _ => rfl, hs.trans ((SameRegs.setReg (by simp) _).trans ((SameRegs.setReg (by simp) _).trans (.setReg (by simp) _)))⟩
  · exact (reg_setReg_other _ _ _ _ (by simp)).trans ((reg_setReg_other _ _ _ _ (by simp)).trans (reg_setReg_same _ _ _))
  · rw [show (State.refreshT1s _).reg Reg.addrState = _ from (reg_setReg_other _ _ _ _ (by simp)).trans (reg_setReg_same _ _ _)]
    exact decide_eq_true (by omega)

/-! What is heard. -/

variable {a : Fin 256} {uid : Nat}

/-- The highest address heard is noted. -/
def heardAddr (s : State) (a : Fin 256) : State := s.setReg Reg.addrHighest (max a.val (s.nat Reg.addrHighest) : Nat)
/-- One announcement more is due. -/
def announcedAgain (s : State) : State := { s with addr := { s.addr with announces := s.addr.announces + 1 } }

theorem heardAddr_highest : (heardAddr s a).reg Reg.addrHighest = (max a.val (s.nat Reg.addrHighest) : Nat) := reg_setReg_same _ _ _
theorem heardAddr_nat : (heardAddr s a).nat Reg.addrHighest = max a.val (s.nat Reg.addrHighest) := by
  unfold State.nat
  rw [heardAddr_highest]
  rfl
theorem heardAddr_sameRegs {l : List Reg} (hl : Reg.addrHighest ∈ l) : SameRegs s (heardAddr s a) l := .setReg hl _
theorem announce_idle (h : s.nat Reg.idAddr = 0 ∨ a.val ≠ s.nat Reg.idAddr ∨ uid = Config.uid % 18446744073709551616) :
    exec (.addrAnnounce a uid) s = .next (s.when (decide (1 ≤ a.val) && decide (a.val ≤ 254)) fun s => heardAddr s a) := if_pos h
theorem announce_heard (h1 : 1 ≤ a.val) (h254 : a.val ≤ 254)
    (h : s.nat Reg.idAddr = 0 ∨ a.val ≠ s.nat Reg.idAddr ∨ uid = Config.uid % 18446744073709551616) :
    exec (.addrAnnounce a uid) s = .next (heardAddr s a) := by
  refine (announce_idle h).trans ?_
  rw [decide_eq_true h1, decide_eq_true h254]
  rfl
theorem runs_heard (h1 : 1 ≤ a.val) (h254 : a.val ≤ 254)
    (h : s.nat Reg.idAddr = 0 ∨ a.val ≠ s.nat Reg.idAddr ∨ uid = Config.uid % 18446744073709551616) : Runs (.addrAnnounce a uid) s fun t =>
      t.reg Reg.addrHighest = (max a.val (s.nat Reg.addrHighest) : Nat) ∧ SameRegs s t [Reg.addrHighest] ∧ t.units = s.units :=
  ⟨_, announce_heard h1 h254 h, heardAddr_highest, heardAddr_sameRegs (.head _), rfl⟩

section
variable (h1 : 1 ≤ a.val) (h254 : a.val ≤ 254) (ha : a.val = s.nat Reg.idAddr) (hu : uid ≠ Config.uid % 18446744073709551616)
include h1 h254 ha hu

theorem announce_clash : exec (.addrAnnounce a uid) s = .next (
    if !s.chainMode then (if uid < Config.uid % 18446744073709551616 then (heardAddr s a).orReg Reg.addrState 4
      else announcedAgain ((heardAddr s a).orReg Reg.addrState 4))
    else if uid < Config.uid % 18446744073709551616 then (heardAddr s a).takeNext else announcedAgain (heardAddr s a)) := by
  have hn : ¬(s.nat Reg.idAddr = 0 ∨ a.val ≠ s.nat Reg.idAddr ∨ uid = Config.uid % 18446744073709551616) := by omega
  have hw : (s.when (decide (1 ≤ a.val) && decide (a.val ≤ 254)) fun s => heardAddr s a) = heardAddr s a := by
    rw [decide_eq_true h1, decide_eq_true h254]
    rfl
  show execAddrAnnounce a uid s = _
  unfold heardAddr at hw
  unfold execAddrAnnounce
  dsimp only
  rw [if_neg hn, hw]
  by_cases hc : (!s.chainMode) = true
  · rw [if_pos hc, if_pos hc]
    rfl
  · rw [if_neg hc, if_neg hc]
    split
    · rfl
    · rfl
theorem runs_clash :
    (s.chainMode = false → uid < Config.uid % 18446744073709551616 → Runs (.addrAnnounce a uid) s fun t =>
      bit (t.reg Reg.addrState) 2 = true ∧ t.reg Reg.idAddr = s.reg Reg.idAddr ∧ t.addr = s.addr ∧
      SameRegs s t [Reg.addrHighest, Reg.addrState] ∧ SameMem s t) ∧
    (Config.uid % 18446744073709551616 < uid → Runs (.addrAnnounce a uid) s fun t =>
      t.reg Reg.idAddr = s.reg Reg.idAddr ∧ t.addr.announces = s.addr.announces + 1 ∧
      (s.chainMode = false → bit (t.reg Reg.addrState) 2 = true) ∧ (s.chainMode = true → t.reg Reg.addrState = s.reg Reg.addrState) ∧
      SameRegs s t [Reg.addrHighest, Reg.addrState] ∧ SameMem s t) ∧
    (s.chainMode = true → uid < Config.uid % 18446744073709551616 → max a.val (s.nat Reg.addrHighest) < 254 →
      Runs (.addrAnnounce a uid) s fun t => t.reg Reg.idAddr = (max a.val (s.nat Reg.addrHighest) + 1 : Nat) ∧
        t.addr.announces = 3 ∧ t.addr.stored = max a.val (s.nat Reg.addrHighest) + 1 ∧ t.addr.chainOut = s.addr.chainOut ∧
        SameRegs s t [Reg.addrHighest, Reg.idAddr, Reg.addrState, Reg.t1sStatus, Reg.flashPending] ∧ SameMem s t) ∧
    (s.chainMode = true → uid < Config.uid % 18446744073709551616 → 254 ≤ max a.val (s.nat Reg.addrHighest) →
      Runs (.addrAnnounce a uid) s fun t => t.reg Reg.idAddr = 0 ∧ bit (t.reg Reg.addrState) 1 = true ∧
        SameRegs s t [Reg.addrHighest, Reg.idAddr, Reg.addrState, Reg.t1sStatus] ∧ SameMem s t) := by
  have hex := announce_clash h1 h254 ha hu
  have hset : SameRegs s (heardAddr s a) [Reg.addrHighest, Reg.addrState] := heardAddr_sameRegs (.head _)
  have hor : SameRegs s ((heardAddr s a).orReg Reg.addrState 4) [Reg.addrHighest, Reg.addrState] := hset.trans (.setReg (by simp) _)
  have hbit : bit (((heardAddr s a).orReg Reg.addrState 4).reg Reg.addrState) 2 = true := by
    rw [State.orReg, reg_setReg_same]
    exact bit_or_two_pow _ 2
  refine ⟨fun hc hlt => ?_, fun hlt => ?_, fun hc hlt hmax => ?_, fun hc hlt hmax => ?_⟩
  · rw [hc, if_pos hlt] at hex
    exact ⟨_, hex, hbit, hor _ (by simp), rfl, hor, fun _ => rfl⟩
  · rw [if_neg (Nat.lt_asymm hlt), if_neg (Nat.lt_asymm hlt)] at hex
    cases hc : s.chainMode with
    | false =>
      rw [hc] at hex
      exact ⟨_, hex, hor Reg.idAddr (by simp), rfl, fun _ => hbit, fun h => absurd h (by decide), hor, fun _ => rfl⟩
    | true =>
      rw [hc] at hex
      have hstate : (heardAddr s a).reg Reg.addrState = s.reg Reg.addrState := reg_setReg_other _ _ _ _ (by simp)
      exact ⟨_, hex, hset Reg.idAddr (by simp), rfl, fun h => absurd h (by decide), fun _ => hstate, hset, fun _ => rfl⟩
  · rw [hc, Bool.not_true, if_neg Bool.false_ne_true, if_pos hlt] at hex
    obtain ⟨t1, -, t3, t4, -, t6, t7, t8⟩ := takeNext_gives (s := heardAddr s a) (by rwa [heardAddr_nat])
    rw [heardAddr_nat] at t1 t4
    exact ⟨_, hex, t1, t3, t4, t6, (heardAddr_sameRegs (by simp)).trans (t8.mono (by simp)), t7⟩
  · rw [hc, Bool.not_true, if_neg Bool.false_ne_true, if_pos hlt] at hex
    obtain ⟨t1, t2, -, -, t5, t6⟩ := takeNext_fails (s := heardAddr s a) (by rwa [heardAddr_nat])
    exact ⟨_, hex, t1, t2, (heardAddr_sameRegs (by simp)).trans (t6.mono (by simp)), t5⟩

end

/-! The chain, the announcements, the commands. -/

theorem exec_chainInHigh (now : Nat) : exec (.chainInHigh now) s = .next { s with
    addr := { s.addr with
      chainIn := true, waitFrom := if (s.chainMode && s.addr.chain && s.reg Reg.idAddr == 0 && s.addr.waitFrom.isNone && !bit (s.reg Reg.addrState) 1)
        then some now else s.addr.waitFrom } } := rfl
theorem exec_addressTake {now f : Nat} (hf : s.addr.waitFrom = some f) :
    exec (.chainAddressTake now) s = if f + 50 ≤ now then .next s.takeNext else .next s := by
  show execChainAddressTake now s = _
  unfold execChainAddressTake
  rw [hf]
theorem runs_addressTake {now f : Nat} (hf : s.addr.waitFrom = some f) :
    (now < f + 50 → exec (.chainAddressTake now) s = .next s) ∧
    (f + 50 ≤ now → s.nat Reg.addrHighest < 254 → Runs (.chainAddressTake now) s fun t =>
      t.reg Reg.idAddr = (s.nat Reg.addrHighest + 1 : Nat) ∧ t.addr.stored = s.nat Reg.addrHighest + 1 ∧
      t.addr.announces = 3 ∧ t.addr.waitFrom = none ∧ t.reg Reg.addrState % 4 = 1 ∧
      SameRegs s t [Reg.idAddr, Reg.addrState, Reg.t1sStatus, Reg.flashPending] ∧ SameMem s t) ∧
    (f + 50 ≤ now → 254 ≤ s.nat Reg.addrHighest → Runs (.chainAddressTake now) s fun t => t.reg Reg.idAddr = 0 ∧
      bit (t.reg Reg.addrState) 1 = true ∧ t.addr.chainOut = s.addr.chainOut ∧ t.addr.waitFrom = none ∧
      SameRegs s t [Reg.idAddr, Reg.addrState, Reg.t1sStatus] ∧ SameMem s t) := by
  have hex := exec_addressTake (now := now) hf
  refine ⟨fun h => hex.trans (if_neg (Nat.not_le.mpr h)), fun h hmax => ?_, fun h hmax => ?_⟩
  · obtain ⟨t1, t2, t3, t4, t5, -, t7, t8⟩ := takeNext_gives hmax
    refine ⟨_, hex.trans (if_pos h), t1, t4, t3, t5, ?_, t8, t7⟩
    rw [t2]
    omega
  · obtain ⟨t1, t2, t3, t4, t5, t6⟩ := takeNext_fails hmax
    exact ⟨_, hex.trans (if_pos h), t1, t2, t4, t3, t6, t5⟩

/-- Has the time between two announcements passed. -/
def announceDue (s : State) (now : Nat) : Bool := match s.addr.lastTx with | some t => decide (t + 10 ≤ now) | none => true
theorem announceDue_iff {now : Nat} : announceDue s now = true ↔ ∀ f, s.addr.lastTx = some f → f + 10 ≤ now := by
  unfold announceDue
  cases s.addr.lastTx with
  | none => simp
  | some t => simp
theorem exec_announceTx (now : Nat) : exec (.addrAnnounceTx now) s =
    if s.addr.announces = 0 ∨ (!announceDue s now) = true ∨ bit (s.reg Reg.t1sStatus) 3 = true then .next s
    else .next { s with
      addr := { s.addr with announces := s.addr.announces - 1, lastTx := if s.addr.announces - 1 = 0 then none else some now,
                            chainOut := s.addr.chainOut || s.addr.announces - 1 == 0 }
      answer := { bytes := leBytes 1 (s.nat Reg.idAddr) ++ leBytes 8 (Config.uid % 18446744073709551616), sent := true } } := rfl
theorem runs_announceTx {now : Nat} (h0 : s.addr.announces ≠ 0) (hd : ∀ f, s.addr.lastTx = some f → f + 10 ≤ now)
    (hb : bit (s.reg Reg.t1sStatus) 3 = false) : Runs (.addrAnnounceTx now) s fun t => t.addr.announces = s.addr.announces - 1 ∧
      t.answer.sent = true ∧ t.answer.bytes = leBytes 1 (s.nat Reg.idAddr) ++ leBytes 8 (Config.uid % 18446744073709551616) ∧
      (s.addr.announces = 1 → t.addr.chainOut = true) ∧ (1 < s.addr.announces → t.addr.chainOut = s.addr.chainOut) ∧
      SameRegs s t [] ∧ SameMem s t := by
  have hn : ¬(s.addr.announces = 0 ∨ (!announceDue s now) = true ∨ bit (s.reg Reg.t1sStatus) 3 = true) := by
    rw [announceDue_iff.mpr hd, hb]
    simpa using h0
  refine ⟨_, (exec_announceTx now).trans (if_neg hn), rfl, rfl, rfl, fun h => ?_, fun h => ?_, sameRegs_of_regs rfl _, fun _ => rfl⟩
  · show (s.addr.chainOut || s.addr.announces - 1 == 0) = true
    rw [h]
    exact Bool.or_true _
  · show (s.addr.chainOut || s.addr.announces - 1 == 0) = s.addr.chainOut
    rw [beq_false_of_ne (by omega), Bool.or_false]
theorem announceTx_idle {now : Nat} (h : s.addr.announces = 0 ∨ (∃ f, s.addr.lastTx = some f ∧ now < f + 10) ∨ bit (s.reg Reg.t1sStatus) 3 = true) :
    exec (.addrAnnounceTx now) s = .next s := by
  refine (exec_announceTx now).trans (if_pos ?_)
  rcases h with h | ⟨f, hf, hlt⟩ | h
  · exact .inl h
  · refine .inr (.inl ?_)
    unfold announceDue
    rw [hf]
    simpa using hlt
  · exact .inr (.inr h)

theorem runs_addrRestart (hc : s.chainMode = true) : Runs .addrRestart s fun t => t.reg Reg.idAddr = 0 ∧ t.reg Reg.addrState = 0 ∧
    t.addr.chain = true ∧ t.addr.chainOut = false ∧ t.addr.announces = 0 ∧ t.answer.status = 0 ∧
    SameRegs s t [Reg.idAddr, Reg.addrState, Reg.t1sStatus] ∧ SameMem s t := by
  have hn : ¬(!s.chainMode) = true := by
    rw [hc]
    decide
  refine ⟨_, if_neg hn, ?_, ?_, rfl, rfl, rfl, rfl, ?_, fun _ => rfl⟩
  · exact (reg_setReg_other _ _ _ _ (by simp)).trans ((reg_setReg_other _ _ _ _ (by simp)).trans (reg_setReg_same _ _ _))
  · exact (reg_setReg_other _ _ _ _ (by simp)).trans (reg_setReg_same _ _ _)
  · have h1 : SameRegs s { s with addr := { s.addr with
        chainIn := false, chainOut := false, waitFrom := none, announces := 0, lastTx := none, chain := true } }
        [Reg.idAddr, Reg.addrState, Reg.t1sStatus] := sameRegs_of_regs rfl _
    exact h1.trans (SameRegs.trans (Reports.setRegs (by simp)).2 (.setReg (by simp) _))

end

/-- Settles O57: each command by whose address it hears, and how far the procedure stands. -/
theorem nodeAddress : Obligations.NodeAddress := by
  intro s
  refine ⟨fun a uid h1 h254 ha => runs_heard h1 h254 (.inr (.inl ha)), fun a uid ha hown => ?outside,
    fun a h1 h254 => runs_heard h1 h254 (.inr (.inr rfl)), fun a uid h1 h254 ha hu => runs_clash h1 h254 ha hu,
    fun now hc hch h0 hw hst => ?waits, fun now h => ?keeps, fun now f => runs_addressTake, fun now hw => ?idle, fun now => runs_announceTx,
    fun now => announceTx_idle, runs_addrRestart, fun hc => if_pos (by rw [hc]; rfl), fun v => ⟨fun hv => ?access, fun hv => if_pos hv⟩⟩
  case outside =>
    refine (announce_idle (by omega)).trans ?_
    rcases ha with ha | ha
    · rw [ha]
      rfl
    · rw [ha]
      rfl
  case waits =>
    refine ⟨_, exec_chainInHigh now, if_pos ?_, rfl, sameRegs_of_regs rfl _, fun _ => rfl⟩
    rw [hc, hch, h0, hw, hst]
    decide
  case keeps =>
    refine ⟨_, exec_chainInHigh now, if_neg ?_, rfl, sameRegs_of_regs rfl _, fun _ => rfl⟩
    simp only [Bool.and_eq_true, beq_iff_eq, Option.isNone_iff_eq_none, Bool.not_eq_true', ← Bool.not_eq_true]
    rintro ⟨⟨⟨⟨h1, h2⟩, h3⟩, h4⟩, h5⟩
    rcases h with h | h | h | h | h
    · exact Bool.false_ne_true (h.symm.trans h1)
    · exact Bool.false_ne_true (h.symm.trans h2)
    · exact h h3
    · exact h h4
    · exact h5 h
  case idle =>
    show execChainAddressTake now s = _
    unfold execChainAddressTake
    rw [hw]
  case access =>
    refine ⟨_, if_neg (Nat.not_lt.mpr hv), ?_, rfl, (SameRegs.setReg (by simp) _).trans (.setReg (by simp) _), rfl⟩
    exact (reg_setReg_other _ _ _ _ (by simp)).trans (reg_setReg_same _ _ _)

end Sys2Proof.Machine
end
section
/-!
PROOFS. What the entry of a reset takes down, and what stands beside it: the reset's own state, tick, memory, registers of domains
0x2000 and 0x2140 (18, R484 to R488; 09, R269).
-/
namespace Sys2Proof.Machine

/-- The reset state, tick and memory, and whether a session is open. -/
@[reducible] def State.rested (s : State) : RstSt × Nat × NTable Byte × Bool := (s.rst, s.tick, s.mem, s.sessions.isEmpty)
/-- Any register but those of reset causes and counts, and of clock domains. -/
@[reducible] def besideReset (r : Reg) : Prop := r.idx ≠ 0x2000 ∧ r.idx ≠ 0x2140
@[simp] theorem besideReset_iff (r : Reg) : besideReset r ↔ r.idx ≠ 0x2000 ∧ r.idx ≠ 0x2140 := Iff.rfl
/-- A state that follows from another beside its reset. -/
@[reducible] def Beside (s t : State) : Prop := Only State.rested besideReset s t

namespace Beside
section
variable {s t : State}

theorem setReg {r : Reg} (h : besideReset r) (v : Int) : Beside s (s.setReg r v) := Only.setReg (P := besideReset) h v rfl
theorem setRegs {l : List (Reg × Int)} (h : ∀ e ∈ l, besideReset e.1) : Beside s (s.setRegs l) := Only.setRegs h fun _ _ _ => rfl
theorem notify (s : State) (who : Session → Bool) (code idx sub : Nat) : Beside s (s.notify who code idx sub) := by
  refine ⟨?_, fun r hr => reg_setReg_other _ _ _ _ fun h => hr ?_⟩
  case refine_2 =>
    rw [h]
    simp
  show (s.rst, s.tick, s.mem, (s.sessions.map _).isEmpty) = _
  rw [List.isEmpty_map]
theorem eventEntry (s : State) (owner code : Nat) (r : Reg) : Beside s (s.eventEntry owner code r) := .of_regs rfl rfl
theorem notifyGardener (s : State) (code : Nat) (r : Reg) : Beside s (s.notifyGardener code r) := (notify s _ _ _ _).trans (eventEntry _ _ _ _)
theorem logEvent (s : State) (code level plot p0 p1 : Nat) : Beside s (s.logEvent code level plot p0 p1) := .of_regs rfl rfl
theorem modPlot (s : State) (p : Nat) (f : PlotSt → PlotSt) : Beside s (s.modPlot p f) := .of_regs rfl rfl
theorem stick (s : State) (b : Nat) : Beside s (s.stick b) := by
  unfold State.stick
  refine .of_ite (fun _ => .refl _) fun _ => ?_
  have h : Beside s (s.orReg Reg.dpllSticky (2 ^ b)) := Beside.setReg (by simp) _
  generalize s.orReg Reg.dpllSticky (2 ^ b) = u at h ⊢
  have hn : Beside u (u.notify (fun _ => true) 0x10 Reg.dpllSticky.idx Reg.dpllSticky.sub) := Beside.notify u _ _ _ _
  have hm : ∀ v : State, Beside v (v.msix 5) := fun v => .of_regs rfl rfl
  exact h.trans (.of_ite (fun _ => hn.trans (hm _)) fun _ => .refl _)
theorem fixHoldover (s : State) : Beside s s.fixHoldover := by
  have h : Beside s (s.setRegs [(Reg.dpllHoFreq, s.pptOf s.holdoverNow.1), (Reg.dpllHoValid, s.holdoverNow.2.1)]) := Beside.setRegs (by simp)
  exact h.trans (.of_regs rfl rfl)
theorem refFaults (s : State) (r bits : Nat) : Beside s (s.refFaults r bits) := by
  unfold State.refFaults
  extract_lets s1 sel fresh s2 s3 s4
  have h1 : Beside s s1 := Only.trans (Beside.setReg (by simp) _) (Beside.setReg (by simp) _)
  have h2 : Beside s1 s2 := Only.trans (t := s1.setReg (Reg.refState r) 1) (Beside.setReg (by simp) _) (.of_regs rfl rfl)
  have h3 : Beside s2 s3 := .when _ (stick _ 4)
  have h4 : Beside s3 s4 := .when _ (stick _ 5)
  exact .of_ite (fun _ => h1) fun _ => h1.trans (h2.trans (h3.trans (h4.trans (.when _ (fixHoldover _)))))
theorem refQualify (s : State) (r : Nat) : Beside s (s.refQualify r) := by
  unfold State.refQualify
  exact .of_ite (fun _ => Beside.setReg (by simp) _) fun _ => Only.trans (t := s.setReg (Reg.refState r) 2) (Beside.setReg (by simp) _) (.of_regs rfl rfl)
theorem refEnds (s : State) (r bits : Nat) : Beside s (s.refEnds r bits) := by
  unfold State.refEnds
  exact Only.trans (Beside.setReg (by simp) _) (.of_ite (fun _ => .refl _) fun _ => refQualify _ r)
theorem carryGrade (s : State) (r g : Nat) : Beside s (s.carryGrade r g) := by
  unfold State.carryGrade State.gradeFault
  exact Only.trans (t := s.modRef r _) (.of_regs rfl rfl) (.of_ite (fun _ => .refl _) fun _ => .of_ite (fun _ => refFaults _ r 16) fun _ =>
    .when _ (refEnds _ r 16))
theorem restartPtp (s : State) : Beside s s.restartPtp := by
  unfold State.restartPtp
  extract_lets s1
  have h1 : Beside s s1 := Only.trans (Beside.setRegs (by simp)) (.of_regs rfl rfl)
  have h2 : Beside s1 (overN 24 (fun s n => s.setReg (Reg.ptpPortState n) (if s.ptpPort n then 4 else 3)) s1) :=
    .of_overN 24 (fun s n _ => Beside.setReg (by simp) _) s1
  exact h1.trans (h2.trans (carryGrade _ 8 15))

/-! The pair. -/

theorem pairTo (s : State) (st : Nat) : Beside s (s.pairTo st) := by
  unfold State.pairTo
  exact .of_ite (fun _ => .refl s) fun _ => Only.trans (Beside.setReg (by simp) _) ((notifyGardener _ _ _).trans (.of_regs rfl rfl))
theorem modPair (s : State) (f : PairSt → PairSt) : Beside s (s.modPair f) := .of_regs rfl rfl
theorem toStandby (s : State) (role : Int) (graft : Bool) : Beside s (s.toStandby role graft) := by
  have h1 : Beside s (s.setRegs [(Reg.pairRole, role), (Reg.pairAuth, 0)]) := Beside.setRegs (by simp)
  exact h1.trans ((modPair _ _).trans (pairTo _ 4))
theorem takeA (s : State) : Beside s s.takeA := by
  have h1 : Beside s (s.setRegs [(Reg.pairRole, 0), (Reg.pairAuth, 1), (Reg.pairAuthSince, s.tick), (Reg.pairPartnerLost, 0)]) := Beside.setRegs (by simp)
  exact h1.trans ((modPair _ _).trans (pairTo _ 1))
theorem graftEnd (s : State) (code : Nat) : Beside s (s.graftEnd code) := by
  unfold State.graftEnd
  extract_lets ok s1 s2
  have h1 : Beside s s1 := Only.trans (Beside.setReg (by simp) _) (logEvent _ _ _ _ _ _)
  have h2 : Beside s1 s2 := Only.trans (Beside.setReg (by simp) _) (modPair _ _)
  exact .of_ite (fun _ => .refl s) fun _ => h1.trans (h2.trans (.of_ite (fun _ => pairTo _ 3) fun _ => .of_ite (fun _ => toStandby _ _ _) fun _ => pairTo _ 1))
theorem partnerLoss (s : State) : Beside s s.partnerLoss := by
  unfold State.partnerLoss
  extract_lets st high s1
  have h1 : Beside s s1 := graftEnd s _
  exact .of_ite (fun _ => .refl _) fun _ => .of_ite (fun _ => .of_ite (fun _ => pairTo _ _) fun _ =>
    .of_ite (fun _ => (pairTo _ _).trans (.of_regs rfl rfl)) fun _ => takeA s) fun _ =>
    .of_ite (fun _ => h1.trans (.when _ (Beside.setReg (by simp) 1))) fun _ => .of_ite (fun _ => Beside.setReg (by simp) 1) fun _ => .refl _
theorem weltDown (s : State) (l : Nat) : Beside s (s.weltDown l) := by
  unfold State.weltDown
  extract_lets up s1
  have h1 : Beside s s1 := Only.trans (Beside.setReg (by simp) _) (.when _ (Beside.setReg (by simp) _))
  exact .of_ite (fun _ => .refl s) fun _ => .of_ite (fun _ => h1.trans ((modPair _ _).trans (partnerLoss _))) fun _ => h1
theorem leavePair (s : State) : Beside s s.leavePair := by
  unfold State.leavePair
  exact .of_ite (fun _ => .refl s) fun _ => Only.trans (Beside.setRegs (by simp)) (.of_regs rfl rfl)

/-! A last on its way, and what waits for the gardener. -/

theorem dropImage (s : State) (p code : Nat) : Beside s (s.dropImage p code) := by
  have h : Beside s (s.modPlot p fun x => { x with staged := none, shadow := none, partnerOk := false, late := false }) := modPlot s p _
  exact h.trans (Beside.setRegs (by simp; omega))
theorem assignStatus (s : State) (p code pos : Nat) : Beside s (s.assignStatus p code pos) :=
  Only.trans (Beside.setReg (by simp; omega) _) (Beside.setReg (by simp; omega) _)
theorem assign (s : State) (p : Nat) (grant : Bool) (batch : List Byte) : Beside s (s.assign p grant batch) := by
  unfold State.assign
  refine .of_ite (fun _ => assignStatus _ _ _ _) fun _ => ?_
  dsimp only
  split
  · exact assignStatus _ _ _ _
  · have h : Beside s (s.setReg (Reg.assignStatus p) 0) := Beside.setReg (by simp; omega) _
    exact h.trans (.of_ite (fun _ => .of_regs rfl rfl) fun _ => modPlot _ _ _)
theorem assignWaiting (s : State) (p : Nat) : Beside s (s.assignWaiting p) :=
  (modPlot s p _).trans (.of_overL _ (fun s e _ => assign s p e.1 e.2) _)

/-! A port. -/

/-- A link that goes down, before its reference candidates fault. -/
theorem linkDown_eq (s : State) (n : Nat) : ∃ u, Only State.rested (fun r => r.idx = 0x3200 + n ∨ r.idx = 0x3400) s u ∧
    s.linkDown n = overL [9, 10, 11, 12] (fun s r => if s.nat (Reg.refSyncePort r) = n then s.refFaults r 1 else s) u := by
  refine ⟨_, ?_, rfl⟩
  have hset : ∀ {s : State} {r : Reg} (v : Int), (r.idx = 0x3200 + n ∨ r.idx = 0x3400) →
      Only State.rested (fun r => r.idx = 0x3200 + n ∨ r.idx = 0x3400) s (s.setReg r v) := fun v h => .setReg h v rfl
  have hdrop : ∀ (s : State) (f : QFrame), Only State.rested (fun r => r.idx = 0x3200 + n ∨ r.idx = 0x3400) s (s.dropFrame n (Reg.dropLink n) f) := by
    intro s f
    unfold State.dropFrame
    refine Only.trans (t := (s.bump (Reg.dropLink n)).bump (Reg.qDrops n f.q)) (Only.trans (hset _ (.inl rfl)) (hset _ (.inl rfl))) ?_
    unfold State.legDrop
    split
    · exact .of_regs rfl rfl
    · exact .refl _
  have h1 : Only State.rested (fun r => r.idx = 0x3200 + n ∨ r.idx = 0x3400) s
      (s.modPort n fun x => { x with queue := [], busy := 0, wire := none }) := .of_regs rfl rfl
  have h2 := h1.trans (Only.of_overL (f := fun s f => s.dropFrame n (Reg.dropLink n) f) (s.port n).queue (fun s f _ => hdrop s f) _)
  refine h2.trans ?_
  generalize overL (s.port n).queue (fun s f => s.dropFrame n (Reg.dropLink n) f) _ = v
  have h3 : Only State.rested (fun r => r.idx = 0x3200 + n ∨ r.idx = 0x3400) v (v.setFdb (v.net.fdb.filter fun e => e.static || e.port != n)) :=
    Only.trans (t := v.modNet _) (.of_regs rfl rfl) (.setRegs (by simp) fun _ _ _ => rfl)
  exact h3.trans (Only.trans (hset _ (.inl rfl)) (hset _ (.inl rfl)))
theorem linkDown (s : State) (n : Nat) : Beside s (s.linkDown n) := by
  obtain ⟨u, hu, heq⟩ := linkDown_eq s n
  rw [heq]
  refine (hu.mono fun r hr => ?_).trans (.of_overL _ (fun s r _ => .of_ite (fun _ => refFaults s r 1) fun _ => .refl s) u)
  rw [besideReset_iff]
  omega

end
end Beside

end Sys2Proof.Machine
end
section
/-!
PROOFS. Reset sources and the entry of a reset (18, R484 to R488; 09, R269).
-/
namespace Sys2Proof.Machine

/-! Sources (R484 to R486). -/

section
variable {s : State}

theorem refreshFaults_reports (s : State) : Reports s s.refreshFaults [Reg.faultCode, Reg.faultCount] := .refreshFaults (by simp) (by simp)
/-- A source that holds the reset. -/
theorem holdReset_holds (s : State) (src : Nat) : src ∈ (s.holdReset src).rst.held ∧ (s.holdReset src).rst.asks = s.rst.asks ∧
    SameRegs s (s.holdReset src) [Reg.faultCode, Reg.faultCount] ∧ SameMem s (s.holdReset src) := by
  refine ⟨?_, rfl, ?_, fun _ => rfl⟩
  · show src ∈ if s.rst.held.contains src then s.rst.held else s.rst.held ++ [src]
    split
    · rename_i h
      exact List.contains_iff_mem.mp h
    · simp
  · exact SameRegs.trans (t := s.modRst _) (sameRegs_of_regs rfl _) (refreshFaults_reports _).2
theorem readTj_shows (t : Int) : (s.readTj t).reg Reg.tjNow = t ∧ (s.readTj t).reg Reg.tjMax = max t (s.reg Reg.tjMax) ∧
    SameRegs s (s.readTj t) [Reg.tjNow, Reg.tjMax] ∧ (s.readTj t).rst = s.rst ∧ SameMem s (s.readTj t) := by
  unfold State.readTj
  have hset : SameRegs s (s.setReg Reg.tjNow t) [Reg.tjNow, Reg.tjMax] := .setReg (by simp) _
  have hnow : (s.setReg Reg.tjNow t).reg Reg.tjNow = t := reg_setReg_same _ _ _
  have hmax : (s.setReg Reg.tjNow t).reg Reg.tjMax = s.reg Reg.tjMax := reg_setReg_other _ _ _ _ (by simp)
  rcases Int.lt_or_le (s.reg Reg.tjMax) t with h | h
  · rw [decide_eq_true (show t > s.reg Reg.tjMax from h)]
    refine ⟨(reg_setReg_other _ _ _ _ (by simp)).trans hnow, (reg_setReg_same _ _ _).trans (by omega), hset.trans (.setReg (by simp) _), rfl, fun _ => rfl⟩
  · rw [decide_eq_false (show ¬t > s.reg Reg.tjMax from Int.not_lt.mpr h)]
    exact ⟨hnow, hmax.trans (by omega), hset, rfl, fun _ => rfl⟩
theorem runs_resetPin (h : s.rst.phase ≠ 1 ∨ 3 ≤ s.rst.kind) : Runs .resetPin s fun t => t.rst.asks = s.rst.asks ++ [(2, 3)] ∧ 3 ∈ t.rst.held ∧
    t.reg Reg.rstPinEvents = (s.reg Reg.rstPinEvents + 1) % 4294967296 ∧
    SameRegs s t [Reg.rstPinEvents, Reg.faultCode, Reg.faultCount] ∧ SameMem s t := by
  have hn : ¬(s.rst.phase = 1 ∧ (s.rst.kind = 1 ∨ s.rst.kind = 2)) := by omega
  have hb : (s.bump Reg.rstPinEvents).reg Reg.rstPinEvents = bump32 (s.reg Reg.rstPinEvents) := reg_bump_same _ _
  obtain ⟨h1, h2, h3, h4⟩ := holdReset_holds ((s.bump Reg.rstPinEvents).ask 2 0x03) 3
  have hset : SameRegs s ((s.bump Reg.rstPinEvents).ask 2 0x03) [Reg.rstPinEvents, Reg.faultCode, Reg.faultCount] := SameRegs.setReg (by simp) _
  exact ⟨_, if_neg hn, h2, h1, (h3 _ (by simp)).trans hb, hset.trans (h3.mono (by simp)), h4⟩
theorem runs_overtemp {tenths : Int} (h : 1250 < tenths) : Runs (.tjOvertemp tenths) s fun t => t.rst.asks = s.rst.asks ++ [(2, 6)] ∧ 6 ∈ t.rst.held ∧
    t.reg Reg.tjNow = tenths ∧ t.reg Reg.tjMax = max tenths (s.reg Reg.tjMax) ∧
    SameRegs s t [Reg.tjNow, Reg.tjMax, Reg.faultCode, Reg.faultCount] ∧ SameMem s t := by
  obtain ⟨r1, r2, r3, r4, r5⟩ := readTj_shows (s := s) tenths
  have hex : exec (.tjOvertemp tenths) s = .next (((s.readTj tenths).ask 2 0x06).holdReset 6) := if_pos h
  generalize s.readTj tenths = u at r1 r2 r3 r4 r5 hex
  obtain ⟨h1, h2, h3, h4⟩ := holdReset_holds (u.ask 2 0x06) 6
  have ha : (u.ask 2 0x06).rst.asks = s.rst.asks ++ [(2, 6)] := by rw [← r4]; rfl
  have hu : SameRegs s (u.ask 2 0x06) [Reg.tjNow, Reg.tjMax, Reg.faultCode, Reg.faultCount] := r3.mono (by simp)
  exact ⟨_, hex, h2.trans ha, h1, (h3 _ (by simp)).trans r1, (h3 _ (by simp)).trans r2, hu.trans (h3.mono (by simp)), fun a => (h4 a).trans (r5 a)⟩
theorem runs_undertemp {tenths : Int} (h : tenths ≤ 1250) : Runs (.tjOvertemp tenths) s fun t => t.rst = s.rst ∧ t.reg Reg.tjNow = tenths ∧
    t.reg Reg.tjMax = max tenths (s.reg Reg.tjMax) ∧ SameRegs s t [Reg.tjNow, Reg.tjMax] ∧ SameMem s t := by
  obtain ⟨r1, r2, r3, r4, r5⟩ := readTj_shows (s := s) tenths
  exact ⟨_, if_neg (Int.not_lt.mpr h), r4, r1, r2, r3, r5⟩

/-- The watchdog's resets of the last 600 s. -/
def recentDogs (s : State) (now : Nat) : List Nat := s.rst.dogs.filter fun x => decide (now < x + 600000000)
/-- The reset state once the watchdog has expired. -/
def RstSt.barked (r : RstSt) (now : Nat) (l : List Nat) : RstSt :=
  { r with dogs := if decide ((now :: l).length ≥ 3) then [] else now :: l, other := r.other || decide ((now :: l).length ≥ 3),
           fellBack := decide ((now :: l).length ≥ 3) }
theorem runs_watchdog {now : Nat} (h : s.rst.kind = 0) : Runs (.watchdogExpire now) s fun t => t.rst.asks = s.rst.asks ++ [(4, 10)] ∧
    ((recentDogs s now).length ≥ 2 → t.rst.other = true ∧ t.rst.dogs = []) ∧ ((recentDogs s now).length < 2 → t.rst.other = s.rst.other) ∧
    SameRegs s t [] ∧ SameMem s t := by
  have hex : exec (.watchdogExpire now) s = .next ((s.modRst fun r => r.barked now (recentDogs s now)).ask 4 0x0A) := if_neg (not_not_intro h)
  refine ⟨_, hex, rfl, fun hl => ?_, fun hl => ?_, sameRegs_of_regs rfl _, fun _ => rfl⟩
  · have hd : decide ((now :: recentDogs s now).length ≥ 3) = true := decide_eq_true (by simpa using hl)
    refine ⟨?_, ?_⟩
    · show (s.rst.other || decide _) = true
      rw [hd, Bool.or_true]
    · show (if decide _ = true then [] else _) = []
      rw [hd, if_pos rfl]
  · have hd : decide ((now :: recentDogs s now).length ≥ 3) = false := decide_eq_false (by simpa using hl)
    show (s.rst.other || decide _) = s.rst.other
    rw [hd, Bool.or_false]

/-! Commanded resets (R485). -/

theorem runs_resetCmd {i : Instr} {kind port : Nat} (hi : (i, kind, port) ∈ [(Instr.rstCmdCold, 1, 0), (.rstCmdWarm, 2, 0), (.rstCmdGardener, 3, 0)] ∨
    (∃ p : Fin 28, i = .rstCmdPort p ∧ kind = 4 ∧ port = p.val)) : Runs i s fun t =>
      t.rst.cmds = s.rst.cmds ++ [(s.tick + 2, kind, port)] ∧ t.answer.status = 0 ∧ SameRegs s t [] ∧ SameMem s t := by
  have hex : exec i s = .next (s.resetCmd kind port) := by
    rcases hi with hi | ⟨p, rfl, rfl, rfl⟩
    · simp only [List.mem_cons, List.not_mem_nil, or_false] at hi
      rcases hi with ⟨rfl, rfl, rfl⟩ | ⟨rfl, rfl, rfl⟩ | ⟨rfl, rfl, rfl⟩
      · rfl
      · rfl
      · rfl
    · rfl
  exact ⟨_, hex, rfl, rfl, sameRegs_of_regs rfl _, fun _ => rfl⟩

/-- A command that comes to its boundary. -/
def applyCmd (s : State) (e : Nat × Nat × Nat) : State :=
  match e.2.1 with
  | 1 => s.ask 2 0x07
  | 2 => s.ask 3 0x08
  | 4 => s.ask 5 e.2.2
  | 5 => (s.modRst fun r => { r with other := true }).ask 4 0x09
  | _ => s.ask 4 0x09
theorem exec_cmdApply : exec .resetCmdApply s = .next (overL (s.rst.cmds.filter fun e => decide (e.1 ≤ s.tick)) applyCmd
    (s.modRst fun r => { r with cmds := r.cmds.filter fun e => !decide (e.1 ≤ s.tick) })) := rfl
theorem applyCmd_asks (k kind port : Nat) : (applyCmd s (k, kind, port)).rst.asks = s.rst.asks ++ [match kind with
    | 1 => (2, 7) | 2 => (3, 8) | 4 => (5, port) | _ => (4, 9)] ∧ (applyCmd s (k, kind, port)).rst.cmds = s.rst.cmds ∧
    (applyCmd s (k, kind, port)).regs = s.regs ∧ (applyCmd s (k, kind, port)).mem = s.mem := by
  unfold applyCmd
  dsimp only
  split
  · exact ⟨rfl, rfl, rfl, rfl⟩
  · exact ⟨rfl, rfl, rfl, rfl⟩
  · exact ⟨rfl, rfl, rfl, rfl⟩
  · exact ⟨rfl, rfl, rfl, rfl⟩
  · rename_i h1 h2 h4 _
    refine ⟨?_, rfl, rfl, rfl⟩
    split
    · exact absurd rfl h1
    · exact absurd rfl h2
    · exact absurd rfl h4
    · rfl
theorem runs_cmdApply {k kind port : Nat} (hc : s.rst.cmds = [(k, kind, port)]) :
    (k ≤ s.tick → Runs .resetCmdApply s fun t => t.rst.cmds = [] ∧ t.rst.asks = s.rst.asks ++ [match kind with
      | 1 => (2, 7) | 2 => (3, 8) | 4 => (5, port) | _ => (4, 9)] ∧ SameRegs s t [] ∧ SameMem s t) ∧
    (s.tick < k → Runs .resetCmdApply s fun t => t.rst = s.rst ∧ SameRegs s t [] ∧ SameMem s t) := by
  have hex := exec_cmdApply (s := s)
  refine ⟨fun h => ?_, fun h => ?_⟩
  · have hd : (s.rst.cmds.filter fun e => decide (e.1 ≤ s.tick)) = [(k, kind, port)] := by
      rw [hc]
      simp [h]
    rw [hd] at hex
    have hcm : (s.modRst fun r => { r with cmds := r.cmds.filter fun e => !decide (e.1 ≤ s.tick) }).rst.cmds = [] := by
      show s.rst.cmds.filter _ = []
      rw [hc]
      simp [h]
    obtain ⟨h1, h2, h3, h4⟩ := applyCmd_asks (s := s.modRst fun r => { r with cmds := r.cmds.filter fun e => !decide (e.1 ≤ s.tick) }) k kind port
    exact ⟨_, hex, h2.trans hcm, h1, sameRegs_of_regs h3 _, byte_of_mem h4⟩
  · have hd : (s.rst.cmds.filter fun e => decide (e.1 ≤ s.tick)) = [] := by
      rw [hc]
      simp [h]
    rw [hd] at hex
    refine ⟨_, hex, ?_, sameRegs_of_regs rfl _, fun _ => rfl⟩
    show { s.rst with cmds := s.rst.cmds.filter fun e => !decide (e.1 ≤ s.tick) } = s.rst
    have hk : (s.rst.cmds.filter fun e => !decide (e.1 ≤ s.tick)) = s.rst.cmds := by
      rw [hc]
      simp [h]
    rw [hk]
/-- A held source clears. -/
theorem runs_sourceClear (src : Fin 13) : Runs (.resetSourceClear src) s fun t => src.val ∉ t.rst.held ∧
    (∀ x ∈ s.rst.held, x ≠ src.val → x ∈ t.rst.held) ∧ SameRegs s t [Reg.clkState 1, Reg.faultCode, Reg.faultCount] ∧ SameMem s t := by
  have hex : exec (.resetSourceClear src) s = .next ((s.when (src.val == 4) fun s => s.setReg (Reg.clkState 1) 0).releaseReset src) := rfl
  have h1 : Only (fun s => (s.rst, s.mem)) (· ∈ [Reg.clkState 1]) s (s.when (src.val == 4) fun s => s.setReg (Reg.clkState 1) 0) :=
    .when _ (.setReg (by simp) _ rfl)
  generalize (s.when (src.val == 4) fun s => s.setReg (Reg.clkState 1) 0) = u at hex h1
  have hheld : u.rst.held = s.rst.held := congrArg (fun x : RstSt × NTable Byte => x.1.held) h1.view
  have hr : (u.releaseReset src).rst.held = s.rst.held.filter fun y => y != src.val := congrArg (List.filter fun y => y != src.val) hheld
  have hf : SameRegs u (u.releaseReset src) [Reg.clkState 1, Reg.faultCode, Reg.faultCount] :=
    SameRegs.trans (t := u.modRst _) (sameRegs_of_regs rfl _) ((refreshFaults_reports _).2.mono (by simp))
  refine ⟨_, hex, ?_, fun x hx hne => ?_, (h1.sameRegs.mono (by simp)).trans hf, byte_of_mem (congrArg Prod.snd h1.view :)⟩
  · rw [hr]
    simp
  · rw [hr]
    exact List.mem_filter.mpr ⟨hx, bne_iff_ne.mpr hne⟩

end

/-! A clock domain that is lost (R269). -/

/-- Bit 10 of the sticky register stands, and the register is not negative. -/
def LossStuck (s : State) : Prop := 0 ≤ s.reg Reg.dpllSticky ∧ bit (s.reg Reg.dpllSticky) 10 = true

namespace LossStuck
section
variable {s t : State}

theorem of_reg (h : LossStuck s) (hr : t.reg Reg.dpllSticky = s.reg Reg.dpllSticky) : LossStuck t := by
  unfold LossStuck
  rwa [hr]
theorem of_only {α : Type} {q : State → α} {P : Reg → Prop} (h : LossStuck s) (ho : Only q P s t) (hP : ¬P Reg.dpllSticky) : LossStuck t :=
  h.of_reg (ho.regs _ hP)
theorem stick_nonneg (b : Nat) (h : 0 ≤ s.reg Reg.dpllSticky) : 0 ≤ (s.stick b).reg Reg.dpllSticky := by
  rw [stick_sticky]
  split
  · exact h
  · exact Int.natCast_nonneg _
theorem stick (h : LossStuck s) (b : Nat) : LossStuck (s.stick b) := ⟨stick_nonneg b h.1, bit_stick_stays b h.1 h.2⟩
theorem when (h : LossStuck s) (b : Bool) {f : State → State} (hf : LossStuck (f s)) : LossStuck (s.when b f) := by
  cases b
  · exact h
  · exact hf
theorem fixHoldover (h : LossStuck s) : LossStuck s.fixHoldover := by
  refine h.of_reg ((reg_of_regs rfl _).trans ?_)
  exact (Reports.setRegs (l := [Reg.dpllHoFreq, Reg.dpllHoValid]) (by simp)).2 _ (by simp)
theorem refFaults (h : LossStuck s) (r bits : Nat) : LossStuck (s.refFaults r bits) := by
  unfold State.refFaults
  extract_lets s1 sel fresh s2 s3 s4
  have h1 : LossStuck s1 := h.of_reg ((reg_setReg_other _ _ _ _ (by simp)).trans (reg_setReg_other _ _ _ _ (by simp)))
  have hr2 : s2.regs = (s1.setReg (Reg.refState r) 1).regs := rfl
  have h2 : LossStuck s2 := h1.of_reg ((reg_of_regs hr2 _).trans (reg_setReg_other _ _ _ _ (by simp)))
  clear_value s2
  have h3 : LossStuck s3 := h2.when _ (h2.stick 4)
  have h4 : LossStuck s4 := h3.when _ (h3.stick 5)
  split
  · exact h1
  · exact h4.when _ h4.fixHoldover
theorem overL {β : Type} {f : State → β → State} (l : List β) (hf : ∀ s a, LossStuck s → LossStuck (f s a)) (s : State) (h : LossStuck s) :
    LossStuck (Machine.overL l f s) := by
  induction l generalizing s with
  | nil => exact h
  | cons a l ih => exact ih _ (hf s a h)
theorem linkDown (h : LossStuck s) (n : Nat) : LossStuck (s.linkDown n) := by
  obtain ⟨u, hu, heq⟩ := Beside.linkDown_eq s n
  rw [heq]
  refine overL _ (fun s r hs => ?_) u (h.of_only hu (by simp; omega))
  split
  · exact hs.refFaults r 1
  · exact hs
theorem enterHoldover (h : LossStuck s) (fix : Bool) : LossStuck (s.enterHoldover fix) := by
  unfold State.enterHoldover
  extract_lets s1 lg s2 s3
  have h0 : LossStuck (s.setRegs [(Reg.dpllState, 3), (Reg.dpllHoSince, s.tick), (Reg.dpllHoSeconds, 0)]) :=
    h.of_reg ((Reports.setRegs (l := [Reg.dpllState, Reg.dpllHoSince, Reg.dpllHoSeconds]) (by simp)).2 _ (by simp))
  have h1 : LossStuck s1 := h0.stick 2
  have hr3 : s3.regs = s1.regs := rfl
  have h3 : LossStuck s3 := h1.of_reg (reg_of_regs hr3 _)
  exact h3.when _ h3.fixHoldover

end
end LossStuck

section
variable {s : State}

theorem Beside.enterHoldover (s : State) (fix : Bool) : Beside s (s.enterHoldover fix) := by
  unfold State.enterHoldover
  extract_lets s1 lg s2 s3
  have h0 : Beside s (s.setRegs [(Reg.dpllState, 3), (Reg.dpllHoSince, s.tick), (Reg.dpllHoSeconds, 0)]) := Beside.setRegs (by simp)
  have h1 : Beside s s1 := h0.trans (Beside.stick _ 2)
  have h2 : Beside s1 s2 := .of_regs rfl rfl
  have h3 : Beside s2 s3 := .of_regs rfl rfl
  exact h1.trans (h2.trans (h3.trans (.when _ (Beside.fixHoldover _))))
/-- The servo's mode follows the reference in use, by registers of the PTP unit and the counter. -/
theorem followMode_frame (s : State) : Only State.rested (· ∈ [Reg.timeMode, Reg.servoState, Reg.timeAdjLeft]) s s.followMode := by
  unfold State.followMode
  extract_lets ptp s1 st off s2
  have h1 : Only State.rested (· ∈ [Reg.timeMode, Reg.servoState, Reg.timeAdjLeft]) s s1 := .setReg (by simp) _ rfl
  have h2 : Only State.rested (· ∈ [Reg.timeMode, Reg.servoState, Reg.timeAdjLeft]) s s2 := h1.trans (.setReg (by simp) _ rfl)
  refine .of_ite (fun _ => .of_ite (fun _ => h2.trans (.of_regs rfl rfl)) fun _ => h2.trans (.setReg (by simp) _ rfl)) fun _ => ?_
  exact .of_ite (fun _ => h1.trans (.setReg (by simp) _ rfl)) fun _ => h1
/-- The reference is left, before holdover. -/
theorem toHoldover_frame (h : LossStuck s) : Beside s s.toHoldover ∧ LossStuck s.toHoldover := by
  unfold State.toHoldover
  extract_lets cur s1
  have hset : LossStuck ((s.setReg Reg.dpllRef noRef).bump Reg.dpllSwitchCount) :=
    h.of_reg ((reg_setReg_other _ _ _ _ (by simp)).trans (reg_setReg_other _ _ _ _ (by simp)))
  have hb : Beside s ((s.setReg Reg.dpllRef noRef).bump Reg.dpllSwitchCount) := Only.trans (Beside.setReg (by simp) _) (Beside.setReg (by simp) _)
  have h1 : Beside s s1 := .when _ (hb.trans (Beside.stick _ 3))
  have h2 : LossStuck s1 := h.when _ (hset.stick 3)
  clear_value s1
  split
  · exact ⟨h1, h2⟩
  · have hf := followMode_frame (s1.enterHoldover (cur == noRef || s.reg (Reg.refState cur) != 1))
    refine ⟨h1.trans ((Beside.enterHoldover _ _).trans (hf.mono ?_)), (h2.enterHoldover _).of_only hf (by simp)⟩
    simp

/-- A loss as it is noted. -/
def lossNoted (s : State) (d : Fin 26) : State := (((s.setReg (Reg.clkState d) 1).bump (Reg.clkLossCount d)).stick 10).logKeep 0x0201 2 d 0

theorem lossNoted_shows (d : Fin 26) (h0 : 0 ≤ s.reg Reg.dpllSticky) : (lossNoted s d).reg (Reg.clkState d) = 1 ∧
    (lossNoted s d).reg (Reg.clkLossCount d) = (s.reg (Reg.clkLossCount d) + 1) % 4294967296 ∧ LossStuck (lossNoted s d) ∧
    (lossNoted s d).rst = s.rst ∧
    SameRegs s (lossNoted s d) [Reg.clkState d, Reg.clkLossCount d, Reg.dpllSticky, Reg.notifyDropped] := by
  unfold lossNoted
  have h1 : ((s.setReg (Reg.clkState d) 1).bump (Reg.clkLossCount d)).reg (Reg.clkState d) = 1 :=
    (reg_bump_other _ _ _ (by simp)).trans (reg_setReg_same _ _ _)
  have h2 : ((s.setReg (Reg.clkState d) 1).bump (Reg.clkLossCount d)).reg (Reg.clkLossCount d) = bump32 (s.reg (Reg.clkLossCount d)) := by
    rw [reg_bump_same, reg_setReg_other _ _ _ _ (by simp)]
  have h3 : ((s.setReg (Reg.clkState d) 1).bump (Reg.clkLossCount d)).reg Reg.dpllSticky = s.reg Reg.dpllSticky :=
    (reg_bump_other _ _ _ (by simp)).trans (reg_setReg_other _ _ _ _ (by simp))
  have h4 : SameRegs s ((s.setReg (Reg.clkState d) 1).bump (Reg.clkLossCount d)) [Reg.clkState d, Reg.clkLossCount d, Reg.dpllSticky, Reg.notifyDropped] :=
    SameRegs.trans (.setReg (by simp) _) (.setReg (by simp) _)
  have h5 : ((s.setReg (Reg.clkState d) 1).bump (Reg.clkLossCount d)).rst = s.rst := rfl
  generalize (s.setReg (Reg.clkState d) 1).bump (Reg.clkLossCount d) = u at h1 h2 h3 h4 h5
  have hf := stick_frame u 10
  refine ⟨?_, ?_, ⟨?_, ?_⟩, ?_, ?_⟩
  · exact (hf.regs _ (by simp)).trans h1
  · exact (hf.regs _ (by simp)).trans h2
  · exact LossStuck.stick_nonneg 10 (by rwa [h3])
  · exact bit_stick u 10
  · exact (congrArg (fun x : RstSt × Nat × NTable Byte × Bool => x.1) (Beside.stick u 10).view).trans h5
  · exact h4.trans (hf.sameRegs.mono (by simp))

/-- What follows a note and leaves it. -/
def AfterLoss (u t : State) : Prop := (∀ r : Reg, r.idx = 0x2140 → t.reg r = u.reg r) ∧ LossStuck t

theorem Beside.afterLoss {u t : State} (h : Beside u t) (hs : LossStuck t) : AfterLoss u t := ⟨fun r hr => h.regs r (by simp [hr]), hs⟩

/-! What the loss of each domain does. -/

/-- A port of a lost clock. -/
def portLoss (a : Nat) (s : State) (i : Nat) : State :=
  s.when (s.reg (Reg.netLink (a + i)) == 1) fun s => (s.setReg (Reg.netLink (a + i)) 0).linkDown (a + i)
theorem portLoss_up {a i : Nat} (h : s.reg (Reg.netLink (a + i)) = 1) :
    portLoss a s i = (s.setReg (Reg.netLink (a + i)) 0).linkDown (a + i) := if_pos (beq_iff_eq.mpr h)
theorem portLoss_down {a i : Nat} (h : s.reg (Reg.netLink (a + i)) ≠ 1) : portLoss a s i = s := if_neg (mt beq_iff_eq.mp h)
theorem netLink_linkDown (n : Nat) {m : Nat} (hm : m < 24) : (s.linkDown n).reg (Reg.netLink m) = s.reg (Reg.netLink m) := by
  obtain ⟨-, -, -, -, hreg⟩ := linkDown_frame s n
  exact hreg _ (by simp; omega)
theorem portLoss_same {a i : Nat} (hi : a + i < 24) : (portLoss a s i).reg (Reg.netLink (a + i)) =
    if s.reg (Reg.netLink (a + i)) = 1 then 0 else s.reg (Reg.netLink (a + i)) := by
  by_cases h : s.reg (Reg.netLink (a + i)) = 1
  · rw [portLoss_up h, if_pos h, netLink_linkDown _ hi, reg_setReg_same]
  · rw [portLoss_down h, if_neg h]
theorem portLoss_other {a i j : Nat} (hj : a + j < 24) (h : i ≠ j) : (portLoss a s i).reg (Reg.netLink (a + j)) = s.reg (Reg.netLink (a + j)) := by
  by_cases hl : s.reg (Reg.netLink (a + i)) = 1
  · rw [portLoss_up hl, netLink_linkDown _ hj, reg_setReg_other _ _ _ _ (by simp; omega)]
  · rw [portLoss_down hl]
theorem portsLoss_link {a n j : Nat} (hj : j < n) (ha : a + j < 24) : (overN n (portLoss a) s).reg (Reg.netLink (a + j)) =
    if s.reg (Reg.netLink (a + j)) = 1 then 0 else s.reg (Reg.netLink (a + j)) := by
  refine overN_once (g := fun s => s.reg (Reg.netLink (a + j))) hj (fun s x hx => portLoss_other ha hx) fun t ht => ?_
  rw [portLoss_same ha, ht]
theorem portLoss_after (a i : Nat) (s : State) : Beside s (portLoss a s i) ∧ (LossStuck s → LossStuck (portLoss a s i)) := by
  by_cases hl : s.reg (Reg.netLink (a + i)) = 1
  · rw [portLoss_up hl]
    have h1 : Beside s (s.setReg (Reg.netLink (a + i)) 0) := Beside.setReg (by simp; omega) _
    exact ⟨h1.trans (Beside.linkDown _ _), fun h => (h.of_reg (reg_setReg_other _ _ _ _ (by simp))).linkDown _⟩
  · rw [portLoss_down hl]
    exact ⟨.refl s, id⟩
theorem portsLoss_after (a n : Nat) (h : LossStuck s) : Beside s (overN n (portLoss a) s) ∧ LossStuck (overN n (portLoss a) s) :=
  ⟨.of_overN n (fun s i _ => (portLoss_after a i s).1) s, LossStuck.overL _ (fun s i => (portLoss_after a i s).2) s h⟩

/-- What the loss of domain k does once it is noted. -/
def lossAct (k : Nat) (s : State) : State :=
  match k with
  | 1 => ((s.leavePair).ask 2 0x04).holdReset 4
  | 4 => s.ask 4 0x0B
  | 7 => s.pcieDown
  | 8 => overN 8 (portLoss 0) s
  | 9 => overN 16 (portLoss 8) s
  | 10 => s.setReg Reg.t1sStatus (s.nat Reg.t1sStatus / 4 * 4 : Nat)
  | 11 => (s.weltDown 0).weltDown 1
  | x =>
    if [2, 3, 5, 6, 12, 17, 18].contains x then (s.leavePair).ask 2 0x05
    else if x = 19 ∨ x = 24 then s.toHoldover
    else s
theorem lossAct_other {k : Nat} (hk : k ∉ [1, 4, 7, 8, 9, 10, 11]) : lossAct k s =
    if [2, 3, 5, 6, 12, 17, 18].contains k then (s.leavePair).ask 2 0x05 else if k = 19 ∨ k = 24 then s.toHoldover else s := by
  unfold lossAct
  split
  · exact absurd (by decide) hk
  · exact absurd (by decide) hk
  · exact absurd (by decide) hk
  · exact absurd (by decide) hk
  · exact absurd (by decide) hk
  · exact absurd (by decide) hk
  · exact absurd (by decide) hk
  · rfl
theorem exec_clockLoss {d : Fin 26} (h : d.val ≠ 0) : exec (.clockLoss d) s = .next (lossAct d.val (lossNoted s d)) := by
  show execClockLoss d s = _
  unfold execClockLoss
  rw [if_neg h]
  dsimp only
  show _ = Host.Outcome.next (lossAct d.val (lossNoted s d))
  split
  · rename_i heq
    conv_rhs => rw [heq]
    rfl
  · rename_i heq
    conv_rhs => rw [heq]
    rfl
  · rename_i heq
    conv_rhs => rw [heq]
    rfl
  · rename_i heq
    conv_rhs => rw [heq]
    rfl
  · rename_i heq
    conv_rhs => rw [heq]
    rfl
  · rename_i heq
    conv_rhs => rw [heq]
    rfl
  · rename_i heq
    conv_rhs => rw [heq]
    rfl
  · rename_i h1 h4 h7 h8 h9 h10 h11
    rw [lossAct_other (by simp only [List.mem_cons, List.not_mem_nil, or_false, not_or]; exact ⟨h1, h4, h7, h8, h9, h10, h11⟩)]
    split
    · rfl
    · split
      · rfl
      · rfl

theorem lossAct_chip {k : Nat} (h : k ∈ [2, 3, 5, 6, 12, 17, 18]) : lossAct k s = (s.leavePair).ask 2 0x05 := by
  have hk : k ∉ [1, 4, 7, 8, 9, 10, 11] := by
    simp only [List.mem_cons, List.not_mem_nil, or_false] at h ⊢
    omega
  rw [lossAct_other hk, if_pos (List.contains_iff_mem.mpr h)]
theorem leavePair_paired (h : s.paired = true) : s.leavePair.reg Reg.pairAuth = 0 ∧ s.leavePair.reg Reg.pairState = 4 := by
  have hn : ¬(!s.paired) = true := by
    rw [h]
    decide
  unfold State.leavePair
  rw [if_neg hn]
  refine ⟨?_, ?_⟩
  · show (State.setRegs _ _).reg _ = _
    simp only [State.setRegs, List.foldl_cons, List.foldl_nil]
    rw [reg_setReg_other _ _ _ _ (by simp), reg_setReg_other _ _ _ _ (by simp), reg_setReg_other _ _ _ _ (by simp),
      reg_setReg_other _ _ _ _ (by simp), reg_setReg_same]
  · show (State.setRegs _ _).reg _ = _
    simp only [State.setRegs, List.foldl_cons, List.foldl_nil]
    rw [reg_setReg_other _ _ _ _ (by simp), reg_setReg_other _ _ _ _ (by simp), reg_setReg_other _ _ _ _ (by simp), reg_setReg_same]
theorem leavePair_sticky : s.leavePair.reg Reg.dpllSticky = s.reg Reg.dpllSticky := by
  unfold State.leavePair
  split
  · rfl
  · exact (Reports.setRegs (l := [Reg.pairRole, Reg.pairAuth, Reg.pairState, Reg.weltState 0, Reg.weltState 1, Reg.graftPhase]) (by simp)).2 _ (by simp)
theorem leavePair_rst : s.leavePair.rst = s.rst := (congrArg (fun x : RstSt × Nat × NTable Byte × Bool => x.1) (Beside.leavePair s).view :)
/-- Both links down. -/
theorem weltDown_state (l : Nat) : (s.weltDown l).reg (Reg.weltState l) = 0 ∧ SameRegs s (s.weltDown l) ([Reg.weltState l, Reg.weltDownCount l] ++ roleRegs) := by
  unfold State.weltDown
  extract_lets up s1
  by_cases h0 : s.reg (Reg.weltState l) = 0
  · rw [if_pos h0]
    exact ⟨h0, .refl _ _⟩
  · rw [if_neg h0]
    have h1 : s1.reg (Reg.weltState l) = 0 := by
      refine (when_keeps (g := fun s => s.reg (Reg.weltState l)) (reg_bump_other _ _ _ (by simp))).trans (reg_setReg_same _ _ _)
    have h2 : SameRegs s s1 ([Reg.weltState l, Reg.weltDownCount l] ++ roleRegs) :=
      SameRegs.trans (.setReg (by simp) _) (Reports.when _ (Reports.bump (by simp))).2
    clear_value s1
    split
    · have hp : (s1.modPair fun x => { x with lostAt := some s.pair.cellAt, partner := none }).regs = s1.regs := rfl
      generalize (s1.modPair fun x => { x with lostAt := some s.pair.cellAt, partner := none }) = v at hp ⊢
      have hl := RoleChange.partnerLoss v
      exact ⟨(hl.regs _ (by simp)).trans ((reg_of_regs hp _).trans h1), (h2.trans (sameRegs_of_regs hp _)).trans (hl.sameRegs.mono (by simp))⟩
    · exact ⟨h1, h2⟩

/-- The link's loss, as its own command gives it. -/
theorem pcieDown_shows : s.pcieDown.host.mbox = false ∧ (∀ q, (s.pcieDown.ring q).isOpen = false) ∧ SameRegs s s.pcieDown [] := by
  obtain ⟨t, ht, h1, h2, -, h3, -⟩ := runs_pcieLinkLoss (s := s)
  obtain rfl : s.pcieDown = t := Host.Outcome.next.inj ht
  exact ⟨h1, h2, h3⟩
theorem lossAct_after (hs : LossStuck s) (k : Nat) : AfterLoss s (lossAct k s) := by
  have hask : ∀ (u : State) (a b : Nat), Beside s u → LossStuck u → AfterLoss s (u.ask a b) := fun u a b hb hu => hb.afterLoss hu
  have hleave : LossStuck s.leavePair := hs.of_reg leavePair_sticky
  unfold lossAct
  split
  · obtain ⟨h1, h2⟩ := hask _ 2 4 (Beside.leavePair s) hleave
    obtain ⟨-, -, hr, -⟩ := holdReset_holds ((s.leavePair).ask 2 0x04) 4
    exact ⟨fun r h => (hr r (by rintro hm; simp at hm; rcases hm with rfl | rfl <;> simp at h)).trans (h1 r h), h2.of_reg (hr _ (by simp))⟩
  · exact hask s 4 0x0B (.refl s) hs
  · obtain ⟨-, -, hr⟩ := pcieDown_shows (s := s)
    exact ⟨fun r _ => hr r (by simp), hs.of_reg (hr _ (by simp))⟩
  · obtain ⟨h1, h2⟩ := portsLoss_after 0 8 hs
    exact h1.afterLoss h2
  · obtain ⟨h1, h2⟩ := portsLoss_after 8 16 hs
    exact h1.afterLoss h2
  · exact Beside.afterLoss (Beside.setReg (by simp) _) (hs.of_reg (reg_setReg_other _ _ _ _ (by simp)))
  · have h0 := hs.of_reg ((weltDown_state 0).2 _ (by simp))
    exact Beside.afterLoss (Only.trans (Beside.weltDown s 0) (Beside.weltDown _ 1)) (h0.of_reg ((weltDown_state 1).2 _ (by simp)))
  · split
    · exact hask _ 2 5 (Beside.leavePair s) hleave
    · split
      · obtain ⟨h1, h2⟩ := toHoldover_frame hs
        exact h1.afterLoss h2
      · exact Beside.afterLoss (.refl s) hs

/-! Each domain's loss on its own register. -/

theorem lossAct_port {k : Nat} (n : Fin 24) (hk : k = if n.val < 8 then 8 else 9) : (lossAct k s).reg (Reg.netLink n) =
    if s.reg (Reg.netLink n) = 1 then 0 else s.reg (Reg.netLink n) := by
  by_cases hn : n.val < 8
  · rw [hk, if_pos hn]
    have h := portsLoss_link (s := s) (a := 0) (n := 8) hn (by omega)
    rwa [Nat.zero_add] at h
  · rw [hk, if_neg hn]
    have h := portsLoss_link (s := s) (a := 8) (n := 16) (j := n.val - 8) (by omega) (by omega)
    rwa [Nat.add_sub_cancel' (Nat.not_lt.mp hn)] at h
theorem lossAct_welt : (lossAct 11 s).reg (Reg.weltState 0) = 0 ∧ (lossAct 11 s).reg (Reg.weltState 1) = 0 := by
  refine ⟨?_, (weltDown_state 1).1⟩
  exact ((weltDown_state (s := s.weltDown 0) 1).2 _ (by simp [roleRegs])).trans (weltDown_state 0).1
theorem lossAct_one : (lossAct 1 s).rst.asks = s.rst.asks ++ [(2, 4)] ∧ 4 ∈ (lossAct 1 s).rst.held := by
  obtain ⟨hheld, hasks, -, -⟩ := holdReset_holds ((s.leavePair).ask 2 0x04) 4
  refine ⟨hasks.trans ?_, hheld⟩
  exact congrArg (fun r : RstSt => r.asks ++ [(2, 4)]) leavePair_rst
theorem lossAct_two {k : Nat} (h : k ∈ [2, 3, 5, 6, 12, 17, 18]) : (lossAct k s).rst.asks = s.rst.asks ++ [(2, 5)] := by
  rw [lossAct_chip h]
  exact congrArg (fun r : RstSt => r.asks ++ [(2, 5)]) leavePair_rst
theorem lossAct_pair {k : Nat} (h : k ∈ [1, 2, 3, 5, 6, 12, 17, 18]) (hp : s.paired = true) :
    (lossAct k s).reg Reg.pairAuth = 0 ∧ (lossAct k s).reg Reg.pairState = 4 := by
  obtain ⟨ha, hst⟩ := leavePair_paired hp
  rcases List.mem_cons.mp h with rfl | h
  · obtain ⟨-, -, hr, -⟩ := holdReset_holds ((s.leavePair).ask 2 0x04) 4
    exact ⟨(hr _ (by simp)).trans ha, (hr _ (by simp)).trans hst⟩
  · rw [lossAct_chip h]
    exact ⟨ha, hst⟩
theorem runs_clockLoss {d : Fin 26} (hd : d.val ≠ 0) (h0 : 0 ≤ s.reg Reg.dpllSticky) : Runs (.clockLoss d) s fun t => t.reg (Reg.clkState d) = 1 ∧
    t.reg (Reg.clkLossCount d) = (s.reg (Reg.clkLossCount d) + 1) % 4294967296 ∧ bit (t.reg Reg.dpllSticky) 10 = true ∧
    (d.val = 1 → t.rst.asks = s.rst.asks ++ [(2, 4)] ∧ 4 ∈ t.rst.held) ∧
    (d.val = 4 → t.rst.asks = s.rst.asks ++ [(4, 11)]) ∧
    (d.val ∈ [2, 3, 5, 6, 12, 17, 18] → t.rst.asks = s.rst.asks ++ [(2, 5)]) ∧
    (d.val = 7 → t.host.mbox = false ∧ ∀ q, (t.ring q).isOpen = false) ∧
    (∀ n : Fin 24, d.val = (if n.val < 8 then 8 else 9) → t.reg (Reg.netLink n) = (if s.reg (Reg.netLink n) = 1 then 0 else s.reg (Reg.netLink n))) ∧
    (d.val = 10 → t.reg Reg.t1sStatus = (s.nat Reg.t1sStatus / 4 * 4 : Nat)) ∧
    (d.val = 11 → t.reg (Reg.weltState 0) = 0 ∧ t.reg (Reg.weltState 1) = 0) ∧
    (d.val ∈ [1, 2, 3, 5, 6, 12, 17, 18] → s.paired = true → t.reg Reg.pairAuth = 0 ∧ t.reg Reg.pairState = 4) ∧ SameMem s t := by
  obtain ⟨hstate, hcount, hstuck, hrst, hsame⟩ := lossNoted_shows d h0
  refine runs_of_exec rfl (exec_clockLoss hd) fun hm => ?_
  generalize lossNoted s d = u at hstate hcount hstuck hrst hsame hm ⊢
  obtain ⟨hleft, hbit⟩ := lossAct_after hstuck d.val
  have hasks : u.rst.asks = s.rst.asks := congrArg RstSt.asks hrst
  refine ⟨(hleft _ rfl).trans hstate, (hleft _ rfl).trans hcount, hbit.2, fun h => ?one, fun h => ?four, fun h => hasks ▸ lossAct_two h, fun h => ?seven,
    fun n h => ?ports, fun h => ?ten, fun h => ?eleven, fun h hp => ?pair, hm⟩
  case one =>
    rw [h, ← hasks]
    exact lossAct_one
  case four =>
    rw [h, ← hasks]
    rfl
  case seven =>
    rw [h]
    exact ⟨pcieDown_shows.1, pcieDown_shows.2.1⟩
  case ports =>
    rw [lossAct_port n h, hsame _ (by simp; omega)]
  case ten =>
    rw [h]
    refine (reg_setReg_same _ _ _).trans ?_
    unfold State.nat
    rw [hsame _ (by simp)]
  case eleven =>
    rw [h]
    exact lossAct_welt
  case pair =>
    refine lossAct_pair h ?_
    unfold State.paired at hp ⊢
    rwa [hsame _ (by simp)]

end

end Sys2Proof.Machine
end
section
/-!
PROOFS. The entry of a reset (18, R487, R488, Table 18.2).
-/
namespace Sys2Proof.Machine

/-! What a reset clears and counts. -/

theorem Table.get_filter {κ α : Type} [DecidableEq κ] (d : κ → α) (t : Table κ α) (g : κ → Bool) (k : κ) :
    Table.get d (t.filter fun e => g e.1) k = if g k = true then Table.get d t k else d k := by
  induction t with
  | nil => simp [Table.get]
  | cons e t ih =>
    unfold Table.get at ih ⊢
    by_cases hk : e.1 = k
    · subst hk
      by_cases hg : g e.1 = true
      · simp [hg]
      · rw [if_neg hg] at ih ⊢
        rwa [List.filter_cons_of_neg (p := fun e : κ × α => g e.1) hg]
    · rw [List.find?_cons_of_neg (by simpa using hk)]
      by_cases hg : g e.1 = true
      · rw [List.filter_cons_of_pos (p := fun e : κ × α => g e.1) hg, List.find?_cons_of_neg (by simpa using hk)]
        exact ih
      · rw [List.filter_cons_of_neg (p := fun e : κ × α => g e.1) hg]
        exact ih

section
variable {s : State}

theorem reg_clearRegs (s : State) (f : Reg → Bool) (r : Reg) : (s.clearRegs f).reg r = if f r = true then regDefault r else s.reg r := by
  refine (Table.get_filter regDefault s.regs (fun r => !f r) r).trans ?_
  cases f r
  · rfl
  · rfl
theorem Beside.clearRegs {f : Reg → Bool} (hf : ∀ r, f r = true → besideReset r) : Beside s (s.clearRegs f) := by
  refine ⟨rfl, fun r hr => ?_⟩
  rw [reg_clearRegs, if_neg fun h => hr (hf r h)]
/-- The asks are taken, and a reset of a kind counted. -/
def entryCounted (s : State) (k : Nat) : State :=
  (s.modRst fun r => { r with asks := [] }).when (decide (2 ≤ k)) fun s => s.bump (rstCounter (k - 2))
/-- The phase that a reset which is absorbed goes back to. -/
def phaseBack (k ph : Nat) : Nat := if k = 1 then 0 else if k = 2 then min ph 1 else if ph = 2 then 1 else ph
theorem resetEnter_chip {k src : Nat} (h : s.rst.asks = [(k, src)]) (hk : k ≠ 5) : exec .resetEnter s = .next
    (if s.rst.kind = 0 ∨ k < s.rst.kind then (entryCounted s k).enterReset k src else (entryCounted s k).modRst fun r => { r with phase := phaseBack k s.rst.phase }) := by
  have hp : (s.rst.asks.filter fun e => e.1 == 5) = [] := by simp [h, hk]
  have hc : (s.rst.asks.filter fun e => e.1 != 5) = [(k, src)] := by simp [h, hk]
  show execResetEnter s = _
  unfold execResetEnter
  rewrite [hp, hc]
  rfl
theorem resetEnter_begins {k src : Nat} (h : s.rst.asks = [(k, src)]) (hk : k ≠ 5) (hb : s.rst.kind = 0 ∨ k < s.rst.kind) :
    exec .resetEnter s = .next ((entryCounted s k).enterReset k src) := (resetEnter_chip h hk).trans (by rw [if_pos hb])
theorem entryCounted_rst (k : Nat) : (entryCounted s k).rst = { s.rst with asks := [] } := when_keeps (g := State.rst) rfl
theorem entryCounted_tick (k : Nat) : (entryCounted s k).tick = s.tick := when_keeps (g := State.tick) rfl
theorem entryCounted_mem (k : Nat) : (entryCounted s k).mem = s.mem := when_keeps (g := State.mem) rfl
theorem runs_resetAbsorbed {k src : Nat} (h : s.rst.asks = [(k, src)]) (hk : k ≠ 5) (h0 : s.rst.kind ≠ 0) (hle : s.rst.kind ≤ k) :
    Runs .resetEnter s fun t => t.rst.phase = phaseBack k s.rst.phase ∧ t.rst.kind = s.rst.kind ∧ t.rst.source = s.rst.source ∧
      t.rst.asks = [] ∧ t.tick = s.tick ∧ SameMem s t := by
  have hn : ¬(s.rst.kind = 0 ∨ k < s.rst.kind) := by omega
  refine ⟨_, (resetEnter_chip h hk).trans (congrArg Host.Outcome.next (if_neg hn)), rfl, ?_, ?_, ?_, entryCounted_tick k, byte_of_mem (entryCounted_mem k)⟩
  · exact (congrArg RstSt.kind (entryCounted_rst (s := s) k) :)
  · exact (congrArg RstSt.source (entryCounted_rst (s := s) k) :)
  · exact (congrArg RstSt.asks (entryCounted_rst (s := s) k) :)

/-! Power-on and cold. -/

theorem SameRegs.when {l : List Reg} {b : Bool} {f : State → State} (h : SameRegs s (f s) l) : SameRegs s (s.when b f) l := by
  cases b
  · exact .refl _ _
  · exact h

/-- Registers that the chip's state of reset writes over what it keeps. -/
def coldRegs : List Reg := [Reg.pairState, Reg.pairRole, Reg.pairAuth, Reg.fwActive, Reg.pwrInputs, Reg.tjMax, Reg.faultCode, Reg.faultCount]
theorem coldReset_reg (s : State) (kind src : Nat) {r : Reg} (hr : r ∉ coldRegs) : (s.coldReset kind src).reg r =
    if (keptCold r && !(kind == 1 && clearedAtPowerOn r)) = true then s.reg r else regDefault r := by
  unfold State.coldReset
  extract_lets power z held rst addr lg log s1 paired s2 s3
  have h1 : s1.reg r = if (keptCold r && !(kind == 1 && clearedAtPowerOn r)) = true then s.reg r else regDefault r :=
    Table.get_filter regDefault s.regs held r
  have h2 : SameRegs s1 s2 coldRegs := (Reports.setRegs (by simp [coldRegs])).2
  have h3 : SameRegs s2 s3 coldRegs := by
    have hw : SameRegs s2 ((s2.setReg Reg.pwrInputs (s2.nat Reg.pwrInputs % 4 : Nat)).setReg Reg.tjMax (s2.reg Reg.tjNow)) coldRegs :=
      SameRegs.trans (.setReg (by simp [coldRegs]) _) (.setReg (by simp [coldRegs]) _)
    exact SameRegs.when hw
  have h4 : SameRegs s3 s3.refreshFaults coldRegs := (Reports.refreshFaults (by simp [coldRegs]) (by simp [coldRegs])).2
  exact ((h2.trans (h3.trans h4)) r hr).trans h1
theorem coldReset_kept (s : State) (kind src : Nat) {r : Reg} (hr : r ∉ coldRegs) (hk : keptCold r = true) (hp : kind ≠ 1 ∨ clearedAtPowerOn r = false) :
    (s.coldReset kind src).reg r = s.reg r := by
  rw [coldReset_reg s kind src hr, if_pos]
  rcases hp with hp | hp
  · simp [hk, hp]
  · simp [hk, hp]
theorem coldReset_cleared (s : State) (src : Nat) {r : Reg} (hr : r ∉ coldRegs) (hp : clearedAtPowerOn r = true) :
    (s.coldReset 1 src).reg r = regDefault r := by
  rw [coldReset_reg s 1 src hr, if_neg]
  simp [hp]
theorem byte_of_empty {t : State} (h : t.mem = []) (a : Nat) : t.byte a = 0 := by
  unfold State.byte
  rw [h]
  rfl
/-- What a cold or power-on reset leaves beside the registers. -/
theorem coldReset_state (s : State) {kind : Nat} (src : Nat) (hk : kind = 1 ∨ kind = 2) : (s.coldReset kind src).rst.kind = kind ∧
    (s.coldReset kind src).rst.source = src ∧ (s.coldReset kind src).rst.phase = kind - 1 ∧ (s.coldReset kind src).rst.asks = [] ∧
    (s.coldReset kind src).tick = 0 ∧ (s.coldReset kind src).cores = [] ∧ (s.coldReset kind src).plots = [] ∧
    (s.coldReset kind src).sessions = [] ∧ (s.coldReset kind src).mem = [] := by
  rcases hk with rfl | rfl
  · exact ⟨rfl, rfl, rfl, rfl, rfl, rfl, rfl, rfl, rfl⟩
  · exact ⟨rfl, rfl, rfl, rfl, rfl, rfl, rfl, rfl, rfl⟩

/-- The cause of a reset as its entry notes it. -/
def caused (s : State) (kind src : Nat) : State :=
  (s.setReg Reg.rstCause (kind * 256 + src : Nat)).when (kind != 1) fun s => s.logKeep 0x0101 (if kind = 2 then 3 else 2) (kind * 256 + src) 0
theorem caused_view (kind src : Nat) : (caused s kind src).rested = s.rested :=
  when_keeps (s := s.setReg Reg.rstCause _) (g := State.rested) rfl
theorem caused_cause (kind src : Nat) : (caused s kind src).reg Reg.rstCause = (kind * 256 + src : Nat) :=
  (when_keeps (s := s.setReg Reg.rstCause _) (g := fun s => s.reg Reg.rstCause) rfl).trans (reg_setReg_same _ _ _)
theorem caused_regs (kind src : Nat) : SameRegs s (caused s kind src) [Reg.rstCause] :=
  SameRegs.trans (t := s.setReg Reg.rstCause _) (.setReg (by simp) _) (SameRegs.when (sameRegs_of_regs rfl _))
theorem enterReset_cold {kind src : Nat} (h : kind = 1 ∨ kind = 2) : s.enterReset kind src = (caused s kind src).coldReset kind src :=
  if_pos (show kind ≤ 2 by omega)
theorem runs_coldReset {src : Nat} (h : s.rst.asks = [(2, src)]) (hb : s.rst.kind = 0 ∨ 2 < s.rst.kind) : Runs .resetEnter s fun t =>
    t.rst.kind = 2 ∧ t.rst.source = src ∧ t.rst.phase = 1 ∧ t.rst.asks = [] ∧ t.reg Reg.rstCause = (2 * 256 + src : Nat) ∧
    t.reg (rstCounter 0) = (s.reg (rstCounter 0) + 1) % 4294967296 ∧ t.reg Reg.braceState = s.reg Reg.braceState ∧
    t.tick = 0 ∧ t.cores = [] ∧ t.plots = [] ∧ t.sessions = [] ∧ t.pending = s.pending ∧ ∀ a, t.byte a = 0 := by
  have hex := resetEnter_begins h (by decide) hb
  rw [enterReset_cold (.inr rfl)] at hex
  have hpend := exec_pending hex
  obtain ⟨h1, h2, h3, h4, h5, h6, h7, h8, h9⟩ := coldReset_state (caused (entryCounted s 2) 2 src) src (.inr rfl)
  have hkept : ∀ r, r ∉ coldRegs → keptCold r = true → ((caused (entryCounted s 2) 2 src).coldReset 2 src).reg r = (caused (entryCounted s 2) 2 src).reg r :=
    fun r hr hk => coldReset_kept _ 2 src hr hk (.inl (by decide))
  have hcount : (entryCounted s 2).reg (rstCounter 0) = bump32 (s.reg (rstCounter 0)) := reg_bump_same (s.modRst _) _
  have hbrace : (entryCounted s 2).reg Reg.braceState = s.reg Reg.braceState := reg_bump_other (s.modRst _) _ _ (by decide)
  refine ⟨_, hex, h1, h2, h3, h4, ?_, ?_, ?_, h5, h6, h7, h8, hpend, byte_of_empty h9⟩
  · rw [hkept _ (by decide) (by decide), caused_cause]
  · rw [hkept _ (by decide) (by decide), caused_regs _ _ _ (by decide), hcount]
    rfl
  · rw [hkept _ (by decide) (by decide), caused_regs _ _ _ (by decide), hbrace]
theorem runs_powerOn {src : Nat} (h : s.rst.asks = [(1, src)]) (hk : s.rst.kind ≠ 1) : Runs .resetEnter s fun t =>
    t.rst.kind = 1 ∧ t.rst.source = src ∧ t.rst.phase = 0 ∧ t.rst.asks = [] ∧ t.reg Reg.rstCause = (256 + src : Nat) ∧
    t.reg Reg.braceState = 0 ∧ t.reg (rstCounter 0) = 0 ∧ t.tick = 0 ∧ t.cores = [] ∧ t.plots = [] ∧ t.sessions = [] ∧
    t.pending = s.pending ∧ ∀ a, t.byte a = 0 := by
  have hex := resetEnter_begins h (by decide) (by omega)
  rw [enterReset_cold (.inl rfl)] at hex
  have hpend := exec_pending hex
  obtain ⟨h1, h2, h3, h4, h5, h6, h7, h8, h9⟩ := coldReset_state (caused (entryCounted s 1) 1 src) src (.inl rfl)
  have hcause : ((caused (entryCounted s 1) 1 src).coldReset 1 src).reg Reg.rstCause = (1 * 256 + src : Nat) := by
    rw [coldReset_kept _ 1 src (by decide) (by decide) (.inr (by decide)), caused_cause]
  rw [Nat.one_mul] at hcause
  exact ⟨_, hex, h1, h2, h3, h4, hcause, coldReset_cleared _ src (by decide) (by decide), coldReset_cleared _ src (by decide) (by decide),
    h5, h6, h7, h8, hpend, byte_of_empty h9⟩

/-! Gardener. -/

/-- What a gardener reset does with an image on its way. -/
def gardenerDrop (s : State) (p : Nat) : State :=
  s.when (s.reg (Reg.lastState p) == 1 || s.reg (Reg.lastState p) == 2) fun s => (s.dropImage p 0x23).assignWaiting p
/-- The desk once every session has closed. -/
def emptyDesk (s : State) : State := { s with sessions := [], gard := {}, host := { s.host with bound := none } }
theorem gardenerReset_eq : s.gardenerReset = ((emptyDesk (overN 16 gardenerDrop s)).restartPtp).graftEnd 0x16 := by
  unfold State.gardenerReset
  extract_lets s1
  have h : s1 = overN 16 gardenerDrop s := rfl
  clear_value s1
  rw [← h]
  rfl
theorem Beside.gardenerDrop (s : State) (p : Nat) : Beside s (gardenerDrop s p) := by
  have h : Beside s ((s.dropImage p 0x23).assignWaiting p) := (Beside.dropImage s p 0x23).trans (Beside.assignWaiting _ p)
  exact Only.when _ h
/-- Reset state, tick and memory without the desk. -/
@[reducible] def State.undesked (s : State) : RstSt × Nat × NTable Byte := (s.rst, s.tick, s.mem)
theorem Beside.undesk {t : State} (h : Beside s t) : Only State.undesked besideReset s t :=
  ⟨congrArg (fun x : RstSt × Nat × NTable Byte × Bool => (x.1, x.2.1, x.2.2.1)) h.view, h.regs⟩
theorem Beside.sessions {t : State} (h : Beside s t) (h0 : s.sessions = []) : t.sessions = [] := by
  have he : t.sessions.isEmpty = s.sessions.isEmpty := congrArg (fun x : RstSt × Nat × NTable Byte × Bool => x.2.2.2) h.view
  rw [h0] at he
  exact List.isEmpty_iff.mp he
theorem gardenerReset_shows (s : State) : Only State.undesked besideReset s s.gardenerReset ∧ s.gardenerReset.sessions = [] := by
  rw [gardenerReset_eq]
  have h1 : Beside s (overN 16 Machine.gardenerDrop s) := .of_overN 16 (fun s p _ => Beside.gardenerDrop s p) s
  generalize overN 16 Machine.gardenerDrop s = u at h1
  have h2 : Beside (emptyDesk u) (((emptyDesk u).restartPtp).graftEnd 0x16) := (Beside.restartPtp (emptyDesk u)).trans (Beside.graftEnd _ _)
  have h3 : Only State.undesked besideReset u (emptyDesk u) := .of_regs rfl rfl
  exact ⟨(Beside.undesk h1).trans (h3.trans (Beside.undesk h2)), Beside.sessions h2 rfl⟩
/-- The slot that boots changes no more of the reset's state than what boots. -/
theorem bootOther_shows (s : State) (cause : Nat) (fell : Bool) : (s.bootOther cause fell).rst = { s.rst with other := false, fellBack := false, stagedFw := none } ∧
    (s.bootOther cause fell).tick = s.tick ∧ (s.bootOther cause fell).mem = s.mem ∧ (s.bootOther cause fell).sessions = s.sessions ∧
    SameRegs s (s.bootOther cause fell) [Reg.fwActive, Reg.fwState] := by
  unfold State.bootOther
  extract_lets k s1
  have h1 : SameRegs s s1 [Reg.fwActive, Reg.fwState] := SameRegs.trans (t := s.setReg Reg.fwActive k) (.setReg (by simp) _) (sameRegs_of_regs rfl _)
  have h2 : ∀ v : Int, SameRegs s1 (s1.setReg Reg.fwState v) [Reg.fwActive, Reg.fwState] := fun v => .setReg (by simp) v
  cases fell
  · exact ⟨rfl, rfl, rfl, rfl, h1.trans (h2 0)⟩
  · exact ⟨rfl, rfl, rfl, rfl, h1.trans (SameRegs.trans (h2 4) (sameRegs_of_regs rfl _))⟩
/-- The slot that boots, where the other one is to. -/
def bootWhen (b : Bool) (s : State) : State := s.when b fun s => s.bootOther 1 s.rst.fellBack
theorem bootWhen_shows (s : State) (b : Bool) : (bootWhen b s).rst.asks = s.rst.asks ∧ (bootWhen b s).tick = s.tick ∧ (bootWhen b s).mem = s.mem ∧
    (bootWhen b s).sessions = s.sessions ∧ SameRegs s (bootWhen b s) [Reg.fwActive, Reg.fwState] := by
  cases b
  · exact ⟨rfl, rfl, rfl, rfl, .refl _ _⟩
  · obtain ⟨b1, b2, b3, b4, b5⟩ := bootOther_shows s 1 s.rst.fellBack
    exact ⟨(congrArg RstSt.asks b1 :), b2, b3, b4, b5⟩
theorem enterReset_gardener (u : State) {k : Nat} (src : Nat) (hk : 3 < k) : u.enterReset k src =
    ((bootWhen u.rst.other (caused u k src).gardenerReset).modRst fun r => { r with kind := 4, source := src, phase := 1 }) := by
  have h2 : ¬k ≤ 2 := by omega
  have h3 : ¬k = 3 := by omega
  unfold State.enterReset
  extract_lets s1 s2 s3
  rw [if_neg h2, if_neg h3]
  have h : s2 = caused u k src := rfl
  clear_value s2
  subst h
  rfl
theorem runs_gardenerReset {src : Nat} (h : s.rst.asks = [(4, src)]) (hk : s.rst.kind = 0) : Runs .resetEnter s fun t =>
    t.rst.kind = 4 ∧ t.rst.source = src ∧ t.rst.phase = 1 ∧ t.rst.asks = [] ∧ t.reg Reg.rstCause = (4 * 256 + src : Nat) ∧
    t.tick = s.tick ∧ t.sessions = [] ∧ t.pending = s.pending ∧ SameMem s t := by
  have hex := resetEnter_begins h (by decide) (.inl hk)
  have hpend := exec_pending hex
  rw [enterReset_gardener _ src (by decide)] at hex hpend
  have hview := caused_view (s := entryCounted s 4) 4 src
  have hcause := caused_cause (s := entryCounted s 4) 4 src
  obtain ⟨hg, hse⟩ := gardenerReset_shows (caused (entryCounted s 4) 4 src)
  have ha := entryCounted_rst (s := s) 4
  have ht := entryCounted_tick (s := s) 4
  have hm := entryCounted_mem (s := s) 4
  generalize entryCounted s 4 = u at *
  generalize caused u 4 src = v at *
  generalize v.gardenerReset = w at *
  have hrst : w.rst = { s.rst with asks := [] } := (congrArg Prod.fst hg.view : w.rst = v.rst).trans ((congrArg Prod.fst hview : v.rst = u.rst).trans ha)
  have htick : w.tick = s.tick := (congrArg (fun x : RstSt × Nat × NTable Byte => x.2.1) hg.view :
    w.tick = v.tick).trans ((congrArg (fun x : RstSt × Nat × NTable Byte × Bool => x.2.1) hview : v.tick = u.tick).trans ht)
  have hmem : w.mem = s.mem := (congrArg (fun x : RstSt × Nat × NTable Byte => x.2.2) hg.view :
    w.mem = v.mem).trans ((congrArg (fun x : RstSt × Nat × NTable Byte × Bool => x.2.2.1) hview : v.mem = u.mem).trans hm)
  have hreg : w.reg Reg.rstCause = (4 * 256 + src : Nat) := (hg.regs _ (by simp)).trans hcause
  obtain ⟨b1, b2, b3, b4, b5⟩ := bootWhen_shows w u.rst.other
  exact ⟨_, hex, rfl, rfl, rfl, b1.trans (congrArg RstSt.asks hrst :), (b5 _ (by simp)).trans hreg, b2.trans htick, b4.trans hse, hpend,
    byte_of_mem (b3.trans hmem)⟩

/-! Warm. -/


theorem byte_of_filter {t u : State} {g : Nat → Bool} (hm : t.mem = u.mem.filter fun e => g e.1) {a : Nat} (ha : g a = true) : t.byte a = u.byte a := by
  unfold State.byte
  rw [hm]
  refine (Table.get_filter _ u.mem g a).trans ?_
  rw [if_pos ha]
  rfl
theorem warmCounter_beside {r : Reg} (h : warmCounter r = true) : besideReset r := by
  unfold warmCounter at h
  simp only [Bool.or_eq_true, Bool.and_eq_true, beq_iff_eq, decide_eq_true_eq] at h
  rw [besideReset_iff]
  omega
theorem warmReset_shows (s : State) : ∃ u, Beside s u ∧ s.warmReset.rst.asks = u.rst.asks ∧ s.warmReset.tick = u.tick ∧ s.warmReset.regs = u.regs ∧
    (∀ a < 0x400000000, s.warmReset.byte a = u.byte a) ∧ s.warmReset.cores = [] ∧ s.warmReset.sessions = [] := by
  unfold State.warmReset
  extract_lets pendGroups pendSets lost taken live s1 s2 s3 s4 s5 s6 inPm groups xps brace gens mem
  have h1 : Beside s s1 := (Beside.graftEnd s 0x16).trans (.when _ (Beside.logEvent _ _ _ _ _ _))
  clear_value s1
  have h2 : Beside s1 s2 := .of_overN 16 (fun s p _ => Only.trans (.when _ (Beside.dropImage s p 0x23)) (Beside.modPlot _ p _)) s1
  clear_value s2
  have h3 : Beside s2 s3 := by
    refine .of_overL _ (fun s e _ => ?_) s2
    split
    · exact Beside.setRegs (by simp; omega)
    · exact Beside.setRegs (by simp; omega)
    · exact Beside.setReg (by simp; omega) _
    · exact Beside.setReg (by simp; omega) _
  clear_value s3
  have h4 : Beside s3 s4 := .of_overN 128 (fun s n _ => Beside.setReg (by simp; omega) _) s3
  clear_value s4
  have h5 : Beside s4 s5 := .of_overN 16 (fun s p _ => .when _ (Beside.setReg (by simp; omega) _)) s4
  clear_value s5
  have hd : Beside s5 (s5.dropNoted s.timed) := .of_regs rfl rfl
  have h6 : Beside s5 s6 := hd.trans (Beside.clearRegs fun r hr => warmCounter_beside hr)
  clear_value s6
  refine ⟨s6, h1.trans (h2.trans (h3.trans (h4.trans (h5.trans h6)))), rfl, rfl, rfl, fun a ha => ?_, rfl, rfl⟩
  refine byte_of_filter (g := fun a => decide (a < 0x400000000) || inPm a) rfl ?_
  rw [decide_eq_true ha, Bool.true_or]
theorem enterReset_warm (u : State) (src : Nat) : u.enterReset 3 src =
    (((caused u 3 src).warmReset).leavePair.modRst fun r => { r with kind := 3, source := src, phase := 1 }) := rfl
theorem leavePair_cores : s.leavePair.cores = s.cores := by
  unfold State.leavePair
  split
  · rfl
  · rfl
theorem runs_warmReset {src : Nat} (h : s.rst.asks = [(3, src)]) (hk : s.rst.kind = 0 ∨ s.rst.kind = 4) : Runs .resetEnter s fun t =>
    t.rst.kind = 3 ∧ t.rst.source = src ∧ t.rst.phase = 1 ∧ t.rst.asks = [] ∧ t.reg Reg.rstCause = (3 * 256 + src : Nat) ∧
    t.tick = s.tick ∧ t.cores = [] ∧ t.sessions = [] ∧ t.pending = s.pending ∧ ∀ a < 0x400000000, t.byte a = s.byte a := by
  have hex := resetEnter_begins h (by decide) (by omega)
  have hpend := exec_pending hex
  rw [enterReset_warm] at hex hpend
  have hview := caused_view (s := entryCounted s 3) 3 src
  have hcause := caused_cause (s := entryCounted s 3) 3 src
  obtain ⟨v, hv, w1, w2, w3, w4, w5, w6⟩ := warmReset_shows (caused (entryCounted s 3) 3 src)
  have ha := entryCounted_rst (s := s) 3
  have ht := entryCounted_tick (s := s) 3
  have hm := entryCounted_mem (s := s) 3
  generalize entryCounted s 3 = e at *
  generalize (caused e 3 src).warmReset = w at *
  generalize caused e 3 src = u at *
  have hall := hv.view.trans hview
  have hr : v.rst = e.rst := congrArg (fun x : RstSt × Nat × NTable Byte × Bool => x.1) hall
  have htk : v.tick = e.tick := congrArg (fun x : RstSt × Nat × NTable Byte × Bool => x.2.1) hall
  have hmem : v.mem = e.mem := congrArg (fun x : RstSt × Nat × NTable Byte × Bool => x.2.2.1) hall
  have hse : w.leavePair.sessions = [] := Beside.sessions (Beside.leavePair w) w6
  have hl := Beside.leavePair w
  have hlv : w.leavePair.rst = w.rst := leavePair_rst
  have hlt : w.leavePair.tick = w.tick := congrArg (fun x : RstSt × Nat × NTable Byte × Bool => x.2.1) hl.view
  have hlm : w.leavePair.mem = w.mem := congrArg (fun x : RstSt × Nat × NTable Byte × Bool => x.2.2.1) hl.view
  refine ⟨_, hex, rfl, rfl, rfl, ?asks, ?cause, hlt.trans (w2.trans (htk.trans ht)), leavePair_cores.trans w5, hse, hpend, fun a h => ?byte⟩
  case asks => exact (congrArg RstSt.asks hlv :).trans (w1.trans ((congrArg RstSt.asks (hr.trans ha) :)))
  case cause => exact (hl.regs _ (by simp)).trans ((reg_of_regs w3 _).trans ((hv.regs _ (by simp)).trans hcause))
  case byte => exact (byte_of_mem hlm a).trans ((w4 a h).trans ((byte_of_mem hmem a).trans (byte_of_mem hm a)))

/-! A port. -/

theorem exec_portReset {port : Nat} (h : s.rst.asks = [(5, port)]) : exec .resetEnter s = .next ((s.modRst fun r => { r with asks := [] }).portReset port) := by
  have hp : (s.rst.asks.filter fun e => e.1 == 5) = [(5, port)] := by simp [h]
  have hc : (s.rst.asks.filter fun e => e.1 != 5) = [] := by simp [h]
  show execResetEnter s = _
  unfold execResetEnter
  rewrite [hp, hc]
  rfl
/-- What the reset of a port leaves of the rest. -/
theorem portReset_shows {port : Nat} (hk : s.rst.kind = 0) (hb : bit (s.rst.ports : Int) port = false) :
    Beside ((s.bump (rstCounter 3)).modRst fun r => { r with ports := r.ports + 2 ^ port }) (s.portReset port) := by
  have hn : ¬(bit (s.rst.ports : Int) port = true ∨ (s.rst.kind ≠ 0 ∧ s.rst.kind ≠ 4)) := by
    rw [hb]
    simp [hk]
  unfold State.portReset
  extract_lets s1 s2 s3 s4
  rw [if_neg hn]
  show Beside s2 _
  clear_value s2
  refine .of_ite (fun hp => ?_) fun hp => .of_ite (fun _ => ?_) fun _ => ?_
  · have h3 : Beside s2 s3 := .when _ (Beside.linkDown s2 port)
    clear_value s3
    have h4 : Beside s3 s4 := Beside.clearRegs fun r hr => by
      simp only [Bool.and_eq_true, beq_iff_eq] at hr
      rw [besideReset_iff]
      omega
    have h5 : Beside s4 (s4.modPort port fun x => { x with mode := none, changing := false }) := .of_regs rfl rfl
    exact h3.trans (h4.trans (h5.trans (Beside.setReg (by simp; omega) _)))
  · refine Only.trans (t := s2.clearRegs fun r => r.idx == 0x3300 && (r.sub == 5 || r.sub == 6)) (Beside.clearRegs fun r hr => ?_) (Beside.setReg (by simp) _)
    simp only [Bool.and_eq_true, beq_iff_eq] at hr
    rw [besideReset_iff]
    omega
  · refine (Beside.weltDown s2 _).trans (Beside.clearRegs fun r hr => ?_)
    simp only [Bool.and_eq_true, beq_iff_eq] at hr
    rw [besideReset_iff]
    omega
theorem runs_portReset {port : Nat} (h : s.rst.asks = [(5, port)]) (hk : s.rst.kind = 0) (hb : bit (s.rst.ports : Int) port = false) :
    Runs .resetEnter s fun t => t.rst.ports = s.rst.ports + 2 ^ port ∧ t.rst.kind = 0 ∧ t.rst.asks = [] ∧
      t.reg (rstCounter 3) = (s.reg (rstCounter 3) + 1) % 4294967296 ∧ t.tick = s.tick ∧ SameMem s t := by
  have hs := portReset_shows (s := s.modRst fun r => { r with asks := [] }) hk hb
  have hcount : (s.bump (rstCounter 3)).reg (rstCounter 3) = bump32 (s.reg (rstCounter 3)) := reg_bump_same _ _
  refine ⟨_, exec_portReset h, ?_⟩
  generalize (s.modRst fun r => { r with asks := [] }).portReset port = t at hs
  have hr : t.rst = { s.rst with asks := [], ports := s.rst.ports + 2 ^ port } := (congrArg (fun x : RstSt × Nat × NTable Byte × Bool => x.1) hs.view :)
  rw [hr]
  exact ⟨rfl, hk, rfl, (hs.regs _ (by decide)).trans hcount, (congrArg (fun x : RstSt × Nat × NTable Byte × Bool => x.2.1) hs.view :),
    byte_of_mem (congrArg (fun x : RstSt × Nat × NTable Byte × Bool => x.2.2.1) hs.view :)⟩

end

/-- Settles O58: each source by what it asks, each entry by its kind: a cold one from the state of reset, the others from what stands beside the reset. -/
theorem resetSourcesAndEntry : Obligations.ResetSourcesAndEntry := by
  intro s
  refine ⟨⟨_, rfl, rfl, sameRegs_of_regs rfl _, fun _ => rfl⟩, runs_resetPin, fun hp hk => if_pos ⟨hp, hk⟩,
    fun tenths => ⟨runs_overtemp, runs_undertemp⟩, fun now => runs_watchdog, fun now h => if_pos h, fun i kind port => runs_resetCmd,
    fun k kind port => runs_cmdApply, fun d => ⟨runs_clockLoss, fun h => if_pos h⟩, fun src => runs_coldReset, fun src => runs_powerOn,
    fun src => runs_warmReset, fun src => runs_gardenerReset, fun port => runs_portReset, fun h => ?idle, fun kind src => runs_resetAbsorbed, runs_sourceClear⟩
  case idle =>
    show execResetEnter s = _
    unfold execResetEnter
    rewrite [h]
    show Host.Outcome.next (s.modRst fun r => { r with asks := [] }) = _
    rw [← h]
    rfl

end Sys2Proof.Machine
end
section
/-!
PROOFS. Bring-up, firmware slots, option block and flash writes that wait (18, R486 to R496).
-/
namespace Sys2Proof.Machine

section
variable {s : State}

/-! The stretch, and the phases of bring-up. -/

theorem exec_stretchPort (p : Fin 28) (h : bit (s.rst.ports : Int) p = true) : exec (.stretchEnd (some p)) s =
    .next (((s.modRst fun r => { r with ports := r.ports - 2 ^ p.val }).setReg Reg.rstLastTick s.tick).when (decide (p.val < 24)) fun s =>
      s.setReg (Reg.netLink p) 0) := by
  refine if_neg ?_
  rw [h]
  decide
theorem runs_stretchPort (p : Fin 28) (h : bit (s.rst.ports : Int) p = true) : Runs (.stretchEnd (some p)) s fun t =>
    t.rst.ports = s.rst.ports - 2 ^ p.val ∧ t.reg Reg.rstLastTick = s.tick ∧ (p.val < 24 → t.reg (Reg.netLink p) = 0) ∧
    SameRegs s t [Reg.rstLastTick, Reg.netLink p] ∧ SameMem s t := by
  refine runs_of_exec rfl (exec_stretchPort p h) fun hm => ?_
  have h1 : ((s.modRst fun r => { r with ports := r.ports - 2 ^ p.val }).setReg Reg.rstLastTick s.tick).reg Reg.rstLastTick = s.tick := reg_setReg_same _ _ _
  have h2 : SameRegs s ((s.modRst fun r => { r with ports := r.ports - 2 ^ p.val }).setReg Reg.rstLastTick s.tick) [Reg.rstLastTick, Reg.netLink p] :=
    SameRegs.setReg (s := s.modRst _) (by simp) _
  have h3 : ((s.modRst fun r => { r with ports := r.ports - 2 ^ p.val }).setReg Reg.rstLastTick s.tick).rst.ports = s.rst.ports - 2 ^ p.val := rfl
  generalize (s.modRst fun r => { r with ports := r.ports - 2 ^ p.val }).setReg Reg.rstLastTick s.tick = u at *
  by_cases hp : p.val < 24
  · rw [decide_eq_true hp] at hm ⊢
    exact ⟨h3, (reg_setReg_other _ _ _ _ (by simp; omega)).trans h1, fun _ => reg_setReg_same _ _ _, h2.trans (.setReg (by simp) _), hm⟩
  · rw [decide_eq_false hp] at hm ⊢
    exact ⟨h3, h1, fun h => absurd h hp, h2, hm⟩
theorem exec_phase (rep : BringUp) : exec (.bringupPhaseDone rep) s = match s.rst.phase with
    | 0 => if s.rst.held = [] then .next (s.modRst fun r => { r with phase := 1, supplyEnd := rep.now }) else .next s
    | 2 => if s.rst.asks = [] then .next (s.optionLoad rep) else .next s
    | 3 => .next (s.modRst fun r => { r with phase := 4 })
    | 4 => .next (s.memoryDone rep)
    | _ => .next s := rfl
theorem optionLoad_shows (rep : BringUp) : (s.optionLoad rep).rst.phase = 3 ∧ (s.optionLoad rep).rst.strapAddr = rep.addr ∧
    (s.optionLoad rep).reg Reg.tickFamily = (if rep.fam44 then 1 else 0) ∧ (s.optionLoad rep).reg Reg.pairMode = (if rep.pairEn then 1 else 0) ∧
    (s.optionLoad rep).reg Reg.pairState = (if rep.pairEn then 4 else 0) ∧ (s.optionLoad rep).reg Reg.addrMode = (if rep.addr.val = 0 then 0 else 1) ∧
    (s.optionLoad rep).rst.opt = (optSelect s.flashNow.opt0 s.flashNow.opt1).2.1 := by
  unfold State.optionLoad
  extract_lets i o s1 s2
  have hset : ∀ r, r ∉ [Reg.dramSize, Reg.faultCode, Reg.faultCount] → (s2.setReg Reg.dramSize s2.dramMib).refreshFaults.reg r = s2.reg r :=
    (SameRegs.trans (t := s2.setReg Reg.dramSize s2.dramMib) (.setReg (by simp) _) (Reports.refreshFaults (by simp) (by simp)).2)
  refine ⟨rfl, rfl, ?_, ?_, ?_, ?_, rfl⟩
  · rw [hset _ (by simp)]
    simp [s2, State.setRegs, reg_setReg]
  · rw [hset _ (by simp)]
    simp [s2, State.setRegs, reg_setReg]
  · rw [hset _ (by simp)]
    simp [s2, State.setRegs, reg_setReg]
  · rw [hset _ (by simp)]
    simp [s2, State.setRegs, reg_setReg]
theorem logRestore_rst (s : State) (rep : BringUp) : (s.logRestore rep).rst = s.rst := by
  unfold State.logRestore
  extract_lets
  exact (when_keeps (g := State.rst) rfl).trans (when_keeps (g := State.rst) rfl)
theorem memoryDone_shows (rep : BringUp) : (s.memoryDone rep).rst.phase = 5 ∧ (s.memoryDone rep).rst.bootAt = rep.now := by
  unfold State.memoryDone
  extract_lets blocks e scrub s1 s2
  split
  · exact ⟨rfl, rfl⟩
  · split
    · rw [logRestore_rst]
      exact ⟨rfl, rfl⟩
    · exact ⟨rfl, rfl⟩

/-! Firmware slots (R490). -/

theorem spareSlot_cases (s : State) : s.spareSlot = 0 ∨ s.spareSlot = 1 := by
  unfold State.spareSlot
  omega
theorem putSlot_same (r : RstSt) (k : Nat) (f : FwSlot) : (r.putSlot k f).slot k = f := by
  unfold RstSt.putSlot RstSt.slot
  split
  · rfl
  · rfl
theorem putSlot_other (r : RstSt) {k : Nat} (f : FwSlot) (h : k = 0 ∨ k = 1) : (r.putSlot k f).slot (1 - k) = r.slot (1 - k) := by
  rcases h with rfl | rfl
  · rfl
  · rfl
theorem fwWritten_shows (s : State) (ok : Bool) (build : Nat) : (s.fwWritten ok build).rst = s.rst.putSlot s.spareSlot { valid := ok, build := build } ∧
    (s.fwWritten ok build).reg Reg.fwState = (if ok then 2 else 0x10) ∧ SameRegs s (s.fwWritten ok build) [Reg.fwState] :=
  ⟨rfl, reg_setReg_same _ _ _, SameRegs.setReg (s := s.modRst _) (by simp) _⟩
theorem runs_fwStaged {len build : Nat} {ok : Bool} (hl : len ≤ 16777216) (h : s.reg Reg.flashHold = 0) : Runs (.fwStage len ok build) s fun t =>
    t.rst.slot s.spareSlot = { valid := ok, build := build } ∧ t.rst.slot (1 - s.spareSlot) = s.rst.slot (1 - s.spareSlot) ∧
    t.reg Reg.fwState = (if ok then 2 else 0x10) ∧ t.answer.status = 0 ∧ SameRegs s t [Reg.fwState] ∧ SameMem s t := by
  have hexec : exec (.fwStage len ok build) s = .next ((s.fwWritten ok build).reply 0) := (if_neg (Nat.not_lt.mpr hl)).trans (if_pos h)
  obtain ⟨h1, h2, h3⟩ := fwWritten_shows s ok build
  refine runs_of_exec rfl hexec fun hm => ⟨?_, ?_, h2, rfl, h3.trans (sameRegs_of_regs rfl _), hm⟩
  · exact (congrArg (fun r : RstSt => r.slot s.spareSlot) h1).trans (putSlot_same _ _ _)
  · exact (congrArg (fun r : RstSt => r.slot (1 - s.spareSlot)) h1).trans (putSlot_other _ _ (spareSlot_cases s))
theorem runs_fwWaits {len build : Nat} {ok : Bool} (hl : len ≤ 16777216) (h : s.reg Reg.flashHold ≠ 0) : Runs (.fwStage len ok build) s fun t =>
    t.rst.stagedFw = some (ok, build) ∧ t.rst.fw0 = s.rst.fw0 ∧ t.rst.fw1 = s.rst.fw1 ∧ t.reg Reg.fwState = 1 ∧
    t.reg Reg.flashPending = (s.reg Reg.flashPending + 1) % 4294967296 ∧ t.answer.status = 0 ∧
    SameRegs s t [Reg.fwState, Reg.flashPending] ∧ SameMem s t := by
  have hexec : exec (.fwStage len ok build) s = .next ((((s.modRst fun r => { r with stagedFw := some (ok, build) }).setReg Reg.fwState 1).flashed).reply 0) :=
    (if_neg (Nat.not_lt.mpr hl)).trans (if_neg h)
  have h1 : ((s.modRst fun r => { r with stagedFw := some (ok, build) }).setReg Reg.fwState 1).reg Reg.fwState = 1 := reg_setReg_same _ _ _
  have h2 : SameRegs s ((s.modRst fun r => { r with stagedFw := some (ok, build) }).setReg Reg.fwState 1) [Reg.fwState, Reg.flashPending] :=
    SameRegs.setReg (s := s.modRst _) (by simp) _
  have h3 : ((s.modRst fun r => { r with stagedFw := some (ok, build) }).setReg Reg.fwState 1).rst = { s.rst with stagedFw := some (ok, build) } := rfl
  have h4 : ((s.modRst fun r => { r with stagedFw := some (ok, build) }).setReg Reg.fwState 1).reg Reg.flashPending = s.reg Reg.flashPending :=
    reg_setReg_other (s.modRst _) _ _ _ (by simp)
  have h5 : ((s.modRst fun r => { r with stagedFw := some (ok, build) }).setReg Reg.fwState 1).reg Reg.flashHold ≠ 0 := by
    rw [reg_setReg_other _ _ _ _ (by simp)]
    exact h
  generalize (s.modRst fun r => { r with stagedFw := some (ok, build) }).setReg Reg.fwState 1 = u at *
  have hf : u.flashed = u.bump Reg.flashPending := by
    unfold State.flashed
    rw [bne_iff_ne.mpr h5]
    rfl
  rw [hf] at hexec
  refine runs_of_exec rfl hexec fun hm => ⟨?_, ?_, ?_, ?_, ?_, rfl, h2.trans ?_, hm⟩
  · exact congrArg RstSt.stagedFw h3
  · exact (congrArg RstSt.fw0 h3 :)
  · exact (congrArg RstSt.fw1 h3 :)
  · exact (reg_bump_other _ _ _ (by simp)).trans h1
  · exact (reg_bump_same u Reg.flashPending).trans (congrArg (fun x : Int => (x + 1) % 4294967296) h4)
  · exact SameRegs.trans (t := u.bump Reg.flashPending) (.setReg (by simp) _) (sameRegs_of_regs rfl _)
theorem runs_fwSwitch (h : (s.rst.slot s.spareSlot).valid = true) : Runs .fwSwitch s fun t => t.rst.cmds = s.rst.cmds ++ [(s.tick + 2, 5, 0)] ∧
    t.reg Reg.fwState = 3 ∧ t.answer.status = 0 ∧ SameRegs s t [Reg.fwState] ∧ SameMem s t :=
  ⟨_, if_pos h, rfl, reg_setReg_same (s.modRst _) Reg.fwState 3, rfl,
    SameRegs.trans (t := (s.modRst _).setReg Reg.fwState 3) (SameRegs.setReg (s := s.modRst _) (by simp) _) (sameRegs_of_regs rfl _), fun _ => rfl⟩
theorem runs_fwSwitch_refused (h : (s.rst.slot s.spareSlot).valid = false) : Runs .fwSwitch s fun t => t.rst = s.rst ∧ t.reg Reg.fwState = 0x11 ∧
    SameRegs s t [Reg.fwState] ∧ SameMem s t :=
  ⟨_, if_neg (by rw [h]; decide), rfl, reg_setReg_same s Reg.fwState 0x11, 
    SameRegs.trans (t := s.setReg Reg.fwState 0x11) (.setReg (by simp) _) (sameRegs_of_regs rfl _), fun _ => rfl⟩

/-! The option block (R493). -/

/-- The bytes of a number, read again. -/
theorem leAt_leBytes (n x : Nat) (l : List Byte) : leAt (leBytes n x ++ l) 0 n = x % 256 ^ n := by
  induction n generalizing x with
  | zero => simp [leAt, Nat.mod_one]
  | succ n ih =>
    have h := ih (x / 256)
    unfold leAt at h ⊢
    rw [List.drop_zero] at h ⊢
    show (BitVec.ofNat 8 x).toNat + 256 * List.foldr _ 0 (List.take n (leBytes n (x / 256) ++ l)) = _
    have hp : 256 ^ (n + 1) = 256 * 256 ^ n := Nat.pow_succ'
    rw [h, BitVec.toNat_ofNat, hp, Nat.mod_mul]
/-- The block that is written for a body, with the next SERIAL and its CRC. -/
def optBody (s : State) (b : List Byte) : List Byte := b.take 8 ++ leBytes 4 ((leAt s.rst.opt 8 4 + 1) % 4294967296) ++ slice b 12 0x30
def optSealed (s : State) (b : List Byte) : List Byte := optBody s b ++ leBytes 4 (crc32 (optBody s b))
theorem optBody_length {b : List Byte} (hb : b.length = 64) : (optBody s b).length = 60 := by
  unfold optBody slice
  rw [List.length_append, List.length_append, length_leBytes, List.length_take, List.length_take, List.length_drop, hb]
  rfl
theorem optSealed_reads {b : List Byte} (hb : b.length = 64) : (optSealed s b).length = 64 ∧ (optSealed s b).take 8 = b.take 8 ∧
    leAt (optSealed s b) 8 4 = (leAt s.rst.opt 8 4 + 1) % 4294967296 ∧ slice (optSealed s b) 12 48 = slice b 12 48 ∧
    (optSealed s b).drop 60 = leBytes 4 (crc32 ((optSealed s b).take 60)) := by
  have hbody := optBody_length (s := s) hb
  have h8 : (b.take 8).length = 8 := by rw [List.length_take, hb]; rfl
  have hse : (leBytes 4 ((leAt s.rst.opt 8 4 + 1) % 4294967296)).length = 4 := length_leBytes _ _
  have hsl : (slice b 12 0x30).length = 48 := by
    unfold slice
    rw [List.length_take, List.length_drop, hb]
    rfl
  have hcut : optSealed s b = b.take 8 ++ (leBytes 4 ((leAt s.rst.opt 8 4 + 1) % 4294967296) ++ (slice b 12 0x30 ++ leBytes 4 (crc32 (optBody s b)))) := by
    unfold optSealed
    conv_lhs => unfold optBody
    rw [List.append_assoc, List.append_assoc]
    rfl
  refine ⟨?_, ?_, ?_, ?_, ?_⟩
  · unfold optSealed
    rw [List.length_append, hbody, length_leBytes]
  · rw [hcut]
    exact List.take_left' h8
  · rw [hcut]
    have hd : ∀ l, leAt (b.take 8 ++ l) 8 4 = leAt l 0 4 := by
      intro l
      unfold leAt
      rw [List.drop_left' h8]
      rfl
    rw [hd, leAt_leBytes]
    omega
  · rw [hcut]
    have h12 : (b.take 8 ++ leBytes 4 ((leAt s.rst.opt 8 4 + 1) % 4294967296)).length = 12 := by rw [List.length_append, h8, hse]
    rw [← List.append_assoc]
    unfold slice at hsl ⊢
    rw [List.drop_left' h12]
    exact List.take_left' hsl
  · unfold optSealed
    rw [List.drop_left' hbody, List.take_left' hbody]
theorem exec_optBlock {b : List Byte} (hb : b.length = 64) : exec (.optBlock b) s = .next (((s.modRst fun r =>
    if r.optCopy = 0 then { r with opt1 := optSealed s b } else { r with opt0 := optSealed s b }).flashed).reply 0) := if_neg (not_not_intro hb)
theorem runs_optBlock {b : List Byte} (hb : b.length = 64) : Runs (.optBlock b) s fun t => ∃ x, (if s.rst.optCopy = 0 then t.rst.opt1 else t.rst.opt0) = x ∧
    (if s.rst.optCopy = 0 then t.rst.opt0 = s.rst.opt0 else t.rst.opt1 = s.rst.opt1) ∧ t.rst.opt = s.rst.opt ∧
    x.length = 64 ∧ x.take 8 = b.take 8 ∧ leAt x 8 4 = (leAt s.rst.opt 8 4 + 1) % 4294967296 ∧
    slice x 12 48 = slice b 12 48 ∧ x.drop 60 = leBytes 4 (crc32 (x.take 60)) ∧ t.answer.status = 0 ∧
    SameRegs s t [Reg.flashPending] ∧ SameMem s t := by
  obtain ⟨h1, h2, h3, h4, h5⟩ := optSealed_reads (s := s) hb
  have hex := exec_optBlock (s := s) hb
  have hu : (s.modRst fun r => if r.optCopy = 0 then { r with opt1 := optSealed s b } else { r with opt0 := optSealed s b }).rst =
      if s.rst.optCopy = 0 then { s.rst with opt1 := optSealed s b } else { s.rst with opt0 := optSealed s b } := rfl
  have hregs : SameRegs s (s.modRst fun r => if r.optCopy = 0 then { r with opt1 := optSealed s b } else { r with opt0 := optSealed s b }) [Reg.flashPending] :=
    sameRegs_of_regs rfl _
  generalize (s.modRst fun r => if r.optCopy = 0 then { r with opt1 := optSealed s b } else { r with opt0 := optSealed s b }) = u at hex hu hregs
  have hf := flashed_reports u
  have hrst : ((u.flashed).reply 0).rst = u.rst := hf.field (fun s => s.rst) (fun _ => rfl)
  refine runs_of_exec rfl hex fun hm => ?_
  have hsame : SameRegs s ((u.flashed).reply 0) [Reg.flashPending] := hregs.trans (SameRegs.trans (t := u.flashed) hf.2 (sameRegs_of_regs rfl _))
  have hst : ((u.flashed).reply 0).answer.status = 0 := rfl
  generalize (u.flashed).reply 0 = v at *
  rw [hrst, hu]
  refine ⟨optSealed s b, ?_, ?_, ?_, h1, h2, h3, h4, h5, hst, hsame, hm⟩
  · split
    · rfl
    · rfl
  · split
    · rfl
    · rfl
  · split
    · rfl
    · rfl

/-! Flash writes that wait (R495). -/

/-- What is left to release: no hold, or no end of it. -/
theorem flashHoldEnd_idle {now : Nat} (h : s.reg Reg.flashHold = 0 ∨ s.reg Reg.braceState ≠ 0 ∨ s.nat Reg.supFlags % 256 + s.nat Reg.supFlags / 65536 ≠ 0 ∨
    now < s.brace.lastCaution + 1000000 ∨ now < s.brace.normalAt + 1000000) : exec (.flashHoldEnd now) s = .next s := if_pos h
/-- Flash writes proceed. -/
def flashFreed (s : State) : State := (s.setRegs [(Reg.flashHold, 0), (Reg.flashPending, 0)]).modRst fun r => { r with
  saved := if r.kind = 1 ∨ r.kind = 2 then r.saved else none, stagedFw := none }
theorem flashHoldEnd_frees {now : Nat} (h : ¬(s.reg Reg.flashHold = 0 ∨ s.reg Reg.braceState ≠ 0 ∨ s.nat Reg.supFlags % 256 + s.nat Reg.supFlags / 65536 ≠ 0 ∨
    now < s.brace.lastCaution + 1000000 ∨ now < s.brace.normalAt + 1000000)) : exec (.flashHoldEnd now) s = match s.rst.stagedFw with
      | some (ok, build) => .next ((flashFreed s).fwWritten ok build)
      | none => .next (flashFreed s) := if_neg h
theorem flashFreed_shows (s : State) : (flashFreed s).reg Reg.flashHold = 0 ∧ (flashFreed s).reg Reg.flashPending = 0 ∧ (flashFreed s).rst.stagedFw = none ∧
    (flashFreed s).spareSlot = s.spareSlot ∧ SameRegs s (flashFreed s) [Reg.flashHold, Reg.flashPending] := by
  have hset : SameRegs s (flashFreed s) [Reg.flashHold, Reg.flashPending] :=
    SameRegs.trans (t := s.setRegs [(Reg.flashHold, 0), (Reg.flashPending, 0)]) (Reports.setRegs (by simp)).2 (sameRegs_of_regs rfl _)
  refine ⟨?_, reg_setReg_same (s.setReg Reg.flashHold 0) Reg.flashPending 0, rfl, ?_, hset⟩
  · exact (reg_setReg_other (s.setReg Reg.flashHold 0) Reg.flashPending Reg.flashHold 0 (by simp)).trans (reg_setReg_same s Reg.flashHold 0)
  · unfold State.spareSlot State.nat
    rw [hset _ (by simp)]
section
variable {now : Nat} (h0 : s.reg Reg.flashHold ≠ 0) (hb : s.reg Reg.braceState = 0) (hf : s.nat Reg.supFlags % 256 + s.nat Reg.supFlags / 65536 = 0)
  (hc : s.brace.lastCaution + 1000000 ≤ now) (hn : s.brace.normalAt + 1000000 ≤ now)
include h0 hb hf hc hn

theorem flashHoldEnd_due : exec (.flashHoldEnd now) s = match s.rst.stagedFw with
    | some (ok, build) => .next ((flashFreed s).fwWritten ok build)
    | none => .next (flashFreed s) := by
  refine flashHoldEnd_frees ?_
  rintro (h | h | h | h | h)
  · exact h0 h
  · exact h hb
  · exact h hf
  · omega
  · omega
theorem runs_flashFree (hs : s.rst.stagedFw = none) : Runs (.flashHoldEnd now) s fun t => t.reg Reg.flashHold = 0 ∧ t.reg Reg.flashPending = 0 ∧
    SameRegs s t [Reg.flashHold, Reg.flashPending] ∧ SameMem s t := by
  have hex := flashHoldEnd_due h0 hb hf hc hn
  rw [hs] at hex
  obtain ⟨h1, h2, -, -, h5⟩ := flashFreed_shows s
  exact runs_of_exec rfl hex fun hm => ⟨h1, h2, h5, hm⟩
theorem runs_flashWrites {ok : Bool} {build : Nat} (hs : s.rst.stagedFw = some (ok, build)) : Runs (.flashHoldEnd now) s fun t =>
    t.reg Reg.flashHold = 0 ∧ t.reg Reg.flashPending = 0 ∧ t.rst.stagedFw = none ∧
    t.rst.slot s.spareSlot = { valid := ok, build := build } ∧ t.reg Reg.fwState = (if ok then 2 else 0x10) ∧
    SameRegs s t [Reg.flashHold, Reg.flashPending, Reg.fwState] ∧ SameMem s t := by
  have hex := flashHoldEnd_due h0 hb hf hc hn
  rw [hs] at hex
  obtain ⟨h1, h2, h3, h4, h5⟩ := flashFreed_shows s
  obtain ⟨w1, w2, w3⟩ := fwWritten_shows (flashFreed s) ok build
  rw [h4] at w1
  have hst : ((flashFreed s).rst.putSlot s.spareSlot { valid := ok, build := build }).stagedFw = (flashFreed s).rst.stagedFw := by
    unfold RstSt.putSlot
    split
    · rfl
    · rfl
  refine runs_of_exec rfl hex fun hm => ⟨(w3 _ (by simp)).trans h1, (w3 _ (by simp)).trans h2, ?_, ?_, w2, (h5.mono (by simp)).trans (w3.mono (by simp)), hm⟩
  · exact (congrArg RstSt.stagedFw w1).trans (hst.trans h3)
  · exact (congrArg (fun r : RstSt => r.slot s.spareSlot) w1).trans (putSlot_same _ _ _)
end

/-! An image that is not ready (R490). -/

/-- Another slot is to boot: counted, and the slot that has failed noted. -/
def slotFailed (s : State) (now : Nat) : State := (s.bump (rstCounter 2)).modRst fun r => { r with
  failed := s.rst.failed ||| 2 ^ (min 1 (s.nat Reg.fwActive)), phase := if r.kind = 4 then 1 else 5, bootAt := now, bootTick := none }
theorem slotFailed_shows (s : State) (now : Nat) : (slotFailed s now).rst.bootAt = now ∧ (slotFailed s now).rst.phase = (if s.rst.kind = 4 then 1 else 5) ∧
    (slotFailed s now).rst.failed = s.rst.failed ||| 2 ^ (min 1 (s.nat Reg.fwActive)) ∧
    (slotFailed s now).reg (rstCounter 2) = (s.reg (rstCounter 2) + 1) % 4294967296 ∧ (slotFailed s now).spareSlot = s.spareSlot ∧
    SameRegs s (slotFailed s now) [rstCounter 2] := by
  have hset : SameRegs s (slotFailed s now) [rstCounter 2] := SameRegs.trans (t := s.bump (rstCounter 2)) (.setReg (by simp) _) (sameRegs_of_regs rfl _)
  refine ⟨rfl, rfl, rfl, reg_bump_same s (rstCounter 2), ?_, hset⟩
  unfold State.spareSlot State.nat
  rw [hset _ (by decide)]
theorem bootOther_slot (s : State) (cause : Nat) : (s.bootOther cause true).reg Reg.fwActive = s.spareSlot ∧ (s.bootOther cause true).reg Reg.fwState = 4 :=
  ⟨(reg_setReg_other ((s.setReg Reg.fwActive s.spareSlot).modRst _) Reg.fwState Reg.fwActive 4 (by simp)).trans (reg_setReg_same s _ _),
    reg_setReg_same ((s.setReg Reg.fwActive s.spareSlot).modRst _) Reg.fwState 4⟩

theorem fwTimeout_waits {now : Nat} (h : s.bootOver now = false) : exec (.fwReadyTimeout now) s = .next s :=
  if_pos (.inr (.inr (.inr (by rw [h]; rfl))))
section
variable {now : Nat} (hk : s.rst.kind ≠ 0) (hp : s.rst.phase = 5) (hn : s.rst.noFw = false) (h : s.bootOver now = true)
include hk hp hn h

theorem fwTimeout_due : ¬(s.rst.kind = 0 ∨ s.rst.phase ≠ 5 ∨ s.rst.noFw = true ∨ (!s.bootOver now) = true) := by
  rw [hn, h]
  simp [hk, hp]
theorem runs_fwFallback (hf : s.rst.failed ||| 2 ^ (min 1 (s.nat Reg.fwActive)) ≠ 3) : Runs (.fwReadyTimeout now) s fun t =>
    t.reg Reg.fwActive = s.spareSlot ∧ t.reg Reg.fwState = 4 ∧ t.rst.bootAt = now ∧ t.rst.phase = (if s.rst.kind = 4 then 1 else 5) ∧
    t.reg (rstCounter 2) = (s.reg (rstCounter 2) + 1) % 4294967296 ∧
    t.rst.failed = s.rst.failed ||| 2 ^ (min 1 (s.nat Reg.fwActive)) ∧ SameRegs s t [Reg.fwActive, Reg.fwState, rstCounter 2] ∧ SameMem s t := by
  have hex : exec (.fwReadyTimeout now) s = .next ((slotFailed s now).bootOther 0 true) := (if_neg (fwTimeout_due hk hp hn h)).trans (if_neg hf)
  obtain ⟨h1, h2, h3, h4, h5, h6⟩ := slotFailed_shows s now
  generalize slotFailed s now = u at *
  obtain ⟨b1, -, -, -, b5⟩ := bootOther_shows u 0 true
  obtain ⟨c1, c2⟩ := bootOther_slot u 0
  refine runs_of_exec rfl hex fun hm => ⟨c1.trans (congrArg Nat.cast h5), c2, ?_, ?_, (b5 _ (by decide)).trans h4, ?_, (h6.mono (by simp)).trans (b5.mono (by simp)), hm⟩
  · exact (congrArg RstSt.bootAt b1 :).trans h1
  · exact (congrArg RstSt.phase b1 :).trans h2
  · exact (congrArg RstSt.failed b1 :).trans h3
theorem runs_noFirmware (hf : s.rst.failed ||| 2 ^ (min 1 (s.nat Reg.fwActive)) = 3) : Runs (.fwReadyTimeout now) s fun t =>
    t.rst.noFw = true ∧ t.rst.kind = s.rst.kind ∧ SameRegs s t [Reg.faultCode, Reg.faultCount] ∧ SameMem s t := by
  have hex : exec (.fwReadyTimeout now) s = .next ((s.modRst fun r => { r with
      failed := s.rst.failed ||| 2 ^ (min 1 (s.nat Reg.fwActive)), noFw := true }).refreshFaults) := (if_neg (fwTimeout_due hk hp hn h)).trans (if_pos hf)
  exact ⟨_, hex, rfl, rfl, SameRegs.trans (t := s.modRst _) (sameRegs_of_regs rfl _) (refreshFaults_reports _).2, fun _ => rfl⟩
end

end
end Sys2Proof.Machine
end
section
/-!
PROOFS. The end of bring-up: what it restores leaves the reset that has ended (18, R489, R491).
-/
namespace Sys2Proof.Machine

/-- What stands at the end of a reset: its kind, phase, failed slots and end, and the tick. -/
@[reducible] def State.ready (s : State) : Nat × Nat × Nat × Nat × Nat := (s.rst.kind, s.rst.phase, s.rst.failed, s.rst.upAt, s.tick)
/-- A state that follows from another with the same end. -/
@[reducible] def Boots (s t : State) : Prop := Only State.ready (fun _ => True) s t

namespace Boots
section
variable {s t : State}

theorem of_eq (h : t.ready = s.ready) : Boots s t := ⟨h, fun _ hr => absurd trivial hr⟩
theorem setReg (r : Reg) (v : Int) : Boots s (s.setReg r v) := of_eq rfl
theorem setRegs (s : State) (l : List (Reg × Int)) : Boots s (s.setRegs l) := of_eq (setRegs_keeps (g := State.ready) (fun _ _ _ => rfl) _ _)

/-! A plot's reset (07, R207). -/

theorem dropImage (s : State) (p code : Nat) : Boots s (s.dropImage p code) := Only.trans (t := s.modPlot p _) (of_eq rfl) (setRegs _ _)
theorem streamCut (s : State) (rx : Bool) (t : Nat) : Boots s (s.streamCut rx t) := by
  unfold State.streamCut
  extract_lets st s1
  have h1 : Boots s s1 := by
    cases rx
    · exact of_eq rfl
    · exact of_eq rfl
  have h2 : Boots s1 (s1.streamHalt rx t) := by
    refine Only.trans (setRegs s1 [((streamRegs rx t).1, 3), ((streamRegs rx t).2, 0)]) ?_
    cases rx
    · exact of_eq rfl
    · exact of_eq rfl
  exact .of_ite (fun _ => h1.trans h2) fun _ => .of_ite (fun _ => h1.trans (of_eq rfl)) fun _ => h1
theorem pscSet (s : State) (n : Nat) (st : Int) : Boots s (s.pscSet n st) := by
  refine Only.trans (.of_overL (s.pscLegs n) (fun s m _ => setReg (Reg.pscState m) st) s) ?_
  exact of_eq rfl
theorem pscCut (s : State) (n : Nat) : Boots s (s.pscCut n) := by
  unfold State.pscCut
  extract_lets m st s1
  have h1 : Boots s s1 := of_eq rfl
  have h2 : Boots (s1.pscSet m 0) (overL (s.pscLegs m) (fun s k => s.setReg (Reg.pscFault k) 0) (s1.pscSet m 0)) :=
    .of_overL _ (fun s k _ => setReg (Reg.pscFault k) 0) _
  have h3 : Boots s1 (s1.pscStopCarrier m) := (pscSet s1 m 4).trans (of_eq rfl)
  exact .of_ite (fun _ => h1) fun _ => .of_ite (fun _ => h1.trans ((pscSet s1 m 0).trans (h2.trans (of_eq rfl)))) fun _ => h1.trans h3
theorem sapCut (s : State) (n : Nat) : Boots s (s.sapCut n) := by
  unfold State.sapCut
  exact .of_ite (fun _ => of_eq rfl) fun _ => of_eq rfl
theorem cutUnit (s : State) (h : Holding) : Boots s (s.cutUnit h) := by
  refine .of_overN h.count (fun s i _ => ?_) s
  split
  · exact streamCut s true _
  · exact streamCut s false _
  · exact sapCut s _
  · exact pscCut s _
  · exact .refl s
theorem enterScrub (s : State) (h : Holding) (returns : Bool) : Boots s (s.enterScrub h returns) := by
  rw [enterScrub_parts]
  refine .of_overL _ (fun s x _ => ?_) s
  unfold State.scrubPart
  extract_lets s1 e now rest cores
  have h1 : Boots s s1 := .of_ite (fun _ => cutUnit s x) fun _ => .refl s
  exact h1.trans (of_eq rfl)
theorem closeRings (s : State) (p : Nat) : Boots s (s.closeRings p) := of_eq (overL_keeps (g := State.ready) _ s fun _ _ _ => rfl)
theorem refreshScrub (s : State) (p : Nat) : Boots s (s.refreshScrub p) := setReg _ _
theorem resetPlot (s : State) (p : Nat) (keys : Bool) : Boots s (s.resetPlot p keys) := by
  unfold State.resetPlot
  extract_lets s0 gone goneOut mine s1 s2 freed s3 s4 s5 s6 s7
  have h0 : Boots s s0 := .when _ (dropImage s p 0x23)
  have h1 : Boots s0 s1 := .of_overL _ (fun s a _ => .when _ (of_eq rfl)) s0
  have h2 : Boots s1 s2 := of_eq rfl
  clear_value s2
  have h3 : Boots s2 s3 := .of_overL freed (fun s e _ => enterScrub s e.2 false) s2
  clear_value s3
  have h4 : Boots s3 s4 := .of_overL _ (fun s h _ => enterScrub s h true) s3
  clear_value s4
  have h6 : Boots s4 s6 := of_eq rfl
  clear_value s6
  have h7 : Boots s6 s7 := (closeRings s6 p).trans (of_eq rfl)
  clear_value s7
  have h8 := (setRegs s7 [(Reg.plotState p, 3), (Reg.plotResetTick p, s.tick), (Reg.plotFault p, 0)]).trans (refreshScrub _ p)
  exact h0.trans (h1.trans (h2.trans (h3.trans (h4.trans (h6.trans (h7.trans h8))))))
theorem resetPlots (l : List (Nat × Bool)) (s : State) : Boots s (overL l (fun s e => s.resetPlot e.1 e.2) s) :=
  .of_overL l (fun s e _ => resetPlot s e.1 e.2) s

/-! What is restored. -/

theorem restoreFlash (s : State) : Boots s s.restoreFlash := by
  unfold State.restoreFlash
  extract_lets i scrub busy mine free addr s1 s2 s3
  have h1 : Boots s s1 := of_eq rfl
  have h2 : Boots s1 s2 := .of_overL _ (fun s e _ => .when _ (setReg _ _)) s1
  have h3 : Boots s2 s3 := of_eq rfl
  clear_value s3
  refine h1.trans (h2.trans (h3.trans (.of_overN 16 (fun s p _ => ?_) s3)))
  exact of_eq rfl
theorem addrStart (s : State) : Boots s s.addrStart := by
  unfold State.addrStart
  extract_lets strap take
  have ht : ∀ a, Boots s (take s a) := fun a => (setRegs s [(Reg.idAddr, a), (Reg.addrState, 1)]).trans (of_eq rfl)
  exact .of_ite (fun _ => of_eq rfl) fun _ => .of_ite (fun _ => ht _) fun _ => .of_ite (fun _ => ht _) fun _ => of_eq rfl
theorem restartUnit (s : State) (e : Nat × Nat) : Boots s (s.restartUnit e) := by
  unfold State.restartUnit
  split
  · exact of_eq rfl
  · exact of_eq rfl
  · exact of_eq rfl
  · exact of_eq rfl
theorem restartUnits (s : State) (f : Nat × Nat → Bool) : Boots s (s.restartUnits f) := by
  have h1 : Boots s (s.modRst fun r => { r with units := r.units.filter fun e => !f e }) := of_eq rfl
  exact h1.trans (Only.trans (.of_overL (f := State.restartUnit) (s.rst.units.filter f) (fun s e _ => restartUnit s e) _) (of_eq rfl))
theorem warmRestore (s : State) : Boots s s.warmRestore := by
  unfold State.warmRestore
  extract_lets resets s1 s2
  have h1 : Boots s s1 := Only.trans (t := s.modRst _) (of_eq rfl) (resetPlots resets _)
  clear_value s1
  have h2 : Boots s1 s2 := by
    refine .of_overN 16 (fun s p _ => ?_) s1
    exact .of_ite (fun _ => .refl s) fun _ => of_eq rfl
  exact h1.trans (h2.trans (restartUnits s2 _))

end
end Boots

section
variable {s : State}

/-- Brace reaches the channels, no register. -/
theorem pscBrace_only (s : State) : Only State.ready (fun _ => False) s s.pscBrace := by
  refine .of_overN 64 (fun s n _ => ?_) s
  exact .of_ite (fun _ => .refl s) fun _ => .of_ite (fun _ => .of_regs rfl rfl) fun _ => .of_regs rfl rfl
theorem returnFrom_only (s : State) (now : Nat) : Only State.ready (fun _ => False) s (s.returnFrom now) := .of_regs rfl rfl
theorem braceResume_only (s : State) (now : Nat) : Only State.ready (· ∈ [Reg.braceState, Reg.pwrInputs]) s (s.braceResume now) := by
  unfold State.braceResume
  refine .of_ite (fun _ => .refl s) fun _ => ?_
  extract_lets s1 s2
  have h1 : Only State.ready (· ∈ [Reg.braceState, Reg.pwrInputs]) s s1 :=
    Only.trans (t := s.setReg Reg.braceState 2) (.setReg (by simp) _ rfl) (.setReg (by simp) _ rfl)
  have h2 : Only State.ready (fun _ => False) s1 s2 := Only.trans (t := s1.modBrace _) (.of_regs rfl rfl) (returnFrom_only _ now)
  exact h1.trans ((h2.trans (pscBrace_only s2)).mono fun _ h => h.elim)

/-! The end of bring-up, step by step. -/

/-- The count that bring-up starts. -/
def bootCount (s : State) : State := s.when (decide (s.rst.kind ≤ 2)) State.startCount
/-- The reset ends. -/
def bootEnd (s : State) (now : Nat) : State :=
  ((bootCount s).modRst fun r => { r with
    kind := 0, phase := 6, failed := 0, bootTick := none, upAt := if s.rst.kind ≤ 3 then (bootCount s).tick else r.upAt }).logEvent 0x0102 0 16 (s.nat Reg.rstCause)
    ((now - s.rst.supplyEnd) / 1000)
/-- What flash, address and plot resets restore after a cold one. -/
def coldRestore (s : State) : State :=
  overL s.restoreFlash.addrStart.refreshT1s.rst.plotResets (fun s e => s.resetPlot e.1 e.2)
    (s.restoreFlash.addrStart.refreshT1s.modRst fun r => { r with plotResets := [] })
/-- What is restored after a reset of a kind. -/
def bootRestore (k : Nat) (s : State) : State := (s.when (decide (k ≤ 2)) coldRestore).when (k == 3) State.warmRestore
/-- The tick of the reset's end, the pair's wait, and brace that was in progress. -/
def bootResume (k now : Nat) (paired : Bool) (s : State) : State :=
  ((s.when (decide (k ≥ 3)) fun s => s.setReg Reg.rstLastTick s.tick).when (decide (k ≤ 3) && paired) fun s => s.modPair fun x => { x with waitFrom := some s.tick }).when
    (k != 1) fun s => s.braceResume now
theorem exec_firmwareReady {now : Nat} (hk : s.rst.kind ≠ 0) (hp : s.rst.phase = 5) (hn : s.rst.noFw = false)
    (hv : (s.rst.slot (min 1 (s.nat Reg.fwActive))).valid = true) :
    exec (.firmwareReady now) s = .next (bootResume s.rst.kind now s.paired (bootRestore s.rst.kind (bootEnd s now))) := by
  have hneg : ¬(s.rst.kind = 0 ∨ s.rst.phase ≠ 5 ∨ s.rst.noFw = true ∨ (!(s.rst.slot (min 1 (s.nat Reg.fwActive))).valid) = true) := by
    rw [hn, hv]
    simp [hk, hp]
  exact if_neg hneg
theorem firmwareReady_invalid {now : Nat} (hv : (s.rst.slot (min 1 (s.nat Reg.fwActive))).valid = false) : exec (.firmwareReady now) s = .next s :=
  if_pos (.inr (.inr (.inr (by rw [hv]; rfl))))
theorem bootCount_tick (s : State) : (bootCount s).tick = if s.rst.kind ≤ 2 ∧ s.clk.told = false then 0 else s.tick := by
  unfold bootCount
  by_cases hk : s.rst.kind ≤ 2
  · rw [decide_eq_true hk]
    show s.startCount.tick = _
    unfold State.startCount
    cases ht : s.clk.told
    · simp [hk]
      rfl
    · simp
  · rw [decide_eq_false hk, if_neg fun h => hk h.1]
    rfl
theorem Boots.coldRestore (s : State) : Boots s (coldRestore s) := by
  have h1 : Boots s s.restoreFlash.addrStart.refreshT1s := (Boots.restoreFlash s).trans ((Boots.addrStart _).trans (Boots.setReg _ _))
  unfold Machine.coldRestore
  generalize s.restoreFlash.addrStart.refreshT1s = u at *
  have h2 : Boots u (u.modRst fun r => { r with plotResets := [] }) := Boots.of_eq rfl
  exact h1.trans (h2.trans (Boots.resetPlots _ _))
theorem Boots.restore (k : Nat) (s : State) : Boots s (bootRestore k s) :=
  Only.trans (.when _ (Boots.coldRestore s)) (.when _ (Boots.warmRestore _))
theorem Boots.resume (k now : Nat) (paired : Bool) (s : State) : Boots s (bootResume k now paired s) := by
  unfold bootResume
  have h1 : Boots s (s.when (decide (k ≥ 3)) fun s => s.setReg Reg.rstLastTick s.tick) := .when _ (Boots.setReg _ _)
  generalize (s.when (decide (k ≥ 3)) fun s => s.setReg Reg.rstLastTick s.tick) = u at *
  have h2 : Boots u (u.when (decide (k ≤ 3) && paired) fun s => s.modPair fun x => { x with waitFrom := some s.tick }) := .when _ (Boots.of_eq rfl)
  exact h1.trans (h2.trans (.when _ ((braceResume_only _ now).mono fun _ _ => trivial)))
/-- After a gardener reset nothing is restored. -/
theorem bootResume_tick (now : Nat) (paired : Bool) (u : State) : (bootResume 4 now paired (bootRestore 4 u)).reg Reg.rstLastTick = u.tick := by
  show ((u.setReg Reg.rstLastTick u.tick).braceResume now).reg Reg.rstLastTick = _
  rw [(braceResume_only _ now).regs _ (by simp), reg_setReg_same]
theorem runs_firmwareReady {now : Nat} (hk : s.rst.kind ≠ 0) (hp : s.rst.phase = 5) (hn : s.rst.noFw = false)
    (hv : (s.rst.slot (min 1 (s.nat Reg.fwActive))).valid = true) : Runs (.firmwareReady now) s fun t => t.rst.kind = 0 ∧
      t.rst.phase = 6 ∧ t.rst.failed = 0 ∧ (s.rst.kind ≤ 3 → t.rst.upAt = t.tick) ∧
      t.tick = (if s.rst.kind ≤ 2 ∧ s.clk.told = false then 0 else s.tick) ∧
      (s.rst.kind = 4 → t.reg Reg.rstLastTick = s.tick ∧ SameMem s t) := by
  have htick := bootCount_tick s
  have hend : (bootEnd s now).ready = (0, 6, 0, if s.rst.kind ≤ 3 then (bootCount s).tick else (bootCount s).rst.upAt, (bootCount s).tick) := rfl
  refine runs_of_exec rfl (exec_firmwareReady hk hp hn hv) fun hm => ?_
  have hb := (Boots.restore s.rst.kind (bootEnd s now)).trans (Boots.resume s.rst.kind now s.paired _)
  have hlast : s.rst.kind = 4 → (bootResume s.rst.kind now s.paired (bootRestore s.rst.kind (bootEnd s now))).reg Reg.rstLastTick = (bootEnd s now).tick := by
    intro h4
    rw [h4]
    exact bootResume_tick now _ _
  generalize bootResume s.rst.kind now s.paired (bootRestore s.rst.kind (bootEnd s now)) = t at *
  have hv := hb.view.trans hend
  have hbt : (bootEnd s now).tick = (bootCount s).tick := rfl
  have ht : t.tick = (bootCount s).tick := congrArg (fun x : Nat × Nat × Nat × Nat × Nat => x.2.2.2.2) hv
  have hup : t.rst.upAt = if s.rst.kind ≤ 3 then (bootCount s).tick else (bootCount s).rst.upAt := congrArg (fun x : Nat × Nat × Nat × Nat × Nat => x.2.2.2.1) hv
  refine ⟨congrArg (fun x : Nat × Nat × Nat × Nat × Nat => x.1) hv, congrArg (fun x : Nat × Nat × Nat × Nat × Nat => x.2.1) hv,
    congrArg (fun x : Nat × Nat × Nat × Nat × Nat => x.2.2.1) hv, fun h3 => ?_, ht.trans htick, fun h4 => ⟨?_, hm⟩⟩
  · rw [hup, if_pos h3, ht]
  · rw [hlast h4, hbt, htick, if_neg (by omega)]

end

/-- Settles O59: bring-up by its phases, the end by what it restores beside the reset's own state, slots, option block and waiting flash writes by what each writes. -/
theorem bringUpFirmwareAndFlash : Obligations.BringUpFirmwareAndFlash := by
  intro s
  refine ⟨fun h0 hp hh => ?stretch, fun h => if_pos h, fun p => ⟨runs_stretchPort p, fun h => ?clear⟩, fun rep => ⟨fun hp hh => ?supply, fun hp hh => ?held, fun hp hh => ?option,
    fun hp => ?clock, fun hp hh => ?asked, fun hp => ?other, fun hp => ?memory⟩, fun now h => ⟨if_pos ?none, if_pos ?nothing⟩, fun now hk hp hn => ⟨runs_firmwareReady hk hp hn,
    firmwareReady_invalid, fwTimeout_waits, runs_fwFallback hk hp hn, runs_noFirmware hk hp hn⟩, fun len ok build => ⟨fun h => if_pos h, runs_fwStaged, runs_fwWaits⟩,
    runs_fwSwitch, runs_fwSwitch_refused, fun b => ⟨runs_optBlock, fun h => if_pos h⟩, fun now h0 hb hf => ⟨fun hc hn => runs_flashFree h0 hb hf hc hn,
    fun ok build hc hn => runs_flashWrites h0 hb hf hc hn, fun h => flashHoldEnd_idle (.inr (.inr (.inr h)))⟩, fun now h => flashHoldEnd_idle ?keeps⟩
  case stretch =>
    have hn : ¬(s.rst.kind = 0 ∨ s.rst.phase ≠ 1 ∨ s.rst.held ≠ []) := by
      simp [h0, hp, hh]
    exact ⟨_, if_neg hn, rfl, rfl, sameRegs_of_regs rfl _, fun _ => rfl⟩
  case clear => exact if_pos (by rw [h]; rfl)
  case supply =>
    refine ⟨s.modRst fun r => { r with phase := 1, supplyEnd := rep.now }, (exec_phase rep).trans ?_, rfl, rfl, sameRegs_of_regs rfl _, fun _ => rfl⟩
    rw [hp]
    exact if_pos hh
  case held =>
    rw [exec_phase, hp]
    exact if_neg hh
  case option =>
    have hex : exec (.bringupPhaseDone rep) s = .next (s.optionLoad rep) := by
      rw [exec_phase, hp]
      exact if_pos hh
    obtain ⟨h1, h2, h3, h4, h5, h6, h7⟩ := optionLoad_shows (s := s) rep
    exact runs_of_exec rfl hex fun hm => ⟨h1, h2, h3, h4, h5, h6, h7, hm⟩
  case clock =>
    refine ⟨s.modRst fun r => { r with phase := 4 }, (exec_phase rep).trans ?_, rfl, sameRegs_of_regs rfl _, fun _ => rfl⟩
    rewrite [hp]
    rfl
  case asked =>
    rw [exec_phase, hp]
    exact if_neg hh
  case other =>
    rw [exec_phase]
    split
    · omega
    · omega
    · omega
    · omega
    · rfl
  case memory =>
    have hex : exec (.bringupPhaseDone rep) s = .next (s.memoryDone rep) := by
      rewrite [exec_phase, hp]
      rfl
    obtain ⟨h1, h2⟩ := memoryDone_shows (s := s) rep
    exact runs_of_exec rfl hex fun hm => ⟨h1, h2, hm⟩
  case none => exact h.imp_right fun h => h.imp_right .inl
  case nothing => exact h.imp_right fun h => h.imp_right .inl
  case keeps => exact h.imp_right fun h => h.imp_right .inl

end Sys2Proof.Machine
end
section
/-!
PROOFS. Supply and brace (18, R494 to R502).
-/
namespace Sys2Proof.Machine

section
variable {s : State}

/-! Bits. -/

theorem bit_clearBit (x : Int) (i : Nat) : bit (clearBit x i) i = false := by
  unfold clearBit
  split
  · rename_i h
    have h2 : (2 ^ i : Int) ≠ 0 := pow_ne_zero i (by decide)
    have hd : (x - 2 ^ i) / 2 ^ i = x / 2 ^ i - 1 := by
      rw [Int.sub_ediv_of_dvd _ (Int.dvd_refl _), Int.ediv_self h2]
    have hx : x / 2 ^ i % 2 = 1 := of_decide_eq_true h
    refine decide_eq_false ?_
    rw [hd]
    omega
  · rename_i h
    exact Bool.eq_false_iff.mpr h
theorem bit_orReg (s : State) (r : Reg) (b : Nat) : bit ((s.orReg r (2 ^ b)).reg r) b = true := by
  rw [State.orReg, reg_setReg_same]
  exact bit_or_two_pow _ b

/-! Supply: cautions (R494, R495). -/

/-- SUP_STATE of a word of flags. -/
def supplyState (f : Nat) : Nat := if f / 256 % 256 ≠ 0 then 2 else if f ≠ 0 then 1 else 0
/-- SUP_STATE as it is written when it changes. -/
def supplyNoted (s : State) : State :=
  ((s.setReg Reg.supState (supplyState (s.nat Reg.supFlags))).logKeep 0x0103 1 (s.nat Reg.supFlags) (supplyState (s.nat Reg.supFlags))).notifyGardener 0x70 Reg.supState
theorem refreshSupply_eq : s.refreshSupply = if s.nat Reg.supState = supplyState (s.nat Reg.supFlags) then s else supplyNoted s := rfl
theorem supplyNoted_frame (s : State) : Only State.brace (· ∈ [Reg.supState, Reg.notifyDropped]) s (supplyNoted s) ∧
    (supplyNoted s).reg Reg.supState = supplyState (s.nat Reg.supFlags) := by
  have h1 : ((s.setReg Reg.supState (supplyState (s.nat Reg.supFlags))).logKeep 0x0103 1 (s.nat Reg.supFlags)
      (supplyState (s.nat Reg.supFlags))).reg Reg.supState = supplyState (s.nat Reg.supFlags) := reg_setReg_same s _ _
  have h2 : Only State.brace (· ∈ [Reg.supState, Reg.notifyDropped]) s ((s.setReg Reg.supState (supplyState (s.nat Reg.supFlags))).logKeep 0x0103 1
      (s.nat Reg.supFlags) (supplyState (s.nat Reg.supFlags))) := Only.trans (t := s.setReg Reg.supState _) (.setReg (by simp) _ rfl) (.of_regs rfl rfl)
  unfold supplyNoted
  generalize ((s.setReg Reg.supState (supplyState (s.nat Reg.supFlags))).logKeep 0x0103 1 (s.nat Reg.supFlags) (supplyState (s.nat Reg.supFlags))) = u at *
  have hn : Reports u (u.notifyGardener 0x70 Reg.supState) [Reg.notifyDropped] := .notifyGardener (by simp) _ _
  exact ⟨h2.trans (Only.of_reports (q := State.brace) hn (fun _ => rfl) (by simp)), (hn.2 _ (by simp)).trans h1⟩
theorem refreshSupply_frame (s : State) : Only State.brace (· ∈ [Reg.supState, Reg.notifyDropped]) s s.refreshSupply := by
  rw [refreshSupply_eq]
  exact .of_ite (fun _ => .refl s) fun _ => (supplyNoted_frame s).1
/-- SUP_STATE follows flags that are not clear. -/
theorem refreshSupply_state (h : s.nat Reg.supFlags ≠ 0) : s.refreshSupply.reg Reg.supState = if s.nat Reg.supFlags / 256 % 256 = 0 then 1 else 2 := by
  have hst : ((supplyState (s.nat Reg.supFlags) : Nat) : Int) = if s.nat Reg.supFlags / 256 % 256 = 0 then 1 else 2 := by
    unfold supplyState
    by_cases hb : s.nat Reg.supFlags / 256 % 256 = 0
    · rw [if_neg (not_not_intro hb), if_pos h, if_pos hb]
      rfl
    · rw [if_pos hb, if_neg hb]
      rfl
  have hpos : 0 < supplyState (s.nat Reg.supFlags) := by
    unfold supplyState
    rw [if_pos h]
    split
    · decide
    · decide
  rw [refreshSupply_eq]
  split
  · rename_i he
    have hn : 0 < s.nat Reg.supState := he ▸ hpos
    rw [← hst, ← he]
    unfold State.nat at hn ⊢
    omega
  · exact (supplyNoted_frame s).2.trans hst
theorem nat_ne_zero_of_bit {r : Reg} {b : Nat} (h : bit (s.reg r) b = true) (h0 : 0 ≤ s.reg r) : s.nat r ≠ 0 := by
  intro hz
  have hr : s.reg r = 0 := by
    unfold State.nat at hz
    omega
  rw [hr] at h
  simp [bit] at h
/-- A register whose bits were just set is not negative. -/
theorem orReg_nonneg (s : State) (r : Reg) (m : Nat) : 0 ≤ (s.orReg r m).reg r := by
  rw [State.orReg, reg_setReg_same]
  exact Int.natCast_nonneg _
/-- A caution that was not there: its flag, its count, and flash writes held. -/
theorem caution_new {b : Nat} (h : bit (s.reg Reg.supFlags) b = false) : bit ((s.caution b).reg Reg.supFlags) b = true ∧
    (s.caution b).reg Reg.supCautionCount = (s.reg Reg.supCautionCount + 1) % 4294967296 ∧ bit ((s.caution b).reg Reg.flashHold) 0 = true ∧
    SameRegs s (s.caution b) [Reg.supFlags, Reg.supCautionCount, Reg.flashHold] ∧ (s.caution b).nat Reg.supFlags ≠ 0 := by
  have heq : s.caution b = ((s.orReg Reg.supFlags (2 ^ b)).bump Reg.supCautionCount).holdFlash 0 := if_neg (by rw [h]; decide)
  have h1 := bit_orReg s Reg.supFlags b
  have h0 := orReg_nonneg s Reg.supFlags (2 ^ b)
  have h2 : (s.orReg Reg.supFlags (2 ^ b)).reg Reg.supCautionCount = s.reg Reg.supCautionCount := reg_setReg_other _ _ _ _ (by simp)
  have h3 : SameRegs s (s.orReg Reg.supFlags (2 ^ b)) [Reg.supFlags, Reg.supCautionCount, Reg.flashHold] := .setReg (by simp) _
  rw [heq]
  generalize s.orReg Reg.supFlags (2 ^ b) = u at h0 h1 h2 h3
  have hh : ∀ r, r ≠ Reg.flashHold → ((u.bump Reg.supCautionCount).holdFlash 0).reg r = (u.bump Reg.supCautionCount).reg r := fun r hr =>
    reg_setReg_other ((u.bump Reg.supCautionCount).modRst _) _ _ _ hr
  refine ⟨?_, ?_, bit_orReg ((u.bump Reg.supCautionCount).modRst _) Reg.flashHold 0, h3.trans ?_, ?_⟩
  · rwa [hh _ (by simp), reg_bump_other _ _ _ (by simp)]
  · rw [hh _ (by simp), reg_bump_same, h2]
    rfl
  · exact SameRegs.trans (t := u.bump Reg.supCautionCount) (.setReg (by simp) _) fun r hr => hh r (by rintro rfl; simp at hr)
  · have hf : ((u.bump Reg.supCautionCount).holdFlash 0).reg Reg.supFlags = u.reg Reg.supFlags := (hh _ (by simp)).trans (reg_bump_other _ _ _ (by simp))
    refine nat_ne_zero_of_bit (b := b) ?_ ?_
    · rwa [hf]
    · rwa [hf]
theorem caution_old {b : Nat} (h : bit (s.reg Reg.supFlags) b = true) : s.caution b = s := if_pos h

/-- The commands of a caution's rail: under-voltage below bit 8, over-voltage from bit 16. -/
theorem exec_railCaution {r : Fin 8} {now : Nat} {th : Fin 5} {b : Nat} (hb : (th, b) = (0, r.val) ∨ (th, b) = (3, 16 + r.val)) :
    exec (.railCrossing r th now) s = .next ((s.caution b).refreshSupply) ∧
    exec (.railClear r th now) s = .next (((s.supClear b).modBrace fun x => { x with lastCaution := now }).refreshSupply) := by
  rcases hb with hb | hb
  · cases hb
    exact ⟨rfl, rfl⟩
  · cases hb
    exact ⟨rfl, rfl⟩
/-- A new caution, up to SUP_STATE. -/
theorem caution_refreshed {b : Nat} (h : bit (s.reg Reg.supFlags) b = false) : bit ((s.caution b).refreshSupply.reg Reg.supFlags) b = true ∧
    (s.caution b).refreshSupply.reg Reg.supCautionCount = (s.reg Reg.supCautionCount + 1) % 4294967296 ∧
    bit ((s.caution b).refreshSupply.reg Reg.flashHold) 0 = true ∧
    (s.caution b).refreshSupply.reg Reg.supState = (if (s.caution b).refreshSupply.nat Reg.supFlags / 256 % 256 = 0 then 1 else 2) ∧
    SameRegs s (s.caution b).refreshSupply [Reg.supFlags, Reg.supCautionCount, Reg.flashHold, Reg.supState, Reg.notifyDropped] := by
  obtain ⟨h1, h2, h3, h4, h5⟩ := caution_new h
  generalize s.caution b = u at *
  have hf := refreshSupply_frame u
  have hst := refreshSupply_state h5
  have hn : u.refreshSupply.nat Reg.supFlags = u.nat Reg.supFlags := congrArg Int.toNat (hf.regs _ (by simp))
  rw [← hn] at hst
  refine ⟨?_, (hf.regs _ (by simp)).trans h2, ?_, hst, (h4.mono (by simp)).trans (hf.sameRegs.mono (by simp))⟩
  · rwa [hf.regs _ (by simp)]
  · rwa [hf.regs _ (by simp)]
/-- A flag that clears, up to SUP_STATE. -/
theorem supClear_refreshed (b : Nat) {f : BraceSt → BraceSt} : bit ((((s.supClear b).modBrace f).refreshSupply).reg Reg.supFlags) b = false ∧
    (((s.supClear b).modBrace f).refreshSupply).brace = f s.brace ∧
    SameRegs s (((s.supClear b).modBrace f).refreshSupply) [Reg.supFlags, Reg.supState, Reg.notifyDropped] := by
  have h1 : ((s.supClear b).modBrace f).reg Reg.supFlags = clearBit (s.reg Reg.supFlags) b := reg_setReg_same s _ _
  have h2 : ((s.supClear b).modBrace f).brace = f s.brace := rfl
  have h3 : SameRegs s ((s.supClear b).modBrace f) [Reg.supFlags, Reg.supState, Reg.notifyDropped] :=
    SameRegs.trans (t := s.supClear b) (.setReg (by simp) _) (sameRegs_of_regs rfl _)
  generalize (s.supClear b).modBrace f = u at *
  have hf := refreshSupply_frame u
  refine ⟨?_, hf.view.trans h2, h3.trans (hf.sameRegs.mono (by simp))⟩
  rw [hf.regs _ (by simp), h1]
  exact bit_clearBit _ b

section
variable {r : Fin 8} {now : Nat} {th : Fin 5} {b : Nat} (hb : (th, b) = (0, r.val) ∨ (th, b) = (3, 16 + r.val))
include hb

theorem runs_railCaution (h : bit (s.reg Reg.supFlags) b = false) : Runs (.railCrossing r th now) s fun t => bit (t.reg Reg.supFlags) b = true ∧
    t.reg Reg.supCautionCount = (s.reg Reg.supCautionCount + 1) % 4294967296 ∧ bit (t.reg Reg.flashHold) 0 = true ∧
    t.reg Reg.supState = (if t.nat Reg.supFlags / 256 % 256 = 0 then 1 else 2) ∧
    SameRegs s t [Reg.supFlags, Reg.supCautionCount, Reg.flashHold, Reg.supState, Reg.notifyDropped] ∧ SameMem s t := by
  obtain ⟨h1, h2, h3, h4, h5⟩ := caution_refreshed h
  exact runs_of_exec rfl (exec_railCaution hb).1 fun hm => ⟨h1, h2, h3, h4, h5, hm⟩
theorem runs_railCaution_again (h : bit (s.reg Reg.supFlags) b = true) : Runs (.railCrossing r th now) s fun t =>
    SameRegs s t [Reg.supState, Reg.notifyDropped] ∧ SameMem s t := by
  have hex := (exec_railCaution (s := s) (now := now) hb).1
  rw [caution_old h] at hex
  exact runs_of_exec rfl hex fun hm => ⟨(refreshSupply_frame s).sameRegs, hm⟩
theorem runs_railCautionClear : Runs (.railClear r th now) s fun t => bit (t.reg Reg.supFlags) b = false ∧ t.brace.lastCaution = now ∧
    SameRegs s t [Reg.supFlags, Reg.supState, Reg.notifyDropped] ∧ SameMem s t := by
  obtain ⟨h1, h2, h3⟩ := supClear_refreshed (s := s) b (f := fun x => { x with lastCaution := now })
  exact runs_of_exec rfl (exec_railCaution hb).2 fun hm => ⟨h1, congrArg BraceSt.lastCaution h2, h3, hm⟩
end

/-! A fail threshold (R494; 08, R244). -/

/-- A fail takes the pair's role before the reset appears. -/
def railFailed (s : State) (r : Nat) : State := (s.when (r != 2) fun s => s.bump Reg.supFailCount).leavePair
/-- Registers that a pair's role leaves with. -/
def pairLeftRegs : List Reg := [Reg.pairRole, Reg.pairAuth, Reg.pairState, Reg.weltState 0, Reg.weltState 1, Reg.graftPhase]
theorem leavePair_regs (s : State) : SameRegs s s.leavePair pairLeftRegs := by
  unfold State.leavePair
  split
  · exact .refl s _
  · exact SameRegs.trans (t := s.setRegs _) (Reports.setRegs (by simp [pairLeftRegs])).2 (sameRegs_of_regs rfl _)
theorem leavePair_role (h : s.paired = true) : s.leavePair.reg Reg.pairRole = 255 := by
  have hn : ¬(!s.paired) = true := by
    rw [h]
    decide
  unfold State.leavePair
  rw [if_neg hn]
  show (State.setRegs _ _).reg _ = _
  simp [State.setRegs, reg_setReg]
theorem railFailed_rst (s : State) (r : Nat) : (railFailed s r).rst = s.rst := leavePair_rst.trans (when_keeps (g := State.rst) rfl)
theorem railFailed_regs (s : State) (r : Nat) : SameRegs s (railFailed s r) ([Reg.supFailCount] ++ pairLeftRegs) :=
  SameRegs.trans (SameRegs.when (.setReg (by simp) _)) ((leavePair_regs _).mono (by simp))
theorem railFailed_counts {r : Nat} (h : r ≠ 2) : (railFailed s r).reg Reg.supFailCount = (s.reg Reg.supFailCount + 1) % 4294967296 := by
  unfold railFailed
  rw [bne_iff_ne.mpr h, leavePair_regs _ _ (by simp [pairLeftRegs])]
  exact reg_bump_same s Reg.supFailCount
theorem railFailed_keep (s : State) : railFailed s 2 = s.leavePair := rfl
theorem railFailed_paired (r : Nat) (h : s.paired = true) : (railFailed s r).reg Reg.pairAuth = 0 ∧ (railFailed s r).reg Reg.pairRole = 255 ∧
    (railFailed s r).reg Reg.pairState = 4 := by
  have hp : (s.when (r != 2) fun s => s.bump Reg.supFailCount).paired = true := by
    rw [← h]
    exact congrArg (fun x : Int => x != 0) (SameRegs.when (s := s) (l := [Reg.supFailCount]) (.setReg (by simp) _) Reg.pairState (by simp))
  exact ⟨(leavePair_paired hp).1, leavePair_role hp, (leavePair_paired hp).2⟩

/-- A fail asks for its reset and holds it. -/
theorem failReset_shows (u : State) (kind src code : Nat) : ((u.ask kind src).holdReset code).rst.asks = u.rst.asks ++ [(kind, src)] ∧
    code ∈ ((u.ask kind src).holdReset code).rst.held ∧ SameRegs u ((u.ask kind src).holdReset code) [Reg.faultCode, Reg.faultCount] := by
  obtain ⟨h1, h2, h3, -⟩ := holdReset_holds (u.ask kind src) code
  exact ⟨h2, h1, SameRegs.trans (t := u.ask kind src) (sameRegs_of_regs rfl _) h3⟩
/-- The code under which a fail is held. -/
def failCode (r th : Nat) : Nat := (if th = 2 then 32 else 64) + r
theorem exec_railFail {r : Fin 8} {now : Nat} {th : Fin 5} (h : th.val = 2 ∨ th.val = 4) : exec (.railCrossing r th now) s =
    .next (((railFailed s r).ask (if th.val = 2 ∧ r.val = 2 then 1 else 2) (if th.val = 2 ∧ r.val = 2 then 1 else 2)).holdReset (failCode r th)) := by
  have hth : th = 2 ∨ th = 4 := by omega
  rcases hth with rfl | rfl
  · by_cases h2 : r.val = 2
    · rw [if_pos ⟨rfl, h2⟩]
      exact if_pos ⟨rfl, h2⟩
    · rw [if_neg fun hc => h2 hc.2]
      exact if_neg fun hc => h2 hc.2
  · have hn : ¬((4 : Fin 5).val = 2 ∧ r.val = 2) := fun hc => absurd hc.1 (by decide)
    rewrite [if_neg hn]
    rfl
theorem runs_railFail {r : Fin 8} {now : Nat} {th : Fin 5} (h : th.val = 2 ∨ th.val = 4) (hr : ¬(th.val = 2 ∧ r.val = 2)) :
    Runs (.railCrossing r th now) s fun t => t.rst.asks = s.rst.asks ++ [(2, 2)] ∧ failCode r th ∈ t.rst.held ∧
      (r.val ≠ 2 → t.reg Reg.supFailCount = (s.reg Reg.supFailCount + 1) % 4294967296) ∧
      SameRegs s t ([Reg.supFailCount, Reg.faultCode, Reg.faultCount] ++ pairLeftRegs) ∧ SameMem s t := by
  have hex := exec_railFail (s := s) (r := r) (now := now) h
  rw [if_neg hr] at hex
  obtain ⟨h1, h2, h3⟩ := failReset_shows (railFailed s r) 2 2 (failCode r th)
  refine runs_of_exec rfl hex fun hm => ⟨?_, h2, fun hn => (h3 _ (by simp)).trans (railFailed_counts hn), ?_, hm⟩
  · rw [h1, railFailed_rst]
  · exact ((railFailed_regs s r).mono (by simp [pairLeftRegs])).trans (h3.mono (by simp))
theorem runs_keepFail {r : Fin 8} {now : Nat} (hr : r.val = 2) : Runs (.railCrossing r 2 now) s fun t =>
    t.rst.asks = s.rst.asks ++ [(1, 1)] ∧ 34 ∈ t.rst.held ∧ SameRegs s t ([Reg.faultCode, Reg.faultCount] ++ pairLeftRegs) ∧ SameMem s t := by
  have hex := exec_railFail (s := s) (r := r) (now := now) (th := 2) (.inl rfl)
  rw [if_pos ⟨rfl, hr⟩, hr, railFailed_keep] at hex
  obtain ⟨h1, h2, h3⟩ := failReset_shows s.leavePair 1 1 34
  refine runs_of_exec rfl hex fun hm => ⟨?_, h2, ((leavePair_regs s).mono (by simp)).trans (h3.mono (by simp)), hm⟩
  exact h1.trans (congrArg (fun x : RstSt => x.asks ++ [(1, 1)]) leavePair_rst)
theorem runs_failUnpairs {r : Fin 8} {now : Nat} {th : Fin 5} (h : th.val = 2 ∨ th.val = 4) (hp : s.paired = true) :
    Runs (.railCrossing r th now) s fun t => t.reg Reg.pairAuth = 0 ∧ t.reg Reg.pairRole = 255 ∧ t.reg Reg.pairState = 4 := by
  obtain ⟨h1, h2, h3⟩ := railFailed_paired r.val hp
  obtain ⟨-, -, hr⟩ := failReset_shows (railFailed s r) (if th.val = 2 ∧ r.val = 2 then 1 else 2) (if th.val = 2 ∧ r.val = 2 then 1 else 2) (failCode r th)
  exact ⟨_, exec_railFail h, (hr _ (by simp)).trans h1, (hr _ (by simp)).trans h2, (hr _ (by simp)).trans h3⟩
theorem runs_failClear {r : Fin 8} {now : Nat} {th : Fin 5} (h : th.val = 2 ∨ th.val = 4) : Runs (.railClear r th now) s fun t =>
    failCode r th ∉ t.rst.held ∧ SameRegs s t [Reg.faultCode, Reg.faultCount] ∧ SameMem s t := by
  have hth : th = 2 ∨ th = 4 := by omega
  have hex : exec (.railClear r th now) s = .next (s.releaseReset (failCode r th)) := by
    rcases hth with rfl | rfl
    · rfl
    · rfl
  refine runs_of_exec rfl hex fun hm => ⟨?_, SameRegs.trans (t := s.modRst _) (sameRegs_of_regs rfl _) (refreshFaults_reports _).2, hm⟩
  show failCode r th ∉ s.rst.held.filter fun y => y != failCode r th
  simp

/-! The junction temperature (R494). -/

theorem readTj_sup (tenths : Int) (b : Nat) : bit ((s.readTj tenths).reg Reg.supFlags) b = bit (s.reg Reg.supFlags) b ∧
    (s.readTj tenths).reg Reg.supCautionCount = s.reg Reg.supCautionCount := by
  obtain ⟨-, -, h, -, -⟩ := readTj_shows (s := s) tenths
  rw [h _ (by simp), h _ (by simp)]
  exact ⟨rfl, rfl⟩
theorem runs_junctionCaution {tenths : Int} {now : Nat} (h : bit (s.reg Reg.supFlags) 24 = false) : Runs (.junctionCaution true tenths now) s fun t =>
    bit (t.reg Reg.supFlags) 24 = true ∧ t.reg Reg.tjNow = tenths ∧ t.reg Reg.supCautionCount = (s.reg Reg.supCautionCount + 1) % 4294967296 ∧
    bit (t.reg Reg.flashHold) 0 = true ∧ SameMem s t := by
  have hex : exec (.junctionCaution true tenths now) s = .next ((s.readTj tenths).caution 24).refreshSupply := rfl
  obtain ⟨hb, hc⟩ := readTj_sup (s := s) tenths 24
  obtain ⟨hnow, -, -, -, -⟩ := readTj_shows (s := s) tenths
  rw [← hb] at h
  rw [← hc]
  generalize s.readTj tenths = u at *
  obtain ⟨h1, h2, h3, -, h5⟩ := caution_refreshed h
  exact runs_of_exec rfl hex fun hm => ⟨h1, (h5 _ (by simp)).trans hnow, h2, h3, hm⟩
theorem runs_junctionAgain {tenths : Int} {now : Nat} (h : bit (s.reg Reg.supFlags) 24 = true) : Runs (.junctionCaution true tenths now) s fun t =>
    t.reg Reg.tjNow = tenths ∧ SameRegs s t [Reg.tjNow, Reg.tjMax, Reg.supState, Reg.notifyDropped] ∧ SameMem s t := by
  have hex : exec (.junctionCaution true tenths now) s = .next ((s.readTj tenths).caution 24).refreshSupply := rfl
  obtain ⟨hb, -⟩ := readTj_sup (s := s) tenths 24
  obtain ⟨hnow, -, hr, -, -⟩ := readTj_shows (s := s) tenths
  rw [← hb] at h
  rw [caution_old h] at hex
  generalize s.readTj tenths = u at *
  have hf := refreshSupply_frame u
  exact runs_of_exec rfl hex fun hm => ⟨(hf.regs _ (by simp)).trans hnow, (hr.mono (by simp)).trans (hf.sameRegs.mono (by simp)), hm⟩
theorem runs_junctionClear {tenths : Int} {now : Nat} : Runs (.junctionCaution false tenths now) s fun t => bit (t.reg Reg.supFlags) 24 = false ∧
    t.reg Reg.tjNow = tenths ∧ t.brace.lastCaution = now ∧ SameRegs s t [Reg.supFlags, Reg.supState, Reg.tjNow, Reg.tjMax, Reg.notifyDropped] ∧ SameMem s t := by
  have hex : exec (.junctionCaution false tenths now) s = .next ((((s.readTj tenths).supClear 24).modBrace fun x => { x with lastCaution := now }).refreshSupply) := rfl
  obtain ⟨hnow, -, hr, -, -⟩ := readTj_shows (s := s) tenths
  generalize s.readTj tenths = u at *
  obtain ⟨h1, h2, h3⟩ := supClear_refreshed (s := u) 24 (f := fun x => { x with lastCaution := now })
  exact runs_of_exec rfl hex fun hm => ⟨h1, (h3 _ (by simp)).trans hnow, congrArg BraceSt.lastCaution h2, (hr.mono (by simp)).trans (h3.mono (by simp)), hm⟩

/-! A brace event (R498, R500, R501). -/

theorem sendCell_kept (s : State) (c : Cell) : (s.sendCell c).brace = s.brace ∧ (s.sendCell c).pscs = s.pscs := by
  unfold State.sendCell
  split
  · exact ⟨rfl, rfl⟩
  · split
    · exact ⟨rfl, rfl⟩
    · exact ⟨rfl, rfl⟩
/-- What a brace action goes to the partner with leaves every register. -/
theorem sendBrace_only (s : State) (t k : Nat) : Only State.brace (fun _ => False) s (s.sendBrace t k) := by
  refine .when _ ?_
  unfold State.sendMgmt
  extract_lets n
  refine Only.trans (t := s.modPair fun x => { x with sent := x.sent ++ [(n, t)], seq := n }) (.of_regs rfl rfl) ?_
  exact .of_regs (sendCell_kept _ _).1 (sendCell_saps _ _).2

/-- The sequence begins. -/
def braceBegun (s : State) (p1 now : Nat) : State :=
  ((((((s.modBrace fun b => { b with from_ := none }).setRegs [(Reg.braceState, 1), (Reg.braceSince, s.tick)]).bump Reg.braceCount).holdFlash 1).logKeep 0x0104 1
    (((((s.modBrace fun b => { b with from_ := none }).setRegs [(Reg.braceState, 1), (Reg.braceSince, s.tick)]).bump Reg.braceCount).holdFlash 1).nat Reg.pwrInputs) p1).modBrace fun b =>
    { b with at_ := now, policyAt := if s.bracedByA then none else some (s.braceTick (s.tick + 1)), policyDone := false, unbraceAt := none })
theorem braceEvent_begins {p1 now : Nat} (h1 : s.reg Reg.braceState ≠ 1) (h2 : s.reg Reg.braceState ≠ 2) :
    s.braceEvent p1 now = (braceBegun s p1 now).sendBrace (s.braceTick (s.tick + 1)) 1 := if_neg (not_or.mpr ⟨h1, h2⟩)
theorem braceEvent_again {p1 now : Nat} (h : s.reg Reg.braceState = 1 ∨ s.reg Reg.braceState = 2) :
    s.braceEvent p1 now = s.modBrace fun b => { b with from_ := none } := if_pos h
/-- What a brace event that begins the sequence shows. -/
structure Begun (s : State) (now : Nat) (t : State) : Prop where
  state : t.reg Reg.braceState = 1
  since : t.reg Reg.braceSince = s.tick
  count : t.reg Reg.braceCount = (s.reg Reg.braceCount + 1) % 4294967296
  holds : bit (t.reg Reg.flashHold) 1 = true
  at_ : t.brace.at_ = now
  ended : t.brace.from_ = none
  policy : t.brace.policyAt = if s.bracedByA then none else some (s.braceTick (s.tick + 1))
/-- Registers that begin the sequence. -/
def begunRegs : List Reg := [Reg.braceState, Reg.braceSince, Reg.braceCount, Reg.flashHold]

theorem braceBegun_shows (s : State) (p1 now : Nat) : Begun s now (braceBegun s p1 now) ∧ SameRegs s (braceBegun s p1 now) begunRegs := by
  have h0 : ((s.modBrace fun b => { b with from_ := none }).setRegs [(Reg.braceState, 1), (Reg.braceSince, s.tick)]).reg Reg.braceState = 1 :=
    (reg_setReg_other _ Reg.braceSince Reg.braceState _ (by simp)).trans (reg_setReg_same (s.modBrace _) Reg.braceState 1)
  have h1 : ((s.modBrace fun b => { b with from_ := none }).setRegs [(Reg.braceState, 1), (Reg.braceSince, s.tick)]).reg Reg.braceSince = s.tick :=
    reg_setReg_same _ Reg.braceSince _
  have h2 : SameRegs s ((s.modBrace fun b => { b with from_ := none }).setRegs [(Reg.braceState, 1), (Reg.braceSince, s.tick)]) [Reg.braceState, Reg.braceSince] :=
    SameRegs.trans (t := s.modBrace _) (sameRegs_of_regs rfl _) (Reports.setRegs (by simp)).2
  have hb : ((s.modBrace fun b => { b with from_ := none }).setRegs [(Reg.braceState, 1), (Reg.braceSince, s.tick)]).brace.from_ = none := rfl
  unfold braceBegun
  generalize (s.modBrace fun b => { b with from_ := none }).setRegs [(Reg.braceState, 1), (Reg.braceSince, s.tick)] = u at *
  have h3 : (u.bump Reg.braceCount).reg Reg.braceCount = (s.reg Reg.braceCount + 1) % 4294967296 := by
    rw [reg_bump_same, h2 _ (by simp)]
    rfl
  have h4 : SameRegs u (u.bump Reg.braceCount) [Reg.braceCount] := .setReg (by simp) _
  have h5 : (u.bump Reg.braceCount).brace.from_ = none := hb
  generalize u.bump Reg.braceCount = v at *
  have h6 : bit ((v.holdFlash 1).reg Reg.flashHold) 1 = true := bit_orReg (v.modRst _) Reg.flashHold 1
  have h7 : SameRegs v (v.holdFlash 1) [Reg.flashHold] := SameRegs.trans (t := v.modRst _) (sameRegs_of_regs rfl _) (.setReg (by simp) _)
  have h8 : (v.holdFlash 1).brace.from_ = none := h5
  generalize v.holdFlash 1 = w at *
  refine ⟨⟨?_, ?_, ?_, h6, rfl, h8, rfl⟩, ?_⟩
  · exact (h7 _ (by simp)).trans ((h4 _ (by simp)).trans h0)
  · exact (h7 _ (by simp)).trans ((h4 _ (by simp)).trans h1)
  · exact (h7 _ (by simp)).trans h3
  · exact (h2.mono (by simp [begunRegs])).trans ((h4.mono (by simp [begunRegs])).trans (SameRegs.trans (h7.mono (by simp [begunRegs])) (sameRegs_of_regs rfl _)))
theorem braceEvent_shows {p1 now : Nat} (h1 : s.reg Reg.braceState ≠ 1) (h2 : s.reg Reg.braceState ≠ 2) : Begun s now (s.braceEvent p1 now) ∧
    SameRegs s (s.braceEvent p1 now) begunRegs := by
  rw [braceEvent_begins h1 h2]
  obtain ⟨hb, hbr⟩ := braceBegun_shows s p1 now
  generalize braceBegun s p1 now = u at *
  have hs := sendBrace_only u (s.braceTick (s.tick + 1)) 1
  have hr : ∀ r, (u.sendBrace (s.braceTick (s.tick + 1)) 1).reg r = u.reg r := fun r => hs.regs r not_false
  generalize u.sendBrace (s.braceTick (s.tick + 1)) 1 = t at *
  have hv : t.brace = u.brace := hs.view
  refine ⟨⟨(hr _).trans hb.state, (hr _).trans hb.since, (hr _).trans hb.count, ?_, ?_, ?_, ?_⟩, hbr.trans fun r _ => hr r⟩
  · rw [hr]
    exact hb.holds
  · rw [hv]
    exact hb.at_
  · rw [hv]
    exact hb.ended
  · rw [hv]
    exact hb.policy
/-- The event reads the roles and the tick, which a write of the supply's own registers leaves. -/
theorem Begun.of_setReg {t : State} {now : Nat} {q : Reg} {v : Int} (hq : q = Reg.supFlags ∨ q = Reg.pwrInputs) (h : Begun (s.setReg q v) now t)
    (hr : SameRegs (s.setReg q v) t begunRegs) : Begun s now t ∧ t.reg q = v ∧ SameRegs s t (q :: begunRegs) := by
  have hother : ∀ r : Reg, r ≠ Reg.supFlags → r ≠ Reg.pwrInputs → (s.setReg q v).reg r = s.reg r := fun r h1 h2 =>
    reg_setReg_other _ _ _ _ (by rcases hq with rfl | rfl; exacts [h1, h2])
  have hlead : (s.setReg q v).bracedByA = s.bracedByA := by
    unfold State.bracedByA State.heartbeat
    rw [hother _ (by simp) (by simp), hother _ (by simp) (by simp), hother _ (by simp) (by simp), hother _ (by simp) (by simp)]
  have htick : ∀ n, (s.setReg q v).braceTick n = s.braceTick n := by
    intro n
    unfold State.braceTick State.forwards
    rw [hother _ (by simp) (by simp), hother _ (by simp) (by simp), hother _ (by simp) (by simp)]
  have hcount : (s.setReg q v).reg Reg.braceCount = s.reg Reg.braceCount := hother _ (by simp) (by simp)
  refine ⟨⟨h.state, h.since, ?_, h.holds, h.at_, h.ended, ?_⟩, ?_, ?_⟩
  · rw [h.count, hcount]
  · rw [h.policy, hlead, htick]
    rfl
  · refine (hr _ ?_).trans (reg_setReg_same _ _ _)
    rcases hq with rfl | rfl
    · decide
    · decide
  · exact SameRegs.trans (t := s.setReg q v) (.setReg (.head _) _) (hr.mono (List.subset_cons_self _ _))

/-! The brace threshold of a rail, and PWR_MAIN_OK. -/

section
variable {r : Fin 8} {now : Nat}

theorem exec_railBrace (h : bit (s.reg Reg.supFlags) (8 + r) = false) : exec (.railCrossing r 1 now) s =
    .next (((s.orReg Reg.supFlags (2 ^ (8 + r.val))).braceEvent (1 + r) now).refreshSupply) := by
  have hn : ¬bit (s.reg Reg.supFlags) (8 + r) = true := by
    rw [h]
    decide
  exact if_neg hn
/-- A flag of bits 8 to 15 makes the supply one that braces. -/
theorem supplyState_brace {f : Nat} (r : Fin 8) : (f ||| 2 ^ (8 + r.val)) / 256 % 256 ≠ 0 := by
  intro h
  have hb : ((f ||| 2 ^ (8 + r.val)) / 256 % 256).testBit r.val = true := by
    have h256 : (256 : Nat) = 2 ^ 8 := rfl
    rw [h256, Nat.testBit_mod_two_pow, Nat.testBit_div_two_pow, Nat.add_comm r.val 8]
    simp
  rw [h] at hb
  simp at hb
theorem runs_railBrace (h : bit (s.reg Reg.supFlags) (8 + r) = false) (h1 : s.reg Reg.braceState ≠ 1) (h2 : s.reg Reg.braceState ≠ 2) :
    Runs (.railCrossing r 1 now) s fun t => bit (t.reg Reg.supFlags) (8 + r) = true ∧ t.reg Reg.supState = 2 ∧ t.reg Reg.braceState = 1 ∧
      t.reg Reg.braceSince = s.tick ∧ t.reg Reg.braceCount = (s.reg Reg.braceCount + 1) % 4294967296 ∧
      bit (t.reg Reg.flashHold) 1 = true ∧ t.brace.at_ = now ∧ t.brace.from_ = none ∧
      t.brace.policyAt = (if s.bracedByA then none else some (s.braceTick (s.tick + 1))) ∧
      SameRegs s t [Reg.supFlags, Reg.supState, Reg.braceState, Reg.braceSince, Reg.braceCount, Reg.flashHold, Reg.notifyDropped] ∧
      SameMem s t := by
  have hex := exec_railBrace (now := now) h
  have hs : ∀ q : Reg, q ≠ Reg.supFlags → (s.orReg Reg.supFlags (2 ^ (8 + r.val))).reg q = s.reg q := fun q hq => reg_setReg_other _ _ _ _ hq
  obtain ⟨hb, hr⟩ := braceEvent_shows (s := s.orReg Reg.supFlags (2 ^ (8 + r.val))) (p1 := 1 + r.val) (now := now)
    (by rwa [hs _ (by simp)]) (by rwa [hs _ (by simp)])
  obtain ⟨hb, hf, hr⟩ := Begun.of_setReg (.inl rfl) hb hr
  generalize (s.orReg Reg.supFlags (2 ^ (8 + r.val))).braceEvent (1 + r) now = u at *
  have hnat : u.nat Reg.supFlags = s.nat Reg.supFlags ||| 2 ^ (8 + r.val) := congrArg Int.toNat hf
  have hbit : bit (u.reg Reg.supFlags) (8 + r) = true := by
    rw [hf]
    exact bit_or_two_pow _ _
  have hst : u.refreshSupply.reg Reg.supState = 2 := by
    have hne := supplyState_brace (f := s.nat Reg.supFlags) r
    rw [← hnat] at hne
    rw [refreshSupply_state fun h0 => hne (by rw [h0]), if_neg hne]
  have hfr := refreshSupply_frame u
  refine runs_of_exec rfl hex fun hm => ⟨?_, hst, ?_, ?_, ?_, ?_, ?_, ?_, ?_, (hr.mono (by simp [begunRegs])).trans (hfr.sameRegs.mono (by simp)), hm⟩
  · rwa [hfr.regs _ (by simp)]
  · exact (hfr.regs _ (by simp)).trans hb.state
  · exact (hfr.regs _ (by simp)).trans hb.since
  · exact (hfr.regs _ (by simp)).trans hb.count
  · rw [hfr.regs _ (by simp)]
    exact hb.holds
  · rw [hfr.view]
    exact hb.at_
  · rw [hfr.view]
    exact hb.ended
  · rw [hfr.view]
    exact hb.policy
theorem runs_railBrace_again (h : bit (s.reg Reg.supFlags) (8 + r) = false) (hb : s.reg Reg.braceState = 1 ∨ s.reg Reg.braceState = 2) :
    Runs (.railCrossing r 1 now) s fun t => t.reg Reg.braceState = s.reg Reg.braceState ∧ t.brace.from_ = none ∧
      SameRegs s t [Reg.supFlags, Reg.supState, Reg.notifyDropped] ∧ SameMem s t := by
  have hex := exec_railBrace (now := now) h
  have hs : (s.orReg Reg.supFlags (2 ^ (8 + r.val))).reg Reg.braceState = s.reg Reg.braceState := reg_setReg_other _ _ _ _ (by simp)
  have hset : SameRegs s (s.orReg Reg.supFlags (2 ^ (8 + r.val))) [Reg.supFlags, Reg.supState, Reg.notifyDropped] := .setReg (by simp) _
  rw [← hs] at hb
  rw [braceEvent_again hb] at hex
  generalize s.orReg Reg.supFlags (2 ^ (8 + r.val)) = u at *
  have hu : SameRegs u (u.modBrace fun b => { b with from_ := none }) [Reg.supFlags, Reg.supState, Reg.notifyDropped] := sameRegs_of_regs rfl _
  have hn : (u.modBrace fun b => { b with from_ := none }).brace.from_ = none := rfl
  generalize (u.modBrace fun b => { b with from_ := none }) = v at *
  have hf := refreshSupply_frame v
  refine runs_of_exec rfl hex fun hm => ⟨?_, ?_, hset.trans (hu.trans (hf.sameRegs.mono (by simp))), hm⟩
  · exact (hf.regs _ (by simp)).trans ((hu _ (by simp)).trans hs)
  · rwa [hf.view]
theorem runs_railBraceClear : Runs (.railClear r 1 now) s fun t => bit (t.reg Reg.supFlags) (8 + r) = false ∧
    SameRegs s t [Reg.supFlags, Reg.supState, Reg.notifyDropped] ∧ SameMem s t := by
  have hex : exec (.railClear r 1 now) s = .next (((s.supClear (8 + r)).returnFrom now).refreshSupply) := rfl
  obtain ⟨f, hf⟩ : ∃ f, (s.supClear (8 + r)).returnFrom now = (s.supClear (8 + r)).modBrace f := by
    unfold State.returnFrom
    exact ⟨_, rfl⟩
  rw [hf] at hex
  obtain ⟨h1, -, h3⟩ := supClear_refreshed (s := s) (8 + r.val) (f := f)
  exact runs_of_exec rfl hex fun hm => ⟨h1, h3, hm⟩
end
/-- PWR_MAIN_OK falls. -/
def mainFallen (s : State) : State := s.setReg Reg.pwrInputs (clearBit (s.reg Reg.pwrInputs) 0)
theorem exec_mainFalls {now : Nat} (h : bit (s.reg Reg.pwrInputs) 0 = true) : exec (.pwrMainOkChange false now) s = .next ((mainFallen s).braceEvent 0 now) := by
  have hn : ¬bit (s.reg Reg.pwrInputs) 0 = false := by
    rw [h]
    decide
  exact if_neg hn
theorem mainFallen_shows (s : State) : bit ((mainFallen s).reg Reg.pwrInputs) 0 = false ∧ (mainFallen s).reg Reg.braceState = s.reg Reg.braceState := by
  unfold mainFallen
  rw [reg_setReg_same]
  exact ⟨bit_clearBit _ 0, reg_setReg_other _ _ _ _ (by simp)⟩
theorem runs_mainFalls {now : Nat} (h : bit (s.reg Reg.pwrInputs) 0 = true) (h1 : s.reg Reg.braceState ≠ 1) (h2 : s.reg Reg.braceState ≠ 2) :
    Runs (.pwrMainOkChange false now) s fun t => bit (t.reg Reg.pwrInputs) 0 = false ∧ t.reg Reg.braceState = 1 ∧ t.reg Reg.braceSince = s.tick ∧
      t.reg Reg.braceCount = (s.reg Reg.braceCount + 1) % 4294967296 ∧ bit (t.reg Reg.flashHold) 1 = true ∧ t.brace.at_ = now ∧
      SameRegs s t [Reg.pwrInputs, Reg.braceState, Reg.braceSince, Reg.braceCount, Reg.flashHold] ∧ SameMem s t := by
  obtain ⟨hbit, hst⟩ := mainFallen_shows s
  obtain ⟨hb, hr⟩ := braceEvent_shows (s := mainFallen s) (p1 := 0) (now := now) (by rwa [hst]) (by rwa [hst])
  obtain ⟨hb, hf, hr⟩ := Begun.of_setReg (.inr rfl) hb hr
  refine runs_of_exec rfl (exec_mainFalls h) fun hm => ⟨?_, hb.state, hb.since, hb.count, hb.holds, hb.at_, hr, hm⟩
  rw [hf]
  exact bit_clearBit _ 0
theorem runs_mainFalls_again {now : Nat} (h : bit (s.reg Reg.pwrInputs) 0 = true) (hb : s.reg Reg.braceState = 1 ∨ s.reg Reg.braceState = 2) :
    Runs (.pwrMainOkChange false now) s fun t => bit (t.reg Reg.pwrInputs) 0 = false ∧ t.brace.from_ = none ∧ SameRegs s t [Reg.pwrInputs] ∧ SameMem s t := by
  obtain ⟨hbit, hst⟩ := mainFallen_shows s
  have hset : SameRegs s (mainFallen s) [Reg.pwrInputs] := .setReg (by simp) _
  have hex := exec_mainFalls (now := now) h
  rw [← hst] at hb
  rw [braceEvent_again hb] at hex
  exact runs_of_exec rfl hex fun hm => ⟨hbit, rfl, hset.trans (sameRegs_of_regs rfl _), hm⟩
theorem runs_mainRises {now : Nat} (h : bit (s.reg Reg.pwrInputs) 0 = false) : Runs (.pwrMainOkChange true now) s fun t => bit (t.reg Reg.pwrInputs) 0 = true ∧
    SameRegs s t [Reg.pwrInputs] ∧ SameMem s t := by
  have hn : ¬bit (s.reg Reg.pwrInputs) 0 = true := by
    rw [h]
    decide
  have hex : exec (.pwrMainOkChange true now) s = .next ((s.orReg Reg.pwrInputs (2 ^ 0)).returnFrom now) := if_neg hn
  exact runs_of_exec rfl hex fun hm => ⟨bit_orReg s Reg.pwrInputs 0, SameRegs.trans (t := s.orReg Reg.pwrInputs (2 ^ 0)) (.setReg (by simp) _) (sameRegs_of_regs rfl _), hm⟩

/-! The battery, and the sequence's end (R498). -/

theorem toBraced_shows (s : State) (now : Nat) : (s.toBraced now).reg Reg.braceState = 2 ∧ SameRegs s (s.toBraced now) [Reg.braceState] ∧
    (s.toBraced now).brace.policyAt = s.brace.policyAt ∧ (s.toBraced now).brace.policyDone = s.brace.policyDone ∧ (s.toBraced now).pscs = s.pscs :=
  ⟨reg_setReg_same s Reg.braceState 2, SameRegs.trans (t := s.setReg Reg.braceState 2) (.setReg (by simp) _) (sameRegs_of_regs rfl _), rfl, rfl, rfl⟩
theorem runs_battOff {now : Nat} : Runs (.pwrBattOnChange false now) s fun t => bit (t.reg Reg.pwrInputs) 1 = false ∧ SameRegs s t [Reg.pwrInputs] ∧ SameMem s t := by
  refine ⟨s.setReg Reg.pwrInputs (clearBit (s.reg Reg.pwrInputs) 1), rfl, ?_, .setReg (by simp) _, fun _ => rfl⟩
  rw [reg_setReg_same]
  exact bit_clearBit _ 1
theorem runs_battOn {now : Nat} : Runs (.pwrBattOnChange true now) s fun t => bit (t.reg Reg.pwrInputs) 1 = true ∧
    t.reg Reg.braceState = (if s.reg Reg.braceState = 1 ∧ s.brace.policyDone = true then 2 else s.reg Reg.braceState) ∧
    SameRegs s t [Reg.pwrInputs, Reg.braceState] ∧ SameMem s t := by
  have hex : exec (.pwrBattOnChange true now) s = .next ((s.orReg Reg.pwrInputs (2 ^ 1)).when (s.reg Reg.braceState == 1 && s.brace.policyDone) fun s => s.toBraced now) := rfl
  have hbit := bit_orReg s Reg.pwrInputs 1
  have hset : SameRegs s (s.orReg Reg.pwrInputs (2 ^ 1)) [Reg.pwrInputs, Reg.braceState] := .setReg (by simp) _
  have hst : (s.orReg Reg.pwrInputs (2 ^ 1)).reg Reg.braceState = s.reg Reg.braceState := reg_setReg_other _ _ _ _ (by simp)
  generalize s.orReg Reg.pwrInputs (2 ^ 1) = u at *
  obtain ⟨b1, b2, -, -, -⟩ := toBraced_shows u now
  by_cases hc : s.reg Reg.braceState = 1 ∧ s.brace.policyDone = true
  · have hb : (s.reg Reg.braceState == 1 && s.brace.policyDone) = true := by simpa using hc
    rw [hb] at hex
    rw [if_pos hc]
    refine runs_of_exec rfl hex fun hm => ⟨?_, b1, hset.trans (b2.mono (by simp)), hm⟩
    show bit ((u.toBraced now).reg _) 1 = true
    rwa [b2 _ (by simp)]
  · have hb : (s.reg Reg.braceState == 1 && s.brace.policyDone) = false := by simpa using hc
    rw [hb] at hex
    rw [if_neg hc]
    exact runs_of_exec rfl hex fun hm => ⟨hbit, hst, hset, hm⟩

/-! The policy reaches the channels (R415, R498). -/

theorem pscMoveGb_braced (s : State) (n : Nat) (g : Int) (m : Nat) : ((s.pscMoveGb n g).psc m).braced = (s.psc m).braced := by
  unfold State.pscMoveGb
  by_cases h : m = n
  · subst h
    rw [psc_modPsc_same]
    dsimp only
    split
    · rfl
    · rfl
  · rw [psc_modPsc_other _ h]
/-- A channel that brace reaches, or leaves. -/
def markBraced (b : Bool) (g : State → Nat → Int) (s : State) (n : Nat) : State :=
  if (s.psc n).braced = b then s
  else if s.reg (Reg.pscState n) = 0 then s.modPsc n fun x => { x with braced := b }
  else (s.modPsc n fun x => { x with braced := b }).pscMoveGb n (g s n)
theorem markBraced_same (b : Bool) (g : State → Nat → Int) (s : State) (n : Nat) : ((markBraced b g s n).psc n).braced = b := by
  have h : ((s.modPsc n fun x => { x with braced := b }).psc n).braced = b := congrArg PscSt.braced (psc_modPsc_same s n _)
  unfold markBraced
  split
  · assumption
  · split
    · exact h
    · rw [pscMoveGb_braced, h]
theorem markBraced_other (b : Bool) (g : State → Nat → Int) (s : State) {n m : Nat} (hm : m ≠ n) : ((markBraced b g s n).psc m).braced = (s.psc m).braced := by
  have h : ((s.modPsc n fun x => { x with braced := b }).psc m).braced = (s.psc m).braced := congrArg PscSt.braced (psc_modPsc_other s hm _)
  unfold markBraced
  split
  · rfl
  · split
    · exact h
    · rw [pscMoveGb_braced, h]
theorem markBraced_all (b : Bool) (g : State → Nat → Int) (s : State) {n : Nat} (hn : n < 64) : ((overN 64 (markBraced b g) s).psc n).braced = b :=
  overN_once (g := fun s => (s.psc n).braced) hn (fun s _ hx => markBraced_other b g s hx.symm) fun t _ => markBraced_same b g t n
theorem pscBrace_all (s : State) {n : Nat} (hn : n < 64) : (s.pscBrace.psc n).braced = true :=
  markBraced_all true (fun s n => s.reg (Reg.pscBraceGain n)) s hn
theorem pscUnbrace_all (s : State) {n : Nat} (hn : n < 64) : (s.pscUnbrace.psc n).braced = false := by
  have h : s.pscUnbrace = overN 64 (markBraced false fun _ _ => 0) s := by
    refine congrArg (fun f => overN 64 f s) (funext fun u => funext fun n => ?_)
    unfold markBraced
    cases (u.psc n).braced
    · rfl
    · rfl
  rw [h]
  exact markBraced_all false _ s hn
theorem pscUnbrace_only (s : State) : Only State.brace (fun _ => False) s s.pscUnbrace := by
  refine .of_overN 64 (fun s n _ => ?_) s
  exact .of_ite (fun _ => .refl s) fun _ => .of_ite (fun _ => .of_regs rfl rfl) fun _ => .of_regs rfl rfl
/-- Step 3 of the sequence. -/
def policyApplied (s : State) : State := ((s.pscBrace).orReg Reg.pwrInputs (2 ^ 2)).modBrace fun b => { b with policyAt := none, policyDone := true }
theorem policyApplied_shows (s : State) : (policyApplied s).brace.policyAt = none ∧ (policyApplied s).brace.policyDone = true ∧
    bit ((policyApplied s).reg Reg.pwrInputs) 2 = true ∧ (∀ n < 64, ((policyApplied s).psc n).braced = true) ∧
    SameRegs s (policyApplied s) [Reg.pwrInputs] := by
  have hb : SameRegs s s.pscBrace [Reg.pwrInputs] := fun r _ => (pscBrace_only s).regs r not_false
  have hall : ∀ n < 64, (s.pscBrace.psc n).braced = true := fun n hn => pscBrace_all s hn
  unfold policyApplied
  generalize s.pscBrace = u at *
  exact ⟨rfl, rfl, bit_orReg u Reg.pwrInputs 2, hall, hb.trans (SameRegs.trans (t := u.orReg Reg.pwrInputs (2 ^ 2)) (.setReg (by simp) _) (sameRegs_of_regs rfl _))⟩
theorem exec_policy {k : Nat} (hp : s.brace.policyAt = some k) : exec .bracePolicyApply s = if s.tick < k ∨ s.reg Reg.braceState ≠ 1 then .next s
    else .next ((policyApplied s).when (bit (s.reg Reg.pwrInputs) 1) fun t => t.toBraced t.brace.at_) := by
  show execBracePolicyApply s = _
  unfold execBracePolicyApply
  rewrite [hp]
  rfl
theorem runs_policyApply {k : Nat} (hp : s.brace.policyAt = some k) (hb : s.reg Reg.braceState = 1) (hk : k ≤ s.tick) : Runs .bracePolicyApply s fun t =>
    t.brace.policyAt = none ∧ t.brace.policyDone = true ∧ bit (t.reg Reg.pwrInputs) 2 = true ∧ (∀ n < 64, (t.psc n).braced = true) ∧
    t.reg Reg.braceState = (if bit (s.reg Reg.pwrInputs) 1 then 2 else 1) ∧ SameRegs s t [Reg.pwrInputs, Reg.braceState] ∧ SameMem s t := by
  have hn : ¬(s.tick < k ∨ s.reg Reg.braceState ≠ 1) := by
    rintro (h | h)
    · exact Nat.not_lt.mpr hk h
    · exact h hb
  have hex := (exec_policy hp).trans (if_neg hn)
  obtain ⟨h1, h2, h3, h4, h5⟩ := policyApplied_shows s
  generalize policyApplied s = u at *
  obtain ⟨b1, b2, b3, b4, b5⟩ := toBraced_shows u u.brace.at_
  by_cases hbat : bit (s.reg Reg.pwrInputs) 1 = true
  · rw [hbat] at hex ⊢
    refine runs_of_exec rfl hex fun hm => ⟨b3.trans h1, b4.trans h2, ?_, fun n hn => ?_, b1, (h5.mono (by simp)).trans (b2.mono (by simp)), hm⟩
    · show bit ((u.toBraced _).reg _) 2 = true
      rwa [b2 _ (by simp)]
    · exact (congrArg PscSt.braced (psc_of_pscs b5 n)).trans (h4 n hn)
  · rw [Bool.not_eq_true] at hbat
    rw [hbat] at hex ⊢
    exact runs_of_exec rfl hex fun hm => ⟨h1, h2, h3, h4, (h5 _ (by simp)).trans hb, h5.mono (by simp), hm⟩
theorem policy_waits {k : Nat} (hp : s.brace.policyAt = some k) (hk : s.tick < k) : exec .bracePolicyApply s = .next s := (exec_policy hp).trans (if_pos (.inl hk))
theorem policy_idle (h : s.brace.policyAt = none ∨ s.reg Reg.braceState ≠ 1) : exec .bracePolicyApply s = .next s := by
  cases hp : s.brace.policyAt with
  | none =>
    show execBracePolicyApply s = _
    unfold execBracePolicyApply
    rewrite [hp]
    rfl
  | some k => exact (exec_policy hp).trans (if_pos (.inr (h.resolve_left (by rw [hp]; simp))))
theorem runs_battMissing {now : Nat} (hb : s.reg Reg.braceState = 1) (hbat : bit (s.reg Reg.pwrInputs) 1 = false) (hn : s.brace.at_ + 1000000 ≤ now) :
    Runs (.battMissing now) s fun t => t.reg Reg.braceState = 2 ∧ bit (t.reg Reg.pwrInputs) 3 = true ∧ SameRegs s t [Reg.pwrInputs, Reg.braceState] ∧ SameMem s t := by
  have hneg : ¬(s.reg Reg.braceState ≠ 1 ∨ now < s.brace.at_ + 1000000 ∨ bit (s.reg Reg.pwrInputs) 1 = true) := by
    rw [hbat]
    simp [hb, hn]
  have hex : exec (.battMissing now) s = .next (((s.orReg Reg.pwrInputs (2 ^ 3)).logKeep 0x0105 2 ((s.orReg Reg.pwrInputs (2 ^ 3)).nat Reg.pwrInputs) 0).toBraced now) :=
    if_neg hneg
  have hbit : bit (((s.orReg Reg.pwrInputs (2 ^ 3)).logKeep 0x0105 2 ((s.orReg Reg.pwrInputs (2 ^ 3)).nat Reg.pwrInputs) 0).reg Reg.pwrInputs) 3 = true :=
    bit_orReg s Reg.pwrInputs 3
  have hset : SameRegs s ((s.orReg Reg.pwrInputs (2 ^ 3)).logKeep 0x0105 2 ((s.orReg Reg.pwrInputs (2 ^ 3)).nat Reg.pwrInputs) 0) [Reg.pwrInputs] :=
    SameRegs.trans (t := s.orReg Reg.pwrInputs (2 ^ 3)) (.setReg (by simp) _) (sameRegs_of_regs rfl _)
  generalize (s.orReg Reg.pwrInputs (2 ^ 3)).logKeep 0x0105 2 ((s.orReg Reg.pwrInputs (2 ^ 3)).nat Reg.pwrInputs) 0 = u at *
  obtain ⟨b1, b2, -, -, -⟩ := toBraced_shows u now
  refine runs_of_exec rfl hex fun hm => ⟨b1, ?_, (hset.mono (by simp)).trans (b2.mono (by simp)), hm⟩
  rwa [b2 _ (by simp)]

/-! The return (R499, R501). -/

/-- The channels leave brace. -/
def unbraced (s : State) : State :=
  ((((s.setReg Reg.braceState 3).pscUnbrace).setReg Reg.pwrInputs (clearBit (s.reg Reg.pwrInputs) 2)).modBrace fun b => { b with unbraceAt := none }).logEvent
    0x0106 0 16 (s.nat Reg.braceCount) 0
theorem unbraced_shows (s : State) : (unbraced s).reg Reg.braceState = 3 ∧ bit ((unbraced s).reg Reg.pwrInputs) 2 = false ∧
    (unbraced s).brace.unbraceAt = none ∧ (∀ n < 64, ((unbraced s).psc n).braced = false) ∧ SameRegs s (unbraced s) [Reg.pwrInputs, Reg.braceState] := by
  have h1 : (s.setReg Reg.braceState 3).reg Reg.braceState = 3 := reg_setReg_same _ _ _
  have h2 : SameRegs s (s.setReg Reg.braceState 3) [Reg.pwrInputs, Reg.braceState] := .setReg (by simp) _
  unfold unbraced
  generalize s.setReg Reg.braceState 3 = u at *
  have h3 := pscUnbrace_only u
  have h4 : ∀ n < 64, (u.pscUnbrace.psc n).braced = false := fun n hn => pscUnbrace_all u hn
  have h5 : SameRegs u u.pscUnbrace [Reg.pwrInputs, Reg.braceState] := fun r _ => h3.regs r not_false
  have h6 : u.pscUnbrace.reg Reg.braceState = u.reg Reg.braceState := h3.regs _ not_false
  generalize u.pscUnbrace = v at *
  have h7 : (v.setReg Reg.pwrInputs (clearBit (s.reg Reg.pwrInputs) 2)).reg Reg.pwrInputs = clearBit (s.reg Reg.pwrInputs) 2 := reg_setReg_same _ _ _
  have h8 : SameRegs v (v.setReg Reg.pwrInputs (clearBit (s.reg Reg.pwrInputs) 2)) [Reg.pwrInputs] := .setReg (by simp) _
  have h9 : ∀ n < 64, ((v.setReg Reg.pwrInputs (clearBit (s.reg Reg.pwrInputs) 2)).psc n).braced = false := h4
  generalize v.setReg Reg.pwrInputs (clearBit (s.reg Reg.pwrInputs) 2) = w at *
  refine ⟨(h8 _ (by simp)).trans (h6.trans h1), ?_, rfl, h9, h2.trans (h5.trans (SameRegs.trans (h8.mono (by simp)) (sameRegs_of_regs rfl _)))⟩
  show bit (w.reg Reg.pwrInputs) 2 = false
  rw [h7]
  exact bit_clearBit _ 2
/-- Have the return's conditions held long enough. -/
def returnDue (s : State) (now : Nat) : Bool := match s.brace.from_ with | some f => decide (f + 250000 ≤ now) | none => false
/-- An unbrace without a boundary of its own. -/
def unbraceHere (s : State) (now : Nat) : Host.Outcome State Fault Refusal :=
  if (!returnDue s now) = true ∨ s.bracedByA = true then .next s
  else if s.braceTick s.tick = s.tick then .next (unbraced s)
  else .next ((s.modBrace fun b => { b with unbraceAt := some (s.braceTick s.tick) }).sendBrace (s.braceTick s.tick) 3)
theorem exec_unbrace_at {now k : Nat} (hb : s.reg Reg.braceState = 2) (hu : s.brace.unbraceAt = some k) :
    exec (.unbrace now) s = if k ≤ s.tick then .next (unbraced s) else .next s := by
  show execUnbrace now s = _
  unfold execUnbrace
  extract_lets due go
  rewrite [if_neg (not_not_intro hb), hu]
  rfl
theorem exec_unbrace_none {now : Nat} (hb : s.reg Reg.braceState = 2) (hu : s.brace.unbraceAt = none) : exec (.unbrace now) s = unbraceHere s now := by
  show execUnbrace now s = _
  unfold execUnbrace
  extract_lets due go
  rewrite [if_neg (not_not_intro hb), hu]
  rfl
theorem returnDue_some {k now : Nat} (hf : s.brace.from_ = some k) : returnDue s now = decide (k + 250000 ≤ now) := by
  unfold returnDue
  rw [hf]
theorem returnDue_none {now : Nat} (hf : s.brace.from_ = none) : returnDue s now = false := by
  unfold returnDue
  rw [hf]
theorem unbrace_idle {now : Nat} (h : s.reg Reg.braceState ≠ 2 ∨ (s.brace.unbraceAt = none ∧ (s.brace.from_ = none ∨ s.bracedByA = true))) :
    exec (.unbrace now) s = .next s := by
  by_cases hb : s.reg Reg.braceState = 2
  · obtain ⟨hu, hf⟩ := h.resolve_left (not_not_intro hb)
    rw [exec_unbrace_none hb hu]
    refine if_pos (hf.imp_left fun hf => ?_)
    rw [returnDue_none hf]
    rfl
  · exact if_pos hb
theorem runs_unbraced {now : Nat} (hex : exec (.unbrace now) s = .next (unbraced s)) : Runs (.unbrace now) s fun t => t.reg Reg.braceState = 3 ∧
    bit (t.reg Reg.pwrInputs) 2 = false ∧ t.brace.unbraceAt = none ∧ (∀ n < 64, (t.psc n).braced = false) ∧ SameRegs s t [Reg.pwrInputs, Reg.braceState] ∧ SameMem s t := by
  obtain ⟨h1, h2, h3, h4, h5⟩ := unbraced_shows s
  exact runs_of_exec rfl hex fun hm => ⟨h1, h2, h3, h4, h5, hm⟩
theorem unbrace_early {k now : Nat} (hb : s.reg Reg.braceState = 2) (hf : s.brace.from_ = some k) (hu : s.brace.unbraceAt = none) (hk : now < k + 250000) : exec (.unbrace now) s = .next s := by
  rw [exec_unbrace_none hb hu]
  refine if_pos (.inl ?_)
  rw [returnDue_some hf, decide_eq_false (Nat.not_le.mpr hk)]
  rfl
section
variable {k now : Nat} (hb : s.reg Reg.braceState = 2) (hf : s.brace.from_ = some k) (hu : s.brace.unbraceAt = none) (ha : s.bracedByA = false)
include hb hf hu ha

theorem unbrace_due (hk : k + 250000 ≤ now) : exec (.unbrace now) s = if s.braceTick s.tick = s.tick then .next (unbraced s)
    else .next ((s.modBrace fun b => { b with unbraceAt := some (s.braceTick s.tick) }).sendBrace (s.braceTick s.tick) 3) := by
  rw [exec_unbrace_none hb hu]
  refine if_neg ?_
  rw [returnDue_some hf, decide_eq_true hk, ha]
  decide
theorem runs_unbraceLeads (ht : s.braceTick s.tick ≠ s.tick) (hk : k + 250000 ≤ now) : Runs (.unbrace now) s fun t =>
    t.brace.unbraceAt = some (s.braceTick s.tick) ∧ SameRegs s t [] ∧ SameMem s t := by
  have hex := (unbrace_due hb hf hu ha hk).trans (if_neg ht)
  have hs := sendBrace_only (s.modBrace fun b => { b with unbraceAt := some (s.braceTick s.tick) }) (s.braceTick s.tick) 3
  exact runs_of_exec rfl hex fun hm => ⟨(congrArg BraceSt.unbraceAt hs.view :), fun r _ => hs.regs r not_false, hm⟩
end
theorem runs_unbraceComplete {now : Nat} (hb : s.reg Reg.braceState = 3) (hg : s.pscGbHome = true) : Runs (.unbraceComplete now) s fun t =>
    t.reg Reg.braceState = 0 ∧ t.brace.normalAt = now ∧ SameRegs s t [Reg.pwrInputs, Reg.braceState] ∧ SameMem s t := by
  have hn : ¬(s.reg Reg.braceState ≠ 3 ∨ (!s.pscGbHome) = true) := by
    rw [hg]
    simp [hb]
  have hex : exec (.unbraceComplete now) s = .next (((s.setReg Reg.braceState 0).setReg Reg.pwrInputs (clearBit (s.reg Reg.pwrInputs) 3)).modBrace fun b =>
    { b with normalAt := now }) := if_neg hn
  have h1 : ((s.setReg Reg.braceState 0).setReg Reg.pwrInputs (clearBit (s.reg Reg.pwrInputs) 3)).reg Reg.braceState = 0 :=
    (reg_setReg_other _ _ _ _ (by simp)).trans (reg_setReg_same _ _ _)
  have h2 : SameRegs s ((s.setReg Reg.braceState 0).setReg Reg.pwrInputs (clearBit (s.reg Reg.pwrInputs) 3)) [Reg.pwrInputs, Reg.braceState] :=
    SameRegs.trans (.setReg (by simp) _) (.setReg (by simp) _)
  generalize (s.setReg Reg.braceState 0).setReg Reg.pwrInputs (clearBit (s.reg Reg.pwrInputs) 3) = u at *
  exact runs_of_exec rfl hex fun hm => ⟨h1, rfl, h2.trans (sameRegs_of_regs rfl _), hm⟩

end

/-- Settles O60: cautions, brace and fails by what each writes of the supply, the sequence by its steps and the channels that brace reaches. -/
theorem supplyAndBrace : Obligations.SupplyAndBrace := by
  rintro r now _ s rfl
  refine ⟨fun th b hb => ⟨runs_railCaution hb, runs_railCaution_again hb, runs_railCautionClear hb⟩, runs_railBrace, runs_railBrace_again, fun h => if_pos h, runs_railBraceClear,
    fun hr => ?fails, runs_keepFail, ?above, fun th => runs_failUnpairs, runs_failClear (.inl rfl), runs_failClear (.inr rfl),
    fun tenths => ⟨runs_junctionCaution, runs_junctionAgain, runs_junctionClear⟩, fun level h => if_pos h, runs_mainFalls_again, runs_mainFalls, runs_mainRises,
    runs_battOff, runs_battOn, fun k hp hb => ⟨runs_policyApply hp hb, policy_waits hp⟩, policy_idle, fun h => if_pos (h.imp_right .inr),
    fun hb hbat => ⟨runs_battMissing hb hbat, fun h => if_pos (.inr (.inl h))⟩, fun k hb hf hu ha ht hk => runs_unbraceLeads hb hf hu ha ht hk, unbrace_idle,
    fun k hb hu => ⟨fun hk => runs_unbraced ((exec_unbrace_at hb hu).trans (if_pos hk)), fun hk => (exec_unbrace_at hb hu).trans (if_neg (Nat.not_le.mpr hk))⟩,
    fun k hb hf hu ha ht => ⟨fun hk => ?here, unbrace_early hb hf hu⟩, fun hb => ⟨runs_unbraceComplete hb, fun h => if_pos (.inr (by rw [h]; rfl))⟩, fun h => if_pos (.inl h)⟩
  case fails =>
    obtain ⟨t, hex, h1, h2, h3, h4, h5⟩ := runs_railFail (s := s) (r := r) (now := now) (th := 2) (.inl rfl) fun h => hr h.2
    exact ⟨t, hex, h1, h2, h3 hr, h4, h5⟩
  case above =>
    obtain ⟨t, hex, h1, h2, -, h4, h5⟩ := runs_railFail (s := s) (r := r) (now := now) (th := 4) (.inr rfl) fun h => absurd h.1 (by decide)
    exact ⟨t, hex, h1, h2, h4, h5⟩
  case here =>
    obtain ⟨t, hex, h1, h2, -, h4, h5, h6⟩ := runs_unbraced ((unbrace_due hb hf hu ha hk).trans (if_pos ht))
    exact ⟨t, hex, h1, h2, h4, h5, h6⟩

end Sys2Proof.Machine
end
